-- ==== Sys2Proof/Word.lean ====
section
/-!
DEFINITION. The words of the register pages (R33) and the bytes of frames, records and message RAM (R11).
-/

namespace Sys2Proof

/-- A 32-bit register value. -/
abbrev Word := BitVec 32

/-- A byte of a frame, a record, an image or a RAM. -/
abbrev Byte := BitVec 8

end Sys2Proof
end

