-- ==== Sys2Proof/Syntax.lean ====
section
/-!
DEFINITION. The commands of the module: what a requester, a line, a bus, the partner, a pin, a supply or a timer of its own
does to it. Each command is one row of the spec's table of operations and events.
-/

namespace Sys2Proof

/-- The four requesters of page accesses (R33). -/
inductive Requester where
  | host
  | firmware
  | periscope
  | testAccess
deriving DecidableEq, Repr

/-- The requester's code in PG_LOCK.OWNER. -/
def Requester.code : Requester → Nat
  | .host => 0
  | .firmware => 1
  | .periscope => 2
  | .testAccess => 3

/-- The two backbone lines. -/
inductive Line where
  | a
  | b
deriving DecidableEq, Repr

/-- 0 for line A, 1 for line B. -/
def Line.idx : Line → Nat
  | .a => 0
  | .b => 1

/-- The other line. -/
def Line.other : Line → Line
  | .a => .b
  | .b => .a

/-- The four backbone ports. -/
inductive BPort where
  | la1
  | la2
  | lb1
  | lb2
deriving DecidableEq, Repr

/-- The line of a port. -/
def BPort.line : BPort → Line
  | .la1 => .a
  | .la2 => .a
  | .lb1 => .b
  | .lb2 => .b

/-- 0 for port 1 of a line, 1 for port 2. -/
def BPort.side : BPort → Nat
  | .la1 => 0
  | .la2 => 1
  | .lb1 => 0
  | .lb2 => 1

/-- 0 to 3: LA1, LA2, LB1, LB2. -/
def BPort.idx (p : BPort) : Nat := 2 * p.line.idx + p.side

/-- The other port of the same line. -/
def BPort.opposite : BPort → BPort
  | .la1 => .la2
  | .la2 => .la1
  | .lb1 => .lb2
  | .lb2 => .lb1

/-- The port of a line by its side. -/
def Line.port (l : Line) (second : Bool) : BPort :=
  match l, second with
  | .a, false => .la1
  | .a, true => .la2
  | .b, false => .lb1
  | .b, true => .lb2

/-- The port of the other line on the same side. -/
def BPort.across (p : BPort) : BPort := p.line.other.port (p.side == 1)

/-- A native frame (R137): the fields of its header, its reserved bits in header order (5, 7, 4 and 4 of them), HCRC as received, and
its payload. -/
structure NFrame where
  ver : Nat
  cls : Nat
  line : Line
  beam : Bool
  epn : Bool
  epoch : Nat
  src : Nat
  atype : Nat
  dst : Nat
  flow : Nat
  seq : Nat
  len : Nat
  rsv : Nat
  hcrc : Nat
  payload : List Byte
deriving DecidableEq, Repr

/-- An IEEE 802.3 frame (R136, R141, R160): addresses, tag (PCP, VID), R-TAG sequence number, type and payload. -/
structure EthFrame where
  dst : Nat
  src : Nat
  tag : Option (Nat × Nat)
  rtag : Option Nat
  etype : Nat
  payload : List Byte
deriving DecidableEq, Repr

/-- What a receiver sees beside a frame's fields: whether its FCS is right, and whether the filtered claim line reads
low. -/
structure FrameSigns where
  fcsOk : Bool
  claimLow : Bool
deriving DecidableEq, Repr

/-- The TRDP message types of R158: process data, its requests, replies and errors, and message data. -/
inductive TrdpType where
  | pd
  | pr
  | pp
  | pe
  | message
deriving DecidableEq, Repr

/-- What a consist port parses of a TRDP frame (R158): whether its packet is IPv4 with a 20-byte header, unfragmented, with one tag at
most; the source address; the destination port; whether it is UDP (or TCP); whether its UDP checksum is right or 0; the length of its
UDP payload; the TRDP header; and the dataset. -/
structure PdFrame where
  ipOk : Bool
  srcIp : Nat
  port : Nat
  udp : Bool
  sumOk : Bool
  udpLength : Nat
  type : TrdpType
  major : Nat
  hfcsOk : Bool
  comId : Nat
  seqCount : Nat
  etbTopo : Nat
  opTopo : Nat
  datasetLength : Nat
  dataset : List Byte
deriving DecidableEq, Repr

/-- A TRDP packet on a consist port: its frame, whether the frame's FCS is right, and what the island parses of it (R158). -/
structure PdPacket where
  eth : EthFrame
  fcsOk : Bool
  pd : PdFrame
deriving DecidableEq, Repr

/-- A beam frame as it stands on a line (R129, R130): bytes 1, 2, 3 to 4, 5 to 6 and 7 of its header block, its data bytes, and bytes 0 to
3 of its trailer block. -/
structure BeamFrame where
  magic : Nat
  kld : Nat
  owner : Nat
  nblk : Nat
  hchk : Nat
  data : List Byte
  fcs : Nat
deriving DecidableEq, Repr

/-- Bytes 1 to 6 of a beam frame's header block (R129). -/
structure BeamHead where
  magic : Nat
  kld : Nat
  owner : Nat
  nblk : Nat
deriving DecidableEq, Repr

/-- What follows them: byte 7 of the header block, the data bytes, and bytes 0 to 3 of the trailer block (R129, R130). -/
structure BeamBody where
  hchk : Nat
  data : List Byte
  fcs : Nat
deriving DecidableEq, Repr

/-- The beam frame of these parts. -/
def BeamHead.frame (h : BeamHead) (hchk : Nat) (data : List Byte) (fcs : Nat) : BeamFrame :=
  ⟨h.magic, h.kld, h.owner, h.nblk, hchk, data, fcs⟩

def BeamFrame.head (b : BeamFrame) : BeamHead := ⟨b.magic, b.kld, b.owner, b.nblk⟩

def BeamFrame.body (b : BeamFrame) : BeamBody := ⟨b.hchk, b.data, b.fcs⟩

/-- An entry of a TTDP topology that firmware writes into TOP (R108). -/
structure TtdpNode where
  serial : Nat
  vtag : Nat
  fwd : Bool
  tpos : Bool
deriving DecidableEq, Repr

/-- An IEEE 802.1AS message received on a consist port (R241). -/
inductive GptpMsg where
  | announce
  | pdelayReq (seq : Nat)
  /-- The response that completes an exchange of this node: the link delay in ns. -/
  | pdelayResp (delay : Nat) (capable : Bool)
  | other
deriving DecidableEq, Repr

/-- A CAN frame (R205, R208): its identifier and format bits, its DLC and its data bytes. -/
structure CanFrame where
  ide : Bool
  rtr : Bool
  fdf : Bool
  brs : Bool
  esi : Bool
  id : Nat
  dlc : Nat
  data : List Byte
deriving DecidableEq, Repr

/-- How a transmission attempt ends (R208, R217). -/
inductive CanTxEnd where
  /-- Acknowledged. -/
  | sent
  /-- Another node won arbitration. -/
  | lost
  /-- An error, coded as AERR; whether in the data phase of a frame with BRS; the field (0 control, 1 data, 2 CRC; none: another);
  whether the standard exempts it from counting; how many times the standard counts 8 more for dominant bits after the flag. -/
  | error (kind : Nat) (dataPhase : Bool) (field : Option Nat) (exempt : Bool) (more : Nat)
deriving DecidableEq, Repr

/-- A transmission attempt's end, the loop delay that the channel measured in it (R196), and the filter elements of the frame's own
reception that have an uncorrected error (R203). -/
structure CanTxReport where
  how : CanTxEnd
  loop : Option Nat
  ue : List Nat
deriving DecidableEq, Repr

/-- An access to the pair MDATA: a write or a read, and whether the word that it reads has an uncorrected error (R202, R203). -/
structure RamAccess where
  write : Bool
  ue : Bool
deriving DecidableEq, Repr

/-- A frame that reaches SGW (R166): in a flow context, or in the head slot of a gateway-owned receive queue of a CAN channel. -/
inductive GwSource where
  | flow (ctx : Nat) (f : NFrame)
  | can (n q : Nat)
deriving DecidableEq, Repr

/-- A change that the ACTIVE reports in a mirror record (R264). RECSEQ and XDIG records follow from boundaries and passes. -/
inductive MirrorItem where
  | ctx (i : Nat)
  | payload (i : Nat)
  /-- A host or firmware transmit queue of a CAN channel completed a frame. -/
  | canq (n k : Nat)
  | tope
  | fw (data : List Byte)
deriving DecidableEq, Repr

/-- The doublewords of configuration space that the manual speaks of (R275, R277): Vendor and Device ID, Command, Revision ID and
Class Code, Subsystem IDs, MSI-X Message Control, PMCSR; or another one. -/
inductive CfgReg where
  | id
  | command
  | classRev
  | subsystem
  | msix
  | power
  /-- BAR `k`, or the Expansion ROM BAR as 6. -/
  | bar (k : Nat)
  /-- The doubleword of Interrupt Line and Interrupt Pin. -/
  | interrupt
  | other
deriving DecidableEq, Repr

/-- What resets the endpoint (R277). -/
inductive EndpointReset where
  | nPerst
  | hotReset
  | linkDown
  | flr
deriving DecidableEq, Repr

/-- What the sensors of HLT see (R410, R422): a die temperature (raw, in units of 0.125 °C) or a supply (in mV; outside its limit, it has
been so for 1 s), a die sensor that differs from the others, the SNR margin of a port (its pair and 0.25 dB units), a margin that has been
low for 10 s, a holdover of PLL_LINE that has lasted for 1 s. -/
inductive SensorAlarm where
  | temp (sensor value : Nat)
  | supply (sensor value : Nat)
  | differs (sensor : Nat)
  | margin (p : BPort) (pair value : Nat)
  | lowFor10s (p : BPort)
  | hold
deriving DecidableEq, Repr

/-- A failing cell that a march found (R416): SRAM memory, row, column group. -/
structure FailCell where
  mem : Nat
  row : Nat
  group : Nat
deriving DecidableEq, Repr

/-- The commands: one constructor per row of the table of operations and events. -/
inductive Instr where
  /-- REGISTER_WRITE (R17): A write to a register field that has no row of its own sets the field under its access code, subject to the lock and reserved-bit rules. -/
  | registerWrite (q : Requester) (off : Nat) (v : Word)
  /-- UNMAPPED_ACCESS (R32): An access to an unmapped page returns 0xFFFF_FFFF or is dropped, and raises the unmapped-access event and record. -/
  | unmappedAccess (q : Requester) (off : Nat) (write : Bool)
  /-- ACCESS_ERROR (R33): An access of the wrong width, alignment or byte enables is refused, ACC_ERR is set and an access-error record is written. -/
  | accessError (q : Requester) (off width : Nat) (write : Bool)
  /-- OFF_ISLAND_ACCESS (R37): An access to a page of an island that is off returns 0xFFFF_00nn or is dropped and counted in OFFWR_CNT. -/
  | offIslandAccess (q : Requester) (off : Nat) (write : Bool) (v : Word)
  /-- PAIR_LOW_READ (R34): A read of the low word of a 64-bit pair latches the high word for that requester. -/
  | pairLowRead (q : Requester) (off : Nat)
  /-- PAIR_HIGH_WRITE (R34): A write of the high word of a 64-bit pair is held for the requester's following low-word write. -/
  | pairHighWrite (q : Requester) (off : Nat) (v : Word)
  /-- PAIR_LOW_WRITE (R34): A write of the low word of a 64-bit pair updates all 64 bits at once with any held high word. -/
  | pairLowWrite (q : Requester) (off : Nat) (v : Word)
  /-- PAGE_UNLOCK (R44): A write of 0x0000_C0DE to PG_LOCK unlocks the page for the writer, or restores REMAIN when the owner writes it. -/
  | pageUnlock (q : Requester) (pg : Nat)
  /-- PAGE_RELOCK (R44): The owner writes a value other than the key to PG_LOCK and the page locks again. -/
  | pageRelock (q : Requester) (pg : Nat) (v : Word)
  /-- LOCK_TIMEOUT (R44): 1 ms after the unlocking write the page locks again. -/
  | lockTimeout (pg : Nat)
  /-- BLOCK_SRST (R42): A write of SRST = 1 starts a block reset that returns the block's engines and registers to their reset values. -/
  | blockSrst (q : Requester) (pg : Nat) (v : Word)
  /-- SRST_COMPLETE (R42): The block reset finishes within 2 µs and BUSY clears. -/
  | srstComplete (pg : Nat)
  /-- BLOCK_EN_WRITE (R41): A write of EN starts or stops the block's function, and is ignored in the safety pages. -/
  | blockEnWrite (q : Requester) (pg : Nat) (v : Word)
  /-- EVENT_FORCE (R47): A write to PG_EVT_FORCE sets the chosen bits of PG_EVT_RAW as if the events had occurred. -/
  | eventForce (q : Requester) (pg : Nat) (v : Word)
  /-- EVENT_CLEAR (R36): A W1C write clears event bits, unless hardware sets the same bit in the same cycle. -/
  | eventClear (q : Requester) (pg : Nat) (v hw : Word)
  /-- EVENT_AGGREGATE (R47): A change of PG_EVT_PEND propagates into the page summary and SYS_EVT_ISL within 200 ns. -/
  | eventAggregate (isl : Nat)
  /-- EOI (R49): A write of a vector number to SYS_EVT_EOI re-evaluates the vector and sends a further message if its aggregate is 1. -/
  | eoi (q : Requester) (v : Word)
  /-- MSIX_UNMASK (R287): A vector becomes sendable with its PBA bit set, so one message is sent and the bit clears. -/
  | msixUnmask (q : Requester) (vec : Nat) (v : Word)
  /-- LINE_OPEN_REQUEST (R57): Once every opening condition holds, the line interface requests the opening and SYS_BYP runs the opening sequence. -/
  | lineOpenRequest (l : Line)
  /-- OPENING_COMPLETE (R58): The PHY switches are sensed on, the line enters LISTEN and both ports start autonegotiation. -/
  | openingComplete (l : Line)
  /-- BYPASS_CLOSE (R58): A decision to close starts the break-before-make closing sequence of the line. -/
  | bypassClose (l : Line)
  /-- CLOSING_COMPLETE (R58): The bypass switches are sensed on, the line is continuous and the hold-off starts. -/
  | closingComplete (l : Line)
  /-- BYP_WDOG (R58): Open-request renewals stop for 1.0 ms to 1.2 ms and SYS_BYP closes the bypass on its own. -/
  | bypWdog (l : Line)
  /-- BYP_MISMATCH (R59): A sensed switch state differs from its drive for 2.0 ms, so MISMATCH is set and every drive of the line is removed. -/
  | bypMismatch (l : Line)
  /-- HOLDOFF_ELAPSED (R57): The hold-off after a closing elapses, which permits a new opening. -/
  | holdoffElapsed (l : Line)
  /-- FORCE_BYP (R61): A write of FORCE_BYP holds the line in BYPASS or permits it to open again. -/
  | forceByp (q : Requester) (l : Line) (v : Word)
  /-- CLR_LOCKOUT (R59): A write of CLR_LOCKOUT clears LOCKOUT, the MISMATCH hold and FAIL_CNT. -/
  | clrLockout (q : Requester) (l : Line) (v : Word)
  /-- RETRAIN (R53): A write of RETRAIN retrains both ports of an open line at MAXRATE. -/
  | retrain (q : Requester) (l : Line) (v : Word)
  /-- PORT_LINK_UP (R52): A backbone port completes training, reports its PHY latencies and link, and may trigger inauguration. -/
  | portLinkUp (p : BPort) (rate rx tx : Nat) (isMaster : Bool)
  /-- PORT_LINK_DOWN (R73): A backbone port loses link, becomes an end port and may trigger inauguration. -/
  | portLinkDown (p : BPort)
  /-- TRAIN_FAIL (R63): An expected port has no link for TRAIN_T, so the line closes, counts the failure and may lock out. -/
  | trainFail (l : Line)
  /-- FAIL_CNT_CLEAR (R63): Every expected port holds link for 10 s without a break, so FAIL_CNT returns to 0. -/
  | failCntClear (l : Line)
  /-- FAILSAFE (R65): A keep-alive from FAB or TOP is absent for 10 ms, so the line enters SLEEP with CAUSE 2 and closes. -/
  | failsafe (l : Line) (fab top : Bool)
  /-- FAILSAFE_RECOVER (R61): Both keep-alives are present for 100 ms after a fail-safe fall, so the line moves from SLEEP to BYPASS. -/
  | failsafeRecover (l : Line)
  /-- LINE_SRST (R453): An SRST of a LINE page closes an open bypass, resets the line interface and ends the hold-off. -/
  | lineSrst (q : Requester) (l : Line) (v : Word)
  /-- PORT_SRST (R454): An SRST of a port page resets the port's PHY and MAC, which drops an open line's link. -/
  | portSrst (q : Requester) (p : BPort) (v : Word)
  /-- BACKBONE_FRAME_RX (R66): A native frame received on a backbone port outside the window is checked, bridged and passed through dual-line duplicate discard. -/
  | backboneFrameRx (p : BPort) (pcp : Nat) (f : NFrame) (w : FrameSigns)
  /-- LDUP_AGE (R67): A duplicate key not seen for AGE is removed. -/
  | ldupAge (epoch src cls flow : Nat)
  /-- INAUG (R73): A write of INAUG in TOP_CMD raises a host-command trigger. -/
  | inaug (q : Requester) (v : Word)
  /-- CLR_HOLD (R75): A write of CLR_HOLD ends every flap hold-down and clears the flap counts. -/
  | clrHold (q : Requester) (v : Word)
  /-- FLAP_HOLD_END (R75): FLAP_HOLD elapses and the held-down port trains normally again. -/
  | flapHoldEnd (p : BPort)
  /-- LANTERN_LOSS_TRIGGER (R73): No lantern from the watched end node arrives for 3 cycles, so the node recognises a trigger. -/
  | lanternLossTrigger
  /-- REQUEST (R79): A received REQUEST or other class 2 frame of a later attempt makes the node discard its attempt and join the later one. -/
  | request (p : BPort) (f : NFrame)
  /-- JOIN (R82): A received JOIN marks that side of the line as taking part in the attempt. -/
  | join (p : BPort) (f : NFrame)
  /-- IDENT (R81): A received IDENT is recorded in the line view, relayed, and answered with the node's own IDENT when it came from the neighbour. -/
  | ident (p : BPort) (f : NFrame)
  /-- XIDENT (R84): A received XIDENT is recorded as line-M knowledge and relayed. -/
  | xident (p : BPort) (f : NFrame)
  /-- XEND (R84): A received XEND completes that side of the split line and is relayed. -/
  | xend (p : BPort) (f : NFrame)
  /-- SILENT (R82): No JOIN arrives on a linked side within IDENT_T, so the node treats the side as an end and starts a wave from it. -/
  | silent (p : BPort)
  /-- NUMBERING (R87): With the view complete, the node forms the ordered union and numbers nodes and vehicles within its bound. -/
  | numbering
  /-- READY (R89): The reference-end node receives the first READY, which permits it to commit. -/
  | ready (p : BPort) (f : NFrame)
  /-- COMMIT_INSERT (R92): The reference-end node inserts COMMIT in its first sub-slot, or sends it outside the window, with K and LEAD. -/
  | commitInsert (lead : Nat)
  /-- COMMIT (R93): A received COMMIT is checked against the node's shadow digest and sets its flip time, or is kept until numbering completes. -/
  | commit (p : BPort) (f : NFrame)
  /-- FLIP (R94): At cycle K or after LEAD the node switches epoch, identity tables, contexts, sub-slots and line states in one TOP clock cycle. -/
  | flip
  /-- COMMIT_MISS (R95): No usable COMMIT arrives within COMMIT_T after numbering, so the node keeps its numbering and raises a retry trigger. -/
  | commitMiss
  /-- GRACE_END (R96): The fourth cycle boundary after the flip, or ETB_GRACE, ends the grace and previous-epoch keys are freed. -/
  | graceEnd
  /-- BIND_WRITE (R102): A WRITE in TOP_TBL_CMD stores a bind entry and resolves it against the current numbering, or is refused with BIND_BUSY. -/
  | bindWrite (q : Requester) (v : Word)
  /-- TTDP_TOPOLOGY_CHANGE (R108): In ETB compatibility mode a TTDP inauguration that changes the topology counter is written into TOP and flipped at the next boundary. -/
  | ttdpTopologyChange (topo own : Nat) (nodes : List TtdpNode)
  /-- INHIBIT (R107): A write of INHIBIT requests inauguration inhibition from this ETBN. -/
  | inhibit (q : Requester) (v : Word)
  /-- CYCLE_BOUNDARY (R452): The node's backbone cycle boundary is reached, locked or free-running, and the boundary actions run. -/
  | cycleBoundary (claimLow : Bool) (canWake : Nat)
  /-- WINDOW_OPEN (R114): A direction's window opens at the node, which originates the marker or transits blocks and inserts only in its own sub-slots. -/
  | windowOpen (x : BPort) (intrude guardErr : Option Nat)
  /-- MARKER (R117): A received marker is compared with its prediction and tracked, handled as a step or cut at the span edge. -/
  | marker (x : BPort) (arrival : Nat) (head : BeamHead) (hchk : Nat) (data : List Byte) (fcs : Nat)
  /-- MARKER_MISSING (R118): No valid marker arrives inside the transit span, so the node keeps its phase and counts a miss. -/
  | markerMissing (x : BPort) (guardErr : Option Nat)
  /-- PROBE_SEND (R116): Every DLY_PER cycles each port of an open line sends a probe after its transit span. -/
  | probeSend (p : BPort) (tTx : Nat)
  /-- PROBE (R116): A received probe is consumed and the port computes its link delay and cumulative delay. -/
  | probe (p : BPort) (tRx : Nat) (head : BeamHead) (hchk : Nat) (data : List Byte) (fcs : Nat)
  /-- BEAM_FRAME_RX (R121): Stage 2 collects a beam frame; one that passes its checks goes to FAB and a failed one is counted. -/
  | beamFrameRx (p : BPort) (pos : Nat) (head : BeamHead) (body : BeamBody) (claimLow : Bool)
  /-- ARM (R110): A write of ARM = 1 arms the switch of the pending slot set at TOP_SLOT_APPLY_K, or is refused as LATE. -/
  | arm (q : Requester) (v : Word)
  /-- ETHERNET_FRAME_RX (R141): A frame without FAB_ETYPE is bridged under IEEE 802.1Q with learning and flooding. -/
  | ethernetFrameRx (port : Nat) (f : EthFrame) (w : FrameSigns)
  /-- FRAME_TRANSMIT (R153): An egress port starts the highest-class queued frame that fits before its gate closes and before the transit span. -/
  | frameTransmit (port : Nat) (late : Nat) (free : Bool)
  /-- FDB_AGE (R141): A learned address reaches AGE and is removed from the address table. -/
  | fdbAge (mac vid : Nat)
  /-- FLUSH (R141): A write of FLUSH empties the address table. -/
  | flush (q : Requester) (v : Word)
  /-- FLOW_WRITE (R147): A WRITE in FAB_FLOW_CMD writes a whole context between two lookups, or refuses it with a STATUS. -/
  | flowWrite (q : Requester) (v : Word)
  /-- FLOW_READ (R147): A READ in FAB_FLOW_CMD loads a context into FAB_FLOW_DATA. -/
  | flowRead (q : Requester) (v : Word)
  /-- CLRCNT (R144): A write of CLRCNT clears a context's counters. -/
  | clrcnt (q : Requester) (v : Word)
  /-- EXPIRE (R149): The validity scan finds MONO − LAST_RX above TIMEOUT, so the context expires and its owner is signalled. -/
  | expire (ctx : Nat)
  /-- SWAP (R154): A write of SWAP schedules the selected port's pending gate list for the next cycle boundary. -/
  | swap (q : Requester) (v : Word)
  /-- BANK_POOL_WRITE (R156): A write of a packet-buffer bank's pool marks the bank MOVING until its cells are free. -/
  | bankPoolWrite (q : Requester) (hi : Bool) (v : Word)
  /-- BANK_MOVED (R156): A moving bank's last cell is freed and the bank joins its new pool. -/
  | bankMoved (bank : Nat)
  /-- CP_LINK_CHG (R157): A consist port's link goes up or down. -/
  | cpLinkChg (port : Nat) (up fast : Bool)
  /-- PD_FRAME_RX (R159): A TRDP Pd frame is parsed, checked and matched to a ComId entry that feeds its context. -/
  | pdFrameRx (port : Nat) (f : PdPacket)
  /-- COMID_WRITE (R159): A write of CDATA3 commits a ComId entry, or refuses a transmit entry with a unicast IP. -/
  | comidWrite (q : Requester) (h : Nat) (v : Word)
  /-- CB_RECOVERY_RESET (R160): A stream receives no frame for RECOV_T and its recovery state resets. -/
  | cbRecoveryReset (stream : Nat)
  /-- CBDUP_STREAM_WRITE (R160): A write of MAC_LO commits a stream entry of FAB_CBDUP. -/
  | cbdupStreamWrite (q : Requester) (v : Word)
  /-- INPUT_ARRIVAL (R167): A frame arrives at a gateway input and is written into a free half, which becomes latest. -/
  | inputArrival (src : GwSource)
  /-- INP_EXPIRE (R168): A CAN input receives no frame for its TIMEOUT and is marked EXPIRED. -/
  | inpExpire (inp : Nat)
  /-- PASS_START (R179): PASS_OFS after a qualifying cycle boundary a gateway pass starts, or is skipped as OVERRUN. -/
  | passStart
  /-- PASS_DONE (R180): A pass ends, writes recipe headers, releases halves and submits or hands over the recipes. -/
  | passDone (dur : Nat) (ueEntries ueSources : List Nat)
  /-- STALL (R182): No pass completes for STALL_N cycles, so STALL is raised. -/
  | stall
  /-- IMAGE_WRITE (R183): A host write of an image word through SGW_IMG takes effect atomically between two entries. -/
  | imageWrite (q : Requester) (hi lo : Word)
  /-- MAP_ENTRY_WRITE (R185): A write of SGW_MAP_DATA3 stores a map entry in the shadow bank, or is dropped as ACTIVE or BUSY. -/
  | mapEntryWrite (q : Requester) (v : Word)
  /-- MAP_READ (R185): A READ in SGW_MAP_CMD loads a map entry of either bank. -/
  | mapRead (q : Requester) (v : Word)
  /-- RCP_ENTRY_WRITE (R185): A write of SGW_RCP_DATA3 stores an input or recipe entry in the shadow bank, or is dropped. -/
  | rcpEntryWrite (q : Requester) (v : Word)
  /-- RCP_READ (R185): A READ in SGW_RCP_CMD loads an input or recipe entry. -/
  | rcpRead (q : Requester) (v : Word)
  /-- FLIP_REQUEST (R186): A write of FLIP = 1 starts validation of the shadow bank. -/
  | flipRequest (q : Requester) (v : Word)
  /-- VALIDATION_DONE (R186): Validation ends and either accepts the bank with FLIP_PEND or refuses it naming the first fault. -/
  | validationDone
  /-- CANCEL (R187): A write of CANCEL withdraws a pending flip. -/
  | cancel (q : Requester) (v : Word)
  /-- CHANNEL_START (R195): A CAN channel starts, checks its held bit timing and runs, or stays stopped with CFG_ERR. -/
  | channelStart (n : Nat)
  /-- MODE_WRITE (R198): A write of MODE requests a new effective mode of the channel. -/
  | modeWrite (q : Requester) (n : Nat) (v : Word)
  /-- MODE_CHG (R199): At the first idle moment the channel enters its new effective mode after integration. -/
  | modeChg (n : Nat)
  /-- CAN_FRAME_RX (R214): A valid CAN frame is filtered and stored in its receive queues. -/
  | canFrameRx (n : Nat) (f : CanFrame) (ago : Nat) (ue : List Nat)
  /-- CAN_TX_ATTEMPT (R211): At the start of arbitration the channel offers a due reference message or the winning queue head. -/
  | canTxAttempt (n : Nat) (ue : List Nat)
  /-- CAN_TX_END (R208): A transmission attempt ends in success or an error, and the frame completes or is retried. -/
  | canTxEnd (n : Nat) (e : CanTxReport)
  /-- BUSOFF_HOLD_END (R217): BOFF_HOLD after bus-off with BOFF_AUTO = 1 the recovery sequence starts. -/
  | busoffHoldEnd (n : Nat)
  /-- RECOVER (R217): A write of RECOVER starts bus-off recovery. -/
  | recover (q : Requester) (n : Nat) (v : Word)
  /-- BUSOFF_RECOVERED (R217): The recovery sequence completes and the channel becomes error-active. -/
  | busoffRecovered (n : Nat)
  /-- QUEUE_CONFIG_WRITE (R210): A write of a queue configuration enables, changes or withdraws the queue under the change rules. -/
  | queueConfigWrite (q : Requester) (n k : Nat) (v : Word)
  /-- QUEUE_POINTER_WRITE (R209): A write of a queue index register is checked against the module index and applied or ignored with PTR_ERR. -/
  | queuePointerWrite (q : Requester) (n k : Nat) (v : Word)
  /-- ABORT (R212): A write of ABORT completes the waiting frames of a transmit queue with CSTAT 2. -/
  | abort (q : Requester) (n : Nat) (v : Word)
  /-- REFERENCE_MESSAGE_DUE (R223): TRAIN_TIME reaches the due time of a time-master reference message, and an unsent previous one is dropped as LATE. -/
  | referenceMessageDue (n : Nat)
  /-- MDATA_ACCESS (R202): An access to MDATA through MSEL reads or writes a message-RAM word under the pair rule. -/
  | mdataAccess (q : Requester) (h : Nat) (a : RamAccess) (hi lo : Word)
  /-- TIME_FRAME_RX (R236): A usable time frame gives one servo update, a forward step or a slew, and may change the time state. -/
  | timeFrameRx (p : BPort) (f : NFrame)
  /-- HOLDOVER (R237): No usable time frame arrives for TF_MISS × TF_DIV cycles, so TIM enters HOLDOVER. -/
  | holdover
  /-- GM_CONFLICT_CLEAR (R230): After TF_MISS × TF_DIV cycles with one source GM_CONFLICT clears. -/
  | gmConflictClear
  /-- START (R237): A write of START moves TIM from UNSET to FREE with TRAIN_TIME := MONO. -/
  | start (q : Requester) (v : Word)
  /-- WOFS_COMMIT (R238): A write of the WOFS pair on the grandmaster commits a new offset for cycle WK, or is refused. -/
  | wofsCommit (q : Requester) (hi lo : Word)
  /-- GPTP_SYNC_SEND (R241): At each Sync interval an enabled consist port sends Sync and Follow_Up carrying WALL. -/
  | gptpSyncSend (port seq : Nat)
  /-- GPTP_ANNOUNCE_SEND (R241): At each Announce interval an enabled consist port sends Announce. -/
  | gptpAnnounceSend (port seq : Nat)
  /-- GPTP_PDELAY (R241): A consist port runs a peer-delay exchange and updates its link delay and asCapable. -/
  | gptpPdelay (port delay : Nat) (ok capable : Bool)
  /-- GPTP_MESSAGE_RX (R241): A received gPTP message is answered, used for link delay, or counted and discarded as Announce. -/
  | gptpMessageRx (port : Nat) (m : GptpMsg)
  /-- TS_CAPTURE_COPY (R243): A write of TIM_TS_SEL copies the latest capture of the chosen source as one set. -/
  | tsCaptureCopy (q : Requester) (v : Word)
  /-- MIRROR_LANTERN_SEND (R249): Every 20 µs a module sends a mirror lantern on the link. -/
  | mirrorLanternSend
  /-- MIRROR_LANTERN_RX (R251): A partner mirror lantern refreshes the mirror witness and carries role, claim and request state. -/
  | mirrorLanternRx (payload : List Byte)
  /-- BACKBONE_LANTERN_RX (R250): A partner backbone lantern refreshes the backbone witness for the cycle. -/
  | backboneLanternRx (p : BPort) (f : NFrame)
  /-- MIRROR_WITNESS_LOST (R252): No partner mirror lantern for 60 µs, so the mirror witness falls silent and the partner is judged. -/
  | mirrorWitnessLost (claimLow : Bool)
  /-- CLAIM_WAIT_END (R254): Position 1's 20 µs wait ends and it drives the claim line if it read high throughout, or defers. -/
  | claimWaitEnd (highThroughout : Bool)
  /-- CLAIM_STUCK (R257): The claim line reads stuck high or stuck low beyond its limit, so CLAIM_FAULT is set. -/
  | claimStuck (high : Bool)
  /-- CLAIM_LINE_TEST (R257): At its period and phase the module drives a 4 µs test pulse and checks the line. -/
  | claimLineTest (lowIn highAfter : Bool)
  /-- CLR_FAULT (R257): A write of CLR_FAULT clears CLAIM_FAULT pending the next test. -/
  | clrFault (q : Requester) (v : Word)
  /-- CONFIRM_REQ (R258): With CLAIM_FAULT standing a module asks its nearest outside neighbours to confirm the partner's failure, every 100 µs. -/
  | confirmReq
  /-- CONFIRM_REQ_RX (R258): A node answers a CONFIRM_REQ within 10 µs with the time since the partner's last lantern. -/
  | confirmReqRx (p : BPort) (f : NFrame)
  /-- CONFIRM (R258): A received CONFIRM confirms the failure or vetoes the takeover. -/
  | confirm (p : BPort) (f : NFrame) (claimLow : Bool)
  /-- CONF_T_EXPIRE (R258): No confirmation arrives within CONF_T, so the module takes no role and raises NO_TAKEOVER. -/
  | confTExpire
  /-- START_T_EXPIRE (R259): The partner stays invisible for START_T in role none, so the module claims under R254. -/
  | startTExpire (claimLow : Bool)
  /-- HANDOVER (R260): A write of HANDOVER on the ACTIVE proposes a handover at HK, or refuses it. -/
  | handover (q : Requester) (v : Word)
  /-- ISOLATE (R260): A write of ISOLATE isolates the module, after a handover attempt when ACTIVE. -/
  | isolate (q : Requester) (v : Word)
  /-- REJOIN (R259): A write of REJOIN moves an ISOLATED module to role none. -/
  | rejoin (q : Requester) (v : Word)
  /-- ADMIT (R261): A write of ADMIT on the ACTIVE grants a pending admission request. -/
  | admitPartner (q : Requester) (v : Word)
  /-- HANDOVER_DECLINED (R260): The partner does not accept a proposed handover within 4 cycles. -/
  | handoverDeclined
  /-- AUTO_HANDOVER_CAUSE (R260): MGT not READY for MGT_RET, health REPLACE or ELIG = 0 for START_T starts an automatic handover. -/
  | autoHandoverCause (cause : Nat)
  /-- MIRROR_LINK_UP (R262): Both lanes are block-locked and aligned and the mirror link is up. -/
  | mirrorLinkUp
  /-- LANE_DEGR (R262): A lane fails to lock for 10 ms, is dropped and the link runs on one lane. -/
  | laneDegr (second : Bool)
  /-- MIRROR_LINK_DOWN (R262): 1 ms without lock on every lane takes the mirror link down. -/
  | mirrorLinkDown
  /-- EPOCH_RECORD (R264): The ACTIVE writes a mirror record within 2 µs of a change it reports. -/
  | epochRecord (item : MirrorItem)
  /-- EREC_RX (R266): The standby buffers the records of a received EREC frame for its epoch. -/
  | erecRx (n : Nat) (payload : List Byte)
  /-- ECLOSE_RX (R266): A received ECLOSE is checked and the epoch committed within 25 µs, or discarded with a baseline request. -/
  | ecloseRx (n : Nat) (payload : List Byte)
  /-- EPOCH_MISMATCH (R266): A TOPE difference still stands 4 cycles after the standby's flip. -/
  | epochMismatch
  /-- BREC_RX (R267): A standby applies each received baseline record at once. -/
  | brecRx (n : Nat) (payload : List Byte)
  /-- BCLOSE_RX (R267): A received BCLOSE is checked; the standby sets SYNCED after the next committed epoch, or the baseline restarts. -/
  | bcloseRx (n : Nat) (payload : List Byte)
  /-- MIRROR_CRC_ERR (R263): A mirror frame with a failed CRC or reserved TYPE is discarded and counted. -/
  | mirrorCrcErr
  /-- ENDPOINT_RESET (R277): PCIE_nPERST, a hot reset, a link-down or an FLR resets every block of HBR and drops held periscope reads. -/
  | endpointReset (kind : EndpointReset)
  /-- PCIE_LINK_UP (R366): The PCIe link trains up once HBR is on, PCIE_nPERST is released and the reference is good. -/
  | pcieLinkUp (speed width : Nat)
  /-- CONFIG_REQUEST (R366): The endpoint completes a configuration request successfully without retry status. -/
  | configRequest (reg : CfgReg) (write : Option Word)
  /-- NOWIN (R280): A BAR2 access in no enabled window completes with Unsupported Request or is dropped, and counts. -/
  | nowin (off n : Nat) (write : Option (List Byte))
  /-- MESSAGE_RAM_WINDOW_ACCESS (R202): A BAR2 access in a message-RAM window reads or writes CAN message RAM under the byte-order mode. -/
  | messageRamWindowAccess (off n : Nat) (write : Option (List Byte)) (ue : Bool)
  /-- IWIN_ENABLE (R279): A write of EN = 1 to an inbound window enables it or refuses it with CFG_ERR. -/
  | iwinEnable (q : Requester) (n : Nat) (v : Word)
  /-- OWIN_ENABLE (R282): A write of EN = 1 to an outbound window enables it or refuses it with CFG_ERR. -/
  | owinEnable (q : Requester) (m : Nat) (v : Word)
  /-- RING_ENABLE (R283): A write of EN to a DMA ring enables it with indexes 0 or withdraws it after the frame in progress. -/
  | ringEnable (q : Requester) (r : Nat) (v : Word)
  /-- RING_PUT_WRITE (R283): A write of PUT hands descriptors to the module, or is ignored with PTR_ERR. -/
  | ringPutWrite (q : Requester) (r : Nat) (v : Word)
  /-- RX_RING_DELIVER (R285): A frame in a LOCAL queue is written into the next RX descriptor's buffer and completed. -/
  | rxRingDeliver (k : Nat) (mem : List (Nat × Byte))
  /-- TX_DESCRIPTOR (R286): The module processes a TX descriptor, submitting a payload or sending a frame, and completes it. -/
  | txDescriptor (mem : List (Nat × Byte)) (readError : Bool)
  /-- BME_CHANGE (R286): Bus Master Enable changes, which pauses or resumes every ring and the recorder stream. -/
  | bmeChange (on : Bool)
  /-- PERISCOPE_READ (R294): A host read through a periscope window sends a read request and stalls the host read. -/
  | periscopeRead (off n : Nat)
  /-- TIMEOUT (R295): TMO passes on a stalled read, which completes with 0xFFFF_FFFF and parks in the delayed-read buffer. -/
  | timeout (off : Nat)
  /-- PERISCOPE_RESPONSE_RX (R291): A received read, fence or side response is matched by tag and serial and completes its request. -/
  | periscopeResponseRx (f : NFrame)
  /-- DR_DISCARD (R296): A delayed-read entry not collected within COLLECT is discarded with a record. -/
  | drDiscard (e : Nat)
  /-- PERISCOPE_WRITE (R297): A host write through a periscope window is sent as a write request and completes at once. -/
  | periscopeWrite (off : Nat) (bytes : List Byte)
  /-- PWFAIL (R297): A received write failure notice becomes an entry of the posted-write error log. -/
  | pwfail (f : NFrame)
  /-- PWLOG_GET_WRITE (R297): A write of GET in PSC_PWLOG_PTR frees read log entries. -/
  | pwlogGetWrite (q : Requester) (v : Word)
  /-- PERISCOPE_REQUEST_RX (R292): A target receives a periscope request and queues it, or answers BUSY when the queue is full. -/
  | periscopeRequestRx (f : NFrame)
  /-- PERISCOPE_EXECUTE (R293): A request at the head of the target queue is checked against the access list and executed within 1 µs. -/
  | periscopeExecute
  /-- FENCE (R298): A write to PSC_FENCE sends a fence request behind the window's earlier writes. -/
  | fence (q : Requester) (v : Word)
  /-- FENCE_T_EXPIRE (R298): No fence response within FENCE_T sets STATE to TIMEOUT. -/
  | fenceTExpire
  /-- SIDE_POLL (R299): Every SIDE_PER PSC sends a side request for each enabled periscope window. -/
  | sidePoll
  /-- ACL_ENTRY_WRITE (R293): A write of ACLn_W1 brings an access-list entry into effect. -/
  | aclEntryWrite (q : Requester) (n : Nat) (v : Word)
  /-- PSC_WINDOW_ENABLE (R290): A write of EN = 1 to a periscope window enables it or refuses it with CFG_ERR. -/
  | pscWindowEnable (q : Requester) (p : Nat) (v : Word)
  /-- PROPOSE (R303): Firmware on the coordinator proposes a dusk for cycle N, which is accepted or refused with RESULT. -/
  | propose (q : Requester) (v : Word)
  /-- WITHDRAW (R309): Firmware withdraws the dusk before N − 16 and CANCEL is sent with CAUSE 4. -/
  | withdraw (q : Requester) (v : Word)
  /-- DUSK (R306): A received DUSK puts the node into DUSK or BYSTANDER for that dusk. -/
  | dusk (f : NFrame)
  /-- VETO (R307): A write of VETO raises a wake request of ORIGIN 2. -/
  | veto (q : Requester) (v : Word)
  /-- HOLD (R307): A write of HOLD or FWHOLD sets or clears a standing wake reason. -/
  | hold (q : Requester) (v : Word)
  /-- SLEEP_REQ (R305): A write of SLEEP_REQ sends a REQUEST sleep frame to vehicle 1. -/
  | sleepReq (q : Requester) (v : Word)
  /-- SLEEP_REQUEST_RX (R305): MGT on the coordinator receives a REQUEST frame and raises SLEEP_REQ. -/
  | sleepRequestRx (f : NFrame)
  /-- VETO_RX (R309): The coordinator accepts a VETO before its N − 16 and sends CANCEL, or counts a late one. -/
  | vetoRx (f : NFrame)
  /-- CANCEL_RX (R309): A received CANCEL with the ID in force returns the node to AWAKE and clears its dusk state. -/
  | cancelRx (f : NFrame)
  /-- DARK (R312): Nightfall completes, the main converter is off and the node is DARK with its detectors armed. -/
  | dark
  /-- MIN_DARK_TIME_END (R313): The minimum dark time ends, and a latched request wakes the node. -/
  | minDarkTimeEnd
  /-- WAKE_SOURCE (R316): An armed wake source acts in DARK, so the node records the cause and runs the wake start. -/
  | wakeSource (src chan : Nat)
  /-- DAWN_PULSE_INJECT (R317): Once its main converter is up the woken node injects a dawn pulse at its bypass on both lines. -/
  | dawnPulseInject
  /-- DAWN_SEND (R316): Once a line is in NORMAL the locally woken node sends DAWN in 4 consecutive cycles. -/
  | dawnSend
  /-- DAWN (R320): A write of DAWN in SYS_WAKE_CMD sends DAWN and relays a dawn pulse. -/
  | dawn (q : Requester) (v : Word)
  /-- DAWN_RX (R320): A new DAWN sequence makes the node relay dawn pulses out of qualifying ports. -/
  | dawnRx (f : NFrame)
  /-- PULSE_RX (R318): An awake node's detector counts a received dawn pulse. -/
  | pulseRx (l : Line)
  /-- ISO_WRITE (R322): A write of ISO isolates or releases a port facing a sleeping segment. -/
  | isoWrite (q : Requester) (v : Word)
  /-- KA_OK_FALL (R307): The keep-alive falls below 2.9 V, which is a wake request and a standing reason. -/
  | kaOkFall
  /-- FILTERED_EDGE (R325): A discrete input level passes the 100 µs glitch filter and restarts the debounce. -/
  | filteredEdge (inp : Nat) (level : Bool)
  /-- EDGE (R325): The filtered level holds for DEB ms, COND changes and the input acts. -/
  | edge (inp : Nat)
  /-- STUCK (R326): COND stays active for STUCK s and is masked inactive without an edge. -/
  | stuck (inp : Nat)
  /-- STUCK_RELEASE (R326): A stuck input's filtered level is inactive for DEB ms and the mask clears. -/
  | stuckRelease (inp : Nat)
  /-- CHAT (R327): A window of CHAT_WIN holds more than CHAT_N edges, so COND is frozen. -/
  | chat (inp : Nat)
  /-- CHAT_HOLD_END (R327): The chatter hold-off ends and COND takes the debounced level. -/
  | chatHoldEnd (inp : Nat)
  /-- DIN_CFG_WRITE (R325): A write of SYS_DIN_CFGi takes effect at once and restarts the debounce on a DEB change. -/
  | dinCfgWrite (q : Requester) (inp : Nat) (v : Word)
  /-- XO_QUAL (R330): The XO passes 262,144 qualifying cycles, and PLL_SYS and PLL_TIME move to it. -/
  | xoQual
  /-- XO_FAIL (R330): The XO is not qualified within 200 ms and the module stays on the IRO. -/
  | xoFail
  /-- SOURCE_FAILURE (R334): A monitor judges a monitored source failed and a clock-failure module reset follows within 1 µs. -/
  | sourceFailure (src : Nat)
  /-- SRC_LOSS (R335): A released source fails, which is counted and recorded, and its islands fall to the IRO. -/
  | srcLoss (src : Nat)
  /-- LINE_HOLD (R332): PLL_LINE loses its reference and enters holdover. -/
  | lineHold
  /-- LINE_REF_CHG (R332): PLL_LINE moves to another reference without a phase step. -/
  | lineRefChg (ref : Nat) (near : Bool)
  /-- PLL_LINE_LOCK (R332): PLL_LINE locks to its reference. -/
  | pllLineLock (ofs : Int)
  /-- RELEASE_WRITE (R335): A write of SYS_SRC_RELEASE releases a source or re-arms its monitor while it is good. -/
  | releaseWrite (q : Requester) (v : Word)
  /-- SRC_WRITE (R336): A write of SRC starts a source switch of the island, or is refused. -/
  | srcWrite (q : Requester) (isl : Nat) (v : Word)
  /-- SWITCH_DONE (R336): The island clock runs on the new source and CUR is updated. -/
  | switchDone (isl : Nat)
  /-- FORCED (R337): 64 cycles of the new source pass with the old source dead, so the multiplexer moves by force. -/
  | forced (isl : Nat)
  /-- XDROP (R339): A crossing word not taken within 2 µs is discarded and counted. -/
  | xdrop (isl count : Nat)
  /-- CLOCK_GATE_REQUEST (R340): A write of CLKREQ = 0 requests a gate of the block clock. -/
  | clockGateRequest (q : Requester) (pg : Nat) (v : Word)
  /-- GATED (R340): The block's bus goes idle and its clock gate closes. -/
  | gated (pg : Nat)
  /-- GATE_REFUSED (R340): The bus is not idle within 1,024 block cycles and the gate request is refused. -/
  | gateRefused (pg : Nat)
  /-- CLOCK_GATE_OPEN (R340): A write of CLKREQ = 1 reopens the gate within 3 cycles. -/
  | clockGateOpen (q : Requester) (pg : Nat) (v : Word)
  /-- GATED_ACCESS (R341): An access to a gated block's registers opens the gate for that access only. -/
  | gatedAccess (q : Requester) (off : Nat) (write : Bool) (v : Word)
  /-- DVFS_REQUEST (R342): A write of GO requests an operating point, which is checked and applied, stored or refused. -/
  | dvfsRequest (q : Requester) (f : Nat) (v : Word)
  /-- DVFS_FREQ_STEP (R343): The glitch-free divider moves the island to its new frequency at a clock edge. -/
  | dvfsFreqStep (f : Nat)
  /-- DVFS_DONE (R343): The last voltage settle ends and BUSY clears. -/
  | dvfsDone (f : Nat)
  /-- POWER_CMD (R347): A write of SYS_PWR_CMD or OFFREQ requests an island on or off, which is accepted or refused. -/
  | powerCmd (q : Requester) (off : Nat) (v : Word)
  /-- ISLAND_POWER_DOWN (R345): An island runs steps D1 to D6 and counts as off from D1. -/
  | islandPowerDown (isl step : Nat)
  /-- ISLAND_POWER_DOWN_DONE (R345): The island's rail is discharged and the power-down completes. -/
  | islandPowerDownDone (isl : Nat)
  /-- ISLAND_POWER_UP_START (R347): A waiting power-up starts U1 when fewer than two islands are in U1. -/
  | islandPowerUpStart (isl step : Nat)
  /-- ISLAND_POWER_UP_DONE (R346): The island ends U7, its reset is released and READY rises. -/
  | islandPowerUpDone (isl : Nat)
  /-- COLD_START (R350): The always-on supply rises through 2.5 V and a cold start begins. -/
  | coldStart
  /-- SUPPLY_START (R350): The main input rises to 16.5 V while the always-on part is powered and the module is not DARK. -/
  | supplyStart
  /-- SUPPLY_LOSS (R351): The main input stays below 16.0 V for 100 µs and the converter stops. -/
  | supplyLoss
  /-- POWER_ON_RESET_RELEASE (R352): A start releases the power-on reset of switched SYS, MONO starts at 0 and TWIN_POS is sampled. -/
  | powerOnResetRelease (tpos : Bool)
  /-- NRESET_IN (R355): nRESET_IN is asserted for at least 10 µs and starts a module reset. -/
  | nresetIn
  /-- THERMAL_RESET (R355): Die temperature above 135 °C for 1 ms starts a module reset. -/
  | thermalReset
  /-- RAIL_FAULT (R355): An internal rail outside ±8 % for 10 µs starts a module reset. -/
  | railFault
  /-- SOFTWARE_RESET (R355): A keyed write of RESET in SYS_RST_CMD starts a module reset with cause 6. -/
  | softwareReset (q : Requester) (v : Word)
  /-- CLR_SAFE (R357): A keyed write of CLR_SAFE clears SAFE. -/
  | clrSafe (q : Requester) (v : Word)
  /-- MODULE_RESET_WINDOW_SLIDE (R357): A module reset leaves the 60 s counting window. -/
  | moduleResetWindowSlide
  /-- STRAP_CHG (R359): The TWIN_POS pin changes after sampling, which sets TPOS_PIN only. -/
  | strapChg (pin : Bool)
  /-- BOOT (R361): After an MGT reset the boot ROM selects and verifies a firmware image and runs it or sets BOOT_FAIL. -/
  | boot (ue : List Nat)
  /-- CONFIG_APPLY (R364): Firmware verifies and applies a configuration image and sets CFG_OK, or raises CFG_NONE. -/
  | configApply (ue : List Nat)
  /-- LOCKSTEP (R367): The comparator finds the two cores differ, or an uncorrected MGT memory error occurs. -/
  | lockstep (ue : Bool)
  /-- WDT (R368): The watchdog expires without a KICK for WDT_T. -/
  | wdt
  /-- KICK (R368): A firmware write of KICK restarts the watchdog, or expires it at once on a wrong value. -/
  | kick (q : Requester) (v : Word)
  /-- MGT_RESTART (R371): A write of RESTART ends HOLD with one MGT reset. -/
  | mgtRestart (q : Requester) (v : Word)
  /-- MBOX_PUSH (R383): A write to MGT_MBOX_CMD queues a request or answers it BUSY when the queue is at QLIM. -/
  | mboxPush (q : Requester) (v : Word)
  /-- ECHO (R385): Mailbox command ECHO returns ARG0. -/
  | echo
  /-- VERSION (R385): Mailbox command VERSION returns the firmware generation, SVN and bank. -/
  | version
  /-- GOV_STATUS (R385): Mailbox command GOV_STATUS returns the load, governor level and shed count. -/
  | govStatus
  /-- IMG_BEGIN (R386): Mailbox command IMG_BEGIN erases a flash slot, or is refused for a protected slot. -/
  | imgBegin
  /-- IMG_WRITE (R386): Mailbox command IMG_WRITE programs a piece of the image from the data buffer. -/
  | imgWrite
  /-- IMG_END (R386): Mailbox command IMG_END verifies the written slot and reports the outcome. -/
  | imgEnd (ue : Bool)
  /-- IMG_INFO (R385): Mailbox command IMG_INFO returns a bank image's generation, SVN, mark and outcome. -/
  | imgInfo
  /-- IMG_ACTIVATE (R386): Mailbox command IMG_ACTIVATE sets ONCE_BANK and performs a module reset, or is refused. -/
  | imgActivate
  /-- IMG_CONFIRM (R386): Mailbox command IMG_CONFIRM marks the running trial firmware CONFIRMED and retires the other bank. -/
  | imgConfirm
  /-- SVN_COMMIT (R390): Mailbox command SVN_COMMIT raises the OTP minimum security version. -/
  | svnCommit
  /-- OWNER_KEY (R376): Mailbox command OWNER_KEY programs the owner key digest once. -/
  | ownerKey
  /-- POLICY_LOAD (R381): Mailbox command POLICY_LOAD verifies and applies a policy table whole, or refuses it. -/
  | policyLoad
  /-- POLICY_READ (R385): Mailbox command POLICY_READ returns the section data in force. -/
  | policyRead
  /-- POP (R384): A write of POP removes the head mailbox response. -/
  | pop (q : Requester) (v : Word)
  /-- REMOTE_MANAGEMENT_RX (R387): A class 3 FLOW 0x010 request is checked against the access list and queued in governor class 3. -/
  | remoteManagementRx (f : NFrame)
  /-- GOV_WINDOW_END (R392): A 10 ms governor window ends and the level may rise or fall. -/
  | govWindowEnd (load : Nat)
  /-- REC_EVENT_STAMP (R397): An event enters the recorder's input FIFO and is stamped, or is refused and counted as lost. -/
  | recEventStamp
  /-- REC_COMMIT (R398): The writer takes the FIFO head, assigns SEQ, writes the ring slot and commits the record. -/
  | recCommit
  /-- COAL_CLOSE (R401): A coalescing entry's deadline passes and a coalesced record enters the FIFO. -/
  | coalClose
  /-- LOSS (R402): With pending losses and the FIFO at 64 or fewer, a loss-summary record is committed ahead of the head. -/
  | loss
  /-- REC_POST (R406): A write of REC_CTRL_POST posts a record from the requester's PDATA, or raises POST_ERR. -/
  | recPost (q : Requester) (v : Word)
  /-- CLEAR (R405): A write of CLEAR discards every committed record and commits a cleared marker. -/
  | clear (q : Requester) (v : Word)
  /-- REC_PORT_POP (R404): A read of REC_PORT_POP loads the record at the requester's cursor and advances it. -/
  | recPortPop (q : Requester) (ue : Bool)
  /-- REC_PORT_CUR_WRITE (R404): A write of CUR sets the requester's read cursor. -/
  | recPortCurWrite (q : Requester) (v : Word)
  /-- STOP_WRITE (R403): A write of STOP switches between wrap and stop mode. -/
  | stopWrite (q : Requester) (v : Word)
  /-- REC_SRST (R451): An SRST of a REC page resets that page's registers only and keeps the ring. -/
  | recSrst (q : Requester) (pg : Nat) (v : Word)
  /-- STREAM_ENABLE (R407): A write of EN to REC_STRM_CFG starts the stream at OLD or NEXT, stops it, or refuses it. -/
  | streamEnable (q : Requester) (v : Word)
  /-- STRM (R407): The stream writes the next committed record into the host ring when there is room. -/
  | strm
  /-- STREAM_GET_WRITE (R407): A write of GET in REC_STRM_PTR frees host ring slots. -/
  | streamGetWrite (q : Requester) (v : Word)
  /-- ECC_EVENT (R413): An ECC event of a RAM block reaches HLT, is logged, counted per row and may make the row suspect. -/
  | eccEvent (pg mem row group : Nat) (ue : Bool)
  /-- CE_HOUR_END (R410): An hour of MONO ends and CE_RATE reasons are re-evaluated. -/
  | ceHourEnd
  /-- SENSOR_ALARM (R410): A sensor or supply reading crosses a health threshold, or a sensor is excluded. -/
  | sensorAlarm (k : SensorAlarm)
  /-- HEALTH_REASON_CLEAR_TIMER (R410): A timed clearing condition of a health reason elapses and the reason stops standing. -/
  | healthReasonClearTimer (isl bit item value : Nat)
  /-- FW_LEVEL_WRITE (R409): Firmware writes an island's FW level, which can raise the level above its floor. -/
  | fwLevelWrite (q : Requester) (n : Nat) (v : Word)
  /-- BANK_TEST (R415): A GO with KIND 0 drains a packet-buffer bank from its pool and starts its MBIST. -/
  | bankTest (q : Requester) (v : Word)
  /-- MBIST (R416): A GO with KIND 1 withdraws an island and runs March C− over its RAM blocks. -/
  | mbist (q : Requester) (v : Word)
  /-- LBIST (R416): A GO with KIND 2 withdraws an island and runs LBIST with pattern set SET. -/
  | lbist (q : Requester) (v : Word)
  /-- SESSION (R417): A GO with KIND 3 isolates a STANDBY if needed and runs MBIST and LBIST of one or every testable island. -/
  | session (q : Requester) (v : Word)
  /-- BANK_DRAIN_TIMEOUT (R415): A bank under test is not empty after 100 ms, so the test ends with RESULT 9. -/
  | bankDrainTimeout
  /-- DONE (R416): A test ends, writes SIG and raises DONE and VERDICT_DUE. -/
  | done (sig : Word) (rounds : List (List FailCell))
  /-- ISLAND_RESTORE (R415): HLT restores a tested island by steps U3 to U7. -/
  | islandRestore (isl : Nat)
  /-- VERDICT (R416): Firmware writes a test's VERDICT, and a FAIL sets BIST_FAIL and may retire the island. -/
  | verdict (q : Requester) (v : Word)
  /-- VERD_T_EXPIRE (R417): No verdict within VERD_T, so a session does not write REJOIN. -/
  | verdTExpire
  /-- REPAIR_RECORD_WRITTEN (R420): The flash write of the repair record completes or fails with RECORD_FAIL. -/
  | repairRecordWritten (ok : Bool)
  /-- IRO_RECAL (R423): Every 10 s HLT measures the IRO against the XO and steps IRO_TRIM if needed. -/
  | iroRecal (dev : Int)
  /-- RECAL (R423): A write of RECAL runs the IRO measurement and sensor offset check at once. -/
  | recal (q : Requester) (v : Word) (dev : Int)
  /-- CLRMAX (R423): A write of CLRMAX sets every sensor MAX to its VALUE. -/
  | clrmax (q : Requester) (v : Word) (dev : Int)
  /-- NRESET_IN_RELEASE (R355): nRESET_IN is released after holding a module reset, which lets the reset's power-up proceed. -/
  | nresetInRelease
  /-- THERMAL_RESET_RELEASE (R355): The die temperature falls below 120 °C and the thermal module reset stops holding. -/
  | thermalResetRelease
  /-- KA_OK_RISE (R307): The keep-alive supply returns to 2.9 V or above, KA_OK becomes 1 and the standing wake reason R_KA clears. -/
  | kaOkRise
  /-- ALWAYS_ON_SUPPLY_LOSS (R300): Both the keep-alive and the main supply are gone, the always-on part loses power and the module is OFF. -/
  | alwaysOnSupplyLoss
  /-- SOURCE_GOOD (R333): A PLL locks, or a failed released source becomes good again, so waiting island switches start and MONO returns to PLL_TIME. -/
  | sourceGood (src : Nat)
  /-- CAN_RX_ERROR (R217): A CAN channel detects an error or protocol exception while receiving, sends its flag and updates REC and its error state. -/
  | canRxError (n kind : Nat) (dataPhase px exempt : Bool) (more : Nat)
  /-- AER (R275): The PCIe endpoint detects a link or TLP error, logs it under AER and raises the AER event and record. -/
  | aer (status : Word) (header : List Byte)
  /-- WAKE_INPUT_INACTIVE (R315): In DARK an armed WAKE_SW or CANn_WAKE input goes inactive, so it can act again and a STUCK mask of WAKE_SW clears. -/
  | wakeInputInactive (input : Nat)
  /-- HANDOVER_WAIT_END (R260): 30 µs after its boundary of HK without the close of HK − 1, the new active becomes ACTIVE from its last committed epoch. -/
  | handoverWaitEnd
deriving DecidableEq, Repr

end Sys2Proof
end

