-- ==== Sys2Proof/Machine/Fields.lean ====
section
/-!
DEFINITION. The registers and the fields of registers that the meanings name, each with its BAR0 offset and bits from the
register tables of the spec's chapters (R10, R31). BL, CP and CB stand for the pages that BLA/BLB, CPA/CPB and CBL/CBH share.
An index is taken within its range (log entry 64).
-/

namespace Sys2Proof.Machine

/-- A field of a register: the register's offset, the field's highest and lowest bit (R10). -/
structure Fld where
  off : Nat
  hi : Nat
  lo : Nat
deriving DecidableEq, Repr

/-! The base offsets of the pages (R31, R50). -/

abbrev P.SYS_RST : Nat := 0x000000
abbrev P.SYS_CLK : Nat := 0x001000
abbrev P.SYS_PWR : Nat := 0x002000
abbrev P.SYS_WAKE : Nat := 0x003000
abbrev P.SYS_DIN : Nat := 0x004000
abbrev P.SYS_BYP : Nat := 0x005000
abbrev P.SYS_EVT : Nat := 0x006000
abbrev P.FAB_CTRL : Nat := 0x030000
abbrev P.FAB_FLOW : Nat := 0x031000
abbrev P.FAB_QUE : Nat := 0x032000
abbrev P.FAB_GATE : Nat := 0x033000
abbrev P.FAB_POL : Nat := 0x034000
abbrev P.FAB_CNT : Nat := 0x035000
abbrev P.FAB_LDUP : Nat := 0x036000
abbrev P.FAB_CBDUP : Nat := 0x037000
abbrev P.SGW_CTRL : Nat := 0x060000
abbrev P.SGW_MAP : Nat := 0x061000
abbrev P.SGW_IMG : Nat := 0x062000
abbrev P.SGW_RCP : Nat := 0x063000
abbrev P.TIM_BASE : Nat := 0x090000
abbrev P.TIM_SERVO : Nat := 0x091000
abbrev P.TIM_TS : Nat := 0x092000
abbrev P.TIM_AS : Nat := 0x093000
abbrev P.TWN_CTRL : Nat := 0x0a0000
abbrev P.TWN_MLINK : Nat := 0x0a1000
abbrev P.TWN_XCHK : Nat := 0x0a2000
abbrev P.HBR_CTRL : Nat := 0x0b0000
abbrev P.HBR_IWIN : Nat := 0x0b1000
abbrev P.HBR_OWIN : Nat := 0x0b2000
abbrev P.HBR_MSIX : Nat := 0x0b3000
abbrev P.PSC_CTRL : Nat := 0x0c0000
abbrev P.PSC_WIN : Nat := 0x0c1000
abbrev P.PSC_PWLOG : Nat := 0x0c2000
abbrev P.PSC_SIDE : Nat := 0x0c3000
abbrev P.MGT_CTRL : Nat := 0x0d0000
abbrev P.MGT_MBOX : Nat := 0x0d1000
abbrev P.MGT_IMG : Nat := 0x0d2000
abbrev P.REC_CTRL : Nat := 0x0e0000
abbrev P.REC_PORT : Nat := 0x0e1000
abbrev P.REC_STRM : Nat := 0x0e2000
abbrev P.HLT_CTRL : Nat := 0x0f0000
abbrev P.HLT_BIST : Nat := 0x0f1000
abbrev P.HLT_REPAIR : Nat := 0x0f2000
abbrev P.HLT_SENS : Nat := 0x0f3000
abbrev P.TOP_INAUG : Nat := 0x100000
abbrev P.TOP_TABLE : Nat := 0x101000
abbrev P.TOP_ETB : Nat := 0x102000
abbrev P.TOP_SLOT : Nat := 0x103000
abbrev P.LINE (l : Line) : Nat := 0x010000 + 0x10000 * (l.idx % 2)
abbrev P.PORT (p : BPort) : Nat := 0x011000 + 0x10000 * (p.line.idx % 2) + 0x1000 * (p.side % 2)
abbrev P.BEAM (l : Line) : Nat := 0x013000 + 0x10000 * (l.idx % 2)
abbrev P.CP_CTRL (h : Nat) : Nat := 0x040000 + 0x10000 * (h % 2)
abbrev P.CP_P (p : Nat) : Nat := 0x041000 + 0x10000 * (p % 8 / 4) + 0x1000 * (p % 4)
abbrev P.CB_CTRL (h : Nat) : Nat := 0x070000 + 0x10000 * (h % 2)
abbrev P.CB_CAN (n : Nat) : Nat := 0x071000 + 0x10000 * (n % 16 / 8) + 0x1000 * (n % 8)

/-! The island codes (R50). -/

abbrev I.SYS : Nat := 0x00
abbrev I.BLA : Nat := 0x01
abbrev I.BLB : Nat := 0x02
abbrev I.FAB : Nat := 0x03
abbrev I.CPA : Nat := 0x04
abbrev I.CPB : Nat := 0x05
abbrev I.SGW : Nat := 0x06
abbrev I.CBL : Nat := 0x07
abbrev I.CBH : Nat := 0x08
abbrev I.TIM : Nat := 0x09
abbrev I.TWN : Nat := 0x0a
abbrev I.HBR : Nat := 0x0b
abbrev I.PSC : Nat := 0x0c
abbrev I.MGT : Nat := 0x0d
abbrev I.REC : Nat := 0x0e
abbrev I.HLT : Nat := 0x0f
abbrev I.TOP : Nat := 0x10

/-- SYS_EVT_ISL, 02_register_pages. -/
abbrev R.SYS_EVT_ISL : Nat := 0x006040
/-- SYS_EVT_EOI, 02_register_pages. -/
abbrev R.SYS_EVT_EOI : Nat := 0x006044
/-- SYS_EVT_OFFWR, 02_register_pages. -/
abbrev R.SYS_EVT_OFFWR : Nat := 0x006048
abbrev F.SYS_EVT_OFFWR_LAST_ISL : Fld := ⟨0x006048, 31, 24⟩
abbrev F.SYS_EVT_OFFWR_OFFWR_CNT : Fld := ⟨0x006048, 15, 0⟩
/-- SYS_EVT_PGSUMn, 02_register_pages. -/
abbrev R.SYS_EVT_PGSUM (n : Nat) : Nat := 0x006080 + 4 * (n % 17)
abbrev F.SYS_EVT_ROUTE_MGT_EN (n : Nat) : Fld := ⟨0x006100 + 4 * (n % 17), 9, 9⟩
abbrev F.SYS_EVT_ROUTE_HOST_EN (n : Nat) : Fld := ⟨0x006100 + 4 * (n % 17), 8, 8⟩
abbrev F.SYS_EVT_ROUTE_VEC (n : Nat) : Fld := ⟨0x006100 + 4 * (n % 17), 4, 0⟩
/-- SYS_BYP_STAT, 03_backbone_lines_and_bypass. -/
abbrev R.SYS_BYP_STAT : Nat := 0x005040
/-- SYS_BYP_CNT, 03_backbone_lines_and_bypass. -/
abbrev R.SYS_BYP_CNT : Nat := 0x005044
abbrev F.BL_LINE_CFG_RETRY (l : Line) : Fld := ⟨0x010040 + 0x10000 * (l.idx % 2), 19, 16⟩
abbrev F.BL_LINE_CFG_MAXRATE (l : Line) : Fld := ⟨0x010040 + 0x10000 * (l.idx % 2), 6, 5⟩
abbrev F.BL_LINE_CFG_EXP2 (l : Line) : Fld := ⟨0x010040 + 0x10000 * (l.idx % 2), 4, 3⟩
abbrev F.BL_LINE_CFG_EXP1 (l : Line) : Fld := ⟨0x010040 + 0x10000 * (l.idx % 2), 2, 1⟩
abbrev F.BL_LINE_CFG_AUTO_OPEN (l : Line) : Fld := ⟨0x010040 + 0x10000 * (l.idx % 2), 0, 0⟩
/-- BLA_LINE_CMD, 03_backbone_lines_and_bypass. -/
abbrev R.BL_LINE_CMD (l : Line) : Nat := 0x010044 + 0x10000 * (l.idx % 2)
abbrev F.BL_LINE_CMD_FORCE_BYP (l : Line) : Fld := ⟨0x010044 + 0x10000 * (l.idx % 2), 0, 0⟩
/-- BLA_LINE_STAT, 03_backbone_lines_and_bypass. -/
abbrev R.BL_LINE_STAT (l : Line) : Nat := 0x010048 + 0x10000 * (l.idx % 2)
abbrev F.BL_LINE_STAT_FAIL_CNT (l : Line) : Fld := ⟨0x010048 + 0x10000 * (l.idx % 2), 15, 12⟩
abbrev F.BL_LINE_STAT_WAIT_OTHER (l : Line) : Fld := ⟨0x010048 + 0x10000 * (l.idx % 2), 10, 10⟩
abbrev F.BL_LINE_STAT_KA_TOP (l : Line) : Fld := ⟨0x010048 + 0x10000 * (l.idx % 2), 9, 9⟩
abbrev F.BL_LINE_STAT_KA_FAB (l : Line) : Fld := ⟨0x010048 + 0x10000 * (l.idx % 2), 8, 8⟩
abbrev F.BL_LINE_STAT_LOCKOUT (l : Line) : Fld := ⟨0x010048 + 0x10000 * (l.idx % 2), 6, 6⟩
abbrev F.BL_LINE_STAT_CAUSE (l : Line) : Fld := ⟨0x010048 + 0x10000 * (l.idx % 2), 5, 4⟩
abbrev F.BL_LINE_STAT_MOVING (l : Line) : Fld := ⟨0x010048 + 0x10000 * (l.idx % 2), 2, 2⟩
abbrev F.BL_LINE_STAT_STATE (l : Line) : Fld := ⟨0x010048 + 0x10000 * (l.idx % 2), 1, 0⟩
/-- BLA_LINE_CNT, 03_backbone_lines_and_bypass. -/
abbrev R.BL_LINE_CNT (l : Line) : Nat := 0x01004c + 0x10000 * (l.idx % 2)
abbrev F.BL_LINE_CNT_OPEN_CNT (l : Line) : Fld := ⟨0x01004c + 0x10000 * (l.idx % 2), 31, 16⟩
abbrev F.BL_LINE_CNT_FAILSAFE_CNT (l : Line) : Fld := ⟨0x01004c + 0x10000 * (l.idx % 2), 15, 8⟩
abbrev F.BL_LINE_CNT_TRAIN_FAIL_CNT (l : Line) : Fld := ⟨0x01004c + 0x10000 * (l.idx % 2), 7, 0⟩
/-- BLA_Pn_STAT, 03_backbone_lines_and_bypass. -/
abbrev R.BL_P_STAT (p : BPort) : Nat := 0x011040 + 0x10000 * (p.line.idx % 2) + 0x1000 * (p.side % 2)
abbrev F.BL_P_STAT_LINK (p : BPort) : Fld := ⟨0x011040 + 0x10000 * (p.line.idx % 2) + 0x1000 * (p.side % 2), 31, 31⟩
abbrev F.BL_P_STAT_MASTER (p : BPort) : Fld := ⟨0x011040 + 0x10000 * (p.line.idx % 2) + 0x1000 * (p.side % 2), 29, 29⟩
abbrev F.BL_P_STAT_RATE (p : BPort) : Fld := ⟨0x011040 + 0x10000 * (p.line.idx % 2) + 0x1000 * (p.side % 2), 27, 26⟩
abbrev F.BL_P_STAT_TSTATE (p : BPort) : Fld := ⟨0x011040 + 0x10000 * (p.line.idx % 2) + 0x1000 * (p.side % 2), 25, 24⟩
abbrev F.BL_P_STAT_LINK_CHG (p : BPort) : Fld := ⟨0x011040 + 0x10000 * (p.line.idx % 2) + 0x1000 * (p.side % 2), 15, 0⟩
/-- BLA_Pn_LAT, 03_backbone_lines_and_bypass. -/
abbrev R.BL_P_LAT (p : BPort) : Nat := 0x011044 + 0x10000 * (p.line.idx % 2) + 0x1000 * (p.side % 2)
/-- BLA_Pn_SNR, 03_backbone_lines_and_bypass. -/
abbrev R.BL_P_SNR (p : BPort) : Nat := 0x011048 + 0x10000 * (p.line.idx % 2) + 0x1000 * (p.side % 2)
abbrev F.BL_P_SNR_THRESH (p : BPort) : Fld := ⟨0x011048 + 0x10000 * (p.line.idx % 2) + 0x1000 * (p.side % 2), 23, 16⟩
abbrev F.BL_P_SNR_PAIR (p : BPort) : Fld := ⟨0x011048 + 0x10000 * (p.line.idx % 2) + 0x1000 * (p.side % 2), 9, 8⟩
abbrev F.BL_P_SNR_MARGIN (p : BPort) : Fld := ⟨0x011048 + 0x10000 * (p.line.idx % 2) + 0x1000 * (p.side % 2), 7, 0⟩
/-- BLA_Pn_ERR, 03_backbone_lines_and_bypass. -/
abbrev R.BL_P_ERR (p : BPort) : Nat := 0x01104c + 0x10000 * (p.line.idx % 2) + 0x1000 * (p.side % 2)
abbrev F.BL_P_ERR_FCS_ERR (p : BPort) : Fld := ⟨0x01104c + 0x10000 * (p.line.idx % 2) + 0x1000 * (p.side % 2), 31, 16⟩
abbrev F.BL_P_ERR_HCRC_ERR (p : BPort) : Fld := ⟨0x01104c + 0x10000 * (p.line.idx % 2) + 0x1000 * (p.side % 2), 15, 0⟩
abbrev F.FAB_LDUP_CFG_AGE : Fld := ⟨0x036040, 31, 16⟩
abbrev F.FAB_LDUP_CFG_EN : Fld := ⟨0x036040, 0, 0⟩
/-- FAB_LDUP_STAT, 03_backbone_lines_and_bypass. -/
abbrev R.FAB_LDUP_STAT : Nat := 0x036044
abbrev F.FAB_LDUP_STAT_EVICT_CNT : Fld := ⟨0x036044, 31, 16⟩
abbrev F.FAB_LDUP_STAT_IN_USE : Fld := ⟨0x036044, 13, 0⟩
abbrev F.LDUP_FIRST_A_CNT : Fld := ⟨0x036048, 31, 0⟩
abbrev F.LDUP_FIRST_B_CNT : Fld := ⟨0x03604c, 31, 0⟩
abbrev F.LDUP_DISCARD_CNT : Fld := ⟨0x036050, 31, 0⟩
abbrev F.LDUP_RSEQ_CNT : Fld := ⟨0x036054, 31, 0⟩
/-- TOP_EPOCH, 04_inauguration. -/
abbrev R.TOP_EPOCH : Nat := 0x100040
abbrev F.TOP_EPOCH_PREV : Fld := ⟨0x100040, 31, 16⟩
abbrev F.TOP_EPOCH_EPOCH : Fld := ⟨0x100040, 15, 0⟩
/-- TOP_SHADOW, 04_inauguration. -/
abbrev R.TOP_SHADOW : Nat := 0x100044
abbrev F.TOP_SHADOW_PHASE : Fld := ⟨0x100044, 31, 28⟩
abbrev F.TOP_SHADOW_GRACE : Fld := ⟨0x100044, 27, 24⟩
abbrev F.TOP_SHADOW_SHADOW : Fld := ⟨0x100044, 15, 0⟩
/-- TOP_NODE, 04_inauguration. -/
abbrev R.TOP_NODE : Nat := 0x100048
abbrev F.TOP_NODE_VALID : Fld := ⟨0x100048, 31, 31⟩
abbrev F.TOP_NODE_FWD : Fld := ⟨0x100048, 30, 30⟩
abbrev F.TOP_NODE_REFEND : Fld := ⟨0x100048, 29, 29⟩
abbrev F.TOP_NODE_FAREND : Fld := ⟨0x100048, 28, 28⟩
abbrev F.TOP_NODE_VEH : Fld := ⟨0x100048, 23, 16⟩
abbrev F.TOP_NODE_NODE : Fld := ⟨0x100048, 8, 0⟩
/-- TOP_COUNT, 04_inauguration. -/
abbrev R.TOP_COUNT : Nat := 0x10004c
abbrev F.TOP_COUNT_NODES : Fld := ⟨0x10004c, 24, 16⟩
/-- TOP_REF_LO, 04_inauguration. -/
abbrev R.TOP_REF_LO : Nat := 0x100050
abbrev F.TOP_REF_LO_REF : Fld := ⟨0x100050, 31, 0⟩
/-- TOP_REF_HI, 04_inauguration. -/
abbrev R.TOP_REF_HI : Nat := 0x100054
abbrev F.TOP_REF_HI_REF : Fld := ⟨0x100054, 31, 0⟩
/-- TOP_CMD, 04_inauguration. -/
abbrev R.TOP_CMD : Nat := 0x100058
abbrev F.TOP_CFG_FLAP_N : Fld := ⟨0x10005c, 31, 28⟩
abbrev F.TOP_CFG_FLAP_WIN : Fld := ⟨0x10005c, 27, 20⟩
abbrev F.TOP_CFG_FLAP_HOLD : Fld := ⟨0x10005c, 19, 12⟩
/-- TOP_K, 04_inauguration. -/
abbrev R.TOP_K : Nat := 0x100060
/-- TOP_STAT, 04_inauguration. -/
abbrev R.TOP_STAT : Nat := 0x100064
abbrev F.TOP_STAT_VTAG_RUN : Fld := ⟨0x100064, 7, 7⟩
abbrev F.TOP_CNT_COMMITS : Fld := ⟨0x100068, 31, 16⟩
abbrev F.TOP_CNT_ABORTS : Fld := ⟨0x100068, 15, 8⟩
abbrev F.TOP_CNT_NULLS : Fld := ⟨0x100068, 7, 0⟩
/-- TOP_LAST, 04_inauguration. -/
abbrev R.TOP_LAST : Nat := 0x10006c
abbrev F.TOP_LAST_TRIG : Fld := ⟨0x10006c, 31, 28⟩
abbrev F.TOP_LAST_PORT : Fld := ⟨0x10006c, 27, 24⟩
abbrev F.TOP_LAST_DUR : Fld := ⟨0x10006c, 23, 0⟩
/-- TOP_EPDROP, 04_inauguration. -/
abbrev R.TOP_EPDROP : Nat := 0x100070
abbrev F.TOP_EPDROP_OLD : Fld := ⟨0x100070, 31, 16⟩
abbrev F.TOP_EPDROP_BAD : Fld := ⟨0x100070, 15, 0⟩
/-- TOP_SPLIT_A, 04_inauguration. -/
abbrev R.TOP_SPLIT_A : Nat := 0x100074
abbrev F.TOP_SPLIT_A_CNT : Fld := ⟨0x100074, 31, 24⟩
/-- TOP_SPLIT_B, 04_inauguration. -/
abbrev R.TOP_SPLIT_B : Nat := 0x100078
/-- TOP_SERIAL_LO, 04_inauguration. -/
abbrev R.TOP_SERIAL_LO : Nat := 0x100080
abbrev F.TOP_SERIAL_LO_SERIAL : Fld := ⟨0x100080, 31, 0⟩
/-- TOP_SERIAL_HI, 04_inauguration. -/
abbrev R.TOP_SERIAL_HI : Nat := 0x100084
abbrev F.TOP_SERIAL_HI_SERIAL : Fld := ⟨0x100084, 31, 0⟩
/-- TOP_VTAG_LO, 04_inauguration. -/
abbrev R.TOP_VTAG_LO : Nat := 0x100088
abbrev F.TOP_VTAG_LO_VTAG : Fld := ⟨0x100088, 31, 0⟩
/-- TOP_VTAG_HI, 04_inauguration. -/
abbrev R.TOP_VTAG_HI : Nat := 0x10008c
abbrev F.TOP_VTAG_HI_VTAG : Fld := ⟨0x10008c, 31, 0⟩
/-- TOP_TBL_SEL, 04_inauguration. -/
abbrev R.TOP_TBL_SEL : Nat := 0x101040
abbrev F.TOP_TBL_SEL_TABLE : Fld := ⟨0x101040, 31, 28⟩
abbrev F.TOP_TBL_SEL_INDEX : Fld := ⟨0x101040, 9, 0⟩
/-- TOP_TBL_CMD, 04_inauguration. -/
abbrev R.TOP_TBL_CMD : Nat := 0x101044
/-- TOP_TBL_DATAn, 04_inauguration. -/
abbrev R.TOP_TBL_DATA (n : Nat) : Nat := 0x101050 + 4 * (n % 8)
/-- TOP_ETB_CTRL, 04_inauguration. -/
abbrev R.TOP_ETB_CTRL : Nat := 0x102040
abbrev F.TOP_ETB_CTRL_ETB_GRACE : Fld := ⟨0x102040, 31, 16⟩
abbrev F.TOP_ETB_CTRL_INHIBIT : Fld := ⟨0x102040, 1, 1⟩
abbrev F.TOP_ETB_CTRL_EN : Fld := ⟨0x102040, 0, 0⟩
/-- TOP_ETB_STAT, 04_inauguration. -/
abbrev R.TOP_ETB_STAT : Nat := 0x102044
abbrev F.TOP_ETB_STAT_ETBN : Fld := ⟨0x102044, 29, 24⟩
abbrev F.TOP_ETB_STAT_COUNT : Fld := ⟨0x102044, 21, 16⟩
abbrev F.TOP_ETB_STAT_INHIBITED : Fld := ⟨0x102044, 1, 1⟩
abbrev F.TOP_ETB_STAT_VALID : Fld := ⟨0x102044, 0, 0⟩
/-- TOP_ETB_TOPO, 04_inauguration. -/
abbrev R.TOP_ETB_TOPO : Nat := 0x102048
/-- TOP_SLOT_CYC, 05_beam_window. -/
abbrev R.TOP_SLOT_CYC : Nat := 0x103040
/-- TOP_SLOT_LAYOUT, 05_beam_window. -/
abbrev R.TOP_SLOT_LAYOUT : Nat := 0x103044
abbrev F.TOP_SLOT_LAYOUT_LEAD : Fld := ⟨0x103044, 31, 24⟩
abbrev F.TOP_SLOT_LAYOUT_GUARD : Fld := ⟨0x103044, 23, 16⟩
abbrev F.TOP_SLOT_LAYOUT_SEP : Fld := ⟨0x103044, 15, 12⟩
abbrev F.TOP_SLOT_LAYOUT_BRATE : Fld := ⟨0x103044, 11, 10⟩
abbrev F.TOP_SLOT_LAYOUT_CTL_W : Fld := ⟨0x103044, 7, 0⟩
/-- TOP_SLOT_ARM, 05_beam_window. -/
abbrev R.TOP_SLOT_ARM : Nat := 0x103048
abbrev F.TOP_SLOT_ARM_ARM : Fld := ⟨0x103048, 0, 0⟩
/-- TOP_SLOT_APPLY_K, 05_beam_window. -/
abbrev R.TOP_SLOT_APPLY_K : Nat := 0x10304c
abbrev F.TOP_SLOT_APPLY_K_K : Fld := ⟨0x10304c, 31, 0⟩
/-- TOP_SLOT_ACT_CYC, 05_beam_window. -/
abbrev R.TOP_SLOT_ACT_CYC : Nat := 0x103050
/-- TOP_SLOT_ACT_LAYOUT, 05_beam_window. -/
abbrev R.TOP_SLOT_ACT_LAYOUT : Nat := 0x103054
/-- TOP_SLOT_DIGEST, 05_beam_window. -/
abbrev R.TOP_SLOT_DIGEST : Nat := 0x103058
/-- TOP_SLOT_STAT, 05_beam_window. -/
abbrev R.TOP_SLOT_STAT : Nat := 0x10305c
abbrev F.TOP_SLOT_STAT_SCALED : Fld := ⟨0x10305c, 31, 31⟩
abbrev F.TOP_SLOT_STAT_CTL_SHORT : Fld := ⟨0x10305c, 30, 30⟩
abbrev F.TOP_SLOT_STAT_NOCLASS : Fld := ⟨0x10305c, 29, 29⟩
abbrev F.TOP_SLOT_STAT_CAP_LO : Fld := ⟨0x10305c, 15, 0⟩
/-- TOP_SLOT_CAPHI, 05_beam_window. -/
abbrev R.TOP_SLOT_CAPHI : Nat := 0x103074
abbrev F.TOP_SLOT_CAPHI_CAP_HI : Fld := ⟨0x103074, 3, 0⟩
abbrev F.TOP_SLOT_ASEL_TABLE : Fld := ⟨0x103060, 31, 31⟩
abbrev F.TOP_SLOT_ASEL_DIR : Fld := ⟨0x103060, 30, 30⟩
abbrev F.TOP_SLOT_ASEL_NODE : Fld := ⟨0x103060, 8, 0⟩
/-- TOP_SLOT_ADATA0, 05_beam_window. -/
abbrev R.TOP_SLOT_ADATA0 : Nat := 0x103064
/-- TOP_SLOT_ADATA1, 05_beam_window. -/
abbrev R.TOP_SLOT_ADATA1 : Nat := 0x103068
/-- TOP_SLOT_ADATA2, 05_beam_window. -/
abbrev R.TOP_SLOT_ADATA2 : Nat := 0x103070
/-- TOP_SLOT_CYCNT, 05_beam_window. -/
abbrev R.TOP_SLOT_CYCNT : Nat := 0x10306c
abbrev F.TOP_SLOT_CYCNT_CYCLE : Fld := ⟨0x10306c, 31, 0⟩
/-- TOP_SLOT_CLSn_Wm, 05_beam_window. -/
abbrev R.TOP_SLOT_CLS_W (n : Nat) (m : Nat) : Nat := 0x103200 + 32 * (n % 16) + 4 * (m % 8)
/-- BLA_BEAM_STAT, 05_beam_window. -/
abbrev R.BL_BEAM_STAT (l : Line) : Nat := 0x013040 + 0x10000 * (l.idx % 2)
abbrev F.BL_BEAM_STAT_D_LOCK (l : Line) : Fld := ⟨0x013040 + 0x10000 * (l.idx % 2), 31, 31⟩
abbrev F.BL_BEAM_STAT_U_LOCK (l : Line) : Fld := ⟨0x013040 + 0x10000 * (l.idx % 2), 30, 30⟩
abbrev F.BL_BEAM_STAT_D_ORG (l : Line) : Fld := ⟨0x013040 + 0x10000 * (l.idx % 2), 29, 29⟩
abbrev F.BL_BEAM_STAT_U_ORG (l : Line) : Fld := ⟨0x013040 + 0x10000 * (l.idx % 2), 28, 28⟩
abbrev F.BL_BEAM_STAT_D_INS (l : Line) : Fld := ⟨0x013040 + 0x10000 * (l.idx % 2), 27, 27⟩
abbrev F.BL_BEAM_STAT_U_INS (l : Line) : Fld := ⟨0x013040 + 0x10000 * (l.idx % 2), 26, 26⟩
abbrev F.BL_BEAM_STAT_RATE (l : Line) : Fld := ⟨0x013040 + 0x10000 * (l.idx % 2), 25, 24⟩
abbrev F.BL_BEAM_STAT_STRETCH (l : Line) : Fld := ⟨0x013040 + 0x10000 * (l.idx % 2), 23, 23⟩
abbrev F.BL_BEAM_STAT_OFF (l : Line) : Fld := ⟨0x013040 + 0x10000 * (l.idx % 2), 22, 22⟩
abbrev F.BL_BEAM_STAT_ALLOC_OK (l : Line) : Fld := ⟨0x013040 + 0x10000 * (l.idx % 2), 21, 21⟩
abbrev F.BL_BEAM_STAT_D_OUT (l : Line) : Fld := ⟨0x013040 + 0x10000 * (l.idx % 2), 20, 20⟩
abbrev F.BL_BEAM_STAT_SHRINK (l : Line) : Fld := ⟨0x013040 + 0x10000 * (l.idx % 2), 19, 19⟩
abbrev F.BL_BEAM_CFG_TRACK (l : Line) : Fld := ⟨0x013044 + 0x10000 * (l.idx % 2), 15, 12⟩
abbrev F.BL_BEAM_CFG_MISS_MAX (l : Line) : Fld := ⟨0x013044 + 0x10000 * (l.idx % 2), 11, 8⟩
abbrev F.BL_BEAM_CFG_DLY_PER (l : Line) : Fld := ⟨0x013044 + 0x10000 * (l.idx % 2), 7, 0⟩
/-- BLA_BEAM_PHD, 05_beam_window. -/
abbrev R.BL_BEAM_PHD (l : Line) : Nat := 0x013048 + 0x10000 * (l.idx % 2)
abbrev F.BL_BEAM_PHD_ERR (l : Line) : Fld := ⟨0x013048 + 0x10000 * (l.idx % 2), 31, 24⟩
abbrev F.BL_BEAM_PHD_PHASE (l : Line) : Fld := ⟨0x013048 + 0x10000 * (l.idx % 2), 22, 0⟩
/-- BLA_BEAM_PHU, 05_beam_window. -/
abbrev R.BL_BEAM_PHU (l : Line) : Nat := 0x01304c + 0x10000 * (l.idx % 2)
abbrev F.BL_BEAM_PHU_ERR (l : Line) : Fld := ⟨0x01304c + 0x10000 * (l.idx % 2), 31, 24⟩
abbrev F.BL_BEAM_PHU_PHASE (l : Line) : Fld := ⟨0x01304c + 0x10000 * (l.idx % 2), 22, 0⟩
/-- BLA_BEAM_DCUMD, 05_beam_window. -/
abbrev R.BL_BEAM_DCUMD (l : Line) : Nat := 0x013050 + 0x10000 * (l.idx % 2)
abbrev F.BL_BEAM_DCUMD_D (l : Line) : Fld := ⟨0x013050 + 0x10000 * (l.idx % 2), 23, 0⟩
/-- BLA_BEAM_DCUMU, 05_beam_window. -/
abbrev R.BL_BEAM_DCUMU (l : Line) : Nat := 0x013054 + 0x10000 * (l.idx % 2)
abbrev F.BL_BEAM_DCUMU_D (l : Line) : Fld := ⟨0x013054 + 0x10000 * (l.idx % 2), 23, 0⟩
/-- BLA_BEAM_LDLY, 05_beam_window. -/
abbrev R.BL_BEAM_LDLY (l : Line) : Nat := 0x013058 + 0x10000 * (l.idx % 2)
abbrev F.BL_BEAM_LDLY_P2 (l : Line) : Fld := ⟨0x013058 + 0x10000 * (l.idx % 2), 31, 16⟩
abbrev F.BL_BEAM_LDLY_P1 (l : Line) : Fld := ⟨0x013058 + 0x10000 * (l.idx % 2), 15, 0⟩
/-- BLA_BEAM_ERR, 05_beam_window. -/
abbrev R.BL_BEAM_ERR (l : Line) : Nat := 0x01305c + 0x10000 * (l.idx % 2)
abbrev F.BL_BEAM_ERR_CRC_ERR (l : Line) : Fld := ⟨0x01305c + 0x10000 * (l.idx % 2), 31, 16⟩
abbrev F.BL_BEAM_ERR_HCHK_ERR (l : Line) : Fld := ⟨0x01305c + 0x10000 * (l.idx % 2), 15, 0⟩
/-- BLA_BEAM_EVCNT, 05_beam_window. -/
abbrev R.BL_BEAM_EVCNT (l : Line) : Nat := 0x013060 + 0x10000 * (l.idx % 2)
abbrev F.BL_BEAM_EVCNT_INTRUDE (l : Line) : Fld := ⟨0x013060 + 0x10000 * (l.idx % 2), 31, 24⟩
abbrev F.BL_BEAM_EVCNT_GUARD_ERR (l : Line) : Fld := ⟨0x013060 + 0x10000 * (l.idx % 2), 23, 16⟩
abbrev F.BL_BEAM_EVCNT_MISS (l : Line) : Fld := ⟨0x013060 + 0x10000 * (l.idx % 2), 15, 8⟩
abbrev F.BL_BEAM_EVCNT_STEP (l : Line) : Fld := ⟨0x013060 + 0x10000 * (l.idx % 2), 7, 0⟩
/-- BLA_BEAM_QCNT, 05_beam_window. -/
abbrev R.BL_BEAM_QCNT (l : Line) : Nat := 0x013064 + 0x10000 * (l.idx % 2)
abbrev F.BL_BEAM_QCNT_DEFER (l : Line) : Fld := ⟨0x013064 + 0x10000 * (l.idx % 2), 31, 16⟩
abbrev F.BL_BEAM_QCNT_OVERSIZE (l : Line) : Fld := ⟨0x013064 + 0x10000 * (l.idx % 2), 15, 0⟩
/-- BLA_BEAM_INS, 05_beam_window. -/
abbrev R.BL_BEAM_INS (l : Line) : Nat := 0x013068 + 0x10000 * (l.idx % 2)
abbrev F.BL_BEAM_INS_CNT (l : Line) : Fld := ⟨0x013068 + 0x10000 * (l.idx % 2), 31, 0⟩
abbrev F.BL_BEAM_DLV_CNT (l : Line) : Fld := ⟨0x01306c + 0x10000 * (l.idx % 2), 31, 0⟩
abbrev F.FAB_CTRL_ETYPE_ETYPE : Fld := ⟨0x030040, 15, 0⟩
abbrev F.FAB_CTRL_CFG_CT_EN : Fld := ⟨0x030044, 27, 16⟩
abbrev F.FAB_CTRL_CFG_NATIVE_VID : Fld := ⟨0x030044, 11, 0⟩
/-- FAB_CTRL_AGE, 06_forwarding_and_flows. -/
abbrev R.FAB_CTRL_AGE : Nat := 0x030048
abbrev F.FAB_CTRL_AGE_AGE : Fld := ⟨0x030048, 15, 0⟩
/-- FAB_CTRL_GRPn, 06_forwarding_and_flows. -/
abbrev R.FAB_CTRL_GRP (n : Nat) : Nat := 0x030080 + 4 * (n % 16)
/-- FAB_CTRL_FUNCn, 06_forwarding_and_flows. -/
abbrev R.FAB_CTRL_FUNC (n : Nat) : Nat := 0x0300c0 + 4 * (n % 16)
abbrev F.FAB_CTRL_VLAN_W0_VALID (n : Nat) : Fld := ⟨0x030100 + 8 * (n % 64), 31, 31⟩
abbrev F.FAB_CTRL_VLAN_W0_LINE (n : Nat) : Fld := ⟨0x030100 + 8 * (n % 64), 30, 30⟩
abbrev F.FAB_CTRL_VLAN_W0_MEMBERS (n : Nat) : Fld := ⟨0x030100 + 8 * (n % 64), 27, 16⟩
abbrev F.FAB_CTRL_VLAN_W0_VID (n : Nat) : Fld := ⟨0x030100 + 8 * (n % 64), 11, 0⟩
abbrev F.FAB_CTRL_VLAN_W1_UNTAG (n : Nat) : Fld := ⟨0x030104 + 8 * (n % 64), 11, 0⟩
abbrev F.FAB_FLOW_SEL_INDEX : Fld := ⟨0x031040, 11, 0⟩
/-- FAB_FLOW_CMD, 06_forwarding_and_flows. -/
abbrev R.FAB_FLOW_CMD : Nat := 0x031044
/-- FAB_FLOW_DATAn, 06_forwarding_and_flows. -/
abbrev R.FAB_FLOW_DATA (n : Nat) : Nat := 0x031050 + 4 * (n % 16)
/-- FAB_FLOW_STAT, 06_forwarding_and_flows. -/
abbrev R.FAB_FLOW_STAT : Nat := 0x031090
abbrev F.FAB_FLOW_STAT_HASHFULL_CNT : Fld := ⟨0x031090, 31, 16⟩
abbrev F.FAB_FLOW_STAT_IN_USE : Fld := ⟨0x031090, 12, 0⟩
/-- FAB_FLOW_LASTEXP, 06_forwarding_and_flows. -/
abbrev R.FAB_FLOW_LASTEXP : Nat := 0x031094
abbrev F.FAB_FLOW_LASTEXP_EXP_TOTAL : Fld := ⟨0x031094, 31, 16⟩
abbrev F.FAB_FLOW_LASTEXP_INDEX : Fld := ⟨0x031094, 11, 0⟩
abbrev F.FAB_QUE_SEL_PORT : Fld := ⟨0x032040, 6, 3⟩
abbrev F.FAB_QUE_SEL_QUEUE : Fld := ⟨0x032040, 2, 0⟩
/-- FAB_QUE_CFG, 06_forwarding_and_flows. -/
abbrev R.FAB_QUE_CFG : Nat := 0x032044
/-- FAB_QUE_STAT, 06_forwarding_and_flows. -/
abbrev R.FAB_QUE_STAT : Nat := 0x032048
/-- FAB_QUE_BANK_LO, 06_forwarding_and_flows. -/
abbrev R.FAB_QUE_BANK_LO : Nat := 0x03204c
/-- FAB_QUE_BANK_HI, 06_forwarding_and_flows. -/
abbrev R.FAB_QUE_BANK_HI : Nat := 0x032050
/-- FAB_QUE_RETIRED, 06_forwarding_and_flows. -/
abbrev R.FAB_QUE_RETIRED : Nat := 0x032054
/-- FAB_QUE_MOVING, 06_forwarding_and_flows. -/
abbrev R.FAB_QUE_MOVING : Nat := 0x032058
/-- FAB_QUE_FREEp, 06_forwarding_and_flows. -/
abbrev R.FAB_QUE_FREE (p : Nat) : Nat := 0x032060 + 4 * (p % 4)
abbrev F.FAB_QUE_FREE_FREE (p : Nat) : Fld := ⟨0x032060 + 4 * (p % 4), 15, 0⟩
abbrev F.FAB_GATE_SEL_PORT : Fld := ⟨0x033040, 9, 6⟩
abbrev F.FAB_GATE_SEL_ENTRY : Fld := ⟨0x033040, 5, 0⟩
/-- FAB_GATE_ENTRY, 06_forwarding_and_flows. -/
abbrev R.FAB_GATE_ENTRY : Nat := 0x033044
/-- FAB_GATE_CTRL, 06_forwarding_and_flows. -/
abbrev R.FAB_GATE_CTRL : Nat := 0x033048
/-- FAB_GATE_STAT, 06_forwarding_and_flows. -/
abbrev R.FAB_GATE_STAT : Nat := 0x03304c
abbrev F.FAB_POL_SEL_INDEX : Fld := ⟨0x034040, 7, 0⟩
/-- FAB_POL_CFG, 06_forwarding_and_flows. -/
abbrev R.FAB_POL_CFG : Nat := 0x034044
/-- FAB_POL_CNT, 06_forwarding_and_flows. -/
abbrev R.FAB_POL_CNT : Nat := 0x034048
abbrev F.FAB_CNT_SEL_PORT : Fld := ⟨0x035040, 3, 0⟩
/-- FAB_CNT_RX, 06_forwarding_and_flows. -/
abbrev R.FAB_CNT_RX : Nat := 0x035044
/-- FAB_CNT_TX, 06_forwarding_and_flows. -/
abbrev R.FAB_CNT_TX : Nat := 0x035048
/-- FAB_CNT_DROP0, 06_forwarding_and_flows. -/
abbrev R.FAB_CNT_DROP0 : Nat := 0x03504c
/-- FAB_CNT_DROP1, 06_forwarding_and_flows. -/
abbrev R.FAB_CNT_DROP1 : Nat := 0x035050
/-- FAB_CNT_DROP2, 06_forwarding_and_flows. -/
abbrev R.FAB_CNT_DROP2 : Nat := 0x035054
abbrev F.FAB_CNT_NATIVE_NOCTX : Fld := ⟨0x035058, 31, 16⟩
abbrev F.FAB_CNT_NATIVE_BADHDR : Fld := ⟨0x035058, 15, 0⟩
abbrev F.FAB_CBDUP_CFG_EN : Fld := ⟨0x037040, 0, 0⟩
abbrev F.FAB_CBDUP_SEL_INDEX : Fld := ⟨0x037044, 7, 0⟩
/-- FAB_CBDUP_ID_HI, 06_forwarding_and_flows. -/
abbrev R.FAB_CBDUP_ID_HI : Nat := 0x037048
/-- FAB_CBDUP_ID_LO, 06_forwarding_and_flows. -/
abbrev R.FAB_CBDUP_ID_LO : Nat := 0x03704c
/-- FAB_CBDUP_CNT, 06_forwarding_and_flows. -/
abbrev R.FAB_CBDUP_CNT : Nat := 0x037050
abbrev F.CP_CTRL_TRDP_EN (h : Nat) : Fld := ⟨0x040040 + 0x10000 * (h % 2), 31, 31⟩
abbrev F.CP_CTRL_TRDP_PR_FW (h : Nat) : Fld := ⟨0x040040 + 0x10000 * (h % 2), 30, 30⟩
abbrev F.CP_CTRL_TRDP_DSCP (h : Nat) : Fld := ⟨0x040040 + 0x10000 * (h % 2), 21, 16⟩
abbrev F.CP_CTRL_TRDP_PORT (h : Nat) : Fld := ⟨0x040040 + 0x10000 * (h % 2), 15, 0⟩
/-- CPA_CTRL_IP, 06_forwarding_and_flows. -/
abbrev R.CP_CTRL_IP (h : Nat) : Nat := 0x040044 + 0x10000 * (h % 2)
/-- CPA_CTRL_ETBTOPO, 06_forwarding_and_flows. -/
abbrev R.CP_CTRL_ETBTOPO (h : Nat) : Nat := 0x040048 + 0x10000 * (h % 2)
/-- CPA_CTRL_OPTOPO, 06_forwarding_and_flows. -/
abbrev R.CP_CTRL_OPTOPO (h : Nat) : Nat := 0x04004c + 0x10000 * (h % 2)
abbrev F.CP_CTRL_CSEL_INDEX (h : Nat) : Fld := ⟨0x040050 + 0x10000 * (h % 2), 8, 0⟩
/-- CPA_CTRL_CDATAn, 06_forwarding_and_flows. -/
abbrev R.CP_CTRL_CDATA (h : Nat) (n : Nat) : Nat := 0x040060 + 0x10000 * (h % 2) + 4 * (n % 4)
/-- CPA_CTRL_PDRX, 06_forwarding_and_flows. -/
abbrev R.CP_CTRL_PDRX (h : Nat) : Nat := 0x040070 + 0x10000 * (h % 2)
abbrev F.CP_CTRL_PDRX_FRAMES (h : Nat) : Fld := ⟨0x040070 + 0x10000 * (h % 2), 31, 0⟩
/-- CPA_CTRL_PDTX, 06_forwarding_and_flows. -/
abbrev R.CP_CTRL_PDTX (h : Nat) : Nat := 0x040074 + 0x10000 * (h % 2)
abbrev F.CP_CTRL_PDTX_FRAMES (h : Nat) : Fld := ⟨0x040074 + 0x10000 * (h % 2), 31, 0⟩
/-- CPA_CTRL_PDERR, 06_forwarding_and_flows. -/
abbrev R.CP_CTRL_PDERR (h : Nat) : Nat := 0x040078 + 0x10000 * (h % 2)
abbrev F.CP_CTRL_PDERR_HFCS (h : Nat) : Fld := ⟨0x040078 + 0x10000 * (h % 2), 31, 24⟩
abbrev F.CP_CTRL_PDERR_TOPO (h : Nat) : Fld := ⟨0x040078 + 0x10000 * (h % 2), 23, 16⟩
abbrev F.CP_CTRL_PDERR_NOCOMID (h : Nat) : Fld := ⟨0x040078 + 0x10000 * (h % 2), 15, 8⟩
abbrev F.CP_CTRL_PDERR_FORMAT (h : Nat) : Fld := ⟨0x040078 + 0x10000 * (h % 2), 7, 0⟩
abbrev F.CP_P_CFG_PCP (p : Nat) : Fld := ⟨0x041040 + 0x10000 * (p % 8 / 4) + 0x1000 * (p % 4), 30, 28⟩
abbrev F.CP_P_CFG_POLICER (p : Nat) : Fld := ⟨0x041040 + 0x10000 * (p % 8 / 4) + 0x1000 * (p % 4), 27, 20⟩
abbrev F.CP_P_CFG_STRIP (p : Nat) : Fld := ⟨0x041040 + 0x10000 * (p % 8 / 4) + 0x1000 * (p % 4), 17, 17⟩
abbrev F.CP_P_CFG_G1 (p : Nat) : Fld := ⟨0x041040 + 0x10000 * (p % 8 / 4) + 0x1000 * (p % 4), 16, 16⟩
abbrev F.CP_P_CFG_PVID (p : Nat) : Fld := ⟨0x041040 + 0x10000 * (p % 8 / 4) + 0x1000 * (p % 4), 11, 0⟩
/-- CPA_Pn_STAT, 06_forwarding_and_flows. -/
abbrev R.CP_P_STAT (p : Nat) : Nat := 0x041044 + 0x10000 * (p % 8 / 4) + 0x1000 * (p % 4)
abbrev F.CP_P_STAT_LINK (p : Nat) : Fld := ⟨0x041044 + 0x10000 * (p % 8 / 4) + 0x1000 * (p % 4), 31, 31⟩
abbrev F.CP_P_STAT_SPEED (p : Nat) : Fld := ⟨0x041044 + 0x10000 * (p % 8 / 4) + 0x1000 * (p % 4), 30, 30⟩
abbrev F.CP_P_STAT_LINK_CHG (p : Nat) : Fld := ⟨0x041044 + 0x10000 * (p % 8 / 4) + 0x1000 * (p % 4), 15, 0⟩
/-- CPA_Pn_ERR, 06_forwarding_and_flows. -/
abbrev R.CP_P_ERR (p : Nat) : Nat := 0x041048 + 0x10000 * (p % 8 / 4) + 0x1000 * (p % 4)
abbrev F.CP_P_ERR_FCS_ERR (p : Nat) : Fld := ⟨0x041048 + 0x10000 * (p % 8 / 4) + 0x1000 * (p % 4), 31, 16⟩
abbrev F.CP_P_ERR_MACCTL (p : Nat) : Fld := ⟨0x041048 + 0x10000 * (p % 8 / 4) + 0x1000 * (p % 4), 15, 0⟩
abbrev F.SGW_CTRL_CFG_STALL_N : Fld := ⟨0x060040, 31, 24⟩
abbrev F.SGW_CTRL_CFG_PASS_DIV : Fld := ⟨0x060040, 7, 0⟩
/-- SGW_CTRL_STAT, 07_signal_gateway. -/
abbrev R.SGW_CTRL_STAT : Nat := 0x060044
abbrev F.SGW_CTRL_STAT_MUTED : Fld := ⟨0x060044, 31, 31⟩
abbrev F.SGW_CTRL_STAT_RUNNING : Fld := ⟨0x060044, 30, 30⟩
abbrev F.SGW_CTRL_STAT_FLIP_PEND : Fld := ⟨0x060044, 29, 29⟩
abbrev F.SGW_CTRL_STAT_ACT_BANK : Fld := ⟨0x060044, 28, 28⟩
abbrev F.SGW_CTRL_STAT_STALL : Fld := ⟨0x060044, 27, 27⟩
abbrev F.SGW_CTRL_STAT_PASS_T : Fld := ⟨0x060044, 15, 0⟩
/-- SGW_CTRL_FLIP, 07_signal_gateway. -/
abbrev R.SGW_CTRL_FLIP : Nat := 0x060048
abbrev F.SGW_CTRL_FLIP_AT_K : Fld := ⟨0x060048, 1, 1⟩
abbrev F.SGW_CTRL_FLIP_K_K : Fld := ⟨0x06004c, 31, 0⟩
/-- SGW_CTRL_FLIPSTAT, 07_signal_gateway. -/
abbrev R.SGW_CTRL_FLIPSTAT : Nat := 0x060050
abbrev F.SGW_CTRL_FLIPSTAT_RESULT : Fld := ⟨0x060050, 31, 28⟩
/-- SGW_CTRL_FLIPCYC, 07_signal_gateway. -/
abbrev R.SGW_CTRL_FLIPCYC : Nat := 0x060054
/-- SGW_CTRL_NENT0, 07_signal_gateway. -/
abbrev R.SGW_CTRL_NENT0 : Nat := 0x060058
abbrev F.SGW_CTRL_NENT0_NENT : Fld := ⟨0x060058, 16, 0⟩
/-- SGW_CTRL_NENT1, 07_signal_gateway. -/
abbrev R.SGW_CTRL_NENT1 : Nat := 0x06005c
abbrev F.SGW_CTRL_NENT1_NENT : Fld := ⟨0x06005c, 16, 0⟩
/-- SGW_CTRL_PASSCNT, 07_signal_gateway. -/
abbrev R.SGW_CTRL_PASSCNT : Nat := 0x060060
abbrev F.SGW_CTRL_PASSCNT_CNT : Fld := ⟨0x060060, 31, 0⟩
abbrev F.SGW_CTRL_PMAX_PASS_MAX : Fld := ⟨0x060064, 15, 0⟩
/-- SGW_CTRL_CNT, 07_signal_gateway. -/
abbrev R.SGW_CTRL_CNT : Nat := 0x060068
abbrev F.SGW_CTRL_CNT_OVERRUN : Fld := ⟨0x060068, 31, 24⟩
abbrev F.SGW_CTRL_CNT_FLIP_DEFER : Fld := ⟨0x060068, 23, 16⟩
abbrev F.SGW_CTRL_CNT_TGT_ERR : Fld := ⟨0x060068, 15, 0⟩
/-- SGW_CTRL_INCNT, 07_signal_gateway. -/
abbrev R.SGW_CTRL_INCNT : Nat := 0x06006c
abbrev F.SGW_CTRL_INCNT_NOINP : Fld := ⟨0x06006c, 31, 16⟩
abbrev F.SGW_CTRL_INCNT_INP_OVW : Fld := ⟨0x06006c, 15, 0⟩
/-- SGW_CTRL_UE, 07_signal_gateway. -/
abbrev R.SGW_CTRL_UE : Nat := 0x060070
abbrev F.SGW_CTRL_UE_UE_CNT : Fld := ⟨0x060070, 31, 24⟩
abbrev F.SGW_CTRL_UE_INDEX : Fld := ⟨0x060070, 16, 0⟩
/-- SGW_MAP_SEL, 07_signal_gateway. -/
abbrev R.SGW_MAP_SEL : Nat := 0x061040
abbrev F.SGW_MAP_SEL_BANK : Fld := ⟨0x061040, 31, 31⟩
abbrev F.SGW_MAP_SEL_AINC : Fld := ⟨0x061040, 30, 30⟩
abbrev F.SGW_MAP_SEL_INDEX : Fld := ⟨0x061040, 16, 0⟩
/-- SGW_MAP_CMD, 07_signal_gateway. -/
abbrev R.SGW_MAP_CMD : Nat := 0x061044
abbrev F.SGW_MAP_CMD_STATUS : Fld := ⟨0x061044, 31, 28⟩
/-- SGW_MAP_DATAn, 07_signal_gateway. -/
abbrev R.SGW_MAP_DATA (n : Nat) : Nat := 0x061050 + 4 * (n % 4)
/-- SGW_IMG_SEL, 07_signal_gateway. -/
abbrev R.SGW_IMG_SEL : Nat := 0x062040
abbrev F.SGW_IMG_SEL_AINC : Fld := ⟨0x062040, 30, 30⟩
abbrev F.SGW_IMG_SEL_INDEX : Fld := ⟨0x062040, 16, 0⟩
/-- SGW_IMG_LO, 07_signal_gateway. -/
abbrev R.SGW_IMG_LO : Nat := 0x062044
/-- SGW_IMG_HI, 07_signal_gateway. -/
abbrev R.SGW_IMG_HI : Nat := 0x062048
/-- SGW_RCP_SEL, 07_signal_gateway. -/
abbrev R.SGW_RCP_SEL : Nat := 0x063040
abbrev F.SGW_RCP_SEL_BANK : Fld := ⟨0x063040, 31, 31⟩
abbrev F.SGW_RCP_SEL_TABLE : Fld := ⟨0x063040, 30, 30⟩
abbrev F.SGW_RCP_SEL_AINC : Fld := ⟨0x063040, 29, 29⟩
abbrev F.SGW_RCP_SEL_INDEX : Fld := ⟨0x063040, 9, 0⟩
/-- SGW_RCP_CMD, 07_signal_gateway. -/
abbrev R.SGW_RCP_CMD : Nat := 0x063044
abbrev F.SGW_RCP_CMD_STATUS : Fld := ⟨0x063044, 31, 28⟩
/-- SGW_RCP_DATAn, 07_signal_gateway. -/
abbrev R.SGW_RCP_DATA (n : Nat) : Nat := 0x063050 + 4 * (n % 4)
/-- SGW_RCP_ISTAT, 07_signal_gateway. -/
abbrev R.SGW_RCP_ISTAT : Nat := 0x063060
/-- SGW_RCP_RSUB, 07_signal_gateway. -/
abbrev R.SGW_RCP_RSUB : Nat := 0x063064
/-- CBL_CTRL_MSEL, 08_car_buses. -/
abbrev R.CB_CTRL_MSEL (h : Nat) : Nat := 0x070040 + 0x10000 * (h % 2)
abbrev F.CB_CTRL_MSEL_AINC (h : Nat) : Fld := ⟨0x070040 + 0x10000 * (h % 2), 31, 31⟩
abbrev F.CB_CTRL_MSEL_CHAN (h : Nat) : Fld := ⟨0x070040 + 0x10000 * (h % 2), 18, 16⟩
abbrev F.CB_CTRL_MSEL_WORD (h : Nat) : Fld := ⟨0x070040 + 0x10000 * (h % 2), 12, 0⟩
/-- CBL_CTRL_MDATA_LO, 08_car_buses. -/
abbrev R.CB_CTRL_MDATA_LO (h : Nat) : Nat := 0x070044 + 0x10000 * (h % 2)
/-- CBL_CTRL_MDATA_HI, 08_car_buses. -/
abbrev R.CB_CTRL_MDATA_HI (h : Nat) : Nat := 0x070048 + 0x10000 * (h % 2)
/-- CBL_CTRL_TMc_CFG, 08_car_buses. -/
abbrev R.CB_CTRL_TM_CFG (n : Nat) : Nat := 0x070100 + 0x10000 * (n % 16 / 8) + 16 * (n % 8)
abbrev F.CB_CTRL_TM_CFG_EN (n : Nat) : Fld := ⟨0x070100 + 0x10000 * (n % 16 / 8) + 16 * (n % 8), 31, 31⟩
abbrev F.CB_CTRL_TM_CFG_L2 (n : Nat) : Fld := ⟨0x070100 + 0x10000 * (n % 16 / 8) + 16 * (n % 8), 30, 30⟩
abbrev F.CB_CTRL_TM_CFG_IDE (n : Nat) : Fld := ⟨0x070100 + 0x10000 * (n % 16 / 8) + 16 * (n % 8), 29, 29⟩
abbrev F.CB_CTRL_TM_CFG_REFID (n : Nat) : Fld := ⟨0x070100 + 0x10000 * (n % 16 / 8) + 16 * (n % 8), 28, 0⟩
abbrev F.CB_CTRL_TM_SCHED_PERIOD (n : Nat) : Fld := ⟨0x070104 + 0x10000 * (n % 16 / 8) + 16 * (n % 8), 31, 16⟩
abbrev F.CB_CTRL_TM_SCHED_CYC (n : Nat) : Fld := ⟨0x070104 + 0x10000 * (n % 16 / 8) + 16 * (n % 8), 15, 13⟩
abbrev F.CB_CTRL_TM_PH_NTU (n : Nat) : Fld := ⟨0x070108 + 0x10000 * (n % 16 / 8) + 16 * (n % 8), 31, 16⟩
abbrev F.CB_CTRL_TM_PH_PHASE (n : Nat) : Fld := ⟨0x070108 + 0x10000 * (n % 16 / 8) + 16 * (n % 8), 15, 0⟩
/-- CBL_CTRL_TMc_STAT, 08_car_buses. -/
abbrev R.CB_CTRL_TM_STAT (n : Nat) : Nat := 0x07010c + 0x10000 * (n % 16 / 8) + 16 * (n % 8)
abbrev F.CB_CTRL_TM_STAT_CC (n : Nat) : Fld := ⟨0x07010c + 0x10000 * (n % 16 / 8) + 16 * (n % 8), 31, 26⟩
abbrev F.CB_CTRL_TM_STAT_SENDING (n : Nat) : Fld := ⟨0x07010c + 0x10000 * (n % 16 / 8) + 16 * (n % 8), 25, 25⟩
abbrev F.CB_CTRL_TM_STAT_LATE (n : Nat) : Fld := ⟨0x07010c + 0x10000 * (n % 16 / 8) + 16 * (n % 8), 15, 0⟩
/-- CBL_CANn_MODE, 08_car_buses. -/
abbrev R.CB_CAN_MODE (n : Nat) : Nat := 0x071040 + 0x10000 * (n % 16 / 8) + 0x1000 * (n % 8)
abbrev F.CB_CAN_MODE_EMODE (n : Nat) : Fld := ⟨0x071040 + 0x10000 * (n % 16 / 8) + 0x1000 * (n % 8), 18, 16⟩
abbrev F.CB_CAN_MODE_FD_EN (n : Nat) : Fld := ⟨0x071040 + 0x10000 * (n % 16 / 8) + 0x1000 * (n % 8), 7, 7⟩
abbrev F.CB_CAN_MODE_PX_FORM (n : Nat) : Fld := ⟨0x071040 + 0x10000 * (n % 16 / 8) + 0x1000 * (n % 8), 6, 6⟩
abbrev F.CB_CAN_MODE_MODE (n : Nat) : Fld := ⟨0x071040 + 0x10000 * (n % 16 / 8) + 0x1000 * (n % 8), 2, 0⟩
/-- CBL_CANn_STAT, 08_car_buses. -/
abbrev R.CB_CAN_STAT (n : Nat) : Nat := 0x071044 + 0x10000 * (n % 16 / 8) + 0x1000 * (n % 8)
abbrev F.CB_CAN_STAT_STATE (n : Nat) : Fld := ⟨0x071044 + 0x10000 * (n % 16 / 8) + 0x1000 * (n % 8), 28, 27⟩
abbrev F.CB_CAN_STAT_LONE (n : Nat) : Fld := ⟨0x071044 + 0x10000 * (n % 16 / 8) + 0x1000 * (n % 8), 26, 26⟩
abbrev F.CB_CAN_STAT_ACT (n : Nat) : Fld := ⟨0x071044 + 0x10000 * (n % 16 / 8) + 0x1000 * (n % 8), 25, 24⟩
abbrev F.CB_CAN_STAT_AERR (n : Nat) : Fld := ⟨0x071044 + 0x10000 * (n % 16 / 8) + 0x1000 * (n % 8), 22, 20⟩
abbrev F.CB_CAN_STAT_FERR (n : Nat) : Fld := ⟨0x071044 + 0x10000 * (n % 16 / 8) + 0x1000 * (n % 8), 18, 16⟩
abbrev F.CB_CAN_STAT_TEC (n : Nat) : Fld := ⟨0x071044 + 0x10000 * (n % 16 / 8) + 0x1000 * (n % 8), 15, 8⟩
abbrev F.CB_CAN_STAT_REC (n : Nat) : Fld := ⟨0x071044 + 0x10000 * (n % 16 / 8) + 0x1000 * (n % 8), 7, 0⟩
/-- CBL_CANn_NBT, 08_car_buses. -/
abbrev R.CB_CAN_NBT (n : Nat) : Nat := 0x071048 + 0x10000 * (n % 16 / 8) + 0x1000 * (n % 8)
/-- CBL_CANn_DBT, 08_car_buses. -/
abbrev R.CB_CAN_DBT (n : Nat) : Nat := 0x07104c + 0x10000 * (n % 16 / 8) + 0x1000 * (n % 8)
/-- CBL_CANn_SSP, 08_car_buses. -/
abbrev R.CB_CAN_SSP (n : Nat) : Nat := 0x071050 + 0x10000 * (n % 16 / 8) + 0x1000 * (n % 8)
abbrev F.CB_CAN_SSP_LOOP (n : Nat) : Fld := ⟨0x071050 + 0x10000 * (n % 16 / 8) + 0x1000 * (n % 8), 7, 0⟩
abbrev F.CB_CAN_ERRCFG_BOFF_AUTO (n : Nat) : Fld := ⟨0x071054 + 0x10000 * (n % 16 / 8) + 0x1000 * (n % 8), 31, 31⟩
abbrev F.CB_CAN_ERRCFG_LONE_N (n : Nat) : Fld := ⟨0x071054 + 0x10000 * (n % 16 / 8) + 0x1000 * (n % 8), 15, 8⟩
abbrev F.CB_CAN_ERRCFG_CLASH_N (n : Nat) : Fld := ⟨0x071054 + 0x10000 * (n % 16 / 8) + 0x1000 * (n % 8), 3, 0⟩
abbrev F.CB_CAN_FILT_NM_STORE (n : Nat) : Fld := ⟨0x071058 + 0x10000 * (n % 16 / 8) + 0x1000 * (n % 8), 31, 31⟩
abbrev F.CB_CAN_FILT_DEFQ (n : Nat) : Fld := ⟨0x071058 + 0x10000 * (n % 16 / 8) + 0x1000 * (n % 8), 26, 24⟩
abbrev F.CB_CAN_FILT_NFILT (n : Nat) : Fld := ⟨0x071058 + 0x10000 * (n % 16 / 8) + 0x1000 * (n % 8), 7, 0⟩
/-- CBL_CANn_CMD, 08_car_buses. -/
abbrev R.CB_CAN_CMD (n : Nat) : Nat := 0x07105c + 0x10000 * (n % 16 / 8) + 0x1000 * (n % 8)
/-- CBL_CANn_XCVR, 08_car_buses. -/
abbrev R.CB_CAN_XCVR (n : Nat) : Nat := 0x071060 + 0x10000 * (n % 16 / 8) + 0x1000 * (n % 8)
abbrev F.CB_CAN_XCVR_STB_CTL (n : Nat) : Fld := ⟨0x071060 + 0x10000 * (n % 16 / 8) + 0x1000 * (n % 8), 5, 4⟩
abbrev F.CB_CAN_XCVR_STB (n : Nat) : Fld := ⟨0x071060 + 0x10000 * (n % 16 / 8) + 0x1000 * (n % 8), 1, 1⟩
/-- CBL_CANn_ECNT, 08_car_buses. -/
abbrev R.CB_CAN_ECNT (n : Nat) : Nat := 0x071064 + 0x10000 * (n % 16 / 8) + 0x1000 * (n % 8)
abbrev F.CB_CAN_ECNT_BUSOFF (n : Nat) : Fld := ⟨0x071064 + 0x10000 * (n % 16 / 8) + 0x1000 * (n % 8), 31, 24⟩
abbrev F.CB_CAN_ECNT_PASSIVE (n : Nat) : Fld := ⟨0x071064 + 0x10000 * (n % 16 / 8) + 0x1000 * (n % 8), 23, 16⟩
abbrev F.CB_CAN_ECNT_ACKERR (n : Nat) : Fld := ⟨0x071064 + 0x10000 * (n % 16 / 8) + 0x1000 * (n % 8), 15, 0⟩
/-- CBL_CANn_RXCNT, 08_car_buses. -/
abbrev R.CB_CAN_RXCNT (n : Nat) : Nat := 0x071068 + 0x10000 * (n % 16 / 8) + 0x1000 * (n % 8)
abbrev F.CB_CAN_RXCNT_FRAMES (n : Nat) : Fld := ⟨0x071068 + 0x10000 * (n % 16 / 8) + 0x1000 * (n % 8), 31, 0⟩
/-- CBL_CANn_TXCNT, 08_car_buses. -/
abbrev R.CB_CAN_TXCNT (n : Nat) : Nat := 0x07106c + 0x10000 * (n % 16 / 8) + 0x1000 * (n % 8)
abbrev F.CB_CAN_TXCNT_FRAMES (n : Nat) : Fld := ⟨0x07106c + 0x10000 * (n % 16 / 8) + 0x1000 * (n % 8), 31, 0⟩
/-- CBL_CANn_FCNT, 08_car_buses. -/
abbrev R.CB_CAN_FCNT (n : Nat) : Nat := 0x071070 + 0x10000 * (n % 16 / 8) + 0x1000 * (n % 8)
abbrev F.CB_CAN_FCNT_NOMATCH (n : Nat) : Fld := ⟨0x071070 + 0x10000 * (n % 16 / 8) + 0x1000 * (n % 8), 31, 16⟩
abbrev F.CB_CAN_FCNT_PX (n : Nat) : Fld := ⟨0x071070 + 0x10000 * (n % 16 / 8) + 0x1000 * (n % 8), 15, 0⟩
/-- CBL_CANn_CCNT, 08_car_buses. -/
abbrev R.CB_CAN_CCNT (n : Nat) : Nat := 0x071074 + 0x10000 * (n % 16 / 8) + 0x1000 * (n % 8)
abbrev F.CB_CAN_CCNT_CLASH_LOST (n : Nat) : Fld := ⟨0x071074 + 0x10000 * (n % 16 / 8) + 0x1000 * (n % 8), 31, 16⟩
abbrev F.CB_CAN_CCNT_CLASH_USED (n : Nat) : Fld := ⟨0x071074 + 0x10000 * (n % 16 / 8) + 0x1000 * (n % 8), 14, 8⟩
abbrev F.CB_CAN_CCNT_LONE_CNT (n : Nat) : Fld := ⟨0x071074 + 0x10000 * (n % 16 / 8) + 0x1000 * (n % 8), 7, 0⟩
/-- CBL_CANn_QqCFG, 08_car_buses. -/
abbrev R.CB_CAN_QCFG (n : Nat) (q : Nat) : Nat := 0x071100 + 0x10000 * (n % 16 / 8) + 0x1000 * (n % 8) + 16 * (q % 16)
abbrev F.CB_CAN_QCFG_EN (n : Nat) (q : Nat) : Fld := ⟨0x071100 + 0x10000 * (n % 16 / 8) + 0x1000 * (n % 8) + 16 * (q % 16), 31, 31⟩
abbrev F.CB_CAN_QCFG_IE (n : Nat) (q : Nat) : Fld := ⟨0x071100 + 0x10000 * (n % 16 / 8) + 0x1000 * (n % 8) + 16 * (q % 16), 30, 30⟩
abbrev F.CB_CAN_QCFG_OWNER (n : Nat) (q : Nat) : Fld := ⟨0x071100 + 0x10000 * (n % 16 / 8) + 0x1000 * (n % 8) + 16 * (q % 16), 29, 28⟩
abbrev F.CB_CAN_QCFG_DSZ (n : Nat) (q : Nat) : Fld := ⟨0x071100 + 0x10000 * (n % 16 / 8) + 0x1000 * (n % 8) + 16 * (q % 16), 27, 26⟩
abbrev F.CB_CAN_QCFG_RETRY (n : Nat) (q : Nat) : Fld := ⟨0x071100 + 0x10000 * (n % 16 / 8) + 0x1000 * (n % 8) + 16 * (q % 16), 25, 22⟩
abbrev F.CB_CAN_QCFG_NSLOTM1 (n : Nat) (q : Nat) : Fld := ⟨0x071100 + 0x10000 * (n % 16 / 8) + 0x1000 * (n % 8) + 16 * (q % 16), 21, 12⟩
abbrev F.CB_CAN_QCFG_BASE (n : Nat) (q : Nat) : Fld := ⟨0x071100 + 0x10000 * (n % 16 / 8) + 0x1000 * (n % 8) + 16 * (q % 16), 11, 0⟩
/-- CBL_CANn_QqCNT, 08_car_buses. -/
abbrev R.CB_CAN_QCNT (n : Nat) (q : Nat) : Nat := 0x071108 + 0x10000 * (n % 16 / 8) + 0x1000 * (n % 8) + 16 * (q % 16)
abbrev F.CB_CAN_QCNT_LOST (n : Nat) (q : Nat) : Fld := ⟨0x071108 + 0x10000 * (n % 16 / 8) + 0x1000 * (n % 8) + 16 * (q % 16), 31, 16⟩
abbrev F.CB_CAN_QCNT_REPL (n : Nat) (q : Nat) : Fld := ⟨0x071108 + 0x10000 * (n % 16 / 8) + 0x1000 * (n % 8) + 16 * (q % 16), 15, 0⟩
/-- TIM_BASE_MONO_LO, 09_train_time. -/
abbrev R.TIM_BASE_MONO_LO : Nat := 0x090040
/-- TIM_BASE_MONO_HI, 09_train_time. -/
abbrev R.TIM_BASE_MONO_HI : Nat := 0x090044
/-- TIM_BASE_TT_LO, 09_train_time. -/
abbrev R.TIM_BASE_TT_LO : Nat := 0x090048
/-- TIM_BASE_TT_HI, 09_train_time. -/
abbrev R.TIM_BASE_TT_HI : Nat := 0x09004c
/-- TIM_BASE_WALL_LO, 09_train_time. -/
abbrev R.TIM_BASE_WALL_LO : Nat := 0x090050
/-- TIM_BASE_WALL_HI, 09_train_time. -/
abbrev R.TIM_BASE_WALL_HI : Nat := 0x090054
/-- TIM_BASE_WOFS_LO, 09_train_time. -/
abbrev R.TIM_BASE_WOFS_LO : Nat := 0x090058
abbrev F.TIM_BASE_WOFS_LO_WOFS : Fld := ⟨0x090058, 31, 0⟩
/-- TIM_BASE_WOFS_HI, 09_train_time. -/
abbrev R.TIM_BASE_WOFS_HI : Nat := 0x09005c
abbrev F.TIM_BASE_WOFS_HI_WOFS : Fld := ⟨0x09005c, 31, 0⟩
/-- TIM_BASE_WCTL, 09_train_time. -/
abbrev R.TIM_BASE_WCTL : Nat := 0x090060
abbrev F.TIM_BASE_WCTL_WGEN : Fld := ⟨0x090060, 31, 16⟩
abbrev F.TIM_BASE_WCTL_WLEAD : Fld := ⟨0x090060, 15, 8⟩
abbrev F.TIM_BASE_WCTL_WPEND : Fld := ⟨0x090060, 0, 0⟩
/-- TIM_BASE_STAT, 09_train_time. -/
abbrev R.TIM_BASE_STAT : Nat := 0x090064
abbrev F.TIM_BASE_STAT_GM_NODE : Fld := ⟨0x090064, 24, 16⟩
abbrev F.TIM_BASE_STAT_OUTW : Fld := ⟨0x090064, 7, 7⟩
abbrev F.TIM_BASE_STAT_LINE : Fld := ⟨0x090064, 6, 6⟩
abbrev F.TIM_BASE_STAT_GM_CONFLICT : Fld := ⟨0x090064, 5, 5⟩
abbrev F.TIM_BASE_STAT_AHEAD : Fld := ⟨0x090064, 4, 4⟩
abbrev F.TIM_BASE_STAT_STATE : Fld := ⟨0x090064, 2, 0⟩
/-- TIM_BASE_CMD, 09_train_time. -/
abbrev R.TIM_BASE_CMD : Nat := 0x090068
/-- TIM_SERVO_GAIN, 09_train_time. -/
abbrev R.TIM_SERVO_GAIN : Nat := 0x091040
abbrev F.TIM_SERVO_GAIN_KP : Fld := ⟨0x091040, 15, 8⟩
abbrev F.TIM_SERVO_GAIN_KI : Fld := ⟨0x091040, 7, 0⟩
/-- TIM_SERVO_LIMIT, 09_train_time. -/
abbrev R.TIM_SERVO_LIMIT : Nat := 0x091044
abbrev F.TIM_SERVO_LIMIT_STEP_THR : Fld := ⟨0x091044, 31, 16⟩
abbrev F.TIM_SERVO_LIMIT_SLEW_MAX : Fld := ⟨0x091044, 15, 0⟩
/-- TIM_SERVO_CFG, 09_train_time. -/
abbrev R.TIM_SERVO_CFG : Nat := 0x091048
abbrev F.TIM_SERVO_CFG_LOCK_THR : Fld := ⟨0x091048, 31, 24⟩
abbrev F.TIM_SERVO_CFG_LOCK_N : Fld := ⟨0x091048, 23, 16⟩
abbrev F.TIM_SERVO_CFG_TF_MISS : Fld := ⟨0x091048, 11, 8⟩
abbrev F.TIM_SERVO_CFG_TF_DIV : Fld := ⟨0x091048, 7, 0⟩
/-- TIM_SERVO_OFFS, 09_train_time. -/
abbrev R.TIM_SERVO_OFFS : Nat := 0x09104c
abbrev F.TIM_SERVO_OFFS_E : Fld := ⟨0x09104c, 31, 0⟩
/-- TIM_SERVO_ADJ, 09_train_time. -/
abbrev R.TIM_SERVO_ADJ : Nat := 0x091050
/-- TIM_SERVO_INTEG, 09_train_time. -/
abbrev R.TIM_SERVO_INTEG : Nat := 0x091054
/-- TIM_SERVO_CNT, 09_train_time. -/
abbrev R.TIM_SERVO_CNT : Nat := 0x091058
abbrev F.TIM_SERVO_CNT_STEPS : Fld := ⟨0x091058, 31, 24⟩
abbrev F.TIM_SERVO_CNT_LOSSES : Fld := ⟨0x091058, 23, 16⟩
abbrev F.TIM_SERVO_CNT_NOREF : Fld := ⟨0x091058, 15, 0⟩
/-- TIM_SERVO_USED, 09_train_time. -/
abbrev R.TIM_SERVO_USED : Nat := 0x09105c
abbrev F.TIM_SERVO_USED_CNT : Fld := ⟨0x09105c, 31, 0⟩
/-- TIM_TS_SEL, 09_train_time. -/
abbrev R.TIM_TS_SEL : Nat := 0x092040
/-- TIM_TS_CYC, 09_train_time. -/
abbrev R.TIM_TS_CYC : Nat := 0x092044
/-- TIM_TS_LO, 09_train_time. -/
abbrev R.TIM_TS_LO : Nat := 0x092048
/-- TIM_TS_HI, 09_train_time. -/
abbrev R.TIM_TS_HI : Nat := 0x09204c
/-- TIM_TS_D, 09_train_time. -/
abbrev R.TIM_TS_D : Nat := 0x092050
abbrev F.TIM_AS_CTRL_EN : Fld := ⟨0x093040, 7, 0⟩
abbrev F.TIM_AS_PRIO_PRIO1_ACT : Fld := ⟨0x093044, 31, 24⟩
abbrev F.TIM_AS_PRIO_PRIO1_SBY : Fld := ⟨0x093044, 23, 16⟩
abbrev F.TIM_AS_PRIO_PRIO2 : Fld := ⟨0x093044, 15, 8⟩
abbrev F.TIM_AS_PRIO_CLASS : Fld := ⟨0x093044, 7, 0⟩
abbrev F.TIM_AS_UTC_VALID : Fld := ⟨0x093048, 16, 16⟩
abbrev F.TIM_AS_UTC_OFFSET : Fld := ⟨0x093048, 15, 0⟩
/-- TIM_AS_ID_LO, 09_train_time. -/
abbrev R.TIM_AS_ID_LO : Nat := 0x09304c
/-- TIM_AS_ID_HI, 09_train_time. -/
abbrev R.TIM_AS_ID_HI : Nat := 0x093050
abbrev F.TIM_AS_PSEL_PORT : Fld := ⟨0x093054, 2, 0⟩
/-- TIM_AS_PSTAT, 09_train_time. -/
abbrev R.TIM_AS_PSTAT : Nat := 0x093058
/-- TIM_AS_PCNT, 09_train_time. -/
abbrev R.TIM_AS_PCNT : Nat := 0x09305c
/-- TIM_AS_TBI, 09_train_time. -/
abbrev R.TIM_AS_TBI : Nat := 0x093060
abbrev F.TIM_AS_TBI_TBI : Fld := ⟨0x093060, 15, 0⟩
/-- TWN_CTRL_ROLE, 10_twin_redundancy. -/
abbrev R.TWN_CTRL_ROLE : Nat := 0x0a0040
abbrev F.TWN_CTRL_ROLE_SOLO : Fld := ⟨0x0a0040, 31, 31⟩
abbrev F.TWN_CTRL_ROLE_TPOS_EFF : Fld := ⟨0x0a0040, 30, 30⟩
abbrev F.TWN_CTRL_ROLE_TPOS : Fld := ⟨0x0a0040, 29, 29⟩
abbrev F.TWN_CTRL_ROLE_TPOS_DUP : Fld := ⟨0x0a0040, 28, 28⟩
abbrev F.TWN_CTRL_ROLE_ELIG : Fld := ⟨0x0a0040, 27, 27⟩
abbrev F.TWN_CTRL_ROLE_SYNCED : Fld := ⟨0x0a0040, 26, 26⟩
abbrev F.TWN_CTRL_ROLE_CLAIM_DRV : Fld := ⟨0x0a0040, 25, 25⟩
abbrev F.TWN_CTRL_ROLE_CLAIM_IN : Fld := ⟨0x0a0040, 24, 24⟩
abbrev F.TWN_CTRL_ROLE_CLAIM_FAULT : Fld := ⟨0x0a0040, 23, 22⟩
abbrev F.TWN_CTRL_ROLE_PROLE : Fld := ⟨0x0a0040, 15, 13⟩
abbrev F.TWN_CTRL_ROLE_PSYNCED : Fld := ⟨0x0a0040, 12, 12⟩
abbrev F.TWN_CTRL_ROLE_W_M : Fld := ⟨0x0a0040, 11, 11⟩
abbrev F.TWN_CTRL_ROLE_W_BA : Fld := ⟨0x0a0040, 10, 10⟩
abbrev F.TWN_CTRL_ROLE_W_BB : Fld := ⟨0x0a0040, 9, 9⟩
abbrev F.TWN_CTRL_ROLE_ROLE : Fld := ⟨0x0a0040, 2, 0⟩
abbrev F.TWN_CTRL_CFG_CLT_PER : Fld := ⟨0x0a0044, 15, 8⟩
abbrev F.TWN_CTRL_CFG_AUTO_ADMIT : Fld := ⟨0x0a0044, 2, 2⟩
abbrev F.TWN_CTRL_CFG_AUTO_HO : Fld := ⟨0x0a0044, 1, 1⟩
/-- TWN_CTRL_CMD, 10_twin_redundancy. -/
abbrev R.TWN_CTRL_CMD : Nat := 0x0a0048
/-- TWN_CTRL_HO, 10_twin_redundancy. -/
abbrev R.TWN_CTRL_HO : Nat := 0x0a004c
abbrev F.TWN_CTRL_HO_RESULT : Fld := ⟨0x0a004c, 31, 28⟩
/-- TWN_CTRL_HOK, 10_twin_redundancy. -/
abbrev R.TWN_CTRL_HOK : Nat := 0x0a0050
abbrev F.TWN_CTRL_HOK_HK : Fld := ⟨0x0a0050, 31, 0⟩
/-- TWN_CTRL_PSER_LO, 10_twin_redundancy. -/
abbrev R.TWN_CTRL_PSER_LO : Nat := 0x0a0054
/-- TWN_CTRL_PSER_HI, 10_twin_redundancy. -/
abbrev R.TWN_CTRL_PSER_HI : Nat := 0x0a0058
/-- TWN_CTRL_CNT, 10_twin_redundancy. -/
abbrev R.TWN_CTRL_CNT : Nat := 0x0a005c
abbrev F.TWN_CTRL_CNT_TAKEOVERS : Fld := ⟨0x0a005c, 31, 24⟩
abbrev F.TWN_CTRL_CNT_HANDOVERS : Fld := ⟨0x0a005c, 23, 16⟩
abbrev F.TWN_CTRL_CNT_DEFERS : Fld := ⟨0x0a005c, 15, 8⟩
abbrev F.TWN_CTRL_CNT_VETOES : Fld := ⟨0x0a005c, 7, 0⟩
/-- TWN_CTRL_LAST, 10_twin_redundancy. -/
abbrev R.TWN_CTRL_LAST : Nat := 0x0a0060
/-- TWN_MLINK_STAT, 10_twin_redundancy. -/
abbrev R.TWN_MLINK_STAT : Nat := 0x0a1040
abbrev F.TWN_MLINK_STAT_STATE : Fld := ⟨0x0a1040, 31, 30⟩
abbrev F.TWN_MLINK_STAT_L0_LOCK : Fld := ⟨0x0a1040, 29, 29⟩
abbrev F.TWN_MLINK_STAT_L1_LOCK : Fld := ⟨0x0a1040, 28, 28⟩
abbrev F.TWN_MLINK_STAT_BASE : Fld := ⟨0x0a1040, 27, 27⟩
abbrev F.TWN_MLINK_STAT_LANT_AGE : Fld := ⟨0x0a1040, 15, 0⟩
/-- TWN_MLINK_EPOCH, 10_twin_redundancy. -/
abbrev R.TWN_MLINK_EPOCH : Nat := 0x0a1044
abbrev F.TWN_MLINK_EPOCH_N : Fld := ⟨0x0a1044, 31, 0⟩
abbrev F.TWN_MLINK_SIZE_LAST : Fld := ⟨0x0a1048, 31, 16⟩
abbrev F.TWN_MLINK_SIZE_MAX : Fld := ⟨0x0a1048, 15, 0⟩
/-- TWN_MLINK_ERR, 10_twin_redundancy. -/
abbrev R.TWN_MLINK_ERR : Nat := 0x0a104c
abbrev F.TWN_MLINK_ERR_CRC_ERR : Fld := ⟨0x0a104c, 31, 24⟩
abbrev F.TWN_MLINK_ERR_DISCARD : Fld := ⟨0x0a104c, 23, 16⟩
abbrev F.TWN_MLINK_ERR_RESYNC : Fld := ⟨0x0a104c, 15, 8⟩
abbrev F.TWN_MLINK_ERR_OVERFLOW : Fld := ⟨0x0a104c, 7, 0⟩
/-- TWN_MLINK_PRSEQ, 10_twin_redundancy. -/
abbrev R.TWN_MLINK_PRSEQ : Nat := 0x0a1050
abbrev F.TWN_MLINK_QSEL_CHAN : Fld := ⟨0x0a1054, 7, 4⟩
abbrev F.TWN_MLINK_QSEL_TQ : Fld := ⟨0x0a1054, 2, 0⟩
/-- TWN_MLINK_QDATA, 10_twin_redundancy. -/
abbrev R.TWN_MLINK_QDATA : Nat := 0x0a1058
abbrev F.TWN_XCHK_CFG_XLIM : Fld := ⟨0x0a2040, 23, 16⟩
abbrev F.TWN_XCHK_CFG_XCONF : Fld := ⟨0x0a2040, 3, 0⟩
/-- TWN_XCHK_STAT, 10_twin_redundancy. -/
abbrev R.TWN_XCHK_STAT : Nat := 0x0a2044
abbrev F.TWN_XCHK_STAT_RUNNING : Fld := ⟨0x0a2044, 31, 31⟩
abbrev F.TWN_XCHK_STAT_XFAIL : Fld := ⟨0x0a2044, 30, 30⟩
abbrev F.TWN_XCHK_STAT_WINCNT : Fld := ⟨0x0a2044, 15, 0⟩
abbrev F.TWN_XCHK_CMP_CNT : Fld := ⟨0x0a2048, 31, 0⟩
abbrev F.TWN_XCHK_CNT_MISMATCH : Fld := ⟨0x0a204c, 31, 16⟩
abbrev F.TWN_XCHK_CNT_MISSING : Fld := ⟨0x0a204c, 15, 8⟩
abbrev F.TWN_XCHK_CNT_TRANSIENT : Fld := ⟨0x0a204c, 7, 0⟩
/-- TWN_XCHK_LAST, 10_twin_redundancy. -/
abbrev R.TWN_XCHK_LAST : Nat := 0x0a2050
/-- TWN_XCHK_LCYC, 10_twin_redundancy. -/
abbrev R.TWN_XCHK_LCYC : Nat := 0x0a2054
/-- HBR_CTRL_ID, 11_host_and_periscope_bridges. -/
abbrev R.HBR_CTRL_ID : Nat := 0x0b0040
/-- HBR_CTRL_LINK, 11_host_and_periscope_bridges. -/
abbrev R.HBR_CTRL_LINK : Nat := 0x0b0044
abbrev F.HBR_CTRL_LINK_UP : Fld := ⟨0x0b0044, 31, 31⟩
abbrev F.HBR_CTRL_LINK_SPEED : Fld := ⟨0x0b0044, 27, 24⟩
abbrev F.HBR_CTRL_LINK_WIDTH : Fld := ⟨0x0b0044, 18, 16⟩
abbrev F.HBR_CTRL_LINK_BME : Fld := ⟨0x0b0044, 15, 15⟩
abbrev F.HBR_CTRL_LINK_MSIXEN : Fld := ⟨0x0b0044, 14, 14⟩
abbrev F.HBR_CTRL_LINK_FMASK : Fld := ⟨0x0b0044, 13, 13⟩
abbrev F.HBR_CTRL_LINK_D3 : Fld := ⟨0x0b0044, 12, 12⟩
abbrev F.HBR_CTRL_LINK_CHG : Fld := ⟨0x0b0044, 7, 0⟩
/-- HBR_CTRL_LASTERR, 11_host_and_periscope_bridges. -/
abbrev R.HBR_CTRL_LASTERR : Nat := 0x0b0048
/-- HBR_CTRL_ERRCNT, 11_host_and_periscope_bridges. -/
abbrev R.HBR_CTRL_ERRCNT : Nat := 0x0b004c
abbrev F.HBR_CTRL_ERRCNT_UNMAPPED : Fld := ⟨0x0b004c, 31, 16⟩
abbrev F.HBR_CTRL_ERRCNT_NOWIN : Fld := ⟨0x0b004c, 15, 0⟩
abbrev F.HBR_IWIN_BASE_BASE (n : Nat) : Fld := ⟨0x0b1040 + 8 * (n % 16), 27, 12⟩
/-- HBR_IWINn_CFG, 11_host_and_periscope_bridges. -/
abbrev R.HBR_IWIN_CFG (n : Nat) : Nat := 0x0b1044 + 8 * (n % 16)
abbrev F.HBR_IWIN_CFG_EN (n : Nat) : Fld := ⟨0x0b1044 + 8 * (n % 16), 31, 31⟩
abbrev F.HBR_IWIN_CFG_MODE (n : Nat) : Fld := ⟨0x0b1044 + 8 * (n % 16), 30, 28⟩
abbrev F.HBR_IWIN_CFG_TGT (n : Nat) : Fld := ⟨0x0b1044 + 8 * (n % 16), 25, 24⟩
abbrev F.HBR_IWIN_CFG_SIZE (n : Nat) : Fld := ⟨0x0b1044 + 8 * (n % 16), 20, 16⟩
abbrev F.HBR_IWIN_CFG_PWIN (n : Nat) : Fld := ⟨0x0b1044 + 8 * (n % 16), 2, 0⟩
/-- HBR_OWINm_LO, 11_host_and_periscope_bridges. -/
abbrev R.HBR_OWIN_LO (m : Nat) : Nat := 0x0b2040 + 16 * (m % 8)
/-- HBR_OWINm_HI, 11_host_and_periscope_bridges. -/
abbrev R.HBR_OWIN_HI (m : Nat) : Nat := 0x0b2044 + 16 * (m % 8)
/-- HBR_OWINm_CFG, 11_host_and_periscope_bridges. -/
abbrev R.HBR_OWIN_CFG (m : Nat) : Nat := 0x0b2048 + 16 * (m % 8)
abbrev F.HBR_OWIN_CFG_EN (m : Nat) : Fld := ⟨0x0b2048 + 16 * (m % 8), 31, 31⟩
abbrev F.HBR_OWIN_CFG_MODE (m : Nat) : Fld := ⟨0x0b2048 + 16 * (m % 8), 30, 28⟩
abbrev F.HBR_OWIN_CFG_SIZE (m : Nat) : Fld := ⟨0x0b2048 + 16 * (m % 8), 21, 16⟩
/-- HBR_RINGr_CFG, 11_host_and_periscope_bridges. -/
abbrev R.HBR_RING_CFG (r : Nat) : Nat := 0x0b2100 + 16 * (r % 9)
abbrev F.HBR_RING_CFG_EN (r : Nat) : Fld := ⟨0x0b2100 + 16 * (r % 9), 31, 31⟩
abbrev F.HBR_RING_CFG_IE (r : Nat) : Fld := ⟨0x0b2100 + 16 * (r % 9), 30, 30⟩
abbrev F.HBR_RING_CFG_OWIN (r : Nat) : Fld := ⟨0x0b2100 + 16 * (r % 9), 26, 24⟩
abbrev F.HBR_RING_CFG_NDESCM1 (r : Nat) : Fld := ⟨0x0b2100 + 16 * (r % 9), 9, 0⟩
/-- HBR_RINGr_BASE, 11_host_and_periscope_bridges. -/
abbrev R.HBR_RING_BASE (r : Nat) : Nat := 0x0b2104 + 16 * (r % 9)
abbrev F.HBR_RING_BASE_BASE (r : Nat) : Fld := ⟨0x0b2104 + 16 * (r % 9), 31, 0⟩
/-- HBR_RINGr_PTR, 11_host_and_periscope_bridges. -/
abbrev R.HBR_RING_PTR (r : Nat) : Nat := 0x0b2108 + 16 * (r % 9)
abbrev F.HBR_RING_PTR_PUT (r : Nat) : Fld := ⟨0x0b2108 + 16 * (r % 9), 25, 16⟩
abbrev F.HBR_RING_PTR_DONE (r : Nat) : Fld := ⟨0x0b2108 + 16 * (r % 9), 9, 0⟩
/-- HBR_RINGr_CNT, 11_host_and_periscope_bridges. -/
abbrev R.HBR_RING_CNT (r : Nat) : Nat := 0x0b210c + 16 * (r % 9)
abbrev F.HBR_RING_CNT_ERR (r : Nat) : Fld := ⟨0x0b210c + 16 * (r % 9), 31, 16⟩
abbrev F.HBR_RING_CNT_FRAMES (r : Nat) : Fld := ⟨0x0b210c + 16 * (r % 9), 15, 0⟩
/-- HBR_MSIX_Vv_ADDR_HI, 11_host_and_periscope_bridges. -/
abbrev R.HBR_MSIX_V_ADDR_HI (v : Nat) : Nat := 0x0b3104 + 16 * (v % 32)
/-- HBR_MSIX_Vv_ADDR_LO, 11_host_and_periscope_bridges. -/
abbrev R.HBR_MSIX_V_ADDR_LO (v : Nat) : Nat := 0x0b3100 + 16 * (v % 32)
/-- HBR_MSIX_Vv_DATA, 11_host_and_periscope_bridges. -/
abbrev R.HBR_MSIX_V_DATA (v : Nat) : Nat := 0x0b3108 + 16 * (v % 32)
/-- HBR_MSIX_Vv_CTRL, 11_host_and_periscope_bridges. -/
abbrev R.HBR_MSIX_V_CTRL (v : Nat) : Nat := 0x0b310c + 16 * (v % 32)
abbrev F.HBR_MSIX_V_CTRL_MASK (v : Nat) : Fld := ⟨0x0b310c + 16 * (v % 32), 0, 0⟩
/-- HBR_MSIX_PBA, 11_host_and_periscope_bridges. -/
abbrev R.HBR_MSIX_PBA : Nat := 0x0b3300
abbrev F.PSC_CTRL_CFG_SIDE_DENY : Fld := ⟨0x0c0040, 31, 31⟩
abbrev F.PSC_CTRL_CFG_SIDE_PER : Fld := ⟨0x0c0040, 15, 8⟩
/-- PSC_FENCE, 11_host_and_periscope_bridges. -/
abbrev R.PSC_FENCE : Nat := 0x0c0044
/-- PSC_FENCE_STAT, 11_host_and_periscope_bridges. -/
abbrev R.PSC_FENCE_STAT : Nat := 0x0c0048
abbrev F.PSC_FENCE_STAT_STATE : Fld := ⟨0x0c0048, 31, 30⟩
abbrev F.PSC_FENCE_STAT_WIN : Fld := ⟨0x0c0048, 26, 24⟩
abbrev F.PSC_FENCE_STAT_FAILED : Fld := ⟨0x0c0048, 23, 12⟩
abbrev F.PSC_FENCE_STAT_LOST : Fld := ⟨0x0c0048, 11, 0⟩
/-- PSC_CTRL_CNT, 11_host_and_periscope_bridges. -/
abbrev R.PSC_CTRL_CNT : Nat := 0x0c004c
abbrev F.PSC_CTRL_CNT_IN_DENIED : Fld := ⟨0x0c004c, 31, 16⟩
abbrev F.PSC_CTRL_CNT_IN_BUSY : Fld := ⟨0x0c004c, 15, 8⟩
abbrev F.PSC_CTRL_CNT_BADREQ : Fld := ⟨0x0c004c, 7, 0⟩
/-- PSC_CTRL_ACLn_W0, 11_host_and_periscope_bridges. -/
abbrev R.PSC_CTRL_ACL_W0 (n : Nat) : Nat := 0x0c0100 + 8 * (n % 32)
/-- PSC_CTRL_ACLn_W1, 11_host_and_periscope_bridges. -/
abbrev R.PSC_CTRL_ACL_W1 (n : Nat) : Nat := 0x0c0104 + 8 * (n % 32)
/-- PSC_WINp_CFG, 11_host_and_periscope_bridges. -/
abbrev R.PSC_WIN_CFG (p : Nat) : Nat := 0x0c1040 + 16 * (p % 8)
abbrev F.PSC_WIN_CFG_EN (p : Nat) : Fld := ⟨0x0c1040 + 16 * (p % 8), 31, 31⟩
abbrev F.PSC_WIN_CFG_DKIND (p : Nat) : Fld := ⟨0x0c1040 + 16 * (p % 8), 30, 30⟩
abbrev F.PSC_WIN_CFG_DVAL (p : Nat) : Fld := ⟨0x0c1040 + 16 * (p % 8), 9, 0⟩
abbrev F.PSC_WIN_BASE_BASE (p : Nat) : Fld := ⟨0x0c1044 + 16 * (p % 8), 20, 12⟩
/-- PSC_WINp_STAT, 11_host_and_periscope_bridges. -/
abbrev R.PSC_WIN_STAT (p : Nat) : Nat := 0x0c1048 + 16 * (p % 8)
abbrev F.PSC_WIN_STAT_LAST (p : Nat) : Fld := ⟨0x0c1048 + 16 * (p % 8), 31, 28⟩
abbrev F.PSC_WIN_STAT_NODE (p : Nat) : Fld := ⟨0x0c1048 + 16 * (p % 8), 24, 16⟩
abbrev F.PSC_WIN_STAT_OUT (p : Nat) : Fld := ⟨0x0c1048 + 16 * (p % 8), 5, 0⟩
/-- PSC_WINp_CNT, 11_host_and_periscope_bridges. -/
abbrev R.PSC_WIN_CNT (p : Nat) : Nat := 0x0c104c + 16 * (p % 8)
abbrev F.PSC_WIN_CNT_WR (p : Nat) : Fld := ⟨0x0c104c + 16 * (p % 8), 31, 16⟩
abbrev F.PSC_WIN_CNT_TMO (p : Nat) : Fld := ⟨0x0c104c + 16 * (p % 8), 15, 0⟩
/-- PSC_DRB_STAT, 11_host_and_periscope_bridges. -/
abbrev R.PSC_DRB_STAT : Nat := 0x0c1100
/-- PSC_DRB_CNT, 11_host_and_periscope_bridges. -/
abbrev R.PSC_DRB_CNT : Nat := 0x0c1104
abbrev F.PSC_DRB_CNT_DISCARD : Fld := ⟨0x0c1104, 31, 16⟩
abbrev F.PSC_DRB_CNT_FULL : Fld := ⟨0x0c1104, 15, 0⟩
/-- PSC_PWLOG_PTR, 11_host_and_periscope_bridges. -/
abbrev R.PSC_PWLOG_PTR : Nat := 0x0c2040
abbrev F.PSC_PWLOG_PTR_GET : Fld := ⟨0x0c2040, 20, 16⟩
abbrev F.PSC_PWLOG_PTR_PUT : Fld := ⟨0x0c2040, 4, 0⟩
/-- PSC_PWLOG_CNT, 11_host_and_periscope_bridges. -/
abbrev R.PSC_PWLOG_CNT : Nat := 0x0c2044
abbrev F.PSC_PWLOG_CNT_TOTAL : Fld := ⟨0x0c2044, 31, 16⟩
abbrev F.PSC_PWLOG_CNT_OVF : Fld := ⟨0x0c2044, 15, 0⟩
/-- PSC_PWLOG_Ee_Wk, 11_host_and_periscope_bridges. -/
abbrev R.PSC_PWLOG_E_W (e : Nat) (k : Nat) : Nat := 0x0c2100 + 16 * (e % 16) + 4 * (k % 4)
/-- PSC_SIDEp_ISL, 11_host_and_periscope_bridges. -/
abbrev R.PSC_SIDE_ISL (p : Nat) : Nat := 0x0c3040 + 8 * (p % 8)
abbrev F.PSC_SIDE_ISL_STALE (p : Nat) : Fld := ⟨0x0c3040 + 8 * (p % 8), 31, 31⟩
abbrev F.PSC_SIDE_ISL_HEALTH (p : Nat) : Fld := ⟨0x0c3040 + 8 * (p % 8), 23, 20⟩
abbrev F.PSC_SIDE_ISL_ISL (p : Nat) : Fld := ⟨0x0c3040 + 8 * (p % 8), 16, 0⟩
/-- PSC_SIDEp_AGE, 11_host_and_periscope_bridges. -/
abbrev R.PSC_SIDE_AGE (p : Nat) : Nat := 0x0c3044 + 8 * (p % 8)
abbrev F.PSC_SIDE_AGE_EPOCH (p : Nat) : Fld := ⟨0x0c3044 + 8 * (p % 8), 31, 16⟩
/-- SYS_WAKE_STAT, 12_sleep_and_wake. -/
abbrev R.SYS_WAKE_STAT : Nat := 0x003040
abbrev F.SYS_WAKE_STAT_STATE : Fld := ⟨0x003040, 31, 30⟩
abbrev F.SYS_WAKE_STAT_KA_OK : Fld := ⟨0x003040, 28, 28⟩
/-- SYS_WAKE_CMD, 12_sleep_and_wake. -/
abbrev R.SYS_WAKE_CMD : Nat := 0x003044
abbrev F.SYS_WAKE_CMD_FWHOLD : Fld := ⟨0x003044, 3, 3⟩
abbrev F.SYS_WAKE_CMD_HOLD : Fld := ⟨0x003044, 2, 2⟩
/-- SYS_WAKE_PROP_N, 12_sleep_and_wake. -/
abbrev R.SYS_WAKE_PROP_N : Nat := 0x003048
abbrev F.SYS_WAKE_PROP_N_N : Fld := ⟨0x003048, 31, 0⟩
/-- SYS_WAKE_PROP, 12_sleep_and_wake. -/
abbrev R.SYS_WAKE_PROP : Nat := 0x00304c
abbrev F.SYS_WAKE_PROP_AUTO_ISO : Fld := ⟨0x00304c, 29, 29⟩
abbrev F.SYS_WAKE_PROP_RESULT : Fld := ⟨0x00304c, 28, 26⟩
abbrev F.SYS_WAKE_PROP_LAST : Fld := ⟨0x00304c, 24, 16⟩
abbrev F.SYS_WAKE_PROP_FIRST : Fld := ⟨0x00304c, 8, 0⟩
/-- SYS_WAKE_DUSK_N, 12_sleep_and_wake. -/
abbrev R.SYS_WAKE_DUSK_N : Nat := 0x003050
abbrev F.SYS_WAKE_DUSK_N_N : Fld := ⟨0x003050, 31, 0⟩
abbrev F.SYS_WAKE_DUSK_ID_ID : Fld := ⟨0x003054, 31, 16⟩
abbrev F.SYS_WAKE_DUSK_ID_COORD : Fld := ⟨0x003054, 8, 0⟩
/-- SYS_WAKE_DUSK_RNG, 12_sleep_and_wake. -/
abbrev R.SYS_WAKE_DUSK_RNG : Nat := 0x003058
abbrev F.SYS_WAKE_DUSK_RNG_AUTO_ISO : Fld := ⟨0x003058, 31, 31⟩
abbrev F.SYS_WAKE_DUSK_RNG_LAST : Fld := ⟨0x003058, 24, 16⟩
abbrev F.SYS_WAKE_DUSK_RNG_FIRST : Fld := ⟨0x003058, 8, 0⟩
abbrev F.SYS_WAKE_ARM_CAN_PULSE : Fld := ⟨0x00305c, 9, 9⟩
abbrev F.SYS_WAKE_ARM_SW_PULSE : Fld := ⟨0x00305c, 8, 8⟩
abbrev F.SYS_WAKE_ARM_CAN_ARM : Fld := ⟨0x00305c, 3, 3⟩
abbrev F.SYS_WAKE_ARM_LB_ARM : Fld := ⟨0x00305c, 2, 2⟩
abbrev F.SYS_WAKE_ARM_LA_ARM : Fld := ⟨0x00305c, 1, 1⟩
abbrev F.SYS_WAKE_ARM_SW_ARM : Fld := ⟨0x00305c, 0, 0⟩
abbrev F.SYS_WAKE_CAN_CWARM : Fld := ⟨0x003060, 15, 0⟩
/-- SYS_WAKE_SEG, 12_sleep_and_wake. -/
abbrev R.SYS_WAKE_SEG : Nat := 0x003064
abbrev F.SYS_WAKE_SEG_PULSE_TX : Fld := ⟨0x003064, 23, 16⟩
abbrev F.SYS_WAKE_SEG_PULSE_RX : Fld := ⟨0x003064, 15, 8⟩
/-- SYS_WAKE_CAUSE, 12_sleep_and_wake. -/
abbrev R.SYS_WAKE_CAUSE : Nat := 0x003068
abbrev F.SYS_WAKE_CAUSE_SRC : Fld := ⟨0x003068, 31, 28⟩
abbrev F.SYS_WAKE_CAUSE_DID : Fld := ⟨0x003068, 15, 0⟩
/-- SYS_WAKE_CNT, 12_sleep_and_wake. -/
abbrev R.SYS_WAKE_CNT : Nat := 0x00306c
abbrev F.SYS_WAKE_CNT_DARKS : Fld := ⟨0x00306c, 31, 24⟩
abbrev F.SYS_WAKE_CNT_VETOES : Fld := ⟨0x00306c, 23, 16⟩
abbrev F.SYS_WAKE_CNT_CANCELS : Fld := ⟨0x00306c, 15, 8⟩
abbrev F.SYS_WAKE_CNT_LATE : Fld := ⟨0x00306c, 7, 0⟩
/-- SYS_DIN_CFGi, 12_sleep_and_wake. -/
abbrev R.SYS_DIN_CFG (i : Nat) : Nat := 0x004040 + 8 * (i % 4)
abbrev F.SYS_DIN_CFG_POL (i : Nat) : Fld := ⟨0x004040 + 8 * (i % 4), 31, 31⟩
abbrev F.SYS_DIN_CFG_DEB (i : Nat) : Fld := ⟨0x004040 + 8 * (i % 4), 30, 24⟩
abbrev F.SYS_DIN_CFG_STUCK (i : Nat) : Fld := ⟨0x004040 + 8 * (i % 4), 23, 16⟩
abbrev F.SYS_DIN_CFG_CHAT_N (i : Nat) : Fld := ⟨0x004040 + 8 * (i % 4), 15, 8⟩
abbrev F.SYS_DIN_CFG_CHAT_WIN (i : Nat) : Fld := ⟨0x004040 + 8 * (i % 4), 7, 4⟩
/-- SYS_DIN_STATi, 12_sleep_and_wake. -/
abbrev R.SYS_DIN_STAT (i : Nat) : Nat := 0x004044 + 8 * (i % 4)
abbrev F.SYS_DIN_STAT_PIN (i : Nat) : Fld := ⟨0x004044 + 8 * (i % 4), 31, 31⟩
abbrev F.SYS_DIN_STAT_COND (i : Nat) : Fld := ⟨0x004044 + 8 * (i % 4), 30, 30⟩
abbrev F.SYS_DIN_STAT_STUCK (i : Nat) : Fld := ⟨0x004044 + 8 * (i % 4), 29, 29⟩
abbrev F.SYS_DIN_STAT_CHAT (i : Nat) : Fld := ⟨0x004044 + 8 * (i % 4), 28, 28⟩
abbrev F.SYS_DIN_STAT_STUCK_CNT (i : Nat) : Fld := ⟨0x004044 + 8 * (i % 4), 23, 16⟩
abbrev F.SYS_DIN_STAT_CHAT_EDGES (i : Nat) : Fld := ⟨0x004044 + 8 * (i % 4), 15, 0⟩
/-- SYS_CLK_STAT, 13_clocks_and_power_islands. -/
abbrev R.SYS_CLK_STAT : Nat := 0x001040
abbrev F.SYS_CLK_STAT_LINE_REF : Fld := ⟨0x001040, 27, 25⟩
abbrev F.SYS_CLK_STAT_LINE_HOLD : Fld := ⟨0x001040, 24, 24⟩
abbrev F.SYS_CLK_STAT_XO_FAIL : Fld := ⟨0x001040, 6, 6⟩
abbrev F.SYS_CLK_STAT_PCIE_OK : Fld := ⟨0x001040, 5, 5⟩
abbrev F.SYS_CLK_STAT_LINE_LOCK : Fld := ⟨0x001040, 3, 3⟩
abbrev F.SYS_CLK_STAT_XO_QUAL : Fld := ⟨0x001040, 1, 1⟩
/-- SYS_SRC_RELEASE, 13_clocks_and_power_islands. -/
abbrev R.SYS_SRC_RELEASE : Nat := 0x001044
abbrev F.SYS_CLK_LOSS_LAST : Fld := ⟨0x001048, 27, 24⟩
abbrev F.SYS_CLK_LOSS_FORCED_CNT : Fld := ⟨0x001048, 23, 16⟩
abbrev F.SYS_CLK_LOSS_LOSS_CNT : Fld := ⟨0x001048, 15, 0⟩
/-- SYS_CLK_XOQ, 13_clocks_and_power_islands. -/
abbrev R.SYS_CLK_XOQ : Nat := 0x00104c
abbrev F.SYS_CLK_XOQ_DEV : Fld := ⟨0x00104c, 31, 24⟩
abbrev F.SYS_CLK_XOQ_QCNT : Fld := ⟨0x00104c, 18, 0⟩
/-- SYS_CLK_LINE, 13_clocks_and_power_islands. -/
abbrev R.SYS_CLK_LINE : Nat := 0x001050
abbrev F.SYS_CLK_LINE_FORCE_XO : Fld := ⟨0x001050, 31, 31⟩
abbrev F.SYS_CLK_LINE_OFS : Fld := ⟨0x001050, 23, 0⟩
/-- SYS_CLK_ISLn, 13_clocks_and_power_islands. -/
abbrev R.SYS_CLK_ISL (n : Nat) : Nat := 0x001080 + 4 * (n % 17)
abbrev F.SYS_CLK_ISL_RESULT (n : Nat) : Fld := ⟨0x001080 + 4 * (n % 17), 31, 28⟩
abbrev F.SYS_CLK_ISL_CUR (n : Nat) : Fld := ⟨0x001080 + 4 * (n % 17), 23, 20⟩
abbrev F.SYS_CLK_ISL_SWITCHING (n : Nat) : Fld := ⟨0x001080 + 4 * (n % 17), 8, 8⟩
abbrev F.SYS_CLK_ISL_SRC (n : Nat) : Fld := ⟨0x001080 + 4 * (n % 17), 3, 0⟩
/-- SYS_PWR_STAT, 13_clocks_and_power_islands. -/
abbrev R.SYS_PWR_STAT : Nat := 0x002040
/-- SYS_PWR_CMD, 13_clocks_and_power_islands. -/
abbrev R.SYS_PWR_CMD : Nat := 0x002044
abbrev F.SYS_PWR_RESULT_RESULT : Fld := ⟨0x002048, 31, 28⟩
abbrev F.SYS_PWR_RESULT_ISL : Fld := ⟨0x002048, 20, 16⟩
abbrev F.SYS_PWR_RESULT_VIA_PG : Fld := ⟨0x002048, 0, 0⟩
/-- SYS_PWR_XDROP, 13_clocks_and_power_islands. -/
abbrev R.SYS_PWR_XDROP : Nat := 0x00204c
abbrev F.SYS_PWR_XDROP_LAST_ISL : Fld := ⟨0x00204c, 31, 24⟩
abbrev F.SYS_PWR_XDROP_CNT : Fld := ⟨0x00204c, 15, 0⟩
/-- SYS_PWR_SEQn, 13_clocks_and_power_islands. -/
abbrev R.SYS_PWR_SEQ (n : Nat) : Nat := 0x002080 + 4 * (n % 17)
abbrev F.SYS_PWR_SEQ_PHASE (n : Nat) : Fld := ⟨0x002080 + 4 * (n % 17), 31, 28⟩
abbrev F.SYS_PWR_SEQ_STEP (n : Nat) : Fld := ⟨0x002080 + 4 * (n % 17), 27, 24⟩
abbrev F.SYS_PWR_SEQ_RESTARTS (n : Nat) : Fld := ⟨0x002080 + 4 * (n % 17), 15, 8⟩
abbrev F.SYS_PWR_SEQ_UPS (n : Nat) : Fld := ⟨0x002080 + 4 * (n % 17), 7, 0⟩
/-- SYS_PWR_DVFSf, 13_clocks_and_power_islands. -/
abbrev R.SYS_PWR_DVFS (f : Nat) : Nat := 0x002100 + 8 * (f % 3)
/-- SYS_PWR_DVFSSTATf, 13_clocks_and_power_islands. -/
abbrev R.SYS_PWR_DVFSSTAT (f : Nat) : Nat := 0x002104 + 8 * (f % 3)
abbrev F.SYS_PWR_DVFSSTAT_BUSY (f : Nat) : Fld := ⟨0x002104 + 8 * (f % 3), 31, 31⟩
abbrev F.SYS_PWR_DVFSSTAT_RESULT (f : Nat) : Fld := ⟨0x002104 + 8 * (f % 3), 30, 28⟩
abbrev F.SYS_PWR_DVFSSTAT_CUR_F (f : Nat) : Fld := ⟨0x002104 + 8 * (f % 3), 17, 16⟩
abbrev F.SYS_PWR_DVFSSTAT_CUR_V (f : Nat) : Fld := ⟨0x002104 + 8 * (f % 3), 7, 0⟩
/-- SYS_RST_CAUSE, 14_startup_and_reset. -/
abbrev R.SYS_RST_CAUSE : Nat := 0x000040
abbrev F.SYS_RST_CAUSE_LAST : Fld := ⟨0x000040, 31, 28⟩
abbrev F.SYS_RST_CAUSE_SRC : Fld := ⟨0x000040, 27, 24⟩
/-- SYS_RST_CNT, 14_startup_and_reset. -/
abbrev R.SYS_RST_CNT : Nat := 0x000044
abbrev F.SYS_RST_CNT_MODRST : Fld := ⟨0x000044, 31, 24⟩
abbrev F.SYS_RST_CNT_SUPPLY : Fld := ⟨0x000044, 23, 16⟩
abbrev F.SYS_RST_CNT_WINDOW : Fld := ⟨0x000044, 15, 8⟩
abbrev F.SYS_RST_CNT_SAFES : Fld := ⟨0x000044, 7, 0⟩
/-- SYS_RST_CMD, 14_startup_and_reset. -/
abbrev R.SYS_RST_CMD : Nat := 0x000048
/-- SYS_RST_BOOT, 14_startup_and_reset. -/
abbrev R.SYS_RST_BOOT : Nat := 0x00004c
abbrev F.SYS_RST_BOOT_ONCE_EN : Fld := ⟨0x00004c, 31, 31⟩
abbrev F.SYS_RST_BOOT_ONCE_BANK : Fld := ⟨0x00004c, 30, 30⟩
abbrev F.SYS_RST_BOOT_FW_BANK : Fld := ⟨0x00004c, 29, 29⟩
abbrev F.SYS_RST_BOOT_CFG_BANK : Fld := ⟨0x00004c, 28, 28⟩
abbrev F.SYS_RST_BOOT_CFG_OK : Fld := ⟨0x00004c, 27, 27⟩
abbrev F.SYS_RST_BOOT_BOOT_FAIL : Fld := ⟨0x00004c, 26, 26⟩
abbrev F.SYS_RST_BOOT_SAFE : Fld := ⟨0x00004c, 25, 25⟩
abbrev F.SYS_RST_BOOT_RES_A : Fld := ⟨0x00004c, 7, 4⟩
abbrev F.SYS_RST_BOOT_RES_B : Fld := ⟨0x00004c, 3, 0⟩
/-- SYS_RST_STAT, 14_startup_and_reset. -/
abbrev R.SYS_RST_STAT : Nat := 0x000050
abbrev F.SYS_RST_STAT_OWNER_KEY : Fld := ⟨0x000050, 31, 31⟩
abbrev F.SYS_RST_STAT_SVN_MIN : Fld := ⟨0x000050, 23, 16⟩
abbrev F.SYS_RST_STAT_REPAIR_BAD : Fld := ⟨0x000050, 9, 9⟩
abbrev F.SYS_RST_STAT_TPOS_PIN : Fld := ⟨0x000050, 1, 1⟩
abbrev F.SYS_RST_STAT_TPOS : Fld := ⟨0x000050, 0, 0⟩
/-- SYS_RST_FAULT, 14_startup_and_reset. -/
abbrev R.SYS_RST_FAULT : Nat := 0x000054
abbrev F.SYS_RST_FAULT_NFAULT : Fld := ⟨0x000054, 31, 31⟩
abbrev F.SYS_RST_FAULT_HEALTH : Fld := ⟨0x000054, 4, 4⟩
abbrev F.SYS_RST_FAULT_HOST : Fld := ⟨0x000054, 3, 3⟩
abbrev F.SYS_RST_FAULT_FW : Fld := ⟨0x000054, 2, 2⟩
abbrev F.SYS_RST_FAULT_BOOT : Fld := ⟨0x000054, 1, 1⟩
abbrev F.SYS_RST_FAULT_RESET : Fld := ⟨0x000054, 0, 0⟩
/-- MGT_CTRL_STAT, 15_management_and_policy. -/
abbrev R.MGT_CTRL_STAT : Nat := 0x0d0040
abbrev F.MGT_CTRL_STAT_RUN : Fld := ⟨0x0d0040, 31, 31⟩
abbrev F.MGT_CTRL_STAT_HOLD : Fld := ⟨0x0d0040, 30, 30⟩
abbrev F.MGT_CTRL_STAT_RECOVERY : Fld := ⟨0x0d0040, 29, 29⟩
abbrev F.MGT_CTRL_STAT_LEVEL : Fld := ⟨0x0d0040, 28, 26⟩
abbrev F.MGT_CTRL_STAT_LOAD : Fld := ⟨0x0d0040, 7, 0⟩
/-- MGT_CTRL_WDT, 15_management_and_policy. -/
abbrev R.MGT_CTRL_WDT : Nat := 0x0d0044
abbrev F.MGT_CTRL_WDT_WDT_T : Fld := ⟨0x0d0044, 6, 0⟩
/-- MGT_CTRL_RST, 15_management_and_policy. -/
abbrev R.MGT_CTRL_RST : Nat := 0x0d0048
abbrev F.MGT_CTRL_RST_CAUSE : Fld := ⟨0x0d0048, 31, 28⟩
abbrev F.MGT_CTRL_RST_WINCNT : Fld := ⟨0x0d0048, 23, 16⟩
abbrev F.MGT_CTRL_RST_COUNT : Fld := ⟨0x0d0048, 15, 0⟩
/-- MGT_CTRL_CMD, 15_management_and_policy. -/
abbrev R.MGT_CTRL_CMD : Nat := 0x0d004c
/-- MGT_CTRL_GOV, 15_management_and_policy. -/
abbrev R.MGT_CTRL_GOV : Nat := 0x0d0050
abbrev F.MGT_CTRL_GOV_SHED : Fld := ⟨0x0d0050, 31, 16⟩
abbrev F.MGT_CTRL_GOV_QLIM : Fld := ⟨0x0d0050, 3, 0⟩
/-- MGT_MBOX_ARGn, 15_management_and_policy. -/
abbrev R.MGT_MBOX_ARG (n : Nat) : Nat := 0x0d1040 + 4 * (n % 4)
/-- MGT_MBOX_CMD, 15_management_and_policy. -/
abbrev R.MGT_MBOX_CMD : Nat := 0x0d1050
/-- MGT_MBOX_STAT, 15_management_and_policy. -/
abbrev R.MGT_MBOX_STAT : Nat := 0x0d1054
abbrev F.MGT_MBOX_STAT_QUEUED : Fld := ⟨0x0d1054, 31, 28⟩
abbrev F.MGT_MBOX_STAT_RSPQ : Fld := ⟨0x0d1054, 27, 23⟩
abbrev F.MGT_MBOX_STAT_REFUSED : Fld := ⟨0x0d1054, 15, 0⟩
/-- MGT_MBOX_RSP0, 15_management_and_policy. -/
abbrev R.MGT_MBOX_RSP0 : Nat := 0x0d1058
/-- MGT_MBOX_RSPn, 15_management_and_policy. -/
abbrev R.MGT_MBOX_RSP (n : Nat) : Nat := 0x0d1058 + 4 * (n % 4)
/-- MGT_MBOX_RACK, 15_management_and_policy. -/
abbrev R.MGT_MBOX_RACK : Nat := 0x0d1068
/-- MGT_MBOX_DATAn, 15_management_and_policy. -/
abbrev R.MGT_MBOX_DATA (n : Nat) : Nat := 0x0d1800 + 4 * (n % 512)
/-- MGT_IMG_GENb, 15_management_and_policy. -/
abbrev R.MGT_IMG_GEN (b : Nat) : Nat := 0x0d2040 + 8 * (b % 2)
/-- MGT_IMG_INFOb, 15_management_and_policy. -/
abbrev R.MGT_IMG_INFO (b : Nat) : Nat := 0x0d2044 + 8 * (b % 2)
abbrev F.MGT_IMG_INFO_MARK (b : Nat) : Fld := ⟨0x0d2044 + 8 * (b % 2), 31, 30⟩
abbrev F.MGT_IMG_INFO_SVN (b : Nat) : Fld := ⟨0x0d2044 + 8 * (b % 2), 23, 16⟩
abbrev F.MGT_IMG_INFO_FW_RES (b : Nat) : Fld := ⟨0x0d2044 + 8 * (b % 2), 15, 12⟩
abbrev F.MGT_IMG_INFO_CFG_RES (b : Nat) : Fld := ⟨0x0d2044 + 8 * (b % 2), 11, 8⟩
/-- MGT_IMG_CFGD, 15_management_and_policy. -/
abbrev R.MGT_IMG_CFGD : Nat := 0x0d2050
/-- MGT_IMG_CFGGEN, 15_management_and_policy. -/
abbrev R.MGT_IMG_CFGGEN : Nat := 0x0d2054
abbrev F.MGT_IMG_APPLY_REG_DROP : Fld := ⟨0x0d2058, 31, 16⟩
abbrev F.MGT_IMG_APPLY_POLICIES : Fld := ⟨0x0d2058, 15, 0⟩
/-- REC_CTRL_CFG, 16_event_recorder. -/
abbrev R.REC_CTRL_CFG : Nat := 0x0e0040
abbrev F.REC_CTRL_CFG_STOP : Fld := ⟨0x0e0040, 31, 31⟩
abbrev F.REC_CTRL_CFG_IRQ_SEV : Fld := ⟨0x0e0040, 27, 24⟩
abbrev F.REC_CTRL_CFG_COAL_T : Fld := ⟨0x0e0040, 23, 16⟩
abbrev F.REC_CTRL_CFG_LOSS_T : Fld := ⟨0x0e0040, 15, 8⟩
abbrev F.REC_CTRL_CFG_FLOOD_SEV : Fld := ⟨0x0e0040, 7, 4⟩
abbrev F.REC_CTRL_CFG_MIN_SEV : Fld := ⟨0x0e0040, 3, 0⟩
/-- REC_CTRL_CMD, 16_event_recorder. -/
abbrev R.REC_CTRL_CMD : Nat := 0x0e0044
abbrev F.REC_CTRL_CMD_DIAG : Fld := ⟨0x0e0044, 1, 1⟩
/-- REC_CTRL_STAT, 16_event_recorder. -/
abbrev R.REC_CTRL_STAT : Nat := 0x0e0048
abbrev F.REC_CTRL_STAT_FULL : Fld := ⟨0x0e0048, 31, 31⟩
abbrev F.REC_CTRL_STAT_FIFO : Fld := ⟨0x0e0048, 24, 16⟩
abbrev F.REC_CTRL_STAT_COAL : Fld := ⟨0x0e0048, 6, 0⟩
/-- REC_CTRL_NEXT, 16_event_recorder. -/
abbrev R.REC_CTRL_NEXT : Nat := 0x0e004c
/-- REC_CTRL_OLD, 16_event_recorder. -/
abbrev R.REC_CTRL_OLD : Nat := 0x0e0050
/-- REC_CTRL_HELD, 16_event_recorder. -/
abbrev R.REC_CTRL_HELD : Nat := 0x0e0054
abbrev F.REC_CTRL_HELD_HELD : Fld := ⟨0x0e0054, 15, 0⟩
/-- REC_CTRL_LOSSs, 16_event_recorder. -/
abbrev R.REC_CTRL_LOSS (s : Nat) : Nat := 0x0e0060 + 4 * (s % 5)
abbrev F.REC_CTRL_LOSS_LOST (s : Nat) : Fld := ⟨0x0e0060 + 4 * (s % 5), 31, 0⟩
/-- REC_CTRL_POST, 16_event_recorder. -/
abbrev R.REC_CTRL_POST : Nat := 0x0e009c
/-- REC_PORT_CUR, 16_event_recorder. -/
abbrev R.REC_PORT_CUR : Nat := 0x0e1040
/-- REC_PORT_POP, 16_event_recorder. -/
abbrev R.REC_PORT_POP : Nat := 0x0e1044
/-- REC_STRM_CFG, 16_event_recorder. -/
abbrev R.REC_STRM_CFG : Nat := 0x0e2040
abbrev F.REC_STRM_CFG_EN : Fld := ⟨0x0e2040, 31, 31⟩
abbrev F.REC_STRM_CFG_FROM : Fld := ⟨0x0e2040, 30, 30⟩
abbrev F.REC_STRM_CFG_IE : Fld := ⟨0x0e2040, 29, 29⟩
abbrev F.REC_STRM_CFG_OWIN : Fld := ⟨0x0e2040, 26, 24⟩
abbrev F.REC_STRM_CFG_LOGN : Fld := ⟨0x0e2040, 19, 16⟩
abbrev F.REC_STRM_CFG_THRESH : Fld := ⟨0x0e2040, 15, 0⟩
/-- REC_STRM_BASE, 16_event_recorder. -/
abbrev R.REC_STRM_BASE : Nat := 0x0e2044
abbrev F.REC_STRM_BASE_BASE : Fld := ⟨0x0e2044, 31, 0⟩
/-- REC_STRM_PTR, 16_event_recorder. -/
abbrev R.REC_STRM_PTR : Nat := 0x0e2048
abbrev F.REC_STRM_PTR_GET : Fld := ⟨0x0e2048, 31, 16⟩
abbrev F.REC_STRM_PTR_PUT : Fld := ⟨0x0e2048, 15, 0⟩
/-- REC_STRM_NEXT, 16_event_recorder. -/
abbrev R.REC_STRM_NEXT : Nat := 0x0e204c
/-- REC_STRM_CNT, 16_event_recorder. -/
abbrev R.REC_STRM_CNT : Nat := 0x0e2050
abbrev F.REC_STRM_CNT_SKIPPED : Fld := ⟨0x0e2050, 31, 16⟩
abbrev F.REC_STRM_CNT_SENT : Fld := ⟨0x0e2050, 15, 0⟩
/-- HLT_CTRL_NODE, 17_health_test_and_repair. -/
abbrev R.HLT_CTRL_NODE : Nat := 0x0f0040
abbrev F.HLT_CTRL_NODE_LEVEL : Fld := ⟨0x0f0040, 31, 28⟩
abbrev F.HLT_CTRL_NODE_ISL : Fld := ⟨0x0f0040, 20, 16⟩
abbrev F.HLT_CTRL_NODE_CHG : Fld := ⟨0x0f0040, 7, 0⟩
abbrev F.HLT_CTRL_THR_CE_W : Fld := ⟨0x0f0044, 31, 24⟩
abbrev F.HLT_CTRL_THR_ROW_CE : Fld := ⟨0x0f0044, 23, 16⟩
abbrev F.HLT_CTRL_THR_TEMP_W : Fld := ⟨0x0f0044, 15, 8⟩
abbrev F.HLT_CTRL_THR_TEMP_D : Fld := ⟨0x0f0044, 7, 0⟩
/-- HLT_CTRL_ISLn, 17_health_test_and_repair. -/
abbrev R.HLT_CTRL_ISL (n : Nat) : Nat := 0x0f0080 + 4 * (n % 17)
abbrev F.HLT_CTRL_ISL_LEVEL (n : Nat) : Fld := ⟨0x0f0080 + 4 * (n % 17), 31, 28⟩
abbrev F.HLT_CTRL_ISL_FLOOR (n : Nat) : Fld := ⟨0x0f0080 + 4 * (n % 17), 27, 24⟩
abbrev F.HLT_CTRL_ISL_FW (n : Nat) : Fld := ⟨0x0f0080 + 4 * (n % 17), 23, 20⟩
abbrev F.HLT_CTRL_ISL_REASON (n : Nat) : Fld := ⟨0x0f0080 + 4 * (n % 17), 19, 0⟩
/-- HLT_CTRL_ELOGe, 17_health_test_and_repair. -/
abbrev R.HLT_CTRL_ELOG (e : Nat) : Nat := 0x0f0100 + 4 * (e % 16)
/-- HLT_BIST_CMD, 17_health_test_and_repair. -/
abbrev R.HLT_BIST_CMD : Nat := 0x0f1040
abbrev F.HLT_BIST_CMD_FORCE : Fld := ⟨0x0f1040, 30, 30⟩
abbrev F.HLT_BIST_CMD_REJOIN : Fld := ⟨0x0f1040, 29, 29⟩
abbrev F.HLT_BIST_CMD_KIND : Fld := ⟨0x0f1040, 27, 26⟩
abbrev F.HLT_BIST_CMD_SET : Fld := ⟨0x0f1040, 25, 24⟩
abbrev F.HLT_BIST_CMD_ISL : Fld := ⟨0x0f1040, 20, 16⟩
abbrev F.HLT_BIST_CMD_MACRO : Fld := ⟨0x0f1040, 6, 0⟩
/-- HLT_BIST_STAT, 17_health_test_and_repair. -/
abbrev R.HLT_BIST_STAT : Nat := 0x0f1044
abbrev F.HLT_BIST_STAT_STATE : Fld := ⟨0x0f1044, 31, 28⟩
abbrev F.HLT_BIST_STAT_RESULT : Fld := ⟨0x0f1044, 27, 24⟩
abbrev F.HLT_BIST_STAT_ISL : Fld := ⟨0x0f1044, 20, 16⟩
abbrev F.HLT_BIST_STAT_MACRO : Fld := ⟨0x0f1044, 6, 0⟩
/-- HLT_BIST_SIG, 17_health_test_and_repair. -/
abbrev R.HLT_BIST_SIG : Nat := 0x0f1048
/-- HLT_BIST_VERDICT, 17_health_test_and_repair. -/
abbrev R.HLT_BIST_VERDICT : Nat := 0x0f104c
abbrev F.HLT_BIST_VERDICT_VERDICT : Fld := ⟨0x0f104c, 31, 30⟩
abbrev F.HLT_BIST_CNT_RUNS : Fld := ⟨0x0f1050, 31, 16⟩
abbrev F.HLT_BIST_CNT_FAILS : Fld := ⟨0x0f1050, 15, 8⟩
abbrev F.HLT_BIST_CNT_REPAIRS : Fld := ⟨0x0f1050, 7, 0⟩
abbrev F.HLT_REPAIR_SEL_MACRO : Fld := ⟨0x0f2040, 6, 0⟩
/-- HLT_REPAIR_MACRO, 17_health_test_and_repair. -/
abbrev R.HLT_REPAIR_MACRO : Nat := 0x0f2044
/-- HLT_REPAIR_RSTAT, 17_health_test_and_repair. -/
abbrev R.HLT_REPAIR_RSTAT : Nat := 0x0f2048
abbrev F.HLT_REPAIR_RSTAT_BUSY : Fld := ⟨0x0f2048, 31, 31⟩
abbrev F.HLT_REPAIR_RSTAT_COPY : Fld := ⟨0x0f2048, 30, 30⟩
abbrev F.HLT_REPAIR_RSTAT_FAIL : Fld := ⟨0x0f2048, 29, 29⟩
abbrev F.HLT_REPAIR_RSTAT_ENTRIES : Fld := ⟨0x0f2048, 10, 0⟩
/-- HLT_REPAIR_RSEQ, 17_health_test_and_repair. -/
abbrev R.HLT_REPAIR_RSEQ : Nat := 0x0f204c
/-- HLT_SENS_Vs, 17_health_test_and_repair. -/
abbrev R.HLT_SENS_V (s : Nat) : Nat := 0x0f3040 + 4 * (s % 10)
abbrev F.HLT_SENS_V_MAX (s : Nat) : Fld := ⟨0x0f3040 + 4 * (s % 10), 31, 16⟩
abbrev F.HLT_SENS_V_VALUE (s : Nat) : Fld := ⟨0x0f3040 + 4 * (s % 10), 15, 0⟩
/-- HLT_SENS_CMD, 17_health_test_and_repair. -/
abbrev R.HLT_SENS_CMD : Nat := 0x0f3068
/-- HLT_SENS_CAL, 17_health_test_and_repair. -/
abbrev R.HLT_SENS_CAL : Nat := 0x0f306c
abbrev F.HLT_SENS_CAL_IRO_TRIM : Fld := ⟨0x0f306c, 31, 24⟩
abbrev F.HLT_SENS_CAL_EXCL : Fld := ⟨0x0f306c, 23, 20⟩
/-- CBL_CANn_QqPTR_RX, 08_car_buses. -/
abbrev R.CB_CAN_QPTR (n : Nat) (q : Nat) : Nat := 0x071104 + 0x10000 * (n % 16 / 8) + 0x1000 * (n % 8) + 16 * (q % 16)
/-- PG_CTRL, 02_register_pages. -/
abbrev R.PG_CTRL (pg : Nat) : Nat := 4096 * (pg / 4096) + 0x008
abbrev F.PG_CTRL_CLKREQ (pg : Nat) : Fld := ⟨4096 * (pg / 4096) + 0x008, 2, 2⟩
abbrev F.PG_CTRL_EN (pg : Nat) : Fld := ⟨4096 * (pg / 4096) + 0x008, 0, 0⟩
/-- PG_STAT, 02_register_pages. -/
abbrev R.PG_STAT (pg : Nat) : Nat := 4096 * (pg / 4096) + 0x00c
abbrev F.PG_STAT_GATED (pg : Nat) : Fld := ⟨4096 * (pg / 4096) + 0x00c, 8, 8⟩
abbrev F.PG_STAT_HEALTH (pg : Nat) : Fld := ⟨4096 * (pg / 4096) + 0x00c, 7, 4⟩
abbrev F.PG_STAT_BIST_ACTIVE (pg : Nat) : Fld := ⟨4096 * (pg / 4096) + 0x00c, 3, 3⟩
abbrev F.PG_STAT_OFFLINE (pg : Nat) : Fld := ⟨4096 * (pg / 4096) + 0x00c, 2, 2⟩
abbrev F.PG_STAT_BUSY (pg : Nat) : Fld := ⟨4096 * (pg / 4096) + 0x00c, 1, 1⟩
abbrev F.PG_STAT_READY (pg : Nat) : Fld := ⟨4096 * (pg / 4096) + 0x00c, 0, 0⟩
/-- PG_EVT_RAW, 02_register_pages. -/
abbrev R.PG_EVT_RAW (pg : Nat) : Nat := 4096 * (pg / 4096) + 0x010
/-- PG_EVT_EN, 02_register_pages. -/
abbrev R.PG_EVT_EN (pg : Nat) : Nat := 4096 * (pg / 4096) + 0x014
/-- PG_ERR, 02_register_pages. -/
abbrev R.PG_ERR (pg : Nat) : Nat := 4096 * (pg / 4096) + 0x020
abbrev F.PG_ERR_UE_CNT (pg : Nat) : Fld := ⟨4096 * (pg / 4096) + 0x020, 31, 16⟩
abbrev F.PG_ERR_CE_CNT (pg : Nat) : Fld := ⟨4096 * (pg / 4096) + 0x020, 15, 0⟩
/-- PG_LOCK, 02_register_pages. -/
abbrev R.PG_LOCK (pg : Nat) : Nat := 4096 * (pg / 4096) + 0x024
abbrev F.PG_LOCK_UNLOCKED (pg : Nat) : Fld := ⟨4096 * (pg / 4096) + 0x024, 31, 31⟩
abbrev F.PG_LOCK_OWNER (pg : Nat) : Fld := ⟨4096 * (pg / 4096) + 0x024, 29, 28⟩
abbrev F.PG_LOCK_REMAIN (pg : Nat) : Fld := ⟨4096 * (pg / 4096) + 0x024, 8, 0⟩
/-- PG_SCRATCH, 02_register_pages. -/
abbrev R.PG_SCRATCH (pg : Nat) : Nat := 4096 * (pg / 4096) + 0x028

end Sys2Proof.Machine
end

