-- ==== Sys2Proof/Machine/Bits.lean ====
section
/-!
DEFINITION. Bit fields of registers (R10), big-endian bytes (R11), saturating counts and the CRCs of the spec.
-/

namespace Sys2Proof.Machine

/-- How many bits a field has. -/
def Fld.width (f : Fld) : Nat := f.hi + 1 - f.lo

/-- The bits of the register that the field covers. -/
def Fld.mask (f : Fld) : Word := BitVec.ofNat 32 ((2 ^ f.width - 1) <<< f.lo)

/-- The value of a field in a register value. -/
def Fld.of (f : Fld) (w : Word) : Nat := (w.toNat >>> f.lo) % 2 ^ f.width

/-- A register value with the field replaced by the low bits of `v`. -/
def Fld.ins (f : Fld) (w : Word) (v : Nat) : Word :=
  (w &&& ~~~f.mask) ||| (BitVec.ofNat 32 ((v % 2 ^ f.width) <<< f.lo))

/-- `n` bytes of `v`, most significant first (R11). -/
def beBytes : Nat → Nat → List Byte
  | 0, _ => []
  | n + 1, v => BitVec.ofNat 8 (v >>> (8 * n)) :: beBytes n v

/-- The number that bytes spell, most significant first (R11). -/
def ofBytes (bs : List Byte) : Nat := bs.foldl (fun a b => a * 256 + b.toNat) 0

/-- Bytes `i` to `i + n - 1` of a list, 0 where it has none. -/
def bytesAt (bs : List Byte) (i n : Nat) : List Byte := (List.range n).map fun k => bs.getD (i + k) 0

/-- One bit of a reflected CRC of width `w` with the reflected polynomial `poly`. -/
def crcBitR (poly : Nat) (c : Nat) : Nat := if c % 2 = 1 then (c / 2) ^^^ poly else c / 2

/-- One byte of a reflected CRC. -/
def crcByteR (poly : Nat) (c : Nat) (b : Byte) : Nat :=
  (List.range 8).foldl (fun a _ => crcBitR poly a) (c ^^^ b.toNat)

/-- CRC-32C of RFC 3720 (R395): polynomial 0x1EDC_6F41, reflected, initial value 0xFFFF_FFFF, final complement. -/
def crc32c (bs : List Byte) : Word :=
  BitVec.ofNat 32 ((bs.foldl (crcByteR 0x82F63B78) 0xFFFFFFFF) ^^^ 0xFFFFFFFF)

/-- The FCS of IEEE 802.3 (R130) in the order of its bytes: polynomial 0x04C1_1DB7, reflected, initial value 0xFFFF_FFFF, final
complement. -/
def fcs32 (bs : List Byte) : Nat :=
  ofBytes (beBytes 4 ((bs.foldl (crcByteR 0xEDB88320) 0xFFFFFFFF) ^^^ 0xFFFFFFFF)).reverse

/-- One bit of a CRC of width `w` that is not reflected. -/
def crcBit (w poly c : Nat) : Nat := if 2 ^ (w - 1) ≤ c then ((2 * c) ^^^ poly) % 2 ^ w else 2 * c

/-- One byte of a CRC of width `w` that is not reflected. -/
def crcByte (w poly c : Nat) (b : Byte) : Nat :=
  (List.range 8).foldl (fun a _ => crcBit w poly a) (c ^^^ (b.toNat <<< (w - 8)))

/-- A CRC of width `w`, not reflected, without a final complement. -/
def crc (w poly init : Nat) (bs : List Byte) : Nat := bs.foldl (crcByte w poly) init

/-- The signed reading of the low `w` bits. -/
def toSigned (w v : Nat) : Int := if v % 2 ^ w < 2 ^ (w - 1) then (v % 2 ^ w : Nat) else (v % 2 ^ w : Nat) - (2 ^ w : Nat)

/-- The low `w` bits of an integer. -/
def ofSigned (w : Nat) (i : Int) : Nat := (i % (2 ^ w : Nat)).toNat

/-- An integer saturated to a signed number of `w` bits. -/
def satSigned (w : Nat) (i : Int) : Nat := ofSigned w (max (-(2 ^ (w - 1) : Nat)) (min ((2 ^ (w - 1) : Nat) - 1) i))

/-- An integer held within ±`lim`. -/
def clampSym (lim : Nat) (i : Int) : Int := if i > lim then lim else if i < -(lim : Int) then -(lim : Int) else i

/-- "Later" between two numbers of `w` bits (R110): the difference modulo 2^w lies from 1 to 2^(w−1) − 1. -/
def laterThan (w a b : Nat) : Bool :=
  let d := (a + 2 ^ w - b % 2 ^ w) % 2 ^ w
  0 < d && d < 2 ^ (w - 1)

end Sys2Proof.Machine
end

