-- ==== Sys2Proof/Config.lean ====
section
/-!
DEFINITION. What the spec leaves open and the machine goes on with: free values. Nothing constrains them.
-/

namespace Sys2Proof.Config

/-- The free value number `n` of width `w` bits: a value that the spec leaves open (log entry 3). -/
opaque freeValue (w : Nat) : Nat → BitVec w

/-- What a field's reserved encoding selects (R19), by the field's register offset and the encoding: open, a constant of the
implementation (log entry 3). -/
opaque reserved (w : Nat) : Nat → Nat → BitVec w

/-- The digest of the Kloermast signing key in OTP (R360, R373), which the spec does not give (log entry 3). -/
opaque kloermastDigest : BitVec 256

/-- The version of the boot ROM that VERSION reports (R385), which the spec does not give (log entry 3). -/
opaque bootRomVersion : BitVec 8

/-- The traffic class of the node's own frames of a native class that belong to no context (R153), which the spec does not name (log
entry 76). -/
opaque ownTc : Nat → BitVec 3

end Sys2Proof.Config
end

