-- ==== Sys2Proof/Machine/RegTable.lean ====
section
/-!
DEFINITION. The register tables of the spec as data: the page directory (R50), the reset values (R20) and, for every register,
the bits that each access code (R17) covers. A field that its table calls self-clearing or write-only has no stored bits
here: what a write of it does is its command's meaning.
-/

namespace Sys2Proof.Machine

/-- The registers `reg + i·s1 + j·s2` for `i < n1`, `j < n2` of a page layout: the stored RW bits, the stored RWL bits, the
W1C bits, whether some field is RWL, and the reset value. -/
structure RegRow where
  reg : Nat
  n1 : Nat
  s1 : Nat
  n2 : Nat
  s2 : Nat
  rw : Word
  rwl : Word
  w1c : Word
  lockable : Bool
  reset : Word
deriving DecidableEq, Repr

/-- The row covers the register at offset `off` of its page. -/
def RegRow.covers (r : RegRow) (off : Nat) : Bool :=
  r.reg ≤ off && (off - r.reg) / r.s1 < r.n1 && (off - r.reg) % r.s1 / r.s2 < r.n2 && (off - r.reg) % r.s1 % r.s2 == 0

/-- The page directory of R50: page number (island code, block index) and block type. -/
def pageDir : List (Nat × Nat) := [
  (0x000, 0x00001), (0x001, 0x00002), (0x002, 0x00003), (0x003, 0x00004), (0x004, 0x00005), (0x005, 0x00006),
  (0x006, 0x00007), (0x010, 0x00101), (0x011, 0x00102), (0x012, 0x00102), (0x013, 0x00103), (0x020, 0x00101),
  (0x021, 0x00102), (0x022, 0x00102), (0x023, 0x00103), (0x030, 0x00201), (0x031, 0x00202), (0x032, 0x00203),
  (0x033, 0x00204), (0x034, 0x00205), (0x035, 0x00206), (0x036, 0x00207), (0x037, 0x00208), (0x040, 0x00301),
  (0x041, 0x00302), (0x042, 0x00302), (0x043, 0x00302), (0x044, 0x00302), (0x050, 0x00301), (0x051, 0x00302),
  (0x052, 0x00302), (0x053, 0x00302), (0x054, 0x00302), (0x060, 0x00401), (0x061, 0x00402), (0x062, 0x00403),
  (0x063, 0x00404), (0x070, 0x00501), (0x071, 0x00502), (0x072, 0x00502), (0x073, 0x00502), (0x074, 0x00502),
  (0x075, 0x00502), (0x076, 0x00502), (0x077, 0x00502), (0x078, 0x00502), (0x080, 0x00501), (0x081, 0x00502),
  (0x082, 0x00502), (0x083, 0x00502), (0x084, 0x00502), (0x085, 0x00502), (0x086, 0x00502), (0x087, 0x00502),
  (0x088, 0x00502), (0x090, 0x00601), (0x091, 0x00602), (0x092, 0x00603), (0x093, 0x00604), (0x0a0, 0x00701),
  (0x0a1, 0x00702), (0x0a2, 0x00703), (0x0b0, 0x00801), (0x0b1, 0x00802), (0x0b2, 0x00803), (0x0b3, 0x00804),
  (0x0c0, 0x00901), (0x0c1, 0x00902), (0x0c2, 0x00903), (0x0c3, 0x00904), (0x0d0, 0x00a01), (0x0d1, 0x00a02),
  (0x0d2, 0x00a03), (0x0e0, 0x00b01), (0x0e1, 0x00b02), (0x0e2, 0x00b03), (0x0f0, 0x00c01), (0x0f1, 0x00c02),
  (0x0f2, 0x00c03), (0x0f3, 0x00c04), (0x100, 0x00d01), (0x101, 0x00d02), (0x102, 0x00d03), (0x103, 0x00d04)
]

/-- The block type of a page, `none` for an unmapped page (R32). -/
def pageType (pg : Nat) : Option Nat := pageDir.lookup pg

def rows001_0 : List RegRow := [
  -- SYS_RST_CAUSE
  ⟨0x040, 1, 1, 1, 1, 0x0, 0x0, 0xffff, false, 0x10000002⟩,
  -- SYS_RST_CNT
  ⟨0x044, 1, 1, 1, 1, 0x0, 0x0, 0x0, false, 0x0⟩,
  -- SYS_RST_CMD
  ⟨0x048, 1, 1, 1, 1, 0x0, 0x0, 0x0, false, 0x0⟩,
  -- SYS_RST_BOOT
  ⟨0x04c, 1, 1, 1, 1, 0xc0000000, 0x0, 0x0, false, 0x0⟩,
  -- SYS_RST_STAT
  ⟨0x050, 1, 1, 1, 1, 0x0, 0x0, 0x0, false, 0x0⟩,
  -- SYS_RST_FAULT
  ⟨0x054, 1, 1, 1, 1, 0xc, 0x0, 0x0, false, 0x80000001⟩
]

def rows002_0 : List RegRow := [
  -- SYS_CLK_STAT
  ⟨0x040, 1, 1, 1, 1, 0x0, 0x0, 0x0, false, 0x1⟩,
  -- SYS_SRC_RELEASE
  ⟨0x044, 1, 1, 1, 1, 0x0, 0x3f, 0x0, true, 0x20⟩,
  -- SYS_CLK_LOSS
  ⟨0x048, 1, 1, 1, 1, 0x0, 0x0, 0x0, false, 0x0⟩,
  -- SYS_CLK_XOQ
  ⟨0x04c, 1, 1, 1, 1, 0x0, 0x0, 0x0, false, 0x0⟩,
  -- SYS_CLK_LINE
  ⟨0x050, 1, 1, 1, 1, 0x0, 0x80000000, 0x0, true, 0x0⟩,
  -- SYS_CLK_ISLn n=0
  ⟨0x080, 1, 1, 1, 1, 0x0, 0xf, 0x0, true, 0x2⟩,
  -- SYS_CLK_ISLn n=1
  ⟨0x084, 1, 1, 1, 1, 0x0, 0xf, 0x0, true, 0x3⟩,
  -- SYS_CLK_ISLn n=2
  ⟨0x088, 1, 1, 1, 1, 0x0, 0xf, 0x0, true, 0x3⟩,
  -- SYS_CLK_ISLn n=3
  ⟨0x08c, 1, 1, 1, 1, 0x0, 0xf, 0x0, true, 0x2⟩,
  -- SYS_CLK_ISLn n=4
  ⟨0x090, 1, 1, 1, 1, 0x0, 0xf, 0x0, true, 0x2⟩,
  -- SYS_CLK_ISLn n=5
  ⟨0x094, 1, 1, 1, 1, 0x0, 0xf, 0x0, true, 0x2⟩,
  -- SYS_CLK_ISLn n=6
  ⟨0x098, 1, 1, 1, 1, 0x0, 0xf, 0x0, true, 0x2⟩,
  -- SYS_CLK_ISLn n=7
  ⟨0x09c, 1, 1, 1, 1, 0x0, 0xf, 0x0, true, 0x2⟩,
  -- SYS_CLK_ISLn n=8
  ⟨0x0a0, 1, 1, 1, 1, 0x0, 0xf, 0x0, true, 0x2⟩,
  -- SYS_CLK_ISLn n=9
  ⟨0x0a4, 1, 1, 1, 1, 0x0, 0xf, 0x0, true, 0x3⟩,
  -- SYS_CLK_ISLn n=10
  ⟨0x0a8, 1, 1, 1, 1, 0x0, 0xf, 0x0, true, 0x2⟩
]
def rows002_1 : List RegRow := [
  -- SYS_CLK_ISLn n=11
  ⟨0x0ac, 1, 1, 1, 1, 0x0, 0xf, 0x0, true, 0x2⟩,
  -- SYS_CLK_ISLn n=12
  ⟨0x0b0, 1, 1, 1, 1, 0x0, 0xf, 0x0, true, 0x2⟩,
  -- SYS_CLK_ISLn n=13
  ⟨0x0b4, 1, 1, 1, 1, 0x0, 0xf, 0x0, true, 0x2⟩,
  -- SYS_CLK_ISLn n=14
  ⟨0x0b8, 1, 1, 1, 1, 0x0, 0xf, 0x0, true, 0x2⟩,
  -- SYS_CLK_ISLn n=15
  ⟨0x0bc, 1, 1, 1, 1, 0x0, 0xf, 0x0, true, 0x2⟩,
  -- SYS_CLK_ISLn n=16
  ⟨0x0c0, 1, 1, 1, 1, 0x0, 0xf, 0x0, true, 0x2⟩
]

def rows003_0 : List RegRow := [
  -- SYS_PWR_STAT
  ⟨0x040, 1, 1, 1, 1, 0x0, 0x0, 0x0, false, 0x1⟩,
  -- SYS_PWR_CMD
  ⟨0x044, 1, 1, 1, 1, 0x0, 0x0, 0x0, true, 0x0⟩,
  -- SYS_PWR_RESULT
  ⟨0x048, 1, 1, 1, 1, 0x0, 0x0, 0x0, false, 0x0⟩,
  -- SYS_PWR_XDROP
  ⟨0x04c, 1, 1, 1, 1, 0x0, 0x0, 0x0, false, 0x0⟩,
  -- SYS_PWR_SEQn
  ⟨0x084, 16, 4, 1, 1, 0x0, 0x0, 0x0, false, 0x0⟩,
  -- SYS_PWR_DVFSf
  ⟨0x100, 3, 8, 1, 1, 0x0, 0x300ff, 0x0, true, 0x100a0⟩,
  -- SYS_PWR_DVFSSTATf
  ⟨0x104, 3, 8, 1, 1, 0x0, 0x0, 0x0, false, 0x100a0⟩
]

def rows004_0 : List RegRow := [
  -- SYS_WAKE_STAT
  ⟨0x040, 1, 1, 1, 1, 0x0, 0x0, 0x0, false, 0x0⟩,
  -- SYS_WAKE_CMD
  ⟨0x044, 1, 1, 1, 1, 0xc, 0x0, 0x0, false, 0x0⟩,
  -- SYS_WAKE_PROP_N
  ⟨0x048, 1, 1, 1, 1, 0x0, 0xffffffff, 0x0, true, 0x0⟩,
  -- SYS_WAKE_PROP
  ⟨0x04c, 1, 1, 1, 1, 0x0, 0x21ff01ff, 0x0, true, 0x0⟩,
  -- SYS_WAKE_DUSK_N
  ⟨0x050, 1, 1, 1, 1, 0x0, 0x0, 0x0, false, 0x0⟩,
  -- SYS_WAKE_DUSK_ID
  ⟨0x054, 1, 1, 1, 1, 0x0, 0x0, 0x0, false, 0x0⟩,
  -- SYS_WAKE_DUSK_RNG
  ⟨0x058, 1, 1, 1, 1, 0x0, 0x0, 0x0, false, 0x0⟩,
  -- SYS_WAKE_ARM
  ⟨0x05c, 1, 1, 1, 1, 0x30f, 0x0, 0x0, false, 0x307⟩,
  -- SYS_WAKE_CAN
  ⟨0x060, 1, 1, 1, 1, 0xffffffff, 0x0, 0x0, false, 0x0⟩,
  -- SYS_WAKE_SEG
  ⟨0x064, 1, 1, 1, 1, 0xf, 0x0, 0x0, false, 0x0⟩,
  -- SYS_WAKE_CAUSE
  ⟨0x068, 1, 1, 1, 1, 0x0, 0x0, 0x0, false, 0x0⟩,
  -- SYS_WAKE_CNT
  ⟨0x06c, 1, 1, 1, 1, 0x0, 0x0, 0x0, false, 0x0⟩
]

def rows005_0 : List RegRow := [
  -- SYS_DIN_CFGi i=0
  ⟨0x040, 1, 1, 1, 1, 0x0, 0xffffffff, 0x0, true, 0x143c324a⟩,
  -- SYS_DIN_CFGi
  ⟨0x040, 4, 8, 1, 1, 0x0, 0xffffffff, 0x0, true, 0x1400324a⟩,
  -- SYS_DIN_STATi
  ⟨0x044, 4, 8, 1, 1, 0x0, 0x0, 0x0, false, 0x0⟩
]

def rows006_0 : List RegRow := [
  -- SYS_BYP_STAT
  ⟨0x040, 1, 1, 1, 1, 0x0, 0x0, 0x0, false, 0x22⟩,
  -- SYS_BYP_CNT
  ⟨0x044, 1, 1, 1, 1, 0x0, 0x0, 0x0, false, 0x0⟩
]

def rows007_0 : List RegRow := [
  -- SYS_EVT_ISL
  ⟨0x040, 1, 1, 1, 1, 0x0, 0x0, 0x0, false, 0x0⟩,
  -- SYS_EVT_EOI
  ⟨0x044, 1, 1, 1, 1, 0x0, 0x0, 0x0, false, 0x0⟩,
  -- SYS_EVT_OFFWR
  ⟨0x048, 1, 1, 1, 1, 0x0, 0x0, 0x0, false, 0x0⟩,
  -- SYS_EVT_PGSUMn
  ⟨0x080, 17, 4, 1, 1, 0x0, 0x0, 0x0, false, 0x0⟩,
  -- SYS_EVT_ROUTEn n=0
  ⟨0x100, 1, 1, 1, 1, 0x31f, 0x0, 0x0, false, 0x200⟩,
  -- SYS_EVT_ROUTEn n=1
  ⟨0x104, 1, 1, 1, 1, 0x31f, 0x0, 0x0, false, 0x201⟩,
  -- SYS_EVT_ROUTEn n=2
  ⟨0x108, 1, 1, 1, 1, 0x31f, 0x0, 0x0, false, 0x202⟩,
  -- SYS_EVT_ROUTEn n=3
  ⟨0x10c, 1, 1, 1, 1, 0x31f, 0x0, 0x0, false, 0x203⟩,
  -- SYS_EVT_ROUTEn n=4
  ⟨0x110, 1, 1, 1, 1, 0x31f, 0x0, 0x0, false, 0x204⟩,
  -- SYS_EVT_ROUTEn n=5
  ⟨0x114, 1, 1, 1, 1, 0x31f, 0x0, 0x0, false, 0x205⟩,
  -- SYS_EVT_ROUTEn n=6
  ⟨0x118, 1, 1, 1, 1, 0x31f, 0x0, 0x0, false, 0x206⟩,
  -- SYS_EVT_ROUTEn n=7
  ⟨0x11c, 1, 1, 1, 1, 0x31f, 0x0, 0x0, false, 0x207⟩,
  -- SYS_EVT_ROUTEn n=8
  ⟨0x120, 1, 1, 1, 1, 0x31f, 0x0, 0x0, false, 0x208⟩,
  -- SYS_EVT_ROUTEn n=9
  ⟨0x124, 1, 1, 1, 1, 0x31f, 0x0, 0x0, false, 0x209⟩,
  -- SYS_EVT_ROUTEn n=10
  ⟨0x128, 1, 1, 1, 1, 0x31f, 0x0, 0x0, false, 0x20a⟩,
  -- SYS_EVT_ROUTEn n=11
  ⟨0x12c, 1, 1, 1, 1, 0x31f, 0x0, 0x0, false, 0x20b⟩
]
def rows007_1 : List RegRow := [
  -- SYS_EVT_ROUTEn n=12
  ⟨0x130, 1, 1, 1, 1, 0x31f, 0x0, 0x0, false, 0x20c⟩,
  -- SYS_EVT_ROUTEn n=13
  ⟨0x134, 1, 1, 1, 1, 0x31f, 0x0, 0x0, false, 0x20d⟩,
  -- SYS_EVT_ROUTEn n=14
  ⟨0x138, 1, 1, 1, 1, 0x31f, 0x0, 0x0, false, 0x20e⟩,
  -- SYS_EVT_ROUTEn n=15
  ⟨0x13c, 1, 1, 1, 1, 0x31f, 0x0, 0x0, false, 0x20f⟩,
  -- SYS_EVT_ROUTEn n=16
  ⟨0x140, 1, 1, 1, 1, 0x31f, 0x0, 0x0, false, 0x210⟩
]

def rows101_0 : List RegRow := [
  -- BLA_LINE_CFG
  ⟨0x040, 1, 1, 1, 1, 0x0, 0xfffff7f, 0x0, true, 0x3233c6d⟩,
  -- BLA_LINE_CMD
  ⟨0x044, 1, 1, 1, 1, 0x0, 0x1, 0x0, true, 0x0⟩,
  -- BLA_LINE_STAT
  ⟨0x048, 1, 1, 1, 1, 0x0, 0x0, 0x0, false, 0x0⟩,
  -- BLA_LINE_CNT
  ⟨0x04c, 1, 1, 1, 1, 0x0, 0x0, 0x0, false, 0x0⟩
]

def rows102_0 : List RegRow := [
  -- BLA_Pn_STAT
  ⟨0x040, 1, 1, 1, 1, 0x0, 0x0, 0x0, false, 0x0⟩,
  -- BLA_Pn_LAT
  ⟨0x044, 1, 1, 1, 1, 0x0, 0x0, 0x0, false, 0x0⟩,
  -- BLA_Pn_SNR
  ⟨0x048, 1, 1, 1, 1, 0xff0000, 0x0, 0x0, false, 0xc0000⟩,
  -- BLA_Pn_ERR
  ⟨0x04c, 1, 1, 1, 1, 0x0, 0x0, 0x0, false, 0x0⟩
]

def rows103_0 : List RegRow := [
  -- BLA_BEAM_STAT
  ⟨0x040, 1, 1, 1, 1, 0x0, 0x0, 0x0, false, 0x0⟩,
  -- BLA_BEAM_CFG
  ⟨0x044, 1, 1, 1, 1, 0x0, 0xffff, 0x0, true, 0x2310⟩,
  -- BLA_BEAM_PHD
  ⟨0x048, 1, 1, 1, 1, 0x0, 0x0, 0x0, false, 0x0⟩,
  -- BLA_BEAM_PHU
  ⟨0x04c, 1, 1, 1, 1, 0x0, 0x0, 0x0, false, 0x0⟩,
  -- BLA_BEAM_DCUMD
  ⟨0x050, 1, 1, 1, 1, 0x0, 0x0, 0x0, false, 0xffffff⟩,
  -- BLA_BEAM_DCUMU
  ⟨0x054, 1, 1, 1, 1, 0x0, 0x0, 0x0, false, 0xffffff⟩,
  -- BLA_BEAM_LDLY
  ⟨0x058, 1, 1, 1, 1, 0x0, 0x0, 0x0, false, 0x0⟩,
  -- BLA_BEAM_ERR
  ⟨0x05c, 1, 1, 1, 1, 0x0, 0x0, 0x0, false, 0x0⟩,
  -- BLA_BEAM_EVCNT
  ⟨0x060, 1, 1, 1, 1, 0x0, 0x0, 0x0, false, 0x0⟩,
  -- BLA_BEAM_QCNT
  ⟨0x064, 1, 1, 1, 1, 0x0, 0x0, 0x0, false, 0x0⟩,
  -- BLA_BEAM_INS
  ⟨0x068, 1, 1, 1, 1, 0x0, 0x0, 0x0, false, 0x0⟩,
  -- BLA_BEAM_DLV
  ⟨0x06c, 1, 1, 1, 1, 0x0, 0x0, 0x0, false, 0x0⟩
]

def rows201_0 : List RegRow := [
  -- FAB_CTRL_ETYPE
  ⟨0x040, 1, 1, 1, 1, 0x0, 0xffff, 0x0, true, 0x88b5⟩,
  -- FAB_CTRL_CFG
  ⟨0x044, 1, 1, 1, 1, 0x0, 0xfff0fff, 0x0, true, 0xf00ff⟩,
  -- FAB_CTRL_AGE
  ⟨0x048, 1, 1, 1, 1, 0x0, 0xffff, 0x0, true, 0x12c⟩,
  -- FAB_CTRL_GRPn
  ⟨0x080, 16, 4, 1, 1, 0xffffffff, 0x0, 0x0, false, 0x0⟩,
  -- FAB_CTRL_FUNCn
  ⟨0x0c0, 16, 4, 1, 1, 0xffffffff, 0x0, 0x0, false, 0x0⟩,
  -- FAB_CTRL_VLANn_W0 n=0
  ⟨0x100, 1, 1, 1, 1, 0x0, 0xcfff0fff, 0x0, true, 0x8fff0001⟩,
  -- FAB_CTRL_VLANn_W0
  ⟨0x100, 64, 8, 1, 1, 0x0, 0xcfff0fff, 0x0, true, 0x0⟩,
  -- FAB_CTRL_VLANn_W1 n=0
  ⟨0x104, 1, 1, 1, 1, 0x0, 0xfff, 0x0, true, 0xff0⟩,
  -- FAB_CTRL_VLANn_W1
  ⟨0x104, 64, 8, 1, 1, 0x0, 0xfff, 0x0, true, 0x0⟩
]

def rows202_0 : List RegRow := [
  -- FAB_FLOW_SEL
  ⟨0x040, 1, 1, 1, 1, 0xfff, 0x0, 0x0, false, 0x0⟩,
  -- FAB_FLOW_CMD
  ⟨0x044, 1, 1, 1, 1, 0x0, 0x0, 0x0, true, 0x0⟩,
  -- FAB_FLOW_DATAn
  ⟨0x050, 16, 4, 1, 1, 0x0, 0xffffffff, 0x0, true, 0x0⟩,
  -- FAB_FLOW_STAT
  ⟨0x090, 1, 1, 1, 1, 0x0, 0x0, 0x0, false, 0x0⟩,
  -- FAB_FLOW_LASTEXP
  ⟨0x094, 1, 1, 1, 1, 0x0, 0x0, 0x0, false, 0x0⟩
]

def rows203_0 : List RegRow := [
  -- FAB_QUE_SEL
  ⟨0x040, 1, 1, 1, 1, 0x7f, 0x0, 0x0, false, 0x0⟩,
  -- FAB_QUE_CFG
  ⟨0x044, 1, 1, 1, 1, 0x0, 0xffff, 0x0, true, 0x800⟩,
  -- FAB_QUE_STAT
  ⟨0x048, 1, 1, 1, 1, 0x0, 0x0, 0x0, false, 0x0⟩,
  -- FAB_QUE_BANK_LO
  ⟨0x04c, 1, 1, 1, 1, 0x0, 0xffffffff, 0x0, true, 0x0⟩,
  -- FAB_QUE_BANK_HI
  ⟨0x050, 1, 1, 1, 1, 0x0, 0xffffffff, 0x0, true, 0xffaa5555⟩,
  -- FAB_QUE_RETIRED
  ⟨0x054, 1, 1, 1, 1, 0x0, 0x0, 0x0, false, 0x0⟩,
  -- FAB_QUE_MOVING
  ⟨0x058, 1, 1, 1, 1, 0x0, 0x0, 0x0, false, 0x0⟩,
  -- FAB_QUE_FREEp p=0
  ⟨0x060, 1, 1, 1, 1, 0x0, 0x0, 0x0, false, 0x4000⟩,
  -- FAB_QUE_FREEp p=1
  ⟨0x064, 1, 1, 1, 1, 0x0, 0x0, 0x0, false, 0x2000⟩,
  -- FAB_QUE_FREEp p=2
  ⟨0x068, 1, 1, 1, 1, 0x0, 0x0, 0x0, false, 0x1000⟩,
  -- FAB_QUE_FREEp p=3
  ⟨0x06c, 1, 1, 1, 1, 0x0, 0x0, 0x0, false, 0x1000⟩
]

def rows204_0 : List RegRow := [
  -- FAB_GATE_SEL
  ⟨0x040, 1, 1, 1, 1, 0x3ff, 0x0, 0x0, false, 0x0⟩,
  -- FAB_GATE_ENTRY
  ⟨0x044, 1, 1, 1, 1, 0x0, 0xffffffff, 0x0, true, 0x0⟩,
  -- FAB_GATE_CTRL
  ⟨0x048, 1, 1, 1, 1, 0x0, 0x17f, 0x0, true, 0x0⟩,
  -- FAB_GATE_STAT
  ⟨0x04c, 1, 1, 1, 1, 0x0, 0x0, 0x0, false, 0xff000000⟩
]

def rows205_0 : List RegRow := [
  -- FAB_POL_SEL
  ⟨0x040, 1, 1, 1, 1, 0xff, 0x0, 0x0, false, 0x1⟩,
  -- FAB_POL_CFG
  ⟨0x044, 1, 1, 1, 1, 0x0, 0xffffffff, 0x0, true, 0x0⟩,
  -- FAB_POL_CNT
  ⟨0x048, 1, 1, 1, 1, 0x0, 0x0, 0x0, false, 0x0⟩
]

def rows206_0 : List RegRow := [
  -- FAB_CNT_SEL
  ⟨0x040, 1, 1, 1, 1, 0xf, 0x0, 0x0, false, 0x0⟩,
  -- FAB_CNT_RX
  ⟨0x044, 1, 1, 1, 1, 0x0, 0x0, 0x0, false, 0x0⟩,
  -- FAB_CNT_TX
  ⟨0x048, 1, 1, 1, 1, 0x0, 0x0, 0x0, false, 0x0⟩,
  -- FAB_CNT_DROP0
  ⟨0x04c, 1, 1, 1, 1, 0x0, 0x0, 0x0, false, 0x0⟩,
  -- FAB_CNT_DROP1
  ⟨0x050, 1, 1, 1, 1, 0x0, 0x0, 0x0, false, 0x0⟩,
  -- FAB_CNT_DROP2
  ⟨0x054, 1, 1, 1, 1, 0x0, 0x0, 0x0, false, 0x0⟩,
  -- FAB_CNT_NATIVE
  ⟨0x058, 1, 1, 1, 1, 0x0, 0x0, 0x0, false, 0x0⟩
]

def rows207_0 : List RegRow := [
  -- FAB_LDUP_CFG
  ⟨0x040, 1, 1, 1, 1, 0xffff0000, 0x1, 0x0, true, 0x1900001⟩,
  -- FAB_LDUP_STAT
  ⟨0x044, 1, 1, 1, 1, 0x0, 0x0, 0x0, false, 0x0⟩,
  -- LDUP_FIRST_A
  ⟨0x048, 1, 1, 1, 1, 0x0, 0x0, 0x0, false, 0x0⟩,
  -- LDUP_FIRST_B
  ⟨0x04c, 1, 1, 1, 1, 0x0, 0x0, 0x0, false, 0x0⟩,
  -- LDUP_DISCARD
  ⟨0x050, 1, 1, 1, 1, 0x0, 0x0, 0x0, false, 0x0⟩,
  -- LDUP_RSEQ
  ⟨0x054, 1, 1, 1, 1, 0x0, 0x0, 0x0, false, 0x0⟩
]

def rows208_0 : List RegRow := [
  -- FAB_CBDUP_CFG
  ⟨0x040, 1, 1, 1, 1, 0x0, 0xffff0001, 0x0, true, 0x640000⟩,
  -- FAB_CBDUP_SEL
  ⟨0x044, 1, 1, 1, 1, 0xff, 0x0, 0x0, false, 0x0⟩,
  -- FAB_CBDUP_ID_HI
  ⟨0x048, 1, 1, 1, 1, 0x0, 0x8fffffff, 0x0, true, 0x0⟩,
  -- FAB_CBDUP_ID_LO
  ⟨0x04c, 1, 1, 1, 1, 0x0, 0xffffffff, 0x0, true, 0x0⟩,
  -- FAB_CBDUP_CNT
  ⟨0x050, 1, 1, 1, 1, 0x0, 0x0, 0x0, false, 0x0⟩
]

def rows301_0 : List RegRow := [
  -- CPA_CTRL_TRDP
  ⟨0x040, 1, 1, 1, 1, 0x0, 0xc03fffff, 0x0, true, 0xc0004348⟩,
  -- CPA_CTRL_IP
  ⟨0x044, 1, 1, 1, 1, 0x0, 0xffffffff, 0x0, true, 0x0⟩,
  -- CPA_CTRL_ETBTOPO
  ⟨0x048, 1, 1, 1, 1, 0xffffffff, 0x0, 0x0, false, 0x0⟩,
  -- CPA_CTRL_OPTOPO
  ⟨0x04c, 1, 1, 1, 1, 0xffffffff, 0x0, 0x0, false, 0x0⟩,
  -- CPA_CTRL_CSEL
  ⟨0x050, 1, 1, 1, 1, 0x1ff, 0x0, 0x0, false, 0x0⟩,
  -- CPA_CTRL_CDATAn
  ⟨0x060, 4, 4, 1, 1, 0x0, 0xffffffff, 0x0, true, 0x0⟩,
  -- CPA_CTRL_PDRX
  ⟨0x070, 1, 1, 1, 1, 0x0, 0x0, 0x0, false, 0x0⟩,
  -- CPA_CTRL_PDTX
  ⟨0x074, 1, 1, 1, 1, 0x0, 0x0, 0x0, false, 0x0⟩,
  -- CPA_CTRL_PDERR
  ⟨0x078, 1, 1, 1, 1, 0x0, 0x0, 0x0, false, 0x0⟩
]

def rows302_0 : List RegRow := [
  -- CPA_Pn_CFG
  ⟨0x040, 1, 1, 1, 1, 0x0, 0x7ff30fff, 0x0, true, 0x10001⟩,
  -- CPA_Pn_STAT
  ⟨0x044, 1, 1, 1, 1, 0x0, 0x0, 0x0, false, 0x0⟩,
  -- CPA_Pn_ERR
  ⟨0x048, 1, 1, 1, 1, 0x0, 0x0, 0x0, false, 0x0⟩
]

def rows401_0 : List RegRow := [
  -- SGW_CTRL_CFG
  ⟨0x040, 1, 1, 1, 1, 0x0, 0xff1fffff, 0x0, true, 0x8000001⟩,
  -- SGW_CTRL_STAT
  ⟨0x044, 1, 1, 1, 1, 0x0, 0x0, 0x0, false, 0x80000000⟩,
  -- SGW_CTRL_FLIP
  ⟨0x048, 1, 1, 1, 1, 0x0, 0x2, 0x0, true, 0x0⟩,
  -- SGW_CTRL_FLIP_K
  ⟨0x04c, 1, 1, 1, 1, 0x0, 0xffffffff, 0x0, true, 0x0⟩,
  -- SGW_CTRL_FLIPSTAT
  ⟨0x050, 1, 1, 1, 1, 0x0, 0x0, 0x0, false, 0x0⟩,
  -- SGW_CTRL_FLIPCYC
  ⟨0x054, 1, 1, 1, 1, 0x0, 0x0, 0x0, false, 0x0⟩,
  -- SGW_CTRL_NENT0
  ⟨0x058, 1, 1, 1, 1, 0x1ffff, 0x0, 0x0, false, 0x0⟩,
  -- SGW_CTRL_NENT1
  ⟨0x05c, 1, 1, 1, 1, 0x1ffff, 0x0, 0x0, false, 0x0⟩,
  -- SGW_CTRL_PASSCNT
  ⟨0x060, 1, 1, 1, 1, 0x0, 0x0, 0x0, false, 0x0⟩,
  -- SGW_CTRL_PMAX
  ⟨0x064, 1, 1, 1, 1, 0x0, 0x0, 0x0, false, 0x0⟩,
  -- SGW_CTRL_CNT
  ⟨0x068, 1, 1, 1, 1, 0x0, 0x0, 0x0, false, 0x0⟩,
  -- SGW_CTRL_INCNT
  ⟨0x06c, 1, 1, 1, 1, 0x0, 0x0, 0x0, false, 0x0⟩,
  -- SGW_CTRL_UE
  ⟨0x070, 1, 1, 1, 1, 0x0, 0x0, 0x0, false, 0x0⟩
]

def rows402_0 : List RegRow := [
  -- SGW_MAP_SEL
  ⟨0x040, 1, 1, 1, 1, 0xc001ffff, 0x0, 0x0, false, 0x0⟩,
  -- SGW_MAP_CMD
  ⟨0x044, 1, 1, 1, 1, 0x0, 0x0, 0x0, false, 0x0⟩,
  -- SGW_MAP_DATAn
  ⟨0x050, 4, 4, 1, 1, 0xffffffff, 0x0, 0x0, false, 0x0⟩
]

def rows403_0 : List RegRow := [
  -- SGW_IMG_SEL
  ⟨0x040, 1, 1, 1, 1, 0x4001ffff, 0x0, 0x0, false, 0x0⟩,
  -- SGW_IMG_LO
  ⟨0x044, 1, 1, 1, 1, 0xffffffff, 0x0, 0x0, false, 0x0⟩,
  -- SGW_IMG_HI
  ⟨0x048, 1, 1, 1, 1, 0xffffffff, 0x0, 0x0, false, 0x0⟩
]

def rows404_0 : List RegRow := [
  -- SGW_RCP_SEL
  ⟨0x040, 1, 1, 1, 1, 0xe00003ff, 0x0, 0x0, false, 0x0⟩,
  -- SGW_RCP_CMD
  ⟨0x044, 1, 1, 1, 1, 0x0, 0x0, 0x0, false, 0x0⟩,
  -- SGW_RCP_DATAn
  ⟨0x050, 4, 4, 1, 1, 0xffffffff, 0x0, 0x0, false, 0x0⟩,
  -- SGW_RCP_ISTAT
  ⟨0x060, 1, 1, 1, 1, 0x0, 0x0, 0x0, false, 0x4000ffff⟩,
  -- SGW_RCP_RSUB
  ⟨0x064, 1, 1, 1, 1, 0x0, 0x0, 0x0, false, 0x0⟩
]

def rows501_0 : List RegRow := [
  -- CBL_CTRL_MSEL
  ⟨0x040, 1, 1, 1, 1, 0x80071fff, 0x0, 0x0, false, 0x0⟩,
  -- CBL_CTRL_MDATA_LO
  ⟨0x044, 1, 1, 1, 1, 0xffffffff, 0x0, 0x0, false, 0x0⟩,
  -- CBL_CTRL_MDATA_HI
  ⟨0x048, 1, 1, 1, 1, 0xffffffff, 0x0, 0x0, false, 0x0⟩,
  -- CBL_CTRL_TMc_CFG
  ⟨0x100, 8, 16, 1, 1, 0x0, 0xffffffff, 0x0, true, 0x0⟩,
  -- CBL_CTRL_TMc_SCHED
  ⟨0x104, 8, 16, 1, 1, 0x0, 0xffffe000, 0x0, true, 0x3e86000⟩,
  -- CBL_CTRL_TMc_PH
  ⟨0x108, 8, 16, 1, 1, 0x0, 0xffffffff, 0x0, true, 0x2710000⟩,
  -- CBL_CTRL_TMc_STAT
  ⟨0x10c, 8, 16, 1, 1, 0x0, 0x0, 0x0, false, 0x0⟩
]

def rows502_0 : List RegRow := [
  -- CBL_CANn_MODE
  ⟨0x040, 1, 1, 1, 1, 0x7, 0xc0, 0x0, true, 0x20082⟩,
  -- CBL_CANn_STAT
  ⟨0x044, 1, 1, 1, 1, 0x0, 0x0, 0x0, false, 0x0⟩,
  -- CBL_CANn_NBT
  ⟨0x048, 1, 1, 1, 1, 0x0, 0xffff7f7f, 0x0, true, 0x33e0f0f⟩,
  -- CBL_CANn_DBT
  ⟨0x04c, 1, 1, 1, 1, 0x0, 0x1f1f0f0f, 0x0, true, 0x30d0404⟩,
  -- CBL_CANn_SSP
  ⟨0x050, 1, 1, 1, 1, 0x0, 0x8000ff00, 0x0, true, 0x0⟩,
  -- CBL_CANn_ERRCFG
  ⟨0x054, 1, 1, 1, 1, 0x0, 0x80ffff0f, 0x0, true, 0x800a1002⟩,
  -- CBL_CANn_FILT
  ⟨0x058, 1, 1, 1, 1, 0x870000ff, 0x0, 0x0, false, 0x0⟩,
  -- CBL_CANn_CMD
  ⟨0x05c, 1, 1, 1, 1, 0x0, 0x0, 0x0, false, 0x0⟩,
  -- CBL_CANn_XCVR
  ⟨0x060, 1, 1, 1, 1, 0x30, 0x0, 0x0, false, 0x2⟩,
  -- CBL_CANn_ECNT
  ⟨0x064, 1, 1, 1, 1, 0x0, 0x0, 0x0, false, 0x0⟩,
  -- CBL_CANn_RXCNT
  ⟨0x068, 1, 1, 1, 1, 0x0, 0x0, 0x0, false, 0x0⟩,
  -- CBL_CANn_TXCNT
  ⟨0x06c, 1, 1, 1, 1, 0x0, 0x0, 0x0, false, 0x0⟩,
  -- CBL_CANn_FCNT
  ⟨0x070, 1, 1, 1, 1, 0x0, 0x0, 0x0, false, 0x0⟩,
  -- CBL_CANn_CCNT
  ⟨0x074, 1, 1, 1, 1, 0x0, 0x0, 0x0, false, 0x0⟩,
  -- CBL_CANn_QqCFG
  ⟨0x100, 16, 16, 1, 1, 0x0, 0xffffffff, 0x0, true, 0x0⟩,
  -- CBL_CANn_QqCNT
  ⟨0x108, 16, 16, 1, 1, 0x0, 0x0, 0x0, false, 0x0⟩
]
def rows502_1 : List RegRow := [
  -- CBL_CANn_QqPTR_RX
  ⟨0x104, 8, 16, 1, 1, 0x3ff00000, 0x0, 0x0, false, 0x0⟩,
  -- CBL_CANn_QqPTR_TX
  ⟨0x184, 8, 16, 1, 1, 0x3ffffc00, 0x0, 0x0, false, 0x0⟩
]

def rows601_0 : List RegRow := [
  -- TIM_BASE_MONO_LO
  ⟨0x040, 1, 1, 1, 1, 0x0, 0x0, 0x0, false, 0x0⟩,
  -- TIM_BASE_MONO_HI
  ⟨0x044, 1, 1, 1, 1, 0x0, 0x0, 0x0, false, 0x0⟩,
  -- TIM_BASE_TT_LO
  ⟨0x048, 1, 1, 1, 1, 0x0, 0x0, 0x0, false, 0x0⟩,
  -- TIM_BASE_TT_HI
  ⟨0x04c, 1, 1, 1, 1, 0x0, 0x0, 0x0, false, 0x0⟩,
  -- TIM_BASE_WALL_LO
  ⟨0x050, 1, 1, 1, 1, 0x0, 0x0, 0x0, false, 0x0⟩,
  -- TIM_BASE_WALL_HI
  ⟨0x054, 1, 1, 1, 1, 0x0, 0x0, 0x0, false, 0x0⟩,
  -- TIM_BASE_WOFS_LO
  ⟨0x058, 1, 1, 1, 1, 0x0, 0xffffffff, 0x0, true, 0x0⟩,
  -- TIM_BASE_WOFS_HI
  ⟨0x05c, 1, 1, 1, 1, 0x0, 0xffffffff, 0x0, true, 0x0⟩,
  -- TIM_BASE_WCTL
  ⟨0x060, 1, 1, 1, 1, 0x0, 0xff00, 0x0, true, 0x1000⟩,
  -- TIM_BASE_STAT
  ⟨0x064, 1, 1, 1, 1, 0x0, 0x0, 0x0, false, 0x0⟩,
  -- TIM_BASE_CMD
  ⟨0x068, 1, 1, 1, 1, 0x0, 0x0, 0x0, true, 0x0⟩
]

def rows602_0 : List RegRow := [
  -- TIM_SERVO_GAIN
  ⟨0x040, 1, 1, 1, 1, 0x0, 0xffff, 0x0, true, 0x2001⟩,
  -- TIM_SERVO_LIMIT
  ⟨0x044, 1, 1, 1, 1, 0x0, 0xffffffff, 0x0, true, 0xa0064⟩,
  -- TIM_SERVO_CFG
  ⟨0x048, 1, 1, 1, 1, 0x0, 0xffff0fff, 0x0, true, 0x14080401⟩,
  -- TIM_SERVO_OFFS
  ⟨0x04c, 1, 1, 1, 1, 0x0, 0x0, 0x0, false, 0x0⟩,
  -- TIM_SERVO_ADJ
  ⟨0x050, 1, 1, 1, 1, 0x0, 0x0, 0x0, false, 0x0⟩,
  -- TIM_SERVO_INTEG
  ⟨0x054, 1, 1, 1, 1, 0x0, 0x0, 0x0, false, 0x0⟩,
  -- TIM_SERVO_CNT
  ⟨0x058, 1, 1, 1, 1, 0x0, 0x0, 0x0, false, 0x0⟩,
  -- TIM_SERVO_USED
  ⟨0x05c, 1, 1, 1, 1, 0x0, 0x0, 0x0, false, 0x0⟩
]

def rows603_0 : List RegRow := [
  -- TIM_TS_SEL
  ⟨0x040, 1, 1, 1, 1, 0x7, 0x0, 0x0, false, 0x0⟩,
  -- TIM_TS_CYC
  ⟨0x044, 1, 1, 1, 1, 0x0, 0x0, 0x0, false, 0x0⟩,
  -- TIM_TS_LO
  ⟨0x048, 1, 1, 1, 1, 0x0, 0x0, 0x0, false, 0x0⟩,
  -- TIM_TS_HI
  ⟨0x04c, 1, 1, 1, 1, 0x0, 0x0, 0x0, false, 0x0⟩,
  -- TIM_TS_D
  ⟨0x050, 1, 1, 1, 1, 0x0, 0x0, 0x0, false, 0xffffff⟩
]

def rows604_0 : List RegRow := [
  -- TIM_AS_CTRL
  ⟨0x040, 1, 1, 1, 1, 0x0, 0xfff0ff, 0x0, true, 0xd00000⟩,
  -- TIM_AS_PRIO
  ⟨0x044, 1, 1, 1, 1, 0x0, 0xffffffff, 0x0, true, 0xf6faf8f8⟩,
  -- TIM_AS_UTC
  ⟨0x048, 1, 1, 1, 1, 0x1ffff, 0x0, 0x0, false, 0x25⟩,
  -- TIM_AS_ID_LO
  ⟨0x04c, 1, 1, 1, 1, 0x0, 0x0, 0x0, false, 0x0⟩,
  -- TIM_AS_ID_HI
  ⟨0x050, 1, 1, 1, 1, 0x0, 0x0, 0x0, false, 0x0⟩,
  -- TIM_AS_PSEL
  ⟨0x054, 1, 1, 1, 1, 0x7, 0x0, 0x0, false, 0x0⟩,
  -- TIM_AS_PSTAT
  ⟨0x058, 1, 1, 1, 1, 0x0, 0x0, 0x0, false, 0x0⟩,
  -- TIM_AS_PCNT
  ⟨0x05c, 1, 1, 1, 1, 0x0, 0x0, 0x0, false, 0x0⟩,
  -- TIM_AS_TBI
  ⟨0x060, 1, 1, 1, 1, 0x0, 0x0, 0x0, false, 0x0⟩
]

def rows701_0 : List RegRow := [
  -- TWN_CTRL_ROLE
  ⟨0x040, 1, 1, 1, 1, 0x0, 0x0, 0x0, false, 0xe000⟩,
  -- TWN_CTRL_CFG
  ⟨0x044, 1, 1, 1, 1, 0x0, 0xfffffff6, 0x0, true, 0x32140426⟩,
  -- TWN_CTRL_CMD
  ⟨0x048, 1, 1, 1, 1, 0x0, 0x0, 0x0, true, 0x0⟩,
  -- TWN_CTRL_HO
  ⟨0x04c, 1, 1, 1, 1, 0x0, 0x0, 0x0, false, 0x0⟩,
  -- TWN_CTRL_HOK
  ⟨0x050, 1, 1, 1, 1, 0x0, 0x0, 0x0, false, 0x0⟩,
  -- TWN_CTRL_PSER_LO
  ⟨0x054, 1, 1, 1, 1, 0x0, 0x0, 0x0, false, 0x0⟩,
  -- TWN_CTRL_PSER_HI
  ⟨0x058, 1, 1, 1, 1, 0x0, 0x0, 0x0, false, 0x0⟩,
  -- TWN_CTRL_CNT
  ⟨0x05c, 1, 1, 1, 1, 0x0, 0x0, 0x0, false, 0x0⟩,
  -- TWN_CTRL_LAST
  ⟨0x060, 1, 1, 1, 1, 0x0, 0x0, 0x0, false, 0x0⟩
]

def rows702_0 : List RegRow := [
  -- TWN_MLINK_STAT
  ⟨0x040, 1, 1, 1, 1, 0x0, 0x0, 0x0, false, 0xffff⟩,
  -- TWN_MLINK_EPOCH
  ⟨0x044, 1, 1, 1, 1, 0x0, 0x0, 0x0, false, 0x0⟩,
  -- TWN_MLINK_SIZE
  ⟨0x048, 1, 1, 1, 1, 0x0, 0x0, 0x0, false, 0x0⟩,
  -- TWN_MLINK_ERR
  ⟨0x04c, 1, 1, 1, 1, 0x0, 0x0, 0x0, false, 0x0⟩,
  -- TWN_MLINK_PRSEQ
  ⟨0x050, 1, 1, 1, 1, 0x0, 0x0, 0x0, false, 0x0⟩,
  -- TWN_MLINK_QSEL
  ⟨0x054, 1, 1, 1, 1, 0xf7, 0x0, 0x0, false, 0x0⟩,
  -- TWN_MLINK_QDATA
  ⟨0x058, 1, 1, 1, 1, 0x0, 0x0, 0x0, false, 0x0⟩
]

def rows703_0 : List RegRow := [
  -- TWN_XCHK_CFG
  ⟨0x040, 1, 1, 1, 1, 0x0, 0xff000f, 0x0, true, 0x100002⟩,
  -- TWN_XCHK_STAT
  ⟨0x044, 1, 1, 1, 1, 0x0, 0x0, 0x0, false, 0x0⟩,
  -- TWN_XCHK_CMP
  ⟨0x048, 1, 1, 1, 1, 0x0, 0x0, 0x0, false, 0x0⟩,
  -- TWN_XCHK_CNT
  ⟨0x04c, 1, 1, 1, 1, 0x0, 0x0, 0x0, false, 0x0⟩,
  -- TWN_XCHK_LAST
  ⟨0x050, 1, 1, 1, 1, 0x0, 0x0, 0x0, false, 0x0⟩,
  -- TWN_XCHK_LCYC
  ⟨0x054, 1, 1, 1, 1, 0x0, 0x0, 0x0, false, 0x0⟩
]

def rows801_0 : List RegRow := [
  -- HBR_CTRL_ID
  ⟨0x040, 1, 1, 1, 1, 0x0, 0x0, 0x0, false, 0xa5111f4b⟩,
  -- HBR_CTRL_LINK
  ⟨0x044, 1, 1, 1, 1, 0x0, 0x0, 0x0, false, 0x0⟩,
  -- HBR_CTRL_LASTERR
  ⟨0x048, 1, 1, 1, 1, 0x0, 0x0, 0x0, false, 0x0⟩,
  -- HBR_CTRL_ERRCNT
  ⟨0x04c, 1, 1, 1, 1, 0x0, 0x0, 0x0, false, 0x0⟩
]

def rows802_0 : List RegRow := [
  -- HBR_IWINn_BASE
  ⟨0x040, 16, 8, 1, 1, 0xffff000, 0x0, 0x0, false, 0x0⟩,
  -- HBR_IWINn_CFG
  ⟨0x044, 16, 8, 1, 1, 0xf31f0007, 0x0, 0x0, false, 0x0⟩
]

def rows803_0 : List RegRow := [
  -- HBR_OWINm_LO
  ⟨0x040, 8, 16, 1, 1, 0xffffffff, 0x0, 0x0, false, 0x0⟩,
  -- HBR_OWINm_HI
  ⟨0x044, 8, 16, 1, 1, 0xffffffff, 0x0, 0x0, false, 0x0⟩,
  -- HBR_OWINm_CFG
  ⟨0x048, 8, 16, 1, 1, 0xf03f0000, 0x0, 0x0, false, 0xc0000⟩,
  -- HBR_RINGr_CFG
  ⟨0x100, 9, 16, 1, 1, 0xc70003ff, 0x0, 0x0, false, 0x0⟩,
  -- HBR_RINGr_BASE
  ⟨0x104, 9, 16, 1, 1, 0xffffffff, 0x0, 0x0, false, 0x0⟩,
  -- HBR_RINGr_PTR
  ⟨0x108, 9, 16, 1, 1, 0x3ff0000, 0x0, 0x0, false, 0x0⟩,
  -- HBR_RINGr_CNT
  ⟨0x10c, 9, 16, 1, 1, 0x0, 0x0, 0x0, false, 0x0⟩
]

def rows804_0 : List RegRow := [
  -- HBR_MSIX_Vv_ADDR_HI
  ⟨0x104, 32, 16, 1, 1, 0xffffffff, 0x0, 0x0, false, 0x0⟩,
  -- HBR_MSIX_Vv_ADDR_LO
  ⟨0x100, 32, 16, 1, 1, 0xfffffffc, 0x0, 0x0, false, 0x0⟩,
  -- HBR_MSIX_Vv_DATA
  ⟨0x108, 32, 16, 1, 1, 0xffffffff, 0x0, 0x0, false, 0x0⟩,
  -- HBR_MSIX_Vv_CTRL
  ⟨0x10c, 32, 16, 1, 1, 0x1, 0x0, 0x0, false, 0x1⟩,
  -- HBR_MSIX_PBA
  ⟨0x300, 1, 1, 1, 1, 0x0, 0x0, 0x0, false, 0x0⟩
]

def rows901_0 : List RegRow := [
  -- PSC_CTRL_CFG
  ⟨0x040, 1, 1, 1, 1, 0x0, 0x80ffffff, 0x0, true, 0xa0a0a⟩,
  -- PSC_FENCE
  ⟨0x044, 1, 1, 1, 1, 0x0, 0x0, 0x0, false, 0x0⟩,
  -- PSC_FENCE_STAT
  ⟨0x048, 1, 1, 1, 1, 0x0, 0x0, 0x0, false, 0x0⟩,
  -- PSC_CTRL_CNT
  ⟨0x04c, 1, 1, 1, 1, 0x0, 0x0, 0x0, false, 0x0⟩,
  -- PSC_CTRL_ACLn_W0
  ⟨0x100, 32, 8, 1, 1, 0x0, 0xffffffff, 0x0, true, 0x0⟩,
  -- PSC_CTRL_ACLn_W1
  ⟨0x104, 32, 8, 1, 1, 0x0, 0xffffffff, 0x0, true, 0x0⟩
]

def rows902_0 : List RegRow := [
  -- PSC_WINp_CFG
  ⟨0x040, 8, 16, 1, 1, 0xcfff03ff, 0x0, 0x0, false, 0x40000⟩,
  -- PSC_WINp_BASE
  ⟨0x044, 8, 16, 1, 1, 0x1ff000, 0x0, 0x0, false, 0x0⟩,
  -- PSC_WINp_STAT
  ⟨0x048, 8, 16, 1, 1, 0x0, 0x0, 0x0, false, 0x0⟩,
  -- PSC_WINp_CNT
  ⟨0x04c, 8, 16, 1, 1, 0x0, 0x0, 0x0, false, 0x0⟩,
  -- PSC_DRB_STAT
  ⟨0x100, 1, 1, 1, 1, 0x0, 0x0, 0x0, false, 0x0⟩,
  -- PSC_DRB_CNT
  ⟨0x104, 1, 1, 1, 1, 0x0, 0x0, 0x0, false, 0x0⟩
]

def rows903_0 : List RegRow := [
  -- PSC_PWLOG_PTR
  ⟨0x040, 1, 1, 1, 1, 0x1f0000, 0x0, 0x0, false, 0x0⟩,
  -- PSC_PWLOG_CNT
  ⟨0x044, 1, 1, 1, 1, 0x0, 0x0, 0x0, false, 0x0⟩,
  -- PSC_PWLOG_Ee_Wk
  ⟨0x100, 16, 16, 4, 4, 0x0, 0x0, 0x0, false, 0x0⟩
]

def rows904_0 : List RegRow := [
  -- PSC_SIDEp_ISL
  ⟨0x040, 8, 8, 1, 1, 0x0, 0x0, 0x0, false, 0x0⟩,
  -- PSC_SIDEp_AGE
  ⟨0x044, 8, 8, 1, 1, 0x0, 0x0, 0x0, false, 0xffff⟩
]

def rowsa01_0 : List RegRow := [
  -- MGT_CTRL_STAT
  ⟨0x040, 1, 1, 1, 1, 0x0, 0x0, 0x0, false, 0x0⟩,
  -- MGT_CTRL_WDT
  ⟨0x044, 1, 1, 1, 1, 0x0, 0x7f, 0x0, true, 0xa⟩,
  -- MGT_CTRL_RST
  ⟨0x048, 1, 1, 1, 1, 0x0, 0x0, 0x0, false, 0x0⟩,
  -- MGT_CTRL_CMD
  ⟨0x04c, 1, 1, 1, 1, 0x0, 0x0, 0x0, true, 0x0⟩,
  -- MGT_CTRL_GOV
  ⟨0x050, 1, 1, 1, 1, 0x0, 0xf, 0x0, true, 0x8⟩
]

def rowsa02_0 : List RegRow := [
  -- MGT_MBOX_ARGn
  ⟨0x040, 4, 4, 1, 1, 0xffffffff, 0x0, 0x0, false, 0x0⟩,
  -- MGT_MBOX_CMD
  ⟨0x050, 1, 1, 1, 1, 0x0, 0x0, 0x0, false, 0x0⟩,
  -- MGT_MBOX_STAT
  ⟨0x054, 1, 1, 1, 1, 0x0, 0x0, 0x0, false, 0x0⟩,
  -- MGT_MBOX_RSP0
  ⟨0x058, 1, 1, 1, 1, 0x0, 0x0, 0x0, false, 0x0⟩,
  -- MGT_MBOX_RSPn
  ⟨0x05c, 3, 4, 1, 1, 0x0, 0x0, 0x0, false, 0x0⟩,
  -- MGT_MBOX_RACK
  ⟨0x068, 1, 1, 1, 1, 0x0, 0x0, 0x0, false, 0x0⟩,
  -- MGT_MBOX_DATAn
  ⟨0x800, 512, 4, 1, 1, 0xffffffff, 0x0, 0x0, false, 0x0⟩
]

def rowsa03_0 : List RegRow := [
  -- MGT_IMG_GENb
  ⟨0x040, 2, 8, 1, 1, 0x0, 0x0, 0x0, false, 0x0⟩,
  -- MGT_IMG_INFOb
  ⟨0x044, 2, 8, 1, 1, 0x0, 0x0, 0x0, false, 0xc0000000⟩,
  -- MGT_IMG_CFGD
  ⟨0x050, 1, 1, 1, 1, 0x0, 0x0, 0x0, false, 0x0⟩,
  -- MGT_IMG_CFGGEN
  ⟨0x054, 1, 1, 1, 1, 0x0, 0x0, 0x0, false, 0x0⟩,
  -- MGT_IMG_APPLY
  ⟨0x058, 1, 1, 1, 1, 0x0, 0x0, 0x0, false, 0x0⟩
]

def rowsb01_0 : List RegRow := [
  -- REC_CTRL_CFG
  ⟨0x040, 1, 1, 1, 1, 0xf000000, 0x80ffffff, 0x0, true, 0x3640a30⟩,
  -- REC_CTRL_CMD
  ⟨0x044, 1, 1, 1, 1, 0x2, 0x0, 0x0, true, 0x0⟩,
  -- REC_CTRL_STAT
  ⟨0x048, 1, 1, 1, 1, 0x0, 0x0, 0x0, false, 0x0⟩,
  -- REC_CTRL_NEXT
  ⟨0x04c, 1, 1, 1, 1, 0x0, 0x0, 0x0, false, 0x1⟩,
  -- REC_CTRL_OLD
  ⟨0x050, 1, 1, 1, 1, 0x0, 0x0, 0x0, false, 0x1⟩,
  -- REC_CTRL_HELD
  ⟨0x054, 1, 1, 1, 1, 0x0, 0x0, 0x0, false, 0x0⟩,
  -- REC_CTRL_LOSSs
  ⟨0x060, 5, 4, 1, 1, 0x0, 0x0, 0x0, false, 0x0⟩,
  -- REC_CTRL_PDATAn
  ⟨0x080, 7, 4, 1, 1, 0xffffffff, 0x0, 0x0, false, 0x0⟩,
  -- REC_CTRL_POST
  ⟨0x09c, 1, 1, 1, 1, 0x0, 0x0, 0x0, false, 0x0⟩
]

def rowsb02_0 : List RegRow := [
  -- REC_PORT_CUR
  ⟨0x040, 1, 1, 1, 1, 0xffffffff, 0x0, 0x0, false, 0x1⟩,
  -- REC_PORT_POP
  ⟨0x044, 1, 1, 1, 1, 0x0, 0x0, 0x0, false, 0x0⟩,
  -- REC_PORT_Dn
  ⟨0x080, 16, 4, 1, 1, 0x0, 0x0, 0x0, false, 0x0⟩
]

def rowsb03_0 : List RegRow := [
  -- REC_STRM_CFG
  ⟨0x040, 1, 1, 1, 1, 0xe70fffff, 0x0, 0x0, false, 0x60000⟩,
  -- REC_STRM_BASE
  ⟨0x044, 1, 1, 1, 1, 0xffffffff, 0x0, 0x0, false, 0x0⟩,
  -- REC_STRM_PTR
  ⟨0x048, 1, 1, 1, 1, 0xffff0000, 0x0, 0x0, false, 0x0⟩,
  -- REC_STRM_NEXT
  ⟨0x04c, 1, 1, 1, 1, 0x0, 0x0, 0x0, false, 0x0⟩,
  -- REC_STRM_CNT
  ⟨0x050, 1, 1, 1, 1, 0x0, 0x0, 0x0, false, 0x0⟩
]

def rowsc01_0 : List RegRow := [
  -- HLT_CTRL_NODE
  ⟨0x040, 1, 1, 1, 1, 0x0, 0x0, 0x0, false, 0x0⟩,
  -- HLT_CTRL_THR
  ⟨0x044, 1, 1, 1, 1, 0x0, 0xffffffff, 0x0, true, 0x1004737d⟩,
  -- HLT_CTRL_ISLn
  ⟨0x080, 17, 4, 1, 1, 0x0, 0xf00000, 0x0, true, 0x0⟩,
  -- HLT_CTRL_ELOGe
  ⟨0x100, 16, 4, 1, 1, 0x0, 0x0, 0x0, false, 0x0⟩
]

def rowsc02_0 : List RegRow := [
  -- HLT_BIST_CMD
  ⟨0x040, 1, 1, 1, 1, 0x0, 0x6f1f007f, 0x0, true, 0x1000000⟩,
  -- HLT_BIST_STAT
  ⟨0x044, 1, 1, 1, 1, 0x0, 0x0, 0x0, false, 0x0⟩,
  -- HLT_BIST_SIG
  ⟨0x048, 1, 1, 1, 1, 0x0, 0x0, 0x0, false, 0x0⟩,
  -- HLT_BIST_VERDICT
  ⟨0x04c, 1, 1, 1, 1, 0x0, 0xc0000000, 0x0, true, 0x0⟩,
  -- HLT_BIST_CNT
  ⟨0x050, 1, 1, 1, 1, 0x0, 0x0, 0x0, false, 0x0⟩
]

def rowsc03_0 : List RegRow := [
  -- HLT_REPAIR_SEL
  ⟨0x040, 1, 1, 1, 1, 0x7f, 0x0, 0x0, false, 0x0⟩,
  -- HLT_REPAIR_MACRO
  ⟨0x044, 1, 1, 1, 1, 0x0, 0x0, 0x0, false, 0x0⟩,
  -- HLT_REPAIR_RSTAT
  ⟨0x048, 1, 1, 1, 1, 0x0, 0x0, 0x0, false, 0x0⟩,
  -- HLT_REPAIR_RSEQ
  ⟨0x04c, 1, 1, 1, 1, 0x0, 0x0, 0x0, false, 0x0⟩
]

def rowsc04_0 : List RegRow := [
  -- HLT_SENS_Vs
  ⟨0x040, 10, 4, 1, 1, 0x0, 0x0, 0x0, false, 0x0⟩,
  -- HLT_SENS_CMD
  ⟨0x068, 1, 1, 1, 1, 0x0, 0x0, 0x0, false, 0x0⟩,
  -- HLT_SENS_CAL
  ⟨0x06c, 1, 1, 1, 1, 0x0, 0x0, 0x0, false, 0x80000000⟩
]

def rowsd01_0 : List RegRow := [
  -- TOP_EPOCH
  ⟨0x040, 1, 1, 1, 1, 0x0, 0x0, 0x0, false, 0x0⟩,
  -- TOP_SHADOW
  ⟨0x044, 1, 1, 1, 1, 0x0, 0x0, 0x0, false, 0x0⟩,
  -- TOP_NODE
  ⟨0x048, 1, 1, 1, 1, 0x0, 0x0, 0x0, false, 0x0⟩,
  -- TOP_COUNT
  ⟨0x04c, 1, 1, 1, 1, 0x0, 0x0, 0x0, false, 0x0⟩,
  -- TOP_REF_LO
  ⟨0x050, 1, 1, 1, 1, 0x0, 0x0, 0x0, false, 0x0⟩,
  -- TOP_REF_HI
  ⟨0x054, 1, 1, 1, 1, 0x0, 0x0, 0x0, false, 0x0⟩,
  -- TOP_CMD
  ⟨0x058, 1, 1, 1, 1, 0x0, 0x0, 0x0, true, 0x0⟩,
  -- TOP_CFG
  ⟨0x05c, 1, 1, 1, 1, 0x0, 0xffffffff, 0x0, true, 0x40a1e064⟩,
  -- TOP_K
  ⟨0x060, 1, 1, 1, 1, 0x0, 0x0, 0x0, false, 0x0⟩,
  -- TOP_STAT
  ⟨0x064, 1, 1, 1, 1, 0x0, 0x0, 0x0, false, 0x0⟩,
  -- TOP_CNT
  ⟨0x068, 1, 1, 1, 1, 0x0, 0x0, 0x0, false, 0x0⟩,
  -- TOP_LAST
  ⟨0x06c, 1, 1, 1, 1, 0x0, 0x0, 0x0, false, 0x0⟩,
  -- TOP_EPDROP
  ⟨0x070, 1, 1, 1, 1, 0x0, 0x0, 0x0, false, 0x0⟩,
  -- TOP_SPLIT_A
  ⟨0x074, 1, 1, 1, 1, 0x0, 0x0, 0x0, false, 0x0⟩,
  -- TOP_SPLIT_B
  ⟨0x078, 1, 1, 1, 1, 0x0, 0x0, 0x0, false, 0x0⟩,
  -- TOP_SERIAL_LO
  ⟨0x080, 1, 1, 1, 1, 0x0, 0x0, 0x0, false, 0x0⟩
]
def rowsd01_1 : List RegRow := [
  -- TOP_SERIAL_HI
  ⟨0x084, 1, 1, 1, 1, 0x0, 0x0, 0x0, false, 0x0⟩,
  -- TOP_VTAG_LO
  ⟨0x088, 1, 1, 1, 1, 0x0, 0xffffffff, 0x0, true, 0x0⟩,
  -- TOP_VTAG_HI
  ⟨0x08c, 1, 1, 1, 1, 0x0, 0xffffffff, 0x0, true, 0x0⟩
]

def rowsd02_0 : List RegRow := [
  -- TOP_TBL_SEL
  ⟨0x040, 1, 1, 1, 1, 0xf00003ff, 0x0, 0x0, false, 0x0⟩,
  -- TOP_TBL_CMD
  ⟨0x044, 1, 1, 1, 1, 0x0, 0x0, 0x0, true, 0x0⟩,
  -- TOP_TBL_DATAn
  ⟨0x050, 8, 4, 1, 1, 0x0, 0xffffffff, 0x0, true, 0x0⟩
]

def rowsd03_0 : List RegRow := [
  -- TOP_ETB_CTRL
  ⟨0x040, 1, 1, 1, 1, 0xffff0002, 0x0, 0x0, false, 0x12c0000⟩,
  -- TOP_ETB_STAT
  ⟨0x044, 1, 1, 1, 1, 0x0, 0x0, 0x0, false, 0x0⟩,
  -- TOP_ETB_TOPO
  ⟨0x048, 1, 1, 1, 1, 0x0, 0x0, 0x0, false, 0x0⟩
]

def rowsd04_0 : List RegRow := [
  -- TOP_SLOT_CYC
  ⟨0x040, 1, 1, 1, 1, 0x0, 0xffffffff, 0x0, true, 0xfa00fa⟩,
  -- TOP_SLOT_LAYOUT
  ⟨0x044, 1, 1, 1, 1, 0x0, 0xfffffcff, 0x0, true, 0x280a2c1a⟩,
  -- TOP_SLOT_ARM
  ⟨0x048, 1, 1, 1, 1, 0x0, 0x1, 0x0, true, 0x0⟩,
  -- TOP_SLOT_APPLY_K
  ⟨0x04c, 1, 1, 1, 1, 0x0, 0xffffffff, 0x0, true, 0x0⟩,
  -- TOP_SLOT_ACT_CYC
  ⟨0x050, 1, 1, 1, 1, 0x0, 0x0, 0x0, false, 0xfa00fa⟩,
  -- TOP_SLOT_ACT_LAYOUT
  ⟨0x054, 1, 1, 1, 1, 0x0, 0x0, 0x0, false, 0x280a2c1a⟩,
  -- TOP_SLOT_DIGEST
  ⟨0x058, 1, 1, 1, 1, 0x0, 0x0, 0x0, false, 0x0⟩,
  -- TOP_SLOT_STAT
  ⟨0x05c, 1, 1, 1, 1, 0x0, 0x0, 0x0, false, 0x0⟩,
  -- TOP_SLOT_CAPHI
  ⟨0x074, 1, 1, 1, 1, 0x0, 0x0, 0x0, false, 0x0⟩,
  -- TOP_SLOT_ASEL
  ⟨0x060, 1, 1, 1, 1, 0xc00001ff, 0x0, 0x0, false, 0x0⟩,
  -- TOP_SLOT_ADATA0
  ⟨0x064, 1, 1, 1, 1, 0x0, 0x0, 0x0, false, 0x0⟩,
  -- TOP_SLOT_ADATA1
  ⟨0x068, 1, 1, 1, 1, 0x0, 0x0, 0x0, false, 0x0⟩,
  -- TOP_SLOT_ADATA2
  ⟨0x070, 1, 1, 1, 1, 0x0, 0x0, 0x0, false, 0x0⟩,
  -- TOP_SLOT_CYCNT
  ⟨0x06c, 1, 1, 1, 1, 0x0, 0x0, 0x0, false, 0x0⟩,
  -- TOP_SLOT_CLSn_Wm
  ⟨0x200, 16, 32, 8, 4, 0x0, 0xffffffff, 0x0, true, 0x0⟩
]

/-- The block registers of a page layout. -/
def typeRows : Nat → List RegRow
  | 0x00001 => rows001_0
  | 0x00002 => rows002_0 ++ rows002_1
  | 0x00003 => rows003_0
  | 0x00004 => rows004_0
  | 0x00005 => rows005_0
  | 0x00006 => rows006_0
  | 0x00007 => rows007_0 ++ rows007_1
  | 0x00101 => rows101_0
  | 0x00102 => rows102_0
  | 0x00103 => rows103_0
  | 0x00201 => rows201_0
  | 0x00202 => rows202_0
  | 0x00203 => rows203_0
  | 0x00204 => rows204_0
  | 0x00205 => rows205_0
  | 0x00206 => rows206_0
  | 0x00207 => rows207_0
  | 0x00208 => rows208_0
  | 0x00301 => rows301_0
  | 0x00302 => rows302_0
  | 0x00401 => rows401_0
  | 0x00402 => rows402_0
  | 0x00403 => rows403_0
  | 0x00404 => rows404_0
  | 0x00501 => rows501_0
  | 0x00502 => rows502_0 ++ rows502_1
  | 0x00601 => rows601_0
  | 0x00602 => rows602_0
  | 0x00603 => rows603_0
  | 0x00604 => rows604_0
  | 0x00701 => rows701_0
  | 0x00702 => rows702_0
  | 0x00703 => rows703_0
  | 0x00801 => rows801_0
  | 0x00802 => rows802_0
  | 0x00803 => rows803_0
  | 0x00804 => rows804_0
  | 0x00901 => rows901_0
  | 0x00902 => rows902_0
  | 0x00903 => rows903_0
  | 0x00904 => rows904_0
  | 0x00a01 => rowsa01_0
  | 0x00a02 => rowsa02_0
  | 0x00a03 => rowsa03_0
  | 0x00b01 => rowsb01_0
  | 0x00b02 => rowsb02_0
  | 0x00b03 => rowsb03_0
  | 0x00c01 => rowsc01_0
  | 0x00c02 => rowsc02_0
  | 0x00c03 => rowsc03_0
  | 0x00c04 => rowsc04_0
  | 0x00d01 => rowsd01_0 ++ rowsd01_1
  | 0x00d02 => rowsd02_0
  | 0x00d03 => rowsd03_0
  | 0x00d04 => rowsd04_0
  | _ => []

/-- The row of the register at a BAR0 offset, `none` for a reserved offset or an unmapped page. -/
def regRow (off : Nat) : Option RegRow :=
  match pageType (off / 4096) with
  | none => none
  | some t => (typeRows t).find? (·.covers (off % 4096))

/-- The reset value of the header register at offset `h` of a page of type `t` (R39). -/
def headerReset (pg t h : Nat) : Word :=
  match h with
  | 0x000 => BitVec.ofNat 32 (pg * 0x100000 + t)
  | 0x004 => 0x00010000
  | 0x008 => 0x00000005
  | 0x00c => 0x00000001
  | 0x014 => 0x90000000
  | _ => 0

/-- What the register at a BAR0 offset holds after a reset that clears its block (R20); 0 where there is no register (R18). -/
def resetVal (off : Nat) : Word :=
  match pageType (off / 4096) with
  | none => 0
  | some t =>
    if off % 4096 < 0x40 then headerReset (off / 4096) t (off % 4096)
    else match (typeRows t).find? (·.covers (off % 4096)) with
      | some r => r.reset
      | none => 0

end Sys2Proof.Machine
end

