-- ==== Sys2Proof/Machine/Store.lean ====
section
/-!
DEFINITION. Sparse contents as plain data: a list of (address, value) pairs, addresses strictly rising, no entry equal to what
an unlisted address holds. Registers and RAMs are kept so.
-/

namespace Sys2Proof.Machine

/-- The value at address `k`; an unlisted address holds `d k`. -/
def stGet {α : Type} (d : Nat → α) : List (Nat × α) → Nat → α
  | [], k => d k
  | (a, v) :: m, k => if a = k then v else stGet d m k

/-- Forget every entry whose address is `k`. -/
def stErase {α : Type} (k : Nat) (m : List (Nat × α)) : List (Nat × α) :=
  m.filter fun e => e.1 != k

/-- Put an entry before the first higher address. -/
def stInsert {α : Type} (k : Nat) (v : α) : List (Nat × α) → List (Nat × α)
  | [] => [(k, v)]
  | (a, w) :: m => if k < a then (k, v) :: (a, w) :: m else (a, w) :: stInsert k v m

/-- Let address `k` hold `v`, keeping the canonical form: no entry where `v` is what an unlisted address holds. -/
def stSet {α : Type} [DecidableEq α] (d : Nat → α) (m : List (Nat × α)) (k : Nat) (v : α) : List (Nat × α) :=
  if v = d k then stErase k m else stInsert k v (stErase k m)

/-- Every address that `p` picks holds its unlisted value again. -/
def stClear {α : Type} (p : Nat → Bool) (m : List (Nat × α)) : List (Nat × α) :=
  m.filter fun e => !p e.1

/-- The addresses of the list rise strictly from above `lo`. -/
def stRising {α : Type} : List (Nat × α) → Bool
  | [] => true
  | [_] => true
  | (a, _) :: (b, w) :: m => a < b && stRising ((b, w) :: m)

/-- The canonical form. -/
def stCanon {α : Type} [DecidableEq α] (d : Nat → α) (m : List (Nat × α)) : Bool :=
  stRising m && m.all fun e => e.2 != d e.1

end Sys2Proof.Machine
end

