-- ==== Sys2Proof/Machine/State.lean ====
section
/-!
DEFINITION. The state of the module as plain data, and the state after reset.
-/

namespace Sys2Proof.Machine

/-- Why the machine stops with a fault. The block has no fault: an access that fails is answered as R32, R33 and R37 say. -/
inductive Fault where
  /-- Raised by no command; safe. -/
  | none
deriving DecidableEq, Repr

/-- Why a command has no meaning. -/
inductive Refusal where
  /-- Raised by `exec` for a command without a meaning; safe. -/
  | notModelled (mnemonic : String)
deriving DecidableEq, Repr

/-- A word of a 64-bit pair that a requester's access to a page left behind (R34): its offset and its value. -/
structure PairWord where
  off : Nat
  word : Word
deriving DecidableEq, Repr

/-- What page accesses leave behind (R34, R42, R48). Keys are `4 · page number + requester code`. -/
structure AccState where
  /-- The latched high word of each requester and page. -/
  latch : List (Nat × Option PairWord)
  /-- The held high word of each requester and page. -/
  held : List (Nat × Option PairWord)
  /-- The pages (base offsets) whose block reset is running. -/
  srst : List Nat
  /-- The pages of those to which a write was dropped meanwhile. -/
  srstDrop : List Nat
  /-- The aggregate of each vector towards the host, bit v. -/
  aggHost : Word
  /-- The aggregate of each vector towards the management pair, bit v. -/
  aggMgt : Word
  /-- BAR0 and BAR2 as configuration space holds them (R278). -/
  bar0 : Word
  bar2 : Word
deriving DecidableEq, Repr

/-! Lines (chapter 03). -/

/-- What a closing of a bypass leads to. -/
inductive CloseCause where
  /-- BYPASS, and the hold-off runs afterwards (R57). -/
  | bypass
  /-- BYPASS without a hold-off: a block reset of the line's page (R453). -/
  | bypassNoHoldoff
  /-- SLEEP under the sleep agreement (CAUSE 1). -/
  | nightfall
  /-- SLEEP by the fail-safe fall (CAUSE 2). -/
  | failsafe
  /-- A start or a module reset closes the bypass (R58, R358). -/
  | reset
deriving DecidableEq, Repr

/-- The switch sequence that runs on a line (R58). -/
inductive LineSeq where
  | idle
  | opening
  | closing (c : CloseCause)
deriving DecidableEq, Repr

/-- A line interface and its bypass, beside their registers. -/
structure LineState where
  seq : LineSeq
  /-- A closing decided while a sequence runs; it starts at the next step boundary (R62). -/
  pendClose : Option CloseCause
  /-- The hold-off runs (R57). -/
  holdoff : Bool
  /-- The line counts as opening (R64). -/
  opening : Bool
  /-- BYPASS is held because of MISMATCH (R59). -/
  mmHold : Bool
deriving DecidableEq, Repr

/-- A backbone port's PHY, beside its registers. -/
structure PortState where
  /-- The PHY reports ready to train (R57). -/
  ready : Bool
  /-- The highest type it may advertise after RATE_MATCH (R53); none: MAXRATE. -/
  restricted : Option Nat
  /-- Receive and transmit latency of the previous link (R70). -/
  prevLat : Option (Nat × Nat)
  /-- When the link changes counted for the flap hold-down happened, MONO in ns (R75). -/
  flaps : List Nat
deriving DecidableEq, Repr

def LineState.reset : LineState := ⟨.idle, none, false, false, false⟩
def PortState.reset : PortState := ⟨true, none, none, []⟩

/-! Inauguration (chapter 04). -/

/-- An identity record (R78). -/
structure Ident where
  serial : Nat
  vtag : Nat
  tpos : Bool
  cab : Bool
  face : Bool
  start : Bool
  split : Bool
  solo : Bool
  hops : Nat
  cur : Nat
deriving DecidableEq, Repr

/-- What a node knows of one side of one line during an attempt (R81 to R84). -/
structure SideView where
  /-- The side is an end for the attempt: no link, or silent. -/
  isEnd : Bool
  silent : Bool
  joined : Bool
  /-- Identities seen directly, outermost first. -/
  idents : List Ident
  /-- The neighbour's IDENT (HOPS = 0) has arrived. -/
  neighbour : Bool
  /-- The wave from this side starts at a split node. -/
  startSplit : Bool
  /-- Identities known through XIDENT, outermost first. -/
  xidents : List Ident
  xend : Bool
  /-- This node, split on this side, has sent its XIDENT and XEND (R84). -/
  relayed : Bool
deriving DecidableEq, Repr

def SideView.reset : SideView := ⟨false, false, false, [], false, false, [], false, false⟩

def Ident.none : Ident := ⟨0, 0, false, false, false, false, false, false, 0, 0⟩

/-- A COMMIT (R91). -/
structure CommitRec where
  k : Nat
  nodes : Nat
  vehicles : Nat
  null : Bool
  limit : Bool
  digest : Word
  lead : Nat
  ref : Nat
deriving DecidableEq, Repr

/-- A numbering before it enters its identity table (R87). -/
structure Numbering where
  nodes : Nat
  vehicles : Nat
  node : Nat
  veh : Nat
  fwd : Bool
  ref : Nat
  digest : Word
  /-- The CUR that each identity of the union has reported, the unnumbered ones too (R90). -/
  curs : List Nat
deriving DecidableEq, Repr

/-- The watch of an end node (R73): cycles without its lantern, whether that silence has been recognised, and whether a lantern has
arrived in the cycle that runs. -/
structure EndWatch where
  silent : Nat
  taken : Bool
  seen : Bool
deriving DecidableEq, Repr

def EndWatch.reset : EndWatch := ⟨0, false, false⟩

/-- When a node flips (R93). -/
inductive FlipAt where
  | none
  | cycle (k : Nat)
  | lead
  /-- At the next boundary, in ETB compatibility mode (R108). -/
  | boundary
deriving DecidableEq, Repr

/-- The attempt that runs and what the node keeps of attempts (R72 to R105). -/
structure TopState where
  /-- The shadow epoch of the last attempt, running or ended. -/
  lastS : Nat
  la1 : SideView
  la2 : SideView
  lb1 : SideView
  lb2 : SideView
  /-- The node's own identity as the attempt takes it (R74, R78): CAB, tag and role as they stood when the node joined. -/
  mine : Ident
  /-- The node has sent or received an IDENT of the attempt (R103). -/
  waved : Bool
  /-- Bits 8:0 of TOP_STAT that the running attempt has collected. -/
  flags : Nat
  /-- MONO when the node joined. -/
  joinedAt : Nat
  /-- Ports out of which REQUEST, READY and COMMIT have been relayed or sent, 4 bits each kind. -/
  reqOut : List BPort
  readyOut : List BPort
  commitOut : List BPort
  shadow : Option Numbering
  readySeen : Bool
  /-- A COMMIT kept until the numbering is complete, with the MONO of its receipt. -/
  kept : Option (CommitRec × Nat)
  /-- The COMMIT acted on. -/
  acted : Option CommitRec
  flipAt : FlipAt
  /-- The digest of the COMMIT differed: the flip leaves the node without a number (R95). -/
  digestMiss : Bool
  /-- Triggers recognised and frames received between acting on COMMIT and the flip (R104). -/
  heldTrig : Option (Nat × Option BPort)
  heldFrames : List (BPort × NFrame)
  /-- The watch of node 1 and that of node N (R73). -/
  watch1 : EndWatch
  watchN : EndWatch
  /-- The grace of ETB compatibility mode runs (R108): MONO in ns at its flip, and the boundaries that have followed it, as far
  as 4. -/
  etbGrace : Option (Nat × Nat)
deriving DecidableEq, Repr

def TopState.reset : TopState :=
  ⟨0, .reset, .reset, .reset, .reset, .none, false, 0, 0, [], [], [], none, false, none, none, .none, false, none, [], .reset, .reset, none⟩

/-! Beam window (chapter 05). A direction of a line is named by the port it leaves through: down by port 2, up by port 1. -/

/-- A direction of a line, beside the registers. -/
structure BeamDir where
  /-- Markers in a row that agreed: 0 no phase, 1 a phase, 2 locked (R115). -/
  run : Nat
  /-- Consecutive missing markers, as far as 15 (R113, R118). -/
  misses : Nat
  /-- The direction has been locked: its prediction stands, and with it its transit span (R118, R119). -/
  span : Bool
  /-- A marker has arrived while the node originated the direction: it goes on doing so up to the next cycle (R113). -/
  org : Bool
  /-- After a step (R117): 2 not locked again; 1 locked again in the window that runs, in which the node does not insert; 0 neither. -/
  hold : Nat
  /-- The digest of the last marker (R125). -/
  mark : Option Word
deriving DecidableEq, Repr

/-- The probes of a port (R116): transmit and receive time of the last probe received, the last four round trips (each twice a
delay), and the cycles that are left before the port's next probe. -/
structure BeamProbe where
  last : Option (Nat × Nat)
  delays : List Int
  wait : Nat
deriving DecidableEq, Repr

/-- An element of a window (R122, R125): its kind (0 marker, 1 control, 2 data), owner, first block and width. -/
structure SubSlot where
  kind : Nat
  owner : Nat
  pos : Nat
  width : Nat
deriving DecidableEq, Repr

/-- An allocation (R124). -/
structure Alloc where
  cap : Nat
  out : List SubSlot
  inn : List SubSlot
  scaled : Bool
  ctlShort : Bool
  noClass : Bool
deriving DecidableEq, Repr

/-- The beam engines beside their registers. -/
structure BeamState where
  la1 : BeamDir
  la2 : BeamDir
  lb1 : BeamDir
  lb2 : BeamDir
  pa1 : BeamProbe
  pa2 : BeamProbe
  pb1 : BeamProbe
  pb2 : BeamProbe
  active : Option Alloc
  shadow : Option Alloc
  /-- The allocation that ARM has computed (R124). -/
  armed : Option Alloc
  /-- MONO at the last cycle boundary, in fifths of a nanosecond. -/
  bound5 : Nat
  /-- Frames waiting for the node's control sub-slot of a direction. -/
  ctl : List (BPort × NFrame)
deriving DecidableEq, Repr

def BeamDir.reset : BeamDir := ⟨0, 0, false, false, 0, none⟩
def BeamProbe.reset : BeamProbe := ⟨none, [], 0⟩
def BeamState.reset : BeamState :=
  ⟨.reset, .reset, .reset, .reset, .reset, .reset, .reset, .reset, none, none, none, 0, []⟩

/-! Train time (chapter 09). Exact times count in units of 1/(5 · 256 · 10^9) ns, in which both 1.6 ns and a rate of 1/256 ppb over
1.6 ns are whole numbers. -/

/-- A marker capture (R234): cycle, TRAIN_TIME, D in units of 1.6 ns, SEG. -/
structure MarkerRec where
  cycle : Nat
  tt : Nat
  d : Nat
  seg : Bool
deriving DecidableEq, Repr

/-- A pending WALL offset (R238, R239): WOFS, WGEN, WK. -/
structure WofsPend where
  wofs : Nat
  wgen : Nat
  wk : Nat
deriving DecidableEq, Repr

/-- TIM beside its registers. -/
structure TimState where
  /-- TRAIN_TIME (R226), exact. -/
  tt : Nat
  pend : Option WofsPend
  /-- Outbound markers of the last four cycles, newest first. -/
  recsA : List MarkerRec
  recsB : List MarkerRec
  capBoundary : MarkerRec
  capUsed : MarkerRec
  /-- Updates in a row within LOCK_THR, and beyond it. -/
  within : Nat
  beyond : Nat
  /-- SRC and cycle of the last time frame of a node of vehicle 1 (R230). -/
  lastSrc : Option (Nat × Nat)
  /-- WALL's last change under R240 (R242). -/
  phaseChange : Int
  /-- The cycle from whose start the WOFS in force is in force (R232). -/
  wk : Nat
  /-- Cycles since the last usable frame (R237), and since a frame of a second source (R230), as far as 65,535. -/
  idle : Nat
  single : Nat
deriving DecidableEq, Repr

def MarkerRec.reset : MarkerRec := ⟨0, 0, 0xFFFFFF, false⟩
def TimState.reset : TimState := ⟨0, none, [], [], .reset, .reset, 0, 0, none, 0, 0, 0, 0⟩

/-! Forwarding (chapter 06). -/

/-- A frame in FAB. -/
inductive AnyFrame where
  | native (f : NFrame)
  | eth (f : EthFrame)
deriving DecidableEq, Repr

/-- A frame in a queue or a beam list: its pool and cells (R156), and the context whose publication it is (R152). -/
structure QFrame where
  frame : AnyFrame
  cells : Nat
  pool : Nat
  ctx : Option Nat
  /-- In a LOCAL queue: the management pair drains it, not the host (R153). -/
  mgt : Bool
  /-- MONO at its receipt in fifths of a ns, and its ingress port's link delay in units of 1.6 ns (R235). -/
  at5 : Nat
  link : Nat
  /-- The ingress port; 12 for a frame of the module's own. -/
  ingress : Nat
deriving DecidableEq, Repr

/-- A key of the duplicate table (R66). -/
structure LdupKey where
  epoch : Nat
  src : Nat
  cls : Nat
  flow : Nat
  top : Nat
  map : Nat
  last : Nat
deriving DecidableEq, Repr

/-- A way of the lookup table (R146): a key, its context, and the mask EPM as three flags. -/
structure Way where
  cls : Nat
  src : Nat
  flow : Nat
  ctx : Nat
  cur : Bool
  prev : Bool
  shadow : Bool
deriving DecidableEq, Repr

/-- A learned address (R141): the port and the MONO when it was last seen. -/
structure FdbEntry where
  mac : Nat
  vid : Nat
  port : Nat
  seen : Nat
deriving DecidableEq, Repr

/-- FAB beside its registers and its tables in RAM. -/
structure FabState where
  /-- Keys port · 8 + queue; port 12 is LOCAL. -/
  queues : List (Nat × List QFrame)
  /-- MAXCELLS of each queue. -/
  maxCells : List (Nat × Nat)
  /-- Banks that wait to move, with the pool they still belong to (R156). -/
  moving : List (Nat × Nat)
  fdb : List FdbEntry
  ldup : List LdupKey
  /-- Ways by set number. -/
  ways : List (Nat × List Way)
  /-- The payload last submitted to each context, and whether it is new (R150). -/
  subm : List (Nat × Option (List Byte))
  /-- Beam lists, by the direction's exit port (R151). -/
  beam : List (BPort × QFrame)
  /-- The next SEQ of the node's own frames by class · 4096 + FLOW (R138). -/
  seqs : List (Nat × Nat)
deriving DecidableEq, Repr

def FabState.reset : FabState := ⟨[], [], [], [], [], [], [], [], []⟩

/-! Car buses (chapter 08). -/

/-- The transmission attempt on a CAN bus (R211): its queue (16: a reference message; 17: a queue withdrawn and enabled again),
its frame, and TRAIN_TIME at the sample point of SOF. -/
structure CanTx where
  queue : Nat
  frame : CanFrame
  /-- RETRY of the queue as the attempt began (R210). -/
  retry : Nat
  at' : Nat
deriving DecidableEq, Repr

/-- A CAN channel beside its registers and its message RAM. -/
structure CanState where
  /-- The engine has started (R195). -/
  started : Bool
  /-- FD_EN and PX_FORM as of the last start. -/
  fdOn : Bool
  pxForm : Bool
  /-- NBT, DBT and SSP as of the last start. -/
  nbt : Word
  dbt : Word
  ssp : Word
  tx : Option CanTx
  /-- Attempts made for the head of a transmit queue. -/
  attempts : List (Nat × Nat)
  /-- Transmit queues aborted while their head is on the bus, with PUT at that moment (R212). -/
  aborts : List (Nat × Nat)
  /-- Queues to withdraw at the end of the frame (R210). -/
  withdraw : List Nat
  /-- Receive queues that lost frames since the last stored one (R206). -/
  lostB : List Nat
  /-- Attempts in a row that ended in an acknowledgement error, with no valid frame received since the first (R219). -/
  unacked : Nat
  /-- Clash entries that have reached CLASH_N (R220). -/
  clashed : List Nat
  /-- Due reference messages, oldest first: k, and whether one has started (R223). -/
  refs : List (Nat × Bool)
  /-- No reference message has been sent since EN was written 1. -/
  refFirst : Bool
  /-- Completions of host and firmware transmit queues: queue, count, TAG and CSTAT of the last (R264). -/
  dones : List (Nat × Nat × Nat × Nat)
deriving DecidableEq, Repr

def CanState.reset : CanState :=
  ⟨true, true, false, 0x033E0F0F, 0x030D0404, 0, none, [], [], [], [], 0, [], [], false, []⟩

/-! Twin redundancy (chapter 10). -/

/-- A lantern's payload (R251). -/
structure Lantern where
  serial : Nat
  vtag : Nat
  role : Nat
  tpos : Bool
  claimDrv : Bool
  synced : Bool
  elig : Bool
  grant : Bool
  health : Nat
  la : Bool
  lb : Bool
  seeM : Bool
  seeB : Bool
  xfail : Bool
  resync : Bool
  epoch : Nat
  mepoch : Nat
  cfgd : Nat
  hk : Nat
  req : Nat
deriving DecidableEq, Repr

/-- A mirror record (R264): its TYPE, SUB and body. -/
structure MRec where
  type : Nat
  sub : Nat
  body : List Byte
deriving DecidableEq, Repr

/-- Records of an epoch or a baseline, sent or received: its number, the count of records, of bytes and the running DCRC (R265). -/
structure MBuf where
  n : Nat
  recs : Nat
  bytes : Nat
  crc : Nat
  list : List MRec
deriving DecidableEq, Repr

def MBuf.empty (n : Nat) : MBuf := ⟨n, 0, 0, 0xFFFFFFFF, []⟩

/-- A handover that the ACTIVE has proposed (R260). -/
structure Handover where
  hk : Nat
  fault : Bool
  cause : Nat
  /-- The cycle of the proposal. -/
  since : Nat
  accepted : Bool
deriving DecidableEq, Repr

/-- A digest of a recipe's data (R272). -/
structure XDig where
  kind : Nat
  recipe : Nat
  cycle : Nat
  crc : Nat
deriving DecidableEq, Repr

/-- The twin controller beside its registers. -/
structure TwnState where
  /-- The partner's last lantern while it is visible. -/
  partner : Option Lantern
  /-- MONO in ns of the last partner lantern, and of the last mirror lantern. -/
  lastAny : Option Nat
  lastMirror : Option Nat
  /-- A partner lantern has arrived on line A, on line B, in the cycle that runs (R252). -/
  seenA : Bool
  seenB : Bool
  /-- The partner counts as failed. -/
  failed : Bool
  noTakeover : Bool
  /-- CONF_T has passed without a confirmation since the partner was last visible (R258). -/
  unanswered : Bool
  /-- SERIAL of the partner's last lantern. -/
  pserial : Nat
  doubled : Bool
  /-- A whole cycle has begun with a silent mirror witness (R253). -/
  silent : Bool
  /-- TWIN_CLAIM is held under R255. -/
  claimer : Bool
  /-- Position 1's wait runs, with the cause of the role change it may lead to (R254). -/
  waiting : Option Nat
  /-- A confirmation is sought: that cause, and the last NONCE sent (R258). -/
  confirm : Option (Nat × Option Nat)
  /-- CLR_FAULT has been written (R257). -/
  clrFault : Bool
  /-- The module deferred, or left ACTIVE under R256 (R261). -/
  mayRejoin : Bool
  /-- ADMIT has been written for a pending request. -/
  granted : Bool
  ho : Option Handover
  /-- HK of a handover that this standby has accepted. -/
  hoNew : Option Nat
  /-- The epoch whose commit makes this module ACTIVE: its boundary of HK has passed (R260). -/
  hoTake : Option Nat
  /-- The epoch that is recorded, and whether it has overflowed (R264, R265). -/
  sent : MBuf
  overflow : Bool
  /-- Last epoch closed, last epoch committed (R251). -/
  closed : Nat
  committed : Nat
  /-- The epoch that is received (R266). -/
  buf : Option MBuf
  /-- The baseline that is received (R267). -/
  base : Option MBuf
  /-- BCLOSE has checked; SYNCED follows the next commit. -/
  bclosed : Bool
  /-- RESYNC of the standby's lanterns. -/
  resync : Bool
  /-- The partner has asked for a baseline; the number of the last one sent. -/
  baseAsked : Bool
  baseNo : Nat
  /-- EPOCH of a committed TOPE record that is not yet the own one (R266). -/
  tope : Option Nat
  /-- Partner queue state: channel · 16 + queue, TAG, CSTAT, DONE_CNT (R266). -/
  qstate : List (Nat × Nat × Nat × Nat)
  /-- The last muted payload of KIND 0 recipes, by context (R269). -/
  muted : List (Nat × List Byte)
  /-- Contexts with one extra publication event (R269). -/
  extra : List Nat
  /-- Own and partner digests that wait for their counterpart (R272). -/
  own : List XDig
  theirs : List XDig
  /-- Differing passes in a row, by recipe · 2 + KIND. -/
  streaks : List (Nat × Nat)
  /-- MONO in ns of the mismatches of the last second (R273). -/
  mismatches : List Nat
  /-- When a lantern of each SERIAL last arrived, MONO in ns (R258). -/
  heard : List (Nat × Nat)
deriving DecidableEq, Repr

def TwnState.reset : TwnState where
  partner := none
  lastAny := none
  lastMirror := none
  seenA := false
  seenB := false
  failed := false
  noTakeover := false
  unanswered := false
  pserial := 0
  doubled := false
  silent := false
  claimer := false
  waiting := none
  confirm := none
  clrFault := false
  mayRejoin := false
  granted := false
  ho := none
  hoNew := none
  hoTake := none
  sent := .empty 0
  overflow := false
  closed := 0
  committed := 0
  buf := none
  base := none
  bclosed := false
  resync := false
  baseAsked := false
  baseNo := 0
  tope := none
  qstate := []
  muted := []
  extra := []
  own := []
  theirs := []
  streaks := []
  mismatches := []
  heard := []

/-! Signal gateway (chapter 07). -/

/-- An input of the active bank (R168): AGE, NEVER, EXPIRED, a frame since the last pass, and the latest half. -/
structure SgwInput where
  age : Nat
  /-- MONO at the last arrival. -/
  last : Nat
  never : Bool
  expired : Bool
  fresh : Bool
  half : Bool
deriving DecidableEq, Repr

def SgwInput.reset : SgwInput := ⟨0xFFFF, 0, true, false, false, false⟩

/-- The marionette engine beside its registers. -/
structure SgwState where
  inputs : List (Nat × SgwInput)
  /-- What the pass that runs has sampled; the latest halves in it are in use (R180). -/
  sample : List (Nat × SgwInput)
  /-- Data of the last submission by recipe (R181). -/
  last : List (Nat × Option (List Byte))
  /-- Submissions by recipe. -/
  subs : List (Nat × Nat)
  /-- Cycles since the last completed pass (R182). -/
  passless : Nat
deriving DecidableEq, Repr

def SgwState.reset : SgwState := ⟨[], [], [], [], 0⟩

/-! Bridges (chapter 11). -/

/-- A host read that PSC holds (R294): its BAR2 offset, its byte count, its periscope window, the BAR0 offset at the target, and the
tag of its request once that is sent. -/
structure PscRead where
  bar2 : Nat
  win : Nat
  offs : Nat
  tag : Option Nat
deriving DecidableEq, Repr

/-- A request awaiting its response (R291): its tag, TYPE, window and the target's SERIAL. -/
structure PscReq where
  tag : Nat
  type : Nat
  win : Nat
  serial : Nat
deriving DecidableEq, Repr

/-- An entry of the delayed-read buffer (R295): window, offset, tag, and the response's STATUS and data. -/
structure DrEntry where
  win : Nat
  offs : Nat
  tag : Nat
  resp : Option (Nat × Word)
deriving DecidableEq, Repr

/-- Counts of a requester's writes on a window since its previous fence (R298). -/
structure FencePair where
  serial : Nat
  win : Nat
  wcnt : Nat
  fcnt : Nat
deriving DecidableEq, Repr

/-- The periscope bridge beside its registers. -/
structure PscState where
  reads : List PscRead
  reqs : List PscReq
  /-- By entry number. -/
  drb : List (Nat × DrEntry)
  /-- The tag of the most recent read of each window. -/
  recent : List (Nat × Nat)
  /-- The writes sent before the fence that runs. -/
  fenceSent : Nat
  /-- Requests that wait in the target queue, with the requester's SERIAL (R292). -/
  queue : List (NFrame × Nat)
  pairs : List FencePair
  /-- The access-list entries in effect. -/
  acl : List (Nat × Nat)
  /-- Side polls without a response, by window. -/
  misses : List (Nat × Nat)
  /-- MONO in ns of the last side response, by window. -/
  sideAt : List (Nat × Option Nat)
  /-- The SERIAL of the requester whose request is being executed, or was last. -/
  actor : Nat
deriving DecidableEq, Repr

def PscState.reset : PscState := ⟨[], [], [], [], 0, [], [], [], [], [], 0⟩

/-! Health, test and repair (chapter 17). -/

/-- An entry of the repair record (R421): memory (or island for kind 5), kind, address, spare row. -/
structure RepEntry where
  macroNo : Nat
  kind : Nat
  addr : Nat
  slot : Nat
deriving DecidableEq, Repr

/-- A unit of a test that runs: an MBIST or an LBIST (KIND 1 or 2) of an island, or a bank test (KIND 0) of a memory of FAB. -/
structure TestUnit where
  kind : Nat
  isl : Nat
deriving DecidableEq, Repr

/-- The test or the session that runs (R414 to R418). -/
structure TestRun where
  /-- KIND of the command. -/
  kind : Nat
  set : Nat
  macroNo : Nat
  rejoin : Bool
  /-- The unit that runs, and those after it. -/
  todo : List TestUnit
  /-- Every unit has passed so far. -/
  good : Bool
deriving DecidableEq, Repr

/-- A test whose verdict is not yet written (R416): its unit, memory, set, signature and the RESULT it had before. -/
structure DueVerdict where
  kind : Nat
  isl : Nat
  macroNo : Nat
  set : Nat
  sig : Word
  result : Nat
deriving DecidableEq, Repr

/-- A session whose tests have ended and which waits for its verdicts (R417): REJOIN, no verdict missing its time or failing. -/
structure SessionEnd where
  rejoin : Bool
  good : Bool
deriving DecidableEq, Repr

/-- The health controller beside its registers. -/
structure HltState where
  /-- Reasons that stand with the higher of two floors (R410): island, bit. -/
  strong : List (Nat × Nat)
  /-- A session runs on a module that HLT has isolated (R417). -/
  session : Bool
  /-- The test that runs is to be aborted (R418). -/
  abortDue : Bool
  /-- The HLT_CTRL_ELOG entry that the next event takes (R413). -/
  elogNext : Nat
  /-- Corrected errors by row (R413), key memory · 1024 + row, newest first; at most 32. -/
  rows : List (Nat × Nat)
  /-- Suspect rows, by the same key. -/
  suspects : List Nat
  /-- Corrected errors of the hour that runs, by memory. -/
  ceHour : List (Nat × Nat)
  /-- Macros whose last full hour was at or above CE_W; macros with an uncorrected error; macros that are unrepairable. -/
  ceRate : List Nat
  ueMacros : List Nat
  unrepairable : List Nat
  test : Option TestRun
  verdicts : List DueVerdict
  ending : Option SessionEnd
  /-- Islands whose last verdict was FAIL. -/
  bistFail : List Nat
  /-- Islands withdrawn for a test and not yet restored; islands retired (R416). -/
  withdrawn : List Nat
  retiredIsl : List Nat
  /-- Supplies outside their limits, by the index of their reading. -/
  voltBad : List Nat
  /-- Sensors at or above TEMP_W, and at or above TEMP_D. -/
  hotW : List Nat
  hotD : List Nat
  /-- Ports whose MARGIN is low, and critical. -/
  snrLow : List BPort
  snrCrit : List BPort
  /-- LINE_HOLD has lasted for 1 s, or a released source was lost; XO_FAIL. -/
  clockBad : Bool
deriving DecidableEq, Repr

def HltState.reset : HltState where
  strong := []
  session := false
  abortDue := false
  elogNext := 0
  rows := []
  suspects := []
  ceHour := []
  ceRate := []
  ueMacros := []
  unrepairable := []
  test := none
  verdicts := []
  ending := none
  bistFail := []
  withdrawn := []
  retiredIsl := []
  voltBad := []
  hotW := []
  hotD := []
  snrLow := []
  snrCrit := []
  clockBad := false

/-! Clocks, power and reset (chapters 13 and 14). -/

/-- A DVFS island's operating point (R342 to R344): the one accepted or stored, and whether its frequency is still to come. -/
structure Dvfs where
  fsel : Nat
  vset : Nat
  fPend : Bool
deriving DecidableEq, Repr

def Dvfs.reset : Dvfs := ⟨1, 160, false⟩

/-- Clocks and power beside the registers of SYS_RST, SYS_CLK and SYS_PWR. -/
structure PwrState where
  /-- The switched part of SYS is powered: its power-on reset has been released. -/
  sysOn : Bool
  /-- A start waits for the release of its power-on reset (R352). -/
  starting : Bool
  /-- The cause of the module reset that holds the islands off (R355): 4 or 7; 0 for none. -/
  holds : Nat
  /-- nRESET_IN is asserted; the die is above its limit; a thermal reset since power-on. -/
  pin : Bool
  hot : Bool
  thermal : Bool
  /-- The pairs of R353 that have still to end U7, the one that powers up first. -/
  upPairs : List (List Nat)
  /-- Causes of module resets that arose while one or a start ran, with the source code of a clock failure (R356). -/
  pend : List (Nat × Nat)
  /-- A SAFE record is due once REC is on. CLR_SAFE has been written. A REPAIR_BAD record is due. -/
  safeDue : Bool
  clrSafe : Bool
  repairDue : Bool
  /-- Islands in PHASE 4, in the order of their requests (R347). -/
  waitQ : List Nat
  /-- Islands whose sequence reverses at its next step boundary (R348). -/
  reverse : List Nat
  /-- Islands on the IRO that wait for their selected source (R346). -/
  waitSrc : List Nat
  /-- Switches that run: island, new source (R336). -/
  swTo : List (Nat × Nat)
  dvfs : List (Nat × Dvfs)
  /-- Pages whose clock is to be gated at the next bus idle (R340). -/
  gateReq : List Nat
  /-- Islands that nightfall has still to switch off, in order (R349). -/
  downQ : List Nat
  /-- The repair copy (R365): factory repairs, and repairs in service. -/
  factory : List RepEntry
  repair : List RepEntry
  /-- The repair copy has still to be filled. -/
  fillDue : Bool
  /-- A bypass has closed under R58 within the last 24 h. -/
  byp24 : Bool
  /-- A module reset has taken a test away: HLT records it once it is on again (R418). -/
  testLost : Bool
deriving DecidableEq, Repr

/-- Nothing powered. -/
def PwrState.off : PwrState where
  sysOn := false
  starting := false
  holds := 0
  pin := false
  hot := false
  thermal := false
  upPairs := []
  pend := []
  safeDue := false
  clrSafe := false
  repairDue := false
  waitQ := []
  reverse := []
  waitSrc := []
  swTo := []
  dvfs := []
  gateReq := []
  downQ := []
  factory := []
  repair := []
  fillDue := false
  byp24 := false
  testLost := false

/-- The order in which islands power up at every start and after every module reset (R353): MGT and HBR, HLT and REC, TWN and TIM,
TOP and FAB, BLA and BLB, CPA and CPB, SGW and PSC, CBL and CBH. -/
def startPairs : List (List Nat) := [[13, 11], [15, 14], [10, 9], [16, 3], [1, 2], [4, 5], [6, 12], [7, 8]]

/-! Management (chapter 15). -/

/-- A request in the mailbox queue (R383, R387): CODE, TAG, ARG0 to ARG3; a remote request also its data and its requester's node. -/
structure MboxReq where
  code : Nat
  tag : Nat
  args : List Word
  /-- The node and the epoch that a remote request came with. -/
  from' : Option (Nat × Nat)
  data : List Byte
  /-- The access list denies it. -/
  denied : Bool
deriving DecidableEq, Repr

/-- A response (R384): RESULT, TAG, CODE, RES1 to RES3. -/
structure MboxRsp where
  result : Nat
  tag : Nat
  code : Nat
  res : List Word
deriving DecidableEq, Repr

/-- The slot that IMG_BEGIN opened (R385, R386): bank, KIND, length, and the pieces written. -/
structure ImgSession where
  bank : Nat
  kind : Nat
  len : Nat
  written : List (Nat × Nat)
deriving DecidableEq, Repr

/-- The governor (R391, R392). -/
structure GovState where
  b : List Nat
  high : Nat
  low : Nat
  highWins : Nat
  lowWins : Nat
  /-- Windows at level 4 since the last overload record. -/
  at4 : Nat
deriving DecidableEq, Repr

def GovState.reset : GovState := ⟨[50, 30, 15, 5], 90, 60, 0, 0, 0⟩

/-- The management pair beside its registers. What an MGT reset loses and what it keeps stand together; R369 says which. -/
structure MgtState where
  queue : List MboxReq
  rsps : List MboxRsp
  img : Option ImgSession
  gov : GovState
  /-- Requests answered with RESULT 8 since the last reset of MGT. -/
  shed : Nat
  /-- GEN of the last policy table applied (R382). -/
  policyGen : Nat
  /-- Data of the sections in force, by type (R385). -/
  sections : List (Nat × List Byte)
  /-- The boot ROM runs: an MGT reset has not ended. -/
  booting : Bool
  /-- The boot follows a start or a module reset, not an MGT reset. -/
  fresh : Bool
  /-- The sleep policy's ACCEPT, LEAD, FIRST, LAST, FLAGS (R377). -/
  sleep : Option (List Byte)
  /-- MONO in ns of the MGT resets of the last 60 s (R371). -/
  resets : List Nat
  /-- MONO in ns of the last KICK. -/
  kicked : Nat
  /-- Erases and programs of protected flash slots that were refused (R375). No register shows the count. -/
  refused : Nat
deriving DecidableEq, Repr

def MgtState.reset : MgtState := ⟨[], [], none, .reset, 0, 0, [], false, false, none, [], 0, 0⟩

/-- Non-volatile storage: the module flash, sparse over erased bytes (bank b at b · 0x200_0000, copies of the repair record from
0x400_0000 on), and OTP: the owner digest, the security-version minimum, the serial, the factory repairs. -/
structure NvState where
  flash : List Host.Cell
  owner : Option (List Byte)
  svnMin : Nat
  serial : Nat
  factory : List RepEntry
deriving DecidableEq, Repr

def NvState.blank : NvState := ⟨[], none, 0, 0, []⟩

/-! Sleep and wake (chapter 12). This state lies in the always-on part. -/

/-- The power states of R300. -/
inductive PowerState where
  | off
  | awake
  | nightfall
  | dark
  | dawn
deriving DecidableEq, Repr

/-- A wake source that has acted (R315, R316): 2 WAKE_SW, 3 CAN wake with its channel, 4 line A, 5 line B. -/
structure WakeLatch where
  src : Nat
  chan : Nat
deriving DecidableEq, Repr

/-- A conditioned discrete input beside its registers (R325 to R328). -/
structure DinInput where
  /-- The filtered level, as active or not. -/
  filt : Bool
  /-- The debounced level. -/
  deb : Bool
  /-- The first level since the start has not been taken yet: it is taken without an edge. -/
  init : Bool
  /-- Filtered edges in the chatter window that runs, and MONO in ns of its start. -/
  edges : Nat
  since : Nat
deriving DecidableEq, Repr

def DinInput.reset : DinInput := ⟨false, false, true, 0, 0⟩

/-- The sleep agreement and the wake logic beside SYS_WAKE's registers. -/
structure WakeState where
  power : PowerState
  /-- The node proposed the dusk in force, in this cycle. -/
  proposed : Option Nat
  /-- Its wake request that counts as a veto: ORIGIN and the cycle of the request (R308). -/
  veto : Option (Nat × Nat)
  /-- The ORIGIN of the latched late request (R308, R312). -/
  late : Option Nat
  /-- The CANCEL that the coordinator repeats: N, ID, CAUSE, node (R305). -/
  cancelTx : Option (Nat × Nat × Nat × Nat)
  /-- VETO frames that the coordinator received too late (R309). No register shows the count. -/
  lateVetoes : Nat
  /-- N and ID of the dusk last cancelled. -/
  cancelled : Option (Nat × Nat)
  /-- The DAWN sequence that is sent: ORIGIN, ID, DSEQ, frames left (R305). -/
  dawnTx : Option (Nat × Nat × Nat × Nat)
  /-- ORIGIN of the local wake whose DAWN is due once a line is in NORMAL (R316). -/
  dawnDue : Option Nat
  /-- The woken node still injects its dawn pulse at its bypasses (R316). -/
  pulseDue : Bool
  /-- DAWN sequences started since the last cold start (R305). -/
  dseq : Nat
  /-- DAWN sequences acted on: SERIAL, DSEQ, MONO in ns (R305). -/
  seen : List (Nat × Nat × Nat)
  /-- MONO in ns of the last pulse injected at each port (R321). -/
  inj : List (BPort × Nat)
  /-- The minimum dark time has ended (R313). -/
  minDark : Bool
  /-- The nightfall that R314 refuses runs. -/
  kaHold : Bool
  /-- Wake sources latched since nightfall. -/
  latch : List WakeLatch
  /-- Inputs that were active when they were armed and have not been inactive since (R315): 16 WAKE_SW, 0 to 15 the channels. -/
  blocked : List Nat
deriving DecidableEq, Repr

def WakeState.reset : WakeState :=
  ⟨.awake, none, none, none, none, 0, none, none, none, false, 0, [], [], false, false, [], []⟩

/-- An event on its way to the recorder (R397, R408): code, severity, subject, the data after it, and its origin (R395). -/
structure RecEvent where
  code : Nat
  sev : Nat
  subj : Nat
  data : List Byte
  origin : Nat
deriving DecidableEq, Repr

/-! The recorder (chapter 16). -/

/-- A stamped event in the input FIFO (R397): its event, MONO, WALL, NODE, EPOCH, COUNT, and whether it is a coalesced record. -/
structure RecEntry where
  ev : RecEvent
  mono : Nat
  wall : Nat
  node : Nat
  epoch : Nat
  count : Nat
  coal : Bool
deriving DecidableEq, Repr

/-- A coalescing entry (R401): its key, its deadline, what it has counted, and the last event counted. -/
structure CoalEntry where
  code : Nat
  subj : Nat
  deadline : Nat
  counted : Nat
  sev : Nat
  data : List Byte
deriving DecidableEq, Repr

/-- The recorder beside its registers and its ring. -/
structure RecState where
  fifo : List RecEntry
  coal : List CoalEntry
  /-- Pending losses by SEV, their islands and REASON (R402). -/
  lost : List (Nat × Nat)
  mask : Nat
  reason : Nat
  /-- PDATA, by requester · 8 + n. -/
  pdata : List (Nat × Word)
  /-- CUR and the snapshot of each requester (R404). -/
  cur : List (Nat × Word)
  snap : List (Nat × List Byte)
  /-- Records streamed since the last STRM. -/
  streamed : Nat
  /-- MONO in ns of the last loss summary (R402). -/
  lossAt : Option Nat
deriving DecidableEq, Repr

def RecState.reset : RecState := ⟨[], [], [], 0, 0, [], [], [], 0, none⟩

/-- An IEEE 802.1AS message of a consist port (R241, R242). -/
inductive GptpOut where
  | sync (seq : Nat)
  /-- Follow_Up: the WALL that Sync carried, gmTimeBaseIndicator, lastGmPhaseChange, scaledLastGmFreqChange. -/
  | followUp (seq wall tbi : Nat) (phaseChange freqChange : Int)
  /-- Announce: priority1, clockClass, clockAccuracy, offsetScaledLogVariance, priority2, clockIdentity, stepsRemoved, timeSource,
  currentUtcOffset and its flag. -/
  | announce (seq prio1 cls accuracy variance prio2 identity steps source utc : Nat) (utcValid : Bool)
  | pdelayReq
  | pdelayResp (seq : Nat)
deriving DecidableEq, Repr

/-- A Pd frame that a consist island sends (R159): MAC addresses, no tag, the IPv4 header's DSCP, TTL, DF and addresses, the UDP port it
goes from and to, its checksum included; the topology counters, ComId, sequenceCounter and dataset. -/
structure PdOut where
  dst : Nat
  src : Nat
  dscp : Nat
  ttl : Nat
  df : Bool
  srcIp : Nat
  dstIp : Nat
  port : Nat
  etbTopo : Nat
  opTopo : Nat
  comId : Nat
  seq : Nat
  dataset : List Byte
deriving DecidableEq, Repr

/-- What the module gives out. -/
inductive Out where
  /-- The completion of a register read. -/
  | readData (q : Requester) (off : Nat) (w : Word)
  /-- A failed read (R33): Completer Abort to the host, without data; all ones with an error indication to another requester. -/
  | readError (q : Requester) (off : Nat) (data : Option Word)
  /-- An MSI-X message (R48, R287): its vector, and the address and data that the table gives. -/
  | msix (vec addr data : Nat)
  /-- A delivery to the management pair (R48). -/
  | mgtIrq (vec : Nat)
  /-- The completion of a BAR2 read: its offset and its bytes, in host address order. -/
  | bar2Data (off : Nat) (bytes : List Byte)
  /-- A BAR2 read that ends with Completer Abort (R33, R203), or with Unsupported Request (R280). -/
  | bar2Abort (off : Nat)
  | bar2Unsupported (off : Nat)
  /-- A completed configuration request (R366), with the data of a read. -/
  | cfgDone (data : Option Word)
  /-- A DMA write: host addresses and their bytes. -/
  | dma (cells : List (Nat × Byte))
  /-- A native frame sent on a backbone port outside the window, in its IEEE 802.3 form (R136). -/
  | native (p : BPort) (w : EthFrame)
  /-- A beam frame sent on a backbone port, with the block of the window at which it starts; none: a probe, which follows the
  window (R116). -/
  | beam (p : BPort) (pos : Option Nat) (b : BeamFrame)
  /-- A gPTP message on a consist port. -/
  | gptp (port : Nat) (m : GptpOut)
  /-- An Ethernet frame on a port of FAB. -/
  | eth (port : Nat) (f : EthFrame)
  /-- A cut-through frame ended with an inverted FCS (R142). -/
  | stomped (port : Nat)
  /-- A Pd frame on a consist port (R159). -/
  | pd (port : Nat) (f : PdOut)
  /-- A TRDP frame passed whole to firmware, or to the host, from a consist port (R158). -/
  | trdp (toFirmware : Bool) (port : Nat) (e : EthFrame)
  /-- A dawn pulse: at the closed bypass of a line, or out of a port (R317). -/
  | pulse (l : Line) (p : Option BPort)
  /-- A mirror frame (R263). -/
  | mirror (frame : List Byte)
  /-- The module drives TWIN_CLAIM low, or releases it. -/
  | claim (drive : Bool)
  /-- Mirrored firmware state handed to firmware (R266). -/
  | fwState (data : List Byte)
  /-- A frame that a CAN channel puts on its bus. -/
  | can (n : Nat) (f : CanFrame)
  /-- An error flag of a CAN channel, active (dominant) or passive. -/
  | canFlag (n : Nat) (active : Bool)
  /-- A dominant ACK slot in a frame that a CAN channel receives (R197). -/
  | canAck (n : Nat)
  /-- An overload flag of a CAN channel (R194). -/
  | canOverload (n : Nat)
  /-- A payload delivered to the owner of a context: 0 the consist ports, 1 SGW, 2 the management pair, 3 the host (R143). -/
  | deliver (owner ctx : Nat) (f : NFrame)
  /-- A context's expiry, signalled to its owner (R149). -/
  | expired (owner ctx : Nat)
  /-- An unbound message delivered to the management pair. -/
  | message (f : NFrame)
deriving DecidableEq, Repr

/-- The module. -/
structure State where
  /-- The commands that wait, first in, first out. -/
  pending : List Instr
  /-- The registers of every page (R31), sparse over their reset values. -/
  regs : List (Nat × Word)
  /-- The RAMs inside the module, byte by byte, sparse over zero. -/
  mem : List Host.Cell
  /-- What the module gave out, oldest first. -/
  out : List Out
  /-- Events posted and not yet stamped by the recorder (R397), oldest first. -/
  evq : List RecEvent
  /-- The number of the next free value (the model's own). -/
  fresh : Nat
  /-- What page accesses leave behind. -/
  acc : AccState
  /-- MONO (R225) in fifths of a nanosecond: one tick of PLL_TIME is 8. -/
  mono5 : Nat
  lineA : LineState
  lineB : LineState
  portA1 : PortState
  portA2 : PortState
  portB1 : PortState
  portB2 : PortState
  top : TopState
  beam : BeamState
  fab : FabState
  tim : TimState
  /-- The CAN channels, by number. -/
  cans : List (Nat × CanState)
  wake : WakeState
  /-- The four conditioned inputs, by index. -/
  din : List (Nat × DinInput)
  twn : TwnState
  hlt : HltState
  sgw : SgwState
  psc : PscState
  recorder : RecState
  pwr : PwrState
  mgt : MgtState
  nv : NvState
deriving DecidableEq, Repr

def AccState.reset : AccState := ⟨[], [], [], [], 0, 0, 0, 0⟩

/-- The module right after its power-on reset is released (R352): the switched part of SYS is on, every other island off. -/
def State.reset : State where
  pending := []
  regs := [(0x0020AC, 0x40000000), (0x0020B4, 0x40000000), (0x003040, 0x10000000)]
  mem := []
  out := []
  evq := []
  fresh := 0
  acc := .reset
  mono5 := 0
  lineA := .reset
  lineB := .reset
  portA1 := .reset
  portA2 := .reset
  portB1 := .reset
  portB2 := .reset
  top := .reset
  beam := .reset
  fab := .reset
  tim := .reset
  cans := []
  wake := .reset
  din := []
  twn := .reset
  hlt := .reset
  sgw := .reset
  psc := .reset
  recorder := .reset
  pwr := { PwrState.off with sysOn := true, upPairs := startPairs, fillDue := true, waitQ := [13, 11], waitSrc := [0] }
  mgt := { MgtState.reset with fresh := true }
  nv := .blank

end Sys2Proof.Machine
end

