-- ==== Sys2Proof/Machine/Ops.lean ====
section
/-!
DEFINITION. The shared operations: reading and writing registers, raising events, posting to the recorder, and the rules every
page access goes by (R31 to R45, R450).
-/

namespace Sys2Proof.Machine

/-! Registers and fields. -/

/-- The register at a BAR0 offset. -/
def State.rd (s : State) (off : Nat) : Word := stGet resetVal s.regs off

/-- Let the register at a BAR0 offset hold `w`. -/
def State.wr (s : State) (off : Nat) (w : Word) : State := { s with regs := stSet resetVal s.regs off w }

/-- A field's value. -/
def State.get (s : State) (f : Fld) : Nat := f.of (s.rd f.off)

/-- A field's value, as 0 or not 0. -/
def State.bit (s : State) (f : Fld) : Bool := s.get f != 0

/-- Let a field hold the low bits of `v`. -/
def State.put (s : State) (f : Fld) (v : Nat) : State := s.wr f.off (f.ins (s.rd f.off) v)

/-- Let a one-bit field hold `b`. -/
def State.putB (s : State) (f : Fld) (b : Bool) : State := s.put f b.toNat

/-- Add `n` to a count that saturates. -/
def State.satAdd (s : State) (f : Fld) (n : Nat) : State := s.put f (min (s.get f + n) (2 ^ f.width - 1))

/-- Count one in a count that saturates. -/
def State.satInc (s : State) (f : Fld) : State := s.satAdd f 1

/-- Count one in a count that wraps. -/
def State.wrapInc (s : State) (f : Fld) : State := s.put f (s.get f + 1)

/-- Registers for which `p` holds return to their reset values. -/
def State.clearRegs (s : State) (p : Nat → Bool) : State := { s with regs := stClear p s.regs }

/-! Bytes of the RAMs. -/

/-- A byte of a RAM; a byte that nothing has written reads 0. -/
def State.rdByte (s : State) (a : Nat) : Byte := stGet (fun _ => 0) s.mem a

/-- Write a byte of a RAM. -/
def State.wrByte (s : State) (a : Nat) (b : Byte) : State := { s with mem := stSet (fun _ => 0) s.mem a b }

/-- Bytes `a` to `a + n - 1`. -/
def State.rdBytes (s : State) (a n : Nat) : List Byte := (List.range n).map fun k => s.rdByte (a + k)

/-- Write bytes from address `a` on. -/
def State.wrBytes (s : State) (a : Nat) : List Byte → State
  | [] => s
  | b :: bs => (s.wrByte a b).wrBytes (a + 1) bs

/-- The big-endian number in bytes `a` to `a + n - 1` (R11). -/
def State.rdNum (s : State) (a n : Nat) : Nat := ofBytes (s.rdBytes a n)

/-- Write a big-endian number into `n` bytes. -/
def State.wrNum (s : State) (a n v : Nat) : State := s.wrBytes a (beBytes n v)

/-- RAM bytes for which `p` holds return to 0. -/
def State.clearMem (s : State) (p : Nat → Bool) : State := { s with mem := stClear p s.mem }

/-! Output, free values, events, records. -/

/-- Give something out. -/
def State.emit (s : State) (o : Out) : State := { s with out := s.out ++ [o] }

/-- The next free value, of width `w` (log entry 3). -/
def State.free (s : State) (w : Nat) : BitVec w := Config.freeValue w s.fresh

/-- A free value has been used. -/
def State.used (s : State) : State := { s with fresh := s.fresh + 1 }

/-- Island `n` does not count as off (R37): it has completed U7 and not started D1. -/
def State.powered (s : State) (n : Nat) : Bool := s.bit ⟨R.SYS_PWR_STAT, n, n⟩

/-- Island `n` works: it is on, and not withdrawn for a test or retired (R415, R416), which shows as OFFLINE in its pages. -/
def State.isOn (s : State) (n : Nat) : Bool := s.powered n && !s.bit (F.PG_STAT_OFFLINE (n * 65536))

/-- A block works: EN is 1 and its clock is not gated, which acts as EN = 0 (R341). -/
def State.enabled (s : State) (pg : Nat) : Bool := s.bit (F.PG_CTRL_EN pg) && !s.bit (F.PG_STAT_GATED pg)

/-- Set bit `b` of a page's PG_EVT_RAW. -/
def State.raise (s : State) (pg b : Nat) : State := s.put ⟨R.PG_EVT_RAW pg, b, b⟩ 1

/-- The SUBJ of a record (R395): block index and item. -/
def subject (blk item : Nat) : Nat := blk * 4096 + item % 4096

/-- Post an event to the recorder; while REC is off it is lost (R394). -/
def State.post (s : State) (code sev subj : Nat) (data : List Byte) : State :=
  if s.isOn I.REC then { s with evq := s.evq ++ [⟨code, sev, subj, data, 0⟩] } else s

/-! Page accesses. -/

/-- The base offset of the page of an offset. -/
def pageOf (off : Nat) : Nat := off / 4096 * 4096

/-- The island code of an offset (R31). -/
def islandOf (off : Nat) : Nat := off / 65536

/-- The block index of an offset (R31). -/
def blockOf (off : Nat) : Nat := off / 4096 % 16

/-- The page of the offset is in the directory (R32, R50). -/
def mapped (off : Nat) : Bool := (pageType (off / 4096)).isSome

/-- The island of the offset is on; SYS pages always answer (R37). -/
def State.reachable (s : State) (off : Nat) : Bool := islandOf off == 0 || s.powered (islandOf off)

/-- The requester's own path to the pages is up (R450). The host's needs the endpoint's link (R277, R366); in D3hot memory decoding
stops (R275). -/
def State.pathUp (s : State) : Requester → Bool
  | .host => s.isOn I.HBR && s.bit F.HBR_CTRL_LINK_UP && !s.bit F.HBR_CTRL_LINK_D3
  | .firmware => s.isOn I.MGT && s.bit F.MGT_CTRL_STAT_RUN
  | .periscope => s.isOn I.PSC
  | .testAccess => s.pwr.sysOn

/-- The requester holds the page unlocked (R45). -/
def State.owns (s : State) (q : Requester) (pg : Nat) : Bool :=
  s.bit (F.PG_LOCK_UNLOCKED pg) && s.get (F.PG_LOCK_OWNER pg) == q.code

/-- Lock the page. -/
def State.relock (s : State) (pg : Nat) : State := s.wr (R.PG_LOCK pg) 0

/-- An access of the owner takes one from REMAIN; at 0 the page locks (R44). -/
def State.countAccess (s : State) (q : Requester) (pg : Nat) : State :=
  if s.owns q pg then
    if s.get (F.PG_LOCK_REMAIN pg) ≤ 1 then s.relock pg
    else s.put (F.PG_LOCK_REMAIN pg) (s.get (F.PG_LOCK_REMAIN pg) - 1)
  else s

/-- The key of a requester and a page in the pair latches. -/
def pairKey (q : Requester) (pg : Nat) : Nat := 4 * (pg / 4096) + q.code

/-- The high word that the requester holds in the page. -/
def State.heldWord (s : State) (q : Requester) (pg : Nat) : Option PairWord := stGet (fun _ => none) s.acc.held (pairKey q pg)

/-- Let the requester hold a high word in the page, or none. -/
def State.setHeld (s : State) (q : Requester) (pg : Nat) (w : Option PairWord) : State :=
  { s with acc := { s.acc with held := stSet (fun _ => none) s.acc.held (pairKey q pg) w } }

/-- The high word latched for the requester in the page. -/
def State.latched (s : State) (q : Requester) (pg : Nat) : Option PairWord := stGet (fun _ => none) s.acc.latch (pairKey q pg)

/-- Latch a high word for the requester in the page, or none. -/
def State.setLatch (s : State) (q : Requester) (pg : Nat) (w : Option PairWord) : State :=
  { s with acc := { s.acc with latch := stSet (fun _ => none) s.acc.latch (pairKey q pg) w } }

/-- The HBR_CTRL record of a failed BAR access (R276 table): the kind and the offset. -/
def State.lastErr (s : State) (kind bar offs : Nat) : State :=
  s.wr R.HBR_CTRL_LASTERR (BitVec.ofNat 32 (kind * 2 ^ 29 + bar * 2 ^ 28 + offs % 2 ^ 28))

/-- An access to an unmapped page: its event, its count, its record, and all ones to a read (R32). -/
def State.unmappedAccess (s : State) (q : Requester) (off : Nat) (write : Bool) : State :=
  let s := (s.raise P.HBR_CTRL 1).satInc F.HBR_CTRL_ERRCNT_UNMAPPED
  let s := if q = .host then s.lastErr 2 0 off else s
  let s := s.post 0x0010 2 0 (beBytes 1 q.code ++ beBytes 4 off)
  if write then s else s.emit (.readData q off 0xFFFFFFFF)

/-- An access to a page of an island that is off (R37). -/
def State.offAccess (s : State) (q : Requester) (off : Nat) (write : Bool) (v : Word) : State :=
  let s := if q = .host then s.lastErr 3 0 off else s
  if write then
    let s := (s.satInc F.SYS_EVT_OFFWR_OFFWR_CNT).put F.SYS_EVT_OFFWR_LAST_ISL (islandOf off)
    s.post 0x0011 1 (subject 6 (islandOf off)) (beBytes 4 off ++ beBytes 4 v.toNat)
  else s.emit (.readData q off (BitVec.ofNat 32 (0xFFFF0000 + islandOf off)))

/-- An RWL write dropped: LOCK_VIOL and its record (R45). -/
def State.lockViol (s : State) (q : Requester) (off : Nat) : State :=
  (s.raise (pageOf off) 30).post (islandOf off * 256 + 0x03) 2 (subject (blockOf off) 0) (beBytes 4 off ++ beBytes 1 q.code)

/-- What a lockable write does: `f` while the requester holds the page unlocked, otherwise it is dropped (R45). -/
def State.locked (s : State) (q : Requester) (off : Nat) (f : State → State) : State :=
  if s.owns q (pageOf off) then f s else s.lockViol q off

/-- A write that only firmware may make; of another requester it is dropped and sets LOCK_VIOL. -/
def State.firmwareOnly (s : State) (q : Requester) (off : Nat) (f : State → State) : State :=
  if q = .firmware then f s else s.lockViol q off

/-- The page drops writes with BUSY_DROP: a test has its island (R43), or an MGT reset runs (R369). -/
def State.pageBusy (s : State) (pg : Nat) : Bool := s.bit (F.PG_STAT_BIST_ACTIVE pg) || s.bit (F.PG_STAT_BUSY pg)

/-- A write access carried to its page: the cases of R450, R32, R37, R42, R43, R369 and R416, then `f`, then the owner's count of
R44. -/
def State.carry (s : State) (q : Requester) (off : Nat) (v : Word) (f : State → State) : State :=
  if !s.pathUp q then s
  else if !mapped off then s.unmappedAccess q off true
  else if !s.reachable off then s.offAccess q off true v
  else
    let s := match s.heldWord q (pageOf off) with
      | some _ => s.setHeld q (pageOf off) none
      | none => s
    if 0x40 ≤ off % 4096 ∧ s.pageBusy (pageOf off) then (s.raise (pageOf off) 26).countAccess q (pageOf off)
    else if 0x40 ≤ off % 4096 ∧ s.acc.srst.contains (pageOf off) then
      { s with acc := { s.acc with srstDrop := (pageOf off) :: s.acc.srstDrop } }.countAccess q (pageOf off)
    else if 0x40 ≤ off % 4096 ∧ s.bit (F.PG_STAT_OFFLINE (pageOf off)) then s.countAccess q (pageOf off)
    else (f s).countAccess q (pageOf off)

/-- The register has a field that only the holder of its page's lock writes (R17, R45). -/
def lockable (off : Nat) : Bool :=
  match regRow off with
  | some r => r.lockable
  | none => false

/-- A carried write of the high word of a pair: it is held (R34); a lockable one only for the holder of the page's lock (R45). -/
def State.holdHigh (s : State) (q : Requester) (off : Nat) (v : Word) : State :=
  if lockable off && !s.owns q (pageOf off) then s.lockViol q off else s.setHeld q (pageOf off) (some ⟨off, v⟩)

/-- A write of a 64-bit pair: its high word, which is held, and then its low word, which carries `f` out (R34). -/
def State.carryPair (s : State) (q : Requester) (offHi offLo : Nat) (hi lo : Word) (f : State → State) : State :=
  (s.carry q offHi hi fun s => s.holdHigh q offHi hi).carry q offLo lo f

/-- An access to another register discards the high word that the requester holds for the page (R34). -/
def State.dropOther (s : State) (q : Requester) (off : Nat) : State :=
  match s.heldWord q (pageOf off) with
  | some p => if off = p.off ∨ off + 4 = p.off then s else s.setHeld q (pageOf off) none
  | none => s

/-- A read access carried to its page: the cases of R450, R32, R37, R42 and R43, then the word that `f` gives, then the owner's
count of R44. A high word that the requester holds is discarded, unless the read is of its own pair (R34). -/
def State.carryRead (s : State) (q : Requester) (off : Nat) (f : State → Word × State) : State :=
  if !s.pathUp q then s
  else if !mapped off then s.unmappedAccess q off false
  else if !s.reachable off then s.offAccess q off false 0
  else
    let s := s.dropOther q off
    if 0x40 ≤ off % 4096 ∧ (s.acc.srst.contains (pageOf off) ∨ s.pageBusy (pageOf off) ∨ s.bit (F.PG_STAT_OFFLINE (pageOf off))) then
      (s.emit (.readData q off 0)).countAccess q (pageOf off)
    else
      let r := f s
      (r.2.emit (.readData q off r.1)).countAccess q (pageOf off)

/-- `old` with the bits of `m` taken from `v`. -/
def maskIn (old m v : Word) : Word := (old &&& ~~~m) ||| (v &&& m)

/-- What a plain write stores (R17): RW bits always, RWL bits while the requester holds the page unlocked, W1C bits cleared by
ones; a lockable register written otherwise sets LOCK_VIOL (R45). Reserved bits and offsets ignore it (R18). -/
def State.storePlain (s : State) (q : Requester) (off : Nat) (v : Word) : State :=
  if off % 4096 = 0x014 then s.wr off (v &&& 0xFEFFFFFF)
  else if off % 4096 = 0x028 then s.wr off v
  else if off % 4096 < 0x40 then s
  else match regRow off with
    | none => s
    | some r =>
      let m := if s.owns q (pageOf off) then r.rw ||| r.rwl else r.rw
      let w := maskIn (s.rd off) m v &&& ~~~(v &&& r.w1c)
      if r.lockable && !s.owns q (pageOf off) then (s.wr off w).lockViol q off else s.wr off w

end Sys2Proof.Machine
end

