-- ==== Sys2Proof/Machine/Frames.lean ====
section
/-!
DEFINITION. Native frames (R137): header bytes, HCRC, malformed headers, and the node's own place in the train.
-/

namespace Sys2Proof.Machine

/-- Bytes 0 to 13 of the native header (R137). -/
def nfHeader (f : NFrame) : List Byte :=
  beBytes 1 (f.ver % 16 * 16 + f.cls % 16) ++
  beBytes 1 (f.line.idx * 128 + f.beam.toNat * 64 + f.epn.toNat * 32 + f.rsv / 32768 % 32) ++
  beBytes 2 f.epoch ++ beBytes 2 (f.rsv / 256 % 128 * 512 + f.src % 512) ++
  beBytes 2 (f.atype % 8 * 8192 + f.rsv / 16 % 16 * 512 + f.dst % 512) ++
  beBytes 2 (f.rsv % 16 * 4096 + f.flow % 4096) ++ beBytes 2 f.seq ++ beBytes 2 f.len

/-- HCRC over the header (R137). -/
def nfCrc (f : NFrame) : Nat := crc 16 0x1021 0xFFFF (nfHeader f)

/-- The header's HCRC checks. -/
def nfCrcOk (f : NFrame) : Bool := f.hcrc == nfCrc f

/-- The native frame that header and payload bytes spell (R137); bytes beyond LEN are padding. -/
def nfParse (bs : List Byte) : NFrame :=
  let h := fun k => ofBytes (bytesAt bs k 2)
  let b := h 0
  { ver := b / 4096, cls := b / 256 % 16, line := if b.testBit 7 then .b else .a, beam := b.testBit 6, epn := b.testBit 5,
    epoch := h 2, src := h 4 % 512, atype := h 6 / 8192, dst := h 6 % 512, flow := h 8 % 4096, seq := h 10, len := h 12,
    rsv := b % 32 * 32768 + h 4 / 512 * 256 + h 6 / 512 % 16 * 16 + h 8 / 4096, hcrc := h 14, payload := (bs.drop 16).take (h 12) }

/-- Header and payload of a native frame as bytes: its header with HCRC, and LEN bytes of payload (R136). -/
def nfBytes (f : NFrame) : List Byte := nfHeader f ++ beBytes 2 f.hcrc ++ bytesAt f.payload 0 f.len

/-- The copy of a frame for a line: LINE and HCRC set. -/
def nfOnLine (f : NFrame) (l : Line) : NFrame :=
  let g := { f with line := l }
  { g with hcrc := nfCrc g }

/-- The frame is malformed for local delivery (R138). -/
def nfMalformed (f : NFrame) : Bool :=
  f.ver != 1 || 7 ≤ f.cls || f.atype == 6 || f.atype == 7 || 1484 < f.len || f.payload.length < f.len

/-- A frame of this node: version 1, its payload's length, EPN 0. -/
def mkFrame (cls epoch src atype dst flow seq : Nat) (payload : List Byte) : NFrame :=
  { ver := 1, cls := cls, line := .a, beam := false, epn := false, epoch := epoch, src := src, atype := atype, dst := dst,
    flow := flow, seq := seq, len := payload.length, rsv := 0, hcrc := 0, payload := payload }

/-- All four backbone ports. -/
def allPorts : List BPort := [.la1, .la2, .lb1, .lb2]

/-- The line is in LISTEN or NORMAL. -/
def State.lineOpen (s : State) (l : Line) : Bool :=
  s.get (F.BL_LINE_STAT_STATE l) == 1 || s.get (F.BL_LINE_STAT_STATE l) == 2

/-- The line is in NORMAL. -/
def State.lineNormal (s : State) (l : Line) : Bool := s.get (F.BL_LINE_STAT_STATE l) == 2

/-- The port has link and its line is in LISTEN or NORMAL. -/
def State.linked (s : State) (p : BPort) : Bool := s.bit (F.BL_P_STAT_LINK p) && s.lineOpen p.line

/-- The module serial (OTP). -/
def State.serial (s : State) : Nat := s.get F.TOP_SERIAL_HI_SERIAL * 2 ^ 32 + s.get F.TOP_SERIAL_LO_SERIAL

/-- The source address of the module's frames (R136, R159). -/
def State.ownMac (s : State) : Nat := 0x020000000000 + s.serial % 2 ^ 40

/-- A native frame of traffic class `tc` as an IEEE 802.3 frame (R136): addresses, tag, FAB_ETYPE, header, payload, and zeros up to
the 64 bytes of a frame with its FCS. -/
def State.wire (s : State) (tc : Nat) (f : NFrame) : EthFrame :=
  let b := nfBytes f
  { dst := 0x03005A000001, src := s.ownMac, tag := some (tc, s.get F.FAB_CTRL_CFG_NATIVE_VID), rtag := none,
    etype := s.get F.FAB_CTRL_ETYPE_ETYPE, payload := b ++ List.replicate (42 - b.length) 0 }

/-- Send a native frame of the node's own, without a context, on a backbone port outside the window, as the copy of the port's line.
The spec names no traffic class for it: it is open, and the frame passes no queue (log entry 76). -/
def State.send (s : State) (p : BPort) (f : NFrame) : State :=
  if s.linked p then s.emit (.native p (s.wire (Config.ownTc f.cls).toNat (nfOnLine f p.line))) else s

/-- Send a native frame on several ports. -/
def State.sendAll (s : State) (ps : List BPort) (f : NFrame) : State := ps.foldl (fun s p => s.send p f) s

/-- The node's own number, 0 for none. -/
def State.node (s : State) : Nat := if s.bit F.TOP_NODE_VALID then s.get F.TOP_NODE_NODE else 0

/-- The current epoch, 0 for none. -/
def State.epoch (s : State) : Nat := s.get F.TOP_EPOCH_EPOCH

/-- The role (R245): 0 none, 1 ACTIVE, 2 STANDBY, 3 ISOLATED, 4 SOLO. -/
def State.role (s : State) : Nat := s.get F.TWN_CTRL_ROLE_ROLE

/-- MONO in ns (R225). -/
def State.mono (s : State) : Nat := s.mono5 / 5

/-- The backbone cycle count. -/
def State.cycle (s : State) : Nat := s.get F.TOP_SLOT_CYCNT_CYCLE

/-- The port of a line that faces the reference end, in the numbering in force. -/
def State.portToRef (s : State) (l : Line) : BPort := l.port (!s.bit F.TOP_NODE_FWD)

/-- The successor of an epoch (R71). -/
def epochSucc (e : Nat) : Nat := if e = 0xFFFF then 1 else e + 1

/-- Epoch `x` is later than epoch `y` (R71); any epoch is later than none. -/
def epochLater (x y : Nat) : Bool := if y = 0 then x != 0 else laterThan 16 x y

/-! Identity tables (R88) in RAM: table 0 current, 1 shadow, 2 previous; entry of node number n. -/

/-- The address of the identity entry of node `n` in table `t`. -/
def identAddr (t n : Nat) : Nat := 0x10000000 + t * 0x10000 + 32 * (n - 1)

/-- How many nodes table `t` numbers: its entries with a node number. -/
def State.identSerial (s : State) (t n : Nat) : Nat := s.rdNum (identAddr t n) 8

def State.identNode (s : State) (t n : Nat) : Nat := s.rdNum (identAddr t n + 16) 2 % 512

def State.identVeh (s : State) (t n : Nat) : Nat := s.rdNum (identAddr t n + 18) 1

/-- The node number of a serial in table `t`, 0 when it holds none. -/
def State.nodeOfSerial (s : State) (t serial : Nat) : Nat :=
  ((List.range 510).map (· + 1)).find? (fun n => s.identNode t n == n && s.identSerial t n == serial) |>.getD 0

/-! Local delivery (R96, R138). -/

/-- The identity table that a frame of class 0, 1, 3, 5 or 6 is resolved with; none: it is not accepted (R96). -/
def State.acceptTable (s : State) (f : NFrame) : Option Nat :=
  if f.epn || s.epoch = 0 then none
  else if f.epoch = s.epoch then some 0
  else if f.epoch = s.get F.TOP_EPOCH_PREV ∧ f.epoch ≠ 0 ∧ s.get F.TOP_SHADOW_GRACE ≠ 0 then some 2
  else if s.get F.TOP_SHADOW_PHASE = 4 ∧ s.top.acted.isSome ∧ s.top.digestMiss = false ∧ f.epoch = s.get F.TOP_SHADOW_SHADOW then some 1
  else none

/-- The next SEQ of the node's own frames of a class and flow. -/
def State.seqOf (s : State) (cls flow : Nat) : Nat := stGet (fun _ => 0) s.fab.seqs (cls * 4096 + flow)

/-- That SEQ has been used. -/
def State.seqUsed (s : State) (cls flow : Nat) : State :=
  { s with fab := { s.fab with seqs := stSet (fun _ => 0) s.fab.seqs (cls * 4096 + flow) ((s.seqOf cls flow + 1) % 65536) } }

/-- A frame of this node in the numbering in force (R97, R137). -/
def State.ownFrame (s : State) (cls atype dst flow : Nat) (payload : List Byte) : NFrame :=
  mkFrame cls s.epoch s.node atype dst flow (s.seqOf cls flow) payload

end Sys2Proof.Machine
end

