-- ==== Sys2Proof/Machine/Ctx.lean ====
section
/-!
DEFINITION. The flow contexts and the ways of their lookup keys, as plain bytes and lists (R144, R146).
-/

namespace Sys2Proof.Machine

/-! Contexts (R144). -/

def ctxAddr (i : Nat) : Nat := 0x03000000 + 64 * i

/-- A byte of a context. -/
def State.ctxByte (s : State) (i k : Nat) : Nat := (s.rdByte (ctxAddr i + k)).toNat

/-- Two bytes of a context. -/
def State.ctxHalf (s : State) (i k : Nat) : Nat := s.rdNum (ctxAddr i + k) 2

def State.ctxValid (s : State) (i : Nat) : Bool := (s.ctxByte i 0).testBit 7
def State.ctxType (s : State) (i : Nat) : Nat := s.ctxByte i 0 / 32 % 4
def State.ctxOwner (s : State) (i : Nat) : Nat := s.ctxByte i 0 / 8 % 4
def State.ctxMirror (s : State) (i : Nat) : Bool := (s.ctxByte i 0).testBit 2
def State.ctxBeam (s : State) (i : Nat) : Bool := (s.ctxByte i 1).testBit 7
def State.ctxTc (s : State) (i : Nat) : Nat := s.ctxByte i 1 / 16 % 8
def State.ctxCls (s : State) (i : Nat) : Nat := s.ctxByte i 1 % 16
def State.ctxFlow (s : State) (i : Nat) : Nat := s.ctxHalf i 2 % 4096

/-- The context publishes: a publisher or a session. -/
def State.ctxPublishes (s : State) (i : Nat) : Bool := s.ctxValid i && (s.ctxType i == 0 || s.ctxType i == 2)

/-- The context receives: a subscriber or a session. -/
def State.ctxReceives (s : State) (i : Nat) : Bool := s.ctxValid i && (s.ctxType i == 1 || s.ctxType i == 2)

/-- A bit of STAT (byte 34). -/
def State.ctxStat (s : State) (i b : Nat) : Bool := (s.ctxByte i 34).testBit b

def State.setStat (s : State) (i b : Nat) (v : Bool) : State :=
  let o := s.ctxByte i 34
  let c := if o.testBit b then o - 2 ^ b else o
  s.wrNum (ctxAddr i + 34) 1 (c + v.toNat * 2 ^ b)

/-- The indexes of the valid contexts, ascending. -/
def State.validCtxs (s : State) : List Nat :=
  s.mem.filterMap fun e =>
    if 0x03000000 ≤ e.1 ∧ e.1 < 0x03040000 ∧ e.1 % 64 = 0 ∧ e.2.getLsbD 7 then some ((e.1 - 0x03000000) / 64) else none

/-- A TIMEOUT field in ns (R144); a count of 0 is no supervision. -/
def timeoutNs (h : Nat) : Nat :=
  h % 16384 * (match h / 16384 with
    | 0 => 10000
    | 1 => 1000000
    | _ => 100000000)

/-- The MONO TIMEOUT of a context in ns (bytes 28 and 29); 0 for no supervision. -/
def State.ctxTimeout (s : State) (i : Nat) : Nat := timeoutNs (s.ctxHalf i 28)

/-! Ways of the lookup table (R146). -/

def State.waysOf (s : State) (set : Nat) : List Way := stGet (fun _ => []) s.fab.ways set

def State.setWays (s : State) (set : Nat) (ws : List Way) : State :=
  { s with fab := { s.fab with ways := stSet (fun _ => []) s.fab.ways set ws } }

/-- Free ways whose mask is 0. -/
def liveWays (ws : List Way) : List Way := ws.filter fun w => w.cur || w.prev || w.shadow

/-- Change the mask of every way, and free those whose mask becomes 0. -/
def State.mapWays (s : State) (f : Way → Way) : State :=
  { s with fab := { s.fab with
    ways := (s.fab.ways.map fun e => (e.1, liveWays (e.2.map f))).filter fun e => !e.2.isEmpty } }

/-- An attempt's shadow fields are dropped (R105). -/
def State.dropShadow (s : State) : State :=
  let s := s.mapWays fun w => { w with shadow := false }
  s.validCtxs.foldl (fun s i => (s.wrNum (ctxAddr i + 14) 6 0).setStat i 4 false) s

end Sys2Proof.Machine
end

