-- ==== Sys2Proof/Machine/BeamOps.lean ====
section
/-!
DEFINITION. The backbone cycle and the beam window, as far as other chapters use it: lengths, directions, origins, allocations,
the conditions of insertion, and the node's control sub-slot queue (R109 to R128).
-/

namespace Sys2Proof.Machine

/-! Lengths (R109, R112). -/

/-- `x` held within `lo` and `hi`. -/
def clampNat (lo hi x : Nat) : Nat := max lo (min hi x)

/-- CYCLE_US of a TOP_SLOT_CYC value. -/
def cycleUsOf (cyc : Word) : Nat := clampNat 125 8000 (cyc.toNat % 65536)

/-- WIN_PM of a TOP_SLOT_CYC value. -/
def winPmOf (cyc : Word) : Nat := clampNat 10 500 (cyc.toNat / 65536)

/-- LEAD of a TOP_SLOT_LAYOUT value, in units of 100 ns. -/
def leadOf (lay : Word) : Nat := clampNat 10 200 (F.TOP_SLOT_LAYOUT_LEAD.of lay)

/-- GUARD of a TOP_SLOT_LAYOUT value, in units of 100 ns. -/
def guardOf (lay : Word) : Nat := clampNat 2 100 (F.TOP_SLOT_LAYOUT_GUARD.of lay)

/-- SEP of a TOP_SLOT_LAYOUT value. -/
def sepOf (lay : Word) : Nat := max 1 (F.TOP_SLOT_LAYOUT_SEP.of lay)

/-- CTL_W of a TOP_SLOT_LAYOUT value. -/
def ctlWOf (lay : Word) : Nat := clampNat 16 64 (F.TOP_SLOT_LAYOUT_CTL_W.of lay)

/-- The block time of a PHY type in tenths of a nanosecond. -/
def blockTime (rate : Nat) : Nat := match rate with
  | 3 => 64
  | 2 => 128
  | 1 => 256
  | _ => 640

/-- The capacity C in blocks (R124). -/
def capacityOf (cyc lay : Word) : Nat := cycleUsOf cyc * winPmOf cyc * 10 / blockTime (F.TOP_SLOT_LAYOUT_BRATE.of lay)

/-- The guard G in blocks (R122). -/
def guardBlocksOf (lay : Word) : Nat :=
  (guardOf lay * 1000 + blockTime (F.TOP_SLOT_LAYOUT_BRATE.of lay) - 1) / blockTime (F.TOP_SLOT_LAYOUT_BRATE.of lay)

def State.actCyc (s : State) : Word := s.rd R.TOP_SLOT_ACT_CYC
def State.actLay (s : State) : Word := s.rd R.TOP_SLOT_ACT_LAYOUT

/-- The active cycle in units of 1.6 ns. -/
def State.cycleTicks (s : State) : Nat := cycleUsOf s.actCyc * 625

/-- The active LEAD in units of 1.6 ns, rounded down: the spec gives no rounding for an odd number of 100 ns (log entry 77). -/
def State.leadTicks (s : State) : Nat := leadOf s.actLay * 125 / 2

/-- The active GUARD in units of 1.6 ns, rounded down (log entry 77). -/
def State.guardTicks (s : State) : Nat := guardOf s.actLay * 125 / 2

/-! Directions: a direction of a line is named by its exit port. -/

def BeamState.dir (b : BeamState) : BPort → BeamDir
  | .la1 => b.la1
  | .la2 => b.la2
  | .lb1 => b.lb1
  | .lb2 => b.lb2

def BeamState.setDir (b : BeamState) (x : BPort) (d : BeamDir) : BeamState :=
  match x with
  | .la1 => { b with la1 := d }
  | .la2 => { b with la2 := d }
  | .lb1 => { b with lb1 := d }
  | .lb2 => { b with lb2 := d }

def BeamState.probe (b : BeamState) : BPort → BeamProbe
  | .la1 => b.pa1
  | .la2 => b.pa2
  | .lb1 => b.pb1
  | .lb2 => b.pb2

def BeamState.setProbe (b : BeamState) (p : BPort) (x : BeamProbe) : BeamState :=
  match p with
  | .la1 => { b with pa1 := x }
  | .la2 => { b with pa2 := x }
  | .lb1 => { b with pb1 := x }
  | .lb2 => { b with pb2 := x }

def State.dir (s : State) (x : BPort) : BeamDir := s.beam.dir x

def State.setDir (s : State) (x : BPort) (d : BeamDir) : State := { s with beam := s.beam.setDir x d }

/-- Down is outbound: at a forward node, and at a node without a number. -/
def State.downOut (s : State) : Bool := !s.bit F.TOP_NODE_VALID || s.bit F.TOP_NODE_FWD

/-- The direction runs away from the reference end. -/
def State.outbound (s : State) (x : BPort) : Bool := (x.side == 1) == s.downOut

/-- The exit port of a line's outbound direction. -/
def State.outPort (s : State) (l : Line) : BPort := l.port s.downOut

/-- MISS_MAX. -/
def State.missMax (s : State) (l : Line) : Nat := max 1 (s.get (F.BL_BEAM_CFG_MISS_MAX l))

/-- TRACK in units of 1.6 ns. -/
def State.track (s : State) (l : Line) : Nat := max 1 (s.get (F.BL_BEAM_CFG_TRACK l))

/-- The node originates the direction (R113): never into a break; once a marker arrives, up to the next cycle only. -/
def State.originates (s : State) (x : BPort) : Bool :=
  s.bit F.TOP_NODE_VALID && s.lineNormal x.line && !s.bit F.TOP_ETB_CTRL_EN && s.bit (F.BL_P_STAT_LINK x)
    && (!s.bit (F.BL_P_STAT_LINK x.opposite) || decide (s.missMax x.line ≤ (s.dir x).misses) || (s.dir x).org)

/-- The direction is a segment origin's: not the reference-end node's outbound nor the last node's inbound (R113). -/
def State.segment (s : State) (x : BPort) : Bool :=
  !((s.outbound x && s.bit F.TOP_NODE_REFEND) || (!s.outbound x && s.bit F.TOP_NODE_FAREND))

/-- The direction is locked (R115); an origin is locked to its own phase. -/
def State.locked115 (s : State) (x : BPort) : Bool := decide (2 ≤ (s.dir x).run) || s.originates x

/-- The line whose outbound direction places the cycle boundary (R115); none: it runs free (R452). -/
def State.boundaryLine (s : State) : Option Line :=
  if s.locked115 (s.outPort .a) then some .a else if s.locked115 (s.outPort .b) then some .b else none

/-- The PHASE field of a direction, and its ERR. -/
def phaseFld (x : BPort) : Fld := if x.side = 1 then F.BL_BEAM_PHD_PHASE x.line else F.BL_BEAM_PHU_PHASE x.line
def errFld (x : BPort) : Fld := if x.side = 1 then F.BL_BEAM_PHD_ERR x.line else F.BL_BEAM_PHU_ERR x.line

/-- The cumulative delay of a direction (R116). -/
def dcumFld (x : BPort) : Fld := if x.side = 1 then F.BL_BEAM_DCUMD_D x.line else F.BL_BEAM_DCUMU_D x.line

/-! Allocation (R123 to R125). -/

/-- The policy entry that a vehicle tag takes (R123): outbound and inbound width; none matches. A width above 16,383 is taken modulo
16,384 (log entry 81). -/
def State.policyOf (s : State) (vtag : Nat) : Option (Nat × Nat) :=
  let bytes := fun n => (List.range 8).flatMap fun m => beBytes 4 (s.rd (R.TOP_SLOT_CLS_W n m)).toNat
  let hit := (List.range 16).find? fun n =>
    let b := bytes n
    (b.getD 20 0).getLsbD 7 && (vtag &&& ofBytes (bytesAt b 8 8)) == (ofBytes (bytesAt b 0 8) &&& ofBytes (bytesAt b 8 8))
  hit.map fun n => (ofBytes (bytesAt (bytes n) 16 2) % 16384, ofBytes (bytesAt (bytes n) 18 2) % 16384)

/-- The vehicles of identity table `t` with `nodes` nodes, in node order: vehicle number and tag. -/
def State.vehiclesOf (s : State) (t nodes : Nat) : List (Nat × Nat) :=
  (List.range nodes).foldl (fun vs i =>
    let v := s.identVeh t (i + 1)
    if vs.any fun e => e.1 == v then vs else vs ++ [(v, s.rdNum (identAddr t (i + 1) + 8) 8)]) []

/-- Control sub-slots of the nodes in direction order but the last one; the first free block; CTL_SHORT. -/
def allocCtl (c g w sep : Nat) : List Nat → Nat → List SubSlot × Nat × Bool
  | [], pos => ([], pos, false)
  | [_], pos => ([], pos, false)
  | x :: y :: xs, pos =>
    if c < pos + w + sep + g then
      let r := allocCtl c g w sep (y :: xs) pos
      (r.1, r.2.1, true)
    else
      let r := allocCtl c g w sep (y :: xs) (pos + w + sep)
      (⟨1, x, pos, w⟩ :: r.1, r.2.1, r.2.2)

/-- Data sub-slots of the vehicles with their widths, from block `pos` on. -/
def allocData (sep : Nat) : List (Nat × Nat) → Nat → List SubSlot
  | [], _ => []
  | (v, w) :: vs, pos =>
    let w := if w < 5 then 0 else w
    ⟨2, v, pos, w⟩ :: allocData sep vs (pos + w + sep)

/-- One direction's allocation: its elements and SCALED, CTL_SHORT. -/
def allocDir (cyc lay : Word) (nodes : List Nat) (vehs : List (Nat × Nat)) : List SubSlot × Bool × Bool :=
  let c := capacityOf cyc lay
  let g := guardBlocksOf lay
  let sep := sepOf lay
  let r := allocCtl c g (ctlWOf lay) sep nodes (4 + sep)
  let avail := c - (g + r.2.1 + sep * vehs.length)
  let demand := (vehs.map (·.2)).sum
  let ws := if avail < demand then vehs.map fun v => (v.1, v.2 * avail / demand) else vehs
  (⟨0, 0, 0, 4⟩ :: r.1 ++ allocData sep ws r.2.1, decide (avail < demand), r.2.2)

/-- The allocation of R124 for identity table `t` with `nodes` nodes. -/
def State.allocate (s : State) (t nodes : Nat) (cyc lay : Word) : Alloc :=
  let ns := (List.range nodes).map (· + 1)
  let vs := s.vehiclesOf t nodes
  let ws := vs.map fun v => (v.1, s.policyOf v.2)
  let o := allocDir cyc lay ns (ws.map fun w => (w.1, (w.2.getD (0, 0)).1))
  let i := allocDir cyc lay ns.reverse (ws.reverse.map fun w => (w.1, (w.2.getD (0, 0)).2))
  { cap := capacityOf cyc lay, out := o.1, inn := i.1, scaled := o.2.1 || i.2.1, ctlShort := o.2.2 || i.2.2,
    noClass := ws.any fun w => w.2.isNone }

/-- The 12-byte records of a direction for the digest (R125). -/
def digestRecs (d : Nat) (subs : List SubSlot) : List Byte :=
  subs.flatMap fun e => beBytes 1 d ++ beBytes 1 e.kind ++ beBytes 2 e.owner ++ beBytes 4 e.pos ++ beBytes 2 e.width ++ beBytes 2 0

/-- The allocation digest (R125). -/
def allocDigest (cyc lay : Word) (a : Alloc) : Word :=
  crc32c (beBytes 4 cyc.toNat ++ beBytes 4 lay.toNat ++ digestRecs 0 a.out ++ digestRecs 1 a.inn)

/-- The sub-slot of a kind and an owner in a direction of the active allocation; none: it has no blocks. -/
def State.subSlot (s : State) (x : BPort) (kind owner : Nat) : Option SubSlot :=
  match s.beam.active with
  | none => none
  | some a => (if s.outbound x then a.out else a.inn).find? fun e => e.kind == kind && e.owner == owner && e.width != 0

/-- The node's control sub-slot in a direction. -/
def State.ctlSlot (s : State) (x : BPort) : Option SubSlot := if s.node = 0 then none else s.subSlot x 1 s.node

/-- The data sub-slot of the node's vehicle in a direction, while the role is ACTIVE or SOLO (R122). -/
def State.dataSlot (s : State) (x : BPort) : Option SubSlot :=
  if s.role != 1 && s.role != 4 then none else s.subSlot x 2 (s.get F.TOP_NODE_VEH)

/-! Window state of a line. -/

/-- The window of a line: its length at the line's rate exceeds half of the cycle, or ETB compatibility mode is on (R112, R135). -/
def State.windowOff (s : State) (l : Line) : Bool :=
  s.bit F.TOP_ETB_CTRL_EN
    || decide (cycleUsOf s.actCyc * 10000 < 2 * capacityOf s.actCyc s.actLay * blockTime (s.get (F.BL_BEAM_STAT_RATE l)))

/-- The island of a line. -/
def lineIsland (l : Line) : Nat := I.BLA + l.idx

/-- The direction's window runs at the node (R112, R135). -/
def State.windowRuns (s : State) (x : BPort) : Bool :=
  s.lineOpen x.line && !s.bit (F.BL_BEAM_STAT_OFF x.line) && s.get (F.SYS_CLK_ISL_CUR (lineIsland x.line)) == 3

/-- The digest of the marker that the node follows is not the active one (R125). -/
def State.digBad (s : State) (x : BPort) : Bool :=
  s.epoch != 0 && !s.originates x && (s.dir x).mark.isSome && (s.dir x).mark != some (s.rd R.TOP_SLOT_DIGEST)

/-- Insertion in a direction is permitted (R126); never while the boundary runs free (R452), nor after a step before the window that
follows the one of the new lock (R117). -/
def State.mayInsert (s : State) (x : BPort) : Bool :=
  s.lineNormal x.line && s.bit F.TOP_NODE_VALID && s.locked115 x
    && ((s.dir x).mark == some (s.rd R.TOP_SLOT_DIGEST) || s.originates x)
    && !s.bit (F.BL_BEAM_STAT_OFF x.line) && (s.dir x).hold == 0 && s.boundaryLine.isSome

/-- Blocks `pos` to `pos + n - 1` of a direction's window reach into a sub-slot that the node fills (R126, R127). -/
def State.replaces (s : State) (x : BPort) (pos n : Nat) : Bool :=
  s.mayInsert x && ([s.ctlSlot x, s.dataSlot x].any fun o => match o with
    | some e => decide (pos < e.pos + e.width) && decide (e.pos < pos + n)
    | none => false)

/-! The transit span (R119), in fifths of a nanosecond. -/

/-- The time since the node's last cycle boundary. -/
def State.localTime (s : State) : Nat := s.mono5 - s.beam.bound5

/-- The length of a line's window at the line's rate (R109, R112). -/
def State.windowLen (s : State) (l : Line) : Nat := capacityOf s.actCyc s.actLay * blockTime (s.get (F.BL_BEAM_STAT_RATE l)) / 2

/-- The direction has a transit span: the node has been locked to it, or originates it (R115, R118, R135; log entry 84). -/
def State.hasSpan (s : State) (x : BPort) : Bool := s.windowRuns x && ((s.dir x).span || s.originates x)

/-- How long the exit port's transmitter stays free from now on: 0 inside the span, which opens GUARD before the predicted opening
and closes at the window's end. -/
def State.spanRoom (s : State) (x : BPort) : Nat :=
  let c := cycleUsOf s.actCyc * 5000
  if !s.hasSpan x then 2 * c
  else
    let g := guardOf s.actLay * 500
    let rel := (s.localTime + 2 * c + g - s.get (phaseFld x) * 8 % c) % c
    if rel < g + s.windowLen x.line then 0 else c - rel

/-- A deviation of an arrival from the prediction, in units of 1.6 ns, lies inside the span. -/
def State.inSpan (s : State) (x : BPort) (d : Int) : Bool :=
  s.hasSpan x && decide (-(s.guardTicks : Int) ≤ d) && decide (d * 8 < (s.windowLen x.line : Int))

/-! What the registers show. -/

/-- A direction of a closed line has no phase; one that the node originates has no marker, and a new origin takes its phase, which a
segment origin that has a prediction keeps (R113, R114). -/
def State.beamOrigin (s : State) (x : BPort) : State :=
  if !s.lineOpen x.line then s.setDir x .reset
  else if s.originates x then
    let s := s.put (dcumFld x) 0
    if (s.dir x).org then s
    else
      let s := s.setDir x { s.dir x with run := 0, misses := 15 }
      if s.segment x && (s.dir x).span then s else s.put (phaseFld x) s.leadTicks
  else s

/-- Show the line's window in BEAM_STAT; a window that goes off raises OFF. RATE of a line without a link is BRATE (log entry 78). -/
def State.beamRefresh (s : State) (l : Line) : State :=
  let up := l.port false
  let dn := l.port true
  let s := (s.beamOrigin up).beamOrigin dn
  let rate := if s.bit (F.BL_P_STAT_LINK dn) then s.get (F.BL_P_STAT_RATE dn)
    else if s.bit (F.BL_P_STAT_LINK up) then s.get (F.BL_P_STAT_RATE up)
    else F.TOP_SLOT_LAYOUT_BRATE.of s.actLay
  let was := s.bit (F.BL_BEAM_STAT_OFF l)
  let s := s.put (F.BL_BEAM_STAT_RATE l) rate
  let off := s.windowOff l
  let s := s.putB (F.BL_BEAM_STAT_OFF l) off
  let s := s.putB (F.BL_BEAM_STAT_STRETCH l) (!off && decide (rate < F.TOP_SLOT_LAYOUT_BRATE.of s.actLay))
  let s := s.putB (F.BL_BEAM_STAT_SHRINK l) (!off && decide (F.TOP_SLOT_LAYOUT_BRATE.of s.actLay < rate))
  let s := (s.putB (F.BL_BEAM_STAT_D_LOCK l) (s.locked115 dn)).putB (F.BL_BEAM_STAT_U_LOCK l) (s.locked115 up)
  let s := (s.putB (F.BL_BEAM_STAT_D_ORG l) (s.originates dn)).putB (F.BL_BEAM_STAT_U_ORG l) (s.originates up)
  let s := (s.putB (F.BL_BEAM_STAT_D_INS l) (s.mayInsert dn)).putB (F.BL_BEAM_STAT_U_INS l) (s.mayInsert up)
  let s := (s.putB (F.BL_BEAM_STAT_ALLOC_OK l) (s.beam.active.isSome && !s.digBad dn && !s.digBad up)).putB
    (F.BL_BEAM_STAT_D_OUT l) s.downOut
  if off && !was then s.raise (P.BEAM l) 7 else s

/-- Both lines' windows. -/
def State.beamRefreshAll (s : State) : State := (s.beamRefresh .a).beamRefresh .b

/-! The control sub-slot queue (R128). -/

/-- Put a frame into the control sub-slot's queue of a direction; a newer lantern replaces an older one. -/
def State.toCtl (s : State) (x : BPort) (f : NFrame) : State :=
  let q := s.beam.ctl.filter fun e => !(e.1 == x && e.2.cls == 4 && f.cls == 4)
  { s with beam := { s.beam with ctl := q ++ [(x, nfOnLine { f with beam := true } x.line)] } }

/-- The directions in which the node can send in a control sub-slot of its own. -/
def State.ctlDirs (s : State) : List BPort := allPorts.filter fun x => s.mayInsert x && (s.ctlSlot x).isSome

/-- Put a frame into the control sub-slots of both directions on both lines, where the window runs (R77). -/
def State.toSubslot (s : State) (f : NFrame) : State := s.ctlDirs.foldl (fun s x => s.toCtl x f) s

/-- Send a class 2 or class 4 frame in a direction: in the control sub-slot where the node may use it, otherwise outside the window
(R112, R118, R124). -/
def State.sendCtl (s : State) (x : BPort) (f : NFrame) : State :=
  if s.mayInsert x && (s.ctlSlot x).isSome then s.toCtl x f else s.send x f

end Sys2Proof.Machine
end

