-- ==== Sys2Proof/Machine/TimOps.lean ====
section
/-!
DEFINITION. Train time as other chapters use it: the time bases, the states of TIM, changes of WALL, the grandmaster, and the
sending of time frames (R225 to R240).
-/

namespace Sys2Proof.Machine

/-- One nanosecond in the units in which TRAIN_TIME is kept. -/
def nsUnit : Nat := 1280000000000

/-- 2^−16 ns in those units, rounded down in what a frame or a register shows. -/
def toQ16 (x : Nat) : Nat := x * 65536 / nsUnit

/-- 1.6 ns in those units. -/
def tickUnit : Nat := 2048000000000

/-- TIM is on. -/
def State.timOn (s : State) : Bool := s.isOn I.TIM

/-- The clockIdentity of the module (R241). -/
def State.clockIdentity (s : State) : Nat :=
  0x02 * 2 ^ 56 + s.nv.serial / 2 ^ 24 % 2 ^ 16 * 2 ^ 40 + 0xFFFE * 2 ^ 24 + s.nv.serial % 2 ^ 24

/-- TIM_AS_ID shows it. -/
def State.showIdentity (s : State) : State :=
  (s.wr R.TIM_AS_ID_HI (BitVec.ofNat 32 (s.clockIdentity / 2 ^ 32))).wr R.TIM_AS_ID_LO (BitVec.ofNat 32 s.clockIdentity)

/-- The state of TIM (R237). -/
def State.timState (s : State) : Nat := s.get F.TIM_BASE_STAT_STATE

/-- TRAIN_TIME in whole ns; 0 while TIM is off (R228). -/
def State.trainNs (s : State) : Nat := if s.timOn then s.tim.tt / nsUnit % 2 ^ 64 else 0

/-- TRAIN_TIME as a CAN channel stamps it: in steps of 12.5 ns (R243), in whole ns. -/
def State.canStamp (s : State) : Nat := if s.timOn then s.tim.tt / (25 * (nsUnit / 2)) * 25 / 2 % 2 ^ 64 else 0

/-- WOFS in force. -/
def State.wofs (s : State) : Nat := s.get F.TIM_BASE_WOFS_HI_WOFS * 2 ^ 32 + s.get F.TIM_BASE_WOFS_LO_WOFS

/-- WALL (R227); 0 while TIM is off or UNSET. -/
def State.wall (s : State) : Nat :=
  if s.timOn && s.timState != 0 then (s.trainNs + s.wofs) % 2 ^ 64 else 0

def State.setWofs (s : State) (w : Nat) : State :=
  (s.wr R.TIM_BASE_WOFS_HI (BitVec.ofNat 32 (w / 2 ^ 32))).wr R.TIM_BASE_WOFS_LO (BitVec.ofNat 32 w)

/-- TF_DIV and TF_MISS. -/
def State.tfDiv (s : State) : Nat := max 1 (s.get F.TIM_SERVO_CFG_TF_DIV)
def State.tfMiss (s : State) : Nat := max 1 (s.get F.TIM_SERVO_CFG_TF_MISS)

/-- Enter a state of TIM (R237). -/
def State.timEnter (s : State) (n : Nat) : State :=
  let o := s.timState
  if o = n then s
  else
    let s := (s.put F.TIM_BASE_STAT_STATE n).raise P.TIM_BASE 0
    let s := s.post 0x0911 1 0 (beBytes 1 o ++ beBytes 1 n ++ beBytes 4 (s.get F.TIM_SERVO_OFFS_E))
    let s := if n = 3 then s.raise P.TIM_SERVO 0 else s
    let s := if o = 3 then (s.raise P.TIM_SERVO 1).satInc F.TIM_SERVO_CNT_LOSSES else s
    let s := if n = 4 then (s.raise P.TIM_SERVO 2).wr R.TIM_SERVO_ADJ (s.rd R.TIM_SERVO_INTEG) else s
    { s with tim := { s.tim with within := 0, beyond := 0 } }

/-- WALL has changed from `old` other than by its advance (R240, R242, R400): cause 1 left UNSET, 2 forward step, 3 WOFS. -/
def State.wallStep (s : State) (old cause : Nat) : State :=
  let s := (s.raise P.TIM_BASE 3).post 0x0910 1 0
    (beBytes 8 old ++ beBytes 8 s.wall ++ beBytes 1 cause ++ beBytes 2 (s.get F.TIM_BASE_WCTL_WGEN))
  let s := s.wrapInc F.TIM_AS_TBI_TBI
  { s with tim := { s.tim with phaseChange := (s.wall : Int) - (old : Int) } }

/-- The node meets the condition of the grandmaster (R229). -/
def State.isGm (s : State) : Bool :=
  s.timOn && s.epoch != 0 && s.bit F.TOP_NODE_VALID && s.get F.TOP_NODE_VEH == 1 && (s.role == 1 || s.role == 4)

/-- The node becomes or stops being grandmaster (R229, R237). -/
def State.gmUpdate (s : State) : State :=
  if !s.timOn then s
  else if s.isGm then
    if s.timState = 5 then s.put F.TIM_BASE_STAT_GM_NODE s.node
    else
      let was := s.timState
      let old := s.wall
      let s := ((s.wr R.TIM_SERVO_ADJ 0).wr R.TIM_SERVO_INTEG 0).putB F.TIM_BASE_STAT_AHEAD false
      let s := if was = 0 then
          ({ s with tim := { s.tim with tt := s.mono5 * (nsUnit / 5), pend := none, wk := s.cycle } }.setWofs 0).put
            F.TIM_BASE_WCTL_WGEN 0
        else s
      let s := s.put F.TIM_BASE_WCTL_WPEND s.tim.pend.isSome.toNat
      let s := ((s.timEnter 5).put F.TIM_BASE_STAT_GM_NODE s.node).raise P.TIM_BASE 4
      let s := s.post 0x0912 1 0 (beBytes 2 s.node)
      if was = 0 then s.wallStep old 1 else s
  else if s.timState = 5 then
    let s := { s with tim := { s.tim with idle := 0 } }
    let s := ((s.timEnter 2).put F.TIM_BASE_STAT_GM_NODE 0).raise P.TIM_BASE 4
    s.post 0x0912 1 0 (beBytes 2 0)
  else s

/-- One tick of 1.6 ns: MONO advances, and TRAIN_TIME by 1.6 ns · (1 + ADJ) (R225, R226). -/
def State.tick (s : State) : State :=
  let s := { s with mono5 := s.mono5 + 8 }
  if s.timOn && s.timState != 0 then
    { s with tim := { s.tim with tt := ((s.tim.tt : Int) + tickUnit + 8 * toSigned 32 (s.rd R.TIM_SERVO_ADJ).toNat).toNat } }
  else s

/-! Captures (R234, R243). -/

/-- The capture of an outbound marker of a line. -/
def State.markerCapture (s : State) (l : Line) (cycle : Nat) (seg : Bool) : State :=
  let m : MarkerRec := ⟨cycle, s.tim.tt, s.get (dcumFld (s.outPort l)), seg⟩
  match l with
  | .a => { s with tim := { s.tim with recsA := m :: s.tim.recsA.take 3 } }
  | .b => { s with tim := { s.tim with recsB := m :: s.tim.recsB.take 3 } }

/-- The capture of the node's cycle boundary; the cycles without a usable frame, and without a second source, count on. -/
def State.boundaryCapture (s : State) : State :=
  { s with tim := { s.tim with
    capBoundary := ⟨s.cycle, s.tim.tt, 0xFFFFFF, false⟩, idle := min 65535 (s.tim.idle + 1), single := min 65535 (s.tim.single + 1) } }

/-- The record of a cycle's marker, one of the last four cycles, that may serve: SEG = 0 and a known D, line A before line B (R233,
R234). -/
def State.markerOf (s : State) (cycle : Nat) : Option (Line × MarkerRec) :=
  let ok := fun (m : MarkerRec) =>
    m.cycle == cycle && !m.seg && m.d != 0xFFFFFF && decide ((s.cycle + 2 ^ 32 - m.cycle) % 2 ^ 32 < 4)
  match s.tim.recsA.find? ok, s.tim.recsB.find? ok with
  | some m, _ => some (.a, m)
  | none, some m => some (.b, m)
  | none, none => none

/-! Time frames (R231 to R235). -/

/-- The payload of a time frame (R232). -/
def State.timePayload (s : State) (cycle t : Nat) (outw : Bool) : List Byte :=
  let w := match s.tim.pend with
    | some p => p
    | none => ⟨s.wofs, s.get F.TIM_BASE_WCTL_WGEN, s.tim.wk⟩
  beBytes 4 cycle ++ beBytes 8 (toQ16 t / 65536) ++ beBytes 2 (toQ16 t) ++ beBytes 1 (outw.toNat * 128) ++ beBytes 1 0
    ++ beBytes 8 0 ++ beBytes 8 w.wofs ++ beBytes 2 w.wgen ++ beBytes 4 w.wk ++ beBytes 2 0

/-- The outside-window form on both ports of a line (R235). -/
def State.timeOutside (s : State) (l : Line) : State :=
  s.sendAll [l.port false, l.port true] (s.ownFrame 5 3 0 1 (s.timePayload 0 s.tim.tt true))

/-- The grandmaster's time frame of the cycle that starts (R233). -/
def State.timeFrameSend (s : State) : State :=
  if !s.timOn || s.timState != 5 || !s.enabled P.TIM_BASE || s.cycle % s.tfDiv != 0 then s
  else
    let c := (s.cycle + 2 ^ 32 - 1) % 2 ^ 32
    let s := match s.markerOf c with
      | none => (s.timeOutside .a).timeOutside .b
      | some (_, m) =>
        let t := if m.d = 0 then m.tt else m.tt - m.d * tickUnit
        [Line.a, Line.b].foldl (fun s l =>
          if s.lineNormal l && !s.bit (F.BL_BEAM_STAT_OFF l) then
            (s.ctlDirs.filter fun (x : BPort) => x.line == l).foldl
              (fun s x => s.toCtl x (s.ownFrame 5 3 0 1 (s.timePayload c t false))) s
          else s.timeOutside l) s
    s.seqUsed 5 1

end Sys2Proof.Machine
end

