-- ==== Sys2Proof/Machine/CanOps.lean ====
section
/-!
DEFINITION. CAN channels as other chapters use them: message RAM, slots, queues, filters, modes (R194 to R216).
-/

namespace Sys2Proof.Machine

/-! A channel's own state and its registers. -/

def State.canSt (s : State) (n : Nat) : CanState := stGet (fun _ => CanState.reset) s.cans n

def State.setCan (s : State) (n : Nat) (c : CanState) : State :=
  { s with cans := stSet (fun _ => CanState.reset) s.cans n c }

/-- Change a channel's own state. -/
def State.modCan (s : State) (n : Nat) (f : CanState → CanState) : State := s.setCan n (f (s.canSt n))

/-- The island of a channel. -/
def canIsland (n : Nat) : Nat := I.CBL + n / 8

/-- The first byte of a channel's message RAM (R201). -/
def canBase (n : Nat) : Nat := canIsland n * 16777216 + n % 8 * 65536

/-- The effective mode EMODE (R197). -/
def State.emode (s : State) (n : Nat) : Nat := s.get (F.CB_CAN_MODE_EMODE n)

/-- TEC and REC count in normal and loopback (R197); the channel transmits in these modes only. -/
def canSends (m : Nat) : Bool := m == 0 || m == 3

/-- PLL_SYS runs from the IRO: the XO is not qualified (R194, R330). -/
def State.onIro (s : State) : Bool := !s.bit ⟨R.SYS_CLK_STAT, 1, 1⟩

/-- The mode that MODE and the role ask for (R198). -/
def canRoleMode (mode role : Nat) : Nat :=
  match mode with
  | 0 => if role = 1 ∨ role = 4 then 0 else if role = 3 then 2 else 1
  | 1 => if role = 3 then 2 else 1
  | 2 => 2
  | 3 => 3
  | 4 => 4
  | m => (Config.reserved 3 0x071040 m).toNat % 5

/-- The mode that the channel is to be in: stopped while EN is 0. -/
def State.canWant (s : State) (n : Nat) : Nat :=
  if s.enabled (P.CB_CAN n) then canRoleMode (s.get (F.CB_CAN_MODE_MODE n)) s.role else 5

/-- CANn_STB (R224). -/
def State.canStb (s : State) (n : Nat) : Nat :=
  match s.get (F.CB_CAN_XCVR_STB_CTL n) with
  | 0 => if s.emode n ≤ 2 then 0 else 1
  | 1 => 1
  | 2 => 0
  | v => (Config.reserved 1 0x071060 v).toNat

/-- The time master of a channel sends (R222). -/
def State.tmSends (s : State) (n : Nat) : Bool := s.bit (F.CB_CTRL_TM_CFG_EN n) && s.emode n == 0

/-- Registers that follow EMODE: STB and SENDING. -/
def State.canFollow (s : State) (n : Nat) : State :=
  (s.put (F.CB_CAN_XCVR_STB n) (s.canStb n)).putB (F.CB_CTRL_TM_STAT_SENDING n) (s.tmSends n)

/-- A channel when its reset is released: with the XO qualified it runs at its reset values; on the IRO it does not start (R194). -/
def State.canRelease (s : State) (n : Nat) : State :=
  (if s.onIro then (s.put (F.CB_CAN_MODE_EMODE n) 5).modCan n fun c => { c with started := false } else s).canFollow n

/-! Queues (R204 to R210). -/

def State.qEn (s : State) (n k : Nat) : Bool := s.bit (F.CB_CAN_QCFG_EN n k)
def State.qOwner (s : State) (n k : Nat) : Nat := s.get (F.CB_CAN_QCFG_OWNER n k)

/-- Slots of a ring; NSLOTM1 = 0 acts as 1. -/
def nslotOf (m1 : Nat) : Nat := max 2 (m1 + 1)

def State.qSlots (s : State) (n k : Nat) : Nat := nslotOf (s.get (F.CB_CAN_QCFG_NSLOTM1 n k))

/-- DSZ in bytes. -/
def dszOf (d : Nat) : Nat := 8 * 2 ^ d

def State.qDsz (s : State) (n k : Nat) : Nat := dszOf (s.get (F.CB_CAN_QCFG_DSZ n k))

/-- The address of slot `i` of a queue. -/
def State.slotAddr (s : State) (n k i : Nat) : Nat :=
  canBase n + 0x1000 + 16 * s.get (F.CB_CAN_QCFG_BASE n k) + i * (16 + s.qDsz n k)

/-- The index fields of a queue: GET, and PUT in the same bits for both kinds, and DONE of a transmit queue. -/
def fGet (n k : Nat) : Fld := ⟨R.CB_CAN_QPTR n k, 29, 20⟩
def fPut (n k : Nat) : Fld := ⟨R.CB_CAN_QPTR n k, 19, 10⟩
def fDone (n k : Nat) : Fld := ⟨R.CB_CAN_QPTR n k, 9, 0⟩

/-- An index moves on by one. -/
def State.qStep (s : State) (n k : Nat) (f : Fld) : State := s.put f ((s.get f + 1) % s.qSlots n k)

/-- How many slots lie from one index up to another. -/
def ringDist (slots a b : Nat) : Nat := (b + slots - a % slots) % slots

/-! Frames in slots (R205, R208). -/

/-- The data bytes that a DLC means. -/
def dlcLen (fdf rtr : Bool) (dlc : Nat) : Nat :=
  if rtr then 0
  else if dlc ≤ 8 then dlc
  else if !fdf then 8
  else [12, 16, 20, 24, 32, 48, 64].getD (dlc - 9) 64

/-- The DLC whose length equals `len`. -/
def dlcOf (len : Nat) : Nat := ((List.range 16).find? fun d => dlcLen true false d == len).getD 15

def idWord (f : CanFrame) : Nat := f.ide.toNat * 2 ^ 31 + f.rtr.toNat * 2 ^ 30 + f.fdf.toNat * 2 ^ 29 + f.id % 2 ^ 29

/-- The frame in a slot: IDW, FMT and the data bytes that its DLC means. -/
def State.slotFrame (s : State) (a : Nat) : CanFrame :=
  let w := s.rdNum a 4
  let m := s.rdNum (a + 4) 1
  let fdf := w.testBit 29
  let rtr := w.testBit 30
  { ide := w.testBit 31, rtr := rtr, fdf := fdf, brs := m.testBit 7, esi := m.testBit 6, id := w % 2 ^ 29, dlc := m % 16,
    data := s.rdBytes (a + 16) (dlcLen fdf rtr (m % 16)) }

/-- A frame that cannot be sent as its slot stands (CSTAT 4). -/
def badFrame (f : CanFrame) (fdOn : Bool) (dsz : Nat) : Bool :=
  (f.fdf && !fdOn) || (f.fdf && f.rtr) || (f.brs && !f.fdf) || decide (dsz < dlcLen f.fdf f.rtr f.dlc) ||
    (!f.ide && f.id / 2 ^ 11 != 0)

/-! Completion of transmit slots (R207, R208). -/

/-- Count a completion of a host or firmware transmit queue, with its TAG and CSTAT. -/
def State.canDone (s : State) (n k cstat tag : Nat) : State :=
  s.modCan n fun c =>
    let old := match c.dones.find? fun (e : Nat × Nat × Nat × Nat) => e.1 == k with
      | some e => e.2.1
      | none => 0
    { c with dones := (k, (old + 1) % 2 ^ 32, tag, cstat) :: c.dones.filter fun (e : Nat × Nat × Nat × Nat) => e.1 != k }

/-- Complete the frame in slot DONE. -/
def State.canComplete (s : State) (n k cstat attempts ts : Nat) : State :=
  let a := s.slotAddr n k (s.get (fDone n k))
  let s := (s.wrNum (a + 5) 1 (min 15 attempts * 16 + cstat)).wrNum (a + 8) 8 ts
  let s := s.qStep n k (fDone n k)
  let s := s.modCan n fun c => { c with attempts := c.attempts.filter fun (e : Nat × Nat) => e.1 != k }
  let s := if cstat = 1 then s.satInc (F.CB_CAN_QCNT_LOST n k) else s
  if s.qOwner n k = 2 then s.put (fGet n k) (s.get (fDone n k))
  else
    let s := s.canDone n k cstat (s.rdNum (a + 6) 2)
    if s.bit (F.CB_CAN_QCFG_IE n k) then s.raise (P.CB_CAN n) 1 else s

/-- Attempts made for the head of a queue. -/
def State.canTries (s : State) (n k : Nat) : Nat :=
  match (s.canSt n).attempts.find? fun (e : Nat × Nat) => e.1 == k with
  | some e => e.2
  | none => 0

/-- Complete `m` waiting frames with one status, in order. -/
def State.canFlush (s : State) (n k cstat : Nat) : Nat → State
  | 0 => s
  | m + 1 => (s.canComplete n k cstat (s.canTries n k) 0).canFlush n k cstat m

/-- Frames that belong to the module. -/
def State.canWaiting (s : State) (n k : Nat) : Nat := ringDist (s.qSlots n k) (s.get (fDone n k)) (s.get (fPut n k))

/-- Complete every waiting frame of a transmit queue. -/
def State.canFlushAll (s : State) (n k cstat : Nat) : State := s.canFlush n k cstat (s.canWaiting n k)

/-- The enabled transmit queues. -/
def State.txQueues (s : State) (n : Nat) : List Nat := ((List.range 8).map (· + 8)).filter fun k => s.qEn n k

/-- Outside normal and loopback every waiting frame completes with CSTAT 3 (R200). -/
def State.canMuted (s : State) (n : Nat) : State :=
  if canSends (s.emode n) then s else (s.txQueues n).foldl (fun s k => s.canFlushAll n k 3) s

/-! Error state (R217). -/

/-- The error state that the counts give: 0 error-active, 1 error-passive, 2 bus-off. -/
def canErrState (tec rec : Nat) : Nat := if 255 < tec then 2 else if 127 < tec ∨ 127 < rec then 1 else 0

/-- The item of a channel in records, and its block. -/
def canSubj (n : Nat) : Nat := subject (n % 8 + 1) n

/-- A change of error state, with its counts and records. -/
def State.canStateChg (s : State) (n st : Nat) : State :=
  let tec := s.get (F.CB_CAN_STAT_TEC n)
  let rec' := s.get (F.CB_CAN_STAT_REC n)
  let s := (s.put (F.CB_CAN_STAT_STATE n) st).raise (P.CB_CAN n) 3
  let s := s.post (canIsland n * 256 + 0x13) 2 (canSubj n) (beBytes 1 st ++ beBytes 1 tec ++ beBytes 1 rec')
  if st = 1 then s.satInc (F.CB_CAN_ECNT_PASSIVE n)
  else if st = 2 then
    let s := ((s.raise (P.CB_CAN n) 4).satInc (F.CB_CAN_ECNT_BUSOFF n)).put (F.CB_CAN_STAT_ACT n) 0
    s.post (canIsland n * 256 + 0x10) 3 (canSubj n) (beBytes 1 tec ++ beBytes 1 rec')
  else s

/-- New error counts: they stand where EMODE freezes them (R197). -/
def State.canCounts (s : State) (n tec rec : Nat) : State :=
  if !canSends (s.emode n) then s
  else
    let old := s.get (F.CB_CAN_STAT_STATE n)
    let s := (s.put (F.CB_CAN_STAT_TEC n) (min 255 tec)).put (F.CB_CAN_STAT_REC n) (min 255 rec)
    let st := canErrState tec rec
    if st = old then s else s.canStateChg n st

/-- REC after a valid frame received, as the standard states: above 127 it becomes a value from 119 to 127. -/
def State.recDown (s : State) (n : Nat) : State :=
  let tec := s.get (F.CB_CAN_STAT_TEC n)
  let rec' := s.get (F.CB_CAN_STAT_REC n)
  if 127 < rec' then (s.canCounts n tec (119 + (s.free 8).toNat % 9)).used
  else s.canCounts n tec (rec' - 1)

/-! Storing received frames (R205, R206, R213, R214). -/

/-- Store a frame in a receive queue; `filt` is the byte FILT. -/
def State.canStore (s : State) (n k filt : Nat) (f : CanFrame) (ts : Nat) : State :=
  if !s.qEn n k then s
  else if (s.get (fPut n k) + 1) % s.qSlots n k = s.get (fGet n k) then
    let s := (s.satInc (F.CB_CAN_QCNT_LOST n k)).raise (P.CB_CAN n) 2
    s.modCan n fun c => { c with lostB := if c.lostB.contains k then c.lostB else k :: c.lostB }
  else
    let a := s.slotAddr n k (s.get (fPut n k))
    let dsz := s.qDsz n k
    let len := dlcLen f.fdf f.rtr f.dlc
    let lost := (s.canSt n).lostB.contains k
    let flags := (decide (dsz < len)).toNat * 128 + lost.toNat * 64
    let s := s.wrBytes a (beBytes 4 (idWord f) ++ beBytes 1 (f.brs.toNat * 128 + f.esi.toNat * 64 + f.dlc % 16) ++
      beBytes 1 len ++ beBytes 1 filt ++ beBytes 1 flags ++ beBytes 8 ts ++ bytesAt (f.data.take len) 0 dsz)
    let s := s.modCan n fun c => { c with lostB := c.lostB.filter (· != k) }
    let s := s.qStep n k (fPut n k)
    if s.qOwner n k ≤ 1 && s.bit (F.CB_CAN_QCFG_IE n k) then s.raise (P.CB_CAN n) 0 else s

/-- A frame matches filter entry `e` (R213). -/
def State.canMatches (s : State) (n e : Nat) (f : CanFrame) : Bool :=
  let a := canBase n + 16 * e
  let w := s.rdNum a 4
  let m := s.rdNum (a + 4) 4 % 2 ^ 29
  let fl := s.rdNum (a + 8) 1
  fl.testBit 7 && fl.testBit (if f.fdf then 4 else if f.rtr then 5 else 6) && w.testBit 31 == f.ide &&
    f.id % 2 ^ 29 &&& m == w % 2 ^ 29 &&& m

/-- The acceptance decision for a valid frame (R214); an entry of `ue` does not match (R203). -/
def State.canFilter (s : State) (n : Nat) (f : CanFrame) (ts : Nat) (ue : List Nat) : State :=
  let nf := min 128 (s.get (F.CB_CAN_FILT_NFILT n))
  match (List.range nf).find? fun e => !ue.contains e && s.canMatches n e f with
  | some e =>
    let a := canBase n + 16 * e
    let s := s.wrNum (a + 12) 4 (s.rdNum (a + 12) 4 + 1)
    if (s.rdByte (a + 8)).getLsbD 3 then s
    else
      let q1 := s.rdNum (a + 9) 1 % 8
      let q2 := s.rdNum (a + 10) 1
      let s := s.canStore n q1 e f ts
      if q2.testBit 7 && q2 % 8 != q1 then s.canStore n (q2 % 8) e f ts else s
  | none =>
    if s.bit (F.CB_CAN_FILT_NM_STORE n) then s.canStore n (s.get (F.CB_CAN_FILT_DEFQ n)) 128 f ts
    else s.satInc (F.CB_CAN_FCNT_NOMATCH n)


/-! The clash table (R220, R221). -/

def clashAddr (n e : Nat) : Nat := canBase n + 0x0800 + 16 * e

def State.clashUsed (s : State) (n : Nat) : Nat :=
  ((List.range 64).filter fun e => (s.rdByte (clashAddr n e)).getLsbD 6).length

/-- Message RAM has been written by a requester: CLASH_USED follows the table, and a free entry can reach CLASH_N anew. -/
def State.canRamWritten (s : State) (n : Nat) : State :=
  let s := s.put (F.CB_CAN_CCNT_CLASH_USED n) (s.clashUsed n)
  s.modCan n fun c => { c with clashed := c.clashed.filter fun e => (s.rdByte (clashAddr n e)).getLsbD 6 }

/-! The gateway's transmit queue (R216). -/

/-- The channel's one gateway-owned transmit queue. -/
def State.gwQueue (s : State) (n : Nat) : Option Nat := (s.txQueues n).find? fun k => s.qOwner n k == 2

/-- The waiting slots of a queue, head first, without one that is on the bus. -/
def State.canIdleSlots (s : State) (n k : Nat) : List Nat :=
  let onBus := match (s.canSt n).tx with
    | some t => t.queue == k
    | none => false
  ((List.range (s.canWaiting n k)).map fun j => (s.get (fDone n k) + j) % s.qSlots n k).drop onBus.toNat

/-- SGW submits a frame of a KIND 1 recipe to a channel (R216). -/
def State.canSubmit (s : State) (n tag : Nat) (f : CanFrame) : State :=
  match s.gwQueue n with
  | none =>
    let s := s.raise (P.CB_CAN n) 8
    match ((List.range 8).map (· + 8)).find? fun k => s.qOwner n k == 2 with
    | some k => s.satInc (F.CB_CAN_QCNT_LOST n k)
    | none => s
  | some k =>
    if s.qDsz n k < f.data.length then (s.raise (P.CB_CAN n) 8).satInc (F.CB_CAN_QCNT_LOST n k)
    else
      let bytes := beBytes 4 (idWord f) ++ beBytes 1 (f.brs.toNat * 128 + f.dlc % 16) ++ [0] ++ beBytes 2 tag ++ beBytes 8 0 ++
        bytesAt f.data 0 (s.qDsz n k)
      match (s.canIdleSlots n k).find? fun i =>
          s.rdNum (s.slotAddr n k i) 4 / 2 ^ 31 == f.ide.toNat && s.rdNum (s.slotAddr n k i) 4 % 2 ^ 29 == f.id % 2 ^ 29 with
      | some i => (s.wrBytes (s.slotAddr n k i) bytes).satInc (F.CB_CAN_QCNT_REPL n k)
      | none =>
        if (s.get (fPut n k) + 1) % s.qSlots n k = s.get (fGet n k) then s.satInc (F.CB_CAN_QCNT_LOST n k)
        else ((s.wrBytes (s.slotAddr n k (s.get (fPut n k))) bytes).qStep n k (fPut n k)).canMuted n

end Sys2Proof.Machine
end

