-- ==== Sys2Proof/Machine/Can.lean ====
section
/-!
DEFINITION. The commands of the car buses (chapter 08): starts and modes, frames, transmission, error confinement, queues, time master.
-/

namespace Sys2Proof.Machine

/-! Starting and modes (R194, R195, R198, R199). -/

/-- The held bit timing violates R195. -/
def canTimingBad (nbt dbt : Word) (fd : Bool) : Bool :=
  let n := nbt.toNat
  let d := dbt.toNat
  let apre := n / 2 ^ 24 + 1
  let asp := n / 2 ^ 16 % 256 + 2
  let aq := asp + n / 2 ^ 8 % 128 + 1
  let ajw := n % 128 + 1
  let fpre := d / 2 ^ 24 % 32 + 1
  let fsp := d / 2 ^ 16 % 32 + 2
  let fq := fsp + d / 2 ^ 8 % 16 + 1
  let fjw := d % 16 + 1
  decide (apre * aq < 80) || decide (aq < 8) || decide (asp < 3) || decide (aq - 1 < asp) || decide (aq - asp < ajw) ||
    (fd && (decide (fpre * fq < 10) || decide (apre * aq < fpre * fq) || decide (fq < 5) || decide (fsp < 2) ||
      decide (fq - 1 < fsp) || decide (fq - fsp < fjw)))

/-- EMODE changes (R199): MODE_CHG, and what follows from the mode. In sleep and stopped the engine does not run. -/
def State.canEnter (s : State) (n m : Nat) : State :=
  if s.emode n = m then s
  else
    let s := s.put (F.CB_CAN_MODE_EMODE n) m
    let s :=
      if 4 ≤ m then (s.modCan n fun c => { c with started := false }).put (F.CB_CAN_STAT_ACT n) 0
      else if s.get (F.CB_CAN_STAT_STATE n) = 3 then
        s.put (F.CB_CAN_STAT_STATE n) (canErrState (s.get (F.CB_CAN_STAT_TEC n)) (s.get (F.CB_CAN_STAT_REC n)))
      else s
    ((s.raise (P.CB_CAN n) 11).canMuted n).canFollow n

/-- A channel starts (R195): once EN is written 1 after 0, or on leaving stopped or sleep, with the XO qualified (R194). A refused
start leaves it stopped. -/
def State.canStart (s : State) (n : Nat) : State :=
  let want := s.canWant n
  if !s.isOn (canIsland n) || s.onIro || (s.canSt n).started || (s.canSt n).tx.isSome || want == 5 ||
      (want == 4 && s.emode n == 4) then s
  else
    let fd := s.bit (F.CB_CAN_MODE_FD_EN n)
    if canTimingBad (s.rd (R.CB_CAN_NBT n)) (s.rd (R.CB_CAN_DBT n)) fd then (s.canEnter n 5).raise (P.CB_CAN n) 8
    else
      let s := s.modCan n fun c =>
        { c with started := true, fdOn := fd, pxForm := s.bit (F.CB_CAN_MODE_PX_FORM n), nbt := s.rd (R.CB_CAN_NBT n),
                 dbt := s.rd (R.CB_CAN_DBT n), ssp := s.rd (R.CB_CAN_SSP n), unacked := 0 }
      if s.get (F.CB_CAN_STAT_STATE n) = 2 then s else s.put (F.CB_CAN_STAT_STATE n) 3

/-- A channel takes its new effective mode at an idle moment, after integration (R199). It leaves stopped and sleep by a start. -/
def State.canModeChg (s : State) (n : Nat) : State :=
  let m := s.canWant n
  if !s.isOn (canIsland n) || (s.canSt n).tx.isSome || (m != 5 && !(s.canSt n).started) then s else s.canEnter n m

/-- A carried write of MODE. -/
def State.canModeWrite (s : State) (q : Requester) (n : Nat) (v : Word) : State := s.storePlain q (R.CB_CAN_MODE n) v

/-! Receiving. -/

/-- A valid frame has been received: LONE clears (R219). -/
def State.canHeard (s : State) (n : Nat) : State :=
  (s.modCan n fun c => { c with unacked := 0 }).putB (F.CB_CAN_STAT_LONE n) false

/-- Integration has ended (R194, R197): the error state follows from the counts again. -/
def State.canIntegrated (s : State) (n : Nat) : State :=
  if s.get (F.CB_CAN_STAT_STATE n) = 3 then
    s.put (F.CB_CAN_STAT_STATE n) (canErrState (s.get (F.CB_CAN_STAT_TEC n)) (s.get (F.CB_CAN_STAT_REC n)))
  else s

/-- A frame becomes valid at the channel, `ago` ns after the sample point of its SOF (R205, R214). Normal and restricted acknowledge
it (R197). BRS and ESI are those of an FD frame. -/
def State.canFrameRx (s : State) (n : Nat) (f : CanFrame) (ago : Nat) (ue : List Nat) : State :=
  if !s.isOn (canIsland n) || decide (2 < s.emode n) || s.get (F.CB_CAN_STAT_STATE n) == 2 || (s.canSt n).tx.isSome ||
      (f.fdf && !(s.canSt n).fdOn) then s
  else
    let s := (((s.canIntegrated n).wrapInc (F.CB_CAN_RXCNT_FRAMES n)).canHeard n).recDown n
    let s := if s.emode n ≤ 1 then s.emit (.canAck n) else s
    let f := { f with brs := f.fdf && f.brs, esi := f.fdf && f.esi }
    (s.put (F.CB_CAN_STAT_ACT n) 0).canFilter n f (s.canStamp - ago) ue

/-- Note the last error in AERR or FERR. -/
def State.canErrCode (s : State) (n kind : Nat) (dataPhase : Bool) : State :=
  s.put (if dataPhase then F.CB_CAN_STAT_FERR n else F.CB_CAN_STAT_AERR n) kind

/-- An error flag: sent in normal only; in loopback TXD stays recessive (R197). -/
def State.canErrFlag (s : State) (n : Nat) : State :=
  if s.emode n = 0 then s.emit (.canFlag n (s.get (F.CB_CAN_STAT_STATE n) == 0)) else s

/-- An error, an overload condition (kind 0) or a protocol exception while receiving (R194, R217). `exempt`: an error that the standard
does not count by one. A protocol exception, and an error in restricted operation, let the channel wait for bus integration (R197). -/
def State.canRxError (s : State) (n kind : Nat) (dataPhase px exempt : Bool) (more : Nat) : State :=
  if !s.isOn (canIsland n) || decide (2 < s.emode n) || decide (2 ≤ s.get (F.CB_CAN_STAT_STATE n)) || (s.canSt n).tx.isSome then s
  else if px && !(s.canSt n).pxForm then ((s.satInc (F.CB_CAN_FCNT_PX n)).raise (P.CB_CAN n) 10).put (F.CB_CAN_STAT_STATE n) 3
  else if !px && kind == 0 then if s.emode n = 0 then s.emit (.canOverload n) else s
  else
    let s := if s.emode n = 1 then s.put (F.CB_CAN_STAT_STATE n) 3 else s
    let s := (s.canErrCode n (if px then 4 else kind) dataPhase).canErrFlag n
    (s.put (F.CB_CAN_STAT_ACT n) 0).canCounts n (s.get (F.CB_CAN_STAT_TEC n))
      (s.get (F.CB_CAN_STAT_REC n) + (!exempt).toNat + 8 * more)

/-! Time master (R222, R223). -/

/-- The basic cycle in µs, Cycle_Count's width, NTU in 1.6 ns and the offset in µs. -/
def State.tmPeriod (s : State) (n : Nat) : Nat := max 100 (s.get (F.CB_CTRL_TM_SCHED_PERIOD n))
def State.tmCyc (s : State) (n : Nat) : Nat := min 6 (s.get (F.CB_CTRL_TM_SCHED_CYC n))
def State.tmNtu (s : State) (n : Nat) : Nat := max 1 (s.get (F.CB_CTRL_TM_PH_NTU n))
def State.tmPhase (s : State) (n : Nat) : Nat :=
  let p := s.get (F.CB_CTRL_TM_PH_PHASE n)
  if s.tmPeriod n ≤ p then 0 else p

/-- A reference message falls due, in normal (R222); one that has not started by then is dropped as late, in any mode. -/
def State.refDue (s : State) (n : Nat) : State :=
  if !s.isOn (canIsland n) || !s.bit (F.CB_CTRL_TM_CFG_EN n) then s
  else
    let k := (s.trainNs / 1000 - s.tmPhase n) / s.tmPeriod n
    let late := ((s.canSt n).refs.filter fun (e : Nat × Bool) => !e.2).length
    let due := if s.tmSends n then [(k, false)] else []
    let s := s.modCan n fun c => { c with refs := (c.refs.filter fun (e : Nat × Bool) => e.2) ++ due }
    if late = 0 then s else (s.satAdd (F.CB_CTRL_TM_STAT_LATE n) late).raise (P.CB_CAN n) 9

/-- Reference message k with its SOF now. The bytes after Cycle_Count lie as ISO 11898-4 has them (log entry 12). -/
def State.refFrame (s : State) (n k : Nat) : CanFrame :=
  let mark := (if s.timOn then s.tim.tt * 5 / (8 * nsUnit * s.tmNtu n) else 0) % 65536
  let cc := beBytes 1 (k % 2 ^ s.tmCyc n)
  let l2 := s.bit (F.CB_CTRL_TM_CFG_L2 n)
  { ide := s.bit (F.CB_CTRL_TM_CFG_IDE n), rtr := false, fdf := false, brs := false, esi := false,
    id := s.get (F.CB_CTRL_TM_CFG_REFID n), dlc := if l2 then 4 else 1,
    data := if l2 then cc ++ beBytes 1 (s.canSt n).refFirst.toNat ++ beBytes 1 mark ++ beBytes 1 (mark / 256) else cc }

/-- A lockable write of a channel's TM_CFG: EN written 1 after 0 starts with Disc_Bit 1. -/
def State.tmCfgWrite (s : State) (q : Requester) (n : Nat) (v : Word) : State :=
  s.locked q (R.CB_CTRL_TM_CFG n) fun s =>
    let was := s.bit (F.CB_CTRL_TM_CFG_EN n)
    let s := s.wr (R.CB_CTRL_TM_CFG n) v
    let on := s.bit (F.CB_CTRL_TM_CFG_EN n)
    (s.modCan n fun c => { c with refFirst := if on && !was then true else c.refFirst,
                                  refs := if on then c.refs else [] }).canFollow n

/-! Transmitting (R208, R211, R218). -/

/-- What a frame's arbitration field is worth; the lower wins. -/
def arbKey (f : CanFrame) : Nat :=
  if f.ide then f.id % 2 ^ 29 / 2 ^ 18 * 2 ^ 21 + 2 ^ 20 + 2 ^ 19 + f.id % 2 ^ 18 * 2 + f.rtr.toNat
  else f.id % 2 ^ 11 * 2 ^ 21 + f.rtr.toNat * 2 ^ 20

/-- The frame at the head of a transmit queue. -/
def State.canHead (s : State) (n k : Nat) : Option CanFrame :=
  if s.canWaiting n k = 0 then none else some (s.slotFrame (s.slotAddr n k (s.get (fDone n k))))

/-- Complete heads that cannot be sent as they stand (CSTAT 4), at most `m`. -/
def State.canDropBad (s : State) (n k : Nat) : Nat → State
  | 0 => s
  | m + 1 =>
    match s.canHead n k with
    | some f => if badFrame f (s.canSt n).fdOn (s.qDsz n k) then (s.canComplete n k 4 (s.canTries n k) 0).canDropBad n k m else s
    | none => s

/-- Read the head of a queue: one with an uncorrected error completes with CSTAT 5 (R203). -/
def State.canReadHead (s : State) (n : Nat) (ue : List Nat) (k : Nat) : State :=
  let s := if ue.contains k ∧ 0 < s.canWaiting n k then s.canComplete n k 5 (s.canTries n k) 0 else s
  s.canDropBad n k (s.canWaiting n k)

/-- The queue whose head wins arbitration among the channel's own; the lower number on a tie. -/
def State.canChoice (s : State) (n : Nat) : Option (Nat × CanFrame) :=
  (s.txQueues n).foldl (fun (b : Option (Nat × CanFrame)) k =>
    match s.canHead n k, b with
    | some f, some c => if arbKey f < arbKey c.2 then some (k, f) else b
    | some f, none => some (k, f)
    | none, _ => b) none

/-- The channel puts a frame on its bus. -/
def State.canOffer (s : State) (n k : Nat) (f : CanFrame) : State :=
  let f := { f with esi := f.fdf && s.get (F.CB_CAN_STAT_STATE n) == 1 }
  let s := s.modCan n fun c => { c with tx := some ⟨k, f, if k < 16 then s.get (F.CB_CAN_QCFG_RETRY n k) else 0, s.canStamp⟩ }
  let s := s.put (F.CB_CAN_STAT_ACT n) 2
  if s.emode n = 0 then s.emit (.can n f) else s

/-- Arbitration starts (R211): a due reference message, or the best head. -/
def State.canAttempt (s : State) (n : Nat) (ue : List Nat) : State :=
  if !s.isOn (canIsland n) || !canSends (s.emode n) || s.get (F.CB_CAN_STAT_STATE n) == 2 || (s.canSt n).tx.isSome then s
  else
    let s := s.canIntegrated n
    match s.tmSends n, (s.canSt n).refs with
    | true, e :: _ =>
      (s.canOffer n 16 (s.refFrame n e.1)).modCan n fun c =>
        { c with refs := match c.refs with
          | r :: rs => (r.1, true) :: rs
          | [] => [] }
    | _, _ =>
      let s := (s.txQueues n).foldl (fun s k => s.canReadHead n ue k) s
      match s.canChoice n with
      | some (k, f) => s.canOffer n k f
      | none => s

/-- The attempts that RETRY allows (R218); none: unlimited. -/
def retryLimit (r : Nat) : Option Nat := if r = 0 then none else some (2 ^ (min 7 r - 1))

/-- A clash in the frame that the channel transmits (R220): the entry that holds the identifier, or else the first free one. -/
def State.clash (s : State) (n : Nat) (f : CanFrame) (field : Nat) : State :=
  let cid := f.ide.toNat * 2 ^ 31 + 2 ^ 30 + f.fdf.toNat * 2 ^ 29 + f.id % 2 ^ 29
  let holds := fun e => (s.rdByte (clashAddr n e)).getLsbD 6 && s.rdNum (clashAddr n e) 4 / 2 ^ 31 == f.ide.toNat &&
    s.rdNum (clashAddr n e) 4 % 2 ^ 29 == f.id % 2 ^ 29
  let free := fun e => !(s.rdByte (clashAddr n e)).getLsbD 6
  match ((List.range 64).find? holds).orElse fun _ => (List.range 64).find? free with
  | none => s.satInc (F.CB_CAN_CCNT_CLASH_LOST n)
  | some e =>
    let a := clashAddr n e
    let count := if holds e then min 65535 (s.rdNum (a + 4) 2 + 1) else 1
    let s := ((((s.wrNum a 4 cid).wrNum (a + 4) 2 count).wrNum (a + 6) 1 field).wrNum (a + 7) 1 0).wrNum (a + 8) 8 s.mono
    let s := s.put (F.CB_CAN_CCNT_CLASH_USED n) (s.clashUsed n)
    if s.get (F.CB_CAN_ERRCFG_CLASH_N n) ≤ count ∧ !(s.canSt n).clashed.contains e then
      let s := (s.modCan n fun c => { c with clashed := e :: c.clashed }).raise (P.CB_CAN n) 6
      s.post (canIsland n * 256 + 0x12) 3 (canSubj n) (beBytes 4 cid ++ beBytes 2 count ++ beBytes 1 field)
    else s

/-- An attempt ended in an acknowledgement error: a lone node after LONE_N of them (R219). -/
def State.canUnacked (s : State) (n : Nat) : State :=
  let s := (s.satInc (F.CB_CAN_ECNT_ACKERR n)).modCan n fun c => { c with unacked := c.unacked + 1 }
  if max 2 (s.get (F.CB_CAN_ERRCFG_LONE_N n)) ≤ (s.canSt n).unacked ∧ s.get (F.CB_CAN_STAT_LONE n) = 0 then
    let s := ((s.putB (F.CB_CAN_STAT_LONE n) true).raise (P.CB_CAN n) 5).satInc (F.CB_CAN_CCNT_LONE_CNT n)
    s.post (canIsland n * 256 + 0x11) 3 (canSubj n) (beBytes 1 (s.get (F.CB_CAN_CCNT_LONE_CNT n)))
  else s

/-- The queue is withdrawn: its indexes read 0 (R210). -/
def State.qWithdraw (s : State) (n k : Nat) : State :=
  (s.wr (R.CB_CAN_QPTR n k) 0).modCan n fun c =>
    { c with attempts := c.attempts.filter fun (e : Nat × Nat) => e.1 != k,
             aborts := c.aborts.filter fun (e : Nat × Nat) => e.1 != k,
             withdraw := c.withdraw.filter (· != k), lostB := c.lostB.filter (· != k) }

/-- After the frame on the bus: the rest of an abort (R212), and a withdrawal (R210). -/
def State.canAfter (s : State) (n k : Nat) : State :=
  let s := match (s.canSt n).aborts.find? fun (e : Nat × Nat) => e.1 == k with
    | some e =>
      let s := s.modCan n fun c => { c with aborts := c.aborts.filter fun (e : Nat × Nat) => e.1 != k }
      s.canFlush n k 2 (min (s.canWaiting n k) (ringDist (s.qSlots n k) (s.get (fDone n k)) e.2))
    | none => s
  if (s.canSt n).withdraw.contains k then s.qWithdraw n k else s

/-- A frame of a queue was sent; in loopback it is filtered as a received one. -/
def State.canSent (s : State) (n : Nat) (t : CanTx) (ue : List Nat) : State :=
  let s := (s.wrapInc (F.CB_CAN_TXCNT_FRAMES n)).canHeard n
  let s := s.canCounts n (s.get (F.CB_CAN_STAT_TEC n) - 1) (s.get (F.CB_CAN_STAT_REC n))
  let s := if s.emode n = 3 then (s.wrapInc (F.CB_CAN_RXCNT_FRAMES n)).canFilter n t.frame t.at' ue else s
  if t.queue = 16 then
    let s := match (s.canSt n).refs with
      | e :: _ => s.put (F.CB_CTRL_TM_STAT_CC n) (e.1 % 2 ^ s.tmCyc n)
      | [] => s
    s.modCan n fun c => { c with refs := c.refs.drop 1, refFirst := false }
  else if t.queue = 17 then s
  else (s.canComplete n t.queue 0 (s.canTries n t.queue + 1) t.at').canAfter n t.queue

/-- An attempt failed with an error: the head completes at its limit or when aborted, and is retried otherwise. -/
def State.canFailed (s : State) (n : Nat) (t : CanTx) (kind : Nat) (dataPhase : Bool) (field : Option Nat) (exempt : Bool)
    (more : Nat) : State :=
  let s := (s.canErrCode n kind dataPhase).canErrFlag n
  let s := if kind = 6 then s.canUnacked n else s.modCan n fun c => { c with unacked := 0 }
  let s := match field with
    | some w =>
      if (kind = 1 ∨ kind = 2) ∧ s.emode n = 0 ∧ s.get (F.CB_CAN_ERRCFG_CLASH_N n) ≠ 0 then s.clash n t.frame (w % 4) else s
    | none => s
  let s := s.canCounts n (s.get (F.CB_CAN_STAT_TEC n) + 8 * ((!exempt).toNat + more)) (s.get (F.CB_CAN_STAT_REC n))
  if 16 ≤ t.queue then s
  else
    let k := t.queue
    let tries := s.canTries n k + 1
    let s := s.modCan n fun c => { c with attempts := (k, tries) :: c.attempts.filter fun (e : Nat × Nat) => e.1 != k }
    let atLimit := match retryLimit t.retry with
      | some l => decide (l ≤ tries)
      | none => false
    let aborted := (s.canSt n).aborts.any fun (e : Nat × Nat) => e.1 == k
    let s := if atLimit then s.canComplete n k 1 tries 0
      else if aborted then s.canComplete n k 2 tries 0
      else s
    s.canAfter n k

/-- Lost arbitration is no failed attempt; an aborted frame is not retried (R212). -/
def State.canLost (s : State) (n k : Nat) : State :=
  let s := if (s.canSt n).aborts.any fun (e : Nat × Nat) => e.1 == k then s.canComplete n k 2 (s.canTries n k) 0 else s
  s.canAfter n k

/-- The loop delay that an attempt measures (R196): of frames with BRS, while SSP_EN was held 1 at the start. -/
def State.canLoop (s : State) (n : Nat) (t : CanTx) (loop : Option Nat) : Option Nat :=
  if (s.canSt n).ssp.getLsbD 31 && t.frame.fdf && t.frame.brs then loop else none

/-- LOOP shows a loop delay that was measured. -/
def State.canShowLoop (s : State) (n : Nat) : Option Nat → State
  | some l => s.put (F.CB_CAN_SSP_LOOP n) (min 255 l)
  | none => s

/-- A transmission attempt ends. A measured loop delay above 255 periods saturates and ends the frame with a bit error (R196). -/
def State.canTxEnd (s : State) (n : Nat) (e : CanTxEnd) (loop : Option Nat) (ue : List Nat) : State :=
  match (s.canSt n).tx with
  | none => s
  | some t =>
    let s := (s.modCan n fun c => { c with tx := none }).put (F.CB_CAN_STAT_ACT n) 0
    match e with
    | .lost => if t.queue < 16 then s.canLost n t.queue else s
    | .sent =>
      let s := s.canShowLoop n (s.canLoop n t loop)
      if 255 < (s.canLoop n t loop).getD 0 then s.canFailed n t 2 true (some 0) false 0 else s.canSent n t ue
    | .error kind dataPhase field exempt more =>
      let s := s.canShowLoop n (s.canLoop n t loop)
      if 255 < (s.canLoop n t loop).getD 0 then s.canFailed n t 2 true (some 0) false 0
      else s.canFailed n t kind dataPhase field exempt more

/-! Bus-off (R217). -/

/-- Recovery starts, in every mode in which the engine runs: ACT 3. -/
def State.canRecover (s : State) (n : Nat) : State :=
  if s.get (F.CB_CAN_STAT_STATE n) = 2 ∧ s.emode n ≤ 3 then s.put (F.CB_CAN_STAT_ACT n) 3 else s

/-- The hold after bus-off ends: recovery starts by itself with BOFF_AUTO. -/
def State.canHoldEnd (s : State) (n : Nat) : State :=
  if s.isOn (canIsland n) && s.bit (F.CB_CAN_ERRCFG_BOFF_AUTO n) then s.canRecover n else s

/-- The recovery sequence completes: error-active, with both counts 0 as the standard states. Only errors and frames are frozen out of
the counts (R197); recovery sets them in every mode (log entry 88). -/
def State.canRecovered (s : State) (n : Nat) : State :=
  if s.get (F.CB_CAN_STAT_STATE n) = 2 ∧ s.get (F.CB_CAN_STAT_ACT n) = 3 then
    ((s.put (F.CB_CAN_STAT_ACT n) 0).put (F.CB_CAN_STAT_TEC n) 0).put (F.CB_CAN_STAT_REC n) 0 |>.canStateChg n 0
  else s

/-! Writes of queue registers and CMD. -/

/-- ABORT of one transmit queue (R212). -/
def State.canAbort (s : State) (n k : Nat) : State :=
  if !s.qEn n k || s.qOwner n k == 2 then s
  else match (s.canSt n).tx with
    | some t =>
      if t.queue = k then s.modCan n fun c =>
        { c with aborts := (k, s.get (fPut n k)) :: c.aborts.filter fun (e : Nat × Nat) => e.1 != k }
      else s.canFlushAll n k 2
    | none => s.canFlushAll n k 2

/-- A carried write of CMD. -/
def State.canCmd (s : State) (n : Nat) (v : Word) : State :=
  let s := ((List.range 8).filter fun t => v.getLsbD (8 + t)).foldl (fun s t => s.canAbort n (8 + t)) s
  if v.getLsbD 16 then s.canRecover n else s

/-- Two byte ranges of the queue area overlap. -/
def ringsOverlap (a la b lb : Nat) : Bool := decide (a < b + lb) && decide (b < a + la)

/-- Start and length of the ring that a configuration word describes. -/
def ringOf (w : Word) : Nat × Nat :=
  (16 * (w.toNat % 4096), nslotOf (w.toNat / 2 ^ 12 % 1024) * (16 + dszOf (w.toNat / 2 ^ 26 % 4)))

/-- An enable that R210 refuses. -/
def State.qEnableBad (s : State) (n k : Nat) (v : Word) : Bool :=
  let r := ringOf v
  let owner := v.toNat / 2 ^ 28 % 4
  let others := (List.range 16).filter fun j => j != k && s.qEn n j
  decide (61440 < r.1 + r.2) || owner == 3 ||
    others.any (fun j => let o := ringOf (s.rd (R.CB_CAN_QCFG n j)); ringsOverlap r.1 r.2 o.1 o.2) ||
    (decide (8 ≤ k) && owner == 2 && others.any fun j => decide (8 ≤ j) && s.qOwner n j == 2)

/-- A carried write of a queue's configuration (R210). -/
def State.qcfgWrite (s : State) (q : Requester) (n k : Nat) (v : Word) : State :=
  s.locked q (R.CB_CAN_QCFG n k) fun s =>
    let old := s.rd (R.CB_CAN_QCFG n k)
    let shape := 0x3C3FFFFF#32
    if s.qEn n k then
      if old &&& shape ≠ v &&& shape then s.raise (P.CB_CAN n) 8
      else
        let s := s.wr (R.CB_CAN_QCFG n k) v
        if v.getLsbD 31 then s
        else if ((s.canSt n).tx.map (·.queue)) = some k then s.modCan n fun c => { c with withdraw := k :: c.withdraw }
        else s.qWithdraw n k
    else if v.getLsbD 31 then
      if s.qEnableBad n k v then (s.wr (R.CB_CAN_QCFG n k) (v &&& 0x7FFFFFFF)).raise (P.CB_CAN n) 8
      else
        let s := (s.wr (R.CB_CAN_QCFG n k) v).qWithdraw n k
        s.modCan n fun c =>
          { c with tx := c.tx.map fun t => if t.queue = k then { t with queue := 17 } else t }
    else s.wr (R.CB_CAN_QCFG n k) v

/-- The owner of a queue accepts index writes from a requester (R204). -/
def ownerTakes (owner : Nat) (q : Requester) : Bool :=
  match owner with
  | 0 => q != .firmware
  | 1 => q == .firmware
  | _ => false

/-- A carried write of a queue's index register (R204, R209). Slots that the new GET frees count as free for the new PUT. -/
def State.qptrWrite (s : State) (q : Requester) (n k : Nat) (v : Word) : State :=
  let slots := s.qSlots n k
  let get := s.get (fGet n k)
  let put := s.get (fPut n k)
  let get' := v.toNat / 2 ^ 20 % 1024
  let put' := v.toNat / 2 ^ 10 % 1024
  let bad := s.raise (P.CB_CAN n) 7
  if !ownerTakes (s.qOwner n k) q || !s.qEn n k then bad
  else if k < 8 then
    if slots ≤ get' ∨ ringDist slots get put < ringDist slots get get' then bad else s.put (fGet n k) get'
  else
    if slots ≤ get' ∨ slots ≤ put' ∨ ringDist slots get (s.get (fDone n k)) < ringDist slots get get' ∨
        slots - 1 - ringDist slots get' put < ringDist slots put put' then bad
    else ((s.put (fGet n k) get').put (fPut n k) put').canMuted n

/-! MDATA (R202). -/

/-- The byte address that MSEL selects. -/
def State.mdataAddr (s : State) (h : Nat) : Nat :=
  canBase (8 * h + s.get (F.CB_CTRL_MSEL_CHAN h)) + 8 * s.get (F.CB_CTRL_MSEL_WORD h)

/-- AINC after an access to MDATA_LO. -/
def State.mdataNext (s : State) (h : Nat) : State :=
  if s.bit (F.CB_CTRL_MSEL_AINC h) then s.put (F.CB_CTRL_MSEL_WORD h) ((s.get (F.CB_CTRL_MSEL_WORD h) + 1) % 8192) else s

/-- A write of MDATA_LO with the high word held. -/
def State.mdataWrite (s : State) (h : Nat) (hi lo : Word) : State :=
  let n := 8 * h + s.get (F.CB_CTRL_MSEL_CHAN h)
  ((s.wrBytes (s.mdataAddr h) (beBytes 4 hi.toNat ++ beBytes 4 lo.toNat)).canRamWritten n).mdataNext h

/-- The word that MSEL selects has an uncorrected error: ECC_UE of the half (R203). What a read of it gives is not stated. -/
def State.mdataUe (s : State) (q : Requester) (h : Nat) : Word × State :=
  (s.free 32, ((s.used.raise (P.CB_CTRL h) 28).setLatch q (P.CB_CTRL h) (some ⟨R.CB_CTRL_MDATA_HI h, s.used.free 32⟩)).used.mdataNext h)

/-- A read of MDATA_LO, which latches the high word. -/
def State.mdataRead (s : State) (q : Requester) (h : Nat) : Word × State :=
  let a := s.mdataAddr h
  let hi := BitVec.ofNat 32 (s.rdNum a 4)
  (BitVec.ofNat 32 (s.rdNum (a + 4) 4),
   (s.setLatch q (P.CB_CTRL h) (some ⟨R.CB_CTRL_MDATA_HI h, hi⟩)).mdataNext h)

/-- A read of MDATA_HI: the latched word, or else the current one. -/
def State.mdataReadHi (s : State) (q : Requester) (h : Nat) : Word × State :=
  match s.latched q (P.CB_CTRL h) with
  | some p =>
    if p.off = R.CB_CTRL_MDATA_HI h then (p.word, s.setLatch q (P.CB_CTRL h) none)
    else (BitVec.ofNat 32 (s.rdNum (s.mdataAddr h) 4), s)
  | none => (BitVec.ofNat 32 (s.rdNum (s.mdataAddr h) 4), s)

/-- An access to the pair MDATA. -/
def State.mdataAccess (s : State) (q : Requester) (h : Nat) (write : Bool) (hi lo : Word) (ue : Bool) : State :=
  if write then
    s.carryPair q (R.CB_CTRL_MDATA_HI h) (R.CB_CTRL_MDATA_LO h) hi lo fun s => s.mdataWrite h hi lo
  else
    (s.carryRead q (R.CB_CTRL_MDATA_LO h) fun s => if ue then s.mdataUe q h else s.mdataRead q h).carryRead q (R.CB_CTRL_MDATA_HI h) fun s => s.mdataReadHi q h

/-! The commands. Channel numbers count modulo 16, queues modulo 16. -/

def execChannelStart (n : Nat) (s : State) : Host.Outcome State Fault Refusal := .next (s.canStart (n % 16))

/-- MODE_WRITE (R198): a write of a channel's MODE register. -/
def execModeWrite (q : Requester) (n : Nat) (v : Word) (s : State) : Host.Outcome State Fault Refusal :=
  .next (s.carry q (R.CB_CAN_MODE (n % 16)) v fun s => s.canModeWrite q (n % 16) v)

def execModeChg (n : Nat) (s : State) : Host.Outcome State Fault Refusal := .next (s.canModeChg (n % 16))

def execCanFrameRx (n : Nat) (f : CanFrame) (ago : Nat) (ue : List Nat) (s : State) : Host.Outcome State Fault Refusal :=
  .next (s.canFrameRx (n % 16) f ago ue)

def execCanTxAttempt (n : Nat) (ue : List Nat) (s : State) : Host.Outcome State Fault Refusal := .next (s.canAttempt (n % 16) ue)

def execCanTxEnd (n : Nat) (e : CanTxReport) (s : State) : Host.Outcome State Fault Refusal :=
  .next (s.canTxEnd (n % 16) e.how e.loop e.ue)

def execCanRxError (n kind : Nat) (dataPhase px exempt : Bool) (more : Nat) (s : State) : Host.Outcome State Fault Refusal :=
  .next (s.canRxError (n % 16) kind dataPhase px exempt more)

def execBusoffHoldEnd (n : Nat) (s : State) : Host.Outcome State Fault Refusal := .next (s.canHoldEnd (n % 16))

/-- RECOVER (R217): a write of a channel's CMD register. -/
def execRecover (q : Requester) (n : Nat) (v : Word) (s : State) : Host.Outcome State Fault Refusal :=
  .next (s.carry q (R.CB_CAN_CMD (n % 16)) v fun s => s.canCmd (n % 16) v)

def execBusoffRecovered (n : Nat) (s : State) : Host.Outcome State Fault Refusal := .next (s.canRecovered (n % 16))

/-- QUEUE_CONFIG_WRITE (R210). -/
def execQueueConfigWrite (q : Requester) (n k : Nat) (v : Word) (s : State) : Host.Outcome State Fault Refusal :=
  .next (s.carry q (R.CB_CAN_QCFG (n % 16) (k % 16)) v fun s => s.qcfgWrite q (n % 16) (k % 16) v)

/-- QUEUE_POINTER_WRITE (R209). -/
def execQueuePointerWrite (q : Requester) (n k : Nat) (v : Word) (s : State) : Host.Outcome State Fault Refusal :=
  .next (s.carry q (R.CB_CAN_QPTR (n % 16) (k % 16)) v fun s => s.qptrWrite q (n % 16) (k % 16) v)

/-- ABORT (R212): a write of a channel's CMD register. -/
def execAbort (q : Requester) (n : Nat) (v : Word) (s : State) : Host.Outcome State Fault Refusal :=
  .next (s.carry q (R.CB_CAN_CMD (n % 16)) v fun s => s.canCmd (n % 16) v)

def execReferenceMessageDue (n : Nat) (s : State) : Host.Outcome State Fault Refusal := .next (s.refDue (n % 16))

def execMdataAccess (q : Requester) (h : Nat) (a : RamAccess) (hi lo : Word) (s : State) :
    Host.Outcome State Fault Refusal :=
  .next (s.mdataAccess q (h % 2) a.write hi lo a.ue)

end Sys2Proof.Machine
end

