-- ==== Sys2Proof/Machine/Crypto.lean ====
section
/-!
DEFINITION. SHA-256 (FIPS 180-4) and the check of an ECDSA P-256 signature (FIPS 186-4), which R372 and R373 name (log entry 40).
-/

namespace Sys2Proof.Machine

/-! SHA-256. Its constants are the fractional parts of roots of primes, in units of 2^-32, as FIPS 180-4 defines them. -/

/-- The primes below `n`, in order. -/
def primesBelow (n : Nat) : List Nat :=
  ((List.range n).drop 2).foldl (fun ps k => if ps.all fun p => k % p != 0 then ps ++ [k] else ps) []

/-- The greatest number of at most `bits` bits, above `r`, whose `k`-th power is at most `n`. -/
def rootFrom (k n : Nat) : Nat → Nat → Nat
  | 0, r => r
  | bits + 1, r => rootFrom k n bits (if (r + 2 ^ bits) ^ k ≤ n then r + 2 ^ bits else r)

/-- The first 32 bits of the fractional part of the `k`-th root of `p`. -/
def rootBits (k p : Nat) : Word := BitVec.ofNat 32 (rootFrom k (p * 2 ^ (32 * k)) 40 0)

/-- The hash value of the empty prefix: the square roots of the first eight primes, side by side. -/
def shaStart : BitVec 256 := (primesBelow 20).foldl (fun v p => (v <<< 32) ||| (rootBits 2 p).zeroExtend 256) 0

/-- A word of a value, counted from its right end. -/
def lane {w : Nat} (v : BitVec w) (k : Nat) : Word := v.extractLsb' (32 * k) 32

/-- The exclusive or of three rotations. -/
def rot3 (x : Word) (i j k : Nat) : Word := x.rotateRight i ^^^ x.rotateRight j ^^^ x.rotateRight k

/-- What a round is at: the working value, and a window of sixteen words of the message schedule, the next one leftmost. -/
structure ShaRun where
  work : BitVec 256
  window : BitVec 512

/-- One round with the constant of the prime `p`: the working value moves on by a word, and the window takes in its next word. -/
def shaRound (r : ShaRun) (p : Nat) : ShaRun :=
  let x := lane r.work
  let m := lane r.window
  let t := x 0 + rot3 (x 3) 6 11 25 + (x 1 ^^^ (x 3 &&& (x 2 ^^^ x 1))) + rootBits 3 p + m 15
  let u := rot3 (x 7) 2 13 22 + ((x 7 &&& (x 6 ||| x 5)) ||| (x 6 &&& x 5))
  let s0 := (m 14).rotateRight 7 ^^^ (m 14).rotateRight 18 ^^^ (m 14 >>> 3)
  let s1 := (m 1).rotateRight 17 ^^^ (m 1).rotateRight 19 ^^^ (m 1 >>> 10)
  ⟨(t + u) ++ lane r.work 7 ++ lane r.work 6 ++ lane r.work 5 ++ (x 4 + t) ++ lane r.work 3 ++ lane r.work 2 ++ lane r.work 1,
    (r.window <<< 32) ||| (m 15 + s0 + m 6 + s1).zeroExtend 512⟩

/-- Two values added word by word. -/
def addLanes (a b : BitVec 256) : BitVec 256 :=
  [7, 6, 5, 4, 3, 2, 1, 0].foldl (fun v k => (v <<< 32) ||| (lane a k + lane b k).zeroExtend 256) 0

/-- One block of 64 bytes: a round for each of the first 64 primes. -/
def shaBlock (h : BitVec 256) (block : List Byte) : BitVec 256 :=
  addLanes h ((primesBelow 312).foldl shaRound ⟨h, BitVec.ofNat 512 (ofBytes (bytesAt block 0 64))⟩).work

/-- The blocks of a padded message, one after the other. -/
def shaBlocks : Nat → BitVec 256 → List Byte → BitVec 256
  | 0, h, _ => h
  | n + 1, h, m => shaBlocks n (shaBlock h m) (m.drop 64)

/-- SHA-256 of a message: 32 bytes. The padding is a byte 0x80, zeros to the last eight bytes of a block, and the length in bits. -/
def sha256 (m : List Byte) : List Byte :=
  let blocks := (m.length + 9 + 63) / 64
  let zeros := 64 * blocks - m.length - 9
  beBytes 32 (shaBlocks blocks shaStart (m ++ (0x80 :: List.replicate zeros 0) ++ beBytes 8 (8 * m.length))).toNat

/-! P-256. -/

/-- The prime, the order of the base point, the coefficient b. -/
def p256P : Nat := 0xffffffff00000001000000000000000000000000ffffffffffffffffffffffff
def p256N : Nat := 0xffffffff00000000ffffffffffffffffbce6faada7179e84f3b9cac2fc632551
def p256B : Nat := 0x5ac635d8aa3a93e7b3ebbd55769886bc651d06b0cc53b0f63bce3c3e27d2604b

/-- The base point. -/
def p256G : Nat × Nat :=
  (0x6b17d1f2e12c4247f8bce6e563a440f277037d812deb33a0f4a13945d898c296,
   0x4fe342e2fe1a7f9b8ee7eb4a7c0f9e162bce33576b315ececbb6406837bf51f5)

/-- `b` to the power `e`, modulo `m`, over `n` bits of `e`. -/
def powMod (m b e : Nat) : Nat → Nat
  | 0 => 1 % m
  | n + 1 =>
    let r := powMod m b (e / 2) n
    if e % 2 = 1 then r * r % m * b % m else r * r % m

/-- The inverse modulo a prime of 256 bits. -/
def invMod (m b : Nat) : Nat := powMod m b (m - 2) 256

/-- A point of the curve; none: the point at infinity. -/
abbrev Point := Option (Nat × Nat)

/-- The difference modulo the prime. -/
def subP (a b : Nat) : Nat := (a + p256P - b % p256P) % p256P

/-- The chord or tangent of slope `l` through `(x1, y1)` and a point of abscissa `x2`. -/
def chord (l x1 y1 x2 : Nat) : Point :=
  let x := subP (subP (l * l) x1) x2
  some (x, subP (l * subP x1 x) y1)

/-- The sum of two points. -/
def addPt : Point → Point → Point
  | none, q => q
  | p, none => p
  | some (x1, y1), some (x2, y2) =>
    if x1 = x2 then
      if (y1 + y2) % p256P = 0 then none
      else chord ((3 * x1 * x1 + p256P - 3) * invMod p256P (2 * y1) % p256P) x1 y1 x2
    else chord (subP y2 y1 * invMod p256P (subP x2 x1) % p256P) x1 y1 x2

/-- A multiple of a point, over `n` bits. -/
def mulPt (p : Point) (k : Nat) : Nat → Point
  | 0 => none
  | n + 1 =>
    let h := mulPt p (k / 2) n
    let d := addPt h h
    if k % 2 = 1 then addPt d p else d

/-- The signature (r, s) over a message by the key (x, y). -/
def ecdsaOk (x y r s : Nat) (msg : List Byte) : Bool :=
  let onCurve := decide (x < p256P) && decide (y < p256P) && decide (y * y % p256P = (x * x * x + (p256P - 3) * x + p256B) % p256P)
  let inRange := decide (0 < r) && decide (r < p256N) && decide (0 < s) && decide (s < p256N)
  if !onCurve || !inRange then false
  else
    let z := ofBytes (sha256 msg)
    let w := invMod p256N s
    match addPt (mulPt (some p256G) (z * w % p256N) 256) (mulPt (some (x, y)) (r * w % p256N) 256) with
    | none => false
    | some q => q.1 % p256N == r

end Sys2Proof.Machine
end

