-- ==== Sys2Proof/Machine/HltOps.lean ====
section
/-!
DEFINITION. Health levels and reasons (R409 to R412).
-/

namespace Sys2Proof.Machine

/-- The floor of a reason (R410); `strong`: the higher of its two floors. Reason 19 has FW's. -/
def reasonFloor (bit fw : Nat) (strong : Bool) : Nat :=
  match bit with
  | 1 => 2
  | 4 => if strong then 2 else 1
  | 5 => 2
  | 6 => 2
  | 8 => 2
  | 10 => 2
  | 12 => if strong then 2 else 1
  | 13 => 2
  | 15 => 2
  | 17 => 2
  | 19 => fw
  | _ => 1

/-- The pages of an island. -/
def pagesOf (isl : Nat) : List Nat := ((List.range 16).map fun b => isl * 65536 + b * 4096).filter mapped

/-- A severity of HEALTH_CHG by the new level (R424). -/
def healthSev (level : Nat) : Nat := if level ≤ 1 then 1 else if level = 2 then 2 else 4

/-- The node level (R411). -/
def State.nodeLevel (s : State) : Nat :=
  let isls := List.range 17
  if isls.any fun n => [5, 6, 13].any fun b => (s.get (F.HLT_CTRL_ISL_REASON n)).testBit b then 3
  else isls.foldl (fun m n => max m (s.get (F.HLT_CTRL_ISL_LEVEL n))) 0

/-- The node level follows the island levels; HEALTH of nFAULT follows it. -/
def State.hltNode (s : State) (isl : Nat) : State :=
  let old := s.get F.HLT_CTRL_NODE_LEVEL
  let new := s.nodeLevel
  let top := (List.range 17).foldl (fun m n => max m (s.get (F.HLT_CTRL_ISL_LEVEL n))) 0
  let worst := ((List.range 17).find? fun n => s.get (F.HLT_CTRL_ISL_LEVEL n) == top).getD 0
  let s := s.put F.HLT_CTRL_NODE_ISL worst
  if new = old then s
  else
    let s := ((s.put F.HLT_CTRL_NODE_LEVEL new).satInc F.HLT_CTRL_NODE_CHG).raise P.HLT_CTRL 0
    let s := (if new = 3 then s.raise P.HLT_CTRL 1 else s).putB F.SYS_RST_FAULT_HEALTH (new == 3)
    s.post 0x0F10 (healthSev new) (subject 0 isl)
      (beBytes 1 old ++ beBytes 1 new ++ beBytes 4 (s.get (F.HLT_CTRL_ISL_REASON isl)) ++ beBytes 1 new)

/-- The level of an island follows its reasons and FW (R409). -/
def State.hltEval (s : State) (isl : Nat) : State :=
  if !s.isOn I.HLT then s
  else
    let reasons := s.get (F.HLT_CTRL_ISL_REASON isl)
    let fw := min 3 (s.get (F.HLT_CTRL_ISL_FW isl))
    let floor := ((List.range 19).filter reasons.testBit).foldl
      (fun m b => max m (reasonFloor b fw (s.hlt.strong.contains (isl, b)))) 0
    let s := s.put (F.HLT_CTRL_ISL_REASON isl) (reasons % 2 ^ 19 + (decide (floor < fw)).toNat * 2 ^ 19)
    let old := s.get (F.HLT_CTRL_ISL_LEVEL isl)
    let new := max floor fw
    let s := (s.put (F.HLT_CTRL_ISL_LEVEL isl) new).put (F.HLT_CTRL_ISL_FLOOR isl) floor
    if new = old then s.hltNode isl
    else
      let s := s.raise P.HLT_CTRL 0
      let s := s.post 0x0F10 (healthSev new) (subject 0 isl)
        (beBytes 1 old ++ beBytes 1 new ++ beBytes 4 (s.get (F.HLT_CTRL_ISL_REASON isl)) ++ beBytes 1 s.nodeLevel)
      s.hltNode isl

/-- A reason starts to stand, or to stand with its higher floor, or stops standing (R410). -/
def State.hltReason (s : State) (isl bit : Nat) (on strong : Bool) : State :=
  if !s.isOn I.HLT then s
  else
    let reasons := s.get (F.HLT_CTRL_ISL_REASON isl)
    let rest := reasons - (reasons.testBit bit).toNat * 2 ^ bit
    let s := { s with hlt := { s.hlt with
      strong := (if on && strong then [(isl, bit)] else []) ++ s.hlt.strong.filter fun (e : Nat × Nat) => e != (isl, bit) } }
    (s.put (F.HLT_CTRL_ISL_REASON isl) (rest + on.toNat * 2 ^ bit)).hltEval isl

end Sys2Proof.Machine
end

