-- ==== Sys2Proof/Machine/TopOps.lean ====
section
/-!
DEFINITION. Inauguration up to the numbering: triggers, the count wave, split lines, abort and restart (R71 to R84, R103).
-/

namespace Sys2Proof.Machine

/-! The four side views. -/

def TopState.view (t : TopState) : BPort → SideView
  | .la1 => t.la1
  | .la2 => t.la2
  | .lb1 => t.lb1
  | .lb2 => t.lb2

def TopState.setView (t : TopState) (p : BPort) (v : SideView) : TopState :=
  match p with
  | .la1 => { t with la1 := v }
  | .la2 => { t with la2 := v }
  | .lb1 => { t with lb1 := v }
  | .lb2 => { t with lb2 := v }

def State.view (s : State) (p : BPort) : SideView := s.top.view p

def State.setView (s : State) (p : BPort) (v : SideView) : State := { s with top := s.top.setView p v }

/-! Identity records (R78). -/

def identBytes (i : Ident) : List Byte :=
  beBytes 8 i.serial ++ beBytes 8 i.vtag ++
  beBytes 1 (i.tpos.toNat * 128 + i.cab.toNat * 64 + i.face.toNat * 32 + i.start.toNat * 16 + i.split.toNat * 8 + i.solo.toNat * 4) ++
  beBytes 1 i.hops ++ beBytes 2 i.cur ++ beBytes 4 0

def identOf (bs : List Byte) : Ident :=
  let fl := (bs.getD 16 0).toNat
  { serial := ofBytes (bytesAt bs 0 8), vtag := ofBytes (bytesAt bs 8 8), tpos := fl.testBit 7, cab := fl.testBit 6,
    face := fl.testBit 5, start := fl.testBit 4, split := fl.testBit 3, solo := fl.testBit 2,
    hops := (bs.getD 17 0).toNat, cur := ofBytes (bytesAt bs 18 2) }

/-- The configured vehicle tag. -/
def State.vtag (s : State) : Nat := s.get F.TOP_VTAG_HI_VTAG * 2 ^ 32 + s.get F.TOP_VTAG_LO_VTAG

/-- The node's identity record as it stands (R78). -/
def State.identNow (s : State) : Ident :=
  { serial := s.serial, vtag := s.vtag, tpos := s.bit F.SYS_RST_STAT_TPOS, cab := s.bit (F.SYS_DIN_STAT_COND 3), face := false,
    start := false, split := false, solo := s.role == 4, hops := 0, cur := s.epoch }

/-- The node's own identity record in the running attempt (R74, R78). -/
def State.ownIdent (s : State) (face start split : Bool) : Ident :=
  { s.top.mine with face := face, start := start, split := split }

/-! Frames of an attempt (R76). -/

/-- The shadow epoch of the running attempt. -/
def State.shadowEpoch (s : State) : Nat := s.get F.TOP_SHADOW_SHADOW

/-- The phase of the running attempt; 0 idle. -/
def State.phase (s : State) : Nat := s.get F.TOP_SHADOW_PHASE

/-- A class 2 frame of this node for its attempt (R76). -/
def State.topFrame (s : State) (flow seq : Nat) (payload : List Byte) : NFrame :=
  { mkFrame 2 s.shadowEpoch s.node 3 0 flow seq payload with epn := true }

/-- Relay a frame out of the other port of the line it came on (R77). -/
def State.relay (s : State) (p : BPort) (f : NFrame) : State := s.send p.opposite f

/-- The ports with link on lines in LISTEN or NORMAL. -/
def State.linkedPorts (s : State) : List BPort := allPorts.filter s.linked

/-- Collect a flag of TOP_STAT bits 8:0 in the running attempt. -/
def State.flag (s : State) (b : Nat) : State := { s with top := { s.top with flags := s.top.flags ||| 2 ^ b } }

/-- Start a wave at a side that is an end: an IDENT with POS 0 and START out of the line's other port (R80). -/
def State.startWave (s : State) (p : BPort) : State :=
  if s.linked p.opposite then
    let split := !s.bit (F.BL_P_STAT_LINK p) && s.linked p.across
    let s := s.send p.opposite (s.topFrame 3 0 (identBytes (s.ownIdent (p.side == 1) true split)))
    { s with top := { s.top with waved := true } }
  else s

/-- A side's view at the moment of joining: an end where the line has no link there or is not open (R80, R83). -/
def State.freshView (s : State) (p : BPort) : SideView := { SideView.reset with isEnd := !s.linked p }

/-- The node watches node 1, or node N (R73); with N = 3 node 2 watches both. -/
def State.watches1 (s : State) : Bool := s.node == 2
def State.watchesN (s : State) : Bool := s.node != 0 && s.node + 1 == s.get F.TOP_COUNT_NODES

/-- Join attempt `e` for cause `trig` (R79, R80): fresh views, JOIN on every port, and a wave from every side without link. -/
def State.joinAttempt (s : State) (e trig : Nat) (port : Option BPort) : State :=
  let s := { s with top := { s.top with
    lastS := e, mine := s.identNow, la1 := s.freshView .la1, la2 := s.freshView .la2, lb1 := s.freshView .lb1, lb2 := s.freshView .lb2,
    waved := false, flags := 0, joinedAt := s.mono, reqOut := [], readyOut := [], commitOut := [], shadow := none,
    readySeen := false, kept := none, acted := none, flipAt := .none, digestMiss := false } }
  let s := (s.put F.TOP_SHADOW_PHASE 1).put F.TOP_SHADOW_SHADOW e
  let s := (s.put F.TOP_LAST_TRIG trig).put F.TOP_LAST_PORT (match port with | some p => 2 ^ p.idx | none => 0)
  let s := s.sendAll s.linkedPorts (s.topFrame 2 0 (beBytes 8 s.serial))
  allPorts.foldl (fun s p => if s.lineOpen p.line && !s.linked p then s.startWave p else s) s

/-- Send REQUEST on both ports of each open line, and in the node's sub-slots (R77). -/
def State.sendRequest (s : State) (cause : Nat) : State :=
  let f := s.topFrame 1 0 (beBytes 8 s.serial ++ beBytes 1 cause ++ beBytes 7 0)
  let s := s.sendAll s.linkedPorts f
  ({ s with top := { s.top with reqOut := s.linkedPorts } }).toSubslot f

/-- The shadow identity table and the shadow results of the bind table are dropped (R105). -/
def State.dropTables (s : State) : State :=
  s.clearMem fun a => decide (0x10010000 ≤ a ∧ a < 0x10020000 ∨ 0x10180000 ≤ a ∧ a < 0x10182000)

/-- The attempt ends: its flags replace bits 8:0 of TOP_STAT, and its views, shadow tables and shadow fields are dropped (R105). -/
def State.endAttempt (s : State) : State :=
  let s := s.dropTables
  let s := if s.isOn I.FAB && decide (3 ≤ s.phase) then s.dropShadow else s
  let s := s.wr R.TOP_STAT (maskIn (s.rd R.TOP_STAT) 0x1FF (BitVec.ofNat 32 s.top.flags))
  let s := s.wr R.TOP_SHADOW (maskIn (s.rd R.TOP_SHADOW) 0xF000FFFF 0)
  { s with top := { s.top with
    la1 := .reset, la2 := .reset, lb1 := .reset, lb2 := .reset, waved := false, flags := 0,
    shadow := none, readySeen := false, kept := none, acted := none, flipAt := .none, digestMiss := false },
                beam := { s.beam with shadow := none } }

/-- c of R72: the later of the current epoch and the shadow epoch of the last attempt. -/
def State.lastKnown (s : State) : Nat := if epochLater s.top.lastS s.epoch then s.top.lastS else s.epoch

/-- ETB compatibility mode (R107). -/
def State.etb (s : State) : Bool := s.bit F.TOP_ETB_CTRL_EN

/-- A link change at port `p` before the wave joins the running attempt (R103): the node's view of that side starts anew, as on
joining (R80). -/
def State.sideChange (s : State) (p : BPort) : State :=
  let s := s.setView p (s.freshView p)
  if s.linked p then
    let s := s.send p (s.topFrame 2 0 (beBytes 8 s.serial))
    if s.linked p.opposite then s else s.startWave p.opposite
  else if s.lineOpen p.line then s.startWave p
  else s

/-- The node has acted on a COMMIT, or a TTDP topology stands, and the flip is to come (R93, R104). A COMMIT whose DIGEST differs is
not acted on. -/
def State.awaitsFlip (s : State) : Bool := s.phase == 4 && !s.top.digestMiss

/-- A trigger that the node recognises (R73, R80, R103, R104). -/
def State.trigger (s : State) (cause : Nat) (port : Option BPort) : State :=
  if !s.isOn I.TOP || s.etb then s
  else if s.phase = 0 then (s.joinAttempt (epochSucc s.lastKnown) cause port).sendRequest cause
  else if s.awaitsFlip then
    if s.top.heldTrig.isNone then { s with top := { s.top with heldTrig := some (cause, port) } }
    else s
  else if s.top.waved then
    let e := epochSucc s.shadowEpoch
    let s := ((s.satInc F.TOP_CNT_ABORTS).raise P.TOP_INAUG 1).post 0x1011 1 0 (beBytes 2 s.shadowEpoch ++ beBytes 1 cause)
    (s.endAttempt.joinAttempt e cause port).sendRequest cause
  else match port with
    | some p => s.sideChange p
    | none => s

/-! The count wave. -/

/-- A side is complete (R83). -/
def SideView.complete (v : SideView) : Bool := v.isEnd || (v.neighbour && (!v.startSplit || v.xend))

/-- The identities of a side, outermost first: those known through XIDENT lie beyond those seen directly (R84). -/
def SideView.chain (v : SideView) : List Ident := v.xidents ++ v.idents

/-- A split node whose other line's side is complete sends XIDENT for each identity of that side, as received there, then XEND (R77,
R84). POS is the place in the side's whole chain, from 0: DESIGN CHOICE, log entry 72. -/
def State.splitRelay (s : State) (p : BPort) : State :=
  let v := s.view p
  if s.lineOpen p.line && !s.bit (F.BL_P_STAT_LINK p) && s.linked p.across && s.linked p.opposite && (s.view p.across).complete && !v.relayed then
    let s := (List.zipIdx (s.view p.across).chain).foldl
      (fun s e => s.send p.opposite (s.topFrame 4 e.2 (identBytes e.1))) s
    let s := s.send p.opposite (s.topFrame 5 0 (beBytes 8 s.serial))
    s.setView p { s.view p with relayed := true }
  else s

/-- Split relays that have become due. -/
def State.splitRelays (s : State) : State := allPorts.foldl (fun s p => s.splitRelay p) s

/-- The payload of an identity frame with HOPS incremented (R77); 255 is followed by 0: DESIGN CHOICE, log entry 71. -/
def hopsUp (bs : List Byte) : List Byte := bs.take 17 ++ [BitVec.ofNat 8 ((bs.getD 17 0).toNat + 1)] ++ bs.drop 18

/-- A received IDENT (R81). -/
def State.rxIdent (s : State) (p : BPort) (f : NFrame) : State :=
  let i := identOf f.payload
  let v := s.view p
  let s := s.setView p { v with idents := v.idents ++ [i], neighbour := v.neighbour || i.hops == 0,
                                startSplit := if i.start then i.split else v.startSplit }
  let s := { s with top := { s.top with waved := true } }
  let s := s.relay p { f with payload := hopsUp f.payload }
  let s := if i.hops = 0 then s.send p.opposite (s.topFrame 3 (f.seq + 1) (identBytes (s.ownIdent (p.side == 1) false false))) else s
  s.splitRelays

/-- A received XIDENT (R84). -/
def State.rxXident (s : State) (p : BPort) (f : NFrame) : State :=
  let v := s.view p
  let s := s.setView p { v with xidents := v.xidents ++ [identOf f.payload] }
  s.relay p { f with payload := hopsUp f.payload }

/-- A received XEND (R84). -/
def State.rxXend (s : State) (p : BPort) (f : NFrame) : State :=
  let s := s.setView p { s.view p with xend := true }
  (s.relay p f).splitRelays

/-- A received JOIN (R82). -/
def State.rxJoin (s : State) (p : BPort) : State := s.setView p { s.view p with joined := true }

/-- A received REQUEST is relayed once per line and direction, outside the window; a window copy is not (R77). -/
def State.rxRequest (s : State) (p : BPort) (f : NFrame) : State :=
  if f.beam || s.top.reqOut.contains p.opposite then s
  else ({ s with top := { s.top with reqOut := p.opposite :: s.top.reqOut } }).relay p f

/-- How a received class 2 frame stands to the node's attempt (R79, R82, R96, R104). -/
inductive TopAccept where
  /-- Dropped. -/
  | drop
  /-- Dropped and counted as BAD (R77, R96). -/
  | bad
  /-- Held until the flip (R104). -/
  | hold
  /-- Of a later attempt, which the node joins first (R79). -/
  | later
  /-- Of the running attempt. -/
  | current
deriving DecidableEq, Repr

def State.topAccept (s : State) (p : BPort) (f : NFrame) : TopAccept :=
  if !s.isOn I.TOP || !s.lineOpen p.line then .drop
  else if !f.epn || f.flow = 0 || 7 < f.flow then .bad
  else if s.etb then .drop
  else if s.phase = 0 then (if epochLater f.epoch s.lastKnown then .later else .drop)
  else if epochLater f.epoch s.shadowEpoch then (if s.awaitsFlip then .hold else .later)
  else if f.epoch = s.shadowEpoch then (if (s.view p).silent then .drop else .current)
  else .drop

/-- Join the later attempt of a received frame (R79): what the running attempt has collected is discarded. -/
def State.joinLater (s : State) (f : NFrame) : State :=
  (if s.phase = 0 then s else s.endAttempt).joinAttempt f.epoch 5 none

/-- Receive a class 2 frame of type `flow`: `rx` once the node takes part in its attempt. -/
def State.topRx (s : State) (p : BPort) (f : NFrame) (rx : State → State) : State :=
  if !nfCrcOk f then s.satInc (F.BL_P_ERR_HCRC_ERR p)
  else match s.topAccept p f with
    | .drop => s
    | .bad => s.satInc F.TOP_EPDROP_BAD
    | .hold => { s with top := { s.top with heldFrames := s.top.heldFrames ++ [(p, f)] } }
    | .later => rx (s.joinLater f)
    | .current => rx s

/-- No JOIN on a linked side within IDENT_T (R82). -/
def State.silentSide (s : State) (p : BPort) : State :=
  if s.phase = 1 && s.linked p && !(s.view p).joined && !(s.view p).isEnd then
    let s := (s.setView p { s.view p with isEnd := true, silent := true }).flag 1
    ((s.raise P.TOP_INAUG 8).startWave p).splitRelays
  else s

end Sys2Proof.Machine
end

