-- ==== Sys2Proof/Machine/Lines.lean ====
section
/-!
DEFINITION. Line interfaces, line bypasses and backbone ports (R51 to R65, R75, R453, R454).
-/

namespace Sys2Proof.Machine

def State.line (s : State) : Line → LineState
  | .a => s.lineA
  | .b => s.lineB

def State.setLine (s : State) (l : Line) (x : LineState) : State :=
  match l with
  | .a => { s with lineA := x }
  | .b => { s with lineB := x }

def State.port (s : State) : BPort → PortState
  | .la1 => s.portA1
  | .la2 => s.portA2
  | .lb1 => s.portB1
  | .lb2 => s.portB2

def State.setPort (s : State) (p : BPort) (x : PortState) : State :=
  match p with
  | .la1 => { s with portA1 := x }
  | .la2 => { s with portA2 := x }
  | .lb1 => { s with portB1 := x }
  | .lb2 => { s with portB2 := x }

/-! The bypass bits of a line in SYS_BYP. -/

/-- The REQ_OPEN, BYP_ON, PHYSW_ON and MISMATCH bits of a line are bits 0 to 3 of its nibble in SYS_BYP_STAT. -/
def bypBit (l : Line) (b : Nat) : Fld := ⟨R.SYS_BYP_STAT, 4 * l.idx + b, 4 * l.idx + b⟩

def State.reqOpen (s : State) (l : Line) : Bool := s.bit (bypBit l 0)
def State.bypOn (s : State) (l : Line) : Bool := s.bit (bypBit l 1)
def State.physwOn (s : State) (l : Line) : Bool := s.bit (bypBit l 2)
def State.mismatch (s : State) (l : Line) : Bool := s.bit (bypBit l 3)

/-- The WDOG count of a line (R58). -/
def wdogFld (l : Line) : Fld := ⟨R.SYS_BYP_CNT, 8 * l.idx + 7, 8 * l.idx⟩

/-! Ports. -/

/-- The flap hold-down bit of a port in TOP_STAT.HELD (R75). -/
def heldFld (p : BPort) : Fld := ⟨R.TOP_STAT, 28 + p.idx, 28 + p.idx⟩

/-- The isolation bit of a port (R322). -/
def isoFld (p : BPort) : Fld := ⟨R.SYS_WAKE_SEG, p.idx, p.idx⟩

/-- The port's transmitter is kept off by the flap hold-down or by its isolation. -/
def State.txOff (s : State) (p : BPort) : Bool := s.bit (heldFld p) || s.bit (isoFld p)

/-- The port is expected (R63): its EXP field is 1, or 2 or 3 while its coupler sense is active; a held-down or isolated port is
not counted. -/
def State.expected (s : State) (p : BPort) : Bool :=
  let e := if p.side = 0 then s.get (F.BL_LINE_CFG_EXP1 p.line) else s.get (F.BL_LINE_CFG_EXP2 p.line)
  !s.txOff p && (e == 1 || (2 ≤ e && s.bit (F.SYS_DIN_STAT_COND (1 + p.side))))

/-- Every expected port of the line has link (R63, R64). -/
def State.expectedLinked (s : State) (l : Line) : Bool :=
  [l.port false, l.port true].all fun p => !s.expected p || s.bit (F.BL_P_STAT_LINK p)

/-- The highest type the port advertises (R51, R53). -/
def State.advertised (s : State) (p : BPort) : Nat :=
  match (s.port p).restricted with
  | some r => min r (s.get (F.BL_LINE_CFG_MAXRATE p.line))
  | none => s.get (F.BL_LINE_CFG_MAXRATE p.line)

/-- Count a link change at the port (R73) and show it. -/
def State.countChange (s : State) (p : BPort) : State :=
  (s.satInc (F.BL_P_STAT_LINK_CHG p)).raise (P.PORT p) 0

/-- The port's link goes down, with TSTATE `t`; its latencies and its delay read 0 without link (R70, R116). -/
def State.dropLink (s : State) (p : BPort) (t : Nat) : State :=
  let s := ((((s.putB (F.BL_P_STAT_LINK p) false).put (F.BL_P_STAT_TSTATE p) t).wr (R.BL_P_LAT p) 0).put (F.BL_P_SNR_MARGIN p) 0)
  let s := { s with beam := s.beam.setProbe p .reset }
  s.put (if p.side = 0 then F.BL_BEAM_LDLY_P1 p.line else F.BL_BEAM_LDLY_P2 p.line) 0

/-- Flap hold-down (R75): a link change at MONO now; FLAP_N of them within FLAP_WIN hold the port down. -/
def State.flap (s : State) (p : BPort) : State :=
  let win := max 1 (s.get F.TOP_CFG_FLAP_WIN) * 1000000000
  let times := ((s.port p).flaps.filter fun t => s.mono < t + win) ++ [s.mono]
  if !s.isOn I.TOP || s.bit (heldFld p) then s
  else if times.length < max 2 (s.get F.TOP_CFG_FLAP_N) then s.setPort p { s.port p with flaps := times }
  else
    let s := (s.setPort p { s.port p with flaps := [] }).putB (heldFld p) true
    let s := (s.raise P.TOP_INAUG 9).post 0x1014 2 (subject 0 p.idx) (beBytes 1 (max 1 (s.get F.TOP_CFG_FLAP_HOLD)))
    if s.bit (F.BL_P_STAT_LINK p) then (s.dropLink p 0).countChange p else s.put (F.BL_P_STAT_TSTATE p) 0

/-- The line stops counting as opening once every expected port has link (R64). -/
def State.openingDone (s : State) (l : Line) : State :=
  if (s.line l).opening && s.lineOpen l && s.expectedLinked l then s.setLine l { s.line l with opening := false } else s

/-! Sequences. -/

/-- The cause that decides between two that require the bypass closed: a fall into SLEEP comes first (R61). -/
def CloseCause.stronger : CloseCause → CloseCause → CloseCause
  | .nightfall, _ => .nightfall
  | _, .nightfall => .nightfall
  | .failsafe, _ => .failsafe
  | _, .failsafe => .failsafe
  | .reset, _ => .reset
  | _, .reset => .reset
  | .bypassNoHoldoff, _ => .bypassNoHoldoff
  | _, .bypassNoHoldoff => .bypassNoHoldoff
  | .bypass, .bypass => .bypass

/-- The line interface shows the state of `c`, raises STATE_CHG and records its state. -/
def State.enterClosed (s : State) (l : Line) (c : CloseCause) : State :=
  let s := match c with
    | .nightfall => (s.put (F.BL_LINE_STAT_STATE l) 3).put (F.BL_LINE_STAT_CAUSE l) 1
    | .failsafe => (s.put (F.BL_LINE_STAT_STATE l) 3).put (F.BL_LINE_STAT_CAUSE l) 2
    | _ => (s.put (F.BL_LINE_STAT_STATE l) 0).put (F.BL_LINE_STAT_CAUSE l) 0
  let s := s.setLine l { s.line l with opening := false }
  ((s.raise (P.LINE l) 0).post (lineIsland l * 256 + 0x10) 1 0 (beBytes 4 (s.rd (R.BL_LINE_STAT l)).toNat)).beamRefresh l

/-- The ports of the line fall silent (R58): a link is dropped and counted; both ports are off. -/
def State.mutePorts (s : State) (l : Line) : State :=
  [l.port false, l.port true].foldl (fun s p =>
    if s.bit (F.BL_P_STAT_LINK p) then ((s.dropLink p 0).countChange p).flap p else s.put (F.BL_P_STAT_TSTATE p) 0) s

/-- The hold-off after a closing that a cause has led to (R57): it starts, it ends, or a running one goes on. -/
def CloseCause.holdAfter (c : CloseCause) (was : Bool) : Bool :=
  match c with
  | .bypass => true
  | .failsafe => true
  | .nightfall => was
  | _ => false

/-- Start the closing sequence (R58), steps 1 and 2: the ports fall silent, the request and both drives end, and neither set of
switches conducts (R56). -/
def State.runClosing (s : State) (l : Line) (c : CloseCause) : State :=
  let s := (s.setLine l { s.line l with seq := .closing c, pendClose := none }).mutePorts l
  let s := if s.isOn (lineIsland l) then s.putB (F.BL_LINE_STAT_MOVING l) true else s
  (s.putB (bypBit l 0) false).putB (bypBit l 2) false

/-- A cause joins those that already ask for the bypass of the line closed: the one that waits, and the one that a closing follows
(R61, R62). -/
def State.closeCause (s : State) (l : Line) (c : CloseCause) : CloseCause :=
  let c := match (s.line l).pendClose with
    | some d => c.stronger d
    | none => c
  match (s.line l).seq with
  | .closing d => c.stronger d
  | _ => c

/-- A cause that requires the bypass of the line closed arises (R61, R62): while a sequence runs it waits for the next step
boundary; an open bypass closes; a closed one only shows the state of the cause. -/
def State.startClose (s : State) (l : Line) (c : CloseCause) : State :=
  match (s.line l).seq with
  | .idle =>
    let s := s.putB (F.BL_LINE_STAT_WAIT_OTHER l) false
    if s.lineOpen l then s.runClosing l c
    else match c with
      | .nightfall => if s.get (F.BL_LINE_STAT_STATE l) = 3 ∧ s.get (F.BL_LINE_STAT_CAUSE l) = 1 then s else s.enterClosed l c
      | .failsafe => if s.get (F.BL_LINE_STAT_STATE l) = 3 then s else s.enterClosed l c
      | _ => s
  | _ =>
    let c' := match (s.line l).pendClose with
      | some d => c.stronger d
      | none => c
    s.setLine l { s.line l with pendClose := some c' }

/-- The reference clock of a line's PHYs counts as locked (R57): PLL_LINE is locked or in holdover, and the island runs on it. -/
def State.lineClock (s : State) (l : Line) : Bool :=
  (s.bit F.SYS_CLK_STAT_LINE_LOCK || s.bit F.SYS_CLK_STAT_LINE_HOLD) && s.get (F.SYS_CLK_ISL_CUR (lineIsland l)) == 3

/-- The PHY of a port is ready to train (R57). -/
def State.phyReady (s : State) (p : BPort) : Bool := (s.port p).ready && s.lineClock p.line

/-- Every condition of R57 but the last one, the order of the two lines. -/
def State.mayOpen (s : State) (l : Line) : Bool :=
  s.isOn (lineIsland l) && s.phyReady (l.port false) && s.phyReady (l.port true)
    && s.bypOn l && !s.physwOn l && !s.mismatch l && !(s.line l).mmHold && decide ((s.line l).seq = .idle)
    && s.get (F.BL_LINE_STAT_STATE l) == 0
    && s.bit F.SYS_RST_BOOT_CFG_OK && s.bit (F.BL_LINE_CFG_AUTO_OPEN l)
    && !s.bit (F.BL_LINE_CMD_FORCE_BYP l) && !s.bit (F.BL_LINE_STAT_LOCKOUT l) && s.role != 3
    && s.bit (F.BL_LINE_STAT_KA_FAB l) && s.bit (F.BL_LINE_STAT_KA_TOP l) && !(s.line l).holdoff

/-- The line interface asks for the opening (R57); it waits while the other line is opening (R64). Steps 1 and 2 of the opening
run: the bypass drive is removed and the bypass switches conduct no more, while the PHY switches do not conduct yet (R56, R58). -/
def State.lineOpenRequest (s : State) (l : Line) : State :=
  let s := s.openingDone l.other
  if !s.mayOpen l then s.putB (F.BL_LINE_STAT_WAIT_OTHER l) false
  else if (s.line l.other).opening then s.putB (F.BL_LINE_STAT_WAIT_OTHER l) true
  else
    let s := s.setLine l { s.line l with seq := .opening, opening := true }
    let s := (s.putB (F.BL_LINE_STAT_WAIT_OTHER l) false).putB (F.BL_LINE_STAT_MOVING l) true
    (s.putB (bypBit l 0) true).putB (bypBit l 1) false

/-- LINE_STAT as it reads: a line waits for the other one while all else of R57 holds and the other one is opening (R64). -/
def State.lineStatView (s : State) (l : Line) : Word :=
  let f := F.BL_LINE_STAT_WAIT_OTHER l
  f.ins (s.rd (R.BL_LINE_STAT l)) (s.bit f && s.mayOpen l && (s.line l.other).opening).toNat

/-- The opening sequence ends (R58): the line enters LISTEN and both ports start autonegotiation. SYS_BYP performs it only while the
request stands (R57). -/
def State.openingComplete (s : State) (l : Line) : State :=
  if (s.line l).seq != .opening || (s.line l).pendClose.isSome || !s.isOn (lineIsland l) || !s.reqOpen l then s
  else
    let s := s.setLine l { s.line l with seq := .idle }
    let s := ((s.putB (bypBit l 1) false).putB (bypBit l 2) true).putB (F.BL_LINE_STAT_MOVING l) false
    let s := ((s.put (F.BL_LINE_STAT_STATE l) 1).satInc (F.BL_LINE_CNT_OPEN_CNT l)).raise (P.LINE l) 0
    let s := [l.port false, l.port true].foldl (fun s p =>
      (s.setPort p { s.port p with restricted := none }).put (F.BL_P_STAT_TSTATE p) (if s.txOff p then 0 else 1)) s
    ((s.post (lineIsland l * 256 + 0x10) 1 0 (beBytes 4 (s.rd (R.BL_LINE_STAT l)).toNat)).openingDone l).beamRefresh l

/-- A step boundary of a running sequence: a closing decided meanwhile starts (R62). -/
def State.bypassClose (s : State) (l : Line) : State :=
  match (s.line l).seq, (s.line l).pendClose with
  | .opening, some c => s.runClosing l c
  | .closing d, some c => s.setLine l { s.line l with seq := .closing (c.stronger d), pendClose := none }
  | _, _ => s

/-- The closing sequence ends (R58, R61): the bypass conducts, and the line interface, where it runs, stands in the state of the
cause. -/
def State.closingComplete (s : State) (l : Line) : State :=
  match (s.line l).seq with
  | .closing c =>
    let c := s.closeCause l c
    let s := s.setLine l { s.line l with seq := .idle, pendClose := none, holdoff := c.holdAfter (s.line l).holdoff }
    let s := (s.putB (bypBit l 1) true).putB (bypBit l 2) false
    if s.isOn (lineIsland l) then (s.putB (F.BL_LINE_STAT_MOVING l) false).enterClosed l c
    else s.setLine l { s.line l with opening := false, holdoff := false }
  | _ => s

/-- The line interface renews its open request (R58): its island is on and has not been reset, and it has not stopped under R338. -/
def State.renews (s : State) (l : Line) : Bool :=
  s.isOn (lineIsland l) && s.lineClock l && (s.lineOpen l || (s.line l).seq == .opening)

/-- The renewals of a line's open request stop for 1.0 ms (R58): SYS_BYP closes the bypass on its own. A cause that waits meanwhile
is not lost (R62). -/
def State.bypWdog (s : State) (l : Line) : State :=
  if s.renews l || (!s.physwOn l && (s.line l).seq != .opening) then s
  else
    let s := ((s.satInc (wdogFld l)).raise P.SYS_BYP l.idx).post 0x0013 3 (subject 5 l.idx) []
    let s := { s with pwr := { s.pwr with byp24 := true } }.hltReason I.SYS 14 true false
    s.runClosing l (s.closeCause l .bypass)

/-- The sensed state of a switch set differs from its drive for longer than 2.0 ms (R59): every drive of the line is removed. An
open or opening bypass closes; a fall into SLEEP that runs or waits goes on (R61, R62). -/
def State.bypMismatch (s : State) (l : Line) : State :=
  let s := ((s.putB (bypBit l 3) true).raise P.SYS_BYP (2 + l.idx))
  let s := s.post 0x0014 4 (subject 5 l.idx) (beBytes 4 (s.rd R.SYS_BYP_STAT).toNat)
  let s := s.hltReason I.SYS 13 true false
  let s := (s.putB (bypBit l 0) false).setLine l { s.line l with mmHold := true }
  let s := if s.isOn (lineIsland l) then s.post (lineIsland l * 256 + 0x13) 3 0 [] else s
  if (s.line l).seq = .idle ∧ s.physwOn l = false then s else s.runClosing l (s.closeCause l .bypass)

/-- HOLDOFF has elapsed since the last closing (R57). -/
def State.holdoffElapsed (s : State) (l : Line) : State := s.setLine l { s.line l with holdoff := false }

/-! LINE_CMD. -/

/-- CLR_LOCKOUT: LOCKOUT, the hold for MISMATCH and FAIL_CNT are cleared (R59, R63). -/
def State.clearLockout (s : State) (l : Line) : State :=
  let s := ((s.putB (F.BL_LINE_STAT_LOCKOUT l) false).put (F.BL_LINE_STAT_FAIL_CNT l) 0).putB (bypBit l 3) false
  let s := if s.mismatch l.other then s else s.hltReason I.SYS 13 false false
  s.setLine l { s.line l with mmHold := false }

/-- Both ports of an open line retrain at MAXRATE (R53): a link drops and both ports train. -/
def State.retrainLine (s : State) (l : Line) : State :=
  if !s.lineOpen l then s
  else [l.port false, l.port true].foldl (fun s p =>
    let s := s.setPort p { s.port p with restricted := none }
    if s.bit (F.BL_P_STAT_LINK p) then (((s.dropLink p 1).countChange p).flap p).trigger 1 (some p) else s) s

/-- A carried write of LINE_CMD. -/
def State.lineCmd (s : State) (q : Requester) (l : Line) (v : Word) : State :=
  s.locked q (R.BL_LINE_CMD l) fun s =>
    let s := s.wr (R.BL_LINE_CMD l) (v &&& 1)
    let s := if v.getLsbD 2 then s.clearLockout l else s
    let s := if v.getLsbD 1 then s.retrainLine l else s
    if v.getLsbD 0 then s.startClose l .bypass else s

/-! Links. -/

/-- RATE_MATCH (R53): a port has trained to a type. No port of the line may come above it until RETRAIN or a new opening; the
other port, where it is above it or trains towards more, is restricted and trains again. -/
def State.rateMatch (s : State) (p : BPort) (rate : Nat) : State :=
  let o := p.opposite
  let higher := if s.bit (F.BL_P_STAT_LINK o) then rate < s.get (F.BL_P_STAT_RATE o)
    else s.get (F.BL_P_STAT_TSTATE o) == 1 && rate < s.advertised o
  let s := s.setPort p { s.port p with restricted := some rate }
  let s := s.setPort o { s.port o with restricted := some (min rate ((s.port o).restricted.getD rate)) }
  if higher then
    let s := s.raise (P.LINE p.line) 4
    if s.bit (F.BL_P_STAT_LINK o) then (((s.dropLink o 1).countChange o).flap o).trigger 1 (some o) else s
  else s

/-- Two latencies differ by more than 1.6 ns (R70). -/
def latDiffers (a b : Nat) : Bool := a + 1 < b || b + 1 < a

/-- A port of an open line completes training (R51 to R53, R64, R70, R73). -/
def State.portLinkUp (s : State) (p : BPort) (rate rx tx : Nat) (isMaster : Bool) : State :=
  if !s.lineOpen p.line || s.bit (F.BL_P_STAT_LINK p) || s.txOff p || s.advertised p < rate then s
  else
    let s := (((s.putB (F.BL_P_STAT_LINK p) true).putB (F.BL_P_STAT_MASTER p) isMaster).put (F.BL_P_STAT_RATE p) rate).put (F.BL_P_STAT_TSTATE p) 2
    let s := (s.countChange p).wr (R.BL_P_LAT p) (BitVec.ofNat 32 (rx % 65536 * 65536 + tx % 65536))
    let s := match (s.port p).prevLat with
      | some (r, t) => if latDiffers r rx || latDiffers t tx then s.raise (P.PORT p) 2 else s
      | none => s
    let s := s.setPort p { s.port p with prevLat := some (rx, tx) }
    let s := (s.flap p).rateMatch p rate
    ((s.trigger 1 (some p)).openingDone p.line).beamRefresh p.line

/-- A port of an open line loses its link and trains again (R52, R73); a held-down or isolated port stays off. -/
def State.portLinkDown (s : State) (p : BPort) : State :=
  if !s.bit (F.BL_P_STAT_LINK p) then s
  else
    let held := s.bit (heldFld p)
    let s := ((s.dropLink p (if s.txOff p || !s.lineOpen p.line then 0 else 1)).countChange p).flap p
    ((if s.lineOpen p.line && !held then s.trigger 1 (some p) else s).openingDone p.line).beamRefresh p.line

/-- The expected-port rule fails (R63). -/
def State.trainFail (s : State) (l : Line) : State :=
  if !s.lineOpen l || s.expectedLinked l then s.openingDone l
  else
    let s := ((s.satInc (F.BL_LINE_STAT_FAIL_CNT l)).satInc (F.BL_LINE_CNT_TRAIN_FAIL_CNT l)).raise (P.LINE l) 1
    let bad := [l.port false, l.port true].filter fun p => s.expected p && !s.bit (F.BL_P_STAT_LINK p)
    let s := bad.foldl (fun s p => s.post (lineIsland l * 256 + 0x11) 2 (subject 0 (1 + p.side)) (beBytes 1 (s.get (F.BL_LINE_STAT_FAIL_CNT l)))) s
    let s := if s.get (F.BL_LINE_CFG_RETRY l) != 0 && s.get (F.BL_LINE_CFG_RETRY l) ≤ s.get (F.BL_LINE_STAT_FAIL_CNT l) then
        ((s.putB (F.BL_LINE_STAT_LOCKOUT l) true).raise (P.LINE l) 3).post (lineIsland l * 256 + 0x13) 3 0 []
      else s
    let s := (s.setLine l { s.line l with opening := false }).startClose l .bypass
    bad.foldl (fun s p => s.put (F.BL_P_STAT_TSTATE p) 3) s

/-- Every expected port has held link for 10 s (R63). -/
def State.failCntClear (s : State) (l : Line) : State :=
  if s.lineOpen l && s.expectedLinked l then s.put (F.BL_LINE_STAT_FAIL_CNT l) 0 else s

/-- The fail-safe fall (R65): a keep-alive of FAB or TOP, as `fab` and `top` show them, has been absent for 10.0 ms. A second absence
while the closing runs is another fall, until STATE reads SLEEP: DESIGN CHOICE, log entry 70. -/
def State.failsafe (s : State) (l : Line) (fab top : Bool) : State :=
  if !s.isOn (lineIsland l) then s
  else
    let s := (s.putB (F.BL_LINE_STAT_KA_FAB l) fab).putB (F.BL_LINE_STAT_KA_TOP l) top
    if fab && top then s
    else if s.get (F.BL_LINE_STAT_STATE l) = 3 then s
    else
      let s := ((s.satInc (F.BL_LINE_CNT_FAILSAFE_CNT l)).raise (P.LINE l) 2).post (lineIsland l * 256 + 0x12) 3 0
        (beBytes 1 fab.toNat ++ beBytes 1 top.toNat)
      s.startClose l .failsafe

/-- Both keep-alives have been present for 100 ms (R61): a line in SLEEP with CAUSE 2 returns to BYPASS. -/
def State.failsafeRecover (s : State) (l : Line) : State :=
  if !s.isOn (lineIsland l) then s
  else
    let s := (s.putB (F.BL_LINE_STAT_KA_FAB l) true).putB (F.BL_LINE_STAT_KA_TOP l) true
    if s.get (F.BL_LINE_STAT_STATE l) = 3 ∧ s.get (F.BL_LINE_STAT_CAUSE l) = 2 then
      let s := ((s.put (F.BL_LINE_STAT_STATE l) 0).put (F.BL_LINE_STAT_CAUSE l) 0).raise (P.LINE l) 0
      s.post (lineIsland l * 256 + 0x10) 1 0 (beBytes 4 (s.rd (R.BL_LINE_STAT l)).toNat)
    else s

/-- FLAP_HOLD has elapsed (R75): the port trains normally. -/
def State.flapHoldEnd (s : State) (p : BPort) : State :=
  if !s.bit (heldFld p) then s
  else
    let s := (s.putB (heldFld p) false).setPort p { s.port p with flaps := [] }
    if s.lineOpen p.line && !s.txOff p then s.put (F.BL_P_STAT_TSTATE p) 1 else s

/-! Restarts. -/

/-- A restart of the line interface closes an open or opening bypass into BYPASS without a hold-off, whatever else had asked for a
closing (R453). -/
def State.closeForRestart (s : State) (l : Line) : State :=
  match (s.line l).seq with
  | .idle => if s.lineOpen l then s.runClosing l .bypassNoHoldoff else s
  | .opening => s.setLine l { s.line l with pendClose := some .bypassNoHoldoff }
  | .closing _ => s.setLine l { s.line l with seq := .closing .bypassNoHoldoff, pendClose := none }

/-- LINE_CFG's reset value with TWIN_POS 1: port 1 is expected always and port 2 by coupler (R20, R22). -/
def State.lineCfgReset (s : State) (l : Line) : State :=
  if s.bit F.SYS_RST_STAT_TPOS then (s.put (F.BL_LINE_CFG_EXP1 l) 1).put (F.BL_LINE_CFG_EXP2 l) 2 else s

/-- The line interface restarts without its island (R453): an open bypass closes, a hold-off ends, the page's registers return to
their reset values; a MISMATCH hold and the keep-alives, which are seen anew, stay. -/
def State.restartLine (s : State) (l : Line) : State :=
  let ka := (s.bit (F.BL_LINE_STAT_KA_FAB l), s.bit (F.BL_LINE_STAT_KA_TOP l))
  let st := s.get (F.BL_LINE_STAT_STATE l)
  let s := s.closeForRestart l
  let s := (s.setLine l { s.line l with holdoff := false, opening := false })
  let s := (s.clearRegs fun a => decide (a / 4096 = P.LINE l / 4096)).lineCfgReset l
  let s := (s.putB (F.BL_LINE_STAT_KA_FAB l) ka.1).putB (F.BL_LINE_STAT_KA_TOP l) ka.2
  if (s.line l).seq = .idle then s
  else (s.put (F.BL_LINE_STAT_STATE l) (if st = 3 then 0 else st)).putB (F.BL_LINE_STAT_MOVING l) true

/-- The PHY and the MAC of a port restart (R454): a link drops and the port trains again while its line stays open, at the line's
type at most (R53); it is ready again once calibration and self-test have passed. -/
def State.restartPort (s : State) (p : BPort) : State :=
  let linked := s.bit (F.BL_P_STAT_LINK p)
  let s := s.clearRegs fun a => decide (a / 4096 = P.PORT p / 4096)
  let s := s.setPort p { s.port p with ready := false }
  if s.lineOpen p.line then
    let s := s.dropLink p (if s.txOff p then 0 else 1)
    if linked then ((s.countChange p).flap p).trigger 1 (some p) else s
  else s.setPort p { s.port p with restricted := none }

/-- SRST of a port page ends: the PHY has passed calibration and self-test (R57, R454). -/
def State.phyReadyAgain (s : State) (p : BPort) : State := s.setPort p { s.port p with ready := true }

/-! The commands. -/

def execLineOpenRequest (l : Line) (s : State) : Host.Outcome State Fault Refusal := .next (s.lineOpenRequest l)
def execOpeningComplete (l : Line) (s : State) : Host.Outcome State Fault Refusal := .next (s.openingComplete l)
def execBypassClose (l : Line) (s : State) : Host.Outcome State Fault Refusal := .next (s.bypassClose l)
def execClosingComplete (l : Line) (s : State) : Host.Outcome State Fault Refusal := .next (s.closingComplete l)
def execBypWdog (l : Line) (s : State) : Host.Outcome State Fault Refusal := .next (s.bypWdog l)
def execBypMismatch (l : Line) (s : State) : Host.Outcome State Fault Refusal := .next (s.bypMismatch l)
def execHoldoffElapsed (l : Line) (s : State) : Host.Outcome State Fault Refusal := .next (s.holdoffElapsed l)

/-- FORCE_BYP (R57, R61): a write of LINE_CMD. -/
def execForceByp (q : Requester) (l : Line) (v : Word) (s : State) : Host.Outcome State Fault Refusal :=
  .next (s.carry q (R.BL_LINE_CMD l) v fun s => s.lineCmd q l v)

/-- CLR_LOCKOUT (R59, R63): a write of LINE_CMD. -/
def execClrLockout (q : Requester) (l : Line) (v : Word) (s : State) : Host.Outcome State Fault Refusal :=
  .next (s.carry q (R.BL_LINE_CMD l) v fun s => s.lineCmd q l v)

/-- RETRAIN (R53): a write of LINE_CMD. -/
def execRetrain (q : Requester) (l : Line) (v : Word) (s : State) : Host.Outcome State Fault Refusal :=
  .next (s.carry q (R.BL_LINE_CMD l) v fun s => s.lineCmd q l v)

def execTrainFail (l : Line) (s : State) : Host.Outcome State Fault Refusal := .next (s.trainFail l)
def execFailCntClear (l : Line) (s : State) : Host.Outcome State Fault Refusal := .next (s.failCntClear l)
def execFailsafe (l : Line) (fab top : Bool) (s : State) : Host.Outcome State Fault Refusal := .next (s.failsafe l fab top)
def execFailsafeRecover (l : Line) (s : State) : Host.Outcome State Fault Refusal := .next (s.failsafeRecover l)
def execFlapHoldEnd (p : BPort) (s : State) : Host.Outcome State Fault Refusal := .next (s.flapHoldEnd p)

end Sys2Proof.Machine
end

