-- ==== Sys2Proof/Machine/Beam.lean ====
section
/-!
DEFINITION. The beam window: windows, markers, probes, and the arming of pending values (R110 to R134). A direction of a line is
named by its exit port.
-/

namespace Sys2Proof.Machine

/-- Count a beam frame inserted. -/
def State.inserted (s : State) (l : Line) : State := s.wrapInc (F.BL_BEAM_INS_CNT l)

/-- 0 for down, 1 for up: the item of a direction in a record. -/
def dirItem (x : BPort) : Nat := 1 - x.side

/-! Beam frames (R129, R130). -/

/-- HCHK: a CRC-8 over bytes 1 to 6 of the header block. -/
def beamHchk (b : BeamFrame) : Nat :=
  crc 8 0x07 0 (beBytes 1 b.magic ++ beBytes 1 b.kld ++ beBytes 2 b.owner ++ beBytes 2 b.nblk)

/-- The CRC-32 of the trailer block: over bytes 1 to 7 of the header block and every data byte. -/
def beamFcs (b : BeamFrame) : Nat :=
  fcs32 (beBytes 1 b.magic ++ beBytes 1 b.kld ++ beBytes 2 b.owner ++ beBytes 2 b.nblk ++ beBytes 1 b.hchk ++ b.data)

/-- KIND of a beam frame. -/
def beamKind (b : BeamFrame) : Nat := b.kld / 64 % 4

/-- The header block passes: MAGIC, HCHK, a KIND that is not reserved (R133). -/
def beamHeaderOk (b : BeamFrame) : Bool := b.magic == 0xB5 && b.hchk == beamHchk b && beamKind b != 3

/-- The CRC-32 passes (R133). -/
def beamCrcOk (b : BeamFrame) : Bool := b.fcs == beamFcs b

/-- KIND, LINE and DIR of a frame of a direction. -/
def kldOf (kind : Nat) (x : BPort) : Nat := kind * 64 + x.line.idx * 32 + dirItem x * 16

/-- A beam frame of the node's own, its data padded with zeros to whole blocks. -/
def mkBeam (kind : Nat) (x : BPort) (owner : Nat) (data : List Byte) : BeamFrame :=
  let d := data ++ List.replicate ((8 - data.length % 8) % 8) 0
  let b : BeamFrame := ⟨0xB5, kldOf kind x, owner, d.length / 8, 0, d, 0⟩
  let b := { b with hchk := beamHchk b }
  { b with fcs := beamFcs b }

/-- The data of a marker (R131). -/
def markerData (cycle epoch : Nat) (seg : Bool) (digest : Word) : List Byte :=
  beBytes 4 cycle ++ beBytes 2 epoch ++ beBytes 1 (seg.toNat * 128) ++ beBytes 1 0 ++ beBytes 4 digest.toNat ++ beBytes 4 0

/-- The data of a probe (R132). -/
def probeData (tTx eTx eRx cum : Nat) : List Byte := beBytes 8 tTx ++ beBytes 8 eTx ++ beBytes 8 eRx ++ beBytes 4 cum ++ beBytes 4 0

/-- A number in the data of a beam frame. -/
def beamNum (b : BeamFrame) (k n : Nat) : Nat := ofBytes (bytesAt b.data k n)

/-- A beam frame that fails its header check or its CRC is counted; whether it passes both (R133). -/
def State.beamCheck (s : State) (l : Line) (b : BeamFrame) : Bool × State :=
  if !beamHeaderOk b then (false, s.satInc (F.BL_BEAM_ERR_HCHK_ERR l))
  else if !beamCrcOk b then (false, s.satInc (F.BL_BEAM_ERR_CRC_ERR l))
  else (true, s)

/-- A beam frame that arrives inside the span at block `pos` of the window goes on unchanged (R120, R121), but at an origin, which
sends idle (R114), and where the node puts blocks of its own (R126). -/
def State.transit (s : State) (x : BPort) (pos : Nat) (b : BeamFrame) : State :=
  if s.hasSpan x && !s.originates x && s.linked x && !s.replaces x pos (b.nblk + 2) then s.emit (.beam x (some pos) b) else s

/-! Insertion (R122, R127, R128). -/

/-- Blocks of a beam frame: header block, data blocks, trailer block (R129). -/
def frameBlocks (f : NFrame) : Nat := 2 + (16 + f.len + 7) / 8

/-- The rank of a frame in a control sub-slot (R128). -/
def ctlRank (f : NFrame) : Nat := match f.cls with
  | 4 => 0
  | 2 => 1
  | 5 => 2
  | _ => 3

/-- The frames that a control sub-slot of `w` blocks takes from those pending, as far as they fit: the lantern, one class 2 frame,
the class 5 frames, one class 6 frame; and whether one did not fit in the blocks left. -/
def ctlPick (w : Nat) : List NFrame → List Nat → List NFrame × Bool
  | [], _ => ([], false)
  | f :: fs, done =>
    if (f.cls = 2 ∨ f.cls = 6) ∧ done.contains f.cls then ctlPick w fs done
    else if frameBlocks f ≤ w then
      let r := ctlPick (w - frameBlocks f) fs (f.cls :: done)
      (f :: r.1, r.2)
    else ([], true)

/-- Put frames into a sub-slot from its first block onwards. -/
def State.insertFrames (s : State) (x : BPort) (owner : Nat) : Nat → List NFrame → State
  | _, [] => s
  | pos, f :: fs =>
    ((s.emit (.beam x (some pos) (mkBeam 0 x owner (nfBytes f)))).inserted x.line).insertFrames x owner (pos + frameBlocks f) fs

/-- The node's control sub-slot in a direction (R128): the frames sent leave the queue, one that does not fit waits. -/
def State.fillCtl (s : State) (x : BPort) : State :=
  match s.ctlSlot x with
  | none => s
  | some e =>
    let mine := (s.beam.ctl.filter fun (c : BPort × NFrame) => c.1 == x).map (·.2)
    let fit := mine.filter fun f => frameBlocks f ≤ e.width
    let sorted := (List.range 4).flatMap fun r => fit.filter fun f => ctlRank f == r
    let r := ctlPick e.width sorted []
    let sent := r.1
    let s := s.satAdd (F.BL_BEAM_QCNT_OVERSIZE x.line) (mine.length - fit.length)
    let s := if mine.length = fit.length then s else s.raise (P.BEAM x.line) 6
    let s := s.satAdd (F.BL_BEAM_QCNT_DEFER x.line) r.2.toNat
    let s := { s with beam := { s.beam with
      ctl := s.beam.ctl.filter fun (c : BPort × NFrame) => c.1 != x || (fit.contains c.2 && !sent.contains c.2) } }
    s.insertFrames x s.node e.pos sent

/-- Free cells of a buffer pool (R156). -/
def freeFld (pool : Nat) : Fld := F.FAB_QUE_FREE_FREE (pool % 4)

def State.takeCells (s : State) (pool n : Nat) : State := s.put (freeFld pool) (s.get (freeFld pool) - n)
def State.giveCells (s : State) (pool n : Nat) : State := s.put (freeFld pool) (s.get (freeFld pool) + n)

/-- The frames that a data sub-slot takes from the head of its list, the rest, and how many were longer than the sub-slot. -/
def dataPick (width : Nat) : Nat → List QFrame → List NFrame × List QFrame × Nat
  | _, [] => ([], [], 0)
  | room, q :: qs =>
    match q.frame with
    | .eth _ => dataPick width room qs
    | .native f =>
      if width < frameBlocks f then
        let r := dataPick width room qs
        (r.1, r.2.1, r.2.2 + 1)
      else if frameBlocks f ≤ room then
        let r := dataPick width (room - frameBlocks f) qs
        (f :: r.1, r.2.1, r.2.2)
      else ([], q :: qs, 0)

/-- The data sub-slot of the node's vehicle, while the role is ACTIVE or SOLO (R122, R127, R151). -/
def State.fillData (s : State) (x : BPort) : State :=
  match s.dataSlot x with
  | none => s
  | some e =>
    let mine := (s.fab.beam.filter fun (c : BPort × QFrame) => c.1 == x).map (·.2)
    let r := dataPick e.width e.width mine
    let s := { s with fab := { s.fab with
      beam := (s.fab.beam.filter fun (c : BPort × QFrame) => c.1 != x) ++ r.2.1.map fun q => (x, q) } }
    let s := s.giveCells 3 ((mine.map (·.cells)).sum - (r.2.1.map (·.cells)).sum)
    let s := if r.2.2 = 0 then s else (s.satAdd (F.BL_BEAM_QCNT_OVERSIZE x.line) r.2.2).raise (P.BEAM x.line) 6
    let s := if r.2.1.isEmpty then s else s.satInc (F.BL_BEAM_QCNT_DEFER x.line)
    s.insertFrames x (0x8000 + s.node) e.pos r.1

/-- An intrusion or a guard violation (R128, R134): block `b` of the window was not idle. -/
def State.intrusion (s : State) (x : BPort) (b : Nat) (guard : Bool) : State :=
  let s := if guard then (s.satInc (F.BL_BEAM_EVCNT_GUARD_ERR x.line)).raise (P.BEAM x.line) 4
    else (s.satInc (F.BL_BEAM_EVCNT_INTRUDE x.line)).raise (P.BEAM x.line) 3
  s.post (lineIsland x.line * 256 + 0x17) 3 (subject 3 (dirItem x)) (beBytes 2 b ++ beBytes 1 guard.toNat)

/-- A direction's window opens at the node (R114, R122, R126 to R128): an origin sends its marker; the node fills its own sub-slots
and forwards every other block. -/
def State.windowOpen (s : State) (x : BPort) (intrude guardErr : Option Nat) : State :=
  if !s.windowRuns x then s
  else
    let l := x.line
    let s := s.beamRefresh l
    let s := match guardErr with
      | some b => s.intrusion x b true
      | none => s
    let s := if s.originates x then
        let s := (s.emit (.beam x (some 0) (mkBeam 1 x s.node (markerData s.cycle s.epoch (s.segment x) (s.rd R.TOP_SLOT_DIGEST))))).inserted l
        if s.outbound x && s.timOn then s.markerCapture l s.cycle (s.segment x) else s
      else s
    let s := if s.mayInsert x then
        let s := match intrude with
          | some b => s.intrusion x b false
          | none => s
        (s.fillCtl x).fillData x
      else s
    s.beamRefresh l

/-! Markers (R115 to R118). -/

/-- A time in the cycle, moved by `d`. -/
def State.shiftPhase (s : State) (x : BPort) (d : Int) : State :=
  s.put (phaseFld x) (((s.get (phaseFld x) : Int) + d) % (s.cycleTicks : Int)).toNat

/-- The boundary moves to LEAD before the direction's opening and the count takes the marker's CYCLE (R115, R452). -/
def State.placeBoundary (s : State) (x : BPort) (cycle : Nat) : State :=
  let d : Int := (s.leadTicks : Int) - (s.get (phaseFld x) : Int)
  let s := allPorts.foldl (fun s y => if (s.dir y).run = 0 && !s.hasSpan y then s else s.shiftPhase y d) s
  let s := { s with beam := { s.beam with bound5 := ((s.beam.bound5 : Int) - 8 * d).toNat } }
  s.wr R.TOP_SLOT_CYCNT (BitVec.ofNat 32 cycle)

/-- The deviation of an arrival from the prediction, within half a cycle. -/
def State.deviation (s : State) (x : BPort) (arrival : Nat) : Int :=
  let c : Int := s.cycleTicks
  let d := ((arrival : Int) - (s.get (phaseFld x) : Int)) % c
  if c < 2 * d then d - c else d

/-- The digests of the direction differ now and did not before (R125, R134). -/
def State.judgeDigest (s : State) (x : BPort) (was : Bool) : State :=
  if s.digBad x && !was then
    (s.raise (P.BEAM x.line) 5).post (lineIsland x.line * 256 + 0x16) 3 (subject 3 (dirItem x))
      (beBytes 4 (s.rd R.TOP_SLOT_DIGEST).toNat ++ beBytes 4 ((s.dir x).mark.getD 0).toNat)
  else s

/-- The marker's digest against the active one (R125). -/
def State.markerDigest (s : State) (x : BPort) (digest : Word) : State :=
  (s.setDir x { s.dir x with mark := some digest }).judgeDigest x (s.digBad x)

/-- ERR of a direction: a deviation in units of 1.6 ns, saturating at −128 and +127. -/
def State.setErr (s : State) (x : BPort) (d : Int) : State :=
  s.put (errFld x) (satSigned 8 d)

/-- A step (R117): the phase is the observed arrival and insertion stops. -/
def State.stepPhase (s : State) (x : BPort) (d : Int) : State :=
  let s := ((s.shiftPhase x d).satInc (F.BL_BEAM_EVCNT_STEP x.line)).raise (P.BEAM x.line) 2
  let s := s.post (lineIsland x.line * 256 + 0x15) 2 (subject 3 (dirItem x)) (beBytes 4 (ofSigned 32 d))
  s.setDir x { s.dir x with run := 1, hold := 2 }

/-- LOCK_LOST (R118). -/
def State.noteLost (s : State) (x : BPort) (lost : Bool) : State :=
  if lost then
    (s.raise (P.BEAM x.line) 0).post (lineIsland x.line * 256 + 0x14) 2 (subject 3 (dirItem x))
      (beBytes 1 (s.get (F.BL_BEAM_EVCNT_MISS x.line)))
  else s

/-- A missing marker counts; a lost lock, or a miss between two first markers, starts over (R115, R118). -/
def State.missed (s : State) (x : BPort) (n : Nat) (lost : Bool) : State :=
  (s.satInc (F.BL_BEAM_EVCNT_MISS x.line)).setDir x
    { s.dir x with misses := n, run := if lost || (s.dir x).run == 1 then 0 else (s.dir x).run }

/-- No valid marker inside the span (R118, R134); a miss between two markers makes the next one the first again (R115). -/
def State.markerMissing (s : State) (x : BPort) (guardErr : Option Nat) : State :=
  if !s.windowRuns x || s.originates x then s
  else
    let l := x.line
    let was := s.locked115 x
    let s := match guardErr with
      | some b => s.intrusion x b true
      | none => s
    let n := min 15 ((s.dir x).misses + 1)
    let lost := decide (s.missMax l ≤ n)
    let s := s.missed x n lost
    (s.noteLost x (lost && was && !s.originates x)).beamRefresh l

/-- A marker within TRACK of its prediction: the direction is locked (R115, R117). RELOCK is raised whenever it was not, at the first
lock too (log entry 79). -/
def State.lockMarker (s : State) (x : BPort) (d : Int) : State :=
  let was := s.locked115 x
  let s := (s.shiftPhase x d).setDir x { s.dir x with run := 2, span := true, hold := min 1 (s.dir x).hold }
  if was then s else s.raise (P.BEAM x.line) 1

/-- A valid marker of the expected line and direction arrives at local cycle time `arrival`, in units of 1.6 ns (R113, R115, R117). -/
def State.markerAct (s : State) (x : BPort) (arrival : Nat) (b : BeamFrame) : State :=
  let l := x.line
  let cycle := beamNum b 0 4
  let seg := (b.data.getD 6 0).getLsbD 7
  let held := s.originates x
  let d := s.deviation x arrival
  let s := s.setDir x { s.dir x with misses := 0, org := held }
  let s := if (s.dir x).run = 0 && !held then
      (s.put (phaseFld x) (arrival % s.cycleTicks)).setDir x { s.dir x with run := 1 }
    else
      let s := s.setErr x d
      if d.natAbs ≤ s.track l then s.lockMarker x d else s.stepPhase x d
  let s := s.markerDigest x (BitVec.ofNat 32 (beamNum b 8 4))
  let s := if s.outbound x && s.boundaryLine = some l then s.placeBoundary x cycle else s
  let s := if s.outbound x && s.timOn then s.markerCapture l cycle seg else s
  s.beamRefresh l

/-- A marker arrives on the direction's upstream port (R117, R118, R133): inside the span it goes on; one that fails a check, or that
is not of the line and direction, is no valid marker. -/
def State.marker (s : State) (x : BPort) (arrival : Nat) (b : BeamFrame) : State :=
  if !s.windowRuns x || !s.bit (F.BL_P_STAT_LINK x.opposite) then s
  else
    let s := if s.inSpan x (s.deviation x arrival) then s.transit x 0 b else s
    let r := s.beamCheck x.line b
    if r.1 && b.kld / 16 == kldOf 1 x / 16 then r.2.markerAct x arrival b else r.2.markerMissing x none

/-! Probes (R116, R132). -/

/-- CUM of a probe sent on port `p`, the exit port of a direction. -/
def State.probeCum (s : State) (p : BPort) : Nat :=
  if s.originates p then 0
  else if !s.locked115 p || s.node = 0 || s.get (dcumFld p) = 0xFFFFFF then 0xFFFFFFFF
  else s.get (dcumFld p) + 3

/-- A port sends its probe, once every DLY_PER cycles (R116). -/
def State.probeSend (s : State) (p : BPort) (tTx : Nat) : State :=
  let o := s.beam.probe p
  if !s.linked p || o.wait != 0 then s
  else
    let e := o.last.getD (0, 0)
    let s := { s with beam := s.beam.setProbe p { o with wait := max 1 (s.get (F.BL_BEAM_CFG_DLY_PER p.line)) } }
    (s.emit (.beam p none (mkBeam 2 p s.node (probeData tTx e.1 e.2 (s.probeCum p))))).inserted p.line

/-- The mean delay of round trips, each twice a delay, to the nearest 1.6 ns (R116). -/
def meanDelay (ls : List Int) : Nat :=
  if ls.isEmpty then 0 else ((ls.sum + ls.length) / (2 * (ls.length : Int))).toNat

/-- A valid probe (R116): the link's delay, and the cumulative delay of the direction that enters at the port, to which the mean of the
link's delay counts (log entry 80). -/
def State.probeAct (s : State) (p : BPort) (tRx : Nat) (b : BeamFrame) : State :=
  let tTx := beamNum b 0 8
  let eTx := beamNum b 8 8
  let eRx := beamNum b 16 8
  let cum := beamNum b 24 4
  let o := s.beam.probe p
  let ls := if eTx = 0 then o.delays
    else ((((tRx : Int) - eTx) - ((tTx : Int) - eRx)) :: o.delays).take 4
  let s := { s with beam := s.beam.setProbe p { o with last := some (tTx, tRx), delays := ls } }
  let s := s.put (if p.side = 0 then F.BL_BEAM_LDLY_P1 p.line else F.BL_BEAM_LDLY_P2 p.line) (meanDelay ls)
  let x := p.opposite
  if s.originates x then s.put (dcumFld x) 0
  else s.put (dcumFld x) (if cum = 0xFFFFFFFF || ls.isEmpty then 0xFFFFFF else min 0xFFFFFE (cum + meanDelay ls))

/-- A probe arrives on a port: the engine consumes it (R116, R133). -/
def State.probeRx (s : State) (p : BPort) (tRx : Nat) (b : BeamFrame) : State :=
  if !s.linked p then s
  else
    let r := s.beamCheck p.line b
    if r.1 && beamKind b == 2 then r.2.probeAct p tRx b else r.2

/-- What the cycle boundary does to the beam engines: an origin that has received a marker stops (R113), a direction locked again may
insert (R117), and the ports count towards their next probes (R116). -/
def State.beamBoundary (s : State) : State :=
  let s := { s with beam := { s.beam with bound5 := s.mono5 } }
  (allPorts.foldl (fun s x =>
    let s := s.setDir x { s.dir x with org := false, hold := if (s.dir x).hold = 1 then 0 else (s.dir x).hold }
    let o := s.beam.probe x
    { s with beam := s.beam.setProbe x { o with wait := o.wait - 1 } }) s).beamRefreshAll

/-! Pending values (R110). -/

/-- A carried write of TOP_SLOT_CYC, LAYOUT or a policy entry: dropped while an attempt runs. -/
def State.slotPending (s : State) (q : Requester) (off : Nat) (v : Word) : State :=
  if s.phase != 0 then s.raise P.TOP_SLOT 4 else s.storePlain q off v

/-- A carried write of TOP_SLOT_ARM: the allocation is computed from the current numbering and the pending values (R124). -/
def State.slotArm (s : State) (q : Requester) (v : Word) : State :=
  s.locked q R.TOP_SLOT_ARM fun s =>
    if !v.getLsbD 0 then { s with beam := { s.beam with armed := none } }.wr R.TOP_SLOT_ARM 0
    else if !laterThan 32 (s.get F.TOP_SLOT_APPLY_K_K) s.cycle then s.raise P.TOP_SLOT 5
    else
      let a := if s.epoch = 0 then none
        else some (s.allocate 0 (s.get F.TOP_COUNT_NODES) (s.rd R.TOP_SLOT_CYC) (s.rd R.TOP_SLOT_LAYOUT))
      { s with beam := { s.beam with armed := a } }.wr R.TOP_SLOT_ARM 1

/-- The pending set becomes active with allocation `a` (R110); the markers' digests are judged again (R125). -/
def State.slotActivate (s : State) (a : Option Alloc) : State :=
  let was := s.digBad
  let s := (s.wr R.TOP_SLOT_ACT_CYC (s.rd R.TOP_SLOT_CYC)).wr R.TOP_SLOT_ACT_LAYOUT (s.rd R.TOP_SLOT_LAYOUT)
  let s := ({ s with beam := { s.beam with active := a, shadow := none, armed := none } }.wr R.TOP_SLOT_ARM 0).raise P.TOP_SLOT 0
  let s := match a with
    | none => ((s.wr R.TOP_SLOT_DIGEST 0).wr R.TOP_SLOT_STAT 0).wr R.TOP_SLOT_CAPHI 0
    | some a =>
      let s := (s.wr R.TOP_SLOT_DIGEST (allocDigest s.actCyc s.actLay a)).put F.TOP_SLOT_CAPHI_CAP_HI (a.cap / 65536)
      let s := ((s.putB F.TOP_SLOT_STAT_SCALED a.scaled).putB F.TOP_SLOT_STAT_CTL_SHORT a.ctlShort).putB F.TOP_SLOT_STAT_NOCLASS a.noClass
      let s := s.put F.TOP_SLOT_STAT_CAP_LO (a.cap % 65536)
      let s := if a.scaled then s.raise P.TOP_SLOT 1 else s
      let s := if a.ctlShort then s.raise P.TOP_SLOT 2 else s
      if a.noClass then s.raise P.TOP_SLOT 3 else s
  (allPorts.foldl (fun s x => s.judgeDigest x (was x)) s).beamRefreshAll

/-- The switch at the start of cycle TOP_SLOT_APPLY_K (R110). -/
def State.slotApply (s : State) : State :=
  if s.bit F.TOP_SLOT_ARM_ARM && s.get F.TOP_SLOT_APPLY_K_K == s.cycle then s.slotActivate s.beam.armed else s

/-! The commands. -/

def execWindowOpen (x : BPort) (intrude guardErr : Option Nat) (s : State) : Host.Outcome State Fault Refusal :=
  .next (s.windowOpen x intrude guardErr)
def execProbeSend (p : BPort) (tTx : Nat) (s : State) : Host.Outcome State Fault Refusal := .next (s.probeSend p tTx)
def execProbe (p : BPort) (tRx : Nat) (head : BeamHead) (hchk : Nat) (data : List Byte) (fcs : Nat) (s : State) :
    Host.Outcome State Fault Refusal :=
  .next (s.probeRx p tRx (head.frame hchk data fcs))

/-- ARM (R110): a write of TOP_SLOT_ARM. -/
def execArm (q : Requester) (v : Word) (s : State) : Host.Outcome State Fault Refusal :=
  .next (s.carry q R.TOP_SLOT_ARM v fun s => s.slotArm q v)

end Sys2Proof.Machine
end

