-- ==== Sys2Proof/Machine/FabOps.lean ====
section
/-!
DEFINITION. Forwarding as other chapters use it: queues and buffers, flow contexts and their keys, local delivery, publishing,
retargeting (R66, R67, R99 to R101, R138 to R156).
-/

namespace Sys2Proof.Machine

/-! Counters of a port in RAM (R155, R156): RX, TX (4 bytes each), NOBUF, QFULL, POLICE, NOVLAN, FCS, STOMP (2 bytes each). -/

def cntAddr (port : Nat) : Nat := 0x03160000 + 32 * port

/-- Count one in a big-endian count of `n` bytes that saturates. -/
def State.satMem (s : State) (a n : Nat) : State := s.wrNum a n (min (2 ^ (8 * n) - 1) (s.rdNum a n + 1))

/-- Count one in a big-endian count of `n` bytes that wraps. -/
def State.wrapMem (s : State) (a n : Nat) : State := s.wrNum a n (s.rdNum a n + 1)

def State.cntRx (s : State) (port : Nat) : State := s.wrapMem (cntAddr port) 4
def State.cntTx (s : State) (port : Nat) : State := s.wrapMem (cntAddr port + 4) 4

/-! Queues (R153, R156). -/

/-- The length of a frame on the wire in bytes (R136). -/
def wireLen : AnyFrame → Nat
  | .native f => max 64 (38 + f.payload.length)
  | .eth f => max 64 (18 + (if f.tag.isSome then 4 else 0) + (if f.rtag.isSome then 6 else 0) + f.payload.length)

/-- Cells that a frame occupies. -/
def cellsOf (f : AnyFrame) : Nat := (wireLen f + 255) / 256

/-- A frame for a queue. -/
def State.qframe (s : State) (f : AnyFrame) (pool : Nat) (ctx : Option Nat) : QFrame :=
  ⟨f, cellsOf f, pool, ctx, false, s.mono5, 0, 12⟩

/-- The frames in queue `q` of a port. -/
def State.queue (s : State) (port q : Nat) : List QFrame := stGet (fun _ => []) s.fab.queues (port * 8 + q)

def State.setQueue (s : State) (port q : Nat) (fs : List QFrame) : State :=
  { s with fab := { s.fab with queues := stSet (fun _ => []) s.fab.queues (port * 8 + q) fs } }

/-- Cells in a list of frames. -/
def cellsIn (fs : List QFrame) : Nat := (fs.map (·.cells)).sum

/-- MAXCELLS of a queue. -/
def State.maxCells (s : State) (port q : Nat) : Nat := stGet (fun _ => 0x0800) s.fab.maxCells (port * 8 + q)

/-- A frame that its pool has no room for is dropped, by ingress port (R156). -/
def State.noBuf (s : State) (ingress port q : Nat) : State :=
  ((s.satMem (cntAddr ingress + 8) 2).satMem (0x03170000 + 2 * (port * 8 + q)) 2).raise P.FAB_QUE 0

/-- A frame beyond MAXCELLS is dropped, by egress port (R156). -/
def State.qFull (s : State) (port q : Nat) : State :=
  ((s.satMem (cntAddr port + 10) 2).satMem (0x03170000 + 2 * (port * 8 + q)) 2).raise P.FAB_QUE 1

/-- Put a frame into a queue, or drop it (R156). -/
def State.enqueue (s : State) (ingress port q : Nat) (f : QFrame) : State :=
  if s.get (freeFld f.pool) < f.cells then s.noBuf ingress port q
  else if s.maxCells port q < cellsIn (s.queue port q) + f.cells then s.qFull port q
  else (s.takeCells f.pool f.cells).setQueue port q (s.queue port q ++ [{ f with ingress := ingress }])

/-! Bindings (R145). -/

/-- A numbering as bindings see it: its identity table, the node's own number and vehicle. -/
structure NumView where
  table : Nat
  node : Nat
  veh : Nat
  nodes : Nat

/-- The numbering in force. -/
def State.curView (s : State) : NumView := ⟨0, s.node, if s.node = 0 then 0 else s.get F.TOP_NODE_VEH, s.get F.TOP_COUNT_NODES⟩

/-- The shadow numbering. -/
def State.shadowView (s : State) : NumView :=
  match s.top.shadow with
  | some n => ⟨1, n.node, n.veh, n.nodes⟩
  | none => ⟨1, 0, 0, 0⟩

/-- The nodes of a vehicle, lower number first. -/
def State.nodesOfVeh (s : State) (w : NumView) (v : Nat) : List Nat :=
  if v = 0 then [] else ((List.range w.nodes).map (· + 1)).filter fun n => s.identVeh w.table n == v

/-- NODE_A, NODE_B, VEH, STAT of a bind entry (R98). -/
def State.bindRes (s : State) (w : NumView) (i : Nat) : Nat × Nat × Nat × Nat :=
  let a := if w.table = 1 then 0x10180000 + 8 * i else 0x10100000 + 16 * i + 10
  (s.rdNum a 2, s.rdNum (a + 2) 2, s.rdNum (a + 4) 1, s.rdNum (a + 5) 1)

/-- SRC_A and SRC_B (R145). -/
def State.resolveSrc (s : State) (w : NumView) (bind : Nat) : Nat × Nat :=
  let v := bind % 1024
  match bind / 16384 with
  | 0 => (v % 512, 0)
  | 1 => let r := s.bindRes w v; (r.1, r.2.1)
  | 2 => (w.node, 0)
  | _ => let ns := s.nodesOfVeh w w.veh; (ns.getD 0 0, ns.getD 1 0)

/-- The resolved destination (R145): ATYPE in bits 15:13 and the value. -/
def State.resolveDst (s : State) (w : NumView) (bind : Nat) : Nat :=
  let at' := bind / 8192
  let v := bind % 1024
  at' * 8192 + (match bind / 2048 % 4 with
    | 0 => if at' = 3 ∨ at' = 4 then 0 else v % 512
    | 1 => let r := s.bindRes w v; if at' = 0 then r.1 else r.2.2.1
    | 2 => w.node
    | _ => w.veh)

/-- A bound destination is absent (R101). -/
def State.dstAbsent (s : State) (w : NumView) (bind : Nat) : Bool :=
  bind / 2048 % 4 == 1 && (s.bindRes w (bind % 1024)).2.2.2 % 2 == 0

/-! Lookup keys (R146). -/

/-- The set of a key. -/
def keySet (cls src flow : Nat) : Nat := crc 16 0x1021 0xFFFF (beBytes 4 (cls * 2097152 + src * 4096 + flow)) % 8192

/-- The EPM bit of a numbering: identity table 0 current, 1 shadow, 2 previous. -/
def Way.inTable (w : Way) (t : Nat) : Bool := match t with
  | 0 => w.cur
  | 1 => w.shadow
  | _ => w.prev

/-- The context of a key in the numbering of identity table `t`. -/
def State.lookupKey (s : State) (t cls src flow : Nat) : Option Nat :=
  ((s.waysOf (keySet cls src flow)).find? fun w => w.cls == cls && w.src == src && w.flow == flow && w.inTable t).map (·.ctx)

/-- Let a context hold a key in the current (or the shadow) numbering; none: its set has no free way, or another context holds the key
there already (R143; log entry 85). -/
def State.insertKey (s : State) (shadow : Bool) (i cls src flow : Nat) : Option State :=
  let set := keySet cls src flow
  let ws := s.waysOf set
  let same := fun (w : Way) => w.cls == cls && w.src == src && w.flow == flow && w.ctx == i
  if ws.any fun w => w.cls == cls && w.src == src && w.flow == flow && w.ctx != i && w.inTable (if shadow then 1 else 0) then none
  else if ws.any same then
    some (s.setWays set (ws.map fun w => if same w then { w with cur := w.cur || !shadow, shadow := w.shadow || shadow } else w))
  else if ws.length < 4 then some (s.setWays set (ws ++ [⟨cls, src, flow, i, !shadow, false, shadow⟩]))
  else none

/-- An insertion failed (R146). -/
def State.hashFull (s : State) (i cls src flow : Nat) : State :=
  let s := ((s.satInc F.FAB_FLOW_STAT_HASHFULL_CNT).raise P.FAB_FLOW 1).setStat i 2 true
  s.post 0x0311 3 (subject 1 i) (beBytes 4 (cls * 2097152 + src * 4096 + flow))

/-- Free the keys of a context. -/
def State.freeKeys (s : State) (i : Nat) : State :=
  s.mapWays fun w => if w.ctx = i then { w with cur := false, prev := false, shadow := false } else w

/-- The keys of a context for its sources. -/
def keySources (a b : Nat) : List Nat := [a, b].filter (· != 0)

/-! Duplicate discard (R66, R67). -/

/-- The AGE in force, in ns. -/
def State.ldupAge (s : State) : Nat := clampNat 1 1000 (s.get F.FAB_LDUP_CFG_AGE) * 1000000

/-- Replace or add a key. -/
def State.ldupPut (s : State) (k : LdupKey) : State :=
  let rest := s.fab.ldup.filter fun e => !(e.epoch == k.epoch && e.src == k.src && e.cls == k.cls && e.flow == k.flow)
  let s := { s with fab := { s.fab with ldup := rest ++ [k] } }
  s.put F.FAB_LDUP_STAT_IN_USE s.fab.ldup.length

/-- Make room for a new key: the least recently seen one goes (R67). -/
def State.ldupRoom (s : State) : State :=
  if s.fab.ldup.length < 8192 then s
  else
    let oldest := s.fab.ldup.foldl (fun m e => min m e.last) (s.mono + 1)
    let s := { s with fab := { s.fab with ldup := s.fab.ldup.eraseP fun e => e.last == oldest } }
    let s := (s.satInc F.FAB_LDUP_STAT_EVICT_CNT).raise P.FAB_LDUP 0
    s.post 0x0312 2 (subject 6 0) (beBytes 2 (s.get F.FAB_LDUP_STAT_EVICT_CNT))

/-- Count an accepted first copy. -/
def State.ldupFirst (s : State) (f : NFrame) : State :=
  match f.line with
  | .a => s.wrapInc F.LDUP_FIRST_A_CNT
  | .b => s.wrapInc F.LDUP_FIRST_B_CNT

/-- R66: whether the copy is accepted, and the table afterwards. -/
def State.ldup (s : State) (f : NFrame) : Bool × State :=
  if !s.bit F.FAB_LDUP_CFG_EN then (true, s)
  else match s.fab.ldup.find? fun e => e.epoch == f.epoch && e.src == f.src && e.cls == f.cls && e.flow == f.flow with
  | none =>
    let s := s.ldupRoom.ldupPut ⟨f.epoch, f.src, f.cls, f.flow, f.seq, 1, s.mono⟩
    (true, s.ldupFirst f)
  | some e =>
    let d := (e.top + 65536 - f.seq % 65536) % 65536
    if d < 32 ∧ e.map.testBit d then (false, (s.ldupPut { e with last := s.mono }).wrapInc F.LDUP_DISCARD_CNT)
    else if d < 32 then (true, (s.ldupPut { e with map := e.map ||| 2 ^ d, last := s.mono }).ldupFirst f)
    else if 32768 < d then
      (true, (s.ldupPut { e with map := (e.map * 2 ^ (min 32 (65536 - d)) % 2 ^ 32) ||| 1, top := f.seq, last := s.mono }).ldupFirst f)
    else
      let s := (s.ldupPut { e with map := 1, top := f.seq, last := s.mono }).wrapInc F.LDUP_RSEQ_CNT
      (true, (s.raise P.FAB_LDUP 1).ldupFirst f)

/-! Addresses (R139, R140). -/

/-- The address of a frame matches the node, in the numbering of identity table `t` (R139). -/
def State.addressed (s : State) (t : Nat) (f : NFrame) : Bool :=
  let w := if t = 1 then s.shadowView else s.curView
  let own := if t = 2 then s.nodeOfSerial 2 s.serial else w.node
  let veh := if t = 2 then (if own = 0 then 0 else s.identVeh 2 own) else w.veh
  match f.atype with
  | 0 => own != 0 && f.dst == own
  | 1 => veh != 0 && f.dst == veh
  | 2 => (s.rd (R.FAB_CTRL_GRP (f.dst / 32 % 16))).getLsbD (f.dst % 32)
  | 3 => true
  | 4 => veh != 0 && f.src != own && f.src != 0 && s.identVeh t f.src == veh
  | 5 => (s.rd (R.FAB_CTRL_FUNC (f.dst / 32 % 16))).getLsbD (f.dst % 32) && (s.role == 1 || s.role == 4)
  | _ => false

/-- The exit ports of a line for a frame that the node originates (R140): towards the destination where it is numbered. -/
def State.exitPorts (s : State) (l : Line) (atype dst : Nat) : List BPort :=
  let out := s.outPort l
  let both := [l.port false, l.port true]
  let towards := fun (n : Nat) => if n = 0 ∨ n = s.node ∨ s.node = 0 ∨ s.get F.TOP_COUNT_NODES < n then both
    else if s.node < n then [out] else [out.opposite]
  match atype with
  | 0 => towards dst
  | 1 => towards (((s.nodesOfVeh s.curView dst).filter (· != s.node)).getD 0 0)
  | 4 => towards (((s.nodesOfVeh s.curView s.curView.veh).filter (· != s.node)).getD 0 0)
  | _ => both

/-! Submission and publication (R150 to R152). -/

/-- The payload last submitted to a context. -/
def State.submitted (s : State) (i : Nat) : Option (List Byte) := stGet (fun _ => none) s.fab.subm i

/-- The frame of a context that waits in a list takes a new content and keeps its position (R152). -/
def putInPlace (i : Nat) (n : QFrame) (qs : List QFrame) : List QFrame :=
  qs.map fun q => if q.ctx == some i then { q with frame := n.frame, cells := n.cells } else q

/-- The frame of a context that waits in a list, if a frame of the class is replaced at all (R152). -/
def waiting (i cls : Nat) (qs : List QFrame) : Option QFrame := if cls = 0 then qs.find? fun q => q.ctx == some i else none

/-- Where a frame in a beam list belongs: class P frames first, in ascending context index, then class M frames in submission order
(R151). -/
def beamRank (q : QFrame) : Nat :=
  match q.frame with
  | .native f => if f.cls = 0 then q.ctx.getD 0 else 4096
  | .eth _ => 4096

/-- Put a frame into a beam list. -/
def beamInsert (x : BPort) (q : QFrame) : List (BPort × QFrame) → List (BPort × QFrame)
  | [] => [(x, q)]
  | e :: es => if e.1 = x ∧ beamRank q < beamRank e.2 then (x, q) :: e :: es else e :: beamInsert x q es

/-- One frame waiting more in a publication's beam list, or the one there is replaced (R152). -/
def State.toBeamList (s : State) (x : BPort) (i : Nat) (f : NFrame) : State :=
  let mine := (s.fab.beam.filter fun (c : BPort × QFrame) => c.1 == x).map (·.2)
  let n := s.qframe (.native (nfOnLine { f with beam := true } x.line)) 3 (some i)
  match waiting i f.cls mine with
  | some o =>
    if s.get (freeFld 3) + o.cells < n.cells then s.noBuf 12 x.idx (s.ctxTc i)
    else
      let s := (s.giveCells 3 o.cells).takeCells 3 n.cells
      let list := (s.fab.beam.filter fun (c : BPort × QFrame) => c.1 != x) ++ (putInPlace i n mine).map fun q => (x, q)
      { s with fab := { s.fab with beam := list } }.satMem (ctxAddr i + 52) 2
  | none =>
    if s.get (freeFld 3) < n.cells then s.noBuf 12 x.idx (s.ctxTc i)
    else
      let s := s.takeCells 3 n.cells
      { s with fab := { s.fab with beam := beamInsert x n s.fab.beam } }

/-- A publication into a queue, or in place of the one that waits there (R152). -/
def State.toQueue (s : State) (port q i : Nat) (f : NFrame) (l : Line) : State :=
  let n := s.qframe (.native (nfOnLine f l)) 3 (some i)
  match waiting i f.cls (s.queue port q) with
  | some o =>
    if s.get (freeFld 3) + o.cells < n.cells then s.noBuf 12 port q
    else if s.maxCells port q + o.cells < cellsIn (s.queue port q) + n.cells then s.qFull port q
    else
      (((s.giveCells 3 o.cells).takeCells 3 n.cells).setQueue port q (putInPlace i n (s.queue port q))).satMem (ctxAddr i + 52) 2
  | none => s.enqueue 12 port q n

/-- A context has a publication waiting (HELD, byte 34). -/
def State.heldNow (s : State) (i : Nat) : Bool :=
  (s.fab.beam.any fun e => e.2.ctx == some i) || s.fab.queues.any fun e => decide (e.1 < 96) && e.2.any fun q => q.ctx == some i

/-- The transmit ComId entries of a consist island that name a context. -/
def comAddr (h k : Nat) : Nat := 0x04000000 + 0x01000000 * h + 16 * k

/-- The Pd frame of the transmit entry at `a` (R159): the destination address is the multicast mapping of RFC 1112. -/
def State.pdFrame (s : State) (h a : Nat) (dataset : List Byte) : PdOut :=
  let ip := s.rdNum (a + 4) 4
  { dst := 0x01005E000000 + ip % 2 ^ 23, src := s.ownMac, dscp := s.get (F.CP_CTRL_TRDP_DSCP h), ttl := 64, df := true,
    srcIp := (s.rd (R.CP_CTRL_IP h)).toNat, dstIp := ip, port := s.get (F.CP_CTRL_TRDP_PORT h),
    etbTopo := (s.rd (R.CP_CTRL_ETBTOPO h)).toNat, opTopo := (s.rd (R.CP_CTRL_OPTOPO h)).toNat,
    comId := s.rdNum a 4, seq := s.rdNum (a + 12) 4, dataset := dataset }

/-- Pd frames of the transmit entries that name the context (R159). -/
def State.pdTransmit (s : State) (i : Nat) (dataset : List Byte) : State :=
  [0, 1].foldl (fun s h =>
    if !s.isOn (I.CPA + h) then s
    else ((List.range 512).filter fun k =>
        (s.rdByte (comAddr h k + 10)).getLsbD 7 && (s.rdByte (comAddr h k + 10)).getLsbD 6 && s.rdNum (comAddr h k + 8) 2 % 4096 == i).foldl
      (fun s k =>
        let a := comAddr h k
        let s := ((List.range 4).filter fun p => (s.rdByte (a + 11)).getLsbD p).foldl (fun s p =>
          if s.bit (F.CP_P_STAT_LINK (4 * h + p)) then
            (s.emit (.pd (4 * h + p) (s.pdFrame h a dataset))).wrapInc (F.CP_CTRL_PDTX_FRAMES h)
          else s) s
        s.wrapMem (a + 12) 4) s) s

/-- Build and place a frame of a context from a payload (R150, R151). -/
def State.publish (s : State) (i : Nat) (payload : List Byte) : State :=
  let dst := s.ctxHalf i 12
  if s.epoch = 0 ∨ (s.ctxMirror i ∧ s.role ≠ 1 ∧ s.role ≠ 4) then s
  else if s.ctxStat i 5 then s.satMem (ctxAddr i + 54) 2
  else
    let f := mkFrame (s.ctxCls i) s.epoch s.node (dst / 8192) (dst % 512) (s.ctxFlow i) (s.ctxHalf i 20) payload
    let s := s.wrapMem (ctxAddr i + 20) 2
    let none' := dst / 8192 = 0 ∧ dst % 512 = 0
    let s := if none' then s
      else [Line.a, Line.b].foldl (fun s l =>
        (s.exitPorts l (dst / 8192) (dst % 512)).foldl (fun s x =>
          if !s.lineOpen l then s
          else if s.ctxBeam i && !s.bit (F.BL_BEAM_STAT_OFF l) then s.toBeamList x i f
          else s.toQueue x.idx (s.ctxTc i) i f l) s) s
    s.pdTransmit i payload

/-- A payload is submitted to a context: one with PERIOD 0 publishes it at once (R150). -/
def State.submit (s : State) (i : Nat) (payload : List Byte) : State :=
  if !s.ctxPublishes i then s
  else
    let s := { s with fab := { s.fab with subm := stSet (fun _ => none) s.fab.subm i (some payload) } }
    if s.ctxHalf i 24 % 4096 = 0 then s.publish i payload else s

/-- The publication events of the cycle that starts (R150). -/
def State.publications (s : State) : State :=
  s.validCtxs.foldl (fun s i =>
    let per := s.ctxHalf i 24 % 4096
    if s.ctxPublishes i && per != 0 && s.cycle % per == s.ctxHalf i 26 % 4096 then
      match s.submitted i with
      | some b => s.publish i b
      | none => s
    else s) s

/-! Receiving (R148). -/

/-- The pool of a received frame by its ingress port (R156). -/
def rxPool (ingress : Nat) : Nat := if ingress < 4 then 0 else 1

/-- Copies of a received frame to the LOCAL queue and to consist ports (R143): PORTMAP. -/
def State.portMap (s : State) (i ingress : Nat) (f : NFrame) : State :=
  let m := s.ctxHalf i 30
  let s := ((List.range 8).filter fun p => m.testBit p).foldl
    (fun s p => s.enqueue ingress (4 + p) (s.ctxTc i) (s.qframe (.native f) (rxPool ingress) none)) s
  if m.testBit 8 then
    s.enqueue ingress 12 (s.ctxByte i 33 % 8) { s.qframe (.native f) (rxPool ingress) (some i) with mgt := s.ctxOwner i == 2 }
  else s

/-- Deliver to the owner of a context (R143). -/
def State.toOwner (s : State) (i ingress : Nat) (f : NFrame) : State :=
  match s.ctxOwner i with
  | 0 => s.pdTransmit i (f.payload.take f.len)
  | 1 => s.emit (.deliver 1 i f)
  | 2 => s.enqueue ingress 12 (s.ctxByte i 33 % 8) { s.qframe (.native f) (rxPool ingress) (some i) with mgt := true }
  | _ => s.enqueue ingress 12 (s.ctxByte i 33 % 8) (s.qframe (.native f) (rxPool ingress) (some i))

/-- The acceptance of R148 for SEQ and sender; none: dropped as old. The number: what GAP_CNT gains. -/
def State.seqAccept (s : State) (i seq serial : Nat) : Option Nat :=
  if s.rdByte (0x03180000 + i) = 0 ∨ s.ctxStat i 6 ∨ s.rdNum (0x03190000 + 8 * i) 8 ≠ serial then some 0
  else
    let d := (seq + 65536 - s.ctxHalf i 22) % 65536
    if d = 0 then none
    else if d ≤ 32767 then some (d - 1)
    else if d ≤ 65504 then some 0
    else none

/-- A frame came from SRC_B of a context (R144), in the numbering of identity table `t`; the previous numbering's sender is found by its
module. -/
def State.fromB (s : State) (i t src serial : Nat) : Bool :=
  let n := if t = 2 then s.nodeOfSerial 0 serial else src
  let a := if t = 1 then 14 else 8
  n != 0 && n == s.ctxHalf i (a + 2) && n != s.ctxHalf i a

/-- A context accepts or drops a frame by its SEQ (R148) and, accepting it, delivers it; `lastB`: it came from SRC_B. -/
def State.ctxReceive (s : State) (i ingress seq : Nat) (lastB : Bool) (serial : Nat) (f : NFrame) : State :=
  match s.seqAccept i seq serial with
  | none => s.satMem (ctxAddr i + 50) 2
  | some gap =>
    let a := ctxAddr i
    let s := s.wrNum (a + 48) 2 (min 65535 (s.rdNum (a + 48) 2 + gap))
    let s := ((s.wrNum (a + 22) 2 seq).wrNum (a + 36) 8 s.mono).wrapMem (a + 44) 4
    let s := (s.wrByte (0x03180000 + i) 1).wrNum (0x03190000 + 8 * i) 8 serial
    let s := (s.setStat i 7 true).setStat i 6 false
    let s := s.setStat i 1 lastB
    (s.toOwner i ingress f).portMap i ingress f

/-! Policers (R155): configuration RATE, BURST in 4 bytes; drops in 4 bytes; the bucket's deficit in 10^−9 bytes; MONO of its last use. -/

/-- A frame of `len` bytes against policer `k`: whether it conforms, and the bucket afterwards. -/
def State.police (s : State) (k len : Nat) : Bool × State :=
  let rate := s.rdNum (0x03140000 + 4 * k) 2
  let burst := s.rdNum (0x03140000 + 4 * k + 2) 2 * 64 * 1000000000
  if k = 0 ∨ rate = 0 then (true, s)
  else
    let since := s.mono - s.rdNum (0x03158000 + 8 * k) 8
    let deficit := s.rdNum (0x03154000 + 8 * k) 8 - rate * 8000 * since
    if deficit + len * 1000000000 ≤ burst then
      (true, (s.wrNum (0x03154000 + 8 * k) 8 (deficit + len * 1000000000)).wrNum (0x03158000 + 8 * k) 8 s.mono)
    else (false, ((s.wrNum (0x03154000 + 8 * k) 8 deficit).wrNum (0x03158000 + 8 * k) 8 s.mono).wrapMem (0x03150000 + 4 * k) 4)

/-- A frame dropped by a policer, by ingress port. -/
def State.policed (s : State) (ingress : Nat) : State := (s.satMem (cntAddr ingress + 12) 2).raise P.FAB_POL 0

/-- Local delivery of a class 0 or 1 frame that R66 and R96 have accepted, resolved in identity table `t` (R148). -/
def State.localDeliver (s : State) (t ingress : Nat) (f : NFrame) : State :=
  if !s.addressed t f then s
  else match s.lookupKey t f.cls f.src f.flow with
  | none => if f.cls = 1 then s.emit (.message f) else s.satInc F.FAB_CNT_NATIVE_NOCTX
  | some i =>
    if !s.ctxReceives i then (if f.cls = 1 then s.emit (.message f) else s.satInc F.FAB_CNT_NATIVE_NOCTX)
    else
      let r := s.police (s.ctxByte i 32) (wireLen (.native f))
      if !r.1 then r.2.policed ingress
      else
        let serial := s.identSerial t f.src
        r.2.ctxReceive i ingress f.seq (s.fromB i t f.src serial) serial f

/-- A native frame with a good FCS and a good HCRC, after bridging: duplicate discard (R66), the epoch rules (R96), malformed headers
(R138), the address (R139), and the delivery of classes 0 and 1. Whether the frame goes on to an island (R28): one of class 3, 5 or 6;
classes 2 and 4 have reached TOP and TWN before (R69). -/
def State.nativeLocal (s : State) (ingress : Nat) (f : NFrame) : Bool × State :=
  let r := s.ldup f
  if !r.1 then (false, r.2)
  else
    let s := r.2
    let t := if f.cls = 2 ∧ f.epn ∨ f.cls = 4 ∧ !f.epn then some 0 else if f.cls = 2 then none else s.acceptTable f
    match t with
    | none => (false, if f.epn ∨ s.epoch = 0 ∨ f.cls = 2 then s.satInc F.TOP_EPDROP_BAD else s.satInc F.TOP_EPDROP_OLD)
    | some t =>
      if nfMalformed f then (false, (s.satInc F.FAB_CNT_NATIVE_BADHDR).raise P.FAB_CTRL 1)
      else if f.cls = 0 ∨ f.cls = 1 then (false, s.localDeliver t ingress f)
      else (s.addressed t f && (f.cls == 3 || f.cls == 5 || f.cls == 6), s)

/-! Retargeting (R99 to R101). -/

/-- Write a context's sources and destination for a numbering: bytes 8 to 13 (current) or 14 to 19 (shadow). -/
def State.writeTargets (s : State) (i : Nat) (w : NumView) : State :=
  let src := s.resolveSrc w (s.ctxHalf i 4)
  let dst := s.resolveDst w (s.ctxHalf i 6)
  let a := ctxAddr i + (if w.table = 1 then 14 else 8)
  ((s.wrNum a 2 src.1).wrNum (a + 2) 2 src.2).wrNum (a + 4) 2 dst

/-- Give a receiving context its keys in a numbering; a key without a free way is counted (R146). -/
def State.giveKeys (s : State) (i : Nat) (shadow : Bool) (a b : Nat) : State :=
  if !s.ctxReceives i then s
  else (keySources a b).foldl (fun s src =>
    match s.insertKey shadow i (s.ctxCls i) src (s.ctxFlow i) with
    | some s' => s'
    | none => s.hashFull i (s.ctxCls i) src (s.ctxFlow i)) s

/-- FAB writes every context's shadow fields and keys (R99). -/
def State.retarget (s : State) : State :=
  s.validCtxs.foldl (fun s i =>
    let s := (s.writeTargets i s.shadowView).setStat i 2 false
    let differs := s.rdBytes (ctxAddr i + 8) 6 != s.rdBytes (ctxAddr i + 14) 6
    (s.setStat i 4 differs).giveKeys i true (s.ctxHalf i 14) (s.ctxHalf i 16)) s

/-- SUSP of a context against the numbering in force (R101); the first suspension raises SUSPEND. -/
def State.setSusp (s : State) (i : Nat) : State :=
  let absent := s.ctxPublishes i && s.dstAbsent s.curView (s.ctxHalf i 6)
  let s := if absent && !s.ctxStat i 5 then s.raise P.FAB_FLOW 2 else s
  s.setStat i 5 absent

/-- At the flip every context changes to its shadow fields and every way moves its bits (R100, R146). -/
def State.flipContexts (s : State) : State :=
  let s := s.mapWays fun w => { w with prev := w.cur, cur := w.shadow, shadow := false }
  s.validCtxs.foldl (fun s i =>
    let s := s.wrBytes (ctxAddr i + 8) (s.rdBytes (ctxAddr i + 14) 6)
    ((s.wrNum (ctxAddr i + 14) 6 0).setStat i 4 false)) s

/-- The grace ends: previous keys go (R100, R146). -/
def State.graceKeys (s : State) : State := s.mapWays fun w => { w with prev := false }

/-- Every context that refers to a bind entry takes its result (R102). -/
def State.rebind (s : State) (k : Nat) : State :=
  s.validCtxs.foldl (fun s i =>
    let sb := s.ctxHalf i 4
    let db := s.ctxHalf i 6
    if (sb / 16384 = 1 ∧ sb % 1024 = k) ∨ (db / 2048 % 4 = 1 ∧ db % 1024 = k) then
      let s := (s.writeTargets i s.curView).mapWays fun w => if w.ctx = i then { w with cur := false } else w
      (s.giveKeys i false (s.ctxHalf i 8) (s.ctxHalf i 10)).setSusp i
    else s) s

end Sys2Proof.Machine
end

