-- ==== Sys2Proof/Machine/Fab.lean ====
section
/-!
DEFINITION. Forwarding and flows: receiving on backbone and consist ports, transmitting, the flow contexts' commands, banks, gates,
TRDP process data, IEEE 802.1CB recovery (R66 to R69, R133, R140 to R160).
-/

namespace Sys2Proof.Machine

/-! Gates (R154). The pending lists lie at 0x03110000 + 256 · port, the active ones at 0x03120000 + 256 · port, their lengths at
0x03130000 + port (pending), + 16 (active), the swap flags at + 32. An entry is 4 bytes: states, interval. -/

def gclLen (s : State) (port : Nat) : Nat := min 64 (s.rdByte (0x03130010 + port)).toNat

/-- Entry `e` of a port's active list: gate states and interval in units of 8 ns. -/
def gclEntry (s : State) (port e : Nat) : Nat × Nat :=
  ((s.rdByte (0x03120000 + 256 * port + 4 * e)).toNat, s.rdNum (0x03120000 + 256 * port + 4 * e + 1) 3)

/-- The active list as (start in ns, states), the last states holding until the boundary, where a longer list is cut off. -/
def gclSchedule (s : State) (port : Nat) : List (Nat × Nat) :=
  (((List.range (gclLen s port)).foldl (fun (r : List (Nat × Nat) × Nat) e =>
    let g := gclEntry s port e
    (r.1 ++ [(r.2, g.1)], r.2 + 8 * g.2)) ([], 0)).1).filter fun e => decide (e.1 < cycleUsOf s.actCyc * 1000)

/-- The gate states at `t` ns after the boundary. -/
def State.gatesAt (s : State) (port t : Nat) : Nat :=
  if gclLen s port = 0 then 0xFF
  else (gclSchedule s port).foldl (fun g e => if e.1 ≤ t then e.2 else g) 0xFF

/-- How many ns queue `q` stays open from `t` on, at most to the end of the next cycle. -/
def State.gateRoom (s : State) (port q t : Nat) : Nat :=
  let cyc := cycleUsOf s.actCyc * 1000
  if gclLen s port = 0 then 2 * cyc
  else
    let sch := gclSchedule s port
    let closes := (sch ++ sch.map fun e => (e.1 + cyc, e.2)).find? fun e => decide (t < e.1) && !e.2.testBit q
    (closes.map (·.1)).getD (2 * cyc) - t

/-- A pending list becomes active at the cycle boundary (R154). -/
def State.gateSwap (s : State) (port : Nat) : State :=
  if s.rdByte (0x03130020 + port) = 0 then s
  else
    let s := s.wrBytes (0x03120000 + 256 * port) (s.rdBytes (0x03110000 + 256 * port) 256)
    let s := (s.wrByte (0x03130010 + port) (s.rdByte (0x03130000 + port))).wrByte (0x03130020 + port) 0
    let total := ((List.range (gclLen s port)).map fun e => 8 * (gclEntry s port e).2).sum
    let s := s.raise P.FAB_GATE 0
    if cycleUsOf s.actCyc * 1000 < total then s.raise P.FAB_GATE 1 else s

def State.gateSwaps (s : State) : State := (List.range 12).foldl (fun s p => s.gateSwap p) s

/-- A carried write of FAB_GATE_CTRL: LEN of the selected port's pending list, and SWAP. -/
def State.gateCtrl (s : State) (q : Requester) (v : Word) : State :=
  s.locked q R.FAB_GATE_CTRL fun s =>
    let port := s.get F.FAB_GATE_SEL_PORT
    let s := s.wrByte (0x03130000 + port) (BitVec.ofNat 8 (min 64 (v.toNat % 128)))
    if v.getLsbD 8 then s.wrByte (0x03130020 + port) 1 else s

/-! Transmitting (R142, R153). -/

/-- The backbone port of index 0 to 3. -/
def bportOf : Nat → BPort
  | 0 => .la1
  | 1 => .la2
  | 2 => .lb1
  | _ => .lb2

/-- The time of one byte on a port, in tenths of a ns. -/
def State.byteTime (s : State) (port : Nat) : Nat :=
  if port < 4 then
    match s.get (F.BL_P_STAT_RATE (bportOf port)) with
    | 3 => 8
    | 2 => 16
    | 1 => 32
    | _ => 80
  else if s.bit (F.CP_P_STAT_SPEED (port - 4)) then 80 else 800
/-- A port of FAB has link. -/
def State.portLinked (s : State) (port : Nat) : Bool :=
  if port < 4 then s.linked (bportOf port)
  else if port < 12 then s.bit (F.CP_P_STAT_LINK (port - 4)) && s.isOn (I.CPA + (port - 4) / 4)
  else true

/-- When a frame that starts `late` tenths of a ns after a tick ends on a port, in ns after the tick. -/
def State.txTime (s : State) (port late : Nat) (f : AnyFrame) : Nat := (late + wireLen f * s.byteTime port + 9) / 10

/-- CORR of an outside-window time frame gains the ingress link's delay and the residence (R235). -/
def addCorr (f : NFrame) (gain16 : Nat) : NFrame :=
  if f.cls = 5 ∧ f.flow = 1 ∧ (f.payload.getD 14 0).getLsbD 7 then
    { f with payload := f.payload.take 16 ++ beBytes 8 (ofBytes (bytesAt f.payload 16 8) + gain16) ++ f.payload.drop 24 }
  else f

/-- Give a frame of a queue out on a port (R136). The spec gives a native frame no other form on a consist port, so a copy has the same
there (log entry 76). -/
def State.putOut (s : State) (port tc : Nat) (q : QFrame) : State :=
  match q.frame with
  | .native f =>
    let f := if q.pool = 0 then addCorr f ((q.link * 8 + (s.mono5 - q.at5)) * 65536 / 5) else f
    if port < 4 then s.emit (.native (bportOf port) (s.wire tc f))
    else if port < 12 then s.emit (.eth port (s.wire tc f))
    else s.emit (.deliver 2 (q.ctx.getD 4096) f)
  | .eth f =>
    let f := if 4 ≤ port ∧ port < 12 ∧ s.bit (F.CP_P_CFG_STRIP (port - 4)) then { f with rtag := none } else f
    s.emit (.eth port f)

/-- A frame of queue `q` that starts `late` tenths of a ns after this tick ends before its gate closes and, on a backbone port, before the transit span (R119, R153, R154). -/
def State.fitsNow (s : State) (late port q : Nat) (f : AnyFrame) : Bool :=
  let t := s.localTime / 5
  (s.gatesAt port t).testBit q && decide (s.txTime port late f ≤ s.gateRoom port q t)
    && (decide (4 ≤ port) || decide (5 * s.txTime port late f ≤ s.spanRoom (bportOf port)))

/-- Among the queues whose gate is open, the highest-numbered one sends its first frame, if it ends in time (R153); port 12 drains
the LOCAL queues' frames for the management pair. -/
def State.frameTransmit (s : State) (port late : Nat) : State :=
  if 12 < port || !s.portLinked port then s
  else
    let ready := fun q => match s.queue port q with
      | [] => false
      | f :: _ => if port = 12 then f.mgt else s.fitsNow late port q f.frame
    match [7, 6, 5, 4, 3, 2, 1, 0].find? ready with
    | none => s
    | some q => match s.queue port q with
      | [] => s
      | f :: fs => ((((s.setQueue port q fs).giveCells f.pool f.cells).cntTx port).putOut port q f)

/-! Receiving on the backbone. -/

/-- A frame that is received now is cut through to an egress port (R142). -/
def State.cutThrough (s : State) (ingress egress q : Nat) (f : AnyFrame) : Bool :=
  decide (egress < 12) && (s.get F.FAB_CTRL_CFG_CT_EN).testBit egress && s.portLinked egress
    && s.byteTime ingress == s.byteTime egress && (s.queue egress q).isEmpty && s.fitsNow 0 egress q f

/-- A good frame goes to an egress port: cut through, or stored in its queue (R142, R156). -/
def State.forward (s : State) (ingress egress q : Nat) (f : QFrame) : State :=
  if s.cutThrough ingress egress q f.frame then (s.cntTx egress).putOut egress q f else s.enqueue ingress egress q f

/-- A frame with a bad FCS (R142), for the egress ports it was to take: where it is cut through, it is ended with an inverted FCS;
stored, it is dropped. -/
def State.badFcs (s : State) (ingress q : Nat) (outs : List (Nat × AnyFrame)) : State :=
  let cut := outs.filter fun o => s.cutThrough ingress o.1 q o.2
  let s := if cut.isEmpty then s else cut.foldl (fun s o => s.emit (.stomped o.1)) (s.satMem (cntAddr ingress + 18) 2)
  if cut.isEmpty || decide (cut.length < outs.length) then s.satMem (cntAddr ingress + 16) 2 else s

/-- FAB forwards a native frame to the other port of its line (R140). -/
def State.bridge (s : State) (p : BPort) (pcp : Nat) (f : NFrame) : State :=
  let t := if f.cls = 4 then some 0 else s.acceptTable f
  let own := match t with
    | some 1 => s.shadowView.node
    | some 2 => s.nodeOfSerial 2 s.serial
    | some _ => s.node
    | none => 0
  if (f.cls = 2 ∧ f.epn) ∨ (f.atype = 0 ∧ own ≠ 0 ∧ f.dst = own) ∨ !s.linked p.opposite then s
  else
    let l := s.get (if p.side = 0 then F.BL_BEAM_LDLY_P1 p.line else F.BL_BEAM_LDLY_P2 p.line)
    s.forward p.idx p.opposite.idx (pcp % 8) { s.qframe (.native f) 0 none with link := l }

/-- A native frame received on a backbone port outside the window (R66 to R69, R138 to R142); the port counts a bad HCRC whether FAB
works or not. Whether the frame goes on to an island. -/
def State.backboneRx (s : State) (p : BPort) (pcp : Nat) (f : NFrame) (fcsOk : Bool) : Bool × State :=
  if !s.linked p then (false, s)
  else
    let fab := s.isOn I.FAB
    let s := if fab then s.cntRx p.idx else s
    if !fcsOk then
      let s := s.satInc (F.BL_P_ERR_FCS_ERR p)
      (false, if fab then s.badFcs p.idx (pcp % 8) [(p.opposite.idx, .native f)] else s)
    else if !nfCrcOk f then (false, s.satInc (F.BL_P_ERR_HCRC_ERR p))
    else if fab then (s.bridge p pcp f).nativeLocal p.idx f
    else (false, s)

/-- The native frame in a beam frame that passes its checks and is collected in the span (R121, R133); none: there is none, or it fails
its HCRC (R69). -/
def State.beamNative (s : State) (p : BPort) (b : BeamFrame) : Option NFrame :=
  let f := nfParse b.data
  if s.linked p && beamHeaderOk b && beamCrcOk b && beamKind b == 0 && s.hasSpan p.opposite && nfCrcOk f then some f else none

/-- A beam frame collected in the span (R121, R133): counted when bad, otherwise passed to FAB; it goes on in every case. Whether its
native frame goes on to an island. -/
def State.beamRx (s : State) (p : BPort) (pos : Nat) (b : BeamFrame) : Bool × State :=
  if !s.linked p then (false, s)
  else
    let x := p.opposite
    let r := (s.transit x pos b).beamCheck p.line b
    let s := r.2
    if !r.1 || beamKind b != 0 || !s.hasSpan x then (false, s)
    else
      let s := s.wrapInc (F.BL_BEAM_DLV_CNT p.line)
      let f := nfParse b.data
      if !nfCrcOk f then (false, s.satInc (F.BL_P_ERR_HCRC_ERR p))
      else if s.isOn I.FAB then s.nativeLocal p.idx f
      else (false, s)

/-- A key has not been seen for AGE (R67). -/
def State.ldupAgeOut (s : State) (epoch src cls flow : Nat) : State :=
  let s := { s with fab := { s.fab with
    ldup := s.fab.ldup.filter fun e => !(e.epoch == epoch && e.src == src && e.cls == cls && e.flow == flow) } }
  s.put F.FAB_LDUP_STAT_IN_USE s.fab.ldup.length

/-! Ethernet bridging (R141, R157, R160). -/

/-- The valid VLAN entry of a VID. -/
def State.vlanOf (s : State) (vid : Nat) : Option Nat :=
  (List.range 64).find? fun n => s.bit (F.FAB_CTRL_VLAN_W0_VALID n) && s.get (F.FAB_CTRL_VLAN_W0_VID n) == vid

/-- Learn a source address (R141). -/
def State.learn (s : State) (mac vid port : Nat) : State :=
  let rest := s.fab.fdb.filter fun e => !(e.mac == mac && e.vid == vid)
  if mac / 2 ^ 40 % 2 = 1 then s
  else if rest.length < 8192 then { s with fab := { s.fab with fdb := rest ++ [⟨mac, vid, port, s.mono⟩] } }
  else s.raise P.FAB_CTRL 0

/-- The ports that a frame may leave by: a backbone line's other port and consist ports, or for a consist port other consist ports
and the selected line. -/
def State.egressSet (s : State) (n port : Nat) : List Nat :=
  let member := fun p => (s.get (F.FAB_CTRL_VLAN_W0_MEMBERS n)).testBit p
  let line := (s.get (F.FAB_CTRL_VLAN_W0_LINE n))
  (List.range 12).filter fun p => p != port && member p && s.portLinked p &&
    (if port < 4 then decide (4 ≤ p) || p / 2 == port / 2 else decide (4 ≤ p) || p / 2 == line)

/-- Stream state of R160 at 0x031A0000 + 16 · stream: its identity (VALID, VID, MAC; 8 bytes), newest sequence number (2), history
(4), whether it runs (1); counts at 0x031B0000 + 4 · stream: DISCARD (2), ROGUE (1), RESETS (1). -/
def cbAddr (k : Nat) : Nat := 0x031A0000 + 16 * k

/-- The stream of a frame's source address and VLAN. -/
def State.streamOf (s : State) (mac vid : Nat) : Option Nat :=
  (List.range 256).find? fun k =>
    let hi := s.rdNum (cbAddr k) 4
    hi.testBit 31 && hi / 65536 % 4096 == vid && hi % 65536 * 2 ^ 32 + s.rdNum (cbAddr k + 4) 4 == mac

/-- Vector recovery with a history of 32 (R160): whether the copy goes on, and the stream afterwards. -/
def State.recover (s : State) (k seq : Nat) : Bool × State :=
  let a := cbAddr k
  let top := s.rdNum (a + 8) 2
  let map := s.rdNum (a + 10) 4
  let c := 0x031B0000 + 4 * k
  if s.rdByte (a + 14) = 0 then (true, ((s.wrNum (a + 8) 2 seq).wrNum (a + 10) 4 1).wrByte (a + 14) 1)
  else
    let d := toSigned 16 (seq + 65536 - top)
    if 32 ≤ d.natAbs then (false, (s.satMem (c + 2) 1).raise P.FAB_CBDUP 0)
    else if d ≤ 0 then
      if map.testBit d.natAbs then (false, s.satMem c 2)
      else (true, s.wrNum (a + 10) 4 (map ||| 2 ^ d.natAbs))
    else (true, (s.wrNum (a + 8) 2 seq).wrNum (a + 10) 4 (map * 2 ^ d.natAbs + 1))

/-- Recovery of a frame before it leaves on a consist port or is delivered. -/
def State.cbCheck (s : State) (vid : Nat) (f : EthFrame) : Bool × State :=
  if !s.bit F.FAB_CBDUP_CFG_EN then (true, s)
  else match f.rtag, s.streamOf f.src vid with
  | some seq, some k => s.recover k seq
  | _, _ => (true, s)

/-- The egress ports of a frame in VLAN entry `n` (R141), with its form on each: known unicast goes to its port, everything else floods.
A consist port takes no frame above 1,522 bytes (R157). -/
def State.ethOuts (s : State) (n port vid q : Nat) (f : EthFrame) : List (Nat × AnyFrame) :=
  let set := s.egressSet n port
  let outs := match s.fab.fdb.find? fun e => e.mac == f.dst && e.vid == vid with
    | some e => if f.dst / 2 ^ 40 % 2 = 1 then set else set.filter (· == e.port)
    | none => set
  (outs.map fun p =>
    (p, .eth (if (s.get (F.FAB_CTRL_VLAN_W1_UNTAG n)).testBit p then { f with tag := none } else { f with tag := some (q, vid) }))).filter
      fun o => decide (o.1 < 4) || decide (wireLen o.2 ≤ 1522)

/-- Bridge a frame in VLAN entry `n`. -/
def State.ethForward (s : State) (n port vid q : Nat) (f : EthFrame) : State :=
  (s.ethOuts n port vid q f).foldl (fun s o => s.forward port o.1 q (s.qframe o.2 (rxPool port) none)) s

/-- A frame that is not bridged here, received on a port of FAB (R54, R157): a MAC Control frame, or one that is too long. -/
def State.ethDiscard (s : State) (port : Nat) (f : EthFrame) : Bool × State :=
  if f.etype = 0x8808 then (true, if port < 4 then s else s.satInc (F.CP_P_ERR_MACCTL (port - 4)))
  else (decide (4 ≤ port ∧ 1522 < wireLen (.eth f)), s)

/-- A frame without FAB_ETYPE received on a port of FAB (R141, R142, R155, R160); whether it is used. -/
def State.ethBridge (s : State) (port : Nat) (f : EthFrame) (fcsOk : Bool) : Bool × State :=
  let s := s.cntRx port
  let dft := if port < 4 then (0, 1) else (s.get (F.CP_P_CFG_PCP (port - 4)), s.get (F.CP_P_CFG_PVID (port - 4)))
  let q := (f.tag.map (·.1)).getD dft.1
  let vid := (f.tag.map (·.2)).getD dft.2
  if !fcsOk then
    let s := if port < 4 then s.satInc (F.BL_P_ERR_FCS_ERR (bportOf port)) else s.satInc (F.CP_P_ERR_FCS_ERR (port - 4))
    (false, s.badFcs port q (match s.vlanOf vid with
      | some n => s.ethOuts n port vid q f
      | none => []))
  else
    let r := if port < 4 then (true, s) else s.police (s.get (F.CP_P_CFG_POLICER (port - 4))) (wireLen (.eth f))
    if !r.1 then (false, r.2.policed port)
    else match r.2.vlanOf vid with
    | none => (false, r.2.satMem (cntAddr port + 14) 2)
    | some n =>
      let s := r.2.learn f.src vid port
      let c := s.cbCheck vid f
      if c.1 then (true, c.2.ethForward n port vid q f) else c

/-- An IEEE 802.3 frame received on a port of FAB. One with FAB_ETYPE is a native frame (R136): on a backbone port it is received as
such, and on a consist port it is not bridged (R140, R141). -/
def State.ethRx (s : State) (port : Nat) (f : EthFrame) (fcsOk : Bool) : Bool × State :=
  if 12 ≤ port || !s.isOn I.FAB || !s.portLinked port then (false, s)
  else
    let r := s.ethDiscard port f
    if r.1 then (false, r.2)
    else if f.etype = s.get F.FAB_CTRL_ETYPE_ETYPE then (false, s.cntRx port)
    else s.ethBridge port f fcsOk

/-- An address has not been seen for AGE (R141). -/
def State.fdbAge (s : State) (mac vid : Nat) : State :=
  if s.get F.FAB_CTRL_AGE_AGE = 0 then s
  else { s with fab := { s.fab with fdb := s.fab.fdb.filter fun e => !(e.mac == mac && e.vid == vid) } }

/-- A carried write of FAB_CTRL_AGE: FLUSH empties the address table. -/
def State.fabAge (s : State) (q : Requester) (v : Word) : State :=
  s.locked q R.FAB_CTRL_AGE fun s =>
    let s := s.wr R.FAB_CTRL_AGE (v &&& 0xFFFF)
    if v.getLsbD 31 then { s with fab := { s.fab with fdb := [] } } else s

/-! The context window (R144, R147). -/

/-- The 64 bytes in FAB_FLOW_DATA. -/
def State.flowData (s : State) : List Byte := (List.range 16).flatMap fun n => beBytes 4 (s.rd (R.FAB_FLOW_DATA n)).toNat

/-- The configuration in 34 host bytes is invalid (R145). -/
def badFlow (b : List Byte) : Bool :=
  let h := fun k => ofBytes (bytesAt b k 2)
  let c := (b.getD 0 0).toNat
  let ty := c / 32 % 4
  let cls := (b.getD 1 0).toNat % 16
  let at' := h 6 / 8192
  let kind := h 6 / 2048 % 4
  let pub := ty == 0 || ty == 2
  let per := h 24 % 4096
  ty == 3 || decide (1 < cls) || (h 28 / 16384 == 3)
    || (ty == 0 && h 4 / 16384 != 2)
    || (pub && (decide (6 ≤ at') || (kind != 0 && decide (2 ≤ at')) || (kind == 2 && at' != 0) || (kind == 3 && at' != 1)))
    || ((b.getD 1 0).getLsbD 7 && !c.testBit 2)
    || (per != 0 && decide (per ≤ h 26 % 4096))

/-- The index of the page that a write of a context's bytes 0 to 7 or 24 to 33 leaves: the old bytes with the host's. -/
def hostBytes (old new : List Byte) : List Byte :=
  bytesAt new 0 8 ++ bytesAt old 8 16 ++ bytesAt new 24 10 ++ bytesAt old 34 30

/-- Drop what a context has waiting in queues and beam lists. -/
def State.dropHeld (s : State) (i : Nat) : State :=
  let mine := fun (q : QFrame) => q.ctx == some i && q.pool == 3
  let gone := (s.fab.queues.map fun e => cellsIn (e.2.filter mine)).sum + cellsIn ((s.fab.beam.map (·.2)).filter mine)
  let s := { s with fab := { s.fab with
    queues := (s.fab.queues.map fun (e : Nat × List QFrame) => (e.1, e.2.filter fun q => !mine q)).filter fun e => !e.2.isEmpty,
    beam := s.fab.beam.filter fun e => !mine e.2 } }
  s.giveCells 3 gone

/-- The keys of the new content, and whether another valid context holds one. -/
def State.dupKey (s : State) (i cls flow a b : Nat) : Bool :=
  (keySources a b).any fun src => match s.lookupKey 0 cls src flow with
    | some j => j != i
    | none => false

/-- The end of a context command: STATUS, and CMD_DONE. -/
def State.flowDone (s : State) (status : Nat) : State := (s.wr R.FAB_FLOW_CMD (BitVec.ofNat 32 (status * 2 ^ 28))).raise P.FAB_FLOW 3

/-- Write the context from FAB_FLOW_DATA (R147). -/
def State.flowWrite (s : State) (q : Requester) : State :=
  let i := s.get F.FAB_FLOW_SEL_INDEX
  let a := ctxAddr i
  let old := s.rdBytes a 64
  let new := hostBytes old s.flowData
  let valid := (new.getD 0 0).getLsbD 7
  let was := s.ctxValid i
  let ownerOf := fun (b : List Byte) => (b.getD 0 0).toNat / 8 % 4
  let ident := fun (b : List Byte) => ((b.getD 1 0).toNat % 16, bytesAt b 2 6)
  let changed := ident old != ident new
  let h := fun k => ofBytes (bytesAt new k 2)
  let src := s.resolveSrc s.curView (h 4)
  let recv := valid && ((new.getD 0 0).toNat / 32 % 4 == 1 || (new.getD 0 0).toNat / 32 % 4 == 2)
  if q ≠ .firmware ∧ (ownerOf old = 2 ∨ ownerOf new = 2) then s.flowDone 4
  else if changed ∧ s.phase ≠ 0 then s.flowDone 5
  else if valid && badFlow new then s.flowDone 3
  else if recv && s.dupKey i ((new.getD 1 0).toNat % 16) (h 2 % 4096) src.1 src.2 then s.flowDone 1
  else
    let clean := s.mapWays fun w => if w.ctx = i then { w with cur := false, prev := w.prev && !changed } else w
    let keys := if recv then keySources src.1 src.2 else []
    let place := fun (o : Option State) k => o.bind fun s => s.insertKey false i ((new.getD 1 0).toNat % 16) k (h 2 % 4096)
    match keys.foldl place (some clean) with
    | none =>
      let full := keys.find? fun k => (place (some clean) k).isNone
      (s.hashFull i ((new.getD 1 0).toNat % 16) (full.getD src.2) (h 2 % 4096)).flowDone 2
    | some s =>
      let s := s.wrBytes a new
      let s := if valid then (s.writeTargets i s.curView).setStat i 2 false else (s.freeKeys i).dropHeld i
      let s := s.wrNum (a + 36) 8 s.mono
      let s := if changed then
          let s := (s.wrNum (a + 22) 2 0).wrNum (a + 44) 14 0
          (s.setStat i 7 false).setStat i 6 false
        else s
      let s := s.wrByte (0x03180000 + i) 0
      let s := if valid then s.setSusp i
        else { s with fab := { s.fab with subm := stSet (fun _ => none) s.fab.subm i none } }
      (s.put F.FAB_FLOW_STAT_IN_USE (s.get F.FAB_FLOW_STAT_IN_USE + valid.toNat - was.toNat)).flowDone 0

/-- Read the context into FAB_FLOW_DATA; HELD shows whether a publication waits. -/
def State.flowRead (s : State) : State :=
  let i := s.get F.FAB_FLOW_SEL_INDEX
  let s := s.setStat i 3 (s.heldNow i)
  ((List.range 16).foldl (fun s n => s.wr (R.FAB_FLOW_DATA n) (BitVec.ofNat 32 (s.rdNum (ctxAddr i + 4 * n) 4))) s).flowDone 0

/-- Clear bytes 44 to 57 of the context. -/
def State.flowClear (s : State) : State := (s.wrNum (ctxAddr (s.get F.FAB_FLOW_SEL_INDEX) + 44) 14 0).flowDone 0

/-- A carried write of FAB_FLOW_CMD: READ is open to all, WRITE and CLRCNT are lockable. -/
def State.flowCmd (s : State) (q : Requester) (v : Word) : State :=
  let s := s.locked q R.FAB_FLOW_CMD fun s =>
    let s := if v.getLsbD 1 then s.flowWrite q else s
    if v.getLsbD 2 then s.flowClear else s
  if v.getLsbD 0 then s.flowRead else s

/-- A context's validity runs out once its last frame, or its last write, is longer ago than TIMEOUT (R149); its owner hears of it. -/
def State.ctxExpire (s : State) (i : Nat) : State :=
  if !s.isOn I.FAB || !s.ctxValid i || s.ctxTimeout i == 0 || s.ctxStat i 6
    || decide (s.mono - s.rdNum (ctxAddr i + 36) 8 ≤ s.ctxTimeout i) then s
  else
    let a := ctxAddr i
    let s := ((s.setStat i 7 false).setStat i 6 true).satMem (a + 56) 2
    let s := (s.satInc F.FAB_FLOW_LASTEXP_EXP_TOTAL).put F.FAB_FLOW_LASTEXP_INDEX i
    let s := (s.raise P.FAB_FLOW 0).post 0x0310 1 (subject 1 i) (beBytes 8 (s.mono - s.rdNum (a + 36) 8))
    s.emit (.expired (s.ctxOwner i) i)

/-! Banks (R156). -/

/-- The pool of a bank. -/
def State.bankPool (s : State) (b : Nat) : Nat :=
  (s.rd (if b < 16 then R.FAB_QUE_BANK_LO else R.FAB_QUE_BANK_HI)).toNat / 4 ^ (b % 16) % 4

/-- A carried write of BANK_LO or BANK_HI: a bank whose pool changes waits to move; one that has left its pool for good does not. -/
def State.bankWrite (s : State) (q : Requester) (hi : Bool) (v : Word) : State :=
  let r := if hi then R.FAB_QUE_BANK_HI else R.FAB_QUE_BANK_LO
  s.locked q r fun s =>
    let old := s.rd r
    let banks := (List.range 16).filter fun k => old.toNat / 4 ^ k % 4 != v.toNat / 4 ^ k % 4
    let s := banks.foldl (fun s k =>
      let b := if hi then 16 + k else k
      if (s.rd R.FAB_QUE_RETIRED).getLsbD b then s
      else
      let s := if s.fab.moving.any fun e => e.1 == b then s
        else { s with fab := { s.fab with moving := s.fab.moving ++ [(b, old.toNat / 4 ^ k % 4)] } }
      s.wr R.FAB_QUE_MOVING (s.rd R.FAB_QUE_MOVING ||| BitVec.ofNat 32 (2 ^ b))) s
    s.wr r v

/-- The bank is under test (R415). -/
def State.bankTested (s : State) (b : Nat) : Bool := match s.hlt.test with
  | some t => t.kind == 0 && t.macroNo == b
  | none => false

/-- The bank under test is drained: it leaves its pool and its march starts. While it is out of its pool it does not move. -/
def State.bankDrained (s : State) (b pool : Nat) : State :=
  if s.get F.HLT_BIST_STAT_STATE ≠ 1 then s
  else
    let s := { s with fab := { s.fab with moving := s.fab.moving.filter fun m => m.1 != b } }
    ((s.wr R.FAB_QUE_MOVING (s.rd R.FAB_QUE_MOVING &&& ~~~BitVec.ofNat 32 (2 ^ b))).takeCells pool 1024).put
      F.HLT_BIST_STAT_STATE 2

/-- All cells of a waiting bank are free (R156): it joins its new pool, it is retired, or its test starts. -/
def State.bankMoved (s : State) (b : Nat) : State :=
  match s.fab.moving.find? fun e => e.1 == b with
  | none => s
  | some e =>
    if s.get (freeFld e.2) < 1024 then s
    else if s.bankTested b then s.bankDrained b e.2
    else
      let s := { s with fab := { s.fab with moving := s.fab.moving.filter fun m => m.1 != b } }
      let s := (s.wr R.FAB_QUE_MOVING (s.rd R.FAB_QUE_MOVING &&& ~~~BitVec.ofNat 32 (2 ^ b))).takeCells e.2 1024
      let s := if (s.rd R.FAB_QUE_RETIRED).getLsbD b then s else s.giveCells (s.bankPool b) 1024
      (s.raise P.FAB_QUE 2).post 0x0313 1 (subject 2 b) (beBytes 1 (s.bankPool b))

/-- A bank leaves its pool for good (R156, R422). -/
def State.retireBank (s : State) (b : Nat) : State :=
  let s := s.wr R.FAB_QUE_RETIRED (s.rd R.FAB_QUE_RETIRED ||| BitVec.ofNat 32 (2 ^ b))
  if s.fab.moving.any fun e => e.1 == b then s
  else
    let s := { s with fab := { s.fab with moving := s.fab.moving ++ [(b, s.bankPool b)] } }
    s.wr R.FAB_QUE_MOVING (s.rd R.FAB_QUE_MOVING ||| BitVec.ofNat 32 (2 ^ b))

/-! Consist ports and TRDP (R157 to R159). -/

/-- A consist port's link changes. -/
def State.cpLink (s : State) (port : Nat) (up fast : Bool) : State :=
  if 8 ≤ port || !s.isOn (I.CPA + port / 4) then s
  else
    let s := (s.putB (F.CP_P_STAT_LINK port) up).putB (F.CP_P_STAT_SPEED port) (up && fast && s.bit (F.CP_P_CFG_G1 port))
    let s := (s.satInc (F.CP_P_STAT_LINK_CHG port)).raise (P.CP_P port) 0
    s.post ((I.CPA + port / 4) * 256 + 0x10) 1 (subject (1 + port % 4) port) (beBytes 1 up.toNat ++ beBytes 1 (s.get (F.CP_P_STAT_SPEED port)))

/-- A Pd frame that fails a check (R158): cause 0 HFCS, 1 TOPO, 2 FORMAT. -/
def State.pdErr (s : State) (port cause comId : Nat) : State :=
  let h := port / 4
  let s := match cause with
    | 0 => (s.satInc (F.CP_CTRL_PDERR_HFCS h)).raise (P.CP_CTRL h) 0
    | 1 => (s.satInc (F.CP_CTRL_PDERR_TOPO h)).raise (P.CP_CTRL h) 1
    | _ => s.satInc (F.CP_CTRL_PDERR_FORMAT h)
  s.post ((I.CPA + h) * 256 + 0x11) 2 (subject 0 port) (beBytes 1 cause ++ beBytes 4 comId)

/-- A dataset goes to the context of a receive entry (R159). -/
def State.pdUse (s : State) (port ctx seq : Nat) (dataset : List Byte) : State :=
  if s.ctxValid ctx && s.ctxType ctx == 0 then
    (if s.ctxOwner ctx = 0 then s.submit ctx dataset else s)
  else if s.ctxReceives ctx then
    let f := mkFrame (s.ctxCls ctx) s.epoch 0 3 0 (s.ctxFlow ctx) (seq % 65536) dataset
    let r := s.police (s.ctxByte ctx 32) (wireLen (.native f))
    if r.1 then r.2.ctxReceive ctx (4 + port) (seq % 65536) false 0 f else r.2.policed (4 + port)
  else s

/-- The format of a Pd frame is wrong (R158): the major version, the lengths, or the UDP checksum. -/
def badPd (f : PdFrame) : Bool :=
  f.major != 1 || !f.sumOk || f.udpLength != f.datasetLength + 40 || decide (1432 < f.datasetLength) || f.datasetLength != f.dataset.length

/-- A Pd frame's topology counters do not fit the node's; 0 always fits (R158). -/
def State.badTopo (s : State) (h : Nat) (f : PdFrame) : Bool :=
  (f.etbTopo != 0 && f.etbTopo != (s.rd (R.CP_CTRL_ETBTOPO h)).toNat) || (f.opTopo != 0 && f.opTopo != (s.rd (R.CP_CTRL_OPTOPO h)).toNat)

/-- The first receive entry that matches a Pd frame received on a port (R159). -/
def State.comEntry (s : State) (port : Nat) (f : PdFrame) : Option Nat :=
  (List.range 512).find? fun k =>
    let a := comAddr (port / 4) k
    (s.rdByte (a + 10)).getLsbD 7 && !(s.rdByte (a + 10)).getLsbD 6 && (s.rdByte (a + 11)).getLsbD (port % 4)
      && s.rdNum a 4 == f.comId && (s.rdNum (a + 4) 4 == 0 || s.rdNum (a + 4) 4 == f.srcIp)

/-- A Pd frame is parsed (R158, R159). -/
def State.pdParse (s : State) (port : Nat) (f : PdFrame) : State :=
  let h := port / 4
  if !f.hfcsOk then s.pdErr port 0 f.comId
  else if badPd f then s.pdErr port 2 f.comId
  else if s.badTopo h f then s.pdErr port 1 f.comId
  else match s.comEntry port f with
  | none => (s.satInc (F.CP_CTRL_PDERR_NOCOMID h)).raise (P.CP_CTRL h) 2
  | some k =>
    let a := comAddr h k
    let s := (s.wrNum (a + 12) 4 f.seqCount).wrapInc (F.CP_CTRL_PDRX_FRAMES h)
    if s.isOn I.FAB then s.pdUse port (s.rdNum (a + 8) 2 % 4096) f.seqCount f.dataset else s

/-- A TRDP frame received on a consist port (R158): bridged as any other (R141, R160); then a Pd frame on PORT is parsed, other process
data on PORT and message data on PORT + 1 are passed whole to firmware or to the host. -/
def State.pdRx (s : State) (port : Nat) (e : EthFrame) (fcsOk : Bool) (f : PdFrame) : State :=
  let h := port / 4
  if 8 ≤ port || !s.isOn (I.CPA + h) || !s.bit (F.CP_P_STAT_LINK port) then s
  else
    let r := if s.isOn I.FAB then s.ethRx (4 + port) e fcsOk else (fcsOk, s)
    let base := s.get (F.CP_CTRL_TRDP_PORT h)
    if !r.1 || !s.bit (F.CP_CTRL_TRDP_EN h) || !f.ipOk then r.2
    else if f.type = .pd ∧ f.udp ∧ f.port = base then r.2.pdParse port f
    else if (f.type = .message ∧ f.port = base + 1) ∨ (f.type ≠ .pd ∧ f.type ≠ .message ∧ f.udp ∧ f.port = base) then
      r.2.emit (.trdp (s.bit (F.CP_CTRL_TRDP_PR_FW h)) port e)
    else r.2

/-- A carried write of CDATA3 (R159): the selected entry takes the four words; a transmit entry with a unicast address is refused. -/
def State.comIdWrite (s : State) (q : Requester) (h : Nat) (v : Word) : State :=
  s.locked q (R.CP_CTRL_CDATA h 3) fun s =>
    let s := s.wr (R.CP_CTRL_CDATA h 3) v
    let b := (List.range 4).flatMap fun n => beBytes 4 (s.rd (R.CP_CTRL_CDATA h n)).toNat
    if (b.getD 10 0).getLsbD 6 ∧ (b.getD 4 0).toNat / 16 ≠ 14 then s
    else s.wrBytes (comAddr h (s.get (F.CP_CTRL_CSEL_INDEX h))) b

/-! IEEE 802.1CB streams (R160). -/

/-- RECOV_T without a frame of the stream. -/
def State.cbReset (s : State) (k : Nat) : State :=
  if 256 ≤ k ∨ s.rdByte (cbAddr k + 14) = 0 then s
  else ((s.wrByte (cbAddr k + 14) 0).satMem (0x031B0003 + 4 * k) 1).raise P.FAB_CBDUP 1

/-- A carried write of FAB_CBDUP_ID_LO commits the stream. -/
def State.cbStream (s : State) (q : Requester) (v : Word) : State :=
  s.locked q R.FAB_CBDUP_ID_LO fun s =>
    let k := s.get F.FAB_CBDUP_SEL_INDEX
    let s := s.wr R.FAB_CBDUP_ID_LO v
    (((s.wrNum (cbAddr k) 4 (s.rd R.FAB_CBDUP_ID_HI).toNat).wrNum (cbAddr k + 4) 4 v.toNat).wrNum (cbAddr k + 8) 8 0).wrNum (0x031B0000 + 4 * k) 4 0

/-! The commands. -/

def execLdupAge (epoch src cls flow : Nat) (s : State) : Host.Outcome State Fault Refusal := .next (s.ldupAgeOut epoch src cls flow)
/-- FRAME_TRANSMIT (R153): the port may start a frame `late` tenths of a ns after the tick that MONO shows. While its transmitter still
sends the frame before, nothing starts (log entry 94). -/
def execFrameTransmit (port late : Nat) (free : Bool) (s : State) : Host.Outcome State Fault Refusal :=
  .next (if free then s.frameTransmit port late else s)
def execFdbAge (mac vid : Nat) (s : State) : Host.Outcome State Fault Refusal := .next (s.fdbAge mac vid)

/-- FLUSH (R141): a write of FAB_CTRL_AGE. -/
def execFlush (q : Requester) (v : Word) (s : State) : Host.Outcome State Fault Refusal :=
  .next (s.carry q R.FAB_CTRL_AGE v fun s => s.fabAge q v)

/-- FLOW_WRITE (R147): a write of FAB_FLOW_CMD. -/
def execFlowWrite (q : Requester) (v : Word) (s : State) : Host.Outcome State Fault Refusal :=
  .next (s.carry q R.FAB_FLOW_CMD v fun s => s.flowCmd q v)

/-- FLOW_READ (R147): a write of FAB_FLOW_CMD. -/
def execFlowRead (q : Requester) (v : Word) (s : State) : Host.Outcome State Fault Refusal :=
  .next (s.carry q R.FAB_FLOW_CMD v fun s => s.flowCmd q v)

/-- CLRCNT (R144): a write of FAB_FLOW_CMD. -/
def execClrcnt (q : Requester) (v : Word) (s : State) : Host.Outcome State Fault Refusal :=
  .next (s.carry q R.FAB_FLOW_CMD v fun s => s.flowCmd q v)

/-- SWAP (R154): a write of FAB_GATE_CTRL. -/
def execSwap (q : Requester) (v : Word) (s : State) : Host.Outcome State Fault Refusal :=
  .next (s.carry q R.FAB_GATE_CTRL v fun s => s.gateCtrl q v)

/-- BANK_POOL_WRITE (R156): a write of FAB_QUE_BANK_LO or FAB_QUE_BANK_HI. -/
def execBankPoolWrite (q : Requester) (hi : Bool) (v : Word) (s : State) : Host.Outcome State Fault Refusal :=
  .next (s.carry q (if hi then R.FAB_QUE_BANK_HI else R.FAB_QUE_BANK_LO) v fun s => s.bankWrite q hi v)

def execBankMoved (bank : Nat) (s : State) : Host.Outcome State Fault Refusal := .next (s.bankMoved bank)
def execCpLinkChg (port : Nat) (up fast : Bool) (s : State) : Host.Outcome State Fault Refusal := .next (s.cpLink port up fast)
def execPdFrameRx (port : Nat) (f : PdPacket) (s : State) : Host.Outcome State Fault Refusal :=
  .next (s.pdRx port f.eth f.fcsOk f.pd)

/-- COMID_WRITE (R159): a write of CDATA3 of a consist island. -/
def execComidWrite (q : Requester) (h : Nat) (v : Word) (s : State) : Host.Outcome State Fault Refusal :=
  .next (s.carry q (R.CP_CTRL_CDATA (h % 2) 3) v fun s => s.comIdWrite q (h % 2) v)

def execCbRecoveryReset (stream : Nat) (s : State) : Host.Outcome State Fault Refusal := .next (s.cbReset stream)

/-- CBDUP_STREAM_WRITE (R160): a write of FAB_CBDUP_ID_LO. -/
def execCbdupStreamWrite (q : Requester) (v : Word) (s : State) : Host.Outcome State Fault Refusal :=
  .next (s.carry q R.FAB_CBDUP_ID_LO v fun s => s.cbStream q v)

end Sys2Proof.Machine
end

