-- ==== Sys2Proof/Machine/Wake.lean ====
section
/-!
DEFINITION. The sleep agreement, dawn pulses and segment isolation (R303 to R311, R317 to R323). Nightfall, darkness and waking,
which switch islands, stand with the power commands.
-/

namespace Sys2Proof.Machine

/-- Change the wake logic's own state. -/
def State.modWake (s : State) (f : WakeState → WakeState) : State := { s with wake := f s.wake }

/-- The node takes no part in the agreement while it is dark or on its way there. -/
def State.asleep (s : State) : Bool := s.wake.power == .nightfall || s.wake.power == .dark || s.wake.power == .off

/-- The coordinator: ACTIVE or SOLO in vehicle 1 of the numbering in force. -/
def State.isCoord (s : State) : Bool :=
  s.epoch != 0 && s.node != 0 && s.get F.TOP_NODE_VEH == 1 && (s.role == 1 || s.role == 4)

/-- 0 awake, 1 in dusk, 2 bystander. -/
def State.wakeState (s : State) : Nat := s.get F.SYS_WAKE_STAT_STATE

def State.duskN (s : State) : Nat := s.get F.SYS_WAKE_DUSK_N_N
def State.duskId (s : State) : Nat := s.get F.SYS_WAKE_DUSK_ID_ID

/-- The node's own boundary of cycle `k` is still ahead, modulo 2^32. -/
def State.beforeCycle (s : State) (k : Nat) : Bool := laterThan 32 (k % 2 ^ 32) s.cycle

/-- The boundary of N − 16 of the dusk in force is still ahead. -/
def State.beforeVeto (s : State) : Bool := s.beforeCycle (s.duskN + 2 ^ 32 - 16)

/-- The standing wake reasons (R307) in bits 3:0: KA_OK = 0, FWHOLD, HOLD, conditioned WAKE_SW. -/
def State.wakeReasons (s : State) : Nat :=
  (!s.bit F.SYS_WAKE_STAT_KA_OK).toNat * 8 + s.get F.SYS_WAKE_CMD_FWHOLD * 4 + s.get F.SYS_WAKE_CMD_HOLD * 2
    + s.get (F.SYS_DIN_STAT_COND 0)

/-- What SYS_WAKE_STAT reads as. -/
def State.wakeStat (s : State) : Word :=
  BitVec.ofNat 32 (s.wakeState * 2 ^ 30 + s.isCoord.toNat * 2 ^ 29 + s.get F.SYS_WAKE_STAT_KA_OK * 2 ^ 28
    + s.wake.veto.isSome.toNat * 2 ^ 27 + s.wake.late.isSome.toNat * 2 ^ 26 + s.wakeReasons * 2 ^ 8)

/-! Frames (R304, R305). -/

/-- Send a sleep frame: outside the window at once, and in the control sub-slots where R126 permits, with the same SEQ. -/
def State.sleepSend (s : State) (flow atype dst : Nat) (payload : List Byte) : State :=
  let f := s.ownFrame 6 atype dst flow payload
  let s := s.seqUsed 6 flow
  let s := [Line.a, Line.b].foldl (fun s l => s.sendAll (s.exitPorts l atype dst) f) s
  s.toSubslot f

def State.sendDusk (s : State) : State :=
  s.sleepSend 1 3 0 (beBytes 4 s.duskN ++ beBytes 2 s.duskId ++ beBytes 2 (s.get F.SYS_WAKE_DUSK_RNG_FIRST) ++
    beBytes 2 (s.get F.SYS_WAKE_DUSK_RNG_LAST) ++ beBytes 1 (s.get F.SYS_WAKE_DUSK_RNG_AUTO_ISO * 128) ++ [0])

def State.sendVeto (s : State) : State :=
  match s.wake.veto with
  | some v => s.sleepSend 2 1 1 (beBytes 2 s.duskId ++ beBytes 1 v.1 ++ [0] ++ beBytes 4 v.2)
  | none => s

def State.sendCancel (s : State) : State :=
  match s.wake.cancelTx with
  | some c => s.sleepSend 3 3 0 (beBytes 2 c.2.1 ++ beBytes 1 c.2.2.1 ++ [0] ++ beBytes 2 c.2.2.2 ++ [0, 0])
  | none => s

def State.sendDawn (s : State) : State :=
  match s.wake.dawnTx with
  | some d => s.sleepSend 5 3 0 (beBytes 1 d.1 ++ [0] ++ beBytes 2 d.2.1 ++ beBytes 4 d.2.2.1)
  | none => s

/-- A sleep frame is well-formed (R138), accepted by R96 and addressed to the node. -/
def State.sleepAccept (s : State) (flow : Nat) (f : NFrame) : Bool :=
  !nfMalformed f && f.cls == 6 && f.flow == flow && !s.asleep && (match s.acceptTable f with
    | some t => s.addressed t f
    | none => false)

/-- A field of a payload. -/
def payNum (f : NFrame) (i n : Nat) : Nat := ofBytes (bytesAt f.payload i n)

/-! The dusk (R303, R306, R308 to R310). -/

/-- The dusk ends at the node: AWAKE, without veto, late request and latch. -/
def State.endDusk (s : State) : State :=
  let s := s.modWake fun w => { w with veto := none, late := none, proposed := none }
  (s.put F.SYS_WAKE_DUSK_N_N 0).put F.SYS_WAKE_STAT_STATE 0

/-- CANCEL takes effect at the node (R309); `frame`: a CANCEL frame is counted. -/
def State.gotCancel (s : State) (frame : Bool) : State :=
  let s := s.raise P.SYS_WAKE 1
  let s := if frame then s.satInc F.SYS_WAKE_CNT_CANCELS else s
  (s.modWake fun w => { w with cancelled := some (s.duskN, s.duskId) }).endDusk

/-- The coordinator cancels the dusk: CANCEL at once, and in every cycle up to N − 1. -/
def State.cancelDusk (s : State) (cause node : Nat) : State :=
  ((s.modWake fun w => { w with cancelTx := some (s.duskN, s.duskId, cause, node) }).sendCancel).gotCancel false

/-- A request is latched as late (R308, R312). -/
def State.latchLate (s : State) (origin : Nat) : State :=
  ((s.modWake fun w => { w with late := some origin }).satInc F.SYS_WAKE_CNT_LATE).raise P.SYS_WAKE 2

/-- A wake request (R307) at a node in dusk: a veto before its boundary of N − 16, late from then on (R308). -/
def State.wakeRequest (s : State) (origin : Nat) : State :=
  if s.wakeState ≠ 1 then s
  else if s.beforeVeto then
    if s.wake.veto.isSome then s
    else
      let s := (s.modWake fun w => { w with veto := some (origin, s.cycle) }).satInc F.SYS_WAKE_CNT_VETOES
      if s.isCoord then s.cancelDusk 1 s.node else s.sendVeto
  else if s.wake.late.isSome then s
  else s.latchLate origin

/-- The ORIGIN of the first of several standing reasons (log entry 20). -/
def reasonOrigin (r : Nat) : Nat :=
  if r.testBit 0 then 1 else if r.testBit 1 then 2 else if r.testBit 2 then 3 else 4

/-- The node enters the dusk of a DUSK frame or of its own proposal (R303, R306). -/
def State.enterDusk (s : State) (n id first last : Nat) (auto : Bool) (coord : Nat) : State :=
  let s := s.put F.SYS_WAKE_DUSK_N_N n
  let s := (s.put F.SYS_WAKE_DUSK_ID_ID id).put F.SYS_WAKE_DUSK_ID_COORD coord
  let s := ((s.put F.SYS_WAKE_DUSK_RNG_FIRST first).put F.SYS_WAKE_DUSK_RNG_LAST last).putB F.SYS_WAKE_DUSK_RNG_AUTO_ISO auto
  let inside := (first == 0 && last == 0) || (s.node != 0 && decide (first ≤ s.node) && decide (s.node ≤ last))
  let s := (s.put F.SYS_WAKE_STAT_STATE (if inside then 1 else 2)).raise P.SYS_WAKE 0
  if inside ∧ s.wakeReasons ≠ 0 then s.wakeRequest (reasonOrigin s.wakeReasons) else s

/-- A range extended to whole vehicles (R303); none: FIRST or LAST is not a numbered node, or FIRST > LAST. -/
def State.duskRange (s : State) (first last : Nat) : Option (Nat × Nat) :=
  let n := s.get F.TOP_COUNT_NODES
  if first = 0 ∧ last = 0 then some (0, 0)
  else if first = 0 ∨ last = 0 ∨ n < first ∨ n < last then none
  else
    let a := (s.nodesOfVeh s.curView (s.identVeh 0 first)).foldl min first
    let b := (s.nodesOfVeh s.curView (s.identVeh 0 last)).foldl max last
    if b < a then none else some (a, b)

/-- A proposal (R303). -/
def State.propose (s : State) : State :=
  let n := s.get F.SYS_WAKE_PROP_N_N
  let d := (n + 2 ^ 32 - s.cycle) % 2 ^ 32
  let refuse := fun (r : Nat) => (s.put F.SYS_WAKE_PROP_RESULT r).raise P.SYS_WAKE 3
  if !s.isCoord then refuse 1
  else if s.wakeState ≠ 0 then refuse 2
  else if d < 64 ∨ 65535 < d then refuse 3
  else match s.duskRange (s.get F.SYS_WAKE_PROP_FIRST) (s.get F.SYS_WAKE_PROP_LAST) with
    | none => refuse 4
    | some r =>
      if s.wakeReasons ≠ 0 then refuse 5
      else
        let s := s.put F.SYS_WAKE_PROP_RESULT 0
        let s := s.enterDusk n (s.duskId + 1) r.1 r.2 (s.bit F.SYS_WAKE_PROP_AUTO_ISO) s.node
        (s.modWake fun w => { w with proposed := some s.cycle }).sendDusk

/-- A carried write of SYS_WAKE_PROP: firmware's alone. -/
def State.propWrite (s : State) (q : Requester) (v : Word) : State :=
  s.firmwareOnly q R.SYS_WAKE_PROP fun s =>
    let s := s.storePlain q R.SYS_WAKE_PROP v
    let s := if v.getLsbD 31 then s.propose else s
    if v.getLsbD 30 && s.wakeState != 0 && s.isCoord && s.beforeVeto then s.cancelDusk 4 0 else s

/-- A DUSK frame (R306). -/
def State.duskRx (s : State) (f : NFrame) : State :=
  let n := payNum f 0 4
  let id := payNum f 4 2
  if !s.sleepAccept 1 f || s.wakeState != 0 || s.wake.cancelled == some (n, id) || !s.beforeCycle n then s
  else s.enterDusk n id (payNum f 6 2 % 512) (payNum f 8 2 % 512) ((payNum f 10 1).testBit 7) f.src

/-- A VETO frame at the coordinator (R309): a late one is only counted. -/
def State.vetoRx (s : State) (f : NFrame) : State :=
  if s.sleepAccept 2 f && s.wakeState != 0 && payNum f 0 2 == s.duskId && s.isCoord then
    if s.beforeVeto then s.cancelDusk 1 f.src else s.modWake fun w => { w with lateVetoes := w.lateVetoes + 1 }
  else s

/-- A CANCEL frame (R309). -/
def State.cancelRx (s : State) (f : NFrame) : State :=
  if s.sleepAccept 3 f && s.wakeState != 0 && payNum f 0 2 == s.duskId then s.gotCancel true else s

/-- The sleep policy in force (R377) takes a REQUEST of ORIGIN `origin`: with AUTO, firmware proposes a dusk LEAD cycles ahead. -/
def State.sleepPolicy (s : State) (origin : Nat) : State :=
  match s.mgt.sleep with
  | none => s
  | some d =>
    let num := fun (i n : Nat) => ofBytes (bytesAt d i n)
    if !s.bit F.MGT_CTRL_STAT_RUN || !(num 0 2).testBit origin || !(num 8 1).testBit 6 then s
    else
      let s := s.put F.SYS_WAKE_PROP_N_N ((s.cycle + num 2 2) % 2 ^ 32)
      let s := (s.put F.SYS_WAKE_PROP_FIRST (num 4 2)).put F.SYS_WAKE_PROP_LAST (num 6 2)
      (s.putB F.SYS_WAKE_PROP_AUTO_ISO ((num 8 1).testBit 7)).propose

/-- A REQUEST reaches the coordinator's management pair: SLEEP_REQ, and the sleep policy (R305, R377). -/
def State.sleepAsked (s : State) (origin : Nat) : State :=
  if s.isOn I.MGT && s.isCoord then (s.raise P.SYS_WAKE 4).sleepPolicy origin else s

/-- A REQUEST frame (R305). -/
def State.sleepRequestRx (s : State) (f : NFrame) : State := if s.sleepAccept 4 f then s.sleepAsked (payNum f 0 1) else s

/-- A flip at a node in dusk before its boundary of N − 16 (R310). -/
def State.duskFlip (s : State) : State :=
  if s.wakeState ≠ 0 ∧ s.isCoord ∧ s.beforeVeto then s.cancelDusk 2 0
  else if s.wakeState = 1 ∧ s.beforeVeto then s.gotCancel false
  else s

/-- The node has become ACTIVE in vehicle 1 by takeover or handover (R310). -/
def State.duskRole (s : State) : State :=
  if s.wakeState ≠ 0 ∧ s.isCoord ∧ s.beforeVeto then s.cancelDusk 3 0 else s

/-! Dawn pulses (R317 to R321). -/

/-- Inject one pulse and count it. -/
def State.pulseOut (s : State) (p : BPort) : State :=
  let s := s.modWake fun w => { w with inj := (p, s.mono) :: w.inj.filter fun (e : BPort × Nat) => e.1 != p }
  (s.satInc F.SYS_WAKE_SEG_PULSE_TX).emit (.pulse p.line (some p))

/-- The port has injected a pulse within the last 100 ms. -/
def State.pulsedLately (s : State) (p : BPort) : Bool :=
  s.wake.inj.any fun (e : BPort × Nat) => e.1 == p && decide (s.mono < e.2 + 100000000)

/-- Relay a wake into dark segments (R321). -/
def State.relayDawn (s : State) : State :=
  [BPort.la1, .la2, .lb1, .lb2].foldl (fun s p =>
    if s.lineOpen p.line && !s.bit (F.BL_P_STAT_LINK p) && !s.txOff p && !s.pulsedLately p then s.pulseOut p else s) s

/-- Start a DAWN sequence (R305): four frames in consecutive cycles, the first at once. -/
def State.startDawn (s : State) (origin id : Nat) : State :=
  (s.modWake fun w => { w with dseq := (w.dseq + 1) % 2 ^ 32, dawnTx := some (origin, id, (w.dseq + 1) % 2 ^ 32, 3) }).sendDawn

/-- The locally woken node sends DAWN once a line is in NORMAL (R316). -/
def State.dawnSend (s : State) : State :=
  match s.wake.dawnDue with
  | some o =>
    if s.lineNormal .a || s.lineNormal .b then
      (s.modWake fun w => { w with dawnDue := none }).startDawn o (s.get F.SYS_WAKE_CAUSE_DID)
    else s
  | none => s

/-- A DAWN frame (R305, R320): the first of a sequence relays. -/
def State.dawnRx (s : State) (f : NFrame) : State :=
  if !s.sleepAccept 5 f then s
  else
    let serial := s.identSerial ((s.acceptTable f).getD 0) f.src
    let dseq := payNum f 4 4
    if s.wake.seen.any fun (e : Nat × Nat × Nat) => e.1 == serial && e.2.1 == dseq && decide (s.mono < e.2.2 + 100000000) then s
    else
      (s.modWake fun w =>
        { w with seen := (serial, dseq, s.mono) ::
            w.seen.filter fun (e : Nat × Nat × Nat) => decide (s.mono < e.2.2 + 100000000) }).relayDawn

/-- An awake node's detector qualifies a pulse (R318). -/
def State.pulseRx (s : State) : State :=
  if s.asleep then s else (s.satInc F.SYS_WAKE_SEG_PULSE_RX).raise P.SYS_WAKE 5

/-! Requests by registers and by the keep-alive (R307). -/

/-- A carried write of SYS_WAKE_CMD. FWHOLD is firmware's: a change of it by another requester is dropped with LOCK_VIOL. -/
def State.wakeCmd (s : State) (q : Requester) (v : Word) : State :=
  let fwBad := q != .firmware && v.getLsbD 3 != s.bit F.SYS_WAKE_CMD_FWHOLD
  let s := s.put F.SYS_WAKE_CMD_HOLD (v.getLsbD 2).toNat
  let s := if fwBad then s.lockViol q R.SYS_WAKE_CMD else s.put F.SYS_WAKE_CMD_FWHOLD (v.getLsbD 3).toNat
  let origin := if q = .firmware then 3 else 2
  let s := if v.getLsbD 0 then s.sleepSend 4 1 1 (beBytes 1 origin ++ [0, 0, 0]) else s
  let s := if v.getLsbD 0 then s.sleepAsked origin else s
  let s := if v.getLsbD 1 || v.getLsbD 2 then s.wakeRequest 2 else s
  let s := if v.getLsbD 3 && q == .firmware then s.wakeRequest 3 else s
  if v.getLsbD 4 then (s.startDawn origin 0).relayDawn else s

/-- KA_OK falls: a wake request of ORIGIN 4. -/
def State.kaFall (s : State) : State :=
  if s.bit F.SYS_WAKE_STAT_KA_OK then (s.putB F.SYS_WAKE_STAT_KA_OK false).wakeRequest 4 else s

def State.kaRise (s : State) : State := s.putB F.SYS_WAKE_STAT_KA_OK true

/-! Segment isolation (R322, R323). -/

/-- ISO of a port is written: a link goes down as a trigger, and a released port trains. -/
def State.isoPort (s : State) (p : BPort) (on : Bool) : State :=
  if s.bit (isoFld p) = on then s
  else
    let s := s.putB (isoFld p) on
    let s :=
      if !s.lineOpen p.line then s
      else if on then
        if s.bit (F.BL_P_STAT_LINK p) then (((s.dropLink p 0).countChange p).flap p).trigger 1 (some p)
        else s.put (F.BL_P_STAT_TSTATE p) 0
      else if s.txOff p then s else s.put (F.BL_P_STAT_TSTATE p) 1
    s.openingDone p.line

/-- The four ISO bits, LB2 first. -/
def State.isoSet (s : State) (v : Nat) : State :=
  [BPort.la1, .la2, .lb1, .lb2].foldl (fun s p => s.isoPort p (v.testBit p.idx)) s

/-- AUTO_ISO at a bystander's boundary of cycle N (R323). -/
def State.autoIso (s : State) : State :=
  let first := s.get F.SYS_WAKE_DUSK_RNG_FIRST
  let last := s.get F.SYS_WAKE_DUSK_RNG_LAST
  let fwd := s.bit F.TOP_NODE_FWD
  if !s.bit F.SYS_WAKE_DUSK_RNG_AUTO_ISO || (first == 0 && last == 0) || s.node == 0 then s
  else if s.node + 1 = first then (s.isoPort (Line.a.port fwd) true).isoPort (Line.b.port fwd) true
  else if s.node = last + 1 then (s.isoPort (Line.a.port (!fwd)) true).isoPort (Line.b.port (!fwd)) true
  else s

/-! The cycle boundary of the agreement (R305, R306). -/

/-- At the boundary of the cycle that starts: what is repeated, and the end of a bystander's dusk. Nightfall at N is the caller's. -/
def State.wakeBoundary (s : State) : State :=
  if s.asleep then s
  else
    let n := s.duskN
    let s := match s.wake.proposed with
      | some c0 =>
        if s.wakeState ≠ 0 ∧ s.isCoord ∧ s.cycle ≠ c0 ∧ !laterThan 32 s.cycle ((n + 2 ^ 32 - 17) % 2 ^ 32) then s.sendDusk else s
      | none => s
    let s := if s.wakeState = 1 ∧ s.wake.veto.isSome ∧ s.beforeVeto then s.sendVeto else s
    let s := if s.wakeState = 2 ∧ !s.beforeCycle n then s.autoIso.endDusk else s
    let s := match s.wake.cancelTx with
      | some c => if s.beforeCycle c.1 then s.sendCancel else s.modWake fun w => { w with cancelTx := none }
      | none => s
    match s.wake.dawnTx with
    | some d =>
      if d.2.2.2 = 0 then s.modWake fun w => { w with dawnTx := none }
      else (s.modWake fun w => { w with dawnTx := some (d.1, d.2.1, d.2.2.1, d.2.2.2 - 1) }).sendDawn
    | none => s

/-! The commands. -/

/-- PROPOSE (R303): a write of SYS_WAKE_PROP. -/
def execPropose (q : Requester) (v : Word) (s : State) : Host.Outcome State Fault Refusal :=
  .next (s.carry q R.SYS_WAKE_PROP v fun s => s.propWrite q v)

/-- WITHDRAW (R309): a write of SYS_WAKE_PROP. -/
def execWithdraw (q : Requester) (v : Word) (s : State) : Host.Outcome State Fault Refusal :=
  .next (s.carry q R.SYS_WAKE_PROP v fun s => s.propWrite q v)

def execDusk (f : NFrame) (s : State) : Host.Outcome State Fault Refusal := .next (s.duskRx f)

/-- VETO (R307): a write of SYS_WAKE_CMD. -/
def execVeto (q : Requester) (v : Word) (s : State) : Host.Outcome State Fault Refusal :=
  .next (s.carry q R.SYS_WAKE_CMD v fun s => s.wakeCmd q v)

/-- HOLD (R307): a write of SYS_WAKE_CMD. -/
def execHold (q : Requester) (v : Word) (s : State) : Host.Outcome State Fault Refusal :=
  .next (s.carry q R.SYS_WAKE_CMD v fun s => s.wakeCmd q v)

/-- SLEEP_REQ (R305): a write of SYS_WAKE_CMD. -/
def execSleepReq (q : Requester) (v : Word) (s : State) : Host.Outcome State Fault Refusal :=
  .next (s.carry q R.SYS_WAKE_CMD v fun s => s.wakeCmd q v)

def execSleepRequestRx (f : NFrame) (s : State) : Host.Outcome State Fault Refusal := .next (s.sleepRequestRx f)
def execVetoRx (f : NFrame) (s : State) : Host.Outcome State Fault Refusal := .next (s.vetoRx f)
def execCancelRx (f : NFrame) (s : State) : Host.Outcome State Fault Refusal := .next (s.cancelRx f)
def execDawnSend (s : State) : Host.Outcome State Fault Refusal := .next s.dawnSend

/-- DAWN (R320): a write of SYS_WAKE_CMD. -/
def execDawn (q : Requester) (v : Word) (s : State) : Host.Outcome State Fault Refusal :=
  .next (s.carry q R.SYS_WAKE_CMD v fun s => s.wakeCmd q v)

def execDawnRx (f : NFrame) (s : State) : Host.Outcome State Fault Refusal := .next (s.dawnRx f)
def execPulseRx (_l : Line) (s : State) : Host.Outcome State Fault Refusal := .next s.pulseRx

/-- ISO_WRITE (R322): a write of SYS_WAKE_SEG. -/
def execIsoWrite (q : Requester) (v : Word) (s : State) : Host.Outcome State Fault Refusal :=
  .next (s.carry q R.SYS_WAKE_SEG v fun s => s.isoSet (v.toNat % 16))

def execKaOkFall (s : State) : Host.Outcome State Fault Refusal := .next s.kaFall
def execKaOkRise (s : State) : Host.Outcome State Fault Refusal := .next s.kaRise

end Sys2Proof.Machine
end

