-- ==== Sys2Proof/Machine/Din.lean ====
section
/-!
DEFINITION. The discrete inputs (R324 to R328).
-/

namespace Sys2Proof.Machine

def State.dinIn (s : State) (i : Nat) : DinInput := stGet (fun _ => DinInput.reset) s.din i

def State.setDin (s : State) (i : Nat) (d : DinInput) : State := { s with din := stSet (fun _ => DinInput.reset) s.din i d }

/-- The conditioning runs in every state except DARK. -/
def State.dinRuns (s : State) : Bool := s.wake.power != .dark && s.wake.power != .off

/-- An edge of COND acts (R324). -/
def State.dinActs (s : State) (i : Nat) : State :=
  let s := s.raise P.SYS_DIN i
  match i with
  | 0 => if s.bit (F.SYS_DIN_STAT_COND 0) then s.wakeRequest 1 else s
  | 1 => ((s.openingDone .a).openingDone .b).trigger 2 none
  | 2 => ((s.openingDone .a).openingDone .b).trigger 2 none
  | _ => s

/-- COND takes the debounced level unless it is masked (R325 to R327). -/
def State.dinApply (s : State) (i : Nat) : State :=
  let d := s.dinIn i
  let level := if s.bit (F.SYS_DIN_STAT_STUCK i) then false
    else if s.bit (F.SYS_DIN_STAT_CHAT i) then s.bit (F.SYS_DIN_STAT_COND i)
    else d.deb
  if level = s.bit (F.SYS_DIN_STAT_COND i) then s
  else
    let s := s.putB (F.SYS_DIN_STAT_COND i) level
    if d.init then s else s.dinActs i

/-- The filtered level has held for DEB ms (R325). -/
def State.dinDebounced (s : State) (i : Nat) : State :=
  if !s.dinRuns then s
  else
    let s := s.setDin i { s.dinIn i with deb := (s.dinIn i).filt }
    let s := s.dinApply i
    s.setDin i { s.dinIn i with init := false }

/-- The chatter window in ns. -/
def State.chatWin (s : State) (i : Nat) : Nat := max 1 (s.get (F.SYS_DIN_CFG_CHAT_WIN i)) * 250000000

/-- Count a filtered edge (R327): in CHAT_EDGES during a hold-off, otherwise in the window that runs. -/
def State.chatEdge (s : State) (i : Nat) : State :=
  if s.bit (F.SYS_DIN_STAT_CHAT i) then s.satInc (F.SYS_DIN_STAT_CHAT_EDGES i)
  else
    let d := s.dinIn i
    let win := s.chatWin i
    if s.mono < d.since + win then s.setDin i { d with edges := d.edges + 1 }
    else s.setDin i { d with edges := 1, since := d.since + (s.mono - d.since) / win * win }

/-- A level of the pin has held for 100 µs (R325). With DEB = 0 the debounce is over at once. -/
def State.filteredEdge (s : State) (i : Nat) (level : Bool) : State :=
  if !s.dinRuns then s
  else
    let s := s.putB (F.SYS_DIN_STAT_PIN i) level
    let active := level != s.bit (F.SYS_DIN_CFG_POL i)
    if active = (s.dinIn i).filt then s
    else
      let s := (s.setDin i { s.dinIn i with filt := active }).chatEdge i
      if s.get (F.SYS_DIN_CFG_DEB i) = 0 then s.dinDebounced i else s

/-- COND has been active for STUCK s (R326). -/
def State.dinStuck (s : State) (i : Nat) : State :=
  if !s.dinRuns || s.get (F.SYS_DIN_CFG_STUCK i) == 0 || !s.bit (F.SYS_DIN_STAT_COND i) then s
  else
    let s := (s.putB (F.SYS_DIN_STAT_COND i) false).putB (F.SYS_DIN_STAT_STUCK i) true
    (s.satInc (F.SYS_DIN_STAT_STUCK_CNT i)).raise P.SYS_DIN (4 + i)

/-- A stuck input has been inactive for DEB ms: the mask clears without an edge. -/
def State.dinStuckRelease (s : State) (i : Nat) : State :=
  if !s.dinRuns || !s.bit (F.SYS_DIN_STAT_STUCK i) || (s.dinIn i).filt then s
  else (s.setDin i { s.dinIn i with deb := false }).putB (F.SYS_DIN_STAT_STUCK i) false

/-- A window holds more than CHAT_N edges (R327). -/
def State.dinChat (s : State) (i : Nat) : State :=
  let n := s.get (F.SYS_DIN_CFG_CHAT_N i)
  if !s.dinRuns || n == 0 || s.bit (F.SYS_DIN_STAT_CHAT i) || decide ((s.dinIn i).edges ≤ n) || decide ((s.dinIn i).since + s.chatWin i ≤ s.mono) then s
  else (s.putB (F.SYS_DIN_STAT_CHAT i) true).raise P.SYS_DIN (8 + i)

/-- The hold-off ends: COND takes the debounced level, and a fresh window starts. -/
def State.dinChatEnd (s : State) (i : Nat) : State :=
  if !s.dinRuns || !s.bit (F.SYS_DIN_STAT_CHAT i) then s
  else ((s.putB (F.SYS_DIN_STAT_CHAT i) false).setDin i { s.dinIn i with edges := 0, since := s.mono }).dinApply i

/-- A carried write of SYS_DIN_CFGi: it takes effect at once; POL inverts the level, which is filtered anew by the next command. -/
def State.dinCfg (s : State) (q : Requester) (i : Nat) (v : Word) : State :=
  s.locked q (R.SYS_DIN_CFG i) fun s => s.wr (R.SYS_DIN_CFG i) v

/-- After a power-on or a wake start (R328): COND inactive, and the detections start from zero. -/
def State.dinRestart (s : State) : State :=
  [0, 1, 2, 3].foldl (fun s i =>
    let s := ((s.putB (F.SYS_DIN_STAT_COND i) false).putB (F.SYS_DIN_STAT_CHAT i) false).putB (F.SYS_DIN_STAT_STUCK i) false
    s.setDin i { DinInput.reset with since := s.mono }) s

/-! The commands. -/

def execFilteredEdge (i : Nat) (level : Bool) (s : State) : Host.Outcome State Fault Refusal := .next (s.filteredEdge (i % 4) level)
def execEdge (i : Nat) (s : State) : Host.Outcome State Fault Refusal := .next (s.dinDebounced (i % 4))
def execStuck (i : Nat) (s : State) : Host.Outcome State Fault Refusal := .next (s.dinStuck (i % 4))
def execStuckRelease (i : Nat) (s : State) : Host.Outcome State Fault Refusal := .next (s.dinStuckRelease (i % 4))
def execChat (i : Nat) (s : State) : Host.Outcome State Fault Refusal := .next (s.dinChat (i % 4))
def execChatHoldEnd (i : Nat) (s : State) : Host.Outcome State Fault Refusal := .next (s.dinChatEnd (i % 4))

/-- DIN_CFG_WRITE (R325): a write of SYS_DIN_CFGi. -/
def execDinCfgWrite (q : Requester) (i : Nat) (v : Word) (s : State) : Host.Outcome State Fault Refusal :=
  .next (s.carry q (R.SYS_DIN_CFG (i % 4)) v fun s => s.dinCfg q (i % 4) v)

end Sys2Proof.Machine
end

