-- ==== Sys2Proof/Machine/TwnOps.lean ====
section
/-!
DEFINITION. Twin redundancy as other chapters use it: eligibility, lanterns, role changes, the mirror's records, digests (R245 to R273).
-/

namespace Sys2Proof.Machine

/-- Change the twin controller's own state. -/
def State.modTwn (s : State) (f : TwnState → TwnState) : State := { s with twn := f s.twn }

def State.twnOn (s : State) : Bool := s.isOn I.TWN

/-- MGT is READY. -/
def State.mgtReady (s : State) : Bool := s.isOn I.MGT && s.bit (F.PG_STAT_READY P.MGT_MBOX)

/-- The module is eligible (R248). -/
def State.elig (s : State) : Bool :=
  s.bit F.SYS_RST_BOOT_CFG_OK && (s.lineOpen .a || s.lineOpen .b) && s.mgtReady && s.get F.HLT_CTRL_NODE_LEVEL != 3

/-- The mirror link is up. -/
def State.mlinkUp (s : State) : Bool := s.twnOn && decide (2 ≤ s.get F.TWN_MLINK_STAT_STATE)

def State.synced (s : State) : Bool := s.bit F.TWN_CTRL_ROLE_SYNCED

/-- The partner is visible: a witness is present. -/
def State.visible (s : State) : Bool := s.bit F.TWN_CTRL_ROLE_W_M || s.bit F.TWN_CTRL_ROLE_W_BA || s.bit F.TWN_CTRL_ROLE_W_BB

/-- ROLE of the partner's last lantern; 7 while it is not visible. -/
def State.partnerRole (s : State) : Nat :=
  match s.twn.partner with
  | some l => l.role
  | none => 7

/-- CFGD: bits 31:0 of the digest of the owner configuration image in force. -/
def State.cfgd (s : State) : Nat := (s.rd R.MGT_IMG_CFGD).toNat

/-- The module asks for admission (R261). -/
def State.asksEntry (s : State) : Bool :=
  s.role == 3 && s.twn.mayRejoin && s.get F.HLT_CTRL_NODE_LEVEL != 3 &&
    match s.twn.partner with
    | some l => l.role == 1 && l.cfgd == s.cfgd
    | none => false

/-- The partner asks for admission. -/
def State.partnerAsks (s : State) : Bool :=
  match s.twn.partner with
  | some l => l.req == 2
  | none => false

/-- The ACTIVE grants admission (R261). -/
def State.grants (s : State) : Bool := s.role == 1 && s.partnerAsks && (s.bit F.TWN_CTRL_CFG_AUTO_ADMIT || s.twn.granted)

/-! Lanterns (R250, R251). -/

/-- The lantern that the module sends. -/
def State.ownLantern (s : State) : Lantern where
  serial := s.serial
  vtag := s.get F.TOP_VTAG_HI_VTAG * 2 ^ 32 + s.get F.TOP_VTAG_LO_VTAG
  role := s.role
  tpos := s.bit F.SYS_RST_STAT_TPOS
  claimDrv := s.bit F.TWN_CTRL_ROLE_CLAIM_DRV
  synced := s.synced
  elig := s.elig
  grant := s.grants
  health := s.get F.HLT_CTRL_NODE_LEVEL
  la := s.lineOpen .a
  lb := s.lineOpen .b
  seeM := s.bit F.TWN_CTRL_ROLE_W_M
  seeB := s.bit F.TWN_CTRL_ROLE_W_BA || s.bit F.TWN_CTRL_ROLE_W_BB
  xfail := s.bit F.TWN_XCHK_STAT_XFAIL
  resync := s.twn.resync
  epoch := s.epoch
  mepoch := if s.role = 1 then s.twn.closed else if s.role = 2 then s.twn.committed else 0
  cfgd := s.cfgd
  hk := s.get F.TWN_CTRL_HOK_HK
  req := if s.twn.ho.isSome then 1 else if s.twn.hoNew.isSome then 3 else if s.asksEntry then 2 else 0

/-- The 40 bytes of a lantern. -/
def lanternBytes (l : Lantern) : List Byte :=
  beBytes 8 l.serial ++ beBytes 8 l.vtag ++
  beBytes 1 (l.role * 32 + l.tpos.toNat * 16 + l.claimDrv.toNat * 8 + l.synced.toNat * 4 + l.elig.toNat * 2 + l.grant.toNat) ++
  beBytes 1 (l.health * 64 + l.la.toNat * 32 + l.lb.toNat * 16 + l.seeM.toNat * 8 + l.seeB.toNat * 4 + l.xfail.toNat * 2
    + l.resync.toNat) ++
  beBytes 2 l.epoch ++ beBytes 4 l.mepoch ++ beBytes 4 l.cfgd ++ beBytes 4 l.hk ++ beBytes 1 (l.req * 64) ++ beBytes 7 0

def lanternOf (b : List Byte) : Lantern :=
  let num := fun i n => ofBytes (bytesAt b i n)
  let st := num 16 1
  let vw := num 17 1
  { serial := num 0 8, vtag := num 8 8, role := st / 32, tpos := st.testBit 4, claimDrv := st.testBit 3, synced := st.testBit 2,
    elig := st.testBit 1, grant := st.testBit 0, health := vw / 64, la := vw.testBit 5, lb := vw.testBit 4, seeM := vw.testBit 3,
    seeB := vw.testBit 2, xfail := vw.testBit 1, resync := vw.testBit 0, epoch := num 18 2, mepoch := num 20 4, cfgd := num 24 4,
    hk := num 28 4, req := num 32 1 / 64 }

/-! Registers that follow the witnesses. -/

/-- PROLE and PSYNCED follow the partner's last lantern. -/
def State.twnView (s : State) : State :=
  let s := if s.visible then s else s.modTwn fun t => { t with partner := none }
  (s.put F.TWN_CTRL_ROLE_PROLE s.partnerRole).putB F.TWN_CTRL_ROLE_PSYNCED (match s.twn.partner with
    | some l => l.synced
    | none => false)

/-- RUNNING of the cross-check (R272). -/
def State.xRunning (s : State) : Bool := s.role == 2 && s.synced && s.enabled P.TWN_XCHK

def State.setSynced (s : State) (b : Bool) : State :=
  let s := s.putB F.TWN_CTRL_ROLE_SYNCED b
  s.putB F.TWN_XCHK_STAT_RUNNING s.xRunning

/-- SYNCED is lost: the cross-check stops, and nothing stands of a baseline (R253, R266). -/
def State.dropSync (s : State) : State := (s.modTwn fun t => { t with bclosed := false }).setSynced false

/-- A STANDBY asks for a baseline while the link is up (R253, R267). -/
def State.askBase (s : State) : State :=
  if s.role == 2 && s.mlinkUp && !s.synced && s.twn.base.isNone && !s.twn.bclosed then s.modTwn fun t => { t with resync := true }
  else s

/-! The claim line (R254, R255). -/

/-- Drive TWIN_CLAIM or release it. -/
def State.driveClaim (s : State) (on : Bool) : State :=
  if s.bit F.TWN_CTRL_ROLE_CLAIM_DRV = on then s
  else ((s.putB F.TWN_CTRL_ROLE_CLAIM_DRV on).putB F.TWN_CTRL_ROLE_CLAIM_IN on).emit (.claim on)

/-- The claimer releases the line. -/
def State.releaseClaim (s : State) : State :=
  if s.twn.claimer then (s.modTwn fun t => { t with claimer := false }).driveClaim false else s

/-! Role changes (R259). -/

/-- SGW mutes or unmutes its submissions with the role (R190). -/
def State.sgwMute (s : State) : State :=
  let muted := !(s.role == 1 || s.role == 4)
  if !s.isOn I.SGW || s.bit F.SGW_CTRL_STAT_MUTED == muted then s
  else (s.putB F.SGW_CTRL_STAT_MUTED muted).raise P.SGW_CTRL 9

/-- What a new role means for the rest of the module (R245): muting, bypasses of an ISOLATED module, grandmaster, dusk, mirror. -/
def State.roleActs (s : State) (new cause : Nat) : State :=
  let s := if new = 1 then s else s.releaseClaim
  let s := if new = 0 then s.modTwn fun t => { t with failed := false, unanswered := false } else s
  let s := if new = 3 then (s.startClose .a .bypass).startClose .b .bypass else s
  let s := s.sgwMute.gmUpdate
  let s := if new = 1 ∧ (cause = 2 ∨ cause = 3) then s.duskRole else s
  let s := if new = 2 then s else (s.modTwn fun t => { t with resync := false, base := none, buf := none }).dropSync
  let s := s.modTwn fun t => { t with sent := .empty (s.cycle), overflow := false, granted := false, hoNew := none, hoTake := none,
                                      ho := none, waiting := none, confirm := none }
  (s.putB F.TWN_XCHK_STAT_RUNNING s.xRunning).askBase

/-- The role changes: ROLE_CHG, the record and LAST. -/
def State.setRole (s : State) (new cause : Nat) (cold : Bool) (det : Nat) : State :=
  let old := s.role
  if new = old then s
  else
    let d := min 0xFFFFF det
    let s := s.put F.TWN_CTRL_ROLE_ROLE new
    let s := s.wr R.TWN_CTRL_LAST (BitVec.ofNat 32 (cause * 2 ^ 28 + cold.toNat * 2 ^ 27 + old * 2 ^ 24 + new * 2 ^ 21 + d))
    let s := (s.raise P.TWN_CTRL 0).post 0x0A10 2 0
      (beBytes 1 old ++ beBytes 1 new ++ beBytes 1 cause ++ beBytes 1 cold.toNat ++ beBytes 4 (s.rd R.TWN_MLINK_PRSEQ).toNat ++
        beBytes 4 d)
    s.roleActs new cause

/-- Step 4 of R269: class P publishers with MIRROR = 1 that had a publication event after the last committed epoch. -/
def State.extraEvents (s : State) : List Nat :=
  let c := s.twn.committed
  let span := (s.cycle + 2 ^ 32 - c) % 2 ^ 32
  s.validCtxs.filter fun i =>
    let per := s.ctxHalf i 24 % 4096
    let ph := s.ctxHalf i 26 % 4096
    s.ctxPublishes i && s.ctxMirror i && s.ctxCls i == 0 && per != 0 &&
      (decide (per ≤ span) || (List.range span).any fun j => (c + 1 + j) % 2 ^ 32 % per == ph)

/-- A STANDBY becomes ACTIVE by takeover or handover (R269). -/
def State.switchOver (s : State) (handover : Bool) : State :=
  let cold := !s.synced && !handover
  let det := match s.twn.lastAny with
    | some t => if handover then 0 else (s.mono - t) / 1000
    | none => 0
  let extra := s.extraEvents
  let s := s.modTwn fun t => { t with buf := none }
  let s := s.setRole 1 (if handover then 3 else 2) cold det
  let s := s.twn.muted.foldl (fun s (e : Nat × List Byte) =>
    { s with fab := { s.fab with subm := stSet (fun _ => none) s.fab.subm e.1 (some e.2) } }) s
  let s := s.modTwn fun t => { t with extra := extra }
  if handover then (s.satInc F.TWN_CTRL_CNT_HANDOVERS).raise P.TWN_CTRL 9
  else (s.satInc F.TWN_CTRL_CNT_TAKEOVERS).raise P.TWN_CTRL 1

/-- A deferral (R254): ISOLATED. -/
def State.deferClaim (s : State) : State :=
  let s := (s.satInc F.TWN_CTRL_CNT_DEFERS).raise P.TWN_CTRL 2
  (s.modTwn fun t => { t with mayRejoin := true }).setRole 3 4 false 0

/-- The module drives the line: it becomes ACTIVE or stays so (R254, R255). -/
def State.claimWon (s : State) (cause : Nat) : State :=
  let s := (s.driveClaim true).modTwn fun t => { t with claimer := true }
  if s.role = 2 then s.switchOver false else if s.role = 0 then s.setRole 1 cause false 0 else s

def State.noTakeover (s : State) : State := s.raise P.TWN_CTRL 11

/-- Only an eligible module can become ACTIVE (R248): a STANDBY that is not drives nothing, and nor does a module without a role, which
waits for START_T anew (R259). -/
def State.ifElig (s : State) (k : State → State) : State :=
  if s.role == 2 && !s.elig then s.noTakeover
  else if s.role == 0 && !s.elig then s.modTwn fun t => { t with failed := false }
  else k s

/-- The claim rule (R254), with the filtered line low or not. -/
def State.claimRule (s : State) (cause : Nat) (low : Bool) : State :=
  s.ifElig fun s =>
  if s.bit F.TWN_CTRL_ROLE_CLAIM_DRV then s.claimWon cause
  else if s.get F.TWN_CTRL_ROLE_TPOS_EFF = 0 then (if low then s.deferClaim else s.claimWon cause)
  else s.modTwn fun t => { t with waiting := some cause }

/-- A pending handover is cancelled (R260). -/
def State.cancelHandover (s : State) : State :=
  if s.twn.ho.isSome || s.twn.hoNew.isSome || s.twn.hoTake.isSome then
    (s.modTwn fun t => { t with ho := none, hoNew := none, hoTake := none }).put F.TWN_CTRL_HO_RESULT 7
  else s

/-- The partner counts as failed (R252): the partial epoch is dropped and a handover cancelled; an ISOLATED module reports it, any other
applies the claim rule (R254). -/
def State.partnerGone (s : State) (cause : Nat) (low : Bool) : State :=
  let s := (s.modTwn fun t => { t with failed := true, buf := none, confirm := none }).cancelHandover
  if s.role = 3 then
    let s := s.raise P.TWN_CTRL 3
    if s.hlt.session then { s with hlt := { s.hlt with abortDue := true } } else s
  else s.claimRule cause low

/-- Both witnesses are silent: while CLAIM_FAULT stands a neighbour is asked first (R252, R258). -/
def State.partnerFailed (s : State) (cause : Nat) (low : Bool) : State :=
  if s.get F.TWN_CTRL_ROLE_CLAIM_FAULT = 0 then s.partnerGone cause low
  else if s.twn.confirm.isSome || s.twn.unanswered then s
  else s.modTwn fun t => { t with confirm := some (cause, none) }

/-- The witnesses have changed (R252): the module judges its partner. An ISOLATED module has no open line and judges all the same
(R254; log entry 89). -/
def State.judge (s : State) (low : Bool) : State :=
  if s.visible || s.role == 4 || s.role == 0 then s
  else if (s.role == 1 || s.role == 2) && !s.lineOpen .a && !s.lineOpen .b then
    if s.twn.noTakeover then s else (s.modTwn fun t => { t with noTakeover := true }).noTakeover
  else if s.twn.failed then s
  else s.partnerFailed 2 low

/-- HLT, a command or EN = 0 isolates the module at once: an ACTIVE or a STANDBY (R259). -/
def State.isolateNow (s : State) (cause : Nat) : State :=
  if s.role = 1 ∨ s.role = 2 then s.setRole 3 cause false 0 else s

/-- A handover is proposed, or refused with RESULT (R260). -/
def State.proposeHandover (s : State) (fault : Bool) (cause : Nat) : State :=
  match s.twn.ho with
  | some h =>
    if cause = 6 then s.modTwn fun t => { t with ho := some { h with fault := true, cause := 6 } } else s
  | none =>
    let l := s.twn.partner.filter fun _ => s.bit F.TWN_CTRL_ROLE_W_M
    let res := if !s.mlinkUp then 6
      else match l with
        | none => 2
        | some l => if l.role ≠ 2 then 2 else if !l.synced then 3 else if !l.elig then 4 else 1
    let s := s.put F.TWN_CTRL_HO_RESULT res
    if res = 1 then
      let hk := (s.cycle + 8) % 2 ^ 32
      (s.put F.TWN_CTRL_HOK_HK hk).modTwn fun t => { t with ho := some ⟨hk, fault, cause, s.cycle, false⟩ }
    else
      let s := s.raise P.TWN_CTRL 10
      if cause = 6 then s.isolateNow 6 else s

/-- ISOLATE (R259, R260). -/
def State.isolate (s : State) : State := if s.role = 1 then s.proposeHandover true 6 else s.isolateNow 6

/-- REJOIN moves an ISOLATED module to none (R259). -/
def State.rejoin (s : State) : State :=
  if s.role = 3 then (s.modTwn fun t => { t with mayRejoin := false }).setRole 0 9 false 0 else s

/-! The ACTIVE's epochs (R264, R265). -/

/-- Continue a CRC-32C. -/
def crcMore (c : Nat) (bs : List Byte) : Nat := bs.foldl (crcByteR 0x82F63B78) c

/-- A CRC-32C's value. -/
def crcEnd (c : Nat) : Nat := c ^^^ 0xFFFFFFFF

/-- A mirror frame (R263): TYPE, LEN, N, the payload and its CRC-32C. -/
def mirrorBytes (type n : Nat) (payload : List Byte) : List Byte :=
  let body := beBytes 1 type ++ [0] ++ beBytes 2 payload.length ++ beBytes 4 n ++ payload
  body ++ beBytes 4 (crc32c body).toNat

/-- A record as it is sent: header, and body padded to 4 bytes. -/
def recBytes (r : MRec) : List Byte :=
  beBytes 1 r.type ++ beBytes 1 r.sub ++ beBytes 2 r.body.length ++ r.body ++ List.replicate ((4 - r.body.length % 4) % 4) 0

/-- A record that leaves in a frame of its own. -/
def MBuf.add (b : MBuf) (r : MRec) : MBuf :=
  let bs := recBytes r
  { b with recs := b.recs + 1, bytes := b.bytes + bs.length, crc := crcMore b.crc bs }

/-- The ACTIVE writes a record into the epoch that runs; beyond 256 KiB recording stops. -/
def State.mirrorRecord (s : State) (r : MRec) : State :=
  if s.role != 1 || !s.mlinkUp || s.twn.overflow then s
  else if 262144 < s.twn.sent.bytes + (recBytes r).length then s.modTwn fun t => { t with overflow := true }
  else (s.modTwn fun t => { t with sent := t.sent.add r }).emit (.mirror (mirrorBytes 2 s.cycle (recBytes r)))

/-- The payload of a close (R265). -/
def closeBytes (b : MBuf) (overflow : Bool) : List Byte :=
  beBytes 4 b.recs ++ beBytes 4 b.bytes ++ beBytes 4 (crcEnd b.crc) ++ beBytes 4 (overflow.toNat * 2 ^ 31)

/-- A CTX record of a context. -/
def State.ctxRec (s : State) (i : Nat) : MRec :=
  ⟨1, 0, beBytes 2 i ++ beBytes 2 (s.ctxHalf i 20) ++ beBytes 2 (s.ctxHalf i 22) ++
    beBytes 1 (s.ctxByte i 34 &&& 0xE0 ||| (s.heldNow i).toNat * 8) ++ [0]⟩

/-- A PAYLOAD record of a context that has a submitted payload. -/
def State.payloadRec (s : State) (i : Nat) : Option MRec :=
  if s.ctxPublishes i && s.ctxMirror i && s.ctxOwner i != 1 then
    (s.submitted i).map fun b => ⟨2, 0, beBytes 2 i ++ beBytes 2 b.length ++ b⟩
  else none

/-- A CANQ record of a queue that has completed a frame. -/
def State.canqRec (s : State) (n k : Nat) : Option MRec :=
  ((s.canSt n).dones.find? fun (e : Nat × Nat × Nat × Nat) => e.1 == k).map fun e =>
    ⟨3, n, beBytes 1 (k - 8) ++ beBytes 1 e.2.2.2 ++ beBytes 2 e.2.2.1 ++ beBytes 4 e.2.1⟩

def State.topeRec (s : State) : MRec :=
  ⟨4, 0, beBytes 2 s.epoch ++ beBytes 2 s.node ++ beBytes 4 (match s.top.acted with
    | some c => c.k
    | none => 0)⟩

/-- The recorder's SEQ: the last one given. -/
def State.recSeq (s : State) : Nat := ((s.rd R.REC_CTRL_NEXT).toNat + 2 ^ 32 - 1) % 2 ^ 32

def State.recseqRec (s : State) : MRec := ⟨5, 0, beBytes 4 s.recSeq⟩

/-! Digests (R272). -/

/-- SGW hands a muted recipe over in the STANDBY: its digest, and the payload of a KIND 0 recipe (R191, R269). -/
def State.handOver (s : State) (kind recipe ctx : Nat) (dig data : List Byte) : State :=
  let s := if kind = 0 then
      s.modTwn fun t => { t with muted := (ctx, data) :: t.muted.filter fun (e : Nat × List Byte) => e.1 != ctx }
    else s
  if s.xRunning then s.modTwn fun t => { t with own := t.own ++ [⟨kind, recipe, s.cycle, (crc32c dig).toNat⟩] } else s

/-- The ACTIVE records the digest of a submission. -/
def State.xdigRecord (s : State) (kind recipe : Nat) (dig : List Byte) : State :=
  s.mirrorRecord ⟨6, kind, beBytes 2 recipe ++ [0, 0] ++ beBytes 4 s.cycle ++ beBytes 4 (crc32c dig).toNat⟩

/-- A mismatch (R272, R273). -/
def State.xMismatch (s : State) (d : XDig) : State :=
  let s := (s.satInc F.TWN_XCHK_CNT_MISMATCH).raise P.TWN_XCHK 0
  let s := (s.wr R.TWN_XCHK_LAST (BitVec.ofNat 32 (d.recipe * 2 ^ 22 + d.kind * 2 ^ 21))).wr R.TWN_XCHK_LCYC (BitVec.ofNat 32 d.cycle)
  let times := (s.twn.mismatches.filter fun t => s.mono < t + 1000000000) ++ [s.mono]
  let s := (s.modTwn fun t => { t with mismatches := times }).put F.TWN_XCHK_STAT_WINCNT (min 65535 times.length)
  if max 1 (s.get F.TWN_XCHK_CFG_XLIM) ≤ times.length ∧ s.get F.TWN_XCHK_STAT_XFAIL = 0 then
    let s := ((s.putB F.TWN_XCHK_STAT_XFAIL true).raise P.TWN_XCHK 1).hltReason I.SGW 15 true false
    s.post 0x0A12 3 (subject 2 0) (beBytes 2 d.recipe ++ beBytes 4 d.cycle)
  else s

/-- Compare one partner digest with the own one of the same recipe, KIND and cycle. -/
def State.xCompare (s : State) (d : XDig) : State :=
  let same := fun (o : XDig) => o.kind == d.kind && o.recipe == d.recipe && o.cycle == d.cycle
  match s.twn.own.find? same with
  | none => s
  | some o =>
    let key := d.recipe * 2 + d.kind
    let s := s.modTwn fun t => { t with own := t.own.filter fun x => !same x, theirs := t.theirs.filter fun x => !same x }
    let old := match s.twn.streaks.find? fun (e : Nat × Nat) => e.1 == key with
      | some e => e.2
      | none => 0
    let rest := s.twn.streaks.filter fun (e : Nat × Nat) => e.1 != key
    if o.crc = d.crc then (s.modTwn fun t => { t with streaks := rest }).wrapInc F.TWN_XCHK_CMP_CNT
    else
      let s := s.modTwn fun t => { t with streaks := (key, min 15 (old + 1)) :: rest }
      if max 1 (s.get F.TWN_XCHK_CFG_XCONF) ≤ old + 1 then s.xMismatch d else s.satInc F.TWN_XCHK_CNT_TRANSIENT

/-- The comparisons of a commit of epoch `n`; digests still alone after 4 cycles are missing. -/
def State.xCommit (s : State) (n : Nat) : State :=
  if !s.xRunning then s.modTwn fun t => { t with own := [], theirs := [] }
  else
    let s := s.twn.theirs.foldl (fun s d => s.xCompare d) s
    let stale := fun (d : XDig) => decide (4 ≤ (n + 2 ^ 32 - d.cycle) % 2 ^ 32) && decide ((n + 2 ^ 32 - d.cycle) % 2 ^ 32 < 2 ^ 31)
    let gone := (s.twn.own.filter stale).length + (s.twn.theirs.filter stale).length
    let s := s.modTwn fun t => { t with own := t.own.filter fun d => !stale d, theirs := t.theirs.filter fun d => !stale d }
    if gone = 0 then s else (s.satAdd F.TWN_XCHK_CNT_MISSING gone).raise P.TWN_XCHK 2

end Sys2Proof.Machine
end

