-- ==== Sys2Proof/Machine/Twn.lean ====
section
/-!
DEFINITION. The commands of twin redundancy (chapter 10): lanterns, the claim line, handovers, the mirror link.
-/

namespace Sys2Proof.Machine

/-! What a lantern changes (R246, R247, R253, R255, R256, R259, R261). -/

/-- Both twins report the same strap: the lower serial takes position 0 (R246). -/
def State.position (s : State) (l : Lantern) : State :=
  let tpos := s.bit F.SYS_RST_STAT_TPOS
  let dup := l.tpos == tpos
  let s := if dup && !s.bit F.TWN_CTRL_ROLE_TPOS_DUP then s.raise P.TWN_CTRL 8 else s
  (s.putB F.TWN_CTRL_ROLE_TPOS_DUP dup).putB F.TWN_CTRL_ROLE_TPOS_EFF (if dup then decide (l.serial < s.serial) else tpos)

/-- The partner is visible again. -/
def State.partnerBack (s : State) : State :=
  let s := if s.twn.failed then s.raise P.TWN_CTRL 4 else s
  s.modTwn fun t => { t with failed := false, noTakeover := false, unanswered := false, waiting := none, confirm := none }

/-- An ACTIVE hears an ACTIVE partner (R256). -/
def State.doubleActive (s : State) (l : Lantern) : State :=
  if s.role = 1 ∧ l.role = 1 then
    let s := if s.twn.doubled then s
      else ((s.modTwn fun t => { t with doubled := true }).raise P.TWN_CTRL 7).post 0x0A13 4 0 []
    if s.get F.TWN_CTRL_ROLE_TPOS_EFF = 1 then (s.modTwn fun t => { t with mayRejoin := true }).setRole 3 5 false 0 else s
  else s.modTwn fun t => { t with doubled := false }

/-- The row of R259 for a STANDBY whose health is REPLACE. -/
def State.healthRow (s : State) : State := if s.role = 2 ∧ s.get F.HLT_CTRL_NODE_LEVEL = 3 then s.setRole 3 7 false 0 else s

/-- The rows of R259 for role none and for a STANDBY whose health is REPLACE, and admission (R261), with the partner's lantern. -/
def State.roleRows (s : State) (l : Lantern) : State :=
  if s.role = 0 then
    if l.role = 1 then s.setRole 2 1 false 0
    else if s.elig && (l.role == 0 || l.role == 3) && (s.get F.TWN_CTRL_ROLE_TPOS_EFF == 0 || !l.elig) then s.setRole 1 1 false 0
    else s
  else if s.role = 2 then s.healthRow
  else if s.asksEntry && l.grant then (s.modTwn fun t => { t with mayRejoin := false }).setRole 0 8 false 0
  else s

/-- A partner lantern has been taken, on the mirror link or on a line. -/
def State.heedLantern (s : State) (l : Lantern) : State :=
  if s.bit F.TWN_CTRL_ROLE_SOLO then s
  else
    let s := (s.position l).partnerBack
    if l.role = 4 then
      let s := s.raise P.TWN_CTRL 12
      if s.role = 0 ∨ s.role = 2 then s.setRole 3 10 false 0 else s
    else
      let s := s.doubleActive l
      let s := if l.role = 2 ∧ l.synced then s.releaseClaim else s
      s.roleRows l

/-- Cycles since the cycle `c`. -/
def State.sinceCycle (s : State) (c : Nat) : Nat := (s.cycle + 2 ^ 32 - c) % 2 ^ 32

/-- A mirror lantern (R251, R252): the witness, the partner's serial, and the requests that only the link carries (R260, R267). A SOLO
module raises SOLO_PARTNER and ignores it (R247). -/
def State.mirrorLantern (s : State) (payload : List Byte) : State :=
  if !s.mlinkUp then s
  else if s.bit F.TWN_CTRL_ROLE_SOLO then s.raise P.TWN_CTRL 12
  else
    let l := lanternOf payload
    let s := s.modTwn fun t =>
      { t with partner := some l, lastAny := some s.mono, lastMirror := some s.mono, silent := false, pserial := l.serial,
               heard := (l.serial, s.mono) :: t.heard.filter fun (e : Nat × Nat) => e.1 != l.serial,
               baseAsked := t.baseAsked || (l.resync && s.role == 1) }
    let s := (s.wr R.TWN_CTRL_PSER_LO (BitVec.ofNat 32 l.serial)).wr R.TWN_CTRL_PSER_HI (BitVec.ofNat 32 (l.serial / 2 ^ 32))
    let s := (s.putB F.TWN_CTRL_ROLE_W_M true).twnView
    let s := if l.req = 1 ∧ s.role = 2 ∧ s.synced ∧ s.elig then
        if s.twn.hoNew.isSome || s.twn.hoTake.isSome then s
        else (s.put F.TWN_CTRL_HOK_HK l.hk).modTwn fun t => { t with hoNew := some l.hk }
      else s
    let s := match s.twn.ho with
      | some h => if l.req = 3 ∧ l.hk = h.hk ∧ s.sinceCycle h.since ≤ 4 then s.modTwn fun t => { t with ho := some { h with accepted := true } } else s
      | none => s
    (s.heedLantern l).askBase

/-- The module's backbone lantern of a cycle (R249, R250), per line: in its control sub-slots, or outside the window; also outside for a
direction whose sub-slot the node may not use while it uses the other one (R118). -/
def State.sendLantern (s : State) (l : Line) : State :=
  if !s.twnOn || !s.lineOpen l then s
  else
    let f := s.ownFrame 4 3 0 1 (lanternBytes s.ownLantern)
    let s := s.seqUsed 4 1
    let ps := [l.port false, l.port true]
    if ps.any fun x => s.mayInsert x && (s.ctlSlot x).isSome then
      (ps.filter fun x => (s.ctlSlot x).isSome).foldl (fun s x => s.sendCtl x f) s
    else s.sendAll ps f

/-- The sender of a backbone lantern is the partner (R250). -/
def State.isPartner (s : State) (l : Lantern) : Bool :=
  let known := (s.rd R.TWN_CTRL_PSER_HI).toNat * 2 ^ 32 + (s.rd R.TWN_CTRL_PSER_LO).toNat
  if known = 0 then
    let v := s.ownLantern.vtag
    v != 0 && l.vtag == v && l.serial != s.serial
  else l.serial == known

/-- The watched end node's lantern has arrived (R73). -/
def State.watchedLantern (s : State) (f : NFrame) : State :=
  if s.node = 0 ∨ f.epoch ≠ s.epoch then s
  else if s.watches1 ∧ f.src = 1 then { s with top := { s.top with watch1 := ⟨0, false, true⟩ } }
  else if s.watchesN ∧ f.src = s.get F.TOP_COUNT_NODES then { s with top := { s.top with watchN := ⟨0, false, true⟩ } }
  else s

/-- A backbone lantern on a line (R250, R252). -/
def State.backboneLantern (s : State) (p : BPort) (f : NFrame) : State :=
  if f.cls ≠ 4 ∨ f.flow ≠ 1 ∨ f.epn ∨ f.len ≠ 40 then s
  else
    let s := if s.isOn I.TOP then s.watchedLantern f else s
    if !s.twnOn then s
    else
      let l := lanternOf f.payload
      let s := s.modTwn fun t => { t with heard := (l.serial, s.mono) :: t.heard.filter fun (e : Nat × Nat) => e.1 != l.serial }
      if !s.isPartner l || s.bit F.TWN_CTRL_ROLE_SOLO then s
      else
        let s := s.modTwn fun t =>
          { t with lastAny := some s.mono, pserial := l.serial, seenA := t.seenA || p.line == .a, seenB := t.seenB || p.line == .b }
        let s := if s.bit F.TWN_CTRL_ROLE_W_M then s else s.modTwn fun t => { t with partner := some l }
        if s.visible then s.twnView.heedLantern l else s

/-- The mirror witness falls silent (R252). -/
def State.mirrorSilent (s : State) (low : Bool) : State :=
  if !s.twnOn || !s.bit F.TWN_CTRL_ROLE_W_M then s
  else ((s.putB F.TWN_CTRL_ROLE_W_M false).twnView).judge low

/-! The claim line (R254, R257). -/

/-- Position 1's wait ends; whether it is eligible is asked again. -/
def State.claimWaitEnd (s : State) (high : Bool) : State :=
  match s.twn.waiting with
  | none => s
  | some cause =>
    let s := s.modTwn fun t => { t with waiting := none }
    if s.role = 3 ∨ s.role = 4 then s else s.ifElig fun s => if high then s.claimWon cause else s.deferClaim

/-- CLAIM_FAULT: 1 stuck low, 2 stuck high. A CLR_FAULT written before counts no longer. -/
def State.claimFault (s : State) (kind : Nat) : State :=
  let s := s.modTwn fun t => { t with clrFault := false }
  let s := if s.get F.TWN_CTRL_ROLE_CLAIM_FAULT = 0 then
      ((s.raise P.TWN_CTRL 5).post 0x0A11 4 0 (beBytes 1 kind)).hltReason I.TWN 16 true false
    else s
  s.put F.TWN_CTRL_ROLE_CLAIM_FAULT kind

/-- The line reads stuck (R257): low against a partner's mirror lantern at most 20 µs old that says it does not drive it. -/
def State.claimStuck (s : State) (high : Bool) : State :=
  if !s.twnOn then s
  else if high then
    if s.bit F.TWN_CTRL_ROLE_CLAIM_DRV then (s.putB F.TWN_CTRL_ROLE_CLAIM_IN false).claimFault 2 else s
  else match s.twn.partner, s.twn.lastMirror with
    | some l, some t =>
      if s.bit F.TWN_CTRL_ROLE_CLAIM_DRV || l.claimDrv || !s.bit F.TWN_CTRL_ROLE_W_M || decide (20000 < s.mono - t) then s
      else (s.putB F.TWN_CTRL_ROLE_CLAIM_IN true).claimFault 1
    | _, _ => s

/-- The line test: low before its end, high within 2 µs after release. -/
def State.claimTest (s : State) (lowIn highAfter : Bool) : State :=
  let per := s.get F.TWN_CTRL_CFG_CLT_PER * 1000
  let phase := if s.get F.TWN_CTRL_ROLE_TPOS_EFF = 0 then 0 else per / 2
  let other := match s.twn.partner with
    | some l => l.claimDrv
    | none => true
  if !s.twnOn || per == 0 || s.cycle % per != phase || s.bit F.TWN_CTRL_ROLE_CLAIM_DRV || other ||
      !s.bit F.TWN_CTRL_ROLE_W_M || s.bit F.TWN_CTRL_ROLE_SOLO then s
  else
    let s := (s.emit (.claim true)).emit (.claim false)
    if !lowIn then s.claimFault 2
    else if !highAfter then s.claimFault 1
    else if s.twn.clrFault then
      ((s.modTwn fun t => { t with clrFault := false }).put F.TWN_CTRL_ROLE_CLAIM_FAULT 0).hltReason I.TWN 16 false false
    else s

/-! Confirmation (R258). -/

/-- The nearest numbered nodes outside the vehicle, one on each side that has one. -/
def State.neighbours (s : State) : List Nat :=
  let w := s.curView
  let out := ((List.range w.nodes).map (· + 1)).filter fun n => s.identVeh 0 n != w.veh
  if w.node = 0 then []
  else ((out.filter (· < w.node)).reverse.take 1) ++ ((out.filter (w.node < ·)).take 1)

/-- The three numbers of a confirmation frame. -/
def confirmHead (asker partner nonce : Nat) : List Byte := beBytes 8 asker ++ beBytes 8 partner ++ beBytes 2 nonce

/-- A class 4 frame to one node. -/
def State.sendTo (s : State) (flow dst : Nat) (payload : List Byte) : State :=
  let f := s.ownFrame 4 0 dst flow payload
  let s := s.seqUsed 4 flow
  [Line.a, Line.b].foldl (fun s l => s.sendAll (s.exitPorts l 0 dst) f) s

/-- No neighbour confirms (R258): the module takes no role. -/
def State.unconfirmed (s : State) : State := (s.modTwn fun t => { t with confirm := none, unanswered := true }).noTakeover

/-- The module asks for confirmation; the NONCE is a free value. -/
def State.confirmReq (s : State) : State :=
  match s.twn.confirm with
  | none => s
  | some (cause, _) =>
    if !s.twnOn || s.visible then s
    else if s.neighbours.isEmpty then s.unconfirmed
    else
      let nonce := (s.free 16).toNat
      let s := s.used.modTwn fun t => { t with confirm := some (cause, some nonce) }
      s.neighbours.foldl (fun s n => s.sendTo 2 n (confirmHead s.serial s.twn.pserial nonce ++ beBytes 6 0)) s

/-- A class 4 frame of a FLOW, addressed to the node in the numbering in force. -/
def State.class4For (s : State) (flow : Nat) (f : NFrame) : Bool :=
  s.twnOn && f.cls == 4 && f.flow == flow && !f.epn && f.epoch == s.epoch && s.epoch != 0 && f.atype == 0 && f.dst == s.node &&
    s.node != 0

/-- A CONFIRM_REQ is answered with the time since the partner's last lantern, in µs. -/
def State.confirmReqRx (s : State) (f : NFrame) : State :=
  if !s.class4For 2 f then s
  else
    let partner := payNum f 8 8
    let age := match s.twn.heard.find? fun (e : Nat × Nat) => e.1 == partner with
      | some e => min 0xFFFFFFFE ((s.mono - e.2) / 1000)
      | none => 0xFFFFFFFF
    s.sendTo 3 f.src (f.payload.take 18 ++ beBytes 4 age ++ [0, 0])

/-- A CONFIRM: the claim rule, or a veto. -/
def State.confirmRx (s : State) (f : NFrame) (low : Bool) : State :=
  match s.twn.confirm with
  | some (cause, some nonce) =>
    if !s.class4For 3 f || payNum f 0 8 != s.serial || payNum f 16 2 != nonce then s
    else if cycleUsOf s.actCyc ≤ payNum f 18 4 then s.partnerGone cause low
    else (s.satInc F.TWN_CTRL_CNT_VETOES).raise P.TWN_CTRL 6
  | _ => s

/-- CONF_T passes without a confirmation. -/
def State.confirmEnd (s : State) : State :=
  if s.twn.confirm.isSome then s.unconfirmed else s

/-- The partner has stayed invisible for START_T in role none (R259). -/
def State.startTEnd (s : State) (low : Bool) : State :=
  if !s.twnOn || s.role != 0 || s.visible || !s.elig || s.twn.failed || s.bit F.TWN_CTRL_ROLE_SOLO then s
  else s.partnerFailed 1 low

/-! TWN_CTRL_CMD and handovers (R257 to R261). -/

/-- A carried write of TWN_CTRL_CMD: every bit clears by itself. -/
def State.twnCmd (s : State) (q : Requester) (v : Word) : State :=
  s.locked q R.TWN_CTRL_CMD fun s =>
    let s := if v.getLsbD 4 && s.get F.TWN_CTRL_ROLE_CLAIM_FAULT != 0 then s.modTwn fun t => { t with clrFault := true } else s
    let s := if v.getLsbD 3 then s.rejoin else s
    let s := if v.getLsbD 2 && s.role == 1 && s.partnerAsks then s.modTwn fun t => { t with granted := true } else s
    let s := if v.getLsbD 1 then s.isolate else s
    if v.getLsbD 0 && s.role == 1 then s.proposeHandover false 3 else s

/-- No acceptance within 4 cycles. -/
def State.declined (s : State) : State :=
  match s.twn.ho with
  | some h =>
    if h.accepted || decide (s.sinceCycle h.since < 4) then s
    else
      let s := ((s.modTwn fun t => { t with ho := none }).put F.TWN_CTRL_HO_RESULT 5).raise P.TWN_CTRL 10
      if h.cause = 6 then s.isolateNow 6 else s
  | none => s

/-- An automatic cause (R260): 0 MGT not READY for MGT_RET, 1 health REPLACE, 2 not eligible for START_T. -/
def State.autoHandover (s : State) (cause : Nat) : State :=
  if !s.twnOn || s.role != 1 || !s.bit F.TWN_CTRL_CFG_AUTO_HO || s.twn.ho.isSome then s
  else match cause with
    | 0 => if s.mgtReady then s else s.proposeHandover true 7
    | 1 => if s.get F.HLT_CTRL_NODE_LEVEL = 3 then s.proposeHandover true 7 else s
    | _ => if s.elig then s else s.proposeHandover false 3

/-- The new active takes the role (R260, R269), eligible as it must be (R248). -/
def State.takeHandover (s : State) : State :=
  if s.twn.hoTake.isSome && s.role == 2 then
    let s := s.modTwn fun t => { t with hoTake := none }
    if s.elig then s.switchOver true else s
  else s

/-! The mirror link (R262). -/

def State.linkUp (s : State) : State :=
  if !s.twnOn then s
  else
    let s := ((s.put F.TWN_MLINK_STAT_STATE 3).putB F.TWN_MLINK_STAT_L0_LOCK true).putB F.TWN_MLINK_STAT_L1_LOCK true
    (s.raise P.TWN_MLINK 0).askBase

/-- A lane is dropped, and the link runs on the other one. -/
def State.laneDrop (s : State) (second : Bool) : State :=
  if !s.twnOn then s
  else
    let was := s.mlinkUp
    let s := ((s.put F.TWN_MLINK_STAT_STATE 2).putB F.TWN_MLINK_STAT_L0_LOCK second).putB F.TWN_MLINK_STAT_L1_LOCK (!second)
    let s := s.raise P.TWN_MLINK 1
    if was then s else (s.raise P.TWN_MLINK 0).askBase

def State.linkDown (s : State) : State :=
  if !s.twnOn then s
  else
    let s := ((s.put F.TWN_MLINK_STAT_STATE 0).putB F.TWN_MLINK_STAT_L0_LOCK false).putB F.TWN_MLINK_STAT_L1_LOCK false
    ((s.putB F.TWN_MLINK_STAT_BASE false).modTwn fun t => { t with base := none, baseAsked := false }).raise P.TWN_MLINK 0

/-! Epochs and baselines (R264 to R267). -/

/-- The record of a change. -/
def State.itemRec (s : State) : MirrorItem → Option MRec
  | .ctx i => if s.ctxValid i && s.ctxMirror i then some (s.ctxRec i) else none
  | .payload i => s.payloadRec i
  | .canq n k => s.canqRec (n % 16) k
  | .tope => some s.topeRec
  | .fw d => if 4 ≤ d.length ∧ d.length ≤ 1024 then some ⟨7, 0, d⟩ else none

def State.epochRecord (s : State) (i : MirrorItem) : State :=
  match s.itemRec i with
  | some r => s.mirrorRecord r
  | none => s

/-- The size of an epoch in units of 16 bytes, and the largest. -/
def State.epochSize (s : State) (bytes : Nat) : State :=
  let u := min 65535 ((bytes + 15) / 16)
  (s.put F.TWN_MLINK_SIZE_LAST u).put F.TWN_MLINK_SIZE_MAX (max u (s.get F.TWN_MLINK_SIZE_MAX))

/-- The ACTIVE closes the epoch of the cycle that has ended (R265). -/
def State.closeEpoch (s : State) : State :=
  if s.role != 1 || !s.mlinkUp then s.modTwn fun t => { t with sent := .empty s.cycle, overflow := false }
  else
    let n := (s.cycle + 2 ^ 32 - 1) % 2 ^ 32
    let ovf := s.twn.overflow
    let s := s.emit (.mirror (mirrorBytes 3 n (closeBytes s.twn.sent ovf)))
    let s := if ovf then (s.satInc F.TWN_MLINK_ERR_OVERFLOW).raise P.TWN_MLINK 4 else s
    let s := (s.epochSize s.twn.sent.bytes).put F.TWN_MLINK_EPOCH_N n
    let s := s.modTwn fun t => { t with sent := .empty s.cycle, overflow := false, closed := n }
    s.mirrorRecord s.recseqRec

/-- Every record of a baseline: the current value of each item that records of TYPE 1 to 5 describe (R267). -/
def State.baseRecs (s : State) : List MRec :=
  let cs := s.validCtxs.filter s.ctxMirror
  cs.map s.ctxRec ++ cs.filterMap s.payloadRec ++
    ((List.range 16).flatMap fun n => ((List.range 8).map (· + 8)).filterMap fun k => s.canqRec n k) ++ [s.topeRec, s.recseqRec]

/-- The ACTIVE sends a baseline that its partner has asked for (R267). -/
def State.sendBase (s : State) : State :=
  if s.role != 1 || !s.mlinkUp || !s.twn.baseAsked then s
  else
    let b := (s.twn.baseNo + 1) % 2 ^ 32
    let s := (s.modTwn fun t => { t with baseAsked := false, baseNo := b }).satInc F.TWN_MLINK_ERR_RESYNC
    let s := s.raise P.TWN_MLINK 3
    let rs := s.baseRecs
    let s := rs.foldl (fun s r => s.emit (.mirror (mirrorBytes 4 b (recBytes r)))) s
    s.emit (.mirror (mirrorBytes 5 b (closeBytes (rs.foldl MBuf.add (.empty b)) false)))

/-- The records of a payload: header, body, padding. -/
def parseRecs : Nat → List Byte → List MRec
  | 0, _ => []
  | n + 1, bs =>
    if bs.length < 4 then []
    else
      let len := ofBytes (bytesAt bs 2 2)
      ⟨(bs.getD 0 0).toNat, (bs.getD 1 0).toNat, bytesAt bs 4 len⟩ :: parseRecs n (bs.drop (4 + (len + 3) / 4 * 4))

/-- A payload is added to what is received. -/
def MBuf.take (b : MBuf) (payload : List Byte) : MBuf :=
  let rs := parseRecs payload.length payload
  { b with recs := b.recs + rs.length, bytes := b.bytes + payload.length, crc := crcMore b.crc payload, list := b.list ++ rs }

/-- A close agrees with what was received and reports no overflow. -/
def closeOk (b : MBuf) (payload : List Byte) : Bool :=
  let num := fun i => ofBytes (bytesAt payload i 4)
  num 0 == b.recs && num 4 == b.bytes && num 8 == crcEnd b.crc && num 12 / 2 ^ 31 == 0

/-- Apply one record (R266). -/
def State.applyRec (s : State) (r : MRec) : State :=
  let num := fun i n => ofBytes (bytesAt r.body i n)
  match r.type with
  | 1 =>
    let i := num 0 2
    if s.ctxValid i && s.ctxMirror i then
      let st := num 6 1
      let s := (s.wrNum (ctxAddr i + 20) 2 (num 2 2)).wrNum (ctxAddr i + 22) 2 (num 4 2)
      ((s.setStat i 7 (st.testBit 7)).setStat i 6 (st.testBit 6)).setStat i 5 (st.testBit 5)
    else s
  | 2 =>
    let i := num 0 2
    if s.ctxValid i && s.ctxMirror i then
      { s with fab := { s.fab with subm := stSet (fun _ => none) s.fab.subm i (some (bytesAt r.body 4 (num 2 2))) } }
    else s
  | 3 =>
    let key := r.sub % 16 * 16 + num 0 1 % 8 + 8
    s.modTwn fun t => { t with
      qstate := (key, num 2 2, num 1 1, num 4 4) :: t.qstate.filter fun (e : Nat × Nat × Nat × Nat) => e.1 != key }
  | 4 => s.modTwn fun t => { t with tope := some (num 0 2) }
  | 5 => s.wr R.TWN_MLINK_PRSEQ (BitVec.ofNat 32 (num 0 4))
  | 6 => s.modTwn fun t => { t with theirs := t.theirs ++ [⟨r.sub, num 0 2, num 4 4, num 8 4⟩] }
  | 7 => s.emit (.fwState r.body)
  | _ => s

/-- An epoch is discarded: SYNCED is lost, and a baseline is asked for. The record's reason code is a free value. -/
def State.discardEpoch (s : State) (n : Nat) : State :=
  let s := (s.satInc F.TWN_MLINK_ERR_DISCARD).raise P.TWN_MLINK 2
  let s := (s.post 0x0A14 2 (subject 1 0) (beBytes 4 n ++ [s.free 8])).used
  (s.modTwn fun t => { t with buf := none }).dropSync.askBase

/-- The records of epoch `n` follow: an epoch that is still without its close is discarded (R266). -/
def State.nextEpoch (s : State) (n : Nat) : State :=
  match s.twn.buf with
  | some b => if b.n = n then s else s.discardEpoch b.n
  | none => s

/-- What has been received of epoch `n`. -/
def State.epochBuf (s : State) (n : Nat) : MBuf := s.twn.buf.getD (.empty n)

/-- Records of an epoch arrive; those of the next epoch end an unclosed one (R266). -/
def State.erecRx (s : State) (n : Nat) (payload : List Byte) : State :=
  if s.role != 2 || !s.mlinkUp then s
  else
    let s := s.nextEpoch n
    s.modTwn fun t => { t with buf := some ((s.epochBuf n).take payload) }

/-- Commit an epoch (R266), SYNCED after a baseline (R267), the cross-check (R272), and a handover that waited for it (R260). -/
def State.commitEpoch (s : State) (b : MBuf) : State :=
  let s := b.list.foldl (fun s r => s.applyRec r) s
  let s := (s.modTwn fun t => { t with committed := b.n, buf := none }).put F.TWN_MLINK_EPOCH_N b.n
  let s := s.epochSize b.bytes
  let s := if s.twn.bclosed && !s.synced then
      ((s.modTwn fun t => { t with bclosed := false, resync := false }).setSynced true).raise P.TWN_MLINK 6
    else s
  let s := s.xCommit b.n
  if s.twn.hoTake = some b.n then s.takeHandover else s

/-- A close of an epoch. While SYNCED is 0 no epoch precedes the first one that a baseline leads to. -/
def State.ecloseRx (s : State) (n : Nat) (payload : List Byte) : State :=
  if s.role != 2 || !s.mlinkUp then s
  else
    let s := s.nextEpoch n
    let b := s.epochBuf n
    if closeOk b payload && (!s.synced || n == (s.twn.committed + 1) % 2 ^ 32) then s.commitEpoch b else s.discardEpoch n

/-- A TOPE difference still stands 4 cycles after the standby's own flip, when its grace has ended (R266). -/
def State.topeCheck (s : State) : State :=
  match s.twn.tope with
  | some e =>
    if s.get F.TOP_SHADOW_GRACE ≠ 0 then s else
    let s := s.modTwn fun t => { t with tope := none }
    if e = s.epoch then s else s.raise P.TWN_MLINK 5
  | none => s

/-- A baseline record arrives and is applied at once while SYNCED is 0 (R267). -/
def State.brecRx (s : State) (n : Nat) (payload : List Byte) : State :=
  if s.role != 2 || !s.mlinkUp || s.synced then s
  else
    let b := match s.twn.base with
      | some b => if b.n = n then b else .empty n
      | none => .empty n
    let s := s.modTwn fun t => { t with base := some { (b.take payload) with list := [] }, resync := false }
    let s := s.putB F.TWN_MLINK_STAT_BASE true
    (parseRecs payload.length payload).foldl (fun s r => if 1 ≤ r.type ∧ r.type ≤ 5 then s.applyRec r else s) s

/-- The close of a baseline: checked, or the baseline is restarted. -/
def State.bcloseRx (s : State) (n : Nat) (payload : List Byte) : State :=
  if s.role != 2 || !s.mlinkUp || s.synced then s
  else
    let b := match s.twn.base with
      | some b => if b.n = n then b else .empty n
      | none => .empty n
    let s := (s.modTwn fun t => { t with base := none }).putB F.TWN_MLINK_STAT_BASE false
    if closeOk b payload then s.modTwn fun t => { t with bclosed := true } else s.askBase

/-! The cycle boundary (R252, R253, R259, R260). -/

/-- The handover at the boundary of HK: the old active changes role; the new one waits for its last epoch. -/
def State.handoverBoundary (s : State) : State :=
  let s := match s.twn.ho with
    | some h =>
      if h.accepted && !laterThan 32 h.hk s.cycle then
        let s := (s.put F.TWN_CTRL_HO_RESULT 0).satInc F.TWN_CTRL_CNT_HANDOVERS
        s.setRole (if h.fault then 3 else 2) h.cause false 0
      else s
    | none => s
  match s.twn.hoNew with
  | some hk =>
    if laterThan 32 hk s.cycle then s
    else
      let last := (hk + 2 ^ 32 - 1) % 2 ^ 32
      let s := s.modTwn fun t => { t with hoNew := none, hoTake := some last }
      if s.twn.committed = last then s.takeHandover else s
  | none => s

/-- An eligible STANDBY whose partner shows none or ISOLATED is orphaned. -/
def State.orphaned (s : State) : State :=
  if s.role == 2 && s.elig && s.visible && (s.partnerRole == 0 || s.partnerRole == 3) then s.setRole 1 11 false 0 else s

/-- The partner's last lantern at a boundary: taken now where it has only just made the partner visible; otherwise the rows for the
roles apply again. -/
def State.heedAgain (s : State) (was : Bool) (l : Lantern) : State :=
  if !was then s.heedLantern l else if s.bit F.TWN_CTRL_ROLE_SOLO || l.role == 4 then s else s.roleRows l

/-- The controller at the boundary of the cycle that starts; `low`: the filtered claim line. The epoch of the cycle that has ended is
closed before any role changes. -/
def State.twnBoundary (s : State) (low : Bool) : State :=
  if !s.twnOn then s
  else
    let was := s.visible
    let s := (s.closeEpoch.sendBase).putB F.TWN_CTRL_ROLE_CLAIM_IN low
    let s := (s.putB F.TWN_CTRL_ROLE_W_BA s.twn.seenA).putB F.TWN_CTRL_ROLE_W_BB s.twn.seenB
    let s := (s.modTwn fun t => { t with seenA := false, seenB := false }).twnView
    let s := if s.role = 2 ∧ s.visible ∧ s.get F.TWN_CTRL_ROLE_W_M = 0 then
        (if s.twn.silent then s.dropSync else s.modTwn fun t => { t with silent := true })
      else s
    let s := s.handoverBoundary.orphaned.healthRow
    match s.twn.partner with
    | some l => if s.visible then s.heedAgain was l else s.judge low
    | none => s.judge low

/-! The commands. -/

/-- MIRROR_LANTERN_SEND (R249). -/
def execMirrorLanternSend (s : State) : Host.Outcome State Fault Refusal :=
  .next (if s.mlinkUp && s.role != 4 then s.emit (.mirror (mirrorBytes 1 0 (lanternBytes s.ownLantern))) else s)

def execMirrorLanternRx (payload : List Byte) (s : State) : Host.Outcome State Fault Refusal := .next (s.mirrorLantern payload)
def execBackboneLanternRx (p : BPort) (f : NFrame) (s : State) : Host.Outcome State Fault Refusal := .next (s.backboneLantern p f)
def execClaimWaitEnd (highThroughout : Bool) (s : State) : Host.Outcome State Fault Refusal := .next (s.claimWaitEnd highThroughout)
def execClaimStuck (high : Bool) (s : State) : Host.Outcome State Fault Refusal := .next (s.claimStuck high)
def execClaimLineTest (lowIn highAfter : Bool) (s : State) : Host.Outcome State Fault Refusal := .next (s.claimTest lowIn highAfter)

/-- CLR_FAULT (R257): a write of TWN_CTRL_CMD. -/
def execClrFault (q : Requester) (v : Word) (s : State) : Host.Outcome State Fault Refusal :=
  .next (s.carry q R.TWN_CTRL_CMD v fun s => s.twnCmd q v)

def execConfirmReq (s : State) : Host.Outcome State Fault Refusal := .next s.confirmReq
def execConfirmReqRx (_p : BPort) (f : NFrame) (s : State) : Host.Outcome State Fault Refusal := .next (s.confirmReqRx f)
def execConfirm (_p : BPort) (f : NFrame) (claimLow : Bool) (s : State) : Host.Outcome State Fault Refusal :=
  .next (s.confirmRx f claimLow)
def execConfTExpire (s : State) : Host.Outcome State Fault Refusal := .next s.confirmEnd
def execStartTExpire (claimLow : Bool) (s : State) : Host.Outcome State Fault Refusal := .next (s.startTEnd claimLow)

/-- HANDOVER (R260): a write of TWN_CTRL_CMD. -/
def execHandover (q : Requester) (v : Word) (s : State) : Host.Outcome State Fault Refusal :=
  .next (s.carry q R.TWN_CTRL_CMD v fun s => s.twnCmd q v)

/-- ISOLATE (R260): a write of TWN_CTRL_CMD. -/
def execIsolate (q : Requester) (v : Word) (s : State) : Host.Outcome State Fault Refusal :=
  .next (s.carry q R.TWN_CTRL_CMD v fun s => s.twnCmd q v)

/-- REJOIN (R259): a write of TWN_CTRL_CMD. -/
def execRejoin (q : Requester) (v : Word) (s : State) : Host.Outcome State Fault Refusal :=
  .next (s.carry q R.TWN_CTRL_CMD v fun s => s.twnCmd q v)

/-- The write of TWN_CTRL_CMD that grants admission (R261). -/
def execAdmit (q : Requester) (v : Word) (s : State) : Host.Outcome State Fault Refusal :=
  .next (s.carry q R.TWN_CTRL_CMD v fun s => s.twnCmd q v)

def execHandoverDeclined (s : State) : Host.Outcome State Fault Refusal := .next s.declined
def execAutoHandoverCause (cause : Nat) (s : State) : Host.Outcome State Fault Refusal := .next (s.autoHandover cause)
def execMirrorLinkUp (s : State) : Host.Outcome State Fault Refusal := .next s.linkUp
def execLaneDegr (second : Bool) (s : State) : Host.Outcome State Fault Refusal := .next (s.laneDrop second)
def execMirrorLinkDown (s : State) : Host.Outcome State Fault Refusal := .next s.linkDown
def execEpochRecord (item : MirrorItem) (s : State) : Host.Outcome State Fault Refusal := .next (s.epochRecord item)
def execErecRx (n : Nat) (payload : List Byte) (s : State) : Host.Outcome State Fault Refusal := .next (s.erecRx n payload)
def execEcloseRx (n : Nat) (payload : List Byte) (s : State) : Host.Outcome State Fault Refusal := .next (s.ecloseRx n payload)
def execEpochMismatch (s : State) : Host.Outcome State Fault Refusal := .next s.topeCheck
def execBrecRx (n : Nat) (payload : List Byte) (s : State) : Host.Outcome State Fault Refusal := .next (s.brecRx n payload)
def execBcloseRx (n : Nat) (payload : List Byte) (s : State) : Host.Outcome State Fault Refusal := .next (s.bcloseRx n payload)

/-- MIRROR_CRC_ERR (R263). -/
def execMirrorCrcErr (s : State) : Host.Outcome State Fault Refusal :=
  .next (if s.twnOn then s.satInc F.TWN_MLINK_ERR_CRC_ERR else s)

def execHandoverWaitEnd (s : State) : Host.Outcome State Fault Refusal := .next s.takeHandover

end Sys2Proof.Machine
end

