-- ==== Sys2Proof/Machine/SgwOps.lean ====
section
/-!
DEFINITION. The signal gateway's image, entries, validation and flip (R162 to R176, R185 to R189).
-/

namespace Sys2Proof.Machine

/-- Change the gateway's own state. -/
def State.modSgw (s : State) (f : SgwState → SgwState) : State := { s with sgw := f s.sgw }

/-! The image and the banks in RAM. -/

/-- The address of image word `w` (R162). -/
def imgAddr (w : Nat) : Nat := 0x06000000 + 8 * (w % 131072)

/-- The address of buffer offset `o`. -/
def bufAddr (o : Nat) : Nat := imgAddr (65536 + o)

/-- The words that `n` data bytes take. -/
def wordsOf (n : Nat) : Nat := (n + 7) / 8

/-- Map, input and recipe entries (R164). -/
def mapAddr (b i : Nat) : Nat := 0x06200000 + b * 0x100000 + 16 * i
def inpAddr (b i : Nat) : Nat := 0x06600000 + b * 0x10000 + 16 * i
def rcpAddr (b i : Nat) : Nat := 0x06700000 + b * 0x10000 + 16 * i

def State.actBank (s : State) : Nat := s.get F.SGW_CTRL_STAT_ACT_BANK

/-- NENT of a bank; values above 65,536 act as 65,536. -/
def State.nent (s : State) (b : Nat) : Nat := min 65536 (s.get (if b = 0 then F.SGW_CTRL_NENT0_NENT else F.SGW_CTRL_NENT1_NENT))

/-- The entries of a table whose first byte has VALID, ascending. -/
def State.validEntries (s : State) (base : Nat) : List Nat :=
  s.mem.filterMap fun e =>
    if base ≤ e.1 ∧ e.1 < base + 16384 ∧ e.1 % 16 = 0 ∧ e.2.getLsbD 7 then some ((e.1 - base) / 16) else none

def State.validInputs (s : State) (b : Nat) : List Nat := s.validEntries (inpAddr b 0)
def State.validRecipes (s : State) (b : Nat) : List Nat := s.validEntries (rcpAddr b 0)

/-- The map entries of a bank that run: below NENT, with OP not 0. -/
def State.liveMap (s : State) (b : Nat) : List Nat :=
  s.mem.filterMap fun e =>
    if mapAddr b 0 ≤ e.1 ∧ e.1 < mapAddr b (s.nent b) ∧ e.1 % 16 = 8 ∧ 64 ≤ e.2.toNat then some ((e.1 - mapAddr b 0) / 16) else none

/-! Fields that input and recipe entries share (R165, R169); `a` is the entry's address. -/

def State.eKind (s : State) (a : Nat) : Nat := s.rdNum a 1 / 64 % 2
def State.eChan (s : State) (a : Nat) : Nat := s.rdNum a 1 % 16
def State.eCtx (s : State) (a : Nat) : Nat := s.rdNum (a + 2) 2
def State.eId (s : State) (a : Nat) : Nat := s.rdNum (a + 4) 4
def State.eLen (s : State) (a : Nat) : Nat := s.rdNum (a + 8) 2
def State.ePer (s : State) (a : Nat) : Nat := s.rdNum (a + 10) 2
def State.iBuf (s : State) (a : Nat) : Nat := s.rdNum (a + 12) 2
def State.rPhase (s : State) (a : Nat) : Nat := s.rdNum (a + 12) 2
def State.rBuf (s : State) (a : Nat) : Nat := s.rdNum (a + 14) 2

/-- The identifier an input is bound to: with IDE = 0 only 11 bits count. -/
def idKey (canid : Nat) : Nat := if canid.testBit 31 then canid % 2 ^ 29 + 2 ^ 31 else canid % 2 ^ 11

/-- The address of a half of an input (R167). -/
def State.halfAddr (s : State) (a : Nat) (half : Bool) : Nat :=
  bufAddr (s.iBuf a + if half then 1 + wordsOf (s.eLen a) else 0)

/-! Inputs (R166 to R168). -/

def State.sgwIn (s : State) (i : Nat) : SgwInput := stGet (fun _ => SgwInput.reset) s.sgw.inputs i

def State.setSgwIn (s : State) (i : Nat) (x : SgwInput) : State :=
  s.modSgw fun g => { g with inputs := stSet (fun _ => SgwInput.reset) g.inputs i x }

/-- Data and RXF arrive at input `i` of the active bank. -/
def State.inputData (s : State) (i : Nat) (data : List Byte) (rxf : Nat) : State :=
  let a := inpAddr s.actBank i
  let x := s.sgwIn i
  let inUse := s.sgw.sample.any fun (e : Nat × SgwInput) => e.1 == i && e.2.half != x.half
  let half := if inUse then x.half else !x.half
  let s := if inUse then s.satInc F.SGW_CTRL_INCNT_INP_OVW else s
  let d := data.take (s.eLen a)
  let s := s.wrBytes (s.halfAddr a half) (beBytes 4 (s.mono / 1024) ++ beBytes 2 d.length ++ beBytes 2 rxf ++ d)
  s.setSgwIn i ⟨0, s.mono, false, false, true, half⟩

/-- A frame that matches no input (R166). -/
def State.noInput (s : State) : State := (s.satInc F.SGW_CTRL_INCNT_NOINP).raise P.SGW_CTRL 10

/-- The input of the active bank that a context feeds. -/
def State.flowInput (s : State) (ctx : Nat) : Option Nat :=
  (s.validInputs s.actBank).find? fun i => s.eKind (inpAddr s.actBank i) == 0 && s.eCtx (inpAddr s.actBank i) % 4096 == ctx

/-- The input of the active bank that a frame of a channel feeds. -/
def State.canInput (s : State) (n : Nat) (f : CanFrame) : Option Nat :=
  (s.validInputs s.actBank).find? fun i => s.eKind (inpAddr s.actBank i) == 1 && s.eChan (inpAddr s.actBank i) == n &&
    idKey (s.eId (inpAddr s.actBank i)) == (if f.ide then f.id % 2 ^ 29 + 2 ^ 31 else f.id % 2 ^ 11)

/-- A frame that a context delivers (R166). -/
def State.flowArrival (s : State) (ctx : Nat) (f : NFrame) : State :=
  match s.flowInput ctx with
  | some i => s.inputData i (f.payload.take f.len) ((s.ctxStat ctx 1).toNat * 4096)
  | none => s.noInput

/-- The head of a gateway-owned receive queue (R166): SGW takes it and frees its slot. -/
def State.canArrival (s : State) (n k : Nat) : State :=
  if !s.isOn (canIsland n) || !s.qEn n k || s.qOwner n k != 2 || s.get (fGet n k) == s.get (fPut n k) then s
  else
    let f := s.slotFrame (s.slotAddr n k (s.get (fGet n k)))
    let data := f.data.take (s.qDsz n k)
    let s := s.qStep n k (fGet n k)
    match s.canInput n f with
    | some i => s.inputData i data (f.fdf.toNat * 2 ^ 15 + (f.fdf && f.brs).toNat * 2 ^ 14 + (f.fdf && f.esi).toNat * 2 ^ 13)
    | none => s.noInput

/-- An input expires (R168). -/
def State.inputExpired (s : State) (i : Nat) : State :=
  if (s.sgwIn i).expired then s else (s.setSgwIn i { s.sgwIn i with expired := true }).raise P.SGW_CTRL 6

/-- The input of a context that expires (R149, R168). -/
def State.ctxInputExpired (s : State) (ctx : Nat) : State :=
  if !s.isOn I.SGW then s
  else match s.flowInput ctx with
    | some i => s.inputExpired i
    | none => s

/-! Map entries (R171 to R178). -/

/-- A map entry. -/
structure MapEntry where
  m : Int
  b : Int
  op : Nat
  ssgn : Bool
  rsgn : Bool
  le : Bool
  sh : Nat
  part : Nat
  alim : Nat
  fnum : Nat
  boff : Nat
  len : Nat
  src : Nat
  high : Nat
  slot : Nat
deriving DecidableEq, Repr

/-- The entry in 16 bytes (R171); `high` is FIELD[28:17]. -/
def entryOf (bs : List Byte) : MapEntry :=
  let r := ofBytes (bytesAt bs 8 8)
  { m := toSigned 32 (ofBytes (bytesAt bs 0 4)), b := toSigned 32 (ofBytes (bytesAt bs 4 4)),
    op := r / 2 ^ 62 % 4, ssgn := r.testBit 61, rsgn := r.testBit 60, le := r.testBit 59, sh := r / 2 ^ 54 % 32,
    part := r / 2 ^ 52 % 4, alim := r / 2 ^ 46 % 64, fnum := r / 2 ^ 36 % 1024, boff := r / 2 ^ 22 % 16384,
    len := r / 2 ^ 17 % 32 + 1, src := r / 2 ^ 17 % 2 ^ 17, high := r / 2 ^ 34 % 4096, slot := r % 2 ^ 17 }

def State.mapEntry (s : State) (b i : Nat) : MapEntry := entryOf (s.rdBytes (mapAddr b i) 16)

/-- The bytes that a field of `n` bits at bit offset `boff` touches. -/
def fieldBytes (boff n : Nat) : Nat := (boff % 8 + n + 7) / 8

/-- How far those bytes' number is shifted above the field (R172). -/
def fieldShift (le : Bool) (boff n : Nat) : Nat := if le then boff % 8 else 8 * fieldBytes boff n - boff % 8 - n

/-- The field in the data at address `a` (R172). -/
def State.getField (s : State) (a boff n : Nat) (le : Bool) : Nat :=
  let bs := s.rdBytes (a + boff / 8) (fieldBytes boff n)
  ofBytes (if le then bs.reverse else bs) / 2 ^ fieldShift le boff n % 2 ^ n

/-- Write the field; no other bit changes (R175). -/
def State.putField (s : State) (a boff n : Nat) (le : Bool) (v : Nat) : State :=
  let k := fieldBytes boff n
  let sh := fieldShift le boff n
  let bs := s.rdBytes (a + boff / 8) k
  let old := ofBytes (if le then bs.reverse else bs)
  let new := old - old / 2 ^ sh % 2 ^ n * 2 ^ sh + v % 2 ^ n * 2 ^ sh
  s.wrBytes (a + boff / 8) (if le then (beBytes k new).reverse else beBytes k new)

/-- y, clamped to `w` bits (R174, R175), and whether clamping changed it. -/
def MapEntry.result (e : MapEntry) (x : Int) (w : Nat) : Int × Bool :=
  let y := (x * e.m + e.b) / (2 ^ e.sh : Nat)
  let lo : Int := if e.rsgn then -(2 ^ (w - 1) : Nat) else 0
  let hi : Int := if e.rsgn then (2 ^ (w - 1) : Nat) - 1 else (2 ^ w : Nat) - 1
  let c := max lo (min hi y)
  (c, c != y)

/-- STATUS bits of a slot (R163). -/
abbrev stVALID : Nat := 15
abbrev stFRESH : Nat := 14
abbrev stHELD : Nat := 13
abbrev stSTALE : Nat := 12
abbrev stEXPIRED : Nat := 11
abbrev stSRCERR : Nat := 10
abbrev stSAT : Nat := 9
abbrev stUE : Nat := 8

def State.slotValue (s : State) (w : Nat) : Nat := s.rdNum (imgAddr w) 4
def State.slotAge (s : State) (w : Nat) : Nat := s.rdNum (imgAddr w + 4) 2
def State.slotStatus (s : State) (w : Nat) : Nat := s.rdNum (imgAddr w + 6) 2

/-- A bit as its weight, when it holds. -/
def bitW (b : Bool) (k : Nat) : Nat := b.toNat * 2 ^ k

/-- The age limit is reached (R178). -/
def staleAt (alim age : Nat) : Bool := alim != 0 && decide ((8 + alim % 8) * 4 ^ (alim / 8) ≤ age)

/-- Write a destination slot (R176, R178): VALUE where it is computed, AGE, STATUS. `bits`: what the table sets besides. -/
def State.slotWrite (s : State) (e : MapEntry) (value : Option Int) (age bits : Nat) : State :=
  let valid := (s.slotStatus e.slot).testBit stVALID
  let v := match value with
    | some y => ofSigned 32 y
    | none => s.slotValue e.slot
  let st := bitW (valid || value.isSome) stVALID + bitW (valid && value.isNone) stHELD + bitW (staleAt e.alim age) stSTALE + bits
  s.wrBytes (imgAddr e.slot) (beBytes 4 v ++ beBytes 2 age ++ beBytes 2 st)

/-- The source value of a slot (R173). -/
def State.slotSource (s : State) (e : MapEntry) (w : Nat) : Int :=
  match e.part with
  | 1 => (s.slotAge w : Nat)
  | 2 => (s.slotStatus w : Nat)
  | _ => if e.ssgn then toSigned 32 (s.slotValue w) else (s.slotValue w : Nat)

/-- An OP 1 entry (R176); `ue`: an uncorrected error in its source. -/
def State.runUnpack (s : State) (e : MapEntry) (x : SgwInput) (ue : Bool) : State :=
  let a := inpAddr s.actBank e.fnum
  let h := s.halfAddr a x.half
  if x.never then s.slotWrite e none 0xFFFF (bitW x.expired stEXPIRED)
  else if ue then s.slotWrite e none x.age (bitW true stUE + bitW true stSRCERR)
  else
    let beyond := decide (8 * s.rdNum (h + 4) 2 < e.boff + e.len)
    if beyond || x.expired then s.slotWrite e none x.age (bitW x.expired stEXPIRED + bitW beyond stSRCERR)
    else
      let raw := s.getField (h + 8) e.boff e.len e.le
      let r := e.result (if e.ssgn then toSigned e.len raw else (raw : Nat)) 32
      s.slotWrite e (some r.1) x.age (bitW x.fresh stFRESH + bitW r.2 stSAT)

/-- An OP 2 entry (R176). -/
def State.runMove (s : State) (e : MapEntry) (ue : Bool) : State :=
  if ue then s.slotWrite e none 0xFFFF (bitW true stUE + bitW true stSRCERR)
  else
    let st := s.slotStatus e.src
    if st.testBit stVALID then
      let r := e.result (s.slotSource e e.src) 32
      let keep := [stFRESH, stHELD, stEXPIRED, stSRCERR, stUE].foldl (fun m k => m + bitW (st.testBit k) k) 0
      s.slotWrite e (some r.1) (s.slotAge e.src) (keep + bitW r.2 stSAT)
    else s.slotWrite e none (s.slotAge e.src) 0

/-- A pack's part in its recipe header (R170). -/
def State.packHeader (s : State) (h age bits : Nat) : State :=
  (s.wrNum (h + 4) 2 (max (s.rdNum (h + 4) 2) age)).wrNum (h + 6) 2 (s.rdNum (h + 6) 2 ||| bits)

/-- An OP 3 entry (R175, R176). A source word with an uncorrected error leaves the field as it is. -/
def State.runPack (s : State) (e : MapEntry) (ue : Bool) : State :=
  let h := bufAddr (s.rBuf (rcpAddr s.actBank e.fnum))
  if ue then s.packHeader h 0xFFFF (bitW true stUE + bitW true stSRCERR)
  else
    let st := s.slotStatus e.slot
    let s := s.packHeader h (s.slotAge e.slot) st
    if st.testBit stVALID then
      let r := e.result (s.slotSource e e.slot) e.len
      (s.packHeader h 0 (bitW r.2 stSAT)).putField (h + 8) e.boff e.len e.le (ofSigned e.len r.1)
    else s

/-- An entry that an uncorrected error affects (R193). -/
def State.entryUe (s : State) (i : Nat) : State :=
  ((s.satInc F.SGW_CTRL_UE_UE_CNT).put F.SGW_CTRL_UE_INDEX i).raise P.SGW_CTRL 8

/-- Run entry `i` of the active map; `bad`: the entry itself cannot be read; `ue`: its source cannot. -/
def State.runEntry (s : State) (i : Nat) (bad ue : Bool) : State :=
  if bad then s.entryUe i
  else
    let e := s.mapEntry s.actBank i
    let s := if ue then s.entryUe i else s
    match e.op with
    | 0 => s
    | 1 =>
      s.runUnpack e (match s.sgw.sample.find? fun (x : Nat × SgwInput) => x.1 == e.fnum with
        | some x => x.2
        | none => .reset) ue
    | 2 => s.runMove e ue
    | _ => s.runPack e ue

/-! Bank validation (R186). -/

/-- The first index of a list that a check names. -/
def firstBad (f : Nat → Bool) (l : List Nat) : Option Nat := l.find? f

def MapEntry.badFormat (e : MapEntry) : Bool :=
  match e.op with
  | 1 => e.part != 0
  | 2 => e.part == 3 || (e.ssgn && e.part != 0) || e.high != 0
  | _ => e.part == 3 || (e.ssgn && e.part != 0) || e.alim != 0

/-- An input entry breaks R165. -/
def State.badInput (s : State) (a : Nat) : Bool :=
  let len := s.eLen a
  s.rdNum a 1 / 16 % 4 != 0 || s.rdNum (a + 1) 1 != 0 || s.rdNum (a + 14) 2 != 0 || decide (4096 ≤ s.eCtx a) ||
    len == 0 || decide (1484 < len) || s.ePer a / 16384 == 3 ||
    (if s.eKind a = 0 then s.eChan a != 0 || s.eId a != 0 || s.ePer a != 0 else s.eCtx a != 0 || s.eId a / 2 ^ 29 % 4 != 0)

/-- Data lengths of a CAN recipe (R169). -/
def canLenOk (fdf : Bool) (len : Nat) : Bool := decide (len ≤ 8) || (fdf && [12, 16, 20, 24, 32, 48, 64].contains len)

/-- A recipe entry breaks R169. -/
def State.badRecipe (s : State) (a : Nat) : Bool :=
  (s.rdNum a 1).testBit 4 || s.rdNum (a + 1) 1 != 0 || decide (4096 ≤ s.eCtx a) || decide (4096 ≤ s.ePer a) ||
    decide (4096 ≤ s.rPhase a) ||
    (if s.eKind a = 0 then s.eChan a != 0 || s.eId a != 0 || s.ePer a != 0 || s.rPhase a != 0 || decide (1484 < s.eLen a)
     else s.eCtx a != 0 || (s.ePer a != 0 && decide (s.ePer a ≤ s.rPhase a)) || !canLenOk ((s.eId a).testBit 30) (s.eLen a))

/-- An entry refers to what the bank does not have (BADREF). -/
def State.badRef (s : State) (b : Nat) (e : MapEntry) : Bool :=
  decide (65536 ≤ e.slot) ||
    (match e.op with
     | 1 => !(s.validInputs b).contains e.fnum || decide (8 * s.eLen (inpAddr b e.fnum) < e.boff + e.len)
     | 2 => decide (65536 ≤ e.src)
     | _ => !(s.validRecipes b).contains e.fnum || decide (8 * s.eLen (rcpAddr b e.fnum) < e.boff + e.len))

/-- The buffers of a bank in checking order: item, index, offset, words. -/
def State.buffersOf (s : State) (b : Nat) : List (Nat × Nat × Nat × Nat) :=
  ((s.validInputs b).map fun i => (1, i, s.iBuf (inpAddr b i), 2 * (1 + wordsOf (s.eLen (inpAddr b i))))) ++
  (s.validRecipes b).map fun i => (2, i, s.rBuf (rcpAddr b i), 1 + wordsOf (s.eLen (rcpAddr b i)))

/-- The first buffer that leaves the frame area or overlaps an earlier one. -/
def firstOverlap : List (Nat × Nat) → List (Nat × Nat × Nat × Nat) → Option (Nat × Nat)
  | _, [] => none
  | seen, (item, i, o, w) :: rest =>
    if 65536 < o + w ∨ seen.any (fun (p : Nat × Nat) => decide (o < p.1 + p.2) && decide (p.1 < o + w)) then some (item, i)
    else firstOverlap ((o, w) :: seen) rest

/-- The first key that repeats an earlier one. -/
def firstRepeat : List Nat → List (Nat × Nat × Nat) → Option (Nat × Nat)
  | _, [] => none
  | seen, (item, i, key) :: rest => if seen.contains key then some (item, i) else firstRepeat (key :: seen) rest

/-- The keys of inputs and of recipes with KIND 0 (DUPKEY). -/
def State.inputKeys (s : State) (b : Nat) : List (Nat × Nat × Nat) :=
  (s.validInputs b).map fun i =>
    let a := inpAddr b i
    (1, i, if s.eKind a = 0 then s.eCtx a else 2 ^ 40 * (1 + s.eChan a) + idKey (s.eId a))

def State.recipeKeys (s : State) (b : Nat) : List (Nat × Nat × Nat) :=
  ((s.validRecipes b).filter fun i => s.eKind (rcpAddr b i) == 0).map fun i => (2, i, s.eCtx (rcpAddr b i))

/-- The context is a gateway's subscriber or session (`rx`), or its publisher or session. -/
def State.gwTarget (s : State) (ctx : Nat) (rx : Bool) : Bool :=
  s.isOn I.FAB && s.ctxOwner ctx == 1 && (if rx then s.ctxReceives ctx else s.ctxPublishes ctx)

/-- The first fault of a bank: RESULT, ITEM, INDEX. -/
def State.bankFault (s : State) (b : Nat) : Nat × Nat × Nat :=
  let maps := s.liveMap b
  let inps := s.validInputs b
  let rcps := s.validRecipes b
  let orNext := fun (x : Option (Nat × Nat × Nat)) (y : Option (Nat × Nat × Nat)) => x.orElse fun _ => y
  let at' := fun (r item : Nat) (x : Option Nat) => x.map fun i => (r, item, i)
  let pair := fun (r : Nat) (x : Option (Nat × Nat)) => x.map fun p => (r, p.1, p.2)
  let rb := rcps.foldl (fun n i => n + s.eLen (rcpAddr b i)) 0
  let late := s.bit F.SGW_CTRL_FLIP_AT_K && !laterThan 32 (s.get F.SGW_CTRL_FLIP_K_K) s.cycle
  ([at' 1 0 (maps.find? fun i => (s.mapEntry b i).badFormat), at' 1 1 (inps.find? fun i => s.badInput (inpAddr b i)),
    at' 1 2 (rcps.find? fun i => s.badRecipe (rcpAddr b i)), at' 2 0 (maps.find? fun i => s.badRef b (s.mapEntry b i)),
    pair 3 (firstOverlap [] (s.buffersOf b)), pair 4 (firstRepeat [] (s.inputKeys b)), pair 4 (firstRepeat [] (s.recipeKeys b)),
    if 98304 < rb then some (5, 3, 0) else none,
    at' 6 1 (inps.find? fun i => s.eKind (inpAddr b i) == 0 && !s.gwTarget (s.eCtx (inpAddr b i) % 4096) true),
    at' 6 2 (rcps.find? fun i => s.eKind (rcpAddr b i) == 0 && !s.gwTarget (s.eCtx (rcpAddr b i) % 4096) false),
    if late then some (7, 3, 0) else none].foldl orNext none).getD (0, 3, 0)

/-- Validation ends (R186). -/
def State.validated (s : State) : State :=
  if s.get F.SGW_CTRL_FLIPSTAT_RESULT ≠ 15 then s
  else
    let r := s.bankFault (1 - s.actBank)
    let s := s.wr R.SGW_CTRL_FLIPSTAT (BitVec.ofNat 32 (r.1 * 2 ^ 28 + r.2.1 * 2 ^ 26 + r.2.2))
    if r.1 = 0 then s.putB F.SGW_CTRL_STAT_FLIP_PEND true
    else (s.raise P.SGW_CTRL 3).post 0x0611 3 (subject 0 0) (beBytes 1 r.1 ++ beBytes 1 r.2.1 ++ beBytes 4 r.2.2)

/-! The flip (R187, R188). -/

/-- Two inputs carry over: KIND, CHAN, CTX, CANID, MAXLEN and BUF agree. -/
def State.sameInput (s : State) (a a' : Nat) : Bool :=
  s.rdNum a 1 % 128 == s.rdNum a' 1 % 128 && s.eCtx a == s.eCtx a' && s.eId a == s.eId a' && s.eLen a == s.eLen a' && s.iBuf a == s.iBuf a'

/-- Two recipes carry over. -/
def State.sameRecipe (s : State) (a a' : Nat) : Bool :=
  s.eKind a == s.eKind a' && s.eChan a == s.eChan a' && s.eCtx a == s.eCtx a' && s.eId a == s.eId a' && s.eLen a == s.eLen a' &&
    s.rBuf a == s.rBuf a'

/-- An input of the new bank takes its state over or starts anew. -/
def State.carryInput (s : State) (old : SgwState) (b i : Nat) : State :=
  let a := inpAddr b i
  match (s.validInputs (1 - b)).find? fun j => s.sameInput a (inpAddr (1 - b) j) with
  | some j => s.setSgwIn i (stGet (fun _ => SgwInput.reset) old.inputs j)
  | none => (s.wrNum (s.halfAddr a false) 8 0).wrNum (s.halfAddr a true) 8 0

/-- A recipe of the new bank keeps its buffer, its count and its last submission, or starts with zeros. -/
def State.carryRecipe (s : State) (old : SgwState) (b i : Nat) : State :=
  let a := rcpAddr b i
  match (s.validRecipes (1 - b)).find? fun j => s.sameRecipe a (rcpAddr (1 - b) j) with
  | some j =>
    s.modSgw fun g => { g with last := stSet (fun _ => none) g.last i (stGet (fun _ => none) old.last j),
                               subs := stSet (fun _ => 0) g.subs i (stGet (fun _ => 0) old.subs j) }
  | none => s.wrBytes (bufAddr (s.rBuf a)) (List.replicate (8 * (1 + wordsOf (s.eLen a))) 0)

/-- The bank flips at the boundary that starts the cycle. -/
def State.bankFlip (s : State) : State :=
  let b := 1 - s.actBank
  let old := s.sgw
  let s := s.modSgw fun g => { g with inputs := [], last := [], subs := [] }
  let s := (s.validInputs b).foldl (fun s i => s.carryInput old b i) s
  let s := (s.validRecipes b).foldl (fun s i => s.carryRecipe old b i) s
  let s := ((s.put F.SGW_CTRL_STAT_ACT_BANK b).putB F.SGW_CTRL_STAT_FLIP_PEND false).wr R.SGW_CTRL_FLIPCYC (BitVec.ofNat 32 s.cycle)
  ((s.put F.SGW_CTRL_PMAX_PASS_MAX 0).raise P.SGW_CTRL 2).post 0x0610 1 (subject 0 0) (beBytes 1 b ++ beBytes 4 s.cycle)

/-- A pending flip at a boundary (R187). -/
def State.flipAtBoundary (s : State) : State :=
  if !s.bit F.SGW_CTRL_STAT_FLIP_PEND then s
  else if s.bit F.SGW_CTRL_FLIP_AT_K && laterThan 32 (s.get F.SGW_CTRL_FLIP_K_K) s.cycle then s
  else if s.bit F.SGW_CTRL_STAT_RUNNING then s.satInc F.SGW_CTRL_CNT_FLIP_DEFER
  else s.bankFlip

/-- What a boundary of the node's backbone cycle does in SGW (R168, R187): the flip, and the AGE of every input of the bank. -/
def State.sgwBoundary (s : State) : State :=
  if !s.isOn I.SGW then s
  else
    let s := s.flipAtBoundary
    s.modSgw fun g => { g with
      inputs := g.inputs.map fun (e : Nat × SgwInput) => (e.1, { e.2 with age := min 0xFFFF (e.2.age + 1) }),
      passless := g.passless + 1 }

end Sys2Proof.Machine
end

