-- ==== Sys2Proof/Machine/Sgw.lean ====
section
/-!
DEFINITION. Passes, submission, and the accesses and commands of the signal gateway (R179 to R193).
-/

namespace Sys2Proof.Machine

/-! Passes (R179 to R182). -/

/-- A pass is due: SGW works in a qualifying cycle, and no nightfall runs. -/
def State.passDue (s : State) : Bool :=
  s.isOn I.SGW && s.enabled P.SGW_CTRL && s.wake.power != .nightfall && s.cycle % max 1 (s.get F.SGW_CTRL_CFG_PASS_DIV) == 0

/-- A pass starts, or is skipped. -/
def State.passStart (s : State) : State :=
  if !s.passDue || s.asleep || s.wake.kaHold then s
  else if s.bit F.SGW_CTRL_STAT_RUNNING then
    ((s.satInc F.SGW_CTRL_CNT_OVERRUN).raise P.SGW_CTRL 1).post 0x0612 2 (subject 0 0) (beBytes 2 (s.get F.SGW_CTRL_STAT_PASS_T))
  else
    let s := s.putB F.SGW_CTRL_STAT_RUNNING true
    s.modSgw fun g => { g with
      sample := (s.validInputs s.actBank).map fun i => (i, s.sgwIn i),
      inputs := g.inputs.map fun (e : Nat × SgwInput) => (e.1, { e.2 with fresh := false }) }

/-- The data bytes of a recipe. -/
def State.recipeData (s : State) (a : Nat) : List Byte := s.rdBytes (bufAddr (s.rBuf a + 1)) (s.eLen a)

/-- The CAN frame of a KIND 1 recipe (R169). -/
def State.recipeFrame (s : State) (a : Nat) : CanFrame :=
  let id := s.eId a
  let data := s.recipeData a
  { ide := id.testBit 31, rtr := false, fdf := id.testBit 30, brs := id.testBit 29, esi := false, id := id % 2 ^ 29,
    dlc := dlcOf data.length, data := data }

/-- A KIND 1 recipe is due (R181). -/
def State.recipeDue (s : State) (a i : Nat) : Bool :=
  s.eKind a == 0 || s.ePer a == 0 || s.cycle % s.ePer a == s.rPhase a ||
    ((s.rdNum a 1).testBit 5 && stGet (fun _ => none) s.sgw.last i != some (s.recipeData a))

/-- A submission or handover of recipe `i` is counted, and its data remembered. -/
def State.recipeSent (s : State) (i : Nat) (data : List Byte) : State :=
  s.modSgw fun g => { g with last := stSet (fun _ => none) g.last i (some data),
                             subs := stSet (fun _ => 0) g.subs i ((stGet (fun _ => 0) g.subs i + 1) % 2 ^ 32) }

/-- What the cross-check digests of a recipe (R272): the data, after the identifier word for KIND 1. -/
def State.recipeDigest (s : State) (a : Nat) : List Byte :=
  if s.eKind a = 0 then s.recipeData a else beBytes 4 (s.eId a) ++ s.recipeData a

/-- The submission of one recipe while not muted (R181). -/
def State.submitRecipe (s : State) (i : Nat) : State :=
  let a := rcpAddr s.actBank i
  let data := s.recipeData a
  let ctx := s.eCtx a % 4096
  if s.eKind a = 0 then
    if s.gwTarget ctx false then ((s.submit ctx data).recipeSent i data).xdigRecord 0 i (s.recipeDigest a)
    else ((s.satInc F.SGW_CTRL_CNT_TGT_ERR).raise P.SGW_CTRL 5).post 0x0614 2 (subject 0 i) (beBytes 2 (s.eCtx a))
  else if !s.recipeDue a i then s
  else
    let n := s.eChan a
    let s' := if s.isOn (canIsland n) then s.canSubmit n i (s.recipeFrame a) else s
    (s'.recipeSent i data).xdigRecord 1 i (s.recipeDigest a)

/-- A muted recipe: the STANDBY, and a node without a role, hand it over; an ISOLATED one does not (R191, R245). -/
def State.muteRecipe (s : State) (i : Nat) : State :=
  let a := rcpAddr s.actBank i
  if s.role = 3 || !s.recipeDue a i then s
  else (s.handOver (s.eKind a) i (s.eCtx a % 4096) (s.recipeDigest a) (s.recipeData a)).recipeSent i (s.recipeData a)

/-- The submission step (R181, R190, R191): the mute state is sampled once. -/
def State.submission (s : State) : State :=
  if !s.enabled P.SGW_CTRL then s
  else
    let muted := s.bit F.SGW_CTRL_STAT_MUTED
    (s.validRecipes s.actBank).foldl (fun s i => if muted then s.muteRecipe i else s.submitRecipe i) s

/-- Write every valid recipe's header field at `k` (R170). -/
def State.headers (s : State) (k v : Nat) : State :=
  (s.validRecipes s.actBank).foldl (fun s i => s.wrNum (bufAddr (s.rBuf (rcpAddr s.actBank i)) + k) 4 v) s

/-- A pass ends (R180): its entries run in index order, then headers, count and submission. `dur` in units of 10 ns. -/
def State.passDone (s : State) (dur : Nat) (ueEntries ueSources : List Nat) : State :=
  if !s.isOn I.SGW || !s.bit F.SGW_CTRL_STAT_RUNNING then s
  else
    let s := s.headers 4 0
    let s := (s.liveMap s.actBank).foldl (fun s i => s.runEntry i (ueEntries.contains i) (ueSources.contains i)) s
    let s := s.wrapInc F.SGW_CTRL_PASSCNT_CNT
    let s := (s.headers 0 (s.get F.SGW_CTRL_PASSCNT_CNT)).putB F.SGW_CTRL_STAT_RUNNING false
    let s := (s.put F.SGW_CTRL_STAT_PASS_T (min 0xFFFF dur)).putB F.SGW_CTRL_STAT_STALL false
    let s := s.put F.SGW_CTRL_PMAX_PASS_MAX (max (s.get F.SGW_CTRL_PMAX_PASS_MAX) (min 0xFFFF dur))
    ((s.modSgw fun g => { g with sample := [], passless := 0 }).raise P.SGW_CTRL 0).submission

/-- STALL_N cycles have passed without a completed pass (R182). -/
def State.stall (s : State) : State :=
  if !s.isOn I.SGW || s.bit F.SGW_CTRL_STAT_STALL || decide (s.sgw.passless < max 1 (s.get F.SGW_CTRL_CFG_STALL_N)) then s
  else ((s.putB F.SGW_CTRL_STAT_STALL true).raise P.SGW_CTRL 4).post 0x0613 3 (subject 0 0) (beBytes 4 s.sgw.passless)

/-! Accesses (R183, R185). -/

/-- The image word selected. -/
def State.imgSel (s : State) : Nat := s.get F.SGW_IMG_SEL_INDEX

/-- INDEX moves on after an access to SGW_IMG_LO. -/
def State.imgNext (s : State) : State :=
  if s.bit F.SGW_IMG_SEL_AINC then s.put F.SGW_IMG_SEL_INDEX (s.imgSel + 1) else s

/-- A write of SGW_IMG_LO with the high word held: all 8 bytes at once. -/
def State.imgWrite (s : State) (hi lo : Word) : State :=
  (s.wrBytes (imgAddr s.imgSel) (beBytes 4 hi.toNat ++ beBytes 4 lo.toNat)).imgNext

/-- A write to bank `b` answers ACTIVE (1), BUSY (2) or is carried out (0), in the STATUS field given (R185). -/
def State.bankWriteTo (s : State) (b : Nat) (status : Fld) (f : State → State) : State :=
  if b = s.actBank then (s.put status 1).raise P.SGW_CTRL 7
  else if s.bit F.SGW_CTRL_STAT_FLIP_PEND then s.put status 2
  else f (s.put status 0)

/-- The four DATA registers of a page as 16 bytes. -/
def State.dataBytes (s : State) (r : Nat → Nat) : List Byte := [0, 1, 2, 3].flatMap fun n => beBytes 4 (s.rd (r n)).toNat

/-- Load 16 bytes into the four DATA registers. -/
def State.loadData (s : State) (r : Nat → Nat) (a : Nat) : State :=
  [0, 1, 2, 3].foldl (fun s n => s.wr (r n) (BitVec.ofNat 32 (s.rdNum (a + 4 * n) 4))) s

def State.mapIndex (s : State) : Nat := s.get F.SGW_MAP_SEL_INDEX % 65536

def State.mapNext (s : State) : State :=
  if s.bit F.SGW_MAP_SEL_AINC then s.put F.SGW_MAP_SEL_INDEX ((s.mapIndex + 1) % 65536) else s

/-- A carried write of SGW_MAP_DATA3 (R185). -/
def State.mapStore (s : State) (v : Word) : State :=
  let b := s.get F.SGW_MAP_SEL_BANK
  (s.wr (R.SGW_MAP_DATA 3) v).bankWriteTo b F.SGW_MAP_CMD_STATUS fun s =>
    (s.wrBytes (mapAddr b s.mapIndex) (s.dataBytes R.SGW_MAP_DATA)).mapNext

/-- A carried write of SGW_MAP_CMD: READ loads the entry. -/
def State.mapCmd (s : State) (v : Word) : State :=
  if v.getLsbD 0 then
    ((s.loadData R.SGW_MAP_DATA (mapAddr (s.get F.SGW_MAP_SEL_BANK) s.mapIndex)).put F.SGW_MAP_CMD_STATUS 0).mapNext
  else s

/-- The address of the selected input or recipe entry. -/
def State.rcpSelAddr (s : State) : Nat :=
  (if s.bit F.SGW_RCP_SEL_TABLE then rcpAddr else inpAddr) (s.get F.SGW_RCP_SEL_BANK) (s.get F.SGW_RCP_SEL_INDEX)

def State.rcpNext (s : State) : State :=
  if s.bit F.SGW_RCP_SEL_AINC then s.put F.SGW_RCP_SEL_INDEX (s.get F.SGW_RCP_SEL_INDEX + 1) else s

/-- A carried write of SGW_RCP_DATA3 (R185). -/
def State.rcpStore (s : State) (v : Word) : State :=
  (s.wr (R.SGW_RCP_DATA 3) v).bankWriteTo (s.get F.SGW_RCP_SEL_BANK) F.SGW_RCP_CMD_STATUS fun s =>
    (s.wrBytes s.rcpSelAddr (s.dataBytes R.SGW_RCP_DATA)).rcpNext

/-- A carried write of SGW_RCP_CMD. -/
def State.rcpCmd (s : State) (v : Word) : State :=
  if v.getLsbD 0 then ((s.loadData R.SGW_RCP_DATA s.rcpSelAddr).put F.SGW_RCP_CMD_STATUS 0).rcpNext else s

/-- A carried write of SGW_CTRL_NENTb (R185); its answer stands in SGW_MAP_CMD. -/
def State.nentWrite (s : State) (b : Nat) (v : Word) : State :=
  s.bankWriteTo b F.SGW_MAP_CMD_STATUS fun s =>
    s.put (if b = 0 then F.SGW_CTRL_NENT0_NENT else F.SGW_CTRL_NENT1_NENT) v.toNat

/-- A carried write of SGW_CTRL_FLIP (R186, R187): AT_K, then CANCEL, then FLIP, which a flip pending at the write ignores. -/
def State.flipWrite (s : State) (q : Requester) (v : Word) : State :=
  s.locked q R.SGW_CTRL_FLIP fun s =>
    let busy := s.bit F.SGW_CTRL_STAT_FLIP_PEND || s.get F.SGW_CTRL_FLIPSTAT_RESULT == 15
    let s := s.putB F.SGW_CTRL_FLIP_AT_K (v.getLsbD 1)
    let s := if v.getLsbD 2 then s.putB F.SGW_CTRL_STAT_FLIP_PEND false else s
    if v.getLsbD 0 && !busy then s.wr R.SGW_CTRL_FLIPSTAT 0xF0000000 else s

/-- What SGW_RCP_ISTAT reads as. -/
def State.istat (s : State) : Word :=
  if s.bit F.SGW_RCP_SEL_TABLE then 0
  else
    let x := s.sgwIn (s.get F.SGW_RCP_SEL_INDEX)
    BitVec.ofNat 32 (bitW x.expired 31 + bitW x.never 30 + bitW x.fresh 29 + bitW x.half 28 + x.age)

/-- What SGW_RCP_RSUB reads as. -/
def State.rsub (s : State) : Word :=
  if s.bit F.SGW_RCP_SEL_TABLE then BitVec.ofNat 32 (stGet (fun _ => 0) s.sgw.subs (s.get F.SGW_RCP_SEL_INDEX)) else 0

/-! The commands. -/

/-- INPUT_ARRIVAL (R166, R167). -/
def execInputArrival (src : GwSource) (s : State) : Host.Outcome State Fault Refusal :=
  .next (if !s.isOn I.SGW then s
    else match src with
      | .flow ctx f => s.flowArrival ctx f
      | .can n k => s.canArrival (n % 16) (k % 8))

/-- INP_EXPIRE (R168): the last arrival of an input of KIND 1 is longer ago than its TIMEOUT; one that has none does not expire. -/
def execInpExpire (i : Nat) (s : State) : Host.Outcome State Fault Refusal :=
  .next (let a := inpAddr s.actBank i
    if s.isOn I.SGW && (s.validInputs s.actBank).contains i && s.eKind a == 1 && timeoutNs (s.ePer a) != 0 && !(s.sgwIn i).never &&
      decide (timeoutNs (s.ePer a) < s.mono - (s.sgwIn i).last) then s.inputExpired i else s)

def execPassStart (s : State) : Host.Outcome State Fault Refusal := .next s.passStart

def execPassDone (dur : Nat) (ueEntries ueSources : List Nat) (s : State) : Host.Outcome State Fault Refusal :=
  .next (s.passDone dur ueEntries ueSources)

def execStall (s : State) : Host.Outcome State Fault Refusal := .next s.stall

/-- IMAGE_WRITE (R183): a write of the pair SGW_IMG. -/
def execImageWrite (q : Requester) (hi lo : Word) (s : State) : Host.Outcome State Fault Refusal :=
  .next (s.carryPair q R.SGW_IMG_HI R.SGW_IMG_LO hi lo fun s => s.imgWrite hi lo)

def execMapEntryWrite (q : Requester) (v : Word) (s : State) : Host.Outcome State Fault Refusal :=
  .next (s.carry q (R.SGW_MAP_DATA 3) v fun s => s.mapStore v)

def execMapRead (q : Requester) (v : Word) (s : State) : Host.Outcome State Fault Refusal :=
  .next (s.carry q R.SGW_MAP_CMD v fun s => s.mapCmd v)

def execRcpEntryWrite (q : Requester) (v : Word) (s : State) : Host.Outcome State Fault Refusal :=
  .next (s.carry q (R.SGW_RCP_DATA 3) v fun s => s.rcpStore v)

def execRcpRead (q : Requester) (v : Word) (s : State) : Host.Outcome State Fault Refusal :=
  .next (s.carry q R.SGW_RCP_CMD v fun s => s.rcpCmd v)

def execFlipRequest (q : Requester) (v : Word) (s : State) : Host.Outcome State Fault Refusal :=
  .next (s.carry q R.SGW_CTRL_FLIP v fun s => s.flipWrite q v)

def execValidationDone (s : State) : Host.Outcome State Fault Refusal := .next (if s.isOn I.SGW then s.validated else s)

def execCancel (q : Requester) (v : Word) (s : State) : Host.Outcome State Fault Refusal :=
  .next (s.carry q R.SGW_CTRL_FLIP v fun s => s.flipWrite q v)

end Sys2Proof.Machine
end

