-- ==== Sys2Proof/Machine/Hbr.lean ====
section
/-!
DEFINITION. The host bridge: MSI-X, the endpoint, windows, byte order and DMA rings (R275 to R288). BAR2 accesses stand with the
periscope bridge.
-/

namespace Sys2Proof.Machine

/-! MSI-X (R287). -/

/-- A vector can be sent: enabled, unmasked, and bus mastering is on. -/
def State.msixSendable (s : State) (v : Nat) : Bool :=
  s.isOn I.HBR && s.bit F.HBR_CTRL_LINK_MSIXEN && s.bit F.HBR_CTRL_LINK_BME && !s.bit F.HBR_CTRL_LINK_FMASK &&
    !s.bit F.HBR_CTRL_LINK_D3 && !s.bit (F.HBR_MSIX_V_CTRL_MASK v)

/-- The PBA bit of a vector. -/
def pbaFld (v : Nat) : Fld := ⟨R.HBR_MSIX_PBA, v, v⟩

/-- The message of a vector. -/
def State.msixMsg (s : State) (v : Nat) : Out :=
  .msix v ((s.rd (R.HBR_MSIX_V_ADDR_HI v)).toNat * 2 ^ 32 + (s.rd (R.HBR_MSIX_V_ADDR_LO v)).toNat / 4 * 4)
    (s.rd (R.HBR_MSIX_V_DATA v)).toNat

/-- A message is called for on a vector: it is sent, or its PBA bit is set. -/
def State.msixRequest (s : State) (v : Nat) : State :=
  if !s.isOn I.HBR then s
  else if s.msixSendable v then s.emit (s.msixMsg v)
  else s.putB (pbaFld v) true

/-- Vectors that have become sendable with their PBA bit set send one message each. -/
def State.msixFlush (s : State) : State :=
  (List.range 32).foldl (fun s v =>
    if s.bit (pbaFld v) && s.msixSendable v then (s.putB (pbaFld v) false).emit (s.msixMsg v) else s) s

/-- A carried write of HBR_MSIX_Vv_CTRL. -/
def State.msixMask (s : State) (v : Nat) (w : Word) : State := (s.putB (F.HBR_MSIX_V_CTRL_MASK v) (w.getLsbD 0)).msixFlush

/-! The endpoint (R275, R277, R366). -/

/-- The link changes: CHG, LINK_CHG and the record. -/
def State.linkChg (s : State) : State :=
  ((s.satInc F.HBR_CTRL_LINK_CHG).raise P.HBR_CTRL 0).post 0x0B10 1 (subject 0 0) (beBytes 4 (s.rd R.HBR_CTRL_LINK).toNat)

/-- OUT of a window: its requests awaiting a response. -/
def State.outFollow (s : State) (p : Nat) : State :=
  s.put (F.PSC_WIN_STAT_OUT p) (s.psc.reqs.filter fun r => r.win == p).length

/-- Drop every host read that PSC holds. -/
def State.dropReads (s : State) : State :=
  let s := { s with psc := { s.psc with reads := [], drb := [], reqs := s.psc.reqs.filter fun r => r.type != 0 } }
  ((List.range 8).foldl (fun s p => s.outFollow p) s).wr R.PSC_DRB_STAT 0

/-- The registers of HBR and configuration space return to their reset values; ECC counts stay. -/
def State.hbrReset (s : State) : State :=
  { s.clearRegs fun off => islandOf off == I.HBR && off % 4096 != 0x020 with acc := { s.acc with bar0 := 0, bar2 := 0 } }

/-- An endpoint reset (R277). -/
def State.endpointReset (s : State) (kind : EndpointReset) : State :=
  if !s.isOn I.HBR then s
  else
    let link := s.rd R.HBR_CTRL_LINK
    let s := s.hbrReset.dropReads
    match kind with
    | .flr => (s.wr R.HBR_CTRL_LINK (link &&& 0x8F070000)).raise P.HBR_CTRL 3
    | _ => if link.getLsbD 31 then s.linkChg else s

/-- The link comes up (R366), with the reference good; not while HBR runs on the IRO (R338). -/
def State.linkTrained (s : State) (speed width : Nat) : State :=
  if !s.isOn I.HBR || s.bit F.HBR_CTRL_LINK_UP || !s.bit F.SYS_CLK_STAT_PCIE_OK || s.get (F.SYS_CLK_ISL_CUR I.HBR) == 0 then s
  else (((s.putB F.HBR_CTRL_LINK_UP true).put F.HBR_CTRL_LINK_SPEED speed).put F.HBR_CTRL_LINK_WIDTH width).linkChg

/-- Bus Master Enable as configuration space has it (R286). -/
def State.setBme (s : State) (on : Bool) : State := if s.isOn I.HBR then (s.putB F.HBR_CTRL_LINK_BME on).msixFlush else s

/-- A configuration write; the places of its bits are those of PCI Express Base Specification 3.0 (log entry 30). -/
def State.cfgWrite (s : State) (reg : CfgReg) (v : Word) : State :=
  match reg with
  | .command => s.setBme (v.getLsbD 2)
  | .msix => ((s.putB F.HBR_CTRL_LINK_MSIXEN (v.getLsbD 31)).putB F.HBR_CTRL_LINK_FMASK (v.getLsbD 30)).msixFlush
  | .power =>
    if v.toNat % 4 = 3 then s.putB F.HBR_CTRL_LINK_D3 true
    else if v.toNat % 4 = 0 then (s.putB F.HBR_CTRL_LINK_D3 false).msixFlush else s
  | .bar 0 => { s with acc := { s.acc with bar0 := v &&& 0xFFE00000 } }
  | .bar 2 => { s with acc := { s.acc with bar2 := v &&& 0xF0000000 } }
  | _ => s

/-- The data of a configuration read; what the manual does not give is free. -/
def State.cfgRead (s : State) (reg : CfgReg) : Word :=
  match reg with
  | .id => s.rd R.HBR_CTRL_ID
  | .classRev => 0x02800001
  | .subsystem => 0xA5111F4B
  | .command => maskIn (s.free 32) 4 (BitVec.ofNat 32 (4 * s.get F.HBR_CTRL_LINK_BME))
  | .msix => maskIn (s.free 32) 0xC7FF0000
      (BitVec.ofNat 32 (s.get F.HBR_CTRL_LINK_MSIXEN * 2 ^ 31 + s.get F.HBR_CTRL_LINK_FMASK * 2 ^ 30 + 31 * 2 ^ 16))
  | .power => maskIn (s.free 32) 3 (BitVec.ofNat 32 (3 * s.get F.HBR_CTRL_LINK_D3))
  | .bar k => if k = 0 then s.acc.bar0 else if k = 2 then s.acc.bar2 else 0
  | .interrupt => maskIn (s.free 32) 0xFF00 0
  | .other => s.free 32

/-- A configuration request (R366). -/
def State.configRequest (s : State) (reg : CfgReg) (write : Option Word) : State :=
  if !s.isOn I.HBR || !s.bit F.HBR_CTRL_LINK_UP then s
  else match write with
    | some v => (s.cfgWrite reg v).emit (.cfgDone none)
    | none => (s.emit (.cfgDone (some (s.cfgRead reg)))).used

/-- An AER error (R275, R408). -/
def State.aer (s : State) (status : Word) (header : List Byte) : State :=
  if !s.isOn I.HBR then s
  else (s.raise P.HBR_CTRL 4).post 0x0B11 2 (subject 0 0) (beBytes 4 status.toNat ++ bytesAt header 0 16)

/-! Byte order (R281). -/

/-- What a byte-order mode exchanges in the low three bits of an offset; `reg`: a register target. -/
def laneMask (mode : Nat) (reg : Bool) : Nat :=
  match mode with
  | 0 => if reg then 3 else 7
  | 1 => 0
  | 2 => 1
  | 3 => 3
  | _ => 7

/-- The target byte of host byte `o`, and the host byte of target byte `o`. -/
def laneSwap (mode : Nat) (reg : Bool) (o : Nat) : Nat := o / 8 * 8 + (o % 8 ^^^ laneMask mode reg)

/-! Inbound windows (R279, R280). -/

def State.iwinStart (s : State) (n : Nat) : Nat := s.get (F.HBR_IWIN_BASE_BASE n) * 4096
def State.iwinSize (s : State) (n : Nat) : Nat := 2 ^ s.get (F.HBR_IWIN_CFG_SIZE n)

/-- The enabled window that covers a BAR2 offset. -/
def State.bar2Win (s : State) (off : Nat) : Option Nat :=
  (List.range 16).find? fun n =>
    s.bit (F.HBR_IWIN_CFG_EN n) && decide (s.iwinStart n ≤ off) && decide (off < s.iwinStart n + s.iwinSize n)

/-- An enable of window `n` as configured that R279 or, for a periscope window, R290 refuses. -/
def State.iwinBad (s : State) (n : Nat) : Bool :=
  let a := s.iwinStart n
  let sz := s.get (F.HBR_IWIN_CFG_SIZE n)
  let tgt := s.get (F.HBR_IWIN_CFG_TGT n)
  decide (sz < 12) || a % 2 ^ sz != 0 || decide (2 ^ 28 < a + 2 ^ sz) || decide (4 < s.get (F.HBR_IWIN_CFG_MODE n)) ||
    ((tgt == 1 || tgt == 2) && decide (19 < sz)) ||
    (tgt == 3 && decide (0x200000 < s.get (F.PSC_WIN_BASE_BASE (s.get (F.HBR_IWIN_CFG_PWIN n))) * 4096 + 2 ^ sz)) ||
    (List.range 16).any fun j => j != n && s.bit (F.HBR_IWIN_CFG_EN j) && decide (a < s.iwinStart j + s.iwinSize j) &&
      decide (s.iwinStart j < a + 2 ^ sz)

/-- A carried write of HBR_IWINn_CFG (R279). -/
def State.iwinWrite (s : State) (n : Nat) (v : Word) : State :=
  if s.bit (F.HBR_IWIN_CFG_EN n) then s.putB (F.HBR_IWIN_CFG_EN n) (v.getLsbD 31)
  else
    let s := s.wr (R.HBR_IWIN_CFG n) (v &&& 0x731F0007)
    if !v.getLsbD 31 then s
    else if s.iwinBad n then s.raise P.HBR_IWIN 0
    else s.putB (F.HBR_IWIN_CFG_EN n) true

/-- A carried write of HBR_IWINn_BASE: only while EN = 0. -/
def State.iwinBaseWrite (s : State) (n : Nat) (v : Word) : State :=
  if s.bit (F.HBR_IWIN_CFG_EN n) then s else s.put (F.HBR_IWIN_BASE_BASE n) (v.toNat / 4096)

/-- An access in no window (R280). -/
def State.noWin (s : State) (off : Nat) (read : Bool) : State :=
  let s := ((s.satInc F.HBR_CTRL_ERRCNT_NOWIN).raise P.HBR_CTRL 2).lastErr 4 1 off
  if read then s.emit (.bar2Unsupported off) else s

/-- An access error in BAR2 (R33, R280); it is answered by HBR_CTRL. -/
def State.bar2Error (s : State) (off n : Nat) (read : Bool) : State :=
  let s := ((s.raise P.HBR_CTRL 31).lastErr 1 1 off).post (I.HBR * 256 + 0x01) 2 (subject 0 0)
    (beBytes 1 Requester.host.code ++ beBytes 1 n ++ beBytes 4 off)
  if read then s.emit (.bar2Abort off) else s

/-- An access to message RAM through window `w` (R202, R203, R280); `ue`: an uncorrected error in what is read. -/
def State.ramWindow (s : State) (w off n : Nat) (write : Option (List Byte)) (ue : Bool) : State :=
  let isl := if s.get (F.HBR_IWIN_CFG_TGT w) = 1 then I.CBL else I.CBH
  let mode := s.get (F.HBR_IWIN_CFG_MODE w)
  let at' := fun (i : Nat) => isl * 16777216 + laneSwap mode false (off - s.iwinStart w + i)
  if !(n == 4 || n == 8) || off % n != 0 then s.bar2Error off n write.isNone
  else match write with
    | some bs =>
      if !s.isOn isl then (s.offAccess .firmware (isl * 65536) true (BitVec.ofNat 32 (ofBytes (bs.take 4)))).lastErr 3 1 off
      else
        let s := (List.range n).foldl (fun s i => s.wrByte (at' i) (bs.getD i 0)) s
        s.canRamWritten ((isl - I.CBL) * 8 + (at' 0) / 65536 % 8)
    | none =>
      if !s.isOn isl then
        (s.lastErr 3 1 off).emit (.bar2Data off ((beBytes 4 (0xFFFF0000 + isl) ++ beBytes 4 (0xFFFF0000 + isl)).take n))
      else if ue then ((s.raise (isl * 65536) 28).lastErr 5 1 off).emit (.bar2Abort off)
      else s.emit (.bar2Data off ((List.range n).map fun i => s.rdByte (at' i)))

/-! Outbound windows (R282). -/

def State.owinSize (s : State) (m : Nat) : Nat := max 12 (min 40 (s.get (F.HBR_OWIN_CFG_SIZE m)))

def State.owinHaddr (s : State) (m : Nat) : Nat :=
  (s.rd (R.HBR_OWIN_HI m)).toNat * 2 ^ 32 + (s.rd (R.HBR_OWIN_LO m)).toNat / 4096 * 4096

/-- The byte-order mode of an outbound window; 5 to 7 are reserved (R19). -/
def State.owinMode (s : State) (m : Nat) : Nat :=
  let v := s.get (F.HBR_OWIN_CFG_MODE m)
  if v ≤ 4 then v else (Config.reserved 3 (R.HBR_OWIN_CFG m) v).toNat % 5

/-- A carried write of HBR_OWINm_CFG (R282). -/
def State.owinWrite (s : State) (m : Nat) (v : Word) : State :=
  let s := s.wr (R.HBR_OWIN_CFG m) (v &&& 0x703F0000)
  if !v.getLsbD 31 then s
  else if s.owinHaddr m % 2 ^ s.owinSize m ≠ 0 then s.raise P.HBR_OWIN 4
  else s.putB (F.HBR_OWIN_CFG_EN m) true

/-- The whole range of a DMA access lies in an enabled window. -/
def State.dmaFits (s : State) (m o n : Nat) : Bool := s.bit (F.HBR_OWIN_CFG_EN m) && decide (o + n ≤ 2 ^ s.owinSize m)

/-- The host address of window offset `o`. -/
def State.dmaAddr (s : State) (m o : Nat) : Nat := s.owinHaddr m + laneSwap (s.owinMode m) false o

/-- Bytes of host memory that the module reads through a window; what the list does not give reads 0. -/
def State.dmaRead (s : State) (m o n : Nat) (mem : List (Nat × Byte)) : List Byte :=
  (List.range n).map fun i => stGet (fun _ => 0) mem (s.dmaAddr m (o + i))

/-- Write bytes through a window. -/
def State.dmaWrite (s : State) (m o : Nat) (bs : List Byte) : State :=
  s.emit (.dma (bs.zipIdx.map fun p => (s.dmaAddr m (o + p.2), p.1)))

/-- DMA_ERR (R282, R286), of a ring or (15) of the stream. -/
def State.dmaErr (s : State) (item o : Nat) : State := (s.raise P.HBR_OWIN 2).post 0x0B12 3 (subject 2 item) (beBytes 8 o)

/-! Rings (R283 to R286); ring 8 is the TX ring. -/

def State.ringDesc (s : State) (r : Nat) : Nat := max 2 (s.get (F.HBR_RING_CFG_NDESCM1 r) + 1)

/-- A carried write of HBR_RINGr_CFG. -/
def State.ringCfg (s : State) (r : Nat) (v : Word) : State :=
  let old := s.rd (R.HBR_RING_CFG r)
  let keep := maskIn v 0x070003FF old
  let s := s.wr (R.HBR_RING_CFG r) ((if old.getLsbD 31 then keep else v) &&& 0xC70003FF)
  if v.getLsbD 31 then s.wr (R.HBR_RING_PTR r) 0 else s

/-- A carried write of HBR_RINGr_BASE: only while EN = 0. -/
def State.ringBase (s : State) (r : Nat) (v : Word) : State :=
  if s.bit (F.HBR_RING_CFG_EN r) then s else s.wr (R.HBR_RING_BASE r) v

/-- A carried write of HBR_RINGr_PTR (R283). -/
def State.ringPut (s : State) (r : Nat) (v : Word) : State :=
  let n := s.ringDesc r
  let put := v.toNat / 65536 % 1024
  let done := s.get (F.HBR_RING_PTR_DONE r)
  if n ≤ put ∨ ringDist n done put < ringDist n done (s.get (F.HBR_RING_PTR_PUT r)) then s.raise P.HBR_OWIN 3
  else s.put (F.HBR_RING_PTR_PUT r) put

/-- The ring works and has a descriptor of its own. -/
def State.ringReady (s : State) (r : Nat) : Bool :=
  s.isOn I.HBR && s.bit F.HBR_CTRL_LINK_BME && !s.bit F.HBR_CTRL_LINK_D3 && s.bit (F.HBR_RING_CFG_EN r) &&
    s.get (F.HBR_RING_PTR_DONE r) != s.get (F.HBR_RING_PTR_PUT r)

/-- The window offset of the descriptor at DONE. -/
def State.descAt (s : State) (r : Nat) : Nat := 16 * s.get (F.HBR_RING_BASE_BASE r) + 16 * s.get (F.HBR_RING_PTR_DONE r)

/-- Complete the descriptor at DONE: CMPL and STAT, DONE, the counts and the event. -/
def State.ringDone (s : State) (r stat kind : Nat) : State :=
  let s := s.dmaWrite (s.get (F.HBR_RING_CFG_OWIN r)) (s.descAt r + 8) (beBytes 1 (128 + stat * 16 + kind * 8))
  let s := s.put (F.HBR_RING_PTR_DONE r) ((s.get (F.HBR_RING_PTR_DONE r) + 1) % s.ringDesc r)
  let s := s.wrapInc (F.HBR_RING_CNT_FRAMES r)
  let s := if stat = 0 then s else s.satInc (F.HBR_RING_CNT_ERR r)
  if s.bit (F.HBR_RING_CFG_IE r) then s.raise P.HBR_OWIN (if r = 8 then 1 else 0) else s

/-- An Ethernet frame as bytes, from the destination address on, without its FCS. -/
def ethBytes (f : EthFrame) : List Byte :=
  beBytes 6 f.dst ++ beBytes 6 f.src ++
    (match f.tag with
     | some t => beBytes 2 0x8100 ++ beBytes 2 (t.1 % 8 * 8192 + t.2 % 4096)
     | none => []) ++
    (match f.rtag with
     | some n => beBytes 2 0xF1C1 ++ beBytes 2 0 ++ beBytes 2 n
     | none => []) ++
    beBytes 2 f.etype ++ f.payload

/-- The bytes of an Ethernet frame read back. -/
def ethOf (bs : List Byte) : EthFrame :=
  let rest := bs.drop 12
  let t := if ofBytes (bytesAt rest 0 2) = 0x8100 then
      let w := ofBytes (bytesAt rest 2 2)
      (some (w / 8192, w % 4096), rest.drop 4)
    else (none, rest)
  let r := if ofBytes (bytesAt t.2 0 2) = 0xF1C1 then (some (ofBytes (bytesAt t.2 4 2)), t.2.drop 6) else (none, t.2)
  ⟨ofBytes (bytesAt bs 0 6), ofBytes (bytesAt bs 6 6), t.1, r.1, ofBytes (bytesAt r.2 0 2), r.2.drop 2⟩

/-- What an RX ring writes for a frame (R285): KIND, PT, CTX and the bytes. -/
def State.rxForm (s : State) (q : Nat) (f : QFrame) : Nat × Nat × Nat × List Byte :=
  match f.frame with
  | .native g =>
    if g.cls ≤ 1 then (0, q, f.ctx.getD 0xFFF, nfBytes g)
    else (1, f.ingress * 16 + q, 0xFFF, ethBytes (s.wire q g))
  | .eth g => (1, f.ingress * 16 + q, 0xFFF, ethBytes g)

/-- The head of LOCAL queue `q` goes to RX ring `q` (R285): the buffer, then LEN and the rest, then CMPL, then DONE (R288). -/
def State.rxDeliver (s : State) (q : Nat) (mem : List (Nat × Byte)) : State :=
  match s.queue 12 q with
  | [] => s
  | f :: fs =>
    if f.mgt || !s.ringReady q then s
    else
      let m := s.get (F.HBR_RING_CFG_OWIN q)
      let d := s.descAt q
      if !s.dmaFits m d 16 then s.dmaErr q d
      else
        let desc := s.dmaRead m d 16 mem
        let addr := ofBytes (bytesAt desc 0 8)
        let form := s.rxForm q f
        let data := form.2.2.2.take (ofBytes (bytesAt desc 12 2))
        let s := (s.setQueue 12 q fs).giveCells f.pool f.cells
        if s.dmaFits m addr data.length then
          let s := (s.dmaWrite m addr data).dmaWrite m (d + 14) (beBytes 2 data.length)
          let s := s.dmaWrite m (d + 9) (beBytes 1 form.2.1 ++ beBytes 2 form.2.2.1)
          s.ringDone q (decide (data.length < form.2.2.2.length)).toNat form.1
        else ((s.dmaErr q addr).dmaWrite m (d + 14) [0, 0]).ringDone q 3 form.1

/-- The descriptor at DONE of the TX ring is processed (R286). -/
def State.txDescriptor (s : State) (mem : List (Nat × Byte)) (readError : Bool) : State :=
  if !s.ringReady 8 then s
  else
    let m := s.get (F.HBR_RING_CFG_OWIN 8)
    let d := s.descAt 8
    if !s.dmaFits m d 16 then s.dmaErr 8 d
    else
      let desc := s.dmaRead m d 16 mem
      let addr := ofBytes (bytesAt desc 0 8)
      let kind := ofBytes (bytesAt desc 8 1) / 8 % 2
      let port := ofBytes (bytesAt desc 9 1) / 16
      let tc := ofBytes (bytesAt desc 9 1) % 8
      let ctx := ofBytes (bytesAt desc 10 2) % 4096
      let len := ofBytes (bytesAt desc 14 2)
      if readError || !s.dmaFits m addr len then (s.dmaErr 8 addr).ringDone 8 3 kind
      else
        let buf := s.dmaRead m addr len mem
        if kind = 0 then
          if len ≤ 1484 && s.isOn I.FAB && s.ctxPublishes ctx && s.ctxOwner ctx == 3 then (s.submit ctx buf).ringDone 8 0 0
          else s.ringDone 8 2 0
        else if 60 ≤ len ∧ len ≤ 1518 ∧ port < 12 ∧ s.isOn I.FAB then
          (s.enqueue 12 port tc (s.qframe (.eth (ethOf buf)) 2 none)).ringDone 8 0 1
        else s.ringDone 8 2 1

/-! The commands. -/

def execEndpointReset (kind : EndpointReset) (s : State) : Host.Outcome State Fault Refusal := .next (s.endpointReset kind)

def execPcieLinkUp (speed width : Nat) (s : State) : Host.Outcome State Fault Refusal := .next (s.linkTrained speed width)

def execConfigRequest (reg : CfgReg) (write : Option Word) (s : State) : Host.Outcome State Fault Refusal :=
  .next (s.configRequest reg write)

def execAer (status : Word) (header : List Byte) (s : State) : Host.Outcome State Fault Refusal := .next (s.aer status header)

/-- IWIN_ENABLE (R279): a write of HBR_IWINn_CFG. -/
def execIwinEnable (q : Requester) (n : Nat) (v : Word) (s : State) : Host.Outcome State Fault Refusal :=
  .next (s.carry q (R.HBR_IWIN_CFG (n % 16)) v fun s => s.iwinWrite (n % 16) v)

/-- OWIN_ENABLE (R282): a write of HBR_OWINm_CFG. -/
def execOwinEnable (q : Requester) (m : Nat) (v : Word) (s : State) : Host.Outcome State Fault Refusal :=
  .next (s.carry q (R.HBR_OWIN_CFG (m % 8)) v fun s => s.owinWrite (m % 8) v)

/-- RING_ENABLE (R283): a write of HBR_RINGr_CFG. -/
def execRingEnable (q : Requester) (r : Nat) (v : Word) (s : State) : Host.Outcome State Fault Refusal :=
  .next (s.carry q (R.HBR_RING_CFG (r % 9)) v fun s => s.ringCfg (r % 9) v)

/-- RING_PUT_WRITE (R283): a write of HBR_RINGr_PTR. -/
def execRingPutWrite (q : Requester) (r : Nat) (v : Word) (s : State) : Host.Outcome State Fault Refusal :=
  .next (s.carry q (R.HBR_RING_PTR (r % 9)) v fun s => s.ringPut (r % 9) v)

def execRxRingDeliver (k : Nat) (mem : List (Nat × Byte)) (s : State) : Host.Outcome State Fault Refusal := .next (s.rxDeliver (k % 8) mem)

def execTxDescriptor (mem : List (Nat × Byte)) (readError : Bool) (s : State) : Host.Outcome State Fault Refusal :=
  .next (s.txDescriptor mem readError)

def execBmeChange (on : Bool) (s : State) : Host.Outcome State Fault Refusal := .next (s.setBme on)

/-- MSIX_UNMASK (R287): a write of HBR_MSIX_Vv_CTRL. -/
def execMsixUnmask (q : Requester) (vec : Nat) (v : Word) (s : State) : Host.Outcome State Fault Refusal :=
  .next (s.carry q (R.HBR_MSIX_V_CTRL (vec % 32)) v fun s => s.msixMask (vec % 32) v)

end Sys2Proof.Machine
end

