-- ==== Sys2Proof/Machine/Psc.lean ====
section
/-!
DEFINITION. The periscope bridge (R290 to R299) and the BAR2 accesses of the host. Carrying out a remote request, which accesses
pages, stands with the page accesses.
-/

namespace Sys2Proof.Machine

/-- Change PSC's own state. -/
def State.modPsc (s : State) (f : PscState → PscState) : State := { s with psc := f s.psc }

/-- DRB_STAT follows the delayed-read buffer. -/
def State.drbFollow (s : State) : State :=
  let bits := fun (p : DrEntry → Bool) => (s.psc.drb.filter fun (e : Nat × DrEntry) => p e.2).foldl (fun m e => m + 2 ^ e.1) 0
  s.wr R.PSC_DRB_STAT (BitVec.ofNat 32 (bits (fun _ => true) * 65536 + bits fun e => e.resp.isSome))

/-! Frames (R291). -/

/-- A periscope payload. -/
def pscPayload (type tag status win offs data aux : Nat) : List Byte :=
  beBytes 1 (type * 32) ++ beBytes 1 tag ++ beBytes 1 status ++ beBytes 1 win ++ beBytes 4 offs ++ beBytes 4 data ++ beBytes 2 aux ++ [0, 0]

/-- Send a periscope frame to a node, on both lines: requests in queue 4 and responses in queue 5 (R289). -/
def State.pscSend (s : State) (flow node : Nat) (payload : List Byte) : State :=
  let f := s.ownFrame 3 0 node flow payload
  let s := s.seqUsed 3 flow
  [Line.a, Line.b].foldl (fun s l =>
    if !s.lineOpen l || !s.isOn I.FAB then s
    else (s.exitPorts l 0 node).foldl (fun s x => s.enqueue 12 x.idx (3 + flow) (s.qframe (.native (nfOnLine f l)) 2 none)) s) s

/-! Targets (R290). -/

/-- The target node of a window and an offset; none: absent, this node, or beyond the pages. -/
def State.pscTarget (s : State) (p offs : Nat) : Option Nat :=
  let v := s.get (F.PSC_WIN_CFG_DVAL p)
  let n := if s.bit (F.PSC_WIN_CFG_DKIND p) then (s.bindRes s.curView v).1 else v
  if !s.bit (F.PSC_WIN_CFG_EN p) || s.epoch == 0 || s.node == 0 || n == 0 || decide (s.get F.TOP_COUNT_NODES < n) || n == s.node ||
    decide (0x200000 ≤ offs) then none
  else some n

/-- One of several free numbers; which one is open. -/
def State.pickFree (s : State) (l : List Nat) : Option Nat := l[(s.free 8).toNat % max 1 l.length]?

/-- The tags of reads and fences that are free. -/
def State.freeTags (s : State) : List Nat := (List.range 64).filter fun t => !s.psc.reqs.any fun r => r.tag == t

/-- Send a request of window `p` to node `n` under a tag. -/
def State.pscRequest (s : State) (type tag p n offs : Nat) : State :=
  let s := s.modPsc fun c => { c with reqs := c.reqs ++ [⟨tag, type, p, s.identSerial 0 n⟩] }
  let s := (s.put (F.PSC_WIN_STAT_NODE p) n).outFollow p
  s.pscSend 1 n (pscPayload type tag 0 p offs 0 0)

/-! Reads (R294 to R296). -/

/-- A word as its host bytes in a BAR2 read (R281). -/
def State.pscBytes (s : State) (bar2 : Nat) (v : Nat) : List Byte :=
  match s.bar2Win bar2 with
  | some w =>
    let m := laneMask (s.get (F.HBR_IWIN_CFG_MODE w)) true
    (List.range 4).map fun i => (beBytes 4 v).getD ((i ^^^ m) % 4) 0
  | none => (beBytes 4 v).reverse

/-- Complete a host read of window `p` with LAST. -/
def State.pscDone (s : State) (bar2 p last v : Nat) : State :=
  (s.put (F.PSC_WIN_STAT_LAST p) last).emit (.bar2Data bar2 (s.pscBytes bar2 v))

/-- Complete a read with a response: its data, or all ones with the reason. -/
def State.pscAnswer (s : State) (bar2 p status v okLast : Nat) : State :=
  if status = 0 then s.pscDone bar2 p okLast v
  else s.pscDone bar2 p (if okLast = 3 then 3 else if status = 1 then 4 else 6) 0xFFFFFFFF

/-- Send the request of the first held read that waits for a tag. -/
def State.pscKick (s : State) : State :=
  match s.psc.reads.find? fun r => r.tag.isNone with
  | none => s
  | some r =>
    match s.pscTarget r.win r.offs, s.pickFree s.freeTags with
    | some n, some t =>
      let s := s.used.modPsc fun c => { c with
        reads := c.reads.map fun x => if x = r then { x with tag := some t } else x,
        recent := stSet (fun _ => 64) c.recent r.win t }
      s.pscRequest 0 t r.win n r.offs
    | _, _ => s

/-- A host read of `offs` at the target through window `p`. -/
def State.pscRead (s : State) (bar2 p offs : Nat) : State :=
  match s.psc.drb.find? fun (e : Nat × DrEntry) => e.2.win == p && e.2.offs == offs with
  | some e =>
    match e.2.resp with
    | some r =>
      let s := (s.modPsc fun c => { c with drb := c.drb.filter fun (x : Nat × DrEntry) => x.1 != e.1 }).drbFollow
      s.pscAnswer bar2 p r.1 r.2.toNat 3
    | none => s.modPsc fun c => { c with reads := c.reads ++ [⟨bar2, p, offs, some e.2.tag⟩],
                                         recent := stSet (fun _ => 64) c.recent p e.2.tag }
  | none =>
    match s.pscTarget p offs with
    | none => (s.put (F.PSC_WIN_STAT_NODE p) 0).pscDone bar2 p 5 0xFFFFFFFF
    | some _ => (s.modPsc fun c => { c with reads := c.reads ++ [⟨bar2, p, offs, none⟩] }).pscKick

/-- TMO passes on the held read at a BAR2 offset (R294, R295). -/
def State.pscTimeout (s : State) (bar2 : Nat) : State :=
  match s.psc.reads.find? fun r => r.bar2 == bar2 with
  | none => s
  | some r =>
    let s := s.modPsc fun c => { c with reads := c.reads.erase r }
    let s := s.satInc (F.PSC_WIN_CNT_TMO r.win)
    match r.tag with
    | none => s.pscDone bar2 r.win 9 0xFFFFFFFF
    | some t =>
      if s.psc.drb.any fun (e : Nat × DrEntry) => e.2.tag == t && e.2.resp.isNone then
        (s.raise P.PSC_WIN 0).pscDone bar2 r.win 2 0xFFFFFFFF
      else if !s.psc.reqs.any fun q => q.tag == t then s.pscDone bar2 r.win 7 0xFFFFFFFF
      else
        let free := (List.range 16).filter fun e => !s.psc.drb.any fun (x : Nat × DrEntry) => x.1 == e
        match s.pickFree free with
        | some e =>
          let s := (s.used.modPsc fun c => { c with drb := (e, ⟨r.win, r.offs, t, none⟩) :: c.drb }).drbFollow
          (s.raise P.PSC_WIN 0).pscDone bar2 r.win 2 0xFFFFFFFF
        | none =>
          let s := (s.modPsc fun c => { c with reqs := c.reqs.filter fun q => q.tag != t }).outFollow r.win
          ((s.satInc F.PSC_DRB_CNT_FULL).raise P.PSC_WIN 3).pscDone bar2 r.win 8 0xFFFFFFFF

/-- An entry is not collected in time (R296). -/
def State.drDiscard (s : State) (e : Nat) : State :=
  match s.psc.drb.find? fun (x : Nat × DrEntry) => x.1 == e with
  | none => s
  | some x =>
    let d := x.2
    let s := (s.modPsc fun c => { c with drb := c.drb.filter fun (y : Nat × DrEntry) => y.1 != e }).drbFollow
    let s := (s.satInc F.PSC_DRB_CNT_DISCARD).raise P.PSC_WIN 2
    match d.resp with
    | some r => s.post 0x0C10 2 (subject 1 d.win) (beBytes 4 d.offs ++ beBytes 4 r.2.toNat ++ [1])
    | none =>
      let s := (s.modPsc fun c => { c with reqs := c.reqs.filter fun q => q.tag != d.tag }).outFollow d.win
      let s := if stGet (fun _ => 64) s.psc.recent d.win = d.tag then s.put (F.PSC_WIN_STAT_LAST d.win) 7 else s
      (s.post 0x0C10 2 (subject 1 d.win) (beBytes 4 d.offs ++ [0, 0, 0, 0, 0])).pscKick

/-! The posted-write error log (R297). -/

/-- A failed write is logged. -/
def State.pwFail (s : State) (win reason node offs data seq : Nat) : State :=
  let put := s.get F.PSC_PWLOG_PTR_PUT
  if (put + 32 - s.get F.PSC_PWLOG_PTR_GET) % 32 = 16 then (s.satInc F.PSC_PWLOG_CNT_OVF).raise P.PSC_PWLOG 1
  else
    let e := beBytes 1 (128 + win % 8 * 16 + reason) ++ [0] ++ beBytes 2 node ++ beBytes 4 (offs % 2 ^ 21) ++ beBytes 4 data ++
      beBytes 2 seq ++ beBytes 2 (s.mono / 1024)
    let s := [0, 1, 2, 3].foldl (fun s k => s.wr (R.PSC_PWLOG_E_W (put % 16) k) (BitVec.ofNat 32 (ofBytes (bytesAt e (4 * k) 4)))) s
    ((s.put F.PSC_PWLOG_PTR_PUT (put + 1)).satInc F.PSC_PWLOG_CNT_TOTAL).raise P.PSC_PWLOG 0 |>.post 0x0C11 2 (subject 2 win) e

/-- A carried write of PSC_PWLOG_PTR: GET moves on, not past PUT. -/
def State.pwlogGet (s : State) (v : Word) : State :=
  let put := s.get F.PSC_PWLOG_PTR_PUT
  let new := v.toNat / 65536 % 32
  if (put + 32 - s.get F.PSC_PWLOG_PTR_GET) % 32 < (put + 32 - new) % 32 then s else s.put F.PSC_PWLOG_PTR_GET new

/-- A host write through window `p` (R297). -/
def State.pscWrite (s : State) (p offs data : Nat) : State :=
  match s.pscTarget p offs with
  | none => (s.put (F.PSC_WIN_STAT_NODE p) 0).pwFail p 4 0 offs data 0
  | some n =>
    ((s.satInc (F.PSC_WIN_CNT_WR p)).put (F.PSC_WIN_STAT_NODE p) n).pscSend 1 n (pscPayload 1 0 0 p offs data 0)

/-! Fences (R298). -/

/-- A carried write of PSC_FENCE. -/
def State.fence (s : State) (v : Word) : State :=
  if s.get F.PSC_FENCE_STAT_STATE = 1 then s
  else
    let p := v.toNat % 8
    let s := s.wr R.PSC_FENCE_STAT (BitVec.ofNat 32 (2 ^ 30 + p * 2 ^ 24))
    let s := (s.modPsc fun c => { c with fenceSent := s.get (F.PSC_WIN_CNT_WR p) }).put (F.PSC_WIN_CNT_WR p) 0
    match s.pscTarget p 0, s.pickFree s.freeTags with
    | some n, some t => s.used.pscRequest 2 t p n 0
    | _, _ => s

/-- A fence response arrives. -/
def State.fenceDone (s : State) (wcnt fcnt : Nat) : State :=
  if s.get F.PSC_FENCE_STAT_STATE ≠ 1 then s
  else
    let lost := if wcnt = 0xFFFFFFFF then 0xFFF else min 0xFFF (s.psc.fenceSent - wcnt)
    (((s.put F.PSC_FENCE_STAT_STATE 2).put F.PSC_FENCE_STAT_FAILED (min 0xFFF fcnt)).put F.PSC_FENCE_STAT_LOST lost).raise P.PSC_CTRL 2

/-- No fence response within FENCE_T. -/
def State.fenceExpire (s : State) : State :=
  if s.get F.PSC_FENCE_STAT_STATE ≠ 1 then s
  else
    let p := s.get F.PSC_FENCE_STAT_WIN
    ((s.put F.PSC_FENCE_STAT_STATE 3).modPsc fun c => { c with reqs := c.reqs.filter fun r => r.type != 2 }).outFollow p

/-! The sideband (R299). -/

/-- A poll of window `p`: a poll without a response counts, the third in a row makes the mirror stale. -/
def State.sidePoll (s : State) (p : Nat) : State :=
  let old := s.psc.reqs.any fun r => r.tag == 64 + p
  let s := (s.modPsc fun c => { c with reqs := c.reqs.filter fun r => r.tag != 64 + p }).outFollow p
  let target := s.pscTarget p 0
  let miss := stGet (fun _ => 0) s.psc.misses p + old.toNat + target.isNone.toNat
  let s := s.modPsc fun c => { c with misses := stSet (fun _ => 0) c.misses p (min 3 miss) }
  let s := if 3 ≤ miss ∧ s.get (F.PSC_SIDE_ISL_STALE p) = 0 then (s.putB (F.PSC_SIDE_ISL_STALE p) true).raise P.PSC_SIDE 1 else s
  match target with
  | some n => s.pscRequest 3 (64 + p) p n 0
  | none => s

/-- SIDE_PER passes. -/
def State.sidePolls (s : State) : State :=
  if !s.isOn I.PSC || s.get F.PSC_CTRL_CFG_SIDE_PER == 0 then s
  else ((List.range 8).filter fun p => s.bit (F.PSC_WIN_CFG_EN p)).foldl (fun s p => s.sidePoll p) s

/-- A side response is mirrored. -/
def State.sideDone (s : State) (p isl data : Nat) : State :=
  let oldIsl := s.get (F.PSC_SIDE_ISL_ISL p)
  let oldHealth := s.get (F.PSC_SIDE_ISL_HEALTH p)
  let health := data / 16 % 16
  let s := s.modPsc fun c => { c with misses := stSet (fun _ => 0) c.misses p 0, sideAt := stSet (fun _ => none) c.sideAt p (some s.mono) }
  let s := s.wr (R.PSC_SIDE_ISL p) (BitVec.ofNat 32 (2 ^ 30 + data % 8 * 2 ^ 27 + health * 2 ^ 20 + isl % 2 ^ 17))
  let s := s.put (F.PSC_SIDE_AGE_EPOCH p) (data / 65536)
  if (oldIsl = 0 ∧ isl % 2 ^ 17 ≠ 0) ∨ oldHealth < health then s.raise P.PSC_SIDE 0 else s

/-- What PSC_SIDEp_AGE reads as. -/
def State.sideAge (s : State) (p : Nat) : Word :=
  BitVec.ofNat 32 (s.get (F.PSC_SIDE_AGE_EPOCH p) * 65536 + match stGet (fun _ => none) s.psc.sideAt p with
    | some t => min 0xFFFF ((s.mono - t) / 1000000)
    | none => 0xFFFF)

/-! Receiving (R291, R292). -/

/-- A response to an outstanding request: by TAG and by the SERIAL of its SRC. -/
def State.pscResponse (s : State) (f : NFrame) (serial : Nat) : State :=
  let type := ofBytes (bytesAt f.payload 0 1) / 32
  let tag := ofBytes (bytesAt f.payload 1 1) % 128
  let status := ofBytes (bytesAt f.payload 2 1)
  let win := ofBytes (bytesAt f.payload 3 1) % 8
  let offs := ofBytes (bytesAt f.payload 4 4)
  let data := ofBytes (bytesAt f.payload 8 4)
  let aux := ofBytes (bytesAt f.payload 12 2)
  if type = 5 then s.pwFail win status (s.nodeOfSerial 0 serial) (offs % 2 ^ 21) data aux
  else match s.psc.reqs.find? fun r => r.tag == tag && r.serial == serial && r.type + 4 == type with
    | none => s
    | some r =>
      let s := (s.modPsc fun c => { c with reqs := c.reqs.filter fun x => x.tag != tag }).outFollow r.win
      match r.type with
      | 0 =>
        let held := s.psc.reads.filter fun x => x.tag == some tag
        if held.isEmpty then
          let fill := fun (e : Nat × DrEntry) => if e.2.tag = tag ∧ e.2.resp.isNone then
            (e.1, { e.2 with resp := some (status, BitVec.ofNat 32 data) }) else e
          (((s.modPsc fun c => { c with drb := c.drb.map fill }).drbFollow).raise P.PSC_WIN 1).pscKick
        else
          let s := (s.modPsc fun c => { c with reads := c.reads.filter (fun x => x.tag != some tag),
                                               drb := c.drb.filter fun (e : Nat × DrEntry) => !(e.2.tag == tag && e.2.resp.isNone) }).drbFollow
          (held.foldl (fun s x => s.pscAnswer x.bar2 x.win status data 1) s).pscKick
      | 2 => s.fenceDone data aux
      | _ =>
        if status = 0 then s.sideDone r.win offs data
        else (s.modPsc fun c => { c with misses := stSet (fun _ => 0) c.misses r.win 0 }).putB (F.PSC_SIDE_ISL_STALE r.win) false

/-- The counts of a requester and a window. -/
def State.fencePair (s : State) (serial win : Nat) : Option FencePair := s.psc.pairs.find? fun p => p.serial == serial && p.win == win

/-- Keep the counts of a pair; beyond 128 pairs the one changed longest ago goes. -/
def State.setPair (s : State) (p : FencePair) : State :=
  s.modPsc fun c => { c with pairs := (p :: c.pairs.filter fun x => !(x.serial == p.serial && x.win == p.win)).take 128 }

/-- Count a write request received, and whether it failed. -/
def State.countWrite (s : State) (serial win w f : Nat) : State :=
  let p := (s.fencePair serial win).getD ⟨serial, win, 0, 0⟩
  s.setPair { p with wcnt := p.wcnt + w, fcnt := min 65535 (p.fcnt + f) }

/-- Answer a request (R291 to R293): `status`, data and AUX; a write is answered on failure only. -/
def State.pscReply (s : State) (f : NFrame) (serial status data aux : Nat) : State :=
  let type := ofBytes (bytesAt f.payload 0 1) / 32
  let tag := ofBytes (bytesAt f.payload 1 1) % 128
  let win := ofBytes (bytesAt f.payload 3 1) % 8
  let offs := ofBytes (bytesAt f.payload 4 4)
  let node := s.nodeOfSerial 0 serial
  if type = 1 then
    if status = 0 then s else s.pscSend 2 node (pscPayload 5 0 status win offs (ofBytes (bytesAt f.payload 8 4)) f.seq)
  else s.pscSend 2 node (pscPayload (type + 4) tag status win (if type = 3 then aux else offs) data (if type = 3 then 0 else aux))

/-- A request arrives (R292): it is queued, or answered BUSY at once. -/
def State.pscQueue (s : State) (f : NFrame) (serial : Nat) : State :=
  let type := ofBytes (bytesAt f.payload 0 1) / 32
  let win := ofBytes (bytesAt f.payload 3 1) % 8
  if 4 ≤ type then s
  else
    let s := if type = 1 then s.countWrite serial win 1 0 else s
    if s.psc.queue.length < 128 then s.modPsc fun c => { c with queue := c.queue ++ [(f, serial)] }
    else
      let s := if type = 1 then s.countWrite serial win 0 1 else s
      ((s.satInc F.PSC_CTRL_CNT_IN_BUSY).raise P.PSC_CTRL 1).pscReply f serial 2 (if type = 2 then 0xFFFFFFFF else 0) 0

/-- A periscope frame at this node (R28, R96, R291). -/
def State.pscRx (s : State) (f : NFrame) : State :=
  if !s.isOn I.PSC || nfMalformed f || f.cls != 3 || f.flow == 0 || decide (15 < f.flow) then s
  else match s.acceptTable f with
    | none => s
    | some t =>
      if !s.addressed t f then s
      else
        let serial := s.identSerial t f.src
        if f.flow = 1 then s.pscQueue f serial
        else if f.flow = 2 then s.pscResponse f serial
        else s.satInc F.PSC_CTRL_CNT_BADREQ

/-! BAR2 accesses (R279, R280). -/

/-- An access through a periscope window `w`. -/
def State.pscWindow (s : State) (w off n : Nat) (write : Option (List Byte)) : State :=
  if n != 4 || off % 4 != 0 then s.bar2Error off n write.isNone
  else
    let p := s.get (F.HBR_IWIN_CFG_PWIN w)
    let mode := s.get (F.HBR_IWIN_CFG_MODE w)
    let o := laneSwap mode true (off - s.iwinStart w)
    let offs := s.get (F.PSC_WIN_BASE_BASE p) * 4096 + o / 4 * 4
    match write with
    | some bs =>
      let m := laneMask mode true
      let data := ofBytes ((List.range 4).map fun k => bs.getD ((k ^^^ m) % 4) 0)
      if s.isOn I.PSC then s.pscWrite p offs data
      else (s.offAccess .firmware (I.PSC * 65536) true (BitVec.ofNat 32 data)).lastErr 3 1 off
    | none =>
      if s.isOn I.PSC then s.pscRead off p offs
      else (s.lastErr 3 1 off).emit (.bar2Data off (s.pscBytes off 0xFFFF000C))

/-- A host access of `n` bytes at a BAR2 offset. -/
def State.bar2 (s : State) (off n : Nat) (write : Option (List Byte)) (ue : Bool) : State :=
  if !s.pathUp .host then s
  else match s.bar2Win off with
    | none => s.noWin off write.isNone
    | some w =>
      match s.get (F.HBR_IWIN_CFG_TGT w) with
      | 0 => s.noWin off write.isNone
      | 3 => s.pscWindow w off n write
      | _ => s.ramWindow w off n write ue

/-- A carried write of PSC_WINp_CFG (R290); a refusal raises CFG_ERR of HBR_IWIN. -/
def State.pscWinWrite (s : State) (p : Nat) (v : Word) : State :=
  let tooFar := (List.range 16).any fun n =>
    s.bit (F.HBR_IWIN_CFG_EN n) && s.get (F.HBR_IWIN_CFG_TGT n) == 3 && s.get (F.HBR_IWIN_CFG_PWIN n) == p &&
      decide (0x200000 < s.get (F.PSC_WIN_BASE_BASE p) * 4096 + s.iwinSize n)
  let was := s.bit (F.PSC_WIN_CFG_EN p)
  let s := s.wr (R.PSC_WIN_CFG p) (v &&& 0x4FFF03FF)
  if !v.getLsbD 31 then s
  else if tooFar then if s.isOn I.HBR then s.raise P.HBR_IWIN 0 else s
  else
    let s := s.putB (F.PSC_WIN_CFG_EN p) true
    if was then s
    else
      let s := s.modPsc fun c => { c with misses := stSet (fun _ => 0) c.misses p 0, sideAt := stSet (fun _ => none) c.sideAt p none }
      (s.wr (R.PSC_SIDE_ISL p) 0).put (F.PSC_SIDE_AGE_EPOCH p) 0

/-- A carried write of PSC_CTRL_ACLn_W1 (R293): the entry takes effect. -/
def State.aclWrite (s : State) (q : Requester) (n : Nat) (v : Word) : State :=
  s.locked q (R.PSC_CTRL_ACL_W1 n) fun s =>
    let s := s.wr (R.PSC_CTRL_ACL_W1 n) v
    s.modPsc fun c => { c with acl := stSet (fun _ => 0) c.acl n ((s.rd (R.PSC_CTRL_ACL_W0 n)).toNat * 2 ^ 32 + v.toNat) }

/-- The permission that the access list gives a requester on a page (R293): 0 none, 1 read, 2 read and write. -/
def State.aclPerm (s : State) (serial page : Nat) : Nat :=
  let node := s.nodeOfSerial 0 serial
  if node = 0 ∨ s.epoch = 0 then 0
  else
    let fits := fun n =>
      let e := stGet (fun _ => 0) s.psc.acl n
      let sval := e / 2 ^ 32 % 512
      e.testBit 63 && decide (e / 2 ^ 16 % 512 ≤ page) && decide (page ≤ e % 512) &&
        (match e / 2 ^ 59 % 4 with
         | 0 => true
         | 1 => node == sval
         | 2 => s.identVeh 0 node == sval
         | _ => s.identVeh 0 node == s.get F.TOP_NODE_VEH && node != s.node)
    match (List.range 32).find? fits with
    | some n => let p := stGet (fun _ => 0) s.psc.acl n / 2 ^ 61 % 4; if p = 3 then 0 else p
    | none => 0

/-! The commands. -/

def execNowin (off n : Nat) (write : Option (List Byte)) (s : State) : Host.Outcome State Fault Refusal :=
  .next (s.bar2 off n write false)

def execMessageRamWindowAccess (off n : Nat) (write : Option (List Byte)) (ue : Bool) (s : State) :
    Host.Outcome State Fault Refusal := .next (s.bar2 off n write ue)

def execPeriscopeRead (off n : Nat) (s : State) : Host.Outcome State Fault Refusal := .next (s.bar2 off n none false)

def execPeriscopeWrite (off : Nat) (bytes : List Byte) (s : State) : Host.Outcome State Fault Refusal :=
  .next (s.bar2 off bytes.length (some bytes) false)

def execTimeout (off : Nat) (s : State) : Host.Outcome State Fault Refusal := .next (if s.isOn I.PSC then s.pscTimeout off else s)
def execPeriscopeResponseRx (f : NFrame) (s : State) : Host.Outcome State Fault Refusal := .next (s.pscRx f)
def execDrDiscard (e : Nat) (s : State) : Host.Outcome State Fault Refusal := .next (if s.isOn I.PSC then s.drDiscard e else s)
def execPwfail (f : NFrame) (s : State) : Host.Outcome State Fault Refusal := .next (s.pscRx f)

/-- PWLOG_GET_WRITE (R297). -/
def execPwlogGetWrite (q : Requester) (v : Word) (s : State) : Host.Outcome State Fault Refusal :=
  .next (s.carry q R.PSC_PWLOG_PTR v fun s => s.pwlogGet v)

def execPeriscopeRequestRx (f : NFrame) (s : State) : Host.Outcome State Fault Refusal := .next (s.pscRx f)

/-- FENCE (R298): a write of PSC_FENCE. -/
def execFence (q : Requester) (v : Word) (s : State) : Host.Outcome State Fault Refusal :=
  .next (s.carry q R.PSC_FENCE v fun s => s.fence v)

def execFenceTExpire (s : State) : Host.Outcome State Fault Refusal := .next (if s.isOn I.PSC then s.fenceExpire else s)
def execSidePoll (s : State) : Host.Outcome State Fault Refusal := .next s.sidePolls

/-- ACL_ENTRY_WRITE (R293): a write of PSC_CTRL_ACLn_W1. -/
def execAclEntryWrite (q : Requester) (n : Nat) (v : Word) (s : State) : Host.Outcome State Fault Refusal :=
  .next (s.carry q (R.PSC_CTRL_ACL_W1 (n % 32)) v fun s => s.aclWrite q (n % 32) v)

/-- PSC_WINDOW_ENABLE (R290): a write of PSC_WINp_CFG. -/
def execPscWindowEnable (q : Requester) (p : Nat) (v : Word) (s : State) : Host.Outcome State Fault Refusal :=
  .next (s.carry q (R.PSC_WIN_CFG (p % 8)) v fun s => s.pscWinWrite (p % 8) v)

end Sys2Proof.Machine
end

