-- ==== Sys2Proof/Machine/Rec.lean ====
section
/-!
DEFINITION. The event recorder (R394 to R407).
-/

namespace Sys2Proof.Machine

/-- Change the recorder's own state. -/
def State.modRec (s : State) (f : RecState → RecState) : State := { s with recorder := f s.recorder }

/-! Records (R395, R398). -/

/-- How many records the ring holds. -/
def ringSize : Nat := 32768

/-- The address of the slot of a SEQ. -/
def recSlot (seq : Nat) : Nat := 0x0E000000 + 64 * (seq % ringSize)

def State.recNext (s : State) : Nat := (s.rd R.REC_CTRL_NEXT).toNat
def State.recOld (s : State) : Nat := (s.rd R.REC_CTRL_OLD).toNat
def State.recHeld (s : State) : Nat := s.get F.REC_CTRL_HELD_HELD

/-- Stop mode with a full ring (R403). -/
def State.recFull (s : State) : Bool := s.bit F.REC_CTRL_CFG_STOP && s.recHeld == ringSize

/-- FULL follows, and is raised when it rises. -/
def State.fullFollow (s : State) : State :=
  if s.recFull = s.bit F.REC_CTRL_STAT_FULL then s
  else
    let s := s.putB F.REC_CTRL_STAT_FULL s.recFull
    if s.recFull then s.raise P.REC_CTRL 1 else s

/-- FIFO and COAL of REC_CTRL_STAT follow. -/
def State.recFollow (s : State) : State :=
  (s.put F.REC_CTRL_STAT_FIFO s.recorder.fifo.length).put F.REC_CTRL_STAT_COAL s.recorder.coal.length

/-- Records that wrap mode has overwritten before the stream sent them are passed and counted (R407). -/
def State.strmSkip (s : State) : State :=
  let next := (s.rd R.REC_STRM_NEXT).toNat
  if s.bit F.REC_STRM_CFG_EN && laterThan 32 s.recOld next then
    ((s.satAdd F.REC_STRM_CNT_SKIPPED ((s.recOld + 2 ^ 32 - next) % 2 ^ 32)).wr R.REC_STRM_NEXT (s.rd R.REC_CTRL_OLD)).raise P.REC_STRM 1
  else s

/-- Commit a record of an entry with its FLAGS (COAL 8, TSTEP 4, LOSS 2, CLR 1) into the next slot. -/
def State.recPut (s : State) (e : RecEntry) (flags : Nat) : State :=
  let seq := s.recNext
  let body := beBytes 4 seq ++ beBytes 2 e.ev.code ++ beBytes 1 (flags * 16 + e.ev.sev) ++ beBytes 1 e.ev.origin ++
    beBytes 8 e.mono ++ beBytes 8 e.wall ++ beBytes 4 e.count ++ beBytes 2 e.node ++ beBytes 2 e.epoch ++ beBytes 2 e.ev.subj ++
    bytesAt e.ev.data 0 26
  let s := if s.recHeld = ringSize then s.wr R.REC_CTRL_OLD (s.rd R.REC_CTRL_OLD + 1)
    else s.put F.REC_CTRL_HELD_HELD (s.recHeld + 1)
  let s := (s.wrBytes (recSlot seq) (body ++ beBytes 4 (crc32c body).toNat)).wr R.REC_CTRL_NEXT (BitVec.ofNat 32 (seq + 1))
  let s := if s.get F.REC_CTRL_CFG_IRQ_SEV ≤ e.ev.sev then s.raise P.REC_CTRL 3 else s
  s.strmSkip.fullFollow

/-- An event stamped now (R397). -/
def State.recStamp (s : State) (ev : RecEvent) : RecEntry :=
  ⟨ev, s.mono, s.wall, if s.isOn I.TOP then s.node else 0, if s.isOn I.TOP then s.epoch else 0, 1, false⟩

/-- The stamp of a loss summary or a cleared marker (R402): now, or that of the FIFO head on the old scale. -/
def State.writerStamp (s : State) (ev : RecEvent) (count : Nat) : RecEntry :=
  match s.recorder.fifo with
  | [] => { s.recStamp ev with count := count }
  | h :: _ =>
    let wall := if h.ev.code = 0x0910 ∧ h.ev.origin = 0 then ofBytes (bytesAt h.ev.data 0 8) else h.wall
    ⟨ev, h.mono, wall, h.node, h.epoch, count, false⟩

/-- START, the first record after REC power-up (R399). -/
def State.recStart (s : State) : State :=
  s.recPut (s.recStamp ⟨0x0E10, 1, 0, beBytes 4 (s.rd R.SYS_RST_CAUSE).toNat ++ beBytes 4 (s.rd R.SYS_RST_CNT).toNat ++
    beBytes 4 (s.rd R.SYS_RST_BOOT).toNat ++ beBytes 4 (s.rd R.SYS_WAKE_CAUSE).toNat, 0⟩) 0

/-! Losses (R402, R403). -/

/-- An event is lost; `reason`: 0 FIFO, 1 ring full. -/
def State.recLose (s : State) (ev : RecEvent) (reason : Nat) : State :=
  let s := s.satInc (F.REC_CTRL_LOSS_LOST (min 4 ev.sev))
  s.modRec fun r => { r with
    lost := stSet (fun _ => 0) r.lost (min 4 ev.sev) (min 0xFFFFFFFF (stGet (fun _ => 0) r.lost (min 4 ev.sev) + 1)),
    mask := r.mask ||| 2 ^ (ev.code / 256 % 32), reason := r.reason ||| 2 ^ reason }

/-- LOSS_T has not passed since the last loss summary (R402). -/
def State.lossHeld (s : State) : Bool :=
  match s.recorder.lossAt with
  | some t => decide (s.mono < t + max 1 (s.get F.REC_CTRL_CFG_LOSS_T) * 1000000)
  | none => false

/-- LOSS: a loss summary ahead of the FIFO head. -/
def State.recLoss (s : State) : State :=
  let n := fun (v : Nat) => stGet (fun _ => 0) s.recorder.lost v
  let total := n 0 + n 1 + n 2 + n 3 + n 4
  if !s.isOn I.REC || total == 0 || decide (64 < s.recorder.fifo.length) || s.recFull || s.lossHeld then s
  else
    let sev := ([4, 3, 2, 1, 0].find? fun v => n v != 0).getD 0
    let ev : RecEvent := ⟨0x0E12, sev, 0, beBytes 4 (n 0) ++ beBytes 4 (n 1) ++ beBytes 4 (n 2) ++ beBytes 4 (n 3) ++ beBytes 4 (n 4) ++
      beBytes 4 (s.recorder.mask % 2 ^ 17) ++ beBytes 1 s.recorder.reason, 0⟩
    ((s.recPut (s.writerStamp ev (min 0xFFFFFFFF total)) 2).modRec fun r => { r with
      lost := [], mask := 0, reason := 0, lossAt := some s.mono }).raise P.REC_CTRL 0

/-! The input FIFO (R397, R402). -/

/-- A time-step event. -/
def isTstep (ev : RecEvent) : Bool := ev.code == 0x0910 && ev.origin == 0

/-- An entry enters the FIFO, or its event is refused. -/
def State.fifoPush (s : State) (e : RecEntry) : State :=
  let n := s.recorder.fifo.length
  let refused := if isTstep e.ev then decide (260 ≤ n)
    else decide (256 ≤ n) || (decide (192 ≤ n) && decide (e.ev.sev < s.get F.REC_CTRL_CFG_FLOOD_SEV))
  if refused then s.recLose e.ev 0 else (s.modRec fun r => { r with fifo := r.fifo ++ [e] }).recFollow

/-- A coalescing entry closes at its deadline (R401). -/
def State.coalClose (s : State) (c : CoalEntry) : State :=
  let s := s.modRec fun r => { r with coal := r.coal.erase c }
  let s := if c.counted = 0 then s
    else s.fifoPush { s.recStamp ⟨c.code, c.sev, c.subj, c.data, 0⟩ with mono := c.deadline, count := c.counted, coal := true }
  s.recFollow

/-- The entry with the earliest deadline. -/
def State.coalFirst (s : State) : Option CoalEntry :=
  s.recorder.coal.foldl (fun b c => match b with
    | some x => if c.deadline < x.deadline then some c else some x
    | none => some c) none

/-- Close every entry whose deadline has come; at most `n` of them. -/
def State.coalDue (s : State) : Nat → State
  | 0 => s
  | n + 1 => match s.coalFirst with
    | some c => if c.deadline ≤ s.mono then (s.coalClose c).coalDue n else s
    | none => s

/-- The next event enters the FIFO: a time step ahead of the others (R397). -/
def State.recEventStamp (s : State) : State :=
  if !s.isOn I.REC then s
  else match (s.evq.find? isTstep).orElse fun _ => s.evq.head? with
    | none => s
    | some ev =>
      let s := { s with evq := s.evq.erase ev }.coalDue 64
      if ev.sev < s.get F.REC_CTRL_CFG_MIN_SEV ∧ !isTstep ev then s
      else
        let e := s.recStamp ev
        s.fifoPush (if isTstep ev then { e with wall := ofBytes (bytesAt ev.data 8 8) } else e)

/-! The writer (R398, R401). -/

/-- Codes that are never merged. -/
def neverMerged : List Nat := [0x0E10, 0x0E11, 0x0E12, 0x0910, 0x1010, 0x0A10, 0x0D10]

/-- An entry can be merged. -/
def State.merges (s : State) (e : RecEntry) : Bool :=
  s.get F.REC_CTRL_CFG_COAL_T != 0 && !e.coal && e.ev.origin == 0 && decide (e.ev.sev ≤ 3) && !neverMerged.contains e.ev.code

/-- A coalescing entry of the same key. -/
def State.coalOf (s : State) (e : RecEntry) : Option CoalEntry :=
  s.recorder.coal.find? fun c => c.code == e.ev.code && c.subj == e.ev.subj

/-- Commit an ordinary record that opens a coalescing entry where there is room. -/
def State.recOpen (s : State) (e : RecEntry) : State :=
  let s := s.recPut e 0
  if 64 ≤ s.recorder.coal.length then s
  else (s.modRec fun r => { r with
    coal := r.coal ++ [⟨e.ev.code, e.ev.subj, e.mono + s.get F.REC_CTRL_CFG_COAL_T * 1000000, 0, 0, []⟩] }).recFollow

/-- The writer takes the FIFO head. -/
def State.recCommit (s : State) : State :=
  match s.recorder.fifo with
  | [] => s
  | e :: es =>
    if !s.isOn I.REC then s
    else
      let s := (s.modRec fun r => { r with fifo := es }).recFollow
      if s.merges e then
        match s.coalOf e with
        | some c =>
          if e.mono < c.deadline then
            s.modRec fun r => { r with coal := r.coal.map fun x =>
              if x = c then { c with counted := c.counted + 1, sev := max c.sev e.ev.sev, data := e.ev.data } else x }
          else if s.recFull then s.recLose e.ev 1
          else
            let s := s.modRec fun r => { r with coal := r.coal.erase c }
            let s := if c.counted = 0 then s
              else s.recPut { e with ev := ⟨c.code, c.sev, c.subj, c.data, 0⟩, mono := c.deadline, count := c.counted } 8
            if s.recFull then s.recLose e.ev 1 else s.recOpen e
        | none => if s.recFull then s.recLose e.ev 1 else s.recOpen e
      else if s.recFull then s.recLose e.ev 1
      else s.recPut e (if e.coal then 8 else if isTstep e.ev then 4 else 0)

/-! Clearing (R405). -/

/-- ORIGIN of a requester's record (R405, R406). -/
def State.recOrigin (s : State) (q : Requester) : Nat :=
  match q with
  | .host => 2
  | .firmware => if s.bit F.REC_CTRL_CMD_DIAG then 4 else 1
  | .periscope => 3
  | .testAccess => 5

/-- Cursors earlier than SEQ `n` move to it. -/
def State.cursorsTo (s : State) (n : Nat) : State :=
  let s := [0, 1, 2, 3].foldl (fun s k =>
    if laterThan 32 n (stGet (fun _ => 1) s.recorder.cur k).toNat then
      s.modRec fun r => { r with cur := stSet (fun _ => 1) r.cur k (BitVec.ofNat 32 n) } else s) s
  if laterThan 32 n (s.rd R.REC_STRM_NEXT).toNat then s.wr R.REC_STRM_NEXT (BitVec.ofNat 32 n) else s

/-- Every committed record is discarded, and the cleared marker committed. -/
def State.recClear (s : State) (q : Requester) : State :=
  let remote := if q = .periscope then
      beBytes 2 (s.nodeOfSerial 0 s.psc.actor) ++ beBytes 8 s.psc.actor else beBytes 10 0
  let ev : RecEvent := ⟨0x0E11, 1, 0, beBytes 4 s.recOld ++ beBytes 4 (s.recNext + 2 ^ 32 - 1) ++ remote, s.recOrigin q⟩
  let e := s.writerStamp ev s.recHeld
  let n := s.recNext
  let s := ((s.put F.REC_CTRL_HELD_HELD 0).wr R.REC_CTRL_OLD (BitVec.ofNat 32 n)).fullFollow
  ((s.recPut e 1).cursorsTo n).raise P.REC_CTRL 2

/-- A carried write of REC_CTRL_CMD: DIAG is firmware's, CLEAR lockable. -/
def State.recCmd (s : State) (q : Requester) (v : Word) : State :=
  let s := if v.getLsbD 1 = s.bit F.REC_CTRL_CMD_DIAG then s
    else s.firmwareOnly q R.REC_CTRL_CMD fun s => s.putB F.REC_CTRL_CMD_DIAG (v.getLsbD 1)
  s.locked q R.REC_CTRL_CMD fun s => if v.getLsbD 0 then s.recClear q else s

/-- A carried write of REC_CTRL_CFG (R403). -/
def State.recCfg (s : State) (q : Requester) (v : Word) : State := (s.storePlain q R.REC_CTRL_CFG v).fullFollow

/-! Posting (R406). -/

/-- The 26 bytes of DATA and the SUBJ that a requester has prepared. -/
def State.pdataBytes (s : State) (q : Requester) : List Byte :=
  (List.range 7).flatMap fun n => beBytes 4 (stGet (fun _ => 0) s.recorder.pdata (q.code * 8 + n)).toNat

/-- A carried write of REC_CTRL_PDATAn. -/
def State.pdataWrite (s : State) (q : Requester) (n : Nat) (v : Word) : State :=
  s.modRec fun r => { r with pdata := stSet (fun _ => 0) r.pdata (q.code * 8 + n) v }

/-- The high byte of the CODE of a requester's posts. -/
def postIsland (q : Requester) : Nat :=
  match q with
  | .host => I.HBR
  | .periscope => I.PSC
  | .firmware => I.MGT
  | .testAccess => I.HLT

/-- A carried write of REC_CTRL_POST. -/
def State.recPost (s : State) (q : Requester) (v : Word) : State :=
  let low := v.toNat % 256
  let sev := v.toNat / 256 % 16
  if low < 0x80 then s.raise P.REC_CTRL 4
  else
    let b := s.pdataBytes q
    { s with evq := s.evq ++
      [⟨postIsland q * 256 + low, if 5 ≤ sev then 4 else sev, ofBytes (b.take 2), b.drop 2, s.recOrigin q⟩] }

/-! The read port (R404). -/

def State.recCur (s : State) (q : Requester) : Nat := (stGet (fun _ => 1) s.recorder.cur q.code).toNat

def State.setCur (s : State) (q : Requester) (v : Word) : State :=
  s.modRec fun r => { r with cur := stSet (fun _ => 1) r.cur q.code v }

/-- How many records the requester's cursor falls behind OLD: what its next POP skips. -/
def State.recSkipped (s : State) (q : Requester) : Nat :=
  if laterThan 32 s.recOld (s.recCur q) then min 0xFFFF ((s.recOld + 2 ^ 32 - s.recCur q) % 2 ^ 32) else 0

/-- A cursor earlier than OLD moves to OLD. -/
def State.recCatchUp (s : State) (q : Requester) : State :=
  if laterThan 32 s.recOld (s.recCur q) then s.setCur q (s.rd R.REC_CTRL_OLD) else s

/-- No record waits at the requester's cursor. -/
def State.recNone (s : State) (q : Requester) : Bool := s.recCur q == s.recNext || laterThan 32 (s.recCur q) s.recNext

/-- A record with an uncorrected error as it is read (R404): one of its words is free, and its CRC fails. -/
def spoilt (b : List Byte) (k : Nat) (w : BitVec 64) : List Byte :=
  let r := bytesAt b 0 (8 * k) ++ beBytes 8 w.toNat ++ bytesAt b (8 * k + 8) (56 - 8 * k)
  let c := crc32c (bytesAt r 0 60)
  if ofBytes (bytesAt r 60 4) = c.toNat then bytesAt r 0 60 ++ beBytes 4 (~~~c).toNat else r

/-- The record at the cursor becomes the requester's snapshot, and its cursor moves on. -/
def State.recTake (s : State) (q : Requester) (ue : Bool) : State :=
  if s.recNone q then s
  else
    let b := s.rdBytes (recSlot (s.recCur q)) 64
    let b := if ue then spoilt b (s.free 3).toNat (s.free 64) else b
    (s.modRec fun r => { r with snap := stSet (fun _ => []) r.snap q.code b }).setCur q (BitVec.ofNat 32 (s.recCur q + 1))

/-- A carried read of REC_PORT_POP; `ue`: the slot has an uncorrected error. -/
def State.recPop (q : Requester) (ue : Bool) (s : State) : Word × State :=
  (BitVec.ofNat 32 ((if (s.recCatchUp q).recNone q then 0 else 2 ^ 31 + ue.toNat * 2 ^ 30) + s.recSkipped q),
    ((s.recCatchUp q).recTake q ue).used)

/-- What REC_PORT_Dn reads as for a requester. -/
def State.recSnap (s : State) (q : Requester) (n : Nat) : Word :=
  BitVec.ofNat 32 (ofBytes (bytesAt (stGet (fun _ => []) s.recorder.snap q.code) (4 * n) 4))

/-! The stream (R407). -/

def State.strmSlots (s : State) : Nat := 2 ^ max 6 (min 15 (s.get F.REC_STRM_CFG_LOGN))
def State.strmBase (s : State) : Nat := 64 * s.get F.REC_STRM_BASE_BASE

/-- A carried write of REC_STRM_CFG. -/
def State.strmCfg (s : State) (v : Word) : State :=
  let old := s.rd R.REC_STRM_CFG
  let s := s.wr R.REC_STRM_CFG ((if old.getLsbD 31 then maskIn v 0x070F0000 old else v) &&& 0x670FFFFF)
  if !v.getLsbD 31 then s
  else if !s.dmaFits (s.get F.REC_STRM_CFG_OWIN) s.strmBase (64 * s.strmSlots) then s.raise P.REC_STRM 3
  else
    let s := (s.putB F.REC_STRM_CFG_EN true).wr R.REC_STRM_PTR 0
    (s.wr R.REC_STRM_NEXT (s.rd (if s.bit F.REC_STRM_CFG_FROM then R.REC_CTRL_NEXT else R.REC_CTRL_OLD))).modRec
      fun r => { r with streamed := 0 }

/-- A carried write of REC_STRM_BASE: only while EN = 0. -/
def State.strmBaseWrite (s : State) (v : Word) : State := if s.bit F.REC_STRM_CFG_EN then s else s.wr R.REC_STRM_BASE v

/-- A carried write of REC_STRM_PTR: GET moves on, not past PUT. -/
def State.strmGet (s : State) (v : Word) : State :=
  let n := s.strmSlots
  let new := v.toNat / 65536
  let put := s.get F.REC_STRM_PTR_PUT
  if n ≤ new ∨ ringDist n (s.get F.REC_STRM_PTR_GET) put < ringDist n new put then s else s.put F.REC_STRM_PTR_GET new

/-- The stream writes the next record into the host ring when there is room. -/
def State.strm (s : State) : State :=
  let n := s.strmSlots
  let put := s.get F.REC_STRM_PTR_PUT
  if !s.isOn I.REC || !s.bit F.REC_STRM_CFG_EN || !s.isOn I.HBR || !s.bit F.HBR_CTRL_LINK_BME || s.bit F.HBR_CTRL_LINK_D3 ||
    (put + 1) % n == s.get F.REC_STRM_PTR_GET then s
  else
    let s := s.strmSkip
    let next := (s.rd R.REC_STRM_NEXT).toNat
    let m := s.get F.REC_STRM_CFG_OWIN
    let o := s.strmBase + 64 * put
    if next = s.recNext ∨ laterThan 32 next s.recNext then s
    else if !s.dmaFits m o 64 then
      ((s.putB F.REC_STRM_CFG_EN false).raise P.REC_STRM 2).post 0x0B12 3 (subject 2 15) (beBytes 8 o)
    else
      let s := (s.dmaWrite m o (s.rdBytes (recSlot next) 64)).put F.REC_STRM_PTR_PUT ((put + 1) % n)
      let s := (s.wr R.REC_STRM_NEXT (BitVec.ofNat 32 (next + 1))).wrapInc F.REC_STRM_CNT_SENT
      let s := s.modRec fun r => { r with streamed := r.streamed + 1 }
      if s.bit F.REC_STRM_CFG_IE ∧ max 1 (s.get F.REC_STRM_CFG_THRESH) ≤ s.recorder.streamed then
        (s.modRec fun r => { r with streamed := 0 }).raise P.REC_STRM 0
      else s

/-! The commands. -/

def execRecEventStamp (s : State) : Host.Outcome State Fault Refusal := .next s.recEventStamp
def execRecCommit (s : State) : Host.Outcome State Fault Refusal := .next s.recCommit

/-- COAL_CLOSE (R401): the entry with the earliest deadline closes, once that has come. -/
def execCoalClose (s : State) : Host.Outcome State Fault Refusal :=
  .next (match s.coalFirst with
    | some c => if s.isOn I.REC && decide (c.deadline ≤ s.mono) then s.coalClose c else s
    | none => s)

def execLoss (s : State) : Host.Outcome State Fault Refusal := .next s.recLoss

def execRecPost (q : Requester) (v : Word) (s : State) : Host.Outcome State Fault Refusal :=
  .next (s.carry q R.REC_CTRL_POST v fun s => s.recPost q v)

/-- CLEAR (R405): a write of REC_CTRL_CMD. -/
def execClear (q : Requester) (v : Word) (s : State) : Host.Outcome State Fault Refusal :=
  .next (s.carry q R.REC_CTRL_CMD v fun s => s.recCmd q v)

def execRecPortPop (q : Requester) (ue : Bool) (s : State) : Host.Outcome State Fault Refusal :=
  .next (s.carryRead q R.REC_PORT_POP (State.recPop q ue))

def execRecPortCurWrite (q : Requester) (v : Word) (s : State) : Host.Outcome State Fault Refusal :=
  .next (s.carry q R.REC_PORT_CUR v fun s => s.setCur q v)

/-- STOP_WRITE (R403): a write of REC_CTRL_CFG. -/
def execStopWrite (q : Requester) (v : Word) (s : State) : Host.Outcome State Fault Refusal :=
  .next (s.carry q R.REC_CTRL_CFG v fun s => s.recCfg q v)

/-- STREAM_ENABLE (R407): a write of REC_STRM_CFG. -/
def execStreamEnable (q : Requester) (v : Word) (s : State) : Host.Outcome State Fault Refusal :=
  .next (s.carry q R.REC_STRM_CFG v fun s => s.strmCfg v)

def execStrm (s : State) : Host.Outcome State Fault Refusal := .next s.strm

def execStreamGetWrite (q : Requester) (v : Word) (s : State) : Host.Outcome State Fault Refusal :=
  .next (s.carry q R.REC_STRM_PTR v fun s => s.strmGet v)

end Sys2Proof.Machine
end

