-- ==== Sys2Proof/Machine/Repair.lean ====
section
/-!
DEFINITION. Flash, the repair record and the repair copy (R365, R419 to R422), and the levels that HLT rebuilds when it comes on
(R412).
-/

namespace Sys2Proof.Machine

def State.modPwr (s : State) (f : PwrState → PwrState) : State := { s with pwr := f s.pwr }
def State.modHlt (s : State) (f : HltState → HltState) : State := { s with hlt := f s.hlt }
def State.modMgt (s : State) (f : MgtState → MgtState) : State := { s with mgt := f s.mgt }
def State.modNv (s : State) (f : NvState → NvState) : State := { s with nv := f s.nv }

/-! Flash. -/

/-- What an erased byte reads. -/
def erased (_ : Nat) : Byte := 0xFF

/-- Bytes `a` to `a + n - 1` of the flash. -/
def State.flashBytes (s : State) (a n : Nat) : List Byte := (List.range n).map fun k => stGet erased s.nv.flash (a + k)

def State.flashNum (s : State) (a n : Nat) : Nat := ofBytes (s.flashBytes a n)

/-- Program bytes from address `a` on: programming clears bits. -/
def State.flashPut (s : State) (a : Nat) : List Byte → State
  | [] => s
  | b :: bs => (s.modNv fun v => { v with flash := stSet erased v.flash a (stGet erased v.flash a &&& b) }).flashPut (a + 1) bs

/-- Erase addresses `a` to `a + n - 1`. -/
def State.flashErase (s : State) (a n : Nat) : State :=
  s.modNv fun v => { v with flash := stClear (fun k => decide (a ≤ k) && decide (k < a + n)) v.flash }

/-! The repair record (R421). -/

/-- Where a copy of the record lies (log entry 41). -/
def recordBase (copy : Nat) : Nat := 0x4000000 + 0x4000 * copy

/-- An entry of the record in flash. -/
def repEntryAt (bs : List Byte) : RepEntry :=
  ⟨ofBytes (bytesAt bs 0 1), ofBytes (bytesAt bs 1 1), ofBytes (bytesAt bs 2 2), ofBytes (bytesAt bs 4 1)⟩

def repEntryBytes (e : RepEntry) : List Byte :=
  beBytes 1 e.macroNo ++ beBytes 1 e.kind ++ beBytes 2 e.addr ++ beBytes 1 e.slot ++ [0, 0, 0]

/-- A copy of the record, if it checks: SEQ, COUNT, and the entries of known kinds. -/
def State.repairRecord (s : State) (copy : Nat) : Option (Nat × Nat × List RepEntry) :=
  let a := recordBase copy
  let n := s.flashNum (a + 6) 2
  if s.flashNum a 4 ≠ 0x4B525052 ∨ s.flashNum (a + 4) 2 ≠ 1 ∨ 1024 < n then none
  else if BitVec.ofNat 32 (s.flashNum (a + 16 + 8 * n) 4) ≠ crc32c (s.flashBytes a (16 + 8 * n)) then none
  else
    let es := (List.range n).map fun i => repEntryAt (s.flashBytes (a + 16 + 8 * i) 8)
    some (s.flashNum (a + 8) 4, n, es.filter fun e => decide (1 ≤ e.kind) && decide (e.kind ≤ 5))

/-- The copy in use, the one with the higher SEQ: its number, SEQ, COUNT and entries. -/
def State.recordInUse (s : State) : Option (Nat × Nat × Nat × List RepEntry) :=
  match s.repairRecord 0, s.repairRecord 1 with
  | some a, some b => if a.1 < b.1 then some (1, b) else some (0, a)
  | some a, none => some (0, a)
  | none, some b => some (1, b)
  | none, none => none

/-- SYS fills the repair copy (R365): the factory repairs of OTP, and those in service of the record. -/
def State.repairFill (s : State) : State :=
  match s.recordInUse with
  | some r => (s.modPwr fun p => { p with factory := s.nv.factory, repair := r.2.2.2, fillDue := false }).putB F.SYS_RST_STAT_REPAIR_BAD false
  | none =>
    let s := s.modPwr fun p => { p with factory := s.nv.factory, repair := [], fillDue := false, repairDue := true }
    (s.putB F.SYS_RST_STAT_REPAIR_BAD true).raise P.SYS_RST 2

/-! SRAM memories (R413). -/

/-- The island of an SRAM memory. -/
def memIsland (m : Nat) : Nat :=
  if m ≤ 33 then I.FAB
  else if m ≤ 45 then I.SGW
  else if m ≤ 47 then I.CBL
  else if m ≤ 49 then I.CBH
  else if m ≤ 57 then I.REC
  else if m ≤ 73 then I.MGT
  else if m = 74 then I.TOP
  else if m = 75 then I.HBR
  else if m = 76 then I.PSC
  else if m = 77 then I.TIM
  else I.TWN

/-- Every SRAM memory. -/
def allMems : List Nat := List.range 80

/-- Repairs of an SRAM memory of one kind: factory ones and those in service. -/
def State.repairsOf (s : State) (m kind : Nat) : List RepEntry :=
  (s.pwr.factory ++ s.pwr.repair).filter fun e => e.macroNo == m && e.kind == kind

/-- Spare rows in use. -/
def State.rowsUsed (s : State) (m : Nat) : Nat := (s.repairsOf m 1).length

/-- The repair copy holds an entry. -/
def State.hasRepair (s : State) (m kind : Nat) : Bool := !(s.repairsOf m kind).isEmpty

/-- Retired packet-buffer banks. -/
def State.retiredBanks (s : State) : Nat := ((List.range 32).filter fun m => s.hasRepair m 3).length

/-! Reasons that follow from what stands (R410). -/

/-- A reason of an island follows a condition. -/
def State.follow (s : State) (isl bit : Nat) (on strong : Bool) : State := s.hltReason isl bit on strong

/-- The reasons that rest on the SRAM memories of an island. -/
def State.memReasons (s : State) (isl : Nat) : State :=
  let mine := allMems.filter fun m => memIsland m == isl
  let s := s.follow isl 0 (mine.any s.hlt.ceRate.contains) false
  let s := s.follow isl 1 (mine.any s.hlt.ueMacros.contains) false
  let s := s.follow isl 2 (s.hlt.suspects.any fun k => mine.contains (k / 1024)) false
  let s := s.follow isl 3 (mine.any fun m => decide (8 ≤ s.rowsUsed m)) false
  let s := if isl = I.FAB then s.follow isl 4 (s.retiredBanks != 0) (decide (4 ≤ s.retiredBanks)) else s
  s.follow isl 5 (mine.any fun m => s.hlt.unrepairable.contains m || s.hasRepair m 4) false

/-- CLOCK (R410): LINE_HOLD or a lost source, or XO_FAIL with the higher floor. -/
def State.clockReason (s : State) : State :=
  let x := s.bit F.SYS_CLK_STAT_XO_FAIL
  s.follow I.SYS 12 (x || s.hlt.clockBad) x

/-- TEMP_W and TEMP_D of SYS. -/
def State.tempReasons (s : State) : State :=
  (s.follow I.SYS 9 (!s.hlt.hotW.isEmpty) false).follow I.SYS 10 (!s.hlt.hotD.isEmpty || s.pwr.thermal) false

/-- The registers that show the record in use. -/
def State.showRecord (s : State) : State :=
  match s.recordInUse with
  | some r =>
    let s := (s.put F.HLT_REPAIR_RSTAT_COPY r.1).put F.HLT_REPAIR_RSTAT_ENTRIES r.2.2.1
    s.wr R.HLT_REPAIR_RSEQ (BitVec.ofNat 32 r.2.1)
  | none => ((s.put F.HLT_REPAIR_RSTAT_COPY 0).put F.HLT_REPAIR_RSTAT_ENTRIES 0).wr R.HLT_REPAIR_RSEQ 0

/-- HLT has come on: it rebuilds the levels (R412). -/
def State.hltRebuild (s : State) : State :=
  let s := (List.range 17).foldl (fun s n => s.memReasons n) s.showRecord
  let s := (List.range 17).foldl (fun s n => s.follow n 6 (s.hasRepair n 5) false) s
  let s := s.tempReasons.clockReason
  let s := s.follow I.SYS 13 (s.mismatch .a || s.mismatch .b) false
  let s := s.follow I.SYS 14 s.pwr.byp24 false
  let s := s.follow I.SGW 15 (s.bit F.TWN_XCHK_STAT_XFAIL) false
  let s := s.follow I.TWN 16 (s.bit F.TWN_CTRL_ROLE_CLAIM_FAULT) false
  let s := s.follow I.MGT 17 (s.bit F.MGT_CTRL_STAT_HOLD) false
  let bad := (List.range 17).filter fun n => s.hasRepair n 5
  s.modHlt fun h => { h with bistFail := bad, retiredIsl := bad }

/-- FAB retires the banks of the repair copy again (R422). -/
def State.retireAgain (s : State) : State :=
  if !s.isOn I.FAB || !s.isOn I.HLT then s
  else ((List.range 32).filter fun b => s.hasRepair b 3 && !(s.rd R.FAB_QUE_RETIRED).getLsbD b).foldl (fun s b => s.retireBank b) s

/-! Withdrawing an island (R415, R416). -/

/-- The pages of an island show a withdrawal: BIST_ACTIVE, OFFLINE and READY. -/
def State.showPages (s : State) (isl : Nat) (bist offline ready : Bool) : State :=
  (pagesOf isl).foldl (fun s pg =>
    ((s.putB (F.PG_STAT_BIST_ACTIVE pg) bist).putB (F.PG_STAT_OFFLINE pg) offline).putB (F.PG_STAT_READY pg) ready) s

end Sys2Proof.Machine
end

