-- ==== Sys2Proof/Machine/Reset.lean ====
section
/-!
DEFINITION. Islands off and on, source switches, starts and module resets, as the clock and power commands use them (R329 to R359).
-/

namespace Sys2Proof.Machine

/-! Sources and switches (R329 to R338). -/

/-- A source is good: running, qualified or locked. -/
def State.srcGood (s : State) (c : Nat) : Bool := decide (c ≤ 5) && s.bit ⟨R.SYS_CLK_STAT, c, c⟩

/-- The source of an island. -/
def State.curSrc (s : State) (n : Nat) : Nat := s.get (F.SYS_CLK_ISL_CUR n)

/-- The selected source of an island. -/
def State.selSrc (s : State) (n : Nat) : Nat := s.get (F.SYS_CLK_ISL_SRC n)

/-- A switch of the island's source starts (R336). -/
def State.switchTo (s : State) (n c : Nat) : State :=
  if s.curSrc n = c then s
  else
    let s := s.modPwr fun p => { p with
      swTo := (n, c) :: p.swTo.filter fun (e : Nat × Nat) => e.1 != n,
      waitSrc := p.waitSrc.filter fun k => k != n }
    s.putB (F.SYS_CLK_ISL_SWITCHING n) true

/-- The island goes to its selected source now, or once that is good (R346). -/
def State.seekSrc (s : State) (n : Nat) : State :=
  let c := s.selSrc n
  if c = s.curSrc n then s
  else if s.srcGood c then s.switchTo n c
  else s.modPwr fun p => { p with waitSrc := p.waitSrc.filter (fun k => k != n) ++ [n] }

/-- Islands that waited for a source start their switches. -/
def State.startWaiting (s : State) (c : Nat) : State :=
  (s.pwr.waitSrc.filter fun n => s.selSrc n == c).foldl (fun s n => s.switchTo n c) s

/-! DVFS islands (R342). -/

/-- The number of a DVFS island: 0 FAB, 1 SGW, 2 MGT. -/
def dvfsOf (isl : Nat) : Option Nat := if isl = I.FAB then some 0 else if isl = I.SGW then some 1 else if isl = I.MGT then some 2 else none

/-- The island of a DVFS number. -/
def dvfsIsland (f : Nat) : Nat := if f = 0 then I.FAB else if f = 1 then I.SGW else I.MGT

def State.dvfs (s : State) (f : Nat) : Dvfs := stGet (fun _ => Dvfs.reset) s.pwr.dvfs f

def State.setDvfs (s : State) (f : Nat) (d : Dvfs) : State :=
  s.modPwr fun p => { p with dvfs := stSet (fun _ => Dvfs.reset) p.dvfs f d }

/-- A change that runs ends with its island (log entry 43): its point stays stored. -/
def State.dvfsEnd (s : State) (isl : Nat) : State :=
  match dvfsOf isl with
  | some f => (s.putB (F.SYS_PWR_DVFSSTAT_BUSY f) false).setDvfs f { s.dvfs f with fPend := false }
  | none => s

/-- The rail of a DVFS island comes up at its stored VSET, and its frequency comes with PLL_SYS (R344, R346). -/
def State.dvfsUp (s : State) (isl : Nat) : State :=
  match dvfsOf isl with
  | some f => (s.put (F.SYS_PWR_DVFSSTAT_CUR_V f) (s.dvfs f).vset).setDvfs f { s.dvfs f with fPend := true }
  | none => s

/-! What an island holds. -/

/-- What a line interface keeps when its island is reset (R61): the sequence of its switches, which lie in SYS_BYP, and the hold for
MISMATCH. A closing that runs ends in BYPASS without a hold-off. -/
def LineState.islandReset (x : LineState) : LineState :=
  { x with holdoff := false, opening := false, pendClose := none,
           seq := (match x.seq with
             | .closing _ => .closing .reset
             | q => q) }

/-- The engines of an island return to their reset state. -/
def State.resetEngines (s : State) (n : Nat) : State :=
  match n with
  | 1 => { s with lineA := s.lineA.islandReset, portA1 := .reset, portA2 := .reset,
                  beam := { s.beam with la1 := .reset, la2 := .reset, pa1 := .reset, pa2 := .reset } }
  | 2 => { s with lineB := s.lineB.islandReset, portB1 := .reset, portB2 := .reset,
                  beam := { s.beam with lb1 := .reset, lb2 := .reset, pb1 := .reset, pb2 := .reset } }
  | 3 => { s with fab := .reset }
  | 6 => { s with sgw := .reset }
  | 7 => { s with cans := s.cans.filter fun (e : Nat × CanState) => decide (8 ≤ e.1) }
  | 8 => { s with cans := s.cans.filter fun (e : Nat × CanState) => decide (e.1 < 8) }
  | 9 => { s with tim := .reset }
  | 10 => { s with twn := .reset }
  | 12 => { s with psc := .reset }
  | 13 => s.modMgt fun m => { m with
      queue := [], rsps := [], img := none, gov := .reset, shed := 0, policyGen := 0, booting := false, resets := [] }
  | 14 => { s with recorder := .reset, evq := [] }
  | 15 => { s with hlt := .reset }
  | 16 => { s with top := .reset, beam := { s.beam with active := none, shadow := none, ctl := [] } }
  | _ => s

/-- Everything an island holds returns to reset: registers, RAM, engines, what its pages' accesses left behind. -/
def State.islandReset (s : State) (n : Nat) : State :=
  let s := s.clearRegs fun a => decide (islandOf a = n)
  let s := (s.clearMem fun a => decide (a / 16777216 = n)).resetEngines n
  { s with acc := { s.acc with
      latch := s.acc.latch.filter fun (e : Nat × Option PairWord) => e.1 / 64 != n,
      held := s.acc.held.filter fun (e : Nat × Option PairWord) => e.1 / 64 != n,
      srst := s.acc.srst.filter fun a => islandOf a != n,
      srstDrop := s.acc.srstDrop.filter fun a => islandOf a != n,
      bar0 := if n = I.HBR then 0 else s.acc.bar0,
      bar2 := if n = I.HBR then 0 else s.acc.bar2 } }

/-- The functions of an island stop (R345): what that does elsewhere in the module. -/
def State.stopFunctions (s : State) (n : Nat) : State :=
  match n with
  | 1 => (s.mutePorts .a).putB (bypBit .a 0) false
  | 2 => (s.mutePorts .b).putB (bypBit .b 0) false
  | 10 =>
    let s := if s.bit F.TWN_CTRL_ROLE_CLAIM_DRV then s.emit (.claim false) else s
    s.put F.TWN_CTRL_ROLE_ROLE 0
  | 11 => s.dropReads
  | 13 => s.putB F.SYS_RST_FAULT_RESET true
  | 15 => s.putB F.SYS_RST_FAULT_HEALTH false
  | _ => s

/-- The test that runs is lost, and HLT records RESULT 8 (R415, R418): the bank under test goes with FAB, or the island goes. -/
def State.testLost (s : State) (n : Nat) : State :=
  match s.hlt.test with
  | none => s
  | some t =>
    if (t.kind = 0 ∧ n = I.FAB) ∨ s.hlt.withdrawn.contains n then
      ((s.put F.HLT_BIST_STAT_RESULT 8).put F.HLT_BIST_STAT_STATE 4).modHlt fun h => { h with
        test := none, ending := none, session := false, abortDue := false }
    else s

/-- Step D1 of an island (R345): it counts as off, its functions stop, a switch or a gate request is abandoned. What it held is
lost. -/
def State.islandOff (s : State) (n : Nat) : State :=
  let s := if s.isOn n then s.stopFunctions n else s
  let s := s.testLost n
  let s := s.putB ⟨R.SYS_PWR_STAT, n, n⟩ false
  let s := (s.putB (F.SYS_CLK_ISL_SWITCHING n) false).put (F.SYS_CLK_ISL_CUR n) 0
  let s := s.modPwr fun p => { p with
    swTo := p.swTo.filter fun (e : Nat × Nat) => e.1 != n,
    waitSrc := p.waitSrc.filter fun k => k != n,
    gateReq := p.gateReq.filter fun a => islandOf a != n }
  let s := (s.islandReset n).dvfsEnd n
  let s := if n = I.TWN then s.sgwMute else s
  let s := if n = I.TWN ∨ n = I.TOP then s.gmUpdate else s
  s.modHlt fun h => { h with withdrawn := h.withdrawn.filter fun k => k != n }

/-! An island comes on (R346). -/

/-- Free cells of the pools when FAB comes on (R156): 1,024 for each bank of a pool. -/
def State.poolsUp (s : State) : State :=
  [0, 1, 2, 3].foldl (fun s p => s.put (freeFld p) (1024 * ((List.range 32).filter fun b => s.bankPool b == p).length)) s

/-- What the blocks of an island do when its reset is released. -/
def State.startFunctions (s : State) (n : Nat) : State :=
  match n with
  | 1 => (s.putB (F.BL_LINE_STAT_KA_FAB .a) (s.isOn I.FAB)).putB (F.BL_LINE_STAT_KA_TOP .a) (s.isOn I.TOP)
  | 2 => (s.putB (F.BL_LINE_STAT_KA_FAB .b) (s.isOn I.FAB)).putB (F.BL_LINE_STAT_KA_TOP .b) (s.isOn I.TOP)
  | 3 => s.poolsUp.retireAgain
  | 6 => s.sgwMute
  | 7 => (List.range 8).foldl (fun s k => s.canRelease k) s
  | 8 => (List.range 8).foldl (fun s k => s.canRelease (8 + k)) s
  | 9 => s.showIdentity.gmUpdate
  | 10 =>
    let t := s.get F.SYS_RST_STAT_TPOS
    let s := (s.put F.TWN_CTRL_ROLE_TPOS t).put F.TWN_CTRL_ROLE_TPOS_EFF t
    s.put F.TWN_MLINK_STAT_STATE 1
  | 13 => s.modMgt fun m => { m with booting := true, kicked := s.mono }
  | 14 =>
    let s := s.recStart
    let s := if s.pwr.safeDue then s.post 0x0016 4 (subject 0 0) (beBytes 4 (s.rd R.SYS_RST_CNT).toNat) else s
    let s := if s.pwr.repairDue then s.post 0x0015 3 (subject 0 0) [] else s
    s.modPwr fun p => { p with safeDue := false, repairDue := false }
  | 15 =>
    let s := if s.pwr.testLost then s.put F.HLT_BIST_STAT_RESULT 8 else s
    (s.modPwr fun p => { p with testLost := false }).hltRebuild.retireAgain
  | 16 => (s.wr R.TOP_SERIAL_HI (BitVec.ofNat 32 (s.nv.serial / 2 ^ 32))).wr R.TOP_SERIAL_LO (BitVec.ofNat 32 s.nv.serial)
  | _ => s

/-- The end of step U7: the island is on with reset values, its functions start, it seeks its selected source. A failed island is
retired again (R416). -/
def State.islandOn (s : State) (n : Nat) : State :=
  let s := ((s.islandReset n).put (F.SYS_CLK_ISL_CUR n) 0).putB ⟨R.SYS_PWR_STAT, n, n⟩ true
  let s := if n = I.BLA then s.lineCfgReset .a else if n = I.BLB then s.lineCfgReset .b else s
  let s := if s.hasRepair n 5 then s.showPages n false true false else s.startFunctions n
  s.seekSrc n

/-! The order of power-ups (R347, R353). -/

def State.seqPhase (s : State) (n : Nat) : Nat := s.get (F.SYS_PWR_SEQ_PHASE n)
def State.seqStep (s : State) (n : Nat) : Nat := s.get (F.SYS_PWR_SEQ_STEP n)

def State.setSeq (s : State) (n ph st : Nat) : State := (s.put (F.SYS_PWR_SEQ_PHASE n) ph).put (F.SYS_PWR_SEQ_STEP n) st

/-- An island joins those that wait for U1. -/
def State.queueUp (s : State) (n : Nat) : State :=
  if s.seqPhase n = 0 then (s.setSeq n 4 0).modPwr fun p => { p with waitQ := p.waitQ ++ [n] } else s

/-- The head pair of R353 starts. -/
def State.startPair (s : State) : State :=
  match s.pwr.upPairs with
  | p :: _ => p.foldl (fun s n => s.queueUp n) s
  | [] => s

/-- A start or a module reset is under way (R356). -/
def State.resetRuns (s : State) : Bool := s.pwr.starting || s.pwr.holds != 0 || !s.pwr.upPairs.isEmpty

/-! Starts and module resets (R350 to R359). -/

/-- A cause arises: HIST (R356). -/
def State.histCause (s : State) (c : Nat) : State := s.put ⟨R.SYS_RST_CAUSE, c, c⟩ 1

/-- What every reset of the switched part of SYS makes of the boot and fault registers: no configuration is applied, nFAULT is
asserted until firmware runs (R352, R364). -/
def State.bootRegsReset (s : State) : State := (s.putB F.SYS_RST_BOOT_CFG_OK false).putB F.SYS_RST_FAULT_RESET true

/-- Every island and the switched part of SYS lose what they hold. Bypasses are the caller's. -/
def State.resetAll (s : State) : State :=
  let s := ((List.range 16).map (· + 1)).foldl (fun s n => s.islandOff n) s
  let s := s.clearRegs fun a => decide (a / 4096 = 1 ∨ a / 4096 = 2 ∨ a / 4096 = 6)
  let s := s.modPwr fun p => { p with
    upPairs := [], waitQ := [], reverse := [], waitSrc := [], swTo := [], dvfs := [], gateReq := [], downQ := [], holds := 0 }
  { s with evq := [], acc := { s.acc with aggHost := 0, aggMgt := 0 } }

/-- The islands that power up: all of them, or in safe hold MGT, HBR, HLT and REC only (R357). -/
def State.bootPairs (s : State) : List (List Nat) := if s.bit F.SYS_RST_BOOT_SAFE then startPairs.take 2 else startPairs

/-- The power-up of a start or a module reset begins: the repair copy is due, the first pair waits for U1, SYS seeks its source. -/
def State.beginUp (s : State) : State :=
  let s := s.modPwr fun p => { p with fillDue := true, upPairs := s.bootPairs, waitSrc := [0], holds := 0 }
  let s := s.modMgt fun m => { m with fresh := true, sections := [], sleep := none }
  s.startPair

/-- TWIN_POS is sampled at the end of a module reset (R359). -/
def State.sampleTpos (s : State) : State :=
  let t := s.get F.SYS_RST_STAT_TPOS + s.get F.SYS_RST_STAT_TPOS_PIN
  (s.put F.SYS_RST_STAT_TPOS t).putB F.SYS_RST_STAT_TPOS_PIN false

/-- The islands may power up again after a module reset. -/
def State.releaseReset (s : State) : State := s.sampleTpos.beginUp

/-- A bypass that is open or opening starts its closing sequence at the assertion of a reset; a hold for MISMATCH ends (R58, R59). -/
def State.closeForReset (s : State) (l : Line) : State :=
  let s := if (s.physwOn l && decide ((s.line l).seq = .idle)) || decide ((s.line l).seq = .opening) then s.runClosing l .reset else s
  (s.putB (bypBit l 3) false).setLine l { s.line l with mmHold := false, pendClose := none }

/-- A module reset (R354 to R358), as one step: every island powers down, the switched part of SYS returns to its reset values
with MONO running on, and the islands power up again, at once or when what holds the reset ends. -/
def State.doModuleReset (s : State) (cause src : Nat) : State :=
  let s := (s.put F.SYS_RST_CAUSE_LAST cause).put F.SYS_RST_CAUSE_SRC (if cause = 5 then src else 0)
  let s := (s.satInc F.SYS_RST_CNT_MODRST).satInc F.SYS_RST_CNT_WINDOW
  let s := if cause = 6 && s.pwr.clrSafe then
      (s.putB F.SYS_RST_BOOT_SAFE false).modPwr fun p => { p with clrSafe := false } else s
  let enter := s.get F.SYS_RST_CNT_WINDOW == 9 && !s.bit F.SYS_RST_BOOT_SAFE
  let s := if enter then
      (((s.putB F.SYS_RST_BOOT_SAFE true).satInc F.SYS_RST_CNT_SAFES).raise P.SYS_RST 1).modPwr fun p => { p with safeDue := true }
    else s
  let lost := s.hlt.test.isSome
  let s := ((s.closeForReset .a).closeForReset .b).resetAll.bootRegsReset
  let s := s.modPwr fun p => { p with pend := [], testLost := lost }
  if (cause = 4 && s.pwr.pin) || (cause = 7 && s.pwr.hot) then s.modPwr fun p => { p with holds := cause } else s.releaseReset

/-- A cause of a module reset arises (R355, R356): it is carried out now, or after the sequence that runs. In NIGHTFALL and DARK,
and while the switched part of SYS is off, it has no effect. -/
def State.moduleReset (s : State) (cause src : Nat) : State :=
  if s.wake.power == .nightfall || s.wake.power == .dark || s.wake.power == .off || !(s.pwr.sysOn || s.pwr.starting) then s
  else
    let s := s.histCause cause
    if s.resetRuns then s.modPwr fun p => { p with pend := p.pend.filter (fun (e : Nat × Nat) => e.1 != cause) ++ [(cause, src)] }
    else s.doModuleReset cause src

/-- Causes that wait still stand (R356). -/
def State.stillStands (s : State) (c : Nat × Nat) : Bool :=
  if c.1 = 4 then s.pwr.pin else if c.1 = 7 then s.pwr.hot else if c.1 = 5 then !s.srcGood c.2 else true

/-- The causes in the order of R356, highest first. -/
def causeOrder : List Nat := [8, 7, 5, 4, 6]

/-- The running sequence has ended its power-up: DAWN ends, and the highest-ranking cause that still stands is carried out. -/
def State.sequenceDone (s : State) : State :=
  let s := if s.wake.power = .dawn then s.modWake fun w => { w with power := .awake } else s
  let live := s.pwr.pend.filter s.stillStands
  let s := s.modPwr fun p => { p with pend := [] }
  match causeOrder.findSome? fun k => live.find? fun (e : Nat × Nat) => e.1 == k with
  | some c => s.doModuleReset c.1 c.2
  | none => s

/-- The next pair of R353 starts once both islands of the head pair have ended their sequences. -/
def State.pairNext (s : State) : State :=
  match s.pwr.upPairs with
  | p :: rest =>
    if p.all fun n => s.seqPhase n == 2 || s.seqPhase n == 0 then
      let s := s.modPwr fun w => { w with upPairs := rest }
      if rest.isEmpty then s.sequenceDone else s.startPair
    else s
  | [] => s

/-- A start begins (R350): its cause, and the wait for the release of the power-on reset. -/
def State.startBegin (s : State) (cause : Nat) : State :=
  let s := (s.histCause cause).put F.SYS_RST_CAUSE_LAST cause
  let s := (s.put F.SYS_RST_CAUSE_SRC 0).bootRegsReset
  s.modPwr fun p => { p with starting := true }

/-- The contents of OTP as SYS_RST shows them at a start (R360, R376). -/
def State.showOtp (s : State) : State :=
  (s.putB F.SYS_RST_STAT_OWNER_KEY s.nv.owner.isSome).put F.SYS_RST_STAT_SVN_MIN s.nv.svnMin

/-- The release of the power-on reset (R352, R359): the switched part of SYS is on with reset values, MONO starts at 0, TWIN_POS
is sampled. -/
def State.powerOnRelease (s : State) (tpos : Bool) : State :=
  if !s.pwr.starting then s
  else
    let s := { s.resetAll with mono5 := 0 }
    let s := (s.showOtp.putB F.SYS_RST_STAT_TPOS tpos).putB F.SYS_RST_STAT_TPOS_PIN false
    let s := (s.modPwr fun p => { p with sysOn := true, starting := false, byp24 := false }).dinRestart
    s.bootRegsReset.beginUp

/-- The bypass of a line closes by itself: its drive is gone (R60). -/
def State.bypassDrops (s : State) (l : Line) : State :=
  let s := ((s.putB (bypBit l 0) false).putB (bypBit l 1) true).putB (bypBit l 2) false
  s.setLine l .reset

/-- The converter stops (R351, R356): every sequence ends, the switched part of SYS and all islands lose power. -/
def State.powerLost (s : State) : State :=
  let s := ((s.resetAll.bypassDrops .a).bypassDrops .b).bootRegsReset
  s.modPwr fun p => { p with sysOn := false, starting := false, pend := [], safeDue := false, repairDue := false, fillDue := false, testLost := false }

end Sys2Proof.Machine
end

