-- ==== Sys2Proof/Machine/Clk.lean ====
section
/-!
DEFINITION. The clock commands: sources, monitors, switches, gates and operating points (R329 to R344).
-/

namespace Sys2Proof.Machine

/-! Sources (R330 to R335). -/

/-- A source is released (R335). -/
def State.released (s : State) (c : Nat) : Bool := s.bit ⟨R.SYS_SRC_RELEASE, c, c⟩

/-- Some island selects a source (R331). -/
def State.someSelects (s : State) (c : Nat) : Bool := (List.range 17).any fun n => s.selSrc n == c

/-- A source is monitored while it is not released (R333): PLL_TIME and its reference always, the IRO once the XO is qualified. -/
def State.monitored (s : State) (c : Nat) : Bool :=
  match c with
  | 0 => s.srcGood 1 && s.someSelects 0
  | 1 => s.srcGood 1
  | 2 => s.someSelects 2
  | 3 => s.someSelects 3
  | 4 => true
  | _ => true

/-- SRC_LOSS of a released source (R335, R338): its islands fall to the IRO, and SRC keeps its value. -/
def State.srcLoss (s : State) (c : Nat) (forced : Bool) : State :=
  let s := ((s.satInc F.SYS_CLK_LOSS_LOSS_CNT).put F.SYS_CLK_LOSS_LAST c).raise P.SYS_CLK 0
  let s := s.post 0x0012 3 (subject 1 c) (beBytes 1 forced.toNat)
  let s := (s.modHlt fun h => { h with clockBad := s.isOn I.HLT }).clockReason
  ((List.range 17).filter fun n => s.powered n && s.curSrc n == c && c != 0).foldl (fun s n => s.switchTo n 0) s

/-- A good source fails (R334, R335). PLL_LINE and the XO lose their qualification with it. -/
def State.srcFail (s : State) (c : Nat) (forced : Bool) : State :=
  if !s.pwr.sysOn || !s.srcGood c then s
  else
    let mon := s.monitored c
    if !s.released c && !mon then s.putB ⟨R.SYS_CLK_STAT, c, c⟩ false
    else
      let s := s.putB ⟨R.SYS_CLK_STAT, c, c⟩ false
      let s := if c = 1 then s.put F.SYS_CLK_XOQ_QCNT 0 else if c = 3 then s.putB F.SYS_CLK_STAT_LINE_HOLD false else s
      if s.released c then s.srcLoss c forced else s.moduleReset 5 c

/-- The XO is qualified (R330). After XO_FAIL the module stays on the IRO until the next start. -/
def State.xoQual (s : State) : State :=
  if !s.pwr.sysOn || s.srcGood 1 || s.bit F.SYS_CLK_STAT_XO_FAIL then s
  else (((s.putB F.SYS_CLK_STAT_XO_QUAL true).put F.SYS_CLK_XOQ_QCNT 262144).raise P.SYS_CLK 4).startWaiting 1

/-- The XO has not qualified within 200 ms (R330). -/
def State.xoFail (s : State) : State :=
  if !s.pwr.sysOn || s.srcGood 1 then s else (s.putB F.SYS_CLK_STAT_XO_FAIL true).clockReason

/-- PLL_LINE loses its reference and holds its last frequency (R332). -/
def State.lineHold (s : State) : State :=
  if !s.srcGood 3 || s.bit F.SYS_CLK_STAT_LINE_HOLD then s
  else (s.putB F.SYS_CLK_STAT_LINE_HOLD true).raise P.SYS_CLK 2

/-- The reference that PLL_LINE is to follow (R111), as LINE_REF codes it: the XO at the reference-end node, without an epoch and under
FORCE_XO; otherwise the upstream port of line A while it has link, else that of line B; none: PLL_LINE holds its last frequency. -/
def State.wantedRef (s : State) : Option Nat :=
  if s.bit F.SYS_CLK_LINE_FORCE_XO || s.epoch == 0 || s.bit F.TOP_NODE_REFEND then some 0
  else if s.bit (F.BL_P_STAT_LINK (s.portToRef .a)) then some ((s.portToRef .a).idx + 1)
  else if s.bit (F.BL_P_STAT_LINK (s.portToRef .b)) then some ((s.portToRef .b).idx + 1)
  else none

/-- PLL_LINE moves to another reference (R332), the one that R111 gives: within 2 ppm it does not lose lock. -/
def State.lineRefChg (s : State) (ref : Nat) (near : Bool) : State :=
  if !s.pwr.sysOn || ref == s.get F.SYS_CLK_STAT_LINE_REF || s.wantedRef != some ref then s
  else
    let s := s.put F.SYS_CLK_STAT_LINE_REF ref
    if near then (s.putB F.SYS_CLK_STAT_LINE_HOLD false).raise P.SYS_CLK 3
    else s.putB F.SYS_CLK_STAT_LINE_LOCK false

/-- PLL_LINE locks to its reference (R332); a reference beyond ±100 ppm of the XO is rejected and counts as lost. -/
def State.lineLocked (s : State) (ofs : Int) : State :=
  if !s.pwr.sysOn || !s.srcGood 1 then s
  else if 100000 < ofs.natAbs then s.lineHold
  else
    let s := (s.putB F.SYS_CLK_STAT_LINE_LOCK true).putB F.SYS_CLK_STAT_LINE_HOLD false
    (s.put F.SYS_CLK_LINE_OFS (ofSigned 24 ofs)).startWaiting 3

/-- A source becomes good (R333, R338): waiting switches start. -/
def State.sourceGood (s : State) (c : Nat) : State :=
  match c with
  | 1 => s.xoQual
  | 3 => s.lineLocked (toSigned 24 (s.get F.SYS_CLK_LINE_OFS))
  | _ => if !s.pwr.sysOn || decide (5 < c) then s else (s.putB ⟨R.SYS_CLK_STAT, c, c⟩ true).startWaiting c

/-- A carried write of SYS_SRC_RELEASE (R335): a 0 re-arms only a good source. -/
def State.releaseWrite (s : State) (q : Requester) (v : Word) : State :=
  s.locked q R.SYS_SRC_RELEASE fun s =>
    let keep := (List.range 6).foldl (fun n c => if s.released c && !s.srcGood c then n + 2 ^ c else n) 0
    s.wr R.SYS_SRC_RELEASE ((v &&& 0x3F) ||| BitVec.ofNat 32 keep)

/-! Switches (R336 to R339). -/

/-- A source is permitted for an island (R331). -/
def srcPermitted (n c : Nat) : Bool := c == 0 || (if n = I.BLA ∨ n = I.BLB ∨ n = I.TIM then c == 3 else c == 2)

/-- A carried write of SRC (R336). -/
def State.srcWrite (s : State) (q : Requester) (n : Nat) (v : Word) : State :=
  s.locked q (R.SYS_CLK_ISL n) fun s =>
    let c := v.toNat % 16
    let answer := fun (s : State) (r : Nat) => s.put (F.SYS_CLK_ISL_RESULT n) r
    if s.bit (F.SYS_CLK_ISL_SWITCHING n) then answer s 3
    else if !srcPermitted n c then answer s 1
    else if !s.srcGood c then answer s 2
    else
      let s := (answer s 0).put (F.SYS_CLK_ISL_SRC n) c
      let s := s.modPwr fun p => { p with waitSrc := p.waitSrc.filter fun k => k != n }
      if s.powered n then s.switchTo n c else s

/-- The new source of a switch that runs. -/
def State.switchTarget (s : State) (n : Nat) : Option Nat := (s.pwr.swTo.find? fun (e : Nat × Nat) => e.1 == n).map fun e => e.2

/-- A DVFS island back on PLL_SYS takes the frequency that waits for it (R343). -/
def State.freqOnSwitch (s : State) (n c : Nat) : State :=
  match dvfsOf n with
  | some f =>
    let d := s.dvfs f
    if c = 2 && d.fPend && (s.get (F.SYS_PWR_DVFSSTAT_CUR_V f) == d.vset || decide (d.fsel < s.get (F.SYS_PWR_DVFSSTAT_CUR_F f))) then
      (s.put (F.SYS_PWR_DVFSSTAT_CUR_F f) d.fsel).setDvfs f { d with fPend := false }
    else s
  | none => s

/-- The island runs on its new source (R336). The PCIe link stops with a fall of HBR to the IRO (R338). -/
def State.switchEnd (s : State) (n c : Nat) : State :=
  let s := s.modPwr fun p => { p with swTo := p.swTo.filter fun (e : Nat × Nat) => e.1 != n }
  let s := ((s.putB (F.SYS_CLK_ISL_SWITCHING n) false).put (F.SYS_CLK_ISL_CUR n) c).raise P.SYS_CLK 5
  let s := if n = I.HBR ∧ c = 0 ∧ s.bit F.HBR_CTRL_LINK_UP then s.endpointReset .linkDown else s
  s.freqOnSwitch n c

/-- A switch ends; an island whose source became good meanwhile, or whose new source has failed, switches on (R338). -/
def State.switchDone (s : State) (n : Nat) : State :=
  match s.switchTarget n with
  | some c =>
    let s := s.switchEnd n c
    if s.srcGood c then s else s.switchTo n 0
  | none => s

/-- A forced switch (R337): the old source counts as failed. -/
def State.forcedSwitch (s : State) (n : Nat) : State :=
  match s.switchTarget n with
  | some c =>
    let old := s.curSrc n
    let rel := s.released old
    let s := s.switchEnd n c
    let s := if rel then (s.satInc F.SYS_CLK_LOSS_FORCED_CNT).raise P.SYS_CLK 1 else s
    s.srcFail old true
  | none => s

/-- Crossing words into an island are discarded (R339). -/
def State.xdrop (s : State) (n count : Nat) : State :=
  if !s.pwr.sysOn || count = 0 then s
  else
    let s := ((s.satAdd F.SYS_PWR_XDROP_CNT count).put F.SYS_PWR_XDROP_LAST_ISL n).raise P.SYS_PWR 5
    s.post 0x0017 2 (subject 2 n) (beBytes 2 (min count 0xFFFF))

/-! Gates (R340, R341). -/

/-- A gate closes: the block acts as with EN = 0. -/
def State.gated (s : State) (pg : Nat) : State :=
  if !s.pwr.gateReq.contains pg then s
  else
    let s := (s.modPwr fun p => { p with gateReq := p.gateReq.filter fun a => a != pg }).putB (F.PG_STAT_GATED pg) true
    if pg = P.TWN_XCHK then s.putB F.TWN_XCHK_STAT_RUNNING s.xRunning else s

/-- The bus was not idle in time: the gate request is refused. -/
def State.gateRefused (s : State) (pg : Nat) : State :=
  if !s.pwr.gateReq.contains pg then s
  else
    let s := s.modPwr fun p => { p with gateReq := p.gateReq.filter fun a => a != pg }
    (s.putB (F.PG_CTRL_CLKREQ pg) true).raise pg 27

/-! Operating points (R342 to R344). -/

/-- The least voltage for a frequency, in units of 5 mV; none: not permitted. -/
def dvfsMin (f fsel : Nat) : Option Nat :=
  match fsel with
  | 0 => some 144
  | 1 => some 160
  | 2 => if f = 2 then some 168 else some 176
  | _ => if f = 2 then some 176 else none

/-- A pair lies within the limit table. -/
def dvfsOk (f fsel vset : Nat) : Bool :=
  match dvfsMin f fsel with
  | some m => decide (m ≤ vset) && decide (140 ≤ vset) && decide (vset ≤ 180)
  | none => false

/-- A request for an operating point. -/
def State.dvfsRequest (s : State) (f fsel vset : Nat) : State :=
  let n := dvfsIsland f
  let answer := fun (s : State) (r : Nat) => s.put (F.SYS_PWR_DVFSSTAT_RESULT f) r
  if s.bit (F.SYS_PWR_DVFSSTAT_BUSY f) then answer s 2
  else if s.seqPhase n ≠ 0 ∧ s.seqPhase n ≠ 2 then answer s 4
  else if !dvfsOk f fsel vset then (answer s 1).raise P.SYS_PWR 4
  else
    let change := fsel != s.get (F.SYS_PWR_DVFSSTAT_CUR_F f)
    let s := s.setDvfs f ⟨fsel, vset, change⟩
    if s.seqPhase n = 0 then answer s 3
    else
      let s := (answer s 0).putB (F.SYS_PWR_DVFSSTAT_BUSY f) true
      if s.curSrc n = 0 then s.put (F.SYS_PWR_DVFSSTAT_CUR_V f) vset else s

/-- A carried write of SYS_PWR_DVFSf. -/
def State.dvfsWrite (s : State) (q : Requester) (f : Nat) (v : Word) : State :=
  s.locked q (R.SYS_PWR_DVFS f) fun s =>
    let s := s.wr (R.SYS_PWR_DVFS f) (v &&& 0x000300FF)
    if v.getLsbD 31 then s.dvfsRequest f (v.toNat / 2 ^ 16 % 4) (v.toNat % 256) else s

/-- The divider moves (R343): after the voltage when the frequency rises. It waits while the island switches source. -/
def State.dvfsFreq (s : State) (f : Nat) : State :=
  let d := s.dvfs f
  let n := dvfsIsland f
  if !s.bit (F.SYS_PWR_DVFSSTAT_BUSY f) || !d.fPend || s.bit (F.SYS_CLK_ISL_SWITCHING n) || s.curSrc n == 0 then s
  else
    let s := if s.get (F.SYS_PWR_DVFSSTAT_CUR_F f) < d.fsel then s.put (F.SYS_PWR_DVFSSTAT_CUR_V f) d.vset else s
    (s.put (F.SYS_PWR_DVFSSTAT_CUR_F f) d.fsel).setDvfs f { d with fPend := false }

/-- The last settle ends (R343). -/
def State.dvfsDone (s : State) (f : Nat) : State :=
  let d := s.dvfs f
  if !s.bit (F.SYS_PWR_DVFSSTAT_BUSY f) || (d.fPend && s.curSrc (dvfsIsland f) != 0) then s
  else ((s.put (F.SYS_PWR_DVFSSTAT_CUR_V f) d.vset).putB (F.SYS_PWR_DVFSSTAT_BUSY f) false).raise P.SYS_PWR 3

/-! The commands. -/

def execXoQual (s : State) : Host.Outcome State Fault Refusal := .next s.xoQual
def execXoFail (s : State) : Host.Outcome State Fault Refusal := .next s.xoFail

/-- SOURCE_FAILURE (R334): a monitor judges a source failed. -/
def execSourceFailure (src : Nat) (s : State) : Host.Outcome State Fault Refusal := .next (s.srcFail src false)

/-- SRC_LOSS (R335): a released source fails. -/
def execSrcLoss (src : Nat) (s : State) : Host.Outcome State Fault Refusal := .next (s.srcFail src false)

def execLineHold (s : State) : Host.Outcome State Fault Refusal := .next s.lineHold
def execLineRefChg (ref : Nat) (near : Bool) (s : State) : Host.Outcome State Fault Refusal := .next (s.lineRefChg ref near)
def execPllLineLock (ofs : Int) (s : State) : Host.Outcome State Fault Refusal := .next (s.lineLocked ofs)

/-- RELEASE_WRITE (R335): a write of SYS_SRC_RELEASE. -/
def execReleaseWrite (q : Requester) (v : Word) (s : State) : Host.Outcome State Fault Refusal :=
  .next (s.carry q R.SYS_SRC_RELEASE v fun s => s.releaseWrite q v)

/-- SRC_WRITE (R336): a write of SYS_CLK_ISLn. -/
def execSrcWrite (q : Requester) (isl : Nat) (v : Word) (s : State) : Host.Outcome State Fault Refusal :=
  .next (s.carry q (R.SYS_CLK_ISL (isl % 17)) v fun s => s.srcWrite q (isl % 17) v)

def execSwitchDone (isl : Nat) (s : State) : Host.Outcome State Fault Refusal := .next (s.switchDone isl)
def execForced (isl : Nat) (s : State) : Host.Outcome State Fault Refusal := .next (s.forcedSwitch isl)
def execXdrop (isl count : Nat) (s : State) : Host.Outcome State Fault Refusal := .next (s.xdrop isl count)
def execGated (pg : Nat) (s : State) : Host.Outcome State Fault Refusal := .next (s.gated (pageOf pg))
def execGateRefused (pg : Nat) (s : State) : Host.Outcome State Fault Refusal := .next (s.gateRefused (pageOf pg))

/-- DVFS_REQUEST (R342): a write of SYS_PWR_DVFSf. -/
def execDvfsRequest (q : Requester) (f : Nat) (v : Word) (s : State) : Host.Outcome State Fault Refusal :=
  .next (s.carry q (R.SYS_PWR_DVFS (f % 3)) v fun s => s.dvfsWrite q (f % 3) v)

def execDvfsFreqStep (f : Nat) (s : State) : Host.Outcome State Fault Refusal := .next (s.dvfsFreq (f % 3))
def execDvfsDone (f : Nat) (s : State) : Host.Outcome State Fault Refusal := .next (s.dvfsDone (f % 3))
def execSourceGood (src : Nat) (s : State) : Host.Outcome State Fault Refusal := .next (s.sourceGood src)

end Sys2Proof.Machine
end

