-- ==== Sys2Proof/Machine/Power.lean ====
section
/-!
DEFINITION. The power commands: island sequences, starts, module resets (R345 to R359), nightfall, darkness and waking (R312 to R316).
-/

namespace Sys2Proof.Machine

/-! Requests (R347, R348). -/

/-- BIST_ACTIVE stands in a page of the island. -/
def State.bistActive (s : State) (n : Nat) : Bool := (pagesOf n).any fun pg => s.bit (F.PG_STAT_BIST_ACTIVE pg)

/-- An island that is on, or on its way, starts to power down. -/
def State.startDown (s : State) (n : Nat) : State := (s.islandOff n).setSeq n 3 1

/-- The direction of a running sequence is to change at its next step boundary, or no longer. -/
def State.setReverse (s : State) (n : Nat) (on : Bool) : State :=
  s.modPwr fun p => { p with reverse := (if on then [n] else []) ++ p.reverse.filter fun k => k != n }

/-- The result of a request to switch an island: 0 accepted, or why it is refused. -/
def State.powerResult (s : State) (n : Nat) (on : Bool) : Nat :=
  if n = 0 then 1
  else if 16 < n then 4
  else if s.seqPhase n = (if on then 2 else 0) then 2
  else if !on && s.bistActive n then 3
  else 0

/-- Carry out an accepted request; during nightfall, which no request stops, it changes nothing. -/
def State.powerDo (s : State) (n : Nat) (on : Bool) : State :=
  if s.wake.power = .nightfall then s
  else match s.seqPhase n, on with
  | 0, true => s.queueUp n
  | 1, true => s.setReverse n false
  | 1, false => s.setReverse n true
  | 2, false => s.startDown n
  | 3, true => s.setReverse n true
  | 3, false => s.setReverse n false
  | 4, false => (s.setSeq n 0 0).modPwr fun p => { p with waitQ := p.waitQ.filter fun k => k != n }
  | _, _ => s

/-- A request of SYS_PWR_CMD or of OFFREQ. -/
def State.powerRequest (s : State) (n : Nat) (on viaPg : Bool) : State :=
  let r := s.powerResult n on
  let s := ((s.put F.SYS_PWR_RESULT_RESULT r).put F.SYS_PWR_RESULT_ISL n).putB F.SYS_PWR_RESULT_VIA_PG viaPg
  if r = 0 then s.powerDo n on else s.raise P.SYS_PWR 1

/-- A carried write of SYS_PWR_CMD. -/
def State.pwrCmdWrite (s : State) (q : Requester) (v : Word) : State :=
  s.locked q R.SYS_PWR_CMD fun s =>
    let s := s.wr R.SYS_PWR_CMD (v &&& 0x1F)
    let n := v.toNat % 32
    match v.toNat / 2 ^ 30 with
    | 0 => s
    | 1 => s.powerRequest n true false
    | 2 => s.powerRequest n false false
    | _ => (((s.put F.SYS_PWR_RESULT_RESULT 4).put F.SYS_PWR_RESULT_ISL n).putB F.SYS_PWR_RESULT_VIA_PG false).raise P.SYS_PWR 1

/-! Sequences (R345, R346, R348). -/

/-- A reversal takes effect: from a power-down, from U3 while the switch is closed and from U1 otherwise; from a power-up, from D1. -/
def State.doReverse (s : State) (n : Nat) : State :=
  let s := ((s.setReverse n false).satInc (F.SYS_PWR_SEQ_RESTARTS n)).raise P.SYS_PWR 2
  if s.seqPhase n = 1 then s.setSeq n 3 1
  else if s.seqStep n ≤ 4 then (s.setSeq n 1 3).dvfsUp n
  else (s.setSeq n 4 0).modPwr fun p => { p with waitQ := p.waitQ ++ [n] }

/-- A step boundary: the reversal that waits, or `f`. -/
def State.boundary (s : State) (n : Nat) (f : State → State) : State :=
  if s.pwr.reverse.contains n then s.doReverse n else f s

/-- Both line bypasses have closed: what R312 waits for before the islands beyond CBL and CBH go off. -/
def State.linesShut (s : State) : Bool :=
  decide (s.lineA.seq = .idle) && decide (s.lineB.seq = .idle) && !s.lineOpen .a && !s.lineOpen .b

/-- A step of a power-down starts. Step 1 is nightfall's: the next island of R349. -/
def State.powerDownStep (s : State) (n step : Nat) : State :=
  if step = 1 then
    if s.pwr.downQ.head? == some n && decide (s.seqPhase n ≠ 3) && (n == I.CBL || n == I.CBH || s.linesShut) then s.startDown n else s
  else if s.seqPhase n = 3 ∧ s.seqStep n + 1 = step ∧ step ≤ 6 then s.boundary n fun s => s.setSeq n 3 step
  else s

/-- Islands that are already off leave nightfall's list. -/
def skipOff (s : State) : List Nat → List Nat
  | [] => []
  | n :: r => if s.seqPhase n = 0 then skipOff s r else n :: r

/-- Step D6 ends. -/
def State.powerDownDone (s : State) (n : Nat) : State :=
  if s.seqPhase n ≠ 3 ∨ s.seqStep n ≠ 6 then s
  else s.boundary n fun s =>
    let s := (s.setSeq n 0 0).raise P.SYS_PWR 0
    (s.modPwr fun p => { p with downQ := skipOff s p.downQ }).pairNext

/-- Islands in step U1. -/
def State.inU1 (s : State) : Nat := ((List.range 17).filter fun n => s.seqPhase n == 1 && s.seqStep n == 1).length

/-- A step of a power-up starts: U1 in the order of the requests, two islands at a time. The repair copy is filled before. -/
def State.powerUpStep (s : State) (n step : Nat) : State :=
  if step = 1 then
    if s.pwr.waitQ.head? == some n && decide (s.inU1 < 2) then
      let s := if s.pwr.fillDue then s.repairFill else s
      ((s.modPwr fun p => { p with waitQ := p.waitQ.drop 1 }).setSeq n 1 1).dvfsUp n
    else s
  else if s.seqPhase n = 1 ∧ s.seqStep n + 1 = step ∧ step ≤ 7 then s.boundary n fun s => s.setSeq n 1 step
  else s

/-- Step U7 ends. -/
def State.powerUpDone (s : State) (n : Nat) : State :=
  if s.seqPhase n ≠ 1 ∨ s.seqStep n ≠ 7 then s
  else s.boundary n fun s =>
    let s := ((s.setSeq n 2 0).satInc (F.SYS_PWR_SEQ_UPS n)).raise P.SYS_PWR 0
    (s.islandOn n).pairNext

/-! Starts (R350, R351). -/

/-- The always-on part is powered. -/
def State.aon (s : State) : Bool := s.wake.power != .off

/-- The always-on pages return to their reset values (R354). -/
def State.aonReset (s : State) : State :=
  let s := s.clearRegs fun a => decide (a / 4096 = 0 ∨ a / 4096 = 3 ∨ a / 4096 = 4 ∨ a / 4096 = 5)
  { s with wake := .reset, din := [], pwr := .off, lineA := .reset, lineB := .reset }

/-- The always-on supply rises (R350): an always-on reset, and a cold start. -/
def State.coldStart (s : State) : State :=
  if s.aon then s else (s.aonReset.putB F.SYS_WAKE_STAT_KA_OK true).startBegin 1

/-- The main input rises (R350): a supply start, unless a start already waits for it or the module is DARK. -/
def State.supplyStart (s : State) : State :=
  if !s.aon || s.wake.power == .dark || s.pwr.sysOn || s.pwr.starting then s
  else (s.satInc F.SYS_RST_CNT_SUPPLY).startBegin 2

/-- The main input has been too low for 100 µs (R351). A nightfall ends too: the node counts as awake without supply. -/
def State.supplyLoss (s : State) : State :=
  if !s.pwr.sysOn && !s.pwr.starting then s
  else
    let s := if s.wake.power = .nightfall then s.endDusk else s
    s.powerLost.modWake fun w => { w with power := .awake, kaHold := false, pulseDue := false }

/-- Both supplies are gone (R350): everything but flash and OTP is lost. -/
def State.aonLoss (s : State) : State := s.powerLost.aonReset.modWake fun w => { w with power := .off }

/-! Module resets (R355 to R359). -/

def State.nresetIn (s : State) : State :=
  if !s.aon || s.wake.power == .dark then s else (s.modPwr fun p => { p with pin := true }).moduleReset 4 0

def State.thermalReset (s : State) : State :=
  if !s.aon || s.wake.power == .dark then s
  else (s.modPwr fun p => { p with hot := true, thermal := true }).moduleReset 7 0

/-- What held a module reset has ended. -/
def State.endHold (s : State) (cause : Nat) : State := if s.pwr.holds = cause then s.releaseReset else s

/-- A write of SYS_RST_CMD (R355, R357): it acts only with the key while the page is unlocked for the requester. -/
def State.rstCmd (s : State) (q : Requester) (v : Word) : State :=
  if v.toNat / 65536 ≠ 0xB007 then s.lockViol q R.SYS_RST_CMD
  else s.locked q R.SYS_RST_CMD fun s =>
    let s := if v.getLsbD 1 then s.modPwr fun p => { p with clrSafe := true } else s
    if v.getLsbD 0 then s.moduleReset 6 0 else s

/-- The TWIN_POS pin changes after it was sampled (R359). -/
def State.strapChg (s : State) (pin : Bool) : State :=
  if !s.aon then s
  else
    let differs := pin != s.bit F.SYS_RST_STAT_TPOS
    let was := s.bit F.SYS_RST_STAT_TPOS_PIN
    let s := s.putB F.SYS_RST_STAT_TPOS_PIN differs
    if differs && !was then s.raise P.SYS_RST 3 else s

/-! Nightfall (R312 to R314, R349). -/

/-- The order in which nightfall switches the islands off: CBL and CBH in its step 2, then that of R349: SGW, CPA, CPB, HBR, PSC,
REC, HLT, TIM, TWN, MGT, BLA, BLB, FAB, TOP. -/
def nightOrder : List Nat := [7, 8, 6, 4, 5, 11, 12, 14, 15, 9, 10, 13, 1, 2, 3, 16]

/-- The late latch is settled: a veto without CANCEL, an armed wake input that is active (`canWake`: the active CANn_WAKE inputs). -/
def State.settleLate (s : State) (canWake : Nat) : State :=
  let s := match s.wake.veto, s.wake.late with
    | some v, none => s.latchLate v.1
    | _, _ => s
  let sw := s.bit F.SYS_WAKE_ARM_SW_ARM && (s.bit (F.SYS_DIN_STAT_PIN 0) != s.bit (F.SYS_DIN_CFG_POL 0)) && !s.bit (F.SYS_DIN_STAT_STUCK 0)
  let s := if sw && s.wake.late.isNone then s.latchLate 1 else s
  let can := s.bit F.SYS_WAKE_ARM_CAN_ARM && decide (canWake &&& s.get F.SYS_WAKE_CAN_CWARM ≠ 0)
  let s := if can && s.wake.late.isNone then s.latchLate 5 else s
  let active := ((List.range 16).filter fun n => canWake.testBit n) ++
    (if s.bit (F.SYS_DIN_STAT_PIN 0) != s.bit (F.SYS_DIN_CFG_POL 0) then [16] else [])
  s.modWake fun w => { w with blocked := active, latch := [], minDark := false }

/-- Nightfall starts at the boundary of cycle N (R312); with KA_OK = 0 it is refused (R314). -/
def State.nightfallStart (s : State) (canWake : Nat) : State :=
  let s := s.settleLate canWake
  if !s.bit F.SYS_WAKE_STAT_KA_OK then
    let s := (s.wr R.SYS_WAKE_CAUSE (BitVec.ofNat 32 (6 * 2 ^ 28 + s.duskId % 65536))).raise P.SYS_WAKE 6
    let s := s.modWake fun w => { w with kaHold := true }
    s.modPwr fun p => { p with downQ := skipOff s [7, 8] }
  else
    let s := if s.bit F.HBR_CTRL_LINK_UP then s.endpointReset .linkDown else s
    let s := (s.startClose .a .nightfall).startClose .b .nightfall
    let s := s.modWake fun w => { w with power := .nightfall }
    let waiting := (List.range 17).filter fun n => s.seqPhase n == 4
    let s := waiting.foldl (fun s n => s.setSeq n 0 0) s
    s.modPwr fun p => { p with upPairs := [], waitQ := [], reverse := [], pend := [], downQ := skipOff s nightOrder }

/-- Nightfall completes (R312): every island is off, the switched part of SYS goes off, the node is DARK. -/
def State.dark (s : State) : State :=
  if s.wake.power ≠ .nightfall ∨ !((List.range 17).all fun n => n == 0 || s.seqPhase n == 0) ∨ !s.linesShut then s
  else ((s.resetAll.modPwr fun p => { p with sysOn := false }).bootRegsReset).modWake fun w => { w with power := .dark }

/-- The rank of a wake source in R316: the late latch first. -/
def latchFirst (l : List WakeLatch) (src : Nat) : Option WakeLatch := l.find? fun w => w.src == src

/-- The node leaves DARK (R316). -/
def State.wakeUp (s : State) : State :=
  let late := s.wake.late
  let first : Option WakeLatch := match late with
    | some _ => some ⟨1, 0⟩
    | none => [2, 3, 4, 5].findSome? fun k => latchFirst s.wake.latch k
  match first with
  | none => s
  | some w =>
    let s := s.wr R.SYS_WAKE_CAUSE (BitVec.ofNat 32 (w.src * 2 ^ 28 + (late.getD 0) % 16 * 2 ^ 24 +
      (if w.src = 3 then w.chan % 16 else 0) * 2 ^ 20 + s.duskId % 65536))
    let s := (s.satInc F.SYS_WAKE_CNT_DARKS).raise P.SYS_WAKE 7
    let pulse := w.src == 1 || (w.src == 2 && s.bit F.SYS_WAKE_ARM_SW_PULSE) || (w.src == 3 && s.bit F.SYS_WAKE_ARM_CAN_PULSE)
    let origin := match late with
      | some o => o
      | none => if w.src = 2 then 1 else 5
    let s := s.endDusk.modWake fun k => { k with
      power := .dawn, latch := [], minDark := false, pulseDue := pulse, dawnDue := if pulse then some origin else none,
      cancelTx := none, dawnTx := none, seen := [], inj := [] }
    s.startBegin 3

/-- The node wakes if it is DARK, the minimum dark time has ended and a request is latched (R313). -/
def State.tryWake (s : State) : State := if s.wake.power = .dark ∧ s.wake.minDark then s.wakeUp else s

/-- The minimum dark time ends (R313); where nightfall was refused, a dawn pulse is relayed, the dusk ends, and CBL and CBH come on
again (R314). -/
def State.minDarkEnd (s : State) : State :=
  if s.wake.kaHold then
    let s := ((s.modWake fun w => { w with kaHold := false }).relayDawn).endDusk
    let s := s.modPwr fun p => { p with downQ := [] }
    (s.powerDo I.CBL true).powerDo I.CBH true
  else if s.asleep then (s.modWake fun w => { w with minDark := true }).tryWake
  else s

/-- A wake source is armed (R315): 2 WAKE_SW, 3 CANn_WAKE, 4 line A, 5 line B. The line detectors are armed in DARK only. -/
def State.wakeArmed (s : State) (src chan : Nat) : Bool :=
  match src with
  | 2 => s.bit F.SYS_WAKE_ARM_SW_ARM && !s.wake.blocked.contains 16 && !s.bit (F.SYS_DIN_STAT_STUCK 0)
  | 3 => s.bit F.SYS_WAKE_ARM_CAN_ARM && (s.get F.SYS_WAKE_CAN_CWARM).testBit chan && !s.wake.blocked.contains chan
  | 4 => s.bit F.SYS_WAKE_ARM_LA_ARM && decide (s.wake.power = .dark)
  | 5 => s.bit F.SYS_WAKE_ARM_LB_ARM && decide (s.wake.power = .dark)
  | _ => false

/-- A wake source acts (R312, R316): it is latched, and wakes the node once the minimum dark time has ended. -/
def State.wakeSource (s : State) (src chan : Nat) : State :=
  if (s.wake.power ≠ .nightfall ∧ s.wake.power ≠ .dark) ∨ !s.wakeArmed src (chan % 16) then s
  else (s.modWake fun w => { w with latch := w.latch ++ [⟨src, chan % 16⟩] }).tryWake

/-- The woken node injects its dawn pulse at its closed bypasses (R316, R317). -/
def State.dawnPulse (s : State) : State :=
  if !s.wake.pulseDue || !(s.pwr.starting || s.pwr.sysOn) then s
  else
    let s := s.modWake fun w => { w with pulseDue := false }
    [Line.a, Line.b].foldl (fun s l => (s.satInc F.SYS_WAKE_SEG_PULSE_TX).emit (.pulse l none)) s

/-- A wake input goes inactive (R315): it can act again, and a STUCK mask of WAKE_SW (input 16) clears. -/
def State.wakeInputInactive (s : State) (input : Nat) : State :=
  if !s.asleep then s
  else
    let s := s.modWake fun w => { w with blocked := w.blocked.filter fun k => k != input }
    if input = 16 then s.putB (F.SYS_DIN_STAT_STUCK 0) false else s

/-! The commands. -/

def execIslandPowerDown (isl step : Nat) (s : State) : Host.Outcome State Fault Refusal := .next (s.powerDownStep isl step)
def execIslandPowerDownDone (isl : Nat) (s : State) : Host.Outcome State Fault Refusal := .next (s.powerDownDone isl)
def execIslandPowerUpStart (isl step : Nat) (s : State) : Host.Outcome State Fault Refusal := .next (s.powerUpStep isl step)
def execIslandPowerUpDone (isl : Nat) (s : State) : Host.Outcome State Fault Refusal := .next (s.powerUpDone isl)
def execColdStart (s : State) : Host.Outcome State Fault Refusal := .next s.coldStart
def execSupplyStart (s : State) : Host.Outcome State Fault Refusal := .next s.supplyStart
def execSupplyLoss (s : State) : Host.Outcome State Fault Refusal := .next s.supplyLoss
def execAlwaysOnSupplyLoss (s : State) : Host.Outcome State Fault Refusal := .next s.aonLoss
def execPowerOnResetRelease (tpos : Bool) (s : State) : Host.Outcome State Fault Refusal := .next (s.powerOnRelease tpos)
def execNresetIn (s : State) : Host.Outcome State Fault Refusal := .next s.nresetIn

/-- NRESET_IN_RELEASE (R355): the pin no longer holds a module reset. -/
def execNresetInRelease (s : State) : Host.Outcome State Fault Refusal :=
  .next ((s.modPwr fun p => { p with pin := false }).endHold 4)

def execThermalReset (s : State) : Host.Outcome State Fault Refusal := .next s.thermalReset

/-- THERMAL_RESET_RELEASE (R355): the temperature no longer holds a module reset. -/
def execThermalResetRelease (s : State) : Host.Outcome State Fault Refusal :=
  .next ((s.modPwr fun p => { p with hot := false }).endHold 7)

def execRailFault (s : State) : Host.Outcome State Fault Refusal := .next (s.moduleReset 8 0)

/-- SOFTWARE_RESET (R355): a write of SYS_RST_CMD. -/
def execSoftwareReset (q : Requester) (v : Word) (s : State) : Host.Outcome State Fault Refusal :=
  .next (s.carry q R.SYS_RST_CMD v fun s => s.rstCmd q v)

/-- CLR_SAFE (R357): a write of SYS_RST_CMD. -/
def execClrSafe (q : Requester) (v : Word) (s : State) : Host.Outcome State Fault Refusal :=
  .next (s.carry q R.SYS_RST_CMD v fun s => s.rstCmd q v)

/-- MODULE_RESET_WINDOW_SLIDE (R357): a module reset leaves the window. -/
def execModuleResetWindowSlide (s : State) : Host.Outcome State Fault Refusal :=
  .next (s.put F.SYS_RST_CNT_WINDOW (s.get F.SYS_RST_CNT_WINDOW - 1))

def execStrapChg (pin : Bool) (s : State) : Host.Outcome State Fault Refusal := .next (s.strapChg pin)
def execDark (s : State) : Host.Outcome State Fault Refusal := .next s.dark
def execMinDarkTimeEnd (s : State) : Host.Outcome State Fault Refusal := .next s.minDarkEnd
def execWakeSource (src chan : Nat) (s : State) : Host.Outcome State Fault Refusal := .next (s.wakeSource src chan)
def execDawnPulseInject (s : State) : Host.Outcome State Fault Refusal := .next s.dawnPulse
def execWakeInputInactive (input : Nat) (s : State) : Host.Outcome State Fault Refusal := .next (s.wakeInputInactive input)

end Sys2Proof.Machine
end

