-- ==== Sys2Proof/Machine/Image.lean ====
section
/-!
DEFINITION. Images and policy tables: header, signature, sections and their validation (R362, R372 to R381).
-/

namespace Sys2Proof.Machine

/-! Headers (R372). -/

/-- Where a slot lies: bank 0 (A) or 1 (B), KIND 1 (firmware) or 2 (configuration image). -/
def imgSlot (bank kind : Nat) : Nat := bank % 2 * 0x2000000 + (if kind = 2 then 0x800000 else 0)

/-- The size of a slot. -/
def slotSize : Nat := 0x800000

/-- The image header at a flash address. -/
def State.header (s : State) (a : Nat) : List Byte := s.flashBytes a 256

/-- A field of a header. -/
def hdrNum (h : List Byte) (off n : Nat) : Nat := ofBytes (bytesAt h off n)

def hdrGen (h : List Byte) : Nat := hdrNum h 8 4
def hdrSvn (h : List Byte) : Nat := hdrNum h 12 4
def hdrLen (h : List Byte) : Nat := hdrNum h 16 4

/-- The header is one of an object of a KIND, whose body fits into `room` bytes. -/
def hdrIs (h : List Byte) (kind room : Nat) : Bool :=
  hdrNum h 0 4 == 0x4B4D5431 && hdrNum h 4 2 == 1 && hdrNum h 6 2 == kind && decide (hdrLen h + 256 ≤ room)

/-- MARK of a firmware header (R374): 0 TRIAL, 1 CONFIRMED, 2 RETIRED. -/
def hdrMark (h : List Byte) : Nat :=
  let m := hdrNum h 0xC0 4
  if m = 0xFFFFFFFF then 0 else if m = 0x0000FFFF then 1 else 2

/-- The image digest (R373). -/
def hdrDigest (h : List Byte) : List Byte := sha256 (h.take 0xC0)

/-- A signature checks (R373) against a key digest. -/
def signatureOk (h body key : List Byte) : Bool :=
  decide (sha256 (bytesAt h 0x40 64) = key) &&
  ecdsaOk (hdrNum h 0x40 32) (hdrNum h 0x60 32) (hdrNum h 0x80 32) (hdrNum h 0xA0 32) (h.take 0x80) &&
  decide (sha256 body = bytesAt h 0x20 32)

/-- The owner digest in force: one programmed before the last start (R376, R386). -/
def State.ownerDigest (s : State) : Option (List Byte) := if s.bit F.SYS_RST_STAT_OWNER_KEY then s.nv.owner else none

/-- The outcome of a firmware image, coded as RES_A (R362): 1 verified, 3 none, 4 signature refused, 5 SVN too low, 7 read error. -/
def State.fwOutcome (s : State) (bank : Nat) (ue : Bool) : Nat :=
  let a := imgSlot bank 1
  let h := s.header a
  if ue then 7
  else if !hdrIs h 1 slotSize then 3
  else if !signatureOk h (s.flashBytes (a + 256) (hdrLen h)) (beBytes 32 Config.kloermastDigest.toNat) then 4
  else if hdrSvn h < s.nv.svnMin then 5
  else 1

/-! Sections (R377). -/

/-- A section: type, CRITICAL, version, data. -/
structure ImgSection where
  type : Nat
  critical : Bool
  ver : Nat
  data : List Byte
deriving DecidableEq, Repr

/-- The sections of a body; none: a section runs beyond its end. -/
def parseSections : Nat → List Byte → Option (List ImgSection)
  | 0, bs => if bs.isEmpty then some [] else none
  | n + 1, bs =>
    if bs.isEmpty then some []
    else
      let t := ofBytes (bytesAt bs 0 2)
      let len := ofBytes (bytesAt bs 4 4)
      let padded := (len + 7) / 8 * 8
      if bs.length < 8 ∨ bs.length < 8 + padded then none
      else match parseSections n (bs.drop (8 + padded)) with
        | some r => some (⟨t % 0x8000, decide (0x8000 ≤ t), ofBytes (bytesAt bs 2 2), (bs.drop 8).take len⟩ :: r)
        | none => none

/-- The sections of a body. -/
def sectionsOf (body : List Byte) : Option (List ImgSection) := parseSections (body.length / 8 + 1) body

/-- A number in a section's data. -/
def secNum (d : List Byte) (i n : Nat) : Nat := ofBytes (bytesAt d i n)

def inRange (lo hi n : Nat) : Bool := decide (lo ≤ n) && decide (n ≤ hi)

/-- A REG entry addresses an aligned register outside SYS_RST, SYS_WAKE and MGT (R378). -/
def regEntryOk (off : Nat) : Bool :=
  off % 4 == 0 && decide (off ≤ 0x10FFFF) && off / 4096 != 0 && off / 4096 != 3 && off / 65536 != I.MGT

/-- An access-list entry lies within R293. -/
def aclEntryOk (e : Nat) : Bool :=
  e / 2 ^ 61 % 4 != 3 && e / 2 ^ 48 % 2 ^ 11 == 0 && e / 2 ^ 41 % 2 ^ 7 == 0 && e / 2 ^ 25 % 2 ^ 7 == 0 && e / 2 ^ 9 % 2 ^ 7 == 0 &&
  (e / 2 ^ 59 % 4 == 1 || e / 2 ^ 59 % 4 == 2 || e / 2 ^ 32 % 2 ^ 9 == 0)

/-- A section of a known type is within its rules (R377, R378). -/
def sectionOk (t : Nat) (d : List Byte) : Bool :=
  let n := d.length
  match t with
  | 0x001 => n == 12
  | 0x002 => n == 12 && [0, 1, 2].all fun f =>
      let v := secNum d (4 * f) 4
      decide (v < 2 ^ 31) && dvfsOk f (v / 2 ^ 16 % 4) (v % 256)
  | 0x003 => n == 4
  | 0x004 => n == 12 && inRange 1 1000 (secNum d 4 2) && inRange 10 1000 (secNum d 6 2) && secNum d 8 1 != 0 && secNum d 9 1 != 0 &&
      secNum d 10 1 % 16 != 0 && secNum d 11 1 != 0
  | 0x005 => n % 8 == 0 && (List.range (n / 8)).all fun i => regEntryOk (secNum d (8 * i) 4)
  | 0x006 => n == 524 && inRange 10 500 (secNum d 4 2) && inRange 125 8000 (secNum d 6 2) && inRange 10 200 (secNum d 8 1) &&
      inRange 2 100 (secNum d 9 1) && secNum d 10 1 / 16 != 0 && inRange 16 64 (secNum d 11 1) &&
      (List.range 16).all fun i => decide (secNum d (12 + 32 * i + 16) 2 ≤ 16383) && decide (secNum d (12 + 32 * i + 18) 2 ≤ 16383)
  | 0x007 => n % 16 == 0 && decide (n / 16 ≤ 1024)
  | 0x008 => n == 256 && (List.range 32).all fun i => aclEntryOk (secNum d (8 * i) 8)
  | 0x009 => decide (8 ≤ n) && decide (secNum d 0 4 ≤ 65536) && decide (secNum d 4 2 ≤ 1024) && decide (secNum d 6 2 ≤ 1024) &&
      n == 8 + 16 * (secNum d 0 4 + secNum d 4 2 + secNum d 6 2)
  | 0x00A => n == 8 && (List.range 6).all fun i => decide (secNum d i 1 ≤ 100)
  | 0x00B => n == 16 && inRange 64 65535 (secNum d 2 2)
  | _ => false

/-- Section types that the module knows. -/
def knownSection (t : Nat) : Bool := decide (1 ≤ t) && decide (t ≤ 11)

/-- The first section that refuses the object (R378, R381): its type, or 0x7FFF where the body itself does not parse. `allowed`:
the known types that the object may hold. -/
def badSection (allowed : Nat → Bool) (body : List Byte) : Option Nat :=
  match sectionsOf body with
  | none => some 0x7FFF
  | some ss =>
    let bad := fun (x : ImgSection) =>
      if knownSection x.type then
        !allowed x.type || x.ver != 1 || !sectionOk x.type x.data || decide (1 < (ss.filter fun y => y.type == x.type).length)
      else x.critical
    (ss.find? bad).map fun x => x.type

/-- A configuration image's body is valid (R378). -/
def configValid (body : List Byte) : Bool :=
  (badSection (fun _ => true) body).isNone &&
  match sectionsOf body with
  | some ss => ss.any fun x => x.type == 1
  | none => false

/-- The data of a section of a body. -/
def sectionData (body : List Byte) (t : Nat) : Option (List Byte) :=
  match sectionsOf body with
  | some ss => (ss.find? fun x => x.type == t).map fun x => x.data
  | none => none

/-- The body of a bank's configuration image. -/
def State.cfgBody (s : State) (bank : Nat) : List Byte :=
  let a := imgSlot bank 2
  s.flashBytes (a + 256) (hdrLen (s.header a))

/-- The outcome of a configuration image: as `fwOutcome`, with 8 for a refused validation (R364, R378). A blank owner key refuses
every image. -/
def State.cfgOutcome (s : State) (bank : Nat) (ue : Bool) : Nat :=
  let h := s.header (imgSlot bank 2)
  if ue then 7
  else if !hdrIs h 2 slotSize then 3
  else match s.ownerDigest with
    | none => 4
    | some key => if !signatureOk h (s.cfgBody bank) key then 4 else if configValid (s.cfgBody bank) then 1 else 8

/-! MGT_IMG. -/

/-- GEN, MARK and SVN of a bank's firmware as flash holds it; MARK 3 without an image. -/
def State.showImage (s : State) (bank : Nat) : State :=
  let h := s.header (imgSlot bank 1)
  if hdrIs h 1 slotSize then
    ((s.wr (R.MGT_IMG_GEN bank) (BitVec.ofNat 32 (hdrGen h))).put (F.MGT_IMG_INFO_MARK bank) (hdrMark h)).put
      (F.MGT_IMG_INFO_SVN bank) (hdrSvn h)
  else ((s.wr (R.MGT_IMG_GEN bank) 0).put (F.MGT_IMG_INFO_MARK bank) 3).put (F.MGT_IMG_INFO_SVN bank) 0

/-- CFGD and CFGGEN of the applied configuration image (R373). -/
def State.showConfig (s : State) : State :=
  if s.bit F.SYS_RST_BOOT_CFG_OK then
    let h := s.header (imgSlot (s.get F.SYS_RST_BOOT_CFG_BANK) 2)
    (s.wr R.MGT_IMG_CFGD (BitVec.ofNat 32 (ofBytes ((hdrDigest h).drop 28)))).wr R.MGT_IMG_CFGGEN (BitVec.ofNat 32 (hdrGen h))
  else (s.wr R.MGT_IMG_CFGD 0).wr R.MGT_IMG_CFGGEN 0

end Sys2Proof.Machine
end

