-- ==== Sys2Proof/Machine/Mgt.lean ====
section
/-!
DEFINITION. The management pair: boot, watchdog, mailbox, updates, governor (R361 to R376, R383 to R392). What applies a
configuration image or a policy table stands with the page accesses.
-/

namespace Sys2Proof.Machine

/-! Resets of the pair (R367 to R371). -/

/-- The pair runs verified firmware. -/
def State.fwRuns (s : State) : Bool := s.isOn I.MGT && s.bit F.MGT_CTRL_STAT_RUN

/-- The boot ROM serves the recovery subset (R363). -/
def State.recovery (s : State) : Bool := s.isOn I.MGT && s.bit F.MGT_CTRL_STAT_RECOVERY

/-- MGT_MBOX and MGT_IMG show whether a reset of the pair runs (R369). -/
def State.mgtPages (s : State) (ready : Bool) : State :=
  [P.MGT_MBOX, P.MGT_IMG].foldl (fun s pg => (s.putB (F.PG_STAT_READY pg) ready).putB (F.PG_STAT_BUSY pg) (!ready)) s

/-- MGT resets within the last 60 s. -/
def State.mgtResets (s : State) : List Nat := s.mgt.resets.filter fun t => decide (s.mono < t + 60000000000)

/-- HOLD after the 5th MGT reset within 60 s (R371). -/
def State.mgtHold (s : State) : State :=
  let s := ((s.putB F.MGT_CTRL_STAT_HOLD true).raise P.MGT_CTRL 2).post 0x0D11 4 (subject 0 0) []
  (s.modMgt fun m => { m with booting := false }).hltReason I.MGT 17 true false

/-- An MGT reset (R369): cause 1 lockstep, 2 memory UE, 3 watchdog, 4 wrong KICK, 5 RESTART. -/
def State.mgtReset (s : State) (cause : Nat) : State :=
  let times := s.mgtResets ++ [s.mono]
  let s := (s.clearRegs fun a => decide (a / 4096 = P.MGT_MBOX / 4096 ∨ a / 4096 = P.MGT_IMG / 4096)).mgtPages false
  let s := s.modMgt fun m => { m with
    queue := [], rsps := [], img := none, shed := 0, policyGen := 0, gov := .reset, booting := true, resets := times,
    sleep := none, sections := m.sections.filter fun (e : Nat × List Byte) => e.1 != 0x00A && e.1 != 0x00B }
  let s := (s.putB F.MGT_CTRL_STAT_RUN false).putB F.MGT_CTRL_STAT_RECOVERY false
  let s := ((s.put F.MGT_CTRL_RST_CAUSE cause).satInc F.MGT_CTRL_RST_COUNT).put F.MGT_CTRL_RST_WINCNT (min 255 times.length)
  let s := s.putB F.SYS_RST_FAULT_RESET true
  let s := if cause ≤ 2 then s.raise P.MGT_CTRL 0 else if cause ≤ 4 then s.raise P.MGT_CTRL 1 else s
  let s := s.post 0x0D10 4 (subject 0 0) (beBytes 1 cause ++ beBytes 2 (s.get F.MGT_CTRL_RST_COUNT))
  if times.length = 5 then s.mgtHold else s

/-- A fault of the running pair (R367, R368): it resets, unless it is held or its boot has not ended. -/
def State.mgtFault (s : State) (cause : Nat) : State :=
  if !s.isOn I.MGT || s.bit F.MGT_CTRL_STAT_HOLD then s else s.mgtReset cause

/-- WDT_T in ns (R368): 0 acts as 1, and values above 100 act as 100. -/
def State.wdtNs (s : State) : Nat := max 1 (min 100 (s.get F.MGT_CTRL_WDT_WDT_T)) * 10000000

/-- The watchdog expires (R368): the running firmware has not written KICK for WDT_T. -/
def State.watchdog (s : State) : State := if !s.fwRuns || decide (s.mono < s.mgt.kicked + s.wdtNs) then s else s.mgtFault 3

/-- A carried write of MGT_CTRL_WDT (R368): firmware's alone. WDT_T is lockable; any KICK but 0xA5 expires the watchdog. -/
def State.wdtWrite (s : State) (q : Requester) (v : Word) : State :=
  s.firmwareOnly q R.MGT_CTRL_WDT fun s =>
    let s := s.locked q R.MGT_CTRL_WDT fun s => s.wr R.MGT_CTRL_WDT (v &&& 0x7F)
    if v.toNat / 2 ^ 24 = 0xA5 then s.modMgt fun m => { m with kicked := s.mono } else s.mgtFault 4

/-- A carried write of MGT_CTRL_CMD (R371): RESTART ends HOLD with one MGT reset. -/
def State.mgtCmd (s : State) (q : Requester) (v : Word) : State :=
  s.locked q R.MGT_CTRL_CMD fun s =>
    if v.getLsbD 0 && s.bit F.MGT_CTRL_STAT_HOLD then
      ((s.putB F.MGT_CTRL_STAT_HOLD false).hltReason I.MGT 17 false false).mgtReset 5
    else s

/-! Sections held in MGT memory (R377, R382, R391). -/

/-- The governor's budgets and thresholds of a GOV section. -/
def State.applyGov (s : State) (d : List Byte) : State :=
  s.modMgt fun m => { m with gov := { m.gov with b := (List.range 4).map fun i => secNum d i 1, high := secNum d 4 1, low := secNum d 5 1 } }

/-- The sleep policy of a SLEEP section. -/
def State.applySleep (s : State) (d : List Byte) : State := s.modMgt fun m => { m with sleep := some d }

/-- A section comes into force, for POLICY_READ (R385). -/
def State.noteSection (s : State) (t : Nat) (d : List Byte) : State :=
  s.modMgt fun m => { m with sections := (t, d) :: m.sections.filter fun (e : Nat × List Byte) => e.1 != t }

/-- After an MGT reset the policy table is gone: what MGT memory held is the applied configuration image's again (R370, R382). -/
def State.restorePolicy (s : State) : State :=
  if s.mgt.fresh || !s.bit F.SYS_RST_BOOT_CFG_OK then s
  else
    let body := s.cfgBody (s.get F.SYS_RST_BOOT_CFG_BANK)
    let s := match sectionData body 0x00A with
      | some d => (s.applyGov d).noteSection 0x00A d
      | none => s
    match sectionData body 0x00B with
      | some d => (s.applySleep d).noteSection 0x00B d
      | none => s

/-! Boot (R361 to R363, R370). -/

/-- Generation of a bank's firmware; an unreadable header counts as 0. -/
def State.bootGen (s : State) (b : Nat) (ue : List Nat) : Nat :=
  let h := s.header (imgSlot b 1)
  if ue.contains b || !hdrIs h 1 slotSize then 0 else hdrGen h

/-- A bank's firmware is marked trial (R374). -/
def State.markedTrial (s : State) (b : Nat) (ue : List Nat) : Bool :=
  let h := s.header (imgSlot b 1)
  !ue.contains b && hdrIs h 1 slotSize && hdrMark h != 1

/-- Try the banks in order: the results so far, and the bank that verifies. -/
def State.tryBanks (s : State) (named : Option Nat) (ue : List Nat) : List Nat → List (Nat × Nat) × Option Nat
  | [] => ([], none)
  | b :: r =>
    if s.markedTrial b ue && named != some b then
      let t := s.tryBanks named ue r
      ((b, 6) :: t.1, t.2)
    else
      let o := s.fwOutcome b (ue.contains b)
      if o = 1 then ([(b, 1)], some b)
      else
        let t := s.tryBanks named ue r
        ((b, o) :: t.1, t.2)

/-- The outcome of a bank in a list of results; 0 not tried. -/
def resultOf (rs : List (Nat × Nat)) (b : Nat) : Nat := ((rs.find? fun (e : Nat × Nat) => e.1 == b).map fun e => e.2).getD 0

/-- The boot ROM selects and verifies an image; `ue`: banks whose firmware is read with an uncorrected flash error. -/
def State.boot (s : State) (ue : List Nat) : State :=
  if !s.isOn I.MGT || !s.mgt.booting || s.bit F.MGT_CTRL_STAT_HOLD then s
  else
    let order := if s.bootGen 0 ue < s.bootGen 1 ue then [1, 0] else [0, 1]
    let once := s.bit F.SYS_RST_BOOT_ONCE_EN
    let ob := s.get F.SYS_RST_BOOT_ONCE_BANK
    let named := if once then some ob else none
    let order := if once then [ob, 1 - ob] else order
    let s := s.putB F.SYS_RST_BOOT_ONCE_EN false
    let t := s.tryBanks named ue order
    let s := (s.put F.SYS_RST_BOOT_RES_A (resultOf t.1 0)).put F.SYS_RST_BOOT_RES_B (resultOf t.1 1)
    let s := (s.modMgt fun m => { m with booting := false, kicked := s.mono }).mgtPages true
    match t.2 with
    | none => ((s.putB F.SYS_RST_BOOT_BOOT_FAIL true).raise P.SYS_RST 0).putB F.MGT_CTRL_STAT_RECOVERY true
    | some b =>
      let s := ((s.put F.SYS_RST_BOOT_FW_BANK b).putB F.SYS_RST_BOOT_BOOT_FAIL false).putB F.MGT_CTRL_STAT_RUN true
      let s := (s.putB F.SYS_RST_FAULT_RESET false).showConfig.restorePolicy
      let s := [0, 1].foldl (fun s k => (s.showImage k).put (F.MGT_IMG_INFO_FW_RES k) (resultOf t.1 k)) s
      if !s.mgt.fresh && s.bit F.SYS_RST_BOOT_CFG_OK && s.get F.SYS_RST_BOOT_CFG_BANK != b then s.moduleReset 6 0 else s

/-! The mailbox (R383, R384). -/

/-- The registers that show the queue and the head response. -/
def State.mboxShow (s : State) : State :=
  let s := (s.put F.MGT_MBOX_STAT_QUEUED s.mgt.queue.length).put F.MGT_MBOX_STAT_RSPQ s.mgt.rsps.length
  match s.mgt.rsps with
  | [] => (((s.wr R.MGT_MBOX_RSP0 0).wr (R.MGT_MBOX_RSP 1) 0).wr (R.MGT_MBOX_RSP 2) 0).wr (R.MGT_MBOX_RSP 3) 0
  | r :: _ =>
    let s := s.wr R.MGT_MBOX_RSP0 (BitVec.ofNat 32 (r.result * 2 ^ 24 + r.tag * 256 + r.code))
    [1, 2, 3].foldl (fun s k => s.wr (R.MGT_MBOX_RSP k) (r.res.getD (k - 1) 0)) s

/-- A response enters the response queue. -/
def State.pushRsp (s : State) (r : MboxRsp) : State := (s.modMgt fun m => { m with rsps := m.rsps ++ [r] }).mboxShow

/-- The limit of the queue (R383, R392). -/
def State.qlim (s : State) : Nat := max 1 (min 8 (s.get F.MGT_CTRL_GOV_QLIM))

/-- Send a remote-management response (R387): CODE, TAG, RESULT, reserved, RES0 to RES3, data. -/
def State.remoteSend (s : State) (node : Nat) (req : MboxReq) (result : Nat) (res : List Word) (data : List Byte) : State :=
  let words := (0 : Word) :: (List.range 3).map fun k => res.getD k 0
  let payload := beBytes 1 req.code ++ beBytes 1 req.tag ++ beBytes 1 result ++ [0] ++
    words.flatMap (fun w => beBytes 4 w.toNat) ++ data.take 1024
  let f := s.ownFrame 3 0 node 0x011 payload
  let s := s.seqUsed 3 0x011
  [Line.a, Line.b].foldl (fun s l =>
    if !s.lineOpen l || !s.isOn I.FAB then s
    else (s.exitPorts l 0 node).foldl (fun s x => s.enqueue 12 x.idx 5 (s.qframe (.native (nfOnLine f l)) 2 none)) s) s

/-- A request is not queued: RESULT 1, counted, REFUSED (R383). -/
def State.mboxBusy (s : State) (req : MboxReq) : State :=
  let s := (s.satInc F.MGT_MBOX_STAT_REFUSED).raise P.MGT_MBOX 1
  match req.from' with
  | some n => s.remoteSend n.1 req 1 [] []
  | none => if 16 ≤ s.mgt.rsps.length then s else (s.pushRsp ⟨1, req.tag, req.code, [0, 0, 0]⟩)

/-- A request is queued, or answered BUSY. -/
def State.mboxPush (s : State) (req : MboxReq) : State :=
  if s.qlim ≤ s.mgt.queue.length then s.mboxBusy req
  else (s.modMgt fun m => { m with queue := m.queue ++ [req] }).mboxShow

/-- A carried write of MGT_MBOX_CMD: a request with a copy of the arguments. -/
def State.mboxCmd (s : State) (v : Word) : State :=
  s.mboxPush ⟨v.toNat % 256, v.toNat / 256 % 256, (List.range 4).map fun k => s.rd (R.MGT_MBOX_ARG k), none, [], false⟩

/-- The data that a command reads: the data buffer, or that of a remote request. -/
def State.mboxData (s : State) (req : MboxReq) (n : Nat) : List Byte :=
  match req.from' with
  | some _ => bytesAt req.data 0 n
  | none => ((List.range ((n + 3) / 4)).flatMap fun k => beBytes 4 (s.rd (R.MGT_MBOX_DATA k)).toNat).take n

/-- Write the data buffer. -/
def State.mboxStore (s : State) (data : List Byte) : State :=
  (List.range ((data.length + 3) / 4)).foldl (fun s k => s.wr (R.MGT_MBOX_DATA k) (BitVec.ofNat 32 (ofBytes (bytesAt data (4 * k) 4)))) s

/-- The response to the head request, which leaves the queue. -/
def State.answer (s : State) (req : MboxReq) (result : Nat) (res : List Word) (data : List Byte) : State :=
  let s := s.modMgt fun m => { m with queue := m.queue.drop 1 }
  match req.from' with
  | some n => (s.remoteSend n.1 req result res data).mboxShow
  | none =>
    let s := if data.isEmpty then s else s.mboxStore data
    (s.pushRsp ⟨result, req.tag, req.code, (List.range 3).map fun k => res.getD k 0⟩).raise P.MGT_MBOX 0

/-- The commands of R385. -/
def mboxCodes : List Nat := [0x01, 0x02, 0x03, 0x10, 0x11, 0x12, 0x13, 0x14, 0x15, 0x16, 0x20, 0x30, 0x31]

/-- The recovery subset (R363, R385). -/
def recoveryCodes : List Nat := [0x01, 0x02, 0x10, 0x11, 0x12, 0x13, 0x14]

/-- Governor class 2 (R385). -/
def class2Codes : List Nat := [0x03, 0x13, 0x31]

/-- Commands that need read permission only (R387). -/
def remoteReads : List Nat := [0x01, 0x02, 0x03, 0x13, 0x31]

/-- A request answered with RESULT 8 (R392). -/
def State.shedAnswer (s : State) (req : MboxReq) : State :=
  ((s.modMgt fun m => { m with shed := m.shed + 1 }).satInc F.MGT_CTRL_GOV_SHED).answer req 8 [] []

/-- Firmware, or the boot ROM in recovery, serves the head request with command `code` by `f`; a head request of no command is
answered with RESULT 2. It waits while the response queue is full, and sheds as the governor says. -/
def State.serve (s : State) (code : Nat) (f : State → MboxReq → State) : State :=
  match s.mgt.queue with
  | [] => s
  | req :: _ =>
    if !(s.fwRuns || s.recovery) || (req.from'.isNone && decide (16 ≤ s.mgt.rsps.length)) then s
    else
      let known := if s.fwRuns then mboxCodes.contains req.code else recoveryCodes.contains req.code
      if !known then s.answer req 2 [] []
      else if req.code ≠ code then s
      else if s.get F.MGT_CTRL_STAT_LEVEL ≥ 1 ∧ req.from'.isSome then s.shedAnswer req
      else if s.get F.MGT_CTRL_STAT_LEVEL ≥ 2 ∧ class2Codes.contains code then s.shedAnswer req
      else f s req

/-- An argument of a request. -/
def MboxReq.arg (r : MboxReq) (k : Nat) : Nat := (r.args.getD k 0).toNat

/-- A carried write of MGT_MBOX_RACK (R384). -/
def State.mboxPop (s : State) (v : Word) : State :=
  if v.getLsbD 0 then (s.modMgt fun m => { m with rsps := m.rsps.drop 1 }).mboxShow else s

/-! Updates (R375, R385, R386, R390). -/

/-- The flash controller refuses to erase or program a slot (R375): those of the running firmware and the applied configuration,
but for MARK; in recovery none. -/
def State.slotProtected (s : State) (bank kind : Nat) : Bool :=
  s.fwRuns && ((kind == 1 && bank == s.get F.SYS_RST_BOOT_FW_BANK) ||
    (kind == 2 && s.bit F.SYS_RST_BOOT_CFG_OK && bank == s.get F.SYS_RST_BOOT_CFG_BANK))

/-- A refused erase or program: counted and recorded (R375). -/
def State.flashRefused (s : State) (bank kind : Nat) : State :=
  (s.modMgt fun m => { m with refused := m.refused + 1 }).post 0x0D12 3 (subject 0 0) (beBytes 1 bank ++ beBytes 4 (imgSlot bank kind % 0x2000000))

def State.imgBegin (s : State) (r : MboxReq) : State :=
  let bank := r.arg 0
  let kind := r.arg 1
  let len := r.arg 2
  if 1 < bank ∨ (kind ≠ 1 ∧ kind ≠ 2) ∨ len < 256 ∨ slotSize < len then s.answer r 3 [] []
  else if s.slotProtected bank kind then (s.flashRefused bank kind).answer r 4 [] []
  else
    let s := (s.flashErase (imgSlot bank kind) slotSize).modMgt fun m => { m with img := some ⟨bank, kind, len, []⟩ }
    let s := if kind = 1 then (s.showImage bank).put (F.MGT_IMG_INFO_FW_RES bank) 0 else s.put (F.MGT_IMG_INFO_CFG_RES bank) 0
    s.answer r 0 [] []

def State.imgWrite' (s : State) (r : MboxReq) : State :=
  let off := r.arg 0
  let n := r.arg 1
  match s.mgt.img with
  | none => s.answer r 7 [] []
  | some g =>
    let short := r.from'.isSome && decide (r.data.length < n)
    if off % 8 ≠ 0 ∨ n % 8 ≠ 0 ∨ n < 8 ∨ 2048 < n ∨ g.len < off + n ∨ short then s.answer r 3 [] []
    else if g.written.any fun (e : Nat × Nat) => decide (e.1 < off + n) && decide (off < e.1 + e.2) then s.answer r 3 [] []
    else if s.slotProtected g.bank g.kind then (s.flashRefused g.bank g.kind).answer r 4 [] []
    else
      let s := s.flashPut (imgSlot g.bank g.kind + off) (s.mboxData r n)
      (s.modMgt fun m => { m with img := some { g with written := (off, n) :: g.written } }).answer r 0 [] []

/-- IMG_END: `ue`: the slot is read with an uncorrected flash error. -/
def State.imgEnd (s : State) (ue : Bool) (r : MboxReq) : State :=
  match s.mgt.img with
  | none => s.answer r 7 [] []
  | some g =>
    let o := if g.kind = 1 then s.fwOutcome g.bank ue else s.cfgOutcome g.bank ue
    let h := s.header (imgSlot g.bank g.kind)
    let s := s.modMgt fun m => { m with img := none }
    let s := if g.kind = 1 then (s.showImage g.bank).put (F.MGT_IMG_INFO_FW_RES g.bank) o else s.put (F.MGT_IMG_INFO_CFG_RES g.bank) o
    let s := s.raise P.MGT_IMG (if o = 1 then 0 else 1)
    s.answer r (if o = 1 then 0 else 5) [BitVec.ofNat 32 o, if o = 3 ∨ o = 7 then 0 else BitVec.ofNat 32 (hdrGen h)] []

def State.imgInfo (s : State) (r : MboxReq) : State :=
  let bank := r.arg 0
  let kind := r.arg 1
  if 1 < bank ∨ (kind ≠ 1 ∧ kind ≠ 2) then s.answer r 3 [] []
  else
    let h := s.header (imgSlot bank kind)
    let here := hdrIs h kind slotSize
    let mark := if kind = 1 then s.get (F.MGT_IMG_INFO_MARK bank) else 3
    let o := if kind = 1 then s.get (F.MGT_IMG_INFO_FW_RES bank) else s.get (F.MGT_IMG_INFO_CFG_RES bank)
    s.answer r 0 [if here then BitVec.ofNat 32 (hdrGen h) else 0, if here then BitVec.ofNat 32 (hdrSvn h) else 0,
      BitVec.ofNat 32 (mark * 2 ^ 30 + o)] []

/-- Both images of a bank have verified. -/
def State.bankVerified (s : State) (bank : Nat) : Bool :=
  let ok := fun (o : Nat) => o == 1 || o == 2
  ok (s.get (F.MGT_IMG_INFO_FW_RES bank)) && ok (s.get (F.MGT_IMG_INFO_CFG_RES bank))

/-- IMG_ACTIVATE: the response, ONCE_BANK, and a module reset. -/
def State.imgActivate (s : State) (r : MboxReq) : State :=
  let bank := r.arg 0
  let force := (r.args.getD 1 0).getLsbD 0
  if 1 < bank then s.answer r 3 [] []
  else if !s.bankVerified bank || ((s.role == 1 || s.role == 4) && !force) then s.answer r 7 [] []
  else
    let s := (s.putB F.SYS_RST_BOOT_ONCE_EN true).put F.SYS_RST_BOOT_ONCE_BANK bank
    (s.answer r 0 [] []).moduleReset 6 0

/-- Program MARK of a bank's firmware. -/
def State.setMark (s : State) (bank : Nat) (v : Nat) : State := (s.flashPut (imgSlot bank 1 + 0xC0) (beBytes 4 v)).showImage bank

def State.fwMark (s : State) (bank : Nat) : Nat := hdrMark (s.header (imgSlot bank 1))

def State.imgConfirm (s : State) (r : MboxReq) : State :=
  let b := s.get F.SYS_RST_BOOT_FW_BANK
  if s.fwMark b ≠ 0 then s.answer r 7 [] []
  else
    let s := s.setMark b 0x0000FFFF
    let s := if hdrIs (s.header (imgSlot (1 - b) 1)) 1 slotSize && s.fwMark (1 - b) == 1 then s.setMark (1 - b) 0 else s
    s.answer r 0 [] []

def State.svnCommit (s : State) (r : MboxReq) : State :=
  let b := s.get F.SYS_RST_BOOT_FW_BANK
  let v := r.arg 0
  if hdrSvn (s.header (imgSlot b 1)) < v ∨ v < s.nv.svnMin then s.answer r 3 [] []
  else if s.fwMark b = 0 then s.answer r 7 [] []
  else (((s.modNv fun n => { n with svnMin := v }).put F.SYS_RST_STAT_SVN_MIN v).answer r 0 [] [])

def State.ownerKey (s : State) (r : MboxReq) : State :=
  let d := s.mboxData r 32
  if s.bit F.SYS_RST_STAT_OWNER_KEY || s.nv.owner.isSome then s.answer r 4 [] []
  else if r.arg 0 ≠ ofBytes (d.take 4) then s.answer r 3 [] []
  else (s.modNv fun n => { n with owner := some d }).answer r 0 [] []

def State.mboxVersion (s : State) (r : MboxReq) : State :=
  let b := s.get F.SYS_RST_BOOT_FW_BANK
  let h := s.header (imgSlot b 1)
  let run := s.fwRuns
  s.answer r 0 [if run then BitVec.ofNat 32 (hdrGen h) else 0, if run then BitVec.ofNat 32 (hdrSvn h) else 0,
    BitVec.ofNat 32 (b * 2 ^ 31 + Config.bootRomVersion.toNat)] []

def State.govStatus (s : State) (r : MboxReq) : State :=
  s.answer r 0 [BitVec.ofNat 32 (s.get F.MGT_CTRL_STAT_LOAD), BitVec.ofNat 32 (s.get F.MGT_CTRL_STAT_LEVEL),
    BitVec.ofNat 32 s.mgt.shed] []

def State.policyRead (s : State) (r : MboxReq) : State :=
  match s.mgt.sections.find? fun (e : Nat × List Byte) => e.1 == r.arg 0 with
  | some e => s.answer r 0 [BitVec.ofNat 32 e.2.length] (e.2.take 2048)
  | none => if knownSection (r.arg 0) then s.answer r 0 [0] [] else s.answer r 3 [] []

/-! Remote management (R387). -/

/-- A remote request: it is checked against the access list and queued, or answered. -/
def State.remoteRx (s : State) (f : NFrame) : State :=
  if !s.mgtReady || f.cls != 3 || f.flow != 0x010 || nfMalformed f || decide (f.len < 20) then s
  else match s.acceptTable f with
    | none => s
    | some t =>
      if !s.addressed t f then s
      else
        let p := f.payload.take f.len
        let code := ofBytes (bytesAt p 0 1)
        let req : MboxReq := ⟨code, ofBytes (bytesAt p 1 1), (List.range 4).map fun k => BitVec.ofNat 32 (ofBytes (bytesAt p (4 + 4 * k) 4)),
          some (f.src, f.epoch), (p.drop 20).take 1024, false⟩
        let perm := if s.isOn I.PSC then s.aclPerm (s.identSerial t f.src) (P.MGT_MBOX / 4096) else 0
        let need := if remoteReads.contains code then 1 else 2
        if perm < need then s.remoteSend f.src req 4 [] [] else s.mboxPush req

/-! The governor (R391, R392). -/

/-- The level changes. -/
def State.govLevel (s : State) (level load : Nat) : State :=
  let old := s.get F.MGT_CTRL_STAT_LEVEL
  let s := ((s.put F.MGT_CTRL_STAT_LEVEL level).raise P.MGT_CTRL 3).post 0x0D14 1 (subject 0 0) (beBytes 1 level ++ beBytes 1 load)
  let s := if old < 3 ∧ 3 ≤ level then s.put F.MGT_CTRL_GOV_QLIM 2 else if 3 ≤ old ∧ level < 3 then s.put F.MGT_CTRL_GOV_QLIM 8 else s
  s.modMgt fun m => { m with gov := { m.gov with highWins := 0, lowWins := 0 } }

/-- The overload record of level 4. -/
def State.overload (s : State) (load : Nat) : State :=
  let s := (s.raise P.MGT_CTRL 4).post 0x0D15 3 (subject 0 0) (beBytes 1 load ++ beBytes 2 (s.get F.MGT_CTRL_GOV_SHED))
  s.modMgt fun m => { m with gov := { m.gov with at4 := 0 } }

/-- A window of 10 ms ends. -/
def State.govWindow (s : State) (load : Nat) : State :=
  if !s.fwRuns then s
  else
    let load := min 100 load
    let s := s.put F.MGT_CTRL_STAT_LOAD load
    let g := s.mgt.gov
    let high := if g.high ≤ load then g.highWins + 1 else 0
    let low := if load < g.low then g.lowWins + 1 else 0
    let level := s.get F.MGT_CTRL_STAT_LEVEL
    let s := s.modMgt fun m => { m with gov := { m.gov with highWins := high, lowWins := low, at4 := m.gov.at4 + 1 } }
    let s := if 3 ≤ high ∧ level < 4 then s.govLevel (level + 1) load
      else if 10 ≤ low ∧ 0 < level then s.govLevel (level - 1) load else s
    if s.get F.MGT_CTRL_STAT_LEVEL = 4 ∧ (level < 4 ∨ 100 ≤ s.mgt.gov.at4) then s.overload load else s

/-! The commands. -/

/-- BOOT (R361); `ue`: banks whose firmware is read with an uncorrected flash error. -/
def execBoot (ue : List Nat) (s : State) : Host.Outcome State Fault Refusal := .next (s.boot ue)

/-- LOCKSTEP (R367): the cores differ, or an uncorrected error occurs in MGT's memory (`ue`). -/
def execLockstep (ue : Bool) (s : State) : Host.Outcome State Fault Refusal := .next (s.mgtFault (if ue then 2 else 1))

/-- WDT (R368): the watchdog of the running firmware expires. -/
def execWdt (s : State) : Host.Outcome State Fault Refusal := .next s.watchdog

/-- KICK (R368): a write of MGT_CTRL_WDT. -/
def execKick (q : Requester) (v : Word) (s : State) : Host.Outcome State Fault Refusal :=
  .next (s.carry q R.MGT_CTRL_WDT v fun s => s.wdtWrite q v)

/-- MGT_RESTART (R371): a write of MGT_CTRL_CMD. -/
def execMgtRestart (q : Requester) (v : Word) (s : State) : Host.Outcome State Fault Refusal :=
  .next (s.carry q R.MGT_CTRL_CMD v fun s => s.mgtCmd q v)

/-- MBOX_PUSH (R383): a write of MGT_MBOX_CMD. -/
def execMboxPush (q : Requester) (v : Word) (s : State) : Host.Outcome State Fault Refusal :=
  .next (s.carry q R.MGT_MBOX_CMD v fun s => s.mboxCmd v)

/-- ECHO. -/
def execEcho (s : State) : Host.Outcome State Fault Refusal := .next (s.serve 0x01 fun s r => s.answer r 0 [r.args.getD 0 0] [])
def execVersion (s : State) : Host.Outcome State Fault Refusal := .next (s.serve 0x02 fun s r => s.mboxVersion r)
def execGovStatus (s : State) : Host.Outcome State Fault Refusal := .next (s.serve 0x03 fun s r => s.govStatus r)
def execImgBegin (s : State) : Host.Outcome State Fault Refusal := .next (s.serve 0x10 fun s r => s.imgBegin r)
def execImgWrite (s : State) : Host.Outcome State Fault Refusal := .next (s.serve 0x11 fun s r => s.imgWrite' r)
def execImgEnd (ue : Bool) (s : State) : Host.Outcome State Fault Refusal := .next (s.serve 0x12 fun s r => s.imgEnd ue r)
def execImgInfo (s : State) : Host.Outcome State Fault Refusal := .next (s.serve 0x13 fun s r => s.imgInfo r)
def execImgActivate (s : State) : Host.Outcome State Fault Refusal := .next (s.serve 0x14 fun s r => s.imgActivate r)
def execImgConfirm (s : State) : Host.Outcome State Fault Refusal := .next (s.serve 0x15 fun s r => s.imgConfirm r)
def execSvnCommit (s : State) : Host.Outcome State Fault Refusal := .next (s.serve 0x16 fun s r => s.svnCommit r)
def execOwnerKey (s : State) : Host.Outcome State Fault Refusal := .next (s.serve 0x20 fun s r => s.ownerKey r)
def execPolicyRead (s : State) : Host.Outcome State Fault Refusal := .next (s.serve 0x31 fun s r => s.policyRead r)

/-- POP (R384): a write of MGT_MBOX_RACK. -/
def execPop (q : Requester) (v : Word) (s : State) : Host.Outcome State Fault Refusal :=
  .next (s.carry q R.MGT_MBOX_RACK v fun s => s.mboxPop v)

def execRemoteManagementRx (f : NFrame) (s : State) : Host.Outcome State Fault Refusal := .next (s.remoteRx f)
def execGovWindowEnd (load : Nat) (s : State) : Host.Outcome State Fault Refusal := .next (s.govWindow load)

end Sys2Proof.Machine
end

