-- ==== Sys2Proof/Machine/Hlt.lean ====
section
/-!
DEFINITION. Island HLT (R409 to R424): storage errors, sensors, the self-test and its sessions, repair, recalibration.
-/

namespace Sys2Proof.Machine

/-! Storage errors (R413). -/

/-- The key of a row. -/
def rowKey (m row : Nat) : Nat := m * 1024 + row

/-- The corrected errors counted for a row. -/
def State.rowCount (s : State) (k : Nat) : Nat := match s.hlt.rows.find? fun (e : Nat × Nat) => e.1 == k with
  | some e => e.2
  | none => 0

/-- Drop the first entry with the lowest count from a full table (R413). -/
def rowsRoom (t : List (Nat × Nat)) : List (Nat × Nat) :=
  if t.length < 32 then t
  else
    let low := t.foldl (fun (m : Nat) (e : Nat × Nat) => min m e.2) (t.headD (0, 0)).2
    let i := t.findIdx fun (e : Nat × Nat) => e.2 == low
    t.eraseIdx i

/-- Count a corrected error of a row. -/
def State.rowInc (s : State) (k : Nat) : State :=
  let n := s.rowCount k + 1
  s.modHlt fun h => { h with
    rows := if h.rows.any fun (e : Nat × Nat) => e.1 == k then h.rows.map fun (e : Nat × Nat) => if e.1 = k then (k, n) else e
      else rowsRoom h.rows ++ [(k, n)] }

/-- Corrected errors of a memory in the hour that runs. -/
def State.ceHour (s : State) (m : Nat) : Nat := stGet (fun _ => 0) s.hlt.ceHour m

/-- A row becomes suspect, once. -/
def State.suspect (s : State) (m row : Nat) (ue : Bool) : State :=
  let k := rowKey m row
  if s.hlt.suspects.contains k then s
  else
    ((s.modHlt fun h => { h with suspects := h.suspects ++ [k] }).raise P.HLT_CTRL 2).post 0x0F11 2 (subject 0 m)
      (beBytes 2 row ++ beBytes 1 (min 255 (s.rowCount k)) ++ beBytes 1 ue.toNat)

/-- HLT takes an ECC event: the log, the row table, the reasons (R410, R413). -/
def State.eccToHlt (s : State) (m row group : Nat) (ue : Bool) : State :=
  if !s.isOn I.HLT then s
  else
    let e := s.hlt.elogNext
    let w := 2 ^ 31 + ue.toNat * 2 ^ 30 + m % 128 * 2 ^ 23 + row % 1024 * 2 ^ 13 + group % 64 * 2 ^ 7
    let s := (s.wr (R.HLT_CTRL_ELOG e) (BitVec.ofNat 32 w)).modHlt fun h => { h with elogNext := (e + 1) % 16 }
    let s := if ue then s.modHlt fun h => { h with ueMacros := if h.ueMacros.contains m then h.ueMacros else h.ueMacros ++ [m] }
      else
        (s.rowInc (rowKey m row)).modHlt fun h => { h with
          ceHour := stSet (fun _ => 0) h.ceHour m (min 0xFFFF (stGet (fun _ => 0) h.ceHour m + 1)) }
    let s := if ue || decide (max 1 (s.get F.HLT_CTRL_THR_ROW_CE) ≤ s.rowCount (rowKey m row)) then s.suspect m row ue else s
    s.memReasons (memIsland m)

/-- The page that shows an ECC event of a block: its own; for the message RAM the CTRL page (R203). -/
def eccPage (pg : Nat) : Nat := if islandOf pg = I.CBL ∨ islandOf pg = I.CBH then islandOf pg * 65536 else pg

/-- PG_ERR and the event of an ECC event, and the record of an uncorrected one. -/
def State.eccOnPage (s : State) (pg m row : Nat) (ue : Bool) : State :=
  if ue then
    ((s.satInc (F.PG_ERR_UE_CNT pg)).raise pg 28).post (islandOf pg * 256 + 0x02) 3 (subject (blockOf pg) 0)
      (beBytes 1 m ++ beBytes 2 row)
  else (s.satInc (F.PG_ERR_CE_CNT pg)).raise pg 29

/-- An ECC event in a block's storage: its page, then HLT. -/
def State.eccEvent (s : State) (pg m row group : Nat) (ue : Bool) : State :=
  if !mapped pg || islandOf pg != memIsland m || !s.powered (islandOf pg) then s
  else (s.eccOnPage (eccPage pg) m row ue).eccToHlt m row group ue

/-- An hour of MONO ends (R410): CE_RATE stands for the memories that reached CE_W in it. -/
def State.ceHourEnd (s : State) : State :=
  if !s.isOn I.HLT then s
  else
    let w := max 1 (s.get F.HLT_CTRL_THR_CE_W)
    let s := s.modHlt fun h => { h with
      ceRate := (h.ceHour.filter fun (e : Nat × Nat) => decide (w ≤ e.2)).map (·.1)
      ceHour := [] }
    (List.range 17).foldl (fun s n => s.memReasons n) s

/-! Sensors (R410, R422). -/

/-- A new VALUE of a sensor or a supply, and its MAX. Temperatures are signed. -/
def State.reading (s : State) (k v : Nat) : State :=
  let s := s.put (F.HLT_SENS_V_VALUE k) v
  let higher := if k < 4 then decide (toSigned 16 (s.get (F.HLT_SENS_V_MAX k)) < toSigned 16 v)
    else decide (s.get (F.HLT_SENS_V_MAX k) < v % 65536)
  if higher then s.put (F.HLT_SENS_V_MAX k) v else s

/-- A die temperature in units of 0.125 °C. -/
def State.dieTemp (s : State) (k : Nat) : Int := toSigned 16 (s.get (F.HLT_SENS_V_VALUE k))

/-- A die sensor is excluded. -/
def State.excluded (s : State) (k : Nat) : Bool := (s.get F.HLT_SENS_CAL_EXCL).testBit k

/-- TEMP_W and TEMP_D in units of 0.125 °C. -/
def State.tempW (s : State) : Int := 8 * (s.get F.HLT_CTRL_THR_TEMP_W : Int)
def State.tempD (s : State) : Int := 8 * (min 130 (s.get F.HLT_CTRL_THR_TEMP_D) : Nat)

/-- An alarm and its record (R424). -/
def State.sensAlarm (s : State) (sev k v : Nat) : State :=
  (s.raise P.HLT_SENS 0).post 0x0F17 sev (subject 3 k) (beBytes 2 v)

/-- A die temperature arrives. -/
def State.tempReading (s : State) (k v : Nat) : State :=
  let s := s.reading k v
  if s.excluded k then s
  else
    let t := s.dieTemp k
    let s := if s.tempW ≤ t ∧ !s.hlt.hotW.contains k then
        (s.sensAlarm 2 k v).modHlt fun h => { h with hotW := h.hotW ++ [k] } else s
    let s := if s.tempD ≤ t ∧ !s.hlt.hotD.contains k then
        (s.sensAlarm 3 k v).modHlt fun h => { h with hotD := h.hotD ++ [k] } else s
    s.tempReasons

/-- The DVFS number of a supply reading: VDD_FAB, VDD_SGW, VDD_MGT. -/
def railDvfs (k : Nat) : Option Nat := if k = 6 then some 0 else if k = 7 then some 1 else if k = 8 then some 2 else none

/-- A supply lies outside its limit (R422). A DVFS rail is not judged while a ramp runs or its island is off. -/
def State.supplyBad (s : State) (k v : Nat) : Bool :=
  match k with
  | 4 => decide (v < 16800) || decide (33600 < v)
  | 5 => decide (v < 3000) || decide (5500 < v)
  | 9 => decide (v < 760) || decide (840 < v)
  | _ => match railDvfs k with
    | some f =>
      let cur := 5 * s.get (F.SYS_PWR_DVFSSTAT_CUR_V f)
      !s.bit (F.SYS_PWR_DVFSSTAT_BUSY f) && s.powered (dvfsIsland f) &&
        (decide (100 * v < 97 * cur) || decide (103 * cur < 100 * v))
    | none => false

/-- The island that VOLT concerns. -/
def supplyIsland (k : Nat) : Nat := match railDvfs k with
  | some f => dvfsIsland f
  | none => I.SYS

/-- VOLT of an island follows the supplies outside their limits. -/
def State.voltReason (s : State) (isl : Nat) : State :=
  s.follow isl 11 (s.hlt.voltBad.any fun k => supplyIsland k == isl) false

/-- A supply has read this for 1 s. -/
def State.supplyReading (s : State) (k v : Nat) : State :=
  let s := s.reading k v
  if !s.supplyBad k v || s.hlt.voltBad.contains k then s
  else ((s.sensAlarm 2 k v).modHlt fun h => { h with voltBad := h.voltBad ++ [k] }).voltReason (supplyIsland k)

/-- A die sensor differs from the median of the four by more than 5 °C. -/
def State.sensorDiffers (s : State) (k : Nat) : Bool :=
  let ts := (List.range 4).map s.dieTemp
  let mx := ts.foldl max (s.dieTemp 0)
  let mn := ts.foldl min (s.dieTemp 0)
  let d := 2 * s.dieTemp k - (ts.sum - mx - mn)
  decide (k < 4) && (decide (80 < d) || decide (d < -80))

/-- Exclude a die sensor that differs (R422). -/
def State.excludeCheck (s : State) (k : Nat) : State :=
  if !s.sensorDiffers k || s.excluded k then s
  else ((s.put F.HLT_SENS_CAL_EXCL (s.get F.HLT_SENS_CAL_EXCL + 2 ^ k)).raise P.HLT_SENS 1).follow I.SYS 18 true false

/-- The SNR reasons of a line follow its ports. -/
def State.snrReasons (s : State) (l : Line) : State :=
  (s.follow (lineIsland l) 7 (s.hlt.snrLow.any fun p => p.line == l) false).follow (lineIsland l) 8
    (s.hlt.snrCrit.any fun p => p.line == l) false

/-- A port's SNR margin changes: SNR_LOW when it falls below THRESH, and below 1.0 dB the reason at once. -/
def State.marginReading (s : State) (p : BPort) (pair v : Nat) : State :=
  if !s.isOn (lineIsland p.line) || !s.bit (F.BL_P_STAT_LINK p) then s
  else
    let th := s.get (F.BL_P_SNR_THRESH p)
    let falls := decide (th ≤ s.get (F.BL_P_SNR_MARGIN p)) && decide (v < th)
    let s := (s.put (F.BL_P_SNR_MARGIN p) v).put (F.BL_P_SNR_PAIR p) pair
    let s := if falls then s.raise (P.PORT p) 1 else s
    if v < 4 ∧ s.isOn I.HLT then
      (s.modHlt fun h => { h with snrCrit := if h.snrCrit.contains p then h.snrCrit else h.snrCrit ++ [p] }).snrReasons p.line
    else s

/-- A margin has been below THRESH for 10 s. -/
def State.marginLow (s : State) (p : BPort) : State :=
  if !s.isOn I.HLT || !s.bit (F.BL_P_STAT_LINK p) || decide (s.get (F.BL_P_SNR_THRESH p) ≤ s.get (F.BL_P_SNR_MARGIN p)) then s
  else (s.modHlt fun h => { h with snrLow := if h.snrLow.contains p then h.snrLow else h.snrLow ++ [p] }).snrReasons p.line

/-- SENSOR_ALARM. -/
def State.sensorAlarm (s : State) (k : SensorAlarm) : State :=
  match k with
  | .margin p pair v => s.marginReading p pair v
  | .lowFor10s p => s.marginLow p
  | .temp n v => if s.isOn I.HLT ∧ n < 4 then s.tempReading n v else s
  | .supply n v => if s.isOn I.HLT ∧ 4 ≤ n ∧ n < 10 then s.supplyReading n v else s
  | .differs n => if s.isOn I.HLT then s.excludeCheck n else s
  | .hold => if s.isOn I.HLT ∧ s.bit F.SYS_CLK_STAT_LINE_HOLD then (s.modHlt fun h => { h with clockBad := true }).clockReason else s

/-- Every die sensor that is not excluded lies 5 °C below a limit. -/
def State.cooler (s : State) (lim : Int) : Bool := (List.range 4).all fun k => s.excluded k || decide (s.dieTemp k ≤ lim - 40)

/-- A timed clearing condition ends (R410): `item` names the port, the sensor or the supply, `v` its present reading. -/
def State.reasonClear (s : State) (isl bit item v : Nat) : State :=
  let p := bportOf item
  match bit with
  | 7 | 8 =>
    if lineIsland p.line ≠ isl ∨ !s.isOn isl ∨ !s.bit (F.BL_P_STAT_LINK p) then s
    else
      let s := s.put (F.BL_P_SNR_MARGIN p) v
      if v % 256 < s.get (F.BL_P_SNR_THRESH p) then s
      else (s.modHlt fun h => { h with
          snrLow := h.snrLow.filter fun k => k != p, snrCrit := h.snrCrit.filter fun k => k != p }).snrReasons p.line
  | 9 =>
    let s := if item < 4 then s.reading item v else s
    if s.cooler s.tempW then (s.modHlt fun h => { h with hotW := [] }).tempReasons else s
  | 10 =>
    let s := if item < 4 then s.reading item v else s
    if s.cooler s.tempD then (s.modHlt fun h => { h with hotD := [] }).tempReasons else s
  | 11 =>
    if item < 4 ∨ 10 ≤ item ∨ supplyIsland item ≠ isl then s
    else
      let s := s.reading item v
      if s.supplyBad item v then s
      else (s.modHlt fun h => { h with voltBad := h.voltBad.filter fun k => k != item }).voltReason isl
  | 12 => if s.bit F.SYS_CLK_STAT_LINE_HOLD then s else (s.modHlt fun h => { h with clockBad := false }).clockReason
  | 14 => (s.modPwr fun w => { w with byp24 := false }).follow I.SYS 14 false false
  | 18 =>
    if 4 ≤ item ∨ !s.excluded item then s
    else
      let s := s.reading item v
      if s.sensorDiffers item then s
      else
        let s := s.put F.HLT_SENS_CAL_EXCL (s.get F.HLT_SENS_CAL_EXCL - 2 ^ item)
        s.follow I.SYS 18 (s.get F.HLT_SENS_CAL_EXCL != 0) false
  | _ => s

/-- A carried write of HLT_CTRL_ISLn: firmware's level (R409). -/
def State.fwLevelWrite (s : State) (q : Requester) (n : Nat) (v : Word) : State :=
  s.firmwareOnly q (R.HLT_CTRL_ISL n) fun s => s.locked q (R.HLT_CTRL_ISL n) fun s =>
    (s.put (F.HLT_CTRL_ISL_FW n) ((F.HLT_CTRL_ISL_FW n).of v)).hltEval n

/-! Repair (R419 to R422). -/

/-- The repair copy has changed: a write of the record is due (R420). -/
def State.repairDue (s : State) : State := s.putB F.HLT_REPAIR_RSTAT_BUSY true

/-- An entry enters the repair copy, once. -/
def State.repairAdd (s : State) (e : RepEntry) : State :=
  if s.pwr.repair.contains e then s else (s.modPwr fun p => { p with repair := p.repair ++ [e] }).repairDue

/-- Entries of a memory or island and a kind leave the repair copy. -/
def State.repairDrop (s : State) (m kind : Nat) : State :=
  if s.pwr.repair.any fun e => e.macroNo == m && e.kind == kind then
    (s.modPwr fun p => { p with repair := p.repair.filter fun e => !(e.macroNo == m && e.kind == kind) }).repairDue
  else s

/-- A repair is applied: the copy, the event and its record (R420). -/
def State.applyRepair (s : State) (e : RepEntry) : State :=
  let s := s.repairAdd e
  (s.raise P.HLT_REPAIR 0).post 0x0F13 1 (subject 2 e.macroNo)
    (beBytes 1 e.kind ++ beBytes 2 e.addr ++ beBytes 1 e.slot ++ beBytes 1 (s.rowsUsed e.macroNo))

/-- Rows already replaced by a spare. -/
def State.replacedRows (s : State) (m : Nat) : List Nat := (s.repairsOf m 1).map (·.addr)

/-- The lowest free spare row. -/
def State.freeSlot (s : State) (m : Nat) : Option Nat :=
  (List.range 8).find? fun k => !(s.repairsOf m 1).any fun e => e.slot == k

/-- Failing rows take spare rows, lowest index first; the rows left over. -/
def State.spareRows (s : State) (m : Nat) : List Nat → State × List Nat
  | [] => (s, [])
  | r :: rs =>
    match s.freeSlot m with
    | some k => (s.applyRepair ⟨m, 1, r, k⟩).spareRows m rs
    | none => let x := s.spareRows m rs; (x.1, r :: x.2)

/-- Analysis of one march (R419): the failing rows of a memory, those of suspect rows with them, take spares; the rows left over. -/
def State.analyse (s : State) (m : Nat) (cells : List FailCell) : State × List Nat :=
  let old := s.replacedRows m
  let mine := cells.filter fun c => c.mem == m && !old.contains c.row
  let marked := (s.hlt.suspects.filter fun k => k / 1024 == m && !old.contains (k % 1024)).map (· % 1024)
  let rowsOf := fun (g : Nat) => (List.range 1024).filter fun r => mine.any fun c => c.group == g && c.row == r
  let free := 8 - s.rowsUsed m
  let col := if s.repairsOf m 2 = [] then (List.range 36).find? fun g => decide (free < (rowsOf g).length) else none
  let s := match col with
    | some g => s.applyRepair ⟨m, 2, g, 0⟩
    | none => s
  let rest := (List.range 1024).filter fun r => marked.contains r || mine.any fun c => c.row == r && some c.group != col
  s.spareRows m rest

/-- The marches of a test, each followed by its analysis; the rows left over by the last. -/
def State.analyses (s : State) (m : Nat) : List (List FailCell) → State × List Nat
  | [] => s.analyse m []
  | [cells] => s.analyse m cells
  | cells :: more =>
    let x := s.analyse m cells
    if x.2 = [] then x.1.analyses m more else x

/-- A pool has another bank that is not retired. -/
def State.poolHasOther (s : State) (b : Nat) : Bool :=
  (List.range 32).any fun k => k != b && s.bankPool k == s.bankPool b && !(s.rd R.FAB_QUE_RETIRED).getLsbD k

/-- The bank under test is out of its pool for good (R422). -/
def State.retireTested (s : State) (m : Nat) : State :=
  let s := s.repairAdd ⟨m, 3, 0, 0⟩
  let s := if s.isOn I.FAB then s.wr R.FAB_QUE_RETIRED (s.rd R.FAB_QUE_RETIRED ||| BitVec.ofNat 32 (2 ^ m)) else s
  (s.raise P.HLT_REPAIR 1).post 0x0F14 2 (subject 2 m) (beBytes 1 (s.bankPool m))

/-- A memory that has no spares left for a failing row, and is no bank that can be retired (R422). -/
def State.unrepairable (s : State) (m row : Nat) : State :=
  let s := (s.repairAdd ⟨m, 4, 0, 0⟩).modHlt fun h => { h with unrepairable := h.unrepairable.filter (fun k => k != m) ++ [m] }
  (s.raise P.HLT_REPAIR 2).post 0x0F15 4 (subject 2 m) (beBytes 2 row)

/-- The MBIST of a memory has ended: its repairs and its RESULT, 0 pass, 1 repaired, 4 unrepairable, 5 retired. -/
def State.memTested (s : State) (rounds : List (List FailCell)) (m : Nat) : State × Nat :=
  let before := (s.repairsOf m 1).length + (s.repairsOf m 2).length
  let x := s.analyses m rounds
  let fixed := x.1.replacedRows m
  let s := x.1.modHlt fun h => { h with suspects := h.suspects.filter fun k => !(k / 1024 == m && fixed.contains (k % 1024)) }
  match x.2 with
  | [] =>
    let s := (s.repairDrop m 4).modHlt fun h => { h with
      unrepairable := h.unrepairable.filter fun k => k != m, ueMacros := h.ueMacros.filter fun k => k != m }
    (s, if before < (s.repairsOf m 1).length + (s.repairsOf m 2).length then 1 else 0)
  | row :: _ =>
    if m < 32 ∧ s.poolHasOther m then
      let s := s.retireTested m
      (s.modHlt fun h => { h with
        suspects := h.suspects.filter fun k => k / 1024 != m, ueMacros := h.ueMacros.filter fun k => k != m }, 5)
    else (s.unrepairable m row, 4)

/-- Of the RESULTs of several memories, the one that counts: 4, then 5, then 1, then 0. -/
def worseResult (a b : Nat) : Nat := if a = 4 ∨ b = 4 then 4 else max a b

/-- The MBIST of several memories. -/
def State.memsTested (s : State) (rounds : List (List FailCell)) : List Nat → State × Nat
  | [] => (s, 0)
  | m :: ms =>
    let x := s.memTested rounds m
    let y := x.1.memsTested rounds ms
    (y.1, worseResult x.2 y.2)

/-! Withdrawing and restoring an island (R415). -/

/-- HLT withdraws an island. -/
def State.withdraw (s : State) (n : Nat) : State :=
  let s := if s.isOn n then s.stopFunctions n else s
  let s := s.showPages n true true true
  let s := if n = I.TWN then s.sgwMute.gmUpdate else s
  s.modHlt fun h => { h with withdrawn := h.withdrawn.filter (fun k => k != n) ++ [n] }

/-- An island counts as withdrawn no longer. -/
def State.notWithdrawn (s : State) (n : Nat) : State := s.modHlt fun h => { h with withdrawn := h.withdrawn.filter fun k => k != n }

/-- A retired island: withdrawn, with READY = 0 and BIST_ACTIVE = 0 (R416). -/
def State.retireView (s : State) (n : Nat) : State := (s.showPages n false true false).notWithdrawn n

/-- HLT restores an island by steps U3 to U7: reset values, its functions start, it seeks its source. -/
def State.restoreIsland (s : State) (n : Nat) : State :=
  let s := s.notWithdrawn n
  if s.hlt.retiredIsl.contains n then s.retireView n
  else
    let s := (s.modPwr fun p => { p with swTo := p.swTo.filter fun (e : Nat × Nat) => e.1 != n }).putB (F.SYS_CLK_ISL_SWITCHING n) false
    s.islandOn n

/-! The course of a test (R414 to R418). -/

/-- The islands that a session over all islands tests, in its order. -/
def sessionOrder : List Nat := [14, 12, 9, 4, 5, 7, 8, 6, 1, 2, 16, 3, 10]

/-- An island has SRAM memories. -/
def hasMems (isl : Nat) : Bool := allMems.any fun m => memIsland m == isl

/-- MBIST and then LBIST of an island. -/
def sessionUnits (isl : Nat) : List TestUnit := (if hasMems isl then [⟨1, isl⟩] else []) ++ [⟨2, isl⟩]

/-- What a command tests; empty: not testable. -/
def State.testUnits (s : State) (kind isl mem : Nat) : List TestUnit :=
  let ok := fun (n : Nat) => sessionOrder.contains n && s.powered n
  match kind with
  | 0 => if s.isOn I.FAB && decide (mem < 32) && !(s.rd R.FAB_QUE_RETIRED).getLsbD mem && s.poolHasOther mem then [⟨0, I.FAB⟩] else []
  | 1 => if ok isl && hasMems isl then [⟨1, isl⟩] else []
  | 2 => if ok isl then [⟨2, isl⟩] else []
  | _ => if isl = 0x1F then (sessionOrder.filter s.powered).flatMap sessionUnits else if ok isl then sessionUnits isl else []

/-- A command is refused (R414). -/
def State.bistRefuse (s : State) (result : Nat) : State := (s.put F.HLT_BIST_STAT_RESULT result).raise P.HLT_BIST 2

/-- The role refuses tests of islands (R414, R418). -/
def State.roleRefuses (s : State) (force : Bool) : Bool :=
  s.role == 1 || (s.role == 4 && !force) || (s.role == 2 && s.partnerRole != 1)

/-- The first unit to do starts: its island is withdrawn; of a bank, its draining starts. -/
def State.startUnit (s : State) : State :=
  match s.hlt.test with
  | none => s
  | some t =>
    match t.todo with
    | [] => s
    | u :: _ =>
      let s := (s.put F.HLT_BIST_STAT_ISL u.isl).put F.HLT_BIST_VERDICT_VERDICT 0
      if u.kind = 0 then
        let s := (s.put F.HLT_BIST_STAT_MACRO t.macroNo).put F.HLT_BIST_STAT_STATE 1
        if s.fab.moving.any fun e => e.1 == t.macroNo then s
        else
          let s := { s with fab := { s.fab with moving := s.fab.moving ++ [(t.macroNo, s.bankPool t.macroNo)] } }
          s.wr R.FAB_QUE_MOVING (s.rd R.FAB_QUE_MOVING ||| BitVec.ofNat 32 (2 ^ t.macroNo))
      else
        let s := if s.hlt.withdrawn.contains u.isl then s else s.withdraw u.isl
        let s := if u.kind = 1 then s.put F.HLT_BIST_STAT_MACRO ((allMems.find? fun m => memIsland m == u.isl).getD 0) else s
        s.put F.HLT_BIST_STAT_STATE 2

/-- A SESSION record (R424). -/
def State.sessionRecord (s : State) (state : Nat) : State :=
  s.post 0x0F18 1 (subject 1 0) (beBytes 1 state ++ beBytes 1 (s.get F.HLT_BIST_STAT_RESULT))

/-- GO. -/
def State.bistGo (s : State) (v : Word) : State :=
  let kind := F.HLT_BIST_CMD_KIND.of v
  let units := s.testUnits kind (F.HLT_BIST_CMD_ISL.of v) (F.HLT_BIST_CMD_MACRO.of v)
  if s.hlt.test.isSome then s.bistRefuse 10
  else if units = [] then s.bistRefuse 7
  else if kind ≠ 0 ∧ s.roleRefuses (F.HLT_BIST_CMD_FORCE.of v != 0) then s.bistRefuse 6
  else
    let s := if kind ≠ 0 ∧ s.role = 2 then s.isolate else s
    let s := s.modHlt fun h => { h with
      test := some ⟨kind, F.HLT_BIST_CMD_SET.of v, F.HLT_BIST_CMD_MACRO.of v, F.HLT_BIST_CMD_REJOIN.of v != 0, units, true⟩
      session := kind == 3 && s.role == 3
      ending := none }
    let s := if kind = 3 then s.sessionRecord 1 else s
    s.startUnit

/-- A carried write of HLT_BIST_CMD. -/
def State.bistCmd (s : State) (q : Requester) (v : Word) : State :=
  s.locked q R.HLT_BIST_CMD fun s =>
    let s := s.wr R.HLT_BIST_CMD (v &&& 0x6F1F007F)
    if v.getLsbD 31 then s.bistGo v else s

/-- A session whose tests have ended ends once every verdict is there: REJOIN when all was good (R417). -/
def State.sessionFinish (s : State) : State :=
  match s.hlt.ending with
  | none => s
  | some e =>
    if s.hlt.verdicts ≠ [] then s
    else
      let s := s.modHlt fun h => { h with ending := none, session := false }
      if e.rejoin && e.good then s.rejoin else s

/-- The test ends: STATE 4; of a session, its record, and its verdicts are awaited. -/
def State.testEnd (s : State) : State :=
  match s.hlt.test with
  | none => s
  | some t =>
    let s := s.put F.HLT_BIST_STAT_STATE 4
    if t.kind = 3 then
      let s := s.modHlt fun h => { h with test := none, ending := some ⟨t.rejoin, t.good⟩ }
      (s.sessionRecord 2).sessionFinish
    else s.modHlt fun h => { h with test := none }

/-- The pending entry of a bank goes. -/
def State.notMoving (s : State) (b : Nat) : State :=
  let s := { s with fab := { s.fab with moving := s.fab.moving.filter fun e => e.1 != b } }
  s.wr R.FAB_QUE_MOVING (s.rd R.FAB_QUE_MOVING &&& ~~~BitVec.ofNat 32 (2 ^ b))

/-- A bank that was out for its test joins its pool, unless it is retired. A move written meanwhile is complete. -/
def State.bankBack (s : State) (b : Nat) : State :=
  let moved := s.fab.moving.any fun e => e.1 == b
  let s := s.notMoving b
  let s := if (s.rd R.FAB_QUE_RETIRED).getLsbD b then s else s.giveCells (s.bankPool b) 1024
  if moved then (s.raise P.FAB_QUE 2).post 0x0313 1 (subject 2 b) (beBytes 1 (s.bankPool b)) else s

/-- The test that runs is not good. -/
def State.notGood (s : State) : State := s.modHlt fun h => { h with
  test := h.test.map fun t => { t with good := false }, ending := h.ending.map fun e => { e with good := false } }

/-- A test has ended with a FAIL RESULT. -/
def State.bistFails (s : State) : State := ((s.satInc F.HLT_BIST_CNT_FAILS).raise P.HLT_BIST 1).notGood

/-- The unit that runs ends with its signature: repair analysis, RESULT, DONE and VERDICT_DUE (R416); then the next unit, or the end. -/
def State.unitDone (s : State) (sig : Word) (rounds : List (List FailCell)) : State :=
  match s.hlt.test with
  | none => s
  | some t =>
    match t.todo with
    | [] => s
    | u :: rest =>
      if s.get F.HLT_BIST_STAT_STATE ≠ 2 then s
      else
        let mems := if u.kind = 0 then [t.macroNo] else if u.kind = 1 then allMems.filter fun m => memIsland m == u.isl else []
        let x := s.memsTested rounds mems
        let s := ((x.1.wr R.HLT_BIST_SIG sig).satInc F.HLT_BIST_CNT_RUNS).raise P.HLT_BIST 0
        let s := (s.raise P.HLT_BIST 3).put F.HLT_BIST_STAT_RESULT (if x.2 ≤ 1 then 2 else x.2)
        let due : DueVerdict := ⟨u.kind, u.isl, s.get F.HLT_BIST_STAT_MACRO, t.set, sig, x.2⟩
        let s := s.modHlt fun h => { h with verdicts := h.verdicts ++ [due], test := some { t with todo := rest } }
        let s := (if x.2 ≤ 1 then s else s.bistFails).memReasons u.isl
        if u.kind = 0 then (s.bankBack t.macroNo).testEnd
        else if rest.any fun k => k.isl == u.isl then s.startUnit
        else s.put F.HLT_BIST_STAT_STATE 3

/-- A tested island has been restored: the next unit starts, or the test ends. While a session goes on, HLT isolates a module
whose TWN has come back (R417). -/
def State.restored (s : State) (n : Nat) : State :=
  if s.get F.HLT_BIST_STAT_STATE ≠ 3 ∨ !s.hlt.withdrawn.contains n then s
  else
    let s := s.restoreIsland n
    match s.hlt.test with
    | none => s
    | some t =>
      if t.todo = [] then s.testEnd
      else (if n = I.TWN then s.isolateNow 6 else s).startUnit

/-- A bank under test is not empty in time (R415). It stays in its pool, or goes on with a move that waits. -/
def State.drainTimeout (s : State) : State :=
  match s.hlt.test with
  | none => s
  | some t =>
    if t.kind ≠ 0 ∨ s.get F.HLT_BIST_STAT_STATE ≠ 1 then s
    else
      let moves := s.fab.moving.any fun e => e.1 == t.macroNo && e.2 != s.bankPool t.macroNo
      let s := if moves then s else s.notMoving t.macroNo
      (s.put F.HLT_BIST_STAT_RESULT 9).testEnd

/-! Verdicts (R416). -/

/-- A test of an island has passed: BIST_FAIL and its entry go, a retired island is restored. -/
def State.islandPassed (s : State) (isl : Nat) : State :=
  let retired := s.hlt.retiredIsl.contains isl
  let s := (s.repairDrop isl 5).modHlt fun h => { h with
    bistFail := h.bistFail.filter fun k => k != isl, retiredIsl := h.retiredIsl.filter fun k => k != isl }
  let s := s.follow isl 6 false false
  if retired && s.powered isl && !s.hlt.withdrawn.contains isl then s.restoreIsland isl else s

/-- The module retires an island whose LBIST failed. -/
def State.retireIsland (s : State) (isl : Nat) : State :=
  let s := (s.repairAdd ⟨isl, 5, 0, 0⟩).modHlt fun h => { h with
    retiredIsl := h.retiredIsl.filter (fun k => k != isl) ++ [isl] }
  if !s.powered isl || s.hlt.withdrawn.contains isl then s
  else (s.withdraw isl).retireView isl

/-- A BIST_DONE record. -/
def State.bistRecord (s : State) (d : DueVerdict) (result : Nat) : State :=
  s.post 0x0F12 (if result ≤ 1 then 1 else 3) (subject 1 (if d.kind = 2 then d.isl else d.macroNo))
    (beBytes 1 d.kind ++ beBytes 1 result ++ beBytes 4 d.sig.toNat ++ beBytes 1 d.set)

/-- Firmware's verdict on the oldest test without one. -/
def State.verdict (s : State) (pass : Bool) : State :=
  match s.hlt.verdicts with
  | [] => s
  | d :: rest =>
    let s := s.modHlt fun h => { h with verdicts := rest }
    if pass then
      let s := (s.put F.HLT_BIST_STAT_RESULT d.result).bistRecord d d.result
      let s := if d.result = 1 then s.satInc F.HLT_BIST_CNT_REPAIRS else s
      (if d.result ≤ 1 then s.islandPassed d.isl else s).sessionFinish
    else
      let s := s.put F.HLT_BIST_STAT_RESULT 3
      let s := if d.result ≤ 1 then s.bistFails else s.notGood
      let s := (s.bistRecord d 3).modHlt fun h => { h with bistFail := h.bistFail.filter (fun k => k != d.isl) ++ [d.isl] }
      let s := s.follow d.isl 6 true false
      (if d.kind = 2 then s.retireIsland d.isl else s).sessionFinish

/-- A carried write of HLT_BIST_VERDICT. -/
def State.verdictWrite (s : State) (q : Requester) (v : Word) : State :=
  s.firmwareOnly q R.HLT_BIST_VERDICT fun s => s.locked q R.HLT_BIST_VERDICT fun s =>
    let w := F.HLT_BIST_VERDICT_VERDICT.of v
    let s := s.put F.HLT_BIST_VERDICT_VERDICT w
    match if w = 3 then (Config.reserved 2 R.HLT_BIST_VERDICT 3).toNat else w with
    | 1 => s.verdict true
    | 2 => s.verdict false
    | _ => s

/-- No verdict within VERD_T: a session does not write REJOIN (R417). -/
def State.verdictLate (s : State) : State := if s.hlt.verdicts = [] then s else s.notGood

/-! Aborts (R418). -/

/-- HLT aborts the test that runs, because the partner has failed: every withdrawn island is restored, the session ends with RESULT 8
and REJOIN. -/
def State.bistAbort (s : State) : State :=
  let s := s.hlt.withdrawn.foldl (fun s n => s.restoreIsland n) s
  let s := (s.put F.HLT_BIST_STAT_RESULT 8).put F.HLT_BIST_STAT_STATE 4
  let s := s.modHlt fun h => { h with test := none, ending := none, session := false, abortDue := false }
  (s.sessionRecord 3).rejoin

/-- What HLT does within 10 µs of a judgement. -/
def State.settle (s : State) : State := if s.hlt.abortDue then s.bistAbort else s

/-! The repair record in flash (R420, R421). -/

/-- The copy that is written next, and its SEQ: the one that does not check, or that with the lower SEQ. -/
def State.recordTarget (s : State) : Nat × Nat :=
  match s.repairRecord 0, s.repairRecord 1 with
  | some a, some b => if a.1 ≤ b.1 then (0, (b.1 + 1) % 2 ^ 32) else (1, (a.1 + 1) % 2 ^ 32)
  | some a, none => (1, (a.1 + 1) % 2 ^ 32)
  | none, some b => (0, (b.1 + 1) % 2 ^ 32)
  | none, none => (0, 1)

/-- The bytes of a record. -/
def recordBytes (seq : Nat) (es : List RepEntry) : List Byte :=
  let b := beBytes 4 0x4B525052 ++ beBytes 2 1 ++ beBytes 2 es.length ++ beBytes 4 seq ++ beBytes 4 0 ++ es.flatMap repEntryBytes
  b ++ beBytes 4 (crc32c b).toNat

/-- The write of the record ends: the copy holds the repairs, or it fails and does not check. -/
def State.recordWritten (s : State) (ok : Bool) : State :=
  if !s.isOn I.HLT || !s.bit F.HLT_REPAIR_RSTAT_BUSY then s
  else
    let t := s.recordTarget
    let s := s.flashErase (recordBase t.1) 0x4000
    let s := if ok then s.flashPut (recordBase t.1) (recordBytes t.2 (s.pwr.repair.take 1024)) else s
    let s := ((s.putB F.HLT_REPAIR_RSTAT_BUSY false).putB F.HLT_REPAIR_RSTAT_FAIL (!ok)).showRecord
    if ok then s
    else (s.raise P.HLT_REPAIR 3).post 0x0F16 3 (subject 2 0) (beBytes 1 t.1 ++ beBytes 4 t.2)

/-! Recalibration (R423). -/

/-- The IRO measured against the XO, `dev` in ppm of 48 MHz: more than 0.5 % away, IRO_TRIM takes one step. -/
def State.iroRecal (s : State) (dev : Int) : State :=
  if !s.isOn I.HLT || !s.srcGood 1 then s
  else
    let old := s.get F.HLT_SENS_CAL_IRO_TRIM
    let new := if 5000 < dev then old - 1 else if dev < -5000 then min 255 (old + 1) else old
    if new = old then s
    else (s.put F.HLT_SENS_CAL_IRO_TRIM new).post 0x0F19 0 (subject 3 0) (beBytes 1 old ++ beBytes 1 new)

/-- A carried write of HLT_SENS_CMD: RECAL runs the measurement and the check of the sensors, CLRMAX sets every MAX to its VALUE. -/
def State.sensCmd (s : State) (v : Word) (dev : Int) : State :=
  let s := if v.getLsbD 1 then (List.range 4).foldl (fun s k => s.excludeCheck k) (s.iroRecal dev) else s
  if v.getLsbD 0 then (List.range 10).foldl (fun s k => s.put (F.HLT_SENS_V_MAX k) (s.get (F.HLT_SENS_V_VALUE k))) s else s

/-- HLT_REPAIR_MACRO shows the selected memory. -/
def State.repairView (s : State) (m : Nat) : Word :=
  if 80 ≤ m then 0
  else
    let fact := s.pwr.factory.filter fun e => e.macroNo == m
    BitVec.ofNat 32 ((s.hasRepair m 3).toNat * 2 ^ 31 + (s.hasRepair m 4).toNat * 2 ^ 30 + (s.hasRepair m 2).toNat * 2 ^ 29
      + (fact.any fun e => e.kind == 2).toNat * 2 ^ 28 + s.rowsUsed m % 16 * 2 ^ 24
      + (fact.filter fun e => e.kind == 1).length % 16 * 2 ^ 20 + s.ceHour m)

/-! The commands. -/

def execEccEvent (pg mem row group : Nat) (ue : Bool) (s : State) : Host.Outcome State Fault Refusal :=
  .next (s.eccEvent (pageOf pg) mem row group ue)

def execCeHourEnd (s : State) : Host.Outcome State Fault Refusal := .next s.ceHourEnd
def execSensorAlarm (k : SensorAlarm) (s : State) : Host.Outcome State Fault Refusal := .next (s.sensorAlarm k)

/-- A timed clearing condition of a health reason ends (R410). -/
def execHealthReasonClearTimer (isl bit item value : Nat) (s : State) : Host.Outcome State Fault Refusal :=
  .next (if s.isOn I.HLT then s.reasonClear isl bit item value else s)

/-- FW_LEVEL_WRITE (R409): a write of HLT_CTRL_ISLn. -/
def execFwLevelWrite (q : Requester) (n : Nat) (v : Word) (s : State) : Host.Outcome State Fault Refusal :=
  .next (s.carry q (R.HLT_CTRL_ISL (n % 17)) v fun s => s.fwLevelWrite q (n % 17) v)

/-- BANK_TEST (R415): a write of HLT_BIST_CMD. -/
def execBankTest (q : Requester) (v : Word) (s : State) : Host.Outcome State Fault Refusal :=
  .next (s.carry q R.HLT_BIST_CMD v fun s => s.bistCmd q v)

def execMbist (q : Requester) (v : Word) (s : State) : Host.Outcome State Fault Refusal :=
  .next (s.carry q R.HLT_BIST_CMD v fun s => s.bistCmd q v)

def execLbist (q : Requester) (v : Word) (s : State) : Host.Outcome State Fault Refusal :=
  .next (s.carry q R.HLT_BIST_CMD v fun s => s.bistCmd q v)

def execSession (q : Requester) (v : Word) (s : State) : Host.Outcome State Fault Refusal :=
  .next (s.carry q R.HLT_BIST_CMD v fun s => s.bistCmd q v)

def execBankDrainTimeout (s : State) : Host.Outcome State Fault Refusal := .next s.drainTimeout

/-- DONE (R416): the running unit's signature, and the failing cells that each of its marches found. -/
def execDone (sig : Word) (rounds : List (List FailCell)) (s : State) : Host.Outcome State Fault Refusal := .next (s.unitDone sig rounds)

def execIslandRestore (isl : Nat) (s : State) : Host.Outcome State Fault Refusal := .next (s.restored isl)

/-- VERDICT (R416): a write of HLT_BIST_VERDICT. -/
def execVerdict (q : Requester) (v : Word) (s : State) : Host.Outcome State Fault Refusal :=
  .next (s.carry q R.HLT_BIST_VERDICT v fun s => s.verdictWrite q v)

def execVerdTExpire (s : State) : Host.Outcome State Fault Refusal := .next s.verdictLate
def execRepairRecordWritten (ok : Bool) (s : State) : Host.Outcome State Fault Refusal := .next (s.recordWritten ok)
def execIroRecal (dev : Int) (s : State) : Host.Outcome State Fault Refusal := .next (s.iroRecal dev)

/-- RECAL (R423): a write of HLT_SENS_CMD. -/
def execRecal (q : Requester) (v : Word) (dev : Int) (s : State) : Host.Outcome State Fault Refusal :=
  .next (s.carry q R.HLT_SENS_CMD v fun s => s.sensCmd v dev)

def execClrmax (q : Requester) (v : Word) (dev : Int) (s : State) : Host.Outcome State Fault Refusal :=
  .next (s.carry q R.HLT_SENS_CMD v fun s => s.sensCmd v dev)

end Sys2Proof.Machine
end

