-- ==== Sys2Proof/Machine/Tim.lean ====
section
/-!
DEFINITION. Train time: servo, WALL offset, captures, and IEEE 802.1AS on the consist ports (R230, R234 to R243).
-/

namespace Sys2Proof.Machine

/-! Servo (R236, R237). -/

/-- The rate limit L_S in units of 1/256 ppb. -/
def State.slewLimit (s : State) : Nat := clampNat 10 1000 (s.get F.TIM_SERVO_LIMIT_SLEW_MAX) * 1000 * 256

/-- The step threshold in exact units. -/
def State.stepThr (s : State) : Nat := clampNat 1 1000 (s.get F.TIM_SERVO_LIMIT_STEP_THR) * 1000 * nsUnit

/-- The lock threshold in exact units. -/
def State.lockThr (s : State) : Nat := max 1 (s.get F.TIM_SERVO_CFG_LOCK_THR) * nsUnit

/-- Gain · e · 10^6 / (256 · T_u) ppb in units of 1/256 ppb, e in exact units. -/
def State.servoTerm (s : State) (gain : Nat) (e : Int) : Int :=
  ((gain : Int) * e * 1000000).tdiv ((s.tfDiv * cycleUsOf s.actCyc * nsUnit : Nat) : Int)

/-- Move TRAIN_TIME by `e`. -/
def State.moveTime (s : State) (e : Int) : State :=
  { s with tim := { s.tim with tt := ((s.tim.tt : Int) + e).toNat } }

/-- No update within LOCK_THR stands. -/
def State.clearWithin (s : State) : State := { s with tim := { s.tim with within := 0 } }

/-- A forward step (R236). -/
def State.servoStep (s : State) (e : Int) : State :=
  let s := ((s.moveTime e).satInc F.TIM_SERVO_CNT_STEPS).raise P.TIM_BASE 1
  let s := s.wr R.TIM_SERVO_ADJ (s.rd R.TIM_SERVO_INTEG)
  if s.timState = 3 then (s.timEnter 2) else s.clearWithin

/-- Slewing down (R236). -/
def State.servoSlew (s : State) : State :=
  let was := s.bit F.TIM_BASE_STAT_AHEAD
  let s := (s.wr R.TIM_SERVO_ADJ (BitVec.ofNat 32 (ofSigned 32 (-(s.slewLimit : Int))))).putB F.TIM_BASE_STAT_AHEAD true
  let s := if was then s else s.raise P.TIM_BASE 2
  if s.timState = 3 then (s.timEnter 2) else s.clearWithin

/-- The update within the threshold (R236), and the changes between ACQUIRE and LOCKED (R237). -/
def State.servoTrack (s : State) (e : Int) : State :=
  let i := clampSym s.slewLimit (toSigned 32 (s.rd R.TIM_SERVO_INTEG).toNat + s.servoTerm (s.get F.TIM_SERVO_GAIN_KI) e)
  let a := clampSym s.slewLimit (s.servoTerm (s.get F.TIM_SERVO_GAIN_KP) e + i)
  let s := (s.wr R.TIM_SERVO_INTEG (BitVec.ofNat 32 (ofSigned 32 i))).wr R.TIM_SERVO_ADJ (BitVec.ofNat 32 (ofSigned 32 a))
  let s := s.putB F.TIM_BASE_STAT_AHEAD false
  let s := if e.natAbs ≤ s.lockThr then { s with tim := { s.tim with within := s.tim.within + 1, beyond := 0 } }
    else { s with tim := { s.tim with within := 0, beyond := s.tim.beyond + 1 } }
  if s.timState = 2 ∧ max 1 (s.get F.TIM_SERVO_CFG_LOCK_N) ≤ s.tim.within then s.timEnter 3
  else if s.timState = 3 ∧ 3 ≤ s.tim.beyond then s.timEnter 2
  else s

/-- The servo runs on PLL_LINE only (R338). -/
def State.servoRuns (s : State) : Bool := s.get (F.SYS_CLK_ISL_CUR I.TIM) == 3

/-- One servo update (R236); FREE and HOLDOVER pass to ACQUIRE first (R237). -/
def State.servo (s : State) (e : Int) : State :=
  if !s.servoRuns then s
  else
    let s := s.wr R.TIM_SERVO_OFFS (BitVec.ofNat 32 (satSigned 32 (e * 16 / (nsUnit : Int))))
    let s := if s.timState = 1 ∨ s.timState = 4 then s.timEnter 2 else s
    if (s.stepThr : Int) < e then s.servoStep e
    else if e < -(s.stepThr : Int) then s.servoSlew
    else s.servoTrack e

/-! Time frames (R230 to R235). -/

/-- A WALL offset comes into force. -/
def State.wofsSet (s : State) (w : WofsPend) : State :=
  (({ s with tim := { s.tim with pend := none, wk := w.wk } }.setWofs w.wofs).put F.TIM_BASE_WCTL_WGEN w.wgen).putB
    F.TIM_BASE_WCTL_WPEND false

/-- A WALL offset comes into force, and WALL changes (R238 to R240). -/
def State.wofsApply (s : State) (w : WofsPend) : State :=
  let old := s.wall
  let s := s.wofsSet w
  if s.timState = 0 then s else s.wallStep old 3

/-- A usable frame carries another WOFS than the one in force, and its WK is not later than the cycle (R239). -/
def State.wofsNow (s : State) (w : WofsPend) : Bool :=
  !(s.wofs == w.wofs && s.get F.TIM_BASE_WCTL_WGEN == w.wgen) && !laterThan 32 w.wk s.cycle

/-- The servo update and the WOFS of a usable frame at a node that is not grandmaster (R236, R239): changes of WALL in one tick give
one record (R240), of the forward step (log entry 87). -/
def State.timFollow (s : State) (e : Int) (w : WofsPend) : State :=
  let old := s.wall
  let stepped := s.servoRuns && decide ((s.stepThr : Int) < e)
  let s := s.servo e
  if s.wofsNow w then
    (s.wofsSet w).wallStep old (if stepped then 2 else 3)
  else
    let s := if stepped then s.wallStep old 2 else s
    if s.wofs = w.wofs ∧ s.get F.TIM_BASE_WCTL_WGEN = w.wgen then s
    else { s with tim := { s.tim with pend := some w } }.putB F.TIM_BASE_WCTL_WPEND true

/-- Frames of a second source stand (R230). -/
def State.gmConflict (s : State) : State :=
  ({ s with tim := { s.tim with single := 0 } }.putB F.TIM_BASE_STAT_GM_CONFLICT true).raise P.TIM_BASE 6

/-- The offset e of a frame and the capture that it uses (R234, R235); none: the frame is not usable. -/
def State.timeOffset (s : State) (p : BPort) (f : NFrame) : Option (Int × Option (Line × MarkerRec)) :=
  let b := f.payload
  let t : Int := ((ofBytes (bytesAt b 4 8) * 65536 + ofBytes (bytesAt b 12 2)) * nsUnit / 65536 : Nat)
  if (b.getD 14 0).getLsbD 7 then
    let l := s.get (if p.side = 0 then F.BL_BEAM_LDLY_P1 p.line else F.BL_BEAM_LDLY_P2 p.line)
    if l = 0 then none
    else some (t + toSigned 64 (ofBytes (bytesAt b 16 8)) * nsUnit / 65536 + l * tickUnit - s.tim.tt, none)
  else match s.markerOf (ofBytes (bytesAt b 0 4)) with
    | none => none
    | some (l, m) => some (t + m.d * tickUnit - m.tt, some (l, m))

/-- A frame of class 5 that FAB has accepted reaches TIM (R230, R231, R234 to R239). -/
def State.timeFrameRx (s : State) (p : BPort) (f : NFrame) : State :=
  if !s.timOn || f.cls != 5 || nfMalformed f then s
  else match s.acceptTable f with
  | none => s
  | some tab =>
    if !s.addressed tab f then s
    else if f.flow ≠ 1 ∨ f.payload.length < 40 then s.satInc F.TIM_SERVO_CNT_NOREF
    else if f.src = 0 ∨ s.identVeh tab f.src ≠ 1 then s
    else if s.timState = 5 then
      if f.src = s.node then s else s.gmConflict
    else if !s.enabled P.TIM_BASE then s
    else
      let other := match s.tim.lastSrc with
        | some (src, c) => if src ≠ f.src ∧ (s.cycle + 2 ^ 32 - c) % 2 ^ 32 ≤ s.tfDiv then some src else none
        | none => none
      let s := if other.isSome then s.gmConflict else s
      if (other.getD 511) < f.src then s
      else
        let s := { s with tim := { s.tim with lastSrc := some (f.src, s.cycle) } }
        match s.timeOffset p f with
        | none => s.satInc F.TIM_SERVO_CNT_NOREF
        | some (e, cap) =>
          let b := f.payload
          let w : WofsPend := ⟨ofBytes (bytesAt b 24 8), ofBytes (bytesAt b 32 2), ofBytes (bytesAt b 34 4)⟩
          let s := (s.wrapInc F.TIM_SERVO_USED_CNT).put F.TIM_BASE_STAT_GM_NODE f.src
          let s := { s with tim := { s.tim with idle := 0 } }.putB F.TIM_BASE_STAT_OUTW cap.isNone
          let s := match cap with
            | some (l, m) => { s with tim := { s.tim with capUsed := m } }.put F.TIM_BASE_STAT_LINE l.idx
            | none => s
          if s.timState = 0 then
            let old := s.wall
            (((s.moveTime e).wofsSet w).timEnter 2).wallStep old 1
          else s.timFollow e w

/-- No usable frame for TF_MISS × TF_DIV cycles (R237). -/
def State.holdover (s : State) : State :=
  if s.timOn && (s.timState == 2 || s.timState == 3) && decide (s.tfMiss * s.tfDiv ≤ s.tim.idle) then s.timEnter 4 else s

/-- One source of time frames for TF_MISS × TF_DIV cycles (R230). -/
def State.gmConflictClear (s : State) : State :=
  if s.timOn && decide (s.tfMiss * s.tfDiv ≤ s.tim.single) then s.putB F.TIM_BASE_STAT_GM_CONFLICT false else s

/-- A carried write of TIM_BASE_CMD (R237). -/
def State.timCmd (s : State) (q : Requester) (v : Word) : State :=
  s.locked q R.TIM_BASE_CMD fun s =>
    if v.getLsbD 0 ∧ s.timState = 0 then
      let old := s.wall
      (({ s with tim := { s.tim with tt := s.mono5 * (nsUnit / 5) } }.wr R.TIM_SERVO_ADJ 0).timEnter 1).wallStep old 1
    else s

/-- A carried write of the WOFS pair (R238). -/
def State.wofsWrite (s : State) (q : Requester) (hi lo : Word) : State :=
  s.locked q R.TIM_BASE_WOFS_LO fun s =>
    if s.timState ≠ 5 ∨ s.bit F.TIM_BASE_WCTL_WPEND then s.raise P.TIM_BASE 5
    else
      let w : WofsPend := ⟨hi.toNat * 2 ^ 32 + lo.toNat, (s.get F.TIM_BASE_WCTL_WGEN + 1) % 65536,
        (s.cycle + max 4 (s.get F.TIM_BASE_WCTL_WLEAD)) % 2 ^ 32⟩
      { s with tim := { s.tim with pend := some w } }.putB F.TIM_BASE_WCTL_WPEND true

/-- At the start of cycle WK a pending offset takes effect (R238, R239). -/
def State.wofsBoundary (s : State) : State :=
  match s.tim.pend with
  | some w => if s.timOn && w.wk == s.cycle then s.wofsApply w else s
  | none => s

/-- A carried write of TIM_TS_SEL: the latest capture of SRC as one set. -/
def State.tsCopy (s : State) (v : Word) : State :=
  let s := s.wr R.TIM_TS_SEL (v &&& 7)
  let m := match v.toNat % 8 with
    | 0 => some s.tim.capBoundary
    | 1 => some (s.tim.recsA.headD .reset)
    | 2 => some (s.tim.recsB.headD .reset)
    | 3 => some s.tim.capUsed
    | _ => none
  match m with
  | none => s
  | some m =>
    let ns := m.tt / nsUnit
    let s := (s.wr R.TIM_TS_CYC (BitVec.ofNat 32 m.cycle)).wr R.TIM_TS_LO (BitVec.ofNat 32 ns)
    (s.wr R.TIM_TS_HI (BitVec.ofNat 32 (ns / 2 ^ 32))).wr R.TIM_TS_D (BitVec.ofNat 32 (m.seg.toNat * 2 ^ 31 + m.d))

/-! IEEE 802.1AS (R241, R242). A port's state lies in 16 bytes of RAM: ASCAP, link delay, SYNC_TX, PD_FAIL, ANN_RX. -/

def asAddr (port : Nat) : Nat := 0x09300000 + 16 * port

/-- IEEE 802.1AS is enabled on a consist port that has link. -/
def State.asEnabled (s : State) (port : Nat) : Bool :=
  s.timOn && decide (port < 8) && (s.get F.TIM_AS_CTRL_EN).testBit port && s.bit (F.CP_P_STAT_LINK port)

/-- Sync and Announce are sent only in ACQUIRE, LOCKED, HOLDOVER and GM. -/
def State.asSends (s : State) (port : Nat) : Bool := s.asEnabled port && decide (2 ≤ s.timState)

/-- Sync and Follow_Up (R241). -/
def State.gptpSync (s : State) (port seq : Nat) : State :=
  if !s.asSends port then s
  else
    let s := (s.emit (.gptp port (.sync seq))).emit
      (.gptp port (.followUp seq s.wall (s.get F.TIM_AS_TBI_TBI) s.tim.phaseChange 0))
    s.wrNum (asAddr port + 4) 2 (s.rdNum (asAddr port + 4) 2 + 1)

/-- Announce (R241, R242). -/
def State.gptpAnnounce (s : State) (port seq : Nat) : State :=
  if !s.asSends port then s
  else
    let prio := if s.role = 1 ∨ s.role = 4 then s.get F.TIM_AS_PRIO_PRIO1_ACT else s.get F.TIM_AS_PRIO_PRIO1_SBY
    s.emit (.gptp port (.announce seq prio (s.get F.TIM_AS_PRIO_CLASS) 0xFE 0x4E5D (s.get F.TIM_AS_PRIO_PRIO2) s.clockIdentity 0 0xA0
      (s.get F.TIM_AS_UTC_OFFSET) (s.bit F.TIM_AS_UTC_VALID)))

/-- The end of a link-delay exchange: asCapable and the delay, or a failed exchange. -/
def State.asDelay (s : State) (port delay : Nat) (ok capable : Bool) : State :=
  let a := asAddr port
  let was := s.rdNum a 1
  if ok then
    let cap := (capable && decide (delay ≤ 800)).toNat
    let s := (s.wrNum a 1 cap).wrNum (a + 1) 3 delay
    if cap = was then s else s.raise P.TIM_AS 0
  else
    let s := (s.wrNum (a + 6) 1 (min 255 (s.rdNum (a + 6) 1 + 1))).raise P.TIM_AS 1
    if capable || was == 0 then s else (s.wrNum a 1 0).raise P.TIM_AS 0

/-- A peer-delay exchange of a consist port runs (R241). -/
def State.gptpPdelay (s : State) (port delay : Nat) (ok capable : Bool) : State :=
  if !s.asEnabled port then s else (s.emit (.gptp port .pdelayReq)).asDelay port delay ok capable

/-- A gPTP message is received on a consist port (R241). -/
def State.gptpRx (s : State) (port : Nat) (m : GptpMsg) : State :=
  if !s.asEnabled port then s
  else match m with
    | .announce => s.wrNum (asAddr port + 7) 1 (min 255 (s.rdNum (asAddr port + 7) 1 + 1))
    | .pdelayReq seq => s.emit (.gptp port (.pdelayResp seq))
    | .pdelayResp delay capable => s.asDelay port delay true capable
    | .other => s

/-! The commands. -/

def execTimeFrameRx (p : BPort) (f : NFrame) (s : State) : Host.Outcome State Fault Refusal := .next (s.timeFrameRx p f)
def execHoldover (s : State) : Host.Outcome State Fault Refusal := .next s.holdover
def execGmConflictClear (s : State) : Host.Outcome State Fault Refusal := .next s.gmConflictClear

/-- START (R237): a write of TIM_BASE_CMD. -/
def execStart (q : Requester) (v : Word) (s : State) : Host.Outcome State Fault Refusal :=
  .next (s.carry q R.TIM_BASE_CMD v fun s => s.timCmd q v)

/-- WOFS_COMMIT (R238): a write of the WOFS pair, its high word and then its low word (R34). -/
def execWofsCommit (q : Requester) (hi lo : Word) (s : State) : Host.Outcome State Fault Refusal :=
  .next (s.carryPair q R.TIM_BASE_WOFS_HI R.TIM_BASE_WOFS_LO hi lo fun s => s.wofsWrite q hi lo)

def execGptpSyncSend (port seq : Nat) (s : State) : Host.Outcome State Fault Refusal := .next (s.gptpSync port seq)
def execGptpAnnounceSend (port seq : Nat) (s : State) : Host.Outcome State Fault Refusal := .next (s.gptpAnnounce port seq)
def execGptpPdelay (port delay : Nat) (ok capable : Bool) (s : State) : Host.Outcome State Fault Refusal :=
  .next (s.gptpPdelay port delay ok capable)
def execGptpMessageRx (port : Nat) (m : GptpMsg) (s : State) : Host.Outcome State Fault Refusal := .next (s.gptpRx port m)

/-- TS_CAPTURE_COPY (R243): a write of TIM_TS_SEL. -/
def execTsCaptureCopy (q : Requester) (v : Word) (s : State) : Host.Outcome State Fault Refusal :=
  .next (s.carry q R.TIM_TS_SEL v fun s => s.tsCopy v)

end Sys2Proof.Machine
end

