-- ==== Sys2Proof/Machine/Top.lean ====
section
/-!
DEFINITION. Inauguration from the numbering to the flip, the bind table, and ETB compatibility mode (R73 to R108).
-/

namespace Sys2Proof.Machine

/-! The ordered union (R85). -/

/-- An identity in a line's sequence from port 1's side to port 2's, with the side that its own port 1 faces. -/
structure Placed where
  id : Ident
  /-- Its port 1 faces the side of this node's port 1. -/
  p1Left : Bool
deriving DecidableEq, Repr

/-- The identities known through XIDENT on a side; a split node takes them from the other line's side itself. -/
def State.beyond (s : State) (p : BPort) : List Ident :=
  if s.lineOpen p.line && !s.bit (F.BL_P_STAT_LINK p) && s.linked p.across then (s.view p.across).chain
  else (s.view p).xidents

/-- The identities of one line from port 1's side to port 2's, this node among them. -/
def State.lineSeq (s : State) (l : Line) : List Placed :=
  let left := (s.beyond (l.port false) ++ (s.view (l.port false)).idents).map fun i => (⟨i, !i.face⟩ : Placed)
  let right := (s.beyond (l.port true) ++ (s.view (l.port true)).idents).map fun i => (⟨i, i.face⟩ : Placed)
  left ++ [⟨s.ownIdent false false false, true⟩] ++ right.reverse

/-- Two sequences merged in the one way that keeps both orders; none: no way, or more than one. `fuel` bounds the length. -/
def mergeSeq : Nat → List Placed → List Placed → Option (List Placed)
  | 0, _, _ => some []
  | _, [], bs => some bs
  | _, as, [] => some as
  | n + 1, a :: as, b :: bs =>
    let aIn := bs.any fun x => x.id.serial == a.id.serial
    let bIn := as.any fun x => x.id.serial == b.id.serial
    if a.id.serial = b.id.serial then (mergeSeq n as bs).map (a :: ·)
    else if !aIn && bIn then (mergeSeq n as (b :: bs)).map (a :: ·)
    else if aIn && !bIn then (mergeSeq n (a :: as) bs).map (b :: ·)
    else none

/-- The ordered union, and whether the views conflict (R85). -/
def State.union (s : State) : List Placed × Bool :=
  let a := s.lineSeq .a
  let b := s.lineSeq .b
  match mergeSeq (a.length + b.length) a b with
  | some u => (u, false)
  | none => (if a.length < b.length then b else a, true)

/-! Numbering (R87). -/

/-- A numbered identity. -/
structure Numbered where
  id : Ident
  node : Nat
  veh : Nat
  fwd : Bool
deriving DecidableEq, Repr

/-- The reference end is the left end. -/
def refLeft (u : List Placed) : Bool :=
  let cab := fun (x : Placed) => x.id.cab
  let d1 := (u.findIdx? cab).getD 5000
  let d2 := (u.reverse.findIdx? cab).getD 5000
  if d1 < d2 then true
  else if d2 < d1 then false
  else decide ((u.head?.map (·.id.serial)).getD 0 ≤ (u.getLast?.map (·.id.serial)).getD 0)

/-- Number a chain whose reference end is first: the numbered identities, VTAG_RUN, LIMIT. -/
def numberChain : List (Ident × Bool) → Nat → Nat → Nat → Nat → List Numbered × Bool × Bool
  | [], _, _, _, _ => ([], false, false)
  | (i, fwd) :: rest, n, v, prev, run =>
    let second := i.vtag != 0 && i.vtag == prev && run == 1
    let v' := if second then v else v + 1
    let third := !second && i.vtag != 0 && i.vtag == prev
    if 510 < n + 1 ∨ 254 < v' then ([], third, true)
    else
      let r := numberChain rest (n + 1) v' i.vtag (if second then 2 else 1)
      (⟨i, n + 1, v', fwd⟩ :: r.1, third || r.2.1, r.2.2)

/-- Two nodes of one vehicle for which `bad` holds. -/
def vehPair (ns : List Numbered) (bad : Numbered → Numbered → Bool) : Bool :=
  (ns.zip (ns.drop 1)).any fun e => e.1.veh == e.2.veh && bad e.1 e.2

/-- Bytes 0 to 31 of an identity entry (R88). -/
def entryBytes (x : Numbered) (lines : Nat) : List Byte :=
  beBytes 8 x.id.serial ++ beBytes 8 x.id.vtag ++ beBytes 2 x.node ++ beBytes 1 x.veh ++
  beBytes 1 (x.id.tpos.toNat * 128 + x.id.cab.toNat * 64 + x.fwd.toNat * 32 + x.id.solo.toNat * 16) ++
  beBytes 2 x.id.cur ++ beBytes 1 lines ++ beBytes 8 0 ++ beBytes 1 0

/-! Split records (R86). -/

/-- The pairs of serials between which line L has no link. -/
def State.breaks (s : State) (l : Line) : List (Nat × Nat) :=
  let side := fun (p : BPort) =>
    match (s.beyond p).getLast?, ((s.view p).idents.map (·.serial) ++ [s.serial]).head? with
    | some x, some d => [(x.serial, d)]
    | _, _ => []
  side (l.port false) ++ side (l.port true)

/-- LINES of an identity: its absences and the breaks after it. The node itself is absent on a line that it bypasses. -/
def State.linesByte (s : State) (ns : List Numbered) (x : Numbered) : Nat :=
  let absent := fun (l : Line) => !(s.lineSeq l).any (fun y => y.id.serial == x.id.serial) ||
    (x.id.serial == s.serial && !s.lineOpen l)
  let nodeOf := fun (serial : Nat) => ((ns.find? fun y => y.id.serial == serial).map (·.node)).getD 0
  let broken := fun (l : Line) => (s.breaks l).any fun b =>
    nodeOf b.1 != 0 && nodeOf b.2 != 0 && min (nodeOf b.1) (nodeOf b.2) == x.node
  (absent .a).toNat * 8 + (absent .b).toNat * 4 + (broken .a).toNat * 2 + (broken .b).toNat

/-- TOP_SPLIT of a line from identity table 0: breaks in `bit`, absences in `abs` of byte 22. -/
def State.splitRecord (s : State) (l : Line) : State :=
  let nodes := s.get F.TOP_COUNT_NODES
  let lines := (List.range nodes).map fun i => (i + 1, s.rdByte (identAddr 0 (i + 1) + 22))
  let br := lines.filter fun e => e.2.getLsbD (1 - l.idx)
  let ab := lines.filter fun e => e.2.getLsbD (3 - l.idx)
  let off := match l with
    | .a => R.TOP_SPLIT_A
    | .b => R.TOP_SPLIT_B
  let old := F.TOP_SPLIT_A_CNT.of (s.rd off)
  let at' := (br.head?.map (·.1)).getD 0
  let s := s.wr off (BitVec.ofNat 32 (min 255 br.length * 2 ^ 24 + min 255 ab.length * 2 ^ 16 + at'))
  if old = br.length then s
  else (s.raise P.TOP_INAUG 4).post 0x1012 2 (subject 0 l.idx) (beBytes 1 br.length ++ beBytes 2 at' ++ beBytes 1 ab.length)

/-! The bind table (R98). -/

def bindAddr (i : Nat) : Nat := 0x10100000 + 16 * i

/-- NODE_A, NODE_B, VEH, STAT of bind entry `i` in the numbering of identity table `t`, and whether its tag occurs in several
vehicles. -/
def State.bindLookup (s : State) (t nodes i : Nat) : List Byte × Bool :=
  let key := s.rdNum (bindAddr i) 8
  let all := (List.range nodes).map (· + 1)
  let none' := (beBytes 6 0, false)
  if key = 0 then none'
  else match s.rdNum (bindAddr i + 8) 1 with
  | 1 => match all.find? fun n => s.identSerial t n == key with
    | some n => (beBytes 2 n ++ beBytes 2 0 ++ beBytes 1 (s.identVeh t n) ++ beBytes 1 1, false)
    | none => none'
  | 2 =>
    let hits := all.filter fun n => s.rdNum (identAddr t n + 8) 8 == key
    match hits with
    | [] => none'
    | n :: _ =>
      let v := s.identVeh t n
      let mine := hits.filter fun m => s.identVeh t m == v
      (beBytes 2 n ++ beBytes 2 (mine.getD 1 0) ++ beBytes 1 v ++ beBytes 1 1, mine.length != hits.length)
  | _ => none'

/-- The bind entries in use. -/
def State.bindsUsed (s : State) : List Nat := (List.range 1024).filter fun i => s.rdByte (bindAddr i + 8) != 0

/-- Resolve every bind entry against the shadow numbering (R99); a tag of several vehicles sets VTAG_RUN with its event (R98). -/
def State.bindShadow (s : State) (nodes : Nat) : State :=
  s.bindsUsed.foldl (fun s i =>
    let r := s.bindLookup 1 nodes i
    let s := s.wrBytes (0x10180000 + 8 * i) r.1
    if r.2 then (s.flag 7).raise P.TOP_INAUG 5 else s) s

/-- The shadow results of the bind table come into force. -/
def State.bindFlip (s : State) : State :=
  s.bindsUsed.foldl (fun s i => s.wrBytes (bindAddr i + 10) (s.rdBytes (0x10180000 + 8 * i) 6)) s

/-! Numbering (R85 to R89, R99). -/

/-- INAUG_FLAG: TOP_STAT with the attempt's flags. -/
def State.postFlags (s : State) : State :=
  s.post 0x1013 3 0 (beBytes 4 (maskIn (s.rd R.TOP_STAT) 0x1FF (BitVec.ofNat 32 s.top.flags)).toNat)

/-- The record of the flags that a numbering has set, if any. -/
def State.recordFlags (s : State) : State := if s.top.flags &&& 0x1F0 = 0 then s else s.postFlags

/-- Store a shadow numbering with its entries. -/
def State.storeShadow (s : State) (entries : List (List Byte)) (n : Numbering) : State :=
  let s := s.clearMem fun a => decide (0x10010000 ≤ a ∧ a < 0x10020000)
  let s := s.wrBytes (identAddr 1 1) entries.flatten
  { s with top := { s.top with shadow := some n } }

/-- Every binding and every allocation for the shadow numbering (R99, R124). -/
def State.prepareShadow (s : State) (nodes : Nat) : State :=
  let s := s.bindShadow nodes
  let s := if s.isOn I.FAB then s.retarget else s
  { s with beam := { s.beam with shadow := some (s.allocate 1 nodes (s.rd R.TOP_SLOT_CYC) (s.rd R.TOP_SLOT_LAYOUT)) } }

/-- A flag of the attempt that is set by the numbering, with its event. -/
def State.flagIf (s : State) (c : Bool) (b ev : Nat) : State := if c then (s.flag b).raise P.TOP_INAUG ev else s

/-- Send READY towards the reference end on both lines (R89). -/
def State.sendReady (s : State) (fwd : Bool) : State :=
  let f := s.topFrame 7 0 (beBytes 8 s.serial)
  [Line.a, Line.b].foldl (fun s l =>
    let x := l.port (!fwd)
    let s := s.send x f
    if s.ctlDirs.contains x then s.toCtl x f else s) s

/-- Time from joining to now, in µs, for DUR of TOP_LAST. -/
def State.attemptDur (s : State) : State := s.put F.TOP_LAST_DUR (min 0xFFFFFF ((s.mono - s.top.joinedAt) / 1000))

/-- The attempt ends null (R90): split records are updated, the numbering stays. -/
def State.endNull (s : State) : State :=
  let nodes := s.get F.TOP_COUNT_NODES
  let s := (List.range nodes).foldl (fun s i => s.wrByte (identAddr 0 (i + 1) + 22) (s.rdByte (identAddr 1 (i + 1) + 22))) s
  let s := ((s.splitRecord .a).splitRecord .b).attemptDur
  let s := (((s.flag 0).satInc F.TOP_CNT_NULLS).raise P.TOP_INAUG 2)
  s.endAttempt

/-! COMMIT (R90 to R93, R95). -/

/-- A commit record from a payload. -/
def commitOf (b : List Byte) : CommitRec :=
  { k := ofBytes (bytesAt b 0 4), nodes := ofBytes (bytesAt b 4 2) % 512, vehicles := ofBytes (bytesAt b 6 1),
    null := (b.getD 7 0).getLsbD 7, limit := (b.getD 7 0).getLsbD 6, digest := BitVec.ofNat 32 (ofBytes (bytesAt b 8 4)),
    lead := ofBytes (bytesAt b 12 4), ref := ofBytes (bytesAt b 16 8) }

def commitBytes (c : CommitRec) : List Byte :=
  beBytes 4 c.k ++ beBytes 2 c.nodes ++ beBytes 1 c.vehicles ++ beBytes 1 (c.null.toNat * 128 + c.limit.toNat * 64) ++
  beBytes 4 c.digest.toNat ++ beBytes 4 c.lead ++ beBytes 8 c.ref

/-- The current reference end. -/
def State.topRef (s : State) : Nat := s.get F.TOP_REF_HI_REF * 2 ^ 32 + s.get F.TOP_REF_LO_REF

/-- A node other than the one that sent a COMMIT flips at its own cycle K (R93): its reference end is the sender, and its boundary
follows a locked direction or its own origin. Otherwise it flips by LEAD. -/
def State.flipsByK (s : State) (c : CommitRec) : Bool := s.topRef == c.ref && s.boundaryLine.isSome

/-- The flip time of a COMMIT received at MONO `rx` has passed (R93): cycle K has started, or LEAD has elapsed. -/
def State.flipPassed (s : State) (c : CommitRec) (rx : Nat) : Bool :=
  if s.flipsByK c then !laterThan 32 c.k s.cycle else decide (rx + 1000 * c.lead ≤ s.mono)

/-- Act on a COMMIT with the numbering complete (R93, R95); `late`: its flip time has passed. -/
def State.actOn (s : State) (c : CommitRec) (late : Bool) : State :=
  match s.top.shadow with
  | none => s
  | some n =>
    let miss := c.digest != n.digest
    let s := if miss then ((s.flag 3).raise P.TOP_INAUG 6).postFlags else s
    if c.null && !miss then s.endNull
    else
      let byK := !late && s.flipsByK c
      let s := { s with top := { s.top with
        acted := some c, digestMiss := miss, flipAt := if byK then .cycle c.k else .lead, kept := none } }
      s.put F.TOP_SHADOW_PHASE 4

/-- The view of the node is complete (R83). -/
def State.viewComplete (s : State) : Bool := allPorts.all fun p => (s.view p).complete

/-- A received READY (R77, R89). -/
def State.rxReady (s : State) (p : BPort) (f : NFrame) : State :=
  let s := { s with top := { s.top with readySeen := true } }
  if f.beam || s.top.readyOut.contains p.opposite then s
  else ({ s with top := { s.top with readyOut := p.opposite :: s.top.readyOut } }).relay p f

/-- A received COMMIT (R77, R93, R95): the first copy is acted on, or kept until the numbering completes. -/
def State.rxCommit (s : State) (p : BPort) (f : NFrame) : State :=
  let s := if f.beam || s.top.commitOut.contains p.opposite then s
    else ({ s with top := { s.top with commitOut := p.opposite :: s.top.commitOut } }).relay p f
  let c := commitOf f.payload
  if s.phase = 3 ∧ s.top.acted.isNone then s.actOn c false
  else if s.phase < 3 ∧ s.top.kept.isNone then { s with top := { s.top with kept := some (c, s.mono) } }
  else s

/-- The attempt is null in the reference-end node (R90). -/
def State.isNull (s : State) (n : Numbering) : Bool :=
  n.nodes == s.get F.TOP_COUNT_NODES && s.epoch != 0 &&
  n.curs.all (· == s.epoch) && (List.range n.nodes).all fun i =>
    s.rdBytes (identAddr 1 (i + 1)) 20 == s.rdBytes (identAddr 0 (i + 1)) 20

/-- The reference-end node sends COMMIT and acts on it (R89 to R93); `lead`: µs from its insertion to cycle K. -/
def State.commitInsert (s : State) (lead : Nat) : State :=
  match s.top.shadow with
  | none => s
  | some n =>
    if !s.isOn I.TOP || s.phase != 3 || n.node != 1 || s.top.acted.isSome || !(s.top.readySeen || n.nodes == 1) then s
    else
      let slots := s.ctlDirs
      let k := (s.cycle + (if slots.isEmpty then 2 else 1)) % 2 ^ 32
      let c : CommitRec := {
        k := k, nodes := n.nodes, vehicles := n.vehicles, null := s.isNull n, limit := decide (s.top.flags &&& 0x100 ≠ 0),
        digest := n.digest, lead := lead, ref := n.ref }
      let f := s.topFrame 6 0 (commitBytes c)
      let s := [Line.a, Line.b].foldl (fun s l =>
        let x := l.port n.fwd
        let s := s.send x f
        if slots.contains x then s.toCtl x f else s) s
      if c.null then s.endNull
      else { s with top := { s.top with acted := some c, flipAt := .cycle k } }.put F.TOP_SHADOW_PHASE 4

/-! The flip (R94, R104). -/

/-- A line interface follows the numbering: NORMAL with a node number, LISTEN without (R61). -/
def State.lineNumbered (s : State) (l : Line) (numbered : Bool) : State :=
  let want := if numbered then 2 else 1
  if !s.lineOpen l || s.get (F.BL_LINE_STAT_STATE l) == want then s
  else
    let s := (s.put (F.BL_LINE_STAT_STATE l) want).raise (P.LINE l) 0
    s.post (lineIsland l * 256 + 0x10) 1 0 (beBytes 4 (s.rd (R.BL_LINE_STAT l)).toNat)

/-- Copy an identity table. -/
def State.copyTable (s : State) (src dst : Nat) : State :=
  let bs := s.rdBytes (identAddr src 1) (510 * 32)
  let base := identAddr dst 1
  (s.clearMem fun a => decide (base ≤ a ∧ a < base + 0x10000)).wrBytes base bs

/-- The registers of a numbering. -/
def State.takeNumbering (s : State) (n : Numbering) (node : Nat) : State :=
  let s := s.wr R.TOP_NODE (if node = 0 then 0 else BitVec.ofNat 32
    (2 ^ 31 + n.fwd.toNat * 2 ^ 30 + (node == 1).toNat * 2 ^ 29 + (node == n.nodes).toNat * 2 ^ 28 + n.veh * 65536 + node))
  let s := s.wr R.TOP_COUNT (BitVec.ofNat 32 (n.nodes * 65536 + n.vehicles))
  (s.wr R.TOP_REF_HI (BitVec.ofNat 32 (n.ref / 2 ^ 32))).wr R.TOP_REF_LO (BitVec.ofNat 32 n.ref)

/-- Take up the triggers and frames held between acting on COMMIT and the flip (R104). -/
def State.takeHeld (s : State) (trig : Option (Nat × Option BPort)) (frames : List (BPort × NFrame))
    (rx : State → BPort → NFrame → State) : State :=
  match frames with
  | [] => match trig with
    | some (c, p) => s.trigger c p
    | none => s
  | (_, f0) :: _ =>
    let newest := frames.foldl (fun e x => if epochLater x.2.epoch e then x.2.epoch else e) f0.epoch
    let mine := frames.filter fun x => x.2.epoch == newest
    if !epochLater newest s.lastKnown then s
    else
      let s := s.joinAttempt newest 5 none
      let s := if mine.any fun x => x.2.flow == 1 then s else s.sendRequest 5
      mine.foldl (fun s x => rx s x.1 x.2) s

/-- A class 2 frame of the running attempt, by its type. -/
def State.rxType (s : State) (p : BPort) (f : NFrame) : State :=
  match f.flow with
  | 1 => s.rxRequest p f
  | 2 => s.rxJoin p
  | 3 => s.rxIdent p f
  | 4 => s.rxXident p f
  | 5 => s.rxXend p f
  | 6 => s.rxCommit p f
  | 7 => s.rxReady p f
  | _ => s

/-- ETB_GRACE in ns (R108). -/
def State.etbGraceNs (s : State) : Nat := clampNat 10 2000 (s.get F.TOP_ETB_CTRL_ETB_GRACE) * 1000000

/-- Boundaries left in the grace of ETB compatibility mode (R108), which began at MONO `t0` and has seen `n` of them: until ETB_GRACE
has passed, and four at least. -/
def State.etbLeft (s : State) (t0 n : Nat) : Nat :=
  let c := cycleUsOf s.actCyc * 1000
  max (4 - n) ((t0 + s.etbGraceNs - s.mono + c - 1) / c)

/-- GRACE shows the boundaries left, 15 for more than four. -/
def State.showEtbGrace (s : State) : State :=
  match s.top.etbGrace with
  | none => s
  | some (t0, n) => s.put F.TOP_SHADOW_GRACE (if 4 < s.etbLeft t0 n then 15 else s.etbLeft t0 n)

/-- The node switches epoch, identity tables, contexts, sub-slots and line states (R94). A flip at a boundary in ETB compatibility
mode shows K as 0xFFFF_FFFF: DESIGN CHOICE, log entry 73. -/
def State.flip (s : State) : State :=
  match s.top.shadow with
  | none => s
  | some n =>
    if !s.isOn I.TOP || s.phase != 4 || s.top.flipAt == .none then s
    else
      let top := s.top
      let e := s.shadowEpoch
      let old := s.epoch
      let node := if top.digestMiss then 0 else n.node
      let k := match top.flipAt with
        | .cycle k => k
        | _ => 0xFFFFFFFF
      let s := s.wr R.TOP_EPOCH (BitVec.ofNat 32 (old * 65536 + e))
      let s := (s.copyTable 0 2).copyTable 1 0
      let s := (s.bindFlip.takeNumbering n node).wr R.TOP_K (BitVec.ofNat 32 k)
      let s := ((s.splitRecord .a).splitRecord .b).attemptDur
      let s := if s.isOn I.FAB then
          let s := s.flipContexts
          s.validCtxs.foldl (fun s i => s.setSusp i) s
        else s
      let s := (s.lineNumbered .a (node != 0)).lineNumbered .b (node != 0)
      let s := s.slotActivate s.beam.shadow
      let s := s.gmUpdate
      let s := s.post 0x1010 1 0 (beBytes 2 e ++ beBytes 2 old ++ beBytes 2 node ++ beBytes 4 k)
      let s := (s.satInc F.TOP_CNT_COMMITS).raise P.TOP_INAUG 0
      let s := s.endAttempt.put F.TOP_SHADOW_GRACE 4
      let s := { s with top := { s.top with
        heldTrig := none, heldFrames := [], watch1 := .reset, watchN := .reset,
        etbGrace := if s.etb then some (s.mono, 0) else none } }
      let s := if s.etb then s.showEtbGrace else s
      let s := s.beamRefreshAll
      if top.digestMiss then s.trigger 6 none else s.takeHeld top.heldTrig top.heldFrames State.rxType

/-- The numbering (R85 to R89): with the view complete, the node numbers the union, resolves bindings, and, being the far end, sends
READY; a kept COMMIT is acted on. -/
def State.numbering (s : State) : State :=
  if !s.isOn I.TOP || s.phase == 0 || decide (3 ≤ s.phase) || !s.viewComplete then s
  else
    let u := s.union
    if 1024 < u.1.length then (((s.flag 8).raise P.TOP_INAUG 3).postFlags).endAttempt
    else
      let left := refLeft u.1
      let chain := if left then u.1.map fun x => (x.id, x.p1Left) else u.1.reverse.map fun x => (x.id, !x.p1Left)
      let r := numberChain chain 0 0 0 0
      let ns := r.1
      let s := s.flagIf u.2 4 5
      let s := s.flagIf r.2.1 7 5
      let s := s.flagIf (vehPair ns fun a b => a.id.tpos == b.id.tpos) 6 5
      let s := s.flagIf (vehPair ns fun a b => a.fwd != b.fwd) 5 5
      let s := s.flagIf r.2.2 8 3
      let entries := ns.map fun x => entryBytes x (s.linesByte ns x)
      let own := ns.find? fun x => x.id.serial == s.serial
      let digest := crc32c (beBytes 2 s.shadowEpoch ++ entries.flatMap (·.take 20))
      let n : Numbering := {
        nodes := ns.length, vehicles := (ns.getLast?.map (·.veh)).getD 0, node := (own.map (·.node)).getD 0,
        veh := (own.map (·.veh)).getD 0, fwd := (own.map (·.fwd)).getD false,
        ref := (ns.head?.map (·.id.serial)).getD 0, digest := digest, curs := u.1.map (·.id.cur) }
      let s := ((s.storeShadow entries n).prepareShadow ns.length).put F.TOP_SHADOW_PHASE 3
      let s := s.recordFlags
      let s := if n.node != 0 && n.node == n.nodes && n.nodes != 1 then s.sendReady n.fwd else s
      match s.top.kept with
      | some (c, at') => if s.flipPassed c at' then (s.actOn c true).flip else s.actOn c false
      | none => s

/-- The ETB grace that runs. -/
def State.setEtbGrace (s : State) (g : Option (Nat × Nat)) : State := { s with top := { s.top with etbGrace := g } }

/-- The grace ends: the previous table and keys are freed (R96, R100). -/
def State.graceOver (s : State) : State :=
  let s := (s.put F.TOP_SHADOW_GRACE 0).clearMem fun a => decide (0x10020000 ≤ a ∧ a < 0x10030000)
  let s := s.setEtbGrace none
  if s.isOn I.FAB then s.graceKeys else s

/-- ETB_GRACE has passed (R108): the grace ends where four boundaries have followed the flip. A native grace ends at its fourth
boundary and at no other moment (R96). -/
def State.graceEnd (s : State) : State :=
  match s.top.etbGrace with
  | some (t0, n) => if s.isOn I.TOP && s.etbLeft t0 n == 0 then s.graceOver else s
  | none => s

/-- The boundary number `n` of an ETB grace from `t0` on (R108). -/
def State.etbBoundary (s : State) (t0 n : Nat) : State :=
  let s := s.setEtbGrace (some (t0, n))
  if s.etbLeft t0 n = 0 then s.graceOver else s.showEtbGrace

/-- A cycle boundary of the grace (R96, R108). -/
def State.graceBoundary (s : State) : State :=
  let g := s.get F.TOP_SHADOW_GRACE
  match s.top.etbGrace with
  | some (t0, n) => s.etbBoundary t0 (min 4 (n + 1))
  | none => if g = 0 then s else if g = 1 then s.graceOver else s.put F.TOP_SHADOW_GRACE (g - 1)

/-- No usable COMMIT within COMMIT_T (R95). -/
def State.commitMiss (s : State) : State :=
  if !s.isOn I.TOP || s.phase != 3 || s.top.acted.isSome then s
  else
    let s := ((s.flag 2).raise P.TOP_INAUG 7).postFlags
    s.endAttempt.trigger 6 none

/-! Triggers (R73) and TOP_CMD. -/

/-- The silence of a watched node that has lasted three cycles and has not been recognised. -/
def EndWatch.due (w : EndWatch) : Bool := 3 ≤ w.silent && !w.taken

/-- No lantern of a watched end node for three cycles (R73): recognised once per silence. -/
def State.lanternLoss (s : State) : State :=
  let a := s.watches1 && s.top.watch1.due
  let b := s.watchesN && s.top.watchN.due
  if !s.isOn I.TOP || !(a || b) then s
  else
    let w1 := if a then { s.top.watch1 with taken := true } else s.top.watch1
    let wN := if b then { s.top.watchN with taken := true } else s.top.watchN
    ({ s with top := { s.top with watch1 := w1, watchN := wN } }).trigger 3 none

/-- A carried write of TOP_CMD. -/
def State.topCmd (s : State) (q : Requester) (v : Word) : State :=
  s.locked q R.TOP_CMD fun s =>
    let s := if v.getLsbD 1 then
        allPorts.foldl (fun s p => (s.flapHoldEnd p).setPort p { (s.flapHoldEnd p).port p with flaps := [] }) s
      else s
    if v.getLsbD 0 then s.trigger 4 none else s

/-! The bind table's command (R102). -/

/-- Bind entry `i` takes tag and KIND (its bytes 0 to 8), and is resolved against the numbering in force (R98, R102). -/
def State.bindStore (s : State) (i : Nat) (b : List Byte) : State :=
  let s := s.wrBytes (bindAddr i) (b.take 9 ++ [0])
  let r := s.bindLookup 0 (s.get F.TOP_COUNT_NODES) i
  let s := s.wrBytes (bindAddr i + 10) r.1
  let s := if r.2 then (s.putB F.TOP_STAT_VTAG_RUN true).raise P.TOP_INAUG 5 else s
  if s.isOn I.FAB then s.rebind i else s

/-- A carried write of TOP_TBL_CMD. -/
def State.tblCmd (s : State) (q : Requester) (v : Word) : State :=
  s.locked q R.TOP_TBL_CMD fun s =>
    if !v.getLsbD 0 || s.get F.TOP_TBL_SEL_TABLE != 3 then s
    else if s.phase != 0 then s.raise P.TOP_TABLE 0
    else
      let i := s.get F.TOP_TBL_SEL_INDEX
      let b := (List.range 3).flatMap fun n => beBytes 4 (s.rd (R.TOP_TBL_DATA n)).toNat
      s.bindStore i b

/-! ETB compatibility mode (R107, R108). -/

/-- Firmware writes a TTDP topology: the counter, this node's place from 1 (0 for none), and the ETBNs in order. While inauguration is
inhibited none is taken (R107). CAB, SOLO and CUR of its entries are 0: DESIGN CHOICE, log entry 74. -/
def State.ttdpTopology (s : State) (topo own : Nat) (nodes : List TtdpNode) : State :=
  if !s.isOn I.TOP || !s.etb || s.bit F.TOP_ETB_STAT_INHIBITED then s
  else
    let r := numberChain ((nodes.take 63).map fun t =>
      (({ serial := t.serial, vtag := t.vtag, tpos := t.tpos, cab := false, face := false, start := false, split := false, solo := false,
          hops := 0, cur := 0 } : Ident), t.fwd)) 0 0 0 0
    let ns := r.1
    let me := ns.find? fun x => x.node == own
    let s := if 63 < nodes.length then s.raise P.TOP_ETB 1 else s
    let s := (s.wr R.TOP_ETB_TOPO (BitVec.ofNat 32 topo)).raise P.TOP_ETB 0
    let s := ((s.put F.TOP_ETB_STAT_ETBN ((me.map (·.node)).getD 0)).put F.TOP_ETB_STAT_COUNT ns.length).putB F.TOP_ETB_STAT_VALID true
    let e := epochSucc s.lastKnown
    let s := { s with top := { s.top with lastS := e, flags := 0, joinedAt := s.mono } }
    let entries := ns.map fun x => entryBytes x 0
    let n : Numbering := {
      nodes := ns.length, vehicles := (ns.getLast?.map (·.veh)).getD 0, node := (me.map (·.node)).getD 0,
      veh := (me.map (·.veh)).getD 0, fwd := (me.map (·.fwd)).getD false, ref := (ns.head?.map (·.id.serial)).getD 0,
      digest := crc32c (beBytes 2 e ++ entries.flatMap (·.take 20)), curs := [] }
    let s := (s.put F.TOP_SHADOW_SHADOW e).flagIf r.2.1 7 5
    let s := (s.storeShadow entries n).prepareShadow ns.length
    let s := s.recordFlags
    { s with top := { s.top with flipAt := .boundary, digestMiss := false } }.put F.TOP_SHADOW_PHASE 4

/-- A carried write of TOP_ETB_CTRL: INHIBIT asks for inhibition from this ETBN. -/
def State.etbCtrl (s : State) (q : Requester) (v : Word) : State :=
  let s := s.storePlain q R.TOP_ETB_CTRL v
  if s.etb then s.putB F.TOP_ETB_STAT_INHIBITED (s.bit F.TOP_ETB_CTRL_INHIBIT) else s

/-! The commands. -/

/-- INAUG (R73): a write of TOP_CMD. -/
def execInaug (q : Requester) (v : Word) (s : State) : Host.Outcome State Fault Refusal :=
  .next (s.carry q R.TOP_CMD v fun s => s.topCmd q v)

/-- CLR_HOLD (R75): a write of TOP_CMD. -/
def execClrHold (q : Requester) (v : Word) (s : State) : Host.Outcome State Fault Refusal :=
  .next (s.carry q R.TOP_CMD v fun s => s.topCmd q v)

def execLanternLossTrigger (s : State) : Host.Outcome State Fault Refusal := .next s.lanternLoss
def execRequest (p : BPort) (f : NFrame) (s : State) : Host.Outcome State Fault Refusal :=
  .next (s.topRx p f fun s => s.rxRequest p f)
def execJoin (p : BPort) (f : NFrame) (s : State) : Host.Outcome State Fault Refusal := .next (s.topRx p f fun s => s.rxJoin p)
def execIdent (p : BPort) (f : NFrame) (s : State) : Host.Outcome State Fault Refusal := .next (s.topRx p f fun s => s.rxIdent p f)
def execXident (p : BPort) (f : NFrame) (s : State) : Host.Outcome State Fault Refusal := .next (s.topRx p f fun s => s.rxXident p f)
def execXend (p : BPort) (f : NFrame) (s : State) : Host.Outcome State Fault Refusal := .next (s.topRx p f fun s => s.rxXend p f)
def execSilent (p : BPort) (s : State) : Host.Outcome State Fault Refusal := .next (s.silentSide p)
def execNumbering (s : State) : Host.Outcome State Fault Refusal := .next s.numbering
def execReady (p : BPort) (f : NFrame) (s : State) : Host.Outcome State Fault Refusal := .next (s.topRx p f fun s => s.rxReady p f)
def execCommitInsert (lead : Nat) (s : State) : Host.Outcome State Fault Refusal := .next (s.commitInsert lead)
def execCommit (p : BPort) (f : NFrame) (s : State) : Host.Outcome State Fault Refusal := .next (s.topRx p f fun s => s.rxCommit p f)
def execCommitMiss (s : State) : Host.Outcome State Fault Refusal := .next s.commitMiss
def execGraceEnd (s : State) : Host.Outcome State Fault Refusal := .next s.graceEnd

/-- BIND_WRITE (R98, R102): a write of TOP_TBL_CMD. -/
def execBindWrite (q : Requester) (v : Word) (s : State) : Host.Outcome State Fault Refusal :=
  .next (s.carry q R.TOP_TBL_CMD v fun s => s.tblCmd q v)

def execTtdpTopologyChange (topo own : Nat) (nodes : List TtdpNode) (s : State) : Host.Outcome State Fault Refusal :=
  .next (s.ttdpTopology topo own nodes)

/-- INHIBIT (R107): a write of TOP_ETB_CTRL. -/
def execInhibit (q : Requester) (v : Word) (s : State) : Host.Outcome State Fault Refusal :=
  .next (s.carry q R.TOP_ETB_CTRL v fun s => s.etbCtrl q v)

end Sys2Proof.Machine
end

