-- ==== Sys2Proof/Machine/Pages.lean ====
section
/-!
DEFINITION. What is common to every page: PG_CTRL with its block resets (R42, R143, R451, R453, R454), PG_LOCK (R44, R45), and the
events' way to the vectors (R47 to R49).
-/

namespace Sys2Proof.Machine

/-! Block resets (R42). -/

/-- Registers of a page return to their reset values, but for the header registers that R42 keeps and those of `keep`. -/
def State.clearPage (s : State) (pg : Nat) (keep : List Nat) : State :=
  s.clearRegs fun a => decide (a / 4096 = pg / 4096) && !([0x0C, 0x20, 0x24] ++ keep).contains (a % 4096)

/-- RAM bytes from `a` on return to 0. -/
def State.zeroMem (s : State) (a n : Nat) : State := s.clearMem fun k => decide (a ≤ k) && decide (k < a + n)

/-- The pages of SYS. What shows a state outside the block stays (log entry 44). -/
def State.srstSys (s : State) (b : Nat) : State :=
  match b with
  | 0 =>
    ((s.put F.SYS_RST_FAULT_HOST 0).put F.SYS_RST_FAULT_FW 0).clearPage P.SYS_RST [0x50, 0x54]
  | 1 =>
    let s := (s.clearPage P.SYS_CLK ([0x40, 0x4C] ++ (List.range 17).map fun n => 0x80 + 4 * n))
    (List.range 17).foldl (fun s n =>
      (s.put (F.SYS_CLK_ISL_SRC n) ((F.SYS_CLK_ISL_SRC n).of (resetVal (R.SYS_CLK_ISL n)))).put (F.SYS_CLK_ISL_RESULT n) 0) s
  | 2 =>
    let s := s.clearPage P.SYS_PWR ([0x40, 0x104, 0x10C, 0x114] ++ (List.range 16).map fun n => 0x84 + 4 * n)
    (List.range 16).foldl (fun s n => (s.put (F.SYS_PWR_SEQ_UPS (n + 1)) 0).put (F.SYS_PWR_SEQ_RESTARTS (n + 1)) 0) s
  | 3 =>
    let ka := s.bit F.SYS_WAKE_STAT_KA_OK
    let s := ((s.isoSet 0).endDusk.clearPage P.SYS_WAKE []).putB F.SYS_WAKE_STAT_KA_OK ka
    s.modWake fun w => { w with cancelTx := none, cancelled := none, dawnTx := none, dawnDue := none }
  | 4 =>
    let pins := (List.range 4).map fun i => s.get (F.SYS_DIN_STAT_PIN i)
    let s := (s.clearPage P.SYS_DIN []).dinRestart
    (List.range 4).foldl (fun s i => s.put (F.SYS_DIN_STAT_PIN i) (pins.getD i 0)) s
  | 5 => s.clearPage P.SYS_BYP [0x40]
  | _ => { s.clearPage P.SYS_EVT [] with acc := { s.acc with aggHost := 0, aggMgt := 0 } }

/-- The beam engine of a line. -/
def State.srstBeam (s : State) (l : Line) : State :=
  let s := s.clearPage (P.BEAM l) []
  let s := (s.setDir (l.port false) .reset).setDir (l.port true) .reset
  let b := (s.beam.setProbe (l.port false) .reset).setProbe (l.port true) .reset
  { s with beam := { b with ctl := b.ctl.filter fun (e : BPort × NFrame) => e.1.line != l } }.beamRefresh l

/-- The pages of FAB. -/
def State.srstFab (s : State) (b : Nat) : State :=
  let modFab := fun (s : State) (f : FabState → FabState) => { s with fab := f s.fab }
  match b with
  | 0 => modFab (s.clearPage P.FAB_CTRL []) fun f => { f with fdb := [] }
  | 1 => let s := s.clearPage P.FAB_FLOW []; s.put F.FAB_FLOW_STAT_IN_USE s.validCtxs.length
  | 2 =>
    let s := modFab (s.clearPage P.FAB_QUE []) fun f => { f with queues := [], maxCells := [], moving := [], beam := [] }
    (s.zeroMem 0x03170000 0x10000).poolsUp.retireAgain
  | 3 => (s.clearPage P.FAB_GATE []).zeroMem 0x03110000 0x30000
  | 4 => (s.clearPage P.FAB_POL []).zeroMem 0x03140000 0x20000
  | 5 => (s.clearPage P.FAB_CNT []).zeroMem 0x03160000 0x10000
  | 6 => modFab (s.clearPage P.FAB_LDUP []) fun f => { f with ldup := [] }
  | _ => (s.clearPage P.FAB_CBDUP []).zeroMem 0x031A0000 0x20000

/-- The pages of SGW. SGW_CTRL: no entry of either bank stays valid (R189); the image stays (R162). -/
def State.srstSgw (s : State) (b : Nat) : State :=
  if b = 0 then
    let off := fun (s : State) (a : Nat) => s.wrByte a (s.rdByte a &&& 0x7F)
    let s := [0, 1].foldl (fun (s : State) (k : Nat) => (s.validInputs k).foldl (fun s i => off s (inpAddr k i)) s) s
    let s := [0, 1].foldl (fun (s : State) (k : Nat) => (s.validRecipes k).foldl (fun s i => off s (rcpAddr k i)) s) s
    ((s.clearPage P.SGW_CTRL []).modSgw fun _ => .reset).sgwMute
  else s.clearPage (I.SGW * 65536 + b * 4096) []

/-- The pages of CBL and CBH: the time masters of a half, or a channel. The message RAM stays. -/
def State.srstCb (s : State) (h b : Nat) : State :=
  if b = 0 then
    let s := s.clearPage (P.CB_CTRL h) []
    (List.range 8).foldl (fun s c => (s.modCan (8 * h + c) fun x => { x with refs := [], refFirst := false }).canFollow (8 * h + c)) s
  else
    let n := 8 * h + b - 1
    ((s.clearPage (P.CB_CAN n) []).setCan n .reset).canRelease n

/-- The pages of TIM. TIM_BASE: UNSET, or GM at once where the node meets the condition (R229, R237). -/
def State.srstTim (s : State) (b : Nat) : State :=
  match b with
  | 0 => { (s.timEnter 0).clearPage P.TIM_BASE [] with tim := .reset }.gmUpdate
  | 1 => let s := s.clearPage P.TIM_SERVO []; { s with tim := { s.tim with within := 0, beyond := 0 } }
  | 2 => s.clearPage P.TIM_TS []
  | _ =>
    let s := (s.clearPage P.TIM_AS []).zeroMem 0x09300000 0x1000
    let s := { s with tim := { s.tim with phaseChange := 0 } }
    s.showIdentity

/-- The pages of TWN. TWN_CTRL: the role becomes none; TWN_MLINK: the link trains again. -/
def State.srstTwn (s : State) (b : Nat) : State :=
  match b with
  | 0 =>
    let s := (s.setRole 0 0 false 0).clearPage P.TWN_CTRL []
    let t := s.get F.SYS_RST_STAT_TPOS
    let s := (s.put F.TWN_CTRL_ROLE_TPOS t).put F.TWN_CTRL_ROLE_TPOS_EFF t
    s.modTwn fun w => { w with
      partner := none, lastAny := none, lastMirror := none, seenA := false, seenB := false, failed := false, noTakeover := false,
      unanswered := false, pserial := 0,
      doubled := false, silent := false, claimer := false, waiting := none, confirm := none, clrFault := false, mayRejoin := false,
      granted := false, ho := none, hoNew := none, hoTake := none, heard := [] }
  | 1 =>
    let s := (s.dropSync.clearPage P.TWN_MLINK []).put F.TWN_MLINK_STAT_STATE 1
    s.modTwn fun w => { w with
      sent := .empty 0, overflow := false, closed := 0, committed := 0, buf := none, base := none, bclosed := false,
      resync := false, baseAsked := false, baseNo := 0, tope := none, qstate := [] }
  | _ =>
    let s := (s.clearPage P.TWN_XCHK []).modTwn fun w => { w with own := [], theirs := [], streaks := [], mismatches := [] }
    (s.putB F.TWN_XCHK_STAT_RUNNING s.xRunning).hltReason I.SGW 15 false false

/-- The pages of HBR. The link and the configuration space belong to the endpoint and stay (log entry 44). -/
def State.srstHbr (s : State) (b : Nat) : State :=
  if b = 0 then (s.clearPage P.HBR_CTRL [0x40, 0x44]).put F.HBR_CTRL_LINK_CHG 0 else s.clearPage (I.HBR * 65536 + b * 4096) []

/-- The pages of PSC. -/
def State.srstPsc (s : State) (b : Nat) : State :=
  let s := s.clearPage (I.PSC * 65536 + b * 4096) []
  match b with
  | 0 => s.modPsc fun c => { c with queue := [], pairs := [], acl := [], fenceSent := 0 }
  | 1 => s.modPsc fun c => { c with reads := [], reqs := [], drb := [], recent := [] }
  | 2 => s
  | _ => s.modPsc fun c => { c with misses := [], sideAt := [] }

/-- The pages of MGT: the run state stays (log entry 44). -/
def State.srstMgt (s : State) (b : Nat) : State :=
  match b with
  | 0 => (s.clearPage P.MGT_CTRL [0x40]).modMgt fun m => { m with resets := [] }
  | 1 => (s.clearPage P.MGT_MBOX []).modMgt fun m => { m with queue := [], rsps := [], img := none }
  | _ => s.clearPage P.MGT_IMG []

/-- The pages of REC (R451). -/
def State.srstRec (s : State) (b : Nat) : State :=
  match b with
  | 0 => ((s.clearPage P.REC_CTRL [0x48, 0x4C, 0x50, 0x54]).modRec fun r => { r with pdata := [] }).fullFollow
  | 1 => (s.clearPage P.REC_PORT []).modRec fun r => { r with cur := [], snap := [] }
  | _ => (s.clearPage P.REC_STRM []).modRec fun r => { r with streamed := 0 }

/-- The pages of HLT: the levels are rebuilt from what stands; a test that runs is lost and its islands are restored. -/
def State.srstHlt (s : State) (b : Nat) : State :=
  match b with
  | 0 =>
    let s := (s.clearPage P.HLT_CTRL []).modHlt fun h => { h with
      strong := [], elogNext := 0, rows := [], suspects := [], ceHour := [], ceRate := [], ueMacros := [], unrepairable := [] }
    let s := ([I.SYS, I.FAB, I.SGW, I.MGT].foldl (fun s n => s.voltReason n) s.hltRebuild)
    ((s.snrReasons .a).snrReasons .b).follow I.SYS 18 (s.get F.HLT_SENS_CAL_EXCL != 0) false
  | 1 =>
    let s := match s.hlt.test with
      | some t => if t.kind = 0 ∧ s.isOn I.FAB then
          (if s.get F.HLT_BIST_STAT_STATE = 2 then s.bankBack t.macroNo else s.notMoving t.macroNo) else s
      | none => s
    let s := s.hlt.withdrawn.foldl (fun s n => s.restoreIsland n) s
    (s.clearPage P.HLT_BIST []).modHlt fun h => { h with
      test := none, verdicts := [], ending := none, session := false, abortDue := false }
  | 2 => (s.clearPage P.HLT_REPAIR [0x48]).showRecord
  | _ => (s.clearPage P.HLT_SENS []).follow I.SYS 18 false false

/-- The pages of TOP. TOP_INAUG: the node is without a number, while its lines stay in their states (R61); TOP_TABLE and TOP_SLOT:
their tables and values. -/
def State.srstTop (s : State) (b : Nat) : State :=
  match b with
  | 0 =>
    let s := { s.clearPage P.TOP_INAUG [] with top := .reset }
    let s := (s.wr R.TOP_SERIAL_HI (BitVec.ofNat 32 (s.nv.serial / 2 ^ 32))).wr R.TOP_SERIAL_LO (BitVec.ofNat 32 s.nv.serial)
    s.gmUpdate
  | 1 => (s.clearPage P.TOP_TABLE []).zeroMem 0x10000000 0x200000
  | 2 => s.clearPage P.TOP_ETB []
  | _ =>
    let s := s.clearPage P.TOP_SLOT []
    { s with beam := { s.beam with active := none, shadow := none } }.beamRefreshAll

/-- What a block reset of a page does beside the header. -/
def State.srstPage (s : State) (pg : Nat) : State :=
  let b := blockOf pg
  match islandOf pg with
  | 0 => s.srstSys b
  | 1 => if b = 0 then s.restartLine .a else if b = 3 then s.srstBeam .a else s.restartPort (Line.a.port (b == 2))
  | 2 => if b = 0 then s.restartLine .b else if b = 3 then s.srstBeam .b else s.restartPort (Line.b.port (b == 2))
  | 3 => s.srstFab b
  | 4 | 5 =>
    if b = 0 then (s.clearPage pg []).zeroMem (islandOf pg * 16777216) 16777216
    else (s.clearPage pg [0x44]).put ⟨4096 * (pg / 4096) + 0x44, 15, 0⟩ 0
  | 6 => s.srstSgw b
  | 7 => s.srstCb 0 b
  | 8 => s.srstCb 1 b
  | 9 => s.srstTim b
  | 10 => s.srstTwn b
  | 11 => s.srstHbr b
  | 12 => s.srstPsc b
  | 13 => s.srstMgt b
  | 14 => s.srstRec b
  | 15 => s.srstHlt b
  | _ => s.srstTop b

/-- SRST (R42): the block's engines and registers return to their reset values; PG_STAT, PG_ERR and PG_LOCK stay; BUSY until the
reset has finished. A second SRST meanwhile forgets a write dropped before it: DESIGN CHOICE, log entry 69. -/
def State.srst (s : State) (pg : Nat) : State :=
  let stat := s.rd (R.PG_STAT pg)
  let err := s.rd (R.PG_ERR pg)
  let lock := s.rd (R.PG_LOCK pg)
  let s := s.modPwr fun p => { p with gateReq := p.gateReq.filter fun a => a != pg }
  let s := s.srstPage pg
  let s := ((s.wr (R.PG_STAT pg) stat).wr (R.PG_ERR pg) err).wr (R.PG_LOCK pg) lock
  let s := s.putB (F.PG_STAT_GATED pg) false
  { s with acc := { s.acc with
      srst := pg :: s.acc.srst.filter (fun a => a != pg), srstDrop := s.acc.srstDrop.filter (fun a => a != pg),
      latch := s.acc.latch.filter fun (e : Nat × Option PairWord) => e.1 / 4 != pg / 4096,
      held := s.acc.held.filter fun (e : Nat × Option PairWord) => e.1 / 4 != pg / 4096 } }

/-- The block reset has finished: BUSY clears, and a write dropped meanwhile sets BUSY_DROP. -/
def State.srstComplete (s : State) (pg : Nat) : State :=
  if !s.acc.srst.contains pg then s
  else
    let dropped := s.acc.srstDrop.contains pg
    let s := { s with acc := { s.acc with
      srst := s.acc.srst.filter (fun a => a != pg), srstDrop := s.acc.srstDrop.filter (fun a => a != pg) } }
    let s := allPorts.foldl (fun s p => if P.PORT p = pg then s.phyReadyAgain p else s) s
    if dropped then s.raise pg 26 else s

/-! PG_CTRL (R41, R42, R340, R347). -/

/-- The pages whose EN is fixed (R41). -/
def fixedEn : List Nat := [P.SYS_RST, P.SYS_WAKE, P.SYS_BYP, P.SYS_EVT, P.LINE .a, P.LINE .b]

/-- The pages whose clock is never gated (R341). -/
def neverGated : List Nat := fixedEn ++ [P.TOP_INAUG, P.FAB_CTRL]

/-- EN has changed: what that does at once. The engines look at EN when they act. -/
def State.enActs (s : State) (pg : Nat) (was : Bool) : State :=
  let on := s.bit (F.PG_CTRL_EN pg)
  if on = was then s
  else if pg = P.TWN_CTRL ∨ pg = P.TWN_MLINK then if on then s else s.isolate
  else if pg = P.TWN_XCHK then s.putB F.TWN_XCHK_STAT_RUNNING s.xRunning
  else (List.range 16).foldl (fun s n => if P.CB_CAN n = pg ∧ on then s.modCan n fun c => { c with started := false } else s) s

/-- A carried write of PG_CTRL: EN, CLKREQ, SRST and OFFREQ. -/
def State.ctrlWrite (s : State) (q : Requester) (pg : Nat) (v : Word) : State :=
  let was := s.bit (F.PG_CTRL_EN pg)
  let mine := s.owns q pg
  let s := if fixedEn.contains pg then s else (s.putB (F.PG_CTRL_EN pg) (v.getLsbD 0)).enActs pg was
  let s :=
    if v.getLsbD 2 then
      let s := (s.putB (F.PG_CTRL_CLKREQ pg) true).putB (F.PG_STAT_GATED pg) false
      let s := s.modPwr fun p => { p with gateReq := p.gateReq.filter fun a => a != pg }
      if pg = P.TWN_XCHK then s.putB F.TWN_XCHK_STAT_RUNNING s.xRunning else s
    else if neverGated.contains pg || !s.bit (F.PG_CTRL_CLKREQ pg) then s
    else (s.putB (F.PG_CTRL_CLKREQ pg) false).modPwr fun p => { p with gateReq := p.gateReq ++ [pg] }
  if !mine then s.lockViol q (R.PG_CTRL pg)
  else
    let s := if v.getLsbD 1 then s.srst pg else s
    if v.getLsbD 3 && islandOf pg != 0 then s.powerRequest (islandOf pg) false true else s

/-! PG_LOCK (R44, R45). -/

/-- A write of PG_LOCK that reaches its page. -/
def State.lockDo (s : State) (q : Requester) (pg : Nat) (v : Word) : State :=
  let key := v == 0x0000C0DE
  if !s.bit (F.PG_LOCK_UNLOCKED pg) then
    if key then s.wr (R.PG_LOCK pg) (BitVec.ofNat 32 (2 ^ 31 + q.code * 2 ^ 28 + 256)) else s
  else if s.get (F.PG_LOCK_OWNER pg) = q.code then
    if key then s.put (F.PG_LOCK_REMAIN pg) 256 else s.relock pg
  else if key then s.raise pg 25
  else s

/-- A write of PG_LOCK; it takes nothing from REMAIN. -/
def State.lockWrite (s : State) (q : Requester) (pg : Nat) (v : Word) : State :=
  if !s.pathUp q then s
  else if !mapped pg then s.unmappedAccess q (R.PG_LOCK pg) true
  else if !s.reachable pg then s.offAccess q (R.PG_LOCK pg) true v
  else
    let s := match s.heldWord q pg with
      | some _ => s.setHeld q pg none
      | none => s
    s.lockDo q pg v

/-- 1 ms after the unlocking write. -/
def State.lockTimeout (s : State) (pg : Nat) : State := if s.bit (F.PG_LOCK_UNLOCKED pg) then s.relock pg else s

/-! Events (R47 to R49). -/

/-- The page is pending. -/
def State.pagePending (s : State) (pg : Nat) : Bool := (s.rd (R.PG_EVT_RAW pg) &&& s.rd (R.PG_EVT_EN pg)) != 0

/-- The page summary of an island; an island that is off contributes 0. -/
def State.pageSum (s : State) (n : Nat) : Nat :=
  if !s.reachable (n * 65536) then 0
  else ((pagesOf n).filter s.pagePending).foldl (fun (w : Nat) pg => w + 2 ^ blockOf pg) 0

/-- The aggregate of a vector: towards the host, or towards the management pair. -/
def State.vectorLevel (s : State) (host : Bool) (v : Nat) : Bool :=
  (List.range 17).any fun n =>
    s.bit ⟨R.SYS_EVT_ISL, n, n⟩ && s.bit (if host then F.SYS_EVT_ROUTE_HOST_EN n else F.SYS_EVT_ROUTE_MGT_EN n) &&
      s.get (F.SYS_EVT_ROUTE_VEC n) == v

/-- A vector's aggregates follow; a rise calls for its message (R48). -/
def State.vectorFollow (s : State) (v : Nat) : State :=
  let h := s.vectorLevel true v
  let m := s.vectorLevel false v
  let hWas := s.acc.aggHost.getLsbD v
  let mWas := s.acc.aggMgt.getLsbD v
  let set := fun (w : Word) (b : Bool) => (w &&& ~~~BitVec.ofNat 32 (2 ^ v)) ||| BitVec.ofNat 32 (b.toNat * 2 ^ v)
  let s := { s with acc := { s.acc with aggHost := set s.acc.aggHost h, aggMgt := set s.acc.aggMgt m } }
  let s := if h && !hWas then s.msixRequest v else s
  if m && !mWas && s.isOn I.MGT then s.emit (.mgtIrq v) else s

/-- Every vector follows SYS_EVT_ISL and the routes. -/
def State.vectorsFollow (s : State) : State := (List.range 32).foldl (fun s v => s.vectorFollow v) s

/-- A change of PG_EVT_PEND reaches the page summary, SYS_EVT_ISL and the vectors (R47, R48). -/
def State.aggregate (s : State) (isl : Nat) : State :=
  let w := s.pageSum isl
  ((s.wr (R.SYS_EVT_PGSUM isl) (BitVec.ofNat 32 w)).putB ⟨R.SYS_EVT_ISL, isl, isl⟩ (w != 0)).vectorsFollow

/-- A carried write of SYS_EVT_EOI: the host's sends a further message while the aggregate is 1 (R48, R49). -/
def State.eoi (s : State) (q : Requester) (v : Word) : State :=
  if q = .host && s.acc.aggHost.getLsbD (v.toNat % 32) then s.msixRequest (v.toNat % 32) else s

/-! The commands. Pages are named by any offset in them. -/

/-- PAGE_UNLOCK (R44): the key is written to PG_LOCK. -/
def execPageUnlock (q : Requester) (pg : Nat) (s : State) : Host.Outcome State Fault Refusal := .next (s.lockWrite q (pageOf pg) 0xC0DE)

/-- PAGE_RELOCK (R44): a value is written to PG_LOCK. -/
def execPageRelock (q : Requester) (pg : Nat) (v : Word) (s : State) : Host.Outcome State Fault Refusal :=
  .next (s.lockWrite q (pageOf pg) v)

def execLockTimeout (pg : Nat) (s : State) : Host.Outcome State Fault Refusal := .next (s.lockTimeout (pageOf pg))

/-- BLOCK_SRST (R42): a write of PG_CTRL. -/
def execBlockSrst (q : Requester) (pg : Nat) (v : Word) (s : State) : Host.Outcome State Fault Refusal :=
  .next (s.carry q (R.PG_CTRL (pageOf pg)) v fun s => s.ctrlWrite q (pageOf pg) v)

def execSrstComplete (pg : Nat) (s : State) : Host.Outcome State Fault Refusal := .next (s.srstComplete (pageOf pg))

/-- BLOCK_EN_WRITE (R41): a write of PG_CTRL. -/
def execBlockEnWrite (q : Requester) (pg : Nat) (v : Word) (s : State) : Host.Outcome State Fault Refusal :=
  .next (s.carry q (R.PG_CTRL (pageOf pg)) v fun s => s.ctrlWrite q (pageOf pg) v)

def execClockGateRequest (q : Requester) (pg : Nat) (v : Word) (s : State) : Host.Outcome State Fault Refusal :=
  .next (s.carry q (R.PG_CTRL (pageOf pg)) v fun s => s.ctrlWrite q (pageOf pg) v)

def execClockGateOpen (q : Requester) (pg : Nat) (v : Word) (s : State) : Host.Outcome State Fault Refusal :=
  .next (s.carry q (R.PG_CTRL (pageOf pg)) v fun s => s.ctrlWrite q (pageOf pg) v)

/-- LINE_SRST (R453): a write of PG_CTRL of a LINE page. -/
def execLineSrst (q : Requester) (l : Line) (v : Word) (s : State) : Host.Outcome State Fault Refusal :=
  .next (s.carry q (R.PG_CTRL (P.LINE l)) v fun s => s.ctrlWrite q (P.LINE l) v)

/-- PORT_SRST (R454): a write of PG_CTRL of a port page. -/
def execPortSrst (q : Requester) (p : BPort) (v : Word) (s : State) : Host.Outcome State Fault Refusal :=
  .next (s.carry q (R.PG_CTRL (P.PORT p)) v fun s => s.ctrlWrite q (P.PORT p) v)

/-- REC_SRST (R451): a write of PG_CTRL of a REC page, by its block index. -/
def execRecSrst (q : Requester) (pg : Nat) (v : Word) (s : State) : Host.Outcome State Fault Refusal :=
  .next (let p := I.REC * 65536 + pg % 3 * 4096; s.carry q (R.PG_CTRL p) v fun s => s.ctrlWrite q p v)

/-- POWER_CMD (R347): a write of SYS_PWR_CMD, or of PG_CTRL with OFFREQ. -/
def execPowerCmd (q : Requester) (off : Nat) (v : Word) (s : State) : Host.Outcome State Fault Refusal :=
  .next (if off = R.SYS_PWR_CMD then s.carry q off v fun s => s.pwrCmdWrite q v
    else s.carry q (R.PG_CTRL (pageOf off)) v fun s => s.ctrlWrite q (pageOf off) v)

/-- EVENT_FORCE (R47): a write of PG_EVT_FORCE. -/
def execEventForce (q : Requester) (pg : Nat) (v : Word) (s : State) : Host.Outcome State Fault Refusal :=
  .next (s.carry q (pageOf pg + 0x1C) v fun s => s.wr (R.PG_EVT_RAW (pageOf pg)) (s.rd (R.PG_EVT_RAW (pageOf pg)) ||| (v &&& 0xFEFFFFFF)))

/-- EVENT_CLEAR (R36): a write of PG_EVT_RAW; `hw`: the bits that hardware sets in the same cycle. -/
def execEventClear (q : Requester) (pg : Nat) (v hw : Word) (s : State) : Host.Outcome State Fault Refusal :=
  .next (s.carry q (R.PG_EVT_RAW (pageOf pg)) v fun s =>
    s.wr (R.PG_EVT_RAW (pageOf pg)) ((s.rd (R.PG_EVT_RAW (pageOf pg)) &&& ~~~v) ||| (hw &&& 0xFEFFFFFF)))

def execEventAggregate (isl : Nat) (s : State) : Host.Outcome State Fault Refusal :=
  .next (if isl < 17 then s.aggregate isl else s)

/-- EOI (R49): a write of SYS_EVT_EOI. -/
def execEoi (q : Requester) (v : Word) (s : State) : Host.Outcome State Fault Refusal :=
  .next (s.carry q R.SYS_EVT_EOI v fun s => s.eoi q v)

end Sys2Proof.Machine
end

