-- ==== Sys2Proof/Machine/RegAccess.lean ====
section
/-!
DEFINITION. Register accesses of any requester (R17, R18, R31 to R37): what every register reads as, what a write of it does, and the
requests of remote nodes (R292, R293).
-/

namespace Sys2Proof.Machine

/-! 64-bit pairs (R34). -/

/-- The low words of the 64-bit pairs; the high word follows at the next offset. -/
def pairLows : List Nat :=
  [R.TOP_REF_LO, R.TOP_SERIAL_LO, R.TOP_VTAG_LO, R.TIM_BASE_MONO_LO, R.TIM_BASE_TT_LO, R.TIM_BASE_WALL_LO, R.TIM_BASE_WOFS_LO,
   R.TIM_TS_LO, R.TIM_AS_ID_LO, R.TWN_CTRL_PSER_LO, R.SGW_IMG_LO, R.CB_CTRL_MDATA_LO 0, R.CB_CTRL_MDATA_LO 1] ++
  ((List.range 8).map fun m => R.HBR_OWIN_LO m) ++ (List.range 32).map fun v => R.HBR_MSIX_V_ADDR_LO v

def isPairLow (off : Nat) : Bool := pairLows.contains off
def isPairHigh (off : Nat) : Bool := decide (4 ≤ off) && pairLows.contains (off - 4)

/-! What registers show that is not stored in them. -/

/-- Half of a 64-bit number. -/
def half64 (v : Nat) (hi : Bool) : Word := BitVec.ofNat 32 (if hi then v / 2 ^ 32 else v)

/-- PG_STAT: READY only while the block is clocked (R39), BUSY of a block reset, and the level of the island as HLT shows it (R409,
R412). -/
def State.statView (s : State) (pg : Nat) : Word :=
  let w := s.rd (R.PG_STAT pg)
  let h := if s.isOn I.HLT then s.get (F.HLT_CTRL_ISL_LEVEL (islandOf pg)) else 0
  let w := if s.bit (F.PG_STAT_GATED pg) then w &&& 0xFFFFFFFE else w
  (F.PG_STAT_HEALTH pg).ins w h ||| (if s.acc.srst.contains pg then 2 else 0)

/-- The header of a page (R39). -/
def State.headerView (s : State) (off : Nat) : Word :=
  let pg := pageOf off
  match off % 4096 with
  | 0x0C => s.statView pg
  | 0x18 => s.rd (R.PG_EVT_RAW pg) &&& s.rd (R.PG_EVT_EN pg)
  | 0x1C => 0
  | _ => s.rd off

/-- TOP_TBL_DATAn: the selected entry (R88, R102). -/
def State.tblView (s : State) (n : Nat) : Word :=
  let i := s.get F.TOP_TBL_SEL_INDEX
  let word := fun (a : Nat) => BitVec.ofNat 32 (s.rdNum (a + 4 * n) 4)
  match s.get F.TOP_TBL_SEL_TABLE with
  | 0 => word (identAddr 0 (i + 1))
  | 1 => word (identAddr 2 (i + 1))
  | 2 => word (identAddr 1 (i + 1))
  | 3 => if n < 4 then word (bindAddr i) else 0
  | t => Config.reserved 32 R.TOP_TBL_SEL t

/-- TOP_SLOT_ADATAn: the sub-slots of the selected node (R124). -/
def State.adataView (s : State) (n : Nat) : Word :=
  let sh := s.bit F.TOP_SLOT_ASEL_TABLE
  let node := s.get F.TOP_SLOT_ASEL_NODE
  match if sh then s.beam.shadow else s.beam.active with
  | none => 0
  | some a =>
    let l := if s.bit F.TOP_SLOT_ASEL_DIR then a.inn else a.out
    let find := fun (kind owner : Nat) => match l.find? fun e => e.kind == kind && e.owner == owner && e.width != 0 with
      | some e => (e.pos, e.width)
      | none => (0, 0)
    let c := find 1 node
    let d := find 2 (s.identVeh (if sh then 1 else 0) node)
    match n with
    | 0 => BitVec.ofNat 32 (c.1 * 4096 + c.2 % 128)
    | 1 => BitVec.ofNat 32 d.1
    | _ => BitVec.ofNat 32 d.2

/-- The pages of FAB that show a selected entry (R154 to R160). -/
def State.fabView (s : State) (off : Nat) : Word :=
  let port := s.get F.FAB_QUE_SEL_PORT
  let q := s.get F.FAB_QUE_SEL_QUEUE
  let gp := s.get F.FAB_GATE_SEL_PORT
  let pol := max 1 (s.get F.FAB_POL_SEL_INDEX)
  let cnt := cntAddr (s.get F.FAB_CNT_SEL_PORT)
  let cb := s.get F.FAB_CBDUP_SEL_INDEX
  let num := fun (a : Nat) => BitVec.ofNat 32 (s.rdNum a 4)
  if off = R.FAB_QUE_CFG then BitVec.ofNat 32 (s.maxCells port q)
  else if off = R.FAB_QUE_STAT then
    BitVec.ofNat 32 (s.rdNum (0x03170000 + 2 * (port * 8 + q)) 2 * 65536 + cellsIn (s.queue port q) % 65536)
  else if off = R.FAB_GATE_ENTRY then num (0x03110000 + 256 * gp + 4 * s.get F.FAB_GATE_SEL_ENTRY)
  else if off = R.FAB_GATE_CTRL then
    BitVec.ofNat 32 ((s.rdByte (0x03130000 + gp)).toNat + (s.rdByte (0x03130020 + gp)).toNat * 256)
  else if off = R.FAB_GATE_STAT then
    BitVec.ofNat 32 (s.gatesAt gp (s.localTime / 5) * 2 ^ 24 + gclLen s gp)
  else if off = R.FAB_POL_CFG then num (0x03140000 + 4 * pol)
  else if off = R.FAB_POL_CNT then num (0x03150000 + 4 * pol)
  else if off = R.FAB_CNT_RX then num cnt
  else if off = R.FAB_CNT_TX then num (cnt + 4)
  else if off = R.FAB_CNT_DROP0 then num (cnt + 8)
  else if off = R.FAB_CNT_DROP1 then num (cnt + 12)
  else if off = R.FAB_CNT_DROP2 then num (cnt + 16)
  else if off = R.FAB_CBDUP_ID_HI then num (cbAddr cb)
  else if off = R.FAB_CBDUP_ID_LO then num (cbAddr cb + 4)
  else if off = R.FAB_CBDUP_CNT then num (0x031B0000 + 4 * cb)
  else s.rd off

/-- Time bases and consist ports of TIM (R225 to R227, R241). -/
def State.timView (s : State) (off : Nat) : Word :=
  let port := s.get F.TIM_AS_PSEL_PORT
  if off = R.TIM_BASE_MONO_LO then half64 s.mono false
  else if off = R.TIM_BASE_MONO_HI then half64 s.mono true
  else if off = R.TIM_BASE_TT_LO then half64 s.trainNs false
  else if off = R.TIM_BASE_TT_HI then half64 s.trainNs true
  else if off = R.TIM_BASE_WALL_LO then half64 s.wall false
  else if off = R.TIM_BASE_WALL_HI then half64 s.wall true
  else if off = R.TIM_AS_PSTAT then BitVec.ofNat 32 (s.rdNum (asAddr port) 1 * 2 ^ 31 + s.rdNum (asAddr port + 1) 3)
  else if off = R.TIM_AS_PCNT then BitVec.ofNat 32 (s.rdNum (asAddr port + 4) 4)
  else s.rd off

/-- TWN (R248, R252, R266). -/
def State.twnRegView (s : State) (off : Nat) : Word :=
  if off = R.TWN_CTRL_ROLE then F.TWN_CTRL_ROLE_ELIG.ins (s.rd off) s.elig.toNat
  else if off = R.TWN_MLINK_STAT then
    F.TWN_MLINK_STAT_LANT_AGE.ins (s.rd off) (match s.twn.lastMirror with
      | some t => min 0xFFFF ((s.mono - t) / 1000)
      | none => 0xFFFF)
  else if off = R.TWN_MLINK_QDATA then
    let key := s.get F.TWN_MLINK_QSEL_CHAN * 16 + s.get F.TWN_MLINK_QSEL_TQ + 8
    match s.twn.qstate.find? fun (e : Nat × Nat × Nat × Nat) => e.1 == key with
    | some e => BitVec.ofNat 32 (e.2.1 % 65536 * 65536 + e.2.2.1 % 16 * 4096 + e.2.2.2 % 4096)
    | none => 0
  else s.rd off

/-- SYS: what its status registers show. The measurements of SYS_CLK_XOQ are free, but for QCNT of a qualified XO. -/
def State.sysView (s : State) (off : Nat) : Word :=
  if off = R.SYS_WAKE_STAT then s.wakeStat
  else if off = R.SYS_RST_FAULT then
    let w := F.SYS_RST_FAULT_BOOT.ins (s.rd off) (s.bit F.SYS_RST_BOOT_BOOT_FAIL || s.bit F.SYS_RST_BOOT_SAFE).toNat
    F.SYS_RST_FAULT_NFAULT.ins w (w &&& 0x1F != 0).toNat
  else if off = R.SYS_CLK_XOQ then
    F.SYS_CLK_XOQ_DEV.ins (if s.bit F.SYS_CLK_STAT_XO_QUAL then s.rd off else (s.free 18).zeroExtend 32) (s.free 8).toNat
  else s.rd off

/-- SGW and the CTRL pages of CBL and CBH: the selected word or entry. -/
def State.ramView (s : State) (off : Nat) : Word :=
  if off = R.SGW_IMG_LO then BitVec.ofNat 32 (s.rdNum (imgAddr s.imgSel + 4) 4)
  else if off = R.SGW_IMG_HI then BitVec.ofNat 32 (s.rdNum (imgAddr s.imgSel) 4)
  else if off = R.SGW_RCP_ISTAT then s.istat
  else if off = R.SGW_RCP_RSUB then s.rsub
  else if off = R.CB_CTRL_MDATA_LO 0 then BitVec.ofNat 32 (s.rdNum (s.mdataAddr 0 + 4) 4)
  else if off = R.CB_CTRL_MDATA_HI 0 then BitVec.ofNat 32 (s.rdNum (s.mdataAddr 0) 4)
  else if off = R.CB_CTRL_MDATA_LO 1 then BitVec.ofNat 32 (s.rdNum (s.mdataAddr 1 + 4) 4)
  else if off = R.CB_CTRL_MDATA_HI 1 then BitVec.ofNat 32 (s.rdNum (s.mdataAddr 1) 4)
  else if 0x1000 ≤ off % 65536 ∧ off % 4096 = 0x060 ∧ (islandOf off = I.CBL ∨ islandOf off = I.CBH) then
    s.rd off ||| (BitVec.ofNat 32 (s.free 3).toNat &&& 5)
  else s.rd off

/-- What a register reads as for a requester, without what reading it does. Reserved offsets read 0 (R18). -/
def State.regView (s : State) (q : Requester) (off : Nat) : Word :=
  if off % 4096 < 0x40 then s.headerView off
  else if (regRow off).isNone then 0
  else
    let o := off % 4096
    match islandOf off with
    | 0 => s.sysView off
    | 1 => if off = R.BL_LINE_STAT .a then s.lineStatView .a else s.rd off
    | 2 => if off = R.BL_LINE_STAT .b then s.lineStatView .b else s.rd off
    | 3 => s.fabView off
    | 4 | 5 =>
      let h := islandOf off - 4
      if pageOf off = P.CP_CTRL h ∧ 0x60 ≤ o ∧ o < 0x70 then
        BitVec.ofNat 32 (s.rdNum (comAddr h (s.get (F.CP_CTRL_CSEL_INDEX h)) + (o - 0x60)) 4)
      else s.rd off
    | 6 | 7 | 8 => s.ramView off
    | 9 => s.timView off
    | 10 => s.twnRegView off
    | 13 => if off = R.MGT_CTRL_RST then F.MGT_CTRL_RST_WINCNT.ins (s.rd off) (min 255 s.mgtResets.length) else s.rd off
    | 12 => if pageOf off = P.PSC_SIDE ∧ 0x40 ≤ o ∧ o < 0x80 ∧ o % 8 = 4 then s.sideAge ((o - 0x40) / 8) else s.rd off
    | 14 =>
      if pageOf off = P.REC_CTRL ∧ 0x80 ≤ o ∧ o < 0x9C then
        stGet (fun _ => 0) s.recorder.pdata (q.code * 8 + (o - 0x80) / 4)
      else if off = R.REC_PORT_CUR then BitVec.ofNat 32 (s.recCur q)
      else if pageOf off = P.REC_PORT ∧ 0x80 ≤ o then s.recSnap q ((o - 0x80) / 4)
      else s.rd off
    | 15 => if off = R.HLT_REPAIR_MACRO then s.repairView (s.get F.HLT_REPAIR_SEL_MACRO) else s.rd off
    | 16 =>
      if pageOf off = P.TOP_TABLE ∧ 0x50 ≤ o ∧ o < 0x70 then s.tblView ((o - 0x50) / 4)
      else if off = R.TOP_SLOT_ADATA0 then s.adataView 0
      else if off = R.TOP_SLOT_ADATA1 then s.adataView 1
      else if off = R.TOP_SLOT_ADATA2 then s.adataView 2
      else s.rd off
    | _ => s.rd off

/-- A carried read: what the register reads as, and what reading it does: the latch of a pair (R34), AINC, POP. -/
def State.readReg (s : State) (q : Requester) (off : Nat) : Word × State :=
  let pg := pageOf off
  let v := s.regView q off
  let s' := { s with fresh := s.fresh + 1 }
  if off = R.REC_PORT_POP then s'.recPop q ((s.free 1).toNat == 1)
  else if isPairLow off then
    let s := s'.setLatch q pg (some ⟨off + 4, s.regView q (off + 4)⟩)
    (v, if off = R.SGW_IMG_LO then s.imgNext
      else if off = R.CB_CTRL_MDATA_LO 0 then s.mdataNext 0
      else if off = R.CB_CTRL_MDATA_LO 1 then s.mdataNext 1
      else s)
  else if isPairHigh off then
    match s.latched q pg with
    | some p => if p.off = off then (p.word, s.setLatch q pg none) else (v, s')
    | none => (v, s')
  else (v, s')

/-! Writes. -/

/-- The low word of a pair is written (R34): all 64 bits at once, with the high word held or else the current one. -/
def State.pairWrite (s : State) (q : Requester) (off : Nat) (held : Option Word) (lo : Word) : State :=
  let hi := held.getD (s.regView q (off + 4))
  if off = R.TIM_BASE_WOFS_LO then s.wofsWrite q hi lo
  else if off = R.SGW_IMG_LO then s.imgWrite hi lo
  else if off = R.CB_CTRL_MDATA_LO 0 then s.mdataWrite 0 hi lo
  else if off = R.CB_CTRL_MDATA_LO 1 then s.mdataWrite 1 hi lo
  else if off = R.TOP_VTAG_LO then s.locked q off fun s => (s.wr off lo).wr R.TOP_VTAG_HI hi
  else match (List.range 8).find? fun m => R.HBR_OWIN_LO m == off with
    | some m => if s.bit (F.HBR_OWIN_CFG_EN m) then s else (s.wr off (lo &&& 0xFFFFF000)).wr (R.HBR_OWIN_HI m) hi
    | none => match (List.range 32).find? fun v => R.HBR_MSIX_V_ADDR_LO v == off with
      | some v => (s.wr off (lo &&& 0xFFFFFFFC)).wr (R.HBR_MSIX_V_ADDR_HI v) hi
      | none => s

/-- Writes of the pages of SYS. -/
def State.writeSys (s : State) (q : Requester) (off : Nat) (v : Word) : State :=
  let o := off % 4096
  match blockOf off with
  | 0 =>
    if off = R.SYS_RST_CMD then s.rstCmd q v
    else if off = R.SYS_RST_BOOT then s.firmwareOnly q off fun s => s.storePlain q off v
    else if off = R.SYS_RST_FAULT then
      let s := s.put F.SYS_RST_FAULT_HOST (v.toNat / 8)
      if q = .firmware then s.put F.SYS_RST_FAULT_FW (v.toNat / 4)
      else if v.getLsbD 2 = s.bit F.SYS_RST_FAULT_FW then s
      else s.lockViol q off
    else s.storePlain q off v
  | 1 =>
    if off = R.SYS_SRC_RELEASE then s.releaseWrite q v
    else if 0x80 ≤ o ∧ o < 0xC4 ∧ o % 4 = 0 then s.srcWrite q ((o - 0x80) / 4) v
    else s.storePlain q off v
  | 2 =>
    if off = R.SYS_PWR_CMD then s.pwrCmdWrite q v
    else if o = 0x100 ∨ o = 0x108 ∨ o = 0x110 then s.dvfsWrite q ((o - 0x100) / 8) v
    else s.storePlain q off v
  | 3 =>
    if off = R.SYS_WAKE_CMD then s.wakeCmd q v
    else if off = R.SYS_WAKE_PROP_N then s.firmwareOnly q off fun s => s.storePlain q off v
    else if off = R.SYS_WAKE_PROP then s.propWrite q v
    else if off = R.SYS_WAKE_SEG then s.isoSet (v.toNat % 16)
    else s.storePlain q off v
  | 4 => if 0x40 ≤ o ∧ o < 0x60 ∧ o % 8 = 0 then s.dinCfg q ((o - 0x40) / 8) v else s.storePlain q off v
  | 6 =>
    if off = R.SYS_EVT_EOI then s.eoi q v
    else if 0x100 ≤ o then (s.storePlain q off v).vectorsFollow
    else s.storePlain q off v
  | _ => s.storePlain q off v

/-- Writes of the pages of FAB. -/
def State.writeFab (s : State) (q : Requester) (off : Nat) (v : Word) : State :=
  if off = R.FAB_CTRL_AGE then s.fabAge q v
  else if off = R.FAB_FLOW_CMD then s.flowCmd q v
  else if off = R.FAB_QUE_CFG then
    s.locked q off fun s =>
      let k := s.get F.FAB_QUE_SEL_PORT * 8 + s.get F.FAB_QUE_SEL_QUEUE
      { s with fab := { s.fab with maxCells := stSet (fun _ => 0x0800) s.fab.maxCells k (v.toNat % 65536) } }
  else if off = R.FAB_QUE_BANK_LO then s.bankWrite q false v
  else if off = R.FAB_QUE_BANK_HI then s.bankWrite q true v
  else if off = R.FAB_GATE_ENTRY then
    s.locked q off fun s =>
      s.wrNum (0x03110000 + 256 * s.get F.FAB_GATE_SEL_PORT + 4 * s.get F.FAB_GATE_SEL_ENTRY) 4 v.toNat
  else if off = R.FAB_GATE_CTRL then s.gateCtrl q v
  else if off = R.FAB_POL_CFG then
    s.locked q off fun s => s.wrNum (0x03140000 + 4 * max 1 (s.get F.FAB_POL_SEL_INDEX)) 4 v.toNat
  else if off = R.FAB_CBDUP_ID_LO then s.cbStream q v
  else s.storePlain q off v

/-- Writes of the pages of CBL and CBH. -/
def State.writeCb (s : State) (q : Requester) (off : Nat) (v : Word) : State :=
  let h := islandOf off - I.CBL
  let o := off % 4096
  if blockOf off = 0 then
    if 0x100 ≤ o ∧ o < 0x180 ∧ o % 16 = 0 then s.tmCfgWrite q (8 * h + (o - 0x100) / 16) v else s.storePlain q off v
  else
    let n := 8 * h + blockOf off - 1
    if o = 0x40 then s.canModeWrite q n v
    else if o = 0x5C then s.canCmd n v
    else if o = 0x60 then (s.storePlain q off v).canFollow n
    else if 0x100 ≤ o ∧ o < 0x200 ∧ o % 16 = 0 then s.qcfgWrite q n ((o - 0x100) / 16) v
    else if 0x100 ≤ o ∧ o < 0x200 ∧ o % 16 = 4 then s.qptrWrite q n ((o - 0x104) / 16) v
    else s.storePlain q off v

/-- Writes of the pages of HBR. -/
def State.writeHbr (s : State) (q : Requester) (off : Nat) (v : Word) : State :=
  let o := off % 4096
  match blockOf off with
  | 1 =>
    if 0x40 ≤ o ∧ o < 0xC0 then if o % 8 = 0 then s.iwinBaseWrite ((o - 0x40) / 8) v else s.iwinWrite ((o - 0x40) / 8) v
    else s.storePlain q off v
  | 2 =>
    if 0x40 ≤ o ∧ o < 0xC0 ∧ o % 16 = 8 then s.owinWrite ((o - 0x40) / 16) v
    else if 0x100 ≤ o ∧ o < 0x190 then
      let r := (o - 0x100) / 16
      match o % 16 with
      | 0 => s.ringCfg r v
      | 4 => s.ringBase r v
      | 8 => s.ringPut r v
      | _ => s
    else s.storePlain q off v
  | 3 => if 0x100 ≤ o ∧ o < 0x300 ∧ o % 16 = 0xC then s.msixMask ((o - 0x100) / 16) v else s.storePlain q off v
  | _ => s.storePlain q off v

/-- Writes of the pages of PSC. -/
def State.writePsc (s : State) (q : Requester) (off : Nat) (v : Word) : State :=
  let o := off % 4096
  if off = R.PSC_FENCE then s.fence v
  else if blockOf off = 0 ∧ 0x100 ≤ o ∧ o < 0x200 ∧ o % 8 = 4 then s.aclWrite q ((o - 0x100) / 8) v
  else if blockOf off = 1 ∧ 0x40 ≤ o ∧ o < 0xC0 ∧ o % 16 = 0 then s.pscWinWrite ((o - 0x40) / 16) v
  else if off = R.PSC_PWLOG_PTR then s.pwlogGet v
  else s.storePlain q off v

/-- Writes of the pages of MGT and REC. -/
def State.writeMgt (s : State) (q : Requester) (off : Nat) (v : Word) : State :=
  if off = R.MGT_CTRL_WDT then s.wdtWrite q v
  else if off = R.MGT_CTRL_CMD then s.mgtCmd q v
  else if off = R.MGT_CTRL_GOV then s.firmwareOnly q off fun s => s.storePlain q off v
  else if off = R.MGT_MBOX_CMD then s.mboxCmd v
  else if off = R.MGT_MBOX_RACK then s.mboxPop v
  else s.storePlain q off v

def State.writeRec (s : State) (q : Requester) (off : Nat) (v : Word) : State :=
  let o := off % 4096
  if off = R.REC_CTRL_CFG then s.recCfg q v
  else if off = R.REC_CTRL_CMD then s.recCmd q v
  else if off = R.REC_CTRL_POST then s.recPost q v
  else if blockOf off = 0 ∧ 0x80 ≤ o ∧ o < 0x9C then s.pdataWrite q ((o - 0x80) / 4) v
  else if off = R.REC_PORT_CUR then s.setCur q v
  else if off = R.REC_STRM_CFG then s.strmCfg v
  else if off = R.REC_STRM_BASE then s.strmBaseWrite v
  else if off = R.REC_STRM_PTR then s.strmGet v
  else s.storePlain q off v

/-- Writes of the pages of HLT. What RECAL measures is open here (log entry 3). -/
def State.writeHlt (s : State) (q : Requester) (off : Nat) (v : Word) : State :=
  let o := off % 4096
  if blockOf off = 0 ∧ 0x80 ≤ o ∧ o < 0xC4 then s.fwLevelWrite q ((o - 0x80) / 4) v
  else if off = R.HLT_BIST_CMD then s.bistCmd q v
  else if off = R.HLT_BIST_VERDICT then s.verdictWrite q v
  else if off = R.HLT_SENS_CMD then s.used.sensCmd v (toSigned 32 (s.free 32).toNat)
  else s.storePlain q off v

/-- Writes of the pages of TOP: the pending cycle and slot values (R110), the tables, the commands. -/
def State.writeTop (s : State) (q : Requester) (off : Nat) (v : Word) : State :=
  let o := off % 4096
  if off = R.TOP_CMD then s.topCmd q v
  else if off = R.TOP_TBL_CMD then s.tblCmd q v
  else if off = R.TOP_ETB_CTRL then s.etbCtrl q v
  else if off = R.TOP_SLOT_ARM then s.slotArm q v
  else if off = R.TOP_SLOT_CYC ∨ off = R.TOP_SLOT_LAYOUT ∨ (pageOf off = P.TOP_SLOT ∧ 0x200 ≤ o) then s.slotPending q off v
  else s.storePlain q off v

/-- Writes of the pages of SGW. -/
def State.writeSgw (s : State) (q : Requester) (off : Nat) (v : Word) : State :=
  if off = R.SGW_CTRL_FLIP then s.flipWrite q v
  else if off = R.SGW_CTRL_NENT0 then s.nentWrite 0 v
  else if off = R.SGW_CTRL_NENT1 then s.nentWrite 1 v
  else if off = R.SGW_MAP_CMD then s.mapCmd v
  else if off = R.SGW_MAP_DATA 3 then s.mapStore v
  else if off = R.SGW_RCP_CMD then s.rcpCmd v
  else if off = R.SGW_RCP_DATA 3 then s.rcpStore v
  else s.storePlain q off v

/-- Writes of the header (R39). -/
def State.writeHeader (s : State) (q : Requester) (off : Nat) (v : Word) : State :=
  match off % 4096 with
  | 0x08 => s.ctrlWrite q (pageOf off) v
  | 0x10 => s.wr off (s.rd off &&& ~~~v)
  | 0x1C => s.wr (R.PG_EVT_RAW (pageOf off)) (s.rd (R.PG_EVT_RAW (pageOf off)) ||| (v &&& 0xFEFFFFFF))
  | _ => s.storePlain q off v

/-- What a write of any register does once it is carried to its page. -/
def State.writeReg (s : State) (q : Requester) (off : Nat) (held : Option Word) (v : Word) : State :=
  if off % 4096 < 0x40 then s.writeHeader q off v
  else if isPairHigh off then s.holdHigh q off v
  else if isPairLow off then s.pairWrite q off held v
  else match islandOf off with
    | 0 => s.writeSys q off v
    | 1 => if off = R.BL_LINE_CMD .a then s.lineCmd q .a v else s.storePlain q off v
    | 2 => if off = R.BL_LINE_CMD .b then s.lineCmd q .b v else s.storePlain q off v
    | 3 => s.writeFab q off v
    | 4 => if off = R.CP_CTRL_CDATA 0 3 then s.comIdWrite q 0 v else s.storePlain q off v
    | 5 => if off = R.CP_CTRL_CDATA 1 3 then s.comIdWrite q 1 v else s.storePlain q off v
    | 6 => s.writeSgw q off v
    | 7 | 8 => s.writeCb q off v
    | 9 =>
      if off = R.TIM_BASE_CMD then s.timCmd q v
      else if off = R.TIM_TS_SEL then s.tsCopy v
      else if off = R.TIM_SERVO_GAIN ∨ off = R.TIM_SERVO_LIMIT ∨ off = R.TIM_SERVO_CFG then
        s.firmwareOnly q off fun s => s.storePlain q off v
      else s.storePlain q off v
    | 10 => if off = R.TWN_CTRL_CMD then s.twnCmd q v else s.storePlain q off v
    | 11 => s.writeHbr q off v
    | 12 => s.writePsc q off v
    | 13 => s.writeMgt q off v
    | 14 => s.writeRec q off v
    | 15 => s.writeHlt q off v
    | _ => s.writeTop q off v

/-- A write access of one aligned word (R34, R35). -/
def State.writeAny (s : State) (q : Requester) (off : Nat) (v : Word) : State :=
  if off % 4096 = 0x24 then s.lockWrite q (pageOf off) v
  else
    let held := match s.heldWord q (pageOf off) with
      | some p => if p.off = off + 4 then some p.word else none
      | none => none
    s.carry q off v fun s => s.writeReg q off held v

/-- A read access of one aligned word. -/
def State.readAny (s : State) (q : Requester) (off : Nat) : State := s.carryRead q off fun s => s.readReg q off

/-- An access error (R33). -/
def State.accessError (s : State) (q : Requester) (off width : Nat) (write : Bool) : State :=
  if !s.pathUp q then s
  else
    let pg := if mapped off && s.reachable off then pageOf off else P.HBR_CTRL
    let s := if s.reachable pg then s.raise pg 31 else s
    let s := if q = .host then s.lastErr 1 0 off else s
    let s := s.post (islandOf pg * 256 + 0x01) 2 (subject (blockOf pg) 0) (beBytes 1 q.code ++ beBytes 1 width ++ beBytes 4 off)
    let s := if mapped off && s.reachable off then s.countAccess q (pageOf off) else s
    if write then s else s.emit (.readError q off (if q = .host then none else some 0xFFFFFFFF))

/-! Requests of remote nodes (R292, R293). -/

/-- A write that the page drops under R37, R42, R43 or R45. -/
def State.dropsWrite (s : State) (q : Requester) (off : Nat) : Bool :=
  !s.reachable off ||
    (decide (0x40 ≤ off % 4096) && (s.acc.srst.contains (pageOf off) || s.pageBusy (pageOf off) || s.bit (F.PG_STAT_OFFLINE (pageOf off)))) ||
    (mapped off && !s.owns q (pageOf off) && (match regRow off with
      | some r => r.lockable && r.rw == 0
      | none => false))

/-- The data of a side response: EPOCH, node level, role; its OFFS: SYS_EVT_ISL. -/
def State.sideData (s : State) : Nat :=
  s.epoch * 65536 + (if s.isOn I.HLT then s.get F.HLT_CTRL_NODE_LEVEL else 0) * 16 + s.role

/-- The request at the head of the target queue is checked and executed. -/
def State.pscExecute (s : State) : State :=
  if !s.isOn I.PSC then s
  else match s.psc.queue with
    | [] => s
    | (f, serial) :: rest =>
      let s := s.modPsc fun c => { c with queue := rest, actor := serial }
      let num := fun (i n : Nat) => ofBytes (bytesAt f.payload i n)
      let type := num 0 1 / 32
      let win := num 3 1 % 8
      let off := num 4 4 % 2 ^ 21 / 4 * 4
      let denied := fun (s : State) =>
        let s := ((s.satInc F.PSC_CTRL_CNT_IN_DENIED).raise P.PSC_CTRL 0).post 0x0C12 2 0 (beBytes 2 f.src ++ beBytes 4 off)
        s.pscReply f serial 1 0 0
      match type with
      | 0 =>
        if s.aclPerm serial (off / 4096) = 0 then denied s
        else if !mapped off then (s.unmappedAccess .periscope off true).pscReply f serial 0 0xFFFFFFFF 0
        else if !s.reachable off then s.pscReply f serial 0 (0xFFFF0000 + islandOf off) 0
        else
          let before := s.out.length
          let s := s.readAny .periscope off
          let v := match s.out.drop before with
            | .readData _ _ w :: _ => w.toNat
            | _ => 0
          { s with out := s.out.take before }.pscReply f serial 0 v 0
      | 1 =>
        if s.aclPerm serial (off / 4096) < 2 then denied (s.countWrite serial win 0 1)
        else
          let drop := s.dropsWrite .periscope off
          let s := s.writeAny .periscope off (BitVec.ofNat 32 (num 8 4))
          if drop then (s.countWrite serial win 0 1).pscReply f serial 3 0 0 else s
      | 2 =>
        let p := (s.fencePair serial win).getD ⟨serial, win, 0, 0⟩
        ((s.setPair { p with wcnt := 0, fcnt := 0 }).pscReply f serial 0 p.wcnt p.fcnt)
      | _ =>
        if s.bit F.PSC_CTRL_CFG_SIDE_DENY then denied s
        else s.pscReply f serial 0 s.sideData (s.rd R.SYS_EVT_ISL).toNat

/-! The commands. -/

/-- REGISTER_WRITE (R17): a write of any register. -/
def execRegisterWrite (q : Requester) (off : Nat) (v : Word) (s : State) : Host.Outcome State Fault Refusal := .next (s.writeAny q (off / 4 * 4) v)

/-- UNMAPPED_ACCESS (R32). -/
def execUnmappedAccess (q : Requester) (off : Nat) (write : Bool) (s : State) : Host.Outcome State Fault Refusal :=
  .next (if write then s.writeAny q (off / 4 * 4) 0 else s.readAny q (off / 4 * 4))

/-- ACCESS_ERROR (R33): an access of the wrong width, alignment or byte enables. -/
def execAccessError (q : Requester) (off width : Nat) (write : Bool) (s : State) : Host.Outcome State Fault Refusal :=
  .next (s.accessError q off width write)

/-- OFF_ISLAND_ACCESS (R37). -/
def execOffIslandAccess (q : Requester) (off : Nat) (write : Bool) (v : Word) (s : State) : Host.Outcome State Fault Refusal :=
  .next (if write then s.writeAny q (off / 4 * 4) v else s.readAny q (off / 4 * 4))

/-- PAIR_LOW_READ (R34): a read, which latches the high word where the register is the low word of a pair. -/
def execPairLowRead (q : Requester) (off : Nat) (s : State) : Host.Outcome State Fault Refusal := .next (s.readAny q (off / 4 * 4))

/-- PAIR_HIGH_WRITE (R34). -/
def execPairHighWrite (q : Requester) (off : Nat) (v : Word) (s : State) : Host.Outcome State Fault Refusal :=
  .next (s.writeAny q (off / 4 * 4) v)

/-- PAIR_LOW_WRITE (R34). -/
def execPairLowWrite (q : Requester) (off : Nat) (v : Word) (s : State) : Host.Outcome State Fault Refusal :=
  .next (s.writeAny q (off / 4 * 4) v)

/-- GATED_ACCESS (R341): the gate opens for the access only, which is carried out. -/
def execGatedAccess (q : Requester) (off : Nat) (write : Bool) (v : Word) (s : State) : Host.Outcome State Fault Refusal :=
  .next (if write then s.writeAny q (off / 4 * 4) v else s.readAny q (off / 4 * 4))

/-- PERISCOPE_EXECUTE (R292, R293). -/
def execPeriscopeExecute (s : State) : Host.Outcome State Fault Refusal := .next s.pscExecute

end Sys2Proof.Machine
end

