-- ==== Sys2Proof/Machine/Apply.lean ====
section
/-!
DEFINITION. Firmware applies a configuration image (R364, R377 to R380) or a policy table (R381, R382).
-/

namespace Sys2Proof.Machine

/-! Firmware's own register writes (R379). -/

/-- Firmware unlocks a page, works on it, and locks it again. -/
def State.unlockedPage (s : State) (pg : Nat) (f : State → State) : State :=
  (f (s.lockWrite .firmware pg 0xC0DE)).lockWrite .firmware pg 0

/-- Firmware writes one register, with its page unlocked. -/
def State.fwWrite (s : State) (off : Nat) (v : Word) : State :=
  s.unlockedPage (pageOf off) fun s => s.writeAny .firmware off v

/-- The register is one of those that firmware unlocks a page for. -/
def regLockable (off : Nat) : Bool := decide (0x40 ≤ off % 4096) && ((regRow off).map fun r => r.lockable).getD false

/-- A REG write that is dropped under R37, R42, R43 or R45 (R379). -/
def State.regDropped (s : State) (off : Nat) (v : Word) : State :=
  ((s.satInc F.MGT_IMG_APPLY_REG_DROP).raise P.MGT_IMG 2).post 0x0D13 2 (subject 0 0) (beBytes 4 off ++ beBytes 4 v.toNat)

/-- One REG entry. -/
def State.applyReg (s : State) (off : Nat) (v : Word) : State :=
  let pg := pageOf off
  let lock := mapped off && regLockable off
  let s := if lock then s.lockWrite .firmware pg 0xC0DE else s
  let drop := s.dropsWrite .firmware off
  let s := s.writeAny .firmware off v
  let s := if lock then s.lockWrite .firmware pg 0 else s
  if drop then s.regDropped off v else s

/-! The sections (R377, R379). -/

/-- A word in a section's data. -/
def secWord (d : List Byte) (i : Nat) : Word := BitVec.ofNat 32 (secNum d i 4)

/-- NODE: the vehicle tag, SOLO (R247), ETB compatibility mode (R107). -/
def State.applyNode (s : State) (d : List Byte) : State :=
  let flags := secNum d 8 1
  let s := s.unlockedPage P.TOP_INAUG fun s =>
    (s.writeAny .firmware R.TOP_VTAG_HI (secWord d 0)).writeAny .firmware R.TOP_VTAG_LO (secWord d 4)
  let s := if s.isOn I.TOP then (s.putB F.TOP_ETB_CTRL_EN (flags.testBit 6)).beamRefreshAll else s
  if flags.testBit 7 && s.isOn I.TWN then (s.putB F.TWN_CTRL_ROLE_SOLO true).setRole 4 1 false 0 else s

/-- DVFS: the operating points of FAB, SGW and MGT (R344). -/
def State.applyDvfs (s : State) (d : List Byte) : State :=
  [0, 1, 2].foldl (fun s f => s.fwWrite (R.SYS_PWR_DVFS f) (secWord d (4 * f) ||| 0x80000000)) s

def State.applyClkrel (s : State) (d : List Byte) : State := s.fwWrite R.SYS_SRC_RELEASE (secWord d 0)

def State.applyServo (s : State) (d : List Byte) : State :=
  ((s.fwWrite R.TIM_SERVO_GAIN (secWord d 0)).fwWrite R.TIM_SERVO_LIMIT (secWord d 4)).fwWrite R.TIM_SERVO_CFG (secWord d 8)

def State.applyRegs (s : State) (d : List Byte) : State :=
  (List.range (d.length / 8)).foldl (fun s i => s.applyReg (secNum d (8 * i) 4) (secWord d (8 * i + 4))) s

/-- SLOT: the pending cycle and slot values; APPLY_K is the caller's. -/
def State.applySlot (s : State) (d : List Byte) : State :=
  s.unlockedPage P.TOP_SLOT fun s =>
    let s := (s.writeAny .firmware R.TOP_SLOT_CYC (secWord d 4)).writeAny .firmware R.TOP_SLOT_LAYOUT (secWord d 8)
    (List.range 128).foldl (fun s j => s.writeAny .firmware (R.TOP_SLOT_CLS_W (j / 8) (j % 8)) (secWord d (12 + 4 * j))) s

def State.applyBind (s : State) (d : List Byte) : State :=
  if !s.isOn I.TOP then s
  else (List.range (d.length / 16)).foldl (fun s i => s.bindStore i (bytesAt d (16 * i) 9)) s

def State.applyAcl (s : State) (d : List Byte) : State :=
  s.unlockedPage P.PSC_CTRL fun s => (List.range 32).foldl (fun s n =>
    (s.writeAny .firmware (R.PSC_CTRL_ACL_W0 n) (secWord d (8 * n))).writeAny .firmware (R.PSC_CTRL_ACL_W1 n) (secWord d (8 * n + 4))) s

/-- GATEWAY: bank 1 is loaded and a flip with AT_K = 0 is requested (R189). -/
def State.applyGateway (s : State) (d : List Byte) : State :=
  if !s.isOn I.SGW then s
  else
    let nent := secNum d 0 4
    let nin := secNum d 4 2
    let nrcp := secNum d 6 2
    let at' := fun (k : Nat) => bytesAt d (8 + 16 * k) 16
    let s := s.put F.SGW_CTRL_NENT1_NENT nent
    let s := (List.range nent).foldl (fun s i => s.wrBytes (mapAddr 1 i) (at' i)) s
    let s := (List.range nin).foldl (fun s i => s.wrBytes (inpAddr 1 i) (at' (nent + i))) s
    let s := (List.range nrcp).foldl (fun s i => s.wrBytes (rcpAddr 1 i) (at' (nent + nin + i))) s
    s.fwWrite R.SGW_CTRL_FLIP 1

/-- Apply a section of a type. -/
def State.applySection (s : State) (t : Nat) (d : List Byte) : State :=
  match t with
  | 0x001 => s.applyNode d
  | 0x002 => s.applyDvfs d
  | 0x003 => s.applyClkrel d
  | 0x004 => s.applyServo d
  | 0x005 => s.applyRegs d
  | 0x006 => s.applySlot d
  | 0x007 => s.applyBind d
  | 0x008 => s.applyAcl d
  | 0x009 => s.applyGateway d
  | 0x00A => s.applyGov d
  | 0x00B => s.applySleep d
  | _ => s

/-- The order of R379. -/
def applyOrder : List Nat := [0x001, 0x002, 0x003, 0x004, 0x005, 0x006, 0x007, 0x008, 0x00A, 0x00B, 0x009]

/-- Apply every section of a body, in order. -/
def State.applyBody (s : State) (body : List Byte) : State :=
  applyOrder.foldl (fun s t => match sectionData body t with
    | some d => (s.applySection t d).noteSection t d
    | none => s) s

/-! A start's configuration (R364). -/

/-- The image of bank `b` is applied: CFG_BANK, CFG_OK. -/
def State.configFrom (s : State) (b : Nat) : State :=
  let s := s.applyBody (s.cfgBody b)
  ((s.put F.SYS_RST_BOOT_CFG_BANK b).putB F.SYS_RST_BOOT_CFG_OK true).showConfig

/-- No image is accepted: CFG_NONE. -/
def State.configNone (s : State) (ra rb : Nat) : State :=
  (s.raise P.SYS_RST 4).post 0x0D16 4 (subject 0 0) (beBytes 1 ra ++ beBytes 1 rb)

/-- Firmware checks the image of its own bank, then the other's; `ue`: banks whose image is read with an uncorrected flash error. -/
def State.configApply (s : State) (ue : List Nat) : State :=
  if !s.fwRuns || !s.mgt.fresh || s.bit F.SYS_RST_BOOT_SAFE || s.bit F.SYS_RST_BOOT_CFG_OK then s
  else
    let b := s.get F.SYS_RST_BOOT_FW_BANK
    let s := s.modMgt fun m => { m with fresh := false }
    let r1 := s.cfgOutcome b (ue.contains b)
    let s := s.put (F.MGT_IMG_INFO_CFG_RES b) r1
    if r1 = 1 then s.configFrom b
    else
      let r2 := s.cfgOutcome (1 - b) (ue.contains (1 - b))
      let s := s.put (F.MGT_IMG_INFO_CFG_RES (1 - b)) r2
      if r2 = 1 then s.configFrom (1 - b) else if b = 0 then s.configNone r1 r2 else s.configNone r2 r1

/-! Policy tables (R381, R382). -/

/-- The known types that a policy table may hold. -/
def policyTypes : List Nat := [0x004, 0x006, 0x008, 0x00A, 0x00B]

/-- The island that holds a section's registers is off. -/
def State.sectionOff (s : State) (t : Nat) : Bool :=
  (t == 4 && !s.isOn I.TIM) || (t == 6 && !s.isOn I.TOP) || (t == 8 && !s.isOn I.PSC)

/-- The switch of a SLOT section: armed at APPLY_K, or at the next flip with 0. -/
def State.policyArm (s : State) (k : Nat) : State :=
  s.unlockedPage P.TOP_SLOT fun s =>
    if k = 0 then s.writeAny .firmware R.TOP_SLOT_ARM 0
    else (s.writeAny .firmware R.TOP_SLOT_APPLY_K (BitVec.ofNat 32 k)).writeAny .firmware R.TOP_SLOT_ARM 1

/-- A valid table is applied whole, or refused because ARM is LATE. -/
def State.policyApply (s : State) (r : MboxReq) (gen : Nat) (body : List Byte) : State :=
  let k := match sectionData body 6 with
    | some d => secNum d 0 4
    | none => 0
  if (sectionData body 6).isSome ∧ k ≠ 0 ∧ !laterThan 32 k s.cycle then (s.raise P.TOP_SLOT 5).answer r 3 [6] []
  else
    let s := s.applyBody body
    let s := if (sectionData body 6).isSome then s.policyArm k else s
    ((s.modMgt fun m => { m with policyGen := gen }).satInc F.MGT_IMG_APPLY_POLICIES).answer r 0 [0] []

/-- POLICY_LOAD: verified under R373, validated under R378. It waits while an attempt holds the pending values (R110). -/
def State.policyLoad (s : State) (r : MboxReq) : State :=
  let len := r.arg 0
  if len < 256 ∨ 2048 < len ∨ (r.from'.isSome ∧ r.data.length < len) then s.answer r 3 [] []
  else
    let bytes := s.mboxData r len
    let h := bytes.take 256
    let body := (bytes.drop 256).take (hdrLen h)
    match s.ownerDigest with
    | none => s.answer r 5 [] []
    | some key =>
      if !hdrIs h 3 len || !signatureOk h body key then s.answer r 5 [] []
      else if hdrGen h < s.mgt.policyGen then s.answer r 4 [] []
      else match badSection (fun t => policyTypes.contains t) body with
        | some t => s.answer r 3 [BitVec.ofNat 32 t] []
        | none =>
          match policyTypes.find? fun t => (sectionData body t).isSome && s.sectionOff t with
          | some t => s.answer r 7 [BitVec.ofNat 32 t] []
          | none => if (sectionData body 6).isSome ∧ s.phase ≠ 0 then s else s.policyApply r (hdrGen h) body

/-! The commands. -/

/-- CONFIG_APPLY (R364). -/
def execConfigApply (ue : List Nat) (s : State) : Host.Outcome State Fault Refusal := .next (s.configApply ue)

/-- POLICY_LOAD (R381). -/
def execPolicyLoad (s : State) : Host.Outcome State Fault Refusal := .next (s.serve 0x30 fun s r => s.policyLoad r)

end Sys2Proof.Machine
end

