-- ==== Sys2Proof/Machine/Late.lean ====
section
/-!
DEFINITION. What touches many islands at once: the flip (R94), the cycle boundary (R452), the expiry of a context (R149), the loss of
the mirror witness (R252).
-/

namespace Sys2Proof.Machine

/-! The flip. -/

/-- A flip is due: the numbering is complete and a usable COMMIT, or a TTDP topology, has set its moment. -/
def State.flipReady (s : State) : Bool := s.isOn I.TOP && s.phase == 4 && s.top.shadow.isSome && s.top.flipAt != .none

/-- The node flips (R94); a dusk that has not reached N − 16 ends (R310). -/
def State.flipNow (s : State) : State := if s.flipReady then s.flip.duskFlip else s

/-- Cycle K of the flip has started (R93). -/
def State.kReached (s : State) : Bool :=
  match s.top.flipAt with
  | .cycle k => !laterThan 32 k s.cycle
  | _ => false

/-- The flip falls at the boundary of the cycle that starts: cycle K (R93), or the next boundary in ETB compatibility mode (R108). -/
def State.flipDue (s : State) : Bool := s.kReached || s.top.flipAt == .boundary

/-! The cycle boundary. -/

/-- The count takes its next value (R452). -/
def State.nextCycle (s : State) : State := s.wr R.TOP_SLOT_CYCNT (s.rd R.TOP_SLOT_CYCNT + 1)

/-- A cycle of the watch of an end node ends (R73). -/
def EndWatch.boundary (w : EndWatch) : EndWatch := { w with silent := if w.seen then 0 else w.silent + 1, seen := false }

/-- The watches of the end nodes: cycles without their lanterns. -/
def State.watchBoundary (s : State) : State :=
  { s with top := { s.top with watch1 := s.top.watch1.boundary, watchN := s.top.watchN.boundary } }

/-- The extra publication events of a switch-over (R269). -/
def State.extraPublications (s : State) (ctxs : List Nat) : State :=
  ctxs.foldl (fun s i => match s.submitted i with
    | some b => s.publish i b
    | none => s) s

/-- What the boundary does to the numbering and to the cycle's own values: grace, flip, slot values, gate lists (R96, R94, R110,
R154). -/
def State.boundaryValues (s : State) : State :=
  let s := s.nextCycle.beamBoundary.watchBoundary.graceBoundary
  let s := if s.flipDue then s.flipNow else s
  let s := s.slotApply.gateSwaps
  if s.timOn then s.boundaryCapture else s

/-- What the boundary does to roles and publications: the twin first, so that a new ACTIVE publishes in this cycle (R260, R150). -/
def State.boundaryWork (s : State) (claimLow : Bool) : State :=
  let extra := s.twn.extra
  let s := s.wofsBoundary.modTwn fun t => { t with extra := [] }
  let s := s.twnBoundary claimLow
  let s := s.sgwBoundary
  if s.isOn I.FAB then s.publications.extraPublications extra else s

/-- What the boundary sends, and the sleep agreement (R233, R249, R305, R312). -/
def State.boundarySends (s : State) (canWake : Nat) : State :=
  let s := s.timeFrameSend
  let s := (s.sendLantern .a).sendLantern .b
  let s := s.wakeBoundary
  if !s.asleep && s.wakeState == 1 && !s.beforeCycle s.duskN then s.nightfallStart canWake else s

/-- The node's boundary: `claimLow`: the filtered claim line, `canWake`: the CANn_WAKE inputs that are active. -/
def State.cycleBoundary (s : State) (claimLow : Bool) (canWake : Nat) : State :=
  if !s.isOn I.TOP then s
  else ((s.boundaryValues.boundaryWork claimLow).boundarySends canWake).settle

/-! Leaving the free-running boundary. -/

/-- An event of the lines or their windows: where it takes the boundary out of free running, the move counts as one boundary for the
grace (R452). -/
def State.leaving (s : State) (f : State → State) : State :=
  let t := f s
  if s.boundaryLine.isNone && t.boundaryLine.isSome && t.isOn I.TOP then t.graceBoundary else t

/-! Frames from the lines. A frame that a line brings arrives whole with BACKBONE_FRAME_RX, ETHERNET_FRAME_RX or BEAM_FRAME_RX; the commands
of its class are its arrival at the island alone (log entry 86). -/

/-- A topology frame reaches TOP. -/
def State.topologyRx (s : State) (p : BPort) (f : NFrame) : State :=
  s.topRx p f fun s => match f.flow with
    | 1 => s.rxRequest p f
    | 2 => s.rxJoin p
    | 3 => s.rxIdent p f
    | 4 => s.rxXident p f
    | 5 => s.rxXend p f
    | 6 => s.rxCommit p f
    | _ => s.rxReady p f

/-- A class 2 frame reaches TOP, and a class 4 frame TWN, with its line and port and before duplicate discard (R69). -/
def State.linePass (s : State) (p : BPort) (f : NFrame) (claimLow : Bool) : State :=
  if f.cls = 2 ∧ f.epn then s.topologyRx p f
  else if f.cls = 4 then
    match f.flow with
    | 1 => s.backboneLantern p f
    | 2 => s.confirmReqRx f
    | 3 => s.confirmRx f claimLow
    | _ => s
  else s

/-- A frame that FAB has accepted for the node reaches its island (R28, R304). -/
def State.islandRx (s : State) (p : BPort) (f : NFrame) : State :=
  match f.cls with
  | 3 => if f.flow = 0x010 then s.remoteRx f else s.pscRx f
  | 5 => s.timeFrameRx p f
  | 6 => match f.flow with
    | 1 => s.duskRx f
    | 2 => s.vetoRx f
    | 3 => s.cancelRx f
    | 4 => s.sleepRequestRx f
    | 5 => s.dawnRx f
    | _ => s
  | _ => s

/-- What FAB has answered about a frame: an accepted one goes on to its island. -/
def State.afterFab (s : State) (accepted : Bool) (p : BPort) (f : NFrame) : State := if accepted then s.islandRx p f else s

/-- A native frame outside the window, from the line to the island that it is for. -/
def State.lineFrame (s : State) (p : BPort) (pcp : Nat) (f : NFrame) (fcsOk claimLow : Bool) : State :=
  let s := if s.linked p && fcsOk && nfCrcOk f then s.linePass p f claimLow else s
  let r := s.backboneRx p pcp f fcsOk
  (r.2.afterFab r.1 p f).settle

/-- A native frame of a beam frame, from the line to the island that it is for. -/
def State.beamFrame (s : State) (p : BPort) (pos : Nat) (b : BeamFrame) (f : NFrame) : State :=
  let r := s.beamRx p pos b
  r.2.afterFab r.1 p f

/-! The commands. -/

/-- BACKBONE_FRAME_RX (R66). -/
def execBackboneFrameRx (p : BPort) (pcp : Nat) (f : NFrame) (w : FrameSigns) (s : State) : Host.Outcome State Fault Refusal :=
  .next (s.lineFrame p pcp f w.fcsOk w.claimLow)

/-- BEAM_FRAME_RX (R121). -/
def execBeamFrameRx (p : BPort) (pos : Nat) (head : BeamHead) (body : BeamBody) (claimLow : Bool) (s : State) :
    Host.Outcome State Fault Refusal :=
  let b := head.frame body.hchk body.data body.fcs
  .next (match s.beamNative p b with
    | some f => ((s.linePass p f claimLow).beamFrame p pos b f).settle
    | none => (s.beamRx p pos b).2)

/-- ETHERNET_FRAME_RX (R141): a frame with FAB_ETYPE on a backbone port is a native frame, whose traffic class its tag gives (R136). -/
def execEthernetFrameRx (port : Nat) (f : EthFrame) (w : FrameSigns) (s : State) : Host.Outcome State Fault Refusal :=
  .next (if port < 4 ∧ f.etype = s.get F.FAB_CTRL_ETYPE_ETYPE then
      s.lineFrame (bportOf port) ((f.tag.map (·.1)).getD 0) (nfParse f.payload) w.fcsOk w.claimLow
    else (s.ethRx port f w.fcsOk).2)

/-- PORT_LINK_UP (R52). -/
def execPortLinkUp (p : BPort) (rate rx tx : Nat) (isMaster : Bool) (s : State) : Host.Outcome State Fault Refusal :=
  .next (s.leaving fun s => s.portLinkUp p rate rx tx isMaster)

/-- PORT_LINK_DOWN (R73). -/
def execPortLinkDown (p : BPort) (s : State) : Host.Outcome State Fault Refusal := .next (s.leaving fun s => s.portLinkDown p)

/-- MARKER (R117). -/
def execMarker (x : BPort) (arrival : Nat) (head : BeamHead) (hchk : Nat) (data : List Byte) (fcs : Nat) (s : State) :
    Host.Outcome State Fault Refusal :=
  .next (s.leaving fun s => s.marker x arrival (head.frame hchk data fcs))

/-- MARKER_MISSING (R118). -/
def execMarkerMissing (x : BPort) (guardErr : Option Nat) (s : State) : Host.Outcome State Fault Refusal :=
  .next (s.leaving fun s => s.markerMissing x guardErr)

/-- FLIP (R94): at the start of cycle K, or after LEAD. A flip of ETB compatibility mode falls at a boundary (R108). -/
def execFlip (s : State) : Host.Outcome State Fault Refusal :=
  .next (if s.kReached || s.top.flipAt == .lead then s.flipNow else s)

/-- CYCLE_BOUNDARY (R452). -/
def execCycleBoundary (claimLow : Bool) (canWake : Nat) (s : State) : Host.Outcome State Fault Refusal :=
  .next (s.cycleBoundary claimLow canWake)

/-- A context expires (R149); SGW's input of it follows (R168). -/
def State.expire (s : State) (ctx : Nat) : State :=
  let t := s.ctxExpire ctx
  if s.isOn I.FAB && t.ctxStat ctx 6 && !s.ctxStat ctx 6 then t.ctxInputExpired ctx else t

/-- EXPIRE (R149). -/
def execExpire (ctx : Nat) (s : State) : Host.Outcome State Fault Refusal := .next (s.expire ctx)

/-- MIRROR_WITNESS_LOST (R252); `claimLow`: the filtered claim line. -/
def execMirrorWitnessLost (claimLow : Bool) (s : State) : Host.Outcome State Fault Refusal := .next (s.mirrorSilent claimLow).settle

end Sys2Proof.Machine
end

