-- ==== Sys2Proof/Machine/Dispatch.lean ====
section
/-!
DEFINITION. One arm per command: each arm calls its command's meaning.
-/

namespace Sys2Proof.Machine

def exec (i : Instr) (s : State) : Host.Outcome State Fault Refusal :=
  match i with
  | .registerWrite q off v => Sys2Proof.Machine.execRegisterWrite q off v s
  | .unmappedAccess q off write => Sys2Proof.Machine.execUnmappedAccess q off write s
  | .accessError q off width write => Sys2Proof.Machine.execAccessError q off width write s
  | .offIslandAccess q off write v => Sys2Proof.Machine.execOffIslandAccess q off write v s
  | .pairLowRead q off => Sys2Proof.Machine.execPairLowRead q off s
  | .pairHighWrite q off v => Sys2Proof.Machine.execPairHighWrite q off v s
  | .pairLowWrite q off v => Sys2Proof.Machine.execPairLowWrite q off v s
  | .pageUnlock q pg => Sys2Proof.Machine.execPageUnlock q pg s
  | .pageRelock q pg v => Sys2Proof.Machine.execPageRelock q pg v s
  | .lockTimeout pg => Sys2Proof.Machine.execLockTimeout pg s
  | .blockSrst q pg v => Sys2Proof.Machine.execBlockSrst q pg v s
  | .srstComplete pg => Sys2Proof.Machine.execSrstComplete pg s
  | .blockEnWrite q pg v => Sys2Proof.Machine.execBlockEnWrite q pg v s
  | .eventForce q pg v => Sys2Proof.Machine.execEventForce q pg v s
  | .eventClear q pg v hw => Sys2Proof.Machine.execEventClear q pg v hw s
  | .eventAggregate isl => Sys2Proof.Machine.execEventAggregate isl s
  | .eoi q v => Sys2Proof.Machine.execEoi q v s
  | .msixUnmask q vec v => Sys2Proof.Machine.execMsixUnmask q vec v s
  | .lineOpenRequest l => Sys2Proof.Machine.execLineOpenRequest l s
  | .openingComplete l => Sys2Proof.Machine.execOpeningComplete l s
  | .bypassClose l => Sys2Proof.Machine.execBypassClose l s
  | .closingComplete l => Sys2Proof.Machine.execClosingComplete l s
  | .bypWdog l => Sys2Proof.Machine.execBypWdog l s
  | .bypMismatch l => Sys2Proof.Machine.execBypMismatch l s
  | .holdoffElapsed l => Sys2Proof.Machine.execHoldoffElapsed l s
  | .forceByp q l v => Sys2Proof.Machine.execForceByp q l v s
  | .clrLockout q l v => Sys2Proof.Machine.execClrLockout q l v s
  | .retrain q l v => Sys2Proof.Machine.execRetrain q l v s
  | .portLinkUp p rate rx tx isMaster => Sys2Proof.Machine.execPortLinkUp p rate rx tx isMaster s
  | .portLinkDown p => Sys2Proof.Machine.execPortLinkDown p s
  | .trainFail l => Sys2Proof.Machine.execTrainFail l s
  | .failCntClear l => Sys2Proof.Machine.execFailCntClear l s
  | .failsafe l fab top => Sys2Proof.Machine.execFailsafe l fab top s
  | .failsafeRecover l => Sys2Proof.Machine.execFailsafeRecover l s
  | .lineSrst q l v => Sys2Proof.Machine.execLineSrst q l v s
  | .portSrst q p v => Sys2Proof.Machine.execPortSrst q p v s
  | .backboneFrameRx p pcp f w => Sys2Proof.Machine.execBackboneFrameRx p pcp f w s
  | .ldupAge epoch src cls flow => Sys2Proof.Machine.execLdupAge epoch src cls flow s
  | .inaug q v => Sys2Proof.Machine.execInaug q v s
  | .clrHold q v => Sys2Proof.Machine.execClrHold q v s
  | .flapHoldEnd p => Sys2Proof.Machine.execFlapHoldEnd p s
  | .lanternLossTrigger => Sys2Proof.Machine.execLanternLossTrigger s
  | .request p f => Sys2Proof.Machine.execRequest p f s
  | .join p f => Sys2Proof.Machine.execJoin p f s
  | .ident p f => Sys2Proof.Machine.execIdent p f s
  | .xident p f => Sys2Proof.Machine.execXident p f s
  | .xend p f => Sys2Proof.Machine.execXend p f s
  | .silent p => Sys2Proof.Machine.execSilent p s
  | .numbering => Sys2Proof.Machine.execNumbering s
  | .ready p f => Sys2Proof.Machine.execReady p f s
  | .commitInsert lead => Sys2Proof.Machine.execCommitInsert lead s
  | .commit p f => Sys2Proof.Machine.execCommit p f s
  | .flip => Sys2Proof.Machine.execFlip s
  | .commitMiss => Sys2Proof.Machine.execCommitMiss s
  | .graceEnd => Sys2Proof.Machine.execGraceEnd s
  | .bindWrite q v => Sys2Proof.Machine.execBindWrite q v s
  | .ttdpTopologyChange topo own nodes => Sys2Proof.Machine.execTtdpTopologyChange topo own nodes s
  | .inhibit q v => Sys2Proof.Machine.execInhibit q v s
  | .cycleBoundary claimLow canWake => Sys2Proof.Machine.execCycleBoundary claimLow canWake s
  | .windowOpen x intrude guardErr => Sys2Proof.Machine.execWindowOpen x intrude guardErr s
  | .marker x arrival head hchk data fcs => Sys2Proof.Machine.execMarker x arrival head hchk data fcs s
  | .markerMissing x guardErr => Sys2Proof.Machine.execMarkerMissing x guardErr s
  | .probeSend p tTx => Sys2Proof.Machine.execProbeSend p tTx s
  | .probe p tRx head hchk data fcs => Sys2Proof.Machine.execProbe p tRx head hchk data fcs s
  | .beamFrameRx p pos head body claimLow => Sys2Proof.Machine.execBeamFrameRx p pos head body claimLow s
  | .arm q v => Sys2Proof.Machine.execArm q v s
  | .ethernetFrameRx port f w => Sys2Proof.Machine.execEthernetFrameRx port f w s
  | .frameTransmit port late free => Sys2Proof.Machine.execFrameTransmit port late free s
  | .fdbAge mac vid => Sys2Proof.Machine.execFdbAge mac vid s
  | .flush q v => Sys2Proof.Machine.execFlush q v s
  | .flowWrite q v => Sys2Proof.Machine.execFlowWrite q v s
  | .flowRead q v => Sys2Proof.Machine.execFlowRead q v s
  | .clrcnt q v => Sys2Proof.Machine.execClrcnt q v s
  | .expire ctx => Sys2Proof.Machine.execExpire ctx s
  | .swap q v => Sys2Proof.Machine.execSwap q v s
  | .bankPoolWrite q hi v => Sys2Proof.Machine.execBankPoolWrite q hi v s
  | .bankMoved bank => Sys2Proof.Machine.execBankMoved bank s
  | .cpLinkChg port up fast => Sys2Proof.Machine.execCpLinkChg port up fast s
  | .pdFrameRx port f => Sys2Proof.Machine.execPdFrameRx port f s
  | .comidWrite q h v => Sys2Proof.Machine.execComidWrite q h v s
  | .cbRecoveryReset stream => Sys2Proof.Machine.execCbRecoveryReset stream s
  | .cbdupStreamWrite q v => Sys2Proof.Machine.execCbdupStreamWrite q v s
  | .inputArrival src => Sys2Proof.Machine.execInputArrival src s
  | .inpExpire inp => Sys2Proof.Machine.execInpExpire inp s
  | .passStart => Sys2Proof.Machine.execPassStart s
  | .passDone dur ueEntries ueSources => Sys2Proof.Machine.execPassDone dur ueEntries ueSources s
  | .stall => Sys2Proof.Machine.execStall s
  | .imageWrite q hi lo => Sys2Proof.Machine.execImageWrite q hi lo s
  | .mapEntryWrite q v => Sys2Proof.Machine.execMapEntryWrite q v s
  | .mapRead q v => Sys2Proof.Machine.execMapRead q v s
  | .rcpEntryWrite q v => Sys2Proof.Machine.execRcpEntryWrite q v s
  | .rcpRead q v => Sys2Proof.Machine.execRcpRead q v s
  | .flipRequest q v => Sys2Proof.Machine.execFlipRequest q v s
  | .validationDone => Sys2Proof.Machine.execValidationDone s
  | .cancel q v => Sys2Proof.Machine.execCancel q v s
  | .channelStart n => Sys2Proof.Machine.execChannelStart n s
  | .modeWrite q n v => Sys2Proof.Machine.execModeWrite q n v s
  | .modeChg n => Sys2Proof.Machine.execModeChg n s
  | .canFrameRx n f ago ue => Sys2Proof.Machine.execCanFrameRx n f ago ue s
  | .canTxAttempt n ue => Sys2Proof.Machine.execCanTxAttempt n ue s
  | .canTxEnd n e => Sys2Proof.Machine.execCanTxEnd n e s
  | .busoffHoldEnd n => Sys2Proof.Machine.execBusoffHoldEnd n s
  | .recover q n v => Sys2Proof.Machine.execRecover q n v s
  | .busoffRecovered n => Sys2Proof.Machine.execBusoffRecovered n s
  | .queueConfigWrite q n k v => Sys2Proof.Machine.execQueueConfigWrite q n k v s
  | .queuePointerWrite q n k v => Sys2Proof.Machine.execQueuePointerWrite q n k v s
  | .abort q n v => Sys2Proof.Machine.execAbort q n v s
  | .referenceMessageDue n => Sys2Proof.Machine.execReferenceMessageDue n s
  | .mdataAccess q h a hi lo => Sys2Proof.Machine.execMdataAccess q h a hi lo s
  | .timeFrameRx p f => Sys2Proof.Machine.execTimeFrameRx p f s
  | .holdover => Sys2Proof.Machine.execHoldover s
  | .gmConflictClear => Sys2Proof.Machine.execGmConflictClear s
  | .start q v => Sys2Proof.Machine.execStart q v s
  | .wofsCommit q hi lo => Sys2Proof.Machine.execWofsCommit q hi lo s
  | .gptpSyncSend port seq => Sys2Proof.Machine.execGptpSyncSend port seq s
  | .gptpAnnounceSend port seq => Sys2Proof.Machine.execGptpAnnounceSend port seq s
  | .gptpPdelay port delay ok capable => Sys2Proof.Machine.execGptpPdelay port delay ok capable s
  | .gptpMessageRx port m => Sys2Proof.Machine.execGptpMessageRx port m s
  | .tsCaptureCopy q v => Sys2Proof.Machine.execTsCaptureCopy q v s
  | .mirrorLanternSend => Sys2Proof.Machine.execMirrorLanternSend s
  | .mirrorLanternRx payload => Sys2Proof.Machine.execMirrorLanternRx payload s
  | .backboneLanternRx p f => Sys2Proof.Machine.execBackboneLanternRx p f s
  | .mirrorWitnessLost claimLow => Sys2Proof.Machine.execMirrorWitnessLost claimLow s
  | .claimWaitEnd highThroughout => Sys2Proof.Machine.execClaimWaitEnd highThroughout s
  | .claimStuck high => Sys2Proof.Machine.execClaimStuck high s
  | .claimLineTest lowIn highAfter => Sys2Proof.Machine.execClaimLineTest lowIn highAfter s
  | .clrFault q v => Sys2Proof.Machine.execClrFault q v s
  | .confirmReq => Sys2Proof.Machine.execConfirmReq s
  | .confirmReqRx p f => Sys2Proof.Machine.execConfirmReqRx p f s
  | .confirm p f claimLow => Sys2Proof.Machine.execConfirm p f claimLow s
  | .confTExpire => Sys2Proof.Machine.execConfTExpire s
  | .startTExpire claimLow => Sys2Proof.Machine.execStartTExpire claimLow s
  | .handover q v => Sys2Proof.Machine.execHandover q v s
  | .isolate q v => Sys2Proof.Machine.execIsolate q v s
  | .rejoin q v => Sys2Proof.Machine.execRejoin q v s
  | .admitPartner q v => Sys2Proof.Machine.execAdmit q v s
  | .handoverDeclined => Sys2Proof.Machine.execHandoverDeclined s
  | .autoHandoverCause cause => Sys2Proof.Machine.execAutoHandoverCause cause s
  | .mirrorLinkUp => Sys2Proof.Machine.execMirrorLinkUp s
  | .laneDegr second => Sys2Proof.Machine.execLaneDegr second s
  | .mirrorLinkDown => Sys2Proof.Machine.execMirrorLinkDown s
  | .epochRecord item => Sys2Proof.Machine.execEpochRecord item s
  | .erecRx n payload => Sys2Proof.Machine.execErecRx n payload s
  | .ecloseRx n payload => Sys2Proof.Machine.execEcloseRx n payload s
  | .epochMismatch => Sys2Proof.Machine.execEpochMismatch s
  | .brecRx n payload => Sys2Proof.Machine.execBrecRx n payload s
  | .bcloseRx n payload => Sys2Proof.Machine.execBcloseRx n payload s
  | .mirrorCrcErr => Sys2Proof.Machine.execMirrorCrcErr s
  | .endpointReset kind => Sys2Proof.Machine.execEndpointReset kind s
  | .pcieLinkUp speed width => Sys2Proof.Machine.execPcieLinkUp speed width s
  | .configRequest reg write => Sys2Proof.Machine.execConfigRequest reg write s
  | .nowin off n write => Sys2Proof.Machine.execNowin off n write s
  | .messageRamWindowAccess off n write ue => Sys2Proof.Machine.execMessageRamWindowAccess off n write ue s
  | .iwinEnable q n v => Sys2Proof.Machine.execIwinEnable q n v s
  | .owinEnable q m v => Sys2Proof.Machine.execOwinEnable q m v s
  | .ringEnable q r v => Sys2Proof.Machine.execRingEnable q r v s
  | .ringPutWrite q r v => Sys2Proof.Machine.execRingPutWrite q r v s
  | .rxRingDeliver k mem => Sys2Proof.Machine.execRxRingDeliver k mem s
  | .txDescriptor mem readError => Sys2Proof.Machine.execTxDescriptor mem readError s
  | .bmeChange on => Sys2Proof.Machine.execBmeChange on s
  | .periscopeRead off n => Sys2Proof.Machine.execPeriscopeRead off n s
  | .timeout off => Sys2Proof.Machine.execTimeout off s
  | .periscopeResponseRx f => Sys2Proof.Machine.execPeriscopeResponseRx f s
  | .drDiscard e => Sys2Proof.Machine.execDrDiscard e s
  | .periscopeWrite off bytes => Sys2Proof.Machine.execPeriscopeWrite off bytes s
  | .pwfail f => Sys2Proof.Machine.execPwfail f s
  | .pwlogGetWrite q v => Sys2Proof.Machine.execPwlogGetWrite q v s
  | .periscopeRequestRx f => Sys2Proof.Machine.execPeriscopeRequestRx f s
  | .periscopeExecute => Sys2Proof.Machine.execPeriscopeExecute s
  | .fence q v => Sys2Proof.Machine.execFence q v s
  | .fenceTExpire => Sys2Proof.Machine.execFenceTExpire s
  | .sidePoll => Sys2Proof.Machine.execSidePoll s
  | .aclEntryWrite q n v => Sys2Proof.Machine.execAclEntryWrite q n v s
  | .pscWindowEnable q p v => Sys2Proof.Machine.execPscWindowEnable q p v s
  | .propose q v => Sys2Proof.Machine.execPropose q v s
  | .withdraw q v => Sys2Proof.Machine.execWithdraw q v s
  | .dusk f => Sys2Proof.Machine.execDusk f s
  | .veto q v => Sys2Proof.Machine.execVeto q v s
  | .hold q v => Sys2Proof.Machine.execHold q v s
  | .sleepReq q v => Sys2Proof.Machine.execSleepReq q v s
  | .sleepRequestRx f => Sys2Proof.Machine.execSleepRequestRx f s
  | .vetoRx f => Sys2Proof.Machine.execVetoRx f s
  | .cancelRx f => Sys2Proof.Machine.execCancelRx f s
  | .dark => Sys2Proof.Machine.execDark s
  | .minDarkTimeEnd => Sys2Proof.Machine.execMinDarkTimeEnd s
  | .wakeSource src chan => Sys2Proof.Machine.execWakeSource src chan s
  | .dawnPulseInject => Sys2Proof.Machine.execDawnPulseInject s
  | .dawnSend => Sys2Proof.Machine.execDawnSend s
  | .dawn q v => Sys2Proof.Machine.execDawn q v s
  | .dawnRx f => Sys2Proof.Machine.execDawnRx f s
  | .pulseRx l => Sys2Proof.Machine.execPulseRx l s
  | .isoWrite q v => Sys2Proof.Machine.execIsoWrite q v s
  | .kaOkFall => Sys2Proof.Machine.execKaOkFall s
  | .filteredEdge inp level => Sys2Proof.Machine.execFilteredEdge inp level s
  | .edge inp => Sys2Proof.Machine.execEdge inp s
  | .stuck inp => Sys2Proof.Machine.execStuck inp s
  | .stuckRelease inp => Sys2Proof.Machine.execStuckRelease inp s
  | .chat inp => Sys2Proof.Machine.execChat inp s
  | .chatHoldEnd inp => Sys2Proof.Machine.execChatHoldEnd inp s
  | .dinCfgWrite q inp v => Sys2Proof.Machine.execDinCfgWrite q inp v s
  | .xoQual => Sys2Proof.Machine.execXoQual s
  | .xoFail => Sys2Proof.Machine.execXoFail s
  | .sourceFailure src => Sys2Proof.Machine.execSourceFailure src s
  | .srcLoss src => Sys2Proof.Machine.execSrcLoss src s
  | .lineHold => Sys2Proof.Machine.execLineHold s
  | .lineRefChg ref near => Sys2Proof.Machine.execLineRefChg ref near s
  | .pllLineLock ofs => Sys2Proof.Machine.execPllLineLock ofs s
  | .releaseWrite q v => Sys2Proof.Machine.execReleaseWrite q v s
  | .srcWrite q isl v => Sys2Proof.Machine.execSrcWrite q isl v s
  | .switchDone isl => Sys2Proof.Machine.execSwitchDone isl s
  | .forced isl => Sys2Proof.Machine.execForced isl s
  | .xdrop isl count => Sys2Proof.Machine.execXdrop isl count s
  | .clockGateRequest q pg v => Sys2Proof.Machine.execClockGateRequest q pg v s
  | .gated pg => Sys2Proof.Machine.execGated pg s
  | .gateRefused pg => Sys2Proof.Machine.execGateRefused pg s
  | .clockGateOpen q pg v => Sys2Proof.Machine.execClockGateOpen q pg v s
  | .gatedAccess q off write v => Sys2Proof.Machine.execGatedAccess q off write v s
  | .dvfsRequest q f v => Sys2Proof.Machine.execDvfsRequest q f v s
  | .dvfsFreqStep f => Sys2Proof.Machine.execDvfsFreqStep f s
  | .dvfsDone f => Sys2Proof.Machine.execDvfsDone f s
  | .powerCmd q off v => Sys2Proof.Machine.execPowerCmd q off v s
  | .islandPowerDown isl step => Sys2Proof.Machine.execIslandPowerDown isl step s
  | .islandPowerDownDone isl => Sys2Proof.Machine.execIslandPowerDownDone isl s
  | .islandPowerUpStart isl step => Sys2Proof.Machine.execIslandPowerUpStart isl step s
  | .islandPowerUpDone isl => Sys2Proof.Machine.execIslandPowerUpDone isl s
  | .coldStart => Sys2Proof.Machine.execColdStart s
  | .supplyStart => Sys2Proof.Machine.execSupplyStart s
  | .supplyLoss => Sys2Proof.Machine.execSupplyLoss s
  | .powerOnResetRelease tpos => Sys2Proof.Machine.execPowerOnResetRelease tpos s
  | .nresetIn => Sys2Proof.Machine.execNresetIn s
  | .thermalReset => Sys2Proof.Machine.execThermalReset s
  | .railFault => Sys2Proof.Machine.execRailFault s
  | .softwareReset q v => Sys2Proof.Machine.execSoftwareReset q v s
  | .clrSafe q v => Sys2Proof.Machine.execClrSafe q v s
  | .moduleResetWindowSlide => Sys2Proof.Machine.execModuleResetWindowSlide s
  | .strapChg pin => Sys2Proof.Machine.execStrapChg pin s
  | .boot ue => Sys2Proof.Machine.execBoot ue s
  | .configApply ue => Sys2Proof.Machine.execConfigApply ue s
  | .lockstep ue => Sys2Proof.Machine.execLockstep ue s
  | .wdt => Sys2Proof.Machine.execWdt s
  | .kick q v => Sys2Proof.Machine.execKick q v s
  | .mgtRestart q v => Sys2Proof.Machine.execMgtRestart q v s
  | .mboxPush q v => Sys2Proof.Machine.execMboxPush q v s
  | .echo => Sys2Proof.Machine.execEcho s
  | .version => Sys2Proof.Machine.execVersion s
  | .govStatus => Sys2Proof.Machine.execGovStatus s
  | .imgBegin => Sys2Proof.Machine.execImgBegin s
  | .imgWrite => Sys2Proof.Machine.execImgWrite s
  | .imgEnd ue => Sys2Proof.Machine.execImgEnd ue s
  | .imgInfo => Sys2Proof.Machine.execImgInfo s
  | .imgActivate => Sys2Proof.Machine.execImgActivate s
  | .imgConfirm => Sys2Proof.Machine.execImgConfirm s
  | .svnCommit => Sys2Proof.Machine.execSvnCommit s
  | .ownerKey => Sys2Proof.Machine.execOwnerKey s
  | .policyLoad => Sys2Proof.Machine.execPolicyLoad s
  | .policyRead => Sys2Proof.Machine.execPolicyRead s
  | .pop q v => Sys2Proof.Machine.execPop q v s
  | .remoteManagementRx f => Sys2Proof.Machine.execRemoteManagementRx f s
  | .govWindowEnd load => Sys2Proof.Machine.execGovWindowEnd load s
  | .recEventStamp => Sys2Proof.Machine.execRecEventStamp s
  | .recCommit => Sys2Proof.Machine.execRecCommit s
  | .coalClose => Sys2Proof.Machine.execCoalClose s
  | .loss => Sys2Proof.Machine.execLoss s
  | .recPost q v => Sys2Proof.Machine.execRecPost q v s
  | .clear q v => Sys2Proof.Machine.execClear q v s
  | .recPortPop q ue => Sys2Proof.Machine.execRecPortPop q ue s
  | .recPortCurWrite q v => Sys2Proof.Machine.execRecPortCurWrite q v s
  | .stopWrite q v => Sys2Proof.Machine.execStopWrite q v s
  | .recSrst q pg v => Sys2Proof.Machine.execRecSrst q pg v s
  | .streamEnable q v => Sys2Proof.Machine.execStreamEnable q v s
  | .strm => Sys2Proof.Machine.execStrm s
  | .streamGetWrite q v => Sys2Proof.Machine.execStreamGetWrite q v s
  | .eccEvent pg mem row group ue => Sys2Proof.Machine.execEccEvent pg mem row group ue s
  | .ceHourEnd => Sys2Proof.Machine.execCeHourEnd s
  | .sensorAlarm k => Sys2Proof.Machine.execSensorAlarm k s
  | .healthReasonClearTimer isl bit item value => Sys2Proof.Machine.execHealthReasonClearTimer isl bit item value s
  | .fwLevelWrite q n v => Sys2Proof.Machine.execFwLevelWrite q n v s
  | .bankTest q v => Sys2Proof.Machine.execBankTest q v s
  | .mbist q v => Sys2Proof.Machine.execMbist q v s
  | .lbist q v => Sys2Proof.Machine.execLbist q v s
  | .session q v => Sys2Proof.Machine.execSession q v s
  | .bankDrainTimeout => Sys2Proof.Machine.execBankDrainTimeout s
  | .done sig rounds => Sys2Proof.Machine.execDone sig rounds s
  | .islandRestore isl => Sys2Proof.Machine.execIslandRestore isl s
  | .verdict q v => Sys2Proof.Machine.execVerdict q v s
  | .verdTExpire => Sys2Proof.Machine.execVerdTExpire s
  | .repairRecordWritten ok => Sys2Proof.Machine.execRepairRecordWritten ok s
  | .iroRecal dev => Sys2Proof.Machine.execIroRecal dev s
  | .recal q v dev => Sys2Proof.Machine.execRecal q v dev s
  | .clrmax q v dev => Sys2Proof.Machine.execClrmax q v dev s
  | .nresetInRelease => Sys2Proof.Machine.execNresetInRelease s
  | .thermalResetRelease => Sys2Proof.Machine.execThermalResetRelease s
  | .kaOkRise => Sys2Proof.Machine.execKaOkRise s
  | .alwaysOnSupplyLoss => Sys2Proof.Machine.execAlwaysOnSupplyLoss s
  | .sourceGood src => Sys2Proof.Machine.execSourceGood src s
  | .canRxError n kind dataPhase px exempt more => Sys2Proof.Machine.execCanRxError n kind dataPhase px exempt more s
  | .aer status header => Sys2Proof.Machine.execAer status header s
  | .wakeInputInactive input => Sys2Proof.Machine.execWakeInputInactive input s
  | .handoverWaitEnd => Sys2Proof.Machine.execHandoverWaitEnd s

end Sys2Proof.Machine
end

