-- ==== Sys2Proof/Machine/Status.lean ====
section
/-!
DEFINITION. The module's status pins: PWR_GOOD and nFAULT (R352, R358), and the status outputs (R432). They are what the state shows, at
every moment; no command acts on them.
-/

namespace Sys2Proof.Machine

/-- What a status output shows. -/
inductive Light where
  | off
  | on
  /-- Blinking, so many times a second. -/
  | blink (hz : Nat)
deriving DecidableEq, Repr

/-- PWR_GOOD is high: the internal rails are good (R352). The rails become good with the release of the power-on reset (log entry 90). -/
def State.pwrGood (s : State) : Bool := s.pwr.sysOn

/-- nFAULT is asserted (R358): from the start of a power-on reset, and then as SYS_RST_FAULT has it. -/
def State.faultLow (s : State) : Bool :=
  if s.pwr.sysOn then (s.sysView R.SYS_RST_FAULT).getLsbD 31 else s.pwr.starting

/-- nLED_PWR. -/
def State.ledPwr (s : State) : Light := if s.pwrGood then .on else .off

/-- nLED_FLT. -/
def State.ledFlt (s : State) : Light := if s.faultLow then .on else .off

/-- nLED_LA and nLED_LB: LOCKOUT and MISMATCH show in every state of the line. -/
def State.ledLine (s : State) (l : Line) : Light :=
  if !s.pwr.sysOn || s.resetRuns then .off
  else if s.bit (F.BL_LINE_STAT_LOCKOUT l) || s.mismatch l then .blink 8
  else match s.get (F.BL_LINE_STAT_STATE l) with
    | 2 => .on
    | 1 => .blink 2
    | _ => .off

/-- nLED_ROLE. -/
def State.ledRole (s : State) : Light :=
  if !s.pwr.sysOn || s.resetRuns then .off
  else match s.role with
    | 1 | 4 => .on
    | 2 => .blink (if s.synced then 1 else 4)
    | 3 => .blink 4
    | _ => .off

/-- A light is lit: a blinking one in the first half of each period of MONO (log entry 90). -/
def State.lit (s : State) : Light → Bool
  | .off => false
  | .on => true
  | .blink hz => decide (s.mono % (1000000000 / hz) < 500000000 / hz)

end Sys2Proof.Machine
end

