-- ==== Sys2Proof/WellFormed.lean ====
section
/-!
DEFINITION. Which commands are well formed: every operand within the range that the spec gives it (log entry 64).
-/

namespace Sys2Proof

/-- The base of a page of the register map (R30, R31). -/
def pageOk (pg : Nat) : Bool := pg % 4096 == 0 && pg < 0x110000

/-- An aligned offset of BAR0 (R33, R278). -/
def offOk (off : Nat) : Bool := off % 4 == 0 && off < 0x200000

/-- The fields of a native frame fit their places (R137); its payload has at most 1,484 bytes. -/
def NFrame.wf (f : NFrame) : Bool :=
  f.ver < 16 && f.cls < 16 && f.epoch < 65536 && f.src < 512 && f.atype < 8 && f.dst < 512 && f.flow < 4096 && f.seq < 65536 &&
    f.len < 65536 && f.rsv < 2 ^ 20 && f.hcrc < 65536 && f.payload.length ≤ 1484

/-- The fields of an IEEE 802.3 frame fit their places. -/
def EthFrame.wf (f : EthFrame) : Bool :=
  f.dst < 2 ^ 48 && f.src < 2 ^ 48 && f.etype < 65536 && f.payload.length ≤ 1500 &&
    (match f.tag with
     | some t => t.1 < 8 && t.2 < 4096
     | none => true) &&
    match f.rtag with
    | some n => n < 65536
    | none => true

/-- The fields of a Pd frame fit their places (R158). -/
def PdFrame.wf (f : PdFrame) : Bool :=
  f.srcIp < 2 ^ 32 && f.port < 65536 && f.udpLength < 65536 && f.major < 256 && f.comId < 2 ^ 32 && f.seqCount < 2 ^ 32 && f.etbTopo < 2 ^ 32 && f.opTopo < 2 ^ 32 && f.datasetLength < 2 ^ 32 &&
    f.dataset.length ≤ 1432

/-- The bytes of a beam frame's header block fit their places (R129). -/
def BeamHead.wf (h : BeamHead) : Bool := h.magic < 256 && h.kld < 256 && h.owner < 65536 && h.nblk < 65536

/-- So do its check byte, its data and its trailer (R129, R130). -/
def BeamBody.wf (b : BeamBody) : Bool := b.hchk < 256 && b.data.length ≤ 9600 && b.fcs < 2 ^ 32

/-- The fields of a TRDP packet fit their places. -/
def PdPacket.wf (f : PdPacket) : Bool := f.eth.wf && f.pd.wf

/-- The fields of a CAN frame fit their places (R205). -/
def CanFrame.wf (f : CanFrame) : Bool :=
  (if f.ide then f.id < 2 ^ 29 else f.id < 2 ^ 11) && f.dlc < 16 && f.data.length ≤ (if f.fdf then 64 else 8)

def CanTxEnd.wf : CanTxEnd → Bool
  | .sent => true
  | .lost => true
  | .error kind _ field _ _ => 1 ≤ kind && kind ≤ 6 && match field with
    | some n => n < 3
    | none => true

def CanTxReport.wf (r : CanTxReport) : Bool := r.how.wf && r.loop.all fun n => decide (n < 65536)

def GwSource.wf : GwSource → Bool
  | .flow ctx f => ctx < 4096 && f.wf
  | .can n q => n < 16 && q < 8

def MirrorItem.wf : MirrorItem → Bool
  | .ctx i => i < 4096
  | .payload i => i < 4096
  | .canq n k => n < 16 && k < 16
  | .tope => true
  | .fw data => data.length ≤ 65535

def GptpMsg.wf : GptpMsg → Bool
  | .pdelayReq seq => seq < 65536
  | .announce => true
  | .pdelayResp _ _ => true
  | .other => true

def SensorAlarm.wf : SensorAlarm → Bool
  | .temp sensor value => sensor < 4 && value < 65536
  | .supply sensor value => 4 ≤ sensor && sensor < 10 && value < 65536
  | .differs sensor => sensor < 4
  | .margin _ pair value => pair < 4 && value < 256
  | .lowFor10s _ => true
  | .hold => true

/-- Every operand lies within its range. Words, requesters, lines, ports, and times and lengths without a bound are always well
formed. -/
def Instr.wf : Instr → Bool
  | .registerWrite _ off _ => offOk off
  | .unmappedAccess _ off _ => offOk off
  | .accessError _ off width _ => off < 0x200000 && 1 ≤ width
  | .offIslandAccess _ off _ _ => offOk off
  | .pairLowRead _ off => offOk off
  | .pairHighWrite _ off _ => offOk off
  | .pairLowWrite _ off _ => offOk off
  | .pageUnlock _ pg => pageOk pg
  | .pageRelock _ pg _ => pageOk pg
  | .lockTimeout pg => pageOk pg
  | .blockSrst _ pg _ => pageOk pg
  | .srstComplete pg => pageOk pg
  | .blockEnWrite _ pg _ => pageOk pg
  | .eventForce _ pg _ => pageOk pg
  | .eventClear _ pg _ _ => pageOk pg
  | .eventAggregate isl => isl < 17
  | .eoi _ _ => true
  | .msixUnmask _ vec _ => vec < 32
  | .lineOpenRequest _ => true
  | .openingComplete _ => true
  | .bypassClose _ => true
  | .closingComplete _ => true
  | .bypWdog _ => true
  | .bypMismatch _ => true
  | .holdoffElapsed _ => true
  | .forceByp _ _ _ => true
  | .clrLockout _ _ _ => true
  | .retrain _ _ _ => true
  | .portLinkUp _ rate rx tx _ => rate < 4 && rx < 65536 && tx < 65536
  | .portLinkDown _ => true
  | .trainFail _ => true
  | .failCntClear _ => true
  | .failsafe _ _ _ => true
  | .failsafeRecover _ => true
  | .lineSrst _ _ _ => true
  | .portSrst _ _ _ => true
  | .backboneFrameRx _ pcp f _ => pcp < 8 && f.wf
  | .ldupAge epoch src cls flow => epoch < 65536 && src < 512 && cls < 16 && flow < 4096
  | .inaug _ _ => true
  | .clrHold _ _ => true
  | .flapHoldEnd _ => true
  | .lanternLossTrigger => true
  | .request _ f => f.wf
  | .join _ f => f.wf
  | .ident _ f => f.wf
  | .xident _ f => f.wf
  | .xend _ f => f.wf
  | .silent _ => true
  | .numbering => true
  | .ready _ f => f.wf
  | .commitInsert lead => lead < 4294967296
  | .commit _ f => f.wf
  | .flip => true
  | .commitMiss => true
  | .graceEnd => true
  | .bindWrite _ _ => true
  | .ttdpTopologyChange topo own nodes => topo < 4294967296 && own ≤ 63 && (nodes.length ≤ 63 && nodes.all fun t => decide (t.serial < 2 ^ 64) && decide (t.vtag < 2 ^ 64))
  | .inhibit _ _ => true
  | .cycleBoundary _ canWake => canWake < 65536
  | .windowOpen _ _ _ => true
  | .marker _ _ head hchk data fcs => head.wf && hchk < 256 && data.length ≤ 9600 && fcs < 2 ^ 32
  | .markerMissing _ _ => true
  | .probeSend _ _ => true
  | .probe _ _ head hchk data fcs => head.wf && hchk < 256 && data.length ≤ 9600 && fcs < 2 ^ 32
  | .beamFrameRx _ pos head body _ => pos ≤ 625000 && head.wf && body.wf
  | .arm _ _ => true
  | .ethernetFrameRx port f _ => port < 12 && f.wf
  | .frameTransmit port late _ => port ≤ 12 && late < 50
  | .fdbAge mac vid => mac < 2 ^ 48 && vid < 4096
  | .flush _ _ => true
  | .flowWrite _ _ => true
  | .flowRead _ _ => true
  | .clrcnt _ _ => true
  | .expire ctx => ctx < 4096
  | .swap _ _ => true
  | .bankPoolWrite _ _ _ => true
  | .bankMoved bank => bank < 32
  | .cpLinkChg port _ _ => port < 8
  | .pdFrameRx port f => port < 8 && f.wf
  | .comidWrite _ h _ => h < 2
  | .cbRecoveryReset stream => stream < 256
  | .cbdupStreamWrite _ _ => true
  | .inputArrival src => src.wf
  | .inpExpire inp => inp < 1024
  | .passStart => true
  | .passDone _ _ _ => true
  | .stall => true
  | .imageWrite _ _ _ => true
  | .mapEntryWrite _ _ => true
  | .mapRead _ _ => true
  | .rcpEntryWrite _ _ => true
  | .rcpRead _ _ => true
  | .flipRequest _ _ => true
  | .validationDone => true
  | .cancel _ _ => true
  | .channelStart n => n < 16
  | .modeWrite _ n _ => n < 16
  | .modeChg n => n < 16
  | .canFrameRx n f _ _ => n < 16 && f.wf
  | .canTxAttempt n _ => n < 16
  | .canTxEnd n e => n < 16 && e.wf
  | .busoffHoldEnd n => n < 16
  | .recover _ n _ => n < 16
  | .busoffRecovered n => n < 16
  | .queueConfigWrite _ n k _ => n < 16 && k < 16
  | .queuePointerWrite _ n k _ => n < 16 && k < 16
  | .abort _ n _ => n < 16
  | .referenceMessageDue n => n < 16
  | .mdataAccess _ h _ _ _ => h < 2
  | .timeFrameRx _ f => f.wf
  | .holdover => true
  | .gmConflictClear => true
  | .start _ _ => true
  | .wofsCommit _ _ _ => true
  | .gptpSyncSend port seq => port < 8 && seq < 65536
  | .gptpAnnounceSend port seq => port < 8 && seq < 65536
  | .gptpPdelay port _ _ _ => port < 8
  | .gptpMessageRx port m => port < 8 && m.wf
  | .tsCaptureCopy _ _ => true
  | .mirrorLanternSend => true
  | .mirrorLanternRx _ => true
  | .backboneLanternRx _ f => f.wf
  | .mirrorWitnessLost _ => true
  | .claimWaitEnd _ => true
  | .claimStuck _ => true
  | .claimLineTest _ _ => true
  | .clrFault _ _ => true
  | .confirmReq => true
  | .confirmReqRx _ f => f.wf
  | .confirm _ f _ => f.wf
  | .confTExpire => true
  | .startTExpire _ => true
  | .handover _ _ => true
  | .isolate _ _ => true
  | .rejoin _ _ => true
  | .admitPartner _ _ => true
  | .handoverDeclined => true
  | .autoHandoverCause cause => cause < 3
  | .mirrorLinkUp => true
  | .laneDegr _ => true
  | .mirrorLinkDown => true
  | .epochRecord item => item.wf
  | .erecRx n _ => n < 4294967296
  | .ecloseRx n _ => n < 4294967296
  | .epochMismatch => true
  | .brecRx n _ => n < 4294967296
  | .bcloseRx n _ => n < 4294967296
  | .mirrorCrcErr => true
  | .endpointReset _ => true
  | .pcieLinkUp speed width => speed < 8 && width < 8
  | .configRequest _ _ => true
  | .nowin off n _ => off < 2 ^ 28 && n < 16
  | .messageRamWindowAccess off n _ _ => off < 2 ^ 28 && n < 16
  | .iwinEnable _ n _ => n < 16
  | .owinEnable _ m _ => m < 8
  | .ringEnable _ r _ => r < 9
  | .ringPutWrite _ r _ => r < 9
  | .rxRingDeliver k _ => k < 8
  | .txDescriptor _ _ => true
  | .bmeChange _ => true
  | .periscopeRead off n => off < 2 ^ 28 && n < 16
  | .timeout off => off < 2 ^ 28
  | .periscopeResponseRx f => f.wf
  | .drDiscard e => e < 16
  | .periscopeWrite off _ => off < 2 ^ 28
  | .pwfail f => f.wf
  | .pwlogGetWrite _ _ => true
  | .periscopeRequestRx f => f.wf
  | .periscopeExecute => true
  | .fence _ _ => true
  | .fenceTExpire => true
  | .sidePoll => true
  | .aclEntryWrite _ n _ => n < 32
  | .pscWindowEnable _ p _ => p < 8
  | .propose _ _ => true
  | .withdraw _ _ => true
  | .dusk f => f.wf
  | .veto _ _ => true
  | .hold _ _ => true
  | .sleepReq _ _ => true
  | .sleepRequestRx f => f.wf
  | .vetoRx f => f.wf
  | .cancelRx f => f.wf
  | .dark => true
  | .minDarkTimeEnd => true
  | .wakeSource src chan => 1 ≤ src && src < 16 && chan < 16
  | .dawnPulseInject => true
  | .dawnSend => true
  | .dawn _ _ => true
  | .dawnRx f => f.wf
  | .pulseRx _ => true
  | .isoWrite _ _ => true
  | .kaOkFall => true
  | .filteredEdge inp _ => inp < 4
  | .edge inp => inp < 4
  | .stuck inp => inp < 4
  | .stuckRelease inp => inp < 4
  | .chat inp => inp < 4
  | .chatHoldEnd inp => inp < 4
  | .dinCfgWrite _ inp _ => inp < 4
  | .xoQual => true
  | .xoFail => true
  | .sourceFailure src => src < 6
  | .srcLoss src => src < 6
  | .lineHold => true
  | .lineRefChg ref _ => ref ≤ 4
  | .pllLineLock ofs => -100000 ≤ ofs && ofs ≤ 100000
  | .releaseWrite _ _ => true
  | .srcWrite _ isl _ => isl < 17
  | .switchDone isl => isl < 17
  | .forced isl => isl < 17
  | .xdrop isl count => isl < 17 && 1 ≤ count
  | .clockGateRequest _ pg _ => pageOk pg
  | .gated pg => pageOk pg
  | .gateRefused pg => pageOk pg
  | .clockGateOpen _ pg _ => pageOk pg
  | .gatedAccess _ off _ _ => offOk off
  | .dvfsRequest _ f _ => f < 3
  | .dvfsFreqStep f => f < 3
  | .dvfsDone f => f < 3
  | .powerCmd _ off _ => off % 4 == 0 && off < 0x110000
  | .islandPowerDown isl step => 1 ≤ isl && isl < 17 && 1 ≤ step && step ≤ 6
  | .islandPowerDownDone isl => 1 ≤ isl && isl < 17
  | .islandPowerUpStart isl step => 1 ≤ isl && isl < 17 && 1 ≤ step && step ≤ 7
  | .islandPowerUpDone isl => 1 ≤ isl && isl < 17
  | .coldStart => true
  | .supplyStart => true
  | .supplyLoss => true
  | .powerOnResetRelease _ => true
  | .nresetIn => true
  | .thermalReset => true
  | .railFault => true
  | .softwareReset _ _ => true
  | .clrSafe _ _ => true
  | .moduleResetWindowSlide => true
  | .strapChg _ => true
  | .boot ue => ue.all fun b => decide (b < 2)
  | .configApply ue => ue.all fun b => decide (b < 2)
  | .lockstep _ => true
  | .wdt => true
  | .kick _ _ => true
  | .mgtRestart _ _ => true
  | .mboxPush _ _ => true
  | .echo => true
  | .version => true
  | .govStatus => true
  | .imgBegin => true
  | .imgWrite => true
  | .imgEnd _ => true
  | .imgInfo => true
  | .imgActivate => true
  | .imgConfirm => true
  | .svnCommit => true
  | .ownerKey => true
  | .policyLoad => true
  | .policyRead => true
  | .pop _ _ => true
  | .remoteManagementRx f => f.wf
  | .govWindowEnd load => load ≤ 100
  | .recEventStamp => true
  | .recCommit => true
  | .coalClose => true
  | .loss => true
  | .recPost _ _ => true
  | .clear _ _ => true
  | .recPortPop _ _ => true
  | .recPortCurWrite _ _ => true
  | .stopWrite _ _ => true
  | .recSrst _ pg _ => pg < 3
  | .streamEnable _ _ => true
  | .strm => true
  | .streamGetWrite _ _ => true
  | .eccEvent pg mem row group _ => pageOk pg && mem < 80 && row < 1024 && group < 64
  | .ceHourEnd => true
  | .sensorAlarm k => k.wf
  | .healthReasonClearTimer isl bit _ value => isl < 17 && bit < 20 && value < 65536
  | .fwLevelWrite _ n _ => n < 17
  | .bankTest _ _ => true
  | .mbist _ _ => true
  | .lbist _ _ => true
  | .session _ _ => true
  | .bankDrainTimeout => true
  | .done _ rounds => rounds.all fun r => r.all fun c => decide (c.mem < 80) && decide (c.row < 1024) && decide (c.group < 36)
  | .islandRestore isl => isl < 17
  | .verdict _ _ => true
  | .verdTExpire => true
  | .repairRecordWritten _ => true
  | .iroRecal _ => true
  | .recal _ _ _ => true
  | .clrmax _ _ _ => true
  | .nresetInRelease => true
  | .thermalResetRelease => true
  | .kaOkRise => true
  | .alwaysOnSupplyLoss => true
  | .sourceGood src => src < 6
  | .canRxError n kind _ _ _ _ => n < 16 && kind ≤ 6
  | .aer _ header => header.length ≤ 16
  | .wakeInputInactive input => input < 17
  | .handoverWaitEnd => true

end Sys2Proof
end

