-- ==== Sys2Proof/Safety.lean ====
section
/-!
DEFINITION. What claims speak of: canonical contents, and what a change of the state may touch.
-/

namespace Sys2Proof.Machine

/-- The register file is in its canonical form. -/
def State.regsCanon (s : State) : Prop := stCanon resetVal s.regs = true

/-- The RAMs are in their canonical form. -/
def State.memCanon (s : State) : Prop := stCanon (fun _ => (0 : Byte)) s.mem = true

/-- Parts of the state beside the registers, and four things that most changes do not do: take back outputs, take waiting events
away, clear event bits, reset whole islands. -/
inductive Part where
  | mem
  | out
  | outCut
  | evq
  | evqCut
  | evtCut
  | allRegs
  | fresh
  | acc
  | clock
  | lines
  | ports
  | top
  | beam
  | fab
  | tim
  | cans
  | wake
  | din
  | twn
  | hlt
  | sgw
  | psc
  | recorder
  | pwr
  | mgt
  | nv
deriving DecidableEq, Repr

/-- What a change may touch: registers, as inclusive ranges of offsets (`regs`, and `own` where the range depends on the command's
operands), and parts. -/
structure Foot where
  regs : List (Nat × Nat)
  own : List (Nat × Nat)
  parts : List Part
deriving DecidableEq, Repr

/-- `F` with the ranges that depend on operands. -/
def Foot.at (F : Foot) (own : List (Nat × Nat)) : Foot := { F with own := own }

/-- `F` has a part. -/
def Foot.has (F : Foot) (p : Part) : Bool := F.parts.contains p

/-- The ranges of `l` reach offset `q`. -/
def inRanges (l : List (Nat × Nat)) (q : Nat) : Bool := l.any fun r => decide (r.1 ≤ q) && decide (q ≤ r.2)

/-- The register at offset `q` is among them. -/
def Foot.touches (F : Foot) (q : Nat) : Bool := F.has .allRegs || inRanges F.regs q || inRanges F.own q

/-- `t` comes from `s` by a change within `F`: the queue stands, every register and part outside `F` stands, canonical contents
stay canonical, outputs and waiting events are added at the end and event bits are only set (unless `F` says otherwise), and OTP is
only written as R376 allows. -/
structure Moves (F : Foot) (s t : State) : Prop where
  pending : t.pending = s.pending
  regs : ∀ q, F.touches q = false → t.rd q = s.rd q
  regsCanon : s.regsCanon → t.regsCanon
  memCanon : s.memCanon → t.memCanon
  outGrows : F.has .outCut = false → s.out <+: t.out
  evqGrows : F.has .evqCut = false → s.evq <+: t.evq
  evtGrows : F.has .evtCut = false → ∀ q b, q % 4096 = 0x010 → (s.rd q).getLsbD b = true → (t.rd q).getLsbD b = true
  serial : t.nv.serial = s.nv.serial
  svnRises : s.nv.svnMin ≤ t.nv.svnMin
  ownerOnce : s.nv.owner.isSome = true → t.nv.owner = s.nv.owner
  mem : F.has .mem = false → t.mem = s.mem
  out : F.has .out = false → t.out = s.out
  evq : F.has .evq = false → t.evq = s.evq
  fresh : F.has .fresh = false → t.fresh = s.fresh
  acc : F.has .acc = false → t.acc = s.acc
  clock : F.has .clock = false → t.mono5 = s.mono5
  lines : F.has .lines = false → t.lineA = s.lineA ∧ t.lineB = s.lineB
  ports : F.has .ports = false → t.portA1 = s.portA1 ∧ t.portA2 = s.portA2 ∧ t.portB1 = s.portB1 ∧ t.portB2 = s.portB2
  top : F.has .top = false → t.top = s.top
  beam : F.has .beam = false → t.beam = s.beam
  fab : F.has .fab = false → t.fab = s.fab
  tim : F.has .tim = false → t.tim = s.tim
  cans : F.has .cans = false → t.cans = s.cans
  wake : F.has .wake = false → t.wake = s.wake
  din : F.has .din = false → t.din = s.din
  twn : F.has .twn = false → t.twn = s.twn
  hlt : F.has .hlt = false → t.hlt = s.hlt
  sgw : F.has .sgw = false → t.sgw = s.sgw
  psc : F.has .psc = false → t.psc = s.psc
  recorder : F.has .recorder = false → t.recorder = s.recorder
  pwr : F.has .pwr = false → t.pwr = s.pwr
  mgt : F.has .mgt = false → t.mgt = s.mgt
  nv : F.has .nv = false → t.nv = s.nv

/-! Page accesses. -/

/-- An access of a requester at an offset is carried to its page and acts there: its path is up, the page is mapped, its island is on,
and, for an offset outside the header, no block reset runs, no test has the island, and it is not retired (R32, R37, R42, R43, R416,
R450). -/
def State.carries (s : State) (q : Requester) (off : Nat) : Bool :=
  s.pathUp q && mapped off && s.reachable off &&
    (decide (off % 4096 < 0x40) ||
      (!s.acc.srst.contains (pageOf off) && !s.pageBusy (pageOf off) && !s.bit (F.PG_STAT_OFFLINE (pageOf off))))

/-- Bit `b` of a page's PG_EVT_RAW is set. -/
def State.evt (s : State) (pg b : Nat) : Bool := s.bit ⟨R.PG_EVT_RAW pg, b, b⟩

/-- One more in a count that saturates. -/
def State.up (s : State) (f : Fld) : Nat := min (s.get f + 1) (2 ^ f.width - 1)


/-- The pair serves the head request of the mailbox, of command `code`: firmware, or the boot ROM for the recovery subset; there is
room for the response of a local request, and the governor does not shed it (R363, R383 to R385, R392). -/
def State.serves (s : State) (code : Nat) (r : MboxReq) (rest : List MboxReq) : Bool :=
  (s.fwRuns || s.recovery && recoveryCodes.contains code) && s.mgt.queue == r :: rest &&
    (r.from'.isSome || decide (s.mgt.rsps.length < 16)) && r.code == code &&
    (s.get F.MGT_CTRL_STAT_LEVEL == 0 ||
      r.from'.isNone && (decide (s.get F.MGT_CTRL_STAT_LEVEL < 2) || !class2Codes.contains code))

/-- From `s` to `t` the head request leaves the queue, answered with a RESULT and its words: a local one in the response queue with
RSP, a remote one by a frame (R383, R384, R387). -/
def State.answered (s t : State) (r : MboxReq) (rest : List MboxReq) (result : Nat) (res : List Word) : Prop :=
  t.mgt.queue = rest ∧
    (r.from' = none → t.mgt.rsps = s.mgt.rsps ++ [⟨result, r.tag, r.code, (List.range 3).map fun k => res.getD k 0⟩] ∧
      t.evt P.MGT_MBOX 0 = true) ∧
    (r.from'.isSome = true → t.mgt.rsps = s.mgt.rsps)

/-- The row that serves a command of the mailbox, by its code (R385). -/
def mboxRow (code : Nat) (row : Instr) : Prop :=
  (code, row) ∈ [(0x01, .echo), (0x02, .version), (0x03, .govStatus), (0x10, .imgBegin), (0x11, .imgWrite), (0x12, .imgEnd false),
    (0x12, .imgEnd true), (0x13, .imgInfo), (0x14, .imgActivate), (0x15, .imgConfirm), (0x16, .svnCommit), (0x20, .ownerKey),
    (0x30, .policyLoad), (0x31, .policyRead)]

/-! The footprints of the commands. `one` is a single register; a pair is a range of registers. -/

/-- One register. -/
def one (q : Nat) : Nat × Nat := (q, q)

/-- What a change of role may write (R254 to R262): the role registers, and those that follow the role in the other islands. -/
def Regs.role : List (Nat × Nat) := [one (R.PG_EVT_RAW P.SYS_WAKE), one R.SYS_WAKE_STAT, one R.SYS_WAKE_DUSK_N,
  one R.SYS_WAKE_CNT, one R.SYS_BYP_STAT, one (R.PG_EVT_RAW (P.LINE .a)), one (R.BL_LINE_STAT .a),
  one (R.PG_EVT_RAW (P.PORT .la1)), (R.BL_P_STAT .la1, R.BL_P_SNR .la1), one (R.PG_EVT_RAW (P.PORT .la2)),
  (R.BL_P_STAT .la2, R.BL_P_SNR .la2), one (R.PG_EVT_RAW (P.BEAM .a)), one (R.BL_BEAM_STAT .a),
  (R.BL_BEAM_PHD .a, R.BL_BEAM_LDLY .a), one (R.PG_EVT_RAW (P.LINE .b)), one (R.BL_LINE_STAT .b),
  one (R.PG_EVT_RAW (P.PORT .lb1)), (R.BL_P_STAT .lb1, R.BL_P_SNR .lb1), one (R.PG_EVT_RAW (P.PORT .lb2)),
  (R.BL_P_STAT .lb2, R.BL_P_SNR .lb2), one (R.PG_EVT_RAW (P.BEAM .b)), one (R.BL_BEAM_STAT .b),
  (R.BL_BEAM_PHD .b, R.BL_BEAM_LDLY .b), one (R.PG_EVT_RAW P.SGW_CTRL), one R.SGW_CTRL_STAT, one (R.PG_EVT_RAW P.TIM_BASE),
  (R.TIM_BASE_WOFS_LO, R.TIM_BASE_STAT), one (R.PG_EVT_RAW P.TIM_SERVO), (R.TIM_SERVO_ADJ, R.TIM_SERVO_CNT), one R.TIM_AS_TBI,
  one R.TWN_CTRL_ROLE, one R.TWN_XCHK_STAT, one (R.PG_EVT_RAW P.TOP_INAUG), one R.TOP_STAT]

/-- What a page access may write when it is not carried to its page: HBR's error registers and SYS_EVT_OFFWR (R32, R37). -/
def Regs.access : List (Nat × Nat) := [one R.SYS_EVT_OFFWR, one (R.PG_EVT_RAW P.HBR_CTRL), (R.HBR_CTRL_LASTERR, R.HBR_CTRL_ERRCNT)]

/-- What an answer of the mailbox may write (R384, R388). -/
def Regs.answer : List (Nat × Nat) := [one (R.PG_EVT_RAW P.FAB_QUE), (R.FAB_QUE_FREE 0, R.FAB_QUE_FREE 3), one R.MGT_CTRL_GOV,
  one (R.PG_EVT_RAW P.MGT_MBOX), (R.MGT_MBOX_STAT, R.MGT_MBOX_RSP 3), (R.MGT_MBOX_DATA 0, R.MGT_MBOX_DATA 511)]

/-- What the start of a closing may write (R58, R62). -/
def Regs.close : List (Nat × Nat) := [one R.SYS_BYP_STAT, one (R.PG_EVT_RAW (P.PORT .la1)), (R.BL_P_STAT .la1, R.BL_P_SNR .la1),
  one (R.PG_EVT_RAW (P.PORT .la2)), (R.BL_P_STAT .la2, R.BL_P_SNR .la2), one (R.BL_BEAM_LDLY .a),
  one (R.PG_EVT_RAW (P.PORT .lb1)), (R.BL_P_STAT .lb1, R.BL_P_SNR .lb1), one (R.PG_EVT_RAW (P.PORT .lb2)),
  (R.BL_P_STAT .lb2, R.BL_P_SNR .lb2), one (R.BL_BEAM_LDLY .b), one (R.PG_EVT_RAW P.TOP_INAUG), one R.TOP_STAT]

/-- What a line command may write (R53, R57, R61). -/
def Regs.lineCmd : List (Nat × Nat) := [one R.SYS_RST_FAULT, one R.SYS_BYP_STAT, one (R.PG_EVT_RAW (P.PORT .la1)),
  (R.BL_P_STAT .la1, R.BL_P_SNR .la1), one (R.PG_EVT_RAW (P.PORT .la2)), (R.BL_P_STAT .la2, R.BL_P_SNR .la2),
  one (R.BL_BEAM_LDLY .a), one (R.PG_EVT_RAW (P.PORT .lb1)), (R.BL_P_STAT .lb1, R.BL_P_SNR .lb1),
  one (R.PG_EVT_RAW (P.PORT .lb2)), (R.BL_P_STAT .lb2, R.BL_P_SNR .lb2), one (R.BL_BEAM_LDLY .b), one (R.PG_EVT_RAW P.HLT_CTRL),
  one R.HLT_CTRL_NODE, one (R.HLT_CTRL_ISL 0), one (R.PG_EVT_RAW P.TOP_INAUG), one R.TOP_SHADOW, (R.TOP_STAT, R.TOP_LAST)]

/-- What an island that goes off may write in the islands that stay on (R345). -/
def Regs.islandOff : List (Nat × Nat) := [one R.SYS_RST_FAULT, (R.SYS_PWR_STAT, R.SYS_PWR_DVFSSTAT 2), one R.SYS_BYP_STAT,
  one (R.PG_EVT_RAW (P.PORT .la1)), (R.BL_P_STAT .la1, R.BL_P_SNR .la1), one (R.PG_EVT_RAW (P.PORT .la2)),
  (R.BL_P_STAT .la2, R.BL_P_SNR .la2), one (R.BL_BEAM_LDLY .a), one (R.PG_EVT_RAW (P.PORT .lb1)),
  (R.BL_P_STAT .lb1, R.BL_P_SNR .lb1), one (R.PG_EVT_RAW (P.PORT .lb2)), (R.BL_P_STAT .lb2, R.BL_P_SNR .lb2),
  one (R.BL_BEAM_LDLY .b), one (R.PG_EVT_RAW P.SGW_CTRL), one R.SGW_CTRL_STAT, one (R.PG_EVT_RAW P.TIM_BASE),
  (R.TIM_BASE_WOFS_LO, R.TIM_BASE_STAT), one (R.PG_EVT_RAW P.TIM_SERVO), (R.TIM_SERVO_ADJ, R.TIM_SERVO_CNT), one R.TIM_AS_TBI,
  one R.TWN_CTRL_ROLE, (R.PSC_WIN_STAT 0, R.PSC_WIN_STAT 7), one R.PSC_DRB_STAT, one R.HLT_BIST_STAT,
  one (R.PG_EVT_RAW P.TOP_INAUG), one R.TOP_STAT]

/-- What a periscope write may write (R291 to R296). -/
def Regs.windowWrite : List (Nat × Nat) := [one (R.PG_EVT_RAW P.FAB_QUE), (R.FAB_QUE_FREE 0, R.FAB_QUE_FREE 3),
  one (R.PG_EVT_RAW P.PSC_PWLOG), (R.PSC_PWLOG_PTR, R.PSC_PWLOG_CNT), (R.PSC_PWLOG_E_W 0 0, R.PSC_PWLOG_E_W 15 3)]

/-- What a cancelled dusk may write (R305). -/
def Regs.cancel : List (Nat × Nat) := [one (R.PG_EVT_RAW P.SYS_WAKE), one R.SYS_WAKE_STAT, one R.SYS_WAKE_DUSK_N,
  one R.SYS_WAKE_CNT]

/-- What a clock reason may write (R410). -/
def Regs.clockReason : List (Nat × Nat) := [one R.SYS_RST_FAULT, one (R.PG_EVT_RAW P.HLT_CTRL), one R.HLT_CTRL_NODE,
  one (R.HLT_CTRL_ISL 0)]

/-- What an MGT reset may write (R369). -/
def Regs.mgtReset : List (Nat × Nat) := [one R.SYS_RST_FAULT, one (R.PG_EVT_RAW P.MGT_CTRL), one R.MGT_CTRL_STAT,
  one R.MGT_CTRL_RST, (P.MGT_MBOX, P.MGT_MBOX + 0x1FFF), one (R.PG_EVT_RAW P.HLT_CTRL), one R.HLT_CTRL_NODE,
  one (R.HLT_CTRL_ISL 13)]

/-- What a delivery to the owner of a context may write (R143). -/
def Regs.toOwner : List (Nat × Nat) := [one (R.PG_EVT_RAW P.FAB_QUE), (R.FAB_QUE_FREE 0, R.FAB_QUE_FREE 3),
  one (R.CP_CTRL_PDTX 0), one (R.CP_CTRL_PDTX 1)]

/-- REGISTER_WRITE (R17). -/
def Foot.execRegisterWrite : Foot := ⟨
    [],
    [], [.mem, .out, .evq, .evqCut, .evtCut, .allRegs, .fresh, .acc, .lines, .ports, .top, .beam, .fab, .tim, .cans, .wake, .din, .twn, .hlt, .sgw, .psc, .recorder, .pwr, .mgt]⟩

/-- UNMAPPED_ACCESS (R32). -/
def Foot.execUnmappedAccess : Foot := ⟨
    [],
    [], [.mem, .out, .evq, .evqCut, .evtCut, .allRegs, .fresh, .acc, .lines, .ports, .top, .beam, .fab, .tim, .cans, .wake, .din, .twn, .hlt, .sgw, .psc, .recorder, .pwr, .mgt]⟩

/-- ACCESS_ERROR (R33). -/
def Foot.execAccessError : Foot := ⟨[one (R.PG_EVT_RAW P.HBR_CTRL), one R.HBR_CTRL_LASTERR], [], [.out, .evq]⟩

/-- OFF_ISLAND_ACCESS (R37). -/
def Foot.execOffIslandAccess : Foot := ⟨
    [],
    [], [.mem, .out, .evq, .evqCut, .evtCut, .allRegs, .fresh, .acc, .lines, .ports, .top, .beam, .fab, .tim, .cans, .wake, .din, .twn, .hlt, .sgw, .psc, .recorder, .pwr, .mgt]⟩

/-- PAIR_LOW_READ (R34). -/
def Foot.execPairLowRead : Foot := ⟨
    Regs.access ++
    [one R.SGW_IMG_SEL, one (R.CB_CTRL_MSEL 0), one (R.CB_CTRL_MSEL 1)],
    [], [.out, .evq, .fresh, .acc, .recorder]⟩

/-- PAIR_HIGH_WRITE (R34). -/
def Foot.execPairHighWrite : Foot := ⟨
    [],
    [], [.mem, .out, .evq, .evqCut, .evtCut, .allRegs, .fresh, .acc, .lines, .ports, .top, .beam, .fab, .tim, .cans, .wake, .din, .twn, .hlt, .sgw, .psc, .recorder, .pwr, .mgt]⟩

/-- PAIR_LOW_WRITE (R34). -/
def Foot.execPairLowWrite : Foot := ⟨
    [],
    [], [.mem, .out, .evq, .evqCut, .evtCut, .allRegs, .fresh, .acc, .lines, .ports, .top, .beam, .fab, .tim, .cans, .wake, .din, .twn, .hlt, .sgw, .psc, .recorder, .pwr, .mgt]⟩

/-- PAGE_UNLOCK (R44). -/
def Foot.execPageUnlock : Foot := ⟨Regs.access, [], [.out, .evq, .acc]⟩

/-- PAGE_RELOCK (R44). -/
def Foot.execPageRelock : Foot := ⟨Regs.access, [], [.out, .evq, .acc]⟩

/-- LOCK_TIMEOUT (R44). -/
def Foot.execLockTimeout : Foot := ⟨[], [], []⟩

/-- BLOCK_SRST (R42). -/
def Foot.execBlockSrst : Foot := ⟨
    [],
    [], [.mem, .out, .evq, .evqCut, .evtCut, .allRegs, .acc, .lines, .ports, .top, .beam, .fab, .tim, .cans, .wake, .din, .twn, .hlt, .sgw, .psc, .recorder, .pwr, .mgt]⟩

/-- SRST_COMPLETE (R42). -/
def Foot.execSrstComplete : Foot := ⟨[], [], [.acc, .ports]⟩

/-- BLOCK_EN_WRITE (R41). -/
def Foot.execBlockEnWrite : Foot := ⟨
    [],
    [], [.mem, .out, .evq, .evqCut, .evtCut, .allRegs, .acc, .lines, .ports, .top, .beam, .fab, .tim, .cans, .wake, .din, .twn, .hlt, .sgw, .psc, .recorder, .pwr, .mgt]⟩

/-- EVENT_FORCE (R47). -/
def Foot.execEventForce : Foot := ⟨Regs.access, [], [.out, .evq, .acc]⟩

/-- EVENT_CLEAR (R36). -/
def Foot.execEventClear : Foot := ⟨Regs.access, [], [.out, .evq, .evtCut, .acc]⟩

/-- EVENT_AGGREGATE (R47). -/
def Foot.execEventAggregate : Foot := ⟨[one R.SYS_EVT_ISL, one R.HBR_MSIX_PBA], [], [.out, .acc]⟩

/-- EOI (R49). -/
def Foot.execEoi : Foot := ⟨
    Regs.access ++
    [one (R.PG_EVT_RAW P.SYS_EVT), one (R.PG_LOCK P.SYS_EVT), one R.HBR_MSIX_PBA],
    [], [.out, .evq, .acc]⟩

/-- MSIX_UNMASK (R287). -/
def Foot.execMsixUnmask : Foot := ⟨
    Regs.access ++
    [one R.HBR_MSIX_PBA],
    [], [.out, .evq, .acc]⟩

/-- LINE_OPEN_REQUEST (R57). -/
def Foot.execLineOpenRequest : Foot := ⟨[one R.SYS_BYP_STAT], [], [.lines]⟩

/-- OPENING_COMPLETE (R58). -/
def Foot.execOpeningComplete : Foot := ⟨
    [one R.SYS_BYP_STAT, one (R.BL_P_STAT .la1), one (R.BL_P_STAT .la2), one (R.BL_P_STAT .lb1), one (R.BL_P_STAT .lb2)],
    [], [.evq, .lines, .ports, .beam]⟩

/-- BYPASS_CLOSE (R58). -/
def Foot.execBypassClose : Foot := ⟨Regs.close, [], [.evq, .lines, .ports, .beam]⟩

/-- CLOSING_COMPLETE (R58). -/
def Foot.execClosingComplete : Foot := ⟨[one R.SYS_BYP_STAT], [], [.evq, .lines, .beam]⟩

/-- BYP_WDOG (R58). -/
def Foot.execBypWdog : Foot := ⟨
    Regs.clockReason ++
    [one (R.PG_EVT_RAW P.SYS_BYP), (R.SYS_BYP_STAT, R.SYS_BYP_CNT), one (R.PG_EVT_RAW (P.PORT .la1)),
    (R.BL_P_STAT .la1, R.BL_P_SNR .la1), one (R.PG_EVT_RAW (P.PORT .la2)), (R.BL_P_STAT .la2, R.BL_P_SNR .la2),
    one (R.BL_BEAM_LDLY .a), one (R.PG_EVT_RAW (P.PORT .lb1)), (R.BL_P_STAT .lb1, R.BL_P_SNR .lb1),
    one (R.PG_EVT_RAW (P.PORT .lb2)), (R.BL_P_STAT .lb2, R.BL_P_SNR .lb2), one (R.BL_BEAM_LDLY .b),
    one (R.PG_EVT_RAW P.TOP_INAUG), one R.TOP_STAT],
    [], [.evq, .lines, .ports, .beam, .hlt, .pwr]⟩

/-- BYP_MISMATCH (R59). -/
def Foot.execBypMismatch : Foot := ⟨
    Regs.close ++ Regs.clockReason ++
    [one (R.PG_EVT_RAW P.SYS_BYP)],
    [], [.evq, .lines, .ports, .beam, .hlt]⟩

/-- HOLDOFF_ELAPSED (R57). -/
def Foot.execHoldoffElapsed : Foot := ⟨[], [], [.lines]⟩

/-- FORCE_BYP (R61). -/
def Foot.execForceByp : Foot := ⟨Regs.access ++ Regs.lineCmd, [], [.mem, .out, .evq, .acc, .lines, .ports, .top, .beam, .fab, .hlt]⟩

/-- CLR_LOCKOUT (R59). -/
def Foot.execClrLockout : Foot := ⟨
    Regs.access ++ Regs.lineCmd,
    [], [.mem, .out, .evq, .acc, .lines, .ports, .top, .beam, .fab, .hlt]⟩

/-- RETRAIN (R53). -/
def Foot.execRetrain : Foot := ⟨Regs.access ++ Regs.lineCmd, [], [.mem, .out, .evq, .acc, .lines, .ports, .top, .beam, .fab, .hlt]⟩

/-- PORT_LINK_UP (R52). -/
def Foot.execPortLinkUp : Foot := ⟨
    [one (R.PG_EVT_RAW P.TOP_INAUG), one R.TOP_SHADOW, (R.TOP_STAT, R.TOP_LAST)],
    [], [.mem, .out, .evq, .lines, .ports, .top, .beam, .fab]⟩

/-- PORT_LINK_DOWN (R73). -/
def Foot.execPortLinkDown : Foot := ⟨
    [one (R.PG_EVT_RAW P.TOP_INAUG), one R.TOP_SHADOW, (R.TOP_STAT, R.TOP_LAST)],
    [], [.mem, .out, .evq, .lines, .ports, .top, .beam, .fab]⟩

/-- TRAIN_FAIL (R63). -/
def Foot.execTrainFail : Foot := ⟨Regs.close, [], [.evq, .lines, .ports, .beam]⟩

/-- FAIL_CNT_CLEAR (R63). -/
def Foot.execFailCntClear : Foot := ⟨[], [], []⟩

/-- FAILSAFE (R65). -/
def Foot.execFailsafe : Foot := ⟨Regs.close, [], [.evq, .lines, .ports, .beam]⟩

/-- FAILSAFE_RECOVER (R61). -/
def Foot.execFailsafeRecover : Foot := ⟨[], [], [.evq]⟩

/-- LINE_SRST (R453). -/
def Foot.execLineSrst : Foot := ⟨
    [],
    [], [.mem, .out, .evq, .evqCut, .evtCut, .allRegs, .acc, .lines, .ports, .top, .beam, .fab, .tim, .cans, .wake, .din, .twn, .hlt, .sgw, .psc, .recorder, .pwr, .mgt]⟩

/-- PORT_SRST (R454). -/
def Foot.execPortSrst : Foot := ⟨
    [],
    [], [.mem, .out, .evq, .evqCut, .evtCut, .allRegs, .acc, .lines, .ports, .top, .beam, .fab, .tim, .cans, .wake, .din, .twn, .hlt, .sgw, .psc, .recorder, .pwr, .mgt]⟩

/-- BACKBONE_FRAME_RX (R66). -/
def Foot.execBackboneFrameRx : Foot := ⟨
    [],
    [], [.mem, .out, .evq, .evqCut, .evtCut, .allRegs, .fresh, .acc, .lines, .ports, .top, .beam, .fab, .tim, .cans, .wake, .twn, .hlt, .sgw, .psc, .recorder, .pwr, .mgt]⟩

/-- LDUP_AGE (R67). -/
def Foot.execLdupAge : Foot := ⟨[one R.FAB_LDUP_STAT], [], [.fab]⟩

/-- INAUG (R73). -/
def Foot.execInaug : Foot := ⟨
    Regs.access ++
    [one (R.BL_P_STAT .la1), one (R.BL_P_STAT .la2), one (R.BL_P_STAT .lb1), one (R.BL_P_STAT .lb2), one (R.PG_EVT_RAW P.TOP_INAUG),
    one (R.PG_LOCK P.TOP_INAUG), one R.TOP_SHADOW, (R.TOP_STAT, R.TOP_LAST)],
    [], [.mem, .out, .evq, .acc, .ports, .top, .beam, .fab]⟩

/-- CLR_HOLD (R75). -/
def Foot.execClrHold : Foot := ⟨
    Regs.access ++
    [one (R.BL_P_STAT .la1), one (R.BL_P_STAT .la2), one (R.BL_P_STAT .lb1), one (R.BL_P_STAT .lb2), one (R.PG_EVT_RAW P.TOP_INAUG),
    one (R.PG_LOCK P.TOP_INAUG), one R.TOP_SHADOW, (R.TOP_STAT, R.TOP_LAST)],
    [], [.mem, .out, .evq, .acc, .ports, .top, .beam, .fab]⟩

/-- FLAP_HOLD_END (R75). -/
def Foot.execFlapHoldEnd : Foot := ⟨[one R.TOP_STAT], [], [.ports]⟩

/-- LANTERN_LOSS_TRIGGER (R73). -/
def Foot.execLanternLossTrigger : Foot := ⟨
    [one (R.PG_EVT_RAW P.TOP_INAUG), one R.TOP_SHADOW, (R.TOP_STAT, R.TOP_LAST)],
    [], [.mem, .out, .evq, .top, .beam, .fab]⟩

/-- REQUEST (R79). -/
def Foot.execRequest : Foot := ⟨[one R.TOP_SHADOW, one R.TOP_STAT, (R.TOP_LAST, R.TOP_EPDROP)], [], [.mem, .out, .top, .beam, .fab]⟩

/-- JOIN (R82). -/
def Foot.execJoin : Foot := ⟨[one R.TOP_SHADOW, one R.TOP_STAT, (R.TOP_LAST, R.TOP_EPDROP)], [], [.mem, .out, .top, .beam, .fab]⟩

/-- IDENT (R81). -/
def Foot.execIdent : Foot := ⟨[one R.TOP_SHADOW, one R.TOP_STAT, (R.TOP_LAST, R.TOP_EPDROP)], [], [.mem, .out, .top, .beam, .fab]⟩

/-- XIDENT (R84). -/
def Foot.execXident : Foot := ⟨[one R.TOP_SHADOW, one R.TOP_STAT, (R.TOP_LAST, R.TOP_EPDROP)], [], [.mem, .out, .top, .beam, .fab]⟩

/-- XEND (R84). -/
def Foot.execXend : Foot := ⟨[one R.TOP_SHADOW, one R.TOP_STAT, (R.TOP_LAST, R.TOP_EPDROP)], [], [.mem, .out, .top, .beam, .fab]⟩

/-- SILENT (R82). -/
def Foot.execSilent : Foot := ⟨[one (R.PG_EVT_RAW P.TOP_INAUG)], [], [.out, .top]⟩

/-- NUMBERING (R87). -/
def Foot.execNumbering : Foot := ⟨
    [one (R.PG_EVT_RAW (P.LINE .a)), one (R.BL_LINE_STAT .a), one (R.PG_EVT_RAW (P.BEAM .a)), one (R.BL_BEAM_STAT .a),
    (R.BL_BEAM_PHD .a, R.BL_BEAM_DCUMU .a), one (R.PG_EVT_RAW (P.LINE .b)), one (R.BL_LINE_STAT .b),
    one (R.PG_EVT_RAW (P.BEAM .b)), one (R.BL_BEAM_STAT .b), (R.BL_BEAM_PHD .b, R.BL_BEAM_DCUMU .b),
    one (R.PG_EVT_RAW P.FAB_FLOW), one R.FAB_FLOW_STAT, one (R.PG_EVT_RAW P.TIM_BASE), (R.TIM_BASE_WOFS_LO, R.TIM_BASE_STAT),
    one (R.PG_EVT_RAW P.TIM_SERVO), (R.TIM_SERVO_ADJ, R.TIM_SERVO_CNT), one R.TIM_AS_TBI, one (R.PG_EVT_RAW P.TOP_INAUG),
    (R.TOP_EPOCH, R.TOP_REF_HI), (R.TOP_K, R.TOP_LAST), (R.TOP_SPLIT_A, R.TOP_SPLIT_B), one (R.PG_EVT_RAW P.TOP_SLOT),
    one R.TOP_SLOT_ARM, (R.TOP_SLOT_ACT_CYC, R.TOP_SLOT_STAT), one R.TOP_SLOT_CAPHI],
    [], [.mem, .out, .evq, .top, .beam, .fab, .tim]⟩

/-- READY (R89). -/
def Foot.execReady : Foot := ⟨[one R.TOP_SHADOW, one R.TOP_STAT, (R.TOP_LAST, R.TOP_EPDROP)], [], [.mem, .out, .top, .beam, .fab]⟩

/-- COMMIT_INSERT (R92). -/
def Foot.execCommitInsert : Foot := ⟨
    [one (R.PG_EVT_RAW P.TOP_INAUG), one R.TOP_SHADOW, (R.TOP_STAT, R.TOP_LAST), (R.TOP_SPLIT_A, R.TOP_SPLIT_B)],
    [], [.mem, .out, .evq, .top, .beam, .fab]⟩

/-- COMMIT (R93). -/
def Foot.execCommit : Foot := ⟨
    [one (R.PG_EVT_RAW P.TOP_INAUG), one R.TOP_SHADOW, (R.TOP_STAT, R.TOP_SPLIT_B)],
    [], [.mem, .out, .evq, .top, .beam, .fab]⟩

/-- FLIP (R94). -/
def Foot.execFlip : Foot := ⟨
    Regs.cancel ++
    [one (R.PG_EVT_RAW (P.LINE .a)), one (R.BL_LINE_STAT .a), one (R.PG_EVT_RAW (P.BEAM .a)), one (R.BL_BEAM_STAT .a),
    (R.BL_BEAM_PHD .a, R.BL_BEAM_DCUMU .a), one (R.PG_EVT_RAW (P.LINE .b)), one (R.BL_LINE_STAT .b),
    one (R.PG_EVT_RAW (P.BEAM .b)), one (R.BL_BEAM_STAT .b), (R.BL_BEAM_PHD .b, R.BL_BEAM_DCUMU .b),
    one (R.PG_EVT_RAW P.FAB_FLOW), one (R.PG_EVT_RAW P.TIM_BASE), (R.TIM_BASE_WOFS_LO, R.TIM_BASE_STAT),
    one (R.PG_EVT_RAW P.TIM_SERVO), (R.TIM_SERVO_ADJ, R.TIM_SERVO_CNT), one R.TIM_AS_TBI, one (R.PG_EVT_RAW P.TOP_INAUG),
    (R.TOP_EPOCH, R.TOP_REF_HI), (R.TOP_K, R.TOP_LAST), (R.TOP_SPLIT_A, R.TOP_SPLIT_B), one (R.PG_EVT_RAW P.TOP_SLOT),
    one R.TOP_SLOT_ARM, (R.TOP_SLOT_ACT_CYC, R.TOP_SLOT_STAT), one R.TOP_SLOT_CAPHI],
    [], [.mem, .out, .evq, .top, .beam, .fab, .tim, .wake]⟩

/-- COMMIT_MISS (R95). -/
def Foot.execCommitMiss : Foot := ⟨
    [one (R.PG_EVT_RAW P.TOP_INAUG), one R.TOP_SHADOW, (R.TOP_STAT, R.TOP_LAST)],
    [], [.mem, .out, .evq, .top, .beam, .fab]⟩

/-- GRACE_END (R96). -/
def Foot.execGraceEnd : Foot := ⟨[one R.TOP_SHADOW], [], [.mem, .top, .fab]⟩

/-- BIND_WRITE (R102). -/
def Foot.execBindWrite : Foot := ⟨
    Regs.access ++
    [one (R.PG_EVT_RAW P.FAB_FLOW), one R.FAB_FLOW_STAT, one (R.PG_EVT_RAW P.TOP_INAUG), one R.TOP_STAT,
    one (R.PG_EVT_RAW P.TOP_TABLE), one (R.PG_LOCK P.TOP_TABLE)],
    [], [.mem, .out, .evq, .acc, .fab]⟩

/-- TTDP_TOPOLOGY_CHANGE (R108). -/
def Foot.execTtdpTopologyChange : Foot := ⟨
    [one (R.PG_EVT_RAW P.FAB_FLOW), one R.FAB_FLOW_STAT, one (R.PG_EVT_RAW P.TOP_INAUG), one R.TOP_SHADOW,
    one (R.PG_EVT_RAW P.TOP_ETB), (R.TOP_ETB_STAT, R.TOP_ETB_TOPO)],
    [], [.mem, .evq, .top, .beam, .fab]⟩

/-- INHIBIT (R107). -/
def Foot.execInhibit : Foot := ⟨
    Regs.access ++
    [one (R.PG_EVT_RAW P.TOP_ETB), one (R.PG_LOCK P.TOP_ETB), (R.TOP_ETB_CTRL, R.TOP_ETB_STAT)],
    [], [.out, .evq, .acc]⟩

/-- CYCLE_BOUNDARY (R452). -/
def Foot.execCycleBoundary : Foot := ⟨
    [],
    [], [.mem, .out, .evq, .evqCut, .evtCut, .allRegs, .acc, .lines, .ports, .top, .beam, .fab, .tim, .cans, .wake, .twn, .hlt, .sgw, .psc, .recorder, .pwr, .mgt]⟩

/-- WINDOW_OPEN (R114). -/
def Foot.execWindowOpen : Foot := ⟨[one (R.FAB_QUE_FREE 3)], [], [.out, .evq, .beam, .fab, .tim]⟩

/-- MARKER (R117). -/
def Foot.execMarker : Foot := ⟨
    [(R.BL_BEAM_PHD .a, R.BL_BEAM_PHU .a), (R.BL_BEAM_PHD .b, R.BL_BEAM_PHU .b), one R.TOP_SHADOW, one R.TOP_SLOT_CYCNT],
    [], [.mem, .out, .evq, .top, .beam, .fab, .tim]⟩

/-- MARKER_MISSING (R118). -/
def Foot.execMarkerMissing : Foot := ⟨[one R.TOP_SHADOW], [], [.mem, .evq, .top, .beam, .fab]⟩

/-- PROBE_SEND (R116). -/
def Foot.execProbeSend : Foot := ⟨[], [], [.out, .beam]⟩

/-- PROBE (R116). -/
def Foot.execProbe : Foot := ⟨[], [], [.beam]⟩

/-- BEAM_FRAME_RX (R121). -/
def Foot.execBeamFrameRx : Foot := ⟨
    [],
    [], [.mem, .out, .evq, .evqCut, .evtCut, .allRegs, .fresh, .acc, .lines, .ports, .top, .beam, .fab, .tim, .cans, .wake, .twn, .hlt, .sgw, .psc, .recorder, .pwr, .mgt]⟩

/-- ARM (R110). -/
def Foot.execArm : Foot := ⟨
    Regs.access ++
    [one (R.PG_EVT_RAW P.TOP_SLOT), one (R.PG_LOCK P.TOP_SLOT), one R.TOP_SLOT_ARM],
    [], [.out, .evq, .acc, .beam]⟩

/-- ETHERNET_FRAME_RX (R141). -/
def Foot.execEthernetFrameRx : Foot := ⟨
    [],
    [], [.mem, .out, .evq, .evqCut, .evtCut, .allRegs, .fresh, .acc, .lines, .ports, .top, .beam, .fab, .tim, .cans, .wake, .twn, .hlt, .sgw, .psc, .recorder, .pwr, .mgt]⟩

/-- FRAME_TRANSMIT (R153). -/
def Foot.execFrameTransmit : Foot := ⟨[(R.FAB_QUE_FREE 0, R.FAB_QUE_FREE 3)], [], [.mem, .out, .fab]⟩

/-- FDB_AGE (R141). -/
def Foot.execFdbAge : Foot := ⟨[], [], [.fab]⟩

/-- FLUSH (R141). -/
def Foot.execFlush : Foot := ⟨
    Regs.access ++
    [one (R.PG_EVT_RAW P.FAB_CTRL), one (R.PG_LOCK P.FAB_CTRL), one R.FAB_CTRL_AGE],
    [], [.out, .evq, .acc, .fab]⟩

/-- FLOW_WRITE (R147). -/
def Foot.execFlowWrite : Foot := ⟨
    Regs.access ++
    [one (R.PG_EVT_RAW P.FAB_FLOW), one (R.PG_LOCK P.FAB_FLOW), one R.FAB_FLOW_CMD, (R.FAB_FLOW_DATA 0, R.FAB_FLOW_STAT),
    one (R.FAB_QUE_FREE 3)],
    [], [.mem, .out, .evq, .acc, .fab]⟩

/-- FLOW_READ (R147). -/
def Foot.execFlowRead : Foot := ⟨
    Regs.access ++
    [one (R.PG_EVT_RAW P.FAB_FLOW), one (R.PG_LOCK P.FAB_FLOW), one R.FAB_FLOW_CMD, (R.FAB_FLOW_DATA 0, R.FAB_FLOW_STAT),
    one (R.FAB_QUE_FREE 3)],
    [], [.mem, .out, .evq, .acc, .fab]⟩

/-- CLRCNT (R144). -/
def Foot.execClrcnt : Foot := ⟨
    Regs.access ++
    [one (R.PG_EVT_RAW P.FAB_FLOW), one (R.PG_LOCK P.FAB_FLOW), one R.FAB_FLOW_CMD, (R.FAB_FLOW_DATA 0, R.FAB_FLOW_STAT),
    one (R.FAB_QUE_FREE 3)],
    [], [.mem, .out, .evq, .acc, .fab]⟩

/-- EXPIRE (R149). -/
def Foot.execExpire : Foot := ⟨
    [one (R.PG_EVT_RAW P.FAB_FLOW), one R.FAB_FLOW_LASTEXP, one (R.PG_EVT_RAW P.SGW_CTRL)],
    [], [.mem, .out, .evq, .sgw]⟩

/-- SWAP (R154). -/
def Foot.execSwap : Foot := ⟨
    Regs.access ++
    [one (R.PG_EVT_RAW P.FAB_GATE), one (R.PG_LOCK P.FAB_GATE)],
    [], [.mem, .out, .evq, .acc]⟩

/-- BANK_POOL_WRITE (R156). -/
def Foot.execBankPoolWrite : Foot := ⟨
    Regs.access ++
    [one (R.PG_EVT_RAW P.FAB_QUE), one (R.PG_LOCK P.FAB_QUE), (R.FAB_QUE_BANK_LO, R.FAB_QUE_BANK_HI), one R.FAB_QUE_MOVING],
    [], [.out, .evq, .acc, .fab]⟩

/-- BANK_MOVED (R156). -/
def Foot.execBankMoved : Foot := ⟨
    [one (R.PG_EVT_RAW P.FAB_QUE), one R.FAB_QUE_MOVING, (R.FAB_QUE_FREE 0, R.FAB_QUE_FREE 3), one R.HLT_BIST_STAT],
    [], [.evq, .fab]⟩

/-- CP_LINK_CHG (R157). -/
def Foot.execCpLinkChg : Foot := ⟨[], [], [.evq]⟩

/-- PD_FRAME_RX (R159). -/
def Foot.execPdFrameRx : Foot := ⟨
    Regs.toOwner ++
    [one (R.PG_EVT_RAW P.FAB_CTRL), one (R.PG_EVT_RAW P.FAB_POL), one (R.PG_EVT_RAW P.FAB_CBDUP)],
    [], [.mem, .out, .evq, .fab]⟩

/-- COMID_WRITE (R159). -/
def Foot.execComidWrite : Foot := ⟨Regs.access, [], [.mem, .out, .evq, .acc]⟩

/-- CB_RECOVERY_RESET (R160). -/
def Foot.execCbRecoveryReset : Foot := ⟨[one (R.PG_EVT_RAW P.FAB_CBDUP)], [], [.mem]⟩

/-- CBDUP_STREAM_WRITE (R160). -/
def Foot.execCbdupStreamWrite : Foot := ⟨
    Regs.access ++
    [one (R.PG_EVT_RAW P.FAB_CBDUP), one (R.PG_LOCK P.FAB_CBDUP), one R.FAB_CBDUP_ID_LO],
    [], [.mem, .out, .evq, .acc]⟩

/-- INPUT_ARRIVAL (R167). -/
def Foot.execInputArrival : Foot := ⟨
    [one (R.PG_EVT_RAW P.SGW_CTRL), one R.SGW_CTRL_INCNT, (R.CB_CAN_QPTR 0 0, R.CB_CAN_QPTR 15 15)],
    [], [.mem, .sgw]⟩

/-- INP_EXPIRE (R168). -/
def Foot.execInpExpire : Foot := ⟨[one (R.PG_EVT_RAW P.SGW_CTRL)], [], [.sgw]⟩

/-- PASS_START (R179). -/
def Foot.execPassStart : Foot := ⟨[one (R.PG_EVT_RAW P.SGW_CTRL), one R.SGW_CTRL_STAT, one R.SGW_CTRL_CNT], [], [.evq, .sgw]⟩

/-- PASS_DONE (R180). -/
def Foot.execPassDone : Foot := ⟨
    Regs.toOwner ++
    [one (R.PG_EVT_RAW P.SGW_CTRL), one R.SGW_CTRL_STAT, (R.SGW_CTRL_PASSCNT, R.SGW_CTRL_CNT), one R.SGW_CTRL_UE,
    (R.PG_EVT_RAW (P.CB_CAN 0), R.CB_CAN_QCNT 15 15)],
    [], [.mem, .out, .evq, .fab, .cans, .twn, .sgw]⟩

/-- STALL (R182). -/
def Foot.execStall : Foot := ⟨[one (R.PG_EVT_RAW P.SGW_CTRL), one R.SGW_CTRL_STAT], [], [.evq]⟩

/-- IMAGE_WRITE (R183). -/
def Foot.execImageWrite : Foot := ⟨
    Regs.access ++
    [one (R.PG_EVT_RAW P.SGW_IMG), one (R.PG_LOCK P.SGW_IMG), one R.SGW_IMG_SEL],
    [], [.mem, .out, .evq, .acc]⟩

/-- MAP_ENTRY_WRITE (R185). -/
def Foot.execMapEntryWrite : Foot := ⟨
    Regs.access ++
    [one (R.PG_EVT_RAW P.SGW_CTRL), one (R.PG_EVT_RAW P.SGW_MAP), one (R.PG_LOCK P.SGW_MAP), (R.SGW_MAP_SEL, R.SGW_MAP_CMD),
    one (R.SGW_MAP_DATA 3)],
    [], [.mem, .out, .evq, .acc]⟩

/-- MAP_READ (R185). -/
def Foot.execMapRead : Foot := ⟨
    Regs.access ++
    [one (R.PG_EVT_RAW P.SGW_MAP), one (R.PG_LOCK P.SGW_MAP), (R.SGW_MAP_SEL, R.SGW_MAP_CMD), (R.SGW_MAP_DATA 0, R.SGW_MAP_DATA 3)],
    [], [.out, .evq, .acc]⟩

/-- RCP_ENTRY_WRITE (R185). -/
def Foot.execRcpEntryWrite : Foot := ⟨
    Regs.access ++
    [one (R.PG_EVT_RAW P.SGW_CTRL), one (R.PG_EVT_RAW P.SGW_RCP), one (R.PG_LOCK P.SGW_RCP), (R.SGW_RCP_SEL, R.SGW_RCP_CMD),
    one (R.SGW_RCP_DATA 3)],
    [], [.mem, .out, .evq, .acc]⟩

/-- RCP_READ (R185). -/
def Foot.execRcpRead : Foot := ⟨
    Regs.access ++
    [one (R.PG_EVT_RAW P.SGW_RCP), one (R.PG_LOCK P.SGW_RCP), (R.SGW_RCP_SEL, R.SGW_RCP_CMD), (R.SGW_RCP_DATA 0, R.SGW_RCP_DATA 3)],
    [], [.out, .evq, .acc]⟩

/-- FLIP_REQUEST (R186). -/
def Foot.execFlipRequest : Foot := ⟨
    Regs.access ++
    [one (R.PG_EVT_RAW P.SGW_CTRL), one (R.PG_LOCK P.SGW_CTRL), (R.SGW_CTRL_STAT, R.SGW_CTRL_FLIP), one R.SGW_CTRL_FLIPSTAT],
    [], [.out, .evq, .acc]⟩

/-- VALIDATION_DONE (R186). -/
def Foot.execValidationDone : Foot := ⟨[one (R.PG_EVT_RAW P.SGW_CTRL), one R.SGW_CTRL_STAT, one R.SGW_CTRL_FLIPSTAT], [], [.evq]⟩

/-- CANCEL (R187). -/
def Foot.execCancel : Foot := ⟨
    Regs.access ++
    [one (R.PG_EVT_RAW P.SGW_CTRL), one (R.PG_LOCK P.SGW_CTRL), (R.SGW_CTRL_STAT, R.SGW_CTRL_FLIP), one R.SGW_CTRL_FLIPSTAT],
    [], [.out, .evq, .acc]⟩

/-- CHANNEL_START (R195). -/
def Foot.execChannelStart : Foot := ⟨[], [], [.mem, .cans]⟩

/-- MODE_WRITE (R198). -/
def Foot.execModeWrite : Foot := ⟨Regs.access, [], [.out, .evq, .acc]⟩

/-- MODE_CHG (R199). -/
def Foot.execModeChg : Foot := ⟨[], [], [.mem, .cans]⟩

/-- CAN_FRAME_RX (R214). -/
def Foot.execCanFrameRx : Foot := ⟨[], [], [.mem, .out, .evq, .fresh, .cans]⟩

/-- CAN_TX_ATTEMPT (R211). -/
def Foot.execCanTxAttempt : Foot := ⟨[], [], [.mem, .out, .cans]⟩

/-- CAN_TX_END (R208). -/
def Foot.execCanTxEnd : Foot := ⟨[], [], [.mem, .out, .evq, .cans]⟩

/-- BUSOFF_HOLD_END (R217). -/
def Foot.execBusoffHoldEnd : Foot := ⟨[], [], []⟩

/-- RECOVER (R217). -/
def Foot.execRecover : Foot := ⟨Regs.access, [], [.mem, .out, .evq, .acc, .cans]⟩

/-- BUSOFF_RECOVERED (R217). -/
def Foot.execBusoffRecovered : Foot := ⟨[], [], [.evq]⟩

/-- QUEUE_CONFIG_WRITE (R210). -/
def Foot.execQueueConfigWrite : Foot := ⟨Regs.access, [], [.out, .evq, .acc, .cans]⟩

/-- QUEUE_POINTER_WRITE (R209). -/
def Foot.execQueuePointerWrite : Foot := ⟨Regs.access, [], [.mem, .out, .evq, .acc, .cans]⟩

/-- ABORT (R212). -/
def Foot.execAbort : Foot := ⟨Regs.access, [], [.mem, .out, .evq, .acc, .cans]⟩

/-- REFERENCE_MESSAGE_DUE (R223). -/
def Foot.execReferenceMessageDue : Foot := ⟨[], [], [.cans]⟩

/-- MDATA_ACCESS (R202). -/
def Foot.execMdataAccess : Foot := ⟨
    Regs.access ++
    [(R.CB_CAN_CCNT 0, R.CB_CAN_CCNT 15)],
    [], [.mem, .out, .evq, .fresh, .acc, .cans]⟩

/-- TIME_FRAME_RX (R236). -/
def Foot.execTimeFrameRx : Foot := ⟨
    [one (R.PG_EVT_RAW P.TIM_BASE), (R.TIM_BASE_WOFS_LO, R.TIM_BASE_STAT), one (R.PG_EVT_RAW P.TIM_SERVO),
    (R.TIM_SERVO_OFFS, R.TIM_SERVO_USED), one R.TIM_AS_TBI],
    [], [.evq, .tim]⟩

/-- HOLDOVER (R237). -/
def Foot.execHoldover : Foot := ⟨
    [one (R.PG_EVT_RAW P.TIM_BASE), one R.TIM_BASE_STAT, one (R.PG_EVT_RAW P.TIM_SERVO), one R.TIM_SERVO_ADJ, one R.TIM_SERVO_CNT],
    [], [.evq, .tim]⟩

/-- GM_CONFLICT_CLEAR (R230). -/
def Foot.execGmConflictClear : Foot := ⟨[one R.TIM_BASE_STAT], [], []⟩

/-- START (R237). -/
def Foot.execStart : Foot := ⟨
    Regs.access ++
    [one (R.PG_EVT_RAW P.TIM_BASE), one (R.PG_LOCK P.TIM_BASE), one R.TIM_BASE_STAT, one (R.PG_EVT_RAW P.TIM_SERVO),
    one R.TIM_SERVO_ADJ, one R.TIM_SERVO_CNT, one R.TIM_AS_TBI],
    [], [.out, .evq, .acc, .tim]⟩

/-- WOFS_COMMIT (R238). -/
def Foot.execWofsCommit : Foot := ⟨
    Regs.access ++
    [one (R.PG_EVT_RAW P.TIM_BASE), one (R.PG_LOCK P.TIM_BASE), one R.TIM_BASE_WCTL],
    [], [.out, .evq, .acc, .tim]⟩

/-- GPTP_SYNC_SEND (R241). -/
def Foot.execGptpSyncSend : Foot := ⟨[], [], [.mem, .out]⟩

/-- GPTP_ANNOUNCE_SEND (R241). -/
def Foot.execGptpAnnounceSend : Foot := ⟨[], [], [.out]⟩

/-- GPTP_PDELAY (R241). -/
def Foot.execGptpPdelay : Foot := ⟨[one (R.PG_EVT_RAW P.TIM_AS)], [], [.mem, .out]⟩

/-- GPTP_MESSAGE_RX (R241). -/
def Foot.execGptpMessageRx : Foot := ⟨[one (R.PG_EVT_RAW P.TIM_AS)], [], [.mem, .out]⟩

/-- TS_CAPTURE_COPY (R243). -/
def Foot.execTsCaptureCopy : Foot := ⟨
    Regs.access ++
    [one (R.PG_EVT_RAW P.TIM_TS), one (R.PG_LOCK P.TIM_TS), (R.TIM_TS_SEL, R.TIM_TS_D)],
    [], [.out, .evq, .acc]⟩

/-- MIRROR_LANTERN_SEND (R249). -/
def Foot.execMirrorLanternSend : Foot := ⟨[], [], [.out]⟩

/-- MIRROR_LANTERN_RX (R251). -/
def Foot.execMirrorLanternRx : Foot := ⟨
    Regs.role ++
    [one (R.PG_EVT_RAW P.TWN_CTRL), (R.TWN_CTRL_HOK, R.TWN_CTRL_PSER_HI), one R.TWN_CTRL_LAST],
    [], [.out, .evq, .lines, .ports, .beam, .fab, .tim, .wake, .twn]⟩

/-- BACKBONE_LANTERN_RX (R250). -/
def Foot.execBackboneLanternRx : Foot := ⟨
    Regs.role ++
    [one (R.PG_EVT_RAW P.TWN_CTRL), one R.TWN_CTRL_LAST],
    [], [.out, .evq, .lines, .ports, .top, .beam, .fab, .tim, .wake, .twn]⟩

/-- MIRROR_WITNESS_LOST (R252). -/
def Foot.execMirrorWitnessLost : Foot := ⟨
    [],
    [], [.mem, .out, .evq, .evqCut, .evtCut, .allRegs, .acc, .lines, .ports, .top, .beam, .fab, .tim, .cans, .wake, .twn, .hlt, .sgw, .psc, .recorder, .pwr, .mgt]⟩

/-- CLAIM_WAIT_END (R254). -/
def Foot.execClaimWaitEnd : Foot := ⟨
    Regs.role ++
    [one (R.PG_EVT_RAW P.TWN_CTRL), (R.TWN_CTRL_CNT, R.TWN_CTRL_LAST)],
    [], [.out, .evq, .lines, .ports, .beam, .fab, .tim, .wake, .twn]⟩

/-- CLAIM_STUCK (R257). -/
def Foot.execClaimStuck : Foot := ⟨
    [one R.SYS_RST_FAULT, one (R.PG_EVT_RAW P.TWN_CTRL), one R.TWN_CTRL_ROLE, one (R.PG_EVT_RAW P.HLT_CTRL), one R.HLT_CTRL_NODE,
    one (R.HLT_CTRL_ISL 10)],
    [], [.evq, .twn, .hlt]⟩

/-- CLAIM_LINE_TEST (R257). -/
def Foot.execClaimLineTest : Foot := ⟨
    [one R.SYS_RST_FAULT, one (R.PG_EVT_RAW P.TWN_CTRL), one R.TWN_CTRL_ROLE, one (R.PG_EVT_RAW P.HLT_CTRL), one R.HLT_CTRL_NODE,
    one (R.HLT_CTRL_ISL 10)],
    [], [.out, .evq, .twn, .hlt]⟩

/-- CLR_FAULT (R257). -/
def Foot.execClrFault : Foot := ⟨
    Regs.role ++ Regs.access ++
    [one (R.PG_EVT_RAW P.TWN_CTRL), one (R.PG_LOCK P.TWN_CTRL), (R.TWN_CTRL_HO, R.TWN_CTRL_HOK), one R.TWN_CTRL_LAST],
    [], [.out, .evq, .acc, .lines, .ports, .beam, .fab, .tim, .wake, .twn]⟩

/-- CONFIRM_REQ (R258). -/
def Foot.execConfirmReq : Foot := ⟨[one (R.PG_EVT_RAW P.TWN_CTRL)], [], [.out, .fresh, .fab, .twn]⟩

/-- CONFIRM_REQ_RX (R258). -/
def Foot.execConfirmReqRx : Foot := ⟨[], [], [.out, .fab]⟩

/-- CONFIRM (R258). -/
def Foot.execConfirm : Foot := ⟨
    Regs.role ++
    [one (R.PG_EVT_RAW P.TWN_CTRL), one R.TWN_CTRL_HO, (R.TWN_CTRL_CNT, R.TWN_CTRL_LAST)],
    [], [.out, .evq, .lines, .ports, .beam, .fab, .tim, .wake, .twn, .hlt]⟩

/-- CONF_T_EXPIRE (R258). -/
def Foot.execConfTExpire : Foot := ⟨[one (R.PG_EVT_RAW P.TWN_CTRL)], [], [.twn]⟩

/-- START_T_EXPIRE (R259). -/
def Foot.execStartTExpire : Foot := ⟨
    Regs.role ++
    [one (R.PG_EVT_RAW P.TWN_CTRL), one R.TWN_CTRL_HO, (R.TWN_CTRL_CNT, R.TWN_CTRL_LAST)],
    [], [.out, .evq, .lines, .ports, .beam, .fab, .tim, .wake, .twn, .hlt]⟩

/-- HANDOVER (R260). -/
def Foot.execHandover : Foot := ⟨
    Regs.role ++ Regs.access ++
    [one (R.PG_EVT_RAW P.TWN_CTRL), one (R.PG_LOCK P.TWN_CTRL), (R.TWN_CTRL_HO, R.TWN_CTRL_HOK), one R.TWN_CTRL_LAST],
    [], [.out, .evq, .acc, .lines, .ports, .beam, .fab, .tim, .wake, .twn]⟩

/-- ISOLATE (R260). -/
def Foot.execIsolate : Foot := ⟨
    Regs.role ++ Regs.access ++
    [one (R.PG_EVT_RAW P.TWN_CTRL), one (R.PG_LOCK P.TWN_CTRL), (R.TWN_CTRL_HO, R.TWN_CTRL_HOK), one R.TWN_CTRL_LAST],
    [], [.out, .evq, .acc, .lines, .ports, .beam, .fab, .tim, .wake, .twn]⟩

/-- REJOIN (R259). -/
def Foot.execRejoin : Foot := ⟨
    Regs.role ++ Regs.access ++
    [one (R.PG_EVT_RAW P.TWN_CTRL), one (R.PG_LOCK P.TWN_CTRL), (R.TWN_CTRL_HO, R.TWN_CTRL_HOK), one R.TWN_CTRL_LAST],
    [], [.out, .evq, .acc, .lines, .ports, .beam, .fab, .tim, .wake, .twn]⟩

/-- ADMIT (R261). -/
def Foot.execAdmit : Foot := ⟨
    Regs.role ++ Regs.access ++
    [one (R.PG_EVT_RAW P.TWN_CTRL), one (R.PG_LOCK P.TWN_CTRL), (R.TWN_CTRL_HO, R.TWN_CTRL_HOK), one R.TWN_CTRL_LAST],
    [], [.out, .evq, .acc, .lines, .ports, .beam, .fab, .tim, .wake, .twn]⟩

/-- HANDOVER_DECLINED (R260). -/
def Foot.execHandoverDeclined : Foot := ⟨
    Regs.role ++
    [one (R.PG_EVT_RAW P.TWN_CTRL), one R.TWN_CTRL_HO, one R.TWN_CTRL_LAST],
    [], [.out, .evq, .lines, .ports, .beam, .fab, .tim, .wake, .twn]⟩

/-- AUTO_HANDOVER_CAUSE (R260). -/
def Foot.execAutoHandoverCause : Foot := ⟨
    Regs.role ++
    [one (R.PG_EVT_RAW P.TWN_CTRL), (R.TWN_CTRL_HO, R.TWN_CTRL_HOK), one R.TWN_CTRL_LAST],
    [], [.out, .evq, .lines, .ports, .beam, .fab, .tim, .wake, .twn]⟩

/-- MIRROR_LINK_UP (R262). -/
def Foot.execMirrorLinkUp : Foot := ⟨[one (R.PG_EVT_RAW P.TWN_MLINK), one R.TWN_MLINK_STAT], [], [.twn]⟩

/-- LANE_DEGR (R262). -/
def Foot.execLaneDegr : Foot := ⟨[one (R.PG_EVT_RAW P.TWN_MLINK), one R.TWN_MLINK_STAT], [], [.twn]⟩

/-- MIRROR_LINK_DOWN (R262). -/
def Foot.execMirrorLinkDown : Foot := ⟨[one (R.PG_EVT_RAW P.TWN_MLINK), one R.TWN_MLINK_STAT], [], [.twn]⟩

/-- EPOCH_RECORD (R264). -/
def Foot.execEpochRecord : Foot := ⟨[], [], [.out, .twn]⟩

/-- EREC_RX (R266). -/
def Foot.execErecRx : Foot := ⟨
    [one R.TWN_CTRL_ROLE, one (R.PG_EVT_RAW P.TWN_MLINK), one R.TWN_MLINK_ERR, one R.TWN_XCHK_STAT],
    [], [.evq, .fresh, .twn]⟩

/-- ECLOSE_RX (R266). -/
def Foot.execEcloseRx : Foot := ⟨
    Regs.cancel ++
    [one R.SYS_RST_FAULT, one R.SYS_BYP_STAT, one (R.PG_EVT_RAW (P.LINE .a)), one (R.BL_LINE_STAT .a),
    one (R.PG_EVT_RAW (P.PORT .la1)), (R.BL_P_STAT .la1, R.BL_P_SNR .la1), one (R.PG_EVT_RAW (P.PORT .la2)),
    (R.BL_P_STAT .la2, R.BL_P_SNR .la2), one (R.PG_EVT_RAW (P.BEAM .a)), one (R.BL_BEAM_STAT .a),
    (R.BL_BEAM_PHD .a, R.BL_BEAM_LDLY .a), one (R.PG_EVT_RAW (P.LINE .b)), one (R.BL_LINE_STAT .b),
    one (R.PG_EVT_RAW (P.PORT .lb1)), (R.BL_P_STAT .lb1, R.BL_P_SNR .lb1), one (R.PG_EVT_RAW (P.PORT .lb2)),
    (R.BL_P_STAT .lb2, R.BL_P_SNR .lb2), one (R.PG_EVT_RAW (P.BEAM .b)), one (R.BL_BEAM_STAT .b),
    (R.BL_BEAM_PHD .b, R.BL_BEAM_LDLY .b), one (R.PG_EVT_RAW P.SGW_CTRL), one R.SGW_CTRL_STAT, one (R.PG_EVT_RAW P.TIM_BASE),
    (R.TIM_BASE_WOFS_LO, R.TIM_BASE_STAT), one (R.PG_EVT_RAW P.TIM_SERVO), (R.TIM_SERVO_ADJ, R.TIM_SERVO_CNT), one R.TIM_AS_TBI,
    one (R.PG_EVT_RAW P.TWN_CTRL), one R.TWN_CTRL_ROLE, (R.TWN_CTRL_CNT, R.TWN_CTRL_LAST), one (R.PG_EVT_RAW P.TWN_MLINK),
    (R.TWN_MLINK_EPOCH, R.TWN_MLINK_PRSEQ), one (R.PG_EVT_RAW P.TWN_XCHK), (R.TWN_XCHK_STAT, R.TWN_XCHK_LCYC),
    one (R.PG_EVT_RAW P.HLT_CTRL), one R.HLT_CTRL_NODE, one (R.HLT_CTRL_ISL 6), one (R.PG_EVT_RAW P.TOP_INAUG), one R.TOP_STAT],
    [], [.mem, .out, .evq, .fresh, .lines, .ports, .beam, .fab, .tim, .wake, .twn, .hlt]⟩

/-- EPOCH_MISMATCH (R266). -/
def Foot.execEpochMismatch : Foot := ⟨[one (R.PG_EVT_RAW P.TWN_MLINK)], [], [.twn]⟩

/-- BREC_RX (R267). -/
def Foot.execBrecRx : Foot := ⟨[one R.TWN_MLINK_STAT, one R.TWN_MLINK_PRSEQ], [], [.mem, .out, .fab, .twn]⟩

/-- BCLOSE_RX (R267). -/
def Foot.execBcloseRx : Foot := ⟨[one R.TWN_MLINK_STAT], [], [.twn]⟩

/-- MIRROR_CRC_ERR (R263). -/
def Foot.execMirrorCrcErr : Foot := ⟨[one R.TWN_MLINK_ERR], [], []⟩

/-- ENDPOINT_RESET (R277). -/
def Foot.execEndpointReset : Foot := ⟨
    [(P.HBR_CTRL, P.HBR_CTRL + 0xFFFF), (R.PSC_WIN_STAT 0, R.PSC_WIN_STAT 7), one R.PSC_DRB_STAT],
    [], [.evq, .evtCut, .acc, .psc]⟩

/-- PCIE_LINK_UP (R366). -/
def Foot.execPcieLinkUp : Foot := ⟨[one (R.PG_EVT_RAW P.HBR_CTRL), one R.HBR_CTRL_LINK], [], [.evq]⟩

/-- CONFIG_REQUEST (R366). -/
def Foot.execConfigRequest : Foot := ⟨[one R.HBR_CTRL_LINK, one R.HBR_MSIX_PBA], [], [.out, .fresh, .acc]⟩

/-- NOWIN (R280). -/
def Foot.execNowin : Foot := ⟨
    Regs.access ++ Regs.windowWrite ++
    [one (R.PG_EVT_RAW (P.CB_CTRL 0)), (R.CB_CAN_CCNT 0, R.CB_CAN_CCNT 15), (R.PSC_WIN_STAT 0, R.PSC_WIN_CNT 7), one R.PSC_DRB_STAT],
    [], [.mem, .out, .evq, .fresh, .fab, .cans, .psc]⟩

/-- MESSAGE_RAM_WINDOW_ACCESS (R202). -/
def Foot.execMessageRamWindowAccess : Foot := ⟨
    Regs.access ++ Regs.windowWrite ++
    [one (R.PG_EVT_RAW (P.CB_CTRL 0)), (R.CB_CAN_CCNT 0, R.CB_CAN_CCNT 15), (R.PSC_WIN_STAT 0, R.PSC_WIN_CNT 7), one R.PSC_DRB_STAT],
    [], [.mem, .out, .evq, .fresh, .fab, .cans, .psc]⟩

/-- IWIN_ENABLE (R279). -/
def Foot.execIwinEnable : Foot := ⟨
    Regs.access ++
    [one (R.PG_EVT_RAW P.HBR_IWIN)],
    [], [.out, .evq, .acc]⟩

/-- OWIN_ENABLE (R282). -/
def Foot.execOwinEnable : Foot := ⟨
    Regs.access ++
    [one (R.PG_EVT_RAW P.HBR_OWIN)],
    [], [.out, .evq, .acc]⟩

/-- RING_ENABLE (R283). -/
def Foot.execRingEnable : Foot := ⟨Regs.access, [], [.out, .evq, .acc]⟩

/-- RING_PUT_WRITE (R283). -/
def Foot.execRingPutWrite : Foot := ⟨
    Regs.access ++
    [one (R.PG_EVT_RAW P.HBR_OWIN)],
    [], [.out, .evq, .acc]⟩

/-- RX_RING_DELIVER (R285). -/
def Foot.execRxRingDeliver : Foot := ⟨[(R.FAB_QUE_FREE 0, R.FAB_QUE_FREE 3), one (R.PG_EVT_RAW P.HBR_OWIN)], [], [.out, .evq, .fab]⟩

/-- TX_DESCRIPTOR (R286). -/
def Foot.execTxDescriptor : Foot := ⟨
    Regs.toOwner ++
    [one (R.PG_EVT_RAW P.HBR_OWIN), (R.HBR_RING_PTR 8, R.HBR_RING_CNT 8)],
    [], [.mem, .out, .evq, .fab]⟩

/-- BME_CHANGE (R286). -/
def Foot.execBmeChange : Foot := ⟨[one R.HBR_CTRL_LINK, one R.HBR_MSIX_PBA], [], [.out]⟩

/-- PERISCOPE_READ (R294). -/
def Foot.execPeriscopeRead : Foot := ⟨
    Regs.access ++ Regs.windowWrite ++
    [one (R.PG_EVT_RAW (P.CB_CTRL 0)), (R.CB_CAN_CCNT 0, R.CB_CAN_CCNT 15), (R.PSC_WIN_STAT 0, R.PSC_WIN_CNT 7), one R.PSC_DRB_STAT],
    [], [.mem, .out, .evq, .fresh, .fab, .cans, .psc]⟩

/-- TIMEOUT (R295). -/
def Foot.execTimeout : Foot := ⟨
    [one (R.PG_EVT_RAW P.PSC_WIN), (R.PSC_WIN_STAT 0, R.PSC_WIN_CNT 7), (R.PSC_DRB_STAT, R.PSC_DRB_CNT)],
    [], [.out, .fresh, .psc]⟩

/-- PERISCOPE_RESPONSE_RX (R291). -/
def Foot.execPeriscopeResponseRx : Foot := ⟨
    Regs.windowWrite ++
    [one (R.PG_EVT_RAW P.PSC_CTRL), (R.PSC_FENCE_STAT, R.PSC_CTRL_CNT), one (R.PG_EVT_RAW P.PSC_WIN),
    (R.PSC_WIN_STAT 0, R.PSC_WIN_STAT 7), one R.PSC_DRB_STAT, one (R.PG_EVT_RAW P.PSC_SIDE), (R.PSC_SIDE_ISL 0, R.PSC_SIDE_AGE 7)],
    [], [.mem, .out, .evq, .fresh, .fab, .psc]⟩

/-- DR_DISCARD (R296). -/
def Foot.execDrDiscard : Foot := ⟨
    [one (R.PG_EVT_RAW P.FAB_QUE), (R.FAB_QUE_FREE 0, R.FAB_QUE_FREE 3), one (R.PG_EVT_RAW P.PSC_WIN),
    (R.PSC_WIN_STAT 0, R.PSC_WIN_STAT 7), (R.PSC_DRB_STAT, R.PSC_DRB_CNT)],
    [], [.mem, .evq, .fresh, .fab, .psc]⟩

/-- PERISCOPE_WRITE (R297). -/
def Foot.execPeriscopeWrite : Foot := ⟨
    Regs.access ++ Regs.windowWrite ++
    [one (R.PG_EVT_RAW (P.CB_CTRL 0)), (R.CB_CAN_CCNT 0, R.CB_CAN_CCNT 15), (R.PSC_WIN_STAT 0, R.PSC_WIN_CNT 7), one R.PSC_DRB_STAT],
    [], [.mem, .out, .evq, .fresh, .fab, .cans, .psc]⟩

/-- PWFAIL (R297). -/
def Foot.execPwfail : Foot := ⟨
    Regs.windowWrite ++
    [one (R.PG_EVT_RAW P.PSC_CTRL), (R.PSC_FENCE_STAT, R.PSC_CTRL_CNT), one (R.PG_EVT_RAW P.PSC_WIN),
    (R.PSC_WIN_STAT 0, R.PSC_WIN_STAT 7), one R.PSC_DRB_STAT, one (R.PG_EVT_RAW P.PSC_SIDE), (R.PSC_SIDE_ISL 0, R.PSC_SIDE_AGE 7)],
    [], [.mem, .out, .evq, .fresh, .fab, .psc]⟩

/-- PWLOG_GET_WRITE (R297). -/
def Foot.execPwlogGetWrite : Foot := ⟨
    Regs.access ++
    [one (R.PG_EVT_RAW P.PSC_PWLOG), one (R.PG_LOCK P.PSC_PWLOG), one R.PSC_PWLOG_PTR],
    [], [.out, .evq, .acc]⟩

/-- PERISCOPE_REQUEST_RX (R292). -/
def Foot.execPeriscopeRequestRx : Foot := ⟨
    Regs.windowWrite ++
    [one (R.PG_EVT_RAW P.PSC_CTRL), (R.PSC_FENCE_STAT, R.PSC_CTRL_CNT), one (R.PG_EVT_RAW P.PSC_WIN),
    (R.PSC_WIN_STAT 0, R.PSC_WIN_STAT 7), one R.PSC_DRB_STAT, one (R.PG_EVT_RAW P.PSC_SIDE), (R.PSC_SIDE_ISL 0, R.PSC_SIDE_AGE 7)],
    [], [.mem, .out, .evq, .fresh, .fab, .psc]⟩

/-- PERISCOPE_EXECUTE (R293). -/
def Foot.execPeriscopeExecute : Foot := ⟨
    [],
    [], [.mem, .out, .outCut, .evq, .evqCut, .evtCut, .allRegs, .fresh, .acc, .lines, .ports, .top, .beam, .fab, .tim, .cans, .wake, .din, .twn, .hlt, .sgw, .psc, .recorder, .pwr, .mgt]⟩

/-- FENCE (R298). -/
def Foot.execFence : Foot := ⟨
    Regs.access ++
    [one (R.PG_EVT_RAW P.FAB_QUE), (R.FAB_QUE_FREE 0, R.FAB_QUE_FREE 3), one (R.PG_EVT_RAW P.PSC_CTRL), one (R.PG_LOCK P.PSC_CTRL),
    one R.PSC_FENCE_STAT],
    [], [.mem, .out, .evq, .fresh, .acc, .fab, .psc]⟩

/-- FENCE_T_EXPIRE (R298). -/
def Foot.execFenceTExpire : Foot := ⟨[one R.PSC_FENCE_STAT, (R.PSC_WIN_STAT 0, R.PSC_WIN_STAT 7)], [], [.psc]⟩

/-- SIDE_POLL (R299). -/
def Foot.execSidePoll : Foot := ⟨
    [one (R.PG_EVT_RAW P.FAB_QUE), (R.FAB_QUE_FREE 0, R.FAB_QUE_FREE 3), (R.PSC_WIN_STAT 0, R.PSC_WIN_STAT 7),
    one (R.PG_EVT_RAW P.PSC_SIDE), (R.PSC_SIDE_ISL 0, R.PSC_SIDE_ISL 7)],
    [], [.mem, .fab, .psc]⟩

/-- ACL_ENTRY_WRITE (R293). -/
def Foot.execAclEntryWrite : Foot := ⟨Regs.access, [], [.out, .evq, .acc, .psc]⟩

/-- PSC_WINDOW_ENABLE (R290). -/
def Foot.execPscWindowEnable : Foot := ⟨
    Regs.access ++
    [one (R.PG_EVT_RAW P.HBR_IWIN)],
    [], [.out, .evq, .acc, .psc]⟩

/-- PROPOSE (R303). -/
def Foot.execPropose : Foot := ⟨
    Regs.access ++
    [one (R.PG_EVT_RAW P.SYS_WAKE), one (R.PG_LOCK P.SYS_WAKE), one R.SYS_WAKE_STAT, (R.SYS_WAKE_PROP, R.SYS_WAKE_DUSK_RNG),
    one R.SYS_WAKE_CNT],
    [], [.out, .evq, .acc, .beam, .fab, .wake]⟩

/-- WITHDRAW (R309). -/
def Foot.execWithdraw : Foot := ⟨
    Regs.access ++
    [one (R.PG_EVT_RAW P.SYS_WAKE), one (R.PG_LOCK P.SYS_WAKE), one R.SYS_WAKE_STAT, (R.SYS_WAKE_PROP, R.SYS_WAKE_DUSK_RNG),
    one R.SYS_WAKE_CNT],
    [], [.out, .evq, .acc, .beam, .fab, .wake]⟩

/-- DUSK (R306). -/
def Foot.execDusk : Foot := ⟨
    [one (R.PG_EVT_RAW P.SYS_WAKE), one R.SYS_WAKE_STAT, (R.SYS_WAKE_DUSK_N, R.SYS_WAKE_DUSK_RNG), one R.SYS_WAKE_CNT],
    [], [.out, .beam, .fab, .wake]⟩

/-- VETO (R307). -/
def Foot.execVeto : Foot := ⟨
    Regs.access ++
    [one (R.PG_EVT_RAW P.SYS_WAKE), one (R.PG_LOCK P.SYS_WAKE), (R.SYS_WAKE_STAT, R.SYS_WAKE_DUSK_RNG), one R.SYS_WAKE_SEG,
    one R.SYS_WAKE_CNT],
    [], [.out, .evq, .acc, .beam, .fab, .wake]⟩

/-- HOLD (R307). -/
def Foot.execHold : Foot := ⟨
    Regs.access ++
    [one (R.PG_EVT_RAW P.SYS_WAKE), one (R.PG_LOCK P.SYS_WAKE), (R.SYS_WAKE_STAT, R.SYS_WAKE_DUSK_RNG), one R.SYS_WAKE_SEG,
    one R.SYS_WAKE_CNT],
    [], [.out, .evq, .acc, .beam, .fab, .wake]⟩

/-- SLEEP_REQ (R305). -/
def Foot.execSleepReq : Foot := ⟨
    Regs.access ++
    [one (R.PG_EVT_RAW P.SYS_WAKE), one (R.PG_LOCK P.SYS_WAKE), (R.SYS_WAKE_STAT, R.SYS_WAKE_DUSK_RNG), one R.SYS_WAKE_SEG,
    one R.SYS_WAKE_CNT],
    [], [.out, .evq, .acc, .beam, .fab, .wake]⟩

/-- SLEEP_REQUEST_RX (R305). -/
def Foot.execSleepRequestRx : Foot := ⟨
    [one (R.PG_EVT_RAW P.SYS_WAKE), one R.SYS_WAKE_STAT, (R.SYS_WAKE_PROP_N, R.SYS_WAKE_DUSK_RNG), one R.SYS_WAKE_CNT],
    [], [.out, .beam, .fab, .wake]⟩

/-- VETO_RX (R309). -/
def Foot.execVetoRx : Foot := ⟨Regs.cancel, [], [.out, .beam, .fab, .wake]⟩

/-- CANCEL_RX (R309). -/
def Foot.execCancelRx : Foot := ⟨Regs.cancel, [], [.wake]⟩

/-- DARK (R312). -/
def Foot.execDark : Foot := ⟨
    [],
    [], [.mem, .out, .evq, .evqCut, .evtCut, .allRegs, .acc, .lines, .ports, .top, .beam, .fab, .tim, .cans, .wake, .twn, .hlt, .sgw, .psc, .recorder, .pwr, .mgt]⟩

/-- MIN_DARK_TIME_END (R313). -/
def Foot.execMinDarkTimeEnd : Foot := ⟨
    Regs.close ++ Regs.islandOff ++
    [one R.SYS_RST_CAUSE, one R.SYS_RST_BOOT, (R.SYS_CLK_ISL 7, R.SYS_CLK_ISL 8), one (R.PG_EVT_RAW P.SYS_WAKE), one R.SYS_WAKE_STAT,
    one R.SYS_WAKE_DUSK_N, (R.SYS_WAKE_SEG, R.SYS_WAKE_CNT), (P.CB_CTRL 0, P.CB_CTRL 0 + 0xFFFF),
    (P.CB_CTRL 1, P.CB_CTRL 1 + 0xFFFF)],
    [], [.mem, .out, .evq, .evqCut, .evtCut, .acc, .lines, .ports, .top, .beam, .fab, .tim, .cans, .wake, .twn, .hlt, .sgw, .psc, .recorder, .pwr, .mgt]⟩

/-- WAKE_SOURCE (R316). -/
def Foot.execWakeSource : Foot := ⟨
    [one R.SYS_RST_CAUSE, one R.SYS_RST_BOOT, one R.SYS_RST_FAULT, one (R.PG_EVT_RAW P.SYS_WAKE), one R.SYS_WAKE_STAT,
    one R.SYS_WAKE_DUSK_N, (R.SYS_WAKE_CAUSE, R.SYS_WAKE_CNT)],
    [], [.wake, .pwr]⟩

/-- DAWN_PULSE_INJECT (R317). -/
def Foot.execDawnPulseInject : Foot := ⟨[one R.SYS_WAKE_SEG], [], [.out, .wake]⟩

/-- DAWN_SEND (R316). -/
def Foot.execDawnSend : Foot := ⟨[], [], [.out, .beam, .fab, .wake]⟩

/-- DAWN (R320). -/
def Foot.execDawn : Foot := ⟨
    Regs.access ++
    [one (R.PG_EVT_RAW P.SYS_WAKE), one (R.PG_LOCK P.SYS_WAKE), (R.SYS_WAKE_STAT, R.SYS_WAKE_DUSK_RNG), one R.SYS_WAKE_SEG,
    one R.SYS_WAKE_CNT],
    [], [.out, .evq, .acc, .beam, .fab, .wake]⟩

/-- DAWN_RX (R320). -/
def Foot.execDawnRx : Foot := ⟨[one R.SYS_WAKE_SEG], [], [.out, .wake]⟩

/-- PULSE_RX (R318). -/
def Foot.execPulseRx : Foot := ⟨[one (R.PG_EVT_RAW P.SYS_WAKE), one R.SYS_WAKE_SEG], [], []⟩

/-- ISO_WRITE (R322). -/
def Foot.execIsoWrite : Foot := ⟨
    Regs.access ++
    [one (R.PG_EVT_RAW P.SYS_WAKE), one (R.PG_LOCK P.SYS_WAKE), one R.SYS_WAKE_SEG, one (R.PG_EVT_RAW (P.PORT .la1)),
    (R.BL_P_STAT .la1, R.BL_P_SNR .la1), one (R.PG_EVT_RAW (P.PORT .la2)), (R.BL_P_STAT .la2, R.BL_P_SNR .la2),
    one (R.BL_BEAM_LDLY .a), one (R.PG_EVT_RAW (P.PORT .lb1)), (R.BL_P_STAT .lb1, R.BL_P_SNR .lb1),
    one (R.PG_EVT_RAW (P.PORT .lb2)), (R.BL_P_STAT .lb2, R.BL_P_SNR .lb2), one (R.BL_BEAM_LDLY .b),
    one (R.PG_EVT_RAW P.TOP_INAUG), one R.TOP_SHADOW, (R.TOP_STAT, R.TOP_LAST)],
    [], [.mem, .out, .evq, .acc, .lines, .ports, .top, .beam, .fab]⟩

/-- KA_OK_FALL (R307). -/
def Foot.execKaOkFall : Foot := ⟨Regs.cancel, [], [.out, .beam, .fab, .wake]⟩

/-- FILTERED_EDGE (R325). -/
def Foot.execFilteredEdge : Foot := ⟨
    Regs.cancel ++
    [one (R.PG_EVT_RAW P.SYS_DIN), one (R.PG_EVT_RAW P.TOP_INAUG), one R.TOP_SHADOW, (R.TOP_STAT, R.TOP_LAST)],
    [], [.mem, .out, .evq, .lines, .top, .beam, .fab, .wake, .din]⟩

/-- EDGE (R325). -/
def Foot.execEdge : Foot := ⟨
    Regs.cancel ++
    [one (R.PG_EVT_RAW P.SYS_DIN), one (R.PG_EVT_RAW P.TOP_INAUG), one R.TOP_SHADOW, (R.TOP_STAT, R.TOP_LAST)],
    [], [.mem, .out, .evq, .lines, .top, .beam, .fab, .wake, .din]⟩

/-- STUCK (R326). -/
def Foot.execStuck : Foot := ⟨[one (R.PG_EVT_RAW P.SYS_DIN)], [], []⟩

/-- STUCK_RELEASE (R326). -/
def Foot.execStuckRelease : Foot := ⟨[], [], [.din]⟩

/-- CHAT (R327). -/
def Foot.execChat : Foot := ⟨[one (R.PG_EVT_RAW P.SYS_DIN)], [], []⟩

/-- CHAT_HOLD_END (R327). -/
def Foot.execChatHoldEnd : Foot := ⟨
    Regs.cancel ++
    [one (R.PG_EVT_RAW P.SYS_DIN), one (R.PG_EVT_RAW P.TOP_INAUG), one R.TOP_SHADOW, (R.TOP_STAT, R.TOP_LAST)],
    [], [.mem, .out, .evq, .lines, .top, .beam, .fab, .wake, .din]⟩

/-- DIN_CFG_WRITE (R325). -/
def Foot.execDinCfgWrite : Foot := ⟨Regs.access, [], [.out, .evq, .acc]⟩

/-- XO_QUAL (R330). -/
def Foot.execXoQual : Foot := ⟨
    [one (R.PG_EVT_RAW P.SYS_CLK), one R.SYS_CLK_STAT, one R.SYS_CLK_XOQ, (R.SYS_CLK_ISL 0, R.SYS_CLK_ISL 16)],
    [], [.pwr]⟩

/-- XO_FAIL (R330). -/
def Foot.execXoFail : Foot := ⟨
    Regs.clockReason ++
    [one R.SYS_CLK_STAT],
    [], [.evq, .hlt]⟩

/-- SOURCE_FAILURE (R334). -/
def Foot.execSourceFailure : Foot := ⟨
    [],
    [], [.mem, .out, .evq, .evqCut, .evtCut, .allRegs, .acc, .lines, .ports, .top, .beam, .fab, .tim, .cans, .twn, .hlt, .sgw, .psc, .recorder, .pwr, .mgt]⟩

/-- SRC_LOSS (R335). -/
def Foot.execSrcLoss : Foot := ⟨
    [],
    [], [.mem, .out, .evq, .evqCut, .evtCut, .allRegs, .acc, .lines, .ports, .top, .beam, .fab, .tim, .cans, .twn, .hlt, .sgw, .psc, .recorder, .pwr, .mgt]⟩

/-- LINE_HOLD (R332). -/
def Foot.execLineHold : Foot := ⟨[one (R.PG_EVT_RAW P.SYS_CLK), one R.SYS_CLK_STAT], [], []⟩

/-- LINE_REF_CHG (R332). -/
def Foot.execLineRefChg : Foot := ⟨[one (R.PG_EVT_RAW P.SYS_CLK), one R.SYS_CLK_STAT], [], []⟩

/-- PLL_LINE_LOCK (R332). -/
def Foot.execPllLineLock : Foot := ⟨
    [one (R.PG_EVT_RAW P.SYS_CLK), one R.SYS_CLK_STAT, one R.SYS_CLK_LINE, (R.SYS_CLK_ISL 0, R.SYS_CLK_ISL 16)],
    [], [.pwr]⟩

/-- RELEASE_WRITE (R335). -/
def Foot.execReleaseWrite : Foot := ⟨
    Regs.access ++
    [one (R.PG_EVT_RAW P.SYS_CLK), one (R.PG_LOCK P.SYS_CLK), one R.SYS_SRC_RELEASE],
    [], [.out, .evq, .acc]⟩

/-- SRC_WRITE (R336). -/
def Foot.execSrcWrite : Foot := ⟨Regs.access, [], [.out, .evq, .acc, .pwr]⟩

/-- SWITCH_DONE (R336). -/
def Foot.execSwitchDone : Foot := ⟨
    [one (R.PG_EVT_RAW P.SYS_CLK), one (R.SYS_PWR_DVFSSTAT 0), one (R.SYS_PWR_DVFSSTAT 1), one (R.SYS_PWR_DVFSSTAT 2),
    (P.HBR_CTRL, P.HBR_CTRL + 0xFFFF), (R.PSC_WIN_STAT 0, R.PSC_WIN_STAT 7), one R.PSC_DRB_STAT],
    [], [.evq, .evtCut, .acc, .psc, .pwr]⟩

/-- FORCED (R337). -/
def Foot.execForced : Foot := ⟨
    [],
    [], [.mem, .out, .evq, .evqCut, .evtCut, .allRegs, .acc, .lines, .ports, .top, .beam, .fab, .tim, .cans, .twn, .hlt, .sgw, .psc, .recorder, .pwr, .mgt]⟩

/-- XDROP (R339). -/
def Foot.execXdrop : Foot := ⟨[one (R.PG_EVT_RAW P.SYS_PWR), one R.SYS_PWR_XDROP], [], [.evq]⟩

/-- CLOCK_GATE_REQUEST (R340). -/
def Foot.execClockGateRequest : Foot := ⟨
    [],
    [], [.mem, .out, .evq, .evqCut, .evtCut, .allRegs, .acc, .lines, .ports, .top, .beam, .fab, .tim, .cans, .wake, .din, .twn, .hlt, .sgw, .psc, .recorder, .pwr, .mgt]⟩

/-- GATED (R340). -/
def Foot.execGated : Foot := ⟨[one R.TWN_XCHK_STAT], [], [.pwr]⟩

/-- GATE_REFUSED (R340). -/
def Foot.execGateRefused : Foot := ⟨[], [], [.pwr]⟩

/-- CLOCK_GATE_OPEN (R340). -/
def Foot.execClockGateOpen : Foot := ⟨
    [],
    [], [.mem, .out, .evq, .evqCut, .evtCut, .allRegs, .acc, .lines, .ports, .top, .beam, .fab, .tim, .cans, .wake, .din, .twn, .hlt, .sgw, .psc, .recorder, .pwr, .mgt]⟩

/-- GATED_ACCESS (R341). -/
def Foot.execGatedAccess : Foot := ⟨
    [],
    [], [.mem, .out, .evq, .evqCut, .evtCut, .allRegs, .fresh, .acc, .lines, .ports, .top, .beam, .fab, .tim, .cans, .wake, .din, .twn, .hlt, .sgw, .psc, .recorder, .pwr, .mgt]⟩

/-- DVFS_REQUEST (R342). -/
def Foot.execDvfsRequest : Foot := ⟨
    Regs.access ++
    [one (R.PG_EVT_RAW P.SYS_PWR)],
    [], [.out, .evq, .acc, .pwr]⟩

/-- DVFS_FREQ_STEP (R343). -/
def Foot.execDvfsFreqStep : Foot := ⟨[], [], [.pwr]⟩

/-- DVFS_DONE (R343). -/
def Foot.execDvfsDone : Foot := ⟨[one (R.PG_EVT_RAW P.SYS_PWR)], [], []⟩

/-- POWER_CMD (R347). -/
def Foot.execPowerCmd : Foot := ⟨
    [],
    [], [.mem, .out, .evq, .evqCut, .evtCut, .allRegs, .acc, .lines, .ports, .top, .beam, .fab, .tim, .cans, .wake, .din, .twn, .hlt, .sgw, .psc, .recorder, .pwr, .mgt]⟩

/-- ISLAND_POWER_DOWN (R345). -/
def Foot.execIslandPowerDown : Foot := ⟨
    Regs.close ++ Regs.islandOff ++
    [one (R.PG_EVT_RAW P.SYS_PWR)],
    [], [.mem, .out, .evq, .evqCut, .evtCut, .acc, .lines, .ports, .top, .beam, .fab, .tim, .cans, .twn, .hlt, .sgw, .psc, .recorder, .pwr, .mgt]⟩

/-- ISLAND_POWER_DOWN_DONE (R345). -/
def Foot.execIslandPowerDownDone : Foot := ⟨
    [],
    [], [.mem, .out, .evq, .evqCut, .evtCut, .allRegs, .acc, .lines, .ports, .top, .beam, .fab, .tim, .cans, .wake, .twn, .hlt, .sgw, .psc, .recorder, .pwr, .mgt]⟩

/-- ISLAND_POWER_UP_START (R347). -/
def Foot.execIslandPowerUpStart : Foot := ⟨
    [one (R.PG_EVT_RAW P.SYS_RST), one R.SYS_RST_STAT, one (R.PG_EVT_RAW P.SYS_PWR), one (R.SYS_PWR_DVFSSTAT 0),
    one (R.SYS_PWR_DVFSSTAT 1), one (R.SYS_PWR_DVFSSTAT 2)],
    [], [.pwr]⟩

/-- ISLAND_POWER_UP_DONE (R346). -/
def Foot.execIslandPowerUpDone : Foot := ⟨
    [],
    [], [.mem, .out, .evq, .evqCut, .evtCut, .allRegs, .acc, .lines, .ports, .top, .beam, .fab, .tim, .cans, .wake, .twn, .hlt, .sgw, .psc, .recorder, .pwr, .mgt]⟩

/-- COLD_START (R350). -/
def Foot.execColdStart : Foot := ⟨
    [(P.SYS_RST, P.SYS_RST + 0xFFF), (P.SYS_WAKE, P.SYS_WAKE + 0x2FFF)],
    [], [.evtCut, .lines, .wake, .din, .pwr]⟩

/-- SUPPLY_START (R350). -/
def Foot.execSupplyStart : Foot := ⟨[(R.SYS_RST_CAUSE, R.SYS_RST_CNT), one R.SYS_RST_BOOT, one R.SYS_RST_FAULT], [], [.pwr]⟩

/-- SUPPLY_LOSS (R351). -/
def Foot.execSupplyLoss : Foot := ⟨
    [],
    [], [.mem, .out, .evq, .evqCut, .evtCut, .allRegs, .acc, .lines, .ports, .top, .beam, .fab, .tim, .cans, .wake, .twn, .hlt, .sgw, .psc, .recorder, .pwr, .mgt]⟩

/-- POWER_ON_RESET_RELEASE (R352). -/
def Foot.execPowerOnResetRelease : Foot := ⟨
    [],
    [], [.mem, .out, .evq, .evqCut, .evtCut, .allRegs, .acc, .clock, .lines, .ports, .top, .beam, .fab, .tim, .cans, .din, .twn, .hlt, .sgw, .psc, .recorder, .pwr, .mgt]⟩

/-- NRESET_IN (R355). -/
def Foot.execNresetIn : Foot := ⟨
    [],
    [], [.mem, .out, .evq, .evqCut, .evtCut, .allRegs, .acc, .lines, .ports, .top, .beam, .fab, .tim, .cans, .twn, .hlt, .sgw, .psc, .recorder, .pwr, .mgt]⟩

/-- THERMAL_RESET (R355). -/
def Foot.execThermalReset : Foot := ⟨
    [],
    [], [.mem, .out, .evq, .evqCut, .evtCut, .allRegs, .acc, .lines, .ports, .top, .beam, .fab, .tim, .cans, .twn, .hlt, .sgw, .psc, .recorder, .pwr, .mgt]⟩

/-- RAIL_FAULT (R355). -/
def Foot.execRailFault : Foot := ⟨
    [],
    [], [.mem, .out, .evq, .evqCut, .evtCut, .allRegs, .acc, .lines, .ports, .top, .beam, .fab, .tim, .cans, .twn, .hlt, .sgw, .psc, .recorder, .pwr, .mgt]⟩

/-- SOFTWARE_RESET (R355). -/
def Foot.execSoftwareReset : Foot := ⟨
    [],
    [], [.mem, .out, .evq, .evqCut, .evtCut, .allRegs, .acc, .lines, .ports, .top, .beam, .fab, .tim, .cans, .twn, .hlt, .sgw, .psc, .recorder, .pwr, .mgt]⟩

/-- CLR_SAFE (R357). -/
def Foot.execClrSafe : Foot := ⟨
    [],
    [], [.mem, .out, .evq, .evqCut, .evtCut, .allRegs, .acc, .lines, .ports, .top, .beam, .fab, .tim, .cans, .twn, .hlt, .sgw, .psc, .recorder, .pwr, .mgt]⟩

/-- MODULE_RESET_WINDOW_SLIDE (R357). -/
def Foot.execModuleResetWindowSlide : Foot := ⟨[one R.SYS_RST_CNT], [], []⟩

/-- STRAP_CHG (R359). -/
def Foot.execStrapChg : Foot := ⟨[one (R.PG_EVT_RAW P.SYS_RST), one R.SYS_RST_STAT], [], []⟩

/-- BOOT (R361). -/
def Foot.execBoot : Foot := ⟨
    [],
    [], [.mem, .out, .evq, .evqCut, .evtCut, .allRegs, .acc, .lines, .ports, .top, .beam, .fab, .tim, .cans, .twn, .hlt, .sgw, .psc, .recorder, .pwr, .mgt]⟩

/-- CONFIG_APPLY (R364). -/
def Foot.execConfigApply : Foot := ⟨
    [],
    [], [.mem, .out, .evq, .evqCut, .evtCut, .allRegs, .fresh, .acc, .lines, .ports, .top, .beam, .fab, .tim, .cans, .wake, .din, .twn, .hlt, .sgw, .psc, .recorder, .pwr, .mgt]⟩

/-- LOCKSTEP (R367). -/
def Foot.execLockstep : Foot := ⟨Regs.mgtReset, [], [.evq, .evtCut, .hlt, .mgt]⟩

/-- WDT (R368). -/
def Foot.execWdt : Foot := ⟨Regs.mgtReset, [], [.evq, .evtCut, .hlt, .mgt]⟩

/-- KICK (R368). -/
def Foot.execKick : Foot := ⟨
    Regs.access ++
    [one R.SYS_RST_FAULT, one (R.PG_EVT_RAW P.MGT_CTRL), one (R.PG_LOCK P.MGT_CTRL), (R.MGT_CTRL_STAT, R.MGT_CTRL_RST),
    (P.MGT_MBOX, P.MGT_MBOX + 0x1FFF), one (R.PG_EVT_RAW P.HLT_CTRL), one R.HLT_CTRL_NODE, one (R.HLT_CTRL_ISL 13)],
    [], [.out, .evq, .evtCut, .acc, .hlt, .mgt]⟩

/-- MGT_RESTART (R371). -/
def Foot.execMgtRestart : Foot := ⟨
    Regs.access ++ Regs.mgtReset ++
    [one (R.PG_LOCK P.MGT_CTRL)],
    [], [.out, .evq, .evtCut, .acc, .hlt, .mgt]⟩

/-- MBOX_PUSH (R383). -/
def Foot.execMboxPush : Foot := ⟨
    Regs.access ++
    [one (R.PG_EVT_RAW P.FAB_QUE), (R.FAB_QUE_FREE 0, R.FAB_QUE_FREE 3), one (R.PG_EVT_RAW P.MGT_MBOX), one (R.PG_LOCK P.MGT_MBOX),
    (R.MGT_MBOX_STAT, R.MGT_MBOX_RSP 3)],
    [], [.mem, .out, .evq, .acc, .fab, .mgt]⟩

/-- ECHO (R385). -/
def Foot.execEcho : Foot := ⟨Regs.answer, [], [.mem, .fab, .mgt]⟩

/-- VERSION (R385). -/
def Foot.execVersion : Foot := ⟨Regs.answer, [], [.mem, .fab, .mgt]⟩

/-- GOV_STATUS (R385). -/
def Foot.execGovStatus : Foot := ⟨Regs.answer, [], [.mem, .fab, .mgt]⟩

/-- IMG_BEGIN (R386). -/
def Foot.execImgBegin : Foot := ⟨
    Regs.answer ++
    [(R.MGT_IMG_GEN 0, R.MGT_IMG_INFO 1)],
    [], [.mem, .evq, .fab, .mgt, .nv]⟩

/-- IMG_WRITE (R386). -/
def Foot.execImgWrite : Foot := ⟨Regs.answer, [], [.mem, .evq, .fab, .mgt, .nv]⟩

/-- IMG_END (R386). -/
def Foot.execImgEnd : Foot := ⟨
    Regs.answer ++
    [one (R.PG_EVT_RAW P.MGT_IMG), (R.MGT_IMG_GEN 0, R.MGT_IMG_INFO 1)],
    [], [.mem, .fab, .mgt]⟩

/-- IMG_INFO (R385). -/
def Foot.execImgInfo : Foot := ⟨Regs.answer, [], [.mem, .fab, .mgt]⟩

/-- IMG_ACTIVATE (R386). -/
def Foot.execImgActivate : Foot := ⟨
    [],
    [], [.mem, .out, .evq, .evqCut, .evtCut, .allRegs, .acc, .lines, .ports, .top, .beam, .fab, .tim, .cans, .twn, .hlt, .sgw, .psc, .recorder, .pwr, .mgt]⟩

/-- IMG_CONFIRM (R386). -/
def Foot.execImgConfirm : Foot := ⟨
    Regs.answer ++
    [(R.MGT_IMG_GEN 0, R.MGT_IMG_INFO 1)],
    [], [.mem, .fab, .mgt, .nv]⟩

/-- SVN_COMMIT (R390). -/
def Foot.execSvnCommit : Foot := ⟨
    Regs.answer ++
    [one R.SYS_RST_STAT],
    [], [.mem, .fab, .mgt, .nv]⟩

/-- OWNER_KEY (R376). -/
def Foot.execOwnerKey : Foot := ⟨Regs.answer, [], [.mem, .fab, .mgt, .nv]⟩

/-- POLICY_LOAD (R381). -/
def Foot.execPolicyLoad : Foot := ⟨
    [],
    [], [.mem, .out, .evq, .evqCut, .evtCut, .allRegs, .fresh, .acc, .lines, .ports, .top, .beam, .fab, .tim, .cans, .wake, .din, .twn, .hlt, .sgw, .psc, .recorder, .pwr, .mgt]⟩

/-- POLICY_READ (R385). -/
def Foot.execPolicyRead : Foot := ⟨Regs.answer, [], [.mem, .fab, .mgt]⟩

/-- POP (R384). -/
def Foot.execPop : Foot := ⟨
    Regs.access ++
    [one (R.PG_EVT_RAW P.MGT_MBOX), one (R.PG_LOCK P.MGT_MBOX), (R.MGT_MBOX_STAT, R.MGT_MBOX_RSP 3)],
    [], [.out, .evq, .acc, .mgt]⟩

/-- REMOTE_MANAGEMENT_RX (R387). -/
def Foot.execRemoteManagementRx : Foot := ⟨
    [one (R.PG_EVT_RAW P.FAB_QUE), (R.FAB_QUE_FREE 0, R.FAB_QUE_FREE 3), one (R.PG_EVT_RAW P.MGT_MBOX),
    (R.MGT_MBOX_STAT, R.MGT_MBOX_RSP 3)],
    [], [.mem, .fab, .mgt]⟩

/-- GOV_WINDOW_END (R392). -/
def Foot.execGovWindowEnd : Foot := ⟨[one (R.PG_EVT_RAW P.MGT_CTRL), one R.MGT_CTRL_STAT, one R.MGT_CTRL_GOV], [], [.evq, .mgt]⟩

/-- REC_EVENT_STAMP (R397). -/
def Foot.execRecEventStamp : Foot := ⟨[one R.REC_CTRL_STAT, (R.REC_CTRL_LOSS 0, R.REC_CTRL_LOSS 4)], [], [.evq, .evqCut, .recorder]⟩

/-- REC_COMMIT (R398). -/
def Foot.execRecCommit : Foot := ⟨
    [one (R.PG_EVT_RAW P.REC_CTRL), (R.REC_CTRL_STAT, R.REC_CTRL_HELD), (R.REC_CTRL_LOSS 0, R.REC_CTRL_LOSS 4),
    one (R.PG_EVT_RAW P.REC_STRM), (R.REC_STRM_NEXT, R.REC_STRM_CNT)],
    [], [.mem, .recorder]⟩

/-- COAL_CLOSE (R401). -/
def Foot.execCoalClose : Foot := ⟨[one R.REC_CTRL_STAT, (R.REC_CTRL_LOSS 0, R.REC_CTRL_LOSS 4)], [], [.recorder]⟩

/-- LOSS (R402). -/
def Foot.execLoss : Foot := ⟨
    [one (R.PG_EVT_RAW P.REC_CTRL), (R.REC_CTRL_STAT, R.REC_CTRL_HELD), one (R.PG_EVT_RAW P.REC_STRM),
    (R.REC_STRM_NEXT, R.REC_STRM_CNT)],
    [], [.mem, .recorder]⟩

/-- REC_POST (R406). -/
def Foot.execRecPost : Foot := ⟨
    Regs.access ++
    [one (R.PG_EVT_RAW P.REC_CTRL), one (R.PG_LOCK P.REC_CTRL)],
    [], [.out, .evq, .acc]⟩

/-- CLEAR (R405). -/
def Foot.execClear : Foot := ⟨
    Regs.access ++
    [one (R.PG_EVT_RAW P.REC_CTRL), one (R.PG_LOCK P.REC_CTRL), (R.REC_CTRL_CMD, R.REC_CTRL_HELD), one (R.PG_EVT_RAW P.REC_STRM),
    (R.REC_STRM_NEXT, R.REC_STRM_CNT)],
    [], [.mem, .out, .evq, .acc, .recorder]⟩

/-- REC_PORT_POP (R404). -/
def Foot.execRecPortPop : Foot := ⟨
    Regs.access ++
    [one (R.PG_LOCK P.REC_PORT)],
    [], [.out, .evq, .fresh, .acc, .recorder]⟩

/-- REC_PORT_CUR_WRITE (R404). -/
def Foot.execRecPortCurWrite : Foot := ⟨
    Regs.access ++
    [one (R.PG_EVT_RAW P.REC_PORT), one (R.PG_LOCK P.REC_PORT)],
    [], [.out, .evq, .acc, .recorder]⟩

/-- STOP_WRITE (R403). -/
def Foot.execStopWrite : Foot := ⟨
    Regs.access ++
    [one (R.PG_EVT_RAW P.REC_CTRL), one (R.PG_LOCK P.REC_CTRL), one R.REC_CTRL_CFG, one R.REC_CTRL_STAT],
    [], [.out, .evq, .acc]⟩

/-- REC_SRST (R451). -/
def Foot.execRecSrst : Foot := ⟨
    [],
    [], [.mem, .out, .evq, .evqCut, .evtCut, .allRegs, .acc, .lines, .ports, .top, .beam, .fab, .tim, .cans, .wake, .din, .twn, .hlt, .sgw, .psc, .recorder, .pwr, .mgt]⟩

/-- STREAM_ENABLE (R407). -/
def Foot.execStreamEnable : Foot := ⟨
    Regs.access ++
    [one (R.PG_EVT_RAW P.REC_STRM), one (R.PG_LOCK P.REC_STRM), one R.REC_STRM_CFG, (R.REC_STRM_PTR, R.REC_STRM_NEXT)],
    [], [.out, .evq, .acc, .recorder]⟩

/-- STRM (R407). -/
def Foot.execStrm : Foot := ⟨
    [one (R.PG_EVT_RAW P.REC_STRM), one R.REC_STRM_CFG, (R.REC_STRM_PTR, R.REC_STRM_CNT)],
    [], [.out, .evq, .recorder]⟩

/-- STREAM_GET_WRITE (R407). -/
def Foot.execStreamGetWrite : Foot := ⟨
    Regs.access ++
    [one (R.PG_EVT_RAW P.REC_STRM), one (R.PG_LOCK P.REC_STRM), one R.REC_STRM_PTR],
    [], [.out, .evq, .acc]⟩

/-- ECC_EVENT (R413). -/
def Foot.execEccEvent : Foot := ⟨
    [one R.SYS_RST_FAULT, one (R.PG_EVT_RAW P.HLT_CTRL), one R.HLT_CTRL_NODE, (R.HLT_CTRL_ELOG 0, R.HLT_CTRL_ELOG 15)],
    [], [.evq, .hlt]⟩

/-- CE_HOUR_END (R410). -/
def Foot.execCeHourEnd : Foot := ⟨
    [one R.SYS_RST_FAULT, one (R.PG_EVT_RAW P.HLT_CTRL), one R.HLT_CTRL_NODE, (R.HLT_CTRL_ISL 0, R.HLT_CTRL_ISL 16)],
    [], [.evq, .hlt]⟩

/-- SENSOR_ALARM (R410). -/
def Foot.execSensorAlarm : Foot := ⟨
    [one R.SYS_RST_FAULT, one (R.PG_EVT_RAW (P.PORT .la1)), one (R.BL_P_SNR .la1), one (R.PG_EVT_RAW (P.PORT .la2)),
    one (R.BL_P_SNR .la2), one (R.PG_EVT_RAW (P.PORT .lb1)), one (R.BL_P_SNR .lb1), one (R.PG_EVT_RAW (P.PORT .lb2)),
    one (R.BL_P_SNR .lb2), one (R.PG_EVT_RAW P.HLT_CTRL), one R.HLT_CTRL_NODE, (R.HLT_CTRL_ISL 0, R.HLT_CTRL_ISL 16),
    one (R.PG_EVT_RAW P.HLT_SENS), (R.HLT_SENS_V 0, R.HLT_SENS_V 9), one R.HLT_SENS_CAL],
    [], [.evq, .hlt]⟩

/-- HEALTH_REASON_CLEAR_TIMER (R410). -/
def Foot.execHealthReasonClearTimer : Foot := ⟨
    Regs.clockReason ++
    [one R.HLT_SENS_CAL],
    [], [.evq, .hlt, .pwr]⟩

/-- FW_LEVEL_WRITE (R409). -/
def Foot.execFwLevelWrite : Foot := ⟨
    Regs.access ++
    [one R.SYS_RST_FAULT, one (R.PG_EVT_RAW P.HLT_CTRL), one R.HLT_CTRL_NODE],
    [], [.out, .evq, .acc]⟩

/-- BANK_TEST (R415). -/
def Foot.execBankTest : Foot := ⟨[], [], [.out, .evq, .allRegs, .acc, .lines, .ports, .beam, .fab, .tim, .wake, .twn, .hlt, .psc]⟩

/-- MBIST (R416). -/
def Foot.execMbist : Foot := ⟨[], [], [.out, .evq, .allRegs, .acc, .lines, .ports, .beam, .fab, .tim, .wake, .twn, .hlt, .psc]⟩

/-- LBIST (R416). -/
def Foot.execLbist : Foot := ⟨[], [], [.out, .evq, .allRegs, .acc, .lines, .ports, .beam, .fab, .tim, .wake, .twn, .hlt, .psc]⟩

/-- SESSION (R417). -/
def Foot.execSession : Foot := ⟨[], [], [.out, .evq, .allRegs, .acc, .lines, .ports, .beam, .fab, .tim, .wake, .twn, .hlt, .psc]⟩

/-- BANK_DRAIN_TIMEOUT (R415). -/
def Foot.execBankDrainTimeout : Foot := ⟨
    Regs.role ++
    [one R.FAB_QUE_MOVING, one (R.PG_EVT_RAW P.TWN_CTRL), one R.TWN_CTRL_LAST, one R.HLT_BIST_STAT],
    [], [.out, .evq, .lines, .ports, .beam, .fab, .tim, .wake, .twn, .hlt]⟩

/-- DONE (R416). -/
def Foot.execDone : Foot := ⟨[], [], [.out, .evq, .allRegs, .lines, .ports, .beam, .fab, .tim, .wake, .twn, .hlt, .psc, .pwr]⟩

/-- ISLAND_RESTORE (R415). -/
def Foot.execIslandRestore : Foot := ⟨
    [],
    [], [.mem, .out, .evq, .evqCut, .evtCut, .allRegs, .acc, .lines, .ports, .top, .beam, .fab, .tim, .cans, .wake, .twn, .hlt, .sgw, .psc, .recorder, .pwr, .mgt]⟩

/-- VERDICT (R416). -/
def Foot.execVerdict : Foot := ⟨
    [],
    [], [.mem, .out, .evq, .evqCut, .evtCut, .allRegs, .acc, .lines, .ports, .top, .beam, .fab, .tim, .cans, .wake, .twn, .hlt, .sgw, .psc, .recorder, .pwr, .mgt]⟩

/-- VERD_T_EXPIRE (R417). -/
def Foot.execVerdTExpire : Foot := ⟨[], [], [.hlt]⟩

/-- REPAIR_RECORD_WRITTEN (R420). -/
def Foot.execRepairRecordWritten : Foot := ⟨
    [one (R.PG_EVT_RAW P.HLT_REPAIR), (R.HLT_REPAIR_RSTAT, R.HLT_REPAIR_RSEQ)],
    [], [.evq, .nv]⟩

/-- IRO_RECAL (R423). -/
def Foot.execIroRecal : Foot := ⟨[one R.HLT_SENS_CAL], [], [.evq]⟩

/-- RECAL (R423). -/
def Foot.execRecal : Foot := ⟨
    Regs.access ++ Regs.clockReason ++
    [one (R.PG_EVT_RAW P.HLT_SENS), one (R.PG_LOCK P.HLT_SENS), (R.HLT_SENS_V 0, R.HLT_SENS_V 9), one R.HLT_SENS_CAL],
    [], [.out, .evq, .acc, .hlt]⟩

/-- CLRMAX (R423). -/
def Foot.execClrmax : Foot := ⟨
    Regs.access ++ Regs.clockReason ++
    [one (R.PG_EVT_RAW P.HLT_SENS), one (R.PG_LOCK P.HLT_SENS), (R.HLT_SENS_V 0, R.HLT_SENS_V 9), one R.HLT_SENS_CAL],
    [], [.out, .evq, .acc, .hlt]⟩

/-- NRESET_IN_RELEASE (R355). -/
def Foot.execNresetInRelease : Foot := ⟨[one R.SYS_RST_STAT, (R.SYS_PWR_SEQ 0, R.SYS_PWR_SEQ 16)], [], [.pwr, .mgt]⟩

/-- THERMAL_RESET_RELEASE (R355). -/
def Foot.execThermalResetRelease : Foot := ⟨[one R.SYS_RST_STAT, (R.SYS_PWR_SEQ 0, R.SYS_PWR_SEQ 16)], [], [.pwr, .mgt]⟩

/-- KA_OK_RISE (R307). -/
def Foot.execKaOkRise : Foot := ⟨[one R.SYS_WAKE_STAT], [], []⟩

/-- ALWAYS_ON_SUPPLY_LOSS (R300). -/
def Foot.execAlwaysOnSupplyLoss : Foot := ⟨
    [],
    [], [.mem, .out, .evq, .evqCut, .evtCut, .allRegs, .acc, .lines, .ports, .top, .beam, .fab, .tim, .cans, .wake, .din, .twn, .hlt, .sgw, .psc, .recorder, .pwr, .mgt]⟩

/-- SOURCE_GOOD (R333). -/
def Foot.execSourceGood : Foot := ⟨
    [one (R.PG_EVT_RAW P.SYS_CLK), one R.SYS_CLK_STAT, (R.SYS_CLK_XOQ, R.SYS_CLK_LINE), (R.SYS_CLK_ISL 0, R.SYS_CLK_ISL 16)],
    [], [.pwr]⟩

/-- CAN_RX_ERROR (R217). -/
def Foot.execCanRxError : Foot := ⟨[], [], [.out, .evq]⟩

/-- AER (R275). -/
def Foot.execAer : Foot := ⟨[one (R.PG_EVT_RAW P.HBR_CTRL)], [], [.evq]⟩

/-- WAKE_INPUT_INACTIVE (R315). -/
def Foot.execWakeInputInactive : Foot := ⟨[one (R.SYS_DIN_STAT 0)], [], [.wake]⟩

/-- HANDOVER_WAIT_END (R260). -/
def Foot.execHandoverWaitEnd : Foot := ⟨
    Regs.role ++
    [one (R.PG_EVT_RAW P.TWN_CTRL), (R.TWN_CTRL_CNT, R.TWN_CTRL_LAST)],
    [], [.out, .evq, .lines, .ports, .beam, .fab, .tim, .wake, .twn]⟩

/-- What a command may touch. -/
def footOf (i : Instr) : Foot :=
  match i with
  | .registerWrite _ _ _ => Foot.execRegisterWrite.at []
  | .unmappedAccess _ _ _ => Foot.execUnmappedAccess.at []
  | .accessError _ off _ _ => Foot.execAccessError.at [one (R.PG_EVT_RAW (pageOf off)), one (R.PG_LOCK (pageOf off))]
  | .offIslandAccess _ _ _ _ => Foot.execOffIslandAccess.at []
  | .pairLowRead _ off => Foot.execPairLowRead.at [one (R.PG_LOCK (pageOf (off / 4 * 4)))]
  | .pairHighWrite _ _ _ => Foot.execPairHighWrite.at []
  | .pairLowWrite _ _ _ => Foot.execPairLowWrite.at []
  | .pageUnlock _ pg => Foot.execPageUnlock.at [one (R.PG_LOCK (pageOf pg)), one (R.PG_EVT_RAW (pageOf pg))]
  | .pageRelock _ pg _ => Foot.execPageRelock.at [one (R.PG_LOCK (pageOf pg)), one (R.PG_EVT_RAW (pageOf pg))]
  | .lockTimeout pg => Foot.execLockTimeout.at [one (R.PG_LOCK (pageOf pg))]
  | .blockSrst _ _ _ => Foot.execBlockSrst.at []
  | .srstComplete pg => Foot.execSrstComplete.at [one (R.PG_EVT_RAW (pageOf pg))]
  | .blockEnWrite _ _ _ => Foot.execBlockEnWrite.at []
  | .eventForce _ pg _ => Foot.execEventForce.at
      [one (R.PG_LOCK (pageOf (pageOf pg + 28))), one (R.PG_EVT_RAW (pageOf (pageOf pg + 28))), one (R.PG_EVT_RAW (pageOf pg))]
  | .eventClear _ pg _ _ => Foot.execEventClear.at
      [one (R.PG_LOCK (pageOf (R.PG_EVT_RAW (pageOf pg)))), one (R.PG_EVT_RAW (pageOf (R.PG_EVT_RAW (pageOf pg)))),
       one (R.PG_EVT_RAW (pageOf pg))]
  | .eventAggregate isl => Foot.execEventAggregate.at [one (R.SYS_EVT_PGSUM isl)]
  | .eoi _ _ => Foot.execEoi.at []
  | .msixUnmask _ vec _ => Foot.execMsixUnmask.at
      [one (R.PG_LOCK (pageOf (R.HBR_MSIX_V_CTRL (vec % 32)))), one (R.PG_EVT_RAW (pageOf (R.HBR_MSIX_V_CTRL (vec % 32)))),
       one (R.HBR_MSIX_V_CTRL (vec % 32))]
  | .lineOpenRequest l => Foot.execLineOpenRequest.at [one (R.BL_LINE_STAT l)]
  | .openingComplete l => Foot.execOpeningComplete.at
      [one (R.BL_LINE_STAT l), one (R.PG_EVT_RAW (P.LINE l)), one (R.BL_LINE_CNT l), one (R.BL_BEAM_DCUMD ((l.port true).line)),
       one (R.BL_BEAM_DCUMU ((l.port true).line)), one (R.BL_BEAM_PHD ((l.port true).line)),
       one (R.BL_BEAM_PHU ((l.port true).line)), one (R.BL_BEAM_DCUMD ((l.port false).line)),
       one (R.BL_BEAM_DCUMU ((l.port false).line)), one (R.BL_BEAM_PHD ((l.port false).line)),
       one (R.BL_BEAM_PHU ((l.port false).line)), one (R.BL_BEAM_STAT l), one (R.PG_EVT_RAW (P.BEAM l))]
  | .bypassClose l => Foot.execBypassClose.at [one (R.BL_LINE_STAT l)]
  | .closingComplete l => Foot.execClosingComplete.at
      [one (R.BL_LINE_STAT l), one (R.BL_BEAM_DCUMD ((l.port true).line)), one (R.BL_BEAM_DCUMU ((l.port true).line)),
       one (R.BL_BEAM_PHD ((l.port true).line)), one (R.BL_BEAM_PHU ((l.port true).line)),
       one (R.BL_BEAM_DCUMD ((l.port false).line)), one (R.BL_BEAM_DCUMU ((l.port false).line)),
       one (R.BL_BEAM_PHD ((l.port false).line)), one (R.BL_BEAM_PHU ((l.port false).line)), one (R.BL_BEAM_STAT l),
       one (R.PG_EVT_RAW (P.BEAM l)), one (R.PG_EVT_RAW (P.LINE l))]
  | .bypWdog l => Foot.execBypWdog.at [one (R.BL_LINE_STAT l)]
  | .bypMismatch l => Foot.execBypMismatch.at [one (R.BL_LINE_STAT l)]
  | .holdoffElapsed _ => Foot.execHoldoffElapsed.at []
  | .forceByp _ l _ => Foot.execForceByp.at
      [one (R.PG_LOCK (pageOf (R.BL_LINE_CMD l))), one (R.PG_EVT_RAW (pageOf (R.BL_LINE_CMD l))), one (R.BL_LINE_CMD l),
       one (R.BL_LINE_STAT l), one (R.BL_BEAM_DCUMD ((l.port true).line)), one (R.BL_BEAM_DCUMU ((l.port true).line)),
       one (R.BL_BEAM_PHD ((l.port true).line)), one (R.BL_BEAM_PHU ((l.port true).line)),
       one (R.BL_BEAM_DCUMD ((l.port false).line)), one (R.BL_BEAM_DCUMU ((l.port false).line)),
       one (R.BL_BEAM_PHD ((l.port false).line)), one (R.BL_BEAM_PHU ((l.port false).line)), one (R.BL_BEAM_STAT l),
       one (R.PG_EVT_RAW (P.BEAM l)), one (R.PG_EVT_RAW (P.LINE l))]
  | .clrLockout _ l _ => Foot.execClrLockout.at
      [one (R.PG_LOCK (pageOf (R.BL_LINE_CMD l))), one (R.PG_EVT_RAW (pageOf (R.BL_LINE_CMD l))), one (R.BL_LINE_CMD l),
       one (R.BL_LINE_STAT l), one (R.BL_BEAM_DCUMD ((l.port true).line)), one (R.BL_BEAM_DCUMU ((l.port true).line)),
       one (R.BL_BEAM_PHD ((l.port true).line)), one (R.BL_BEAM_PHU ((l.port true).line)),
       one (R.BL_BEAM_DCUMD ((l.port false).line)), one (R.BL_BEAM_DCUMU ((l.port false).line)),
       one (R.BL_BEAM_PHD ((l.port false).line)), one (R.BL_BEAM_PHU ((l.port false).line)), one (R.BL_BEAM_STAT l),
       one (R.PG_EVT_RAW (P.BEAM l)), one (R.PG_EVT_RAW (P.LINE l))]
  | .retrain _ l _ => Foot.execRetrain.at
      [one (R.PG_LOCK (pageOf (R.BL_LINE_CMD l))), one (R.PG_EVT_RAW (pageOf (R.BL_LINE_CMD l))), one (R.BL_LINE_CMD l),
       one (R.BL_LINE_STAT l), one (R.BL_BEAM_DCUMD ((l.port true).line)), one (R.BL_BEAM_DCUMU ((l.port true).line)),
       one (R.BL_BEAM_PHD ((l.port true).line)), one (R.BL_BEAM_PHU ((l.port true).line)),
       one (R.BL_BEAM_DCUMD ((l.port false).line)), one (R.BL_BEAM_DCUMU ((l.port false).line)),
       one (R.BL_BEAM_PHD ((l.port false).line)), one (R.BL_BEAM_PHU ((l.port false).line)), one (R.BL_BEAM_STAT l),
       one (R.PG_EVT_RAW (P.BEAM l)), one (R.PG_EVT_RAW (P.LINE l))]
  | .portLinkUp p _ _ _ _ => Foot.execPortLinkUp.at
      [one (R.BL_P_STAT p), one (R.BL_P_LAT p), one (R.PG_EVT_RAW (P.PORT p)), one (R.PG_EVT_RAW (P.LINE p.line)),
       one (R.PG_EVT_RAW (P.PORT p.opposite)), one (R.BL_P_STAT p.opposite), one (R.BL_P_SNR p.opposite),
       one (R.BL_P_LAT p.opposite), one (R.BL_BEAM_LDLY p.opposite.line), one (R.BL_P_SNR p), one (R.BL_BEAM_LDLY p.line),
       one (R.BL_BEAM_DCUMD ((p.line.port true).line)), one (R.BL_BEAM_DCUMU ((p.line.port true).line)),
       one (R.BL_BEAM_PHD ((p.line.port true).line)), one (R.BL_BEAM_PHU ((p.line.port true).line)),
       one (R.BL_BEAM_DCUMD ((p.line.port false).line)), one (R.BL_BEAM_DCUMU ((p.line.port false).line)),
       one (R.BL_BEAM_PHD ((p.line.port false).line)), one (R.BL_BEAM_PHU ((p.line.port false).line)),
       one (R.BL_BEAM_STAT p.line), one (R.PG_EVT_RAW (P.BEAM p.line))]
  | .portLinkDown p => Foot.execPortLinkDown.at
      [one (R.PG_EVT_RAW (P.PORT p)), one (R.BL_P_STAT p), one (R.BL_P_SNR p), one (R.BL_P_LAT p), one (R.BL_BEAM_LDLY p.line),
       one (R.BL_BEAM_DCUMD ((p.line.port true).line)), one (R.BL_BEAM_DCUMU ((p.line.port true).line)),
       one (R.BL_BEAM_PHD ((p.line.port true).line)), one (R.BL_BEAM_PHU ((p.line.port true).line)),
       one (R.BL_BEAM_DCUMD ((p.line.port false).line)), one (R.BL_BEAM_DCUMU ((p.line.port false).line)),
       one (R.BL_BEAM_PHD ((p.line.port false).line)), one (R.BL_BEAM_PHU ((p.line.port false).line)),
       one (R.BL_BEAM_STAT p.line), one (R.PG_EVT_RAW (P.BEAM p.line))]
  | .trainFail l => Foot.execTrainFail.at
      [one (R.PG_EVT_RAW (P.LINE l)), one (R.BL_LINE_CNT l), one (R.BL_LINE_STAT l), one (R.BL_BEAM_DCUMD ((l.port true).line)),
       one (R.BL_BEAM_DCUMU ((l.port true).line)), one (R.BL_BEAM_PHD ((l.port true).line)),
       one (R.BL_BEAM_PHU ((l.port true).line)), one (R.BL_BEAM_DCUMD ((l.port false).line)),
       one (R.BL_BEAM_DCUMU ((l.port false).line)), one (R.BL_BEAM_PHD ((l.port false).line)),
       one (R.BL_BEAM_PHU ((l.port false).line)), one (R.BL_BEAM_STAT l), one (R.PG_EVT_RAW (P.BEAM l))]
  | .failCntClear l => Foot.execFailCntClear.at [one (R.BL_LINE_STAT l)]
  | .failsafe l _ _ => Foot.execFailsafe.at
      [one (R.BL_LINE_STAT l), one (R.PG_EVT_RAW (P.LINE l)), one (R.BL_LINE_CNT l), one (R.BL_BEAM_DCUMD ((l.port true).line)),
       one (R.BL_BEAM_DCUMU ((l.port true).line)), one (R.BL_BEAM_PHD ((l.port true).line)),
       one (R.BL_BEAM_PHU ((l.port true).line)), one (R.BL_BEAM_DCUMD ((l.port false).line)),
       one (R.BL_BEAM_DCUMU ((l.port false).line)), one (R.BL_BEAM_PHD ((l.port false).line)),
       one (R.BL_BEAM_PHU ((l.port false).line)), one (R.BL_BEAM_STAT l), one (R.PG_EVT_RAW (P.BEAM l))]
  | .failsafeRecover l => Foot.execFailsafeRecover.at [one (R.BL_LINE_STAT l), one (R.PG_EVT_RAW (P.LINE l))]
  | .lineSrst _ _ _ => Foot.execLineSrst.at []
  | .portSrst _ _ _ => Foot.execPortSrst.at []
  | .backboneFrameRx _ _ _ _ => Foot.execBackboneFrameRx.at []
  | .ldupAge _ _ _ _ => Foot.execLdupAge.at []
  | .inaug _ _ => Foot.execInaug.at []
  | .clrHold _ _ => Foot.execClrHold.at []
  | .flapHoldEnd p => Foot.execFlapHoldEnd.at [one (R.BL_P_STAT p)]
  | .lanternLossTrigger => Foot.execLanternLossTrigger.at []
  | .request p _ => Foot.execRequest.at [one (R.BL_P_ERR p)]
  | .join p _ => Foot.execJoin.at [one (R.BL_P_ERR p)]
  | .ident p _ => Foot.execIdent.at [one (R.BL_P_ERR p)]
  | .xident p _ => Foot.execXident.at [one (R.BL_P_ERR p)]
  | .xend p _ => Foot.execXend.at [one (R.BL_P_ERR p)]
  | .silent _ => Foot.execSilent.at []
  | .numbering => Foot.execNumbering.at []
  | .ready p _ => Foot.execReady.at [one (R.BL_P_ERR p)]
  | .commitInsert _ => Foot.execCommitInsert.at []
  | .commit p _ => Foot.execCommit.at [one (R.BL_P_ERR p)]
  | .flip => Foot.execFlip.at []
  | .commitMiss => Foot.execCommitMiss.at []
  | .graceEnd => Foot.execGraceEnd.at []
  | .bindWrite _ _ => Foot.execBindWrite.at []
  | .ttdpTopologyChange _ _ _ => Foot.execTtdpTopologyChange.at []
  | .inhibit _ _ => Foot.execInhibit.at []
  | .cycleBoundary _ _ => Foot.execCycleBoundary.at []
  | .windowOpen x _ _ => Foot.execWindowOpen.at
      [one (R.BL_BEAM_DCUMD ((x.line.port true).line)), one (R.BL_BEAM_DCUMU ((x.line.port true).line)),
       one (R.BL_BEAM_PHD ((x.line.port true).line)), one (R.BL_BEAM_PHU ((x.line.port true).line)),
       one (R.BL_BEAM_DCUMD ((x.line.port false).line)), one (R.BL_BEAM_DCUMU ((x.line.port false).line)),
       one (R.BL_BEAM_PHD ((x.line.port false).line)), one (R.BL_BEAM_PHU ((x.line.port false).line)),
       one (R.BL_BEAM_STAT x.line), one (R.PG_EVT_RAW (P.BEAM x.line)), one (R.BL_BEAM_EVCNT x.line), one (R.BL_BEAM_INS x.line),
       one (R.BL_BEAM_QCNT x.line)]
  | .marker x _ _ _ _ _ => Foot.execMarker.at
      [one (R.BL_BEAM_ERR x.line), one (R.BL_BEAM_PHD x.line), one (R.BL_BEAM_PHU x.line), one (R.PG_EVT_RAW (P.BEAM x.line)),
       one (R.BL_BEAM_EVCNT x.line), one (R.BL_BEAM_DCUMD ((x.line.port true).line)),
       one (R.BL_BEAM_DCUMU ((x.line.port true).line)), one (R.BL_BEAM_PHD ((x.line.port true).line)),
       one (R.BL_BEAM_PHU ((x.line.port true).line)), one (R.BL_BEAM_DCUMD ((x.line.port false).line)),
       one (R.BL_BEAM_DCUMU ((x.line.port false).line)), one (R.BL_BEAM_PHD ((x.line.port false).line)),
       one (R.BL_BEAM_PHU ((x.line.port false).line)), one (R.BL_BEAM_STAT x.line)]
  | .markerMissing x _ => Foot.execMarkerMissing.at
      [one (R.PG_EVT_RAW (P.BEAM x.line)), one (R.BL_BEAM_EVCNT x.line), one (R.BL_BEAM_DCUMD ((x.line.port true).line)),
       one (R.BL_BEAM_DCUMU ((x.line.port true).line)), one (R.BL_BEAM_PHD ((x.line.port true).line)),
       one (R.BL_BEAM_PHU ((x.line.port true).line)), one (R.BL_BEAM_DCUMD ((x.line.port false).line)),
       one (R.BL_BEAM_DCUMU ((x.line.port false).line)), one (R.BL_BEAM_PHD ((x.line.port false).line)),
       one (R.BL_BEAM_PHU ((x.line.port false).line)), one (R.BL_BEAM_STAT x.line)]
  | .probeSend p _ => Foot.execProbeSend.at [one (R.BL_BEAM_INS p.line)]
  | .probe p _ _ _ _ _ => Foot.execProbe.at
      [one (R.BL_BEAM_ERR p.line), one (R.BL_BEAM_LDLY p.line), one (R.BL_BEAM_DCUMD p.opposite.line),
       one (R.BL_BEAM_DCUMU p.opposite.line)]
  | .beamFrameRx _ _ _ _ _ => Foot.execBeamFrameRx.at []
  | .arm _ _ => Foot.execArm.at []
  | .ethernetFrameRx _ _ _ => Foot.execEthernetFrameRx.at []
  | .frameTransmit _ _ _ => Foot.execFrameTransmit.at []
  | .fdbAge _ _ => Foot.execFdbAge.at []
  | .flush _ _ => Foot.execFlush.at []
  | .flowWrite _ _ => Foot.execFlowWrite.at []
  | .flowRead _ _ => Foot.execFlowRead.at []
  | .clrcnt _ _ => Foot.execClrcnt.at []
  | .expire _ => Foot.execExpire.at []
  | .swap _ _ => Foot.execSwap.at []
  | .bankPoolWrite _ _ _ => Foot.execBankPoolWrite.at []
  | .bankMoved _ => Foot.execBankMoved.at []
  | .cpLinkChg port _ _ => Foot.execCpLinkChg.at [one (R.CP_P_STAT port), one (R.PG_EVT_RAW (P.CP_P port))]
  | .pdFrameRx port _ => Foot.execPdFrameRx.at
      [one (R.CP_P_ERR (4 + port - 4)), one (R.BL_P_ERR (bportOf (4 + port))), one (R.PG_EVT_RAW (P.CP_CTRL (port / 4))),
       one (R.CP_CTRL_PDERR (port / 4)), one (R.CP_CTRL_PDRX (port / 4))]
  | .comidWrite _ h _ => Foot.execComidWrite.at
      [one (R.PG_LOCK (pageOf (R.CP_CTRL_CDATA (h % 2) 3))), one (R.PG_EVT_RAW (pageOf (R.CP_CTRL_CDATA (h % 2) 3))),
       one (R.CP_CTRL_CDATA (h % 2) 3)]
  | .cbRecoveryReset _ => Foot.execCbRecoveryReset.at []
  | .cbdupStreamWrite _ _ => Foot.execCbdupStreamWrite.at []
  | .inputArrival _ => Foot.execInputArrival.at []
  | .inpExpire _ => Foot.execInpExpire.at []
  | .passStart => Foot.execPassStart.at []
  | .passDone _ _ _ => Foot.execPassDone.at []
  | .stall => Foot.execStall.at []
  | .imageWrite _ _ _ => Foot.execImageWrite.at []
  | .mapEntryWrite _ _ => Foot.execMapEntryWrite.at []
  | .mapRead _ _ => Foot.execMapRead.at []
  | .rcpEntryWrite _ _ => Foot.execRcpEntryWrite.at []
  | .rcpRead _ _ => Foot.execRcpRead.at []
  | .flipRequest _ _ => Foot.execFlipRequest.at []
  | .validationDone => Foot.execValidationDone.at []
  | .cancel _ _ => Foot.execCancel.at []
  | .channelStart n => Foot.execChannelStart.at
      [one (R.PG_EVT_RAW (P.CB_CAN (n % 16))), one (R.CB_CAN_MODE (n % 16)), one (R.CB_CAN_STAT (n % 16)),
       one (R.CB_CTRL_TM_STAT (n % 16)), one (R.CB_CAN_XCVR (n % 16)), (R.CB_CAN_QPTR (n % 16) 0, R.CB_CAN_QPTR (n % 16) 15),
       (R.CB_CAN_QCNT (n % 16) 0, R.CB_CAN_QCNT (n % 16) 15)]
  | .modeWrite _ n _ => Foot.execModeWrite.at
      [one (R.PG_LOCK (pageOf (R.CB_CAN_MODE (n % 16)))), one (R.PG_EVT_RAW (pageOf (R.CB_CAN_MODE (n % 16)))),
       one (R.CB_CAN_MODE (n % 16))]
  | .modeChg n => Foot.execModeChg.at
      [one (R.CB_CAN_MODE (n % 16)), one (R.CB_CAN_STAT (n % 16)), one (R.CB_CTRL_TM_STAT (n % 16)),
       one (R.CB_CAN_XCVR (n % 16)), (R.CB_CAN_QPTR (n % 16) 0, R.CB_CAN_QPTR (n % 16) 15),
       (R.CB_CAN_QCNT (n % 16) 0, R.CB_CAN_QCNT (n % 16) 15), one (R.PG_EVT_RAW (P.CB_CAN (n % 16)))]
  | .canFrameRx n _ _ _ => Foot.execCanFrameRx.at
      [one (R.CB_CAN_STAT (n % 16)), one (R.PG_EVT_RAW (P.CB_CAN (n % 16))), one (R.CB_CAN_ECNT (n % 16)),
       one (R.CB_CAN_RXCNT (n % 16)), (R.CB_CAN_QCNT (n % 16) 0, R.CB_CAN_QCNT (n % 16) 15),
       (R.CB_CAN_QPTR (n % 16) 0, R.CB_CAN_QPTR (n % 16) 15), one (R.CB_CAN_FCNT (n % 16))]
  | .canTxAttempt n _ => Foot.execCanTxAttempt.at
      [one (R.CB_CAN_STAT (n % 16)), (R.CB_CAN_QPTR (n % 16) 0, R.CB_CAN_QPTR (n % 16) 15),
       (R.CB_CAN_QCNT (n % 16) 0, R.CB_CAN_QCNT (n % 16) 15), one (R.PG_EVT_RAW (P.CB_CAN (n % 16)))]
  | .canTxEnd n _ => Foot.execCanTxEnd.at
      [one (R.CB_CAN_STAT (n % 16)), (R.CB_CAN_QPTR (n % 16) 0, R.CB_CAN_QPTR (n % 16) 15),
       (R.CB_CAN_QCNT (n % 16) 0, R.CB_CAN_QCNT (n % 16) 15), one (R.PG_EVT_RAW (P.CB_CAN (n % 16))),
       one (R.CB_CAN_SSP (n % 16)), one (R.CB_CAN_ECNT (n % 16)), one (R.CB_CAN_CCNT (n % 16)), one (R.CB_CAN_TXCNT (n % 16)),
       one (R.CB_CAN_FCNT (n % 16)), one (R.CB_CAN_RXCNT (n % 16)), one (R.CB_CTRL_TM_STAT (n % 16))]
  | .busoffHoldEnd n => Foot.execBusoffHoldEnd.at [one (R.CB_CAN_STAT (n % 16))]
  | .recover _ n _ => Foot.execRecover.at
      [one (R.PG_LOCK (pageOf (R.CB_CAN_CMD (n % 16)))), one (R.PG_EVT_RAW (pageOf (R.CB_CAN_CMD (n % 16)))),
       (R.CB_CAN_QPTR (n % 16) 0, R.CB_CAN_QPTR (n % 16) 15), (R.CB_CAN_QCNT (n % 16) 0, R.CB_CAN_QCNT (n % 16) 15),
       one (R.PG_EVT_RAW (P.CB_CAN (n % 16))), one (R.CB_CAN_STAT (n % 16))]
  | .busoffRecovered n => Foot.execBusoffRecovered.at
      [one (R.PG_EVT_RAW (P.CB_CAN (n % 16))), one (R.CB_CAN_STAT (n % 16)), one (R.CB_CAN_ECNT (n % 16))]
  | .queueConfigWrite _ n k _ => Foot.execQueueConfigWrite.at
      [one (R.PG_LOCK (pageOf (R.CB_CAN_QCFG (n % 16) (k % 16)))), one (R.PG_EVT_RAW (pageOf (R.CB_CAN_QCFG (n % 16) (k % 16)))),
       one (R.PG_EVT_RAW (P.CB_CAN (n % 16))), one (R.CB_CAN_QCFG (n % 16) (k % 16)), one (R.CB_CAN_QPTR (n % 16) (k % 16))]
  | .queuePointerWrite _ n k _ => Foot.execQueuePointerWrite.at
      [one (R.PG_LOCK (pageOf (R.CB_CAN_QPTR (n % 16) (k % 16)))), one (R.PG_EVT_RAW (pageOf (R.CB_CAN_QPTR (n % 16) (k % 16)))),
       one (R.PG_EVT_RAW (P.CB_CAN (n % 16))), one (R.CB_CAN_QPTR (n % 16) (k % 16)),
       (R.CB_CAN_QPTR (n % 16) 0, R.CB_CAN_QPTR (n % 16) 15), (R.CB_CAN_QCNT (n % 16) 0, R.CB_CAN_QCNT (n % 16) 15)]
  | .abort _ n _ => Foot.execAbort.at
      [one (R.PG_LOCK (pageOf (R.CB_CAN_CMD (n % 16)))), one (R.PG_EVT_RAW (pageOf (R.CB_CAN_CMD (n % 16)))),
       (R.CB_CAN_QPTR (n % 16) 0, R.CB_CAN_QPTR (n % 16) 15), (R.CB_CAN_QCNT (n % 16) 0, R.CB_CAN_QCNT (n % 16) 15),
       one (R.PG_EVT_RAW (P.CB_CAN (n % 16))), one (R.CB_CAN_STAT (n % 16))]
  | .referenceMessageDue n => Foot.execReferenceMessageDue.at
      [one (R.PG_EVT_RAW (P.CB_CAN (n % 16))), one (R.CB_CTRL_TM_STAT (n % 16))]
  | .mdataAccess _ h _ _ _ => Foot.execMdataAccess.at
      [one (R.PG_LOCK (pageOf (R.CB_CTRL_MDATA_LO (h % 2)))), one (R.PG_EVT_RAW (pageOf (R.CB_CTRL_MDATA_LO (h % 2)))),
       one (R.PG_LOCK (pageOf (R.CB_CTRL_MDATA_HI (h % 2)))), one (R.PG_EVT_RAW (pageOf (R.CB_CTRL_MDATA_HI (h % 2)))),
       one (R.CB_CTRL_MSEL (h % 2)), one (R.PG_EVT_RAW (P.CB_CTRL (h % 2)))]
  | .timeFrameRx _ _ => Foot.execTimeFrameRx.at []
  | .holdover => Foot.execHoldover.at []
  | .gmConflictClear => Foot.execGmConflictClear.at []
  | .start _ _ => Foot.execStart.at []
  | .wofsCommit _ _ _ => Foot.execWofsCommit.at []
  | .gptpSyncSend _ _ => Foot.execGptpSyncSend.at []
  | .gptpAnnounceSend _ _ => Foot.execGptpAnnounceSend.at []
  | .gptpPdelay _ _ _ _ => Foot.execGptpPdelay.at []
  | .gptpMessageRx _ _ => Foot.execGptpMessageRx.at []
  | .tsCaptureCopy _ _ => Foot.execTsCaptureCopy.at []
  | .mirrorLanternSend => Foot.execMirrorLanternSend.at []
  | .mirrorLanternRx _ => Foot.execMirrorLanternRx.at []
  | .backboneLanternRx _ _ => Foot.execBackboneLanternRx.at []
  | .mirrorWitnessLost _ => Foot.execMirrorWitnessLost.at []
  | .claimWaitEnd _ => Foot.execClaimWaitEnd.at []
  | .claimStuck _ => Foot.execClaimStuck.at []
  | .claimLineTest _ _ => Foot.execClaimLineTest.at []
  | .clrFault _ _ => Foot.execClrFault.at []
  | .confirmReq => Foot.execConfirmReq.at []
  | .confirmReqRx _ _ => Foot.execConfirmReqRx.at []
  | .confirm _ _ _ => Foot.execConfirm.at []
  | .confTExpire => Foot.execConfTExpire.at []
  | .startTExpire _ => Foot.execStartTExpire.at []
  | .handover _ _ => Foot.execHandover.at []
  | .isolate _ _ => Foot.execIsolate.at []
  | .rejoin _ _ => Foot.execRejoin.at []
  | .admitPartner _ _ => Foot.execAdmit.at []
  | .handoverDeclined => Foot.execHandoverDeclined.at []
  | .autoHandoverCause _ => Foot.execAutoHandoverCause.at []
  | .mirrorLinkUp => Foot.execMirrorLinkUp.at []
  | .laneDegr _ => Foot.execLaneDegr.at []
  | .mirrorLinkDown => Foot.execMirrorLinkDown.at []
  | .epochRecord _ => Foot.execEpochRecord.at []
  | .erecRx _ _ => Foot.execErecRx.at []
  | .ecloseRx _ _ => Foot.execEcloseRx.at []
  | .epochMismatch => Foot.execEpochMismatch.at []
  | .brecRx _ _ => Foot.execBrecRx.at []
  | .bcloseRx _ _ => Foot.execBcloseRx.at []
  | .mirrorCrcErr => Foot.execMirrorCrcErr.at []
  | .endpointReset _ => Foot.execEndpointReset.at []
  | .pcieLinkUp _ _ => Foot.execPcieLinkUp.at []
  | .configRequest _ _ => Foot.execConfigRequest.at []
  | .nowin _ _ _ => Foot.execNowin.at []
  | .messageRamWindowAccess _ _ _ _ => Foot.execMessageRamWindowAccess.at []
  | .iwinEnable _ n _ => Foot.execIwinEnable.at
      [one (R.PG_LOCK (pageOf (R.HBR_IWIN_CFG (n % 16)))), one (R.PG_EVT_RAW (pageOf (R.HBR_IWIN_CFG (n % 16)))),
       one (R.HBR_IWIN_CFG (n % 16))]
  | .owinEnable _ m _ => Foot.execOwinEnable.at
      [one (R.PG_LOCK (pageOf (R.HBR_OWIN_CFG (m % 8)))), one (R.PG_EVT_RAW (pageOf (R.HBR_OWIN_CFG (m % 8)))),
       one (R.HBR_OWIN_CFG (m % 8))]
  | .ringEnable _ r _ => Foot.execRingEnable.at
      [one (R.PG_LOCK (pageOf (R.HBR_RING_CFG (r % 9)))), one (R.PG_EVT_RAW (pageOf (R.HBR_RING_CFG (r % 9)))),
       one (R.HBR_RING_CFG (r % 9)), one (R.HBR_RING_PTR (r % 9))]
  | .ringPutWrite _ r _ => Foot.execRingPutWrite.at
      [one (R.PG_LOCK (pageOf (R.HBR_RING_PTR (r % 9)))), one (R.PG_EVT_RAW (pageOf (R.HBR_RING_PTR (r % 9)))),
       one (R.HBR_RING_PTR (r % 9))]
  | .rxRingDeliver k _ => Foot.execRxRingDeliver.at [one (R.HBR_RING_PTR (k % 8)), one (R.HBR_RING_CNT (k % 8))]
  | .txDescriptor _ _ => Foot.execTxDescriptor.at []
  | .bmeChange _ => Foot.execBmeChange.at []
  | .periscopeRead _ _ => Foot.execPeriscopeRead.at []
  | .timeout _ => Foot.execTimeout.at []
  | .periscopeResponseRx _ => Foot.execPeriscopeResponseRx.at []
  | .drDiscard _ => Foot.execDrDiscard.at []
  | .periscopeWrite _ _ => Foot.execPeriscopeWrite.at []
  | .pwfail _ => Foot.execPwfail.at []
  | .pwlogGetWrite _ _ => Foot.execPwlogGetWrite.at []
  | .periscopeRequestRx _ => Foot.execPeriscopeRequestRx.at []
  | .periscopeExecute => Foot.execPeriscopeExecute.at []
  | .fence _ v => Foot.execFence.at [one (R.PSC_WIN_CNT (BitVec.toNat v % 8)), one (R.PSC_WIN_STAT (BitVec.toNat v % 8))]
  | .fenceTExpire => Foot.execFenceTExpire.at []
  | .sidePoll => Foot.execSidePoll.at []
  | .aclEntryWrite _ n _ => Foot.execAclEntryWrite.at
      [one (R.PG_LOCK (pageOf (R.PSC_CTRL_ACL_W1 (n % 32)))), one (R.PG_EVT_RAW (pageOf (R.PSC_CTRL_ACL_W1 (n % 32)))),
       one (R.PSC_CTRL_ACL_W1 (n % 32))]
  | .pscWindowEnable _ p _ => Foot.execPscWindowEnable.at
      [one (R.PG_LOCK (pageOf (R.PSC_WIN_CFG (p % 8)))), one (R.PG_EVT_RAW (pageOf (R.PSC_WIN_CFG (p % 8)))),
       one (R.PSC_WIN_CFG (p % 8)), one (R.PSC_SIDE_AGE (p % 8)), one (R.PSC_SIDE_ISL (p % 8))]
  | .propose _ _ => Foot.execPropose.at []
  | .withdraw _ _ => Foot.execWithdraw.at []
  | .dusk _ => Foot.execDusk.at []
  | .veto _ _ => Foot.execVeto.at []
  | .hold _ _ => Foot.execHold.at []
  | .sleepReq _ _ => Foot.execSleepReq.at []
  | .sleepRequestRx _ => Foot.execSleepRequestRx.at []
  | .vetoRx _ => Foot.execVetoRx.at []
  | .cancelRx _ => Foot.execCancelRx.at []
  | .dark => Foot.execDark.at []
  | .minDarkTimeEnd => Foot.execMinDarkTimeEnd.at []
  | .wakeSource _ _ => Foot.execWakeSource.at []
  | .dawnPulseInject => Foot.execDawnPulseInject.at []
  | .dawnSend => Foot.execDawnSend.at []
  | .dawn _ _ => Foot.execDawn.at []
  | .dawnRx _ => Foot.execDawnRx.at []
  | .pulseRx _ => Foot.execPulseRx.at []
  | .isoWrite _ _ => Foot.execIsoWrite.at []
  | .kaOkFall => Foot.execKaOkFall.at []
  | .filteredEdge inp _ => Foot.execFilteredEdge.at [one (R.SYS_DIN_STAT (inp % 4))]
  | .edge inp => Foot.execEdge.at [one (R.SYS_DIN_STAT (inp % 4))]
  | .stuck inp => Foot.execStuck.at [one (R.SYS_DIN_STAT (inp % 4))]
  | .stuckRelease inp => Foot.execStuckRelease.at [one (R.SYS_DIN_STAT (inp % 4))]
  | .chat inp => Foot.execChat.at [one (R.SYS_DIN_STAT (inp % 4))]
  | .chatHoldEnd inp => Foot.execChatHoldEnd.at [one (R.SYS_DIN_STAT (inp % 4))]
  | .dinCfgWrite _ inp _ => Foot.execDinCfgWrite.at
      [one (R.PG_LOCK (pageOf (R.SYS_DIN_CFG (inp % 4)))), one (R.PG_EVT_RAW (pageOf (R.SYS_DIN_CFG (inp % 4)))),
       one (R.SYS_DIN_CFG (inp % 4))]
  | .xoQual => Foot.execXoQual.at []
  | .xoFail => Foot.execXoFail.at []
  | .sourceFailure _ => Foot.execSourceFailure.at []
  | .srcLoss _ => Foot.execSrcLoss.at []
  | .lineHold => Foot.execLineHold.at []
  | .lineRefChg _ _ => Foot.execLineRefChg.at []
  | .pllLineLock _ => Foot.execPllLineLock.at []
  | .releaseWrite _ _ => Foot.execReleaseWrite.at []
  | .srcWrite _ isl _ => Foot.execSrcWrite.at
      [one (R.PG_LOCK (pageOf (R.SYS_CLK_ISL (isl % 17)))), one (R.PG_EVT_RAW (pageOf (R.SYS_CLK_ISL (isl % 17)))),
       one (R.SYS_CLK_ISL (isl % 17))]
  | .switchDone isl => Foot.execSwitchDone.at [one (R.SYS_CLK_ISL isl)]
  | .forced _ => Foot.execForced.at []
  | .xdrop _ _ => Foot.execXdrop.at []
  | .clockGateRequest _ _ _ => Foot.execClockGateRequest.at []
  | .gated pg => Foot.execGated.at [one (R.PG_STAT (pageOf pg))]
  | .gateRefused pg => Foot.execGateRefused.at [one (R.PG_EVT_RAW (pageOf pg)), one (R.PG_CTRL (pageOf pg))]
  | .clockGateOpen _ _ _ => Foot.execClockGateOpen.at []
  | .gatedAccess _ _ _ _ => Foot.execGatedAccess.at []
  | .dvfsRequest _ f _ => Foot.execDvfsRequest.at
      [one (R.PG_LOCK (pageOf (R.SYS_PWR_DVFS (f % 3)))), one (R.PG_EVT_RAW (pageOf (R.SYS_PWR_DVFS (f % 3)))),
       one (R.SYS_PWR_DVFS (f % 3)), one (R.SYS_PWR_DVFSSTAT (f % 3))]
  | .dvfsFreqStep f => Foot.execDvfsFreqStep.at [one (R.SYS_PWR_DVFSSTAT (f % 3))]
  | .dvfsDone f => Foot.execDvfsDone.at [one (R.SYS_PWR_DVFSSTAT (f % 3))]
  | .powerCmd _ _ _ => Foot.execPowerCmd.at []
  | .islandPowerDown isl _ => Foot.execIslandPowerDown.at
      [one (R.SYS_PWR_SEQ isl), one (R.SYS_CLK_ISL isl), (65536 * isl, 65536 * isl + 65535)]
  | .islandPowerDownDone _ => Foot.execIslandPowerDownDone.at []
  | .islandPowerUpStart isl _ => Foot.execIslandPowerUpStart.at [one (R.SYS_PWR_SEQ isl)]
  | .islandPowerUpDone _ => Foot.execIslandPowerUpDone.at []
  | .coldStart => Foot.execColdStart.at []
  | .supplyStart => Foot.execSupplyStart.at []
  | .supplyLoss => Foot.execSupplyLoss.at []
  | .powerOnResetRelease _ => Foot.execPowerOnResetRelease.at []
  | .nresetIn => Foot.execNresetIn.at []
  | .thermalReset => Foot.execThermalReset.at []
  | .railFault => Foot.execRailFault.at []
  | .softwareReset _ _ => Foot.execSoftwareReset.at []
  | .clrSafe _ _ => Foot.execClrSafe.at []
  | .moduleResetWindowSlide => Foot.execModuleResetWindowSlide.at []
  | .strapChg _ => Foot.execStrapChg.at []
  | .boot _ => Foot.execBoot.at []
  | .configApply _ => Foot.execConfigApply.at []
  | .lockstep _ => Foot.execLockstep.at []
  | .wdt => Foot.execWdt.at []
  | .kick _ _ => Foot.execKick.at []
  | .mgtRestart _ _ => Foot.execMgtRestart.at []
  | .mboxPush _ _ => Foot.execMboxPush.at []
  | .echo => Foot.execEcho.at []
  | .version => Foot.execVersion.at []
  | .govStatus => Foot.execGovStatus.at []
  | .imgBegin => Foot.execImgBegin.at []
  | .imgWrite => Foot.execImgWrite.at []
  | .imgEnd _ => Foot.execImgEnd.at []
  | .imgInfo => Foot.execImgInfo.at []
  | .imgActivate => Foot.execImgActivate.at []
  | .imgConfirm => Foot.execImgConfirm.at []
  | .svnCommit => Foot.execSvnCommit.at []
  | .ownerKey => Foot.execOwnerKey.at []
  | .policyLoad => Foot.execPolicyLoad.at []
  | .policyRead => Foot.execPolicyRead.at []
  | .pop _ _ => Foot.execPop.at []
  | .remoteManagementRx _ => Foot.execRemoteManagementRx.at []
  | .govWindowEnd _ => Foot.execGovWindowEnd.at []
  | .recEventStamp => Foot.execRecEventStamp.at []
  | .recCommit => Foot.execRecCommit.at []
  | .coalClose => Foot.execCoalClose.at []
  | .loss => Foot.execLoss.at []
  | .recPost _ _ => Foot.execRecPost.at []
  | .clear _ _ => Foot.execClear.at []
  | .recPortPop _ _ => Foot.execRecPortPop.at []
  | .recPortCurWrite _ _ => Foot.execRecPortCurWrite.at []
  | .stopWrite _ _ => Foot.execStopWrite.at []
  | .recSrst _ _ _ => Foot.execRecSrst.at []
  | .streamEnable _ _ => Foot.execStreamEnable.at []
  | .strm => Foot.execStrm.at []
  | .streamGetWrite _ _ => Foot.execStreamGetWrite.at []
  | .eccEvent pg mem _ _ _ => Foot.execEccEvent.at
      [one (R.HLT_CTRL_ISL (memIsland mem)), one (R.PG_EVT_RAW (eccPage (pageOf pg))), one (R.PG_ERR (eccPage (pageOf pg)))]
  | .ceHourEnd => Foot.execCeHourEnd.at []
  | .sensorAlarm _ => Foot.execSensorAlarm.at []
  | .healthReasonClearTimer isl _ item _ => Foot.execHealthReasonClearTimer.at
      [one (R.BL_P_SNR (bportOf item)), one (R.HLT_CTRL_ISL (lineIsland (bportOf item).line)), one (R.HLT_SENS_V item),
       one (R.HLT_CTRL_ISL isl)]
  | .fwLevelWrite _ n _ => Foot.execFwLevelWrite.at
      [one (R.PG_LOCK (pageOf (R.HLT_CTRL_ISL (n % 17)))), one (R.PG_EVT_RAW (pageOf (R.HLT_CTRL_ISL (n % 17)))),
       one (R.HLT_CTRL_ISL (n % 17))]
  | .bankTest _ _ => Foot.execBankTest.at []
  | .mbist _ _ => Foot.execMbist.at []
  | .lbist _ _ => Foot.execLbist.at []
  | .session _ _ => Foot.execSession.at []
  | .bankDrainTimeout => Foot.execBankDrainTimeout.at []
  | .done _ _ => Foot.execDone.at []
  | .islandRestore _ => Foot.execIslandRestore.at []
  | .verdict _ _ => Foot.execVerdict.at []
  | .verdTExpire => Foot.execVerdTExpire.at []
  | .repairRecordWritten _ => Foot.execRepairRecordWritten.at []
  | .iroRecal _ => Foot.execIroRecal.at []
  | .recal _ _ _ => Foot.execRecal.at []
  | .clrmax _ _ _ => Foot.execClrmax.at []
  | .nresetInRelease => Foot.execNresetInRelease.at []
  | .thermalResetRelease => Foot.execThermalResetRelease.at []
  | .kaOkRise => Foot.execKaOkRise.at []
  | .alwaysOnSupplyLoss => Foot.execAlwaysOnSupplyLoss.at []
  | .sourceGood _ => Foot.execSourceGood.at []
  | .canRxError n _ _ _ _ _ => Foot.execCanRxError.at
      [one (R.CB_CAN_STAT (n % 16)), one (R.PG_EVT_RAW (P.CB_CAN (n % 16))), one (R.CB_CAN_FCNT (n % 16)),
       one (R.CB_CAN_ECNT (n % 16))]
  | .aer _ _ => Foot.execAer.at []
  | .wakeInputInactive _ => Foot.execWakeInputInactive.at []
  | .handoverWaitEnd => Foot.execHandoverWaitEnd.at []

/-! The commands that write one register: the requester and the register. -/

/-- The register that a command writes through a page access, where the command is such a write. -/
def writesOf (i : Instr) : Option (Requester × Nat) :=
  match i with
  | .blockSrst q pg _ => some (q, R.PG_CTRL (pageOf pg))
  | .blockEnWrite q pg _ => some (q, R.PG_CTRL (pageOf pg))
  | .eventForce q pg _ => some (q, pageOf pg + 0x1C)
  | .eventClear q pg _ _ => some (q, R.PG_EVT_RAW (pageOf pg))
  | .eoi q _ => some (q, R.SYS_EVT_EOI)
  | .msixUnmask q vec _ => some (q, R.HBR_MSIX_V_CTRL (vec % 32))
  | .forceByp q l _ => some (q, R.BL_LINE_CMD l)
  | .clrLockout q l _ => some (q, R.BL_LINE_CMD l)
  | .retrain q l _ => some (q, R.BL_LINE_CMD l)
  | .lineSrst q l _ => some (q, R.PG_CTRL (P.LINE l))
  | .portSrst q p _ => some (q, R.PG_CTRL (P.PORT p))
  | .inaug q _ => some (q, R.TOP_CMD)
  | .clrHold q _ => some (q, R.TOP_CMD)
  | .bindWrite q _ => some (q, R.TOP_TBL_CMD)
  | .inhibit q _ => some (q, R.TOP_ETB_CTRL)
  | .arm q _ => some (q, R.TOP_SLOT_ARM)
  | .flush q _ => some (q, R.FAB_CTRL_AGE)
  | .flowWrite q _ => some (q, R.FAB_FLOW_CMD)
  | .flowRead q _ => some (q, R.FAB_FLOW_CMD)
  | .clrcnt q _ => some (q, R.FAB_FLOW_CMD)
  | .swap q _ => some (q, R.FAB_GATE_CTRL)
  | .bankPoolWrite q hi _ => some (q, if hi then R.FAB_QUE_BANK_HI else R.FAB_QUE_BANK_LO)
  | .comidWrite q h _ => some (q, R.CP_CTRL_CDATA (h % 2) 3)
  | .cbdupStreamWrite q _ => some (q, R.FAB_CBDUP_ID_LO)
  | .mapEntryWrite q _ => some (q, R.SGW_MAP_DATA 3)
  | .mapRead q _ => some (q, R.SGW_MAP_CMD)
  | .rcpEntryWrite q _ => some (q, R.SGW_RCP_DATA 3)
  | .rcpRead q _ => some (q, R.SGW_RCP_CMD)
  | .flipRequest q _ => some (q, R.SGW_CTRL_FLIP)
  | .cancel q _ => some (q, R.SGW_CTRL_FLIP)
  | .modeWrite q n _ => some (q, R.CB_CAN_MODE (n % 16))
  | .recover q n _ => some (q, R.CB_CAN_CMD (n % 16))
  | .queueConfigWrite q n k _ => some (q, R.CB_CAN_QCFG (n % 16) (k % 16))
  | .queuePointerWrite q n k _ => some (q, R.CB_CAN_QPTR (n % 16) (k % 16))
  | .abort q n _ => some (q, R.CB_CAN_CMD (n % 16))
  | .start q _ => some (q, R.TIM_BASE_CMD)
  | .tsCaptureCopy q _ => some (q, R.TIM_TS_SEL)
  | .clrFault q _ => some (q, R.TWN_CTRL_CMD)
  | .handover q _ => some (q, R.TWN_CTRL_CMD)
  | .isolate q _ => some (q, R.TWN_CTRL_CMD)
  | .rejoin q _ => some (q, R.TWN_CTRL_CMD)
  | .admitPartner q _ => some (q, R.TWN_CTRL_CMD)
  | .iwinEnable q n _ => some (q, R.HBR_IWIN_CFG (n % 16))
  | .owinEnable q m _ => some (q, R.HBR_OWIN_CFG (m % 8))
  | .ringEnable q r _ => some (q, R.HBR_RING_CFG (r % 9))
  | .ringPutWrite q r _ => some (q, R.HBR_RING_PTR (r % 9))
  | .pwlogGetWrite q _ => some (q, R.PSC_PWLOG_PTR)
  | .fence q _ => some (q, R.PSC_FENCE)
  | .aclEntryWrite q n _ => some (q, R.PSC_CTRL_ACL_W1 (n % 32))
  | .pscWindowEnable q p _ => some (q, R.PSC_WIN_CFG (p % 8))
  | .propose q _ => some (q, R.SYS_WAKE_PROP)
  | .withdraw q _ => some (q, R.SYS_WAKE_PROP)
  | .veto q _ => some (q, R.SYS_WAKE_CMD)
  | .hold q _ => some (q, R.SYS_WAKE_CMD)
  | .sleepReq q _ => some (q, R.SYS_WAKE_CMD)
  | .dawn q _ => some (q, R.SYS_WAKE_CMD)
  | .isoWrite q _ => some (q, R.SYS_WAKE_SEG)
  | .dinCfgWrite q inp _ => some (q, R.SYS_DIN_CFG (inp % 4))
  | .releaseWrite q _ => some (q, R.SYS_SRC_RELEASE)
  | .srcWrite q isl _ => some (q, R.SYS_CLK_ISL (isl % 17))
  | .clockGateRequest q pg _ => some (q, R.PG_CTRL (pageOf pg))
  | .clockGateOpen q pg _ => some (q, R.PG_CTRL (pageOf pg))
  | .dvfsRequest q f _ => some (q, R.SYS_PWR_DVFS (f % 3))
  | .softwareReset q _ => some (q, R.SYS_RST_CMD)
  | .clrSafe q _ => some (q, R.SYS_RST_CMD)
  | .kick q _ => some (q, R.MGT_CTRL_WDT)
  | .mgtRestart q _ => some (q, R.MGT_CTRL_CMD)
  | .mboxPush q _ => some (q, R.MGT_MBOX_CMD)
  | .pop q _ => some (q, R.MGT_MBOX_RACK)
  | .recPost q _ => some (q, R.REC_CTRL_POST)
  | .clear q _ => some (q, R.REC_CTRL_CMD)
  | .recPortCurWrite q _ => some (q, R.REC_PORT_CUR)
  | .stopWrite q _ => some (q, R.REC_CTRL_CFG)
  | .streamEnable q _ => some (q, R.REC_STRM_CFG)
  | .streamGetWrite q _ => some (q, R.REC_STRM_PTR)
  | .fwLevelWrite q n _ => some (q, R.HLT_CTRL_ISL (n % 17))
  | .bankTest q _ => some (q, R.HLT_BIST_CMD)
  | .mbist q _ => some (q, R.HLT_BIST_CMD)
  | .lbist q _ => some (q, R.HLT_BIST_CMD)
  | .session q _ => some (q, R.HLT_BIST_CMD)
  | .verdict q _ => some (q, R.HLT_BIST_VERDICT)
  | .recal q _ _ => some (q, R.HLT_SENS_CMD)
  | .clrmax q _ _ => some (q, R.HLT_SENS_CMD)
  | _ => none

end Sys2Proof.Machine
end

