-- ==== Sys2Proof/Certificates/Slice0/Obligations.lean ====
section
/-!
DEFINITION. The statements for the provers. Where one speaks of a write or a read that a command makes in a page, `State.carries`
says that the access reaches its block; `State.up f` is one more in a count that saturates; `State.evt pg b` is bit b of the page's
PG_EVT_RAW. `Frames` says for every command what it leaves unchanged; the others say what the commands do.
-/

open Sys2Proof Sys2Proof.Machine

/-- A step runs the command at the front of the queue; commands never change the queue themselves. -/
def Obligations.CommandRuns : Prop :=  (∀ (c : Instr) (rest : List Instr) (s : State), step { s with pending := c :: rest } = exec c { s with pending := rest }) ∧
  ∀ c s t, exec c s = .next t → t.pending = s.pending

/-- On an empty queue a tick of the core clock passes: MONO runs on. A model's choice: log entry 2. That an idle step is one
cycle of the core clock is the model's choice (log entry 2). -/
def Obligations.IdleTick : Prop :=  ∀ s : State, s.pending = [] → ∃ t, step s = .next t ∧ t.mono5 = s.mono5 + 8 ∧ t.regs = s.regs ∧ t.mem = s.mem ∧ t.out = s.out ∧
    t.pending = [] ∧ (s.timOn = false → t.tim = s.tim)

/-- The state right after the release of the power-on reset: registers at their reset values, nothing waiting, every island off
but
SYS, the first pair of R353 about to power up, both lines bypassed. That the state is the one at the release of the power-on
reset, with RAM bytes 0, is the model's reading (log entries 4 and 7). -/
def Obligations.ResetState : Prop :=  (∀ q, q ≠ R.SYS_PWR_SEQ 11 → q ≠ R.SYS_PWR_SEQ 13 → q ≠ R.SYS_WAKE_STAT → State.reset.rd q = resetVal q) ∧
  (∀ a, State.reset.rdByte a = 0) ∧ State.reset.pending = [] ∧ State.reset.out = [] ∧ State.reset.regsCanon ∧ State.reset.memCanon ∧
  (∀ n, n < 17 → ∀ pg ∈ pagesOf n, State.reset.rd (R.PG_EVT_EN pg) = 0x90000000 ∧ State.reset.bit (F.PG_CTRL_EN pg) = true ∧
    State.reset.bit (F.PG_LOCK_UNLOCKED pg) = false ∧ State.reset.rd (R.PG_EVT_RAW pg) = 0) ∧
  State.reset.wake.power = .awake ∧ State.reset.bit F.SYS_WAKE_STAT_KA_OK = true ∧ State.reset.pwr.sysOn = true ∧
  (∀ n, n < 17 → n ≠ 0 → State.reset.powered n = false) ∧ State.reset.pwr.waitQ = [13, 11] ∧ State.reset.mono5 = 0 ∧
  State.reset.bypOn .a = true ∧ State.reset.bypOn .b = true ∧ State.reset.physwOn .a = false ∧ State.reset.physwOn .b = false

/-- The status outputs (R432): they are what the state shows. That an output is a function of the state, and the phase of
blinking, are readings of the model (log entry 90). -/
def Obligations.StatusOutputs : Prop :=  (∀ s : State, s.ledPwr = (if s.pwrGood then .on else .off) ∧ s.ledFlt = (if s.faultLow then .on else .off)) ∧
  (∀ l (s : State), (s.pwr.sysOn = false ∨ s.resetRuns = true) → s.ledLine l = .off ∧ s.ledRole = .off) ∧
  (∀ l (s : State), s.pwr.sysOn = true → s.resetRuns = false → (s.bit (F.BL_LINE_STAT_LOCKOUT l) = true ∨ s.mismatch l = true) →
    s.ledLine l = .blink 8) ∧
  (∀ l (s : State), s.pwr.sysOn = true → s.resetRuns = false → s.bit (F.BL_LINE_STAT_LOCKOUT l) = false → s.mismatch l = false →
    s.ledLine l = match s.get (F.BL_LINE_STAT_STATE l) with
      | 2 => .on
      | 1 => .blink 2
      | _ => .off) ∧
  (∀ s : State, s.pwr.sysOn = true → s.resetRuns = false →
    (s.role = 1 ∨ s.role = 4 → s.ledRole = .on) ∧ (s.role = 2 → s.ledRole = .blink (if s.synced then 1 else 4)) ∧
    (s.role = 3 → s.ledRole = .blink 4) ∧ (s.role = 0 → s.ledRole = .off)) ∧
  State.reset.ledPwr = .on ∧ State.reset.ledLine .a = .off ∧ State.reset.ledLine .b = .off ∧ State.reset.ledRole = .off

/-- Every command completes from every state, and what it leaves unchanged: the registers and parts outside its
footprint
(`footOf`, in Safety). -/
def Obligations.Frames : Prop := ∀ i s, ∃ t, exec i s = .next t ∧ Moves (footOf i) s t

/-- Every step keeps the canonical form of the registers and the RAMs. -/
def Obligations.CanonicalContents : Prop :=  ∀ s t, s.regsCanon → s.memCanon → step s = .next t → t.regsCanon ∧ t.memCanon

/-- OTP (R376). -/
def Obligations.OneTimeMemory : Prop :=  ∀ i s t, exec i s = .next t →
    (s.nv.owner.isSome = true → t.nv.owner = s.nv.owner) ∧ (t.nv.owner ≠ s.nv.owner → i = .ownerKey) ∧
    s.nv.svnMin ≤ t.nv.svnMin ∧ (t.nv.svnMin ≠ s.nv.svnMin → i = .svnCommit) ∧ t.nv.serial = s.nv.serial

/-- R32: accesses of unmapped pages, of a requester whose path is up. -/
def Obligations.UnmappedAccesses : Prop :=  (∀ off, 0x110000 ≤ off → off < 0x200000 → mapped off = false) ∧
  ∀ q off write s, s.pathUp q = true → mapped (off / 4 * 4) = false →
    ∃ t, exec (.unmappedAccess q off write) s = .next t ∧ t.evt P.HBR_CTRL 1 = true ∧
      (s.isOn I.REC = true →
        t.evq = s.evq ++ [⟨0x0010, 2, 0, beBytes 1 q.code ++ beBytes 4 (off / 4 * 4), 0⟩]) ∧
      t.out = (if write then s.out else s.out ++ [.readData q (off / 4 * 4) 0xFFFFFFFF]) ∧
      (∀ r, r ≠ R.PG_EVT_RAW P.HBR_CTRL → r ≠ R.HBR_CTRL_LASTERR → r ≠ R.HBR_CTRL_ERRCNT → t.rd r = s.rd r) ∧ t.mem = s.mem

/-- R43: accesses of a page whose island is under test. Every header write rests on `carries`, which holds for header offsets.
-/
def Obligations.PagesUnderTest : Prop :=  (∀ q off s, s.pathUp q = true → mapped (off / 4 * 4) = true → s.reachable (off / 4 * 4) = true → 0x40 ≤ off % 4096 →
    s.bit (F.PG_STAT_BIST_ACTIVE (pageOf off)) = true →
    ∃ t, exec (.pairLowRead q off) s = .next t ∧ t.out = s.out ++ [.readData q (off / 4 * 4) 0]) ∧
  (∀ q off v s, s.pathUp q = true → mapped (off / 4 * 4) = true → s.reachable (off / 4 * 4) = true → 0x40 ≤ off % 4096 →
    s.bit (F.PG_STAT_BIST_ACTIVE (pageOf off)) = true →
    ∃ t, exec (.registerWrite q off v) s = .next t ∧ t.evt (pageOf off) 26 = true ∧ t.mem = s.mem ∧ t.out = s.out ∧
      ∀ r, r ≠ R.PG_EVT_RAW (pageOf off) → r ≠ R.PG_LOCK (pageOf off) → t.rd r = s.rd r) ∧
  (∀ q off s, s.pathUp q = true → mapped (off / 4 * 4) = true → s.reachable (off / 4 * 4) = true → off % 4096 < 0x40 →
    ∃ t, exec (.pairLowRead q off) s = .next t ∧ t.out = s.out ++ [.readData q (off / 4 * 4) (s.headerView (off / 4 * 4))]) ∧
  (∀ q off (s : State), s.pathUp q = true → mapped off = true → s.reachable off = true → off % 4096 < 0x40 → s.carries q off = true) ∧
  ∀ q pg v s, s.pathUp q = true → mapped (pageOf pg) = true → s.reachable (pageOf pg) = true →
    s.bit (F.PG_STAT_BIST_ACTIVE (pageOf pg)) = true →
    ∃ t, exec (.registerWrite q (R.PG_SCRATCH (pageOf pg)) v) s = .next t ∧ t.rd (R.PG_SCRATCH (pageOf pg)) = v

/-- What meets the write that a command makes before it reaches its block (R37, R42, R43, R450): `writesOf` names the requester
and
the register. A write to a lockable register of a page that the requester has not unlocked is dropped with LOCK_VIOL (R45).
Accesses of pages whose island is off (R37), of a requester whose path is up. -/
def Obligations.WritePaths : Prop :=
  ((∀ i q off s, writesOf i = some (q, off) → s.pathUp q = false → exec i s = .next s) ∧
  (∀ i q off s, writesOf i = some (q, off) → s.pathUp q = true → mapped off = true → s.reachable off = false →
    ∃ t, exec i s = .next t ∧ t.get F.SYS_EVT_OFFWR_OFFWR_CNT = s.up F.SYS_EVT_OFFWR_OFFWR_CNT ∧
      t.get F.SYS_EVT_OFFWR_LAST_ISL = islandOf off ∧ t.mem = s.mem ∧ t.out = s.out ∧
      ∀ r, r ≠ R.HBR_CTRL_LASTERR → r ≠ R.SYS_EVT_OFFWR → t.rd r = s.rd r) ∧
  (∀ i q off s, writesOf i = some (q, off) → s.pathUp q = true → mapped off = true → s.reachable off = true → 0x40 ≤ off % 4096 →
    s.bit (F.PG_STAT_BIST_ACTIVE (pageOf off)) = true →
    ∃ t, exec i s = .next t ∧ t.evt (pageOf off) 26 = true ∧ t.mem = s.mem ∧ t.out = s.out ∧
      ∀ r, r ≠ R.PG_EVT_RAW (pageOf off) → r ≠ R.PG_LOCK (pageOf off) → t.rd r = s.rd r) ∧
  ∀ i q off s, writesOf i = some (q, off) → s.pathUp q = true → mapped off = true → s.reachable off = true → 0x40 ≤ off % 4096 →
    s.pageBusy (pageOf off) = false → s.acc.srst.contains (pageOf off) = true →
    ∃ t, exec i s = .next t ∧ t.acc.srstDrop.contains (pageOf off) = true ∧ t.mem = s.mem ∧ t.out = s.out ∧
      ∀ r, r ≠ R.PG_LOCK (pageOf off) → t.rd r = s.rd r) ∧
  (∀ q l n v i off s, (i, off) ∈ [(Instr.forceByp q l v, R.BL_LINE_CMD l), (.clrLockout q l v, R.BL_LINE_CMD l),
      (.retrain q l v, R.BL_LINE_CMD l), (.inaug q v, R.TOP_CMD), (.clrHold q v, R.TOP_CMD), (.bindWrite q v, R.TOP_TBL_CMD),
      (.arm q v, R.TOP_SLOT_ARM), (.flush q v, R.FAB_CTRL_AGE), (.comidWrite q n v, R.CP_CTRL_CDATA (n % 2) 3),
      (.cbdupStreamWrite q v, R.FAB_CBDUP_ID_LO), (.flipRequest q v, R.SGW_CTRL_FLIP), (.cancel q v, R.SGW_CTRL_FLIP),
      (.start q v, R.TIM_BASE_CMD), (.clrFault q v, R.TWN_CTRL_CMD), (.handover q v, R.TWN_CTRL_CMD), (.isolate q v, R.TWN_CTRL_CMD),
      (.rejoin q v, R.TWN_CTRL_CMD), (.admitPartner q v, R.TWN_CTRL_CMD), (.aclEntryWrite q n v, R.PSC_CTRL_ACL_W1 (n % 32)),
      (.releaseWrite q v, R.SYS_SRC_RELEASE), (.srcWrite q n v, R.SYS_CLK_ISL (n % 17)), (.dvfsRequest q n v, R.SYS_PWR_DVFS (n % 3)),
      (.dinCfgWrite q n v, R.SYS_DIN_CFG (n % 4)), (.mgtRestart q v, R.MGT_CTRL_CMD), (.bankTest q v, R.HLT_BIST_CMD),
      (.mbist q v, R.HLT_BIST_CMD), (.lbist q v, R.HLT_BIST_CMD), (.session q v, R.HLT_BIST_CMD)] →
    s.carries q off = true → s.owns q (pageOf off) = false →
    ∃ t, exec i s = .next t ∧ t.evt (pageOf off) 30 = true ∧ t.mem = s.mem ∧ t.out = s.out ∧
      ∀ r, r ≠ R.PG_EVT_RAW (pageOf off) → r ≠ R.PG_LOCK (pageOf off) → t.rd r = s.rd r) ∧
  ((∀ q off v s, s.pathUp q = true → mapped (off / 4 * 4) = true → s.reachable (off / 4 * 4) = false →
    ∃ t, exec (.offIslandAccess q off false v) s = .next t ∧
      t.out = s.out ++ [.readData q (off / 4 * 4) (BitVec.ofNat 32 (0xFFFF0000 + islandOf (off / 4 * 4)))] ∧
      ∀ r, r ≠ R.HBR_CTRL_LASTERR → t.rd r = s.rd r) ∧
  (∀ q off v s, s.pathUp q = true → mapped (off / 4 * 4) = true → s.reachable (off / 4 * 4) = false →
    ∃ t, exec (.offIslandAccess q off true v) s = .next t ∧ t.out = s.out ∧
      t.get F.SYS_EVT_OFFWR_OFFWR_CNT = s.up F.SYS_EVT_OFFWR_OFFWR_CNT ∧
      t.get F.SYS_EVT_OFFWR_LAST_ISL = islandOf (off / 4 * 4) ∧
      (s.isOn I.REC = true →
        t.evq = s.evq ++ [⟨0x0011, 1, subject 6 (islandOf (off / 4 * 4)), beBytes 4 (off / 4 * 4) ++ beBytes 4 v.toNat, 0⟩]) ∧
      ∀ r, r ≠ R.HBR_CTRL_LASTERR → r ≠ R.SYS_EVT_OFFWR → t.rd r = s.rd r) ∧
  ∀ (s : State) (off : Nat), islandOf off = 0 → s.reachable off = true)

/-- The lock of a page (R44, R45). -/
def Obligations.PageLocking : Prop :=  (∀ q pg s, s.pathUp q = true → mapped (pageOf pg) = true → s.reachable (pageOf pg) = true →
    s.bit (F.PG_LOCK_UNLOCKED (pageOf pg)) = false →
    ∃ t, exec (.pageUnlock q pg) s = .next t ∧ t.bit (F.PG_LOCK_UNLOCKED (pageOf pg)) = true ∧
      t.get (F.PG_LOCK_OWNER (pageOf pg)) = q.code ∧ t.get (F.PG_LOCK_REMAIN (pageOf pg)) = 256) ∧
  (∀ q pg s, s.pathUp q = true → mapped (pageOf pg) = true → s.reachable (pageOf pg) = true → s.owns q (pageOf pg) = true →
    ∃ t, exec (.pageUnlock q pg) s = .next t ∧ t.owns q (pageOf pg) = true ∧ t.get (F.PG_LOCK_REMAIN (pageOf pg)) = 256) ∧
  (∀ q pg s, s.pathUp q = true → mapped (pageOf pg) = true → s.reachable (pageOf pg) = true →
    s.bit (F.PG_LOCK_UNLOCKED (pageOf pg)) = true → s.get (F.PG_LOCK_OWNER (pageOf pg)) ≠ q.code →
    ∃ t, exec (.pageUnlock q pg) s = .next t ∧ t.rd (R.PG_LOCK (pageOf pg)) = s.rd (R.PG_LOCK (pageOf pg)) ∧
      t.evt (pageOf pg) 25 = true) ∧
  (∀ q pg v s, s.pathUp q = true → mapped (pageOf pg) = true → s.reachable (pageOf pg) = true → s.owns q (pageOf pg) = true →
    v ≠ 0x0000C0DE →
    ∃ t, exec (.pageRelock q pg v) s = .next t ∧ t.bit (F.PG_LOCK_UNLOCKED (pageOf pg)) = false) ∧
  (∀ q pg v s, s.pathUp q = true → mapped (pageOf pg) = true → s.reachable (pageOf pg) = true → s.owns q (pageOf pg) = false →
    v ≠ 0x0000C0DE →
    ∃ t, exec (.pageRelock q pg v) s = .next t ∧ ∀ r, t.rd r = s.rd r) ∧
  (∀ q pg s, exec (.pageRelock q pg 0x0000C0DE) s = exec (.pageUnlock q pg) s) ∧
  (∀ pg s, ∃ t, exec (.lockTimeout pg) s = .next t ∧ t.bit (F.PG_LOCK_UNLOCKED (pageOf pg)) = false ∧
    ∀ r, r ≠ R.PG_LOCK (pageOf pg) → t.rd r = s.rd r) ∧
  (∀ q pg v s, s.carries q (R.PG_SCRATCH (pageOf pg)) = true → s.owns q (pageOf pg) = true →
    1 < s.get (F.PG_LOCK_REMAIN (pageOf pg)) →
    ∃ t, exec (.registerWrite q (R.PG_SCRATCH (pageOf pg)) v) s = .next t ∧ t.owns q (pageOf pg) = true ∧
      t.get (F.PG_LOCK_REMAIN (pageOf pg)) = s.get (F.PG_LOCK_REMAIN (pageOf pg)) - 1) ∧
  (∀ q pg v s, s.carries q (R.PG_SCRATCH (pageOf pg)) = true → s.owns q (pageOf pg) = true →
    s.get (F.PG_LOCK_REMAIN (pageOf pg)) ≤ 1 →
    ∃ t, exec (.registerWrite q (R.PG_SCRATCH (pageOf pg)) v) s = .next t ∧ t.rd (R.PG_SCRATCH (pageOf pg)) = v ∧
      t.bit (F.PG_LOCK_UNLOCKED (pageOf pg)) = false) ∧
  (∀ q pg v s, s.carries q (R.PG_SCRATCH (pageOf pg)) = true → s.owns q (pageOf pg) = false →
    ∃ t, exec (.registerWrite q (R.PG_SCRATCH (pageOf pg)) v) s = .next t ∧
      t.rd (R.PG_LOCK (pageOf pg)) = s.rd (R.PG_LOCK (pageOf pg))) ∧
  ∀ q pg s, s.carries q (R.PG_SCRATCH (pageOf pg)) = true → s.owns q (pageOf pg) = true →
    1 < s.get (F.PG_LOCK_REMAIN (pageOf pg)) →
    ∃ t, exec (.pairLowRead q (R.PG_SCRATCH (pageOf pg))) s = .next t ∧ t.owns q (pageOf pg) = true ∧
      t.get (F.PG_LOCK_REMAIN (pageOf pg)) = s.get (F.PG_LOCK_REMAIN (pageOf pg)) - 1

/-- Event bits and vectors (R36, R47 to R49, R287). EVENT_AGGREGATE as the arrival of the sums is the model's reading (log entry
45). -/
def Obligations.EventsAndVectors : Prop :=  (∀ q pg v s, s.carries q (pageOf pg + 0x1C) = true →
    ∃ t, exec (.eventForce q pg v) s = .next t ∧
      t.rd (R.PG_EVT_RAW (pageOf pg)) = s.rd (R.PG_EVT_RAW (pageOf pg)) ||| (v &&& 0xFEFFFFFF)) ∧
  (∀ q pg v hw s, s.carries q (R.PG_EVT_RAW (pageOf pg)) = true →
    ∃ t, exec (.eventClear q pg v hw) s = .next t ∧
      t.rd (R.PG_EVT_RAW (pageOf pg)) = (s.rd (R.PG_EVT_RAW (pageOf pg)) &&& ~~~v) ||| (hw &&& 0xFEFFFFFF)) ∧
  (∀ isl s, isl < 17 →
    ∃ t, exec (.eventAggregate isl) s = .next t ∧ t.rd (R.SYS_EVT_PGSUM isl) = BitVec.ofNat 32 (s.pageSum isl) ∧
      t.bit ⟨R.SYS_EVT_ISL, isl, isl⟩ = (s.pageSum isl != 0)) ∧
  (∀ v s, s.carries .host R.SYS_EVT_EOI = true → s.acc.aggHost.getLsbD (v.toNat % 32) = true → s.isOn I.HBR = true →
    s.msixSendable (v.toNat % 32) = true →
    ∃ t, exec (.eoi .host v) s = .next t ∧ t.out = s.out ++ [s.msixMsg (v.toNat % 32)]) ∧
  (∀ q vec v s, s.carries q (R.HBR_MSIX_V_CTRL (vec % 32)) = true → v.getLsbD 0 = true →
    ∃ t, exec (.msixUnmask q vec v) s = .next t ∧ t.bit (F.HBR_MSIX_V_CTRL_MASK (vec % 32)) = true) ∧
  ∀ q vec v s, s.carries q (R.HBR_MSIX_V_CTRL (vec % 32)) = true → v.getLsbD 0 = false → s.bit (pbaFld (vec % 32)) = true →
    (s.putB (F.HBR_MSIX_V_CTRL_MASK (vec % 32)) false).msixSendable (vec % 32) = true →
    ∃ t, exec (.msixUnmask q vec v) s = .next t ∧ s.msixMsg (vec % 32) ∈ t.out ∧ t.bit (pbaFld (vec % 32)) = false

/-- Writes of PG_CTRL: EN, CLKREQ and SRST (R41, R42, R340, R341). Block resets that keep or do more than a plain one (R451,
R453, R454). Clock gates (R340). What a block reset keeps beyond the rules' words is the model's reading (log entry 44). -/
def Obligations.BlockControl : Prop :=
  ((∀ q pg v s, s.carries q (R.PG_CTRL (pageOf pg)) = true → s.owns q (pageOf pg) = true → v.getLsbD 1 = true →
    v.getLsbD 3 = false →
    ∃ t, exec (.blockSrst q pg v) s = .next t ∧ t.acc.srst.contains (pageOf pg) = true ∧
      t.bit (F.PG_STAT_GATED (pageOf pg)) = false ∧
      (pageOf pg ∈ [P.TIM_TS, P.TOP_ETB, P.SGW_MAP, P.SGW_RCP, P.FAB_GATE, P.FAB_POL, P.FAB_CNT] →
        ∀ r, pageOf r = pageOf pg → 0x40 ≤ r % 4096 → t.rd r = resetVal r)) ∧
  (∀ pg s, s.acc.srst.contains (pageOf pg) = true →
    ∃ t, exec (.srstComplete pg) s = .next t ∧ t.acc.srst.contains (pageOf pg) = false ∧
      (s.acc.srstDrop.contains (pageOf pg) = true → t.evt (pageOf pg) 26 = true)) ∧
  (∀ q pg v s, s.carries q (R.PG_CTRL (pageOf pg)) = true → s.owns q (pageOf pg) = true → v.getLsbD 1 = false →
    v.getLsbD 3 = false →
    ∃ t, exec (.blockEnWrite q pg v) s = .next t ∧
      t.bit (F.PG_CTRL_EN (pageOf pg)) = if fixedEn.contains (pageOf pg) then s.bit (F.PG_CTRL_EN (pageOf pg)) else v.getLsbD 0) ∧
  (∀ q pg v s, s.carries q (R.PG_CTRL (pageOf pg)) = true → s.owns q (pageOf pg) = true → v.getLsbD 1 = false →
    v.getLsbD 3 = false → v.getLsbD 2 = false → s.bit (F.PG_CTRL_CLKREQ (pageOf pg)) = true →
    neverGated.contains (pageOf pg) = false →
    ∃ t, exec (.clockGateRequest q pg v) s = .next t ∧ t.bit (F.PG_CTRL_CLKREQ (pageOf pg)) = false ∧
      t.pwr.gateReq.contains (pageOf pg) = true) ∧
  ∀ q pg v s, s.carries q (R.PG_CTRL (pageOf pg)) = true → s.owns q (pageOf pg) = true → v.getLsbD 1 = false →
    v.getLsbD 3 = false → v.getLsbD 2 = true →
    ∃ t, exec (.clockGateOpen q pg v) s = .next t ∧ t.bit (F.PG_CTRL_CLKREQ (pageOf pg)) = true ∧
      t.bit (F.PG_STAT_GATED (pageOf pg)) = false ∧ t.pwr.gateReq.contains (pageOf pg) = false) ∧
  ((∀ q l v s, s.carries q (R.PG_CTRL (P.LINE l)) = true → s.owns q (P.LINE l) = true → v.getLsbD 1 = true →
    v.getLsbD 3 = false →
    ∃ t, exec (.lineSrst q l v) s = .next t ∧ t.acc.srst.contains (P.LINE l) = true ∧ (t.line l).holdoff = false ∧
      (s.lineOpen l = true → (s.line l).seq = .idle → (t.line l).seq = .closing .bypassNoHoldoff) ∧
      ((s.line l).seq = .opening → (s.line l).pendClose = none → (t.line l).pendClose = some .bypassNoHoldoff) ∧
      t.bit (F.BL_LINE_STAT_LOCKOUT l) = false ∧ t.get (F.BL_LINE_STAT_FAIL_CNT l) = 0 ∧
      t.get (F.BL_LINE_CNT_OPEN_CNT l) = 0 ∧ t.mismatch l = s.mismatch l) ∧
  (∀ q p v s, s.carries q (R.PG_CTRL (P.PORT p)) = true → s.owns q (P.PORT p) = true → v.getLsbD 1 = true →
    v.getLsbD 3 = false → s.lineOpen p.line = false →
    ∃ t, exec (.portSrst q p v) s = .next t ∧ t.acc.srst.contains (P.PORT p) = true ∧ (t.port p).ready = false ∧
      t.get (F.BL_LINE_STAT_STATE p.line) = s.get (F.BL_LINE_STAT_STATE p.line) ∧ t.bit (F.BL_P_STAT_LINK p) = false) ∧
  (∀ q p v s, s.carries q (R.PG_CTRL (P.PORT p)) = true → s.owns q (P.PORT p) = true → v.getLsbD 1 = true →
    v.getLsbD 3 = false → s.lineOpen p.line = true →
    ∃ t, exec (.portSrst q p v) s = .next t ∧ t.acc.srst.contains (P.PORT p) = true ∧ t.bit (F.BL_P_STAT_LINK p) = false) ∧
  ∀ q pg v s, s.carries q (R.PG_CTRL (I.REC * 65536 + pg % 3 * 4096)) = true →
    s.owns q (I.REC * 65536 + pg % 3 * 4096) = true → v.getLsbD 1 = true → v.getLsbD 3 = false →
    ∃ t, exec (.recSrst q pg v) s = .next t ∧ t.acc.srst.contains (I.REC * 65536 + pg % 3 * 4096) = true ∧ t.mem = s.mem ∧
      t.evq = s.evq ∧ t.recorder.fifo = s.recorder.fifo ∧ t.recorder.coal = s.recorder.coal ∧
      (pg % 3 = 0 → t.recorder.pdata = []) ∧ (pg % 3 = 1 → t.recorder.cur = [] ∧ t.recorder.snap = []) ∧
      (pg % 3 = 2 → t.bit F.REC_STRM_CFG_EN = false)) ∧
  ((∀ pg s, s.pwr.gateReq.contains (pageOf pg) = true →
    ∃ t, exec (.gated pg) s = .next t ∧ t.bit (F.PG_STAT_GATED (pageOf pg)) = true ∧ t.pwr.gateReq.contains (pageOf pg) = false) ∧
  (∀ pg s, s.pwr.gateReq.contains (pageOf pg) = false →
    exec (.gated pg) s = .next s ∧ exec (.gateRefused pg) s = .next s) ∧
  ∀ pg s, s.pwr.gateReq.contains (pageOf pg) = true →
    ∃ t, exec (.gateRefused pg) s = .next t ∧ t.bit (F.PG_CTRL_CLKREQ (pageOf pg)) = true ∧ t.evt (pageOf pg) 27 = true ∧
      t.pwr.gateReq.contains (pageOf pg) = false)

/-- Plain accesses of registers and pairs (R17, R33, R34, R36, R341). PAIR_LOW_READ as any read and REGISTER_WRITE as any write
are the model's choice (log entries 10, 46, 68). -/
def Obligations.RegisterAccess : Prop :=  (∀ q pg v s, s.carries q (R.PG_SCRATCH (pageOf pg)) = true →
    ∃ t, exec (.registerWrite q (R.PG_SCRATCH (pageOf pg)) v) s = .next t ∧ t.rd (R.PG_SCRATCH (pageOf pg)) = v ∧
      ∀ r, r ≠ R.PG_SCRATCH (pageOf pg) → r ≠ R.PG_LOCK (pageOf pg) → t.rd r = s.rd r) ∧
  (∀ q pg v s, s.carries q (R.PG_EVT_EN (pageOf pg)) = true →
    ∃ t, exec (.registerWrite q (R.PG_EVT_EN (pageOf pg)) v) s = .next t ∧ t.rd (R.PG_EVT_EN (pageOf pg)) = v &&& 0xFEFFFFFF ∧
      ∀ r, r ≠ R.PG_EVT_EN (pageOf pg) → r ≠ R.PG_LOCK (pageOf pg) → t.rd r = s.rd r) ∧
  (∀ q off v r s, s.carries q off = true → s.owns q (pageOf off) = true → off % 4 = 0 → 0x40 ≤ off % 4096 →
    (islandOf off = I.BLA ∨ islandOf off = I.BLB) → off ≠ R.BL_LINE_CMD .a → off ≠ R.BL_LINE_CMD .b →
    isPairHigh off = false → isPairLow off = false → regRow off = some r →
    ∃ t, exec (.registerWrite q off v) s = .next t ∧ t.rd off = (maskIn (s.rd off) (r.rw ||| r.rwl) v &&& ~~~(v &&& r.w1c)) ∧
      ∀ x, x ≠ off → x ≠ R.PG_LOCK (pageOf off) → t.rd x = s.rd x) ∧
  (∀ q off width write s, s.pathUp q = true → mapped off = true → s.reachable off = true →
    ∃ t, exec (.accessError q off width write) s = .next t ∧ t.evt (pageOf off) 31 = true ∧
      t.out = (if write then s.out else s.out ++ [.readError q off (if q = .host then none else some 0xFFFFFFFF)]) ∧
      ∀ r, r ≠ R.PG_EVT_RAW (pageOf off) → r ≠ R.PG_LOCK (pageOf off) → r ≠ R.HBR_CTRL_LASTERR → t.rd r = s.rd r) ∧
  (∀ q off s, s.carries q off = true → off % 4 = 0 → 0x40 ≤ off % 4096 → isPairLow off = true →
    ∃ t, exec (.pairLowRead q off) s = .next t ∧ t.out = s.out ++ [.readData q off (s.regView q off)] ∧
      t.latched q (pageOf off) = some ⟨off + 4, s.regView q (off + 4)⟩) ∧
  (∀ q off v s, s.carries q off = true → off % 4 = 0 → 0x40 ≤ off % 4096 → isPairHigh off = true →
    ∃ t, exec (.pairHighWrite q off v) s = .next t ∧ t.heldWord q (pageOf off) = some ⟨off, v⟩ ∧
      ∀ r, r ≠ R.PG_LOCK (pageOf off) → t.rd r = s.rd r) ∧
  (∀ q m hi lo s, m < 8 → s.carries q (R.HBR_OWIN_LO m) = true → s.bit (F.HBR_OWIN_CFG_EN m) = false →
    s.heldWord q (pageOf (R.HBR_OWIN_LO m)) = some ⟨R.HBR_OWIN_HI m, hi⟩ →
    ∃ t, exec (.pairLowWrite q (R.HBR_OWIN_LO m) lo) s = .next t ∧ t.rd (R.HBR_OWIN_HI m) = hi ∧
      t.rd (R.HBR_OWIN_LO m) = lo &&& 0xFFFFF000) ∧
  ∀ q off s, s.carries q off = true → off % 4 = 0 → 0x40 ≤ off % 4096 → isPairLow off = false → isPairHigh off = false →
    off ≠ R.REC_PORT_POP → s.bit (F.PG_STAT_GATED (pageOf off)) = true →
    ∃ t, exec (.gatedAccess q off false 0) s = .next t ∧ t.out = s.out ++ [.readData q off (s.regView q off)] ∧
      t.bit (F.PG_STAT_GATED (pageOf off)) = true

/-- Switch sequences of a line (R57 to R59, R61, R62, R64). -/
def Obligations.LineSwitching : Prop :=  (∀ l s, s.mayOpen l = true →
    ((s.line l.other).opening = false ∨ (s.lineOpen l.other = true ∧ s.expectedLinked l.other = true)) →
    ∃ t, exec (.lineOpenRequest l) s = .next t ∧ t.bit (F.BL_LINE_STAT_MOVING l) = true ∧ t.reqOpen l = true ∧ t.bypOn l = false ∧
      t.physwOn l = false ∧ t.bit (F.BL_LINE_STAT_WAIT_OTHER l) = false ∧ (t.line l).seq = .opening ∧ (t.line l).opening = true) ∧
  (∀ l s, s.mayOpen l = true → (s.line l.other).opening = true →
    (s.lineOpen l.other = false ∨ s.expectedLinked l.other = false) →
    ∃ t, exec (.lineOpenRequest l) s = .next t ∧ t.bit (F.BL_LINE_STAT_WAIT_OTHER l) = true ∧ t.line l = s.line l ∧
      t.reqOpen l = s.reqOpen l) ∧
  (∀ l s, s.mayOpen l = false →
    ∃ t, exec (.lineOpenRequest l) s = .next t ∧ t.bit (F.BL_LINE_STAT_WAIT_OTHER l) = false ∧ t.line l = s.line l ∧
      t.reqOpen l = s.reqOpen l) ∧
  (∀ l s, (s.line l).seq = .opening → (s.line l).pendClose = none → s.isOn (lineIsland l) = true → s.reqOpen l = true →
    ∃ t, exec (.openingComplete l) s = .next t ∧ t.bypOn l = false ∧ t.physwOn l = true ∧
      t.bit (F.BL_LINE_STAT_MOVING l) = false ∧ t.get (F.BL_LINE_STAT_STATE l) = 1 ∧
      t.get (F.BL_LINE_CNT_OPEN_CNT l) = s.up (F.BL_LINE_CNT_OPEN_CNT l) ∧ t.evt (P.LINE l) 0 = true) ∧
  (∀ l s c, (s.line l).seq = .opening → (s.line l).pendClose = some c →
    ∃ t, exec (.bypassClose l) s = .next t ∧ (t.line l).seq = .closing c ∧ (t.line l).pendClose = none ∧
      (s.isOn (lineIsland l) = true → t.bit (F.BL_LINE_STAT_MOVING l) = true) ∧ t.reqOpen l = false ∧ t.physwOn l = false) ∧
  (∀ l s c d, (s.line l).seq = .closing d → (s.line l).pendClose = some c →
    ∃ t, exec (.bypassClose l) s = .next t ∧ (t.line l).seq = .closing (c.stronger d) ∧ (t.line l).pendClose = none) ∧
  (∀ l s c, (s.line l).seq = .closing c → s.isOn (lineIsland l) = true →
    ∃ t, exec (.closingComplete l) s = .next t ∧ t.bypOn l = true ∧ t.physwOn l = false ∧ (t.line l).seq = .idle ∧
      t.bit (F.BL_LINE_STAT_MOVING l) = false ∧
      t.get (F.BL_LINE_STAT_STATE l) = (if s.closeCause l c = .nightfall ∨ s.closeCause l c = .failsafe then 3 else 0) ∧
      t.get (F.BL_LINE_STAT_CAUSE l) = (if s.closeCause l c = .nightfall then 1 else if s.closeCause l c = .failsafe then 2 else 0) ∧
      t.evt (P.LINE l) 0 = true) ∧
  (∀ l s c, (s.line l).seq = .closing c → s.isOn (lineIsland l) = false →
    ∃ t, exec (.closingComplete l) s = .next t ∧ t.bypOn l = true ∧ t.physwOn l = false ∧ (t.line l).seq = .idle) ∧
  (∀ l s, s.renews l = false → (s.physwOn l = true ∨ (s.line l).seq = .opening) →
    ∃ t, exec (.bypWdog l) s = .next t ∧ t.reqOpen l = false ∧ t.physwOn l = false ∧
      (t.line l).seq = .closing (s.closeCause l .bypass) ∧
      t.get (wdogFld l) = s.up (wdogFld l) ∧ t.evt P.SYS_BYP l.idx = true) ∧
  (∀ l s, s.renews l = true → exec (.bypWdog l) s = .next s) ∧
  (∀ l s, ∃ t, exec (.bypMismatch l) s = .next t ∧ t.mismatch l = true ∧ t.reqOpen l = false ∧ t.physwOn l = false ∧
      (t.line l).mmHold = true ∧ t.evt P.SYS_BYP (2 + l.idx) = true ∧
      ((s.physwOn l = true ∨ (s.line l).seq ≠ .idle) → (t.line l).seq = .closing (s.closeCause l .bypass))) ∧
  ∀ l s, ∃ t, exec (.holdoffElapsed l) s = .next t ∧ (t.line l).holdoff = false ∧ (t.line l).seq = (s.line l).seq ∧
      t.line l.other = s.line l.other

/-- Commands and supervision of a line (R53, R57, R59, R61, R63, R65). Links of a backbone port (R52, R70, R73, R75). -/
def Obligations.LineCommandsAndSupervision : Prop :=
  ((∀ q l v s, s.carries q (R.BL_LINE_CMD l) = true → s.owns q (P.LINE l) = true → v.getLsbD 0 = true →
    (s.line l).seq = .idle → s.lineOpen l = true →
    ∃ t, exec (.forceByp q l v) s = .next t ∧ t.bit (F.BL_LINE_CMD_FORCE_BYP l) = true ∧ t.reqOpen l = false ∧
      t.physwOn l = false ∧ t.bit (F.BL_LINE_STAT_MOVING l) = true ∧ (t.line l).seq = .closing .bypass) ∧
  (∀ q l v s, s.carries q (R.BL_LINE_CMD l) = true → s.owns q (P.LINE l) = true → v.getLsbD 0 = true →
    (s.line l).seq ≠ .idle →
    ∃ t, exec (.forceByp q l v) s = .next t ∧ t.bit (F.BL_LINE_CMD_FORCE_BYP l) = true ∧ (t.line l).pendClose.isSome = true) ∧
  (∀ q l v s, s.carries q (R.BL_LINE_CMD l) = true → s.owns q (P.LINE l) = true → v.getLsbD 0 = true →
    (s.line l).seq = .idle → s.lineOpen l = false →
    ∃ t, exec (.forceByp q l v) s = .next t ∧ t.bit (F.BL_LINE_CMD_FORCE_BYP l) = true ∧ (t.line l).seq = .idle) ∧
  (∀ q l v s, s.carries q (R.BL_LINE_CMD l) = true → s.owns q (P.LINE l) = true → v.getLsbD 0 = false →
    ∃ t, exec (.forceByp q l v) s = .next t ∧ t.bit (F.BL_LINE_CMD_FORCE_BYP l) = false ∧ (t.line l).seq = (s.line l).seq ∧
      (t.line l).pendClose = (s.line l).pendClose) ∧
  (∀ q l v s, s.carries q (R.BL_LINE_CMD l) = true → s.owns q (P.LINE l) = true → v.getLsbD 2 = true →
    ∃ t, exec (.clrLockout q l v) s = .next t ∧ t.bit (F.BL_LINE_STAT_LOCKOUT l) = false ∧
      t.get (F.BL_LINE_STAT_FAIL_CNT l) = 0 ∧ t.mismatch l = false ∧ (t.line l).mmHold = false) ∧
  (∀ q l v s, s.carries q (R.BL_LINE_CMD l) = true → s.owns q (P.LINE l) = true → v.getLsbD 1 = true → s.lineOpen l = true →
    ∃ t, exec (.retrain q l v) s = .next t ∧ t.bit (F.BL_P_STAT_LINK (l.port false)) = false ∧
      t.bit (F.BL_P_STAT_LINK (l.port true)) = false ∧ (t.port (l.port false)).restricted = none ∧
      (t.port (l.port true)).restricted = none) ∧
  (∀ l s, s.lineOpen l = true → s.expectedLinked l = false → (s.line l).seq = .idle →
    ∃ t, exec (.trainFail l) s = .next t ∧
      t.get (F.BL_LINE_STAT_FAIL_CNT l) = s.up (F.BL_LINE_STAT_FAIL_CNT l) ∧
      t.get (F.BL_LINE_CNT_TRAIN_FAIL_CNT l) = s.up (F.BL_LINE_CNT_TRAIN_FAIL_CNT l) ∧
      t.evt (P.LINE l) 1 = true ∧ t.reqOpen l = false ∧ t.physwOn l = false ∧ (t.line l).seq = .closing .bypass ∧
      (t.line l).opening = false ∧
      (s.get (F.BL_LINE_CFG_RETRY l) ≠ 0 → s.get (F.BL_LINE_CFG_RETRY l) ≤ s.up (F.BL_LINE_STAT_FAIL_CNT l) →
        t.bit (F.BL_LINE_STAT_LOCKOUT l) = true ∧ t.evt (P.LINE l) 3 = true)) ∧
  (∀ l s, (s.lineOpen l = false ∨ s.expectedLinked l = true) →
    ∃ t, exec (.trainFail l) s = .next t ∧ t.get (F.BL_LINE_STAT_FAIL_CNT l) = s.get (F.BL_LINE_STAT_FAIL_CNT l) ∧
      (t.line l).seq = (s.line l).seq) ∧
  (∀ l s, s.lineOpen l = true → s.expectedLinked l = true →
    ∃ t, exec (.failCntClear l) s = .next t ∧ t.get (F.BL_LINE_STAT_FAIL_CNT l) = 0) ∧
  (∀ l fab top s, s.isOn (lineIsland l) = true → (fab && top) = false → s.get (F.BL_LINE_STAT_STATE l) ≠ 3 →
    ∃ t, exec (.failsafe l fab top) s = .next t ∧ t.bit (F.BL_LINE_STAT_KA_FAB l) = fab ∧
      t.bit (F.BL_LINE_STAT_KA_TOP l) = top ∧
      t.get (F.BL_LINE_CNT_FAILSAFE_CNT l) = s.up (F.BL_LINE_CNT_FAILSAFE_CNT l) ∧
      t.evt (P.LINE l) 2 = true ∧
      ((s.line l).seq = .idle → s.lineOpen l = true → (t.line l).seq = .closing .failsafe ∧ t.reqOpen l = false) ∧
      ((s.line l).seq = .idle → s.lineOpen l = false →
        t.get (F.BL_LINE_STAT_STATE l) = 3 ∧ t.get (F.BL_LINE_STAT_CAUSE l) = 2) ∧
      ((s.line l).seq ≠ .idle → (t.line l).pendClose.isSome = true)) ∧
  (∀ l s, s.isOn (lineIsland l) = true →
    ∃ t, exec (.failsafe l true true) s = .next t ∧ t.bit (F.BL_LINE_STAT_KA_FAB l) = true ∧
      t.bit (F.BL_LINE_STAT_KA_TOP l) = true ∧ ∀ r, r ≠ R.BL_LINE_STAT l → t.rd r = s.rd r) ∧
  ∀ l s, s.isOn (lineIsland l) = true → s.get (F.BL_LINE_STAT_STATE l) = 3 → s.get (F.BL_LINE_STAT_CAUSE l) = 2 →
    ∃ t, exec (.failsafeRecover l) s = .next t ∧ t.get (F.BL_LINE_STAT_STATE l) = 0 ∧ t.get (F.BL_LINE_STAT_CAUSE l) = 0 ∧
      t.bit (F.BL_LINE_STAT_KA_FAB l) = true ∧ t.bit (F.BL_LINE_STAT_KA_TOP l) = true ∧ t.evt (P.LINE l) 0 = true) ∧
  ((∀ p rate rx tx m s, s.lineOpen p.line = true → s.bit (F.BL_P_STAT_LINK p) = false → s.txOff p = false →
    rate ≤ s.advertised p → rate < 4 →
    (s.isOn I.TOP = false ∨ ((s.port p).flaps.filter fun t =>
      decide (s.mono < t + max 1 (s.get F.TOP_CFG_FLAP_WIN) * 1000000000)).length + 1 < max 2 (s.get F.TOP_CFG_FLAP_N)) →
    ∃ t, exec (.portLinkUp p rate rx tx m) s = .next t ∧ t.bit (F.BL_P_STAT_LINK p) = true ∧ t.bit (F.BL_P_STAT_MASTER p) = m ∧
      t.get (F.BL_P_STAT_RATE p) = rate ∧ t.get (F.BL_P_STAT_TSTATE p) = 2 ∧
      t.get (F.BL_P_STAT_LINK_CHG p) = s.up (F.BL_P_STAT_LINK_CHG p) ∧
      t.rd (R.BL_P_LAT p) = BitVec.ofNat 32 (rx % 65536 * 65536 + tx % 65536) ∧ t.evt (P.PORT p) 0 = true ∧
      (t.port p).prevLat = some (rx, tx)) ∧
  (∀ p rate rx tx m s, s.lineOpen p.line = true → s.bit (F.BL_P_STAT_LINK p) = false → s.txOff p = false →
    rate ≤ s.advertised p → s.isOn I.TOP = true →
    max 2 (s.get F.TOP_CFG_FLAP_N) ≤ ((s.port p).flaps.filter fun t =>
      decide (s.mono < t + max 1 (s.get F.TOP_CFG_FLAP_WIN) * 1000000000)).length + 1 →
    ∃ t, exec (.portLinkUp p rate rx tx m) s = .next t ∧ t.bit (heldFld p) = true ∧ t.bit (F.BL_P_STAT_LINK p) = false ∧
      t.get (F.BL_P_STAT_TSTATE p) = 0 ∧ t.evt P.TOP_INAUG 9 = true) ∧
  (∀ p s, s.bit (F.BL_P_STAT_LINK p) = true →
    ∃ t, exec (.portLinkDown p) s = .next t ∧ t.bit (F.BL_P_STAT_LINK p) = false ∧ t.rd (R.BL_P_LAT p) = 0 ∧
      t.get (F.BL_P_STAT_LINK_CHG p) = s.up (F.BL_P_STAT_LINK_CHG p) ∧ t.evt (P.PORT p) 0 = true) ∧
  ∀ p s, s.bit (heldFld p) = true →
    ∃ t, exec (.flapHoldEnd p) s = .next t ∧ t.bit (heldFld p) = false ∧ (t.port p).flaps = [] ∧
      (s.lineOpen p.line = true → s.bit (isoFld p) = false → t.get (F.BL_P_STAT_TSTATE p) = 1))

/-- The triggers that commands bring, CLR_HOLD, and inhibition (R73, R75, R80, R103, R104, R107). In ETB mode a carried write of
ETB_CTRL shows INHIBIT, and INHIBITED follows it (the model's reading, log entry 63). -/
def Obligations.InaugurationTriggers : Prop :=  (∀ q v s, s.carries q R.TOP_CMD = true → s.owns q P.TOP_INAUG = true → v.getLsbD 0 = true →
    s.isOn I.TOP = true → s.etb = false → s.phase = 0 →
    ∃ t, exec (.inaug q v) s = .next t ∧ t.phase = 1 ∧ t.shadowEpoch = epochSucc s.lastKnown % 65536 ∧ t.get F.TOP_LAST_TRIG = 4) ∧
  (∀ q v s, s.carries q R.TOP_CMD = true → s.owns q P.TOP_INAUG = true → v.getLsbD 0 = true →
    s.isOn I.TOP = true → s.etb = false → s.phase ≠ 0 → s.awaitsFlip = false → s.top.waved = true →
    ∃ t, exec (.inaug q v) s = .next t ∧ t.phase = 1 ∧ t.shadowEpoch = epochSucc s.shadowEpoch % 65536 ∧
      t.get F.TOP_LAST_TRIG = 4 ∧ t.get F.TOP_CNT_ABORTS = s.up F.TOP_CNT_ABORTS ∧ t.evt P.TOP_INAUG 1 = true) ∧
  (∀ q v s, s.carries q R.TOP_CMD = true → s.owns q P.TOP_INAUG = true → v.getLsbD 0 = true →
    s.isOn I.TOP = true → s.etb = false → s.phase ≠ 0 → s.awaitsFlip = true →
    ∃ t, exec (.inaug q v) s = .next t ∧ t.phase = s.phase ∧ t.shadowEpoch = s.shadowEpoch ∧ t.top.heldTrig.isSome = true) ∧
  (∀ q v s, s.carries q R.TOP_CMD = true → s.owns q P.TOP_INAUG = true → v.getLsbD 1 = true →
    ∃ t, exec (.clrHold q v) s = .next t ∧ ∀ p, t.bit (heldFld p) = false ∧ (t.port p).flaps = []) ∧
  (∀ s, s.isOn I.TOP = true → s.etb = false → s.phase = 0 →
    ((s.node = 2 ∧ 3 ≤ s.top.watch1.silent ∧ s.top.watch1.taken = false) ∨
      (s.node ≠ 0 ∧ s.node + 1 = s.get F.TOP_COUNT_NODES ∧ 3 ≤ s.top.watchN.silent ∧ s.top.watchN.taken = false)) →
    ∃ t, exec .lanternLossTrigger s = .next t ∧ t.phase = 1 ∧ t.shadowEpoch = epochSucc s.lastKnown % 65536 ∧
      t.get F.TOP_LAST_TRIG = 3 ∧ (s.node = 2 → 3 ≤ s.top.watch1.silent → t.top.watch1.taken = true) ∧
      (s.node ≠ 0 → s.node + 1 = s.get F.TOP_COUNT_NODES → 3 ≤ s.top.watchN.silent → t.top.watchN.taken = true)) ∧
  ∀ q v s, s.carries q R.TOP_ETB_CTRL = true → s.etb = true →
    ∃ t, exec (.inhibit q v) s = .next t ∧ t.bit F.TOP_ETB_CTRL_INHIBIT = v.getLsbD 1 ∧
      t.bit F.TOP_ETB_STAT_INHIBITED = v.getLsbD 1 ∧ t.etb = true

/-- The count wave (R77, R79, R81, R82, R84). Frames that are not used are the model's reading where the rules are silent (log
entries 47, 48). -/
def Obligations.CountWave : Prop :=  (∀ p f s, nfCrcOk f = true → s.topAccept p f = .current → f.beam = false → s.top.reqOut.contains p.opposite = false →
    ∃ t, exec (.request p f) s = .next t ∧ t.top.reqOut = p.opposite :: s.top.reqOut) ∧
  (∀ p f s, nfCrcOk f = true → s.topAccept p f = .current → (f.beam = true ∨ s.top.reqOut.contains p.opposite = true) →
    exec (.request p f) s = .next s) ∧
  (∀ p f s, nfCrcOk f = true → s.topAccept p f = .later →
    ∃ t, exec (.request p f) s = .next t ∧ t.phase = 1 ∧ t.shadowEpoch = f.epoch % 65536 ∧ t.get F.TOP_LAST_TRIG = 5) ∧
  (∀ p f s, nfCrcOk f = true → (s.topAccept p f = .current ∨ s.topAccept p f = .later) →
    ∃ t, exec (.join p f) s = .next t ∧ (t.view p).joined = true) ∧
  (∀ p f s, nfCrcOk f = true → s.topAccept p f = .current →
    ∃ t, exec (.ident p f) s = .next t ∧ (t.view p).idents = (s.view p).idents ++ [identOf f.payload] ∧ t.top.waved = true) ∧
  (∀ p f s, nfCrcOk f = true → s.topAccept p f = .later →
    ∃ t, exec (.ident p f) s = .next t ∧ (t.view p).idents = [identOf f.payload] ∧ t.top.waved = true ∧ t.phase = 1) ∧
  (∀ p f s, nfCrcOk f = true → s.topAccept p f = .current →
    ∃ t, exec (.xident p f) s = .next t ∧ (t.view p).xidents = (s.view p).xidents ++ [identOf f.payload]) ∧
  (∀ p f s, nfCrcOk f = true → (s.topAccept p f = .current ∨ s.topAccept p f = .later) →
    ∃ t, exec (.xend p f) s = .next t ∧ (t.view p).xend = true) ∧
  (∀ p f s, nfCrcOk f = true → s.topAccept p f = .drop →
    exec (.request p f) s = .next s ∧ exec (.join p f) s = .next s ∧ exec (.ident p f) s = .next s ∧
      exec (.xident p f) s = .next s ∧ exec (.xend p f) s = .next s) ∧
  ∀ p s, s.phase = 1 → s.linked p = true → (s.view p).joined = false → (s.view p).isEnd = false →
    ∃ t, exec (.silent p) s = .next t ∧ (t.view p).isEnd = true ∧ (t.view p).silent = true ∧ t.evt P.TOP_INAUG 8 = true

/-- The numbering, READY and COMMIT (R85, R87, R89 to R93, R95). -/
def Obligations.NumberingAndCommit : Prop :=  (∀ s, s.isOn I.TOP = true → (s.phase = 1 ∨ s.phase = 2) → s.viewComplete = true → s.union.1.length ≤ 1024 → s.top.kept = none →
    ∃ t, exec .numbering s = .next t ∧ t.phase = 3 ∧ t.top.shadow.isSome = true ∧ t.shadowEpoch = s.shadowEpoch) ∧
  (∀ s, s.isOn I.TOP = true → (s.phase = 1 ∨ s.phase = 2) → s.viewComplete = true → 1024 < s.union.1.length →
    ∃ t, exec .numbering s = .next t ∧ t.phase = 0 ∧ t.evt P.TOP_INAUG 3 = true ∧ t.epoch = s.epoch) ∧
  (∀ p f s, nfCrcOk f = true → (s.topAccept p f = .current ∨ s.topAccept p f = .later) →
    ∃ t, exec (.ready p f) s = .next t ∧ t.top.readySeen = true) ∧
  (∀ lead s n, s.isOn I.TOP = true → s.phase = 3 → s.top.shadow = some n → n.node = 1 → s.top.acted = none →
    (s.top.readySeen = true ∨ n.nodes = 1) →
    ∃ t, exec (.commitInsert lead) s = .next t ∧
      if s.isNull n = true then t.phase = 0 ∧ t.get F.TOP_CNT_NULLS = s.up F.TOP_CNT_NULLS ∧ t.epoch = s.epoch
      else t.phase = 4 ∧ t.top.flipAt = .cycle ((s.cycle + (if s.ctlDirs.isEmpty then 2 else 1)) % 2 ^ 32)) ∧
  (∀ p f s n, nfCrcOk f = true → s.topAccept p f = .current → s.phase = 3 → s.top.shadow = some n → s.top.acted = none →
    (commitOf f.payload).digest = n.digest → (commitOf f.payload).null = false →
    ∃ t, exec (.commit p f) s = .next t ∧ t.phase = 4 ∧ t.top.acted = some (commitOf f.payload) ∧ t.top.digestMiss = false) ∧
  (∀ p f s n, nfCrcOk f = true → s.topAccept p f = .current → s.phase = 3 → s.top.shadow = some n → s.top.acted = none →
    (commitOf f.payload).digest ≠ n.digest →
    ∃ t, exec (.commit p f) s = .next t ∧ t.phase = 4 ∧ t.top.digestMiss = true ∧ t.evt P.TOP_INAUG 6 = true) ∧
  (∀ p f s, nfCrcOk f = true → s.topAccept p f = .current → s.phase < 3 → s.top.kept = none →
    ∃ t, exec (.commit p f) s = .next t ∧ t.phase = s.phase ∧ t.top.kept = some (commitOf f.payload, s.mono)) ∧
  ∀ s, s.isOn I.TOP = true → s.phase = 3 → s.top.acted = none → s.etb = false →
    ∃ t, exec .commitMiss s = .next t ∧ t.evt P.TOP_INAUG 7 = true ∧ t.phase = 1 ∧ t.get F.TOP_LAST_TRIG = 6

/-- The flip, the end of the grace, the cycle boundary, and ETB compatibility mode (R93, R94, R96, R100, R107, R108, R452). The
bind table's command (R98, R102). The order of acts within a boundary is the model's reading (log entries 47, 49). -/
def Obligations.FlipAndBoundary : Prop :=
  ((∀ s, s.flipReady = true → (s.kReached = true ∨ s.top.flipAt = .lead) →
    ∃ t, exec .flip s = .next t ∧ t.epoch = s.shadowEpoch ∧ t.get F.TOP_EPOCH_PREV = s.epoch ∧
      t.get F.TOP_CNT_COMMITS = s.up F.TOP_CNT_COMMITS ∧ t.evt P.TOP_INAUG 0 = true ∧
      (s.top.digestMiss = false → s.top.heldTrig = none → s.top.heldFrames = [] → t.phase = 0) ∧
      (s.top.digestMiss = true → s.etb = false → t.node = 0 ∧ t.phase = 1 ∧ t.get F.TOP_LAST_TRIG = 6)) ∧
  (∀ s, s.kReached = false → s.top.flipAt ≠ .lead → exec .flip s = .next s) ∧
  (∀ s t0 n, s.isOn I.TOP = true → s.top.etbGrace = some (t0, n) → s.etbLeft t0 n = 0 →
    ∃ t, exec .graceEnd s = .next t ∧ t.get F.TOP_SHADOW_GRACE = 0 ∧ t.top.etbGrace = none) ∧
  (∀ s, s.top.etbGrace = none → exec .graceEnd s = .next s) ∧
  (∀ claimLow canWake s, s.isOn I.TOP = true → s.hlt.session = false → s.hlt.abortDue = false →
    ∃ t, exec (.cycleBoundary claimLow canWake) s = .next t ∧ t.rd R.TOP_SLOT_CYCNT = s.rd R.TOP_SLOT_CYCNT + 1) ∧
  (∀ topo own nodes s, s.isOn I.TOP = true → s.etb = true → s.bit F.TOP_ETB_STAT_INHIBITED = false →
    ∃ t, exec (.ttdpTopologyChange topo own nodes) s = .next t ∧ t.phase = 4 ∧ t.top.flipAt = .boundary ∧
      t.rd R.TOP_ETB_TOPO = BitVec.ofNat 32 topo ∧ t.bit F.TOP_ETB_STAT_VALID = true ∧ t.evt P.TOP_ETB 0 = true) ∧
  ∀ topo own nodes s, s.bit F.TOP_ETB_STAT_INHIBITED = true →
    exec (.ttdpTopologyChange topo own nodes) s = .next s) ∧
  ((∀ q v s, s.carries q R.TOP_TBL_CMD = true → s.owns q P.TOP_TABLE = true → v.getLsbD 0 = true → s.get F.TOP_TBL_SEL_TABLE = 3 →
    s.phase ≠ 0 →
    ∃ t, exec (.bindWrite q v) s = .next t ∧ t.evt P.TOP_TABLE 0 = true ∧ t.mem = s.mem) ∧
  (∀ q v s, s.carries q R.TOP_TBL_CMD = true → s.owns q P.TOP_TABLE = true → v.getLsbD 0 = true → s.get F.TOP_TBL_SEL_TABLE = 3 →
    s.phase = 0 →
    ∃ t, exec (.bindWrite q v) s = .next t ∧ t.rdBytes (bindAddr (s.get F.TOP_TBL_SEL_INDEX)) 9 =
      ((List.range 3).flatMap fun n => beBytes 4 (s.rd (R.TOP_TBL_DATA n)).toNat).take 9) ∧
  ∀ q v s, s.carries q R.TOP_TBL_CMD = true → s.owns q P.TOP_TABLE = true →
    (v.getLsbD 0 = false ∨ s.get F.TOP_TBL_SEL_TABLE ≠ 3) →
    ∃ t, exec (.bindWrite q v) s = .next t ∧ t.mem = s.mem ∧ ∀ r, r ≠ R.PG_LOCK P.TOP_TABLE → t.rd r = s.rd r)

/-- Windows, markers and probes (R114 to R118, R126, R128, R131 to R134). Arming the pending values (R110, R124). That values
written after ARM are taken is the model's reading (log entry 50). -/
def Obligations.MarkersAndProbes : Prop :=
  ((∀ x intrude guardErr s, s.windowRuns x = true → (s.beamRefresh x.line).originates x = true →
    ∃ t, exec (.windowOpen x intrude guardErr) s = .next t ∧
      .beam x (some 0) (mkBeam 1 x s.node (markerData s.cycle s.epoch (s.segment x) (s.rd R.TOP_SLOT_DIGEST))) ∈ t.out) ∧
  (∀ x intrude b s, s.windowRuns x = true →
    ∃ t, exec (.windowOpen x intrude (some b)) s = .next t ∧
      t.get (F.BL_BEAM_EVCNT_GUARD_ERR x.line) = s.up (F.BL_BEAM_EVCNT_GUARD_ERR x.line) ∧ t.evt (P.BEAM x.line) 4 = true) ∧
  (∀ x b guardErr s, s.windowRuns x = true → (s.beamRefresh x.line).mayInsert x = true →
    ∃ t, exec (.windowOpen x (some b) guardErr) s = .next t ∧
      t.get (F.BL_BEAM_EVCNT_INTRUDE x.line) = s.up (F.BL_BEAM_EVCNT_INTRUDE x.line) ∧ t.evt (P.BEAM x.line) 3 = true) ∧
  (∀ x f e intrude guardErr s, s.windowRuns x = true → (s.beamRefresh x.line).mayInsert x = true →
    (s.beamRefresh x.line).ctlSlot x = some e → s.beam.ctl = [(x, f)] → frameBlocks f ≤ e.width →
    ∃ t, exec (.windowOpen x intrude guardErr) s = .next t ∧ .beam x (some e.pos) (mkBeam 0 x s.node (nfBytes f)) ∈ t.out ∧
      t.beam.ctl = []) ∧
  (∀ x intrude guardErr s, s.windowRuns x = false → exec (.windowOpen x intrude guardErr) s = .next s) ∧
  (∀ x arrival (b : BeamFrame) s, s.windowRuns x = true → s.bit (F.BL_P_STAT_LINK x.opposite) = true →
    beamHeaderOk b = true → beamCrcOk b = true →
    b.kld / 16 = kldOf 1 x / 16 → (s.dir x).run = 0 → s.originates x = false →
    ∃ t, exec (.marker x arrival b.head b.hchk b.data b.fcs) s = .next t ∧ (t.dir x).run = 1 ∧ (t.dir x).misses = 0) ∧
  (∀ x arrival (b : BeamFrame) s, s.windowRuns x = true → s.bit (F.BL_P_STAT_LINK x.opposite) = true →
    beamHeaderOk b = true → beamCrcOk b = true →
    b.kld / 16 = kldOf 1 x / 16 → ((s.dir x).run ≠ 0 ∨ s.originates x = true) → (s.deviation x arrival).natAbs ≤ s.track x.line →
    ∃ t, exec (.marker x arrival b.head b.hchk b.data b.fcs) s = .next t ∧ (t.dir x).run = 2 ∧ (t.dir x).misses = 0) ∧
  (∀ x arrival (b : BeamFrame) s, s.windowRuns x = true → s.bit (F.BL_P_STAT_LINK x.opposite) = true →
    beamHeaderOk b = true → beamCrcOk b = true →
    b.kld / 16 = kldOf 1 x / 16 → ((s.dir x).run ≠ 0 ∨ s.originates x = true) → s.track x.line < (s.deviation x arrival).natAbs →
    ∃ t, exec (.marker x arrival b.head b.hchk b.data b.fcs) s = .next t ∧ (t.dir x).run = 1 ∧ (t.dir x).hold = 2 ∧
      t.get (F.BL_BEAM_EVCNT_STEP x.line) = s.up (F.BL_BEAM_EVCNT_STEP x.line) ∧ t.evt (P.BEAM x.line) 2 = true) ∧
  (∀ x arrival (b : BeamFrame) s, s.windowRuns x = true → s.bit (F.BL_P_STAT_LINK x.opposite) = true → beamHeaderOk b = false →
    ∃ t, exec (.marker x arrival b.head b.hchk b.data b.fcs) s = .next t ∧
      t.get (F.BL_BEAM_ERR_HCHK_ERR x.line) = s.up (F.BL_BEAM_ERR_HCHK_ERR x.line) ∧
      (s.originates x = false → t.get (F.BL_BEAM_EVCNT_MISS x.line) = s.up (F.BL_BEAM_EVCNT_MISS x.line))) ∧
  (∀ x guardErr s, s.windowRuns x = true → s.originates x = false →
    ∃ t, exec (.markerMissing x guardErr) s = .next t ∧
      t.get (F.BL_BEAM_EVCNT_MISS x.line) = s.up (F.BL_BEAM_EVCNT_MISS x.line) ∧
      ((s.dir x).misses + 1 < s.missMax x.line → (s.dir x).misses < 15 → (t.dir x).misses = (s.dir x).misses + 1) ∧
      (s.missMax x.line ≤ min 15 ((s.dir x).misses + 1) → (t.dir x).run = 0 ∧
        (s.locked115 x = true → t.originates x = false → t.evt (P.BEAM x.line) 0 = true))) ∧
  (∀ p tTx s, s.linked p = true → (s.beam.probe p).wait = 0 →
    ∃ t, exec (.probeSend p tTx) s = .next t ∧ t.out = s.out ++
      [.beam p none (mkBeam 2 p s.node (probeData tTx ((s.beam.probe p).last.getD (0, 0)).1 ((s.beam.probe p).last.getD (0, 0)).2
        (s.probeCum p)))] ∧
      (t.beam.probe p).wait = max 1 (s.get (F.BL_BEAM_CFG_DLY_PER p.line))) ∧
  (∀ p tTx s, (s.linked p = false ∨ (s.beam.probe p).wait ≠ 0) → exec (.probeSend p tTx) s = .next s) ∧
  (∀ p tRx (b : BeamFrame) s, s.linked p = true → beamHeaderOk b = true → beamCrcOk b = true → beamKind b = 2 →
    ∃ t, exec (.probe p tRx b.head b.hchk b.data b.fcs) s = .next t ∧ (t.beam.probe p).last = some (beamNum b 0 8, tRx) ∧
      (beamNum b 8 8 ≠ 0 → (t.beam.probe p).delays =
        ((((tRx : Int) - beamNum b 8 8) - ((beamNum b 0 8 : Int) - beamNum b 16 8)) :: (s.beam.probe p).delays).take 4)) ∧
  (∀ p tRx (b : BeamFrame) s, s.linked p = true → beamHeaderOk b = false →
    ∃ t, exec (.probe p tRx b.head b.hchk b.data b.fcs) s = .next t ∧
      t.get (F.BL_BEAM_ERR_HCHK_ERR p.line) = s.up (F.BL_BEAM_ERR_HCHK_ERR p.line) ∧ t.beam = s.beam) ∧
  ∀ p tRx (b : BeamFrame) s, s.linked p = true → beamHeaderOk b = true → beamCrcOk b = false →
    ∃ t, exec (.probe p tRx b.head b.hchk b.data b.fcs) s = .next t ∧
      t.get (F.BL_BEAM_ERR_CRC_ERR p.line) = s.up (F.BL_BEAM_ERR_CRC_ERR p.line) ∧ t.beam = s.beam) ∧
  ((∀ q v s, s.carries q R.TOP_SLOT_ARM = true → s.owns q P.TOP_SLOT = true → v.getLsbD 0 = true →
    laterThan 32 (s.get F.TOP_SLOT_APPLY_K_K) s.cycle = true →
    ∃ t, exec (.arm q v) s = .next t ∧ t.rd R.TOP_SLOT_ARM = 1 ∧
      (s.epoch ≠ 0 → t.beam.armed =
        some (s.allocate 0 (s.get F.TOP_COUNT_NODES) (s.rd R.TOP_SLOT_CYC) (s.rd R.TOP_SLOT_LAYOUT)))) ∧
  (∀ q v s, s.carries q R.TOP_SLOT_ARM = true → s.owns q P.TOP_SLOT = true → v.getLsbD 0 = true →
    laterThan 32 (s.get F.TOP_SLOT_APPLY_K_K) s.cycle = false →
    ∃ t, exec (.arm q v) s = .next t ∧ t.rd R.TOP_SLOT_ARM = s.rd R.TOP_SLOT_ARM ∧ t.evt P.TOP_SLOT 5 = true) ∧
  (∀ q v s, s.carries q R.TOP_SLOT_ARM = true → s.owns q P.TOP_SLOT = true → v.getLsbD 0 = false →
    ∃ t, exec (.arm q v) s = .next t ∧ t.rd R.TOP_SLOT_ARM = 0 ∧ t.beam.armed = none))

/-- Native frames, beam frames and duplicate discard (R67, R68, R133, R140, R142, R148). Crossings between islands belong to one
step (the model's choice, log entry 66). -/
def Obligations.NativeFrames : Prop :=  (∀ p pcp f fcsOk claimLow s, s.linked p = false → s.hlt.abortDue = false →
    exec (.backboneFrameRx p pcp f ⟨fcsOk, claimLow⟩) s = .next s) ∧
  (∀ p pcp f claimLow s, s.linked p = true → s.hlt.abortDue = false →
    ∃ t, exec (.backboneFrameRx p pcp f ⟨false, claimLow⟩) s = .next t ∧
      t.get (F.BL_P_ERR_FCS_ERR p) = s.up (F.BL_P_ERR_FCS_ERR p) ∧ t.fab = s.fab) ∧
  (∀ p pcp f claimLow s, s.linked p = true → nfCrcOk f = false → s.hlt.abortDue = false →
    ∃ t, exec (.backboneFrameRx p pcp f ⟨true, claimLow⟩) s = .next t ∧
      t.get (F.BL_P_ERR_HCRC_ERR p) = s.up (F.BL_P_ERR_HCRC_ERR p) ∧ t.fab = s.fab ∧ t.out = s.out) ∧
  (∀ p pcp f claimLow s, s.isOn I.FAB = true → s.linked p = true → s.linked p.opposite = true → s.hlt.abortDue = false →
    nfCrcOk f = true → f.cls < 2 → f.atype = 3 → s.cutThrough p.idx p.opposite.idx (pcp % 8) (.native f) = true →
    ∃ t, exec (.backboneFrameRx p pcp f ⟨true, claimLow⟩) s = .next t ∧ .native p.opposite (s.wire (pcp % 8) f) ∈ t.out) ∧
  (∀ p pcp f claimLow s, s.isOn I.FAB = true → s.linked p = true → s.linked p.opposite = true → s.hlt.abortDue = false →
    nfCrcOk f = true → f.cls < 2 → f.atype = 3 → s.cutThrough p.idx p.opposite.idx (pcp % 8) (.native f) = false →
    cellsOf (.native f) ≤ s.get (freeFld 0) →
    cellsIn (s.queue p.opposite.idx (pcp % 8)) + cellsOf (.native f) ≤ s.maxCells p.opposite.idx (pcp % 8) →
    ∃ t, exec (.backboneFrameRx p pcp f ⟨true, claimLow⟩) s = .next t ∧ ∃ x ∈ t.queue p.opposite.idx (pcp % 8), x.frame = .native f) ∧
  (∀ p pcp f k claimLow s, s.isOn I.FAB = true → s.linked p = true → s.hlt.abortDue = false → nfCrcOk f = true → f.cls = 1 →
    (s.ldup f).1 = true → s.acceptTable f = some k → nfMalformed f = false → s.addressed k f = true →
    s.lookupKey k 1 f.src f.flow = none →
    ∃ t, exec (.backboneFrameRx p pcp f ⟨true, claimLow⟩) s = .next t ∧ .message f ∈ t.out) ∧
  (∀ p pcp f claimLow s, s.isOn I.FAB = true → s.linked p = true → s.linked p.opposite = false → s.hlt.abortDue = false →
    nfCrcOk f = true → f.cls ≠ 2 → f.cls ≠ 4 → (s.ldup f).1 = false →
    ∃ t, exec (.backboneFrameRx p pcp f ⟨true, claimLow⟩) s = .next t ∧ t.out = s.out ∧
      t.get F.LDUP_DISCARD_CNT = (s.get F.LDUP_DISCARD_CNT + 1) % 2 ^ F.LDUP_DISCARD_CNT.width) ∧
  (∀ epoch src cls flow s, ∃ t, exec (.ldupAge epoch src cls flow) s = .next t ∧
    t.fab.ldup = s.fab.ldup.filter fun e => !(e.epoch == epoch && e.src == src && e.cls == cls && e.flow == flow)) ∧
  (∀ p pos (b : BeamFrame) claimLow s, s.linked p = false → exec (.beamFrameRx p pos b.head b.body claimLow) s = .next s) ∧
  (∀ p pos (b : BeamFrame) claimLow s, s.linked p = true → s.hlt.abortDue = false → (nfParse b.data).cls ≠ 2 → (nfParse b.data).cls ≠ 4 →
    s.hasSpan p.opposite = true → s.originates p.opposite = false → s.linked p.opposite = true →
    s.replaces p.opposite pos (b.nblk + 2) = false →
    ∃ t, exec (.beamFrameRx p pos b.head b.body claimLow) s = .next t ∧ .beam p.opposite (some pos) b ∈ t.out) ∧
  (∀ p pos (b : BeamFrame) claimLow s, s.linked p = true → beamHeaderOk b = false →
    ∃ t, exec (.beamFrameRx p pos b.head b.body claimLow) s = .next t ∧
      t.get (F.BL_BEAM_ERR_HCHK_ERR p.line) = s.up (F.BL_BEAM_ERR_HCHK_ERR p.line) ∧ t.fab = s.fab) ∧
  (∀ p pos (b : BeamFrame) claimLow s, s.linked p = true → beamHeaderOk b = true → beamCrcOk b = false →
    ∃ t, exec (.beamFrameRx p pos b.head b.body claimLow) s = .next t ∧
      t.get (F.BL_BEAM_ERR_CRC_ERR p.line) = s.up (F.BL_BEAM_ERR_CRC_ERR p.line) ∧ t.fab = s.fab) ∧
  ∀ p pos (b : BeamFrame) claimLow s, s.linked p = true → s.hlt.abortDue = false → (nfParse b.data).cls ≠ 2 → (nfParse b.data).cls ≠ 4 →
    beamHeaderOk b = true → beamCrcOk b = true → beamKind b = 0 → s.hasSpan p.opposite = true →
    ∃ t, exec (.beamFrameRx p pos b.head b.body claimLow) s = .next t ∧
      t.get (F.BL_BEAM_DLV_CNT p.line) = (s.get (F.BL_BEAM_DLV_CNT p.line) + 1) % 2 ^ (F.BL_BEAM_DLV_CNT p.line).width

/-- Ethernet bridging and transmission (R54, R141, R153, R155, R157). Which frames FAB carries is limited by the model's
readings (log entries 66, 76). -/
def Obligations.EthernetBridging : Prop :=  (∀ port f fcsOk claimLow s, 4 ≤ port → port < 12 → s.isOn I.FAB = true → s.portLinked port = true → f.etype = 0x8808 →
    ∃ t, exec (.ethernetFrameRx port f ⟨fcsOk, claimLow⟩) s = .next t ∧
      t.get (F.CP_P_ERR_MACCTL (port - 4)) = s.up (F.CP_P_ERR_MACCTL (port - 4)) ∧ t.fab = s.fab) ∧
  (∀ port f fcsOk claimLow s, port < 4 → f.etype = 0x8808 → s.get F.FAB_CTRL_ETYPE_ETYPE ≠ 0x8808 →
    exec (.ethernetFrameRx port f ⟨fcsOk, claimLow⟩) s = .next s) ∧
  (∀ port f claimLow s, port < 12 → s.isOn I.FAB = true → s.portLinked port = true → f.etype ≠ 0x8808 →
    f.etype ≠ s.get F.FAB_CTRL_ETYPE_ETYPE → (port < 4 ∨ wireLen (.eth f) ≤ 1522) →
    ∃ t, exec (.ethernetFrameRx port f ⟨false, claimLow⟩) s = .next t ∧ t.fab = s.fab ∧
      (if port < 4 then t.get (F.BL_P_ERR_FCS_ERR (bportOf port)) = s.up (F.BL_P_ERR_FCS_ERR (bportOf port))
      else t.get (F.CP_P_ERR_FCS_ERR (port - 4)) = s.up (F.CP_P_ERR_FCS_ERR (port - 4)))) ∧
  (∀ port f pcp vid n claimLow s, port < 12 → s.isOn I.FAB = true → s.portLinked port = true → f.etype ≠ 0x8808 →
    f.etype ≠ s.get F.FAB_CTRL_ETYPE_ETYPE →
    (port < 4 ∨ wireLen (.eth f) ≤ 1522 ∧ s.get (F.CP_P_CFG_POLICER (port - 4)) = 0) → f.tag = some (pcp, vid) →
    s.vlanOf vid = some n → f.src / 2 ^ 40 % 2 = 0 → s.fab.fdb.length < 8192 →
    ∃ t, exec (.ethernetFrameRx port f ⟨true, claimLow⟩) s = .next t ∧ ⟨f.src, vid, port, s.mono⟩ ∈ t.fab.fdb) ∧
  (∀ port f pcp vid n x claimLow s, port < 12 → s.isOn I.FAB = true → s.portLinked port = true → f.etype ≠ 0x8808 →
    f.etype ≠ s.get F.FAB_CTRL_ETYPE_ETYPE →
    (port < 4 ∨ wireLen (.eth f) ≤ 1522 ∧ s.get (F.CP_P_CFG_POLICER (port - 4)) = 0) → f.tag = some (pcp, vid) → f.rtag = none →
    s.vlanOf vid = some n → f.src / 2 ^ 40 % 2 = 1 → s.ethOuts n port vid pcp f = [x] →
    s.cutThrough port x.1 pcp x.2 = false → cellsOf x.2 ≤ s.get (freeFld (rxPool port)) →
    cellsIn (s.queue x.1 pcp) + cellsOf x.2 ≤ s.maxCells x.1 pcp →
    ∃ t, exec (.ethernetFrameRx port f ⟨true, claimLow⟩) s = .next t ∧ ∃ y ∈ t.queue x.1 pcp, y.frame = x.2) ∧
  (∀ port q x xs late s, port ≤ 12 → s.portLinked port = true → q < 8 → s.queue port q = x :: xs →
    (if port = 12 then x.mgt else s.fitsNow late port q x.frame) = true →
    (∀ r y ys, q < r → r < 8 → s.queue port r = y :: ys → (if port = 12 then y.mgt else s.fitsNow late port r y.frame) = false) →
    ∃ t, exec (.frameTransmit port late true) s = .next t ∧ t.queue port q = xs ∧
      t.rdNum (cntAddr port + 4) 4 = (s.rdNum (cntAddr port + 4) 4 + 1) % 2 ^ 32 ∧
      (∀ f, port < 4 → x.frame = .native f → x.pool ≠ 0 → .native (bportOf port) (s.wire q f) ∈ t.out) ∧
      ∀ f, port < 4 → x.frame = .eth f → .eth port f ∈ t.out) ∧
  (∀ port late free s, (s.portLinked port = false ∨ free = false) → exec (.frameTransmit port late free) s = .next s) ∧
  (∀ mac vid s, s.get F.FAB_CTRL_AGE_AGE ≠ 0 →
    ∃ t, exec (.fdbAge mac vid) s = .next t ∧ t.fab.fdb = s.fab.fdb.filter fun e => !(e.mac == mac && e.vid == vid)) ∧
  (∀ mac vid s, s.get F.FAB_CTRL_AGE_AGE = 0 → exec (.fdbAge mac vid) s = .next s) ∧
  ∀ q v s, s.carries q R.FAB_CTRL_AGE = true → s.owns q P.FAB_CTRL = true →
    ∃ t, exec (.flush q v) s = .next t ∧ t.fab.fdb = (if v.getLsbD 31 then [] else s.fab.fdb) ∧ t.rd R.FAB_CTRL_AGE = v &&& 0xFFFF

/-- The flow contexts' commands (R144, R145, R147, R149). Gate lists and buffer banks (R154, R156). -/
def Obligations.FlowContexts : Prop :=
  ((∀ q v s, s.carries q R.FAB_FLOW_CMD = true → s.owns q P.FAB_FLOW = true → v.getLsbD 0 = false → v.getLsbD 1 = true →
    v.getLsbD 2 = false → s.phase = 0 →
    (q = .firmware ∨ (s.rdByte (ctxAddr (s.get F.FAB_FLOW_SEL_INDEX))).toNat / 8 % 4 ≠ 2 ∧ (s.flowData.getD 0 0).toNat / 8 % 4 ≠ 2) →
    ((s.flowData.getD 0 0).getLsbD 7 = true →
      badFlow (hostBytes (s.rdBytes (ctxAddr (s.get F.FAB_FLOW_SEL_INDEX)) 64) s.flowData) = false) →
    ((s.flowData.getD 0 0).getLsbD 7 = true → (s.flowData.getD 0 0).toNat / 32 % 4 ≠ 0 → s.fab.ways = []) →
    ∃ t, exec (.flowWrite q v) s = .next t ∧ t.rd R.FAB_FLOW_CMD = 0 ∧ t.evt P.FAB_FLOW 3 = true ∧
      t.rdBytes (ctxAddr (s.get F.FAB_FLOW_SEL_INDEX)) 8 = s.flowData.take 8) ∧
  (∀ q v s, s.carries q R.FAB_FLOW_CMD = true → s.owns q P.FAB_FLOW = true → v.getLsbD 0 = false → v.getLsbD 1 = true →
    v.getLsbD 2 = false → q ≠ .firmware →
    ((s.rdByte (ctxAddr (s.get F.FAB_FLOW_SEL_INDEX))).toNat / 8 % 4 = 2 ∨ (s.flowData.getD 0 0).toNat / 8 % 4 = 2) →
    ∃ t, exec (.flowWrite q v) s = .next t ∧ t.rd R.FAB_FLOW_CMD = 0x40000000 ∧ t.evt P.FAB_FLOW 3 = true ∧ t.mem = s.mem) ∧
  (∀ v s, s.carries .firmware R.FAB_FLOW_CMD = true → s.owns .firmware P.FAB_FLOW = true → v.getLsbD 0 = false → v.getLsbD 1 = true →
    v.getLsbD 2 = false → s.phase = 0 → (s.flowData.getD 0 0).getLsbD 7 = true →
    badFlow (hostBytes (s.rdBytes (ctxAddr (s.get F.FAB_FLOW_SEL_INDEX)) 64) s.flowData) = true →
    ∃ t, exec (.flowWrite .firmware v) s = .next t ∧ t.rd R.FAB_FLOW_CMD = 0x30000000 ∧ t.evt P.FAB_FLOW 3 = true ∧ t.mem = s.mem) ∧
  (∀ q v s, s.carries q R.FAB_FLOW_CMD = true → v.getLsbD 0 = true → v.getLsbD 1 = false → v.getLsbD 2 = false →
    ∃ t, exec (.flowRead q v) s = .next t ∧ t.rd R.FAB_FLOW_CMD = 0 ∧ t.evt P.FAB_FLOW 3 = true ∧ ∀ n, n < 16 → n ≠ 8 →
      t.rd (R.FAB_FLOW_DATA n) = BitVec.ofNat 32 (s.rdNum (ctxAddr (s.get F.FAB_FLOW_SEL_INDEX) + 4 * n) 4)) ∧
  (∀ q v s, s.carries q R.FAB_FLOW_CMD = true → s.owns q P.FAB_FLOW = true → v.getLsbD 0 = false → v.getLsbD 1 = false →
    v.getLsbD 2 = true →
    ∃ t, exec (.clrcnt q v) s = .next t ∧ t.rdNum (ctxAddr (s.get F.FAB_FLOW_SEL_INDEX) + 44) 14 = 0 ∧ t.rd R.FAB_FLOW_CMD = 0) ∧
  (∀ ctx s, ctx < 4096 → s.isOn I.FAB = true → s.ctxValid ctx = true → s.ctxTimeout ctx ≠ 0 → s.ctxStat ctx 6 = false →
    s.ctxTimeout ctx < s.mono - s.rdNum (ctxAddr ctx + 36) 8 →
    ∃ t, exec (.expire ctx) s = .next t ∧ t.ctxStat ctx 6 = true ∧ t.ctxStat ctx 7 = false ∧ t.evt P.FAB_FLOW 0 = true ∧
      .expired (s.ctxOwner ctx) ctx ∈ t.out) ∧
  ∀ ctx s, (s.isOn I.FAB = false ∨ s.ctxValid ctx = false ∨ s.ctxTimeout ctx = 0 ∨ s.ctxStat ctx 6 = true ∨
    s.mono - s.rdNum (ctxAddr ctx + 36) 8 ≤ s.ctxTimeout ctx) → exec (.expire ctx) s = .next s) ∧
  ((∀ q v s, s.carries q R.FAB_GATE_CTRL = true → s.owns q P.FAB_GATE = true →
    ∃ t, exec (.swap q v) s = .next t ∧
      t.rdByte (0x03130000 + s.get F.FAB_GATE_SEL_PORT) = BitVec.ofNat 8 (min 64 (v.toNat % 128)) ∧
      (v.getLsbD 8 = true → t.rdByte (0x03130020 + s.get F.FAB_GATE_SEL_PORT) = 1)) ∧
  (∀ q hi v s, s.carries q (if hi then R.FAB_QUE_BANK_HI else R.FAB_QUE_BANK_LO) = true → s.owns q P.FAB_QUE = true →
    ∃ t, exec (.bankPoolWrite q hi v) s = .next t ∧ t.rd (if hi then R.FAB_QUE_BANK_HI else R.FAB_QUE_BANK_LO) = v) ∧
  (∀ bank e s, (s.fab.moving.find? fun m => m.1 == bank) = some e → 1024 ≤ s.get (freeFld e.2) → s.bankTested bank = false →
    ∃ t, exec (.bankMoved bank) s = .next t ∧ t.evt P.FAB_QUE 2 = true ∧ ∀ m ∈ t.fab.moving, m.1 ≠ bank) ∧
  (∀ bank e s, (s.fab.moving.find? fun m => m.1 == bank) = some e → 1024 ≤ s.get (freeFld e.2) → s.bankTested bank = true →
    s.get F.HLT_BIST_STAT_STATE = 1 →
    ∃ t, exec (.bankMoved bank) s = .next t ∧ t.get F.HLT_BIST_STAT_STATE = 2 ∧ ∀ m ∈ t.fab.moving, m.1 ≠ bank) ∧
  (∀ bank e s, (s.fab.moving.find? fun m => m.1 == bank) = some e → s.get (freeFld e.2) < 1024 →
    exec (.bankMoved bank) s = .next s) ∧
  ∀ bank s, (s.fab.moving.find? fun m => m.1 == bank) = none → exec (.bankMoved bank) s = .next s)

/-- Consist ports, TRDP process data and IEEE 802.1CB streams (R157 to R160). -/
def Obligations.ConsistPorts : Prop :=  (∀ port up fast s, port < 8 → s.isOn (I.CPA + port / 4) = true →
    ∃ t, exec (.cpLinkChg port up fast) s = .next t ∧ t.bit (F.CP_P_STAT_LINK port) = up ∧
      t.bit (F.CP_P_STAT_SPEED port) = (up && fast && s.bit (F.CP_P_CFG_G1 port)) ∧
      t.get (F.CP_P_STAT_LINK_CHG port) = s.up (F.CP_P_STAT_LINK_CHG port) ∧ t.evt (P.CP_P port) 0 = true) ∧
  (∀ port up fast s, s.isOn (I.CPA + port / 4) = false → exec (.cpLinkChg port up fast) s = .next s) ∧
  (∀ port e fcsOk f s, port < 8 → s.isOn (I.CPA + port / 4) = true → s.bit (F.CP_P_STAT_LINK port) = true →
    s.bit (F.CP_CTRL_TRDP_EN (port / 4)) = true → (if s.isOn I.FAB then (s.ethRx (4 + port) e fcsOk).1 else fcsOk) = true →
    f.ipOk = true → f.type = .pd → f.udp = true → f.port = s.get (F.CP_CTRL_TRDP_PORT (port / 4)) → f.hfcsOk = false →
    ∃ t, exec (.pdFrameRx port ⟨e, fcsOk, f⟩) s = .next t ∧
      t.get (F.CP_CTRL_PDERR_HFCS (port / 4)) = s.up (F.CP_CTRL_PDERR_HFCS (port / 4)) ∧ t.evt (P.CP_CTRL (port / 4)) 0 = true) ∧
  (∀ port e fcsOk f s, port < 8 → s.isOn (I.CPA + port / 4) = true → s.bit (F.CP_P_STAT_LINK port) = true →
    s.bit (F.CP_CTRL_TRDP_EN (port / 4)) = true → (if s.isOn I.FAB then (s.ethRx (4 + port) e fcsOk).1 else fcsOk) = true →
    f.ipOk = true → f.type = .pd → f.udp = true → f.port = s.get (F.CP_CTRL_TRDP_PORT (port / 4)) → f.hfcsOk = true →
    badPd f = true →
    ∃ t, exec (.pdFrameRx port ⟨e, fcsOk, f⟩) s = .next t ∧
      t.get (F.CP_CTRL_PDERR_FORMAT (port / 4)) = s.up (F.CP_CTRL_PDERR_FORMAT (port / 4))) ∧
  (∀ port e fcsOk f s, port < 8 → s.isOn (I.CPA + port / 4) = true → s.bit (F.CP_P_STAT_LINK port) = true →
    s.bit (F.CP_CTRL_TRDP_EN (port / 4)) = true → (if s.isOn I.FAB then (s.ethRx (4 + port) e fcsOk).1 else fcsOk) = true →
    f.ipOk = true → f.type = .pd → f.udp = true → f.port = s.get (F.CP_CTRL_TRDP_PORT (port / 4)) → f.hfcsOk = true →
    badPd f = false → s.badTopo (port / 4) f = true →
    ∃ t, exec (.pdFrameRx port ⟨e, fcsOk, f⟩) s = .next t ∧
      t.get (F.CP_CTRL_PDERR_TOPO (port / 4)) = s.up (F.CP_CTRL_PDERR_TOPO (port / 4)) ∧ t.evt (P.CP_CTRL (port / 4)) 1 = true) ∧
  (∀ port e fcsOk f k s, port < 8 → s.isOn (I.CPA + port / 4) = true → s.bit (F.CP_P_STAT_LINK port) = true →
    s.bit (F.CP_CTRL_TRDP_EN (port / 4)) = true → (if s.isOn I.FAB then (s.ethRx (4 + port) e fcsOk).1 else fcsOk) = true →
    f.ipOk = true → f.type = .pd → f.udp = true → f.port = s.get (F.CP_CTRL_TRDP_PORT (port / 4)) → f.hfcsOk = true →
    badPd f = false → s.badTopo (port / 4) f = false → s.comEntry port f = some k →
    ∃ t, exec (.pdFrameRx port ⟨e, fcsOk, f⟩) s = .next t ∧ t.rdNum (comAddr (port / 4) k + 12) 4 = f.seqCount % 2 ^ 32 ∧
      t.get (F.CP_CTRL_PDRX_FRAMES (port / 4)) =
        (s.get (F.CP_CTRL_PDRX_FRAMES (port / 4)) + 1) % 2 ^ (F.CP_CTRL_PDRX_FRAMES (port / 4)).width) ∧
  (∀ port e fcsOk f s, port < 8 → s.isOn (I.CPA + port / 4) = true → s.bit (F.CP_P_STAT_LINK port) = true →
    s.bit (F.CP_CTRL_TRDP_EN (port / 4)) = true → (if s.isOn I.FAB then (s.ethRx (4 + port) e fcsOk).1 else fcsOk) = true →
    f.ipOk = true → f.type = .message → f.port = s.get (F.CP_CTRL_TRDP_PORT (port / 4)) + 1 →
    ∃ t, exec (.pdFrameRx port ⟨e, fcsOk, f⟩) s = .next t ∧ .trdp (s.bit (F.CP_CTRL_TRDP_PR_FW (port / 4))) port e ∈ t.out) ∧
  (∀ q h v s, h < 2 → s.carries q (R.CP_CTRL_CDATA h 3) = true → s.owns q (P.CP_CTRL h) = true →
    ((s.rd (R.CP_CTRL_CDATA h 2)).getLsbD 14 = false ∨ (s.rd (R.CP_CTRL_CDATA h 1)).toNat / 2 ^ 28 = 14) →
    ∃ t, exec (.comidWrite q h v) s = .next t ∧ t.rdBytes (comAddr h (s.get (F.CP_CTRL_CSEL_INDEX h))) 16 =
      ((List.range 3).flatMap fun n => beBytes 4 (s.rd (R.CP_CTRL_CDATA h n)).toNat) ++ beBytes 4 v.toNat) ∧
  (∀ q h v s, h < 2 → s.carries q (R.CP_CTRL_CDATA h 3) = true → s.owns q (P.CP_CTRL h) = true →
    (s.rd (R.CP_CTRL_CDATA h 2)).getLsbD 14 = true → (s.rd (R.CP_CTRL_CDATA h 1)).toNat / 2 ^ 28 ≠ 14 →
    ∃ t, exec (.comidWrite q h v) s = .next t ∧ t.mem = s.mem) ∧
  (∀ stream s, stream < 256 → s.rdByte (cbAddr stream + 14) ≠ 0 →
    ∃ t, exec (.cbRecoveryReset stream) s = .next t ∧ t.rdByte (cbAddr stream + 14) = 0 ∧ t.evt P.FAB_CBDUP 1 = true) ∧
  (∀ stream s, s.rdByte (cbAddr stream + 14) = 0 → exec (.cbRecoveryReset stream) s = .next s) ∧
  ∀ q v s, s.carries q R.FAB_CBDUP_ID_LO = true → s.owns q P.FAB_CBDUP = true →
    ∃ t, exec (.cbdupStreamWrite q v) s = .next t ∧
      t.rdNum (cbAddr (s.get F.FAB_CBDUP_SEL_INDEX)) 4 = (s.rd R.FAB_CBDUP_ID_HI).toNat ∧
      t.rdNum (cbAddr (s.get F.FAB_CBDUP_SEL_INDEX) + 4) 4 = v.toNat

/-- Inputs and passes of the signal gateway (R166, R168, R179, R180, R182). That a pass is computed whole at its end is the
model's reading (log entry 24). -/
def Obligations.GatewayPasses : Prop :=  (∀ n k s, n < 16 → k < 8 → s.isOn I.SGW = true → s.isOn (canIsland n) = true → s.qEn n k = true → s.qOwner n k = 2 →
    s.get (fGet n k) ≠ s.get (fPut n k) →
    ∃ t, exec (.inputArrival (.can n k)) s = .next t ∧ t.get (fGet n k) = (s.get (fGet n k) + 1) % s.qSlots n k ∧
      (∀ i, s.canInput n (s.slotFrame (s.slotAddr n k (s.get (fGet n k)))) = some i →
        (t.sgwIn i).fresh = true ∧ (t.sgwIn i).never = false ∧ (t.sgwIn i).expired = false ∧ (t.sgwIn i).last = s.mono) ∧
      (s.canInput n (s.slotFrame (s.slotAddr n k (s.get (fGet n k)))) = none →
        t.get F.SGW_CTRL_INCNT_NOINP = s.up F.SGW_CTRL_INCNT_NOINP ∧ t.evt P.SGW_CTRL 10 = true)) ∧
  (∀ ctx f s, s.isOn I.SGW = true → s.flowInput ctx = none →
    ∃ t, exec (.inputArrival (.flow ctx f)) s = .next t ∧ t.get F.SGW_CTRL_INCNT_NOINP = s.up F.SGW_CTRL_INCNT_NOINP ∧
      t.evt P.SGW_CTRL 10 = true) ∧
  (∀ src s, s.isOn I.SGW = false → exec (.inputArrival src) s = .next s) ∧
  (∀ ctx f i s, s.isOn I.SGW = true → s.flowInput ctx = some i →
    ∃ t, exec (.inputArrival (.flow ctx f)) s = .next t ∧ (t.sgwIn i).fresh = true ∧ (t.sgwIn i).never = false ∧
      (t.sgwIn i).expired = false ∧ (t.sgwIn i).last = s.mono) ∧
  (∀ n s, (s.isOn I.SGW = false ∨ (s.validInputs s.actBank).contains n = false ∨ s.eKind (inpAddr s.actBank n) ≠ 1 ∨
    timeoutNs (s.ePer (inpAddr s.actBank n)) = 0 ∨ (s.sgwIn n).never = true ∨
    s.mono - (s.sgwIn n).last ≤ timeoutNs (s.ePer (inpAddr s.actBank n))) → exec (.inpExpire n) s = .next s) ∧
  (∀ n s, s.isOn I.SGW = true → (s.validInputs s.actBank).contains n = true → s.eKind (inpAddr s.actBank n) = 1 →
    timeoutNs (s.ePer (inpAddr s.actBank n)) ≠ 0 → (s.sgwIn n).never = false →
    timeoutNs (s.ePer (inpAddr s.actBank n)) < s.mono - (s.sgwIn n).last → (s.sgwIn n).expired = false →
    ∃ t, exec (.inpExpire n) s = .next t ∧ (t.sgwIn n).expired = true ∧ t.evt P.SGW_CTRL 6 = true) ∧
  (∀ s, s.passDue = true → s.asleep = false → s.wake.kaHold = false → s.bit F.SGW_CTRL_STAT_RUNNING = false →
    ∃ t, exec .passStart s = .next t ∧ t.bit F.SGW_CTRL_STAT_RUNNING = true ∧
      t.sgw.sample = (s.validInputs s.actBank).map fun k => (k, s.sgwIn k)) ∧
  (∀ s, s.passDue = true → s.asleep = false → s.wake.kaHold = false → s.bit F.SGW_CTRL_STAT_RUNNING = true →
    ∃ t, exec .passStart s = .next t ∧ t.get F.SGW_CTRL_CNT_OVERRUN = s.up F.SGW_CTRL_CNT_OVERRUN ∧ t.evt P.SGW_CTRL 1 = true ∧
      t.sgw = s.sgw) ∧
  (∀ dur es xs s, s.isOn I.SGW = true → s.bit F.SGW_CTRL_STAT_RUNNING = true →
    ∃ t, exec (.passDone dur es xs) s = .next t ∧ t.bit F.SGW_CTRL_STAT_RUNNING = false ∧
      t.get F.SGW_CTRL_PASSCNT_CNT = (s.get F.SGW_CTRL_PASSCNT_CNT + 1) % 2 ^ 32 ∧ t.get F.SGW_CTRL_STAT_PASS_T = min 0xFFFF dur ∧
      t.bit F.SGW_CTRL_STAT_STALL = false ∧ t.evt P.SGW_CTRL 0 = true) ∧
  (∀ s, (s.passDue = false ∨ s.asleep = true ∨ s.wake.kaHold = true) → exec .passStart s = .next s) ∧
  (∀ dur es xs s, (s.isOn I.SGW = false ∨ s.bit F.SGW_CTRL_STAT_RUNNING = false) → exec (.passDone dur es xs) s = .next s) ∧
  (∀ s, (s.isOn I.SGW = false ∨ s.bit F.SGW_CTRL_STAT_STALL = true ∨ s.sgw.passless < max 1 (s.get F.SGW_CTRL_CFG_STALL_N)) →
    exec .stall s = .next s) ∧
  ∀ s, s.isOn I.SGW = true → s.bit F.SGW_CTRL_STAT_STALL = false → max 1 (s.get F.SGW_CTRL_CFG_STALL_N) ≤ s.sgw.passless →
    ∃ t, exec .stall s = .next t ∧ t.bit F.SGW_CTRL_STAT_STALL = true ∧ t.evt P.SGW_CTRL 4 = true

/-- The gateway's image and banks (R183, R185). The request, the cancelling and the validation of a bank flip (R186, R187).
Refusals in STATUS and the reading of CANCEL before FLIP are the model's (log entry 25). -/
def Obligations.GatewayBanks : Prop :=
  ((∀ q hi lo s, s.carries q R.SGW_IMG_HI = true →
    ∃ t, exec (.imageWrite q hi lo) s = .next t ∧ t.rdBytes (imgAddr s.imgSel) 8 = beBytes 4 hi.toNat ++ beBytes 4 lo.toNat) ∧
  (∀ q v s, s.carries q (R.SGW_MAP_DATA 3) = true → s.get F.SGW_MAP_SEL_BANK ≠ s.actBank → s.bit F.SGW_CTRL_STAT_FLIP_PEND = false →
    ∃ t, exec (.mapEntryWrite q v) s = .next t ∧ t.get F.SGW_MAP_CMD_STATUS = 0 ∧
      t.rdBytes (mapAddr (s.get F.SGW_MAP_SEL_BANK) s.mapIndex) 16 =
        ((List.range 3).flatMap fun n => beBytes 4 (s.rd (R.SGW_MAP_DATA n)).toNat) ++ beBytes 4 v.toNat) ∧
  (∀ q v s, s.carries q (R.SGW_MAP_DATA 3) = true → s.get F.SGW_MAP_SEL_BANK = s.actBank →
    ∃ t, exec (.mapEntryWrite q v) s = .next t ∧ t.get F.SGW_MAP_CMD_STATUS = 1 ∧ t.mem = s.mem ∧ t.evt P.SGW_CTRL 7 = true) ∧
  (∀ q v s, s.carries q (R.SGW_MAP_DATA 3) = true → s.get F.SGW_MAP_SEL_BANK ≠ s.actBank → s.bit F.SGW_CTRL_STAT_FLIP_PEND = true →
    ∃ t, exec (.mapEntryWrite q v) s = .next t ∧ t.get F.SGW_MAP_CMD_STATUS = 2 ∧ t.mem = s.mem) ∧
  (∀ q v s, s.carries q (R.SGW_RCP_DATA 3) = true → s.get F.SGW_RCP_SEL_BANK = s.actBank →
    ∃ t, exec (.rcpEntryWrite q v) s = .next t ∧ t.get F.SGW_RCP_CMD_STATUS = 1 ∧ t.mem = s.mem ∧ t.evt P.SGW_CTRL 7 = true) ∧
  (∀ q v s, s.carries q (R.SGW_RCP_DATA 3) = true → s.get F.SGW_RCP_SEL_BANK ≠ s.actBank → s.bit F.SGW_CTRL_STAT_FLIP_PEND = true →
    ∃ t, exec (.rcpEntryWrite q v) s = .next t ∧ t.get F.SGW_RCP_CMD_STATUS = 2 ∧ t.mem = s.mem) ∧
  (∀ q v s, s.carries q R.SGW_MAP_CMD = true → v.getLsbD 0 = true →
    ∃ t, exec (.mapRead q v) s = .next t ∧ ∀ n, n < 4 →
      t.rd (R.SGW_MAP_DATA n) = BitVec.ofNat 32 (s.rdNum (mapAddr (s.get F.SGW_MAP_SEL_BANK) s.mapIndex + 4 * n) 4)) ∧
  (∀ q v s, s.carries q (R.SGW_RCP_DATA 3) = true → s.get F.SGW_RCP_SEL_BANK ≠ s.actBank → s.bit F.SGW_CTRL_STAT_FLIP_PEND = false →
    ∃ t, exec (.rcpEntryWrite q v) s = .next t ∧ t.get F.SGW_RCP_CMD_STATUS = 0 ∧
      t.rdBytes s.rcpSelAddr 16 =
        ((List.range 3).flatMap fun n => beBytes 4 (s.rd (R.SGW_RCP_DATA n)).toNat) ++ beBytes 4 v.toNat) ∧
  ∀ q v s, s.carries q R.SGW_RCP_CMD = true → v.getLsbD 0 = true →
    ∃ t, exec (.rcpRead q v) s = .next t ∧ ∀ n, n < 4 →
      t.rd (R.SGW_RCP_DATA n) = BitVec.ofNat 32 (s.rdNum (s.rcpSelAddr + 4 * n) 4)) ∧
  ((∀ q v s, s.carries q R.SGW_CTRL_FLIP = true → s.owns q P.SGW_CTRL = true → v.getLsbD 0 = true → v.getLsbD 2 = false →
    s.bit F.SGW_CTRL_STAT_FLIP_PEND = false → s.get F.SGW_CTRL_FLIPSTAT_RESULT ≠ 15 →
    ∃ t, exec (.flipRequest q v) s = .next t ∧ t.rd R.SGW_CTRL_FLIPSTAT = 0xF0000000 ∧ t.bit F.SGW_CTRL_FLIP_AT_K = v.getLsbD 1) ∧
  (∀ q v s, s.carries q R.SGW_CTRL_FLIP = true → s.owns q P.SGW_CTRL = true → v.getLsbD 0 = false → v.getLsbD 2 = true →
    ∃ t, exec (.cancel q v) s = .next t ∧ t.bit F.SGW_CTRL_STAT_FLIP_PEND = false ∧
      t.rd R.SGW_CTRL_FLIPSTAT = s.rd R.SGW_CTRL_FLIPSTAT) ∧
  (∀ q v s, s.carries q R.SGW_CTRL_FLIP = true → s.owns q P.SGW_CTRL = true → v.getLsbD 0 = true → v.getLsbD 2 = false →
    (s.bit F.SGW_CTRL_STAT_FLIP_PEND = true ∨ s.get F.SGW_CTRL_FLIPSTAT_RESULT = 15) →
    ∃ t, exec (.flipRequest q v) s = .next t ∧ t.rd R.SGW_CTRL_FLIPSTAT = s.rd R.SGW_CTRL_FLIPSTAT ∧
      t.bit F.SGW_CTRL_STAT_FLIP_PEND = s.bit F.SGW_CTRL_STAT_FLIP_PEND) ∧
  (∀ s, (s.isOn I.SGW = false ∨ s.get F.SGW_CTRL_FLIPSTAT_RESULT ≠ 15) → exec .validationDone s = .next s) ∧
  ∀ s, s.isOn I.SGW = true → s.get F.SGW_CTRL_FLIPSTAT_RESULT = 15 →
    ∃ t, exec .validationDone s = .next t ∧
      t.rd R.SGW_CTRL_FLIPSTAT = BitVec.ofNat 32 ((s.bankFault (1 - s.actBank)).1 * 2 ^ 28 +
        (s.bankFault (1 - s.actBank)).2.1 * 2 ^ 26 + (s.bankFault (1 - s.actBank)).2.2) ∧
      ((s.bankFault (1 - s.actBank)).1 = 0 → t.bit F.SGW_CTRL_STAT_FLIP_PEND = true) ∧
      ((s.bankFault (1 - s.actBank)).1 ≠ 0 → t.evt P.SGW_CTRL 3 = true))

/-- The bytes that a command stores in a RAM: every other byte reads as before. -/
def Obligations.StoredBytes : Prop :=  (∀ q hi lo s, s.carries q R.SGW_IMG_HI = true →
    ∃ t, exec (.imageWrite q hi lo) s = .next t ∧
      ∀ a, (a < imgAddr s.imgSel ∨ imgAddr s.imgSel + 8 ≤ a) → t.rdByte a = s.rdByte a) ∧
  (∀ q v s, s.carries q (R.SGW_MAP_DATA 3) = true →
    ∃ t, exec (.mapEntryWrite q v) s = .next t ∧ ∀ a, (a < mapAddr (s.get F.SGW_MAP_SEL_BANK) s.mapIndex ∨
      mapAddr (s.get F.SGW_MAP_SEL_BANK) s.mapIndex + 16 ≤ a) → t.rdByte a = s.rdByte a) ∧
  (∀ q v s, s.carries q (R.SGW_RCP_DATA 3) = true →
    ∃ t, exec (.rcpEntryWrite q v) s = .next t ∧
      ∀ a, (a < s.rcpSelAddr ∨ s.rcpSelAddr + 16 ≤ a) → t.rdByte a = s.rdByte a) ∧
  (∀ q h hi lo ue s, ∃ t, exec (.mdataAccess q h ⟨false, ue⟩ hi lo) s = .next t ∧ t.mem = s.mem) ∧
  (∀ q h hi lo ue s, h < 2 → s.carries q (R.CB_CTRL_MDATA_HI h) = true →
    ∃ t, exec (.mdataAccess q h ⟨true, ue⟩ hi lo) s = .next t ∧
      ∀ a, (a < s.mdataAddr h ∨ s.mdataAddr h + 8 ≤ a) → t.rdByte a = s.rdByte a) ∧
  (∀ q h v s, h < 2 → s.carries q (R.CP_CTRL_CDATA h 3) = true →
    ∃ t, exec (.comidWrite q h v) s = .next t ∧ ∀ a, (a < comAddr h (s.get (F.CP_CTRL_CSEL_INDEX h)) ∨
      comAddr h (s.get (F.CP_CTRL_CSEL_INDEX h)) + 16 ≤ a) → t.rdByte a = s.rdByte a) ∧
  (∀ q v s, s.carries q R.FAB_CBDUP_ID_LO = true →
    ∃ t, exec (.cbdupStreamWrite q v) s = .next t ∧ ∀ a, (a < cbAddr (s.get F.FAB_CBDUP_SEL_INDEX) ∨
      cbAddr (s.get F.FAB_CBDUP_SEL_INDEX) + 16 ≤ a) → (a < 0x031B0000 + 4 * s.get F.FAB_CBDUP_SEL_INDEX ∨
      0x031B0004 + 4 * s.get F.FAB_CBDUP_SEL_INDEX ≤ a) → t.rdByte a = s.rdByte a) ∧
  (∀ q v s, s.carries q R.FAB_GATE_CTRL = true →
    ∃ t, exec (.swap q v) s = .next t ∧ ∀ a, a ≠ 0x03130000 + s.get F.FAB_GATE_SEL_PORT →
      a ≠ 0x03130020 + s.get F.FAB_GATE_SEL_PORT → t.rdByte a = s.rdByte a) ∧
  (∀ q v s, s.carries q R.FAB_FLOW_CMD = true → v.getLsbD 1 = false →
    ∃ t, exec (.clrcnt q v) s = .next t ∧ ∀ a, (a < ctxAddr (s.get F.FAB_FLOW_SEL_INDEX) + 44 ∨
      ctxAddr (s.get F.FAB_FLOW_SEL_INDEX) + 58 ≤ a) → t.rdByte a = s.rdByte a) ∧
  (∀ q v s, s.carries q R.TOP_TBL_CMD = true → s.isOn I.FAB = false →
    ∃ t, exec (.bindWrite q v) s = .next t ∧ ∀ a, (a < bindAddr (s.get F.TOP_TBL_SEL_INDEX) ∨
      bindAddr (s.get F.TOP_TBL_SEL_INDEX) + 16 ≤ a) → t.rdByte a = s.rdByte a) ∧
  ∀ e es s, s.isOn I.REC = true → s.recorder.fifo = e :: es → s.merges e = false →
    ∃ t, exec .recCommit s = .next t ∧ ∀ a, (a < recSlot s.recNext ∨ recSlot s.recNext + 64 ≤ a) → t.rdByte a = s.rdByte a

/-- Starting and modes of a CAN channel (R194, R195, R197 to R199). Bus-off (R217). The counts of ISO 11898-1 are presumed (log
entries 11, 12). -/
def Obligations.CanModes : Prop :=
  ((∀ n s, n < 16 → s.isOn (canIsland n) = true → s.onIro = false → (s.canSt n).started = false → (s.canSt n).tx = none →
    s.canWant n ≠ 5 → (s.canWant n = 4 → s.emode n ≠ 4) →
    canTimingBad (s.rd (R.CB_CAN_NBT n)) (s.rd (R.CB_CAN_DBT n)) (s.bit (F.CB_CAN_MODE_FD_EN n)) = false →
    ∃ t, exec (.channelStart n) s = .next t ∧ (t.canSt n).started = true ∧ (t.canSt n).nbt = s.rd (R.CB_CAN_NBT n) ∧
      (t.canSt n).dbt = s.rd (R.CB_CAN_DBT n) ∧
      t.get (F.CB_CAN_STAT_STATE n) = (if s.get (F.CB_CAN_STAT_STATE n) = 2 then 2 else 3)) ∧
  (∀ n s, n < 16 → s.isOn (canIsland n) = true → s.onIro = false → (s.canSt n).started = false → (s.canSt n).tx = none →
    s.canWant n ≠ 5 → (s.canWant n = 4 → s.emode n ≠ 4) →
    canTimingBad (s.rd (R.CB_CAN_NBT n)) (s.rd (R.CB_CAN_DBT n)) (s.bit (F.CB_CAN_MODE_FD_EN n)) = true →
    ∃ t, exec (.channelStart n) s = .next t ∧ t.emode n = 5 ∧ t.evt (P.CB_CAN n) 8 = true ∧ (t.canSt n).started = false) ∧
  (∀ n s, n < 16 → (s.isOn (canIsland n) = false ∨ s.onIro = true ∨ (s.canSt n).started = true ∨ s.canWant n = 5) →
    exec (.channelStart n) s = .next s) ∧
  (∀ q n v s, n < 16 → s.carries q (R.CB_CAN_MODE n) = true → s.owns q (P.CB_CAN n) = true →
    ∃ t, exec (.modeWrite q n v) s = .next t ∧ t.get (F.CB_CAN_MODE_MODE n) = (F.CB_CAN_MODE_MODE n).of v ∧ t.emode n = s.emode n) ∧
  (∀ n s, n < 16 → s.isOn (canIsland n) = true → (s.canSt n).tx = none → s.canWant n ≠ s.emode n →
    (s.canWant n = 5 ∨ (s.canSt n).started = true) →
    ∃ t, exec (.modeChg n) s = .next t ∧ t.emode n = s.canWant n ∧ t.evt (P.CB_CAN n) 11 = true) ∧
  ∀ n s, n < 16 → (s.isOn (canIsland n) = false ∨ (s.canSt n).tx.isSome = true ∨ s.canWant n = s.emode n ∨
    s.canWant n ≠ 5 ∧ (s.canSt n).started = false) → exec (.modeChg n) s = .next s) ∧
  ((∀ n s, n < 16 → s.isOn (canIsland n) = true → s.bit (F.CB_CAN_ERRCFG_BOFF_AUTO n) = true → s.get (F.CB_CAN_STAT_STATE n) = 2 →
    s.emode n ≤ 3 →
    ∃ t, exec (.busoffHoldEnd n) s = .next t ∧ t.get (F.CB_CAN_STAT_ACT n) = 3) ∧
  (∀ n s, n < 16 → (s.isOn (canIsland n) = false ∨ s.bit (F.CB_CAN_ERRCFG_BOFF_AUTO n) = false ∨ s.get (F.CB_CAN_STAT_STATE n) ≠ 2 ∨
    3 < s.emode n) → exec (.busoffHoldEnd n) s = .next s) ∧
  (∀ q n v s, n < 16 → s.carries q (R.CB_CAN_CMD n) = true → v.getLsbD 16 = true → (∀ k, 8 ≤ k → k < 16 → v.getLsbD k = false) →
    s.get (F.CB_CAN_STAT_STATE n) = 2 → s.emode n ≤ 3 →
    ∃ t, exec (.recover q n v) s = .next t ∧ t.get (F.CB_CAN_STAT_ACT n) = 3) ∧
  (∀ q n v s, n < 16 → s.carries q (R.CB_CAN_CMD n) = true → (∀ k, 8 ≤ k → k < 16 → v.getLsbD k = false) →
    (v.getLsbD 16 = false ∨ s.get (F.CB_CAN_STAT_STATE n) ≠ 2 ∨ 3 < s.emode n) →
    ∃ t, exec (.recover q n v) s = .next t ∧ t.rd (R.CB_CAN_STAT n) = s.rd (R.CB_CAN_STAT n) ∧ t.cans = s.cans) ∧
  (∀ n s, n < 16 → s.get (F.CB_CAN_STAT_STATE n) = 2 → s.get (F.CB_CAN_STAT_ACT n) = 3 →
    ∃ t, exec (.busoffRecovered n) s = .next t ∧ t.get (F.CB_CAN_STAT_STATE n) = 0 ∧ t.get (F.CB_CAN_STAT_TEC n) = 0 ∧
      t.get (F.CB_CAN_STAT_REC n) = 0 ∧ t.get (F.CB_CAN_STAT_ACT n) = 0) ∧
  ∀ n s, n < 16 → (s.get (F.CB_CAN_STAT_STATE n) ≠ 2 ∨ s.get (F.CB_CAN_STAT_ACT n) ≠ 3) → exec (.busoffRecovered n) s = .next s)

/-- Frames on a CAN bus (R194, R205, R214, R217 to R219, R222). The increments are those of ISO 11898-1 (log entries 11, 12). -/
def Obligations.CanFrames : Prop :=  (∀ n f ago ue s, n < 16 → s.isOn (canIsland n) = true → s.emode n ≤ 2 → s.get (F.CB_CAN_STAT_STATE n) ≠ 2 → (s.canSt n).tx = none →
    (f.fdf = false ∨ (s.canSt n).fdOn = true) →
    ∃ t, exec (.canFrameRx n f ago ue) s = .next t ∧
      t.get (F.CB_CAN_RXCNT_FRAMES n) = (s.get (F.CB_CAN_RXCNT_FRAMES n) + 1) % 2 ^ (F.CB_CAN_RXCNT_FRAMES n).width ∧
      t.bit (F.CB_CAN_STAT_LONE n) = false ∧ (s.emode n ≤ 1 → .canAck n ∈ t.out)) ∧
  (∀ n f ago ue s, n < 16 → (s.isOn (canIsland n) = false ∨ 2 < s.emode n ∨ s.get (F.CB_CAN_STAT_STATE n) = 2 ∨
    (s.canSt n).tx.isSome = true ∨ f.fdf = true ∧ (s.canSt n).fdOn = false) → exec (.canFrameRx n f ago ue) s = .next s) ∧
  (∀ n ue k b rest s, n < 16 → s.isOn (canIsland n) = true → s.emode n = 0 → s.get (F.CB_CAN_STAT_STATE n) ≠ 2 →
    (s.canSt n).tx = none → s.tmSends n = true → (s.canSt n).refs = (k, b) :: rest →
    ∃ t f, exec (.canTxAttempt n ue) s = .next t ∧ (t.canSt n).tx.isSome = true ∧ t.out = s.out ++ [.can n f] ∧
      f.id = s.get (F.CB_CTRL_TM_CFG_REFID n)) ∧
  (∀ n k f s, n < 16 → s.isOn (canIsland n) = true → canSends (s.emode n) = true → s.get (F.CB_CAN_STAT_STATE n) < 2 →
    (s.canSt n).tx = none → (s.tmSends n = false ∨ (s.canSt n).refs = []) →
    (∀ j ∈ s.txQueues n, ∀ g, s.canHead n j = some g → badFrame g (s.canSt n).fdOn (s.qDsz n j) = false) →
    s.canChoice n = some (k, f) →
    ∃ t x, exec (.canTxAttempt n []) s = .next t ∧ (t.canSt n).tx = some x ∧ x.queue = k ∧ x.frame.id = f.id ∧ x.frame.data = f.data ∧
      (s.emode n = 0 → t.out = s.out ++ [.can n x.frame]) ∧ (s.emode n = 3 → t.out = s.out)) ∧
  (∀ n loop ue x s, n < 16 → (s.canSt n).tx = some x → (s.canLoop n x loop).getD 0 ≤ 255 →
    ∃ t, exec (.canTxEnd n ⟨.sent, loop, ue⟩) s = .next t ∧ (t.canSt n).tx = none ∧
      t.get (F.CB_CAN_TXCNT_FRAMES n) = (s.get (F.CB_CAN_TXCNT_FRAMES n) + 1) % 2 ^ (F.CB_CAN_TXCNT_FRAMES n).width ∧
      t.bit (F.CB_CAN_STAT_LONE n) = false) ∧
  (∀ n kind field loop ue x s, n < 16 → (s.canSt n).tx = some x → (s.canLoop n x loop).getD 0 ≤ 255 → s.emode n = 0 →
    ∃ t, exec (.canTxEnd n ⟨.error kind false field false 0, loop, ue⟩) s = .next t ∧ (t.canSt n).tx = none ∧
      t.get (F.CB_CAN_STAT_TEC n) = min 255 (s.get (F.CB_CAN_STAT_TEC n) + 8)) ∧
  (∀ n loop ue x s, n < 16 → (s.canSt n).tx = some x →
    ∃ t, exec (.canTxEnd n ⟨.lost, loop, ue⟩) s = .next t ∧ (t.canSt n).tx = none ∧
      t.get (F.CB_CAN_STAT_TEC n) = s.get (F.CB_CAN_STAT_TEC n)) ∧
  (∀ n e loop ue s, n < 16 → (s.canSt n).tx = none → exec (.canTxEnd n ⟨e, loop, ue⟩) s = .next s) ∧
  (∀ n kind d s, n < 16 → s.isOn (canIsland n) = true → s.emode n = 0 → s.get (F.CB_CAN_STAT_STATE n) < 2 → (s.canSt n).tx = none →
    kind ≠ 0 →
    ∃ t, exec (.canRxError n kind d false false 0) s = .next t ∧
      t.get (F.CB_CAN_STAT_REC n) = min 255 (s.get (F.CB_CAN_STAT_REC n) + 1)) ∧
  (∀ n d e m s, n < 16 → s.isOn (canIsland n) = true → s.emode n = 0 → s.get (F.CB_CAN_STAT_STATE n) < 2 → (s.canSt n).tx = none →
    ∃ t, exec (.canRxError n 0 d false e m) s = .next t ∧ t.out = s.out ++ [.canOverload n] ∧ t.regs = s.regs) ∧
  (∀ n kind d e m s, n < 16 → s.isOn (canIsland n) = true → s.emode n ≤ 2 → s.get (F.CB_CAN_STAT_STATE n) < 2 →
    (s.canSt n).tx = none → (s.canSt n).pxForm = false →
    ∃ t, exec (.canRxError n kind d true e m) s = .next t ∧ t.get (F.CB_CAN_STAT_STATE n) = 3 ∧
      t.get (F.CB_CAN_FCNT_PX n) = s.up (F.CB_CAN_FCNT_PX n) ∧ t.evt (P.CB_CAN n) 10 = true) ∧
  (∀ n kind d px e m s, n < 16 → (s.isOn (canIsland n) = false ∨ 2 < s.emode n ∨ 2 ≤ s.get (F.CB_CAN_STAT_STATE n) ∨
    (s.canSt n).tx.isSome = true) → exec (.canRxError n kind d px e m) s = .next s) ∧
  (∀ n s, n < 16 → s.isOn (canIsland n) = true → s.bit (F.CB_CTRL_TM_CFG_EN n) = true →
    ∃ t, exec (.referenceMessageDue n) s = .next t ∧ (t.canSt n).refs = ((s.canSt n).refs.filter fun e => e.2) ++
        (if s.tmSends n then [((s.trainNs / 1000 - s.tmPhase n) / s.tmPeriod n, false)] else []) ∧
      (((s.canSt n).refs.filter fun e => !e.2) ≠ [] → t.evt (P.CB_CAN n) 9 = true)) ∧
  ∀ n s, n < 16 → (s.isOn (canIsland n) = false ∨ s.bit (F.CB_CTRL_TM_CFG_EN n) = false) →
    exec (.referenceMessageDue n) s = .next s

/-- Queues of a CAN channel (R202, R204, R209, R210, R212). -/
def Obligations.CanQueues : Prop :=  (∀ q n k v s, n < 16 → k < 16 → s.carries q (R.CB_CAN_QCFG n k) = true → s.owns q (P.CB_CAN n) = true → s.qEn n k = false →
    v.getLsbD 31 = true → s.qEnableBad n k v = false →
    ∃ t, exec (.queueConfigWrite q n k v) s = .next t ∧ t.rd (R.CB_CAN_QCFG n k) = v ∧ t.rd (R.CB_CAN_QPTR n k) = 0) ∧
  (∀ q n k v s, n < 16 → k < 16 → s.carries q (R.CB_CAN_QCFG n k) = true → s.owns q (P.CB_CAN n) = true → s.qEn n k = false →
    v.getLsbD 31 = true → s.qEnableBad n k v = true →
    ∃ t, exec (.queueConfigWrite q n k v) s = .next t ∧ t.qEn n k = false ∧ t.evt (P.CB_CAN n) 8 = true) ∧
  (∀ q n k v s, n < 16 → k < 16 → s.carries q (R.CB_CAN_QCFG n k) = true → s.owns q (P.CB_CAN n) = true → s.qEn n k = false →
    v.getLsbD 31 = false →
    ∃ t, exec (.queueConfigWrite q n k v) s = .next t ∧ t.rd (R.CB_CAN_QCFG n k) = v) ∧
  (∀ q n k v s, n < 16 → k < 16 → s.carries q (R.CB_CAN_QCFG n k) = true → s.owns q (P.CB_CAN n) = true → s.qEn n k = true →
    s.rd (R.CB_CAN_QCFG n k) &&& 0x3C3FFFFF ≠ v &&& 0x3C3FFFFF →
    ∃ t, exec (.queueConfigWrite q n k v) s = .next t ∧ t.rd (R.CB_CAN_QCFG n k) = s.rd (R.CB_CAN_QCFG n k) ∧
      t.evt (P.CB_CAN n) 8 = true) ∧
  (∀ q n k v s, n < 16 → k < 16 → s.carries q (R.CB_CAN_QCFG n k) = true → s.owns q (P.CB_CAN n) = true → s.qEn n k = true →
    s.rd (R.CB_CAN_QCFG n k) &&& 0x3C3FFFFF = v &&& 0x3C3FFFFF →
    ∃ t, exec (.queueConfigWrite q n k v) s = .next t ∧ t.rd (R.CB_CAN_QCFG n k) = v ∧
      (v.getLsbD 31 = false → (s.canSt n).tx.map (·.queue) ≠ some k → t.rd (R.CB_CAN_QPTR n k) = 0)) ∧
  (∀ q n k v s, n < 16 → k < 8 → s.carries q (R.CB_CAN_QPTR n k) = true → ownerTakes (s.qOwner n k) q = true → s.qEn n k = true →
    v.toNat / 2 ^ 20 % 1024 < s.qSlots n k →
    ringDist (s.qSlots n k) (s.get (fGet n k)) (v.toNat / 2 ^ 20 % 1024) ≤
      ringDist (s.qSlots n k) (s.get (fGet n k)) (s.get (fPut n k)) →
    ∃ t, exec (.queuePointerWrite q n k v) s = .next t ∧ t.get (fGet n k) = v.toNat / 2 ^ 20 % 1024) ∧
  (∀ q n k v s, n < 16 → 8 ≤ k → k < 16 → s.carries q (R.CB_CAN_QPTR n k) = true → ownerTakes (s.qOwner n k) q = true →
    s.qEn n k = true → canSends (s.emode n) = true → v.toNat / 2 ^ 20 % 1024 < s.qSlots n k → v.toNat / 2 ^ 10 % 1024 < s.qSlots n k →
    ringDist (s.qSlots n k) (s.get (fGet n k)) (v.toNat / 2 ^ 20 % 1024) ≤
      ringDist (s.qSlots n k) (s.get (fGet n k)) (s.get (fDone n k)) →
    ringDist (s.qSlots n k) (s.get (fPut n k)) (v.toNat / 2 ^ 10 % 1024) ≤
      s.qSlots n k - 1 - ringDist (s.qSlots n k) (v.toNat / 2 ^ 20 % 1024) (s.get (fPut n k)) →
    ∃ t, exec (.queuePointerWrite q n k v) s = .next t ∧ t.get (fGet n k) = v.toNat / 2 ^ 20 % 1024 ∧
      t.get (fPut n k) = v.toNat / 2 ^ 10 % 1024) ∧
  (∀ q n k v s, n < 16 → k < 16 → s.carries q (R.CB_CAN_QPTR n k) = true → (ownerTakes (s.qOwner n k) q = false ∨ s.qEn n k = false ∨
      s.qSlots n k ≤ v.toNat / 2 ^ 20 % 1024) →
    ∃ t, exec (.queuePointerWrite q n k v) s = .next t ∧ t.rd (R.CB_CAN_QPTR n k) = s.rd (R.CB_CAN_QPTR n k) ∧
      t.evt (P.CB_CAN n) 7 = true) ∧
  (∀ q n k v s, n < 16 → 8 ≤ k → k < 16 → v.toNat = 2 ^ k → s.carries q (R.CB_CAN_CMD n) = true → s.qEn n k = true →
    s.qOwner n k ≠ 2 → (s.canSt n).tx.map (·.queue) ≠ some k →
    ∃ t, exec (.abort q n v) s = .next t ∧ t.canWaiting n k = 0) ∧
  (∀ q n k v s, n < 16 → 8 ≤ k → k < 16 → v.toNat = 2 ^ k → s.carries q (R.CB_CAN_CMD n) = true → s.qEn n k = true →
    s.qOwner n k ≠ 2 → (s.canSt n).tx.map (·.queue) = some k →
    ∃ t, exec (.abort q n v) s = .next t ∧ (k, s.get (fPut n k)) ∈ (t.canSt n).aborts ∧ t.mem = s.mem) ∧
  (∀ q h hi lo ue s, h < 2 → s.carries q (R.CB_CTRL_MDATA_HI h) = true →
    ∃ t, exec (.mdataAccess q h ⟨true, ue⟩ hi lo) s = .next t ∧
      t.rdBytes (s.mdataAddr h) 8 = beBytes 4 hi.toNat ++ beBytes 4 lo.toNat) ∧
  ∀ q h hi lo s, h < 2 → s.carries q (R.CB_CTRL_MDATA_LO h) = true →
    ∃ t, exec (.mdataAccess q h ⟨false, false⟩ hi lo) s = .next t ∧ t.mem = s.mem ∧ t.out = s.out ++
      [.readData q (R.CB_CTRL_MDATA_LO h) (BitVec.ofNat 32 (s.rdNum (s.mdataAddr h + 4) 4)),
       .readData q (R.CB_CTRL_MDATA_HI h) (BitVec.ofNat 32 (s.rdNum (s.mdataAddr h) 4))]

/-- Train time (R230, R235 to R239, R243). A WALL offset is committed at the grandmaster only, one at a time (R34, R238). A
pair's commit is the model's reading (log entry 68). -/
def Obligations.TrainTime : Prop :=
  ((∀ p f s, (s.timOn = false ∨ f.cls ≠ 5 ∨ nfMalformed f = true ∨ s.acceptTable f = none) → exec (.timeFrameRx p f) s = .next s) ∧
  (∀ p f s tab, s.timOn = true → f.cls = 5 → nfMalformed f = false → s.acceptTable f = some tab → s.addressed tab f = true →
    (f.flow ≠ 1 ∨ f.payload.length < 40) →
    ∃ t, exec (.timeFrameRx p f) s = .next t ∧ t.get F.TIM_SERVO_CNT_NOREF = s.up F.TIM_SERVO_CNT_NOREF ∧ t.tim = s.tim) ∧
  (∀ p f s tab, s.timOn = true → f.cls = 5 → nfMalformed f = false → s.acceptTable f = some tab → s.addressed tab f = true →
    f.flow = 1 → 40 ≤ f.payload.length → f.src ≠ 0 → s.identVeh tab f.src = 1 → s.timState = 5 → f.src ≠ s.node →
    ∃ t, exec (.timeFrameRx p f) s = .next t ∧ t.bit F.TIM_BASE_STAT_GM_CONFLICT = true ∧ t.evt P.TIM_BASE 6 = true) ∧
  (∀ p f s tab e cap, s.timOn = true → f.cls = 5 → nfMalformed f = false → s.acceptTable f = some tab → s.addressed tab f = true →
    f.flow = 1 → 40 ≤ f.payload.length → f.src ≠ 0 → f.src < 512 → s.identVeh tab f.src = 1 → s.timState = 0 →
    s.enabled P.TIM_BASE = true → s.tim.lastSrc = none → s.timeOffset p f = some (e, cap) →
    ∃ t, exec (.timeFrameRx p f) s = .next t ∧ t.timState = 2 ∧ t.tim.tt = ((s.tim.tt : Int) + e).toNat ∧
      t.get F.TIM_BASE_STAT_GM_NODE = f.src ∧ t.evt P.TIM_BASE 3 = true) ∧
  (∀ p f s tab e cap, s.timOn = true → f.cls = 5 → nfMalformed f = false → s.acceptTable f = some tab → s.addressed tab f = true →
    f.flow = 1 → 40 ≤ f.payload.length → f.src ≠ 0 → f.src < 512 → s.identVeh tab f.src = 1 → s.timState ≠ 0 → s.timState ≠ 5 →
    s.enabled P.TIM_BASE = true → s.tim.lastSrc = none → s.timeOffset p f = some (e, cap) →
    ∃ t, exec (.timeFrameRx p f) s = .next t ∧ t.get F.TIM_BASE_STAT_GM_NODE = f.src ∧
      t.get F.TIM_SERVO_USED_CNT = (s.get F.TIM_SERVO_USED_CNT + 1) % 2 ^ F.TIM_SERVO_USED_CNT.width ∧
      (s.servoRuns = true → (s.stepThr : Int) < e →
        t.tim.tt = ((s.tim.tt : Int) + e).toNat ∧ t.get F.TIM_SERVO_CNT_STEPS = s.up F.TIM_SERVO_CNT_STEPS ∧ t.evt P.TIM_BASE 1 = true) ∧
      (s.servoRuns = true → e < -(s.stepThr : Int) → t.bit F.TIM_BASE_STAT_AHEAD = true ∧ t.tim.tt = s.tim.tt) ∧
      (s.servoRuns = true → e.natAbs ≤ s.stepThr → t.bit F.TIM_BASE_STAT_AHEAD = false ∧ t.tim.tt = s.tim.tt)) ∧
  (∀ s, s.timOn = true → (s.timState = 2 ∨ s.timState = 3) → s.tfMiss * s.tfDiv ≤ s.tim.idle →
    ∃ t, exec .holdover s = .next t ∧ t.timState = 4 ∧ t.rd R.TIM_SERVO_ADJ = s.rd R.TIM_SERVO_INTEG ∧ t.evt P.TIM_SERVO 2 = true) ∧
  (∀ s, (s.timOn = false ∨ s.timState ≠ 2 ∧ s.timState ≠ 3 ∨ s.tim.idle < s.tfMiss * s.tfDiv) → exec .holdover s = .next s) ∧
  (∀ s, s.timOn = true → s.tfMiss * s.tfDiv ≤ s.tim.single →
    ∃ t, exec .gmConflictClear s = .next t ∧ t.bit F.TIM_BASE_STAT_GM_CONFLICT = false ∧ t.tim = s.tim) ∧
  (∀ s, (s.timOn = false ∨ s.tim.single < s.tfMiss * s.tfDiv) → exec .gmConflictClear s = .next s) ∧
  (∀ q v s, s.carries q R.TIM_BASE_CMD = true → s.owns q P.TIM_BASE = true → v.getLsbD 0 = true → s.timState = 0 →
    ∃ t, exec (.start q v) s = .next t ∧ t.timState = 1 ∧ t.tim.tt = s.mono5 * (nsUnit / 5) ∧ t.evt P.TIM_BASE 3 = true) ∧
  (∀ q v s, s.carries q R.TIM_BASE_CMD = true → s.owns q P.TIM_BASE = true → (v.getLsbD 0 = false ∨ s.timState ≠ 0) →
    ∃ t, exec (.start q v) s = .next t ∧ t.timState = s.timState ∧ t.tim = s.tim) ∧
  ∀ q v s, s.carries q R.TIM_TS_SEL = true →
    ∃ t, exec (.tsCaptureCopy q v) s = .next t ∧ t.rd R.TIM_TS_SEL = v &&& 7 ∧
      ∀ m, (v.toNat % 8, m) ∈ [(0, s.tim.capBoundary), (1, s.tim.recsA.headD .reset), (2, s.tim.recsB.headD .reset), (3, s.tim.capUsed)] →
        t.rd R.TIM_TS_CYC = BitVec.ofNat 32 m.cycle ∧ t.rd R.TIM_TS_LO = BitVec.ofNat 32 (m.tt / nsUnit) ∧
        t.rd R.TIM_TS_HI = BitVec.ofNat 32 (m.tt / nsUnit / 2 ^ 32) ∧ t.rd R.TIM_TS_D = BitVec.ofNat 32 (m.seg.toNat * 2 ^ 31 + m.d)) ∧
  ((∀ q hi lo s, s.carries q R.TIM_BASE_WOFS_HI = true → s.owns q P.TIM_BASE = true → 3 ≤ s.get (F.PG_LOCK_REMAIN P.TIM_BASE) →
    s.timState = 5 → s.bit F.TIM_BASE_WCTL_WPEND = false →
    ∃ t, exec (.wofsCommit q hi lo) s = .next t ∧ t.bit F.TIM_BASE_WCTL_WPEND = true ∧
      t.tim.pend = some ⟨hi.toNat * 2 ^ 32 + lo.toNat, (s.get F.TIM_BASE_WCTL_WGEN + 1) % 65536,
        (s.cycle + max 4 (s.get F.TIM_BASE_WCTL_WLEAD)) % 2 ^ 32⟩) ∧
  (∀ q hi lo s, s.carries q R.TIM_BASE_WOFS_HI = true → s.owns q P.TIM_BASE = true → 3 ≤ s.get (F.PG_LOCK_REMAIN P.TIM_BASE) →
    (s.timState ≠ 5 ∨ s.bit F.TIM_BASE_WCTL_WPEND = true) →
    ∃ t, exec (.wofsCommit q hi lo) s = .next t ∧ t.tim.pend = s.tim.pend ∧ t.evt P.TIM_BASE 5 = true))

/-- IEEE 802.1AS on a consist port (R241, R242). -/
def Obligations.ConsistPortTime : Prop :=  (∀ port seq s, s.asSends port = true →
    ∃ t, exec (.gptpSyncSend port seq) s = .next t ∧ t.out = s.out ++ [.gptp port (.sync seq),
      .gptp port (.followUp seq s.wall (s.get F.TIM_AS_TBI_TBI) s.tim.phaseChange 0)]) ∧
  (∀ port seq s, s.asSends port = true →
    ∃ t, exec (.gptpAnnounceSend port seq) s = .next t ∧ t.out = s.out ++ [.gptp port (.announce seq
      (if s.role = 1 ∨ s.role = 4 then s.get F.TIM_AS_PRIO_PRIO1_ACT else s.get F.TIM_AS_PRIO_PRIO1_SBY)
      (s.get F.TIM_AS_PRIO_CLASS) 0xFE 0x4E5D (s.get F.TIM_AS_PRIO_PRIO2) s.clockIdentity 0 0xA0
      (s.get F.TIM_AS_UTC_OFFSET) (s.bit F.TIM_AS_UTC_VALID))]) ∧
  (∀ port seq s, s.asSends port = false →
    exec (.gptpSyncSend port seq) s = .next s ∧ exec (.gptpAnnounceSend port seq) s = .next s) ∧
  (∀ port delay capable s, s.asEnabled port = true →
    ∃ t, exec (.gptpPdelay port delay false capable) s = .next t ∧ t.out = s.out ++ [.gptp port .pdelayReq] ∧ t.evt P.TIM_AS 1 = true ∧
      (capable = false → t.rdNum (asAddr port) 1 = 0)) ∧
  (∀ port delay capable s, s.asEnabled port = true →
    ∃ t, exec (.gptpPdelay port delay true capable) s = .next t ∧ t.out = s.out ++ [.gptp port .pdelayReq] ∧
      t.rdNum (asAddr port) 1 = (if capable = true ∧ delay ≤ 800 then 1 else 0)) ∧
  (∀ port seq s, s.asEnabled port = true →
    ∃ t, exec (.gptpMessageRx port (.pdelayReq seq)) s = .next t ∧ t.out = s.out ++ [.gptp port (.pdelayResp seq)]) ∧
  (∀ port delay capable s, s.asEnabled port = true →
    ∃ t, exec (.gptpMessageRx port (.pdelayResp delay capable)) s = .next t ∧ t.out = s.out ∧
      t.rdNum (asAddr port) 1 = (if capable = true ∧ delay ≤ 800 then 1 else 0)) ∧
  (∀ port s, s.asEnabled port = true →
    ∃ t, exec (.gptpMessageRx port .announce) s = .next t ∧
      t.rdNum (asAddr port + 7) 1 = min 255 (s.rdNum (asAddr port + 7) 1 + 1)) ∧
  ∀ port delay ok capable m s, s.asEnabled port = false →
    exec (.gptpPdelay port delay ok capable) s = .next s ∧ exec (.gptpMessageRx port m) s = .next s

/-- Lanterns and the confirmation of a partner's failure (R247, R249 to R252, R258, R259). The mirror witness falls silent
(R252). The level of the claim line as an operand is the model's choice (log entries 3, 15). -/
def Obligations.LanternsAndConfirmation : Prop :=
  ((∀ s, s.mlinkUp = true → s.role ≠ 4 →
    ∃ t, exec .mirrorLanternSend s = .next t ∧ t.out = s.out ++ [.mirror (mirrorBytes 1 0 (lanternBytes s.ownLantern))]) ∧
  (∀ s, (s.mlinkUp = false ∨ s.role = 4) → exec .mirrorLanternSend s = .next s) ∧
  (∀ payload s, s.mlinkUp = true → s.bit F.TWN_CTRL_ROLE_SOLO = false →
    ∃ t, exec (.mirrorLanternRx payload) s = .next t ∧ t.bit F.TWN_CTRL_ROLE_W_M = true ∧ t.twn.lastMirror = some s.mono ∧
      t.rd R.TWN_CTRL_PSER_LO = BitVec.ofNat 32 (lanternOf payload).serial) ∧
  (∀ payload s, s.mlinkUp = true → s.bit F.TWN_CTRL_ROLE_SOLO = true →
    ∃ t, exec (.mirrorLanternRx payload) s = .next t ∧ t.evt P.TWN_CTRL 12 = true ∧ t.twn = s.twn) ∧
  (∀ payload s, s.mlinkUp = false → exec (.mirrorLanternRx payload) s = .next s) ∧
  (∀ p f s, f.cls = 4 → f.flow = 1 → f.epn = false → f.len = 40 → s.twnOn = true → s.isPartner (lanternOf f.payload) = true →
    s.bit F.TWN_CTRL_ROLE_SOLO = false →
    ∃ t, exec (.backboneLanternRx p f) s = .next t ∧ t.twn.lastAny = some s.mono) ∧
  (∀ p f s, (f.cls ≠ 4 ∨ f.flow ≠ 1 ∨ f.epn = true ∨ f.len ≠ 40) → exec (.backboneLanternRx p f) s = .next s) ∧
  (∀ cause x s, s.twn.confirm = some (cause, x) → s.twnOn = true → s.visible = false → s.neighbours ≠ [] →
    ∃ t, exec .confirmReq s = .next t ∧ t.twn.confirm = some (cause, some (s.free 16).toNat)) ∧
  (∀ cause x s, s.twn.confirm = some (cause, x) → s.twnOn = true → s.visible = false → s.neighbours = [] →
    ∃ t, exec .confirmReq s = .next t ∧ t.twn.confirm = none ∧ t.evt P.TWN_CTRL 11 = true) ∧
  (∀ s, (s.twn.confirm = none ∨ s.twnOn = false ∨ s.visible = true) → exec .confirmReq s = .next s) ∧
  (∀ p f s, s.class4For 2 f = true →
    ∃ t, exec (.confirmReqRx p f) s = .next t ∧ ∀ l, ∀ x ∈ s.exitPorts l 0 f.src, s.linked x = true →
      .native x (s.wire (Config.ownTc 4).toNat (nfOnLine (s.ownFrame 4 0 f.src 3 (f.payload.take 18 ++
        beBytes 4 (match s.twn.heard.find? fun e => e.1 == payNum f 8 8 with
          | some e => min 0xFFFFFFFE ((s.mono - e.2) / 1000)
          | none => 0xFFFFFFFF) ++ [0, 0])) x.line)) ∈ t.out) ∧
  (∀ p f s, s.class4For 2 f = false → exec (.confirmReqRx p f) s = .next s) ∧
  (∀ p f low cause nonce s, s.twn.confirm = some (cause, some nonce) → s.class4For 3 f = true → payNum f 0 8 = s.serial →
    payNum f 16 2 = nonce → payNum f 18 4 < cycleUsOf s.actCyc →
    ∃ t, exec (.confirm p f low) s = .next t ∧ t.get F.TWN_CTRL_CNT_VETOES = s.up F.TWN_CTRL_CNT_VETOES ∧ t.evt P.TWN_CTRL 6 = true) ∧
  (∀ p f low cause nonce s, s.twn.confirm = some (cause, some nonce) → s.class4For 3 f = true → payNum f 0 8 = s.serial →
    payNum f 16 2 = nonce → cycleUsOf s.actCyc ≤ payNum f 18 4 →
    ∃ t, exec (.confirm p f low) s = .next t ∧ t.twn.confirm = none) ∧
  (∀ p f low s, (s.twn.confirm = none ∨ s.class4For 3 f = false ∨ payNum f 0 8 ≠ s.serial) → exec (.confirm p f low) s = .next s) ∧
  (∀ x s, s.twn.confirm = some x →
    ∃ t, exec .confTExpire s = .next t ∧ t.twn.confirm = none ∧ t.evt P.TWN_CTRL 11 = true) ∧
  ∀ s, s.twn.confirm = none → exec .confTExpire s = .next s) ∧
  ((∀ low (s : State), s.hlt.abortDue = false → (s.twnOn = false ∨ s.bit F.TWN_CTRL_ROLE_W_M = false) →
    exec (.mirrorWitnessLost low) s = .next s) ∧
  ∀ low (s : State), s.twnOn = true → s.bit F.TWN_CTRL_ROLE_W_M = true →
    ∃ t, exec (.mirrorWitnessLost low) s = .next t ∧ t.bit F.TWN_CTRL_ROLE_W_M = false)

/-- The claim line and the mirror link (R248, R254, R255, R257, R259, R262, R263). Levels of the line as operands are the
model's choice (log entry 15). -/
def Obligations.ClaimLineAndMirrorLink : Prop :=  (∀ s, s.twnOn = true → s.role = 0 → s.visible = false → s.elig = true → s.twn.failed = false → s.bit F.TWN_CTRL_ROLE_SOLO = false →
    s.get F.TWN_CTRL_ROLE_CLAIM_FAULT = 0 → s.bit F.TWN_CTRL_ROLE_CLAIM_DRV = false → s.get F.TWN_CTRL_ROLE_TPOS_EFF = 0 →
    ∃ t, exec (.startTExpire false) s = .next t ∧ t.role = 1 ∧ t.bit F.TWN_CTRL_ROLE_CLAIM_DRV = true ∧ .claim true ∈ t.out) ∧
  (∀ s, s.twnOn = true → s.role = 0 → s.visible = false → s.elig = true → s.twn.failed = false → s.bit F.TWN_CTRL_ROLE_SOLO = false →
    s.get F.TWN_CTRL_ROLE_CLAIM_FAULT = 0 → s.bit F.TWN_CTRL_ROLE_CLAIM_DRV = false → s.get F.TWN_CTRL_ROLE_TPOS_EFF = 0 →
    ∃ t, exec (.startTExpire true) s = .next t ∧ t.role = 3 ∧ t.get F.TWN_CTRL_CNT_DEFERS = s.up F.TWN_CTRL_CNT_DEFERS ∧
      t.evt P.TWN_CTRL 2 = true) ∧
  (∀ low s, s.twnOn = true → s.role = 0 → s.visible = false → s.elig = true → s.twn.failed = false →
    s.bit F.TWN_CTRL_ROLE_SOLO = false → s.get F.TWN_CTRL_ROLE_CLAIM_FAULT = 0 → s.bit F.TWN_CTRL_ROLE_CLAIM_DRV = false →
    s.get F.TWN_CTRL_ROLE_TPOS_EFF ≠ 0 →
    ∃ t, exec (.startTExpire low) s = .next t ∧ t.role = 0 ∧ t.twn.waiting = some 1) ∧
  (∀ low s, (s.twnOn = false ∨ s.role ≠ 0 ∨ s.visible = true ∨ s.elig = false ∨ s.twn.failed = true ∨
    s.bit F.TWN_CTRL_ROLE_SOLO = true) → exec (.startTExpire low) s = .next s) ∧
  (∀ cause s, s.twn.waiting = some cause → s.role = 2 → s.elig = true →
    ∃ t, exec (.claimWaitEnd true) s = .next t ∧ t.role = 1 ∧ t.evt P.TWN_CTRL 1 = true ∧ t.twn.waiting = none) ∧
  (∀ cause s, s.twn.waiting = some cause → s.role = 2 → s.elig = true →
    ∃ t, exec (.claimWaitEnd false) s = .next t ∧ t.role = 3 ∧ t.get F.TWN_CTRL_CNT_DEFERS = s.up F.TWN_CTRL_CNT_DEFERS ∧
      t.evt P.TWN_CTRL 2 = true) ∧
  (∀ high cause s, s.twn.waiting = some cause → s.role = 2 → s.elig = false →
    ∃ t, exec (.claimWaitEnd high) s = .next t ∧ t.role = 2 ∧ t.evt P.TWN_CTRL 11 = true ∧ t.twn.waiting = none) ∧
  (∀ high s, s.twn.waiting = none → exec (.claimWaitEnd high) s = .next s) ∧
  (∀ s, s.twnOn = true → s.bit F.TWN_CTRL_ROLE_CLAIM_DRV = true →
    ∃ t, exec (.claimStuck true) s = .next t ∧ t.get F.TWN_CTRL_ROLE_CLAIM_FAULT = 2 ∧ t.bit F.TWN_CTRL_ROLE_CLAIM_IN = false) ∧
  (∀ l at' s, s.twnOn = true → s.twn.partner = some l → l.claimDrv = false → s.bit F.TWN_CTRL_ROLE_CLAIM_DRV = false →
    s.bit F.TWN_CTRL_ROLE_W_M = true → s.twn.lastMirror = some at' → s.mono - at' ≤ 20000 →
    ∃ t, exec (.claimStuck false) s = .next t ∧ t.get F.TWN_CTRL_ROLE_CLAIM_FAULT = 1 ∧ t.bit F.TWN_CTRL_ROLE_CLAIM_IN = true) ∧
  (∀ high s, (s.twnOn = false ∨ s.bit F.TWN_CTRL_ROLE_CLAIM_DRV = !high) → exec (.claimStuck high) s = .next s) ∧
  (∀ lowIn highAfter l s, s.twnOn = true → s.get F.TWN_CTRL_CFG_CLT_PER ≠ 0 →
    s.cycle % (s.get F.TWN_CTRL_CFG_CLT_PER * 1000) =
      (if s.get F.TWN_CTRL_ROLE_TPOS_EFF = 0 then 0 else s.get F.TWN_CTRL_CFG_CLT_PER * 1000 / 2) →
    s.bit F.TWN_CTRL_ROLE_CLAIM_DRV = false → s.twn.partner = some l → l.claimDrv = false → s.bit F.TWN_CTRL_ROLE_W_M = true →
    s.bit F.TWN_CTRL_ROLE_SOLO = false →
    ∃ t, exec (.claimLineTest lowIn highAfter) s = .next t ∧ .claim true ∈ t.out ∧ .claim false ∈ t.out ∧
      t.get F.TWN_CTRL_ROLE_CLAIM_FAULT = (if lowIn = false then 2 else if highAfter = false then 1
        else if s.twn.clrFault = true then 0 else s.get F.TWN_CTRL_ROLE_CLAIM_FAULT)) ∧
  (∀ lowIn highAfter s, (s.twnOn = false ∨ s.get F.TWN_CTRL_CFG_CLT_PER = 0 ∨ s.bit F.TWN_CTRL_ROLE_CLAIM_DRV = true ∨
    s.bit F.TWN_CTRL_ROLE_W_M = false ∨ s.bit F.TWN_CTRL_ROLE_SOLO = true) → exec (.claimLineTest lowIn highAfter) s = .next s) ∧
  (∀ q s, s.carries q R.TWN_CTRL_CMD = true → s.owns q P.TWN_CTRL = true →
    ∃ t, exec (.clrFault q 0x10) s = .next t ∧
      t.twn.clrFault = (s.twn.clrFault || s.get F.TWN_CTRL_ROLE_CLAIM_FAULT != 0)) ∧
  (∀ s, s.twnOn = true → ∃ t, exec .mirrorLinkUp s = .next t ∧ t.get F.TWN_MLINK_STAT_STATE = 3 ∧
    t.bit F.TWN_MLINK_STAT_L0_LOCK = true ∧ t.bit F.TWN_MLINK_STAT_L1_LOCK = true ∧ t.evt P.TWN_MLINK 0 = true) ∧
  (∀ second s, s.twnOn = true → ∃ t, exec (.laneDegr second) s = .next t ∧ t.get F.TWN_MLINK_STAT_STATE = 2 ∧
    t.bit F.TWN_MLINK_STAT_L0_LOCK = second ∧ t.bit F.TWN_MLINK_STAT_L1_LOCK = !second ∧ t.evt P.TWN_MLINK 1 = true) ∧
  (∀ s, s.twnOn = true → ∃ t, exec .mirrorLinkDown s = .next t ∧ t.get F.TWN_MLINK_STAT_STATE = 0 ∧ t.twn.base = none ∧
    t.evt P.TWN_MLINK 0 = true) ∧
  (∀ s, s.twnOn = true → ∃ t, exec .mirrorCrcErr s = .next t ∧ t.get F.TWN_MLINK_ERR_CRC_ERR = s.up F.TWN_MLINK_ERR_CRC_ERR) ∧
  ∀ second s, s.twnOn = false → exec .mirrorLinkUp s = .next s ∧ exec (.laneDegr second) s = .next s ∧
    exec .mirrorLinkDown s = .next s ∧ exec .mirrorCrcErr s = .next s

/-- Handovers, isolation, rejoining and admission (R248, R259 to R261, R269). The order of refusals is the model's reading (log
entry 14). -/
def Obligations.RolesAndHandovers : Prop :=  (∀ q l s, s.carries q R.TWN_CTRL_CMD = true → s.owns q P.TWN_CTRL = true → s.role = 1 → s.twn.ho = none → s.mlinkUp = true →
    s.bit F.TWN_CTRL_ROLE_W_M = true → s.twn.partner = some l → l.role = 2 → l.synced = true → l.elig = true →
    ∃ t, exec (.handover q 1) s = .next t ∧ t.get F.TWN_CTRL_HO_RESULT = 1 ∧
      t.twn.ho = some ⟨(s.cycle + 8) % 2 ^ 32, false, 3, s.cycle, false⟩) ∧
  (∀ q s, s.carries q R.TWN_CTRL_CMD = true → s.owns q P.TWN_CTRL = true → s.role = 1 → s.twn.ho = none → s.mlinkUp = false →
    ∃ t, exec (.handover q 1) s = .next t ∧ t.get F.TWN_CTRL_HO_RESULT = 6 ∧ t.twn.ho = none ∧ t.evt P.TWN_CTRL 10 = true) ∧
  (∀ q l s, s.carries q R.TWN_CTRL_CMD = true → s.owns q P.TWN_CTRL = true → s.role = 1 → s.twn.ho = none → s.mlinkUp = true →
    s.bit F.TWN_CTRL_ROLE_W_M = true → s.twn.partner = some l → (l.role ≠ 2 ∨ l.synced = false ∨ l.elig = false) →
    ∃ t, exec (.handover q 1) s = .next t ∧
      t.get F.TWN_CTRL_HO_RESULT = (if l.role ≠ 2 then 2 else if l.synced = false then 3 else 4) ∧ t.twn.ho = none ∧
      t.evt P.TWN_CTRL 10 = true) ∧
  (∀ q s, s.carries q R.TWN_CTRL_CMD = true → s.role ≠ 1 → ∃ t, exec (.handover q 1) s = .next t ∧ t.twn = s.twn) ∧
  (∀ q s, s.carries q R.TWN_CTRL_CMD = true → s.owns q P.TWN_CTRL = true → s.role = 2 →
    ∃ t, exec (.isolate q 2) s = .next t ∧ t.role = 3 ∧ t.evt P.TWN_CTRL 0 = true) ∧
  (∀ q s, s.carries q R.TWN_CTRL_CMD = true → s.owns q P.TWN_CTRL = true → s.role = 1 → s.twn.ho = none → s.mlinkUp = false →
    ∃ t, exec (.isolate q 2) s = .next t ∧ t.role = 3 ∧ t.evt P.TWN_CTRL 0 = true) ∧
  (∀ q l s, s.carries q R.TWN_CTRL_CMD = true → s.owns q P.TWN_CTRL = true → s.role = 1 → s.twn.ho = none → s.mlinkUp = true →
    s.bit F.TWN_CTRL_ROLE_W_M = true → s.twn.partner = some l → l.role = 2 → l.synced = true → l.elig = true →
    ∃ t, exec (.isolate q 2) s = .next t ∧ t.role = 1 ∧ t.twn.ho = some ⟨(s.cycle + 8) % 2 ^ 32, true, 6, s.cycle, false⟩) ∧
  (∀ q s, s.carries q R.TWN_CTRL_CMD = true → s.role ≠ 1 → s.role ≠ 2 →
    ∃ t, exec (.isolate q 2) s = .next t ∧ t.role = s.role ∧ t.twn = s.twn) ∧
  (∀ q s, s.carries q R.TWN_CTRL_CMD = true → s.owns q P.TWN_CTRL = true → s.role = 3 →
    ∃ t, exec (.rejoin q 8) s = .next t ∧ t.role = 0 ∧ t.twn.mayRejoin = false ∧ t.evt P.TWN_CTRL 0 = true) ∧
  (∀ q s, s.carries q R.TWN_CTRL_CMD = true → s.role ≠ 3 →
    ∃ t, exec (.rejoin q 8) s = .next t ∧ t.role = s.role ∧ t.twn = s.twn) ∧
  (∀ q s, s.carries q R.TWN_CTRL_CMD = true → s.owns q P.TWN_CTRL = true →
    ∃ t, exec (.admitPartner q 4) s = .next t ∧ t.twn.granted = (s.twn.granted || s.role == 1 && s.partnerAsks)) ∧
  (∀ h s, s.twn.ho = some h → h.accepted = false → 4 ≤ s.sinceCycle h.since →
    ∃ t, exec .handoverDeclined s = .next t ∧ t.twn.ho = none ∧ t.get F.TWN_CTRL_HO_RESULT = 5 ∧ t.evt P.TWN_CTRL 10 = true ∧
      (h.cause = 6 → s.role = 1 → t.role = 3)) ∧
  (∀ s, (s.twn.ho = none ∨ ∃ h, s.twn.ho = some h ∧ (h.accepted = true ∨ s.sinceCycle h.since < 4)) →
    exec .handoverDeclined s = .next s) ∧
  (∀ cause l s, s.twnOn = true → s.role = 1 → s.bit F.TWN_CTRL_CFG_AUTO_HO = true → s.twn.ho = none →
    (cause = 0 ∧ s.mgtReady = false ∨ cause = 1 ∧ s.get F.HLT_CTRL_NODE_LEVEL = 3 ∨ 2 ≤ cause ∧ s.elig = false) →
    s.mlinkUp = true → s.bit F.TWN_CTRL_ROLE_W_M = true → s.twn.partner = some l → l.role = 2 → l.synced = true → l.elig = true →
    ∃ t, exec (.autoHandoverCause cause) s = .next t ∧
      t.twn.ho = some ⟨(s.cycle + 8) % 2 ^ 32, decide (cause < 2), if cause < 2 then 7 else 3, s.cycle, false⟩) ∧
  (∀ cause s, (s.twnOn = false ∨ s.role ≠ 1 ∨ s.bit F.TWN_CTRL_CFG_AUTO_HO = false ∨ s.twn.ho.isSome = true ∨
    cause = 0 ∧ s.mgtReady = true ∨ cause = 1 ∧ s.get F.HLT_CTRL_NODE_LEVEL ≠ 3 ∨ 2 ≤ cause ∧ s.elig = true) →
    exec (.autoHandoverCause cause) s = .next s) ∧
  (∀ s, s.twn.hoTake.isSome = true → s.role = 2 → s.elig = true →
    ∃ t, exec .handoverWaitEnd s = .next t ∧ t.role = 1 ∧ t.twn.hoTake = none ∧
      t.get F.TWN_CTRL_CNT_HANDOVERS = s.up F.TWN_CTRL_CNT_HANDOVERS ∧ t.evt P.TWN_CTRL 9 = true) ∧
  (∀ s, s.twn.hoTake.isSome = true → s.role = 2 → s.elig = false →
    ∃ t, exec .handoverWaitEnd s = .next t ∧ t.role = 2 ∧ t.twn.hoTake = none) ∧
  ∀ s, (s.twn.hoTake = none ∨ s.role ≠ 2) → exec .handoverWaitEnd s = .next s

/-- Mirror epochs and baselines (R264 to R267). The first epoch after a baseline is the model's reading (log entry 13). -/
def Obligations.MirrorEpochs : Prop :=  (∀ item r s, s.itemRec item = some r → s.role = 1 → s.mlinkUp = true → s.twn.overflow = false →
    s.twn.sent.bytes + (recBytes r).length ≤ 262144 →
    ∃ t, exec (.epochRecord item) s = .next t ∧ t.twn.sent = s.twn.sent.add r ∧
      t.out = s.out ++ [.mirror (mirrorBytes 2 s.cycle (recBytes r))]) ∧
  (∀ item r s, s.itemRec item = some r → s.role = 1 → s.mlinkUp = true → s.twn.overflow = false →
    262144 < s.twn.sent.bytes + (recBytes r).length →
    ∃ t, exec (.epochRecord item) s = .next t ∧ t.twn.overflow = true ∧ t.twn.sent = s.twn.sent ∧ t.out = s.out) ∧
  (∀ item s, (s.itemRec item = none ∨ s.role ≠ 1 ∨ s.mlinkUp = false ∨ s.twn.overflow = true) →
    exec (.epochRecord item) s = .next s) ∧
  (∀ n payload b s, s.role = 2 → s.mlinkUp = true → s.twn.buf = some b → b.n = n →
    ∃ t, exec (.erecRx n payload) s = .next t ∧ t.twn.buf = some (b.take payload)) ∧
  (∀ n payload s, s.role = 2 → s.mlinkUp = true → s.twn.buf = none →
    ∃ t, exec (.erecRx n payload) s = .next t ∧ t.twn.buf = some ((MBuf.empty n).take payload)) ∧
  (∀ n payload b s, s.role = 2 → s.mlinkUp = true → s.twn.buf = some b → b.n ≠ n →
    ∃ t, exec (.erecRx n payload) s = .next t ∧ t.twn.buf = some ((MBuf.empty n).take payload) ∧ t.synced = false ∧
      t.get F.TWN_MLINK_ERR_DISCARD = s.up F.TWN_MLINK_ERR_DISCARD ∧ t.evt P.TWN_MLINK 2 = true) ∧
  (∀ n payload b s, s.role = 2 → s.mlinkUp = true → s.twn.buf = some b → b.n = n → closeOk b payload = true →
    (s.synced = false ∨ n = (s.twn.committed + 1) % 2 ^ 32) →
    ∃ t, exec (.ecloseRx n payload) s = .next t ∧ t.twn.committed = n) ∧
  (∀ n payload b s, s.role = 2 → s.mlinkUp = true → s.twn.buf = some b → b.n = n →
    (closeOk b payload = false ∨ s.synced = true ∧ n ≠ (s.twn.committed + 1) % 2 ^ 32) →
    ∃ t, exec (.ecloseRx n payload) s = .next t ∧ t.twn.committed = s.twn.committed ∧ t.twn.buf = none ∧ t.synced = false ∧
      t.get F.TWN_MLINK_ERR_DISCARD = s.up F.TWN_MLINK_ERR_DISCARD ∧ t.evt P.TWN_MLINK 2 = true) ∧
  (∀ e s, s.twn.tope = some e → e ≠ s.epoch → s.get F.TOP_SHADOW_GRACE = 0 →
    ∃ t, exec .epochMismatch s = .next t ∧ t.twn.tope = none ∧ t.evt P.TWN_MLINK 5 = true) ∧
  (∀ s, s.twn.tope = some s.epoch → s.get F.TOP_SHADOW_GRACE = 0 →
    ∃ t, exec .epochMismatch s = .next t ∧ t.twn.tope = none ∧ t.regs = s.regs) ∧
  (∀ s, (s.twn.tope = none ∨ s.get F.TOP_SHADOW_GRACE ≠ 0) → exec .epochMismatch s = .next s) ∧
  (∀ n payload s, s.role = 2 → s.mlinkUp = true → s.synced = false →
    ∃ t, exec (.brecRx n payload) s = .next t ∧ t.twn.base.isSome = true ∧ t.bit F.TWN_MLINK_STAT_BASE = true) ∧
  (∀ n payload b s, s.role = 2 → s.mlinkUp = true → s.synced = false → s.twn.base = some b → b.n = n → closeOk b payload = true →
    ∃ t, exec (.bcloseRx n payload) s = .next t ∧ t.twn.bclosed = true ∧ t.twn.base = none ∧ t.bit F.TWN_MLINK_STAT_BASE = false) ∧
  (∀ n payload b s, s.role = 2 → s.mlinkUp = true → s.synced = false → s.twn.base = some b → b.n = n → closeOk b payload = false →
    s.twn.bclosed = false →
    ∃ t, exec (.bcloseRx n payload) s = .next t ∧ t.twn.resync = true ∧ t.twn.base = none) ∧
  (∀ n payload s, (s.role ≠ 2 ∨ s.mlinkUp = false) →
    exec (.erecRx n payload) s = .next s ∧ exec (.ecloseRx n payload) s = .next s ∧
    exec (.brecRx n payload) s = .next s ∧ exec (.bcloseRx n payload) s = .next s) ∧
  ∀ n payload s, s.synced = true → exec (.brecRx n payload) s = .next s ∧ exec (.bcloseRx n payload) s = .next s

/-- The endpoint of the host bridge (R275, R277, R286, R287, R366). Places of the configuration bits are presumed (log entry
30). -/
def Obligations.HostEndpoint : Prop :=  (∀ kind s, s.isOn I.HBR = true →
    ∃ t, exec (.endpointReset kind) s = .next t ∧ t.psc.reads = [] ∧
      (kind = .flr → t.evt P.HBR_CTRL 3 = true ∧ t.rd R.HBR_CTRL_LINK = s.rd R.HBR_CTRL_LINK &&& 0x8F070000) ∧
      (kind ≠ .flr → s.bit F.HBR_CTRL_LINK_UP = true → t.evt P.HBR_CTRL 0 = true)) ∧
  (∀ speed width s, s.isOn I.HBR = true → s.bit F.HBR_CTRL_LINK_UP = false → s.bit F.SYS_CLK_STAT_PCIE_OK = true →
    s.get (F.SYS_CLK_ISL_CUR I.HBR) ≠ 0 → speed < 8 → width < 8 →
    ∃ t, exec (.pcieLinkUp speed width) s = .next t ∧ t.bit F.HBR_CTRL_LINK_UP = true ∧ t.get F.HBR_CTRL_LINK_SPEED = speed ∧
      t.get F.HBR_CTRL_LINK_WIDTH = width ∧ t.evt P.HBR_CTRL 0 = true) ∧
  (∀ speed width s, (s.isOn I.HBR = false ∨ s.bit F.HBR_CTRL_LINK_UP = true ∨ s.bit F.SYS_CLK_STAT_PCIE_OK = false ∨
    s.get (F.SYS_CLK_ISL_CUR I.HBR) = 0) → exec (.pcieLinkUp speed width) s = .next s) ∧
  (∀ reg v s, s.isOn I.HBR = true → s.bit F.HBR_CTRL_LINK_UP = true →
    ∃ t, exec (.configRequest reg (some v)) s = .next t ∧ .cfgDone none ∈ t.out ∧
      (reg = .command → t.bit F.HBR_CTRL_LINK_BME = v.getLsbD 2) ∧
      (reg = .msix → t.bit F.HBR_CTRL_LINK_MSIXEN = v.getLsbD 31 ∧ t.bit F.HBR_CTRL_LINK_FMASK = v.getLsbD 30) ∧
      (reg = .power → v.toNat % 4 = 3 → t.bit F.HBR_CTRL_LINK_D3 = true) ∧
      (reg = .power → v.toNat % 4 = 0 → t.bit F.HBR_CTRL_LINK_D3 = false)) ∧
  (∀ reg s, s.isOn I.HBR = true → s.bit F.HBR_CTRL_LINK_UP = true →
    ∃ t, exec (.configRequest reg none) s = .next t ∧ t.out = s.out ++ [.cfgDone (some (s.cfgRead reg))] ∧ t.regs = s.regs) ∧
  (∀ reg write s, (s.isOn I.HBR = false ∨ s.bit F.HBR_CTRL_LINK_UP = false) → exec (.configRequest reg write) s = .next s) ∧
  (∀ status header s, s.isOn I.HBR = true → ∃ t, exec (.aer status header) s = .next t ∧ t.evt P.HBR_CTRL 4 = true) ∧
  (∀ on s, s.isOn I.HBR = true → ∃ t, exec (.bmeChange on) s = .next t ∧ t.bit F.HBR_CTRL_LINK_BME = on) ∧
  (∀ kind status header on s, s.isOn I.HBR = false →
    exec (.endpointReset kind) s = .next s ∧ exec (.aer status header) s = .next s ∧ exec (.bmeChange on) s = .next s) ∧
  (∀ q vec v s, vec < 32 → s.carries q (R.HBR_MSIX_V_CTRL vec) = true →
    ∃ t, exec (.msixUnmask q vec v) s = .next t ∧ t.bit (F.HBR_MSIX_V_CTRL_MASK vec) = v.getLsbD 0) ∧
  ∀ q vec v s, vec < 32 → s.carries q (R.HBR_MSIX_V_CTRL vec) = true → v.getLsbD 0 = false → s.bit (pbaFld vec) = true →
    s.isOn I.HBR = true → s.bit F.HBR_CTRL_LINK_MSIXEN = true → s.bit F.HBR_CTRL_LINK_BME = true →
    s.bit F.HBR_CTRL_LINK_FMASK = false → s.bit F.HBR_CTRL_LINK_D3 = false →
    ∃ t, exec (.msixUnmask q vec v) s = .next t ∧ s.msixMsg vec ∈ t.out ∧ t.bit (pbaFld vec) = false

/-- Windows and rings of the host bridge (R279, R282, R283, R285, R286). Corners of descriptors are the model's readings (log
entry 27). -/
def Obligations.HostWindowsAndRings : Prop :=  (∀ q n v s, n < 16 → s.carries q (R.HBR_IWIN_CFG n) = true → s.bit (F.HBR_IWIN_CFG_EN n) = false → v.getLsbD 31 = true →
    ∃ t, exec (.iwinEnable q n v) s = .next t ∧
      if (s.wr (R.HBR_IWIN_CFG n) (v &&& 0x731F0007)).iwinBad n = true then
        t.bit (F.HBR_IWIN_CFG_EN n) = false ∧ t.evt P.HBR_IWIN 0 = true
      else t.bit (F.HBR_IWIN_CFG_EN n) = true) ∧
  (∀ q n v s, n < 16 → s.carries q (R.HBR_IWIN_CFG n) = true → (s.bit (F.HBR_IWIN_CFG_EN n) = true ∨ v.getLsbD 31 = false) →
    ∃ t, exec (.iwinEnable q n v) s = .next t ∧ t.bit (F.HBR_IWIN_CFG_EN n) = v.getLsbD 31) ∧
  (∀ q m v s, m < 8 → s.carries q (R.HBR_OWIN_CFG m) = true → v.getLsbD 31 = true →
    ∃ t, exec (.owinEnable q m v) s = .next t ∧
      if s.owinHaddr m % 2 ^ (s.wr (R.HBR_OWIN_CFG m) (v &&& 0x703F0000)).owinSize m = 0 then t.bit (F.HBR_OWIN_CFG_EN m) = true
      else t.bit (F.HBR_OWIN_CFG_EN m) = false ∧ t.evt P.HBR_OWIN 4 = true) ∧
  (∀ q m v s, m < 8 → s.carries q (R.HBR_OWIN_CFG m) = true → v.getLsbD 31 = false →
    ∃ t, exec (.owinEnable q m v) s = .next t ∧ t.rd (R.HBR_OWIN_CFG m) = v &&& 0x703F0000) ∧
  (∀ q r v s, r < 9 → s.carries q (R.HBR_RING_CFG r) = true →
    ∃ t, exec (.ringEnable q r v) s = .next t ∧ t.bit (F.HBR_RING_CFG_EN r) = v.getLsbD 31 ∧
      (s.bit (F.HBR_RING_CFG_EN r) = false → t.rd (R.HBR_RING_CFG r) = v &&& 0xC70003FF) ∧
      (v.getLsbD 31 = true → t.rd (R.HBR_RING_PTR r) = 0)) ∧
  (∀ q r v s, r < 9 → s.carries q (R.HBR_RING_PTR r) = true → v.toNat / 65536 % 1024 < s.ringDesc r →
    ringDist (s.ringDesc r) (s.get (F.HBR_RING_PTR_DONE r)) (s.get (F.HBR_RING_PTR_PUT r)) ≤
      ringDist (s.ringDesc r) (s.get (F.HBR_RING_PTR_DONE r)) (v.toNat / 65536 % 1024) →
    ∃ t, exec (.ringPutWrite q r v) s = .next t ∧ t.get (F.HBR_RING_PTR_PUT r) = v.toNat / 65536 % 1024) ∧
  (∀ q r v s, r < 9 → s.carries q (R.HBR_RING_PTR r) = true → (s.ringDesc r ≤ v.toNat / 65536 % 1024 ∨
    ringDist (s.ringDesc r) (s.get (F.HBR_RING_PTR_DONE r)) (v.toNat / 65536 % 1024) <
      ringDist (s.ringDesc r) (s.get (F.HBR_RING_PTR_DONE r)) (s.get (F.HBR_RING_PTR_PUT r))) →
    ∃ t, exec (.ringPutWrite q r v) s = .next t ∧ t.rd (R.HBR_RING_PTR r) = s.rd (R.HBR_RING_PTR r) ∧ t.evt P.HBR_OWIN 3 = true) ∧
  (∀ k x xs mem s, k < 8 → s.queue 12 k = x :: xs → x.mgt = false → s.ringReady k = true →
    s.dmaFits (s.get (F.HBR_RING_CFG_OWIN k)) (s.descAt k) 16 = true →
    ∃ t, exec (.rxRingDeliver k mem) s = .next t ∧ t.queue 12 k = xs ∧
      t.get (F.HBR_RING_PTR_DONE k) = (s.get (F.HBR_RING_PTR_DONE k) + 1) % s.ringDesc k) ∧
  (∀ k x xs mem s, k < 8 → s.queue 12 k = x :: xs → x.mgt = false → s.ringReady k = true →
    s.dmaFits (s.get (F.HBR_RING_CFG_OWIN k)) (s.descAt k) 16 = false →
    ∃ t, exec (.rxRingDeliver k mem) s = .next t ∧ t.fab = s.fab ∧ t.evt P.HBR_OWIN 2 = true) ∧
  (∀ k mem s, k < 8 → (s.queue 12 k = [] ∨ s.ringReady k = false) → exec (.rxRingDeliver k mem) s = .next s) ∧
  (∀ mem readError s, s.ringReady 8 = true → s.dmaFits (s.get (F.HBR_RING_CFG_OWIN 8)) (s.descAt 8) 16 = true →
    ∃ t, exec (.txDescriptor mem readError) s = .next t ∧
      t.get (F.HBR_RING_PTR_DONE 8) = (s.get (F.HBR_RING_PTR_DONE 8) + 1) % s.ringDesc 8 ∧
      (readError = true → t.get (F.HBR_RING_CNT_ERR 8) = s.up (F.HBR_RING_CNT_ERR 8) ∧ t.evt P.HBR_OWIN 2 = true)) ∧
  (∀ mem readError s, s.ringReady 8 = true → s.dmaFits (s.get (F.HBR_RING_CFG_OWIN 8)) (s.descAt 8) 16 = false →
    ∃ t, exec (.txDescriptor mem readError) s = .next t ∧ t.fab = s.fab ∧ t.evt P.HBR_OWIN 2 = true) ∧
  ∀ mem readError s, s.ringReady 8 = false → exec (.txDescriptor mem readError) s = .next s

/-- Host accesses through BAR2 windows (R202, R279, R280, R290, R294, R295, R297). Which tag or entry is taken is a free value
(log entry 3); corners are the model's readings (log entries 26, 27). -/
def Obligations.Bar2Accesses : Prop :=  (∀ off n write s, s.pathUp .host = true → (s.bar2Win off = none ∨ ∃ w, s.bar2Win off = some w ∧ s.get (F.HBR_IWIN_CFG_TGT w) = 0) →
    ∃ t, exec (.nowin off n write) s = .next t ∧ t.get F.HBR_CTRL_ERRCNT_NOWIN = s.up F.HBR_CTRL_ERRCNT_NOWIN ∧
      t.evt P.HBR_CTRL 2 = true) ∧
  (∀ off n write ue s, s.pathUp .host = false → exec (.messageRamWindowAccess off n write ue) s = .next s) ∧
  (∀ off n w isl s, s.pathUp .host = true → s.bar2Win off = some w →
    (s.get (F.HBR_IWIN_CFG_TGT w) = 1 ∧ isl = I.CBL ∨ s.get (F.HBR_IWIN_CFG_TGT w) = 2 ∧ isl = I.CBH) → (n = 4 ∨ n = 8) →
    off % n = 0 → s.isOn isl = true →
    ∃ t, exec (.messageRamWindowAccess off n none false) s = .next t ∧ t.out = s.out ++ [.bar2Data off ((List.range n).map fun k =>
      s.rdByte (isl * 16777216 + laneSwap (s.get (F.HBR_IWIN_CFG_MODE w)) false (off - s.iwinStart w + k)))]) ∧
  (∀ off n w isl s, s.pathUp .host = true → s.bar2Win off = some w →
    (s.get (F.HBR_IWIN_CFG_TGT w) = 1 ∧ isl = I.CBL ∨ s.get (F.HBR_IWIN_CFG_TGT w) = 2 ∧ isl = I.CBH) → (n = 4 ∨ n = 8) →
    off % n = 0 → s.isOn isl = true →
    ∃ t, exec (.messageRamWindowAccess off n none true) s = .next t ∧ .bar2Abort off ∈ t.out ∧ t.evt (isl * 65536) 28 = true) ∧
  (∀ off w isl b0 b1 b2 b3 s, s.pathUp .host = true → s.bar2Win off = some w →
    (s.get (F.HBR_IWIN_CFG_TGT w) = 1 ∧ isl = I.CBL ∨ s.get (F.HBR_IWIN_CFG_TGT w) = 2 ∧ isl = I.CBH) →
    off % 4 = 0 → s.isOn isl = true → laneSwap (s.get (F.HBR_IWIN_CFG_MODE w)) false (off - s.iwinStart w) < 0x1000000 →
    ∃ t, exec (.messageRamWindowAccess off 4 (some [b0, b1, b2, b3]) false) s = .next t ∧
      t.rdByte (isl * 16777216 + laneSwap (s.get (F.HBR_IWIN_CFG_MODE w)) false (off - s.iwinStart w)) = b0) ∧
  (∀ off n w s, s.pathUp .host = true → s.bar2Win off = some w →
    (s.get (F.HBR_IWIN_CFG_TGT w) = 1 ∨ s.get (F.HBR_IWIN_CFG_TGT w) = 2) → (n ≠ 4 ∧ n ≠ 8 ∨ off % n ≠ 0) →
    ∃ t, exec (.messageRamWindowAccess off n none false) s = .next t ∧ .bar2Abort off ∈ t.out ∧ t.evt P.HBR_CTRL 31 = true) ∧
  (∀ off w n offs s, s.pathUp .host = true → s.bar2Win off = some w → s.get (F.HBR_IWIN_CFG_TGT w) = 3 → off % 4 = 0 →
    s.isOn I.PSC = true → offs = s.get (F.PSC_WIN_BASE_BASE (s.get (F.HBR_IWIN_CFG_PWIN w))) * 4096 +
      laneSwap (s.get (F.HBR_IWIN_CFG_MODE w)) true (off - s.iwinStart w) / 4 * 4 →
    s.psc.drb = [] → s.psc.reads = [] → s.freeTags ≠ [] → s.pscTarget (s.get (F.HBR_IWIN_CFG_PWIN w)) offs = some n →
    ∃ t tag, exec (.periscopeRead off 4) s = .next t ∧ tag ∈ s.freeTags ∧
      t.psc.reads = [⟨off, s.get (F.HBR_IWIN_CFG_PWIN w), offs, some tag⟩]) ∧
  (∀ off w offs s, s.pathUp .host = true → s.bar2Win off = some w → s.get (F.HBR_IWIN_CFG_TGT w) = 3 → off % 4 = 0 →
    s.isOn I.PSC = true → offs = s.get (F.PSC_WIN_BASE_BASE (s.get (F.HBR_IWIN_CFG_PWIN w))) * 4096 +
      laneSwap (s.get (F.HBR_IWIN_CFG_MODE w)) true (off - s.iwinStart w) / 4 * 4 →
    s.psc.drb = [] → s.pscTarget (s.get (F.HBR_IWIN_CFG_PWIN w)) offs = none →
    ∃ t, exec (.periscopeRead off 4) s = .next t ∧ t.get (F.PSC_WIN_STAT_LAST (s.get (F.HBR_IWIN_CFG_PWIN w))) = 5 ∧
      t.out = s.out ++ [.bar2Data off (s.pscBytes off 0xFFFFFFFF)]) ∧
  (∀ off w s, s.pathUp .host = true → s.bar2Win off = some w → s.get (F.HBR_IWIN_CFG_TGT w) = 3 → off % 4 = 0 →
    s.isOn I.PSC = false →
    ∃ t, exec (.periscopeRead off 4) s = .next t ∧ .bar2Data off (s.pscBytes off 0xFFFF000C) ∈ t.out) ∧
  (∀ off r s, s.isOn I.PSC = true → (s.psc.reads.find? fun x => x.bar2 == off) = some r → r.tag = none →
    r.win < 8 →
    ∃ t, exec (.timeout off) s = .next t ∧ t.get (F.PSC_WIN_STAT_LAST r.win) = 9 ∧ t.psc.reads = s.psc.reads.erase r ∧
      t.get (F.PSC_WIN_CNT_TMO r.win) = s.up (F.PSC_WIN_CNT_TMO r.win)) ∧
  (∀ off r tag e s, s.isOn I.PSC = true → (s.psc.reads.find? fun x => x.bar2 == off) = some r → r.tag = some tag → r.win < 8 →
    (s.psc.drb.any fun x => x.2.tag == tag && x.2.resp.isNone) = false → (s.psc.reqs.any fun x => x.tag == tag) = true →
    s.pickFree ((List.range 16).filter fun k => !s.psc.drb.any fun x => x.1 == k) = some e →
    ∃ t, exec (.timeout off) s = .next t ∧ t.get (F.PSC_WIN_STAT_LAST r.win) = 2 ∧ t.psc.reads = s.psc.reads.erase r ∧
      t.psc.drb.length = s.psc.drb.length + 1 ∧ t.evt P.PSC_WIN 0 = true) ∧
  (∀ off s, (s.isOn I.PSC = false ∨ (s.psc.reads.find? fun x => x.bar2 == off) = none) → exec (.timeout off) s = .next s) ∧
  (∀ off b0 b1 b2 b3 w n s, s.pathUp .host = true → s.bar2Win off = some w → s.get (F.HBR_IWIN_CFG_TGT w) = 3 → off % 4 = 0 →
    s.isOn I.PSC = true → s.pscTarget (s.get (F.HBR_IWIN_CFG_PWIN w))
      (s.get (F.PSC_WIN_BASE_BASE (s.get (F.HBR_IWIN_CFG_PWIN w))) * 4096 +
        laneSwap (s.get (F.HBR_IWIN_CFG_MODE w)) true (off - s.iwinStart w) / 4 * 4) = some n →
    ∃ t, exec (.periscopeWrite off [b0, b1, b2, b3]) s = .next t ∧
      t.get (F.PSC_WIN_CNT_WR (s.get (F.HBR_IWIN_CFG_PWIN w))) = s.up (F.PSC_WIN_CNT_WR (s.get (F.HBR_IWIN_CFG_PWIN w))))

/-- Periscope frames and registers (R290 to R293, R296 to R299). Requests of remote nodes at this node (R292, R293). Corners are
the model's readings (log entry 26). -/
def Obligations.PeriscopeFrames : Prop :=
  ((∀ f tab s, s.isOn I.PSC = true → f.cls = 3 → f.flow = 1 → nfMalformed f = false → s.acceptTable f = some tab → s.addressed tab f = true →
    payNum f 0 1 / 32 < 4 → s.psc.queue.length < 128 →
    ∃ t, exec (.periscopeRequestRx f) s = .next t ∧ t.psc.queue = s.psc.queue ++ [(f, s.identSerial tab f.src)]) ∧
  (∀ f tab s, s.isOn I.PSC = true → f.cls = 3 → f.flow = 1 → nfMalformed f = false → s.acceptTable f = some tab →
    s.addressed tab f = true → payNum f 0 1 / 32 < 4 → 128 ≤ s.psc.queue.length →
    ∃ t, exec (.periscopeRequestRx f) s = .next t ∧ t.psc.queue = s.psc.queue ∧
      t.get F.PSC_CTRL_CNT_IN_BUSY = s.up F.PSC_CTRL_CNT_IN_BUSY ∧ t.evt P.PSC_CTRL 1 = true) ∧
  (∀ f row s, row ∈ [Instr.periscopeRequestRx f, .periscopeResponseRx f, .pwfail f] → (s.isOn I.PSC = false ∨ nfMalformed f = true ∨
    f.cls ≠ 3 ∨ s.acceptTable f = none) → exec row s = .next s) ∧
  (∀ f tab r s, s.isOn I.PSC = true → f.cls = 3 → f.flow = 2 → nfMalformed f = false → s.acceptTable f = some tab → s.addressed tab f = true →
    payNum f 0 1 / 32 = 6 →
    (s.psc.reqs.find? fun x => x.tag == payNum f 1 1 % 128 && x.serial == s.identSerial tab f.src && x.type + 4 == 6) = some r →
    s.get F.PSC_FENCE_STAT_STATE = 1 →
    ∃ t, exec (.periscopeResponseRx f) s = .next t ∧ t.get F.PSC_FENCE_STAT_STATE = 2 ∧ t.evt P.PSC_CTRL 2 = true) ∧
  (∀ f tab s, s.isOn I.PSC = true → f.cls = 3 → f.flow = 2 → nfMalformed f = false → s.acceptTable f = some tab → s.addressed tab f = true →
    payNum f 0 1 / 32 = 5 → (s.get F.PSC_PWLOG_PTR_PUT + 32 - s.get F.PSC_PWLOG_PTR_GET) % 32 ≠ 16 →
    ∃ t, exec (.pwfail f) s = .next t ∧ t.get F.PSC_PWLOG_PTR_PUT = (s.get F.PSC_PWLOG_PTR_PUT + 1) % 32 ∧
      t.get F.PSC_PWLOG_CNT_TOTAL = s.up F.PSC_PWLOG_CNT_TOTAL ∧ t.evt P.PSC_PWLOG 0 = true) ∧
  (∀ f tab s, s.isOn I.PSC = true → f.cls = 3 → f.flow = 2 → nfMalformed f = false → s.acceptTable f = some tab →
    s.addressed tab f = true → payNum f 0 1 / 32 = 5 → (s.get F.PSC_PWLOG_PTR_PUT + 32 - s.get F.PSC_PWLOG_PTR_GET) % 32 = 16 →
    ∃ t, exec (.pwfail f) s = .next t ∧ t.get F.PSC_PWLOG_PTR_PUT = s.get F.PSC_PWLOG_PTR_PUT ∧
      t.get F.PSC_PWLOG_CNT_OVF = s.up F.PSC_PWLOG_CNT_OVF ∧ t.evt P.PSC_PWLOG 1 = true) ∧
  (∀ e x s, s.isOn I.PSC = true → (s.psc.drb.find? fun y => y.1 == e) = some x →
    ∃ t, exec (.drDiscard e) s = .next t ∧ t.psc.drb = (s.psc.drb.filter fun y => y.1 != e) ∧
      t.get F.PSC_DRB_CNT_DISCARD = s.up F.PSC_DRB_CNT_DISCARD ∧ t.evt P.PSC_WIN 2 = true) ∧
  (∀ e s, (s.isOn I.PSC = false ∨ (s.psc.drb.find? fun y => y.1 == e) = none) → exec (.drDiscard e) s = .next s) ∧
  (∀ q v s, s.carries q R.PSC_PWLOG_PTR = true →
    (s.get F.PSC_PWLOG_PTR_PUT + 32 - v.toNat / 65536 % 32) % 32 ≤
      (s.get F.PSC_PWLOG_PTR_PUT + 32 - s.get F.PSC_PWLOG_PTR_GET) % 32 →
    ∃ t, exec (.pwlogGetWrite q v) s = .next t ∧ t.get F.PSC_PWLOG_PTR_GET = v.toNat / 65536 % 32) ∧
  (∀ q v s, s.carries q R.PSC_PWLOG_PTR = true →
    (s.get F.PSC_PWLOG_PTR_PUT + 32 - s.get F.PSC_PWLOG_PTR_GET) % 32 <
      (s.get F.PSC_PWLOG_PTR_PUT + 32 - v.toNat / 65536 % 32) % 32 →
    ∃ t, exec (.pwlogGetWrite q v) s = .next t ∧ t.get F.PSC_PWLOG_PTR_GET = s.get F.PSC_PWLOG_PTR_GET) ∧
  (∀ q v s, s.carries q R.PSC_FENCE = true → s.get F.PSC_FENCE_STAT_STATE ≠ 1 →
    ∃ t, exec (.fence q v) s = .next t ∧ t.get F.PSC_FENCE_STAT_STATE = 1 ∧ t.get F.PSC_FENCE_STAT_WIN = v.toNat % 8 ∧
      t.psc.fenceSent = s.get (F.PSC_WIN_CNT_WR (v.toNat % 8)) ∧ t.get (F.PSC_WIN_CNT_WR (v.toNat % 8)) = 0) ∧
  (∀ q v s, s.carries q R.PSC_FENCE = true → s.get F.PSC_FENCE_STAT_STATE = 1 →
    ∃ t, exec (.fence q v) s = .next t ∧ t.rd R.PSC_FENCE_STAT = s.rd R.PSC_FENCE_STAT ∧ t.psc = s.psc) ∧
  (∀ s, s.isOn I.PSC = true → s.get F.PSC_FENCE_STAT_STATE = 1 →
    ∃ t, exec .fenceTExpire s = .next t ∧ t.get F.PSC_FENCE_STAT_STATE = 3) ∧
  (∀ s, (s.isOn I.PSC = false ∨ s.get F.PSC_FENCE_STAT_STATE ≠ 1) → exec .fenceTExpire s = .next s) ∧
  (∀ s, (s.isOn I.PSC = false ∨ s.get F.PSC_CTRL_CFG_SIDE_PER = 0) → exec .sidePoll s = .next s) ∧
  (∀ s, s.isOn I.PSC = true → s.get F.PSC_CTRL_CFG_SIDE_PER ≠ 0 →
    ∃ t, exec .sidePoll s = .next t ∧ ∀ p, p < 8 → s.bit (F.PSC_WIN_CFG_EN p) = true → s.pscTarget p 0 = none →
      (s.psc.reqs.any fun r => r.tag == 64 + p) = false →
      stGet (fun _ => 0) t.psc.misses p = min 3 (stGet (fun _ => 0) s.psc.misses p + 1)) ∧
  (∀ q n v s, n < 32 → s.carries q (R.PSC_CTRL_ACL_W1 n) = true → s.owns q P.PSC_CTRL = true →
    ∃ t, exec (.aclEntryWrite q n v) s = .next t ∧ t.rd (R.PSC_CTRL_ACL_W1 n) = v ∧
      stGet (fun _ => 0) t.psc.acl n = (s.rd (R.PSC_CTRL_ACL_W0 n)).toNat * 2 ^ 32 + v.toNat) ∧
  (∀ q p v s, p < 8 → s.carries q (R.PSC_WIN_CFG p) = true → v.getLsbD 31 = true →
    (∀ k, k < 16 → s.bit (F.HBR_IWIN_CFG_EN k) = true → s.get (F.HBR_IWIN_CFG_TGT k) = 3 → s.get (F.HBR_IWIN_CFG_PWIN k) = p →
      s.get (F.PSC_WIN_BASE_BASE p) * 4096 + s.iwinSize k ≤ 0x200000) →
    ∃ t, exec (.pscWindowEnable q p v) s = .next t ∧ t.rd (R.PSC_WIN_CFG p) = (v &&& 0x4FFF03FF) ||| 0x80000000) ∧
  (∀ q p v s k, p < 8 → s.carries q (R.PSC_WIN_CFG p) = true → v.getLsbD 31 = true → k < 16 → s.bit (F.HBR_IWIN_CFG_EN k) = true →
    s.get (F.HBR_IWIN_CFG_TGT k) = 3 → s.get (F.HBR_IWIN_CFG_PWIN k) = p → s.isOn I.HBR = true →
    0x200000 < s.get (F.PSC_WIN_BASE_BASE p) * 4096 + s.iwinSize k →
    ∃ t, exec (.pscWindowEnable q p v) s = .next t ∧ t.rd (R.PSC_WIN_CFG p) = v &&& 0x4FFF03FF ∧ t.evt P.HBR_IWIN 0 = true) ∧
  ∀ q p v s, p < 8 → s.carries q (R.PSC_WIN_CFG p) = true → v.getLsbD 31 = false →
    ∃ t, exec (.pscWindowEnable q p v) s = .next t ∧ t.rd (R.PSC_WIN_CFG p) = v &&& 0x4FFF03FF) ∧
  ((∀ f serial rest s, s.isOn I.PSC = true → s.psc.queue = (f, serial) :: rest → ofBytes (bytesAt f.payload 0 1) / 32 = 0 →
    s.aclPerm serial (ofBytes (bytesAt f.payload 4 4) % 2 ^ 21 / 4 * 4 / 4096) = 0 →
    ∃ t, exec .periscopeExecute s = .next t ∧ t.psc.queue = rest ∧ t.evt P.PSC_CTRL 0 = true ∧
      t.get F.PSC_CTRL_CNT_IN_DENIED = s.up F.PSC_CTRL_CNT_IN_DENIED) ∧
  ∀ f serial rest s v, s.isOn I.PSC = true → s.psc.queue = (f, serial) :: rest → ofBytes (bytesAt f.payload 0 1) / 32 = 1 →
    ofBytes (bytesAt f.payload 4 4) % 2 ^ 21 / 4 * 4 = R.PG_SCRATCH (pageOf (ofBytes (bytesAt f.payload 4 4) % 2 ^ 21)) →
    2 ≤ s.aclPerm serial (ofBytes (bytesAt f.payload 4 4) % 2 ^ 21 / 4 * 4 / 4096) →
    s.carries .periscope (ofBytes (bytesAt f.payload 4 4) % 2 ^ 21 / 4 * 4) = true → ofBytes (bytesAt f.payload 8 4) = BitVec.toNat v →
    ∃ t, exec .periscopeExecute s = .next t ∧ t.psc.queue = rest ∧
      t.rd (ofBytes (bytesAt f.payload 4 4) % 2 ^ 21 / 4 * 4) = (v : Word))

/-- The dusk agreement (R303, R305 to R309). The next ID and late copies are the model's readings (log entry 21). -/
def Obligations.DuskAgreement : Prop :=  (∀ v s, s.carries .firmware R.SYS_WAKE_PROP = true → v.getLsbD 31 = true → v.getLsbD 30 = false → s.isCoord = false →
    ∃ t, exec (.propose .firmware v) s = .next t ∧ t.get F.SYS_WAKE_PROP_RESULT = 1 ∧ t.evt P.SYS_WAKE 3 = true ∧
      t.wakeState = s.wakeState) ∧
  (∀ v s, s.carries .firmware R.SYS_WAKE_PROP = true → v.getLsbD 31 = true → v.getLsbD 30 = false → s.isCoord = true →
    s.wakeState ≠ 0 →
    ∃ t, exec (.propose .firmware v) s = .next t ∧ t.get F.SYS_WAKE_PROP_RESULT = 2 ∧ t.evt P.SYS_WAKE 3 = true ∧
      t.wakeState = s.wakeState) ∧
  (∀ v s, s.carries .firmware R.SYS_WAKE_PROP = true → v.getLsbD 31 = true → v.getLsbD 30 = false → s.isCoord = true →
    s.wakeState = 0 → ((s.get F.SYS_WAKE_PROP_N_N + 2 ^ 32 - s.cycle) % 2 ^ 32 < 64 ∨
      65535 < (s.get F.SYS_WAKE_PROP_N_N + 2 ^ 32 - s.cycle) % 2 ^ 32) →
    ∃ t, exec (.propose .firmware v) s = .next t ∧ t.get F.SYS_WAKE_PROP_RESULT = 3 ∧ t.evt P.SYS_WAKE 3 = true ∧
      t.wakeState = 0) ∧
  (∀ v s, s.carries .firmware R.SYS_WAKE_PROP = true → s.owns .firmware P.SYS_WAKE = true → v.getLsbD 31 = true →
    v.getLsbD 30 = false → s.isCoord = true → s.wakeState = 0 → 64 ≤ (s.get F.SYS_WAKE_PROP_N_N + 2 ^ 32 - s.cycle) % 2 ^ 32 →
    (s.get F.SYS_WAKE_PROP_N_N + 2 ^ 32 - s.cycle) % 2 ^ 32 ≤ 65535 →
    s.duskRange (F.SYS_WAKE_PROP_FIRST.of v) (F.SYS_WAKE_PROP_LAST.of v) = none →
    ∃ t, exec (.propose .firmware v) s = .next t ∧ t.get F.SYS_WAKE_PROP_RESULT = 4 ∧ t.evt P.SYS_WAKE 3 = true ∧
      t.wakeState = 0) ∧
  (∀ v r s, s.carries .firmware R.SYS_WAKE_PROP = true → s.owns .firmware P.SYS_WAKE = true → v.getLsbD 31 = true →
    v.getLsbD 30 = false → s.isCoord = true → s.wakeState = 0 → 64 ≤ (s.get F.SYS_WAKE_PROP_N_N + 2 ^ 32 - s.cycle) % 2 ^ 32 →
    (s.get F.SYS_WAKE_PROP_N_N + 2 ^ 32 - s.cycle) % 2 ^ 32 ≤ 65535 →
    s.duskRange (F.SYS_WAKE_PROP_FIRST.of v) (F.SYS_WAKE_PROP_LAST.of v) = some r → s.wakeReasons ≠ 0 →
    ∃ t, exec (.propose .firmware v) s = .next t ∧ t.get F.SYS_WAKE_PROP_RESULT = 5 ∧ t.evt P.SYS_WAKE 3 = true ∧
      t.wakeState = 0) ∧
  (∀ v r s, s.carries .firmware R.SYS_WAKE_PROP = true → s.owns .firmware P.SYS_WAKE = true → v.getLsbD 31 = true →
    v.getLsbD 30 = false → s.isCoord = true → s.wakeState = 0 → 64 ≤ (s.get F.SYS_WAKE_PROP_N_N + 2 ^ 32 - s.cycle) % 2 ^ 32 →
    (s.get F.SYS_WAKE_PROP_N_N + 2 ^ 32 - s.cycle) % 2 ^ 32 ≤ 65535 →
    s.duskRange (F.SYS_WAKE_PROP_FIRST.of v) (F.SYS_WAKE_PROP_LAST.of v) = some r → s.wakeReasons = 0 →
    ∃ t, exec (.propose .firmware v) s = .next t ∧ t.get F.SYS_WAKE_PROP_RESULT = 0 ∧
      t.wakeState = (if (r.1 = 0 ∧ r.2 = 0) ∨ (r.1 ≤ s.node ∧ s.node ≤ r.2) then 1 else 2) ∧
      t.duskN = s.get F.SYS_WAKE_PROP_N_N ∧ t.duskId = (s.duskId + 1) % 65536 ∧ t.evt P.SYS_WAKE 0 = true) ∧
  (∀ v s, s.carries .firmware R.SYS_WAKE_PROP = true → v.getLsbD 31 = false → v.getLsbD 30 = true → s.wakeState ≠ 0 →
    s.isCoord = true → s.beforeVeto = true →
    ∃ t, exec (.withdraw .firmware v) s = .next t ∧ t.wakeState = 0 ∧ t.wake.cancelTx = some (s.duskN, s.duskId, 4, 0) ∧
      t.evt P.SYS_WAKE 1 = true) ∧
  (∀ v s, s.carries .firmware R.SYS_WAKE_PROP = true → v.getLsbD 31 = false →
    (v.getLsbD 30 = false ∨ s.wakeState = 0 ∨ s.isCoord = false ∨ s.beforeVeto = false) →
    ∃ t, exec (.withdraw .firmware v) s = .next t ∧ t.wake = s.wake ∧ t.wakeState = s.wakeState) ∧
  (∀ f s, (s.sleepAccept 1 f = false ∨ s.wakeState ≠ 0 ∨ s.wake.cancelled = some (payNum f 0 4, payNum f 4 2) ∨
    s.beforeCycle (payNum f 0 4) = false) → exec (.dusk f) s = .next s) ∧
  (∀ f s, s.sleepAccept 1 f = true → s.wakeState = 0 → s.wake.cancelled ≠ some (payNum f 0 4, payNum f 4 2) →
    s.beforeCycle (payNum f 0 4) = true → s.wakeReasons = 0 →
    ∃ t, exec (.dusk f) s = .next t ∧ t.duskN = payNum f 0 4 % 2 ^ 32 ∧ t.duskId = payNum f 4 2 % 65536 ∧
      t.wakeState = (if (payNum f 6 2 % 512 = 0 ∧ payNum f 8 2 % 512 = 0) ∨
        (s.node ≠ 0 ∧ payNum f 6 2 % 512 ≤ s.node ∧ s.node ≤ payNum f 8 2 % 512) then 1 else 2) ∧
      t.evt P.SYS_WAKE 0 = true) ∧
  (∀ f s, s.sleepAccept 2 f = true → s.wakeState ≠ 0 → payNum f 0 2 = s.duskId → s.isCoord = true → s.beforeVeto = true →
    ∃ t, exec (.vetoRx f) s = .next t ∧ t.wakeState = 0 ∧ t.wake.cancelTx = some (s.duskN, s.duskId, 1, f.src) ∧
      t.evt P.SYS_WAKE 1 = true) ∧
  (∀ f s, s.sleepAccept 2 f = true → s.wakeState ≠ 0 → payNum f 0 2 = s.duskId → s.isCoord = true → s.beforeVeto = false →
    ∃ t, exec (.vetoRx f) s = .next t ∧ t.wake.lateVetoes = s.wake.lateVetoes + 1 ∧ t.wakeState = s.wakeState) ∧
  (∀ f s, (s.sleepAccept 2 f = false ∨ s.wakeState = 0 ∨ payNum f 0 2 ≠ s.duskId ∨ s.isCoord = false) →
    exec (.vetoRx f) s = .next s) ∧
  (∀ f s, (s.sleepAccept 3 f = false ∨ s.wakeState = 0 ∨ payNum f 0 2 ≠ s.duskId) → exec (.cancelRx f) s = .next s) ∧
  ∀ f s, s.sleepAccept 3 f = true → s.wakeState ≠ 0 → payNum f 0 2 = s.duskId →
    ∃ t, exec (.cancelRx f) s = .next t ∧ t.wakeState = 0 ∧ t.wake.cancelled = some (s.duskN, s.duskId) ∧
      t.get F.SYS_WAKE_CNT_CANCELS = s.up F.SYS_WAKE_CNT_CANCELS ∧ t.evt P.SYS_WAKE 1 = true

/-- Wake requests and sleep requests (R305, R307, R308). Sleep policy and origins are the model's readings (log entries 20, 22,
56). -/
def Obligations.WakeRequests : Prop :=  (∀ q v s, s.carries q R.SYS_WAKE_CMD = true → v.getLsbD 0 = false → v.getLsbD 1 = true → v.getLsbD 4 = false →
    s.wakeState = 1 → s.beforeVeto = true → s.wake.veto = none → s.isCoord = false →
    ∃ t, exec (.veto q v) s = .next t ∧ t.wake.veto = some (2, s.cycle) ∧
      t.get F.SYS_WAKE_CNT_VETOES = s.up F.SYS_WAKE_CNT_VETOES) ∧
  (∀ q v s, s.carries q R.SYS_WAKE_CMD = true → v.getLsbD 0 = false → v.getLsbD 1 = true → v.getLsbD 4 = false →
    s.wakeState = 1 → s.beforeVeto = true → s.wake.veto = none → s.isCoord = true →
    ∃ t, exec (.veto q v) s = .next t ∧ t.wakeState = 0 ∧ t.wake.cancelTx = some (s.duskN, s.duskId, 1, s.node) ∧
      t.get F.SYS_WAKE_CNT_VETOES = s.up F.SYS_WAKE_CNT_VETOES ∧ t.evt P.SYS_WAKE 1 = true) ∧
  (∀ q v s, s.carries q R.SYS_WAKE_CMD = true → v.getLsbD 0 = false → v.getLsbD 1 = true → v.getLsbD 4 = false →
    s.wakeState = 1 → s.beforeVeto = false → s.wake.late = none →
    ∃ t, exec (.veto q v) s = .next t ∧ t.wake.late = some 2 ∧ t.wakeState = 1 ∧
      t.get F.SYS_WAKE_CNT_LATE = s.up F.SYS_WAKE_CNT_LATE ∧ t.evt P.SYS_WAKE 2 = true) ∧
  (∀ q v s, s.carries q R.SYS_WAKE_CMD = true →
    ∃ t, exec (.hold q v) s = .next t ∧ t.bit F.SYS_WAKE_CMD_HOLD = v.getLsbD 2) ∧
  (∀ q v s, s.carries q R.SYS_WAKE_CMD = true → v.getLsbD 0 = true → s.isOn I.MGT = true → s.isCoord = true →
    ∃ t, exec (.sleepReq q v) s = .next t ∧ t.evt P.SYS_WAKE 4 = true) ∧
  (∀ q v s, s.carries q R.SYS_WAKE_CMD = true → (s.isOn I.MGT = false ∨ s.isCoord = false) →
    ∃ t, exec (.sleepReq q v) s = .next t ∧ t.evt P.SYS_WAKE 4 = s.evt P.SYS_WAKE 4) ∧
  (∀ f s, s.sleepAccept 4 f = true → s.isOn I.MGT = true → s.isCoord = true →
    ∃ t, exec (.sleepRequestRx f) s = .next t ∧ t.evt P.SYS_WAKE 4 = true) ∧
  (∀ f s, (s.sleepAccept 4 f = false ∨ s.isOn I.MGT = false ∨ s.isCoord = false) → exec (.sleepRequestRx f) s = .next s) ∧
  (∀ s, ∃ t, exec .kaOkFall s = .next t ∧ t.bit F.SYS_WAKE_STAT_KA_OK = false) ∧
  (∀ s, s.bit F.SYS_WAKE_STAT_KA_OK = true → s.wakeState = 1 → s.beforeVeto = true → s.wake.veto = none → s.isCoord = false →
    ∃ t, exec .kaOkFall s = .next t ∧ t.wake.veto = some (4, s.cycle) ∧
      t.get F.SYS_WAKE_CNT_VETOES = s.up F.SYS_WAKE_CNT_VETOES) ∧
  (∀ s, s.bit F.SYS_WAKE_STAT_KA_OK = false → exec .kaOkFall s = .next s) ∧
  (∀ s, ∃ t, exec .kaOkRise s = .next t ∧ t.bit F.SYS_WAKE_STAT_KA_OK = true)

/-- Dawn frames, dawn pulses and segment isolation (R305, R316, R318, R320, R322). Conditioning of the four inputs (R324 to
R327). -/
def Obligations.DawnAndSegments : Prop :=
  ((∀ o s, s.wake.dawnDue = some o → (s.lineNormal .a || s.lineNormal .b) = true →
    ∃ t, exec .dawnSend s = .next t ∧ t.wake.dawnDue = none ∧
      t.wake.dawnTx = some (o, s.get F.SYS_WAKE_CAUSE_DID, (s.wake.dseq + 1) % 2 ^ 32, 3)) ∧
  (∀ s, (s.wake.dawnDue = none ∨ (s.lineNormal .a || s.lineNormal .b) = false) → exec .dawnSend s = .next s) ∧
  (∀ q v s, s.carries q R.SYS_WAKE_CMD = true → v.getLsbD 4 = true →
    ∃ t, exec (.dawn q v) s = .next t ∧
      t.wake.dawnTx = some (if q = .firmware then 3 else 2, 0, (s.wake.dseq + 1) % 2 ^ 32, 3)) ∧
  (∀ f s, s.sleepAccept 5 f = true →
    (∀ e ∈ s.wake.seen, e.1 = s.identSerial ((s.acceptTable f).getD 0) f.src → e.2.1 = payNum f 4 4 → e.2.2 + 100000000 ≤ s.mono) →
    ∃ t, exec (.dawnRx f) s = .next t ∧
      (s.identSerial ((s.acceptTable f).getD 0) f.src, payNum f 4 4, s.mono) ∈ t.wake.seen) ∧
  (∀ f s, (s.sleepAccept 5 f = false ∨ ∃ e ∈ s.wake.seen, e.1 = s.identSerial ((s.acceptTable f).getD 0) f.src ∧
    e.2.1 = payNum f 4 4 ∧ s.mono < e.2.2 + 100000000) → exec (.dawnRx f) s = .next s) ∧
  (∀ l s, s.asleep = true → exec (.pulseRx l) s = .next s) ∧
  (∀ l s, s.asleep = false →
    ∃ t, exec (.pulseRx l) s = .next t ∧ t.get F.SYS_WAKE_SEG_PULSE_RX = s.up F.SYS_WAKE_SEG_PULSE_RX ∧
      t.evt P.SYS_WAKE 5 = true) ∧
  ∀ q v s, s.carries q R.SYS_WAKE_SEG = true →
    ∃ t, exec (.isoWrite q v) s = .next t ∧ ∀ p, t.bit (isoFld p) = v.getLsbD p.idx) ∧
  ((∀ i level row s, row ∈ [Instr.filteredEdge i level, .edge i, .stuck i, .stuckRelease i, .chat i, .chatHoldEnd i] →
    s.dinRuns = false → exec row s = .next s) ∧
  (∀ i level s, i < 4 → s.dinRuns = true →
    ∃ t, exec (.filteredEdge i level) s = .next t ∧ t.bit (F.SYS_DIN_STAT_PIN i) = level ∧
      (t.dinIn i).filt = (level != s.bit (F.SYS_DIN_CFG_POL i))) ∧
  (∀ i s, i < 4 → s.dinRuns = true → s.bit (F.SYS_DIN_STAT_STUCK i) = false → s.bit (F.SYS_DIN_STAT_CHAT i) = false →
    ∃ t, exec (.edge i) s = .next t ∧ t.bit (F.SYS_DIN_STAT_COND i) = (s.dinIn i).filt ∧
      (t.dinIn i).deb = (s.dinIn i).filt ∧
      (s.bit (F.SYS_DIN_STAT_COND i) ≠ (s.dinIn i).filt → (s.dinIn i).init = false → t.evt P.SYS_DIN i = true)) ∧
  (∀ i s, i < 4 → s.dinRuns = true → s.get (F.SYS_DIN_CFG_STUCK i) ≠ 0 → s.bit (F.SYS_DIN_STAT_COND i) = true →
    ∃ t, exec (.stuck i) s = .next t ∧ t.bit (F.SYS_DIN_STAT_COND i) = false ∧ t.bit (F.SYS_DIN_STAT_STUCK i) = true ∧
      t.get (F.SYS_DIN_STAT_STUCK_CNT i) = s.up (F.SYS_DIN_STAT_STUCK_CNT i) ∧ t.evt P.SYS_DIN (4 + i) = true) ∧
  (∀ i s, i < 4 → (s.get (F.SYS_DIN_CFG_STUCK i) = 0 ∨ s.bit (F.SYS_DIN_STAT_COND i) = false) → exec (.stuck i) s = .next s) ∧
  (∀ i s, i < 4 → (s.bit (F.SYS_DIN_STAT_STUCK i) = false ∨ (s.dinIn i).filt = true) → exec (.stuckRelease i) s = .next s) ∧
  (∀ i s, i < 4 → s.dinRuns = true → s.bit (F.SYS_DIN_STAT_STUCK i) = true → (s.dinIn i).filt = false →
    ∃ t, exec (.stuckRelease i) s = .next t ∧ t.bit (F.SYS_DIN_STAT_STUCK i) = false ∧
      t.bit (F.SYS_DIN_STAT_COND i) = s.bit (F.SYS_DIN_STAT_COND i)) ∧
  (∀ i s, i < 4 → s.dinRuns = true → s.get (F.SYS_DIN_CFG_CHAT_N i) ≠ 0 → s.bit (F.SYS_DIN_STAT_CHAT i) = false →
    s.get (F.SYS_DIN_CFG_CHAT_N i) < (s.dinIn i).edges → s.mono < (s.dinIn i).since + s.chatWin i →
    ∃ t, exec (.chat i) s = .next t ∧ t.bit (F.SYS_DIN_STAT_CHAT i) = true ∧ t.evt P.SYS_DIN (8 + i) = true) ∧
  (∀ i s, i < 4 → (s.get (F.SYS_DIN_CFG_CHAT_N i) = 0 ∨ s.bit (F.SYS_DIN_STAT_CHAT i) = true ∨
    (s.dinIn i).edges ≤ s.get (F.SYS_DIN_CFG_CHAT_N i) ∨ (s.dinIn i).since + s.chatWin i ≤ s.mono) → exec (.chat i) s = .next s) ∧
  (∀ i s, i < 4 → s.bit (F.SYS_DIN_STAT_CHAT i) = false → exec (.chatHoldEnd i) s = .next s) ∧
  (∀ i s, i < 4 → s.dinRuns = true → s.bit (F.SYS_DIN_STAT_CHAT i) = true → s.bit (F.SYS_DIN_STAT_STUCK i) = false →
    ∃ t, exec (.chatHoldEnd i) s = .next t ∧ t.bit (F.SYS_DIN_STAT_CHAT i) = false ∧ (t.dinIn i).edges = 0 ∧
      (t.dinIn i).since = s.mono ∧ t.bit (F.SYS_DIN_STAT_COND i) = (s.dinIn i).deb) ∧
  ∀ q i v s, i < 4 → s.carries q (R.SYS_DIN_CFG i) = true → s.owns q P.SYS_DIN = true →
    ∃ t, exec (.dinCfgWrite q i v) s = .next t ∧ t.rd (R.SYS_DIN_CFG i) = v)

/-- Clock sources (R111, R330, R332 to R335, R338). Failures that reset the module (R334, R335, R354, R356). What counts as use,
and a reference change, are the model's readings (log entry 36). -/
def Obligations.ClockSources : Prop :=
  ((∀ s, s.pwr.sysOn = true → s.srcGood 1 = false → s.bit F.SYS_CLK_STAT_XO_FAIL = false →
    ∃ t, exec .xoQual s = .next t ∧ t.srcGood 1 = true ∧ t.get F.SYS_CLK_XOQ_QCNT = 262144 ∧ t.evt P.SYS_CLK 4 = true) ∧
  (∀ s, (s.pwr.sysOn = false ∨ s.srcGood 1 = true ∨ s.bit F.SYS_CLK_STAT_XO_FAIL = true) → exec .xoQual s = .next s) ∧
  (∀ s, s.pwr.sysOn = true → s.srcGood 1 = false →
    ∃ t, exec .xoFail s = .next t ∧ t.bit F.SYS_CLK_STAT_XO_FAIL = true) ∧
  (∀ s, (s.pwr.sysOn = false ∨ s.srcGood 1 = true) → exec .xoFail s = .next s) ∧
  (∀ c s, s.pwr.sysOn = true → s.srcGood c = true → s.released c = true →
    ∃ t, exec (.srcLoss c) s = .next t ∧ t.srcGood c = false ∧ t.get F.SYS_CLK_LOSS_LAST = c ∧
      t.get F.SYS_CLK_LOSS_LOSS_CNT = s.up F.SYS_CLK_LOSS_LOSS_CNT ∧ t.evt P.SYS_CLK 0 = true) ∧
  (∀ c s, (s.pwr.sysOn = false ∨ s.srcGood c = false) → exec (.srcLoss c) s = .next s ∧ exec (.sourceFailure c) s = .next s) ∧
  (∀ s, s.srcGood 3 = true → s.bit F.SYS_CLK_STAT_LINE_HOLD = false →
    ∃ t, exec .lineHold s = .next t ∧ t.bit F.SYS_CLK_STAT_LINE_HOLD = true ∧ t.srcGood 3 = true ∧ t.evt P.SYS_CLK 2 = true) ∧
  (∀ s, (s.srcGood 3 = false ∨ s.bit F.SYS_CLK_STAT_LINE_HOLD = true) → exec .lineHold s = .next s) ∧
  (∀ ref near s, s.pwr.sysOn = true → ref ≠ s.get F.SYS_CLK_STAT_LINE_REF → s.wantedRef = some ref →
    ∃ t, exec (.lineRefChg ref near) s = .next t ∧ t.get F.SYS_CLK_STAT_LINE_REF = ref ∧
      (near = true → t.bit F.SYS_CLK_STAT_LINE_HOLD = false ∧ t.srcGood 3 = s.srcGood 3 ∧ t.evt P.SYS_CLK 3 = true) ∧
      (near = false → t.srcGood 3 = false)) ∧
  (∀ ref near s, (s.pwr.sysOn = false ∨ ref = s.get F.SYS_CLK_STAT_LINE_REF ∨ s.wantedRef ≠ some ref) →
    exec (.lineRefChg ref near) s = .next s) ∧
  (∀ ofs s, (s.pwr.sysOn = false ∨ s.srcGood 1 = false) → exec (.pllLineLock ofs) s = .next s) ∧
  (∀ (ofs : Int) s, s.pwr.sysOn = true → s.srcGood 1 = true → 100000 < ofs.natAbs → s.srcGood 3 = true →
    s.bit F.SYS_CLK_STAT_LINE_HOLD = false →
    ∃ t, exec (.pllLineLock ofs) s = .next t ∧ t.bit F.SYS_CLK_STAT_LINE_HOLD = true ∧ t.evt P.SYS_CLK 2 = true) ∧
  (∀ ofs s, s.pwr.sysOn = true → s.srcGood 1 = true → -100000 ≤ ofs → ofs ≤ 100000 →
    ∃ t, exec (.pllLineLock ofs) s = .next t ∧ t.srcGood 3 = true ∧ t.bit F.SYS_CLK_STAT_LINE_HOLD = false ∧
      t.get F.SYS_CLK_LINE_OFS = (ofs % 2 ^ 24).toNat) ∧
  (∀ c s, s.pwr.sysOn = true → c ≤ 5 → c ≠ 1 → c ≠ 3 → ∃ t, exec (.sourceGood c) s = .next t ∧ t.srcGood c = true) ∧
  ∀ q v s, s.carries q R.SYS_SRC_RELEASE = true → s.owns q P.SYS_CLK = true →
    ∃ t, exec (.releaseWrite q v) s = .next t ∧
      ∀ c, c < 6 → t.released c = (v.getLsbD c || (s.released c && !s.srcGood c))) ∧
  ((∀ c s, c < 6 → s.pwr.sysOn = true → s.srcGood c = true → s.released c = false → s.monitored c = false →
    ∃ t, exec (.sourceFailure c) s = .next t ∧ t.srcGood c = false ∧
      t.get F.SYS_RST_CNT_MODRST = s.get F.SYS_RST_CNT_MODRST ∧ t.pwr = s.pwr) ∧
  (∀ c s, s.wake.power = .awake → s.pwr.sysOn = true → s.resetRuns = true → s.srcGood c = true → s.released c = false →
    s.monitored c = true →
    ∃ t, exec (.sourceFailure c) s = .next t ∧ (5, c) ∈ t.pwr.pend) ∧
  ∀ c s, s.wake.power = .awake → s.pwr.sysOn = true → s.resetRuns = false → s.srcGood c = true → s.released c = false →
    s.monitored c = true →
    ∃ t, exec (.sourceFailure c) s = .next t ∧ t.get F.SYS_RST_CAUSE_LAST = 5 ∧ t.get F.SYS_RST_CAUSE_SRC = c ∧
      t.get F.SYS_RST_CNT_MODRST = s.up F.SYS_RST_CNT_MODRST ∧ t.bit F.SYS_RST_BOOT_CFG_OK = false ∧
      ∀ n, 1 ≤ n → n ≤ 16 → t.powered n = false)

/-- Source switches of the islands, and crossing words (R331, R336 to R339). Crossings in one step are the model's choice (log
entry 66). -/
def Obligations.ClockSwitches : Prop :=  (∀ q n v s, n < 17 → s.carries q (R.SYS_CLK_ISL n) = true → s.owns q P.SYS_CLK = true →
    ∃ t, exec (.srcWrite q n v) s = .next t ∧
      t.get (F.SYS_CLK_ISL_RESULT n) = (if s.bit (F.SYS_CLK_ISL_SWITCHING n) then 3
        else if !srcPermitted n (v.toNat % 16) then 1 else if !s.srcGood (v.toNat % 16) then 2 else 0) ∧
      (t.get (F.SYS_CLK_ISL_RESULT n) = 0 → t.get (F.SYS_CLK_ISL_SRC n) = v.toNat % 16 ∧
        (s.powered n = true → s.curSrc n ≠ v.toNat % 16 → t.bit (F.SYS_CLK_ISL_SWITCHING n) = true))) ∧
  (∀ n c s, n < 17 → c ≤ 5 → s.switchTarget n = some c → s.srcGood c = true →
    ∃ t, exec (.switchDone n) s = .next t ∧ t.curSrc n = c ∧ t.bit (F.SYS_CLK_ISL_SWITCHING n) = false ∧ t.evt P.SYS_CLK 5 = true) ∧
  (∀ n c s, n < 17 → c ≤ 5 → c ≠ 0 → s.switchTarget n = some c → s.srcGood c = false →
    ∃ t, exec (.switchDone n) s = .next t ∧ t.curSrc n = c ∧ t.bit (F.SYS_CLK_ISL_SWITCHING n) = true ∧ t.switchTarget n = some 0) ∧
  (∀ n s, s.switchTarget n = none → exec (.switchDone n) s = .next s ∧ exec (.forced n) s = .next s) ∧
  (∀ n c s, n < 17 → c ≤ 5 → s.switchTarget n = some c → s.pwr.sysOn = true → s.released (s.curSrc n) = true →
    s.srcGood (s.curSrc n) = true → s.curSrc n ≤ 5 →
    ∃ t, exec (.forced n) s = .next t ∧ t.curSrc n = c ∧ t.srcGood (s.curSrc n) = false ∧
      t.get F.SYS_CLK_LOSS_FORCED_CNT = s.up F.SYS_CLK_LOSS_FORCED_CNT ∧ t.evt P.SYS_CLK 1 = true ∧ t.evt P.SYS_CLK 0 = true) ∧
  (∀ n count s, (s.pwr.sysOn = false ∨ count = 0) → exec (.xdrop n count) s = .next s) ∧
  ∀ n count s, n < 17 → s.pwr.sysOn = true → 0 < count →
    ∃ t, exec (.xdrop n count) s = .next t ∧ t.get F.SYS_PWR_XDROP_LAST_ISL = n ∧
      t.get F.SYS_PWR_XDROP_CNT = min (s.get F.SYS_PWR_XDROP_CNT + count) 65535 ∧ t.evt P.SYS_PWR 5 = true

/-- Operating points of the islands FAB, SGW and MGT (R342 to R344). That only RESULT 1 raises DVFS_REFUSED and how a change
ends with its island are the model's readings (log entries 37, 43). -/
def Obligations.OperatingPoints : Prop :=  (∀ q f v s, f < 3 → s.carries q (R.SYS_PWR_DVFS f) = true → s.owns q P.SYS_PWR = true → v.getLsbD 31 = true →
    ∃ t, exec (.dvfsRequest q f v) s = .next t ∧
      t.get (F.SYS_PWR_DVFSSTAT_RESULT f) = (if s.bit (F.SYS_PWR_DVFSSTAT_BUSY f) then 2
        else if s.seqPhase (dvfsIsland f) ≠ 0 ∧ s.seqPhase (dvfsIsland f) ≠ 2 then 4
        else if !dvfsOk f (v.toNat / 2 ^ 16 % 4) (v.toNat % 256) then 1
        else if s.seqPhase (dvfsIsland f) = 0 then 3 else 0) ∧
      (t.get (F.SYS_PWR_DVFSSTAT_RESULT f) = 1 → t.evt P.SYS_PWR 4 = true ∧
        t.bit (F.SYS_PWR_DVFSSTAT_BUSY f) = s.bit (F.SYS_PWR_DVFSSTAT_BUSY f)) ∧
      (t.get (F.SYS_PWR_DVFSSTAT_RESULT f) = 0 → t.bit (F.SYS_PWR_DVFSSTAT_BUSY f) = true ∧
        (t.dvfs f).vset = v.toNat % 256 ∧ (t.dvfs f).fsel = v.toNat / 2 ^ 16 % 4)) ∧
  (∀ f s, f < 3 → s.bit (F.SYS_PWR_DVFSSTAT_BUSY f) = true → (s.dvfs f).fPend = true → (s.dvfs f).fsel < 4 →
    s.bit (F.SYS_CLK_ISL_SWITCHING (dvfsIsland f)) = false → s.curSrc (dvfsIsland f) ≠ 0 →
    ∃ t, exec (.dvfsFreqStep f) s = .next t ∧ t.get (F.SYS_PWR_DVFSSTAT_CUR_F f) = (s.dvfs f).fsel ∧ (t.dvfs f).fPend = false ∧
      t.get (F.SYS_PWR_DVFSSTAT_CUR_V f) = (if s.get (F.SYS_PWR_DVFSSTAT_CUR_F f) < (s.dvfs f).fsel then (s.dvfs f).vset % 256
        else s.get (F.SYS_PWR_DVFSSTAT_CUR_V f))) ∧
  (∀ f s, f < 3 → (s.bit (F.SYS_PWR_DVFSSTAT_BUSY f) = false ∨ (s.dvfs f).fPend = false ∨
    s.bit (F.SYS_CLK_ISL_SWITCHING (dvfsIsland f)) = true ∨ s.curSrc (dvfsIsland f) = 0) → exec (.dvfsFreqStep f) s = .next s) ∧
  (∀ f s, f < 3 → (s.bit (F.SYS_PWR_DVFSSTAT_BUSY f) = false ∨ (s.dvfs f).fPend = true ∧ s.curSrc (dvfsIsland f) ≠ 0) →
    exec (.dvfsDone f) s = .next s) ∧
  ∀ f s, f < 3 → s.bit (F.SYS_PWR_DVFSSTAT_BUSY f) = true → ((s.dvfs f).fPend = false ∨ s.curSrc (dvfsIsland f) = 0) →
    ∃ t, exec (.dvfsDone f) s = .next t ∧ t.get (F.SYS_PWR_DVFSSTAT_CUR_V f) = (s.dvfs f).vset % 256 ∧
      t.bit (F.SYS_PWR_DVFSSTAT_BUSY f) = false ∧ t.evt P.SYS_PWR 3 = true

/-- Requests to switch an island (R347). -/
def Obligations.PowerRequests : Prop :=  (∀ q v s, s.carries q R.SYS_PWR_CMD = true → s.owns q P.SYS_PWR = true →
    (v.toNat / 2 ^ 30 = 1 ∨ v.toNat / 2 ^ 30 = 2) →
    ∃ t, exec (.powerCmd q R.SYS_PWR_CMD v) s = .next t ∧
      t.get F.SYS_PWR_RESULT_RESULT = s.powerResult (v.toNat % 32) (decide (v.toNat / 2 ^ 30 = 1)) ∧
      t.get F.SYS_PWR_RESULT_ISL = v.toNat % 32 ∧ t.bit F.SYS_PWR_RESULT_VIA_PG = false ∧
      (t.get F.SYS_PWR_RESULT_RESULT ≠ 0 → t.evt P.SYS_PWR 1 = true)) ∧
  (∀ q n v s, 1 ≤ n → n ≤ 16 → s.carries q R.SYS_PWR_CMD = true → s.owns q P.SYS_PWR = true → v.toNat = 2 ^ 30 + n →
    s.seqPhase n = 0 → s.wake.power ≠ .nightfall →
    ∃ t, exec (.powerCmd q R.SYS_PWR_CMD v) s = .next t ∧ t.seqPhase n = 4 ∧ t.pwr.waitQ = s.pwr.waitQ ++ [n]) ∧
  (∀ q n v s, 1 ≤ n → n ≤ 16 → s.carries q R.SYS_PWR_CMD = true → s.owns q P.SYS_PWR = true → v.toNat = 2 ^ 31 + n →
    s.seqPhase n = 2 → s.bistActive n = false → s.wake.power ≠ .nightfall →
    ∃ t, exec (.powerCmd q R.SYS_PWR_CMD v) s = .next t ∧ t.seqPhase n = 3 ∧ t.seqStep n = 1 ∧ t.powered n = false) ∧
  ∀ q off v s, off ≠ R.SYS_PWR_CMD → islandOf off ≠ 0 → s.carries q (R.PG_CTRL (pageOf off)) = true →
    s.owns q (pageOf off) = true → v.getLsbD 3 = true → v.getLsbD 1 = false →
    ∃ t, exec (.powerCmd q off v) s = .next t ∧ t.bit F.SYS_PWR_RESULT_VIA_PG = true ∧
      t.get F.SYS_PWR_RESULT_ISL = islandOf off

/-- Power sequences of the islands (R345, R346, R348, R349). -/
def Obligations.PowerSequences : Prop :=  (∀ n s, 1 ≤ n → n ≤ 16 → s.pwr.downQ.head? = some n → s.seqPhase n ≠ 3 → (n = I.CBL ∨ n = I.CBH ∨ s.linesShut = true) →
    ∃ t, exec (.islandPowerDown n 1) s = .next t ∧ t.seqPhase n = 3 ∧ t.seqStep n = 1 ∧ t.powered n = false) ∧
  (∀ n k s, 1 ≤ n → n ≤ 16 → 2 ≤ k → k ≤ 6 → s.seqPhase n = 3 → s.seqStep n + 1 = k → s.pwr.reverse.contains n = false →
    ∃ t, exec (.islandPowerDown n k) s = .next t ∧ t.seqPhase n = 3 ∧ t.seqStep n = k) ∧
  (∀ n k s, 1 ≤ n → n ≤ 16 → 2 ≤ k → k ≤ 5 → s.seqPhase n = 3 → s.seqStep n + 1 = k → s.pwr.reverse.contains n = true →
    ∃ t, exec (.islandPowerDown n k) s = .next t ∧ t.seqPhase n = 1 ∧ t.seqStep n = 3 ∧
      t.get (F.SYS_PWR_SEQ_RESTARTS n) = s.up (F.SYS_PWR_SEQ_RESTARTS n) ∧ t.evt P.SYS_PWR 2 = true) ∧
  (∀ n s, 1 ≤ n → n ≤ 16 → s.seqPhase n = 3 → s.seqStep n = 5 → s.pwr.reverse.contains n = true →
    ∃ t, exec (.islandPowerDown n 6) s = .next t ∧ t.seqPhase n = 4 ∧ t.seqStep n = 0 ∧ t.pwr.waitQ = s.pwr.waitQ ++ [n]) ∧
  (∀ n k s, k ≠ 1 → (s.seqPhase n ≠ 3 ∨ s.seqStep n + 1 ≠ k ∨ 6 < k) → exec (.islandPowerDown n k) s = .next s) ∧
  (∀ n s, (s.seqPhase n ≠ 3 ∨ s.seqStep n ≠ 6) → exec (.islandPowerDownDone n) s = .next s) ∧
  (∀ n s, 1 ≤ n → n ≤ 16 → s.seqPhase n = 3 → s.seqStep n = 6 → s.pwr.reverse.contains n = true →
    ∃ t, exec (.islandPowerDownDone n) s = .next t ∧ t.seqPhase n = 4 ∧ t.pwr.waitQ = s.pwr.waitQ ++ [n]) ∧
  (∀ n s, 1 ≤ n → n ≤ 16 → s.seqPhase n = 3 → s.seqStep n = 6 → s.pwr.reverse.contains n = false → s.pwr.upPairs = [] →
    ∃ t, exec (.islandPowerDownDone n) s = .next t ∧ t.seqPhase n = 0 ∧ t.evt P.SYS_PWR 0 = true) ∧
  (∀ n s, 1 ≤ n → n ≤ 16 → s.pwr.waitQ.head? = some n → s.inU1 < 2 →
    ∃ t, exec (.islandPowerUpStart n 1) s = .next t ∧ t.seqPhase n = 1 ∧ t.seqStep n = 1 ∧ t.pwr.waitQ = s.pwr.waitQ.drop 1) ∧
  (∀ n k s, 1 ≤ n → n ≤ 16 → 2 ≤ k → k ≤ 7 → s.seqPhase n = 1 → s.seqStep n + 1 = k → s.pwr.reverse.contains n = false →
    ∃ t, exec (.islandPowerUpStart n k) s = .next t ∧ t.seqPhase n = 1 ∧ t.seqStep n = k) ∧
  (∀ n k s, 1 ≤ n → n ≤ 16 → 2 ≤ k → k ≤ 7 → s.seqPhase n = 1 → s.seqStep n + 1 = k → s.pwr.reverse.contains n = true →
    ∃ t, exec (.islandPowerUpStart n k) s = .next t ∧ t.seqPhase n = 3 ∧ t.seqStep n = 1 ∧ t.evt P.SYS_PWR 2 = true) ∧
  (∀ n k s, k ≠ 1 → (s.seqPhase n ≠ 1 ∨ s.seqStep n + 1 ≠ k ∨ 7 < k) → exec (.islandPowerUpStart n k) s = .next s) ∧
  (∀ n s, (s.seqPhase n ≠ 1 ∨ s.seqStep n ≠ 7) → exec (.islandPowerUpDone n) s = .next s) ∧
  ∀ n s, 1 ≤ n → n ≤ 16 → s.seqPhase n = 1 → s.seqStep n = 7 → s.pwr.reverse.contains n = false → s.pwr.upPairs = [] →
    ∃ t, exec (.islandPowerUpDone n) s = .next t ∧ t.seqPhase n = 2 ∧ t.powered n = true ∧
      t.get (F.SYS_PWR_SEQ_UPS n) = s.up (F.SYS_PWR_SEQ_UPS n)

/-- Starts of the module and losses of its supplies (R350 to R352, R359). KA_OK at a cold start is the model's reading (log
entry 23). -/
def Obligations.StartsAndSupplies : Prop :=  (∀ s, s.wake.power = .off →
    ∃ t, exec .coldStart s = .next t ∧ t.get F.SYS_RST_CAUSE_LAST = 1 ∧ t.pwr.starting = true ∧
      t.bit F.SYS_RST_BOOT_CFG_OK = false ∧ t.bit F.SYS_RST_FAULT_RESET = true ∧ t.bit F.SYS_WAKE_STAT_KA_OK = true) ∧
  (∀ s, s.wake.power = .awake → s.pwr.sysOn = false → s.pwr.starting = false →
    ∃ t, exec .supplyStart s = .next t ∧ t.get F.SYS_RST_CAUSE_LAST = 2 ∧ t.pwr.starting = true ∧
      t.get F.SYS_RST_CNT_SUPPLY = s.up F.SYS_RST_CNT_SUPPLY) ∧
  (∀ s, s.wake.power ≠ .off → exec .coldStart s = .next s) ∧
  (∀ s, (s.wake.power = .off ∨ s.wake.power = .dark ∨ s.pwr.sysOn = true ∨ s.pwr.starting = true) → exec .supplyStart s = .next s) ∧
  (∀ s, s.pwr.sysOn = false → s.pwr.starting = false → exec .supplyLoss s = .next s) ∧
  (∀ s, (s.pwr.sysOn = true ∨ s.pwr.starting = true) →
    ∃ t, exec .supplyLoss s = .next t ∧ t.pwr.sysOn = false ∧ t.wake.power = .awake ∧
      t.bypOn .a = true ∧ t.bypOn .b = true ∧ ∀ n, 1 ≤ n → n ≤ 16 → t.powered n = false) ∧
  (∀ s, ∃ t, exec .alwaysOnSupplyLoss s = .next t ∧ t.wake.power = .off ∧ t.pwr.sysOn = false ∧ t.nv = s.nv) ∧
  (∀ tpos s, s.pwr.starting = false → exec (.powerOnResetRelease tpos) s = .next s) ∧
  ∀ tpos s, s.pwr.starting = true →
    ∃ t, exec (.powerOnResetRelease tpos) s = .next t ∧ t.pwr.sysOn = true ∧ t.pwr.starting = false ∧ t.mono5 = 0 ∧
      t.bit F.SYS_RST_STAT_TPOS = tpos ∧ t.get F.SYS_RST_STAT_SVN_MIN = s.nv.svnMin % 256 ∧
      t.bit F.SYS_RST_STAT_OWNER_KEY = s.nv.owner.isSome

/-- Module resets (R354 to R359): in a node that is awake, at once or, while a start or module reset runs, afterwards. A module
reset as one step is the model's reading (log entries 33 to 35). -/
def Obligations.ModuleResets : Prop :=  (∀ s, s.wake.power = .awake → s.pwr.sysOn = true → s.resetRuns = false →
    ∃ t, exec .nresetIn s = .next t ∧ t.get F.SYS_RST_CAUSE_LAST = 4 ∧ t.pwr.pin = true ∧ t.pwr.holds = 4 ∧
      t.get F.SYS_RST_CNT_MODRST = s.up F.SYS_RST_CNT_MODRST ∧ t.mono5 = s.mono5) ∧
  (∀ s, s.pwr.holds ≠ 4 → ∃ t, exec .nresetInRelease s = .next t ∧ t.pwr.pin = false ∧ t.pwr.holds = s.pwr.holds ∧ t.regs = s.regs) ∧
  (∀ s, s.pwr.holds ≠ 7 → ∃ t, exec .thermalResetRelease s = .next t ∧ t.pwr.hot = false ∧ t.pwr.holds = s.pwr.holds ∧ t.regs = s.regs) ∧
  (∀ s, s.wake.power = .awake → (s.pwr.sysOn = true ∨ s.pwr.starting = true) → s.resetRuns = true →
    ∃ t, exec .railFault s = .next t ∧ (8, 0) ∈ t.pwr.pend) ∧
  (∀ s, s.pwr.holds = 4 →
    ∃ t, exec .nresetInRelease s = .next t ∧ t.pwr.pin = false ∧ t.pwr.holds = 0 ∧ t.pwr.upPairs = s.bootPairs) ∧
  (∀ s, s.wake.power = .awake → s.pwr.sysOn = true → s.resetRuns = false →
    ∃ t, exec .thermalReset s = .next t ∧ t.get F.SYS_RST_CAUSE_LAST = 7 ∧ t.pwr.hot = true ∧ t.pwr.holds = 7 ∧
      t.get F.SYS_RST_CNT_MODRST = s.up F.SYS_RST_CNT_MODRST) ∧
  (∀ s, s.pwr.holds = 7 →
    ∃ t, exec .thermalResetRelease s = .next t ∧ t.pwr.hot = false ∧ t.pwr.holds = 0 ∧ t.pwr.upPairs = s.bootPairs) ∧
  (∀ s, s.wake.power = .awake → s.pwr.sysOn = true → s.resetRuns = false →
    ∃ t, exec .railFault s = .next t ∧ t.get F.SYS_RST_CAUSE_LAST = 8 ∧
      t.get F.SYS_RST_CNT_MODRST = s.up F.SYS_RST_CNT_MODRST ∧ ∀ n, 1 ≤ n → n ≤ 16 → t.powered n = false) ∧
  (∀ q v s, s.carries q R.SYS_RST_CMD = true → s.owns q P.SYS_RST = true → v.toNat / 65536 = 0xB007 → v.getLsbD 0 = true →
    v.getLsbD 1 = false → s.wake.power = .awake → s.pwr.sysOn = true → s.resetRuns = false →
    ∃ t, exec (.softwareReset q v) s = .next t ∧ t.get F.SYS_RST_CAUSE_LAST = 6 ∧
      t.get F.SYS_RST_CNT_MODRST = s.up F.SYS_RST_CNT_MODRST) ∧
  (∀ q v s, s.carries q R.SYS_RST_CMD = true → s.owns q P.SYS_RST = true → v.toNat / 65536 = 0xB007 → v.getLsbD 0 = false →
    v.getLsbD 1 = true →
    ∃ t, exec (.clrSafe q v) s = .next t ∧ t.pwr.clrSafe = true ∧ t.bit F.SYS_RST_BOOT_SAFE = s.bit F.SYS_RST_BOOT_SAFE) ∧
  (∀ s, ∃ t, exec .moduleResetWindowSlide s = .next t ∧ t.get F.SYS_RST_CNT_WINDOW = s.get F.SYS_RST_CNT_WINDOW - 1) ∧
  (∀ pin s, s.wake.power = .off → exec (.strapChg pin) s = .next s) ∧
  ∀ pin s, s.wake.power ≠ .off →
    ∃ t, exec (.strapChg pin) s = .next t ∧ t.bit F.SYS_RST_STAT_TPOS_PIN = (pin != s.bit F.SYS_RST_STAT_TPOS) ∧
      (pin ≠ s.bit F.SYS_RST_STAT_TPOS → s.bit F.SYS_RST_STAT_TPOS_PIN = false → t.evt P.SYS_RST 3 = true)

/-- Darkness and waking (R312, R313, R315 to R317). Nightfall's side effects are the model's readings (log entry 23). -/
def Obligations.DarkAndWaking : Prop :=  (∀ s, s.wake.power = .nightfall → (∀ n, n < 17 → n ≠ 0 → s.seqPhase n = 0) → s.linesShut = true →
    ∃ t, exec .dark s = .next t ∧ t.wake.power = .dark ∧ t.pwr.sysOn = false) ∧
  (∀ s, (s.wake.power ≠ .nightfall ∨ s.linesShut = false) → exec .dark s = .next s) ∧
  (∀ s, s.wake.kaHold = false → s.wake.power ≠ .dark → s.wake.power ≠ .nightfall → exec .minDarkTimeEnd s = .next s) ∧
  (∀ s, s.wake.power = .nightfall → s.wake.kaHold = false →
    ∃ t, exec .minDarkTimeEnd s = .next t ∧ t.wake.minDark = true ∧ t.wake.power = .nightfall) ∧
  (∀ s, s.wake.kaHold = true → ∃ t, exec .minDarkTimeEnd s = .next t ∧ t.wake.kaHold = false ∧ t.pwr.downQ = []) ∧
  (∀ src chan s, (s.wakeArmed src (chan % 16) = false ∨ s.wake.power ≠ .nightfall ∧ s.wake.power ≠ .dark) →
    exec (.wakeSource src chan) s = .next s) ∧
  (∀ src chan s, s.wake.power = .dark → s.wake.minDark = false → s.wakeArmed src (chan % 16) = true →
    ∃ t, exec (.wakeSource src chan) s = .next t ∧ t.wake.latch = s.wake.latch ++ [⟨src, chan % 16⟩] ∧ t.wake.power = .dark) ∧
  (∀ s, (s.wake.pulseDue = false ∨ s.pwr.starting = false ∧ s.pwr.sysOn = false) → exec .dawnPulseInject s = .next s) ∧
  (∀ k s, s.asleep = false → exec (.wakeInputInactive k) s = .next s) ∧
  (∀ s, s.wake.power = .dark → s.wake.kaHold = false → s.wake.latch = [] → s.wake.late = none →
    ∃ t, exec .minDarkTimeEnd s = .next t ∧ t.wake.minDark = true ∧ t.wake.power = .dark) ∧
  (∀ l c s, s.wake.power = .dark → s.wake.kaHold = false → s.wake.late = none → s.wake.latch = ⟨2, c⟩ :: l →
    ∃ t, exec .minDarkTimeEnd s = .next t ∧ t.wake.power = .dawn ∧ t.get F.SYS_WAKE_CAUSE_SRC = 2 ∧
      t.get F.SYS_RST_CAUSE_LAST = 3 ∧ t.pwr.starting = true ∧ t.get F.SYS_WAKE_CNT_DARKS = s.up F.SYS_WAKE_CNT_DARKS ∧
      t.evt P.SYS_WAKE 7 = true) ∧
  (∀ src chan s, s.wake.power = .nightfall → s.wakeArmed src (chan % 16) = true →
    ∃ t, exec (.wakeSource src chan) s = .next t ∧ t.wake.latch = s.wake.latch ++ [⟨src, chan % 16⟩]) ∧
  (∀ s, s.wake.pulseDue = true → (s.pwr.starting = true ∨ s.pwr.sysOn = true) →
    ∃ t, exec .dawnPulseInject s = .next t ∧ t.wake.pulseDue = false ∧ t.out = s.out ++ [.pulse .a none, .pulse .b none] ∧
      t.get F.SYS_WAKE_SEG_PULSE_TX = min (s.get F.SYS_WAKE_SEG_PULSE_TX + 2) (2 ^ F.SYS_WAKE_SEG_PULSE_TX.width - 1)) ∧
  ∀ k s, s.asleep = true →
    ∃ t, exec (.wakeInputInactive k) s = .next t ∧ t.wake.blocked.contains k = false ∧
      (k = 16 → t.bit (F.SYS_DIN_STAT_STUCK 0) = false)

/-- Boot, resets and configuration of the management pair (R361 to R364, R367 to R371, R391). Cryptography is presumed from its
standards (log entry 40); corners are readings (log entries 51 to 53). -/
def Obligations.ManagementPair : Prop :=  (∀ ue s, s.isOn I.MGT = true → s.mgt.booting = true → s.bit F.MGT_CTRL_STAT_HOLD = false → s.mgt.fresh = true →
    ∃ t, exec (.boot ue) s = .next t ∧ t.mgt.booting = false ∧ t.mgt.kicked = s.mono ∧ t.bit F.SYS_RST_BOOT_ONCE_EN = false ∧
      t.bit (F.PG_STAT_READY P.MGT_MBOX) = true ∧ (t.bit F.MGT_CTRL_STAT_RUN = true ∨ t.bit F.MGT_CTRL_STAT_RECOVERY = true)) ∧
  (∀ ue s, (s.isOn I.MGT = false ∨ s.mgt.booting = false ∨ s.bit F.MGT_CTRL_STAT_HOLD = true) → exec (.boot ue) s = .next s) ∧
  (∀ ue s, s.fwRuns = true → s.mgt.fresh = true → s.bit F.SYS_RST_BOOT_SAFE = false → s.bit F.SYS_RST_BOOT_CFG_OK = false →
    (s.modMgt fun m => { m with fresh := false }).cfgOutcome (s.get F.SYS_RST_BOOT_FW_BANK)
      (ue.contains (s.get F.SYS_RST_BOOT_FW_BANK)) = 1 →
    ∃ t, exec (.configApply ue) s = .next t ∧ t.bit F.SYS_RST_BOOT_CFG_OK = true ∧
      t.get F.SYS_RST_BOOT_CFG_BANK = s.get F.SYS_RST_BOOT_FW_BANK) ∧
  (∀ ue s, (s.fwRuns = false ∨ s.mgt.fresh = false ∨ s.bit F.SYS_RST_BOOT_SAFE = true ∨ s.bit F.SYS_RST_BOOT_CFG_OK = true) →
    exec (.configApply ue) s = .next s) ∧
  (∀ ue s, s.isOn I.MGT = true → s.bit F.MGT_CTRL_STAT_HOLD = false → s.mgtResets.length ≠ 4 →
    ∃ t, exec (.lockstep ue) s = .next t ∧ t.mgt.booting = true ∧ t.bit F.MGT_CTRL_STAT_RUN = false ∧
      t.get F.MGT_CTRL_RST_CAUSE = (if ue = true then 2 else 1) ∧ t.evt P.MGT_CTRL 0 = true ∧ t.mgt.queue = []) ∧
  (∀ ue s, s.isOn I.MGT = true → s.bit F.MGT_CTRL_STAT_HOLD = false → s.mgtResets.length = 4 →
    ∃ t, exec (.lockstep ue) s = .next t ∧ t.bit F.MGT_CTRL_STAT_HOLD = true ∧ t.bit F.MGT_CTRL_STAT_RUN = false ∧
      t.mgt.booting = false ∧ t.evt P.MGT_CTRL 2 = true) ∧
  (∀ ue s, (s.isOn I.MGT = false ∨ s.bit F.MGT_CTRL_STAT_HOLD = true) → exec (.lockstep ue) s = .next s) ∧
  (∀ s, s.fwRuns = true → s.bit F.MGT_CTRL_STAT_HOLD = false → s.mgtResets.length ≠ 4 → s.mgt.kicked + s.wdtNs ≤ s.mono →
    ∃ t, exec .wdt s = .next t ∧ t.mgt.booting = true ∧ t.get F.MGT_CTRL_RST_CAUSE = 3 ∧ t.evt P.MGT_CTRL 1 = true) ∧
  (∀ s, (s.fwRuns = false ∨ s.mono < s.mgt.kicked + s.wdtNs) → exec .wdt s = .next s) ∧
  (∀ v s, s.carries .firmware R.MGT_CTRL_WDT = true → v.toNat / 2 ^ 24 = 0xA5 →
    ∃ t, exec (.kick .firmware v) s = .next t ∧ t.mgt.kicked = s.mono) ∧
  (∀ v s, s.carries .firmware R.MGT_CTRL_WDT = true → v.toNat / 2 ^ 24 ≠ 0xA5 → s.isOn I.MGT = true →
    s.bit F.MGT_CTRL_STAT_HOLD = false → s.mgtResets.length ≠ 4 →
    ∃ t, exec (.kick .firmware v) s = .next t ∧ t.mgt.booting = true ∧ t.get F.MGT_CTRL_RST_CAUSE = 4 ∧ t.evt P.MGT_CTRL 1 = true) ∧
  (∀ q v s, q ≠ .firmware → ∃ t, exec (.kick q v) s = .next t ∧ t.mgt = s.mgt) ∧
  (∀ q v s, s.carries q R.MGT_CTRL_CMD = true → s.owns q P.MGT_CTRL = true → v.getLsbD 0 = true →
    s.bit F.MGT_CTRL_STAT_HOLD = true → s.mgtResets.length ≠ 4 →
    ∃ t, exec (.mgtRestart q v) s = .next t ∧ t.bit F.MGT_CTRL_STAT_HOLD = false ∧ t.mgt.booting = true ∧
      t.get F.MGT_CTRL_RST_CAUSE = 5) ∧
  (∀ q v s, (s.carries q R.MGT_CTRL_CMD = false ∨ s.owns q P.MGT_CTRL = false ∨ v.getLsbD 0 = false ∨
    s.bit F.MGT_CTRL_STAT_HOLD = false) →
    ∃ t, exec (.mgtRestart q v) s = .next t ∧ t.mgt = s.mgt) ∧
  (∀ load s, s.fwRuns = false → exec (.govWindowEnd load) s = .next s) ∧
  ∀ load s, s.fwRuns = true →
    ∃ t, exec (.govWindowEnd load) s = .next t ∧ t.get F.MGT_CTRL_STAT_LOAD = min 100 load

/-- The mailbox and remote management (R383 to R385, R387, R392). Order and corner answers are the model's readings (log entry
52). -/
def Obligations.Mailbox : Prop :=  (∀ q v s, s.carries q R.MGT_MBOX_CMD = true → s.mgt.queue.length < s.qlim →
    ∃ t, exec (.mboxPush q v) s = .next t ∧ t.mgt.queue = s.mgt.queue ++
      [⟨v.toNat % 256, v.toNat / 256 % 256, (List.range 4).map fun k => s.rd (R.MGT_MBOX_ARG k), none, [], false⟩]) ∧
  (∀ q v s, s.carries q R.MGT_MBOX_CMD = true → s.qlim ≤ s.mgt.queue.length →
    ∃ t, exec (.mboxPush q v) s = .next t ∧ t.mgt.queue = s.mgt.queue ∧
      t.get F.MGT_MBOX_STAT_REFUSED = s.up F.MGT_MBOX_STAT_REFUSED ∧ t.evt P.MGT_MBOX 1 = true) ∧
  (∀ q v s, s.carries q R.MGT_MBOX_RACK = true → v.getLsbD 0 = true →
    ∃ t, exec (.pop q v) s = .next t ∧ t.mgt.rsps = s.mgt.rsps.drop 1) ∧
  (∀ code row s, mboxRow code row → (s.mgt.queue = [] ∨ s.fwRuns = false ∧ s.recovery = false) →
    exec row s = .next s) ∧
  (∀ code row r rest s, mboxRow code row → s.fwRuns = true → s.mgt.queue = r :: rest → mboxCodes.contains r.code = true →
    r.code ≠ code → exec row s = .next s) ∧
  (∀ code row r rest s, mboxRow code row → s.fwRuns = true → s.mgt.queue = r :: rest → r.from' = none → 16 ≤ s.mgt.rsps.length →
    exec row s = .next s) ∧
  (∀ code row r rest s, mboxRow code row → s.fwRuns = true → s.mgt.queue = r :: rest →
    (r.from'.isSome = true ∨ s.mgt.rsps.length < 16) → mboxCodes.contains r.code = false →
    ∃ t, exec row s = .next t ∧ s.answered t r rest 2 []) ∧
  (∀ code row r rest s, mboxRow code row → s.fwRuns = true → s.mgt.queue = r :: rest →
    (r.from'.isSome = true ∨ s.mgt.rsps.length < 16) → r.code = code →
    (1 ≤ s.get F.MGT_CTRL_STAT_LEVEL ∧ r.from'.isSome = true ∨
      2 ≤ s.get F.MGT_CTRL_STAT_LEVEL ∧ class2Codes.contains r.code = true) →
    ∃ t, exec row s = .next t ∧ s.answered t r rest 8 [] ∧ t.mgt.shed = s.mgt.shed + 1 ∧
      t.get F.MGT_CTRL_GOV_SHED = s.up F.MGT_CTRL_GOV_SHED) ∧
  (∀ r rest s, s.serves 0x01 r rest = true → ∃ t, exec .echo s = .next t ∧ s.answered t r rest 0 [r.args.getD 0 0]) ∧
  (∀ r rest s, s.serves 0x02 r rest = true →
    ∃ t, exec .version s = .next t ∧ s.answered t r rest 0
      [if s.fwRuns then BitVec.ofNat 32 (hdrGen (s.header (imgSlot (s.get F.SYS_RST_BOOT_FW_BANK) 1))) else 0,
       if s.fwRuns then BitVec.ofNat 32 (hdrSvn (s.header (imgSlot (s.get F.SYS_RST_BOOT_FW_BANK) 1))) else 0,
       BitVec.ofNat 32 (s.get F.SYS_RST_BOOT_FW_BANK * 2 ^ 31 + Config.bootRomVersion.toNat)]) ∧
  (∀ r rest s, s.serves 0x03 r rest = true →
    ∃ t, exec .govStatus s = .next t ∧ s.answered t r rest 0
      [BitVec.ofNat 32 (s.get F.MGT_CTRL_STAT_LOAD), BitVec.ofNat 32 (s.get F.MGT_CTRL_STAT_LEVEL), BitVec.ofNat 32 s.mgt.shed]) ∧
  (∀ r rest e s, s.serves 0x31 r rest = true → (s.mgt.sections.find? fun x => x.1 == r.arg 0) = some e →
    ∃ t, exec .policyRead s = .next t ∧ s.answered t r rest 0 [BitVec.ofNat 32 e.2.length]) ∧
  ∀ f tab s, s.mgtReady = true → f.cls = 3 → f.flow = 0x010 → nfMalformed f = false → 20 ≤ f.len → s.acceptTable f = some tab →
    s.addressed tab f = true → s.isOn I.PSC = true → 2 ≤ s.aclPerm (s.identSerial tab f.src) (P.MGT_MBOX / 4096) →
    s.mgt.queue.length < s.qlim →
    ∃ t r, exec (.remoteManagementRx f) s = .next t ∧ t.mgt.queue = s.mgt.queue ++ [r] ∧ r.from' = some (f.src, f.epoch) ∧
      r.code = ofBytes (bytesAt (f.payload.take f.len) 0 1)

/-- Updates, keys and policy tables through the mailbox (R374, R375, R381, R385, R386, R390). Answers where rules are silent are
readings (log entries 52, 54). -/
def Obligations.Updates : Prop :=  (∀ r rest s, s.serves 0x10 r rest = true → r.arg 0 ≤ 1 → (r.arg 1 = 1 ∨ r.arg 1 = 2) → 256 ≤ r.arg 2 → r.arg 2 ≤ slotSize →
    s.slotProtected (r.arg 0) (r.arg 1) = false →
    ∃ t, exec .imgBegin s = .next t ∧ s.answered t r rest 0 [] ∧ t.mgt.img = some ⟨r.arg 0, r.arg 1, r.arg 2, []⟩) ∧
  (∀ r rest s, s.serves 0x10 r rest = true → r.arg 0 ≤ 1 → (r.arg 1 = 1 ∨ r.arg 1 = 2) → 256 ≤ r.arg 2 → r.arg 2 ≤ slotSize →
    s.slotProtected (r.arg 0) (r.arg 1) = true →
    ∃ t, exec .imgBegin s = .next t ∧ s.answered t r rest 4 [] ∧ t.nv = s.nv ∧ t.mgt.img = s.mgt.img) ∧
  (∀ r rest g s, s.serves 0x11 r rest = true → s.mgt.img = some g → r.arg 0 % 8 = 0 → r.arg 1 % 8 = 0 → 8 ≤ r.arg 1 →
    r.arg 1 ≤ 2048 → r.arg 0 + r.arg 1 ≤ g.len →
    (g.written.any fun e => decide (e.1 < r.arg 0 + r.arg 1) && decide (r.arg 0 < e.1 + e.2)) = false →
    (r.from' = none ∨ r.arg 1 ≤ r.data.length) → s.slotProtected g.bank g.kind = false →
    ∃ t, exec .imgWrite s = .next t ∧ s.answered t r rest 0 [] ∧
      t.mgt.img = some { g with written := (r.arg 0, r.arg 1) :: g.written }) ∧
  (∀ r rest s, s.serves 0x11 r rest = true → s.mgt.img = none →
    ∃ t, exec .imgWrite s = .next t ∧ s.answered t r rest 7 [] ∧ t.nv = s.nv) ∧
  (∀ ue r rest g s, s.serves 0x12 r rest = true → s.mgt.img = some g →
    ∃ t, exec (.imgEnd ue) s = .next t ∧ t.mgt.img = none ∧ t.mgt.queue = rest ∧ (r.from' = none → t.evt P.MGT_MBOX 0 = true) ∧
      (t.evt P.MGT_IMG 0 = true ∨ t.evt P.MGT_IMG 1 = true)) ∧
  (∀ r rest s, s.serves 0x13 r rest = true → r.arg 0 ≤ 1 → r.arg 1 = 1 →
    hdrIs (s.header (imgSlot (r.arg 0) 1)) 1 slotSize = true →
    ∃ t, exec .imgInfo s = .next t ∧ s.answered t r rest 0 [BitVec.ofNat 32 (hdrGen (s.header (imgSlot (r.arg 0) 1))),
      BitVec.ofNat 32 (hdrSvn (s.header (imgSlot (r.arg 0) 1))),
      BitVec.ofNat 32 (s.get (F.MGT_IMG_INFO_MARK (r.arg 0)) * 2 ^ 30 + s.get (F.MGT_IMG_INFO_FW_RES (r.arg 0)))]) ∧
  (∀ r rest s, s.serves 0x14 r rest = true → r.arg 0 ≤ 1 → s.bankVerified (r.arg 0) = false →
    ∃ t, exec .imgActivate s = .next t ∧ s.answered t r rest 7 []) ∧
  (∀ r rest s, s.serves 0x14 r rest = true → r.arg 0 ≤ 1 → s.bankVerified (r.arg 0) = true → s.role ≠ 1 → s.role ≠ 4 →
    ∃ t, exec .imgActivate s = .next t ∧ t.bit F.SYS_RST_BOOT_ONCE_EN = true ∧ t.get F.SYS_RST_BOOT_ONCE_BANK = r.arg 0) ∧
  (∀ r rest s, s.serves 0x15 r rest = true →
    ∃ t, exec .imgConfirm s = .next t ∧ s.answered t r rest (if s.fwMark (s.get F.SYS_RST_BOOT_FW_BANK) = 0 then 0 else 7) []) ∧
  (∀ r rest s, s.serves 0x16 r rest = true → r.arg 0 ≤ hdrSvn (s.header (imgSlot (s.get F.SYS_RST_BOOT_FW_BANK) 1)) →
    s.nv.svnMin ≤ r.arg 0 → s.fwMark (s.get F.SYS_RST_BOOT_FW_BANK) ≠ 0 →
    ∃ t, exec .svnCommit s = .next t ∧ s.answered t r rest 0 [] ∧ t.nv.svnMin = r.arg 0) ∧
  (∀ r rest s, s.serves 0x20 r rest = true → s.bit F.SYS_RST_STAT_OWNER_KEY = false → s.nv.owner = none →
    r.arg 0 = ofBytes ((s.mboxData r 32).take 4) →
    ∃ t, exec .ownerKey s = .next t ∧ s.answered t r rest 0 [] ∧ t.nv.owner = some (s.mboxData r 32)) ∧
  (∀ r rest s, s.serves 0x20 r rest = true → (s.bit F.SYS_RST_STAT_OWNER_KEY = true ∨ s.nv.owner.isSome = true) →
    ∃ t, exec .ownerKey s = .next t ∧ s.answered t r rest 4 [] ∧ t.nv = s.nv) ∧
  (∀ r rest s, s.serves 0x30 r rest = true → (r.arg 0 < 256 ∨ 2048 < r.arg 0) →
    ∃ t, exec .policyLoad s = .next t ∧ s.answered t r rest 3 []) ∧
  ∀ r rest key s, s.serves 0x30 r rest = true → 256 ≤ r.arg 0 → r.arg 0 ≤ 2048 →
    (r.from' = none ∨ r.arg 0 ≤ r.data.length) → s.ownerDigest = some key →
    hdrIs ((s.mboxData r (r.arg 0)).take 256) 3 (r.arg 0) = true →
    signatureOk ((s.mboxData r (r.arg 0)).take 256)
      (((s.mboxData r (r.arg 0)).drop 256).take (hdrLen ((s.mboxData r (r.arg 0)).take 256))) key = true →
    s.mgt.policyGen ≤ hdrGen ((s.mboxData r (r.arg 0)).take 256) →
    badSection (fun x => policyTypes.contains x)
      (((s.mboxData r (r.arg 0)).drop 256).take (hdrLen ((s.mboxData r (r.arg 0)).take 256))) = none →
    (∀ x, s.sectionOff x = false) →
    sectionData (((s.mboxData r (r.arg 0)).drop 256).take (hdrLen ((s.mboxData r (r.arg 0)).take 256))) 6 = none →
    ∃ t, exec .policyLoad s = .next t ∧ t.mgt.policyGen = hdrGen ((s.mboxData r (r.arg 0)).take 256) ∧
      (r.from' = none → t.evt P.MGT_MBOX 0 = true)

/-- The event recorder's writer (R394 to R403). Corners are the model's readings (log entries 31, 32). -/
def Obligations.RecorderWriter : Prop :=  (∀ s, (s.isOn I.REC = false ∨ s.evq = []) → exec .recEventStamp s = .next s) ∧
  (∀ ev rest s, s.isOn I.REC = true → s.evq = ev :: rest → s.evq.find? isTstep = none →
    (∀ c, s.coalFirst = some c → s.mono < c.deadline) →
    (s.recorder.fifo.length < 192 ∨ s.recorder.fifo.length < 256 ∧ s.get F.REC_CTRL_CFG_FLOOD_SEV ≤ ev.sev) →
    s.get F.REC_CTRL_CFG_MIN_SEV ≤ ev.sev →
    ∃ t, exec .recEventStamp s = .next t ∧ t.evq = rest ∧ t.recorder.fifo = s.recorder.fifo ++ [s.recStamp ev]) ∧
  (∀ ev rest s, s.isOn I.REC = true → s.evq = ev :: rest → s.evq.find? isTstep = none →
    (∀ c, s.coalFirst = some c → s.mono < c.deadline) →
    (256 ≤ s.recorder.fifo.length ∨ 192 ≤ s.recorder.fifo.length ∧ ev.sev < s.get F.REC_CTRL_CFG_FLOOD_SEV) →
    s.get F.REC_CTRL_CFG_MIN_SEV ≤ ev.sev →
    ∃ t, exec .recEventStamp s = .next t ∧ t.evq = rest ∧ t.recorder.fifo = s.recorder.fifo ∧
      t.get (F.REC_CTRL_LOSS_LOST (min 4 ev.sev)) = s.up (F.REC_CTRL_LOSS_LOST (min 4 ev.sev))) ∧
  (∀ ev s, s.isOn I.REC = true → s.evq.find? isTstep = some ev → (∀ c, s.coalFirst = some c → s.mono < c.deadline) →
    s.recorder.fifo.length < 260 →
    ∃ t, exec .recEventStamp s = .next t ∧ t.evq = s.evq.erase ev ∧
      t.recorder.fifo = s.recorder.fifo ++ [{ s.recStamp ev with wall := ofBytes (bytesAt ev.data 8 8) }]) ∧
  (∀ s, (s.isOn I.REC = false ∨ s.recorder.fifo = []) → exec .recCommit s = .next s) ∧
  (∀ e es s, s.isOn I.REC = true → s.recorder.fifo = e :: es → s.merges e = false → s.recFull = true →
    ∃ t, exec .recCommit s = .next t ∧ t.recorder.fifo = es ∧ t.rd R.REC_CTRL_NEXT = s.rd R.REC_CTRL_NEXT ∧
      t.get (F.REC_CTRL_LOSS_LOST (min 4 e.ev.sev)) = s.up (F.REC_CTRL_LOSS_LOST (min 4 e.ev.sev))) ∧
  (∀ e es c s, s.isOn I.REC = true → s.recorder.fifo = e :: es → s.merges e = true → s.coalOf e = some c → e.mono < c.deadline →
    ∃ t, exec .recCommit s = .next t ∧ t.recorder.fifo = es ∧ t.rd R.REC_CTRL_NEXT = s.rd R.REC_CTRL_NEXT ∧
      { c with counted := c.counted + 1, sev := max c.sev e.ev.sev, data := e.ev.data } ∈ t.recorder.coal) ∧
  (∀ e es s, s.isOn I.REC = true → s.recorder.fifo = e :: es → s.merges e = false → s.recFull = false → s.recHeld ≤ ringSize →
    ∃ t, exec .recCommit s = .next t ∧ t.recorder.fifo = es ∧ t.rd R.REC_CTRL_NEXT = s.rd R.REC_CTRL_NEXT + 1 ∧
      t.recHeld = (if s.recHeld = ringSize then ringSize else s.recHeld + 1) ∧
      t.rdBytes (recSlot s.recNext) 4 = beBytes 4 s.recNext) ∧
  (∀ c s, s.isOn I.REC = true → s.coalFirst = some c → c.deadline ≤ s.mono → c.counted = 0 →
    ∃ t, exec .coalClose s = .next t ∧ t.recorder.coal = s.recorder.coal.erase c ∧ t.recorder.fifo = s.recorder.fifo) ∧
  (∀ c s, s.isOn I.REC = true → s.coalFirst = some c → c.deadline ≤ s.mono → c.counted ≠ 0 → s.recorder.fifo.length < 192 →
    ∃ t e, exec .coalClose s = .next t ∧ t.recorder.coal = s.recorder.coal.erase c ∧ t.recorder.fifo = s.recorder.fifo ++ [e] ∧
      e.count = c.counted ∧ e.mono = c.deadline) ∧
  (∀ s, (s.isOn I.REC = false ∨ s.coalFirst = none) → exec .coalClose s = .next s) ∧
  (∀ c s, s.coalFirst = some c → s.mono < c.deadline → exec .coalClose s = .next s) ∧
  (∀ v s, s.isOn I.REC = true → v < 5 → stGet (fun _ => 0) s.recorder.lost v ≠ 0 → s.recorder.fifo.length ≤ 64 → s.recFull = false →
    s.lossHeld = false →
    ∃ t, exec .loss s = .next t ∧ t.recorder.lost = [] ∧ t.rd R.REC_CTRL_NEXT = s.rd R.REC_CTRL_NEXT + 1 ∧ t.evt P.REC_CTRL 0 = true ∧
      t.recorder.lossAt = some s.mono) ∧
  (∀ s, (s.isOn I.REC = false ∨ s.recorder.lost = [] ∨ 64 < s.recorder.fifo.length ∨ s.recFull = true ∨ s.lossHeld = true) →
    exec .loss s = .next s) ∧
  (∀ q v s, s.carries q R.REC_CTRL_CMD = true → s.owns q P.REC_CTRL = true → v.getLsbD 0 = true →
    ∃ t, exec (.clear q v) s = .next t ∧ t.recHeld = 1 ∧ t.rd R.REC_CTRL_OLD = s.rd R.REC_CTRL_NEXT ∧
      t.rd R.REC_CTRL_NEXT = s.rd R.REC_CTRL_NEXT + 1 ∧ t.evt P.REC_CTRL 2 = true) ∧
  (∀ q v s, (s.carries q R.REC_CTRL_CMD = false ∨ s.owns q P.REC_CTRL = false ∨ v.getLsbD 0 = false) →
    ∃ t, exec (.clear q v) s = .next t ∧ t.rd R.REC_CTRL_OLD = s.rd R.REC_CTRL_OLD ∧ t.rd R.REC_CTRL_NEXT = s.rd R.REC_CTRL_NEXT ∧
      t.recHeld = s.recHeld) ∧
  (∀ q v s, s.carries q R.REC_CTRL_POST = true → 0x80 ≤ v.toNat % 256 →
    ∃ t ev, exec (.recPost q v) s = .next t ∧ t.evq = s.evq ++ [ev] ∧ ev.code = postIsland q * 256 + v.toNat % 256) ∧
  (∀ q v s, s.carries q R.REC_CTRL_POST = true → v.toNat % 256 < 0x80 →
    ∃ t, exec (.recPost q v) s = .next t ∧ t.evq = s.evq ∧ t.evt P.REC_CTRL 4 = true) ∧
  ∀ q v s, s.carries q R.REC_CTRL_CFG = true → s.owns q P.REC_CTRL = true →
    ∃ t, exec (.stopWrite q v) s = .next t ∧ t.get F.REC_CTRL_CFG_STOP = F.REC_CTRL_CFG_STOP.of v

/-- The recorder's read port and stream (R404, R407). -/
def Obligations.RecorderReaders : Prop :=  (∀ q s, s.carries q R.REC_PORT_POP = true → (s.recCatchUp q).recNone q = false →
    ∃ t, exec (.recPortPop q false) s = .next t ∧ t.recCur q = ((s.recCatchUp q).recCur q + 1) % 2 ^ 32 ∧
      stGet (fun _ => []) t.recorder.snap q.code = s.rdBytes (recSlot ((s.recCatchUp q).recCur q)) 64 ∧
      t.out = s.out ++ [.readData q R.REC_PORT_POP (BitVec.ofNat 32 (2 ^ 31 + s.recSkipped q))]) ∧
  (∀ q b s, s.carries q R.REC_PORT_POP = true → (s.recCatchUp q).recNone q = false →
    ∃ t, exec (.recPortPop q true) s = .next t ∧ t.recCur q = ((s.recCatchUp q).recCur q + 1) % 2 ^ 32 ∧
      (stGet (fun _ => []) t.recorder.snap q.code = b →
        ofBytes (bytesAt b 60 4) ≠ (crc32c (bytesAt b 0 60)).toNat) ∧
      t.out = s.out ++ [.readData q R.REC_PORT_POP (BitVec.ofNat 32 (2 ^ 31 + 2 ^ 30 + s.recSkipped q))]) ∧
  (∀ q ue s, s.carries q R.REC_PORT_POP = true → (s.recCatchUp q).recNone q = true →
    ∃ t, exec (.recPortPop q ue) s = .next t ∧ t.recCur q = (s.recCatchUp q).recCur q ∧ t.recorder.snap = s.recorder.snap ∧
      t.out = s.out ++ [.readData q R.REC_PORT_POP (BitVec.ofNat 32 (s.recSkipped q))]) ∧
  (∀ q v s, s.carries q R.REC_PORT_CUR = true →
    ∃ t, exec (.recPortCurWrite q v) s = .next t ∧ t.recCur q = v.toNat) ∧
  (∀ q v s, s.carries q R.REC_STRM_CFG = true → v.getLsbD 31 = true → s.bit F.REC_STRM_CFG_EN = false →
    ∃ t, exec (.streamEnable q v) s = .next t ∧
      if (s.wr R.REC_STRM_CFG (v &&& 0x670FFFFF)).dmaFits ((s.wr R.REC_STRM_CFG (v &&& 0x670FFFFF)).get F.REC_STRM_CFG_OWIN)
          s.strmBase (64 * (s.wr R.REC_STRM_CFG (v &&& 0x670FFFFF)).strmSlots) = true then
        t.bit F.REC_STRM_CFG_EN = true ∧ t.rd R.REC_STRM_PTR = 0 ∧ t.recorder.streamed = 0
      else t.bit F.REC_STRM_CFG_EN = false ∧ t.evt P.REC_STRM 3 = true) ∧
  (∀ q v s, s.carries q R.REC_STRM_CFG = true → v.getLsbD 31 = false →
    ∃ t, exec (.streamEnable q v) s = .next t ∧ t.bit F.REC_STRM_CFG_EN = false) ∧
  (∀ s, (s.isOn I.REC = false ∨ s.bit F.REC_STRM_CFG_EN = false ∨ s.isOn I.HBR = false ∨ s.bit F.HBR_CTRL_LINK_BME = false ∨
    s.bit F.HBR_CTRL_LINK_D3 = true ∨ (s.get F.REC_STRM_PTR_PUT + 1) % s.strmSlots = s.get F.REC_STRM_PTR_GET) →
    exec .strm s = .next s) ∧
  (∀ s, s.isOn I.REC = true → s.bit F.REC_STRM_CFG_EN = true → s.isOn I.HBR = true → s.bit F.HBR_CTRL_LINK_BME = true →
    s.bit F.HBR_CTRL_LINK_D3 = false → (s.get F.REC_STRM_PTR_PUT + 1) % s.strmSlots ≠ s.get F.REC_STRM_PTR_GET →
    laterThan 32 s.recOld (s.rd R.REC_STRM_NEXT).toNat = false → (s.rd R.REC_STRM_NEXT).toNat ≠ s.recNext →
    laterThan 32 (s.rd R.REC_STRM_NEXT).toNat s.recNext = false →
    s.dmaFits (s.get F.REC_STRM_CFG_OWIN) (s.strmBase + 64 * s.get F.REC_STRM_PTR_PUT) 64 = true →
    ∃ t, exec .strm s = .next t ∧ t.get F.REC_STRM_PTR_PUT = (s.get F.REC_STRM_PTR_PUT + 1) % s.strmSlots ∧
      t.rd R.REC_STRM_NEXT = s.rd R.REC_STRM_NEXT + 1 ∧
      t.out = (s.dmaWrite (s.get F.REC_STRM_CFG_OWIN) (s.strmBase + 64 * s.get F.REC_STRM_PTR_PUT)
        (s.rdBytes (recSlot (s.rd R.REC_STRM_NEXT).toNat) 64)).out) ∧
  (∀ q v s, s.carries q R.REC_STRM_PTR = true → (s.strmSlots ≤ v.toNat / 65536 ∨
    ringDist s.strmSlots (s.get F.REC_STRM_PTR_GET) (s.get F.REC_STRM_PTR_PUT) <
      ringDist s.strmSlots (v.toNat / 65536) (s.get F.REC_STRM_PTR_PUT)) →
    ∃ t, exec (.streamGetWrite q v) s = .next t ∧ t.get F.REC_STRM_PTR_GET = s.get F.REC_STRM_PTR_GET) ∧
  ∀ q v s, s.carries q R.REC_STRM_PTR = true → v.toNat / 65536 < s.strmSlots →
    ringDist s.strmSlots (v.toNat / 65536) (s.get F.REC_STRM_PTR_PUT) ≤
      ringDist s.strmSlots (s.get F.REC_STRM_PTR_GET) (s.get F.REC_STRM_PTR_PUT) →
    ∃ t, exec (.streamGetWrite q v) s = .next t ∧ t.get F.REC_STRM_PTR_GET = v.toNat / 65536

/-- Storage errors, sensors and health (R409, R410, R413, R422, R423). The sign of the correction is presumed (log entry 59);
sensor corners are readings (log entries 57, 60). -/
def Obligations.HealthMonitoring : Prop :=  (∀ pg m row group s, mapped (pageOf pg) = true → islandOf (pageOf pg) = memIsland m → s.powered (memIsland m) = true →
    ∃ t, exec (.eccEvent pg m row group true) s = .next t ∧ t.evt (eccPage (pageOf pg)) 28 = true ∧
      t.get (F.PG_ERR_UE_CNT (eccPage (pageOf pg))) = s.up (F.PG_ERR_UE_CNT (eccPage (pageOf pg)))) ∧
  (∀ pg m row group s, mapped (pageOf pg) = true → islandOf (pageOf pg) = memIsland m → s.powered (memIsland m) = true →
    ∃ t, exec (.eccEvent pg m row group false) s = .next t ∧ t.evt (eccPage (pageOf pg)) 29 = true ∧
      t.get (F.PG_ERR_CE_CNT (eccPage (pageOf pg))) = s.up (F.PG_ERR_CE_CNT (eccPage (pageOf pg)))) ∧
  (∀ pg m row group ue s, (mapped (pageOf pg) = false ∨ islandOf (pageOf pg) ≠ memIsland m ∨ s.powered (memIsland m) = false) →
    exec (.eccEvent pg m row group ue) s = .next s) ∧
  (∀ s, s.isOn I.HLT = true → ∃ t, exec .ceHourEnd s = .next t ∧ t.hlt.ceHour = [] ∧
    t.hlt.ceRate = (s.hlt.ceHour.filter fun e => decide (max 1 (s.get F.HLT_CTRL_THR_CE_W) ≤ e.2)).map (·.1)) ∧
  (∀ s, s.isOn I.HLT = false → exec .ceHourEnd s = .next s) ∧
  (∀ n v s, s.isOn I.HLT = true → n < 4 → s.excluded n = false → s.tempW ≤ toSigned 16 (v % 65536) → s.hlt.hotW.contains n = false →
    ∃ t, exec (.sensorAlarm (.temp n v)) s = .next t ∧ t.get (F.HLT_SENS_V_VALUE n) = v % 65536 ∧ n ∈ t.hlt.hotW ∧
      t.evt P.HLT_SENS 0 = true) ∧
  (∀ n v s, s.isOn I.HLT = true → 4 ≤ n → n < 10 → s.supplyBad n v = true → s.hlt.voltBad.contains n = false →
    ∃ t, exec (.sensorAlarm (.supply n v)) s = .next t ∧ t.get (F.HLT_SENS_V_VALUE n) = v % 65536 ∧ n ∈ t.hlt.voltBad ∧
      t.evt P.HLT_SENS 0 = true) ∧
  (∀ n v s, s.isOn I.HLT = false → exec (.sensorAlarm (.temp n v)) s = .next s ∧ exec (.sensorAlarm (.supply n v)) s = .next s) ∧
  (∀ item value s, s.isOn I.HLT = true →
    ∃ t, exec (.healthReasonClearTimer I.SYS 14 item value) s = .next t ∧ t.pwr.byp24 = false ∧
      (t.get (F.HLT_CTRL_ISL_REASON I.SYS)).testBit 14 = false) ∧
  (∀ isl bit item value s, s.isOn I.HLT = false → exec (.healthReasonClearTimer isl bit item value) s = .next s) ∧
  (∀ n v s, n < 17 → s.carries .firmware (R.HLT_CTRL_ISL n) = true → s.owns .firmware P.HLT_CTRL = true →
    ∃ t, exec (.fwLevelWrite .firmware n v) s = .next t ∧ t.get (F.HLT_CTRL_ISL_FW n) = (F.HLT_CTRL_ISL_FW n).of v) ∧
  (∀ dev s, s.isOn I.HLT = true → s.srcGood 1 = true → (5000 : Int) < dev →
    ∃ t, exec (.iroRecal dev) s = .next t ∧ t.get F.HLT_SENS_CAL_IRO_TRIM = s.get F.HLT_SENS_CAL_IRO_TRIM - 1) ∧
  (∀ dev s, s.isOn I.HLT = true → s.srcGood 1 = true → dev < (-5000 : Int) →
    ∃ t, exec (.iroRecal dev) s = .next t ∧ t.get F.HLT_SENS_CAL_IRO_TRIM = min 255 (s.get F.HLT_SENS_CAL_IRO_TRIM + 1)) ∧
  (∀ dev s, (s.isOn I.HLT = false ∨ s.srcGood 1 = false ∨ (-5000 : Int) ≤ dev ∧ dev ≤ 5000) → exec (.iroRecal dev) s = .next s) ∧
  (∀ q v dev s, s.carries q R.HLT_SENS_CMD = true → v.getLsbD 1 = true → s.isOn I.HLT = true → s.srcGood 1 = true →
    dev < (-5000 : Int) →
    ∃ t, exec (.recal q v dev) s = .next t ∧ t.get F.HLT_SENS_CAL_IRO_TRIM = min 255 (s.get F.HLT_SENS_CAL_IRO_TRIM + 1)) ∧
  (∀ q v dev s, s.carries q R.HLT_SENS_CMD = true → v.getLsbD 1 = true → s.isOn I.HLT = true → s.srcGood 1 = true →
    (5000 : Int) < dev →
    ∃ t, exec (.recal q v dev) s = .next t ∧ t.get F.HLT_SENS_CAL_IRO_TRIM = s.get F.HLT_SENS_CAL_IRO_TRIM - 1) ∧
  ∀ q v dev s, s.carries q R.HLT_SENS_CMD = true → v.getLsbD 0 = true →
    ∃ t, exec (.clrmax q v dev) s = .next t ∧ ∀ k, k < 10 → t.get (F.HLT_SENS_V_MAX k) = s.get (F.HLT_SENS_V_VALUE k)

/-- The start of self-tests (R414, R415, R417). Corners are the model's readings (log entry 57). -/
def Obligations.SelfTestStart : Prop :=  (∀ q v s, s.carries q R.HLT_BIST_CMD = true → s.owns q P.HLT_BIST = true → v.getLsbD 31 = true → F.HLT_BIST_CMD_KIND.of v = 0 →
    s.hlt.test = none → s.isOn I.FAB = true → F.HLT_BIST_CMD_MACRO.of v < 32 →
    (s.rd R.FAB_QUE_RETIRED).getLsbD (F.HLT_BIST_CMD_MACRO.of v) = false → s.poolHasOther (F.HLT_BIST_CMD_MACRO.of v) = true →
    ∃ t, exec (.bankTest q v) s = .next t ∧ t.hlt.test.isSome = true ∧ t.get F.HLT_BIST_STAT_STATE = 1 ∧
      t.get F.HLT_BIST_STAT_MACRO = F.HLT_BIST_CMD_MACRO.of v) ∧
  (∀ q v s, s.carries q R.HLT_BIST_CMD = true → s.owns q P.HLT_BIST = true → v.getLsbD 31 = true → F.HLT_BIST_CMD_KIND.of v = 1 →
    s.hlt.test = none → sessionOrder.contains (F.HLT_BIST_CMD_ISL.of v) = true → s.powered (F.HLT_BIST_CMD_ISL.of v) = true →
    hasMems (F.HLT_BIST_CMD_ISL.of v) = true → s.roleRefuses (F.HLT_BIST_CMD_FORCE.of v != 0) = false →
    ∃ t, exec (.mbist q v) s = .next t ∧ t.hlt.test.isSome = true ∧ t.get F.HLT_BIST_STAT_STATE = 2 ∧
      t.get F.HLT_BIST_STAT_ISL = F.HLT_BIST_CMD_ISL.of v) ∧
  (∀ q v s, s.carries q R.HLT_BIST_CMD = true → s.owns q P.HLT_BIST = true → v.getLsbD 31 = true → F.HLT_BIST_CMD_KIND.of v = 2 →
    s.hlt.test = none → sessionOrder.contains (F.HLT_BIST_CMD_ISL.of v) = true → s.powered (F.HLT_BIST_CMD_ISL.of v) = true →
    s.roleRefuses (F.HLT_BIST_CMD_FORCE.of v != 0) = false →
    ∃ t, exec (.lbist q v) s = .next t ∧ t.hlt.test.isSome = true ∧ t.get F.HLT_BIST_STAT_STATE = 2 ∧
      t.get F.HLT_BIST_STAT_ISL = F.HLT_BIST_CMD_ISL.of v) ∧
  (∀ q v s, s.carries q R.HLT_BIST_CMD = true → s.owns q P.HLT_BIST = true → v.getLsbD 31 = true → F.HLT_BIST_CMD_KIND.of v = 3 →
    s.hlt.test = none → sessionOrder.contains (F.HLT_BIST_CMD_ISL.of v) = true → s.powered (F.HLT_BIST_CMD_ISL.of v) = true →
    s.role = 3 →
    ∃ t, exec (.session q v) s = .next t ∧ t.hlt.session = true ∧ t.hlt.test.isSome = true ∧ t.get F.HLT_BIST_STAT_STATE = 2) ∧
  (∀ q v s, s.carries q R.HLT_BIST_CMD = true → s.owns q P.HLT_BIST = true → v.getLsbD 31 = true → F.HLT_BIST_CMD_KIND.of v = 3 →
    s.hlt.test = none → F.HLT_BIST_CMD_ISL.of v = 0x1F → s.role = 3 → (sessionOrder.filter s.powered).flatMap sessionUnits ≠ [] →
    ∃ t, exec (.session q v) s = .next t ∧ t.hlt.session = true ∧
      t.hlt.test.map (·.todo) = some ((sessionOrder.filter s.powered).flatMap sessionUnits)) ∧
  (∀ q v row s, row ∈ [Instr.mbist q v, .lbist q v, .session q v] → s.carries q R.HLT_BIST_CMD = true → s.owns q P.HLT_BIST = true →
    v.getLsbD 31 = true → F.HLT_BIST_CMD_KIND.of v ≠ 0 → s.hlt.test = none →
    s.testUnits (F.HLT_BIST_CMD_KIND.of v) (F.HLT_BIST_CMD_ISL.of v) (F.HLT_BIST_CMD_MACRO.of v) ≠ [] →
    s.roleRefuses (F.HLT_BIST_CMD_FORCE.of v != 0) = true →
    ∃ t, exec row s = .next t ∧ t.get F.HLT_BIST_STAT_RESULT = 6 ∧ t.evt P.HLT_BIST 2 = true ∧ t.hlt.test = none) ∧
  (∀ q v row s, row ∈ [Instr.bankTest q v, .mbist q v, .lbist q v, .session q v] → s.carries q R.HLT_BIST_CMD = true →
    s.owns q P.HLT_BIST = true → v.getLsbD 31 = true → s.hlt.test = none →
    s.testUnits (F.HLT_BIST_CMD_KIND.of v) (F.HLT_BIST_CMD_ISL.of v) (F.HLT_BIST_CMD_MACRO.of v) = [] →
    ∃ t, exec row s = .next t ∧ t.get F.HLT_BIST_STAT_RESULT = 7 ∧ t.evt P.HLT_BIST 2 = true ∧ t.hlt.test = none) ∧
  ∀ q v row s x, row ∈ [Instr.bankTest q v, .mbist q v, .lbist q v, .session q v] → s.carries q R.HLT_BIST_CMD = true →
    s.owns q P.HLT_BIST = true → v.getLsbD 31 = true → s.hlt.test = some x →
    ∃ t, exec row s = .next t ∧ t.get F.HLT_BIST_STAT_RESULT = 10 ∧ t.evt P.HLT_BIST 2 = true ∧ t.hlt.test = some x

/-- The course of self-tests, verdicts, and the repair record (R415 to R417, R420). Corners are the model's readings (log
entries 57, 58). -/
def Obligations.SelfTestCourse : Prop :=  (∀ x s, s.hlt.test = some x → x.kind = 0 → s.get F.HLT_BIST_STAT_STATE = 1 →
    ∃ t, exec .bankDrainTimeout s = .next t ∧ t.get F.HLT_BIST_STAT_RESULT = 9 ∧ t.get F.HLT_BIST_STAT_STATE = 4 ∧ t.hlt.test = none) ∧
  (∀ s, s.hlt.test = none → exec .bankDrainTimeout s = .next s) ∧
  (∀ x s, s.hlt.test = some x → (x.kind ≠ 0 ∨ s.get F.HLT_BIST_STAT_STATE ≠ 1) → exec .bankDrainTimeout s = .next s) ∧
  (∀ sig rounds x u rest s, s.hlt.test = some x → x.todo = u :: rest → s.get F.HLT_BIST_STAT_STATE = 2 →
    ∃ t, exec (.done sig rounds) s = .next t ∧ t.rd R.HLT_BIST_SIG = sig ∧ t.get F.HLT_BIST_CNT_RUNS = s.up F.HLT_BIST_CNT_RUNS ∧
      t.evt P.HLT_BIST 0 = true ∧ t.evt P.HLT_BIST 3 = true) ∧
  (∀ sig rounds s, (s.hlt.test = none ∨ s.get F.HLT_BIST_STAT_STATE ≠ 2) → exec (.done sig rounds) s = .next s) ∧
  (∀ n x s, sessionOrder.contains n = true → s.get F.HLT_BIST_STAT_STATE = 3 → s.hlt.withdrawn.contains n = true →
    s.hlt.test = some x → x.todo = [] → x.kind ≠ 3 →
    ∃ t, exec (.islandRestore n) s = .next t ∧ t.hlt.withdrawn.contains n = false ∧ t.get F.HLT_BIST_STAT_STATE = 4 ∧
      t.hlt.test = none) ∧
  (∀ n s, (s.get F.HLT_BIST_STAT_STATE ≠ 3 ∨ s.hlt.withdrawn.contains n = false) → exec (.islandRestore n) s = .next s) ∧
  (∀ v d rest s, s.carries .firmware R.HLT_BIST_VERDICT = true → s.owns .firmware P.HLT_BIST = true →
    F.HLT_BIST_VERDICT_VERDICT.of v = 1 → s.hlt.verdicts = d :: rest → sessionOrder.contains d.isl = true → d.result < 16 →
    ∃ t, exec (.verdict .firmware v) s = .next t ∧ t.hlt.verdicts = rest ∧ t.get F.HLT_BIST_STAT_RESULT = d.result) ∧
  (∀ v d rest s, s.carries .firmware R.HLT_BIST_VERDICT = true → s.owns .firmware P.HLT_BIST = true →
    F.HLT_BIST_VERDICT_VERDICT.of v = 2 → s.hlt.verdicts = d :: rest → sessionOrder.contains d.isl = true → d.kind ≠ 2 →
    ∃ t, exec (.verdict .firmware v) s = .next t ∧ t.hlt.verdicts = rest ∧ t.get F.HLT_BIST_STAT_RESULT = 3 ∧
      t.hlt.bistFail.contains d.isl = true) ∧
  (∀ s, s.hlt.verdicts = [] → exec .verdTExpire s = .next s) ∧
  (∀ x s, s.hlt.verdicts ≠ [] → s.hlt.test = some x →
    ∃ t, exec .verdTExpire s = .next t ∧ t.hlt.test = some { x with good := false }) ∧
  (∀ ok s, (s.isOn I.HLT = false ∨ s.bit F.HLT_REPAIR_RSTAT_BUSY = false) → exec (.repairRecordWritten ok) s = .next s) ∧
  (∀ s, s.isOn I.HLT = true → s.bit F.HLT_REPAIR_RSTAT_BUSY = true →
    ∃ t, exec (.repairRecordWritten true) s = .next t ∧ t.nv = ((s.flashErase (recordBase s.recordTarget.1) 0x4000).flashPut
      (recordBase s.recordTarget.1) (recordBytes s.recordTarget.2 (s.pwr.repair.take 1024))).nv) ∧
  ∀ ok s, s.isOn I.HLT = true → s.bit F.HLT_REPAIR_RSTAT_BUSY = true →
    ∃ t, exec (.repairRecordWritten ok) s = .next t ∧ t.bit F.HLT_REPAIR_RSTAT_BUSY = false ∧
      t.bit F.HLT_REPAIR_RSTAT_FAIL = !ok ∧ (ok = false → t.evt P.HLT_REPAIR 3 = true)
end

