-- ==== Sys2Proof/Laws/Store.lean ====
section
/-!
SUPPORT. Sparse contents: a read after a write, and the canonical form that every operation keeps.
-/

namespace Sys2Proof.Machine

set_option Elab.async false

theorem stGet_stErase_same {α : Type} (d : Nat → α) (m : List (Nat × α)) (k : Nat) :
    stGet d (stErase k m) k = d k := by
  induction m with
  | nil => rfl
  | cons e m ih =>
    simp only [stErase, List.filter_cons]
    split
    · rename_i h
      have : e.1 ≠ k := by simpa using h
      simp only [stGet, if_neg this]
      exact ih
    · exact ih

theorem stGet_stErase_ne {α : Type} (d : Nat → α) (m : List (Nat × α)) {k j : Nat} (h : j ≠ k) :
    stGet d (stErase k m) j = stGet d m j := by
  induction m with
  | nil => rfl
  | cons e m ih =>
    simp only [stErase, List.filter_cons]
    split
    · simp only [stGet]
      split
      · rfl
      · exact ih
    · rename_i hk
      have : e.1 = k := by simpa using hk
      simp only [stGet, this]
      rw [if_neg (by exact fun c => h c.symm)]
      exact ih

theorem stGet_stInsert_same {α : Type} (d : Nat → α) (k : Nat) (v : α) (m : List (Nat × α)) (h : ∀ e ∈ m, e.1 ≠ k) :
    stGet d (stInsert k v m) k = v := by
  induction m with
  | nil => simp [stInsert, stGet]
  | cons e m ih =>
    simp only [stInsert]
    split
    · simp [stGet]
    · have := h e (List.mem_cons_self)
      simp only [stGet, if_neg this]
      exact ih fun x hx => h x (List.mem_cons_of_mem _ hx)

theorem stGet_stInsert_ne {α : Type} (d : Nat → α) {k j : Nat} (v : α) (m : List (Nat × α)) (h : j ≠ k) :
    stGet d (stInsert k v m) j = stGet d m j := by
  induction m with
  | nil => simp [stInsert, stGet, Ne.symm h]
  | cons e m ih =>
    simp only [stInsert]
    split
    · simp [stGet, Ne.symm h]
    · simp only [stGet]
      split
      · rfl
      · exact ih

theorem stErase_ne {α : Type} (k : Nat) (m : List (Nat × α)) : ∀ e ∈ stErase k m, e.1 ≠ k := by
  intro e he
  simpa using (List.mem_filter.1 he).2

/-- A read after a write to the same address. -/
theorem stGet_stSet_same {α : Type} [DecidableEq α] (d : Nat → α) (m : List (Nat × α)) (k : Nat) (v : α) :
    stGet d (stSet d m k v) k = v := by
  unfold stSet
  split
  · rename_i h
    rw [stGet_stErase_same, h]
  · exact stGet_stInsert_same d k v _ (stErase_ne k m)

/-- A write leaves every other address alone. -/
theorem stGet_stSet_ne {α : Type} [DecidableEq α] (d : Nat → α) (m : List (Nat × α)) {k j : Nat} (v : α) (h : j ≠ k) :
    stGet d (stSet d m k v) j = stGet d m j := by
  unfold stSet
  split
  · exact stGet_stErase_ne d m h
  · rw [stGet_stInsert_ne d v _ h, stGet_stErase_ne d m h]

theorem stGet_stSet {α : Type} [DecidableEq α] (d : Nat → α) (m : List (Nat × α)) (k j : Nat) (v : α) :
    stGet d (stSet d m k v) j = if j = k then v else stGet d m j := by
  split
  · rename_i h
    rw [h, stGet_stSet_same]
  · rename_i h
    exact stGet_stSet_ne d m v h

/-- Clearing gives the unlisted value to the addresses that `p` picks. -/
theorem stGet_stClear {α : Type} (d : Nat → α) (p : Nat → Bool) (m : List (Nat × α)) (j : Nat) :
    stGet d (stClear p m) j = if p j then d j else stGet d m j := by
  induction m with
  | nil => simp [stClear, stGet]
  | cons e m ih =>
    simp only [stClear, List.filter_cons] at ih ⊢
    split
    · rename_i h
      simp only [stGet]
      split
      · rename_i he
        have : p j = false := by rw [← he]; simpa using h
        simp [this]
      · exact ih
    · rename_i h
      rw [ih]
      split
      · rfl
      · rename_i hj
        simp only [stGet]
        split
        · rename_i he
          rw [he] at h
          simp [hj] at h
        · rfl

/-! The canonical form. -/

/-- The addresses rise strictly, as a relation of neighbours and of all pairs. -/
theorem stRising_iff {α : Type} (m : List (Nat × α)) : stRising m = true ↔ m.Pairwise fun a b => a.1 < b.1 := by
  induction m with
  | nil => simp [stRising]
  | cons e m ih =>
    cases m with
    | nil => simp [stRising]
    | cons f m =>
      simp only [stRising, Bool.and_eq_true, decide_eq_true_eq, ih]
      constructor
      · rintro ⟨h, hp⟩
        refine List.pairwise_cons.2 ⟨?_, hp⟩
        intro x hx
        cases List.mem_cons.1 hx with
        | inl hx => rw [hx]; exact h
        | inr hx => exact Nat.lt_trans h ((List.pairwise_cons.1 hp).1 x hx)
      · intro h
        exact ⟨(List.pairwise_cons.1 h).1 f List.mem_cons_self, (List.pairwise_cons.1 h).2⟩

theorem stCanon_iff {α : Type} [DecidableEq α] (d : Nat → α) (m : List (Nat × α)) :
    stCanon d m = true ↔ (m.Pairwise fun a b => a.1 < b.1) ∧ ∀ e ∈ m, e.2 ≠ d e.1 := by
  simp [stCanon, stRising_iff]

theorem mem_stInsert {α : Type} {k : Nat} {v : α} {m : List (Nat × α)} {e : Nat × α} (h : e ∈ stInsert k v m) :
    e = (k, v) ∨ e ∈ m := by
  induction m with
  | nil => simpa [stInsert] using h
  | cons f m ih =>
    simp only [stInsert] at h
    split at h
    · simpa using h
    · cases List.mem_cons.1 h with
      | inl h => exact .inr (h ▸ List.mem_cons_self)
      | inr h => exact (ih h).imp id (List.mem_cons_of_mem _)

theorem stInsert_pairwise {α : Type} (k : Nat) (v : α) (m : List (Nat × α)) (hp : m.Pairwise fun a b => a.1 < b.1)
    (hk : ∀ e ∈ m, e.1 ≠ k) : (stInsert k v m).Pairwise fun a b => a.1 < b.1 := by
  induction m with
  | nil => simp [stInsert]
  | cons f m ih =>
    have h1 := List.pairwise_cons.1 hp
    simp only [stInsert]
    split
    · rename_i h
      refine List.pairwise_cons.2 ⟨?_, hp⟩
      intro x hx
      cases List.mem_cons.1 hx with
      | inl hx => rw [hx]; exact h
      | inr hx => exact Nat.lt_trans h (h1.1 x hx)
    · rename_i h
      refine List.pairwise_cons.2 ⟨?_, ih h1.2 fun e he => hk e (List.mem_cons_of_mem _ he)⟩
      intro x hx
      cases mem_stInsert hx with
      | inl hx =>
        rw [hx]
        have := hk f List.mem_cons_self
        exact Nat.lt_of_le_of_ne (Nat.le_of_not_lt h) this
      | inr hx => exact h1.1 x hx

/-- A write keeps the canonical form. -/
theorem stSet_canon {α : Type} [DecidableEq α] (d : Nat → α) (m : List (Nat × α)) (k : Nat) (v : α)
    (h : stCanon d m = true) : stCanon d (stSet d m k v) = true := by
  rw [stCanon_iff] at h ⊢
  have hp : (stErase k m).Pairwise fun a b => a.1 < b.1 := h.1.sublist List.filter_sublist
  have hd : ∀ e ∈ stErase k m, e.2 ≠ d e.1 := fun e he => h.2 e (List.mem_filter.1 he).1
  unfold stSet
  split
  · exact ⟨hp, hd⟩
  · rename_i hv
    refine ⟨stInsert_pairwise k v _ hp (stErase_ne k m), ?_⟩
    intro e he
    cases mem_stInsert he with
    | inl he => rw [he]; exact hv
    | inr he => exact hd e he

/-- Clearing keeps the canonical form. -/
theorem stClear_canon {α : Type} [DecidableEq α] (d : Nat → α) (p : Nat → Bool) (m : List (Nat × α))
    (h : stCanon d m = true) : stCanon d (stClear p m) = true := by
  rw [stCanon_iff] at h ⊢
  exact ⟨h.1.sublist List.filter_sublist, fun e he => h.2 e (List.mem_filter.1 he).1⟩

end Sys2Proof.Machine
end

