-- ==== Sys2Proof/Laws/Regs.lean ====
section
/-!
SUPPORT. Registers and RAM bytes: reads after writes, and what a write leaves alone.
-/

namespace Sys2Proof.Machine

set_option Elab.async false

/-! Registers. -/

theorem State.rd_wr (s : State) (a b : Nat) (w : Word) : (s.wr a w).rd b = if b = a then w else s.rd b :=
  stGet_stSet resetVal s.regs a b w

@[simp] theorem State.rd_wr_same (s : State) (a : Nat) (w : Word) : (s.wr a w).rd a = w := stGet_stSet_same ..

theorem State.rd_wr_ne (s : State) {a b : Nat} (w : Word) (h : b ≠ a) : (s.wr a w).rd b = s.rd b := stGet_stSet_ne _ _ _ h

theorem State.rd_put_ne (s : State) (f : Fld) (v : Nat) {b : Nat} (h : b ≠ f.off) : (s.put f v).rd b = s.rd b :=
  s.rd_wr_ne _ h

theorem State.rd_put_same (s : State) (f : Fld) (v : Nat) : (s.put f v).rd f.off = f.ins (s.rd f.off) v := s.rd_wr_same _ _

theorem State.rd_clearRegs (s : State) (p : Nat → Bool) (b : Nat) :
    (s.clearRegs p).rd b = if p b then resetVal b else s.rd b := stGet_stClear resetVal p s.regs b

/-! Bits of a field. -/

theorem Fld.mask_getLsbD (f : Fld) (i : Nat) :
    f.mask.getLsbD i = (decide (i < 32) && decide (f.lo ≤ i) && decide (i < f.lo + f.width)) := by
  simp only [Fld.mask, BitVec.getLsbD_ofNat, Nat.testBit_shiftLeft, Nat.testBit_two_pow_sub_one]
  by_cases h1 : i < 32 <;> by_cases h2 : f.lo ≤ i <;> simp [h1, h2] <;> omega

theorem Fld.ins_getLsbD (f : Fld) (w : Word) (v i : Nat) (hi : i < 32) :
    (f.ins w v).getLsbD i = if f.lo ≤ i ∧ i < f.lo + f.width then v.testBit (i - f.lo) else w.getLsbD i := by
  simp only [Fld.ins, BitVec.getLsbD_or, BitVec.getLsbD_and, BitVec.getLsbD_not, Fld.mask_getLsbD, BitVec.getLsbD_ofNat,
    Nat.testBit_shiftLeft, Nat.testBit_mod_two_pow, hi]
  by_cases h2 : f.lo ≤ i <;> by_cases h3 : i < f.lo + f.width
  · have : i - f.lo < f.width := by omega
    simp [h2, h3, this]
  · have : ¬ i - f.lo < f.width := by omega
    simp [h2, h3, this]
  · simp [h2]
  · simp [h2]

theorem Fld.of_testBit (f : Fld) (w : Word) (i : Nat) : (f.of w).testBit i = (decide (i < f.width) && w.getLsbD (f.lo + i)) := by
  simp [Fld.of, Nat.testBit_mod_two_pow, Nat.testBit_shiftRight, BitVec.getLsbD, Nat.add_comm]

/-- A field that lies within 32 bits reads as what was put into it. -/
theorem Fld.of_ins (f : Fld) (w : Word) (v : Nat) (h : f.lo + f.width ≤ 32) : f.of (f.ins w v) = v % 2 ^ f.width := by
  apply Nat.eq_of_testBit_eq
  intro i
  rw [Fld.of_testBit, Nat.testBit_mod_two_pow]
  by_cases hi : i < f.width
  · rw [Fld.ins_getLsbD _ _ _ _ (by omega)]
    simp [hi]
  · simp [hi]

/-- Two fields of one register that share no bit do not disturb each other. -/
theorem Fld.of_ins_disjoint (f g : Fld) (w : Word) (v : Nat) (hf : f.lo + f.width ≤ 32)
    (h : f.lo + f.width ≤ g.lo ∨ g.lo + g.width ≤ f.lo) : f.of (g.ins w v) = f.of w := by
  apply Nat.eq_of_testBit_eq
  intro i
  rw [Fld.of_testBit, Fld.of_testBit]
  by_cases hi : i < f.width
  · rw [Fld.ins_getLsbD _ _ _ _ (by omega), if_neg (by omega)]
  · simp [hi]

theorem State.get_put_same (s : State) (f : Fld) (v : Nat) (h : f.lo + f.width ≤ 32) : (s.put f v).get f = v % 2 ^ f.width := by
  simp only [State.get, State.rd_put_same, Fld.of_ins f _ v h]

theorem State.get_put_off (s : State) {f g : Fld} (v : Nat) (h : f.off ≠ g.off) : (s.put g v).get f = s.get f := by
  simp only [State.get, State.rd_put_ne s g v h]

theorem State.get_put_disjoint (s : State) {f g : Fld} (v : Nat) (h0 : f.off = g.off) (hf : f.lo + f.width ≤ 32)
    (h : f.lo + f.width ≤ g.lo ∨ g.lo + g.width ≤ f.lo) : (s.put g v).get f = s.get f := by
  simp only [State.get, h0, State.rd_put_same, Fld.of_ins_disjoint f g _ v hf h]

/-! RAM bytes. -/

theorem State.rdByte_wrByte (s : State) (a b : Nat) (v : Byte) : (s.wrByte a v).rdByte b = if b = a then v else s.rdByte b :=
  stGet_stSet _ s.mem a b v

/-- Writing bytes leaves every byte outside them alone. -/
theorem State.rdByte_wrBytes_out (bs : List Byte) : ∀ (s : State) (a b : Nat), (b < a ∨ a + bs.length ≤ b) →
    (s.wrBytes a bs).rdByte b = s.rdByte b := by
  induction bs with
  | nil => intro s a b _; rfl
  | cons v bs ih =>
    intro s a b h
    simp only [List.length_cons] at h
    simp only [State.wrBytes]
    rw [ih _ _ _ (by omega), State.rdByte_wrByte, if_neg (by omega)]

/-- Written bytes read back. -/
theorem State.rdByte_wrBytes_in (bs : List Byte) : ∀ (s : State) (a i : Nat) (h : i < bs.length),
    (s.wrBytes a bs).rdByte (a + i) = bs[i] := by
  induction bs with
  | nil => intro s a i h; simp at h
  | cons v bs ih =>
    intro s a i h
    simp only [State.wrBytes]
    cases i with
    | zero => rw [State.rdByte_wrBytes_out _ _ _ _ (by omega), State.rdByte_wrByte]; simp
    | succ i =>
      have := ih (s.wrByte a v) (a + 1) i (by simpa using h)
      rw [show a + (i + 1) = a + 1 + i by omega, this]
      simp

theorem State.rdByte_clearMem (s : State) (p : Nat → Bool) (b : Nat) :
    (s.clearMem p).rdByte b = if p b then 0 else s.rdByte b := stGet_stClear (fun _ => 0) p s.mem b

/-! The canonical forms (Safety): every operation on registers and RAM keeps them. -/

theorem State.wr_regs_canon (s : State) (a : Nat) (w : Word) (h : stCanon resetVal s.regs = true) :
    stCanon resetVal (s.wr a w).regs = true := stSet_canon resetVal s.regs a w h

theorem State.clearRegs_canon (s : State) (p : Nat → Bool) (h : stCanon resetVal s.regs = true) :
    stCanon resetVal (s.clearRegs p).regs = true := stClear_canon resetVal p s.regs h

theorem State.wrByte_canon (s : State) (a : Nat) (v : Byte) (h : stCanon (fun _ => (0 : Byte)) s.mem = true) :
    stCanon (fun _ => (0 : Byte)) (s.wrByte a v).mem = true := stSet_canon _ s.mem a v h

theorem State.wrBytes_canon (bs : List Byte) : ∀ (s : State) (a : Nat), stCanon (fun _ => (0 : Byte)) s.mem = true →
    stCanon (fun _ => (0 : Byte)) (s.wrBytes a bs).mem = true := by
  induction bs with
  | nil => intro s a h; exact h
  | cons v bs ih => intro s a h; exact ih _ _ (s.wrByte_canon a v h)

theorem State.clearMem_canon (s : State) (p : Nat → Bool) (h : stCanon (fun _ => (0 : Byte)) s.mem = true) :
    stCanon (fun _ => (0 : Byte)) (s.clearMem p).mem = true := stClear_canon _ p s.mem h

end Sys2Proof.Machine
end

