-- ==== Sys2Proof/Laws/FootBase.lean ====
section
/-!
SUPPORT. Changes within a footprint: how they compose, and the footprints of the basic operations.
-/

namespace Sys2Proof.Machine

set_option Elab.async false

/-- The range `lo` to `hi` lies within `F`. -/
def Foot.Holds (F : Foot) (lo hi : Nat) : Prop :=
  F.has .allRegs = true ∨ (F.regs.any fun r => decide (r.1 ≤ lo) && decide (hi ≤ r.2)) = true ∨ ∃ r ∈ F.own, r.1 ≤ lo ∧ hi ≤ r.2

/-- No register and no part. -/
def Foot.none : Foot := ⟨[], [], []⟩

theorem Foot.holds_all {F : Foot} {o : List (Nat × Nat)} {lo hi : Nat} (h : F.has .allRegs = true) : (F.at o).Holds lo hi := .inl h

theorem Foot.holds_reg {F : Foot} {o : List (Nat × Nat)} {lo hi : Nat}
    (h : (F.regs.any fun r => decide (r.1 ≤ lo) && decide (hi ≤ r.2)) = true) : (F.at o).Holds lo hi := .inr (.inl h)

theorem Foot.holds_own {F : Foot} {o : List (Nat × Nat)} {a b lo hi : Nat} (h : (a, b) ∈ o) (h1 : a ≤ lo) (h2 : hi ≤ b) :
    (F.at o).Holds lo hi := .inr (.inr ⟨_, h, h1, h2⟩)

theorem Foot.holds_same {F : Foot} {o : List (Nat × Nat)} {lo hi : Nat} (h : (lo, hi) ∈ o) : (F.at o).Holds lo hi :=
  Foot.holds_own h (Nat.le_refl _) (Nat.le_refl _)

theorem Foot.holds_range {F : Foot} {o : List (Nat × Nat)} (a b : Nat) {lo hi : Nat}
    (h : (F.regs.any fun r => decide (r.1 ≤ a) && decide (b ≤ r.2)) = true) (h1 : a ≤ lo) (h2 : hi ≤ b) : (F.at o).Holds lo hi := by
  refine .inr (.inl ?_)
  rw [List.any_eq_true] at h ⊢
  obtain ⟨r, hr, hd⟩ := h
  refine ⟨r, hr, ?_⟩
  simp only [Bool.and_eq_true, decide_eq_true_eq] at hd ⊢
  omega

theorem Foot.holds_two {F : Foot} {o : List (Nat × Nat)} (a b : Nat) {q : Nat}
    (h : (F.regs.any fun r => decide (r.1 ≤ a) && decide (a ≤ r.2)) = true)
    (h' : (F.regs.any fun r => decide (r.1 ≤ b) && decide (b ≤ r.2)) = true) (hq : q = a ∨ q = b) : (F.at o).Holds q q := by
  rcases hq with rfl | rfl
  · exact Foot.holds_reg h
  · exact Foot.holds_reg h'

theorem Foot.holds_four {F : Foot} {o : List (Nat × Nat)} (a b c d : Nat) {q : Nat}
    (ha : (F.regs.any fun r => decide (r.1 ≤ a) && decide (a ≤ r.2)) = true)
    (hb : (F.regs.any fun r => decide (r.1 ≤ b) && decide (b ≤ r.2)) = true)
    (hc : (F.regs.any fun r => decide (r.1 ≤ c) && decide (c ≤ r.2)) = true)
    (hd : (F.regs.any fun r => decide (r.1 ≤ d) && decide (d ≤ r.2)) = true) (hq : q = a ∨ q = b ∨ q = c ∨ q = d) :
    (F.at o).Holds q q := by
  rcases hq with rfl | rfl | rfl | rfl
  · exact Foot.holds_reg ha
  · exact Foot.holds_reg hb
  · exact Foot.holds_reg hc
  · exact Foot.holds_reg hd

theorem Foot.Holds.touches {F : Foot} {lo hi q : Nat} (h : F.Holds lo hi) (h1 : lo ≤ q) (h2 : q ≤ hi) : F.touches q = true := by
  rcases h with h | h | h
  · simp [Foot.touches, h]
  · simp only [Foot.touches, inRanges, Bool.or_eq_true]
    refine .inl (.inr ?_)
    rw [List.any_eq_true] at h ⊢
    obtain ⟨r, hr, hd⟩ := h
    refine ⟨r, hr, ?_⟩
    simp only [Bool.and_eq_true, decide_eq_true_eq] at hd ⊢
    omega
  · simp only [Foot.touches, inRanges, Bool.or_eq_true]
    refine .inr ?_
    rw [List.any_eq_true]
    obtain ⟨r, hr, hd⟩ := h
    refine ⟨r, hr, ?_⟩
    simp only [Bool.and_eq_true, decide_eq_true_eq]
    omega

/-- `A` lies within `B`. -/
structure Foot.Sub (A B : Foot) : Prop where
  parts : A.parts.all B.has = true
  regs : (B.has .allRegs || A.regs.all fun r => B.regs.any fun t => decide (t.1 ≤ r.1) && decide (r.2 ≤ t.2)) = true
  own : ∀ r ∈ A.own, B.Holds r.1 r.2

theorem Foot.Sub.has {A B : Foot} (h : A.Sub B) {p : Part} (hp : B.has p = false) : A.has p = false := by
  cases hc : A.has p
  · rfl
  · have := (List.all_eq_true.1 h.parts) p (by simpa [Foot.has] using hc)
    simp_all

theorem Foot.Sub.touches {A B : Foot} (h : A.Sub B) {q : Nat} (hq : A.touches q = true) : B.touches q = true := by
  simp only [Foot.touches, inRanges, Bool.or_eq_true] at hq
  rcases hq with (hq | hq) | hq
  · have := (List.all_eq_true.1 h.parts) .allRegs (by simpa [Foot.has] using hq)
    simp [Foot.touches, this]
  · rcases hB : B.has .allRegs with _ | _
    · have hr := h.regs
      simp only [hB, Bool.false_or] at hr
      obtain ⟨r, hr1, hr2⟩ := List.any_eq_true.1 hq
      have hc := (List.all_eq_true.1 hr) r hr1
      simp only [Bool.and_eq_true, decide_eq_true_eq] at hr2
      exact Foot.Holds.touches (F := B) (.inr (.inl hc)) hr2.1 hr2.2
    · simp [Foot.touches, hB]
  · obtain ⟨r, hr1, hr2⟩ := List.any_eq_true.1 hq
    simp only [Bool.and_eq_true, decide_eq_true_eq] at hr2
    exact (h.own r hr1).touches hr2.1 hr2.2

theorem Foot.Sub.trans {A B C : Foot} (h : A.Sub B) (g : B.Sub C) : A.Sub C := by
  refine ⟨?_, ?_, fun r hr => ?_⟩
  · rw [List.all_eq_true]
    intro p hp
    have := List.all_eq_true.1 h.parts p hp
    exact List.all_eq_true.1 g.parts p (by simpa [Foot.has] using this)
  · cases hC : C.has .allRegs
    · rw [Bool.false_or, List.all_eq_true]
      intro r hr
      have h2 := h.regs
      cases hB : B.has .allRegs
      · rw [hB, Bool.false_or, List.all_eq_true] at h2
        obtain ⟨t, ht, hd⟩ := List.any_eq_true.1 (h2 r hr)
        have h3 := g.regs
        rw [hC, Bool.false_or, List.all_eq_true] at h3
        obtain ⟨u, hu, hd'⟩ := List.any_eq_true.1 (h3 t ht)
        refine List.any_eq_true.2 ⟨u, hu, ?_⟩
        simp only [Bool.and_eq_true, decide_eq_true_eq] at hd hd' ⊢
        omega
      · have := List.all_eq_true.1 g.parts .allRegs (by simpa [Foot.has] using hB)
        simp [this] at hC
    · rfl
  · have key : ∀ {lo hi : Nat}, B.Holds lo hi → C.Holds lo hi := by
      intro lo hi hh
      rcases hh with hh | hh | ⟨t, ht, h1, h2⟩
      · exact .inl (List.all_eq_true.1 g.parts .allRegs (by simpa [Foot.has] using hh))
      · have h3 := g.regs
        cases hC : C.has .allRegs
        · rw [hC, Bool.false_or, List.all_eq_true] at h3
          obtain ⟨t, ht, hd⟩ := List.any_eq_true.1 hh
          obtain ⟨u, hu, hd'⟩ := List.any_eq_true.1 (h3 t ht)
          refine .inr (.inl (List.any_eq_true.2 ⟨u, hu, ?_⟩))
          simp only [Bool.and_eq_true, decide_eq_true_eq] at hd hd' ⊢
          omega
        · exact .inl hC
      · rcases g.own t ht with h4 | h4 | ⟨u, hu, h5, h6⟩
        · exact .inl h4
        · obtain ⟨u, hu, hd'⟩ := List.any_eq_true.1 h4
          refine .inr (.inl (List.any_eq_true.2 ⟨u, hu, ?_⟩))
          simp only [Bool.and_eq_true, decide_eq_true_eq] at hd' ⊢
          omega
        · exact .inr (.inr ⟨u, hu, by omega, by omega⟩)
    exact key (h.own r hr)

theorem Foot.own_nil {B : Foot} : ∀ r ∈ ([] : List (Nat × Nat)), B.Holds r.1 r.2 := by simp

theorem Foot.own_cons {B : Foot} {a b : Nat} {l : List (Nat × Nat)} (h : B.Holds a b) (hl : ∀ r ∈ l, B.Holds r.1 r.2) :
    ∀ r ∈ (a, b) :: l, B.Holds r.1 r.2 := by
  intro r hr
  rcases List.mem_cons.1 hr with rfl | hr
  · exact h
  · exact hl r hr

/-- The parts and the fixed registers of `A` lie within `B`. -/
def Foot.within (A B : Foot) : Bool :=
  A.parts.all B.has && (B.has .allRegs || A.regs.all fun r => B.regs.any fun t => decide (t.1 ≤ r.1) && decide (r.2 ≤ t.2))

theorem Foot.sub_at {A B : Foot} {a b : List (Nat × Nat)} (h : A.within B = true) (ho : ∀ r ∈ a, (B.at b).Holds r.1 r.2) :
    (A.at a).Sub (B.at b) := by
  simp only [Foot.within, Bool.and_eq_true] at h
  exact ⟨h.1, h.2, ho⟩

theorem Foot.sub0 {A B : Foot} {b : List (Nat × Nat)} (h : A.within B = true) : (A.at []).Sub (B.at b) := Foot.sub_at h Foot.own_nil

theorem Foot.sub1 {A B : Foot} {lo hi : Nat} {b : List (Nat × Nat)} (h : A.within B = true) (ho : (B.at b).Holds lo hi) :
    (A.at [(lo, hi)]).Sub (B.at b) := Foot.sub_at h (Foot.own_cons ho Foot.own_nil)

theorem Foot.sub_self {F : Foot} : F.Sub F := by
  refine ⟨?_, ?_, fun r hr => .inr (.inr ⟨r, hr, Nat.le_refl _, Nat.le_refl _⟩)⟩
  · rw [List.all_eq_true]
    intro p hp
    simpa [Foot.has] using hp
  · rw [Bool.or_eq_true, List.all_eq_true]
    refine .inr fun r hr => ?_
    rw [List.any_eq_true]
    exact ⟨r, hr, by simp⟩

theorem Moves.refl {F : Foot} (s : State) : Moves F s s := by
  constructor <;> simp

/-- A change within `A` after a change within `F`, where `A` lies within `F`. -/
theorem Moves.seq {A F : Foot} {r s t : State} (h : Moves F r s) (g : Moves A s t) (hA : A.Sub F) : Moves F r t where
  pending := g.pending.trans h.pending
  regs := fun q hq => (g.regs q (by
    cases hA' : A.touches q
    · rfl
    · simp [hA.touches hA'] at hq)).trans (h.regs q hq)
  regsCanon := fun hc => g.regsCanon (h.regsCanon hc)
  memCanon := fun hc => g.memCanon (h.memCanon hc)
  outGrows := fun hp => (h.outGrows hp).trans (g.outGrows (hA.has hp))
  evqGrows := fun hp => (h.evqGrows hp).trans (g.evqGrows (hA.has hp))
  evtGrows := fun hp q b hq hb => g.evtGrows (hA.has hp) q b hq (h.evtGrows hp q b hq hb)
  serial := g.serial.trans h.serial
  svnRises := Nat.le_trans h.svnRises g.svnRises
  ownerOnce := fun ho => (g.ownerOnce (by rw [h.ownerOnce ho]; exact ho)).trans (h.ownerOnce ho)
  mem := fun hp => (g.mem (hA.has hp)).trans (h.mem hp)
  nv := fun hp => (g.nv (hA.has hp)).trans (h.nv hp)
  acc := fun hp => (g.acc (hA.has hp)).trans (h.acc hp)
  clock := fun hp => (g.clock (hA.has hp)).trans (h.clock hp)
  lines := fun hp => ⟨(g.lines (hA.has hp)).1.trans (h.lines hp).1, (g.lines (hA.has hp)).2.trans (h.lines hp).2⟩
  ports := fun hp => ⟨(g.ports (hA.has hp)).1.trans (h.ports hp).1, (g.ports (hA.has hp)).2.1.trans (h.ports hp).2.1,
    (g.ports (hA.has hp)).2.2.1.trans (h.ports hp).2.2.1, (g.ports (hA.has hp)).2.2.2.trans (h.ports hp).2.2.2⟩
  out := fun hp => (g.out (hA.has hp)).trans (h.out hp)
  evq := fun hp => (g.evq (hA.has hp)).trans (h.evq hp)
  fresh := fun hp => (g.fresh (hA.has hp)).trans (h.fresh hp)
  top := fun hp => (g.top (hA.has hp)).trans (h.top hp)
  beam := fun hp => (g.beam (hA.has hp)).trans (h.beam hp)
  fab := fun hp => (g.fab (hA.has hp)).trans (h.fab hp)
  tim := fun hp => (g.tim (hA.has hp)).trans (h.tim hp)
  cans := fun hp => (g.cans (hA.has hp)).trans (h.cans hp)
  wake := fun hp => (g.wake (hA.has hp)).trans (h.wake hp)
  din := fun hp => (g.din (hA.has hp)).trans (h.din hp)
  twn := fun hp => (g.twn (hA.has hp)).trans (h.twn hp)
  hlt := fun hp => (g.hlt (hA.has hp)).trans (h.hlt hp)
  sgw := fun hp => (g.sgw (hA.has hp)).trans (h.sgw hp)
  psc := fun hp => (g.psc (hA.has hp)).trans (h.psc hp)
  recorder := fun hp => (g.recorder (hA.has hp)).trans (h.recorder hp)
  pwr := fun hp => (g.pwr (hA.has hp)).trans (h.pwr hp)
  mgt := fun hp => (g.mgt (hA.has hp)).trans (h.mgt hp)

theorem Moves.widen {A F : Foot} {s t : State} (g : Moves A s t) (hA : A.Sub F) : Moves F s t := (Moves.refl s).seq g hA

theorem Moves.ite {F : Foot} {r a b : State} {c : Prop} [Decidable c] (ha : c → Moves F r a) (hb : ¬c → Moves F r b) :
    Moves F r (if c then a else b) := by
  split
  · exact ha ‹_›
  · exact hb ‹_›

theorem Moves.ite_snd {α : Type} {F : Foot} {r : State} {a b : α × State} {c : Prop} [Decidable c] (ha : c → Moves F r a.2)
    (hb : ¬c → Moves F r b.2) : Moves F r (if c then a else b).2 := by
  split
  · exact ha ‹_›
  · exact hb ‹_›

theorem Moves.ite_fst {α : Type} {F : Foot} {r : State} {a b : State × α} {c : Prop} [Decidable c] (ha : c → Moves F r a.1)
    (hb : ¬c → Moves F r b.1) : Moves F r (if c then a else b).1 := by
  split
  · exact ha ‹_›
  · exact hb ‹_›

theorem Moves.foldl {α : Type} {F : Foot} {r : State} (f : State → α → State) (hf : ∀ s a, Moves F r s → Moves F r (f s a))
    (l : List α) : ∀ {s : State}, Moves F r s → Moves F r (l.foldl f s) := by
  induction l with
  | nil => intro s h; exact h
  | cons a l ih => intro s h; exact ih (hf s a h)

theorem Moves.foldl_bind {α : Type} {F : Foot} {r : State} {f : State → α → Option State}
    (hf : ∀ s a t, Moves F r s → f s a = some t → Moves F r t) (l : List α) : ∀ (o : Option State), (∀ t, o = some t → Moves F r t) →
    ∀ t, l.foldl (fun o a => o.bind fun s => f s a) o = some t → Moves F r t := by
  induction l with
  | nil => intro o ho t ht; exact ho t ht
  | cons a l ih =>
    intro o ho t ht
    refine ih _ (fun u hu => ?_) t ht
    cases o with
    | none => cases hu
    | some v => exact hf v a u (ho v rfl) hu

theorem Moves.let_ {F : Foot} {r t : State} (v : State) (hv : Moves F r v) (hb : Moves F r v → Moves F r t) : Moves F r t := hb hv

/-- The outcome is a next state, reached by a change within `F`. -/
def OutMoves (F : Foot) (s : State) (o : Host.Outcome State Fault Refusal) : Prop := ∃ t, o = .next t ∧ Moves F s t

theorem OutMoves.next {F : Foot} {s t : State} (h : Moves F s t) : OutMoves F s (.next t) := ⟨t, rfl, h⟩

theorem OutMoves.let_ {F : Foot} {s : State} {o : Host.Outcome State Fault Refusal} (v : State) (hv : Moves F s v)
    (hb : Moves F s v → OutMoves F s o) : OutMoves F s o := hb hv

theorem OutMoves.ite {F : Foot} {s : State} {c : Prop} [Decidable c] {a b : Host.Outcome State Fault Refusal}
    (ha : c → OutMoves F s a) (hb : ¬c → OutMoves F s b) : OutMoves F s (if c then a else b) := by
  split
  · exact ha ‹_›
  · exact hb ‹_›

/-! The basic operations. -/

/-- The register at offset `off`. -/
abbrev Foot.wr (off : Nat) : Foot := Foot.none.at [(off, off)]

/-- One part. -/
abbrev Foot.part (p : Part) : Foot := Foot.at ⟨[], [], [p]⟩ []

theorem State.wr_moves (s : State) {off : Nat} (w : Word) (h : off % 4096 ≠ 0x010) : Moves (Foot.wr off) s (s.wr off w) := by
  refine ⟨rfl, fun q hq => ?_, fun hc => s.wr_regs_canon off w hc, fun hc => hc, fun _ => List.prefix_rfl, fun _ => List.prefix_rfl,
    fun _ q b hq hb => ?_, ?_, ?_, ?_, ?_, ?_, ?_, ?_, ?_, ?_, ?_, ?_, ?_, ?_, ?_, ?_, ?_, ?_, ?_, ?_, ?_, ?_, ?_, ?_, ?_, ?_, ?_⟩
  · refine s.rd_wr_ne w fun hc => ?_
    simp [Foot.touches, inRanges, Foot.wr, Foot.at, Foot.none, Foot.has, hc] at hq
  · rw [s.rd_wr_ne w (by rintro rfl; exact h hq)]
    exact hb
  all_goals simp [State.wr]

/-- A write that may clear event bits. -/
theorem State.wr_moves_cut (s : State) (off : Nat) (w : Word) :
    Moves (Foot.at ⟨[], [], [.evtCut]⟩ [(off, off)]) s (s.wr off w) := by
  refine ⟨rfl, fun q hq => ?_, fun hc => s.wr_regs_canon off w hc, fun hc => hc, fun _ => List.prefix_rfl, fun _ => List.prefix_rfl,
    fun hc => ?_, ?_, ?_, ?_, ?_, ?_, ?_, ?_, ?_, ?_, ?_, ?_, ?_, ?_, ?_, ?_, ?_, ?_, ?_, ?_, ?_, ?_, ?_, ?_, ?_, ?_, ?_⟩
  · refine s.rd_wr_ne w fun hc => ?_
    simp [Foot.touches, inRanges, Foot.at, Foot.has, hc] at hq
  · simp [Foot.at, Foot.has] at hc
  all_goals simp [State.wr]

/-- A write that sets bits only. -/
theorem State.wr_moves_grow (s : State) (off : Nat) (w : Word) (h : ∀ b, (s.rd off).getLsbD b = true → w.getLsbD b = true) :
    Moves (Foot.wr off) s (s.wr off w) := by
  refine ⟨rfl, fun q hq => ?_, fun hc => s.wr_regs_canon off w hc, fun hc => hc, fun _ => List.prefix_rfl, fun _ => List.prefix_rfl,
    fun _ q b hq hb => ?_, ?_, ?_, ?_, ?_, ?_, ?_, ?_, ?_, ?_, ?_, ?_, ?_, ?_, ?_, ?_, ?_, ?_, ?_, ?_, ?_, ?_, ?_, ?_, ?_, ?_, ?_⟩
  · refine s.rd_wr_ne w fun hc => ?_
    simp [Foot.touches, inRanges, Foot.wr, Foot.at, Foot.none, Foot.has, hc] at hq
  · rw [s.rd_wr]
    split
    · rename_i he
      subst he
      exact h b hb
    · exact hb
  all_goals simp [State.wr]

theorem State.put_moves (s : State) (f : Fld) (v : Nat) (h : f.off % 4096 ≠ 0x010) : Moves (Foot.wr f.off) s (s.put f v) :=
  s.wr_moves _ h

theorem State.putB_moves (s : State) (f : Fld) (b : Bool) (h : f.off % 4096 ≠ 0x010) : Moves (Foot.wr f.off) s (s.putB f b) :=
  s.wr_moves _ h

theorem State.satAdd_moves (s : State) (f : Fld) (n : Nat) (h : f.off % 4096 ≠ 0x010) : Moves (Foot.wr f.off) s (s.satAdd f n) :=
  s.wr_moves _ h

theorem State.satInc_moves (s : State) (f : Fld) (h : f.off % 4096 ≠ 0x010) : Moves (Foot.wr f.off) s (s.satInc f) :=
  s.wr_moves _ h

theorem State.wrapInc_moves (s : State) (f : Fld) (h : f.off % 4096 ≠ 0x010) : Moves (Foot.wr f.off) s (s.wrapInc f) :=
  s.wr_moves _ h

theorem State.raise_moves (s : State) (pg b : Nat) : Moves (Foot.wr (R.PG_EVT_RAW pg)) s (s.raise pg b) := by
  have hrd : ∀ q, q ≠ R.PG_EVT_RAW pg → (s.raise pg b).rd q = s.rd q := fun q hq => s.rd_wr_ne _ hq
  refine ⟨rfl, fun q hq => hrd q fun hc => ?_, fun hc => s.wr_regs_canon _ _ hc, fun hc => hc, fun _ => List.prefix_rfl,
    fun _ => List.prefix_rfl, fun _ q c hq hb => ?_, ?_, ?_, ?_, ?_, ?_, ?_, ?_, ?_, ?_, ?_, ?_, ?_, ?_, ?_, ?_, ?_, ?_, ?_, ?_, ?_, ?_,
    ?_, ?_, ?_, ?_, ?_⟩
  · simp [Foot.touches, inRanges, Foot.wr, Foot.at, Foot.none, Foot.has, hc] at hq
  · by_cases hqe : q = R.PG_EVT_RAW pg
    · subst hqe
      simp only [State.raise, State.put, State.rd_wr_same]
      have h32 : c < 32 := BitVec.lt_of_getLsbD hb
      rw [Fld.ins_getLsbD _ _ _ _ h32]
      split
      · rename_i h
        simp only [Fld.width] at h
        have : c - b = 0 := by omega
        simp [this]
      · exact hb
    · rw [hrd q hqe]
      exact hb
  all_goals simp [State.raise, State.put, State.wr]

theorem State.clearRegs_moves (s : State) (p : Nat → Bool) {F : Foot} (h : ∀ q, p q = true → F.touches q = true)
    (he : F.has .evtCut = true) : Moves F s (s.clearRegs p) := by
  refine ⟨rfl, fun q hq => ?_, fun hc => s.clearRegs_canon _ hc, fun hc => hc, fun _ => List.prefix_rfl,
    fun _ => List.prefix_rfl, fun hc => ?_, ?_, ?_, ?_, ?_, ?_, ?_, ?_, ?_, ?_, ?_, ?_, ?_, ?_, ?_, ?_, ?_, ?_, ?_, ?_, ?_, ?_,
    ?_, ?_, ?_, ?_, ?_⟩
  · rw [State.rd_clearRegs, if_neg]
    intro hp
    simp [h q hp] at hq
  · simp [he] at hc
  all_goals simp [State.clearRegs]

theorem State.clearMem_moves (s : State) (p : Nat → Bool) : Moves (Foot.part .mem) s (s.clearMem p) := by
  refine ⟨rfl, fun _ _ => rfl, fun hc => hc, fun hc => s.clearMem_canon _ hc, fun _ => List.prefix_rfl,
    fun _ => List.prefix_rfl, fun _ _ _ _ hb => hb, ?_, ?_, ?_, fun hc => ?_, ?_, ?_, ?_, ?_, ?_, ?_, ?_, ?_, ?_, ?_, ?_, ?_, ?_, ?_, ?_,
    ?_, ?_, ?_, ?_, ?_, ?_, ?_⟩
  case refine_4 => simp [Foot.has, Foot.at] at hc
  all_goals simp [State.clearMem]

theorem State.wrBytes_moves (bs : List Byte) : ∀ (s : State) (a : Nat), Moves (Foot.part .mem) s (s.wrBytes a bs) := by
  induction bs with
  | nil => exact fun s _ => Moves.refl s
  | cons b bs ih =>
    intro s a
    refine Moves.seq (A := Foot.part .mem) ?_ (ih (s.wrByte a b) (a + 1)) ⟨by decide, by decide, Foot.own_nil⟩
    refine ⟨rfl, fun _ _ => rfl, fun hc => hc, fun hc => s.wrByte_canon _ _ hc, fun _ => List.prefix_rfl,
      fun _ => List.prefix_rfl, fun _ _ _ _ hb => hb, ?_, ?_, ?_, fun hc => ?_, ?_, ?_, ?_, ?_, ?_, ?_, ?_, ?_, ?_, ?_, ?_, ?_, ?_, ?_, ?_,
      ?_, ?_, ?_, ?_, ?_, ?_, ?_⟩
    case refine_4 => simp [Foot.has, Foot.at] at hc
    all_goals simp [State.wrByte]

theorem State.wrByte_moves (s : State) (a : Nat) (b : Byte) : Moves (Foot.part .mem) s (s.wrByte a b) := State.wrBytes_moves [b] s a

theorem State.wrNum_moves (s : State) (a n v : Nat) : Moves (Foot.part .mem) s (s.wrNum a n v) := State.wrBytes_moves _ s a

theorem State.emit_moves (s : State) (o : Out) : Moves (Foot.part .out) s (s.emit o) := by
  constructor <;> simp [State.emit, State.rd, State.regsCanon, State.memCanon, Foot.has, Foot.at]

theorem State.post_moves (s : State) (code sev subj : Nat) (data : List Byte) :
    Moves (Foot.part .evq) s (s.post code sev subj data) := by
  unfold State.post
  split
  · constructor <;> simp [State.rd, State.regsCanon, State.memCanon, Foot.has, Foot.at]
  · exact Moves.refl s

theorem State.modNv_moves (s : State) (f : NvState → NvState) (h1 : (f s.nv).serial = s.nv.serial) (h2 : s.nv.svnMin ≤ (f s.nv).svnMin)
    (h3 : s.nv.owner.isSome = true → (f s.nv).owner = s.nv.owner) : Moves (Foot.part .nv) s (s.modNv f) := by
  constructor <;> simp [State.modNv, State.rd, State.regsCanon, State.memCanon, Foot.has, Foot.at, h1, h2]
  simpa using h3

/-! Changes of one field of the state. -/

theorem Moves.upd_evq (s : State) (l : List RecEvent) : Moves (Foot.part .evq) s { s with evq := s.evq ++ l } := by
  constructor <;> simp [State.rd, State.regsCanon, State.memCanon, Foot.has, Foot.at]

theorem Moves.upd_evq_cut (s : State) (l : List RecEvent) : Moves (Foot.at ⟨[], [], [.evq, .evqCut]⟩ []) s { s with evq := l } := by
  constructor <;> simp [State.rd, State.regsCanon, State.memCanon, Foot.has, Foot.at]

theorem Moves.upd_out_cut (s : State) (l : List Out) : Moves (Foot.at ⟨[], [], [.out, .outCut]⟩ []) s { s with out := l } := by
  constructor <;> simp [State.rd, State.regsCanon, State.memCanon, Foot.has, Foot.at]

theorem Moves.upd_fresh (s : State) (v) : Moves (Foot.part .fresh) s { s with fresh := v } := by
  constructor <;> simp [State.rd, State.regsCanon, State.memCanon, Foot.has, Foot.at]

theorem Moves.upd_acc (s : State) (v) : Moves (Foot.part .acc) s { s with acc := v } := by
  constructor <;> simp [State.rd, State.regsCanon, State.memCanon, Foot.has, Foot.at]

theorem Moves.upd_mono5 (s : State) (v) : Moves (Foot.part .clock) s { s with mono5 := v } := by
  constructor <;> simp [State.rd, State.regsCanon, State.memCanon, Foot.has, Foot.at]

theorem Moves.upd_lineA (s : State) (v) : Moves (Foot.part .lines) s { s with lineA := v } := by
  constructor <;> simp [State.rd, State.regsCanon, State.memCanon, Foot.has, Foot.at]

theorem Moves.upd_lineB (s : State) (v) : Moves (Foot.part .lines) s { s with lineB := v } := by
  constructor <;> simp [State.rd, State.regsCanon, State.memCanon, Foot.has, Foot.at]

theorem Moves.upd_portA1 (s : State) (v) : Moves (Foot.part .ports) s { s with portA1 := v } := by
  constructor <;> simp [State.rd, State.regsCanon, State.memCanon, Foot.has, Foot.at]

theorem Moves.upd_portA2 (s : State) (v) : Moves (Foot.part .ports) s { s with portA2 := v } := by
  constructor <;> simp [State.rd, State.regsCanon, State.memCanon, Foot.has, Foot.at]

theorem Moves.upd_portB1 (s : State) (v) : Moves (Foot.part .ports) s { s with portB1 := v } := by
  constructor <;> simp [State.rd, State.regsCanon, State.memCanon, Foot.has, Foot.at]

theorem Moves.upd_portB2 (s : State) (v) : Moves (Foot.part .ports) s { s with portB2 := v } := by
  constructor <;> simp [State.rd, State.regsCanon, State.memCanon, Foot.has, Foot.at]

theorem Moves.upd_top (s : State) (v) : Moves (Foot.part .top) s { s with top := v } := by
  constructor <;> simp [State.rd, State.regsCanon, State.memCanon, Foot.has, Foot.at]

theorem Moves.upd_beam (s : State) (v) : Moves (Foot.part .beam) s { s with beam := v } := by
  constructor <;> simp [State.rd, State.regsCanon, State.memCanon, Foot.has, Foot.at]

theorem Moves.upd_fab (s : State) (v) : Moves (Foot.part .fab) s { s with fab := v } := by
  constructor <;> simp [State.rd, State.regsCanon, State.memCanon, Foot.has, Foot.at]

theorem Moves.upd_tim (s : State) (v) : Moves (Foot.part .tim) s { s with tim := v } := by
  constructor <;> simp [State.rd, State.regsCanon, State.memCanon, Foot.has, Foot.at]

theorem Moves.upd_cans (s : State) (v) : Moves (Foot.part .cans) s { s with cans := v } := by
  constructor <;> simp [State.rd, State.regsCanon, State.memCanon, Foot.has, Foot.at]

theorem Moves.upd_wake (s : State) (v) : Moves (Foot.part .wake) s { s with wake := v } := by
  constructor <;> simp [State.rd, State.regsCanon, State.memCanon, Foot.has, Foot.at]

theorem Moves.upd_din (s : State) (v) : Moves (Foot.part .din) s { s with din := v } := by
  constructor <;> simp [State.rd, State.regsCanon, State.memCanon, Foot.has, Foot.at]

theorem Moves.upd_twn (s : State) (v) : Moves (Foot.part .twn) s { s with twn := v } := by
  constructor <;> simp [State.rd, State.regsCanon, State.memCanon, Foot.has, Foot.at]

theorem Moves.upd_hlt (s : State) (v) : Moves (Foot.part .hlt) s { s with hlt := v } := by
  constructor <;> simp [State.rd, State.regsCanon, State.memCanon, Foot.has, Foot.at]

theorem Moves.upd_sgw (s : State) (v) : Moves (Foot.part .sgw) s { s with sgw := v } := by
  constructor <;> simp [State.rd, State.regsCanon, State.memCanon, Foot.has, Foot.at]

theorem Moves.upd_psc (s : State) (v) : Moves (Foot.part .psc) s { s with psc := v } := by
  constructor <;> simp [State.rd, State.regsCanon, State.memCanon, Foot.has, Foot.at]

theorem Moves.upd_recorder (s : State) (v) : Moves (Foot.part .recorder) s { s with recorder := v } := by
  constructor <;> simp [State.rd, State.regsCanon, State.memCanon, Foot.has, Foot.at]

theorem Moves.upd_pwr (s : State) (v) : Moves (Foot.part .pwr) s { s with pwr := v } := by
  constructor <;> simp [State.rd, State.regsCanon, State.memCanon, Foot.has, Foot.at]

theorem Moves.upd_mgt (s : State) (v) : Moves (Foot.part .mgt) s { s with mgt := v } := by
  constructor <;> simp [State.rd, State.regsCanon, State.memCanon, Foot.has, Foot.at]

theorem Moves.upd_lineA_portA1_portA2_beam (s : State) (v0) (v1) (v2) (v3) : Moves (Foot.at ⟨[], [], [.lines, .ports, .beam]⟩ []) s { s with lineA := v0, portA1 := v1, portA2 := v2, beam := v3 } := by
  constructor <;> simp [State.rd, State.regsCanon, State.memCanon, Foot.has, Foot.at]

theorem Moves.upd_lineB_portB1_portB2_beam (s : State) (v0) (v1) (v2) (v3) : Moves (Foot.at ⟨[], [], [.lines, .ports, .beam]⟩ []) s { s with lineB := v0, portB1 := v1, portB2 := v2, beam := v3 } := by
  constructor <;> simp [State.rd, State.regsCanon, State.memCanon, Foot.has, Foot.at]

theorem Moves.upd_evq_recorder (s : State) (v0) (v1) : Moves (Foot.at ⟨[], [], [.evq, .evqCut, .recorder]⟩ []) s { s with evq := v0, recorder := v1 } := by
  constructor <;> simp [State.rd, State.regsCanon, State.memCanon, Foot.has, Foot.at]

theorem Moves.upd_top_beam (s : State) (v0) (v1) : Moves (Foot.at ⟨[], [], [.top, .beam]⟩ []) s { s with top := v0, beam := v1 } := by
  constructor <;> simp [State.rd, State.regsCanon, State.memCanon, Foot.has, Foot.at]

theorem Moves.upd_evq_acc (s : State) (v0) (v1) : Moves (Foot.at ⟨[], [], [.evq, .evqCut, .acc]⟩ []) s { s with evq := v0, acc := v1 } := by
  constructor <;> simp [State.rd, State.regsCanon, State.memCanon, Foot.has, Foot.at]

theorem Moves.upd_lineA_lineB_wake_din_pwr (s : State) (v0) (v1) (v2) (v3) (v4) : Moves (Foot.at ⟨[], [], [.lines, .wake, .din, .pwr]⟩ []) s { s with lineA := v0, lineB := v1, wake := v2, din := v3, pwr := v4 } := by
  constructor <;> simp [State.rd, State.regsCanon, State.memCanon, Foot.has, Foot.at]

end Sys2Proof.Machine
end

