-- ==== Sys2Proof/Laws/Carry.lean ====
section
/-!
SUPPORT. What a page access does once it is carried (R34, R44), and what the shared operations do to one field.
-/

namespace Sys2Proof.Machine

set_option Elab.async false

/-! One field, one register, one entry of a list, through a change whose footprint leaves it. -/

theorem Moves.get {F : Foot} {s t : State} (h : Moves F s t) (f : Fld) (hf : F.touches f.off = false) : t.get f = s.get f := by
  simp only [State.get, h.regs _ hf]

theorem Moves.bit {F : Foot} {s t : State} (h : Moves F s t) (f : Fld) (hf : F.touches f.off = false) : t.bit f = s.bit f := by
  simp only [State.bit, h.get f hf]

theorem Moves.mem_evq {F : Foot} {s t : State} (h : Moves F s t) (hf : F.has .evqCut = false) {e : RecEvent} (he : e ∈ s.evq) :
    e ∈ t.evq := (h.evqGrows hf).subset he

theorem Moves.mem_out {F : Foot} {s t : State} (h : Moves F s t) (hf : F.has .outCut = false) {o : Out} (ho : o ∈ s.out) :
    o ∈ t.out := (h.outGrows hf).subset ho

/-- An event bit stays set. -/
theorem Moves.evt {F : Foot} {s t : State} (h : Moves F s t) (hf : F.has .evtCut = false) {pg b : Nat} (hb : s.evt pg b = true) :
    t.evt pg b = true := by
  have key (r : State) : r.evt pg b = (r.rd (R.PG_EVT_RAW pg)).getLsbD b := by
    have h1 : ((⟨R.PG_EVT_RAW pg, b, b⟩ : Fld).of (r.rd (R.PG_EVT_RAW pg))).testBit 0 = (r.rd (R.PG_EVT_RAW pg)).getLsbD b := by
      rw [Fld.of_testBit]; simp [Fld.width]
    have h2 : (⟨R.PG_EVT_RAW pg, b, b⟩ : Fld).of (r.rd (R.PG_EVT_RAW pg)) < 2 := by
      simp only [Fld.of, Fld.width, Nat.add_sub_cancel_left, Nat.pow_one]
      exact Nat.mod_lt _ (by decide)
    rw [← h1]
    unfold State.evt State.bit State.get
    generalize (⟨R.PG_EVT_RAW pg, b, b⟩ : Fld).of (r.rd (R.PG_EVT_RAW pg)) = n at h2
    match n, h2 with
    | 0, _ => rfl
    | 1, _ => rfl
  rw [key] at hb ⊢
  exact h.evtGrows hf _ _ (by unfold R.PG_EVT_RAW; omega) hb

theorem State.get_put_eq (s : State) (f g : Fld) (v : Nat) (h : f = g) (hw : f.lo + f.width ≤ 32) :
    (s.put g v).get f = v % 2 ^ f.width := by
  subst h; exact s.get_put_same f v hw

theorem State.get_put_dis (s : State) (f g : Fld) (v : Nat)
    (h : f.off ≠ g.off ∨ (f.off = g.off ∧ f.lo + f.width ≤ 32 ∧ (f.lo + f.width ≤ g.lo ∨ g.lo + g.width ≤ f.lo))) :
    (s.put g v).get f = s.get f := by
  rcases h with h | ⟨h0, h1, h2⟩
  · exact s.get_put_off v h
  · exact s.get_put_disjoint v h0 h1 h2

/-! Records. -/

theorem State.post_evq (s : State) (c v j : Nat) (d : List Byte) :
    (s.post c v j d).evq = if s.isOn I.REC = true then s.evq ++ [⟨c, v, j, d, 0⟩] else s.evq := by
  unfold State.post; split <;> rfl

theorem State.rd_post (s : State) (c v j : Nat) (d : List Byte) (q : Nat) : (s.post c v j d).rd q = s.rd q := by
  unfold State.post; split <;> rfl

theorem State.get_post (s : State) (c v j : Nat) (d : List Byte) (f : Fld) : (s.post c v j d).get f = s.get f := by
  unfold State.post; split <;> rfl

/-! Carried accesses. -/

/-- A carried write: the held word is dropped, `f` acts, and the owner's access is counted. -/
theorem State.carry_of {s : State} {q : Requester} {off : Nat} (h : s.carries q off = true) (v : Word) (f : State → State) :
    ∃ l, s.carry q off v f = (f { s with acc := { s.acc with held := l } }).countAccess q (pageOf off) := by
  simp only [State.carries, Bool.and_eq_true, Bool.or_eq_true, decide_eq_true_eq, Bool.not_eq_true'] at h
  obtain ⟨⟨⟨h1, h2⟩, h3⟩, h4⟩ := h
  unfold State.carry
  simp only [h1, h2, h3, Bool.not_true, Bool.false_eq_true, if_false]
  rcases h4 with h4 | ⟨⟨h5, h6⟩, h7⟩
  · have : ¬ 0x40 ≤ off % 4096 := by omega
    simp only [this, false_and, if_false]
    split
    · exact ⟨_, rfl⟩
    · exact ⟨s.acc.held, rfl⟩
  · split
    · refine ⟨stSet (fun _ => none) s.acc.held (pairKey q (pageOf off)) none, ?_⟩
      have e5 : (s.setHeld q (pageOf off) none).acc.srst.contains (pageOf off) = false := h5
      have e6 : (s.setHeld q (pageOf off) none).pageBusy (pageOf off) = false := h6
      have e7 : (s.setHeld q (pageOf off) none).bit (F.PG_STAT_OFFLINE (pageOf off)) = false := h7
      simp only [e5, e6, e7, Bool.false_eq_true, and_false, if_false]
      rfl
    · exact ⟨s.acc.held, by simp only [h5, h6, h7, Bool.false_eq_true, and_false, if_false]⟩

/-- What the discard of a held word leaves. -/
theorem State.dropOther_of (s : State) (q : Requester) (off : Nat) : ∃ l, s.dropOther q off = { s with acc := { s.acc with held := l } } := by
  unfold State.dropOther
  split
  · split
    · exact ⟨s.acc.held, rfl⟩
    · exact ⟨_, rfl⟩
  · exact ⟨s.acc.held, rfl⟩

/-- A carried read: the held word is dropped, `f` gives the word and the next state, and the owner's access is counted. -/
theorem State.carryRead_of {s : State} {q : Requester} {off : Nat} (h : s.carries q off = true) (f : State → Word × State) :
    ∃ l, s.carryRead q off f = ((f { s with acc := { s.acc with held := l } }).2.emit
      (.readData q off (f { s with acc := { s.acc with held := l } }).1)).countAccess q (pageOf off) := by
  simp only [State.carries, Bool.and_eq_true, Bool.or_eq_true, decide_eq_true_eq, Bool.not_eq_true'] at h
  obtain ⟨⟨⟨h1, h2⟩, h3⟩, h4⟩ := h
  unfold State.carryRead
  simp only [h1, h2, h3, Bool.not_true, Bool.false_eq_true, if_false]
  obtain ⟨l, hl⟩ := s.dropOther_of q off
  refine ⟨l, ?_⟩
  rw [hl]
  rcases h4 with h4 | ⟨⟨h5, h6⟩, h7⟩
  · have : ¬ 0x40 ≤ off % 4096 := by omega
    simp only [this, false_and, if_false]
  · have e : ¬ (0x40 ≤ off % 4096 ∧ (({ s with acc := { s.acc with held := l } } : State).acc.srst.contains (pageOf off) ∨
        ({ s with acc := { s.acc with held := l } } : State).pageBusy (pageOf off) ∨
        ({ s with acc := { s.acc with held := l } } : State).bit (F.PG_STAT_OFFLINE (pageOf off)))) := by
      rintro ⟨-, a | a | a⟩
      · exact absurd (h5.symm.trans a) (by decide)
      · exact absurd (h6.symm.trans a) (by decide)
      · exact absurd (h7.symm.trans a) (by decide)
    rw [if_neg e]

/-- A write of a requester whose path is down reaches nothing (R450). -/
theorem State.carry_down {s : State} {q : Requester} (h : s.pathUp q = false) (off : Nat) (v : Word) (f : State → State) :
    s.carry q off v f = s := by
  unfold State.carry; rw [h]; rfl

/-- A write to a page whose island is off is dropped and counted (R37). -/
theorem State.carry_off {s : State} {q : Requester} {off : Nat} (h1 : s.pathUp q = true) (h2 : mapped off = true)
    (h3 : s.reachable off = false) (v : Word) (f : State → State) : s.carry q off v f = s.offAccess q off true v := by
  unfold State.carry; rw [h1, h2, h3]; rfl

/-- A write to a block register while the page drops writes sets BUSY_DROP (R43, R369): `f` does not act. -/
theorem State.carry_busy {s : State} {q : Requester} {off : Nat} (h1 : s.pathUp q = true) (h2 : mapped off = true)
    (h3 : s.reachable off = true) (h4 : 0x40 ≤ off % 4096) (h5 : s.pageBusy (pageOf off) = true) (v : Word) (f : State → State) :
    ∃ l, s.carry q off v f = (({ s with acc := { s.acc with held := l } }).raise (pageOf off) 26).countAccess q (pageOf off) := by
  unfold State.carry
  simp only [h1, h2, h3, Bool.not_true, Bool.false_eq_true, if_false]
  split
  · have e5 : (s.setHeld q (pageOf off) none).pageBusy (pageOf off) = true := h5
    exact ⟨stSet (fun _ => none) s.acc.held (pairKey q (pageOf off)) none, by simp only [h4, e5, and_self, if_true]; rfl⟩
  · exact ⟨s.acc.held, by simp only [h4, h5, and_self, if_true]⟩

/-- A write to a block register while an SRST of its block runs is dropped, and remembered (R42). -/
theorem State.carry_resetting {s : State} {q : Requester} {off : Nat} (h1 : s.pathUp q = true) (h2 : mapped off = true)
    (h3 : s.reachable off = true) (h4 : 0x40 ≤ off % 4096) (h5 : s.pageBusy (pageOf off) = false)
    (h6 : s.acc.srst.contains (pageOf off) = true) (v : Word) (f : State → State) :
    ∃ l, s.carry q off v f =
      ({ s with acc := { s.acc with held := l, srstDrop := pageOf off :: s.acc.srstDrop } }).countAccess q (pageOf off) := by
  unfold State.carry
  simp only [h1, h2, h3, Bool.not_true, Bool.false_eq_true, if_false]
  split
  · have e5 : (s.setHeld q (pageOf off) none).pageBusy (pageOf off) = false := h5
    have e6 : (s.setHeld q (pageOf off) none).acc.srst.contains (pageOf off) = true := h6
    refine ⟨stSet (fun _ => none) s.acc.held (pairKey q (pageOf off)) none, ?_⟩
    simp only [h4, e5, e6, Bool.false_eq_true, and_false, and_self, if_false, if_true]
    rfl
  · exact ⟨s.acc.held, by simp only [h4, h5, h6, Bool.false_eq_true, and_false, and_self, if_false, if_true]⟩

/-- A write to a lockable register acts for the requester that holds the page unlocked (R44). -/
theorem State.locked_of {s : State} {q : Requester} {off : Nat} (h : s.owns q (pageOf off) = true) (f : State → State) :
    s.locked q off f = f s := by
  unfold State.locked; rw [if_pos h]

/-- Otherwise it is dropped with LOCK_VIOL (R45). -/
theorem State.locked_not {s : State} {q : Requester} {off : Nat} (h : s.owns q (pageOf off) = false) (f : State → State) :
    s.locked q off f = s.lockViol q off := by
  unfold State.locked; rw [h]; rfl

end Sys2Proof.Machine
end

