-- ==== Sys2Proof/Laws/Foot01.lean ====
section
/-!
SUPPORT. What the operations may touch: one footprint and one lemma each.
-/

namespace Sys2Proof.Machine

set_option Elab.async false

def Foot.modMgt : Foot := ⟨[], [], [.mgt]⟩

theorem State.modMgt_moves (s : State) (f : MgtState → MgtState) : Moves (Foot.modMgt.at []) s (State.modMgt s f) := by
  unfold State.modMgt
  refine Moves.seq ?_ (Moves.upd_mgt _ _) (Foot.sub0 (by decide +kernel))
  exact Moves.refl _

def Foot.resetEngines : Foot :=
  ⟨[], [], [.evq, .evqCut, .lines, .ports, .top, .beam, .fab, .tim, .cans, .twn, .hlt, .sgw, .psc,
    .recorder, .mgt]⟩

theorem State.resetEngines_moves (s : State) (n : Nat) : Moves (Foot.resetEngines.at []) s (State.resetEngines s n) := by
  unfold State.resetEngines
  split
  · refine Moves.seq ?_ (Moves.upd_lineA_portA1_portA2_beam _ _ _ _ _) (Foot.sub0 (by decide +kernel))
    exact Moves.refl _
  · refine Moves.seq ?_ (Moves.upd_lineB_portB1_portB2_beam _ _ _ _ _) (Foot.sub0 (by decide +kernel))
    exact Moves.refl _
  · refine Moves.seq ?_ (Moves.upd_fab _ _) (Foot.sub0 (by decide +kernel))
    exact Moves.refl _
  · refine Moves.seq ?_ (Moves.upd_sgw _ _) (Foot.sub0 (by decide +kernel))
    exact Moves.refl _
  · refine Moves.seq ?_ (Moves.upd_cans _ _) (Foot.sub0 (by decide +kernel))
    exact Moves.refl _
  · refine Moves.seq ?_ (Moves.upd_cans _ _) (Foot.sub0 (by decide +kernel))
    exact Moves.refl _
  · refine Moves.seq ?_ (Moves.upd_tim _ _) (Foot.sub0 (by decide +kernel))
    exact Moves.refl _
  · refine Moves.seq ?_ (Moves.upd_twn _ _) (Foot.sub0 (by decide +kernel))
    exact Moves.refl _
  · refine Moves.seq ?_ (Moves.upd_psc _ _) (Foot.sub0 (by decide +kernel))
    exact Moves.refl _
  · refine Moves.seq ?_ (State.modMgt_moves ..) (Foot.sub0 (by decide +kernel))
    exact Moves.refl _
  · refine Moves.seq ?_ (Moves.upd_evq_recorder _ _ _) (Foot.sub0 (by decide +kernel))
    exact Moves.refl _
  · refine Moves.seq ?_ (Moves.upd_hlt _ _) (Foot.sub0 (by decide +kernel))
    exact Moves.refl _
  · refine Moves.seq ?_ (Moves.upd_top_beam _ _ _) (Foot.sub0 (by decide +kernel))
    exact Moves.refl _
  · exact Moves.refl _

def Foot.islandReset : Foot :=
  ⟨[], [], [.mem, .evq, .evqCut, .evtCut, .acc, .lines, .ports, .top, .beam, .fab, .tim, .cans, .twn,
    .hlt, .sgw, .psc, .recorder, .mgt]⟩

theorem State.islandReset_moves (s : State) (n : Nat) :
    Moves (Foot.islandReset.at [(65536 * n, 65536 * n + 65535)]) s (State.islandReset s n) := by
  unfold State.islandReset
  extract_lets -merge +onlyGivenNames x1 x2
  refine Moves.seq (Moves.seq (Moves.seq (s := x1) ?_ (State.clearMem_moves x1 _) (Foot.sub0 (by decide +kernel))) (State.resetEngines_moves ..) (Foot.sub0 (by decide +kernel))) (Moves.upd_acc _ _) (Foot.sub0 (by decide +kernel))
  refine s.clearRegs_moves _ (fun q hq => ?_) rfl
  have hq := of_decide_eq_true hq
  unfold islandOf at hq
  exact Foot.Holds.touches (Foot.holds_same (.head _)) (by omega) (by omega)

def Foot.clearPage : Foot := ⟨[], [], [.evtCut]⟩

theorem State.clearPage_moves (s : State) (pg : Nat) (keep : List Nat) :
    Moves (Foot.clearPage.at [(4096 * (pg / 4096), 4096 * (pg / 4096) + 4095)]) s (State.clearPage s pg keep) := by
  unfold State.clearPage
  refine s.clearRegs_moves _ (fun q hq => ?_) rfl
  simp only [Bool.and_eq_true, decide_eq_true_eq] at hq
  exact Foot.Holds.touches (Foot.holds_same (.head _)) (by omega) (by omega)

def Foot.showPages : Foot := ⟨[], [], []⟩

theorem State.showPages_moves (s : State) (isl : Nat) (bist offline ready : Bool) :
    Moves (Foot.showPages.at [(65536 * isl, 65536 * isl + 65535)]) s (s.showPages isl bist offline ready) := by
  have key : ∀ (l : List Nat) (t : State), (∀ pg ∈ l, 65536 * isl ≤ pg ∧ pg + 4095 ≤ 65536 * isl + 65535) →
      Moves (Foot.showPages.at [(65536 * isl, 65536 * isl + 65535)]) s t →
      Moves (Foot.showPages.at [(65536 * isl, 65536 * isl + 65535)]) s
        (l.foldl (fun s pg => ((s.putB (F.PG_STAT_BIST_ACTIVE pg) bist).putB (F.PG_STAT_OFFLINE pg) offline).putB
          (F.PG_STAT_READY pg) ready) t) := by
    intro l
    induction l with
    | nil => intro t _ h; exact h
    | cons pg l ih =>
      intro t hl h
      have hp := hl pg (.head _)
      refine ih _ (fun q hq => hl q (.tail _ hq)) ?_
      refine Moves.seq ?_ (State.putB_moves _ _ _ (by dsimp only; omega)) (Foot.sub1 (by decide +kernel)
        (Foot.holds_own (.head _) (by dsimp only; omega) (by dsimp only; omega)))
      refine Moves.seq ?_ (State.putB_moves _ _ _ (by dsimp only; omega)) (Foot.sub1 (by decide +kernel)
        (Foot.holds_own (.head _) (by dsimp only; omega) (by dsimp only; omega)))
      exact Moves.seq h (State.putB_moves _ _ _ (by dsimp only; omega)) (Foot.sub1 (by decide +kernel)
        (Foot.holds_own (.head _) (by dsimp only; omega) (by dsimp only; omega)))
  refine key _ s (fun pg hp => ?_) (Moves.refl s)
  simp only [pagesOf, List.mem_filter, List.mem_map, List.mem_range] at hp
  obtain ⟨⟨b, hb, rfl⟩, _⟩ := hp
  omega

def Foot.hbrReset : Foot := ⟨[(0x0B0000, 0x0BFFFF)], [], [.evtCut, .acc]⟩

theorem State.hbrReset_moves (s : State) : Moves (Foot.hbrReset.at []) s (State.hbrReset s) := by
  unfold State.hbrReset
  refine Moves.seq ?_ (Moves.upd_acc _ _) (Foot.sub0 (by decide +kernel))
  refine s.clearRegs_moves _ (fun q hq => ?_) (by decide)
  simp only [islandOf, I.HBR, Bool.and_eq_true, beq_iff_eq] at hq
  exact Foot.Holds.touches (Foot.holds_range (F := Foot.hbrReset) 0x0B0000 0x0BFFFF (by decide +kernel) (Nat.le_refl _) (Nat.le_refl _)) (by omega) (by omega)

def Foot.setPort : Foot := ⟨[], [], [.ports]⟩

theorem State.setPort_moves (s : State) (p : BPort) (x : PortState) : Moves (Foot.setPort.at []) s (State.setPort s p x) := by
  unfold State.setPort
  split
  · refine Moves.seq ?_ (Moves.upd_portA1 _ _) (Foot.sub0 (by decide +kernel))
    exact Moves.refl _
  · refine Moves.seq ?_ (Moves.upd_portA2 _ _) (Foot.sub0 (by decide +kernel))
    exact Moves.refl _
  · refine Moves.seq ?_ (Moves.upd_portB1 _ _) (Foot.sub0 (by decide +kernel))
    exact Moves.refl _
  · refine Moves.seq ?_ (Moves.upd_portB2 _ _) (Foot.sub0 (by decide +kernel))
    exact Moves.refl _

def Foot.countChange : Foot := ⟨[], [], []⟩

theorem State.countChange_moves (s : State) (p : BPort) :
    Moves (Foot.countChange.at [(4096 * ((69632 + 65536 * (p.line.idx % 2) + 4096 * (p.side % 2)) / 4096) + 16, 4096 * ((69632 + 65536
      * (p.line.idx % 2) + 4096 * (p.side % 2)) / 4096) + 16),
      (69696 + 65536 * (p.line.idx % 2) + 4096 * (p.side % 2), 69696 + 65536 * (p.line.idx % 2) + 4096 * (p.side % 2))]) s
      (State.countChange s p) := by
  unfold State.countChange
  refine Moves.seq ?_ (State.raise_moves ..) (Foot.sub1 (by decide +kernel) (Foot.holds_same (.head _)))
  refine Moves.seq ?_ (State.satInc_moves _ _ (by first | (dsimp only [F.BL_P_STAT_LINK_CHG]; omega) | omega)) (Foot.sub1 (by decide +kernel) (Foot.holds_same (.tail _ (.head _))))
  exact Moves.refl _

def Foot.dropLink : Foot := ⟨[], [], [.beam]⟩

theorem State.dropLink_moves (s : State) (p : BPort) (t : Nat) :
    Moves (Foot.dropLink.at [(69704 + 65536 * (p.line.idx % 2) + 4096 * (p.side % 2), 69704 + 65536 * (p.line.idx % 2) + 4096 *
      (p.side % 2)),
      (69700 + 65536 * (p.line.idx % 2) + 4096 * (p.side % 2), 69700 + 65536 * (p.line.idx % 2) + 4096 * (p.side % 2)),
      (69696 + 65536 * (p.line.idx % 2) + 4096 * (p.side % 2), 69696 + 65536 * (p.line.idx % 2) + 4096 * (p.side % 2)),
      (77912 + 65536 * (p.line.idx % 2), 77912 + 65536 * (p.line.idx % 2))]) s (State.dropLink s p t) := by
  unfold State.dropLink
  extract_lets -merge -underBinder +onlyGivenNames x1
  refine Moves.let_ x1 ?_ ?_
  · subst x1
    refine Moves.seq ?_ (State.put_moves _ _ _ (by first | (dsimp only [F.BL_P_SNR_MARGIN]; omega) | omega)) (Foot.sub1 (by decide +kernel) (Foot.holds_same (.head _)))
    refine Moves.seq ?_ (State.wr_moves _ _ (by first | (dsimp only [R.BL_P_LAT]; omega) | omega)) (Foot.sub1 (by decide +kernel) (Foot.holds_same (.tail _ (.head _))))
    refine Moves.seq ?_ (State.put_moves _ _ _ (by first | (dsimp only [F.BL_P_STAT_TSTATE]; omega) | omega)) (Foot.sub1 (by decide +kernel) (Foot.holds_same (.tail _ (.tail _ (.head _)))))
    refine Moves.seq ?_ (State.putB_moves _ _ _ (by first | (dsimp only [F.BL_P_STAT_LINK]; omega) | omega)) (Foot.sub1 (by decide +kernel) (Foot.holds_same (.tail _ (.tail _ (.head _)))))
    exact Moves.refl _
  intro h1
  try clear_value x1
  extract_lets -merge -underBinder +onlyGivenNames x2
  refine Moves.let_ x2 ?_ ?_
  · subst x2
    refine Moves.seq ?_ (Moves.upd_beam _ _) (Foot.sub0 (by decide +kernel))
    exact h1
  intro h2
  try clear_value x2
  refine Moves.seq ?_ (State.put_moves _ _ _ (by (try dsimp only [F.BL_BEAM_LDLY_P1, F.BL_BEAM_LDLY_P2]); split <;> (try dsimp only) <;> first | decide | omega)) (Foot.sub1 (by decide +kernel) (by (try dsimp only [F.BL_BEAM_LDLY_P1, F.BL_BEAM_LDLY_P2]); split <;> (try dsimp only) <;> first | exact (Foot.holds_same (.tail _ (.tail _ (.tail _ (.head _)))))))
  exact h2

def Foot.flap : Foot := ⟨[(0x100010, 0x100010), (0x100064, 0x100064)], [], [.evq, .ports, .beam]⟩

theorem State.flap_moves (s : State) (p : BPort) :
    Moves (Foot.flap.at [(4096 * ((69632 + 65536 * (p.line.idx % 2) + 4096 * (p.side % 2)) / 4096) + 16, 4096 * ((69632 + 65536 *
      (p.line.idx % 2) + 4096 * (p.side % 2)) / 4096) + 16),
      (69696 + 65536 * (p.line.idx % 2) + 4096 * (p.side % 2), 69696 + 65536 * (p.line.idx % 2) + 4096 * (p.side % 2)),
      (69704 + 65536 * (p.line.idx % 2) + 4096 * (p.side % 2), 69704 + 65536 * (p.line.idx % 2) + 4096 * (p.side % 2)),
      (69700 + 65536 * (p.line.idx % 2) + 4096 * (p.side % 2), 69700 + 65536 * (p.line.idx % 2) + 4096 * (p.side % 2)),
      (77912 + 65536 * (p.line.idx % 2), 77912 + 65536 * (p.line.idx % 2))]) s (State.flap s p) := by
  unfold State.flap
  extract_lets -merge -underBinder +onlyGivenNames x1
  subst x1
  extract_lets -merge -underBinder +onlyGivenNames x2
  subst x2
  refine Moves.ite (fun hc => ?_) (fun hc => ?_)
  · exact Moves.refl _
  · refine Moves.ite (fun hc => ?_) (fun hc => ?_)
    · refine Moves.seq ?_ (State.setPort_moves ..) (Foot.sub0 (by decide +kernel))
      exact Moves.refl _
    · extract_lets -merge -underBinder +onlyGivenNames x3
      subst x3
      extract_lets -merge -underBinder +onlyGivenNames x4
      refine Moves.let_ x4 ?_ ?_
      · subst x4
        refine Moves.seq ?_ (State.putB_moves _ _ _ (by show 1048676 % 4096 ≠ 16; decide)) (Foot.sub1 (by decide +kernel) (Foot.holds_reg (lo := 1048676) (hi := 1048676) (by decide +kernel)))
        refine Moves.seq ?_ (State.setPort_moves ..) (Foot.sub0 (by decide +kernel))
        exact Moves.refl _
      intro h4
      try clear_value x4
      extract_lets -merge -underBinder +onlyGivenNames x5
      refine Moves.let_ x5 ?_ ?_
      · subst x5
        refine Moves.seq ?_ (State.post_moves ..) (Foot.sub0 (by decide +kernel))
        refine Moves.seq ?_ (State.raise_moves ..) (Foot.sub1 (by decide +kernel) (Foot.holds_reg (by decide +kernel)))
        exact h4
      intro h5
      try clear_value x5
      refine Moves.ite (fun hc => ?_) (fun hc => ?_)
      · refine Moves.seq ?_ (State.countChange_moves ..) (Foot.sub_at (by decide +kernel) (Foot.own_cons (Foot.holds_same (.head _)) (Foot.own_cons (Foot.holds_same (.tail _ (.head _))) Foot.own_nil)))
        refine Moves.seq ?_ (State.dropLink_moves ..) (Foot.sub_at (by decide +kernel) (Foot.own_cons (Foot.holds_same (.tail _ (.tail _ (.head _)))) (Foot.own_cons (Foot.holds_same (.tail _ (.tail _ (.tail _ (.head _))))) (Foot.own_cons (Foot.holds_same (.tail _ (.head _))) (Foot.own_cons (Foot.holds_same (.tail _ (.tail _ (.tail _ (.tail _ (.head _)))))) Foot.own_nil)))))
        exact h5
      · refine Moves.seq ?_ (State.put_moves _ _ _ (by first | (dsimp only [F.BL_P_STAT_TSTATE]; omega) | omega)) (Foot.sub1 (by decide +kernel) (Foot.holds_same (.tail _ (.head _))))
        exact h5

def Foot.mutePorts : Foot :=
  ⟨[(0x011010, 0x011010), (0x011040, 0x011048), (0x012010, 0x012010), (0x012040, 0x012048), (0x013058,
    0x013058), (0x021010, 0x021010), (0x021040, 0x021048), (0x022010, 0x022010), (0x022040, 0x022048), (0x023058, 0x023058), (0x100010,
    0x100010), (0x100064, 0x100064)], [], [.evq, .ports, .beam]⟩

theorem State.mutePorts_moves (s : State) (l : Line) : Moves (Foot.mutePorts.at []) s (State.mutePorts s l) := by
  unfold State.mutePorts
  refine Moves.foldl _ (fun x1 _ h1 => ?_) _ ?_
  · refine Moves.ite (fun hc => ?_) (fun hc => ?_)
    · refine Moves.seq ?_ (State.flap_moves ..) (Foot.sub_at (by decide +kernel) (Foot.own_cons (Foot.holds_four 139280 135184 73744 69648 (by decide +kernel) (by decide +kernel) (by decide +kernel) (by decide +kernel) (by first | omega | (dsimp only; omega))) (Foot.own_cons (Foot.holds_four 139328 135232 73792 69696 (by decide +kernel) (by decide +kernel) (by decide +kernel) (by decide +kernel) (by first | omega | (dsimp only; omega))) (Foot.own_cons (Foot.holds_four 139336 135240 73800 69704 (by decide +kernel) (by decide +kernel) (by decide +kernel) (by decide +kernel) (by first | omega | (dsimp only; omega))) (Foot.own_cons (Foot.holds_four 139332 135236 73796 69700 (by decide +kernel) (by decide +kernel) (by decide +kernel) (by decide +kernel) (by first | omega | (dsimp only; omega))) (Foot.own_cons (Foot.holds_two 143448 77912 (by decide +kernel) (by decide +kernel) (by first | omega | (dsimp only; omega))) Foot.own_nil))))))
      refine Moves.seq ?_ (State.countChange_moves ..) (Foot.sub_at (by decide +kernel) (Foot.own_cons (Foot.holds_four 139280 135184 73744 69648 (by decide +kernel) (by decide +kernel) (by decide +kernel) (by decide +kernel) (by first | omega | (dsimp only; omega))) (Foot.own_cons (Foot.holds_four 139328 135232 73792 69696 (by decide +kernel) (by decide +kernel) (by decide +kernel) (by decide +kernel) (by first | omega | (dsimp only; omega))) Foot.own_nil)))
      refine Moves.seq ?_ (State.dropLink_moves ..) (Foot.sub_at (by decide +kernel) (Foot.own_cons (Foot.holds_four 139336 135240 73800 69704 (by decide +kernel) (by decide +kernel) (by decide +kernel) (by decide +kernel) (by first | omega | (dsimp only; omega))) (Foot.own_cons (Foot.holds_four 139332 135236 73796 69700 (by decide +kernel) (by decide +kernel) (by decide +kernel) (by decide +kernel) (by first | omega | (dsimp only; omega))) (Foot.own_cons (Foot.holds_four 139328 135232 73792 69696 (by decide +kernel) (by decide +kernel) (by decide +kernel) (by decide +kernel) (by first | omega | (dsimp only; omega))) (Foot.own_cons (Foot.holds_two 143448 77912 (by decide +kernel) (by decide +kernel) (by first | omega | (dsimp only; omega))) Foot.own_nil)))))
      exact h1
    · refine Moves.seq ?_ (State.put_moves _ _ _ (by first | (dsimp only [F.BL_P_STAT_TSTATE]; omega) | omega)) (Foot.sub1 (by decide +kernel) (Foot.holds_four 139328 135232 73792 69696 (by decide +kernel) (by decide +kernel) (by decide +kernel) (by decide +kernel) (by first | (dsimp only [F.BL_P_STAT_TSTATE]; omega) | omega)))
      exact h1
  · exact Moves.refl _

def Foot.outFollow : Foot := ⟨[], [], []⟩

theorem State.outFollow_moves (s : State) (p : Nat) :
    Moves (Foot.outFollow.at [(790600 + 16 * (p % 8), 790600 + 16 * (p % 8))]) s (State.outFollow s p) := by
  unfold State.outFollow
  refine Moves.seq ?_ (State.put_moves _ _ _ (by first | (dsimp only [F.PSC_WIN_STAT_OUT]; omega) | omega)) (Foot.sub1 (by decide +kernel) (Foot.holds_same (.head _)))
  exact Moves.refl _

def Foot.dropReads : Foot := ⟨[(0x0C1048, 0x0C10B8), (0x0C1100, 0x0C1100)], [], [.psc]⟩

theorem State.dropReads_moves (s : State) : Moves (Foot.dropReads.at []) s (State.dropReads s) := by
  unfold State.dropReads
  extract_lets -merge -underBinder +onlyGivenNames x1
  subst x1
  extract_lets -merge -underBinder +onlyGivenNames x2
  refine Moves.let_ x2 ?_ ?_
  · subst x2
    refine Moves.seq ?_ (Moves.upd_psc _ _) (Foot.sub0 (by decide +kernel))
    exact Moves.refl _
  intro h2
  try clear_value x2
  refine Moves.seq ?_ (State.wr_moves _ _ (by decide)) (Foot.sub1 (by decide +kernel) (Foot.holds_reg (by decide +kernel)))
  refine Moves.foldl _ (fun x3 _ h3 => ?_) _ ?_
  · refine Moves.seq ?_ (State.outFollow_moves ..) (Foot.sub1 (by decide +kernel) (Foot.holds_range 790600 790712 (by decide +kernel) (by first | omega | (dsimp only; omega)) (by first | omega | (dsimp only; omega))))
    exact h3
  · exact h2

def Foot.stopFunctions : Foot :=
  ⟨[(0x000054, 0x000054), (0x005040, 0x005040), (0x011010, 0x011010), (0x011040, 0x011048), (0x012010,
    0x012010), (0x012040, 0x012048), (0x013058, 0x013058), (0x021010, 0x021010), (0x021040, 0x021048), (0x022010, 0x022010), (0x022040,
    0x022048), (0x023058, 0x023058), (0x0A0040, 0x0A0040), (0x0C1048, 0x0C10B8), (0x0C1100, 0x0C1100), (0x100010, 0x100010), (0x100064,
    0x100064)], [], [.out, .evq, .ports, .beam, .psc]⟩

theorem State.stopFunctions_moves (s : State) (n : Nat) : Moves (Foot.stopFunctions.at []) s (State.stopFunctions s n) := by
  unfold State.stopFunctions
  split
  · refine Moves.seq ?_ (State.putB_moves _ _ _ (by decide)) (Foot.sub1 (by decide +kernel) (Foot.holds_reg (by decide +kernel)))
    refine Moves.seq ?_ (State.mutePorts_moves ..) (Foot.sub0 (by decide +kernel))
    exact Moves.refl _
  · refine Moves.seq ?_ (State.putB_moves _ _ _ (by decide)) (Foot.sub1 (by decide +kernel) (Foot.holds_reg (by decide +kernel)))
    refine Moves.seq ?_ (State.mutePorts_moves ..) (Foot.sub0 (by decide +kernel))
    exact Moves.refl _
  · extract_lets -merge -underBinder +onlyGivenNames x1
    refine Moves.let_ x1 ?_ ?_
    · subst x1
      refine Moves.ite (fun hc => ?_) (fun hc => ?_)
      · refine Moves.seq ?_ (State.emit_moves ..) (Foot.sub0 (by decide +kernel))
        exact Moves.refl _
      · exact Moves.refl _
    intro h1
    try clear_value x1
    refine Moves.seq ?_ (State.put_moves _ _ _ (by decide)) (Foot.sub1 (by decide +kernel) (Foot.holds_reg (by decide +kernel)))
    exact h1
  · refine Moves.seq ?_ (State.dropReads_moves ..) (Foot.sub0 (by decide +kernel))
    exact Moves.refl _
  · refine Moves.seq ?_ (State.putB_moves _ _ _ (by decide)) (Foot.sub1 (by decide +kernel) (Foot.holds_reg (by decide +kernel)))
    exact Moves.refl _
  · refine Moves.seq ?_ (State.putB_moves _ _ _ (by decide)) (Foot.sub1 (by decide +kernel) (Foot.holds_reg (by decide +kernel)))
    exact Moves.refl _
  · exact Moves.refl _

def Foot.modHlt : Foot := ⟨[], [], [.hlt]⟩

theorem State.modHlt_moves (s : State) (f : HltState → HltState) : Moves (Foot.modHlt.at []) s (State.modHlt s f) := by
  unfold State.modHlt
  refine Moves.seq ?_ (Moves.upd_hlt _ _) (Foot.sub0 (by decide +kernel))
  exact Moves.refl _

def Foot.testLost : Foot := ⟨[(0x0F1044, 0x0F1044)], [], [.hlt]⟩

theorem State.testLost_moves (s : State) (n : Nat) : Moves (Foot.testLost.at []) s (State.testLost s n) := by
  unfold State.testLost
  split
  · exact Moves.refl _
  · refine Moves.ite (fun hc => ?_) (fun hc => ?_)
    · refine Moves.seq ?_ (State.modHlt_moves ..) (Foot.sub0 (by decide +kernel))
      refine Moves.seq ?_ (State.put_moves _ _ _ (by decide)) (Foot.sub1 (by decide +kernel) (Foot.holds_reg (by decide +kernel)))
      refine Moves.seq ?_ (State.put_moves _ _ _ (by decide)) (Foot.sub1 (by decide +kernel) (Foot.holds_reg (by decide +kernel)))
      exact Moves.refl _
    · exact Moves.refl _

def Foot.modPwr : Foot := ⟨[], [], [.pwr]⟩

theorem State.modPwr_moves (s : State) (f : PwrState → PwrState) : Moves (Foot.modPwr.at []) s (State.modPwr s f) := by
  unfold State.modPwr
  refine Moves.seq ?_ (Moves.upd_pwr _ _) (Foot.sub0 (by decide +kernel))
  exact Moves.refl _

def Foot.setDvfs : Foot := ⟨[], [], [.pwr]⟩

theorem State.setDvfs_moves (s : State) (f : Nat) (d : Dvfs) : Moves (Foot.setDvfs.at []) s (State.setDvfs s f d) := by
  unfold State.setDvfs
  refine Moves.seq ?_ (State.modPwr_moves ..) (Foot.sub0 (by decide +kernel))
  exact Moves.refl _

def Foot.dvfsEnd : Foot := ⟨[(0x002104, 0x002104), (0x00210C, 0x00210C), (0x002114, 0x002114)], [], [.pwr]⟩

theorem State.dvfsEnd_moves (s : State) (isl : Nat) : Moves (Foot.dvfsEnd.at []) s (State.dvfsEnd s isl) := by
  unfold State.dvfsEnd
  split
  · refine Moves.seq ?_ (State.setDvfs_moves ..) (Foot.sub0 (by decide +kernel))
    refine Moves.seq ?_ (State.putB_moves _ _ _ (by first | (dsimp only [F.SYS_PWR_DVFSSTAT_BUSY]; omega) | omega)) (Foot.sub1 (by decide +kernel) (Foot.holds_four 8468 8460 8452 8452 (by decide +kernel) (by decide +kernel) (by decide +kernel) (by decide +kernel) (by first | (dsimp only [F.SYS_PWR_DVFSSTAT_BUSY]; omega) | omega)))
    exact Moves.refl _
  · exact Moves.refl _

def Foot.sgwMute : Foot := ⟨[(0x060010, 0x060010), (0x060044, 0x060044)], [], []⟩

theorem State.sgwMute_moves (s : State) : Moves (Foot.sgwMute.at []) s (State.sgwMute s) := by
  unfold State.sgwMute
  extract_lets -merge -underBinder +onlyGivenNames x1
  subst x1
  refine Moves.ite (fun hc => ?_) (fun hc => ?_)
  · exact Moves.refl _
  · refine Moves.seq ?_ (State.raise_moves ..) (Foot.sub1 (by decide +kernel) (Foot.holds_reg (by decide +kernel)))
    refine Moves.seq ?_ (State.putB_moves _ _ _ (by decide)) (Foot.sub1 (by decide +kernel) (Foot.holds_reg (by decide +kernel)))
    exact Moves.refl _

def Foot.setWofs : Foot := ⟨[(0x090058, 0x09005C)], [], []⟩

theorem State.setWofs_moves (s : State) (w : Nat) : Moves (Foot.setWofs.at []) s (State.setWofs s w) := by
  unfold State.setWofs
  refine Moves.seq ?_ (State.wr_moves _ _ (by decide)) (Foot.sub1 (by decide +kernel) (Foot.holds_reg (by decide +kernel)))
  refine Moves.seq ?_ (State.wr_moves _ _ (by decide)) (Foot.sub1 (by decide +kernel) (Foot.holds_reg (by decide +kernel)))
  exact Moves.refl _

def Foot.timEnter : Foot :=
  ⟨[(0x090010, 0x090010), (0x090064, 0x090064), (0x091010, 0x091010), (0x091050, 0x091050), (0x091058,
    0x091058)], [], [.evq, .tim]⟩

theorem State.timEnter_moves (s : State) (n : Nat) : Moves (Foot.timEnter.at []) s (State.timEnter s n) := by
  unfold State.timEnter
  extract_lets -merge -underBinder +onlyGivenNames x1
  subst x1
  refine Moves.ite (fun hc => ?_) (fun hc => ?_)
  · exact Moves.refl _
  · extract_lets -merge -underBinder +onlyGivenNames x2
    refine Moves.let_ x2 ?_ ?_
    · subst x2
      refine Moves.seq ?_ (State.raise_moves ..) (Foot.sub1 (by decide +kernel) (Foot.holds_reg (by decide +kernel)))
      refine Moves.seq ?_ (State.put_moves _ _ _ (by decide)) (Foot.sub1 (by decide +kernel) (Foot.holds_reg (by decide +kernel)))
      exact Moves.refl _
    intro h2
    try clear_value x2
    extract_lets -merge -underBinder +onlyGivenNames x3
    refine Moves.let_ x3 ?_ ?_
    · subst x3
      refine Moves.seq ?_ (State.post_moves ..) (Foot.sub0 (by decide +kernel))
      exact h2
    intro h3
    try clear_value x3
    extract_lets -merge -underBinder +onlyGivenNames x4
    refine Moves.let_ x4 ?_ ?_
    · subst x4
      refine Moves.ite (fun hc => ?_) (fun hc => ?_)
      · refine Moves.seq ?_ (State.raise_moves ..) (Foot.sub1 (by decide +kernel) (Foot.holds_reg (by decide +kernel)))
        exact h3
      · exact h3
    intro h4
    try clear_value x4
    extract_lets -merge -underBinder +onlyGivenNames x5
    refine Moves.let_ x5 ?_ ?_
    · subst x5
      refine Moves.ite (fun hc => ?_) (fun hc => ?_)
      · refine Moves.seq ?_ (State.satInc_moves _ _ (by decide)) (Foot.sub1 (by decide +kernel) (Foot.holds_reg (by decide +kernel)))
        refine Moves.seq ?_ (State.raise_moves ..) (Foot.sub1 (by decide +kernel) (Foot.holds_reg (by decide +kernel)))
        exact h4
      · exact h4
    intro h5
    try clear_value x5
    extract_lets -merge -underBinder +onlyGivenNames x6
    refine Moves.let_ x6 ?_ ?_
    · subst x6
      refine Moves.ite (fun hc => ?_) (fun hc => ?_)
      · refine Moves.seq ?_ (State.wr_moves _ _ (by decide)) (Foot.sub1 (by decide +kernel) (Foot.holds_reg (by decide +kernel)))
        refine Moves.seq ?_ (State.raise_moves ..) (Foot.sub1 (by decide +kernel) (Foot.holds_reg (by decide +kernel)))
        exact h5
      · exact h5
    intro h6
    try clear_value x6
    refine Moves.seq ?_ (Moves.upd_tim _ _) (Foot.sub0 (by decide +kernel))
    exact h6

def Foot.wallStep : Foot := ⟨[(0x090010, 0x090010), (0x093060, 0x093060)], [], [.evq, .tim]⟩

theorem State.wallStep_moves (s : State) (old : Nat) (cause : Nat) : Moves (Foot.wallStep.at []) s (State.wallStep s old cause) := by
  unfold State.wallStep
  extract_lets -merge -underBinder +onlyGivenNames x1
  refine Moves.let_ x1 ?_ ?_
  · subst x1
    refine Moves.seq ?_ (State.post_moves ..) (Foot.sub0 (by decide +kernel))
    refine Moves.seq ?_ (State.raise_moves ..) (Foot.sub1 (by decide +kernel) (Foot.holds_reg (by decide +kernel)))
    exact Moves.refl _
  intro h1
  try clear_value x1
  extract_lets -merge -underBinder +onlyGivenNames x2
  refine Moves.let_ x2 ?_ ?_
  · subst x2
    refine Moves.seq ?_ (State.wrapInc_moves _ _ (by decide)) (Foot.sub1 (by decide +kernel) (Foot.holds_reg (by decide +kernel)))
    exact h1
  intro h2
  try clear_value x2
  refine Moves.seq ?_ (Moves.upd_tim _ _) (Foot.sub0 (by decide +kernel))
  exact h2

def Foot.gmUpdate : Foot :=
  ⟨[(0x090010, 0x090010), (0x090058, 0x090064), (0x091010, 0x091010), (0x091050, 0x091058), (0x093060,
    0x093060)], [], [.evq, .tim]⟩

theorem State.gmUpdate_moves (s : State) : Moves (Foot.gmUpdate.at []) s (State.gmUpdate s) := by
  unfold State.gmUpdate
  refine Moves.ite (fun hc => ?_) (fun hc => ?_)
  · exact Moves.refl _
  · refine Moves.ite (fun hc => ?_) (fun hc => ?_)
    · refine Moves.ite (fun hc => ?_) (fun hc => ?_)
      · refine Moves.seq ?_ (State.put_moves _ _ _ (by decide)) (Foot.sub1 (by decide +kernel) (Foot.holds_reg (by decide +kernel)))
        exact Moves.refl _
      · extract_lets -merge -underBinder +onlyGivenNames x1
        subst x1
        extract_lets -merge -underBinder +onlyGivenNames x2
        subst x2
        extract_lets -merge -underBinder +onlyGivenNames x3
        refine Moves.let_ x3 ?_ ?_
        · subst x3
          refine Moves.seq ?_ (State.putB_moves _ _ _ (by decide)) (Foot.sub1 (by decide +kernel) (Foot.holds_reg (by decide +kernel)))
          refine Moves.seq ?_ (State.wr_moves _ _ (by decide)) (Foot.sub1 (by decide +kernel) (Foot.holds_reg (by decide +kernel)))
          refine Moves.seq ?_ (State.wr_moves _ _ (by decide)) (Foot.sub1 (by decide +kernel) (Foot.holds_reg (by decide +kernel)))
          exact Moves.refl _
        intro h3
        try clear_value x3
        extract_lets -merge -underBinder +onlyGivenNames x4
        subst x4
        extract_lets -merge -underBinder +onlyGivenNames x5
        refine Moves.let_ x5 ?_ ?_
        · subst x5
          refine Moves.ite (fun hc => ?_) (fun hc => ?_)
          · refine Moves.seq ?_ (State.put_moves _ _ _ (by decide)) (Foot.sub1 (by decide +kernel) (Foot.holds_reg (by decide +kernel)))
            refine Moves.seq ?_ (State.setWofs_moves ..) (Foot.sub0 (by decide +kernel))
            refine Moves.seq ?_ (Moves.upd_tim _ _) (Foot.sub0 (by decide +kernel))
            exact h3
          · exact h3
        intro h5
        try clear_value x5
        extract_lets -merge -underBinder +onlyGivenNames x6
        refine Moves.let_ x6 ?_ ?_
        · subst x6
          refine Moves.seq ?_ (State.put_moves _ _ _ (by decide)) (Foot.sub1 (by decide +kernel) (Foot.holds_reg (by decide +kernel)))
          exact h5
        intro h6
        try clear_value x6
        extract_lets -merge -underBinder +onlyGivenNames x7
        refine Moves.let_ x7 ?_ ?_
        · subst x7
          refine Moves.seq ?_ (State.raise_moves ..) (Foot.sub1 (by decide +kernel) (Foot.holds_reg (by decide +kernel)))
          refine Moves.seq ?_ (State.put_moves _ _ _ (by decide)) (Foot.sub1 (by decide +kernel) (Foot.holds_reg (by decide +kernel)))
          refine Moves.seq ?_ (State.timEnter_moves ..) (Foot.sub0 (by decide +kernel))
          exact h6
        intro h7
        try clear_value x7
        extract_lets -merge -underBinder +onlyGivenNames x8
        refine Moves.let_ x8 ?_ ?_
        · subst x8
          refine Moves.seq ?_ (State.post_moves ..) (Foot.sub0 (by decide +kernel))
          exact h7
        intro h8
        try clear_value x8
        refine Moves.ite (fun hc => ?_) (fun hc => ?_)
        · refine Moves.seq ?_ (State.wallStep_moves ..) (Foot.sub0 (by decide +kernel))
          exact h8
        · exact h8
    · refine Moves.ite (fun hc => ?_) (fun hc => ?_)
      · extract_lets -merge -underBinder +onlyGivenNames x9
        subst x9
        extract_lets -merge -underBinder +onlyGivenNames x10
        refine Moves.let_ x10 ?_ ?_
        · subst x10
          refine Moves.seq ?_ (Moves.upd_tim _ _) (Foot.sub0 (by decide +kernel))
          exact Moves.refl _
        intro h10
        try clear_value x10
        extract_lets -merge -underBinder +onlyGivenNames x11
        refine Moves.let_ x11 ?_ ?_
        · subst x11
          refine Moves.seq ?_ (State.raise_moves ..) (Foot.sub1 (by decide +kernel) (Foot.holds_reg (by decide +kernel)))
          refine Moves.seq ?_ (State.put_moves _ _ _ (by decide)) (Foot.sub1 (by decide +kernel) (Foot.holds_reg (by decide +kernel)))
          refine Moves.seq ?_ (State.timEnter_moves ..) (Foot.sub0 (by decide +kernel))
          exact h10
        intro h11
        try clear_value x11
        refine Moves.seq ?_ (State.post_moves ..) (Foot.sub0 (by decide +kernel))
        exact h11
      · exact Moves.refl _

def Foot.islandOff : Foot :=
  ⟨[(0x000054, 0x000054), (0x002040, 0x002114), (0x005040, 0x005040), (0x011010, 0x011010), (0x011040,
    0x011048), (0x012010, 0x012010), (0x012040, 0x012048), (0x013058, 0x013058), (0x021010, 0x021010), (0x021040, 0x021048), (0x022010,
    0x022010), (0x022040, 0x022048), (0x023058, 0x023058), (0x060010, 0x060010), (0x060044, 0x060044), (0x090010, 0x090010), (0x090058,
    0x090064), (0x091010, 0x091010), (0x091050, 0x091058), (0x093060, 0x093060), (0x0A0040, 0x0A0040), (0x0C1048, 0x0C10B8), (0x0C1100,
    0x0C1100), (0x0F1044, 0x0F1044), (0x100010, 0x100010), (0x100064, 0x100064)], [], [.mem, .out, .evq, .evqCut, .evtCut, .acc,
    .lines, .ports, .top, .beam, .fab, .tim, .cans, .twn, .hlt, .sgw, .psc, .recorder, .pwr, .mgt]⟩

theorem State.islandOff_moves (s : State) (n : Nat) :
    Moves (Foot.islandOff.at [(4224 + 4 * (n % 17), 4224 + 4 * (n % 17)),
      (65536 * n, 65536 * n + 65535)]) s (State.islandOff s n) := by
  unfold State.islandOff
  extract_lets -merge -underBinder +onlyGivenNames x1
  refine Moves.let_ x1 ?_ ?_
  · subst x1
    refine Moves.ite (fun hc => ?_) (fun hc => ?_)
    · refine Moves.seq ?_ (State.stopFunctions_moves ..) (Foot.sub0 (by decide +kernel))
      exact Moves.refl _
    · exact Moves.refl _
  intro h1
  try clear_value x1
  extract_lets -merge -underBinder +onlyGivenNames x2
  refine Moves.let_ x2 ?_ ?_
  · subst x2
    refine Moves.seq ?_ (State.testLost_moves ..) (Foot.sub0 (by decide +kernel))
    exact h1
  intro h2
  try clear_value x2
  extract_lets -merge -underBinder +onlyGivenNames x3
  refine Moves.let_ x3 ?_ ?_
  · subst x3
    refine Moves.seq ?_ (State.putB_moves _ _ _ (by show 8256 % 4096 ≠ 16; decide)) (Foot.sub1 (by decide +kernel) (Foot.holds_reg (lo := 8256) (hi := 8256) (by decide +kernel)))
    exact h2
  intro h3
  try clear_value x3
  extract_lets -merge -underBinder +onlyGivenNames x4
  refine Moves.let_ x4 ?_ ?_
  · subst x4
    refine Moves.seq ?_ (State.put_moves _ _ _ (by first | (dsimp only [F.SYS_CLK_ISL_CUR]; omega) | omega)) (Foot.sub1 (by decide +kernel) (Foot.holds_same (.head _)))
    refine Moves.seq ?_ (State.putB_moves _ _ _ (by first | (dsimp only [F.SYS_CLK_ISL_SWITCHING]; omega) | omega)) (Foot.sub1 (by decide +kernel) (Foot.holds_same (.head _)))
    exact h3
  intro h4
  try clear_value x4
  extract_lets -merge -underBinder +onlyGivenNames x5
  refine Moves.let_ x5 ?_ ?_
  · subst x5
    refine Moves.seq ?_ (State.modPwr_moves ..) (Foot.sub0 (by decide +kernel))
    exact h4
  intro h5
  try clear_value x5
  extract_lets -merge -underBinder +onlyGivenNames x6
  refine Moves.let_ x6 ?_ ?_
  · subst x6
    refine Moves.seq ?_ (State.dvfsEnd_moves ..) (Foot.sub0 (by decide +kernel))
    refine Moves.seq ?_ (State.islandReset_moves ..) (Foot.sub1 (by decide +kernel) (Foot.holds_same (.tail _ (.head _))))
    exact h5
  intro h6
  try clear_value x6
  extract_lets -merge -underBinder +onlyGivenNames x7
  refine Moves.let_ x7 ?_ ?_
  · subst x7
    refine Moves.ite (fun hc => ?_) (fun hc => ?_)
    · refine Moves.seq ?_ (State.sgwMute_moves ..) (Foot.sub0 (by decide +kernel))
      exact h6
    · exact h6
  intro h7
  try clear_value x7
  extract_lets -merge -underBinder +onlyGivenNames x8
  refine Moves.let_ x8 ?_ ?_
  · subst x8
    refine Moves.ite (fun hc => ?_) (fun hc => ?_)
    · refine Moves.seq ?_ (State.gmUpdate_moves ..) (Foot.sub0 (by decide +kernel))
      exact h7
    · exact h7
  intro h8
  try clear_value x8
  refine Moves.seq ?_ (State.modHlt_moves ..) (Foot.sub0 (by decide +kernel))
  exact h8

def Foot.resetAll : Foot :=
  ⟨[], [], [.mem, .out, .evq, .evqCut, .evtCut, .allRegs, .acc, .lines, .ports, .top, .beam, .fab, .tim,
    .cans, .twn, .hlt, .sgw, .psc, .recorder, .pwr, .mgt]⟩

theorem State.resetAll_moves (s : State) : Moves (Foot.resetAll.at []) s (State.resetAll s) := by
  unfold State.resetAll
  extract_lets -merge -underBinder +onlyGivenNames x1
  refine Moves.let_ x1 ?_ ?_
  · subst x1
    refine Moves.foldl _ (fun x2 _ h2 => ?_) _ ?_
    · refine Moves.seq ?_ (State.islandOff_moves ..) (Foot.sub_at (by decide +kernel) (Foot.own_cons (Foot.holds_all (by decide +kernel)) (Foot.own_cons (Foot.holds_all (by decide +kernel)) Foot.own_nil)))
      exact h2
    · exact Moves.refl _
  intro h1
  try clear_value x1
  extract_lets -merge -underBinder +onlyGivenNames x3
  refine Moves.let_ x3 ?_ ?_
  · subst x3
    refine Moves.seq h1 (State.clearRegs_moves _ _ (F := Foot.resetAll.at []) (fun q hq => ?_) (by decide)) Foot.sub_self
    exact Foot.Holds.touches (lo := q) (hi := q) (Foot.holds_all (by decide)) (Nat.le_refl _) (Nat.le_refl _)
  intro h3
  try clear_value x3
  extract_lets -merge -underBinder +onlyGivenNames x4
  refine Moves.let_ x4 ?_ ?_
  · subst x4
    refine Moves.seq ?_ (State.modPwr_moves ..) (Foot.sub0 (by decide +kernel))
    exact h3
  intro h4
  try clear_value x4
  refine Moves.seq ?_ (Moves.upd_evq_acc _ _ _) (Foot.sub0 (by decide +kernel))
  exact h4

def Foot.mgtPages : Foot := ⟨[(0x0D100C, 0x0D100C), (0x0D200C, 0x0D200C)], [], []⟩

theorem State.mgtPages_moves (s : State) (ready : Bool) : Moves (Foot.mgtPages.at []) s (State.mgtPages s ready) := by
  unfold State.mgtPages
  simp -zeta only [List.foldl_cons, List.foldl_nil]
  refine Moves.seq ?_ (State.putB_moves _ _ _ (by decide)) (Foot.sub1 (by decide +kernel) (Foot.holds_reg (by decide +kernel)))
  refine Moves.seq ?_ (State.putB_moves _ _ _ (by decide)) (Foot.sub1 (by decide +kernel) (Foot.holds_reg (by decide +kernel)))
  refine Moves.seq ?_ (State.putB_moves _ _ _ (by decide)) (Foot.sub1 (by decide +kernel) (Foot.holds_reg (by decide +kernel)))
  refine Moves.seq ?_ (State.putB_moves _ _ _ (by decide)) (Foot.sub1 (by decide +kernel) (Foot.holds_reg (by decide +kernel)))
  exact Moves.refl _

def Foot.hltNode : Foot := ⟨[(0x000054, 0x000054), (0x0F0010, 0x0F0010), (0x0F0040, 0x0F0040)], [], [.evq]⟩

theorem State.hltNode_moves (s : State) (isl : Nat) : Moves (Foot.hltNode.at []) s (State.hltNode s isl) := by
  unfold State.hltNode
  extract_lets -merge -underBinder +onlyGivenNames x1
  subst x1
  extract_lets -merge -underBinder +onlyGivenNames x2
  subst x2
  extract_lets -merge -underBinder +onlyGivenNames x3
  subst x3
  extract_lets -merge -underBinder +onlyGivenNames x4
  subst x4
  extract_lets -merge -underBinder +onlyGivenNames x5
  refine Moves.let_ x5 ?_ ?_
  · subst x5
    refine Moves.seq ?_ (State.put_moves _ _ _ (by decide)) (Foot.sub1 (by decide +kernel) (Foot.holds_reg (by decide +kernel)))
    exact Moves.refl _
  intro h5
  try clear_value x5
  refine Moves.ite (fun hc => ?_) (fun hc => ?_)
  · exact h5
  · extract_lets -merge -underBinder +onlyGivenNames x6
    refine Moves.let_ x6 ?_ ?_
    · subst x6
      refine Moves.seq ?_ (State.raise_moves ..) (Foot.sub1 (by decide +kernel) (Foot.holds_reg (by decide +kernel)))
      refine Moves.seq ?_ (State.satInc_moves _ _ (by decide)) (Foot.sub1 (by decide +kernel) (Foot.holds_reg (by decide +kernel)))
      refine Moves.seq ?_ (State.put_moves _ _ _ (by decide)) (Foot.sub1 (by decide +kernel) (Foot.holds_reg (by decide +kernel)))
      exact h5
    intro h6
    try clear_value x6
    extract_lets -merge -underBinder +onlyGivenNames x7
    refine Moves.let_ x7 ?_ ?_
    · subst x7
      refine Moves.seq ?_ (State.putB_moves _ _ _ (by decide)) (Foot.sub1 (by decide +kernel) (Foot.holds_reg (by decide +kernel)))
      refine Moves.ite (fun hc => ?_) (fun hc => ?_)
      · refine Moves.seq ?_ (State.raise_moves ..) (Foot.sub1 (by decide +kernel) (Foot.holds_reg (by decide +kernel)))
        exact h6
      · exact h6
    intro h7
    try clear_value x7
    refine Moves.seq ?_ (State.post_moves ..) (Foot.sub0 (by decide +kernel))
    exact h7

def Foot.hltEval : Foot := ⟨[(0x000054, 0x000054), (0x0F0010, 0x0F0010), (0x0F0040, 0x0F0040)], [], [.evq]⟩

theorem State.hltEval_moves (s : State) (isl : Nat) :
    Moves (Foot.hltEval.at [(983168 + 4 * (isl % 17), 983168 + 4 * (isl % 17))]) s (State.hltEval s isl) := by
  unfold State.hltEval
  refine Moves.ite (fun hc => ?_) (fun hc => ?_)
  · exact Moves.refl _
  · extract_lets -merge -underBinder +onlyGivenNames x1
    subst x1
    extract_lets -merge -underBinder +onlyGivenNames x2
    subst x2
    extract_lets -merge -underBinder +onlyGivenNames x3
    subst x3
    extract_lets -merge -underBinder +onlyGivenNames x4
    refine Moves.let_ x4 ?_ ?_
    · subst x4
      refine Moves.seq ?_ (State.put_moves _ _ _ (by first | (dsimp only [F.HLT_CTRL_ISL_REASON]; omega) | omega)) (Foot.sub1 (by decide +kernel) (Foot.holds_same (.head _)))
      exact Moves.refl _
    intro h4
    try clear_value x4
    extract_lets -merge -underBinder +onlyGivenNames x5
    subst x5
    extract_lets -merge -underBinder +onlyGivenNames x6
    subst x6
    extract_lets -merge -underBinder +onlyGivenNames x7
    refine Moves.let_ x7 ?_ ?_
    · subst x7
      refine Moves.seq ?_ (State.put_moves _ _ _ (by first | (dsimp only [F.HLT_CTRL_ISL_FLOOR]; omega) | omega)) (Foot.sub1 (by decide +kernel) (Foot.holds_same (.head _)))
      refine Moves.seq ?_ (State.put_moves _ _ _ (by first | (dsimp only [F.HLT_CTRL_ISL_LEVEL]; omega) | omega)) (Foot.sub1 (by decide +kernel) (Foot.holds_same (.head _)))
      exact h4
    intro h7
    try clear_value x7
    refine Moves.ite (fun hc => ?_) (fun hc => ?_)
    · refine Moves.seq ?_ (State.hltNode_moves ..) (Foot.sub0 (by decide +kernel))
      exact h7
    · extract_lets -merge -underBinder +onlyGivenNames x8
      refine Moves.let_ x8 ?_ ?_
      · subst x8
        refine Moves.seq ?_ (State.raise_moves ..) (Foot.sub1 (by decide +kernel) (Foot.holds_reg (by decide +kernel)))
        exact h7
      intro h8
      try clear_value x8
      extract_lets -merge -underBinder +onlyGivenNames x9
      refine Moves.let_ x9 ?_ ?_
      · subst x9
        refine Moves.seq ?_ (State.post_moves ..) (Foot.sub0 (by decide +kernel))
        exact h8
      intro h9
      try clear_value x9
      refine Moves.seq ?_ (State.hltNode_moves ..) (Foot.sub0 (by decide +kernel))
      exact h9

def Foot.hltReason : Foot := ⟨[(0x000054, 0x000054), (0x0F0010, 0x0F0010), (0x0F0040, 0x0F0040)], [], [.evq, .hlt]⟩

theorem State.hltReason_moves (s : State) (isl : Nat) (bit : Nat) (on : Bool) (strong : Bool) :
    Moves (Foot.hltReason.at [(983168 + 4 * (isl % 17), 983168 + 4 * (isl % 17))]) s (State.hltReason s isl bit on strong) := by
  unfold State.hltReason
  refine Moves.ite (fun hc => ?_) (fun hc => ?_)
  · exact Moves.refl _
  · extract_lets -merge -underBinder +onlyGivenNames x1
    subst x1
    extract_lets -merge -underBinder +onlyGivenNames x2
    subst x2
    extract_lets -merge -underBinder +onlyGivenNames x3
    subst x3
    extract_lets -merge -underBinder +onlyGivenNames x4
    refine Moves.let_ x4 ?_ ?_
    · subst x4
      refine Moves.seq ?_ (Moves.upd_hlt _ _) (Foot.sub0 (by decide +kernel))
      exact Moves.refl _
    intro h4
    try clear_value x4
    refine Moves.seq ?_ (State.hltEval_moves ..) (Foot.sub1 (by decide +kernel) (Foot.holds_same (.head _)))
    refine Moves.seq ?_ (State.put_moves _ _ _ (by first | (dsimp only [F.HLT_CTRL_ISL_REASON]; omega) | omega)) (Foot.sub1 (by decide +kernel) (Foot.holds_same (.head _)))
    exact h4

def Foot.mgtHold : Foot :=
  ⟨[(0x000054, 0x000054), (0x0D0010, 0x0D0010), (0x0D0040, 0x0D0040), (0x0F0010, 0x0F0010), (0x0F0040,
    0x0F0040), (0x0F00B4, 0x0F00B4)], [], [.evq, .hlt, .mgt]⟩

theorem State.mgtHold_moves (s : State) : Moves (Foot.mgtHold.at []) s (State.mgtHold s) := by
  unfold State.mgtHold
  extract_lets -merge -underBinder +onlyGivenNames x1
  refine Moves.let_ x1 ?_ ?_
  · subst x1
    refine Moves.seq ?_ (State.post_moves ..) (Foot.sub0 (by decide +kernel))
    refine Moves.seq ?_ (State.raise_moves ..) (Foot.sub1 (by decide +kernel) (Foot.holds_reg (by decide +kernel)))
    refine Moves.seq ?_ (State.putB_moves _ _ _ (by decide)) (Foot.sub1 (by decide +kernel) (Foot.holds_reg (by decide +kernel)))
    exact Moves.refl _
  intro h1
  try clear_value x1
  refine Moves.seq ?_ (State.hltReason_moves ..) (Foot.sub1 (by decide +kernel) (Foot.holds_reg (by decide +kernel)))
  refine Moves.seq ?_ (State.modMgt_moves ..) (Foot.sub0 (by decide +kernel))
  exact h1

def Foot.mgtReset : Foot :=
  ⟨[(0x000054, 0x000054), (0x0D0010, 0x0D0010), (0x0D0040, 0x0D0040), (0x0D0048, 0x0D0048), (0x0D1000,
    0x0D2FFF), (0x0F0010, 0x0F0010), (0x0F0040, 0x0F0040), (0x0F00B4, 0x0F00B4)], [], [.evq, .evtCut, .hlt, .mgt]⟩

theorem State.mgtReset_moves (s : State) (cause : Nat) : Moves (Foot.mgtReset.at []) s (State.mgtReset s cause) := by
  unfold State.mgtReset
  extract_lets -merge -underBinder +onlyGivenNames x1
  subst x1
  extract_lets -merge -underBinder +onlyGivenNames x2
  refine Moves.let_ x2 ?_ ?_
  · subst x2
    refine Moves.seq ?_ (State.mgtPages_moves ..) (Foot.sub0 (by decide +kernel))
    refine s.clearRegs_moves _ (fun q hq => ?_) (by decide)
    simp only [decide_eq_true_eq, P.MGT_MBOX, P.MGT_IMG] at hq
    exact Foot.Holds.touches (Foot.holds_range (F := Foot.mgtReset) 0x0D1000 0x0D2FFF (by decide +kernel) (Nat.le_refl _) (Nat.le_refl _)) (by omega) (by omega)
  intro h2
  try clear_value x2
  extract_lets -merge -underBinder +onlyGivenNames x3
  refine Moves.let_ x3 ?_ ?_
  · subst x3
    refine Moves.seq ?_ (State.modMgt_moves ..) (Foot.sub0 (by decide +kernel))
    exact h2
  intro h3
  try clear_value x3
  extract_lets -merge -underBinder +onlyGivenNames x4
  refine Moves.let_ x4 ?_ ?_
  · subst x4
    refine Moves.seq ?_ (State.putB_moves _ _ _ (by decide)) (Foot.sub1 (by decide +kernel) (Foot.holds_reg (by decide +kernel)))
    refine Moves.seq ?_ (State.putB_moves _ _ _ (by decide)) (Foot.sub1 (by decide +kernel) (Foot.holds_reg (by decide +kernel)))
    exact h3
  intro h4
  try clear_value x4
  extract_lets -merge -underBinder +onlyGivenNames x5
  refine Moves.let_ x5 ?_ ?_
  · subst x5
    refine Moves.seq ?_ (State.put_moves _ _ _ (by decide)) (Foot.sub1 (by decide +kernel) (Foot.holds_reg (by decide +kernel)))
    refine Moves.seq ?_ (State.satInc_moves _ _ (by decide)) (Foot.sub1 (by decide +kernel) (Foot.holds_reg (by decide +kernel)))
    refine Moves.seq ?_ (State.put_moves _ _ _ (by decide)) (Foot.sub1 (by decide +kernel) (Foot.holds_reg (by decide +kernel)))
    exact h4
  intro h5
  try clear_value x5
  extract_lets -merge -underBinder +onlyGivenNames x6
  refine Moves.let_ x6 ?_ ?_
  · subst x6
    refine Moves.seq ?_ (State.putB_moves _ _ _ (by decide)) (Foot.sub1 (by decide +kernel) (Foot.holds_reg (by decide +kernel)))
    exact h5
  intro h6
  try clear_value x6
  extract_lets -merge -underBinder +onlyGivenNames x7
  refine Moves.let_ x7 ?_ ?_
  · subst x7
    refine Moves.ite (fun hc => ?_) (fun hc => ?_)
    · refine Moves.seq ?_ (State.raise_moves ..) (Foot.sub1 (by decide +kernel) (Foot.holds_reg (by decide +kernel)))
      exact h6
    · refine Moves.ite (fun hc => ?_) (fun hc => ?_)
      · refine Moves.seq ?_ (State.raise_moves ..) (Foot.sub1 (by decide +kernel) (Foot.holds_reg (by decide +kernel)))
        exact h6
      · exact h6
  intro h7
  try clear_value x7
  extract_lets -merge -underBinder +onlyGivenNames x8
  refine Moves.let_ x8 ?_ ?_
  · subst x8
    refine Moves.seq ?_ (State.post_moves ..) (Foot.sub0 (by decide +kernel))
    exact h7
  intro h8
  try clear_value x8
  refine Moves.ite (fun hc => ?_) (fun hc => ?_)
  · refine Moves.seq ?_ (State.mgtHold_moves ..) (Foot.sub0 (by decide +kernel))
    exact h8
  · exact h8

def Foot.aonReset : Foot := ⟨[(0x000000, 0x000FFF), (0x003000, 0x005FFF)], [], [.evtCut, .lines, .wake, .din, .pwr]⟩

theorem State.aonReset_moves (s : State) : Moves (Foot.aonReset.at []) s (State.aonReset s) := by
  unfold State.aonReset
  extract_lets -merge -underBinder +onlyGivenNames x1
  refine Moves.let_ x1 ?_ ?_
  · subst x1
    refine s.clearRegs_moves _ (fun q hq => ?_) (by decide)
    simp only [decide_eq_true_eq] at hq
    by_cases h0 : q / 4096 = 0
    · exact Foot.Holds.touches (Foot.holds_range (F := Foot.aonReset) 0x000000 0x000FFF (by decide +kernel) (Nat.le_refl _) (Nat.le_refl _)) (by omega) (by omega)
    · exact Foot.Holds.touches (Foot.holds_range (F := Foot.aonReset) 0x003000 0x005FFF (by decide +kernel) (Nat.le_refl _) (Nat.le_refl _)) (by omega) (by omega)
  intro h1
  try clear_value x1
  refine Moves.seq ?_ (Moves.upd_lineA_lineB_wake_din_pwr _ _ _ _ _ _) (Foot.sub0 (by decide +kernel))
  exact h1

def Foot.setLine : Foot := ⟨[], [], [.lines]⟩

theorem State.setLine_moves (s : State) (l : Line) (x : LineState) : Moves (Foot.setLine.at []) s (State.setLine s l x) := by
  unfold State.setLine
  split
  · refine Moves.seq ?_ (Moves.upd_lineA _ _) (Foot.sub0 (by decide +kernel))
    exact Moves.refl _
  · refine Moves.seq ?_ (Moves.upd_lineB _ _) (Foot.sub0 (by decide +kernel))
    exact Moves.refl _

def Foot.runClosing : Foot :=
  ⟨[(0x005040, 0x005040), (0x011010, 0x011010), (0x011040, 0x011048), (0x012010, 0x012010), (0x012040,
    0x012048), (0x013058, 0x013058), (0x021010, 0x021010), (0x021040, 0x021048), (0x022010, 0x022010), (0x022040, 0x022048), (0x023058,
    0x023058), (0x100010, 0x100010), (0x100064, 0x100064)], [], [.evq, .lines, .ports, .beam]⟩

theorem State.runClosing_moves (s : State) (l : Line) (c : CloseCause) :
    Moves (Foot.runClosing.at [(65608 + 65536 * (l.idx % 2), 65608 + 65536 * (l.idx % 2))]) s (State.runClosing s l c) := by
  unfold State.runClosing
  extract_lets -merge -underBinder +onlyGivenNames x1
  subst x1
  extract_lets -merge -underBinder +onlyGivenNames x2
  refine Moves.let_ x2 ?_ ?_
  · subst x2
    refine Moves.seq ?_ (State.mutePorts_moves ..) (Foot.sub0 (by decide +kernel))
    refine Moves.seq ?_ (State.setLine_moves ..) (Foot.sub0 (by decide +kernel))
    exact Moves.refl _
  intro h2
  try clear_value x2
  extract_lets -merge -underBinder +onlyGivenNames x3
  refine Moves.let_ x3 ?_ ?_
  · subst x3
    refine Moves.ite (fun hc => ?_) (fun hc => ?_)
    · refine Moves.seq ?_ (State.putB_moves _ _ _ (by first | (dsimp only [F.BL_LINE_STAT_MOVING]; omega) | omega)) (Foot.sub1 (by decide +kernel) (Foot.holds_same (.head _)))
      exact h2
    · exact h2
  intro h3
  try clear_value x3
  refine Moves.seq ?_ (State.putB_moves _ _ _ (by show 20544 % 4096 ≠ 16; decide)) (Foot.sub1 (by decide +kernel) (Foot.holds_reg (lo := 20544) (hi := 20544) (by decide +kernel)))
  refine Moves.seq ?_ (State.putB_moves _ _ _ (by show 20544 % 4096 ≠ 16; decide)) (Foot.sub1 (by decide +kernel) (Foot.holds_reg (lo := 20544) (hi := 20544) (by decide +kernel)))
  exact h3

def Foot.closeForRestart : Foot :=
  ⟨[(0x005040, 0x005040), (0x011010, 0x011010), (0x011040, 0x011048), (0x012010, 0x012010),
    (0x012040, 0x012048), (0x013058, 0x013058), (0x021010, 0x021010), (0x021040, 0x021048), (0x022010, 0x022010), (0x022040, 0x022048),
    (0x023058, 0x023058), (0x100010, 0x100010), (0x100064, 0x100064)], [], [.evq, .lines, .ports, .beam]⟩

theorem State.closeForRestart_moves (s : State) (l : Line) :
    Moves (Foot.closeForRestart.at [(65608 + 65536 * (l.idx % 2), 65608 + 65536 * (l.idx % 2))]) s (State.closeForRestart s l) := by
  unfold State.closeForRestart
  split
  · refine Moves.ite (fun hc => ?_) (fun hc => ?_)
    · refine Moves.seq ?_ (State.runClosing_moves ..) (Foot.sub1 (by decide +kernel) (Foot.holds_same (.head _)))
      exact Moves.refl _
    · exact Moves.refl _
  · refine Moves.seq ?_ (State.setLine_moves ..) (Foot.sub0 (by decide +kernel))
    exact Moves.refl _
  · refine Moves.seq ?_ (State.setLine_moves ..) (Foot.sub0 (by decide +kernel))
    exact Moves.refl _

def Foot.lineCfgReset : Foot := ⟨[], [], []⟩

theorem State.lineCfgReset_moves (s : State) (l : Line) :
    Moves (Foot.lineCfgReset.at [(65600 + 65536 * (l.idx % 2), 65600 + 65536 * (l.idx % 2))]) s (State.lineCfgReset s l) := by
  unfold State.lineCfgReset
  refine Moves.ite (fun hc => ?_) (fun hc => ?_)
  · refine Moves.seq ?_ (State.put_moves _ _ _ (by first | (dsimp only [F.BL_LINE_CFG_EXP2]; omega) | omega)) (Foot.sub1 (by decide +kernel) (Foot.holds_same (.head _)))
    refine Moves.seq ?_ (State.put_moves _ _ _ (by first | (dsimp only [F.BL_LINE_CFG_EXP1]; omega) | omega)) (Foot.sub1 (by decide +kernel) (Foot.holds_same (.head _)))
    exact Moves.refl _
  · exact Moves.refl _

def Foot.restartLine : Foot :=
  ⟨[(0x005040, 0x005040), (0x011010, 0x011010), (0x011040, 0x011048), (0x012010, 0x012010), (0x012040,
    0x012048), (0x013058, 0x013058), (0x021010, 0x021010), (0x021040, 0x021048), (0x022010, 0x022010), (0x022040, 0x022048), (0x023058,
    0x023058), (0x100010, 0x100010), (0x100064, 0x100064)], [], [.evq, .evtCut, .lines, .ports, .beam]⟩

theorem State.restartLine_moves (s : State) (l : Line) :
    Moves (Foot.restartLine.at [(65608 + 65536 * (l.idx % 2), 65608 + 65536 * (l.idx % 2)),
      (65600 + 65536 * (l.idx % 2), 65600 + 65536 * (l.idx % 2)),
      (65536 + 65536 * (l.idx % 2), 65536 + 65536 * (l.idx % 2) + 4095)]) s (State.restartLine s l) := by
  unfold State.restartLine
  extract_lets -merge -underBinder +onlyGivenNames x1
  subst x1
  extract_lets -merge -underBinder +onlyGivenNames x2
  subst x2
  extract_lets -merge -underBinder +onlyGivenNames x3
  refine Moves.let_ x3 ?_ ?_
  · subst x3
    refine Moves.seq ?_ (State.closeForRestart_moves ..) (Foot.sub1 (by decide +kernel) (Foot.holds_same (.head _)))
    exact Moves.refl _
  intro h3
  try clear_value x3
  extract_lets -merge -underBinder +onlyGivenNames x4
  subst x4
  extract_lets -merge -underBinder +onlyGivenNames x5
  refine Moves.let_ x5 ?_ ?_
  · subst x5
    refine Moves.seq ?_ (State.setLine_moves ..) (Foot.sub0 (by decide +kernel))
    exact h3
  intro h5
  try clear_value x5
  extract_lets -merge -underBinder +onlyGivenNames x6
  refine Moves.let_ x6 ?_ ?_
  · subst x6
    refine Moves.seq ?_ (State.lineCfgReset_moves ..) (Foot.sub1 (by decide +kernel) (Foot.holds_same (.tail _ (.head _))))
    refine Moves.seq h5 (State.clearRegs_moves _ _ (F := Foot.restartLine.at [(65608 + 65536 * (l.idx % 2), 65608 + 65536 * (l.idx % 2)), (65600 + 65536 * (l.idx % 2), 65600 + 65536 * (l.idx % 2)), (65536 + 65536 * (l.idx % 2), 65536 + 65536 * (l.idx % 2) + 4095)]) (fun q hq => ?_) rfl) Foot.sub_self
    have hq := of_decide_eq_true hq
    exact Foot.Holds.touches (Foot.holds_same (.tail _ (.tail _ (.head _)))) (by simp only [P.LINE, P.PORT] at hq; omega) (by simp only [P.LINE, P.PORT] at hq; omega)
  intro h6
  try clear_value x6
  extract_lets -merge -underBinder +onlyGivenNames x7
  refine Moves.let_ x7 ?_ ?_
  · subst x7
    refine Moves.seq ?_ (State.putB_moves _ _ _ (by first | (dsimp only [F.BL_LINE_STAT_KA_TOP]; omega) | omega)) (Foot.sub1 (by decide +kernel) (Foot.holds_same (.head _)))
    refine Moves.seq ?_ (State.putB_moves _ _ _ (by first | (dsimp only [F.BL_LINE_STAT_KA_FAB]; omega) | omega)) (Foot.sub1 (by decide +kernel) (Foot.holds_same (.head _)))
    exact h6
  intro h7
  try clear_value x7
  refine Moves.ite (fun hc => ?_) (fun hc => ?_)
  · exact h7
  · refine Moves.seq ?_ (State.putB_moves _ _ _ (by first | (dsimp only [F.BL_LINE_STAT_MOVING]; omega) | omega)) (Foot.sub1 (by decide +kernel) (Foot.holds_same (.head _)))
    refine Moves.seq ?_ (State.put_moves _ _ _ (by first | (dsimp only [F.BL_LINE_STAT_STATE]; omega) | omega)) (Foot.sub1 (by decide +kernel) (Foot.holds_same (.head _)))
    exact h7

def Foot.send : Foot := ⟨[], [], [.out]⟩

theorem State.send_moves (s : State) (p : BPort) (f : NFrame) : Moves (Foot.send.at []) s (State.send s p f) := by
  unfold State.send
  refine Moves.ite (fun hc => ?_) (fun hc => ?_)
  · refine Moves.seq ?_ (State.emit_moves ..) (Foot.sub0 (by decide +kernel))
    exact Moves.refl _
  · exact Moves.refl _

def Foot.sendAll : Foot := ⟨[], [], [.out]⟩

theorem State.sendAll_moves (s : State) (ps : List BPort) (f : NFrame) : Moves (Foot.sendAll.at []) s (State.sendAll s ps f) := by
  unfold State.sendAll
  refine Moves.foldl _ (fun x1 _ h1 => ?_) _ ?_
  · refine Moves.seq ?_ (State.send_moves ..) (Foot.sub0 (by decide +kernel))
    exact h1
  · exact Moves.refl _

def Foot.toCtl : Foot := ⟨[], [], [.beam]⟩

theorem State.toCtl_moves (s : State) (x : BPort) (f : NFrame) : Moves (Foot.toCtl.at []) s (State.toCtl s x f) := by
  unfold State.toCtl
  extract_lets -merge -underBinder +onlyGivenNames x1
  subst x1
  refine Moves.seq ?_ (Moves.upd_beam _ _) (Foot.sub0 (by decide +kernel))
  exact Moves.refl _

def Foot.toSubslot : Foot := ⟨[], [], [.beam]⟩

theorem State.toSubslot_moves (s : State) (f : NFrame) : Moves (Foot.toSubslot.at []) s (State.toSubslot s f) := by
  unfold State.toSubslot
  refine Moves.foldl _ (fun x1 _ h1 => ?_) _ ?_
  · refine Moves.seq ?_ (State.toCtl_moves ..) (Foot.sub0 (by decide +kernel))
    exact h1
  · exact Moves.refl _

def Foot.sendRequest : Foot := ⟨[], [], [.out, .top, .beam]⟩

theorem State.sendRequest_moves (s : State) (cause : Nat) : Moves (Foot.sendRequest.at []) s (State.sendRequest s cause) := by
  unfold State.sendRequest
  extract_lets -merge -underBinder +onlyGivenNames x1
  subst x1
  extract_lets -merge -underBinder +onlyGivenNames x2
  refine Moves.let_ x2 ?_ ?_
  · subst x2
    refine Moves.seq ?_ (State.sendAll_moves ..) (Foot.sub0 (by decide +kernel))
    exact Moves.refl _
  intro h2
  try clear_value x2
  refine Moves.seq ?_ (State.toSubslot_moves ..) (Foot.sub0 (by decide +kernel))
  refine Moves.seq ?_ (Moves.upd_top _ _) (Foot.sub0 (by decide +kernel))
  exact h2

def Foot.startWave : Foot := ⟨[], [], [.out, .top]⟩

theorem State.startWave_moves (s : State) (p : BPort) : Moves (Foot.startWave.at []) s (State.startWave s p) := by
  unfold State.startWave
  refine Moves.ite (fun hc => ?_) (fun hc => ?_)
  · extract_lets -merge -underBinder +onlyGivenNames x1
    subst x1
    extract_lets -merge -underBinder +onlyGivenNames x2
    refine Moves.let_ x2 ?_ ?_
    · subst x2
      refine Moves.seq ?_ (State.send_moves ..) (Foot.sub0 (by decide +kernel))
      exact Moves.refl _
    intro h2
    try clear_value x2
    refine Moves.seq ?_ (Moves.upd_top _ _) (Foot.sub0 (by decide +kernel))
    exact h2
  · exact Moves.refl _

def Foot.joinAttempt : Foot := ⟨[(0x100044, 0x100044), (0x10006C, 0x10006C)], [], [.out, .top]⟩

theorem State.joinAttempt_moves (s : State) (e : Nat) (trig : Nat) (port : Option BPort) :
    Moves (Foot.joinAttempt.at []) s (State.joinAttempt s e trig port) := by
  unfold State.joinAttempt
  extract_lets -merge -underBinder +onlyGivenNames x1
  subst x1
  extract_lets -merge -underBinder +onlyGivenNames x2
  refine Moves.let_ x2 ?_ ?_
  · subst x2
    refine Moves.seq ?_ (Moves.upd_top _ _) (Foot.sub0 (by decide +kernel))
    exact Moves.refl _
  intro h2
  try clear_value x2
  extract_lets -merge -underBinder +onlyGivenNames x3
  refine Moves.let_ x3 ?_ ?_
  · subst x3
    refine Moves.seq ?_ (State.put_moves _ _ _ (by decide)) (Foot.sub1 (by decide +kernel) (Foot.holds_reg (by decide +kernel)))
    refine Moves.seq ?_ (State.put_moves _ _ _ (by decide)) (Foot.sub1 (by decide +kernel) (Foot.holds_reg (by decide +kernel)))
    exact h2
  intro h3
  try clear_value x3
  extract_lets -merge -underBinder +onlyGivenNames x4
  refine Moves.let_ x4 ?_ ?_
  · subst x4
    refine Moves.seq ?_ (State.put_moves _ _ _ (by decide)) (Foot.sub1 (by decide +kernel) (Foot.holds_reg (by decide +kernel)))
    refine Moves.seq ?_ (State.put_moves _ _ _ (by decide)) (Foot.sub1 (by decide +kernel) (Foot.holds_reg (by decide +kernel)))
    exact h3
  intro h4
  try clear_value x4
  extract_lets -merge -underBinder +onlyGivenNames x5
  refine Moves.let_ x5 ?_ ?_
  · subst x5
    refine Moves.seq ?_ (State.sendAll_moves ..) (Foot.sub0 (by decide +kernel))
    exact h4
  intro h5
  try clear_value x5
  refine Moves.foldl _ (fun x6 _ h6 => ?_) _ ?_
  · refine Moves.ite (fun hc => ?_) (fun hc => ?_)
    · refine Moves.seq ?_ (State.startWave_moves ..) (Foot.sub0 (by decide +kernel))
      exact h6
    · exact h6
  · exact h5

def Foot.dropTables : Foot := ⟨[], [], [.mem]⟩

theorem State.dropTables_moves (s : State) : Moves (Foot.dropTables.at []) s (State.dropTables s) := by
  unfold State.dropTables
  refine Moves.seq ?_ (State.clearMem_moves ..) (Foot.sub0 (by decide +kernel))
  exact Moves.refl _

def Foot.mapWays : Foot := ⟨[], [], [.fab]⟩

theorem State.mapWays_moves (s : State) (f : Way → Way) : Moves (Foot.mapWays.at []) s (State.mapWays s f) := by
  unfold State.mapWays
  refine Moves.seq ?_ (Moves.upd_fab _ _) (Foot.sub0 (by decide +kernel))
  exact Moves.refl _

def Foot.setStat : Foot := ⟨[], [], [.mem]⟩

theorem State.setStat_moves (s : State) (i : Nat) (b : Nat) (v : Bool) : Moves (Foot.setStat.at []) s (State.setStat s i b v) := by
  unfold State.setStat
  extract_lets -merge -underBinder +onlyGivenNames x1
  subst x1
  extract_lets -merge -underBinder +onlyGivenNames x2
  subst x2
  refine Moves.seq ?_ (State.wrNum_moves ..) (Foot.sub0 (by decide +kernel))
  exact Moves.refl _

def Foot.dropShadow : Foot := ⟨[], [], [.mem, .fab]⟩

theorem State.dropShadow_moves (s : State) : Moves (Foot.dropShadow.at []) s (State.dropShadow s) := by
  unfold State.dropShadow
  extract_lets -merge -underBinder +onlyGivenNames x1
  refine Moves.let_ x1 ?_ ?_
  · subst x1
    refine Moves.seq ?_ (State.mapWays_moves ..) (Foot.sub0 (by decide +kernel))
    exact Moves.refl _
  intro h1
  try clear_value x1
  refine Moves.foldl _ (fun x2 _ h2 => ?_) _ ?_
  · refine Moves.seq ?_ (State.setStat_moves ..) (Foot.sub0 (by decide +kernel))
    refine Moves.seq ?_ (State.wrNum_moves ..) (Foot.sub0 (by decide +kernel))
    exact h2
  · exact h1

def Foot.endAttempt : Foot := ⟨[(0x100044, 0x100044), (0x100064, 0x100064)], [], [.mem, .top, .beam, .fab]⟩

theorem State.endAttempt_moves (s : State) : Moves (Foot.endAttempt.at []) s (State.endAttempt s) := by
  unfold State.endAttempt
  extract_lets -merge -underBinder +onlyGivenNames x1
  refine Moves.let_ x1 ?_ ?_
  · subst x1
    refine Moves.seq ?_ (State.dropTables_moves ..) (Foot.sub0 (by decide +kernel))
    exact Moves.refl _
  intro h1
  try clear_value x1
  extract_lets -merge -underBinder +onlyGivenNames x2
  refine Moves.let_ x2 ?_ ?_
  · subst x2
    refine Moves.ite (fun hc => ?_) (fun hc => ?_)
    · refine Moves.seq ?_ (State.dropShadow_moves ..) (Foot.sub0 (by decide +kernel))
      exact h1
    · exact h1
  intro h2
  try clear_value x2
  extract_lets -merge -underBinder +onlyGivenNames x3
  refine Moves.let_ x3 ?_ ?_
  · subst x3
    refine Moves.seq ?_ (State.wr_moves _ _ (by decide)) (Foot.sub1 (by decide +kernel) (Foot.holds_reg (by decide +kernel)))
    exact h2
  intro h3
  try clear_value x3
  extract_lets -merge -underBinder +onlyGivenNames x4
  refine Moves.let_ x4 ?_ ?_
  · subst x4
    refine Moves.seq ?_ (State.wr_moves _ _ (by decide)) (Foot.sub1 (by decide +kernel) (Foot.holds_reg (by decide +kernel)))
    exact h3
  intro h4
  try clear_value x4
  refine Moves.seq ?_ (Moves.upd_top_beam _ _ _) (Foot.sub0 (by decide +kernel))
  exact h4

def Foot.setView : Foot := ⟨[], [], [.top]⟩

theorem State.setView_moves (s : State) (p : BPort) (v : SideView) : Moves (Foot.setView.at []) s (State.setView s p v) := by
  unfold State.setView
  refine Moves.seq ?_ (Moves.upd_top _ _) (Foot.sub0 (by decide +kernel))
  exact Moves.refl _

def Foot.sideChange : Foot := ⟨[], [], [.out, .top]⟩

theorem State.sideChange_moves (s : State) (p : BPort) : Moves (Foot.sideChange.at []) s (State.sideChange s p) := by
  unfold State.sideChange
  extract_lets -merge -underBinder +onlyGivenNames x1
  refine Moves.let_ x1 ?_ ?_
  · subst x1
    refine Moves.seq ?_ (State.setView_moves ..) (Foot.sub0 (by decide +kernel))
    exact Moves.refl _
  intro h1
  try clear_value x1
  refine Moves.ite (fun hc => ?_) (fun hc => ?_)
  · extract_lets -merge -underBinder +onlyGivenNames x2
    refine Moves.let_ x2 ?_ ?_
    · subst x2
      refine Moves.seq ?_ (State.send_moves ..) (Foot.sub0 (by decide +kernel))
      exact h1
    intro h2
    try clear_value x2
    refine Moves.ite (fun hc => ?_) (fun hc => ?_)
    · exact h2
    · refine Moves.seq ?_ (State.startWave_moves ..) (Foot.sub0 (by decide +kernel))
      exact h2
  · refine Moves.ite (fun hc => ?_) (fun hc => ?_)
    · refine Moves.seq ?_ (State.startWave_moves ..) (Foot.sub0 (by decide +kernel))
      exact h1
    · exact h1

def Foot.trigger : Foot := ⟨[(0x100010, 0x100010), (0x100044, 0x100044), (0x100064, 0x10006C)], [], [.mem, .out, .evq, .top, .beam, .fab]⟩

theorem State.trigger_moves (s : State) (cause : Nat) (port : Option BPort) :
    Moves (Foot.trigger.at []) s (State.trigger s cause port) := by
  unfold State.trigger
  refine Moves.ite (fun hc => ?_) (fun hc => ?_)
  · exact Moves.refl _
  · refine Moves.ite (fun hc => ?_) (fun hc => ?_)
    · refine Moves.seq ?_ (State.sendRequest_moves ..) (Foot.sub0 (by decide +kernel))
      refine Moves.seq ?_ (State.joinAttempt_moves ..) (Foot.sub0 (by decide +kernel))
      exact Moves.refl _
    · refine Moves.ite (fun hc => ?_) (fun hc => ?_)
      · refine Moves.ite (fun hc => ?_) (fun hc => ?_)
        · refine Moves.seq ?_ (Moves.upd_top _ _) (Foot.sub0 (by decide +kernel))
          exact Moves.refl _
        · exact Moves.refl _
      · refine Moves.ite (fun hc => ?_) (fun hc => ?_)
        · extract_lets -merge -underBinder +onlyGivenNames x1
          subst x1
          extract_lets -merge -underBinder +onlyGivenNames x2
          refine Moves.let_ x2 ?_ ?_
          · subst x2
            refine Moves.seq ?_ (State.post_moves ..) (Foot.sub0 (by decide +kernel))
            refine Moves.seq ?_ (State.raise_moves ..) (Foot.sub1 (by decide +kernel) (Foot.holds_reg (by decide +kernel)))
            refine Moves.seq ?_ (State.satInc_moves _ _ (by decide)) (Foot.sub1 (by decide +kernel) (Foot.holds_reg (by decide +kernel)))
            exact Moves.refl _
          intro h2
          try clear_value x2
          refine Moves.seq ?_ (State.sendRequest_moves ..) (Foot.sub0 (by decide +kernel))
          refine Moves.seq ?_ (State.joinAttempt_moves ..) (Foot.sub0 (by decide +kernel))
          refine Moves.seq ?_ (State.endAttempt_moves ..) (Foot.sub0 (by decide +kernel))
          exact h2
        · split
          · refine Moves.seq ?_ (State.sideChange_moves ..) (Foot.sub0 (by decide +kernel))
            exact Moves.refl _
          · exact Moves.refl _

def Foot.restartPort : Foot :=
  ⟨[(0x100010, 0x100010), (0x100044, 0x100044), (0x100064, 0x10006C)], [], [.mem, .out, .evq, .evtCut,
    .ports, .top, .beam, .fab]⟩

theorem State.restartPort_moves (s : State) (p : BPort) :
    Moves (Foot.restartPort.at [(69704 + 65536 * (p.line.idx % 2) + 4096 * (p.side % 2), 69704 + 65536 * (p.line.idx % 2) + 4096 *
      (p.side % 2)),
      (69700 + 65536 * (p.line.idx % 2) + 4096 * (p.side % 2), 69700 + 65536 * (p.line.idx % 2) + 4096 * (p.side % 2)),
      (69696 + 65536 * (p.line.idx % 2) + 4096 * (p.side % 2), 69696 + 65536 * (p.line.idx % 2) + 4096 * (p.side % 2)),
      (77912 + 65536 * (p.line.idx % 2), 77912 + 65536 * (p.line.idx % 2)),
      (4096 * ((69632 + 65536 * (p.line.idx % 2) + 4096 * (p.side % 2)) / 4096) + 16, 4096 * ((69632 + 65536 * (p.line.idx % 2) + 4096
      * (p.side % 2)) / 4096) + 16),
      (69632 + 65536 * (p.line.idx % 2) + 4096 * (p.side % 2), 69632 + 65536 * (p.line.idx % 2) + 4096 * (p.side % 2) + 4095)]) s
      (State.restartPort s p) := by
  unfold State.restartPort
  extract_lets -merge -underBinder +onlyGivenNames x1
  subst x1
  extract_lets -merge -underBinder +onlyGivenNames x2
  refine Moves.let_ x2 ?_ ?_
  · subst x2
    refine Moves.seq (Moves.refl _) (State.clearRegs_moves _ _ (F := Foot.restartPort.at [(69704 + 65536 * (p.line.idx % 2) + 4096 * (p.side % 2), 69704 + 65536 * (p.line.idx % 2) + 4096 * (p.side % 2)), (69700 + 65536 * (p.line.idx % 2) + 4096 * (p.side % 2), 69700 + 65536 * (p.line.idx % 2) + 4096 * (p.side % 2)), (69696 + 65536 * (p.line.idx % 2) + 4096 * (p.side % 2), 69696 + 65536 * (p.line.idx % 2) + 4096 * (p.side % 2)), (77912 + 65536 * (p.line.idx % 2), 77912 + 65536 * (p.line.idx % 2)), (4096 * ((69632 + 65536 * (p.line.idx % 2) + 4096 * (p.side % 2)) / 4096) + 16, 4096 * ((69632 + 65536 * (p.line.idx % 2) + 4096 * (p.side % 2)) / 4096) + 16), (69632 + 65536 * (p.line.idx % 2) + 4096 * (p.side % 2), 69632 + 65536 * (p.line.idx % 2) + 4096 * (p.side % 2) + 4095)]) (fun q hq => ?_) rfl) Foot.sub_self
    have hq := of_decide_eq_true hq
    exact Foot.Holds.touches (Foot.holds_same (.tail _ (.tail _ (.tail _ (.tail _ (.tail _ (.head _))))))) (by simp only [P.LINE, P.PORT] at hq; omega) (by simp only [P.LINE, P.PORT] at hq; omega)
  intro h2
  try clear_value x2
  extract_lets -merge -underBinder +onlyGivenNames x3
  subst x3
  extract_lets -merge -underBinder +onlyGivenNames x4
  refine Moves.let_ x4 ?_ ?_
  · subst x4
    refine Moves.seq ?_ (State.setPort_moves ..) (Foot.sub0 (by decide +kernel))
    exact h2
  intro h4
  try clear_value x4
  refine Moves.ite (fun hc => ?_) (fun hc => ?_)
  · extract_lets -merge -underBinder +onlyGivenNames x5
    refine Moves.let_ x5 ?_ ?_
    · subst x5
      refine Moves.seq ?_ (State.dropLink_moves ..) (Foot.sub_at (by decide +kernel) (Foot.own_cons (Foot.holds_same (.head _)) (Foot.own_cons (Foot.holds_same (.tail _ (.head _))) (Foot.own_cons (Foot.holds_same (.tail _ (.tail _ (.head _)))) (Foot.own_cons (Foot.holds_same (.tail _ (.tail _ (.tail _ (.head _))))) Foot.own_nil)))))
      exact h4
    intro h5
    try clear_value x5
    refine Moves.ite (fun hc => ?_) (fun hc => ?_)
    · refine Moves.seq ?_ (State.trigger_moves ..) (Foot.sub0 (by decide +kernel))
      refine Moves.seq ?_ (State.flap_moves ..) (Foot.sub_at (by decide +kernel) (Foot.own_cons (Foot.holds_same (.tail _ (.tail _ (.tail _ (.tail _ (.head _)))))) (Foot.own_cons (Foot.holds_same (.tail _ (.tail _ (.head _)))) (Foot.own_cons (Foot.holds_same (.head _)) (Foot.own_cons (Foot.holds_same (.tail _ (.head _))) (Foot.own_cons (Foot.holds_same (.tail _ (.tail _ (.tail _ (.head _))))) Foot.own_nil))))))
      refine Moves.seq ?_ (State.countChange_moves ..) (Foot.sub_at (by decide +kernel) (Foot.own_cons (Foot.holds_same (.tail _ (.tail _ (.tail _ (.tail _ (.head _)))))) (Foot.own_cons (Foot.holds_same (.tail _ (.tail _ (.head _)))) Foot.own_nil)))
      exact h5
    · exact h5
  · refine Moves.seq ?_ (State.setPort_moves ..) (Foot.sub0 (by decide +kernel))
    exact h4

def Foot.lastErr : Foot := ⟨[(0x0B0048, 0x0B0048)], [], []⟩

theorem State.lastErr_moves (s : State) (kind : Nat) (bar : Nat) (offs : Nat) :
    Moves (Foot.lastErr.at []) s (State.lastErr s kind bar offs) := by
  unfold State.lastErr
  refine Moves.seq ?_ (State.wr_moves _ _ (by decide)) (Foot.sub1 (by decide +kernel) (Foot.holds_reg (by decide +kernel)))
  exact Moves.refl _

def Foot.relock : Foot := ⟨[], [], []⟩

theorem State.relock_moves (s : State) (pg : Nat) :
    Moves (Foot.relock.at [(4096 * (pg / 4096) + 36, 4096 * (pg / 4096) + 36)]) s (State.relock s pg) := by
  unfold State.relock
  refine Moves.seq ?_ (State.wr_moves _ _ (by first | (dsimp only [R.PG_LOCK]; omega) | omega)) (Foot.sub1 (by decide +kernel) (Foot.holds_same (.head _)))
  exact Moves.refl _

def Foot.countAccess : Foot := ⟨[], [], []⟩

theorem State.countAccess_moves (s : State) (q : Requester) (pg : Nat) :
    Moves (Foot.countAccess.at [(4096 * (pg / 4096) + 36, 4096 * (pg / 4096) + 36)]) s (State.countAccess s q pg) := by
  unfold State.countAccess
  refine Moves.ite (fun hc => ?_) (fun hc => ?_)
  · refine Moves.ite (fun hc => ?_) (fun hc => ?_)
    · refine Moves.seq ?_ (State.relock_moves ..) (Foot.sub1 (by decide +kernel) (Foot.holds_same (.head _)))
      exact Moves.refl _
    · refine Moves.seq ?_ (State.put_moves _ _ _ (by first | (dsimp only [F.PG_LOCK_REMAIN]; omega) | omega)) (Foot.sub1 (by decide +kernel) (Foot.holds_same (.head _)))
      exact Moves.refl _
  · exact Moves.refl _

def Foot.accessError : Foot := ⟨[(0x0B0010, 0x0B0010), (0x0B0048, 0x0B0048)], [], [.out, .evq]⟩

theorem State.accessError_moves (s : State) (q : Requester) (off : Nat) (width : Nat) (write : Bool) :
    Moves (Foot.accessError.at [(4096 * (pageOf off / 4096) + 16, 4096 * (pageOf off / 4096) + 16),
      (4096 * (pageOf off / 4096) + 36, 4096 * (pageOf off / 4096) + 36)]) s (State.accessError s q off width write) := by
  unfold State.accessError
  refine Moves.ite (fun hc => ?_) (fun hc => ?_)
  · exact Moves.refl _
  · extract_lets -merge -underBinder +onlyGivenNames x1
    subst x1
    extract_lets -merge -underBinder +onlyGivenNames x2
    refine Moves.let_ x2 ?_ ?_
    · subst x2
      refine Moves.ite (fun hc => ?_) (fun hc => ?_)
      · refine Moves.seq ?_ (State.raise_moves ..) (Foot.sub1 (by decide +kernel) (by (try dsimp only [pageOf, P.HBR_CTRL]); split <;> (try dsimp only) <;> first | exact (Foot.holds_same (.head _)) | exact (Foot.holds_reg (lo := 720912) (hi := 720912) (by decide +kernel))))
        exact Moves.refl _
      · exact Moves.refl _
    intro h2
    try clear_value x2
    extract_lets -merge -underBinder +onlyGivenNames x3
    refine Moves.let_ x3 ?_ ?_
    · subst x3
      refine Moves.ite (fun hc => ?_) (fun hc => ?_)
      · refine Moves.seq ?_ (State.lastErr_moves ..) (Foot.sub0 (by decide +kernel))
        exact h2
      · exact h2
    intro h3
    try clear_value x3
    extract_lets -merge -underBinder +onlyGivenNames x4
    refine Moves.let_ x4 ?_ ?_
    · subst x4
      refine Moves.seq ?_ (State.post_moves ..) (Foot.sub0 (by decide +kernel))
      exact h3
    intro h4
    try clear_value x4
    extract_lets -merge -underBinder +onlyGivenNames x5
    refine Moves.let_ x5 ?_ ?_
    · subst x5
      refine Moves.ite (fun hc => ?_) (fun hc => ?_)
      · refine Moves.seq ?_ (State.countAccess_moves ..) (Foot.sub1 (by decide +kernel) (Foot.holds_same (.tail _ (.head _))))
        exact h4
      · exact h4
    intro h5
    try clear_value x5
    refine Moves.ite (fun hc => ?_) (fun hc => ?_)
    · exact h5
    · refine Moves.seq ?_ (State.emit_moves ..) (Foot.sub0 (by decide +kernel))
      exact h5

def Foot.lockViol : Foot := ⟨[], [], [.evq]⟩

theorem State.lockViol_moves (s : State) (q : Requester) (off : Nat) :
    Moves (Foot.lockViol.at [(4096 * (pageOf off / 4096) + 16, 4096 * (pageOf off / 4096) + 16)]) s (State.lockViol s q off) := by
  unfold State.lockViol
  refine Moves.seq ?_ (State.post_moves ..) (Foot.sub0 (by decide +kernel))
  refine Moves.seq ?_ (State.raise_moves ..) (Foot.sub1 (by decide +kernel) (Foot.holds_same (.head _)))
  exact Moves.refl _

def Foot.locked : Foot := ⟨[], [], [.evq]⟩

theorem State.locked_moves {F : Foot} {r s : State} {q : Requester} {off : Nat} {f : State → State}
    (h :
    Moves F r s) (hF : Foot.Sub (Foot.locked.at [(4096 * (pageOf off / 4096) + 16, 4096 * (pageOf off / 4096) + 16)]) F) (f_ok : ∀ x ,
      Moves F r x → Moves F r (f x)) : Moves F r (State.locked s q off f) := by
  unfold State.locked
  refine Moves.ite (fun hc => ?_) (fun hc => ?_)
  · refine f_ok _  ?_
    exact h
  · refine Moves.seq ?_ (State.lockViol_moves ..) ((Foot.sub1 (by decide +kernel) (Foot.holds_same (.head _))).trans hF)
    exact h

end Sys2Proof.Machine
end

