-- ==== Sys2Proof/Laws/Foot02.lean ====
section
/-!
SUPPORT. What the operations may touch: one footprint and one lemma each.
-/

namespace Sys2Proof.Machine

set_option Elab.async false

def Foot.modPsc : Foot := ⟨[], [], [.psc]⟩

theorem State.modPsc_moves (s : State) (f : PscState → PscState) : Moves (Foot.modPsc.at []) s (State.modPsc s f) := by
  unfold State.modPsc
  refine Moves.seq ?_ (Moves.upd_psc _ _) (Foot.sub0 (by decide +kernel))
  exact Moves.refl _

def Foot.aclWrite : Foot := ⟨[], [], [.evq, .psc]⟩

theorem State.aclWrite_moves (s : State) (q : Requester) (n : Nat) (v : Word) :
    Moves (Foot.aclWrite.at [(4096 * (pageOf (786692 + 8 * (n % 32)) / 4096) + 16, 4096 * (pageOf (786692 + 8 * (n % 32)) / 4096) +
      16), (786692 + 8 * (n % 32), 786692 + 8 * (n % 32))]) s (State.aclWrite s q n v) := by
  unfold State.aclWrite
  refine State.locked_moves ?_ (Foot.sub1 (by decide +kernel) (Foot.holds_same (.head _))) (fun x1 h1 => ?_)
  · exact Moves.refl _
  · extract_lets -merge -underBinder +onlyGivenNames x2
    refine Moves.let_ x2 ?_ ?_
    · subst x2
      refine Moves.seq ?_ (State.wr_moves _ _ (by first | (dsimp only [R.PSC_CTRL_ACL_W1]; omega) | omega)) (Foot.sub1 (by decide +kernel) (Foot.holds_same (.tail _ (.head _))))
      exact h1
    intro h2
    try clear_value x2
    refine Moves.seq ?_ (State.modPsc_moves ..) (Foot.sub0 (by decide +kernel))
    exact h2

def Foot.postFlags : Foot := ⟨[], [], [.evq]⟩

theorem State.postFlags_moves (s : State) : Moves (Foot.postFlags.at []) s (State.postFlags s) := by
  unfold State.postFlags
  refine Moves.seq ?_ (State.post_moves ..) (Foot.sub0 (by decide +kernel))
  exact Moves.refl _

def Foot.flag : Foot := ⟨[], [], [.top]⟩

theorem State.flag_moves (s : State) (b : Nat) : Moves (Foot.flag.at []) s (State.flag s b) := by
  unfold State.flag
  refine Moves.seq ?_ (Moves.upd_top _ _) (Foot.sub0 (by decide +kernel))
  exact Moves.refl _

def Foot.attemptDur : Foot := ⟨[(0x10006C, 0x10006C)], [], []⟩

theorem State.attemptDur_moves (s : State) : Moves (Foot.attemptDur.at []) s (State.attemptDur s) := by
  unfold State.attemptDur
  refine Moves.seq ?_ (State.put_moves _ _ _ (by decide)) (Foot.sub1 (by decide +kernel) (Foot.holds_reg (by decide +kernel)))
  exact Moves.refl _

def Foot.splitRecord : Foot := ⟨[(0x100010, 0x100010), (0x100074, 0x100078)], [], [.evq]⟩

theorem State.splitRecord_moves (s : State) (l : Line) : Moves (Foot.splitRecord.at []) s (State.splitRecord s l) := by
  unfold State.splitRecord
  extract_lets -merge -underBinder +onlyGivenNames x1
  subst x1
  extract_lets -merge -underBinder +onlyGivenNames x2
  subst x2
  extract_lets -merge -underBinder +onlyGivenNames x3
  subst x3
  extract_lets -merge -underBinder +onlyGivenNames x4
  subst x4
  extract_lets -merge -underBinder +onlyGivenNames x5
  subst x5
  extract_lets -merge -underBinder +onlyGivenNames x6
  subst x6
  extract_lets -merge -underBinder +onlyGivenNames x7
  subst x7
  extract_lets -merge -underBinder +onlyGivenNames x8
  refine Moves.let_ x8 ?_ ?_
  · subst x8
    refine Moves.seq ?_ (State.wr_moves _ _ (by (try dsimp only [R.TOP_SPLIT_A, R.TOP_SPLIT_B]); split <;> (try dsimp only) <;> first | decide | omega)) (Foot.sub1 (by decide +kernel) (by (try dsimp only [R.TOP_SPLIT_A, R.TOP_SPLIT_B]); split <;> (try dsimp only) <;> first | exact (Foot.holds_reg (lo := 1048692) (hi := 1048692) (by decide +kernel)) | exact (Foot.holds_reg (lo := 1048696) (hi := 1048696) (by decide +kernel))))
    exact Moves.refl _
  intro h8
  try clear_value x8
  refine Moves.ite (fun hc => ?_) (fun hc => ?_)
  · exact h8
  · refine Moves.seq ?_ (State.post_moves ..) (Foot.sub0 (by decide +kernel))
    refine Moves.seq ?_ (State.raise_moves ..) (Foot.sub1 (by decide +kernel) (Foot.holds_reg (by decide +kernel)))
    exact h8

def Foot.endNull : Foot :=
  ⟨[(0x100010, 0x100010), (0x100044, 0x100044), (0x100064, 0x10006C), (0x100074, 0x100078)], [], [.mem,
    .evq, .top, .beam, .fab]⟩

theorem State.endNull_moves (s : State) : Moves (Foot.endNull.at []) s (State.endNull s) := by
  unfold State.endNull
  extract_lets -merge -underBinder +onlyGivenNames x1
  subst x1
  extract_lets -merge -underBinder +onlyGivenNames x2
  refine Moves.let_ x2 ?_ ?_
  · subst x2
    refine Moves.foldl _ (fun x3 _ h3 => ?_) _ ?_
    · refine Moves.seq ?_ (State.wrByte_moves ..) (Foot.sub0 (by decide +kernel))
      exact h3
    · exact Moves.refl _
  intro h2
  try clear_value x2
  extract_lets -merge -underBinder +onlyGivenNames x4
  refine Moves.let_ x4 ?_ ?_
  · subst x4
    refine Moves.seq ?_ (State.attemptDur_moves ..) (Foot.sub0 (by decide +kernel))
    refine Moves.seq ?_ (State.splitRecord_moves ..) (Foot.sub0 (by decide +kernel))
    refine Moves.seq ?_ (State.splitRecord_moves ..) (Foot.sub0 (by decide +kernel))
    exact h2
  intro h4
  try clear_value x4
  extract_lets -merge -underBinder +onlyGivenNames x5
  refine Moves.let_ x5 ?_ ?_
  · subst x5
    refine Moves.seq ?_ (State.raise_moves ..) (Foot.sub1 (by decide +kernel) (Foot.holds_reg (by decide +kernel)))
    refine Moves.seq ?_ (State.satInc_moves _ _ (by decide)) (Foot.sub1 (by decide +kernel) (Foot.holds_reg (by decide +kernel)))
    refine Moves.seq ?_ (State.flag_moves ..) (Foot.sub0 (by decide +kernel))
    exact h4
  intro h5
  try clear_value x5
  refine Moves.seq ?_ (State.endAttempt_moves ..) (Foot.sub0 (by decide +kernel))
  exact h5

def Foot.actOn : Foot :=
  ⟨[(0x100010, 0x100010), (0x100044, 0x100044), (0x100064, 0x10006C), (0x100074, 0x100078)], [], [.mem, .evq,
    .top, .beam, .fab]⟩

theorem State.actOn_moves (s : State) (c : CommitRec) (late : Bool) : Moves (Foot.actOn.at []) s (State.actOn s c late) := by
  unfold State.actOn
  split
  · exact Moves.refl _
  · extract_lets -merge -underBinder +onlyGivenNames x1
    subst x1
    extract_lets -merge -underBinder +onlyGivenNames x2
    refine Moves.let_ x2 ?_ ?_
    · subst x2
      refine Moves.ite (fun hc => ?_) (fun hc => ?_)
      · refine Moves.seq ?_ (State.postFlags_moves ..) (Foot.sub0 (by decide +kernel))
        refine Moves.seq ?_ (State.raise_moves ..) (Foot.sub1 (by decide +kernel) (Foot.holds_reg (by decide +kernel)))
        refine Moves.seq ?_ (State.flag_moves ..) (Foot.sub0 (by decide +kernel))
        exact Moves.refl _
      · exact Moves.refl _
    intro h2
    try clear_value x2
    refine Moves.ite (fun hc => ?_) (fun hc => ?_)
    · refine Moves.seq ?_ (State.endNull_moves ..) (Foot.sub0 (by decide +kernel))
      exact h2
    · extract_lets -merge -underBinder +onlyGivenNames x3
      subst x3
      extract_lets -merge -underBinder +onlyGivenNames x4
      subst x4
      extract_lets -merge -underBinder +onlyGivenNames x5
      refine Moves.let_ x5 ?_ ?_
      · subst x5
        refine Moves.seq ?_ (Moves.upd_top _ _) (Foot.sub0 (by decide +kernel))
        exact h2
      intro h5
      try clear_value x5
      refine Moves.seq ?_ (State.put_moves _ _ _ (by decide)) (Foot.sub1 (by decide +kernel) (Foot.holds_reg (by decide +kernel)))
      exact h5

def Foot.aer : Foot := ⟨[(0x0B0010, 0x0B0010)], [], [.evq]⟩

theorem State.aer_moves (s : State) (status : Word) (header : List Byte) : Moves (Foot.aer.at []) s (State.aer s status header) := by
  unfold State.aer
  refine Moves.ite (fun hc => ?_) (fun hc => ?_)
  · exact Moves.refl _
  · refine Moves.seq ?_ (State.post_moves ..) (Foot.sub0 (by decide +kernel))
    refine Moves.seq ?_ (State.raise_moves ..) (Foot.sub1 (by decide +kernel) (Foot.holds_reg (by decide +kernel)))
    exact Moves.refl _

def Foot.seqUsed : Foot := ⟨[], [], [.fab]⟩

theorem State.seqUsed_moves (s : State) (cls : Nat) (flow : Nat) : Moves (Foot.seqUsed.at []) s (State.seqUsed s cls flow) := by
  unfold State.seqUsed
  refine Moves.seq ?_ (Moves.upd_fab _ _) (Foot.sub0 (by decide +kernel))
  exact Moves.refl _

def Foot.satMem : Foot := ⟨[], [], [.mem]⟩

theorem State.satMem_moves (s : State) (a : Nat) (n : Nat) : Moves (Foot.satMem.at []) s (State.satMem s a n) := by
  unfold State.satMem
  refine Moves.seq ?_ (State.wrNum_moves ..) (Foot.sub0 (by decide +kernel))
  exact Moves.refl _

def Foot.noBuf : Foot := ⟨[(0x032010, 0x032010)], [], [.mem]⟩

theorem State.noBuf_moves (s : State) (ingress : Nat) (port : Nat) (q : Nat) :
    Moves (Foot.noBuf.at []) s (State.noBuf s ingress port q) := by
  unfold State.noBuf
  refine Moves.seq ?_ (State.raise_moves ..) (Foot.sub1 (by decide +kernel) (Foot.holds_reg (by decide +kernel)))
  refine Moves.seq ?_ (State.satMem_moves ..) (Foot.sub0 (by decide +kernel))
  refine Moves.seq ?_ (State.satMem_moves ..) (Foot.sub0 (by decide +kernel))
  exact Moves.refl _

def Foot.qFull : Foot := ⟨[(0x032010, 0x032010)], [], [.mem]⟩

theorem State.qFull_moves (s : State) (port : Nat) (q : Nat) : Moves (Foot.qFull.at []) s (State.qFull s port q) := by
  unfold State.qFull
  refine Moves.seq ?_ (State.raise_moves ..) (Foot.sub1 (by decide +kernel) (Foot.holds_reg (by decide +kernel)))
  refine Moves.seq ?_ (State.satMem_moves ..) (Foot.sub0 (by decide +kernel))
  refine Moves.seq ?_ (State.satMem_moves ..) (Foot.sub0 (by decide +kernel))
  exact Moves.refl _

def Foot.setQueue : Foot := ⟨[], [], [.fab]⟩

theorem State.setQueue_moves (s : State) (port : Nat) (q : Nat) (fs : List QFrame) :
    Moves (Foot.setQueue.at []) s (State.setQueue s port q fs) := by
  unfold State.setQueue
  refine Moves.seq ?_ (Moves.upd_fab _ _) (Foot.sub0 (by decide +kernel))
  exact Moves.refl _

def Foot.takeCells : Foot := ⟨[], [], []⟩

theorem State.takeCells_moves (s : State) (pool : Nat) (n : Nat) :
    Moves (Foot.takeCells.at [(204896 + 4 * (pool % 4 % 4), 204896 + 4 * (pool % 4 % 4))]) s (State.takeCells s pool n) := by
  unfold State.takeCells
  refine Moves.seq ?_ (State.put_moves _ _ _ (by first | (dsimp only [freeFld, F.FAB_QUE_FREE_FREE]; omega) | omega)) (Foot.sub1 (by decide +kernel) (Foot.holds_same (.head _)))
  exact Moves.refl _

def Foot.enqueue : Foot := ⟨[(0x032010, 0x032010)], [], [.mem, .fab]⟩

theorem State.enqueue_moves (s : State) (ingress : Nat) (port : Nat) (q : Nat) (f : QFrame) :
    Moves (Foot.enqueue.at [(204896 + 4 * (f.pool % 4 % 4), 204896 + 4 * (f.pool % 4 % 4))]) s (State.enqueue s ingress port q f) :=
      by
  unfold State.enqueue
  refine Moves.ite (fun hc => ?_) (fun hc => ?_)
  · refine Moves.seq ?_ (State.noBuf_moves ..) (Foot.sub0 (by decide +kernel))
    exact Moves.refl _
  · refine Moves.ite (fun hc => ?_) (fun hc => ?_)
    · refine Moves.seq ?_ (State.qFull_moves ..) (Foot.sub0 (by decide +kernel))
      exact Moves.refl _
    · refine Moves.seq ?_ (State.setQueue_moves ..) (Foot.sub0 (by decide +kernel))
      refine Moves.seq ?_ (State.takeCells_moves ..) (Foot.sub1 (by decide +kernel) (Foot.holds_same (.head _)))
      exact Moves.refl _

def Foot.remoteSend : Foot := ⟨[(0x032010, 0x032010), (0x032060, 0x03206C)], [], [.mem, .fab]⟩

theorem State.remoteSend_moves (s : State) (node : Nat) (req : MboxReq) (result : Nat) (res : List Word) (data : List Byte) :
    Moves (Foot.remoteSend.at []) s (State.remoteSend s node req result res data) := by
  unfold State.remoteSend
  extract_lets -merge -underBinder +onlyGivenNames x1
  subst x1
  extract_lets -merge -underBinder +onlyGivenNames x2
  subst x2
  extract_lets -merge -underBinder +onlyGivenNames x3
  subst x3
  extract_lets -merge -underBinder +onlyGivenNames x4
  refine Moves.let_ x4 ?_ ?_
  · subst x4
    refine Moves.seq ?_ (State.seqUsed_moves ..) (Foot.sub0 (by decide +kernel))
    exact Moves.refl _
  intro h4
  try clear_value x4
  simp -zeta only [List.foldl_cons, List.foldl_nil]
  refine Moves.ite (fun hc => ?_) (fun hc => ?_)
  · refine Moves.ite (fun hc => ?_) (fun hc => ?_)
    · exact h4
    · refine Moves.foldl _ (fun x5 _ h5 => ?_) _ ?_
      · refine Moves.seq ?_ (State.enqueue_moves ..) (Foot.sub1 (by decide +kernel) (Foot.holds_four 204908 204904 204900 204896 (by decide +kernel) (by decide +kernel) (by decide +kernel) (by decide +kernel) (by first | omega | (dsimp only; omega))))
        exact h5
      · exact h4
  · refine Moves.foldl _ (fun x6 _ h6 => ?_) _ ?_
    · refine Moves.seq ?_ (State.enqueue_moves ..) (Foot.sub1 (by decide +kernel) (Foot.holds_four 204908 204904 204900 204896 (by decide +kernel) (by decide +kernel) (by decide +kernel) (by decide +kernel) (by first | omega | (dsimp only; omega))))
      exact h6
    · refine Moves.ite (fun hc => ?_) (fun hc => ?_)
      · exact h4
      · refine Moves.foldl _ (fun x7 _ h7 => ?_) _ ?_
        · refine Moves.seq ?_ (State.enqueue_moves ..) (Foot.sub1 (by decide +kernel) (Foot.holds_four 204908 204904 204900 204896 (by decide +kernel) (by decide +kernel) (by decide +kernel) (by decide +kernel) (by first | omega | (dsimp only; omega))))
          exact h7
        · exact h4

def Foot.mboxShow : Foot := ⟨[(0x0D1054, 0x0D1064)], [], []⟩

theorem State.mboxShow_moves (s : State) : Moves (Foot.mboxShow.at []) s (State.mboxShow s) := by
  unfold State.mboxShow
  extract_lets -merge -underBinder +onlyGivenNames x1
  refine Moves.let_ x1 ?_ ?_
  · subst x1
    refine Moves.seq ?_ (State.put_moves _ _ _ (by decide)) (Foot.sub1 (by decide +kernel) (Foot.holds_reg (by decide +kernel)))
    refine Moves.seq ?_ (State.put_moves _ _ _ (by decide)) (Foot.sub1 (by decide +kernel) (Foot.holds_reg (by decide +kernel)))
    exact Moves.refl _
  intro h1
  try clear_value x1
  split
  · refine Moves.seq ?_ (State.wr_moves _ _ (by decide)) (Foot.sub1 (by decide +kernel) (Foot.holds_reg (by decide +kernel)))
    refine Moves.seq ?_ (State.wr_moves _ _ (by decide)) (Foot.sub1 (by decide +kernel) (Foot.holds_reg (by decide +kernel)))
    refine Moves.seq ?_ (State.wr_moves _ _ (by decide)) (Foot.sub1 (by decide +kernel) (Foot.holds_reg (by decide +kernel)))
    refine Moves.seq ?_ (State.wr_moves _ _ (by decide)) (Foot.sub1 (by decide +kernel) (Foot.holds_reg (by decide +kernel)))
    exact h1
  · extract_lets -merge -underBinder +onlyGivenNames x2
    refine Moves.let_ x2 ?_ ?_
    · subst x2
      refine Moves.seq ?_ (State.wr_moves _ _ (by decide)) (Foot.sub1 (by decide +kernel) (Foot.holds_reg (by decide +kernel)))
      exact h1
    intro h2
    try clear_value x2
    simp -zeta only [List.foldl_cons, List.foldl_nil]
    refine Moves.seq ?_ (State.wr_moves _ _ (by decide)) (Foot.sub1 (by decide +kernel) (Foot.holds_reg (by decide +kernel)))
    refine Moves.seq ?_ (State.wr_moves _ _ (by decide)) (Foot.sub1 (by decide +kernel) (Foot.holds_reg (by decide +kernel)))
    refine Moves.seq ?_ (State.wr_moves _ _ (by decide)) (Foot.sub1 (by decide +kernel) (Foot.holds_reg (by decide +kernel)))
    exact h2

def Foot.pushRsp : Foot := ⟨[(0x0D1054, 0x0D1064)], [], [.mgt]⟩

theorem State.pushRsp_moves (s : State) (r : MboxRsp) : Moves (Foot.pushRsp.at []) s (State.pushRsp s r) := by
  unfold State.pushRsp
  refine Moves.seq ?_ (State.mboxShow_moves ..) (Foot.sub0 (by decide +kernel))
  refine Moves.seq ?_ (State.modMgt_moves ..) (Foot.sub0 (by decide +kernel))
  exact Moves.refl _

def Foot.mboxBusy : Foot :=
  ⟨[(0x032010, 0x032010), (0x032060, 0x03206C), (0x0D1010, 0x0D1010), (0x0D1054, 0x0D1064)], [], [.mem,
    .fab, .mgt]⟩

theorem State.mboxBusy_moves (s : State) (req : MboxReq) : Moves (Foot.mboxBusy.at []) s (State.mboxBusy s req) := by
  unfold State.mboxBusy
  extract_lets -merge -underBinder +onlyGivenNames x1
  refine Moves.let_ x1 ?_ ?_
  · subst x1
    refine Moves.seq ?_ (State.raise_moves ..) (Foot.sub1 (by decide +kernel) (Foot.holds_reg (by decide +kernel)))
    refine Moves.seq ?_ (State.satInc_moves _ _ (by decide)) (Foot.sub1 (by decide +kernel) (Foot.holds_reg (by decide +kernel)))
    exact Moves.refl _
  intro h1
  try clear_value x1
  split
  · refine Moves.seq ?_ (State.remoteSend_moves ..) (Foot.sub0 (by decide +kernel))
    exact h1
  · refine Moves.ite (fun hc => ?_) (fun hc => ?_)
    · exact h1
    · refine Moves.seq ?_ (State.pushRsp_moves ..) (Foot.sub0 (by decide +kernel))
      exact h1

def Foot.mboxPush : Foot :=
  ⟨[(0x032010, 0x032010), (0x032060, 0x03206C), (0x0D1010, 0x0D1010), (0x0D1054, 0x0D1064)], [], [.mem,
    .fab, .mgt]⟩

theorem State.mboxPush_moves (s : State) (req : MboxReq) : Moves (Foot.mboxPush.at []) s (State.mboxPush s req) := by
  unfold State.mboxPush
  refine Moves.ite (fun hc => ?_) (fun hc => ?_)
  · refine Moves.seq ?_ (State.mboxBusy_moves ..) (Foot.sub0 (by decide +kernel))
    exact Moves.refl _
  · refine Moves.seq ?_ (State.mboxShow_moves ..) (Foot.sub0 (by decide +kernel))
    refine Moves.seq ?_ (State.modMgt_moves ..) (Foot.sub0 (by decide +kernel))
    exact Moves.refl _

def Foot.remoteRx : Foot :=
  ⟨[(0x032010, 0x032010), (0x032060, 0x03206C), (0x0D1010, 0x0D1010), (0x0D1054, 0x0D1064)], [], [.mem,
    .fab, .mgt]⟩

theorem State.remoteRx_moves (s : State) (f : NFrame) : Moves (Foot.remoteRx.at []) s (State.remoteRx s f) := by
  unfold State.remoteRx
  refine Moves.ite (fun hc => ?_) (fun hc => ?_)
  · exact Moves.refl _
  · split
    · exact Moves.refl _
    · refine Moves.ite (fun hc => ?_) (fun hc => ?_)
      · exact Moves.refl _
      · extract_lets -merge -underBinder +onlyGivenNames x1
        subst x1
        extract_lets -merge -underBinder +onlyGivenNames x2
        subst x2
        extract_lets -merge -underBinder +onlyGivenNames x3
        subst x3
        extract_lets -merge -underBinder +onlyGivenNames x4
        subst x4
        extract_lets -merge -underBinder +onlyGivenNames x5
        subst x5
        refine Moves.ite (fun hc => ?_) (fun hc => ?_)
        · refine Moves.seq ?_ (State.remoteSend_moves ..) (Foot.sub0 (by decide +kernel))
          exact Moves.refl _
        · refine Moves.seq ?_ (State.mboxPush_moves ..) (Foot.sub0 (by decide +kernel))
          exact Moves.refl _

def Foot.setPair : Foot := ⟨[], [], [.psc]⟩

theorem State.setPair_moves (s : State) (p : FencePair) : Moves (Foot.setPair.at []) s (State.setPair s p) := by
  unfold State.setPair
  refine Moves.seq ?_ (State.modPsc_moves ..) (Foot.sub0 (by decide +kernel))
  exact Moves.refl _

def Foot.countWrite : Foot := ⟨[], [], [.psc]⟩

theorem State.countWrite_moves (s : State) (serial : Nat) (win : Nat) (w : Nat) (f : Nat) :
    Moves (Foot.countWrite.at []) s (State.countWrite s serial win w f) := by
  unfold State.countWrite
  extract_lets -merge -underBinder +onlyGivenNames x1
  subst x1
  refine Moves.seq ?_ (State.setPair_moves ..) (Foot.sub0 (by decide +kernel))
  exact Moves.refl _

def Foot.pscSend : Foot := ⟨[(0x032010, 0x032010), (0x032060, 0x03206C)], [], [.mem, .fab]⟩

theorem State.pscSend_moves (s : State) (flow : Nat) (node : Nat) (payload : List Byte) :
    Moves (Foot.pscSend.at []) s (State.pscSend s flow node payload) := by
  unfold State.pscSend
  extract_lets -merge -underBinder +onlyGivenNames x1
  subst x1
  extract_lets -merge -underBinder +onlyGivenNames x2
  refine Moves.let_ x2 ?_ ?_
  · subst x2
    refine Moves.seq ?_ (State.seqUsed_moves ..) (Foot.sub0 (by decide +kernel))
    exact Moves.refl _
  intro h2
  try clear_value x2
  simp -zeta only [List.foldl_cons, List.foldl_nil]
  refine Moves.ite (fun hc => ?_) (fun hc => ?_)
  · refine Moves.ite (fun hc => ?_) (fun hc => ?_)
    · exact h2
    · refine Moves.foldl _ (fun x3 _ h3 => ?_) _ ?_
      · refine Moves.seq ?_ (State.enqueue_moves ..) (Foot.sub1 (by decide +kernel) (Foot.holds_four 204908 204904 204900 204896 (by decide +kernel) (by decide +kernel) (by decide +kernel) (by decide +kernel) (by first | omega | (dsimp only; omega))))
        exact h3
      · exact h2
  · refine Moves.foldl _ (fun x4 _ h4 => ?_) _ ?_
    · refine Moves.seq ?_ (State.enqueue_moves ..) (Foot.sub1 (by decide +kernel) (Foot.holds_four 204908 204904 204900 204896 (by decide +kernel) (by decide +kernel) (by decide +kernel) (by decide +kernel) (by first | omega | (dsimp only; omega))))
      exact h4
    · refine Moves.ite (fun hc => ?_) (fun hc => ?_)
      · exact h2
      · refine Moves.foldl _ (fun x5 _ h5 => ?_) _ ?_
        · refine Moves.seq ?_ (State.enqueue_moves ..) (Foot.sub1 (by decide +kernel) (Foot.holds_four 204908 204904 204900 204896 (by decide +kernel) (by decide +kernel) (by decide +kernel) (by decide +kernel) (by first | omega | (dsimp only; omega))))
          exact h5
        · exact h2

def Foot.pscReply : Foot := ⟨[(0x032010, 0x032010), (0x032060, 0x03206C)], [], [.mem, .fab]⟩

theorem State.pscReply_moves (s : State) (f : NFrame) (serial : Nat) (status : Nat) (data : Nat) (aux : Nat) :
    Moves (Foot.pscReply.at []) s (State.pscReply s f serial status data aux) := by
  unfold State.pscReply
  extract_lets -merge -underBinder +onlyGivenNames x1
  subst x1
  extract_lets -merge -underBinder +onlyGivenNames x2
  subst x2
  extract_lets -merge -underBinder +onlyGivenNames x3
  subst x3
  extract_lets -merge -underBinder +onlyGivenNames x4
  subst x4
  extract_lets -merge -underBinder +onlyGivenNames x5
  subst x5
  refine Moves.ite (fun hc => ?_) (fun hc => ?_)
  · refine Moves.ite (fun hc => ?_) (fun hc => ?_)
    · exact Moves.refl _
    · refine Moves.seq ?_ (State.pscSend_moves ..) (Foot.sub0 (by decide +kernel))
      exact Moves.refl _
  · refine Moves.seq ?_ (State.pscSend_moves ..) (Foot.sub0 (by decide +kernel))
    exact Moves.refl _

def Foot.pscQueue : Foot :=
  ⟨[(0x032010, 0x032010), (0x032060, 0x03206C), (0x0C0010, 0x0C0010), (0x0C004C, 0x0C004C)], [], [.mem,
    .fab, .psc]⟩

theorem State.pscQueue_moves (s : State) (f : NFrame) (serial : Nat) :
    Moves (Foot.pscQueue.at []) s (State.pscQueue s f serial) := by
  unfold State.pscQueue
  extract_lets -merge -underBinder +onlyGivenNames x1
  subst x1
  extract_lets -merge -underBinder +onlyGivenNames x2
  subst x2
  refine Moves.ite (fun hc => ?_) (fun hc => ?_)
  · exact Moves.refl _
  · extract_lets -merge -underBinder +onlyGivenNames x3
    refine Moves.let_ x3 ?_ ?_
    · subst x3
      refine Moves.ite (fun hc => ?_) (fun hc => ?_)
      · refine Moves.seq ?_ (State.countWrite_moves ..) (Foot.sub0 (by decide +kernel))
        exact Moves.refl _
      · exact Moves.refl _
    intro h3
    try clear_value x3
    refine Moves.ite (fun hc => ?_) (fun hc => ?_)
    · refine Moves.seq ?_ (State.modPsc_moves ..) (Foot.sub0 (by decide +kernel))
      exact h3
    · extract_lets -merge -underBinder +onlyGivenNames x4
      refine Moves.let_ x4 ?_ ?_
      · subst x4
        refine Moves.ite (fun hc => ?_) (fun hc => ?_)
        · refine Moves.seq ?_ (State.countWrite_moves ..) (Foot.sub0 (by decide +kernel))
          exact h3
        · exact h3
      intro h4
      try clear_value x4
      refine Moves.seq ?_ (State.pscReply_moves ..) (Foot.sub0 (by decide +kernel))
      refine Moves.seq ?_ (State.raise_moves ..) (Foot.sub1 (by decide +kernel) (Foot.holds_reg (by decide +kernel)))
      refine Moves.seq ?_ (State.satInc_moves _ _ (by decide)) (Foot.sub1 (by decide +kernel) (Foot.holds_reg (by decide +kernel)))
      exact h4

def Foot.pwFail : Foot := ⟨[(0x0C2010, 0x0C2010), (0x0C2040, 0x0C2044), (0x0C2100, 0x0C21FC)], [], [.evq]⟩

theorem State.pwFail_moves (s : State) (win : Nat) (reason : Nat) (node : Nat) (offs : Nat) (data : Nat) (seq : Nat) :
    Moves (Foot.pwFail.at []) s (State.pwFail s win reason node offs data seq) := by
  unfold State.pwFail
  extract_lets -merge -underBinder +onlyGivenNames x1
  subst x1
  refine Moves.ite (fun hc => ?_) (fun hc => ?_)
  · refine Moves.seq ?_ (State.raise_moves ..) (Foot.sub1 (by decide +kernel) (Foot.holds_reg (by decide +kernel)))
    refine Moves.seq ?_ (State.satInc_moves _ _ (by decide)) (Foot.sub1 (by decide +kernel) (Foot.holds_reg (by decide +kernel)))
    exact Moves.refl _
  · extract_lets -merge -underBinder +onlyGivenNames x2
    subst x2
    extract_lets -merge -underBinder +onlyGivenNames x3
    refine Moves.let_ x3 ?_ ?_
    · subst x3
      simp -zeta only [List.foldl_cons, List.foldl_nil]
      refine Moves.seq ?_ (State.wr_moves _ _ (by first | (dsimp only [R.PSC_PWLOG_E_W, F.PSC_PWLOG_PTR_PUT]; omega) | omega)) (Foot.sub1 (by decide +kernel) (Foot.holds_range 794892 795132 (by decide +kernel) (by first | (dsimp only [R.PSC_PWLOG_E_W, F.PSC_PWLOG_PTR_PUT]; omega) | omega) (by first | (dsimp only [R.PSC_PWLOG_E_W, F.PSC_PWLOG_PTR_PUT]; omega) | omega)))
      refine Moves.seq ?_ (State.wr_moves _ _ (by first | (dsimp only [R.PSC_PWLOG_E_W, F.PSC_PWLOG_PTR_PUT]; omega) | omega)) (Foot.sub1 (by decide +kernel) (Foot.holds_range 794888 795128 (by decide +kernel) (by first | (dsimp only [R.PSC_PWLOG_E_W, F.PSC_PWLOG_PTR_PUT]; omega) | omega) (by first | (dsimp only [R.PSC_PWLOG_E_W, F.PSC_PWLOG_PTR_PUT]; omega) | omega)))
      refine Moves.seq ?_ (State.wr_moves _ _ (by first | (dsimp only [R.PSC_PWLOG_E_W, F.PSC_PWLOG_PTR_PUT]; omega) | omega)) (Foot.sub1 (by decide +kernel) (Foot.holds_range 794884 795124 (by decide +kernel) (by first | (dsimp only [R.PSC_PWLOG_E_W, F.PSC_PWLOG_PTR_PUT]; omega) | omega) (by first | (dsimp only [R.PSC_PWLOG_E_W, F.PSC_PWLOG_PTR_PUT]; omega) | omega)))
      refine Moves.seq ?_ (State.wr_moves _ _ (by first | (dsimp only [R.PSC_PWLOG_E_W, F.PSC_PWLOG_PTR_PUT]; omega) | omega)) (Foot.sub1 (by decide +kernel) (Foot.holds_range 794880 795120 (by decide +kernel) (by first | (dsimp only [R.PSC_PWLOG_E_W, F.PSC_PWLOG_PTR_PUT]; omega) | omega) (by first | (dsimp only [R.PSC_PWLOG_E_W, F.PSC_PWLOG_PTR_PUT]; omega) | omega)))
      exact Moves.refl _
    intro h3
    try clear_value x3
    refine Moves.seq ?_ (State.post_moves ..) (Foot.sub0 (by decide +kernel))
    refine Moves.seq ?_ (State.raise_moves ..) (Foot.sub1 (by decide +kernel) (Foot.holds_reg (by decide +kernel)))
    refine Moves.seq ?_ (State.satInc_moves _ _ (by decide)) (Foot.sub1 (by decide +kernel) (Foot.holds_reg (by decide +kernel)))
    refine Moves.seq ?_ (State.put_moves _ _ _ (by decide)) (Foot.sub1 (by decide +kernel) (Foot.holds_reg (by decide +kernel)))
    exact h3

def Foot.used : Foot := ⟨[], [], [.fresh]⟩

theorem State.used_moves (s : State) : Moves (Foot.used.at []) s (State.used s) := by
  unfold State.used
  refine Moves.seq ?_ (Moves.upd_fresh _ _) (Foot.sub0 (by decide +kernel))
  exact Moves.refl _

def Foot.pscRequest : Foot := ⟨[(0x032010, 0x032010), (0x032060, 0x03206C)], [], [.mem, .fab, .psc]⟩

theorem State.pscRequest_moves (s : State) (type : Nat) (tag : Nat) (p : Nat) (n : Nat) (offs : Nat) :
    Moves (Foot.pscRequest.at [(790600 + 16 * (p % 8), 790600 + 16 * (p % 8))]) s (State.pscRequest s type tag p n offs) := by
  unfold State.pscRequest
  extract_lets -merge -underBinder +onlyGivenNames x1
  refine Moves.let_ x1 ?_ ?_
  · subst x1
    refine Moves.seq ?_ (State.modPsc_moves ..) (Foot.sub0 (by decide +kernel))
    exact Moves.refl _
  intro h1
  try clear_value x1
  extract_lets -merge -underBinder +onlyGivenNames x2
  refine Moves.let_ x2 ?_ ?_
  · subst x2
    refine Moves.seq ?_ (State.outFollow_moves ..) (Foot.sub1 (by decide +kernel) (Foot.holds_same (.head _)))
    refine Moves.seq ?_ (State.put_moves _ _ _ (by first | (dsimp only [F.PSC_WIN_STAT_NODE]; omega) | omega)) (Foot.sub1 (by decide +kernel) (Foot.holds_same (.head _)))
    exact h1
  intro h2
  try clear_value x2
  refine Moves.seq ?_ (State.pscSend_moves ..) (Foot.sub0 (by decide +kernel))
  exact h2

def Foot.pscKick : Foot := ⟨[(0x032010, 0x032010), (0x032060, 0x03206C), (0x0C1048, 0x0C10B8)], [], [.mem, .fresh, .fab, .psc]⟩

theorem State.pscKick_moves (s : State) : Moves (Foot.pscKick.at []) s (State.pscKick s) := by
  unfold State.pscKick
  split
  · exact Moves.refl _
  · split
    · extract_lets -merge -underBinder +onlyGivenNames x1
      refine Moves.let_ x1 ?_ ?_
      · subst x1
        refine Moves.seq ?_ (State.modPsc_moves ..) (Foot.sub0 (by decide +kernel))
        refine Moves.seq ?_ (State.used_moves ..) (Foot.sub0 (by decide +kernel))
        exact Moves.refl _
      intro h1
      try clear_value x1
      refine Moves.seq ?_ (State.pscRequest_moves ..) (Foot.sub1 (by decide +kernel) (Foot.holds_range 790600 790712 (by decide +kernel) (by first | omega | (dsimp only; omega)) (by first | omega | (dsimp only; omega))))
      exact h1
    · exact Moves.refl _

def Foot.drbFollow : Foot := ⟨[(0x0C1100, 0x0C1100)], [], []⟩

theorem State.drbFollow_moves (s : State) : Moves (Foot.drbFollow.at []) s (State.drbFollow s) := by
  unfold State.drbFollow
  extract_lets -merge -underBinder +onlyGivenNames x1
  subst x1
  try dsimp -zeta only
  refine Moves.seq ?_ (State.wr_moves _ _ (by decide)) (Foot.sub1 (by decide +kernel) (Foot.holds_reg (by decide +kernel)))
  exact Moves.refl _

def Foot.pscDone : Foot := ⟨[], [], [.out]⟩

theorem State.pscDone_moves (s : State) (bar2 : Nat) (p : Nat) (last : Nat) (v : Nat) :
    Moves (Foot.pscDone.at [(790600 + 16 * (p % 8), 790600 + 16 * (p % 8))]) s (State.pscDone s bar2 p last v) := by
  unfold State.pscDone
  refine Moves.seq ?_ (State.emit_moves ..) (Foot.sub0 (by decide +kernel))
  refine Moves.seq ?_ (State.put_moves _ _ _ (by first | (dsimp only [F.PSC_WIN_STAT_LAST]; omega) | omega)) (Foot.sub1 (by decide +kernel) (Foot.holds_same (.head _)))
  exact Moves.refl _

def Foot.pscAnswer : Foot := ⟨[], [], [.out]⟩

theorem State.pscAnswer_moves (s : State) (bar2 : Nat) (p : Nat) (status : Nat) (v : Nat) (okLast : Nat) :
    Moves (Foot.pscAnswer.at [(790600 + 16 * (p % 8), 790600 + 16 * (p % 8))]) s (State.pscAnswer s bar2 p status v okLast) := by
  unfold State.pscAnswer
  refine Moves.ite (fun hc => ?_) (fun hc => ?_)
  · refine Moves.seq ?_ (State.pscDone_moves ..) (Foot.sub1 (by decide +kernel) (Foot.holds_same (.head _)))
    exact Moves.refl _
  · refine Moves.seq ?_ (State.pscDone_moves ..) (Foot.sub1 (by decide +kernel) (Foot.holds_same (.head _)))
    exact Moves.refl _

def Foot.fenceDone : Foot := ⟨[(0x0C0010, 0x0C0010), (0x0C0048, 0x0C0048)], [], []⟩

theorem State.fenceDone_moves (s : State) (wcnt : Nat) (fcnt : Nat) :
    Moves (Foot.fenceDone.at []) s (State.fenceDone s wcnt fcnt) := by
  unfold State.fenceDone
  refine Moves.ite (fun hc => ?_) (fun hc => ?_)
  · exact Moves.refl _
  · extract_lets -merge -underBinder +onlyGivenNames x1
    subst x1
    refine Moves.seq ?_ (State.raise_moves ..) (Foot.sub1 (by decide +kernel) (Foot.holds_reg (by decide +kernel)))
    refine Moves.seq ?_ (State.put_moves _ _ _ (by decide)) (Foot.sub1 (by decide +kernel) (Foot.holds_reg (by decide +kernel)))
    refine Moves.seq ?_ (State.put_moves _ _ _ (by decide)) (Foot.sub1 (by decide +kernel) (Foot.holds_reg (by decide +kernel)))
    refine Moves.seq ?_ (State.put_moves _ _ _ (by decide)) (Foot.sub1 (by decide +kernel) (Foot.holds_reg (by decide +kernel)))
    exact Moves.refl _

def Foot.sideDone : Foot := ⟨[(0x0C3010, 0x0C3010)], [], [.psc]⟩

theorem State.sideDone_moves (s : State) (p : Nat) (isl : Nat) (data : Nat) :
    Moves (Foot.sideDone.at [(798784 + 8 * (p % 8), 798784 + 8 * (p % 8)),
      (798788 + 8 * (p % 8), 798788 + 8 * (p % 8))]) s (State.sideDone s p isl data) := by
  unfold State.sideDone
  extract_lets -merge -underBinder +onlyGivenNames x1
  subst x1
  extract_lets -merge -underBinder +onlyGivenNames x2
  subst x2
  extract_lets -merge -underBinder +onlyGivenNames x3
  subst x3
  extract_lets -merge -underBinder +onlyGivenNames x4
  refine Moves.let_ x4 ?_ ?_
  · subst x4
    refine Moves.seq ?_ (State.modPsc_moves ..) (Foot.sub0 (by decide +kernel))
    exact Moves.refl _
  intro h4
  try clear_value x4
  extract_lets -merge -underBinder +onlyGivenNames x5
  refine Moves.let_ x5 ?_ ?_
  · subst x5
    refine Moves.seq ?_ (State.wr_moves _ _ (by first | (dsimp only [R.PSC_SIDE_ISL]; omega) | omega)) (Foot.sub1 (by decide +kernel) (Foot.holds_same (.head _)))
    exact h4
  intro h5
  try clear_value x5
  extract_lets -merge -underBinder +onlyGivenNames x6
  refine Moves.let_ x6 ?_ ?_
  · subst x6
    refine Moves.seq ?_ (State.put_moves _ _ _ (by first | (dsimp only [F.PSC_SIDE_AGE_EPOCH]; omega) | omega)) (Foot.sub1 (by decide +kernel) (Foot.holds_same (.tail _ (.head _))))
    exact h5
  intro h6
  try clear_value x6
  refine Moves.ite (fun hc => ?_) (fun hc => ?_)
  · refine Moves.seq ?_ (State.raise_moves ..) (Foot.sub1 (by decide +kernel) (Foot.holds_reg (by decide +kernel)))
    exact h6
  · exact h6

def Foot.pscResponse : Foot :=
  ⟨[(0x032010, 0x032010), (0x032060, 0x03206C), (0x0C0010, 0x0C0010), (0x0C0048, 0x0C0048), (0x0C1010,
    0x0C1010), (0x0C1048, 0x0C10B8), (0x0C1100, 0x0C1100), (0x0C2010, 0x0C2010), (0x0C2040, 0x0C2044), (0x0C2100, 0x0C21FC), (0x0C3010,
    0x0C3010), (0x0C3040, 0x0C307C)], [], [.mem, .out, .evq, .fresh, .fab, .psc]⟩

theorem State.pscResponse_moves (s : State) (f : NFrame) (serial : Nat) :
    Moves (Foot.pscResponse.at []) s (State.pscResponse s f serial) := by
  unfold State.pscResponse
  extract_lets -merge -underBinder +onlyGivenNames x1
  subst x1
  extract_lets -merge -underBinder +onlyGivenNames x2
  subst x2
  extract_lets -merge -underBinder +onlyGivenNames x3
  subst x3
  extract_lets -merge -underBinder +onlyGivenNames x4
  subst x4
  extract_lets -merge -underBinder +onlyGivenNames x5
  subst x5
  extract_lets -merge -underBinder +onlyGivenNames x6
  subst x6
  extract_lets -merge -underBinder +onlyGivenNames x7
  subst x7
  refine Moves.ite (fun hc => ?_) (fun hc => ?_)
  · refine Moves.seq ?_ (State.pwFail_moves ..) (Foot.sub0 (by decide +kernel))
    exact Moves.refl _
  · split
    · exact Moves.refl _
    · extract_lets -merge -underBinder +onlyGivenNames x8
      refine Moves.let_ x8 ?_ ?_
      · subst x8
        refine Moves.seq ?_ (State.outFollow_moves ..) (Foot.sub1 (by decide +kernel) (Foot.holds_range 790600 790712 (by decide +kernel) (by first | omega | (dsimp only; omega)) (by first | omega | (dsimp only; omega))))
        refine Moves.seq ?_ (State.modPsc_moves ..) (Foot.sub0 (by decide +kernel))
        exact Moves.refl _
      intro h8
      try clear_value x8
      split
      · extract_lets -merge -underBinder +onlyGivenNames x9
        subst x9
        refine Moves.ite (fun hc => ?_) (fun hc => ?_)
        · extract_lets -merge -underBinder +onlyGivenNames x10
          subst x10
          try dsimp -zeta only
          refine Moves.seq ?_ (State.pscKick_moves ..) (Foot.sub0 (by decide +kernel))
          refine Moves.seq ?_ (State.raise_moves ..) (Foot.sub1 (by decide +kernel) (Foot.holds_reg (by decide +kernel)))
          refine Moves.seq ?_ (State.drbFollow_moves ..) (Foot.sub0 (by decide +kernel))
          refine Moves.seq ?_ (State.modPsc_moves ..) (Foot.sub0 (by decide +kernel))
          exact h8
        · extract_lets -merge -underBinder +onlyGivenNames x11
          refine Moves.let_ x11 ?_ ?_
          · subst x11
            refine Moves.seq ?_ (State.drbFollow_moves ..) (Foot.sub0 (by decide +kernel))
            refine Moves.seq ?_ (State.modPsc_moves ..) (Foot.sub0 (by decide +kernel))
            exact h8
          intro h11
          try clear_value x11
          refine Moves.seq ?_ (State.pscKick_moves ..) (Foot.sub0 (by decide +kernel))
          refine Moves.foldl _ (fun x12 _ h12 => ?_) _ ?_
          · refine Moves.seq ?_ (State.pscAnswer_moves ..) (Foot.sub1 (by decide +kernel) (Foot.holds_range 790600 790712 (by decide +kernel) (by first | omega | (dsimp only; omega)) (by first | omega | (dsimp only; omega))))
            exact h12
          · exact h11
      · refine Moves.seq ?_ (State.fenceDone_moves ..) (Foot.sub0 (by decide +kernel))
        exact h8
      · refine Moves.ite (fun hc => ?_) (fun hc => ?_)
        · refine Moves.seq ?_ (State.sideDone_moves ..) (Foot.sub_at (by decide +kernel) (Foot.own_cons (Foot.holds_range 798784 798840 (by decide +kernel) (by first | omega | (dsimp only; omega)) (by first | omega | (dsimp only; omega))) (Foot.own_cons (Foot.holds_range 798788 798844 (by decide +kernel) (by first | omega | (dsimp only; omega)) (by first | omega | (dsimp only; omega))) Foot.own_nil)))
          exact h8
        · refine Moves.seq ?_ (State.putB_moves _ _ _ (by first | (dsimp only [F.PSC_SIDE_ISL_STALE]; omega) | omega)) (Foot.sub1 (by decide +kernel) (Foot.holds_range 798784 798840 (by decide +kernel) (by first | (dsimp only [F.PSC_SIDE_ISL_STALE]; omega) | omega) (by first | (dsimp only [F.PSC_SIDE_ISL_STALE]; omega) | omega)))
          refine Moves.seq ?_ (State.modPsc_moves ..) (Foot.sub0 (by decide +kernel))
          exact h8

def Foot.pscRx : Foot :=
  ⟨[(0x032010, 0x032010), (0x032060, 0x03206C), (0x0C0010, 0x0C0010), (0x0C0048, 0x0C004C), (0x0C1010,
    0x0C1010), (0x0C1048, 0x0C10B8), (0x0C1100, 0x0C1100), (0x0C2010, 0x0C2010), (0x0C2040, 0x0C2044), (0x0C2100, 0x0C21FC), (0x0C3010,
    0x0C3010), (0x0C3040, 0x0C307C)], [], [.mem, .out, .evq, .fresh, .fab, .psc]⟩

theorem State.pscRx_moves (s : State) (f : NFrame) : Moves (Foot.pscRx.at []) s (State.pscRx s f) := by
  unfold State.pscRx
  refine Moves.ite (fun hc => ?_) (fun hc => ?_)
  · exact Moves.refl _
  · split
    · exact Moves.refl _
    · refine Moves.ite (fun hc => ?_) (fun hc => ?_)
      · exact Moves.refl _
      · extract_lets -merge -underBinder +onlyGivenNames x1
        subst x1
        refine Moves.ite (fun hc => ?_) (fun hc => ?_)
        · refine Moves.seq ?_ (State.pscQueue_moves ..) (Foot.sub0 (by decide +kernel))
          exact Moves.refl _
        · refine Moves.ite (fun hc => ?_) (fun hc => ?_)
          · refine Moves.seq ?_ (State.pscResponse_moves ..) (Foot.sub0 (by decide +kernel))
            exact Moves.refl _
          · refine Moves.seq ?_ (State.satInc_moves _ _ (by decide)) (Foot.sub1 (by decide +kernel) (Foot.holds_reg (by decide +kernel)))
            exact Moves.refl _

def Foot.gmConflict : Foot := ⟨[(0x090010, 0x090010), (0x090064, 0x090064)], [], [.tim]⟩

theorem State.gmConflict_moves (s : State) : Moves (Foot.gmConflict.at []) s (State.gmConflict s) := by
  unfold State.gmConflict
  refine Moves.seq ?_ (State.raise_moves ..) (Foot.sub1 (by decide +kernel) (Foot.holds_reg (by decide +kernel)))
  refine Moves.seq ?_ (State.putB_moves _ _ _ (by decide)) (Foot.sub1 (by decide +kernel) (Foot.holds_reg (by decide +kernel)))
  refine Moves.seq ?_ (Moves.upd_tim _ _) (Foot.sub0 (by decide +kernel))
  exact Moves.refl _

def Foot.wofsSet : Foot := ⟨[(0x090058, 0x090060)], [], [.tim]⟩

theorem State.wofsSet_moves (s : State) (w : WofsPend) : Moves (Foot.wofsSet.at []) s (State.wofsSet s w) := by
  unfold State.wofsSet
  refine Moves.seq ?_ (State.putB_moves _ _ _ (by decide)) (Foot.sub1 (by decide +kernel) (Foot.holds_reg (by decide +kernel)))
  refine Moves.seq ?_ (State.put_moves _ _ _ (by decide)) (Foot.sub1 (by decide +kernel) (Foot.holds_reg (by decide +kernel)))
  refine Moves.seq ?_ (State.setWofs_moves ..) (Foot.sub0 (by decide +kernel))
  refine Moves.seq ?_ (Moves.upd_tim _ _) (Foot.sub0 (by decide +kernel))
  exact Moves.refl _

def Foot.moveTime : Foot := ⟨[], [], [.tim]⟩

theorem State.moveTime_moves (s : State) (e : Int) : Moves (Foot.moveTime.at []) s (State.moveTime s e) := by
  unfold State.moveTime
  refine Moves.seq ?_ (Moves.upd_tim _ _) (Foot.sub0 (by decide +kernel))
  exact Moves.refl _

def Foot.clearWithin : Foot := ⟨[], [], [.tim]⟩

theorem State.clearWithin_moves (s : State) : Moves (Foot.clearWithin.at []) s (State.clearWithin s) := by
  unfold State.clearWithin
  refine Moves.seq ?_ (Moves.upd_tim _ _) (Foot.sub0 (by decide +kernel))
  exact Moves.refl _

def Foot.servoStep : Foot :=
  ⟨[(0x090010, 0x090010), (0x090064, 0x090064), (0x091010, 0x091010), (0x091050, 0x091050), (0x091058,
    0x091058)], [], [.evq, .tim]⟩

theorem State.servoStep_moves (s : State) (e : Int) : Moves (Foot.servoStep.at []) s (State.servoStep s e) := by
  unfold State.servoStep
  extract_lets -merge -underBinder +onlyGivenNames x1
  refine Moves.let_ x1 ?_ ?_
  · subst x1
    refine Moves.seq ?_ (State.raise_moves ..) (Foot.sub1 (by decide +kernel) (Foot.holds_reg (by decide +kernel)))
    refine Moves.seq ?_ (State.satInc_moves _ _ (by decide)) (Foot.sub1 (by decide +kernel) (Foot.holds_reg (by decide +kernel)))
    refine Moves.seq ?_ (State.moveTime_moves ..) (Foot.sub0 (by decide +kernel))
    exact Moves.refl _
  intro h1
  try clear_value x1
  extract_lets -merge -underBinder +onlyGivenNames x2
  refine Moves.let_ x2 ?_ ?_
  · subst x2
    refine Moves.seq ?_ (State.wr_moves _ _ (by decide)) (Foot.sub1 (by decide +kernel) (Foot.holds_reg (by decide +kernel)))
    exact h1
  intro h2
  try clear_value x2
  refine Moves.ite (fun hc => ?_) (fun hc => ?_)
  · refine Moves.seq ?_ (State.timEnter_moves ..) (Foot.sub0 (by decide +kernel))
    exact h2
  · refine Moves.seq ?_ (State.clearWithin_moves ..) (Foot.sub0 (by decide +kernel))
    exact h2

def Foot.servoSlew : Foot :=
  ⟨[(0x090010, 0x090010), (0x090064, 0x090064), (0x091010, 0x091010), (0x091050, 0x091050), (0x091058,
    0x091058)], [], [.evq, .tim]⟩

theorem State.servoSlew_moves (s : State) : Moves (Foot.servoSlew.at []) s (State.servoSlew s) := by
  unfold State.servoSlew
  extract_lets -merge -underBinder +onlyGivenNames x1
  subst x1
  extract_lets -merge -underBinder +onlyGivenNames x2
  refine Moves.let_ x2 ?_ ?_
  · subst x2
    refine Moves.seq ?_ (State.putB_moves _ _ _ (by decide)) (Foot.sub1 (by decide +kernel) (Foot.holds_reg (by decide +kernel)))
    refine Moves.seq ?_ (State.wr_moves _ _ (by decide)) (Foot.sub1 (by decide +kernel) (Foot.holds_reg (by decide +kernel)))
    exact Moves.refl _
  intro h2
  try clear_value x2
  extract_lets -merge -underBinder +onlyGivenNames x3
  refine Moves.let_ x3 ?_ ?_
  · subst x3
    refine Moves.ite (fun hc => ?_) (fun hc => ?_)
    · exact h2
    · refine Moves.seq ?_ (State.raise_moves ..) (Foot.sub1 (by decide +kernel) (Foot.holds_reg (by decide +kernel)))
      exact h2
  intro h3
  try clear_value x3
  refine Moves.ite (fun hc => ?_) (fun hc => ?_)
  · refine Moves.seq ?_ (State.timEnter_moves ..) (Foot.sub0 (by decide +kernel))
    exact h3
  · refine Moves.seq ?_ (State.clearWithin_moves ..) (Foot.sub0 (by decide +kernel))
    exact h3

def Foot.servoTrack : Foot := ⟨[(0x090010, 0x090010), (0x090064, 0x090064), (0x091010, 0x091010), (0x091050, 0x091058)], [], [.evq, .tim]⟩

theorem State.servoTrack_moves (s : State) (e : Int) : Moves (Foot.servoTrack.at []) s (State.servoTrack s e) := by
  unfold State.servoTrack
  extract_lets -merge -underBinder +onlyGivenNames x1
  subst x1
  extract_lets -merge -underBinder +onlyGivenNames x2
  subst x2
  extract_lets -merge -underBinder +onlyGivenNames x3
  refine Moves.let_ x3 ?_ ?_
  · subst x3
    refine Moves.seq ?_ (State.wr_moves _ _ (by decide)) (Foot.sub1 (by decide +kernel) (Foot.holds_reg (by decide +kernel)))
    refine Moves.seq ?_ (State.wr_moves _ _ (by decide)) (Foot.sub1 (by decide +kernel) (Foot.holds_reg (by decide +kernel)))
    exact Moves.refl _
  intro h3
  skip
  extract_lets -merge -underBinder +onlyGivenNames x4
  refine Moves.let_ x4 ?_ ?_
  · subst x4
    refine Moves.seq ?_ (State.putB_moves _ _ _ (by decide)) (Foot.sub1 (by decide +kernel) (Foot.holds_reg (by decide +kernel)))
    exact h3
  intro h4
  skip
  extract_lets -merge -underBinder +onlyGivenNames x5
  subst x5
  extract_lets -merge -underBinder +onlyGivenNames x6
  subst x6
  extract_lets -merge -underBinder +onlyGivenNames x7
  refine Moves.let_ x7 ?_ ?_
  · subst x7
    refine Moves.ite (fun hc => ?_) (fun hc => ?_)
    · refine Moves.seq ?_ (Moves.upd_tim _ _) (Foot.sub0 (by decide +kernel))
      exact h4
    · refine Moves.seq ?_ (Moves.upd_tim _ _) (Foot.sub0 (by decide +kernel))
      exact h4
  intro h7
  skip
  refine Moves.ite (fun hc => ?_) (fun hc => ?_)
  · refine Moves.seq ?_ (State.timEnter_moves ..) (Foot.sub0 (by decide +kernel))
    exact h7
  · refine Moves.ite (fun hc => ?_) (fun hc => ?_)
    · refine Moves.seq ?_ (State.timEnter_moves ..) (Foot.sub0 (by decide +kernel))
      exact h7
    · exact h7

def Foot.servo : Foot := ⟨[(0x090010, 0x090010), (0x090064, 0x090064), (0x091010, 0x091010), (0x09104C, 0x091058)], [], [.evq, .tim]⟩

theorem State.servo_moves (s : State) (e : Int) : Moves (Foot.servo.at []) s (State.servo s e) := by
  unfold State.servo
  refine Moves.ite (fun hc => ?_) (fun hc => ?_)
  · exact Moves.refl _
  · extract_lets -merge -underBinder +onlyGivenNames x1
    refine Moves.let_ x1 ?_ ?_
    · subst x1
      refine Moves.seq ?_ (State.wr_moves _ _ (by decide)) (Foot.sub1 (by decide +kernel) (Foot.holds_reg (by decide +kernel)))
      exact Moves.refl _
    intro h1
    try clear_value x1
    extract_lets -merge -underBinder +onlyGivenNames x2
    refine Moves.let_ x2 ?_ ?_
    · subst x2
      refine Moves.ite (fun hc => ?_) (fun hc => ?_)
      · refine Moves.seq ?_ (State.timEnter_moves ..) (Foot.sub0 (by decide +kernel))
        exact h1
      · exact h1
    intro h2
    try clear_value x2
    refine Moves.ite (fun hc => ?_) (fun hc => ?_)
    · refine Moves.seq ?_ (State.servoStep_moves ..) (Foot.sub0 (by decide +kernel))
      exact h2
    · refine Moves.ite (fun hc => ?_) (fun hc => ?_)
      · refine Moves.seq ?_ (State.servoSlew_moves ..) (Foot.sub0 (by decide +kernel))
        exact h2
      · refine Moves.seq ?_ (State.servoTrack_moves ..) (Foot.sub0 (by decide +kernel))
        exact h2

def Foot.timFollow : Foot :=
  ⟨[(0x090010, 0x090010), (0x090058, 0x090064), (0x091010, 0x091010), (0x09104C, 0x091058), (0x093060,
    0x093060)], [], [.evq, .tim]⟩

theorem State.timFollow_moves (s : State) (e : Int) (w : WofsPend) : Moves (Foot.timFollow.at []) s (State.timFollow s e w) := by
  unfold State.timFollow
  extract_lets -merge -underBinder +onlyGivenNames x1
  subst x1
  extract_lets -merge -underBinder +onlyGivenNames x2
  subst x2
  extract_lets -merge -underBinder +onlyGivenNames x3
  refine Moves.let_ x3 ?_ ?_
  · subst x3
    refine Moves.seq ?_ (State.servo_moves ..) (Foot.sub0 (by decide +kernel))
    exact Moves.refl _
  intro h3
  try clear_value x3
  refine Moves.ite (fun hc => ?_) (fun hc => ?_)
  · refine Moves.seq ?_ (State.wallStep_moves ..) (Foot.sub0 (by decide +kernel))
    refine Moves.seq ?_ (State.wofsSet_moves ..) (Foot.sub0 (by decide +kernel))
    exact h3
  · extract_lets -merge -underBinder +onlyGivenNames x4
    refine Moves.let_ x4 ?_ ?_
    · subst x4
      refine Moves.ite (fun hc => ?_) (fun hc => ?_)
      · refine Moves.seq ?_ (State.wallStep_moves ..) (Foot.sub0 (by decide +kernel))
        exact h3
      · exact h3
    intro h4
    try clear_value x4
    refine Moves.ite (fun hc => ?_) (fun hc => ?_)
    · exact h4
    · refine Moves.seq ?_ (State.putB_moves _ _ _ (by decide)) (Foot.sub1 (by decide +kernel) (Foot.holds_reg (by decide +kernel)))
      refine Moves.seq ?_ (Moves.upd_tim _ _) (Foot.sub0 (by decide +kernel))
      exact h4

def Foot.timeFrameRx : Foot :=
  ⟨[(0x090010, 0x090010), (0x090058, 0x090064), (0x091010, 0x091010), (0x09104C, 0x09105C), (0x093060,
    0x093060)], [], [.evq, .tim]⟩

theorem State.timeFrameRx_moves (s : State) (p : BPort) (f : NFrame) :
    Moves (Foot.timeFrameRx.at []) s (State.timeFrameRx s p f) := by
  unfold State.timeFrameRx
  refine Moves.ite (fun hc => ?_) (fun hc => ?_)
  · exact Moves.refl _
  · split
    · exact Moves.refl _
    · refine Moves.ite (fun hc => ?_) (fun hc => ?_)
      · exact Moves.refl _
      · refine Moves.ite (fun hc => ?_) (fun hc => ?_)
        · refine Moves.seq ?_ (State.satInc_moves _ _ (by decide)) (Foot.sub1 (by decide +kernel) (Foot.holds_reg (by decide +kernel)))
          exact Moves.refl _
        · refine Moves.ite (fun hc => ?_) (fun hc => ?_)
          · exact Moves.refl _
          · refine Moves.ite (fun hc => ?_) (fun hc => ?_)
            · refine Moves.ite (fun hc => ?_) (fun hc => ?_)
              · exact Moves.refl _
              · refine Moves.seq ?_ (State.gmConflict_moves ..) (Foot.sub0 (by decide +kernel))
                exact Moves.refl _
            · refine Moves.ite (fun hc => ?_) (fun hc => ?_)
              · exact Moves.refl _
              · extract_lets -merge -underBinder +onlyGivenNames x1
                subst x1
                extract_lets -merge -underBinder +onlyGivenNames x2
                refine Moves.let_ x2 ?_ ?_
                · subst x2
                  refine Moves.ite (fun hc => ?_) (fun hc => ?_)
                  · refine Moves.seq ?_ (State.gmConflict_moves ..) (Foot.sub0 (by decide +kernel))
                    exact Moves.refl _
                  · exact Moves.refl _
                intro h2
                try clear_value x2
                refine Moves.ite (fun hc => ?_) (fun hc => ?_)
                · exact h2
                · extract_lets -merge -underBinder +onlyGivenNames x3
                  subst x3
                  extract_lets -merge -underBinder +onlyGivenNames x4
                  refine Moves.let_ x4 ?_ ?_
                  · subst x4
                    refine Moves.seq ?_ (Moves.upd_tim _ _) (Foot.sub0 (by decide +kernel))
                    exact h2
                  intro h4
                  try clear_value x4
                  split
                  · refine Moves.seq ?_ (State.satInc_moves _ _ (by decide)) (Foot.sub1 (by decide +kernel) (Foot.holds_reg (by decide +kernel)))
                    exact h4
                  · extract_lets -merge -underBinder +onlyGivenNames x5
                    subst x5
                    extract_lets -merge -underBinder +onlyGivenNames x6
                    subst x6
                    extract_lets -merge -underBinder +onlyGivenNames x7
                    refine Moves.let_ x7 ?_ ?_
                    · subst x7
                      refine Moves.seq ?_ (State.put_moves _ _ _ (by decide)) (Foot.sub1 (by decide +kernel) (Foot.holds_reg (by decide +kernel)))
                      refine Moves.seq ?_ (State.wrapInc_moves _ _ (by decide)) (Foot.sub1 (by decide +kernel) (Foot.holds_reg (by decide +kernel)))
                      exact h4
                    intro h7
                    try clear_value x7
                    extract_lets -merge -underBinder +onlyGivenNames x8
                    subst x8
                    extract_lets -merge -underBinder +onlyGivenNames x9
                    refine Moves.let_ x9 ?_ ?_
                    · subst x9
                      refine Moves.seq ?_ (State.putB_moves _ _ _ (by decide)) (Foot.sub1 (by decide +kernel) (Foot.holds_reg (by decide +kernel)))
                      refine Moves.seq ?_ (Moves.upd_tim _ _) (Foot.sub0 (by decide +kernel))
                      exact h7
                    intro h9
                    try clear_value x9
                    extract_lets -merge -underBinder +onlyGivenNames x10
                    refine Moves.let_ x10 ?_ ?_
                    · subst x10
                      split
                      · refine Moves.seq ?_ (State.put_moves _ _ _ (by decide)) (Foot.sub1 (by decide +kernel) (Foot.holds_reg (by decide +kernel)))
                        refine Moves.seq ?_ (Moves.upd_tim _ _) (Foot.sub0 (by decide +kernel))
                        exact h9
                      · exact h9
                    intro h10
                    try clear_value x10
                    refine Moves.ite (fun hc => ?_) (fun hc => ?_)
                    · extract_lets -merge -underBinder +onlyGivenNames x11
                      subst x11
                      refine Moves.seq ?_ (State.wallStep_moves ..) (Foot.sub0 (by decide +kernel))
                      refine Moves.seq ?_ (State.timEnter_moves ..) (Foot.sub0 (by decide +kernel))
                      refine Moves.seq ?_ (State.wofsSet_moves ..) (Foot.sub0 (by decide +kernel))
                      refine Moves.seq ?_ (State.moveTime_moves ..) (Foot.sub0 (by decide +kernel))
                      exact h10
                    · refine Moves.seq ?_ (State.timFollow_moves ..) (Foot.sub0 (by decide +kernel))
                      exact h10

def Foot.modWake : Foot := ⟨[], [], [.wake]⟩

theorem State.modWake_moves (s : State) (f : WakeState → WakeState) : Moves (Foot.modWake.at []) s (State.modWake s f) := by
  unfold State.modWake
  refine Moves.seq ?_ (Moves.upd_wake _ _) (Foot.sub0 (by decide +kernel))
  exact Moves.refl _

def Foot.endDusk : Foot := ⟨[(0x003040, 0x003040), (0x003050, 0x003050)], [], [.wake]⟩

theorem State.endDusk_moves (s : State) : Moves (Foot.endDusk.at []) s (State.endDusk s) := by
  unfold State.endDusk
  extract_lets -merge -underBinder +onlyGivenNames x1
  refine Moves.let_ x1 ?_ ?_
  · subst x1
    refine Moves.seq ?_ (State.modWake_moves ..) (Foot.sub0 (by decide +kernel))
    exact Moves.refl _
  intro h1
  try clear_value x1
  refine Moves.seq ?_ (State.put_moves _ _ _ (by decide)) (Foot.sub1 (by decide +kernel) (Foot.holds_reg (by decide +kernel)))
  refine Moves.seq ?_ (State.put_moves _ _ _ (by decide)) (Foot.sub1 (by decide +kernel) (Foot.holds_reg (by decide +kernel)))
  exact h1

def Foot.gotCancel : Foot := ⟨[(0x003010, 0x003010), (0x003040, 0x003040), (0x003050, 0x003050), (0x00306C, 0x00306C)], [], [.wake]⟩

theorem State.gotCancel_moves (s : State) (frame : Bool) : Moves (Foot.gotCancel.at []) s (State.gotCancel s frame) := by
  unfold State.gotCancel
  extract_lets -merge -underBinder +onlyGivenNames x1
  refine Moves.let_ x1 ?_ ?_
  · subst x1
    refine Moves.seq ?_ (State.raise_moves ..) (Foot.sub1 (by decide +kernel) (Foot.holds_reg (by decide +kernel)))
    exact Moves.refl _
  intro h1
  try clear_value x1
  extract_lets -merge -underBinder +onlyGivenNames x2
  refine Moves.let_ x2 ?_ ?_
  · subst x2
    refine Moves.ite (fun hc => ?_) (fun hc => ?_)
    · refine Moves.seq ?_ (State.satInc_moves _ _ (by decide)) (Foot.sub1 (by decide +kernel) (Foot.holds_reg (by decide +kernel)))
      exact h1
    · exact h1
  intro h2
  try clear_value x2
  refine Moves.seq ?_ (State.endDusk_moves ..) (Foot.sub0 (by decide +kernel))
  refine Moves.seq ?_ (State.modWake_moves ..) (Foot.sub0 (by decide +kernel))
  exact h2

def Foot.sleepSend : Foot := ⟨[], [], [.out, .beam, .fab]⟩

theorem State.sleepSend_moves (s : State) (flow : Nat) (atype : Nat) (dst : Nat) (payload : List Byte) :
    Moves (Foot.sleepSend.at []) s (State.sleepSend s flow atype dst payload) := by
  unfold State.sleepSend
  extract_lets -merge -underBinder +onlyGivenNames x1
  subst x1
  extract_lets -merge -underBinder +onlyGivenNames x2
  refine Moves.let_ x2 ?_ ?_
  · subst x2
    refine Moves.seq ?_ (State.seqUsed_moves ..) (Foot.sub0 (by decide +kernel))
    exact Moves.refl _
  intro h2
  try clear_value x2
  extract_lets -merge -underBinder +onlyGivenNames x3
  refine Moves.let_ x3 ?_ ?_
  · subst x3
    simp -zeta only [List.foldl_cons, List.foldl_nil]
    refine Moves.seq ?_ (State.sendAll_moves ..) (Foot.sub0 (by decide +kernel))
    refine Moves.seq ?_ (State.sendAll_moves ..) (Foot.sub0 (by decide +kernel))
    exact h2
  intro h3
  try clear_value x3
  refine Moves.seq ?_ (State.toSubslot_moves ..) (Foot.sub0 (by decide +kernel))
  exact h3

def Foot.sendCancel : Foot := ⟨[], [], [.out, .beam, .fab]⟩

theorem State.sendCancel_moves (s : State) : Moves (Foot.sendCancel.at []) s (State.sendCancel s) := by
  unfold State.sendCancel
  split
  · refine Moves.seq ?_ (State.sleepSend_moves ..) (Foot.sub0 (by decide +kernel))
    exact Moves.refl _
  · exact Moves.refl _

def Foot.cancelDusk : Foot :=
  ⟨[(0x003010, 0x003010), (0x003040, 0x003040), (0x003050, 0x003050), (0x00306C, 0x00306C)], [], [.out,
    .beam, .fab, .wake]⟩

theorem State.cancelDusk_moves (s : State) (cause : Nat) (node : Nat) :
    Moves (Foot.cancelDusk.at []) s (State.cancelDusk s cause node) := by
  unfold State.cancelDusk
  refine Moves.seq ?_ (State.gotCancel_moves ..) (Foot.sub0 (by decide +kernel))
  refine Moves.seq ?_ (State.sendCancel_moves ..) (Foot.sub0 (by decide +kernel))
  refine Moves.seq ?_ (State.modWake_moves ..) (Foot.sub0 (by decide +kernel))
  exact Moves.refl _

def Foot.sendVeto : Foot := ⟨[], [], [.out, .beam, .fab]⟩

theorem State.sendVeto_moves (s : State) : Moves (Foot.sendVeto.at []) s (State.sendVeto s) := by
  unfold State.sendVeto
  split
  · refine Moves.seq ?_ (State.sleepSend_moves ..) (Foot.sub0 (by decide +kernel))
    exact Moves.refl _
  · exact Moves.refl _

def Foot.latchLate : Foot := ⟨[(0x003010, 0x003010), (0x00306C, 0x00306C)], [], [.wake]⟩

theorem State.latchLate_moves (s : State) (origin : Nat) : Moves (Foot.latchLate.at []) s (State.latchLate s origin) := by
  unfold State.latchLate
  refine Moves.seq ?_ (State.raise_moves ..) (Foot.sub1 (by decide +kernel) (Foot.holds_reg (by decide +kernel)))
  refine Moves.seq ?_ (State.satInc_moves _ _ (by decide)) (Foot.sub1 (by decide +kernel) (Foot.holds_reg (by decide +kernel)))
  refine Moves.seq ?_ (State.modWake_moves ..) (Foot.sub0 (by decide +kernel))
  exact Moves.refl _

def Foot.wakeRequest : Foot :=
  ⟨[(0x003010, 0x003010), (0x003040, 0x003040), (0x003050, 0x003050), (0x00306C, 0x00306C)], [], [.out,
    .beam, .fab, .wake]⟩

theorem State.wakeRequest_moves (s : State) (origin : Nat) : Moves (Foot.wakeRequest.at []) s (State.wakeRequest s origin) := by
  unfold State.wakeRequest
  refine Moves.ite (fun hc => ?_) (fun hc => ?_)
  · exact Moves.refl _
  · refine Moves.ite (fun hc => ?_) (fun hc => ?_)
    · refine Moves.ite (fun hc => ?_) (fun hc => ?_)
      · exact Moves.refl _
      · extract_lets -merge -underBinder +onlyGivenNames x1
        refine Moves.let_ x1 ?_ ?_
        · subst x1
          refine Moves.seq ?_ (State.satInc_moves _ _ (by decide)) (Foot.sub1 (by decide +kernel) (Foot.holds_reg (by decide +kernel)))
          refine Moves.seq ?_ (State.modWake_moves ..) (Foot.sub0 (by decide +kernel))
          exact Moves.refl _
        intro h1
        try clear_value x1
        refine Moves.ite (fun hc => ?_) (fun hc => ?_)
        · refine Moves.seq ?_ (State.cancelDusk_moves ..) (Foot.sub0 (by decide +kernel))
          exact h1
        · refine Moves.seq ?_ (State.sendVeto_moves ..) (Foot.sub0 (by decide +kernel))
          exact h1
    · refine Moves.ite (fun hc => ?_) (fun hc => ?_)
      · exact Moves.refl _
      · refine Moves.seq ?_ (State.latchLate_moves ..) (Foot.sub0 (by decide +kernel))
        exact Moves.refl _

def Foot.enterDusk : Foot :=
  ⟨[(0x003010, 0x003010), (0x003040, 0x003040), (0x003050, 0x003058), (0x00306C, 0x00306C)], [], [.out,
    .beam, .fab, .wake]⟩

theorem State.enterDusk_moves (s : State) (n : Nat) (id : Nat) (first : Nat) (last : Nat) (auto : Bool) (coord : Nat) :
    Moves (Foot.enterDusk.at []) s (State.enterDusk s n id first last auto coord) := by
  unfold State.enterDusk
  extract_lets -merge -underBinder +onlyGivenNames x1
  refine Moves.let_ x1 ?_ ?_
  · subst x1
    refine Moves.seq ?_ (State.put_moves _ _ _ (by decide)) (Foot.sub1 (by decide +kernel) (Foot.holds_reg (by decide +kernel)))
    exact Moves.refl _
  intro h1
  try clear_value x1
  extract_lets -merge -underBinder +onlyGivenNames x2
  refine Moves.let_ x2 ?_ ?_
  · subst x2
    refine Moves.seq ?_ (State.put_moves _ _ _ (by decide)) (Foot.sub1 (by decide +kernel) (Foot.holds_reg (by decide +kernel)))
    refine Moves.seq ?_ (State.put_moves _ _ _ (by decide)) (Foot.sub1 (by decide +kernel) (Foot.holds_reg (by decide +kernel)))
    exact h1
  intro h2
  try clear_value x2
  extract_lets -merge -underBinder +onlyGivenNames x3
  refine Moves.let_ x3 ?_ ?_
  · subst x3
    refine Moves.seq ?_ (State.putB_moves _ _ _ (by decide)) (Foot.sub1 (by decide +kernel) (Foot.holds_reg (by decide +kernel)))
    refine Moves.seq ?_ (State.put_moves _ _ _ (by decide)) (Foot.sub1 (by decide +kernel) (Foot.holds_reg (by decide +kernel)))
    refine Moves.seq ?_ (State.put_moves _ _ _ (by decide)) (Foot.sub1 (by decide +kernel) (Foot.holds_reg (by decide +kernel)))
    exact h2
  intro h3
  try clear_value x3
  extract_lets -merge -underBinder +onlyGivenNames x4
  subst x4
  extract_lets -merge -underBinder +onlyGivenNames x5
  refine Moves.let_ x5 ?_ ?_
  · subst x5
    refine Moves.seq ?_ (State.raise_moves ..) (Foot.sub1 (by decide +kernel) (Foot.holds_reg (by decide +kernel)))
    refine Moves.seq ?_ (State.put_moves _ _ _ (by decide)) (Foot.sub1 (by decide +kernel) (Foot.holds_reg (by decide +kernel)))
    exact h3
  intro h5
  try clear_value x5
  refine Moves.ite (fun hc => ?_) (fun hc => ?_)
  · refine Moves.seq ?_ (State.wakeRequest_moves ..) (Foot.sub0 (by decide +kernel))
    exact h5
  · exact h5

def Foot.duskRx : Foot :=
  ⟨[(0x003010, 0x003010), (0x003040, 0x003040), (0x003050, 0x003058), (0x00306C, 0x00306C)], [], [.out,
    .beam, .fab, .wake]⟩

theorem State.duskRx_moves (s : State) (f : NFrame) : Moves (Foot.duskRx.at []) s (State.duskRx s f) := by
  unfold State.duskRx
  extract_lets -merge -underBinder +onlyGivenNames x1
  subst x1
  extract_lets -merge -underBinder +onlyGivenNames x2
  subst x2
  refine Moves.ite (fun hc => ?_) (fun hc => ?_)
  · exact Moves.refl _
  · refine Moves.seq ?_ (State.enterDusk_moves ..) (Foot.sub0 (by decide +kernel))
    exact Moves.refl _

def Foot.vetoRx : Foot :=
  ⟨[(0x003010, 0x003010), (0x003040, 0x003040), (0x003050, 0x003050), (0x00306C, 0x00306C)], [], [.out,
    .beam, .fab, .wake]⟩

theorem State.vetoRx_moves (s : State) (f : NFrame) : Moves (Foot.vetoRx.at []) s (State.vetoRx s f) := by
  unfold State.vetoRx
  refine Moves.ite (fun hc => ?_) (fun hc => ?_)
  · refine Moves.ite (fun hc => ?_) (fun hc => ?_)
    · refine Moves.seq ?_ (State.cancelDusk_moves ..) (Foot.sub0 (by decide +kernel))
      exact Moves.refl _
    · refine Moves.seq ?_ (State.modWake_moves ..) (Foot.sub0 (by decide +kernel))
      exact Moves.refl _
  · exact Moves.refl _

end Sys2Proof.Machine
end

