-- ==== Sys2Proof/Laws/Foot03.lean ====
section
/-!
SUPPORT. What the operations may touch: one footprint and one lemma each.
-/

namespace Sys2Proof.Machine

set_option Elab.async false

def Foot.cancelRx : Foot := ⟨[(0x003010, 0x003010), (0x003040, 0x003040), (0x003050, 0x003050), (0x00306C, 0x00306C)], [], [.wake]⟩

theorem State.cancelRx_moves (s : State) (f : NFrame) : Moves (Foot.cancelRx.at []) s (State.cancelRx s f) := by
  unfold State.cancelRx
  refine Moves.ite (fun hc => ?_) (fun hc => ?_)
  · refine Moves.seq ?_ (State.gotCancel_moves ..) (Foot.sub0 (by decide +kernel))
    exact Moves.refl _
  · exact Moves.refl _

def Foot.sendDusk : Foot := ⟨[], [], [.out, .beam, .fab]⟩

theorem State.sendDusk_moves (s : State) : Moves (Foot.sendDusk.at []) s (State.sendDusk s) := by
  unfold State.sendDusk
  refine Moves.seq ?_ (State.sleepSend_moves ..) (Foot.sub0 (by decide +kernel))
  exact Moves.refl _

def Foot.propose : Foot :=
  ⟨[(0x003010, 0x003010), (0x003040, 0x003040), (0x00304C, 0x003058), (0x00306C, 0x00306C)], [], [.out,
    .beam, .fab, .wake]⟩

theorem State.propose_moves (s : State) : Moves (Foot.propose.at []) s (State.propose s) := by
  unfold State.propose
  extract_lets -merge -underBinder +onlyGivenNames x1
  subst x1
  extract_lets -merge -underBinder +onlyGivenNames x2
  subst x2
  extract_lets -merge -underBinder +onlyGivenNames x3
  subst x3
  try dsimp -zeta only
  refine Moves.ite (fun hc => ?_) (fun hc => ?_)
  · refine Moves.seq ?_ (State.raise_moves ..) (Foot.sub1 (by decide +kernel) (Foot.holds_reg (by decide +kernel)))
    refine Moves.seq ?_ (State.put_moves _ _ _ (by decide)) (Foot.sub1 (by decide +kernel) (Foot.holds_reg (by decide +kernel)))
    exact Moves.refl _
  · refine Moves.ite (fun hc => ?_) (fun hc => ?_)
    · refine Moves.seq ?_ (State.raise_moves ..) (Foot.sub1 (by decide +kernel) (Foot.holds_reg (by decide +kernel)))
      refine Moves.seq ?_ (State.put_moves _ _ _ (by decide)) (Foot.sub1 (by decide +kernel) (Foot.holds_reg (by decide +kernel)))
      exact Moves.refl _
    · refine Moves.ite (fun hc => ?_) (fun hc => ?_)
      · refine Moves.seq ?_ (State.raise_moves ..) (Foot.sub1 (by decide +kernel) (Foot.holds_reg (by decide +kernel)))
        refine Moves.seq ?_ (State.put_moves _ _ _ (by decide)) (Foot.sub1 (by decide +kernel) (Foot.holds_reg (by decide +kernel)))
        exact Moves.refl _
      · split
        · refine Moves.seq ?_ (State.raise_moves ..) (Foot.sub1 (by decide +kernel) (Foot.holds_reg (by decide +kernel)))
          refine Moves.seq ?_ (State.put_moves _ _ _ (by decide)) (Foot.sub1 (by decide +kernel) (Foot.holds_reg (by decide +kernel)))
          exact Moves.refl _
        · refine Moves.ite (fun hc => ?_) (fun hc => ?_)
          · refine Moves.seq ?_ (State.raise_moves ..) (Foot.sub1 (by decide +kernel) (Foot.holds_reg (by decide +kernel)))
            refine Moves.seq ?_ (State.put_moves _ _ _ (by decide)) (Foot.sub1 (by decide +kernel) (Foot.holds_reg (by decide +kernel)))
            exact Moves.refl _
          · extract_lets -merge -underBinder +onlyGivenNames x4
            refine Moves.let_ x4 ?_ ?_
            · subst x4
              refine Moves.seq ?_ (State.put_moves _ _ _ (by decide)) (Foot.sub1 (by decide +kernel) (Foot.holds_reg (by decide +kernel)))
              exact Moves.refl _
            intro h4
            try clear_value x4
            extract_lets -merge -underBinder +onlyGivenNames x5
            refine Moves.let_ x5 ?_ ?_
            · subst x5
              refine Moves.seq ?_ (State.enterDusk_moves ..) (Foot.sub0 (by decide +kernel))
              exact h4
            intro h5
            try clear_value x5
            refine Moves.seq ?_ (State.sendDusk_moves ..) (Foot.sub0 (by decide +kernel))
            refine Moves.seq ?_ (State.modWake_moves ..) (Foot.sub0 (by decide +kernel))
            exact h5

def Foot.sleepPolicy : Foot :=
  ⟨[(0x003010, 0x003010), (0x003040, 0x003040), (0x003048, 0x003058), (0x00306C, 0x00306C)], [], [.out,
    .beam, .fab, .wake]⟩

theorem State.sleepPolicy_moves (s : State) (origin : Nat) : Moves (Foot.sleepPolicy.at []) s (State.sleepPolicy s origin) := by
  unfold State.sleepPolicy
  split
  · exact Moves.refl _
  · extract_lets -merge -underBinder +onlyGivenNames x1
    subst x1
    try dsimp -zeta only
    refine Moves.ite (fun hc => ?_) (fun hc => ?_)
    · exact Moves.refl _
    · extract_lets -merge -underBinder +onlyGivenNames x2
      refine Moves.let_ x2 ?_ ?_
      · subst x2
        refine Moves.seq ?_ (State.put_moves _ _ _ (by decide)) (Foot.sub1 (by decide +kernel) (Foot.holds_reg (by decide +kernel)))
        exact Moves.refl _
      intro h2
      try clear_value x2
      extract_lets -merge -underBinder +onlyGivenNames x3
      refine Moves.let_ x3 ?_ ?_
      · subst x3
        refine Moves.seq ?_ (State.put_moves _ _ _ (by decide)) (Foot.sub1 (by decide +kernel) (Foot.holds_reg (by decide +kernel)))
        refine Moves.seq ?_ (State.put_moves _ _ _ (by decide)) (Foot.sub1 (by decide +kernel) (Foot.holds_reg (by decide +kernel)))
        exact h2
      intro h3
      try clear_value x3
      refine Moves.seq ?_ (State.propose_moves ..) (Foot.sub0 (by decide +kernel))
      refine Moves.seq ?_ (State.putB_moves _ _ _ (by decide)) (Foot.sub1 (by decide +kernel) (Foot.holds_reg (by decide +kernel)))
      exact h3

def Foot.sleepAsked : Foot :=
  ⟨[(0x003010, 0x003010), (0x003040, 0x003040), (0x003048, 0x003058), (0x00306C, 0x00306C)], [], [.out,
    .beam, .fab, .wake]⟩

theorem State.sleepAsked_moves (s : State) (origin : Nat) : Moves (Foot.sleepAsked.at []) s (State.sleepAsked s origin) := by
  unfold State.sleepAsked
  refine Moves.ite (fun hc => ?_) (fun hc => ?_)
  · refine Moves.seq ?_ (State.sleepPolicy_moves ..) (Foot.sub0 (by decide +kernel))
    refine Moves.seq ?_ (State.raise_moves ..) (Foot.sub1 (by decide +kernel) (Foot.holds_reg (by decide +kernel)))
    exact Moves.refl _
  · exact Moves.refl _

def Foot.sleepRequestRx : Foot :=
  ⟨[(0x003010, 0x003010), (0x003040, 0x003040), (0x003048, 0x003058), (0x00306C, 0x00306C)], [],
    [.out, .beam, .fab, .wake]⟩

theorem State.sleepRequestRx_moves (s : State) (f : NFrame) : Moves (Foot.sleepRequestRx.at []) s (State.sleepRequestRx s f) := by
  unfold State.sleepRequestRx
  refine Moves.ite (fun hc => ?_) (fun hc => ?_)
  · refine Moves.seq ?_ (State.sleepAsked_moves ..) (Foot.sub0 (by decide +kernel))
    exact Moves.refl _
  · exact Moves.refl _

def Foot.pulseOut : Foot := ⟨[(0x003064, 0x003064)], [], [.out, .wake]⟩

theorem State.pulseOut_moves (s : State) (p : BPort) : Moves (Foot.pulseOut.at []) s (State.pulseOut s p) := by
  unfold State.pulseOut
  extract_lets -merge -underBinder +onlyGivenNames x1
  refine Moves.let_ x1 ?_ ?_
  · subst x1
    refine Moves.seq ?_ (State.modWake_moves ..) (Foot.sub0 (by decide +kernel))
    exact Moves.refl _
  intro h1
  try clear_value x1
  refine Moves.seq ?_ (State.emit_moves ..) (Foot.sub0 (by decide +kernel))
  refine Moves.seq ?_ (State.satInc_moves _ _ (by decide)) (Foot.sub1 (by decide +kernel) (Foot.holds_reg (by decide +kernel)))
  exact h1

def Foot.relayDawn : Foot := ⟨[(0x003064, 0x003064)], [], [.out, .wake]⟩

theorem State.relayDawn_moves (s : State) : Moves (Foot.relayDawn.at []) s (State.relayDawn s) := by
  unfold State.relayDawn
  simp -zeta only [List.foldl_cons, List.foldl_nil]
  refine Moves.ite (fun hc => ?_) (fun hc => ?_)
  · refine Moves.seq ?_ (State.pulseOut_moves ..) (Foot.sub0 (by decide +kernel))
    refine Moves.ite (fun hc => ?_) (fun hc => ?_)
    · refine Moves.seq ?_ (State.pulseOut_moves ..) (Foot.sub0 (by decide +kernel))
      refine Moves.ite (fun hc => ?_) (fun hc => ?_)
      · refine Moves.seq ?_ (State.pulseOut_moves ..) (Foot.sub0 (by decide +kernel))
        refine Moves.ite (fun hc => ?_) (fun hc => ?_)
        · refine Moves.seq ?_ (State.pulseOut_moves ..) (Foot.sub0 (by decide +kernel))
          exact Moves.refl _
        · exact Moves.refl _
      · refine Moves.ite (fun hc => ?_) (fun hc => ?_)
        · refine Moves.seq ?_ (State.pulseOut_moves ..) (Foot.sub0 (by decide +kernel))
          exact Moves.refl _
        · exact Moves.refl _
    · refine Moves.ite (fun hc => ?_) (fun hc => ?_)
      · refine Moves.seq ?_ (State.pulseOut_moves ..) (Foot.sub0 (by decide +kernel))
        refine Moves.ite (fun hc => ?_) (fun hc => ?_)
        · refine Moves.seq ?_ (State.pulseOut_moves ..) (Foot.sub0 (by decide +kernel))
          exact Moves.refl _
        · exact Moves.refl _
      · refine Moves.ite (fun hc => ?_) (fun hc => ?_)
        · refine Moves.seq ?_ (State.pulseOut_moves ..) (Foot.sub0 (by decide +kernel))
          exact Moves.refl _
        · exact Moves.refl _
  · refine Moves.ite (fun hc => ?_) (fun hc => ?_)
    · refine Moves.seq ?_ (State.pulseOut_moves ..) (Foot.sub0 (by decide +kernel))
      refine Moves.ite (fun hc => ?_) (fun hc => ?_)
      · refine Moves.seq ?_ (State.pulseOut_moves ..) (Foot.sub0 (by decide +kernel))
        refine Moves.ite (fun hc => ?_) (fun hc => ?_)
        · refine Moves.seq ?_ (State.pulseOut_moves ..) (Foot.sub0 (by decide +kernel))
          exact Moves.refl _
        · exact Moves.refl _
      · refine Moves.ite (fun hc => ?_) (fun hc => ?_)
        · refine Moves.seq ?_ (State.pulseOut_moves ..) (Foot.sub0 (by decide +kernel))
          exact Moves.refl _
        · exact Moves.refl _
    · refine Moves.ite (fun hc => ?_) (fun hc => ?_)
      · refine Moves.seq ?_ (State.pulseOut_moves ..) (Foot.sub0 (by decide +kernel))
        refine Moves.ite (fun hc => ?_) (fun hc => ?_)
        · refine Moves.seq ?_ (State.pulseOut_moves ..) (Foot.sub0 (by decide +kernel))
          exact Moves.refl _
        · exact Moves.refl _
      · refine Moves.ite (fun hc => ?_) (fun hc => ?_)
        · refine Moves.seq ?_ (State.pulseOut_moves ..) (Foot.sub0 (by decide +kernel))
          exact Moves.refl _
        · exact Moves.refl _

def Foot.dawnRx : Foot := ⟨[(0x003064, 0x003064)], [], [.out, .wake]⟩

theorem State.dawnRx_moves (s : State) (f : NFrame) : Moves (Foot.dawnRx.at []) s (State.dawnRx s f) := by
  unfold State.dawnRx
  refine Moves.ite (fun hc => ?_) (fun hc => ?_)
  · exact Moves.refl _
  · extract_lets -merge -underBinder +onlyGivenNames x1
    subst x1
    extract_lets -merge -underBinder +onlyGivenNames x2
    subst x2
    refine Moves.ite (fun hc => ?_) (fun hc => ?_)
    · exact Moves.refl _
    · refine Moves.seq ?_ (State.relayDawn_moves ..) (Foot.sub0 (by decide +kernel))
      refine Moves.seq ?_ (State.modWake_moves ..) (Foot.sub0 (by decide +kernel))
      exact Moves.refl _

def Foot.islandRx : Foot :=
  ⟨[(0x003010, 0x003010), (0x003040, 0x003040), (0x003048, 0x003058), (0x003064, 0x003064), (0x00306C,
    0x00306C), (0x032010, 0x032010), (0x032060, 0x03206C), (0x090010, 0x090010), (0x090058, 0x090064), (0x091010, 0x091010), (0x09104C,
    0x09105C), (0x093060, 0x093060), (0x0C0010, 0x0C0010), (0x0C0048, 0x0C004C), (0x0C1010, 0x0C1010), (0x0C1048, 0x0C10B8), (0x0C1100,
    0x0C1100), (0x0C2010, 0x0C2010), (0x0C2040, 0x0C2044), (0x0C2100, 0x0C21FC), (0x0C3010, 0x0C3010), (0x0C3040, 0x0C307C), (0x0D1010,
    0x0D1010), (0x0D1054, 0x0D1064)], [], [.mem, .out, .evq, .fresh, .beam, .fab, .tim, .wake, .psc, .mgt]⟩

theorem State.islandRx_moves (s : State) (p : BPort) (f : NFrame) : Moves (Foot.islandRx.at []) s (State.islandRx s p f) := by
  unfold State.islandRx
  split
  · refine Moves.ite (fun hc => ?_) (fun hc => ?_)
    · refine Moves.seq ?_ (State.remoteRx_moves ..) (Foot.sub0 (by decide +kernel))
      exact Moves.refl _
    · refine Moves.seq ?_ (State.pscRx_moves ..) (Foot.sub0 (by decide +kernel))
      exact Moves.refl _
  · refine Moves.seq ?_ (State.timeFrameRx_moves ..) (Foot.sub0 (by decide +kernel))
    exact Moves.refl _
  · split
    · refine Moves.seq ?_ (State.duskRx_moves ..) (Foot.sub0 (by decide +kernel))
      exact Moves.refl _
    · refine Moves.seq ?_ (State.vetoRx_moves ..) (Foot.sub0 (by decide +kernel))
      exact Moves.refl _
    · refine Moves.seq ?_ (State.cancelRx_moves ..) (Foot.sub0 (by decide +kernel))
      exact Moves.refl _
    · refine Moves.seq ?_ (State.sleepRequestRx_moves ..) (Foot.sub0 (by decide +kernel))
      exact Moves.refl _
    · refine Moves.seq ?_ (State.dawnRx_moves ..) (Foot.sub0 (by decide +kernel))
      exact Moves.refl _
    · exact Moves.refl _
  · exact Moves.refl _

def Foot.afterFab : Foot :=
  ⟨[(0x003010, 0x003010), (0x003040, 0x003040), (0x003048, 0x003058), (0x003064, 0x003064), (0x00306C,
    0x00306C), (0x032010, 0x032010), (0x032060, 0x03206C), (0x090010, 0x090010), (0x090058, 0x090064), (0x091010, 0x091010), (0x09104C,
    0x09105C), (0x093060, 0x093060), (0x0C0010, 0x0C0010), (0x0C0048, 0x0C004C), (0x0C1010, 0x0C1010), (0x0C1048, 0x0C10B8), (0x0C1100,
    0x0C1100), (0x0C2010, 0x0C2010), (0x0C2040, 0x0C2044), (0x0C2100, 0x0C21FC), (0x0C3010, 0x0C3010), (0x0C3040, 0x0C307C), (0x0D1010,
    0x0D1010), (0x0D1054, 0x0D1064)], [], [.mem, .out, .evq, .fresh, .beam, .fab, .tim, .wake, .psc, .mgt]⟩

theorem State.afterFab_moves (s : State) (accepted : Bool) (p : BPort) (f : NFrame) :
    Moves (Foot.afterFab.at []) s (State.afterFab s accepted p f) := by
  unfold State.afterFab
  refine Moves.ite (fun hc => ?_) (fun hc => ?_)
  · refine Moves.seq ?_ (State.islandRx_moves ..) (Foot.sub0 (by decide +kernel))
    exact Moves.refl _
  · exact Moves.refl _

def Foot.msixRequest : Foot := ⟨[(0x0B3300, 0x0B3300)], [], [.out]⟩

theorem State.msixRequest_moves (s : State) (v : Nat) : Moves (Foot.msixRequest.at []) s (State.msixRequest s v) := by
  unfold State.msixRequest
  refine Moves.ite (fun hc => ?_) (fun hc => ?_)
  · exact Moves.refl _
  · refine Moves.ite (fun hc => ?_) (fun hc => ?_)
    · refine Moves.seq ?_ (State.emit_moves ..) (Foot.sub0 (by decide +kernel))
      exact Moves.refl _
    · refine Moves.seq ?_ (State.putB_moves _ _ _ (by show 733952 % 4096 ≠ 16; decide)) (Foot.sub1 (by decide +kernel) (Foot.holds_reg (lo := 733952) (hi := 733952) (by decide +kernel)))
      exact Moves.refl _

def Foot.vectorFollow : Foot := ⟨[(0x0B3300, 0x0B3300)], [], [.out, .acc]⟩

theorem State.vectorFollow_moves (s : State) (v : Nat) : Moves (Foot.vectorFollow.at []) s (State.vectorFollow s v) := by
  unfold State.vectorFollow
  extract_lets -merge -underBinder +onlyGivenNames x1
  subst x1
  extract_lets -merge -underBinder +onlyGivenNames x2
  subst x2
  extract_lets -merge -underBinder +onlyGivenNames x3
  subst x3
  extract_lets -merge -underBinder +onlyGivenNames x4
  subst x4
  extract_lets -merge -underBinder +onlyGivenNames x5
  subst x5
  try dsimp -zeta only
  extract_lets -merge -underBinder +onlyGivenNames x6
  subst x6
  extract_lets -merge -underBinder +onlyGivenNames x7
  refine Moves.let_ x7 ?_ ?_
  · subst x7
    refine Moves.seq ?_ (Moves.upd_acc _ _) (Foot.sub0 (by decide +kernel))
    exact Moves.refl _
  intro h7
  try clear_value x7
  extract_lets -merge -underBinder +onlyGivenNames x8
  refine Moves.let_ x8 ?_ ?_
  · subst x8
    refine Moves.ite (fun hc => ?_) (fun hc => ?_)
    · refine Moves.seq ?_ (State.msixRequest_moves ..) (Foot.sub0 (by decide +kernel))
      exact h7
    · exact h7
  intro h8
  try clear_value x8
  refine Moves.ite (fun hc => ?_) (fun hc => ?_)
  · refine Moves.seq ?_ (State.emit_moves ..) (Foot.sub0 (by decide +kernel))
    exact h8
  · exact h8

def Foot.vectorsFollow : Foot := ⟨[(0x0B3300, 0x0B3300)], [], [.out, .acc]⟩

theorem State.vectorsFollow_moves (s : State) : Moves (Foot.vectorsFollow.at []) s (State.vectorsFollow s) := by
  unfold State.vectorsFollow
  refine Moves.foldl _ (fun x1 _ h1 => ?_) _ ?_
  · refine Moves.seq ?_ (State.vectorFollow_moves ..) (Foot.sub0 (by decide +kernel))
    exact h1
  · exact Moves.refl _

def Foot.aggregate : Foot := ⟨[(0x006040, 0x006040), (0x0B3300, 0x0B3300)], [], [.out, .acc]⟩

theorem State.aggregate_moves (s : State) (isl : Nat) :
    Moves (Foot.aggregate.at [(24704 + 4 * (isl % 17), 24704 + 4 * (isl % 17))]) s (State.aggregate s isl) := by
  unfold State.aggregate
  extract_lets -merge -underBinder +onlyGivenNames x1
  subst x1
  refine Moves.seq ?_ (State.vectorsFollow_moves ..) (Foot.sub0 (by decide +kernel))
  refine Moves.seq ?_ (State.putB_moves _ _ _ (by show 24640 % 4096 ≠ 16; decide)) (Foot.sub1 (by decide +kernel) (Foot.holds_reg (lo := 24640) (hi := 24640) (by decide +kernel)))
  refine Moves.seq ?_ (State.wr_moves _ _ (by first | (dsimp only [R.SYS_EVT_PGSUM]; omega) | omega)) (Foot.sub1 (by decide +kernel) (Foot.holds_same (.head _)))
  exact Moves.refl _

def Foot.repairDue : Foot := ⟨[(0x0F2048, 0x0F2048)], [], []⟩

theorem State.repairDue_moves (s : State) : Moves (Foot.repairDue.at []) s (State.repairDue s) := by
  unfold State.repairDue
  refine Moves.seq ?_ (State.putB_moves _ _ _ (by decide)) (Foot.sub1 (by decide +kernel) (Foot.holds_reg (by decide +kernel)))
  exact Moves.refl _

def Foot.repairAdd : Foot := ⟨[(0x0F2048, 0x0F2048)], [], [.pwr]⟩

theorem State.repairAdd_moves (s : State) (e : RepEntry) : Moves (Foot.repairAdd.at []) s (State.repairAdd s e) := by
  unfold State.repairAdd
  refine Moves.ite (fun hc => ?_) (fun hc => ?_)
  · exact Moves.refl _
  · refine Moves.seq ?_ (State.repairDue_moves ..) (Foot.sub0 (by decide +kernel))
    refine Moves.seq ?_ (State.modPwr_moves ..) (Foot.sub0 (by decide +kernel))
    exact Moves.refl _

def Foot.applyRepair : Foot := ⟨[(0x0F2010, 0x0F2010), (0x0F2048, 0x0F2048)], [], [.evq, .pwr]⟩

theorem State.applyRepair_moves (s : State) (e : RepEntry) : Moves (Foot.applyRepair.at []) s (State.applyRepair s e) := by
  unfold State.applyRepair
  extract_lets -merge -underBinder +onlyGivenNames x1
  refine Moves.let_ x1 ?_ ?_
  · subst x1
    refine Moves.seq ?_ (State.repairAdd_moves ..) (Foot.sub0 (by decide +kernel))
    exact Moves.refl _
  intro h1
  try clear_value x1
  refine Moves.seq ?_ (State.post_moves ..) (Foot.sub0 (by decide +kernel))
  refine Moves.seq ?_ (State.raise_moves ..) (Foot.sub1 (by decide +kernel) (Foot.holds_reg (by decide +kernel)))
  exact h1

def Foot.spareRows : Foot := ⟨[(0x0F2010, 0x0F2010), (0x0F2048, 0x0F2048)], [], [.evq, .pwr]⟩

theorem State.spareRows_moves (s : State) (m : Nat) (l : List Nat) : Moves (Foot.spareRows.at []) s (s.spareRows m l).1 := by
  induction l generalizing s with
  | nil => exact Moves.refl _
  | cons r rs ih =>
    simp only [State.spareRows]
    split
    · exact Moves.seq (Moves.seq (Moves.refl _) (State.applyRepair_moves ..) (Foot.sub0 (by decide +kernel))) (ih _) Foot.sub_self
    · exact ih s

def Foot.analyse : Foot := ⟨[(0x0F2010, 0x0F2010), (0x0F2048, 0x0F2048)], [], [.evq, .pwr]⟩

theorem State.analyse_moves (s : State) (m : Nat) (cells : List FailCell) :
    Moves (Foot.analyse.at []) s ((State.analyse s m cells)).1 := by
  unfold State.analyse
  extract_lets -merge -underBinder +onlyGivenNames x1
  subst x1
  extract_lets -merge -underBinder +onlyGivenNames x2
  subst x2
  extract_lets -merge -underBinder +onlyGivenNames x3
  subst x3
  extract_lets -merge -underBinder +onlyGivenNames x4
  subst x4
  try dsimp -zeta only
  extract_lets -merge -underBinder +onlyGivenNames x5
  subst x5
  extract_lets -merge -underBinder +onlyGivenNames x6
  subst x6
  extract_lets -merge -underBinder +onlyGivenNames x7
  refine Moves.let_ x7 ?_ ?_
  · subst x7
    split
    · refine Moves.seq ?_ (State.applyRepair_moves ..) (Foot.sub0 (by decide +kernel))
      exact Moves.refl _
    · exact Moves.refl _
  intro h7
  try clear_value x7
  extract_lets -merge -underBinder +onlyGivenNames x8
  subst x8
  refine Moves.seq ?_ (State.spareRows_moves ..) (Foot.sub0 (by decide +kernel))
  exact h7

def Foot.analyses : Foot := ⟨[(0x0F2010, 0x0F2010), (0x0F2048, 0x0F2048)], [], [.evq, .pwr]⟩

theorem State.analyses_moves (s : State) (m : Nat) (l : List (List FailCell)) :
    Moves (Foot.analyses.at []) s (s.analyses m l).1 := by
  induction l generalizing s with
  | nil => exact Moves.seq (Moves.refl _) (State.analyse_moves ..) (Foot.sub0 (by decide +kernel))
  | cons c l ih =>
    have h : Moves (Foot.analyses.at []) s (s.analyse m c).1 :=
      Moves.seq (Moves.refl _) (State.analyse_moves ..) (Foot.sub0 (by decide +kernel))
    cases l with
    | nil => exact h
    | cons d l =>
      unfold State.analyses
      dsimp only
      split
      · exact Moves.seq h (ih _) Foot.sub_self
      · exact h

def Foot.mboxStore : Foot := ⟨[(0x0D1800, 0x0D1FFC)], [], []⟩

theorem State.mboxStore_moves (s : State) (data : List Byte) : Moves (Foot.mboxStore.at []) s (State.mboxStore s data) := by
  unfold State.mboxStore
  refine Moves.foldl _ (fun x1 _ h1 => ?_) _ ?_
  · refine Moves.seq ?_ (State.wr_moves _ _ (by first | (dsimp only [R.MGT_MBOX_DATA]; omega) | omega)) (Foot.sub1 (by decide +kernel) (Foot.holds_range 858112 860156 (by decide +kernel) (by first | (dsimp only [R.MGT_MBOX_DATA]; omega) | omega) (by first | (dsimp only [R.MGT_MBOX_DATA]; omega) | omega)))
    exact h1
  · exact Moves.refl _

def Foot.answer : Foot :=
  ⟨[(0x032010, 0x032010), (0x032060, 0x03206C), (0x0D1010, 0x0D1010), (0x0D1054, 0x0D1064), (0x0D1800,
    0x0D1FFC)], [], [.mem, .fab, .mgt]⟩

theorem State.answer_moves (s : State) (req : MboxReq) (result : Nat) (res : List Word) (data : List Byte) :
    Moves (Foot.answer.at []) s (State.answer s req result res data) := by
  unfold State.answer
  extract_lets -merge -underBinder +onlyGivenNames x1
  refine Moves.let_ x1 ?_ ?_
  · subst x1
    refine Moves.seq ?_ (State.modMgt_moves ..) (Foot.sub0 (by decide +kernel))
    exact Moves.refl _
  intro h1
  try clear_value x1
  split
  · refine Moves.seq ?_ (State.mboxShow_moves ..) (Foot.sub0 (by decide +kernel))
    refine Moves.seq ?_ (State.remoteSend_moves ..) (Foot.sub0 (by decide +kernel))
    exact h1
  · extract_lets -merge -underBinder +onlyGivenNames x2
    refine Moves.let_ x2 ?_ ?_
    · subst x2
      refine Moves.ite (fun hc => ?_) (fun hc => ?_)
      · exact h1
      · refine Moves.seq ?_ (State.mboxStore_moves ..) (Foot.sub0 (by decide +kernel))
        exact h1
    intro h2
    try clear_value x2
    refine Moves.seq ?_ (State.raise_moves ..) (Foot.sub1 (by decide +kernel) (Foot.holds_reg (by decide +kernel)))
    refine Moves.seq ?_ (State.pushRsp_moves ..) (Foot.sub0 (by decide +kernel))
    exact h2

def Foot.bootRegsReset : Foot := ⟨[(0x00004C, 0x00004C), (0x000054, 0x000054)], [], []⟩

theorem State.bootRegsReset_moves (s : State) : Moves (Foot.bootRegsReset.at []) s (State.bootRegsReset s) := by
  unfold State.bootRegsReset
  refine Moves.seq ?_ (State.putB_moves _ _ _ (by decide)) (Foot.sub1 (by decide +kernel) (Foot.holds_reg (by decide +kernel)))
  refine Moves.seq ?_ (State.putB_moves _ _ _ (by decide)) (Foot.sub1 (by decide +kernel) (Foot.holds_reg (by decide +kernel)))
  exact Moves.refl _

def Foot.bypassDrops : Foot := ⟨[(0x005040, 0x005040)], [], [.lines]⟩

theorem State.bypassDrops_moves (s : State) (l : Line) : Moves (Foot.bypassDrops.at []) s (State.bypassDrops s l) := by
  unfold State.bypassDrops
  extract_lets -merge -underBinder +onlyGivenNames x1
  refine Moves.let_ x1 ?_ ?_
  · subst x1
    refine Moves.seq ?_ (State.putB_moves _ _ _ (by show 20544 % 4096 ≠ 16; decide)) (Foot.sub1 (by decide +kernel) (Foot.holds_reg (lo := 20544) (hi := 20544) (by decide +kernel)))
    refine Moves.seq ?_ (State.putB_moves _ _ _ (by show 20544 % 4096 ≠ 16; decide)) (Foot.sub1 (by decide +kernel) (Foot.holds_reg (lo := 20544) (hi := 20544) (by decide +kernel)))
    refine Moves.seq ?_ (State.putB_moves _ _ _ (by show 20544 % 4096 ≠ 16; decide)) (Foot.sub1 (by decide +kernel) (Foot.holds_reg (lo := 20544) (hi := 20544) (by decide +kernel)))
    exact Moves.refl _
  intro h1
  try clear_value x1
  refine Moves.seq ?_ (State.setLine_moves ..) (Foot.sub0 (by decide +kernel))
  exact h1

def Foot.powerLost : Foot :=
  ⟨[], [], [.mem, .out, .evq, .evqCut, .evtCut, .allRegs, .acc, .lines, .ports, .top, .beam, .fab, .tim,
    .cans, .twn, .hlt, .sgw, .psc, .recorder, .pwr, .mgt]⟩

theorem State.powerLost_moves (s : State) : Moves (Foot.powerLost.at []) s (State.powerLost s) := by
  unfold State.powerLost
  extract_lets -merge -underBinder +onlyGivenNames x1
  refine Moves.let_ x1 ?_ ?_
  · subst x1
    refine Moves.seq ?_ (State.bootRegsReset_moves ..) (Foot.sub0 (by decide +kernel))
    refine Moves.seq ?_ (State.bypassDrops_moves ..) (Foot.sub0 (by decide +kernel))
    refine Moves.seq ?_ (State.bypassDrops_moves ..) (Foot.sub0 (by decide +kernel))
    refine Moves.seq ?_ (State.resetAll_moves ..) (Foot.sub0 (by decide +kernel))
    exact Moves.refl _
  intro h1
  try clear_value x1
  refine Moves.seq ?_ (State.modPwr_moves ..) (Foot.sub0 (by decide +kernel))
  exact h1

def Foot.aonLoss : Foot :=
  ⟨[], [], [.mem, .out, .evq, .evqCut, .evtCut, .allRegs, .acc, .lines, .ports, .top, .beam, .fab, .tim,
    .cans, .wake, .din, .twn, .hlt, .sgw, .psc, .recorder, .pwr, .mgt]⟩

theorem State.aonLoss_moves (s : State) : Moves (Foot.aonLoss.at []) s (State.aonLoss s) := by
  unfold State.aonLoss
  refine Moves.seq ?_ (State.modWake_moves ..) (Foot.sub0 (by decide +kernel))
  refine Moves.seq ?_ (State.aonReset_moves ..) (Foot.sub0 (by decide +kernel))
  refine Moves.seq ?_ (State.powerLost_moves ..) (Foot.sub0 (by decide +kernel))
  exact Moves.refl _

def Foot.unmappedAccess : Foot := ⟨[(0x0B0010, 0x0B0010), (0x0B0048, 0x0B004C)], [], [.out, .evq]⟩

theorem State.unmappedAccess_moves (s : State) (q : Requester) (off : Nat) (write : Bool) :
    Moves (Foot.unmappedAccess.at []) s (State.unmappedAccess s q off write) := by
  unfold State.unmappedAccess
  extract_lets -merge -underBinder +onlyGivenNames x1
  refine Moves.let_ x1 ?_ ?_
  · subst x1
    refine Moves.seq ?_ (State.satInc_moves _ _ (by decide)) (Foot.sub1 (by decide +kernel) (Foot.holds_reg (by decide +kernel)))
    refine Moves.seq ?_ (State.raise_moves ..) (Foot.sub1 (by decide +kernel) (Foot.holds_reg (by decide +kernel)))
    exact Moves.refl _
  intro h1
  try clear_value x1
  extract_lets -merge -underBinder +onlyGivenNames x2
  refine Moves.let_ x2 ?_ ?_
  · subst x2
    refine Moves.ite (fun hc => ?_) (fun hc => ?_)
    · refine Moves.seq ?_ (State.lastErr_moves ..) (Foot.sub0 (by decide +kernel))
      exact h1
    · exact h1
  intro h2
  try clear_value x2
  extract_lets -merge -underBinder +onlyGivenNames x3
  refine Moves.let_ x3 ?_ ?_
  · subst x3
    refine Moves.seq ?_ (State.post_moves ..) (Foot.sub0 (by decide +kernel))
    exact h2
  intro h3
  try clear_value x3
  refine Moves.ite (fun hc => ?_) (fun hc => ?_)
  · exact h3
  · refine Moves.seq ?_ (State.emit_moves ..) (Foot.sub0 (by decide +kernel))
    exact h3

def Foot.offAccess : Foot := ⟨[(0x006048, 0x006048), (0x0B0048, 0x0B0048)], [], [.out, .evq]⟩

theorem State.offAccess_moves (s : State) (q : Requester) (off : Nat) (write : Bool) (v : Word) :
    Moves (Foot.offAccess.at []) s (State.offAccess s q off write v) := by
  unfold State.offAccess
  extract_lets -merge -underBinder +onlyGivenNames x1
  refine Moves.let_ x1 ?_ ?_
  · subst x1
    refine Moves.ite (fun hc => ?_) (fun hc => ?_)
    · refine Moves.seq ?_ (State.lastErr_moves ..) (Foot.sub0 (by decide +kernel))
      exact Moves.refl _
    · exact Moves.refl _
  intro h1
  try clear_value x1
  refine Moves.ite (fun hc => ?_) (fun hc => ?_)
  · extract_lets -merge -underBinder +onlyGivenNames x2
    refine Moves.let_ x2 ?_ ?_
    · subst x2
      refine Moves.seq ?_ (State.put_moves _ _ _ (by decide)) (Foot.sub1 (by decide +kernel) (Foot.holds_reg (by decide +kernel)))
      refine Moves.seq ?_ (State.satInc_moves _ _ (by decide)) (Foot.sub1 (by decide +kernel) (Foot.holds_reg (by decide +kernel)))
      exact h1
    intro h2
    try clear_value x2
    refine Moves.seq ?_ (State.post_moves ..) (Foot.sub0 (by decide +kernel))
    exact h2
  · refine Moves.seq ?_ (State.emit_moves ..) (Foot.sub0 (by decide +kernel))
    exact h1

def Foot.setHeld : Foot := ⟨[], [], [.acc]⟩

theorem State.setHeld_moves (s : State) (q : Requester) (pg : Nat) (w : Option PairWord) :
    Moves (Foot.setHeld.at []) s (State.setHeld s q pg w) := by
  unfold State.setHeld
  refine Moves.seq ?_ (Moves.upd_acc _ _) (Foot.sub0 (by decide +kernel))
  exact Moves.refl _

def Foot.lockDo : Foot := ⟨[], [], []⟩

theorem State.lockDo_moves (s : State) (q : Requester) (pg : Nat) (v : Word) :
    Moves (Foot.lockDo.at [(4096 * (pg / 4096) + 36, 4096 * (pg / 4096) + 36),
      (4096 * (pg / 4096) + 16, 4096 * (pg / 4096) + 16)]) s (State.lockDo s q pg v) := by
  unfold State.lockDo
  extract_lets -merge -underBinder +onlyGivenNames x1
  subst x1
  refine Moves.ite (fun hc => ?_) (fun hc => ?_)
  · refine Moves.ite (fun hc => ?_) (fun hc => ?_)
    · refine Moves.seq ?_ (State.wr_moves _ _ (by first | (dsimp only [R.PG_LOCK]; omega) | omega)) (Foot.sub1 (by decide +kernel) (Foot.holds_same (.head _)))
      exact Moves.refl _
    · exact Moves.refl _
  · refine Moves.ite (fun hc => ?_) (fun hc => ?_)
    · refine Moves.ite (fun hc => ?_) (fun hc => ?_)
      · refine Moves.seq ?_ (State.put_moves _ _ _ (by first | (dsimp only [F.PG_LOCK_REMAIN]; omega) | omega)) (Foot.sub1 (by decide +kernel) (Foot.holds_same (.head _)))
        exact Moves.refl _
      · refine Moves.seq ?_ (State.relock_moves ..) (Foot.sub1 (by decide +kernel) (Foot.holds_same (.head _)))
        exact Moves.refl _
    · refine Moves.ite (fun hc => ?_) (fun hc => ?_)
      · refine Moves.seq ?_ (State.raise_moves ..) (Foot.sub1 (by decide +kernel) (Foot.holds_same (.tail _ (.head _))))
        exact Moves.refl _
      · exact Moves.refl _

def Foot.lockWrite : Foot := ⟨[(0x006048, 0x006048), (0x0B0010, 0x0B0010), (0x0B0048, 0x0B004C)], [], [.out, .evq, .acc]⟩

theorem State.lockWrite_moves (s : State) (q : Requester) (pg : Nat) (v : Word) :
    Moves (Foot.lockWrite.at [(4096 * (pg / 4096) + 36, 4096 * (pg / 4096) + 36),
      (4096 * (pg / 4096) + 16, 4096 * (pg / 4096) + 16)]) s (State.lockWrite s q pg v) := by
  unfold State.lockWrite
  refine Moves.ite (fun hc => ?_) (fun hc => ?_)
  · exact Moves.refl _
  · refine Moves.ite (fun hc => ?_) (fun hc => ?_)
    · refine Moves.seq ?_ (State.unmappedAccess_moves ..) (Foot.sub0 (by decide +kernel))
      exact Moves.refl _
    · refine Moves.ite (fun hc => ?_) (fun hc => ?_)
      · refine Moves.seq ?_ (State.offAccess_moves ..) (Foot.sub0 (by decide +kernel))
        exact Moves.refl _
      · extract_lets -merge -underBinder +onlyGivenNames x1
        refine Moves.let_ x1 ?_ ?_
        · subst x1
          split
          · refine Moves.seq ?_ (State.setHeld_moves ..) (Foot.sub0 (by decide +kernel))
            exact Moves.refl _
          · exact Moves.refl _
        intro h1
        try clear_value x1
        refine Moves.seq ?_ (State.lockDo_moves ..) (Foot.sub_at (by decide +kernel) (Foot.own_cons (Foot.holds_same (.head _)) (Foot.own_cons (Foot.holds_same (.tail _ (.head _))) Foot.own_nil)))
        exact h1

def Foot.unlockedPage : Foot := ⟨[(0x006048, 0x006048), (0x0B0010, 0x0B0010), (0x0B0048, 0x0B004C)], [], [.out, .evq, .acc]⟩

theorem State.unlockedPage_moves {F : Foot} {r s : State} {pg : Nat} {f : State → State}
    (h :
    Moves F r s) (hF : Foot.Sub (Foot.unlockedPage.at [(4096 * (pg / 4096) + 36, 4096 * (pg / 4096) + 36),
      (4096 * (pg / 4096) + 16, 4096 * (pg / 4096) + 16)]) F) (f_ok : ∀ x , Moves F r x → Moves F r (f x)) : Moves F r
      (State.unlockedPage s pg f) := by
  unfold State.unlockedPage
  refine Moves.seq ?_ (State.lockWrite_moves ..) ((Foot.sub_at (by decide +kernel) (Foot.own_cons (Foot.holds_same (.head _)) (Foot.own_cons (Foot.holds_same (.tail _ (.head _))) Foot.own_nil))).trans hF)
  refine f_ok _  ?_
  refine Moves.seq ?_ (State.lockWrite_moves ..) ((Foot.sub_at (by decide +kernel) (Foot.own_cons (Foot.holds_same (.head _)) (Foot.own_cons (Foot.holds_same (.tail _ (.head _))) Foot.own_nil))).trans hF)
  exact h

def Foot.carry : Foot := ⟨[(0x006048, 0x006048), (0x0B0010, 0x0B0010), (0x0B0048, 0x0B004C)], [], [.out, .evq, .acc]⟩

theorem State.carry_moves {F : Foot} {r s : State} {q : Requester} {off : Nat} {v : Word} {f : State → State}
    (h :
    Moves F r s) (hF : Foot.Sub (Foot.carry.at [(4096 * (pageOf off / 4096) + 36, 4096 * (pageOf off / 4096) + 36),
      (4096 * (pageOf off / 4096) + 16, 4096 * (pageOf off / 4096) + 16)]) F) (f_ok : ∀ x , Moves F r x → Moves F r (f x)) : Moves F r
      (State.carry s q off v f) := by
  unfold State.carry
  refine Moves.ite (fun hc => ?_) (fun hc => ?_)
  · exact h
  · refine Moves.ite (fun hc => ?_) (fun hc => ?_)
    · refine Moves.seq ?_ (State.unmappedAccess_moves ..) ((Foot.sub0 (by decide +kernel)).trans hF)
      exact h
    · refine Moves.ite (fun hc => ?_) (fun hc => ?_)
      · refine Moves.seq ?_ (State.offAccess_moves ..) ((Foot.sub0 (by decide +kernel)).trans hF)
        exact h
      · extract_lets -merge -underBinder +onlyGivenNames x1
        refine Moves.let_ x1 ?_ ?_
        · subst x1
          split
          · refine Moves.seq ?_ (State.setHeld_moves ..) ((Foot.sub0 (by decide +kernel)).trans hF)
            exact h
          · exact h
        intro h1
        try clear_value x1
        refine Moves.ite (fun hc => ?_) (fun hc => ?_)
        · refine Moves.seq ?_ (State.countAccess_moves ..) ((Foot.sub1 (by decide +kernel) (Foot.holds_same (.head _))).trans hF)
          refine Moves.seq ?_ (State.raise_moves ..) ((Foot.sub1 (by decide +kernel) (Foot.holds_same (.tail _ (.head _)))).trans hF)
          exact h1
        · refine Moves.ite (fun hc => ?_) (fun hc => ?_)
          · refine Moves.seq ?_ (State.countAccess_moves ..) ((Foot.sub1 (by decide +kernel) (Foot.holds_same (.head _))).trans hF)
            refine Moves.seq ?_ (Moves.upd_acc _ _) ((Foot.sub0 (by decide +kernel)).trans hF)
            exact h1
          · refine Moves.ite (fun hc => ?_) (fun hc => ?_)
            · refine Moves.seq ?_ (State.countAccess_moves ..) ((Foot.sub1 (by decide +kernel) (Foot.holds_same (.head _))).trans hF)
              exact h1
            · refine Moves.seq ?_ (State.countAccess_moves ..) ((Foot.sub1 (by decide +kernel) (Foot.holds_same (.head _))).trans hF)
              refine f_ok _  ?_
              exact h1

def Foot.modTwn : Foot := ⟨[], [], [.twn]⟩

theorem State.modTwn_moves (s : State) (f : TwnState → TwnState) : Moves (Foot.modTwn.at []) s (State.modTwn s f) := by
  unfold State.modTwn
  refine Moves.seq ?_ (Moves.upd_twn _ _) (Foot.sub0 (by decide +kernel))
  exact Moves.refl _

def Foot.driveClaim : Foot := ⟨[(0x0A0040, 0x0A0040)], [], [.out]⟩

theorem State.driveClaim_moves (s : State) (on : Bool) : Moves (Foot.driveClaim.at []) s (State.driveClaim s on) := by
  unfold State.driveClaim
  refine Moves.ite (fun hc => ?_) (fun hc => ?_)
  · exact Moves.refl _
  · refine Moves.seq ?_ (State.emit_moves ..) (Foot.sub0 (by decide +kernel))
    refine Moves.seq ?_ (State.putB_moves _ _ _ (by decide)) (Foot.sub1 (by decide +kernel) (Foot.holds_reg (by decide +kernel)))
    refine Moves.seq ?_ (State.putB_moves _ _ _ (by decide)) (Foot.sub1 (by decide +kernel) (Foot.holds_reg (by decide +kernel)))
    exact Moves.refl _

def Foot.releaseClaim : Foot := ⟨[(0x0A0040, 0x0A0040)], [], [.out, .twn]⟩

theorem State.releaseClaim_moves (s : State) : Moves (Foot.releaseClaim.at []) s (State.releaseClaim s) := by
  unfold State.releaseClaim
  refine Moves.ite (fun hc => ?_) (fun hc => ?_)
  · refine Moves.seq ?_ (State.driveClaim_moves ..) (Foot.sub0 (by decide +kernel))
    refine Moves.seq ?_ (State.modTwn_moves ..) (Foot.sub0 (by decide +kernel))
    exact Moves.refl _
  · exact Moves.refl _

def Foot.setDir : Foot := ⟨[], [], [.beam]⟩

theorem State.setDir_moves (s : State) (x : BPort) (d : BeamDir) : Moves (Foot.setDir.at []) s (State.setDir s x d) := by
  unfold State.setDir
  refine Moves.seq ?_ (Moves.upd_beam _ _) (Foot.sub0 (by decide +kernel))
  exact Moves.refl _

def Foot.beamOrigin : Foot := ⟨[], [], [.beam]⟩

theorem State.beamOrigin_moves (s : State) (x : BPort) :
    Moves (Foot.beamOrigin.at [(77904 + 65536 * (x.line.idx % 2), 77904 + 65536 * (x.line.idx % 2)),
      (77908 + 65536 * (x.line.idx % 2), 77908 + 65536 * (x.line.idx % 2)),
      (77896 + 65536 * (x.line.idx % 2), 77896 + 65536 * (x.line.idx % 2)),
      (77900 + 65536 * (x.line.idx % 2), 77900 + 65536 * (x.line.idx % 2))]) s (State.beamOrigin s x) := by
  unfold State.beamOrigin
  refine Moves.ite (fun hc => ?_) (fun hc => ?_)
  · refine Moves.seq ?_ (State.setDir_moves ..) (Foot.sub0 (by decide +kernel))
    exact Moves.refl _
  · refine Moves.ite (fun hc => ?_) (fun hc => ?_)
    · extract_lets -merge -underBinder +onlyGivenNames x1
      refine Moves.let_ x1 ?_ ?_
      · subst x1
        refine Moves.seq ?_ (State.put_moves _ _ _ (by (try dsimp only [dcumFld, F.BL_BEAM_DCUMD_D, F.BL_BEAM_DCUMU_D]); split <;> (try dsimp only) <;> first | decide | omega)) (Foot.sub1 (by decide +kernel) (by (try dsimp only [dcumFld, F.BL_BEAM_DCUMD_D, F.BL_BEAM_DCUMU_D]); split <;> (try dsimp only) <;> first | exact (Foot.holds_same (.head _)) | exact (Foot.holds_same (.tail _ (.head _)))))
        exact Moves.refl _
      intro h1
      try clear_value x1
      refine Moves.ite (fun hc => ?_) (fun hc => ?_)
      · exact h1
      · extract_lets -merge -underBinder +onlyGivenNames x2
        subst x2
        extract_lets -merge -underBinder +onlyGivenNames x3
        refine Moves.let_ x3 ?_ ?_
        · subst x3
          refine Moves.seq ?_ (State.setDir_moves ..) (Foot.sub0 (by decide +kernel))
          exact h1
        intro h3
        try clear_value x3
        refine Moves.ite (fun hc => ?_) (fun hc => ?_)
        · exact h3
        · refine Moves.seq ?_ (State.put_moves _ _ _ (by (try dsimp only [phaseFld, F.BL_BEAM_PHD_PHASE, F.BL_BEAM_PHU_PHASE]); split <;> (try dsimp only) <;> first | decide | omega)) (Foot.sub1 (by decide +kernel) (by (try dsimp only [phaseFld, F.BL_BEAM_PHD_PHASE, F.BL_BEAM_PHU_PHASE]); split <;> (try dsimp only) <;> first | exact (Foot.holds_same (.tail _ (.tail _ (.head _)))) | exact (Foot.holds_same (.tail _ (.tail _ (.tail _ (.head _)))))))
          exact h3
    · exact Moves.refl _

def Foot.beamRefresh : Foot := ⟨[], [], [.beam]⟩

theorem State.beamRefresh_moves (s : State) (l : Line) :
    Moves (Foot.beamRefresh.at [(77904 + 65536 * ((l.port true).line.idx % 2), 77904 + 65536 * ((l.port true).line.idx % 2)),
      (77908 + 65536 * ((l.port true).line.idx % 2), 77908 + 65536 * ((l.port true).line.idx % 2)),
      (77896 + 65536 * ((l.port true).line.idx % 2), 77896 + 65536 * ((l.port true).line.idx % 2)),
      (77900 + 65536 * ((l.port true).line.idx % 2), 77900 + 65536 * ((l.port true).line.idx % 2)),
      (77904 + 65536 * ((l.port false).line.idx % 2), 77904 + 65536 * ((l.port false).line.idx % 2)),
      (77908 + 65536 * ((l.port false).line.idx % 2), 77908 + 65536 * ((l.port false).line.idx % 2)),
      (77896 + 65536 * ((l.port false).line.idx % 2), 77896 + 65536 * ((l.port false).line.idx % 2)),
      (77900 + 65536 * ((l.port false).line.idx % 2), 77900 + 65536 * ((l.port false).line.idx % 2)),
      (77888 + 65536 * (l.idx % 2), 77888 + 65536 * (l.idx % 2)),
      (4096 * ((77824 + 65536 * (l.idx % 2)) / 4096) + 16, 4096 * ((77824 + 65536 * (l.idx % 2)) / 4096) + 16)]) s (State.beamRefresh
      s l) := by
  unfold State.beamRefresh
  extract_lets -merge -underBinder +onlyGivenNames x1
  subst x1
  extract_lets -merge -underBinder +onlyGivenNames x2
  subst x2
  extract_lets -merge -underBinder +onlyGivenNames x3
  refine Moves.let_ x3 ?_ ?_
  · subst x3
    refine Moves.seq ?_ (State.beamOrigin_moves ..) (Foot.sub_at (by decide +kernel) (Foot.own_cons (Foot.holds_same (.head _)) (Foot.own_cons (Foot.holds_same (.tail _ (.head _))) (Foot.own_cons (Foot.holds_same (.tail _ (.tail _ (.head _)))) (Foot.own_cons (Foot.holds_same (.tail _ (.tail _ (.tail _ (.head _))))) Foot.own_nil)))))
    refine Moves.seq ?_ (State.beamOrigin_moves ..) (Foot.sub_at (by decide +kernel) (Foot.own_cons (Foot.holds_same (.tail _ (.tail _ (.tail _ (.tail _ (.head _)))))) (Foot.own_cons (Foot.holds_same (.tail _ (.tail _ (.tail _ (.tail _ (.tail _ (.head _))))))) (Foot.own_cons (Foot.holds_same (.tail _ (.tail _ (.tail _ (.tail _ (.tail _ (.tail _ (.head _)))))))) (Foot.own_cons (Foot.holds_same (.tail _ (.tail _ (.tail _ (.tail _ (.tail _ (.tail _ (.tail _ (.head _))))))))) Foot.own_nil)))))
    exact Moves.refl _
  intro h3
  try clear_value x3
  extract_lets -merge -underBinder +onlyGivenNames x4
  subst x4
  extract_lets -merge -underBinder +onlyGivenNames x5
  subst x5
  extract_lets -merge -underBinder +onlyGivenNames x6
  refine Moves.let_ x6 ?_ ?_
  · subst x6
    refine Moves.seq ?_ (State.put_moves _ _ _ (by first | (dsimp only [F.BL_BEAM_STAT_RATE]; omega) | omega)) (Foot.sub1 (by decide +kernel) (Foot.holds_same (.tail _ (.tail _ (.tail _ (.tail _ (.tail _ (.tail _ (.tail _ (.tail _ (.head _)))))))))))
    exact h3
  intro h6
  try clear_value x6
  extract_lets -merge -underBinder +onlyGivenNames x7
  subst x7
  extract_lets -merge -underBinder +onlyGivenNames x8
  refine Moves.let_ x8 ?_ ?_
  · subst x8
    refine Moves.seq ?_ (State.putB_moves _ _ _ (by first | (dsimp only [F.BL_BEAM_STAT_OFF]; omega) | omega)) (Foot.sub1 (by decide +kernel) (Foot.holds_same (.tail _ (.tail _ (.tail _ (.tail _ (.tail _ (.tail _ (.tail _ (.tail _ (.head _)))))))))))
    exact h6
  intro h8
  try clear_value x8
  extract_lets -merge -underBinder +onlyGivenNames x9
  refine Moves.let_ x9 ?_ ?_
  · subst x9
    refine Moves.seq ?_ (State.putB_moves _ _ _ (by first | (dsimp only [F.BL_BEAM_STAT_STRETCH]; omega) | omega)) (Foot.sub1 (by decide +kernel) (Foot.holds_same (.tail _ (.tail _ (.tail _ (.tail _ (.tail _ (.tail _ (.tail _ (.tail _ (.head _)))))))))))
    exact h8
  intro h9
  try clear_value x9
  extract_lets -merge -underBinder +onlyGivenNames x10
  refine Moves.let_ x10 ?_ ?_
  · subst x10
    refine Moves.seq ?_ (State.putB_moves _ _ _ (by first | (dsimp only [F.BL_BEAM_STAT_SHRINK]; omega) | omega)) (Foot.sub1 (by decide +kernel) (Foot.holds_same (.tail _ (.tail _ (.tail _ (.tail _ (.tail _ (.tail _ (.tail _ (.tail _ (.head _)))))))))))
    exact h9
  intro h10
  try clear_value x10
  extract_lets -merge -underBinder +onlyGivenNames x11
  refine Moves.let_ x11 ?_ ?_
  · subst x11
    refine Moves.seq ?_ (State.putB_moves _ _ _ (by first | (dsimp only [F.BL_BEAM_STAT_U_LOCK]; omega) | omega)) (Foot.sub1 (by decide +kernel) (Foot.holds_same (.tail _ (.tail _ (.tail _ (.tail _ (.tail _ (.tail _ (.tail _ (.tail _ (.head _)))))))))))
    refine Moves.seq ?_ (State.putB_moves _ _ _ (by first | (dsimp only [F.BL_BEAM_STAT_D_LOCK]; omega) | omega)) (Foot.sub1 (by decide +kernel) (Foot.holds_same (.tail _ (.tail _ (.tail _ (.tail _ (.tail _ (.tail _ (.tail _ (.tail _ (.head _)))))))))))
    exact h10
  intro h11
  try clear_value x11
  extract_lets -merge -underBinder +onlyGivenNames x12
  refine Moves.let_ x12 ?_ ?_
  · subst x12
    refine Moves.seq ?_ (State.putB_moves _ _ _ (by first | (dsimp only [F.BL_BEAM_STAT_U_ORG]; omega) | omega)) (Foot.sub1 (by decide +kernel) (Foot.holds_same (.tail _ (.tail _ (.tail _ (.tail _ (.tail _ (.tail _ (.tail _ (.tail _ (.head _)))))))))))
    refine Moves.seq ?_ (State.putB_moves _ _ _ (by first | (dsimp only [F.BL_BEAM_STAT_D_ORG]; omega) | omega)) (Foot.sub1 (by decide +kernel) (Foot.holds_same (.tail _ (.tail _ (.tail _ (.tail _ (.tail _ (.tail _ (.tail _ (.tail _ (.head _)))))))))))
    exact h11
  intro h12
  try clear_value x12
  extract_lets -merge -underBinder +onlyGivenNames x13
  refine Moves.let_ x13 ?_ ?_
  · subst x13
    refine Moves.seq ?_ (State.putB_moves _ _ _ (by first | (dsimp only [F.BL_BEAM_STAT_U_INS]; omega) | omega)) (Foot.sub1 (by decide +kernel) (Foot.holds_same (.tail _ (.tail _ (.tail _ (.tail _ (.tail _ (.tail _ (.tail _ (.tail _ (.head _)))))))))))
    refine Moves.seq ?_ (State.putB_moves _ _ _ (by first | (dsimp only [F.BL_BEAM_STAT_D_INS]; omega) | omega)) (Foot.sub1 (by decide +kernel) (Foot.holds_same (.tail _ (.tail _ (.tail _ (.tail _ (.tail _ (.tail _ (.tail _ (.tail _ (.head _)))))))))))
    exact h12
  intro h13
  try clear_value x13
  extract_lets -merge -underBinder +onlyGivenNames x14
  refine Moves.let_ x14 ?_ ?_
  · subst x14
    refine Moves.seq ?_ (State.putB_moves _ _ _ (by first | (dsimp only [F.BL_BEAM_STAT_D_OUT]; omega) | omega)) (Foot.sub1 (by decide +kernel) (Foot.holds_same (.tail _ (.tail _ (.tail _ (.tail _ (.tail _ (.tail _ (.tail _ (.tail _ (.head _)))))))))))
    refine Moves.seq ?_ (State.putB_moves _ _ _ (by first | (dsimp only [F.BL_BEAM_STAT_ALLOC_OK]; omega) | omega)) (Foot.sub1 (by decide +kernel) (Foot.holds_same (.tail _ (.tail _ (.tail _ (.tail _ (.tail _ (.tail _ (.tail _ (.tail _ (.head _)))))))))))
    exact h13
  intro h14
  try clear_value x14
  refine Moves.ite (fun hc => ?_) (fun hc => ?_)
  · refine Moves.seq ?_ (State.raise_moves ..) (Foot.sub1 (by decide +kernel) (Foot.holds_same (.tail _ (.tail _ (.tail _ (.tail _ (.tail _ (.tail _ (.tail _ (.tail _ (.tail _ (.head _))))))))))))
    exact h14
  · exact h14

def Foot.enterClosed : Foot := ⟨[], [], [.evq, .lines, .beam]⟩

theorem State.enterClosed_moves (s : State) (l : Line) (c : CloseCause) :
    Moves (Foot.enterClosed.at [(65608 + 65536 * (l.idx % 2), 65608 + 65536 * (l.idx % 2)),
      (77904 + 65536 * ((l.port true).line.idx % 2), 77904 + 65536 * ((l.port true).line.idx % 2)),
      (77908 + 65536 * ((l.port true).line.idx % 2), 77908 + 65536 * ((l.port true).line.idx % 2)),
      (77896 + 65536 * ((l.port true).line.idx % 2), 77896 + 65536 * ((l.port true).line.idx % 2)),
      (77900 + 65536 * ((l.port true).line.idx % 2), 77900 + 65536 * ((l.port true).line.idx % 2)),
      (77904 + 65536 * ((l.port false).line.idx % 2), 77904 + 65536 * ((l.port false).line.idx % 2)),
      (77908 + 65536 * ((l.port false).line.idx % 2), 77908 + 65536 * ((l.port false).line.idx % 2)),
      (77896 + 65536 * ((l.port false).line.idx % 2), 77896 + 65536 * ((l.port false).line.idx % 2)),
      (77900 + 65536 * ((l.port false).line.idx % 2), 77900 + 65536 * ((l.port false).line.idx % 2)),
      (77888 + 65536 * (l.idx % 2), 77888 + 65536 * (l.idx % 2)),
      (4096 * ((77824 + 65536 * (l.idx % 2)) / 4096) + 16, 4096 * ((77824 + 65536 * (l.idx % 2)) / 4096) + 16),
      (4096 * ((65536 + 65536 * (l.idx % 2)) / 4096) + 16, 4096 * ((65536 + 65536 * (l.idx % 2)) / 4096) + 16)]) s (State.enterClosed
      s l c) := by
  unfold State.enterClosed
  extract_lets -merge -underBinder +onlyGivenNames x1
  refine Moves.let_ x1 ?_ ?_
  · subst x1
    split
    · refine Moves.seq ?_ (State.put_moves _ _ _ (by first | (dsimp only [F.BL_LINE_STAT_CAUSE]; omega) | omega)) (Foot.sub1 (by decide +kernel) (Foot.holds_same (.head _)))
      refine Moves.seq ?_ (State.put_moves _ _ _ (by first | (dsimp only [F.BL_LINE_STAT_STATE]; omega) | omega)) (Foot.sub1 (by decide +kernel) (Foot.holds_same (.head _)))
      exact Moves.refl _
    · refine Moves.seq ?_ (State.put_moves _ _ _ (by first | (dsimp only [F.BL_LINE_STAT_CAUSE]; omega) | omega)) (Foot.sub1 (by decide +kernel) (Foot.holds_same (.head _)))
      refine Moves.seq ?_ (State.put_moves _ _ _ (by first | (dsimp only [F.BL_LINE_STAT_STATE]; omega) | omega)) (Foot.sub1 (by decide +kernel) (Foot.holds_same (.head _)))
      exact Moves.refl _
    · refine Moves.seq ?_ (State.put_moves _ _ _ (by first | (dsimp only [F.BL_LINE_STAT_CAUSE]; omega) | omega)) (Foot.sub1 (by decide +kernel) (Foot.holds_same (.head _)))
      refine Moves.seq ?_ (State.put_moves _ _ _ (by first | (dsimp only [F.BL_LINE_STAT_STATE]; omega) | omega)) (Foot.sub1 (by decide +kernel) (Foot.holds_same (.head _)))
      exact Moves.refl _
  intro h1
  try clear_value x1
  extract_lets -merge -underBinder +onlyGivenNames x2
  subst x2
  extract_lets -merge -underBinder +onlyGivenNames x3
  refine Moves.let_ x3 ?_ ?_
  · subst x3
    refine Moves.seq ?_ (State.setLine_moves ..) (Foot.sub0 (by decide +kernel))
    exact h1
  intro h3
  try clear_value x3
  refine Moves.seq ?_ (State.beamRefresh_moves ..) (Foot.sub_at (by decide +kernel) (Foot.own_cons (Foot.holds_same (.tail _ (.head _))) (Foot.own_cons (Foot.holds_same (.tail _ (.tail _ (.head _)))) (Foot.own_cons (Foot.holds_same (.tail _ (.tail _ (.tail _ (.head _))))) (Foot.own_cons (Foot.holds_same (.tail _ (.tail _ (.tail _ (.tail _ (.head _)))))) (Foot.own_cons (Foot.holds_same (.tail _ (.tail _ (.tail _ (.tail _ (.tail _ (.head _))))))) (Foot.own_cons (Foot.holds_same (.tail _ (.tail _ (.tail _ (.tail _ (.tail _ (.tail _ (.head _)))))))) (Foot.own_cons (Foot.holds_same (.tail _ (.tail _ (.tail _ (.tail _ (.tail _ (.tail _ (.tail _ (.head _))))))))) (Foot.own_cons (Foot.holds_same (.tail _ (.tail _ (.tail _ (.tail _ (.tail _ (.tail _ (.tail _ (.tail _ (.head _)))))))))) (Foot.own_cons (Foot.holds_same (.tail _ (.tail _ (.tail _ (.tail _ (.tail _ (.tail _ (.tail _ (.tail _ (.tail _ (.head _))))))))))) (Foot.own_cons (Foot.holds_same (.tail _ (.tail _ (.tail _ (.tail _ (.tail _ (.tail _ (.tail _ (.tail _ (.tail _ (.tail _ (.head _)))))))))))) Foot.own_nil)))))))))))
  refine Moves.seq ?_ (State.post_moves ..) (Foot.sub0 (by decide +kernel))
  refine Moves.seq ?_ (State.raise_moves ..) (Foot.sub1 (by decide +kernel) (Foot.holds_same (.tail _ (.tail _ (.tail _ (.tail _ (.tail _ (.tail _ (.tail _ (.tail _ (.tail _ (.tail _ (.tail _ (.head _))))))))))))))
  exact h3

def Foot.startClose : Foot :=
  ⟨[(0x005040, 0x005040), (0x011010, 0x011010), (0x011040, 0x011048), (0x012010, 0x012010), (0x012040,
    0x012048), (0x013058, 0x013058), (0x021010, 0x021010), (0x021040, 0x021048), (0x022010, 0x022010), (0x022040, 0x022048), (0x023058,
    0x023058), (0x100010, 0x100010), (0x100064, 0x100064)], [], [.evq, .lines, .ports, .beam]⟩

theorem State.startClose_moves (s : State) (l : Line) (c : CloseCause) :
    Moves (Foot.startClose.at [(65608 + 65536 * (l.idx % 2), 65608 + 65536 * (l.idx % 2)),
      (77904 + 65536 * ((l.port true).line.idx % 2), 77904 + 65536 * ((l.port true).line.idx % 2)),
      (77908 + 65536 * ((l.port true).line.idx % 2), 77908 + 65536 * ((l.port true).line.idx % 2)),
      (77896 + 65536 * ((l.port true).line.idx % 2), 77896 + 65536 * ((l.port true).line.idx % 2)),
      (77900 + 65536 * ((l.port true).line.idx % 2), 77900 + 65536 * ((l.port true).line.idx % 2)),
      (77904 + 65536 * ((l.port false).line.idx % 2), 77904 + 65536 * ((l.port false).line.idx % 2)),
      (77908 + 65536 * ((l.port false).line.idx % 2), 77908 + 65536 * ((l.port false).line.idx % 2)),
      (77896 + 65536 * ((l.port false).line.idx % 2), 77896 + 65536 * ((l.port false).line.idx % 2)),
      (77900 + 65536 * ((l.port false).line.idx % 2), 77900 + 65536 * ((l.port false).line.idx % 2)),
      (77888 + 65536 * (l.idx % 2), 77888 + 65536 * (l.idx % 2)),
      (4096 * ((77824 + 65536 * (l.idx % 2)) / 4096) + 16, 4096 * ((77824 + 65536 * (l.idx % 2)) / 4096) + 16),
      (4096 * ((65536 + 65536 * (l.idx % 2)) / 4096) + 16, 4096 * ((65536 + 65536 * (l.idx % 2)) / 4096) + 16)]) s (State.startClose s
      l c) := by
  unfold State.startClose
  split
  · extract_lets -merge -underBinder +onlyGivenNames x1
    refine Moves.let_ x1 ?_ ?_
    · subst x1
      refine Moves.seq ?_ (State.putB_moves _ _ _ (by first | (dsimp only [F.BL_LINE_STAT_WAIT_OTHER]; omega) | omega)) (Foot.sub1 (by decide +kernel) (Foot.holds_same (.head _)))
      exact Moves.refl _
    intro h1
    try clear_value x1
    refine Moves.ite (fun hc => ?_) (fun hc => ?_)
    · refine Moves.seq ?_ (State.runClosing_moves ..) (Foot.sub1 (by decide +kernel) (Foot.holds_same (.head _)))
      exact h1
    · split
      · refine Moves.ite (fun hc => ?_) (fun hc => ?_)
        · exact h1
        · refine Moves.seq ?_ (State.enterClosed_moves ..) (Foot.sub_at (by decide +kernel) (Foot.own_cons (Foot.holds_same (.head _)) (Foot.own_cons (Foot.holds_same (.tail _ (.head _))) (Foot.own_cons (Foot.holds_same (.tail _ (.tail _ (.head _)))) (Foot.own_cons (Foot.holds_same (.tail _ (.tail _ (.tail _ (.head _))))) (Foot.own_cons (Foot.holds_same (.tail _ (.tail _ (.tail _ (.tail _ (.head _)))))) (Foot.own_cons (Foot.holds_same (.tail _ (.tail _ (.tail _ (.tail _ (.tail _ (.head _))))))) (Foot.own_cons (Foot.holds_same (.tail _ (.tail _ (.tail _ (.tail _ (.tail _ (.tail _ (.head _)))))))) (Foot.own_cons (Foot.holds_same (.tail _ (.tail _ (.tail _ (.tail _ (.tail _ (.tail _ (.tail _ (.head _))))))))) (Foot.own_cons (Foot.holds_same (.tail _ (.tail _ (.tail _ (.tail _ (.tail _ (.tail _ (.tail _ (.tail _ (.head _)))))))))) (Foot.own_cons (Foot.holds_same (.tail _ (.tail _ (.tail _ (.tail _ (.tail _ (.tail _ (.tail _ (.tail _ (.tail _ (.head _))))))))))) (Foot.own_cons (Foot.holds_same (.tail _ (.tail _ (.tail _ (.tail _ (.tail _ (.tail _ (.tail _ (.tail _ (.tail _ (.tail _ (.head _)))))))))))) (Foot.own_cons (Foot.holds_same (.tail _ (.tail _ (.tail _ (.tail _ (.tail _ (.tail _ (.tail _ (.tail _ (.tail _ (.tail _ (.tail _ (.head _))))))))))))) Foot.own_nil)))))))))))))
          exact h1
      · refine Moves.ite (fun hc => ?_) (fun hc => ?_)
        · exact h1
        · refine Moves.seq ?_ (State.enterClosed_moves ..) (Foot.sub_at (by decide +kernel) (Foot.own_cons (Foot.holds_same (.head _)) (Foot.own_cons (Foot.holds_same (.tail _ (.head _))) (Foot.own_cons (Foot.holds_same (.tail _ (.tail _ (.head _)))) (Foot.own_cons (Foot.holds_same (.tail _ (.tail _ (.tail _ (.head _))))) (Foot.own_cons (Foot.holds_same (.tail _ (.tail _ (.tail _ (.tail _ (.head _)))))) (Foot.own_cons (Foot.holds_same (.tail _ (.tail _ (.tail _ (.tail _ (.tail _ (.head _))))))) (Foot.own_cons (Foot.holds_same (.tail _ (.tail _ (.tail _ (.tail _ (.tail _ (.tail _ (.head _)))))))) (Foot.own_cons (Foot.holds_same (.tail _ (.tail _ (.tail _ (.tail _ (.tail _ (.tail _ (.tail _ (.head _))))))))) (Foot.own_cons (Foot.holds_same (.tail _ (.tail _ (.tail _ (.tail _ (.tail _ (.tail _ (.tail _ (.tail _ (.head _)))))))))) (Foot.own_cons (Foot.holds_same (.tail _ (.tail _ (.tail _ (.tail _ (.tail _ (.tail _ (.tail _ (.tail _ (.tail _ (.head _))))))))))) (Foot.own_cons (Foot.holds_same (.tail _ (.tail _ (.tail _ (.tail _ (.tail _ (.tail _ (.tail _ (.tail _ (.tail _ (.tail _ (.head _)))))))))))) (Foot.own_cons (Foot.holds_same (.tail _ (.tail _ (.tail _ (.tail _ (.tail _ (.tail _ (.tail _ (.tail _ (.tail _ (.tail _ (.tail _ (.head _))))))))))))) Foot.own_nil)))))))))))))
          exact h1
      · exact h1
  · extract_lets -merge -underBinder +onlyGivenNames x2
    subst x2
    refine Moves.seq ?_ (State.setLine_moves ..) (Foot.sub0 (by decide +kernel))
    exact Moves.refl _

def Foot.duskRole : Foot :=
  ⟨[(0x003010, 0x003010), (0x003040, 0x003040), (0x003050, 0x003050), (0x00306C, 0x00306C)], [], [.out,
    .beam, .fab, .wake]⟩

theorem State.duskRole_moves (s : State) : Moves (Foot.duskRole.at []) s (State.duskRole s) := by
  unfold State.duskRole
  refine Moves.ite (fun hc => ?_) (fun hc => ?_)
  · refine Moves.seq ?_ (State.cancelDusk_moves ..) (Foot.sub0 (by decide +kernel))
    exact Moves.refl _
  · exact Moves.refl _

def Foot.setSynced : Foot := ⟨[(0x0A0040, 0x0A0040), (0x0A2044, 0x0A2044)], [], []⟩

theorem State.setSynced_moves (s : State) (b : Bool) : Moves (Foot.setSynced.at []) s (State.setSynced s b) := by
  unfold State.setSynced
  extract_lets -merge -underBinder +onlyGivenNames x1
  refine Moves.let_ x1 ?_ ?_
  · subst x1
    refine Moves.seq ?_ (State.putB_moves _ _ _ (by decide)) (Foot.sub1 (by decide +kernel) (Foot.holds_reg (by decide +kernel)))
    exact Moves.refl _
  intro h1
  try clear_value x1
  refine Moves.seq ?_ (State.putB_moves _ _ _ (by decide)) (Foot.sub1 (by decide +kernel) (Foot.holds_reg (by decide +kernel)))
  exact h1

def Foot.dropSync : Foot := ⟨[(0x0A0040, 0x0A0040), (0x0A2044, 0x0A2044)], [], [.twn]⟩

theorem State.dropSync_moves (s : State) : Moves (Foot.dropSync.at []) s (State.dropSync s) := by
  unfold State.dropSync
  refine Moves.seq ?_ (State.setSynced_moves ..) (Foot.sub0 (by decide +kernel))
  refine Moves.seq ?_ (State.modTwn_moves ..) (Foot.sub0 (by decide +kernel))
  exact Moves.refl _

def Foot.askBase : Foot := ⟨[], [], [.twn]⟩

theorem State.askBase_moves (s : State) : Moves (Foot.askBase.at []) s (State.askBase s) := by
  unfold State.askBase
  refine Moves.ite (fun hc => ?_) (fun hc => ?_)
  · refine Moves.seq ?_ (State.modTwn_moves ..) (Foot.sub0 (by decide +kernel))
    exact Moves.refl _
  · exact Moves.refl _

def Foot.roleActs : Foot :=
  ⟨[(0x003010, 0x003010), (0x003040, 0x003040), (0x003050, 0x003050), (0x00306C, 0x00306C), (0x005040,
    0x005040), (0x010010, 0x010010), (0x010048, 0x010048), (0x011010, 0x011010), (0x011040, 0x011048), (0x012010, 0x012010), (0x012040,
    0x012048), (0x013010, 0x013010), (0x013040, 0x013040), (0x013048, 0x013058), (0x020010, 0x020010), (0x020048, 0x020048), (0x021010,
    0x021010), (0x021040, 0x021048), (0x022010, 0x022010), (0x022040, 0x022048), (0x023010, 0x023010), (0x023040, 0x023040), (0x023048,
    0x023058), (0x060010, 0x060010), (0x060044, 0x060044), (0x090010, 0x090010), (0x090058, 0x090064), (0x091010, 0x091010), (0x091050,
    0x091058), (0x093060, 0x093060), (0x0A0040, 0x0A0040), (0x0A2044, 0x0A2044), (0x100010, 0x100010), (0x100064, 0x100064)], [],
    [.out, .evq, .lines, .ports, .beam, .fab, .tim, .wake, .twn]⟩

theorem State.roleActs_moves (s : State) (new : Nat) (cause : Nat) : Moves (Foot.roleActs.at []) s (State.roleActs s new cause) := by
  unfold State.roleActs
  extract_lets -merge -underBinder +onlyGivenNames x1
  refine Moves.let_ x1 ?_ ?_
  · subst x1
    refine Moves.ite (fun hc => ?_) (fun hc => ?_)
    · exact Moves.refl _
    · refine Moves.seq ?_ (State.releaseClaim_moves ..) (Foot.sub0 (by decide +kernel))
      exact Moves.refl _
  intro h1
  try clear_value x1
  extract_lets -merge -underBinder +onlyGivenNames x2
  refine Moves.let_ x2 ?_ ?_
  · subst x2
    refine Moves.ite (fun hc => ?_) (fun hc => ?_)
    · refine Moves.seq ?_ (State.modTwn_moves ..) (Foot.sub0 (by decide +kernel))
      exact h1
    · exact h1
  intro h2
  try clear_value x2
  extract_lets -merge -underBinder +onlyGivenNames x3
  refine Moves.let_ x3 ?_ ?_
  · subst x3
    refine Moves.ite (fun hc => ?_) (fun hc => ?_)
    · refine Moves.seq ?_ (State.startClose_moves ..) (Foot.sub_at (by decide +kernel) (Foot.own_cons (Foot.holds_reg (by decide +kernel)) (Foot.own_cons (Foot.holds_reg (by decide +kernel)) (Foot.own_cons (Foot.holds_reg (by decide +kernel)) (Foot.own_cons (Foot.holds_reg (by decide +kernel)) (Foot.own_cons (Foot.holds_reg (by decide +kernel)) (Foot.own_cons (Foot.holds_reg (by decide +kernel)) (Foot.own_cons (Foot.holds_reg (by decide +kernel)) (Foot.own_cons (Foot.holds_reg (by decide +kernel)) (Foot.own_cons (Foot.holds_reg (by decide +kernel)) (Foot.own_cons (Foot.holds_reg (by decide +kernel)) (Foot.own_cons (Foot.holds_reg (by decide +kernel)) (Foot.own_cons (Foot.holds_reg (by decide +kernel)) Foot.own_nil)))))))))))))
      refine Moves.seq ?_ (State.startClose_moves ..) (Foot.sub_at (by decide +kernel) (Foot.own_cons (Foot.holds_reg (by decide +kernel)) (Foot.own_cons (Foot.holds_reg (by decide +kernel)) (Foot.own_cons (Foot.holds_reg (by decide +kernel)) (Foot.own_cons (Foot.holds_reg (by decide +kernel)) (Foot.own_cons (Foot.holds_reg (by decide +kernel)) (Foot.own_cons (Foot.holds_reg (by decide +kernel)) (Foot.own_cons (Foot.holds_reg (by decide +kernel)) (Foot.own_cons (Foot.holds_reg (by decide +kernel)) (Foot.own_cons (Foot.holds_reg (by decide +kernel)) (Foot.own_cons (Foot.holds_reg (by decide +kernel)) (Foot.own_cons (Foot.holds_reg (by decide +kernel)) (Foot.own_cons (Foot.holds_reg (by decide +kernel)) Foot.own_nil)))))))))))))
      exact h2
    · exact h2
  intro h3
  try clear_value x3
  extract_lets -merge -underBinder +onlyGivenNames x4
  refine Moves.let_ x4 ?_ ?_
  · subst x4
    refine Moves.seq ?_ (State.gmUpdate_moves ..) (Foot.sub0 (by decide +kernel))
    refine Moves.seq ?_ (State.sgwMute_moves ..) (Foot.sub0 (by decide +kernel))
    exact h3
  intro h4
  try clear_value x4
  extract_lets -merge -underBinder +onlyGivenNames x5
  refine Moves.let_ x5 ?_ ?_
  · subst x5
    refine Moves.ite (fun hc => ?_) (fun hc => ?_)
    · refine Moves.seq ?_ (State.duskRole_moves ..) (Foot.sub0 (by decide +kernel))
      exact h4
    · exact h4
  intro h5
  try clear_value x5
  extract_lets -merge -underBinder +onlyGivenNames x6
  refine Moves.let_ x6 ?_ ?_
  · subst x6
    refine Moves.ite (fun hc => ?_) (fun hc => ?_)
    · exact h5
    · refine Moves.seq ?_ (State.dropSync_moves ..) (Foot.sub0 (by decide +kernel))
      refine Moves.seq ?_ (State.modTwn_moves ..) (Foot.sub0 (by decide +kernel))
      exact h5
  intro h6
  try clear_value x6
  extract_lets -merge -underBinder +onlyGivenNames x7
  refine Moves.let_ x7 ?_ ?_
  · subst x7
    refine Moves.seq ?_ (State.modTwn_moves ..) (Foot.sub0 (by decide +kernel))
    exact h6
  intro h7
  try clear_value x7
  refine Moves.seq ?_ (State.askBase_moves ..) (Foot.sub0 (by decide +kernel))
  refine Moves.seq ?_ (State.putB_moves _ _ _ (by decide)) (Foot.sub1 (by decide +kernel) (Foot.holds_reg (by decide +kernel)))
  exact h7

def Foot.setRole : Foot :=
  ⟨[(0x003010, 0x003010), (0x003040, 0x003040), (0x003050, 0x003050), (0x00306C, 0x00306C), (0x005040,
    0x005040), (0x010010, 0x010010), (0x010048, 0x010048), (0x011010, 0x011010), (0x011040, 0x011048), (0x012010, 0x012010), (0x012040,
    0x012048), (0x013010, 0x013010), (0x013040, 0x013040), (0x013048, 0x013058), (0x020010, 0x020010), (0x020048, 0x020048), (0x021010,
    0x021010), (0x021040, 0x021048), (0x022010, 0x022010), (0x022040, 0x022048), (0x023010, 0x023010), (0x023040, 0x023040), (0x023048,
    0x023058), (0x060010, 0x060010), (0x060044, 0x060044), (0x090010, 0x090010), (0x090058, 0x090064), (0x091010, 0x091010), (0x091050,
    0x091058), (0x093060, 0x093060), (0x0A0010, 0x0A0010), (0x0A0040, 0x0A0040), (0x0A0060, 0x0A0060), (0x0A2044, 0x0A2044), (0x100010,
    0x100010), (0x100064, 0x100064)], [], [.out, .evq, .lines, .ports, .beam, .fab, .tim, .wake, .twn]⟩

theorem State.setRole_moves (s : State) (new : Nat) (cause : Nat) (cold : Bool) (det : Nat) :
    Moves (Foot.setRole.at []) s (State.setRole s new cause cold det) := by
  unfold State.setRole
  extract_lets -merge -underBinder +onlyGivenNames x1
  subst x1
  refine Moves.ite (fun hc => ?_) (fun hc => ?_)
  · exact Moves.refl _
  · extract_lets -merge -underBinder +onlyGivenNames x2
    subst x2
    extract_lets -merge -underBinder +onlyGivenNames x3
    refine Moves.let_ x3 ?_ ?_
    · subst x3
      refine Moves.seq ?_ (State.put_moves _ _ _ (by decide)) (Foot.sub1 (by decide +kernel) (Foot.holds_reg (by decide +kernel)))
      exact Moves.refl _
    intro h3
    try clear_value x3
    extract_lets -merge -underBinder +onlyGivenNames x4
    refine Moves.let_ x4 ?_ ?_
    · subst x4
      refine Moves.seq ?_ (State.wr_moves _ _ (by decide)) (Foot.sub1 (by decide +kernel) (Foot.holds_reg (by decide +kernel)))
      exact h3
    intro h4
    try clear_value x4
    extract_lets -merge -underBinder +onlyGivenNames x5
    refine Moves.let_ x5 ?_ ?_
    · subst x5
      refine Moves.seq ?_ (State.post_moves ..) (Foot.sub0 (by decide +kernel))
      refine Moves.seq ?_ (State.raise_moves ..) (Foot.sub1 (by decide +kernel) (Foot.holds_reg (by decide +kernel)))
      exact h4
    intro h5
    try clear_value x5
    refine Moves.seq ?_ (State.roleActs_moves ..) (Foot.sub0 (by decide +kernel))
    exact h5

def Foot.isolateNow : Foot :=
  ⟨[(0x003010, 0x003010), (0x003040, 0x003040), (0x003050, 0x003050), (0x00306C, 0x00306C), (0x005040,
    0x005040), (0x010010, 0x010010), (0x010048, 0x010048), (0x011010, 0x011010), (0x011040, 0x011048), (0x012010, 0x012010), (0x012040,
    0x012048), (0x013010, 0x013010), (0x013040, 0x013040), (0x013048, 0x013058), (0x020010, 0x020010), (0x020048, 0x020048), (0x021010,
    0x021010), (0x021040, 0x021048), (0x022010, 0x022010), (0x022040, 0x022048), (0x023010, 0x023010), (0x023040, 0x023040), (0x023048,
    0x023058), (0x060010, 0x060010), (0x060044, 0x060044), (0x090010, 0x090010), (0x090058, 0x090064), (0x091010, 0x091010), (0x091050,
    0x091058), (0x093060, 0x093060), (0x0A0010, 0x0A0010), (0x0A0040, 0x0A0040), (0x0A0060, 0x0A0060), (0x0A2044, 0x0A2044), (0x100010,
    0x100010), (0x100064, 0x100064)], [], [.out, .evq, .lines, .ports, .beam, .fab, .tim, .wake, .twn]⟩

theorem State.isolateNow_moves (s : State) (cause : Nat) : Moves (Foot.isolateNow.at []) s (State.isolateNow s cause) := by
  unfold State.isolateNow
  refine Moves.ite (fun hc => ?_) (fun hc => ?_)
  · refine Moves.seq ?_ (State.setRole_moves ..) (Foot.sub0 (by decide +kernel))
    exact Moves.refl _
  · exact Moves.refl _

def Foot.proposeHandover : Foot :=
  ⟨[(0x003010, 0x003010), (0x003040, 0x003040), (0x003050, 0x003050), (0x00306C, 0x00306C),
    (0x005040, 0x005040), (0x010010, 0x010010), (0x010048, 0x010048), (0x011010, 0x011010), (0x011040, 0x011048), (0x012010, 0x012010),
    (0x012040, 0x012048), (0x013010, 0x013010), (0x013040, 0x013040), (0x013048, 0x013058), (0x020010, 0x020010), (0x020048, 0x020048),
    (0x021010, 0x021010), (0x021040, 0x021048), (0x022010, 0x022010), (0x022040, 0x022048), (0x023010, 0x023010), (0x023040, 0x023040),
    (0x023048, 0x023058), (0x060010, 0x060010), (0x060044, 0x060044), (0x090010, 0x090010), (0x090058, 0x090064), (0x091010, 0x091010),
    (0x091050, 0x091058), (0x093060, 0x093060), (0x0A0010, 0x0A0010), (0x0A0040, 0x0A0040), (0x0A004C, 0x0A0050), (0x0A0060, 0x0A0060),
    (0x0A2044, 0x0A2044), (0x100010, 0x100010), (0x100064, 0x100064)], [], [.out, .evq, .lines, .ports, .beam, .fab, .tim, .wake,
    .twn]⟩

theorem State.proposeHandover_moves (s : State) (fault : Bool) (cause : Nat) :
    Moves (Foot.proposeHandover.at []) s (State.proposeHandover s fault cause) := by
  unfold State.proposeHandover
  split
  · refine Moves.ite (fun hc => ?_) (fun hc => ?_)
    · refine Moves.seq ?_ (State.modTwn_moves ..) (Foot.sub0 (by decide +kernel))
      exact Moves.refl _
    · exact Moves.refl _
  · extract_lets -merge -underBinder +onlyGivenNames x1
    subst x1
    extract_lets -merge -underBinder +onlyGivenNames x2
    subst x2
    extract_lets -merge -underBinder +onlyGivenNames x3
    refine Moves.let_ x3 ?_ ?_
    · subst x3
      refine Moves.seq ?_ (State.put_moves _ _ _ (by decide)) (Foot.sub1 (by decide +kernel) (Foot.holds_reg (by decide +kernel)))
      exact Moves.refl _
    intro h3
    try clear_value x3
    refine Moves.ite (fun hc => ?_) (fun hc => ?_)
    · extract_lets -merge -underBinder +onlyGivenNames x4
      subst x4
      refine Moves.seq ?_ (State.modTwn_moves ..) (Foot.sub0 (by decide +kernel))
      refine Moves.seq ?_ (State.put_moves _ _ _ (by decide)) (Foot.sub1 (by decide +kernel) (Foot.holds_reg (by decide +kernel)))
      exact h3
    · extract_lets -merge -underBinder +onlyGivenNames x5
      refine Moves.let_ x5 ?_ ?_
      · subst x5
        refine Moves.seq ?_ (State.raise_moves ..) (Foot.sub1 (by decide +kernel) (Foot.holds_reg (by decide +kernel)))
        exact h3
      intro h5
      try clear_value x5
      refine Moves.ite (fun hc => ?_) (fun hc => ?_)
      · refine Moves.seq ?_ (State.isolateNow_moves ..) (Foot.sub0 (by decide +kernel))
        exact h5
      · exact h5

def Foot.isolate : Foot :=
  ⟨[(0x003010, 0x003010), (0x003040, 0x003040), (0x003050, 0x003050), (0x00306C, 0x00306C), (0x005040,
    0x005040), (0x010010, 0x010010), (0x010048, 0x010048), (0x011010, 0x011010), (0x011040, 0x011048), (0x012010, 0x012010), (0x012040,
    0x012048), (0x013010, 0x013010), (0x013040, 0x013040), (0x013048, 0x013058), (0x020010, 0x020010), (0x020048, 0x020048), (0x021010,
    0x021010), (0x021040, 0x021048), (0x022010, 0x022010), (0x022040, 0x022048), (0x023010, 0x023010), (0x023040, 0x023040), (0x023048,
    0x023058), (0x060010, 0x060010), (0x060044, 0x060044), (0x090010, 0x090010), (0x090058, 0x090064), (0x091010, 0x091010), (0x091050,
    0x091058), (0x093060, 0x093060), (0x0A0010, 0x0A0010), (0x0A0040, 0x0A0040), (0x0A004C, 0x0A0050), (0x0A0060, 0x0A0060), (0x0A2044,
    0x0A2044), (0x100010, 0x100010), (0x100064, 0x100064)], [], [.out, .evq, .lines, .ports, .beam, .fab, .tim, .wake, .twn]⟩

theorem State.isolate_moves (s : State) : Moves (Foot.isolate.at []) s (State.isolate s) := by
  unfold State.isolate
  refine Moves.ite (fun hc => ?_) (fun hc => ?_)
  · refine Moves.seq ?_ (State.proposeHandover_moves ..) (Foot.sub0 (by decide +kernel))
    exact Moves.refl _
  · refine Moves.seq ?_ (State.isolateNow_moves ..) (Foot.sub0 (by decide +kernel))
    exact Moves.refl _

def Foot.setCan : Foot := ⟨[], [], [.cans]⟩

theorem State.setCan_moves (s : State) (n : Nat) (c : CanState) : Moves (Foot.setCan.at []) s (State.setCan s n c) := by
  unfold State.setCan
  refine Moves.seq ?_ (Moves.upd_cans _ _) (Foot.sub0 (by decide +kernel))
  exact Moves.refl _

def Foot.modCan : Foot := ⟨[], [], [.cans]⟩

theorem State.modCan_moves (s : State) (n : Nat) (f : CanState → CanState) : Moves (Foot.modCan.at []) s (State.modCan s n f) := by
  unfold State.modCan
  refine Moves.seq ?_ (State.setCan_moves ..) (Foot.sub0 (by decide +kernel))
  exact Moves.refl _

def Foot.enActs : Foot :=
  ⟨[(0x003010, 0x003010), (0x003040, 0x003040), (0x003050, 0x003050), (0x00306C, 0x00306C), (0x005040,
    0x005040), (0x010010, 0x010010), (0x010048, 0x010048), (0x011010, 0x011010), (0x011040, 0x011048), (0x012010, 0x012010), (0x012040,
    0x012048), (0x013010, 0x013010), (0x013040, 0x013040), (0x013048, 0x013058), (0x020010, 0x020010), (0x020048, 0x020048), (0x021010,
    0x021010), (0x021040, 0x021048), (0x022010, 0x022010), (0x022040, 0x022048), (0x023010, 0x023010), (0x023040, 0x023040), (0x023048,
    0x023058), (0x060010, 0x060010), (0x060044, 0x060044), (0x090010, 0x090010), (0x090058, 0x090064), (0x091010, 0x091010), (0x091050,
    0x091058), (0x093060, 0x093060), (0x0A0010, 0x0A0010), (0x0A0040, 0x0A0040), (0x0A004C, 0x0A0050), (0x0A0060, 0x0A0060), (0x0A2044,
    0x0A2044), (0x100010, 0x100010), (0x100064, 0x100064)], [], [.out, .evq, .lines, .ports, .beam, .fab, .tim, .cans, .wake, .twn]⟩

theorem State.enActs_moves (s : State) (pg : Nat) (was : Bool) : Moves (Foot.enActs.at []) s (State.enActs s pg was) := by
  unfold State.enActs
  extract_lets -merge -underBinder +onlyGivenNames x1
  subst x1
  refine Moves.ite (fun hc => ?_) (fun hc => ?_)
  · exact Moves.refl _
  · refine Moves.ite (fun hc => ?_) (fun hc => ?_)
    · refine Moves.ite (fun hc => ?_) (fun hc => ?_)
      · exact Moves.refl _
      · refine Moves.seq ?_ (State.isolate_moves ..) (Foot.sub0 (by decide +kernel))
        exact Moves.refl _
    · refine Moves.ite (fun hc => ?_) (fun hc => ?_)
      · refine Moves.seq ?_ (State.putB_moves _ _ _ (by decide)) (Foot.sub1 (by decide +kernel) (Foot.holds_reg (by decide +kernel)))
        exact Moves.refl _
      · refine Moves.foldl _ (fun x2 _ h2 => ?_) _ ?_
        · refine Moves.ite (fun hc => ?_) (fun hc => ?_)
          · refine Moves.seq ?_ (State.modCan_moves ..) (Foot.sub0 (by decide +kernel))
            exact h2
          · exact h2
        · exact Moves.refl _

def Foot.openingDone : Foot := ⟨[], [], [.lines]⟩

theorem State.openingDone_moves (s : State) (l : Line) : Moves (Foot.openingDone.at []) s (State.openingDone s l) := by
  unfold State.openingDone
  refine Moves.ite (fun hc => ?_) (fun hc => ?_)
  · refine Moves.seq ?_ (State.setLine_moves ..) (Foot.sub0 (by decide +kernel))
    exact Moves.refl _
  · exact Moves.refl _

def Foot.isoPort : Foot :=
  ⟨[(0x003064, 0x003064), (0x100010, 0x100010), (0x100044, 0x100044), (0x100064, 0x10006C)], [], [.mem,
    .out, .evq, .lines, .ports, .top, .beam, .fab]⟩

theorem State.isoPort_moves (s : State) (p : BPort) (on : Bool) :
    Moves (Foot.isoPort.at [(4096 * ((69632 + 65536 * (p.line.idx % 2) + 4096 * (p.side % 2)) / 4096) + 16, 4096 * ((69632 + 65536 *
      (p.line.idx % 2) + 4096 * (p.side % 2)) / 4096) + 16),
      (69696 + 65536 * (p.line.idx % 2) + 4096 * (p.side % 2), 69696 + 65536 * (p.line.idx % 2) + 4096 * (p.side % 2)),
      (69704 + 65536 * (p.line.idx % 2) + 4096 * (p.side % 2), 69704 + 65536 * (p.line.idx % 2) + 4096 * (p.side % 2)),
      (69700 + 65536 * (p.line.idx % 2) + 4096 * (p.side % 2), 69700 + 65536 * (p.line.idx % 2) + 4096 * (p.side % 2)),
      (77912 + 65536 * (p.line.idx % 2), 77912 + 65536 * (p.line.idx % 2))]) s (State.isoPort s p on) := by
  unfold State.isoPort
  refine Moves.ite (fun hc => ?_) (fun hc => ?_)
  · exact Moves.refl _
  · extract_lets -merge -underBinder +onlyGivenNames x1
    refine Moves.let_ x1 ?_ ?_
    · subst x1
      refine Moves.seq ?_ (State.putB_moves _ _ _ (by show 12388 % 4096 ≠ 16; decide)) (Foot.sub1 (by decide +kernel) (Foot.holds_reg (lo := 12388) (hi := 12388) (by decide +kernel)))
      exact Moves.refl _
    intro h1
    try clear_value x1
    extract_lets -merge -underBinder +onlyGivenNames x2
    refine Moves.let_ x2 ?_ ?_
    · subst x2
      refine Moves.ite (fun hc => ?_) (fun hc => ?_)
      · exact h1
      · refine Moves.ite (fun hc => ?_) (fun hc => ?_)
        · refine Moves.ite (fun hc => ?_) (fun hc => ?_)
          · refine Moves.seq ?_ (State.trigger_moves ..) (Foot.sub0 (by decide +kernel))
            refine Moves.seq ?_ (State.flap_moves ..) (Foot.sub_at (by decide +kernel) (Foot.own_cons (Foot.holds_same (.head _)) (Foot.own_cons (Foot.holds_same (.tail _ (.head _))) (Foot.own_cons (Foot.holds_same (.tail _ (.tail _ (.head _)))) (Foot.own_cons (Foot.holds_same (.tail _ (.tail _ (.tail _ (.head _))))) (Foot.own_cons (Foot.holds_same (.tail _ (.tail _ (.tail _ (.tail _ (.head _)))))) Foot.own_nil))))))
            refine Moves.seq ?_ (State.countChange_moves ..) (Foot.sub_at (by decide +kernel) (Foot.own_cons (Foot.holds_same (.head _)) (Foot.own_cons (Foot.holds_same (.tail _ (.head _))) Foot.own_nil)))
            refine Moves.seq ?_ (State.dropLink_moves ..) (Foot.sub_at (by decide +kernel) (Foot.own_cons (Foot.holds_same (.tail _ (.tail _ (.head _)))) (Foot.own_cons (Foot.holds_same (.tail _ (.tail _ (.tail _ (.head _))))) (Foot.own_cons (Foot.holds_same (.tail _ (.head _))) (Foot.own_cons (Foot.holds_same (.tail _ (.tail _ (.tail _ (.tail _ (.head _)))))) Foot.own_nil)))))
            exact h1
          · refine Moves.seq ?_ (State.put_moves _ _ _ (by first | (dsimp only [F.BL_P_STAT_TSTATE]; omega) | omega)) (Foot.sub1 (by decide +kernel) (Foot.holds_same (.tail _ (.head _))))
            exact h1
        · refine Moves.ite (fun hc => ?_) (fun hc => ?_)
          · exact h1
          · refine Moves.seq ?_ (State.put_moves _ _ _ (by first | (dsimp only [F.BL_P_STAT_TSTATE]; omega) | omega)) (Foot.sub1 (by decide +kernel) (Foot.holds_same (.tail _ (.head _))))
            exact h1
    intro h2
    try clear_value x2
    refine Moves.seq ?_ (State.openingDone_moves ..) (Foot.sub0 (by decide +kernel))
    exact h2

def Foot.isoSet : Foot :=
  ⟨[(0x003064, 0x003064), (0x011010, 0x011010), (0x011040, 0x011048), (0x012010, 0x012010), (0x012040,
    0x012048), (0x013058, 0x013058), (0x021010, 0x021010), (0x021040, 0x021048), (0x022010, 0x022010), (0x022040, 0x022048), (0x023058,
    0x023058), (0x100010, 0x100010), (0x100044, 0x100044), (0x100064, 0x10006C)], [], [.mem, .out, .evq, .lines, .ports, .top, .beam,
    .fab]⟩

theorem State.isoSet_moves (s : State) (v : Nat) : Moves (Foot.isoSet.at []) s (State.isoSet s v) := by
  unfold State.isoSet
  simp -zeta only [List.foldl_cons, List.foldl_nil]
  refine Moves.seq ?_ (State.isoPort_moves ..) (Foot.sub_at (by decide +kernel) (Foot.own_cons (Foot.holds_reg (by decide +kernel)) (Foot.own_cons (Foot.holds_reg (by decide +kernel)) (Foot.own_cons (Foot.holds_reg (by decide +kernel)) (Foot.own_cons (Foot.holds_reg (by decide +kernel)) (Foot.own_cons (Foot.holds_reg (by decide +kernel)) Foot.own_nil))))))
  refine Moves.seq ?_ (State.isoPort_moves ..) (Foot.sub_at (by decide +kernel) (Foot.own_cons (Foot.holds_reg (by decide +kernel)) (Foot.own_cons (Foot.holds_reg (by decide +kernel)) (Foot.own_cons (Foot.holds_reg (by decide +kernel)) (Foot.own_cons (Foot.holds_reg (by decide +kernel)) (Foot.own_cons (Foot.holds_reg (by decide +kernel)) Foot.own_nil))))))
  refine Moves.seq ?_ (State.isoPort_moves ..) (Foot.sub_at (by decide +kernel) (Foot.own_cons (Foot.holds_reg (by decide +kernel)) (Foot.own_cons (Foot.holds_reg (by decide +kernel)) (Foot.own_cons (Foot.holds_reg (by decide +kernel)) (Foot.own_cons (Foot.holds_reg (by decide +kernel)) (Foot.own_cons (Foot.holds_reg (by decide +kernel)) Foot.own_nil))))))
  refine Moves.seq ?_ (State.isoPort_moves ..) (Foot.sub_at (by decide +kernel) (Foot.own_cons (Foot.holds_reg (by decide +kernel)) (Foot.own_cons (Foot.holds_reg (by decide +kernel)) (Foot.own_cons (Foot.holds_reg (by decide +kernel)) (Foot.own_cons (Foot.holds_reg (by decide +kernel)) (Foot.own_cons (Foot.holds_reg (by decide +kernel)) Foot.own_nil))))))
  exact Moves.refl _

def Foot.setDin : Foot := ⟨[], [], [.din]⟩

theorem State.setDin_moves (s : State) (i : Nat) (d : DinInput) : Moves (Foot.setDin.at []) s (State.setDin s i d) := by
  unfold State.setDin
  refine Moves.seq ?_ (Moves.upd_din _ _) (Foot.sub0 (by decide +kernel))
  exact Moves.refl _

def Foot.dinRestart : Foot := ⟨[(0x004044, 0x004044), (0x00404C, 0x00404C), (0x004054, 0x004054), (0x00405C, 0x00405C)], [], [.din]⟩

theorem State.dinRestart_moves (s : State) : Moves (Foot.dinRestart.at []) s (State.dinRestart s) := by
  unfold State.dinRestart
  simp -zeta only [List.foldl_cons, List.foldl_nil]
  extract_lets -merge -underBinder +onlyGivenNames x1
  subst x1
  extract_lets -merge -underBinder +onlyGivenNames x2
  subst x2
  extract_lets -merge -underBinder +onlyGivenNames x3
  subst x3
  extract_lets -merge -underBinder +onlyGivenNames x4
  subst x4
  extract_lets -merge -underBinder +onlyGivenNames x5
  subst x5
  extract_lets -merge -underBinder +onlyGivenNames x6
  subst x6
  extract_lets -merge -underBinder +onlyGivenNames x7
  refine Moves.let_ x7 ?_ ?_
  · subst x7
    refine Moves.seq ?_ (State.putB_moves _ _ _ (by decide)) (Foot.sub1 (by decide +kernel) (Foot.holds_reg (by decide +kernel)))
    refine Moves.seq ?_ (State.putB_moves _ _ _ (by decide)) (Foot.sub1 (by decide +kernel) (Foot.holds_reg (by decide +kernel)))
    refine Moves.seq ?_ (State.putB_moves _ _ _ (by decide)) (Foot.sub1 (by decide +kernel) (Foot.holds_reg (by decide +kernel)))
    refine Moves.seq ?_ (State.setDin_moves ..) (Foot.sub0 (by decide +kernel))
    refine Moves.seq ?_ (State.putB_moves _ _ _ (by decide)) (Foot.sub1 (by decide +kernel) (Foot.holds_reg (by decide +kernel)))
    refine Moves.seq ?_ (State.putB_moves _ _ _ (by decide)) (Foot.sub1 (by decide +kernel) (Foot.holds_reg (by decide +kernel)))
    refine Moves.seq ?_ (State.putB_moves _ _ _ (by decide)) (Foot.sub1 (by decide +kernel) (Foot.holds_reg (by decide +kernel)))
    refine Moves.seq ?_ (State.setDin_moves ..) (Foot.sub0 (by decide +kernel))
    refine Moves.seq ?_ (State.putB_moves _ _ _ (by decide)) (Foot.sub1 (by decide +kernel) (Foot.holds_reg (by decide +kernel)))
    refine Moves.seq ?_ (State.putB_moves _ _ _ (by decide)) (Foot.sub1 (by decide +kernel) (Foot.holds_reg (by decide +kernel)))
    refine Moves.seq ?_ (State.putB_moves _ _ _ (by decide)) (Foot.sub1 (by decide +kernel) (Foot.holds_reg (by decide +kernel)))
    refine Moves.seq ?_ (State.setDin_moves ..) (Foot.sub0 (by decide +kernel))
    refine Moves.seq ?_ (State.putB_moves _ _ _ (by decide)) (Foot.sub1 (by decide +kernel) (Foot.holds_reg (by decide +kernel)))
    refine Moves.seq ?_ (State.putB_moves _ _ _ (by decide)) (Foot.sub1 (by decide +kernel) (Foot.holds_reg (by decide +kernel)))
    refine Moves.seq ?_ (State.putB_moves _ _ _ (by decide)) (Foot.sub1 (by decide +kernel) (Foot.holds_reg (by decide +kernel)))
    exact Moves.refl _
  intro h7
  try clear_value x7
  refine Moves.seq ?_ (State.setDin_moves ..) (Foot.sub0 (by decide +kernel))
  exact h7

def Foot.srstSys : Foot :=
  ⟨[(0x000000, 0x000FFF), (0x001000, 0x001FFF), (0x002000, 0x002FFF), (0x003000, 0x003FFF), (0x004000,
    0x004FFF), (0x005000, 0x005FFF), (0x006000, 0x006FFF), (0x011010, 0x011010), (0x011040, 0x011048), (0x012010, 0x012010), (0x012040,
    0x012048), (0x013058, 0x013058), (0x021010, 0x021010), (0x021040, 0x021048), (0x022010, 0x022010), (0x022040, 0x022048), (0x023058,
    0x023058), (0x100010, 0x100010), (0x100044, 0x100044), (0x100064, 0x10006C)], [], [.mem, .out, .evq, .evtCut, .acc, .lines, .ports,
    .top, .beam, .fab, .wake, .din]⟩

theorem State.srstSys_moves (s : State) (b : Nat) : Moves (Foot.srstSys.at []) s (State.srstSys s b) := by
  unfold State.srstSys
  split
  · refine Moves.seq ?_ (State.clearPage_moves ..) (Foot.sub1 (by decide +kernel) (Foot.holds_reg (by decide +kernel)))
    refine Moves.seq ?_ (State.put_moves _ _ _ (by decide)) (Foot.sub1 (by decide +kernel) (Foot.holds_reg (by decide +kernel)))
    refine Moves.seq ?_ (State.put_moves _ _ _ (by decide)) (Foot.sub1 (by decide +kernel) (Foot.holds_reg (by decide +kernel)))
    exact Moves.refl _
  · extract_lets -merge -underBinder +onlyGivenNames x1
    refine Moves.let_ x1 ?_ ?_
    · subst x1
      refine Moves.seq ?_ (State.clearPage_moves ..) (Foot.sub1 (by decide +kernel) (Foot.holds_reg (by decide +kernel)))
      exact Moves.refl _
    intro h1
    try clear_value x1
    refine Moves.foldl _ (fun x2 _ h2 => ?_) _ ?_
    · refine Moves.seq ?_ (State.put_moves _ _ _ (by first | (dsimp only [F.SYS_CLK_ISL_RESULT]; omega) | omega)) (Foot.sub1 (by decide +kernel) (Foot.holds_range 4224 4288 (by decide +kernel) (by first | (dsimp only [F.SYS_CLK_ISL_RESULT]; omega) | omega) (by first | (dsimp only [F.SYS_CLK_ISL_RESULT]; omega) | omega)))
      refine Moves.seq ?_ (State.put_moves _ _ _ (by first | (dsimp only [F.SYS_CLK_ISL_SRC]; omega) | omega)) (Foot.sub1 (by decide +kernel) (Foot.holds_range 4224 4288 (by decide +kernel) (by first | (dsimp only [F.SYS_CLK_ISL_SRC]; omega) | omega) (by first | (dsimp only [F.SYS_CLK_ISL_SRC]; omega) | omega)))
      exact h2
    · exact h1
  · extract_lets -merge -underBinder +onlyGivenNames x3
    refine Moves.let_ x3 ?_ ?_
    · subst x3
      refine Moves.seq ?_ (State.clearPage_moves ..) (Foot.sub1 (by decide +kernel) (Foot.holds_reg (by decide +kernel)))
      exact Moves.refl _
    intro h3
    try clear_value x3
    refine Moves.foldl _ (fun x4 _ h4 => ?_) _ ?_
    · refine Moves.seq ?_ (State.put_moves _ _ _ (by first | (dsimp only [F.SYS_PWR_SEQ_RESTARTS]; omega) | omega)) (Foot.sub1 (by decide +kernel) (Foot.holds_range 8320 8384 (by decide +kernel) (by first | (dsimp only [F.SYS_PWR_SEQ_RESTARTS]; omega) | omega) (by first | (dsimp only [F.SYS_PWR_SEQ_RESTARTS]; omega) | omega)))
      refine Moves.seq ?_ (State.put_moves _ _ _ (by first | (dsimp only [F.SYS_PWR_SEQ_UPS]; omega) | omega)) (Foot.sub1 (by decide +kernel) (Foot.holds_range 8320 8384 (by decide +kernel) (by first | (dsimp only [F.SYS_PWR_SEQ_UPS]; omega) | omega) (by first | (dsimp only [F.SYS_PWR_SEQ_UPS]; omega) | omega)))
      exact h4
    · exact h3
  · extract_lets -merge -underBinder +onlyGivenNames x5
    subst x5
    extract_lets -merge -underBinder +onlyGivenNames x6
    refine Moves.let_ x6 ?_ ?_
    · subst x6
      refine Moves.seq ?_ (State.putB_moves _ _ _ (by decide)) (Foot.sub1 (by decide +kernel) (Foot.holds_reg (by decide +kernel)))
      refine Moves.seq ?_ (State.clearPage_moves ..) (Foot.sub1 (by decide +kernel) (Foot.holds_reg (by decide +kernel)))
      refine Moves.seq ?_ (State.endDusk_moves ..) (Foot.sub0 (by decide +kernel))
      refine Moves.seq ?_ (State.isoSet_moves ..) (Foot.sub0 (by decide +kernel))
      exact Moves.refl _
    intro h6
    try clear_value x6
    refine Moves.seq ?_ (State.modWake_moves ..) (Foot.sub0 (by decide +kernel))
    exact h6
  · extract_lets -merge -underBinder +onlyGivenNames x7
    subst x7
    extract_lets -merge -underBinder +onlyGivenNames x8
    refine Moves.let_ x8 ?_ ?_
    · subst x8
      refine Moves.seq ?_ (State.dinRestart_moves ..) (Foot.sub0 (by decide +kernel))
      refine Moves.seq ?_ (State.clearPage_moves ..) (Foot.sub1 (by decide +kernel) (Foot.holds_reg (by decide +kernel)))
      exact Moves.refl _
    intro h8
    try clear_value x8
    refine Moves.foldl _ (fun x9 _ h9 => ?_) _ ?_
    · refine Moves.seq ?_ (State.put_moves _ _ _ (by first | (dsimp only [F.SYS_DIN_STAT_PIN]; omega) | omega)) (Foot.sub1 (by decide +kernel) (Foot.holds_four 16476 16468 16460 16452 (by decide +kernel) (by decide +kernel) (by decide +kernel) (by decide +kernel) (by first | (dsimp only [F.SYS_DIN_STAT_PIN]; omega) | omega)))
      exact h9
    · exact h8
  · refine Moves.seq ?_ (State.clearPage_moves ..) (Foot.sub1 (by decide +kernel) (Foot.holds_reg (by decide +kernel)))
    exact Moves.refl _
  · extract_lets -merge -underBinder +onlyGivenNames x10
    refine Moves.let_ x10 ?_ ?_
    · subst x10
      refine Moves.seq ?_ (State.clearPage_moves ..) (Foot.sub1 (by decide +kernel) (Foot.holds_reg (by decide +kernel)))
      exact Moves.refl _
    intro h10
    try clear_value x10
    refine Moves.seq ?_ (Moves.upd_acc _ _) (Foot.sub0 (by decide +kernel))
    exact h10

end Sys2Proof.Machine
end

