-- ==== Sys2Proof/Laws/Foot04.lean ====
section
/-!
SUPPORT. What the operations may touch: one footprint and one lemma each.
-/

namespace Sys2Proof.Machine

set_option Elab.async false

def Foot.srstBeam : Foot := ⟨[], [], [.evtCut, .beam]⟩

theorem State.srstBeam_moves (s : State) (l : Line) :
    Moves (Foot.srstBeam.at [(4096 * ((77824 + 65536 * (l.idx % 2)) / 4096), 4096 * ((77824 + 65536 * (l.idx % 2)) / 4096) + 4095),
      (77904 + 65536 * ((l.port true).line.idx % 2), 77904 + 65536 * ((l.port true).line.idx % 2)),
      (77908 + 65536 * ((l.port true).line.idx % 2), 77908 + 65536 * ((l.port true).line.idx % 2)),
      (77896 + 65536 * ((l.port true).line.idx % 2), 77896 + 65536 * ((l.port true).line.idx % 2)),
      (77900 + 65536 * ((l.port true).line.idx % 2), 77900 + 65536 * ((l.port true).line.idx % 2)),
      (77904 + 65536 * ((l.port false).line.idx % 2), 77904 + 65536 * ((l.port false).line.idx % 2)),
      (77908 + 65536 * ((l.port false).line.idx % 2), 77908 + 65536 * ((l.port false).line.idx % 2)),
      (77896 + 65536 * ((l.port false).line.idx % 2), 77896 + 65536 * ((l.port false).line.idx % 2)),
      (77900 + 65536 * ((l.port false).line.idx % 2), 77900 + 65536 * ((l.port false).line.idx % 2)),
      (77888 + 65536 * (l.idx % 2), 77888 + 65536 * (l.idx % 2)),
      (4096 * ((77824 + 65536 * (l.idx % 2)) / 4096) + 16, 4096 * ((77824 + 65536 * (l.idx % 2)) / 4096) + 16)]) s (State.srstBeam s
      l) := by
  unfold State.srstBeam
  extract_lets -merge -underBinder +onlyGivenNames x1
  refine Moves.let_ x1 ?_ ?_
  · subst x1
    refine Moves.seq ?_ (State.clearPage_moves ..) (Foot.sub1 (by decide +kernel) (Foot.holds_same (.head _)))
    exact Moves.refl _
  intro h1
  try clear_value x1
  extract_lets -merge -underBinder +onlyGivenNames x2
  refine Moves.let_ x2 ?_ ?_
  · subst x2
    refine Moves.seq ?_ (State.setDir_moves ..) (Foot.sub0 (by decide +kernel))
    refine Moves.seq ?_ (State.setDir_moves ..) (Foot.sub0 (by decide +kernel))
    exact h1
  intro h2
  try clear_value x2
  extract_lets -merge -underBinder +onlyGivenNames x3
  subst x3
  refine Moves.seq ?_ (State.beamRefresh_moves ..) (Foot.sub_at (by decide +kernel) (Foot.own_cons (Foot.holds_same (.tail _ (.head _))) (Foot.own_cons (Foot.holds_same (.tail _ (.tail _ (.head _)))) (Foot.own_cons (Foot.holds_same (.tail _ (.tail _ (.tail _ (.head _))))) (Foot.own_cons (Foot.holds_same (.tail _ (.tail _ (.tail _ (.tail _ (.head _)))))) (Foot.own_cons (Foot.holds_same (.tail _ (.tail _ (.tail _ (.tail _ (.tail _ (.head _))))))) (Foot.own_cons (Foot.holds_same (.tail _ (.tail _ (.tail _ (.tail _ (.tail _ (.tail _ (.head _)))))))) (Foot.own_cons (Foot.holds_same (.tail _ (.tail _ (.tail _ (.tail _ (.tail _ (.tail _ (.tail _ (.head _))))))))) (Foot.own_cons (Foot.holds_same (.tail _ (.tail _ (.tail _ (.tail _ (.tail _ (.tail _ (.tail _ (.tail _ (.head _)))))))))) (Foot.own_cons (Foot.holds_same (.tail _ (.tail _ (.tail _ (.tail _ (.tail _ (.tail _ (.tail _ (.tail _ (.tail _ (.head _))))))))))) (Foot.own_cons (Foot.holds_same (.tail _ (.tail _ (.tail _ (.tail _ (.tail _ (.tail _ (.tail _ (.tail _ (.tail _ (.tail _ (.head _)))))))))))) Foot.own_nil)))))))))))
  refine Moves.seq ?_ (Moves.upd_beam _ _) (Foot.sub0 (by decide +kernel))
  exact h2

def Foot.retireBank : Foot := ⟨[(0x032054, 0x032058)], [], [.fab]⟩

theorem State.retireBank_moves (s : State) (b : Nat) : Moves (Foot.retireBank.at []) s (State.retireBank s b) := by
  unfold State.retireBank
  extract_lets -merge -underBinder +onlyGivenNames x1
  refine Moves.let_ x1 ?_ ?_
  · subst x1
    refine Moves.seq ?_ (State.wr_moves _ _ (by decide)) (Foot.sub1 (by decide +kernel) (Foot.holds_reg (by decide +kernel)))
    exact Moves.refl _
  intro h1
  try clear_value x1
  refine Moves.ite (fun hc => ?_) (fun hc => ?_)
  · exact h1
  · extract_lets -merge -underBinder +onlyGivenNames x2
    subst x2
    extract_lets -merge -underBinder +onlyGivenNames x3
    refine Moves.let_ x3 ?_ ?_
    · subst x3
      refine Moves.seq ?_ (Moves.upd_fab _ _) (Foot.sub0 (by decide +kernel))
      exact h1
    intro h3
    try clear_value x3
    refine Moves.seq ?_ (State.wr_moves _ _ (by decide)) (Foot.sub1 (by decide +kernel) (Foot.holds_reg (by decide +kernel)))
    exact h3

def Foot.retireAgain : Foot := ⟨[(0x032054, 0x032058)], [], [.fab]⟩

theorem State.retireAgain_moves (s : State) : Moves (Foot.retireAgain.at []) s (State.retireAgain s) := by
  unfold State.retireAgain
  refine Moves.ite (fun hc => ?_) (fun hc => ?_)
  · exact Moves.refl _
  · refine Moves.foldl _ (fun x1 _ h1 => ?_) _ ?_
    · refine Moves.seq ?_ (State.retireBank_moves ..) (Foot.sub0 (by decide +kernel))
      exact h1
    · exact Moves.refl _

def Foot.poolsUp : Foot := ⟨[(0x032060, 0x03206C)], [], []⟩

theorem State.poolsUp_moves (s : State) : Moves (Foot.poolsUp.at []) s (State.poolsUp s) := by
  unfold State.poolsUp
  simp -zeta only [List.foldl_cons, List.foldl_nil]
  refine Moves.seq ?_ (State.put_moves _ _ _ (by decide)) (Foot.sub1 (by decide +kernel) (Foot.holds_reg (by decide +kernel)))
  refine Moves.seq ?_ (State.put_moves _ _ _ (by decide)) (Foot.sub1 (by decide +kernel) (Foot.holds_reg (by decide +kernel)))
  refine Moves.seq ?_ (State.put_moves _ _ _ (by decide)) (Foot.sub1 (by decide +kernel) (Foot.holds_reg (by decide +kernel)))
  refine Moves.seq ?_ (State.put_moves _ _ _ (by decide)) (Foot.sub1 (by decide +kernel) (Foot.holds_reg (by decide +kernel)))
  exact Moves.refl _

def Foot.zeroMem : Foot := ⟨[], [], [.mem]⟩

theorem State.zeroMem_moves (s : State) (a : Nat) (n : Nat) : Moves (Foot.zeroMem.at []) s (State.zeroMem s a n) := by
  unfold State.zeroMem
  refine Moves.seq ?_ (State.clearMem_moves ..) (Foot.sub0 (by decide +kernel))
  exact Moves.refl _

def Foot.srstFab : Foot :=
  ⟨[(0x030000, 0x030FFF), (0x031000, 0x031FFF), (0x032000, 0x032FFF), (0x033000, 0x033FFF), (0x034000,
    0x034FFF), (0x035000, 0x035FFF), (0x036000, 0x036FFF), (0x037000, 0x037FFF)], [], [.mem, .evtCut, .fab]⟩

theorem State.srstFab_moves (s : State) (b : Nat) : Moves (Foot.srstFab.at []) s (State.srstFab s b) := by
  unfold State.srstFab
  extract_lets -merge -underBinder +onlyGivenNames x1
  subst x1
  try dsimp -zeta only
  split
  · refine Moves.seq ?_ (Moves.upd_fab _ _) (Foot.sub0 (by decide +kernel))
    refine Moves.seq ?_ (State.clearPage_moves ..) (Foot.sub1 (by decide +kernel) (Foot.holds_reg (by decide +kernel)))
    exact Moves.refl _
  · extract_lets -merge -underBinder +onlyGivenNames x2
    refine Moves.let_ x2 ?_ ?_
    · subst x2
      refine Moves.seq ?_ (State.clearPage_moves ..) (Foot.sub1 (by decide +kernel) (Foot.holds_reg (by decide +kernel)))
      exact Moves.refl _
    intro h2
    try clear_value x2
    refine Moves.seq ?_ (State.put_moves _ _ _ (by decide)) (Foot.sub1 (by decide +kernel) (Foot.holds_reg (by decide +kernel)))
    exact h2
  · extract_lets -merge -underBinder +onlyGivenNames x3
    refine Moves.let_ x3 ?_ ?_
    · subst x3
      refine Moves.seq ?_ (Moves.upd_fab _ _) (Foot.sub0 (by decide +kernel))
      refine Moves.seq ?_ (State.clearPage_moves ..) (Foot.sub1 (by decide +kernel) (Foot.holds_reg (by decide +kernel)))
      exact Moves.refl _
    intro h3
    try clear_value x3
    refine Moves.seq ?_ (State.retireAgain_moves ..) (Foot.sub0 (by decide +kernel))
    refine Moves.seq ?_ (State.poolsUp_moves ..) (Foot.sub0 (by decide +kernel))
    refine Moves.seq ?_ (State.zeroMem_moves ..) (Foot.sub0 (by decide +kernel))
    exact h3
  · refine Moves.seq ?_ (State.zeroMem_moves ..) (Foot.sub0 (by decide +kernel))
    refine Moves.seq ?_ (State.clearPage_moves ..) (Foot.sub1 (by decide +kernel) (Foot.holds_reg (by decide +kernel)))
    exact Moves.refl _
  · refine Moves.seq ?_ (State.zeroMem_moves ..) (Foot.sub0 (by decide +kernel))
    refine Moves.seq ?_ (State.clearPage_moves ..) (Foot.sub1 (by decide +kernel) (Foot.holds_reg (by decide +kernel)))
    exact Moves.refl _
  · refine Moves.seq ?_ (State.zeroMem_moves ..) (Foot.sub0 (by decide +kernel))
    refine Moves.seq ?_ (State.clearPage_moves ..) (Foot.sub1 (by decide +kernel) (Foot.holds_reg (by decide +kernel)))
    exact Moves.refl _
  · refine Moves.seq ?_ (Moves.upd_fab _ _) (Foot.sub0 (by decide +kernel))
    refine Moves.seq ?_ (State.clearPage_moves ..) (Foot.sub1 (by decide +kernel) (Foot.holds_reg (by decide +kernel)))
    exact Moves.refl _
  · refine Moves.seq ?_ (State.zeroMem_moves ..) (Foot.sub0 (by decide +kernel))
    refine Moves.seq ?_ (State.clearPage_moves ..) (Foot.sub1 (by decide +kernel) (Foot.holds_reg (by decide +kernel)))
    exact Moves.refl _

def Foot.modSgw : Foot := ⟨[], [], [.sgw]⟩

theorem State.modSgw_moves (s : State) (f : SgwState → SgwState) : Moves (Foot.modSgw.at []) s (State.modSgw s f) := by
  unfold State.modSgw
  refine Moves.seq ?_ (Moves.upd_sgw _ _) (Foot.sub0 (by decide +kernel))
  exact Moves.refl _

def Foot.srstSgw : Foot := ⟨[(0x060000, 0x060FFF)], [], [.mem, .evtCut, .sgw]⟩

theorem State.srstSgw_moves (s : State) (b : Nat) :
    Moves (Foot.srstSgw.at [(4096 * ((6 * 65536 + b * 4096) / 4096), 4096 * ((6 * 65536 + b * 4096) / 4096) + 4095)]) s (State.srstSgw
      s b) := by
  unfold State.srstSgw
  refine Moves.ite (fun hc => ?_) (fun hc => ?_)
  · extract_lets -merge -underBinder +onlyGivenNames x1
    subst x1
    try dsimp -zeta only
    extract_lets -merge -underBinder +onlyGivenNames x2
    refine Moves.let_ x2 ?_ ?_
    · subst x2
      simp -zeta only [List.foldl_cons, List.foldl_nil]
      refine Moves.foldl _ (fun x3 _ h3 => ?_) _ ?_
      · refine Moves.seq ?_ (State.wrByte_moves ..) (Foot.sub0 (by decide +kernel))
        exact h3
      · refine Moves.foldl _ (fun x4 _ h4 => ?_) _ ?_
        · refine Moves.seq ?_ (State.wrByte_moves ..) (Foot.sub0 (by decide +kernel))
          exact h4
        · exact Moves.refl _
    intro h2
    try clear_value x2
    extract_lets -merge -underBinder +onlyGivenNames x5
    refine Moves.let_ x5 ?_ ?_
    · subst x5
      simp -zeta only [List.foldl_cons, List.foldl_nil]
      refine Moves.foldl _ (fun x6 _ h6 => ?_) _ ?_
      · refine Moves.seq ?_ (State.wrByte_moves ..) (Foot.sub0 (by decide +kernel))
        exact h6
      · refine Moves.foldl _ (fun x7 _ h7 => ?_) _ ?_
        · refine Moves.seq ?_ (State.wrByte_moves ..) (Foot.sub0 (by decide +kernel))
          exact h7
        · exact h2
    intro h5
    try clear_value x5
    refine Moves.seq ?_ (State.sgwMute_moves ..) (Foot.sub0 (by decide +kernel))
    refine Moves.seq ?_ (State.modSgw_moves ..) (Foot.sub0 (by decide +kernel))
    refine Moves.seq ?_ (State.clearPage_moves ..) (Foot.sub1 (by decide +kernel) (Foot.holds_reg (by decide +kernel)))
    exact h5
  · refine Moves.seq ?_ (State.clearPage_moves ..) (Foot.sub1 (by decide +kernel) (Foot.holds_same (.head _)))
    exact Moves.refl _

def Foot.canFollow : Foot := ⟨[], [], []⟩

theorem State.canFollow_moves (s : State) (n : Nat) :
    Moves (Foot.canFollow.at [(459020 + 65536 * (n % 16 / 8) + 16 * (n % 8), 459020 + 65536 * (n % 16 / 8) + 16 * (n % 8)),
      (462944 + 65536 * (n % 16 / 8) + 4096 * (n % 8), 462944 + 65536 * (n % 16 / 8) + 4096 * (n % 8))]) s (State.canFollow s n) := by
  unfold State.canFollow
  refine Moves.seq ?_ (State.putB_moves _ _ _ (by first | (dsimp only [F.CB_CTRL_TM_STAT_SENDING]; omega) | omega)) (Foot.sub1 (by decide +kernel) (Foot.holds_same (.head _)))
  refine Moves.seq ?_ (State.put_moves _ _ _ (by first | (dsimp only [F.CB_CAN_XCVR_STB]; omega) | omega)) (Foot.sub1 (by decide +kernel) (Foot.holds_same (.tail _ (.head _))))
  exact Moves.refl _

def Foot.canRelease : Foot := ⟨[], [], [.cans]⟩

theorem State.canRelease_moves (s : State) (n : Nat) :
    Moves (Foot.canRelease.at [(459020 + 65536 * (n % 16 / 8) + 16 * (n % 8), 459020 + 65536 * (n % 16 / 8) + 16 * (n % 8)),
      (462944 + 65536 * (n % 16 / 8) + 4096 * (n % 8), 462944 + 65536 * (n % 16 / 8) + 4096 * (n % 8)),
      (462912 + 65536 * (n % 16 / 8) + 4096 * (n % 8), 462912 + 65536 * (n % 16 / 8) + 4096 * (n % 8))]) s (State.canRelease s n) :=
      by
  unfold State.canRelease
  refine Moves.seq ?_ (State.canFollow_moves ..) (Foot.sub_at (by decide +kernel) (Foot.own_cons (Foot.holds_same (.head _)) (Foot.own_cons (Foot.holds_same (.tail _ (.head _))) Foot.own_nil)))
  refine Moves.ite (fun hc => ?_) (fun hc => ?_)
  · refine Moves.seq ?_ (State.modCan_moves ..) (Foot.sub0 (by decide +kernel))
    refine Moves.seq ?_ (State.put_moves _ _ _ (by first | (dsimp only [F.CB_CAN_MODE_EMODE]; omega) | omega)) (Foot.sub1 (by decide +kernel) (Foot.holds_same (.tail _ (.tail _ (.head _)))))
    exact Moves.refl _
  · exact Moves.refl _

def Foot.srstCb : Foot := ⟨[(0x07010C, 0x088060)], [], [.evtCut, .cans]⟩

theorem State.srstCb_moves (s : State) (h : Nat) (b : Nat) :
    Moves (Foot.srstCb.at [(4096 * ((458752 + 65536 * (h % 2)) / 4096), 4096 * ((458752 + 65536 * (h % 2)) / 4096) + 4095),
      (459020 + 65536 * ((8 * h + b - 1) % 16 / 8) + 16 * ((8 * h + b - 1) % 8), 459020 + 65536 * ((8 * h + b - 1) % 16 / 8) + 16 *
      ((8 * h + b - 1) % 8)),
      (462944 + 65536 * ((8 * h + b - 1) % 16 / 8) + 4096 * ((8 * h + b - 1) % 8), 462944 + 65536 * ((8 * h + b - 1) % 16 / 8) + 4096
      * ((8 * h + b - 1) % 8)),
      (462912 + 65536 * ((8 * h + b - 1) % 16 / 8) + 4096 * ((8 * h + b - 1) % 8), 462912 + 65536 * ((8 * h + b - 1) % 16 / 8) + 4096
      * ((8 * h + b - 1) % 8)),
      (4096 * ((462848 + 65536 * ((8 * h + b - 1) % 16 / 8) + 4096 * ((8 * h + b - 1) % 8)) / 4096), 4096 * ((462848 + 65536 * ((8 * h
      + b - 1) % 16 / 8) + 4096 * ((8 * h + b - 1) % 8)) / 4096) + 4095)]) s (State.srstCb s h b) := by
  unfold State.srstCb
  refine Moves.ite (fun hc => ?_) (fun hc => ?_)
  · extract_lets -merge -underBinder +onlyGivenNames x1
    refine Moves.let_ x1 ?_ ?_
    · subst x1
      refine Moves.seq ?_ (State.clearPage_moves ..) (Foot.sub1 (by decide +kernel) (Foot.holds_same (.head _)))
      exact Moves.refl _
    intro h1
    try clear_value x1
    refine Moves.foldl _ (fun x2 _ h2 => ?_) _ ?_
    · refine Moves.seq ?_ (State.canFollow_moves ..) (Foot.sub_at (by decide +kernel) (Foot.own_cons (Foot.holds_range 459020 524668 (by decide +kernel) (by first | omega | (dsimp only; omega)) (by first | omega | (dsimp only; omega))) (Foot.own_cons (Foot.holds_range 462944 557152 (by decide +kernel) (by first | omega | (dsimp only; omega)) (by first | omega | (dsimp only; omega))) Foot.own_nil)))
      refine Moves.seq ?_ (State.modCan_moves ..) (Foot.sub0 (by decide +kernel))
      exact h2
    · exact h1
  · extract_lets -merge -underBinder +onlyGivenNames x3
    subst x3
    refine Moves.seq ?_ (State.canRelease_moves ..) (Foot.sub_at (by decide +kernel) (Foot.own_cons (Foot.holds_same (.tail _ (.head _))) (Foot.own_cons (Foot.holds_same (.tail _ (.tail _ (.head _)))) (Foot.own_cons (Foot.holds_same (.tail _ (.tail _ (.tail _ (.head _))))) Foot.own_nil))))
    refine Moves.seq ?_ (State.setCan_moves ..) (Foot.sub0 (by decide +kernel))
    refine Moves.seq ?_ (State.clearPage_moves ..) (Foot.sub1 (by decide +kernel) (Foot.holds_same (.tail _ (.tail _ (.tail _ (.tail _ (.head _)))))))
    exact Moves.refl _

def Foot.showIdentity : Foot := ⟨[(0x09304C, 0x093050)], [], []⟩

theorem State.showIdentity_moves (s : State) : Moves (Foot.showIdentity.at []) s (State.showIdentity s) := by
  unfold State.showIdentity
  refine Moves.seq ?_ (State.wr_moves _ _ (by decide)) (Foot.sub1 (by decide +kernel) (Foot.holds_reg (by decide +kernel)))
  refine Moves.seq ?_ (State.wr_moves _ _ (by decide)) (Foot.sub1 (by decide +kernel) (Foot.holds_reg (by decide +kernel)))
  exact Moves.refl _

def Foot.srstTim : Foot :=
  ⟨[(0x090000, 0x090FFF), (0x091000, 0x091FFF), (0x092000, 0x092FFF), (0x093000, 0x093FFF)], [], [.mem,
    .evq, .evtCut, .tim]⟩

theorem State.srstTim_moves (s : State) (b : Nat) : Moves (Foot.srstTim.at []) s (State.srstTim s b) := by
  unfold State.srstTim
  split
  · refine Moves.seq ?_ (State.gmUpdate_moves ..) (Foot.sub0 (by decide +kernel))
    extract_lets -merge -underBinder +onlyGivenNames x1
    refine Moves.let_ x1 ?_ ?_
    · subst x1
      refine Moves.seq ?_ (State.clearPage_moves ..) (Foot.sub1 (by decide +kernel) (Foot.holds_reg (by decide +kernel)))
      refine Moves.seq ?_ (State.timEnter_moves ..) (Foot.sub0 (by decide +kernel))
      exact Moves.refl _
    intro h1
    try clear_value x1
    refine Moves.seq ?_ (Moves.upd_tim _ _) (Foot.sub0 (by decide +kernel))
    exact h1
  · extract_lets -merge -underBinder +onlyGivenNames x2
    refine Moves.let_ x2 ?_ ?_
    · subst x2
      refine Moves.seq ?_ (State.clearPage_moves ..) (Foot.sub1 (by decide +kernel) (Foot.holds_reg (by decide +kernel)))
      exact Moves.refl _
    intro h2
    try clear_value x2
    refine Moves.seq ?_ (Moves.upd_tim _ _) (Foot.sub0 (by decide +kernel))
    exact h2
  · refine Moves.seq ?_ (State.clearPage_moves ..) (Foot.sub1 (by decide +kernel) (Foot.holds_reg (by decide +kernel)))
    exact Moves.refl _
  · extract_lets -merge -underBinder +onlyGivenNames x3
    refine Moves.let_ x3 ?_ ?_
    · subst x3
      refine Moves.seq ?_ (State.zeroMem_moves ..) (Foot.sub0 (by decide +kernel))
      refine Moves.seq ?_ (State.clearPage_moves ..) (Foot.sub1 (by decide +kernel) (Foot.holds_reg (by decide +kernel)))
      exact Moves.refl _
    intro h3
    try clear_value x3
    extract_lets -merge -underBinder +onlyGivenNames x4
    subst x4
    extract_lets -merge -underBinder +onlyGivenNames x5
    refine Moves.let_ x5 ?_ ?_
    · subst x5
      refine Moves.seq ?_ (Moves.upd_tim _ _) (Foot.sub0 (by decide +kernel))
      exact h3
    intro h5
    try clear_value x5
    refine Moves.seq ?_ (State.showIdentity_moves ..) (Foot.sub0 (by decide +kernel))
    exact h5

def Foot.srstTwn : Foot :=
  ⟨[(0x000054, 0x000054), (0x003010, 0x003010), (0x003040, 0x003040), (0x003050, 0x003050), (0x00306C,
    0x00306C), (0x005040, 0x005040), (0x010010, 0x010010), (0x010048, 0x010048), (0x011010, 0x011010), (0x011040, 0x011048), (0x012010,
    0x012010), (0x012040, 0x012048), (0x013010, 0x013010), (0x013040, 0x013040), (0x013048, 0x013058), (0x020010, 0x020010), (0x020048,
    0x020048), (0x021010, 0x021010), (0x021040, 0x021048), (0x022010, 0x022010), (0x022040, 0x022048), (0x023010, 0x023010), (0x023040,
    0x023040), (0x023048, 0x023058), (0x060010, 0x060010), (0x060044, 0x060044), (0x090010, 0x090010), (0x090058, 0x090064), (0x091010,
    0x091010), (0x091050, 0x091058), (0x093060, 0x093060), (0x0A0000, 0x0A0FFF), (0x0A1000, 0x0A1FFF), (0x0A2000, 0x0A2FFF), (0x0F0010,
    0x0F0010), (0x0F0040, 0x0F0040), (0x0F0098, 0x0F0098), (0x100010, 0x100010), (0x100064, 0x100064)], [], [.out, .evq, .evtCut,
    .lines, .ports, .beam, .fab, .tim, .wake, .twn, .hlt]⟩

theorem State.srstTwn_moves (s : State) (b : Nat) : Moves (Foot.srstTwn.at []) s (State.srstTwn s b) := by
  unfold State.srstTwn
  split
  · extract_lets -merge -underBinder +onlyGivenNames x1
    refine Moves.let_ x1 ?_ ?_
    · subst x1
      refine Moves.seq ?_ (State.clearPage_moves ..) (Foot.sub1 (by decide +kernel) (Foot.holds_reg (by decide +kernel)))
      refine Moves.seq ?_ (State.setRole_moves ..) (Foot.sub0 (by decide +kernel))
      exact Moves.refl _
    intro h1
    try clear_value x1
    extract_lets -merge -underBinder +onlyGivenNames x2
    subst x2
    extract_lets -merge -underBinder +onlyGivenNames x3
    refine Moves.let_ x3 ?_ ?_
    · subst x3
      refine Moves.seq ?_ (State.put_moves _ _ _ (by decide)) (Foot.sub1 (by decide +kernel) (Foot.holds_reg (by decide +kernel)))
      refine Moves.seq ?_ (State.put_moves _ _ _ (by decide)) (Foot.sub1 (by decide +kernel) (Foot.holds_reg (by decide +kernel)))
      exact h1
    intro h3
    try clear_value x3
    refine Moves.seq ?_ (State.modTwn_moves ..) (Foot.sub0 (by decide +kernel))
    exact h3
  · extract_lets -merge -underBinder +onlyGivenNames x4
    refine Moves.let_ x4 ?_ ?_
    · subst x4
      refine Moves.seq ?_ (State.put_moves _ _ _ (by decide)) (Foot.sub1 (by decide +kernel) (Foot.holds_reg (by decide +kernel)))
      refine Moves.seq ?_ (State.clearPage_moves ..) (Foot.sub1 (by decide +kernel) (Foot.holds_reg (by decide +kernel)))
      refine Moves.seq ?_ (State.dropSync_moves ..) (Foot.sub0 (by decide +kernel))
      exact Moves.refl _
    intro h4
    try clear_value x4
    refine Moves.seq ?_ (State.modTwn_moves ..) (Foot.sub0 (by decide +kernel))
    exact h4
  · extract_lets -merge -underBinder +onlyGivenNames x5
    refine Moves.let_ x5 ?_ ?_
    · subst x5
      refine Moves.seq ?_ (State.modTwn_moves ..) (Foot.sub0 (by decide +kernel))
      refine Moves.seq ?_ (State.clearPage_moves ..) (Foot.sub1 (by decide +kernel) (Foot.holds_reg (by decide +kernel)))
      exact Moves.refl _
    intro h5
    try clear_value x5
    refine Moves.seq ?_ (State.hltReason_moves ..) (Foot.sub1 (by decide +kernel) (Foot.holds_reg (by decide +kernel)))
    refine Moves.seq ?_ (State.putB_moves _ _ _ (by decide)) (Foot.sub1 (by decide +kernel) (Foot.holds_reg (by decide +kernel)))
    exact h5

def Foot.srstHbr : Foot := ⟨[(0x0B0000, 0x0B0FFF)], [], [.evtCut]⟩

theorem State.srstHbr_moves (s : State) (b : Nat) :
    Moves (Foot.srstHbr.at [(4096 * ((11 * 65536 + b * 4096) / 4096), 4096 * ((11 * 65536 + b * 4096) / 4096) + 4095)]) s
      (State.srstHbr s b) := by
  unfold State.srstHbr
  refine Moves.ite (fun hc => ?_) (fun hc => ?_)
  · refine Moves.seq ?_ (State.put_moves _ _ _ (by decide)) (Foot.sub1 (by decide +kernel) (Foot.holds_reg (by decide +kernel)))
    refine Moves.seq ?_ (State.clearPage_moves ..) (Foot.sub1 (by decide +kernel) (Foot.holds_reg (by decide +kernel)))
    exact Moves.refl _
  · refine Moves.seq ?_ (State.clearPage_moves ..) (Foot.sub1 (by decide +kernel) (Foot.holds_same (.head _)))
    exact Moves.refl _

def Foot.srstPsc : Foot := ⟨[], [], [.evtCut, .psc]⟩

theorem State.srstPsc_moves (s : State) (b : Nat) :
    Moves (Foot.srstPsc.at [(4096 * ((12 * 65536 + b * 4096) / 4096), 4096 * ((12 * 65536 + b * 4096) / 4096) + 4095)]) s
      (State.srstPsc s b) := by
  unfold State.srstPsc
  extract_lets -merge -underBinder +onlyGivenNames x1
  refine Moves.let_ x1 ?_ ?_
  · subst x1
    refine Moves.seq ?_ (State.clearPage_moves ..) (Foot.sub1 (by decide +kernel) (Foot.holds_same (.head _)))
    exact Moves.refl _
  intro h1
  try clear_value x1
  split
  · refine Moves.seq ?_ (State.modPsc_moves ..) (Foot.sub0 (by decide +kernel))
    exact h1
  · refine Moves.seq ?_ (State.modPsc_moves ..) (Foot.sub0 (by decide +kernel))
    exact h1
  · exact h1
  · refine Moves.seq ?_ (State.modPsc_moves ..) (Foot.sub0 (by decide +kernel))
    exact h1

def Foot.srstMgt : Foot := ⟨[(0x0D0000, 0x0D0FFF), (0x0D1000, 0x0D1FFF), (0x0D2000, 0x0D2FFF)], [], [.evtCut, .mgt]⟩

theorem State.srstMgt_moves (s : State) (b : Nat) : Moves (Foot.srstMgt.at []) s (State.srstMgt s b) := by
  unfold State.srstMgt
  split
  · refine Moves.seq ?_ (State.modMgt_moves ..) (Foot.sub0 (by decide +kernel))
    refine Moves.seq ?_ (State.clearPage_moves ..) (Foot.sub1 (by decide +kernel) (Foot.holds_reg (by decide +kernel)))
    exact Moves.refl _
  · refine Moves.seq ?_ (State.modMgt_moves ..) (Foot.sub0 (by decide +kernel))
    refine Moves.seq ?_ (State.clearPage_moves ..) (Foot.sub1 (by decide +kernel) (Foot.holds_reg (by decide +kernel)))
    exact Moves.refl _
  · refine Moves.seq ?_ (State.clearPage_moves ..) (Foot.sub1 (by decide +kernel) (Foot.holds_reg (by decide +kernel)))
    exact Moves.refl _

def Foot.fullFollow : Foot := ⟨[(0x0E0010, 0x0E0010), (0x0E0048, 0x0E0048)], [], []⟩

theorem State.fullFollow_moves (s : State) : Moves (Foot.fullFollow.at []) s (State.fullFollow s) := by
  unfold State.fullFollow
  refine Moves.ite (fun hc => ?_) (fun hc => ?_)
  · exact Moves.refl _
  · extract_lets -merge -underBinder +onlyGivenNames x1
    refine Moves.let_ x1 ?_ ?_
    · subst x1
      refine Moves.seq ?_ (State.putB_moves _ _ _ (by decide)) (Foot.sub1 (by decide +kernel) (Foot.holds_reg (by decide +kernel)))
      exact Moves.refl _
    intro h1
    try clear_value x1
    refine Moves.ite (fun hc => ?_) (fun hc => ?_)
    · refine Moves.seq ?_ (State.raise_moves ..) (Foot.sub1 (by decide +kernel) (Foot.holds_reg (by decide +kernel)))
      exact h1
    · exact h1

def Foot.modRec : Foot := ⟨[], [], [.recorder]⟩

theorem State.modRec_moves (s : State) (f : RecState → RecState) : Moves (Foot.modRec.at []) s (State.modRec s f) := by
  unfold State.modRec
  refine Moves.seq ?_ (Moves.upd_recorder _ _) (Foot.sub0 (by decide +kernel))
  exact Moves.refl _

def Foot.srstRec : Foot := ⟨[(0x0E0000, 0x0E0FFF), (0x0E1000, 0x0E1FFF), (0x0E2000, 0x0E2FFF)], [], [.evtCut, .recorder]⟩

theorem State.srstRec_moves (s : State) (b : Nat) : Moves (Foot.srstRec.at []) s (State.srstRec s b) := by
  unfold State.srstRec
  split
  · refine Moves.seq ?_ (State.fullFollow_moves ..) (Foot.sub0 (by decide +kernel))
    refine Moves.seq ?_ (State.modRec_moves ..) (Foot.sub0 (by decide +kernel))
    refine Moves.seq ?_ (State.clearPage_moves ..) (Foot.sub1 (by decide +kernel) (Foot.holds_reg (by decide +kernel)))
    exact Moves.refl _
  · refine Moves.seq ?_ (State.modRec_moves ..) (Foot.sub0 (by decide +kernel))
    refine Moves.seq ?_ (State.clearPage_moves ..) (Foot.sub1 (by decide +kernel) (Foot.holds_reg (by decide +kernel)))
    exact Moves.refl _
  · refine Moves.seq ?_ (State.modRec_moves ..) (Foot.sub0 (by decide +kernel))
    refine Moves.seq ?_ (State.clearPage_moves ..) (Foot.sub1 (by decide +kernel) (Foot.holds_reg (by decide +kernel)))
    exact Moves.refl _

def Foot.follow : Foot := ⟨[(0x000054, 0x000054), (0x0F0010, 0x0F0010), (0x0F0040, 0x0F0040)], [], [.evq, .hlt]⟩

theorem State.follow_moves (s : State) (isl : Nat) (bit : Nat) (on : Bool) (strong : Bool) :
    Moves (Foot.follow.at [(983168 + 4 * (isl % 17), 983168 + 4 * (isl % 17))]) s (State.follow s isl bit on strong) := by
  unfold State.follow
  refine Moves.seq ?_ (State.hltReason_moves ..) (Foot.sub1 (by decide +kernel) (Foot.holds_same (.head _)))
  exact Moves.refl _

def Foot.memReasons : Foot := ⟨[(0x000054, 0x000054), (0x0F0010, 0x0F0010), (0x0F0040, 0x0F0040)], [], [.evq, .hlt]⟩

theorem State.memReasons_moves (s : State) (isl : Nat) :
    Moves (Foot.memReasons.at [(983168 + 4 * (isl % 17), 983168 + 4 * (isl % 17))]) s (State.memReasons s isl) := by
  unfold State.memReasons
  extract_lets -merge -underBinder +onlyGivenNames x1
  subst x1
  extract_lets -merge -underBinder +onlyGivenNames x2
  refine Moves.let_ x2 ?_ ?_
  · subst x2
    refine Moves.seq ?_ (State.follow_moves ..) (Foot.sub1 (by decide +kernel) (Foot.holds_same (.head _)))
    exact Moves.refl _
  intro h2
  try clear_value x2
  extract_lets -merge -underBinder +onlyGivenNames x3
  refine Moves.let_ x3 ?_ ?_
  · subst x3
    refine Moves.seq ?_ (State.follow_moves ..) (Foot.sub1 (by decide +kernel) (Foot.holds_same (.head _)))
    exact h2
  intro h3
  try clear_value x3
  extract_lets -merge -underBinder +onlyGivenNames x4
  refine Moves.let_ x4 ?_ ?_
  · subst x4
    refine Moves.seq ?_ (State.follow_moves ..) (Foot.sub1 (by decide +kernel) (Foot.holds_same (.head _)))
    exact h3
  intro h4
  try clear_value x4
  extract_lets -merge -underBinder +onlyGivenNames x5
  refine Moves.let_ x5 ?_ ?_
  · subst x5
    refine Moves.seq ?_ (State.follow_moves ..) (Foot.sub1 (by decide +kernel) (Foot.holds_same (.head _)))
    exact h4
  intro h5
  try clear_value x5
  extract_lets -merge -underBinder +onlyGivenNames x6
  refine Moves.let_ x6 ?_ ?_
  · subst x6
    refine Moves.ite (fun hc => ?_) (fun hc => ?_)
    · refine Moves.seq ?_ (State.follow_moves ..) (Foot.sub1 (by decide +kernel) (Foot.holds_same (.head _)))
      exact h5
    · exact h5
  intro h6
  try clear_value x6
  refine Moves.seq ?_ (State.follow_moves ..) (Foot.sub1 (by decide +kernel) (Foot.holds_same (.head _)))
  exact h6

def Foot.showRecord : Foot := ⟨[(0x0F2048, 0x0F204C)], [], []⟩

theorem State.showRecord_moves (s : State) : Moves (Foot.showRecord.at []) s (State.showRecord s) := by
  unfold State.showRecord
  split
  · extract_lets -merge -underBinder +onlyGivenNames x1
    refine Moves.let_ x1 ?_ ?_
    · subst x1
      refine Moves.seq ?_ (State.put_moves _ _ _ (by decide)) (Foot.sub1 (by decide +kernel) (Foot.holds_reg (by decide +kernel)))
      refine Moves.seq ?_ (State.put_moves _ _ _ (by decide)) (Foot.sub1 (by decide +kernel) (Foot.holds_reg (by decide +kernel)))
      exact Moves.refl _
    intro h1
    try clear_value x1
    refine Moves.seq ?_ (State.wr_moves _ _ (by decide)) (Foot.sub1 (by decide +kernel) (Foot.holds_reg (by decide +kernel)))
    exact h1
  · refine Moves.seq ?_ (State.wr_moves _ _ (by decide)) (Foot.sub1 (by decide +kernel) (Foot.holds_reg (by decide +kernel)))
    refine Moves.seq ?_ (State.put_moves _ _ _ (by decide)) (Foot.sub1 (by decide +kernel) (Foot.holds_reg (by decide +kernel)))
    refine Moves.seq ?_ (State.put_moves _ _ _ (by decide)) (Foot.sub1 (by decide +kernel) (Foot.holds_reg (by decide +kernel)))
    exact Moves.refl _

def Foot.clockReason : Foot := ⟨[(0x000054, 0x000054), (0x0F0010, 0x0F0010), (0x0F0040, 0x0F0040), (0x0F0080, 0x0F0080)], [], [.evq, .hlt]⟩

theorem State.clockReason_moves (s : State) : Moves (Foot.clockReason.at []) s (State.clockReason s) := by
  unfold State.clockReason
  extract_lets -merge -underBinder +onlyGivenNames x1
  subst x1
  refine Moves.seq ?_ (State.follow_moves ..) (Foot.sub1 (by decide +kernel) (Foot.holds_reg (by decide +kernel)))
  exact Moves.refl _

def Foot.tempReasons : Foot := ⟨[(0x000054, 0x000054), (0x0F0010, 0x0F0010), (0x0F0040, 0x0F0040), (0x0F0080, 0x0F0080)], [], [.evq, .hlt]⟩

theorem State.tempReasons_moves (s : State) : Moves (Foot.tempReasons.at []) s (State.tempReasons s) := by
  unfold State.tempReasons
  refine Moves.seq ?_ (State.follow_moves ..) (Foot.sub1 (by decide +kernel) (Foot.holds_reg (by decide +kernel)))
  refine Moves.seq ?_ (State.follow_moves ..) (Foot.sub1 (by decide +kernel) (Foot.holds_reg (by decide +kernel)))
  exact Moves.refl _

def Foot.hltRebuild : Foot :=
  ⟨[(0x000054, 0x000054), (0x0F0010, 0x0F0010), (0x0F0040, 0x0F0040), (0x0F0080, 0x0F00C0), (0x0F2048,
    0x0F204C)], [], [.evq, .hlt]⟩

theorem State.hltRebuild_moves (s : State) : Moves (Foot.hltRebuild.at []) s (State.hltRebuild s) := by
  unfold State.hltRebuild
  extract_lets -merge -underBinder +onlyGivenNames x1
  refine Moves.let_ x1 ?_ ?_
  · subst x1
    refine Moves.foldl _ (fun x2 _ h2 => ?_) _ ?_
    · refine Moves.seq ?_ (State.memReasons_moves ..) (Foot.sub1 (by decide +kernel) (Foot.holds_range 983168 983232 (by decide +kernel) (by first | omega | (dsimp only; omega)) (by first | omega | (dsimp only; omega))))
      exact h2
    · refine Moves.seq ?_ (State.showRecord_moves ..) (Foot.sub0 (by decide +kernel))
      exact Moves.refl _
  intro h1
  try clear_value x1
  extract_lets -merge -underBinder +onlyGivenNames x3
  refine Moves.let_ x3 ?_ ?_
  · subst x3
    refine Moves.foldl _ (fun x4 _ h4 => ?_) _ ?_
    · refine Moves.seq ?_ (State.follow_moves ..) (Foot.sub1 (by decide +kernel) (Foot.holds_range 983168 983232 (by decide +kernel) (by first | omega | (dsimp only; omega)) (by first | omega | (dsimp only; omega))))
      exact h4
    · exact h1
  intro h3
  try clear_value x3
  extract_lets -merge -underBinder +onlyGivenNames x5
  refine Moves.let_ x5 ?_ ?_
  · subst x5
    refine Moves.seq ?_ (State.clockReason_moves ..) (Foot.sub0 (by decide +kernel))
    refine Moves.seq ?_ (State.tempReasons_moves ..) (Foot.sub0 (by decide +kernel))
    exact h3
  intro h5
  try clear_value x5
  extract_lets -merge -underBinder +onlyGivenNames x6
  refine Moves.let_ x6 ?_ ?_
  · subst x6
    refine Moves.seq ?_ (State.follow_moves ..) (Foot.sub1 (by decide +kernel) (Foot.holds_reg (by decide +kernel)))
    exact h5
  intro h6
  try clear_value x6
  extract_lets -merge -underBinder +onlyGivenNames x7
  refine Moves.let_ x7 ?_ ?_
  · subst x7
    refine Moves.seq ?_ (State.follow_moves ..) (Foot.sub1 (by decide +kernel) (Foot.holds_reg (by decide +kernel)))
    exact h6
  intro h7
  try clear_value x7
  extract_lets -merge -underBinder +onlyGivenNames x8
  refine Moves.let_ x8 ?_ ?_
  · subst x8
    refine Moves.seq ?_ (State.follow_moves ..) (Foot.sub1 (by decide +kernel) (Foot.holds_reg (by decide +kernel)))
    exact h7
  intro h8
  try clear_value x8
  extract_lets -merge -underBinder +onlyGivenNames x9
  refine Moves.let_ x9 ?_ ?_
  · subst x9
    refine Moves.seq ?_ (State.follow_moves ..) (Foot.sub1 (by decide +kernel) (Foot.holds_reg (by decide +kernel)))
    exact h8
  intro h9
  try clear_value x9
  extract_lets -merge -underBinder +onlyGivenNames x10
  refine Moves.let_ x10 ?_ ?_
  · subst x10
    refine Moves.seq ?_ (State.follow_moves ..) (Foot.sub1 (by decide +kernel) (Foot.holds_reg (by decide +kernel)))
    exact h9
  intro h10
  try clear_value x10
  extract_lets -merge -underBinder +onlyGivenNames x11
  subst x11
  refine Moves.seq ?_ (State.modHlt_moves ..) (Foot.sub0 (by decide +kernel))
  exact h10

def Foot.voltReason : Foot := ⟨[(0x000054, 0x000054), (0x0F0010, 0x0F0010), (0x0F0040, 0x0F0040)], [], [.evq, .hlt]⟩

theorem State.voltReason_moves (s : State) (isl : Nat) :
    Moves (Foot.voltReason.at [(983168 + 4 * (isl % 17), 983168 + 4 * (isl % 17))]) s (State.voltReason s isl) := by
  unfold State.voltReason
  refine Moves.seq ?_ (State.follow_moves ..) (Foot.sub1 (by decide +kernel) (Foot.holds_same (.head _)))
  exact Moves.refl _

def Foot.snrReasons : Foot := ⟨[(0x000054, 0x000054), (0x0F0010, 0x0F0010), (0x0F0040, 0x0F0040)], [], [.evq, .hlt]⟩

theorem State.snrReasons_moves (s : State) (l : Line) :
    Moves (Foot.snrReasons.at [(983168 + 4 * (lineIsland l % 17), 983168 + 4 * (lineIsland l % 17))]) s (State.snrReasons s l) := by
  unfold State.snrReasons
  refine Moves.seq ?_ (State.follow_moves ..) (Foot.sub1 (by decide +kernel) (Foot.holds_same (.head _)))
  refine Moves.seq ?_ (State.follow_moves ..) (Foot.sub1 (by decide +kernel) (Foot.holds_same (.head _)))
  exact Moves.refl _

def Foot.notMoving : Foot := ⟨[(0x032058, 0x032058)], [], [.fab]⟩

theorem State.notMoving_moves (s : State) (b : Nat) : Moves (Foot.notMoving.at []) s (State.notMoving s b) := by
  unfold State.notMoving
  extract_lets -merge -underBinder +onlyGivenNames x1
  subst x1
  extract_lets -merge -underBinder +onlyGivenNames x2
  refine Moves.let_ x2 ?_ ?_
  · subst x2
    refine Moves.seq ?_ (Moves.upd_fab _ _) (Foot.sub0 (by decide +kernel))
    exact Moves.refl _
  intro h2
  try clear_value x2
  refine Moves.seq ?_ (State.wr_moves _ _ (by decide)) (Foot.sub1 (by decide +kernel) (Foot.holds_reg (by decide +kernel)))
  exact h2

def Foot.giveCells : Foot := ⟨[], [], []⟩

theorem State.giveCells_moves (s : State) (pool : Nat) (n : Nat) :
    Moves (Foot.giveCells.at [(204896 + 4 * (pool % 4 % 4), 204896 + 4 * (pool % 4 % 4))]) s (State.giveCells s pool n) := by
  unfold State.giveCells
  refine Moves.seq ?_ (State.put_moves _ _ _ (by first | (dsimp only [freeFld, F.FAB_QUE_FREE_FREE]; omega) | omega)) (Foot.sub1 (by decide +kernel) (Foot.holds_same (.head _)))
  exact Moves.refl _

def Foot.bankBack : Foot := ⟨[(0x032010, 0x032010), (0x032058, 0x032058), (0x032060, 0x03206C)], [], [.evq, .fab]⟩

theorem State.bankBack_moves (s : State) (b : Nat) : Moves (Foot.bankBack.at []) s (State.bankBack s b) := by
  unfold State.bankBack
  extract_lets -merge -underBinder +onlyGivenNames x1
  subst x1
  extract_lets -merge -underBinder +onlyGivenNames x2
  refine Moves.let_ x2 ?_ ?_
  · subst x2
    refine Moves.seq ?_ (State.notMoving_moves ..) (Foot.sub0 (by decide +kernel))
    exact Moves.refl _
  intro h2
  try clear_value x2
  extract_lets -merge -underBinder +onlyGivenNames x3
  refine Moves.let_ x3 ?_ ?_
  · subst x3
    refine Moves.ite (fun hc => ?_) (fun hc => ?_)
    · exact h2
    · refine Moves.seq ?_ (State.giveCells_moves ..) (Foot.sub1 (by decide +kernel) (Foot.holds_four 204908 204904 204900 204896 (by decide +kernel) (by decide +kernel) (by decide +kernel) (by decide +kernel) (by first | omega | (dsimp only; omega))))
      exact h2
  intro h3
  try clear_value x3
  refine Moves.ite (fun hc => ?_) (fun hc => ?_)
  · refine Moves.seq ?_ (State.post_moves ..) (Foot.sub0 (by decide +kernel))
    refine Moves.seq ?_ (State.raise_moves ..) (Foot.sub1 (by decide +kernel) (Foot.holds_reg (by decide +kernel)))
    exact h3
  · exact h3

def Foot.notWithdrawn : Foot := ⟨[], [], [.hlt]⟩

theorem State.notWithdrawn_moves (s : State) (n : Nat) : Moves (Foot.notWithdrawn.at []) s (State.notWithdrawn s n) := by
  unfold State.notWithdrawn
  refine Moves.seq ?_ (State.modHlt_moves ..) (Foot.sub0 (by decide +kernel))
  exact Moves.refl _

def Foot.retireView : Foot := ⟨[], [], [.hlt]⟩

theorem State.retireView_moves (s : State) (n : Nat) :
    Moves (Foot.retireView.at [(65536 * n, 65536 * n + 65535)]) s (State.retireView s n) := by
  unfold State.retireView
  refine Moves.seq ?_ (State.notWithdrawn_moves ..) (Foot.sub0 (by decide +kernel))
  refine Moves.seq ?_ (State.showPages_moves ..) (Foot.sub1 (by decide +kernel) (Foot.holds_same (.head _)))
  exact Moves.refl _

def Foot.strmSkip : Foot := ⟨[(0x0E2010, 0x0E2010), (0x0E204C, 0x0E2050)], [], []⟩

theorem State.strmSkip_moves (s : State) : Moves (Foot.strmSkip.at []) s (State.strmSkip s) := by
  unfold State.strmSkip
  extract_lets -merge -underBinder +onlyGivenNames x1
  subst x1
  refine Moves.ite (fun hc => ?_) (fun hc => ?_)
  · refine Moves.seq ?_ (State.raise_moves ..) (Foot.sub1 (by decide +kernel) (Foot.holds_reg (by decide +kernel)))
    refine Moves.seq ?_ (State.wr_moves _ _ (by decide)) (Foot.sub1 (by decide +kernel) (Foot.holds_reg (by decide +kernel)))
    refine Moves.seq ?_ (State.satAdd_moves _ _ _ (by decide)) (Foot.sub1 (by decide +kernel) (Foot.holds_reg (by decide +kernel)))
    exact Moves.refl _
  · exact Moves.refl _

def Foot.recPut : Foot := ⟨[(0x0E0010, 0x0E0010), (0x0E0048, 0x0E0054), (0x0E2010, 0x0E2010), (0x0E204C, 0x0E2050)], [], [.mem]⟩

theorem State.recPut_moves (s : State) (e : RecEntry) (flags : Nat) : Moves (Foot.recPut.at []) s (State.recPut s e flags) := by
  unfold State.recPut
  extract_lets -merge -underBinder +onlyGivenNames x1
  subst x1
  extract_lets -merge -underBinder +onlyGivenNames x2
  subst x2
  extract_lets -merge -underBinder +onlyGivenNames x3
  refine Moves.let_ x3 ?_ ?_
  · subst x3
    refine Moves.ite (fun hc => ?_) (fun hc => ?_)
    · refine Moves.seq ?_ (State.wr_moves _ _ (by decide)) (Foot.sub1 (by decide +kernel) (Foot.holds_reg (by decide +kernel)))
      exact Moves.refl _
    · refine Moves.seq ?_ (State.put_moves _ _ _ (by decide)) (Foot.sub1 (by decide +kernel) (Foot.holds_reg (by decide +kernel)))
      exact Moves.refl _
  intro h3
  try clear_value x3
  extract_lets -merge -underBinder +onlyGivenNames x4
  refine Moves.let_ x4 ?_ ?_
  · subst x4
    refine Moves.seq ?_ (State.wr_moves _ _ (by decide)) (Foot.sub1 (by decide +kernel) (Foot.holds_reg (by decide +kernel)))
    refine Moves.seq ?_ (State.wrBytes_moves ..) (Foot.sub0 (by decide +kernel))
    exact h3
  intro h4
  try clear_value x4
  extract_lets -merge -underBinder +onlyGivenNames x5
  refine Moves.let_ x5 ?_ ?_
  · subst x5
    refine Moves.ite (fun hc => ?_) (fun hc => ?_)
    · refine Moves.seq ?_ (State.raise_moves ..) (Foot.sub1 (by decide +kernel) (Foot.holds_reg (by decide +kernel)))
      exact h4
    · exact h4
  intro h5
  try clear_value x5
  refine Moves.seq ?_ (State.fullFollow_moves ..) (Foot.sub0 (by decide +kernel))
  refine Moves.seq ?_ (State.strmSkip_moves ..) (Foot.sub0 (by decide +kernel))
  exact h5

def Foot.recStart : Foot := ⟨[(0x0E0010, 0x0E0010), (0x0E0048, 0x0E0054), (0x0E2010, 0x0E2010), (0x0E204C, 0x0E2050)], [], [.mem]⟩

theorem State.recStart_moves (s : State) : Moves (Foot.recStart.at []) s (State.recStart s) := by
  unfold State.recStart
  refine Moves.seq ?_ (State.recPut_moves ..) (Foot.sub0 (by decide +kernel))
  exact Moves.refl _

def Foot.startFunctions : Foot :=
  ⟨[(0x000054, 0x000054), (0x010048, 0x010048), (0x020048, 0x020048), (0x032054, 0x032058),
    (0x032060, 0x03206C), (0x060010, 0x060010), (0x060044, 0x060044), (0x07010C, 0x088060), (0x090010, 0x090010), (0x090058, 0x090064),
    (0x091010, 0x091010), (0x091050, 0x091058), (0x09304C, 0x093050), (0x093060, 0x093060), (0x0A0040, 0x0A0040), (0x0A1040, 0x0A1040),
    (0x0E0010, 0x0E0010), (0x0E0048, 0x0E0054), (0x0E2010, 0x0E2010), (0x0E204C, 0x0E2050), (0x0F0010, 0x0F0010), (0x0F0040, 0x0F0040),
    (0x0F0080, 0x0F00C0), (0x0F1044, 0x0F1044), (0x0F2048, 0x0F204C), (0x100080, 0x100084)], [], [.mem, .evq, .fab, .tim, .cans, .hlt,
    .pwr, .mgt]⟩

theorem State.startFunctions_moves (s : State) (n : Nat) : Moves (Foot.startFunctions.at []) s (State.startFunctions s n) := by
  unfold State.startFunctions
  split
  · refine Moves.seq ?_ (State.putB_moves _ _ _ (by decide)) (Foot.sub1 (by decide +kernel) (Foot.holds_reg (by decide +kernel)))
    refine Moves.seq ?_ (State.putB_moves _ _ _ (by decide)) (Foot.sub1 (by decide +kernel) (Foot.holds_reg (by decide +kernel)))
    exact Moves.refl _
  · refine Moves.seq ?_ (State.putB_moves _ _ _ (by decide)) (Foot.sub1 (by decide +kernel) (Foot.holds_reg (by decide +kernel)))
    refine Moves.seq ?_ (State.putB_moves _ _ _ (by decide)) (Foot.sub1 (by decide +kernel) (Foot.holds_reg (by decide +kernel)))
    exact Moves.refl _
  · refine Moves.seq ?_ (State.retireAgain_moves ..) (Foot.sub0 (by decide +kernel))
    refine Moves.seq ?_ (State.poolsUp_moves ..) (Foot.sub0 (by decide +kernel))
    exact Moves.refl _
  · refine Moves.seq ?_ (State.sgwMute_moves ..) (Foot.sub0 (by decide +kernel))
    exact Moves.refl _
  · refine Moves.foldl _ (fun x1 _ h1 => ?_) _ ?_
    · refine Moves.seq ?_ (State.canRelease_moves ..) (Foot.sub_at (by decide +kernel) (Foot.own_cons (Foot.holds_range 459020 524668 (by decide +kernel) (by first | omega | (dsimp only; omega)) (by first | omega | (dsimp only; omega))) (Foot.own_cons (Foot.holds_range 462944 557152 (by decide +kernel) (by first | omega | (dsimp only; omega)) (by first | omega | (dsimp only; omega))) (Foot.own_cons (Foot.holds_range 462912 557120 (by decide +kernel) (by first | omega | (dsimp only; omega)) (by first | omega | (dsimp only; omega))) Foot.own_nil))))
      exact h1
    · exact Moves.refl _
  · refine Moves.foldl _ (fun x2 _ h2 => ?_) _ ?_
    · refine Moves.seq ?_ (State.canRelease_moves ..) (Foot.sub_at (by decide +kernel) (Foot.own_cons (Foot.holds_range 459020 524668 (by decide +kernel) (by first | omega | (dsimp only; omega)) (by first | omega | (dsimp only; omega))) (Foot.own_cons (Foot.holds_range 462944 557152 (by decide +kernel) (by first | omega | (dsimp only; omega)) (by first | omega | (dsimp only; omega))) (Foot.own_cons (Foot.holds_range 462912 557120 (by decide +kernel) (by first | omega | (dsimp only; omega)) (by first | omega | (dsimp only; omega))) Foot.own_nil))))
      exact h2
    · exact Moves.refl _
  · refine Moves.seq ?_ (State.gmUpdate_moves ..) (Foot.sub0 (by decide +kernel))
    refine Moves.seq ?_ (State.showIdentity_moves ..) (Foot.sub0 (by decide +kernel))
    exact Moves.refl _
  · extract_lets -merge -underBinder +onlyGivenNames x3
    subst x3
    extract_lets -merge -underBinder +onlyGivenNames x4
    refine Moves.let_ x4 ?_ ?_
    · subst x4
      refine Moves.seq ?_ (State.put_moves _ _ _ (by decide)) (Foot.sub1 (by decide +kernel) (Foot.holds_reg (by decide +kernel)))
      refine Moves.seq ?_ (State.put_moves _ _ _ (by decide)) (Foot.sub1 (by decide +kernel) (Foot.holds_reg (by decide +kernel)))
      exact Moves.refl _
    intro h4
    try clear_value x4
    refine Moves.seq ?_ (State.put_moves _ _ _ (by decide)) (Foot.sub1 (by decide +kernel) (Foot.holds_reg (by decide +kernel)))
    exact h4
  · refine Moves.seq ?_ (State.modMgt_moves ..) (Foot.sub0 (by decide +kernel))
    exact Moves.refl _
  · extract_lets -merge -underBinder +onlyGivenNames x5
    refine Moves.let_ x5 ?_ ?_
    · subst x5
      refine Moves.seq ?_ (State.recStart_moves ..) (Foot.sub0 (by decide +kernel))
      exact Moves.refl _
    intro h5
    try clear_value x5
    extract_lets -merge -underBinder +onlyGivenNames x6
    refine Moves.let_ x6 ?_ ?_
    · subst x6
      refine Moves.ite (fun hc => ?_) (fun hc => ?_)
      · refine Moves.seq ?_ (State.post_moves ..) (Foot.sub0 (by decide +kernel))
        exact h5
      · exact h5
    intro h6
    try clear_value x6
    extract_lets -merge -underBinder +onlyGivenNames x7
    refine Moves.let_ x7 ?_ ?_
    · subst x7
      refine Moves.ite (fun hc => ?_) (fun hc => ?_)
      · refine Moves.seq ?_ (State.post_moves ..) (Foot.sub0 (by decide +kernel))
        exact h6
      · exact h6
    intro h7
    try clear_value x7
    refine Moves.seq ?_ (State.modPwr_moves ..) (Foot.sub0 (by decide +kernel))
    exact h7
  · extract_lets -merge -underBinder +onlyGivenNames x8
    refine Moves.let_ x8 ?_ ?_
    · subst x8
      refine Moves.ite (fun hc => ?_) (fun hc => ?_)
      · refine Moves.seq ?_ (State.put_moves _ _ _ (by decide)) (Foot.sub1 (by decide +kernel) (Foot.holds_reg (by decide +kernel)))
        exact Moves.refl _
      · exact Moves.refl _
    intro h8
    try clear_value x8
    refine Moves.seq ?_ (State.retireAgain_moves ..) (Foot.sub0 (by decide +kernel))
    refine Moves.seq ?_ (State.hltRebuild_moves ..) (Foot.sub0 (by decide +kernel))
    refine Moves.seq ?_ (State.modPwr_moves ..) (Foot.sub0 (by decide +kernel))
    exact h8
  · refine Moves.seq ?_ (State.wr_moves _ _ (by decide)) (Foot.sub1 (by decide +kernel) (Foot.holds_reg (by decide +kernel)))
    refine Moves.seq ?_ (State.wr_moves _ _ (by decide)) (Foot.sub1 (by decide +kernel) (Foot.holds_reg (by decide +kernel)))
    exact Moves.refl _
  · exact Moves.refl _

def Foot.switchTo : Foot := ⟨[], [], [.pwr]⟩

theorem State.switchTo_moves (s : State) (n : Nat) (c : Nat) :
    Moves (Foot.switchTo.at [(4224 + 4 * (n % 17), 4224 + 4 * (n % 17))]) s (State.switchTo s n c) := by
  unfold State.switchTo
  refine Moves.ite (fun hc => ?_) (fun hc => ?_)
  · exact Moves.refl _
  · extract_lets -merge -underBinder +onlyGivenNames x1
    refine Moves.let_ x1 ?_ ?_
    · subst x1
      refine Moves.seq ?_ (State.modPwr_moves ..) (Foot.sub0 (by decide +kernel))
      exact Moves.refl _
    intro h1
    try clear_value x1
    refine Moves.seq ?_ (State.putB_moves _ _ _ (by first | (dsimp only [F.SYS_CLK_ISL_SWITCHING]; omega) | omega)) (Foot.sub1 (by decide +kernel) (Foot.holds_same (.head _)))
    exact h1

def Foot.seekSrc : Foot := ⟨[], [], [.pwr]⟩

theorem State.seekSrc_moves (s : State) (n : Nat) :
    Moves (Foot.seekSrc.at [(4224 + 4 * (n % 17), 4224 + 4 * (n % 17))]) s (State.seekSrc s n) := by
  unfold State.seekSrc
  extract_lets -merge -underBinder +onlyGivenNames x1
  subst x1
  refine Moves.ite (fun hc => ?_) (fun hc => ?_)
  · exact Moves.refl _
  · refine Moves.ite (fun hc => ?_) (fun hc => ?_)
    · refine Moves.seq ?_ (State.switchTo_moves ..) (Foot.sub1 (by decide +kernel) (Foot.holds_same (.head _)))
      exact Moves.refl _
    · refine Moves.seq ?_ (State.modPwr_moves ..) (Foot.sub0 (by decide +kernel))
      exact Moves.refl _

def Foot.islandOn : Foot :=
  ⟨[(0x000054, 0x000054), (0x002040, 0x002040), (0x010040, 0x010040), (0x010048, 0x010048), (0x020040,
    0x020040), (0x020048, 0x020048), (0x032054, 0x032058), (0x032060, 0x03206C), (0x060010, 0x060010), (0x060044, 0x060044), (0x07010C,
    0x088060), (0x090010, 0x090010), (0x090058, 0x090064), (0x091010, 0x091010), (0x091050, 0x091058), (0x09304C, 0x093050), (0x093060,
    0x093060), (0x0A0040, 0x0A0040), (0x0A1040, 0x0A1040), (0x0E0010, 0x0E0010), (0x0E0048, 0x0E0054), (0x0E2010, 0x0E2010), (0x0E204C,
    0x0E2050), (0x0F0010, 0x0F0010), (0x0F0040, 0x0F0040), (0x0F0080, 0x0F00C0), (0x0F1044, 0x0F1044), (0x0F2048, 0x0F204C), (0x100080,
    0x100084)], [], [.mem, .evq, .evqCut, .evtCut, .acc, .lines, .ports, .top, .beam, .fab, .tim, .cans, .twn, .hlt, .sgw, .psc,
    .recorder, .pwr, .mgt]⟩

theorem State.islandOn_moves (s : State) (n : Nat) :
    Moves (Foot.islandOn.at [(4224 + 4 * (n % 17), 4224 + 4 * (n % 17)), (65536 * n, 65536 * n + 65535)]) s (State.islandOn s n) := by
  unfold State.islandOn
  extract_lets -merge -underBinder +onlyGivenNames x1
  refine Moves.let_ x1 ?_ ?_
  · subst x1
    refine Moves.seq ?_ (State.putB_moves _ _ _ (by show 8256 % 4096 ≠ 16; decide)) (Foot.sub1 (by decide +kernel) (Foot.holds_reg (lo := 8256) (hi := 8256) (by decide +kernel)))
    refine Moves.seq ?_ (State.put_moves _ _ _ (by first | (dsimp only [F.SYS_CLK_ISL_CUR]; omega) | omega)) (Foot.sub1 (by decide +kernel) (Foot.holds_same (.head _)))
    refine Moves.seq ?_ (State.islandReset_moves ..) (Foot.sub1 (by decide +kernel) (Foot.holds_same (.tail _ (.head _))))
    exact Moves.refl _
  intro h1
  try clear_value x1
  extract_lets -merge -underBinder +onlyGivenNames x2
  refine Moves.let_ x2 ?_ ?_
  · subst x2
    refine Moves.ite (fun hc => ?_) (fun hc => ?_)
    · refine Moves.seq ?_ (State.lineCfgReset_moves ..) (Foot.sub1 (by decide +kernel) (Foot.holds_reg (by decide +kernel)))
      exact h1
    · refine Moves.ite (fun hc => ?_) (fun hc => ?_)
      · refine Moves.seq ?_ (State.lineCfgReset_moves ..) (Foot.sub1 (by decide +kernel) (Foot.holds_reg (by decide +kernel)))
        exact h1
      · exact h1
  intro h2
  try clear_value x2
  extract_lets -merge -underBinder +onlyGivenNames x3
  refine Moves.let_ x3 ?_ ?_
  · subst x3
    refine Moves.ite (fun hc => ?_) (fun hc => ?_)
    · refine Moves.seq ?_ (State.showPages_moves ..) (Foot.sub1 (by decide +kernel) (Foot.holds_same (.tail _ (.head _))))
      exact h2
    · refine Moves.seq ?_ (State.startFunctions_moves ..) (Foot.sub0 (by decide +kernel))
      exact h2
  intro h3
  try clear_value x3
  refine Moves.seq ?_ (State.seekSrc_moves ..) (Foot.sub1 (by decide +kernel) (Foot.holds_same (.head _)))
  exact h3

def Foot.restoreIsland : Foot :=
  ⟨[(0x000054, 0x000054), (0x002040, 0x002040), (0x010040, 0x010040), (0x010048, 0x010048), (0x020040,
    0x020040), (0x020048, 0x020048), (0x032054, 0x032058), (0x032060, 0x03206C), (0x060010, 0x060010), (0x060044, 0x060044), (0x07010C,
    0x088060), (0x090010, 0x090010), (0x090058, 0x090064), (0x091010, 0x091010), (0x091050, 0x091058), (0x09304C, 0x093050), (0x093060,
    0x093060), (0x0A0040, 0x0A0040), (0x0A1040, 0x0A1040), (0x0E0010, 0x0E0010), (0x0E0048, 0x0E0054), (0x0E2010, 0x0E2010), (0x0E204C,
    0x0E2050), (0x0F0010, 0x0F0010), (0x0F0040, 0x0F0040), (0x0F0080, 0x0F00C0), (0x0F1044, 0x0F1044), (0x0F2048, 0x0F204C), (0x100080,
    0x100084)], [], [.mem, .evq, .evqCut, .evtCut, .acc, .lines, .ports, .top, .beam, .fab, .tim, .cans, .twn, .hlt, .sgw, .psc,
    .recorder, .pwr, .mgt]⟩

theorem State.restoreIsland_moves (s : State) (n : Nat) :
    Moves (Foot.restoreIsland.at [(65536 * n, 65536 * n + 65535),
      (4224 + 4 * (n % 17), 4224 + 4 * (n % 17))]) s (State.restoreIsland s n) := by
  unfold State.restoreIsland
  extract_lets -merge -underBinder +onlyGivenNames x1
  refine Moves.let_ x1 ?_ ?_
  · subst x1
    refine Moves.seq ?_ (State.notWithdrawn_moves ..) (Foot.sub0 (by decide +kernel))
    exact Moves.refl _
  intro h1
  try clear_value x1
  refine Moves.ite (fun hc => ?_) (fun hc => ?_)
  · refine Moves.seq ?_ (State.retireView_moves ..) (Foot.sub1 (by decide +kernel) (Foot.holds_same (.head _)))
    exact h1
  · extract_lets -merge -underBinder +onlyGivenNames x2
    refine Moves.let_ x2 ?_ ?_
    · subst x2
      refine Moves.seq ?_ (State.putB_moves _ _ _ (by first | (dsimp only [F.SYS_CLK_ISL_SWITCHING]; omega) | omega)) (Foot.sub1 (by decide +kernel) (Foot.holds_same (.tail _ (.head _))))
      refine Moves.seq ?_ (State.modPwr_moves ..) (Foot.sub0 (by decide +kernel))
      exact h1
    intro h2
    try clear_value x2
    refine Moves.seq ?_ (State.islandOn_moves ..) (Foot.sub_at (by decide +kernel) (Foot.own_cons (Foot.holds_same (.tail _ (.head _))) (Foot.own_cons (Foot.holds_same (.head _)) Foot.own_nil)))
    exact h2

def Foot.srstHlt : Foot :=
  ⟨[], [], [.mem, .evq, .evqCut, .evtCut, .allRegs, .acc, .lines, .ports, .top, .beam, .fab, .tim, .cans,
    .twn, .hlt, .sgw, .psc, .recorder, .pwr, .mgt]⟩

theorem State.srstHlt_moves (s : State) (b : Nat) : Moves (Foot.srstHlt.at []) s (State.srstHlt s b) := by
  unfold State.srstHlt
  split
  · extract_lets -merge -underBinder +onlyGivenNames x1
    refine Moves.let_ x1 ?_ ?_
    · subst x1
      refine Moves.seq ?_ (State.modHlt_moves ..) (Foot.sub0 (by decide +kernel))
      refine Moves.seq ?_ (State.clearPage_moves ..) (Foot.sub1 (by decide +kernel) (Foot.holds_all (by decide +kernel)))
      exact Moves.refl _
    intro h1
    try clear_value x1
    extract_lets -merge -underBinder +onlyGivenNames x2
    refine Moves.let_ x2 ?_ ?_
    · subst x2
      simp -zeta only [List.foldl_cons, List.foldl_nil]
      refine Moves.seq ?_ (State.voltReason_moves ..) (Foot.sub1 (by decide +kernel) (Foot.holds_all (by decide +kernel)))
      refine Moves.seq ?_ (State.voltReason_moves ..) (Foot.sub1 (by decide +kernel) (Foot.holds_all (by decide +kernel)))
      refine Moves.seq ?_ (State.voltReason_moves ..) (Foot.sub1 (by decide +kernel) (Foot.holds_all (by decide +kernel)))
      refine Moves.seq ?_ (State.voltReason_moves ..) (Foot.sub1 (by decide +kernel) (Foot.holds_all (by decide +kernel)))
      refine Moves.seq ?_ (State.hltRebuild_moves ..) (Foot.sub0 (by decide +kernel))
      exact h1
    intro h2
    try clear_value x2
    refine Moves.seq ?_ (State.follow_moves ..) (Foot.sub1 (by decide +kernel) (Foot.holds_all (by decide +kernel)))
    refine Moves.seq ?_ (State.snrReasons_moves ..) (Foot.sub1 (by decide +kernel) (Foot.holds_all (by decide +kernel)))
    refine Moves.seq ?_ (State.snrReasons_moves ..) (Foot.sub1 (by decide +kernel) (Foot.holds_all (by decide +kernel)))
    exact h2
  · extract_lets -merge -underBinder +onlyGivenNames x3
    refine Moves.let_ x3 ?_ ?_
    · subst x3
      split
      · refine Moves.ite (fun hc => ?_) (fun hc => ?_)
        · refine Moves.ite (fun hc => ?_) (fun hc => ?_)
          · refine Moves.seq ?_ (State.bankBack_moves ..) (Foot.sub0 (by decide +kernel))
            exact Moves.refl _
          · refine Moves.seq ?_ (State.notMoving_moves ..) (Foot.sub0 (by decide +kernel))
            exact Moves.refl _
        · exact Moves.refl _
      · exact Moves.refl _
    intro h3
    try clear_value x3
    extract_lets -merge -underBinder +onlyGivenNames x4
    refine Moves.let_ x4 ?_ ?_
    · subst x4
      refine Moves.foldl _ (fun x5 _ h5 => ?_) _ ?_
      · refine Moves.seq ?_ (State.restoreIsland_moves ..) (Foot.sub_at (by decide +kernel) (Foot.own_cons (Foot.holds_all (by decide +kernel)) (Foot.own_cons (Foot.holds_all (by decide +kernel)) Foot.own_nil)))
        exact h5
      · exact h3
    intro h4
    try clear_value x4
    refine Moves.seq ?_ (State.modHlt_moves ..) (Foot.sub0 (by decide +kernel))
    refine Moves.seq ?_ (State.clearPage_moves ..) (Foot.sub1 (by decide +kernel) (Foot.holds_all (by decide +kernel)))
    exact h4
  · refine Moves.seq ?_ (State.showRecord_moves ..) (Foot.sub0 (by decide +kernel))
    refine Moves.seq ?_ (State.clearPage_moves ..) (Foot.sub1 (by decide +kernel) (Foot.holds_all (by decide +kernel)))
    exact Moves.refl _
  · refine Moves.seq ?_ (State.follow_moves ..) (Foot.sub1 (by decide +kernel) (Foot.holds_all (by decide +kernel)))
    refine Moves.seq ?_ (State.clearPage_moves ..) (Foot.sub1 (by decide +kernel) (Foot.holds_all (by decide +kernel)))
    exact Moves.refl _

def Foot.beamRefreshAll : Foot :=
  ⟨[(0x013010, 0x013010), (0x013040, 0x013040), (0x013048, 0x013054), (0x023010, 0x023010),
    (0x023040, 0x023040), (0x023048, 0x023054)], [], [.beam]⟩

theorem State.beamRefreshAll_moves (s : State) : Moves (Foot.beamRefreshAll.at []) s (State.beamRefreshAll s) := by
  unfold State.beamRefreshAll
  refine Moves.seq ?_ (State.beamRefresh_moves ..) (Foot.sub_at (by decide +kernel) (Foot.own_cons (Foot.holds_reg (by decide +kernel)) (Foot.own_cons (Foot.holds_reg (by decide +kernel)) (Foot.own_cons (Foot.holds_reg (by decide +kernel)) (Foot.own_cons (Foot.holds_reg (by decide +kernel)) (Foot.own_cons (Foot.holds_reg (by decide +kernel)) (Foot.own_cons (Foot.holds_reg (by decide +kernel)) (Foot.own_cons (Foot.holds_reg (by decide +kernel)) (Foot.own_cons (Foot.holds_reg (by decide +kernel)) (Foot.own_cons (Foot.holds_reg (by decide +kernel)) (Foot.own_cons (Foot.holds_reg (by decide +kernel)) Foot.own_nil)))))))))))
  refine Moves.seq ?_ (State.beamRefresh_moves ..) (Foot.sub_at (by decide +kernel) (Foot.own_cons (Foot.holds_reg (by decide +kernel)) (Foot.own_cons (Foot.holds_reg (by decide +kernel)) (Foot.own_cons (Foot.holds_reg (by decide +kernel)) (Foot.own_cons (Foot.holds_reg (by decide +kernel)) (Foot.own_cons (Foot.holds_reg (by decide +kernel)) (Foot.own_cons (Foot.holds_reg (by decide +kernel)) (Foot.own_cons (Foot.holds_reg (by decide +kernel)) (Foot.own_cons (Foot.holds_reg (by decide +kernel)) (Foot.own_cons (Foot.holds_reg (by decide +kernel)) (Foot.own_cons (Foot.holds_reg (by decide +kernel)) Foot.own_nil)))))))))))
  exact Moves.refl _

def Foot.srstTop : Foot :=
  ⟨[(0x013010, 0x013010), (0x013040, 0x013040), (0x013048, 0x013054), (0x023010, 0x023010), (0x023040,
    0x023040), (0x023048, 0x023054), (0x090010, 0x090010), (0x090058, 0x090064), (0x091010, 0x091010), (0x091050, 0x091058), (0x093060,
    0x093060), (0x100000, 0x100FFF), (0x101000, 0x101FFF), (0x102000, 0x102FFF), (0x103000, 0x103FFF)], [], [.mem, .evq, .evtCut, .top,
    .beam, .tim]⟩

theorem State.srstTop_moves (s : State) (b : Nat) : Moves (Foot.srstTop.at []) s (State.srstTop s b) := by
  unfold State.srstTop
  split
  · extract_lets -merge -underBinder +onlyGivenNames x1
    subst x1
    extract_lets -merge -underBinder +onlyGivenNames x2
    refine Moves.let_ x2 ?_ ?_
    · subst x2
      refine Moves.seq ?_ (Moves.upd_top _ _) (Foot.sub0 (by decide +kernel))
      refine Moves.seq ?_ (State.clearPage_moves ..) (Foot.sub1 (by decide +kernel) (Foot.holds_reg (by decide +kernel)))
      exact Moves.refl _
    intro h2
    try clear_value x2
    extract_lets -merge -underBinder +onlyGivenNames x3
    refine Moves.let_ x3 ?_ ?_
    · subst x3
      refine Moves.seq ?_ (State.wr_moves _ _ (by decide)) (Foot.sub1 (by decide +kernel) (Foot.holds_reg (by decide +kernel)))
      refine Moves.seq ?_ (State.wr_moves _ _ (by decide)) (Foot.sub1 (by decide +kernel) (Foot.holds_reg (by decide +kernel)))
      exact h2
    intro h3
    try clear_value x3
    refine Moves.seq ?_ (State.gmUpdate_moves ..) (Foot.sub0 (by decide +kernel))
    exact h3
  · refine Moves.seq ?_ (State.zeroMem_moves ..) (Foot.sub0 (by decide +kernel))
    refine Moves.seq ?_ (State.clearPage_moves ..) (Foot.sub1 (by decide +kernel) (Foot.holds_reg (by decide +kernel)))
    exact Moves.refl _
  · refine Moves.seq ?_ (State.clearPage_moves ..) (Foot.sub1 (by decide +kernel) (Foot.holds_reg (by decide +kernel)))
    exact Moves.refl _
  · extract_lets -merge -underBinder +onlyGivenNames x4
    refine Moves.let_ x4 ?_ ?_
    · subst x4
      refine Moves.seq ?_ (State.clearPage_moves ..) (Foot.sub1 (by decide +kernel) (Foot.holds_reg (by decide +kernel)))
      exact Moves.refl _
    intro h4
    try clear_value x4
    refine Moves.seq ?_ (State.beamRefreshAll_moves ..) (Foot.sub0 (by decide +kernel))
    refine Moves.seq ?_ (Moves.upd_beam _ _) (Foot.sub0 (by decide +kernel))
    exact h4

def Foot.srstPage : Foot :=
  ⟨[], [], [.mem, .out, .evq, .evqCut, .evtCut, .allRegs, .acc, .lines, .ports, .top, .beam, .fab, .tim,
    .cans, .wake, .din, .twn, .hlt, .sgw, .psc, .recorder, .pwr, .mgt]⟩

theorem State.srstPage_moves (s : State) (pg : Nat) : Moves (Foot.srstPage.at []) s (State.srstPage s pg) := by
  unfold State.srstPage
  extract_lets -merge -underBinder +onlyGivenNames x1
  subst x1
  split
  · refine Moves.seq ?_ (State.srstSys_moves ..) (Foot.sub0 (by decide +kernel))
    exact Moves.refl _
  · refine Moves.ite (fun hc => ?_) (fun hc => ?_)
    · refine Moves.seq ?_ (State.restartLine_moves ..) (Foot.sub_at (by decide +kernel) (Foot.own_cons (Foot.holds_all (by decide +kernel)) (Foot.own_cons (Foot.holds_all (by decide +kernel)) (Foot.own_cons (Foot.holds_all (by decide +kernel)) Foot.own_nil))))
      exact Moves.refl _
    · refine Moves.ite (fun hc => ?_) (fun hc => ?_)
      · refine Moves.seq ?_ (State.srstBeam_moves ..) (Foot.sub_at (by decide +kernel) (Foot.own_cons (Foot.holds_all (by decide +kernel)) (Foot.own_cons (Foot.holds_all (by decide +kernel)) (Foot.own_cons (Foot.holds_all (by decide +kernel)) (Foot.own_cons (Foot.holds_all (by decide +kernel)) (Foot.own_cons (Foot.holds_all (by decide +kernel)) (Foot.own_cons (Foot.holds_all (by decide +kernel)) (Foot.own_cons (Foot.holds_all (by decide +kernel)) (Foot.own_cons (Foot.holds_all (by decide +kernel)) (Foot.own_cons (Foot.holds_all (by decide +kernel)) (Foot.own_cons (Foot.holds_all (by decide +kernel)) (Foot.own_cons (Foot.holds_all (by decide +kernel)) Foot.own_nil))))))))))))
        exact Moves.refl _
      · refine Moves.seq ?_ (State.restartPort_moves ..) (Foot.sub_at (by decide +kernel) (Foot.own_cons (Foot.holds_all (by decide +kernel)) (Foot.own_cons (Foot.holds_all (by decide +kernel)) (Foot.own_cons (Foot.holds_all (by decide +kernel)) (Foot.own_cons (Foot.holds_all (by decide +kernel)) (Foot.own_cons (Foot.holds_all (by decide +kernel)) (Foot.own_cons (Foot.holds_all (by decide +kernel)) Foot.own_nil)))))))
        exact Moves.refl _
  · refine Moves.ite (fun hc => ?_) (fun hc => ?_)
    · refine Moves.seq ?_ (State.restartLine_moves ..) (Foot.sub_at (by decide +kernel) (Foot.own_cons (Foot.holds_all (by decide +kernel)) (Foot.own_cons (Foot.holds_all (by decide +kernel)) (Foot.own_cons (Foot.holds_all (by decide +kernel)) Foot.own_nil))))
      exact Moves.refl _
    · refine Moves.ite (fun hc => ?_) (fun hc => ?_)
      · refine Moves.seq ?_ (State.srstBeam_moves ..) (Foot.sub_at (by decide +kernel) (Foot.own_cons (Foot.holds_all (by decide +kernel)) (Foot.own_cons (Foot.holds_all (by decide +kernel)) (Foot.own_cons (Foot.holds_all (by decide +kernel)) (Foot.own_cons (Foot.holds_all (by decide +kernel)) (Foot.own_cons (Foot.holds_all (by decide +kernel)) (Foot.own_cons (Foot.holds_all (by decide +kernel)) (Foot.own_cons (Foot.holds_all (by decide +kernel)) (Foot.own_cons (Foot.holds_all (by decide +kernel)) (Foot.own_cons (Foot.holds_all (by decide +kernel)) (Foot.own_cons (Foot.holds_all (by decide +kernel)) (Foot.own_cons (Foot.holds_all (by decide +kernel)) Foot.own_nil))))))))))))
        exact Moves.refl _
      · refine Moves.seq ?_ (State.restartPort_moves ..) (Foot.sub_at (by decide +kernel) (Foot.own_cons (Foot.holds_all (by decide +kernel)) (Foot.own_cons (Foot.holds_all (by decide +kernel)) (Foot.own_cons (Foot.holds_all (by decide +kernel)) (Foot.own_cons (Foot.holds_all (by decide +kernel)) (Foot.own_cons (Foot.holds_all (by decide +kernel)) (Foot.own_cons (Foot.holds_all (by decide +kernel)) Foot.own_nil)))))))
        exact Moves.refl _
  · refine Moves.seq ?_ (State.srstFab_moves ..) (Foot.sub0 (by decide +kernel))
    exact Moves.refl _
  · refine Moves.ite (fun hc => ?_) (fun hc => ?_)
    · refine Moves.seq ?_ (State.zeroMem_moves ..) (Foot.sub0 (by decide +kernel))
      refine Moves.seq ?_ (State.clearPage_moves ..) (Foot.sub1 (by decide +kernel) (Foot.holds_all (by decide +kernel)))
      exact Moves.refl _
    · refine Moves.seq ?_ (State.put_moves _ _ _ (by first | omega | (dsimp only; omega))) (Foot.sub1 (by decide +kernel) (Foot.holds_all (by decide +kernel)))
      refine Moves.seq ?_ (State.clearPage_moves ..) (Foot.sub1 (by decide +kernel) (Foot.holds_all (by decide +kernel)))
      exact Moves.refl _
  · refine Moves.ite (fun hc => ?_) (fun hc => ?_)
    · refine Moves.seq ?_ (State.zeroMem_moves ..) (Foot.sub0 (by decide +kernel))
      refine Moves.seq ?_ (State.clearPage_moves ..) (Foot.sub1 (by decide +kernel) (Foot.holds_all (by decide +kernel)))
      exact Moves.refl _
    · refine Moves.seq ?_ (State.put_moves _ _ _ (by first | omega | (dsimp only; omega))) (Foot.sub1 (by decide +kernel) (Foot.holds_all (by decide +kernel)))
      refine Moves.seq ?_ (State.clearPage_moves ..) (Foot.sub1 (by decide +kernel) (Foot.holds_all (by decide +kernel)))
      exact Moves.refl _
  · refine Moves.seq ?_ (State.srstSgw_moves ..) (Foot.sub1 (by decide +kernel) (Foot.holds_all (by decide +kernel)))
    exact Moves.refl _
  · refine Moves.seq ?_ (State.srstCb_moves ..) (Foot.sub_at (by decide +kernel) (Foot.own_cons (Foot.holds_all (by decide +kernel)) (Foot.own_cons (Foot.holds_all (by decide +kernel)) (Foot.own_cons (Foot.holds_all (by decide +kernel)) (Foot.own_cons (Foot.holds_all (by decide +kernel)) (Foot.own_cons (Foot.holds_all (by decide +kernel)) Foot.own_nil))))))
    exact Moves.refl _
  · refine Moves.seq ?_ (State.srstCb_moves ..) (Foot.sub_at (by decide +kernel) (Foot.own_cons (Foot.holds_all (by decide +kernel)) (Foot.own_cons (Foot.holds_all (by decide +kernel)) (Foot.own_cons (Foot.holds_all (by decide +kernel)) (Foot.own_cons (Foot.holds_all (by decide +kernel)) (Foot.own_cons (Foot.holds_all (by decide +kernel)) Foot.own_nil))))))
    exact Moves.refl _
  · refine Moves.seq ?_ (State.srstTim_moves ..) (Foot.sub0 (by decide +kernel))
    exact Moves.refl _
  · refine Moves.seq ?_ (State.srstTwn_moves ..) (Foot.sub0 (by decide +kernel))
    exact Moves.refl _
  · refine Moves.seq ?_ (State.srstHbr_moves ..) (Foot.sub1 (by decide +kernel) (Foot.holds_all (by decide +kernel)))
    exact Moves.refl _
  · refine Moves.seq ?_ (State.srstPsc_moves ..) (Foot.sub1 (by decide +kernel) (Foot.holds_all (by decide +kernel)))
    exact Moves.refl _
  · refine Moves.seq ?_ (State.srstMgt_moves ..) (Foot.sub0 (by decide +kernel))
    exact Moves.refl _
  · refine Moves.seq ?_ (State.srstRec_moves ..) (Foot.sub0 (by decide +kernel))
    exact Moves.refl _
  · refine Moves.seq ?_ (State.srstHlt_moves ..) (Foot.sub0 (by decide +kernel))
    exact Moves.refl _
  · refine Moves.seq ?_ (State.srstTop_moves ..) (Foot.sub0 (by decide +kernel))
    exact Moves.refl _

def Foot.srst : Foot :=
  ⟨[], [], [.mem, .out, .evq, .evqCut, .evtCut, .allRegs, .acc, .lines, .ports, .top, .beam, .fab, .tim, .cans,
    .wake, .din, .twn, .hlt, .sgw, .psc, .recorder, .pwr, .mgt]⟩

theorem State.srst_moves (s : State) (pg : Nat) : Moves (Foot.srst.at []) s (State.srst s pg) := by
  unfold State.srst
  extract_lets -merge -underBinder +onlyGivenNames x1
  subst x1
  extract_lets -merge -underBinder +onlyGivenNames x2
  subst x2
  extract_lets -merge -underBinder +onlyGivenNames x3
  subst x3
  extract_lets -merge -underBinder +onlyGivenNames x4
  refine Moves.let_ x4 ?_ ?_
  · subst x4
    refine Moves.seq ?_ (State.modPwr_moves ..) (Foot.sub0 (by decide +kernel))
    exact Moves.refl _
  intro h4
  try clear_value x4
  extract_lets -merge -underBinder +onlyGivenNames x5
  refine Moves.let_ x5 ?_ ?_
  · subst x5
    refine Moves.seq ?_ (State.srstPage_moves ..) (Foot.sub0 (by decide +kernel))
    exact h4
  intro h5
  try clear_value x5
  extract_lets -merge -underBinder +onlyGivenNames x6
  refine Moves.let_ x6 ?_ ?_
  · subst x6
    refine Moves.seq ?_ (State.wr_moves _ _ (by first | (dsimp only [R.PG_LOCK]; omega) | omega)) (Foot.sub1 (by decide +kernel) (Foot.holds_all (by decide +kernel)))
    refine Moves.seq ?_ (State.wr_moves _ _ (by first | (dsimp only [R.PG_ERR]; omega) | omega)) (Foot.sub1 (by decide +kernel) (Foot.holds_all (by decide +kernel)))
    refine Moves.seq ?_ (State.wr_moves _ _ (by first | (dsimp only [R.PG_STAT]; omega) | omega)) (Foot.sub1 (by decide +kernel) (Foot.holds_all (by decide +kernel)))
    exact h5
  intro h6
  try clear_value x6
  extract_lets -merge -underBinder +onlyGivenNames x7
  refine Moves.let_ x7 ?_ ?_
  · subst x7
    refine Moves.seq ?_ (State.putB_moves _ _ _ (by first | (dsimp only [F.PG_STAT_GATED]; omega) | omega)) (Foot.sub1 (by decide +kernel) (Foot.holds_all (by decide +kernel)))
    exact h6
  intro h7
  try clear_value x7
  refine Moves.seq ?_ (Moves.upd_acc _ _) (Foot.sub0 (by decide +kernel))
  exact h7

def Foot.setSeq : Foot := ⟨[], [], []⟩

theorem State.setSeq_moves (s : State) (n : Nat) (ph : Nat) (st : Nat) :
    Moves (Foot.setSeq.at [(8320 + 4 * (n % 17), 8320 + 4 * (n % 17))]) s (State.setSeq s n ph st) := by
  unfold State.setSeq
  refine Moves.seq ?_ (State.put_moves _ _ _ (by first | (dsimp only [F.SYS_PWR_SEQ_STEP]; omega) | omega)) (Foot.sub1 (by decide +kernel) (Foot.holds_same (.head _)))
  refine Moves.seq ?_ (State.put_moves _ _ _ (by first | (dsimp only [F.SYS_PWR_SEQ_PHASE]; omega) | omega)) (Foot.sub1 (by decide +kernel) (Foot.holds_same (.head _)))
  exact Moves.refl _

def Foot.queueUp : Foot := ⟨[], [], [.pwr]⟩

theorem State.queueUp_moves (s : State) (n : Nat) :
    Moves (Foot.queueUp.at [(8320 + 4 * (n % 17), 8320 + 4 * (n % 17))]) s (State.queueUp s n) := by
  unfold State.queueUp
  refine Moves.ite (fun hc => ?_) (fun hc => ?_)
  · refine Moves.seq ?_ (State.modPwr_moves ..) (Foot.sub0 (by decide +kernel))
    refine Moves.seq ?_ (State.setSeq_moves ..) (Foot.sub1 (by decide +kernel) (Foot.holds_same (.head _)))
    exact Moves.refl _
  · exact Moves.refl _

def Foot.setReverse : Foot := ⟨[], [], [.pwr]⟩

theorem State.setReverse_moves (s : State) (n : Nat) (on : Bool) : Moves (Foot.setReverse.at []) s (State.setReverse s n on) := by
  unfold State.setReverse
  refine Moves.seq ?_ (State.modPwr_moves ..) (Foot.sub0 (by decide +kernel))
  exact Moves.refl _

def Foot.startDown : Foot :=
  ⟨[(0x000054, 0x000054), (0x002040, 0x002114), (0x005040, 0x005040), (0x011010, 0x011010), (0x011040,
    0x011048), (0x012010, 0x012010), (0x012040, 0x012048), (0x013058, 0x013058), (0x021010, 0x021010), (0x021040, 0x021048), (0x022010,
    0x022010), (0x022040, 0x022048), (0x023058, 0x023058), (0x060010, 0x060010), (0x060044, 0x060044), (0x090010, 0x090010), (0x090058,
    0x090064), (0x091010, 0x091010), (0x091050, 0x091058), (0x093060, 0x093060), (0x0A0040, 0x0A0040), (0x0C1048, 0x0C10B8), (0x0C1100,
    0x0C1100), (0x0F1044, 0x0F1044), (0x100010, 0x100010), (0x100064, 0x100064)], [], [.mem, .out, .evq, .evqCut, .evtCut, .acc,
    .lines, .ports, .top, .beam, .fab, .tim, .cans, .twn, .hlt, .sgw, .psc, .recorder, .pwr, .mgt]⟩

theorem State.startDown_moves (s : State) (n : Nat) :
    Moves (Foot.startDown.at [(8320 + 4 * (n % 17), 8320 + 4 * (n % 17)), (4224 + 4 * (n % 17), 4224 + 4 * (n % 17)),
      (65536 * n, 65536 * n + 65535)]) s (State.startDown s n) := by
  unfold State.startDown
  refine Moves.seq ?_ (State.setSeq_moves ..) (Foot.sub1 (by decide +kernel) (Foot.holds_same (.head _)))
  refine Moves.seq ?_ (State.islandOff_moves ..) (Foot.sub_at (by decide +kernel) (Foot.own_cons (Foot.holds_same (.tail _ (.head _))) (Foot.own_cons (Foot.holds_same (.tail _ (.tail _ (.head _)))) Foot.own_nil)))
  exact Moves.refl _

def Foot.powerDo : Foot :=
  ⟨[(0x000054, 0x000054), (0x002040, 0x002114), (0x005040, 0x005040), (0x011010, 0x011010), (0x011040,
    0x011048), (0x012010, 0x012010), (0x012040, 0x012048), (0x013058, 0x013058), (0x021010, 0x021010), (0x021040, 0x021048), (0x022010,
    0x022010), (0x022040, 0x022048), (0x023058, 0x023058), (0x060010, 0x060010), (0x060044, 0x060044), (0x090010, 0x090010), (0x090058,
    0x090064), (0x091010, 0x091010), (0x091050, 0x091058), (0x093060, 0x093060), (0x0A0040, 0x0A0040), (0x0C1048, 0x0C10B8), (0x0C1100,
    0x0C1100), (0x0F1044, 0x0F1044), (0x100010, 0x100010), (0x100064, 0x100064)], [], [.mem, .out, .evq, .evqCut, .evtCut, .acc,
    .lines, .ports, .top, .beam, .fab, .tim, .cans, .twn, .hlt, .sgw, .psc, .recorder, .pwr, .mgt]⟩

theorem State.powerDo_moves (s : State) (n : Nat) (on : Bool) :
    Moves (Foot.powerDo.at [(8320 + 4 * (n % 17), 8320 + 4 * (n % 17)), (4224 + 4 * (n % 17), 4224 + 4 * (n % 17)),
      (65536 * n, 65536 * n + 65535)]) s (State.powerDo s n on) := by
  unfold State.powerDo
  refine Moves.ite (fun hc => ?_) (fun hc => ?_)
  · exact Moves.refl _
  · split
    · refine Moves.seq ?_ (State.queueUp_moves ..) (Foot.sub1 (by decide +kernel) (Foot.holds_same (.head _)))
      exact Moves.refl _
    · refine Moves.seq ?_ (State.setReverse_moves ..) (Foot.sub0 (by decide +kernel))
      exact Moves.refl _
    · refine Moves.seq ?_ (State.setReverse_moves ..) (Foot.sub0 (by decide +kernel))
      exact Moves.refl _
    · refine Moves.seq ?_ (State.startDown_moves ..) (Foot.sub_at (by decide +kernel) (Foot.own_cons (Foot.holds_same (.head _)) (Foot.own_cons (Foot.holds_same (.tail _ (.head _))) (Foot.own_cons (Foot.holds_same (.tail _ (.tail _ (.head _)))) Foot.own_nil))))
      exact Moves.refl _
    · refine Moves.seq ?_ (State.setReverse_moves ..) (Foot.sub0 (by decide +kernel))
      exact Moves.refl _
    · refine Moves.seq ?_ (State.setReverse_moves ..) (Foot.sub0 (by decide +kernel))
      exact Moves.refl _
    · refine Moves.seq ?_ (State.modPwr_moves ..) (Foot.sub0 (by decide +kernel))
      refine Moves.seq ?_ (State.setSeq_moves ..) (Foot.sub1 (by decide +kernel) (Foot.holds_same (.head _)))
      exact Moves.refl _
    · exact Moves.refl _

def Foot.powerRequest : Foot :=
  ⟨[(0x000054, 0x000054), (0x002010, 0x002010), (0x002040, 0x002114), (0x005040, 0x005040), (0x011010,
    0x011010), (0x011040, 0x011048), (0x012010, 0x012010), (0x012040, 0x012048), (0x013058, 0x013058), (0x021010, 0x021010), (0x021040,
    0x021048), (0x022010, 0x022010), (0x022040, 0x022048), (0x023058, 0x023058), (0x060010, 0x060010), (0x060044, 0x060044), (0x090010,
    0x090010), (0x090058, 0x090064), (0x091010, 0x091010), (0x091050, 0x091058), (0x093060, 0x093060), (0x0A0040, 0x0A0040), (0x0C1048,
    0x0C10B8), (0x0C1100, 0x0C1100), (0x0F1044, 0x0F1044), (0x100010, 0x100010), (0x100064, 0x100064)], [], [.mem, .out, .evq, .evqCut,
    .evtCut, .acc, .lines, .ports, .top, .beam, .fab, .tim, .cans, .twn, .hlt, .sgw, .psc, .recorder, .pwr, .mgt]⟩

theorem State.powerRequest_moves (s : State) (n : Nat) (on : Bool) (viaPg : Bool) :
    Moves (Foot.powerRequest.at [(8320 + 4 * (n % 17), 8320 + 4 * (n % 17)), (4224 + 4 * (n % 17), 4224 + 4 * (n % 17)),
      (65536 * n, 65536 * n + 65535)]) s (State.powerRequest s n on viaPg) := by
  unfold State.powerRequest
  extract_lets -merge -underBinder +onlyGivenNames x1
  subst x1
  extract_lets -merge -underBinder +onlyGivenNames x2
  refine Moves.let_ x2 ?_ ?_
  · subst x2
    refine Moves.seq ?_ (State.putB_moves _ _ _ (by decide)) (Foot.sub1 (by decide +kernel) (Foot.holds_reg (by decide +kernel)))
    refine Moves.seq ?_ (State.put_moves _ _ _ (by decide)) (Foot.sub1 (by decide +kernel) (Foot.holds_reg (by decide +kernel)))
    refine Moves.seq ?_ (State.put_moves _ _ _ (by decide)) (Foot.sub1 (by decide +kernel) (Foot.holds_reg (by decide +kernel)))
    exact Moves.refl _
  intro h2
  try clear_value x2
  refine Moves.ite (fun hc => ?_) (fun hc => ?_)
  · refine Moves.seq ?_ (State.powerDo_moves ..) (Foot.sub_at (by decide +kernel) (Foot.own_cons (Foot.holds_same (.head _)) (Foot.own_cons (Foot.holds_same (.tail _ (.head _))) (Foot.own_cons (Foot.holds_same (.tail _ (.tail _ (.head _)))) Foot.own_nil))))
    exact h2
  · refine Moves.seq ?_ (State.raise_moves ..) (Foot.sub1 (by decide +kernel) (Foot.holds_reg (by decide +kernel)))
    exact h2

def Foot.ctrlWrite : Foot :=
  ⟨[], [], [.mem, .out, .evq, .evqCut, .evtCut, .allRegs, .acc, .lines, .ports, .top, .beam, .fab, .tim,
    .cans, .wake, .din, .twn, .hlt, .sgw, .psc, .recorder, .pwr, .mgt]⟩

theorem State.ctrlWrite_moves (s : State) (q : Requester) (pg : Nat) (v : Word) :
    Moves (Foot.ctrlWrite.at []) s (State.ctrlWrite s q pg v) := by
  unfold State.ctrlWrite
  extract_lets -merge -underBinder +onlyGivenNames x1
  subst x1
  extract_lets -merge -underBinder +onlyGivenNames x2
  subst x2
  extract_lets -merge -underBinder +onlyGivenNames x3
  refine Moves.let_ x3 ?_ ?_
  · subst x3
    refine Moves.ite (fun hc => ?_) (fun hc => ?_)
    · exact Moves.refl _
    · refine Moves.seq ?_ (State.enActs_moves ..) (Foot.sub0 (by decide +kernel))
      refine Moves.seq ?_ (State.putB_moves _ _ _ (by first | (dsimp only [F.PG_CTRL_EN]; omega) | omega)) (Foot.sub1 (by decide +kernel) (Foot.holds_all (by decide +kernel)))
      exact Moves.refl _
  intro h3
  try clear_value x3
  extract_lets -merge -underBinder +onlyGivenNames x4
  subst x4
  extract_lets -merge -underBinder +onlyGivenNames x5
  subst x5
  extract_lets -merge -underBinder +onlyGivenNames x6
  refine Moves.let_ x6 ?_ ?_
  · subst x6
    refine Moves.ite (fun hc => ?_) (fun hc => ?_)
    · refine Moves.ite (fun hc => ?_) (fun hc => ?_)
      · refine Moves.seq ?_ (State.putB_moves _ _ _ (by decide)) (Foot.sub1 (by decide +kernel) (Foot.holds_all (by decide +kernel)))
        refine Moves.seq ?_ (State.modPwr_moves ..) (Foot.sub0 (by decide +kernel))
        refine Moves.seq ?_ (State.putB_moves _ _ _ (by first | (dsimp only [F.PG_STAT_GATED]; omega) | omega)) (Foot.sub1 (by decide +kernel) (Foot.holds_all (by decide +kernel)))
        refine Moves.seq ?_ (State.putB_moves _ _ _ (by first | (dsimp only [F.PG_CTRL_CLKREQ]; omega) | omega)) (Foot.sub1 (by decide +kernel) (Foot.holds_all (by decide +kernel)))
        exact h3
      · refine Moves.seq ?_ (State.modPwr_moves ..) (Foot.sub0 (by decide +kernel))
        refine Moves.seq ?_ (State.putB_moves _ _ _ (by first | (dsimp only [F.PG_STAT_GATED]; omega) | omega)) (Foot.sub1 (by decide +kernel) (Foot.holds_all (by decide +kernel)))
        refine Moves.seq ?_ (State.putB_moves _ _ _ (by first | (dsimp only [F.PG_CTRL_CLKREQ]; omega) | omega)) (Foot.sub1 (by decide +kernel) (Foot.holds_all (by decide +kernel)))
        exact h3
    · refine Moves.ite (fun hc => ?_) (fun hc => ?_)
      · exact h3
      · refine Moves.seq ?_ (State.modPwr_moves ..) (Foot.sub0 (by decide +kernel))
        refine Moves.seq ?_ (State.putB_moves _ _ _ (by first | (dsimp only [F.PG_CTRL_CLKREQ]; omega) | omega)) (Foot.sub1 (by decide +kernel) (Foot.holds_all (by decide +kernel)))
        exact h3
  intro h6
  try clear_value x6
  refine Moves.ite (fun hc => ?_) (fun hc => ?_)
  · refine Moves.seq ?_ (State.lockViol_moves ..) (Foot.sub1 (by decide +kernel) (Foot.holds_all (by decide +kernel)))
    exact h6
  · extract_lets -merge -underBinder +onlyGivenNames x7
    refine Moves.let_ x7 ?_ ?_
    · subst x7
      refine Moves.ite (fun hc => ?_) (fun hc => ?_)
      · refine Moves.seq ?_ (State.srst_moves ..) (Foot.sub0 (by decide +kernel))
        exact h6
      · exact h6
    intro h7
    try clear_value x7
    refine Moves.ite (fun hc => ?_) (fun hc => ?_)
    · refine Moves.seq ?_ (State.powerRequest_moves ..) (Foot.sub_at (by decide +kernel) (Foot.own_cons (Foot.holds_all (by decide +kernel)) (Foot.own_cons (Foot.holds_all (by decide +kernel)) (Foot.own_cons (Foot.holds_all (by decide +kernel)) Foot.own_nil))))
      exact h7
    · exact h7

def Foot.storePlain : Foot := ⟨[], [], [.evq]⟩

theorem State.storePlain_moves (s : State) (q : Requester) (off : Nat) (v : Word) :
    Moves (Foot.storePlain.at [(off, off),
      (4096 * (pageOf off / 4096) + 16, 4096 * (pageOf off / 4096) + 16)]) s (State.storePlain s q off v) := by
  unfold State.storePlain
  refine Moves.ite (fun hc => ?_) (fun hc => ?_)
  · refine Moves.seq ?_ (State.wr_moves _ _ (by omega)) (Foot.sub1 (by decide +kernel) (Foot.holds_same (.head _)))
    exact Moves.refl _
  · refine Moves.ite (fun hc => ?_) (fun hc => ?_)
    · refine Moves.seq ?_ (State.wr_moves _ _ (by omega)) (Foot.sub1 (by decide +kernel) (Foot.holds_same (.head _)))
      exact Moves.refl _
    · refine Moves.ite (fun hc => ?_) (fun hc => ?_)
      · exact Moves.refl _
      · split
        · exact Moves.refl _
        · extract_lets -merge -underBinder +onlyGivenNames x1
          subst x1
          extract_lets -merge -underBinder +onlyGivenNames x2
          subst x2
          refine Moves.ite (fun hc => ?_) (fun hc => ?_)
          · refine Moves.seq ?_ (State.lockViol_moves ..) (Foot.sub1 (by decide +kernel) (Foot.holds_same (.tail _ (.head _))))
            refine Moves.seq ?_ (State.wr_moves _ _ (by omega)) (Foot.sub1 (by decide +kernel) (Foot.holds_same (.head _)))
            exact Moves.refl _
          · refine Moves.seq ?_ (State.wr_moves _ _ (by omega)) (Foot.sub1 (by decide +kernel) (Foot.holds_same (.head _)))
            exact Moves.refl _

def Foot.writeHeader : Foot :=
  ⟨[], [], [.mem, .out, .evq, .evqCut, .evtCut, .allRegs, .acc, .lines, .ports, .top, .beam, .fab, .tim,
    .cans, .wake, .din, .twn, .hlt, .sgw, .psc, .recorder, .pwr, .mgt]⟩

theorem State.writeHeader_moves (s : State) (q : Requester) (off : Nat) (v : Word) :
    Moves (Foot.writeHeader.at []) s (State.writeHeader s q off v) := by
  unfold State.writeHeader
  split
  · refine Moves.seq ?_ (State.ctrlWrite_moves ..) (Foot.sub0 (by decide +kernel))
    exact Moves.refl _
  · refine Moves.seq ?_ (State.wr_moves_cut ..) (Foot.sub1 (by decide +kernel) (Foot.holds_all (by decide +kernel)))
    exact Moves.refl _
  · refine Moves.seq ?_ (State.wr_moves_cut ..) (Foot.sub1 (by decide +kernel) (Foot.holds_all (by decide +kernel)))
    exact Moves.refl _
  · refine Moves.seq ?_ (State.storePlain_moves ..) (Foot.sub_at (by decide +kernel) (Foot.own_cons (Foot.holds_all (by decide +kernel)) (Foot.own_cons (Foot.holds_all (by decide +kernel)) Foot.own_nil)))
    exact Moves.refl _

def Foot.holdHigh : Foot := ⟨[], [], [.evq, .acc]⟩

theorem State.holdHigh_moves (s : State) (q : Requester) (off : Nat) (v : Word) :
    Moves (Foot.holdHigh.at [(4096 * (pageOf off / 4096) + 16, 4096 * (pageOf off / 4096) + 16)]) s (State.holdHigh s q off v) := by
  unfold State.holdHigh
  refine Moves.ite (fun hc => ?_) (fun hc => ?_)
  · refine Moves.seq ?_ (State.lockViol_moves ..) (Foot.sub1 (by decide +kernel) (Foot.holds_same (.head _)))
    exact Moves.refl _
  · refine Moves.seq ?_ (State.setHeld_moves ..) (Foot.sub0 (by decide +kernel))
    exact Moves.refl _

def Foot.wofsWrite : Foot := ⟨[(0x090010, 0x090010), (0x090060, 0x090060)], [], [.evq, .tim]⟩

theorem State.wofsWrite_moves (s : State) (q : Requester) (hi : Word) (lo : Word) :
    Moves (Foot.wofsWrite.at []) s (State.wofsWrite s q hi lo) := by
  unfold State.wofsWrite
  refine State.locked_moves ?_ (Foot.sub1 (by decide +kernel) (Foot.holds_reg (by decide +kernel))) (fun x1 h1 => ?_)
  · exact Moves.refl _
  · refine Moves.ite (fun hc => ?_) (fun hc => ?_)
    · refine Moves.seq ?_ (State.raise_moves ..) (Foot.sub1 (by decide +kernel) (Foot.holds_reg (by decide +kernel)))
      exact h1
    · extract_lets -merge -underBinder +onlyGivenNames x2
      subst x2
      refine Moves.seq ?_ (State.putB_moves _ _ _ (by decide)) (Foot.sub1 (by decide +kernel) (Foot.holds_reg (by decide +kernel)))
      refine Moves.seq ?_ (Moves.upd_tim _ _) (Foot.sub0 (by decide +kernel))
      exact h1

def Foot.imgNext : Foot := ⟨[(0x062040, 0x062040)], [], []⟩

theorem State.imgNext_moves (s : State) : Moves (Foot.imgNext.at []) s (State.imgNext s) := by
  unfold State.imgNext
  refine Moves.ite (fun hc => ?_) (fun hc => ?_)
  · refine Moves.seq ?_ (State.put_moves _ _ _ (by decide)) (Foot.sub1 (by decide +kernel) (Foot.holds_reg (by decide +kernel)))
    exact Moves.refl _
  · exact Moves.refl _

def Foot.imgWrite : Foot := ⟨[(0x062040, 0x062040)], [], [.mem]⟩

theorem State.imgWrite_moves (s : State) (hi : Word) (lo : Word) : Moves (Foot.imgWrite.at []) s (State.imgWrite s hi lo) := by
  unfold State.imgWrite
  refine Moves.seq ?_ (State.imgNext_moves ..) (Foot.sub0 (by decide +kernel))
  refine Moves.seq ?_ (State.wrBytes_moves ..) (Foot.sub0 (by decide +kernel))
  exact Moves.refl _

def Foot.mdataNext : Foot := ⟨[], [], []⟩

theorem State.mdataNext_moves (s : State) (h : Nat) :
    Moves (Foot.mdataNext.at [(458816 + 65536 * (h % 2), 458816 + 65536 * (h % 2))]) s (State.mdataNext s h) := by
  unfold State.mdataNext
  refine Moves.ite (fun hc => ?_) (fun hc => ?_)
  · refine Moves.seq ?_ (State.put_moves _ _ _ (by first | (dsimp only [F.CB_CTRL_MSEL_WORD]; omega) | omega)) (Foot.sub1 (by decide +kernel) (Foot.holds_same (.head _)))
    exact Moves.refl _
  · exact Moves.refl _

end Sys2Proof.Machine
end

