-- ==== Sys2Proof/Laws/Foot05.lean ====
section
/-!
SUPPORT. What the operations may touch: one footprint and one lemma each.
-/

namespace Sys2Proof.Machine

set_option Elab.async false

def Foot.canRamWritten : Foot := ⟨[], [], [.cans]⟩

theorem State.canRamWritten_moves (s : State) (n : Nat) :
    Moves (Foot.canRamWritten.at [(462964 + 65536 * (n % 16 / 8) + 4096 * (n % 8), 462964 + 65536 * (n % 16 / 8) + 4096 * (n % 8))]) s
      (State.canRamWritten s n) := by
  unfold State.canRamWritten
  extract_lets -merge -underBinder +onlyGivenNames x1
  refine Moves.let_ x1 ?_ ?_
  · subst x1
    refine Moves.seq ?_ (State.put_moves _ _ _ (by first | (dsimp only [F.CB_CAN_CCNT_CLASH_USED]; omega) | omega)) (Foot.sub1 (by decide +kernel) (Foot.holds_same (.head _)))
    exact Moves.refl _
  intro h1
  try clear_value x1
  refine Moves.seq ?_ (State.modCan_moves ..) (Foot.sub0 (by decide +kernel))
  exact h1

def Foot.mdataWrite : Foot := ⟨[(0x071074, 0x088074)], [], [.mem, .cans]⟩

theorem State.mdataWrite_moves (s : State) (h : Nat) (hi : Word) (lo : Word) :
    Moves (Foot.mdataWrite.at [(458816 + 65536 * (h % 2), 458816 + 65536 * (h % 2))]) s (State.mdataWrite s h hi lo) := by
  unfold State.mdataWrite
  extract_lets -merge -underBinder +onlyGivenNames x1
  subst x1
  refine Moves.seq ?_ (State.mdataNext_moves ..) (Foot.sub1 (by decide +kernel) (Foot.holds_same (.head _)))
  refine Moves.seq ?_ (State.canRamWritten_moves ..) (Foot.sub1 (by decide +kernel) (Foot.holds_range 462964 557172 (by decide +kernel) (by first | (dsimp only [F.CB_CTRL_MSEL_CHAN]; omega) | omega) (by first | (dsimp only [F.CB_CTRL_MSEL_CHAN]; omega) | omega)))
  refine Moves.seq ?_ (State.wrBytes_moves ..) (Foot.sub0 (by decide +kernel))
  exact Moves.refl _

def Foot.pairWrite : Foot :=
  ⟨[(0x062040, 0x062040), (0x070040, 0x070040), (0x071074, 0x088074), (0x090010, 0x090010), (0x090060,
    0x090060), (0x0B2044, 0x0B20B4), (0x0B3104, 0x0B32F4), (0x10008C, 0x10008C)], [], [.mem, .evq, .tim, .cans]⟩

theorem State.pairWrite_moves (s : State) (q : Requester) (off : Nat) (held : Option Word) (lo : Word) :
    Moves (Foot.pairWrite.at [(4096 * (pageOf off / 4096) + 16, 4096 * (pageOf off / 4096) + 16),
      (off, off)]) s (State.pairWrite s q off held lo) := by
  unfold State.pairWrite
  extract_lets -merge -underBinder +onlyGivenNames x1
  subst x1
  refine Moves.ite (fun hc => ?_) (fun hc => ?_)
  · refine Moves.seq ?_ (State.wofsWrite_moves ..) (Foot.sub0 (by decide +kernel))
    exact Moves.refl _
  · refine Moves.ite (fun hc => ?_) (fun hc => ?_)
    · refine Moves.seq ?_ (State.imgWrite_moves ..) (Foot.sub0 (by decide +kernel))
      exact Moves.refl _
    · refine Moves.ite (fun hc => ?_) (fun hc => ?_)
      · refine Moves.seq ?_ (State.mdataWrite_moves ..) (Foot.sub1 (by decide +kernel) (Foot.holds_reg (by decide +kernel)))
        exact Moves.refl _
      · refine Moves.ite (fun hc => ?_) (fun hc => ?_)
        · refine Moves.seq ?_ (State.mdataWrite_moves ..) (Foot.sub1 (by decide +kernel) (Foot.holds_reg (by decide +kernel)))
          exact Moves.refl _
        · refine Moves.ite (fun hc => ?_) (fun hc => ?_)
          · refine State.locked_moves ?_ (Foot.sub1 (by decide +kernel) (Foot.holds_same (.head _))) (fun x2 h2 => ?_)
            · exact Moves.refl _
            · refine Moves.seq ?_ (State.wr_moves _ _ (by decide)) (Foot.sub1 (by decide +kernel) (Foot.holds_reg (by decide +kernel)))
              refine Moves.seq ?_ (State.wr_moves _ _ (by first | (rw [‹off = R.TOP_VTAG_LO›]; decide) | (have hm := List.find?_some ‹_›; simp only [beq_iff_eq, R.HBR_OWIN_LO, R.HBR_MSIX_V_ADDR_LO] at hm; omega))) (Foot.sub1 (by decide +kernel) (Foot.holds_same (.tail _ (.head _))))
              exact h2
          · split
            · refine Moves.ite (fun hc => ?_) (fun hc => ?_)
              · exact Moves.refl _
              · refine Moves.seq ?_ (State.wr_moves _ _ (by first | (dsimp only [R.HBR_OWIN_HI]; omega) | omega)) (Foot.sub1 (by decide +kernel) (Foot.holds_range 729156 729268 (by decide +kernel) (by first | (dsimp only [R.HBR_OWIN_HI]; omega) | omega) (by first | (dsimp only [R.HBR_OWIN_HI]; omega) | omega)))
                refine Moves.seq ?_ (State.wr_moves _ _ (by first | (rw [‹off = R.TOP_VTAG_LO›]; decide) | (have hm := List.find?_some ‹_›; simp only [beq_iff_eq, R.HBR_OWIN_LO, R.HBR_MSIX_V_ADDR_LO] at hm; omega))) (Foot.sub1 (by decide +kernel) (Foot.holds_same (.tail _ (.head _))))
                exact Moves.refl _
            · split
              · refine Moves.seq ?_ (State.wr_moves _ _ (by first | (dsimp only [R.HBR_MSIX_V_ADDR_HI]; omega) | omega)) (Foot.sub1 (by decide +kernel) (Foot.holds_range 733444 733940 (by decide +kernel) (by first | (dsimp only [R.HBR_MSIX_V_ADDR_HI]; omega) | omega) (by first | (dsimp only [R.HBR_MSIX_V_ADDR_HI]; omega) | omega)))
                refine Moves.seq ?_ (State.wr_moves _ _ (by first | (rw [‹off = R.TOP_VTAG_LO›]; decide) | (have hm := List.find?_some ‹_›; simp only [beq_iff_eq, R.HBR_OWIN_LO, R.HBR_MSIX_V_ADDR_LO] at hm; omega))) (Foot.sub1 (by decide +kernel) (Foot.holds_same (.tail _ (.head _))))
                exact Moves.refl _
              · exact Moves.refl _

def Foot.histCause : Foot := ⟨[(0x000040, 0x000040)], [], []⟩

theorem State.histCause_moves (s : State) (c : Nat) : Moves (Foot.histCause.at []) s (State.histCause s c) := by
  unfold State.histCause
  refine Moves.seq ?_ (State.put_moves _ _ _ (by show 64 % 4096 ≠ 16; decide)) (Foot.sub1 (by decide +kernel) (Foot.holds_reg (lo := 64) (hi := 64) (by decide +kernel)))
  exact Moves.refl _

def Foot.closeForReset : Foot :=
  ⟨[(0x005040, 0x005040), (0x011010, 0x011010), (0x011040, 0x011048), (0x012010, 0x012010), (0x012040,
    0x012048), (0x013058, 0x013058), (0x021010, 0x021010), (0x021040, 0x021048), (0x022010, 0x022010), (0x022040, 0x022048), (0x023058,
    0x023058), (0x100010, 0x100010), (0x100064, 0x100064)], [], [.evq, .lines, .ports, .beam]⟩

theorem State.closeForReset_moves (s : State) (l : Line) :
    Moves (Foot.closeForReset.at [(65608 + 65536 * (l.idx % 2), 65608 + 65536 * (l.idx % 2))]) s (State.closeForReset s l) := by
  unfold State.closeForReset
  extract_lets -merge -underBinder +onlyGivenNames x1
  refine Moves.let_ x1 ?_ ?_
  · subst x1
    refine Moves.ite (fun hc => ?_) (fun hc => ?_)
    · refine Moves.seq ?_ (State.runClosing_moves ..) (Foot.sub1 (by decide +kernel) (Foot.holds_same (.head _)))
      exact Moves.refl _
    · exact Moves.refl _
  intro h1
  try clear_value x1
  refine Moves.seq ?_ (State.setLine_moves ..) (Foot.sub0 (by decide +kernel))
  refine Moves.seq ?_ (State.putB_moves _ _ _ (by show 20544 % 4096 ≠ 16; decide)) (Foot.sub1 (by decide +kernel) (Foot.holds_reg (lo := 20544) (hi := 20544) (by decide +kernel)))
  exact h1

def Foot.startPair : Foot := ⟨[(0x002080, 0x0020C0)], [], [.pwr]⟩

theorem State.startPair_moves (s : State) : Moves (Foot.startPair.at []) s (State.startPair s) := by
  unfold State.startPair
  split
  · refine Moves.foldl _ (fun x1 _ h1 => ?_) _ ?_
    · refine Moves.seq ?_ (State.queueUp_moves ..) (Foot.sub1 (by decide +kernel) (Foot.holds_range 8320 8384 (by decide +kernel) (by first | omega | (dsimp only; omega)) (by first | omega | (dsimp only; omega))))
      exact h1
    · exact Moves.refl _
  · exact Moves.refl _

def Foot.beginUp : Foot := ⟨[(0x002080, 0x0020C0)], [], [.pwr, .mgt]⟩

theorem State.beginUp_moves (s : State) : Moves (Foot.beginUp.at []) s (State.beginUp s) := by
  unfold State.beginUp
  extract_lets -merge -underBinder +onlyGivenNames x1
  refine Moves.let_ x1 ?_ ?_
  · subst x1
    refine Moves.seq ?_ (State.modPwr_moves ..) (Foot.sub0 (by decide +kernel))
    exact Moves.refl _
  intro h1
  try clear_value x1
  extract_lets -merge -underBinder +onlyGivenNames x2
  refine Moves.let_ x2 ?_ ?_
  · subst x2
    refine Moves.seq ?_ (State.modMgt_moves ..) (Foot.sub0 (by decide +kernel))
    exact h1
  intro h2
  try clear_value x2
  refine Moves.seq ?_ (State.startPair_moves ..) (Foot.sub0 (by decide +kernel))
  exact h2

def Foot.sampleTpos : Foot := ⟨[(0x000050, 0x000050)], [], []⟩

theorem State.sampleTpos_moves (s : State) : Moves (Foot.sampleTpos.at []) s (State.sampleTpos s) := by
  unfold State.sampleTpos
  extract_lets -merge -underBinder +onlyGivenNames x1
  subst x1
  refine Moves.seq ?_ (State.putB_moves _ _ _ (by decide)) (Foot.sub1 (by decide +kernel) (Foot.holds_reg (by decide +kernel)))
  refine Moves.seq ?_ (State.put_moves _ _ _ (by decide)) (Foot.sub1 (by decide +kernel) (Foot.holds_reg (by decide +kernel)))
  exact Moves.refl _

def Foot.releaseReset : Foot := ⟨[(0x000050, 0x000050), (0x002080, 0x0020C0)], [], [.pwr, .mgt]⟩

theorem State.releaseReset_moves (s : State) : Moves (Foot.releaseReset.at []) s (State.releaseReset s) := by
  unfold State.releaseReset
  refine Moves.seq ?_ (State.beginUp_moves ..) (Foot.sub0 (by decide +kernel))
  refine Moves.seq ?_ (State.sampleTpos_moves ..) (Foot.sub0 (by decide +kernel))
  exact Moves.refl _

def Foot.doModuleReset : Foot :=
  ⟨[], [], [.mem, .out, .evq, .evqCut, .evtCut, .allRegs, .acc, .lines, .ports, .top, .beam, .fab,
    .tim, .cans, .twn, .hlt, .sgw, .psc, .recorder, .pwr, .mgt]⟩

theorem State.doModuleReset_moves (s : State) (cause : Nat) (src : Nat) :
    Moves (Foot.doModuleReset.at []) s (State.doModuleReset s cause src) := by
  unfold State.doModuleReset
  extract_lets -merge -underBinder +onlyGivenNames x1
  refine Moves.let_ x1 ?_ ?_
  · subst x1
    refine Moves.seq ?_ (State.put_moves _ _ _ (by decide)) (Foot.sub1 (by decide +kernel) (Foot.holds_all (by decide +kernel)))
    refine Moves.seq ?_ (State.put_moves _ _ _ (by decide)) (Foot.sub1 (by decide +kernel) (Foot.holds_all (by decide +kernel)))
    exact Moves.refl _
  intro h1
  try clear_value x1
  extract_lets -merge -underBinder +onlyGivenNames x2
  refine Moves.let_ x2 ?_ ?_
  · subst x2
    refine Moves.seq ?_ (State.satInc_moves _ _ (by decide)) (Foot.sub1 (by decide +kernel) (Foot.holds_all (by decide +kernel)))
    refine Moves.seq ?_ (State.satInc_moves _ _ (by decide)) (Foot.sub1 (by decide +kernel) (Foot.holds_all (by decide +kernel)))
    exact h1
  intro h2
  try clear_value x2
  extract_lets -merge -underBinder +onlyGivenNames x3
  refine Moves.let_ x3 ?_ ?_
  · subst x3
    refine Moves.ite (fun hc => ?_) (fun hc => ?_)
    · refine Moves.seq ?_ (State.modPwr_moves ..) (Foot.sub0 (by decide +kernel))
      refine Moves.seq ?_ (State.putB_moves _ _ _ (by decide)) (Foot.sub1 (by decide +kernel) (Foot.holds_all (by decide +kernel)))
      exact h2
    · exact h2
  intro h3
  try clear_value x3
  extract_lets -merge -underBinder +onlyGivenNames x4
  subst x4
  extract_lets -merge -underBinder +onlyGivenNames x5
  refine Moves.let_ x5 ?_ ?_
  · subst x5
    refine Moves.ite (fun hc => ?_) (fun hc => ?_)
    · refine Moves.seq ?_ (State.modPwr_moves ..) (Foot.sub0 (by decide +kernel))
      refine Moves.seq ?_ (State.raise_moves ..) (Foot.sub1 (by decide +kernel) (Foot.holds_all (by decide +kernel)))
      refine Moves.seq ?_ (State.satInc_moves _ _ (by decide)) (Foot.sub1 (by decide +kernel) (Foot.holds_all (by decide +kernel)))
      refine Moves.seq ?_ (State.putB_moves _ _ _ (by decide)) (Foot.sub1 (by decide +kernel) (Foot.holds_all (by decide +kernel)))
      exact h3
    · exact h3
  intro h5
  try clear_value x5
  extract_lets -merge -underBinder +onlyGivenNames x6
  subst x6
  extract_lets -merge -underBinder +onlyGivenNames x7
  refine Moves.let_ x7 ?_ ?_
  · subst x7
    refine Moves.seq ?_ (State.bootRegsReset_moves ..) (Foot.sub0 (by decide +kernel))
    refine Moves.seq ?_ (State.resetAll_moves ..) (Foot.sub0 (by decide +kernel))
    refine Moves.seq ?_ (State.closeForReset_moves ..) (Foot.sub1 (by decide +kernel) (Foot.holds_all (by decide +kernel)))
    refine Moves.seq ?_ (State.closeForReset_moves ..) (Foot.sub1 (by decide +kernel) (Foot.holds_all (by decide +kernel)))
    exact h5
  intro h7
  try clear_value x7
  extract_lets -merge -underBinder +onlyGivenNames x8
  refine Moves.let_ x8 ?_ ?_
  · subst x8
    refine Moves.seq ?_ (State.modPwr_moves ..) (Foot.sub0 (by decide +kernel))
    exact h7
  intro h8
  try clear_value x8
  refine Moves.ite (fun hc => ?_) (fun hc => ?_)
  · refine Moves.seq ?_ (State.modPwr_moves ..) (Foot.sub0 (by decide +kernel))
    exact h8
  · refine Moves.seq ?_ (State.releaseReset_moves ..) (Foot.sub0 (by decide +kernel))
    exact h8

def Foot.moduleReset : Foot :=
  ⟨[], [], [.mem, .out, .evq, .evqCut, .evtCut, .allRegs, .acc, .lines, .ports, .top, .beam, .fab, .tim,
    .cans, .twn, .hlt, .sgw, .psc, .recorder, .pwr, .mgt]⟩

theorem State.moduleReset_moves (s : State) (cause : Nat) (src : Nat) :
    Moves (Foot.moduleReset.at []) s (State.moduleReset s cause src) := by
  unfold State.moduleReset
  refine Moves.ite (fun hc => ?_) (fun hc => ?_)
  · exact Moves.refl _
  · extract_lets -merge -underBinder +onlyGivenNames x1
    refine Moves.let_ x1 ?_ ?_
    · subst x1
      refine Moves.seq ?_ (State.histCause_moves ..) (Foot.sub0 (by decide +kernel))
      exact Moves.refl _
    intro h1
    try clear_value x1
    refine Moves.ite (fun hc => ?_) (fun hc => ?_)
    · refine Moves.seq ?_ (State.modPwr_moves ..) (Foot.sub0 (by decide +kernel))
      exact h1
    · refine Moves.seq ?_ (State.doModuleReset_moves ..) (Foot.sub0 (by decide +kernel))
      exact h1

def Foot.rstCmd : Foot :=
  ⟨[], [], [.mem, .out, .evq, .evqCut, .evtCut, .allRegs, .acc, .lines, .ports, .top, .beam, .fab, .tim,
    .cans, .twn, .hlt, .sgw, .psc, .recorder, .pwr, .mgt]⟩

theorem State.rstCmd_moves (s : State) (q : Requester) (v : Word) : Moves (Foot.rstCmd.at []) s (State.rstCmd s q v) := by
  unfold State.rstCmd
  refine Moves.ite (fun hc => ?_) (fun hc => ?_)
  · refine Moves.seq ?_ (State.lockViol_moves ..) (Foot.sub1 (by decide +kernel) (Foot.holds_all (by decide +kernel)))
    exact Moves.refl _
  · refine State.locked_moves ?_ (Foot.sub1 (by decide +kernel) (Foot.holds_all (by decide +kernel))) (fun x1 h1 => ?_)
    · exact Moves.refl _
    · extract_lets -merge -underBinder +onlyGivenNames x2
      refine Moves.let_ x2 ?_ ?_
      · subst x2
        refine Moves.ite (fun hc => ?_) (fun hc => ?_)
        · refine Moves.seq ?_ (State.modPwr_moves ..) (Foot.sub0 (by decide +kernel))
          exact h1
        · exact h1
      intro h2
      try clear_value x2
      refine Moves.ite (fun hc => ?_) (fun hc => ?_)
      · refine Moves.seq ?_ (State.moduleReset_moves ..) (Foot.sub0 (by decide +kernel))
        exact h2
      · exact h2

def Foot.firmwareOnly : Foot := ⟨[], [], [.evq]⟩

theorem State.firmwareOnly_moves {F : Foot} {r s : State} {q : Requester} {off : Nat} {f : State → State}
    (h :
    Moves F r s) (hF : Foot.Sub (Foot.firmwareOnly.at [(4096 * (pageOf off / 4096) + 16, 4096 * (pageOf off / 4096) + 16)]) F) (f_ok :
      ∀ x , Moves F r x → Moves F r (f x)) : Moves F r (State.firmwareOnly s q off f) := by
  unfold State.firmwareOnly
  refine Moves.ite (fun hc => ?_) (fun hc => ?_)
  · refine f_ok _  ?_
    exact h
  · refine Moves.seq ?_ (State.lockViol_moves ..) ((Foot.sub1 (by decide +kernel) (Foot.holds_same (.head _))).trans hF)
    exact h

def Foot.releaseWrite : Foot := ⟨[(0x001010, 0x001010), (0x001044, 0x001044)], [], [.evq]⟩

theorem State.releaseWrite_moves (s : State) (q : Requester) (v : Word) :
    Moves (Foot.releaseWrite.at []) s (State.releaseWrite s q v) := by
  unfold State.releaseWrite
  refine State.locked_moves ?_ (Foot.sub1 (by decide +kernel) (Foot.holds_reg (by decide +kernel))) (fun x1 h1 => ?_)
  · exact Moves.refl _
  · extract_lets -merge -underBinder +onlyGivenNames x2
    subst x2
    refine Moves.seq ?_ (State.wr_moves _ _ (by decide)) (Foot.sub1 (by decide +kernel) (Foot.holds_reg (by decide +kernel)))
    exact h1

def Foot.srcWrite : Foot := ⟨[], [], [.evq, .pwr]⟩

theorem State.srcWrite_moves (s : State) (q : Requester) (n : Nat) (v : Word) :
    Moves (Foot.srcWrite.at [(4096 * (pageOf (4224 + 4 * (n % 17)) / 4096) + 16, 4096 * (pageOf (4224 + 4 * (n % 17)) / 4096) + 16),
      (4224 + 4 * (n % 17), 4224 + 4 * (n % 17))]) s (State.srcWrite s q n v) := by
  unfold State.srcWrite
  refine State.locked_moves ?_ (Foot.sub1 (by decide +kernel) (Foot.holds_same (.head _))) (fun x1 h1 => ?_)
  · exact Moves.refl _
  · extract_lets -merge -underBinder +onlyGivenNames x2
    subst x2
    extract_lets -merge -underBinder +onlyGivenNames x3
    subst x3
    try dsimp -zeta only
    refine Moves.ite (fun hc => ?_) (fun hc => ?_)
    · refine Moves.seq ?_ (State.put_moves _ _ _ (by first | (dsimp only [F.SYS_CLK_ISL_RESULT]; omega) | omega)) (Foot.sub1 (by decide +kernel) (Foot.holds_same (.tail _ (.head _))))
      exact h1
    · refine Moves.ite (fun hc => ?_) (fun hc => ?_)
      · refine Moves.seq ?_ (State.put_moves _ _ _ (by first | (dsimp only [F.SYS_CLK_ISL_RESULT]; omega) | omega)) (Foot.sub1 (by decide +kernel) (Foot.holds_same (.tail _ (.head _))))
        exact h1
      · refine Moves.ite (fun hc => ?_) (fun hc => ?_)
        · refine Moves.seq ?_ (State.put_moves _ _ _ (by first | (dsimp only [F.SYS_CLK_ISL_RESULT]; omega) | omega)) (Foot.sub1 (by decide +kernel) (Foot.holds_same (.tail _ (.head _))))
          exact h1
        · extract_lets -merge -underBinder +onlyGivenNames x4
          refine Moves.let_ x4 ?_ ?_
          · subst x4
            refine Moves.seq ?_ (State.put_moves _ _ _ (by first | (dsimp only [F.SYS_CLK_ISL_SRC]; omega) | omega)) (Foot.sub1 (by decide +kernel) (Foot.holds_same (.tail _ (.head _))))
            refine Moves.seq ?_ (State.put_moves _ _ _ (by first | (dsimp only [F.SYS_CLK_ISL_RESULT]; omega) | omega)) (Foot.sub1 (by decide +kernel) (Foot.holds_same (.tail _ (.head _))))
            exact h1
          intro h4
          try clear_value x4
          extract_lets -merge -underBinder +onlyGivenNames x5
          refine Moves.let_ x5 ?_ ?_
          · subst x5
            refine Moves.seq ?_ (State.modPwr_moves ..) (Foot.sub0 (by decide +kernel))
            exact h4
          intro h5
          try clear_value x5
          refine Moves.ite (fun hc => ?_) (fun hc => ?_)
          · refine Moves.seq ?_ (State.switchTo_moves ..) (Foot.sub1 (by decide +kernel) (Foot.holds_same (.tail _ (.head _))))
            exact h5
          · exact h5

def Foot.pwrCmdWrite : Foot :=
  ⟨[(0x000054, 0x000054), (0x002010, 0x002010), (0x002040, 0x002114), (0x005040, 0x005040), (0x011010,
    0x011010), (0x011040, 0x011048), (0x012010, 0x012010), (0x012040, 0x012048), (0x013058, 0x013058), (0x021010, 0x021010), (0x021040,
    0x021048), (0x022010, 0x022010), (0x022040, 0x022048), (0x023058, 0x023058), (0x060010, 0x060010), (0x060044, 0x060044), (0x090010,
    0x090010), (0x090058, 0x090064), (0x091010, 0x091010), (0x091050, 0x091058), (0x093060, 0x093060), (0x0A0040, 0x0A0040), (0x0C1048,
    0x0C10B8), (0x0C1100, 0x0C1100), (0x0F1044, 0x0F1044), (0x100010, 0x100010), (0x100064, 0x100064)], [], [.mem, .out, .evq, .evqCut,
    .evtCut, .acc, .lines, .ports, .top, .beam, .fab, .tim, .cans, .twn, .hlt, .sgw, .psc, .recorder, .pwr, .mgt]⟩

theorem State.pwrCmdWrite_moves (s : State) (q : Requester) (v : Word) :
    Moves (Foot.pwrCmdWrite.at [(8320 + 4 * (BitVec.toNat v % 32 % 17), 8320 + 4 * (BitVec.toNat v % 32 % 17)),
      (4224 + 4 * (BitVec.toNat v % 32 % 17), 4224 + 4 * (BitVec.toNat v % 32 % 17)),
      (65536 * (BitVec.toNat v % 32), 65536 * (BitVec.toNat v % 32) + 65535)]) s (State.pwrCmdWrite s q v) := by
  unfold State.pwrCmdWrite
  refine State.locked_moves ?_ (Foot.sub1 (by decide +kernel) (Foot.holds_reg (by decide +kernel))) (fun x1 h1 => ?_)
  · exact Moves.refl _
  · extract_lets -merge -underBinder +onlyGivenNames x2
    refine Moves.let_ x2 ?_ ?_
    · subst x2
      refine Moves.seq ?_ (State.wr_moves _ _ (by decide)) (Foot.sub1 (by decide +kernel) (Foot.holds_reg (by decide +kernel)))
      exact h1
    intro h2
    try clear_value x2
    extract_lets -merge -underBinder +onlyGivenNames x3
    subst x3
    split
    · exact h2
    · refine Moves.seq ?_ (State.powerRequest_moves ..) (Foot.sub_at (by decide +kernel) (Foot.own_cons (Foot.holds_same (.head _)) (Foot.own_cons (Foot.holds_same (.tail _ (.head _))) (Foot.own_cons (Foot.holds_same (.tail _ (.tail _ (.head _)))) Foot.own_nil))))
      exact h2
    · refine Moves.seq ?_ (State.powerRequest_moves ..) (Foot.sub_at (by decide +kernel) (Foot.own_cons (Foot.holds_same (.head _)) (Foot.own_cons (Foot.holds_same (.tail _ (.head _))) (Foot.own_cons (Foot.holds_same (.tail _ (.tail _ (.head _)))) Foot.own_nil))))
      exact h2
    · refine Moves.seq ?_ (State.raise_moves ..) (Foot.sub1 (by decide +kernel) (Foot.holds_reg (by decide +kernel)))
      refine Moves.seq ?_ (State.putB_moves _ _ _ (by decide)) (Foot.sub1 (by decide +kernel) (Foot.holds_reg (by decide +kernel)))
      refine Moves.seq ?_ (State.put_moves _ _ _ (by decide)) (Foot.sub1 (by decide +kernel) (Foot.holds_reg (by decide +kernel)))
      refine Moves.seq ?_ (State.put_moves _ _ _ (by decide)) (Foot.sub1 (by decide +kernel) (Foot.holds_reg (by decide +kernel)))
      exact h2

def Foot.dvfsRequest : Foot := ⟨[(0x002010, 0x002010)], [], [.pwr]⟩

theorem State.dvfsRequest_moves (s : State) (f : Nat) (fsel : Nat) (vset : Nat) :
    Moves (Foot.dvfsRequest.at [(8452 + 8 * (f % 3), 8452 + 8 * (f % 3))]) s (State.dvfsRequest s f fsel vset) := by
  unfold State.dvfsRequest
  extract_lets -merge -underBinder +onlyGivenNames x1
  subst x1
  extract_lets -merge -underBinder +onlyGivenNames x2
  subst x2
  try dsimp -zeta only
  refine Moves.ite (fun hc => ?_) (fun hc => ?_)
  · refine Moves.seq ?_ (State.put_moves _ _ _ (by first | (dsimp only [F.SYS_PWR_DVFSSTAT_RESULT]; omega) | omega)) (Foot.sub1 (by decide +kernel) (Foot.holds_same (.head _)))
    exact Moves.refl _
  · refine Moves.ite (fun hc => ?_) (fun hc => ?_)
    · refine Moves.seq ?_ (State.put_moves _ _ _ (by first | (dsimp only [F.SYS_PWR_DVFSSTAT_RESULT]; omega) | omega)) (Foot.sub1 (by decide +kernel) (Foot.holds_same (.head _)))
      exact Moves.refl _
    · refine Moves.ite (fun hc => ?_) (fun hc => ?_)
      · refine Moves.seq ?_ (State.raise_moves ..) (Foot.sub1 (by decide +kernel) (Foot.holds_reg (by decide +kernel)))
        refine Moves.seq ?_ (State.put_moves _ _ _ (by first | (dsimp only [F.SYS_PWR_DVFSSTAT_RESULT]; omega) | omega)) (Foot.sub1 (by decide +kernel) (Foot.holds_same (.head _)))
        exact Moves.refl _
      · extract_lets -merge -underBinder +onlyGivenNames x3
        subst x3
        extract_lets -merge -underBinder +onlyGivenNames x4
        refine Moves.let_ x4 ?_ ?_
        · subst x4
          refine Moves.seq ?_ (State.setDvfs_moves ..) (Foot.sub0 (by decide +kernel))
          exact Moves.refl _
        intro h4
        try clear_value x4
        refine Moves.ite (fun hc => ?_) (fun hc => ?_)
        · refine Moves.seq ?_ (State.put_moves _ _ _ (by first | (dsimp only [F.SYS_PWR_DVFSSTAT_RESULT]; omega) | omega)) (Foot.sub1 (by decide +kernel) (Foot.holds_same (.head _)))
          exact h4
        · extract_lets -merge -underBinder +onlyGivenNames x5
          refine Moves.let_ x5 ?_ ?_
          · subst x5
            refine Moves.seq ?_ (State.putB_moves _ _ _ (by first | (dsimp only [F.SYS_PWR_DVFSSTAT_BUSY]; omega) | omega)) (Foot.sub1 (by decide +kernel) (Foot.holds_same (.head _)))
            refine Moves.seq ?_ (State.put_moves _ _ _ (by first | (dsimp only [F.SYS_PWR_DVFSSTAT_RESULT]; omega) | omega)) (Foot.sub1 (by decide +kernel) (Foot.holds_same (.head _)))
            exact h4
          intro h5
          try clear_value x5
          refine Moves.ite (fun hc => ?_) (fun hc => ?_)
          · refine Moves.seq ?_ (State.put_moves _ _ _ (by first | (dsimp only [F.SYS_PWR_DVFSSTAT_CUR_V]; omega) | omega)) (Foot.sub1 (by decide +kernel) (Foot.holds_same (.head _)))
            exact h5
          · exact h5

def Foot.dvfsWrite : Foot := ⟨[(0x002010, 0x002010)], [], [.evq, .pwr]⟩

theorem State.dvfsWrite_moves (s : State) (q : Requester) (f : Nat) (v : Word) :
    Moves (Foot.dvfsWrite.at [(4096 * (pageOf (8448 + 8 * (f % 3)) / 4096) + 16, 4096 * (pageOf (8448 + 8 * (f % 3)) / 4096) + 16),
      (8448 + 8 * (f % 3), 8448 + 8 * (f % 3)), (8452 + 8 * (f % 3), 8452 + 8 * (f % 3))]) s (State.dvfsWrite s q f v) := by
  unfold State.dvfsWrite
  refine State.locked_moves ?_ (Foot.sub1 (by decide +kernel) (Foot.holds_same (.head _))) (fun x1 h1 => ?_)
  · exact Moves.refl _
  · extract_lets -merge -underBinder +onlyGivenNames x2
    refine Moves.let_ x2 ?_ ?_
    · subst x2
      refine Moves.seq ?_ (State.wr_moves _ _ (by first | (dsimp only [R.SYS_PWR_DVFS]; omega) | omega)) (Foot.sub1 (by decide +kernel) (Foot.holds_same (.tail _ (.head _))))
      exact h1
    intro h2
    try clear_value x2
    refine Moves.ite (fun hc => ?_) (fun hc => ?_)
    · refine Moves.seq ?_ (State.dvfsRequest_moves ..) (Foot.sub1 (by decide +kernel) (Foot.holds_same (.tail _ (.tail _ (.head _)))))
      exact h2
    · exact h2

def Foot.sendDawn : Foot := ⟨[], [], [.out, .beam, .fab]⟩

theorem State.sendDawn_moves (s : State) : Moves (Foot.sendDawn.at []) s (State.sendDawn s) := by
  unfold State.sendDawn
  split
  · refine Moves.seq ?_ (State.sleepSend_moves ..) (Foot.sub0 (by decide +kernel))
    exact Moves.refl _
  · exact Moves.refl _

def Foot.startDawn : Foot := ⟨[], [], [.out, .beam, .fab, .wake]⟩

theorem State.startDawn_moves (s : State) (origin : Nat) (id : Nat) :
    Moves (Foot.startDawn.at []) s (State.startDawn s origin id) := by
  unfold State.startDawn
  refine Moves.seq ?_ (State.sendDawn_moves ..) (Foot.sub0 (by decide +kernel))
  refine Moves.seq ?_ (State.modWake_moves ..) (Foot.sub0 (by decide +kernel))
  exact Moves.refl _

def Foot.wakeCmd : Foot :=
  ⟨[(0x003010, 0x003010), (0x003040, 0x003058), (0x003064, 0x003064), (0x00306C, 0x00306C)], [], [.out,
    .evq, .beam, .fab, .wake]⟩

theorem State.wakeCmd_moves (s : State) (q : Requester) (v : Word) : Moves (Foot.wakeCmd.at []) s (State.wakeCmd s q v) := by
  unfold State.wakeCmd
  extract_lets -merge -underBinder +onlyGivenNames x1
  subst x1
  extract_lets -merge -underBinder +onlyGivenNames x2
  refine Moves.let_ x2 ?_ ?_
  · subst x2
    refine Moves.seq ?_ (State.put_moves _ _ _ (by decide)) (Foot.sub1 (by decide +kernel) (Foot.holds_reg (by decide +kernel)))
    exact Moves.refl _
  intro h2
  try clear_value x2
  extract_lets -merge -underBinder +onlyGivenNames x3
  refine Moves.let_ x3 ?_ ?_
  · subst x3
    refine Moves.ite (fun hc => ?_) (fun hc => ?_)
    · refine Moves.seq ?_ (State.lockViol_moves ..) (Foot.sub1 (by decide +kernel) (Foot.holds_reg (by decide +kernel)))
      exact h2
    · refine Moves.seq ?_ (State.put_moves _ _ _ (by decide)) (Foot.sub1 (by decide +kernel) (Foot.holds_reg (by decide +kernel)))
      exact h2
  intro h3
  try clear_value x3
  extract_lets -merge -underBinder +onlyGivenNames x4
  subst x4
  extract_lets -merge -underBinder +onlyGivenNames x5
  refine Moves.let_ x5 ?_ ?_
  · subst x5
    refine Moves.ite (fun hc => ?_) (fun hc => ?_)
    · refine Moves.seq ?_ (State.sleepSend_moves ..) (Foot.sub0 (by decide +kernel))
      exact h3
    · exact h3
  intro h5
  try clear_value x5
  extract_lets -merge -underBinder +onlyGivenNames x6
  refine Moves.let_ x6 ?_ ?_
  · subst x6
    refine Moves.ite (fun hc => ?_) (fun hc => ?_)
    · refine Moves.seq ?_ (State.sleepAsked_moves ..) (Foot.sub0 (by decide +kernel))
      exact h5
    · exact h5
  intro h6
  try clear_value x6
  extract_lets -merge -underBinder +onlyGivenNames x7
  refine Moves.let_ x7 ?_ ?_
  · subst x7
    refine Moves.ite (fun hc => ?_) (fun hc => ?_)
    · refine Moves.seq ?_ (State.wakeRequest_moves ..) (Foot.sub0 (by decide +kernel))
      exact h6
    · exact h6
  intro h7
  try clear_value x7
  extract_lets -merge -underBinder +onlyGivenNames x8
  refine Moves.let_ x8 ?_ ?_
  · subst x8
    refine Moves.ite (fun hc => ?_) (fun hc => ?_)
    · refine Moves.seq ?_ (State.wakeRequest_moves ..) (Foot.sub0 (by decide +kernel))
      exact h7
    · exact h7
  intro h8
  try clear_value x8
  refine Moves.ite (fun hc => ?_) (fun hc => ?_)
  · refine Moves.seq ?_ (State.relayDawn_moves ..) (Foot.sub0 (by decide +kernel))
    refine Moves.seq ?_ (State.startDawn_moves ..) (Foot.sub0 (by decide +kernel))
    exact h8
  · exact h8

def Foot.propWrite : Foot :=
  ⟨[(0x003010, 0x003010), (0x003040, 0x003040), (0x00304C, 0x003058), (0x00306C, 0x00306C)], [], [.out,
    .evq, .beam, .fab, .wake]⟩

theorem State.propWrite_moves (s : State) (q : Requester) (v : Word) : Moves (Foot.propWrite.at []) s (State.propWrite s q v) := by
  unfold State.propWrite
  refine State.firmwareOnly_moves ?_ (Foot.sub1 (by decide +kernel) (Foot.holds_reg (by decide +kernel))) (fun x1 h1 => ?_)
  · exact Moves.refl _
  · extract_lets -merge -underBinder +onlyGivenNames x2
    refine Moves.let_ x2 ?_ ?_
    · subst x2
      refine Moves.seq ?_ (State.storePlain_moves ..) (Foot.sub_at (by decide +kernel) (Foot.own_cons (Foot.holds_reg (by decide +kernel)) (Foot.own_cons (Foot.holds_reg (by decide +kernel)) Foot.own_nil)))
      exact h1
    intro h2
    try clear_value x2
    extract_lets -merge -underBinder +onlyGivenNames x3
    refine Moves.let_ x3 ?_ ?_
    · subst x3
      refine Moves.ite (fun hc => ?_) (fun hc => ?_)
      · refine Moves.seq ?_ (State.propose_moves ..) (Foot.sub0 (by decide +kernel))
        exact h2
      · exact h2
    intro h3
    try clear_value x3
    refine Moves.ite (fun hc => ?_) (fun hc => ?_)
    · refine Moves.seq ?_ (State.cancelDusk_moves ..) (Foot.sub0 (by decide +kernel))
      exact h3
    · exact h3

def Foot.dinCfg : Foot := ⟨[], [], [.evq]⟩

theorem State.dinCfg_moves (s : State) (q : Requester) (i : Nat) (v : Word) :
    Moves (Foot.dinCfg.at [(4096 * (pageOf (16448 + 8 * (i % 4)) / 4096) + 16, 4096 * (pageOf (16448 + 8 * (i % 4)) / 4096) + 16),
      (16448 + 8 * (i % 4), 16448 + 8 * (i % 4))]) s (State.dinCfg s q i v) := by
  unfold State.dinCfg
  refine State.locked_moves ?_ (Foot.sub1 (by decide +kernel) (Foot.holds_same (.head _))) (fun x1 h1 => ?_)
  · exact Moves.refl _
  · refine Moves.seq ?_ (State.wr_moves _ _ (by first | (dsimp only [R.SYS_DIN_CFG]; omega) | omega)) (Foot.sub1 (by decide +kernel) (Foot.holds_same (.tail _ (.head _))))
    exact h1

def Foot.eoi : Foot := ⟨[(0x0B3300, 0x0B3300)], [], [.out]⟩

theorem State.eoi_moves (s : State) (q : Requester) (v : Word) : Moves (Foot.eoi.at []) s (State.eoi s q v) := by
  unfold State.eoi
  refine Moves.ite (fun hc => ?_) (fun hc => ?_)
  · refine Moves.seq ?_ (State.msixRequest_moves ..) (Foot.sub0 (by decide +kernel))
    exact Moves.refl _
  · exact Moves.refl _

def Foot.writeSys : Foot :=
  ⟨[], [], [.mem, .out, .evq, .evqCut, .evtCut, .allRegs, .acc, .lines, .ports, .top, .beam, .fab, .tim,
    .cans, .wake, .twn, .hlt, .sgw, .psc, .recorder, .pwr, .mgt]⟩

theorem State.writeSys_moves (s : State) (q : Requester) (off : Nat) (v : Word) :
    Moves (Foot.writeSys.at []) s (State.writeSys s q off v) := by
  unfold State.writeSys
  extract_lets -merge -underBinder +onlyGivenNames x1
  subst x1
  split
  · refine Moves.ite (fun hc => ?_) (fun hc => ?_)
    · refine Moves.seq ?_ (State.rstCmd_moves ..) (Foot.sub0 (by decide +kernel))
      exact Moves.refl _
    · refine Moves.ite (fun hc => ?_) (fun hc => ?_)
      · refine State.firmwareOnly_moves ?_ (Foot.sub1 (by decide +kernel) (Foot.holds_all (by decide +kernel))) (fun x2 h2 => ?_)
        · exact Moves.refl _
        · refine Moves.seq ?_ (State.storePlain_moves ..) (Foot.sub_at (by decide +kernel) (Foot.own_cons (Foot.holds_all (by decide +kernel)) (Foot.own_cons (Foot.holds_all (by decide +kernel)) Foot.own_nil)))
          exact h2
      · refine Moves.ite (fun hc => ?_) (fun hc => ?_)
        · extract_lets -merge -underBinder +onlyGivenNames x3
          refine Moves.let_ x3 ?_ ?_
          · subst x3
            refine Moves.seq ?_ (State.put_moves _ _ _ (by decide)) (Foot.sub1 (by decide +kernel) (Foot.holds_all (by decide +kernel)))
            exact Moves.refl _
          intro h3
          try clear_value x3
          refine Moves.ite (fun hc => ?_) (fun hc => ?_)
          · refine Moves.seq ?_ (State.put_moves _ _ _ (by decide)) (Foot.sub1 (by decide +kernel) (Foot.holds_all (by decide +kernel)))
            exact h3
          · refine Moves.ite (fun hc => ?_) (fun hc => ?_)
            · exact h3
            · refine Moves.seq ?_ (State.lockViol_moves ..) (Foot.sub1 (by decide +kernel) (Foot.holds_all (by decide +kernel)))
              exact h3
        · refine Moves.seq ?_ (State.storePlain_moves ..) (Foot.sub_at (by decide +kernel) (Foot.own_cons (Foot.holds_all (by decide +kernel)) (Foot.own_cons (Foot.holds_all (by decide +kernel)) Foot.own_nil)))
          exact Moves.refl _
  · refine Moves.ite (fun hc => ?_) (fun hc => ?_)
    · refine Moves.seq ?_ (State.releaseWrite_moves ..) (Foot.sub0 (by decide +kernel))
      exact Moves.refl _
    · refine Moves.ite (fun hc => ?_) (fun hc => ?_)
      · refine Moves.seq ?_ (State.srcWrite_moves ..) (Foot.sub_at (by decide +kernel) (Foot.own_cons (Foot.holds_all (by decide +kernel)) (Foot.own_cons (Foot.holds_all (by decide +kernel)) Foot.own_nil)))
        exact Moves.refl _
      · refine Moves.seq ?_ (State.storePlain_moves ..) (Foot.sub_at (by decide +kernel) (Foot.own_cons (Foot.holds_all (by decide +kernel)) (Foot.own_cons (Foot.holds_all (by decide +kernel)) Foot.own_nil)))
        exact Moves.refl _
  · refine Moves.ite (fun hc => ?_) (fun hc => ?_)
    · refine Moves.seq ?_ (State.pwrCmdWrite_moves ..) (Foot.sub_at (by decide +kernel) (Foot.own_cons (Foot.holds_all (by decide +kernel)) (Foot.own_cons (Foot.holds_all (by decide +kernel)) (Foot.own_cons (Foot.holds_all (by decide +kernel)) Foot.own_nil))))
      exact Moves.refl _
    · refine Moves.ite (fun hc => ?_) (fun hc => ?_)
      · refine Moves.seq ?_ (State.dvfsWrite_moves ..) (Foot.sub_at (by decide +kernel) (Foot.own_cons (Foot.holds_all (by decide +kernel)) (Foot.own_cons (Foot.holds_all (by decide +kernel)) (Foot.own_cons (Foot.holds_all (by decide +kernel)) Foot.own_nil))))
        exact Moves.refl _
      · refine Moves.seq ?_ (State.storePlain_moves ..) (Foot.sub_at (by decide +kernel) (Foot.own_cons (Foot.holds_all (by decide +kernel)) (Foot.own_cons (Foot.holds_all (by decide +kernel)) Foot.own_nil)))
        exact Moves.refl _
  · refine Moves.ite (fun hc => ?_) (fun hc => ?_)
    · refine Moves.seq ?_ (State.wakeCmd_moves ..) (Foot.sub0 (by decide +kernel))
      exact Moves.refl _
    · refine Moves.ite (fun hc => ?_) (fun hc => ?_)
      · refine State.firmwareOnly_moves ?_ (Foot.sub1 (by decide +kernel) (Foot.holds_all (by decide +kernel))) (fun x4 h4 => ?_)
        · exact Moves.refl _
        · refine Moves.seq ?_ (State.storePlain_moves ..) (Foot.sub_at (by decide +kernel) (Foot.own_cons (Foot.holds_all (by decide +kernel)) (Foot.own_cons (Foot.holds_all (by decide +kernel)) Foot.own_nil)))
          exact h4
      · refine Moves.ite (fun hc => ?_) (fun hc => ?_)
        · refine Moves.seq ?_ (State.propWrite_moves ..) (Foot.sub0 (by decide +kernel))
          exact Moves.refl _
        · refine Moves.ite (fun hc => ?_) (fun hc => ?_)
          · refine Moves.seq ?_ (State.isoSet_moves ..) (Foot.sub0 (by decide +kernel))
            exact Moves.refl _
          · refine Moves.seq ?_ (State.storePlain_moves ..) (Foot.sub_at (by decide +kernel) (Foot.own_cons (Foot.holds_all (by decide +kernel)) (Foot.own_cons (Foot.holds_all (by decide +kernel)) Foot.own_nil)))
            exact Moves.refl _
  · refine Moves.ite (fun hc => ?_) (fun hc => ?_)
    · refine Moves.seq ?_ (State.dinCfg_moves ..) (Foot.sub_at (by decide +kernel) (Foot.own_cons (Foot.holds_all (by decide +kernel)) (Foot.own_cons (Foot.holds_all (by decide +kernel)) Foot.own_nil)))
      exact Moves.refl _
    · refine Moves.seq ?_ (State.storePlain_moves ..) (Foot.sub_at (by decide +kernel) (Foot.own_cons (Foot.holds_all (by decide +kernel)) (Foot.own_cons (Foot.holds_all (by decide +kernel)) Foot.own_nil)))
      exact Moves.refl _
  · refine Moves.ite (fun hc => ?_) (fun hc => ?_)
    · refine Moves.seq ?_ (State.eoi_moves ..) (Foot.sub0 (by decide +kernel))
      exact Moves.refl _
    · refine Moves.ite (fun hc => ?_) (fun hc => ?_)
      · refine Moves.seq ?_ (State.vectorsFollow_moves ..) (Foot.sub0 (by decide +kernel))
        refine Moves.seq ?_ (State.storePlain_moves ..) (Foot.sub_at (by decide +kernel) (Foot.own_cons (Foot.holds_all (by decide +kernel)) (Foot.own_cons (Foot.holds_all (by decide +kernel)) Foot.own_nil)))
        exact Moves.refl _
      · refine Moves.seq ?_ (State.storePlain_moves ..) (Foot.sub_at (by decide +kernel) (Foot.own_cons (Foot.holds_all (by decide +kernel)) (Foot.own_cons (Foot.holds_all (by decide +kernel)) Foot.own_nil)))
        exact Moves.refl _
  · refine Moves.seq ?_ (State.storePlain_moves ..) (Foot.sub_at (by decide +kernel) (Foot.own_cons (Foot.holds_all (by decide +kernel)) (Foot.own_cons (Foot.holds_all (by decide +kernel)) Foot.own_nil)))
    exact Moves.refl _

def Foot.clearLockout : Foot :=
  ⟨[(0x000054, 0x000054), (0x005040, 0x005040), (0x0F0010, 0x0F0010), (0x0F0040, 0x0F0040), (0x0F0080,
    0x0F0080)], [], [.evq, .lines, .hlt]⟩

theorem State.clearLockout_moves (s : State) (l : Line) :
    Moves (Foot.clearLockout.at [(65608 + 65536 * (l.idx % 2), 65608 + 65536 * (l.idx % 2))]) s (State.clearLockout s l) := by
  unfold State.clearLockout
  extract_lets -merge -underBinder +onlyGivenNames x1
  refine Moves.let_ x1 ?_ ?_
  · subst x1
    refine Moves.seq ?_ (State.putB_moves _ _ _ (by show 20544 % 4096 ≠ 16; decide)) (Foot.sub1 (by decide +kernel) (Foot.holds_reg (lo := 20544) (hi := 20544) (by decide +kernel)))
    refine Moves.seq ?_ (State.put_moves _ _ _ (by first | (dsimp only [F.BL_LINE_STAT_FAIL_CNT]; omega) | omega)) (Foot.sub1 (by decide +kernel) (Foot.holds_same (.head _)))
    refine Moves.seq ?_ (State.putB_moves _ _ _ (by first | (dsimp only [F.BL_LINE_STAT_LOCKOUT]; omega) | omega)) (Foot.sub1 (by decide +kernel) (Foot.holds_same (.head _)))
    exact Moves.refl _
  intro h1
  try clear_value x1
  extract_lets -merge -underBinder +onlyGivenNames x2
  refine Moves.let_ x2 ?_ ?_
  · subst x2
    refine Moves.ite (fun hc => ?_) (fun hc => ?_)
    · exact h1
    · refine Moves.seq ?_ (State.hltReason_moves ..) (Foot.sub1 (by decide +kernel) (Foot.holds_reg (by decide +kernel)))
      exact h1
  intro h2
  try clear_value x2
  refine Moves.seq ?_ (State.setLine_moves ..) (Foot.sub0 (by decide +kernel))
  exact h2

def Foot.retrainLine : Foot :=
  ⟨[(0x011010, 0x011010), (0x011040, 0x011048), (0x012010, 0x012010), (0x012040, 0x012048), (0x013058,
    0x013058), (0x021010, 0x021010), (0x021040, 0x021048), (0x022010, 0x022010), (0x022040, 0x022048), (0x023058, 0x023058), (0x100010,
    0x100010), (0x100044, 0x100044), (0x100064, 0x10006C)], [], [.mem, .out, .evq, .ports, .top, .beam, .fab]⟩

theorem State.retrainLine_moves (s : State) (l : Line) : Moves (Foot.retrainLine.at []) s (State.retrainLine s l) := by
  unfold State.retrainLine
  refine Moves.ite (fun hc => ?_) (fun hc => ?_)
  · exact Moves.refl _
  · refine Moves.foldl _ (fun x1 _ h1 => ?_) _ ?_
    · extract_lets -merge -underBinder +onlyGivenNames x2
      subst x2
      extract_lets -merge -underBinder +onlyGivenNames x3
      refine Moves.let_ x3 ?_ ?_
      · subst x3
        refine Moves.seq ?_ (State.setPort_moves ..) (Foot.sub0 (by decide +kernel))
        exact h1
      intro h3
      try clear_value x3
      refine Moves.ite (fun hc => ?_) (fun hc => ?_)
      · refine Moves.seq ?_ (State.trigger_moves ..) (Foot.sub0 (by decide +kernel))
        refine Moves.seq ?_ (State.flap_moves ..) (Foot.sub_at (by decide +kernel) (Foot.own_cons (Foot.holds_four 139280 135184 73744 69648 (by decide +kernel) (by decide +kernel) (by decide +kernel) (by decide +kernel) (by first | omega | (dsimp only; omega))) (Foot.own_cons (Foot.holds_four 139328 135232 73792 69696 (by decide +kernel) (by decide +kernel) (by decide +kernel) (by decide +kernel) (by first | omega | (dsimp only; omega))) (Foot.own_cons (Foot.holds_four 139336 135240 73800 69704 (by decide +kernel) (by decide +kernel) (by decide +kernel) (by decide +kernel) (by first | omega | (dsimp only; omega))) (Foot.own_cons (Foot.holds_four 139332 135236 73796 69700 (by decide +kernel) (by decide +kernel) (by decide +kernel) (by decide +kernel) (by first | omega | (dsimp only; omega))) (Foot.own_cons (Foot.holds_two 143448 77912 (by decide +kernel) (by decide +kernel) (by first | omega | (dsimp only; omega))) Foot.own_nil))))))
        refine Moves.seq ?_ (State.countChange_moves ..) (Foot.sub_at (by decide +kernel) (Foot.own_cons (Foot.holds_four 139280 135184 73744 69648 (by decide +kernel) (by decide +kernel) (by decide +kernel) (by decide +kernel) (by first | omega | (dsimp only; omega))) (Foot.own_cons (Foot.holds_four 139328 135232 73792 69696 (by decide +kernel) (by decide +kernel) (by decide +kernel) (by decide +kernel) (by first | omega | (dsimp only; omega))) Foot.own_nil)))
        refine Moves.seq ?_ (State.dropLink_moves ..) (Foot.sub_at (by decide +kernel) (Foot.own_cons (Foot.holds_four 139336 135240 73800 69704 (by decide +kernel) (by decide +kernel) (by decide +kernel) (by decide +kernel) (by first | omega | (dsimp only; omega))) (Foot.own_cons (Foot.holds_four 139332 135236 73796 69700 (by decide +kernel) (by decide +kernel) (by decide +kernel) (by decide +kernel) (by first | omega | (dsimp only; omega))) (Foot.own_cons (Foot.holds_four 139328 135232 73792 69696 (by decide +kernel) (by decide +kernel) (by decide +kernel) (by decide +kernel) (by first | omega | (dsimp only; omega))) (Foot.own_cons (Foot.holds_two 143448 77912 (by decide +kernel) (by decide +kernel) (by first | omega | (dsimp only; omega))) Foot.own_nil)))))
        exact h3
      · exact h3
    · exact Moves.refl _

def Foot.lineCmd : Foot :=
  ⟨[(0x000054, 0x000054), (0x005040, 0x005040), (0x011010, 0x011010), (0x011040, 0x011048), (0x012010,
    0x012010), (0x012040, 0x012048), (0x013058, 0x013058), (0x021010, 0x021010), (0x021040, 0x021048), (0x022010, 0x022010), (0x022040,
    0x022048), (0x023058, 0x023058), (0x0F0010, 0x0F0010), (0x0F0040, 0x0F0040), (0x0F0080, 0x0F0080), (0x100010, 0x100010), (0x100044,
    0x100044), (0x100064, 0x10006C)], [], [.mem, .out, .evq, .lines, .ports, .top, .beam, .fab, .hlt]⟩

theorem State.lineCmd_moves (s : State) (q : Requester) (l : Line) (v : Word) :
    Moves (Foot.lineCmd.at [(4096 * (pageOf (65604 + 65536 * (l.idx % 2)) / 4096) + 16, 4096 * (pageOf (65604 + 65536 * (l.idx % 2)) /
      4096) + 16), (65604 + 65536 * (l.idx % 2), 65604 + 65536 * (l.idx % 2)),
      (65608 + 65536 * (l.idx % 2), 65608 + 65536 * (l.idx % 2)),
      (77904 + 65536 * ((l.port true).line.idx % 2), 77904 + 65536 * ((l.port true).line.idx % 2)),
      (77908 + 65536 * ((l.port true).line.idx % 2), 77908 + 65536 * ((l.port true).line.idx % 2)),
      (77896 + 65536 * ((l.port true).line.idx % 2), 77896 + 65536 * ((l.port true).line.idx % 2)),
      (77900 + 65536 * ((l.port true).line.idx % 2), 77900 + 65536 * ((l.port true).line.idx % 2)),
      (77904 + 65536 * ((l.port false).line.idx % 2), 77904 + 65536 * ((l.port false).line.idx % 2)),
      (77908 + 65536 * ((l.port false).line.idx % 2), 77908 + 65536 * ((l.port false).line.idx % 2)),
      (77896 + 65536 * ((l.port false).line.idx % 2), 77896 + 65536 * ((l.port false).line.idx % 2)),
      (77900 + 65536 * ((l.port false).line.idx % 2), 77900 + 65536 * ((l.port false).line.idx % 2)),
      (77888 + 65536 * (l.idx % 2), 77888 + 65536 * (l.idx % 2)),
      (4096 * ((77824 + 65536 * (l.idx % 2)) / 4096) + 16, 4096 * ((77824 + 65536 * (l.idx % 2)) / 4096) + 16),
      (4096 * ((65536 + 65536 * (l.idx % 2)) / 4096) + 16, 4096 * ((65536 + 65536 * (l.idx % 2)) / 4096) + 16)]) s (State.lineCmd s q
      l v) := by
  unfold State.lineCmd
  refine State.locked_moves ?_ (Foot.sub1 (by decide +kernel) (Foot.holds_same (.head _))) (fun x1 h1 => ?_)
  · exact Moves.refl _
  · extract_lets -merge -underBinder +onlyGivenNames x2
    refine Moves.let_ x2 ?_ ?_
    · subst x2
      refine Moves.seq ?_ (State.wr_moves _ _ (by first | (dsimp only [R.BL_LINE_CMD]; omega) | omega)) (Foot.sub1 (by decide +kernel) (Foot.holds_same (.tail _ (.head _))))
      exact h1
    intro h2
    try clear_value x2
    extract_lets -merge -underBinder +onlyGivenNames x3
    refine Moves.let_ x3 ?_ ?_
    · subst x3
      refine Moves.ite (fun hc => ?_) (fun hc => ?_)
      · refine Moves.seq ?_ (State.clearLockout_moves ..) (Foot.sub1 (by decide +kernel) (Foot.holds_same (.tail _ (.tail _ (.head _)))))
        exact h2
      · exact h2
    intro h3
    try clear_value x3
    extract_lets -merge -underBinder +onlyGivenNames x4
    refine Moves.let_ x4 ?_ ?_
    · subst x4
      refine Moves.ite (fun hc => ?_) (fun hc => ?_)
      · refine Moves.seq ?_ (State.retrainLine_moves ..) (Foot.sub0 (by decide +kernel))
        exact h3
      · exact h3
    intro h4
    try clear_value x4
    refine Moves.ite (fun hc => ?_) (fun hc => ?_)
    · refine Moves.seq ?_ (State.startClose_moves ..) (Foot.sub_at (by decide +kernel) (Foot.own_cons (Foot.holds_same (.tail _ (.tail _ (.head _)))) (Foot.own_cons (Foot.holds_same (.tail _ (.tail _ (.tail _ (.head _))))) (Foot.own_cons (Foot.holds_same (.tail _ (.tail _ (.tail _ (.tail _ (.head _)))))) (Foot.own_cons (Foot.holds_same (.tail _ (.tail _ (.tail _ (.tail _ (.tail _ (.head _))))))) (Foot.own_cons (Foot.holds_same (.tail _ (.tail _ (.tail _ (.tail _ (.tail _ (.tail _ (.head _)))))))) (Foot.own_cons (Foot.holds_same (.tail _ (.tail _ (.tail _ (.tail _ (.tail _ (.tail _ (.tail _ (.head _))))))))) (Foot.own_cons (Foot.holds_same (.tail _ (.tail _ (.tail _ (.tail _ (.tail _ (.tail _ (.tail _ (.tail _ (.head _)))))))))) (Foot.own_cons (Foot.holds_same (.tail _ (.tail _ (.tail _ (.tail _ (.tail _ (.tail _ (.tail _ (.tail _ (.tail _ (.head _))))))))))) (Foot.own_cons (Foot.holds_same (.tail _ (.tail _ (.tail _ (.tail _ (.tail _ (.tail _ (.tail _ (.tail _ (.tail _ (.tail _ (.head _)))))))))))) (Foot.own_cons (Foot.holds_same (.tail _ (.tail _ (.tail _ (.tail _ (.tail _ (.tail _ (.tail _ (.tail _ (.tail _ (.tail _ (.tail _ (.head _))))))))))))) (Foot.own_cons (Foot.holds_same (.tail _ (.tail _ (.tail _ (.tail _ (.tail _ (.tail _ (.tail _ (.tail _ (.tail _ (.tail _ (.tail _ (.tail _ (.head _)))))))))))))) (Foot.own_cons (Foot.holds_same (.tail _ (.tail _ (.tail _ (.tail _ (.tail _ (.tail _ (.tail _ (.tail _ (.tail _ (.tail _ (.tail _ (.tail _ (.tail _ (.head _))))))))))))))) Foot.own_nil)))))))))))))
      exact h4
    · exact h4

def Foot.fabAge : Foot := ⟨[(0x030010, 0x030010), (0x030048, 0x030048)], [], [.evq, .fab]⟩

theorem State.fabAge_moves (s : State) (q : Requester) (v : Word) : Moves (Foot.fabAge.at []) s (State.fabAge s q v) := by
  unfold State.fabAge
  refine State.locked_moves ?_ (Foot.sub1 (by decide +kernel) (Foot.holds_reg (by decide +kernel))) (fun x1 h1 => ?_)
  · exact Moves.refl _
  · extract_lets -merge -underBinder +onlyGivenNames x2
    refine Moves.let_ x2 ?_ ?_
    · subst x2
      refine Moves.seq ?_ (State.wr_moves _ _ (by decide)) (Foot.sub1 (by decide +kernel) (Foot.holds_reg (by decide +kernel)))
      exact h1
    intro h2
    try clear_value x2
    refine Moves.ite (fun hc => ?_) (fun hc => ?_)
    · refine Moves.seq ?_ (Moves.upd_fab _ _) (Foot.sub0 (by decide +kernel))
      exact h2
    · exact h2

def Foot.flowDone : Foot := ⟨[(0x031010, 0x031010), (0x031044, 0x031044)], [], []⟩

theorem State.flowDone_moves (s : State) (status : Nat) : Moves (Foot.flowDone.at []) s (State.flowDone s status) := by
  unfold State.flowDone
  refine Moves.seq ?_ (State.raise_moves ..) (Foot.sub1 (by decide +kernel) (Foot.holds_reg (by decide +kernel)))
  refine Moves.seq ?_ (State.wr_moves _ _ (by decide)) (Foot.sub1 (by decide +kernel) (Foot.holds_reg (by decide +kernel)))
  exact Moves.refl _

def Foot.setWays : Foot := ⟨[], [], [.fab]⟩

theorem State.setWays_moves (s : State) (set : Nat) (ws : List Way) : Moves (Foot.setWays.at []) s (State.setWays s set ws) := by
  unfold State.setWays
  refine Moves.seq ?_ (Moves.upd_fab _ _) (Foot.sub0 (by decide +kernel))
  exact Moves.refl _

def Foot.insertKey : Foot := ⟨[], [], [.fab]⟩

theorem State.insertKey_moves (s : State) (shadow : Bool) (i cls src flow : Nat) (t : State)
    (ht : s.insertKey shadow i cls src flow = some t) : Moves (Foot.insertKey.at []) s t := by
  have key : ∀ ws, Moves (Foot.insertKey.at []) s (s.setWays (keySet cls src flow) ws) := fun _ =>
    Moves.seq (Moves.refl _) (State.setWays_moves ..) (Foot.sub0 (by decide +kernel))
  unfold State.insertKey at ht
  by_cases h1 : ((s.waysOf (keySet cls src flow)).any fun w =>
      w.cls == cls && w.src == src && w.flow == flow && w.ctx != i && w.inTable (if shadow then 1 else 0)) = true
  · rw [if_pos h1] at ht
    exact nomatch ht
  rw [if_neg h1] at ht
  by_cases h2 : ((s.waysOf (keySet cls src flow)).any fun w => w.cls == cls && w.src == src && w.flow == flow && w.ctx == i) = true
  · rw [if_pos h2] at ht
    exact Option.some.inj ht ▸ key _
  rw [if_neg h2] at ht
  by_cases h3 : (s.waysOf (keySet cls src flow)).length < 4
  · rw [if_pos h3] at ht
    exact Option.some.inj ht ▸ key _
  rw [if_neg h3] at ht
  exact nomatch ht

def Foot.hashFull : Foot := ⟨[(0x031010, 0x031010), (0x031090, 0x031090)], [], [.mem, .evq]⟩

theorem State.hashFull_moves (s : State) (i : Nat) (cls : Nat) (src : Nat) (flow : Nat) :
    Moves (Foot.hashFull.at []) s (State.hashFull s i cls src flow) := by
  unfold State.hashFull
  extract_lets -merge -underBinder +onlyGivenNames x1
  refine Moves.let_ x1 ?_ ?_
  · subst x1
    refine Moves.seq ?_ (State.setStat_moves ..) (Foot.sub0 (by decide +kernel))
    refine Moves.seq ?_ (State.raise_moves ..) (Foot.sub1 (by decide +kernel) (Foot.holds_reg (by decide +kernel)))
    refine Moves.seq ?_ (State.satInc_moves _ _ (by decide)) (Foot.sub1 (by decide +kernel) (Foot.holds_reg (by decide +kernel)))
    exact Moves.refl _
  intro h1
  try clear_value x1
  refine Moves.seq ?_ (State.post_moves ..) (Foot.sub0 (by decide +kernel))
  exact h1

def Foot.writeTargets : Foot := ⟨[], [], [.mem]⟩

theorem State.writeTargets_moves (s : State) (i : Nat) (w : NumView) :
    Moves (Foot.writeTargets.at []) s (State.writeTargets s i w) := by
  unfold State.writeTargets
  extract_lets -merge -underBinder +onlyGivenNames x1
  subst x1
  extract_lets -merge -underBinder +onlyGivenNames x2
  subst x2
  extract_lets -merge -underBinder +onlyGivenNames x3
  subst x3
  refine Moves.seq ?_ (State.wrNum_moves ..) (Foot.sub0 (by decide +kernel))
  refine Moves.seq ?_ (State.wrNum_moves ..) (Foot.sub0 (by decide +kernel))
  refine Moves.seq ?_ (State.wrNum_moves ..) (Foot.sub0 (by decide +kernel))
  exact Moves.refl _

def Foot.dropHeld : Foot := ⟨[(0x03206C, 0x03206C)], [], [.fab]⟩

theorem State.dropHeld_moves (s : State) (i : Nat) : Moves (Foot.dropHeld.at []) s (State.dropHeld s i) := by
  unfold State.dropHeld
  extract_lets -merge -underBinder +onlyGivenNames x1
  subst x1
  try dsimp -zeta only
  extract_lets -merge -underBinder +onlyGivenNames x2
  subst x2
  extract_lets -merge -underBinder +onlyGivenNames x3
  subst x3
  extract_lets -merge -underBinder +onlyGivenNames x4
  refine Moves.let_ x4 ?_ ?_
  · subst x4
    refine Moves.seq ?_ (Moves.upd_fab _ _) (Foot.sub0 (by decide +kernel))
    exact Moves.refl _
  intro h4
  try clear_value x4
  refine Moves.seq ?_ (State.giveCells_moves ..) (Foot.sub1 (by decide +kernel) (Foot.holds_reg (by decide +kernel)))
  exact h4

def Foot.freeKeys : Foot := ⟨[], [], [.fab]⟩

theorem State.freeKeys_moves (s : State) (i : Nat) : Moves (Foot.freeKeys.at []) s (State.freeKeys s i) := by
  unfold State.freeKeys
  refine Moves.seq ?_ (State.mapWays_moves ..) (Foot.sub0 (by decide +kernel))
  exact Moves.refl _

def Foot.setSusp : Foot := ⟨[(0x031010, 0x031010)], [], [.mem]⟩

theorem State.setSusp_moves (s : State) (i : Nat) : Moves (Foot.setSusp.at []) s (State.setSusp s i) := by
  unfold State.setSusp
  extract_lets -merge -underBinder +onlyGivenNames x1
  subst x1
  extract_lets -merge -underBinder +onlyGivenNames x2
  refine Moves.let_ x2 ?_ ?_
  · subst x2
    refine Moves.ite (fun hc => ?_) (fun hc => ?_)
    · refine Moves.seq ?_ (State.raise_moves ..) (Foot.sub1 (by decide +kernel) (Foot.holds_reg (by decide +kernel)))
      exact Moves.refl _
    · exact Moves.refl _
  intro h2
  try clear_value x2
  refine Moves.seq ?_ (State.setStat_moves ..) (Foot.sub0 (by decide +kernel))
  exact h2

def Foot.flowWrite : Foot :=
  ⟨[(0x031010, 0x031010), (0x031044, 0x031044), (0x031090, 0x031090), (0x03206C, 0x03206C)], [], [.mem,
    .evq, .fab]⟩

theorem State.flowWrite_moves (s : State) (q : Requester) : Moves (Foot.flowWrite.at []) s (State.flowWrite s q) := by
  unfold State.flowWrite
  extract_lets -merge -underBinder +onlyGivenNames x1
  subst x1
  extract_lets -merge -underBinder +onlyGivenNames x2
  subst x2
  extract_lets -merge -underBinder +onlyGivenNames x3
  subst x3
  extract_lets -merge -underBinder +onlyGivenNames x4
  subst x4
  extract_lets -merge -underBinder +onlyGivenNames x5
  subst x5
  extract_lets -merge -underBinder +onlyGivenNames x6
  subst x6
  extract_lets -merge -underBinder +onlyGivenNames x7
  subst x7
  try dsimp -zeta only
  extract_lets -merge -underBinder +onlyGivenNames x8
  subst x8
  try dsimp -zeta only
  extract_lets -merge -underBinder +onlyGivenNames x9
  subst x9
  extract_lets -merge -underBinder +onlyGivenNames x10
  subst x10
  try dsimp -zeta only
  extract_lets -merge -underBinder +onlyGivenNames x11
  subst x11
  extract_lets -merge -underBinder +onlyGivenNames x12
  subst x12
  refine Moves.ite (fun hc => ?_) (fun hc => ?_)
  · refine Moves.seq ?_ (State.flowDone_moves ..) (Foot.sub0 (by decide +kernel))
    exact Moves.refl _
  · refine Moves.ite (fun hc => ?_) (fun hc => ?_)
    · refine Moves.seq ?_ (State.flowDone_moves ..) (Foot.sub0 (by decide +kernel))
      exact Moves.refl _
    · refine Moves.ite (fun hc => ?_) (fun hc => ?_)
      · refine Moves.seq ?_ (State.flowDone_moves ..) (Foot.sub0 (by decide +kernel))
        exact Moves.refl _
      · refine Moves.ite (fun hc => ?_) (fun hc => ?_)
        · refine Moves.seq ?_ (State.flowDone_moves ..) (Foot.sub0 (by decide +kernel))
          exact Moves.refl _
        · extract_lets -merge -underBinder +onlyGivenNames x13
          refine Moves.let_ x13 ?_ ?_
          · subst x13
            refine Moves.seq ?_ (State.mapWays_moves ..) (Foot.sub0 (by decide +kernel))
            exact Moves.refl _
          intro h13
          try clear_value x13
          extract_lets -merge -underBinder +onlyGivenNames x14
          subst x14
          extract_lets -merge -underBinder +onlyGivenNames x15
          subst x15
          try dsimp -zeta only
          split
          · extract_lets -merge -underBinder +onlyGivenNames x16
            subst x16
            refine Moves.seq ?_ (State.flowDone_moves ..) (Foot.sub0 (by decide +kernel))
            refine Moves.seq ?_ (State.hashFull_moves ..) (Foot.sub0 (by decide +kernel))
            exact Moves.refl _
          · extract_lets -merge -underBinder +onlyGivenNames x17
            refine Moves.let_ x17 ?_ ?_
            · subst x17
              refine Moves.seq ?_ (State.wrBytes_moves ..) (Foot.sub0 (by decide +kernel))
              rename_i ht
              exact Moves.foldl_bind (fun _ _ _ hs h => Moves.seq hs (State.insertKey_moves _ _ _ _ _ _ _ h) (Foot.sub0 (by decide +kernel))) _ _ (fun _ h => by cases h; exact h13) _ ht
            intro h17
            try clear_value x17
            extract_lets -merge -underBinder +onlyGivenNames x18
            refine Moves.let_ x18 ?_ ?_
            · subst x18
              refine Moves.ite (fun hc => ?_) (fun hc => ?_)
              · refine Moves.seq ?_ (State.setStat_moves ..) (Foot.sub0 (by decide +kernel))
                refine Moves.seq ?_ (State.writeTargets_moves ..) (Foot.sub0 (by decide +kernel))
                exact h17
              · refine Moves.seq ?_ (State.dropHeld_moves ..) (Foot.sub0 (by decide +kernel))
                refine Moves.seq ?_ (State.freeKeys_moves ..) (Foot.sub0 (by decide +kernel))
                exact h17
            intro h18
            try clear_value x18
            extract_lets -merge -underBinder +onlyGivenNames x19
            refine Moves.let_ x19 ?_ ?_
            · subst x19
              refine Moves.seq ?_ (State.wrNum_moves ..) (Foot.sub0 (by decide +kernel))
              exact h18
            intro h19
            try clear_value x19
            extract_lets -merge -underBinder +onlyGivenNames x20
            subst x20
            extract_lets -merge -underBinder +onlyGivenNames x21
            refine Moves.let_ x21 ?_ ?_
            · subst x21
              refine Moves.ite (fun hc => ?_) (fun hc => ?_)
              · refine Moves.seq ?_ (State.setStat_moves ..) (Foot.sub0 (by decide +kernel))
                refine Moves.seq ?_ (State.setStat_moves ..) (Foot.sub0 (by decide +kernel))
                refine Moves.seq ?_ (State.wrNum_moves ..) (Foot.sub0 (by decide +kernel))
                refine Moves.seq ?_ (State.wrNum_moves ..) (Foot.sub0 (by decide +kernel))
                exact h19
              · exact h19
            intro h21
            try clear_value x21
            extract_lets -merge -underBinder +onlyGivenNames x22
            refine Moves.let_ x22 ?_ ?_
            · subst x22
              refine Moves.seq ?_ (State.wrByte_moves ..) (Foot.sub0 (by decide +kernel))
              exact h21
            intro h22
            try clear_value x22
            extract_lets -merge -underBinder +onlyGivenNames x23
            subst x23
            extract_lets -merge -underBinder +onlyGivenNames x24
            refine Moves.let_ x24 ?_ ?_
            · subst x24
              refine Moves.ite (fun hc => ?_) (fun hc => ?_)
              · refine Moves.seq ?_ (State.setSusp_moves ..) (Foot.sub0 (by decide +kernel))
                exact h22
              · refine Moves.seq ?_ (Moves.upd_fab _ _) (Foot.sub0 (by decide +kernel))
                exact h22
            intro h24
            try clear_value x24
            refine Moves.seq ?_ (State.flowDone_moves ..) (Foot.sub0 (by decide +kernel))
            refine Moves.seq ?_ (State.put_moves _ _ _ (by decide)) (Foot.sub1 (by decide +kernel) (Foot.holds_reg (by decide +kernel)))
            exact h24

def Foot.flowClear : Foot := ⟨[(0x031010, 0x031010), (0x031044, 0x031044)], [], [.mem]⟩

theorem State.flowClear_moves (s : State) : Moves (Foot.flowClear.at []) s (State.flowClear s) := by
  unfold State.flowClear
  refine Moves.seq ?_ (State.flowDone_moves ..) (Foot.sub0 (by decide +kernel))
  refine Moves.seq ?_ (State.wrNum_moves ..) (Foot.sub0 (by decide +kernel))
  exact Moves.refl _

def Foot.flowRead : Foot := ⟨[(0x031010, 0x031010), (0x031044, 0x031044), (0x031050, 0x03108C)], [], [.mem]⟩

theorem State.flowRead_moves (s : State) : Moves (Foot.flowRead.at []) s (State.flowRead s) := by
  unfold State.flowRead
  extract_lets -merge -underBinder +onlyGivenNames x1
  subst x1
  extract_lets -merge -underBinder +onlyGivenNames x2
  refine Moves.let_ x2 ?_ ?_
  · subst x2
    refine Moves.seq ?_ (State.setStat_moves ..) (Foot.sub0 (by decide +kernel))
    exact Moves.refl _
  intro h2
  try clear_value x2
  refine Moves.seq ?_ (State.flowDone_moves ..) (Foot.sub0 (by decide +kernel))
  refine Moves.foldl _ (fun x3 _ h3 => ?_) _ ?_
  · refine Moves.seq ?_ (State.wr_moves _ _ (by first | (dsimp only [R.FAB_FLOW_DATA]; omega) | omega)) (Foot.sub1 (by decide +kernel) (Foot.holds_range 200784 200844 (by decide +kernel) (by first | (dsimp only [R.FAB_FLOW_DATA]; omega) | omega) (by first | (dsimp only [R.FAB_FLOW_DATA]; omega) | omega)))
    exact h3
  · exact h2

def Foot.flowCmd : Foot :=
  ⟨[(0x031010, 0x031010), (0x031044, 0x031044), (0x031050, 0x031090), (0x03206C, 0x03206C)], [], [.mem,
    .evq, .fab]⟩

theorem State.flowCmd_moves (s : State) (q : Requester) (v : Word) : Moves (Foot.flowCmd.at []) s (State.flowCmd s q v) := by
  unfold State.flowCmd
  extract_lets -merge -underBinder +onlyGivenNames x1
  refine Moves.let_ x1 ?_ ?_
  · subst x1
    refine State.locked_moves ?_ (Foot.sub1 (by decide +kernel) (Foot.holds_reg (by decide +kernel))) (fun x2 h2 => ?_)
    · exact Moves.refl _
    · extract_lets -merge -underBinder +onlyGivenNames x3
      refine Moves.let_ x3 ?_ ?_
      · subst x3
        refine Moves.ite (fun hc => ?_) (fun hc => ?_)
        · refine Moves.seq ?_ (State.flowWrite_moves ..) (Foot.sub0 (by decide +kernel))
          exact h2
        · exact h2
      intro h3
      try clear_value x3
      refine Moves.ite (fun hc => ?_) (fun hc => ?_)
      · refine Moves.seq ?_ (State.flowClear_moves ..) (Foot.sub0 (by decide +kernel))
        exact h3
      · exact h3
  intro h1
  try clear_value x1
  refine Moves.ite (fun hc => ?_) (fun hc => ?_)
  · refine Moves.seq ?_ (State.flowRead_moves ..) (Foot.sub0 (by decide +kernel))
    exact h1
  · exact h1

def Foot.bankWrite : Foot := ⟨[(0x032010, 0x032010), (0x03204C, 0x032050), (0x032058, 0x032058)], [], [.evq, .fab]⟩

theorem State.bankWrite_moves (s : State) (q : Requester) (hi : Bool) (v : Word) :
    Moves (Foot.bankWrite.at []) s (State.bankWrite s q hi v) := by
  unfold State.bankWrite
  extract_lets -merge -underBinder +onlyGivenNames x1
  subst x1
  refine State.locked_moves ?_ (Foot.sub1 (by decide +kernel) (by (try dsimp only [pageOf, R.FAB_QUE_BANK_HI, R.FAB_QUE_BANK_LO]); split <;> (try dsimp only) <;> first | exact (Foot.holds_reg (lo := 204816) (hi := 204816) (by decide +kernel)))) (fun x2 h2 => ?_)
  · exact Moves.refl _
  · extract_lets -merge -underBinder +onlyGivenNames x3
    subst x3
    extract_lets -merge -underBinder +onlyGivenNames x4
    subst x4
    extract_lets -merge -underBinder +onlyGivenNames x5
    refine Moves.let_ x5 ?_ ?_
    · subst x5
      refine Moves.foldl _ (fun x6 _ h6 => ?_) _ ?_
      · extract_lets -merge -underBinder +onlyGivenNames x7
        subst x7
        refine Moves.ite (fun hc => ?_) (fun hc => ?_)
        · exact h6
        · extract_lets -merge -underBinder +onlyGivenNames x8
          subst x8
          extract_lets -merge -underBinder +onlyGivenNames x9
          refine Moves.let_ x9 ?_ ?_
          · subst x9
            refine Moves.ite (fun hc => ?_) (fun hc => ?_)
            · exact h6
            · refine Moves.seq ?_ (Moves.upd_fab _ _) (Foot.sub0 (by decide +kernel))
              exact h6
          intro h9
          try clear_value x9
          refine Moves.seq ?_ (State.wr_moves _ _ (by decide)) (Foot.sub1 (by decide +kernel) (Foot.holds_reg (by decide +kernel)))
          exact h9
      · exact h2
    intro h5
    try clear_value x5
    refine Moves.seq ?_ (State.wr_moves _ _ (by (try dsimp only [R.FAB_QUE_BANK_HI, R.FAB_QUE_BANK_LO]); split <;> (try dsimp only) <;> first | decide | omega)) (Foot.sub1 (by decide +kernel) (by (try dsimp only [R.FAB_QUE_BANK_HI, R.FAB_QUE_BANK_LO]); split <;> (try dsimp only) <;> first | exact (Foot.holds_reg (lo := 204880) (hi := 204880) (by decide +kernel)) | exact (Foot.holds_reg (lo := 204876) (hi := 204876) (by decide +kernel))))
    exact h5

def Foot.gateCtrl : Foot := ⟨[(0x033010, 0x033010)], [], [.mem, .evq]⟩

theorem State.gateCtrl_moves (s : State) (q : Requester) (v : Word) : Moves (Foot.gateCtrl.at []) s (State.gateCtrl s q v) := by
  unfold State.gateCtrl
  refine State.locked_moves ?_ (Foot.sub1 (by decide +kernel) (Foot.holds_reg (by decide +kernel))) (fun x1 h1 => ?_)
  · exact Moves.refl _
  · extract_lets -merge -underBinder +onlyGivenNames x2
    subst x2
    extract_lets -merge -underBinder +onlyGivenNames x3
    refine Moves.let_ x3 ?_ ?_
    · subst x3
      refine Moves.seq ?_ (State.wrByte_moves ..) (Foot.sub0 (by decide +kernel))
      exact h1
    intro h3
    try clear_value x3
    refine Moves.ite (fun hc => ?_) (fun hc => ?_)
    · refine Moves.seq ?_ (State.wrByte_moves ..) (Foot.sub0 (by decide +kernel))
      exact h3
    · exact h3

def Foot.cbStream : Foot := ⟨[(0x037010, 0x037010), (0x03704C, 0x03704C)], [], [.mem, .evq]⟩

theorem State.cbStream_moves (s : State) (q : Requester) (v : Word) : Moves (Foot.cbStream.at []) s (State.cbStream s q v) := by
  unfold State.cbStream
  refine State.locked_moves ?_ (Foot.sub1 (by decide +kernel) (Foot.holds_reg (by decide +kernel))) (fun x1 h1 => ?_)
  · exact Moves.refl _
  · extract_lets -merge -underBinder +onlyGivenNames x2
    subst x2
    extract_lets -merge -underBinder +onlyGivenNames x3
    refine Moves.let_ x3 ?_ ?_
    · subst x3
      refine Moves.seq ?_ (State.wr_moves _ _ (by decide)) (Foot.sub1 (by decide +kernel) (Foot.holds_reg (by decide +kernel)))
      exact h1
    intro h3
    try clear_value x3
    refine Moves.seq ?_ (State.wrNum_moves ..) (Foot.sub0 (by decide +kernel))
    refine Moves.seq ?_ (State.wrNum_moves ..) (Foot.sub0 (by decide +kernel))
    refine Moves.seq ?_ (State.wrNum_moves ..) (Foot.sub0 (by decide +kernel))
    refine Moves.seq ?_ (State.wrNum_moves ..) (Foot.sub0 (by decide +kernel))
    exact h3

def Foot.writeFab : Foot :=
  ⟨[(0x030010, 0x030010), (0x030048, 0x030048), (0x031010, 0x031010), (0x031044, 0x031044), (0x031050,
    0x031090), (0x032010, 0x032010), (0x03204C, 0x032050), (0x032058, 0x032058), (0x03206C, 0x03206C), (0x033010, 0x033010), (0x037010,
    0x037010), (0x03704C, 0x03704C)], [], [.mem, .evq, .fab]⟩

theorem State.writeFab_moves (s : State) (q : Requester) (off : Nat) (v : Word) :
    Moves (Foot.writeFab.at [(4096 * (pageOf off / 4096) + 16, 4096 * (pageOf off / 4096) + 16),
      (off, off)]) s (State.writeFab s q off v) := by
  unfold State.writeFab
  refine Moves.ite (fun hc => ?_) (fun hc => ?_)
  · refine Moves.seq ?_ (State.fabAge_moves ..) (Foot.sub0 (by decide +kernel))
    exact Moves.refl _
  · refine Moves.ite (fun hc => ?_) (fun hc => ?_)
    · refine Moves.seq ?_ (State.flowCmd_moves ..) (Foot.sub0 (by decide +kernel))
      exact Moves.refl _
    · refine Moves.ite (fun hc => ?_) (fun hc => ?_)
      · refine State.locked_moves ?_ (Foot.sub1 (by decide +kernel) (Foot.holds_same (.head _))) (fun x1 h1 => ?_)
        · exact Moves.refl _
        · extract_lets -merge -underBinder +onlyGivenNames x2
          subst x2
          refine Moves.seq ?_ (Moves.upd_fab _ _) (Foot.sub0 (by decide +kernel))
          exact h1
      · refine Moves.ite (fun hc => ?_) (fun hc => ?_)
        · refine Moves.seq ?_ (State.bankWrite_moves ..) (Foot.sub0 (by decide +kernel))
          exact Moves.refl _
        · refine Moves.ite (fun hc => ?_) (fun hc => ?_)
          · refine Moves.seq ?_ (State.bankWrite_moves ..) (Foot.sub0 (by decide +kernel))
            exact Moves.refl _
          · refine Moves.ite (fun hc => ?_) (fun hc => ?_)
            · refine State.locked_moves ?_ (Foot.sub1 (by decide +kernel) (Foot.holds_same (.head _))) (fun x3 h3 => ?_)
              · exact Moves.refl _
              · refine Moves.seq ?_ (State.wrNum_moves ..) (Foot.sub0 (by decide +kernel))
                exact h3
            · refine Moves.ite (fun hc => ?_) (fun hc => ?_)
              · refine Moves.seq ?_ (State.gateCtrl_moves ..) (Foot.sub0 (by decide +kernel))
                exact Moves.refl _
              · refine Moves.ite (fun hc => ?_) (fun hc => ?_)
                · refine State.locked_moves ?_ (Foot.sub1 (by decide +kernel) (Foot.holds_same (.head _))) (fun x4 h4 => ?_)
                  · exact Moves.refl _
                  · refine Moves.seq ?_ (State.wrNum_moves ..) (Foot.sub0 (by decide +kernel))
                    exact h4
                · refine Moves.ite (fun hc => ?_) (fun hc => ?_)
                  · refine Moves.seq ?_ (State.cbStream_moves ..) (Foot.sub0 (by decide +kernel))
                    exact Moves.refl _
                  · refine Moves.seq ?_ (State.storePlain_moves ..) (Foot.sub_at (by decide +kernel) (Foot.own_cons (Foot.holds_same (.tail _ (.head _))) (Foot.own_cons (Foot.holds_same (.head _)) Foot.own_nil)))
                    exact Moves.refl _

def Foot.comIdWrite : Foot := ⟨[], [], [.mem, .evq]⟩

theorem State.comIdWrite_moves (s : State) (q : Requester) (h : Nat) (v : Word) :
    Moves (Foot.comIdWrite.at [(4096 * (pageOf (262240 + 65536 * (h % 2) + 4 * (3 % 4)) / 4096) + 16, 4096 * (pageOf (262240 + 65536 *
      (h % 2) + 4 * (3 % 4)) / 4096) + 16),
      (262240 + 65536 * (h % 2) + 4 * (3 % 4), 262240 + 65536 * (h % 2) + 4 * (3 % 4))]) s (State.comIdWrite s q h v) := by
  unfold State.comIdWrite
  refine State.locked_moves ?_ (Foot.sub1 (by decide +kernel) (Foot.holds_same (.head _))) (fun x1 h1 => ?_)
  · exact Moves.refl _
  · extract_lets -merge -underBinder +onlyGivenNames x2
    refine Moves.let_ x2 ?_ ?_
    · subst x2
      refine Moves.seq ?_ (State.wr_moves _ _ (by first | (dsimp only [R.CP_CTRL_CDATA]; omega) | omega)) (Foot.sub1 (by decide +kernel) (Foot.holds_same (.tail _ (.head _))))
      exact h1
    intro h2
    try clear_value x2
    extract_lets -merge -underBinder +onlyGivenNames x3
    subst x3
    refine Moves.ite (fun hc => ?_) (fun hc => ?_)
    · exact h2
    · refine Moves.seq ?_ (State.wrBytes_moves ..) (Foot.sub0 (by decide +kernel))
      exact h2

def Foot.flipWrite : Foot := ⟨[(0x060010, 0x060010), (0x060044, 0x060048), (0x060050, 0x060050)], [], [.evq]⟩

theorem State.flipWrite_moves (s : State) (q : Requester) (v : Word) : Moves (Foot.flipWrite.at []) s (State.flipWrite s q v) := by
  unfold State.flipWrite
  refine State.locked_moves ?_ (Foot.sub1 (by decide +kernel) (Foot.holds_reg (by decide +kernel))) (fun x1 h1 => ?_)
  · exact Moves.refl _
  · extract_lets -merge -underBinder +onlyGivenNames x2
    subst x2
    extract_lets -merge -underBinder +onlyGivenNames x3
    refine Moves.let_ x3 ?_ ?_
    · subst x3
      refine Moves.seq ?_ (State.putB_moves _ _ _ (by decide)) (Foot.sub1 (by decide +kernel) (Foot.holds_reg (by decide +kernel)))
      exact h1
    intro h3
    try clear_value x3
    extract_lets -merge -underBinder +onlyGivenNames x4
    refine Moves.let_ x4 ?_ ?_
    · subst x4
      refine Moves.ite (fun hc => ?_) (fun hc => ?_)
      · refine Moves.seq ?_ (State.putB_moves _ _ _ (by decide)) (Foot.sub1 (by decide +kernel) (Foot.holds_reg (by decide +kernel)))
        exact h3
      · exact h3
    intro h4
    try clear_value x4
    refine Moves.ite (fun hc => ?_) (fun hc => ?_)
    · refine Moves.seq ?_ (State.wr_moves _ _ (by decide)) (Foot.sub1 (by decide +kernel) (Foot.holds_reg (by decide +kernel)))
      exact h4
    · exact h4

def Foot.bankWriteTo : Foot := ⟨[(0x060010, 0x060010)], [], []⟩

theorem State.bankWriteTo_moves {F : Foot} {r s : State} {b : Nat} {status : Fld} {f : State → State}
    (h :
    Moves F r s) (hF : Foot.Sub (Foot.bankWriteTo.at [(status.off, status.off)]) F) (f_ok : ∀ x , Moves F r x → Moves F r (f x))
      (status_ne : status.off % 4096 ≠ 0x010) : Moves F r (State.bankWriteTo s b status f) := by
  unfold State.bankWriteTo
  refine Moves.ite (fun hc => ?_) (fun hc => ?_)
  · refine Moves.seq ?_ (State.raise_moves ..) ((Foot.sub1 (by decide +kernel) (Foot.holds_reg (by decide +kernel))).trans hF)
    refine Moves.seq ?_ (State.put_moves _ _ _ status_ne) ((Foot.sub1 (by decide +kernel) (Foot.holds_same (.head _))).trans hF)
    exact h
  · refine Moves.ite (fun hc => ?_) (fun hc => ?_)
    · refine Moves.seq ?_ (State.put_moves _ _ _ status_ne) ((Foot.sub1 (by decide +kernel) (Foot.holds_same (.head _))).trans hF)
      exact h
    · refine f_ok _  ?_
      refine Moves.seq ?_ (State.put_moves _ _ _ status_ne) ((Foot.sub1 (by decide +kernel) (Foot.holds_same (.head _))).trans hF)
      exact h

def Foot.nentWrite : Foot := ⟨[(0x060010, 0x060010), (0x060058, 0x06005C), (0x061044, 0x061044)], [], []⟩

theorem State.nentWrite_moves (s : State) (b : Nat) (v : Word) : Moves (Foot.nentWrite.at []) s (State.nentWrite s b v) := by
  unfold State.nentWrite
  refine State.bankWriteTo_moves ?_ (Foot.sub1 (by decide +kernel) (Foot.holds_reg (by decide +kernel))) (fun x1 h1 => ?_) (by decide)
  · exact Moves.refl _
  · refine Moves.seq ?_ (State.put_moves _ _ _ (by (try dsimp only [F.SGW_CTRL_NENT0_NENT, F.SGW_CTRL_NENT1_NENT]); split <;> (try dsimp only) <;> first | decide | omega)) (Foot.sub1 (by decide +kernel) (by (try dsimp only [F.SGW_CTRL_NENT0_NENT, F.SGW_CTRL_NENT1_NENT]); split <;> (try dsimp only) <;> first | exact (Foot.holds_reg (lo := 393304) (hi := 393304) (by decide +kernel)) | exact (Foot.holds_reg (lo := 393308) (hi := 393308) (by decide +kernel))))
    exact h1

def Foot.mapNext : Foot := ⟨[(0x061040, 0x061040)], [], []⟩

theorem State.mapNext_moves (s : State) : Moves (Foot.mapNext.at []) s (State.mapNext s) := by
  unfold State.mapNext
  refine Moves.ite (fun hc => ?_) (fun hc => ?_)
  · refine Moves.seq ?_ (State.put_moves _ _ _ (by decide)) (Foot.sub1 (by decide +kernel) (Foot.holds_reg (by decide +kernel)))
    exact Moves.refl _
  · exact Moves.refl _

def Foot.loadData : Foot := ⟨[], [], []⟩

theorem State.loadData_moves (s : State) (r : Nat → Nat) (a : Nat) (h : ∀ n, r n % 4096 ≠ 0x010) :
    Moves (Foot.loadData.at [(r 0, r 0), (r 1, r 1), (r 2, r 2), (r 3, r 3)]) s (s.loadData r a) := by
  unfold State.loadData
  simp -zeta only [List.foldl_cons, List.foldl_nil]
  refine Moves.seq ?_ (State.wr_moves _ _ (h 3)) (Foot.sub1 (by decide +kernel) (Foot.holds_same (.tail _ (.tail _ (.tail _ (.head _))))))
  refine Moves.seq ?_ (State.wr_moves _ _ (h 2)) (Foot.sub1 (by decide +kernel) (Foot.holds_same (.tail _ (.tail _ (.head _)))))
  refine Moves.seq ?_ (State.wr_moves _ _ (h 1)) (Foot.sub1 (by decide +kernel) (Foot.holds_same (.tail _ (.head _))))
  exact Moves.widen (State.wr_moves _ _ (h 0)) (Foot.sub1 (by decide +kernel) (Foot.holds_same (.head _)))

def Foot.mapCmd : Foot := ⟨[(0x061040, 0x061044), (0x061050, 0x06105C)], [], []⟩

theorem State.mapCmd_moves (s : State) (v : Word) : Moves (Foot.mapCmd.at []) s (State.mapCmd s v) := by
  unfold State.mapCmd
  refine Moves.ite (fun hc => ?_) (fun hc => ?_)
  · refine Moves.seq ?_ (State.mapNext_moves ..) (Foot.sub0 (by decide +kernel))
    refine Moves.seq ?_ (State.put_moves _ _ _ (by decide)) (Foot.sub1 (by decide +kernel) (Foot.holds_reg (by decide +kernel)))
    refine Moves.seq ?_ (State.loadData_moves _ _ _ (fun n => by dsimp only [R.SGW_MAP_DATA]; omega)) (Foot.sub_at (by decide +kernel) (Foot.own_cons (Foot.holds_reg (by decide +kernel)) (Foot.own_cons (Foot.holds_reg (by decide +kernel)) (Foot.own_cons (Foot.holds_reg (by decide +kernel)) (Foot.own_cons (Foot.holds_reg (by decide +kernel)) Foot.own_nil)))))
    exact Moves.refl _
  · exact Moves.refl _

def Foot.mapStore : Foot := ⟨[(0x060010, 0x060010), (0x061040, 0x061044), (0x06105C, 0x06105C)], [], [.mem]⟩

theorem State.mapStore_moves (s : State) (v : Word) : Moves (Foot.mapStore.at []) s (State.mapStore s v) := by
  unfold State.mapStore
  extract_lets -merge -underBinder +onlyGivenNames x1
  subst x1
  refine State.bankWriteTo_moves ?_ (Foot.sub1 (by decide +kernel) (Foot.holds_reg (by decide +kernel))) (fun x2 h2 => ?_) (by decide)
  · refine Moves.seq ?_ (State.wr_moves _ _ (by decide)) (Foot.sub1 (by decide +kernel) (Foot.holds_reg (by decide +kernel)))
    exact Moves.refl _
  · refine Moves.seq ?_ (State.mapNext_moves ..) (Foot.sub0 (by decide +kernel))
    refine Moves.seq ?_ (State.wrBytes_moves ..) (Foot.sub0 (by decide +kernel))
    exact h2

def Foot.rcpNext : Foot := ⟨[(0x063040, 0x063040)], [], []⟩

theorem State.rcpNext_moves (s : State) : Moves (Foot.rcpNext.at []) s (State.rcpNext s) := by
  unfold State.rcpNext
  refine Moves.ite (fun hc => ?_) (fun hc => ?_)
  · refine Moves.seq ?_ (State.put_moves _ _ _ (by decide)) (Foot.sub1 (by decide +kernel) (Foot.holds_reg (by decide +kernel)))
    exact Moves.refl _
  · exact Moves.refl _

def Foot.rcpCmd : Foot := ⟨[(0x063040, 0x063044), (0x063050, 0x06305C)], [], []⟩

theorem State.rcpCmd_moves (s : State) (v : Word) : Moves (Foot.rcpCmd.at []) s (State.rcpCmd s v) := by
  unfold State.rcpCmd
  refine Moves.ite (fun hc => ?_) (fun hc => ?_)
  · refine Moves.seq ?_ (State.rcpNext_moves ..) (Foot.sub0 (by decide +kernel))
    refine Moves.seq ?_ (State.put_moves _ _ _ (by decide)) (Foot.sub1 (by decide +kernel) (Foot.holds_reg (by decide +kernel)))
    refine Moves.seq ?_ (State.loadData_moves _ _ _ (fun n => by dsimp only [R.SGW_RCP_DATA]; omega)) (Foot.sub_at (by decide +kernel) (Foot.own_cons (Foot.holds_reg (by decide +kernel)) (Foot.own_cons (Foot.holds_reg (by decide +kernel)) (Foot.own_cons (Foot.holds_reg (by decide +kernel)) (Foot.own_cons (Foot.holds_reg (by decide +kernel)) Foot.own_nil)))))
    exact Moves.refl _
  · exact Moves.refl _

def Foot.rcpStore : Foot := ⟨[(0x060010, 0x060010), (0x063040, 0x063044), (0x06305C, 0x06305C)], [], [.mem]⟩

theorem State.rcpStore_moves (s : State) (v : Word) : Moves (Foot.rcpStore.at []) s (State.rcpStore s v) := by
  unfold State.rcpStore
  refine State.bankWriteTo_moves ?_ (Foot.sub1 (by decide +kernel) (Foot.holds_reg (by decide +kernel))) (fun x1 h1 => ?_) (by decide)
  · refine Moves.seq ?_ (State.wr_moves _ _ (by decide)) (Foot.sub1 (by decide +kernel) (Foot.holds_reg (by decide +kernel)))
    exact Moves.refl _
  · refine Moves.seq ?_ (State.rcpNext_moves ..) (Foot.sub0 (by decide +kernel))
    refine Moves.seq ?_ (State.wrBytes_moves ..) (Foot.sub0 (by decide +kernel))
    exact h1

def Foot.writeSgw : Foot :=
  ⟨[(0x060010, 0x060010), (0x060044, 0x060048), (0x060050, 0x060050), (0x060058, 0x06005C), (0x061040,
    0x061044), (0x061050, 0x06105C), (0x063040, 0x063044), (0x063050, 0x06305C)], [], [.mem, .evq]⟩

theorem State.writeSgw_moves (s : State) (q : Requester) (off : Nat) (v : Word) :
    Moves (Foot.writeSgw.at [(off, off),
      (4096 * (pageOf off / 4096) + 16, 4096 * (pageOf off / 4096) + 16)]) s (State.writeSgw s q off v) := by
  unfold State.writeSgw
  refine Moves.ite (fun hc => ?_) (fun hc => ?_)
  · refine Moves.seq ?_ (State.flipWrite_moves ..) (Foot.sub0 (by decide +kernel))
    exact Moves.refl _
  · refine Moves.ite (fun hc => ?_) (fun hc => ?_)
    · refine Moves.seq ?_ (State.nentWrite_moves ..) (Foot.sub0 (by decide +kernel))
      exact Moves.refl _
    · refine Moves.ite (fun hc => ?_) (fun hc => ?_)
      · refine Moves.seq ?_ (State.nentWrite_moves ..) (Foot.sub0 (by decide +kernel))
        exact Moves.refl _
      · refine Moves.ite (fun hc => ?_) (fun hc => ?_)
        · refine Moves.seq ?_ (State.mapCmd_moves ..) (Foot.sub0 (by decide +kernel))
          exact Moves.refl _
        · refine Moves.ite (fun hc => ?_) (fun hc => ?_)
          · refine Moves.seq ?_ (State.mapStore_moves ..) (Foot.sub0 (by decide +kernel))
            exact Moves.refl _
          · refine Moves.ite (fun hc => ?_) (fun hc => ?_)
            · refine Moves.seq ?_ (State.rcpCmd_moves ..) (Foot.sub0 (by decide +kernel))
              exact Moves.refl _
            · refine Moves.ite (fun hc => ?_) (fun hc => ?_)
              · refine Moves.seq ?_ (State.rcpStore_moves ..) (Foot.sub0 (by decide +kernel))
                exact Moves.refl _
              · refine Moves.seq ?_ (State.storePlain_moves ..) (Foot.sub_at (by decide +kernel) (Foot.own_cons (Foot.holds_same (.head _)) (Foot.own_cons (Foot.holds_same (.tail _ (.head _))) Foot.own_nil)))
                exact Moves.refl _

def Foot.tmCfgWrite : Foot := ⟨[], [], [.evq, .cans]⟩

theorem State.tmCfgWrite_moves (s : State) (q : Requester) (n : Nat) (v : Word) :
    Moves (Foot.tmCfgWrite.at [(4096 * (pageOf (459008 + 65536 * (n % 16 / 8) + 16 * (n % 8)) / 4096) + 16, 4096 * (pageOf (459008 +
      65536 * (n % 16 / 8) + 16 * (n % 8)) / 4096) + 16),
      (459008 + 65536 * (n % 16 / 8) + 16 * (n % 8), 459008 + 65536 * (n % 16 / 8) + 16 * (n % 8)),
      (459020 + 65536 * (n % 16 / 8) + 16 * (n % 8), 459020 + 65536 * (n % 16 / 8) + 16 * (n % 8)),
      (462944 + 65536 * (n % 16 / 8) + 4096 * (n % 8), 462944 + 65536 * (n % 16 / 8) + 4096 * (n % 8))]) s (State.tmCfgWrite s q n v)
      := by
  unfold State.tmCfgWrite
  refine State.locked_moves ?_ (Foot.sub1 (by decide +kernel) (Foot.holds_same (.head _))) (fun x1 h1 => ?_)
  · exact Moves.refl _
  · extract_lets -merge -underBinder +onlyGivenNames x2
    subst x2
    extract_lets -merge -underBinder +onlyGivenNames x3
    refine Moves.let_ x3 ?_ ?_
    · subst x3
      refine Moves.seq ?_ (State.wr_moves _ _ (by first | (dsimp only [R.CB_CTRL_TM_CFG]; omega) | omega)) (Foot.sub1 (by decide +kernel) (Foot.holds_same (.tail _ (.head _))))
      exact h1
    intro h3
    try clear_value x3
    extract_lets -merge -underBinder +onlyGivenNames x4
    subst x4
    refine Moves.seq ?_ (State.canFollow_moves ..) (Foot.sub_at (by decide +kernel) (Foot.own_cons (Foot.holds_same (.tail _ (.tail _ (.head _)))) (Foot.own_cons (Foot.holds_same (.tail _ (.tail _ (.tail _ (.head _))))) Foot.own_nil)))
    refine Moves.seq ?_ (State.modCan_moves ..) (Foot.sub0 (by decide +kernel))
    exact h3

def Foot.canModeWrite : Foot := ⟨[], [], [.evq]⟩

theorem State.canModeWrite_moves (s : State) (q : Requester) (n : Nat) (v : Word) :
    Moves (Foot.canModeWrite.at [(462912 + 65536 * (n % 16 / 8) + 4096 * (n % 8), 462912 + 65536 * (n % 16 / 8) + 4096 * (n % 8)),
      (4096 * (pageOf (462912 + 65536 * (n % 16 / 8) + 4096 * (n % 8)) / 4096) + 16, 4096 * (pageOf (462912 + 65536 * (n % 16 / 8) +
      4096 * (n % 8)) / 4096) + 16)]) s (State.canModeWrite s q n v) := by
  unfold State.canModeWrite
  refine Moves.seq ?_ (State.storePlain_moves ..) (Foot.sub_at (by decide +kernel) (Foot.own_cons (Foot.holds_same (.head _)) (Foot.own_cons (Foot.holds_same (.tail _ (.head _))) Foot.own_nil)))
  exact Moves.refl _

def Foot.qStep : Foot := ⟨[], [], []⟩

theorem State.qStep_moves (s : State) (n : Nat) (k : Nat) (f : Fld) (f_ne : f.off % 4096 ≠ 0x010) :
    Moves (Foot.qStep.at [(f.off, f.off)]) s (State.qStep s n k f) := by
  unfold State.qStep
  refine Moves.seq ?_ (State.put_moves _ _ _ f_ne) (Foot.sub1 (by decide +kernel) (Foot.holds_same (.head _)))
  exact Moves.refl _

end Sys2Proof.Machine
end

