-- ==== Sys2Proof/Laws/Foot06.lean ====
section
/-!
SUPPORT. What the operations may touch: one footprint and one lemma each.
-/

namespace Sys2Proof.Machine

set_option Elab.async false

def Foot.canDone : Foot := ⟨[], [], [.cans]⟩

theorem State.canDone_moves (s : State) (n : Nat) (k : Nat) (cstat : Nat) (tag : Nat) :
    Moves (Foot.canDone.at []) s (State.canDone s n k cstat tag) := by
  unfold State.canDone
  refine Moves.seq ?_ (State.modCan_moves ..) (Foot.sub0 (by decide +kernel))
  exact Moves.refl _

def Foot.canComplete : Foot := ⟨[], [], [.mem, .cans]⟩

theorem State.canComplete_moves (s : State) (n : Nat) (k : Nat) (cstat : Nat) (attempts : Nat) (ts : Nat) :
    Moves (Foot.canComplete.at [(463108 + 65536 * (n % 16 / 8) + 4096 * (n % 8) + 16 * (k % 16), 463108 + 65536 * (n % 16 / 8) + 4096
      * (n % 8) + 16 * (k % 16)),
      (463112 + 65536 * (n % 16 / 8) + 4096 * (n % 8) + 16 * (k % 16), 463112 + 65536 * (n % 16 / 8) + 4096 * (n % 8) + 16 * (k %
      16)),
      (4096 * ((462848 + 65536 * (n % 16 / 8) + 4096 * (n % 8)) / 4096) + 16, 4096 * ((462848 + 65536 * (n % 16 / 8) + 4096 * (n % 8))
      / 4096) + 16)]) s (State.canComplete s n k cstat attempts ts) := by
  unfold State.canComplete
  extract_lets -merge -underBinder +onlyGivenNames x1
  subst x1
  extract_lets -merge -underBinder +onlyGivenNames x2
  refine Moves.let_ x2 ?_ ?_
  · subst x2
    refine Moves.seq ?_ (State.wrNum_moves ..) (Foot.sub0 (by decide +kernel))
    refine Moves.seq ?_ (State.wrNum_moves ..) (Foot.sub0 (by decide +kernel))
    exact Moves.refl _
  intro h2
  try clear_value x2
  extract_lets -merge -underBinder +onlyGivenNames x3
  refine Moves.let_ x3 ?_ ?_
  · subst x3
    refine Moves.seq ?_ (State.qStep_moves _ _ _ _ (by first | (dsimp only [fDone, R.CB_CAN_QPTR]; omega) | omega)) (Foot.sub1 (by decide +kernel) (Foot.holds_same (.head _)))
    exact h2
  intro h3
  try clear_value x3
  extract_lets -merge -underBinder +onlyGivenNames x4
  refine Moves.let_ x4 ?_ ?_
  · subst x4
    refine Moves.seq ?_ (State.modCan_moves ..) (Foot.sub0 (by decide +kernel))
    exact h3
  intro h4
  try clear_value x4
  extract_lets -merge -underBinder +onlyGivenNames x5
  refine Moves.let_ x5 ?_ ?_
  · subst x5
    refine Moves.ite (fun hc => ?_) (fun hc => ?_)
    · refine Moves.seq ?_ (State.satInc_moves _ _ (by first | (dsimp only [F.CB_CAN_QCNT_LOST]; omega) | omega)) (Foot.sub1 (by decide +kernel) (Foot.holds_same (.tail _ (.head _))))
      exact h4
    · exact h4
  intro h5
  try clear_value x5
  refine Moves.ite (fun hc => ?_) (fun hc => ?_)
  · refine Moves.seq ?_ (State.put_moves _ _ _ (by first | (dsimp only [fGet, R.CB_CAN_QPTR]; omega) | omega)) (Foot.sub1 (by decide +kernel) (Foot.holds_same (.head _)))
    exact h5
  · extract_lets -merge -underBinder +onlyGivenNames x6
    refine Moves.let_ x6 ?_ ?_
    · subst x6
      refine Moves.seq ?_ (State.canDone_moves ..) (Foot.sub0 (by decide +kernel))
      exact h5
    intro h6
    try clear_value x6
    refine Moves.ite (fun hc => ?_) (fun hc => ?_)
    · refine Moves.seq ?_ (State.raise_moves ..) (Foot.sub1 (by decide +kernel) (Foot.holds_same (.tail _ (.tail _ (.head _)))))
      exact h6
    · exact h6

def Foot.canFlush : Foot := ⟨[], [], [.mem, .cans]⟩

theorem State.canFlush_moves (s : State) (n k cstat m : Nat) :
    Moves (Foot.canFlush.at [(463108 + 65536 * (n % 16 / 8) + 4096 * (n % 8) + 16 * (k % 16), 463108 + 65536 * (n % 16 / 8) + 4096 * (n % 8) + 16 * (k % 16)), (463112 + 65536 * (n % 16 / 8) + 4096 * (n % 8) + 16 * (k % 16), 463112 + 65536 * (n % 16 / 8) + 4096 * (n % 8) + 16 * (k % 16)), (4096 * ((462848 + 65536 * (n % 16 / 8) + 4096 * (n % 8)) / 4096) + 16, 4096 * ((462848 + 65536 * (n % 16 / 8) + 4096 * (n % 8)) / 4096) + 16)]) s (s.canFlush n k cstat m) := by
  induction m generalizing s with
  | zero => exact Moves.refl _
  | succ m ih =>
    simp only [State.canFlush]
    refine Moves.seq ?_ (ih _) Foot.sub_self
    exact Moves.widen (State.canComplete_moves ..) (Foot.sub_at (by decide +kernel) (Foot.own_cons (Foot.holds_same (.head _)) (Foot.own_cons (Foot.holds_same (.tail _ (.head _))) (Foot.own_cons (Foot.holds_same (.tail _ (.tail _ (.head _)))) Foot.own_nil))))

def Foot.canFlushAll : Foot := ⟨[], [], [.mem, .cans]⟩

theorem State.canFlushAll_moves (s : State) (n : Nat) (k : Nat) (cstat : Nat) :
    Moves (Foot.canFlushAll.at [(463108 + 65536 * (n % 16 / 8) + 4096 * (n % 8) + 16 * (k % 16), 463108 + 65536 * (n % 16 / 8) + 4096
      * (n % 8) + 16 * (k % 16)),
      (463112 + 65536 * (n % 16 / 8) + 4096 * (n % 8) + 16 * (k % 16), 463112 + 65536 * (n % 16 / 8) + 4096 * (n % 8) + 16 * (k %
      16)),
      (4096 * ((462848 + 65536 * (n % 16 / 8) + 4096 * (n % 8)) / 4096) + 16, 4096 * ((462848 + 65536 * (n % 16 / 8) + 4096 * (n % 8))
      / 4096) + 16)]) s (State.canFlushAll s n k cstat) := by
  unfold State.canFlushAll
  refine Moves.seq ?_ (State.canFlush_moves ..) (Foot.sub_at (by decide +kernel) (Foot.own_cons (Foot.holds_same (.head _)) (Foot.own_cons (Foot.holds_same (.tail _ (.head _))) (Foot.own_cons (Foot.holds_same (.tail _ (.tail _ (.head _)))) Foot.own_nil))))
  exact Moves.refl _

def Foot.canAbort : Foot := ⟨[], [], [.mem, .cans]⟩

theorem State.canAbort_moves (s : State) (n : Nat) (k : Nat) :
    Moves (Foot.canAbort.at [(463108 + 65536 * (n % 16 / 8) + 4096 * (n % 8) + 16 * (k % 16), 463108 + 65536 * (n % 16 / 8) + 4096 *
      (n % 8) + 16 * (k % 16)),
      (463112 + 65536 * (n % 16 / 8) + 4096 * (n % 8) + 16 * (k % 16), 463112 + 65536 * (n % 16 / 8) + 4096 * (n % 8) + 16 * (k %
      16)),
      (4096 * ((462848 + 65536 * (n % 16 / 8) + 4096 * (n % 8)) / 4096) + 16, 4096 * ((462848 + 65536 * (n % 16 / 8) + 4096 * (n % 8))
      / 4096) + 16)]) s (State.canAbort s n k) := by
  unfold State.canAbort
  refine Moves.ite (fun hc => ?_) (fun hc => ?_)
  · exact Moves.refl _
  · split
    · refine Moves.ite (fun hc => ?_) (fun hc => ?_)
      · refine Moves.seq ?_ (State.modCan_moves ..) (Foot.sub0 (by decide +kernel))
        exact Moves.refl _
      · refine Moves.seq ?_ (State.canFlushAll_moves ..) (Foot.sub_at (by decide +kernel) (Foot.own_cons (Foot.holds_same (.head _)) (Foot.own_cons (Foot.holds_same (.tail _ (.head _))) (Foot.own_cons (Foot.holds_same (.tail _ (.tail _ (.head _)))) Foot.own_nil))))
        exact Moves.refl _
    · refine Moves.seq ?_ (State.canFlushAll_moves ..) (Foot.sub_at (by decide +kernel) (Foot.own_cons (Foot.holds_same (.head _)) (Foot.own_cons (Foot.holds_same (.tail _ (.head _))) (Foot.own_cons (Foot.holds_same (.tail _ (.tail _ (.head _)))) Foot.own_nil))))
      exact Moves.refl _

def Foot.canRecover : Foot := ⟨[], [], []⟩

theorem State.canRecover_moves (s : State) (n : Nat) :
    Moves (Foot.canRecover.at [(462916 + 65536 * (n % 16 / 8) + 4096 * (n % 8), 462916 + 65536 * (n % 16 / 8) + 4096 * (n % 8))]) s
      (State.canRecover s n) := by
  unfold State.canRecover
  refine Moves.ite (fun hc => ?_) (fun hc => ?_)
  · refine Moves.seq ?_ (State.put_moves _ _ _ (by first | (dsimp only [F.CB_CAN_STAT_ACT]; omega) | omega)) (Foot.sub1 (by decide +kernel) (Foot.holds_same (.head _)))
    exact Moves.refl _
  · exact Moves.refl _

def Foot.canCmd : Foot := ⟨[], [], [.mem, .cans]⟩

theorem State.canCmd_moves (s : State) (n : Nat) (v : Word) :
    Moves (Foot.canCmd.at [(463108 + 65536 * (n % 16 / 8) + 4096 * (n % 8) + 16 * 0, 463108 + 65536 * (n % 16 / 8) + 4096 * (n % 8) +
      16 * 15), (463112 + 65536 * (n % 16 / 8) + 4096 * (n % 8) + 16 * 0, 463112 + 65536 * (n % 16 / 8) + 4096 * (n % 8) + 16 * 15),
      (4096 * ((462848 + 65536 * (n % 16 / 8) + 4096 * (n % 8)) / 4096) + 16, 4096 * ((462848 + 65536 * (n % 16 / 8) + 4096 * (n % 8))
      / 4096) + 16),
      (462916 + 65536 * (n % 16 / 8) + 4096 * (n % 8), 462916 + 65536 * (n % 16 / 8) + 4096 * (n % 8))]) s (State.canCmd s n v) := by
  unfold State.canCmd
  extract_lets -merge -underBinder +onlyGivenNames x1
  refine Moves.let_ x1 ?_ ?_
  · subst x1
    refine Moves.foldl _ (fun x2 _ h2 => ?_) _ ?_
    · refine Moves.seq ?_ (State.canAbort_moves ..) (Foot.sub_at (by decide +kernel) (Foot.own_cons (Foot.holds_own (.head _) (by first | omega | (dsimp only; omega)) (by first | omega | (dsimp only; omega))) (Foot.own_cons (Foot.holds_own (.tail _ (.head _)) (by first | omega | (dsimp only; omega)) (by first | omega | (dsimp only; omega))) (Foot.own_cons (Foot.holds_same (.tail _ (.tail _ (.head _)))) Foot.own_nil))))
      exact h2
    · exact Moves.refl _
  intro h1
  try clear_value x1
  refine Moves.ite (fun hc => ?_) (fun hc => ?_)
  · refine Moves.seq ?_ (State.canRecover_moves ..) (Foot.sub1 (by decide +kernel) (Foot.holds_same (.tail _ (.tail _ (.tail _ (.head _))))))
    exact h1
  · exact h1

def Foot.qWithdraw : Foot := ⟨[], [], [.cans]⟩

theorem State.qWithdraw_moves (s : State) (n : Nat) (k : Nat) :
    Moves (Foot.qWithdraw.at [(463108 + 65536 * (n % 16 / 8) + 4096 * (n % 8) + 16 * (k % 16), 463108 + 65536 * (n % 16 / 8) + 4096 *
      (n % 8) + 16 * (k % 16))]) s (State.qWithdraw s n k) := by
  unfold State.qWithdraw
  refine Moves.seq ?_ (State.modCan_moves ..) (Foot.sub0 (by decide +kernel))
  refine Moves.seq ?_ (State.wr_moves _ _ (by first | (dsimp only [R.CB_CAN_QPTR]; omega) | omega)) (Foot.sub1 (by decide +kernel) (Foot.holds_same (.head _)))
  exact Moves.refl _

def Foot.qcfgWrite : Foot := ⟨[], [], [.evq, .cans]⟩

theorem State.qcfgWrite_moves (s : State) (q : Requester) (n : Nat) (k : Nat) (v : Word) :
    Moves (Foot.qcfgWrite.at [(4096 * (pageOf (463104 + 65536 * (n % 16 / 8) + 4096 * (n % 8) + 16 * (k % 16)) / 4096) + 16, 4096 *
      (pageOf (463104 + 65536 * (n % 16 / 8) + 4096 * (n % 8) + 16 * (k % 16)) / 4096) + 16),
      (4096 * ((462848 + 65536 * (n % 16 / 8) + 4096 * (n % 8)) / 4096) + 16, 4096 * ((462848 + 65536 * (n % 16 / 8) + 4096 * (n % 8))
      / 4096) + 16),
      (463104 + 65536 * (n % 16 / 8) + 4096 * (n % 8) + 16 * (k % 16), 463104 + 65536 * (n % 16 / 8) + 4096 * (n % 8) + 16 * (k %
      16)),
      (463108 + 65536 * (n % 16 / 8) + 4096 * (n % 8) + 16 * (k % 16), 463108 + 65536 * (n % 16 / 8) + 4096 * (n % 8) + 16 * (k %
      16))]) s (State.qcfgWrite s q n k v) := by
  unfold State.qcfgWrite
  refine State.locked_moves ?_ (Foot.sub1 (by decide +kernel) (Foot.holds_same (.head _))) (fun x1 h1 => ?_)
  · exact Moves.refl _
  · extract_lets -merge -underBinder +onlyGivenNames x2
    subst x2
    extract_lets -merge -underBinder +onlyGivenNames x3
    subst x3
    refine Moves.ite (fun hc => ?_) (fun hc => ?_)
    · refine Moves.ite (fun hc => ?_) (fun hc => ?_)
      · refine Moves.seq ?_ (State.raise_moves ..) (Foot.sub1 (by decide +kernel) (Foot.holds_same (.tail _ (.head _))))
        exact h1
      · extract_lets -merge -underBinder +onlyGivenNames x4
        refine Moves.let_ x4 ?_ ?_
        · subst x4
          refine Moves.seq ?_ (State.wr_moves _ _ (by first | (dsimp only [R.CB_CAN_QCFG]; omega) | omega)) (Foot.sub1 (by decide +kernel) (Foot.holds_same (.tail _ (.tail _ (.head _)))))
          exact h1
        intro h4
        try clear_value x4
        refine Moves.ite (fun hc => ?_) (fun hc => ?_)
        · exact h4
        · refine Moves.ite (fun hc => ?_) (fun hc => ?_)
          · refine Moves.seq ?_ (State.modCan_moves ..) (Foot.sub0 (by decide +kernel))
            exact h4
          · refine Moves.seq ?_ (State.qWithdraw_moves ..) (Foot.sub1 (by decide +kernel) (Foot.holds_same (.tail _ (.tail _ (.tail _ (.head _))))))
            exact h4
    · refine Moves.ite (fun hc => ?_) (fun hc => ?_)
      · refine Moves.ite (fun hc => ?_) (fun hc => ?_)
        · refine Moves.seq ?_ (State.raise_moves ..) (Foot.sub1 (by decide +kernel) (Foot.holds_same (.tail _ (.head _))))
          refine Moves.seq ?_ (State.wr_moves _ _ (by first | (dsimp only [R.CB_CAN_QCFG]; omega) | omega)) (Foot.sub1 (by decide +kernel) (Foot.holds_same (.tail _ (.tail _ (.head _)))))
          exact h1
        · extract_lets -merge -underBinder +onlyGivenNames x5
          refine Moves.let_ x5 ?_ ?_
          · subst x5
            refine Moves.seq ?_ (State.qWithdraw_moves ..) (Foot.sub1 (by decide +kernel) (Foot.holds_same (.tail _ (.tail _ (.tail _ (.head _))))))
            refine Moves.seq ?_ (State.wr_moves _ _ (by first | (dsimp only [R.CB_CAN_QCFG]; omega) | omega)) (Foot.sub1 (by decide +kernel) (Foot.holds_same (.tail _ (.tail _ (.head _)))))
            exact h1
          intro h5
          try clear_value x5
          refine Moves.seq ?_ (State.modCan_moves ..) (Foot.sub0 (by decide +kernel))
          exact h5
      · refine Moves.seq ?_ (State.wr_moves _ _ (by first | (dsimp only [R.CB_CAN_QCFG]; omega) | omega)) (Foot.sub1 (by decide +kernel) (Foot.holds_same (.tail _ (.tail _ (.head _)))))
        exact h1

def Foot.canMuted : Foot := ⟨[], [], [.mem, .cans]⟩

theorem State.canMuted_moves (s : State) (n : Nat) :
    Moves (Foot.canMuted.at [(463108 + 65536 * (n % 16 / 8) + 4096 * (n % 8) + 16 * 0, 463108 + 65536 * (n % 16 / 8) + 4096 * (n % 8)
      + 16 * 15),
      (463112 + 65536 * (n % 16 / 8) + 4096 * (n % 8) + 16 * 0, 463112 + 65536 * (n % 16 / 8) + 4096 * (n % 8) + 16 * 15),
      (4096 * ((462848 + 65536 * (n % 16 / 8) + 4096 * (n % 8)) / 4096) + 16, 4096 * ((462848 + 65536 * (n % 16 / 8) + 4096 * (n % 8))
      / 4096) + 16)]) s (State.canMuted s n) := by
  unfold State.canMuted
  refine Moves.ite (fun hc => ?_) (fun hc => ?_)
  · exact Moves.refl _
  · refine Moves.foldl _ (fun x1 _ h1 => ?_) _ ?_
    · refine Moves.seq ?_ (State.canFlushAll_moves ..) (Foot.sub_at (by decide +kernel) (Foot.own_cons (Foot.holds_own (.head _) (by first | omega | (dsimp only; omega)) (by first | omega | (dsimp only; omega))) (Foot.own_cons (Foot.holds_own (.tail _ (.head _)) (by first | omega | (dsimp only; omega)) (by first | omega | (dsimp only; omega))) (Foot.own_cons (Foot.holds_same (.tail _ (.tail _ (.head _)))) Foot.own_nil))))
      exact h1
    · exact Moves.refl _

def Foot.qptrWrite : Foot := ⟨[], [], [.mem, .cans]⟩

theorem State.qptrWrite_moves (s : State) (q : Requester) (n : Nat) (k : Nat) (v : Word) :
    Moves (Foot.qptrWrite.at [(4096 * ((462848 + 65536 * (n % 16 / 8) + 4096 * (n % 8)) / 4096) + 16, 4096 * ((462848 + 65536 * (n %
      16 / 8) + 4096 * (n % 8)) / 4096) + 16),
      (463108 + 65536 * (n % 16 / 8) + 4096 * (n % 8) + 16 * (k % 16), 463108 + 65536 * (n % 16 / 8) + 4096 * (n % 8) + 16 * (k %
      16)), (463108 + 65536 * (n % 16 / 8) + 4096 * (n % 8) + 16 * 0, 463108 + 65536 * (n % 16 / 8) + 4096 * (n % 8) + 16 * 15),
      (463112 + 65536 * (n % 16 / 8) + 4096 * (n % 8) + 16 * 0, 463112 + 65536 * (n % 16 / 8) + 4096 * (n % 8) + 16 * 15)]) s
      (State.qptrWrite s q n k v) := by
  unfold State.qptrWrite
  extract_lets -merge -underBinder +onlyGivenNames x1
  subst x1
  extract_lets -merge -underBinder +onlyGivenNames x2
  subst x2
  extract_lets -merge -underBinder +onlyGivenNames x3
  subst x3
  extract_lets -merge -underBinder +onlyGivenNames x4
  subst x4
  extract_lets -merge -underBinder +onlyGivenNames x5
  subst x5
  extract_lets -merge -underBinder +onlyGivenNames x6
  refine Moves.let_ x6 ?_ ?_
  · subst x6
    refine Moves.seq ?_ (State.raise_moves ..) (Foot.sub1 (by decide +kernel) (Foot.holds_same (.head _)))
    exact Moves.refl _
  intro h6
  try clear_value x6
  refine Moves.ite (fun hc => ?_) (fun hc => ?_)
  · exact h6
  · refine Moves.ite (fun hc => ?_) (fun hc => ?_)
    · refine Moves.ite (fun hc => ?_) (fun hc => ?_)
      · exact h6
      · refine Moves.seq ?_ (State.put_moves _ _ _ (by first | (dsimp only [fGet, R.CB_CAN_QPTR]; omega) | omega)) (Foot.sub1 (by decide +kernel) (Foot.holds_same (.tail _ (.head _))))
        exact Moves.refl _
    · refine Moves.ite (fun hc => ?_) (fun hc => ?_)
      · exact h6
      · refine Moves.seq ?_ (State.canMuted_moves ..) (Foot.sub_at (by decide +kernel) (Foot.own_cons (Foot.holds_same (.tail _ (.tail _ (.head _)))) (Foot.own_cons (Foot.holds_same (.tail _ (.tail _ (.tail _ (.head _))))) (Foot.own_cons (Foot.holds_same (.head _)) Foot.own_nil))))
        refine Moves.seq ?_ (State.put_moves _ _ _ (by first | (dsimp only [fPut, R.CB_CAN_QPTR]; omega) | omega)) (Foot.sub1 (by decide +kernel) (Foot.holds_same (.tail _ (.head _))))
        refine Moves.seq ?_ (State.put_moves _ _ _ (by first | (dsimp only [fGet, R.CB_CAN_QPTR]; omega) | omega)) (Foot.sub1 (by decide +kernel) (Foot.holds_same (.tail _ (.head _))))
        exact Moves.refl _

def Foot.writeCb : Foot := ⟨[], [], [.mem, .evq, .cans]⟩

theorem State.writeCb_moves (s : State) (q : Requester) (off : Nat) (v : Word) :
    Moves (Foot.writeCb.at [(4096 * (pageOf (459008 + 65536 * ((8 * (islandOf off - 7) + (off % 4096 - 256) / 16) % 16 / 8) + 16 * ((8
      * (islandOf off - 7) + (off % 4096 - 256) / 16) % 8)) / 4096) + 16, 4096 * (pageOf (459008 + 65536 * ((8 * (islandOf off - 7) +
      (off % 4096 - 256) / 16) % 16 / 8) + 16 * ((8 * (islandOf off - 7) + (off % 4096 - 256) / 16) % 8)) / 4096) + 16),
      (459008 + 65536 * ((8 * (islandOf off - 7) + (off % 4096 - 256) / 16) % 16 / 8) + 16 * ((8 * (islandOf off - 7) + (off % 4096 -
      256) / 16) % 8), 459008 + 65536 * ((8 * (islandOf off - 7) + (off % 4096 - 256) / 16) % 16 / 8) + 16 * ((8 * (islandOf off - 7)
      + (off % 4096 - 256) / 16) % 8)),
      (459020 + 65536 * ((8 * (islandOf off - 7) + (off % 4096 - 256) / 16) % 16 / 8) + 16 * ((8 * (islandOf off - 7) + (off % 4096 -
      256) / 16) % 8), 459020 + 65536 * ((8 * (islandOf off - 7) + (off % 4096 - 256) / 16) % 16 / 8) + 16 * ((8 * (islandOf off - 7)
      + (off % 4096 - 256) / 16) % 8)),
      (462944 + 65536 * ((8 * (islandOf off - 7) + (off % 4096 - 256) / 16) % 16 / 8) + 4096 * ((8 * (islandOf off - 7) + (off % 4096
      - 256) / 16) % 8), 462944 + 65536 * ((8 * (islandOf off - 7) + (off % 4096 - 256) / 16) % 16 / 8) + 4096 * ((8 * (islandOf off -
      7) + (off % 4096 - 256) / 16) % 8)), (off, off), (4096 * (pageOf off / 4096) + 16, 4096 * (pageOf off / 4096) + 16),
      (462912 + 65536 * ((8 * (islandOf off - 7) + blockOf off - 1) % 16 / 8) + 4096 * ((8 * (islandOf off - 7) + blockOf off - 1) %
      8), 462912 + 65536 * ((8 * (islandOf off - 7) + blockOf off - 1) % 16 / 8) + 4096 * ((8 * (islandOf off - 7) + blockOf off - 1)
      % 8)),
      (4096 * (pageOf (462912 + 65536 * ((8 * (islandOf off - 7) + blockOf off - 1) % 16 / 8) + 4096 * ((8 * (islandOf off - 7) +
      blockOf off - 1) % 8)) / 4096) + 16, 4096 * (pageOf (462912 + 65536 * ((8 * (islandOf off - 7) + blockOf off - 1) % 16 / 8) +
      4096 * ((8 * (islandOf off - 7) + blockOf off - 1) % 8)) / 4096) + 16),
      (463108 + 65536 * ((8 * (islandOf off - 7) + blockOf off - 1) % 16 / 8) + 4096 * ((8 * (islandOf off - 7) + blockOf off - 1) %
      8) + 16 * 0, 463108 + 65536 * ((8 * (islandOf off - 7) + blockOf off - 1) % 16 / 8) + 4096 * ((8 * (islandOf off - 7) + blockOf
      off - 1) % 8) + 16 * 15),
      (463112 + 65536 * ((8 * (islandOf off - 7) + blockOf off - 1) % 16 / 8) + 4096 * ((8 * (islandOf off - 7) + blockOf off - 1) %
      8) + 16 * 0, 463112 + 65536 * ((8 * (islandOf off - 7) + blockOf off - 1) % 16 / 8) + 4096 * ((8 * (islandOf off - 7) + blockOf
      off - 1) % 8) + 16 * 15),
      (4096 * ((462848 + 65536 * ((8 * (islandOf off - 7) + blockOf off - 1) % 16 / 8) + 4096 * ((8 * (islandOf off - 7) + blockOf off
      - 1) % 8)) / 4096) + 16, 4096 * ((462848 + 65536 * ((8 * (islandOf off - 7) + blockOf off - 1) % 16 / 8) + 4096 * ((8 *
      (islandOf off - 7) + blockOf off - 1) % 8)) / 4096) + 16),
      (462916 + 65536 * ((8 * (islandOf off - 7) + blockOf off - 1) % 16 / 8) + 4096 * ((8 * (islandOf off - 7) + blockOf off - 1) %
      8), 462916 + 65536 * ((8 * (islandOf off - 7) + blockOf off - 1) % 16 / 8) + 4096 * ((8 * (islandOf off - 7) + blockOf off - 1)
      % 8)),
      (459020 + 65536 * ((8 * (islandOf off - 7) + blockOf off - 1) % 16 / 8) + 16 * ((8 * (islandOf off - 7) + blockOf off - 1) % 8),
      459020 + 65536 * ((8 * (islandOf off - 7) + blockOf off - 1) % 16 / 8) + 16 * ((8 * (islandOf off - 7) + blockOf off - 1) % 8)),
      (462944 + 65536 * ((8 * (islandOf off - 7) + blockOf off - 1) % 16 / 8) + 4096 * ((8 * (islandOf off - 7) + blockOf off - 1) %
      8), 462944 + 65536 * ((8 * (islandOf off - 7) + blockOf off - 1) % 16 / 8) + 4096 * ((8 * (islandOf off - 7) + blockOf off - 1)
      % 8)),
      (4096 * (pageOf (463104 + 65536 * ((8 * (islandOf off - 7) + blockOf off - 1) % 16 / 8) + 4096 * ((8 * (islandOf off - 7) +
      blockOf off - 1) % 8) + 16 * ((off % 4096 - 256) / 16 % 16)) / 4096) + 16, 4096 * (pageOf (463104 + 65536 * ((8 * (islandOf off
      - 7) + blockOf off - 1) % 16 / 8) + 4096 * ((8 * (islandOf off - 7) + blockOf off - 1) % 8) + 16 * ((off % 4096 - 256) / 16 %
      16)) / 4096) + 16),
      (463104 + 65536 * ((8 * (islandOf off - 7) + blockOf off - 1) % 16 / 8) + 4096 * ((8 * (islandOf off - 7) + blockOf off - 1) %
      8) + 16 * ((off % 4096 - 256) / 16 % 16), 463104 + 65536 * ((8 * (islandOf off - 7) + blockOf off - 1) % 16 / 8) + 4096 * ((8 *
      (islandOf off - 7) + blockOf off - 1) % 8) + 16 * ((off % 4096 - 256) / 16 % 16)),
      (463108 + 65536 * ((8 * (islandOf off - 7) + blockOf off - 1) % 16 / 8) + 4096 * ((8 * (islandOf off - 7) + blockOf off - 1) %
      8) + 16 * ((off % 4096 - 256) / 16 % 16), 463108 + 65536 * ((8 * (islandOf off - 7) + blockOf off - 1) % 16 / 8) + 4096 * ((8 *
      (islandOf off - 7) + blockOf off - 1) % 8) + 16 * ((off % 4096 - 256) / 16 % 16)),
      (463108 + 65536 * ((8 * (islandOf off - 7) + blockOf off - 1) % 16 / 8) + 4096 * ((8 * (islandOf off - 7) + blockOf off - 1) %
      8) + 16 * ((off % 4096 - 260) / 16 % 16), 463108 + 65536 * ((8 * (islandOf off - 7) + blockOf off - 1) % 16 / 8) + 4096 * ((8 *
      (islandOf off - 7) + blockOf off - 1) % 8) + 16 * ((off % 4096 - 260) / 16 % 16))]) s (State.writeCb s q off v) := by
  unfold State.writeCb
  extract_lets -merge -underBinder +onlyGivenNames x1
  subst x1
  extract_lets -merge -underBinder +onlyGivenNames x2
  subst x2
  refine Moves.ite (fun hc => ?_) (fun hc => ?_)
  · refine Moves.ite (fun hc => ?_) (fun hc => ?_)
    · refine Moves.seq ?_ (State.tmCfgWrite_moves ..) (Foot.sub_at (by decide +kernel) (Foot.own_cons (Foot.holds_same (.head _)) (Foot.own_cons (Foot.holds_same (.tail _ (.head _))) (Foot.own_cons (Foot.holds_same (.tail _ (.tail _ (.head _)))) (Foot.own_cons (Foot.holds_same (.tail _ (.tail _ (.tail _ (.head _))))) Foot.own_nil)))))
      exact Moves.refl _
    · refine Moves.seq ?_ (State.storePlain_moves ..) (Foot.sub_at (by decide +kernel) (Foot.own_cons (Foot.holds_same (.tail _ (.tail _ (.tail _ (.tail _ (.head _)))))) (Foot.own_cons (Foot.holds_same (.tail _ (.tail _ (.tail _ (.tail _ (.tail _ (.head _))))))) Foot.own_nil)))
      exact Moves.refl _
  · extract_lets -merge -underBinder +onlyGivenNames x3
    subst x3
    refine Moves.ite (fun hc => ?_) (fun hc => ?_)
    · refine Moves.seq ?_ (State.canModeWrite_moves ..) (Foot.sub_at (by decide +kernel) (Foot.own_cons (Foot.holds_same (.tail _ (.tail _ (.tail _ (.tail _ (.tail _ (.tail _ (.head _)))))))) (Foot.own_cons (Foot.holds_same (.tail _ (.tail _ (.tail _ (.tail _ (.tail _ (.tail _ (.tail _ (.head _))))))))) Foot.own_nil)))
      exact Moves.refl _
    · refine Moves.ite (fun hc => ?_) (fun hc => ?_)
      · refine Moves.seq ?_ (State.canCmd_moves ..) (Foot.sub_at (by decide +kernel) (Foot.own_cons (Foot.holds_same (.tail _ (.tail _ (.tail _ (.tail _ (.tail _ (.tail _ (.tail _ (.tail _ (.head _)))))))))) (Foot.own_cons (Foot.holds_same (.tail _ (.tail _ (.tail _ (.tail _ (.tail _ (.tail _ (.tail _ (.tail _ (.tail _ (.head _))))))))))) (Foot.own_cons (Foot.holds_same (.tail _ (.tail _ (.tail _ (.tail _ (.tail _ (.tail _ (.tail _ (.tail _ (.tail _ (.tail _ (.head _)))))))))))) (Foot.own_cons (Foot.holds_same (.tail _ (.tail _ (.tail _ (.tail _ (.tail _ (.tail _ (.tail _ (.tail _ (.tail _ (.tail _ (.tail _ (.head _))))))))))))) Foot.own_nil)))))
        exact Moves.refl _
      · refine Moves.ite (fun hc => ?_) (fun hc => ?_)
        · refine Moves.seq ?_ (State.canFollow_moves ..) (Foot.sub_at (by decide +kernel) (Foot.own_cons (Foot.holds_same (.tail _ (.tail _ (.tail _ (.tail _ (.tail _ (.tail _ (.tail _ (.tail _ (.tail _ (.tail _ (.tail _ (.tail _ (.head _)))))))))))))) (Foot.own_cons (Foot.holds_same (.tail _ (.tail _ (.tail _ (.tail _ (.tail _ (.tail _ (.tail _ (.tail _ (.tail _ (.tail _ (.tail _ (.tail _ (.tail _ (.head _))))))))))))))) Foot.own_nil)))
          refine Moves.seq ?_ (State.storePlain_moves ..) (Foot.sub_at (by decide +kernel) (Foot.own_cons (Foot.holds_same (.tail _ (.tail _ (.tail _ (.tail _ (.head _)))))) (Foot.own_cons (Foot.holds_same (.tail _ (.tail _ (.tail _ (.tail _ (.tail _ (.head _))))))) Foot.own_nil)))
          exact Moves.refl _
        · refine Moves.ite (fun hc => ?_) (fun hc => ?_)
          · refine Moves.seq ?_ (State.qcfgWrite_moves ..) (Foot.sub_at (by decide +kernel) (Foot.own_cons (Foot.holds_same (.tail _ (.tail _ (.tail _ (.tail _ (.tail _ (.tail _ (.tail _ (.tail _ (.tail _ (.tail _ (.tail _ (.tail _ (.tail _ (.tail _ (.head _)))))))))))))))) (Foot.own_cons (Foot.holds_same (.tail _ (.tail _ (.tail _ (.tail _ (.tail _ (.tail _ (.tail _ (.tail _ (.tail _ (.tail _ (.head _)))))))))))) (Foot.own_cons (Foot.holds_same (.tail _ (.tail _ (.tail _ (.tail _ (.tail _ (.tail _ (.tail _ (.tail _ (.tail _ (.tail _ (.tail _ (.tail _ (.tail _ (.tail _ (.tail _ (.head _))))))))))))))))) (Foot.own_cons (Foot.holds_same (.tail _ (.tail _ (.tail _ (.tail _ (.tail _ (.tail _ (.tail _ (.tail _ (.tail _ (.tail _ (.tail _ (.tail _ (.tail _ (.tail _ (.tail _ (.tail _ (.head _)))))))))))))))))) Foot.own_nil)))))
            exact Moves.refl _
          · refine Moves.ite (fun hc => ?_) (fun hc => ?_)
            · refine Moves.seq ?_ (State.qptrWrite_moves ..) (Foot.sub_at (by decide +kernel) (Foot.own_cons (Foot.holds_same (.tail _ (.tail _ (.tail _ (.tail _ (.tail _ (.tail _ (.tail _ (.tail _ (.tail _ (.tail _ (.head _)))))))))))) (Foot.own_cons (Foot.holds_same (.tail _ (.tail _ (.tail _ (.tail _ (.tail _ (.tail _ (.tail _ (.tail _ (.tail _ (.tail _ (.tail _ (.tail _ (.tail _ (.tail _ (.tail _ (.tail _ (.tail _ (.head _))))))))))))))))))) (Foot.own_cons (Foot.holds_same (.tail _ (.tail _ (.tail _ (.tail _ (.tail _ (.tail _ (.tail _ (.tail _ (.head _)))))))))) (Foot.own_cons (Foot.holds_same (.tail _ (.tail _ (.tail _ (.tail _ (.tail _ (.tail _ (.tail _ (.tail _ (.tail _ (.head _))))))))))) Foot.own_nil)))))
              exact Moves.refl _
            · refine Moves.seq ?_ (State.storePlain_moves ..) (Foot.sub_at (by decide +kernel) (Foot.own_cons (Foot.holds_same (.tail _ (.tail _ (.tail _ (.tail _ (.head _)))))) (Foot.own_cons (Foot.holds_same (.tail _ (.tail _ (.tail _ (.tail _ (.tail _ (.head _))))))) Foot.own_nil)))
              exact Moves.refl _

def Foot.timCmd : Foot :=
  ⟨[(0x090010, 0x090010), (0x090064, 0x090064), (0x091010, 0x091010), (0x091050, 0x091050), (0x091058,
    0x091058), (0x093060, 0x093060)], [], [.evq, .tim]⟩

theorem State.timCmd_moves (s : State) (q : Requester) (v : Word) : Moves (Foot.timCmd.at []) s (State.timCmd s q v) := by
  unfold State.timCmd
  refine State.locked_moves ?_ (Foot.sub1 (by decide +kernel) (Foot.holds_reg (by decide +kernel))) (fun x1 h1 => ?_)
  · exact Moves.refl _
  · refine Moves.ite (fun hc => ?_) (fun hc => ?_)
    · extract_lets -merge -underBinder +onlyGivenNames x2
      subst x2
      refine Moves.seq ?_ (State.wallStep_moves ..) (Foot.sub0 (by decide +kernel))
      refine Moves.seq ?_ (State.timEnter_moves ..) (Foot.sub0 (by decide +kernel))
      refine Moves.seq ?_ (State.wr_moves _ _ (by decide)) (Foot.sub1 (by decide +kernel) (Foot.holds_reg (by decide +kernel)))
      refine Moves.seq ?_ (Moves.upd_tim _ _) (Foot.sub0 (by decide +kernel))
      exact h1
    · exact h1

def Foot.tsCopy : Foot := ⟨[(0x092040, 0x092050)], [], []⟩

theorem State.tsCopy_moves (s : State) (v : Word) : Moves (Foot.tsCopy.at []) s (State.tsCopy s v) := by
  unfold State.tsCopy
  extract_lets -merge -underBinder +onlyGivenNames x1
  refine Moves.let_ x1 ?_ ?_
  · subst x1
    refine Moves.seq ?_ (State.wr_moves _ _ (by decide)) (Foot.sub1 (by decide +kernel) (Foot.holds_reg (by decide +kernel)))
    exact Moves.refl _
  intro h1
  try clear_value x1
  extract_lets -merge -underBinder +onlyGivenNames x2
  subst x2
  split
  · exact h1
  · extract_lets -merge -underBinder +onlyGivenNames x3
    subst x3
    extract_lets -merge -underBinder +onlyGivenNames x4
    refine Moves.let_ x4 ?_ ?_
    · subst x4
      refine Moves.seq ?_ (State.wr_moves _ _ (by decide)) (Foot.sub1 (by decide +kernel) (Foot.holds_reg (by decide +kernel)))
      refine Moves.seq ?_ (State.wr_moves _ _ (by decide)) (Foot.sub1 (by decide +kernel) (Foot.holds_reg (by decide +kernel)))
      exact h1
    intro h4
    try clear_value x4
    refine Moves.seq ?_ (State.wr_moves _ _ (by decide)) (Foot.sub1 (by decide +kernel) (Foot.holds_reg (by decide +kernel)))
    refine Moves.seq ?_ (State.wr_moves _ _ (by decide)) (Foot.sub1 (by decide +kernel) (Foot.holds_reg (by decide +kernel)))
    exact h4

def Foot.rejoin : Foot :=
  ⟨[(0x003010, 0x003010), (0x003040, 0x003040), (0x003050, 0x003050), (0x00306C, 0x00306C), (0x005040,
    0x005040), (0x010010, 0x010010), (0x010048, 0x010048), (0x011010, 0x011010), (0x011040, 0x011048), (0x012010, 0x012010), (0x012040,
    0x012048), (0x013010, 0x013010), (0x013040, 0x013040), (0x013048, 0x013058), (0x020010, 0x020010), (0x020048, 0x020048), (0x021010,
    0x021010), (0x021040, 0x021048), (0x022010, 0x022010), (0x022040, 0x022048), (0x023010, 0x023010), (0x023040, 0x023040), (0x023048,
    0x023058), (0x060010, 0x060010), (0x060044, 0x060044), (0x090010, 0x090010), (0x090058, 0x090064), (0x091010, 0x091010), (0x091050,
    0x091058), (0x093060, 0x093060), (0x0A0010, 0x0A0010), (0x0A0040, 0x0A0040), (0x0A0060, 0x0A0060), (0x0A2044, 0x0A2044), (0x100010,
    0x100010), (0x100064, 0x100064)], [], [.out, .evq, .lines, .ports, .beam, .fab, .tim, .wake, .twn]⟩

theorem State.rejoin_moves (s : State) : Moves (Foot.rejoin.at []) s (State.rejoin s) := by
  unfold State.rejoin
  refine Moves.ite (fun hc => ?_) (fun hc => ?_)
  · refine Moves.seq ?_ (State.setRole_moves ..) (Foot.sub0 (by decide +kernel))
    refine Moves.seq ?_ (State.modTwn_moves ..) (Foot.sub0 (by decide +kernel))
    exact Moves.refl _
  · exact Moves.refl _

def Foot.twnCmd : Foot :=
  ⟨[(0x003010, 0x003010), (0x003040, 0x003040), (0x003050, 0x003050), (0x00306C, 0x00306C), (0x005040,
    0x005040), (0x010010, 0x010010), (0x010048, 0x010048), (0x011010, 0x011010), (0x011040, 0x011048), (0x012010, 0x012010), (0x012040,
    0x012048), (0x013010, 0x013010), (0x013040, 0x013040), (0x013048, 0x013058), (0x020010, 0x020010), (0x020048, 0x020048), (0x021010,
    0x021010), (0x021040, 0x021048), (0x022010, 0x022010), (0x022040, 0x022048), (0x023010, 0x023010), (0x023040, 0x023040), (0x023048,
    0x023058), (0x060010, 0x060010), (0x060044, 0x060044), (0x090010, 0x090010), (0x090058, 0x090064), (0x091010, 0x091010), (0x091050,
    0x091058), (0x093060, 0x093060), (0x0A0010, 0x0A0010), (0x0A0040, 0x0A0040), (0x0A004C, 0x0A0050), (0x0A0060, 0x0A0060), (0x0A2044,
    0x0A2044), (0x100010, 0x100010), (0x100064, 0x100064)], [], [.out, .evq, .lines, .ports, .beam, .fab, .tim, .wake, .twn]⟩

theorem State.twnCmd_moves (s : State) (q : Requester) (v : Word) : Moves (Foot.twnCmd.at []) s (State.twnCmd s q v) := by
  unfold State.twnCmd
  refine State.locked_moves ?_ (Foot.sub1 (by decide +kernel) (Foot.holds_reg (by decide +kernel))) (fun x1 h1 => ?_)
  · exact Moves.refl _
  · extract_lets -merge -underBinder +onlyGivenNames x2
    refine Moves.let_ x2 ?_ ?_
    · subst x2
      refine Moves.ite (fun hc => ?_) (fun hc => ?_)
      · refine Moves.seq ?_ (State.modTwn_moves ..) (Foot.sub0 (by decide +kernel))
        exact h1
      · exact h1
    intro h2
    try clear_value x2
    extract_lets -merge -underBinder +onlyGivenNames x3
    refine Moves.let_ x3 ?_ ?_
    · subst x3
      refine Moves.ite (fun hc => ?_) (fun hc => ?_)
      · refine Moves.seq ?_ (State.rejoin_moves ..) (Foot.sub0 (by decide +kernel))
        exact h2
      · exact h2
    intro h3
    try clear_value x3
    extract_lets -merge -underBinder +onlyGivenNames x4
    refine Moves.let_ x4 ?_ ?_
    · subst x4
      refine Moves.ite (fun hc => ?_) (fun hc => ?_)
      · refine Moves.seq ?_ (State.modTwn_moves ..) (Foot.sub0 (by decide +kernel))
        exact h3
      · exact h3
    intro h4
    try clear_value x4
    extract_lets -merge -underBinder +onlyGivenNames x5
    refine Moves.let_ x5 ?_ ?_
    · subst x5
      refine Moves.ite (fun hc => ?_) (fun hc => ?_)
      · refine Moves.seq ?_ (State.isolate_moves ..) (Foot.sub0 (by decide +kernel))
        exact h4
      · exact h4
    intro h5
    try clear_value x5
    refine Moves.ite (fun hc => ?_) (fun hc => ?_)
    · refine Moves.seq ?_ (State.proposeHandover_moves ..) (Foot.sub0 (by decide +kernel))
      exact h5
    · exact h5

def Foot.iwinBaseWrite : Foot := ⟨[], [], []⟩

theorem State.iwinBaseWrite_moves (s : State) (n : Nat) (v : Word) :
    Moves (Foot.iwinBaseWrite.at [(725056 + 8 * (n % 16), 725056 + 8 * (n % 16))]) s (State.iwinBaseWrite s n v) := by
  unfold State.iwinBaseWrite
  refine Moves.ite (fun hc => ?_) (fun hc => ?_)
  · exact Moves.refl _
  · refine Moves.seq ?_ (State.put_moves _ _ _ (by first | (dsimp only [F.HBR_IWIN_BASE_BASE]; omega) | omega)) (Foot.sub1 (by decide +kernel) (Foot.holds_same (.head _)))
    exact Moves.refl _

def Foot.iwinWrite : Foot := ⟨[(0x0B1010, 0x0B1010)], [], []⟩

theorem State.iwinWrite_moves (s : State) (n : Nat) (v : Word) :
    Moves (Foot.iwinWrite.at [(725060 + 8 * (n % 16), 725060 + 8 * (n % 16))]) s (State.iwinWrite s n v) := by
  unfold State.iwinWrite
  refine Moves.ite (fun hc => ?_) (fun hc => ?_)
  · refine Moves.seq ?_ (State.putB_moves _ _ _ (by first | (dsimp only [F.HBR_IWIN_CFG_EN]; omega) | omega)) (Foot.sub1 (by decide +kernel) (Foot.holds_same (.head _)))
    exact Moves.refl _
  · extract_lets -merge -underBinder +onlyGivenNames x1
    refine Moves.let_ x1 ?_ ?_
    · subst x1
      refine Moves.seq ?_ (State.wr_moves _ _ (by first | (dsimp only [R.HBR_IWIN_CFG]; omega) | omega)) (Foot.sub1 (by decide +kernel) (Foot.holds_same (.head _)))
      exact Moves.refl _
    intro h1
    try clear_value x1
    refine Moves.ite (fun hc => ?_) (fun hc => ?_)
    · exact h1
    · refine Moves.ite (fun hc => ?_) (fun hc => ?_)
      · refine Moves.seq ?_ (State.raise_moves ..) (Foot.sub1 (by decide +kernel) (Foot.holds_reg (by decide +kernel)))
        exact h1
      · refine Moves.seq ?_ (State.putB_moves _ _ _ (by first | (dsimp only [F.HBR_IWIN_CFG_EN]; omega) | omega)) (Foot.sub1 (by decide +kernel) (Foot.holds_same (.head _)))
        exact h1

def Foot.owinWrite : Foot := ⟨[(0x0B2010, 0x0B2010)], [], []⟩

theorem State.owinWrite_moves (s : State) (m : Nat) (v : Word) :
    Moves (Foot.owinWrite.at [(729160 + 16 * (m % 8), 729160 + 16 * (m % 8))]) s (State.owinWrite s m v) := by
  unfold State.owinWrite
  extract_lets -merge -underBinder +onlyGivenNames x1
  refine Moves.let_ x1 ?_ ?_
  · subst x1
    refine Moves.seq ?_ (State.wr_moves _ _ (by first | (dsimp only [R.HBR_OWIN_CFG]; omega) | omega)) (Foot.sub1 (by decide +kernel) (Foot.holds_same (.head _)))
    exact Moves.refl _
  intro h1
  try clear_value x1
  refine Moves.ite (fun hc => ?_) (fun hc => ?_)
  · exact h1
  · refine Moves.ite (fun hc => ?_) (fun hc => ?_)
    · refine Moves.seq ?_ (State.raise_moves ..) (Foot.sub1 (by decide +kernel) (Foot.holds_reg (by decide +kernel)))
      exact h1
    · refine Moves.seq ?_ (State.putB_moves _ _ _ (by first | (dsimp only [F.HBR_OWIN_CFG_EN]; omega) | omega)) (Foot.sub1 (by decide +kernel) (Foot.holds_same (.head _)))
      exact h1

def Foot.ringCfg : Foot := ⟨[], [], []⟩

theorem State.ringCfg_moves (s : State) (r : Nat) (v : Word) :
    Moves (Foot.ringCfg.at [(729344 + 16 * (r % 9), 729344 + 16 * (r % 9)),
      (729352 + 16 * (r % 9), 729352 + 16 * (r % 9))]) s (State.ringCfg s r v) := by
  unfold State.ringCfg
  extract_lets -merge -underBinder +onlyGivenNames x1
  subst x1
  extract_lets -merge -underBinder +onlyGivenNames x2
  subst x2
  extract_lets -merge -underBinder +onlyGivenNames x3
  refine Moves.let_ x3 ?_ ?_
  · subst x3
    refine Moves.seq ?_ (State.wr_moves _ _ (by first | (dsimp only [R.HBR_RING_CFG]; omega) | omega)) (Foot.sub1 (by decide +kernel) (Foot.holds_same (.head _)))
    exact Moves.refl _
  intro h3
  try clear_value x3
  refine Moves.ite (fun hc => ?_) (fun hc => ?_)
  · refine Moves.seq ?_ (State.wr_moves _ _ (by first | (dsimp only [R.HBR_RING_PTR]; omega) | omega)) (Foot.sub1 (by decide +kernel) (Foot.holds_same (.tail _ (.head _))))
    exact h3
  · exact h3

def Foot.ringBase : Foot := ⟨[], [], []⟩

theorem State.ringBase_moves (s : State) (r : Nat) (v : Word) :
    Moves (Foot.ringBase.at [(729348 + 16 * (r % 9), 729348 + 16 * (r % 9))]) s (State.ringBase s r v) := by
  unfold State.ringBase
  refine Moves.ite (fun hc => ?_) (fun hc => ?_)
  · exact Moves.refl _
  · refine Moves.seq ?_ (State.wr_moves _ _ (by first | (dsimp only [R.HBR_RING_BASE]; omega) | omega)) (Foot.sub1 (by decide +kernel) (Foot.holds_same (.head _)))
    exact Moves.refl _

def Foot.ringPut : Foot := ⟨[(0x0B2010, 0x0B2010)], [], []⟩

theorem State.ringPut_moves (s : State) (r : Nat) (v : Word) :
    Moves (Foot.ringPut.at [(729352 + 16 * (r % 9), 729352 + 16 * (r % 9))]) s (State.ringPut s r v) := by
  unfold State.ringPut
  extract_lets -merge -underBinder +onlyGivenNames x1
  subst x1
  extract_lets -merge -underBinder +onlyGivenNames x2
  subst x2
  extract_lets -merge -underBinder +onlyGivenNames x3
  subst x3
  refine Moves.ite (fun hc => ?_) (fun hc => ?_)
  · refine Moves.seq ?_ (State.raise_moves ..) (Foot.sub1 (by decide +kernel) (Foot.holds_reg (by decide +kernel)))
    exact Moves.refl _
  · refine Moves.seq ?_ (State.put_moves _ _ _ (by first | (dsimp only [F.HBR_RING_PTR_PUT]; omega) | omega)) (Foot.sub1 (by decide +kernel) (Foot.holds_same (.head _)))
    exact Moves.refl _

def Foot.msixFlush : Foot := ⟨[(0x0B3300, 0x0B3300)], [], [.out]⟩

theorem State.msixFlush_moves (s : State) : Moves (Foot.msixFlush.at []) s (State.msixFlush s) := by
  unfold State.msixFlush
  refine Moves.foldl _ (fun x1 _ h1 => ?_) _ ?_
  · refine Moves.ite (fun hc => ?_) (fun hc => ?_)
    · refine Moves.seq ?_ (State.emit_moves ..) (Foot.sub0 (by decide +kernel))
      refine Moves.seq ?_ (State.putB_moves _ _ _ (by show 733952 % 4096 ≠ 16; decide)) (Foot.sub1 (by decide +kernel) (Foot.holds_reg (lo := 733952) (hi := 733952) (by decide +kernel)))
      exact h1
    · exact h1
  · exact Moves.refl _

def Foot.msixMask : Foot := ⟨[(0x0B3300, 0x0B3300)], [], [.out]⟩

theorem State.msixMask_moves (s : State) (v : Nat) (w : Word) :
    Moves (Foot.msixMask.at [(733452 + 16 * (v % 32), 733452 + 16 * (v % 32))]) s (State.msixMask s v w) := by
  unfold State.msixMask
  refine Moves.seq ?_ (State.msixFlush_moves ..) (Foot.sub0 (by decide +kernel))
  refine Moves.seq ?_ (State.putB_moves _ _ _ (by first | (dsimp only [F.HBR_MSIX_V_CTRL_MASK]; omega) | omega)) (Foot.sub1 (by decide +kernel) (Foot.holds_same (.head _)))
  exact Moves.refl _

def Foot.writeHbr : Foot := ⟨[(0x0B1010, 0x0B1010), (0x0B2010, 0x0B2010), (0x0B3300, 0x0B3300)], [], [.out, .evq]⟩

theorem State.writeHbr_moves (s : State) (q : Requester) (off : Nat) (v : Word) :
    Moves (Foot.writeHbr.at [(725056 + 8 * ((off % 4096 - 64) / 8 % 16), 725056 + 8 * ((off % 4096 - 64) / 8 % 16)),
      (725060 + 8 * ((off % 4096 - 64) / 8 % 16), 725060 + 8 * ((off % 4096 - 64) / 8 % 16)), (off, off),
      (4096 * (pageOf off / 4096) + 16, 4096 * (pageOf off / 4096) + 16),
      (729160 + 16 * ((off % 4096 - 64) / 16 % 8), 729160 + 16 * ((off % 4096 - 64) / 16 % 8)),
      (729344 + 16 * ((off % 4096 - 256) / 16 % 9), 729344 + 16 * ((off % 4096 - 256) / 16 % 9)),
      (729352 + 16 * ((off % 4096 - 256) / 16 % 9), 729352 + 16 * ((off % 4096 - 256) / 16 % 9)),
      (729348 + 16 * ((off % 4096 - 256) / 16 % 9), 729348 + 16 * ((off % 4096 - 256) / 16 % 9)),
      (733452 + 16 * ((off % 4096 - 256) / 16 % 32), 733452 + 16 * ((off % 4096 - 256) / 16 % 32))]) s (State.writeHbr s q off v) :=
      by
  unfold State.writeHbr
  extract_lets -merge -underBinder +onlyGivenNames x1
  subst x1
  split
  · refine Moves.ite (fun hc => ?_) (fun hc => ?_)
    · refine Moves.ite (fun hc => ?_) (fun hc => ?_)
      · refine Moves.seq ?_ (State.iwinBaseWrite_moves ..) (Foot.sub1 (by decide +kernel) (Foot.holds_same (.head _)))
        exact Moves.refl _
      · refine Moves.seq ?_ (State.iwinWrite_moves ..) (Foot.sub1 (by decide +kernel) (Foot.holds_same (.tail _ (.head _))))
        exact Moves.refl _
    · refine Moves.seq ?_ (State.storePlain_moves ..) (Foot.sub_at (by decide +kernel) (Foot.own_cons (Foot.holds_same (.tail _ (.tail _ (.head _)))) (Foot.own_cons (Foot.holds_same (.tail _ (.tail _ (.tail _ (.head _))))) Foot.own_nil)))
      exact Moves.refl _
  · refine Moves.ite (fun hc => ?_) (fun hc => ?_)
    · refine Moves.seq ?_ (State.owinWrite_moves ..) (Foot.sub1 (by decide +kernel) (Foot.holds_same (.tail _ (.tail _ (.tail _ (.tail _ (.head _)))))))
      exact Moves.refl _
    · refine Moves.ite (fun hc => ?_) (fun hc => ?_)
      · extract_lets -merge -underBinder +onlyGivenNames x2
        subst x2
        split
        · refine Moves.seq ?_ (State.ringCfg_moves ..) (Foot.sub_at (by decide +kernel) (Foot.own_cons (Foot.holds_same (.tail _ (.tail _ (.tail _ (.tail _ (.tail _ (.head _))))))) (Foot.own_cons (Foot.holds_same (.tail _ (.tail _ (.tail _ (.tail _ (.tail _ (.tail _ (.head _)))))))) Foot.own_nil)))
          exact Moves.refl _
        · refine Moves.seq ?_ (State.ringBase_moves ..) (Foot.sub1 (by decide +kernel) (Foot.holds_same (.tail _ (.tail _ (.tail _ (.tail _ (.tail _ (.tail _ (.tail _ (.head _))))))))))
          exact Moves.refl _
        · refine Moves.seq ?_ (State.ringPut_moves ..) (Foot.sub1 (by decide +kernel) (Foot.holds_same (.tail _ (.tail _ (.tail _ (.tail _ (.tail _ (.tail _ (.head _)))))))))
          exact Moves.refl _
        · exact Moves.refl _
      · refine Moves.seq ?_ (State.storePlain_moves ..) (Foot.sub_at (by decide +kernel) (Foot.own_cons (Foot.holds_same (.tail _ (.tail _ (.head _)))) (Foot.own_cons (Foot.holds_same (.tail _ (.tail _ (.tail _ (.head _))))) Foot.own_nil)))
        exact Moves.refl _
  · refine Moves.ite (fun hc => ?_) (fun hc => ?_)
    · refine Moves.seq ?_ (State.msixMask_moves ..) (Foot.sub1 (by decide +kernel) (Foot.holds_same (.tail _ (.tail _ (.tail _ (.tail _ (.tail _ (.tail _ (.tail _ (.tail _ (.head _)))))))))))
      exact Moves.refl _
    · refine Moves.seq ?_ (State.storePlain_moves ..) (Foot.sub_at (by decide +kernel) (Foot.own_cons (Foot.holds_same (.tail _ (.tail _ (.head _)))) (Foot.own_cons (Foot.holds_same (.tail _ (.tail _ (.tail _ (.head _))))) Foot.own_nil)))
      exact Moves.refl _
  · refine Moves.seq ?_ (State.storePlain_moves ..) (Foot.sub_at (by decide +kernel) (Foot.own_cons (Foot.holds_same (.tail _ (.tail _ (.head _)))) (Foot.own_cons (Foot.holds_same (.tail _ (.tail _ (.tail _ (.head _))))) Foot.own_nil)))
    exact Moves.refl _

def Foot.fence : Foot := ⟨[(0x032010, 0x032010), (0x032060, 0x03206C), (0x0C0048, 0x0C0048)], [], [.mem, .fresh, .fab, .psc]⟩

theorem State.fence_moves (s : State) (v : Word) :
    Moves (Foot.fence.at [(790604 + 16 * (BitVec.toNat v % 8 % 8), 790604 + 16 * (BitVec.toNat v % 8 % 8)),
      (790600 + 16 * (BitVec.toNat v % 8 % 8), 790600 + 16 * (BitVec.toNat v % 8 % 8))]) s (State.fence s v) := by
  unfold State.fence
  refine Moves.ite (fun hc => ?_) (fun hc => ?_)
  · exact Moves.refl _
  · extract_lets -merge -underBinder +onlyGivenNames x1
    subst x1
    extract_lets -merge -underBinder +onlyGivenNames x2
    refine Moves.let_ x2 ?_ ?_
    · subst x2
      refine Moves.seq ?_ (State.wr_moves _ _ (by decide)) (Foot.sub1 (by decide +kernel) (Foot.holds_reg (by decide +kernel)))
      exact Moves.refl _
    intro h2
    try clear_value x2
    extract_lets -merge -underBinder +onlyGivenNames x3
    refine Moves.let_ x3 ?_ ?_
    · subst x3
      refine Moves.seq ?_ (State.put_moves _ _ _ (by first | (dsimp only [F.PSC_WIN_CNT_WR]; omega) | omega)) (Foot.sub1 (by decide +kernel) (Foot.holds_same (.head _)))
      refine Moves.seq ?_ (State.modPsc_moves ..) (Foot.sub0 (by decide +kernel))
      exact h2
    intro h3
    try clear_value x3
    split
    · refine Moves.seq ?_ (State.pscRequest_moves ..) (Foot.sub1 (by decide +kernel) (Foot.holds_same (.tail _ (.head _))))
      refine Moves.seq ?_ (State.used_moves ..) (Foot.sub0 (by decide +kernel))
      exact h3
    · exact h3

def Foot.pscWinWrite : Foot := ⟨[(0x0B1010, 0x0B1010)], [], [.psc]⟩

theorem State.pscWinWrite_moves (s : State) (p : Nat) (v : Word) :
    Moves (Foot.pscWinWrite.at [(790592 + 16 * (p % 8), 790592 + 16 * (p % 8)), (798788 + 8 * (p % 8), 798788 + 8 * (p % 8)),
      (798784 + 8 * (p % 8), 798784 + 8 * (p % 8))]) s (State.pscWinWrite s p v) := by
  unfold State.pscWinWrite
  extract_lets -merge -underBinder +onlyGivenNames x1
  subst x1
  extract_lets -merge -underBinder +onlyGivenNames x2
  subst x2
  extract_lets -merge -underBinder +onlyGivenNames x3
  refine Moves.let_ x3 ?_ ?_
  · subst x3
    refine Moves.seq ?_ (State.wr_moves _ _ (by first | (dsimp only [R.PSC_WIN_CFG]; omega) | omega)) (Foot.sub1 (by decide +kernel) (Foot.holds_same (.head _)))
    exact Moves.refl _
  intro h3
  try clear_value x3
  refine Moves.ite (fun hc => ?_) (fun hc => ?_)
  · exact h3
  · refine Moves.ite (fun hc => ?_) (fun hc => ?_)
    · refine Moves.ite (fun hc => ?_) (fun hc => ?_)
      · refine Moves.seq ?_ (State.raise_moves ..) (Foot.sub1 (by decide +kernel) (Foot.holds_reg (by decide +kernel)))
        exact h3
      · exact h3
    · extract_lets -merge -underBinder +onlyGivenNames x4
      refine Moves.let_ x4 ?_ ?_
      · subst x4
        refine Moves.seq ?_ (State.putB_moves _ _ _ (by first | (dsimp only [F.PSC_WIN_CFG_EN]; omega) | omega)) (Foot.sub1 (by decide +kernel) (Foot.holds_same (.head _)))
        exact h3
      intro h4
      try clear_value x4
      refine Moves.ite (fun hc => ?_) (fun hc => ?_)
      · exact h4
      · extract_lets -merge -underBinder +onlyGivenNames x5
        refine Moves.let_ x5 ?_ ?_
        · subst x5
          refine Moves.seq ?_ (State.modPsc_moves ..) (Foot.sub0 (by decide +kernel))
          exact h4
        intro h5
        try clear_value x5
        refine Moves.seq ?_ (State.put_moves _ _ _ (by first | (dsimp only [F.PSC_SIDE_AGE_EPOCH]; omega) | omega)) (Foot.sub1 (by decide +kernel) (Foot.holds_same (.tail _ (.head _))))
        refine Moves.seq ?_ (State.wr_moves _ _ (by first | (dsimp only [R.PSC_SIDE_ISL]; omega) | omega)) (Foot.sub1 (by decide +kernel) (Foot.holds_same (.tail _ (.tail _ (.head _)))))
        exact h5

def Foot.pwlogGet : Foot := ⟨[(0x0C2040, 0x0C2040)], [], []⟩

theorem State.pwlogGet_moves (s : State) (v : Word) : Moves (Foot.pwlogGet.at []) s (State.pwlogGet s v) := by
  unfold State.pwlogGet
  extract_lets -merge -underBinder +onlyGivenNames x1
  subst x1
  extract_lets -merge -underBinder +onlyGivenNames x2
  subst x2
  refine Moves.ite (fun hc => ?_) (fun hc => ?_)
  · exact Moves.refl _
  · refine Moves.seq ?_ (State.put_moves _ _ _ (by decide)) (Foot.sub1 (by decide +kernel) (Foot.holds_reg (by decide +kernel)))
    exact Moves.refl _

def Foot.writePsc : Foot :=
  ⟨[(0x032010, 0x032010), (0x032060, 0x03206C), (0x0B1010, 0x0B1010), (0x0C0048, 0x0C0048), (0x0C2040,
    0x0C2040)], [], [.mem, .evq, .fresh, .fab, .psc]⟩

theorem State.writePsc_moves (s : State) (q : Requester) (off : Nat) (v : Word) :
    Moves (Foot.writePsc.at [(790604 + 16 * (BitVec.toNat v % 8 % 8), 790604 + 16 * (BitVec.toNat v % 8 % 8)),
      (790600 + 16 * (BitVec.toNat v % 8 % 8), 790600 + 16 * (BitVec.toNat v % 8 % 8)),
      (4096 * (pageOf (786692 + 8 * ((off % 4096 - 256) / 8 % 32)) / 4096) + 16, 4096 * (pageOf (786692 + 8 * ((off % 4096 - 256) / 8
      % 32)) / 4096) + 16), (786692 + 8 * ((off % 4096 - 256) / 8 % 32), 786692 + 8 * ((off % 4096 - 256) / 8 % 32)),
      (790592 + 16 * ((off % 4096 - 64) / 16 % 8), 790592 + 16 * ((off % 4096 - 64) / 16 % 8)),
      (798788 + 8 * ((off % 4096 - 64) / 16 % 8), 798788 + 8 * ((off % 4096 - 64) / 16 % 8)),
      (798784 + 8 * ((off % 4096 - 64) / 16 % 8), 798784 + 8 * ((off % 4096 - 64) / 16 % 8)), (off, off),
      (4096 * (pageOf off / 4096) + 16, 4096 * (pageOf off / 4096) + 16)]) s (State.writePsc s q off v) := by
  unfold State.writePsc
  extract_lets -merge -underBinder +onlyGivenNames x1
  subst x1
  refine Moves.ite (fun hc => ?_) (fun hc => ?_)
  · refine Moves.seq ?_ (State.fence_moves ..) (Foot.sub_at (by decide +kernel) (Foot.own_cons (Foot.holds_same (.head _)) (Foot.own_cons (Foot.holds_same (.tail _ (.head _))) Foot.own_nil)))
    exact Moves.refl _
  · refine Moves.ite (fun hc => ?_) (fun hc => ?_)
    · refine Moves.seq ?_ (State.aclWrite_moves ..) (Foot.sub_at (by decide +kernel) (Foot.own_cons (Foot.holds_same (.tail _ (.tail _ (.head _)))) (Foot.own_cons (Foot.holds_same (.tail _ (.tail _ (.tail _ (.head _))))) Foot.own_nil)))
      exact Moves.refl _
    · refine Moves.ite (fun hc => ?_) (fun hc => ?_)
      · refine Moves.seq ?_ (State.pscWinWrite_moves ..) (Foot.sub_at (by decide +kernel) (Foot.own_cons (Foot.holds_same (.tail _ (.tail _ (.tail _ (.tail _ (.head _)))))) (Foot.own_cons (Foot.holds_same (.tail _ (.tail _ (.tail _ (.tail _ (.tail _ (.head _))))))) (Foot.own_cons (Foot.holds_same (.tail _ (.tail _ (.tail _ (.tail _ (.tail _ (.tail _ (.head _)))))))) Foot.own_nil))))
        exact Moves.refl _
      · refine Moves.ite (fun hc => ?_) (fun hc => ?_)
        · refine Moves.seq ?_ (State.pwlogGet_moves ..) (Foot.sub0 (by decide +kernel))
          exact Moves.refl _
        · refine Moves.seq ?_ (State.storePlain_moves ..) (Foot.sub_at (by decide +kernel) (Foot.own_cons (Foot.holds_same (.tail _ (.tail _ (.tail _ (.tail _ (.tail _ (.tail _ (.tail _ (.head _))))))))) (Foot.own_cons (Foot.holds_same (.tail _ (.tail _ (.tail _ (.tail _ (.tail _ (.tail _ (.tail _ (.tail _ (.head _)))))))))) Foot.own_nil)))
          exact Moves.refl _

def Foot.mgtFault : Foot :=
  ⟨[(0x000054, 0x000054), (0x0D0010, 0x0D0010), (0x0D0040, 0x0D0040), (0x0D0048, 0x0D0048), (0x0D1000,
    0x0D2FFF), (0x0F0010, 0x0F0010), (0x0F0040, 0x0F0040), (0x0F00B4, 0x0F00B4)], [], [.evq, .evtCut, .hlt, .mgt]⟩

theorem State.mgtFault_moves (s : State) (cause : Nat) : Moves (Foot.mgtFault.at []) s (State.mgtFault s cause) := by
  unfold State.mgtFault
  refine Moves.ite (fun hc => ?_) (fun hc => ?_)
  · exact Moves.refl _
  · refine Moves.seq ?_ (State.mgtReset_moves ..) (Foot.sub0 (by decide +kernel))
    exact Moves.refl _

def Foot.wdtWrite : Foot :=
  ⟨[(0x000054, 0x000054), (0x0D0010, 0x0D0010), (0x0D0040, 0x0D0048), (0x0D1000, 0x0D2FFF), (0x0F0010,
    0x0F0010), (0x0F0040, 0x0F0040), (0x0F00B4, 0x0F00B4)], [], [.evq, .evtCut, .hlt, .mgt]⟩

theorem State.wdtWrite_moves (s : State) (q : Requester) (v : Word) : Moves (Foot.wdtWrite.at []) s (State.wdtWrite s q v) := by
  unfold State.wdtWrite
  refine State.firmwareOnly_moves ?_ (Foot.sub1 (by decide +kernel) (Foot.holds_reg (by decide +kernel))) (fun x1 h1 => ?_)
  · exact Moves.refl _
  · extract_lets -merge -underBinder +onlyGivenNames x2
    refine Moves.let_ x2 ?_ ?_
    · subst x2
      refine State.locked_moves ?_ (Foot.sub1 (by decide +kernel) (Foot.holds_reg (by decide +kernel))) (fun x3 h3 => ?_)
      · exact h1
      · refine Moves.seq ?_ (State.wr_moves _ _ (by decide)) (Foot.sub1 (by decide +kernel) (Foot.holds_reg (by decide +kernel)))
        exact h3
    intro h2
    try clear_value x2
    refine Moves.ite (fun hc => ?_) (fun hc => ?_)
    · refine Moves.seq ?_ (State.modMgt_moves ..) (Foot.sub0 (by decide +kernel))
      exact h2
    · refine Moves.seq ?_ (State.mgtFault_moves ..) (Foot.sub0 (by decide +kernel))
      exact h2

def Foot.mgtCmd : Foot :=
  ⟨[(0x000054, 0x000054), (0x0D0010, 0x0D0010), (0x0D0040, 0x0D0040), (0x0D0048, 0x0D0048), (0x0D1000,
    0x0D2FFF), (0x0F0010, 0x0F0010), (0x0F0040, 0x0F0040), (0x0F00B4, 0x0F00B4)], [], [.evq, .evtCut, .hlt, .mgt]⟩

theorem State.mgtCmd_moves (s : State) (q : Requester) (v : Word) : Moves (Foot.mgtCmd.at []) s (State.mgtCmd s q v) := by
  unfold State.mgtCmd
  refine State.locked_moves ?_ (Foot.sub1 (by decide +kernel) (Foot.holds_reg (by decide +kernel))) (fun x1 h1 => ?_)
  · exact Moves.refl _
  · refine Moves.ite (fun hc => ?_) (fun hc => ?_)
    · refine Moves.seq ?_ (State.mgtReset_moves ..) (Foot.sub0 (by decide +kernel))
      refine Moves.seq ?_ (State.hltReason_moves ..) (Foot.sub1 (by decide +kernel) (Foot.holds_reg (by decide +kernel)))
      refine Moves.seq ?_ (State.putB_moves _ _ _ (by decide)) (Foot.sub1 (by decide +kernel) (Foot.holds_reg (by decide +kernel)))
      exact h1
    · exact h1

def Foot.mboxCmd : Foot :=
  ⟨[(0x032010, 0x032010), (0x032060, 0x03206C), (0x0D1010, 0x0D1010), (0x0D1054, 0x0D1064)], [], [.mem,
    .fab, .mgt]⟩

theorem State.mboxCmd_moves (s : State) (v : Word) : Moves (Foot.mboxCmd.at []) s (State.mboxCmd s v) := by
  unfold State.mboxCmd
  refine Moves.seq ?_ (State.mboxPush_moves ..) (Foot.sub0 (by decide +kernel))
  exact Moves.refl _

def Foot.mboxPop : Foot := ⟨[(0x0D1054, 0x0D1064)], [], [.mgt]⟩

theorem State.mboxPop_moves (s : State) (v : Word) : Moves (Foot.mboxPop.at []) s (State.mboxPop s v) := by
  unfold State.mboxPop
  refine Moves.ite (fun hc => ?_) (fun hc => ?_)
  · refine Moves.seq ?_ (State.mboxShow_moves ..) (Foot.sub0 (by decide +kernel))
    refine Moves.seq ?_ (State.modMgt_moves ..) (Foot.sub0 (by decide +kernel))
    exact Moves.refl _
  · exact Moves.refl _

def Foot.writeMgt : Foot :=
  ⟨[(0x000054, 0x000054), (0x032010, 0x032010), (0x032060, 0x03206C), (0x0D0010, 0x0D0010), (0x0D0040,
    0x0D0048), (0x0D1000, 0x0D2FFF), (0x0F0010, 0x0F0010), (0x0F0040, 0x0F0040), (0x0F00B4, 0x0F00B4)], [], [.mem, .evq, .evtCut, .fab,
    .hlt, .mgt]⟩

theorem State.writeMgt_moves (s : State) (q : Requester) (off : Nat) (v : Word) :
    Moves (Foot.writeMgt.at [(4096 * (pageOf off / 4096) + 16, 4096 * (pageOf off / 4096) + 16),
      (off, off)]) s (State.writeMgt s q off v) := by
  unfold State.writeMgt
  refine Moves.ite (fun hc => ?_) (fun hc => ?_)
  · refine Moves.seq ?_ (State.wdtWrite_moves ..) (Foot.sub0 (by decide +kernel))
    exact Moves.refl _
  · refine Moves.ite (fun hc => ?_) (fun hc => ?_)
    · refine Moves.seq ?_ (State.mgtCmd_moves ..) (Foot.sub0 (by decide +kernel))
      exact Moves.refl _
    · refine Moves.ite (fun hc => ?_) (fun hc => ?_)
      · refine State.firmwareOnly_moves ?_ (Foot.sub1 (by decide +kernel) (Foot.holds_same (.head _))) (fun x1 h1 => ?_)
        · exact Moves.refl _
        · refine Moves.seq ?_ (State.storePlain_moves ..) (Foot.sub_at (by decide +kernel) (Foot.own_cons (Foot.holds_same (.tail _ (.head _))) (Foot.own_cons (Foot.holds_same (.head _)) Foot.own_nil)))
          exact h1
      · refine Moves.ite (fun hc => ?_) (fun hc => ?_)
        · refine Moves.seq ?_ (State.mboxCmd_moves ..) (Foot.sub0 (by decide +kernel))
          exact Moves.refl _
        · refine Moves.ite (fun hc => ?_) (fun hc => ?_)
          · refine Moves.seq ?_ (State.mboxPop_moves ..) (Foot.sub0 (by decide +kernel))
            exact Moves.refl _
          · refine Moves.seq ?_ (State.storePlain_moves ..) (Foot.sub_at (by decide +kernel) (Foot.own_cons (Foot.holds_same (.tail _ (.head _))) (Foot.own_cons (Foot.holds_same (.head _)) Foot.own_nil)))
            exact Moves.refl _

def Foot.recCfg : Foot := ⟨[(0x0E0010, 0x0E0010), (0x0E0040, 0x0E0040), (0x0E0048, 0x0E0048)], [], [.evq]⟩

theorem State.recCfg_moves (s : State) (q : Requester) (v : Word) : Moves (Foot.recCfg.at []) s (State.recCfg s q v) := by
  unfold State.recCfg
  refine Moves.seq ?_ (State.fullFollow_moves ..) (Foot.sub0 (by decide +kernel))
  refine Moves.seq ?_ (State.storePlain_moves ..) (Foot.sub_at (by decide +kernel) (Foot.own_cons (Foot.holds_reg (by decide +kernel)) (Foot.own_cons (Foot.holds_reg (by decide +kernel)) Foot.own_nil)))
  exact Moves.refl _

def Foot.cursorsTo : Foot := ⟨[(0x0E204C, 0x0E204C)], [], [.recorder]⟩

theorem State.cursorsTo_moves (s : State) (n : Nat) : Moves (Foot.cursorsTo.at []) s (State.cursorsTo s n) := by
  unfold State.cursorsTo
  extract_lets x
  refine Moves.let_ x ?_ ?_
  · subst x
    refine Moves.foldl _ (fun x1 _ h1 => ?_) _ ?_
    · refine Moves.ite (fun hc => ?_) (fun hc => ?_)
      · exact Moves.seq h1 (State.modRec_moves ..) (Foot.sub0 (by decide +kernel))
      · exact h1
    · exact Moves.refl _
  intro h
  refine Moves.ite (fun hc => ?_) (fun hc => ?_)
  · exact Moves.seq h (State.wr_moves _ _ (by decide)) (Foot.sub1 (by decide +kernel) (Foot.holds_reg (by decide +kernel)))
  · exact h

def Foot.recClear : Foot :=
  ⟨[(0x0E0010, 0x0E0010), (0x0E0048, 0x0E0054), (0x0E2010, 0x0E2010), (0x0E204C, 0x0E2050)], [], [.mem,
    .recorder]⟩

theorem State.recClear_moves (s : State) (q : Requester) : Moves (Foot.recClear.at []) s (State.recClear s q) := by
  unfold State.recClear
  extract_lets -merge -underBinder +onlyGivenNames x1
  subst x1
  extract_lets -merge -underBinder +onlyGivenNames x2
  subst x2
  extract_lets -merge -underBinder +onlyGivenNames x3
  subst x3
  extract_lets -merge -underBinder +onlyGivenNames x4
  subst x4
  extract_lets -merge -underBinder +onlyGivenNames x5
  refine Moves.let_ x5 ?_ ?_
  · subst x5
    refine Moves.seq ?_ (State.fullFollow_moves ..) (Foot.sub0 (by decide +kernel))
    refine Moves.seq ?_ (State.wr_moves _ _ (by decide)) (Foot.sub1 (by decide +kernel) (Foot.holds_reg (by decide +kernel)))
    refine Moves.seq ?_ (State.put_moves _ _ _ (by decide)) (Foot.sub1 (by decide +kernel) (Foot.holds_reg (by decide +kernel)))
    exact Moves.refl _
  intro h5
  try clear_value x5
  refine Moves.seq ?_ (State.raise_moves ..) (Foot.sub1 (by decide +kernel) (Foot.holds_reg (by decide +kernel)))
  refine Moves.seq ?_ (State.cursorsTo_moves ..) (Foot.sub0 (by decide +kernel))
  refine Moves.seq ?_ (State.recPut_moves ..) (Foot.sub0 (by decide +kernel))
  exact h5

def Foot.recCmd : Foot :=
  ⟨[(0x0E0010, 0x0E0010), (0x0E0044, 0x0E0054), (0x0E2010, 0x0E2010), (0x0E204C, 0x0E2050)], [], [.mem, .evq,
    .recorder]⟩

theorem State.recCmd_moves (s : State) (q : Requester) (v : Word) : Moves (Foot.recCmd.at []) s (State.recCmd s q v) := by
  unfold State.recCmd
  extract_lets -merge -underBinder +onlyGivenNames x1
  refine Moves.let_ x1 ?_ ?_
  · subst x1
    refine Moves.ite (fun hc => ?_) (fun hc => ?_)
    · exact Moves.refl _
    · refine State.firmwareOnly_moves ?_ (Foot.sub1 (by decide +kernel) (Foot.holds_reg (by decide +kernel))) (fun x2 h2 => ?_)
      · exact Moves.refl _
      · refine Moves.seq ?_ (State.putB_moves _ _ _ (by decide)) (Foot.sub1 (by decide +kernel) (Foot.holds_reg (by decide +kernel)))
        exact h2
  intro h1
  try clear_value x1
  refine State.locked_moves ?_ (Foot.sub1 (by decide +kernel) (Foot.holds_reg (by decide +kernel))) (fun x3 h3 => ?_)
  · exact h1
  · refine Moves.ite (fun hc => ?_) (fun hc => ?_)
    · refine Moves.seq ?_ (State.recClear_moves ..) (Foot.sub0 (by decide +kernel))
      exact h3
    · exact h3

def Foot.recPost : Foot := ⟨[(0x0E0010, 0x0E0010)], [], [.evq]⟩

theorem State.recPost_moves (s : State) (q : Requester) (v : Word) : Moves (Foot.recPost.at []) s (State.recPost s q v) := by
  unfold State.recPost
  extract_lets -merge -underBinder +onlyGivenNames x1
  subst x1
  extract_lets -merge -underBinder +onlyGivenNames x2
  subst x2
  refine Moves.ite (fun hc => ?_) (fun hc => ?_)
  · refine Moves.seq ?_ (State.raise_moves ..) (Foot.sub1 (by decide +kernel) (Foot.holds_reg (by decide +kernel)))
    exact Moves.refl _
  · extract_lets -merge -underBinder +onlyGivenNames x3
    subst x3
    refine Moves.seq ?_ (Moves.upd_evq _ _) (Foot.sub0 (by decide +kernel))
    exact Moves.refl _

def Foot.pdataWrite : Foot := ⟨[], [], [.recorder]⟩

theorem State.pdataWrite_moves (s : State) (q : Requester) (n : Nat) (v : Word) :
    Moves (Foot.pdataWrite.at []) s (State.pdataWrite s q n v) := by
  unfold State.pdataWrite
  refine Moves.seq ?_ (State.modRec_moves ..) (Foot.sub0 (by decide +kernel))
  exact Moves.refl _

def Foot.setCur : Foot := ⟨[], [], [.recorder]⟩

theorem State.setCur_moves (s : State) (q : Requester) (v : Word) : Moves (Foot.setCur.at []) s (State.setCur s q v) := by
  unfold State.setCur
  refine Moves.seq ?_ (State.modRec_moves ..) (Foot.sub0 (by decide +kernel))
  exact Moves.refl _

def Foot.strmCfg : Foot := ⟨[(0x0E2010, 0x0E2010), (0x0E2040, 0x0E2040), (0x0E2048, 0x0E204C)], [], [.recorder]⟩

theorem State.strmCfg_moves (s : State) (v : Word) : Moves (Foot.strmCfg.at []) s (State.strmCfg s v) := by
  unfold State.strmCfg
  extract_lets -merge -underBinder +onlyGivenNames x1
  subst x1
  extract_lets -merge -underBinder +onlyGivenNames x2
  refine Moves.let_ x2 ?_ ?_
  · subst x2
    refine Moves.seq ?_ (State.wr_moves _ _ (by decide)) (Foot.sub1 (by decide +kernel) (Foot.holds_reg (by decide +kernel)))
    exact Moves.refl _
  intro h2
  try clear_value x2
  refine Moves.ite (fun hc => ?_) (fun hc => ?_)
  · exact h2
  · refine Moves.ite (fun hc => ?_) (fun hc => ?_)
    · refine Moves.seq ?_ (State.raise_moves ..) (Foot.sub1 (by decide +kernel) (Foot.holds_reg (by decide +kernel)))
      exact h2
    · extract_lets -merge -underBinder +onlyGivenNames x3
      refine Moves.let_ x3 ?_ ?_
      · subst x3
        refine Moves.seq ?_ (State.wr_moves _ _ (by decide)) (Foot.sub1 (by decide +kernel) (Foot.holds_reg (by decide +kernel)))
        refine Moves.seq ?_ (State.putB_moves _ _ _ (by decide)) (Foot.sub1 (by decide +kernel) (Foot.holds_reg (by decide +kernel)))
        exact h2
      intro h3
      try clear_value x3
      refine Moves.seq ?_ (State.modRec_moves ..) (Foot.sub0 (by decide +kernel))
      refine Moves.seq ?_ (State.wr_moves _ _ (by decide)) (Foot.sub1 (by decide +kernel) (Foot.holds_reg (by decide +kernel)))
      exact h3

def Foot.strmBaseWrite : Foot := ⟨[(0x0E2044, 0x0E2044)], [], []⟩

theorem State.strmBaseWrite_moves (s : State) (v : Word) : Moves (Foot.strmBaseWrite.at []) s (State.strmBaseWrite s v) := by
  unfold State.strmBaseWrite
  refine Moves.ite (fun hc => ?_) (fun hc => ?_)
  · exact Moves.refl _
  · refine Moves.seq ?_ (State.wr_moves _ _ (by decide)) (Foot.sub1 (by decide +kernel) (Foot.holds_reg (by decide +kernel)))
    exact Moves.refl _

def Foot.strmGet : Foot := ⟨[(0x0E2048, 0x0E2048)], [], []⟩

theorem State.strmGet_moves (s : State) (v : Word) : Moves (Foot.strmGet.at []) s (State.strmGet s v) := by
  unfold State.strmGet
  extract_lets -merge -underBinder +onlyGivenNames x1
  subst x1
  extract_lets -merge -underBinder +onlyGivenNames x2
  subst x2
  extract_lets -merge -underBinder +onlyGivenNames x3
  subst x3
  refine Moves.ite (fun hc => ?_) (fun hc => ?_)
  · exact Moves.refl _
  · refine Moves.seq ?_ (State.put_moves _ _ _ (by decide)) (Foot.sub1 (by decide +kernel) (Foot.holds_reg (by decide +kernel)))
    exact Moves.refl _

def Foot.writeRec : Foot :=
  ⟨[(0x0E0010, 0x0E0010), (0x0E0040, 0x0E0054), (0x0E2010, 0x0E2010), (0x0E2040, 0x0E2050)], [], [.mem,
    .evq, .recorder]⟩

theorem State.writeRec_moves (s : State) (q : Requester) (off : Nat) (v : Word) :
    Moves (Foot.writeRec.at [(off, off),
      (4096 * (pageOf off / 4096) + 16, 4096 * (pageOf off / 4096) + 16)]) s (State.writeRec s q off v) := by
  unfold State.writeRec
  extract_lets -merge -underBinder +onlyGivenNames x1
  subst x1
  refine Moves.ite (fun hc => ?_) (fun hc => ?_)
  · refine Moves.seq ?_ (State.recCfg_moves ..) (Foot.sub0 (by decide +kernel))
    exact Moves.refl _
  · refine Moves.ite (fun hc => ?_) (fun hc => ?_)
    · refine Moves.seq ?_ (State.recCmd_moves ..) (Foot.sub0 (by decide +kernel))
      exact Moves.refl _
    · refine Moves.ite (fun hc => ?_) (fun hc => ?_)
      · refine Moves.seq ?_ (State.recPost_moves ..) (Foot.sub0 (by decide +kernel))
        exact Moves.refl _
      · refine Moves.ite (fun hc => ?_) (fun hc => ?_)
        · refine Moves.seq ?_ (State.pdataWrite_moves ..) (Foot.sub0 (by decide +kernel))
          exact Moves.refl _
        · refine Moves.ite (fun hc => ?_) (fun hc => ?_)
          · refine Moves.seq ?_ (State.setCur_moves ..) (Foot.sub0 (by decide +kernel))
            exact Moves.refl _
          · refine Moves.ite (fun hc => ?_) (fun hc => ?_)
            · refine Moves.seq ?_ (State.strmCfg_moves ..) (Foot.sub0 (by decide +kernel))
              exact Moves.refl _
            · refine Moves.ite (fun hc => ?_) (fun hc => ?_)
              · refine Moves.seq ?_ (State.strmBaseWrite_moves ..) (Foot.sub0 (by decide +kernel))
                exact Moves.refl _
              · refine Moves.ite (fun hc => ?_) (fun hc => ?_)
                · refine Moves.seq ?_ (State.strmGet_moves ..) (Foot.sub0 (by decide +kernel))
                  exact Moves.refl _
                · refine Moves.seq ?_ (State.storePlain_moves ..) (Foot.sub_at (by decide +kernel) (Foot.own_cons (Foot.holds_same (.head _)) (Foot.own_cons (Foot.holds_same (.tail _ (.head _))) Foot.own_nil)))
                  exact Moves.refl _

def Foot.fwLevelWrite : Foot := ⟨[(0x000054, 0x000054), (0x0F0010, 0x0F0010), (0x0F0040, 0x0F0040)], [], [.evq]⟩

theorem State.fwLevelWrite_moves (s : State) (q : Requester) (n : Nat) (v : Word) :
    Moves (Foot.fwLevelWrite.at [(4096 * (pageOf (983168 + 4 * (n % 17)) / 4096) + 16, 4096 * (pageOf (983168 + 4 * (n % 17)) / 4096)
      + 16), (983168 + 4 * (n % 17), 983168 + 4 * (n % 17))]) s (State.fwLevelWrite s q n v) := by
  unfold State.fwLevelWrite
  refine State.firmwareOnly_moves ?_ (Foot.sub1 (by decide +kernel) (Foot.holds_same (.head _))) (fun x1 h1 => ?_)
  · exact Moves.refl _
  · refine State.locked_moves ?_ (Foot.sub1 (by decide +kernel) (Foot.holds_same (.head _))) (fun x2 h2 => ?_)
    · exact h1
    · refine Moves.seq ?_ (State.hltEval_moves ..) (Foot.sub1 (by decide +kernel) (Foot.holds_same (.tail _ (.head _))))
      refine Moves.seq ?_ (State.put_moves _ _ _ (by first | (dsimp only [F.HLT_CTRL_ISL_FW]; omega) | omega)) (Foot.sub1 (by decide +kernel) (Foot.holds_same (.tail _ (.head _))))
      exact h2

def Foot.bistRefuse : Foot := ⟨[(0x0F1010, 0x0F1010), (0x0F1044, 0x0F1044)], [], []⟩

theorem State.bistRefuse_moves (s : State) (result : Nat) : Moves (Foot.bistRefuse.at []) s (State.bistRefuse s result) := by
  unfold State.bistRefuse
  refine Moves.seq ?_ (State.raise_moves ..) (Foot.sub1 (by decide +kernel) (Foot.holds_reg (by decide +kernel)))
  refine Moves.seq ?_ (State.put_moves _ _ _ (by decide)) (Foot.sub1 (by decide +kernel) (Foot.holds_reg (by decide +kernel)))
  exact Moves.refl _

def Foot.sessionRecord : Foot := ⟨[], [], [.evq]⟩

theorem State.sessionRecord_moves (s : State) (state : Nat) : Moves (Foot.sessionRecord.at []) s (State.sessionRecord s state) := by
  unfold State.sessionRecord
  refine Moves.seq ?_ (State.post_moves ..) (Foot.sub0 (by decide +kernel))
  exact Moves.refl _

def Foot.withdraw : Foot :=
  ⟨[(0x000054, 0x000054), (0x005040, 0x005040), (0x011010, 0x011010), (0x011040, 0x011048), (0x012010,
    0x012010), (0x012040, 0x012048), (0x013058, 0x013058), (0x021010, 0x021010), (0x021040, 0x021048), (0x022010, 0x022010), (0x022040,
    0x022048), (0x023058, 0x023058), (0x060010, 0x060010), (0x060044, 0x060044), (0x090010, 0x090010), (0x090058, 0x090064), (0x091010,
    0x091010), (0x091050, 0x091058), (0x093060, 0x093060), (0x0A0040, 0x0A0040), (0x0C1048, 0x0C10B8), (0x0C1100, 0x0C1100), (0x100010,
    0x100010), (0x100064, 0x100064)], [], [.out, .evq, .ports, .beam, .tim, .hlt, .psc]⟩

theorem State.withdraw_moves (s : State) (n : Nat) :
    Moves (Foot.withdraw.at [(65536 * n, 65536 * n + 65535)]) s (State.withdraw s n) := by
  unfold State.withdraw
  extract_lets -merge -underBinder +onlyGivenNames x1
  refine Moves.let_ x1 ?_ ?_
  · subst x1
    refine Moves.ite (fun hc => ?_) (fun hc => ?_)
    · refine Moves.seq ?_ (State.stopFunctions_moves ..) (Foot.sub0 (by decide +kernel))
      exact Moves.refl _
    · exact Moves.refl _
  intro h1
  try clear_value x1
  extract_lets -merge -underBinder +onlyGivenNames x2
  refine Moves.let_ x2 ?_ ?_
  · subst x2
    refine Moves.seq ?_ (State.showPages_moves ..) (Foot.sub1 (by decide +kernel) (Foot.holds_same (.head _)))
    exact h1
  intro h2
  try clear_value x2
  extract_lets -merge -underBinder +onlyGivenNames x3
  refine Moves.let_ x3 ?_ ?_
  · subst x3
    refine Moves.ite (fun hc => ?_) (fun hc => ?_)
    · refine Moves.seq ?_ (State.gmUpdate_moves ..) (Foot.sub0 (by decide +kernel))
      refine Moves.seq ?_ (State.sgwMute_moves ..) (Foot.sub0 (by decide +kernel))
      exact h2
    · exact h2
  intro h3
  try clear_value x3
  refine Moves.seq ?_ (State.modHlt_moves ..) (Foot.sub0 (by decide +kernel))
  exact h3

def Foot.startUnit : Foot := ⟨[], [], [.out, .evq, .allRegs, .ports, .beam, .fab, .tim, .hlt, .psc]⟩

theorem State.startUnit_moves (s : State) : Moves (Foot.startUnit.at []) s (State.startUnit s) := by
  unfold State.startUnit
  split
  · exact Moves.refl _
  · split
    · exact Moves.refl _
    · extract_lets -merge -underBinder +onlyGivenNames x1
      refine Moves.let_ x1 ?_ ?_
      · subst x1
        refine Moves.seq ?_ (State.put_moves _ _ _ (by decide)) (Foot.sub1 (by decide +kernel) (Foot.holds_all (by decide +kernel)))
        refine Moves.seq ?_ (State.put_moves _ _ _ (by decide)) (Foot.sub1 (by decide +kernel) (Foot.holds_all (by decide +kernel)))
        exact Moves.refl _
      intro h1
      try clear_value x1
      refine Moves.ite (fun hc => ?_) (fun hc => ?_)
      · extract_lets -merge -underBinder +onlyGivenNames x2
        refine Moves.let_ x2 ?_ ?_
        · subst x2
          refine Moves.seq ?_ (State.put_moves _ _ _ (by decide)) (Foot.sub1 (by decide +kernel) (Foot.holds_all (by decide +kernel)))
          refine Moves.seq ?_ (State.put_moves _ _ _ (by decide)) (Foot.sub1 (by decide +kernel) (Foot.holds_all (by decide +kernel)))
          exact h1
        intro h2
        try clear_value x2
        refine Moves.ite (fun hc => ?_) (fun hc => ?_)
        · exact h2
        · extract_lets -merge -underBinder +onlyGivenNames x3
          subst x3
          extract_lets -merge -underBinder +onlyGivenNames x4
          refine Moves.let_ x4 ?_ ?_
          · subst x4
            refine Moves.seq ?_ (Moves.upd_fab _ _) (Foot.sub0 (by decide +kernel))
            exact h2
          intro h4
          try clear_value x4
          refine Moves.seq ?_ (State.wr_moves _ _ (by decide)) (Foot.sub1 (by decide +kernel) (Foot.holds_all (by decide +kernel)))
          exact h4
      · extract_lets -merge -underBinder +onlyGivenNames x5
        refine Moves.let_ x5 ?_ ?_
        · subst x5
          refine Moves.ite (fun hc => ?_) (fun hc => ?_)
          · exact h1
          · refine Moves.seq ?_ (State.withdraw_moves ..) (Foot.sub1 (by decide +kernel) (Foot.holds_all (by decide +kernel)))
            exact h1
        intro h5
        try clear_value x5
        extract_lets -merge -underBinder +onlyGivenNames x6
        refine Moves.let_ x6 ?_ ?_
        · subst x6
          refine Moves.ite (fun hc => ?_) (fun hc => ?_)
          · refine Moves.seq ?_ (State.put_moves _ _ _ (by decide)) (Foot.sub1 (by decide +kernel) (Foot.holds_all (by decide +kernel)))
            exact h5
          · exact h5
        intro h6
        try clear_value x6
        refine Moves.seq ?_ (State.put_moves _ _ _ (by decide)) (Foot.sub1 (by decide +kernel) (Foot.holds_all (by decide +kernel)))
        exact h6

def Foot.bistGo : Foot := ⟨[], [], [.out, .evq, .allRegs, .lines, .ports, .beam, .fab, .tim, .wake, .twn, .hlt, .psc]⟩

theorem State.bistGo_moves (s : State) (v : Word) : Moves (Foot.bistGo.at []) s (State.bistGo s v) := by
  unfold State.bistGo
  extract_lets -merge -underBinder +onlyGivenNames x1
  subst x1
  extract_lets -merge -underBinder +onlyGivenNames x2
  subst x2
  refine Moves.ite (fun hc => ?_) (fun hc => ?_)
  · refine Moves.seq ?_ (State.bistRefuse_moves ..) (Foot.sub0 (by decide +kernel))
    exact Moves.refl _
  · refine Moves.ite (fun hc => ?_) (fun hc => ?_)
    · refine Moves.seq ?_ (State.bistRefuse_moves ..) (Foot.sub0 (by decide +kernel))
      exact Moves.refl _
    · refine Moves.ite (fun hc => ?_) (fun hc => ?_)
      · refine Moves.seq ?_ (State.bistRefuse_moves ..) (Foot.sub0 (by decide +kernel))
        exact Moves.refl _
      · extract_lets -merge -underBinder +onlyGivenNames x3
        refine Moves.let_ x3 ?_ ?_
        · subst x3
          refine Moves.ite (fun hc => ?_) (fun hc => ?_)
          · refine Moves.seq ?_ (State.isolate_moves ..) (Foot.sub0 (by decide +kernel))
            exact Moves.refl _
          · exact Moves.refl _
        intro h3
        try clear_value x3
        extract_lets -merge -underBinder +onlyGivenNames x4
        refine Moves.let_ x4 ?_ ?_
        · subst x4
          refine Moves.seq ?_ (State.modHlt_moves ..) (Foot.sub0 (by decide +kernel))
          exact h3
        intro h4
        try clear_value x4
        extract_lets -merge -underBinder +onlyGivenNames x5
        refine Moves.let_ x5 ?_ ?_
        · subst x5
          refine Moves.ite (fun hc => ?_) (fun hc => ?_)
          · refine Moves.seq ?_ (State.sessionRecord_moves ..) (Foot.sub0 (by decide +kernel))
            exact h4
          · exact h4
        intro h5
        try clear_value x5
        refine Moves.seq ?_ (State.startUnit_moves ..) (Foot.sub0 (by decide +kernel))
        exact h5

def Foot.bistCmd : Foot := ⟨[], [], [.out, .evq, .allRegs, .lines, .ports, .beam, .fab, .tim, .wake, .twn, .hlt, .psc]⟩

theorem State.bistCmd_moves (s : State) (q : Requester) (v : Word) : Moves (Foot.bistCmd.at []) s (State.bistCmd s q v) := by
  unfold State.bistCmd
  refine State.locked_moves ?_ (Foot.sub1 (by decide +kernel) (Foot.holds_all (by decide +kernel))) (fun x1 h1 => ?_)
  · exact Moves.refl _
  · extract_lets -merge -underBinder +onlyGivenNames x2
    refine Moves.let_ x2 ?_ ?_
    · subst x2
      refine Moves.seq ?_ (State.wr_moves _ _ (by decide)) (Foot.sub1 (by decide +kernel) (Foot.holds_all (by decide +kernel)))
      exact h1
    intro h2
    try clear_value x2
    refine Moves.ite (fun hc => ?_) (fun hc => ?_)
    · refine Moves.seq ?_ (State.bistGo_moves ..) (Foot.sub0 (by decide +kernel))
      exact h2
    · exact h2

def Foot.bistRecord : Foot := ⟨[], [], [.evq]⟩

theorem State.bistRecord_moves (s : State) (d : DueVerdict) (result : Nat) :
    Moves (Foot.bistRecord.at []) s (State.bistRecord s d result) := by
  unfold State.bistRecord
  refine Moves.seq ?_ (State.post_moves ..) (Foot.sub0 (by decide +kernel))
  exact Moves.refl _

def Foot.sessionFinish : Foot :=
  ⟨[(0x003010, 0x003010), (0x003040, 0x003040), (0x003050, 0x003050), (0x00306C, 0x00306C), (0x005040,
    0x005040), (0x010010, 0x010010), (0x010048, 0x010048), (0x011010, 0x011010), (0x011040, 0x011048), (0x012010, 0x012010), (0x012040,
    0x012048), (0x013010, 0x013010), (0x013040, 0x013040), (0x013048, 0x013058), (0x020010, 0x020010), (0x020048, 0x020048), (0x021010,
    0x021010), (0x021040, 0x021048), (0x022010, 0x022010), (0x022040, 0x022048), (0x023010, 0x023010), (0x023040, 0x023040), (0x023048,
    0x023058), (0x060010, 0x060010), (0x060044, 0x060044), (0x090010, 0x090010), (0x090058, 0x090064), (0x091010, 0x091010), (0x091050,
    0x091058), (0x093060, 0x093060), (0x0A0010, 0x0A0010), (0x0A0040, 0x0A0040), (0x0A0060, 0x0A0060), (0x0A2044, 0x0A2044), (0x100010,
    0x100010), (0x100064, 0x100064)], [], [.out, .evq, .lines, .ports, .beam, .fab, .tim, .wake, .twn, .hlt]⟩

theorem State.sessionFinish_moves (s : State) : Moves (Foot.sessionFinish.at []) s (State.sessionFinish s) := by
  unfold State.sessionFinish
  split
  · exact Moves.refl _
  · refine Moves.ite (fun hc => ?_) (fun hc => ?_)
    · exact Moves.refl _
    · extract_lets -merge -underBinder +onlyGivenNames x1
      refine Moves.let_ x1 ?_ ?_
      · subst x1
        refine Moves.seq ?_ (State.modHlt_moves ..) (Foot.sub0 (by decide +kernel))
        exact Moves.refl _
      intro h1
      try clear_value x1
      refine Moves.ite (fun hc => ?_) (fun hc => ?_)
      · refine Moves.seq ?_ (State.rejoin_moves ..) (Foot.sub0 (by decide +kernel))
        exact h1
      · exact h1

def Foot.repairDrop : Foot := ⟨[(0x0F2048, 0x0F2048)], [], [.pwr]⟩

theorem State.repairDrop_moves (s : State) (m : Nat) (kind : Nat) : Moves (Foot.repairDrop.at []) s (State.repairDrop s m kind) := by
  unfold State.repairDrop
  refine Moves.ite (fun hc => ?_) (fun hc => ?_)
  · refine Moves.seq ?_ (State.repairDue_moves ..) (Foot.sub0 (by decide +kernel))
    refine Moves.seq ?_ (State.modPwr_moves ..) (Foot.sub0 (by decide +kernel))
    exact Moves.refl _
  · exact Moves.refl _

def Foot.islandPassed : Foot :=
  ⟨[(0x000054, 0x000054), (0x002040, 0x002040), (0x010040, 0x010040), (0x010048, 0x010048), (0x020040,
    0x020040), (0x020048, 0x020048), (0x032054, 0x032058), (0x032060, 0x03206C), (0x060010, 0x060010), (0x060044, 0x060044), (0x07010C,
    0x088060), (0x090010, 0x090010), (0x090058, 0x090064), (0x091010, 0x091010), (0x091050, 0x091058), (0x09304C, 0x093050), (0x093060,
    0x093060), (0x0A0040, 0x0A0040), (0x0A1040, 0x0A1040), (0x0E0010, 0x0E0010), (0x0E0048, 0x0E0054), (0x0E2010, 0x0E2010), (0x0E204C,
    0x0E2050), (0x0F0010, 0x0F0010), (0x0F0040, 0x0F0040), (0x0F0080, 0x0F00C0), (0x0F1044, 0x0F1044), (0x0F2048, 0x0F204C), (0x100080,
    0x100084)], [], [.mem, .evq, .evqCut, .evtCut, .acc, .lines, .ports, .top, .beam, .fab, .tim, .cans, .twn, .hlt, .sgw, .psc,
    .recorder, .pwr, .mgt]⟩

theorem State.islandPassed_moves (s : State) (isl : Nat) :
    Moves (Foot.islandPassed.at [(983168 + 4 * (isl % 17), 983168 + 4 * (isl % 17)), (65536 * isl, 65536 * isl + 65535),
      (4224 + 4 * (isl % 17), 4224 + 4 * (isl % 17))]) s (State.islandPassed s isl) := by
  unfold State.islandPassed
  extract_lets -merge -underBinder +onlyGivenNames x1
  subst x1
  extract_lets -merge -underBinder +onlyGivenNames x2
  refine Moves.let_ x2 ?_ ?_
  · subst x2
    refine Moves.seq ?_ (State.modHlt_moves ..) (Foot.sub0 (by decide +kernel))
    refine Moves.seq ?_ (State.repairDrop_moves ..) (Foot.sub0 (by decide +kernel))
    exact Moves.refl _
  intro h2
  try clear_value x2
  extract_lets -merge -underBinder +onlyGivenNames x3
  refine Moves.let_ x3 ?_ ?_
  · subst x3
    refine Moves.seq ?_ (State.follow_moves ..) (Foot.sub1 (by decide +kernel) (Foot.holds_same (.head _)))
    exact h2
  intro h3
  try clear_value x3
  refine Moves.ite (fun hc => ?_) (fun hc => ?_)
  · refine Moves.seq ?_ (State.restoreIsland_moves ..) (Foot.sub_at (by decide +kernel) (Foot.own_cons (Foot.holds_same (.tail _ (.head _))) (Foot.own_cons (Foot.holds_same (.tail _ (.tail _ (.head _)))) Foot.own_nil)))
    exact h3
  · exact h3

def Foot.notGood : Foot := ⟨[], [], [.hlt]⟩

theorem State.notGood_moves (s : State) : Moves (Foot.notGood.at []) s (State.notGood s) := by
  unfold State.notGood
  refine Moves.seq ?_ (State.modHlt_moves ..) (Foot.sub0 (by decide +kernel))
  exact Moves.refl _

def Foot.bistFails : Foot := ⟨[(0x0F1010, 0x0F1010), (0x0F1050, 0x0F1050)], [], [.hlt]⟩

theorem State.bistFails_moves (s : State) : Moves (Foot.bistFails.at []) s (State.bistFails s) := by
  unfold State.bistFails
  refine Moves.seq ?_ (State.notGood_moves ..) (Foot.sub0 (by decide +kernel))
  refine Moves.seq ?_ (State.raise_moves ..) (Foot.sub1 (by decide +kernel) (Foot.holds_reg (by decide +kernel)))
  refine Moves.seq ?_ (State.satInc_moves _ _ (by decide)) (Foot.sub1 (by decide +kernel) (Foot.holds_reg (by decide +kernel)))
  exact Moves.refl _

def Foot.retireIsland : Foot :=
  ⟨[(0x000054, 0x000054), (0x005040, 0x005040), (0x011010, 0x011010), (0x011040, 0x011048), (0x012010,
    0x012010), (0x012040, 0x012048), (0x013058, 0x013058), (0x021010, 0x021010), (0x021040, 0x021048), (0x022010, 0x022010), (0x022040,
    0x022048), (0x023058, 0x023058), (0x060010, 0x060010), (0x060044, 0x060044), (0x090010, 0x090010), (0x090058, 0x090064), (0x091010,
    0x091010), (0x091050, 0x091058), (0x093060, 0x093060), (0x0A0040, 0x0A0040), (0x0C1048, 0x0C10B8), (0x0C1100, 0x0C1100), (0x0F2048,
    0x0F2048), (0x100010, 0x100010), (0x100064, 0x100064)], [], [.out, .evq, .ports, .beam, .tim, .hlt, .psc, .pwr]⟩

theorem State.retireIsland_moves (s : State) (isl : Nat) :
    Moves (Foot.retireIsland.at [(65536 * isl, 65536 * isl + 65535)]) s (State.retireIsland s isl) := by
  unfold State.retireIsland
  extract_lets -merge -underBinder +onlyGivenNames x1
  refine Moves.let_ x1 ?_ ?_
  · subst x1
    refine Moves.seq ?_ (State.modHlt_moves ..) (Foot.sub0 (by decide +kernel))
    refine Moves.seq ?_ (State.repairAdd_moves ..) (Foot.sub0 (by decide +kernel))
    exact Moves.refl _
  intro h1
  try clear_value x1
  refine Moves.ite (fun hc => ?_) (fun hc => ?_)
  · exact h1
  · refine Moves.seq ?_ (State.retireView_moves ..) (Foot.sub1 (by decide +kernel) (Foot.holds_same (.head _)))
    refine Moves.seq ?_ (State.withdraw_moves ..) (Foot.sub1 (by decide +kernel) (Foot.holds_same (.head _)))
    exact h1

end Sys2Proof.Machine
end

