-- ==== Sys2Proof/Laws/Foot07.lean ====
section
/-!
SUPPORT. What the operations may touch: one footprint and one lemma each.
-/

namespace Sys2Proof.Machine

set_option Elab.async false

def Foot.verdict : Foot :=
  ⟨[], [], [.mem, .out, .evq, .evqCut, .evtCut, .allRegs, .acc, .lines, .ports, .top, .beam, .fab, .tim,
    .cans, .wake, .twn, .hlt, .sgw, .psc, .recorder, .pwr, .mgt]⟩

theorem State.verdict_moves (s : State) (pass : Bool) : Moves (Foot.verdict.at []) s (State.verdict s pass) := by
  unfold State.verdict
  split
  · exact Moves.refl _
  · extract_lets -merge -underBinder +onlyGivenNames x1
    refine Moves.let_ x1 ?_ ?_
    · subst x1
      refine Moves.seq ?_ (State.modHlt_moves ..) (Foot.sub0 (by decide +kernel))
      exact Moves.refl _
    intro h1
    try clear_value x1
    refine Moves.ite (fun hc => ?_) (fun hc => ?_)
    · extract_lets -merge -underBinder +onlyGivenNames x2
      refine Moves.let_ x2 ?_ ?_
      · subst x2
        refine Moves.seq ?_ (State.bistRecord_moves ..) (Foot.sub0 (by decide +kernel))
        refine Moves.seq ?_ (State.put_moves _ _ _ (by decide)) (Foot.sub1 (by decide +kernel) (Foot.holds_all (by decide +kernel)))
        exact h1
      intro h2
      try clear_value x2
      extract_lets -merge -underBinder +onlyGivenNames x3
      refine Moves.let_ x3 ?_ ?_
      · subst x3
        refine Moves.ite (fun hc => ?_) (fun hc => ?_)
        · refine Moves.seq ?_ (State.satInc_moves _ _ (by decide)) (Foot.sub1 (by decide +kernel) (Foot.holds_all (by decide +kernel)))
          exact h2
        · exact h2
      intro h3
      try clear_value x3
      refine Moves.seq ?_ (State.sessionFinish_moves ..) (Foot.sub0 (by decide +kernel))
      refine Moves.ite (fun hc => ?_) (fun hc => ?_)
      · refine Moves.seq ?_ (State.islandPassed_moves ..) (Foot.sub_at (by decide +kernel) (Foot.own_cons (Foot.holds_all (by decide +kernel)) (Foot.own_cons (Foot.holds_all (by decide +kernel)) (Foot.own_cons (Foot.holds_all (by decide +kernel)) Foot.own_nil))))
        exact h3
      · exact h3
    · extract_lets -merge -underBinder +onlyGivenNames x4
      refine Moves.let_ x4 ?_ ?_
      · subst x4
        refine Moves.seq ?_ (State.put_moves _ _ _ (by decide)) (Foot.sub1 (by decide +kernel) (Foot.holds_all (by decide +kernel)))
        exact h1
      intro h4
      try clear_value x4
      extract_lets -merge -underBinder +onlyGivenNames x5
      refine Moves.let_ x5 ?_ ?_
      · subst x5
        refine Moves.ite (fun hc => ?_) (fun hc => ?_)
        · refine Moves.seq ?_ (State.bistFails_moves ..) (Foot.sub0 (by decide +kernel))
          exact h4
        · refine Moves.seq ?_ (State.notGood_moves ..) (Foot.sub0 (by decide +kernel))
          exact h4
      intro h5
      try clear_value x5
      extract_lets -merge -underBinder +onlyGivenNames x6
      refine Moves.let_ x6 ?_ ?_
      · subst x6
        refine Moves.seq ?_ (State.modHlt_moves ..) (Foot.sub0 (by decide +kernel))
        refine Moves.seq ?_ (State.bistRecord_moves ..) (Foot.sub0 (by decide +kernel))
        exact h5
      intro h6
      try clear_value x6
      extract_lets -merge -underBinder +onlyGivenNames x7
      refine Moves.let_ x7 ?_ ?_
      · subst x7
        refine Moves.seq ?_ (State.follow_moves ..) (Foot.sub1 (by decide +kernel) (Foot.holds_all (by decide +kernel)))
        exact h6
      intro h7
      try clear_value x7
      refine Moves.seq ?_ (State.sessionFinish_moves ..) (Foot.sub0 (by decide +kernel))
      refine Moves.ite (fun hc => ?_) (fun hc => ?_)
      · refine Moves.seq ?_ (State.retireIsland_moves ..) (Foot.sub1 (by decide +kernel) (Foot.holds_all (by decide +kernel)))
        exact h7
      · exact h7

def Foot.verdictWrite : Foot :=
  ⟨[], [], [.mem, .out, .evq, .evqCut, .evtCut, .allRegs, .acc, .lines, .ports, .top, .beam, .fab,
    .tim, .cans, .wake, .twn, .hlt, .sgw, .psc, .recorder, .pwr, .mgt]⟩

theorem State.verdictWrite_moves (s : State) (q : Requester) (v : Word) :
    Moves (Foot.verdictWrite.at []) s (State.verdictWrite s q v) := by
  unfold State.verdictWrite
  refine State.firmwareOnly_moves ?_ (Foot.sub1 (by decide +kernel) (Foot.holds_all (by decide +kernel))) (fun x1 h1 => ?_)
  · exact Moves.refl _
  · refine State.locked_moves ?_ (Foot.sub1 (by decide +kernel) (Foot.holds_all (by decide +kernel))) (fun x2 h2 => ?_)
    · exact h1
    · extract_lets -merge -underBinder +onlyGivenNames x3
      subst x3
      extract_lets -merge -underBinder +onlyGivenNames x4
      refine Moves.let_ x4 ?_ ?_
      · subst x4
        refine Moves.seq ?_ (State.put_moves _ _ _ (by decide)) (Foot.sub1 (by decide +kernel) (Foot.holds_all (by decide +kernel)))
        exact h2
      intro h4
      try clear_value x4
      split
      · refine Moves.seq ?_ (State.verdict_moves ..) (Foot.sub0 (by decide +kernel))
        exact h4
      · refine Moves.seq ?_ (State.verdict_moves ..) (Foot.sub0 (by decide +kernel))
        exact h4
      · exact h4

def Foot.excludeCheck : Foot :=
  ⟨[(0x000054, 0x000054), (0x0F0010, 0x0F0010), (0x0F0040, 0x0F0040), (0x0F0080, 0x0F0080), (0x0F3010,
    0x0F3010), (0x0F306C, 0x0F306C)], [], [.evq, .hlt]⟩

theorem State.excludeCheck_moves (s : State) (k : Nat) : Moves (Foot.excludeCheck.at []) s (State.excludeCheck s k) := by
  unfold State.excludeCheck
  refine Moves.ite (fun hc => ?_) (fun hc => ?_)
  · exact Moves.refl _
  · refine Moves.seq ?_ (State.follow_moves ..) (Foot.sub1 (by decide +kernel) (Foot.holds_reg (by decide +kernel)))
    refine Moves.seq ?_ (State.raise_moves ..) (Foot.sub1 (by decide +kernel) (Foot.holds_reg (by decide +kernel)))
    refine Moves.seq ?_ (State.put_moves _ _ _ (by decide)) (Foot.sub1 (by decide +kernel) (Foot.holds_reg (by decide +kernel)))
    exact Moves.refl _

def Foot.iroRecal : Foot := ⟨[(0x0F306C, 0x0F306C)], [], [.evq]⟩

theorem State.iroRecal_moves (s : State) (dev : Int) : Moves (Foot.iroRecal.at []) s (State.iroRecal s dev) := by
  unfold State.iroRecal
  refine Moves.ite (fun hc => ?_) (fun hc => ?_)
  · exact Moves.refl _
  · extract_lets -merge -underBinder +onlyGivenNames x1
    subst x1
    extract_lets -merge -underBinder +onlyGivenNames x2
    subst x2
    refine Moves.ite (fun hc => ?_) (fun hc => ?_)
    · exact Moves.refl _
    · refine Moves.seq ?_ (State.post_moves ..) (Foot.sub0 (by decide +kernel))
      refine Moves.seq ?_ (State.put_moves _ _ _ (by decide)) (Foot.sub1 (by decide +kernel) (Foot.holds_reg (by decide +kernel)))
      exact Moves.refl _

def Foot.sensCmd : Foot :=
  ⟨[(0x000054, 0x000054), (0x0F0010, 0x0F0010), (0x0F0040, 0x0F0040), (0x0F0080, 0x0F0080), (0x0F3010,
    0x0F3010), (0x0F3040, 0x0F3064), (0x0F306C, 0x0F306C)], [], [.evq, .hlt]⟩

theorem State.sensCmd_moves (s : State) (v : Word) (dev : Int) : Moves (Foot.sensCmd.at []) s (State.sensCmd s v dev) := by
  unfold State.sensCmd
  extract_lets -merge -underBinder +onlyGivenNames x1
  refine Moves.let_ x1 ?_ ?_
  · subst x1
    refine Moves.ite (fun hc => ?_) (fun hc => ?_)
    · refine Moves.foldl _ (fun x2 _ h2 => ?_) _ ?_
      · refine Moves.seq ?_ (State.excludeCheck_moves ..) (Foot.sub0 (by decide +kernel))
        exact h2
      · refine Moves.seq ?_ (State.iroRecal_moves ..) (Foot.sub0 (by decide +kernel))
        exact Moves.refl _
    · exact Moves.refl _
  intro h1
  try clear_value x1
  refine Moves.ite (fun hc => ?_) (fun hc => ?_)
  · refine Moves.foldl _ (fun x3 _ h3 => ?_) _ ?_
    · refine Moves.seq ?_ (State.put_moves _ _ _ (by first | (dsimp only [F.HLT_SENS_V_MAX]; omega) | omega)) (Foot.sub1 (by decide +kernel) (Foot.holds_range 995392 995428 (by decide +kernel) (by first | (dsimp only [F.HLT_SENS_V_MAX]; omega) | omega) (by first | (dsimp only [F.HLT_SENS_V_MAX]; omega) | omega)))
      exact h3
    · exact h1
  · exact h1

def Foot.writeHlt : Foot :=
  ⟨[], [], [.mem, .out, .evq, .evqCut, .evtCut, .allRegs, .fresh, .acc, .lines, .ports, .top, .beam, .fab,
    .tim, .cans, .wake, .twn, .hlt, .sgw, .psc, .recorder, .pwr, .mgt]⟩

theorem State.writeHlt_moves (s : State) (q : Requester) (off : Nat) (v : Word) :
    Moves (Foot.writeHlt.at []) s (State.writeHlt s q off v) := by
  unfold State.writeHlt
  extract_lets -merge -underBinder +onlyGivenNames x1
  subst x1
  refine Moves.ite (fun hc => ?_) (fun hc => ?_)
  · refine Moves.seq ?_ (State.fwLevelWrite_moves ..) (Foot.sub_at (by decide +kernel) (Foot.own_cons (Foot.holds_all (by decide +kernel)) (Foot.own_cons (Foot.holds_all (by decide +kernel)) Foot.own_nil)))
    exact Moves.refl _
  · refine Moves.ite (fun hc => ?_) (fun hc => ?_)
    · refine Moves.seq ?_ (State.bistCmd_moves ..) (Foot.sub0 (by decide +kernel))
      exact Moves.refl _
    · refine Moves.ite (fun hc => ?_) (fun hc => ?_)
      · refine Moves.seq ?_ (State.verdictWrite_moves ..) (Foot.sub0 (by decide +kernel))
        exact Moves.refl _
      · refine Moves.ite (fun hc => ?_) (fun hc => ?_)
        · refine Moves.seq ?_ (State.sensCmd_moves ..) (Foot.sub0 (by decide +kernel))
          refine Moves.seq ?_ (State.used_moves ..) (Foot.sub0 (by decide +kernel))
          exact Moves.refl _
        · refine Moves.seq ?_ (State.storePlain_moves ..) (Foot.sub_at (by decide +kernel) (Foot.own_cons (Foot.holds_all (by decide +kernel)) (Foot.own_cons (Foot.holds_all (by decide +kernel)) Foot.own_nil)))
          exact Moves.refl _

def Foot.flapHoldEnd : Foot := ⟨[(0x100064, 0x100064)], [], [.ports]⟩

theorem State.flapHoldEnd_moves (s : State) (p : BPort) :
    Moves (Foot.flapHoldEnd.at [(69696 + 65536 * (p.line.idx % 2) + 4096 * (p.side % 2), 69696 + 65536 * (p.line.idx % 2) + 4096 *
      (p.side % 2))]) s (State.flapHoldEnd s p) := by
  unfold State.flapHoldEnd
  refine Moves.ite (fun hc => ?_) (fun hc => ?_)
  · exact Moves.refl _
  · extract_lets -merge -underBinder +onlyGivenNames x1
    subst x1
    extract_lets -merge -underBinder +onlyGivenNames x2
    refine Moves.let_ x2 ?_ ?_
    · subst x2
      refine Moves.seq ?_ (State.setPort_moves ..) (Foot.sub0 (by decide +kernel))
      refine Moves.seq ?_ (State.putB_moves _ _ _ (by show 1048676 % 4096 ≠ 16; decide)) (Foot.sub1 (by decide +kernel) (Foot.holds_reg (lo := 1048676) (hi := 1048676) (by decide +kernel)))
      exact Moves.refl _
    intro h2
    try clear_value x2
    refine Moves.ite (fun hc => ?_) (fun hc => ?_)
    · refine Moves.seq ?_ (State.put_moves _ _ _ (by first | (dsimp only [F.BL_P_STAT_TSTATE]; omega) | omega)) (Foot.sub1 (by decide +kernel) (Foot.holds_same (.head _)))
      exact h2
    · exact h2

def Foot.topCmd : Foot :=
  ⟨[(0x011040, 0x011040), (0x012040, 0x012040), (0x021040, 0x021040), (0x022040, 0x022040), (0x100010,
    0x100010), (0x100044, 0x100044), (0x100064, 0x10006C)], [], [.mem, .out, .evq, .ports, .top, .beam, .fab]⟩

theorem State.topCmd_moves (s : State) (q : Requester) (v : Word) : Moves (Foot.topCmd.at []) s (State.topCmd s q v) := by
  unfold State.topCmd
  refine State.locked_moves ?_ (Foot.sub1 (by decide +kernel) (Foot.holds_reg (by decide +kernel))) (fun x1 h1 => ?_)
  · exact Moves.refl _
  · extract_lets -merge -underBinder +onlyGivenNames x2
    refine Moves.let_ x2 ?_ ?_
    · subst x2
      refine Moves.ite (fun hc => ?_) (fun hc => ?_)
      · refine Moves.foldl _ (fun x3 _ h3 => ?_) _ ?_
        · refine Moves.seq ?_ (State.setPort_moves ..) (Foot.sub0 (by decide +kernel))
          refine Moves.seq ?_ (State.flapHoldEnd_moves ..) (Foot.sub1 (by decide +kernel) (Foot.holds_four 139328 135232 73792 69696 (by decide +kernel) (by decide +kernel) (by decide +kernel) (by decide +kernel) (by first | omega | (dsimp only; omega))))
          exact h3
        · exact h1
      · exact h1
    intro h2
    try clear_value x2
    refine Moves.ite (fun hc => ?_) (fun hc => ?_)
    · refine Moves.seq ?_ (State.trigger_moves ..) (Foot.sub0 (by decide +kernel))
      exact h2
    · exact h2

def Foot.giveKeys : Foot := ⟨[(0x031010, 0x031010), (0x031090, 0x031090)], [], [.mem, .evq, .fab]⟩

theorem State.giveKeys_moves (s : State) (i : Nat) (shadow : Bool) (a : Nat) (b : Nat) :
    Moves (Foot.giveKeys.at []) s (State.giveKeys s i shadow a b) := by
  unfold State.giveKeys
  refine Moves.ite (fun hc => ?_) (fun hc => ?_)
  · exact Moves.refl _
  · refine Moves.foldl _ (fun x1 _ h1 => ?_) _ ?_
    · split
      · rename_i ht
        exact Moves.seq h1 (State.insertKey_moves _ _ _ _ _ _ _ ht) (Foot.sub0 (by decide +kernel))
      · refine Moves.seq ?_ (State.hashFull_moves ..) (Foot.sub0 (by decide +kernel))
        exact h1
    · exact Moves.refl _

def Foot.rebind : Foot := ⟨[(0x031010, 0x031010), (0x031090, 0x031090)], [], [.mem, .evq, .fab]⟩

theorem State.rebind_moves (s : State) (k : Nat) : Moves (Foot.rebind.at []) s (State.rebind s k) := by
  unfold State.rebind
  refine Moves.foldl _ (fun x1 _ h1 => ?_) _ ?_
  · extract_lets -merge -underBinder +onlyGivenNames x2
    subst x2
    extract_lets -merge -underBinder +onlyGivenNames x3
    subst x3
    refine Moves.ite (fun hc => ?_) (fun hc => ?_)
    · extract_lets -merge -underBinder +onlyGivenNames x4
      refine Moves.let_ x4 ?_ ?_
      · subst x4
        refine Moves.seq ?_ (State.mapWays_moves ..) (Foot.sub0 (by decide +kernel))
        refine Moves.seq ?_ (State.writeTargets_moves ..) (Foot.sub0 (by decide +kernel))
        exact h1
      intro h4
      try clear_value x4
      refine Moves.seq ?_ (State.setSusp_moves ..) (Foot.sub0 (by decide +kernel))
      refine Moves.seq ?_ (State.giveKeys_moves ..) (Foot.sub0 (by decide +kernel))
      exact h4
    · exact h1
  · exact Moves.refl _

def Foot.bindStore : Foot :=
  ⟨[(0x031010, 0x031010), (0x031090, 0x031090), (0x100010, 0x100010), (0x100064, 0x100064)], [], [.mem,
    .evq, .fab]⟩

theorem State.bindStore_moves (s : State) (i : Nat) (b : List Byte) : Moves (Foot.bindStore.at []) s (State.bindStore s i b) := by
  unfold State.bindStore
  extract_lets -merge -underBinder +onlyGivenNames x1
  refine Moves.let_ x1 ?_ ?_
  · subst x1
    refine Moves.seq ?_ (State.wrBytes_moves ..) (Foot.sub0 (by decide +kernel))
    exact Moves.refl _
  intro h1
  try clear_value x1
  extract_lets -merge -underBinder +onlyGivenNames x2
  subst x2
  extract_lets -merge -underBinder +onlyGivenNames x3
  refine Moves.let_ x3 ?_ ?_
  · subst x3
    refine Moves.seq ?_ (State.wrBytes_moves ..) (Foot.sub0 (by decide +kernel))
    exact h1
  intro h3
  try clear_value x3
  extract_lets -merge -underBinder +onlyGivenNames x4
  refine Moves.let_ x4 ?_ ?_
  · subst x4
    refine Moves.ite (fun hc => ?_) (fun hc => ?_)
    · refine Moves.seq ?_ (State.raise_moves ..) (Foot.sub1 (by decide +kernel) (Foot.holds_reg (by decide +kernel)))
      refine Moves.seq ?_ (State.putB_moves _ _ _ (by decide)) (Foot.sub1 (by decide +kernel) (Foot.holds_reg (by decide +kernel)))
      exact h3
    · exact h3
  intro h4
  try clear_value x4
  refine Moves.ite (fun hc => ?_) (fun hc => ?_)
  · refine Moves.seq ?_ (State.rebind_moves ..) (Foot.sub0 (by decide +kernel))
    exact h4
  · exact h4

def Foot.tblCmd : Foot :=
  ⟨[(0x031010, 0x031010), (0x031090, 0x031090), (0x100010, 0x100010), (0x100064, 0x100064), (0x101010,
    0x101010)], [], [.mem, .evq, .fab]⟩

theorem State.tblCmd_moves (s : State) (q : Requester) (v : Word) : Moves (Foot.tblCmd.at []) s (State.tblCmd s q v) := by
  unfold State.tblCmd
  refine State.locked_moves ?_ (Foot.sub1 (by decide +kernel) (Foot.holds_reg (by decide +kernel))) (fun x1 h1 => ?_)
  · exact Moves.refl _
  · refine Moves.ite (fun hc => ?_) (fun hc => ?_)
    · exact h1
    · refine Moves.ite (fun hc => ?_) (fun hc => ?_)
      · refine Moves.seq ?_ (State.raise_moves ..) (Foot.sub1 (by decide +kernel) (Foot.holds_reg (by decide +kernel)))
        exact h1
      · extract_lets -merge -underBinder +onlyGivenNames x2
        subst x2
        extract_lets -merge -underBinder +onlyGivenNames x3
        subst x3
        refine Moves.seq ?_ (State.bindStore_moves ..) (Foot.sub0 (by decide +kernel))
        exact h1

def Foot.etbCtrl : Foot := ⟨[(0x102010, 0x102010), (0x102040, 0x102044)], [], [.evq]⟩

theorem State.etbCtrl_moves (s : State) (q : Requester) (v : Word) : Moves (Foot.etbCtrl.at []) s (State.etbCtrl s q v) := by
  unfold State.etbCtrl
  extract_lets -merge -underBinder +onlyGivenNames x1
  refine Moves.let_ x1 ?_ ?_
  · subst x1
    refine Moves.seq ?_ (State.storePlain_moves ..) (Foot.sub_at (by decide +kernel) (Foot.own_cons (Foot.holds_reg (by decide +kernel)) (Foot.own_cons (Foot.holds_reg (by decide +kernel)) Foot.own_nil)))
    exact Moves.refl _
  intro h1
  try clear_value x1
  refine Moves.ite (fun hc => ?_) (fun hc => ?_)
  · refine Moves.seq ?_ (State.putB_moves _ _ _ (by decide)) (Foot.sub1 (by decide +kernel) (Foot.holds_reg (by decide +kernel)))
    exact h1
  · exact h1

def Foot.slotArm : Foot := ⟨[(0x103010, 0x103010), (0x103048, 0x103048)], [], [.evq, .beam]⟩

theorem State.slotArm_moves (s : State) (q : Requester) (v : Word) : Moves (Foot.slotArm.at []) s (State.slotArm s q v) := by
  unfold State.slotArm
  refine State.locked_moves ?_ (Foot.sub1 (by decide +kernel) (Foot.holds_reg (by decide +kernel))) (fun x1 h1 => ?_)
  · exact Moves.refl _
  · refine Moves.ite (fun hc => ?_) (fun hc => ?_)
    · refine Moves.seq ?_ (State.wr_moves _ _ (by decide)) (Foot.sub1 (by decide +kernel) (Foot.holds_reg (by decide +kernel)))
      refine Moves.seq ?_ (Moves.upd_beam _ _) (Foot.sub0 (by decide +kernel))
      exact h1
    · refine Moves.ite (fun hc => ?_) (fun hc => ?_)
      · refine Moves.seq ?_ (State.raise_moves ..) (Foot.sub1 (by decide +kernel) (Foot.holds_reg (by decide +kernel)))
        exact h1
      · extract_lets -merge -underBinder +onlyGivenNames x2
        subst x2
        refine Moves.seq ?_ (State.wr_moves _ _ (by decide)) (Foot.sub1 (by decide +kernel) (Foot.holds_reg (by decide +kernel)))
        refine Moves.seq ?_ (Moves.upd_beam _ _) (Foot.sub0 (by decide +kernel))
        exact h1

def Foot.slotPending : Foot := ⟨[(0x103010, 0x103010)], [], [.evq]⟩

theorem State.slotPending_moves (s : State) (q : Requester) (off : Nat) (v : Word) :
    Moves (Foot.slotPending.at [(off, off),
      (4096 * (pageOf off / 4096) + 16, 4096 * (pageOf off / 4096) + 16)]) s (State.slotPending s q off v) := by
  unfold State.slotPending
  refine Moves.ite (fun hc => ?_) (fun hc => ?_)
  · refine Moves.seq ?_ (State.raise_moves ..) (Foot.sub1 (by decide +kernel) (Foot.holds_reg (by decide +kernel)))
    exact Moves.refl _
  · refine Moves.seq ?_ (State.storePlain_moves ..) (Foot.sub_at (by decide +kernel) (Foot.own_cons (Foot.holds_same (.head _)) (Foot.own_cons (Foot.holds_same (.tail _ (.head _))) Foot.own_nil)))
    exact Moves.refl _

def Foot.writeTop : Foot :=
  ⟨[(0x011040, 0x011040), (0x012040, 0x012040), (0x021040, 0x021040), (0x022040, 0x022040), (0x031010,
    0x031010), (0x031090, 0x031090), (0x100010, 0x100010), (0x100044, 0x100044), (0x100064, 0x10006C), (0x101010, 0x101010), (0x102010,
    0x102010), (0x102040, 0x102044), (0x103010, 0x103010), (0x103048, 0x103048)], [], [.mem, .out, .evq, .ports, .top, .beam, .fab]⟩

theorem State.writeTop_moves (s : State) (q : Requester) (off : Nat) (v : Word) :
    Moves (Foot.writeTop.at [(off, off),
      (4096 * (pageOf off / 4096) + 16, 4096 * (pageOf off / 4096) + 16)]) s (State.writeTop s q off v) := by
  unfold State.writeTop
  extract_lets -merge -underBinder +onlyGivenNames x1
  subst x1
  refine Moves.ite (fun hc => ?_) (fun hc => ?_)
  · refine Moves.seq ?_ (State.topCmd_moves ..) (Foot.sub0 (by decide +kernel))
    exact Moves.refl _
  · refine Moves.ite (fun hc => ?_) (fun hc => ?_)
    · refine Moves.seq ?_ (State.tblCmd_moves ..) (Foot.sub0 (by decide +kernel))
      exact Moves.refl _
    · refine Moves.ite (fun hc => ?_) (fun hc => ?_)
      · refine Moves.seq ?_ (State.etbCtrl_moves ..) (Foot.sub0 (by decide +kernel))
        exact Moves.refl _
      · refine Moves.ite (fun hc => ?_) (fun hc => ?_)
        · refine Moves.seq ?_ (State.slotArm_moves ..) (Foot.sub0 (by decide +kernel))
          exact Moves.refl _
        · refine Moves.ite (fun hc => ?_) (fun hc => ?_)
          · refine Moves.seq ?_ (State.slotPending_moves ..) (Foot.sub_at (by decide +kernel) (Foot.own_cons (Foot.holds_same (.head _)) (Foot.own_cons (Foot.holds_same (.tail _ (.head _))) Foot.own_nil)))
            exact Moves.refl _
          · refine Moves.seq ?_ (State.storePlain_moves ..) (Foot.sub_at (by decide +kernel) (Foot.own_cons (Foot.holds_same (.head _)) (Foot.own_cons (Foot.holds_same (.tail _ (.head _))) Foot.own_nil)))
            exact Moves.refl _

def Foot.writeReg : Foot :=
  ⟨[], [], [.mem, .out, .evq, .evqCut, .evtCut, .allRegs, .fresh, .acc, .lines, .ports, .top, .beam, .fab,
    .tim, .cans, .wake, .din, .twn, .hlt, .sgw, .psc, .recorder, .pwr, .mgt]⟩

theorem State.writeReg_moves (s : State) (q : Requester) (off : Nat) (held : Option Word) (v : Word) :
    Moves (Foot.writeReg.at []) s (State.writeReg s q off held v) := by
  unfold State.writeReg
  refine Moves.ite (fun hc => ?_) (fun hc => ?_)
  · refine Moves.seq ?_ (State.writeHeader_moves ..) (Foot.sub0 (by decide +kernel))
    exact Moves.refl _
  · refine Moves.ite (fun hc => ?_) (fun hc => ?_)
    · refine Moves.seq ?_ (State.holdHigh_moves ..) (Foot.sub1 (by decide +kernel) (Foot.holds_all (by decide +kernel)))
      exact Moves.refl _
    · refine Moves.ite (fun hc => ?_) (fun hc => ?_)
      · refine Moves.seq ?_ (State.pairWrite_moves ..) (Foot.sub_at (by decide +kernel) (Foot.own_cons (Foot.holds_all (by decide +kernel)) (Foot.own_cons (Foot.holds_all (by decide +kernel)) Foot.own_nil)))
        exact Moves.refl _
      · split
        · refine Moves.seq ?_ (State.writeSys_moves ..) (Foot.sub0 (by decide +kernel))
          exact Moves.refl _
        · refine Moves.ite (fun hc => ?_) (fun hc => ?_)
          · refine Moves.seq ?_ (State.lineCmd_moves ..) (Foot.sub_at (by decide +kernel) (Foot.own_cons (Foot.holds_all (by decide +kernel)) (Foot.own_cons (Foot.holds_all (by decide +kernel)) (Foot.own_cons (Foot.holds_all (by decide +kernel)) (Foot.own_cons (Foot.holds_all (by decide +kernel)) (Foot.own_cons (Foot.holds_all (by decide +kernel)) (Foot.own_cons (Foot.holds_all (by decide +kernel)) (Foot.own_cons (Foot.holds_all (by decide +kernel)) (Foot.own_cons (Foot.holds_all (by decide +kernel)) (Foot.own_cons (Foot.holds_all (by decide +kernel)) (Foot.own_cons (Foot.holds_all (by decide +kernel)) (Foot.own_cons (Foot.holds_all (by decide +kernel)) (Foot.own_cons (Foot.holds_all (by decide +kernel)) (Foot.own_cons (Foot.holds_all (by decide +kernel)) (Foot.own_cons (Foot.holds_all (by decide +kernel)) Foot.own_nil)))))))))))))))
            exact Moves.refl _
          · refine Moves.seq ?_ (State.storePlain_moves ..) (Foot.sub_at (by decide +kernel) (Foot.own_cons (Foot.holds_all (by decide +kernel)) (Foot.own_cons (Foot.holds_all (by decide +kernel)) Foot.own_nil)))
            exact Moves.refl _
        · refine Moves.ite (fun hc => ?_) (fun hc => ?_)
          · refine Moves.seq ?_ (State.lineCmd_moves ..) (Foot.sub_at (by decide +kernel) (Foot.own_cons (Foot.holds_all (by decide +kernel)) (Foot.own_cons (Foot.holds_all (by decide +kernel)) (Foot.own_cons (Foot.holds_all (by decide +kernel)) (Foot.own_cons (Foot.holds_all (by decide +kernel)) (Foot.own_cons (Foot.holds_all (by decide +kernel)) (Foot.own_cons (Foot.holds_all (by decide +kernel)) (Foot.own_cons (Foot.holds_all (by decide +kernel)) (Foot.own_cons (Foot.holds_all (by decide +kernel)) (Foot.own_cons (Foot.holds_all (by decide +kernel)) (Foot.own_cons (Foot.holds_all (by decide +kernel)) (Foot.own_cons (Foot.holds_all (by decide +kernel)) (Foot.own_cons (Foot.holds_all (by decide +kernel)) (Foot.own_cons (Foot.holds_all (by decide +kernel)) (Foot.own_cons (Foot.holds_all (by decide +kernel)) Foot.own_nil)))))))))))))))
            exact Moves.refl _
          · refine Moves.seq ?_ (State.storePlain_moves ..) (Foot.sub_at (by decide +kernel) (Foot.own_cons (Foot.holds_all (by decide +kernel)) (Foot.own_cons (Foot.holds_all (by decide +kernel)) Foot.own_nil)))
            exact Moves.refl _
        · refine Moves.seq ?_ (State.writeFab_moves ..) (Foot.sub_at (by decide +kernel) (Foot.own_cons (Foot.holds_all (by decide +kernel)) (Foot.own_cons (Foot.holds_all (by decide +kernel)) Foot.own_nil)))
          exact Moves.refl _
        · refine Moves.ite (fun hc => ?_) (fun hc => ?_)
          · refine Moves.seq ?_ (State.comIdWrite_moves ..) (Foot.sub_at (by decide +kernel) (Foot.own_cons (Foot.holds_all (by decide +kernel)) (Foot.own_cons (Foot.holds_all (by decide +kernel)) Foot.own_nil)))
            exact Moves.refl _
          · refine Moves.seq ?_ (State.storePlain_moves ..) (Foot.sub_at (by decide +kernel) (Foot.own_cons (Foot.holds_all (by decide +kernel)) (Foot.own_cons (Foot.holds_all (by decide +kernel)) Foot.own_nil)))
            exact Moves.refl _
        · refine Moves.ite (fun hc => ?_) (fun hc => ?_)
          · refine Moves.seq ?_ (State.comIdWrite_moves ..) (Foot.sub_at (by decide +kernel) (Foot.own_cons (Foot.holds_all (by decide +kernel)) (Foot.own_cons (Foot.holds_all (by decide +kernel)) Foot.own_nil)))
            exact Moves.refl _
          · refine Moves.seq ?_ (State.storePlain_moves ..) (Foot.sub_at (by decide +kernel) (Foot.own_cons (Foot.holds_all (by decide +kernel)) (Foot.own_cons (Foot.holds_all (by decide +kernel)) Foot.own_nil)))
            exact Moves.refl _
        · refine Moves.seq ?_ (State.writeSgw_moves ..) (Foot.sub_at (by decide +kernel) (Foot.own_cons (Foot.holds_all (by decide +kernel)) (Foot.own_cons (Foot.holds_all (by decide +kernel)) Foot.own_nil)))
          exact Moves.refl _
        · refine Moves.seq ?_ (State.writeCb_moves ..) (Foot.sub_at (by decide +kernel) (Foot.own_cons (Foot.holds_all (by decide +kernel)) (Foot.own_cons (Foot.holds_all (by decide +kernel)) (Foot.own_cons (Foot.holds_all (by decide +kernel)) (Foot.own_cons (Foot.holds_all (by decide +kernel)) (Foot.own_cons (Foot.holds_all (by decide +kernel)) (Foot.own_cons (Foot.holds_all (by decide +kernel)) (Foot.own_cons (Foot.holds_all (by decide +kernel)) (Foot.own_cons (Foot.holds_all (by decide +kernel)) (Foot.own_cons (Foot.holds_all (by decide +kernel)) (Foot.own_cons (Foot.holds_all (by decide +kernel)) (Foot.own_cons (Foot.holds_all (by decide +kernel)) (Foot.own_cons (Foot.holds_all (by decide +kernel)) (Foot.own_cons (Foot.holds_all (by decide +kernel)) (Foot.own_cons (Foot.holds_all (by decide +kernel)) (Foot.own_cons (Foot.holds_all (by decide +kernel)) (Foot.own_cons (Foot.holds_all (by decide +kernel)) (Foot.own_cons (Foot.holds_all (by decide +kernel)) (Foot.own_cons (Foot.holds_all (by decide +kernel)) Foot.own_nil)))))))))))))))))))
          exact Moves.refl _
        · refine Moves.seq ?_ (State.writeCb_moves ..) (Foot.sub_at (by decide +kernel) (Foot.own_cons (Foot.holds_all (by decide +kernel)) (Foot.own_cons (Foot.holds_all (by decide +kernel)) (Foot.own_cons (Foot.holds_all (by decide +kernel)) (Foot.own_cons (Foot.holds_all (by decide +kernel)) (Foot.own_cons (Foot.holds_all (by decide +kernel)) (Foot.own_cons (Foot.holds_all (by decide +kernel)) (Foot.own_cons (Foot.holds_all (by decide +kernel)) (Foot.own_cons (Foot.holds_all (by decide +kernel)) (Foot.own_cons (Foot.holds_all (by decide +kernel)) (Foot.own_cons (Foot.holds_all (by decide +kernel)) (Foot.own_cons (Foot.holds_all (by decide +kernel)) (Foot.own_cons (Foot.holds_all (by decide +kernel)) (Foot.own_cons (Foot.holds_all (by decide +kernel)) (Foot.own_cons (Foot.holds_all (by decide +kernel)) (Foot.own_cons (Foot.holds_all (by decide +kernel)) (Foot.own_cons (Foot.holds_all (by decide +kernel)) (Foot.own_cons (Foot.holds_all (by decide +kernel)) (Foot.own_cons (Foot.holds_all (by decide +kernel)) Foot.own_nil)))))))))))))))))))
          exact Moves.refl _
        · refine Moves.ite (fun hc => ?_) (fun hc => ?_)
          · refine Moves.seq ?_ (State.timCmd_moves ..) (Foot.sub0 (by decide +kernel))
            exact Moves.refl _
          · refine Moves.ite (fun hc => ?_) (fun hc => ?_)
            · refine Moves.seq ?_ (State.tsCopy_moves ..) (Foot.sub0 (by decide +kernel))
              exact Moves.refl _
            · refine Moves.ite (fun hc => ?_) (fun hc => ?_)
              · refine State.firmwareOnly_moves ?_ (Foot.sub1 (by decide +kernel) (Foot.holds_all (by decide +kernel))) (fun x1 h1 => ?_)
                · exact Moves.refl _
                · refine Moves.seq ?_ (State.storePlain_moves ..) (Foot.sub_at (by decide +kernel) (Foot.own_cons (Foot.holds_all (by decide +kernel)) (Foot.own_cons (Foot.holds_all (by decide +kernel)) Foot.own_nil)))
                  exact h1
              · refine Moves.seq ?_ (State.storePlain_moves ..) (Foot.sub_at (by decide +kernel) (Foot.own_cons (Foot.holds_all (by decide +kernel)) (Foot.own_cons (Foot.holds_all (by decide +kernel)) Foot.own_nil)))
                exact Moves.refl _
        · refine Moves.ite (fun hc => ?_) (fun hc => ?_)
          · refine Moves.seq ?_ (State.twnCmd_moves ..) (Foot.sub0 (by decide +kernel))
            exact Moves.refl _
          · refine Moves.seq ?_ (State.storePlain_moves ..) (Foot.sub_at (by decide +kernel) (Foot.own_cons (Foot.holds_all (by decide +kernel)) (Foot.own_cons (Foot.holds_all (by decide +kernel)) Foot.own_nil)))
            exact Moves.refl _
        · refine Moves.seq ?_ (State.writeHbr_moves ..) (Foot.sub_at (by decide +kernel) (Foot.own_cons (Foot.holds_all (by decide +kernel)) (Foot.own_cons (Foot.holds_all (by decide +kernel)) (Foot.own_cons (Foot.holds_all (by decide +kernel)) (Foot.own_cons (Foot.holds_all (by decide +kernel)) (Foot.own_cons (Foot.holds_all (by decide +kernel)) (Foot.own_cons (Foot.holds_all (by decide +kernel)) (Foot.own_cons (Foot.holds_all (by decide +kernel)) (Foot.own_cons (Foot.holds_all (by decide +kernel)) (Foot.own_cons (Foot.holds_all (by decide +kernel)) Foot.own_nil))))))))))
          exact Moves.refl _
        · refine Moves.seq ?_ (State.writePsc_moves ..) (Foot.sub_at (by decide +kernel) (Foot.own_cons (Foot.holds_all (by decide +kernel)) (Foot.own_cons (Foot.holds_all (by decide +kernel)) (Foot.own_cons (Foot.holds_all (by decide +kernel)) (Foot.own_cons (Foot.holds_all (by decide +kernel)) (Foot.own_cons (Foot.holds_all (by decide +kernel)) (Foot.own_cons (Foot.holds_all (by decide +kernel)) (Foot.own_cons (Foot.holds_all (by decide +kernel)) (Foot.own_cons (Foot.holds_all (by decide +kernel)) (Foot.own_cons (Foot.holds_all (by decide +kernel)) Foot.own_nil))))))))))
          exact Moves.refl _
        · refine Moves.seq ?_ (State.writeMgt_moves ..) (Foot.sub_at (by decide +kernel) (Foot.own_cons (Foot.holds_all (by decide +kernel)) (Foot.own_cons (Foot.holds_all (by decide +kernel)) Foot.own_nil)))
          exact Moves.refl _
        · refine Moves.seq ?_ (State.writeRec_moves ..) (Foot.sub_at (by decide +kernel) (Foot.own_cons (Foot.holds_all (by decide +kernel)) (Foot.own_cons (Foot.holds_all (by decide +kernel)) Foot.own_nil)))
          exact Moves.refl _
        · refine Moves.seq ?_ (State.writeHlt_moves ..) (Foot.sub0 (by decide +kernel))
          exact Moves.refl _
        · refine Moves.seq ?_ (State.writeTop_moves ..) (Foot.sub_at (by decide +kernel) (Foot.own_cons (Foot.holds_all (by decide +kernel)) (Foot.own_cons (Foot.holds_all (by decide +kernel)) Foot.own_nil)))
          exact Moves.refl _

def Foot.writeAny : Foot :=
  ⟨[], [], [.mem, .out, .evq, .evqCut, .evtCut, .allRegs, .fresh, .acc, .lines, .ports, .top, .beam, .fab,
    .tim, .cans, .wake, .din, .twn, .hlt, .sgw, .psc, .recorder, .pwr, .mgt]⟩

theorem State.writeAny_moves (s : State) (q : Requester) (off : Nat) (v : Word) :
    Moves (Foot.writeAny.at []) s (State.writeAny s q off v) := by
  unfold State.writeAny
  refine Moves.ite (fun hc => ?_) (fun hc => ?_)
  · refine Moves.seq ?_ (State.lockWrite_moves ..) (Foot.sub_at (by decide +kernel) (Foot.own_cons (Foot.holds_all (by decide +kernel)) (Foot.own_cons (Foot.holds_all (by decide +kernel)) Foot.own_nil)))
    exact Moves.refl _
  · extract_lets -merge -underBinder +onlyGivenNames x1
    subst x1
    refine State.carry_moves ?_ (Foot.sub_at (by decide +kernel) (Foot.own_cons (Foot.holds_all (by decide +kernel)) (Foot.own_cons (Foot.holds_all (by decide +kernel)) Foot.own_nil))) (fun x2 h2 => ?_)
    · exact Moves.refl _
    · refine Moves.seq ?_ (State.writeReg_moves ..) (Foot.sub0 (by decide +kernel))
      exact h2

def Foot.applyAcl : Foot :=
  ⟨[], [], [.mem, .out, .evq, .evqCut, .evtCut, .allRegs, .fresh, .acc, .lines, .ports, .top, .beam, .fab,
    .tim, .cans, .wake, .din, .twn, .hlt, .sgw, .psc, .recorder, .pwr, .mgt]⟩

theorem State.applyAcl_moves (s : State) (d : List Byte) : Moves (Foot.applyAcl.at []) s (State.applyAcl s d) := by
  unfold State.applyAcl
  refine State.unlockedPage_moves ?_ (Foot.sub_at (by decide +kernel) (Foot.own_cons (Foot.holds_all (by decide +kernel)) (Foot.own_cons (Foot.holds_all (by decide +kernel)) Foot.own_nil))) (fun x1 h1 => ?_)
  · exact Moves.refl _
  · refine Moves.foldl _ (fun x2 _ h2 => ?_) _ ?_
    · refine Moves.seq ?_ (State.writeAny_moves ..) (Foot.sub0 (by decide +kernel))
      refine Moves.seq ?_ (State.writeAny_moves ..) (Foot.sub0 (by decide +kernel))
      exact h2
    · exact h1

def Foot.applyBind : Foot :=
  ⟨[(0x031010, 0x031010), (0x031090, 0x031090), (0x100010, 0x100010), (0x100064, 0x100064)], [], [.mem,
    .evq, .fab]⟩

theorem State.applyBind_moves (s : State) (d : List Byte) : Moves (Foot.applyBind.at []) s (State.applyBind s d) := by
  unfold State.applyBind
  refine Moves.ite (fun hc => ?_) (fun hc => ?_)
  · exact Moves.refl _
  · refine Moves.foldl _ (fun x1 _ h1 => ?_) _ ?_
    · refine Moves.seq ?_ (State.bindStore_moves ..) (Foot.sub0 (by decide +kernel))
      exact h1
    · exact Moves.refl _

def Foot.noteSection : Foot := ⟨[], [], [.mgt]⟩

theorem State.noteSection_moves (s : State) (t : Nat) (d : List Byte) :
    Moves (Foot.noteSection.at []) s (State.noteSection s t d) := by
  unfold State.noteSection
  refine Moves.seq ?_ (State.modMgt_moves ..) (Foot.sub0 (by decide +kernel))
  exact Moves.refl _

def Foot.applyNode : Foot :=
  ⟨[], [], [.mem, .out, .evq, .evqCut, .evtCut, .allRegs, .fresh, .acc, .lines, .ports, .top, .beam, .fab,
    .tim, .cans, .wake, .din, .twn, .hlt, .sgw, .psc, .recorder, .pwr, .mgt]⟩

theorem State.applyNode_moves (s : State) (d : List Byte) : Moves (Foot.applyNode.at []) s (State.applyNode s d) := by
  unfold State.applyNode
  extract_lets -merge -underBinder +onlyGivenNames x1
  subst x1
  extract_lets -merge -underBinder +onlyGivenNames x2
  refine Moves.let_ x2 ?_ ?_
  · subst x2
    refine State.unlockedPage_moves ?_ (Foot.sub_at (by decide +kernel) (Foot.own_cons (Foot.holds_all (by decide +kernel)) (Foot.own_cons (Foot.holds_all (by decide +kernel)) Foot.own_nil))) (fun x3 h3 => ?_)
    · exact Moves.refl _
    · refine Moves.seq ?_ (State.writeAny_moves ..) (Foot.sub0 (by decide +kernel))
      refine Moves.seq ?_ (State.writeAny_moves ..) (Foot.sub0 (by decide +kernel))
      exact h3
  intro h2
  try clear_value x2
  extract_lets -merge -underBinder +onlyGivenNames x4
  refine Moves.let_ x4 ?_ ?_
  · subst x4
    refine Moves.ite (fun hc => ?_) (fun hc => ?_)
    · refine Moves.seq ?_ (State.beamRefreshAll_moves ..) (Foot.sub0 (by decide +kernel))
      refine Moves.seq ?_ (State.putB_moves _ _ _ (by decide)) (Foot.sub1 (by decide +kernel) (Foot.holds_all (by decide +kernel)))
      exact h2
    · exact h2
  intro h4
  try clear_value x4
  refine Moves.ite (fun hc => ?_) (fun hc => ?_)
  · refine Moves.seq ?_ (State.setRole_moves ..) (Foot.sub0 (by decide +kernel))
    refine Moves.seq ?_ (State.putB_moves _ _ _ (by decide)) (Foot.sub1 (by decide +kernel) (Foot.holds_all (by decide +kernel)))
    exact h4
  · exact h4

def Foot.fwWrite : Foot :=
  ⟨[], [], [.mem, .out, .evq, .evqCut, .evtCut, .allRegs, .fresh, .acc, .lines, .ports, .top, .beam, .fab,
    .tim, .cans, .wake, .din, .twn, .hlt, .sgw, .psc, .recorder, .pwr, .mgt]⟩

theorem State.fwWrite_moves (s : State) (off : Nat) (v : Word) : Moves (Foot.fwWrite.at []) s (State.fwWrite s off v) := by
  unfold State.fwWrite
  refine State.unlockedPage_moves ?_ (Foot.sub_at (by decide +kernel) (Foot.own_cons (Foot.holds_all (by decide +kernel)) (Foot.own_cons (Foot.holds_all (by decide +kernel)) Foot.own_nil))) (fun x1 h1 => ?_)
  · exact Moves.refl _
  · refine Moves.seq ?_ (State.writeAny_moves ..) (Foot.sub0 (by decide +kernel))
    exact h1

def Foot.applyDvfs : Foot :=
  ⟨[], [], [.mem, .out, .evq, .evqCut, .evtCut, .allRegs, .fresh, .acc, .lines, .ports, .top, .beam, .fab,
    .tim, .cans, .wake, .din, .twn, .hlt, .sgw, .psc, .recorder, .pwr, .mgt]⟩

theorem State.applyDvfs_moves (s : State) (d : List Byte) : Moves (Foot.applyDvfs.at []) s (State.applyDvfs s d) := by
  unfold State.applyDvfs
  simp -zeta only [List.foldl_cons, List.foldl_nil]
  refine Moves.seq ?_ (State.fwWrite_moves ..) (Foot.sub0 (by decide +kernel))
  refine Moves.seq ?_ (State.fwWrite_moves ..) (Foot.sub0 (by decide +kernel))
  refine Moves.seq ?_ (State.fwWrite_moves ..) (Foot.sub0 (by decide +kernel))
  exact Moves.refl _

def Foot.applyClkrel : Foot :=
  ⟨[], [], [.mem, .out, .evq, .evqCut, .evtCut, .allRegs, .fresh, .acc, .lines, .ports, .top, .beam,
    .fab, .tim, .cans, .wake, .din, .twn, .hlt, .sgw, .psc, .recorder, .pwr, .mgt]⟩

theorem State.applyClkrel_moves (s : State) (d : List Byte) : Moves (Foot.applyClkrel.at []) s (State.applyClkrel s d) := by
  unfold State.applyClkrel
  refine Moves.seq ?_ (State.fwWrite_moves ..) (Foot.sub0 (by decide +kernel))
  exact Moves.refl _

def Foot.applyServo : Foot :=
  ⟨[], [], [.mem, .out, .evq, .evqCut, .evtCut, .allRegs, .fresh, .acc, .lines, .ports, .top, .beam,
    .fab, .tim, .cans, .wake, .din, .twn, .hlt, .sgw, .psc, .recorder, .pwr, .mgt]⟩

theorem State.applyServo_moves (s : State) (d : List Byte) : Moves (Foot.applyServo.at []) s (State.applyServo s d) := by
  unfold State.applyServo
  refine Moves.seq ?_ (State.fwWrite_moves ..) (Foot.sub0 (by decide +kernel))
  refine Moves.seq ?_ (State.fwWrite_moves ..) (Foot.sub0 (by decide +kernel))
  refine Moves.seq ?_ (State.fwWrite_moves ..) (Foot.sub0 (by decide +kernel))
  exact Moves.refl _

def Foot.regDropped : Foot := ⟨[(0x0D2010, 0x0D2010), (0x0D2058, 0x0D2058)], [], [.evq]⟩

theorem State.regDropped_moves (s : State) (off : Nat) (v : Word) : Moves (Foot.regDropped.at []) s (State.regDropped s off v) := by
  unfold State.regDropped
  refine Moves.seq ?_ (State.post_moves ..) (Foot.sub0 (by decide +kernel))
  refine Moves.seq ?_ (State.raise_moves ..) (Foot.sub1 (by decide +kernel) (Foot.holds_reg (by decide +kernel)))
  refine Moves.seq ?_ (State.satInc_moves _ _ (by decide)) (Foot.sub1 (by decide +kernel) (Foot.holds_reg (by decide +kernel)))
  exact Moves.refl _

def Foot.applyReg : Foot :=
  ⟨[], [], [.mem, .out, .evq, .evqCut, .evtCut, .allRegs, .fresh, .acc, .lines, .ports, .top, .beam, .fab,
    .tim, .cans, .wake, .din, .twn, .hlt, .sgw, .psc, .recorder, .pwr, .mgt]⟩

theorem State.applyReg_moves (s : State) (off : Nat) (v : Word) : Moves (Foot.applyReg.at []) s (State.applyReg s off v) := by
  unfold State.applyReg
  extract_lets -merge -underBinder +onlyGivenNames x1
  subst x1
  extract_lets -merge -underBinder +onlyGivenNames x2
  subst x2
  extract_lets -merge -underBinder +onlyGivenNames x3
  refine Moves.let_ x3 ?_ ?_
  · subst x3
    refine Moves.ite (fun hc => ?_) (fun hc => ?_)
    · refine Moves.seq ?_ (State.lockWrite_moves ..) (Foot.sub_at (by decide +kernel) (Foot.own_cons (Foot.holds_all (by decide +kernel)) (Foot.own_cons (Foot.holds_all (by decide +kernel)) Foot.own_nil)))
      exact Moves.refl _
    · exact Moves.refl _
  intro h3
  try clear_value x3
  extract_lets -merge -underBinder +onlyGivenNames x4
  subst x4
  extract_lets -merge -underBinder +onlyGivenNames x5
  refine Moves.let_ x5 ?_ ?_
  · subst x5
    refine Moves.seq ?_ (State.writeAny_moves ..) (Foot.sub0 (by decide +kernel))
    exact h3
  intro h5
  try clear_value x5
  extract_lets -merge -underBinder +onlyGivenNames x6
  refine Moves.let_ x6 ?_ ?_
  · subst x6
    refine Moves.ite (fun hc => ?_) (fun hc => ?_)
    · refine Moves.seq ?_ (State.lockWrite_moves ..) (Foot.sub_at (by decide +kernel) (Foot.own_cons (Foot.holds_all (by decide +kernel)) (Foot.own_cons (Foot.holds_all (by decide +kernel)) Foot.own_nil)))
      exact h5
    · exact h5
  intro h6
  try clear_value x6
  refine Moves.ite (fun hc => ?_) (fun hc => ?_)
  · refine Moves.seq ?_ (State.regDropped_moves ..) (Foot.sub0 (by decide +kernel))
    exact h6
  · exact h6

def Foot.applyRegs : Foot :=
  ⟨[], [], [.mem, .out, .evq, .evqCut, .evtCut, .allRegs, .fresh, .acc, .lines, .ports, .top, .beam, .fab,
    .tim, .cans, .wake, .din, .twn, .hlt, .sgw, .psc, .recorder, .pwr, .mgt]⟩

theorem State.applyRegs_moves (s : State) (d : List Byte) : Moves (Foot.applyRegs.at []) s (State.applyRegs s d) := by
  unfold State.applyRegs
  refine Moves.foldl _ (fun x1 _ h1 => ?_) _ ?_
  · refine Moves.seq ?_ (State.applyReg_moves ..) (Foot.sub0 (by decide +kernel))
    exact h1
  · exact Moves.refl _

def Foot.applySlot : Foot :=
  ⟨[], [], [.mem, .out, .evq, .evqCut, .evtCut, .allRegs, .fresh, .acc, .lines, .ports, .top, .beam, .fab,
    .tim, .cans, .wake, .din, .twn, .hlt, .sgw, .psc, .recorder, .pwr, .mgt]⟩

theorem State.applySlot_moves (s : State) (d : List Byte) : Moves (Foot.applySlot.at []) s (State.applySlot s d) := by
  unfold State.applySlot
  refine State.unlockedPage_moves ?_ (Foot.sub_at (by decide +kernel) (Foot.own_cons (Foot.holds_all (by decide +kernel)) (Foot.own_cons (Foot.holds_all (by decide +kernel)) Foot.own_nil))) (fun x1 h1 => ?_)
  · exact Moves.refl _
  · extract_lets -merge -underBinder +onlyGivenNames x2
    refine Moves.let_ x2 ?_ ?_
    · subst x2
      refine Moves.seq ?_ (State.writeAny_moves ..) (Foot.sub0 (by decide +kernel))
      refine Moves.seq ?_ (State.writeAny_moves ..) (Foot.sub0 (by decide +kernel))
      exact h1
    intro h2
    try clear_value x2
    refine Moves.foldl _ (fun x3 _ h3 => ?_) _ ?_
    · refine Moves.seq ?_ (State.writeAny_moves ..) (Foot.sub0 (by decide +kernel))
      exact h3
    · exact h2

def Foot.applyGateway : Foot :=
  ⟨[], [], [.mem, .out, .evq, .evqCut, .evtCut, .allRegs, .fresh, .acc, .lines, .ports, .top, .beam,
    .fab, .tim, .cans, .wake, .din, .twn, .hlt, .sgw, .psc, .recorder, .pwr, .mgt]⟩

theorem State.applyGateway_moves (s : State) (d : List Byte) : Moves (Foot.applyGateway.at []) s (State.applyGateway s d) := by
  unfold State.applyGateway
  refine Moves.ite (fun hc => ?_) (fun hc => ?_)
  · exact Moves.refl _
  · extract_lets -merge -underBinder +onlyGivenNames x1
    subst x1
    extract_lets -merge -underBinder +onlyGivenNames x2
    subst x2
    extract_lets -merge -underBinder +onlyGivenNames x3
    subst x3
    extract_lets -merge -underBinder +onlyGivenNames x4
    subst x4
    try dsimp -zeta only
    extract_lets -merge -underBinder +onlyGivenNames x5
    refine Moves.let_ x5 ?_ ?_
    · subst x5
      refine Moves.seq ?_ (State.put_moves _ _ _ (by decide)) (Foot.sub1 (by decide +kernel) (Foot.holds_all (by decide +kernel)))
      exact Moves.refl _
    intro h5
    try clear_value x5
    extract_lets -merge -underBinder +onlyGivenNames x6
    refine Moves.let_ x6 ?_ ?_
    · subst x6
      refine Moves.foldl _ (fun x7 _ h7 => ?_) _ ?_
      · refine Moves.seq ?_ (State.wrBytes_moves ..) (Foot.sub0 (by decide +kernel))
        exact h7
      · exact h5
    intro h6
    try clear_value x6
    extract_lets -merge -underBinder +onlyGivenNames x8
    refine Moves.let_ x8 ?_ ?_
    · subst x8
      refine Moves.foldl _ (fun x9 _ h9 => ?_) _ ?_
      · refine Moves.seq ?_ (State.wrBytes_moves ..) (Foot.sub0 (by decide +kernel))
        exact h9
      · exact h6
    intro h8
    try clear_value x8
    extract_lets -merge -underBinder +onlyGivenNames x10
    refine Moves.let_ x10 ?_ ?_
    · subst x10
      refine Moves.foldl _ (fun x11 _ h11 => ?_) _ ?_
      · refine Moves.seq ?_ (State.wrBytes_moves ..) (Foot.sub0 (by decide +kernel))
        exact h11
      · exact h8
    intro h10
    try clear_value x10
    refine Moves.seq ?_ (State.fwWrite_moves ..) (Foot.sub0 (by decide +kernel))
    exact h10

def Foot.applyGov : Foot := ⟨[], [], [.mgt]⟩

theorem State.applyGov_moves (s : State) (d : List Byte) : Moves (Foot.applyGov.at []) s (State.applyGov s d) := by
  unfold State.applyGov
  refine Moves.seq ?_ (State.modMgt_moves ..) (Foot.sub0 (by decide +kernel))
  exact Moves.refl _

def Foot.applySleep : Foot := ⟨[], [], [.mgt]⟩

theorem State.applySleep_moves (s : State) (d : List Byte) : Moves (Foot.applySleep.at []) s (State.applySleep s d) := by
  unfold State.applySleep
  refine Moves.seq ?_ (State.modMgt_moves ..) (Foot.sub0 (by decide +kernel))
  exact Moves.refl _

def Foot.applySection : Foot :=
  ⟨[], [], [.mem, .out, .evq, .evqCut, .evtCut, .allRegs, .fresh, .acc, .lines, .ports, .top, .beam,
    .fab, .tim, .cans, .wake, .din, .twn, .hlt, .sgw, .psc, .recorder, .pwr, .mgt]⟩

theorem State.applySection_moves (s : State) (t : Nat) (d : List Byte) :
    Moves (Foot.applySection.at []) s (State.applySection s t d) := by
  unfold State.applySection
  split
  · refine Moves.seq ?_ (State.applyNode_moves ..) (Foot.sub0 (by decide +kernel))
    exact Moves.refl _
  · refine Moves.seq ?_ (State.applyDvfs_moves ..) (Foot.sub0 (by decide +kernel))
    exact Moves.refl _
  · refine Moves.seq ?_ (State.applyClkrel_moves ..) (Foot.sub0 (by decide +kernel))
    exact Moves.refl _
  · refine Moves.seq ?_ (State.applyServo_moves ..) (Foot.sub0 (by decide +kernel))
    exact Moves.refl _
  · refine Moves.seq ?_ (State.applyRegs_moves ..) (Foot.sub0 (by decide +kernel))
    exact Moves.refl _
  · refine Moves.seq ?_ (State.applySlot_moves ..) (Foot.sub0 (by decide +kernel))
    exact Moves.refl _
  · refine Moves.seq ?_ (State.applyBind_moves ..) (Foot.sub0 (by decide +kernel))
    exact Moves.refl _
  · refine Moves.seq ?_ (State.applyAcl_moves ..) (Foot.sub0 (by decide +kernel))
    exact Moves.refl _
  · refine Moves.seq ?_ (State.applyGateway_moves ..) (Foot.sub0 (by decide +kernel))
    exact Moves.refl _
  · refine Moves.seq ?_ (State.applyGov_moves ..) (Foot.sub0 (by decide +kernel))
    exact Moves.refl _
  · refine Moves.seq ?_ (State.applySleep_moves ..) (Foot.sub0 (by decide +kernel))
    exact Moves.refl _
  · exact Moves.refl _

def Foot.applyBody : Foot :=
  ⟨[], [], [.mem, .out, .evq, .evqCut, .evtCut, .allRegs, .fresh, .acc, .lines, .ports, .top, .beam, .fab,
    .tim, .cans, .wake, .din, .twn, .hlt, .sgw, .psc, .recorder, .pwr, .mgt]⟩

theorem State.applyBody_moves (s : State) (body : List Byte) : Moves (Foot.applyBody.at []) s (State.applyBody s body) := by
  unfold State.applyBody
  refine Moves.foldl _ (fun x1 _ h1 => ?_) _ ?_
  · split
    · refine Moves.seq ?_ (State.noteSection_moves ..) (Foot.sub0 (by decide +kernel))
      refine Moves.seq ?_ (State.applySection_moves ..) (Foot.sub0 (by decide +kernel))
      exact h1
    · exact h1
  · exact Moves.refl _

def Foot.applyRec : Foot := ⟨[(0x0A1050, 0x0A1050)], [], [.mem, .out, .fab, .twn]⟩

theorem State.applyRec_moves (s : State) (r : MRec) : Moves (Foot.applyRec.at []) s (State.applyRec s r) := by
  unfold State.applyRec
  extract_lets -merge -underBinder +onlyGivenNames x1
  subst x1
  try dsimp -zeta only
  split
  · extract_lets -merge -underBinder +onlyGivenNames x2
    subst x2
    refine Moves.ite (fun hc => ?_) (fun hc => ?_)
    · extract_lets -merge -underBinder +onlyGivenNames x3
      subst x3
      extract_lets -merge -underBinder +onlyGivenNames x4
      refine Moves.let_ x4 ?_ ?_
      · subst x4
        refine Moves.seq ?_ (State.wrNum_moves ..) (Foot.sub0 (by decide +kernel))
        refine Moves.seq ?_ (State.wrNum_moves ..) (Foot.sub0 (by decide +kernel))
        exact Moves.refl _
      intro h4
      try clear_value x4
      refine Moves.seq ?_ (State.setStat_moves ..) (Foot.sub0 (by decide +kernel))
      refine Moves.seq ?_ (State.setStat_moves ..) (Foot.sub0 (by decide +kernel))
      refine Moves.seq ?_ (State.setStat_moves ..) (Foot.sub0 (by decide +kernel))
      exact h4
    · exact Moves.refl _
  · extract_lets -merge -underBinder +onlyGivenNames x5
    subst x5
    refine Moves.ite (fun hc => ?_) (fun hc => ?_)
    · refine Moves.seq ?_ (Moves.upd_fab _ _) (Foot.sub0 (by decide +kernel))
      exact Moves.refl _
    · exact Moves.refl _
  · extract_lets -merge -underBinder +onlyGivenNames x6
    subst x6
    refine Moves.seq ?_ (State.modTwn_moves ..) (Foot.sub0 (by decide +kernel))
    exact Moves.refl _
  · refine Moves.seq ?_ (State.modTwn_moves ..) (Foot.sub0 (by decide +kernel))
    exact Moves.refl _
  · refine Moves.seq ?_ (State.wr_moves _ _ (by decide)) (Foot.sub1 (by decide +kernel) (Foot.holds_reg (by decide +kernel)))
    exact Moves.refl _
  · refine Moves.seq ?_ (State.modTwn_moves ..) (Foot.sub0 (by decide +kernel))
    exact Moves.refl _
  · refine Moves.seq ?_ (State.emit_moves ..) (Foot.sub0 (by decide +kernel))
    exact Moves.refl _
  · exact Moves.refl _

def Foot.asDelay : Foot := ⟨[(0x093010, 0x093010)], [], [.mem]⟩

theorem State.asDelay_moves (s : State) (port : Nat) (delay : Nat) (ok : Bool) (capable : Bool) :
    Moves (Foot.asDelay.at []) s (State.asDelay s port delay ok capable) := by
  unfold State.asDelay
  extract_lets -merge -underBinder +onlyGivenNames x1
  subst x1
  extract_lets -merge -underBinder +onlyGivenNames x2
  subst x2
  refine Moves.ite (fun hc => ?_) (fun hc => ?_)
  · extract_lets -merge -underBinder +onlyGivenNames x3
    subst x3
    extract_lets -merge -underBinder +onlyGivenNames x4
    refine Moves.let_ x4 ?_ ?_
    · subst x4
      refine Moves.seq ?_ (State.wrNum_moves ..) (Foot.sub0 (by decide +kernel))
      refine Moves.seq ?_ (State.wrNum_moves ..) (Foot.sub0 (by decide +kernel))
      exact Moves.refl _
    intro h4
    try clear_value x4
    refine Moves.ite (fun hc => ?_) (fun hc => ?_)
    · exact h4
    · refine Moves.seq ?_ (State.raise_moves ..) (Foot.sub1 (by decide +kernel) (Foot.holds_reg (by decide +kernel)))
      exact h4
  · extract_lets -merge -underBinder +onlyGivenNames x5
    refine Moves.let_ x5 ?_ ?_
    · subst x5
      refine Moves.seq ?_ (State.raise_moves ..) (Foot.sub1 (by decide +kernel) (Foot.holds_reg (by decide +kernel)))
      refine Moves.seq ?_ (State.wrNum_moves ..) (Foot.sub0 (by decide +kernel))
      exact Moves.refl _
    intro h5
    try clear_value x5
    refine Moves.ite (fun hc => ?_) (fun hc => ?_)
    · exact h5
    · refine Moves.seq ?_ (State.raise_moves ..) (Foot.sub1 (by decide +kernel) (Foot.holds_reg (by decide +kernel)))
      refine Moves.seq ?_ (State.wrNum_moves ..) (Foot.sub0 (by decide +kernel))
      exact h5

def Foot.autoHandover : Foot :=
  ⟨[(0x003010, 0x003010), (0x003040, 0x003040), (0x003050, 0x003050), (0x00306C, 0x00306C), (0x005040,
    0x005040), (0x010010, 0x010010), (0x010048, 0x010048), (0x011010, 0x011010), (0x011040, 0x011048), (0x012010, 0x012010), (0x012040,
    0x012048), (0x013010, 0x013010), (0x013040, 0x013040), (0x013048, 0x013058), (0x020010, 0x020010), (0x020048, 0x020048), (0x021010,
    0x021010), (0x021040, 0x021048), (0x022010, 0x022010), (0x022040, 0x022048), (0x023010, 0x023010), (0x023040, 0x023040), (0x023048,
    0x023058), (0x060010, 0x060010), (0x060044, 0x060044), (0x090010, 0x090010), (0x090058, 0x090064), (0x091010, 0x091010), (0x091050,
    0x091058), (0x093060, 0x093060), (0x0A0010, 0x0A0010), (0x0A0040, 0x0A0040), (0x0A004C, 0x0A0050), (0x0A0060, 0x0A0060), (0x0A2044,
    0x0A2044), (0x100010, 0x100010), (0x100064, 0x100064)], [], [.out, .evq, .lines, .ports, .beam, .fab, .tim, .wake, .twn]⟩

theorem State.autoHandover_moves (s : State) (cause : Nat) : Moves (Foot.autoHandover.at []) s (State.autoHandover s cause) := by
  unfold State.autoHandover
  refine Moves.ite (fun hc => ?_) (fun hc => ?_)
  · exact Moves.refl _
  · split
    · refine Moves.ite (fun hc => ?_) (fun hc => ?_)
      · exact Moves.refl _
      · refine Moves.seq ?_ (State.proposeHandover_moves ..) (Foot.sub0 (by decide +kernel))
        exact Moves.refl _
    · refine Moves.ite (fun hc => ?_) (fun hc => ?_)
      · refine Moves.seq ?_ (State.proposeHandover_moves ..) (Foot.sub0 (by decide +kernel))
        exact Moves.refl _
      · exact Moves.refl _
    · refine Moves.ite (fun hc => ?_) (fun hc => ?_)
      · exact Moves.refl _
      · refine Moves.seq ?_ (State.proposeHandover_moves ..) (Foot.sub0 (by decide +kernel))
        exact Moves.refl _

def Foot.autoIso : Foot :=
  ⟨[(0x003064, 0x003064), (0x011010, 0x011010), (0x011040, 0x011048), (0x012010, 0x012010), (0x012040,
    0x012048), (0x013058, 0x013058), (0x021010, 0x021010), (0x021040, 0x021048), (0x022010, 0x022010), (0x022040, 0x022048), (0x023058,
    0x023058), (0x100010, 0x100010), (0x100044, 0x100044), (0x100064, 0x10006C)], [], [.mem, .out, .evq, .lines, .ports, .top, .beam,
    .fab]⟩

theorem State.autoIso_moves (s : State) : Moves (Foot.autoIso.at []) s (State.autoIso s) := by
  unfold State.autoIso
  extract_lets -merge -underBinder +onlyGivenNames x1
  subst x1
  extract_lets -merge -underBinder +onlyGivenNames x2
  subst x2
  extract_lets -merge -underBinder +onlyGivenNames x3
  subst x3
  refine Moves.ite (fun hc => ?_) (fun hc => ?_)
  · exact Moves.refl _
  · refine Moves.ite (fun hc => ?_) (fun hc => ?_)
    · refine Moves.seq ?_ (State.isoPort_moves ..) (Foot.sub_at (by decide +kernel) (Foot.own_cons (Foot.holds_four 139280 135184 73744 69648 (by decide +kernel) (by decide +kernel) (by decide +kernel) (by decide +kernel) (by first | (dsimp only [F.TOP_NODE_FWD]; omega) | omega)) (Foot.own_cons (Foot.holds_four 139328 135232 73792 69696 (by decide +kernel) (by decide +kernel) (by decide +kernel) (by decide +kernel) (by first | (dsimp only [F.TOP_NODE_FWD]; omega) | omega)) (Foot.own_cons (Foot.holds_four 139336 135240 73800 69704 (by decide +kernel) (by decide +kernel) (by decide +kernel) (by decide +kernel) (by first | (dsimp only [F.TOP_NODE_FWD]; omega) | omega)) (Foot.own_cons (Foot.holds_four 139332 135236 73796 69700 (by decide +kernel) (by decide +kernel) (by decide +kernel) (by decide +kernel) (by first | (dsimp only [F.TOP_NODE_FWD]; omega) | omega)) (Foot.own_cons (Foot.holds_two 143448 77912 (by decide +kernel) (by decide +kernel) (by first | (dsimp only [F.TOP_NODE_FWD]; omega) | omega)) Foot.own_nil))))))
      refine Moves.seq ?_ (State.isoPort_moves ..) (Foot.sub_at (by decide +kernel) (Foot.own_cons (Foot.holds_four 139280 135184 73744 69648 (by decide +kernel) (by decide +kernel) (by decide +kernel) (by decide +kernel) (by first | (dsimp only [F.TOP_NODE_FWD]; omega) | omega)) (Foot.own_cons (Foot.holds_four 139328 135232 73792 69696 (by decide +kernel) (by decide +kernel) (by decide +kernel) (by decide +kernel) (by first | (dsimp only [F.TOP_NODE_FWD]; omega) | omega)) (Foot.own_cons (Foot.holds_four 139336 135240 73800 69704 (by decide +kernel) (by decide +kernel) (by decide +kernel) (by decide +kernel) (by first | (dsimp only [F.TOP_NODE_FWD]; omega) | omega)) (Foot.own_cons (Foot.holds_four 139332 135236 73796 69700 (by decide +kernel) (by decide +kernel) (by decide +kernel) (by decide +kernel) (by first | (dsimp only [F.TOP_NODE_FWD]; omega) | omega)) (Foot.own_cons (Foot.holds_two 143448 77912 (by decide +kernel) (by decide +kernel) (by first | (dsimp only [F.TOP_NODE_FWD]; omega) | omega)) Foot.own_nil))))))
      exact Moves.refl _
    · refine Moves.ite (fun hc => ?_) (fun hc => ?_)
      · refine Moves.seq ?_ (State.isoPort_moves ..) (Foot.sub_at (by decide +kernel) (Foot.own_cons (Foot.holds_four 139280 135184 73744 69648 (by decide +kernel) (by decide +kernel) (by decide +kernel) (by decide +kernel) (by first | (dsimp only [F.TOP_NODE_FWD]; omega) | omega)) (Foot.own_cons (Foot.holds_four 139328 135232 73792 69696 (by decide +kernel) (by decide +kernel) (by decide +kernel) (by decide +kernel) (by first | (dsimp only [F.TOP_NODE_FWD]; omega) | omega)) (Foot.own_cons (Foot.holds_four 139336 135240 73800 69704 (by decide +kernel) (by decide +kernel) (by decide +kernel) (by decide +kernel) (by first | (dsimp only [F.TOP_NODE_FWD]; omega) | omega)) (Foot.own_cons (Foot.holds_four 139332 135236 73796 69700 (by decide +kernel) (by decide +kernel) (by decide +kernel) (by decide +kernel) (by first | (dsimp only [F.TOP_NODE_FWD]; omega) | omega)) (Foot.own_cons (Foot.holds_two 143448 77912 (by decide +kernel) (by decide +kernel) (by first | (dsimp only [F.TOP_NODE_FWD]; omega) | omega)) Foot.own_nil))))))
        refine Moves.seq ?_ (State.isoPort_moves ..) (Foot.sub_at (by decide +kernel) (Foot.own_cons (Foot.holds_four 139280 135184 73744 69648 (by decide +kernel) (by decide +kernel) (by decide +kernel) (by decide +kernel) (by first | (dsimp only [F.TOP_NODE_FWD]; omega) | omega)) (Foot.own_cons (Foot.holds_four 139328 135232 73792 69696 (by decide +kernel) (by decide +kernel) (by decide +kernel) (by decide +kernel) (by first | (dsimp only [F.TOP_NODE_FWD]; omega) | omega)) (Foot.own_cons (Foot.holds_four 139336 135240 73800 69704 (by decide +kernel) (by decide +kernel) (by decide +kernel) (by decide +kernel) (by first | (dsimp only [F.TOP_NODE_FWD]; omega) | omega)) (Foot.own_cons (Foot.holds_four 139332 135236 73796 69700 (by decide +kernel) (by decide +kernel) (by decide +kernel) (by decide +kernel) (by first | (dsimp only [F.TOP_NODE_FWD]; omega) | omega)) (Foot.own_cons (Foot.holds_two 143448 77912 (by decide +kernel) (by decide +kernel) (by first | (dsimp only [F.TOP_NODE_FWD]; omega) | omega)) Foot.own_nil))))))
        exact Moves.refl _
      · exact Moves.refl _

def Foot.watchedLantern : Foot := ⟨[], [], [.top]⟩

theorem State.watchedLantern_moves (s : State) (f : NFrame) : Moves (Foot.watchedLantern.at []) s (State.watchedLantern s f) := by
  unfold State.watchedLantern
  refine Moves.ite (fun hc => ?_) (fun hc => ?_)
  · exact Moves.refl _
  · refine Moves.ite (fun hc => ?_) (fun hc => ?_)
    · refine Moves.seq ?_ (Moves.upd_top _ _) (Foot.sub0 (by decide +kernel))
      exact Moves.refl _
    · refine Moves.ite (fun hc => ?_) (fun hc => ?_)
      · refine Moves.seq ?_ (Moves.upd_top _ _) (Foot.sub0 (by decide +kernel))
        exact Moves.refl _
      · exact Moves.refl _

def Foot.partnerBack : Foot := ⟨[(0x0A0010, 0x0A0010)], [], [.twn]⟩

theorem State.partnerBack_moves (s : State) : Moves (Foot.partnerBack.at []) s (State.partnerBack s) := by
  unfold State.partnerBack
  extract_lets -merge -underBinder +onlyGivenNames x1
  refine Moves.let_ x1 ?_ ?_
  · subst x1
    refine Moves.ite (fun hc => ?_) (fun hc => ?_)
    · refine Moves.seq ?_ (State.raise_moves ..) (Foot.sub1 (by decide +kernel) (Foot.holds_reg (by decide +kernel)))
      exact Moves.refl _
    · exact Moves.refl _
  intro h1
  try clear_value x1
  refine Moves.seq ?_ (State.modTwn_moves ..) (Foot.sub0 (by decide +kernel))
  exact h1

def Foot.position : Foot := ⟨[(0x0A0010, 0x0A0010), (0x0A0040, 0x0A0040)], [], []⟩

theorem State.position_moves (s : State) (l : Lantern) : Moves (Foot.position.at []) s (State.position s l) := by
  unfold State.position
  extract_lets -merge -underBinder +onlyGivenNames x1
  subst x1
  extract_lets -merge -underBinder +onlyGivenNames x2
  subst x2
  extract_lets -merge -underBinder +onlyGivenNames x3
  refine Moves.let_ x3 ?_ ?_
  · subst x3
    refine Moves.ite (fun hc => ?_) (fun hc => ?_)
    · refine Moves.seq ?_ (State.raise_moves ..) (Foot.sub1 (by decide +kernel) (Foot.holds_reg (by decide +kernel)))
      exact Moves.refl _
    · exact Moves.refl _
  intro h3
  try clear_value x3
  refine Moves.seq ?_ (State.putB_moves _ _ _ (by decide)) (Foot.sub1 (by decide +kernel) (Foot.holds_reg (by decide +kernel)))
  refine Moves.seq ?_ (State.putB_moves _ _ _ (by decide)) (Foot.sub1 (by decide +kernel) (Foot.holds_reg (by decide +kernel)))
  exact h3

def Foot.doubleActive : Foot :=
  ⟨[(0x003010, 0x003010), (0x003040, 0x003040), (0x003050, 0x003050), (0x00306C, 0x00306C), (0x005040,
    0x005040), (0x010010, 0x010010), (0x010048, 0x010048), (0x011010, 0x011010), (0x011040, 0x011048), (0x012010, 0x012010), (0x012040,
    0x012048), (0x013010, 0x013010), (0x013040, 0x013040), (0x013048, 0x013058), (0x020010, 0x020010), (0x020048, 0x020048), (0x021010,
    0x021010), (0x021040, 0x021048), (0x022010, 0x022010), (0x022040, 0x022048), (0x023010, 0x023010), (0x023040, 0x023040), (0x023048,
    0x023058), (0x060010, 0x060010), (0x060044, 0x060044), (0x090010, 0x090010), (0x090058, 0x090064), (0x091010, 0x091010), (0x091050,
    0x091058), (0x093060, 0x093060), (0x0A0010, 0x0A0010), (0x0A0040, 0x0A0040), (0x0A0060, 0x0A0060), (0x0A2044, 0x0A2044), (0x100010,
    0x100010), (0x100064, 0x100064)], [], [.out, .evq, .lines, .ports, .beam, .fab, .tim, .wake, .twn]⟩

theorem State.doubleActive_moves (s : State) (l : Lantern) : Moves (Foot.doubleActive.at []) s (State.doubleActive s l) := by
  unfold State.doubleActive
  refine Moves.ite (fun hc => ?_) (fun hc => ?_)
  · extract_lets -merge -underBinder +onlyGivenNames x1
    refine Moves.let_ x1 ?_ ?_
    · subst x1
      refine Moves.ite (fun hc => ?_) (fun hc => ?_)
      · exact Moves.refl _
      · refine Moves.seq ?_ (State.post_moves ..) (Foot.sub0 (by decide +kernel))
        refine Moves.seq ?_ (State.raise_moves ..) (Foot.sub1 (by decide +kernel) (Foot.holds_reg (by decide +kernel)))
        refine Moves.seq ?_ (State.modTwn_moves ..) (Foot.sub0 (by decide +kernel))
        exact Moves.refl _
    intro h1
    try clear_value x1
    refine Moves.ite (fun hc => ?_) (fun hc => ?_)
    · refine Moves.seq ?_ (State.setRole_moves ..) (Foot.sub0 (by decide +kernel))
      refine Moves.seq ?_ (State.modTwn_moves ..) (Foot.sub0 (by decide +kernel))
      exact h1
    · exact h1
  · refine Moves.seq ?_ (State.modTwn_moves ..) (Foot.sub0 (by decide +kernel))
    exact Moves.refl _

def Foot.healthRow : Foot :=
  ⟨[(0x003010, 0x003010), (0x003040, 0x003040), (0x003050, 0x003050), (0x00306C, 0x00306C), (0x005040,
    0x005040), (0x010010, 0x010010), (0x010048, 0x010048), (0x011010, 0x011010), (0x011040, 0x011048), (0x012010, 0x012010), (0x012040,
    0x012048), (0x013010, 0x013010), (0x013040, 0x013040), (0x013048, 0x013058), (0x020010, 0x020010), (0x020048, 0x020048), (0x021010,
    0x021010), (0x021040, 0x021048), (0x022010, 0x022010), (0x022040, 0x022048), (0x023010, 0x023010), (0x023040, 0x023040), (0x023048,
    0x023058), (0x060010, 0x060010), (0x060044, 0x060044), (0x090010, 0x090010), (0x090058, 0x090064), (0x091010, 0x091010), (0x091050,
    0x091058), (0x093060, 0x093060), (0x0A0010, 0x0A0010), (0x0A0040, 0x0A0040), (0x0A0060, 0x0A0060), (0x0A2044, 0x0A2044), (0x100010,
    0x100010), (0x100064, 0x100064)], [], [.out, .evq, .lines, .ports, .beam, .fab, .tim, .wake, .twn]⟩

theorem State.healthRow_moves (s : State) : Moves (Foot.healthRow.at []) s (State.healthRow s) := by
  unfold State.healthRow
  refine Moves.ite (fun hc => ?_) (fun hc => ?_)
  · refine Moves.seq ?_ (State.setRole_moves ..) (Foot.sub0 (by decide +kernel))
    exact Moves.refl _
  · exact Moves.refl _

def Foot.roleRows : Foot :=
  ⟨[(0x003010, 0x003010), (0x003040, 0x003040), (0x003050, 0x003050), (0x00306C, 0x00306C), (0x005040,
    0x005040), (0x010010, 0x010010), (0x010048, 0x010048), (0x011010, 0x011010), (0x011040, 0x011048), (0x012010, 0x012010), (0x012040,
    0x012048), (0x013010, 0x013010), (0x013040, 0x013040), (0x013048, 0x013058), (0x020010, 0x020010), (0x020048, 0x020048), (0x021010,
    0x021010), (0x021040, 0x021048), (0x022010, 0x022010), (0x022040, 0x022048), (0x023010, 0x023010), (0x023040, 0x023040), (0x023048,
    0x023058), (0x060010, 0x060010), (0x060044, 0x060044), (0x090010, 0x090010), (0x090058, 0x090064), (0x091010, 0x091010), (0x091050,
    0x091058), (0x093060, 0x093060), (0x0A0010, 0x0A0010), (0x0A0040, 0x0A0040), (0x0A0060, 0x0A0060), (0x0A2044, 0x0A2044), (0x100010,
    0x100010), (0x100064, 0x100064)], [], [.out, .evq, .lines, .ports, .beam, .fab, .tim, .wake, .twn]⟩

theorem State.roleRows_moves (s : State) (l : Lantern) : Moves (Foot.roleRows.at []) s (State.roleRows s l) := by
  unfold State.roleRows
  refine Moves.ite (fun hc => ?_) (fun hc => ?_)
  · refine Moves.ite (fun hc => ?_) (fun hc => ?_)
    · refine Moves.seq ?_ (State.setRole_moves ..) (Foot.sub0 (by decide +kernel))
      exact Moves.refl _
    · refine Moves.ite (fun hc => ?_) (fun hc => ?_)
      · refine Moves.seq ?_ (State.setRole_moves ..) (Foot.sub0 (by decide +kernel))
        exact Moves.refl _
      · exact Moves.refl _
  · refine Moves.ite (fun hc => ?_) (fun hc => ?_)
    · refine Moves.seq ?_ (State.healthRow_moves ..) (Foot.sub0 (by decide +kernel))
      exact Moves.refl _
    · refine Moves.ite (fun hc => ?_) (fun hc => ?_)
      · refine Moves.seq ?_ (State.setRole_moves ..) (Foot.sub0 (by decide +kernel))
        refine Moves.seq ?_ (State.modTwn_moves ..) (Foot.sub0 (by decide +kernel))
        exact Moves.refl _
      · exact Moves.refl _

def Foot.heedLantern : Foot :=
  ⟨[(0x003010, 0x003010), (0x003040, 0x003040), (0x003050, 0x003050), (0x00306C, 0x00306C), (0x005040,
    0x005040), (0x010010, 0x010010), (0x010048, 0x010048), (0x011010, 0x011010), (0x011040, 0x011048), (0x012010, 0x012010), (0x012040,
    0x012048), (0x013010, 0x013010), (0x013040, 0x013040), (0x013048, 0x013058), (0x020010, 0x020010), (0x020048, 0x020048), (0x021010,
    0x021010), (0x021040, 0x021048), (0x022010, 0x022010), (0x022040, 0x022048), (0x023010, 0x023010), (0x023040, 0x023040), (0x023048,
    0x023058), (0x060010, 0x060010), (0x060044, 0x060044), (0x090010, 0x090010), (0x090058, 0x090064), (0x091010, 0x091010), (0x091050,
    0x091058), (0x093060, 0x093060), (0x0A0010, 0x0A0010), (0x0A0040, 0x0A0040), (0x0A0060, 0x0A0060), (0x0A2044, 0x0A2044), (0x100010,
    0x100010), (0x100064, 0x100064)], [], [.out, .evq, .lines, .ports, .beam, .fab, .tim, .wake, .twn]⟩

theorem State.heedLantern_moves (s : State) (l : Lantern) : Moves (Foot.heedLantern.at []) s (State.heedLantern s l) := by
  unfold State.heedLantern
  refine Moves.ite (fun hc => ?_) (fun hc => ?_)
  · exact Moves.refl _
  · extract_lets -merge -underBinder +onlyGivenNames x1
    refine Moves.let_ x1 ?_ ?_
    · subst x1
      refine Moves.seq ?_ (State.partnerBack_moves ..) (Foot.sub0 (by decide +kernel))
      refine Moves.seq ?_ (State.position_moves ..) (Foot.sub0 (by decide +kernel))
      exact Moves.refl _
    intro h1
    try clear_value x1
    refine Moves.ite (fun hc => ?_) (fun hc => ?_)
    · extract_lets -merge -underBinder +onlyGivenNames x2
      refine Moves.let_ x2 ?_ ?_
      · subst x2
        refine Moves.seq ?_ (State.raise_moves ..) (Foot.sub1 (by decide +kernel) (Foot.holds_reg (by decide +kernel)))
        exact h1
      intro h2
      try clear_value x2
      refine Moves.ite (fun hc => ?_) (fun hc => ?_)
      · refine Moves.seq ?_ (State.setRole_moves ..) (Foot.sub0 (by decide +kernel))
        exact h2
      · exact h2
    · extract_lets -merge -underBinder +onlyGivenNames x3
      refine Moves.let_ x3 ?_ ?_
      · subst x3
        refine Moves.seq ?_ (State.doubleActive_moves ..) (Foot.sub0 (by decide +kernel))
        exact h1
      intro h3
      try clear_value x3
      extract_lets -merge -underBinder +onlyGivenNames x4
      refine Moves.let_ x4 ?_ ?_
      · subst x4
        refine Moves.ite (fun hc => ?_) (fun hc => ?_)
        · refine Moves.seq ?_ (State.releaseClaim_moves ..) (Foot.sub0 (by decide +kernel))
          exact h3
        · exact h3
      intro h4
      try clear_value x4
      refine Moves.seq ?_ (State.roleRows_moves ..) (Foot.sub0 (by decide +kernel))
      exact h4

def Foot.twnView : Foot := ⟨[(0x0A0040, 0x0A0040)], [], [.twn]⟩

theorem State.twnView_moves (s : State) : Moves (Foot.twnView.at []) s (State.twnView s) := by
  unfold State.twnView
  extract_lets -merge -underBinder +onlyGivenNames x1
  refine Moves.let_ x1 ?_ ?_
  · subst x1
    refine Moves.ite (fun hc => ?_) (fun hc => ?_)
    · exact Moves.refl _
    · refine Moves.seq ?_ (State.modTwn_moves ..) (Foot.sub0 (by decide +kernel))
      exact Moves.refl _
  intro h1
  try clear_value x1
  refine Moves.seq ?_ (State.putB_moves _ _ _ (by decide)) (Foot.sub1 (by decide +kernel) (Foot.holds_reg (by decide +kernel)))
  refine Moves.seq ?_ (State.put_moves _ _ _ (by decide)) (Foot.sub1 (by decide +kernel) (Foot.holds_reg (by decide +kernel)))
  exact h1

def Foot.backboneLantern : Foot :=
  ⟨[(0x003010, 0x003010), (0x003040, 0x003040), (0x003050, 0x003050), (0x00306C, 0x00306C),
    (0x005040, 0x005040), (0x010010, 0x010010), (0x010048, 0x010048), (0x011010, 0x011010), (0x011040, 0x011048), (0x012010, 0x012010),
    (0x012040, 0x012048), (0x013010, 0x013010), (0x013040, 0x013040), (0x013048, 0x013058), (0x020010, 0x020010), (0x020048, 0x020048),
    (0x021010, 0x021010), (0x021040, 0x021048), (0x022010, 0x022010), (0x022040, 0x022048), (0x023010, 0x023010), (0x023040, 0x023040),
    (0x023048, 0x023058), (0x060010, 0x060010), (0x060044, 0x060044), (0x090010, 0x090010), (0x090058, 0x090064), (0x091010, 0x091010),
    (0x091050, 0x091058), (0x093060, 0x093060), (0x0A0010, 0x0A0010), (0x0A0040, 0x0A0040), (0x0A0060, 0x0A0060), (0x0A2044, 0x0A2044),
    (0x100010, 0x100010), (0x100064, 0x100064)], [], [.out, .evq, .lines, .ports, .top, .beam, .fab, .tim, .wake, .twn]⟩

theorem State.backboneLantern_moves (s : State) (p : BPort) (f : NFrame) :
    Moves (Foot.backboneLantern.at []) s (State.backboneLantern s p f) := by
  unfold State.backboneLantern
  refine Moves.ite (fun hc => ?_) (fun hc => ?_)
  · exact Moves.refl _
  · extract_lets -merge -underBinder +onlyGivenNames x1
    refine Moves.let_ x1 ?_ ?_
    · subst x1
      refine Moves.ite (fun hc => ?_) (fun hc => ?_)
      · refine Moves.seq ?_ (State.watchedLantern_moves ..) (Foot.sub0 (by decide +kernel))
        exact Moves.refl _
      · exact Moves.refl _
    intro h1
    try clear_value x1
    refine Moves.ite (fun hc => ?_) (fun hc => ?_)
    · exact h1
    · extract_lets -merge -underBinder +onlyGivenNames x2
      subst x2
      extract_lets -merge -underBinder +onlyGivenNames x3
      refine Moves.let_ x3 ?_ ?_
      · subst x3
        refine Moves.seq ?_ (State.modTwn_moves ..) (Foot.sub0 (by decide +kernel))
        exact h1
      intro h3
      try clear_value x3
      refine Moves.ite (fun hc => ?_) (fun hc => ?_)
      · exact h3
      · extract_lets -merge -underBinder +onlyGivenNames x4
        refine Moves.let_ x4 ?_ ?_
        · subst x4
          refine Moves.seq ?_ (State.modTwn_moves ..) (Foot.sub0 (by decide +kernel))
          exact h3
        intro h4
        try clear_value x4
        extract_lets -merge -underBinder +onlyGivenNames x5
        refine Moves.let_ x5 ?_ ?_
        · subst x5
          refine Moves.ite (fun hc => ?_) (fun hc => ?_)
          · exact h4
          · refine Moves.seq ?_ (State.modTwn_moves ..) (Foot.sub0 (by decide +kernel))
            exact h4
        intro h5
        try clear_value x5
        refine Moves.ite (fun hc => ?_) (fun hc => ?_)
        · refine Moves.seq ?_ (State.heedLantern_moves ..) (Foot.sub0 (by decide +kernel))
          refine Moves.seq ?_ (State.twnView_moves ..) (Foot.sub0 (by decide +kernel))
          exact h5
        · exact h5

def Foot.wrapMem : Foot := ⟨[], [], [.mem]⟩

theorem State.wrapMem_moves (s : State) (a : Nat) (n : Nat) : Moves (Foot.wrapMem.at []) s (State.wrapMem s a n) := by
  unfold State.wrapMem
  refine Moves.seq ?_ (State.wrNum_moves ..) (Foot.sub0 (by decide +kernel))
  exact Moves.refl _

def Foot.cntRx : Foot := ⟨[], [], [.mem]⟩

theorem State.cntRx_moves (s : State) (port : Nat) : Moves (Foot.cntRx.at []) s (State.cntRx s port) := by
  unfold State.cntRx
  refine Moves.seq ?_ (State.wrapMem_moves ..) (Foot.sub0 (by decide +kernel))
  exact Moves.refl _

def Foot.badFcs : Foot := ⟨[], [], [.mem, .out]⟩

theorem State.badFcs_moves (s : State) (ingress : Nat) (q : Nat) (outs : List (Nat × AnyFrame)) :
    Moves (Foot.badFcs.at []) s (State.badFcs s ingress q outs) := by
  unfold State.badFcs
  extract_lets -merge -underBinder +onlyGivenNames x1
  subst x1
  extract_lets -merge -underBinder +onlyGivenNames x2
  refine Moves.let_ x2 ?_ ?_
  · subst x2
    refine Moves.ite (fun hc => ?_) (fun hc => ?_)
    · exact Moves.refl _
    · refine Moves.foldl _ (fun x3 _ h3 => ?_) _ ?_
      · refine Moves.seq ?_ (State.emit_moves ..) (Foot.sub0 (by decide +kernel))
        exact h3
      · refine Moves.seq ?_ (State.satMem_moves ..) (Foot.sub0 (by decide +kernel))
        exact Moves.refl _
  intro h2
  try clear_value x2
  refine Moves.ite (fun hc => ?_) (fun hc => ?_)
  · refine Moves.seq ?_ (State.satMem_moves ..) (Foot.sub0 (by decide +kernel))
    exact h2
  · exact h2

def Foot.ldupPut : Foot := ⟨[(0x036044, 0x036044)], [], [.fab]⟩

theorem State.ldupPut_moves (s : State) (k : LdupKey) : Moves (Foot.ldupPut.at []) s (State.ldupPut s k) := by
  unfold State.ldupPut
  extract_lets -merge -underBinder +onlyGivenNames x1
  subst x1
  extract_lets -merge -underBinder +onlyGivenNames x2
  subst x2
  extract_lets -merge -underBinder +onlyGivenNames x3
  refine Moves.let_ x3 ?_ ?_
  · subst x3
    refine Moves.seq ?_ (Moves.upd_fab _ _) (Foot.sub0 (by decide +kernel))
    exact Moves.refl _
  intro h3
  try clear_value x3
  refine Moves.seq ?_ (State.put_moves _ _ _ (by decide)) (Foot.sub1 (by decide +kernel) (Foot.holds_reg (by decide +kernel)))
  exact h3

def Foot.ldupRoom : Foot := ⟨[(0x036010, 0x036010), (0x036044, 0x036044)], [], [.evq, .fab]⟩

theorem State.ldupRoom_moves (s : State) : Moves (Foot.ldupRoom.at []) s (State.ldupRoom s) := by
  unfold State.ldupRoom
  refine Moves.ite (fun hc => ?_) (fun hc => ?_)
  · exact Moves.refl _
  · extract_lets -merge -underBinder +onlyGivenNames x1
    subst x1
    extract_lets -merge -underBinder +onlyGivenNames x2
    subst x2
    extract_lets -merge -underBinder +onlyGivenNames x3
    refine Moves.let_ x3 ?_ ?_
    · subst x3
      refine Moves.seq ?_ (Moves.upd_fab _ _) (Foot.sub0 (by decide +kernel))
      exact Moves.refl _
    intro h3
    try clear_value x3
    extract_lets -merge -underBinder +onlyGivenNames x4
    refine Moves.let_ x4 ?_ ?_
    · subst x4
      refine Moves.seq ?_ (State.raise_moves ..) (Foot.sub1 (by decide +kernel) (Foot.holds_reg (by decide +kernel)))
      refine Moves.seq ?_ (State.satInc_moves _ _ (by decide)) (Foot.sub1 (by decide +kernel) (Foot.holds_reg (by decide +kernel)))
      exact h3
    intro h4
    try clear_value x4
    refine Moves.seq ?_ (State.post_moves ..) (Foot.sub0 (by decide +kernel))
    exact h4

def Foot.ldupFirst : Foot := ⟨[(0x036048, 0x03604C)], [], []⟩

theorem State.ldupFirst_moves (s : State) (f : NFrame) : Moves (Foot.ldupFirst.at []) s (State.ldupFirst s f) := by
  unfold State.ldupFirst
  split
  · refine Moves.seq ?_ (State.wrapInc_moves _ _ (by decide)) (Foot.sub1 (by decide +kernel) (Foot.holds_reg (by decide +kernel)))
    exact Moves.refl _
  · refine Moves.seq ?_ (State.wrapInc_moves _ _ (by decide)) (Foot.sub1 (by decide +kernel) (Foot.holds_reg (by decide +kernel)))
    exact Moves.refl _

def Foot.ldup : Foot := ⟨[(0x036010, 0x036010), (0x036044, 0x036054)], [], [.evq, .fab]⟩

theorem State.ldup_moves (s : State) (f : NFrame) : Moves (Foot.ldup.at []) s ((State.ldup s f)).2 := by
  unfold State.ldup
  refine Moves.ite_snd (fun hc => ?_) (fun hc => ?_)
  · exact Moves.refl _
  · split
    · extract_lets -merge -underBinder +onlyGivenNames x1
      refine Moves.let_ x1 ?_ ?_
      · subst x1
        refine Moves.seq ?_ (State.ldupPut_moves ..) (Foot.sub0 (by decide +kernel))
        refine Moves.seq ?_ (State.ldupRoom_moves ..) (Foot.sub0 (by decide +kernel))
        exact Moves.refl _
      intro h1
      try clear_value x1
      refine Moves.seq ?_ (State.ldupFirst_moves ..) (Foot.sub0 (by decide +kernel))
      exact h1
    · extract_lets -merge -underBinder +onlyGivenNames x2
      subst x2
      refine Moves.ite_snd (fun hc => ?_) (fun hc => ?_)
      · refine Moves.seq ?_ (State.wrapInc_moves _ _ (by decide)) (Foot.sub1 (by decide +kernel) (Foot.holds_reg (by decide +kernel)))
        refine Moves.seq ?_ (State.ldupPut_moves ..) (Foot.sub0 (by decide +kernel))
        exact Moves.refl _
      · refine Moves.ite_snd (fun hc => ?_) (fun hc => ?_)
        · refine Moves.seq ?_ (State.ldupFirst_moves ..) (Foot.sub0 (by decide +kernel))
          refine Moves.seq ?_ (State.ldupPut_moves ..) (Foot.sub0 (by decide +kernel))
          exact Moves.refl _
        · refine Moves.ite_snd (fun hc => ?_) (fun hc => ?_)
          · refine Moves.seq ?_ (State.ldupFirst_moves ..) (Foot.sub0 (by decide +kernel))
            refine Moves.seq ?_ (State.ldupPut_moves ..) (Foot.sub0 (by decide +kernel))
            exact Moves.refl _
          · extract_lets -merge -underBinder +onlyGivenNames x3
            refine Moves.let_ x3 ?_ ?_
            · subst x3
              refine Moves.seq ?_ (State.wrapInc_moves _ _ (by decide)) (Foot.sub1 (by decide +kernel) (Foot.holds_reg (by decide +kernel)))
              refine Moves.seq ?_ (State.ldupPut_moves ..) (Foot.sub0 (by decide +kernel))
              exact Moves.refl _
            intro h3
            try clear_value x3
            refine Moves.seq ?_ (State.ldupFirst_moves ..) (Foot.sub0 (by decide +kernel))
            refine Moves.seq ?_ (State.raise_moves ..) (Foot.sub1 (by decide +kernel) (Foot.holds_reg (by decide +kernel)))
            exact h3

def Foot.police : Foot := ⟨[], [], [.mem]⟩

theorem State.police_moves (s : State) (k : Nat) (len : Nat) : Moves (Foot.police.at []) s ((State.police s k len)).2 := by
  unfold State.police
  dsimp only
  refine Moves.ite_snd (fun hc => ?_) (fun hc => ?_)
  · exact Moves.refl _
  · refine Moves.ite_snd (fun hc => ?_) (fun hc => ?_)
    · refine Moves.seq ?_ (State.wrNum_moves ..) (Foot.sub0 (by decide +kernel))
      exact Moves.widen (State.wrNum_moves ..) (Foot.sub0 (by decide +kernel))
    · refine Moves.seq ?_ (State.wrapMem_moves ..) (Foot.sub0 (by decide +kernel))
      refine Moves.seq ?_ (State.wrNum_moves ..) (Foot.sub0 (by decide +kernel))
      exact Moves.widen (State.wrNum_moves ..) (Foot.sub0 (by decide +kernel))

def Foot.policed : Foot := ⟨[(0x034010, 0x034010)], [], [.mem]⟩

theorem State.policed_moves (s : State) (ingress : Nat) : Moves (Foot.policed.at []) s (State.policed s ingress) := by
  unfold State.policed
  refine Moves.seq ?_ (State.raise_moves ..) (Foot.sub1 (by decide +kernel) (Foot.holds_reg (by decide +kernel)))
  refine Moves.seq ?_ (State.satMem_moves ..) (Foot.sub0 (by decide +kernel))
  exact Moves.refl _

def Foot.portMap : Foot := ⟨[(0x032010, 0x032010), (0x032060, 0x03206C)], [], [.mem, .fab]⟩

theorem State.portMap_moves (s : State) (i : Nat) (ingress : Nat) (f : NFrame) :
    Moves (Foot.portMap.at []) s (State.portMap s i ingress f) := by
  unfold State.portMap
  extract_lets -merge -underBinder +onlyGivenNames x1
  subst x1
  extract_lets -merge -underBinder +onlyGivenNames x2
  refine Moves.let_ x2 ?_ ?_
  · subst x2
    refine Moves.foldl _ (fun x3 _ h3 => ?_) _ ?_
    · refine Moves.seq ?_ (State.enqueue_moves ..) (Foot.sub1 (by decide +kernel) (Foot.holds_four 204908 204904 204900 204896 (by decide +kernel) (by decide +kernel) (by decide +kernel) (by decide +kernel) (by first | omega | (dsimp only; omega))))
      exact h3
    · exact Moves.refl _
  intro h2
  try clear_value x2
  refine Moves.ite (fun hc => ?_) (fun hc => ?_)
  · refine Moves.seq ?_ (State.enqueue_moves ..) (Foot.sub1 (by decide +kernel) (Foot.holds_four 204908 204904 204900 204896 (by decide +kernel) (by decide +kernel) (by decide +kernel) (by decide +kernel) (by first | omega | (dsimp only; omega))))
    exact h2
  · exact h2

def Foot.pdTransmit : Foot := ⟨[(0x040074, 0x040074), (0x050074, 0x050074)], [], [.mem, .out]⟩

theorem State.pdTransmit_moves (s : State) (i : Nat) (dataset : List Byte) :
    Moves (Foot.pdTransmit.at []) s (State.pdTransmit s i dataset) := by
  unfold State.pdTransmit
  simp -zeta only [List.foldl_cons, List.foldl_nil]
  refine Moves.ite (fun hc => ?_) (fun hc => ?_)
  · refine Moves.ite (fun hc => ?_) (fun hc => ?_)
    · exact Moves.refl _
    · refine Moves.foldl _ (fun x1 _ h1 => ?_) _ ?_
      · extract_lets -merge -underBinder +onlyGivenNames x2
        subst x2
        extract_lets -merge -underBinder +onlyGivenNames x3
        refine Moves.let_ x3 ?_ ?_
        · subst x3
          refine Moves.foldl _ (fun x4 _ h4 => ?_) _ ?_
          · refine Moves.ite (fun hc => ?_) (fun hc => ?_)
            · refine Moves.seq ?_ (State.wrapInc_moves _ _ (by decide)) (Foot.sub1 (by decide +kernel) (Foot.holds_reg (by decide +kernel)))
              refine Moves.seq ?_ (State.emit_moves ..) (Foot.sub0 (by decide +kernel))
              exact h4
            · exact h4
          · exact h1
        intro h3
        try clear_value x3
        refine Moves.seq ?_ (State.wrapMem_moves ..) (Foot.sub0 (by decide +kernel))
        exact h3
      · exact Moves.refl _
  · refine Moves.foldl _ (fun x5 _ h5 => ?_) _ ?_
    · extract_lets -merge -underBinder +onlyGivenNames x6
      subst x6
      extract_lets -merge -underBinder +onlyGivenNames x7
      refine Moves.let_ x7 ?_ ?_
      · subst x7
        refine Moves.foldl _ (fun x8 _ h8 => ?_) _ ?_
        · refine Moves.ite (fun hc => ?_) (fun hc => ?_)
          · refine Moves.seq ?_ (State.wrapInc_moves _ _ (by decide)) (Foot.sub1 (by decide +kernel) (Foot.holds_reg (by decide +kernel)))
            refine Moves.seq ?_ (State.emit_moves ..) (Foot.sub0 (by decide +kernel))
            exact h8
          · exact h8
        · exact h5
      intro h7
      try clear_value x7
      refine Moves.seq ?_ (State.wrapMem_moves ..) (Foot.sub0 (by decide +kernel))
      exact h7
    · refine Moves.ite (fun hc => ?_) (fun hc => ?_)
      · exact Moves.refl _
      · refine Moves.foldl _ (fun x9 _ h9 => ?_) _ ?_
        · extract_lets -merge -underBinder +onlyGivenNames x10
          subst x10
          extract_lets -merge -underBinder +onlyGivenNames x11
          refine Moves.let_ x11 ?_ ?_
          · subst x11
            refine Moves.foldl _ (fun x12 _ h12 => ?_) _ ?_
            · refine Moves.ite (fun hc => ?_) (fun hc => ?_)
              · refine Moves.seq ?_ (State.wrapInc_moves _ _ (by decide)) (Foot.sub1 (by decide +kernel) (Foot.holds_reg (by decide +kernel)))
                refine Moves.seq ?_ (State.emit_moves ..) (Foot.sub0 (by decide +kernel))
                exact h12
              · exact h12
            · exact h9
          intro h11
          try clear_value x11
          refine Moves.seq ?_ (State.wrapMem_moves ..) (Foot.sub0 (by decide +kernel))
          exact h11
        · exact Moves.refl _

def Foot.toOwner : Foot :=
  ⟨[(0x032010, 0x032010), (0x032060, 0x03206C), (0x040074, 0x040074), (0x050074, 0x050074)], [], [.mem,
    .out, .fab]⟩

theorem State.toOwner_moves (s : State) (i : Nat) (ingress : Nat) (f : NFrame) :
    Moves (Foot.toOwner.at []) s (State.toOwner s i ingress f) := by
  unfold State.toOwner
  split
  · refine Moves.seq ?_ (State.pdTransmit_moves ..) (Foot.sub0 (by decide +kernel))
    exact Moves.refl _
  · refine Moves.seq ?_ (State.emit_moves ..) (Foot.sub0 (by decide +kernel))
    exact Moves.refl _
  · refine Moves.seq ?_ (State.enqueue_moves ..) (Foot.sub1 (by decide +kernel) (Foot.holds_four 204908 204904 204900 204896 (by decide +kernel) (by decide +kernel) (by decide +kernel) (by decide +kernel) (by first | omega | (dsimp only; omega))))
    exact Moves.refl _
  · refine Moves.seq ?_ (State.enqueue_moves ..) (Foot.sub1 (by decide +kernel) (Foot.holds_four 204908 204904 204900 204896 (by decide +kernel) (by decide +kernel) (by decide +kernel) (by decide +kernel) (by first | omega | (dsimp only; omega))))
    exact Moves.refl _

end Sys2Proof.Machine
end

