-- ==== Sys2Proof/Laws/Foot08.lean ====
section
/-!
SUPPORT. What the operations may touch: one footprint and one lemma each.
-/

namespace Sys2Proof.Machine

set_option Elab.async false

def Foot.ctxReceive : Foot :=
  ⟨[(0x032010, 0x032010), (0x032060, 0x03206C), (0x040074, 0x040074), (0x050074, 0x050074)], [], [.mem,
    .out, .fab]⟩

theorem State.ctxReceive_moves (s : State) (i : Nat) (ingress : Nat) (seq : Nat) (lastB : Bool) (serial : Nat) (f : NFrame) :
    Moves (Foot.ctxReceive.at []) s (State.ctxReceive s i ingress seq lastB serial f) := by
  unfold State.ctxReceive
  split
  · refine Moves.seq ?_ (State.satMem_moves ..) (Foot.sub0 (by decide +kernel))
    exact Moves.refl _
  · extract_lets -merge -underBinder +onlyGivenNames x1
    subst x1
    extract_lets -merge -underBinder +onlyGivenNames x2
    refine Moves.let_ x2 ?_ ?_
    · subst x2
      refine Moves.seq ?_ (State.wrNum_moves ..) (Foot.sub0 (by decide +kernel))
      exact Moves.refl _
    intro h2
    try clear_value x2
    extract_lets -merge -underBinder +onlyGivenNames x3
    refine Moves.let_ x3 ?_ ?_
    · subst x3
      refine Moves.seq ?_ (State.wrapMem_moves ..) (Foot.sub0 (by decide +kernel))
      refine Moves.seq ?_ (State.wrNum_moves ..) (Foot.sub0 (by decide +kernel))
      refine Moves.seq ?_ (State.wrNum_moves ..) (Foot.sub0 (by decide +kernel))
      exact h2
    intro h3
    try clear_value x3
    extract_lets -merge -underBinder +onlyGivenNames x4
    refine Moves.let_ x4 ?_ ?_
    · subst x4
      refine Moves.seq ?_ (State.wrNum_moves ..) (Foot.sub0 (by decide +kernel))
      refine Moves.seq ?_ (State.wrByte_moves ..) (Foot.sub0 (by decide +kernel))
      exact h3
    intro h4
    try clear_value x4
    extract_lets -merge -underBinder +onlyGivenNames x5
    refine Moves.let_ x5 ?_ ?_
    · subst x5
      refine Moves.seq ?_ (State.setStat_moves ..) (Foot.sub0 (by decide +kernel))
      refine Moves.seq ?_ (State.setStat_moves ..) (Foot.sub0 (by decide +kernel))
      exact h4
    intro h5
    try clear_value x5
    extract_lets -merge -underBinder +onlyGivenNames x6
    refine Moves.let_ x6 ?_ ?_
    · subst x6
      refine Moves.seq ?_ (State.setStat_moves ..) (Foot.sub0 (by decide +kernel))
      exact h5
    intro h6
    try clear_value x6
    refine Moves.seq ?_ (State.portMap_moves ..) (Foot.sub0 (by decide +kernel))
    refine Moves.seq ?_ (State.toOwner_moves ..) (Foot.sub0 (by decide +kernel))
    exact h6

def Foot.localDeliver : Foot :=
  ⟨[(0x032010, 0x032010), (0x032060, 0x03206C), (0x034010, 0x034010), (0x035058, 0x035058), (0x040074,
    0x040074), (0x050074, 0x050074)], [], [.mem, .out, .fab]⟩

theorem State.localDeliver_moves (s : State) (t : Nat) (ingress : Nat) (f : NFrame) :
    Moves (Foot.localDeliver.at []) s (State.localDeliver s t ingress f) := by
  unfold State.localDeliver
  refine Moves.ite (fun hc => ?_) (fun hc => ?_)
  · exact Moves.refl _
  · split
    · refine Moves.ite (fun hc => ?_) (fun hc => ?_)
      · refine Moves.seq ?_ (State.emit_moves ..) (Foot.sub0 (by decide +kernel))
        exact Moves.refl _
      · refine Moves.seq ?_ (State.satInc_moves _ _ (by decide)) (Foot.sub1 (by decide +kernel) (Foot.holds_reg (by decide +kernel)))
        exact Moves.refl _
    · refine Moves.ite (fun hc => ?_) (fun hc => ?_)
      · refine Moves.ite (fun hc => ?_) (fun hc => ?_)
        · refine Moves.seq ?_ (State.emit_moves ..) (Foot.sub0 (by decide +kernel))
          exact Moves.refl _
        · refine Moves.seq ?_ (State.satInc_moves _ _ (by decide)) (Foot.sub1 (by decide +kernel) (Foot.holds_reg (by decide +kernel)))
          exact Moves.refl _
      · extract_lets -merge -underBinder +onlyGivenNames x1
        subst x1
        refine Moves.ite (fun hc => ?_) (fun hc => ?_)
        · refine Moves.seq ?_ (State.policed_moves ..) (Foot.sub0 (by decide +kernel))
          refine Moves.seq ?_ (State.police_moves ..) (Foot.sub0 (by decide +kernel))
          exact Moves.refl _
        · extract_lets -merge -underBinder +onlyGivenNames x2
          subst x2
          refine Moves.seq ?_ (State.ctxReceive_moves ..) (Foot.sub0 (by decide +kernel))
          refine Moves.seq ?_ (State.police_moves ..) (Foot.sub0 (by decide +kernel))
          exact Moves.refl _

def Foot.nativeLocal : Foot :=
  ⟨[(0x030010, 0x030010), (0x032010, 0x032010), (0x032060, 0x03206C), (0x034010, 0x034010), (0x035058,
    0x035058), (0x036010, 0x036010), (0x036044, 0x036054), (0x040074, 0x040074), (0x050074, 0x050074), (0x100070, 0x100070)], [],
    [.mem, .out, .evq, .fab]⟩

theorem State.nativeLocal_moves (s : State) (ingress : Nat) (f : NFrame) :
    Moves (Foot.nativeLocal.at []) s ((State.nativeLocal s ingress f)).2 := by
  unfold State.nativeLocal
  extract_lets -merge -underBinder +onlyGivenNames x1
  subst x1
  refine Moves.ite_snd (fun hc => ?_) (fun hc => ?_)
  · refine Moves.seq ?_ (State.ldup_moves ..) (Foot.sub0 (by decide +kernel))
    exact Moves.refl _
  · extract_lets -merge -underBinder +onlyGivenNames x2
    refine Moves.let_ x2 ?_ ?_
    · subst x2
      refine Moves.seq ?_ (State.ldup_moves ..) (Foot.sub0 (by decide +kernel))
      exact Moves.refl _
    intro h2
    try clear_value x2
    extract_lets -merge -underBinder +onlyGivenNames x3
    subst x3
    split
    · refine Moves.ite (fun hc => ?_) (fun hc => ?_)
      · refine Moves.seq ?_ (State.satInc_moves _ _ (by decide)) (Foot.sub1 (by decide +kernel) (Foot.holds_reg (by decide +kernel)))
        exact h2
      · refine Moves.seq ?_ (State.satInc_moves _ _ (by decide)) (Foot.sub1 (by decide +kernel) (Foot.holds_reg (by decide +kernel)))
        exact h2
    · refine Moves.ite_snd (fun hc => ?_) (fun hc => ?_)
      · refine Moves.seq ?_ (State.raise_moves ..) (Foot.sub1 (by decide +kernel) (Foot.holds_reg (by decide +kernel)))
        refine Moves.seq ?_ (State.satInc_moves _ _ (by decide)) (Foot.sub1 (by decide +kernel) (Foot.holds_reg (by decide +kernel)))
        exact h2
      · refine Moves.ite_snd (fun hc => ?_) (fun hc => ?_)
        · refine Moves.seq ?_ (State.localDeliver_moves ..) (Foot.sub0 (by decide +kernel))
          exact h2
        · exact h2

def Foot.putOut : Foot := ⟨[], [], [.out]⟩

theorem State.putOut_moves (s : State) (port : Nat) (tc : Nat) (q : QFrame) :
    Moves (Foot.putOut.at []) s (State.putOut s port tc q) := by
  unfold State.putOut
  split
  · extract_lets -merge -underBinder +onlyGivenNames x1
    subst x1
    refine Moves.ite (fun hc => ?_) (fun hc => ?_)
    · refine Moves.seq ?_ (State.emit_moves ..) (Foot.sub0 (by decide +kernel))
      exact Moves.refl _
    · refine Moves.ite (fun hc => ?_) (fun hc => ?_)
      · refine Moves.seq ?_ (State.emit_moves ..) (Foot.sub0 (by decide +kernel))
        exact Moves.refl _
      · refine Moves.seq ?_ (State.emit_moves ..) (Foot.sub0 (by decide +kernel))
        exact Moves.refl _
  · extract_lets -merge -underBinder +onlyGivenNames x2
    subst x2
    refine Moves.seq ?_ (State.emit_moves ..) (Foot.sub0 (by decide +kernel))
    exact Moves.refl _

def Foot.cntTx : Foot := ⟨[], [], [.mem]⟩

theorem State.cntTx_moves (s : State) (port : Nat) : Moves (Foot.cntTx.at []) s (State.cntTx s port) := by
  unfold State.cntTx
  refine Moves.seq ?_ (State.wrapMem_moves ..) (Foot.sub0 (by decide +kernel))
  exact Moves.refl _

def Foot.forward : Foot := ⟨[(0x032010, 0x032010)], [], [.mem, .out, .fab]⟩

theorem State.forward_moves (s : State) (ingress : Nat) (egress : Nat) (q : Nat) (f : QFrame) :
    Moves (Foot.forward.at [(204896 + 4 * (f.pool % 4 % 4), 204896 + 4 * (f.pool % 4 % 4))]) s (State.forward s ingress egress q f) :=
      by
  unfold State.forward
  refine Moves.ite (fun hc => ?_) (fun hc => ?_)
  · refine Moves.seq ?_ (State.putOut_moves ..) (Foot.sub0 (by decide +kernel))
    refine Moves.seq ?_ (State.cntTx_moves ..) (Foot.sub0 (by decide +kernel))
    exact Moves.refl _
  · refine Moves.seq ?_ (State.enqueue_moves ..) (Foot.sub1 (by decide +kernel) (Foot.holds_same (.head _)))
    exact Moves.refl _

def Foot.bridge : Foot := ⟨[(0x032010, 0x032010), (0x032060, 0x03206C)], [], [.mem, .out, .fab]⟩

theorem State.bridge_moves (s : State) (p : BPort) (pcp : Nat) (f : NFrame) :
    Moves (Foot.bridge.at []) s (State.bridge s p pcp f) := by
  unfold State.bridge
  extract_lets -merge -underBinder +onlyGivenNames x1
  subst x1
  extract_lets -merge -underBinder +onlyGivenNames x2
  subst x2
  refine Moves.ite (fun hc => ?_) (fun hc => ?_)
  · exact Moves.refl _
  · extract_lets -merge -underBinder +onlyGivenNames x3
    subst x3
    refine Moves.seq ?_ (State.forward_moves ..) (Foot.sub1 (by decide +kernel) (Foot.holds_range 204896 204908 (by decide +kernel) (by omega) (by omega)))
    exact Moves.refl _

def Foot.backboneRx : Foot :=
  ⟨[(0x030010, 0x030010), (0x032010, 0x032010), (0x032060, 0x03206C), (0x034010, 0x034010), (0x035058,
    0x035058), (0x036010, 0x036010), (0x036044, 0x036054), (0x040074, 0x040074), (0x050074, 0x050074), (0x100070, 0x100070)], [],
    [.mem, .out, .evq, .fab]⟩

theorem State.backboneRx_moves (s : State) (p : BPort) (pcp : Nat) (f : NFrame) (fcsOk : Bool) :
    Moves (Foot.backboneRx.at [(69708 + 65536 * (p.line.idx % 2) + 4096 * (p.side % 2), 69708 + 65536 * (p.line.idx % 2) + 4096 *
      (p.side % 2))]) s ((State.backboneRx s p pcp f fcsOk)).2 := by
  unfold State.backboneRx
  refine Moves.ite_snd (fun hc => ?_) (fun hc => ?_)
  · exact Moves.refl _
  · extract_lets -merge -underBinder +onlyGivenNames x1
    subst x1
    extract_lets -merge -underBinder +onlyGivenNames x2
    refine Moves.let_ x2 ?_ ?_
    · subst x2
      refine Moves.ite (fun hc => ?_) (fun hc => ?_)
      · refine Moves.seq ?_ (State.cntRx_moves ..) (Foot.sub0 (by decide +kernel))
        exact Moves.refl _
      · exact Moves.refl _
    intro h2
    try clear_value x2
    refine Moves.ite_snd (fun hc => ?_) (fun hc => ?_)
    · extract_lets -merge -underBinder +onlyGivenNames x3
      refine Moves.let_ x3 ?_ ?_
      · subst x3
        refine Moves.seq ?_ (State.satInc_moves _ _ (by first | (dsimp only [F.BL_P_ERR_FCS_ERR]; omega) | omega)) (Foot.sub1 (by decide +kernel) (Foot.holds_same (.head _)))
        exact h2
      intro h3
      try clear_value x3
      refine Moves.ite (fun hc => ?_) (fun hc => ?_)
      · refine Moves.seq ?_ (State.badFcs_moves ..) (Foot.sub0 (by decide +kernel))
        exact h3
      · exact h3
    · refine Moves.ite_snd (fun hc => ?_) (fun hc => ?_)
      · refine Moves.seq ?_ (State.satInc_moves _ _ (by first | (dsimp only [F.BL_P_ERR_HCRC_ERR]; omega) | omega)) (Foot.sub1 (by decide +kernel) (Foot.holds_same (.head _)))
        exact h2
      · refine Moves.ite_snd (fun hc => ?_) (fun hc => ?_)
        · refine Moves.seq ?_ (State.nativeLocal_moves ..) (Foot.sub0 (by decide +kernel))
          refine Moves.seq ?_ (State.bridge_moves ..) (Foot.sub0 (by decide +kernel))
          exact h2
        · exact h2

def Foot.bankDrained : Foot := ⟨[(0x032058, 0x032058), (0x0F1044, 0x0F1044)], [], [.fab]⟩

theorem State.bankDrained_moves (s : State) (b : Nat) (pool : Nat) :
    Moves (Foot.bankDrained.at [(204896 + 4 * (pool % 4 % 4), 204896 + 4 * (pool % 4 % 4))]) s (State.bankDrained s b pool) := by
  unfold State.bankDrained
  refine Moves.ite (fun hc => ?_) (fun hc => ?_)
  · exact Moves.refl _
  · extract_lets -merge -underBinder +onlyGivenNames x1
    subst x1
    extract_lets -merge -underBinder +onlyGivenNames x2
    refine Moves.let_ x2 ?_ ?_
    · subst x2
      refine Moves.seq ?_ (Moves.upd_fab _ _) (Foot.sub0 (by decide +kernel))
      exact Moves.refl _
    intro h2
    try clear_value x2
    refine Moves.seq ?_ (State.put_moves _ _ _ (by decide)) (Foot.sub1 (by decide +kernel) (Foot.holds_reg (by decide +kernel)))
    refine Moves.seq ?_ (State.takeCells_moves ..) (Foot.sub1 (by decide +kernel) (Foot.holds_same (.head _)))
    refine Moves.seq ?_ (State.wr_moves _ _ (by decide)) (Foot.sub1 (by decide +kernel) (Foot.holds_reg (by decide +kernel)))
    exact h2

def Foot.setSgwIn : Foot := ⟨[], [], [.sgw]⟩

theorem State.setSgwIn_moves (s : State) (i : Nat) (x : SgwInput) : Moves (Foot.setSgwIn.at []) s (State.setSgwIn s i x) := by
  unfold State.setSgwIn
  refine Moves.seq ?_ (State.modSgw_moves ..) (Foot.sub0 (by decide +kernel))
  exact Moves.refl _

def Foot.carryInput : Foot := ⟨[], [], [.mem, .sgw]⟩

theorem State.carryInput_moves (s : State) (old : SgwState) (b : Nat) (i : Nat) :
    Moves (Foot.carryInput.at []) s (State.carryInput s old b i) := by
  unfold State.carryInput
  extract_lets -merge -underBinder +onlyGivenNames x1
  subst x1
  split
  · refine Moves.seq ?_ (State.setSgwIn_moves ..) (Foot.sub0 (by decide +kernel))
    exact Moves.refl _
  · refine Moves.seq ?_ (State.wrNum_moves ..) (Foot.sub0 (by decide +kernel))
    refine Moves.seq ?_ (State.wrNum_moves ..) (Foot.sub0 (by decide +kernel))
    exact Moves.refl _

def Foot.carryRecipe : Foot := ⟨[], [], [.mem, .sgw]⟩

theorem State.carryRecipe_moves (s : State) (old : SgwState) (b : Nat) (i : Nat) :
    Moves (Foot.carryRecipe.at []) s (State.carryRecipe s old b i) := by
  unfold State.carryRecipe
  extract_lets -merge -underBinder +onlyGivenNames x1
  subst x1
  split
  · refine Moves.seq ?_ (State.modSgw_moves ..) (Foot.sub0 (by decide +kernel))
    exact Moves.refl _
  · refine Moves.seq ?_ (State.wrBytes_moves ..) (Foot.sub0 (by decide +kernel))
    exact Moves.refl _

def Foot.bankFlip : Foot :=
  ⟨[(0x060010, 0x060010), (0x060044, 0x060044), (0x060054, 0x060054), (0x060064, 0x060064)], [], [.mem,
    .evq, .sgw]⟩

theorem State.bankFlip_moves (s : State) : Moves (Foot.bankFlip.at []) s (State.bankFlip s) := by
  unfold State.bankFlip
  extract_lets -merge -underBinder +onlyGivenNames x1
  subst x1
  extract_lets -merge -underBinder +onlyGivenNames x2
  subst x2
  extract_lets -merge -underBinder +onlyGivenNames x3
  refine Moves.let_ x3 ?_ ?_
  · subst x3
    refine Moves.seq ?_ (State.modSgw_moves ..) (Foot.sub0 (by decide +kernel))
    exact Moves.refl _
  intro h3
  try clear_value x3
  extract_lets -merge -underBinder +onlyGivenNames x4
  refine Moves.let_ x4 ?_ ?_
  · subst x4
    refine Moves.foldl _ (fun x5 _ h5 => ?_) _ ?_
    · refine Moves.seq ?_ (State.carryInput_moves ..) (Foot.sub0 (by decide +kernel))
      exact h5
    · exact h3
  intro h4
  try clear_value x4
  extract_lets -merge -underBinder +onlyGivenNames x6
  refine Moves.let_ x6 ?_ ?_
  · subst x6
    refine Moves.foldl _ (fun x7 _ h7 => ?_) _ ?_
    · refine Moves.seq ?_ (State.carryRecipe_moves ..) (Foot.sub0 (by decide +kernel))
      exact h7
    · exact h4
  intro h6
  try clear_value x6
  extract_lets -merge -underBinder +onlyGivenNames x8
  refine Moves.let_ x8 ?_ ?_
  · subst x8
    refine Moves.seq ?_ (State.wr_moves _ _ (by decide)) (Foot.sub1 (by decide +kernel) (Foot.holds_reg (by decide +kernel)))
    refine Moves.seq ?_ (State.putB_moves _ _ _ (by decide)) (Foot.sub1 (by decide +kernel) (Foot.holds_reg (by decide +kernel)))
    refine Moves.seq ?_ (State.put_moves _ _ _ (by decide)) (Foot.sub1 (by decide +kernel) (Foot.holds_reg (by decide +kernel)))
    exact h6
  intro h8
  try clear_value x8
  refine Moves.seq ?_ (State.post_moves ..) (Foot.sub0 (by decide +kernel))
  refine Moves.seq ?_ (State.raise_moves ..) (Foot.sub1 (by decide +kernel) (Foot.holds_reg (by decide +kernel)))
  refine Moves.seq ?_ (State.put_moves _ _ _ (by decide)) (Foot.sub1 (by decide +kernel) (Foot.holds_reg (by decide +kernel)))
  exact h8

def Foot.bankMoved : Foot := ⟨[(0x032010, 0x032010), (0x032058, 0x032058), (0x032060, 0x03206C), (0x0F1044, 0x0F1044)], [], [.evq, .fab]⟩

theorem State.bankMoved_moves (s : State) (b : Nat) : Moves (Foot.bankMoved.at []) s (State.bankMoved s b) := by
  unfold State.bankMoved
  split
  · exact Moves.refl _
  · refine Moves.ite (fun hc => ?_) (fun hc => ?_)
    · exact Moves.refl _
    · refine Moves.ite (fun hc => ?_) (fun hc => ?_)
      · refine Moves.seq ?_ (State.bankDrained_moves ..) (Foot.sub1 (by decide +kernel) (Foot.holds_four 204908 204904 204900 204896 (by decide +kernel) (by decide +kernel) (by decide +kernel) (by decide +kernel) (by first | omega | (dsimp only; omega))))
        exact Moves.refl _
      · extract_lets -merge -underBinder +onlyGivenNames x1
        subst x1
        extract_lets -merge -underBinder +onlyGivenNames x2
        refine Moves.let_ x2 ?_ ?_
        · subst x2
          refine Moves.seq ?_ (Moves.upd_fab _ _) (Foot.sub0 (by decide +kernel))
          exact Moves.refl _
        intro h2
        try clear_value x2
        extract_lets -merge -underBinder +onlyGivenNames x3
        refine Moves.let_ x3 ?_ ?_
        · subst x3
          refine Moves.seq ?_ (State.takeCells_moves ..) (Foot.sub1 (by decide +kernel) (Foot.holds_four 204908 204904 204900 204896 (by decide +kernel) (by decide +kernel) (by decide +kernel) (by decide +kernel) (by first | omega | (dsimp only; omega))))
          refine Moves.seq ?_ (State.wr_moves _ _ (by decide)) (Foot.sub1 (by decide +kernel) (Foot.holds_reg (by decide +kernel)))
          exact h2
        intro h3
        try clear_value x3
        extract_lets -merge -underBinder +onlyGivenNames x4
        refine Moves.let_ x4 ?_ ?_
        · subst x4
          refine Moves.ite (fun hc => ?_) (fun hc => ?_)
          · exact h3
          · refine Moves.seq ?_ (State.giveCells_moves ..) (Foot.sub1 (by decide +kernel) (Foot.holds_four 204908 204904 204900 204896 (by decide +kernel) (by decide +kernel) (by decide +kernel) (by decide +kernel) (by first | omega | (dsimp only; omega))))
            exact h3
        intro h4
        try clear_value x4
        refine Moves.seq ?_ (State.post_moves ..) (Foot.sub0 (by decide +kernel))
        refine Moves.seq ?_ (State.raise_moves ..) (Foot.sub1 (by decide +kernel) (Foot.holds_reg (by decide +kernel)))
        exact h4

def Foot.noWin : Foot := ⟨[(0x0B0010, 0x0B0010), (0x0B0048, 0x0B004C)], [], [.out]⟩

theorem State.noWin_moves (s : State) (off : Nat) (read : Bool) : Moves (Foot.noWin.at []) s (State.noWin s off read) := by
  unfold State.noWin
  extract_lets -merge -underBinder +onlyGivenNames x1
  refine Moves.let_ x1 ?_ ?_
  · subst x1
    refine Moves.seq ?_ (State.lastErr_moves ..) (Foot.sub0 (by decide +kernel))
    refine Moves.seq ?_ (State.raise_moves ..) (Foot.sub1 (by decide +kernel) (Foot.holds_reg (by decide +kernel)))
    refine Moves.seq ?_ (State.satInc_moves _ _ (by decide)) (Foot.sub1 (by decide +kernel) (Foot.holds_reg (by decide +kernel)))
    exact Moves.refl _
  intro h1
  try clear_value x1
  refine Moves.ite (fun hc => ?_) (fun hc => ?_)
  · refine Moves.seq ?_ (State.emit_moves ..) (Foot.sub0 (by decide +kernel))
    exact h1
  · exact h1

def Foot.bar2Error : Foot := ⟨[(0x0B0010, 0x0B0010), (0x0B0048, 0x0B0048)], [], [.out, .evq]⟩

theorem State.bar2Error_moves (s : State) (off : Nat) (n : Nat) (read : Bool) :
    Moves (Foot.bar2Error.at []) s (State.bar2Error s off n read) := by
  unfold State.bar2Error
  extract_lets -merge -underBinder +onlyGivenNames x1
  refine Moves.let_ x1 ?_ ?_
  · subst x1
    refine Moves.seq ?_ (State.post_moves ..) (Foot.sub0 (by decide +kernel))
    refine Moves.seq ?_ (State.lastErr_moves ..) (Foot.sub0 (by decide +kernel))
    refine Moves.seq ?_ (State.raise_moves ..) (Foot.sub1 (by decide +kernel) (Foot.holds_reg (by decide +kernel)))
    exact Moves.refl _
  intro h1
  try clear_value x1
  refine Moves.ite (fun hc => ?_) (fun hc => ?_)
  · refine Moves.seq ?_ (State.emit_moves ..) (Foot.sub0 (by decide +kernel))
    exact h1
  · exact h1

def Foot.pscWrite : Foot :=
  ⟨[(0x032010, 0x032010), (0x032060, 0x03206C), (0x0C2010, 0x0C2010), (0x0C2040, 0x0C2044), (0x0C2100,
    0x0C21FC)], [], [.mem, .evq, .fab]⟩

theorem State.pscWrite_moves (s : State) (p : Nat) (offs : Nat) (data : Nat) :
    Moves (Foot.pscWrite.at [(790600 + 16 * (p % 8), 790600 + 16 * (p % 8)),
      (790604 + 16 * (p % 8), 790604 + 16 * (p % 8))]) s (State.pscWrite s p offs data) := by
  unfold State.pscWrite
  split
  · refine Moves.seq ?_ (State.pwFail_moves ..) (Foot.sub0 (by decide +kernel))
    refine Moves.seq ?_ (State.put_moves _ _ _ (by first | (dsimp only [F.PSC_WIN_STAT_NODE]; omega) | omega)) (Foot.sub1 (by decide +kernel) (Foot.holds_same (.head _)))
    exact Moves.refl _
  · refine Moves.seq ?_ (State.pscSend_moves ..) (Foot.sub0 (by decide +kernel))
    refine Moves.seq ?_ (State.put_moves _ _ _ (by first | (dsimp only [F.PSC_WIN_STAT_NODE]; omega) | omega)) (Foot.sub1 (by decide +kernel) (Foot.holds_same (.head _)))
    refine Moves.seq ?_ (State.satInc_moves _ _ (by first | (dsimp only [F.PSC_WIN_CNT_WR]; omega) | omega)) (Foot.sub1 (by decide +kernel) (Foot.holds_same (.tail _ (.head _))))
    exact Moves.refl _

def Foot.pscRead : Foot :=
  ⟨[(0x032010, 0x032010), (0x032060, 0x03206C), (0x0C1048, 0x0C10B8), (0x0C1100, 0x0C1100)], [], [.mem,
    .out, .fresh, .fab, .psc]⟩

theorem State.pscRead_moves (s : State) (bar2 : Nat) (p : Nat) (offs : Nat) :
    Moves (Foot.pscRead.at [(790600 + 16 * (p % 8), 790600 + 16 * (p % 8))]) s (State.pscRead s bar2 p offs) := by
  unfold State.pscRead
  split
  · split
    · extract_lets -merge -underBinder +onlyGivenNames x1
      refine Moves.let_ x1 ?_ ?_
      · subst x1
        refine Moves.seq ?_ (State.drbFollow_moves ..) (Foot.sub0 (by decide +kernel))
        refine Moves.seq ?_ (State.modPsc_moves ..) (Foot.sub0 (by decide +kernel))
        exact Moves.refl _
      intro h1
      try clear_value x1
      refine Moves.seq ?_ (State.pscAnswer_moves ..) (Foot.sub1 (by decide +kernel) (Foot.holds_same (.head _)))
      exact h1
    · refine Moves.seq ?_ (State.modPsc_moves ..) (Foot.sub0 (by decide +kernel))
      exact Moves.refl _
  · split
    · refine Moves.seq ?_ (State.pscDone_moves ..) (Foot.sub1 (by decide +kernel) (Foot.holds_same (.head _)))
      refine Moves.seq ?_ (State.put_moves _ _ _ (by first | (dsimp only [F.PSC_WIN_STAT_NODE]; omega) | omega)) (Foot.sub1 (by decide +kernel) (Foot.holds_same (.head _)))
      exact Moves.refl _
    · refine Moves.seq ?_ (State.pscKick_moves ..) (Foot.sub0 (by decide +kernel))
      refine Moves.seq ?_ (State.modPsc_moves ..) (Foot.sub0 (by decide +kernel))
      exact Moves.refl _

def Foot.pscWindow : Foot :=
  ⟨[(0x006048, 0x006048), (0x032010, 0x032010), (0x032060, 0x03206C), (0x0B0010, 0x0B0010), (0x0B0048,
    0x0B0048), (0x0C1048, 0x0C10BC), (0x0C1100, 0x0C1100), (0x0C2010, 0x0C2010), (0x0C2040, 0x0C2044), (0x0C2100, 0x0C21FC)], [],
    [.mem, .out, .evq, .fresh, .fab, .psc]⟩

theorem State.pscWindow_moves (s : State) (w : Nat) (off : Nat) (n : Nat) (write : Option (List Byte)) :
    Moves (Foot.pscWindow.at []) s (State.pscWindow s w off n write) := by
  unfold State.pscWindow
  refine Moves.ite (fun hc => ?_) (fun hc => ?_)
  · refine Moves.seq ?_ (State.bar2Error_moves ..) (Foot.sub0 (by decide +kernel))
    exact Moves.refl _
  · extract_lets -merge -underBinder +onlyGivenNames x1
    subst x1
    extract_lets -merge -underBinder +onlyGivenNames x2
    subst x2
    extract_lets -merge -underBinder +onlyGivenNames x3
    subst x3
    extract_lets -merge -underBinder +onlyGivenNames x4
    subst x4
    split
    · extract_lets -merge -underBinder +onlyGivenNames x5
      subst x5
      extract_lets -merge -underBinder +onlyGivenNames x6
      subst x6
      refine Moves.ite (fun hc => ?_) (fun hc => ?_)
      · refine Moves.seq ?_ (State.pscWrite_moves ..) (Foot.sub_at (by decide +kernel) (Foot.own_cons (Foot.holds_range 790600 790712 (by decide +kernel) (by first | (dsimp only [F.HBR_IWIN_CFG_PWIN]; omega) | omega) (by first | (dsimp only [F.HBR_IWIN_CFG_PWIN]; omega) | omega)) (Foot.own_cons (Foot.holds_range 790604 790716 (by decide +kernel) (by first | (dsimp only [F.HBR_IWIN_CFG_PWIN]; omega) | omega) (by first | (dsimp only [F.HBR_IWIN_CFG_PWIN]; omega) | omega)) Foot.own_nil)))
        exact Moves.refl _
      · refine Moves.seq ?_ (State.lastErr_moves ..) (Foot.sub0 (by decide +kernel))
        refine Moves.seq ?_ (State.offAccess_moves ..) (Foot.sub0 (by decide +kernel))
        exact Moves.refl _
    · refine Moves.ite (fun hc => ?_) (fun hc => ?_)
      · refine Moves.seq ?_ (State.pscRead_moves ..) (Foot.sub1 (by decide +kernel) (Foot.holds_range 790600 790712 (by decide +kernel) (by first | (dsimp only [F.HBR_IWIN_CFG_PWIN]; omega) | omega) (by first | (dsimp only [F.HBR_IWIN_CFG_PWIN]; omega) | omega)))
        exact Moves.refl _
      · refine Moves.seq ?_ (State.emit_moves ..) (Foot.sub0 (by decide +kernel))
        refine Moves.seq ?_ (State.lastErr_moves ..) (Foot.sub0 (by decide +kernel))
        exact Moves.refl _

def Foot.ramWindow : Foot :=
  ⟨[(0x006048, 0x006048), (0x070010, 0x070010), (0x071074, 0x088074), (0x0B0010, 0x0B0010), (0x0B0048,
    0x0B0048)], [], [.mem, .out, .evq, .cans]⟩

theorem State.ramWindow_moves (s : State) (w : Nat) (off : Nat) (n : Nat) (write : Option (List Byte)) (ue : Bool) :
    Moves (Foot.ramWindow.at []) s (State.ramWindow s w off n write ue) := by
  unfold State.ramWindow
  extract_lets -merge -underBinder +onlyGivenNames x1
  subst x1
  extract_lets -merge -underBinder +onlyGivenNames x2
  subst x2
  extract_lets -merge -underBinder +onlyGivenNames x3
  subst x3
  try dsimp -zeta only
  refine Moves.ite (fun hc => ?_) (fun hc => ?_)
  · refine Moves.seq ?_ (State.bar2Error_moves ..) (Foot.sub0 (by decide +kernel))
    exact Moves.refl _
  · split
    · refine Moves.ite (fun hc => ?_) (fun hc => ?_)
      · refine Moves.seq ?_ (State.lastErr_moves ..) (Foot.sub0 (by decide +kernel))
        refine Moves.seq ?_ (State.offAccess_moves ..) (Foot.sub0 (by decide +kernel))
        exact Moves.refl _
      · extract_lets -merge -underBinder +onlyGivenNames x4
        refine Moves.let_ x4 ?_ ?_
        · subst x4
          refine Moves.foldl _ (fun x5 _ h5 => ?_) _ ?_
          · refine Moves.seq ?_ (State.wrByte_moves ..) (Foot.sub0 (by decide +kernel))
            exact h5
          · exact Moves.refl _
        intro h4
        try clear_value x4
        refine Moves.seq ?_ (State.canRamWritten_moves ..) (Foot.sub1 (by decide +kernel) (by (try dsimp only [F.HBR_IWIN_CFG_TGT, I.CBL, I.CBH, F.HBR_IWIN_CFG_MODE]); split <;> (try dsimp only) <;> first | exact (Foot.holds_range 462964 557172 (by decide +kernel) (by first | (dsimp only [F.HBR_IWIN_CFG_TGT, I.CBL, I.CBH, F.HBR_IWIN_CFG_MODE]; omega) | omega) (by first | (dsimp only [F.HBR_IWIN_CFG_TGT, I.CBL, I.CBH, F.HBR_IWIN_CFG_MODE]; omega) | omega))))
        exact h4
    · refine Moves.ite (fun hc => ?_) (fun hc => ?_)
      · refine Moves.seq ?_ (State.emit_moves ..) (Foot.sub0 (by decide +kernel))
        refine Moves.seq ?_ (State.lastErr_moves ..) (Foot.sub0 (by decide +kernel))
        exact Moves.refl _
      · refine Moves.ite (fun hc => ?_) (fun hc => ?_)
        · refine Moves.seq ?_ (State.emit_moves ..) (Foot.sub0 (by decide +kernel))
          refine Moves.seq ?_ (State.lastErr_moves ..) (Foot.sub0 (by decide +kernel))
          refine Moves.seq ?_ (State.raise_moves ..) (Foot.sub1 (by decide +kernel) (by (try dsimp only [F.HBR_IWIN_CFG_TGT, I.CBL, I.CBH]); split <;> (try dsimp only) <;> first | exact (Foot.holds_reg (lo := 458768) (hi := 458768) (by decide +kernel)) | exact (Foot.holds_reg (lo := 524304) (hi := 524304) (by decide +kernel))))
          exact Moves.refl _
        · refine Moves.seq ?_ (State.emit_moves ..) (Foot.sub0 (by decide +kernel))
          exact Moves.refl _

def Foot.bar2 : Foot :=
  ⟨[(0x006048, 0x006048), (0x032010, 0x032010), (0x032060, 0x03206C), (0x070010, 0x070010), (0x071074,
    0x088074), (0x0B0010, 0x0B0010), (0x0B0048, 0x0B004C), (0x0C1048, 0x0C10BC), (0x0C1100, 0x0C1100), (0x0C2010, 0x0C2010), (0x0C2040,
    0x0C2044), (0x0C2100, 0x0C21FC)], [], [.mem, .out, .evq, .fresh, .fab, .cans, .psc]⟩

theorem State.bar2_moves (s : State) (off : Nat) (n : Nat) (write : Option (List Byte)) (ue : Bool) :
    Moves (Foot.bar2.at []) s (State.bar2 s off n write ue) := by
  unfold State.bar2
  refine Moves.ite (fun hc => ?_) (fun hc => ?_)
  · exact Moves.refl _
  · split
    · refine Moves.seq ?_ (State.noWin_moves ..) (Foot.sub0 (by decide +kernel))
      exact Moves.refl _
    · split
      · refine Moves.seq ?_ (State.noWin_moves ..) (Foot.sub0 (by decide +kernel))
        exact Moves.refl _
      · refine Moves.seq ?_ (State.pscWindow_moves ..) (Foot.sub0 (by decide +kernel))
        exact Moves.refl _
      · refine Moves.seq ?_ (State.ramWindow_moves ..) (Foot.sub0 (by decide +kernel))
        exact Moves.refl _

def Foot.bcloseRx : Foot := ⟨[(0x0A1040, 0x0A1040)], [], [.twn]⟩

theorem State.bcloseRx_moves (s : State) (n : Nat) (payload : List Byte) :
    Moves (Foot.bcloseRx.at []) s (State.bcloseRx s n payload) := by
  unfold State.bcloseRx
  refine Moves.ite (fun hc => ?_) (fun hc => ?_)
  · exact Moves.refl _
  · extract_lets -merge -underBinder +onlyGivenNames x1
    subst x1
    extract_lets -merge -underBinder +onlyGivenNames x2
    refine Moves.let_ x2 ?_ ?_
    · subst x2
      refine Moves.seq ?_ (State.putB_moves _ _ _ (by decide)) (Foot.sub1 (by decide +kernel) (Foot.holds_reg (by decide +kernel)))
      refine Moves.seq ?_ (State.modTwn_moves ..) (Foot.sub0 (by decide +kernel))
      exact Moves.refl _
    intro h2
    try clear_value x2
    refine Moves.ite (fun hc => ?_) (fun hc => ?_)
    · refine Moves.seq ?_ (State.modTwn_moves ..) (Foot.sub0 (by decide +kernel))
      exact h2
    · refine Moves.seq ?_ (State.askBase_moves ..) (Foot.sub0 (by decide +kernel))
      exact h2

def Foot.beamBoundary : Foot :=
  ⟨[(0x013010, 0x013010), (0x013040, 0x013040), (0x013048, 0x013054), (0x023010, 0x023010), (0x023040,
    0x023040), (0x023048, 0x023054)], [], [.beam]⟩

theorem State.beamBoundary_moves (s : State) : Moves (Foot.beamBoundary.at []) s (State.beamBoundary s) := by
  unfold State.beamBoundary
  extract_lets -merge -underBinder +onlyGivenNames x1
  subst x1
  extract_lets -merge -underBinder +onlyGivenNames x2
  refine Moves.let_ x2 ?_ ?_
  · subst x2
    refine Moves.seq ?_ (Moves.upd_beam _ _) (Foot.sub0 (by decide +kernel))
    exact Moves.refl _
  intro h2
  try clear_value x2
  refine Moves.seq ?_ (State.beamRefreshAll_moves ..) (Foot.sub0 (by decide +kernel))
  refine Moves.foldl _ (fun x3 _ h3 => ?_) _ ?_
  · extract_lets -merge -underBinder +onlyGivenNames x4
    subst x4
    extract_lets -merge -underBinder +onlyGivenNames x5
    refine Moves.let_ x5 ?_ ?_
    · subst x5
      refine Moves.seq ?_ (State.setDir_moves ..) (Foot.sub0 (by decide +kernel))
      exact h3
    intro h5
    try clear_value x5
    extract_lets -merge -underBinder +onlyGivenNames x6
    subst x6
    refine Moves.seq ?_ (Moves.upd_beam _ _) (Foot.sub0 (by decide +kernel))
    exact h5
  · exact h2

def Foot.beamCheck : Foot := ⟨[], [], []⟩

theorem State.beamCheck_moves (s : State) (l : Line) (b : BeamFrame) :
    Moves (Foot.beamCheck.at [(77916 + 65536 * (l.idx % 2), 77916 + 65536 * (l.idx % 2))]) s ((State.beamCheck s l b)).2 := by
  unfold State.beamCheck
  refine Moves.ite_snd (fun hc => ?_) (fun hc => ?_)
  · refine Moves.seq ?_ (State.satInc_moves _ _ (by first | (dsimp only [F.BL_BEAM_ERR_HCHK_ERR]; omega) | omega)) (Foot.sub1 (by decide +kernel) (Foot.holds_same (.head _)))
    exact Moves.refl _
  · refine Moves.ite_snd (fun hc => ?_) (fun hc => ?_)
    · refine Moves.seq ?_ (State.satInc_moves _ _ (by first | (dsimp only [F.BL_BEAM_ERR_CRC_ERR]; omega) | omega)) (Foot.sub1 (by decide +kernel) (Foot.holds_same (.head _)))
      exact Moves.refl _
    · exact Moves.refl _

def Foot.transit : Foot := ⟨[], [], [.out]⟩

theorem State.transit_moves (s : State) (x : BPort) (pos : Nat) (b : BeamFrame) :
    Moves (Foot.transit.at []) s (State.transit s x pos b) := by
  unfold State.transit
  refine Moves.ite (fun hc => ?_) (fun hc => ?_)
  · refine Moves.seq ?_ (State.emit_moves ..) (Foot.sub0 (by decide +kernel))
    exact Moves.refl _
  · exact Moves.refl _

def Foot.beamRx : Foot :=
  ⟨[(0x030010, 0x030010), (0x032010, 0x032010), (0x032060, 0x03206C), (0x034010, 0x034010), (0x035058,
    0x035058), (0x036010, 0x036010), (0x036044, 0x036054), (0x040074, 0x040074), (0x050074, 0x050074), (0x100070, 0x100070)], [],
    [.mem, .out, .evq, .fab]⟩

theorem State.beamRx_moves (s : State) (p : BPort) (pos : Nat) (b : BeamFrame) :
    Moves (Foot.beamRx.at [(77916 + 65536 * (p.line.idx % 2), 77916 + 65536 * (p.line.idx % 2)),
      (77932 + 65536 * (p.line.idx % 2), 77932 + 65536 * (p.line.idx % 2)),
      (69708 + 65536 * (p.line.idx % 2) + 4096 * (p.side % 2), 69708 + 65536 * (p.line.idx % 2) + 4096 * (p.side % 2))]) s
      ((State.beamRx s p pos b)).2 := by
  unfold State.beamRx
  refine Moves.ite_snd (fun hc => ?_) (fun hc => ?_)
  · exact Moves.refl _
  · extract_lets -merge -underBinder +onlyGivenNames x1
    subst x1
    extract_lets -merge -underBinder +onlyGivenNames x2
    subst x2
    extract_lets -merge -underBinder +onlyGivenNames x3
    refine Moves.let_ x3 ?_ ?_
    · subst x3
      refine Moves.seq ?_ (State.beamCheck_moves ..) (Foot.sub1 (by decide +kernel) (Foot.holds_same (.head _)))
      refine Moves.seq ?_ (State.transit_moves ..) (Foot.sub0 (by decide +kernel))
      exact Moves.refl _
    intro h3
    try clear_value x3
    refine Moves.ite_snd (fun hc => ?_) (fun hc => ?_)
    · exact h3
    · extract_lets -merge -underBinder +onlyGivenNames x4
      refine Moves.let_ x4 ?_ ?_
      · subst x4
        refine Moves.seq ?_ (State.wrapInc_moves _ _ (by first | (dsimp only [F.BL_BEAM_DLV_CNT]; omega) | omega)) (Foot.sub1 (by decide +kernel) (Foot.holds_same (.tail _ (.head _))))
        exact h3
      intro h4
      try clear_value x4
      extract_lets -merge -underBinder +onlyGivenNames x5
      subst x5
      refine Moves.ite_snd (fun hc => ?_) (fun hc => ?_)
      · refine Moves.seq ?_ (State.satInc_moves _ _ (by first | (dsimp only [F.BL_P_ERR_HCRC_ERR]; omega) | omega)) (Foot.sub1 (by decide +kernel) (Foot.holds_same (.tail _ (.tail _ (.head _)))))
        exact h4
      · refine Moves.ite_snd (fun hc => ?_) (fun hc => ?_)
        · refine Moves.seq ?_ (State.nativeLocal_moves ..) (Foot.sub0 (by decide +kernel))
          exact h4
        · exact h4

def Foot.beamFrame : Foot :=
  ⟨[(0x003010, 0x003010), (0x003040, 0x00306C), (0x030010, 0x030010), (0x032010, 0x032010), (0x032060,
    0x03206C), (0x034010, 0x034010), (0x035058, 0x035058), (0x036010, 0x036010), (0x036044, 0x036054), (0x040074, 0x040074), (0x050074,
    0x050074), (0x090010, 0x090010), (0x090058, 0x090064), (0x091010, 0x091010), (0x09104C, 0x09105C), (0x093060, 0x093060), (0x0C0010,
    0x0C0010), (0x0C0048, 0x0C004C), (0x0C1010, 0x0C1010), (0x0C1048, 0x0C10B8), (0x0C1100, 0x0C1100), (0x0C2010, 0x0C2010), (0x0C2040,
    0x0C2044), (0x0C2100, 0x0C21FC), (0x0C3010, 0x0C3010), (0x0C3040, 0x0C307C), (0x0D1010, 0x0D1010), (0x0D1054, 0x0D1064), (0x100070,
    0x100070)], [], [.mem, .out, .evq, .fresh, .beam, .fab, .tim, .wake, .psc, .mgt]⟩

theorem State.beamFrame_moves (s : State) (p : BPort) (pos : Nat) (b : BeamFrame) (f : NFrame) :
    Moves (Foot.beamFrame.at [(77916 + 65536 * (p.line.idx % 2), 77916 + 65536 * (p.line.idx % 2)),
      (77932 + 65536 * (p.line.idx % 2), 77932 + 65536 * (p.line.idx % 2)),
      (69708 + 65536 * (p.line.idx % 2) + 4096 * (p.side % 2), 69708 + 65536 * (p.line.idx % 2) + 4096 * (p.side % 2))]) s
      (State.beamFrame s p pos b f) := by
  unfold State.beamFrame
  extract_lets -merge -underBinder +onlyGivenNames x1
  subst x1
  refine Moves.seq ?_ (State.afterFab_moves ..) (Foot.sub0 (by decide +kernel))
  refine Moves.seq ?_ (State.beamRx_moves ..) (Foot.sub_at (by decide +kernel) (Foot.own_cons (Foot.holds_same (.head _)) (Foot.own_cons (Foot.holds_same (.tail _ (.head _))) (Foot.own_cons (Foot.holds_same (.tail _ (.tail _ (.head _)))) Foot.own_nil))))
  exact Moves.refl _

def Foot.bindFlip : Foot := ⟨[], [], [.mem]⟩

theorem State.bindFlip_moves (s : State) : Moves (Foot.bindFlip.at []) s (State.bindFlip s) := by
  unfold State.bindFlip
  refine Moves.foldl _ (fun x1 _ h1 => ?_) _ ?_
  · refine Moves.seq ?_ (State.wrBytes_moves ..) (Foot.sub0 (by decide +kernel))
    exact h1
  · exact Moves.refl _

def Foot.bindShadow : Foot := ⟨[(0x100010, 0x100010)], [], [.mem, .top]⟩

theorem State.bindShadow_moves (s : State) (nodes : Nat) : Moves (Foot.bindShadow.at []) s (State.bindShadow s nodes) := by
  unfold State.bindShadow
  refine Moves.foldl _ (fun x1 _ h1 => ?_) _ ?_
  · extract_lets -merge -underBinder +onlyGivenNames x2
    subst x2
    extract_lets -merge -underBinder +onlyGivenNames x3
    refine Moves.let_ x3 ?_ ?_
    · subst x3
      refine Moves.seq ?_ (State.wrBytes_moves ..) (Foot.sub0 (by decide +kernel))
      exact h1
    intro h3
    try clear_value x3
    refine Moves.ite (fun hc => ?_) (fun hc => ?_)
    · refine Moves.seq ?_ (State.raise_moves ..) (Foot.sub1 (by decide +kernel) (Foot.holds_reg (by decide +kernel)))
      refine Moves.seq ?_ (State.flag_moves ..) (Foot.sub0 (by decide +kernel))
      exact h3
    · exact h3
  · exact Moves.refl _

def Foot.bistAbort : Foot :=
  ⟨[], [], [.mem, .out, .evq, .evqCut, .evtCut, .allRegs, .acc, .lines, .ports, .top, .beam, .fab, .tim,
    .cans, .wake, .twn, .hlt, .sgw, .psc, .recorder, .pwr, .mgt]⟩

theorem State.bistAbort_moves (s : State) : Moves (Foot.bistAbort.at []) s (State.bistAbort s) := by
  unfold State.bistAbort
  extract_lets -merge -underBinder +onlyGivenNames x1
  refine Moves.let_ x1 ?_ ?_
  · subst x1
    refine Moves.foldl _ (fun x2 _ h2 => ?_) _ ?_
    · refine Moves.seq ?_ (State.restoreIsland_moves ..) (Foot.sub_at (by decide +kernel) (Foot.own_cons (Foot.holds_all (by decide +kernel)) (Foot.own_cons (Foot.holds_all (by decide +kernel)) Foot.own_nil)))
      exact h2
    · exact Moves.refl _
  intro h1
  try clear_value x1
  extract_lets -merge -underBinder +onlyGivenNames x3
  refine Moves.let_ x3 ?_ ?_
  · subst x3
    refine Moves.seq ?_ (State.put_moves _ _ _ (by decide)) (Foot.sub1 (by decide +kernel) (Foot.holds_all (by decide +kernel)))
    refine Moves.seq ?_ (State.put_moves _ _ _ (by decide)) (Foot.sub1 (by decide +kernel) (Foot.holds_all (by decide +kernel)))
    exact h1
  intro h3
  try clear_value x3
  extract_lets -merge -underBinder +onlyGivenNames x4
  refine Moves.let_ x4 ?_ ?_
  · subst x4
    refine Moves.seq ?_ (State.modHlt_moves ..) (Foot.sub0 (by decide +kernel))
    exact h3
  intro h4
  try clear_value x4
  refine Moves.seq ?_ (State.rejoin_moves ..) (Foot.sub0 (by decide +kernel))
  refine Moves.seq ?_ (State.sessionRecord_moves ..) (Foot.sub0 (by decide +kernel))
  exact h4

def Foot.restorePolicy : Foot := ⟨[], [], [.mgt]⟩

theorem State.restorePolicy_moves (s : State) : Moves (Foot.restorePolicy.at []) s (State.restorePolicy s) := by
  unfold State.restorePolicy
  refine Moves.ite (fun hc => ?_) (fun hc => ?_)
  · exact Moves.refl _
  · extract_lets -merge -underBinder +onlyGivenNames x1
    subst x1
    extract_lets -merge -underBinder +onlyGivenNames x2
    refine Moves.let_ x2 ?_ ?_
    · subst x2
      split
      · refine Moves.seq ?_ (State.noteSection_moves ..) (Foot.sub0 (by decide +kernel))
        refine Moves.seq ?_ (State.applyGov_moves ..) (Foot.sub0 (by decide +kernel))
        exact Moves.refl _
      · exact Moves.refl _
    intro h2
    try clear_value x2
    split
    · refine Moves.seq ?_ (State.noteSection_moves ..) (Foot.sub0 (by decide +kernel))
      refine Moves.seq ?_ (State.applySleep_moves ..) (Foot.sub0 (by decide +kernel))
      exact h2
    · exact h2

def Foot.showConfig : Foot := ⟨[(0x0D2050, 0x0D2054)], [], []⟩

theorem State.showConfig_moves (s : State) : Moves (Foot.showConfig.at []) s (State.showConfig s) := by
  unfold State.showConfig
  refine Moves.ite (fun hc => ?_) (fun hc => ?_)
  · extract_lets -merge -underBinder +onlyGivenNames x1
    subst x1
    refine Moves.seq ?_ (State.wr_moves _ _ (by decide)) (Foot.sub1 (by decide +kernel) (Foot.holds_reg (by decide +kernel)))
    refine Moves.seq ?_ (State.wr_moves _ _ (by decide)) (Foot.sub1 (by decide +kernel) (Foot.holds_reg (by decide +kernel)))
    exact Moves.refl _
  · refine Moves.seq ?_ (State.wr_moves _ _ (by decide)) (Foot.sub1 (by decide +kernel) (Foot.holds_reg (by decide +kernel)))
    refine Moves.seq ?_ (State.wr_moves _ _ (by decide)) (Foot.sub1 (by decide +kernel) (Foot.holds_reg (by decide +kernel)))
    exact Moves.refl _

def Foot.showImage : Foot := ⟨[], [], []⟩

theorem State.showImage_moves (s : State) (bank : Nat) :
    Moves (Foot.showImage.at [(860228 + 8 * (bank % 2), 860228 + 8 * (bank % 2)),
      (860224 + 8 * (bank % 2), 860224 + 8 * (bank % 2))]) s (State.showImage s bank) := by
  unfold State.showImage
  extract_lets -merge -underBinder +onlyGivenNames x1
  subst x1
  refine Moves.ite (fun hc => ?_) (fun hc => ?_)
  · refine Moves.seq ?_ (State.put_moves _ _ _ (by first | (dsimp only [F.MGT_IMG_INFO_SVN]; omega) | omega)) (Foot.sub1 (by decide +kernel) (Foot.holds_same (.head _)))
    refine Moves.seq ?_ (State.put_moves _ _ _ (by first | (dsimp only [F.MGT_IMG_INFO_MARK]; omega) | omega)) (Foot.sub1 (by decide +kernel) (Foot.holds_same (.head _)))
    refine Moves.seq ?_ (State.wr_moves _ _ (by first | (dsimp only [R.MGT_IMG_GEN]; omega) | omega)) (Foot.sub1 (by decide +kernel) (Foot.holds_same (.tail _ (.head _))))
    exact Moves.refl _
  · refine Moves.seq ?_ (State.put_moves _ _ _ (by first | (dsimp only [F.MGT_IMG_INFO_SVN]; omega) | omega)) (Foot.sub1 (by decide +kernel) (Foot.holds_same (.head _)))
    refine Moves.seq ?_ (State.put_moves _ _ _ (by first | (dsimp only [F.MGT_IMG_INFO_MARK]; omega) | omega)) (Foot.sub1 (by decide +kernel) (Foot.holds_same (.head _)))
    refine Moves.seq ?_ (State.wr_moves _ _ (by first | (dsimp only [R.MGT_IMG_GEN]; omega) | omega)) (Foot.sub1 (by decide +kernel) (Foot.holds_same (.tail _ (.head _))))
    exact Moves.refl _

def Foot.boot : Foot :=
  ⟨[], [], [.mem, .out, .evq, .evqCut, .evtCut, .allRegs, .acc, .lines, .ports, .top, .beam, .fab, .tim, .cans,
    .twn, .hlt, .sgw, .psc, .recorder, .pwr, .mgt]⟩

theorem State.boot_moves (s : State) (ue : List Nat) : Moves (Foot.boot.at []) s (State.boot s ue) := by
  unfold State.boot
  refine Moves.ite (fun hc => ?_) (fun hc => ?_)
  · exact Moves.refl _
  · extract_lets -merge -underBinder +onlyGivenNames x1
    subst x1
    extract_lets -merge -underBinder +onlyGivenNames x2
    subst x2
    extract_lets -merge -underBinder +onlyGivenNames x3
    subst x3
    extract_lets -merge -underBinder +onlyGivenNames x4
    subst x4
    extract_lets -merge -underBinder +onlyGivenNames x5
    subst x5
    extract_lets -merge -underBinder +onlyGivenNames x6
    refine Moves.let_ x6 ?_ ?_
    · subst x6
      refine Moves.seq ?_ (State.putB_moves _ _ _ (by decide)) (Foot.sub1 (by decide +kernel) (Foot.holds_all (by decide +kernel)))
      exact Moves.refl _
    intro h6
    try clear_value x6
    extract_lets -merge -underBinder +onlyGivenNames x7
    subst x7
    extract_lets -merge -underBinder +onlyGivenNames x8
    refine Moves.let_ x8 ?_ ?_
    · subst x8
      refine Moves.seq ?_ (State.put_moves _ _ _ (by decide)) (Foot.sub1 (by decide +kernel) (Foot.holds_all (by decide +kernel)))
      refine Moves.seq ?_ (State.put_moves _ _ _ (by decide)) (Foot.sub1 (by decide +kernel) (Foot.holds_all (by decide +kernel)))
      exact h6
    intro h8
    try clear_value x8
    extract_lets -merge -underBinder +onlyGivenNames x9
    refine Moves.let_ x9 ?_ ?_
    · subst x9
      refine Moves.seq ?_ (State.mgtPages_moves ..) (Foot.sub0 (by decide +kernel))
      refine Moves.seq ?_ (State.modMgt_moves ..) (Foot.sub0 (by decide +kernel))
      exact h8
    intro h9
    try clear_value x9
    split
    · refine Moves.seq ?_ (State.putB_moves _ _ _ (by decide)) (Foot.sub1 (by decide +kernel) (Foot.holds_all (by decide +kernel)))
      refine Moves.seq ?_ (State.raise_moves ..) (Foot.sub1 (by decide +kernel) (Foot.holds_all (by decide +kernel)))
      refine Moves.seq ?_ (State.putB_moves _ _ _ (by decide)) (Foot.sub1 (by decide +kernel) (Foot.holds_all (by decide +kernel)))
      exact h9
    · extract_lets -merge -underBinder +onlyGivenNames x10
      refine Moves.let_ x10 ?_ ?_
      · subst x10
        refine Moves.seq ?_ (State.putB_moves _ _ _ (by decide)) (Foot.sub1 (by decide +kernel) (Foot.holds_all (by decide +kernel)))
        refine Moves.seq ?_ (State.putB_moves _ _ _ (by decide)) (Foot.sub1 (by decide +kernel) (Foot.holds_all (by decide +kernel)))
        refine Moves.seq ?_ (State.put_moves _ _ _ (by decide)) (Foot.sub1 (by decide +kernel) (Foot.holds_all (by decide +kernel)))
        exact h9
      intro h10
      try clear_value x10
      extract_lets -merge -underBinder +onlyGivenNames x11
      refine Moves.let_ x11 ?_ ?_
      · subst x11
        refine Moves.seq ?_ (State.restorePolicy_moves ..) (Foot.sub0 (by decide +kernel))
        refine Moves.seq ?_ (State.showConfig_moves ..) (Foot.sub0 (by decide +kernel))
        refine Moves.seq ?_ (State.putB_moves _ _ _ (by decide)) (Foot.sub1 (by decide +kernel) (Foot.holds_all (by decide +kernel)))
        exact h10
      intro h11
      try clear_value x11
      extract_lets -merge -underBinder +onlyGivenNames x12
      refine Moves.let_ x12 ?_ ?_
      · subst x12
        simp -zeta only [List.foldl_cons, List.foldl_nil]
        refine Moves.seq ?_ (State.put_moves _ _ _ (by decide)) (Foot.sub1 (by decide +kernel) (Foot.holds_all (by decide +kernel)))
        refine Moves.seq ?_ (State.showImage_moves ..) (Foot.sub_at (by decide +kernel) (Foot.own_cons (Foot.holds_all (by decide +kernel)) (Foot.own_cons (Foot.holds_all (by decide +kernel)) Foot.own_nil)))
        refine Moves.seq ?_ (State.put_moves _ _ _ (by decide)) (Foot.sub1 (by decide +kernel) (Foot.holds_all (by decide +kernel)))
        refine Moves.seq ?_ (State.showImage_moves ..) (Foot.sub_at (by decide +kernel) (Foot.own_cons (Foot.holds_all (by decide +kernel)) (Foot.own_cons (Foot.holds_all (by decide +kernel)) Foot.own_nil)))
        exact h11
      intro h12
      try clear_value x12
      refine Moves.ite (fun hc => ?_) (fun hc => ?_)
      · refine Moves.seq ?_ (State.moduleReset_moves ..) (Foot.sub0 (by decide +kernel))
        exact h12
      · exact h12

def Foot.dvfsUp : Foot := ⟨[(0x002104, 0x002104), (0x00210C, 0x00210C), (0x002114, 0x002114)], [], [.pwr]⟩

theorem State.dvfsUp_moves (s : State) (isl : Nat) : Moves (Foot.dvfsUp.at []) s (State.dvfsUp s isl) := by
  unfold State.dvfsUp
  split
  · refine Moves.seq ?_ (State.setDvfs_moves ..) (Foot.sub0 (by decide +kernel))
    refine Moves.seq ?_ (State.put_moves _ _ _ (by first | (dsimp only [F.SYS_PWR_DVFSSTAT_CUR_V]; omega) | omega)) (Foot.sub1 (by decide +kernel) (Foot.holds_four 8468 8460 8452 8452 (by decide +kernel) (by decide +kernel) (by decide +kernel) (by decide +kernel) (by first | (dsimp only [F.SYS_PWR_DVFSSTAT_CUR_V]; omega) | omega)))
    exact Moves.refl _
  · exact Moves.refl _

def Foot.doReverse : Foot := ⟨[(0x002010, 0x002010), (0x002104, 0x002104), (0x00210C, 0x00210C), (0x002114, 0x002114)], [], [.pwr]⟩

theorem State.doReverse_moves (s : State) (n : Nat) :
    Moves (Foot.doReverse.at [(8320 + 4 * (n % 17), 8320 + 4 * (n % 17))]) s (State.doReverse s n) := by
  unfold State.doReverse
  extract_lets -merge -underBinder +onlyGivenNames x1
  refine Moves.let_ x1 ?_ ?_
  · subst x1
    refine Moves.seq ?_ (State.raise_moves ..) (Foot.sub1 (by decide +kernel) (Foot.holds_reg (by decide +kernel)))
    refine Moves.seq ?_ (State.satInc_moves _ _ (by first | (dsimp only [F.SYS_PWR_SEQ_RESTARTS]; omega) | omega)) (Foot.sub1 (by decide +kernel) (Foot.holds_same (.head _)))
    refine Moves.seq ?_ (State.setReverse_moves ..) (Foot.sub0 (by decide +kernel))
    exact Moves.refl _
  intro h1
  try clear_value x1
  refine Moves.ite (fun hc => ?_) (fun hc => ?_)
  · refine Moves.seq ?_ (State.setSeq_moves ..) (Foot.sub1 (by decide +kernel) (Foot.holds_same (.head _)))
    exact h1
  · refine Moves.ite (fun hc => ?_) (fun hc => ?_)
    · refine Moves.seq ?_ (State.dvfsUp_moves ..) (Foot.sub0 (by decide +kernel))
      refine Moves.seq ?_ (State.setSeq_moves ..) (Foot.sub1 (by decide +kernel) (Foot.holds_same (.head _)))
      exact h1
    · refine Moves.seq ?_ (State.modPwr_moves ..) (Foot.sub0 (by decide +kernel))
      refine Moves.seq ?_ (State.setSeq_moves ..) (Foot.sub1 (by decide +kernel) (Foot.holds_same (.head _)))
      exact h1

def Foot.boundary : Foot := ⟨[(0x002010, 0x002010), (0x002104, 0x002104), (0x00210C, 0x00210C), (0x002114, 0x002114)], [], [.pwr]⟩

theorem State.boundary_moves {F : Foot} {r s : State} {n : Nat} {f : State → State}
    (h :
    Moves F r s) (hF : Foot.Sub (Foot.boundary.at [(8320 + 4 * (n % 17), 8320 + 4 * (n % 17))]) F) (f_ok : ∀ x , Moves F r x → Moves F
      r (f x)) : Moves F r (State.boundary s n f) := by
  unfold State.boundary
  refine Moves.ite (fun hc => ?_) (fun hc => ?_)
  · refine Moves.seq ?_ (State.doReverse_moves ..) ((Foot.sub1 (by decide +kernel) (Foot.holds_same (.head _))).trans hF)
    exact h
  · refine f_ok _  ?_
    exact h

def Foot.boundaryCapture : Foot := ⟨[], [], [.tim]⟩

theorem State.boundaryCapture_moves (s : State) : Moves (Foot.boundaryCapture.at []) s (State.boundaryCapture s) := by
  unfold State.boundaryCapture
  refine Moves.seq ?_ (Moves.upd_tim _ _) (Foot.sub0 (by decide +kernel))
  exact Moves.refl _

def Foot.timeOutside : Foot := ⟨[], [], [.out]⟩

theorem State.timeOutside_moves (s : State) (l : Line) : Moves (Foot.timeOutside.at []) s (State.timeOutside s l) := by
  unfold State.timeOutside
  refine Moves.seq ?_ (State.sendAll_moves ..) (Foot.sub0 (by decide +kernel))
  exact Moves.refl _

def Foot.timeFrameSend : Foot := ⟨[], [], [.out, .beam, .fab]⟩

theorem State.timeFrameSend_moves (s : State) : Moves (Foot.timeFrameSend.at []) s (State.timeFrameSend s) := by
  unfold State.timeFrameSend
  refine Moves.ite (fun hc => ?_) (fun hc => ?_)
  · exact Moves.refl _
  · extract_lets -merge -underBinder +onlyGivenNames x1
    subst x1
    extract_lets -merge -underBinder +onlyGivenNames x2
    refine Moves.let_ x2 ?_ ?_
    · subst x2
      split
      · refine Moves.seq ?_ (State.timeOutside_moves ..) (Foot.sub0 (by decide +kernel))
        refine Moves.seq ?_ (State.timeOutside_moves ..) (Foot.sub0 (by decide +kernel))
        exact Moves.refl _
      · extract_lets -merge -underBinder +onlyGivenNames x3
        subst x3
        simp -zeta only [List.foldl_cons, List.foldl_nil]
        refine Moves.ite (fun hc => ?_) (fun hc => ?_)
        · refine Moves.foldl _ (fun x4 _ h4 => ?_) _ ?_
          · refine Moves.seq ?_ (State.toCtl_moves ..) (Foot.sub0 (by decide +kernel))
            exact h4
          · refine Moves.ite (fun hc => ?_) (fun hc => ?_)
            · refine Moves.foldl _ (fun x5 _ h5 => ?_) _ ?_
              · refine Moves.seq ?_ (State.toCtl_moves ..) (Foot.sub0 (by decide +kernel))
                exact h5
              · exact Moves.refl _
            · refine Moves.seq ?_ (State.timeOutside_moves ..) (Foot.sub0 (by decide +kernel))
              exact Moves.refl _
        · refine Moves.seq ?_ (State.timeOutside_moves ..) (Foot.sub0 (by decide +kernel))
          refine Moves.ite (fun hc => ?_) (fun hc => ?_)
          · refine Moves.foldl _ (fun x6 _ h6 => ?_) _ ?_
            · refine Moves.seq ?_ (State.toCtl_moves ..) (Foot.sub0 (by decide +kernel))
              exact h6
            · exact Moves.refl _
          · refine Moves.seq ?_ (State.timeOutside_moves ..) (Foot.sub0 (by decide +kernel))
            exact Moves.refl _
    intro h2
    try clear_value x2
    refine Moves.seq ?_ (State.seqUsed_moves ..) (Foot.sub0 (by decide +kernel))
    exact h2

def Foot.sendCtl : Foot := ⟨[], [], [.out, .beam]⟩

theorem State.sendCtl_moves (s : State) (x : BPort) (f : NFrame) : Moves (Foot.sendCtl.at []) s (State.sendCtl s x f) := by
  unfold State.sendCtl
  refine Moves.ite (fun hc => ?_) (fun hc => ?_)
  · refine Moves.seq ?_ (State.toCtl_moves ..) (Foot.sub0 (by decide +kernel))
    exact Moves.refl _
  · refine Moves.seq ?_ (State.send_moves ..) (Foot.sub0 (by decide +kernel))
    exact Moves.refl _

def Foot.sendLantern : Foot := ⟨[], [], [.out, .beam, .fab]⟩

theorem State.sendLantern_moves (s : State) (l : Line) : Moves (Foot.sendLantern.at []) s (State.sendLantern s l) := by
  unfold State.sendLantern
  refine Moves.ite (fun hc => ?_) (fun hc => ?_)
  · exact Moves.refl _
  · extract_lets -merge -underBinder +onlyGivenNames x1
    subst x1
    extract_lets -merge -underBinder +onlyGivenNames x2
    refine Moves.let_ x2 ?_ ?_
    · subst x2
      refine Moves.seq ?_ (State.seqUsed_moves ..) (Foot.sub0 (by decide +kernel))
      exact Moves.refl _
    intro h2
    try clear_value x2
    extract_lets -merge -underBinder +onlyGivenNames x3
    subst x3
    refine Moves.ite (fun hc => ?_) (fun hc => ?_)
    · refine Moves.foldl _ (fun x4 _ h4 => ?_) _ ?_
      · refine Moves.seq ?_ (State.sendCtl_moves ..) (Foot.sub0 (by decide +kernel))
        exact h4
      · exact h2
    · refine Moves.seq ?_ (State.sendAll_moves ..) (Foot.sub0 (by decide +kernel))
      exact h2

def Foot.wakeBoundary : Foot :=
  ⟨[(0x003040, 0x003040), (0x003050, 0x003050), (0x003064, 0x003064), (0x011010, 0x011010), (0x011040,
    0x011048), (0x012010, 0x012010), (0x012040, 0x012048), (0x013058, 0x013058), (0x021010, 0x021010), (0x021040, 0x021048), (0x022010,
    0x022010), (0x022040, 0x022048), (0x023058, 0x023058), (0x100010, 0x100010), (0x100044, 0x100044), (0x100064, 0x10006C)], [],
    [.mem, .out, .evq, .lines, .ports, .top, .beam, .fab, .wake]⟩

theorem State.wakeBoundary_moves (s : State) : Moves (Foot.wakeBoundary.at []) s (State.wakeBoundary s) := by
  unfold State.wakeBoundary
  refine Moves.ite (fun hc => ?_) (fun hc => ?_)
  · exact Moves.refl _
  · extract_lets -merge -underBinder +onlyGivenNames x1
    subst x1
    extract_lets -merge -underBinder +onlyGivenNames x2
    refine Moves.let_ x2 ?_ ?_
    · subst x2
      split
      · refine Moves.ite (fun hc => ?_) (fun hc => ?_)
        · refine Moves.seq ?_ (State.sendDusk_moves ..) (Foot.sub0 (by decide +kernel))
          exact Moves.refl _
        · exact Moves.refl _
      · exact Moves.refl _
    intro h2
    skip
    extract_lets -merge -underBinder +onlyGivenNames x3
    refine Moves.let_ x3 ?_ ?_
    · subst x3
      refine Moves.ite (fun hc => ?_) (fun hc => ?_)
      · refine Moves.seq ?_ (State.sendVeto_moves ..) (Foot.sub0 (by decide +kernel))
        exact h2
      · exact h2
    intro h3
    skip
    extract_lets -merge -underBinder +onlyGivenNames x4
    refine Moves.let_ x4 ?_ ?_
    · subst x4
      refine Moves.ite (fun hc => ?_) (fun hc => ?_)
      · refine Moves.seq ?_ (State.endDusk_moves ..) (Foot.sub0 (by decide +kernel))
        refine Moves.seq ?_ (State.autoIso_moves ..) (Foot.sub0 (by decide +kernel))
        exact h3
      · exact h3
    intro h4
    skip
    extract_lets -merge -underBinder +onlyGivenNames x5
    refine Moves.let_ x5 ?_ ?_
    · subst x5
      split
      · refine Moves.ite (fun hc => ?_) (fun hc => ?_)
        · refine Moves.seq ?_ (State.sendCancel_moves ..) (Foot.sub0 (by decide +kernel))
          exact h4
        · refine Moves.seq ?_ (State.modWake_moves ..) (Foot.sub0 (by decide +kernel))
          exact h4
      · exact h4
    intro h5
    skip
    split
    · refine Moves.ite (fun hc => ?_) (fun hc => ?_)
      · refine Moves.seq ?_ (State.modWake_moves ..) (Foot.sub0 (by decide +kernel))
        exact h5
      · refine Moves.seq ?_ (State.sendDawn_moves ..) (Foot.sub0 (by decide +kernel))
        refine Moves.seq ?_ (State.modWake_moves ..) (Foot.sub0 (by decide +kernel))
        exact h5
    · exact h5

def Foot.settleLate : Foot := ⟨[(0x003010, 0x003010), (0x00306C, 0x00306C)], [], [.wake]⟩

theorem State.settleLate_moves (s : State) (canWake : Nat) : Moves (Foot.settleLate.at []) s (State.settleLate s canWake) := by
  unfold State.settleLate
  extract_lets -merge -underBinder +onlyGivenNames x1
  refine Moves.let_ x1 ?_ ?_
  · subst x1
    split
    · refine Moves.seq ?_ (State.latchLate_moves ..) (Foot.sub0 (by decide +kernel))
      exact Moves.refl _
    · exact Moves.refl _
  intro h1
  try clear_value x1
  extract_lets -merge -underBinder +onlyGivenNames x2
  subst x2
  extract_lets -merge -underBinder +onlyGivenNames x3
  refine Moves.let_ x3 ?_ ?_
  · subst x3
    refine Moves.ite (fun hc => ?_) (fun hc => ?_)
    · refine Moves.seq ?_ (State.latchLate_moves ..) (Foot.sub0 (by decide +kernel))
      exact h1
    · exact h1
  intro h3
  try clear_value x3
  extract_lets -merge -underBinder +onlyGivenNames x4
  subst x4
  extract_lets -merge -underBinder +onlyGivenNames x5
  refine Moves.let_ x5 ?_ ?_
  · subst x5
    refine Moves.ite (fun hc => ?_) (fun hc => ?_)
    · refine Moves.seq ?_ (State.latchLate_moves ..) (Foot.sub0 (by decide +kernel))
      exact h3
    · exact h3
  intro h5
  try clear_value x5
  extract_lets -merge -underBinder +onlyGivenNames x6
  subst x6
  refine Moves.seq ?_ (State.modWake_moves ..) (Foot.sub0 (by decide +kernel))
  exact h5

def Foot.linkChg : Foot := ⟨[(0x0B0010, 0x0B0010), (0x0B0044, 0x0B0044)], [], [.evq]⟩

theorem State.linkChg_moves (s : State) : Moves (Foot.linkChg.at []) s (State.linkChg s) := by
  unfold State.linkChg
  refine Moves.seq ?_ (State.post_moves ..) (Foot.sub0 (by decide +kernel))
  refine Moves.seq ?_ (State.raise_moves ..) (Foot.sub1 (by decide +kernel) (Foot.holds_reg (by decide +kernel)))
  refine Moves.seq ?_ (State.satInc_moves _ _ (by decide)) (Foot.sub1 (by decide +kernel) (Foot.holds_reg (by decide +kernel)))
  exact Moves.refl _

def Foot.endpointReset : Foot := ⟨[(0x0B0000, 0x0BFFFF), (0x0C1048, 0x0C10B8), (0x0C1100, 0x0C1100)], [], [.evq, .evtCut, .acc, .psc]⟩

theorem State.endpointReset_moves (s : State) (kind : EndpointReset) :
    Moves (Foot.endpointReset.at []) s (State.endpointReset s kind) := by
  unfold State.endpointReset
  refine Moves.ite (fun hc => ?_) (fun hc => ?_)
  · exact Moves.refl _
  · extract_lets -merge -underBinder +onlyGivenNames x1
    subst x1
    extract_lets -merge -underBinder +onlyGivenNames x2
    refine Moves.let_ x2 ?_ ?_
    · subst x2
      refine Moves.seq ?_ (State.dropReads_moves ..) (Foot.sub0 (by decide +kernel))
      refine Moves.seq ?_ (State.hbrReset_moves ..) (Foot.sub0 (by decide +kernel))
      exact Moves.refl _
    intro h2
    try clear_value x2
    split
    · refine Moves.seq ?_ (State.raise_moves ..) (Foot.sub1 (by decide +kernel) (Foot.holds_reg (by decide +kernel)))
      refine Moves.seq ?_ (State.wr_moves _ _ (by decide)) (Foot.sub1 (by decide +kernel) (Foot.holds_reg (by decide +kernel)))
      exact h2
    · refine Moves.ite (fun hc => ?_) (fun hc => ?_)
      · refine Moves.seq ?_ (State.linkChg_moves ..) (Foot.sub0 (by decide +kernel))
        exact h2
      · exact h2

def Foot.nightfallStart : Foot :=
  ⟨[(0x002080, 0x0020C0), (0x003010, 0x003010), (0x003068, 0x00306C), (0x005040, 0x005040),
    (0x010010, 0x010010), (0x010048, 0x010048), (0x011010, 0x011010), (0x011040, 0x011048), (0x012010, 0x012010), (0x012040, 0x012048),
    (0x013010, 0x013010), (0x013040, 0x013040), (0x013048, 0x013058), (0x020010, 0x020010), (0x020048, 0x020048), (0x021010, 0x021010),
    (0x021040, 0x021048), (0x022010, 0x022010), (0x022040, 0x022048), (0x023010, 0x023010), (0x023040, 0x023040), (0x023048, 0x023058),
    (0x0B0000, 0x0BFFFF), (0x0C1048, 0x0C10B8), (0x0C1100, 0x0C1100), (0x100010, 0x100010), (0x100064, 0x100064)], [], [.evq, .evtCut,
    .acc, .lines, .ports, .beam, .wake, .psc, .pwr]⟩

theorem State.nightfallStart_moves (s : State) (canWake : Nat) :
    Moves (Foot.nightfallStart.at []) s (State.nightfallStart s canWake) := by
  unfold State.nightfallStart
  extract_lets -merge -underBinder +onlyGivenNames x1
  refine Moves.let_ x1 ?_ ?_
  · subst x1
    refine Moves.seq ?_ (State.settleLate_moves ..) (Foot.sub0 (by decide +kernel))
    exact Moves.refl _
  intro h1
  try clear_value x1
  refine Moves.ite (fun hc => ?_) (fun hc => ?_)
  · extract_lets -merge -underBinder +onlyGivenNames x2
    refine Moves.let_ x2 ?_ ?_
    · subst x2
      refine Moves.seq ?_ (State.raise_moves ..) (Foot.sub1 (by decide +kernel) (Foot.holds_reg (by decide +kernel)))
      refine Moves.seq ?_ (State.wr_moves _ _ (by decide)) (Foot.sub1 (by decide +kernel) (Foot.holds_reg (by decide +kernel)))
      exact h1
    intro h2
    try clear_value x2
    extract_lets -merge -underBinder +onlyGivenNames x3
    refine Moves.let_ x3 ?_ ?_
    · subst x3
      refine Moves.seq ?_ (State.modWake_moves ..) (Foot.sub0 (by decide +kernel))
      exact h2
    intro h3
    try clear_value x3
    refine Moves.seq ?_ (State.modPwr_moves ..) (Foot.sub0 (by decide +kernel))
    exact h3
  · extract_lets -merge -underBinder +onlyGivenNames x4
    refine Moves.let_ x4 ?_ ?_
    · subst x4
      refine Moves.ite (fun hc => ?_) (fun hc => ?_)
      · refine Moves.seq ?_ (State.endpointReset_moves ..) (Foot.sub0 (by decide +kernel))
        exact h1
      · exact h1
    intro h4
    try clear_value x4
    extract_lets -merge -underBinder +onlyGivenNames x5
    refine Moves.let_ x5 ?_ ?_
    · subst x5
      refine Moves.seq ?_ (State.startClose_moves ..) (Foot.sub_at (by decide +kernel) (Foot.own_cons (Foot.holds_reg (by decide +kernel)) (Foot.own_cons (Foot.holds_reg (by decide +kernel)) (Foot.own_cons (Foot.holds_reg (by decide +kernel)) (Foot.own_cons (Foot.holds_reg (by decide +kernel)) (Foot.own_cons (Foot.holds_reg (by decide +kernel)) (Foot.own_cons (Foot.holds_reg (by decide +kernel)) (Foot.own_cons (Foot.holds_reg (by decide +kernel)) (Foot.own_cons (Foot.holds_reg (by decide +kernel)) (Foot.own_cons (Foot.holds_reg (by decide +kernel)) (Foot.own_cons (Foot.holds_reg (by decide +kernel)) (Foot.own_cons (Foot.holds_reg (by decide +kernel)) (Foot.own_cons (Foot.holds_reg (by decide +kernel)) Foot.own_nil)))))))))))))
      refine Moves.seq ?_ (State.startClose_moves ..) (Foot.sub_at (by decide +kernel) (Foot.own_cons (Foot.holds_reg (by decide +kernel)) (Foot.own_cons (Foot.holds_reg (by decide +kernel)) (Foot.own_cons (Foot.holds_reg (by decide +kernel)) (Foot.own_cons (Foot.holds_reg (by decide +kernel)) (Foot.own_cons (Foot.holds_reg (by decide +kernel)) (Foot.own_cons (Foot.holds_reg (by decide +kernel)) (Foot.own_cons (Foot.holds_reg (by decide +kernel)) (Foot.own_cons (Foot.holds_reg (by decide +kernel)) (Foot.own_cons (Foot.holds_reg (by decide +kernel)) (Foot.own_cons (Foot.holds_reg (by decide +kernel)) (Foot.own_cons (Foot.holds_reg (by decide +kernel)) (Foot.own_cons (Foot.holds_reg (by decide +kernel)) Foot.own_nil)))))))))))))
      exact h4
    intro h5
    try clear_value x5
    extract_lets -merge -underBinder +onlyGivenNames x6
    refine Moves.let_ x6 ?_ ?_
    · subst x6
      refine Moves.seq ?_ (State.modWake_moves ..) (Foot.sub0 (by decide +kernel))
      exact h5
    intro h6
    try clear_value x6
    extract_lets -merge -underBinder +onlyGivenNames x7
    subst x7
    extract_lets -merge -underBinder +onlyGivenNames x8
    refine Moves.let_ x8 ?_ ?_
    · subst x8
      refine Moves.foldl _ (fun x9 _ h9 => ?_) _ ?_
      · refine Moves.seq ?_ (State.setSeq_moves ..) (Foot.sub1 (by decide +kernel) (Foot.holds_range 8320 8384 (by decide +kernel) (by first | omega | (dsimp only; omega)) (by first | omega | (dsimp only; omega))))
        exact h9
      · exact h6
    intro h8
    try clear_value x8
    refine Moves.seq ?_ (State.modPwr_moves ..) (Foot.sub0 (by decide +kernel))
    exact h8

def Foot.boundarySends : Foot :=
  ⟨[(0x002080, 0x0020C0), (0x003010, 0x003010), (0x003040, 0x003040), (0x003050, 0x003050), (0x003064,
    0x00306C), (0x005040, 0x005040), (0x010010, 0x010010), (0x010048, 0x010048), (0x011010, 0x011010), (0x011040, 0x011048), (0x012010,
    0x012010), (0x012040, 0x012048), (0x013010, 0x013010), (0x013040, 0x013040), (0x013048, 0x013058), (0x020010, 0x020010), (0x020048,
    0x020048), (0x021010, 0x021010), (0x021040, 0x021048), (0x022010, 0x022010), (0x022040, 0x022048), (0x023010, 0x023010), (0x023040,
    0x023040), (0x023048, 0x023058), (0x0B0000, 0x0BFFFF), (0x0C1048, 0x0C10B8), (0x0C1100, 0x0C1100), (0x100010, 0x100010), (0x100044,
    0x100044), (0x100064, 0x10006C)], [], [.mem, .out, .evq, .evtCut, .acc, .lines, .ports, .top, .beam, .fab, .wake, .psc, .pwr]⟩

theorem State.boundarySends_moves (s : State) (canWake : Nat) :
    Moves (Foot.boundarySends.at []) s (State.boundarySends s canWake) := by
  unfold State.boundarySends
  extract_lets -merge -underBinder +onlyGivenNames x1
  refine Moves.let_ x1 ?_ ?_
  · subst x1
    refine Moves.seq ?_ (State.timeFrameSend_moves ..) (Foot.sub0 (by decide +kernel))
    exact Moves.refl _
  intro h1
  try clear_value x1
  extract_lets -merge -underBinder +onlyGivenNames x2
  refine Moves.let_ x2 ?_ ?_
  · subst x2
    refine Moves.seq ?_ (State.sendLantern_moves ..) (Foot.sub0 (by decide +kernel))
    refine Moves.seq ?_ (State.sendLantern_moves ..) (Foot.sub0 (by decide +kernel))
    exact h1
  intro h2
  try clear_value x2
  extract_lets -merge -underBinder +onlyGivenNames x3
  refine Moves.let_ x3 ?_ ?_
  · subst x3
    refine Moves.seq ?_ (State.wakeBoundary_moves ..) (Foot.sub0 (by decide +kernel))
    exact h2
  intro h3
  try clear_value x3
  refine Moves.ite (fun hc => ?_) (fun hc => ?_)
  · refine Moves.seq ?_ (State.nightfallStart_moves ..) (Foot.sub0 (by decide +kernel))
    exact h3
  · exact h3

def Foot.setEtbGrace : Foot := ⟨[], [], [.top]⟩

theorem State.setEtbGrace_moves (s : State) (g : Option (Nat × Nat)) : Moves (Foot.setEtbGrace.at []) s (State.setEtbGrace s g) := by
  unfold State.setEtbGrace
  refine Moves.seq ?_ (Moves.upd_top _ _) (Foot.sub0 (by decide +kernel))
  exact Moves.refl _

def Foot.graceKeys : Foot := ⟨[], [], [.fab]⟩

theorem State.graceKeys_moves (s : State) : Moves (Foot.graceKeys.at []) s (State.graceKeys s) := by
  unfold State.graceKeys
  refine Moves.seq ?_ (State.mapWays_moves ..) (Foot.sub0 (by decide +kernel))
  exact Moves.refl _

def Foot.graceOver : Foot := ⟨[(0x100044, 0x100044)], [], [.mem, .top, .fab]⟩

theorem State.graceOver_moves (s : State) : Moves (Foot.graceOver.at []) s (State.graceOver s) := by
  unfold State.graceOver
  extract_lets -merge -underBinder +onlyGivenNames x1
  refine Moves.let_ x1 ?_ ?_
  · subst x1
    refine Moves.seq ?_ (State.clearMem_moves ..) (Foot.sub0 (by decide +kernel))
    refine Moves.seq ?_ (State.put_moves _ _ _ (by decide)) (Foot.sub1 (by decide +kernel) (Foot.holds_reg (by decide +kernel)))
    exact Moves.refl _
  intro h1
  try clear_value x1
  extract_lets -merge -underBinder +onlyGivenNames x2
  refine Moves.let_ x2 ?_ ?_
  · subst x2
    refine Moves.seq ?_ (State.setEtbGrace_moves ..) (Foot.sub0 (by decide +kernel))
    exact h1
  intro h2
  try clear_value x2
  refine Moves.ite (fun hc => ?_) (fun hc => ?_)
  · refine Moves.seq ?_ (State.graceKeys_moves ..) (Foot.sub0 (by decide +kernel))
    exact h2
  · exact h2

def Foot.showEtbGrace : Foot := ⟨[(0x100044, 0x100044)], [], []⟩

theorem State.showEtbGrace_moves (s : State) : Moves (Foot.showEtbGrace.at []) s (State.showEtbGrace s) := by
  unfold State.showEtbGrace
  split
  · exact Moves.refl _
  · refine Moves.seq ?_ (State.put_moves _ _ _ (by decide)) (Foot.sub1 (by decide +kernel) (Foot.holds_reg (by decide +kernel)))
    exact Moves.refl _

def Foot.etbBoundary : Foot := ⟨[(0x100044, 0x100044)], [], [.mem, .top, .fab]⟩

theorem State.etbBoundary_moves (s : State) (t0 : Nat) (n : Nat) : Moves (Foot.etbBoundary.at []) s (State.etbBoundary s t0 n) := by
  unfold State.etbBoundary
  extract_lets -merge -underBinder +onlyGivenNames x1
  refine Moves.let_ x1 ?_ ?_
  · subst x1
    refine Moves.seq ?_ (State.setEtbGrace_moves ..) (Foot.sub0 (by decide +kernel))
    exact Moves.refl _
  intro h1
  try clear_value x1
  refine Moves.ite (fun hc => ?_) (fun hc => ?_)
  · refine Moves.seq ?_ (State.graceOver_moves ..) (Foot.sub0 (by decide +kernel))
    exact h1
  · refine Moves.seq ?_ (State.showEtbGrace_moves ..) (Foot.sub0 (by decide +kernel))
    exact h1

def Foot.graceBoundary : Foot := ⟨[(0x100044, 0x100044)], [], [.mem, .top, .fab]⟩

theorem State.graceBoundary_moves (s : State) : Moves (Foot.graceBoundary.at []) s (State.graceBoundary s) := by
  unfold State.graceBoundary
  extract_lets -merge -underBinder +onlyGivenNames x1
  subst x1
  split
  · refine Moves.seq ?_ (State.etbBoundary_moves ..) (Foot.sub0 (by decide +kernel))
    exact Moves.refl _
  · refine Moves.ite (fun hc => ?_) (fun hc => ?_)
    · exact Moves.refl _
    · refine Moves.ite (fun hc => ?_) (fun hc => ?_)
      · refine Moves.seq ?_ (State.graceOver_moves ..) (Foot.sub0 (by decide +kernel))
        exact Moves.refl _
      · refine Moves.seq ?_ (State.put_moves _ _ _ (by decide)) (Foot.sub1 (by decide +kernel) (Foot.holds_reg (by decide +kernel)))
        exact Moves.refl _

def Foot.watchBoundary : Foot := ⟨[], [], [.top]⟩

theorem State.watchBoundary_moves (s : State) : Moves (Foot.watchBoundary.at []) s (State.watchBoundary s) := by
  unfold State.watchBoundary
  refine Moves.seq ?_ (Moves.upd_top _ _) (Foot.sub0 (by decide +kernel))
  exact Moves.refl _

def Foot.nextCycle : Foot := ⟨[(0x10306C, 0x10306C)], [], []⟩

theorem State.nextCycle_moves (s : State) : Moves (Foot.nextCycle.at []) s (State.nextCycle s) := by
  unfold State.nextCycle
  refine Moves.seq ?_ (State.wr_moves _ _ (by decide)) (Foot.sub1 (by decide +kernel) (Foot.holds_reg (by decide +kernel)))
  exact Moves.refl _

def Foot.duskFlip : Foot :=
  ⟨[(0x003010, 0x003010), (0x003040, 0x003040), (0x003050, 0x003050), (0x00306C, 0x00306C)], [], [.out,
    .beam, .fab, .wake]⟩

theorem State.duskFlip_moves (s : State) : Moves (Foot.duskFlip.at []) s (State.duskFlip s) := by
  unfold State.duskFlip
  refine Moves.ite (fun hc => ?_) (fun hc => ?_)
  · refine Moves.seq ?_ (State.cancelDusk_moves ..) (Foot.sub0 (by decide +kernel))
    exact Moves.refl _
  · refine Moves.ite (fun hc => ?_) (fun hc => ?_)
    · refine Moves.seq ?_ (State.gotCancel_moves ..) (Foot.sub0 (by decide +kernel))
      exact Moves.refl _
    · exact Moves.refl _

def Foot.copyTable : Foot := ⟨[], [], [.mem]⟩

theorem State.copyTable_moves (s : State) (src : Nat) (dst : Nat) : Moves (Foot.copyTable.at []) s (State.copyTable s src dst) := by
  unfold State.copyTable
  extract_lets -merge -underBinder +onlyGivenNames x1
  subst x1
  extract_lets -merge -underBinder +onlyGivenNames x2
  subst x2
  refine Moves.seq ?_ (State.wrBytes_moves ..) (Foot.sub0 (by decide +kernel))
  refine Moves.seq ?_ (State.clearMem_moves ..) (Foot.sub0 (by decide +kernel))
  exact Moves.refl _

def Foot.takeNumbering : Foot := ⟨[(0x100048, 0x100054)], [], []⟩

theorem State.takeNumbering_moves (s : State) (n : Numbering) (node : Nat) :
    Moves (Foot.takeNumbering.at []) s (State.takeNumbering s n node) := by
  unfold State.takeNumbering
  extract_lets -merge -underBinder +onlyGivenNames x1
  refine Moves.let_ x1 ?_ ?_
  · subst x1
    refine Moves.seq ?_ (State.wr_moves _ _ (by decide)) (Foot.sub1 (by decide +kernel) (Foot.holds_reg (by decide +kernel)))
    exact Moves.refl _
  intro h1
  try clear_value x1
  extract_lets -merge -underBinder +onlyGivenNames x2
  refine Moves.let_ x2 ?_ ?_
  · subst x2
    refine Moves.seq ?_ (State.wr_moves _ _ (by decide)) (Foot.sub1 (by decide +kernel) (Foot.holds_reg (by decide +kernel)))
    exact h1
  intro h2
  try clear_value x2
  refine Moves.seq ?_ (State.wr_moves _ _ (by decide)) (Foot.sub1 (by decide +kernel) (Foot.holds_reg (by decide +kernel)))
  refine Moves.seq ?_ (State.wr_moves _ _ (by decide)) (Foot.sub1 (by decide +kernel) (Foot.holds_reg (by decide +kernel)))
  exact h2

def Foot.flipContexts : Foot := ⟨[], [], [.mem, .fab]⟩

theorem State.flipContexts_moves (s : State) : Moves (Foot.flipContexts.at []) s (State.flipContexts s) := by
  unfold State.flipContexts
  extract_lets -merge -underBinder +onlyGivenNames x1
  refine Moves.let_ x1 ?_ ?_
  · subst x1
    refine Moves.seq ?_ (State.mapWays_moves ..) (Foot.sub0 (by decide +kernel))
    exact Moves.refl _
  intro h1
  try clear_value x1
  refine Moves.foldl _ (fun x2 _ h2 => ?_) _ ?_
  · extract_lets -merge -underBinder +onlyGivenNames x3
    refine Moves.let_ x3 ?_ ?_
    · subst x3
      refine Moves.seq ?_ (State.wrBytes_moves ..) (Foot.sub0 (by decide +kernel))
      exact h2
    intro h3
    try clear_value x3
    refine Moves.seq ?_ (State.setStat_moves ..) (Foot.sub0 (by decide +kernel))
    refine Moves.seq ?_ (State.wrNum_moves ..) (Foot.sub0 (by decide +kernel))
    exact h3
  · exact h1

end Sys2Proof.Machine
end

