-- ==== Sys2Proof/Laws/Foot09.lean ====
section
/-!
SUPPORT. What the operations may touch: one footprint and one lemma each.
-/

namespace Sys2Proof.Machine

set_option Elab.async false

def Foot.lineNumbered : Foot := ⟨[], [], [.evq]⟩

theorem State.lineNumbered_moves (s : State) (l : Line) (numbered : Bool) :
    Moves (Foot.lineNumbered.at [(4096 * ((65536 + 65536 * (l.idx % 2)) / 4096) + 16, 4096 * ((65536 + 65536 * (l.idx % 2)) / 4096) +
      16), (65608 + 65536 * (l.idx % 2), 65608 + 65536 * (l.idx % 2))]) s (State.lineNumbered s l numbered) := by
  unfold State.lineNumbered
  extract_lets -merge -underBinder +onlyGivenNames x1
  subst x1
  refine Moves.ite (fun hc => ?_) (fun hc => ?_)
  · exact Moves.refl _
  · extract_lets -merge -underBinder +onlyGivenNames x2
    refine Moves.let_ x2 ?_ ?_
    · subst x2
      refine Moves.seq ?_ (State.raise_moves ..) (Foot.sub1 (by decide +kernel) (Foot.holds_same (.head _)))
      refine Moves.seq ?_ (State.put_moves _ _ _ (by first | (dsimp only [F.BL_LINE_STAT_STATE]; omega) | omega)) (Foot.sub1 (by decide +kernel) (Foot.holds_same (.tail _ (.head _))))
      exact Moves.refl _
    intro h2
    try clear_value x2
    refine Moves.seq ?_ (State.post_moves ..) (Foot.sub0 (by decide +kernel))
    exact h2

def Foot.judgeDigest : Foot := ⟨[], [], [.evq]⟩

theorem State.judgeDigest_moves (s : State) (x : BPort) (was : Bool) :
    Moves (Foot.judgeDigest.at [(4096 * ((77824 + 65536 * (x.line.idx % 2)) / 4096) + 16, 4096 * ((77824 + 65536 * (x.line.idx % 2)) /
      4096) + 16)]) s (State.judgeDigest s x was) := by
  unfold State.judgeDigest
  refine Moves.ite (fun hc => ?_) (fun hc => ?_)
  · refine Moves.seq ?_ (State.post_moves ..) (Foot.sub0 (by decide +kernel))
    refine Moves.seq ?_ (State.raise_moves ..) (Foot.sub1 (by decide +kernel) (Foot.holds_same (.head _)))
    exact Moves.refl _
  · exact Moves.refl _

def Foot.slotActivate : Foot :=
  ⟨[(0x013010, 0x013010), (0x013040, 0x013040), (0x013048, 0x013054), (0x023010, 0x023010), (0x023040,
    0x023040), (0x023048, 0x023054), (0x103010, 0x103010), (0x103048, 0x103048), (0x103050, 0x10305C), (0x103074, 0x103074)], [],
    [.evq, .beam]⟩

theorem State.slotActivate_moves (s : State) (a : Option Alloc) : Moves (Foot.slotActivate.at []) s (State.slotActivate s a) := by
  unfold State.slotActivate
  extract_lets -merge -underBinder +onlyGivenNames x1
  subst x1
  try dsimp -zeta only
  extract_lets -merge -underBinder +onlyGivenNames x2
  refine Moves.let_ x2 ?_ ?_
  · subst x2
    refine Moves.seq ?_ (State.wr_moves _ _ (by decide)) (Foot.sub1 (by decide +kernel) (Foot.holds_reg (by decide +kernel)))
    refine Moves.seq ?_ (State.wr_moves _ _ (by decide)) (Foot.sub1 (by decide +kernel) (Foot.holds_reg (by decide +kernel)))
    exact Moves.refl _
  intro h2
  try clear_value x2
  extract_lets -merge -underBinder +onlyGivenNames x3
  subst x3
  extract_lets -merge -underBinder +onlyGivenNames x4
  refine Moves.let_ x4 ?_ ?_
  · subst x4
    refine Moves.seq ?_ (State.raise_moves ..) (Foot.sub1 (by decide +kernel) (Foot.holds_reg (by decide +kernel)))
    refine Moves.seq ?_ (State.wr_moves _ _ (by decide)) (Foot.sub1 (by decide +kernel) (Foot.holds_reg (by decide +kernel)))
    refine Moves.seq ?_ (Moves.upd_beam _ _) (Foot.sub0 (by decide +kernel))
    exact h2
  intro h4
  try clear_value x4
  extract_lets -merge -underBinder +onlyGivenNames x5
  refine Moves.let_ x5 ?_ ?_
  · subst x5
    split
    · refine Moves.seq ?_ (State.wr_moves _ _ (by decide)) (Foot.sub1 (by decide +kernel) (Foot.holds_reg (by decide +kernel)))
      refine Moves.seq ?_ (State.wr_moves _ _ (by decide)) (Foot.sub1 (by decide +kernel) (Foot.holds_reg (by decide +kernel)))
      refine Moves.seq ?_ (State.wr_moves _ _ (by decide)) (Foot.sub1 (by decide +kernel) (Foot.holds_reg (by decide +kernel)))
      exact h4
    · extract_lets -merge -underBinder +onlyGivenNames x6
      refine Moves.let_ x6 ?_ ?_
      · subst x6
        refine Moves.seq ?_ (State.put_moves _ _ _ (by decide)) (Foot.sub1 (by decide +kernel) (Foot.holds_reg (by decide +kernel)))
        refine Moves.seq ?_ (State.wr_moves _ _ (by decide)) (Foot.sub1 (by decide +kernel) (Foot.holds_reg (by decide +kernel)))
        exact h4
      intro h6
      try clear_value x6
      extract_lets -merge -underBinder +onlyGivenNames x7
      refine Moves.let_ x7 ?_ ?_
      · subst x7
        refine Moves.seq ?_ (State.putB_moves _ _ _ (by decide)) (Foot.sub1 (by decide +kernel) (Foot.holds_reg (by decide +kernel)))
        refine Moves.seq ?_ (State.putB_moves _ _ _ (by decide)) (Foot.sub1 (by decide +kernel) (Foot.holds_reg (by decide +kernel)))
        refine Moves.seq ?_ (State.putB_moves _ _ _ (by decide)) (Foot.sub1 (by decide +kernel) (Foot.holds_reg (by decide +kernel)))
        exact h6
      intro h7
      try clear_value x7
      extract_lets -merge -underBinder +onlyGivenNames x8
      refine Moves.let_ x8 ?_ ?_
      · subst x8
        refine Moves.seq ?_ (State.put_moves _ _ _ (by decide)) (Foot.sub1 (by decide +kernel) (Foot.holds_reg (by decide +kernel)))
        exact h7
      intro h8
      try clear_value x8
      extract_lets -merge -underBinder +onlyGivenNames x9
      refine Moves.let_ x9 ?_ ?_
      · subst x9
        refine Moves.ite (fun hc => ?_) (fun hc => ?_)
        · refine Moves.seq ?_ (State.raise_moves ..) (Foot.sub1 (by decide +kernel) (Foot.holds_reg (by decide +kernel)))
          exact h8
        · exact h8
      intro h9
      try clear_value x9
      extract_lets -merge -underBinder +onlyGivenNames x10
      refine Moves.let_ x10 ?_ ?_
      · subst x10
        refine Moves.ite (fun hc => ?_) (fun hc => ?_)
        · refine Moves.seq ?_ (State.raise_moves ..) (Foot.sub1 (by decide +kernel) (Foot.holds_reg (by decide +kernel)))
          exact h9
        · exact h9
      intro h10
      try clear_value x10
      refine Moves.ite (fun hc => ?_) (fun hc => ?_)
      · refine Moves.seq ?_ (State.raise_moves ..) (Foot.sub1 (by decide +kernel) (Foot.holds_reg (by decide +kernel)))
        exact h10
      · exact h10
  intro h5
  try clear_value x5
  refine Moves.seq ?_ (State.beamRefreshAll_moves ..) (Foot.sub0 (by decide +kernel))
  refine Moves.foldl _ (fun x11 _ h11 => ?_) _ ?_
  · refine Moves.seq ?_ (State.judgeDigest_moves ..) (Foot.sub1 (by decide +kernel) (Foot.holds_two 143376 77840 (by decide +kernel) (by decide +kernel) (by first | omega | (dsimp only; omega))))
    exact h11
  · exact h5

def Foot.takeHeld : Foot := ⟨[(0x100010, 0x100010), (0x100044, 0x100044), (0x100064, 0x10006C)], [], [.mem, .out, .evq, .top, .beam, .fab]⟩

theorem State.takeHeld_moves {F : Foot} {r s : State} {trig : Option (Nat × Option BPort)} {frames : List (BPort × NFrame)} {rx : State → BPort → NFrame → State}
    (h :
    Moves F r s) (hF : Foot.Sub (Foot.takeHeld.at []) F) (rx_ok : ∀ x y0 y1, Moves F r x → Moves F r (rx x y0 y1)) : Moves F r
      (State.takeHeld s trig frames rx) := by
  unfold State.takeHeld
  split
  · split
    · refine Moves.seq ?_ (State.trigger_moves ..) ((Foot.sub0 (by decide +kernel)).trans hF)
      exact h
    · exact h
  · extract_lets -merge -underBinder +onlyGivenNames x1
    subst x1
    extract_lets -merge -underBinder +onlyGivenNames x2
    subst x2
    refine Moves.ite (fun hc => ?_) (fun hc => ?_)
    · exact h
    · extract_lets -merge -underBinder +onlyGivenNames x3
      refine Moves.let_ x3 ?_ ?_
      · subst x3
        refine Moves.seq ?_ (State.joinAttempt_moves ..) ((Foot.sub0 (by decide +kernel)).trans hF)
        exact h
      intro h3
      try clear_value x3
      extract_lets -merge -underBinder +onlyGivenNames x4
      refine Moves.let_ x4 ?_ ?_
      · subst x4
        refine Moves.ite (fun hc => ?_) (fun hc => ?_)
        · exact h3
        · refine Moves.seq ?_ (State.sendRequest_moves ..) ((Foot.sub0 (by decide +kernel)).trans hF)
          exact h3
      intro h4
      try clear_value x4
      refine Moves.foldl _ (fun x5 _ h5 => ?_) _ ?_
      · refine rx_ok _ _ _ ?_
        exact h5
      · exact h4

def Foot.relay : Foot := ⟨[], [], [.out]⟩

theorem State.relay_moves (s : State) (p : BPort) (f : NFrame) : Moves (Foot.relay.at []) s (State.relay s p f) := by
  unfold State.relay
  refine Moves.seq ?_ (State.send_moves ..) (Foot.sub0 (by decide +kernel))
  exact Moves.refl _

def Foot.rxRequest : Foot := ⟨[], [], [.out, .top]⟩

theorem State.rxRequest_moves (s : State) (p : BPort) (f : NFrame) : Moves (Foot.rxRequest.at []) s (State.rxRequest s p f) := by
  unfold State.rxRequest
  refine Moves.ite (fun hc => ?_) (fun hc => ?_)
  · exact Moves.refl _
  · refine Moves.seq ?_ (State.relay_moves ..) (Foot.sub0 (by decide +kernel))
    refine Moves.seq ?_ (Moves.upd_top _ _) (Foot.sub0 (by decide +kernel))
    exact Moves.refl _

def Foot.rxJoin : Foot := ⟨[], [], [.top]⟩

theorem State.rxJoin_moves (s : State) (p : BPort) : Moves (Foot.rxJoin.at []) s (State.rxJoin s p) := by
  unfold State.rxJoin
  refine Moves.seq ?_ (State.setView_moves ..) (Foot.sub0 (by decide +kernel))
  exact Moves.refl _

def Foot.splitRelay : Foot := ⟨[], [], [.out, .top]⟩

theorem State.splitRelay_moves (s : State) (p : BPort) : Moves (Foot.splitRelay.at []) s (State.splitRelay s p) := by
  unfold State.splitRelay
  extract_lets -merge -underBinder +onlyGivenNames x1
  subst x1
  refine Moves.ite (fun hc => ?_) (fun hc => ?_)
  · extract_lets -merge -underBinder +onlyGivenNames x2
    refine Moves.let_ x2 ?_ ?_
    · subst x2
      refine Moves.foldl _ (fun x3 _ h3 => ?_) _ ?_
      · refine Moves.seq ?_ (State.send_moves ..) (Foot.sub0 (by decide +kernel))
        exact h3
      · exact Moves.refl _
    intro h2
    try clear_value x2
    extract_lets -merge -underBinder +onlyGivenNames x4
    refine Moves.let_ x4 ?_ ?_
    · subst x4
      refine Moves.seq ?_ (State.send_moves ..) (Foot.sub0 (by decide +kernel))
      exact h2
    intro h4
    try clear_value x4
    refine Moves.seq ?_ (State.setView_moves ..) (Foot.sub0 (by decide +kernel))
    exact h4
  · exact Moves.refl _

def Foot.splitRelays : Foot := ⟨[], [], [.out, .top]⟩

theorem State.splitRelays_moves (s : State) : Moves (Foot.splitRelays.at []) s (State.splitRelays s) := by
  unfold State.splitRelays
  refine Moves.foldl _ (fun x1 _ h1 => ?_) _ ?_
  · refine Moves.seq ?_ (State.splitRelay_moves ..) (Foot.sub0 (by decide +kernel))
    exact h1
  · exact Moves.refl _

def Foot.rxIdent : Foot := ⟨[], [], [.out, .top]⟩

theorem State.rxIdent_moves (s : State) (p : BPort) (f : NFrame) : Moves (Foot.rxIdent.at []) s (State.rxIdent s p f) := by
  unfold State.rxIdent
  extract_lets -merge -underBinder +onlyGivenNames x1
  subst x1
  extract_lets -merge -underBinder +onlyGivenNames x2
  subst x2
  extract_lets -merge -underBinder +onlyGivenNames x3
  refine Moves.let_ x3 ?_ ?_
  · subst x3
    refine Moves.seq ?_ (State.setView_moves ..) (Foot.sub0 (by decide +kernel))
    exact Moves.refl _
  intro h3
  try clear_value x3
  extract_lets -merge -underBinder +onlyGivenNames x4
  subst x4
  extract_lets -merge -underBinder +onlyGivenNames x5
  refine Moves.let_ x5 ?_ ?_
  · subst x5
    refine Moves.seq ?_ (Moves.upd_top _ _) (Foot.sub0 (by decide +kernel))
    exact h3
  intro h5
  try clear_value x5
  extract_lets -merge -underBinder +onlyGivenNames x6
  refine Moves.let_ x6 ?_ ?_
  · subst x6
    refine Moves.seq ?_ (State.relay_moves ..) (Foot.sub0 (by decide +kernel))
    exact h5
  intro h6
  try clear_value x6
  extract_lets -merge -underBinder +onlyGivenNames x7
  refine Moves.let_ x7 ?_ ?_
  · subst x7
    refine Moves.ite (fun hc => ?_) (fun hc => ?_)
    · refine Moves.seq ?_ (State.send_moves ..) (Foot.sub0 (by decide +kernel))
      exact h6
    · exact h6
  intro h7
  try clear_value x7
  refine Moves.seq ?_ (State.splitRelays_moves ..) (Foot.sub0 (by decide +kernel))
  exact h7

def Foot.rxXident : Foot := ⟨[], [], [.out, .top]⟩

theorem State.rxXident_moves (s : State) (p : BPort) (f : NFrame) : Moves (Foot.rxXident.at []) s (State.rxXident s p f) := by
  unfold State.rxXident
  extract_lets -merge -underBinder +onlyGivenNames x1
  subst x1
  extract_lets -merge -underBinder +onlyGivenNames x2
  refine Moves.let_ x2 ?_ ?_
  · subst x2
    refine Moves.seq ?_ (State.setView_moves ..) (Foot.sub0 (by decide +kernel))
    exact Moves.refl _
  intro h2
  try clear_value x2
  refine Moves.seq ?_ (State.relay_moves ..) (Foot.sub0 (by decide +kernel))
  exact h2

def Foot.rxXend : Foot := ⟨[], [], [.out, .top]⟩

theorem State.rxXend_moves (s : State) (p : BPort) (f : NFrame) : Moves (Foot.rxXend.at []) s (State.rxXend s p f) := by
  unfold State.rxXend
  extract_lets -merge -underBinder +onlyGivenNames x1
  subst x1
  extract_lets -merge -underBinder +onlyGivenNames x2
  refine Moves.let_ x2 ?_ ?_
  · subst x2
    refine Moves.seq ?_ (State.setView_moves ..) (Foot.sub0 (by decide +kernel))
    exact Moves.refl _
  intro h2
  try clear_value x2
  refine Moves.seq ?_ (State.splitRelays_moves ..) (Foot.sub0 (by decide +kernel))
  refine Moves.seq ?_ (State.relay_moves ..) (Foot.sub0 (by decide +kernel))
  exact h2

def Foot.rxCommit : Foot :=
  ⟨[(0x100010, 0x100010), (0x100044, 0x100044), (0x100064, 0x10006C), (0x100074, 0x100078)], [], [.mem,
    .out, .evq, .top, .beam, .fab]⟩

theorem State.rxCommit_moves (s : State) (p : BPort) (f : NFrame) : Moves (Foot.rxCommit.at []) s (State.rxCommit s p f) := by
  unfold State.rxCommit
  extract_lets -merge -underBinder +onlyGivenNames x1
  subst x1
  extract_lets -merge -underBinder +onlyGivenNames x2
  refine Moves.let_ x2 ?_ ?_
  · subst x2
    refine Moves.ite (fun hc => ?_) (fun hc => ?_)
    · exact Moves.refl _
    · refine Moves.seq ?_ (State.relay_moves ..) (Foot.sub0 (by decide +kernel))
      refine Moves.seq ?_ (Moves.upd_top _ _) (Foot.sub0 (by decide +kernel))
      exact Moves.refl _
  intro h2
  try clear_value x2
  extract_lets -merge -underBinder +onlyGivenNames x3
  subst x3
  refine Moves.ite (fun hc => ?_) (fun hc => ?_)
  · refine Moves.seq ?_ (State.actOn_moves ..) (Foot.sub0 (by decide +kernel))
    exact h2
  · refine Moves.ite (fun hc => ?_) (fun hc => ?_)
    · refine Moves.seq ?_ (Moves.upd_top _ _) (Foot.sub0 (by decide +kernel))
      exact h2
    · exact h2

def Foot.rxReady : Foot := ⟨[], [], [.out, .top]⟩

theorem State.rxReady_moves (s : State) (p : BPort) (f : NFrame) : Moves (Foot.rxReady.at []) s (State.rxReady s p f) := by
  unfold State.rxReady
  extract_lets -merge -underBinder +onlyGivenNames x1
  subst x1
  extract_lets -merge -underBinder +onlyGivenNames x2
  refine Moves.let_ x2 ?_ ?_
  · subst x2
    refine Moves.seq ?_ (Moves.upd_top _ _) (Foot.sub0 (by decide +kernel))
    exact Moves.refl _
  intro h2
  try clear_value x2
  refine Moves.ite (fun hc => ?_) (fun hc => ?_)
  · exact h2
  · refine Moves.seq ?_ (State.relay_moves ..) (Foot.sub0 (by decide +kernel))
    refine Moves.seq ?_ (Moves.upd_top _ _) (Foot.sub0 (by decide +kernel))
    exact h2

def Foot.rxType : Foot :=
  ⟨[(0x100010, 0x100010), (0x100044, 0x100044), (0x100064, 0x10006C), (0x100074, 0x100078)], [], [.mem, .out,
    .evq, .top, .beam, .fab]⟩

theorem State.rxType_moves (s : State) (p : BPort) (f : NFrame) : Moves (Foot.rxType.at []) s (State.rxType s p f) := by
  unfold State.rxType
  split
  · refine Moves.seq ?_ (State.rxRequest_moves ..) (Foot.sub0 (by decide +kernel))
    exact Moves.refl _
  · refine Moves.seq ?_ (State.rxJoin_moves ..) (Foot.sub0 (by decide +kernel))
    exact Moves.refl _
  · refine Moves.seq ?_ (State.rxIdent_moves ..) (Foot.sub0 (by decide +kernel))
    exact Moves.refl _
  · refine Moves.seq ?_ (State.rxXident_moves ..) (Foot.sub0 (by decide +kernel))
    exact Moves.refl _
  · refine Moves.seq ?_ (State.rxXend_moves ..) (Foot.sub0 (by decide +kernel))
    exact Moves.refl _
  · refine Moves.seq ?_ (State.rxCommit_moves ..) (Foot.sub0 (by decide +kernel))
    exact Moves.refl _
  · refine Moves.seq ?_ (State.rxReady_moves ..) (Foot.sub0 (by decide +kernel))
    exact Moves.refl _
  · exact Moves.refl _

def Foot.flip : Foot :=
  ⟨[(0x010010, 0x010010), (0x010048, 0x010048), (0x013010, 0x013010), (0x013040, 0x013040), (0x013048,
    0x013054), (0x020010, 0x020010), (0x020048, 0x020048), (0x023010, 0x023010), (0x023040, 0x023040), (0x023048, 0x023054), (0x031010,
    0x031010), (0x090010, 0x090010), (0x090058, 0x090064), (0x091010, 0x091010), (0x091050, 0x091058), (0x093060, 0x093060), (0x100010,
    0x100010), (0x100040, 0x100054), (0x100060, 0x10006C), (0x100074, 0x100078), (0x103010, 0x103010), (0x103048, 0x103048), (0x103050,
    0x10305C), (0x103074, 0x103074)], [], [.mem, .out, .evq, .top, .beam, .fab, .tim]⟩

theorem State.flip_moves (s : State) : Moves (Foot.flip.at []) s (State.flip s) := by
  unfold State.flip
  split
  · exact Moves.refl _
  · refine Moves.ite (fun hc => ?_) (fun hc => ?_)
    · exact Moves.refl _
    · extract_lets -merge -underBinder +onlyGivenNames x1
      subst x1
      extract_lets -merge -underBinder +onlyGivenNames x2
      subst x2
      extract_lets -merge -underBinder +onlyGivenNames x3
      subst x3
      extract_lets -merge -underBinder +onlyGivenNames x4
      subst x4
      extract_lets -merge -underBinder +onlyGivenNames x5
      subst x5
      extract_lets -merge -underBinder +onlyGivenNames x6
      refine Moves.let_ x6 ?_ ?_
      · subst x6
        refine Moves.seq ?_ (State.wr_moves _ _ (by decide)) (Foot.sub1 (by decide +kernel) (Foot.holds_reg (by decide +kernel)))
        exact Moves.refl _
      intro h6
      try clear_value x6
      extract_lets -merge -underBinder +onlyGivenNames x7
      refine Moves.let_ x7 ?_ ?_
      · subst x7
        refine Moves.seq ?_ (State.copyTable_moves ..) (Foot.sub0 (by decide +kernel))
        refine Moves.seq ?_ (State.copyTable_moves ..) (Foot.sub0 (by decide +kernel))
        exact h6
      intro h7
      try clear_value x7
      extract_lets -merge -underBinder +onlyGivenNames x8
      refine Moves.let_ x8 ?_ ?_
      · subst x8
        refine Moves.seq ?_ (State.wr_moves _ _ (by decide)) (Foot.sub1 (by decide +kernel) (Foot.holds_reg (by decide +kernel)))
        refine Moves.seq ?_ (State.takeNumbering_moves ..) (Foot.sub0 (by decide +kernel))
        refine Moves.seq ?_ (State.bindFlip_moves ..) (Foot.sub0 (by decide +kernel))
        exact h7
      intro h8
      try clear_value x8
      extract_lets -merge -underBinder +onlyGivenNames x9
      refine Moves.let_ x9 ?_ ?_
      · subst x9
        refine Moves.seq ?_ (State.attemptDur_moves ..) (Foot.sub0 (by decide +kernel))
        refine Moves.seq ?_ (State.splitRecord_moves ..) (Foot.sub0 (by decide +kernel))
        refine Moves.seq ?_ (State.splitRecord_moves ..) (Foot.sub0 (by decide +kernel))
        exact h8
      intro h9
      try clear_value x9
      extract_lets -merge -underBinder +onlyGivenNames x10
      subst x10
      extract_lets -merge -underBinder +onlyGivenNames x11
      refine Moves.let_ x11 ?_ ?_
      · subst x11
        refine Moves.ite (fun hc => ?_) (fun hc => ?_)
        · refine Moves.foldl _ (fun x12 _ h12 => ?_) _ ?_
          · refine Moves.seq ?_ (State.setSusp_moves ..) (Foot.sub0 (by decide +kernel))
            exact h12
          · refine Moves.seq ?_ (State.flipContexts_moves ..) (Foot.sub0 (by decide +kernel))
            exact h9
        · exact h9
      intro h11
      try clear_value x11
      extract_lets -merge -underBinder +onlyGivenNames x13
      refine Moves.let_ x13 ?_ ?_
      · subst x13
        refine Moves.seq ?_ (State.lineNumbered_moves ..) (Foot.sub_at (by decide +kernel) (Foot.own_cons (Foot.holds_reg (by decide +kernel)) (Foot.own_cons (Foot.holds_reg (by decide +kernel)) Foot.own_nil)))
        refine Moves.seq ?_ (State.lineNumbered_moves ..) (Foot.sub_at (by decide +kernel) (Foot.own_cons (Foot.holds_reg (by decide +kernel)) (Foot.own_cons (Foot.holds_reg (by decide +kernel)) Foot.own_nil)))
        exact h11
      intro h13
      try clear_value x13
      extract_lets -merge -underBinder +onlyGivenNames x14
      refine Moves.let_ x14 ?_ ?_
      · subst x14
        refine Moves.seq ?_ (State.slotActivate_moves ..) (Foot.sub0 (by decide +kernel))
        exact h13
      intro h14
      try clear_value x14
      extract_lets -merge -underBinder +onlyGivenNames x15
      refine Moves.let_ x15 ?_ ?_
      · subst x15
        refine Moves.seq ?_ (State.gmUpdate_moves ..) (Foot.sub0 (by decide +kernel))
        exact h14
      intro h15
      try clear_value x15
      extract_lets -merge -underBinder +onlyGivenNames x16
      refine Moves.let_ x16 ?_ ?_
      · subst x16
        refine Moves.seq ?_ (State.post_moves ..) (Foot.sub0 (by decide +kernel))
        exact h15
      intro h16
      try clear_value x16
      extract_lets -merge -underBinder +onlyGivenNames x17
      refine Moves.let_ x17 ?_ ?_
      · subst x17
        refine Moves.seq ?_ (State.raise_moves ..) (Foot.sub1 (by decide +kernel) (Foot.holds_reg (by decide +kernel)))
        refine Moves.seq ?_ (State.satInc_moves _ _ (by decide)) (Foot.sub1 (by decide +kernel) (Foot.holds_reg (by decide +kernel)))
        exact h16
      intro h17
      try clear_value x17
      extract_lets -merge -underBinder +onlyGivenNames x18
      refine Moves.let_ x18 ?_ ?_
      · subst x18
        refine Moves.seq ?_ (State.put_moves _ _ _ (by decide)) (Foot.sub1 (by decide +kernel) (Foot.holds_reg (by decide +kernel)))
        refine Moves.seq ?_ (State.endAttempt_moves ..) (Foot.sub0 (by decide +kernel))
        exact h17
      intro h18
      try clear_value x18
      extract_lets -merge -underBinder +onlyGivenNames x19
      subst x19
      extract_lets -merge -underBinder +onlyGivenNames x20
      refine Moves.let_ x20 ?_ ?_
      · subst x20
        refine Moves.seq ?_ (Moves.upd_top _ _) (Foot.sub0 (by decide +kernel))
        exact h18
      intro h20
      try clear_value x20
      extract_lets -merge -underBinder +onlyGivenNames x21
      refine Moves.let_ x21 ?_ ?_
      · subst x21
        refine Moves.ite (fun hc => ?_) (fun hc => ?_)
        · refine Moves.seq ?_ (State.showEtbGrace_moves ..) (Foot.sub0 (by decide +kernel))
          exact h20
        · exact h20
      intro h21
      try clear_value x21
      extract_lets -merge -underBinder +onlyGivenNames x22
      refine Moves.let_ x22 ?_ ?_
      · subst x22
        refine Moves.seq ?_ (State.beamRefreshAll_moves ..) (Foot.sub0 (by decide +kernel))
        exact h21
      intro h22
      try clear_value x22
      refine Moves.ite (fun hc => ?_) (fun hc => ?_)
      · refine Moves.seq ?_ (State.trigger_moves ..) (Foot.sub0 (by decide +kernel))
        exact h22
      · refine State.takeHeld_moves ?_ (Foot.sub0 (by decide +kernel)) (fun x23 _ _ h23 => ?_)
        · exact h22
        · refine Moves.seq ?_ (State.rxType_moves ..) (Foot.sub0 (by decide +kernel))
          exact h23

def Foot.flipNow : Foot :=
  ⟨[(0x003010, 0x003010), (0x003040, 0x003040), (0x003050, 0x003050), (0x00306C, 0x00306C), (0x010010,
    0x010010), (0x010048, 0x010048), (0x013010, 0x013010), (0x013040, 0x013040), (0x013048, 0x013054), (0x020010, 0x020010), (0x020048,
    0x020048), (0x023010, 0x023010), (0x023040, 0x023040), (0x023048, 0x023054), (0x031010, 0x031010), (0x090010, 0x090010), (0x090058,
    0x090064), (0x091010, 0x091010), (0x091050, 0x091058), (0x093060, 0x093060), (0x100010, 0x100010), (0x100040, 0x100054), (0x100060,
    0x10006C), (0x100074, 0x100078), (0x103010, 0x103010), (0x103048, 0x103048), (0x103050, 0x10305C), (0x103074, 0x103074)], [],
    [.mem, .out, .evq, .top, .beam, .fab, .tim, .wake]⟩

theorem State.flipNow_moves (s : State) : Moves (Foot.flipNow.at []) s (State.flipNow s) := by
  unfold State.flipNow
  refine Moves.ite (fun hc => ?_) (fun hc => ?_)
  · refine Moves.seq ?_ (State.duskFlip_moves ..) (Foot.sub0 (by decide +kernel))
    refine Moves.seq ?_ (State.flip_moves ..) (Foot.sub0 (by decide +kernel))
    exact Moves.refl _
  · exact Moves.refl _

def Foot.gateSwap : Foot := ⟨[(0x033010, 0x033010)], [], [.mem]⟩

theorem State.gateSwap_moves (s : State) (port : Nat) : Moves (Foot.gateSwap.at []) s (State.gateSwap s port) := by
  unfold State.gateSwap
  refine Moves.ite (fun hc => ?_) (fun hc => ?_)
  · exact Moves.refl _
  · extract_lets -merge -underBinder +onlyGivenNames x1
    refine Moves.let_ x1 ?_ ?_
    · subst x1
      refine Moves.seq ?_ (State.wrBytes_moves ..) (Foot.sub0 (by decide +kernel))
      exact Moves.refl _
    intro h1
    try clear_value x1
    extract_lets -merge -underBinder +onlyGivenNames x2
    refine Moves.let_ x2 ?_ ?_
    · subst x2
      refine Moves.seq ?_ (State.wrByte_moves ..) (Foot.sub0 (by decide +kernel))
      refine Moves.seq ?_ (State.wrByte_moves ..) (Foot.sub0 (by decide +kernel))
      exact h1
    intro h2
    try clear_value x2
    extract_lets -merge -underBinder +onlyGivenNames x3
    subst x3
    extract_lets -merge -underBinder +onlyGivenNames x4
    refine Moves.let_ x4 ?_ ?_
    · subst x4
      refine Moves.seq ?_ (State.raise_moves ..) (Foot.sub1 (by decide +kernel) (Foot.holds_reg (by decide +kernel)))
      exact h2
    intro h4
    try clear_value x4
    refine Moves.ite (fun hc => ?_) (fun hc => ?_)
    · refine Moves.seq ?_ (State.raise_moves ..) (Foot.sub1 (by decide +kernel) (Foot.holds_reg (by decide +kernel)))
      exact h4
    · exact h4

def Foot.gateSwaps : Foot := ⟨[(0x033010, 0x033010)], [], [.mem]⟩

theorem State.gateSwaps_moves (s : State) : Moves (Foot.gateSwaps.at []) s (State.gateSwaps s) := by
  unfold State.gateSwaps
  refine Moves.foldl _ (fun x1 _ h1 => ?_) _ ?_
  · refine Moves.seq ?_ (State.gateSwap_moves ..) (Foot.sub0 (by decide +kernel))
    exact h1
  · exact Moves.refl _

def Foot.slotApply : Foot :=
  ⟨[(0x013010, 0x013010), (0x013040, 0x013040), (0x013048, 0x013054), (0x023010, 0x023010), (0x023040,
    0x023040), (0x023048, 0x023054), (0x103010, 0x103010), (0x103048, 0x103048), (0x103050, 0x10305C), (0x103074, 0x103074)], [],
    [.evq, .beam]⟩

theorem State.slotApply_moves (s : State) : Moves (Foot.slotApply.at []) s (State.slotApply s) := by
  unfold State.slotApply
  refine Moves.ite (fun hc => ?_) (fun hc => ?_)
  · refine Moves.seq ?_ (State.slotActivate_moves ..) (Foot.sub0 (by decide +kernel))
    exact Moves.refl _
  · exact Moves.refl _

def Foot.boundaryValues : Foot :=
  ⟨[(0x003010, 0x003010), (0x003040, 0x003040), (0x003050, 0x003050), (0x00306C, 0x00306C),
    (0x010010, 0x010010), (0x010048, 0x010048), (0x013010, 0x013010), (0x013040, 0x013040), (0x013048, 0x013054), (0x020010, 0x020010),
    (0x020048, 0x020048), (0x023010, 0x023010), (0x023040, 0x023040), (0x023048, 0x023054), (0x031010, 0x031010), (0x033010, 0x033010),
    (0x090010, 0x090010), (0x090058, 0x090064), (0x091010, 0x091010), (0x091050, 0x091058), (0x093060, 0x093060), (0x100010, 0x100010),
    (0x100040, 0x100054), (0x100060, 0x10006C), (0x100074, 0x100078), (0x103010, 0x103010), (0x103048, 0x103074)], [], [.mem, .out,
    .evq, .top, .beam, .fab, .tim, .wake]⟩

theorem State.boundaryValues_moves (s : State) : Moves (Foot.boundaryValues.at []) s (State.boundaryValues s) := by
  unfold State.boundaryValues
  extract_lets -merge -underBinder +onlyGivenNames x1
  refine Moves.let_ x1 ?_ ?_
  · subst x1
    refine Moves.seq ?_ (State.graceBoundary_moves ..) (Foot.sub0 (by decide +kernel))
    refine Moves.seq ?_ (State.watchBoundary_moves ..) (Foot.sub0 (by decide +kernel))
    refine Moves.seq ?_ (State.beamBoundary_moves ..) (Foot.sub0 (by decide +kernel))
    refine Moves.seq ?_ (State.nextCycle_moves ..) (Foot.sub0 (by decide +kernel))
    exact Moves.refl _
  intro h1
  try clear_value x1
  extract_lets -merge -underBinder +onlyGivenNames x2
  refine Moves.let_ x2 ?_ ?_
  · subst x2
    refine Moves.ite (fun hc => ?_) (fun hc => ?_)
    · refine Moves.seq ?_ (State.flipNow_moves ..) (Foot.sub0 (by decide +kernel))
      exact h1
    · exact h1
  intro h2
  try clear_value x2
  extract_lets -merge -underBinder +onlyGivenNames x3
  refine Moves.let_ x3 ?_ ?_
  · subst x3
    refine Moves.seq ?_ (State.gateSwaps_moves ..) (Foot.sub0 (by decide +kernel))
    refine Moves.seq ?_ (State.slotApply_moves ..) (Foot.sub0 (by decide +kernel))
    exact h2
  intro h3
  try clear_value x3
  refine Moves.ite (fun hc => ?_) (fun hc => ?_)
  · refine Moves.seq ?_ (State.boundaryCapture_moves ..) (Foot.sub0 (by decide +kernel))
    exact h3
  · exact h3

def Foot.wofsApply : Foot := ⟨[(0x090010, 0x090010), (0x090058, 0x090060), (0x093060, 0x093060)], [], [.evq, .tim]⟩

theorem State.wofsApply_moves (s : State) (w : WofsPend) : Moves (Foot.wofsApply.at []) s (State.wofsApply s w) := by
  unfold State.wofsApply
  extract_lets -merge -underBinder +onlyGivenNames x1
  subst x1
  extract_lets -merge -underBinder +onlyGivenNames x2
  refine Moves.let_ x2 ?_ ?_
  · subst x2
    refine Moves.seq ?_ (State.wofsSet_moves ..) (Foot.sub0 (by decide +kernel))
    exact Moves.refl _
  intro h2
  skip
  refine Moves.ite (fun hc => ?_) (fun hc => ?_)
  · exact h2
  · refine Moves.seq ?_ (State.wallStep_moves ..) (Foot.sub0 (by decide +kernel))
    exact h2

def Foot.wofsBoundary : Foot := ⟨[(0x090010, 0x090010), (0x090058, 0x090060), (0x093060, 0x093060)], [], [.evq, .tim]⟩

theorem State.wofsBoundary_moves (s : State) : Moves (Foot.wofsBoundary.at []) s (State.wofsBoundary s) := by
  unfold State.wofsBoundary
  split
  · refine Moves.ite (fun hc => ?_) (fun hc => ?_)
    · refine Moves.seq ?_ (State.wofsApply_moves ..) (Foot.sub0 (by decide +kernel))
      exact Moves.refl _
    · exact Moves.refl _
  · exact Moves.refl _

def Foot.sendBase : Foot := ⟨[(0x0A1010, 0x0A1010), (0x0A104C, 0x0A104C)], [], [.out, .twn]⟩

theorem State.sendBase_moves (s : State) : Moves (Foot.sendBase.at []) s (State.sendBase s) := by
  unfold State.sendBase
  refine Moves.ite (fun hc => ?_) (fun hc => ?_)
  · exact Moves.refl _
  · extract_lets -merge -underBinder +onlyGivenNames x1
    subst x1
    extract_lets -merge -underBinder +onlyGivenNames x2
    refine Moves.let_ x2 ?_ ?_
    · subst x2
      refine Moves.seq ?_ (State.satInc_moves _ _ (by decide)) (Foot.sub1 (by decide +kernel) (Foot.holds_reg (by decide +kernel)))
      refine Moves.seq ?_ (State.modTwn_moves ..) (Foot.sub0 (by decide +kernel))
      exact Moves.refl _
    intro h2
    try clear_value x2
    extract_lets -merge -underBinder +onlyGivenNames x3
    refine Moves.let_ x3 ?_ ?_
    · subst x3
      refine Moves.seq ?_ (State.raise_moves ..) (Foot.sub1 (by decide +kernel) (Foot.holds_reg (by decide +kernel)))
      exact h2
    intro h3
    try clear_value x3
    extract_lets -merge -underBinder +onlyGivenNames x4
    subst x4
    extract_lets -merge -underBinder +onlyGivenNames x5
    refine Moves.let_ x5 ?_ ?_
    · subst x5
      refine Moves.foldl _ (fun x6 _ h6 => ?_) _ ?_
      · refine Moves.seq ?_ (State.emit_moves ..) (Foot.sub0 (by decide +kernel))
        exact h6
      · exact h3
    intro h5
    try clear_value x5
    refine Moves.seq ?_ (State.emit_moves ..) (Foot.sub0 (by decide +kernel))
    exact h5

def Foot.epochSize : Foot := ⟨[(0x0A1048, 0x0A1048)], [], []⟩

theorem State.epochSize_moves (s : State) (bytes : Nat) : Moves (Foot.epochSize.at []) s (State.epochSize s bytes) := by
  unfold State.epochSize
  extract_lets -merge -underBinder +onlyGivenNames x1
  subst x1
  refine Moves.seq ?_ (State.put_moves _ _ _ (by decide)) (Foot.sub1 (by decide +kernel) (Foot.holds_reg (by decide +kernel)))
  refine Moves.seq ?_ (State.put_moves _ _ _ (by decide)) (Foot.sub1 (by decide +kernel) (Foot.holds_reg (by decide +kernel)))
  exact Moves.refl _

def Foot.mirrorRecord : Foot := ⟨[], [], [.out, .twn]⟩

theorem State.mirrorRecord_moves (s : State) (r : MRec) : Moves (Foot.mirrorRecord.at []) s (State.mirrorRecord s r) := by
  unfold State.mirrorRecord
  refine Moves.ite (fun hc => ?_) (fun hc => ?_)
  · exact Moves.refl _
  · refine Moves.ite (fun hc => ?_) (fun hc => ?_)
    · refine Moves.seq ?_ (State.modTwn_moves ..) (Foot.sub0 (by decide +kernel))
      exact Moves.refl _
    · refine Moves.seq ?_ (State.emit_moves ..) (Foot.sub0 (by decide +kernel))
      refine Moves.seq ?_ (State.modTwn_moves ..) (Foot.sub0 (by decide +kernel))
      exact Moves.refl _

def Foot.closeEpoch : Foot := ⟨[(0x0A1010, 0x0A1010), (0x0A1044, 0x0A104C)], [], [.out, .twn]⟩

theorem State.closeEpoch_moves (s : State) : Moves (Foot.closeEpoch.at []) s (State.closeEpoch s) := by
  unfold State.closeEpoch
  refine Moves.ite (fun hc => ?_) (fun hc => ?_)
  · refine Moves.seq ?_ (State.modTwn_moves ..) (Foot.sub0 (by decide +kernel))
    exact Moves.refl _
  · extract_lets -merge -underBinder +onlyGivenNames x1
    subst x1
    extract_lets -merge -underBinder +onlyGivenNames x2
    subst x2
    extract_lets -merge -underBinder +onlyGivenNames x3
    refine Moves.let_ x3 ?_ ?_
    · subst x3
      refine Moves.seq ?_ (State.emit_moves ..) (Foot.sub0 (by decide +kernel))
      exact Moves.refl _
    intro h3
    try clear_value x3
    extract_lets -merge -underBinder +onlyGivenNames x4
    refine Moves.let_ x4 ?_ ?_
    · subst x4
      refine Moves.ite (fun hc => ?_) (fun hc => ?_)
      · refine Moves.seq ?_ (State.raise_moves ..) (Foot.sub1 (by decide +kernel) (Foot.holds_reg (by decide +kernel)))
        refine Moves.seq ?_ (State.satInc_moves _ _ (by decide)) (Foot.sub1 (by decide +kernel) (Foot.holds_reg (by decide +kernel)))
        exact h3
      · exact h3
    intro h4
    try clear_value x4
    extract_lets -merge -underBinder +onlyGivenNames x5
    refine Moves.let_ x5 ?_ ?_
    · subst x5
      refine Moves.seq ?_ (State.put_moves _ _ _ (by decide)) (Foot.sub1 (by decide +kernel) (Foot.holds_reg (by decide +kernel)))
      refine Moves.seq ?_ (State.epochSize_moves ..) (Foot.sub0 (by decide +kernel))
      exact h4
    intro h5
    try clear_value x5
    extract_lets -merge -underBinder +onlyGivenNames x6
    refine Moves.let_ x6 ?_ ?_
    · subst x6
      refine Moves.seq ?_ (State.modTwn_moves ..) (Foot.sub0 (by decide +kernel))
      exact h5
    intro h6
    try clear_value x6
    refine Moves.seq ?_ (State.mirrorRecord_moves ..) (Foot.sub0 (by decide +kernel))
    exact h6

def Foot.orphaned : Foot :=
  ⟨[(0x003010, 0x003010), (0x003040, 0x003040), (0x003050, 0x003050), (0x00306C, 0x00306C), (0x005040,
    0x005040), (0x010010, 0x010010), (0x010048, 0x010048), (0x011010, 0x011010), (0x011040, 0x011048), (0x012010, 0x012010), (0x012040,
    0x012048), (0x013010, 0x013010), (0x013040, 0x013040), (0x013048, 0x013058), (0x020010, 0x020010), (0x020048, 0x020048), (0x021010,
    0x021010), (0x021040, 0x021048), (0x022010, 0x022010), (0x022040, 0x022048), (0x023010, 0x023010), (0x023040, 0x023040), (0x023048,
    0x023058), (0x060010, 0x060010), (0x060044, 0x060044), (0x090010, 0x090010), (0x090058, 0x090064), (0x091010, 0x091010), (0x091050,
    0x091058), (0x093060, 0x093060), (0x0A0010, 0x0A0010), (0x0A0040, 0x0A0040), (0x0A0060, 0x0A0060), (0x0A2044, 0x0A2044), (0x100010,
    0x100010), (0x100064, 0x100064)], [], [.out, .evq, .lines, .ports, .beam, .fab, .tim, .wake, .twn]⟩

theorem State.orphaned_moves (s : State) : Moves (Foot.orphaned.at []) s (State.orphaned s) := by
  unfold State.orphaned
  refine Moves.ite (fun hc => ?_) (fun hc => ?_)
  · refine Moves.seq ?_ (State.setRole_moves ..) (Foot.sub0 (by decide +kernel))
    exact Moves.refl _
  · exact Moves.refl _

def Foot.switchOver : Foot :=
  ⟨[(0x003010, 0x003010), (0x003040, 0x003040), (0x003050, 0x003050), (0x00306C, 0x00306C), (0x005040,
    0x005040), (0x010010, 0x010010), (0x010048, 0x010048), (0x011010, 0x011010), (0x011040, 0x011048), (0x012010, 0x012010), (0x012040,
    0x012048), (0x013010, 0x013010), (0x013040, 0x013040), (0x013048, 0x013058), (0x020010, 0x020010), (0x020048, 0x020048), (0x021010,
    0x021010), (0x021040, 0x021048), (0x022010, 0x022010), (0x022040, 0x022048), (0x023010, 0x023010), (0x023040, 0x023040), (0x023048,
    0x023058), (0x060010, 0x060010), (0x060044, 0x060044), (0x090010, 0x090010), (0x090058, 0x090064), (0x091010, 0x091010), (0x091050,
    0x091058), (0x093060, 0x093060), (0x0A0010, 0x0A0010), (0x0A0040, 0x0A0040), (0x0A005C, 0x0A0060), (0x0A2044, 0x0A2044), (0x100010,
    0x100010), (0x100064, 0x100064)], [], [.out, .evq, .lines, .ports, .beam, .fab, .tim, .wake, .twn]⟩

theorem State.switchOver_moves (s : State) (handover : Bool) : Moves (Foot.switchOver.at []) s (State.switchOver s handover) := by
  unfold State.switchOver
  extract_lets -merge -underBinder +onlyGivenNames x1
  subst x1
  extract_lets -merge -underBinder +onlyGivenNames x2
  subst x2
  extract_lets -merge -underBinder +onlyGivenNames x3
  subst x3
  extract_lets -merge -underBinder +onlyGivenNames x4
  refine Moves.let_ x4 ?_ ?_
  · subst x4
    refine Moves.seq ?_ (State.modTwn_moves ..) (Foot.sub0 (by decide +kernel))
    exact Moves.refl _
  intro h4
  try clear_value x4
  extract_lets -merge -underBinder +onlyGivenNames x5
  refine Moves.let_ x5 ?_ ?_
  · subst x5
    refine Moves.seq ?_ (State.setRole_moves ..) (Foot.sub0 (by decide +kernel))
    exact h4
  intro h5
  try clear_value x5
  extract_lets -merge -underBinder +onlyGivenNames x6
  refine Moves.let_ x6 ?_ ?_
  · subst x6
    refine Moves.foldl _ (fun x7 _ h7 => ?_) _ ?_
    · refine Moves.seq ?_ (Moves.upd_fab _ _) (Foot.sub0 (by decide +kernel))
      exact h7
    · exact h5
  intro h6
  try clear_value x6
  extract_lets -merge -underBinder +onlyGivenNames x8
  refine Moves.let_ x8 ?_ ?_
  · subst x8
    refine Moves.seq ?_ (State.modTwn_moves ..) (Foot.sub0 (by decide +kernel))
    exact h6
  intro h8
  try clear_value x8
  refine Moves.ite (fun hc => ?_) (fun hc => ?_)
  · refine Moves.seq ?_ (State.raise_moves ..) (Foot.sub1 (by decide +kernel) (Foot.holds_reg (by decide +kernel)))
    refine Moves.seq ?_ (State.satInc_moves _ _ (by decide)) (Foot.sub1 (by decide +kernel) (Foot.holds_reg (by decide +kernel)))
    exact h8
  · refine Moves.seq ?_ (State.raise_moves ..) (Foot.sub1 (by decide +kernel) (Foot.holds_reg (by decide +kernel)))
    refine Moves.seq ?_ (State.satInc_moves _ _ (by decide)) (Foot.sub1 (by decide +kernel) (Foot.holds_reg (by decide +kernel)))
    exact h8

def Foot.takeHandover : Foot :=
  ⟨[(0x003010, 0x003010), (0x003040, 0x003040), (0x003050, 0x003050), (0x00306C, 0x00306C), (0x005040,
    0x005040), (0x010010, 0x010010), (0x010048, 0x010048), (0x011010, 0x011010), (0x011040, 0x011048), (0x012010, 0x012010), (0x012040,
    0x012048), (0x013010, 0x013010), (0x013040, 0x013040), (0x013048, 0x013058), (0x020010, 0x020010), (0x020048, 0x020048), (0x021010,
    0x021010), (0x021040, 0x021048), (0x022010, 0x022010), (0x022040, 0x022048), (0x023010, 0x023010), (0x023040, 0x023040), (0x023048,
    0x023058), (0x060010, 0x060010), (0x060044, 0x060044), (0x090010, 0x090010), (0x090058, 0x090064), (0x091010, 0x091010), (0x091050,
    0x091058), (0x093060, 0x093060), (0x0A0010, 0x0A0010), (0x0A0040, 0x0A0040), (0x0A005C, 0x0A0060), (0x0A2044, 0x0A2044), (0x100010,
    0x100010), (0x100064, 0x100064)], [], [.out, .evq, .lines, .ports, .beam, .fab, .tim, .wake, .twn]⟩

theorem State.takeHandover_moves (s : State) : Moves (Foot.takeHandover.at []) s (State.takeHandover s) := by
  unfold State.takeHandover
  refine Moves.ite (fun hc => ?_) (fun hc => ?_)
  · extract_lets -merge -underBinder +onlyGivenNames x1
    refine Moves.let_ x1 ?_ ?_
    · subst x1
      refine Moves.seq ?_ (State.modTwn_moves ..) (Foot.sub0 (by decide +kernel))
      exact Moves.refl _
    intro h1
    try clear_value x1
    refine Moves.ite (fun hc => ?_) (fun hc => ?_)
    · refine Moves.seq ?_ (State.switchOver_moves ..) (Foot.sub0 (by decide +kernel))
      exact h1
    · exact h1
  · exact Moves.refl _

def Foot.handoverBoundary : Foot :=
  ⟨[(0x003010, 0x003010), (0x003040, 0x003040), (0x003050, 0x003050), (0x00306C, 0x00306C),
    (0x005040, 0x005040), (0x010010, 0x010010), (0x010048, 0x010048), (0x011010, 0x011010), (0x011040, 0x011048), (0x012010, 0x012010),
    (0x012040, 0x012048), (0x013010, 0x013010), (0x013040, 0x013040), (0x013048, 0x013058), (0x020010, 0x020010), (0x020048, 0x020048),
    (0x021010, 0x021010), (0x021040, 0x021048), (0x022010, 0x022010), (0x022040, 0x022048), (0x023010, 0x023010), (0x023040, 0x023040),
    (0x023048, 0x023058), (0x060010, 0x060010), (0x060044, 0x060044), (0x090010, 0x090010), (0x090058, 0x090064), (0x091010, 0x091010),
    (0x091050, 0x091058), (0x093060, 0x093060), (0x0A0010, 0x0A0010), (0x0A0040, 0x0A0040), (0x0A004C, 0x0A004C), (0x0A005C, 0x0A0060),
    (0x0A2044, 0x0A2044), (0x100010, 0x100010), (0x100064, 0x100064)], [], [.out, .evq, .lines, .ports, .beam, .fab, .tim, .wake,
    .twn]⟩

theorem State.handoverBoundary_moves (s : State) : Moves (Foot.handoverBoundary.at []) s (State.handoverBoundary s) := by
  unfold State.handoverBoundary
  extract_lets -merge -underBinder +onlyGivenNames x1
  refine Moves.let_ x1 ?_ ?_
  · subst x1
    split
    · refine Moves.ite (fun hc => ?_) (fun hc => ?_)
      · extract_lets -merge -underBinder +onlyGivenNames x2
        refine Moves.let_ x2 ?_ ?_
        · subst x2
          refine Moves.seq ?_ (State.satInc_moves _ _ (by decide)) (Foot.sub1 (by decide +kernel) (Foot.holds_reg (by decide +kernel)))
          refine Moves.seq ?_ (State.put_moves _ _ _ (by decide)) (Foot.sub1 (by decide +kernel) (Foot.holds_reg (by decide +kernel)))
          exact Moves.refl _
        intro h2
        try clear_value x2
        refine Moves.seq ?_ (State.setRole_moves ..) (Foot.sub0 (by decide +kernel))
        exact h2
      · exact Moves.refl _
    · exact Moves.refl _
  intro h1
  try clear_value x1
  split
  · refine Moves.ite (fun hc => ?_) (fun hc => ?_)
    · exact h1
    · extract_lets -merge -underBinder +onlyGivenNames x3
      subst x3
      extract_lets -merge -underBinder +onlyGivenNames x4
      refine Moves.let_ x4 ?_ ?_
      · subst x4
        refine Moves.seq ?_ (State.modTwn_moves ..) (Foot.sub0 (by decide +kernel))
        exact h1
      intro h4
      try clear_value x4
      refine Moves.ite (fun hc => ?_) (fun hc => ?_)
      · refine Moves.seq ?_ (State.takeHandover_moves ..) (Foot.sub0 (by decide +kernel))
        exact h4
      · exact h4
  · exact h1

def Foot.heedAgain : Foot :=
  ⟨[(0x003010, 0x003010), (0x003040, 0x003040), (0x003050, 0x003050), (0x00306C, 0x00306C), (0x005040,
    0x005040), (0x010010, 0x010010), (0x010048, 0x010048), (0x011010, 0x011010), (0x011040, 0x011048), (0x012010, 0x012010), (0x012040,
    0x012048), (0x013010, 0x013010), (0x013040, 0x013040), (0x013048, 0x013058), (0x020010, 0x020010), (0x020048, 0x020048), (0x021010,
    0x021010), (0x021040, 0x021048), (0x022010, 0x022010), (0x022040, 0x022048), (0x023010, 0x023010), (0x023040, 0x023040), (0x023048,
    0x023058), (0x060010, 0x060010), (0x060044, 0x060044), (0x090010, 0x090010), (0x090058, 0x090064), (0x091010, 0x091010), (0x091050,
    0x091058), (0x093060, 0x093060), (0x0A0010, 0x0A0010), (0x0A0040, 0x0A0040), (0x0A0060, 0x0A0060), (0x0A2044, 0x0A2044), (0x100010,
    0x100010), (0x100064, 0x100064)], [], [.out, .evq, .lines, .ports, .beam, .fab, .tim, .wake, .twn]⟩

theorem State.heedAgain_moves (s : State) (was : Bool) (l : Lantern) : Moves (Foot.heedAgain.at []) s (State.heedAgain s was l) := by
  unfold State.heedAgain
  refine Moves.ite (fun hc => ?_) (fun hc => ?_)
  · refine Moves.seq ?_ (State.heedLantern_moves ..) (Foot.sub0 (by decide +kernel))
    exact Moves.refl _
  · refine Moves.ite (fun hc => ?_) (fun hc => ?_)
    · exact Moves.refl _
    · refine Moves.seq ?_ (State.roleRows_moves ..) (Foot.sub0 (by decide +kernel))
      exact Moves.refl _

def Foot.noTakeover : Foot := ⟨[(0x0A0010, 0x0A0010)], [], []⟩

theorem State.noTakeover_moves (s : State) : Moves (Foot.noTakeover.at []) s (State.noTakeover s) := by
  unfold State.noTakeover
  refine Moves.seq ?_ (State.raise_moves ..) (Foot.sub1 (by decide +kernel) (Foot.holds_reg (by decide +kernel)))
  exact Moves.refl _

def Foot.cancelHandover : Foot := ⟨[(0x0A004C, 0x0A004C)], [], [.twn]⟩

theorem State.cancelHandover_moves (s : State) : Moves (Foot.cancelHandover.at []) s (State.cancelHandover s) := by
  unfold State.cancelHandover
  refine Moves.ite (fun hc => ?_) (fun hc => ?_)
  · refine Moves.seq ?_ (State.put_moves _ _ _ (by decide)) (Foot.sub1 (by decide +kernel) (Foot.holds_reg (by decide +kernel)))
    refine Moves.seq ?_ (State.modTwn_moves ..) (Foot.sub0 (by decide +kernel))
    exact Moves.refl _
  · exact Moves.refl _

def Foot.ifElig : Foot := ⟨[(0x0A0010, 0x0A0010)], [], [.twn]⟩

theorem State.ifElig_moves {F : Foot} {r s : State}  {k : State → State}
    (h :
    Moves F r s) (hF : Foot.Sub (Foot.ifElig.at []) F) (k_ok : ∀ x , Moves F r x → Moves F r (k x)) : Moves F r (State.ifElig s k) :=
      by
  unfold State.ifElig
  refine Moves.ite (fun hc => ?_) (fun hc => ?_)
  · refine Moves.seq ?_ (State.noTakeover_moves ..) ((Foot.sub0 (by decide +kernel)).trans hF)
    exact h
  · refine Moves.ite (fun hc => ?_) (fun hc => ?_)
    · refine Moves.seq ?_ (State.modTwn_moves ..) ((Foot.sub0 (by decide +kernel)).trans hF)
      exact h
    · refine k_ok _  ?_
      exact h

def Foot.claimWon : Foot :=
  ⟨[(0x003010, 0x003010), (0x003040, 0x003040), (0x003050, 0x003050), (0x00306C, 0x00306C), (0x005040,
    0x005040), (0x010010, 0x010010), (0x010048, 0x010048), (0x011010, 0x011010), (0x011040, 0x011048), (0x012010, 0x012010), (0x012040,
    0x012048), (0x013010, 0x013010), (0x013040, 0x013040), (0x013048, 0x013058), (0x020010, 0x020010), (0x020048, 0x020048), (0x021010,
    0x021010), (0x021040, 0x021048), (0x022010, 0x022010), (0x022040, 0x022048), (0x023010, 0x023010), (0x023040, 0x023040), (0x023048,
    0x023058), (0x060010, 0x060010), (0x060044, 0x060044), (0x090010, 0x090010), (0x090058, 0x090064), (0x091010, 0x091010), (0x091050,
    0x091058), (0x093060, 0x093060), (0x0A0010, 0x0A0010), (0x0A0040, 0x0A0040), (0x0A005C, 0x0A0060), (0x0A2044, 0x0A2044), (0x100010,
    0x100010), (0x100064, 0x100064)], [], [.out, .evq, .lines, .ports, .beam, .fab, .tim, .wake, .twn]⟩

theorem State.claimWon_moves (s : State) (cause : Nat) : Moves (Foot.claimWon.at []) s (State.claimWon s cause) := by
  unfold State.claimWon
  extract_lets -merge -underBinder +onlyGivenNames x1
  refine Moves.let_ x1 ?_ ?_
  · subst x1
    refine Moves.seq ?_ (State.modTwn_moves ..) (Foot.sub0 (by decide +kernel))
    refine Moves.seq ?_ (State.driveClaim_moves ..) (Foot.sub0 (by decide +kernel))
    exact Moves.refl _
  intro h1
  try clear_value x1
  refine Moves.ite (fun hc => ?_) (fun hc => ?_)
  · refine Moves.seq ?_ (State.switchOver_moves ..) (Foot.sub0 (by decide +kernel))
    exact h1
  · refine Moves.ite (fun hc => ?_) (fun hc => ?_)
    · refine Moves.seq ?_ (State.setRole_moves ..) (Foot.sub0 (by decide +kernel))
      exact h1
    · exact h1

def Foot.deferClaim : Foot :=
  ⟨[(0x003010, 0x003010), (0x003040, 0x003040), (0x003050, 0x003050), (0x00306C, 0x00306C), (0x005040,
    0x005040), (0x010010, 0x010010), (0x010048, 0x010048), (0x011010, 0x011010), (0x011040, 0x011048), (0x012010, 0x012010), (0x012040,
    0x012048), (0x013010, 0x013010), (0x013040, 0x013040), (0x013048, 0x013058), (0x020010, 0x020010), (0x020048, 0x020048), (0x021010,
    0x021010), (0x021040, 0x021048), (0x022010, 0x022010), (0x022040, 0x022048), (0x023010, 0x023010), (0x023040, 0x023040), (0x023048,
    0x023058), (0x060010, 0x060010), (0x060044, 0x060044), (0x090010, 0x090010), (0x090058, 0x090064), (0x091010, 0x091010), (0x091050,
    0x091058), (0x093060, 0x093060), (0x0A0010, 0x0A0010), (0x0A0040, 0x0A0040), (0x0A005C, 0x0A0060), (0x0A2044, 0x0A2044), (0x100010,
    0x100010), (0x100064, 0x100064)], [], [.out, .evq, .lines, .ports, .beam, .fab, .tim, .wake, .twn]⟩

theorem State.deferClaim_moves (s : State) : Moves (Foot.deferClaim.at []) s (State.deferClaim s) := by
  unfold State.deferClaim
  extract_lets -merge -underBinder +onlyGivenNames x1
  refine Moves.let_ x1 ?_ ?_
  · subst x1
    refine Moves.seq ?_ (State.raise_moves ..) (Foot.sub1 (by decide +kernel) (Foot.holds_reg (by decide +kernel)))
    refine Moves.seq ?_ (State.satInc_moves _ _ (by decide)) (Foot.sub1 (by decide +kernel) (Foot.holds_reg (by decide +kernel)))
    exact Moves.refl _
  intro h1
  try clear_value x1
  refine Moves.seq ?_ (State.setRole_moves ..) (Foot.sub0 (by decide +kernel))
  refine Moves.seq ?_ (State.modTwn_moves ..) (Foot.sub0 (by decide +kernel))
  exact h1

def Foot.claimRule : Foot :=
  ⟨[(0x003010, 0x003010), (0x003040, 0x003040), (0x003050, 0x003050), (0x00306C, 0x00306C), (0x005040,
    0x005040), (0x010010, 0x010010), (0x010048, 0x010048), (0x011010, 0x011010), (0x011040, 0x011048), (0x012010, 0x012010), (0x012040,
    0x012048), (0x013010, 0x013010), (0x013040, 0x013040), (0x013048, 0x013058), (0x020010, 0x020010), (0x020048, 0x020048), (0x021010,
    0x021010), (0x021040, 0x021048), (0x022010, 0x022010), (0x022040, 0x022048), (0x023010, 0x023010), (0x023040, 0x023040), (0x023048,
    0x023058), (0x060010, 0x060010), (0x060044, 0x060044), (0x090010, 0x090010), (0x090058, 0x090064), (0x091010, 0x091010), (0x091050,
    0x091058), (0x093060, 0x093060), (0x0A0010, 0x0A0010), (0x0A0040, 0x0A0040), (0x0A005C, 0x0A0060), (0x0A2044, 0x0A2044), (0x100010,
    0x100010), (0x100064, 0x100064)], [], [.out, .evq, .lines, .ports, .beam, .fab, .tim, .wake, .twn]⟩

theorem State.claimRule_moves (s : State) (cause : Nat) (low : Bool) :
    Moves (Foot.claimRule.at []) s (State.claimRule s cause low) := by
  unfold State.claimRule
  refine State.ifElig_moves ?_ (Foot.sub0 (by decide +kernel)) (fun x1 h1 => ?_)
  · exact Moves.refl _
  · refine Moves.ite (fun hc => ?_) (fun hc => ?_)
    · refine Moves.seq ?_ (State.claimWon_moves ..) (Foot.sub0 (by decide +kernel))
      exact h1
    · refine Moves.ite (fun hc => ?_) (fun hc => ?_)
      · refine Moves.ite (fun hc => ?_) (fun hc => ?_)
        · refine Moves.seq ?_ (State.deferClaim_moves ..) (Foot.sub0 (by decide +kernel))
          exact h1
        · refine Moves.seq ?_ (State.claimWon_moves ..) (Foot.sub0 (by decide +kernel))
          exact h1
      · refine Moves.seq ?_ (State.modTwn_moves ..) (Foot.sub0 (by decide +kernel))
        exact h1

def Foot.partnerGone : Foot :=
  ⟨[(0x003010, 0x003010), (0x003040, 0x003040), (0x003050, 0x003050), (0x00306C, 0x00306C), (0x005040,
    0x005040), (0x010010, 0x010010), (0x010048, 0x010048), (0x011010, 0x011010), (0x011040, 0x011048), (0x012010, 0x012010), (0x012040,
    0x012048), (0x013010, 0x013010), (0x013040, 0x013040), (0x013048, 0x013058), (0x020010, 0x020010), (0x020048, 0x020048), (0x021010,
    0x021010), (0x021040, 0x021048), (0x022010, 0x022010), (0x022040, 0x022048), (0x023010, 0x023010), (0x023040, 0x023040), (0x023048,
    0x023058), (0x060010, 0x060010), (0x060044, 0x060044), (0x090010, 0x090010), (0x090058, 0x090064), (0x091010, 0x091010), (0x091050,
    0x091058), (0x093060, 0x093060), (0x0A0010, 0x0A0010), (0x0A0040, 0x0A0040), (0x0A004C, 0x0A004C), (0x0A005C, 0x0A0060), (0x0A2044,
    0x0A2044), (0x100010, 0x100010), (0x100064, 0x100064)], [], [.out, .evq, .lines, .ports, .beam, .fab, .tim, .wake, .twn, .hlt]⟩

theorem State.partnerGone_moves (s : State) (cause : Nat) (low : Bool) :
    Moves (Foot.partnerGone.at []) s (State.partnerGone s cause low) := by
  unfold State.partnerGone
  extract_lets -merge -underBinder +onlyGivenNames x1
  refine Moves.let_ x1 ?_ ?_
  · subst x1
    refine Moves.seq ?_ (State.cancelHandover_moves ..) (Foot.sub0 (by decide +kernel))
    refine Moves.seq ?_ (State.modTwn_moves ..) (Foot.sub0 (by decide +kernel))
    exact Moves.refl _
  intro h1
  try clear_value x1
  refine Moves.ite (fun hc => ?_) (fun hc => ?_)
  · extract_lets -merge -underBinder +onlyGivenNames x2
    refine Moves.let_ x2 ?_ ?_
    · subst x2
      refine Moves.seq ?_ (State.raise_moves ..) (Foot.sub1 (by decide +kernel) (Foot.holds_reg (by decide +kernel)))
      exact h1
    intro h2
    try clear_value x2
    refine Moves.ite (fun hc => ?_) (fun hc => ?_)
    · refine Moves.seq ?_ (Moves.upd_hlt _ _) (Foot.sub0 (by decide +kernel))
      exact h2
    · exact h2
  · refine Moves.seq ?_ (State.claimRule_moves ..) (Foot.sub0 (by decide +kernel))
    exact h1

def Foot.partnerFailed : Foot :=
  ⟨[(0x003010, 0x003010), (0x003040, 0x003040), (0x003050, 0x003050), (0x00306C, 0x00306C), (0x005040,
    0x005040), (0x010010, 0x010010), (0x010048, 0x010048), (0x011010, 0x011010), (0x011040, 0x011048), (0x012010, 0x012010), (0x012040,
    0x012048), (0x013010, 0x013010), (0x013040, 0x013040), (0x013048, 0x013058), (0x020010, 0x020010), (0x020048, 0x020048), (0x021010,
    0x021010), (0x021040, 0x021048), (0x022010, 0x022010), (0x022040, 0x022048), (0x023010, 0x023010), (0x023040, 0x023040), (0x023048,
    0x023058), (0x060010, 0x060010), (0x060044, 0x060044), (0x090010, 0x090010), (0x090058, 0x090064), (0x091010, 0x091010), (0x091050,
    0x091058), (0x093060, 0x093060), (0x0A0010, 0x0A0010), (0x0A0040, 0x0A0040), (0x0A004C, 0x0A004C), (0x0A005C, 0x0A0060), (0x0A2044,
    0x0A2044), (0x100010, 0x100010), (0x100064, 0x100064)], [], [.out, .evq, .lines, .ports, .beam, .fab, .tim, .wake, .twn, .hlt]⟩

theorem State.partnerFailed_moves (s : State) (cause : Nat) (low : Bool) :
    Moves (Foot.partnerFailed.at []) s (State.partnerFailed s cause low) := by
  unfold State.partnerFailed
  refine Moves.ite (fun hc => ?_) (fun hc => ?_)
  · refine Moves.seq ?_ (State.partnerGone_moves ..) (Foot.sub0 (by decide +kernel))
    exact Moves.refl _
  · refine Moves.ite (fun hc => ?_) (fun hc => ?_)
    · exact Moves.refl _
    · refine Moves.seq ?_ (State.modTwn_moves ..) (Foot.sub0 (by decide +kernel))
      exact Moves.refl _

def Foot.judge : Foot :=
  ⟨[(0x003010, 0x003010), (0x003040, 0x003040), (0x003050, 0x003050), (0x00306C, 0x00306C), (0x005040,
    0x005040), (0x010010, 0x010010), (0x010048, 0x010048), (0x011010, 0x011010), (0x011040, 0x011048), (0x012010, 0x012010), (0x012040,
    0x012048), (0x013010, 0x013010), (0x013040, 0x013040), (0x013048, 0x013058), (0x020010, 0x020010), (0x020048, 0x020048), (0x021010,
    0x021010), (0x021040, 0x021048), (0x022010, 0x022010), (0x022040, 0x022048), (0x023010, 0x023010), (0x023040, 0x023040), (0x023048,
    0x023058), (0x060010, 0x060010), (0x060044, 0x060044), (0x090010, 0x090010), (0x090058, 0x090064), (0x091010, 0x091010), (0x091050,
    0x091058), (0x093060, 0x093060), (0x0A0010, 0x0A0010), (0x0A0040, 0x0A0040), (0x0A004C, 0x0A004C), (0x0A005C, 0x0A0060), (0x0A2044,
    0x0A2044), (0x100010, 0x100010), (0x100064, 0x100064)], [], [.out, .evq, .lines, .ports, .beam, .fab, .tim, .wake, .twn, .hlt]⟩

theorem State.judge_moves (s : State) (low : Bool) : Moves (Foot.judge.at []) s (State.judge s low) := by
  unfold State.judge
  refine Moves.ite (fun hc => ?_) (fun hc => ?_)
  · exact Moves.refl _
  · refine Moves.ite (fun hc => ?_) (fun hc => ?_)
    · refine Moves.ite (fun hc => ?_) (fun hc => ?_)
      · exact Moves.refl _
      · refine Moves.seq ?_ (State.noTakeover_moves ..) (Foot.sub0 (by decide +kernel))
        refine Moves.seq ?_ (State.modTwn_moves ..) (Foot.sub0 (by decide +kernel))
        exact Moves.refl _
    · refine Moves.ite (fun hc => ?_) (fun hc => ?_)
      · exact Moves.refl _
      · refine Moves.seq ?_ (State.partnerFailed_moves ..) (Foot.sub0 (by decide +kernel))
        exact Moves.refl _

def Foot.twnBoundary : Foot :=
  ⟨[(0x003010, 0x003010), (0x003040, 0x003040), (0x003050, 0x003050), (0x00306C, 0x00306C), (0x005040,
    0x005040), (0x010010, 0x010010), (0x010048, 0x010048), (0x011010, 0x011010), (0x011040, 0x011048), (0x012010, 0x012010), (0x012040,
    0x012048), (0x013010, 0x013010), (0x013040, 0x013040), (0x013048, 0x013058), (0x020010, 0x020010), (0x020048, 0x020048), (0x021010,
    0x021010), (0x021040, 0x021048), (0x022010, 0x022010), (0x022040, 0x022048), (0x023010, 0x023010), (0x023040, 0x023040), (0x023048,
    0x023058), (0x060010, 0x060010), (0x060044, 0x060044), (0x090010, 0x090010), (0x090058, 0x090064), (0x091010, 0x091010), (0x091050,
    0x091058), (0x093060, 0x093060), (0x0A0010, 0x0A0010), (0x0A0040, 0x0A0040), (0x0A004C, 0x0A004C), (0x0A005C, 0x0A0060), (0x0A1010,
    0x0A1010), (0x0A1044, 0x0A104C), (0x0A2044, 0x0A2044), (0x100010, 0x100010), (0x100064, 0x100064)], [], [.out, .evq, .lines,
    .ports, .beam, .fab, .tim, .wake, .twn, .hlt]⟩

theorem State.twnBoundary_moves (s : State) (low : Bool) : Moves (Foot.twnBoundary.at []) s (State.twnBoundary s low) := by
  unfold State.twnBoundary
  refine Moves.ite (fun hc => ?_) (fun hc => ?_)
  · exact Moves.refl _
  · extract_lets -merge -underBinder +onlyGivenNames x1
    subst x1
    extract_lets -merge -underBinder +onlyGivenNames x2
    refine Moves.let_ x2 ?_ ?_
    · subst x2
      refine Moves.seq ?_ (State.putB_moves _ _ _ (by decide)) (Foot.sub1 (by decide +kernel) (Foot.holds_reg (by decide +kernel)))
      refine Moves.seq ?_ (State.sendBase_moves ..) (Foot.sub0 (by decide +kernel))
      refine Moves.seq ?_ (State.closeEpoch_moves ..) (Foot.sub0 (by decide +kernel))
      exact Moves.refl _
    intro h2
    try clear_value x2
    extract_lets -merge -underBinder +onlyGivenNames x3
    refine Moves.let_ x3 ?_ ?_
    · subst x3
      refine Moves.seq ?_ (State.putB_moves _ _ _ (by decide)) (Foot.sub1 (by decide +kernel) (Foot.holds_reg (by decide +kernel)))
      refine Moves.seq ?_ (State.putB_moves _ _ _ (by decide)) (Foot.sub1 (by decide +kernel) (Foot.holds_reg (by decide +kernel)))
      exact h2
    intro h3
    try clear_value x3
    extract_lets -merge -underBinder +onlyGivenNames x4
    refine Moves.let_ x4 ?_ ?_
    · subst x4
      refine Moves.seq ?_ (State.twnView_moves ..) (Foot.sub0 (by decide +kernel))
      refine Moves.seq ?_ (State.modTwn_moves ..) (Foot.sub0 (by decide +kernel))
      exact h3
    intro h4
    try clear_value x4
    extract_lets -merge -underBinder +onlyGivenNames x5
    refine Moves.let_ x5 ?_ ?_
    · subst x5
      refine Moves.ite (fun hc => ?_) (fun hc => ?_)
      · refine Moves.ite (fun hc => ?_) (fun hc => ?_)
        · refine Moves.seq ?_ (State.dropSync_moves ..) (Foot.sub0 (by decide +kernel))
          exact h4
        · refine Moves.seq ?_ (State.modTwn_moves ..) (Foot.sub0 (by decide +kernel))
          exact h4
      · exact h4
    intro h5
    try clear_value x5
    extract_lets -merge -underBinder +onlyGivenNames x6
    refine Moves.let_ x6 ?_ ?_
    · subst x6
      refine Moves.seq ?_ (State.healthRow_moves ..) (Foot.sub0 (by decide +kernel))
      refine Moves.seq ?_ (State.orphaned_moves ..) (Foot.sub0 (by decide +kernel))
      refine Moves.seq ?_ (State.handoverBoundary_moves ..) (Foot.sub0 (by decide +kernel))
      exact h5
    intro h6
    try clear_value x6
    split
    · refine Moves.ite (fun hc => ?_) (fun hc => ?_)
      · refine Moves.seq ?_ (State.heedAgain_moves ..) (Foot.sub0 (by decide +kernel))
        exact h6
      · refine Moves.seq ?_ (State.judge_moves ..) (Foot.sub0 (by decide +kernel))
        exact h6
    · refine Moves.seq ?_ (State.judge_moves ..) (Foot.sub0 (by decide +kernel))
      exact h6

def Foot.flipAtBoundary : Foot :=
  ⟨[(0x060010, 0x060010), (0x060044, 0x060044), (0x060054, 0x060054), (0x060064, 0x060068)], [],
    [.mem, .evq, .sgw]⟩

theorem State.flipAtBoundary_moves (s : State) : Moves (Foot.flipAtBoundary.at []) s (State.flipAtBoundary s) := by
  unfold State.flipAtBoundary
  refine Moves.ite (fun hc => ?_) (fun hc => ?_)
  · exact Moves.refl _
  · refine Moves.ite (fun hc => ?_) (fun hc => ?_)
    · exact Moves.refl _
    · refine Moves.ite (fun hc => ?_) (fun hc => ?_)
      · refine Moves.seq ?_ (State.satInc_moves _ _ (by decide)) (Foot.sub1 (by decide +kernel) (Foot.holds_reg (by decide +kernel)))
        exact Moves.refl _
      · refine Moves.seq ?_ (State.bankFlip_moves ..) (Foot.sub0 (by decide +kernel))
        exact Moves.refl _

def Foot.sgwBoundary : Foot :=
  ⟨[(0x060010, 0x060010), (0x060044, 0x060044), (0x060054, 0x060054), (0x060064, 0x060068)], [], [.mem,
    .evq, .sgw]⟩

theorem State.sgwBoundary_moves (s : State) : Moves (Foot.sgwBoundary.at []) s (State.sgwBoundary s) := by
  unfold State.sgwBoundary
  refine Moves.ite (fun hc => ?_) (fun hc => ?_)
  · exact Moves.refl _
  · extract_lets -merge -underBinder +onlyGivenNames x1
    refine Moves.let_ x1 ?_ ?_
    · subst x1
      refine Moves.seq ?_ (State.flipAtBoundary_moves ..) (Foot.sub0 (by decide +kernel))
      exact Moves.refl _
    intro h1
    try clear_value x1
    refine Moves.seq ?_ (State.modSgw_moves ..) (Foot.sub0 (by decide +kernel))
    exact h1

def Foot.toBeamList : Foot := ⟨[(0x032010, 0x032010), (0x03206C, 0x03206C)], [], [.mem, .fab]⟩

theorem State.toBeamList_moves (s : State) (x : BPort) (i : Nat) (f : NFrame) :
    Moves (Foot.toBeamList.at []) s (State.toBeamList s x i f) := by
  unfold State.toBeamList
  extract_lets -merge -underBinder +onlyGivenNames x1
  subst x1
  extract_lets -merge -underBinder +onlyGivenNames x2
  subst x2
  split
  · refine Moves.ite (fun hc => ?_) (fun hc => ?_)
    · refine Moves.seq ?_ (State.noBuf_moves ..) (Foot.sub0 (by decide +kernel))
      exact Moves.refl _
    · extract_lets -merge -underBinder +onlyGivenNames x3
      refine Moves.let_ x3 ?_ ?_
      · subst x3
        refine Moves.seq ?_ (State.takeCells_moves ..) (Foot.sub1 (by decide +kernel) (Foot.holds_reg (by decide +kernel)))
        refine Moves.seq ?_ (State.giveCells_moves ..) (Foot.sub1 (by decide +kernel) (Foot.holds_reg (by decide +kernel)))
        exact Moves.refl _
      intro h3
      try clear_value x3
      extract_lets -merge -underBinder +onlyGivenNames x4
      subst x4
      refine Moves.seq ?_ (State.satMem_moves ..) (Foot.sub0 (by decide +kernel))
      refine Moves.seq ?_ (Moves.upd_fab _ _) (Foot.sub0 (by decide +kernel))
      exact h3
  · refine Moves.ite (fun hc => ?_) (fun hc => ?_)
    · refine Moves.seq ?_ (State.noBuf_moves ..) (Foot.sub0 (by decide +kernel))
      exact Moves.refl _
    · extract_lets -merge -underBinder +onlyGivenNames x5
      refine Moves.let_ x5 ?_ ?_
      · subst x5
        refine Moves.seq ?_ (State.takeCells_moves ..) (Foot.sub1 (by decide +kernel) (Foot.holds_reg (by decide +kernel)))
        exact Moves.refl _
      intro h5
      try clear_value x5
      refine Moves.seq ?_ (Moves.upd_fab _ _) (Foot.sub0 (by decide +kernel))
      exact h5

def Foot.toQueue : Foot := ⟨[(0x032010, 0x032010), (0x032060, 0x03206C)], [], [.mem, .fab]⟩

theorem State.toQueue_moves (s : State) (port : Nat) (q : Nat) (i : Nat) (f : NFrame) (l : Line) :
    Moves (Foot.toQueue.at []) s (State.toQueue s port q i f l) := by
  unfold State.toQueue
  extract_lets -merge -underBinder +onlyGivenNames x1
  subst x1
  split
  · refine Moves.ite (fun hc => ?_) (fun hc => ?_)
    · refine Moves.seq ?_ (State.noBuf_moves ..) (Foot.sub0 (by decide +kernel))
      exact Moves.refl _
    · refine Moves.ite (fun hc => ?_) (fun hc => ?_)
      · refine Moves.seq ?_ (State.qFull_moves ..) (Foot.sub0 (by decide +kernel))
        exact Moves.refl _
      · refine Moves.seq ?_ (State.satMem_moves ..) (Foot.sub0 (by decide +kernel))
        refine Moves.seq ?_ (State.setQueue_moves ..) (Foot.sub0 (by decide +kernel))
        refine Moves.seq ?_ (State.takeCells_moves ..) (Foot.sub1 (by decide +kernel) (Foot.holds_reg (by decide +kernel)))
        refine Moves.seq ?_ (State.giveCells_moves ..) (Foot.sub1 (by decide +kernel) (Foot.holds_reg (by decide +kernel)))
        exact Moves.refl _
  · refine Moves.seq ?_ (State.enqueue_moves ..) (Foot.sub1 (by decide +kernel) (Foot.holds_four 204908 204904 204900 204896 (by decide +kernel) (by decide +kernel) (by decide +kernel) (by decide +kernel) (by first | omega | (dsimp only; omega))))
    exact Moves.refl _

def Foot.publish : Foot :=
  ⟨[(0x032010, 0x032010), (0x032060, 0x03206C), (0x040074, 0x040074), (0x050074, 0x050074)], [], [.mem,
    .out, .fab]⟩

theorem State.publish_moves (s : State) (i : Nat) (payload : List Byte) :
    Moves (Foot.publish.at []) s (State.publish s i payload) := by
  unfold State.publish
  extract_lets -merge -underBinder +onlyGivenNames x1
  subst x1
  refine Moves.ite (fun hc => ?_) (fun hc => ?_)
  · exact Moves.refl _
  · refine Moves.ite (fun hc => ?_) (fun hc => ?_)
    · refine Moves.seq ?_ (State.satMem_moves ..) (Foot.sub0 (by decide +kernel))
      exact Moves.refl _
    · extract_lets -merge -underBinder +onlyGivenNames x2
      subst x2
      extract_lets -merge -underBinder +onlyGivenNames x3
      refine Moves.let_ x3 ?_ ?_
      · subst x3
        refine Moves.seq ?_ (State.wrapMem_moves ..) (Foot.sub0 (by decide +kernel))
        exact Moves.refl _
      intro h3
      try clear_value x3
      extract_lets -merge -underBinder +onlyGivenNames x4
      subst x4
      extract_lets -merge -underBinder +onlyGivenNames x5
      refine Moves.let_ x5 ?_ ?_
      · subst x5
        refine Moves.ite (fun hc => ?_) (fun hc => ?_)
        · exact h3
        · simp -zeta only [List.foldl_cons, List.foldl_nil]
          refine Moves.foldl _ (fun x6 _ h6 => ?_) _ ?_
          · refine Moves.ite (fun hc => ?_) (fun hc => ?_)
            · exact h6
            · refine Moves.ite (fun hc => ?_) (fun hc => ?_)
              · refine Moves.seq ?_ (State.toBeamList_moves ..) (Foot.sub0 (by decide +kernel))
                exact h6
              · refine Moves.seq ?_ (State.toQueue_moves ..) (Foot.sub0 (by decide +kernel))
                exact h6
          · refine Moves.foldl _ (fun x7 _ h7 => ?_) _ ?_
            · refine Moves.ite (fun hc => ?_) (fun hc => ?_)
              · exact h7
              · refine Moves.ite (fun hc => ?_) (fun hc => ?_)
                · refine Moves.seq ?_ (State.toBeamList_moves ..) (Foot.sub0 (by decide +kernel))
                  exact h7
                · refine Moves.seq ?_ (State.toQueue_moves ..) (Foot.sub0 (by decide +kernel))
                  exact h7
            · exact h3
      intro h5
      try clear_value x5
      refine Moves.seq ?_ (State.pdTransmit_moves ..) (Foot.sub0 (by decide +kernel))
      exact h5

def Foot.extraPublications : Foot :=
  ⟨[(0x032010, 0x032010), (0x032060, 0x03206C), (0x040074, 0x040074), (0x050074, 0x050074)], [],
    [.mem, .out, .fab]⟩

theorem State.extraPublications_moves (s : State) (ctxs : List Nat) :
    Moves (Foot.extraPublications.at []) s (State.extraPublications s ctxs) := by
  unfold State.extraPublications
  refine Moves.foldl _ (fun x1 _ h1 => ?_) _ ?_
  · split
    · refine Moves.seq ?_ (State.publish_moves ..) (Foot.sub0 (by decide +kernel))
      exact h1
    · exact h1
  · exact Moves.refl _

def Foot.publications : Foot :=
  ⟨[(0x032010, 0x032010), (0x032060, 0x03206C), (0x040074, 0x040074), (0x050074, 0x050074)], [], [.mem,
    .out, .fab]⟩

theorem State.publications_moves (s : State) : Moves (Foot.publications.at []) s (State.publications s) := by
  unfold State.publications
  refine Moves.foldl _ (fun x1 _ h1 => ?_) _ ?_
  · extract_lets -merge -underBinder +onlyGivenNames x2
    subst x2
    refine Moves.ite (fun hc => ?_) (fun hc => ?_)
    · split
      · refine Moves.seq ?_ (State.publish_moves ..) (Foot.sub0 (by decide +kernel))
        exact h1
      · exact h1
    · exact h1
  · exact Moves.refl _

def Foot.boundaryWork : Foot :=
  ⟨[(0x003010, 0x003010), (0x003040, 0x003040), (0x003050, 0x003050), (0x00306C, 0x00306C), (0x005040,
    0x005040), (0x010010, 0x010010), (0x010048, 0x010048), (0x011010, 0x011010), (0x011040, 0x011048), (0x012010, 0x012010), (0x012040,
    0x012048), (0x013010, 0x013010), (0x013040, 0x013040), (0x013048, 0x013058), (0x020010, 0x020010), (0x020048, 0x020048), (0x021010,
    0x021010), (0x021040, 0x021048), (0x022010, 0x022010), (0x022040, 0x022048), (0x023010, 0x023010), (0x023040, 0x023040), (0x023048,
    0x023058), (0x032010, 0x032010), (0x032060, 0x03206C), (0x040074, 0x040074), (0x050074, 0x050074), (0x060010, 0x060010), (0x060044,
    0x060044), (0x060054, 0x060054), (0x060064, 0x060068), (0x090010, 0x090010), (0x090058, 0x090064), (0x091010, 0x091010), (0x091050,
    0x091058), (0x093060, 0x093060), (0x0A0010, 0x0A0010), (0x0A0040, 0x0A0040), (0x0A004C, 0x0A004C), (0x0A005C, 0x0A0060), (0x0A1010,
    0x0A1010), (0x0A1044, 0x0A104C), (0x0A2044, 0x0A2044), (0x100010, 0x100010), (0x100064, 0x100064)], [], [.mem, .out, .evq, .lines,
    .ports, .beam, .fab, .tim, .wake, .twn, .hlt, .sgw]⟩

theorem State.boundaryWork_moves (s : State) (claimLow : Bool) :
    Moves (Foot.boundaryWork.at []) s (State.boundaryWork s claimLow) := by
  unfold State.boundaryWork
  extract_lets -merge -underBinder +onlyGivenNames x1
  subst x1
  extract_lets -merge -underBinder +onlyGivenNames x2
  refine Moves.let_ x2 ?_ ?_
  · subst x2
    refine Moves.seq ?_ (State.modTwn_moves ..) (Foot.sub0 (by decide +kernel))
    refine Moves.seq ?_ (State.wofsBoundary_moves ..) (Foot.sub0 (by decide +kernel))
    exact Moves.refl _
  intro h2
  try clear_value x2
  extract_lets -merge -underBinder +onlyGivenNames x3
  refine Moves.let_ x3 ?_ ?_
  · subst x3
    refine Moves.seq ?_ (State.twnBoundary_moves ..) (Foot.sub0 (by decide +kernel))
    exact h2
  intro h3
  try clear_value x3
  extract_lets -merge -underBinder +onlyGivenNames x4
  refine Moves.let_ x4 ?_ ?_
  · subst x4
    refine Moves.seq ?_ (State.sgwBoundary_moves ..) (Foot.sub0 (by decide +kernel))
    exact h3
  intro h4
  try clear_value x4
  refine Moves.ite (fun hc => ?_) (fun hc => ?_)
  · refine Moves.seq ?_ (State.extraPublications_moves ..) (Foot.sub0 (by decide +kernel))
    refine Moves.seq ?_ (State.publications_moves ..) (Foot.sub0 (by decide +kernel))
    exact h4
  · exact h4

def Foot.brecRx : Foot := ⟨[(0x0A1040, 0x0A1040), (0x0A1050, 0x0A1050)], [], [.mem, .out, .fab, .twn]⟩

theorem State.brecRx_moves (s : State) (n : Nat) (payload : List Byte) : Moves (Foot.brecRx.at []) s (State.brecRx s n payload) := by
  unfold State.brecRx
  refine Moves.ite (fun hc => ?_) (fun hc => ?_)
  · exact Moves.refl _
  · extract_lets -merge -underBinder +onlyGivenNames x1
    subst x1
    extract_lets -merge -underBinder +onlyGivenNames x2
    refine Moves.let_ x2 ?_ ?_
    · subst x2
      refine Moves.seq ?_ (State.modTwn_moves ..) (Foot.sub0 (by decide +kernel))
      exact Moves.refl _
    intro h2
    try clear_value x2
    extract_lets -merge -underBinder +onlyGivenNames x3
    refine Moves.let_ x3 ?_ ?_
    · subst x3
      refine Moves.seq ?_ (State.putB_moves _ _ _ (by decide)) (Foot.sub1 (by decide +kernel) (Foot.holds_reg (by decide +kernel)))
      exact h2
    intro h3
    try clear_value x3
    refine Moves.foldl _ (fun x4 _ h4 => ?_) _ ?_
    · refine Moves.ite (fun hc => ?_) (fun hc => ?_)
      · refine Moves.seq ?_ (State.applyRec_moves ..) (Foot.sub0 (by decide +kernel))
        exact h4
      · exact h4
    · exact h3

def Foot.bypMismatch : Foot :=
  ⟨[(0x000054, 0x000054), (0x005010, 0x005010), (0x005040, 0x005040), (0x011010, 0x011010), (0x011040,
    0x011048), (0x012010, 0x012010), (0x012040, 0x012048), (0x013058, 0x013058), (0x021010, 0x021010), (0x021040, 0x021048), (0x022010,
    0x022010), (0x022040, 0x022048), (0x023058, 0x023058), (0x0F0010, 0x0F0010), (0x0F0040, 0x0F0040), (0x0F0080, 0x0F0080), (0x100010,
    0x100010), (0x100064, 0x100064)], [], [.evq, .lines, .ports, .beam, .hlt]⟩

theorem State.bypMismatch_moves (s : State) (l : Line) :
    Moves (Foot.bypMismatch.at [(65608 + 65536 * (l.idx % 2), 65608 + 65536 * (l.idx % 2))]) s (State.bypMismatch s l) := by
  unfold State.bypMismatch
  extract_lets -merge -underBinder +onlyGivenNames x1
  refine Moves.let_ x1 ?_ ?_
  · subst x1
    refine Moves.seq ?_ (State.raise_moves ..) (Foot.sub1 (by decide +kernel) (Foot.holds_reg (by decide +kernel)))
    refine Moves.seq ?_ (State.putB_moves _ _ _ (by show 20544 % 4096 ≠ 16; decide)) (Foot.sub1 (by decide +kernel) (Foot.holds_reg (lo := 20544) (hi := 20544) (by decide +kernel)))
    exact Moves.refl _
  intro h1
  try clear_value x1
  extract_lets -merge -underBinder +onlyGivenNames x2
  refine Moves.let_ x2 ?_ ?_
  · subst x2
    refine Moves.seq ?_ (State.post_moves ..) (Foot.sub0 (by decide +kernel))
    exact h1
  intro h2
  try clear_value x2
  extract_lets -merge -underBinder +onlyGivenNames x3
  refine Moves.let_ x3 ?_ ?_
  · subst x3
    refine Moves.seq ?_ (State.hltReason_moves ..) (Foot.sub1 (by decide +kernel) (Foot.holds_reg (by decide +kernel)))
    exact h2
  intro h3
  try clear_value x3
  extract_lets -merge -underBinder +onlyGivenNames x4
  subst x4
  extract_lets -merge -underBinder +onlyGivenNames x5
  refine Moves.let_ x5 ?_ ?_
  · subst x5
    refine Moves.seq ?_ (State.setLine_moves ..) (Foot.sub0 (by decide +kernel))
    refine Moves.seq ?_ (State.putB_moves _ _ _ (by show 20544 % 4096 ≠ 16; decide)) (Foot.sub1 (by decide +kernel) (Foot.holds_reg (lo := 20544) (hi := 20544) (by decide +kernel)))
    exact h3
  intro h5
  try clear_value x5
  extract_lets -merge -underBinder +onlyGivenNames x6
  refine Moves.let_ x6 ?_ ?_
  · subst x6
    refine Moves.ite (fun hc => ?_) (fun hc => ?_)
    · refine Moves.seq ?_ (State.post_moves ..) (Foot.sub0 (by decide +kernel))
      exact h5
    · exact h5
  intro h6
  try clear_value x6
  refine Moves.ite (fun hc => ?_) (fun hc => ?_)
  · exact h6
  · refine Moves.seq ?_ (State.runClosing_moves ..) (Foot.sub1 (by decide +kernel) (Foot.holds_same (.head _)))
    exact h6

def Foot.bypWdog : Foot :=
  ⟨[(0x000054, 0x000054), (0x005010, 0x005010), (0x005040, 0x005044), (0x011010, 0x011010), (0x011040,
    0x011048), (0x012010, 0x012010), (0x012040, 0x012048), (0x013058, 0x013058), (0x021010, 0x021010), (0x021040, 0x021048), (0x022010,
    0x022010), (0x022040, 0x022048), (0x023058, 0x023058), (0x0F0010, 0x0F0010), (0x0F0040, 0x0F0040), (0x0F0080, 0x0F0080), (0x100010,
    0x100010), (0x100064, 0x100064)], [], [.evq, .lines, .ports, .beam, .hlt, .pwr]⟩

theorem State.bypWdog_moves (s : State) (l : Line) :
    Moves (Foot.bypWdog.at [(65608 + 65536 * (l.idx % 2), 65608 + 65536 * (l.idx % 2))]) s (State.bypWdog s l) := by
  unfold State.bypWdog
  refine Moves.ite (fun hc => ?_) (fun hc => ?_)
  · exact Moves.refl _
  · extract_lets -merge -underBinder +onlyGivenNames x1
    refine Moves.let_ x1 ?_ ?_
    · subst x1
      refine Moves.seq ?_ (State.post_moves ..) (Foot.sub0 (by decide +kernel))
      refine Moves.seq ?_ (State.raise_moves ..) (Foot.sub1 (by decide +kernel) (Foot.holds_reg (by decide +kernel)))
      refine Moves.seq ?_ (State.satInc_moves _ _ (by show 20548 % 4096 ≠ 16; decide)) (Foot.sub1 (by decide +kernel) (Foot.holds_reg (lo := 20548) (hi := 20548) (by decide +kernel)))
      exact Moves.refl _
    intro h1
    try clear_value x1
    extract_lets -merge -underBinder +onlyGivenNames x2
    subst x2
    extract_lets -merge -underBinder +onlyGivenNames x3
    refine Moves.let_ x3 ?_ ?_
    · subst x3
      refine Moves.seq ?_ (State.hltReason_moves ..) (Foot.sub1 (by decide +kernel) (Foot.holds_reg (by decide +kernel)))
      refine Moves.seq ?_ (Moves.upd_pwr _ _) (Foot.sub0 (by decide +kernel))
      exact h1
    intro h3
    try clear_value x3
    refine Moves.seq ?_ (State.runClosing_moves ..) (Foot.sub1 (by decide +kernel) (Foot.holds_same (.head _)))
    exact h3

def Foot.bypassClose : Foot :=
  ⟨[(0x005040, 0x005040), (0x011010, 0x011010), (0x011040, 0x011048), (0x012010, 0x012010), (0x012040,
    0x012048), (0x013058, 0x013058), (0x021010, 0x021010), (0x021040, 0x021048), (0x022010, 0x022010), (0x022040, 0x022048), (0x023058,
    0x023058), (0x100010, 0x100010), (0x100064, 0x100064)], [], [.evq, .lines, .ports, .beam]⟩

theorem State.bypassClose_moves (s : State) (l : Line) :
    Moves (Foot.bypassClose.at [(65608 + 65536 * (l.idx % 2), 65608 + 65536 * (l.idx % 2))]) s (State.bypassClose s l) := by
  unfold State.bypassClose
  split
  · refine Moves.seq ?_ (State.runClosing_moves ..) (Foot.sub1 (by decide +kernel) (Foot.holds_same (.head _)))
    exact Moves.refl _
  · refine Moves.seq ?_ (State.setLine_moves ..) (Foot.sub0 (by decide +kernel))
    exact Moves.refl _
  · exact Moves.refl _

def Foot.canAfter : Foot := ⟨[], [], [.mem, .cans]⟩

theorem State.canAfter_moves (s : State) (n : Nat) (k : Nat) :
    Moves (Foot.canAfter.at [(463108 + 65536 * (n % 16 / 8) + 4096 * (n % 8) + 16 * (k % 16), 463108 + 65536 * (n % 16 / 8) + 4096 *
      (n % 8) + 16 * (k % 16)),
      (463112 + 65536 * (n % 16 / 8) + 4096 * (n % 8) + 16 * (k % 16), 463112 + 65536 * (n % 16 / 8) + 4096 * (n % 8) + 16 * (k %
      16)),
      (4096 * ((462848 + 65536 * (n % 16 / 8) + 4096 * (n % 8)) / 4096) + 16, 4096 * ((462848 + 65536 * (n % 16 / 8) + 4096 * (n % 8))
      / 4096) + 16)]) s (State.canAfter s n k) := by
  unfold State.canAfter
  extract_lets -merge -underBinder +onlyGivenNames x1
  refine Moves.let_ x1 ?_ ?_
  · subst x1
    split
    · extract_lets -merge -underBinder +onlyGivenNames x2
      refine Moves.let_ x2 ?_ ?_
      · subst x2
        refine Moves.seq ?_ (State.modCan_moves ..) (Foot.sub0 (by decide +kernel))
        exact Moves.refl _
      intro h2
      try clear_value x2
      refine Moves.seq ?_ (State.canFlush_moves ..) (Foot.sub_at (by decide +kernel) (Foot.own_cons (Foot.holds_same (.head _)) (Foot.own_cons (Foot.holds_same (.tail _ (.head _))) (Foot.own_cons (Foot.holds_same (.tail _ (.tail _ (.head _)))) Foot.own_nil))))
      exact h2
    · exact Moves.refl _
  intro h1
  try clear_value x1
  refine Moves.ite (fun hc => ?_) (fun hc => ?_)
  · refine Moves.seq ?_ (State.qWithdraw_moves ..) (Foot.sub1 (by decide +kernel) (Foot.holds_same (.head _)))
    exact h1
  · exact h1

def Foot.inputData : Foot := ⟨[(0x06006C, 0x06006C)], [], [.mem, .sgw]⟩

theorem State.inputData_moves (s : State) (i : Nat) (data : List Byte) (rxf : Nat) :
    Moves (Foot.inputData.at []) s (State.inputData s i data rxf) := by
  unfold State.inputData
  extract_lets -merge -underBinder +onlyGivenNames x1
  subst x1
  extract_lets -merge -underBinder +onlyGivenNames x2
  subst x2
  extract_lets -merge -underBinder +onlyGivenNames x3
  subst x3
  extract_lets -merge -underBinder +onlyGivenNames x4
  subst x4
  extract_lets -merge -underBinder +onlyGivenNames x5
  refine Moves.let_ x5 ?_ ?_
  · subst x5
    refine Moves.ite (fun hc => ?_) (fun hc => ?_)
    · refine Moves.seq ?_ (State.satInc_moves _ _ (by decide)) (Foot.sub1 (by decide +kernel) (Foot.holds_reg (by decide +kernel)))
      exact Moves.refl _
    · exact Moves.refl _
  intro h5
  try clear_value x5
  extract_lets -merge -underBinder +onlyGivenNames x6
  subst x6
  extract_lets -merge -underBinder +onlyGivenNames x7
  refine Moves.let_ x7 ?_ ?_
  · subst x7
    refine Moves.seq ?_ (State.wrBytes_moves ..) (Foot.sub0 (by decide +kernel))
    exact h5
  intro h7
  try clear_value x7
  refine Moves.seq ?_ (State.setSgwIn_moves ..) (Foot.sub0 (by decide +kernel))
  exact h7

def Foot.noInput : Foot := ⟨[(0x060010, 0x060010), (0x06006C, 0x06006C)], [], []⟩

theorem State.noInput_moves (s : State) : Moves (Foot.noInput.at []) s (State.noInput s) := by
  unfold State.noInput
  refine Moves.seq ?_ (State.raise_moves ..) (Foot.sub1 (by decide +kernel) (Foot.holds_reg (by decide +kernel)))
  refine Moves.seq ?_ (State.satInc_moves _ _ (by decide)) (Foot.sub1 (by decide +kernel) (Foot.holds_reg (by decide +kernel)))
  exact Moves.refl _

def Foot.canArrival : Foot := ⟨[(0x060010, 0x060010), (0x06006C, 0x06006C)], [], [.mem, .sgw]⟩

theorem State.canArrival_moves (s : State) (n : Nat) (k : Nat) :
    Moves (Foot.canArrival.at [(463108 + 65536 * (n % 16 / 8) + 4096 * (n % 8) + 16 * (k % 16), 463108 + 65536 * (n % 16 / 8) + 4096 *
      (n % 8) + 16 * (k % 16))]) s (State.canArrival s n k) := by
  unfold State.canArrival
  refine Moves.ite (fun hc => ?_) (fun hc => ?_)
  · exact Moves.refl _
  · extract_lets -merge -underBinder +onlyGivenNames x1
    subst x1
    extract_lets -merge -underBinder +onlyGivenNames x2
    subst x2
    extract_lets -merge -underBinder +onlyGivenNames x3
    refine Moves.let_ x3 ?_ ?_
    · subst x3
      refine Moves.seq ?_ (State.qStep_moves _ _ _ _ (by first | (dsimp only [fGet, R.CB_CAN_QPTR]; omega) | omega)) (Foot.sub1 (by decide +kernel) (Foot.holds_same (.head _)))
      exact Moves.refl _
    intro h3
    try clear_value x3
    split
    · refine Moves.seq ?_ (State.inputData_moves ..) (Foot.sub0 (by decide +kernel))
      exact h3
    · refine Moves.seq ?_ (State.noInput_moves ..) (Foot.sub0 (by decide +kernel))
      exact h3

def Foot.canIntegrated : Foot := ⟨[], [], []⟩

theorem State.canIntegrated_moves (s : State) (n : Nat) :
    Moves (Foot.canIntegrated.at [(462916 + 65536 * (n % 16 / 8) + 4096 * (n % 8), 462916 + 65536 * (n % 16 / 8) + 4096 * (n % 8))]) s
      (State.canIntegrated s n) := by
  unfold State.canIntegrated
  refine Moves.ite (fun hc => ?_) (fun hc => ?_)
  · refine Moves.seq ?_ (State.put_moves _ _ _ (by first | (dsimp only [F.CB_CAN_STAT_STATE]; omega) | omega)) (Foot.sub1 (by decide +kernel) (Foot.holds_same (.head _)))
    exact Moves.refl _
  · exact Moves.refl _

def Foot.canOffer : Foot := ⟨[], [], [.out, .cans]⟩

theorem State.canOffer_moves (s : State) (n : Nat) (k : Nat) (f : CanFrame) :
    Moves (Foot.canOffer.at [(462916 + 65536 * (n % 16 / 8) + 4096 * (n % 8), 462916 + 65536 * (n % 16 / 8) + 4096 * (n % 8))]) s
      (State.canOffer s n k f) := by
  unfold State.canOffer
  extract_lets -merge -underBinder +onlyGivenNames x1
  subst x1
  extract_lets -merge -underBinder +onlyGivenNames x2
  refine Moves.let_ x2 ?_ ?_
  · subst x2
    refine Moves.seq ?_ (State.modCan_moves ..) (Foot.sub0 (by decide +kernel))
    exact Moves.refl _
  intro h2
  try clear_value x2
  extract_lets -merge -underBinder +onlyGivenNames x3
  refine Moves.let_ x3 ?_ ?_
  · subst x3
    refine Moves.seq ?_ (State.put_moves _ _ _ (by first | (dsimp only [F.CB_CAN_STAT_ACT]; omega) | omega)) (Foot.sub1 (by decide +kernel) (Foot.holds_same (.head _)))
    exact h2
  intro h3
  try clear_value x3
  refine Moves.ite (fun hc => ?_) (fun hc => ?_)
  · refine Moves.seq ?_ (State.emit_moves ..) (Foot.sub0 (by decide +kernel))
    exact h3
  · exact h3

end Sys2Proof.Machine
end

