-- ==== Sys2Proof/Laws/Foot10.lean ====
section
/-!
SUPPORT. What the operations may touch: one footprint and one lemma each.
-/

namespace Sys2Proof.Machine

set_option Elab.async false

def Foot.canDropBad : Foot := ⟨[], [], [.mem, .cans]⟩

theorem State.canDropBad_moves (s : State) (n k m : Nat) :
    Moves (Foot.canDropBad.at [(463108 + 65536 * (n % 16 / 8) + 4096 * (n % 8) + 16 * (k % 16), 463108 + 65536 * (n % 16 / 8) + 4096 * (n % 8) + 16 * (k % 16)), (463112 + 65536 * (n % 16 / 8) + 4096 * (n % 8) + 16 * (k % 16), 463112 + 65536 * (n % 16 / 8) + 4096 * (n % 8) + 16 * (k % 16)), (4096 * ((462848 + 65536 * (n % 16 / 8) + 4096 * (n % 8)) / 4096) + 16, 4096 * ((462848 + 65536 * (n % 16 / 8) + 4096 * (n % 8)) / 4096) + 16)]) s (s.canDropBad n k m) := by
  induction m generalizing s with
  | zero => exact Moves.refl _
  | succ m ih =>
    simp only [State.canDropBad]
    split
    · split
      · refine Moves.seq ?_ (ih _) Foot.sub_self
        exact Moves.widen (State.canComplete_moves ..) (Foot.sub_at (by decide +kernel) (Foot.own_cons (Foot.holds_same (.head _)) (Foot.own_cons (Foot.holds_same (.tail _ (.head _))) (Foot.own_cons (Foot.holds_same (.tail _ (.tail _ (.head _)))) Foot.own_nil))))
      · exact Moves.refl _
    · exact Moves.refl _

def Foot.canReadHead : Foot := ⟨[], [], [.mem, .cans]⟩

theorem State.canReadHead_moves (s : State) (n : Nat) (ue : List Nat) (k : Nat) :
    Moves (Foot.canReadHead.at [(463108 + 65536 * (n % 16 / 8) + 4096 * (n % 8) + 16 * (k % 16), 463108 + 65536 * (n % 16 / 8) + 4096
      * (n % 8) + 16 * (k % 16)),
      (463112 + 65536 * (n % 16 / 8) + 4096 * (n % 8) + 16 * (k % 16), 463112 + 65536 * (n % 16 / 8) + 4096 * (n % 8) + 16 * (k %
      16)),
      (4096 * ((462848 + 65536 * (n % 16 / 8) + 4096 * (n % 8)) / 4096) + 16, 4096 * ((462848 + 65536 * (n % 16 / 8) + 4096 * (n % 8))
      / 4096) + 16)]) s (State.canReadHead s n ue k) := by
  unfold State.canReadHead
  extract_lets -merge -underBinder +onlyGivenNames x1
  refine Moves.let_ x1 ?_ ?_
  · subst x1
    refine Moves.ite (fun hc => ?_) (fun hc => ?_)
    · refine Moves.seq ?_ (State.canComplete_moves ..) (Foot.sub_at (by decide +kernel) (Foot.own_cons (Foot.holds_same (.head _)) (Foot.own_cons (Foot.holds_same (.tail _ (.head _))) (Foot.own_cons (Foot.holds_same (.tail _ (.tail _ (.head _)))) Foot.own_nil))))
      exact Moves.refl _
    · exact Moves.refl _
  intro h1
  try clear_value x1
  refine Moves.seq ?_ (State.canDropBad_moves ..) (Foot.sub_at (by decide +kernel) (Foot.own_cons (Foot.holds_same (.head _)) (Foot.own_cons (Foot.holds_same (.tail _ (.head _))) (Foot.own_cons (Foot.holds_same (.tail _ (.tail _ (.head _)))) Foot.own_nil))))
  exact h1

def Foot.canAttempt : Foot := ⟨[], [], [.mem, .out, .cans]⟩

theorem State.canAttempt_moves (s : State) (n : Nat) (ue : List Nat) :
    Moves (Foot.canAttempt.at [(462916 + 65536 * (n % 16 / 8) + 4096 * (n % 8), 462916 + 65536 * (n % 16 / 8) + 4096 * (n % 8)),
      (463108 + 65536 * (n % 16 / 8) + 4096 * (n % 8) + 16 * 0, 463108 + 65536 * (n % 16 / 8) + 4096 * (n % 8) + 16 * 15),
      (463112 + 65536 * (n % 16 / 8) + 4096 * (n % 8) + 16 * 0, 463112 + 65536 * (n % 16 / 8) + 4096 * (n % 8) + 16 * 15),
      (4096 * ((462848 + 65536 * (n % 16 / 8) + 4096 * (n % 8)) / 4096) + 16, 4096 * ((462848 + 65536 * (n % 16 / 8) + 4096 * (n % 8))
      / 4096) + 16)]) s (State.canAttempt s n ue) := by
  unfold State.canAttempt
  refine Moves.ite (fun hc => ?_) (fun hc => ?_)
  · exact Moves.refl _
  · extract_lets -merge -underBinder +onlyGivenNames x1
    refine Moves.let_ x1 ?_ ?_
    · subst x1
      refine Moves.seq ?_ (State.canIntegrated_moves ..) (Foot.sub1 (by decide +kernel) (Foot.holds_same (.head _)))
      exact Moves.refl _
    intro h1
    try clear_value x1
    split
    · refine Moves.seq ?_ (State.modCan_moves ..) (Foot.sub0 (by decide +kernel))
      refine Moves.seq ?_ (State.canOffer_moves ..) (Foot.sub1 (by decide +kernel) (Foot.holds_same (.head _)))
      exact h1
    · extract_lets -merge -underBinder +onlyGivenNames x2
      refine Moves.let_ x2 ?_ ?_
      · subst x2
        refine Moves.foldl _ (fun x3 _ h3 => ?_) _ ?_
        · refine Moves.seq ?_ (State.canReadHead_moves ..) (Foot.sub_at (by decide +kernel) (Foot.own_cons (Foot.holds_own (.tail _ (.head _)) (by first | omega | (dsimp only; omega)) (by first | omega | (dsimp only; omega))) (Foot.own_cons (Foot.holds_own (.tail _ (.tail _ (.head _))) (by first | omega | (dsimp only; omega)) (by first | omega | (dsimp only; omega))) (Foot.own_cons (Foot.holds_same (.tail _ (.tail _ (.tail _ (.head _))))) Foot.own_nil))))
          exact h3
        · exact h1
      intro h2
      try clear_value x2
      split
      · refine Moves.seq ?_ (State.canOffer_moves ..) (Foot.sub1 (by decide +kernel) (Foot.holds_same (.head _)))
        exact h2
      · exact h2

def Foot.canStateChg : Foot := ⟨[], [], [.evq]⟩

theorem State.canStateChg_moves (s : State) (n : Nat) (st : Nat) :
    Moves (Foot.canStateChg.at [(4096 * ((462848 + 65536 * (n % 16 / 8) + 4096 * (n % 8)) / 4096) + 16, 4096 * ((462848 + 65536 * (n %
      16 / 8) + 4096 * (n % 8)) / 4096) + 16),
      (462916 + 65536 * (n % 16 / 8) + 4096 * (n % 8), 462916 + 65536 * (n % 16 / 8) + 4096 * (n % 8)),
      (462948 + 65536 * (n % 16 / 8) + 4096 * (n % 8), 462948 + 65536 * (n % 16 / 8) + 4096 * (n % 8))]) s (State.canStateChg s n st)
      := by
  unfold State.canStateChg
  extract_lets -merge -underBinder +onlyGivenNames x1
  subst x1
  extract_lets -merge -underBinder +onlyGivenNames x2
  subst x2
  extract_lets -merge -underBinder +onlyGivenNames x3
  refine Moves.let_ x3 ?_ ?_
  · subst x3
    refine Moves.seq ?_ (State.raise_moves ..) (Foot.sub1 (by decide +kernel) (Foot.holds_same (.head _)))
    refine Moves.seq ?_ (State.put_moves _ _ _ (by first | (dsimp only [F.CB_CAN_STAT_STATE]; omega) | omega)) (Foot.sub1 (by decide +kernel) (Foot.holds_same (.tail _ (.head _))))
    exact Moves.refl _
  intro h3
  try clear_value x3
  extract_lets -merge -underBinder +onlyGivenNames x4
  refine Moves.let_ x4 ?_ ?_
  · subst x4
    refine Moves.seq ?_ (State.post_moves ..) (Foot.sub0 (by decide +kernel))
    exact h3
  intro h4
  try clear_value x4
  refine Moves.ite (fun hc => ?_) (fun hc => ?_)
  · refine Moves.seq ?_ (State.satInc_moves _ _ (by first | (dsimp only [F.CB_CAN_ECNT_PASSIVE]; omega) | omega)) (Foot.sub1 (by decide +kernel) (Foot.holds_same (.tail _ (.tail _ (.head _)))))
    exact h4
  · refine Moves.ite (fun hc => ?_) (fun hc => ?_)
    · extract_lets -merge -underBinder +onlyGivenNames x5
      refine Moves.let_ x5 ?_ ?_
      · subst x5
        refine Moves.seq ?_ (State.put_moves _ _ _ (by first | (dsimp only [F.CB_CAN_STAT_ACT]; omega) | omega)) (Foot.sub1 (by decide +kernel) (Foot.holds_same (.tail _ (.head _))))
        refine Moves.seq ?_ (State.satInc_moves _ _ (by first | (dsimp only [F.CB_CAN_ECNT_BUSOFF]; omega) | omega)) (Foot.sub1 (by decide +kernel) (Foot.holds_same (.tail _ (.tail _ (.head _)))))
        refine Moves.seq ?_ (State.raise_moves ..) (Foot.sub1 (by decide +kernel) (Foot.holds_same (.head _)))
        exact h4
      intro h5
      try clear_value x5
      refine Moves.seq ?_ (State.post_moves ..) (Foot.sub0 (by decide +kernel))
      exact h5
    · exact h4

def Foot.canCounts : Foot := ⟨[], [], [.evq]⟩

theorem State.canCounts_moves (s : State) (n : Nat) (tec : Nat) (rec : Nat) :
    Moves (Foot.canCounts.at [(462916 + 65536 * (n % 16 / 8) + 4096 * (n % 8), 462916 + 65536 * (n % 16 / 8) + 4096 * (n % 8)),
      (4096 * ((462848 + 65536 * (n % 16 / 8) + 4096 * (n % 8)) / 4096) + 16, 4096 * ((462848 + 65536 * (n % 16 / 8) + 4096 * (n % 8))
      / 4096) + 16),
      (462948 + 65536 * (n % 16 / 8) + 4096 * (n % 8), 462948 + 65536 * (n % 16 / 8) + 4096 * (n % 8))]) s (State.canCounts s n tec
      rec) := by
  unfold State.canCounts
  refine Moves.ite (fun hc => ?_) (fun hc => ?_)
  · exact Moves.refl _
  · extract_lets -merge -underBinder +onlyGivenNames x1
    subst x1
    extract_lets -merge -underBinder +onlyGivenNames x2
    refine Moves.let_ x2 ?_ ?_
    · subst x2
      refine Moves.seq ?_ (State.put_moves _ _ _ (by first | (dsimp only [F.CB_CAN_STAT_REC]; omega) | omega)) (Foot.sub1 (by decide +kernel) (Foot.holds_same (.head _)))
      refine Moves.seq ?_ (State.put_moves _ _ _ (by first | (dsimp only [F.CB_CAN_STAT_TEC]; omega) | omega)) (Foot.sub1 (by decide +kernel) (Foot.holds_same (.head _)))
      exact Moves.refl _
    intro h2
    try clear_value x2
    extract_lets -merge -underBinder +onlyGivenNames x3
    subst x3
    refine Moves.ite (fun hc => ?_) (fun hc => ?_)
    · exact h2
    · refine Moves.seq ?_ (State.canStateChg_moves ..) (Foot.sub_at (by decide +kernel) (Foot.own_cons (Foot.holds_same (.tail _ (.head _))) (Foot.own_cons (Foot.holds_same (.head _)) (Foot.own_cons (Foot.holds_same (.tail _ (.tail _ (.head _)))) Foot.own_nil))))
      exact h2

def Foot.canEnter : Foot := ⟨[], [], [.mem, .cans]⟩

theorem State.canEnter_moves (s : State) (n : Nat) (m : Nat) :
    Moves (Foot.canEnter.at [(462912 + 65536 * (n % 16 / 8) + 4096 * (n % 8), 462912 + 65536 * (n % 16 / 8) + 4096 * (n % 8)),
      (462916 + 65536 * (n % 16 / 8) + 4096 * (n % 8), 462916 + 65536 * (n % 16 / 8) + 4096 * (n % 8)),
      (459020 + 65536 * (n % 16 / 8) + 16 * (n % 8), 459020 + 65536 * (n % 16 / 8) + 16 * (n % 8)),
      (462944 + 65536 * (n % 16 / 8) + 4096 * (n % 8), 462944 + 65536 * (n % 16 / 8) + 4096 * (n % 8)),
      (463108 + 65536 * (n % 16 / 8) + 4096 * (n % 8) + 16 * 0, 463108 + 65536 * (n % 16 / 8) + 4096 * (n % 8) + 16 * 15),
      (463112 + 65536 * (n % 16 / 8) + 4096 * (n % 8) + 16 * 0, 463112 + 65536 * (n % 16 / 8) + 4096 * (n % 8) + 16 * 15),
      (4096 * ((462848 + 65536 * (n % 16 / 8) + 4096 * (n % 8)) / 4096) + 16, 4096 * ((462848 + 65536 * (n % 16 / 8) + 4096 * (n % 8))
      / 4096) + 16)]) s (State.canEnter s n m) := by
  unfold State.canEnter
  refine Moves.ite (fun hc => ?_) (fun hc => ?_)
  · exact Moves.refl _
  · extract_lets -merge -underBinder +onlyGivenNames x1
    refine Moves.let_ x1 ?_ ?_
    · subst x1
      refine Moves.seq ?_ (State.put_moves _ _ _ (by first | (dsimp only [F.CB_CAN_MODE_EMODE]; omega) | omega)) (Foot.sub1 (by decide +kernel) (Foot.holds_same (.head _)))
      exact Moves.refl _
    intro h1
    try clear_value x1
    extract_lets -merge -underBinder +onlyGivenNames x2
    refine Moves.let_ x2 ?_ ?_
    · subst x2
      refine Moves.ite (fun hc => ?_) (fun hc => ?_)
      · refine Moves.seq ?_ (State.put_moves _ _ _ (by first | (dsimp only [F.CB_CAN_STAT_ACT]; omega) | omega)) (Foot.sub1 (by decide +kernel) (Foot.holds_same (.tail _ (.head _))))
        refine Moves.seq ?_ (State.modCan_moves ..) (Foot.sub0 (by decide +kernel))
        exact h1
      · refine Moves.ite (fun hc => ?_) (fun hc => ?_)
        · refine Moves.seq ?_ (State.put_moves _ _ _ (by first | (dsimp only [F.CB_CAN_STAT_STATE]; omega) | omega)) (Foot.sub1 (by decide +kernel) (Foot.holds_same (.tail _ (.head _))))
          exact h1
        · exact h1
    intro h2
    try clear_value x2
    refine Moves.seq ?_ (State.canFollow_moves ..) (Foot.sub_at (by decide +kernel) (Foot.own_cons (Foot.holds_same (.tail _ (.tail _ (.head _)))) (Foot.own_cons (Foot.holds_same (.tail _ (.tail _ (.tail _ (.head _))))) Foot.own_nil)))
    refine Moves.seq ?_ (State.canMuted_moves ..) (Foot.sub_at (by decide +kernel) (Foot.own_cons (Foot.holds_same (.tail _ (.tail _ (.tail _ (.tail _ (.head _)))))) (Foot.own_cons (Foot.holds_same (.tail _ (.tail _ (.tail _ (.tail _ (.tail _ (.head _))))))) (Foot.own_cons (Foot.holds_same (.tail _ (.tail _ (.tail _ (.tail _ (.tail _ (.tail _ (.head _)))))))) Foot.own_nil))))
    refine Moves.seq ?_ (State.raise_moves ..) (Foot.sub1 (by decide +kernel) (Foot.holds_same (.tail _ (.tail _ (.tail _ (.tail _ (.tail _ (.tail _ (.head _)))))))))
    exact h2

def Foot.canErrCode : Foot := ⟨[], [], []⟩

theorem State.canErrCode_moves (s : State) (n : Nat) (kind : Nat) (dataPhase : Bool) :
    Moves (Foot.canErrCode.at [(462916 + 65536 * (n % 16 / 8) + 4096 * (n % 8), 462916 + 65536 * (n % 16 / 8) + 4096 * (n % 8))]) s
      (State.canErrCode s n kind dataPhase) := by
  unfold State.canErrCode
  refine Moves.seq ?_ (State.put_moves _ _ _ (by (try dsimp only [F.CB_CAN_STAT_FERR, F.CB_CAN_STAT_AERR]); split <;> (try dsimp only) <;> first | decide | omega)) (Foot.sub1 (by decide +kernel) (by (try dsimp only [F.CB_CAN_STAT_FERR, F.CB_CAN_STAT_AERR]); split <;> (try dsimp only) <;> first | exact (Foot.holds_same (.head _))))
  exact Moves.refl _

def Foot.canErrFlag : Foot := ⟨[], [], [.out]⟩

theorem State.canErrFlag_moves (s : State) (n : Nat) : Moves (Foot.canErrFlag.at []) s (State.canErrFlag s n) := by
  unfold State.canErrFlag
  refine Moves.ite (fun hc => ?_) (fun hc => ?_)
  · refine Moves.seq ?_ (State.emit_moves ..) (Foot.sub0 (by decide +kernel))
    exact Moves.refl _
  · exact Moves.refl _

def Foot.canUnacked : Foot := ⟨[], [], [.evq, .cans]⟩

theorem State.canUnacked_moves (s : State) (n : Nat) :
    Moves (Foot.canUnacked.at [(462948 + 65536 * (n % 16 / 8) + 4096 * (n % 8), 462948 + 65536 * (n % 16 / 8) + 4096 * (n % 8)),
      (462964 + 65536 * (n % 16 / 8) + 4096 * (n % 8), 462964 + 65536 * (n % 16 / 8) + 4096 * (n % 8)),
      (4096 * ((462848 + 65536 * (n % 16 / 8) + 4096 * (n % 8)) / 4096) + 16, 4096 * ((462848 + 65536 * (n % 16 / 8) + 4096 * (n % 8))
      / 4096) + 16),
      (462916 + 65536 * (n % 16 / 8) + 4096 * (n % 8), 462916 + 65536 * (n % 16 / 8) + 4096 * (n % 8))]) s (State.canUnacked s n) :=
      by
  unfold State.canUnacked
  extract_lets -merge -underBinder +onlyGivenNames x1
  refine Moves.let_ x1 ?_ ?_
  · subst x1
    refine Moves.seq ?_ (State.modCan_moves ..) (Foot.sub0 (by decide +kernel))
    refine Moves.seq ?_ (State.satInc_moves _ _ (by first | (dsimp only [F.CB_CAN_ECNT_ACKERR]; omega) | omega)) (Foot.sub1 (by decide +kernel) (Foot.holds_same (.head _)))
    exact Moves.refl _
  intro h1
  try clear_value x1
  refine Moves.ite (fun hc => ?_) (fun hc => ?_)
  · extract_lets -merge -underBinder +onlyGivenNames x2
    refine Moves.let_ x2 ?_ ?_
    · subst x2
      refine Moves.seq ?_ (State.satInc_moves _ _ (by first | (dsimp only [F.CB_CAN_CCNT_LONE_CNT]; omega) | omega)) (Foot.sub1 (by decide +kernel) (Foot.holds_same (.tail _ (.head _))))
      refine Moves.seq ?_ (State.raise_moves ..) (Foot.sub1 (by decide +kernel) (Foot.holds_same (.tail _ (.tail _ (.head _)))))
      refine Moves.seq ?_ (State.putB_moves _ _ _ (by first | (dsimp only [F.CB_CAN_STAT_LONE]; omega) | omega)) (Foot.sub1 (by decide +kernel) (Foot.holds_same (.tail _ (.tail _ (.tail _ (.head _))))))
      exact h1
    intro h2
    try clear_value x2
    refine Moves.seq ?_ (State.post_moves ..) (Foot.sub0 (by decide +kernel))
    exact h2
  · exact h1

def Foot.clash : Foot := ⟨[], [], [.mem, .evq, .cans]⟩

theorem State.clash_moves (s : State) (n : Nat) (f : CanFrame) (field : Nat) :
    Moves (Foot.clash.at [(462964 + 65536 * (n % 16 / 8) + 4096 * (n % 8), 462964 + 65536 * (n % 16 / 8) + 4096 * (n % 8)),
      (4096 * ((462848 + 65536 * (n % 16 / 8) + 4096 * (n % 8)) / 4096) + 16, 4096 * ((462848 + 65536 * (n % 16 / 8) + 4096 * (n % 8))
      / 4096) + 16)]) s (State.clash s n f field) := by
  unfold State.clash
  extract_lets -merge -underBinder +onlyGivenNames x1
  subst x1
  extract_lets -merge -underBinder +onlyGivenNames x2
  subst x2
  try dsimp -zeta only
  extract_lets -merge -underBinder +onlyGivenNames x3
  subst x3
  try dsimp -zeta only
  split
  · refine Moves.seq ?_ (State.satInc_moves _ _ (by first | (dsimp only [F.CB_CAN_CCNT_CLASH_LOST]; omega) | omega)) (Foot.sub1 (by decide +kernel) (Foot.holds_same (.head _)))
    exact Moves.refl _
  · extract_lets -merge -underBinder +onlyGivenNames x4
    subst x4
    extract_lets -merge -underBinder +onlyGivenNames x5
    subst x5
    extract_lets -merge -underBinder +onlyGivenNames x6
    refine Moves.let_ x6 ?_ ?_
    · subst x6
      refine Moves.seq ?_ (State.wrNum_moves ..) (Foot.sub0 (by decide +kernel))
      refine Moves.seq ?_ (State.wrNum_moves ..) (Foot.sub0 (by decide +kernel))
      refine Moves.seq ?_ (State.wrNum_moves ..) (Foot.sub0 (by decide +kernel))
      refine Moves.seq ?_ (State.wrNum_moves ..) (Foot.sub0 (by decide +kernel))
      refine Moves.seq ?_ (State.wrNum_moves ..) (Foot.sub0 (by decide +kernel))
      exact Moves.refl _
    intro h6
    try clear_value x6
    extract_lets -merge -underBinder +onlyGivenNames x7
    refine Moves.let_ x7 ?_ ?_
    · subst x7
      refine Moves.seq ?_ (State.put_moves _ _ _ (by first | (dsimp only [F.CB_CAN_CCNT_CLASH_USED]; omega) | omega)) (Foot.sub1 (by decide +kernel) (Foot.holds_same (.head _)))
      exact h6
    intro h7
    try clear_value x7
    refine Moves.ite (fun hc => ?_) (fun hc => ?_)
    · extract_lets -merge -underBinder +onlyGivenNames x8
      refine Moves.let_ x8 ?_ ?_
      · subst x8
        refine Moves.seq ?_ (State.raise_moves ..) (Foot.sub1 (by decide +kernel) (Foot.holds_same (.tail _ (.head _))))
        refine Moves.seq ?_ (State.modCan_moves ..) (Foot.sub0 (by decide +kernel))
        exact h7
      intro h8
      try clear_value x8
      refine Moves.seq ?_ (State.post_moves ..) (Foot.sub0 (by decide +kernel))
      exact h8
    · exact h7

def Foot.canFailed : Foot := ⟨[], [], [.mem, .out, .evq, .cans]⟩

theorem State.canFailed_moves (s : State) (n : Nat) (t : CanTx) (kind : Nat) (dataPhase : Bool) (field : Option Nat) (exempt : Bool) (more : Nat) :
    Moves (Foot.canFailed.at [(462916 + 65536 * (n % 16 / 8) + 4096 * (n % 8), 462916 + 65536 * (n % 16 / 8) + 4096 * (n % 8)),
      (462948 + 65536 * (n % 16 / 8) + 4096 * (n % 8), 462948 + 65536 * (n % 16 / 8) + 4096 * (n % 8)),
      (462964 + 65536 * (n % 16 / 8) + 4096 * (n % 8), 462964 + 65536 * (n % 16 / 8) + 4096 * (n % 8)),
      (4096 * ((462848 + 65536 * (n % 16 / 8) + 4096 * (n % 8)) / 4096) + 16, 4096 * ((462848 + 65536 * (n % 16 / 8) + 4096 * (n % 8))
      / 4096) + 16),
      (463108 + 65536 * (n % 16 / 8) + 4096 * (n % 8) + 16 * (t.queue % 16), 463108 + 65536 * (n % 16 / 8) + 4096 * (n % 8) + 16 *
      (t.queue % 16)),
      (463112 + 65536 * (n % 16 / 8) + 4096 * (n % 8) + 16 * (t.queue % 16), 463112 + 65536 * (n % 16 / 8) + 4096 * (n % 8) + 16 *
      (t.queue % 16))]) s (State.canFailed s n t kind dataPhase field exempt more) := by
  unfold State.canFailed
  extract_lets -merge -underBinder +onlyGivenNames x1
  refine Moves.let_ x1 ?_ ?_
  · subst x1
    refine Moves.seq ?_ (State.canErrFlag_moves ..) (Foot.sub0 (by decide +kernel))
    refine Moves.seq ?_ (State.canErrCode_moves ..) (Foot.sub1 (by decide +kernel) (Foot.holds_same (.head _)))
    exact Moves.refl _
  intro h1
  try clear_value x1
  extract_lets -merge -underBinder +onlyGivenNames x2
  refine Moves.let_ x2 ?_ ?_
  · subst x2
    refine Moves.ite (fun hc => ?_) (fun hc => ?_)
    · refine Moves.seq ?_ (State.canUnacked_moves ..) (Foot.sub_at (by decide +kernel) (Foot.own_cons (Foot.holds_same (.tail _ (.head _))) (Foot.own_cons (Foot.holds_same (.tail _ (.tail _ (.head _)))) (Foot.own_cons (Foot.holds_same (.tail _ (.tail _ (.tail _ (.head _))))) (Foot.own_cons (Foot.holds_same (.head _)) Foot.own_nil)))))
      exact h1
    · refine Moves.seq ?_ (State.modCan_moves ..) (Foot.sub0 (by decide +kernel))
      exact h1
  intro h2
  try clear_value x2
  extract_lets -merge -underBinder +onlyGivenNames x3
  refine Moves.let_ x3 ?_ ?_
  · subst x3
    split
    · refine Moves.ite (fun hc => ?_) (fun hc => ?_)
      · refine Moves.seq ?_ (State.clash_moves ..) (Foot.sub_at (by decide +kernel) (Foot.own_cons (Foot.holds_same (.tail _ (.tail _ (.head _)))) (Foot.own_cons (Foot.holds_same (.tail _ (.tail _ (.tail _ (.head _))))) Foot.own_nil)))
        exact h2
      · exact h2
    · exact h2
  intro h3
  try clear_value x3
  extract_lets -merge -underBinder +onlyGivenNames x4
  refine Moves.let_ x4 ?_ ?_
  · subst x4
    refine Moves.seq ?_ (State.canCounts_moves ..) (Foot.sub_at (by decide +kernel) (Foot.own_cons (Foot.holds_same (.head _)) (Foot.own_cons (Foot.holds_same (.tail _ (.tail _ (.tail _ (.head _))))) (Foot.own_cons (Foot.holds_same (.tail _ (.head _))) Foot.own_nil))))
    exact h3
  intro h4
  try clear_value x4
  refine Moves.ite (fun hc => ?_) (fun hc => ?_)
  · exact h4
  · extract_lets -merge -underBinder +onlyGivenNames x5
    subst x5
    extract_lets -merge -underBinder +onlyGivenNames x6
    subst x6
    extract_lets -merge -underBinder +onlyGivenNames x7
    refine Moves.let_ x7 ?_ ?_
    · subst x7
      refine Moves.seq ?_ (State.modCan_moves ..) (Foot.sub0 (by decide +kernel))
      exact h4
    intro h7
    try clear_value x7
    extract_lets -merge -underBinder +onlyGivenNames x8
    subst x8
    extract_lets -merge -underBinder +onlyGivenNames x9
    subst x9
    extract_lets -merge -underBinder +onlyGivenNames x10
    refine Moves.let_ x10 ?_ ?_
    · subst x10
      refine Moves.ite (fun hc => ?_) (fun hc => ?_)
      · refine Moves.seq ?_ (State.canComplete_moves ..) (Foot.sub_at (by decide +kernel) (Foot.own_cons (Foot.holds_same (.tail _ (.tail _ (.tail _ (.tail _ (.head _)))))) (Foot.own_cons (Foot.holds_same (.tail _ (.tail _ (.tail _ (.tail _ (.tail _ (.head _))))))) (Foot.own_cons (Foot.holds_same (.tail _ (.tail _ (.tail _ (.head _))))) Foot.own_nil))))
        exact h7
      · refine Moves.ite (fun hc => ?_) (fun hc => ?_)
        · refine Moves.seq ?_ (State.canComplete_moves ..) (Foot.sub_at (by decide +kernel) (Foot.own_cons (Foot.holds_same (.tail _ (.tail _ (.tail _ (.tail _ (.head _)))))) (Foot.own_cons (Foot.holds_same (.tail _ (.tail _ (.tail _ (.tail _ (.tail _ (.head _))))))) (Foot.own_cons (Foot.holds_same (.tail _ (.tail _ (.tail _ (.head _))))) Foot.own_nil))))
          exact h7
        · exact h7
    intro h10
    try clear_value x10
    refine Moves.seq ?_ (State.canAfter_moves ..) (Foot.sub_at (by decide +kernel) (Foot.own_cons (Foot.holds_same (.tail _ (.tail _ (.tail _ (.tail _ (.head _)))))) (Foot.own_cons (Foot.holds_same (.tail _ (.tail _ (.tail _ (.tail _ (.tail _ (.head _))))))) (Foot.own_cons (Foot.holds_same (.tail _ (.tail _ (.tail _ (.head _))))) Foot.own_nil))))
    exact h10

def Foot.canStore : Foot := ⟨[], [], [.mem, .cans]⟩

theorem State.canStore_moves (s : State) (n : Nat) (k : Nat) (filt : Nat) (f : CanFrame) (ts : Nat) :
    Moves (Foot.canStore.at [(4096 * ((462848 + 65536 * (n % 16 / 8) + 4096 * (n % 8)) / 4096) + 16, 4096 * ((462848 + 65536 * (n % 16
      / 8) + 4096 * (n % 8)) / 4096) + 16),
      (463112 + 65536 * (n % 16 / 8) + 4096 * (n % 8) + 16 * (k % 16), 463112 + 65536 * (n % 16 / 8) + 4096 * (n % 8) + 16 * (k %
      16)),
      (463108 + 65536 * (n % 16 / 8) + 4096 * (n % 8) + 16 * (k % 16), 463108 + 65536 * (n % 16 / 8) + 4096 * (n % 8) + 16 * (k %
      16))]) s (State.canStore s n k filt f ts) := by
  unfold State.canStore
  refine Moves.ite (fun hc => ?_) (fun hc => ?_)
  · exact Moves.refl _
  · refine Moves.ite (fun hc => ?_) (fun hc => ?_)
    · extract_lets -merge -underBinder +onlyGivenNames x1
      refine Moves.let_ x1 ?_ ?_
      · subst x1
        refine Moves.seq ?_ (State.raise_moves ..) (Foot.sub1 (by decide +kernel) (Foot.holds_same (.head _)))
        refine Moves.seq ?_ (State.satInc_moves _ _ (by first | (dsimp only [F.CB_CAN_QCNT_LOST]; omega) | omega)) (Foot.sub1 (by decide +kernel) (Foot.holds_same (.tail _ (.head _))))
        exact Moves.refl _
      intro h1
      try clear_value x1
      refine Moves.seq ?_ (State.modCan_moves ..) (Foot.sub0 (by decide +kernel))
      exact h1
    · extract_lets -merge -underBinder +onlyGivenNames x2
      subst x2
      extract_lets -merge -underBinder +onlyGivenNames x3
      subst x3
      extract_lets -merge -underBinder +onlyGivenNames x4
      subst x4
      extract_lets -merge -underBinder +onlyGivenNames x5
      subst x5
      extract_lets -merge -underBinder +onlyGivenNames x6
      subst x6
      extract_lets -merge -underBinder +onlyGivenNames x7
      refine Moves.let_ x7 ?_ ?_
      · subst x7
        refine Moves.seq ?_ (State.wrBytes_moves ..) (Foot.sub0 (by decide +kernel))
        exact Moves.refl _
      intro h7
      try clear_value x7
      extract_lets -merge -underBinder +onlyGivenNames x8
      refine Moves.let_ x8 ?_ ?_
      · subst x8
        refine Moves.seq ?_ (State.modCan_moves ..) (Foot.sub0 (by decide +kernel))
        exact h7
      intro h8
      try clear_value x8
      extract_lets -merge -underBinder +onlyGivenNames x9
      refine Moves.let_ x9 ?_ ?_
      · subst x9
        refine Moves.seq ?_ (State.qStep_moves _ _ _ _ (by first | (dsimp only [fPut, R.CB_CAN_QPTR]; omega) | omega)) (Foot.sub1 (by decide +kernel) (Foot.holds_same (.tail _ (.tail _ (.head _)))))
        exact h8
      intro h9
      try clear_value x9
      refine Moves.ite (fun hc => ?_) (fun hc => ?_)
      · refine Moves.seq ?_ (State.raise_moves ..) (Foot.sub1 (by decide +kernel) (Foot.holds_same (.head _)))
        exact h9
      · exact h9

def Foot.canFilter : Foot := ⟨[], [], [.mem, .cans]⟩

theorem State.canFilter_moves (s : State) (n : Nat) (f : CanFrame) (ts : Nat) (ue : List Nat) :
    Moves (Foot.canFilter.at [(4096 * ((462848 + 65536 * (n % 16 / 8) + 4096 * (n % 8)) / 4096) + 16, 4096 * ((462848 + 65536 * (n %
      16 / 8) + 4096 * (n % 8)) / 4096) + 16),
      (463112 + 65536 * (n % 16 / 8) + 4096 * (n % 8) + 16 * 0, 463112 + 65536 * (n % 16 / 8) + 4096 * (n % 8) + 16 * 15),
      (463108 + 65536 * (n % 16 / 8) + 4096 * (n % 8) + 16 * 0, 463108 + 65536 * (n % 16 / 8) + 4096 * (n % 8) + 16 * 15),
      (462960 + 65536 * (n % 16 / 8) + 4096 * (n % 8), 462960 + 65536 * (n % 16 / 8) + 4096 * (n % 8))]) s (State.canFilter s n f ts
      ue) := by
  unfold State.canFilter
  extract_lets -merge -underBinder +onlyGivenNames x1
  subst x1
  split
  · extract_lets -merge -underBinder +onlyGivenNames x2
    subst x2
    extract_lets -merge -underBinder +onlyGivenNames x3
    refine Moves.let_ x3 ?_ ?_
    · subst x3
      refine Moves.seq ?_ (State.wrNum_moves ..) (Foot.sub0 (by decide +kernel))
      exact Moves.refl _
    intro h3
    try clear_value x3
    refine Moves.ite (fun hc => ?_) (fun hc => ?_)
    · exact h3
    · extract_lets -merge -underBinder +onlyGivenNames x4
      subst x4
      extract_lets -merge -underBinder +onlyGivenNames x5
      subst x5
      extract_lets -merge -underBinder +onlyGivenNames x6
      refine Moves.let_ x6 ?_ ?_
      · subst x6
        refine Moves.seq ?_ (State.canStore_moves ..) (Foot.sub_at (by decide +kernel) (Foot.own_cons (Foot.holds_same (.head _)) (Foot.own_cons (Foot.holds_own (.tail _ (.head _)) (by first | omega | (dsimp only; omega)) (by first | omega | (dsimp only; omega))) (Foot.own_cons (Foot.holds_own (.tail _ (.tail _ (.head _))) (by first | omega | (dsimp only; omega)) (by first | omega | (dsimp only; omega))) Foot.own_nil))))
        exact h3
      intro h6
      try clear_value x6
      refine Moves.ite (fun hc => ?_) (fun hc => ?_)
      · refine Moves.seq ?_ (State.canStore_moves ..) (Foot.sub_at (by decide +kernel) (Foot.own_cons (Foot.holds_same (.head _)) (Foot.own_cons (Foot.holds_own (.tail _ (.head _)) (by first | omega | (dsimp only; omega)) (by first | omega | (dsimp only; omega))) (Foot.own_cons (Foot.holds_own (.tail _ (.tail _ (.head _))) (by first | omega | (dsimp only; omega)) (by first | omega | (dsimp only; omega))) Foot.own_nil))))
        exact h6
      · exact h6
  · refine Moves.ite (fun hc => ?_) (fun hc => ?_)
    · refine Moves.seq ?_ (State.canStore_moves ..) (Foot.sub_at (by decide +kernel) (Foot.own_cons (Foot.holds_same (.head _)) (Foot.own_cons (Foot.holds_own (.tail _ (.head _)) (by first | (dsimp only [F.CB_CAN_FILT_DEFQ]; omega) | omega) (by first | (dsimp only [F.CB_CAN_FILT_DEFQ]; omega) | omega)) (Foot.own_cons (Foot.holds_own (.tail _ (.tail _ (.head _))) (by first | (dsimp only [F.CB_CAN_FILT_DEFQ]; omega) | omega) (by first | (dsimp only [F.CB_CAN_FILT_DEFQ]; omega) | omega)) Foot.own_nil))))
      exact Moves.refl _
    · refine Moves.seq ?_ (State.satInc_moves _ _ (by first | (dsimp only [F.CB_CAN_FCNT_NOMATCH]; omega) | omega)) (Foot.sub1 (by decide +kernel) (Foot.holds_same (.tail _ (.tail _ (.tail _ (.head _))))))
      exact Moves.refl _

def Foot.recDown : Foot := ⟨[], [], [.evq, .fresh]⟩

theorem State.recDown_moves (s : State) (n : Nat) :
    Moves (Foot.recDown.at [(462916 + 65536 * (n % 16 / 8) + 4096 * (n % 8), 462916 + 65536 * (n % 16 / 8) + 4096 * (n % 8)),
      (4096 * ((462848 + 65536 * (n % 16 / 8) + 4096 * (n % 8)) / 4096) + 16, 4096 * ((462848 + 65536 * (n % 16 / 8) + 4096 * (n % 8))
      / 4096) + 16),
      (462948 + 65536 * (n % 16 / 8) + 4096 * (n % 8), 462948 + 65536 * (n % 16 / 8) + 4096 * (n % 8))]) s (State.recDown s n) := by
  unfold State.recDown
  extract_lets -merge -underBinder +onlyGivenNames x1
  subst x1
  extract_lets -merge -underBinder +onlyGivenNames x2
  subst x2
  refine Moves.ite (fun hc => ?_) (fun hc => ?_)
  · refine Moves.seq ?_ (State.used_moves ..) (Foot.sub0 (by decide +kernel))
    refine Moves.seq ?_ (State.canCounts_moves ..) (Foot.sub_at (by decide +kernel) (Foot.own_cons (Foot.holds_same (.head _)) (Foot.own_cons (Foot.holds_same (.tail _ (.head _))) (Foot.own_cons (Foot.holds_same (.tail _ (.tail _ (.head _)))) Foot.own_nil))))
    exact Moves.refl _
  · refine Moves.seq ?_ (State.canCounts_moves ..) (Foot.sub_at (by decide +kernel) (Foot.own_cons (Foot.holds_same (.head _)) (Foot.own_cons (Foot.holds_same (.tail _ (.head _))) (Foot.own_cons (Foot.holds_same (.tail _ (.tail _ (.head _)))) Foot.own_nil))))
    exact Moves.refl _

def Foot.canHeard : Foot := ⟨[], [], [.cans]⟩

theorem State.canHeard_moves (s : State) (n : Nat) :
    Moves (Foot.canHeard.at [(462916 + 65536 * (n % 16 / 8) + 4096 * (n % 8), 462916 + 65536 * (n % 16 / 8) + 4096 * (n % 8))]) s
      (State.canHeard s n) := by
  unfold State.canHeard
  refine Moves.seq ?_ (State.putB_moves _ _ _ (by first | (dsimp only [F.CB_CAN_STAT_LONE]; omega) | omega)) (Foot.sub1 (by decide +kernel) (Foot.holds_same (.head _)))
  refine Moves.seq ?_ (State.modCan_moves ..) (Foot.sub0 (by decide +kernel))
  exact Moves.refl _

def Foot.canFrameRx : Foot := ⟨[], [], [.mem, .out, .evq, .fresh, .cans]⟩

theorem State.canFrameRx_moves (s : State) (n : Nat) (f : CanFrame) (ago : Nat) (ue : List Nat) :
    Moves (Foot.canFrameRx.at [(462916 + 65536 * (n % 16 / 8) + 4096 * (n % 8), 462916 + 65536 * (n % 16 / 8) + 4096 * (n % 8)),
      (4096 * ((462848 + 65536 * (n % 16 / 8) + 4096 * (n % 8)) / 4096) + 16, 4096 * ((462848 + 65536 * (n % 16 / 8) + 4096 * (n % 8))
      / 4096) + 16), (462948 + 65536 * (n % 16 / 8) + 4096 * (n % 8), 462948 + 65536 * (n % 16 / 8) + 4096 * (n % 8)),
      (462952 + 65536 * (n % 16 / 8) + 4096 * (n % 8), 462952 + 65536 * (n % 16 / 8) + 4096 * (n % 8)),
      (463112 + 65536 * (n % 16 / 8) + 4096 * (n % 8) + 16 * 0, 463112 + 65536 * (n % 16 / 8) + 4096 * (n % 8) + 16 * 15),
      (463108 + 65536 * (n % 16 / 8) + 4096 * (n % 8) + 16 * 0, 463108 + 65536 * (n % 16 / 8) + 4096 * (n % 8) + 16 * 15),
      (462960 + 65536 * (n % 16 / 8) + 4096 * (n % 8), 462960 + 65536 * (n % 16 / 8) + 4096 * (n % 8))]) s (State.canFrameRx s n f ago
      ue) := by
  unfold State.canFrameRx
  refine Moves.ite (fun hc => ?_) (fun hc => ?_)
  · exact Moves.refl _
  · extract_lets -merge -underBinder +onlyGivenNames x1
    refine Moves.let_ x1 ?_ ?_
    · subst x1
      refine Moves.seq ?_ (State.recDown_moves ..) (Foot.sub_at (by decide +kernel) (Foot.own_cons (Foot.holds_same (.head _)) (Foot.own_cons (Foot.holds_same (.tail _ (.head _))) (Foot.own_cons (Foot.holds_same (.tail _ (.tail _ (.head _)))) Foot.own_nil))))
      refine Moves.seq ?_ (State.canHeard_moves ..) (Foot.sub1 (by decide +kernel) (Foot.holds_same (.head _)))
      refine Moves.seq ?_ (State.wrapInc_moves _ _ (by first | (dsimp only [F.CB_CAN_RXCNT_FRAMES]; omega) | omega)) (Foot.sub1 (by decide +kernel) (Foot.holds_same (.tail _ (.tail _ (.tail _ (.head _))))))
      refine Moves.seq ?_ (State.canIntegrated_moves ..) (Foot.sub1 (by decide +kernel) (Foot.holds_same (.head _)))
      exact Moves.refl _
    intro h1
    try clear_value x1
    extract_lets -merge -underBinder +onlyGivenNames x2
    refine Moves.let_ x2 ?_ ?_
    · subst x2
      refine Moves.ite (fun hc => ?_) (fun hc => ?_)
      · refine Moves.seq ?_ (State.emit_moves ..) (Foot.sub0 (by decide +kernel))
        exact h1
      · exact h1
    intro h2
    try clear_value x2
    extract_lets -merge -underBinder +onlyGivenNames x3
    subst x3
    refine Moves.seq ?_ (State.canFilter_moves ..) (Foot.sub_at (by decide +kernel) (Foot.own_cons (Foot.holds_same (.tail _ (.head _))) (Foot.own_cons (Foot.holds_same (.tail _ (.tail _ (.tail _ (.tail _ (.head _)))))) (Foot.own_cons (Foot.holds_same (.tail _ (.tail _ (.tail _ (.tail _ (.tail _ (.head _))))))) (Foot.own_cons (Foot.holds_same (.tail _ (.tail _ (.tail _ (.tail _ (.tail _ (.tail _ (.head _)))))))) Foot.own_nil)))))
    refine Moves.seq ?_ (State.put_moves _ _ _ (by first | (dsimp only [F.CB_CAN_STAT_ACT]; omega) | omega)) (Foot.sub1 (by decide +kernel) (Foot.holds_same (.head _)))
    exact h2

def Foot.canHoldEnd : Foot := ⟨[], [], []⟩

theorem State.canHoldEnd_moves (s : State) (n : Nat) :
    Moves (Foot.canHoldEnd.at [(462916 + 65536 * (n % 16 / 8) + 4096 * (n % 8), 462916 + 65536 * (n % 16 / 8) + 4096 * (n % 8))]) s
      (State.canHoldEnd s n) := by
  unfold State.canHoldEnd
  refine Moves.ite (fun hc => ?_) (fun hc => ?_)
  · refine Moves.seq ?_ (State.canRecover_moves ..) (Foot.sub1 (by decide +kernel) (Foot.holds_same (.head _)))
    exact Moves.refl _
  · exact Moves.refl _

def Foot.canLost : Foot := ⟨[], [], [.mem, .cans]⟩

theorem State.canLost_moves (s : State) (n : Nat) (k : Nat) :
    Moves (Foot.canLost.at [(463108 + 65536 * (n % 16 / 8) + 4096 * (n % 8) + 16 * (k % 16), 463108 + 65536 * (n % 16 / 8) + 4096 * (n
      % 8) + 16 * (k % 16)),
      (463112 + 65536 * (n % 16 / 8) + 4096 * (n % 8) + 16 * (k % 16), 463112 + 65536 * (n % 16 / 8) + 4096 * (n % 8) + 16 * (k %
      16)),
      (4096 * ((462848 + 65536 * (n % 16 / 8) + 4096 * (n % 8)) / 4096) + 16, 4096 * ((462848 + 65536 * (n % 16 / 8) + 4096 * (n % 8))
      / 4096) + 16)]) s (State.canLost s n k) := by
  unfold State.canLost
  extract_lets -merge -underBinder +onlyGivenNames x1
  refine Moves.let_ x1 ?_ ?_
  · subst x1
    refine Moves.ite (fun hc => ?_) (fun hc => ?_)
    · refine Moves.seq ?_ (State.canComplete_moves ..) (Foot.sub_at (by decide +kernel) (Foot.own_cons (Foot.holds_same (.head _)) (Foot.own_cons (Foot.holds_same (.tail _ (.head _))) (Foot.own_cons (Foot.holds_same (.tail _ (.tail _ (.head _)))) Foot.own_nil))))
      exact Moves.refl _
    · exact Moves.refl _
  intro h1
  try clear_value x1
  refine Moves.seq ?_ (State.canAfter_moves ..) (Foot.sub_at (by decide +kernel) (Foot.own_cons (Foot.holds_same (.head _)) (Foot.own_cons (Foot.holds_same (.tail _ (.head _))) (Foot.own_cons (Foot.holds_same (.tail _ (.tail _ (.head _)))) Foot.own_nil))))
  exact h1

def Foot.canModeChg : Foot := ⟨[], [], [.mem, .cans]⟩

theorem State.canModeChg_moves (s : State) (n : Nat) :
    Moves (Foot.canModeChg.at [(462912 + 65536 * (n % 16 / 8) + 4096 * (n % 8), 462912 + 65536 * (n % 16 / 8) + 4096 * (n % 8)),
      (462916 + 65536 * (n % 16 / 8) + 4096 * (n % 8), 462916 + 65536 * (n % 16 / 8) + 4096 * (n % 8)),
      (459020 + 65536 * (n % 16 / 8) + 16 * (n % 8), 459020 + 65536 * (n % 16 / 8) + 16 * (n % 8)),
      (462944 + 65536 * (n % 16 / 8) + 4096 * (n % 8), 462944 + 65536 * (n % 16 / 8) + 4096 * (n % 8)),
      (463108 + 65536 * (n % 16 / 8) + 4096 * (n % 8) + 16 * 0, 463108 + 65536 * (n % 16 / 8) + 4096 * (n % 8) + 16 * 15),
      (463112 + 65536 * (n % 16 / 8) + 4096 * (n % 8) + 16 * 0, 463112 + 65536 * (n % 16 / 8) + 4096 * (n % 8) + 16 * 15),
      (4096 * ((462848 + 65536 * (n % 16 / 8) + 4096 * (n % 8)) / 4096) + 16, 4096 * ((462848 + 65536 * (n % 16 / 8) + 4096 * (n % 8))
      / 4096) + 16)]) s (State.canModeChg s n) := by
  unfold State.canModeChg
  extract_lets -merge -underBinder +onlyGivenNames x1
  subst x1
  refine Moves.ite (fun hc => ?_) (fun hc => ?_)
  · exact Moves.refl _
  · refine Moves.seq ?_ (State.canEnter_moves ..) (Foot.sub_at (by decide +kernel) (Foot.own_cons (Foot.holds_same (.head _)) (Foot.own_cons (Foot.holds_same (.tail _ (.head _))) (Foot.own_cons (Foot.holds_same (.tail _ (.tail _ (.head _)))) (Foot.own_cons (Foot.holds_same (.tail _ (.tail _ (.tail _ (.head _))))) (Foot.own_cons (Foot.holds_same (.tail _ (.tail _ (.tail _ (.tail _ (.head _)))))) (Foot.own_cons (Foot.holds_same (.tail _ (.tail _ (.tail _ (.tail _ (.tail _ (.head _))))))) (Foot.own_cons (Foot.holds_same (.tail _ (.tail _ (.tail _ (.tail _ (.tail _ (.tail _ (.head _)))))))) Foot.own_nil))))))))
    exact Moves.refl _

def Foot.canRecovered : Foot := ⟨[], [], [.evq]⟩

theorem State.canRecovered_moves (s : State) (n : Nat) :
    Moves (Foot.canRecovered.at [(4096 * ((462848 + 65536 * (n % 16 / 8) + 4096 * (n % 8)) / 4096) + 16, 4096 * ((462848 + 65536 * (n
      % 16 / 8) + 4096 * (n % 8)) / 4096) + 16),
      (462916 + 65536 * (n % 16 / 8) + 4096 * (n % 8), 462916 + 65536 * (n % 16 / 8) + 4096 * (n % 8)),
      (462948 + 65536 * (n % 16 / 8) + 4096 * (n % 8), 462948 + 65536 * (n % 16 / 8) + 4096 * (n % 8))]) s (State.canRecovered s n) :=
      by
  unfold State.canRecovered
  refine Moves.ite (fun hc => ?_) (fun hc => ?_)
  · refine Moves.seq ?_ (State.canStateChg_moves ..) (Foot.sub_at (by decide +kernel) (Foot.own_cons (Foot.holds_same (.head _)) (Foot.own_cons (Foot.holds_same (.tail _ (.head _))) (Foot.own_cons (Foot.holds_same (.tail _ (.tail _ (.head _)))) Foot.own_nil))))
    refine Moves.seq ?_ (State.put_moves _ _ _ (by first | (dsimp only [F.CB_CAN_STAT_REC]; omega) | omega)) (Foot.sub1 (by decide +kernel) (Foot.holds_same (.tail _ (.head _))))
    refine Moves.seq ?_ (State.put_moves _ _ _ (by first | (dsimp only [F.CB_CAN_STAT_TEC]; omega) | omega)) (Foot.sub1 (by decide +kernel) (Foot.holds_same (.tail _ (.head _))))
    refine Moves.seq ?_ (State.put_moves _ _ _ (by first | (dsimp only [F.CB_CAN_STAT_ACT]; omega) | omega)) (Foot.sub1 (by decide +kernel) (Foot.holds_same (.tail _ (.head _))))
    exact Moves.refl _
  · exact Moves.refl _

def Foot.canRxError : Foot := ⟨[], [], [.out, .evq]⟩

theorem State.canRxError_moves (s : State) (n : Nat) (kind : Nat) (dataPhase : Bool) (px : Bool) (exempt : Bool) (more : Nat) :
    Moves (Foot.canRxError.at [(462916 + 65536 * (n % 16 / 8) + 4096 * (n % 8), 462916 + 65536 * (n % 16 / 8) + 4096 * (n % 8)),
      (4096 * ((462848 + 65536 * (n % 16 / 8) + 4096 * (n % 8)) / 4096) + 16, 4096 * ((462848 + 65536 * (n % 16 / 8) + 4096 * (n % 8))
      / 4096) + 16), (462960 + 65536 * (n % 16 / 8) + 4096 * (n % 8), 462960 + 65536 * (n % 16 / 8) + 4096 * (n % 8)),
      (462948 + 65536 * (n % 16 / 8) + 4096 * (n % 8), 462948 + 65536 * (n % 16 / 8) + 4096 * (n % 8))]) s (State.canRxError s n kind
      dataPhase px exempt more) := by
  unfold State.canRxError
  refine Moves.ite (fun hc => ?_) (fun hc => ?_)
  · exact Moves.refl _
  · refine Moves.ite (fun hc => ?_) (fun hc => ?_)
    · refine Moves.seq ?_ (State.put_moves _ _ _ (by first | (dsimp only [F.CB_CAN_STAT_STATE]; omega) | omega)) (Foot.sub1 (by decide +kernel) (Foot.holds_same (.head _)))
      refine Moves.seq ?_ (State.raise_moves ..) (Foot.sub1 (by decide +kernel) (Foot.holds_same (.tail _ (.head _))))
      refine Moves.seq ?_ (State.satInc_moves _ _ (by first | (dsimp only [F.CB_CAN_FCNT_PX]; omega) | omega)) (Foot.sub1 (by decide +kernel) (Foot.holds_same (.tail _ (.tail _ (.head _)))))
      exact Moves.refl _
    · refine Moves.ite (fun hc => ?_) (fun hc => ?_)
      · refine Moves.ite (fun hc => ?_) (fun hc => ?_)
        · refine Moves.seq ?_ (State.emit_moves ..) (Foot.sub0 (by decide +kernel))
          exact Moves.refl _
        · exact Moves.refl _
      · extract_lets -merge -underBinder +onlyGivenNames x1
        refine Moves.let_ x1 ?_ ?_
        · subst x1
          refine Moves.ite (fun hc => ?_) (fun hc => ?_)
          · refine Moves.seq ?_ (State.put_moves _ _ _ (by first | (dsimp only [F.CB_CAN_STAT_STATE]; omega) | omega)) (Foot.sub1 (by decide +kernel) (Foot.holds_same (.head _)))
            exact Moves.refl _
          · exact Moves.refl _
        intro h1
        try clear_value x1
        extract_lets -merge -underBinder +onlyGivenNames x2
        refine Moves.let_ x2 ?_ ?_
        · subst x2
          refine Moves.seq ?_ (State.canErrFlag_moves ..) (Foot.sub0 (by decide +kernel))
          refine Moves.seq ?_ (State.canErrCode_moves ..) (Foot.sub1 (by decide +kernel) (Foot.holds_same (.head _)))
          exact h1
        intro h2
        try clear_value x2
        refine Moves.seq ?_ (State.canCounts_moves ..) (Foot.sub_at (by decide +kernel) (Foot.own_cons (Foot.holds_same (.head _)) (Foot.own_cons (Foot.holds_same (.tail _ (.head _))) (Foot.own_cons (Foot.holds_same (.tail _ (.tail _ (.tail _ (.head _))))) Foot.own_nil))))
        refine Moves.seq ?_ (State.put_moves _ _ _ (by first | (dsimp only [F.CB_CAN_STAT_ACT]; omega) | omega)) (Foot.sub1 (by decide +kernel) (Foot.holds_same (.head _)))
        exact h2

def Foot.canSent : Foot := ⟨[], [], [.mem, .evq, .cans]⟩

theorem State.canSent_moves (s : State) (n : Nat) (t : CanTx) (ue : List Nat) :
    Moves (Foot.canSent.at [(462916 + 65536 * (n % 16 / 8) + 4096 * (n % 8), 462916 + 65536 * (n % 16 / 8) + 4096 * (n % 8)),
      (462956 + 65536 * (n % 16 / 8) + 4096 * (n % 8), 462956 + 65536 * (n % 16 / 8) + 4096 * (n % 8)),
      (4096 * ((462848 + 65536 * (n % 16 / 8) + 4096 * (n % 8)) / 4096) + 16, 4096 * ((462848 + 65536 * (n % 16 / 8) + 4096 * (n % 8))
      / 4096) + 16), (462948 + 65536 * (n % 16 / 8) + 4096 * (n % 8), 462948 + 65536 * (n % 16 / 8) + 4096 * (n % 8)),
      (463112 + 65536 * (n % 16 / 8) + 4096 * (n % 8) + 16 * 0, 463112 + 65536 * (n % 16 / 8) + 4096 * (n % 8) + 16 * 15),
      (463108 + 65536 * (n % 16 / 8) + 4096 * (n % 8) + 16 * 0, 463108 + 65536 * (n % 16 / 8) + 4096 * (n % 8) + 16 * 15),
      (462960 + 65536 * (n % 16 / 8) + 4096 * (n % 8), 462960 + 65536 * (n % 16 / 8) + 4096 * (n % 8)),
      (462952 + 65536 * (n % 16 / 8) + 4096 * (n % 8), 462952 + 65536 * (n % 16 / 8) + 4096 * (n % 8)),
      (459020 + 65536 * (n % 16 / 8) + 16 * (n % 8), 459020 + 65536 * (n % 16 / 8) + 16 * (n % 8)),
      (463108 + 65536 * (n % 16 / 8) + 4096 * (n % 8) + 16 * (t.queue % 16), 463108 + 65536 * (n % 16 / 8) + 4096 * (n % 8) + 16 *
      (t.queue % 16)),
      (463112 + 65536 * (n % 16 / 8) + 4096 * (n % 8) + 16 * (t.queue % 16), 463112 + 65536 * (n % 16 / 8) + 4096 * (n % 8) + 16 *
      (t.queue % 16))]) s (State.canSent s n t ue) := by
  unfold State.canSent
  extract_lets -merge -underBinder +onlyGivenNames x1
  refine Moves.let_ x1 ?_ ?_
  · subst x1
    refine Moves.seq ?_ (State.canHeard_moves ..) (Foot.sub1 (by decide +kernel) (Foot.holds_same (.head _)))
    refine Moves.seq ?_ (State.wrapInc_moves _ _ (by first | (dsimp only [F.CB_CAN_TXCNT_FRAMES]; omega) | omega)) (Foot.sub1 (by decide +kernel) (Foot.holds_same (.tail _ (.head _))))
    exact Moves.refl _
  intro h1
  try clear_value x1
  extract_lets -merge -underBinder +onlyGivenNames x2
  refine Moves.let_ x2 ?_ ?_
  · subst x2
    refine Moves.seq ?_ (State.canCounts_moves ..) (Foot.sub_at (by decide +kernel) (Foot.own_cons (Foot.holds_same (.head _)) (Foot.own_cons (Foot.holds_same (.tail _ (.tail _ (.head _)))) (Foot.own_cons (Foot.holds_same (.tail _ (.tail _ (.tail _ (.head _))))) Foot.own_nil))))
    exact h1
  intro h2
  try clear_value x2
  extract_lets -merge -underBinder +onlyGivenNames x3
  refine Moves.let_ x3 ?_ ?_
  · subst x3
    refine Moves.ite (fun hc => ?_) (fun hc => ?_)
    · refine Moves.seq ?_ (State.canFilter_moves ..) (Foot.sub_at (by decide +kernel) (Foot.own_cons (Foot.holds_same (.tail _ (.tail _ (.head _)))) (Foot.own_cons (Foot.holds_same (.tail _ (.tail _ (.tail _ (.tail _ (.head _)))))) (Foot.own_cons (Foot.holds_same (.tail _ (.tail _ (.tail _ (.tail _ (.tail _ (.head _))))))) (Foot.own_cons (Foot.holds_same (.tail _ (.tail _ (.tail _ (.tail _ (.tail _ (.tail _ (.head _)))))))) Foot.own_nil)))))
      refine Moves.seq ?_ (State.wrapInc_moves _ _ (by first | (dsimp only [F.CB_CAN_RXCNT_FRAMES]; omega) | omega)) (Foot.sub1 (by decide +kernel) (Foot.holds_same (.tail _ (.tail _ (.tail _ (.tail _ (.tail _ (.tail _ (.tail _ (.head _))))))))))
      exact h2
    · exact h2
  intro h3
  try clear_value x3
  refine Moves.ite (fun hc => ?_) (fun hc => ?_)
  · extract_lets -merge -underBinder +onlyGivenNames x4
    refine Moves.let_ x4 ?_ ?_
    · subst x4
      split
      · refine Moves.seq ?_ (State.put_moves _ _ _ (by first | (dsimp only [F.CB_CTRL_TM_STAT_CC]; omega) | omega)) (Foot.sub1 (by decide +kernel) (Foot.holds_same (.tail _ (.tail _ (.tail _ (.tail _ (.tail _ (.tail _ (.tail _ (.tail _ (.head _)))))))))))
        exact h3
      · exact h3
    intro h4
    try clear_value x4
    refine Moves.seq ?_ (State.modCan_moves ..) (Foot.sub0 (by decide +kernel))
    exact h4
  · refine Moves.ite (fun hc => ?_) (fun hc => ?_)
    · exact h3
    · refine Moves.seq ?_ (State.canAfter_moves ..) (Foot.sub_at (by decide +kernel) (Foot.own_cons (Foot.holds_same (.tail _ (.tail _ (.tail _ (.tail _ (.tail _ (.tail _ (.tail _ (.tail _ (.tail _ (.head _))))))))))) (Foot.own_cons (Foot.holds_same (.tail _ (.tail _ (.tail _ (.tail _ (.tail _ (.tail _ (.tail _ (.tail _ (.tail _ (.tail _ (.head _)))))))))))) (Foot.own_cons (Foot.holds_same (.tail _ (.tail _ (.head _)))) Foot.own_nil))))
      refine Moves.seq ?_ (State.canComplete_moves ..) (Foot.sub_at (by decide +kernel) (Foot.own_cons (Foot.holds_same (.tail _ (.tail _ (.tail _ (.tail _ (.tail _ (.tail _ (.tail _ (.tail _ (.tail _ (.head _))))))))))) (Foot.own_cons (Foot.holds_same (.tail _ (.tail _ (.tail _ (.tail _ (.tail _ (.tail _ (.tail _ (.tail _ (.tail _ (.tail _ (.head _)))))))))))) (Foot.own_cons (Foot.holds_same (.tail _ (.tail _ (.head _)))) Foot.own_nil))))
      exact h3

def Foot.canShowLoop : Foot := ⟨[], [], []⟩

theorem State.canShowLoop_moves (s : State) (n : Nat) (x2 : Option Nat) :
    Moves (Foot.canShowLoop.at [(462928 + 65536 * (n % 16 / 8) + 4096 * (n % 8), 462928 + 65536 * (n % 16 / 8) + 4096 * (n % 8))]) s
      (State.canShowLoop s n x2) := by
  unfold State.canShowLoop
  split
  · refine Moves.seq ?_ (State.put_moves _ _ _ (by first | (dsimp only [F.CB_CAN_SSP_LOOP]; omega) | omega)) (Foot.sub1 (by decide +kernel) (Foot.holds_same (.head _)))
    exact Moves.refl _
  · exact Moves.refl _

def Foot.canStart : Foot := ⟨[], [], [.mem, .cans]⟩

theorem State.canStart_moves (s : State) (n : Nat) :
    Moves (Foot.canStart.at [(4096 * ((462848 + 65536 * (n % 16 / 8) + 4096 * (n % 8)) / 4096) + 16, 4096 * ((462848 + 65536 * (n % 16
      / 8) + 4096 * (n % 8)) / 4096) + 16),
      (462912 + 65536 * (n % 16 / 8) + 4096 * (n % 8), 462912 + 65536 * (n % 16 / 8) + 4096 * (n % 8)),
      (462916 + 65536 * (n % 16 / 8) + 4096 * (n % 8), 462916 + 65536 * (n % 16 / 8) + 4096 * (n % 8)),
      (459020 + 65536 * (n % 16 / 8) + 16 * (n % 8), 459020 + 65536 * (n % 16 / 8) + 16 * (n % 8)),
      (462944 + 65536 * (n % 16 / 8) + 4096 * (n % 8), 462944 + 65536 * (n % 16 / 8) + 4096 * (n % 8)),
      (463108 + 65536 * (n % 16 / 8) + 4096 * (n % 8) + 16 * 0, 463108 + 65536 * (n % 16 / 8) + 4096 * (n % 8) + 16 * 15),
      (463112 + 65536 * (n % 16 / 8) + 4096 * (n % 8) + 16 * 0, 463112 + 65536 * (n % 16 / 8) + 4096 * (n % 8) + 16 * 15)]) s
      (State.canStart s n) := by
  unfold State.canStart
  extract_lets -merge -underBinder +onlyGivenNames x1
  subst x1
  refine Moves.ite (fun hc => ?_) (fun hc => ?_)
  · exact Moves.refl _
  · extract_lets -merge -underBinder +onlyGivenNames x2
    subst x2
    refine Moves.ite (fun hc => ?_) (fun hc => ?_)
    · refine Moves.seq ?_ (State.raise_moves ..) (Foot.sub1 (by decide +kernel) (Foot.holds_same (.head _)))
      refine Moves.seq ?_ (State.canEnter_moves ..) (Foot.sub_at (by decide +kernel) (Foot.own_cons (Foot.holds_same (.tail _ (.head _))) (Foot.own_cons (Foot.holds_same (.tail _ (.tail _ (.head _)))) (Foot.own_cons (Foot.holds_same (.tail _ (.tail _ (.tail _ (.head _))))) (Foot.own_cons (Foot.holds_same (.tail _ (.tail _ (.tail _ (.tail _ (.head _)))))) (Foot.own_cons (Foot.holds_same (.tail _ (.tail _ (.tail _ (.tail _ (.tail _ (.head _))))))) (Foot.own_cons (Foot.holds_same (.tail _ (.tail _ (.tail _ (.tail _ (.tail _ (.tail _ (.head _)))))))) (Foot.own_cons (Foot.holds_same (.head _)) Foot.own_nil))))))))
      exact Moves.refl _
    · extract_lets -merge -underBinder +onlyGivenNames x3
      refine Moves.let_ x3 ?_ ?_
      · subst x3
        refine Moves.seq ?_ (State.modCan_moves ..) (Foot.sub0 (by decide +kernel))
        exact Moves.refl _
      intro h3
      try clear_value x3
      refine Moves.ite (fun hc => ?_) (fun hc => ?_)
      · exact h3
      · refine Moves.seq ?_ (State.put_moves _ _ _ (by first | (dsimp only [F.CB_CAN_STAT_STATE]; omega) | omega)) (Foot.sub1 (by decide +kernel) (Foot.holds_same (.tail _ (.tail _ (.head _)))))
        exact h3

def Foot.canSubmit : Foot := ⟨[], [], [.mem, .cans]⟩

theorem State.canSubmit_moves (s : State) (n : Nat) (tag : Nat) (f : CanFrame) :
    Moves (Foot.canSubmit.at [(4096 * ((462848 + 65536 * (n % 16 / 8) + 4096 * (n % 8)) / 4096) + 16, 4096 * ((462848 + 65536 * (n %
      16 / 8) + 4096 * (n % 8)) / 4096) + 16),
      (463112 + 65536 * (n % 16 / 8) + 4096 * (n % 8) + 16 * 0, 463112 + 65536 * (n % 16 / 8) + 4096 * (n % 8) + 16 * 15),
      (463108 + 65536 * (n % 16 / 8) + 4096 * (n % 8) + 16 * 0, 463108 + 65536 * (n % 16 / 8) + 4096 * (n % 8) + 16 * 15)]) s
      (State.canSubmit s n tag f) := by
  unfold State.canSubmit
  split
  · extract_lets -merge -underBinder +onlyGivenNames x1
    refine Moves.let_ x1 ?_ ?_
    · subst x1
      refine Moves.seq ?_ (State.raise_moves ..) (Foot.sub1 (by decide +kernel) (Foot.holds_same (.head _)))
      exact Moves.refl _
    intro h1
    try clear_value x1
    split
    · refine Moves.seq ?_ (State.satInc_moves _ _ (by first | (dsimp only [F.CB_CAN_QCNT_LOST]; omega) | omega)) (Foot.sub1 (by decide +kernel) (Foot.holds_own (.tail _ (.head _)) (by first | (dsimp only [F.CB_CAN_QCNT_LOST]; omega) | omega) (by first | (dsimp only [F.CB_CAN_QCNT_LOST]; omega) | omega)))
      exact h1
    · exact h1
  · refine Moves.ite (fun hc => ?_) (fun hc => ?_)
    · refine Moves.seq ?_ (State.satInc_moves _ _ (by first | (dsimp only [F.CB_CAN_QCNT_LOST]; omega) | omega)) (Foot.sub1 (by decide +kernel) (Foot.holds_own (.tail _ (.head _)) (by first | (dsimp only [F.CB_CAN_QCNT_LOST]; omega) | omega) (by first | (dsimp only [F.CB_CAN_QCNT_LOST]; omega) | omega)))
      refine Moves.seq ?_ (State.raise_moves ..) (Foot.sub1 (by decide +kernel) (Foot.holds_same (.head _)))
      exact Moves.refl _
    · extract_lets -merge -underBinder +onlyGivenNames x2
      subst x2
      split
      · refine Moves.seq ?_ (State.satInc_moves _ _ (by first | (dsimp only [F.CB_CAN_QCNT_REPL]; omega) | omega)) (Foot.sub1 (by decide +kernel) (Foot.holds_own (.tail _ (.head _)) (by first | (dsimp only [F.CB_CAN_QCNT_REPL]; omega) | omega) (by first | (dsimp only [F.CB_CAN_QCNT_REPL]; omega) | omega)))
        refine Moves.seq ?_ (State.wrBytes_moves ..) (Foot.sub0 (by decide +kernel))
        exact Moves.refl _
      · refine Moves.ite (fun hc => ?_) (fun hc => ?_)
        · refine Moves.seq ?_ (State.satInc_moves _ _ (by first | (dsimp only [F.CB_CAN_QCNT_LOST]; omega) | omega)) (Foot.sub1 (by decide +kernel) (Foot.holds_own (.tail _ (.head _)) (by first | (dsimp only [F.CB_CAN_QCNT_LOST]; omega) | omega) (by first | (dsimp only [F.CB_CAN_QCNT_LOST]; omega) | omega)))
          exact Moves.refl _
        · refine Moves.seq ?_ (State.canMuted_moves ..) (Foot.sub_at (by decide +kernel) (Foot.own_cons (Foot.holds_same (.tail _ (.tail _ (.head _)))) (Foot.own_cons (Foot.holds_same (.tail _ (.head _))) (Foot.own_cons (Foot.holds_same (.head _)) Foot.own_nil))))
          refine Moves.seq ?_ (State.qStep_moves _ _ _ _ (by first | (dsimp only [fPut, R.CB_CAN_QPTR]; omega) | omega)) (Foot.sub1 (by decide +kernel) (Foot.holds_own (.tail _ (.tail _ (.head _))) (by first | (dsimp only [fPut, R.CB_CAN_QPTR]; omega) | omega) (by first | (dsimp only [fPut, R.CB_CAN_QPTR]; omega) | omega)))
          refine Moves.seq ?_ (State.wrBytes_moves ..) (Foot.sub0 (by decide +kernel))
          exact Moves.refl _

def Foot.canTxEnd : Foot := ⟨[], [], [.mem, .out, .evq, .cans]⟩

theorem State.canTxEnd_moves (s : State) (n : Nat) (e : CanTxEnd) (loop : Option Nat) (ue : List Nat) :
    Moves (Foot.canTxEnd.at [(462916 + 65536 * (n % 16 / 8) + 4096 * (n % 8), 462916 + 65536 * (n % 16 / 8) + 4096 * (n % 8)),
      (463108 + 65536 * (n % 16 / 8) + 4096 * (n % 8) + 16 * 0, 463108 + 65536 * (n % 16 / 8) + 4096 * (n % 8) + 16 * 15),
      (463112 + 65536 * (n % 16 / 8) + 4096 * (n % 8) + 16 * 0, 463112 + 65536 * (n % 16 / 8) + 4096 * (n % 8) + 16 * 15),
      (4096 * ((462848 + 65536 * (n % 16 / 8) + 4096 * (n % 8)) / 4096) + 16, 4096 * ((462848 + 65536 * (n % 16 / 8) + 4096 * (n % 8))
      / 4096) + 16), (462928 + 65536 * (n % 16 / 8) + 4096 * (n % 8), 462928 + 65536 * (n % 16 / 8) + 4096 * (n % 8)),
      (462948 + 65536 * (n % 16 / 8) + 4096 * (n % 8), 462948 + 65536 * (n % 16 / 8) + 4096 * (n % 8)),
      (462964 + 65536 * (n % 16 / 8) + 4096 * (n % 8), 462964 + 65536 * (n % 16 / 8) + 4096 * (n % 8)),
      (462956 + 65536 * (n % 16 / 8) + 4096 * (n % 8), 462956 + 65536 * (n % 16 / 8) + 4096 * (n % 8)),
      (462960 + 65536 * (n % 16 / 8) + 4096 * (n % 8), 462960 + 65536 * (n % 16 / 8) + 4096 * (n % 8)),
      (462952 + 65536 * (n % 16 / 8) + 4096 * (n % 8), 462952 + 65536 * (n % 16 / 8) + 4096 * (n % 8)),
      (459020 + 65536 * (n % 16 / 8) + 16 * (n % 8), 459020 + 65536 * (n % 16 / 8) + 16 * (n % 8))]) s (State.canTxEnd s n e loop ue)
      := by
  unfold State.canTxEnd
  split
  · exact Moves.refl _
  · extract_lets -merge -underBinder +onlyGivenNames x1
    refine Moves.let_ x1 ?_ ?_
    · subst x1
      refine Moves.seq ?_ (State.put_moves _ _ _ (by first | (dsimp only [F.CB_CAN_STAT_ACT]; omega) | omega)) (Foot.sub1 (by decide +kernel) (Foot.holds_same (.head _)))
      refine Moves.seq ?_ (State.modCan_moves ..) (Foot.sub0 (by decide +kernel))
      exact Moves.refl _
    intro h1
    try clear_value x1
    split
    · refine Moves.ite (fun hc => ?_) (fun hc => ?_)
      · refine Moves.seq ?_ (State.canLost_moves ..) (Foot.sub_at (by decide +kernel) (Foot.own_cons (Foot.holds_own (.tail _ (.head _)) (by first | omega | (dsimp only; omega)) (by first | omega | (dsimp only; omega))) (Foot.own_cons (Foot.holds_own (.tail _ (.tail _ (.head _))) (by first | omega | (dsimp only; omega)) (by first | omega | (dsimp only; omega))) (Foot.own_cons (Foot.holds_same (.tail _ (.tail _ (.tail _ (.head _))))) Foot.own_nil))))
        exact h1
      · exact h1
    · extract_lets -merge -underBinder +onlyGivenNames x2
      refine Moves.let_ x2 ?_ ?_
      · subst x2
        refine Moves.seq ?_ (State.canShowLoop_moves ..) (Foot.sub1 (by decide +kernel) (Foot.holds_same (.tail _ (.tail _ (.tail _ (.tail _ (.head _)))))))
        exact h1
      intro h2
      try clear_value x2
      refine Moves.ite (fun hc => ?_) (fun hc => ?_)
      · refine Moves.seq ?_ (State.canFailed_moves ..) (Foot.sub_at (by decide +kernel) (Foot.own_cons (Foot.holds_same (.head _)) (Foot.own_cons (Foot.holds_same (.tail _ (.tail _ (.tail _ (.tail _ (.tail _ (.head _))))))) (Foot.own_cons (Foot.holds_same (.tail _ (.tail _ (.tail _ (.tail _ (.tail _ (.tail _ (.head _)))))))) (Foot.own_cons (Foot.holds_same (.tail _ (.tail _ (.tail _ (.head _))))) (Foot.own_cons (Foot.holds_own (.tail _ (.head _)) (by first | omega | (dsimp only; omega)) (by first | omega | (dsimp only; omega))) (Foot.own_cons (Foot.holds_own (.tail _ (.tail _ (.head _))) (by first | omega | (dsimp only; omega)) (by first | omega | (dsimp only; omega))) Foot.own_nil)))))))
        exact h2
      · refine Moves.seq ?_ (State.canSent_moves ..) (Foot.sub_at (by decide +kernel) (Foot.own_cons (Foot.holds_same (.head _)) (Foot.own_cons (Foot.holds_same (.tail _ (.tail _ (.tail _ (.tail _ (.tail _ (.tail _ (.tail _ (.head _))))))))) (Foot.own_cons (Foot.holds_same (.tail _ (.tail _ (.tail _ (.head _))))) (Foot.own_cons (Foot.holds_same (.tail _ (.tail _ (.tail _ (.tail _ (.tail _ (.head _))))))) (Foot.own_cons (Foot.holds_same (.tail _ (.tail _ (.head _)))) (Foot.own_cons (Foot.holds_same (.tail _ (.head _))) (Foot.own_cons (Foot.holds_same (.tail _ (.tail _ (.tail _ (.tail _ (.tail _ (.tail _ (.tail _ (.tail _ (.head _)))))))))) (Foot.own_cons (Foot.holds_same (.tail _ (.tail _ (.tail _ (.tail _ (.tail _ (.tail _ (.tail _ (.tail _ (.tail _ (.head _))))))))))) (Foot.own_cons (Foot.holds_same (.tail _ (.tail _ (.tail _ (.tail _ (.tail _ (.tail _ (.tail _ (.tail _ (.tail _ (.tail _ (.head _)))))))))))) (Foot.own_cons (Foot.holds_own (.tail _ (.head _)) (by first | omega | (dsimp only; omega)) (by first | omega | (dsimp only; omega))) (Foot.own_cons (Foot.holds_own (.tail _ (.tail _ (.head _))) (by first | omega | (dsimp only; omega)) (by first | omega | (dsimp only; omega))) Foot.own_nil))))))))))))
        exact h2
    · extract_lets -merge -underBinder +onlyGivenNames x3
      refine Moves.let_ x3 ?_ ?_
      · subst x3
        refine Moves.seq ?_ (State.canShowLoop_moves ..) (Foot.sub1 (by decide +kernel) (Foot.holds_same (.tail _ (.tail _ (.tail _ (.tail _ (.head _)))))))
        exact h1
      intro h3
      try clear_value x3
      refine Moves.ite (fun hc => ?_) (fun hc => ?_)
      · refine Moves.seq ?_ (State.canFailed_moves ..) (Foot.sub_at (by decide +kernel) (Foot.own_cons (Foot.holds_same (.head _)) (Foot.own_cons (Foot.holds_same (.tail _ (.tail _ (.tail _ (.tail _ (.tail _ (.head _))))))) (Foot.own_cons (Foot.holds_same (.tail _ (.tail _ (.tail _ (.tail _ (.tail _ (.tail _ (.head _)))))))) (Foot.own_cons (Foot.holds_same (.tail _ (.tail _ (.tail _ (.head _))))) (Foot.own_cons (Foot.holds_own (.tail _ (.head _)) (by first | omega | (dsimp only; omega)) (by first | omega | (dsimp only; omega))) (Foot.own_cons (Foot.holds_own (.tail _ (.tail _ (.head _))) (by first | omega | (dsimp only; omega)) (by first | omega | (dsimp only; omega))) Foot.own_nil)))))))
        exact h3
      · refine Moves.seq ?_ (State.canFailed_moves ..) (Foot.sub_at (by decide +kernel) (Foot.own_cons (Foot.holds_same (.head _)) (Foot.own_cons (Foot.holds_same (.tail _ (.tail _ (.tail _ (.tail _ (.tail _ (.head _))))))) (Foot.own_cons (Foot.holds_same (.tail _ (.tail _ (.tail _ (.tail _ (.tail _ (.tail _ (.head _)))))))) (Foot.own_cons (Foot.holds_same (.tail _ (.tail _ (.tail _ (.head _))))) (Foot.own_cons (Foot.holds_own (.tail _ (.head _)) (by first | omega | (dsimp only; omega)) (by first | omega | (dsimp only; omega))) (Foot.own_cons (Foot.holds_own (.tail _ (.tail _ (.head _))) (by first | omega | (dsimp only; omega)) (by first | omega | (dsimp only; omega))) Foot.own_nil)))))))
        exact h3

def Foot.carryPair : Foot := ⟨[(0x006048, 0x006048), (0x0B0010, 0x0B0010), (0x0B0048, 0x0B004C)], [], [.out, .evq, .acc]⟩

theorem State.carryPair_moves {F : Foot} {r s : State} {q : Requester} {offHi : Nat} {offLo : Nat} {hi : Word} {lo : Word} {f : State → State}
    (h :
    Moves F r s) (hF : Foot.Sub (Foot.carryPair.at [(4096 * (pageOf offLo / 4096) + 36, 4096 * (pageOf offLo / 4096) + 36),
      (4096 * (pageOf offLo / 4096) + 16, 4096 * (pageOf offLo / 4096) + 16),
      (4096 * (pageOf offHi / 4096) + 36, 4096 * (pageOf offHi / 4096) + 36),
      (4096 * (pageOf offHi / 4096) + 16, 4096 * (pageOf offHi / 4096) + 16)]) F) (f_ok : ∀ x , Moves F r x → Moves F r (f x)) : Moves
      F r (State.carryPair s q offHi offLo hi lo f) := by
  unfold State.carryPair
  refine State.carry_moves ?_ ((Foot.sub_at (by decide +kernel) (Foot.own_cons (Foot.holds_same (.head _)) (Foot.own_cons (Foot.holds_same (.tail _ (.head _))) Foot.own_nil))).trans hF) (fun x2 h2 => ?_)
  · refine State.carry_moves ?_ ((Foot.sub_at (by decide +kernel) (Foot.own_cons (Foot.holds_same (.tail _ (.tail _ (.head _)))) (Foot.own_cons (Foot.holds_same (.tail _ (.tail _ (.tail _ (.head _))))) Foot.own_nil))).trans hF) (fun x1 h1 => ?_)
    · exact h
    · refine Moves.seq ?_ (State.holdHigh_moves ..) ((Foot.sub1 (by decide +kernel) (Foot.holds_same (.tail _ (.tail _ (.tail _ (.head _)))))).trans hF)
      exact h1
  · refine f_ok _  ?_
    exact h2

def Foot.dropOther : Foot := ⟨[], [], [.acc]⟩

theorem State.dropOther_moves (s : State) (q : Requester) (off : Nat) :
    Moves (Foot.dropOther.at []) s (State.dropOther s q off) := by
  unfold State.dropOther
  split
  · refine Moves.ite (fun hc => ?_) (fun hc => ?_)
    · exact Moves.refl _
    · refine Moves.seq ?_ (State.setHeld_moves ..) (Foot.sub0 (by decide +kernel))
      exact Moves.refl _
  · exact Moves.refl _

def Foot.carryRead : Foot := ⟨[(0x006048, 0x006048), (0x0B0010, 0x0B0010), (0x0B0048, 0x0B004C)], [], [.out, .evq, .acc]⟩

theorem State.carryRead_moves {F : Foot} {r s : State} {q : Requester} {off : Nat} {f : State → Word × State}
    (h :
    Moves F r s) (hF : Foot.Sub (Foot.carryRead.at [(4096 * (pageOf off / 4096) + 36, 4096 * (pageOf off / 4096) + 36)]) F) (f_ok : ∀
      x , Moves F r x → Moves F r (f x).2) : Moves F r (State.carryRead s q off f) := by
  unfold State.carryRead
  refine Moves.ite (fun hc => ?_) (fun hc => ?_)
  · exact h
  · refine Moves.ite (fun hc => ?_) (fun hc => ?_)
    · refine Moves.seq ?_ (State.unmappedAccess_moves ..) ((Foot.sub0 (by decide +kernel)).trans hF)
      exact h
    · refine Moves.ite (fun hc => ?_) (fun hc => ?_)
      · refine Moves.seq ?_ (State.offAccess_moves ..) ((Foot.sub0 (by decide +kernel)).trans hF)
        exact h
      · extract_lets -merge -underBinder +onlyGivenNames x1
        refine Moves.let_ x1 ?_ ?_
        · subst x1
          refine Moves.seq ?_ (State.dropOther_moves ..) ((Foot.sub0 (by decide +kernel)).trans hF)
          exact h
        intro h1
        try clear_value x1
        refine Moves.ite (fun hc => ?_) (fun hc => ?_)
        · refine Moves.seq ?_ (State.countAccess_moves ..) ((Foot.sub1 (by decide +kernel) (Foot.holds_same (.head _))).trans hF)
          refine Moves.seq ?_ (State.emit_moves ..) ((Foot.sub0 (by decide +kernel)).trans hF)
          exact h1
        · extract_lets -merge -underBinder +onlyGivenNames x2
          subst x2
          refine Moves.seq ?_ (State.countAccess_moves ..) ((Foot.sub1 (by decide +kernel) (Foot.holds_same (.head _))).trans hF)
          refine Moves.seq ?_ (State.emit_moves ..) ((Foot.sub0 (by decide +kernel)).trans hF)
          refine f_ok _  ?_
          exact h1

def Foot.recover : Foot := ⟨[(0x037010, 0x037010)], [], [.mem]⟩

theorem State.recover_moves (s : State) (k : Nat) (seq : Nat) : Moves (Foot.recover.at []) s ((State.recover s k seq)).2 := by
  unfold State.recover
  extract_lets -merge -underBinder +onlyGivenNames x1
  subst x1
  extract_lets -merge -underBinder +onlyGivenNames x2
  subst x2
  extract_lets -merge -underBinder +onlyGivenNames x3
  subst x3
  extract_lets -merge -underBinder +onlyGivenNames x4
  subst x4
  refine Moves.ite_snd (fun hc => ?_) (fun hc => ?_)
  · refine Moves.seq ?_ (State.wrByte_moves ..) (Foot.sub0 (by decide +kernel))
    refine Moves.seq ?_ (State.wrNum_moves ..) (Foot.sub0 (by decide +kernel))
    refine Moves.seq ?_ (State.wrNum_moves ..) (Foot.sub0 (by decide +kernel))
    exact Moves.refl _
  · extract_lets -merge -underBinder +onlyGivenNames x5
    subst x5
    refine Moves.ite_snd (fun hc => ?_) (fun hc => ?_)
    · refine Moves.seq ?_ (State.raise_moves ..) (Foot.sub1 (by decide +kernel) (Foot.holds_reg (by decide +kernel)))
      refine Moves.seq ?_ (State.satMem_moves ..) (Foot.sub0 (by decide +kernel))
      exact Moves.refl _
    · refine Moves.ite_snd (fun hc => ?_) (fun hc => ?_)
      · refine Moves.ite_snd (fun hc => ?_) (fun hc => ?_)
        · refine Moves.seq ?_ (State.satMem_moves ..) (Foot.sub0 (by decide +kernel))
          exact Moves.refl _
        · refine Moves.seq ?_ (State.wrNum_moves ..) (Foot.sub0 (by decide +kernel))
          exact Moves.refl _
      · refine Moves.seq ?_ (State.wrNum_moves ..) (Foot.sub0 (by decide +kernel))
        refine Moves.seq ?_ (State.wrNum_moves ..) (Foot.sub0 (by decide +kernel))
        exact Moves.refl _

def Foot.cbCheck : Foot := ⟨[(0x037010, 0x037010)], [], [.mem]⟩

theorem State.cbCheck_moves (s : State) (vid : Nat) (f : EthFrame) : Moves (Foot.cbCheck.at []) s ((State.cbCheck s vid f)).2 := by
  unfold State.cbCheck
  refine Moves.ite_snd (fun hc => ?_) (fun hc => ?_)
  · exact Moves.refl _
  · split
    · refine Moves.seq ?_ (State.recover_moves ..) (Foot.sub0 (by decide +kernel))
      exact Moves.refl _
    · exact Moves.refl _

def Foot.cbReset : Foot := ⟨[(0x037010, 0x037010)], [], [.mem]⟩

theorem State.cbReset_moves (s : State) (k : Nat) : Moves (Foot.cbReset.at []) s (State.cbReset s k) := by
  unfold State.cbReset
  refine Moves.ite (fun hc => ?_) (fun hc => ?_)
  · exact Moves.refl _
  · refine Moves.seq ?_ (State.raise_moves ..) (Foot.sub1 (by decide +kernel) (Foot.holds_reg (by decide +kernel)))
    refine Moves.seq ?_ (State.satMem_moves ..) (Foot.sub0 (by decide +kernel))
    refine Moves.seq ?_ (State.wrByte_moves ..) (Foot.sub0 (by decide +kernel))
    exact Moves.refl _

def Foot.ceHourEnd : Foot := ⟨[(0x000054, 0x000054), (0x0F0010, 0x0F0010), (0x0F0040, 0x0F0040), (0x0F0080, 0x0F00C0)], [], [.evq, .hlt]⟩

theorem State.ceHourEnd_moves (s : State) : Moves (Foot.ceHourEnd.at []) s (State.ceHourEnd s) := by
  unfold State.ceHourEnd
  refine Moves.ite (fun hc => ?_) (fun hc => ?_)
  · exact Moves.refl _
  · extract_lets -merge -underBinder +onlyGivenNames x1
    subst x1
    extract_lets -merge -underBinder +onlyGivenNames x2
    refine Moves.let_ x2 ?_ ?_
    · subst x2
      refine Moves.seq ?_ (State.modHlt_moves ..) (Foot.sub0 (by decide +kernel))
      exact Moves.refl _
    intro h2
    try clear_value x2
    refine Moves.foldl _ (fun x3 _ h3 => ?_) _ ?_
    · refine Moves.seq ?_ (State.memReasons_moves ..) (Foot.sub1 (by decide +kernel) (Foot.holds_range 983168 983232 (by decide +kernel) (by first | omega | (dsimp only; omega)) (by first | omega | (dsimp only; omega))))
      exact h3
    · exact h2

def Foot.setBme : Foot := ⟨[(0x0B0044, 0x0B0044), (0x0B3300, 0x0B3300)], [], [.out]⟩

theorem State.setBme_moves (s : State) (on : Bool) : Moves (Foot.setBme.at []) s (State.setBme s on) := by
  unfold State.setBme
  refine Moves.ite (fun hc => ?_) (fun hc => ?_)
  · refine Moves.seq ?_ (State.msixFlush_moves ..) (Foot.sub0 (by decide +kernel))
    refine Moves.seq ?_ (State.putB_moves _ _ _ (by decide)) (Foot.sub1 (by decide +kernel) (Foot.holds_reg (by decide +kernel)))
    exact Moves.refl _
  · exact Moves.refl _

def Foot.cfgWrite : Foot := ⟨[(0x0B0044, 0x0B0044), (0x0B3300, 0x0B3300)], [], [.out, .acc]⟩

theorem State.cfgWrite_moves (s : State) (reg : CfgReg) (v : Word) : Moves (Foot.cfgWrite.at []) s (State.cfgWrite s reg v) := by
  unfold State.cfgWrite
  split
  · refine Moves.seq ?_ (State.setBme_moves ..) (Foot.sub0 (by decide +kernel))
    exact Moves.refl _
  · refine Moves.seq ?_ (State.msixFlush_moves ..) (Foot.sub0 (by decide +kernel))
    refine Moves.seq ?_ (State.putB_moves _ _ _ (by decide)) (Foot.sub1 (by decide +kernel) (Foot.holds_reg (by decide +kernel)))
    refine Moves.seq ?_ (State.putB_moves _ _ _ (by decide)) (Foot.sub1 (by decide +kernel) (Foot.holds_reg (by decide +kernel)))
    exact Moves.refl _
  · refine Moves.ite (fun hc => ?_) (fun hc => ?_)
    · refine Moves.seq ?_ (State.putB_moves _ _ _ (by decide)) (Foot.sub1 (by decide +kernel) (Foot.holds_reg (by decide +kernel)))
      exact Moves.refl _
    · refine Moves.ite (fun hc => ?_) (fun hc => ?_)
      · refine Moves.seq ?_ (State.msixFlush_moves ..) (Foot.sub0 (by decide +kernel))
        refine Moves.seq ?_ (State.putB_moves _ _ _ (by decide)) (Foot.sub1 (by decide +kernel) (Foot.holds_reg (by decide +kernel)))
        exact Moves.refl _
      · exact Moves.refl _
  · refine Moves.seq ?_ (Moves.upd_acc _ _) (Foot.sub0 (by decide +kernel))
    exact Moves.refl _
  · refine Moves.seq ?_ (Moves.upd_acc _ _) (Foot.sub0 (by decide +kernel))
    exact Moves.refl _
  · exact Moves.refl _

def Foot.chatEdge : Foot := ⟨[], [], [.din]⟩

theorem State.chatEdge_moves (s : State) (i : Nat) :
    Moves (Foot.chatEdge.at [(16452 + 8 * (i % 4), 16452 + 8 * (i % 4))]) s (State.chatEdge s i) := by
  unfold State.chatEdge
  refine Moves.ite (fun hc => ?_) (fun hc => ?_)
  · refine Moves.seq ?_ (State.satInc_moves _ _ (by first | (dsimp only [F.SYS_DIN_STAT_CHAT_EDGES]; omega) | omega)) (Foot.sub1 (by decide +kernel) (Foot.holds_same (.head _)))
    exact Moves.refl _
  · extract_lets -merge -underBinder +onlyGivenNames x1
    subst x1
    extract_lets -merge -underBinder +onlyGivenNames x2
    subst x2
    refine Moves.ite (fun hc => ?_) (fun hc => ?_)
    · refine Moves.seq ?_ (State.setDin_moves ..) (Foot.sub0 (by decide +kernel))
      exact Moves.refl _
    · refine Moves.seq ?_ (State.setDin_moves ..) (Foot.sub0 (by decide +kernel))
      exact Moves.refl _

def Foot.claimFault : Foot :=
  ⟨[(0x000054, 0x000054), (0x0A0010, 0x0A0010), (0x0A0040, 0x0A0040), (0x0F0010, 0x0F0010), (0x0F0040,
    0x0F0040), (0x0F00A8, 0x0F00A8)], [], [.evq, .twn, .hlt]⟩

theorem State.claimFault_moves (s : State) (kind : Nat) : Moves (Foot.claimFault.at []) s (State.claimFault s kind) := by
  unfold State.claimFault
  extract_lets -merge -underBinder +onlyGivenNames x1
  refine Moves.let_ x1 ?_ ?_
  · subst x1
    refine Moves.seq ?_ (State.modTwn_moves ..) (Foot.sub0 (by decide +kernel))
    exact Moves.refl _
  intro h1
  try clear_value x1
  extract_lets -merge -underBinder +onlyGivenNames x2
  refine Moves.let_ x2 ?_ ?_
  · subst x2
    refine Moves.ite (fun hc => ?_) (fun hc => ?_)
    · refine Moves.seq ?_ (State.hltReason_moves ..) (Foot.sub1 (by decide +kernel) (Foot.holds_reg (by decide +kernel)))
      refine Moves.seq ?_ (State.post_moves ..) (Foot.sub0 (by decide +kernel))
      refine Moves.seq ?_ (State.raise_moves ..) (Foot.sub1 (by decide +kernel) (Foot.holds_reg (by decide +kernel)))
      exact h1
    · exact h1
  intro h2
  try clear_value x2
  refine Moves.seq ?_ (State.put_moves _ _ _ (by decide)) (Foot.sub1 (by decide +kernel) (Foot.holds_reg (by decide +kernel)))
  exact h2

def Foot.claimStuck : Foot :=
  ⟨[(0x000054, 0x000054), (0x0A0010, 0x0A0010), (0x0A0040, 0x0A0040), (0x0F0010, 0x0F0010), (0x0F0040,
    0x0F0040), (0x0F00A8, 0x0F00A8)], [], [.evq, .twn, .hlt]⟩

theorem State.claimStuck_moves (s : State) (high : Bool) : Moves (Foot.claimStuck.at []) s (State.claimStuck s high) := by
  unfold State.claimStuck
  refine Moves.ite (fun hc => ?_) (fun hc => ?_)
  · exact Moves.refl _
  · refine Moves.ite (fun hc => ?_) (fun hc => ?_)
    · refine Moves.ite (fun hc => ?_) (fun hc => ?_)
      · refine Moves.seq ?_ (State.claimFault_moves ..) (Foot.sub0 (by decide +kernel))
        refine Moves.seq ?_ (State.putB_moves _ _ _ (by decide)) (Foot.sub1 (by decide +kernel) (Foot.holds_reg (by decide +kernel)))
        exact Moves.refl _
      · exact Moves.refl _
    · split
      · refine Moves.ite (fun hc => ?_) (fun hc => ?_)
        · exact Moves.refl _
        · refine Moves.seq ?_ (State.claimFault_moves ..) (Foot.sub0 (by decide +kernel))
          refine Moves.seq ?_ (State.putB_moves _ _ _ (by decide)) (Foot.sub1 (by decide +kernel) (Foot.holds_reg (by decide +kernel)))
          exact Moves.refl _
      · exact Moves.refl _

def Foot.claimTest : Foot :=
  ⟨[(0x000054, 0x000054), (0x0A0010, 0x0A0010), (0x0A0040, 0x0A0040), (0x0F0010, 0x0F0010), (0x0F0040,
    0x0F0040), (0x0F00A8, 0x0F00A8)], [], [.out, .evq, .twn, .hlt]⟩

theorem State.claimTest_moves (s : State) (lowIn : Bool) (highAfter : Bool) :
    Moves (Foot.claimTest.at []) s (State.claimTest s lowIn highAfter) := by
  unfold State.claimTest
  extract_lets -merge -underBinder +onlyGivenNames x1
  subst x1
  extract_lets -merge -underBinder +onlyGivenNames x2
  subst x2
  extract_lets -merge -underBinder +onlyGivenNames x3
  subst x3
  refine Moves.ite (fun hc => ?_) (fun hc => ?_)
  · exact Moves.refl _
  · extract_lets -merge -underBinder +onlyGivenNames x4
    refine Moves.let_ x4 ?_ ?_
    · subst x4
      refine Moves.seq ?_ (State.emit_moves ..) (Foot.sub0 (by decide +kernel))
      refine Moves.seq ?_ (State.emit_moves ..) (Foot.sub0 (by decide +kernel))
      exact Moves.refl _
    intro h4
    try clear_value x4
    refine Moves.ite (fun hc => ?_) (fun hc => ?_)
    · refine Moves.seq ?_ (State.claimFault_moves ..) (Foot.sub0 (by decide +kernel))
      exact h4
    · refine Moves.ite (fun hc => ?_) (fun hc => ?_)
      · refine Moves.seq ?_ (State.claimFault_moves ..) (Foot.sub0 (by decide +kernel))
        exact h4
      · refine Moves.ite (fun hc => ?_) (fun hc => ?_)
        · refine Moves.seq ?_ (State.hltReason_moves ..) (Foot.sub1 (by decide +kernel) (Foot.holds_reg (by decide +kernel)))
          refine Moves.seq ?_ (State.put_moves _ _ _ (by decide)) (Foot.sub1 (by decide +kernel) (Foot.holds_reg (by decide +kernel)))
          refine Moves.seq ?_ (State.modTwn_moves ..) (Foot.sub0 (by decide +kernel))
          exact h4
        · exact h4

def Foot.claimWaitEnd : Foot :=
  ⟨[(0x003010, 0x003010), (0x003040, 0x003040), (0x003050, 0x003050), (0x00306C, 0x00306C), (0x005040,
    0x005040), (0x010010, 0x010010), (0x010048, 0x010048), (0x011010, 0x011010), (0x011040, 0x011048), (0x012010, 0x012010), (0x012040,
    0x012048), (0x013010, 0x013010), (0x013040, 0x013040), (0x013048, 0x013058), (0x020010, 0x020010), (0x020048, 0x020048), (0x021010,
    0x021010), (0x021040, 0x021048), (0x022010, 0x022010), (0x022040, 0x022048), (0x023010, 0x023010), (0x023040, 0x023040), (0x023048,
    0x023058), (0x060010, 0x060010), (0x060044, 0x060044), (0x090010, 0x090010), (0x090058, 0x090064), (0x091010, 0x091010), (0x091050,
    0x091058), (0x093060, 0x093060), (0x0A0010, 0x0A0010), (0x0A0040, 0x0A0040), (0x0A005C, 0x0A0060), (0x0A2044, 0x0A2044), (0x100010,
    0x100010), (0x100064, 0x100064)], [], [.out, .evq, .lines, .ports, .beam, .fab, .tim, .wake, .twn]⟩

theorem State.claimWaitEnd_moves (s : State) (high : Bool) : Moves (Foot.claimWaitEnd.at []) s (State.claimWaitEnd s high) := by
  unfold State.claimWaitEnd
  split
  · exact Moves.refl _
  · extract_lets -merge -underBinder +onlyGivenNames x1
    refine Moves.let_ x1 ?_ ?_
    · subst x1
      refine Moves.seq ?_ (State.modTwn_moves ..) (Foot.sub0 (by decide +kernel))
      exact Moves.refl _
    intro h1
    try clear_value x1
    refine Moves.ite (fun hc => ?_) (fun hc => ?_)
    · exact h1
    · refine State.ifElig_moves ?_ (Foot.sub0 (by decide +kernel)) (fun x2 h2 => ?_)
      · exact h1
      · refine Moves.ite (fun hc => ?_) (fun hc => ?_)
        · refine Moves.seq ?_ (State.claimWon_moves ..) (Foot.sub0 (by decide +kernel))
          exact h2
        · refine Moves.seq ?_ (State.deferClaim_moves ..) (Foot.sub0 (by decide +kernel))
          exact h2

def Foot.closingComplete : Foot := ⟨[(0x005040, 0x005040)], [], [.evq, .lines, .beam]⟩

theorem State.closingComplete_moves (s : State) (l : Line) :
    Moves (Foot.closingComplete.at [(65608 + 65536 * (l.idx % 2), 65608 + 65536 * (l.idx % 2)),
      (77904 + 65536 * ((l.port true).line.idx % 2), 77904 + 65536 * ((l.port true).line.idx % 2)),
      (77908 + 65536 * ((l.port true).line.idx % 2), 77908 + 65536 * ((l.port true).line.idx % 2)),
      (77896 + 65536 * ((l.port true).line.idx % 2), 77896 + 65536 * ((l.port true).line.idx % 2)),
      (77900 + 65536 * ((l.port true).line.idx % 2), 77900 + 65536 * ((l.port true).line.idx % 2)),
      (77904 + 65536 * ((l.port false).line.idx % 2), 77904 + 65536 * ((l.port false).line.idx % 2)),
      (77908 + 65536 * ((l.port false).line.idx % 2), 77908 + 65536 * ((l.port false).line.idx % 2)),
      (77896 + 65536 * ((l.port false).line.idx % 2), 77896 + 65536 * ((l.port false).line.idx % 2)),
      (77900 + 65536 * ((l.port false).line.idx % 2), 77900 + 65536 * ((l.port false).line.idx % 2)),
      (77888 + 65536 * (l.idx % 2), 77888 + 65536 * (l.idx % 2)),
      (4096 * ((77824 + 65536 * (l.idx % 2)) / 4096) + 16, 4096 * ((77824 + 65536 * (l.idx % 2)) / 4096) + 16),
      (4096 * ((65536 + 65536 * (l.idx % 2)) / 4096) + 16, 4096 * ((65536 + 65536 * (l.idx % 2)) / 4096) + 16)]) s
      (State.closingComplete s l) := by
  unfold State.closingComplete
  split
  · extract_lets -merge -underBinder +onlyGivenNames x1
    subst x1
    extract_lets -merge -underBinder +onlyGivenNames x2
    subst x2
    extract_lets -merge -underBinder +onlyGivenNames x3
    refine Moves.let_ x3 ?_ ?_
    · subst x3
      refine Moves.seq ?_ (State.setLine_moves ..) (Foot.sub0 (by decide +kernel))
      exact Moves.refl _
    intro h3
    try clear_value x3
    extract_lets -merge -underBinder +onlyGivenNames x4
    refine Moves.let_ x4 ?_ ?_
    · subst x4
      refine Moves.seq ?_ (State.putB_moves _ _ _ (by show 20544 % 4096 ≠ 16; decide)) (Foot.sub1 (by decide +kernel) (Foot.holds_reg (lo := 20544) (hi := 20544) (by decide +kernel)))
      refine Moves.seq ?_ (State.putB_moves _ _ _ (by show 20544 % 4096 ≠ 16; decide)) (Foot.sub1 (by decide +kernel) (Foot.holds_reg (lo := 20544) (hi := 20544) (by decide +kernel)))
      exact h3
    intro h4
    try clear_value x4
    refine Moves.ite (fun hc => ?_) (fun hc => ?_)
    · refine Moves.seq ?_ (State.enterClosed_moves ..) (Foot.sub_at (by decide +kernel) (Foot.own_cons (Foot.holds_same (.head _)) (Foot.own_cons (Foot.holds_same (.tail _ (.head _))) (Foot.own_cons (Foot.holds_same (.tail _ (.tail _ (.head _)))) (Foot.own_cons (Foot.holds_same (.tail _ (.tail _ (.tail _ (.head _))))) (Foot.own_cons (Foot.holds_same (.tail _ (.tail _ (.tail _ (.tail _ (.head _)))))) (Foot.own_cons (Foot.holds_same (.tail _ (.tail _ (.tail _ (.tail _ (.tail _ (.head _))))))) (Foot.own_cons (Foot.holds_same (.tail _ (.tail _ (.tail _ (.tail _ (.tail _ (.tail _ (.head _)))))))) (Foot.own_cons (Foot.holds_same (.tail _ (.tail _ (.tail _ (.tail _ (.tail _ (.tail _ (.tail _ (.head _))))))))) (Foot.own_cons (Foot.holds_same (.tail _ (.tail _ (.tail _ (.tail _ (.tail _ (.tail _ (.tail _ (.tail _ (.head _)))))))))) (Foot.own_cons (Foot.holds_same (.tail _ (.tail _ (.tail _ (.tail _ (.tail _ (.tail _ (.tail _ (.tail _ (.tail _ (.head _))))))))))) (Foot.own_cons (Foot.holds_same (.tail _ (.tail _ (.tail _ (.tail _ (.tail _ (.tail _ (.tail _ (.tail _ (.tail _ (.tail _ (.head _)))))))))))) (Foot.own_cons (Foot.holds_same (.tail _ (.tail _ (.tail _ (.tail _ (.tail _ (.tail _ (.tail _ (.tail _ (.tail _ (.tail _ (.tail _ (.head _))))))))))))) Foot.own_nil)))))))))))))
      refine Moves.seq ?_ (State.putB_moves _ _ _ (by first | (dsimp only [F.BL_LINE_STAT_MOVING]; omega) | omega)) (Foot.sub1 (by decide +kernel) (Foot.holds_same (.head _)))
      exact h4
    · refine Moves.seq ?_ (State.setLine_moves ..) (Foot.sub0 (by decide +kernel))
      exact h4
  · exact Moves.refl _

def Foot.recLose : Foot := ⟨[], [], [.recorder]⟩

theorem State.recLose_moves (s : State) (ev : RecEvent) (reason : Nat) :
    Moves (Foot.recLose.at [(917600 + 4 * (min 4 ev.sev % 5), 917600 + 4 * (min 4 ev.sev % 5))]) s (State.recLose s ev reason) := by
  unfold State.recLose
  extract_lets -merge -underBinder +onlyGivenNames x1
  refine Moves.let_ x1 ?_ ?_
  · subst x1
    refine Moves.seq ?_ (State.satInc_moves _ _ (by first | (dsimp only [F.REC_CTRL_LOSS_LOST]; omega) | omega)) (Foot.sub1 (by decide +kernel) (Foot.holds_same (.head _)))
    exact Moves.refl _
  intro h1
  try clear_value x1
  refine Moves.seq ?_ (State.modRec_moves ..) (Foot.sub0 (by decide +kernel))
  exact h1

def Foot.recFollow : Foot := ⟨[(0x0E0048, 0x0E0048)], [], []⟩

theorem State.recFollow_moves (s : State) : Moves (Foot.recFollow.at []) s (State.recFollow s) := by
  unfold State.recFollow
  refine Moves.seq ?_ (State.put_moves _ _ _ (by decide)) (Foot.sub1 (by decide +kernel) (Foot.holds_reg (by decide +kernel)))
  refine Moves.seq ?_ (State.put_moves _ _ _ (by decide)) (Foot.sub1 (by decide +kernel) (Foot.holds_reg (by decide +kernel)))
  exact Moves.refl _

def Foot.fifoPush : Foot := ⟨[(0x0E0048, 0x0E0048)], [], [.recorder]⟩

theorem State.fifoPush_moves (s : State) (e : RecEntry) :
    Moves (Foot.fifoPush.at [(917600 + 4 * (min 4 e.ev.sev % 5), 917600 + 4 * (min 4 e.ev.sev % 5))]) s (State.fifoPush s e) := by
  unfold State.fifoPush
  extract_lets -merge -underBinder +onlyGivenNames x1
  subst x1
  extract_lets -merge -underBinder +onlyGivenNames x2
  subst x2
  refine Moves.ite (fun hc => ?_) (fun hc => ?_)
  · refine Moves.seq ?_ (State.recLose_moves ..) (Foot.sub1 (by decide +kernel) (Foot.holds_same (.head _)))
    exact Moves.refl _
  · refine Moves.seq ?_ (State.recFollow_moves ..) (Foot.sub0 (by decide +kernel))
    refine Moves.seq ?_ (State.modRec_moves ..) (Foot.sub0 (by decide +kernel))
    exact Moves.refl _

def Foot.coalClose : Foot := ⟨[(0x0E0048, 0x0E0048), (0x0E0060, 0x0E0070)], [], [.recorder]⟩

theorem State.coalClose_moves (s : State) (c : CoalEntry) : Moves (Foot.coalClose.at []) s (State.coalClose s c) := by
  unfold State.coalClose
  extract_lets -merge -underBinder +onlyGivenNames x1
  refine Moves.let_ x1 ?_ ?_
  · subst x1
    refine Moves.seq ?_ (State.modRec_moves ..) (Foot.sub0 (by decide +kernel))
    exact Moves.refl _
  intro h1
  try clear_value x1
  extract_lets -merge -underBinder +onlyGivenNames x2
  subst x2
  extract_lets -merge -underBinder +onlyGivenNames x3
  refine Moves.let_ x3 ?_ ?_
  · subst x3
    refine Moves.ite (fun hc => ?_) (fun hc => ?_)
    · exact h1
    · refine Moves.seq ?_ (State.fifoPush_moves ..) (Foot.sub1 (by decide +kernel) (Foot.holds_range 917600 917616 (by decide +kernel) (by first | omega | (dsimp only; omega)) (by first | omega | (dsimp only; omega))))
      exact h1
  intro h3
  try clear_value x3
  refine Moves.seq ?_ (State.recFollow_moves ..) (Foot.sub0 (by decide +kernel))
  exact h3

def Foot.coalDue : Foot := ⟨[(0x0E0048, 0x0E0048), (0x0E0060, 0x0E0070)], [], [.recorder]⟩

theorem State.coalDue_moves (s : State) (n : Nat) : Moves (Foot.coalDue.at []) s (s.coalDue n) := by
  induction n generalizing s with
  | zero => exact Moves.refl _
  | succ n ih =>
    simp only [State.coalDue]
    split
    · split
      · exact Moves.seq (Moves.widen (State.coalClose_moves ..) (Foot.sub0 (by decide +kernel))) (ih _) Foot.sub_self
      · exact Moves.refl _
    · exact Moves.refl _

def Foot.startBegin : Foot := ⟨[(0x000040, 0x000040), (0x00004C, 0x00004C), (0x000054, 0x000054)], [], [.pwr]⟩

theorem State.startBegin_moves (s : State) (cause : Nat) : Moves (Foot.startBegin.at []) s (State.startBegin s cause) := by
  unfold State.startBegin
  extract_lets -merge -underBinder +onlyGivenNames x1
  refine Moves.let_ x1 ?_ ?_
  · subst x1
    refine Moves.seq ?_ (State.put_moves _ _ _ (by decide)) (Foot.sub1 (by decide +kernel) (Foot.holds_reg (by decide +kernel)))
    refine Moves.seq ?_ (State.histCause_moves ..) (Foot.sub0 (by decide +kernel))
    exact Moves.refl _
  intro h1
  try clear_value x1
  extract_lets -merge -underBinder +onlyGivenNames x2
  refine Moves.let_ x2 ?_ ?_
  · subst x2
    refine Moves.seq ?_ (State.bootRegsReset_moves ..) (Foot.sub0 (by decide +kernel))
    refine Moves.seq ?_ (State.put_moves _ _ _ (by decide)) (Foot.sub1 (by decide +kernel) (Foot.holds_reg (by decide +kernel)))
    exact h1
  intro h2
  try clear_value x2
  refine Moves.seq ?_ (State.modPwr_moves ..) (Foot.sub0 (by decide +kernel))
  exact h2

def Foot.coldStart : Foot := ⟨[(0x000000, 0x000FFF), (0x003000, 0x005FFF)], [], [.evtCut, .lines, .wake, .din, .pwr]⟩

theorem State.coldStart_moves (s : State) : Moves (Foot.coldStart.at []) s (State.coldStart s) := by
  unfold State.coldStart
  refine Moves.ite (fun hc => ?_) (fun hc => ?_)
  · exact Moves.refl _
  · refine Moves.seq ?_ (State.startBegin_moves ..) (Foot.sub0 (by decide +kernel))
    refine Moves.seq ?_ (State.putB_moves _ _ _ (by decide)) (Foot.sub1 (by decide +kernel) (Foot.holds_reg (by decide +kernel)))
    refine Moves.seq ?_ (State.aonReset_moves ..) (Foot.sub0 (by decide +kernel))
    exact Moves.refl _

def Foot.xMismatch : Foot :=
  ⟨[(0x000054, 0x000054), (0x0A2010, 0x0A2010), (0x0A2044, 0x0A2044), (0x0A204C, 0x0A2054), (0x0F0010,
    0x0F0010), (0x0F0040, 0x0F0040), (0x0F0098, 0x0F0098)], [], [.evq, .twn, .hlt]⟩

theorem State.xMismatch_moves (s : State) (d : XDig) : Moves (Foot.xMismatch.at []) s (State.xMismatch s d) := by
  unfold State.xMismatch
  extract_lets -merge -underBinder +onlyGivenNames x1
  refine Moves.let_ x1 ?_ ?_
  · subst x1
    refine Moves.seq ?_ (State.raise_moves ..) (Foot.sub1 (by decide +kernel) (Foot.holds_reg (by decide +kernel)))
    refine Moves.seq ?_ (State.satInc_moves _ _ (by decide)) (Foot.sub1 (by decide +kernel) (Foot.holds_reg (by decide +kernel)))
    exact Moves.refl _
  intro h1
  try clear_value x1
  extract_lets -merge -underBinder +onlyGivenNames x2
  refine Moves.let_ x2 ?_ ?_
  · subst x2
    refine Moves.seq ?_ (State.wr_moves _ _ (by decide)) (Foot.sub1 (by decide +kernel) (Foot.holds_reg (by decide +kernel)))
    refine Moves.seq ?_ (State.wr_moves _ _ (by decide)) (Foot.sub1 (by decide +kernel) (Foot.holds_reg (by decide +kernel)))
    exact h1
  intro h2
  try clear_value x2
  extract_lets -merge -underBinder +onlyGivenNames x3
  subst x3
  extract_lets -merge -underBinder +onlyGivenNames x4
  refine Moves.let_ x4 ?_ ?_
  · subst x4
    refine Moves.seq ?_ (State.put_moves _ _ _ (by decide)) (Foot.sub1 (by decide +kernel) (Foot.holds_reg (by decide +kernel)))
    refine Moves.seq ?_ (State.modTwn_moves ..) (Foot.sub0 (by decide +kernel))
    exact h2
  intro h4
  try clear_value x4
  refine Moves.ite (fun hc => ?_) (fun hc => ?_)
  · extract_lets -merge -underBinder +onlyGivenNames x5
    refine Moves.let_ x5 ?_ ?_
    · subst x5
      refine Moves.seq ?_ (State.hltReason_moves ..) (Foot.sub1 (by decide +kernel) (Foot.holds_reg (by decide +kernel)))
      refine Moves.seq ?_ (State.raise_moves ..) (Foot.sub1 (by decide +kernel) (Foot.holds_reg (by decide +kernel)))
      refine Moves.seq ?_ (State.putB_moves _ _ _ (by decide)) (Foot.sub1 (by decide +kernel) (Foot.holds_reg (by decide +kernel)))
      exact h4
    intro h5
    try clear_value x5
    refine Moves.seq ?_ (State.post_moves ..) (Foot.sub0 (by decide +kernel))
    exact h5
  · exact h4

def Foot.xCompare : Foot :=
  ⟨[(0x000054, 0x000054), (0x0A2010, 0x0A2010), (0x0A2044, 0x0A2054), (0x0F0010, 0x0F0010), (0x0F0040,
    0x0F0040), (0x0F0098, 0x0F0098)], [], [.evq, .twn, .hlt]⟩

theorem State.xCompare_moves (s : State) (d : XDig) : Moves (Foot.xCompare.at []) s (State.xCompare s d) := by
  unfold State.xCompare
  extract_lets -merge -underBinder +onlyGivenNames x1
  subst x1
  try dsimp -zeta only
  split
  · exact Moves.refl _
  · extract_lets -merge -underBinder +onlyGivenNames x2
    subst x2
    extract_lets -merge -underBinder +onlyGivenNames x3
    refine Moves.let_ x3 ?_ ?_
    · subst x3
      refine Moves.seq ?_ (State.modTwn_moves ..) (Foot.sub0 (by decide +kernel))
      exact Moves.refl _
    intro h3
    try clear_value x3
    extract_lets -merge -underBinder +onlyGivenNames x4
    subst x4
    extract_lets -merge -underBinder +onlyGivenNames x5
    subst x5
    refine Moves.ite (fun hc => ?_) (fun hc => ?_)
    · refine Moves.seq ?_ (State.wrapInc_moves _ _ (by decide)) (Foot.sub1 (by decide +kernel) (Foot.holds_reg (by decide +kernel)))
      refine Moves.seq ?_ (State.modTwn_moves ..) (Foot.sub0 (by decide +kernel))
      exact h3
    · extract_lets -merge -underBinder +onlyGivenNames x6
      refine Moves.let_ x6 ?_ ?_
      · subst x6
        refine Moves.seq ?_ (State.modTwn_moves ..) (Foot.sub0 (by decide +kernel))
        exact h3
      intro h6
      try clear_value x6
      refine Moves.ite (fun hc => ?_) (fun hc => ?_)
      · refine Moves.seq ?_ (State.xMismatch_moves ..) (Foot.sub0 (by decide +kernel))
        exact h6
      · refine Moves.seq ?_ (State.satInc_moves _ _ (by decide)) (Foot.sub1 (by decide +kernel) (Foot.holds_reg (by decide +kernel)))
        exact h6

def Foot.xCommit : Foot :=
  ⟨[(0x000054, 0x000054), (0x0A2010, 0x0A2010), (0x0A2044, 0x0A2054), (0x0F0010, 0x0F0010), (0x0F0040,
    0x0F0040), (0x0F0098, 0x0F0098)], [], [.evq, .twn, .hlt]⟩

theorem State.xCommit_moves (s : State) (n : Nat) : Moves (Foot.xCommit.at []) s (State.xCommit s n) := by
  unfold State.xCommit
  refine Moves.ite (fun hc => ?_) (fun hc => ?_)
  · refine Moves.seq ?_ (State.modTwn_moves ..) (Foot.sub0 (by decide +kernel))
    exact Moves.refl _
  · extract_lets -merge -underBinder +onlyGivenNames x1
    refine Moves.let_ x1 ?_ ?_
    · subst x1
      refine Moves.foldl _ (fun x2 _ h2 => ?_) _ ?_
      · refine Moves.seq ?_ (State.xCompare_moves ..) (Foot.sub0 (by decide +kernel))
        exact h2
      · exact Moves.refl _
    intro h1
    try clear_value x1
    extract_lets -merge -underBinder +onlyGivenNames x3
    subst x3
    try dsimp -zeta only
    extract_lets -merge -underBinder +onlyGivenNames x4
    subst x4
    extract_lets -merge -underBinder +onlyGivenNames x5
    refine Moves.let_ x5 ?_ ?_
    · subst x5
      refine Moves.seq ?_ (State.modTwn_moves ..) (Foot.sub0 (by decide +kernel))
      exact h1
    intro h5
    try clear_value x5
    refine Moves.ite (fun hc => ?_) (fun hc => ?_)
    · exact h5
    · refine Moves.seq ?_ (State.raise_moves ..) (Foot.sub1 (by decide +kernel) (Foot.holds_reg (by decide +kernel)))
      refine Moves.seq ?_ (State.satAdd_moves _ _ _ (by decide)) (Foot.sub1 (by decide +kernel) (Foot.holds_reg (by decide +kernel)))
      exact h5

def Foot.commitEpoch : Foot :=
  ⟨[(0x000054, 0x000054), (0x003010, 0x003010), (0x003040, 0x003040), (0x003050, 0x003050), (0x00306C,
    0x00306C), (0x005040, 0x005040), (0x010010, 0x010010), (0x010048, 0x010048), (0x011010, 0x011010), (0x011040, 0x011048), (0x012010,
    0x012010), (0x012040, 0x012048), (0x013010, 0x013010), (0x013040, 0x013040), (0x013048, 0x013058), (0x020010, 0x020010), (0x020048,
    0x020048), (0x021010, 0x021010), (0x021040, 0x021048), (0x022010, 0x022010), (0x022040, 0x022048), (0x023010, 0x023010), (0x023040,
    0x023040), (0x023048, 0x023058), (0x060010, 0x060010), (0x060044, 0x060044), (0x090010, 0x090010), (0x090058, 0x090064), (0x091010,
    0x091010), (0x091050, 0x091058), (0x093060, 0x093060), (0x0A0010, 0x0A0010), (0x0A0040, 0x0A0040), (0x0A005C, 0x0A0060), (0x0A1010,
    0x0A1010), (0x0A1044, 0x0A1048), (0x0A1050, 0x0A1050), (0x0A2010, 0x0A2010), (0x0A2044, 0x0A2054), (0x0F0010, 0x0F0010), (0x0F0040,
    0x0F0040), (0x0F0098, 0x0F0098), (0x100010, 0x100010), (0x100064, 0x100064)], [], [.mem, .out, .evq, .lines, .ports, .beam, .fab,
    .tim, .wake, .twn, .hlt]⟩

theorem State.commitEpoch_moves (s : State) (b : MBuf) : Moves (Foot.commitEpoch.at []) s (State.commitEpoch s b) := by
  unfold State.commitEpoch
  extract_lets -merge -underBinder +onlyGivenNames x1
  refine Moves.let_ x1 ?_ ?_
  · subst x1
    refine Moves.foldl _ (fun x2 _ h2 => ?_) _ ?_
    · refine Moves.seq ?_ (State.applyRec_moves ..) (Foot.sub0 (by decide +kernel))
      exact h2
    · exact Moves.refl _
  intro h1
  try clear_value x1
  extract_lets -merge -underBinder +onlyGivenNames x3
  refine Moves.let_ x3 ?_ ?_
  · subst x3
    refine Moves.seq ?_ (State.put_moves _ _ _ (by decide)) (Foot.sub1 (by decide +kernel) (Foot.holds_reg (by decide +kernel)))
    refine Moves.seq ?_ (State.modTwn_moves ..) (Foot.sub0 (by decide +kernel))
    exact h1
  intro h3
  try clear_value x3
  extract_lets -merge -underBinder +onlyGivenNames x4
  refine Moves.let_ x4 ?_ ?_
  · subst x4
    refine Moves.seq ?_ (State.epochSize_moves ..) (Foot.sub0 (by decide +kernel))
    exact h3
  intro h4
  try clear_value x4
  extract_lets -merge -underBinder +onlyGivenNames x5
  refine Moves.let_ x5 ?_ ?_
  · subst x5
    refine Moves.ite (fun hc => ?_) (fun hc => ?_)
    · refine Moves.seq ?_ (State.raise_moves ..) (Foot.sub1 (by decide +kernel) (Foot.holds_reg (by decide +kernel)))
      refine Moves.seq ?_ (State.setSynced_moves ..) (Foot.sub0 (by decide +kernel))
      refine Moves.seq ?_ (State.modTwn_moves ..) (Foot.sub0 (by decide +kernel))
      exact h4
    · exact h4
  intro h5
  try clear_value x5
  extract_lets -merge -underBinder +onlyGivenNames x6
  refine Moves.let_ x6 ?_ ?_
  · subst x6
    refine Moves.seq ?_ (State.xCommit_moves ..) (Foot.sub0 (by decide +kernel))
    exact h5
  intro h6
  try clear_value x6
  refine Moves.ite (fun hc => ?_) (fun hc => ?_)
  · refine Moves.seq ?_ (State.takeHandover_moves ..) (Foot.sub0 (by decide +kernel))
    exact h6
  · exact h6

def Foot.commitInsert : Foot :=
  ⟨[(0x100010, 0x100010), (0x100044, 0x100044), (0x100064, 0x10006C), (0x100074, 0x100078)], [], [.mem,
    .out, .evq, .top, .beam, .fab]⟩

theorem State.commitInsert_moves (s : State) (lead : Nat) : Moves (Foot.commitInsert.at []) s (State.commitInsert s lead) := by
  unfold State.commitInsert
  split
  · exact Moves.refl _
  · refine Moves.ite (fun hc => ?_) (fun hc => ?_)
    · exact Moves.refl _
    · extract_lets -merge -underBinder +onlyGivenNames x1
      subst x1
      extract_lets -merge -underBinder +onlyGivenNames x2
      subst x2
      extract_lets -merge -underBinder +onlyGivenNames x3
      subst x3
      extract_lets -merge -underBinder +onlyGivenNames x4
      subst x4
      extract_lets -merge -underBinder +onlyGivenNames x5
      refine Moves.let_ x5 ?_ ?_
      · subst x5
        simp -zeta only [List.foldl_cons, List.foldl_nil]
        extract_lets -merge -underBinder +onlyGivenNames x6
        subst x6
        extract_lets -merge -underBinder +onlyGivenNames x7
        subst x7
        extract_lets -merge -underBinder +onlyGivenNames x8
        subst x8
        extract_lets -merge -underBinder +onlyGivenNames x9
        refine Moves.let_ x9 ?_ ?_
        · subst x9
          refine Moves.seq ?_ (State.send_moves ..) (Foot.sub0 (by decide +kernel))
          refine Moves.ite (fun hc => ?_) (fun hc => ?_)
          · refine Moves.seq ?_ (State.toCtl_moves ..) (Foot.sub0 (by decide +kernel))
            refine Moves.seq ?_ (State.send_moves ..) (Foot.sub0 (by decide +kernel))
            exact Moves.refl _
          · refine Moves.seq ?_ (State.send_moves ..) (Foot.sub0 (by decide +kernel))
            exact Moves.refl _
        intro h9
        try clear_value x9
        refine Moves.ite (fun hc => ?_) (fun hc => ?_)
        · refine Moves.seq ?_ (State.toCtl_moves ..) (Foot.sub0 (by decide +kernel))
          exact h9
        · exact h9
      intro h5
      try clear_value x5
      refine Moves.ite (fun hc => ?_) (fun hc => ?_)
      · refine Moves.seq ?_ (State.endNull_moves ..) (Foot.sub0 (by decide +kernel))
        exact h5
      · refine Moves.seq ?_ (State.put_moves _ _ _ (by decide)) (Foot.sub1 (by decide +kernel) (Foot.holds_reg (by decide +kernel)))
        refine Moves.seq ?_ (Moves.upd_top _ _) (Foot.sub0 (by decide +kernel))
        exact h5

def Foot.commitMiss : Foot :=
  ⟨[(0x100010, 0x100010), (0x100044, 0x100044), (0x100064, 0x10006C)], [], [.mem, .out, .evq, .top,
    .beam, .fab]⟩

theorem State.commitMiss_moves (s : State) : Moves (Foot.commitMiss.at []) s (State.commitMiss s) := by
  unfold State.commitMiss
  refine Moves.ite (fun hc => ?_) (fun hc => ?_)
  · exact Moves.refl _
  · extract_lets -merge -underBinder +onlyGivenNames x1
    refine Moves.let_ x1 ?_ ?_
    · subst x1
      refine Moves.seq ?_ (State.postFlags_moves ..) (Foot.sub0 (by decide +kernel))
      refine Moves.seq ?_ (State.raise_moves ..) (Foot.sub1 (by decide +kernel) (Foot.holds_reg (by decide +kernel)))
      refine Moves.seq ?_ (State.flag_moves ..) (Foot.sub0 (by decide +kernel))
      exact Moves.refl _
    intro h1
    try clear_value x1
    refine Moves.seq ?_ (State.trigger_moves ..) (Foot.sub0 (by decide +kernel))
    refine Moves.seq ?_ (State.endAttempt_moves ..) (Foot.sub0 (by decide +kernel))
    exact h1

def Foot.configFrom : Foot :=
  ⟨[], [], [.mem, .out, .evq, .evqCut, .evtCut, .allRegs, .fresh, .acc, .lines, .ports, .top, .beam,
    .fab, .tim, .cans, .wake, .din, .twn, .hlt, .sgw, .psc, .recorder, .pwr, .mgt]⟩

theorem State.configFrom_moves (s : State) (b : Nat) : Moves (Foot.configFrom.at []) s (State.configFrom s b) := by
  unfold State.configFrom
  extract_lets -merge -underBinder +onlyGivenNames x1
  refine Moves.let_ x1 ?_ ?_
  · subst x1
    refine Moves.seq ?_ (State.applyBody_moves ..) (Foot.sub0 (by decide +kernel))
    exact Moves.refl _
  intro h1
  try clear_value x1
  refine Moves.seq ?_ (State.showConfig_moves ..) (Foot.sub0 (by decide +kernel))
  refine Moves.seq ?_ (State.putB_moves _ _ _ (by decide)) (Foot.sub1 (by decide +kernel) (Foot.holds_all (by decide +kernel)))
  refine Moves.seq ?_ (State.put_moves _ _ _ (by decide)) (Foot.sub1 (by decide +kernel) (Foot.holds_all (by decide +kernel)))
  exact h1

def Foot.configNone : Foot := ⟨[(0x000010, 0x000010)], [], [.evq]⟩

theorem State.configNone_moves (s : State) (ra : Nat) (rb : Nat) : Moves (Foot.configNone.at []) s (State.configNone s ra rb) := by
  unfold State.configNone
  refine Moves.seq ?_ (State.post_moves ..) (Foot.sub0 (by decide +kernel))
  refine Moves.seq ?_ (State.raise_moves ..) (Foot.sub1 (by decide +kernel) (Foot.holds_reg (by decide +kernel)))
  exact Moves.refl _

def Foot.configApply : Foot :=
  ⟨[], [], [.mem, .out, .evq, .evqCut, .evtCut, .allRegs, .fresh, .acc, .lines, .ports, .top, .beam,
    .fab, .tim, .cans, .wake, .din, .twn, .hlt, .sgw, .psc, .recorder, .pwr, .mgt]⟩

theorem State.configApply_moves (s : State) (ue : List Nat) : Moves (Foot.configApply.at []) s (State.configApply s ue) := by
  unfold State.configApply
  refine Moves.ite (fun hc => ?_) (fun hc => ?_)
  · exact Moves.refl _
  · extract_lets -merge -underBinder +onlyGivenNames x1
    subst x1
    extract_lets -merge -underBinder +onlyGivenNames x2
    refine Moves.let_ x2 ?_ ?_
    · subst x2
      refine Moves.seq ?_ (State.modMgt_moves ..) (Foot.sub0 (by decide +kernel))
      exact Moves.refl _
    intro h2
    try clear_value x2
    extract_lets -merge -underBinder +onlyGivenNames x3
    subst x3
    extract_lets -merge -underBinder +onlyGivenNames x4
    refine Moves.let_ x4 ?_ ?_
    · subst x4
      refine Moves.seq ?_ (State.put_moves _ _ _ (by first | (dsimp only [F.MGT_IMG_INFO_CFG_RES, F.SYS_RST_BOOT_FW_BANK]; omega) | omega)) (Foot.sub1 (by decide +kernel) (Foot.holds_all (by decide +kernel)))
      exact h2
    intro h4
    try clear_value x4
    refine Moves.ite (fun hc => ?_) (fun hc => ?_)
    · refine Moves.seq ?_ (State.configFrom_moves ..) (Foot.sub0 (by decide +kernel))
      exact h4
    · extract_lets -merge -underBinder +onlyGivenNames x5
      subst x5
      extract_lets -merge -underBinder +onlyGivenNames x6
      refine Moves.let_ x6 ?_ ?_
      · subst x6
        refine Moves.seq ?_ (State.put_moves _ _ _ (by first | (dsimp only [F.MGT_IMG_INFO_CFG_RES, F.SYS_RST_BOOT_FW_BANK]; omega) | omega)) (Foot.sub1 (by decide +kernel) (Foot.holds_all (by decide +kernel)))
        exact h4
      intro h6
      try clear_value x6
      refine Moves.ite (fun hc => ?_) (fun hc => ?_)
      · refine Moves.seq ?_ (State.configFrom_moves ..) (Foot.sub0 (by decide +kernel))
        exact h6
      · refine Moves.ite (fun hc => ?_) (fun hc => ?_)
        · refine Moves.seq ?_ (State.configNone_moves ..) (Foot.sub0 (by decide +kernel))
          exact h6
        · refine Moves.seq ?_ (State.configNone_moves ..) (Foot.sub0 (by decide +kernel))
          exact h6

def Foot.configRequest : Foot := ⟨[(0x0B0044, 0x0B0044), (0x0B3300, 0x0B3300)], [], [.out, .fresh, .acc]⟩

theorem State.configRequest_moves (s : State) (reg : CfgReg) (write : Option Word) :
    Moves (Foot.configRequest.at []) s (State.configRequest s reg write) := by
  unfold State.configRequest
  refine Moves.ite (fun hc => ?_) (fun hc => ?_)
  · exact Moves.refl _
  · split
    · refine Moves.seq ?_ (State.emit_moves ..) (Foot.sub0 (by decide +kernel))
      refine Moves.seq ?_ (State.cfgWrite_moves ..) (Foot.sub0 (by decide +kernel))
      exact Moves.refl _
    · refine Moves.seq ?_ (State.used_moves ..) (Foot.sub0 (by decide +kernel))
      refine Moves.seq ?_ (State.emit_moves ..) (Foot.sub0 (by decide +kernel))
      exact Moves.refl _

def Foot.unconfirmed : Foot := ⟨[(0x0A0010, 0x0A0010)], [], [.twn]⟩

theorem State.unconfirmed_moves (s : State) : Moves (Foot.unconfirmed.at []) s (State.unconfirmed s) := by
  unfold State.unconfirmed
  refine Moves.seq ?_ (State.noTakeover_moves ..) (Foot.sub0 (by decide +kernel))
  refine Moves.seq ?_ (State.modTwn_moves ..) (Foot.sub0 (by decide +kernel))
  exact Moves.refl _

def Foot.confirmEnd : Foot := ⟨[(0x0A0010, 0x0A0010)], [], [.twn]⟩

theorem State.confirmEnd_moves (s : State) : Moves (Foot.confirmEnd.at []) s (State.confirmEnd s) := by
  unfold State.confirmEnd
  refine Moves.ite (fun hc => ?_) (fun hc => ?_)
  · refine Moves.seq ?_ (State.unconfirmed_moves ..) (Foot.sub0 (by decide +kernel))
    exact Moves.refl _
  · exact Moves.refl _

end Sys2Proof.Machine
end

