-- ==== Sys2Proof/Laws/Foot11.lean ====
section
/-!
SUPPORT. What the operations may touch: one footprint and one lemma each.
-/

namespace Sys2Proof.Machine

set_option Elab.async false

def Foot.sendTo : Foot := ⟨[], [], [.out, .fab]⟩

theorem State.sendTo_moves (s : State) (flow : Nat) (dst : Nat) (payload : List Byte) :
    Moves (Foot.sendTo.at []) s (State.sendTo s flow dst payload) := by
  unfold State.sendTo
  extract_lets -merge -underBinder +onlyGivenNames x1
  subst x1
  extract_lets -merge -underBinder +onlyGivenNames x2
  refine Moves.let_ x2 ?_ ?_
  · subst x2
    refine Moves.seq ?_ (State.seqUsed_moves ..) (Foot.sub0 (by decide +kernel))
    exact Moves.refl _
  intro h2
  try clear_value x2
  simp -zeta only [List.foldl_cons, List.foldl_nil]
  refine Moves.seq ?_ (State.sendAll_moves ..) (Foot.sub0 (by decide +kernel))
  refine Moves.seq ?_ (State.sendAll_moves ..) (Foot.sub0 (by decide +kernel))
  exact h2

def Foot.confirmReq : Foot := ⟨[(0x0A0010, 0x0A0010)], [], [.out, .fresh, .fab, .twn]⟩

theorem State.confirmReq_moves (s : State) : Moves (Foot.confirmReq.at []) s (State.confirmReq s) := by
  unfold State.confirmReq
  split
  · exact Moves.refl _
  · refine Moves.ite (fun hc => ?_) (fun hc => ?_)
    · exact Moves.refl _
    · refine Moves.ite (fun hc => ?_) (fun hc => ?_)
      · refine Moves.seq ?_ (State.unconfirmed_moves ..) (Foot.sub0 (by decide +kernel))
        exact Moves.refl _
      · extract_lets -merge -underBinder +onlyGivenNames x1
        subst x1
        extract_lets -merge -underBinder +onlyGivenNames x2
        refine Moves.let_ x2 ?_ ?_
        · subst x2
          refine Moves.seq ?_ (State.modTwn_moves ..) (Foot.sub0 (by decide +kernel))
          refine Moves.seq ?_ (State.used_moves ..) (Foot.sub0 (by decide +kernel))
          exact Moves.refl _
        intro h2
        try clear_value x2
        refine Moves.foldl _ (fun x3 _ h3 => ?_) _ ?_
        · refine Moves.seq ?_ (State.sendTo_moves ..) (Foot.sub0 (by decide +kernel))
          exact h3
        · exact h2

def Foot.confirmReqRx : Foot := ⟨[], [], [.out, .fab]⟩

theorem State.confirmReqRx_moves (s : State) (f : NFrame) : Moves (Foot.confirmReqRx.at []) s (State.confirmReqRx s f) := by
  unfold State.confirmReqRx
  refine Moves.ite (fun hc => ?_) (fun hc => ?_)
  · exact Moves.refl _
  · extract_lets -merge -underBinder +onlyGivenNames x1
    subst x1
    extract_lets -merge -underBinder +onlyGivenNames x2
    subst x2
    refine Moves.seq ?_ (State.sendTo_moves ..) (Foot.sub0 (by decide +kernel))
    exact Moves.refl _

def Foot.confirmRx : Foot :=
  ⟨[(0x003010, 0x003010), (0x003040, 0x003040), (0x003050, 0x003050), (0x00306C, 0x00306C), (0x005040,
    0x005040), (0x010010, 0x010010), (0x010048, 0x010048), (0x011010, 0x011010), (0x011040, 0x011048), (0x012010, 0x012010), (0x012040,
    0x012048), (0x013010, 0x013010), (0x013040, 0x013040), (0x013048, 0x013058), (0x020010, 0x020010), (0x020048, 0x020048), (0x021010,
    0x021010), (0x021040, 0x021048), (0x022010, 0x022010), (0x022040, 0x022048), (0x023010, 0x023010), (0x023040, 0x023040), (0x023048,
    0x023058), (0x060010, 0x060010), (0x060044, 0x060044), (0x090010, 0x090010), (0x090058, 0x090064), (0x091010, 0x091010), (0x091050,
    0x091058), (0x093060, 0x093060), (0x0A0010, 0x0A0010), (0x0A0040, 0x0A0040), (0x0A004C, 0x0A004C), (0x0A005C, 0x0A0060), (0x0A2044,
    0x0A2044), (0x100010, 0x100010), (0x100064, 0x100064)], [], [.out, .evq, .lines, .ports, .beam, .fab, .tim, .wake, .twn, .hlt]⟩

theorem State.confirmRx_moves (s : State) (f : NFrame) (low : Bool) : Moves (Foot.confirmRx.at []) s (State.confirmRx s f low) := by
  unfold State.confirmRx
  split
  · refine Moves.ite (fun hc => ?_) (fun hc => ?_)
    · exact Moves.refl _
    · refine Moves.ite (fun hc => ?_) (fun hc => ?_)
      · refine Moves.seq ?_ (State.partnerGone_moves ..) (Foot.sub0 (by decide +kernel))
        exact Moves.refl _
      · refine Moves.seq ?_ (State.raise_moves ..) (Foot.sub1 (by decide +kernel) (Foot.holds_reg (by decide +kernel)))
        refine Moves.seq ?_ (State.satInc_moves _ _ (by decide)) (Foot.sub1 (by decide +kernel) (Foot.holds_reg (by decide +kernel)))
        exact Moves.refl _
  · exact Moves.refl _

def Foot.cpLink : Foot := ⟨[], [], [.evq]⟩

theorem State.cpLink_moves (s : State) (port : Nat) (up : Bool) (fast : Bool) :
    Moves (Foot.cpLink.at [(266308 + 65536 * (port % 8 / 4) + 4096 * (port % 4), 266308 + 65536 * (port % 8 / 4) + 4096 * (port % 4)),
      (4096 * ((266240 + 65536 * (port % 8 / 4) + 4096 * (port % 4)) / 4096) + 16, 4096 * ((266240 + 65536 * (port % 8 / 4) + 4096 *
      (port % 4)) / 4096) + 16)]) s (State.cpLink s port up fast) := by
  unfold State.cpLink
  refine Moves.ite (fun hc => ?_) (fun hc => ?_)
  · exact Moves.refl _
  · extract_lets -merge -underBinder +onlyGivenNames x1
    refine Moves.let_ x1 ?_ ?_
    · subst x1
      refine Moves.seq ?_ (State.putB_moves _ _ _ (by first | (dsimp only [F.CP_P_STAT_SPEED]; omega) | omega)) (Foot.sub1 (by decide +kernel) (Foot.holds_same (.head _)))
      refine Moves.seq ?_ (State.putB_moves _ _ _ (by first | (dsimp only [F.CP_P_STAT_LINK]; omega) | omega)) (Foot.sub1 (by decide +kernel) (Foot.holds_same (.head _)))
      exact Moves.refl _
    intro h1
    try clear_value x1
    extract_lets -merge -underBinder +onlyGivenNames x2
    refine Moves.let_ x2 ?_ ?_
    · subst x2
      refine Moves.seq ?_ (State.raise_moves ..) (Foot.sub1 (by decide +kernel) (Foot.holds_same (.tail _ (.head _))))
      refine Moves.seq ?_ (State.satInc_moves _ _ (by first | (dsimp only [F.CP_P_STAT_LINK_CHG]; omega) | omega)) (Foot.sub1 (by decide +kernel) (Foot.holds_same (.head _)))
      exact h1
    intro h2
    try clear_value x2
    refine Moves.seq ?_ (State.post_moves ..) (Foot.sub0 (by decide +kernel))
    exact h2

def Foot.ctxExpire : Foot := ⟨[(0x031010, 0x031010), (0x031094, 0x031094)], [], [.mem, .out, .evq]⟩

theorem State.ctxExpire_moves (s : State) (i : Nat) : Moves (Foot.ctxExpire.at []) s (State.ctxExpire s i) := by
  unfold State.ctxExpire
  refine Moves.ite (fun hc => ?_) (fun hc => ?_)
  · exact Moves.refl _
  · extract_lets -merge -underBinder +onlyGivenNames x1
    subst x1
    extract_lets -merge -underBinder +onlyGivenNames x2
    refine Moves.let_ x2 ?_ ?_
    · subst x2
      refine Moves.seq ?_ (State.satMem_moves ..) (Foot.sub0 (by decide +kernel))
      refine Moves.seq ?_ (State.setStat_moves ..) (Foot.sub0 (by decide +kernel))
      refine Moves.seq ?_ (State.setStat_moves ..) (Foot.sub0 (by decide +kernel))
      exact Moves.refl _
    intro h2
    try clear_value x2
    extract_lets -merge -underBinder +onlyGivenNames x3
    refine Moves.let_ x3 ?_ ?_
    · subst x3
      refine Moves.seq ?_ (State.put_moves _ _ _ (by decide)) (Foot.sub1 (by decide +kernel) (Foot.holds_reg (by decide +kernel)))
      refine Moves.seq ?_ (State.satInc_moves _ _ (by decide)) (Foot.sub1 (by decide +kernel) (Foot.holds_reg (by decide +kernel)))
      exact h2
    intro h3
    try clear_value x3
    extract_lets -merge -underBinder +onlyGivenNames x4
    refine Moves.let_ x4 ?_ ?_
    · subst x4
      refine Moves.seq ?_ (State.post_moves ..) (Foot.sub0 (by decide +kernel))
      refine Moves.seq ?_ (State.raise_moves ..) (Foot.sub1 (by decide +kernel) (Foot.holds_reg (by decide +kernel)))
      exact h3
    intro h4
    try clear_value x4
    refine Moves.seq ?_ (State.emit_moves ..) (Foot.sub0 (by decide +kernel))
    exact h4

def Foot.inputExpired : Foot := ⟨[(0x060010, 0x060010)], [], [.sgw]⟩

theorem State.inputExpired_moves (s : State) (i : Nat) : Moves (Foot.inputExpired.at []) s (State.inputExpired s i) := by
  unfold State.inputExpired
  refine Moves.ite (fun hc => ?_) (fun hc => ?_)
  · exact Moves.refl _
  · refine Moves.seq ?_ (State.raise_moves ..) (Foot.sub1 (by decide +kernel) (Foot.holds_reg (by decide +kernel)))
    refine Moves.seq ?_ (State.setSgwIn_moves ..) (Foot.sub0 (by decide +kernel))
    exact Moves.refl _

def Foot.ctxInputExpired : Foot := ⟨[(0x060010, 0x060010)], [], [.sgw]⟩

theorem State.ctxInputExpired_moves (s : State) (ctx : Nat) :
    Moves (Foot.ctxInputExpired.at []) s (State.ctxInputExpired s ctx) := by
  unfold State.ctxInputExpired
  refine Moves.ite (fun hc => ?_) (fun hc => ?_)
  · exact Moves.refl _
  · split
    · refine Moves.seq ?_ (State.inputExpired_moves ..) (Foot.sub0 (by decide +kernel))
      exact Moves.refl _
    · exact Moves.refl _

def Foot.settle : Foot :=
  ⟨[], [], [.mem, .out, .evq, .evqCut, .evtCut, .allRegs, .acc, .lines, .ports, .top, .beam, .fab, .tim,
    .cans, .wake, .twn, .hlt, .sgw, .psc, .recorder, .pwr, .mgt]⟩

theorem State.settle_moves (s : State) : Moves (Foot.settle.at []) s (State.settle s) := by
  unfold State.settle
  refine Moves.ite (fun hc => ?_) (fun hc => ?_)
  · refine Moves.seq ?_ (State.bistAbort_moves ..) (Foot.sub0 (by decide +kernel))
    exact Moves.refl _
  · exact Moves.refl _

def Foot.cycleBoundary : Foot :=
  ⟨[], [], [.mem, .out, .evq, .evqCut, .evtCut, .allRegs, .acc, .lines, .ports, .top, .beam, .fab,
    .tim, .cans, .wake, .twn, .hlt, .sgw, .psc, .recorder, .pwr, .mgt]⟩

theorem State.cycleBoundary_moves (s : State) (claimLow : Bool) (canWake : Nat) :
    Moves (Foot.cycleBoundary.at []) s (State.cycleBoundary s claimLow canWake) := by
  unfold State.cycleBoundary
  refine Moves.ite (fun hc => ?_) (fun hc => ?_)
  · exact Moves.refl _
  · refine Moves.seq ?_ (State.settle_moves ..) (Foot.sub0 (by decide +kernel))
    refine Moves.seq ?_ (State.boundarySends_moves ..) (Foot.sub0 (by decide +kernel))
    refine Moves.seq ?_ (State.boundaryWork_moves ..) (Foot.sub0 (by decide +kernel))
    refine Moves.seq ?_ (State.boundaryValues_moves ..) (Foot.sub0 (by decide +kernel))
    exact Moves.refl _

def Foot.dark : Foot :=
  ⟨[], [], [.mem, .out, .evq, .evqCut, .evtCut, .allRegs, .acc, .lines, .ports, .top, .beam, .fab, .tim, .cans,
    .wake, .twn, .hlt, .sgw, .psc, .recorder, .pwr, .mgt]⟩

theorem State.dark_moves (s : State) : Moves (Foot.dark.at []) s (State.dark s) := by
  unfold State.dark
  refine Moves.ite (fun hc => ?_) (fun hc => ?_)
  · exact Moves.refl _
  · refine Moves.seq ?_ (State.modWake_moves ..) (Foot.sub0 (by decide +kernel))
    refine Moves.seq ?_ (State.bootRegsReset_moves ..) (Foot.sub0 (by decide +kernel))
    refine Moves.seq ?_ (State.modPwr_moves ..) (Foot.sub0 (by decide +kernel))
    refine Moves.seq ?_ (State.resetAll_moves ..) (Foot.sub0 (by decide +kernel))
    exact Moves.refl _

def Foot.dawnPulse : Foot := ⟨[(0x003064, 0x003064)], [], [.out, .wake]⟩

theorem State.dawnPulse_moves (s : State) : Moves (Foot.dawnPulse.at []) s (State.dawnPulse s) := by
  unfold State.dawnPulse
  refine Moves.ite (fun hc => ?_) (fun hc => ?_)
  · exact Moves.refl _
  · extract_lets -merge -underBinder +onlyGivenNames x1
    refine Moves.let_ x1 ?_ ?_
    · subst x1
      refine Moves.seq ?_ (State.modWake_moves ..) (Foot.sub0 (by decide +kernel))
      exact Moves.refl _
    intro h1
    try clear_value x1
    simp -zeta only [List.foldl_cons, List.foldl_nil]
    refine Moves.seq ?_ (State.emit_moves ..) (Foot.sub0 (by decide +kernel))
    refine Moves.seq ?_ (State.satInc_moves _ _ (by decide)) (Foot.sub1 (by decide +kernel) (Foot.holds_reg (by decide +kernel)))
    refine Moves.seq ?_ (State.emit_moves ..) (Foot.sub0 (by decide +kernel))
    refine Moves.seq ?_ (State.satInc_moves _ _ (by decide)) (Foot.sub1 (by decide +kernel) (Foot.holds_reg (by decide +kernel)))
    exact h1

def Foot.dawnSend : Foot := ⟨[], [], [.out, .beam, .fab, .wake]⟩

theorem State.dawnSend_moves (s : State) : Moves (Foot.dawnSend.at []) s (State.dawnSend s) := by
  unfold State.dawnSend
  split
  · refine Moves.ite (fun hc => ?_) (fun hc => ?_)
    · refine Moves.seq ?_ (State.startDawn_moves ..) (Foot.sub0 (by decide +kernel))
      refine Moves.seq ?_ (State.modWake_moves ..) (Foot.sub0 (by decide +kernel))
      exact Moves.refl _
    · exact Moves.refl _
  · exact Moves.refl _

def Foot.declined : Foot :=
  ⟨[(0x003010, 0x003010), (0x003040, 0x003040), (0x003050, 0x003050), (0x00306C, 0x00306C), (0x005040,
    0x005040), (0x010010, 0x010010), (0x010048, 0x010048), (0x011010, 0x011010), (0x011040, 0x011048), (0x012010, 0x012010), (0x012040,
    0x012048), (0x013010, 0x013010), (0x013040, 0x013040), (0x013048, 0x013058), (0x020010, 0x020010), (0x020048, 0x020048), (0x021010,
    0x021010), (0x021040, 0x021048), (0x022010, 0x022010), (0x022040, 0x022048), (0x023010, 0x023010), (0x023040, 0x023040), (0x023048,
    0x023058), (0x060010, 0x060010), (0x060044, 0x060044), (0x090010, 0x090010), (0x090058, 0x090064), (0x091010, 0x091010), (0x091050,
    0x091058), (0x093060, 0x093060), (0x0A0010, 0x0A0010), (0x0A0040, 0x0A0040), (0x0A004C, 0x0A004C), (0x0A0060, 0x0A0060), (0x0A2044,
    0x0A2044), (0x100010, 0x100010), (0x100064, 0x100064)], [], [.out, .evq, .lines, .ports, .beam, .fab, .tim, .wake, .twn]⟩

theorem State.declined_moves (s : State) : Moves (Foot.declined.at []) s (State.declined s) := by
  unfold State.declined
  split
  · refine Moves.ite (fun hc => ?_) (fun hc => ?_)
    · exact Moves.refl _
    · extract_lets -merge -underBinder +onlyGivenNames x1
      refine Moves.let_ x1 ?_ ?_
      · subst x1
        refine Moves.seq ?_ (State.raise_moves ..) (Foot.sub1 (by decide +kernel) (Foot.holds_reg (by decide +kernel)))
        refine Moves.seq ?_ (State.put_moves _ _ _ (by decide)) (Foot.sub1 (by decide +kernel) (Foot.holds_reg (by decide +kernel)))
        refine Moves.seq ?_ (State.modTwn_moves ..) (Foot.sub0 (by decide +kernel))
        exact Moves.refl _
      intro h1
      try clear_value x1
      refine Moves.ite (fun hc => ?_) (fun hc => ?_)
      · refine Moves.seq ?_ (State.isolateNow_moves ..) (Foot.sub0 (by decide +kernel))
        exact h1
      · exact h1
  · exact Moves.refl _

def Foot.dinActs : Foot :=
  ⟨[(0x003010, 0x003010), (0x003040, 0x003040), (0x003050, 0x003050), (0x00306C, 0x00306C), (0x004010,
    0x004010), (0x100010, 0x100010), (0x100044, 0x100044), (0x100064, 0x10006C)], [], [.mem, .out, .evq, .lines, .top, .beam, .fab,
    .wake]⟩

theorem State.dinActs_moves (s : State) (i : Nat) : Moves (Foot.dinActs.at []) s (State.dinActs s i) := by
  unfold State.dinActs
  extract_lets -merge -underBinder +onlyGivenNames x1
  refine Moves.let_ x1 ?_ ?_
  · subst x1
    refine Moves.seq ?_ (State.raise_moves ..) (Foot.sub1 (by decide +kernel) (Foot.holds_reg (by decide +kernel)))
    exact Moves.refl _
  intro h1
  try clear_value x1
  split
  · refine Moves.ite (fun hc => ?_) (fun hc => ?_)
    · refine Moves.seq ?_ (State.wakeRequest_moves ..) (Foot.sub0 (by decide +kernel))
      exact h1
    · exact h1
  · refine Moves.seq ?_ (State.trigger_moves ..) (Foot.sub0 (by decide +kernel))
    refine Moves.seq ?_ (State.openingDone_moves ..) (Foot.sub0 (by decide +kernel))
    refine Moves.seq ?_ (State.openingDone_moves ..) (Foot.sub0 (by decide +kernel))
    exact h1
  · refine Moves.seq ?_ (State.trigger_moves ..) (Foot.sub0 (by decide +kernel))
    refine Moves.seq ?_ (State.openingDone_moves ..) (Foot.sub0 (by decide +kernel))
    refine Moves.seq ?_ (State.openingDone_moves ..) (Foot.sub0 (by decide +kernel))
    exact h1
  · exact h1

def Foot.dinApply : Foot :=
  ⟨[(0x003010, 0x003010), (0x003040, 0x003040), (0x003050, 0x003050), (0x00306C, 0x00306C), (0x004010,
    0x004010), (0x100010, 0x100010), (0x100044, 0x100044), (0x100064, 0x10006C)], [], [.mem, .out, .evq, .lines, .top, .beam, .fab,
    .wake]⟩

theorem State.dinApply_moves (s : State) (i : Nat) :
    Moves (Foot.dinApply.at [(16452 + 8 * (i % 4), 16452 + 8 * (i % 4))]) s (State.dinApply s i) := by
  unfold State.dinApply
  extract_lets -merge -underBinder +onlyGivenNames x1
  subst x1
  extract_lets -merge -underBinder +onlyGivenNames x2
  subst x2
  refine Moves.ite (fun hc => ?_) (fun hc => ?_)
  · exact Moves.refl _
  · extract_lets -merge -underBinder +onlyGivenNames x3
    refine Moves.let_ x3 ?_ ?_
    · subst x3
      refine Moves.seq ?_ (State.putB_moves _ _ _ (by first | (dsimp only [F.SYS_DIN_STAT_COND]; omega) | omega)) (Foot.sub1 (by decide +kernel) (Foot.holds_same (.head _)))
      exact Moves.refl _
    intro h3
    try clear_value x3
    refine Moves.ite (fun hc => ?_) (fun hc => ?_)
    · exact h3
    · refine Moves.seq ?_ (State.dinActs_moves ..) (Foot.sub0 (by decide +kernel))
      exact h3

def Foot.dinChat : Foot := ⟨[(0x004010, 0x004010)], [], []⟩

theorem State.dinChat_moves (s : State) (i : Nat) :
    Moves (Foot.dinChat.at [(16452 + 8 * (i % 4), 16452 + 8 * (i % 4))]) s (State.dinChat s i) := by
  unfold State.dinChat
  extract_lets -merge -underBinder +onlyGivenNames x1
  subst x1
  refine Moves.ite (fun hc => ?_) (fun hc => ?_)
  · exact Moves.refl _
  · refine Moves.seq ?_ (State.raise_moves ..) (Foot.sub1 (by decide +kernel) (Foot.holds_reg (by decide +kernel)))
    refine Moves.seq ?_ (State.putB_moves _ _ _ (by first | (dsimp only [F.SYS_DIN_STAT_CHAT]; omega) | omega)) (Foot.sub1 (by decide +kernel) (Foot.holds_same (.head _)))
    exact Moves.refl _

def Foot.dinChatEnd : Foot :=
  ⟨[(0x003010, 0x003010), (0x003040, 0x003040), (0x003050, 0x003050), (0x00306C, 0x00306C), (0x004010,
    0x004010), (0x100010, 0x100010), (0x100044, 0x100044), (0x100064, 0x10006C)], [], [.mem, .out, .evq, .lines, .top, .beam, .fab,
    .wake, .din]⟩

theorem State.dinChatEnd_moves (s : State) (i : Nat) :
    Moves (Foot.dinChatEnd.at [(16452 + 8 * (i % 4), 16452 + 8 * (i % 4))]) s (State.dinChatEnd s i) := by
  unfold State.dinChatEnd
  refine Moves.ite (fun hc => ?_) (fun hc => ?_)
  · exact Moves.refl _
  · refine Moves.seq ?_ (State.dinApply_moves ..) (Foot.sub1 (by decide +kernel) (Foot.holds_same (.head _)))
    refine Moves.seq ?_ (State.setDin_moves ..) (Foot.sub0 (by decide +kernel))
    refine Moves.seq ?_ (State.putB_moves _ _ _ (by first | (dsimp only [F.SYS_DIN_STAT_CHAT]; omega) | omega)) (Foot.sub1 (by decide +kernel) (Foot.holds_same (.head _)))
    exact Moves.refl _

def Foot.dinDebounced : Foot :=
  ⟨[(0x003010, 0x003010), (0x003040, 0x003040), (0x003050, 0x003050), (0x00306C, 0x00306C), (0x004010,
    0x004010), (0x100010, 0x100010), (0x100044, 0x100044), (0x100064, 0x10006C)], [], [.mem, .out, .evq, .lines, .top, .beam, .fab,
    .wake, .din]⟩

theorem State.dinDebounced_moves (s : State) (i : Nat) :
    Moves (Foot.dinDebounced.at [(16452 + 8 * (i % 4), 16452 + 8 * (i % 4))]) s (State.dinDebounced s i) := by
  unfold State.dinDebounced
  refine Moves.ite (fun hc => ?_) (fun hc => ?_)
  · exact Moves.refl _
  · extract_lets -merge -underBinder +onlyGivenNames x1
    subst x1
    extract_lets -merge -underBinder +onlyGivenNames x2
    refine Moves.let_ x2 ?_ ?_
    · subst x2
      refine Moves.seq ?_ (State.setDin_moves ..) (Foot.sub0 (by decide +kernel))
      exact Moves.refl _
    intro h2
    try clear_value x2
    extract_lets -merge -underBinder +onlyGivenNames x3
    refine Moves.let_ x3 ?_ ?_
    · subst x3
      refine Moves.seq ?_ (State.dinApply_moves ..) (Foot.sub1 (by decide +kernel) (Foot.holds_same (.head _)))
      exact h2
    intro h3
    try clear_value x3
    refine Moves.seq ?_ (State.setDin_moves ..) (Foot.sub0 (by decide +kernel))
    exact h3

def Foot.dinStuck : Foot := ⟨[(0x004010, 0x004010)], [], []⟩

theorem State.dinStuck_moves (s : State) (i : Nat) :
    Moves (Foot.dinStuck.at [(16452 + 8 * (i % 4), 16452 + 8 * (i % 4))]) s (State.dinStuck s i) := by
  unfold State.dinStuck
  refine Moves.ite (fun hc => ?_) (fun hc => ?_)
  · exact Moves.refl _
  · extract_lets -merge -underBinder +onlyGivenNames x1
    refine Moves.let_ x1 ?_ ?_
    · subst x1
      refine Moves.seq ?_ (State.putB_moves _ _ _ (by first | (dsimp only [F.SYS_DIN_STAT_STUCK]; omega) | omega)) (Foot.sub1 (by decide +kernel) (Foot.holds_same (.head _)))
      refine Moves.seq ?_ (State.putB_moves _ _ _ (by first | (dsimp only [F.SYS_DIN_STAT_COND]; omega) | omega)) (Foot.sub1 (by decide +kernel) (Foot.holds_same (.head _)))
      exact Moves.refl _
    intro h1
    try clear_value x1
    refine Moves.seq ?_ (State.raise_moves ..) (Foot.sub1 (by decide +kernel) (Foot.holds_reg (by decide +kernel)))
    refine Moves.seq ?_ (State.satInc_moves _ _ (by first | (dsimp only [F.SYS_DIN_STAT_STUCK_CNT]; omega) | omega)) (Foot.sub1 (by decide +kernel) (Foot.holds_same (.head _)))
    exact h1

def Foot.dinStuckRelease : Foot := ⟨[], [], [.din]⟩

theorem State.dinStuckRelease_moves (s : State) (i : Nat) :
    Moves (Foot.dinStuckRelease.at [(16452 + 8 * (i % 4), 16452 + 8 * (i % 4))]) s (State.dinStuckRelease s i) := by
  unfold State.dinStuckRelease
  refine Moves.ite (fun hc => ?_) (fun hc => ?_)
  · exact Moves.refl _
  · refine Moves.seq ?_ (State.putB_moves _ _ _ (by first | (dsimp only [F.SYS_DIN_STAT_STUCK]; omega) | omega)) (Foot.sub1 (by decide +kernel) (Foot.holds_same (.head _)))
    refine Moves.seq ?_ (State.setDin_moves ..) (Foot.sub0 (by decide +kernel))
    exact Moves.refl _

def Foot.discardEpoch : Foot :=
  ⟨[(0x0A0040, 0x0A0040), (0x0A1010, 0x0A1010), (0x0A104C, 0x0A104C), (0x0A2044, 0x0A2044)], [], [.evq,
    .fresh, .twn]⟩

theorem State.discardEpoch_moves (s : State) (n : Nat) : Moves (Foot.discardEpoch.at []) s (State.discardEpoch s n) := by
  unfold State.discardEpoch
  extract_lets -merge -underBinder +onlyGivenNames x1
  refine Moves.let_ x1 ?_ ?_
  · subst x1
    refine Moves.seq ?_ (State.raise_moves ..) (Foot.sub1 (by decide +kernel) (Foot.holds_reg (by decide +kernel)))
    refine Moves.seq ?_ (State.satInc_moves _ _ (by decide)) (Foot.sub1 (by decide +kernel) (Foot.holds_reg (by decide +kernel)))
    exact Moves.refl _
  intro h1
  try clear_value x1
  extract_lets -merge -underBinder +onlyGivenNames x2
  refine Moves.let_ x2 ?_ ?_
  · subst x2
    refine Moves.seq ?_ (State.used_moves ..) (Foot.sub0 (by decide +kernel))
    refine Moves.seq ?_ (State.post_moves ..) (Foot.sub0 (by decide +kernel))
    exact h1
  intro h2
  try clear_value x2
  refine Moves.seq ?_ (State.askBase_moves ..) (Foot.sub0 (by decide +kernel))
  refine Moves.seq ?_ (State.dropSync_moves ..) (Foot.sub0 (by decide +kernel))
  refine Moves.seq ?_ (State.modTwn_moves ..) (Foot.sub0 (by decide +kernel))
  exact h2

def Foot.dmaErr : Foot := ⟨[(0x0B2010, 0x0B2010)], [], [.evq]⟩

theorem State.dmaErr_moves (s : State) (item : Nat) (o : Nat) : Moves (Foot.dmaErr.at []) s (State.dmaErr s item o) := by
  unfold State.dmaErr
  refine Moves.seq ?_ (State.post_moves ..) (Foot.sub0 (by decide +kernel))
  refine Moves.seq ?_ (State.raise_moves ..) (Foot.sub1 (by decide +kernel) (Foot.holds_reg (by decide +kernel)))
  exact Moves.refl _

def Foot.dmaWrite : Foot := ⟨[], [], [.out]⟩

theorem State.dmaWrite_moves (s : State) (m : Nat) (o : Nat) (bs : List Byte) :
    Moves (Foot.dmaWrite.at []) s (State.dmaWrite s m o bs) := by
  unfold State.dmaWrite
  refine Moves.seq ?_ (State.emit_moves ..) (Foot.sub0 (by decide +kernel))
  exact Moves.refl _

def Foot.drDiscard : Foot :=
  ⟨[(0x032010, 0x032010), (0x032060, 0x03206C), (0x0C1010, 0x0C1010), (0x0C1048, 0x0C10B8), (0x0C1100,
    0x0C1104)], [], [.mem, .evq, .fresh, .fab, .psc]⟩

theorem State.drDiscard_moves (s : State) (e : Nat) : Moves (Foot.drDiscard.at []) s (State.drDiscard s e) := by
  unfold State.drDiscard
  split
  · exact Moves.refl _
  · extract_lets -merge -underBinder +onlyGivenNames x1
    subst x1
    extract_lets -merge -underBinder +onlyGivenNames x2
    refine Moves.let_ x2 ?_ ?_
    · subst x2
      refine Moves.seq ?_ (State.drbFollow_moves ..) (Foot.sub0 (by decide +kernel))
      refine Moves.seq ?_ (State.modPsc_moves ..) (Foot.sub0 (by decide +kernel))
      exact Moves.refl _
    intro h2
    try clear_value x2
    extract_lets -merge -underBinder +onlyGivenNames x3
    refine Moves.let_ x3 ?_ ?_
    · subst x3
      refine Moves.seq ?_ (State.raise_moves ..) (Foot.sub1 (by decide +kernel) (Foot.holds_reg (by decide +kernel)))
      refine Moves.seq ?_ (State.satInc_moves _ _ (by decide)) (Foot.sub1 (by decide +kernel) (Foot.holds_reg (by decide +kernel)))
      exact h2
    intro h3
    try clear_value x3
    split
    · refine Moves.seq ?_ (State.post_moves ..) (Foot.sub0 (by decide +kernel))
      exact h3
    · extract_lets -merge -underBinder +onlyGivenNames x4
      refine Moves.let_ x4 ?_ ?_
      · subst x4
        refine Moves.seq ?_ (State.outFollow_moves ..) (Foot.sub1 (by decide +kernel) (Foot.holds_range 790600 790712 (by decide +kernel) (by first | omega | (dsimp only; omega)) (by first | omega | (dsimp only; omega))))
        refine Moves.seq ?_ (State.modPsc_moves ..) (Foot.sub0 (by decide +kernel))
        exact h3
      intro h4
      try clear_value x4
      extract_lets -merge -underBinder +onlyGivenNames x5
      refine Moves.let_ x5 ?_ ?_
      · subst x5
        refine Moves.ite (fun hc => ?_) (fun hc => ?_)
        · refine Moves.seq ?_ (State.put_moves _ _ _ (by first | (dsimp only [F.PSC_WIN_STAT_LAST]; omega) | omega)) (Foot.sub1 (by decide +kernel) (Foot.holds_range 790600 790712 (by decide +kernel) (by first | (dsimp only [F.PSC_WIN_STAT_LAST]; omega) | omega) (by first | (dsimp only [F.PSC_WIN_STAT_LAST]; omega) | omega)))
          exact h4
        · exact h4
      intro h5
      try clear_value x5
      refine Moves.seq ?_ (State.pscKick_moves ..) (Foot.sub0 (by decide +kernel))
      refine Moves.seq ?_ (State.post_moves ..) (Foot.sub0 (by decide +kernel))
      exact h5

def Foot.testEnd : Foot :=
  ⟨[(0x003010, 0x003010), (0x003040, 0x003040), (0x003050, 0x003050), (0x00306C, 0x00306C), (0x005040,
    0x005040), (0x010010, 0x010010), (0x010048, 0x010048), (0x011010, 0x011010), (0x011040, 0x011048), (0x012010, 0x012010), (0x012040,
    0x012048), (0x013010, 0x013010), (0x013040, 0x013040), (0x013048, 0x013058), (0x020010, 0x020010), (0x020048, 0x020048), (0x021010,
    0x021010), (0x021040, 0x021048), (0x022010, 0x022010), (0x022040, 0x022048), (0x023010, 0x023010), (0x023040, 0x023040), (0x023048,
    0x023058), (0x060010, 0x060010), (0x060044, 0x060044), (0x090010, 0x090010), (0x090058, 0x090064), (0x091010, 0x091010), (0x091050,
    0x091058), (0x093060, 0x093060), (0x0A0010, 0x0A0010), (0x0A0040, 0x0A0040), (0x0A0060, 0x0A0060), (0x0A2044, 0x0A2044), (0x0F1044,
    0x0F1044), (0x100010, 0x100010), (0x100064, 0x100064)], [], [.out, .evq, .lines, .ports, .beam, .fab, .tim, .wake, .twn, .hlt]⟩

theorem State.testEnd_moves (s : State) : Moves (Foot.testEnd.at []) s (State.testEnd s) := by
  unfold State.testEnd
  split
  · exact Moves.refl _
  · extract_lets -merge -underBinder +onlyGivenNames x1
    refine Moves.let_ x1 ?_ ?_
    · subst x1
      refine Moves.seq ?_ (State.put_moves _ _ _ (by decide)) (Foot.sub1 (by decide +kernel) (Foot.holds_reg (by decide +kernel)))
      exact Moves.refl _
    intro h1
    try clear_value x1
    refine Moves.ite (fun hc => ?_) (fun hc => ?_)
    · extract_lets -merge -underBinder +onlyGivenNames x2
      refine Moves.let_ x2 ?_ ?_
      · subst x2
        refine Moves.seq ?_ (State.modHlt_moves ..) (Foot.sub0 (by decide +kernel))
        exact h1
      intro h2
      try clear_value x2
      refine Moves.seq ?_ (State.sessionFinish_moves ..) (Foot.sub0 (by decide +kernel))
      refine Moves.seq ?_ (State.sessionRecord_moves ..) (Foot.sub0 (by decide +kernel))
      exact h2
    · refine Moves.seq ?_ (State.modHlt_moves ..) (Foot.sub0 (by decide +kernel))
      exact h1

def Foot.drainTimeout : Foot :=
  ⟨[(0x003010, 0x003010), (0x003040, 0x003040), (0x003050, 0x003050), (0x00306C, 0x00306C), (0x005040,
    0x005040), (0x010010, 0x010010), (0x010048, 0x010048), (0x011010, 0x011010), (0x011040, 0x011048), (0x012010, 0x012010), (0x012040,
    0x012048), (0x013010, 0x013010), (0x013040, 0x013040), (0x013048, 0x013058), (0x020010, 0x020010), (0x020048, 0x020048), (0x021010,
    0x021010), (0x021040, 0x021048), (0x022010, 0x022010), (0x022040, 0x022048), (0x023010, 0x023010), (0x023040, 0x023040), (0x023048,
    0x023058), (0x032058, 0x032058), (0x060010, 0x060010), (0x060044, 0x060044), (0x090010, 0x090010), (0x090058, 0x090064), (0x091010,
    0x091010), (0x091050, 0x091058), (0x093060, 0x093060), (0x0A0010, 0x0A0010), (0x0A0040, 0x0A0040), (0x0A0060, 0x0A0060), (0x0A2044,
    0x0A2044), (0x0F1044, 0x0F1044), (0x100010, 0x100010), (0x100064, 0x100064)], [], [.out, .evq, .lines, .ports, .beam, .fab, .tim,
    .wake, .twn, .hlt]⟩

theorem State.drainTimeout_moves (s : State) : Moves (Foot.drainTimeout.at []) s (State.drainTimeout s) := by
  unfold State.drainTimeout
  split
  · exact Moves.refl _
  · refine Moves.ite (fun hc => ?_) (fun hc => ?_)
    · exact Moves.refl _
    · extract_lets -merge -underBinder +onlyGivenNames x1
      subst x1
      extract_lets -merge -underBinder +onlyGivenNames x2
      refine Moves.let_ x2 ?_ ?_
      · subst x2
        refine Moves.ite (fun hc => ?_) (fun hc => ?_)
        · exact Moves.refl _
        · refine Moves.seq ?_ (State.notMoving_moves ..) (Foot.sub0 (by decide +kernel))
          exact Moves.refl _
      intro h2
      try clear_value x2
      refine Moves.seq ?_ (State.testEnd_moves ..) (Foot.sub0 (by decide +kernel))
      refine Moves.seq ?_ (State.put_moves _ _ _ (by decide)) (Foot.sub1 (by decide +kernel) (Foot.holds_reg (by decide +kernel)))
      exact h2

def Foot.dvfsDone : Foot := ⟨[(0x002010, 0x002010)], [], []⟩

theorem State.dvfsDone_moves (s : State) (f : Nat) :
    Moves (Foot.dvfsDone.at [(8452 + 8 * (f % 3), 8452 + 8 * (f % 3))]) s (State.dvfsDone s f) := by
  unfold State.dvfsDone
  extract_lets -merge -underBinder +onlyGivenNames x1
  subst x1
  refine Moves.ite (fun hc => ?_) (fun hc => ?_)
  · exact Moves.refl _
  · refine Moves.seq ?_ (State.raise_moves ..) (Foot.sub1 (by decide +kernel) (Foot.holds_reg (by decide +kernel)))
    refine Moves.seq ?_ (State.putB_moves _ _ _ (by first | (dsimp only [F.SYS_PWR_DVFSSTAT_BUSY]; omega) | omega)) (Foot.sub1 (by decide +kernel) (Foot.holds_same (.head _)))
    refine Moves.seq ?_ (State.put_moves _ _ _ (by first | (dsimp only [F.SYS_PWR_DVFSSTAT_CUR_V]; omega) | omega)) (Foot.sub1 (by decide +kernel) (Foot.holds_same (.head _)))
    exact Moves.refl _

def Foot.dvfsFreq : Foot := ⟨[], [], [.pwr]⟩

theorem State.dvfsFreq_moves (s : State) (f : Nat) :
    Moves (Foot.dvfsFreq.at [(8452 + 8 * (f % 3), 8452 + 8 * (f % 3))]) s (State.dvfsFreq s f) := by
  unfold State.dvfsFreq
  extract_lets -merge -underBinder +onlyGivenNames x1
  subst x1
  extract_lets -merge -underBinder +onlyGivenNames x2
  subst x2
  refine Moves.ite (fun hc => ?_) (fun hc => ?_)
  · exact Moves.refl _
  · extract_lets -merge -underBinder +onlyGivenNames x3
    refine Moves.let_ x3 ?_ ?_
    · subst x3
      refine Moves.ite (fun hc => ?_) (fun hc => ?_)
      · refine Moves.seq ?_ (State.put_moves _ _ _ (by first | (dsimp only [F.SYS_PWR_DVFSSTAT_CUR_V]; omega) | omega)) (Foot.sub1 (by decide +kernel) (Foot.holds_same (.head _)))
        exact Moves.refl _
      · exact Moves.refl _
    intro h3
    try clear_value x3
    refine Moves.seq ?_ (State.setDvfs_moves ..) (Foot.sub0 (by decide +kernel))
    refine Moves.seq ?_ (State.put_moves _ _ _ (by first | (dsimp only [F.SYS_PWR_DVFSSTAT_CUR_F]; omega) | omega)) (Foot.sub1 (by decide +kernel) (Foot.holds_same (.head _)))
    exact h3

def Foot.rowInc : Foot := ⟨[], [], [.hlt]⟩

theorem State.rowInc_moves (s : State) (k : Nat) : Moves (Foot.rowInc.at []) s (State.rowInc s k) := by
  unfold State.rowInc
  extract_lets -merge -underBinder +onlyGivenNames x1
  subst x1
  refine Moves.seq ?_ (State.modHlt_moves ..) (Foot.sub0 (by decide +kernel))
  exact Moves.refl _

def Foot.suspect : Foot := ⟨[(0x0F0010, 0x0F0010)], [], [.evq, .hlt]⟩

theorem State.suspect_moves (s : State) (m : Nat) (row : Nat) (ue : Bool) :
    Moves (Foot.suspect.at []) s (State.suspect s m row ue) := by
  unfold State.suspect
  extract_lets -merge -underBinder +onlyGivenNames x1
  subst x1
  refine Moves.ite (fun hc => ?_) (fun hc => ?_)
  · exact Moves.refl _
  · refine Moves.seq ?_ (State.post_moves ..) (Foot.sub0 (by decide +kernel))
    refine Moves.seq ?_ (State.raise_moves ..) (Foot.sub1 (by decide +kernel) (Foot.holds_reg (by decide +kernel)))
    refine Moves.seq ?_ (State.modHlt_moves ..) (Foot.sub0 (by decide +kernel))
    exact Moves.refl _

def Foot.eccToHlt : Foot := ⟨[(0x000054, 0x000054), (0x0F0010, 0x0F0010), (0x0F0040, 0x0F0040), (0x0F0100, 0x0F013C)], [], [.evq, .hlt]⟩

theorem State.eccToHlt_moves (s : State) (m : Nat) (row : Nat) (group : Nat) (ue : Bool) :
    Moves (Foot.eccToHlt.at [(983168 + 4 * (memIsland m % 17), 983168 + 4 * (memIsland m % 17))]) s (State.eccToHlt s m row group ue)
      := by
  unfold State.eccToHlt
  refine Moves.ite (fun hc => ?_) (fun hc => ?_)
  · exact Moves.refl _
  · extract_lets -merge -underBinder +onlyGivenNames x1
    subst x1
    extract_lets -merge -underBinder +onlyGivenNames x2
    subst x2
    extract_lets -merge -underBinder +onlyGivenNames x3
    refine Moves.let_ x3 ?_ ?_
    · subst x3
      refine Moves.seq ?_ (State.modHlt_moves ..) (Foot.sub0 (by decide +kernel))
      refine Moves.seq ?_ (State.wr_moves _ _ (by first | (dsimp only [R.HLT_CTRL_ELOG]; omega) | omega)) (Foot.sub1 (by decide +kernel) (Foot.holds_range 983296 983356 (by decide +kernel) (by first | (dsimp only [R.HLT_CTRL_ELOG]; omega) | omega) (by first | (dsimp only [R.HLT_CTRL_ELOG]; omega) | omega)))
      exact Moves.refl _
    intro h3
    try clear_value x3
    extract_lets -merge -underBinder +onlyGivenNames x4
    refine Moves.let_ x4 ?_ ?_
    · subst x4
      refine Moves.ite (fun hc => ?_) (fun hc => ?_)
      · refine Moves.seq ?_ (State.modHlt_moves ..) (Foot.sub0 (by decide +kernel))
        exact h3
      · refine Moves.seq ?_ (State.modHlt_moves ..) (Foot.sub0 (by decide +kernel))
        refine Moves.seq ?_ (State.rowInc_moves ..) (Foot.sub0 (by decide +kernel))
        exact h3
    intro h4
    try clear_value x4
    extract_lets -merge -underBinder +onlyGivenNames x5
    refine Moves.let_ x5 ?_ ?_
    · subst x5
      refine Moves.ite (fun hc => ?_) (fun hc => ?_)
      · refine Moves.seq ?_ (State.suspect_moves ..) (Foot.sub0 (by decide +kernel))
        exact h4
      · exact h4
    intro h5
    try clear_value x5
    refine Moves.seq ?_ (State.memReasons_moves ..) (Foot.sub1 (by decide +kernel) (Foot.holds_same (.head _)))
    exact h5

def Foot.eccOnPage : Foot := ⟨[], [], [.evq]⟩

theorem State.eccOnPage_moves (s : State) (pg : Nat) (m : Nat) (row : Nat) (ue : Bool) :
    Moves (Foot.eccOnPage.at [(4096 * (pg / 4096) + 16, 4096 * (pg / 4096) + 16),
      (4096 * (pg / 4096) + 32, 4096 * (pg / 4096) + 32)]) s (State.eccOnPage s pg m row ue) := by
  unfold State.eccOnPage
  refine Moves.ite (fun hc => ?_) (fun hc => ?_)
  · refine Moves.seq ?_ (State.post_moves ..) (Foot.sub0 (by decide +kernel))
    refine Moves.seq ?_ (State.raise_moves ..) (Foot.sub1 (by decide +kernel) (Foot.holds_same (.head _)))
    refine Moves.seq ?_ (State.satInc_moves _ _ (by first | (dsimp only [F.PG_ERR_UE_CNT]; omega) | omega)) (Foot.sub1 (by decide +kernel) (Foot.holds_same (.tail _ (.head _))))
    exact Moves.refl _
  · refine Moves.seq ?_ (State.raise_moves ..) (Foot.sub1 (by decide +kernel) (Foot.holds_same (.head _)))
    refine Moves.seq ?_ (State.satInc_moves _ _ (by first | (dsimp only [F.PG_ERR_CE_CNT]; omega) | omega)) (Foot.sub1 (by decide +kernel) (Foot.holds_same (.tail _ (.head _))))
    exact Moves.refl _

def Foot.eccEvent : Foot := ⟨[(0x000054, 0x000054), (0x0F0010, 0x0F0010), (0x0F0040, 0x0F0040), (0x0F0100, 0x0F013C)], [], [.evq, .hlt]⟩

theorem State.eccEvent_moves (s : State) (pg : Nat) (m : Nat) (row : Nat) (group : Nat) (ue : Bool) :
    Moves (Foot.eccEvent.at [(983168 + 4 * (memIsland m % 17), 983168 + 4 * (memIsland m % 17)),
      (4096 * (eccPage pg / 4096) + 16, 4096 * (eccPage pg / 4096) + 16),
      (4096 * (eccPage pg / 4096) + 32, 4096 * (eccPage pg / 4096) + 32)]) s (State.eccEvent s pg m row group ue) := by
  unfold State.eccEvent
  refine Moves.ite (fun hc => ?_) (fun hc => ?_)
  · exact Moves.refl _
  · refine Moves.seq ?_ (State.eccToHlt_moves ..) (Foot.sub1 (by decide +kernel) (Foot.holds_same (.head _)))
    refine Moves.seq ?_ (State.eccOnPage_moves ..) (Foot.sub_at (by decide +kernel) (Foot.own_cons (Foot.holds_same (.tail _ (.head _))) (Foot.own_cons (Foot.holds_same (.tail _ (.tail _ (.head _)))) Foot.own_nil)))
    exact Moves.refl _

def Foot.nextEpoch : Foot :=
  ⟨[(0x0A0040, 0x0A0040), (0x0A1010, 0x0A1010), (0x0A104C, 0x0A104C), (0x0A2044, 0x0A2044)], [], [.evq,
    .fresh, .twn]⟩

theorem State.nextEpoch_moves (s : State) (n : Nat) : Moves (Foot.nextEpoch.at []) s (State.nextEpoch s n) := by
  unfold State.nextEpoch
  split
  · refine Moves.ite (fun hc => ?_) (fun hc => ?_)
    · exact Moves.refl _
    · refine Moves.seq ?_ (State.discardEpoch_moves ..) (Foot.sub0 (by decide +kernel))
      exact Moves.refl _
  · exact Moves.refl _

def Foot.ecloseRx : Foot :=
  ⟨[(0x000054, 0x000054), (0x003010, 0x003010), (0x003040, 0x003040), (0x003050, 0x003050), (0x00306C,
    0x00306C), (0x005040, 0x005040), (0x010010, 0x010010), (0x010048, 0x010048), (0x011010, 0x011010), (0x011040, 0x011048), (0x012010,
    0x012010), (0x012040, 0x012048), (0x013010, 0x013010), (0x013040, 0x013040), (0x013048, 0x013058), (0x020010, 0x020010), (0x020048,
    0x020048), (0x021010, 0x021010), (0x021040, 0x021048), (0x022010, 0x022010), (0x022040, 0x022048), (0x023010, 0x023010), (0x023040,
    0x023040), (0x023048, 0x023058), (0x060010, 0x060010), (0x060044, 0x060044), (0x090010, 0x090010), (0x090058, 0x090064), (0x091010,
    0x091010), (0x091050, 0x091058), (0x093060, 0x093060), (0x0A0010, 0x0A0010), (0x0A0040, 0x0A0040), (0x0A005C, 0x0A0060), (0x0A1010,
    0x0A1010), (0x0A1044, 0x0A1050), (0x0A2010, 0x0A2010), (0x0A2044, 0x0A2054), (0x0F0010, 0x0F0010), (0x0F0040, 0x0F0040), (0x0F0098,
    0x0F0098), (0x100010, 0x100010), (0x100064, 0x100064)], [], [.mem, .out, .evq, .fresh, .lines, .ports, .beam, .fab, .tim, .wake,
    .twn, .hlt]⟩

theorem State.ecloseRx_moves (s : State) (n : Nat) (payload : List Byte) :
    Moves (Foot.ecloseRx.at []) s (State.ecloseRx s n payload) := by
  unfold State.ecloseRx
  refine Moves.ite (fun hc => ?_) (fun hc => ?_)
  · exact Moves.refl _
  · extract_lets -merge -underBinder +onlyGivenNames x1
    refine Moves.let_ x1 ?_ ?_
    · subst x1
      refine Moves.seq ?_ (State.nextEpoch_moves ..) (Foot.sub0 (by decide +kernel))
      exact Moves.refl _
    intro h1
    try clear_value x1
    extract_lets -merge -underBinder +onlyGivenNames x2
    subst x2
    refine Moves.ite (fun hc => ?_) (fun hc => ?_)
    · refine Moves.seq ?_ (State.commitEpoch_moves ..) (Foot.sub0 (by decide +kernel))
      exact h1
    · refine Moves.seq ?_ (State.discardEpoch_moves ..) (Foot.sub0 (by decide +kernel))
      exact h1

def Foot.endHold : Foot := ⟨[(0x000050, 0x000050), (0x002080, 0x0020C0)], [], [.pwr, .mgt]⟩

theorem State.endHold_moves (s : State) (cause : Nat) : Moves (Foot.endHold.at []) s (State.endHold s cause) := by
  unfold State.endHold
  refine Moves.ite (fun hc => ?_) (fun hc => ?_)
  · refine Moves.seq ?_ (State.releaseReset_moves ..) (Foot.sub0 (by decide +kernel))
    exact Moves.refl _
  · exact Moves.refl _

def Foot.entryUe : Foot := ⟨[(0x060010, 0x060010), (0x060070, 0x060070)], [], []⟩

theorem State.entryUe_moves (s : State) (i : Nat) : Moves (Foot.entryUe.at []) s (State.entryUe s i) := by
  unfold State.entryUe
  refine Moves.seq ?_ (State.raise_moves ..) (Foot.sub1 (by decide +kernel) (Foot.holds_reg (by decide +kernel)))
  refine Moves.seq ?_ (State.put_moves _ _ _ (by decide)) (Foot.sub1 (by decide +kernel) (Foot.holds_reg (by decide +kernel)))
  refine Moves.seq ?_ (State.satInc_moves _ _ (by decide)) (Foot.sub1 (by decide +kernel) (Foot.holds_reg (by decide +kernel)))
  exact Moves.refl _

def Foot.epochRecord : Foot := ⟨[], [], [.out, .twn]⟩

theorem State.epochRecord_moves (s : State) (i : MirrorItem) : Moves (Foot.epochRecord.at []) s (State.epochRecord s i) := by
  unfold State.epochRecord
  split
  · refine Moves.seq ?_ (State.mirrorRecord_moves ..) (Foot.sub0 (by decide +kernel))
    exact Moves.refl _
  · exact Moves.refl _

def Foot.erecRx : Foot :=
  ⟨[(0x0A0040, 0x0A0040), (0x0A1010, 0x0A1010), (0x0A104C, 0x0A104C), (0x0A2044, 0x0A2044)], [], [.evq,
    .fresh, .twn]⟩

theorem State.erecRx_moves (s : State) (n : Nat) (payload : List Byte) : Moves (Foot.erecRx.at []) s (State.erecRx s n payload) := by
  unfold State.erecRx
  refine Moves.ite (fun hc => ?_) (fun hc => ?_)
  · exact Moves.refl _
  · extract_lets -merge -underBinder +onlyGivenNames x1
    refine Moves.let_ x1 ?_ ?_
    · subst x1
      refine Moves.seq ?_ (State.nextEpoch_moves ..) (Foot.sub0 (by decide +kernel))
      exact Moves.refl _
    intro h1
    try clear_value x1
    refine Moves.seq ?_ (State.modTwn_moves ..) (Foot.sub0 (by decide +kernel))
    exact h1

def Foot.learn : Foot := ⟨[(0x030010, 0x030010)], [], [.fab]⟩

theorem State.learn_moves (s : State) (mac : Nat) (vid : Nat) (port : Nat) :
    Moves (Foot.learn.at []) s (State.learn s mac vid port) := by
  unfold State.learn
  extract_lets -merge -underBinder +onlyGivenNames x1
  subst x1
  refine Moves.ite (fun hc => ?_) (fun hc => ?_)
  · exact Moves.refl _
  · refine Moves.ite (fun hc => ?_) (fun hc => ?_)
    · refine Moves.seq ?_ (Moves.upd_fab _ _) (Foot.sub0 (by decide +kernel))
      exact Moves.refl _
    · refine Moves.seq ?_ (State.raise_moves ..) (Foot.sub1 (by decide +kernel) (Foot.holds_reg (by decide +kernel)))
      exact Moves.refl _

def Foot.ethForward : Foot := ⟨[(0x032010, 0x032010), (0x032060, 0x03206C)], [], [.mem, .out, .fab]⟩

theorem State.ethForward_moves (s : State) (n : Nat) (port : Nat) (vid : Nat) (q : Nat) (f : EthFrame) :
    Moves (Foot.ethForward.at []) s (State.ethForward s n port vid q f) := by
  unfold State.ethForward
  refine Moves.foldl _ (fun x1 _ h1 => ?_) _ ?_
  · refine Moves.seq ?_ (State.forward_moves ..) (Foot.sub1 (by decide +kernel) (Foot.holds_four 204908 204904 204900 204896 (by decide +kernel) (by decide +kernel) (by decide +kernel) (by decide +kernel) (by first | omega | (dsimp only; omega))))
    exact h1
  · exact Moves.refl _

def Foot.ethBridge : Foot :=
  ⟨[(0x030010, 0x030010), (0x032010, 0x032010), (0x032060, 0x03206C), (0x034010, 0x034010), (0x037010,
    0x037010)], [], [.mem, .out, .fab]⟩

theorem State.ethBridge_moves (s : State) (port : Nat) (f : EthFrame) (fcsOk : Bool) :
    Moves (Foot.ethBridge.at [(69708 + 65536 * ((bportOf port).line.idx % 2) + 4096 * ((bportOf port).side % 2), 69708 + 65536 *
      ((bportOf port).line.idx % 2) + 4096 * ((bportOf port).side % 2)),
      (266312 + 65536 * ((port - 4) % 8 / 4) + 4096 * ((port - 4) % 4), 266312 + 65536 * ((port - 4) % 8 / 4) + 4096 * ((port - 4) %
      4))]) s ((State.ethBridge s port f fcsOk)).2 := by
  unfold State.ethBridge
  extract_lets -merge -underBinder +onlyGivenNames x1
  refine Moves.let_ x1 ?_ ?_
  · subst x1
    refine Moves.seq ?_ (State.cntRx_moves ..) (Foot.sub0 (by decide +kernel))
    exact Moves.refl _
  intro h1
  try clear_value x1
  extract_lets -merge -underBinder +onlyGivenNames x2
  subst x2
  extract_lets -merge -underBinder +onlyGivenNames x3
  subst x3
  extract_lets -merge -underBinder +onlyGivenNames x4
  subst x4
  refine Moves.ite_snd (fun hc => ?_) (fun hc => ?_)
  · extract_lets -merge -underBinder +onlyGivenNames x5
    refine Moves.let_ x5 ?_ ?_
    · subst x5
      refine Moves.ite (fun hc => ?_) (fun hc => ?_)
      · refine Moves.seq ?_ (State.satInc_moves _ _ (by first | (dsimp only [F.BL_P_ERR_FCS_ERR]; omega) | omega)) (Foot.sub1 (by decide +kernel) (Foot.holds_same (.head _)))
        exact h1
      · refine Moves.seq ?_ (State.satInc_moves _ _ (by first | (dsimp only [F.CP_P_ERR_FCS_ERR]; omega) | omega)) (Foot.sub1 (by decide +kernel) (Foot.holds_same (.tail _ (.head _))))
        exact h1
    intro h5
    try clear_value x5
    refine Moves.seq ?_ (State.badFcs_moves ..) (Foot.sub0 (by decide +kernel))
    exact h5
  · extract_lets -merge -underBinder +onlyGivenNames x6
    subst x6
    refine Moves.ite_snd (fun hc => ?_) (fun hc => ?_)
    · refine Moves.seq ?_ (State.policed_moves ..) (Foot.sub0 (by decide +kernel))
      refine Moves.ite_snd (fun hc => ?_) (fun hc => ?_)
      · exact h1
      · refine Moves.seq ?_ (State.police_moves ..) (Foot.sub0 (by decide +kernel))
        exact h1
    · split
      · refine Moves.seq ?_ (State.satMem_moves ..) (Foot.sub0 (by decide +kernel))
        refine Moves.ite_snd (fun hc => ?_) (fun hc => ?_)
        · exact h1
        · refine Moves.seq ?_ (State.police_moves ..) (Foot.sub0 (by decide +kernel))
          exact h1
      · extract_lets -merge -underBinder +onlyGivenNames x7
        refine Moves.let_ x7 ?_ ?_
        · subst x7
          refine Moves.seq ?_ (State.learn_moves ..) (Foot.sub0 (by decide +kernel))
          refine Moves.ite_snd (fun hc => ?_) (fun hc => ?_)
          · exact h1
          · refine Moves.seq ?_ (State.police_moves ..) (Foot.sub0 (by decide +kernel))
            exact h1
        intro h7
        try clear_value x7
        extract_lets -merge -underBinder +onlyGivenNames x8
        subst x8
        refine Moves.ite_snd (fun hc => ?_) (fun hc => ?_)
        · refine Moves.seq ?_ (State.ethForward_moves ..) (Foot.sub0 (by decide +kernel))
          refine Moves.seq ?_ (State.cbCheck_moves ..) (Foot.sub0 (by decide +kernel))
          exact h7
        · refine Moves.seq ?_ (State.cbCheck_moves ..) (Foot.sub0 (by decide +kernel))
          exact h7

def Foot.ethDiscard : Foot := ⟨[], [], []⟩

theorem State.ethDiscard_moves (s : State) (port : Nat) (f : EthFrame) :
    Moves (Foot.ethDiscard.at [(266312 + 65536 * ((port - 4) % 8 / 4) + 4096 * ((port - 4) % 4), 266312 + 65536 * ((port - 4) % 8 / 4)
      + 4096 * ((port - 4) % 4))]) s ((State.ethDiscard s port f)).2 := by
  unfold State.ethDiscard
  refine Moves.ite_snd (fun hc => ?_) (fun hc => ?_)
  · refine Moves.ite (fun hc => ?_) (fun hc => ?_)
    · exact Moves.refl _
    · refine Moves.seq ?_ (State.satInc_moves _ _ (by first | (dsimp only [F.CP_P_ERR_MACCTL]; omega) | omega)) (Foot.sub1 (by decide +kernel) (Foot.holds_same (.head _)))
      exact Moves.refl _
  · exact Moves.refl _

def Foot.ethRx : Foot :=
  ⟨[(0x030010, 0x030010), (0x032010, 0x032010), (0x032060, 0x03206C), (0x034010, 0x034010), (0x037010,
    0x037010)], [], [.mem, .out, .fab]⟩

theorem State.ethRx_moves (s : State) (port : Nat) (f : EthFrame) (fcsOk : Bool) :
    Moves (Foot.ethRx.at [(266312 + 65536 * ((port - 4) % 8 / 4) + 4096 * ((port - 4) % 4), 266312 + 65536 * ((port - 4) % 8 / 4) +
      4096 * ((port - 4) % 4)),
      (69708 + 65536 * ((bportOf port).line.idx % 2) + 4096 * ((bportOf port).side % 2), 69708 + 65536 * ((bportOf port).line.idx % 2)
      + 4096 * ((bportOf port).side % 2))]) s ((State.ethRx s port f fcsOk)).2 := by
  unfold State.ethRx
  refine Moves.ite_snd (fun hc => ?_) (fun hc => ?_)
  · exact Moves.refl _
  · extract_lets -merge -underBinder +onlyGivenNames x1
    subst x1
    refine Moves.ite_snd (fun hc => ?_) (fun hc => ?_)
    · refine Moves.seq ?_ (State.ethDiscard_moves ..) (Foot.sub1 (by decide +kernel) (Foot.holds_same (.head _)))
      exact Moves.refl _
    · refine Moves.ite_snd (fun hc => ?_) (fun hc => ?_)
      · refine Moves.seq ?_ (State.cntRx_moves ..) (Foot.sub0 (by decide +kernel))
        exact Moves.refl _
      · refine Moves.seq ?_ (State.ethBridge_moves ..) (Foot.sub_at (by decide +kernel) (Foot.own_cons (Foot.holds_same (.tail _ (.head _))) (Foot.own_cons (Foot.holds_same (.head _)) Foot.own_nil)))
        exact Moves.refl _

def Foot.expire : Foot := ⟨[(0x031010, 0x031010), (0x031094, 0x031094), (0x060010, 0x060010)], [], [.mem, .out, .evq, .sgw]⟩

theorem State.expire_moves (s : State) (ctx : Nat) : Moves (Foot.expire.at []) s (State.expire s ctx) := by
  unfold State.expire
  extract_lets -merge -underBinder +onlyGivenNames x1
  refine Moves.let_ x1 ?_ ?_
  · subst x1
    refine Moves.seq ?_ (State.ctxExpire_moves ..) (Foot.sub0 (by decide +kernel))
    exact Moves.refl _
  intro h1
  try clear_value x1
  refine Moves.ite (fun hc => ?_) (fun hc => ?_)
  · refine Moves.seq ?_ (State.ctxInputExpired_moves ..) (Foot.sub0 (by decide +kernel))
    exact h1
  · exact h1

def Foot.failCntClear : Foot := ⟨[], [], []⟩

theorem State.failCntClear_moves (s : State) (l : Line) :
    Moves (Foot.failCntClear.at [(65608 + 65536 * (l.idx % 2), 65608 + 65536 * (l.idx % 2))]) s (State.failCntClear s l) := by
  unfold State.failCntClear
  refine Moves.ite (fun hc => ?_) (fun hc => ?_)
  · refine Moves.seq ?_ (State.put_moves _ _ _ (by first | (dsimp only [F.BL_LINE_STAT_FAIL_CNT]; omega) | omega)) (Foot.sub1 (by decide +kernel) (Foot.holds_same (.head _)))
    exact Moves.refl _
  · exact Moves.refl _

def Foot.failsafe : Foot :=
  ⟨[(0x005040, 0x005040), (0x011010, 0x011010), (0x011040, 0x011048), (0x012010, 0x012010), (0x012040,
    0x012048), (0x013058, 0x013058), (0x021010, 0x021010), (0x021040, 0x021048), (0x022010, 0x022010), (0x022040, 0x022048), (0x023058,
    0x023058), (0x100010, 0x100010), (0x100064, 0x100064)], [], [.evq, .lines, .ports, .beam]⟩

theorem State.failsafe_moves (s : State) (l : Line) (fab : Bool) (top : Bool) :
    Moves (Foot.failsafe.at [(65608 + 65536 * (l.idx % 2), 65608 + 65536 * (l.idx % 2)),
      (4096 * ((65536 + 65536 * (l.idx % 2)) / 4096) + 16, 4096 * ((65536 + 65536 * (l.idx % 2)) / 4096) + 16),
      (65612 + 65536 * (l.idx % 2), 65612 + 65536 * (l.idx % 2)),
      (77904 + 65536 * ((l.port true).line.idx % 2), 77904 + 65536 * ((l.port true).line.idx % 2)),
      (77908 + 65536 * ((l.port true).line.idx % 2), 77908 + 65536 * ((l.port true).line.idx % 2)),
      (77896 + 65536 * ((l.port true).line.idx % 2), 77896 + 65536 * ((l.port true).line.idx % 2)),
      (77900 + 65536 * ((l.port true).line.idx % 2), 77900 + 65536 * ((l.port true).line.idx % 2)),
      (77904 + 65536 * ((l.port false).line.idx % 2), 77904 + 65536 * ((l.port false).line.idx % 2)),
      (77908 + 65536 * ((l.port false).line.idx % 2), 77908 + 65536 * ((l.port false).line.idx % 2)),
      (77896 + 65536 * ((l.port false).line.idx % 2), 77896 + 65536 * ((l.port false).line.idx % 2)),
      (77900 + 65536 * ((l.port false).line.idx % 2), 77900 + 65536 * ((l.port false).line.idx % 2)),
      (77888 + 65536 * (l.idx % 2), 77888 + 65536 * (l.idx % 2)),
      (4096 * ((77824 + 65536 * (l.idx % 2)) / 4096) + 16, 4096 * ((77824 + 65536 * (l.idx % 2)) / 4096) + 16)]) s (State.failsafe s l
      fab top) := by
  unfold State.failsafe
  refine Moves.ite (fun hc => ?_) (fun hc => ?_)
  · exact Moves.refl _
  · extract_lets -merge -underBinder +onlyGivenNames x1
    refine Moves.let_ x1 ?_ ?_
    · subst x1
      refine Moves.seq ?_ (State.putB_moves _ _ _ (by first | (dsimp only [F.BL_LINE_STAT_KA_TOP]; omega) | omega)) (Foot.sub1 (by decide +kernel) (Foot.holds_same (.head _)))
      refine Moves.seq ?_ (State.putB_moves _ _ _ (by first | (dsimp only [F.BL_LINE_STAT_KA_FAB]; omega) | omega)) (Foot.sub1 (by decide +kernel) (Foot.holds_same (.head _)))
      exact Moves.refl _
    intro h1
    try clear_value x1
    refine Moves.ite (fun hc => ?_) (fun hc => ?_)
    · exact h1
    · refine Moves.ite (fun hc => ?_) (fun hc => ?_)
      · exact h1
      · extract_lets -merge -underBinder +onlyGivenNames x2
        refine Moves.let_ x2 ?_ ?_
        · subst x2
          refine Moves.seq ?_ (State.post_moves ..) (Foot.sub0 (by decide +kernel))
          refine Moves.seq ?_ (State.raise_moves ..) (Foot.sub1 (by decide +kernel) (Foot.holds_same (.tail _ (.head _))))
          refine Moves.seq ?_ (State.satInc_moves _ _ (by first | (dsimp only [F.BL_LINE_CNT_FAILSAFE_CNT]; omega) | omega)) (Foot.sub1 (by decide +kernel) (Foot.holds_same (.tail _ (.tail _ (.head _)))))
          exact h1
        intro h2
        try clear_value x2
        refine Moves.seq ?_ (State.startClose_moves ..) (Foot.sub_at (by decide +kernel) (Foot.own_cons (Foot.holds_same (.head _)) (Foot.own_cons (Foot.holds_same (.tail _ (.tail _ (.tail _ (.head _))))) (Foot.own_cons (Foot.holds_same (.tail _ (.tail _ (.tail _ (.tail _ (.head _)))))) (Foot.own_cons (Foot.holds_same (.tail _ (.tail _ (.tail _ (.tail _ (.tail _ (.head _))))))) (Foot.own_cons (Foot.holds_same (.tail _ (.tail _ (.tail _ (.tail _ (.tail _ (.tail _ (.head _)))))))) (Foot.own_cons (Foot.holds_same (.tail _ (.tail _ (.tail _ (.tail _ (.tail _ (.tail _ (.tail _ (.head _))))))))) (Foot.own_cons (Foot.holds_same (.tail _ (.tail _ (.tail _ (.tail _ (.tail _ (.tail _ (.tail _ (.tail _ (.head _)))))))))) (Foot.own_cons (Foot.holds_same (.tail _ (.tail _ (.tail _ (.tail _ (.tail _ (.tail _ (.tail _ (.tail _ (.tail _ (.head _))))))))))) (Foot.own_cons (Foot.holds_same (.tail _ (.tail _ (.tail _ (.tail _ (.tail _ (.tail _ (.tail _ (.tail _ (.tail _ (.tail _ (.head _)))))))))))) (Foot.own_cons (Foot.holds_same (.tail _ (.tail _ (.tail _ (.tail _ (.tail _ (.tail _ (.tail _ (.tail _ (.tail _ (.tail _ (.tail _ (.head _))))))))))))) (Foot.own_cons (Foot.holds_same (.tail _ (.tail _ (.tail _ (.tail _ (.tail _ (.tail _ (.tail _ (.tail _ (.tail _ (.tail _ (.tail _ (.tail _ (.head _)))))))))))))) (Foot.own_cons (Foot.holds_same (.tail _ (.head _))) Foot.own_nil)))))))))))))
        exact h2

def Foot.failsafeRecover : Foot := ⟨[], [], [.evq]⟩

theorem State.failsafeRecover_moves (s : State) (l : Line) :
    Moves (Foot.failsafeRecover.at [(65608 + 65536 * (l.idx % 2), 65608 + 65536 * (l.idx % 2)),
      (4096 * ((65536 + 65536 * (l.idx % 2)) / 4096) + 16, 4096 * ((65536 + 65536 * (l.idx % 2)) / 4096) + 16)]) s
      (State.failsafeRecover s l) := by
  unfold State.failsafeRecover
  refine Moves.ite (fun hc => ?_) (fun hc => ?_)
  · exact Moves.refl _
  · extract_lets -merge -underBinder +onlyGivenNames x1
    refine Moves.let_ x1 ?_ ?_
    · subst x1
      refine Moves.seq ?_ (State.putB_moves _ _ _ (by first | (dsimp only [F.BL_LINE_STAT_KA_TOP]; omega) | omega)) (Foot.sub1 (by decide +kernel) (Foot.holds_same (.head _)))
      refine Moves.seq ?_ (State.putB_moves _ _ _ (by first | (dsimp only [F.BL_LINE_STAT_KA_FAB]; omega) | omega)) (Foot.sub1 (by decide +kernel) (Foot.holds_same (.head _)))
      exact Moves.refl _
    intro h1
    try clear_value x1
    refine Moves.ite (fun hc => ?_) (fun hc => ?_)
    · extract_lets -merge -underBinder +onlyGivenNames x2
      refine Moves.let_ x2 ?_ ?_
      · subst x2
        refine Moves.seq ?_ (State.raise_moves ..) (Foot.sub1 (by decide +kernel) (Foot.holds_same (.tail _ (.head _))))
        refine Moves.seq ?_ (State.put_moves _ _ _ (by first | (dsimp only [F.BL_LINE_STAT_CAUSE]; omega) | omega)) (Foot.sub1 (by decide +kernel) (Foot.holds_same (.head _)))
        refine Moves.seq ?_ (State.put_moves _ _ _ (by first | (dsimp only [F.BL_LINE_STAT_STATE]; omega) | omega)) (Foot.sub1 (by decide +kernel) (Foot.holds_same (.head _)))
        exact h1
      intro h2
      try clear_value x2
      refine Moves.seq ?_ (State.post_moves ..) (Foot.sub0 (by decide +kernel))
      exact h2
    · exact h1

def Foot.fdbAge : Foot := ⟨[], [], [.fab]⟩

theorem State.fdbAge_moves (s : State) (mac : Nat) (vid : Nat) : Moves (Foot.fdbAge.at []) s (State.fdbAge s mac vid) := by
  unfold State.fdbAge
  refine Moves.ite (fun hc => ?_) (fun hc => ?_)
  · exact Moves.refl _
  · refine Moves.seq ?_ (Moves.upd_fab _ _) (Foot.sub0 (by decide +kernel))
    exact Moves.refl _

def Foot.fenceExpire : Foot := ⟨[(0x0C0048, 0x0C0048), (0x0C1048, 0x0C10B8)], [], [.psc]⟩

theorem State.fenceExpire_moves (s : State) : Moves (Foot.fenceExpire.at []) s (State.fenceExpire s) := by
  unfold State.fenceExpire
  refine Moves.ite (fun hc => ?_) (fun hc => ?_)
  · exact Moves.refl _
  · extract_lets -merge -underBinder +onlyGivenNames x1
    subst x1
    refine Moves.seq ?_ (State.outFollow_moves ..) (Foot.sub1 (by decide +kernel) (Foot.holds_range 790600 790712 (by decide +kernel) (by first | (dsimp only [F.PSC_FENCE_STAT_WIN]; omega) | omega) (by first | (dsimp only [F.PSC_FENCE_STAT_WIN]; omega) | omega)))
    refine Moves.seq ?_ (State.modPsc_moves ..) (Foot.sub0 (by decide +kernel))
    refine Moves.seq ?_ (State.put_moves _ _ _ (by decide)) (Foot.sub1 (by decide +kernel) (Foot.holds_reg (by decide +kernel)))
    exact Moves.refl _

def Foot.inserted : Foot := ⟨[], [], []⟩

theorem State.inserted_moves (s : State) (l : Line) :
    Moves (Foot.inserted.at [(77928 + 65536 * (l.idx % 2), 77928 + 65536 * (l.idx % 2))]) s (State.inserted s l) := by
  unfold State.inserted
  refine Moves.seq ?_ (State.wrapInc_moves _ _ (by first | (dsimp only [F.BL_BEAM_INS_CNT]; omega) | omega)) (Foot.sub1 (by decide +kernel) (Foot.holds_same (.head _)))
  exact Moves.refl _

def Foot.insertFrames : Foot := ⟨[], [], [.out]⟩

theorem State.insertFrames_moves (s : State) (x : BPort) (owner pos : Nat) (fs : List NFrame) :
    Moves (Foot.insertFrames.at [(77928 + 65536 * (x.line.idx % 2), 77928 + 65536 * (x.line.idx % 2))]) s (s.insertFrames x owner pos fs) := by
  induction fs generalizing s pos with
  | nil => exact Moves.refl _
  | cons f fs ih =>
    simp only [State.insertFrames]
    refine Moves.seq ?_ (ih _ _) Foot.sub_self
    refine Moves.seq ?_ (State.inserted_moves ..) (Foot.sub_at (by decide +kernel) (Foot.own_cons (Foot.holds_same (.head _)) Foot.own_nil))
    exact Moves.widen (State.emit_moves ..) (Foot.sub0 (by decide +kernel))

def Foot.fillCtl : Foot := ⟨[], [], [.out, .beam]⟩

theorem State.fillCtl_moves (s : State) (x : BPort) :
    Moves (Foot.fillCtl.at [(77924 + 65536 * (x.line.idx % 2), 77924 + 65536 * (x.line.idx % 2)),
      (4096 * ((77824 + 65536 * (x.line.idx % 2)) / 4096) + 16, 4096 * ((77824 + 65536 * (x.line.idx % 2)) / 4096) + 16),
      (77928 + 65536 * (x.line.idx % 2), 77928 + 65536 * (x.line.idx % 2))]) s (State.fillCtl s x) := by
  unfold State.fillCtl
  split
  · exact Moves.refl _
  · extract_lets -merge -underBinder +onlyGivenNames x1
    subst x1
    extract_lets -merge -underBinder +onlyGivenNames x2
    subst x2
    extract_lets -merge -underBinder +onlyGivenNames x3
    subst x3
    extract_lets -merge -underBinder +onlyGivenNames x4
    subst x4
    extract_lets -merge -underBinder +onlyGivenNames x5
    subst x5
    extract_lets -merge -underBinder +onlyGivenNames x6
    refine Moves.let_ x6 ?_ ?_
    · subst x6
      refine Moves.seq ?_ (State.satAdd_moves _ _ _ (by first | (dsimp only [F.BL_BEAM_QCNT_OVERSIZE]; omega) | omega)) (Foot.sub1 (by decide +kernel) (Foot.holds_same (.head _)))
      exact Moves.refl _
    intro h6
    try clear_value x6
    extract_lets -merge -underBinder +onlyGivenNames x7
    refine Moves.let_ x7 ?_ ?_
    · subst x7
      refine Moves.ite (fun hc => ?_) (fun hc => ?_)
      · exact h6
      · refine Moves.seq ?_ (State.raise_moves ..) (Foot.sub1 (by decide +kernel) (Foot.holds_same (.tail _ (.head _))))
        exact h6
    intro h7
    try clear_value x7
    extract_lets -merge -underBinder +onlyGivenNames x8
    refine Moves.let_ x8 ?_ ?_
    · subst x8
      refine Moves.seq ?_ (State.satAdd_moves _ _ _ (by first | (dsimp only [F.BL_BEAM_QCNT_DEFER]; omega) | omega)) (Foot.sub1 (by decide +kernel) (Foot.holds_same (.head _)))
      exact h7
    intro h8
    try clear_value x8
    extract_lets -merge -underBinder +onlyGivenNames x9
    subst x9
    extract_lets -merge -underBinder +onlyGivenNames x10
    refine Moves.let_ x10 ?_ ?_
    · subst x10
      refine Moves.seq ?_ (Moves.upd_beam _ _) (Foot.sub0 (by decide +kernel))
      exact h8
    intro h10
    try clear_value x10
    refine Moves.seq ?_ (State.insertFrames_moves ..) (Foot.sub1 (by decide +kernel) (Foot.holds_same (.tail _ (.tail _ (.head _)))))
    exact h10

def Foot.fillData : Foot := ⟨[(0x03206C, 0x03206C)], [], [.out, .fab]⟩

theorem State.fillData_moves (s : State) (x : BPort) :
    Moves (Foot.fillData.at [(4096 * ((77824 + 65536 * (x.line.idx % 2)) / 4096) + 16, 4096 * ((77824 + 65536 * (x.line.idx % 2)) /
      4096) + 16), (77924 + 65536 * (x.line.idx % 2), 77924 + 65536 * (x.line.idx % 2)),
      (77928 + 65536 * (x.line.idx % 2), 77928 + 65536 * (x.line.idx % 2))]) s (State.fillData s x) := by
  unfold State.fillData
  split
  · exact Moves.refl _
  · extract_lets -merge -underBinder +onlyGivenNames x1
    subst x1
    extract_lets -merge -underBinder +onlyGivenNames x2
    subst x2
    extract_lets -merge -underBinder +onlyGivenNames x3
    subst x3
    extract_lets -merge -underBinder +onlyGivenNames x4
    refine Moves.let_ x4 ?_ ?_
    · subst x4
      refine Moves.seq ?_ (Moves.upd_fab _ _) (Foot.sub0 (by decide +kernel))
      exact Moves.refl _
    intro h4
    try clear_value x4
    extract_lets -merge -underBinder +onlyGivenNames x5
    refine Moves.let_ x5 ?_ ?_
    · subst x5
      refine Moves.seq ?_ (State.giveCells_moves ..) (Foot.sub1 (by decide +kernel) (Foot.holds_reg (by decide +kernel)))
      exact h4
    intro h5
    try clear_value x5
    extract_lets -merge -underBinder +onlyGivenNames x6
    refine Moves.let_ x6 ?_ ?_
    · subst x6
      refine Moves.ite (fun hc => ?_) (fun hc => ?_)
      · exact h5
      · refine Moves.seq ?_ (State.raise_moves ..) (Foot.sub1 (by decide +kernel) (Foot.holds_same (.head _)))
        refine Moves.seq ?_ (State.satAdd_moves _ _ _ (by first | (dsimp only [F.BL_BEAM_QCNT_OVERSIZE]; omega) | omega)) (Foot.sub1 (by decide +kernel) (Foot.holds_same (.tail _ (.head _))))
        exact h5
    intro h6
    try clear_value x6
    extract_lets -merge -underBinder +onlyGivenNames x7
    refine Moves.let_ x7 ?_ ?_
    · subst x7
      refine Moves.ite (fun hc => ?_) (fun hc => ?_)
      · exact h6
      · refine Moves.seq ?_ (State.satInc_moves _ _ (by first | (dsimp only [F.BL_BEAM_QCNT_DEFER]; omega) | omega)) (Foot.sub1 (by decide +kernel) (Foot.holds_same (.tail _ (.head _))))
        exact h6
    intro h7
    try clear_value x7
    refine Moves.seq ?_ (State.insertFrames_moves ..) (Foot.sub1 (by decide +kernel) (Foot.holds_same (.tail _ (.tail _ (.head _)))))
    exact h7

def Foot.filteredEdge : Foot :=
  ⟨[(0x003010, 0x003010), (0x003040, 0x003040), (0x003050, 0x003050), (0x00306C, 0x00306C), (0x004010,
    0x004010), (0x100010, 0x100010), (0x100044, 0x100044), (0x100064, 0x10006C)], [], [.mem, .out, .evq, .lines, .top, .beam, .fab,
    .wake, .din]⟩

theorem State.filteredEdge_moves (s : State) (i : Nat) (level : Bool) :
    Moves (Foot.filteredEdge.at [(16452 + 8 * (i % 4), 16452 + 8 * (i % 4))]) s (State.filteredEdge s i level) := by
  unfold State.filteredEdge
  refine Moves.ite (fun hc => ?_) (fun hc => ?_)
  · exact Moves.refl _
  · extract_lets -merge -underBinder +onlyGivenNames x1
    refine Moves.let_ x1 ?_ ?_
    · subst x1
      refine Moves.seq ?_ (State.putB_moves _ _ _ (by first | (dsimp only [F.SYS_DIN_STAT_PIN]; omega) | omega)) (Foot.sub1 (by decide +kernel) (Foot.holds_same (.head _)))
      exact Moves.refl _
    intro h1
    try clear_value x1
    extract_lets -merge -underBinder +onlyGivenNames x2
    subst x2
    refine Moves.ite (fun hc => ?_) (fun hc => ?_)
    · exact h1
    · extract_lets -merge -underBinder +onlyGivenNames x3
      subst x3
      extract_lets -merge -underBinder +onlyGivenNames x4
      refine Moves.let_ x4 ?_ ?_
      · subst x4
        refine Moves.seq ?_ (State.chatEdge_moves ..) (Foot.sub1 (by decide +kernel) (Foot.holds_same (.head _)))
        refine Moves.seq ?_ (State.setDin_moves ..) (Foot.sub0 (by decide +kernel))
        exact h1
      intro h4
      try clear_value x4
      refine Moves.ite (fun hc => ?_) (fun hc => ?_)
      · refine Moves.seq ?_ (State.dinDebounced_moves ..) (Foot.sub1 (by decide +kernel) (Foot.holds_same (.head _)))
        exact h4
      · exact h4

def Foot.flagIf : Foot := ⟨[(0x100010, 0x100010)], [], [.top]⟩

theorem State.flagIf_moves (s : State) (c : Bool) (b : Nat) (ev : Nat) : Moves (Foot.flagIf.at []) s (State.flagIf s c b ev) := by
  unfold State.flagIf
  refine Moves.ite (fun hc => ?_) (fun hc => ?_)
  · refine Moves.seq ?_ (State.raise_moves ..) (Foot.sub1 (by decide +kernel) (Foot.holds_reg (by decide +kernel)))
    refine Moves.seq ?_ (State.flag_moves ..) (Foot.sub0 (by decide +kernel))
    exact Moves.refl _
  · exact Moves.refl _

def Foot.flashErase : Foot := ⟨[], [], [.nv]⟩

theorem State.flashErase_moves (s : State) (a : Nat) (n : Nat) : Moves (Foot.flashErase.at []) s (State.flashErase s a n) := by
  unfold State.flashErase
  exact s.modNv_moves _ rfl (Nat.le_refl _) (fun _ => rfl)

def Foot.flashPut : Foot := ⟨[], [], [.nv]⟩

theorem State.flashPut_moves (s : State) (a : Nat) (bs : List Byte) : Moves (Foot.flashPut.at []) s (s.flashPut a bs) := by
  induction bs generalizing s a with
  | nil => exact Moves.refl _
  | cons b bs ih =>
    simp only [State.flashPut]
    exact Moves.seq (s.modNv_moves _ rfl (Nat.le_refl _) (fun _ => rfl)) (ih _ _) Foot.sub_self

def Foot.flashRefused : Foot := ⟨[], [], [.evq, .mgt]⟩

theorem State.flashRefused_moves (s : State) (bank : Nat) (kind : Nat) :
    Moves (Foot.flashRefused.at []) s (State.flashRefused s bank kind) := by
  unfold State.flashRefused
  refine Moves.seq ?_ (State.post_moves ..) (Foot.sub0 (by decide +kernel))
  refine Moves.seq ?_ (State.modMgt_moves ..) (Foot.sub0 (by decide +kernel))
  exact Moves.refl _

end Sys2Proof.Machine
end

