-- ==== Sys2Proof/Laws/Foot12.lean ====
section
/-!
SUPPORT. What the operations may touch: one footprint and one lemma each.
-/

namespace Sys2Proof.Machine

set_option Elab.async false

def Foot.flowArrival : Foot := ⟨[(0x060010, 0x060010), (0x06006C, 0x06006C)], [], [.mem, .sgw]⟩

theorem State.flowArrival_moves (s : State) (ctx : Nat) (f : NFrame) :
    Moves (Foot.flowArrival.at []) s (State.flowArrival s ctx f) := by
  unfold State.flowArrival
  split
  · refine Moves.seq ?_ (State.inputData_moves ..) (Foot.sub0 (by decide +kernel))
    exact Moves.refl _
  · refine Moves.seq ?_ (State.noInput_moves ..) (Foot.sub0 (by decide +kernel))
    exact Moves.refl _

def Foot.freqOnSwitch : Foot := ⟨[(0x002104, 0x002104), (0x00210C, 0x00210C), (0x002114, 0x002114)], [], [.pwr]⟩

theorem State.freqOnSwitch_moves (s : State) (n : Nat) (c : Nat) : Moves (Foot.freqOnSwitch.at []) s (State.freqOnSwitch s n c) := by
  unfold State.freqOnSwitch
  split
  · extract_lets -merge -underBinder +onlyGivenNames x1
    subst x1
    refine Moves.ite (fun hc => ?_) (fun hc => ?_)
    · refine Moves.seq ?_ (State.setDvfs_moves ..) (Foot.sub0 (by decide +kernel))
      refine Moves.seq ?_ (State.put_moves _ _ _ (by first | (dsimp only [F.SYS_PWR_DVFSSTAT_CUR_F]; omega) | omega)) (Foot.sub1 (by decide +kernel) (Foot.holds_four 8468 8460 8452 8452 (by decide +kernel) (by decide +kernel) (by decide +kernel) (by decide +kernel) (by first | (dsimp only [F.SYS_PWR_DVFSSTAT_CUR_F]; omega) | omega)))
      exact Moves.refl _
    · exact Moves.refl _
  · exact Moves.refl _

def Foot.switchEnd : Foot :=
  ⟨[(0x001010, 0x001010), (0x002104, 0x002104), (0x00210C, 0x00210C), (0x002114, 0x002114), (0x0B0000,
    0x0BFFFF), (0x0C1048, 0x0C10B8), (0x0C1100, 0x0C1100)], [], [.evq, .evtCut, .acc, .psc, .pwr]⟩

theorem State.switchEnd_moves (s : State) (n : Nat) (c : Nat) :
    Moves (Foot.switchEnd.at [(4224 + 4 * (n % 17), 4224 + 4 * (n % 17))]) s (State.switchEnd s n c) := by
  unfold State.switchEnd
  extract_lets -merge -underBinder +onlyGivenNames x1
  refine Moves.let_ x1 ?_ ?_
  · subst x1
    refine Moves.seq ?_ (State.modPwr_moves ..) (Foot.sub0 (by decide +kernel))
    exact Moves.refl _
  intro h1
  try clear_value x1
  extract_lets -merge -underBinder +onlyGivenNames x2
  refine Moves.let_ x2 ?_ ?_
  · subst x2
    refine Moves.seq ?_ (State.raise_moves ..) (Foot.sub1 (by decide +kernel) (Foot.holds_reg (by decide +kernel)))
    refine Moves.seq ?_ (State.put_moves _ _ _ (by first | (dsimp only [F.SYS_CLK_ISL_CUR]; omega) | omega)) (Foot.sub1 (by decide +kernel) (Foot.holds_same (.head _)))
    refine Moves.seq ?_ (State.putB_moves _ _ _ (by first | (dsimp only [F.SYS_CLK_ISL_SWITCHING]; omega) | omega)) (Foot.sub1 (by decide +kernel) (Foot.holds_same (.head _)))
    exact h1
  intro h2
  try clear_value x2
  extract_lets -merge -underBinder +onlyGivenNames x3
  refine Moves.let_ x3 ?_ ?_
  · subst x3
    refine Moves.ite (fun hc => ?_) (fun hc => ?_)
    · refine Moves.seq ?_ (State.endpointReset_moves ..) (Foot.sub0 (by decide +kernel))
      exact h2
    · exact h2
  intro h3
  try clear_value x3
  refine Moves.seq ?_ (State.freqOnSwitch_moves ..) (Foot.sub0 (by decide +kernel))
  exact h3

def Foot.srcLoss : Foot :=
  ⟨[(0x000054, 0x000054), (0x001010, 0x001010), (0x001048, 0x001048), (0x001080, 0x0010C0), (0x0F0010,
    0x0F0010), (0x0F0040, 0x0F0040), (0x0F0080, 0x0F0080)], [], [.evq, .hlt, .pwr]⟩

theorem State.srcLoss_moves (s : State) (c : Nat) (forced : Bool) : Moves (Foot.srcLoss.at []) s (State.srcLoss s c forced) := by
  unfold State.srcLoss
  extract_lets -merge -underBinder +onlyGivenNames x1
  refine Moves.let_ x1 ?_ ?_
  · subst x1
    refine Moves.seq ?_ (State.raise_moves ..) (Foot.sub1 (by decide +kernel) (Foot.holds_reg (by decide +kernel)))
    refine Moves.seq ?_ (State.put_moves _ _ _ (by decide)) (Foot.sub1 (by decide +kernel) (Foot.holds_reg (by decide +kernel)))
    refine Moves.seq ?_ (State.satInc_moves _ _ (by decide)) (Foot.sub1 (by decide +kernel) (Foot.holds_reg (by decide +kernel)))
    exact Moves.refl _
  intro h1
  try clear_value x1
  extract_lets -merge -underBinder +onlyGivenNames x2
  refine Moves.let_ x2 ?_ ?_
  · subst x2
    refine Moves.seq ?_ (State.post_moves ..) (Foot.sub0 (by decide +kernel))
    exact h1
  intro h2
  try clear_value x2
  extract_lets -merge -underBinder +onlyGivenNames x3
  refine Moves.let_ x3 ?_ ?_
  · subst x3
    refine Moves.seq ?_ (State.clockReason_moves ..) (Foot.sub0 (by decide +kernel))
    refine Moves.seq ?_ (State.modHlt_moves ..) (Foot.sub0 (by decide +kernel))
    exact h2
  intro h3
  try clear_value x3
  refine Moves.foldl _ (fun x4 _ h4 => ?_) _ ?_
  · refine Moves.seq ?_ (State.switchTo_moves ..) (Foot.sub1 (by decide +kernel) (Foot.holds_range 4224 4288 (by decide +kernel) (by first | omega | (dsimp only; omega)) (by first | omega | (dsimp only; omega))))
    exact h4
  · exact h3

def Foot.srcFail : Foot :=
  ⟨[], [], [.mem, .out, .evq, .evqCut, .evtCut, .allRegs, .acc, .lines, .ports, .top, .beam, .fab, .tim,
    .cans, .twn, .hlt, .sgw, .psc, .recorder, .pwr, .mgt]⟩

theorem State.srcFail_moves (s : State) (c : Nat) (forced : Bool) : Moves (Foot.srcFail.at []) s (State.srcFail s c forced) := by
  unfold State.srcFail
  refine Moves.ite (fun hc => ?_) (fun hc => ?_)
  · exact Moves.refl _
  · extract_lets -merge -underBinder +onlyGivenNames x1
    subst x1
    refine Moves.ite (fun hc => ?_) (fun hc => ?_)
    · refine Moves.seq ?_ (State.putB_moves _ _ _ (by show 4160 % 4096 ≠ 16; decide)) (Foot.sub1 (by decide +kernel) (Foot.holds_all (by decide +kernel)))
      exact Moves.refl _
    · extract_lets -merge -underBinder +onlyGivenNames x2
      refine Moves.let_ x2 ?_ ?_
      · subst x2
        refine Moves.seq ?_ (State.putB_moves _ _ _ (by show 4160 % 4096 ≠ 16; decide)) (Foot.sub1 (by decide +kernel) (Foot.holds_all (by decide +kernel)))
        exact Moves.refl _
      intro h2
      try clear_value x2
      extract_lets -merge -underBinder +onlyGivenNames x3
      refine Moves.let_ x3 ?_ ?_
      · subst x3
        refine Moves.ite (fun hc => ?_) (fun hc => ?_)
        · refine Moves.seq ?_ (State.put_moves _ _ _ (by decide)) (Foot.sub1 (by decide +kernel) (Foot.holds_all (by decide +kernel)))
          exact h2
        · refine Moves.ite (fun hc => ?_) (fun hc => ?_)
          · refine Moves.seq ?_ (State.putB_moves _ _ _ (by decide)) (Foot.sub1 (by decide +kernel) (Foot.holds_all (by decide +kernel)))
            exact h2
          · exact h2
      intro h3
      try clear_value x3
      refine Moves.ite (fun hc => ?_) (fun hc => ?_)
      · refine Moves.seq ?_ (State.srcLoss_moves ..) (Foot.sub0 (by decide +kernel))
        exact h3
      · refine Moves.seq ?_ (State.moduleReset_moves ..) (Foot.sub0 (by decide +kernel))
        exact h3

def Foot.forcedSwitch : Foot :=
  ⟨[], [], [.mem, .out, .evq, .evqCut, .evtCut, .allRegs, .acc, .lines, .ports, .top, .beam, .fab,
    .tim, .cans, .twn, .hlt, .sgw, .psc, .recorder, .pwr, .mgt]⟩

theorem State.forcedSwitch_moves (s : State) (n : Nat) : Moves (Foot.forcedSwitch.at []) s (State.forcedSwitch s n) := by
  unfold State.forcedSwitch
  split
  · extract_lets -merge -underBinder +onlyGivenNames x1
    subst x1
    extract_lets -merge -underBinder +onlyGivenNames x2
    subst x2
    extract_lets -merge -underBinder +onlyGivenNames x3
    refine Moves.let_ x3 ?_ ?_
    · subst x3
      refine Moves.seq ?_ (State.switchEnd_moves ..) (Foot.sub1 (by decide +kernel) (Foot.holds_all (by decide +kernel)))
      exact Moves.refl _
    intro h3
    try clear_value x3
    extract_lets -merge -underBinder +onlyGivenNames x4
    refine Moves.let_ x4 ?_ ?_
    · subst x4
      refine Moves.ite (fun hc => ?_) (fun hc => ?_)
      · refine Moves.seq ?_ (State.raise_moves ..) (Foot.sub1 (by decide +kernel) (Foot.holds_all (by decide +kernel)))
        refine Moves.seq ?_ (State.satInc_moves _ _ (by decide)) (Foot.sub1 (by decide +kernel) (Foot.holds_all (by decide +kernel)))
        exact h3
      · exact h3
    intro h4
    try clear_value x4
    refine Moves.seq ?_ (State.srcFail_moves ..) (Foot.sub0 (by decide +kernel))
    exact h4
  · exact Moves.refl _

def Foot.frameTransmit : Foot := ⟨[(0x032060, 0x03206C)], [], [.mem, .out, .fab]⟩

theorem State.frameTransmit_moves (s : State) (port : Nat) (late : Nat) :
    Moves (Foot.frameTransmit.at []) s (State.frameTransmit s port late) := by
  unfold State.frameTransmit
  refine Moves.ite (fun hc => ?_) (fun hc => ?_)
  · exact Moves.refl _
  · extract_lets -merge -underBinder +onlyGivenNames x1
    subst x1
    try dsimp -zeta only
    split
    · exact Moves.refl _
    · split
      · exact Moves.refl _
      · refine Moves.seq ?_ (State.putOut_moves ..) (Foot.sub0 (by decide +kernel))
        refine Moves.seq ?_ (State.cntTx_moves ..) (Foot.sub0 (by decide +kernel))
        refine Moves.seq ?_ (State.giveCells_moves ..) (Foot.sub1 (by decide +kernel) (Foot.holds_four 204908 204904 204900 204896 (by decide +kernel) (by decide +kernel) (by decide +kernel) (by decide +kernel) (by first | omega | (dsimp only; omega))))
        refine Moves.seq ?_ (State.setQueue_moves ..) (Foot.sub0 (by decide +kernel))
        exact Moves.refl _

def Foot.gateRefused : Foot := ⟨[], [], [.pwr]⟩

theorem State.gateRefused_moves (s : State) (pg : Nat) :
    Moves (Foot.gateRefused.at [(4096 * (pg / 4096) + 16, 4096 * (pg / 4096) + 16),
      (4096 * (pg / 4096) + 8, 4096 * (pg / 4096) + 8)]) s (State.gateRefused s pg) := by
  unfold State.gateRefused
  refine Moves.ite (fun hc => ?_) (fun hc => ?_)
  · exact Moves.refl _
  · extract_lets -merge -underBinder +onlyGivenNames x1
    refine Moves.let_ x1 ?_ ?_
    · subst x1
      refine Moves.seq ?_ (State.modPwr_moves ..) (Foot.sub0 (by decide +kernel))
      exact Moves.refl _
    intro h1
    try clear_value x1
    refine Moves.seq ?_ (State.raise_moves ..) (Foot.sub1 (by decide +kernel) (Foot.holds_same (.head _)))
    refine Moves.seq ?_ (State.putB_moves _ _ _ (by first | (dsimp only [F.PG_CTRL_CLKREQ]; omega) | omega)) (Foot.sub1 (by decide +kernel) (Foot.holds_same (.tail _ (.head _))))
    exact h1

def Foot.gated : Foot := ⟨[(0x0A2044, 0x0A2044)], [], [.pwr]⟩

theorem State.gated_moves (s : State) (pg : Nat) :
    Moves (Foot.gated.at [(4096 * (pg / 4096) + 12, 4096 * (pg / 4096) + 12)]) s (State.gated s pg) := by
  unfold State.gated
  refine Moves.ite (fun hc => ?_) (fun hc => ?_)
  · exact Moves.refl _
  · extract_lets -merge -underBinder +onlyGivenNames x1
    refine Moves.let_ x1 ?_ ?_
    · subst x1
      refine Moves.seq ?_ (State.putB_moves _ _ _ (by first | (dsimp only [F.PG_STAT_GATED]; omega) | omega)) (Foot.sub1 (by decide +kernel) (Foot.holds_same (.head _)))
      refine Moves.seq ?_ (State.modPwr_moves ..) (Foot.sub0 (by decide +kernel))
      exact Moves.refl _
    intro h1
    try clear_value x1
    refine Moves.ite (fun hc => ?_) (fun hc => ?_)
    · refine Moves.seq ?_ (State.putB_moves _ _ _ (by decide)) (Foot.sub1 (by decide +kernel) (Foot.holds_reg (by decide +kernel)))
      exact h1
    · exact h1

def Foot.gmConflictClear : Foot := ⟨[(0x090064, 0x090064)], [], []⟩

theorem State.gmConflictClear_moves (s : State) : Moves (Foot.gmConflictClear.at []) s (State.gmConflictClear s) := by
  unfold State.gmConflictClear
  refine Moves.ite (fun hc => ?_) (fun hc => ?_)
  · refine Moves.seq ?_ (State.putB_moves _ _ _ (by decide)) (Foot.sub1 (by decide +kernel) (Foot.holds_reg (by decide +kernel)))
    exact Moves.refl _
  · exact Moves.refl _

def Foot.govLevel : Foot := ⟨[(0x0D0010, 0x0D0010), (0x0D0040, 0x0D0040), (0x0D0050, 0x0D0050)], [], [.evq, .mgt]⟩

theorem State.govLevel_moves (s : State) (level : Nat) (load : Nat) :
    Moves (Foot.govLevel.at []) s (State.govLevel s level load) := by
  unfold State.govLevel
  extract_lets -merge -underBinder +onlyGivenNames x1
  subst x1
  extract_lets -merge -underBinder +onlyGivenNames x2
  refine Moves.let_ x2 ?_ ?_
  · subst x2
    refine Moves.seq ?_ (State.post_moves ..) (Foot.sub0 (by decide +kernel))
    refine Moves.seq ?_ (State.raise_moves ..) (Foot.sub1 (by decide +kernel) (Foot.holds_reg (by decide +kernel)))
    refine Moves.seq ?_ (State.put_moves _ _ _ (by decide)) (Foot.sub1 (by decide +kernel) (Foot.holds_reg (by decide +kernel)))
    exact Moves.refl _
  intro h2
  try clear_value x2
  extract_lets -merge -underBinder +onlyGivenNames x3
  refine Moves.let_ x3 ?_ ?_
  · subst x3
    refine Moves.ite (fun hc => ?_) (fun hc => ?_)
    · refine Moves.seq ?_ (State.put_moves _ _ _ (by decide)) (Foot.sub1 (by decide +kernel) (Foot.holds_reg (by decide +kernel)))
      exact h2
    · refine Moves.ite (fun hc => ?_) (fun hc => ?_)
      · refine Moves.seq ?_ (State.put_moves _ _ _ (by decide)) (Foot.sub1 (by decide +kernel) (Foot.holds_reg (by decide +kernel)))
        exact h2
      · exact h2
  intro h3
  try clear_value x3
  refine Moves.seq ?_ (State.modMgt_moves ..) (Foot.sub0 (by decide +kernel))
  exact h3

def Foot.govStatus : Foot :=
  ⟨[(0x032010, 0x032010), (0x032060, 0x03206C), (0x0D1010, 0x0D1010), (0x0D1054, 0x0D1064), (0x0D1800,
    0x0D1FFC)], [], [.mem, .fab, .mgt]⟩

theorem State.govStatus_moves (s : State) (r : MboxReq) : Moves (Foot.govStatus.at []) s (State.govStatus s r) := by
  unfold State.govStatus
  refine Moves.seq ?_ (State.answer_moves ..) (Foot.sub0 (by decide +kernel))
  exact Moves.refl _

def Foot.overload : Foot := ⟨[(0x0D0010, 0x0D0010)], [], [.evq, .mgt]⟩

theorem State.overload_moves (s : State) (load : Nat) : Moves (Foot.overload.at []) s (State.overload s load) := by
  unfold State.overload
  extract_lets -merge -underBinder +onlyGivenNames x1
  refine Moves.let_ x1 ?_ ?_
  · subst x1
    refine Moves.seq ?_ (State.post_moves ..) (Foot.sub0 (by decide +kernel))
    refine Moves.seq ?_ (State.raise_moves ..) (Foot.sub1 (by decide +kernel) (Foot.holds_reg (by decide +kernel)))
    exact Moves.refl _
  intro h1
  try clear_value x1
  refine Moves.seq ?_ (State.modMgt_moves ..) (Foot.sub0 (by decide +kernel))
  exact h1

def Foot.govWindow : Foot := ⟨[(0x0D0010, 0x0D0010), (0x0D0040, 0x0D0040), (0x0D0050, 0x0D0050)], [], [.evq, .mgt]⟩

theorem State.govWindow_moves (s : State) (load : Nat) : Moves (Foot.govWindow.at []) s (State.govWindow s load) := by
  unfold State.govWindow
  refine Moves.ite (fun hc => ?_) (fun hc => ?_)
  · exact Moves.refl _
  · extract_lets -merge -underBinder +onlyGivenNames x1
    subst x1
    extract_lets -merge -underBinder +onlyGivenNames x2
    refine Moves.let_ x2 ?_ ?_
    · subst x2
      refine Moves.seq ?_ (State.put_moves _ _ _ (by decide)) (Foot.sub1 (by decide +kernel) (Foot.holds_reg (by decide +kernel)))
      exact Moves.refl _
    intro h2
    try clear_value x2
    extract_lets -merge -underBinder +onlyGivenNames x3
    subst x3
    extract_lets -merge -underBinder +onlyGivenNames x4
    subst x4
    extract_lets -merge -underBinder +onlyGivenNames x5
    subst x5
    extract_lets -merge -underBinder +onlyGivenNames x6
    subst x6
    extract_lets -merge -underBinder +onlyGivenNames x7
    refine Moves.let_ x7 ?_ ?_
    · subst x7
      refine Moves.seq ?_ (State.modMgt_moves ..) (Foot.sub0 (by decide +kernel))
      exact h2
    intro h7
    try clear_value x7
    extract_lets -merge -underBinder +onlyGivenNames x8
    refine Moves.let_ x8 ?_ ?_
    · subst x8
      refine Moves.ite (fun hc => ?_) (fun hc => ?_)
      · refine Moves.seq ?_ (State.govLevel_moves ..) (Foot.sub0 (by decide +kernel))
        exact h7
      · refine Moves.ite (fun hc => ?_) (fun hc => ?_)
        · refine Moves.seq ?_ (State.govLevel_moves ..) (Foot.sub0 (by decide +kernel))
          exact h7
        · exact h7
    intro h8
    try clear_value x8
    refine Moves.ite (fun hc => ?_) (fun hc => ?_)
    · refine Moves.seq ?_ (State.overload_moves ..) (Foot.sub0 (by decide +kernel))
      exact h8
    · exact h8

def Foot.gptpAnnounce : Foot := ⟨[], [], [.out]⟩

theorem State.gptpAnnounce_moves (s : State) (port : Nat) (seq : Nat) :
    Moves (Foot.gptpAnnounce.at []) s (State.gptpAnnounce s port seq) := by
  unfold State.gptpAnnounce
  refine Moves.ite (fun hc => ?_) (fun hc => ?_)
  · exact Moves.refl _
  · extract_lets -merge -underBinder +onlyGivenNames x1
    subst x1
    refine Moves.seq ?_ (State.emit_moves ..) (Foot.sub0 (by decide +kernel))
    exact Moves.refl _

def Foot.gptpPdelay : Foot := ⟨[(0x093010, 0x093010)], [], [.mem, .out]⟩

theorem State.gptpPdelay_moves (s : State) (port : Nat) (delay : Nat) (ok : Bool) (capable : Bool) :
    Moves (Foot.gptpPdelay.at []) s (State.gptpPdelay s port delay ok capable) := by
  unfold State.gptpPdelay
  refine Moves.ite (fun hc => ?_) (fun hc => ?_)
  · exact Moves.refl _
  · refine Moves.seq ?_ (State.asDelay_moves ..) (Foot.sub0 (by decide +kernel))
    refine Moves.seq ?_ (State.emit_moves ..) (Foot.sub0 (by decide +kernel))
    exact Moves.refl _

def Foot.gptpRx : Foot := ⟨[(0x093010, 0x093010)], [], [.mem, .out]⟩

theorem State.gptpRx_moves (s : State) (port : Nat) (m : GptpMsg) : Moves (Foot.gptpRx.at []) s (State.gptpRx s port m) := by
  unfold State.gptpRx
  refine Moves.ite (fun hc => ?_) (fun hc => ?_)
  · exact Moves.refl _
  · split
    · refine Moves.seq ?_ (State.wrNum_moves ..) (Foot.sub0 (by decide +kernel))
      exact Moves.refl _
    · refine Moves.seq ?_ (State.emit_moves ..) (Foot.sub0 (by decide +kernel))
      exact Moves.refl _
    · refine Moves.seq ?_ (State.asDelay_moves ..) (Foot.sub0 (by decide +kernel))
      exact Moves.refl _
    · exact Moves.refl _

def Foot.gptpSync : Foot := ⟨[], [], [.mem, .out]⟩

theorem State.gptpSync_moves (s : State) (port : Nat) (seq : Nat) : Moves (Foot.gptpSync.at []) s (State.gptpSync s port seq) := by
  unfold State.gptpSync
  refine Moves.ite (fun hc => ?_) (fun hc => ?_)
  · exact Moves.refl _
  · extract_lets -merge -underBinder +onlyGivenNames x1
    refine Moves.let_ x1 ?_ ?_
    · subst x1
      refine Moves.seq ?_ (State.emit_moves ..) (Foot.sub0 (by decide +kernel))
      refine Moves.seq ?_ (State.emit_moves ..) (Foot.sub0 (by decide +kernel))
      exact Moves.refl _
    intro h1
    try clear_value x1
    refine Moves.seq ?_ (State.wrNum_moves ..) (Foot.sub0 (by decide +kernel))
    exact h1

def Foot.graceEnd : Foot := ⟨[(0x100044, 0x100044)], [], [.mem, .top, .fab]⟩

theorem State.graceEnd_moves (s : State) : Moves (Foot.graceEnd.at []) s (State.graceEnd s) := by
  unfold State.graceEnd
  split
  · refine Moves.ite (fun hc => ?_) (fun hc => ?_)
    · refine Moves.seq ?_ (State.graceOver_moves ..) (Foot.sub0 (by decide +kernel))
      exact Moves.refl _
    · exact Moves.refl _
  · exact Moves.refl _

def Foot.handOver : Foot := ⟨[], [], [.twn]⟩

theorem State.handOver_moves (s : State) (kind : Nat) (recipe : Nat) (ctx : Nat) (dig : List Byte) (data : List Byte) :
    Moves (Foot.handOver.at []) s (State.handOver s kind recipe ctx dig data) := by
  unfold State.handOver
  extract_lets -merge -underBinder +onlyGivenNames x1
  refine Moves.let_ x1 ?_ ?_
  · subst x1
    refine Moves.ite (fun hc => ?_) (fun hc => ?_)
    · refine Moves.seq ?_ (State.modTwn_moves ..) (Foot.sub0 (by decide +kernel))
      exact Moves.refl _
    · exact Moves.refl _
  intro h1
  try clear_value x1
  refine Moves.ite (fun hc => ?_) (fun hc => ?_)
  · refine Moves.seq ?_ (State.modTwn_moves ..) (Foot.sub0 (by decide +kernel))
    exact h1
  · exact h1

def Foot.headers : Foot := ⟨[], [], [.mem]⟩

theorem State.headers_moves (s : State) (k : Nat) (v : Nat) : Moves (Foot.headers.at []) s (State.headers s k v) := by
  unfold State.headers
  refine Moves.foldl _ (fun x1 _ h1 => ?_) _ ?_
  · refine Moves.seq ?_ (State.wrNum_moves ..) (Foot.sub0 (by decide +kernel))
    exact h1
  · exact Moves.refl _

def Foot.holdoffElapsed : Foot := ⟨[], [], [.lines]⟩

theorem State.holdoffElapsed_moves (s : State) (l : Line) : Moves (Foot.holdoffElapsed.at []) s (State.holdoffElapsed s l) := by
  unfold State.holdoffElapsed
  refine Moves.seq ?_ (State.setLine_moves ..) (Foot.sub0 (by decide +kernel))
  exact Moves.refl _

def Foot.holdover : Foot :=
  ⟨[(0x090010, 0x090010), (0x090064, 0x090064), (0x091010, 0x091010), (0x091050, 0x091050), (0x091058,
    0x091058)], [], [.evq, .tim]⟩

theorem State.holdover_moves (s : State) : Moves (Foot.holdover.at []) s (State.holdover s) := by
  unfold State.holdover
  refine Moves.ite (fun hc => ?_) (fun hc => ?_)
  · refine Moves.seq ?_ (State.timEnter_moves ..) (Foot.sub0 (by decide +kernel))
    exact Moves.refl _
  · exact Moves.refl _

def Foot.imgActivate : Foot :=
  ⟨[], [], [.mem, .out, .evq, .evqCut, .evtCut, .allRegs, .acc, .lines, .ports, .top, .beam, .fab, .tim,
    .cans, .twn, .hlt, .sgw, .psc, .recorder, .pwr, .mgt]⟩

theorem State.imgActivate_moves (s : State) (r : MboxReq) : Moves (Foot.imgActivate.at []) s (State.imgActivate s r) := by
  unfold State.imgActivate
  extract_lets -merge -underBinder +onlyGivenNames x1
  subst x1
  extract_lets -merge -underBinder +onlyGivenNames x2
  subst x2
  refine Moves.ite (fun hc => ?_) (fun hc => ?_)
  · refine Moves.seq ?_ (State.answer_moves ..) (Foot.sub0 (by decide +kernel))
    exact Moves.refl _
  · refine Moves.ite (fun hc => ?_) (fun hc => ?_)
    · refine Moves.seq ?_ (State.answer_moves ..) (Foot.sub0 (by decide +kernel))
      exact Moves.refl _
    · extract_lets -merge -underBinder +onlyGivenNames x3
      refine Moves.let_ x3 ?_ ?_
      · subst x3
        refine Moves.seq ?_ (State.put_moves _ _ _ (by decide)) (Foot.sub1 (by decide +kernel) (Foot.holds_all (by decide +kernel)))
        refine Moves.seq ?_ (State.putB_moves _ _ _ (by decide)) (Foot.sub1 (by decide +kernel) (Foot.holds_all (by decide +kernel)))
        exact Moves.refl _
      intro h3
      try clear_value x3
      refine Moves.seq ?_ (State.moduleReset_moves ..) (Foot.sub0 (by decide +kernel))
      refine Moves.seq ?_ (State.answer_moves ..) (Foot.sub0 (by decide +kernel))
      exact h3

def Foot.imgBegin : Foot :=
  ⟨[(0x032010, 0x032010), (0x032060, 0x03206C), (0x0D1010, 0x0D1010), (0x0D1054, 0x0D1064), (0x0D1800,
    0x0D1FFC)], [], [.mem, .evq, .fab, .mgt, .nv]⟩

theorem State.imgBegin_moves (s : State) (r : MboxReq) :
    Moves (Foot.imgBegin.at [(860228 + 8 * (r.arg 0 % 2), 860228 + 8 * (r.arg 0 % 2)),
      (860224 + 8 * (r.arg 0 % 2), 860224 + 8 * (r.arg 0 % 2))]) s (State.imgBegin s r) := by
  unfold State.imgBegin
  extract_lets -merge -underBinder +onlyGivenNames x1
  subst x1
  extract_lets -merge -underBinder +onlyGivenNames x2
  subst x2
  extract_lets -merge -underBinder +onlyGivenNames x3
  subst x3
  refine Moves.ite (fun hc => ?_) (fun hc => ?_)
  · refine Moves.seq ?_ (State.answer_moves ..) (Foot.sub0 (by decide +kernel))
    exact Moves.refl _
  · refine Moves.ite (fun hc => ?_) (fun hc => ?_)
    · refine Moves.seq ?_ (State.answer_moves ..) (Foot.sub0 (by decide +kernel))
      refine Moves.seq ?_ (State.flashRefused_moves ..) (Foot.sub0 (by decide +kernel))
      exact Moves.refl _
    · extract_lets -merge -underBinder +onlyGivenNames x4
      refine Moves.let_ x4 ?_ ?_
      · subst x4
        refine Moves.seq ?_ (State.modMgt_moves ..) (Foot.sub0 (by decide +kernel))
        refine Moves.seq ?_ (State.flashErase_moves ..) (Foot.sub0 (by decide +kernel))
        exact Moves.refl _
      intro h4
      try clear_value x4
      extract_lets -merge -underBinder +onlyGivenNames x5
      refine Moves.let_ x5 ?_ ?_
      · subst x5
        refine Moves.ite (fun hc => ?_) (fun hc => ?_)
        · refine Moves.seq ?_ (State.put_moves _ _ _ (by first | (dsimp only [F.MGT_IMG_INFO_FW_RES]; omega) | omega)) (Foot.sub1 (by decide +kernel) (Foot.holds_same (.head _)))
          refine Moves.seq ?_ (State.showImage_moves ..) (Foot.sub_at (by decide +kernel) (Foot.own_cons (Foot.holds_same (.head _)) (Foot.own_cons (Foot.holds_same (.tail _ (.head _))) Foot.own_nil)))
          exact h4
        · refine Moves.seq ?_ (State.put_moves _ _ _ (by first | (dsimp only [F.MGT_IMG_INFO_CFG_RES]; omega) | omega)) (Foot.sub1 (by decide +kernel) (Foot.holds_same (.head _)))
          exact h4
      intro h5
      try clear_value x5
      refine Moves.seq ?_ (State.answer_moves ..) (Foot.sub0 (by decide +kernel))
      exact h5

def Foot.setMark : Foot := ⟨[], [], [.nv]⟩

theorem State.setMark_moves (s : State) (bank : Nat) (v : Nat) :
    Moves (Foot.setMark.at [(860228 + 8 * (bank % 2), 860228 + 8 * (bank % 2)),
      (860224 + 8 * (bank % 2), 860224 + 8 * (bank % 2))]) s (State.setMark s bank v) := by
  unfold State.setMark
  refine Moves.seq ?_ (State.showImage_moves ..) (Foot.sub_at (by decide +kernel) (Foot.own_cons (Foot.holds_same (.head _)) (Foot.own_cons (Foot.holds_same (.tail _ (.head _))) Foot.own_nil)))
  refine Moves.seq ?_ (State.flashPut_moves ..) (Foot.sub0 (by decide +kernel))
  exact Moves.refl _

def Foot.imgConfirm : Foot :=
  ⟨[(0x032010, 0x032010), (0x032060, 0x03206C), (0x0D1010, 0x0D1010), (0x0D1054, 0x0D1064), (0x0D1800,
    0x0D1FFC), (0x0D2040, 0x0D204C)], [], [.mem, .fab, .mgt, .nv]⟩

theorem State.imgConfirm_moves (s : State) (r : MboxReq) : Moves (Foot.imgConfirm.at []) s (State.imgConfirm s r) := by
  unfold State.imgConfirm
  extract_lets -merge -underBinder +onlyGivenNames x1
  subst x1
  refine Moves.ite (fun hc => ?_) (fun hc => ?_)
  · refine Moves.seq ?_ (State.answer_moves ..) (Foot.sub0 (by decide +kernel))
    exact Moves.refl _
  · extract_lets -merge -underBinder +onlyGivenNames x2
    refine Moves.let_ x2 ?_ ?_
    · subst x2
      refine Moves.seq ?_ (State.setMark_moves ..) (Foot.sub_at (by decide +kernel) (Foot.own_cons (Foot.holds_two 860236 860228 (by decide +kernel) (by decide +kernel) (by first | (dsimp only [F.SYS_RST_BOOT_FW_BANK]; omega) | omega)) (Foot.own_cons (Foot.holds_two 860232 860224 (by decide +kernel) (by decide +kernel) (by first | (dsimp only [F.SYS_RST_BOOT_FW_BANK]; omega) | omega)) Foot.own_nil)))
      exact Moves.refl _
    intro h2
    try clear_value x2
    extract_lets -merge -underBinder +onlyGivenNames x3
    refine Moves.let_ x3 ?_ ?_
    · subst x3
      refine Moves.ite (fun hc => ?_) (fun hc => ?_)
      · refine Moves.seq ?_ (State.setMark_moves ..) (Foot.sub_at (by decide +kernel) (Foot.own_cons (Foot.holds_two 860236 860228 (by decide +kernel) (by decide +kernel) (by first | (dsimp only [F.SYS_RST_BOOT_FW_BANK]; omega) | omega)) (Foot.own_cons (Foot.holds_two 860232 860224 (by decide +kernel) (by decide +kernel) (by first | (dsimp only [F.SYS_RST_BOOT_FW_BANK]; omega) | omega)) Foot.own_nil)))
        exact h2
      · exact h2
    intro h3
    try clear_value x3
    refine Moves.seq ?_ (State.answer_moves ..) (Foot.sub0 (by decide +kernel))
    exact h3

def Foot.imgEnd : Foot :=
  ⟨[(0x032010, 0x032010), (0x032060, 0x03206C), (0x0D1010, 0x0D1010), (0x0D1054, 0x0D1064), (0x0D1800,
    0x0D1FFC), (0x0D2010, 0x0D2010), (0x0D2040, 0x0D204C)], [], [.mem, .fab, .mgt]⟩

theorem State.imgEnd_moves (s : State) (ue : Bool) (r : MboxReq) : Moves (Foot.imgEnd.at []) s (State.imgEnd s ue r) := by
  unfold State.imgEnd
  split
  · refine Moves.seq ?_ (State.answer_moves ..) (Foot.sub0 (by decide +kernel))
    exact Moves.refl _
  · extract_lets -merge -underBinder +onlyGivenNames x1
    subst x1
    extract_lets -merge -underBinder +onlyGivenNames x2
    subst x2
    extract_lets -merge -underBinder +onlyGivenNames x3
    refine Moves.let_ x3 ?_ ?_
    · subst x3
      refine Moves.seq ?_ (State.modMgt_moves ..) (Foot.sub0 (by decide +kernel))
      exact Moves.refl _
    intro h3
    try clear_value x3
    extract_lets -merge -underBinder +onlyGivenNames x4
    refine Moves.let_ x4 ?_ ?_
    · subst x4
      refine Moves.ite (fun hc => ?_) (fun hc => ?_)
      · refine Moves.seq ?_ (State.put_moves _ _ _ (by first | (dsimp only [F.MGT_IMG_INFO_FW_RES]; omega) | omega)) (Foot.sub1 (by decide +kernel) (Foot.holds_two 860236 860228 (by decide +kernel) (by decide +kernel) (by first | (dsimp only [F.MGT_IMG_INFO_FW_RES]; omega) | omega)))
        refine Moves.seq ?_ (State.showImage_moves ..) (Foot.sub_at (by decide +kernel) (Foot.own_cons (Foot.holds_two 860236 860228 (by decide +kernel) (by decide +kernel) (by first | omega | (dsimp only; omega))) (Foot.own_cons (Foot.holds_two 860232 860224 (by decide +kernel) (by decide +kernel) (by first | omega | (dsimp only; omega))) Foot.own_nil)))
        exact h3
      · refine Moves.seq ?_ (State.put_moves _ _ _ (by first | (dsimp only [F.MGT_IMG_INFO_CFG_RES]; omega) | omega)) (Foot.sub1 (by decide +kernel) (Foot.holds_two 860236 860228 (by decide +kernel) (by decide +kernel) (by first | (dsimp only [F.MGT_IMG_INFO_CFG_RES]; omega) | omega)))
        exact h3
    intro h4
    try clear_value x4
    extract_lets -merge -underBinder +onlyGivenNames x5
    refine Moves.let_ x5 ?_ ?_
    · subst x5
      refine Moves.seq ?_ (State.raise_moves ..) (Foot.sub1 (by decide +kernel) (Foot.holds_reg (by decide +kernel)))
      exact h4
    intro h5
    try clear_value x5
    refine Moves.seq ?_ (State.answer_moves ..) (Foot.sub0 (by decide +kernel))
    exact h5

def Foot.imgInfo : Foot :=
  ⟨[(0x032010, 0x032010), (0x032060, 0x03206C), (0x0D1010, 0x0D1010), (0x0D1054, 0x0D1064), (0x0D1800,
    0x0D1FFC)], [], [.mem, .fab, .mgt]⟩

theorem State.imgInfo_moves (s : State) (r : MboxReq) : Moves (Foot.imgInfo.at []) s (State.imgInfo s r) := by
  unfold State.imgInfo
  extract_lets -merge -underBinder +onlyGivenNames x1
  subst x1
  extract_lets -merge -underBinder +onlyGivenNames x2
  subst x2
  refine Moves.ite (fun hc => ?_) (fun hc => ?_)
  · refine Moves.seq ?_ (State.answer_moves ..) (Foot.sub0 (by decide +kernel))
    exact Moves.refl _
  · extract_lets -merge -underBinder +onlyGivenNames x3
    subst x3
    extract_lets -merge -underBinder +onlyGivenNames x4
    subst x4
    extract_lets -merge -underBinder +onlyGivenNames x5
    subst x5
    extract_lets -merge -underBinder +onlyGivenNames x6
    subst x6
    refine Moves.seq ?_ (State.answer_moves ..) (Foot.sub0 (by decide +kernel))
    exact Moves.refl _

def Foot.imgWrite_ : Foot :=
  ⟨[(0x032010, 0x032010), (0x032060, 0x03206C), (0x0D1010, 0x0D1010), (0x0D1054, 0x0D1064), (0x0D1800,
    0x0D1FFC)], [], [.mem, .evq, .fab, .mgt, .nv]⟩

theorem State.imgWrite'_moves (s : State) (r : MboxReq) : Moves (Foot.imgWrite_.at []) s (State.imgWrite' s r) := by
  unfold State.imgWrite'
  extract_lets -merge -underBinder +onlyGivenNames x1
  subst x1
  extract_lets -merge -underBinder +onlyGivenNames x2
  subst x2
  split
  · refine Moves.seq ?_ (State.answer_moves ..) (Foot.sub0 (by decide +kernel))
    exact Moves.refl _
  · extract_lets -merge -underBinder +onlyGivenNames x3
    subst x3
    refine Moves.ite (fun hc => ?_) (fun hc => ?_)
    · refine Moves.seq ?_ (State.answer_moves ..) (Foot.sub0 (by decide +kernel))
      exact Moves.refl _
    · refine Moves.ite (fun hc => ?_) (fun hc => ?_)
      · refine Moves.seq ?_ (State.answer_moves ..) (Foot.sub0 (by decide +kernel))
        exact Moves.refl _
      · refine Moves.ite (fun hc => ?_) (fun hc => ?_)
        · refine Moves.seq ?_ (State.answer_moves ..) (Foot.sub0 (by decide +kernel))
          refine Moves.seq ?_ (State.flashRefused_moves ..) (Foot.sub0 (by decide +kernel))
          exact Moves.refl _
        · extract_lets -merge -underBinder +onlyGivenNames x4
          refine Moves.let_ x4 ?_ ?_
          · subst x4
            refine Moves.seq ?_ (State.flashPut_moves ..) (Foot.sub0 (by decide +kernel))
            exact Moves.refl _
          intro h4
          try clear_value x4
          refine Moves.seq ?_ (State.answer_moves ..) (Foot.sub0 (by decide +kernel))
          refine Moves.seq ?_ (State.modMgt_moves ..) (Foot.sub0 (by decide +kernel))
          exact h4

def Foot.intrusion : Foot := ⟨[], [], [.evq]⟩

theorem State.intrusion_moves (s : State) (x : BPort) (b : Nat) (guard : Bool) :
    Moves (Foot.intrusion.at [(4096 * ((77824 + 65536 * (x.line.idx % 2)) / 4096) + 16, 4096 * ((77824 + 65536 * (x.line.idx % 2)) /
      4096) + 16), (77920 + 65536 * (x.line.idx % 2), 77920 + 65536 * (x.line.idx % 2))]) s (State.intrusion s x b guard) := by
  unfold State.intrusion
  extract_lets -merge -underBinder +onlyGivenNames x1
  refine Moves.let_ x1 ?_ ?_
  · subst x1
    refine Moves.ite (fun hc => ?_) (fun hc => ?_)
    · refine Moves.seq ?_ (State.raise_moves ..) (Foot.sub1 (by decide +kernel) (Foot.holds_same (.head _)))
      refine Moves.seq ?_ (State.satInc_moves _ _ (by first | (dsimp only [F.BL_BEAM_EVCNT_GUARD_ERR]; omega) | omega)) (Foot.sub1 (by decide +kernel) (Foot.holds_same (.tail _ (.head _))))
      exact Moves.refl _
    · refine Moves.seq ?_ (State.raise_moves ..) (Foot.sub1 (by decide +kernel) (Foot.holds_same (.head _)))
      refine Moves.seq ?_ (State.satInc_moves _ _ (by first | (dsimp only [F.BL_BEAM_EVCNT_INTRUDE]; omega) | omega)) (Foot.sub1 (by decide +kernel) (Foot.holds_same (.tail _ (.head _))))
      exact Moves.refl _
  intro h1
  try clear_value x1
  refine Moves.seq ?_ (State.post_moves ..) (Foot.sub0 (by decide +kernel))
  exact h1

def Foot.joinLater : Foot := ⟨[(0x100044, 0x100044), (0x100064, 0x100064), (0x10006C, 0x10006C)], [], [.mem, .out, .top, .beam, .fab]⟩

theorem State.joinLater_moves (s : State) (f : NFrame) : Moves (Foot.joinLater.at []) s (State.joinLater s f) := by
  unfold State.joinLater
  refine Moves.seq ?_ (State.joinAttempt_moves ..) (Foot.sub0 (by decide +kernel))
  refine Moves.ite (fun hc => ?_) (fun hc => ?_)
  · exact Moves.refl _
  · refine Moves.seq ?_ (State.endAttempt_moves ..) (Foot.sub0 (by decide +kernel))
    exact Moves.refl _

def Foot.kaFall : Foot :=
  ⟨[(0x003010, 0x003010), (0x003040, 0x003040), (0x003050, 0x003050), (0x00306C, 0x00306C)], [], [.out,
    .beam, .fab, .wake]⟩

theorem State.kaFall_moves (s : State) : Moves (Foot.kaFall.at []) s (State.kaFall s) := by
  unfold State.kaFall
  refine Moves.ite (fun hc => ?_) (fun hc => ?_)
  · refine Moves.seq ?_ (State.wakeRequest_moves ..) (Foot.sub0 (by decide +kernel))
    refine Moves.seq ?_ (State.putB_moves _ _ _ (by decide)) (Foot.sub1 (by decide +kernel) (Foot.holds_reg (by decide +kernel)))
    exact Moves.refl _
  · exact Moves.refl _

def Foot.kaRise : Foot := ⟨[(0x003040, 0x003040)], [], []⟩

theorem State.kaRise_moves (s : State) : Moves (Foot.kaRise.at []) s (State.kaRise s) := by
  unfold State.kaRise
  refine Moves.seq ?_ (State.putB_moves _ _ _ (by decide)) (Foot.sub1 (by decide +kernel) (Foot.holds_reg (by decide +kernel)))
  exact Moves.refl _

def Foot.laneDrop : Foot := ⟨[(0x0A1010, 0x0A1010), (0x0A1040, 0x0A1040)], [], [.twn]⟩

theorem State.laneDrop_moves (s : State) (second : Bool) : Moves (Foot.laneDrop.at []) s (State.laneDrop s second) := by
  unfold State.laneDrop
  refine Moves.ite (fun hc => ?_) (fun hc => ?_)
  · exact Moves.refl _
  · extract_lets -merge -underBinder +onlyGivenNames x1
    subst x1
    extract_lets -merge -underBinder +onlyGivenNames x2
    refine Moves.let_ x2 ?_ ?_
    · subst x2
      refine Moves.seq ?_ (State.putB_moves _ _ _ (by decide)) (Foot.sub1 (by decide +kernel) (Foot.holds_reg (by decide +kernel)))
      refine Moves.seq ?_ (State.putB_moves _ _ _ (by decide)) (Foot.sub1 (by decide +kernel) (Foot.holds_reg (by decide +kernel)))
      refine Moves.seq ?_ (State.put_moves _ _ _ (by decide)) (Foot.sub1 (by decide +kernel) (Foot.holds_reg (by decide +kernel)))
      exact Moves.refl _
    intro h2
    try clear_value x2
    extract_lets -merge -underBinder +onlyGivenNames x3
    refine Moves.let_ x3 ?_ ?_
    · subst x3
      refine Moves.seq ?_ (State.raise_moves ..) (Foot.sub1 (by decide +kernel) (Foot.holds_reg (by decide +kernel)))
      exact h2
    intro h3
    try clear_value x3
    refine Moves.ite (fun hc => ?_) (fun hc => ?_)
    · exact h3
    · refine Moves.seq ?_ (State.askBase_moves ..) (Foot.sub0 (by decide +kernel))
      refine Moves.seq ?_ (State.raise_moves ..) (Foot.sub1 (by decide +kernel) (Foot.holds_reg (by decide +kernel)))
      exact h3

def Foot.lanternLoss : Foot :=
  ⟨[(0x100010, 0x100010), (0x100044, 0x100044), (0x100064, 0x10006C)], [], [.mem, .out, .evq, .top,
    .beam, .fab]⟩

theorem State.lanternLoss_moves (s : State) : Moves (Foot.lanternLoss.at []) s (State.lanternLoss s) := by
  unfold State.lanternLoss
  extract_lets -merge -underBinder +onlyGivenNames x1
  subst x1
  extract_lets -merge -underBinder +onlyGivenNames x2
  subst x2
  refine Moves.ite (fun hc => ?_) (fun hc => ?_)
  · exact Moves.refl _
  · extract_lets -merge -underBinder +onlyGivenNames x3
    subst x3
    extract_lets -merge -underBinder +onlyGivenNames x4
    subst x4
    extract_lets -merge -underBinder +onlyGivenNames x5
    subst x5
    extract_lets -merge -underBinder +onlyGivenNames x6
    subst x6
    refine Moves.seq ?_ (State.trigger_moves ..) (Foot.sub0 (by decide +kernel))
    refine Moves.seq ?_ (Moves.upd_top _ _) (Foot.sub0 (by decide +kernel))
    exact Moves.refl _

def Foot.ldupAgeOut : Foot := ⟨[(0x036044, 0x036044)], [], [.fab]⟩

theorem State.ldupAgeOut_moves (s : State) (epoch : Nat) (src : Nat) (cls : Nat) (flow : Nat) :
    Moves (Foot.ldupAgeOut.at []) s (State.ldupAgeOut s epoch src cls flow) := by
  unfold State.ldupAgeOut
  extract_lets -merge -underBinder +onlyGivenNames x1
  subst x1
  extract_lets -merge -underBinder +onlyGivenNames x2
  refine Moves.let_ x2 ?_ ?_
  · subst x2
    refine Moves.seq ?_ (Moves.upd_fab _ _) (Foot.sub0 (by decide +kernel))
    exact Moves.refl _
  intro h2
  try clear_value x2
  refine Moves.seq ?_ (State.put_moves _ _ _ (by decide)) (Foot.sub1 (by decide +kernel) (Foot.holds_reg (by decide +kernel)))
  exact h2

def Foot.leaving : Foot := ⟨[(0x100044, 0x100044)], [], [.mem, .top, .fab]⟩

theorem State.leaving_moves {F : Foot} {r s : State}  {f : State → State}
    (h :
    Moves F r s) (hF : Foot.Sub (Foot.leaving.at []) F) (f_ok : ∀ x , Moves F r x → Moves F r (f x)) : Moves F r (State.leaving s f)
      := by
  unfold State.leaving
  extract_lets -merge -underBinder +onlyGivenNames x1
  refine Moves.let_ x1 ?_ ?_
  · subst x1
    refine f_ok _  ?_
    exact h
  intro h1
  try clear_value x1
  refine Moves.ite (fun hc => ?_) (fun hc => ?_)
  · refine Moves.seq ?_ (State.graceBoundary_moves ..) ((Foot.sub0 (by decide +kernel)).trans hF)
    exact h1
  · exact h1

def Foot.topRx : Foot := ⟨[(0x100044, 0x100044), (0x100064, 0x100064), (0x10006C, 0x100070)], [], [.mem, .out, .top, .beam, .fab]⟩

theorem State.topRx_moves {F : Foot} {r s : State} {p : BPort} {f : NFrame} {rx : State → State}
    (h :
    Moves F r s) (hF : Foot.Sub (Foot.topRx.at [(69708 + 65536 * (p.line.idx % 2) + 4096 * (p.side % 2), 69708 + 65536 * (p.line.idx %
      2) + 4096 * (p.side % 2))]) F) (rx_ok : ∀ x , Moves F r x → Moves F r (rx x)) : Moves F r (State.topRx s p f rx) := by
  unfold State.topRx
  refine Moves.ite (fun hc => ?_) (fun hc => ?_)
  · refine Moves.seq ?_ (State.satInc_moves _ _ (by cases p <;> decide)) ((Foot.sub1 (by decide +kernel) (Foot.holds_same (.head _))).trans hF)
    exact h
  · split
    · exact h
    · refine Moves.seq ?_ (State.satInc_moves _ _ (by decide)) ((Foot.sub1 (by decide +kernel) (Foot.holds_reg (by decide +kernel))).trans hF)
      exact h
    · refine Moves.seq ?_ (Moves.upd_top _ _) ((Foot.sub0 (by decide +kernel)).trans hF)
      exact h
    · refine rx_ok _  ?_
      refine Moves.seq ?_ (State.joinLater_moves ..) ((Foot.sub0 (by decide +kernel)).trans hF)
      exact h
    · refine rx_ok _  ?_
      exact h

def Foot.topologyRx : Foot :=
  ⟨[(0x100010, 0x100010), (0x100044, 0x100044), (0x100064, 0x100078)], [], [.mem, .out, .evq, .top,
    .beam, .fab]⟩

theorem State.topologyRx_moves (s : State) (p : BPort) (f : NFrame) :
    Moves (Foot.topologyRx.at [(69708 + 65536 * (p.line.idx % 2) + 4096 * (p.side % 2), 69708 + 65536 * (p.line.idx % 2) + 4096 *
      (p.side % 2))]) s (State.topologyRx s p f) := by
  unfold State.topologyRx
  refine State.topRx_moves ?_ (Foot.sub1 (by decide +kernel) (Foot.holds_same (.head _))) (fun x1 h1 => ?_)
  · exact Moves.refl _
  · split
    · refine Moves.seq ?_ (State.rxRequest_moves ..) (Foot.sub0 (by decide +kernel))
      exact h1
    · refine Moves.seq ?_ (State.rxJoin_moves ..) (Foot.sub0 (by decide +kernel))
      exact h1
    · refine Moves.seq ?_ (State.rxIdent_moves ..) (Foot.sub0 (by decide +kernel))
      exact h1
    · refine Moves.seq ?_ (State.rxXident_moves ..) (Foot.sub0 (by decide +kernel))
      exact h1
    · refine Moves.seq ?_ (State.rxXend_moves ..) (Foot.sub0 (by decide +kernel))
      exact h1
    · refine Moves.seq ?_ (State.rxCommit_moves ..) (Foot.sub0 (by decide +kernel))
      exact h1
    · refine Moves.seq ?_ (State.rxReady_moves ..) (Foot.sub0 (by decide +kernel))
      exact h1

def Foot.linePass : Foot :=
  ⟨[(0x003010, 0x003010), (0x003040, 0x003040), (0x003050, 0x003050), (0x00306C, 0x00306C), (0x005040,
    0x005040), (0x010010, 0x010010), (0x010048, 0x010048), (0x011010, 0x011010), (0x011040, 0x011048), (0x012010, 0x012010), (0x012040,
    0x012048), (0x013010, 0x013010), (0x013040, 0x013040), (0x013048, 0x013058), (0x020010, 0x020010), (0x020048, 0x020048), (0x021010,
    0x021010), (0x021040, 0x021048), (0x022010, 0x022010), (0x022040, 0x022048), (0x023010, 0x023010), (0x023040, 0x023040), (0x023048,
    0x023058), (0x060010, 0x060010), (0x060044, 0x060044), (0x090010, 0x090010), (0x090058, 0x090064), (0x091010, 0x091010), (0x091050,
    0x091058), (0x093060, 0x093060), (0x0A0010, 0x0A0010), (0x0A0040, 0x0A0040), (0x0A004C, 0x0A004C), (0x0A005C, 0x0A0060), (0x0A2044,
    0x0A2044), (0x100010, 0x100010), (0x100044, 0x100044), (0x100064, 0x100078)], [], [.mem, .out, .evq, .lines, .ports, .top, .beam,
    .fab, .tim, .wake, .twn, .hlt]⟩

theorem State.linePass_moves (s : State) (p : BPort) (f : NFrame) (claimLow : Bool) :
    Moves (Foot.linePass.at [(69708 + 65536 * (p.line.idx % 2) + 4096 * (p.side % 2), 69708 + 65536 * (p.line.idx % 2) + 4096 *
      (p.side % 2))]) s (State.linePass s p f claimLow) := by
  unfold State.linePass
  refine Moves.ite (fun hc => ?_) (fun hc => ?_)
  · refine Moves.seq ?_ (State.topologyRx_moves ..) (Foot.sub1 (by decide +kernel) (Foot.holds_same (.head _)))
    exact Moves.refl _
  · refine Moves.ite (fun hc => ?_) (fun hc => ?_)
    · split
      · refine Moves.seq ?_ (State.backboneLantern_moves ..) (Foot.sub0 (by decide +kernel))
        exact Moves.refl _
      · refine Moves.seq ?_ (State.confirmReqRx_moves ..) (Foot.sub0 (by decide +kernel))
        exact Moves.refl _
      · refine Moves.seq ?_ (State.confirmRx_moves ..) (Foot.sub0 (by decide +kernel))
        exact Moves.refl _
      · exact Moves.refl _
    · exact Moves.refl _

def Foot.lineFrame : Foot :=
  ⟨[], [], [.mem, .out, .evq, .evqCut, .evtCut, .allRegs, .fresh, .acc, .lines, .ports, .top, .beam, .fab,
    .tim, .cans, .wake, .twn, .hlt, .sgw, .psc, .recorder, .pwr, .mgt]⟩

theorem State.lineFrame_moves (s : State) (p : BPort) (pcp : Nat) (f : NFrame) (fcsOk : Bool) (claimLow : Bool) :
    Moves (Foot.lineFrame.at []) s (State.lineFrame s p pcp f fcsOk claimLow) := by
  unfold State.lineFrame
  extract_lets -merge -underBinder +onlyGivenNames x1
  refine Moves.let_ x1 ?_ ?_
  · subst x1
    refine Moves.ite (fun hc => ?_) (fun hc => ?_)
    · refine Moves.seq ?_ (State.linePass_moves ..) (Foot.sub1 (by decide +kernel) (Foot.holds_all (by decide +kernel)))
      exact Moves.refl _
    · exact Moves.refl _
  intro h1
  try clear_value x1
  extract_lets -merge -underBinder +onlyGivenNames x2
  subst x2
  refine Moves.seq ?_ (State.settle_moves ..) (Foot.sub0 (by decide +kernel))
  refine Moves.seq ?_ (State.afterFab_moves ..) (Foot.sub0 (by decide +kernel))
  refine Moves.seq ?_ (State.backboneRx_moves ..) (Foot.sub1 (by decide +kernel) (Foot.holds_all (by decide +kernel)))
  exact h1

def Foot.lineHold : Foot := ⟨[(0x001010, 0x001010), (0x001040, 0x001040)], [], []⟩

theorem State.lineHold_moves (s : State) : Moves (Foot.lineHold.at []) s (State.lineHold s) := by
  unfold State.lineHold
  refine Moves.ite (fun hc => ?_) (fun hc => ?_)
  · exact Moves.refl _
  · refine Moves.seq ?_ (State.raise_moves ..) (Foot.sub1 (by decide +kernel) (Foot.holds_reg (by decide +kernel)))
    refine Moves.seq ?_ (State.putB_moves _ _ _ (by decide)) (Foot.sub1 (by decide +kernel) (Foot.holds_reg (by decide +kernel)))
    exact Moves.refl _

def Foot.startWaiting : Foot := ⟨[(0x001080, 0x0010C0)], [], [.pwr]⟩

theorem State.startWaiting_moves (s : State) (c : Nat) : Moves (Foot.startWaiting.at []) s (State.startWaiting s c) := by
  unfold State.startWaiting
  refine Moves.foldl _ (fun x1 _ h1 => ?_) _ ?_
  · refine Moves.seq ?_ (State.switchTo_moves ..) (Foot.sub1 (by decide +kernel) (Foot.holds_range 4224 4288 (by decide +kernel) (by first | omega | (dsimp only; omega)) (by first | omega | (dsimp only; omega))))
    exact h1
  · exact Moves.refl _

def Foot.lineLocked : Foot := ⟨[(0x001010, 0x001010), (0x001040, 0x001040), (0x001050, 0x001050), (0x001080, 0x0010C0)], [], [.pwr]⟩

theorem State.lineLocked_moves (s : State) (ofs : Int) : Moves (Foot.lineLocked.at []) s (State.lineLocked s ofs) := by
  unfold State.lineLocked
  refine Moves.ite (fun hc => ?_) (fun hc => ?_)
  · exact Moves.refl _
  · refine Moves.ite (fun hc => ?_) (fun hc => ?_)
    · refine Moves.seq ?_ (State.lineHold_moves ..) (Foot.sub0 (by decide +kernel))
      exact Moves.refl _
    · extract_lets -merge -underBinder +onlyGivenNames x1
      refine Moves.let_ x1 ?_ ?_
      · subst x1
        refine Moves.seq ?_ (State.putB_moves _ _ _ (by decide)) (Foot.sub1 (by decide +kernel) (Foot.holds_reg (by decide +kernel)))
        refine Moves.seq ?_ (State.putB_moves _ _ _ (by decide)) (Foot.sub1 (by decide +kernel) (Foot.holds_reg (by decide +kernel)))
        exact Moves.refl _
      intro h1
      try clear_value x1
      refine Moves.seq ?_ (State.startWaiting_moves ..) (Foot.sub0 (by decide +kernel))
      refine Moves.seq ?_ (State.put_moves _ _ _ (by decide)) (Foot.sub1 (by decide +kernel) (Foot.holds_reg (by decide +kernel)))
      exact h1

def Foot.lineOpenRequest : Foot := ⟨[(0x005040, 0x005040)], [], [.lines]⟩

theorem State.lineOpenRequest_moves (s : State) (l : Line) :
    Moves (Foot.lineOpenRequest.at [(65608 + 65536 * (l.idx % 2), 65608 + 65536 * (l.idx % 2))]) s (State.lineOpenRequest s l) := by
  unfold State.lineOpenRequest
  extract_lets -merge -underBinder +onlyGivenNames x1
  refine Moves.let_ x1 ?_ ?_
  · subst x1
    refine Moves.seq ?_ (State.openingDone_moves ..) (Foot.sub0 (by decide +kernel))
    exact Moves.refl _
  intro h1
  try clear_value x1
  refine Moves.ite (fun hc => ?_) (fun hc => ?_)
  · refine Moves.seq ?_ (State.putB_moves _ _ _ (by first | (dsimp only [F.BL_LINE_STAT_WAIT_OTHER]; omega) | omega)) (Foot.sub1 (by decide +kernel) (Foot.holds_same (.head _)))
    exact h1
  · refine Moves.ite (fun hc => ?_) (fun hc => ?_)
    · refine Moves.seq ?_ (State.putB_moves _ _ _ (by first | (dsimp only [F.BL_LINE_STAT_WAIT_OTHER]; omega) | omega)) (Foot.sub1 (by decide +kernel) (Foot.holds_same (.head _)))
      exact h1
    · extract_lets -merge -underBinder +onlyGivenNames x2
      subst x2
      extract_lets -merge -underBinder +onlyGivenNames x3
      refine Moves.let_ x3 ?_ ?_
      · subst x3
        refine Moves.seq ?_ (State.setLine_moves ..) (Foot.sub0 (by decide +kernel))
        exact h1
      intro h3
      try clear_value x3
      extract_lets -merge -underBinder +onlyGivenNames x4
      refine Moves.let_ x4 ?_ ?_
      · subst x4
        refine Moves.seq ?_ (State.putB_moves _ _ _ (by first | (dsimp only [F.BL_LINE_STAT_MOVING]; omega) | omega)) (Foot.sub1 (by decide +kernel) (Foot.holds_same (.head _)))
        refine Moves.seq ?_ (State.putB_moves _ _ _ (by first | (dsimp only [F.BL_LINE_STAT_WAIT_OTHER]; omega) | omega)) (Foot.sub1 (by decide +kernel) (Foot.holds_same (.head _)))
        exact h3
      intro h4
      try clear_value x4
      refine Moves.seq ?_ (State.putB_moves _ _ _ (by show 20544 % 4096 ≠ 16; decide)) (Foot.sub1 (by decide +kernel) (Foot.holds_reg (lo := 20544) (hi := 20544) (by decide +kernel)))
      refine Moves.seq ?_ (State.putB_moves _ _ _ (by show 20544 % 4096 ≠ 16; decide)) (Foot.sub1 (by decide +kernel) (Foot.holds_reg (lo := 20544) (hi := 20544) (by decide +kernel)))
      exact h4

def Foot.lineRefChg : Foot := ⟨[(0x001010, 0x001010), (0x001040, 0x001040)], [], []⟩

theorem State.lineRefChg_moves (s : State) (ref : Nat) (near : Bool) :
    Moves (Foot.lineRefChg.at []) s (State.lineRefChg s ref near) := by
  unfold State.lineRefChg
  refine Moves.ite (fun hc => ?_) (fun hc => ?_)
  · exact Moves.refl _
  · extract_lets -merge -underBinder +onlyGivenNames x1
    refine Moves.let_ x1 ?_ ?_
    · subst x1
      refine Moves.seq ?_ (State.put_moves _ _ _ (by decide)) (Foot.sub1 (by decide +kernel) (Foot.holds_reg (by decide +kernel)))
      exact Moves.refl _
    intro h1
    try clear_value x1
    refine Moves.ite (fun hc => ?_) (fun hc => ?_)
    · refine Moves.seq ?_ (State.raise_moves ..) (Foot.sub1 (by decide +kernel) (Foot.holds_reg (by decide +kernel)))
      refine Moves.seq ?_ (State.putB_moves _ _ _ (by decide)) (Foot.sub1 (by decide +kernel) (Foot.holds_reg (by decide +kernel)))
      exact h1
    · refine Moves.seq ?_ (State.putB_moves _ _ _ (by decide)) (Foot.sub1 (by decide +kernel) (Foot.holds_reg (by decide +kernel)))
      exact h1

def Foot.linkDown : Foot := ⟨[(0x0A1010, 0x0A1010), (0x0A1040, 0x0A1040)], [], [.twn]⟩

theorem State.linkDown_moves (s : State) : Moves (Foot.linkDown.at []) s (State.linkDown s) := by
  unfold State.linkDown
  refine Moves.ite (fun hc => ?_) (fun hc => ?_)
  · exact Moves.refl _
  · extract_lets -merge -underBinder +onlyGivenNames x1
    refine Moves.let_ x1 ?_ ?_
    · subst x1
      refine Moves.seq ?_ (State.putB_moves _ _ _ (by decide)) (Foot.sub1 (by decide +kernel) (Foot.holds_reg (by decide +kernel)))
      refine Moves.seq ?_ (State.putB_moves _ _ _ (by decide)) (Foot.sub1 (by decide +kernel) (Foot.holds_reg (by decide +kernel)))
      refine Moves.seq ?_ (State.put_moves _ _ _ (by decide)) (Foot.sub1 (by decide +kernel) (Foot.holds_reg (by decide +kernel)))
      exact Moves.refl _
    intro h1
    try clear_value x1
    refine Moves.seq ?_ (State.raise_moves ..) (Foot.sub1 (by decide +kernel) (Foot.holds_reg (by decide +kernel)))
    refine Moves.seq ?_ (State.modTwn_moves ..) (Foot.sub0 (by decide +kernel))
    refine Moves.seq ?_ (State.putB_moves _ _ _ (by decide)) (Foot.sub1 (by decide +kernel) (Foot.holds_reg (by decide +kernel)))
    exact h1

def Foot.linkTrained : Foot := ⟨[(0x0B0010, 0x0B0010), (0x0B0044, 0x0B0044)], [], [.evq]⟩

theorem State.linkTrained_moves (s : State) (speed : Nat) (width : Nat) :
    Moves (Foot.linkTrained.at []) s (State.linkTrained s speed width) := by
  unfold State.linkTrained
  refine Moves.ite (fun hc => ?_) (fun hc => ?_)
  · exact Moves.refl _
  · refine Moves.seq ?_ (State.linkChg_moves ..) (Foot.sub0 (by decide +kernel))
    refine Moves.seq ?_ (State.put_moves _ _ _ (by decide)) (Foot.sub1 (by decide +kernel) (Foot.holds_reg (by decide +kernel)))
    refine Moves.seq ?_ (State.put_moves _ _ _ (by decide)) (Foot.sub1 (by decide +kernel) (Foot.holds_reg (by decide +kernel)))
    refine Moves.seq ?_ (State.putB_moves _ _ _ (by decide)) (Foot.sub1 (by decide +kernel) (Foot.holds_reg (by decide +kernel)))
    exact Moves.refl _

def Foot.linkUp : Foot := ⟨[(0x0A1010, 0x0A1010), (0x0A1040, 0x0A1040)], [], [.twn]⟩

theorem State.linkUp_moves (s : State) : Moves (Foot.linkUp.at []) s (State.linkUp s) := by
  unfold State.linkUp
  refine Moves.ite (fun hc => ?_) (fun hc => ?_)
  · exact Moves.refl _
  · extract_lets -merge -underBinder +onlyGivenNames x1
    refine Moves.let_ x1 ?_ ?_
    · subst x1
      refine Moves.seq ?_ (State.putB_moves _ _ _ (by decide)) (Foot.sub1 (by decide +kernel) (Foot.holds_reg (by decide +kernel)))
      refine Moves.seq ?_ (State.putB_moves _ _ _ (by decide)) (Foot.sub1 (by decide +kernel) (Foot.holds_reg (by decide +kernel)))
      refine Moves.seq ?_ (State.put_moves _ _ _ (by decide)) (Foot.sub1 (by decide +kernel) (Foot.holds_reg (by decide +kernel)))
      exact Moves.refl _
    intro h1
    try clear_value x1
    refine Moves.seq ?_ (State.askBase_moves ..) (Foot.sub0 (by decide +kernel))
    refine Moves.seq ?_ (State.raise_moves ..) (Foot.sub1 (by decide +kernel) (Foot.holds_reg (by decide +kernel)))
    exact h1

def Foot.shiftPhase : Foot := ⟨[], [], []⟩

theorem State.shiftPhase_moves (s : State) (x : BPort) (d : Int) :
    Moves (Foot.shiftPhase.at [(77896 + 65536 * (x.line.idx % 2), 77896 + 65536 * (x.line.idx % 2)),
      (77900 + 65536 * (x.line.idx % 2), 77900 + 65536 * (x.line.idx % 2))]) s (State.shiftPhase s x d) := by
  unfold State.shiftPhase
  refine Moves.seq ?_ (State.put_moves _ _ _ (by (try dsimp only [phaseFld, F.BL_BEAM_PHD_PHASE, F.BL_BEAM_PHU_PHASE]); split <;> (try dsimp only) <;> first | decide | omega)) (Foot.sub1 (by decide +kernel) (by (try dsimp only [phaseFld, F.BL_BEAM_PHD_PHASE, F.BL_BEAM_PHU_PHASE]); split <;> (try dsimp only) <;> first | exact (Foot.holds_same (.head _)) | exact (Foot.holds_same (.tail _ (.head _)))))
  exact Moves.refl _

def Foot.lockMarker : Foot := ⟨[], [], [.beam]⟩

theorem State.lockMarker_moves (s : State) (x : BPort) (d : Int) :
    Moves (Foot.lockMarker.at [(77896 + 65536 * (x.line.idx % 2), 77896 + 65536 * (x.line.idx % 2)),
      (77900 + 65536 * (x.line.idx % 2), 77900 + 65536 * (x.line.idx % 2)),
      (4096 * ((77824 + 65536 * (x.line.idx % 2)) / 4096) + 16, 4096 * ((77824 + 65536 * (x.line.idx % 2)) / 4096) + 16)]) s
      (State.lockMarker s x d) := by
  unfold State.lockMarker
  extract_lets -merge -underBinder +onlyGivenNames x1
  subst x1
  extract_lets -merge -underBinder +onlyGivenNames x2
  subst x2
  extract_lets -merge -underBinder +onlyGivenNames x3
  refine Moves.let_ x3 ?_ ?_
  · subst x3
    refine Moves.seq ?_ (State.setDir_moves ..) (Foot.sub0 (by decide +kernel))
    refine Moves.seq ?_ (State.shiftPhase_moves ..) (Foot.sub_at (by decide +kernel) (Foot.own_cons (Foot.holds_same (.head _)) (Foot.own_cons (Foot.holds_same (.tail _ (.head _))) Foot.own_nil)))
    exact Moves.refl _
  intro h3
  try clear_value x3
  refine Moves.ite (fun hc => ?_) (fun hc => ?_)
  · exact h3
  · refine Moves.seq ?_ (State.raise_moves ..) (Foot.sub1 (by decide +kernel) (Foot.holds_same (.tail _ (.tail _ (.head _)))))
    exact h3

def Foot.lockTimeout : Foot := ⟨[], [], []⟩

theorem State.lockTimeout_moves (s : State) (pg : Nat) :
    Moves (Foot.lockTimeout.at [(4096 * (pg / 4096) + 36, 4096 * (pg / 4096) + 36)]) s (State.lockTimeout s pg) := by
  unfold State.lockTimeout
  refine Moves.ite (fun hc => ?_) (fun hc => ?_)
  · refine Moves.seq ?_ (State.relock_moves ..) (Foot.sub1 (by decide +kernel) (Foot.holds_same (.head _)))
    exact Moves.refl _
  · exact Moves.refl _

def Foot.marginLow : Foot := ⟨[(0x000054, 0x000054), (0x0F0010, 0x0F0010), (0x0F0040, 0x0F0040)], [], [.evq, .hlt]⟩

theorem State.marginLow_moves (s : State) (p : BPort) :
    Moves (Foot.marginLow.at [(983168 + 4 * (lineIsland p.line % 17), 983168 + 4 * (lineIsland p.line % 17))]) s (State.marginLow s p)
      := by
  unfold State.marginLow
  refine Moves.ite (fun hc => ?_) (fun hc => ?_)
  · exact Moves.refl _
  · refine Moves.seq ?_ (State.snrReasons_moves ..) (Foot.sub1 (by decide +kernel) (Foot.holds_same (.head _)))
    refine Moves.seq ?_ (State.modHlt_moves ..) (Foot.sub0 (by decide +kernel))
    exact Moves.refl _

def Foot.marginReading : Foot := ⟨[(0x000054, 0x000054), (0x0F0010, 0x0F0010), (0x0F0040, 0x0F0040)], [], [.evq, .hlt]⟩

theorem State.marginReading_moves (s : State) (p : BPort) (pair : Nat) (v : Nat) :
    Moves (Foot.marginReading.at [(69704 + 65536 * (p.line.idx % 2) + 4096 * (p.side % 2), 69704 + 65536 * (p.line.idx % 2) + 4096 *
      (p.side % 2)),
      (4096 * ((69632 + 65536 * (p.line.idx % 2) + 4096 * (p.side % 2)) / 4096) + 16, 4096 * ((69632 + 65536 * (p.line.idx % 2) + 4096
      * (p.side % 2)) / 4096) + 16),
      (983168 + 4 * (lineIsland p.line % 17), 983168 + 4 * (lineIsland p.line % 17))]) s (State.marginReading s p pair v) := by
  unfold State.marginReading
  refine Moves.ite (fun hc => ?_) (fun hc => ?_)
  · exact Moves.refl _
  · extract_lets -merge -underBinder +onlyGivenNames x1
    subst x1
    extract_lets -merge -underBinder +onlyGivenNames x2
    subst x2
    extract_lets -merge -underBinder +onlyGivenNames x3
    refine Moves.let_ x3 ?_ ?_
    · subst x3
      refine Moves.seq ?_ (State.put_moves _ _ _ (by first | (dsimp only [F.BL_P_SNR_PAIR]; omega) | omega)) (Foot.sub1 (by decide +kernel) (Foot.holds_same (.head _)))
      refine Moves.seq ?_ (State.put_moves _ _ _ (by first | (dsimp only [F.BL_P_SNR_MARGIN]; omega) | omega)) (Foot.sub1 (by decide +kernel) (Foot.holds_same (.head _)))
      exact Moves.refl _
    intro h3
    try clear_value x3
    extract_lets -merge -underBinder +onlyGivenNames x4
    refine Moves.let_ x4 ?_ ?_
    · subst x4
      refine Moves.ite (fun hc => ?_) (fun hc => ?_)
      · refine Moves.seq ?_ (State.raise_moves ..) (Foot.sub1 (by decide +kernel) (Foot.holds_same (.tail _ (.head _))))
        exact h3
      · exact h3
    intro h4
    try clear_value x4
    refine Moves.ite (fun hc => ?_) (fun hc => ?_)
    · refine Moves.seq ?_ (State.snrReasons_moves ..) (Foot.sub1 (by decide +kernel) (Foot.holds_same (.tail _ (.tail _ (.head _)))))
      refine Moves.seq ?_ (State.modHlt_moves ..) (Foot.sub0 (by decide +kernel))
      exact h4
    · exact h4

def Foot.setErr : Foot := ⟨[], [], []⟩

theorem State.setErr_moves (s : State) (x : BPort) (d : Int) :
    Moves (Foot.setErr.at [(77896 + 65536 * (x.line.idx % 2), 77896 + 65536 * (x.line.idx % 2)),
      (77900 + 65536 * (x.line.idx % 2), 77900 + 65536 * (x.line.idx % 2))]) s (State.setErr s x d) := by
  unfold State.setErr
  refine Moves.seq ?_ (State.put_moves _ _ _ (by (try dsimp only [errFld, F.BL_BEAM_PHD_ERR, F.BL_BEAM_PHU_ERR]); split <;> (try dsimp only) <;> first | decide | omega)) (Foot.sub1 (by decide +kernel) (by (try dsimp only [errFld, F.BL_BEAM_PHD_ERR, F.BL_BEAM_PHU_ERR]); split <;> (try dsimp only) <;> first | exact (Foot.holds_same (.head _)) | exact (Foot.holds_same (.tail _ (.head _)))))
  exact Moves.refl _

def Foot.stepPhase : Foot := ⟨[], [], [.evq, .beam]⟩

theorem State.stepPhase_moves (s : State) (x : BPort) (d : Int) :
    Moves (Foot.stepPhase.at [(4096 * ((77824 + 65536 * (x.line.idx % 2)) / 4096) + 16, 4096 * ((77824 + 65536 * (x.line.idx % 2)) /
      4096) + 16), (77920 + 65536 * (x.line.idx % 2), 77920 + 65536 * (x.line.idx % 2)),
      (77896 + 65536 * (x.line.idx % 2), 77896 + 65536 * (x.line.idx % 2)),
      (77900 + 65536 * (x.line.idx % 2), 77900 + 65536 * (x.line.idx % 2))]) s (State.stepPhase s x d) := by
  unfold State.stepPhase
  extract_lets -merge -underBinder +onlyGivenNames x1
  refine Moves.let_ x1 ?_ ?_
  · subst x1
    refine Moves.seq ?_ (State.raise_moves ..) (Foot.sub1 (by decide +kernel) (Foot.holds_same (.head _)))
    refine Moves.seq ?_ (State.satInc_moves _ _ (by first | (dsimp only [F.BL_BEAM_EVCNT_STEP]; omega) | omega)) (Foot.sub1 (by decide +kernel) (Foot.holds_same (.tail _ (.head _))))
    refine Moves.seq ?_ (State.shiftPhase_moves ..) (Foot.sub_at (by decide +kernel) (Foot.own_cons (Foot.holds_same (.tail _ (.tail _ (.head _)))) (Foot.own_cons (Foot.holds_same (.tail _ (.tail _ (.tail _ (.head _))))) Foot.own_nil)))
    exact Moves.refl _
  intro h1
  try clear_value x1
  extract_lets -merge -underBinder +onlyGivenNames x2
  refine Moves.let_ x2 ?_ ?_
  · subst x2
    refine Moves.seq ?_ (State.post_moves ..) (Foot.sub0 (by decide +kernel))
    exact h1
  intro h2
  try clear_value x2
  refine Moves.seq ?_ (State.setDir_moves ..) (Foot.sub0 (by decide +kernel))
  exact h2

def Foot.markerDigest : Foot := ⟨[], [], [.evq, .beam]⟩

theorem State.markerDigest_moves (s : State) (x : BPort) (digest : Word) :
    Moves (Foot.markerDigest.at [(4096 * ((77824 + 65536 * (x.line.idx % 2)) / 4096) + 16, 4096 * ((77824 + 65536 * (x.line.idx % 2))
      / 4096) + 16)]) s (State.markerDigest s x digest) := by
  unfold State.markerDigest
  refine Moves.seq ?_ (State.judgeDigest_moves ..) (Foot.sub1 (by decide +kernel) (Foot.holds_same (.head _)))
  refine Moves.seq ?_ (State.setDir_moves ..) (Foot.sub0 (by decide +kernel))
  exact Moves.refl _

def Foot.placeBoundary : Foot := ⟨[(0x013048, 0x01304C), (0x023048, 0x02304C), (0x10306C, 0x10306C)], [], [.beam]⟩

theorem State.placeBoundary_moves (s : State) (x : BPort) (cycle : Nat) :
    Moves (Foot.placeBoundary.at []) s (State.placeBoundary s x cycle) := by
  unfold State.placeBoundary
  extract_lets -merge -underBinder +onlyGivenNames x1
  subst x1
  extract_lets -merge -underBinder +onlyGivenNames x2
  refine Moves.let_ x2 ?_ ?_
  · subst x2
    refine Moves.foldl _ (fun x3 _ h3 => ?_) _ ?_
    · refine Moves.ite (fun hc => ?_) (fun hc => ?_)
      · exact h3
      · refine Moves.seq ?_ (State.shiftPhase_moves ..) (Foot.sub_at (by decide +kernel) (Foot.own_cons (Foot.holds_two 143432 77896 (by decide +kernel) (by decide +kernel) (by first | omega | (dsimp only; omega))) (Foot.own_cons (Foot.holds_two 143436 77900 (by decide +kernel) (by decide +kernel) (by first | omega | (dsimp only; omega))) Foot.own_nil)))
        exact h3
    · exact Moves.refl _
  intro h2
  try clear_value x2
  extract_lets -merge -underBinder +onlyGivenNames x4
  subst x4
  extract_lets -merge -underBinder +onlyGivenNames x5
  refine Moves.let_ x5 ?_ ?_
  · subst x5
    refine Moves.seq ?_ (Moves.upd_beam _ _) (Foot.sub0 (by decide +kernel))
    exact h2
  intro h5
  try clear_value x5
  refine Moves.seq ?_ (State.wr_moves _ _ (by decide)) (Foot.sub1 (by decide +kernel) (Foot.holds_reg (by decide +kernel)))
  exact h5

def Foot.markerCapture : Foot := ⟨[], [], [.tim]⟩

theorem State.markerCapture_moves (s : State) (l : Line) (cycle : Nat) (seg : Bool) :
    Moves (Foot.markerCapture.at []) s (State.markerCapture s l cycle seg) := by
  unfold State.markerCapture
  extract_lets -merge -underBinder +onlyGivenNames x1
  subst x1
  split
  · refine Moves.seq ?_ (Moves.upd_tim _ _) (Foot.sub0 (by decide +kernel))
    exact Moves.refl _
  · refine Moves.seq ?_ (Moves.upd_tim _ _) (Foot.sub0 (by decide +kernel))
    exact Moves.refl _

end Sys2Proof.Machine
end

