-- ==== Sys2Proof/Laws/Foot13.lean ====
section
/-!
SUPPORT. What the operations may touch: one footprint and one lemma each.
-/

namespace Sys2Proof.Machine

set_option Elab.async false

def Foot.markerAct : Foot := ⟨[(0x013048, 0x01304C), (0x023048, 0x02304C), (0x10306C, 0x10306C)], [], [.evq, .beam, .tim]⟩

theorem State.markerAct_moves (s : State) (x : BPort) (arrival : Nat) (b : BeamFrame) :
    Moves (Foot.markerAct.at [(77896 + 65536 * (x.line.idx % 2), 77896 + 65536 * (x.line.idx % 2)),
      (77900 + 65536 * (x.line.idx % 2), 77900 + 65536 * (x.line.idx % 2)),
      (4096 * ((77824 + 65536 * (x.line.idx % 2)) / 4096) + 16, 4096 * ((77824 + 65536 * (x.line.idx % 2)) / 4096) + 16),
      (77920 + 65536 * (x.line.idx % 2), 77920 + 65536 * (x.line.idx % 2)),
      (77904 + 65536 * ((x.line.port true).line.idx % 2), 77904 + 65536 * ((x.line.port true).line.idx % 2)),
      (77908 + 65536 * ((x.line.port true).line.idx % 2), 77908 + 65536 * ((x.line.port true).line.idx % 2)),
      (77896 + 65536 * ((x.line.port true).line.idx % 2), 77896 + 65536 * ((x.line.port true).line.idx % 2)),
      (77900 + 65536 * ((x.line.port true).line.idx % 2), 77900 + 65536 * ((x.line.port true).line.idx % 2)),
      (77904 + 65536 * ((x.line.port false).line.idx % 2), 77904 + 65536 * ((x.line.port false).line.idx % 2)),
      (77908 + 65536 * ((x.line.port false).line.idx % 2), 77908 + 65536 * ((x.line.port false).line.idx % 2)),
      (77896 + 65536 * ((x.line.port false).line.idx % 2), 77896 + 65536 * ((x.line.port false).line.idx % 2)),
      (77900 + 65536 * ((x.line.port false).line.idx % 2), 77900 + 65536 * ((x.line.port false).line.idx % 2)),
      (77888 + 65536 * (x.line.idx % 2), 77888 + 65536 * (x.line.idx % 2))]) s (State.markerAct s x arrival b) := by
  unfold State.markerAct
  extract_lets -merge -underBinder +onlyGivenNames x1
  subst x1
  extract_lets -merge -underBinder +onlyGivenNames x2
  subst x2
  extract_lets -merge -underBinder +onlyGivenNames x3
  subst x3
  extract_lets -merge -underBinder +onlyGivenNames x4
  subst x4
  extract_lets -merge -underBinder +onlyGivenNames x5
  subst x5
  extract_lets -merge -underBinder +onlyGivenNames x6
  subst x6
  extract_lets -merge -underBinder +onlyGivenNames x7
  refine Moves.let_ x7 ?_ ?_
  · subst x7
    refine Moves.seq ?_ (State.setDir_moves ..) (Foot.sub0 (by decide +kernel))
    exact Moves.refl _
  intro h7
  try clear_value x7
  extract_lets -merge -underBinder +onlyGivenNames x8
  subst x8
  extract_lets -merge -underBinder +onlyGivenNames x9
  subst x9
  extract_lets -merge -underBinder +onlyGivenNames x10
  refine Moves.let_ x10 ?_ ?_
  · subst x10
    refine Moves.ite (fun hc => ?_) (fun hc => ?_)
    · refine Moves.seq ?_ (State.setDir_moves ..) (Foot.sub0 (by decide +kernel))
      refine Moves.seq ?_ (State.put_moves _ _ _ (by (try dsimp only [phaseFld, F.BL_BEAM_PHD_PHASE, F.BL_BEAM_PHU_PHASE]); split <;> (try dsimp only) <;> first | decide | omega)) (Foot.sub1 (by decide +kernel) (by (try dsimp only [phaseFld, F.BL_BEAM_PHD_PHASE, F.BL_BEAM_PHU_PHASE]); split <;> (try dsimp only) <;> first | exact (Foot.holds_same (.head _)) | exact (Foot.holds_same (.tail _ (.head _)))))
      exact h7
    · refine Moves.ite (fun hc => ?_) (fun hc => ?_)
      · refine Moves.seq ?_ (State.lockMarker_moves ..) (Foot.sub_at (by decide +kernel) (Foot.own_cons (Foot.holds_same (.head _)) (Foot.own_cons (Foot.holds_same (.tail _ (.head _))) (Foot.own_cons (Foot.holds_same (.tail _ (.tail _ (.head _)))) Foot.own_nil))))
        refine Moves.seq ?_ (State.setErr_moves ..) (Foot.sub_at (by decide +kernel) (Foot.own_cons (Foot.holds_same (.head _)) (Foot.own_cons (Foot.holds_same (.tail _ (.head _))) Foot.own_nil)))
        exact h7
      · refine Moves.seq ?_ (State.stepPhase_moves ..) (Foot.sub_at (by decide +kernel) (Foot.own_cons (Foot.holds_same (.tail _ (.tail _ (.head _)))) (Foot.own_cons (Foot.holds_same (.tail _ (.tail _ (.tail _ (.head _))))) (Foot.own_cons (Foot.holds_same (.head _)) (Foot.own_cons (Foot.holds_same (.tail _ (.head _))) Foot.own_nil)))))
        refine Moves.seq ?_ (State.setErr_moves ..) (Foot.sub_at (by decide +kernel) (Foot.own_cons (Foot.holds_same (.head _)) (Foot.own_cons (Foot.holds_same (.tail _ (.head _))) Foot.own_nil)))
        exact h7
  intro h10
  try clear_value x10
  extract_lets -merge -underBinder +onlyGivenNames x11
  refine Moves.let_ x11 ?_ ?_
  · subst x11
    refine Moves.seq ?_ (State.markerDigest_moves ..) (Foot.sub1 (by decide +kernel) (Foot.holds_same (.tail _ (.tail _ (.head _)))))
    exact h10
  intro h11
  try clear_value x11
  extract_lets -merge -underBinder +onlyGivenNames x12
  refine Moves.let_ x12 ?_ ?_
  · subst x12
    refine Moves.ite (fun hc => ?_) (fun hc => ?_)
    · refine Moves.seq ?_ (State.placeBoundary_moves ..) (Foot.sub0 (by decide +kernel))
      exact h11
    · exact h11
  intro h12
  try clear_value x12
  extract_lets -merge -underBinder +onlyGivenNames x13
  refine Moves.let_ x13 ?_ ?_
  · subst x13
    refine Moves.ite (fun hc => ?_) (fun hc => ?_)
    · refine Moves.seq ?_ (State.markerCapture_moves ..) (Foot.sub0 (by decide +kernel))
      exact h12
    · exact h12
  intro h13
  try clear_value x13
  refine Moves.seq ?_ (State.beamRefresh_moves ..) (Foot.sub_at (by decide +kernel) (Foot.own_cons (Foot.holds_same (.tail _ (.tail _ (.tail _ (.tail _ (.head _)))))) (Foot.own_cons (Foot.holds_same (.tail _ (.tail _ (.tail _ (.tail _ (.tail _ (.head _))))))) (Foot.own_cons (Foot.holds_same (.tail _ (.tail _ (.tail _ (.tail _ (.tail _ (.tail _ (.head _)))))))) (Foot.own_cons (Foot.holds_same (.tail _ (.tail _ (.tail _ (.tail _ (.tail _ (.tail _ (.tail _ (.head _))))))))) (Foot.own_cons (Foot.holds_same (.tail _ (.tail _ (.tail _ (.tail _ (.tail _ (.tail _ (.tail _ (.tail _ (.head _)))))))))) (Foot.own_cons (Foot.holds_same (.tail _ (.tail _ (.tail _ (.tail _ (.tail _ (.tail _ (.tail _ (.tail _ (.tail _ (.head _))))))))))) (Foot.own_cons (Foot.holds_same (.tail _ (.tail _ (.tail _ (.tail _ (.tail _ (.tail _ (.tail _ (.tail _ (.tail _ (.tail _ (.head _)))))))))))) (Foot.own_cons (Foot.holds_same (.tail _ (.tail _ (.tail _ (.tail _ (.tail _ (.tail _ (.tail _ (.tail _ (.tail _ (.tail _ (.tail _ (.head _))))))))))))) (Foot.own_cons (Foot.holds_same (.tail _ (.tail _ (.tail _ (.tail _ (.tail _ (.tail _ (.tail _ (.tail _ (.tail _ (.tail _ (.tail _ (.tail _ (.head _)))))))))))))) (Foot.own_cons (Foot.holds_same (.tail _ (.tail _ (.head _)))) Foot.own_nil)))))))))))
  exact h13

def Foot.missed : Foot := ⟨[], [], [.beam]⟩

theorem State.missed_moves (s : State) (x : BPort) (n : Nat) (lost : Bool) :
    Moves (Foot.missed.at [(77920 + 65536 * (x.line.idx % 2), 77920 + 65536 * (x.line.idx % 2))]) s (State.missed s x n lost) := by
  unfold State.missed
  refine Moves.seq ?_ (State.setDir_moves ..) (Foot.sub0 (by decide +kernel))
  refine Moves.seq ?_ (State.satInc_moves _ _ (by first | (dsimp only [F.BL_BEAM_EVCNT_MISS]; omega) | omega)) (Foot.sub1 (by decide +kernel) (Foot.holds_same (.head _)))
  exact Moves.refl _

def Foot.noteLost : Foot := ⟨[], [], [.evq]⟩

theorem State.noteLost_moves (s : State) (x : BPort) (lost : Bool) :
    Moves (Foot.noteLost.at [(4096 * ((77824 + 65536 * (x.line.idx % 2)) / 4096) + 16, 4096 * ((77824 + 65536 * (x.line.idx % 2)) /
      4096) + 16)]) s (State.noteLost s x lost) := by
  unfold State.noteLost
  refine Moves.ite (fun hc => ?_) (fun hc => ?_)
  · refine Moves.seq ?_ (State.post_moves ..) (Foot.sub0 (by decide +kernel))
    refine Moves.seq ?_ (State.raise_moves ..) (Foot.sub1 (by decide +kernel) (Foot.holds_same (.head _)))
    exact Moves.refl _
  · exact Moves.refl _

def Foot.markerMissing : Foot := ⟨[], [], [.evq, .beam]⟩

theorem State.markerMissing_moves (s : State) (x : BPort) (guardErr : Option Nat) :
    Moves (Foot.markerMissing.at [(4096 * ((77824 + 65536 * (x.line.idx % 2)) / 4096) + 16, 4096 * ((77824 + 65536 * (x.line.idx % 2))
      / 4096) + 16), (77920 + 65536 * (x.line.idx % 2), 77920 + 65536 * (x.line.idx % 2)),
      (77904 + 65536 * ((x.line.port true).line.idx % 2), 77904 + 65536 * ((x.line.port true).line.idx % 2)),
      (77908 + 65536 * ((x.line.port true).line.idx % 2), 77908 + 65536 * ((x.line.port true).line.idx % 2)),
      (77896 + 65536 * ((x.line.port true).line.idx % 2), 77896 + 65536 * ((x.line.port true).line.idx % 2)),
      (77900 + 65536 * ((x.line.port true).line.idx % 2), 77900 + 65536 * ((x.line.port true).line.idx % 2)),
      (77904 + 65536 * ((x.line.port false).line.idx % 2), 77904 + 65536 * ((x.line.port false).line.idx % 2)),
      (77908 + 65536 * ((x.line.port false).line.idx % 2), 77908 + 65536 * ((x.line.port false).line.idx % 2)),
      (77896 + 65536 * ((x.line.port false).line.idx % 2), 77896 + 65536 * ((x.line.port false).line.idx % 2)),
      (77900 + 65536 * ((x.line.port false).line.idx % 2), 77900 + 65536 * ((x.line.port false).line.idx % 2)),
      (77888 + 65536 * (x.line.idx % 2), 77888 + 65536 * (x.line.idx % 2))]) s (State.markerMissing s x guardErr) := by
  unfold State.markerMissing
  refine Moves.ite (fun hc => ?_) (fun hc => ?_)
  · exact Moves.refl _
  · extract_lets -merge -underBinder +onlyGivenNames x1
    subst x1
    extract_lets -merge -underBinder +onlyGivenNames x2
    subst x2
    extract_lets -merge -underBinder +onlyGivenNames x3
    refine Moves.let_ x3 ?_ ?_
    · subst x3
      split
      · refine Moves.seq ?_ (State.intrusion_moves ..) (Foot.sub_at (by decide +kernel) (Foot.own_cons (Foot.holds_same (.head _)) (Foot.own_cons (Foot.holds_same (.tail _ (.head _))) Foot.own_nil)))
        exact Moves.refl _
      · exact Moves.refl _
    intro h3
    skip
    extract_lets -merge -underBinder +onlyGivenNames x4
    subst x4
    extract_lets -merge -underBinder +onlyGivenNames x5
    subst x5
    extract_lets -merge -underBinder +onlyGivenNames x6
    refine Moves.let_ x6 ?_ ?_
    · subst x6
      refine Moves.seq ?_ (State.missed_moves ..) (Foot.sub1 (by decide +kernel) (Foot.holds_same (.tail _ (.head _))))
      exact h3
    intro h6
    skip
    refine Moves.seq ?_ (State.beamRefresh_moves ..) (Foot.sub_at (by decide +kernel) (Foot.own_cons (Foot.holds_same (.tail _ (.tail _ (.head _)))) (Foot.own_cons (Foot.holds_same (.tail _ (.tail _ (.tail _ (.head _))))) (Foot.own_cons (Foot.holds_same (.tail _ (.tail _ (.tail _ (.tail _ (.head _)))))) (Foot.own_cons (Foot.holds_same (.tail _ (.tail _ (.tail _ (.tail _ (.tail _ (.head _))))))) (Foot.own_cons (Foot.holds_same (.tail _ (.tail _ (.tail _ (.tail _ (.tail _ (.tail _ (.head _)))))))) (Foot.own_cons (Foot.holds_same (.tail _ (.tail _ (.tail _ (.tail _ (.tail _ (.tail _ (.tail _ (.head _))))))))) (Foot.own_cons (Foot.holds_same (.tail _ (.tail _ (.tail _ (.tail _ (.tail _ (.tail _ (.tail _ (.tail _ (.head _)))))))))) (Foot.own_cons (Foot.holds_same (.tail _ (.tail _ (.tail _ (.tail _ (.tail _ (.tail _ (.tail _ (.tail _ (.tail _ (.head _))))))))))) (Foot.own_cons (Foot.holds_same (.tail _ (.tail _ (.tail _ (.tail _ (.tail _ (.tail _ (.tail _ (.tail _ (.tail _ (.tail _ (.head _)))))))))))) (Foot.own_cons (Foot.holds_same (.head _)) Foot.own_nil)))))))))))
    refine Moves.seq ?_ (State.noteLost_moves ..) (Foot.sub1 (by decide +kernel) (Foot.holds_same (.head _)))
    exact h6

def Foot.marker : Foot := ⟨[(0x013048, 0x01304C), (0x023048, 0x02304C), (0x10306C, 0x10306C)], [], [.out, .evq, .beam, .tim]⟩

theorem State.marker_moves (s : State) (x : BPort) (arrival : Nat) (b : BeamFrame) :
    Moves (Foot.marker.at [(77916 + 65536 * (x.line.idx % 2), 77916 + 65536 * (x.line.idx % 2)),
      (77896 + 65536 * (x.line.idx % 2), 77896 + 65536 * (x.line.idx % 2)),
      (77900 + 65536 * (x.line.idx % 2), 77900 + 65536 * (x.line.idx % 2)),
      (4096 * ((77824 + 65536 * (x.line.idx % 2)) / 4096) + 16, 4096 * ((77824 + 65536 * (x.line.idx % 2)) / 4096) + 16),
      (77920 + 65536 * (x.line.idx % 2), 77920 + 65536 * (x.line.idx % 2)),
      (77904 + 65536 * ((x.line.port true).line.idx % 2), 77904 + 65536 * ((x.line.port true).line.idx % 2)),
      (77908 + 65536 * ((x.line.port true).line.idx % 2), 77908 + 65536 * ((x.line.port true).line.idx % 2)),
      (77896 + 65536 * ((x.line.port true).line.idx % 2), 77896 + 65536 * ((x.line.port true).line.idx % 2)),
      (77900 + 65536 * ((x.line.port true).line.idx % 2), 77900 + 65536 * ((x.line.port true).line.idx % 2)),
      (77904 + 65536 * ((x.line.port false).line.idx % 2), 77904 + 65536 * ((x.line.port false).line.idx % 2)),
      (77908 + 65536 * ((x.line.port false).line.idx % 2), 77908 + 65536 * ((x.line.port false).line.idx % 2)),
      (77896 + 65536 * ((x.line.port false).line.idx % 2), 77896 + 65536 * ((x.line.port false).line.idx % 2)),
      (77900 + 65536 * ((x.line.port false).line.idx % 2), 77900 + 65536 * ((x.line.port false).line.idx % 2)),
      (77888 + 65536 * (x.line.idx % 2), 77888 + 65536 * (x.line.idx % 2))]) s (State.marker s x arrival b) := by
  unfold State.marker
  refine Moves.ite (fun hc => ?_) (fun hc => ?_)
  · exact Moves.refl _
  · extract_lets -merge -underBinder +onlyGivenNames x1
    refine Moves.let_ x1 ?_ ?_
    · subst x1
      refine Moves.ite (fun hc => ?_) (fun hc => ?_)
      · refine Moves.seq ?_ (State.transit_moves ..) (Foot.sub0 (by decide +kernel))
        exact Moves.refl _
      · exact Moves.refl _
    intro h1
    try clear_value x1
    extract_lets -merge -underBinder +onlyGivenNames x2
    subst x2
    refine Moves.ite (fun hc => ?_) (fun hc => ?_)
    · refine Moves.seq ?_ (State.markerAct_moves ..) (Foot.sub_at (by decide +kernel) (Foot.own_cons (Foot.holds_same (.tail _ (.head _))) (Foot.own_cons (Foot.holds_same (.tail _ (.tail _ (.head _)))) (Foot.own_cons (Foot.holds_same (.tail _ (.tail _ (.tail _ (.head _))))) (Foot.own_cons (Foot.holds_same (.tail _ (.tail _ (.tail _ (.tail _ (.head _)))))) (Foot.own_cons (Foot.holds_same (.tail _ (.tail _ (.tail _ (.tail _ (.tail _ (.head _))))))) (Foot.own_cons (Foot.holds_same (.tail _ (.tail _ (.tail _ (.tail _ (.tail _ (.tail _ (.head _)))))))) (Foot.own_cons (Foot.holds_same (.tail _ (.tail _ (.tail _ (.tail _ (.tail _ (.tail _ (.tail _ (.head _))))))))) (Foot.own_cons (Foot.holds_same (.tail _ (.tail _ (.tail _ (.tail _ (.tail _ (.tail _ (.tail _ (.tail _ (.head _)))))))))) (Foot.own_cons (Foot.holds_same (.tail _ (.tail _ (.tail _ (.tail _ (.tail _ (.tail _ (.tail _ (.tail _ (.tail _ (.head _))))))))))) (Foot.own_cons (Foot.holds_same (.tail _ (.tail _ (.tail _ (.tail _ (.tail _ (.tail _ (.tail _ (.tail _ (.tail _ (.tail _ (.head _)))))))))))) (Foot.own_cons (Foot.holds_same (.tail _ (.tail _ (.tail _ (.tail _ (.tail _ (.tail _ (.tail _ (.tail _ (.tail _ (.tail _ (.tail _ (.head _))))))))))))) (Foot.own_cons (Foot.holds_same (.tail _ (.tail _ (.tail _ (.tail _ (.tail _ (.tail _ (.tail _ (.tail _ (.tail _ (.tail _ (.tail _ (.tail _ (.head _)))))))))))))) (Foot.own_cons (Foot.holds_same (.tail _ (.tail _ (.tail _ (.tail _ (.tail _ (.tail _ (.tail _ (.tail _ (.tail _ (.tail _ (.tail _ (.tail _ (.tail _ (.head _))))))))))))))) Foot.own_nil))))))))))))))
      refine Moves.seq ?_ (State.beamCheck_moves ..) (Foot.sub1 (by decide +kernel) (Foot.holds_same (.head _)))
      exact h1
    · refine Moves.seq ?_ (State.markerMissing_moves ..) (Foot.sub_at (by decide +kernel) (Foot.own_cons (Foot.holds_same (.tail _ (.tail _ (.tail _ (.head _))))) (Foot.own_cons (Foot.holds_same (.tail _ (.tail _ (.tail _ (.tail _ (.head _)))))) (Foot.own_cons (Foot.holds_same (.tail _ (.tail _ (.tail _ (.tail _ (.tail _ (.head _))))))) (Foot.own_cons (Foot.holds_same (.tail _ (.tail _ (.tail _ (.tail _ (.tail _ (.tail _ (.head _)))))))) (Foot.own_cons (Foot.holds_same (.tail _ (.tail _ (.tail _ (.tail _ (.tail _ (.tail _ (.tail _ (.head _))))))))) (Foot.own_cons (Foot.holds_same (.tail _ (.tail _ (.tail _ (.tail _ (.tail _ (.tail _ (.tail _ (.tail _ (.head _)))))))))) (Foot.own_cons (Foot.holds_same (.tail _ (.tail _ (.tail _ (.tail _ (.tail _ (.tail _ (.tail _ (.tail _ (.tail _ (.head _))))))))))) (Foot.own_cons (Foot.holds_same (.tail _ (.tail _ (.tail _ (.tail _ (.tail _ (.tail _ (.tail _ (.tail _ (.tail _ (.tail _ (.head _)))))))))))) (Foot.own_cons (Foot.holds_same (.tail _ (.tail _ (.tail _ (.tail _ (.tail _ (.tail _ (.tail _ (.tail _ (.tail _ (.tail _ (.tail _ (.head _))))))))))))) (Foot.own_cons (Foot.holds_same (.tail _ (.tail _ (.tail _ (.tail _ (.tail _ (.tail _ (.tail _ (.tail _ (.tail _ (.tail _ (.tail _ (.tail _ (.head _)))))))))))))) (Foot.own_cons (Foot.holds_same (.tail _ (.tail _ (.tail _ (.tail _ (.tail _ (.tail _ (.tail _ (.tail _ (.tail _ (.tail _ (.tail _ (.tail _ (.tail _ (.head _))))))))))))))) Foot.own_nil))))))))))))
      refine Moves.seq ?_ (State.beamCheck_moves ..) (Foot.sub1 (by decide +kernel) (Foot.holds_same (.head _)))
      exact h1

def Foot.mboxVersion : Foot :=
  ⟨[(0x032010, 0x032010), (0x032060, 0x03206C), (0x0D1010, 0x0D1010), (0x0D1054, 0x0D1064), (0x0D1800,
    0x0D1FFC)], [], [.mem, .fab, .mgt]⟩

theorem State.mboxVersion_moves (s : State) (r : MboxReq) : Moves (Foot.mboxVersion.at []) s (State.mboxVersion s r) := by
  unfold State.mboxVersion
  extract_lets -merge -underBinder +onlyGivenNames x1
  subst x1
  extract_lets -merge -underBinder +onlyGivenNames x2
  subst x2
  extract_lets -merge -underBinder +onlyGivenNames x3
  subst x3
  refine Moves.seq ?_ (State.answer_moves ..) (Foot.sub0 (by decide +kernel))
  exact Moves.refl _

def Foot.setLatch : Foot := ⟨[], [], [.acc]⟩

theorem State.setLatch_moves (s : State) (q : Requester) (pg : Nat) (w : Option PairWord) :
    Moves (Foot.setLatch.at []) s (State.setLatch s q pg w) := by
  unfold State.setLatch
  refine Moves.seq ?_ (Moves.upd_acc _ _) (Foot.sub0 (by decide +kernel))
  exact Moves.refl _

def Foot.mdataUe : Foot := ⟨[], [], [.fresh, .acc]⟩

theorem State.mdataUe_moves (s : State) (q : Requester) (h : Nat) :
    Moves (Foot.mdataUe.at [(458816 + 65536 * (h % 2), 458816 + 65536 * (h % 2)),
      (4096 * ((458752 + 65536 * (h % 2)) / 4096) + 16, 4096 * ((458752 + 65536 * (h % 2)) / 4096) + 16)]) s ((State.mdataUe s q h)).2
      := by
  unfold State.mdataUe
  refine Moves.seq ?_ (State.mdataNext_moves ..) (Foot.sub1 (by decide +kernel) (Foot.holds_same (.head _)))
  refine Moves.seq ?_ (State.used_moves ..) (Foot.sub0 (by decide +kernel))
  refine Moves.seq ?_ (State.setLatch_moves ..) (Foot.sub0 (by decide +kernel))
  refine Moves.seq ?_ (State.raise_moves ..) (Foot.sub1 (by decide +kernel) (Foot.holds_same (.tail _ (.head _))))
  refine Moves.seq ?_ (State.used_moves ..) (Foot.sub0 (by decide +kernel))
  exact Moves.refl _

def Foot.mdataRead : Foot := ⟨[], [], [.acc]⟩

theorem State.mdataRead_moves (s : State) (q : Requester) (h : Nat) :
    Moves (Foot.mdataRead.at [(458816 + 65536 * (h % 2), 458816 + 65536 * (h % 2))]) s ((State.mdataRead s q h)).2 := by
  unfold State.mdataRead
  extract_lets -merge -underBinder +onlyGivenNames x1
  subst x1
  extract_lets -merge -underBinder +onlyGivenNames x2
  subst x2
  refine Moves.seq ?_ (State.mdataNext_moves ..) (Foot.sub1 (by decide +kernel) (Foot.holds_same (.head _)))
  refine Moves.seq ?_ (State.setLatch_moves ..) (Foot.sub0 (by decide +kernel))
  exact Moves.refl _

def Foot.mdataReadHi : Foot := ⟨[], [], [.acc]⟩

theorem State.mdataReadHi_moves (s : State) (q : Requester) (h : Nat) :
    Moves (Foot.mdataReadHi.at []) s ((State.mdataReadHi s q h)).2 := by
  unfold State.mdataReadHi
  split
  · refine Moves.ite_snd (fun hc => ?_) (fun hc => ?_)
    · refine Moves.seq ?_ (State.setLatch_moves ..) (Foot.sub0 (by decide +kernel))
      exact Moves.refl _
    · exact Moves.refl _
  · exact Moves.refl _

def Foot.mdataAccess : Foot :=
  ⟨[(0x006048, 0x006048), (0x071074, 0x088074), (0x0B0010, 0x0B0010), (0x0B0048, 0x0B004C)], [], [.mem,
    .out, .evq, .fresh, .acc, .cans]⟩

theorem State.mdataAccess_moves (s : State) (q : Requester) (h : Nat) (write : Bool) (hi : Word) (lo : Word) (ue : Bool) :
    Moves (Foot.mdataAccess.at [(4096 * (pageOf (458820 + 65536 * (h % 2)) / 4096) + 36, 4096 * (pageOf (458820 + 65536 * (h % 2)) /
      4096) + 36), (4096 * (pageOf (458820 + 65536 * (h % 2)) / 4096) + 16, 4096 * (pageOf (458820 + 65536 * (h % 2)) / 4096) + 16),
      (4096 * (pageOf (458824 + 65536 * (h % 2)) / 4096) + 36, 4096 * (pageOf (458824 + 65536 * (h % 2)) / 4096) + 36),
      (4096 * (pageOf (458824 + 65536 * (h % 2)) / 4096) + 16, 4096 * (pageOf (458824 + 65536 * (h % 2)) / 4096) + 16),
      (458816 + 65536 * (h % 2), 458816 + 65536 * (h % 2)),
      (4096 * ((458752 + 65536 * (h % 2)) / 4096) + 16, 4096 * ((458752 + 65536 * (h % 2)) / 4096) + 16)]) s (State.mdataAccess s q h
      write hi lo ue) := by
  unfold State.mdataAccess
  refine Moves.ite (fun hc => ?_) (fun hc => ?_)
  · refine State.carryPair_moves ?_ (Foot.sub_at (by decide +kernel) (Foot.own_cons (Foot.holds_same (.head _)) (Foot.own_cons (Foot.holds_same (.tail _ (.head _))) (Foot.own_cons (Foot.holds_same (.tail _ (.tail _ (.head _)))) (Foot.own_cons (Foot.holds_same (.tail _ (.tail _ (.tail _ (.head _))))) Foot.own_nil))))) (fun x1 h1 => ?_)
    · exact Moves.refl _
    · refine Moves.seq ?_ (State.mdataWrite_moves ..) (Foot.sub1 (by decide +kernel) (Foot.holds_same (.tail _ (.tail _ (.tail _ (.tail _ (.head _)))))))
      exact h1
  · refine State.carryRead_moves ?_ (Foot.sub1 (by decide +kernel) (Foot.holds_same (.tail _ (.tail _ (.head _))))) (fun x3 h3 => ?_)
    · refine State.carryRead_moves ?_ (Foot.sub1 (by decide +kernel) (Foot.holds_same (.head _))) (fun x2 h2 => ?_)
      · exact Moves.refl _
      · refine Moves.ite_snd (fun hc => ?_) (fun hc => ?_)
        · refine Moves.seq ?_ (State.mdataUe_moves ..) (Foot.sub_at (by decide +kernel) (Foot.own_cons (Foot.holds_same (.tail _ (.tail _ (.tail _ (.tail _ (.head _)))))) (Foot.own_cons (Foot.holds_same (.tail _ (.tail _ (.tail _ (.tail _ (.tail _ (.head _))))))) Foot.own_nil)))
          exact h2
        · refine Moves.seq ?_ (State.mdataRead_moves ..) (Foot.sub1 (by decide +kernel) (Foot.holds_same (.tail _ (.tail _ (.tail _ (.tail _ (.head _)))))))
          exact h2
    · refine Moves.seq ?_ (State.mdataReadHi_moves ..) (Foot.sub0 (by decide +kernel))
      exact h3

def Foot.retireTested : Foot := ⟨[(0x032054, 0x032054), (0x0F2010, 0x0F2010), (0x0F2048, 0x0F2048)], [], [.evq, .pwr]⟩

theorem State.retireTested_moves (s : State) (m : Nat) : Moves (Foot.retireTested.at []) s (State.retireTested s m) := by
  unfold State.retireTested
  extract_lets -merge -underBinder +onlyGivenNames x1
  refine Moves.let_ x1 ?_ ?_
  · subst x1
    refine Moves.seq ?_ (State.repairAdd_moves ..) (Foot.sub0 (by decide +kernel))
    exact Moves.refl _
  intro h1
  try clear_value x1
  extract_lets -merge -underBinder +onlyGivenNames x2
  refine Moves.let_ x2 ?_ ?_
  · subst x2
    refine Moves.ite (fun hc => ?_) (fun hc => ?_)
    · refine Moves.seq ?_ (State.wr_moves _ _ (by decide)) (Foot.sub1 (by decide +kernel) (Foot.holds_reg (by decide +kernel)))
      exact h1
    · exact h1
  intro h2
  try clear_value x2
  refine Moves.seq ?_ (State.post_moves ..) (Foot.sub0 (by decide +kernel))
  refine Moves.seq ?_ (State.raise_moves ..) (Foot.sub1 (by decide +kernel) (Foot.holds_reg (by decide +kernel)))
  exact h2

def Foot.unrepairable : Foot := ⟨[(0x0F2010, 0x0F2010), (0x0F2048, 0x0F2048)], [], [.evq, .hlt, .pwr]⟩

theorem State.unrepairable_moves (s : State) (m : Nat) (row : Nat) :
    Moves (Foot.unrepairable.at []) s (State.unrepairable s m row) := by
  unfold State.unrepairable
  extract_lets -merge -underBinder +onlyGivenNames x1
  refine Moves.let_ x1 ?_ ?_
  · subst x1
    refine Moves.seq ?_ (State.modHlt_moves ..) (Foot.sub0 (by decide +kernel))
    refine Moves.seq ?_ (State.repairAdd_moves ..) (Foot.sub0 (by decide +kernel))
    exact Moves.refl _
  intro h1
  try clear_value x1
  refine Moves.seq ?_ (State.post_moves ..) (Foot.sub0 (by decide +kernel))
  refine Moves.seq ?_ (State.raise_moves ..) (Foot.sub1 (by decide +kernel) (Foot.holds_reg (by decide +kernel)))
  exact h1

def Foot.memTested : Foot := ⟨[(0x032054, 0x032054), (0x0F2010, 0x0F2010), (0x0F2048, 0x0F2048)], [], [.evq, .hlt, .pwr]⟩

theorem State.memTested_moves (s : State) (rounds : List (List FailCell)) (m : Nat) :
    Moves (Foot.memTested.at []) s ((State.memTested s rounds m)).1 := by
  unfold State.memTested
  extract_lets -merge -underBinder +onlyGivenNames x1
  subst x1
  extract_lets -merge -underBinder +onlyGivenNames x2
  subst x2
  extract_lets -merge -underBinder +onlyGivenNames x3
  subst x3
  extract_lets -merge -underBinder +onlyGivenNames x4
  refine Moves.let_ x4 ?_ ?_
  · subst x4
    try dsimp -zeta only
    refine Moves.seq ?_ (State.modHlt_moves ..) (Foot.sub0 (by decide +kernel))
    refine Moves.seq ?_ (State.analyses_moves ..) (Foot.sub0 (by decide +kernel))
    exact Moves.refl _
  intro h4
  try clear_value x4
  split
  · extract_lets -merge -underBinder +onlyGivenNames x5
    refine Moves.let_ x5 ?_ ?_
    · subst x5
      try dsimp -zeta only
      refine Moves.seq ?_ (State.modHlt_moves ..) (Foot.sub0 (by decide +kernel))
      refine Moves.seq ?_ (State.repairDrop_moves ..) (Foot.sub0 (by decide +kernel))
      exact h4
    intro h5
    try clear_value x5
    exact h5
  · refine Moves.ite_fst (fun hc => ?_) (fun hc => ?_)
    · extract_lets -merge -underBinder +onlyGivenNames x6
      refine Moves.let_ x6 ?_ ?_
      · subst x6
        refine Moves.seq ?_ (State.retireTested_moves ..) (Foot.sub0 (by decide +kernel))
        exact h4
      intro h6
      try clear_value x6
      try dsimp -zeta only
      refine Moves.seq ?_ (State.modHlt_moves ..) (Foot.sub0 (by decide +kernel))
      exact h6
    · refine Moves.seq ?_ (State.unrepairable_moves ..) (Foot.sub0 (by decide +kernel))
      exact h4

def Foot.memsTested : Foot := ⟨[(0x032054, 0x032054), (0x0F2010, 0x0F2010), (0x0F2048, 0x0F2048)], [], [.evq, .hlt, .pwr]⟩

theorem State.memsTested_moves (s : State) (rounds : List (List FailCell)) (l : List Nat) :
    Moves (Foot.memsTested.at []) s (s.memsTested rounds l).1 := by
  induction l generalizing s with
  | nil => exact Moves.refl _
  | cons m ms ih =>
    simp only [State.memsTested]
    exact Moves.seq (Moves.widen (State.memTested_moves ..) (Foot.sub0 (by decide +kernel))) (ih _) Foot.sub_self

def Foot.wakeUp : Foot :=
  ⟨[(0x000040, 0x000040), (0x00004C, 0x00004C), (0x000054, 0x000054), (0x003010, 0x003010), (0x003040,
    0x003040), (0x003050, 0x003050), (0x003068, 0x00306C)], [], [.wake, .pwr]⟩

theorem State.wakeUp_moves (s : State) : Moves (Foot.wakeUp.at []) s (State.wakeUp s) := by
  unfold State.wakeUp
  extract_lets -merge -underBinder +onlyGivenNames x1
  subst x1
  extract_lets -merge -underBinder +onlyGivenNames x2
  subst x2
  split
  · exact Moves.refl _
  · extract_lets -merge -underBinder +onlyGivenNames x3
    refine Moves.let_ x3 ?_ ?_
    · subst x3
      refine Moves.seq ?_ (State.wr_moves _ _ (by decide)) (Foot.sub1 (by decide +kernel) (Foot.holds_reg (by decide +kernel)))
      exact Moves.refl _
    intro h3
    try clear_value x3
    extract_lets -merge -underBinder +onlyGivenNames x4
    refine Moves.let_ x4 ?_ ?_
    · subst x4
      refine Moves.seq ?_ (State.raise_moves ..) (Foot.sub1 (by decide +kernel) (Foot.holds_reg (by decide +kernel)))
      refine Moves.seq ?_ (State.satInc_moves _ _ (by decide)) (Foot.sub1 (by decide +kernel) (Foot.holds_reg (by decide +kernel)))
      exact h3
    intro h4
    try clear_value x4
    extract_lets -merge -underBinder +onlyGivenNames x5
    subst x5
    extract_lets -merge -underBinder +onlyGivenNames x6
    subst x6
    extract_lets -merge -underBinder +onlyGivenNames x7
    refine Moves.let_ x7 ?_ ?_
    · subst x7
      refine Moves.seq ?_ (State.modWake_moves ..) (Foot.sub0 (by decide +kernel))
      refine Moves.seq ?_ (State.endDusk_moves ..) (Foot.sub0 (by decide +kernel))
      exact h4
    intro h7
    try clear_value x7
    refine Moves.seq ?_ (State.startBegin_moves ..) (Foot.sub0 (by decide +kernel))
    exact h7

def Foot.tryWake : Foot :=
  ⟨[(0x000040, 0x000040), (0x00004C, 0x00004C), (0x000054, 0x000054), (0x003010, 0x003010), (0x003040,
    0x003040), (0x003050, 0x003050), (0x003068, 0x00306C)], [], [.wake, .pwr]⟩

theorem State.tryWake_moves (s : State) : Moves (Foot.tryWake.at []) s (State.tryWake s) := by
  unfold State.tryWake
  refine Moves.ite (fun hc => ?_) (fun hc => ?_)
  · refine Moves.seq ?_ (State.wakeUp_moves ..) (Foot.sub0 (by decide +kernel))
    exact Moves.refl _
  · exact Moves.refl _

def Foot.minDarkEnd : Foot :=
  ⟨[(0x000040, 0x000040), (0x00004C, 0x00004C), (0x000054, 0x000054), (0x00109C, 0x0010A0), (0x002040,
    0x002114), (0x003010, 0x003010), (0x003040, 0x003040), (0x003050, 0x003050), (0x003064, 0x00306C), (0x005040, 0x005040), (0x011010,
    0x011010), (0x011040, 0x011048), (0x012010, 0x012010), (0x012040, 0x012048), (0x013058, 0x013058), (0x021010, 0x021010), (0x021040,
    0x021048), (0x022010, 0x022010), (0x022040, 0x022048), (0x023058, 0x023058), (0x060010, 0x060010), (0x060044, 0x060044), (0x070000,
    0x07FFFF), (0x080000, 0x08FFFF), (0x090010, 0x090010), (0x090058, 0x090064), (0x091010, 0x091010), (0x091050, 0x091058), (0x093060,
    0x093060), (0x0A0040, 0x0A0040), (0x0C1048, 0x0C10B8), (0x0C1100, 0x0C1100), (0x0F1044, 0x0F1044), (0x100010, 0x100010), (0x100064,
    0x100064)], [], [.mem, .out, .evq, .evqCut, .evtCut, .acc, .lines, .ports, .top, .beam, .fab, .tim, .cans, .wake, .twn, .hlt, .sgw,
    .psc, .recorder, .pwr, .mgt]⟩

theorem State.minDarkEnd_moves (s : State) : Moves (Foot.minDarkEnd.at []) s (State.minDarkEnd s) := by
  unfold State.minDarkEnd
  refine Moves.ite (fun hc => ?_) (fun hc => ?_)
  · extract_lets -merge -underBinder +onlyGivenNames x1
    refine Moves.let_ x1 ?_ ?_
    · subst x1
      refine Moves.seq ?_ (State.endDusk_moves ..) (Foot.sub0 (by decide +kernel))
      refine Moves.seq ?_ (State.relayDawn_moves ..) (Foot.sub0 (by decide +kernel))
      refine Moves.seq ?_ (State.modWake_moves ..) (Foot.sub0 (by decide +kernel))
      exact Moves.refl _
    intro h1
    try clear_value x1
    extract_lets -merge -underBinder +onlyGivenNames x2
    refine Moves.let_ x2 ?_ ?_
    · subst x2
      refine Moves.seq ?_ (State.modPwr_moves ..) (Foot.sub0 (by decide +kernel))
      exact h1
    intro h2
    try clear_value x2
    refine Moves.seq ?_ (State.powerDo_moves ..) (Foot.sub_at (by decide +kernel) (Foot.own_cons (Foot.holds_reg (by decide +kernel)) (Foot.own_cons (Foot.holds_reg (by decide +kernel)) (Foot.own_cons (Foot.holds_reg (by decide +kernel)) Foot.own_nil))))
    refine Moves.seq ?_ (State.powerDo_moves ..) (Foot.sub_at (by decide +kernel) (Foot.own_cons (Foot.holds_reg (by decide +kernel)) (Foot.own_cons (Foot.holds_reg (by decide +kernel)) (Foot.own_cons (Foot.holds_reg (by decide +kernel)) Foot.own_nil))))
    exact h2
  · refine Moves.ite (fun hc => ?_) (fun hc => ?_)
    · refine Moves.seq ?_ (State.tryWake_moves ..) (Foot.sub0 (by decide +kernel))
      refine Moves.seq ?_ (State.modWake_moves ..) (Foot.sub0 (by decide +kernel))
      exact Moves.refl _
    · exact Moves.refl _

def Foot.mirrorLantern : Foot :=
  ⟨[(0x003010, 0x003010), (0x003040, 0x003040), (0x003050, 0x003050), (0x00306C, 0x00306C), (0x005040,
    0x005040), (0x010010, 0x010010), (0x010048, 0x010048), (0x011010, 0x011010), (0x011040, 0x011048), (0x012010, 0x012010), (0x012040,
    0x012048), (0x013010, 0x013010), (0x013040, 0x013040), (0x013048, 0x013058), (0x020010, 0x020010), (0x020048, 0x020048), (0x021010,
    0x021010), (0x021040, 0x021048), (0x022010, 0x022010), (0x022040, 0x022048), (0x023010, 0x023010), (0x023040, 0x023040), (0x023048,
    0x023058), (0x060010, 0x060010), (0x060044, 0x060044), (0x090010, 0x090010), (0x090058, 0x090064), (0x091010, 0x091010), (0x091050,
    0x091058), (0x093060, 0x093060), (0x0A0010, 0x0A0010), (0x0A0040, 0x0A0040), (0x0A0050, 0x0A0058), (0x0A0060, 0x0A0060), (0x0A2044,
    0x0A2044), (0x100010, 0x100010), (0x100064, 0x100064)], [], [.out, .evq, .lines, .ports, .beam, .fab, .tim, .wake, .twn]⟩

theorem State.mirrorLantern_moves (s : State) (payload : List Byte) :
    Moves (Foot.mirrorLantern.at []) s (State.mirrorLantern s payload) := by
  unfold State.mirrorLantern
  refine Moves.ite (fun hc => ?_) (fun hc => ?_)
  · exact Moves.refl _
  · refine Moves.ite (fun hc => ?_) (fun hc => ?_)
    · refine Moves.seq ?_ (State.raise_moves ..) (Foot.sub1 (by decide +kernel) (Foot.holds_reg (by decide +kernel)))
      exact Moves.refl _
    · extract_lets -merge -underBinder +onlyGivenNames x1
      subst x1
      extract_lets -merge -underBinder +onlyGivenNames x2
      refine Moves.let_ x2 ?_ ?_
      · subst x2
        refine Moves.seq ?_ (State.modTwn_moves ..) (Foot.sub0 (by decide +kernel))
        exact Moves.refl _
      intro h2
      try clear_value x2
      extract_lets -merge -underBinder +onlyGivenNames x3
      refine Moves.let_ x3 ?_ ?_
      · subst x3
        refine Moves.seq ?_ (State.wr_moves _ _ (by decide)) (Foot.sub1 (by decide +kernel) (Foot.holds_reg (by decide +kernel)))
        refine Moves.seq ?_ (State.wr_moves _ _ (by decide)) (Foot.sub1 (by decide +kernel) (Foot.holds_reg (by decide +kernel)))
        exact h2
      intro h3
      try clear_value x3
      extract_lets -merge -underBinder +onlyGivenNames x4
      refine Moves.let_ x4 ?_ ?_
      · subst x4
        refine Moves.seq ?_ (State.twnView_moves ..) (Foot.sub0 (by decide +kernel))
        refine Moves.seq ?_ (State.putB_moves _ _ _ (by decide)) (Foot.sub1 (by decide +kernel) (Foot.holds_reg (by decide +kernel)))
        exact h3
      intro h4
      try clear_value x4
      extract_lets -merge -underBinder +onlyGivenNames x5
      refine Moves.let_ x5 ?_ ?_
      · subst x5
        refine Moves.ite (fun hc => ?_) (fun hc => ?_)
        · refine Moves.ite (fun hc => ?_) (fun hc => ?_)
          · exact h4
          · refine Moves.seq ?_ (State.modTwn_moves ..) (Foot.sub0 (by decide +kernel))
            refine Moves.seq ?_ (State.put_moves _ _ _ (by decide)) (Foot.sub1 (by decide +kernel) (Foot.holds_reg (by decide +kernel)))
            exact h4
        · exact h4
      intro h5
      try clear_value x5
      extract_lets -merge -underBinder +onlyGivenNames x6
      refine Moves.let_ x6 ?_ ?_
      · subst x6
        split
        · refine Moves.ite (fun hc => ?_) (fun hc => ?_)
          · refine Moves.seq ?_ (State.modTwn_moves ..) (Foot.sub0 (by decide +kernel))
            exact h5
          · exact h5
        · exact h5
      intro h6
      try clear_value x6
      refine Moves.seq ?_ (State.askBase_moves ..) (Foot.sub0 (by decide +kernel))
      refine Moves.seq ?_ (State.heedLantern_moves ..) (Foot.sub0 (by decide +kernel))
      exact h6

def Foot.mirrorSilent : Foot :=
  ⟨[(0x003010, 0x003010), (0x003040, 0x003040), (0x003050, 0x003050), (0x00306C, 0x00306C), (0x005040,
    0x005040), (0x010010, 0x010010), (0x010048, 0x010048), (0x011010, 0x011010), (0x011040, 0x011048), (0x012010, 0x012010), (0x012040,
    0x012048), (0x013010, 0x013010), (0x013040, 0x013040), (0x013048, 0x013058), (0x020010, 0x020010), (0x020048, 0x020048), (0x021010,
    0x021010), (0x021040, 0x021048), (0x022010, 0x022010), (0x022040, 0x022048), (0x023010, 0x023010), (0x023040, 0x023040), (0x023048,
    0x023058), (0x060010, 0x060010), (0x060044, 0x060044), (0x090010, 0x090010), (0x090058, 0x090064), (0x091010, 0x091010), (0x091050,
    0x091058), (0x093060, 0x093060), (0x0A0010, 0x0A0010), (0x0A0040, 0x0A0040), (0x0A004C, 0x0A004C), (0x0A005C, 0x0A0060), (0x0A2044,
    0x0A2044), (0x100010, 0x100010), (0x100064, 0x100064)], [], [.out, .evq, .lines, .ports, .beam, .fab, .tim, .wake, .twn, .hlt]⟩

theorem State.mirrorSilent_moves (s : State) (low : Bool) : Moves (Foot.mirrorSilent.at []) s (State.mirrorSilent s low) := by
  unfold State.mirrorSilent
  refine Moves.ite (fun hc => ?_) (fun hc => ?_)
  · exact Moves.refl _
  · refine Moves.seq ?_ (State.judge_moves ..) (Foot.sub0 (by decide +kernel))
    refine Moves.seq ?_ (State.twnView_moves ..) (Foot.sub0 (by decide +kernel))
    refine Moves.seq ?_ (State.putB_moves _ _ _ (by decide)) (Foot.sub1 (by decide +kernel) (Foot.holds_reg (by decide +kernel)))
    exact Moves.refl _

def Foot.recipeSent : Foot := ⟨[], [], [.sgw]⟩

theorem State.recipeSent_moves (s : State) (i : Nat) (data : List Byte) :
    Moves (Foot.recipeSent.at []) s (State.recipeSent s i data) := by
  unfold State.recipeSent
  refine Moves.seq ?_ (State.modSgw_moves ..) (Foot.sub0 (by decide +kernel))
  exact Moves.refl _

def Foot.muteRecipe : Foot := ⟨[], [], [.twn, .sgw]⟩

theorem State.muteRecipe_moves (s : State) (i : Nat) : Moves (Foot.muteRecipe.at []) s (State.muteRecipe s i) := by
  unfold State.muteRecipe
  extract_lets -merge -underBinder +onlyGivenNames x1
  subst x1
  refine Moves.ite (fun hc => ?_) (fun hc => ?_)
  · exact Moves.refl _
  · refine Moves.seq ?_ (State.recipeSent_moves ..) (Foot.sub0 (by decide +kernel))
    refine Moves.seq ?_ (State.handOver_moves ..) (Foot.sub0 (by decide +kernel))
    exact Moves.refl _

def Foot.nresetIn : Foot :=
  ⟨[], [], [.mem, .out, .evq, .evqCut, .evtCut, .allRegs, .acc, .lines, .ports, .top, .beam, .fab, .tim,
    .cans, .twn, .hlt, .sgw, .psc, .recorder, .pwr, .mgt]⟩

theorem State.nresetIn_moves (s : State) : Moves (Foot.nresetIn.at []) s (State.nresetIn s) := by
  unfold State.nresetIn
  refine Moves.ite (fun hc => ?_) (fun hc => ?_)
  · exact Moves.refl _
  · refine Moves.seq ?_ (State.moduleReset_moves ..) (Foot.sub0 (by decide +kernel))
    refine Moves.seq ?_ (State.modPwr_moves ..) (Foot.sub0 (by decide +kernel))
    exact Moves.refl _

def Foot.retarget : Foot := ⟨[(0x031010, 0x031010), (0x031090, 0x031090)], [], [.mem, .evq, .fab]⟩

theorem State.retarget_moves (s : State) : Moves (Foot.retarget.at []) s (State.retarget s) := by
  unfold State.retarget
  refine Moves.foldl _ (fun x1 _ h1 => ?_) _ ?_
  · extract_lets -merge -underBinder +onlyGivenNames x2
    refine Moves.let_ x2 ?_ ?_
    · subst x2
      refine Moves.seq ?_ (State.setStat_moves ..) (Foot.sub0 (by decide +kernel))
      refine Moves.seq ?_ (State.writeTargets_moves ..) (Foot.sub0 (by decide +kernel))
      exact h1
    intro h2
    try clear_value x2
    extract_lets -merge -underBinder +onlyGivenNames x3
    subst x3
    refine Moves.seq ?_ (State.giveKeys_moves ..) (Foot.sub0 (by decide +kernel))
    refine Moves.seq ?_ (State.setStat_moves ..) (Foot.sub0 (by decide +kernel))
    exact h2
  · exact Moves.refl _

def Foot.prepareShadow : Foot := ⟨[(0x031010, 0x031010), (0x031090, 0x031090), (0x100010, 0x100010)], [], [.mem, .evq, .top, .beam, .fab]⟩

theorem State.prepareShadow_moves (s : State) (nodes : Nat) : Moves (Foot.prepareShadow.at []) s (State.prepareShadow s nodes) := by
  unfold State.prepareShadow
  extract_lets -merge -underBinder +onlyGivenNames x1
  refine Moves.let_ x1 ?_ ?_
  · subst x1
    refine Moves.seq ?_ (State.bindShadow_moves ..) (Foot.sub0 (by decide +kernel))
    exact Moves.refl _
  intro h1
  try clear_value x1
  extract_lets -merge -underBinder +onlyGivenNames x2
  refine Moves.let_ x2 ?_ ?_
  · subst x2
    refine Moves.ite (fun hc => ?_) (fun hc => ?_)
    · refine Moves.seq ?_ (State.retarget_moves ..) (Foot.sub0 (by decide +kernel))
      exact h1
    · exact h1
  intro h2
  try clear_value x2
  refine Moves.seq ?_ (Moves.upd_beam _ _) (Foot.sub0 (by decide +kernel))
  exact h2

def Foot.storeShadow : Foot := ⟨[], [], [.mem, .top]⟩

theorem State.storeShadow_moves (s : State) (entries : List (List Byte)) (n : Numbering) :
    Moves (Foot.storeShadow.at []) s (State.storeShadow s entries n) := by
  unfold State.storeShadow
  extract_lets -merge -underBinder +onlyGivenNames x1
  refine Moves.let_ x1 ?_ ?_
  · subst x1
    refine Moves.seq ?_ (State.clearMem_moves ..) (Foot.sub0 (by decide +kernel))
    exact Moves.refl _
  intro h1
  try clear_value x1
  extract_lets -merge -underBinder +onlyGivenNames x2
  refine Moves.let_ x2 ?_ ?_
  · subst x2
    refine Moves.seq ?_ (State.wrBytes_moves ..) (Foot.sub0 (by decide +kernel))
    exact h1
  intro h2
  try clear_value x2
  refine Moves.seq ?_ (Moves.upd_top _ _) (Foot.sub0 (by decide +kernel))
  exact h2

def Foot.recordFlags : Foot := ⟨[], [], [.evq]⟩

theorem State.recordFlags_moves (s : State) : Moves (Foot.recordFlags.at []) s (State.recordFlags s) := by
  unfold State.recordFlags
  refine Moves.ite (fun hc => ?_) (fun hc => ?_)
  · exact Moves.refl _
  · refine Moves.seq ?_ (State.postFlags_moves ..) (Foot.sub0 (by decide +kernel))
    exact Moves.refl _

def Foot.sendReady : Foot := ⟨[], [], [.out, .beam]⟩

theorem State.sendReady_moves (s : State) (fwd : Bool) : Moves (Foot.sendReady.at []) s (State.sendReady s fwd) := by
  unfold State.sendReady
  extract_lets -merge -underBinder +onlyGivenNames x1
  subst x1
  simp -zeta only [List.foldl_cons, List.foldl_nil]
  extract_lets -merge -underBinder +onlyGivenNames x2
  subst x2
  extract_lets -merge -underBinder +onlyGivenNames x3
  subst x3
  extract_lets -merge -underBinder +onlyGivenNames x4
  subst x4
  extract_lets -merge -underBinder +onlyGivenNames x5
  refine Moves.let_ x5 ?_ ?_
  · subst x5
    refine Moves.seq ?_ (State.send_moves ..) (Foot.sub0 (by decide +kernel))
    refine Moves.ite (fun hc => ?_) (fun hc => ?_)
    · refine Moves.seq ?_ (State.toCtl_moves ..) (Foot.sub0 (by decide +kernel))
      refine Moves.seq ?_ (State.send_moves ..) (Foot.sub0 (by decide +kernel))
      exact Moves.refl _
    · refine Moves.seq ?_ (State.send_moves ..) (Foot.sub0 (by decide +kernel))
      exact Moves.refl _
  intro h5
  try clear_value x5
  refine Moves.ite (fun hc => ?_) (fun hc => ?_)
  · refine Moves.seq ?_ (State.toCtl_moves ..) (Foot.sub0 (by decide +kernel))
    exact h5
  · exact h5

def Foot.numbering : Foot :=
  ⟨[(0x010010, 0x010010), (0x010048, 0x010048), (0x013010, 0x013010), (0x013040, 0x013040), (0x013048,
    0x013054), (0x020010, 0x020010), (0x020048, 0x020048), (0x023010, 0x023010), (0x023040, 0x023040), (0x023048, 0x023054), (0x031010,
    0x031010), (0x031090, 0x031090), (0x090010, 0x090010), (0x090058, 0x090064), (0x091010, 0x091010), (0x091050, 0x091058), (0x093060,
    0x093060), (0x100010, 0x100010), (0x100040, 0x100054), (0x100060, 0x10006C), (0x100074, 0x100078), (0x103010, 0x103010), (0x103048,
    0x103048), (0x103050, 0x10305C), (0x103074, 0x103074)], [], [.mem, .out, .evq, .top, .beam, .fab, .tim]⟩

theorem State.numbering_moves (s : State) : Moves (Foot.numbering.at []) s (State.numbering s) := by
  unfold State.numbering
  refine Moves.ite (fun hc => ?_) (fun hc => ?_)
  · exact Moves.refl _
  · extract_lets -merge -underBinder +onlyGivenNames x1
    subst x1
    refine Moves.ite (fun hc => ?_) (fun hc => ?_)
    · refine Moves.seq ?_ (State.endAttempt_moves ..) (Foot.sub0 (by decide +kernel))
      refine Moves.seq ?_ (State.postFlags_moves ..) (Foot.sub0 (by decide +kernel))
      refine Moves.seq ?_ (State.raise_moves ..) (Foot.sub1 (by decide +kernel) (Foot.holds_reg (by decide +kernel)))
      refine Moves.seq ?_ (State.flag_moves ..) (Foot.sub0 (by decide +kernel))
      exact Moves.refl _
    · extract_lets -merge -underBinder +onlyGivenNames x2
      subst x2
      extract_lets -merge -underBinder +onlyGivenNames x3
      subst x3
      extract_lets -merge -underBinder +onlyGivenNames x4
      subst x4
      extract_lets -merge -underBinder +onlyGivenNames x5
      subst x5
      extract_lets -merge -underBinder +onlyGivenNames x6
      refine Moves.let_ x6 ?_ ?_
      · subst x6
        refine Moves.seq ?_ (State.flagIf_moves ..) (Foot.sub0 (by decide +kernel))
        exact Moves.refl _
      intro h6
      try clear_value x6
      extract_lets -merge -underBinder +onlyGivenNames x7
      refine Moves.let_ x7 ?_ ?_
      · subst x7
        refine Moves.seq ?_ (State.flagIf_moves ..) (Foot.sub0 (by decide +kernel))
        exact h6
      intro h7
      try clear_value x7
      extract_lets -merge -underBinder +onlyGivenNames x8
      refine Moves.let_ x8 ?_ ?_
      · subst x8
        refine Moves.seq ?_ (State.flagIf_moves ..) (Foot.sub0 (by decide +kernel))
        exact h7
      intro h8
      try clear_value x8
      extract_lets -merge -underBinder +onlyGivenNames x9
      refine Moves.let_ x9 ?_ ?_
      · subst x9
        refine Moves.seq ?_ (State.flagIf_moves ..) (Foot.sub0 (by decide +kernel))
        exact h8
      intro h9
      try clear_value x9
      extract_lets -merge -underBinder +onlyGivenNames x10
      refine Moves.let_ x10 ?_ ?_
      · subst x10
        refine Moves.seq ?_ (State.flagIf_moves ..) (Foot.sub0 (by decide +kernel))
        exact h9
      intro h10
      try clear_value x10
      extract_lets -merge -underBinder +onlyGivenNames x11
      subst x11
      extract_lets -merge -underBinder +onlyGivenNames x12
      subst x12
      extract_lets -merge -underBinder +onlyGivenNames x13
      subst x13
      extract_lets -merge -underBinder +onlyGivenNames x14
      subst x14
      extract_lets -merge -underBinder +onlyGivenNames x15
      refine Moves.let_ x15 ?_ ?_
      · subst x15
        refine Moves.seq ?_ (State.put_moves _ _ _ (by decide)) (Foot.sub1 (by decide +kernel) (Foot.holds_reg (by decide +kernel)))
        refine Moves.seq ?_ (State.prepareShadow_moves ..) (Foot.sub0 (by decide +kernel))
        refine Moves.seq ?_ (State.storeShadow_moves ..) (Foot.sub0 (by decide +kernel))
        exact h10
      intro h15
      try clear_value x15
      extract_lets -merge -underBinder +onlyGivenNames x16
      refine Moves.let_ x16 ?_ ?_
      · subst x16
        refine Moves.seq ?_ (State.recordFlags_moves ..) (Foot.sub0 (by decide +kernel))
        exact h15
      intro h16
      try clear_value x16
      extract_lets -merge -underBinder +onlyGivenNames x17
      refine Moves.let_ x17 ?_ ?_
      · subst x17
        refine Moves.ite (fun hc => ?_) (fun hc => ?_)
        · refine Moves.seq ?_ (State.sendReady_moves ..) (Foot.sub0 (by decide +kernel))
          exact h16
        · exact h16
      intro h17
      try clear_value x17
      split
      · refine Moves.ite (fun hc => ?_) (fun hc => ?_)
        · refine Moves.seq ?_ (State.flip_moves ..) (Foot.sub0 (by decide +kernel))
          refine Moves.seq ?_ (State.actOn_moves ..) (Foot.sub0 (by decide +kernel))
          exact h17
        · refine Moves.seq ?_ (State.actOn_moves ..) (Foot.sub0 (by decide +kernel))
          exact h17
      · exact h17

def Foot.openingComplete : Foot :=
  ⟨[(0x005040, 0x005040), (0x011040, 0x011040), (0x012040, 0x012040), (0x021040, 0x021040),
    (0x022040, 0x022040)], [], [.evq, .lines, .ports, .beam]⟩

theorem State.openingComplete_moves (s : State) (l : Line) :
    Moves (Foot.openingComplete.at [(65608 + 65536 * (l.idx % 2), 65608 + 65536 * (l.idx % 2)),
      (4096 * ((65536 + 65536 * (l.idx % 2)) / 4096) + 16, 4096 * ((65536 + 65536 * (l.idx % 2)) / 4096) + 16),
      (65612 + 65536 * (l.idx % 2), 65612 + 65536 * (l.idx % 2)),
      (77904 + 65536 * ((l.port true).line.idx % 2), 77904 + 65536 * ((l.port true).line.idx % 2)),
      (77908 + 65536 * ((l.port true).line.idx % 2), 77908 + 65536 * ((l.port true).line.idx % 2)),
      (77896 + 65536 * ((l.port true).line.idx % 2), 77896 + 65536 * ((l.port true).line.idx % 2)),
      (77900 + 65536 * ((l.port true).line.idx % 2), 77900 + 65536 * ((l.port true).line.idx % 2)),
      (77904 + 65536 * ((l.port false).line.idx % 2), 77904 + 65536 * ((l.port false).line.idx % 2)),
      (77908 + 65536 * ((l.port false).line.idx % 2), 77908 + 65536 * ((l.port false).line.idx % 2)),
      (77896 + 65536 * ((l.port false).line.idx % 2), 77896 + 65536 * ((l.port false).line.idx % 2)),
      (77900 + 65536 * ((l.port false).line.idx % 2), 77900 + 65536 * ((l.port false).line.idx % 2)),
      (77888 + 65536 * (l.idx % 2), 77888 + 65536 * (l.idx % 2)),
      (4096 * ((77824 + 65536 * (l.idx % 2)) / 4096) + 16, 4096 * ((77824 + 65536 * (l.idx % 2)) / 4096) + 16)]) s
      (State.openingComplete s l) := by
  unfold State.openingComplete
  refine Moves.ite (fun hc => ?_) (fun hc => ?_)
  · exact Moves.refl _
  · extract_lets -merge -underBinder +onlyGivenNames x1
    subst x1
    extract_lets -merge -underBinder +onlyGivenNames x2
    refine Moves.let_ x2 ?_ ?_
    · subst x2
      refine Moves.seq ?_ (State.setLine_moves ..) (Foot.sub0 (by decide +kernel))
      exact Moves.refl _
    intro h2
    try clear_value x2
    extract_lets -merge -underBinder +onlyGivenNames x3
    refine Moves.let_ x3 ?_ ?_
    · subst x3
      refine Moves.seq ?_ (State.putB_moves _ _ _ (by first | (dsimp only [F.BL_LINE_STAT_MOVING]; omega) | omega)) (Foot.sub1 (by decide +kernel) (Foot.holds_same (.head _)))
      refine Moves.seq ?_ (State.putB_moves _ _ _ (by show 20544 % 4096 ≠ 16; decide)) (Foot.sub1 (by decide +kernel) (Foot.holds_reg (lo := 20544) (hi := 20544) (by decide +kernel)))
      refine Moves.seq ?_ (State.putB_moves _ _ _ (by show 20544 % 4096 ≠ 16; decide)) (Foot.sub1 (by decide +kernel) (Foot.holds_reg (lo := 20544) (hi := 20544) (by decide +kernel)))
      exact h2
    intro h3
    try clear_value x3
    extract_lets -merge -underBinder +onlyGivenNames x4
    refine Moves.let_ x4 ?_ ?_
    · subst x4
      refine Moves.seq ?_ (State.raise_moves ..) (Foot.sub1 (by decide +kernel) (Foot.holds_same (.tail _ (.head _))))
      refine Moves.seq ?_ (State.satInc_moves _ _ (by first | (dsimp only [F.BL_LINE_CNT_OPEN_CNT]; omega) | omega)) (Foot.sub1 (by decide +kernel) (Foot.holds_same (.tail _ (.tail _ (.head _)))))
      refine Moves.seq ?_ (State.put_moves _ _ _ (by first | (dsimp only [F.BL_LINE_STAT_STATE]; omega) | omega)) (Foot.sub1 (by decide +kernel) (Foot.holds_same (.head _)))
      exact h3
    intro h4
    try clear_value x4
    extract_lets -merge -underBinder +onlyGivenNames x5
    refine Moves.let_ x5 ?_ ?_
    · subst x5
      refine Moves.foldl _ (fun x6 _ h6 => ?_) _ ?_
      · refine Moves.seq ?_ (State.put_moves _ _ _ (by first | (dsimp only [F.BL_P_STAT_TSTATE]; omega) | omega)) (Foot.sub1 (by decide +kernel) (Foot.holds_four 139328 135232 73792 69696 (by decide +kernel) (by decide +kernel) (by decide +kernel) (by decide +kernel) (by first | (dsimp only [F.BL_P_STAT_TSTATE]; omega) | omega)))
        refine Moves.seq ?_ (State.setPort_moves ..) (Foot.sub0 (by decide +kernel))
        exact h6
      · exact h4
    intro h5
    try clear_value x5
    refine Moves.seq ?_ (State.beamRefresh_moves ..) (Foot.sub_at (by decide +kernel) (Foot.own_cons (Foot.holds_same (.tail _ (.tail _ (.tail _ (.head _))))) (Foot.own_cons (Foot.holds_same (.tail _ (.tail _ (.tail _ (.tail _ (.head _)))))) (Foot.own_cons (Foot.holds_same (.tail _ (.tail _ (.tail _ (.tail _ (.tail _ (.head _))))))) (Foot.own_cons (Foot.holds_same (.tail _ (.tail _ (.tail _ (.tail _ (.tail _ (.tail _ (.head _)))))))) (Foot.own_cons (Foot.holds_same (.tail _ (.tail _ (.tail _ (.tail _ (.tail _ (.tail _ (.tail _ (.head _))))))))) (Foot.own_cons (Foot.holds_same (.tail _ (.tail _ (.tail _ (.tail _ (.tail _ (.tail _ (.tail _ (.tail _ (.head _)))))))))) (Foot.own_cons (Foot.holds_same (.tail _ (.tail _ (.tail _ (.tail _ (.tail _ (.tail _ (.tail _ (.tail _ (.tail _ (.head _))))))))))) (Foot.own_cons (Foot.holds_same (.tail _ (.tail _ (.tail _ (.tail _ (.tail _ (.tail _ (.tail _ (.tail _ (.tail _ (.tail _ (.head _)))))))))))) (Foot.own_cons (Foot.holds_same (.tail _ (.tail _ (.tail _ (.tail _ (.tail _ (.tail _ (.tail _ (.tail _ (.tail _ (.tail _ (.tail _ (.head _))))))))))))) (Foot.own_cons (Foot.holds_same (.tail _ (.tail _ (.tail _ (.tail _ (.tail _ (.tail _ (.tail _ (.tail _ (.tail _ (.tail _ (.tail _ (.tail _ (.head _)))))))))))))) Foot.own_nil)))))))))))
    refine Moves.seq ?_ (State.openingDone_moves ..) (Foot.sub0 (by decide +kernel))
    refine Moves.seq ?_ (State.post_moves ..) (Foot.sub0 (by decide +kernel))
    exact h5

def Foot.ownerKey : Foot :=
  ⟨[(0x032010, 0x032010), (0x032060, 0x03206C), (0x0D1010, 0x0D1010), (0x0D1054, 0x0D1064), (0x0D1800,
    0x0D1FFC)], [], [.mem, .fab, .mgt, .nv]⟩

theorem State.ownerKey_moves (s : State) (r : MboxReq) : Moves (Foot.ownerKey.at []) s (State.ownerKey s r) := by
  unfold State.ownerKey
  extract_lets -merge -underBinder +onlyGivenNames x1
  subst x1
  refine Moves.ite (fun hc => ?_) (fun hc => ?_)
  · refine Moves.seq ?_ (State.answer_moves ..) (Foot.sub0 (by decide +kernel))
    exact Moves.refl _
  · refine Moves.ite (fun hc => ?_) (fun hc => ?_)
    · refine Moves.seq ?_ (State.answer_moves ..) (Foot.sub0 (by decide +kernel))
      exact Moves.refl _
    · refine Moves.seq ?_ (State.answer_moves ..) (Foot.sub0 (by decide +kernel))
      exact Moves.widen (s.modNv_moves _ rfl (Nat.le_refl _) (fun ho => by simp_all)) (Foot.sub0 (by decide +kernel))

def Foot.packHeader : Foot := ⟨[], [], [.mem]⟩

theorem State.packHeader_moves (s : State) (h : Nat) (age : Nat) (bits : Nat) :
    Moves (Foot.packHeader.at []) s (State.packHeader s h age bits) := by
  unfold State.packHeader
  refine Moves.seq ?_ (State.wrNum_moves ..) (Foot.sub0 (by decide +kernel))
  refine Moves.seq ?_ (State.wrNum_moves ..) (Foot.sub0 (by decide +kernel))
  exact Moves.refl _

def Foot.sequenceDone : Foot :=
  ⟨[], [], [.mem, .out, .evq, .evqCut, .evtCut, .allRegs, .acc, .lines, .ports, .top, .beam, .fab,
    .tim, .cans, .wake, .twn, .hlt, .sgw, .psc, .recorder, .pwr, .mgt]⟩

theorem State.sequenceDone_moves (s : State) : Moves (Foot.sequenceDone.at []) s (State.sequenceDone s) := by
  unfold State.sequenceDone
  extract_lets -merge -underBinder +onlyGivenNames x1
  refine Moves.let_ x1 ?_ ?_
  · subst x1
    refine Moves.ite (fun hc => ?_) (fun hc => ?_)
    · refine Moves.seq ?_ (State.modWake_moves ..) (Foot.sub0 (by decide +kernel))
      exact Moves.refl _
    · exact Moves.refl _
  intro h1
  try clear_value x1
  extract_lets -merge -underBinder +onlyGivenNames x2
  subst x2
  extract_lets -merge -underBinder +onlyGivenNames x3
  refine Moves.let_ x3 ?_ ?_
  · subst x3
    refine Moves.seq ?_ (State.modPwr_moves ..) (Foot.sub0 (by decide +kernel))
    exact h1
  intro h3
  try clear_value x3
  split
  · refine Moves.seq ?_ (State.doModuleReset_moves ..) (Foot.sub0 (by decide +kernel))
    exact h3
  · exact h3

def Foot.pairNext : Foot :=
  ⟨[], [], [.mem, .out, .evq, .evqCut, .evtCut, .allRegs, .acc, .lines, .ports, .top, .beam, .fab, .tim,
    .cans, .wake, .twn, .hlt, .sgw, .psc, .recorder, .pwr, .mgt]⟩

theorem State.pairNext_moves (s : State) : Moves (Foot.pairNext.at []) s (State.pairNext s) := by
  unfold State.pairNext
  split
  · refine Moves.ite (fun hc => ?_) (fun hc => ?_)
    · extract_lets -merge -underBinder +onlyGivenNames x1
      refine Moves.let_ x1 ?_ ?_
      · subst x1
        refine Moves.seq ?_ (State.modPwr_moves ..) (Foot.sub0 (by decide +kernel))
        exact Moves.refl _
      intro h1
      try clear_value x1
      refine Moves.ite (fun hc => ?_) (fun hc => ?_)
      · refine Moves.seq ?_ (State.sequenceDone_moves ..) (Foot.sub0 (by decide +kernel))
        exact h1
      · refine Moves.seq ?_ (State.startPair_moves ..) (Foot.sub0 (by decide +kernel))
        exact h1
    · exact Moves.refl _
  · exact Moves.refl _

def Foot.slotWrite : Foot := ⟨[], [], [.mem]⟩

theorem State.slotWrite_moves (s : State) (e : MapEntry) (value : Option Int) (age : Nat) (bits : Nat) :
    Moves (Foot.slotWrite.at []) s (State.slotWrite s e value age bits) := by
  unfold State.slotWrite
  extract_lets -merge -underBinder +onlyGivenNames x1
  subst x1
  extract_lets -merge -underBinder +onlyGivenNames x2
  subst x2
  extract_lets -merge -underBinder +onlyGivenNames x3
  subst x3
  refine Moves.seq ?_ (State.wrBytes_moves ..) (Foot.sub0 (by decide +kernel))
  exact Moves.refl _

def Foot.runUnpack : Foot := ⟨[], [], [.mem]⟩

theorem State.runUnpack_moves (s : State) (e : MapEntry) (x : SgwInput) (ue : Bool) :
    Moves (Foot.runUnpack.at []) s (State.runUnpack s e x ue) := by
  unfold State.runUnpack
  extract_lets -merge -underBinder +onlyGivenNames x1
  subst x1
  extract_lets -merge -underBinder +onlyGivenNames x2
  subst x2
  refine Moves.ite (fun hc => ?_) (fun hc => ?_)
  · refine Moves.seq ?_ (State.slotWrite_moves ..) (Foot.sub0 (by decide +kernel))
    exact Moves.refl _
  · refine Moves.ite (fun hc => ?_) (fun hc => ?_)
    · refine Moves.seq ?_ (State.slotWrite_moves ..) (Foot.sub0 (by decide +kernel))
      exact Moves.refl _
    · extract_lets -merge -underBinder +onlyGivenNames x3
      subst x3
      refine Moves.ite (fun hc => ?_) (fun hc => ?_)
      · refine Moves.seq ?_ (State.slotWrite_moves ..) (Foot.sub0 (by decide +kernel))
        exact Moves.refl _
      · extract_lets -merge -underBinder +onlyGivenNames x4
        subst x4
        extract_lets -merge -underBinder +onlyGivenNames x5
        subst x5
        refine Moves.seq ?_ (State.slotWrite_moves ..) (Foot.sub0 (by decide +kernel))
        exact Moves.refl _

def Foot.runMove : Foot := ⟨[], [], [.mem]⟩

theorem State.runMove_moves (s : State) (e : MapEntry) (ue : Bool) : Moves (Foot.runMove.at []) s (State.runMove s e ue) := by
  unfold State.runMove
  refine Moves.ite (fun hc => ?_) (fun hc => ?_)
  · refine Moves.seq ?_ (State.slotWrite_moves ..) (Foot.sub0 (by decide +kernel))
    exact Moves.refl _
  · extract_lets -merge -underBinder +onlyGivenNames x1
    subst x1
    refine Moves.ite (fun hc => ?_) (fun hc => ?_)
    · extract_lets -merge -underBinder +onlyGivenNames x2
      subst x2
      extract_lets -merge -underBinder +onlyGivenNames x3
      subst x3
      refine Moves.seq ?_ (State.slotWrite_moves ..) (Foot.sub0 (by decide +kernel))
      exact Moves.refl _
    · refine Moves.seq ?_ (State.slotWrite_moves ..) (Foot.sub0 (by decide +kernel))
      exact Moves.refl _

def Foot.putField : Foot := ⟨[], [], [.mem]⟩

theorem State.putField_moves (s : State) (a : Nat) (boff : Nat) (n : Nat) (le : Bool) (v : Nat) :
    Moves (Foot.putField.at []) s (State.putField s a boff n le v) := by
  unfold State.putField
  extract_lets -merge -underBinder +onlyGivenNames x1
  subst x1
  extract_lets -merge -underBinder +onlyGivenNames x2
  subst x2
  extract_lets -merge -underBinder +onlyGivenNames x3
  subst x3
  extract_lets -merge -underBinder +onlyGivenNames x4
  subst x4
  extract_lets -merge -underBinder +onlyGivenNames x5
  subst x5
  refine Moves.seq ?_ (State.wrBytes_moves ..) (Foot.sub0 (by decide +kernel))
  exact Moves.refl _

def Foot.runPack : Foot := ⟨[], [], [.mem]⟩

theorem State.runPack_moves (s : State) (e : MapEntry) (ue : Bool) : Moves (Foot.runPack.at []) s (State.runPack s e ue) := by
  unfold State.runPack
  extract_lets -merge -underBinder +onlyGivenNames x1
  subst x1
  refine Moves.ite (fun hc => ?_) (fun hc => ?_)
  · refine Moves.seq ?_ (State.packHeader_moves ..) (Foot.sub0 (by decide +kernel))
    exact Moves.refl _
  · extract_lets -merge -underBinder +onlyGivenNames x2
    subst x2
    extract_lets -merge -underBinder +onlyGivenNames x3
    refine Moves.let_ x3 ?_ ?_
    · subst x3
      refine Moves.seq ?_ (State.packHeader_moves ..) (Foot.sub0 (by decide +kernel))
      exact Moves.refl _
    intro h3
    try clear_value x3
    refine Moves.ite (fun hc => ?_) (fun hc => ?_)
    · extract_lets -merge -underBinder +onlyGivenNames x4
      subst x4
      refine Moves.seq ?_ (State.putField_moves ..) (Foot.sub0 (by decide +kernel))
      refine Moves.seq ?_ (State.packHeader_moves ..) (Foot.sub0 (by decide +kernel))
      exact h3
    · exact h3

def Foot.runEntry : Foot := ⟨[(0x060010, 0x060010), (0x060070, 0x060070)], [], [.mem]⟩

theorem State.runEntry_moves (s : State) (i : Nat) (bad : Bool) (ue : Bool) :
    Moves (Foot.runEntry.at []) s (State.runEntry s i bad ue) := by
  unfold State.runEntry
  refine Moves.ite (fun hc => ?_) (fun hc => ?_)
  · refine Moves.seq ?_ (State.entryUe_moves ..) (Foot.sub0 (by decide +kernel))
    exact Moves.refl _
  · extract_lets -merge -underBinder +onlyGivenNames x1
    subst x1
    extract_lets -merge -underBinder +onlyGivenNames x2
    refine Moves.let_ x2 ?_ ?_
    · subst x2
      refine Moves.ite (fun hc => ?_) (fun hc => ?_)
      · refine Moves.seq ?_ (State.entryUe_moves ..) (Foot.sub0 (by decide +kernel))
        exact Moves.refl _
      · exact Moves.refl _
    intro h2
    try clear_value x2
    split
    · exact h2
    · refine Moves.seq ?_ (State.runUnpack_moves ..) (Foot.sub0 (by decide +kernel))
      exact h2
    · refine Moves.seq ?_ (State.runMove_moves ..) (Foot.sub0 (by decide +kernel))
      exact h2
    · refine Moves.seq ?_ (State.runPack_moves ..) (Foot.sub0 (by decide +kernel))
      exact h2

def Foot.xdigRecord : Foot := ⟨[], [], [.out, .twn]⟩

theorem State.xdigRecord_moves (s : State) (kind : Nat) (recipe : Nat) (dig : List Byte) :
    Moves (Foot.xdigRecord.at []) s (State.xdigRecord s kind recipe dig) := by
  unfold State.xdigRecord
  refine Moves.seq ?_ (State.mirrorRecord_moves ..) (Foot.sub0 (by decide +kernel))
  exact Moves.refl _

def Foot.submit : Foot :=
  ⟨[(0x032010, 0x032010), (0x032060, 0x03206C), (0x040074, 0x040074), (0x050074, 0x050074)], [], [.mem, .out,
    .fab]⟩

theorem State.submit_moves (s : State) (i : Nat) (payload : List Byte) : Moves (Foot.submit.at []) s (State.submit s i payload) := by
  unfold State.submit
  refine Moves.ite (fun hc => ?_) (fun hc => ?_)
  · exact Moves.refl _
  · extract_lets -merge -underBinder +onlyGivenNames x1
    subst x1
    extract_lets -merge -underBinder +onlyGivenNames x2
    refine Moves.let_ x2 ?_ ?_
    · subst x2
      refine Moves.seq ?_ (Moves.upd_fab _ _) (Foot.sub0 (by decide +kernel))
      exact Moves.refl _
    intro h2
    skip
    refine Moves.ite (fun hc => ?_) (fun hc => ?_)
    · refine Moves.seq ?_ (State.publish_moves ..) (Foot.sub0 (by decide +kernel))
      exact h2
    · exact h2

def Foot.submitRecipe : Foot :=
  ⟨[(0x032010, 0x032010), (0x032060, 0x03206C), (0x040074, 0x040074), (0x050074, 0x050074), (0x060010,
    0x060010), (0x060068, 0x060068), (0x071010, 0x0881F8)], [], [.mem, .out, .evq, .fab, .cans, .twn, .sgw]⟩

theorem State.submitRecipe_moves (s : State) (i : Nat) : Moves (Foot.submitRecipe.at []) s (State.submitRecipe s i) := by
  unfold State.submitRecipe
  extract_lets -merge -underBinder +onlyGivenNames x1
  subst x1
  extract_lets -merge -underBinder +onlyGivenNames x2
  subst x2
  extract_lets -merge -underBinder +onlyGivenNames x3
  subst x3
  refine Moves.ite (fun hc => ?_) (fun hc => ?_)
  · refine Moves.ite (fun hc => ?_) (fun hc => ?_)
    · refine Moves.seq ?_ (State.xdigRecord_moves ..) (Foot.sub0 (by decide +kernel))
      refine Moves.seq ?_ (State.recipeSent_moves ..) (Foot.sub0 (by decide +kernel))
      refine Moves.seq ?_ (State.submit_moves ..) (Foot.sub0 (by decide +kernel))
      exact Moves.refl _
    · refine Moves.seq ?_ (State.post_moves ..) (Foot.sub0 (by decide +kernel))
      refine Moves.seq ?_ (State.raise_moves ..) (Foot.sub1 (by decide +kernel) (Foot.holds_reg (by decide +kernel)))
      refine Moves.seq ?_ (State.satInc_moves _ _ (by decide)) (Foot.sub1 (by decide +kernel) (Foot.holds_reg (by decide +kernel)))
      exact Moves.refl _
  · refine Moves.ite (fun hc => ?_) (fun hc => ?_)
    · exact Moves.refl _
    · extract_lets -merge -underBinder +onlyGivenNames x4
      subst x4
      extract_lets -merge -underBinder +onlyGivenNames x5
      refine Moves.let_ x5 ?_ ?_
      · subst x5
        refine Moves.ite (fun hc => ?_) (fun hc => ?_)
        · refine Moves.seq ?_ (State.canSubmit_moves ..) (Foot.sub_at (by decide +kernel) (Foot.own_cons (Foot.holds_range 462864 557072 (by decide +kernel) (by first | omega | (dsimp only; omega)) (by first | omega | (dsimp only; omega))) (Foot.own_cons (Foot.holds_range 463112 557560 (by decide +kernel) (by first | omega | (dsimp only; omega)) (by first | omega | (dsimp only; omega))) (Foot.own_cons (Foot.holds_range 463108 557556 (by decide +kernel) (by first | omega | (dsimp only; omega)) (by first | omega | (dsimp only; omega))) Foot.own_nil))))
          exact Moves.refl _
        · exact Moves.refl _
      intro h5
      try clear_value x5
      refine Moves.seq ?_ (State.xdigRecord_moves ..) (Foot.sub0 (by decide +kernel))
      refine Moves.seq ?_ (State.recipeSent_moves ..) (Foot.sub0 (by decide +kernel))
      exact h5

def Foot.submission : Foot :=
  ⟨[(0x032010, 0x032010), (0x032060, 0x03206C), (0x040074, 0x040074), (0x050074, 0x050074), (0x060010,
    0x060010), (0x060068, 0x060068), (0x071010, 0x0881F8)], [], [.mem, .out, .evq, .fab, .cans, .twn, .sgw]⟩

theorem State.submission_moves (s : State) : Moves (Foot.submission.at []) s (State.submission s) := by
  unfold State.submission
  refine Moves.ite (fun hc => ?_) (fun hc => ?_)
  · exact Moves.refl _
  · extract_lets -merge -underBinder +onlyGivenNames x1
    subst x1
    refine Moves.foldl _ (fun x2 _ h2 => ?_) _ ?_
    · refine Moves.ite (fun hc => ?_) (fun hc => ?_)
      · refine Moves.seq ?_ (State.muteRecipe_moves ..) (Foot.sub0 (by decide +kernel))
        exact h2
      · refine Moves.seq ?_ (State.submitRecipe_moves ..) (Foot.sub0 (by decide +kernel))
        exact h2
    · exact Moves.refl _

def Foot.passDone : Foot :=
  ⟨[(0x032010, 0x032010), (0x032060, 0x03206C), (0x040074, 0x040074), (0x050074, 0x050074), (0x060010,
    0x060010), (0x060044, 0x060044), (0x060060, 0x060068), (0x060070, 0x060070), (0x071010, 0x0881F8)], [], [.mem, .out, .evq, .fab,
    .cans, .twn, .sgw]⟩

theorem State.passDone_moves (s : State) (dur : Nat) (ueEntries : List Nat) (ueSources : List Nat) :
    Moves (Foot.passDone.at []) s (State.passDone s dur ueEntries ueSources) := by
  unfold State.passDone
  refine Moves.ite (fun hc => ?_) (fun hc => ?_)
  · exact Moves.refl _
  · extract_lets -merge -underBinder +onlyGivenNames x1
    refine Moves.let_ x1 ?_ ?_
    · subst x1
      refine Moves.seq ?_ (State.headers_moves ..) (Foot.sub0 (by decide +kernel))
      exact Moves.refl _
    intro h1
    try clear_value x1
    extract_lets -merge -underBinder +onlyGivenNames x2
    refine Moves.let_ x2 ?_ ?_
    · subst x2
      refine Moves.foldl _ (fun x3 _ h3 => ?_) _ ?_
      · refine Moves.seq ?_ (State.runEntry_moves ..) (Foot.sub0 (by decide +kernel))
        exact h3
      · exact h1
    intro h2
    try clear_value x2
    extract_lets -merge -underBinder +onlyGivenNames x4
    refine Moves.let_ x4 ?_ ?_
    · subst x4
      refine Moves.seq ?_ (State.wrapInc_moves _ _ (by decide)) (Foot.sub1 (by decide +kernel) (Foot.holds_reg (by decide +kernel)))
      exact h2
    intro h4
    try clear_value x4
    extract_lets -merge -underBinder +onlyGivenNames x5
    refine Moves.let_ x5 ?_ ?_
    · subst x5
      refine Moves.seq ?_ (State.putB_moves _ _ _ (by decide)) (Foot.sub1 (by decide +kernel) (Foot.holds_reg (by decide +kernel)))
      refine Moves.seq ?_ (State.headers_moves ..) (Foot.sub0 (by decide +kernel))
      exact h4
    intro h5
    try clear_value x5
    extract_lets -merge -underBinder +onlyGivenNames x6
    refine Moves.let_ x6 ?_ ?_
    · subst x6
      refine Moves.seq ?_ (State.putB_moves _ _ _ (by decide)) (Foot.sub1 (by decide +kernel) (Foot.holds_reg (by decide +kernel)))
      refine Moves.seq ?_ (State.put_moves _ _ _ (by decide)) (Foot.sub1 (by decide +kernel) (Foot.holds_reg (by decide +kernel)))
      exact h5
    intro h6
    try clear_value x6
    extract_lets -merge -underBinder +onlyGivenNames x7
    refine Moves.let_ x7 ?_ ?_
    · subst x7
      refine Moves.seq ?_ (State.put_moves _ _ _ (by decide)) (Foot.sub1 (by decide +kernel) (Foot.holds_reg (by decide +kernel)))
      exact h6
    intro h7
    try clear_value x7
    refine Moves.seq ?_ (State.submission_moves ..) (Foot.sub0 (by decide +kernel))
    refine Moves.seq ?_ (State.raise_moves ..) (Foot.sub1 (by decide +kernel) (Foot.holds_reg (by decide +kernel)))
    refine Moves.seq ?_ (State.modSgw_moves ..) (Foot.sub0 (by decide +kernel))
    exact h7

def Foot.passStart : Foot := ⟨[(0x060010, 0x060010), (0x060044, 0x060044), (0x060068, 0x060068)], [], [.evq, .sgw]⟩

theorem State.passStart_moves (s : State) : Moves (Foot.passStart.at []) s (State.passStart s) := by
  unfold State.passStart
  refine Moves.ite (fun hc => ?_) (fun hc => ?_)
  · exact Moves.refl _
  · refine Moves.ite (fun hc => ?_) (fun hc => ?_)
    · refine Moves.seq ?_ (State.post_moves ..) (Foot.sub0 (by decide +kernel))
      refine Moves.seq ?_ (State.raise_moves ..) (Foot.sub1 (by decide +kernel) (Foot.holds_reg (by decide +kernel)))
      refine Moves.seq ?_ (State.satInc_moves _ _ (by decide)) (Foot.sub1 (by decide +kernel) (Foot.holds_reg (by decide +kernel)))
      exact Moves.refl _
    · extract_lets -merge -underBinder +onlyGivenNames x1
      refine Moves.let_ x1 ?_ ?_
      · subst x1
        refine Moves.seq ?_ (State.putB_moves _ _ _ (by decide)) (Foot.sub1 (by decide +kernel) (Foot.holds_reg (by decide +kernel)))
        exact Moves.refl _
      intro h1
      try clear_value x1
      refine Moves.seq ?_ (State.modSgw_moves ..) (Foot.sub0 (by decide +kernel))
      exact h1

def Foot.pdErr : Foot := ⟨[], [], [.evq]⟩

theorem State.pdErr_moves (s : State) (port : Nat) (cause : Nat) (comId : Nat) :
    Moves (Foot.pdErr.at [(4096 * ((262144 + 65536 * (port / 4 % 2)) / 4096) + 16, 4096 * ((262144 + 65536 * (port / 4 % 2)) / 4096) +
      16), (262264 + 65536 * (port / 4 % 2), 262264 + 65536 * (port / 4 % 2))]) s (State.pdErr s port cause comId) := by
  unfold State.pdErr
  extract_lets -merge -underBinder +onlyGivenNames x1
  subst x1
  extract_lets -merge -underBinder +onlyGivenNames x2
  refine Moves.let_ x2 ?_ ?_
  · subst x2
    split
    · refine Moves.seq ?_ (State.raise_moves ..) (Foot.sub1 (by decide +kernel) (Foot.holds_same (.head _)))
      refine Moves.seq ?_ (State.satInc_moves _ _ (by first | (dsimp only [F.CP_CTRL_PDERR_HFCS]; omega) | omega)) (Foot.sub1 (by decide +kernel) (Foot.holds_same (.tail _ (.head _))))
      exact Moves.refl _
    · refine Moves.seq ?_ (State.raise_moves ..) (Foot.sub1 (by decide +kernel) (Foot.holds_same (.head _)))
      refine Moves.seq ?_ (State.satInc_moves _ _ (by first | (dsimp only [F.CP_CTRL_PDERR_TOPO]; omega) | omega)) (Foot.sub1 (by decide +kernel) (Foot.holds_same (.tail _ (.head _))))
      exact Moves.refl _
    · refine Moves.seq ?_ (State.satInc_moves _ _ (by first | (dsimp only [F.CP_CTRL_PDERR_FORMAT]; omega) | omega)) (Foot.sub1 (by decide +kernel) (Foot.holds_same (.tail _ (.head _))))
      exact Moves.refl _
  intro h2
  try clear_value x2
  refine Moves.seq ?_ (State.post_moves ..) (Foot.sub0 (by decide +kernel))
  exact h2

def Foot.pdUse : Foot :=
  ⟨[(0x032010, 0x032010), (0x032060, 0x03206C), (0x034010, 0x034010), (0x040074, 0x040074), (0x050074,
    0x050074)], [], [.mem, .out, .fab]⟩

theorem State.pdUse_moves (s : State) (port : Nat) (ctx : Nat) (seq : Nat) (dataset : List Byte) :
    Moves (Foot.pdUse.at []) s (State.pdUse s port ctx seq dataset) := by
  unfold State.pdUse
  refine Moves.ite (fun hc => ?_) (fun hc => ?_)
  · refine Moves.ite (fun hc => ?_) (fun hc => ?_)
    · refine Moves.seq ?_ (State.submit_moves ..) (Foot.sub0 (by decide +kernel))
      exact Moves.refl _
    · exact Moves.refl _
  · refine Moves.ite (fun hc => ?_) (fun hc => ?_)
    · extract_lets -merge -underBinder +onlyGivenNames x1
      subst x1
      extract_lets -merge -underBinder +onlyGivenNames x2
      subst x2
      refine Moves.ite (fun hc => ?_) (fun hc => ?_)
      · refine Moves.seq ?_ (State.ctxReceive_moves ..) (Foot.sub0 (by decide +kernel))
        refine Moves.seq ?_ (State.police_moves ..) (Foot.sub0 (by decide +kernel))
        exact Moves.refl _
      · refine Moves.seq ?_ (State.policed_moves ..) (Foot.sub0 (by decide +kernel))
        refine Moves.seq ?_ (State.police_moves ..) (Foot.sub0 (by decide +kernel))
        exact Moves.refl _
    · exact Moves.refl _

def Foot.pdParse : Foot :=
  ⟨[(0x032010, 0x032010), (0x032060, 0x03206C), (0x034010, 0x034010), (0x040074, 0x040074), (0x050074,
    0x050074)], [], [.mem, .out, .evq, .fab]⟩

theorem State.pdParse_moves (s : State) (port : Nat) (f : PdFrame) :
    Moves (Foot.pdParse.at [(4096 * ((262144 + 65536 * (port / 4 % 2)) / 4096) + 16, 4096 * ((262144 + 65536 * (port / 4 % 2)) / 4096)
      + 16), (262264 + 65536 * (port / 4 % 2), 262264 + 65536 * (port / 4 % 2)),
      (262256 + 65536 * (port / 4 % 2), 262256 + 65536 * (port / 4 % 2))]) s (State.pdParse s port f) := by
  unfold State.pdParse
  extract_lets -merge -underBinder +onlyGivenNames x1
  subst x1
  refine Moves.ite (fun hc => ?_) (fun hc => ?_)
  · refine Moves.seq ?_ (State.pdErr_moves ..) (Foot.sub_at (by decide +kernel) (Foot.own_cons (Foot.holds_same (.head _)) (Foot.own_cons (Foot.holds_same (.tail _ (.head _))) Foot.own_nil)))
    exact Moves.refl _
  · refine Moves.ite (fun hc => ?_) (fun hc => ?_)
    · refine Moves.seq ?_ (State.pdErr_moves ..) (Foot.sub_at (by decide +kernel) (Foot.own_cons (Foot.holds_same (.head _)) (Foot.own_cons (Foot.holds_same (.tail _ (.head _))) Foot.own_nil)))
      exact Moves.refl _
    · refine Moves.ite (fun hc => ?_) (fun hc => ?_)
      · refine Moves.seq ?_ (State.pdErr_moves ..) (Foot.sub_at (by decide +kernel) (Foot.own_cons (Foot.holds_same (.head _)) (Foot.own_cons (Foot.holds_same (.tail _ (.head _))) Foot.own_nil)))
        exact Moves.refl _
      · split
        · refine Moves.seq ?_ (State.raise_moves ..) (Foot.sub1 (by decide +kernel) (Foot.holds_same (.head _)))
          refine Moves.seq ?_ (State.satInc_moves _ _ (by first | (dsimp only [F.CP_CTRL_PDERR_NOCOMID]; omega) | omega)) (Foot.sub1 (by decide +kernel) (Foot.holds_same (.tail _ (.head _))))
          exact Moves.refl _
        · extract_lets -merge -underBinder +onlyGivenNames x2
          subst x2
          extract_lets -merge -underBinder +onlyGivenNames x3
          refine Moves.let_ x3 ?_ ?_
          · subst x3
            refine Moves.seq ?_ (State.wrapInc_moves _ _ (by first | (dsimp only [F.CP_CTRL_PDRX_FRAMES]; omega) | omega)) (Foot.sub1 (by decide +kernel) (Foot.holds_same (.tail _ (.tail _ (.head _)))))
            refine Moves.seq ?_ (State.wrNum_moves ..) (Foot.sub0 (by decide +kernel))
            exact Moves.refl _
          intro h3
          try clear_value x3
          refine Moves.ite (fun hc => ?_) (fun hc => ?_)
          · refine Moves.seq ?_ (State.pdUse_moves ..) (Foot.sub0 (by decide +kernel))
            exact h3
          · exact h3

def Foot.pdRx : Foot :=
  ⟨[(0x030010, 0x030010), (0x032010, 0x032010), (0x032060, 0x03206C), (0x034010, 0x034010), (0x037010,
    0x037010), (0x040074, 0x040074), (0x050074, 0x050074)], [], [.mem, .out, .evq, .fab]⟩

theorem State.pdRx_moves (s : State) (port : Nat) (e : EthFrame) (fcsOk : Bool) (f : PdFrame) :
    Moves (Foot.pdRx.at [(266312 + 65536 * ((4 + port - 4) % 8 / 4) + 4096 * ((4 + port - 4) % 4), 266312 + 65536 * ((4 + port - 4) %
      8 / 4) + 4096 * ((4 + port - 4) % 4)),
      (69708 + 65536 * ((bportOf (4 + port)).line.idx % 2) + 4096 * ((bportOf (4 + port)).side % 2), 69708 + 65536 * ((bportOf (4 +
      port)).line.idx % 2) + 4096 * ((bportOf (4 + port)).side % 2)),
      (4096 * ((262144 + 65536 * (port / 4 % 2)) / 4096) + 16, 4096 * ((262144 + 65536 * (port / 4 % 2)) / 4096) + 16),
      (262264 + 65536 * (port / 4 % 2), 262264 + 65536 * (port / 4 % 2)),
      (262256 + 65536 * (port / 4 % 2), 262256 + 65536 * (port / 4 % 2))]) s (State.pdRx s port e fcsOk f) := by
  unfold State.pdRx
  extract_lets -merge -underBinder +onlyGivenNames x1
  subst x1
  refine Moves.ite (fun hc => ?_) (fun hc => ?_)
  · exact Moves.refl _
  · extract_lets -merge -underBinder +onlyGivenNames x2
    subst x2
    extract_lets -merge -underBinder +onlyGivenNames x3
    subst x3
    refine Moves.ite (fun hc => ?_) (fun hc => ?_)
    · refine Moves.ite_snd (fun hc => ?_) (fun hc => ?_)
      · refine Moves.seq ?_ (State.ethRx_moves ..) (Foot.sub_at (by decide +kernel) (Foot.own_cons (Foot.holds_same (.head _)) (Foot.own_cons (Foot.holds_same (.tail _ (.head _))) Foot.own_nil)))
        exact Moves.refl _
      · exact Moves.refl _
    · refine Moves.ite (fun hc => ?_) (fun hc => ?_)
      · refine Moves.seq ?_ (State.pdParse_moves ..) (Foot.sub_at (by decide +kernel) (Foot.own_cons (Foot.holds_same (.tail _ (.tail _ (.head _)))) (Foot.own_cons (Foot.holds_same (.tail _ (.tail _ (.tail _ (.head _))))) (Foot.own_cons (Foot.holds_same (.tail _ (.tail _ (.tail _ (.tail _ (.head _)))))) Foot.own_nil))))
        refine Moves.ite_snd (fun hc => ?_) (fun hc => ?_)
        · refine Moves.seq ?_ (State.ethRx_moves ..) (Foot.sub_at (by decide +kernel) (Foot.own_cons (Foot.holds_same (.head _)) (Foot.own_cons (Foot.holds_same (.tail _ (.head _))) Foot.own_nil)))
          exact Moves.refl _
        · exact Moves.refl _
      · refine Moves.ite (fun hc => ?_) (fun hc => ?_)
        · refine Moves.seq ?_ (State.emit_moves ..) (Foot.sub0 (by decide +kernel))
          refine Moves.ite_snd (fun hc => ?_) (fun hc => ?_)
          · refine Moves.seq ?_ (State.ethRx_moves ..) (Foot.sub_at (by decide +kernel) (Foot.own_cons (Foot.holds_same (.head _)) (Foot.own_cons (Foot.holds_same (.tail _ (.head _))) Foot.own_nil)))
            exact Moves.refl _
          · exact Moves.refl _
        · refine Moves.ite_snd (fun hc => ?_) (fun hc => ?_)
          · refine Moves.seq ?_ (State.ethRx_moves ..) (Foot.sub_at (by decide +kernel) (Foot.own_cons (Foot.holds_same (.head _)) (Foot.own_cons (Foot.holds_same (.tail _ (.head _))) Foot.own_nil)))
            exact Moves.refl _
          · exact Moves.refl _

def Foot.phyReadyAgain : Foot := ⟨[], [], [.ports]⟩

theorem State.phyReadyAgain_moves (s : State) (p : BPort) : Moves (Foot.phyReadyAgain.at []) s (State.phyReadyAgain s p) := by
  unfold State.phyReadyAgain
  refine Moves.seq ?_ (State.setPort_moves ..) (Foot.sub0 (by decide +kernel))
  exact Moves.refl _

def Foot.policyArm : Foot :=
  ⟨[], [], [.mem, .out, .evq, .evqCut, .evtCut, .allRegs, .fresh, .acc, .lines, .ports, .top, .beam, .fab,
    .tim, .cans, .wake, .din, .twn, .hlt, .sgw, .psc, .recorder, .pwr, .mgt]⟩

theorem State.policyArm_moves (s : State) (k : Nat) : Moves (Foot.policyArm.at []) s (State.policyArm s k) := by
  unfold State.policyArm
  refine State.unlockedPage_moves ?_ (Foot.sub_at (by decide +kernel) (Foot.own_cons (Foot.holds_all (by decide +kernel)) (Foot.own_cons (Foot.holds_all (by decide +kernel)) Foot.own_nil))) (fun x1 h1 => ?_)
  · exact Moves.refl _
  · refine Moves.ite (fun hc => ?_) (fun hc => ?_)
    · refine Moves.seq ?_ (State.writeAny_moves ..) (Foot.sub0 (by decide +kernel))
      exact h1
    · refine Moves.seq ?_ (State.writeAny_moves ..) (Foot.sub0 (by decide +kernel))
      refine Moves.seq ?_ (State.writeAny_moves ..) (Foot.sub0 (by decide +kernel))
      exact h1

def Foot.policyApply : Foot :=
  ⟨[], [], [.mem, .out, .evq, .evqCut, .evtCut, .allRegs, .fresh, .acc, .lines, .ports, .top, .beam,
    .fab, .tim, .cans, .wake, .din, .twn, .hlt, .sgw, .psc, .recorder, .pwr, .mgt]⟩

theorem State.policyApply_moves (s : State) (r : MboxReq) (gen : Nat) (body : List Byte) :
    Moves (Foot.policyApply.at []) s (State.policyApply s r gen body) := by
  unfold State.policyApply
  extract_lets -merge -underBinder +onlyGivenNames x1
  subst x1
  refine Moves.ite (fun hc => ?_) (fun hc => ?_)
  · refine Moves.seq ?_ (State.answer_moves ..) (Foot.sub0 (by decide +kernel))
    refine Moves.seq ?_ (State.raise_moves ..) (Foot.sub1 (by decide +kernel) (Foot.holds_all (by decide +kernel)))
    exact Moves.refl _
  · extract_lets -merge -underBinder +onlyGivenNames x2
    refine Moves.let_ x2 ?_ ?_
    · subst x2
      refine Moves.seq ?_ (State.applyBody_moves ..) (Foot.sub0 (by decide +kernel))
      exact Moves.refl _
    intro h2
    try clear_value x2
    extract_lets -merge -underBinder +onlyGivenNames x3
    refine Moves.let_ x3 ?_ ?_
    · subst x3
      refine Moves.ite (fun hc => ?_) (fun hc => ?_)
      · refine Moves.seq ?_ (State.policyArm_moves ..) (Foot.sub0 (by decide +kernel))
        exact h2
      · exact h2
    intro h3
    try clear_value x3
    refine Moves.seq ?_ (State.answer_moves ..) (Foot.sub0 (by decide +kernel))
    refine Moves.seq ?_ (State.satInc_moves _ _ (by decide)) (Foot.sub1 (by decide +kernel) (Foot.holds_all (by decide +kernel)))
    refine Moves.seq ?_ (State.modMgt_moves ..) (Foot.sub0 (by decide +kernel))
    exact h3

def Foot.policyLoad : Foot :=
  ⟨[], [], [.mem, .out, .evq, .evqCut, .evtCut, .allRegs, .fresh, .acc, .lines, .ports, .top, .beam,
    .fab, .tim, .cans, .wake, .din, .twn, .hlt, .sgw, .psc, .recorder, .pwr, .mgt]⟩

theorem State.policyLoad_moves (s : State) (r : MboxReq) : Moves (Foot.policyLoad.at []) s (State.policyLoad s r) := by
  unfold State.policyLoad
  extract_lets -merge -underBinder +onlyGivenNames x1
  subst x1
  refine Moves.ite (fun hc => ?_) (fun hc => ?_)
  · refine Moves.seq ?_ (State.answer_moves ..) (Foot.sub0 (by decide +kernel))
    exact Moves.refl _
  · extract_lets -merge -underBinder +onlyGivenNames x2
    subst x2
    extract_lets -merge -underBinder +onlyGivenNames x3
    subst x3
    extract_lets -merge -underBinder +onlyGivenNames x4
    subst x4
    split
    · refine Moves.seq ?_ (State.answer_moves ..) (Foot.sub0 (by decide +kernel))
      exact Moves.refl _
    · refine Moves.ite (fun hc => ?_) (fun hc => ?_)
      · refine Moves.seq ?_ (State.answer_moves ..) (Foot.sub0 (by decide +kernel))
        exact Moves.refl _
      · refine Moves.ite (fun hc => ?_) (fun hc => ?_)
        · refine Moves.seq ?_ (State.answer_moves ..) (Foot.sub0 (by decide +kernel))
          exact Moves.refl _
        · split
          · refine Moves.seq ?_ (State.answer_moves ..) (Foot.sub0 (by decide +kernel))
            exact Moves.refl _
          · split
            · refine Moves.seq ?_ (State.answer_moves ..) (Foot.sub0 (by decide +kernel))
              exact Moves.refl _
            · refine Moves.ite (fun hc => ?_) (fun hc => ?_)
              · exact Moves.refl _
              · refine Moves.seq ?_ (State.policyApply_moves ..) (Foot.sub0 (by decide +kernel))
                exact Moves.refl _

def Foot.policyRead : Foot :=
  ⟨[(0x032010, 0x032010), (0x032060, 0x03206C), (0x0D1010, 0x0D1010), (0x0D1054, 0x0D1064), (0x0D1800,
    0x0D1FFC)], [], [.mem, .fab, .mgt]⟩

theorem State.policyRead_moves (s : State) (r : MboxReq) : Moves (Foot.policyRead.at []) s (State.policyRead s r) := by
  unfold State.policyRead
  split
  · refine Moves.seq ?_ (State.answer_moves ..) (Foot.sub0 (by decide +kernel))
    exact Moves.refl _
  · refine Moves.ite (fun hc => ?_) (fun hc => ?_)
    · refine Moves.seq ?_ (State.answer_moves ..) (Foot.sub0 (by decide +kernel))
      exact Moves.refl _
    · refine Moves.seq ?_ (State.answer_moves ..) (Foot.sub0 (by decide +kernel))
      exact Moves.refl _

def Foot.portLinkDown : Foot :=
  ⟨[(0x100010, 0x100010), (0x100044, 0x100044), (0x100064, 0x10006C)], [], [.mem, .out, .evq, .lines,
    .ports, .top, .beam, .fab]⟩

theorem State.portLinkDown_moves (s : State) (p : BPort) :
    Moves (Foot.portLinkDown.at [(4096 * ((69632 + 65536 * (p.line.idx % 2) + 4096 * (p.side % 2)) / 4096) + 16, 4096 * ((69632 +
      65536 * (p.line.idx % 2) + 4096 * (p.side % 2)) / 4096) + 16),
      (69696 + 65536 * (p.line.idx % 2) + 4096 * (p.side % 2), 69696 + 65536 * (p.line.idx % 2) + 4096 * (p.side % 2)),
      (69704 + 65536 * (p.line.idx % 2) + 4096 * (p.side % 2), 69704 + 65536 * (p.line.idx % 2) + 4096 * (p.side % 2)),
      (69700 + 65536 * (p.line.idx % 2) + 4096 * (p.side % 2), 69700 + 65536 * (p.line.idx % 2) + 4096 * (p.side % 2)),
      (77912 + 65536 * (p.line.idx % 2), 77912 + 65536 * (p.line.idx % 2)),
      (77904 + 65536 * ((p.line.port true).line.idx % 2), 77904 + 65536 * ((p.line.port true).line.idx % 2)),
      (77908 + 65536 * ((p.line.port true).line.idx % 2), 77908 + 65536 * ((p.line.port true).line.idx % 2)),
      (77896 + 65536 * ((p.line.port true).line.idx % 2), 77896 + 65536 * ((p.line.port true).line.idx % 2)),
      (77900 + 65536 * ((p.line.port true).line.idx % 2), 77900 + 65536 * ((p.line.port true).line.idx % 2)),
      (77904 + 65536 * ((p.line.port false).line.idx % 2), 77904 + 65536 * ((p.line.port false).line.idx % 2)),
      (77908 + 65536 * ((p.line.port false).line.idx % 2), 77908 + 65536 * ((p.line.port false).line.idx % 2)),
      (77896 + 65536 * ((p.line.port false).line.idx % 2), 77896 + 65536 * ((p.line.port false).line.idx % 2)),
      (77900 + 65536 * ((p.line.port false).line.idx % 2), 77900 + 65536 * ((p.line.port false).line.idx % 2)),
      (77888 + 65536 * (p.line.idx % 2), 77888 + 65536 * (p.line.idx % 2)),
      (4096 * ((77824 + 65536 * (p.line.idx % 2)) / 4096) + 16, 4096 * ((77824 + 65536 * (p.line.idx % 2)) / 4096) + 16)]) s
      (State.portLinkDown s p) := by
  unfold State.portLinkDown
  refine Moves.ite (fun hc => ?_) (fun hc => ?_)
  · exact Moves.refl _
  · extract_lets -merge -underBinder +onlyGivenNames x1
    subst x1
    extract_lets -merge -underBinder +onlyGivenNames x2
    refine Moves.let_ x2 ?_ ?_
    · subst x2
      refine Moves.seq ?_ (State.flap_moves ..) (Foot.sub_at (by decide +kernel) (Foot.own_cons (Foot.holds_same (.head _)) (Foot.own_cons (Foot.holds_same (.tail _ (.head _))) (Foot.own_cons (Foot.holds_same (.tail _ (.tail _ (.head _)))) (Foot.own_cons (Foot.holds_same (.tail _ (.tail _ (.tail _ (.head _))))) (Foot.own_cons (Foot.holds_same (.tail _ (.tail _ (.tail _ (.tail _ (.head _)))))) Foot.own_nil))))))
      refine Moves.seq ?_ (State.countChange_moves ..) (Foot.sub_at (by decide +kernel) (Foot.own_cons (Foot.holds_same (.head _)) (Foot.own_cons (Foot.holds_same (.tail _ (.head _))) Foot.own_nil)))
      refine Moves.seq ?_ (State.dropLink_moves ..) (Foot.sub_at (by decide +kernel) (Foot.own_cons (Foot.holds_same (.tail _ (.tail _ (.head _)))) (Foot.own_cons (Foot.holds_same (.tail _ (.tail _ (.tail _ (.head _))))) (Foot.own_cons (Foot.holds_same (.tail _ (.head _))) (Foot.own_cons (Foot.holds_same (.tail _ (.tail _ (.tail _ (.tail _ (.head _)))))) Foot.own_nil)))))
      exact Moves.refl _
    intro h2
    try clear_value x2
    refine Moves.seq ?_ (State.beamRefresh_moves ..) (Foot.sub_at (by decide +kernel) (Foot.own_cons (Foot.holds_same (.tail _ (.tail _ (.tail _ (.tail _ (.tail _ (.head _))))))) (Foot.own_cons (Foot.holds_same (.tail _ (.tail _ (.tail _ (.tail _ (.tail _ (.tail _ (.head _)))))))) (Foot.own_cons (Foot.holds_same (.tail _ (.tail _ (.tail _ (.tail _ (.tail _ (.tail _ (.tail _ (.head _))))))))) (Foot.own_cons (Foot.holds_same (.tail _ (.tail _ (.tail _ (.tail _ (.tail _ (.tail _ (.tail _ (.tail _ (.head _)))))))))) (Foot.own_cons (Foot.holds_same (.tail _ (.tail _ (.tail _ (.tail _ (.tail _ (.tail _ (.tail _ (.tail _ (.tail _ (.head _))))))))))) (Foot.own_cons (Foot.holds_same (.tail _ (.tail _ (.tail _ (.tail _ (.tail _ (.tail _ (.tail _ (.tail _ (.tail _ (.tail _ (.head _)))))))))))) (Foot.own_cons (Foot.holds_same (.tail _ (.tail _ (.tail _ (.tail _ (.tail _ (.tail _ (.tail _ (.tail _ (.tail _ (.tail _ (.tail _ (.head _))))))))))))) (Foot.own_cons (Foot.holds_same (.tail _ (.tail _ (.tail _ (.tail _ (.tail _ (.tail _ (.tail _ (.tail _ (.tail _ (.tail _ (.tail _ (.tail _ (.head _)))))))))))))) (Foot.own_cons (Foot.holds_same (.tail _ (.tail _ (.tail _ (.tail _ (.tail _ (.tail _ (.tail _ (.tail _ (.tail _ (.tail _ (.tail _ (.tail _ (.tail _ (.head _))))))))))))))) (Foot.own_cons (Foot.holds_same (.tail _ (.tail _ (.tail _ (.tail _ (.tail _ (.tail _ (.tail _ (.tail _ (.tail _ (.tail _ (.tail _ (.tail _ (.tail _ (.tail _ (.head _)))))))))))))))) Foot.own_nil)))))))))))
    refine Moves.seq ?_ (State.openingDone_moves ..) (Foot.sub0 (by decide +kernel))
    refine Moves.ite (fun hc => ?_) (fun hc => ?_)
    · refine Moves.seq ?_ (State.trigger_moves ..) (Foot.sub0 (by decide +kernel))
      exact h2
    · exact h2

def Foot.rateMatch : Foot :=
  ⟨[(0x100010, 0x100010), (0x100044, 0x100044), (0x100064, 0x10006C)], [], [.mem, .out, .evq, .ports,
    .top, .beam, .fab]⟩

theorem State.rateMatch_moves (s : State) (p : BPort) (rate : Nat) :
    Moves (Foot.rateMatch.at [(4096 * ((65536 + 65536 * (p.line.idx % 2)) / 4096) + 16, 4096 * ((65536 + 65536 * (p.line.idx % 2)) /
      4096) + 16),
      (4096 * ((69632 + 65536 * (p.opposite.line.idx % 2) + 4096 * (p.opposite.side % 2)) / 4096) + 16, 4096 * ((69632 + 65536 *
      (p.opposite.line.idx % 2) + 4096 * (p.opposite.side % 2)) / 4096) + 16),
      (69696 + 65536 * (p.opposite.line.idx % 2) + 4096 * (p.opposite.side % 2), 69696 + 65536 * (p.opposite.line.idx % 2) + 4096 *
      (p.opposite.side % 2)),
      (69704 + 65536 * (p.opposite.line.idx % 2) + 4096 * (p.opposite.side % 2), 69704 + 65536 * (p.opposite.line.idx % 2) + 4096 *
      (p.opposite.side % 2)),
      (69700 + 65536 * (p.opposite.line.idx % 2) + 4096 * (p.opposite.side % 2), 69700 + 65536 * (p.opposite.line.idx % 2) + 4096 *
      (p.opposite.side % 2)),
      (77912 + 65536 * (p.opposite.line.idx % 2), 77912 + 65536 * (p.opposite.line.idx % 2))]) s (State.rateMatch s p rate) := by
  unfold State.rateMatch
  extract_lets -merge -underBinder +onlyGivenNames x1
  subst x1
  extract_lets -merge -underBinder +onlyGivenNames x2
  subst x2
  extract_lets -merge -underBinder +onlyGivenNames x3
  subst x3
  extract_lets -merge -underBinder +onlyGivenNames x4
  refine Moves.let_ x4 ?_ ?_
  · subst x4
    refine Moves.seq ?_ (State.setPort_moves ..) (Foot.sub0 (by decide +kernel))
    exact Moves.refl _
  intro h4
  try clear_value x4
  extract_lets -merge -underBinder +onlyGivenNames x5
  subst x5
  extract_lets -merge -underBinder +onlyGivenNames x6
  refine Moves.let_ x6 ?_ ?_
  · subst x6
    refine Moves.seq ?_ (State.setPort_moves ..) (Foot.sub0 (by decide +kernel))
    exact h4
  intro h6
  try clear_value x6
  refine Moves.ite (fun hc => ?_) (fun hc => ?_)
  · extract_lets -merge -underBinder +onlyGivenNames x7
    refine Moves.let_ x7 ?_ ?_
    · subst x7
      refine Moves.seq ?_ (State.raise_moves ..) (Foot.sub1 (by decide +kernel) (Foot.holds_same (.head _)))
      exact h6
    intro h7
    try clear_value x7
    refine Moves.ite (fun hc => ?_) (fun hc => ?_)
    · refine Moves.seq ?_ (State.trigger_moves ..) (Foot.sub0 (by decide +kernel))
      refine Moves.seq ?_ (State.flap_moves ..) (Foot.sub_at (by decide +kernel) (Foot.own_cons (Foot.holds_same (.tail _ (.head _))) (Foot.own_cons (Foot.holds_same (.tail _ (.tail _ (.head _)))) (Foot.own_cons (Foot.holds_same (.tail _ (.tail _ (.tail _ (.head _))))) (Foot.own_cons (Foot.holds_same (.tail _ (.tail _ (.tail _ (.tail _ (.head _)))))) (Foot.own_cons (Foot.holds_same (.tail _ (.tail _ (.tail _ (.tail _ (.tail _ (.head _))))))) Foot.own_nil))))))
      refine Moves.seq ?_ (State.countChange_moves ..) (Foot.sub_at (by decide +kernel) (Foot.own_cons (Foot.holds_same (.tail _ (.head _))) (Foot.own_cons (Foot.holds_same (.tail _ (.tail _ (.head _)))) Foot.own_nil)))
      refine Moves.seq ?_ (State.dropLink_moves ..) (Foot.sub_at (by decide +kernel) (Foot.own_cons (Foot.holds_same (.tail _ (.tail _ (.tail _ (.head _))))) (Foot.own_cons (Foot.holds_same (.tail _ (.tail _ (.tail _ (.tail _ (.head _)))))) (Foot.own_cons (Foot.holds_same (.tail _ (.tail _ (.head _)))) (Foot.own_cons (Foot.holds_same (.tail _ (.tail _ (.tail _ (.tail _ (.tail _ (.head _))))))) Foot.own_nil)))))
      exact h7
    · exact h7
  · exact h6

def Foot.portLinkUp : Foot :=
  ⟨[(0x100010, 0x100010), (0x100044, 0x100044), (0x100064, 0x10006C)], [], [.mem, .out, .evq, .lines,
    .ports, .top, .beam, .fab]⟩

theorem State.portLinkUp_moves (s : State) (p : BPort) (rate : Nat) (rx : Nat) (tx : Nat) (isMaster : Bool) :
    Moves (Foot.portLinkUp.at [(69696 + 65536 * (p.line.idx % 2) + 4096 * (p.side % 2), 69696 + 65536 * (p.line.idx % 2) + 4096 *
      (p.side % 2)),
      (69700 + 65536 * (p.line.idx % 2) + 4096 * (p.side % 2), 69700 + 65536 * (p.line.idx % 2) + 4096 * (p.side % 2)),
      (4096 * ((69632 + 65536 * (p.line.idx % 2) + 4096 * (p.side % 2)) / 4096) + 16, 4096 * ((69632 + 65536 * (p.line.idx % 2) + 4096
      * (p.side % 2)) / 4096) + 16),
      (4096 * ((65536 + 65536 * (p.line.idx % 2)) / 4096) + 16, 4096 * ((65536 + 65536 * (p.line.idx % 2)) / 4096) + 16),
      (4096 * ((69632 + 65536 * (p.opposite.line.idx % 2) + 4096 * (p.opposite.side % 2)) / 4096) + 16, 4096 * ((69632 + 65536 *
      (p.opposite.line.idx % 2) + 4096 * (p.opposite.side % 2)) / 4096) + 16),
      (69696 + 65536 * (p.opposite.line.idx % 2) + 4096 * (p.opposite.side % 2), 69696 + 65536 * (p.opposite.line.idx % 2) + 4096 *
      (p.opposite.side % 2)),
      (69704 + 65536 * (p.opposite.line.idx % 2) + 4096 * (p.opposite.side % 2), 69704 + 65536 * (p.opposite.line.idx % 2) + 4096 *
      (p.opposite.side % 2)),
      (69700 + 65536 * (p.opposite.line.idx % 2) + 4096 * (p.opposite.side % 2), 69700 + 65536 * (p.opposite.line.idx % 2) + 4096 *
      (p.opposite.side % 2)), (77912 + 65536 * (p.opposite.line.idx % 2), 77912 + 65536 * (p.opposite.line.idx % 2)),
      (69704 + 65536 * (p.line.idx % 2) + 4096 * (p.side % 2), 69704 + 65536 * (p.line.idx % 2) + 4096 * (p.side % 2)),
      (77912 + 65536 * (p.line.idx % 2), 77912 + 65536 * (p.line.idx % 2)),
      (77904 + 65536 * ((p.line.port true).line.idx % 2), 77904 + 65536 * ((p.line.port true).line.idx % 2)),
      (77908 + 65536 * ((p.line.port true).line.idx % 2), 77908 + 65536 * ((p.line.port true).line.idx % 2)),
      (77896 + 65536 * ((p.line.port true).line.idx % 2), 77896 + 65536 * ((p.line.port true).line.idx % 2)),
      (77900 + 65536 * ((p.line.port true).line.idx % 2), 77900 + 65536 * ((p.line.port true).line.idx % 2)),
      (77904 + 65536 * ((p.line.port false).line.idx % 2), 77904 + 65536 * ((p.line.port false).line.idx % 2)),
      (77908 + 65536 * ((p.line.port false).line.idx % 2), 77908 + 65536 * ((p.line.port false).line.idx % 2)),
      (77896 + 65536 * ((p.line.port false).line.idx % 2), 77896 + 65536 * ((p.line.port false).line.idx % 2)),
      (77900 + 65536 * ((p.line.port false).line.idx % 2), 77900 + 65536 * ((p.line.port false).line.idx % 2)),
      (77888 + 65536 * (p.line.idx % 2), 77888 + 65536 * (p.line.idx % 2)),
      (4096 * ((77824 + 65536 * (p.line.idx % 2)) / 4096) + 16, 4096 * ((77824 + 65536 * (p.line.idx % 2)) / 4096) + 16)]) s
      (State.portLinkUp s p rate rx tx isMaster) := by
  unfold State.portLinkUp
  refine Moves.ite (fun hc => ?_) (fun hc => ?_)
  · exact Moves.refl _
  · extract_lets -merge -underBinder +onlyGivenNames x1
    refine Moves.let_ x1 ?_ ?_
    · subst x1
      refine Moves.seq ?_ (State.put_moves _ _ _ (by first | (dsimp only [F.BL_P_STAT_TSTATE]; omega) | omega)) (Foot.sub1 (by decide +kernel) (Foot.holds_same (.head _)))
      refine Moves.seq ?_ (State.put_moves _ _ _ (by first | (dsimp only [F.BL_P_STAT_RATE]; omega) | omega)) (Foot.sub1 (by decide +kernel) (Foot.holds_same (.head _)))
      refine Moves.seq ?_ (State.putB_moves _ _ _ (by first | (dsimp only [F.BL_P_STAT_MASTER]; omega) | omega)) (Foot.sub1 (by decide +kernel) (Foot.holds_same (.head _)))
      refine Moves.seq ?_ (State.putB_moves _ _ _ (by first | (dsimp only [F.BL_P_STAT_LINK]; omega) | omega)) (Foot.sub1 (by decide +kernel) (Foot.holds_same (.head _)))
      exact Moves.refl _
    intro h1
    try clear_value x1
    extract_lets -merge -underBinder +onlyGivenNames x2
    refine Moves.let_ x2 ?_ ?_
    · subst x2
      refine Moves.seq ?_ (State.wr_moves _ _ (by first | (dsimp only [R.BL_P_LAT]; omega) | omega)) (Foot.sub1 (by decide +kernel) (Foot.holds_same (.tail _ (.head _))))
      refine Moves.seq ?_ (State.countChange_moves ..) (Foot.sub_at (by decide +kernel) (Foot.own_cons (Foot.holds_same (.tail _ (.tail _ (.head _)))) (Foot.own_cons (Foot.holds_same (.head _)) Foot.own_nil)))
      exact h1
    intro h2
    try clear_value x2
    extract_lets -merge -underBinder +onlyGivenNames x3
    refine Moves.let_ x3 ?_ ?_
    · subst x3
      split
      · refine Moves.ite (fun hc => ?_) (fun hc => ?_)
        · refine Moves.seq ?_ (State.raise_moves ..) (Foot.sub1 (by decide +kernel) (Foot.holds_same (.tail _ (.tail _ (.head _)))))
          exact h2
        · exact h2
      · exact h2
    intro h3
    try clear_value x3
    extract_lets -merge -underBinder +onlyGivenNames x4
    subst x4
    extract_lets -merge -underBinder +onlyGivenNames x5
    refine Moves.let_ x5 ?_ ?_
    · subst x5
      refine Moves.seq ?_ (State.setPort_moves ..) (Foot.sub0 (by decide +kernel))
      exact h3
    intro h5
    try clear_value x5
    extract_lets -merge -underBinder +onlyGivenNames x6
    refine Moves.let_ x6 ?_ ?_
    · subst x6
      refine Moves.seq ?_ (State.rateMatch_moves ..) (Foot.sub_at (by decide +kernel) (Foot.own_cons (Foot.holds_same (.tail _ (.tail _ (.tail _ (.head _))))) (Foot.own_cons (Foot.holds_same (.tail _ (.tail _ (.tail _ (.tail _ (.head _)))))) (Foot.own_cons (Foot.holds_same (.tail _ (.tail _ (.tail _ (.tail _ (.tail _ (.head _))))))) (Foot.own_cons (Foot.holds_same (.tail _ (.tail _ (.tail _ (.tail _ (.tail _ (.tail _ (.head _)))))))) (Foot.own_cons (Foot.holds_same (.tail _ (.tail _ (.tail _ (.tail _ (.tail _ (.tail _ (.tail _ (.head _))))))))) (Foot.own_cons (Foot.holds_same (.tail _ (.tail _ (.tail _ (.tail _ (.tail _ (.tail _ (.tail _ (.tail _ (.head _)))))))))) Foot.own_nil)))))))
      refine Moves.seq ?_ (State.flap_moves ..) (Foot.sub_at (by decide +kernel) (Foot.own_cons (Foot.holds_same (.tail _ (.tail _ (.head _)))) (Foot.own_cons (Foot.holds_same (.head _)) (Foot.own_cons (Foot.holds_same (.tail _ (.tail _ (.tail _ (.tail _ (.tail _ (.tail _ (.tail _ (.tail _ (.tail _ (.head _))))))))))) (Foot.own_cons (Foot.holds_same (.tail _ (.head _))) (Foot.own_cons (Foot.holds_same (.tail _ (.tail _ (.tail _ (.tail _ (.tail _ (.tail _ (.tail _ (.tail _ (.tail _ (.tail _ (.head _)))))))))))) Foot.own_nil))))))
      exact h5
    intro h6
    try clear_value x6
    refine Moves.seq ?_ (State.beamRefresh_moves ..) (Foot.sub_at (by decide +kernel) (Foot.own_cons (Foot.holds_same (.tail _ (.tail _ (.tail _ (.tail _ (.tail _ (.tail _ (.tail _ (.tail _ (.tail _ (.tail _ (.tail _ (.head _))))))))))))) (Foot.own_cons (Foot.holds_same (.tail _ (.tail _ (.tail _ (.tail _ (.tail _ (.tail _ (.tail _ (.tail _ (.tail _ (.tail _ (.tail _ (.tail _ (.head _)))))))))))))) (Foot.own_cons (Foot.holds_same (.tail _ (.tail _ (.tail _ (.tail _ (.tail _ (.tail _ (.tail _ (.tail _ (.tail _ (.tail _ (.tail _ (.tail _ (.tail _ (.head _))))))))))))))) (Foot.own_cons (Foot.holds_same (.tail _ (.tail _ (.tail _ (.tail _ (.tail _ (.tail _ (.tail _ (.tail _ (.tail _ (.tail _ (.tail _ (.tail _ (.tail _ (.tail _ (.head _)))))))))))))))) (Foot.own_cons (Foot.holds_same (.tail _ (.tail _ (.tail _ (.tail _ (.tail _ (.tail _ (.tail _ (.tail _ (.tail _ (.tail _ (.tail _ (.tail _ (.tail _ (.tail _ (.tail _ (.head _))))))))))))))))) (Foot.own_cons (Foot.holds_same (.tail _ (.tail _ (.tail _ (.tail _ (.tail _ (.tail _ (.tail _ (.tail _ (.tail _ (.tail _ (.tail _ (.tail _ (.tail _ (.tail _ (.tail _ (.tail _ (.head _)))))))))))))))))) (Foot.own_cons (Foot.holds_same (.tail _ (.tail _ (.tail _ (.tail _ (.tail _ (.tail _ (.tail _ (.tail _ (.tail _ (.tail _ (.tail _ (.tail _ (.tail _ (.tail _ (.tail _ (.tail _ (.tail _ (.head _))))))))))))))))))) (Foot.own_cons (Foot.holds_same (.tail _ (.tail _ (.tail _ (.tail _ (.tail _ (.tail _ (.tail _ (.tail _ (.tail _ (.tail _ (.tail _ (.tail _ (.tail _ (.tail _ (.tail _ (.tail _ (.tail _ (.tail _ (.head _)))))))))))))))))))) (Foot.own_cons (Foot.holds_same (.tail _ (.tail _ (.tail _ (.tail _ (.tail _ (.tail _ (.tail _ (.tail _ (.tail _ (.tail _ (.tail _ (.tail _ (.tail _ (.tail _ (.tail _ (.tail _ (.tail _ (.tail _ (.tail _ (.head _))))))))))))))))))))) (Foot.own_cons (Foot.holds_same (.tail _ (.tail _ (.tail _ (.tail _ (.tail _ (.tail _ (.tail _ (.tail _ (.tail _ (.tail _ (.tail _ (.tail _ (.tail _ (.tail _ (.tail _ (.tail _ (.tail _ (.tail _ (.tail _ (.tail _ (.head _)))))))))))))))))))))) Foot.own_nil)))))))))))
    refine Moves.seq ?_ (State.openingDone_moves ..) (Foot.sub0 (by decide +kernel))
    refine Moves.seq ?_ (State.trigger_moves ..) (Foot.sub0 (by decide +kernel))
    exact h6

def Foot.powerDownDone : Foot :=
  ⟨[], [], [.mem, .out, .evq, .evqCut, .evtCut, .allRegs, .acc, .lines, .ports, .top, .beam, .fab,
    .tim, .cans, .wake, .twn, .hlt, .sgw, .psc, .recorder, .pwr, .mgt]⟩

theorem State.powerDownDone_moves (s : State) (n : Nat) : Moves (Foot.powerDownDone.at []) s (State.powerDownDone s n) := by
  unfold State.powerDownDone
  refine Moves.ite (fun hc => ?_) (fun hc => ?_)
  · exact Moves.refl _
  · refine State.boundary_moves ?_ (Foot.sub1 (by decide +kernel) (Foot.holds_all (by decide +kernel))) (fun x1 h1 => ?_)
    · exact Moves.refl _
    · extract_lets -merge -underBinder +onlyGivenNames x2
      refine Moves.let_ x2 ?_ ?_
      · subst x2
        refine Moves.seq ?_ (State.raise_moves ..) (Foot.sub1 (by decide +kernel) (Foot.holds_all (by decide +kernel)))
        refine Moves.seq ?_ (State.setSeq_moves ..) (Foot.sub1 (by decide +kernel) (Foot.holds_all (by decide +kernel)))
        exact h1
      intro h2
      try clear_value x2
      refine Moves.seq ?_ (State.pairNext_moves ..) (Foot.sub0 (by decide +kernel))
      refine Moves.seq ?_ (State.modPwr_moves ..) (Foot.sub0 (by decide +kernel))
      exact h2

def Foot.powerDownStep : Foot :=
  ⟨[(0x000054, 0x000054), (0x002010, 0x002010), (0x002040, 0x002114), (0x005040, 0x005040), (0x011010,
    0x011010), (0x011040, 0x011048), (0x012010, 0x012010), (0x012040, 0x012048), (0x013058, 0x013058), (0x021010, 0x021010), (0x021040,
    0x021048), (0x022010, 0x022010), (0x022040, 0x022048), (0x023058, 0x023058), (0x060010, 0x060010), (0x060044, 0x060044), (0x090010,
    0x090010), (0x090058, 0x090064), (0x091010, 0x091010), (0x091050, 0x091058), (0x093060, 0x093060), (0x0A0040, 0x0A0040), (0x0C1048,
    0x0C10B8), (0x0C1100, 0x0C1100), (0x0F1044, 0x0F1044), (0x100010, 0x100010), (0x100064, 0x100064)], [], [.mem, .out, .evq, .evqCut,
    .evtCut, .acc, .lines, .ports, .top, .beam, .fab, .tim, .cans, .twn, .hlt, .sgw, .psc, .recorder, .pwr, .mgt]⟩

theorem State.powerDownStep_moves (s : State) (n : Nat) (step : Nat) :
    Moves (Foot.powerDownStep.at [(8320 + 4 * (n % 17), 8320 + 4 * (n % 17)), (4224 + 4 * (n % 17), 4224 + 4 * (n % 17)),
      (65536 * n, 65536 * n + 65535)]) s (State.powerDownStep s n step) := by
  unfold State.powerDownStep
  refine Moves.ite (fun hc => ?_) (fun hc => ?_)
  · refine Moves.ite (fun hc => ?_) (fun hc => ?_)
    · refine Moves.seq ?_ (State.startDown_moves ..) (Foot.sub_at (by decide +kernel) (Foot.own_cons (Foot.holds_same (.head _)) (Foot.own_cons (Foot.holds_same (.tail _ (.head _))) (Foot.own_cons (Foot.holds_same (.tail _ (.tail _ (.head _)))) Foot.own_nil))))
      exact Moves.refl _
    · exact Moves.refl _
  · refine Moves.ite (fun hc => ?_) (fun hc => ?_)
    · refine State.boundary_moves ?_ (Foot.sub1 (by decide +kernel) (Foot.holds_same (.head _))) (fun x1 h1 => ?_)
      · exact Moves.refl _
      · refine Moves.seq ?_ (State.setSeq_moves ..) (Foot.sub1 (by decide +kernel) (Foot.holds_same (.head _)))
        exact h1
    · exact Moves.refl _

end Sys2Proof.Machine
end

