-- ==== Sys2Proof/Laws/Foot14.lean ====
section
/-!
SUPPORT. What the operations may touch: one footprint and one lemma each.
-/

namespace Sys2Proof.Machine

set_option Elab.async false

def Foot.showOtp : Foot := ⟨[(0x000050, 0x000050)], [], []⟩

theorem State.showOtp_moves (s : State) : Moves (Foot.showOtp.at []) s (State.showOtp s) := by
  unfold State.showOtp
  refine Moves.seq ?_ (State.put_moves _ _ _ (by decide)) (Foot.sub1 (by decide +kernel) (Foot.holds_reg (by decide +kernel)))
  refine Moves.seq ?_ (State.putB_moves _ _ _ (by decide)) (Foot.sub1 (by decide +kernel) (Foot.holds_reg (by decide +kernel)))
  exact Moves.refl _

def Foot.powerOnRelease : Foot :=
  ⟨[], [], [.mem, .out, .evq, .evqCut, .evtCut, .allRegs, .acc, .clock, .lines, .ports, .top, .beam,
    .fab, .tim, .cans, .din, .twn, .hlt, .sgw, .psc, .recorder, .pwr, .mgt]⟩

theorem State.powerOnRelease_moves (s : State) (tpos : Bool) :
    Moves (Foot.powerOnRelease.at []) s (State.powerOnRelease s tpos) := by
  unfold State.powerOnRelease
  refine Moves.ite (fun hc => ?_) (fun hc => ?_)
  · exact Moves.refl _
  · extract_lets -merge -underBinder +onlyGivenNames x1
    subst x1
    extract_lets -merge -underBinder +onlyGivenNames x2
    refine Moves.let_ x2 ?_ ?_
    · subst x2
      refine Moves.seq ?_ (Moves.upd_mono5 _ _) (Foot.sub0 (by decide +kernel))
      refine Moves.seq ?_ (State.resetAll_moves ..) (Foot.sub0 (by decide +kernel))
      exact Moves.refl _
    intro h2
    try clear_value x2
    extract_lets -merge -underBinder +onlyGivenNames x3
    refine Moves.let_ x3 ?_ ?_
    · subst x3
      refine Moves.seq ?_ (State.putB_moves _ _ _ (by decide)) (Foot.sub1 (by decide +kernel) (Foot.holds_all (by decide +kernel)))
      refine Moves.seq ?_ (State.putB_moves _ _ _ (by decide)) (Foot.sub1 (by decide +kernel) (Foot.holds_all (by decide +kernel)))
      refine Moves.seq ?_ (State.showOtp_moves ..) (Foot.sub0 (by decide +kernel))
      exact h2
    intro h3
    try clear_value x3
    extract_lets -merge -underBinder +onlyGivenNames x4
    refine Moves.let_ x4 ?_ ?_
    · subst x4
      refine Moves.seq ?_ (State.dinRestart_moves ..) (Foot.sub0 (by decide +kernel))
      refine Moves.seq ?_ (State.modPwr_moves ..) (Foot.sub0 (by decide +kernel))
      exact h3
    intro h4
    try clear_value x4
    refine Moves.seq ?_ (State.beginUp_moves ..) (Foot.sub0 (by decide +kernel))
    refine Moves.seq ?_ (State.bootRegsReset_moves ..) (Foot.sub0 (by decide +kernel))
    exact h4

def Foot.powerUpDone : Foot :=
  ⟨[], [], [.mem, .out, .evq, .evqCut, .evtCut, .allRegs, .acc, .lines, .ports, .top, .beam, .fab, .tim,
    .cans, .wake, .twn, .hlt, .sgw, .psc, .recorder, .pwr, .mgt]⟩

theorem State.powerUpDone_moves (s : State) (n : Nat) : Moves (Foot.powerUpDone.at []) s (State.powerUpDone s n) := by
  unfold State.powerUpDone
  refine Moves.ite (fun hc => ?_) (fun hc => ?_)
  · exact Moves.refl _
  · refine State.boundary_moves ?_ (Foot.sub1 (by decide +kernel) (Foot.holds_all (by decide +kernel))) (fun x1 h1 => ?_)
    · exact Moves.refl _
    · extract_lets -merge -underBinder +onlyGivenNames x2
      refine Moves.let_ x2 ?_ ?_
      · subst x2
        refine Moves.seq ?_ (State.raise_moves ..) (Foot.sub1 (by decide +kernel) (Foot.holds_all (by decide +kernel)))
        refine Moves.seq ?_ (State.satInc_moves _ _ (by first | (dsimp only [F.SYS_PWR_SEQ_UPS]; omega) | omega)) (Foot.sub1 (by decide +kernel) (Foot.holds_all (by decide +kernel)))
        refine Moves.seq ?_ (State.setSeq_moves ..) (Foot.sub1 (by decide +kernel) (Foot.holds_all (by decide +kernel)))
        exact h1
      intro h2
      try clear_value x2
      refine Moves.seq ?_ (State.pairNext_moves ..) (Foot.sub0 (by decide +kernel))
      refine Moves.seq ?_ (State.islandOn_moves ..) (Foot.sub_at (by decide +kernel) (Foot.own_cons (Foot.holds_all (by decide +kernel)) (Foot.own_cons (Foot.holds_all (by decide +kernel)) Foot.own_nil)))
      exact h2

def Foot.repairFill : Foot := ⟨[(0x000010, 0x000010), (0x000050, 0x000050)], [], [.pwr]⟩

theorem State.repairFill_moves (s : State) : Moves (Foot.repairFill.at []) s (State.repairFill s) := by
  unfold State.repairFill
  split
  · refine Moves.seq ?_ (State.putB_moves _ _ _ (by decide)) (Foot.sub1 (by decide +kernel) (Foot.holds_reg (by decide +kernel)))
    refine Moves.seq ?_ (State.modPwr_moves ..) (Foot.sub0 (by decide +kernel))
    exact Moves.refl _
  · extract_lets -merge -underBinder +onlyGivenNames x1
    refine Moves.let_ x1 ?_ ?_
    · subst x1
      refine Moves.seq ?_ (State.modPwr_moves ..) (Foot.sub0 (by decide +kernel))
      exact Moves.refl _
    intro h1
    try clear_value x1
    refine Moves.seq ?_ (State.raise_moves ..) (Foot.sub1 (by decide +kernel) (Foot.holds_reg (by decide +kernel)))
    refine Moves.seq ?_ (State.putB_moves _ _ _ (by decide)) (Foot.sub1 (by decide +kernel) (Foot.holds_reg (by decide +kernel)))
    exact h1

def Foot.powerUpStep : Foot :=
  ⟨[(0x000010, 0x000010), (0x000050, 0x000050), (0x002010, 0x002010), (0x002104, 0x002104), (0x00210C,
    0x00210C), (0x002114, 0x002114)], [], [.pwr]⟩

theorem State.powerUpStep_moves (s : State) (n : Nat) (step : Nat) :
    Moves (Foot.powerUpStep.at [(8320 + 4 * (n % 17), 8320 + 4 * (n % 17))]) s (State.powerUpStep s n step) := by
  unfold State.powerUpStep
  refine Moves.ite (fun hc => ?_) (fun hc => ?_)
  · refine Moves.ite (fun hc => ?_) (fun hc => ?_)
    · extract_lets -merge -underBinder +onlyGivenNames x1
      refine Moves.let_ x1 ?_ ?_
      · subst x1
        refine Moves.ite (fun hc => ?_) (fun hc => ?_)
        · refine Moves.seq ?_ (State.repairFill_moves ..) (Foot.sub0 (by decide +kernel))
          exact Moves.refl _
        · exact Moves.refl _
      intro h1
      try clear_value x1
      refine Moves.seq ?_ (State.dvfsUp_moves ..) (Foot.sub0 (by decide +kernel))
      refine Moves.seq ?_ (State.setSeq_moves ..) (Foot.sub1 (by decide +kernel) (Foot.holds_same (.head _)))
      refine Moves.seq ?_ (State.modPwr_moves ..) (Foot.sub0 (by decide +kernel))
      exact h1
    · exact Moves.refl _
  · refine Moves.ite (fun hc => ?_) (fun hc => ?_)
    · refine State.boundary_moves ?_ (Foot.sub1 (by decide +kernel) (Foot.holds_same (.head _))) (fun x2 h2 => ?_)
      · exact Moves.refl _
      · refine Moves.seq ?_ (State.setSeq_moves ..) (Foot.sub1 (by decide +kernel) (Foot.holds_same (.head _)))
        exact h2
    · exact Moves.refl _

def Foot.probeAct : Foot := ⟨[], [], [.beam]⟩

theorem State.probeAct_moves (s : State) (p : BPort) (tRx : Nat) (b : BeamFrame) :
    Moves (Foot.probeAct.at [(77912 + 65536 * (p.line.idx % 2), 77912 + 65536 * (p.line.idx % 2)),
      (77904 + 65536 * (p.opposite.line.idx % 2), 77904 + 65536 * (p.opposite.line.idx % 2)),
      (77908 + 65536 * (p.opposite.line.idx % 2), 77908 + 65536 * (p.opposite.line.idx % 2))]) s (State.probeAct s p tRx b) := by
  unfold State.probeAct
  extract_lets -merge -underBinder +onlyGivenNames x1
  subst x1
  extract_lets -merge -underBinder +onlyGivenNames x2
  subst x2
  extract_lets -merge -underBinder +onlyGivenNames x3
  subst x3
  extract_lets -merge -underBinder +onlyGivenNames x4
  subst x4
  extract_lets -merge -underBinder +onlyGivenNames x5
  subst x5
  extract_lets -merge -underBinder +onlyGivenNames x6
  subst x6
  extract_lets -merge -underBinder +onlyGivenNames x7
  refine Moves.let_ x7 ?_ ?_
  · subst x7
    refine Moves.seq ?_ (Moves.upd_beam _ _) (Foot.sub0 (by decide +kernel))
    exact Moves.refl _
  intro h7
  try clear_value x7
  extract_lets -merge -underBinder +onlyGivenNames x8
  refine Moves.let_ x8 ?_ ?_
  · subst x8
    refine Moves.seq ?_ (State.put_moves _ _ _ (by (try dsimp only [F.BL_BEAM_LDLY_P1, F.BL_BEAM_LDLY_P2]); split <;> (try dsimp only) <;> first | decide | omega)) (Foot.sub1 (by decide +kernel) (by (try dsimp only [F.BL_BEAM_LDLY_P1, F.BL_BEAM_LDLY_P2]); split <;> (try dsimp only) <;> first | exact (Foot.holds_same (.head _))))
    exact h7
  intro h8
  try clear_value x8
  extract_lets -merge -underBinder +onlyGivenNames x9
  subst x9
  refine Moves.ite (fun hc => ?_) (fun hc => ?_)
  · refine Moves.seq ?_ (State.put_moves _ _ _ (by (try dsimp only [dcumFld, F.BL_BEAM_DCUMD_D, F.BL_BEAM_DCUMU_D]); split <;> (try dsimp only) <;> first | decide | omega)) (Foot.sub1 (by decide +kernel) (by (try dsimp only [dcumFld, F.BL_BEAM_DCUMD_D, F.BL_BEAM_DCUMU_D]); split <;> (try dsimp only) <;> first | exact (Foot.holds_same (.tail _ (.head _))) | exact (Foot.holds_same (.tail _ (.tail _ (.head _))))))
    exact h8
  · refine Moves.seq ?_ (State.put_moves _ _ _ (by (try dsimp only [dcumFld, F.BL_BEAM_DCUMD_D, F.BL_BEAM_DCUMU_D]); split <;> (try dsimp only) <;> first | decide | omega)) (Foot.sub1 (by decide +kernel) (by (try dsimp only [dcumFld, F.BL_BEAM_DCUMD_D, F.BL_BEAM_DCUMU_D]); split <;> (try dsimp only) <;> first | exact (Foot.holds_same (.tail _ (.head _))) | exact (Foot.holds_same (.tail _ (.tail _ (.head _))))))
    exact h8

def Foot.probeRx : Foot := ⟨[], [], [.beam]⟩

theorem State.probeRx_moves (s : State) (p : BPort) (tRx : Nat) (b : BeamFrame) :
    Moves (Foot.probeRx.at [(77916 + 65536 * (p.line.idx % 2), 77916 + 65536 * (p.line.idx % 2)),
      (77912 + 65536 * (p.line.idx % 2), 77912 + 65536 * (p.line.idx % 2)),
      (77904 + 65536 * (p.opposite.line.idx % 2), 77904 + 65536 * (p.opposite.line.idx % 2)),
      (77908 + 65536 * (p.opposite.line.idx % 2), 77908 + 65536 * (p.opposite.line.idx % 2))]) s (State.probeRx s p tRx b) := by
  unfold State.probeRx
  refine Moves.ite (fun hc => ?_) (fun hc => ?_)
  · exact Moves.refl _
  · extract_lets -merge -underBinder +onlyGivenNames x1
    subst x1
    refine Moves.ite (fun hc => ?_) (fun hc => ?_)
    · refine Moves.seq ?_ (State.probeAct_moves ..) (Foot.sub_at (by decide +kernel) (Foot.own_cons (Foot.holds_same (.tail _ (.head _))) (Foot.own_cons (Foot.holds_same (.tail _ (.tail _ (.head _)))) (Foot.own_cons (Foot.holds_same (.tail _ (.tail _ (.tail _ (.head _))))) Foot.own_nil))))
      refine Moves.seq ?_ (State.beamCheck_moves ..) (Foot.sub1 (by decide +kernel) (Foot.holds_same (.head _)))
      exact Moves.refl _
    · refine Moves.seq ?_ (State.beamCheck_moves ..) (Foot.sub1 (by decide +kernel) (Foot.holds_same (.head _)))
      exact Moves.refl _

def Foot.probeSend : Foot := ⟨[], [], [.out, .beam]⟩

theorem State.probeSend_moves (s : State) (p : BPort) (tTx : Nat) :
    Moves (Foot.probeSend.at [(77928 + 65536 * (p.line.idx % 2), 77928 + 65536 * (p.line.idx % 2))]) s (State.probeSend s p tTx) := by
  unfold State.probeSend
  extract_lets -merge -underBinder +onlyGivenNames x1
  subst x1
  refine Moves.ite (fun hc => ?_) (fun hc => ?_)
  · exact Moves.refl _
  · extract_lets -merge -underBinder +onlyGivenNames x2
    subst x2
    extract_lets -merge -underBinder +onlyGivenNames x3
    refine Moves.let_ x3 ?_ ?_
    · subst x3
      refine Moves.seq ?_ (Moves.upd_beam _ _) (Foot.sub0 (by decide +kernel))
      exact Moves.refl _
    intro h3
    try clear_value x3
    refine Moves.seq ?_ (State.inserted_moves ..) (Foot.sub1 (by decide +kernel) (Foot.holds_same (.head _)))
    refine Moves.seq ?_ (State.emit_moves ..) (Foot.sub0 (by decide +kernel))
    exact h3

def Foot.recCatchUp : Foot := ⟨[], [], [.recorder]⟩

theorem State.recCatchUp_moves (s : State) (q : Requester) : Moves (Foot.recCatchUp.at []) s (State.recCatchUp s q) := by
  unfold State.recCatchUp
  refine Moves.ite (fun hc => ?_) (fun hc => ?_)
  · refine Moves.seq ?_ (State.setCur_moves ..) (Foot.sub0 (by decide +kernel))
    exact Moves.refl _
  · exact Moves.refl _

def Foot.recTake : Foot := ⟨[], [], [.recorder]⟩

theorem State.recTake_moves (s : State) (q : Requester) (ue : Bool) : Moves (Foot.recTake.at []) s (State.recTake s q ue) := by
  unfold State.recTake
  refine Moves.ite (fun hc => ?_) (fun hc => ?_)
  · exact Moves.refl _
  · extract_lets -merge -underBinder +onlyGivenNames x1
    subst x1
    extract_lets -merge -underBinder +onlyGivenNames x2
    subst x2
    refine Moves.seq ?_ (State.setCur_moves ..) (Foot.sub0 (by decide +kernel))
    refine Moves.seq ?_ (State.modRec_moves ..) (Foot.sub0 (by decide +kernel))
    exact Moves.refl _

def Foot.recPop : Foot := ⟨[], [], [.fresh, .recorder]⟩

theorem State.recPop_moves (q : Requester) (ue : Bool) (s : State) : Moves (Foot.recPop.at []) s ((State.recPop q ue s)).2 := by
  unfold State.recPop
  refine Moves.seq ?_ (State.used_moves ..) (Foot.sub0 (by decide +kernel))
  refine Moves.seq ?_ (State.recTake_moves ..) (Foot.sub0 (by decide +kernel))
  refine Moves.seq ?_ (State.recCatchUp_moves ..) (Foot.sub0 (by decide +kernel))
  exact Moves.refl _

def Foot.readReg : Foot := ⟨[(0x062040, 0x062040), (0x070040, 0x070040), (0x080040, 0x080040)], [], [.fresh, .acc, .recorder]⟩

theorem State.readReg_moves (s : State) (q : Requester) (off : Nat) : Moves (Foot.readReg.at []) s ((State.readReg s q off)).2 := by
  unfold State.readReg
  extract_lets -merge -underBinder +onlyGivenNames x1
  subst x1
  extract_lets -merge -underBinder +onlyGivenNames x2
  subst x2
  extract_lets -merge -underBinder +onlyGivenNames x3
  refine Moves.let_ x3 ?_ ?_
  · subst x3
    refine Moves.seq ?_ (Moves.upd_fresh _ _) (Foot.sub0 (by decide +kernel))
    exact Moves.refl _
  intro h3
  try clear_value x3
  refine Moves.ite_snd (fun hc => ?_) (fun hc => ?_)
  · refine Moves.seq ?_ (State.recPop_moves ..) (Foot.sub0 (by decide +kernel))
    exact h3
  · refine Moves.ite_snd (fun hc => ?_) (fun hc => ?_)
    · extract_lets -merge -underBinder +onlyGivenNames x4
      refine Moves.let_ x4 ?_ ?_
      · subst x4
        refine Moves.seq ?_ (State.setLatch_moves ..) (Foot.sub0 (by decide +kernel))
        exact h3
      intro h4
      try clear_value x4
      refine Moves.ite (fun hc => ?_) (fun hc => ?_)
      · refine Moves.seq ?_ (State.imgNext_moves ..) (Foot.sub0 (by decide +kernel))
        exact h4
      · refine Moves.ite (fun hc => ?_) (fun hc => ?_)
        · refine Moves.seq ?_ (State.mdataNext_moves ..) (Foot.sub1 (by decide +kernel) (Foot.holds_reg (by decide +kernel)))
          exact h4
        · refine Moves.ite (fun hc => ?_) (fun hc => ?_)
          · refine Moves.seq ?_ (State.mdataNext_moves ..) (Foot.sub1 (by decide +kernel) (Foot.holds_reg (by decide +kernel)))
            exact h4
          · exact h4
    · refine Moves.ite_snd (fun hc => ?_) (fun hc => ?_)
      · split
        · refine Moves.ite_snd (fun hc => ?_) (fun hc => ?_)
          · refine Moves.seq ?_ (State.setLatch_moves ..) (Foot.sub0 (by decide +kernel))
            exact Moves.refl _
          · exact h3
        · exact h3
      · exact h3

def Foot.readAny : Foot :=
  ⟨[(0x006048, 0x006048), (0x062040, 0x062040), (0x070040, 0x070040), (0x080040, 0x080040), (0x0B0010,
    0x0B0010), (0x0B0048, 0x0B004C)], [], [.out, .evq, .fresh, .acc, .recorder]⟩

theorem State.readAny_moves (s : State) (q : Requester) (off : Nat) :
    Moves (Foot.readAny.at [(4096 * (pageOf off / 4096) + 36, 4096 * (pageOf off / 4096) + 36)]) s (State.readAny s q off) := by
  unfold State.readAny
  refine State.carryRead_moves ?_ (Foot.sub1 (by decide +kernel) (Foot.holds_same (.head _))) (fun x1 h1 => ?_)
  · exact Moves.refl _
  · refine Moves.seq ?_ (State.readReg_moves ..) (Foot.sub0 (by decide +kernel))
    exact h1

def Foot.pscExecute : Foot :=
  ⟨[], [], [.mem, .out, .outCut, .evq, .evqCut, .evtCut, .allRegs, .fresh, .acc, .lines, .ports, .top,
    .beam, .fab, .tim, .cans, .wake, .din, .twn, .hlt, .sgw, .psc, .recorder, .pwr, .mgt]⟩

theorem State.pscExecute_moves (s : State) : Moves (Foot.pscExecute.at []) s (State.pscExecute s) := by
  unfold State.pscExecute
  refine Moves.ite (fun hc => ?_) (fun hc => ?_)
  · exact Moves.refl _
  · split
    · exact Moves.refl _
    · extract_lets -merge -underBinder +onlyGivenNames x1
      refine Moves.let_ x1 ?_ ?_
      · subst x1
        refine Moves.seq ?_ (State.modPsc_moves ..) (Foot.sub0 (by decide +kernel))
        exact Moves.refl _
      intro h1
      try clear_value x1
      extract_lets -merge -underBinder +onlyGivenNames x2
      subst x2
      try dsimp -zeta only
      extract_lets -merge -underBinder +onlyGivenNames x3
      subst x3
      extract_lets -merge -underBinder +onlyGivenNames x4
      subst x4
      extract_lets -merge -underBinder +onlyGivenNames x5
      subst x5
      extract_lets -merge -underBinder +onlyGivenNames x6
      subst x6
      try dsimp -zeta only
      split
      · refine Moves.ite (fun hc => ?_) (fun hc => ?_)
        · extract_lets -merge -underBinder +onlyGivenNames x7
          refine Moves.let_ x7 ?_ ?_
          · subst x7
            refine Moves.seq ?_ (State.post_moves ..) (Foot.sub0 (by decide +kernel))
            refine Moves.seq ?_ (State.raise_moves ..) (Foot.sub1 (by decide +kernel) (Foot.holds_all (by decide +kernel)))
            refine Moves.seq ?_ (State.satInc_moves _ _ (by decide)) (Foot.sub1 (by decide +kernel) (Foot.holds_all (by decide +kernel)))
            exact h1
          intro h7
          try clear_value x7
          refine Moves.seq ?_ (State.pscReply_moves ..) (Foot.sub0 (by decide +kernel))
          exact h7
        · refine Moves.ite (fun hc => ?_) (fun hc => ?_)
          · refine Moves.seq ?_ (State.pscReply_moves ..) (Foot.sub0 (by decide +kernel))
            refine Moves.seq ?_ (State.unmappedAccess_moves ..) (Foot.sub0 (by decide +kernel))
            exact h1
          · refine Moves.ite (fun hc => ?_) (fun hc => ?_)
            · refine Moves.seq ?_ (State.pscReply_moves ..) (Foot.sub0 (by decide +kernel))
              exact h1
            · extract_lets -merge -underBinder +onlyGivenNames x8
              subst x8
              extract_lets -merge -underBinder +onlyGivenNames x9
              refine Moves.let_ x9 ?_ ?_
              · subst x9
                refine Moves.seq ?_ (State.readAny_moves ..) (Foot.sub1 (by decide +kernel) (Foot.holds_all (by decide +kernel)))
                exact h1
              intro h9
              try clear_value x9
              extract_lets -merge -underBinder +onlyGivenNames x10
              subst x10
              refine Moves.seq ?_ (State.pscReply_moves ..) (Foot.sub0 (by decide +kernel))
              refine Moves.seq ?_ (Moves.upd_out_cut _ _) (Foot.sub0 (by decide +kernel))
              exact h9
      · refine Moves.ite (fun hc => ?_) (fun hc => ?_)
        · extract_lets -merge -underBinder +onlyGivenNames x11
          refine Moves.let_ x11 ?_ ?_
          · subst x11
            refine Moves.seq ?_ (State.post_moves ..) (Foot.sub0 (by decide +kernel))
            refine Moves.seq ?_ (State.raise_moves ..) (Foot.sub1 (by decide +kernel) (Foot.holds_all (by decide +kernel)))
            refine Moves.seq ?_ (State.satInc_moves _ _ (by decide)) (Foot.sub1 (by decide +kernel) (Foot.holds_all (by decide +kernel)))
            refine Moves.seq ?_ (State.countWrite_moves ..) (Foot.sub0 (by decide +kernel))
            exact h1
          intro h11
          try clear_value x11
          refine Moves.seq ?_ (State.pscReply_moves ..) (Foot.sub0 (by decide +kernel))
          exact h11
        · extract_lets -merge -underBinder +onlyGivenNames x12
          subst x12
          extract_lets -merge -underBinder +onlyGivenNames x13
          refine Moves.let_ x13 ?_ ?_
          · subst x13
            refine Moves.seq ?_ (State.writeAny_moves ..) (Foot.sub0 (by decide +kernel))
            exact h1
          intro h13
          try clear_value x13
          refine Moves.ite (fun hc => ?_) (fun hc => ?_)
          · refine Moves.seq ?_ (State.pscReply_moves ..) (Foot.sub0 (by decide +kernel))
            refine Moves.seq ?_ (State.countWrite_moves ..) (Foot.sub0 (by decide +kernel))
            exact h13
          · exact h13
      · extract_lets -merge -underBinder +onlyGivenNames x14
        subst x14
        refine Moves.seq ?_ (State.pscReply_moves ..) (Foot.sub0 (by decide +kernel))
        refine Moves.seq ?_ (State.setPair_moves ..) (Foot.sub0 (by decide +kernel))
        exact h1
      · refine Moves.ite (fun hc => ?_) (fun hc => ?_)
        · extract_lets -merge -underBinder +onlyGivenNames x15
          refine Moves.let_ x15 ?_ ?_
          · subst x15
            refine Moves.seq ?_ (State.post_moves ..) (Foot.sub0 (by decide +kernel))
            refine Moves.seq ?_ (State.raise_moves ..) (Foot.sub1 (by decide +kernel) (Foot.holds_all (by decide +kernel)))
            refine Moves.seq ?_ (State.satInc_moves _ _ (by decide)) (Foot.sub1 (by decide +kernel) (Foot.holds_all (by decide +kernel)))
            exact h1
          intro h15
          try clear_value x15
          refine Moves.seq ?_ (State.pscReply_moves ..) (Foot.sub0 (by decide +kernel))
          exact h15
        · refine Moves.seq ?_ (State.pscReply_moves ..) (Foot.sub0 (by decide +kernel))
          exact h1

def Foot.pscTimeout : Foot := ⟨[(0x0C1010, 0x0C1010), (0x0C1048, 0x0C10BC), (0x0C1100, 0x0C1104)], [], [.out, .fresh, .psc]⟩

theorem State.pscTimeout_moves (s : State) (bar2 : Nat) : Moves (Foot.pscTimeout.at []) s (State.pscTimeout s bar2) := by
  unfold State.pscTimeout
  split
  · exact Moves.refl _
  · extract_lets -merge -underBinder +onlyGivenNames x1
    refine Moves.let_ x1 ?_ ?_
    · subst x1
      refine Moves.seq ?_ (State.modPsc_moves ..) (Foot.sub0 (by decide +kernel))
      exact Moves.refl _
    intro h1
    try clear_value x1
    extract_lets -merge -underBinder +onlyGivenNames x2
    refine Moves.let_ x2 ?_ ?_
    · subst x2
      refine Moves.seq ?_ (State.satInc_moves _ _ (by first | (dsimp only [F.PSC_WIN_CNT_TMO]; omega) | omega)) (Foot.sub1 (by decide +kernel) (Foot.holds_range 790604 790716 (by decide +kernel) (by first | (dsimp only [F.PSC_WIN_CNT_TMO]; omega) | omega) (by first | (dsimp only [F.PSC_WIN_CNT_TMO]; omega) | omega)))
      exact h1
    intro h2
    try clear_value x2
    split
    · refine Moves.seq ?_ (State.pscDone_moves ..) (Foot.sub1 (by decide +kernel) (Foot.holds_range 790600 790712 (by decide +kernel) (by first | omega | (dsimp only; omega)) (by first | omega | (dsimp only; omega))))
      exact h2
    · refine Moves.ite (fun hc => ?_) (fun hc => ?_)
      · refine Moves.seq ?_ (State.pscDone_moves ..) (Foot.sub1 (by decide +kernel) (Foot.holds_range 790600 790712 (by decide +kernel) (by first | omega | (dsimp only; omega)) (by first | omega | (dsimp only; omega))))
        refine Moves.seq ?_ (State.raise_moves ..) (Foot.sub1 (by decide +kernel) (Foot.holds_reg (by decide +kernel)))
        exact h2
      · refine Moves.ite (fun hc => ?_) (fun hc => ?_)
        · refine Moves.seq ?_ (State.pscDone_moves ..) (Foot.sub1 (by decide +kernel) (Foot.holds_range 790600 790712 (by decide +kernel) (by first | omega | (dsimp only; omega)) (by first | omega | (dsimp only; omega))))
          exact h2
        · extract_lets -merge -underBinder +onlyGivenNames x3
          subst x3
          split
          · extract_lets -merge -underBinder +onlyGivenNames x4
            refine Moves.let_ x4 ?_ ?_
            · subst x4
              refine Moves.seq ?_ (State.drbFollow_moves ..) (Foot.sub0 (by decide +kernel))
              refine Moves.seq ?_ (State.modPsc_moves ..) (Foot.sub0 (by decide +kernel))
              refine Moves.seq ?_ (State.used_moves ..) (Foot.sub0 (by decide +kernel))
              exact h2
            intro h4
            try clear_value x4
            refine Moves.seq ?_ (State.pscDone_moves ..) (Foot.sub1 (by decide +kernel) (Foot.holds_range 790600 790712 (by decide +kernel) (by first | omega | (dsimp only; omega)) (by first | omega | (dsimp only; omega))))
            refine Moves.seq ?_ (State.raise_moves ..) (Foot.sub1 (by decide +kernel) (Foot.holds_reg (by decide +kernel)))
            exact h4
          · extract_lets -merge -underBinder +onlyGivenNames x5
            refine Moves.let_ x5 ?_ ?_
            · subst x5
              refine Moves.seq ?_ (State.outFollow_moves ..) (Foot.sub1 (by decide +kernel) (Foot.holds_range 790600 790712 (by decide +kernel) (by first | omega | (dsimp only; omega)) (by first | omega | (dsimp only; omega))))
              refine Moves.seq ?_ (State.modPsc_moves ..) (Foot.sub0 (by decide +kernel))
              exact h2
            intro h5
            try clear_value x5
            refine Moves.seq ?_ (State.pscDone_moves ..) (Foot.sub1 (by decide +kernel) (Foot.holds_range 790600 790712 (by decide +kernel) (by first | omega | (dsimp only; omega)) (by first | omega | (dsimp only; omega))))
            refine Moves.seq ?_ (State.raise_moves ..) (Foot.sub1 (by decide +kernel) (Foot.holds_reg (by decide +kernel)))
            refine Moves.seq ?_ (State.satInc_moves _ _ (by decide)) (Foot.sub1 (by decide +kernel) (Foot.holds_reg (by decide +kernel)))
            exact h5

def Foot.pulseRx : Foot := ⟨[(0x003010, 0x003010), (0x003064, 0x003064)], [], []⟩

theorem State.pulseRx_moves (s : State) : Moves (Foot.pulseRx.at []) s (State.pulseRx s) := by
  unfold State.pulseRx
  refine Moves.ite (fun hc => ?_) (fun hc => ?_)
  · exact Moves.refl _
  · refine Moves.seq ?_ (State.raise_moves ..) (Foot.sub1 (by decide +kernel) (Foot.holds_reg (by decide +kernel)))
    refine Moves.seq ?_ (State.satInc_moves _ _ (by decide)) (Foot.sub1 (by decide +kernel) (Foot.holds_reg (by decide +kernel)))
    exact Moves.refl _

def Foot.reading : Foot := ⟨[], [], []⟩

theorem State.reading_moves (s : State) (k : Nat) (v : Nat) :
    Moves (Foot.reading.at [(995392 + 4 * (k % 10), 995392 + 4 * (k % 10))]) s (State.reading s k v) := by
  unfold State.reading
  extract_lets -merge -underBinder +onlyGivenNames x1
  refine Moves.let_ x1 ?_ ?_
  · subst x1
    refine Moves.seq ?_ (State.put_moves _ _ _ (by first | (dsimp only [F.HLT_SENS_V_VALUE]; omega) | omega)) (Foot.sub1 (by decide +kernel) (Foot.holds_same (.head _)))
    exact Moves.refl _
  intro h1
  try clear_value x1
  extract_lets -merge -underBinder +onlyGivenNames x2
  subst x2
  refine Moves.ite (fun hc => ?_) (fun hc => ?_)
  · refine Moves.seq ?_ (State.put_moves _ _ _ (by first | (dsimp only [F.HLT_SENS_V_MAX]; omega) | omega)) (Foot.sub1 (by decide +kernel) (Foot.holds_same (.head _)))
    exact h1
  · exact h1

def Foot.reasonClear : Foot :=
  ⟨[(0x000054, 0x000054), (0x0F0010, 0x0F0010), (0x0F0040, 0x0F0040), (0x0F0080, 0x0F0080), (0x0F306C,
    0x0F306C)], [], [.evq, .hlt, .pwr]⟩

theorem State.reasonClear_moves (s : State) (isl : Nat) (bit : Nat) (item : Nat) (v : Nat) :
    Moves (Foot.reasonClear.at [(69704 + 65536 * ((bportOf item).line.idx % 2) + 4096 * ((bportOf item).side % 2), 69704 + 65536 *
      ((bportOf item).line.idx % 2) + 4096 * ((bportOf item).side % 2)),
      (983168 + 4 * (lineIsland (bportOf item).line % 17), 983168 + 4 * (lineIsland (bportOf item).line % 17)),
      (995392 + 4 * (item % 10), 995392 + 4 * (item % 10)),
      (983168 + 4 * (isl % 17), 983168 + 4 * (isl % 17))]) s (State.reasonClear s isl bit item v) := by
  unfold State.reasonClear
  extract_lets -merge -underBinder +onlyGivenNames x1
  subst x1
  split
  · refine Moves.ite (fun hc => ?_) (fun hc => ?_)
    · exact Moves.refl _
    · extract_lets -merge -underBinder +onlyGivenNames x2
      refine Moves.let_ x2 ?_ ?_
      · subst x2
        refine Moves.seq ?_ (State.put_moves _ _ _ (by first | (dsimp only [F.BL_P_SNR_MARGIN]; omega) | omega)) (Foot.sub1 (by decide +kernel) (Foot.holds_same (.head _)))
        exact Moves.refl _
      intro h2
      try clear_value x2
      refine Moves.ite (fun hc => ?_) (fun hc => ?_)
      · exact h2
      · refine Moves.seq ?_ (State.snrReasons_moves ..) (Foot.sub1 (by decide +kernel) (Foot.holds_same (.tail _ (.head _))))
        refine Moves.seq ?_ (State.modHlt_moves ..) (Foot.sub0 (by decide +kernel))
        exact h2
  · refine Moves.ite (fun hc => ?_) (fun hc => ?_)
    · exact Moves.refl _
    · extract_lets -merge -underBinder +onlyGivenNames x3
      refine Moves.let_ x3 ?_ ?_
      · subst x3
        refine Moves.seq ?_ (State.put_moves _ _ _ (by first | (dsimp only [F.BL_P_SNR_MARGIN]; omega) | omega)) (Foot.sub1 (by decide +kernel) (Foot.holds_same (.head _)))
        exact Moves.refl _
      intro h3
      try clear_value x3
      refine Moves.ite (fun hc => ?_) (fun hc => ?_)
      · exact h3
      · refine Moves.seq ?_ (State.snrReasons_moves ..) (Foot.sub1 (by decide +kernel) (Foot.holds_same (.tail _ (.head _))))
        refine Moves.seq ?_ (State.modHlt_moves ..) (Foot.sub0 (by decide +kernel))
        exact h3
  · extract_lets -merge -underBinder +onlyGivenNames x4
    refine Moves.let_ x4 ?_ ?_
    · subst x4
      refine Moves.ite (fun hc => ?_) (fun hc => ?_)
      · refine Moves.seq ?_ (State.reading_moves ..) (Foot.sub1 (by decide +kernel) (Foot.holds_same (.tail _ (.tail _ (.head _)))))
        exact Moves.refl _
      · exact Moves.refl _
    intro h4
    try clear_value x4
    refine Moves.ite (fun hc => ?_) (fun hc => ?_)
    · refine Moves.seq ?_ (State.tempReasons_moves ..) (Foot.sub0 (by decide +kernel))
      refine Moves.seq ?_ (State.modHlt_moves ..) (Foot.sub0 (by decide +kernel))
      exact h4
    · exact h4
  · extract_lets -merge -underBinder +onlyGivenNames x5
    refine Moves.let_ x5 ?_ ?_
    · subst x5
      refine Moves.ite (fun hc => ?_) (fun hc => ?_)
      · refine Moves.seq ?_ (State.reading_moves ..) (Foot.sub1 (by decide +kernel) (Foot.holds_same (.tail _ (.tail _ (.head _)))))
        exact Moves.refl _
      · exact Moves.refl _
    intro h5
    try clear_value x5
    refine Moves.ite (fun hc => ?_) (fun hc => ?_)
    · refine Moves.seq ?_ (State.tempReasons_moves ..) (Foot.sub0 (by decide +kernel))
      refine Moves.seq ?_ (State.modHlt_moves ..) (Foot.sub0 (by decide +kernel))
      exact h5
    · exact h5
  · refine Moves.ite (fun hc => ?_) (fun hc => ?_)
    · exact Moves.refl _
    · extract_lets -merge -underBinder +onlyGivenNames x6
      refine Moves.let_ x6 ?_ ?_
      · subst x6
        refine Moves.seq ?_ (State.reading_moves ..) (Foot.sub1 (by decide +kernel) (Foot.holds_same (.tail _ (.tail _ (.head _)))))
        exact Moves.refl _
      intro h6
      try clear_value x6
      refine Moves.ite (fun hc => ?_) (fun hc => ?_)
      · exact h6
      · refine Moves.seq ?_ (State.voltReason_moves ..) (Foot.sub1 (by decide +kernel) (Foot.holds_same (.tail _ (.tail _ (.tail _ (.head _))))))
        refine Moves.seq ?_ (State.modHlt_moves ..) (Foot.sub0 (by decide +kernel))
        exact h6
  · refine Moves.ite (fun hc => ?_) (fun hc => ?_)
    · exact Moves.refl _
    · refine Moves.seq ?_ (State.clockReason_moves ..) (Foot.sub0 (by decide +kernel))
      refine Moves.seq ?_ (State.modHlt_moves ..) (Foot.sub0 (by decide +kernel))
      exact Moves.refl _
  · refine Moves.seq ?_ (State.follow_moves ..) (Foot.sub1 (by decide +kernel) (Foot.holds_reg (by decide +kernel)))
    refine Moves.seq ?_ (State.modPwr_moves ..) (Foot.sub0 (by decide +kernel))
    exact Moves.refl _
  · refine Moves.ite (fun hc => ?_) (fun hc => ?_)
    · exact Moves.refl _
    · extract_lets -merge -underBinder +onlyGivenNames x7
      refine Moves.let_ x7 ?_ ?_
      · subst x7
        refine Moves.seq ?_ (State.reading_moves ..) (Foot.sub1 (by decide +kernel) (Foot.holds_same (.tail _ (.tail _ (.head _)))))
        exact Moves.refl _
      intro h7
      try clear_value x7
      refine Moves.ite (fun hc => ?_) (fun hc => ?_)
      · exact h7
      · extract_lets -merge -underBinder +onlyGivenNames x8
        refine Moves.let_ x8 ?_ ?_
        · subst x8
          refine Moves.seq ?_ (State.put_moves _ _ _ (by decide)) (Foot.sub1 (by decide +kernel) (Foot.holds_reg (by decide +kernel)))
          exact h7
        intro h8
        try clear_value x8
        refine Moves.seq ?_ (State.follow_moves ..) (Foot.sub1 (by decide +kernel) (Foot.holds_reg (by decide +kernel)))
        exact h8
  · exact Moves.refl _

def Foot.recOpen : Foot :=
  ⟨[(0x0E0010, 0x0E0010), (0x0E0048, 0x0E0054), (0x0E2010, 0x0E2010), (0x0E204C, 0x0E2050)], [], [.mem,
    .recorder]⟩

theorem State.recOpen_moves (s : State) (e : RecEntry) : Moves (Foot.recOpen.at []) s (State.recOpen s e) := by
  unfold State.recOpen
  extract_lets -merge -underBinder +onlyGivenNames x1
  refine Moves.let_ x1 ?_ ?_
  · subst x1
    refine Moves.seq ?_ (State.recPut_moves ..) (Foot.sub0 (by decide +kernel))
    exact Moves.refl _
  intro h1
  try clear_value x1
  refine Moves.ite (fun hc => ?_) (fun hc => ?_)
  · exact h1
  · refine Moves.seq ?_ (State.recFollow_moves ..) (Foot.sub0 (by decide +kernel))
    refine Moves.seq ?_ (State.modRec_moves ..) (Foot.sub0 (by decide +kernel))
    exact h1

def Foot.recCommit : Foot :=
  ⟨[(0x0E0010, 0x0E0010), (0x0E0048, 0x0E0054), (0x0E0060, 0x0E0070), (0x0E2010, 0x0E2010), (0x0E204C,
    0x0E2050)], [], [.mem, .recorder]⟩

theorem State.recCommit_moves (s : State) : Moves (Foot.recCommit.at []) s (State.recCommit s) := by
  unfold State.recCommit
  split
  · exact Moves.refl _
  · refine Moves.ite (fun hc => ?_) (fun hc => ?_)
    · exact Moves.refl _
    · extract_lets -merge -underBinder +onlyGivenNames x1
      refine Moves.let_ x1 ?_ ?_
      · subst x1
        refine Moves.seq ?_ (State.recFollow_moves ..) (Foot.sub0 (by decide +kernel))
        refine Moves.seq ?_ (State.modRec_moves ..) (Foot.sub0 (by decide +kernel))
        exact Moves.refl _
      intro h1
      try clear_value x1
      refine Moves.ite (fun hc => ?_) (fun hc => ?_)
      · split
        · refine Moves.ite (fun hc => ?_) (fun hc => ?_)
          · refine Moves.seq ?_ (State.modRec_moves ..) (Foot.sub0 (by decide +kernel))
            exact h1
          · refine Moves.ite (fun hc => ?_) (fun hc => ?_)
            · refine Moves.seq ?_ (State.recLose_moves ..) (Foot.sub1 (by decide +kernel) (Foot.holds_range 917600 917616 (by decide +kernel) (by first | omega | (dsimp only; omega)) (by first | omega | (dsimp only; omega))))
              exact h1
            · extract_lets -merge -underBinder +onlyGivenNames x2
              refine Moves.let_ x2 ?_ ?_
              · subst x2
                refine Moves.seq ?_ (State.modRec_moves ..) (Foot.sub0 (by decide +kernel))
                exact h1
              intro h2
              try clear_value x2
              extract_lets -merge -underBinder +onlyGivenNames x3
              refine Moves.let_ x3 ?_ ?_
              · subst x3
                refine Moves.ite (fun hc => ?_) (fun hc => ?_)
                · exact h2
                · refine Moves.seq ?_ (State.recPut_moves ..) (Foot.sub0 (by decide +kernel))
                  exact h2
              intro h3
              try clear_value x3
              refine Moves.ite (fun hc => ?_) (fun hc => ?_)
              · refine Moves.seq ?_ (State.recLose_moves ..) (Foot.sub1 (by decide +kernel) (Foot.holds_range 917600 917616 (by decide +kernel) (by first | omega | (dsimp only; omega)) (by first | omega | (dsimp only; omega))))
                exact h3
              · refine Moves.seq ?_ (State.recOpen_moves ..) (Foot.sub0 (by decide +kernel))
                exact h3
        · refine Moves.ite (fun hc => ?_) (fun hc => ?_)
          · refine Moves.seq ?_ (State.recLose_moves ..) (Foot.sub1 (by decide +kernel) (Foot.holds_range 917600 917616 (by decide +kernel) (by first | omega | (dsimp only; omega)) (by first | omega | (dsimp only; omega))))
            exact h1
          · refine Moves.seq ?_ (State.recOpen_moves ..) (Foot.sub0 (by decide +kernel))
            exact h1
      · refine Moves.ite (fun hc => ?_) (fun hc => ?_)
        · refine Moves.seq ?_ (State.recLose_moves ..) (Foot.sub1 (by decide +kernel) (Foot.holds_range 917600 917616 (by decide +kernel) (by first | omega | (dsimp only; omega)) (by first | omega | (dsimp only; omega))))
          exact h1
        · refine Moves.seq ?_ (State.recPut_moves ..) (Foot.sub0 (by decide +kernel))
          exact h1

def Foot.recEventStamp : Foot := ⟨[(0x0E0048, 0x0E0048), (0x0E0060, 0x0E0070)], [], [.evq, .evqCut, .recorder]⟩

theorem State.recEventStamp_moves (s : State) : Moves (Foot.recEventStamp.at []) s (State.recEventStamp s) := by
  unfold State.recEventStamp
  refine Moves.ite (fun hc => ?_) (fun hc => ?_)
  · exact Moves.refl _
  · split
    · exact Moves.refl _
    · extract_lets -merge -underBinder +onlyGivenNames x1
      refine Moves.let_ x1 ?_ ?_
      · subst x1
        refine Moves.seq ?_ (State.coalDue_moves ..) (Foot.sub0 (by decide +kernel))
        refine Moves.seq ?_ (Moves.upd_evq_cut _ _) (Foot.sub0 (by decide +kernel))
        exact Moves.refl _
      intro h1
      try clear_value x1
      refine Moves.ite (fun hc => ?_) (fun hc => ?_)
      · exact h1
      · extract_lets -merge -underBinder +onlyGivenNames x2
        subst x2
        refine Moves.seq ?_ (State.fifoPush_moves ..) (Foot.sub1 (by decide +kernel) (by split <;> (try dsimp only) <;> first | exact (Foot.holds_range 917600 917616 (by decide +kernel) (by first | omega | (dsimp only; omega)) (by first | omega | (dsimp only; omega)))))
        exact h1

def Foot.recLoss : Foot :=
  ⟨[(0x0E0010, 0x0E0010), (0x0E0048, 0x0E0054), (0x0E2010, 0x0E2010), (0x0E204C, 0x0E2050)], [], [.mem,
    .recorder]⟩

theorem State.recLoss_moves (s : State) : Moves (Foot.recLoss.at []) s (State.recLoss s) := by
  unfold State.recLoss
  extract_lets -merge -underBinder +onlyGivenNames x1
  subst x1
  try dsimp -zeta only
  extract_lets -merge -underBinder +onlyGivenNames x2
  subst x2
  refine Moves.ite (fun hc => ?_) (fun hc => ?_)
  · exact Moves.refl _
  · extract_lets -merge -underBinder +onlyGivenNames x3
    subst x3
    extract_lets -merge -underBinder +onlyGivenNames x4
    subst x4
    refine Moves.seq ?_ (State.raise_moves ..) (Foot.sub1 (by decide +kernel) (Foot.holds_reg (by decide +kernel)))
    refine Moves.seq ?_ (State.modRec_moves ..) (Foot.sub0 (by decide +kernel))
    refine Moves.seq ?_ (State.recPut_moves ..) (Foot.sub0 (by decide +kernel))
    exact Moves.refl _

def Foot.recordWritten : Foot := ⟨[(0x0F2010, 0x0F2010), (0x0F2048, 0x0F204C)], [], [.evq, .nv]⟩

theorem State.recordWritten_moves (s : State) (ok : Bool) : Moves (Foot.recordWritten.at []) s (State.recordWritten s ok) := by
  unfold State.recordWritten
  refine Moves.ite (fun hc => ?_) (fun hc => ?_)
  · exact Moves.refl _
  · extract_lets -merge -underBinder +onlyGivenNames x1
    subst x1
    extract_lets -merge -underBinder +onlyGivenNames x2
    refine Moves.let_ x2 ?_ ?_
    · subst x2
      refine Moves.seq ?_ (State.flashErase_moves ..) (Foot.sub0 (by decide +kernel))
      exact Moves.refl _
    intro h2
    try clear_value x2
    extract_lets -merge -underBinder +onlyGivenNames x3
    refine Moves.let_ x3 ?_ ?_
    · subst x3
      refine Moves.ite (fun hc => ?_) (fun hc => ?_)
      · refine Moves.seq ?_ (State.flashPut_moves ..) (Foot.sub0 (by decide +kernel))
        exact h2
      · exact h2
    intro h3
    try clear_value x3
    extract_lets -merge -underBinder +onlyGivenNames x4
    refine Moves.let_ x4 ?_ ?_
    · subst x4
      refine Moves.seq ?_ (State.showRecord_moves ..) (Foot.sub0 (by decide +kernel))
      refine Moves.seq ?_ (State.putB_moves _ _ _ (by decide)) (Foot.sub1 (by decide +kernel) (Foot.holds_reg (by decide +kernel)))
      refine Moves.seq ?_ (State.putB_moves _ _ _ (by decide)) (Foot.sub1 (by decide +kernel) (Foot.holds_reg (by decide +kernel)))
      exact h3
    intro h4
    try clear_value x4
    refine Moves.ite (fun hc => ?_) (fun hc => ?_)
    · exact h4
    · refine Moves.seq ?_ (State.post_moves ..) (Foot.sub0 (by decide +kernel))
      refine Moves.seq ?_ (State.raise_moves ..) (Foot.sub1 (by decide +kernel) (Foot.holds_reg (by decide +kernel)))
      exact h4

def Foot.refDue : Foot := ⟨[], [], [.cans]⟩

theorem State.refDue_moves (s : State) (n : Nat) :
    Moves (Foot.refDue.at [(4096 * ((462848 + 65536 * (n % 16 / 8) + 4096 * (n % 8)) / 4096) + 16, 4096 * ((462848 + 65536 * (n % 16 /
      8) + 4096 * (n % 8)) / 4096) + 16),
      (459020 + 65536 * (n % 16 / 8) + 16 * (n % 8), 459020 + 65536 * (n % 16 / 8) + 16 * (n % 8))]) s (State.refDue s n) := by
  unfold State.refDue
  refine Moves.ite (fun hc => ?_) (fun hc => ?_)
  · exact Moves.refl _
  · extract_lets -merge -underBinder +onlyGivenNames x1
    subst x1
    extract_lets -merge -underBinder +onlyGivenNames x2
    subst x2
    extract_lets -merge -underBinder +onlyGivenNames x3
    subst x3
    extract_lets -merge -underBinder +onlyGivenNames x4
    refine Moves.let_ x4 ?_ ?_
    · subst x4
      refine Moves.seq ?_ (State.modCan_moves ..) (Foot.sub0 (by decide +kernel))
      exact Moves.refl _
    intro h4
    try clear_value x4
    refine Moves.ite (fun hc => ?_) (fun hc => ?_)
    · exact h4
    · refine Moves.seq ?_ (State.raise_moves ..) (Foot.sub1 (by decide +kernel) (Foot.holds_same (.head _)))
      refine Moves.seq ?_ (State.satAdd_moves _ _ _ (by first | (dsimp only [F.CB_CTRL_TM_STAT_LATE]; omega) | omega)) (Foot.sub1 (by decide +kernel) (Foot.holds_same (.tail _ (.head _))))
      exact h4

def Foot.restored : Foot :=
  ⟨[], [], [.mem, .out, .evq, .evqCut, .evtCut, .allRegs, .acc, .lines, .ports, .top, .beam, .fab, .tim,
    .cans, .wake, .twn, .hlt, .sgw, .psc, .recorder, .pwr, .mgt]⟩

theorem State.restored_moves (s : State) (n : Nat) : Moves (Foot.restored.at []) s (State.restored s n) := by
  unfold State.restored
  refine Moves.ite (fun hc => ?_) (fun hc => ?_)
  · exact Moves.refl _
  · extract_lets -merge -underBinder +onlyGivenNames x1
    refine Moves.let_ x1 ?_ ?_
    · subst x1
      refine Moves.seq ?_ (State.restoreIsland_moves ..) (Foot.sub_at (by decide +kernel) (Foot.own_cons (Foot.holds_all (by decide +kernel)) (Foot.own_cons (Foot.holds_all (by decide +kernel)) Foot.own_nil)))
      exact Moves.refl _
    intro h1
    try clear_value x1
    split
    · exact h1
    · refine Moves.ite (fun hc => ?_) (fun hc => ?_)
      · refine Moves.seq ?_ (State.testEnd_moves ..) (Foot.sub0 (by decide +kernel))
        exact h1
      · refine Moves.seq ?_ (State.startUnit_moves ..) (Foot.sub0 (by decide +kernel))
        refine Moves.ite (fun hc => ?_) (fun hc => ?_)
        · refine Moves.seq ?_ (State.isolateNow_moves ..) (Foot.sub0 (by decide +kernel))
          exact h1
        · exact h1

def Foot.ringDone : Foot := ⟨[(0x0B2010, 0x0B2010)], [], [.out]⟩

theorem State.ringDone_moves (s : State) (r : Nat) (stat : Nat) (kind : Nat) :
    Moves (Foot.ringDone.at [(729352 + 16 * (r % 9), 729352 + 16 * (r % 9)),
      (729356 + 16 * (r % 9), 729356 + 16 * (r % 9))]) s (State.ringDone s r stat kind) := by
  unfold State.ringDone
  extract_lets -merge -underBinder +onlyGivenNames x1
  refine Moves.let_ x1 ?_ ?_
  · subst x1
    refine Moves.seq ?_ (State.dmaWrite_moves ..) (Foot.sub0 (by decide +kernel))
    exact Moves.refl _
  intro h1
  try clear_value x1
  extract_lets -merge -underBinder +onlyGivenNames x2
  refine Moves.let_ x2 ?_ ?_
  · subst x2
    refine Moves.seq ?_ (State.put_moves _ _ _ (by first | (dsimp only [F.HBR_RING_PTR_DONE]; omega) | omega)) (Foot.sub1 (by decide +kernel) (Foot.holds_same (.head _)))
    exact h1
  intro h2
  try clear_value x2
  extract_lets -merge -underBinder +onlyGivenNames x3
  refine Moves.let_ x3 ?_ ?_
  · subst x3
    refine Moves.seq ?_ (State.wrapInc_moves _ _ (by first | (dsimp only [F.HBR_RING_CNT_FRAMES]; omega) | omega)) (Foot.sub1 (by decide +kernel) (Foot.holds_same (.tail _ (.head _))))
    exact h2
  intro h3
  try clear_value x3
  extract_lets -merge -underBinder +onlyGivenNames x4
  refine Moves.let_ x4 ?_ ?_
  · subst x4
    refine Moves.ite (fun hc => ?_) (fun hc => ?_)
    · exact h3
    · refine Moves.seq ?_ (State.satInc_moves _ _ (by first | (dsimp only [F.HBR_RING_CNT_ERR]; omega) | omega)) (Foot.sub1 (by decide +kernel) (Foot.holds_same (.tail _ (.head _))))
      exact h3
  intro h4
  try clear_value x4
  refine Moves.ite (fun hc => ?_) (fun hc => ?_)
  · refine Moves.seq ?_ (State.raise_moves ..) (Foot.sub1 (by decide +kernel) (Foot.holds_reg (by decide +kernel)))
    exact h4
  · exact h4

def Foot.rxDeliver : Foot := ⟨[(0x032060, 0x03206C), (0x0B2010, 0x0B2010)], [], [.out, .evq, .fab]⟩

theorem State.rxDeliver_moves (s : State) (q : Nat) (mem : List (Nat × Byte)) :
    Moves (Foot.rxDeliver.at [(729352 + 16 * (q % 9), 729352 + 16 * (q % 9)),
      (729356 + 16 * (q % 9), 729356 + 16 * (q % 9))]) s (State.rxDeliver s q mem) := by
  unfold State.rxDeliver
  split
  · exact Moves.refl _
  · refine Moves.ite (fun hc => ?_) (fun hc => ?_)
    · exact Moves.refl _
    · extract_lets -merge -underBinder +onlyGivenNames x1
      subst x1
      extract_lets -merge -underBinder +onlyGivenNames x2
      subst x2
      refine Moves.ite (fun hc => ?_) (fun hc => ?_)
      · refine Moves.seq ?_ (State.dmaErr_moves ..) (Foot.sub0 (by decide +kernel))
        exact Moves.refl _
      · extract_lets -merge -underBinder +onlyGivenNames x3
        subst x3
        extract_lets -merge -underBinder +onlyGivenNames x4
        subst x4
        extract_lets -merge -underBinder +onlyGivenNames x5
        subst x5
        extract_lets -merge -underBinder +onlyGivenNames x6
        subst x6
        extract_lets -merge -underBinder +onlyGivenNames x7
        refine Moves.let_ x7 ?_ ?_
        · subst x7
          refine Moves.seq ?_ (State.giveCells_moves ..) (Foot.sub1 (by decide +kernel) (Foot.holds_four 204908 204904 204900 204896 (by decide +kernel) (by decide +kernel) (by decide +kernel) (by decide +kernel) (by first | omega | (dsimp only; omega))))
          refine Moves.seq ?_ (State.setQueue_moves ..) (Foot.sub0 (by decide +kernel))
          exact Moves.refl _
        intro h7
        try clear_value x7
        refine Moves.ite (fun hc => ?_) (fun hc => ?_)
        · extract_lets -merge -underBinder +onlyGivenNames x8
          refine Moves.let_ x8 ?_ ?_
          · subst x8
            refine Moves.seq ?_ (State.dmaWrite_moves ..) (Foot.sub0 (by decide +kernel))
            refine Moves.seq ?_ (State.dmaWrite_moves ..) (Foot.sub0 (by decide +kernel))
            exact h7
          intro h8
          try clear_value x8
          extract_lets -merge -underBinder +onlyGivenNames x9
          refine Moves.let_ x9 ?_ ?_
          · subst x9
            refine Moves.seq ?_ (State.dmaWrite_moves ..) (Foot.sub0 (by decide +kernel))
            exact h8
          intro h9
          try clear_value x9
          refine Moves.seq ?_ (State.ringDone_moves ..) (Foot.sub_at (by decide +kernel) (Foot.own_cons (Foot.holds_same (.head _)) (Foot.own_cons (Foot.holds_same (.tail _ (.head _))) Foot.own_nil)))
          exact h9
        · refine Moves.seq ?_ (State.ringDone_moves ..) (Foot.sub_at (by decide +kernel) (Foot.own_cons (Foot.holds_same (.head _)) (Foot.own_cons (Foot.holds_same (.tail _ (.head _))) Foot.own_nil)))
          refine Moves.seq ?_ (State.dmaWrite_moves ..) (Foot.sub0 (by decide +kernel))
          refine Moves.seq ?_ (State.dmaErr_moves ..) (Foot.sub0 (by decide +kernel))
          exact h7

def Foot.sensAlarm : Foot := ⟨[(0x0F3010, 0x0F3010)], [], [.evq]⟩

theorem State.sensAlarm_moves (s : State) (sev : Nat) (k : Nat) (v : Nat) :
    Moves (Foot.sensAlarm.at []) s (State.sensAlarm s sev k v) := by
  unfold State.sensAlarm
  refine Moves.seq ?_ (State.post_moves ..) (Foot.sub0 (by decide +kernel))
  refine Moves.seq ?_ (State.raise_moves ..) (Foot.sub1 (by decide +kernel) (Foot.holds_reg (by decide +kernel)))
  exact Moves.refl _

def Foot.tempReading : Foot :=
  ⟨[(0x000054, 0x000054), (0x0F0010, 0x0F0010), (0x0F0040, 0x0F0040), (0x0F0080, 0x0F0080), (0x0F3010,
    0x0F3010)], [], [.evq, .hlt]⟩

theorem State.tempReading_moves (s : State) (k : Nat) (v : Nat) :
    Moves (Foot.tempReading.at [(995392 + 4 * (k % 10), 995392 + 4 * (k % 10))]) s (State.tempReading s k v) := by
  unfold State.tempReading
  extract_lets -merge -underBinder +onlyGivenNames x1
  refine Moves.let_ x1 ?_ ?_
  · subst x1
    refine Moves.seq ?_ (State.reading_moves ..) (Foot.sub1 (by decide +kernel) (Foot.holds_same (.head _)))
    exact Moves.refl _
  intro h1
  try clear_value x1
  refine Moves.ite (fun hc => ?_) (fun hc => ?_)
  · exact h1
  · extract_lets -merge -underBinder +onlyGivenNames x2
    subst x2
    extract_lets -merge -underBinder +onlyGivenNames x3
    refine Moves.let_ x3 ?_ ?_
    · subst x3
      refine Moves.ite (fun hc => ?_) (fun hc => ?_)
      · refine Moves.seq ?_ (State.modHlt_moves ..) (Foot.sub0 (by decide +kernel))
        refine Moves.seq ?_ (State.sensAlarm_moves ..) (Foot.sub0 (by decide +kernel))
        exact h1
      · exact h1
    intro h3
    try clear_value x3
    extract_lets -merge -underBinder +onlyGivenNames x4
    refine Moves.let_ x4 ?_ ?_
    · subst x4
      refine Moves.ite (fun hc => ?_) (fun hc => ?_)
      · refine Moves.seq ?_ (State.modHlt_moves ..) (Foot.sub0 (by decide +kernel))
        refine Moves.seq ?_ (State.sensAlarm_moves ..) (Foot.sub0 (by decide +kernel))
        exact h3
      · exact h3
    intro h4
    try clear_value x4
    refine Moves.seq ?_ (State.tempReasons_moves ..) (Foot.sub0 (by decide +kernel))
    exact h4

def Foot.supplyReading : Foot :=
  ⟨[(0x000054, 0x000054), (0x0F0010, 0x0F0010), (0x0F0040, 0x0F0040), (0x0F3010, 0x0F3010)], [],
    [.evq, .hlt]⟩

theorem State.supplyReading_moves (s : State) (k : Nat) (v : Nat) :
    Moves (Foot.supplyReading.at [(995392 + 4 * (k % 10), 995392 + 4 * (k % 10)),
      (983168 + 4 * (supplyIsland k % 17), 983168 + 4 * (supplyIsland k % 17))]) s (State.supplyReading s k v) := by
  unfold State.supplyReading
  extract_lets -merge -underBinder +onlyGivenNames x1
  refine Moves.let_ x1 ?_ ?_
  · subst x1
    refine Moves.seq ?_ (State.reading_moves ..) (Foot.sub1 (by decide +kernel) (Foot.holds_same (.head _)))
    exact Moves.refl _
  intro h1
  try clear_value x1
  refine Moves.ite (fun hc => ?_) (fun hc => ?_)
  · exact h1
  · refine Moves.seq ?_ (State.voltReason_moves ..) (Foot.sub1 (by decide +kernel) (Foot.holds_same (.tail _ (.head _))))
    refine Moves.seq ?_ (State.modHlt_moves ..) (Foot.sub0 (by decide +kernel))
    refine Moves.seq ?_ (State.sensAlarm_moves ..) (Foot.sub0 (by decide +kernel))
    exact h1

def Foot.sensorAlarm : Foot :=
  ⟨[(0x000054, 0x000054), (0x011010, 0x011010), (0x011048, 0x011048), (0x012010, 0x012010), (0x012048,
    0x012048), (0x021010, 0x021010), (0x021048, 0x021048), (0x022010, 0x022010), (0x022048, 0x022048), (0x0F0010, 0x0F0010), (0x0F0040,
    0x0F0040), (0x0F0080, 0x0F00C0), (0x0F3010, 0x0F3010), (0x0F3040, 0x0F3064), (0x0F306C, 0x0F306C)], [], [.evq, .hlt]⟩

theorem State.sensorAlarm_moves (s : State) (k : SensorAlarm) : Moves (Foot.sensorAlarm.at []) s (State.sensorAlarm s k) := by
  unfold State.sensorAlarm
  split
  · refine Moves.seq ?_ (State.marginReading_moves ..) (Foot.sub_at (by decide +kernel) (Foot.own_cons (Foot.holds_four 139336 135240 73800 69704 (by decide +kernel) (by decide +kernel) (by decide +kernel) (by decide +kernel) (by first | omega | (dsimp only; omega))) (Foot.own_cons (Foot.holds_four 139280 135184 73744 69648 (by decide +kernel) (by decide +kernel) (by decide +kernel) (by decide +kernel) (by first | omega | (dsimp only; omega))) (Foot.own_cons (Foot.holds_range 983168 983232 (by decide +kernel) (by first | omega | (dsimp only; omega)) (by first | omega | (dsimp only; omega))) Foot.own_nil))))
    exact Moves.refl _
  · refine Moves.seq ?_ (State.marginLow_moves ..) (Foot.sub1 (by decide +kernel) (Foot.holds_range 983168 983232 (by decide +kernel) (by first | omega | (dsimp only; omega)) (by first | omega | (dsimp only; omega))))
    exact Moves.refl _
  · refine Moves.ite (fun hc => ?_) (fun hc => ?_)
    · refine Moves.seq ?_ (State.tempReading_moves ..) (Foot.sub1 (by decide +kernel) (Foot.holds_range 995392 995428 (by decide +kernel) (by first | omega | (dsimp only; omega)) (by first | omega | (dsimp only; omega))))
      exact Moves.refl _
    · exact Moves.refl _
  · refine Moves.ite (fun hc => ?_) (fun hc => ?_)
    · refine Moves.seq ?_ (State.supplyReading_moves ..) (Foot.sub_at (by decide +kernel) (Foot.own_cons (Foot.holds_range 995392 995428 (by decide +kernel) (by first | omega | (dsimp only; omega)) (by first | omega | (dsimp only; omega))) (Foot.own_cons (Foot.holds_range 983168 983232 (by decide +kernel) (by first | omega | (dsimp only; omega)) (by first | omega | (dsimp only; omega))) Foot.own_nil)))
      exact Moves.refl _
    · exact Moves.refl _
  · refine Moves.ite (fun hc => ?_) (fun hc => ?_)
    · refine Moves.seq ?_ (State.excludeCheck_moves ..) (Foot.sub0 (by decide +kernel))
      exact Moves.refl _
    · exact Moves.refl _
  · refine Moves.ite (fun hc => ?_) (fun hc => ?_)
    · refine Moves.seq ?_ (State.clockReason_moves ..) (Foot.sub0 (by decide +kernel))
      refine Moves.seq ?_ (State.modHlt_moves ..) (Foot.sub0 (by decide +kernel))
      exact Moves.refl _
    · exact Moves.refl _

def Foot.shedAnswer : Foot :=
  ⟨[(0x032010, 0x032010), (0x032060, 0x03206C), (0x0D0050, 0x0D0050), (0x0D1010, 0x0D1010), (0x0D1054,
    0x0D1064), (0x0D1800, 0x0D1FFC)], [], [.mem, .fab, .mgt]⟩

theorem State.shedAnswer_moves (s : State) (req : MboxReq) : Moves (Foot.shedAnswer.at []) s (State.shedAnswer s req) := by
  unfold State.shedAnswer
  refine Moves.seq ?_ (State.answer_moves ..) (Foot.sub0 (by decide +kernel))
  refine Moves.seq ?_ (State.satInc_moves _ _ (by decide)) (Foot.sub1 (by decide +kernel) (Foot.holds_reg (by decide +kernel)))
  refine Moves.seq ?_ (State.modMgt_moves ..) (Foot.sub0 (by decide +kernel))
  exact Moves.refl _

def Foot.serve : Foot :=
  ⟨[(0x032010, 0x032010), (0x032060, 0x03206C), (0x0D0050, 0x0D0050), (0x0D1010, 0x0D1010), (0x0D1054,
    0x0D1064), (0x0D1800, 0x0D1FFC)], [], [.mem, .fab, .mgt]⟩

theorem State.serve_moves {F : Foot} {r s : State} {code : Nat} {f : State → MboxReq → State}
    (h :
    Moves F r s) (hF : Foot.Sub (Foot.serve.at []) F) (f_ok : ∀ x y0, Moves F r x → Moves F r (f x y0)) : Moves F r (State.serve s
      code f) := by
  unfold State.serve
  split
  · exact h
  · refine Moves.ite (fun hc => ?_) (fun hc => ?_)
    · exact h
    · extract_lets -merge -underBinder +onlyGivenNames x1
      subst x1
      refine Moves.ite (fun hc => ?_) (fun hc => ?_)
      · refine Moves.seq ?_ (State.answer_moves ..) ((Foot.sub0 (by decide +kernel)).trans hF)
        exact h
      · refine Moves.ite (fun hc => ?_) (fun hc => ?_)
        · exact h
        · refine Moves.ite (fun hc => ?_) (fun hc => ?_)
          · refine Moves.seq ?_ (State.shedAnswer_moves ..) ((Foot.sub0 (by decide +kernel)).trans hF)
            exact h
          · refine Moves.ite (fun hc => ?_) (fun hc => ?_)
            · refine Moves.seq ?_ (State.shedAnswer_moves ..) ((Foot.sub0 (by decide +kernel)).trans hF)
              exact h
            · refine f_ok _ _ ?_
              exact h

def Foot.sidePoll : Foot := ⟨[(0x032010, 0x032010), (0x032060, 0x03206C), (0x0C3010, 0x0C3010)], [], [.mem, .fab, .psc]⟩

theorem State.sidePoll_moves (s : State) (p : Nat) :
    Moves (Foot.sidePoll.at [(790600 + 16 * (p % 8), 790600 + 16 * (p % 8)),
      (798784 + 8 * (p % 8), 798784 + 8 * (p % 8))]) s (State.sidePoll s p) := by
  unfold State.sidePoll
  extract_lets -merge -underBinder +onlyGivenNames x1
  subst x1
  extract_lets -merge -underBinder +onlyGivenNames x2
  refine Moves.let_ x2 ?_ ?_
  · subst x2
    refine Moves.seq ?_ (State.outFollow_moves ..) (Foot.sub1 (by decide +kernel) (Foot.holds_same (.head _)))
    refine Moves.seq ?_ (State.modPsc_moves ..) (Foot.sub0 (by decide +kernel))
    exact Moves.refl _
  intro h2
  try clear_value x2
  extract_lets -merge -underBinder +onlyGivenNames x3
  subst x3
  extract_lets -merge -underBinder +onlyGivenNames x4
  subst x4
  extract_lets -merge -underBinder +onlyGivenNames x5
  refine Moves.let_ x5 ?_ ?_
  · subst x5
    refine Moves.seq ?_ (State.modPsc_moves ..) (Foot.sub0 (by decide +kernel))
    exact h2
  intro h5
  try clear_value x5
  extract_lets -merge -underBinder +onlyGivenNames x6
  refine Moves.let_ x6 ?_ ?_
  · subst x6
    refine Moves.ite (fun hc => ?_) (fun hc => ?_)
    · refine Moves.seq ?_ (State.raise_moves ..) (Foot.sub1 (by decide +kernel) (Foot.holds_reg (by decide +kernel)))
      refine Moves.seq ?_ (State.putB_moves _ _ _ (by first | (dsimp only [F.PSC_SIDE_ISL_STALE]; omega) | omega)) (Foot.sub1 (by decide +kernel) (Foot.holds_same (.tail _ (.head _))))
      exact h5
    · exact h5
  intro h6
  try clear_value x6
  split
  · refine Moves.seq ?_ (State.pscRequest_moves ..) (Foot.sub1 (by decide +kernel) (Foot.holds_same (.head _)))
    exact h6
  · exact h6

def Foot.sidePolls : Foot :=
  ⟨[(0x032010, 0x032010), (0x032060, 0x03206C), (0x0C1048, 0x0C10B8), (0x0C3010, 0x0C3010), (0x0C3040,
    0x0C3078)], [], [.mem, .fab, .psc]⟩

theorem State.sidePolls_moves (s : State) : Moves (Foot.sidePolls.at []) s (State.sidePolls s) := by
  unfold State.sidePolls
  refine Moves.ite (fun hc => ?_) (fun hc => ?_)
  · exact Moves.refl _
  · refine Moves.foldl _ (fun x1 _ h1 => ?_) _ ?_
    · refine Moves.seq ?_ (State.sidePoll_moves ..) (Foot.sub_at (by decide +kernel) (Foot.own_cons (Foot.holds_range 790600 790712 (by decide +kernel) (by first | omega | (dsimp only; omega)) (by first | omega | (dsimp only; omega))) (Foot.own_cons (Foot.holds_range 798784 798840 (by decide +kernel) (by first | omega | (dsimp only; omega)) (by first | omega | (dsimp only; omega))) Foot.own_nil)))
      exact h1
    · exact Moves.refl _

def Foot.silentSide : Foot := ⟨[(0x100010, 0x100010)], [], [.out, .top]⟩

theorem State.silentSide_moves (s : State) (p : BPort) : Moves (Foot.silentSide.at []) s (State.silentSide s p) := by
  unfold State.silentSide
  refine Moves.ite (fun hc => ?_) (fun hc => ?_)
  · extract_lets -merge -underBinder +onlyGivenNames x1
    subst x1
    extract_lets -merge -underBinder +onlyGivenNames x2
    refine Moves.let_ x2 ?_ ?_
    · subst x2
      refine Moves.seq ?_ (State.flag_moves ..) (Foot.sub0 (by decide +kernel))
      refine Moves.seq ?_ (State.setView_moves ..) (Foot.sub0 (by decide +kernel))
      exact Moves.refl _
    intro h2
    try clear_value x2
    refine Moves.seq ?_ (State.splitRelays_moves ..) (Foot.sub0 (by decide +kernel))
    refine Moves.seq ?_ (State.startWave_moves ..) (Foot.sub0 (by decide +kernel))
    refine Moves.seq ?_ (State.raise_moves ..) (Foot.sub1 (by decide +kernel) (Foot.holds_reg (by decide +kernel)))
    exact h2
  · exact Moves.refl _

def Foot.xoQual : Foot := ⟨[(0x001010, 0x001010), (0x001040, 0x001040), (0x00104C, 0x00104C), (0x001080, 0x0010C0)], [], [.pwr]⟩

theorem State.xoQual_moves (s : State) : Moves (Foot.xoQual.at []) s (State.xoQual s) := by
  unfold State.xoQual
  refine Moves.ite (fun hc => ?_) (fun hc => ?_)
  · exact Moves.refl _
  · refine Moves.seq ?_ (State.startWaiting_moves ..) (Foot.sub0 (by decide +kernel))
    refine Moves.seq ?_ (State.raise_moves ..) (Foot.sub1 (by decide +kernel) (Foot.holds_reg (by decide +kernel)))
    refine Moves.seq ?_ (State.put_moves _ _ _ (by decide)) (Foot.sub1 (by decide +kernel) (Foot.holds_reg (by decide +kernel)))
    refine Moves.seq ?_ (State.putB_moves _ _ _ (by decide)) (Foot.sub1 (by decide +kernel) (Foot.holds_reg (by decide +kernel)))
    exact Moves.refl _

def Foot.sourceGood : Foot := ⟨[(0x001010, 0x001010), (0x001040, 0x001040), (0x00104C, 0x001050), (0x001080, 0x0010C0)], [], [.pwr]⟩

theorem State.sourceGood_moves (s : State) (c : Nat) : Moves (Foot.sourceGood.at []) s (State.sourceGood s c) := by
  unfold State.sourceGood
  split
  · refine Moves.seq ?_ (State.xoQual_moves ..) (Foot.sub0 (by decide +kernel))
    exact Moves.refl _
  · refine Moves.seq ?_ (State.lineLocked_moves ..) (Foot.sub0 (by decide +kernel))
    exact Moves.refl _
  · refine Moves.ite (fun hc => ?_) (fun hc => ?_)
    · exact Moves.refl _
    · refine Moves.seq ?_ (State.startWaiting_moves ..) (Foot.sub0 (by decide +kernel))
      refine Moves.seq ?_ (State.putB_moves _ _ _ (by show 4160 % 4096 ≠ 16; decide)) (Foot.sub1 (by decide +kernel) (Foot.holds_reg (lo := 4160) (hi := 4160) (by decide +kernel)))
      exact Moves.refl _

def Foot.srstComplete : Foot := ⟨[], [], [.acc, .ports]⟩

theorem State.srstComplete_moves (s : State) (pg : Nat) :
    Moves (Foot.srstComplete.at [(4096 * (pg / 4096) + 16, 4096 * (pg / 4096) + 16)]) s (State.srstComplete s pg) := by
  unfold State.srstComplete
  refine Moves.ite (fun hc => ?_) (fun hc => ?_)
  · exact Moves.refl _
  · extract_lets -merge -underBinder +onlyGivenNames x1
    subst x1
    extract_lets -merge -underBinder +onlyGivenNames x2
    subst x2
    extract_lets -merge -underBinder +onlyGivenNames x3
    refine Moves.let_ x3 ?_ ?_
    · subst x3
      refine Moves.seq ?_ (Moves.upd_acc _ _) (Foot.sub0 (by decide +kernel))
      exact Moves.refl _
    intro h3
    try clear_value x3
    extract_lets -merge -underBinder +onlyGivenNames x4
    refine Moves.let_ x4 ?_ ?_
    · subst x4
      refine Moves.foldl _ (fun x5 _ h5 => ?_) _ ?_
      · refine Moves.ite (fun hc => ?_) (fun hc => ?_)
        · refine Moves.seq ?_ (State.phyReadyAgain_moves ..) (Foot.sub0 (by decide +kernel))
          exact h5
        · exact h5
      · exact h3
    intro h4
    try clear_value x4
    refine Moves.ite (fun hc => ?_) (fun hc => ?_)
    · refine Moves.seq ?_ (State.raise_moves ..) (Foot.sub1 (by decide +kernel) (Foot.holds_same (.head _)))
      exact h4
    · exact h4

def Foot.stall : Foot := ⟨[(0x060010, 0x060010), (0x060044, 0x060044)], [], [.evq]⟩

theorem State.stall_moves (s : State) : Moves (Foot.stall.at []) s (State.stall s) := by
  unfold State.stall
  refine Moves.ite (fun hc => ?_) (fun hc => ?_)
  · exact Moves.refl _
  · refine Moves.seq ?_ (State.post_moves ..) (Foot.sub0 (by decide +kernel))
    refine Moves.seq ?_ (State.raise_moves ..) (Foot.sub1 (by decide +kernel) (Foot.holds_reg (by decide +kernel)))
    refine Moves.seq ?_ (State.putB_moves _ _ _ (by decide)) (Foot.sub1 (by decide +kernel) (Foot.holds_reg (by decide +kernel)))
    exact Moves.refl _

def Foot.startTEnd : Foot :=
  ⟨[(0x003010, 0x003010), (0x003040, 0x003040), (0x003050, 0x003050), (0x00306C, 0x00306C), (0x005040,
    0x005040), (0x010010, 0x010010), (0x010048, 0x010048), (0x011010, 0x011010), (0x011040, 0x011048), (0x012010, 0x012010), (0x012040,
    0x012048), (0x013010, 0x013010), (0x013040, 0x013040), (0x013048, 0x013058), (0x020010, 0x020010), (0x020048, 0x020048), (0x021010,
    0x021010), (0x021040, 0x021048), (0x022010, 0x022010), (0x022040, 0x022048), (0x023010, 0x023010), (0x023040, 0x023040), (0x023048,
    0x023058), (0x060010, 0x060010), (0x060044, 0x060044), (0x090010, 0x090010), (0x090058, 0x090064), (0x091010, 0x091010), (0x091050,
    0x091058), (0x093060, 0x093060), (0x0A0010, 0x0A0010), (0x0A0040, 0x0A0040), (0x0A004C, 0x0A004C), (0x0A005C, 0x0A0060), (0x0A2044,
    0x0A2044), (0x100010, 0x100010), (0x100064, 0x100064)], [], [.out, .evq, .lines, .ports, .beam, .fab, .tim, .wake, .twn, .hlt]⟩

theorem State.startTEnd_moves (s : State) (low : Bool) : Moves (Foot.startTEnd.at []) s (State.startTEnd s low) := by
  unfold State.startTEnd
  refine Moves.ite (fun hc => ?_) (fun hc => ?_)
  · exact Moves.refl _
  · refine Moves.seq ?_ (State.partnerFailed_moves ..) (Foot.sub0 (by decide +kernel))
    exact Moves.refl _

def Foot.strapChg : Foot := ⟨[(0x000010, 0x000010), (0x000050, 0x000050)], [], []⟩

theorem State.strapChg_moves (s : State) (pin : Bool) : Moves (Foot.strapChg.at []) s (State.strapChg s pin) := by
  unfold State.strapChg
  refine Moves.ite (fun hc => ?_) (fun hc => ?_)
  · exact Moves.refl _
  · extract_lets -merge -underBinder +onlyGivenNames x1
    subst x1
    extract_lets -merge -underBinder +onlyGivenNames x2
    subst x2
    extract_lets -merge -underBinder +onlyGivenNames x3
    refine Moves.let_ x3 ?_ ?_
    · subst x3
      refine Moves.seq ?_ (State.putB_moves _ _ _ (by decide)) (Foot.sub1 (by decide +kernel) (Foot.holds_reg (by decide +kernel)))
      exact Moves.refl _
    intro h3
    try clear_value x3
    refine Moves.ite (fun hc => ?_) (fun hc => ?_)
    · refine Moves.seq ?_ (State.raise_moves ..) (Foot.sub1 (by decide +kernel) (Foot.holds_reg (by decide +kernel)))
      exact h3
    · exact h3

def Foot.strm : Foot := ⟨[(0x0E2010, 0x0E2010), (0x0E2040, 0x0E2040), (0x0E2048, 0x0E2050)], [], [.out, .evq, .recorder]⟩

theorem State.strm_moves (s : State) : Moves (Foot.strm.at []) s (State.strm s) := by
  unfold State.strm
  extract_lets -merge -underBinder +onlyGivenNames x1
  subst x1
  extract_lets -merge -underBinder +onlyGivenNames x2
  subst x2
  refine Moves.ite (fun hc => ?_) (fun hc => ?_)
  · exact Moves.refl _
  · extract_lets -merge -underBinder +onlyGivenNames x3
    refine Moves.let_ x3 ?_ ?_
    · subst x3
      refine Moves.seq ?_ (State.strmSkip_moves ..) (Foot.sub0 (by decide +kernel))
      exact Moves.refl _
    intro h3
    try clear_value x3
    extract_lets -merge -underBinder +onlyGivenNames x4
    subst x4
    extract_lets -merge -underBinder +onlyGivenNames x5
    subst x5
    extract_lets -merge -underBinder +onlyGivenNames x6
    subst x6
    refine Moves.ite (fun hc => ?_) (fun hc => ?_)
    · exact h3
    · refine Moves.ite (fun hc => ?_) (fun hc => ?_)
      · refine Moves.seq ?_ (State.post_moves ..) (Foot.sub0 (by decide +kernel))
        refine Moves.seq ?_ (State.raise_moves ..) (Foot.sub1 (by decide +kernel) (Foot.holds_reg (by decide +kernel)))
        refine Moves.seq ?_ (State.putB_moves _ _ _ (by decide)) (Foot.sub1 (by decide +kernel) (Foot.holds_reg (by decide +kernel)))
        exact h3
      · extract_lets -merge -underBinder +onlyGivenNames x7
        refine Moves.let_ x7 ?_ ?_
        · subst x7
          refine Moves.seq ?_ (State.put_moves _ _ _ (by decide)) (Foot.sub1 (by decide +kernel) (Foot.holds_reg (by decide +kernel)))
          refine Moves.seq ?_ (State.dmaWrite_moves ..) (Foot.sub0 (by decide +kernel))
          exact h3
        intro h7
        try clear_value x7
        extract_lets -merge -underBinder +onlyGivenNames x8
        refine Moves.let_ x8 ?_ ?_
        · subst x8
          refine Moves.seq ?_ (State.wrapInc_moves _ _ (by decide)) (Foot.sub1 (by decide +kernel) (Foot.holds_reg (by decide +kernel)))
          refine Moves.seq ?_ (State.wr_moves _ _ (by decide)) (Foot.sub1 (by decide +kernel) (Foot.holds_reg (by decide +kernel)))
          exact h7
        intro h8
        try clear_value x8
        extract_lets -merge -underBinder +onlyGivenNames x9
        refine Moves.let_ x9 ?_ ?_
        · subst x9
          refine Moves.seq ?_ (State.modRec_moves ..) (Foot.sub0 (by decide +kernel))
          exact h8
        intro h9
        try clear_value x9
        refine Moves.ite (fun hc => ?_) (fun hc => ?_)
        · refine Moves.seq ?_ (State.raise_moves ..) (Foot.sub1 (by decide +kernel) (Foot.holds_reg (by decide +kernel)))
          refine Moves.seq ?_ (State.modRec_moves ..) (Foot.sub0 (by decide +kernel))
          exact h9
        · exact h9

def Foot.supplyLoss : Foot :=
  ⟨[], [], [.mem, .out, .evq, .evqCut, .evtCut, .allRegs, .acc, .lines, .ports, .top, .beam, .fab, .tim,
    .cans, .wake, .twn, .hlt, .sgw, .psc, .recorder, .pwr, .mgt]⟩

theorem State.supplyLoss_moves (s : State) : Moves (Foot.supplyLoss.at []) s (State.supplyLoss s) := by
  unfold State.supplyLoss
  refine Moves.ite (fun hc => ?_) (fun hc => ?_)
  · exact Moves.refl _
  · extract_lets -merge -underBinder +onlyGivenNames x1
    refine Moves.let_ x1 ?_ ?_
    · subst x1
      refine Moves.ite (fun hc => ?_) (fun hc => ?_)
      · refine Moves.seq ?_ (State.endDusk_moves ..) (Foot.sub0 (by decide +kernel))
        exact Moves.refl _
      · exact Moves.refl _
    intro h1
    try clear_value x1
    refine Moves.seq ?_ (State.modWake_moves ..) (Foot.sub0 (by decide +kernel))
    refine Moves.seq ?_ (State.powerLost_moves ..) (Foot.sub0 (by decide +kernel))
    exact h1

def Foot.supplyStart : Foot := ⟨[(0x000040, 0x000044), (0x00004C, 0x00004C), (0x000054, 0x000054)], [], [.pwr]⟩

theorem State.supplyStart_moves (s : State) : Moves (Foot.supplyStart.at []) s (State.supplyStart s) := by
  unfold State.supplyStart
  refine Moves.ite (fun hc => ?_) (fun hc => ?_)
  · exact Moves.refl _
  · refine Moves.seq ?_ (State.startBegin_moves ..) (Foot.sub0 (by decide +kernel))
    refine Moves.seq ?_ (State.satInc_moves _ _ (by decide)) (Foot.sub1 (by decide +kernel) (Foot.holds_reg (by decide +kernel)))
    exact Moves.refl _

def Foot.svnCommit : Foot :=
  ⟨[(0x000050, 0x000050), (0x032010, 0x032010), (0x032060, 0x03206C), (0x0D1010, 0x0D1010), (0x0D1054,
    0x0D1064), (0x0D1800, 0x0D1FFC)], [], [.mem, .fab, .mgt, .nv]⟩

theorem State.svnCommit_moves (s : State) (r : MboxReq) : Moves (Foot.svnCommit.at []) s (State.svnCommit s r) := by
  unfold State.svnCommit
  extract_lets -merge -underBinder +onlyGivenNames x1
  subst x1
  extract_lets -merge -underBinder +onlyGivenNames x2
  subst x2
  refine Moves.ite (fun hc => ?_) (fun hc => ?_)
  · refine Moves.seq ?_ (State.answer_moves ..) (Foot.sub0 (by decide +kernel))
    exact Moves.refl _
  · refine Moves.ite (fun hc => ?_) (fun hc => ?_)
    · refine Moves.seq ?_ (State.answer_moves ..) (Foot.sub0 (by decide +kernel))
      exact Moves.refl _
    · refine Moves.seq ?_ (State.answer_moves ..) (Foot.sub0 (by decide +kernel))
      refine Moves.seq ?_ (State.put_moves _ _ _ (by decide)) (Foot.sub1 (by decide +kernel) (Foot.holds_reg (by decide +kernel)))
      exact Moves.widen (s.modNv_moves _ rfl (by simp only [not_or, Nat.not_lt] at *; omega) (fun _ => rfl)) (Foot.sub0 (by decide +kernel))

def Foot.switchDone : Foot :=
  ⟨[(0x001010, 0x001010), (0x002104, 0x002104), (0x00210C, 0x00210C), (0x002114, 0x002114), (0x0B0000,
    0x0BFFFF), (0x0C1048, 0x0C10B8), (0x0C1100, 0x0C1100)], [], [.evq, .evtCut, .acc, .psc, .pwr]⟩

theorem State.switchDone_moves (s : State) (n : Nat) :
    Moves (Foot.switchDone.at [(4224 + 4 * (n % 17), 4224 + 4 * (n % 17))]) s (State.switchDone s n) := by
  unfold State.switchDone
  split
  · extract_lets -merge -underBinder +onlyGivenNames x1
    refine Moves.let_ x1 ?_ ?_
    · subst x1
      refine Moves.seq ?_ (State.switchEnd_moves ..) (Foot.sub1 (by decide +kernel) (Foot.holds_same (.head _)))
      exact Moves.refl _
    intro h1
    try clear_value x1
    refine Moves.ite (fun hc => ?_) (fun hc => ?_)
    · exact h1
    · refine Moves.seq ?_ (State.switchTo_moves ..) (Foot.sub1 (by decide +kernel) (Foot.holds_same (.head _)))
      exact h1
  · exact Moves.refl _

def Foot.thermalReset : Foot :=
  ⟨[], [], [.mem, .out, .evq, .evqCut, .evtCut, .allRegs, .acc, .lines, .ports, .top, .beam, .fab,
    .tim, .cans, .twn, .hlt, .sgw, .psc, .recorder, .pwr, .mgt]⟩

theorem State.thermalReset_moves (s : State) : Moves (Foot.thermalReset.at []) s (State.thermalReset s) := by
  unfold State.thermalReset
  refine Moves.ite (fun hc => ?_) (fun hc => ?_)
  · exact Moves.refl _
  · refine Moves.seq ?_ (State.moduleReset_moves ..) (Foot.sub0 (by decide +kernel))
    refine Moves.seq ?_ (State.modPwr_moves ..) (Foot.sub0 (by decide +kernel))
    exact Moves.refl _

def Foot.tick : Foot := ⟨[], [], [.clock, .tim]⟩

theorem State.tick_moves (s : State) : Moves (Foot.tick.at []) s (State.tick s) := by
  unfold State.tick
  extract_lets -merge -underBinder +onlyGivenNames x1
  refine Moves.let_ x1 ?_ ?_
  · subst x1
    refine Moves.seq ?_ (Moves.upd_mono5 _ _) (Foot.sub0 (by decide +kernel))
    exact Moves.refl _
  intro h1
  try clear_value x1
  refine Moves.ite (fun hc => ?_) (fun hc => ?_)
  · refine Moves.seq ?_ (Moves.upd_tim _ _) (Foot.sub0 (by decide +kernel))
    exact h1
  · exact h1

def Foot.topeCheck : Foot := ⟨[(0x0A1010, 0x0A1010)], [], [.twn]⟩

theorem State.topeCheck_moves (s : State) : Moves (Foot.topeCheck.at []) s (State.topeCheck s) := by
  unfold State.topeCheck
  split
  · refine Moves.ite (fun hc => ?_) (fun hc => ?_)
    · exact Moves.refl _
    · extract_lets -merge -underBinder +onlyGivenNames x1
      refine Moves.let_ x1 ?_ ?_
      · subst x1
        refine Moves.seq ?_ (State.modTwn_moves ..) (Foot.sub0 (by decide +kernel))
        exact Moves.refl _
      intro h1
      try clear_value x1
      refine Moves.ite (fun hc => ?_) (fun hc => ?_)
      · exact h1
      · refine Moves.seq ?_ (State.raise_moves ..) (Foot.sub1 (by decide +kernel) (Foot.holds_reg (by decide +kernel)))
        exact h1
  · exact Moves.refl _

def Foot.trainFail : Foot :=
  ⟨[(0x005040, 0x005040), (0x011010, 0x011010), (0x011040, 0x011048), (0x012010, 0x012010), (0x012040,
    0x012048), (0x013058, 0x013058), (0x021010, 0x021010), (0x021040, 0x021048), (0x022010, 0x022010), (0x022040, 0x022048), (0x023058,
    0x023058), (0x100010, 0x100010), (0x100064, 0x100064)], [], [.evq, .lines, .ports, .beam]⟩

theorem State.trainFail_moves (s : State) (l : Line) :
    Moves (Foot.trainFail.at [(4096 * ((65536 + 65536 * (l.idx % 2)) / 4096) + 16, 4096 * ((65536 + 65536 * (l.idx % 2)) / 4096) +
      16), (65612 + 65536 * (l.idx % 2), 65612 + 65536 * (l.idx % 2)), (65608 + 65536 * (l.idx % 2), 65608 + 65536 * (l.idx % 2)),
      (77904 + 65536 * ((l.port true).line.idx % 2), 77904 + 65536 * ((l.port true).line.idx % 2)),
      (77908 + 65536 * ((l.port true).line.idx % 2), 77908 + 65536 * ((l.port true).line.idx % 2)),
      (77896 + 65536 * ((l.port true).line.idx % 2), 77896 + 65536 * ((l.port true).line.idx % 2)),
      (77900 + 65536 * ((l.port true).line.idx % 2), 77900 + 65536 * ((l.port true).line.idx % 2)),
      (77904 + 65536 * ((l.port false).line.idx % 2), 77904 + 65536 * ((l.port false).line.idx % 2)),
      (77908 + 65536 * ((l.port false).line.idx % 2), 77908 + 65536 * ((l.port false).line.idx % 2)),
      (77896 + 65536 * ((l.port false).line.idx % 2), 77896 + 65536 * ((l.port false).line.idx % 2)),
      (77900 + 65536 * ((l.port false).line.idx % 2), 77900 + 65536 * ((l.port false).line.idx % 2)),
      (77888 + 65536 * (l.idx % 2), 77888 + 65536 * (l.idx % 2)),
      (4096 * ((77824 + 65536 * (l.idx % 2)) / 4096) + 16, 4096 * ((77824 + 65536 * (l.idx % 2)) / 4096) + 16)]) s (State.trainFail s
      l) := by
  unfold State.trainFail
  refine Moves.ite (fun hc => ?_) (fun hc => ?_)
  · refine Moves.seq ?_ (State.openingDone_moves ..) (Foot.sub0 (by decide +kernel))
    exact Moves.refl _
  · extract_lets -merge -underBinder +onlyGivenNames x1
    refine Moves.let_ x1 ?_ ?_
    · subst x1
      refine Moves.seq ?_ (State.raise_moves ..) (Foot.sub1 (by decide +kernel) (Foot.holds_same (.head _)))
      refine Moves.seq ?_ (State.satInc_moves _ _ (by first | (dsimp only [F.BL_LINE_CNT_TRAIN_FAIL_CNT]; omega) | omega)) (Foot.sub1 (by decide +kernel) (Foot.holds_same (.tail _ (.head _))))
      refine Moves.seq ?_ (State.satInc_moves _ _ (by first | (dsimp only [F.BL_LINE_STAT_FAIL_CNT]; omega) | omega)) (Foot.sub1 (by decide +kernel) (Foot.holds_same (.tail _ (.tail _ (.head _)))))
      exact Moves.refl _
    intro h1
    try clear_value x1
    extract_lets -merge -underBinder +onlyGivenNames x2
    subst x2
    extract_lets -merge -underBinder +onlyGivenNames x3
    refine Moves.let_ x3 ?_ ?_
    · subst x3
      refine Moves.foldl _ (fun x4 _ h4 => ?_) _ ?_
      · refine Moves.seq ?_ (State.post_moves ..) (Foot.sub0 (by decide +kernel))
        exact h4
      · exact h1
    intro h3
    try clear_value x3
    extract_lets -merge -underBinder +onlyGivenNames x5
    refine Moves.let_ x5 ?_ ?_
    · subst x5
      refine Moves.ite (fun hc => ?_) (fun hc => ?_)
      · refine Moves.seq ?_ (State.post_moves ..) (Foot.sub0 (by decide +kernel))
        refine Moves.seq ?_ (State.raise_moves ..) (Foot.sub1 (by decide +kernel) (Foot.holds_same (.head _)))
        refine Moves.seq ?_ (State.putB_moves _ _ _ (by first | (dsimp only [F.BL_LINE_STAT_LOCKOUT]; omega) | omega)) (Foot.sub1 (by decide +kernel) (Foot.holds_same (.tail _ (.tail _ (.head _)))))
        exact h3
      · exact h3
    intro h5
    try clear_value x5
    extract_lets -merge -underBinder +onlyGivenNames x6
    subst x6
    extract_lets -merge -underBinder +onlyGivenNames x7
    refine Moves.let_ x7 ?_ ?_
    · subst x7
      refine Moves.seq ?_ (State.startClose_moves ..) (Foot.sub_at (by decide +kernel) (Foot.own_cons (Foot.holds_same (.tail _ (.tail _ (.head _)))) (Foot.own_cons (Foot.holds_same (.tail _ (.tail _ (.tail _ (.head _))))) (Foot.own_cons (Foot.holds_same (.tail _ (.tail _ (.tail _ (.tail _ (.head _)))))) (Foot.own_cons (Foot.holds_same (.tail _ (.tail _ (.tail _ (.tail _ (.tail _ (.head _))))))) (Foot.own_cons (Foot.holds_same (.tail _ (.tail _ (.tail _ (.tail _ (.tail _ (.tail _ (.head _)))))))) (Foot.own_cons (Foot.holds_same (.tail _ (.tail _ (.tail _ (.tail _ (.tail _ (.tail _ (.tail _ (.head _))))))))) (Foot.own_cons (Foot.holds_same (.tail _ (.tail _ (.tail _ (.tail _ (.tail _ (.tail _ (.tail _ (.tail _ (.head _)))))))))) (Foot.own_cons (Foot.holds_same (.tail _ (.tail _ (.tail _ (.tail _ (.tail _ (.tail _ (.tail _ (.tail _ (.tail _ (.head _))))))))))) (Foot.own_cons (Foot.holds_same (.tail _ (.tail _ (.tail _ (.tail _ (.tail _ (.tail _ (.tail _ (.tail _ (.tail _ (.tail _ (.head _)))))))))))) (Foot.own_cons (Foot.holds_same (.tail _ (.tail _ (.tail _ (.tail _ (.tail _ (.tail _ (.tail _ (.tail _ (.tail _ (.tail _ (.tail _ (.head _))))))))))))) (Foot.own_cons (Foot.holds_same (.tail _ (.tail _ (.tail _ (.tail _ (.tail _ (.tail _ (.tail _ (.tail _ (.tail _ (.tail _ (.tail _ (.tail _ (.head _)))))))))))))) (Foot.own_cons (Foot.holds_same (.head _)) Foot.own_nil)))))))))))))
      refine Moves.seq ?_ (State.setLine_moves ..) (Foot.sub0 (by decide +kernel))
      exact h5
    intro h7
    try clear_value x7
    refine Moves.foldl _ (fun x8 _ h8 => ?_) _ ?_
    · refine Moves.seq ?_ (State.put_moves _ _ _ (by first | (dsimp only [F.BL_P_STAT_TSTATE]; omega) | omega)) (Foot.sub1 (by decide +kernel) (Foot.holds_four 139328 135232 73792 69696 (by decide +kernel) (by decide +kernel) (by decide +kernel) (by decide +kernel) (by first | (dsimp only [F.BL_P_STAT_TSTATE]; omega) | omega)))
      exact h8
    · exact h7

def Foot.ttdpTopology : Foot :=
  ⟨[(0x031010, 0x031010), (0x031090, 0x031090), (0x100010, 0x100010), (0x100044, 0x100044), (0x102010,
    0x102010), (0x102044, 0x102048)], [], [.mem, .evq, .top, .beam, .fab]⟩

theorem State.ttdpTopology_moves (s : State) (topo : Nat) (own : Nat) (nodes : List TtdpNode) :
    Moves (Foot.ttdpTopology.at []) s (State.ttdpTopology s topo own nodes) := by
  unfold State.ttdpTopology
  refine Moves.ite (fun hc => ?_) (fun hc => ?_)
  · exact Moves.refl _
  · extract_lets -merge -underBinder +onlyGivenNames x1
    subst x1
    extract_lets -merge -underBinder +onlyGivenNames x2
    subst x2
    extract_lets -merge -underBinder +onlyGivenNames x3
    subst x3
    extract_lets -merge -underBinder +onlyGivenNames x4
    refine Moves.let_ x4 ?_ ?_
    · subst x4
      refine Moves.ite (fun hc => ?_) (fun hc => ?_)
      · refine Moves.seq ?_ (State.raise_moves ..) (Foot.sub1 (by decide +kernel) (Foot.holds_reg (by decide +kernel)))
        exact Moves.refl _
      · exact Moves.refl _
    intro h4
    try clear_value x4
    extract_lets -merge -underBinder +onlyGivenNames x5
    refine Moves.let_ x5 ?_ ?_
    · subst x5
      refine Moves.seq ?_ (State.raise_moves ..) (Foot.sub1 (by decide +kernel) (Foot.holds_reg (by decide +kernel)))
      refine Moves.seq ?_ (State.wr_moves _ _ (by decide)) (Foot.sub1 (by decide +kernel) (Foot.holds_reg (by decide +kernel)))
      exact h4
    intro h5
    try clear_value x5
    extract_lets -merge -underBinder +onlyGivenNames x6
    refine Moves.let_ x6 ?_ ?_
    · subst x6
      refine Moves.seq ?_ (State.putB_moves _ _ _ (by decide)) (Foot.sub1 (by decide +kernel) (Foot.holds_reg (by decide +kernel)))
      refine Moves.seq ?_ (State.put_moves _ _ _ (by decide)) (Foot.sub1 (by decide +kernel) (Foot.holds_reg (by decide +kernel)))
      refine Moves.seq ?_ (State.put_moves _ _ _ (by decide)) (Foot.sub1 (by decide +kernel) (Foot.holds_reg (by decide +kernel)))
      exact h5
    intro h6
    try clear_value x6
    extract_lets -merge -underBinder +onlyGivenNames x7
    subst x7
    extract_lets -merge -underBinder +onlyGivenNames x8
    subst x8
    extract_lets -merge -underBinder +onlyGivenNames x9
    refine Moves.let_ x9 ?_ ?_
    · subst x9
      refine Moves.seq ?_ (Moves.upd_top _ _) (Foot.sub0 (by decide +kernel))
      exact h6
    intro h9
    try clear_value x9
    extract_lets -merge -underBinder +onlyGivenNames x10
    subst x10
    extract_lets -merge -underBinder +onlyGivenNames x11
    subst x11
    extract_lets -merge -underBinder +onlyGivenNames x12
    refine Moves.let_ x12 ?_ ?_
    · subst x12
      refine Moves.seq ?_ (State.flagIf_moves ..) (Foot.sub0 (by decide +kernel))
      refine Moves.seq ?_ (State.put_moves _ _ _ (by decide)) (Foot.sub1 (by decide +kernel) (Foot.holds_reg (by decide +kernel)))
      exact h9
    intro h12
    try clear_value x12
    extract_lets -merge -underBinder +onlyGivenNames x13
    refine Moves.let_ x13 ?_ ?_
    · subst x13
      refine Moves.seq ?_ (State.prepareShadow_moves ..) (Foot.sub0 (by decide +kernel))
      refine Moves.seq ?_ (State.storeShadow_moves ..) (Foot.sub0 (by decide +kernel))
      exact h12
    intro h13
    try clear_value x13
    extract_lets -merge -underBinder +onlyGivenNames x14
    refine Moves.let_ x14 ?_ ?_
    · subst x14
      refine Moves.seq ?_ (State.recordFlags_moves ..) (Foot.sub0 (by decide +kernel))
      exact h13
    intro h14
    try clear_value x14
    refine Moves.seq ?_ (State.put_moves _ _ _ (by decide)) (Foot.sub1 (by decide +kernel) (Foot.holds_reg (by decide +kernel)))
    refine Moves.seq ?_ (Moves.upd_top _ _) (Foot.sub0 (by decide +kernel))
    exact h14

def Foot.txDescriptor : Foot :=
  ⟨[(0x032010, 0x032010), (0x032060, 0x03206C), (0x040074, 0x040074), (0x050074, 0x050074), (0x0B2010,
    0x0B2010), (0x0B2188, 0x0B218C)], [], [.mem, .out, .evq, .fab]⟩

theorem State.txDescriptor_moves (s : State) (mem : List (Nat × Byte)) (readError : Bool) :
    Moves (Foot.txDescriptor.at []) s (State.txDescriptor s mem readError) := by
  unfold State.txDescriptor
  refine Moves.ite (fun hc => ?_) (fun hc => ?_)
  · exact Moves.refl _
  · extract_lets -merge -underBinder +onlyGivenNames x1
    subst x1
    extract_lets -merge -underBinder +onlyGivenNames x2
    subst x2
    refine Moves.ite (fun hc => ?_) (fun hc => ?_)
    · refine Moves.seq ?_ (State.dmaErr_moves ..) (Foot.sub0 (by decide +kernel))
      exact Moves.refl _
    · extract_lets -merge -underBinder +onlyGivenNames x3
      subst x3
      extract_lets -merge -underBinder +onlyGivenNames x4
      subst x4
      extract_lets -merge -underBinder +onlyGivenNames x5
      subst x5
      extract_lets -merge -underBinder +onlyGivenNames x6
      subst x6
      extract_lets -merge -underBinder +onlyGivenNames x7
      subst x7
      extract_lets -merge -underBinder +onlyGivenNames x8
      subst x8
      extract_lets -merge -underBinder +onlyGivenNames x9
      subst x9
      refine Moves.ite (fun hc => ?_) (fun hc => ?_)
      · refine Moves.seq ?_ (State.ringDone_moves ..) (Foot.sub_at (by decide +kernel) (Foot.own_cons (Foot.holds_reg (by decide +kernel)) (Foot.own_cons (Foot.holds_reg (by decide +kernel)) Foot.own_nil)))
        refine Moves.seq ?_ (State.dmaErr_moves ..) (Foot.sub0 (by decide +kernel))
        exact Moves.refl _
      · extract_lets -merge -underBinder +onlyGivenNames x10
        subst x10
        refine Moves.ite (fun hc => ?_) (fun hc => ?_)
        · refine Moves.ite (fun hc => ?_) (fun hc => ?_)
          · refine Moves.seq ?_ (State.ringDone_moves ..) (Foot.sub_at (by decide +kernel) (Foot.own_cons (Foot.holds_reg (by decide +kernel)) (Foot.own_cons (Foot.holds_reg (by decide +kernel)) Foot.own_nil)))
            refine Moves.seq ?_ (State.submit_moves ..) (Foot.sub0 (by decide +kernel))
            exact Moves.refl _
          · refine Moves.seq ?_ (State.ringDone_moves ..) (Foot.sub_at (by decide +kernel) (Foot.own_cons (Foot.holds_reg (by decide +kernel)) (Foot.own_cons (Foot.holds_reg (by decide +kernel)) Foot.own_nil)))
            exact Moves.refl _
        · refine Moves.ite (fun hc => ?_) (fun hc => ?_)
          · refine Moves.seq ?_ (State.ringDone_moves ..) (Foot.sub_at (by decide +kernel) (Foot.own_cons (Foot.holds_reg (by decide +kernel)) (Foot.own_cons (Foot.holds_reg (by decide +kernel)) Foot.own_nil)))
            refine Moves.seq ?_ (State.enqueue_moves ..) (Foot.sub1 (by decide +kernel) (Foot.holds_four 204908 204904 204900 204896 (by decide +kernel) (by decide +kernel) (by decide +kernel) (by decide +kernel) (by first | (dsimp only [F.HBR_RING_CFG_OWIN]; omega) | omega)))
            exact Moves.refl _
          · refine Moves.seq ?_ (State.ringDone_moves ..) (Foot.sub_at (by decide +kernel) (Foot.own_cons (Foot.holds_reg (by decide +kernel)) (Foot.own_cons (Foot.holds_reg (by decide +kernel)) Foot.own_nil)))
            exact Moves.refl _

def Foot.unitDone : Foot := ⟨[], [], [.out, .evq, .allRegs, .lines, .ports, .beam, .fab, .tim, .wake, .twn, .hlt, .psc, .pwr]⟩

theorem State.unitDone_moves (s : State) (sig : Word) (rounds : List (List FailCell)) :
    Moves (Foot.unitDone.at []) s (State.unitDone s sig rounds) := by
  unfold State.unitDone
  split
  · exact Moves.refl _
  · split
    · exact Moves.refl _
    · refine Moves.ite (fun hc => ?_) (fun hc => ?_)
      · exact Moves.refl _
      · extract_lets -merge -underBinder +onlyGivenNames x1
        subst x1
        extract_lets -merge -underBinder +onlyGivenNames x2
        subst x2
        extract_lets -merge -underBinder +onlyGivenNames x3
        refine Moves.let_ x3 ?_ ?_
        · subst x3
          refine Moves.seq ?_ (State.raise_moves ..) (Foot.sub1 (by decide +kernel) (Foot.holds_all (by decide +kernel)))
          refine Moves.seq ?_ (State.satInc_moves _ _ (by decide)) (Foot.sub1 (by decide +kernel) (Foot.holds_all (by decide +kernel)))
          refine Moves.seq ?_ (State.wr_moves _ _ (by decide)) (Foot.sub1 (by decide +kernel) (Foot.holds_all (by decide +kernel)))
          refine Moves.seq ?_ (State.memsTested_moves ..) (Foot.sub0 (by decide +kernel))
          exact Moves.refl _
        intro h3
        try clear_value x3
        extract_lets -merge -underBinder +onlyGivenNames x4
        refine Moves.let_ x4 ?_ ?_
        · subst x4
          refine Moves.seq ?_ (State.put_moves _ _ _ (by decide)) (Foot.sub1 (by decide +kernel) (Foot.holds_all (by decide +kernel)))
          refine Moves.seq ?_ (State.raise_moves ..) (Foot.sub1 (by decide +kernel) (Foot.holds_all (by decide +kernel)))
          exact h3
        intro h4
        try clear_value x4
        extract_lets -merge -underBinder +onlyGivenNames x5
        subst x5
        extract_lets -merge -underBinder +onlyGivenNames x6
        refine Moves.let_ x6 ?_ ?_
        · subst x6
          refine Moves.seq ?_ (State.modHlt_moves ..) (Foot.sub0 (by decide +kernel))
          exact h4
        intro h6
        try clear_value x6
        extract_lets -merge -underBinder +onlyGivenNames x7
        refine Moves.let_ x7 ?_ ?_
        · subst x7
          refine Moves.seq ?_ (State.memReasons_moves ..) (Foot.sub1 (by decide +kernel) (Foot.holds_all (by decide +kernel)))
          refine Moves.ite (fun hc => ?_) (fun hc => ?_)
          · exact h6
          · refine Moves.seq ?_ (State.bistFails_moves ..) (Foot.sub0 (by decide +kernel))
            exact h6
        intro h7
        try clear_value x7
        refine Moves.ite (fun hc => ?_) (fun hc => ?_)
        · refine Moves.seq ?_ (State.testEnd_moves ..) (Foot.sub0 (by decide +kernel))
          refine Moves.seq ?_ (State.bankBack_moves ..) (Foot.sub0 (by decide +kernel))
          exact h7
        · refine Moves.ite (fun hc => ?_) (fun hc => ?_)
          · refine Moves.seq ?_ (State.startUnit_moves ..) (Foot.sub0 (by decide +kernel))
            exact h7
          · refine Moves.seq ?_ (State.put_moves _ _ _ (by decide)) (Foot.sub1 (by decide +kernel) (Foot.holds_all (by decide +kernel)))
            exact h7

def Foot.validated : Foot := ⟨[(0x060010, 0x060010), (0x060044, 0x060044), (0x060050, 0x060050)], [], [.evq]⟩

theorem State.validated_moves (s : State) : Moves (Foot.validated.at []) s (State.validated s) := by
  unfold State.validated
  refine Moves.ite (fun hc => ?_) (fun hc => ?_)
  · exact Moves.refl _
  · extract_lets -merge -underBinder +onlyGivenNames x1
    subst x1
    extract_lets -merge -underBinder +onlyGivenNames x2
    refine Moves.let_ x2 ?_ ?_
    · subst x2
      refine Moves.seq ?_ (State.wr_moves _ _ (by decide)) (Foot.sub1 (by decide +kernel) (Foot.holds_reg (by decide +kernel)))
      exact Moves.refl _
    intro h2
    try clear_value x2
    refine Moves.ite (fun hc => ?_) (fun hc => ?_)
    · refine Moves.seq ?_ (State.putB_moves _ _ _ (by decide)) (Foot.sub1 (by decide +kernel) (Foot.holds_reg (by decide +kernel)))
      exact h2
    · refine Moves.seq ?_ (State.post_moves ..) (Foot.sub0 (by decide +kernel))
      refine Moves.seq ?_ (State.raise_moves ..) (Foot.sub1 (by decide +kernel) (Foot.holds_reg (by decide +kernel)))
      exact h2

def Foot.verdictLate : Foot := ⟨[], [], [.hlt]⟩

theorem State.verdictLate_moves (s : State) : Moves (Foot.verdictLate.at []) s (State.verdictLate s) := by
  unfold State.verdictLate
  refine Moves.ite (fun hc => ?_) (fun hc => ?_)
  · exact Moves.refl _
  · refine Moves.seq ?_ (State.notGood_moves ..) (Foot.sub0 (by decide +kernel))
    exact Moves.refl _

def Foot.wakeInputInactive : Foot := ⟨[(0x004044, 0x004044)], [], [.wake]⟩

theorem State.wakeInputInactive_moves (s : State) (input : Nat) :
    Moves (Foot.wakeInputInactive.at []) s (State.wakeInputInactive s input) := by
  unfold State.wakeInputInactive
  refine Moves.ite (fun hc => ?_) (fun hc => ?_)
  · exact Moves.refl _
  · extract_lets -merge -underBinder +onlyGivenNames x1
    refine Moves.let_ x1 ?_ ?_
    · subst x1
      refine Moves.seq ?_ (State.modWake_moves ..) (Foot.sub0 (by decide +kernel))
      exact Moves.refl _
    intro h1
    try clear_value x1
    refine Moves.ite (fun hc => ?_) (fun hc => ?_)
    · refine Moves.seq ?_ (State.putB_moves _ _ _ (by decide)) (Foot.sub1 (by decide +kernel) (Foot.holds_reg (by decide +kernel)))
      exact h1
    · exact h1

def Foot.wakeSource : Foot :=
  ⟨[(0x000040, 0x000040), (0x00004C, 0x00004C), (0x000054, 0x000054), (0x003010, 0x003010), (0x003040,
    0x003040), (0x003050, 0x003050), (0x003068, 0x00306C)], [], [.wake, .pwr]⟩

theorem State.wakeSource_moves (s : State) (src : Nat) (chan : Nat) :
    Moves (Foot.wakeSource.at []) s (State.wakeSource s src chan) := by
  unfold State.wakeSource
  refine Moves.ite (fun hc => ?_) (fun hc => ?_)
  · exact Moves.refl _
  · refine Moves.seq ?_ (State.tryWake_moves ..) (Foot.sub0 (by decide +kernel))
    refine Moves.seq ?_ (State.modWake_moves ..) (Foot.sub0 (by decide +kernel))
    exact Moves.refl _

def Foot.watchdog : Foot :=
  ⟨[(0x000054, 0x000054), (0x0D0010, 0x0D0010), (0x0D0040, 0x0D0040), (0x0D0048, 0x0D0048), (0x0D1000,
    0x0D2FFF), (0x0F0010, 0x0F0010), (0x0F0040, 0x0F0040), (0x0F00B4, 0x0F00B4)], [], [.evq, .evtCut, .hlt, .mgt]⟩

theorem State.watchdog_moves (s : State) : Moves (Foot.watchdog.at []) s (State.watchdog s) := by
  unfold State.watchdog
  refine Moves.ite (fun hc => ?_) (fun hc => ?_)
  · exact Moves.refl _
  · refine Moves.seq ?_ (State.mgtFault_moves ..) (Foot.sub0 (by decide +kernel))
    exact Moves.refl _

def Foot.windowOpen : Foot := ⟨[(0x03206C, 0x03206C)], [], [.out, .evq, .beam, .fab, .tim]⟩

theorem State.windowOpen_moves (s : State) (x : BPort) (intrude : Option Nat) (guardErr : Option Nat) :
    Moves (Foot.windowOpen.at [(77904 + 65536 * ((x.line.port true).line.idx % 2), 77904 + 65536 * ((x.line.port true).line.idx % 2)),
      (77908 + 65536 * ((x.line.port true).line.idx % 2), 77908 + 65536 * ((x.line.port true).line.idx % 2)),
      (77896 + 65536 * ((x.line.port true).line.idx % 2), 77896 + 65536 * ((x.line.port true).line.idx % 2)),
      (77900 + 65536 * ((x.line.port true).line.idx % 2), 77900 + 65536 * ((x.line.port true).line.idx % 2)),
      (77904 + 65536 * ((x.line.port false).line.idx % 2), 77904 + 65536 * ((x.line.port false).line.idx % 2)),
      (77908 + 65536 * ((x.line.port false).line.idx % 2), 77908 + 65536 * ((x.line.port false).line.idx % 2)),
      (77896 + 65536 * ((x.line.port false).line.idx % 2), 77896 + 65536 * ((x.line.port false).line.idx % 2)),
      (77900 + 65536 * ((x.line.port false).line.idx % 2), 77900 + 65536 * ((x.line.port false).line.idx % 2)),
      (77888 + 65536 * (x.line.idx % 2), 77888 + 65536 * (x.line.idx % 2)),
      (4096 * ((77824 + 65536 * (x.line.idx % 2)) / 4096) + 16, 4096 * ((77824 + 65536 * (x.line.idx % 2)) / 4096) + 16),
      (77920 + 65536 * (x.line.idx % 2), 77920 + 65536 * (x.line.idx % 2)),
      (77928 + 65536 * (x.line.idx % 2), 77928 + 65536 * (x.line.idx % 2)),
      (77924 + 65536 * (x.line.idx % 2), 77924 + 65536 * (x.line.idx % 2))]) s (State.windowOpen s x intrude guardErr) := by
  unfold State.windowOpen
  refine Moves.ite (fun hc => ?_) (fun hc => ?_)
  · exact Moves.refl _
  · extract_lets -merge -underBinder +onlyGivenNames x1
    subst x1
    extract_lets -merge -underBinder +onlyGivenNames x2
    refine Moves.let_ x2 ?_ ?_
    · subst x2
      refine Moves.seq ?_ (State.beamRefresh_moves ..) (Foot.sub_at (by decide +kernel) (Foot.own_cons (Foot.holds_same (.head _)) (Foot.own_cons (Foot.holds_same (.tail _ (.head _))) (Foot.own_cons (Foot.holds_same (.tail _ (.tail _ (.head _)))) (Foot.own_cons (Foot.holds_same (.tail _ (.tail _ (.tail _ (.head _))))) (Foot.own_cons (Foot.holds_same (.tail _ (.tail _ (.tail _ (.tail _ (.head _)))))) (Foot.own_cons (Foot.holds_same (.tail _ (.tail _ (.tail _ (.tail _ (.tail _ (.head _))))))) (Foot.own_cons (Foot.holds_same (.tail _ (.tail _ (.tail _ (.tail _ (.tail _ (.tail _ (.head _)))))))) (Foot.own_cons (Foot.holds_same (.tail _ (.tail _ (.tail _ (.tail _ (.tail _ (.tail _ (.tail _ (.head _))))))))) (Foot.own_cons (Foot.holds_same (.tail _ (.tail _ (.tail _ (.tail _ (.tail _ (.tail _ (.tail _ (.tail _ (.head _)))))))))) (Foot.own_cons (Foot.holds_same (.tail _ (.tail _ (.tail _ (.tail _ (.tail _ (.tail _ (.tail _ (.tail _ (.tail _ (.head _))))))))))) Foot.own_nil)))))))))))
      exact Moves.refl _
    intro h2
    try clear_value x2
    extract_lets -merge -underBinder +onlyGivenNames x3
    refine Moves.let_ x3 ?_ ?_
    · subst x3
      split
      · refine Moves.seq ?_ (State.intrusion_moves ..) (Foot.sub_at (by decide +kernel) (Foot.own_cons (Foot.holds_same (.tail _ (.tail _ (.tail _ (.tail _ (.tail _ (.tail _ (.tail _ (.tail _ (.tail _ (.head _))))))))))) (Foot.own_cons (Foot.holds_same (.tail _ (.tail _ (.tail _ (.tail _ (.tail _ (.tail _ (.tail _ (.tail _ (.tail _ (.tail _ (.head _)))))))))))) Foot.own_nil)))
        exact h2
      · exact h2
    intro h3
    try clear_value x3
    extract_lets -merge -underBinder +onlyGivenNames x4
    subst x4
    extract_lets -merge -underBinder +onlyGivenNames x5
    refine Moves.let_ x5 ?_ ?_
    · subst x5
      refine Moves.ite (fun hc => ?_) (fun hc => ?_)
      · refine Moves.ite (fun hc => ?_) (fun hc => ?_)
        · refine Moves.seq ?_ (State.markerCapture_moves ..) (Foot.sub0 (by decide +kernel))
          refine Moves.seq ?_ (State.inserted_moves ..) (Foot.sub1 (by decide +kernel) (Foot.holds_same (.tail _ (.tail _ (.tail _ (.tail _ (.tail _ (.tail _ (.tail _ (.tail _ (.tail _ (.tail _ (.tail _ (.head _))))))))))))))
          refine Moves.seq ?_ (State.emit_moves ..) (Foot.sub0 (by decide +kernel))
          exact h3
        · refine Moves.seq ?_ (State.inserted_moves ..) (Foot.sub1 (by decide +kernel) (Foot.holds_same (.tail _ (.tail _ (.tail _ (.tail _ (.tail _ (.tail _ (.tail _ (.tail _ (.tail _ (.tail _ (.tail _ (.head _))))))))))))))
          refine Moves.seq ?_ (State.emit_moves ..) (Foot.sub0 (by decide +kernel))
          exact h3
      · exact h3
    intro h5
    try clear_value x5
    extract_lets -merge -underBinder +onlyGivenNames x6
    subst x6
    extract_lets -merge -underBinder +onlyGivenNames x7
    refine Moves.let_ x7 ?_ ?_
    · subst x7
      refine Moves.ite (fun hc => ?_) (fun hc => ?_)
      · refine Moves.seq ?_ (State.fillData_moves ..) (Foot.sub_at (by decide +kernel) (Foot.own_cons (Foot.holds_same (.tail _ (.tail _ (.tail _ (.tail _ (.tail _ (.tail _ (.tail _ (.tail _ (.tail _ (.head _))))))))))) (Foot.own_cons (Foot.holds_same (.tail _ (.tail _ (.tail _ (.tail _ (.tail _ (.tail _ (.tail _ (.tail _ (.tail _ (.tail _ (.tail _ (.tail _ (.head _)))))))))))))) (Foot.own_cons (Foot.holds_same (.tail _ (.tail _ (.tail _ (.tail _ (.tail _ (.tail _ (.tail _ (.tail _ (.tail _ (.tail _ (.tail _ (.head _))))))))))))) Foot.own_nil))))
        refine Moves.seq ?_ (State.fillCtl_moves ..) (Foot.sub_at (by decide +kernel) (Foot.own_cons (Foot.holds_same (.tail _ (.tail _ (.tail _ (.tail _ (.tail _ (.tail _ (.tail _ (.tail _ (.tail _ (.tail _ (.tail _ (.tail _ (.head _)))))))))))))) (Foot.own_cons (Foot.holds_same (.tail _ (.tail _ (.tail _ (.tail _ (.tail _ (.tail _ (.tail _ (.tail _ (.tail _ (.head _))))))))))) (Foot.own_cons (Foot.holds_same (.tail _ (.tail _ (.tail _ (.tail _ (.tail _ (.tail _ (.tail _ (.tail _ (.tail _ (.tail _ (.tail _ (.head _))))))))))))) Foot.own_nil))))
        split
        · refine Moves.seq ?_ (State.intrusion_moves ..) (Foot.sub_at (by decide +kernel) (Foot.own_cons (Foot.holds_same (.tail _ (.tail _ (.tail _ (.tail _ (.tail _ (.tail _ (.tail _ (.tail _ (.tail _ (.head _))))))))))) (Foot.own_cons (Foot.holds_same (.tail _ (.tail _ (.tail _ (.tail _ (.tail _ (.tail _ (.tail _ (.tail _ (.tail _ (.tail _ (.head _)))))))))))) Foot.own_nil)))
          exact h5
        · exact h5
      · exact h5
    intro h7
    try clear_value x7
    refine Moves.seq ?_ (State.beamRefresh_moves ..) (Foot.sub_at (by decide +kernel) (Foot.own_cons (Foot.holds_same (.head _)) (Foot.own_cons (Foot.holds_same (.tail _ (.head _))) (Foot.own_cons (Foot.holds_same (.tail _ (.tail _ (.head _)))) (Foot.own_cons (Foot.holds_same (.tail _ (.tail _ (.tail _ (.head _))))) (Foot.own_cons (Foot.holds_same (.tail _ (.tail _ (.tail _ (.tail _ (.head _)))))) (Foot.own_cons (Foot.holds_same (.tail _ (.tail _ (.tail _ (.tail _ (.tail _ (.head _))))))) (Foot.own_cons (Foot.holds_same (.tail _ (.tail _ (.tail _ (.tail _ (.tail _ (.tail _ (.head _)))))))) (Foot.own_cons (Foot.holds_same (.tail _ (.tail _ (.tail _ (.tail _ (.tail _ (.tail _ (.tail _ (.head _))))))))) (Foot.own_cons (Foot.holds_same (.tail _ (.tail _ (.tail _ (.tail _ (.tail _ (.tail _ (.tail _ (.tail _ (.head _)))))))))) (Foot.own_cons (Foot.holds_same (.tail _ (.tail _ (.tail _ (.tail _ (.tail _ (.tail _ (.tail _ (.tail _ (.tail _ (.head _))))))))))) Foot.own_nil)))))))))))
    exact h7

end Sys2Proof.Machine
end

