-- ==== Sys2Proof/Laws/Foot15.lean ====
section
/-!
SUPPORT. What the operations may touch: one footprint and one lemma each.
-/

namespace Sys2Proof.Machine

set_option Elab.async false

def Foot.xdrop : Foot := ⟨[(0x002010, 0x002010), (0x00204C, 0x00204C)], [], [.evq]⟩

theorem State.xdrop_moves (s : State) (n : Nat) (count : Nat) : Moves (Foot.xdrop.at []) s (State.xdrop s n count) := by
  unfold State.xdrop
  refine Moves.ite (fun hc => ?_) (fun hc => ?_)
  · exact Moves.refl _
  · extract_lets -merge -underBinder +onlyGivenNames x1
    refine Moves.let_ x1 ?_ ?_
    · subst x1
      refine Moves.seq ?_ (State.raise_moves ..) (Foot.sub1 (by decide +kernel) (Foot.holds_reg (by decide +kernel)))
      refine Moves.seq ?_ (State.put_moves _ _ _ (by decide)) (Foot.sub1 (by decide +kernel) (Foot.holds_reg (by decide +kernel)))
      refine Moves.seq ?_ (State.satAdd_moves _ _ _ (by decide)) (Foot.sub1 (by decide +kernel) (Foot.holds_reg (by decide +kernel)))
      exact Moves.refl _
    intro h1
    try clear_value x1
    refine Moves.seq ?_ (State.post_moves ..) (Foot.sub0 (by decide +kernel))
    exact h1

def Foot.xoFail : Foot :=
  ⟨[(0x000054, 0x000054), (0x001040, 0x001040), (0x0F0010, 0x0F0010), (0x0F0040, 0x0F0040), (0x0F0080,
    0x0F0080)], [], [.evq, .hlt]⟩

theorem State.xoFail_moves (s : State) : Moves (Foot.xoFail.at []) s (State.xoFail s) := by
  unfold State.xoFail
  refine Moves.ite (fun hc => ?_) (fun hc => ?_)
  · exact Moves.refl _
  · refine Moves.seq ?_ (State.clockReason_moves ..) (Foot.sub0 (by decide +kernel))
    refine Moves.seq ?_ (State.putB_moves _ _ _ (by decide)) (Foot.sub1 (by decide +kernel) (Foot.holds_reg (by decide +kernel)))
    exact Moves.refl _

end Sys2Proof.Machine
end

