-- ==== Sys2Proof/Laws/FootC16.lean ====
section
/-!
SUPPORT. What the commands may touch: one footprint and one lemma each.
-/

namespace Sys2Proof.Machine

set_option Elab.async false

theorem execRegisterWrite_moves (q : Requester) (off : Nat) (v : Word) (s : State) :
    OutMoves (Foot.execRegisterWrite.at []) s (execRegisterWrite q off v s) := by
  unfold execRegisterWrite
  refine OutMoves.next ?_
  refine Moves.seq ?_ (State.writeAny_moves ..) (Foot.sub0 (by decide +kernel))
  exact Moves.refl _

theorem execUnmappedAccess_moves (q : Requester) (off : Nat) (write : Bool) (s : State) :
    OutMoves (Foot.execUnmappedAccess.at []) s (execUnmappedAccess q off write s) := by
  unfold execUnmappedAccess
  refine OutMoves.next ?_
  refine Moves.ite (fun hc => ?_) (fun hc => ?_)
  · refine Moves.seq ?_ (State.writeAny_moves ..) (Foot.sub0 (by decide +kernel))
    exact Moves.refl _
  · refine Moves.seq ?_ (State.readAny_moves ..) (Foot.sub1 (by decide +kernel) (Foot.holds_all (by decide +kernel)))
    exact Moves.refl _

theorem execAccessError_moves (q : Requester) (off : Nat) (width : Nat) (write : Bool) (s : State) :
    OutMoves (Foot.execAccessError.at [one (R.PG_EVT_RAW (pageOf off)), one (R.PG_LOCK (pageOf off))]) s (execAccessError q off width
      write s) := by
  unfold execAccessError
  refine OutMoves.next ?_
  refine Moves.seq ?_ (State.accessError_moves ..) (Foot.sub_at (by decide +kernel) (Foot.own_cons (Foot.holds_same (.head _)) (Foot.own_cons (Foot.holds_same (.tail _ (.head _))) Foot.own_nil)))
  exact Moves.refl _

theorem execOffIslandAccess_moves (q : Requester) (off : Nat) (write : Bool) (v : Word) (s : State) :
    OutMoves (Foot.execOffIslandAccess.at []) s (execOffIslandAccess q off write v s) := by
  unfold execOffIslandAccess
  refine OutMoves.next ?_
  refine Moves.ite (fun hc => ?_) (fun hc => ?_)
  · refine Moves.seq ?_ (State.writeAny_moves ..) (Foot.sub0 (by decide +kernel))
    exact Moves.refl _
  · refine Moves.seq ?_ (State.readAny_moves ..) (Foot.sub1 (by decide +kernel) (Foot.holds_all (by decide +kernel)))
    exact Moves.refl _

theorem execPairLowRead_moves (q : Requester) (off : Nat) (s : State) :
    OutMoves (Foot.execPairLowRead.at [one (R.PG_LOCK (pageOf (off / 4 * 4)))]) s (execPairLowRead q off s) := by
  unfold execPairLowRead
  refine OutMoves.next ?_
  refine Moves.seq ?_ (State.readAny_moves ..) (Foot.sub1 (by decide +kernel) (Foot.holds_same (.head _)))
  exact Moves.refl _

theorem execPairHighWrite_moves (q : Requester) (off : Nat) (v : Word) (s : State) :
    OutMoves (Foot.execPairHighWrite.at []) s (execPairHighWrite q off v s) := by
  unfold execPairHighWrite
  refine OutMoves.next ?_
  refine Moves.seq ?_ (State.writeAny_moves ..) (Foot.sub0 (by decide +kernel))
  exact Moves.refl _

theorem execPairLowWrite_moves (q : Requester) (off : Nat) (v : Word) (s : State) :
    OutMoves (Foot.execPairLowWrite.at []) s (execPairLowWrite q off v s) := by
  unfold execPairLowWrite
  refine OutMoves.next ?_
  refine Moves.seq ?_ (State.writeAny_moves ..) (Foot.sub0 (by decide +kernel))
  exact Moves.refl _

theorem execPageUnlock_moves (q : Requester) (pg : Nat) (s : State) :
    OutMoves (Foot.execPageUnlock.at [one (R.PG_LOCK (pageOf pg)), one (R.PG_EVT_RAW (pageOf pg))]) s (execPageUnlock q pg s) := by
  unfold execPageUnlock
  refine OutMoves.next ?_
  refine Moves.seq ?_ (State.lockWrite_moves ..) (Foot.sub_at (by decide +kernel) (Foot.own_cons (Foot.holds_same (.head _)) (Foot.own_cons (Foot.holds_same (.tail _ (.head _))) Foot.own_nil)))
  exact Moves.refl _

theorem execPageRelock_moves (q : Requester) (pg : Nat) (v : Word) (s : State) :
    OutMoves (Foot.execPageRelock.at [one (R.PG_LOCK (pageOf pg)), one (R.PG_EVT_RAW (pageOf pg))]) s (execPageRelock q pg v s) := by
  unfold execPageRelock
  refine OutMoves.next ?_
  refine Moves.seq ?_ (State.lockWrite_moves ..) (Foot.sub_at (by decide +kernel) (Foot.own_cons (Foot.holds_same (.head _)) (Foot.own_cons (Foot.holds_same (.tail _ (.head _))) Foot.own_nil)))
  exact Moves.refl _

theorem execLockTimeout_moves (pg : Nat) (s : State) :
    OutMoves (Foot.execLockTimeout.at [one (R.PG_LOCK (pageOf pg))]) s (execLockTimeout pg s) := by
  unfold execLockTimeout
  refine OutMoves.next ?_
  refine Moves.seq ?_ (State.lockTimeout_moves ..) (Foot.sub1 (by decide +kernel) (Foot.holds_same (.head _)))
  exact Moves.refl _

theorem execBlockSrst_moves (q : Requester) (pg : Nat) (v : Word) (s : State) :
    OutMoves (Foot.execBlockSrst.at []) s (execBlockSrst q pg v s) := by
  unfold execBlockSrst
  refine OutMoves.next ?_
  refine State.carry_moves ?_ (Foot.sub_at (by decide +kernel) (Foot.own_cons (Foot.holds_all (by decide +kernel)) (Foot.own_cons (Foot.holds_all (by decide +kernel)) Foot.own_nil))) (fun x1 h1 => ?_)
  · exact Moves.refl _
  · refine Moves.seq ?_ (State.ctrlWrite_moves ..) (Foot.sub0 (by decide +kernel))
    exact h1

theorem execSrstComplete_moves (pg : Nat) (s : State) :
    OutMoves (Foot.execSrstComplete.at [one (R.PG_EVT_RAW (pageOf pg))]) s (execSrstComplete pg s) := by
  unfold execSrstComplete
  refine OutMoves.next ?_
  refine Moves.seq ?_ (State.srstComplete_moves ..) (Foot.sub1 (by decide +kernel) (Foot.holds_same (.head _)))
  exact Moves.refl _

theorem execBlockEnWrite_moves (q : Requester) (pg : Nat) (v : Word) (s : State) :
    OutMoves (Foot.execBlockEnWrite.at []) s (execBlockEnWrite q pg v s) := by
  unfold execBlockEnWrite
  refine OutMoves.next ?_
  refine State.carry_moves ?_ (Foot.sub_at (by decide +kernel) (Foot.own_cons (Foot.holds_all (by decide +kernel)) (Foot.own_cons (Foot.holds_all (by decide +kernel)) Foot.own_nil))) (fun x1 h1 => ?_)
  · exact Moves.refl _
  · refine Moves.seq ?_ (State.ctrlWrite_moves ..) (Foot.sub0 (by decide +kernel))
    exact h1

theorem execEventForce_moves (q : Requester) (pg : Nat) (v : Word) (s : State) :
    OutMoves (Foot.execEventForce.at [one (R.PG_LOCK (pageOf (pageOf pg + 28))), one (R.PG_EVT_RAW (pageOf (pageOf pg + 28))), one
      (R.PG_EVT_RAW (pageOf pg))]) s (execEventForce q pg v s) := by
  unfold execEventForce
  refine OutMoves.next ?_
  refine State.carry_moves ?_ (Foot.sub_at (by decide +kernel) (Foot.own_cons (Foot.holds_same (.head _)) (Foot.own_cons (Foot.holds_same (.tail _ (.head _))) Foot.own_nil))) (fun x1 h1 => ?_)
  · exact Moves.refl _
  · refine Moves.seq ?_ (State.wr_moves_grow _ _ _ (fun b hb => by simp [hb])) (Foot.sub1 (by decide +kernel) (Foot.holds_same (.tail _ (.tail _ (.head _)))))
    exact h1

theorem execEventClear_moves (q : Requester) (pg : Nat) (v : Word) (hw : Word) (s : State) :
    OutMoves (Foot.execEventClear.at [one (R.PG_LOCK (pageOf (R.PG_EVT_RAW (pageOf pg)))), one (R.PG_EVT_RAW (pageOf (R.PG_EVT_RAW
      (pageOf pg)))), one (R.PG_EVT_RAW (pageOf pg))]) s (execEventClear q pg v hw s) := by
  unfold execEventClear
  refine OutMoves.next ?_
  refine State.carry_moves ?_ (Foot.sub_at (by decide +kernel) (Foot.own_cons (Foot.holds_same (.head _)) (Foot.own_cons (Foot.holds_same (.tail _ (.head _))) Foot.own_nil))) (fun x1 h1 => ?_)
  · exact Moves.refl _
  · refine Moves.seq ?_ (State.wr_moves_cut ..) (Foot.sub1 (by decide +kernel) (Foot.holds_same (.tail _ (.tail _ (.head _)))))
    exact h1

theorem execEventAggregate_moves (isl : Nat) (s : State) :
    OutMoves (Foot.execEventAggregate.at [one (R.SYS_EVT_PGSUM isl)]) s (execEventAggregate isl s) := by
  unfold execEventAggregate
  refine OutMoves.next ?_
  refine Moves.ite (fun hc => ?_) (fun hc => ?_)
  · refine Moves.seq ?_ (State.aggregate_moves ..) (Foot.sub1 (by decide +kernel) (Foot.holds_same (.head _)))
    exact Moves.refl _
  · exact Moves.refl _

theorem execEoi_moves (q : Requester) (v : Word) (s : State) : OutMoves (Foot.execEoi.at []) s (execEoi q v s) := by
  unfold execEoi
  refine OutMoves.next ?_
  refine State.carry_moves ?_ (Foot.sub_at (by decide +kernel) (Foot.own_cons (Foot.holds_reg (by decide +kernel)) (Foot.own_cons (Foot.holds_reg (by decide +kernel)) Foot.own_nil))) (fun x1 h1 => ?_)
  · exact Moves.refl _
  · refine Moves.seq ?_ (State.eoi_moves ..) (Foot.sub0 (by decide +kernel))
    exact h1

theorem execMsixUnmask_moves (q : Requester) (vec : Nat) (v : Word) (s : State) :
    OutMoves (Foot.execMsixUnmask.at [one (R.PG_LOCK (pageOf (R.HBR_MSIX_V_CTRL (vec % 32)))), one (R.PG_EVT_RAW (pageOf
      (R.HBR_MSIX_V_CTRL (vec % 32)))), one (R.HBR_MSIX_V_CTRL (vec % 32))]) s (execMsixUnmask q vec v s) := by
  unfold execMsixUnmask
  refine OutMoves.next ?_
  refine State.carry_moves ?_ (Foot.sub_at (by decide +kernel) (Foot.own_cons (Foot.holds_same (.head _)) (Foot.own_cons (Foot.holds_same (.tail _ (.head _))) Foot.own_nil))) (fun x1 h1 => ?_)
  · exact Moves.refl _
  · refine Moves.seq ?_ (State.msixMask_moves ..) (Foot.sub1 (by decide +kernel) (Foot.holds_same (.tail _ (.tail _ (.head _)))))
    exact h1

theorem execLineOpenRequest_moves (l : Line) (s : State) :
    OutMoves (Foot.execLineOpenRequest.at [one (R.BL_LINE_STAT l)]) s (execLineOpenRequest l s) := by
  unfold execLineOpenRequest
  refine OutMoves.next ?_
  refine Moves.seq ?_ (State.lineOpenRequest_moves ..) (Foot.sub1 (by decide +kernel) (Foot.holds_same (.head _)))
  exact Moves.refl _

theorem execOpeningComplete_moves (l : Line) (s : State) :
    OutMoves (Foot.execOpeningComplete.at [one (R.BL_LINE_STAT l), one (R.PG_EVT_RAW (P.LINE l)), one (R.BL_LINE_CNT l), one
      (R.BL_BEAM_DCUMD ((l.port true).line)), one (R.BL_BEAM_DCUMU ((l.port true).line)), one (R.BL_BEAM_PHD ((l.port true).line)),
      one (R.BL_BEAM_PHU ((l.port true).line)), one (R.BL_BEAM_DCUMD ((l.port false).line)), one (R.BL_BEAM_DCUMU ((l.port
      false).line)), one (R.BL_BEAM_PHD ((l.port false).line)), one (R.BL_BEAM_PHU ((l.port false).line)), one (R.BL_BEAM_STAT l), one
      (R.PG_EVT_RAW (P.BEAM l))]) s (execOpeningComplete l s) := by
  unfold execOpeningComplete
  refine OutMoves.next ?_
  refine Moves.seq ?_ (State.openingComplete_moves ..) (Foot.sub_at (by decide +kernel) (Foot.own_cons (Foot.holds_same (.head _)) (Foot.own_cons (Foot.holds_same (.tail _ (.head _))) (Foot.own_cons (Foot.holds_same (.tail _ (.tail _ (.head _)))) (Foot.own_cons (Foot.holds_same (.tail _ (.tail _ (.tail _ (.head _))))) (Foot.own_cons (Foot.holds_same (.tail _ (.tail _ (.tail _ (.tail _ (.head _)))))) (Foot.own_cons (Foot.holds_same (.tail _ (.tail _ (.tail _ (.tail _ (.tail _ (.head _))))))) (Foot.own_cons (Foot.holds_same (.tail _ (.tail _ (.tail _ (.tail _ (.tail _ (.tail _ (.head _)))))))) (Foot.own_cons (Foot.holds_same (.tail _ (.tail _ (.tail _ (.tail _ (.tail _ (.tail _ (.tail _ (.head _))))))))) (Foot.own_cons (Foot.holds_same (.tail _ (.tail _ (.tail _ (.tail _ (.tail _ (.tail _ (.tail _ (.tail _ (.head _)))))))))) (Foot.own_cons (Foot.holds_same (.tail _ (.tail _ (.tail _ (.tail _ (.tail _ (.tail _ (.tail _ (.tail _ (.tail _ (.head _))))))))))) (Foot.own_cons (Foot.holds_same (.tail _ (.tail _ (.tail _ (.tail _ (.tail _ (.tail _ (.tail _ (.tail _ (.tail _ (.tail _ (.head _)))))))))))) (Foot.own_cons (Foot.holds_same (.tail _ (.tail _ (.tail _ (.tail _ (.tail _ (.tail _ (.tail _ (.tail _ (.tail _ (.tail _ (.tail _ (.head _))))))))))))) (Foot.own_cons (Foot.holds_same (.tail _ (.tail _ (.tail _ (.tail _ (.tail _ (.tail _ (.tail _ (.tail _ (.tail _ (.tail _ (.tail _ (.tail _ (.head _)))))))))))))) Foot.own_nil))))))))))))))
  exact Moves.refl _

theorem execBypassClose_moves (l : Line) (s : State) :
    OutMoves (Foot.execBypassClose.at [one (R.BL_LINE_STAT l)]) s (execBypassClose l s) := by
  unfold execBypassClose
  refine OutMoves.next ?_
  refine Moves.seq ?_ (State.bypassClose_moves ..) (Foot.sub1 (by decide +kernel) (Foot.holds_same (.head _)))
  exact Moves.refl _

theorem execClosingComplete_moves (l : Line) (s : State) :
    OutMoves (Foot.execClosingComplete.at [one (R.BL_LINE_STAT l), one (R.BL_BEAM_DCUMD ((l.port true).line)), one (R.BL_BEAM_DCUMU
      ((l.port true).line)), one (R.BL_BEAM_PHD ((l.port true).line)), one (R.BL_BEAM_PHU ((l.port true).line)), one (R.BL_BEAM_DCUMD
      ((l.port false).line)), one (R.BL_BEAM_DCUMU ((l.port false).line)), one (R.BL_BEAM_PHD ((l.port false).line)), one
      (R.BL_BEAM_PHU ((l.port false).line)), one (R.BL_BEAM_STAT l), one (R.PG_EVT_RAW (P.BEAM l)), one (R.PG_EVT_RAW (P.LINE l))]) s
      (execClosingComplete l s) := by
  unfold execClosingComplete
  refine OutMoves.next ?_
  refine Moves.seq ?_ (State.closingComplete_moves ..) (Foot.sub_at (by decide +kernel) (Foot.own_cons (Foot.holds_same (.head _)) (Foot.own_cons (Foot.holds_same (.tail _ (.head _))) (Foot.own_cons (Foot.holds_same (.tail _ (.tail _ (.head _)))) (Foot.own_cons (Foot.holds_same (.tail _ (.tail _ (.tail _ (.head _))))) (Foot.own_cons (Foot.holds_same (.tail _ (.tail _ (.tail _ (.tail _ (.head _)))))) (Foot.own_cons (Foot.holds_same (.tail _ (.tail _ (.tail _ (.tail _ (.tail _ (.head _))))))) (Foot.own_cons (Foot.holds_same (.tail _ (.tail _ (.tail _ (.tail _ (.tail _ (.tail _ (.head _)))))))) (Foot.own_cons (Foot.holds_same (.tail _ (.tail _ (.tail _ (.tail _ (.tail _ (.tail _ (.tail _ (.head _))))))))) (Foot.own_cons (Foot.holds_same (.tail _ (.tail _ (.tail _ (.tail _ (.tail _ (.tail _ (.tail _ (.tail _ (.head _)))))))))) (Foot.own_cons (Foot.holds_same (.tail _ (.tail _ (.tail _ (.tail _ (.tail _ (.tail _ (.tail _ (.tail _ (.tail _ (.head _))))))))))) (Foot.own_cons (Foot.holds_same (.tail _ (.tail _ (.tail _ (.tail _ (.tail _ (.tail _ (.tail _ (.tail _ (.tail _ (.tail _ (.head _)))))))))))) (Foot.own_cons (Foot.holds_same (.tail _ (.tail _ (.tail _ (.tail _ (.tail _ (.tail _ (.tail _ (.tail _ (.tail _ (.tail _ (.tail _ (.head _))))))))))))) Foot.own_nil)))))))))))))
  exact Moves.refl _

theorem execBypWdog_moves (l : Line) (s : State) : OutMoves (Foot.execBypWdog.at [one (R.BL_LINE_STAT l)]) s (execBypWdog l s) := by
  unfold execBypWdog
  refine OutMoves.next ?_
  refine Moves.seq ?_ (State.bypWdog_moves ..) (Foot.sub1 (by decide +kernel) (Foot.holds_same (.head _)))
  exact Moves.refl _

theorem execBypMismatch_moves (l : Line) (s : State) :
    OutMoves (Foot.execBypMismatch.at [one (R.BL_LINE_STAT l)]) s (execBypMismatch l s) := by
  unfold execBypMismatch
  refine OutMoves.next ?_
  refine Moves.seq ?_ (State.bypMismatch_moves ..) (Foot.sub1 (by decide +kernel) (Foot.holds_same (.head _)))
  exact Moves.refl _

theorem execHoldoffElapsed_moves (l : Line) (s : State) : OutMoves (Foot.execHoldoffElapsed.at []) s (execHoldoffElapsed l s) := by
  unfold execHoldoffElapsed
  refine OutMoves.next ?_
  refine Moves.seq ?_ (State.holdoffElapsed_moves ..) (Foot.sub0 (by decide +kernel))
  exact Moves.refl _

theorem execForceByp_moves (q : Requester) (l : Line) (v : Word) (s : State) :
    OutMoves (Foot.execForceByp.at [one (R.PG_LOCK (pageOf (R.BL_LINE_CMD l))), one (R.PG_EVT_RAW (pageOf (R.BL_LINE_CMD l))), one
      (R.BL_LINE_CMD l), one (R.BL_LINE_STAT l), one (R.BL_BEAM_DCUMD ((l.port true).line)), one (R.BL_BEAM_DCUMU ((l.port
      true).line)), one (R.BL_BEAM_PHD ((l.port true).line)), one (R.BL_BEAM_PHU ((l.port true).line)), one (R.BL_BEAM_DCUMD ((l.port
      false).line)), one (R.BL_BEAM_DCUMU ((l.port false).line)), one (R.BL_BEAM_PHD ((l.port false).line)), one (R.BL_BEAM_PHU
      ((l.port false).line)), one (R.BL_BEAM_STAT l), one (R.PG_EVT_RAW (P.BEAM l)), one (R.PG_EVT_RAW (P.LINE l))]) s (execForceByp q
      l v s) := by
  unfold execForceByp
  refine OutMoves.next ?_
  refine State.carry_moves ?_ (Foot.sub_at (by decide +kernel) (Foot.own_cons (Foot.holds_same (.head _)) (Foot.own_cons (Foot.holds_same (.tail _ (.head _))) Foot.own_nil))) (fun x1 h1 => ?_)
  · exact Moves.refl _
  · refine Moves.seq ?_ (State.lineCmd_moves ..) (Foot.sub_at (by decide +kernel) (Foot.own_cons (Foot.holds_same (.tail _ (.head _))) (Foot.own_cons (Foot.holds_same (.tail _ (.tail _ (.head _)))) (Foot.own_cons (Foot.holds_same (.tail _ (.tail _ (.tail _ (.head _))))) (Foot.own_cons (Foot.holds_same (.tail _ (.tail _ (.tail _ (.tail _ (.head _)))))) (Foot.own_cons (Foot.holds_same (.tail _ (.tail _ (.tail _ (.tail _ (.tail _ (.head _))))))) (Foot.own_cons (Foot.holds_same (.tail _ (.tail _ (.tail _ (.tail _ (.tail _ (.tail _ (.head _)))))))) (Foot.own_cons (Foot.holds_same (.tail _ (.tail _ (.tail _ (.tail _ (.tail _ (.tail _ (.tail _ (.head _))))))))) (Foot.own_cons (Foot.holds_same (.tail _ (.tail _ (.tail _ (.tail _ (.tail _ (.tail _ (.tail _ (.tail _ (.head _)))))))))) (Foot.own_cons (Foot.holds_same (.tail _ (.tail _ (.tail _ (.tail _ (.tail _ (.tail _ (.tail _ (.tail _ (.tail _ (.head _))))))))))) (Foot.own_cons (Foot.holds_same (.tail _ (.tail _ (.tail _ (.tail _ (.tail _ (.tail _ (.tail _ (.tail _ (.tail _ (.tail _ (.head _)))))))))))) (Foot.own_cons (Foot.holds_same (.tail _ (.tail _ (.tail _ (.tail _ (.tail _ (.tail _ (.tail _ (.tail _ (.tail _ (.tail _ (.tail _ (.head _))))))))))))) (Foot.own_cons (Foot.holds_same (.tail _ (.tail _ (.tail _ (.tail _ (.tail _ (.tail _ (.tail _ (.tail _ (.tail _ (.tail _ (.tail _ (.tail _ (.head _)))))))))))))) (Foot.own_cons (Foot.holds_same (.tail _ (.tail _ (.tail _ (.tail _ (.tail _ (.tail _ (.tail _ (.tail _ (.tail _ (.tail _ (.tail _ (.tail _ (.tail _ (.head _))))))))))))))) (Foot.own_cons (Foot.holds_same (.tail _ (.tail _ (.tail _ (.tail _ (.tail _ (.tail _ (.tail _ (.tail _ (.tail _ (.tail _ (.tail _ (.tail _ (.tail _ (.tail _ (.head _)))))))))))))))) Foot.own_nil)))))))))))))))
    exact h1

theorem execClrLockout_moves (q : Requester) (l : Line) (v : Word) (s : State) :
    OutMoves (Foot.execClrLockout.at [one (R.PG_LOCK (pageOf (R.BL_LINE_CMD l))), one (R.PG_EVT_RAW (pageOf (R.BL_LINE_CMD l))), one
      (R.BL_LINE_CMD l), one (R.BL_LINE_STAT l), one (R.BL_BEAM_DCUMD ((l.port true).line)), one (R.BL_BEAM_DCUMU ((l.port
      true).line)), one (R.BL_BEAM_PHD ((l.port true).line)), one (R.BL_BEAM_PHU ((l.port true).line)), one (R.BL_BEAM_DCUMD ((l.port
      false).line)), one (R.BL_BEAM_DCUMU ((l.port false).line)), one (R.BL_BEAM_PHD ((l.port false).line)), one (R.BL_BEAM_PHU
      ((l.port false).line)), one (R.BL_BEAM_STAT l), one (R.PG_EVT_RAW (P.BEAM l)), one (R.PG_EVT_RAW (P.LINE l))]) s (execClrLockout
      q l v s) := by
  unfold execClrLockout
  refine OutMoves.next ?_
  refine State.carry_moves ?_ (Foot.sub_at (by decide +kernel) (Foot.own_cons (Foot.holds_same (.head _)) (Foot.own_cons (Foot.holds_same (.tail _ (.head _))) Foot.own_nil))) (fun x1 h1 => ?_)
  · exact Moves.refl _
  · refine Moves.seq ?_ (State.lineCmd_moves ..) (Foot.sub_at (by decide +kernel) (Foot.own_cons (Foot.holds_same (.tail _ (.head _))) (Foot.own_cons (Foot.holds_same (.tail _ (.tail _ (.head _)))) (Foot.own_cons (Foot.holds_same (.tail _ (.tail _ (.tail _ (.head _))))) (Foot.own_cons (Foot.holds_same (.tail _ (.tail _ (.tail _ (.tail _ (.head _)))))) (Foot.own_cons (Foot.holds_same (.tail _ (.tail _ (.tail _ (.tail _ (.tail _ (.head _))))))) (Foot.own_cons (Foot.holds_same (.tail _ (.tail _ (.tail _ (.tail _ (.tail _ (.tail _ (.head _)))))))) (Foot.own_cons (Foot.holds_same (.tail _ (.tail _ (.tail _ (.tail _ (.tail _ (.tail _ (.tail _ (.head _))))))))) (Foot.own_cons (Foot.holds_same (.tail _ (.tail _ (.tail _ (.tail _ (.tail _ (.tail _ (.tail _ (.tail _ (.head _)))))))))) (Foot.own_cons (Foot.holds_same (.tail _ (.tail _ (.tail _ (.tail _ (.tail _ (.tail _ (.tail _ (.tail _ (.tail _ (.head _))))))))))) (Foot.own_cons (Foot.holds_same (.tail _ (.tail _ (.tail _ (.tail _ (.tail _ (.tail _ (.tail _ (.tail _ (.tail _ (.tail _ (.head _)))))))))))) (Foot.own_cons (Foot.holds_same (.tail _ (.tail _ (.tail _ (.tail _ (.tail _ (.tail _ (.tail _ (.tail _ (.tail _ (.tail _ (.tail _ (.head _))))))))))))) (Foot.own_cons (Foot.holds_same (.tail _ (.tail _ (.tail _ (.tail _ (.tail _ (.tail _ (.tail _ (.tail _ (.tail _ (.tail _ (.tail _ (.tail _ (.head _)))))))))))))) (Foot.own_cons (Foot.holds_same (.tail _ (.tail _ (.tail _ (.tail _ (.tail _ (.tail _ (.tail _ (.tail _ (.tail _ (.tail _ (.tail _ (.tail _ (.tail _ (.head _))))))))))))))) (Foot.own_cons (Foot.holds_same (.tail _ (.tail _ (.tail _ (.tail _ (.tail _ (.tail _ (.tail _ (.tail _ (.tail _ (.tail _ (.tail _ (.tail _ (.tail _ (.tail _ (.head _)))))))))))))))) Foot.own_nil)))))))))))))))
    exact h1

theorem execRetrain_moves (q : Requester) (l : Line) (v : Word) (s : State) :
    OutMoves (Foot.execRetrain.at [one (R.PG_LOCK (pageOf (R.BL_LINE_CMD l))), one (R.PG_EVT_RAW (pageOf (R.BL_LINE_CMD l))), one
      (R.BL_LINE_CMD l), one (R.BL_LINE_STAT l), one (R.BL_BEAM_DCUMD ((l.port true).line)), one (R.BL_BEAM_DCUMU ((l.port
      true).line)), one (R.BL_BEAM_PHD ((l.port true).line)), one (R.BL_BEAM_PHU ((l.port true).line)), one (R.BL_BEAM_DCUMD ((l.port
      false).line)), one (R.BL_BEAM_DCUMU ((l.port false).line)), one (R.BL_BEAM_PHD ((l.port false).line)), one (R.BL_BEAM_PHU
      ((l.port false).line)), one (R.BL_BEAM_STAT l), one (R.PG_EVT_RAW (P.BEAM l)), one (R.PG_EVT_RAW (P.LINE l))]) s (execRetrain q
      l v s) := by
  unfold execRetrain
  refine OutMoves.next ?_
  refine State.carry_moves ?_ (Foot.sub_at (by decide +kernel) (Foot.own_cons (Foot.holds_same (.head _)) (Foot.own_cons (Foot.holds_same (.tail _ (.head _))) Foot.own_nil))) (fun x1 h1 => ?_)
  · exact Moves.refl _
  · refine Moves.seq ?_ (State.lineCmd_moves ..) (Foot.sub_at (by decide +kernel) (Foot.own_cons (Foot.holds_same (.tail _ (.head _))) (Foot.own_cons (Foot.holds_same (.tail _ (.tail _ (.head _)))) (Foot.own_cons (Foot.holds_same (.tail _ (.tail _ (.tail _ (.head _))))) (Foot.own_cons (Foot.holds_same (.tail _ (.tail _ (.tail _ (.tail _ (.head _)))))) (Foot.own_cons (Foot.holds_same (.tail _ (.tail _ (.tail _ (.tail _ (.tail _ (.head _))))))) (Foot.own_cons (Foot.holds_same (.tail _ (.tail _ (.tail _ (.tail _ (.tail _ (.tail _ (.head _)))))))) (Foot.own_cons (Foot.holds_same (.tail _ (.tail _ (.tail _ (.tail _ (.tail _ (.tail _ (.tail _ (.head _))))))))) (Foot.own_cons (Foot.holds_same (.tail _ (.tail _ (.tail _ (.tail _ (.tail _ (.tail _ (.tail _ (.tail _ (.head _)))))))))) (Foot.own_cons (Foot.holds_same (.tail _ (.tail _ (.tail _ (.tail _ (.tail _ (.tail _ (.tail _ (.tail _ (.tail _ (.head _))))))))))) (Foot.own_cons (Foot.holds_same (.tail _ (.tail _ (.tail _ (.tail _ (.tail _ (.tail _ (.tail _ (.tail _ (.tail _ (.tail _ (.head _)))))))))))) (Foot.own_cons (Foot.holds_same (.tail _ (.tail _ (.tail _ (.tail _ (.tail _ (.tail _ (.tail _ (.tail _ (.tail _ (.tail _ (.tail _ (.head _))))))))))))) (Foot.own_cons (Foot.holds_same (.tail _ (.tail _ (.tail _ (.tail _ (.tail _ (.tail _ (.tail _ (.tail _ (.tail _ (.tail _ (.tail _ (.tail _ (.head _)))))))))))))) (Foot.own_cons (Foot.holds_same (.tail _ (.tail _ (.tail _ (.tail _ (.tail _ (.tail _ (.tail _ (.tail _ (.tail _ (.tail _ (.tail _ (.tail _ (.tail _ (.head _))))))))))))))) (Foot.own_cons (Foot.holds_same (.tail _ (.tail _ (.tail _ (.tail _ (.tail _ (.tail _ (.tail _ (.tail _ (.tail _ (.tail _ (.tail _ (.tail _ (.tail _ (.tail _ (.head _)))))))))))))))) Foot.own_nil)))))))))))))))
    exact h1

theorem execPortLinkUp_moves (p : BPort) (rate : Nat) (rx : Nat) (tx : Nat) (isMaster : Bool) (s : State) :
    OutMoves (Foot.execPortLinkUp.at [one (R.BL_P_STAT p), one (R.BL_P_LAT p), one (R.PG_EVT_RAW (P.PORT p)), one (R.PG_EVT_RAW
      (P.LINE p.line)), one (R.PG_EVT_RAW (P.PORT p.opposite)), one (R.BL_P_STAT p.opposite), one (R.BL_P_SNR p.opposite), one
      (R.BL_P_LAT p.opposite), one (R.BL_BEAM_LDLY p.opposite.line), one (R.BL_P_SNR p), one (R.BL_BEAM_LDLY p.line), one
      (R.BL_BEAM_DCUMD ((p.line.port true).line)), one (R.BL_BEAM_DCUMU ((p.line.port true).line)), one (R.BL_BEAM_PHD ((p.line.port
      true).line)), one (R.BL_BEAM_PHU ((p.line.port true).line)), one (R.BL_BEAM_DCUMD ((p.line.port false).line)), one
      (R.BL_BEAM_DCUMU ((p.line.port false).line)), one (R.BL_BEAM_PHD ((p.line.port false).line)), one (R.BL_BEAM_PHU ((p.line.port
      false).line)), one (R.BL_BEAM_STAT p.line), one (R.PG_EVT_RAW (P.BEAM p.line))]) s (execPortLinkUp p rate rx tx isMaster s) :=
      by
  unfold execPortLinkUp
  refine OutMoves.next ?_
  refine State.leaving_moves ?_ (Foot.sub0 (by decide +kernel)) (fun x1 h1 => ?_)
  · exact Moves.refl _
  · refine Moves.seq ?_ (State.portLinkUp_moves ..) (Foot.sub_at (by decide +kernel) (Foot.own_cons (Foot.holds_same (.head _)) (Foot.own_cons (Foot.holds_same (.tail _ (.head _))) (Foot.own_cons (Foot.holds_same (.tail _ (.tail _ (.head _)))) (Foot.own_cons (Foot.holds_same (.tail _ (.tail _ (.tail _ (.head _))))) (Foot.own_cons (Foot.holds_same (.tail _ (.tail _ (.tail _ (.tail _ (.head _)))))) (Foot.own_cons (Foot.holds_same (.tail _ (.tail _ (.tail _ (.tail _ (.tail _ (.head _))))))) (Foot.own_cons (Foot.holds_same (.tail _ (.tail _ (.tail _ (.tail _ (.tail _ (.tail _ (.head _)))))))) (Foot.own_cons (Foot.holds_same (.tail _ (.tail _ (.tail _ (.tail _ (.tail _ (.tail _ (.tail _ (.head _))))))))) (Foot.own_cons (Foot.holds_same (.tail _ (.tail _ (.tail _ (.tail _ (.tail _ (.tail _ (.tail _ (.tail _ (.head _)))))))))) (Foot.own_cons (Foot.holds_same (.tail _ (.tail _ (.tail _ (.tail _ (.tail _ (.tail _ (.tail _ (.tail _ (.tail _ (.head _))))))))))) (Foot.own_cons (Foot.holds_same (.tail _ (.tail _ (.tail _ (.tail _ (.tail _ (.tail _ (.tail _ (.tail _ (.tail _ (.tail _ (.head _)))))))))))) (Foot.own_cons (Foot.holds_same (.tail _ (.tail _ (.tail _ (.tail _ (.tail _ (.tail _ (.tail _ (.tail _ (.tail _ (.tail _ (.tail _ (.head _))))))))))))) (Foot.own_cons (Foot.holds_same (.tail _ (.tail _ (.tail _ (.tail _ (.tail _ (.tail _ (.tail _ (.tail _ (.tail _ (.tail _ (.tail _ (.tail _ (.head _)))))))))))))) (Foot.own_cons (Foot.holds_same (.tail _ (.tail _ (.tail _ (.tail _ (.tail _ (.tail _ (.tail _ (.tail _ (.tail _ (.tail _ (.tail _ (.tail _ (.tail _ (.head _))))))))))))))) (Foot.own_cons (Foot.holds_same (.tail _ (.tail _ (.tail _ (.tail _ (.tail _ (.tail _ (.tail _ (.tail _ (.tail _ (.tail _ (.tail _ (.tail _ (.tail _ (.tail _ (.head _)))))))))))))))) (Foot.own_cons (Foot.holds_same (.tail _ (.tail _ (.tail _ (.tail _ (.tail _ (.tail _ (.tail _ (.tail _ (.tail _ (.tail _ (.tail _ (.tail _ (.tail _ (.tail _ (.tail _ (.head _))))))))))))))))) (Foot.own_cons (Foot.holds_same (.tail _ (.tail _ (.tail _ (.tail _ (.tail _ (.tail _ (.tail _ (.tail _ (.tail _ (.tail _ (.tail _ (.tail _ (.tail _ (.tail _ (.tail _ (.tail _ (.head _)))))))))))))))))) (Foot.own_cons (Foot.holds_same (.tail _ (.tail _ (.tail _ (.tail _ (.tail _ (.tail _ (.tail _ (.tail _ (.tail _ (.tail _ (.tail _ (.tail _ (.tail _ (.tail _ (.tail _ (.tail _ (.tail _ (.head _))))))))))))))))))) (Foot.own_cons (Foot.holds_same (.tail _ (.tail _ (.tail _ (.tail _ (.tail _ (.tail _ (.tail _ (.tail _ (.tail _ (.tail _ (.tail _ (.tail _ (.tail _ (.tail _ (.tail _ (.tail _ (.tail _ (.tail _ (.head _)))))))))))))))))))) (Foot.own_cons (Foot.holds_same (.tail _ (.tail _ (.tail _ (.tail _ (.tail _ (.tail _ (.tail _ (.tail _ (.tail _ (.tail _ (.tail _ (.tail _ (.tail _ (.tail _ (.tail _ (.tail _ (.tail _ (.tail _ (.tail _ (.head _))))))))))))))))))))) (Foot.own_cons (Foot.holds_same (.tail _ (.tail _ (.tail _ (.tail _ (.tail _ (.tail _ (.tail _ (.tail _ (.tail _ (.tail _ (.tail _ (.tail _ (.tail _ (.tail _ (.tail _ (.tail _ (.tail _ (.tail _ (.tail _ (.tail _ (.head _)))))))))))))))))))))) Foot.own_nil))))))))))))))))))))))
    exact h1

theorem execPortLinkDown_moves (p : BPort) (s : State) :
    OutMoves (Foot.execPortLinkDown.at [one (R.PG_EVT_RAW (P.PORT p)), one (R.BL_P_STAT p), one (R.BL_P_SNR p), one (R.BL_P_LAT p),
      one (R.BL_BEAM_LDLY p.line), one (R.BL_BEAM_DCUMD ((p.line.port true).line)), one (R.BL_BEAM_DCUMU ((p.line.port true).line)),
      one (R.BL_BEAM_PHD ((p.line.port true).line)), one (R.BL_BEAM_PHU ((p.line.port true).line)), one (R.BL_BEAM_DCUMD ((p.line.port
      false).line)), one (R.BL_BEAM_DCUMU ((p.line.port false).line)), one (R.BL_BEAM_PHD ((p.line.port false).line)), one
      (R.BL_BEAM_PHU ((p.line.port false).line)), one (R.BL_BEAM_STAT p.line), one (R.PG_EVT_RAW (P.BEAM p.line))]) s
      (execPortLinkDown p s) := by
  unfold execPortLinkDown
  refine OutMoves.next ?_
  refine State.leaving_moves ?_ (Foot.sub0 (by decide +kernel)) (fun x1 h1 => ?_)
  · exact Moves.refl _
  · refine Moves.seq ?_ (State.portLinkDown_moves ..) (Foot.sub_at (by decide +kernel) (Foot.own_cons (Foot.holds_same (.head _)) (Foot.own_cons (Foot.holds_same (.tail _ (.head _))) (Foot.own_cons (Foot.holds_same (.tail _ (.tail _ (.head _)))) (Foot.own_cons (Foot.holds_same (.tail _ (.tail _ (.tail _ (.head _))))) (Foot.own_cons (Foot.holds_same (.tail _ (.tail _ (.tail _ (.tail _ (.head _)))))) (Foot.own_cons (Foot.holds_same (.tail _ (.tail _ (.tail _ (.tail _ (.tail _ (.head _))))))) (Foot.own_cons (Foot.holds_same (.tail _ (.tail _ (.tail _ (.tail _ (.tail _ (.tail _ (.head _)))))))) (Foot.own_cons (Foot.holds_same (.tail _ (.tail _ (.tail _ (.tail _ (.tail _ (.tail _ (.tail _ (.head _))))))))) (Foot.own_cons (Foot.holds_same (.tail _ (.tail _ (.tail _ (.tail _ (.tail _ (.tail _ (.tail _ (.tail _ (.head _)))))))))) (Foot.own_cons (Foot.holds_same (.tail _ (.tail _ (.tail _ (.tail _ (.tail _ (.tail _ (.tail _ (.tail _ (.tail _ (.head _))))))))))) (Foot.own_cons (Foot.holds_same (.tail _ (.tail _ (.tail _ (.tail _ (.tail _ (.tail _ (.tail _ (.tail _ (.tail _ (.tail _ (.head _)))))))))))) (Foot.own_cons (Foot.holds_same (.tail _ (.tail _ (.tail _ (.tail _ (.tail _ (.tail _ (.tail _ (.tail _ (.tail _ (.tail _ (.tail _ (.head _))))))))))))) (Foot.own_cons (Foot.holds_same (.tail _ (.tail _ (.tail _ (.tail _ (.tail _ (.tail _ (.tail _ (.tail _ (.tail _ (.tail _ (.tail _ (.tail _ (.head _)))))))))))))) (Foot.own_cons (Foot.holds_same (.tail _ (.tail _ (.tail _ (.tail _ (.tail _ (.tail _ (.tail _ (.tail _ (.tail _ (.tail _ (.tail _ (.tail _ (.tail _ (.head _))))))))))))))) (Foot.own_cons (Foot.holds_same (.tail _ (.tail _ (.tail _ (.tail _ (.tail _ (.tail _ (.tail _ (.tail _ (.tail _ (.tail _ (.tail _ (.tail _ (.tail _ (.tail _ (.head _)))))))))))))))) Foot.own_nil))))))))))))))))
    exact h1

theorem execTrainFail_moves (l : Line) (s : State) :
    OutMoves (Foot.execTrainFail.at [one (R.PG_EVT_RAW (P.LINE l)), one (R.BL_LINE_CNT l), one (R.BL_LINE_STAT l), one
      (R.BL_BEAM_DCUMD ((l.port true).line)), one (R.BL_BEAM_DCUMU ((l.port true).line)), one (R.BL_BEAM_PHD ((l.port true).line)),
      one (R.BL_BEAM_PHU ((l.port true).line)), one (R.BL_BEAM_DCUMD ((l.port false).line)), one (R.BL_BEAM_DCUMU ((l.port
      false).line)), one (R.BL_BEAM_PHD ((l.port false).line)), one (R.BL_BEAM_PHU ((l.port false).line)), one (R.BL_BEAM_STAT l), one
      (R.PG_EVT_RAW (P.BEAM l))]) s (execTrainFail l s) := by
  unfold execTrainFail
  refine OutMoves.next ?_
  refine Moves.seq ?_ (State.trainFail_moves ..) (Foot.sub_at (by decide +kernel) (Foot.own_cons (Foot.holds_same (.head _)) (Foot.own_cons (Foot.holds_same (.tail _ (.head _))) (Foot.own_cons (Foot.holds_same (.tail _ (.tail _ (.head _)))) (Foot.own_cons (Foot.holds_same (.tail _ (.tail _ (.tail _ (.head _))))) (Foot.own_cons (Foot.holds_same (.tail _ (.tail _ (.tail _ (.tail _ (.head _)))))) (Foot.own_cons (Foot.holds_same (.tail _ (.tail _ (.tail _ (.tail _ (.tail _ (.head _))))))) (Foot.own_cons (Foot.holds_same (.tail _ (.tail _ (.tail _ (.tail _ (.tail _ (.tail _ (.head _)))))))) (Foot.own_cons (Foot.holds_same (.tail _ (.tail _ (.tail _ (.tail _ (.tail _ (.tail _ (.tail _ (.head _))))))))) (Foot.own_cons (Foot.holds_same (.tail _ (.tail _ (.tail _ (.tail _ (.tail _ (.tail _ (.tail _ (.tail _ (.head _)))))))))) (Foot.own_cons (Foot.holds_same (.tail _ (.tail _ (.tail _ (.tail _ (.tail _ (.tail _ (.tail _ (.tail _ (.tail _ (.head _))))))))))) (Foot.own_cons (Foot.holds_same (.tail _ (.tail _ (.tail _ (.tail _ (.tail _ (.tail _ (.tail _ (.tail _ (.tail _ (.tail _ (.head _)))))))))))) (Foot.own_cons (Foot.holds_same (.tail _ (.tail _ (.tail _ (.tail _ (.tail _ (.tail _ (.tail _ (.tail _ (.tail _ (.tail _ (.tail _ (.head _))))))))))))) (Foot.own_cons (Foot.holds_same (.tail _ (.tail _ (.tail _ (.tail _ (.tail _ (.tail _ (.tail _ (.tail _ (.tail _ (.tail _ (.tail _ (.tail _ (.head _)))))))))))))) Foot.own_nil))))))))))))))
  exact Moves.refl _

theorem execFailCntClear_moves (l : Line) (s : State) :
    OutMoves (Foot.execFailCntClear.at [one (R.BL_LINE_STAT l)]) s (execFailCntClear l s) := by
  unfold execFailCntClear
  refine OutMoves.next ?_
  refine Moves.seq ?_ (State.failCntClear_moves ..) (Foot.sub1 (by decide +kernel) (Foot.holds_same (.head _)))
  exact Moves.refl _

theorem execFailsafe_moves (l : Line) (fab : Bool) (top : Bool) (s : State) :
    OutMoves (Foot.execFailsafe.at [one (R.BL_LINE_STAT l), one (R.PG_EVT_RAW (P.LINE l)), one (R.BL_LINE_CNT l), one (R.BL_BEAM_DCUMD
      ((l.port true).line)), one (R.BL_BEAM_DCUMU ((l.port true).line)), one (R.BL_BEAM_PHD ((l.port true).line)), one (R.BL_BEAM_PHU
      ((l.port true).line)), one (R.BL_BEAM_DCUMD ((l.port false).line)), one (R.BL_BEAM_DCUMU ((l.port false).line)), one
      (R.BL_BEAM_PHD ((l.port false).line)), one (R.BL_BEAM_PHU ((l.port false).line)), one (R.BL_BEAM_STAT l), one (R.PG_EVT_RAW
      (P.BEAM l))]) s (execFailsafe l fab top s) := by
  unfold execFailsafe
  refine OutMoves.next ?_
  refine Moves.seq ?_ (State.failsafe_moves ..) (Foot.sub_at (by decide +kernel) (Foot.own_cons (Foot.holds_same (.head _)) (Foot.own_cons (Foot.holds_same (.tail _ (.head _))) (Foot.own_cons (Foot.holds_same (.tail _ (.tail _ (.head _)))) (Foot.own_cons (Foot.holds_same (.tail _ (.tail _ (.tail _ (.head _))))) (Foot.own_cons (Foot.holds_same (.tail _ (.tail _ (.tail _ (.tail _ (.head _)))))) (Foot.own_cons (Foot.holds_same (.tail _ (.tail _ (.tail _ (.tail _ (.tail _ (.head _))))))) (Foot.own_cons (Foot.holds_same (.tail _ (.tail _ (.tail _ (.tail _ (.tail _ (.tail _ (.head _)))))))) (Foot.own_cons (Foot.holds_same (.tail _ (.tail _ (.tail _ (.tail _ (.tail _ (.tail _ (.tail _ (.head _))))))))) (Foot.own_cons (Foot.holds_same (.tail _ (.tail _ (.tail _ (.tail _ (.tail _ (.tail _ (.tail _ (.tail _ (.head _)))))))))) (Foot.own_cons (Foot.holds_same (.tail _ (.tail _ (.tail _ (.tail _ (.tail _ (.tail _ (.tail _ (.tail _ (.tail _ (.head _))))))))))) (Foot.own_cons (Foot.holds_same (.tail _ (.tail _ (.tail _ (.tail _ (.tail _ (.tail _ (.tail _ (.tail _ (.tail _ (.tail _ (.head _)))))))))))) (Foot.own_cons (Foot.holds_same (.tail _ (.tail _ (.tail _ (.tail _ (.tail _ (.tail _ (.tail _ (.tail _ (.tail _ (.tail _ (.tail _ (.head _))))))))))))) (Foot.own_cons (Foot.holds_same (.tail _ (.tail _ (.tail _ (.tail _ (.tail _ (.tail _ (.tail _ (.tail _ (.tail _ (.tail _ (.tail _ (.tail _ (.head _)))))))))))))) Foot.own_nil))))))))))))))
  exact Moves.refl _

theorem execFailsafeRecover_moves (l : Line) (s : State) :
    OutMoves (Foot.execFailsafeRecover.at [one (R.BL_LINE_STAT l), one (R.PG_EVT_RAW (P.LINE l))]) s (execFailsafeRecover l s) := by
  unfold execFailsafeRecover
  refine OutMoves.next ?_
  refine Moves.seq ?_ (State.failsafeRecover_moves ..) (Foot.sub_at (by decide +kernel) (Foot.own_cons (Foot.holds_same (.head _)) (Foot.own_cons (Foot.holds_same (.tail _ (.head _))) Foot.own_nil)))
  exact Moves.refl _

theorem execLineSrst_moves (q : Requester) (l : Line) (v : Word) (s : State) :
    OutMoves (Foot.execLineSrst.at []) s (execLineSrst q l v s) := by
  unfold execLineSrst
  refine OutMoves.next ?_
  refine State.carry_moves ?_ (Foot.sub_at (by decide +kernel) (Foot.own_cons (Foot.holds_all (by decide +kernel)) (Foot.own_cons (Foot.holds_all (by decide +kernel)) Foot.own_nil))) (fun x1 h1 => ?_)
  · exact Moves.refl _
  · refine Moves.seq ?_ (State.ctrlWrite_moves ..) (Foot.sub0 (by decide +kernel))
    exact h1

theorem execPortSrst_moves (q : Requester) (p : BPort) (v : Word) (s : State) :
    OutMoves (Foot.execPortSrst.at []) s (execPortSrst q p v s) := by
  unfold execPortSrst
  refine OutMoves.next ?_
  refine State.carry_moves ?_ (Foot.sub_at (by decide +kernel) (Foot.own_cons (Foot.holds_all (by decide +kernel)) (Foot.own_cons (Foot.holds_all (by decide +kernel)) Foot.own_nil))) (fun x1 h1 => ?_)
  · exact Moves.refl _
  · refine Moves.seq ?_ (State.ctrlWrite_moves ..) (Foot.sub0 (by decide +kernel))
    exact h1

theorem execBackboneFrameRx_moves (p : BPort) (pcp : Nat) (f : NFrame) (w : FrameSigns) (s : State) :
    OutMoves (Foot.execBackboneFrameRx.at []) s (execBackboneFrameRx p pcp f w s) := by
  unfold execBackboneFrameRx
  refine OutMoves.next ?_
  refine Moves.seq ?_ (State.lineFrame_moves ..) (Foot.sub0 (by decide +kernel))
  exact Moves.refl _

theorem execLdupAge_moves (epoch : Nat) (src : Nat) (cls : Nat) (flow : Nat) (s : State) :
    OutMoves (Foot.execLdupAge.at []) s (execLdupAge epoch src cls flow s) := by
  unfold execLdupAge
  refine OutMoves.next ?_
  refine Moves.seq ?_ (State.ldupAgeOut_moves ..) (Foot.sub0 (by decide +kernel))
  exact Moves.refl _

theorem execInaug_moves (q : Requester) (v : Word) (s : State) : OutMoves (Foot.execInaug.at []) s (execInaug q v s) := by
  unfold execInaug
  refine OutMoves.next ?_
  refine State.carry_moves ?_ (Foot.sub_at (by decide +kernel) (Foot.own_cons (Foot.holds_reg (by decide +kernel)) (Foot.own_cons (Foot.holds_reg (by decide +kernel)) Foot.own_nil))) (fun x1 h1 => ?_)
  · exact Moves.refl _
  · refine Moves.seq ?_ (State.topCmd_moves ..) (Foot.sub0 (by decide +kernel))
    exact h1

theorem execClrHold_moves (q : Requester) (v : Word) (s : State) : OutMoves (Foot.execClrHold.at []) s (execClrHold q v s) := by
  unfold execClrHold
  refine OutMoves.next ?_
  refine State.carry_moves ?_ (Foot.sub_at (by decide +kernel) (Foot.own_cons (Foot.holds_reg (by decide +kernel)) (Foot.own_cons (Foot.holds_reg (by decide +kernel)) Foot.own_nil))) (fun x1 h1 => ?_)
  · exact Moves.refl _
  · refine Moves.seq ?_ (State.topCmd_moves ..) (Foot.sub0 (by decide +kernel))
    exact h1

theorem execFlapHoldEnd_moves (p : BPort) (s : State) :
    OutMoves (Foot.execFlapHoldEnd.at [one (R.BL_P_STAT p)]) s (execFlapHoldEnd p s) := by
  unfold execFlapHoldEnd
  refine OutMoves.next ?_
  refine Moves.seq ?_ (State.flapHoldEnd_moves ..) (Foot.sub1 (by decide +kernel) (Foot.holds_same (.head _)))
  exact Moves.refl _

theorem execLanternLossTrigger_moves (s : State) : OutMoves (Foot.execLanternLossTrigger.at []) s (execLanternLossTrigger s) := by
  unfold execLanternLossTrigger
  refine OutMoves.next ?_
  refine Moves.seq ?_ (State.lanternLoss_moves ..) (Foot.sub0 (by decide +kernel))
  exact Moves.refl _

theorem execRequest_moves (p : BPort) (f : NFrame) (s : State) :
    OutMoves (Foot.execRequest.at [one (R.BL_P_ERR p)]) s (execRequest p f s) := by
  unfold execRequest
  refine OutMoves.next ?_
  refine State.topRx_moves ?_ (Foot.sub1 (by decide +kernel) (Foot.holds_same (.head _))) (fun x1 h1 => ?_)
  · exact Moves.refl _
  · refine Moves.seq ?_ (State.rxRequest_moves ..) (Foot.sub0 (by decide +kernel))
    exact h1

theorem execJoin_moves (p : BPort) (f : NFrame) (s : State) :
    OutMoves (Foot.execJoin.at [one (R.BL_P_ERR p)]) s (execJoin p f s) := by
  unfold execJoin
  refine OutMoves.next ?_
  refine State.topRx_moves ?_ (Foot.sub1 (by decide +kernel) (Foot.holds_same (.head _))) (fun x1 h1 => ?_)
  · exact Moves.refl _
  · refine Moves.seq ?_ (State.rxJoin_moves ..) (Foot.sub0 (by decide +kernel))
    exact h1

theorem execIdent_moves (p : BPort) (f : NFrame) (s : State) :
    OutMoves (Foot.execIdent.at [one (R.BL_P_ERR p)]) s (execIdent p f s) := by
  unfold execIdent
  refine OutMoves.next ?_
  refine State.topRx_moves ?_ (Foot.sub1 (by decide +kernel) (Foot.holds_same (.head _))) (fun x1 h1 => ?_)
  · exact Moves.refl _
  · refine Moves.seq ?_ (State.rxIdent_moves ..) (Foot.sub0 (by decide +kernel))
    exact h1

theorem execXident_moves (p : BPort) (f : NFrame) (s : State) :
    OutMoves (Foot.execXident.at [one (R.BL_P_ERR p)]) s (execXident p f s) := by
  unfold execXident
  refine OutMoves.next ?_
  refine State.topRx_moves ?_ (Foot.sub1 (by decide +kernel) (Foot.holds_same (.head _))) (fun x1 h1 => ?_)
  · exact Moves.refl _
  · refine Moves.seq ?_ (State.rxXident_moves ..) (Foot.sub0 (by decide +kernel))
    exact h1

theorem execXend_moves (p : BPort) (f : NFrame) (s : State) :
    OutMoves (Foot.execXend.at [one (R.BL_P_ERR p)]) s (execXend p f s) := by
  unfold execXend
  refine OutMoves.next ?_
  refine State.topRx_moves ?_ (Foot.sub1 (by decide +kernel) (Foot.holds_same (.head _))) (fun x1 h1 => ?_)
  · exact Moves.refl _
  · refine Moves.seq ?_ (State.rxXend_moves ..) (Foot.sub0 (by decide +kernel))
    exact h1

theorem execSilent_moves (p : BPort) (s : State) : OutMoves (Foot.execSilent.at []) s (execSilent p s) := by
  unfold execSilent
  refine OutMoves.next ?_
  refine Moves.seq ?_ (State.silentSide_moves ..) (Foot.sub0 (by decide +kernel))
  exact Moves.refl _

theorem execNumbering_moves (s : State) : OutMoves (Foot.execNumbering.at []) s (execNumbering s) := by
  unfold execNumbering
  refine OutMoves.next ?_
  refine Moves.seq ?_ (State.numbering_moves ..) (Foot.sub0 (by decide +kernel))
  exact Moves.refl _

theorem execReady_moves (p : BPort) (f : NFrame) (s : State) :
    OutMoves (Foot.execReady.at [one (R.BL_P_ERR p)]) s (execReady p f s) := by
  unfold execReady
  refine OutMoves.next ?_
  refine State.topRx_moves ?_ (Foot.sub1 (by decide +kernel) (Foot.holds_same (.head _))) (fun x1 h1 => ?_)
  · exact Moves.refl _
  · refine Moves.seq ?_ (State.rxReady_moves ..) (Foot.sub0 (by decide +kernel))
    exact h1

theorem execCommitInsert_moves (lead : Nat) (s : State) : OutMoves (Foot.execCommitInsert.at []) s (execCommitInsert lead s) := by
  unfold execCommitInsert
  refine OutMoves.next ?_
  refine Moves.seq ?_ (State.commitInsert_moves ..) (Foot.sub0 (by decide +kernel))
  exact Moves.refl _

theorem execCommit_moves (p : BPort) (f : NFrame) (s : State) :
    OutMoves (Foot.execCommit.at [one (R.BL_P_ERR p)]) s (execCommit p f s) := by
  unfold execCommit
  refine OutMoves.next ?_
  refine State.topRx_moves ?_ (Foot.sub1 (by decide +kernel) (Foot.holds_same (.head _))) (fun x1 h1 => ?_)
  · exact Moves.refl _
  · refine Moves.seq ?_ (State.rxCommit_moves ..) (Foot.sub0 (by decide +kernel))
    exact h1

theorem execFlip_moves (s : State) : OutMoves (Foot.execFlip.at []) s (execFlip s) := by
  unfold execFlip
  refine OutMoves.next ?_
  refine Moves.ite (fun hc => ?_) (fun hc => ?_)
  · refine Moves.seq ?_ (State.flipNow_moves ..) (Foot.sub0 (by decide +kernel))
    exact Moves.refl _
  · exact Moves.refl _

theorem execCommitMiss_moves (s : State) : OutMoves (Foot.execCommitMiss.at []) s (execCommitMiss s) := by
  unfold execCommitMiss
  refine OutMoves.next ?_
  refine Moves.seq ?_ (State.commitMiss_moves ..) (Foot.sub0 (by decide +kernel))
  exact Moves.refl _

theorem execGraceEnd_moves (s : State) : OutMoves (Foot.execGraceEnd.at []) s (execGraceEnd s) := by
  unfold execGraceEnd
  refine OutMoves.next ?_
  refine Moves.seq ?_ (State.graceEnd_moves ..) (Foot.sub0 (by decide +kernel))
  exact Moves.refl _

theorem execBindWrite_moves (q : Requester) (v : Word) (s : State) :
    OutMoves (Foot.execBindWrite.at []) s (execBindWrite q v s) := by
  unfold execBindWrite
  refine OutMoves.next ?_
  refine State.carry_moves ?_ (Foot.sub_at (by decide +kernel) (Foot.own_cons (Foot.holds_reg (by decide +kernel)) (Foot.own_cons (Foot.holds_reg (by decide +kernel)) Foot.own_nil))) (fun x1 h1 => ?_)
  · exact Moves.refl _
  · refine Moves.seq ?_ (State.tblCmd_moves ..) (Foot.sub0 (by decide +kernel))
    exact h1

theorem execTtdpTopologyChange_moves (topo : Nat) (own : Nat) (nodes : List TtdpNode) (s : State) :
    OutMoves (Foot.execTtdpTopologyChange.at []) s (execTtdpTopologyChange topo own nodes s) := by
  unfold execTtdpTopologyChange
  refine OutMoves.next ?_
  refine Moves.seq ?_ (State.ttdpTopology_moves ..) (Foot.sub0 (by decide +kernel))
  exact Moves.refl _

theorem execInhibit_moves (q : Requester) (v : Word) (s : State) : OutMoves (Foot.execInhibit.at []) s (execInhibit q v s) := by
  unfold execInhibit
  refine OutMoves.next ?_
  refine State.carry_moves ?_ (Foot.sub_at (by decide +kernel) (Foot.own_cons (Foot.holds_reg (by decide +kernel)) (Foot.own_cons (Foot.holds_reg (by decide +kernel)) Foot.own_nil))) (fun x1 h1 => ?_)
  · exact Moves.refl _
  · refine Moves.seq ?_ (State.etbCtrl_moves ..) (Foot.sub0 (by decide +kernel))
    exact h1

theorem execCycleBoundary_moves (claimLow : Bool) (canWake : Nat) (s : State) :
    OutMoves (Foot.execCycleBoundary.at []) s (execCycleBoundary claimLow canWake s) := by
  unfold execCycleBoundary
  refine OutMoves.next ?_
  refine Moves.seq ?_ (State.cycleBoundary_moves ..) (Foot.sub0 (by decide +kernel))
  exact Moves.refl _

theorem execWindowOpen_moves (x : BPort) (intrude : Option Nat) (guardErr : Option Nat) (s : State) :
    OutMoves (Foot.execWindowOpen.at [one (R.BL_BEAM_DCUMD ((x.line.port true).line)), one (R.BL_BEAM_DCUMU ((x.line.port
      true).line)), one (R.BL_BEAM_PHD ((x.line.port true).line)), one (R.BL_BEAM_PHU ((x.line.port true).line)), one (R.BL_BEAM_DCUMD
      ((x.line.port false).line)), one (R.BL_BEAM_DCUMU ((x.line.port false).line)), one (R.BL_BEAM_PHD ((x.line.port false).line)),
      one (R.BL_BEAM_PHU ((x.line.port false).line)), one (R.BL_BEAM_STAT x.line), one (R.PG_EVT_RAW (P.BEAM x.line)), one
      (R.BL_BEAM_EVCNT x.line), one (R.BL_BEAM_INS x.line), one (R.BL_BEAM_QCNT x.line)]) s (execWindowOpen x intrude guardErr s) :=
      by
  unfold execWindowOpen
  refine OutMoves.next ?_
  refine Moves.seq ?_ (State.windowOpen_moves ..) (Foot.sub_at (by decide +kernel) (Foot.own_cons (Foot.holds_same (.head _)) (Foot.own_cons (Foot.holds_same (.tail _ (.head _))) (Foot.own_cons (Foot.holds_same (.tail _ (.tail _ (.head _)))) (Foot.own_cons (Foot.holds_same (.tail _ (.tail _ (.tail _ (.head _))))) (Foot.own_cons (Foot.holds_same (.tail _ (.tail _ (.tail _ (.tail _ (.head _)))))) (Foot.own_cons (Foot.holds_same (.tail _ (.tail _ (.tail _ (.tail _ (.tail _ (.head _))))))) (Foot.own_cons (Foot.holds_same (.tail _ (.tail _ (.tail _ (.tail _ (.tail _ (.tail _ (.head _)))))))) (Foot.own_cons (Foot.holds_same (.tail _ (.tail _ (.tail _ (.tail _ (.tail _ (.tail _ (.tail _ (.head _))))))))) (Foot.own_cons (Foot.holds_same (.tail _ (.tail _ (.tail _ (.tail _ (.tail _ (.tail _ (.tail _ (.tail _ (.head _)))))))))) (Foot.own_cons (Foot.holds_same (.tail _ (.tail _ (.tail _ (.tail _ (.tail _ (.tail _ (.tail _ (.tail _ (.tail _ (.head _))))))))))) (Foot.own_cons (Foot.holds_same (.tail _ (.tail _ (.tail _ (.tail _ (.tail _ (.tail _ (.tail _ (.tail _ (.tail _ (.tail _ (.head _)))))))))))) (Foot.own_cons (Foot.holds_same (.tail _ (.tail _ (.tail _ (.tail _ (.tail _ (.tail _ (.tail _ (.tail _ (.tail _ (.tail _ (.tail _ (.head _))))))))))))) (Foot.own_cons (Foot.holds_same (.tail _ (.tail _ (.tail _ (.tail _ (.tail _ (.tail _ (.tail _ (.tail _ (.tail _ (.tail _ (.tail _ (.tail _ (.head _)))))))))))))) Foot.own_nil))))))))))))))
  exact Moves.refl _

end Sys2Proof.Machine
end

