-- ==== Sys2Proof/Laws/FootC17.lean ====
section
/-!
SUPPORT. What the commands may touch: one footprint and one lemma each.
-/

namespace Sys2Proof.Machine

set_option Elab.async false

theorem execMarker_moves (x : BPort) (arrival : Nat) (head : BeamHead) (hchk : Nat) (data : List Byte) (fcs : Nat) (s : State) :
    OutMoves (Foot.execMarker.at [one (R.BL_BEAM_ERR x.line), one (R.BL_BEAM_PHD x.line), one (R.BL_BEAM_PHU x.line), one
      (R.PG_EVT_RAW (P.BEAM x.line)), one (R.BL_BEAM_EVCNT x.line), one (R.BL_BEAM_DCUMD ((x.line.port true).line)), one
      (R.BL_BEAM_DCUMU ((x.line.port true).line)), one (R.BL_BEAM_PHD ((x.line.port true).line)), one (R.BL_BEAM_PHU ((x.line.port
      true).line)), one (R.BL_BEAM_DCUMD ((x.line.port false).line)), one (R.BL_BEAM_DCUMU ((x.line.port false).line)), one
      (R.BL_BEAM_PHD ((x.line.port false).line)), one (R.BL_BEAM_PHU ((x.line.port false).line)), one (R.BL_BEAM_STAT x.line)]) s
      (execMarker x arrival head hchk data fcs s) := by
  unfold execMarker
  refine OutMoves.next ?_
  refine State.leaving_moves ?_ (Foot.sub0 (by decide +kernel)) (fun x1 h1 => ?_)
  · exact Moves.refl _
  · refine Moves.seq ?_ (State.marker_moves ..) (Foot.sub_at (by decide +kernel) (Foot.own_cons (Foot.holds_same (.head _)) (Foot.own_cons (Foot.holds_same (.tail _ (.head _))) (Foot.own_cons (Foot.holds_same (.tail _ (.tail _ (.head _)))) (Foot.own_cons (Foot.holds_same (.tail _ (.tail _ (.tail _ (.head _))))) (Foot.own_cons (Foot.holds_same (.tail _ (.tail _ (.tail _ (.tail _ (.head _)))))) (Foot.own_cons (Foot.holds_same (.tail _ (.tail _ (.tail _ (.tail _ (.tail _ (.head _))))))) (Foot.own_cons (Foot.holds_same (.tail _ (.tail _ (.tail _ (.tail _ (.tail _ (.tail _ (.head _)))))))) (Foot.own_cons (Foot.holds_same (.tail _ (.tail _ (.tail _ (.tail _ (.tail _ (.tail _ (.tail _ (.head _))))))))) (Foot.own_cons (Foot.holds_same (.tail _ (.tail _ (.tail _ (.tail _ (.tail _ (.tail _ (.tail _ (.tail _ (.head _)))))))))) (Foot.own_cons (Foot.holds_same (.tail _ (.tail _ (.tail _ (.tail _ (.tail _ (.tail _ (.tail _ (.tail _ (.tail _ (.head _))))))))))) (Foot.own_cons (Foot.holds_same (.tail _ (.tail _ (.tail _ (.tail _ (.tail _ (.tail _ (.tail _ (.tail _ (.tail _ (.tail _ (.head _)))))))))))) (Foot.own_cons (Foot.holds_same (.tail _ (.tail _ (.tail _ (.tail _ (.tail _ (.tail _ (.tail _ (.tail _ (.tail _ (.tail _ (.tail _ (.head _))))))))))))) (Foot.own_cons (Foot.holds_same (.tail _ (.tail _ (.tail _ (.tail _ (.tail _ (.tail _ (.tail _ (.tail _ (.tail _ (.tail _ (.tail _ (.tail _ (.head _)))))))))))))) (Foot.own_cons (Foot.holds_same (.tail _ (.tail _ (.tail _ (.tail _ (.tail _ (.tail _ (.tail _ (.tail _ (.tail _ (.tail _ (.tail _ (.tail _ (.tail _ (.head _))))))))))))))) Foot.own_nil)))))))))))))))
    exact h1

theorem execMarkerMissing_moves (x : BPort) (guardErr : Option Nat) (s : State) :
    OutMoves (Foot.execMarkerMissing.at [one (R.PG_EVT_RAW (P.BEAM x.line)), one (R.BL_BEAM_EVCNT x.line), one (R.BL_BEAM_DCUMD
      ((x.line.port true).line)), one (R.BL_BEAM_DCUMU ((x.line.port true).line)), one (R.BL_BEAM_PHD ((x.line.port true).line)), one
      (R.BL_BEAM_PHU ((x.line.port true).line)), one (R.BL_BEAM_DCUMD ((x.line.port false).line)), one (R.BL_BEAM_DCUMU ((x.line.port
      false).line)), one (R.BL_BEAM_PHD ((x.line.port false).line)), one (R.BL_BEAM_PHU ((x.line.port false).line)), one
      (R.BL_BEAM_STAT x.line)]) s (execMarkerMissing x guardErr s) := by
  unfold execMarkerMissing
  refine OutMoves.next ?_
  refine State.leaving_moves ?_ (Foot.sub0 (by decide +kernel)) (fun x1 h1 => ?_)
  · exact Moves.refl _
  · refine Moves.seq ?_ (State.markerMissing_moves ..) (Foot.sub_at (by decide +kernel) (Foot.own_cons (Foot.holds_same (.head _)) (Foot.own_cons (Foot.holds_same (.tail _ (.head _))) (Foot.own_cons (Foot.holds_same (.tail _ (.tail _ (.head _)))) (Foot.own_cons (Foot.holds_same (.tail _ (.tail _ (.tail _ (.head _))))) (Foot.own_cons (Foot.holds_same (.tail _ (.tail _ (.tail _ (.tail _ (.head _)))))) (Foot.own_cons (Foot.holds_same (.tail _ (.tail _ (.tail _ (.tail _ (.tail _ (.head _))))))) (Foot.own_cons (Foot.holds_same (.tail _ (.tail _ (.tail _ (.tail _ (.tail _ (.tail _ (.head _)))))))) (Foot.own_cons (Foot.holds_same (.tail _ (.tail _ (.tail _ (.tail _ (.tail _ (.tail _ (.tail _ (.head _))))))))) (Foot.own_cons (Foot.holds_same (.tail _ (.tail _ (.tail _ (.tail _ (.tail _ (.tail _ (.tail _ (.tail _ (.head _)))))))))) (Foot.own_cons (Foot.holds_same (.tail _ (.tail _ (.tail _ (.tail _ (.tail _ (.tail _ (.tail _ (.tail _ (.tail _ (.head _))))))))))) (Foot.own_cons (Foot.holds_same (.tail _ (.tail _ (.tail _ (.tail _ (.tail _ (.tail _ (.tail _ (.tail _ (.tail _ (.tail _ (.head _)))))))))))) Foot.own_nil))))))))))))
    exact h1

theorem execProbeSend_moves (p : BPort) (tTx : Nat) (s : State) :
    OutMoves (Foot.execProbeSend.at [one (R.BL_BEAM_INS p.line)]) s (execProbeSend p tTx s) := by
  unfold execProbeSend
  refine OutMoves.next ?_
  refine Moves.seq ?_ (State.probeSend_moves ..) (Foot.sub1 (by decide +kernel) (Foot.holds_same (.head _)))
  exact Moves.refl _

theorem execProbe_moves (p : BPort) (tRx : Nat) (head : BeamHead) (hchk : Nat) (data : List Byte) (fcs : Nat) (s : State) :
    OutMoves (Foot.execProbe.at [one (R.BL_BEAM_ERR p.line), one (R.BL_BEAM_LDLY p.line), one (R.BL_BEAM_DCUMD p.opposite.line), one
      (R.BL_BEAM_DCUMU p.opposite.line)]) s (execProbe p tRx head hchk data fcs s) := by
  unfold execProbe
  refine OutMoves.next ?_
  refine Moves.seq ?_ (State.probeRx_moves ..) (Foot.sub_at (by decide +kernel) (Foot.own_cons (Foot.holds_same (.head _)) (Foot.own_cons (Foot.holds_same (.tail _ (.head _))) (Foot.own_cons (Foot.holds_same (.tail _ (.tail _ (.head _)))) (Foot.own_cons (Foot.holds_same (.tail _ (.tail _ (.tail _ (.head _))))) Foot.own_nil)))))
  exact Moves.refl _

theorem execBeamFrameRx_moves (p : BPort) (pos : Nat) (head : BeamHead) (body : BeamBody) (claimLow : Bool) (s : State) :
    OutMoves (Foot.execBeamFrameRx.at []) s (execBeamFrameRx p pos head body claimLow s) := by
  unfold execBeamFrameRx
  extract_lets -merge -underBinder +onlyGivenNames x1
  subst x1
  refine OutMoves.next ?_
  split
  · refine Moves.seq ?_ (State.settle_moves ..) (Foot.sub0 (by decide +kernel))
    refine Moves.seq ?_ (State.beamFrame_moves ..) (Foot.sub_at (by decide +kernel) (Foot.own_cons (Foot.holds_all (by decide +kernel)) (Foot.own_cons (Foot.holds_all (by decide +kernel)) (Foot.own_cons (Foot.holds_all (by decide +kernel)) Foot.own_nil))))
    refine Moves.seq ?_ (State.linePass_moves ..) (Foot.sub1 (by decide +kernel) (Foot.holds_all (by decide +kernel)))
    exact Moves.refl _
  · refine Moves.seq ?_ (State.beamRx_moves ..) (Foot.sub_at (by decide +kernel) (Foot.own_cons (Foot.holds_all (by decide +kernel)) (Foot.own_cons (Foot.holds_all (by decide +kernel)) (Foot.own_cons (Foot.holds_all (by decide +kernel)) Foot.own_nil))))
    exact Moves.refl _

theorem execArm_moves (q : Requester) (v : Word) (s : State) : OutMoves (Foot.execArm.at []) s (execArm q v s) := by
  unfold execArm
  refine OutMoves.next ?_
  refine State.carry_moves ?_ (Foot.sub_at (by decide +kernel) (Foot.own_cons (Foot.holds_reg (by decide +kernel)) (Foot.own_cons (Foot.holds_reg (by decide +kernel)) Foot.own_nil))) (fun x1 h1 => ?_)
  · exact Moves.refl _
  · refine Moves.seq ?_ (State.slotArm_moves ..) (Foot.sub0 (by decide +kernel))
    exact h1

theorem execEthernetFrameRx_moves (port : Nat) (f : EthFrame) (w : FrameSigns) (s : State) :
    OutMoves (Foot.execEthernetFrameRx.at []) s (execEthernetFrameRx port f w s) := by
  unfold execEthernetFrameRx
  refine OutMoves.next ?_
  refine Moves.ite (fun hc => ?_) (fun hc => ?_)
  · refine Moves.seq ?_ (State.lineFrame_moves ..) (Foot.sub0 (by decide +kernel))
    exact Moves.refl _
  · refine Moves.seq ?_ (State.ethRx_moves ..) (Foot.sub_at (by decide +kernel) (Foot.own_cons (Foot.holds_all (by decide +kernel)) (Foot.own_cons (Foot.holds_all (by decide +kernel)) Foot.own_nil)))
    exact Moves.refl _

theorem execFrameTransmit_moves (port : Nat) (late : Nat) (free : Bool) (s : State) :
    OutMoves (Foot.execFrameTransmit.at []) s (execFrameTransmit port late free s) := by
  unfold execFrameTransmit
  refine OutMoves.next ?_
  refine Moves.ite (fun hc => ?_) (fun hc => ?_)
  · refine Moves.seq ?_ (State.frameTransmit_moves ..) (Foot.sub0 (by decide +kernel))
    exact Moves.refl _
  · exact Moves.refl _

theorem execFdbAge_moves (mac : Nat) (vid : Nat) (s : State) : OutMoves (Foot.execFdbAge.at []) s (execFdbAge mac vid s) := by
  unfold execFdbAge
  refine OutMoves.next ?_
  refine Moves.seq ?_ (State.fdbAge_moves ..) (Foot.sub0 (by decide +kernel))
  exact Moves.refl _

theorem execFlush_moves (q : Requester) (v : Word) (s : State) : OutMoves (Foot.execFlush.at []) s (execFlush q v s) := by
  unfold execFlush
  refine OutMoves.next ?_
  refine State.carry_moves ?_ (Foot.sub_at (by decide +kernel) (Foot.own_cons (Foot.holds_reg (by decide +kernel)) (Foot.own_cons (Foot.holds_reg (by decide +kernel)) Foot.own_nil))) (fun x1 h1 => ?_)
  · exact Moves.refl _
  · refine Moves.seq ?_ (State.fabAge_moves ..) (Foot.sub0 (by decide +kernel))
    exact h1

theorem execFlowWrite_moves (q : Requester) (v : Word) (s : State) :
    OutMoves (Foot.execFlowWrite.at []) s (execFlowWrite q v s) := by
  unfold execFlowWrite
  refine OutMoves.next ?_
  refine State.carry_moves ?_ (Foot.sub_at (by decide +kernel) (Foot.own_cons (Foot.holds_reg (by decide +kernel)) (Foot.own_cons (Foot.holds_reg (by decide +kernel)) Foot.own_nil))) (fun x1 h1 => ?_)
  · exact Moves.refl _
  · refine Moves.seq ?_ (State.flowCmd_moves ..) (Foot.sub0 (by decide +kernel))
    exact h1

theorem execFlowRead_moves (q : Requester) (v : Word) (s : State) : OutMoves (Foot.execFlowRead.at []) s (execFlowRead q v s) := by
  unfold execFlowRead
  refine OutMoves.next ?_
  refine State.carry_moves ?_ (Foot.sub_at (by decide +kernel) (Foot.own_cons (Foot.holds_reg (by decide +kernel)) (Foot.own_cons (Foot.holds_reg (by decide +kernel)) Foot.own_nil))) (fun x1 h1 => ?_)
  · exact Moves.refl _
  · refine Moves.seq ?_ (State.flowCmd_moves ..) (Foot.sub0 (by decide +kernel))
    exact h1

theorem execClrcnt_moves (q : Requester) (v : Word) (s : State) : OutMoves (Foot.execClrcnt.at []) s (execClrcnt q v s) := by
  unfold execClrcnt
  refine OutMoves.next ?_
  refine State.carry_moves ?_ (Foot.sub_at (by decide +kernel) (Foot.own_cons (Foot.holds_reg (by decide +kernel)) (Foot.own_cons (Foot.holds_reg (by decide +kernel)) Foot.own_nil))) (fun x1 h1 => ?_)
  · exact Moves.refl _
  · refine Moves.seq ?_ (State.flowCmd_moves ..) (Foot.sub0 (by decide +kernel))
    exact h1

theorem execExpire_moves (ctx : Nat) (s : State) : OutMoves (Foot.execExpire.at []) s (execExpire ctx s) := by
  unfold execExpire
  refine OutMoves.next ?_
  refine Moves.seq ?_ (State.expire_moves ..) (Foot.sub0 (by decide +kernel))
  exact Moves.refl _

theorem execSwap_moves (q : Requester) (v : Word) (s : State) : OutMoves (Foot.execSwap.at []) s (execSwap q v s) := by
  unfold execSwap
  refine OutMoves.next ?_
  refine State.carry_moves ?_ (Foot.sub_at (by decide +kernel) (Foot.own_cons (Foot.holds_reg (by decide +kernel)) (Foot.own_cons (Foot.holds_reg (by decide +kernel)) Foot.own_nil))) (fun x1 h1 => ?_)
  · exact Moves.refl _
  · refine Moves.seq ?_ (State.gateCtrl_moves ..) (Foot.sub0 (by decide +kernel))
    exact h1

theorem execBankPoolWrite_moves (q : Requester) (hi : Bool) (v : Word) (s : State) :
    OutMoves (Foot.execBankPoolWrite.at []) s (execBankPoolWrite q hi v s) := by
  unfold execBankPoolWrite
  refine OutMoves.next ?_
  refine State.carry_moves ?_ (Foot.sub_at (by decide +kernel) (Foot.own_cons (by (try dsimp only [pageOf, R.FAB_QUE_BANK_HI, R.FAB_QUE_BANK_LO]); split <;> (try dsimp only) <;> first | exact (Foot.holds_reg (lo := 204836) (hi := 204836) (by decide +kernel))) (Foot.own_cons (by (try dsimp only [pageOf, R.FAB_QUE_BANK_HI, R.FAB_QUE_BANK_LO]); split <;> (try dsimp only) <;> first | exact (Foot.holds_reg (lo := 204816) (hi := 204816) (by decide +kernel))) Foot.own_nil))) (fun x1 h1 => ?_)
  · exact Moves.refl _
  · refine Moves.seq ?_ (State.bankWrite_moves ..) (Foot.sub0 (by decide +kernel))
    exact h1

theorem execBankMoved_moves (bank : Nat) (s : State) : OutMoves (Foot.execBankMoved.at []) s (execBankMoved bank s) := by
  unfold execBankMoved
  refine OutMoves.next ?_
  refine Moves.seq ?_ (State.bankMoved_moves ..) (Foot.sub0 (by decide +kernel))
  exact Moves.refl _

theorem execCpLinkChg_moves (port : Nat) (up : Bool) (fast : Bool) (s : State) :
    OutMoves (Foot.execCpLinkChg.at [one (R.CP_P_STAT port), one (R.PG_EVT_RAW (P.CP_P port))]) s (execCpLinkChg port up fast s) := by
  unfold execCpLinkChg
  refine OutMoves.next ?_
  refine Moves.seq ?_ (State.cpLink_moves ..) (Foot.sub_at (by decide +kernel) (Foot.own_cons (Foot.holds_same (.head _)) (Foot.own_cons (Foot.holds_same (.tail _ (.head _))) Foot.own_nil)))
  exact Moves.refl _

theorem execPdFrameRx_moves (port : Nat) (f : PdPacket) (s : State) :
    OutMoves (Foot.execPdFrameRx.at [one (R.CP_P_ERR (4 + port - 4)), one (R.BL_P_ERR (bportOf (4 + port))), one (R.PG_EVT_RAW
      (P.CP_CTRL (port / 4))), one (R.CP_CTRL_PDERR (port / 4)), one (R.CP_CTRL_PDRX (port / 4))]) s (execPdFrameRx port f s) := by
  unfold execPdFrameRx
  refine OutMoves.next ?_
  refine Moves.seq ?_ (State.pdRx_moves ..) (Foot.sub_at (by decide +kernel) (Foot.own_cons (Foot.holds_same (.head _)) (Foot.own_cons (Foot.holds_same (.tail _ (.head _))) (Foot.own_cons (Foot.holds_same (.tail _ (.tail _ (.head _)))) (Foot.own_cons (Foot.holds_same (.tail _ (.tail _ (.tail _ (.head _))))) (Foot.own_cons (Foot.holds_same (.tail _ (.tail _ (.tail _ (.tail _ (.head _)))))) Foot.own_nil))))))
  exact Moves.refl _

theorem execComidWrite_moves (q : Requester) (h : Nat) (v : Word) (s : State) :
    OutMoves (Foot.execComidWrite.at [one (R.PG_LOCK (pageOf (R.CP_CTRL_CDATA (h % 2) 3))), one (R.PG_EVT_RAW (pageOf (R.CP_CTRL_CDATA
      (h % 2) 3))), one (R.CP_CTRL_CDATA (h % 2) 3)]) s (execComidWrite q h v s) := by
  unfold execComidWrite
  refine OutMoves.next ?_
  refine State.carry_moves ?_ (Foot.sub_at (by decide +kernel) (Foot.own_cons (Foot.holds_same (.head _)) (Foot.own_cons (Foot.holds_same (.tail _ (.head _))) Foot.own_nil))) (fun x1 h1 => ?_)
  · exact Moves.refl _
  · refine Moves.seq ?_ (State.comIdWrite_moves ..) (Foot.sub_at (by decide +kernel) (Foot.own_cons (Foot.holds_same (.tail _ (.head _))) (Foot.own_cons (Foot.holds_same (.tail _ (.tail _ (.head _)))) Foot.own_nil)))
    exact h1

theorem execCbRecoveryReset_moves (stream : Nat) (s : State) :
    OutMoves (Foot.execCbRecoveryReset.at []) s (execCbRecoveryReset stream s) := by
  unfold execCbRecoveryReset
  refine OutMoves.next ?_
  refine Moves.seq ?_ (State.cbReset_moves ..) (Foot.sub0 (by decide +kernel))
  exact Moves.refl _

theorem execCbdupStreamWrite_moves (q : Requester) (v : Word) (s : State) :
    OutMoves (Foot.execCbdupStreamWrite.at []) s (execCbdupStreamWrite q v s) := by
  unfold execCbdupStreamWrite
  refine OutMoves.next ?_
  refine State.carry_moves ?_ (Foot.sub_at (by decide +kernel) (Foot.own_cons (Foot.holds_reg (by decide +kernel)) (Foot.own_cons (Foot.holds_reg (by decide +kernel)) Foot.own_nil))) (fun x1 h1 => ?_)
  · exact Moves.refl _
  · refine Moves.seq ?_ (State.cbStream_moves ..) (Foot.sub0 (by decide +kernel))
    exact h1

theorem execInputArrival_moves (src : GwSource) (s : State) : OutMoves (Foot.execInputArrival.at []) s (execInputArrival src s) := by
  unfold execInputArrival
  refine OutMoves.next ?_
  refine Moves.ite (fun hc => ?_) (fun hc => ?_)
  · exact Moves.refl _
  · split
    · refine Moves.seq ?_ (State.flowArrival_moves ..) (Foot.sub0 (by decide +kernel))
      exact Moves.refl _
    · refine Moves.seq ?_ (State.canArrival_moves ..) (Foot.sub1 (by decide +kernel) (Foot.holds_range 463108 557556 (by decide +kernel) (by first | omega | (dsimp only; omega)) (by first | omega | (dsimp only; omega))))
      exact Moves.refl _

theorem execInpExpire_moves (i : Nat) (s : State) : OutMoves (Foot.execInpExpire.at []) s (execInpExpire i s) := by
  unfold execInpExpire
  refine OutMoves.next ?_
  extract_lets -merge -underBinder +onlyGivenNames x1
  subst x1
  refine Moves.ite (fun hc => ?_) (fun hc => ?_)
  · refine Moves.seq ?_ (State.inputExpired_moves ..) (Foot.sub0 (by decide +kernel))
    exact Moves.refl _
  · exact Moves.refl _

theorem execPassStart_moves (s : State) : OutMoves (Foot.execPassStart.at []) s (execPassStart s) := by
  unfold execPassStart
  refine OutMoves.next ?_
  refine Moves.seq ?_ (State.passStart_moves ..) (Foot.sub0 (by decide +kernel))
  exact Moves.refl _

theorem execPassDone_moves (dur : Nat) (ueEntries : List Nat) (ueSources : List Nat) (s : State) :
    OutMoves (Foot.execPassDone.at []) s (execPassDone dur ueEntries ueSources s) := by
  unfold execPassDone
  refine OutMoves.next ?_
  refine Moves.seq ?_ (State.passDone_moves ..) (Foot.sub0 (by decide +kernel))
  exact Moves.refl _

theorem execStall_moves (s : State) : OutMoves (Foot.execStall.at []) s (execStall s) := by
  unfold execStall
  refine OutMoves.next ?_
  refine Moves.seq ?_ (State.stall_moves ..) (Foot.sub0 (by decide +kernel))
  exact Moves.refl _

theorem execImageWrite_moves (q : Requester) (hi : Word) (lo : Word) (s : State) :
    OutMoves (Foot.execImageWrite.at []) s (execImageWrite q hi lo s) := by
  unfold execImageWrite
  refine OutMoves.next ?_
  refine State.carryPair_moves ?_ (Foot.sub_at (by decide +kernel) (Foot.own_cons (Foot.holds_reg (by decide +kernel)) (Foot.own_cons (Foot.holds_reg (by decide +kernel)) (Foot.own_cons (Foot.holds_reg (by decide +kernel)) (Foot.own_cons (Foot.holds_reg (by decide +kernel)) Foot.own_nil))))) (fun x1 h1 => ?_)
  · exact Moves.refl _
  · refine Moves.seq ?_ (State.imgWrite_moves ..) (Foot.sub0 (by decide +kernel))
    exact h1

theorem execMapEntryWrite_moves (q : Requester) (v : Word) (s : State) :
    OutMoves (Foot.execMapEntryWrite.at []) s (execMapEntryWrite q v s) := by
  unfold execMapEntryWrite
  refine OutMoves.next ?_
  refine State.carry_moves ?_ (Foot.sub_at (by decide +kernel) (Foot.own_cons (Foot.holds_reg (by decide +kernel)) (Foot.own_cons (Foot.holds_reg (by decide +kernel)) Foot.own_nil))) (fun x1 h1 => ?_)
  · exact Moves.refl _
  · refine Moves.seq ?_ (State.mapStore_moves ..) (Foot.sub0 (by decide +kernel))
    exact h1

theorem execMapRead_moves (q : Requester) (v : Word) (s : State) : OutMoves (Foot.execMapRead.at []) s (execMapRead q v s) := by
  unfold execMapRead
  refine OutMoves.next ?_
  refine State.carry_moves ?_ (Foot.sub_at (by decide +kernel) (Foot.own_cons (Foot.holds_reg (by decide +kernel)) (Foot.own_cons (Foot.holds_reg (by decide +kernel)) Foot.own_nil))) (fun x1 h1 => ?_)
  · exact Moves.refl _
  · refine Moves.seq ?_ (State.mapCmd_moves ..) (Foot.sub0 (by decide +kernel))
    exact h1

theorem execRcpEntryWrite_moves (q : Requester) (v : Word) (s : State) :
    OutMoves (Foot.execRcpEntryWrite.at []) s (execRcpEntryWrite q v s) := by
  unfold execRcpEntryWrite
  refine OutMoves.next ?_
  refine State.carry_moves ?_ (Foot.sub_at (by decide +kernel) (Foot.own_cons (Foot.holds_reg (by decide +kernel)) (Foot.own_cons (Foot.holds_reg (by decide +kernel)) Foot.own_nil))) (fun x1 h1 => ?_)
  · exact Moves.refl _
  · refine Moves.seq ?_ (State.rcpStore_moves ..) (Foot.sub0 (by decide +kernel))
    exact h1

theorem execRcpRead_moves (q : Requester) (v : Word) (s : State) : OutMoves (Foot.execRcpRead.at []) s (execRcpRead q v s) := by
  unfold execRcpRead
  refine OutMoves.next ?_
  refine State.carry_moves ?_ (Foot.sub_at (by decide +kernel) (Foot.own_cons (Foot.holds_reg (by decide +kernel)) (Foot.own_cons (Foot.holds_reg (by decide +kernel)) Foot.own_nil))) (fun x1 h1 => ?_)
  · exact Moves.refl _
  · refine Moves.seq ?_ (State.rcpCmd_moves ..) (Foot.sub0 (by decide +kernel))
    exact h1

theorem execFlipRequest_moves (q : Requester) (v : Word) (s : State) :
    OutMoves (Foot.execFlipRequest.at []) s (execFlipRequest q v s) := by
  unfold execFlipRequest
  refine OutMoves.next ?_
  refine State.carry_moves ?_ (Foot.sub_at (by decide +kernel) (Foot.own_cons (Foot.holds_reg (by decide +kernel)) (Foot.own_cons (Foot.holds_reg (by decide +kernel)) Foot.own_nil))) (fun x1 h1 => ?_)
  · exact Moves.refl _
  · refine Moves.seq ?_ (State.flipWrite_moves ..) (Foot.sub0 (by decide +kernel))
    exact h1

theorem execValidationDone_moves (s : State) : OutMoves (Foot.execValidationDone.at []) s (execValidationDone s) := by
  unfold execValidationDone
  refine OutMoves.next ?_
  refine Moves.ite (fun hc => ?_) (fun hc => ?_)
  · refine Moves.seq ?_ (State.validated_moves ..) (Foot.sub0 (by decide +kernel))
    exact Moves.refl _
  · exact Moves.refl _

theorem execCancel_moves (q : Requester) (v : Word) (s : State) : OutMoves (Foot.execCancel.at []) s (execCancel q v s) := by
  unfold execCancel
  refine OutMoves.next ?_
  refine State.carry_moves ?_ (Foot.sub_at (by decide +kernel) (Foot.own_cons (Foot.holds_reg (by decide +kernel)) (Foot.own_cons (Foot.holds_reg (by decide +kernel)) Foot.own_nil))) (fun x1 h1 => ?_)
  · exact Moves.refl _
  · refine Moves.seq ?_ (State.flipWrite_moves ..) (Foot.sub0 (by decide +kernel))
    exact h1

theorem execChannelStart_moves (n : Nat) (s : State) :
    OutMoves (Foot.execChannelStart.at [one (R.PG_EVT_RAW (P.CB_CAN (n % 16))), one (R.CB_CAN_MODE (n % 16)), one (R.CB_CAN_STAT (n %
      16)), one (R.CB_CTRL_TM_STAT (n % 16)), one (R.CB_CAN_XCVR (n % 16)), (R.CB_CAN_QPTR (n % 16) 0, R.CB_CAN_QPTR (n % 16) 15),
      (R.CB_CAN_QCNT (n % 16) 0, R.CB_CAN_QCNT (n % 16) 15)]) s (execChannelStart n s) := by
  unfold execChannelStart
  refine OutMoves.next ?_
  refine Moves.seq ?_ (State.canStart_moves ..) (Foot.sub_at (by decide +kernel) (Foot.own_cons (Foot.holds_same (.head _)) (Foot.own_cons (Foot.holds_same (.tail _ (.head _))) (Foot.own_cons (Foot.holds_same (.tail _ (.tail _ (.head _)))) (Foot.own_cons (Foot.holds_same (.tail _ (.tail _ (.tail _ (.head _))))) (Foot.own_cons (Foot.holds_same (.tail _ (.tail _ (.tail _ (.tail _ (.head _)))))) (Foot.own_cons (Foot.holds_same (.tail _ (.tail _ (.tail _ (.tail _ (.tail _ (.head _))))))) (Foot.own_cons (Foot.holds_same (.tail _ (.tail _ (.tail _ (.tail _ (.tail _ (.tail _ (.head _)))))))) Foot.own_nil))))))))
  exact Moves.refl _

theorem execModeWrite_moves (q : Requester) (n : Nat) (v : Word) (s : State) :
    OutMoves (Foot.execModeWrite.at [one (R.PG_LOCK (pageOf (R.CB_CAN_MODE (n % 16)))), one (R.PG_EVT_RAW (pageOf (R.CB_CAN_MODE (n %
      16)))), one (R.CB_CAN_MODE (n % 16))]) s (execModeWrite q n v s) := by
  unfold execModeWrite
  refine OutMoves.next ?_
  refine State.carry_moves ?_ (Foot.sub_at (by decide +kernel) (Foot.own_cons (Foot.holds_same (.head _)) (Foot.own_cons (Foot.holds_same (.tail _ (.head _))) Foot.own_nil))) (fun x1 h1 => ?_)
  · exact Moves.refl _
  · refine Moves.seq ?_ (State.canModeWrite_moves ..) (Foot.sub_at (by decide +kernel) (Foot.own_cons (Foot.holds_same (.tail _ (.tail _ (.head _)))) (Foot.own_cons (Foot.holds_same (.tail _ (.head _))) Foot.own_nil)))
    exact h1

theorem execModeChg_moves (n : Nat) (s : State) :
    OutMoves (Foot.execModeChg.at [one (R.CB_CAN_MODE (n % 16)), one (R.CB_CAN_STAT (n % 16)), one (R.CB_CTRL_TM_STAT (n % 16)), one
      (R.CB_CAN_XCVR (n % 16)), (R.CB_CAN_QPTR (n % 16) 0, R.CB_CAN_QPTR (n % 16) 15),
      (R.CB_CAN_QCNT (n % 16) 0, R.CB_CAN_QCNT (n % 16) 15), one (R.PG_EVT_RAW (P.CB_CAN (n % 16)))]) s (execModeChg n s) := by
  unfold execModeChg
  refine OutMoves.next ?_
  refine Moves.seq ?_ (State.canModeChg_moves ..) (Foot.sub_at (by decide +kernel) (Foot.own_cons (Foot.holds_same (.head _)) (Foot.own_cons (Foot.holds_same (.tail _ (.head _))) (Foot.own_cons (Foot.holds_same (.tail _ (.tail _ (.head _)))) (Foot.own_cons (Foot.holds_same (.tail _ (.tail _ (.tail _ (.head _))))) (Foot.own_cons (Foot.holds_same (.tail _ (.tail _ (.tail _ (.tail _ (.head _)))))) (Foot.own_cons (Foot.holds_same (.tail _ (.tail _ (.tail _ (.tail _ (.tail _ (.head _))))))) (Foot.own_cons (Foot.holds_same (.tail _ (.tail _ (.tail _ (.tail _ (.tail _ (.tail _ (.head _)))))))) Foot.own_nil))))))))
  exact Moves.refl _

theorem execCanFrameRx_moves (n : Nat) (f : CanFrame) (ago : Nat) (ue : List Nat) (s : State) :
    OutMoves (Foot.execCanFrameRx.at [one (R.CB_CAN_STAT (n % 16)), one (R.PG_EVT_RAW (P.CB_CAN (n % 16))), one (R.CB_CAN_ECNT (n %
      16)), one (R.CB_CAN_RXCNT (n % 16)), (R.CB_CAN_QCNT (n % 16) 0, R.CB_CAN_QCNT (n % 16) 15),
      (R.CB_CAN_QPTR (n % 16) 0, R.CB_CAN_QPTR (n % 16) 15), one (R.CB_CAN_FCNT (n % 16))]) s (execCanFrameRx n f ago ue s) := by
  unfold execCanFrameRx
  refine OutMoves.next ?_
  refine Moves.seq ?_ (State.canFrameRx_moves ..) (Foot.sub_at (by decide +kernel) (Foot.own_cons (Foot.holds_same (.head _)) (Foot.own_cons (Foot.holds_same (.tail _ (.head _))) (Foot.own_cons (Foot.holds_same (.tail _ (.tail _ (.head _)))) (Foot.own_cons (Foot.holds_same (.tail _ (.tail _ (.tail _ (.head _))))) (Foot.own_cons (Foot.holds_same (.tail _ (.tail _ (.tail _ (.tail _ (.head _)))))) (Foot.own_cons (Foot.holds_same (.tail _ (.tail _ (.tail _ (.tail _ (.tail _ (.head _))))))) (Foot.own_cons (Foot.holds_same (.tail _ (.tail _ (.tail _ (.tail _ (.tail _ (.tail _ (.head _)))))))) Foot.own_nil))))))))
  exact Moves.refl _

theorem execCanTxAttempt_moves (n : Nat) (ue : List Nat) (s : State) :
    OutMoves (Foot.execCanTxAttempt.at [one (R.CB_CAN_STAT (n % 16)), (R.CB_CAN_QPTR (n % 16) 0, R.CB_CAN_QPTR (n % 16) 15),
      (R.CB_CAN_QCNT (n % 16) 0, R.CB_CAN_QCNT (n % 16) 15), one (R.PG_EVT_RAW (P.CB_CAN (n % 16)))]) s (execCanTxAttempt n ue s) :=
      by
  unfold execCanTxAttempt
  refine OutMoves.next ?_
  refine Moves.seq ?_ (State.canAttempt_moves ..) (Foot.sub_at (by decide +kernel) (Foot.own_cons (Foot.holds_same (.head _)) (Foot.own_cons (Foot.holds_same (.tail _ (.head _))) (Foot.own_cons (Foot.holds_same (.tail _ (.tail _ (.head _)))) (Foot.own_cons (Foot.holds_same (.tail _ (.tail _ (.tail _ (.head _))))) Foot.own_nil)))))
  exact Moves.refl _

theorem execCanTxEnd_moves (n : Nat) (e : CanTxReport) (s : State) :
    OutMoves (Foot.execCanTxEnd.at [one (R.CB_CAN_STAT (n % 16)), (R.CB_CAN_QPTR (n % 16) 0, R.CB_CAN_QPTR (n % 16) 15),
      (R.CB_CAN_QCNT (n % 16) 0, R.CB_CAN_QCNT (n % 16) 15), one (R.PG_EVT_RAW (P.CB_CAN (n % 16))), one (R.CB_CAN_SSP (n % 16)), one
      (R.CB_CAN_ECNT (n % 16)), one (R.CB_CAN_CCNT (n % 16)), one (R.CB_CAN_TXCNT (n % 16)), one (R.CB_CAN_FCNT (n % 16)), one
      (R.CB_CAN_RXCNT (n % 16)), one (R.CB_CTRL_TM_STAT (n % 16))]) s (execCanTxEnd n e s) := by
  unfold execCanTxEnd
  refine OutMoves.next ?_
  refine Moves.seq ?_ (State.canTxEnd_moves ..) (Foot.sub_at (by decide +kernel) (Foot.own_cons (Foot.holds_same (.head _)) (Foot.own_cons (Foot.holds_same (.tail _ (.head _))) (Foot.own_cons (Foot.holds_same (.tail _ (.tail _ (.head _)))) (Foot.own_cons (Foot.holds_same (.tail _ (.tail _ (.tail _ (.head _))))) (Foot.own_cons (Foot.holds_same (.tail _ (.tail _ (.tail _ (.tail _ (.head _)))))) (Foot.own_cons (Foot.holds_same (.tail _ (.tail _ (.tail _ (.tail _ (.tail _ (.head _))))))) (Foot.own_cons (Foot.holds_same (.tail _ (.tail _ (.tail _ (.tail _ (.tail _ (.tail _ (.head _)))))))) (Foot.own_cons (Foot.holds_same (.tail _ (.tail _ (.tail _ (.tail _ (.tail _ (.tail _ (.tail _ (.head _))))))))) (Foot.own_cons (Foot.holds_same (.tail _ (.tail _ (.tail _ (.tail _ (.tail _ (.tail _ (.tail _ (.tail _ (.head _)))))))))) (Foot.own_cons (Foot.holds_same (.tail _ (.tail _ (.tail _ (.tail _ (.tail _ (.tail _ (.tail _ (.tail _ (.tail _ (.head _))))))))))) (Foot.own_cons (Foot.holds_same (.tail _ (.tail _ (.tail _ (.tail _ (.tail _ (.tail _ (.tail _ (.tail _ (.tail _ (.tail _ (.head _)))))))))))) Foot.own_nil))))))))))))
  exact Moves.refl _

theorem execBusoffHoldEnd_moves (n : Nat) (s : State) :
    OutMoves (Foot.execBusoffHoldEnd.at [one (R.CB_CAN_STAT (n % 16))]) s (execBusoffHoldEnd n s) := by
  unfold execBusoffHoldEnd
  refine OutMoves.next ?_
  refine Moves.seq ?_ (State.canHoldEnd_moves ..) (Foot.sub1 (by decide +kernel) (Foot.holds_same (.head _)))
  exact Moves.refl _

theorem execRecover_moves (q : Requester) (n : Nat) (v : Word) (s : State) :
    OutMoves (Foot.execRecover.at [one (R.PG_LOCK (pageOf (R.CB_CAN_CMD (n % 16)))), one (R.PG_EVT_RAW (pageOf (R.CB_CAN_CMD (n %
      16)))), (R.CB_CAN_QPTR (n % 16) 0, R.CB_CAN_QPTR (n % 16) 15),
      (R.CB_CAN_QCNT (n % 16) 0, R.CB_CAN_QCNT (n % 16) 15), one (R.PG_EVT_RAW (P.CB_CAN (n % 16))), one (R.CB_CAN_STAT (n % 16))]) s
      (execRecover q n v s) := by
  unfold execRecover
  refine OutMoves.next ?_
  refine State.carry_moves ?_ (Foot.sub_at (by decide +kernel) (Foot.own_cons (Foot.holds_same (.head _)) (Foot.own_cons (Foot.holds_same (.tail _ (.head _))) Foot.own_nil))) (fun x1 h1 => ?_)
  · exact Moves.refl _
  · refine Moves.seq ?_ (State.canCmd_moves ..) (Foot.sub_at (by decide +kernel) (Foot.own_cons (Foot.holds_same (.tail _ (.tail _ (.head _)))) (Foot.own_cons (Foot.holds_same (.tail _ (.tail _ (.tail _ (.head _))))) (Foot.own_cons (Foot.holds_same (.tail _ (.tail _ (.tail _ (.tail _ (.head _)))))) (Foot.own_cons (Foot.holds_same (.tail _ (.tail _ (.tail _ (.tail _ (.tail _ (.head _))))))) Foot.own_nil)))))
    exact h1

theorem execBusoffRecovered_moves (n : Nat) (s : State) :
    OutMoves (Foot.execBusoffRecovered.at [one (R.PG_EVT_RAW (P.CB_CAN (n % 16))), one (R.CB_CAN_STAT (n % 16)), one (R.CB_CAN_ECNT (n
      % 16))]) s (execBusoffRecovered n s) := by
  unfold execBusoffRecovered
  refine OutMoves.next ?_
  refine Moves.seq ?_ (State.canRecovered_moves ..) (Foot.sub_at (by decide +kernel) (Foot.own_cons (Foot.holds_same (.head _)) (Foot.own_cons (Foot.holds_same (.tail _ (.head _))) (Foot.own_cons (Foot.holds_same (.tail _ (.tail _ (.head _)))) Foot.own_nil))))
  exact Moves.refl _

theorem execQueueConfigWrite_moves (q : Requester) (n : Nat) (k : Nat) (v : Word) (s : State) :
    OutMoves (Foot.execQueueConfigWrite.at [one (R.PG_LOCK (pageOf (R.CB_CAN_QCFG (n % 16) (k % 16)))), one (R.PG_EVT_RAW (pageOf
      (R.CB_CAN_QCFG (n % 16) (k % 16)))), one (R.PG_EVT_RAW (P.CB_CAN (n % 16))), one (R.CB_CAN_QCFG (n % 16) (k % 16)), one
      (R.CB_CAN_QPTR (n % 16) (k % 16))]) s (execQueueConfigWrite q n k v s) := by
  unfold execQueueConfigWrite
  refine OutMoves.next ?_
  refine State.carry_moves ?_ (Foot.sub_at (by decide +kernel) (Foot.own_cons (Foot.holds_same (.head _)) (Foot.own_cons (Foot.holds_same (.tail _ (.head _))) Foot.own_nil))) (fun x1 h1 => ?_)
  · exact Moves.refl _
  · refine Moves.seq ?_ (State.qcfgWrite_moves ..) (Foot.sub_at (by decide +kernel) (Foot.own_cons (Foot.holds_same (.tail _ (.head _))) (Foot.own_cons (Foot.holds_same (.tail _ (.tail _ (.head _)))) (Foot.own_cons (Foot.holds_same (.tail _ (.tail _ (.tail _ (.head _))))) (Foot.own_cons (Foot.holds_same (.tail _ (.tail _ (.tail _ (.tail _ (.head _)))))) Foot.own_nil)))))
    exact h1

theorem execQueuePointerWrite_moves (q : Requester) (n : Nat) (k : Nat) (v : Word) (s : State) :
    OutMoves (Foot.execQueuePointerWrite.at [one (R.PG_LOCK (pageOf (R.CB_CAN_QPTR (n % 16) (k % 16)))), one (R.PG_EVT_RAW (pageOf
      (R.CB_CAN_QPTR (n % 16) (k % 16)))), one (R.PG_EVT_RAW (P.CB_CAN (n % 16))), one (R.CB_CAN_QPTR (n % 16) (k % 16)),
      (R.CB_CAN_QPTR (n % 16) 0, R.CB_CAN_QPTR (n % 16) 15),
      (R.CB_CAN_QCNT (n % 16) 0, R.CB_CAN_QCNT (n % 16) 15)]) s (execQueuePointerWrite q n k v s) := by
  unfold execQueuePointerWrite
  refine OutMoves.next ?_
  refine State.carry_moves ?_ (Foot.sub_at (by decide +kernel) (Foot.own_cons (Foot.holds_same (.head _)) (Foot.own_cons (Foot.holds_same (.tail _ (.head _))) Foot.own_nil))) (fun x1 h1 => ?_)
  · exact Moves.refl _
  · refine Moves.seq ?_ (State.qptrWrite_moves ..) (Foot.sub_at (by decide +kernel) (Foot.own_cons (Foot.holds_same (.tail _ (.tail _ (.head _)))) (Foot.own_cons (Foot.holds_same (.tail _ (.tail _ (.tail _ (.head _))))) (Foot.own_cons (Foot.holds_same (.tail _ (.tail _ (.tail _ (.tail _ (.head _)))))) (Foot.own_cons (Foot.holds_same (.tail _ (.tail _ (.tail _ (.tail _ (.tail _ (.head _))))))) Foot.own_nil)))))
    exact h1

theorem execAbort_moves (q : Requester) (n : Nat) (v : Word) (s : State) :
    OutMoves (Foot.execAbort.at [one (R.PG_LOCK (pageOf (R.CB_CAN_CMD (n % 16)))), one (R.PG_EVT_RAW (pageOf (R.CB_CAN_CMD (n %
      16)))), (R.CB_CAN_QPTR (n % 16) 0, R.CB_CAN_QPTR (n % 16) 15),
      (R.CB_CAN_QCNT (n % 16) 0, R.CB_CAN_QCNT (n % 16) 15), one (R.PG_EVT_RAW (P.CB_CAN (n % 16))), one (R.CB_CAN_STAT (n % 16))]) s
      (execAbort q n v s) := by
  unfold execAbort
  refine OutMoves.next ?_
  refine State.carry_moves ?_ (Foot.sub_at (by decide +kernel) (Foot.own_cons (Foot.holds_same (.head _)) (Foot.own_cons (Foot.holds_same (.tail _ (.head _))) Foot.own_nil))) (fun x1 h1 => ?_)
  · exact Moves.refl _
  · refine Moves.seq ?_ (State.canCmd_moves ..) (Foot.sub_at (by decide +kernel) (Foot.own_cons (Foot.holds_same (.tail _ (.tail _ (.head _)))) (Foot.own_cons (Foot.holds_same (.tail _ (.tail _ (.tail _ (.head _))))) (Foot.own_cons (Foot.holds_same (.tail _ (.tail _ (.tail _ (.tail _ (.head _)))))) (Foot.own_cons (Foot.holds_same (.tail _ (.tail _ (.tail _ (.tail _ (.tail _ (.head _))))))) Foot.own_nil)))))
    exact h1

theorem execReferenceMessageDue_moves (n : Nat) (s : State) :
    OutMoves (Foot.execReferenceMessageDue.at [one (R.PG_EVT_RAW (P.CB_CAN (n % 16))), one (R.CB_CTRL_TM_STAT (n % 16))]) s
      (execReferenceMessageDue n s) := by
  unfold execReferenceMessageDue
  refine OutMoves.next ?_
  refine Moves.seq ?_ (State.refDue_moves ..) (Foot.sub_at (by decide +kernel) (Foot.own_cons (Foot.holds_same (.head _)) (Foot.own_cons (Foot.holds_same (.tail _ (.head _))) Foot.own_nil)))
  exact Moves.refl _

theorem execMdataAccess_moves (q : Requester) (h : Nat) (a : RamAccess) (hi : Word) (lo : Word) (s : State) :
    OutMoves (Foot.execMdataAccess.at [one (R.PG_LOCK (pageOf (R.CB_CTRL_MDATA_LO (h % 2)))), one (R.PG_EVT_RAW (pageOf
      (R.CB_CTRL_MDATA_LO (h % 2)))), one (R.PG_LOCK (pageOf (R.CB_CTRL_MDATA_HI (h % 2)))), one (R.PG_EVT_RAW (pageOf
      (R.CB_CTRL_MDATA_HI (h % 2)))), one (R.CB_CTRL_MSEL (h % 2)), one (R.PG_EVT_RAW (P.CB_CTRL (h % 2)))]) s (execMdataAccess q h a
      hi lo s) := by
  unfold execMdataAccess
  refine OutMoves.next ?_
  refine Moves.seq ?_ (State.mdataAccess_moves ..) (Foot.sub_at (by decide +kernel) (Foot.own_cons (Foot.holds_same (.head _)) (Foot.own_cons (Foot.holds_same (.tail _ (.head _))) (Foot.own_cons (Foot.holds_same (.tail _ (.tail _ (.head _)))) (Foot.own_cons (Foot.holds_same (.tail _ (.tail _ (.tail _ (.head _))))) (Foot.own_cons (Foot.holds_same (.tail _ (.tail _ (.tail _ (.tail _ (.head _)))))) (Foot.own_cons (Foot.holds_same (.tail _ (.tail _ (.tail _ (.tail _ (.tail _ (.head _))))))) Foot.own_nil)))))))
  exact Moves.refl _

theorem execTimeFrameRx_moves (p : BPort) (f : NFrame) (s : State) :
    OutMoves (Foot.execTimeFrameRx.at []) s (execTimeFrameRx p f s) := by
  unfold execTimeFrameRx
  refine OutMoves.next ?_
  refine Moves.seq ?_ (State.timeFrameRx_moves ..) (Foot.sub0 (by decide +kernel))
  exact Moves.refl _

theorem execHoldover_moves (s : State) : OutMoves (Foot.execHoldover.at []) s (execHoldover s) := by
  unfold execHoldover
  refine OutMoves.next ?_
  refine Moves.seq ?_ (State.holdover_moves ..) (Foot.sub0 (by decide +kernel))
  exact Moves.refl _

theorem execGmConflictClear_moves (s : State) : OutMoves (Foot.execGmConflictClear.at []) s (execGmConflictClear s) := by
  unfold execGmConflictClear
  refine OutMoves.next ?_
  refine Moves.seq ?_ (State.gmConflictClear_moves ..) (Foot.sub0 (by decide +kernel))
  exact Moves.refl _

theorem execStart_moves (q : Requester) (v : Word) (s : State) : OutMoves (Foot.execStart.at []) s (execStart q v s) := by
  unfold execStart
  refine OutMoves.next ?_
  refine State.carry_moves ?_ (Foot.sub_at (by decide +kernel) (Foot.own_cons (Foot.holds_reg (by decide +kernel)) (Foot.own_cons (Foot.holds_reg (by decide +kernel)) Foot.own_nil))) (fun x1 h1 => ?_)
  · exact Moves.refl _
  · refine Moves.seq ?_ (State.timCmd_moves ..) (Foot.sub0 (by decide +kernel))
    exact h1

theorem execWofsCommit_moves (q : Requester) (hi : Word) (lo : Word) (s : State) :
    OutMoves (Foot.execWofsCommit.at []) s (execWofsCommit q hi lo s) := by
  unfold execWofsCommit
  refine OutMoves.next ?_
  refine State.carryPair_moves ?_ (Foot.sub_at (by decide +kernel) (Foot.own_cons (Foot.holds_reg (by decide +kernel)) (Foot.own_cons (Foot.holds_reg (by decide +kernel)) (Foot.own_cons (Foot.holds_reg (by decide +kernel)) (Foot.own_cons (Foot.holds_reg (by decide +kernel)) Foot.own_nil))))) (fun x1 h1 => ?_)
  · exact Moves.refl _
  · refine Moves.seq ?_ (State.wofsWrite_moves ..) (Foot.sub0 (by decide +kernel))
    exact h1

theorem execGptpSyncSend_moves (port : Nat) (seq : Nat) (s : State) :
    OutMoves (Foot.execGptpSyncSend.at []) s (execGptpSyncSend port seq s) := by
  unfold execGptpSyncSend
  refine OutMoves.next ?_
  refine Moves.seq ?_ (State.gptpSync_moves ..) (Foot.sub0 (by decide +kernel))
  exact Moves.refl _

theorem execGptpAnnounceSend_moves (port : Nat) (seq : Nat) (s : State) :
    OutMoves (Foot.execGptpAnnounceSend.at []) s (execGptpAnnounceSend port seq s) := by
  unfold execGptpAnnounceSend
  refine OutMoves.next ?_
  refine Moves.seq ?_ (State.gptpAnnounce_moves ..) (Foot.sub0 (by decide +kernel))
  exact Moves.refl _

theorem execGptpPdelay_moves (port : Nat) (delay : Nat) (ok : Bool) (capable : Bool) (s : State) :
    OutMoves (Foot.execGptpPdelay.at []) s (execGptpPdelay port delay ok capable s) := by
  unfold execGptpPdelay
  refine OutMoves.next ?_
  refine Moves.seq ?_ (State.gptpPdelay_moves ..) (Foot.sub0 (by decide +kernel))
  exact Moves.refl _

theorem execGptpMessageRx_moves (port : Nat) (m : GptpMsg) (s : State) :
    OutMoves (Foot.execGptpMessageRx.at []) s (execGptpMessageRx port m s) := by
  unfold execGptpMessageRx
  refine OutMoves.next ?_
  refine Moves.seq ?_ (State.gptpRx_moves ..) (Foot.sub0 (by decide +kernel))
  exact Moves.refl _

theorem execTsCaptureCopy_moves (q : Requester) (v : Word) (s : State) :
    OutMoves (Foot.execTsCaptureCopy.at []) s (execTsCaptureCopy q v s) := by
  unfold execTsCaptureCopy
  refine OutMoves.next ?_
  refine State.carry_moves ?_ (Foot.sub_at (by decide +kernel) (Foot.own_cons (Foot.holds_reg (by decide +kernel)) (Foot.own_cons (Foot.holds_reg (by decide +kernel)) Foot.own_nil))) (fun x1 h1 => ?_)
  · exact Moves.refl _
  · refine Moves.seq ?_ (State.tsCopy_moves ..) (Foot.sub0 (by decide +kernel))
    exact h1

theorem execMirrorLanternSend_moves (s : State) : OutMoves (Foot.execMirrorLanternSend.at []) s (execMirrorLanternSend s) := by
  unfold execMirrorLanternSend
  refine OutMoves.next ?_
  refine Moves.ite (fun hc => ?_) (fun hc => ?_)
  · refine Moves.seq ?_ (State.emit_moves ..) (Foot.sub0 (by decide +kernel))
    exact Moves.refl _
  · exact Moves.refl _

end Sys2Proof.Machine
end

