-- ==== Sys2Proof/Laws/FootC18.lean ====
section
/-!
SUPPORT. What the commands may touch: one footprint and one lemma each.
-/

namespace Sys2Proof.Machine

set_option Elab.async false

theorem execMirrorLanternRx_moves (payload : List Byte) (s : State) :
    OutMoves (Foot.execMirrorLanternRx.at []) s (execMirrorLanternRx payload s) := by
  unfold execMirrorLanternRx
  refine OutMoves.next ?_
  refine Moves.seq ?_ (State.mirrorLantern_moves ..) (Foot.sub0 (by decide +kernel))
  exact Moves.refl _

theorem execBackboneLanternRx_moves (p : BPort) (f : NFrame) (s : State) :
    OutMoves (Foot.execBackboneLanternRx.at []) s (execBackboneLanternRx p f s) := by
  unfold execBackboneLanternRx
  refine OutMoves.next ?_
  refine Moves.seq ?_ (State.backboneLantern_moves ..) (Foot.sub0 (by decide +kernel))
  exact Moves.refl _

theorem execMirrorWitnessLost_moves (claimLow : Bool) (s : State) :
    OutMoves (Foot.execMirrorWitnessLost.at []) s (execMirrorWitnessLost claimLow s) := by
  unfold execMirrorWitnessLost
  refine OutMoves.next ?_
  refine Moves.seq ?_ (State.settle_moves ..) (Foot.sub0 (by decide +kernel))
  refine Moves.seq ?_ (State.mirrorSilent_moves ..) (Foot.sub0 (by decide +kernel))
  exact Moves.refl _

theorem execClaimWaitEnd_moves (highThroughout : Bool) (s : State) :
    OutMoves (Foot.execClaimWaitEnd.at []) s (execClaimWaitEnd highThroughout s) := by
  unfold execClaimWaitEnd
  refine OutMoves.next ?_
  refine Moves.seq ?_ (State.claimWaitEnd_moves ..) (Foot.sub0 (by decide +kernel))
  exact Moves.refl _

theorem execClaimStuck_moves (high : Bool) (s : State) : OutMoves (Foot.execClaimStuck.at []) s (execClaimStuck high s) := by
  unfold execClaimStuck
  refine OutMoves.next ?_
  refine Moves.seq ?_ (State.claimStuck_moves ..) (Foot.sub0 (by decide +kernel))
  exact Moves.refl _

theorem execClaimLineTest_moves (lowIn : Bool) (highAfter : Bool) (s : State) :
    OutMoves (Foot.execClaimLineTest.at []) s (execClaimLineTest lowIn highAfter s) := by
  unfold execClaimLineTest
  refine OutMoves.next ?_
  refine Moves.seq ?_ (State.claimTest_moves ..) (Foot.sub0 (by decide +kernel))
  exact Moves.refl _

theorem execClrFault_moves (q : Requester) (v : Word) (s : State) : OutMoves (Foot.execClrFault.at []) s (execClrFault q v s) := by
  unfold execClrFault
  refine OutMoves.next ?_
  refine State.carry_moves ?_ (Foot.sub_at (by decide +kernel) (Foot.own_cons (Foot.holds_reg (by decide +kernel)) (Foot.own_cons (Foot.holds_reg (by decide +kernel)) Foot.own_nil))) (fun x1 h1 => ?_)
  · exact Moves.refl _
  · refine Moves.seq ?_ (State.twnCmd_moves ..) (Foot.sub0 (by decide +kernel))
    exact h1

theorem execConfirmReq_moves (s : State) : OutMoves (Foot.execConfirmReq.at []) s (execConfirmReq s) := by
  unfold execConfirmReq
  refine OutMoves.next ?_
  refine Moves.seq ?_ (State.confirmReq_moves ..) (Foot.sub0 (by decide +kernel))
  exact Moves.refl _

theorem execConfirmReqRx_moves (_p : BPort) (f : NFrame) (s : State) :
    OutMoves (Foot.execConfirmReqRx.at []) s (execConfirmReqRx _p f s) := by
  unfold execConfirmReqRx
  refine OutMoves.next ?_
  refine Moves.seq ?_ (State.confirmReqRx_moves ..) (Foot.sub0 (by decide +kernel))
  exact Moves.refl _

theorem execConfirm_moves (_p : BPort) (f : NFrame) (claimLow : Bool) (s : State) :
    OutMoves (Foot.execConfirm.at []) s (execConfirm _p f claimLow s) := by
  unfold execConfirm
  refine OutMoves.next ?_
  refine Moves.seq ?_ (State.confirmRx_moves ..) (Foot.sub0 (by decide +kernel))
  exact Moves.refl _

theorem execConfTExpire_moves (s : State) : OutMoves (Foot.execConfTExpire.at []) s (execConfTExpire s) := by
  unfold execConfTExpire
  refine OutMoves.next ?_
  refine Moves.seq ?_ (State.confirmEnd_moves ..) (Foot.sub0 (by decide +kernel))
  exact Moves.refl _

theorem execStartTExpire_moves (claimLow : Bool) (s : State) :
    OutMoves (Foot.execStartTExpire.at []) s (execStartTExpire claimLow s) := by
  unfold execStartTExpire
  refine OutMoves.next ?_
  refine Moves.seq ?_ (State.startTEnd_moves ..) (Foot.sub0 (by decide +kernel))
  exact Moves.refl _

theorem execHandover_moves (q : Requester) (v : Word) (s : State) : OutMoves (Foot.execHandover.at []) s (execHandover q v s) := by
  unfold execHandover
  refine OutMoves.next ?_
  refine State.carry_moves ?_ (Foot.sub_at (by decide +kernel) (Foot.own_cons (Foot.holds_reg (by decide +kernel)) (Foot.own_cons (Foot.holds_reg (by decide +kernel)) Foot.own_nil))) (fun x1 h1 => ?_)
  · exact Moves.refl _
  · refine Moves.seq ?_ (State.twnCmd_moves ..) (Foot.sub0 (by decide +kernel))
    exact h1

theorem execIsolate_moves (q : Requester) (v : Word) (s : State) : OutMoves (Foot.execIsolate.at []) s (execIsolate q v s) := by
  unfold execIsolate
  refine OutMoves.next ?_
  refine State.carry_moves ?_ (Foot.sub_at (by decide +kernel) (Foot.own_cons (Foot.holds_reg (by decide +kernel)) (Foot.own_cons (Foot.holds_reg (by decide +kernel)) Foot.own_nil))) (fun x1 h1 => ?_)
  · exact Moves.refl _
  · refine Moves.seq ?_ (State.twnCmd_moves ..) (Foot.sub0 (by decide +kernel))
    exact h1

theorem execRejoin_moves (q : Requester) (v : Word) (s : State) : OutMoves (Foot.execRejoin.at []) s (execRejoin q v s) := by
  unfold execRejoin
  refine OutMoves.next ?_
  refine State.carry_moves ?_ (Foot.sub_at (by decide +kernel) (Foot.own_cons (Foot.holds_reg (by decide +kernel)) (Foot.own_cons (Foot.holds_reg (by decide +kernel)) Foot.own_nil))) (fun x1 h1 => ?_)
  · exact Moves.refl _
  · refine Moves.seq ?_ (State.twnCmd_moves ..) (Foot.sub0 (by decide +kernel))
    exact h1

theorem execAdmit_moves (q : Requester) (v : Word) (s : State) : OutMoves (Foot.execAdmit.at []) s (execAdmit q v s) := by
  unfold execAdmit
  refine OutMoves.next ?_
  refine State.carry_moves ?_ (Foot.sub_at (by decide +kernel) (Foot.own_cons (Foot.holds_reg (by decide +kernel)) (Foot.own_cons (Foot.holds_reg (by decide +kernel)) Foot.own_nil))) (fun x1 h1 => ?_)
  · exact Moves.refl _
  · refine Moves.seq ?_ (State.twnCmd_moves ..) (Foot.sub0 (by decide +kernel))
    exact h1

theorem execHandoverDeclined_moves (s : State) : OutMoves (Foot.execHandoverDeclined.at []) s (execHandoverDeclined s) := by
  unfold execHandoverDeclined
  refine OutMoves.next ?_
  refine Moves.seq ?_ (State.declined_moves ..) (Foot.sub0 (by decide +kernel))
  exact Moves.refl _

theorem execAutoHandoverCause_moves (cause : Nat) (s : State) :
    OutMoves (Foot.execAutoHandoverCause.at []) s (execAutoHandoverCause cause s) := by
  unfold execAutoHandoverCause
  refine OutMoves.next ?_
  refine Moves.seq ?_ (State.autoHandover_moves ..) (Foot.sub0 (by decide +kernel))
  exact Moves.refl _

theorem execMirrorLinkUp_moves (s : State) : OutMoves (Foot.execMirrorLinkUp.at []) s (execMirrorLinkUp s) := by
  unfold execMirrorLinkUp
  refine OutMoves.next ?_
  refine Moves.seq ?_ (State.linkUp_moves ..) (Foot.sub0 (by decide +kernel))
  exact Moves.refl _

theorem execLaneDegr_moves (second : Bool) (s : State) : OutMoves (Foot.execLaneDegr.at []) s (execLaneDegr second s) := by
  unfold execLaneDegr
  refine OutMoves.next ?_
  refine Moves.seq ?_ (State.laneDrop_moves ..) (Foot.sub0 (by decide +kernel))
  exact Moves.refl _

theorem execMirrorLinkDown_moves (s : State) : OutMoves (Foot.execMirrorLinkDown.at []) s (execMirrorLinkDown s) := by
  unfold execMirrorLinkDown
  refine OutMoves.next ?_
  refine Moves.seq ?_ (State.linkDown_moves ..) (Foot.sub0 (by decide +kernel))
  exact Moves.refl _

theorem execEpochRecord_moves (item : MirrorItem) (s : State) :
    OutMoves (Foot.execEpochRecord.at []) s (execEpochRecord item s) := by
  unfold execEpochRecord
  refine OutMoves.next ?_
  refine Moves.seq ?_ (State.epochRecord_moves ..) (Foot.sub0 (by decide +kernel))
  exact Moves.refl _

theorem execErecRx_moves (n : Nat) (payload : List Byte) (s : State) :
    OutMoves (Foot.execErecRx.at []) s (execErecRx n payload s) := by
  unfold execErecRx
  refine OutMoves.next ?_
  refine Moves.seq ?_ (State.erecRx_moves ..) (Foot.sub0 (by decide +kernel))
  exact Moves.refl _

theorem execEcloseRx_moves (n : Nat) (payload : List Byte) (s : State) :
    OutMoves (Foot.execEcloseRx.at []) s (execEcloseRx n payload s) := by
  unfold execEcloseRx
  refine OutMoves.next ?_
  refine Moves.seq ?_ (State.ecloseRx_moves ..) (Foot.sub0 (by decide +kernel))
  exact Moves.refl _

theorem execEpochMismatch_moves (s : State) : OutMoves (Foot.execEpochMismatch.at []) s (execEpochMismatch s) := by
  unfold execEpochMismatch
  refine OutMoves.next ?_
  refine Moves.seq ?_ (State.topeCheck_moves ..) (Foot.sub0 (by decide +kernel))
  exact Moves.refl _

theorem execBrecRx_moves (n : Nat) (payload : List Byte) (s : State) :
    OutMoves (Foot.execBrecRx.at []) s (execBrecRx n payload s) := by
  unfold execBrecRx
  refine OutMoves.next ?_
  refine Moves.seq ?_ (State.brecRx_moves ..) (Foot.sub0 (by decide +kernel))
  exact Moves.refl _

theorem execBcloseRx_moves (n : Nat) (payload : List Byte) (s : State) :
    OutMoves (Foot.execBcloseRx.at []) s (execBcloseRx n payload s) := by
  unfold execBcloseRx
  refine OutMoves.next ?_
  refine Moves.seq ?_ (State.bcloseRx_moves ..) (Foot.sub0 (by decide +kernel))
  exact Moves.refl _

theorem execMirrorCrcErr_moves (s : State) : OutMoves (Foot.execMirrorCrcErr.at []) s (execMirrorCrcErr s) := by
  unfold execMirrorCrcErr
  refine OutMoves.next ?_
  refine Moves.ite (fun hc => ?_) (fun hc => ?_)
  · refine Moves.seq ?_ (State.satInc_moves _ _ (by decide)) (Foot.sub1 (by decide +kernel) (Foot.holds_reg (by decide +kernel)))
    exact Moves.refl _
  · exact Moves.refl _

theorem execEndpointReset_moves (kind : EndpointReset) (s : State) :
    OutMoves (Foot.execEndpointReset.at []) s (execEndpointReset kind s) := by
  unfold execEndpointReset
  refine OutMoves.next ?_
  refine Moves.seq ?_ (State.endpointReset_moves ..) (Foot.sub0 (by decide +kernel))
  exact Moves.refl _

theorem execPcieLinkUp_moves (speed : Nat) (width : Nat) (s : State) :
    OutMoves (Foot.execPcieLinkUp.at []) s (execPcieLinkUp speed width s) := by
  unfold execPcieLinkUp
  refine OutMoves.next ?_
  refine Moves.seq ?_ (State.linkTrained_moves ..) (Foot.sub0 (by decide +kernel))
  exact Moves.refl _

theorem execConfigRequest_moves (reg : CfgReg) (write : Option Word) (s : State) :
    OutMoves (Foot.execConfigRequest.at []) s (execConfigRequest reg write s) := by
  unfold execConfigRequest
  refine OutMoves.next ?_
  refine Moves.seq ?_ (State.configRequest_moves ..) (Foot.sub0 (by decide +kernel))
  exact Moves.refl _

theorem execNowin_moves (off : Nat) (n : Nat) (write : Option (List Byte)) (s : State) :
    OutMoves (Foot.execNowin.at []) s (execNowin off n write s) := by
  unfold execNowin
  refine OutMoves.next ?_
  refine Moves.seq ?_ (State.bar2_moves ..) (Foot.sub0 (by decide +kernel))
  exact Moves.refl _

theorem execMessageRamWindowAccess_moves (off : Nat) (n : Nat) (write : Option (List Byte)) (ue : Bool) (s : State) :
    OutMoves (Foot.execMessageRamWindowAccess.at []) s (execMessageRamWindowAccess off n write ue s) := by
  unfold execMessageRamWindowAccess
  refine OutMoves.next ?_
  refine Moves.seq ?_ (State.bar2_moves ..) (Foot.sub0 (by decide +kernel))
  exact Moves.refl _

theorem execIwinEnable_moves (q : Requester) (n : Nat) (v : Word) (s : State) :
    OutMoves (Foot.execIwinEnable.at [one (R.PG_LOCK (pageOf (R.HBR_IWIN_CFG (n % 16)))), one (R.PG_EVT_RAW (pageOf (R.HBR_IWIN_CFG (n
      % 16)))), one (R.HBR_IWIN_CFG (n % 16))]) s (execIwinEnable q n v s) := by
  unfold execIwinEnable
  refine OutMoves.next ?_
  refine State.carry_moves ?_ (Foot.sub_at (by decide +kernel) (Foot.own_cons (Foot.holds_same (.head _)) (Foot.own_cons (Foot.holds_same (.tail _ (.head _))) Foot.own_nil))) (fun x1 h1 => ?_)
  · exact Moves.refl _
  · refine Moves.seq ?_ (State.iwinWrite_moves ..) (Foot.sub1 (by decide +kernel) (Foot.holds_same (.tail _ (.tail _ (.head _)))))
    exact h1

theorem execOwinEnable_moves (q : Requester) (m : Nat) (v : Word) (s : State) :
    OutMoves (Foot.execOwinEnable.at [one (R.PG_LOCK (pageOf (R.HBR_OWIN_CFG (m % 8)))), one (R.PG_EVT_RAW (pageOf (R.HBR_OWIN_CFG (m
      % 8)))), one (R.HBR_OWIN_CFG (m % 8))]) s (execOwinEnable q m v s) := by
  unfold execOwinEnable
  refine OutMoves.next ?_
  refine State.carry_moves ?_ (Foot.sub_at (by decide +kernel) (Foot.own_cons (Foot.holds_same (.head _)) (Foot.own_cons (Foot.holds_same (.tail _ (.head _))) Foot.own_nil))) (fun x1 h1 => ?_)
  · exact Moves.refl _
  · refine Moves.seq ?_ (State.owinWrite_moves ..) (Foot.sub1 (by decide +kernel) (Foot.holds_same (.tail _ (.tail _ (.head _)))))
    exact h1

theorem execRingEnable_moves (q : Requester) (r : Nat) (v : Word) (s : State) :
    OutMoves (Foot.execRingEnable.at [one (R.PG_LOCK (pageOf (R.HBR_RING_CFG (r % 9)))), one (R.PG_EVT_RAW (pageOf (R.HBR_RING_CFG (r
      % 9)))), one (R.HBR_RING_CFG (r % 9)), one (R.HBR_RING_PTR (r % 9))]) s (execRingEnable q r v s) := by
  unfold execRingEnable
  refine OutMoves.next ?_
  refine State.carry_moves ?_ (Foot.sub_at (by decide +kernel) (Foot.own_cons (Foot.holds_same (.head _)) (Foot.own_cons (Foot.holds_same (.tail _ (.head _))) Foot.own_nil))) (fun x1 h1 => ?_)
  · exact Moves.refl _
  · refine Moves.seq ?_ (State.ringCfg_moves ..) (Foot.sub_at (by decide +kernel) (Foot.own_cons (Foot.holds_same (.tail _ (.tail _ (.head _)))) (Foot.own_cons (Foot.holds_same (.tail _ (.tail _ (.tail _ (.head _))))) Foot.own_nil)))
    exact h1

theorem execRingPutWrite_moves (q : Requester) (r : Nat) (v : Word) (s : State) :
    OutMoves (Foot.execRingPutWrite.at [one (R.PG_LOCK (pageOf (R.HBR_RING_PTR (r % 9)))), one (R.PG_EVT_RAW (pageOf (R.HBR_RING_PTR
      (r % 9)))), one (R.HBR_RING_PTR (r % 9))]) s (execRingPutWrite q r v s) := by
  unfold execRingPutWrite
  refine OutMoves.next ?_
  refine State.carry_moves ?_ (Foot.sub_at (by decide +kernel) (Foot.own_cons (Foot.holds_same (.head _)) (Foot.own_cons (Foot.holds_same (.tail _ (.head _))) Foot.own_nil))) (fun x1 h1 => ?_)
  · exact Moves.refl _
  · refine Moves.seq ?_ (State.ringPut_moves ..) (Foot.sub1 (by decide +kernel) (Foot.holds_same (.tail _ (.tail _ (.head _)))))
    exact h1

theorem execRxRingDeliver_moves (k : Nat) (mem : List (Nat × Byte)) (s : State) :
    OutMoves (Foot.execRxRingDeliver.at [one (R.HBR_RING_PTR (k % 8)), one (R.HBR_RING_CNT (k % 8))]) s (execRxRingDeliver k mem s) :=
      by
  unfold execRxRingDeliver
  refine OutMoves.next ?_
  refine Moves.seq ?_ (State.rxDeliver_moves ..) (Foot.sub_at (by decide +kernel) (Foot.own_cons (Foot.holds_same (.head _)) (Foot.own_cons (Foot.holds_same (.tail _ (.head _))) Foot.own_nil)))
  exact Moves.refl _

theorem execTxDescriptor_moves (mem : List (Nat × Byte)) (readError : Bool) (s : State) :
    OutMoves (Foot.execTxDescriptor.at []) s (execTxDescriptor mem readError s) := by
  unfold execTxDescriptor
  refine OutMoves.next ?_
  refine Moves.seq ?_ (State.txDescriptor_moves ..) (Foot.sub0 (by decide +kernel))
  exact Moves.refl _

theorem execBmeChange_moves (on : Bool) (s : State) : OutMoves (Foot.execBmeChange.at []) s (execBmeChange on s) := by
  unfold execBmeChange
  refine OutMoves.next ?_
  refine Moves.seq ?_ (State.setBme_moves ..) (Foot.sub0 (by decide +kernel))
  exact Moves.refl _

theorem execPeriscopeRead_moves (off : Nat) (n : Nat) (s : State) :
    OutMoves (Foot.execPeriscopeRead.at []) s (execPeriscopeRead off n s) := by
  unfold execPeriscopeRead
  refine OutMoves.next ?_
  refine Moves.seq ?_ (State.bar2_moves ..) (Foot.sub0 (by decide +kernel))
  exact Moves.refl _

theorem execTimeout_moves (off : Nat) (s : State) : OutMoves (Foot.execTimeout.at []) s (execTimeout off s) := by
  unfold execTimeout
  refine OutMoves.next ?_
  refine Moves.ite (fun hc => ?_) (fun hc => ?_)
  · refine Moves.seq ?_ (State.pscTimeout_moves ..) (Foot.sub0 (by decide +kernel))
    exact Moves.refl _
  · exact Moves.refl _

theorem execPeriscopeResponseRx_moves (f : NFrame) (s : State) :
    OutMoves (Foot.execPeriscopeResponseRx.at []) s (execPeriscopeResponseRx f s) := by
  unfold execPeriscopeResponseRx
  refine OutMoves.next ?_
  refine Moves.seq ?_ (State.pscRx_moves ..) (Foot.sub0 (by decide +kernel))
  exact Moves.refl _

theorem execDrDiscard_moves (e : Nat) (s : State) : OutMoves (Foot.execDrDiscard.at []) s (execDrDiscard e s) := by
  unfold execDrDiscard
  refine OutMoves.next ?_
  refine Moves.ite (fun hc => ?_) (fun hc => ?_)
  · refine Moves.seq ?_ (State.drDiscard_moves ..) (Foot.sub0 (by decide +kernel))
    exact Moves.refl _
  · exact Moves.refl _

theorem execPeriscopeWrite_moves (off : Nat) (bytes : List Byte) (s : State) :
    OutMoves (Foot.execPeriscopeWrite.at []) s (execPeriscopeWrite off bytes s) := by
  unfold execPeriscopeWrite
  refine OutMoves.next ?_
  refine Moves.seq ?_ (State.bar2_moves ..) (Foot.sub0 (by decide +kernel))
  exact Moves.refl _

theorem execPwfail_moves (f : NFrame) (s : State) : OutMoves (Foot.execPwfail.at []) s (execPwfail f s) := by
  unfold execPwfail
  refine OutMoves.next ?_
  refine Moves.seq ?_ (State.pscRx_moves ..) (Foot.sub0 (by decide +kernel))
  exact Moves.refl _

theorem execPwlogGetWrite_moves (q : Requester) (v : Word) (s : State) :
    OutMoves (Foot.execPwlogGetWrite.at []) s (execPwlogGetWrite q v s) := by
  unfold execPwlogGetWrite
  refine OutMoves.next ?_
  refine State.carry_moves ?_ (Foot.sub_at (by decide +kernel) (Foot.own_cons (Foot.holds_reg (by decide +kernel)) (Foot.own_cons (Foot.holds_reg (by decide +kernel)) Foot.own_nil))) (fun x1 h1 => ?_)
  · exact Moves.refl _
  · refine Moves.seq ?_ (State.pwlogGet_moves ..) (Foot.sub0 (by decide +kernel))
    exact h1

theorem execPeriscopeRequestRx_moves (f : NFrame) (s : State) :
    OutMoves (Foot.execPeriscopeRequestRx.at []) s (execPeriscopeRequestRx f s) := by
  unfold execPeriscopeRequestRx
  refine OutMoves.next ?_
  refine Moves.seq ?_ (State.pscRx_moves ..) (Foot.sub0 (by decide +kernel))
  exact Moves.refl _

theorem execPeriscopeExecute_moves (s : State) : OutMoves (Foot.execPeriscopeExecute.at []) s (execPeriscopeExecute s) := by
  unfold execPeriscopeExecute
  refine OutMoves.next ?_
  refine Moves.seq ?_ (State.pscExecute_moves ..) (Foot.sub0 (by decide +kernel))
  exact Moves.refl _

theorem execFence_moves (q : Requester) (v : Word) (s : State) :
    OutMoves (Foot.execFence.at [one (R.PSC_WIN_CNT (BitVec.toNat v % 8)), one (R.PSC_WIN_STAT (BitVec.toNat v % 8))]) s (execFence q
      v s) := by
  unfold execFence
  refine OutMoves.next ?_
  refine State.carry_moves ?_ (Foot.sub_at (by decide +kernel) (Foot.own_cons (Foot.holds_reg (by decide +kernel)) (Foot.own_cons (Foot.holds_reg (by decide +kernel)) Foot.own_nil))) (fun x1 h1 => ?_)
  · exact Moves.refl _
  · refine Moves.seq ?_ (State.fence_moves ..) (Foot.sub_at (by decide +kernel) (Foot.own_cons (Foot.holds_same (.head _)) (Foot.own_cons (Foot.holds_same (.tail _ (.head _))) Foot.own_nil)))
    exact h1

theorem execFenceTExpire_moves (s : State) : OutMoves (Foot.execFenceTExpire.at []) s (execFenceTExpire s) := by
  unfold execFenceTExpire
  refine OutMoves.next ?_
  refine Moves.ite (fun hc => ?_) (fun hc => ?_)
  · refine Moves.seq ?_ (State.fenceExpire_moves ..) (Foot.sub0 (by decide +kernel))
    exact Moves.refl _
  · exact Moves.refl _

theorem execSidePoll_moves (s : State) : OutMoves (Foot.execSidePoll.at []) s (execSidePoll s) := by
  unfold execSidePoll
  refine OutMoves.next ?_
  refine Moves.seq ?_ (State.sidePolls_moves ..) (Foot.sub0 (by decide +kernel))
  exact Moves.refl _

theorem execAclEntryWrite_moves (q : Requester) (n : Nat) (v : Word) (s : State) :
    OutMoves (Foot.execAclEntryWrite.at [one (R.PG_LOCK (pageOf (R.PSC_CTRL_ACL_W1 (n % 32)))), one (R.PG_EVT_RAW (pageOf
      (R.PSC_CTRL_ACL_W1 (n % 32)))), one (R.PSC_CTRL_ACL_W1 (n % 32))]) s (execAclEntryWrite q n v s) := by
  unfold execAclEntryWrite
  refine OutMoves.next ?_
  refine State.carry_moves ?_ (Foot.sub_at (by decide +kernel) (Foot.own_cons (Foot.holds_same (.head _)) (Foot.own_cons (Foot.holds_same (.tail _ (.head _))) Foot.own_nil))) (fun x1 h1 => ?_)
  · exact Moves.refl _
  · refine Moves.seq ?_ (State.aclWrite_moves ..) (Foot.sub_at (by decide +kernel) (Foot.own_cons (Foot.holds_same (.tail _ (.head _))) (Foot.own_cons (Foot.holds_same (.tail _ (.tail _ (.head _)))) Foot.own_nil)))
    exact h1

theorem execPscWindowEnable_moves (q : Requester) (p : Nat) (v : Word) (s : State) :
    OutMoves (Foot.execPscWindowEnable.at [one (R.PG_LOCK (pageOf (R.PSC_WIN_CFG (p % 8)))), one (R.PG_EVT_RAW (pageOf (R.PSC_WIN_CFG
      (p % 8)))), one (R.PSC_WIN_CFG (p % 8)), one (R.PSC_SIDE_AGE (p % 8)), one (R.PSC_SIDE_ISL (p % 8))]) s (execPscWindowEnable q p
      v s) := by
  unfold execPscWindowEnable
  refine OutMoves.next ?_
  refine State.carry_moves ?_ (Foot.sub_at (by decide +kernel) (Foot.own_cons (Foot.holds_same (.head _)) (Foot.own_cons (Foot.holds_same (.tail _ (.head _))) Foot.own_nil))) (fun x1 h1 => ?_)
  · exact Moves.refl _
  · refine Moves.seq ?_ (State.pscWinWrite_moves ..) (Foot.sub_at (by decide +kernel) (Foot.own_cons (Foot.holds_same (.tail _ (.tail _ (.head _)))) (Foot.own_cons (Foot.holds_same (.tail _ (.tail _ (.tail _ (.head _))))) (Foot.own_cons (Foot.holds_same (.tail _ (.tail _ (.tail _ (.tail _ (.head _)))))) Foot.own_nil))))
    exact h1

theorem execPropose_moves (q : Requester) (v : Word) (s : State) : OutMoves (Foot.execPropose.at []) s (execPropose q v s) := by
  unfold execPropose
  refine OutMoves.next ?_
  refine State.carry_moves ?_ (Foot.sub_at (by decide +kernel) (Foot.own_cons (Foot.holds_reg (by decide +kernel)) (Foot.own_cons (Foot.holds_reg (by decide +kernel)) Foot.own_nil))) (fun x1 h1 => ?_)
  · exact Moves.refl _
  · refine Moves.seq ?_ (State.propWrite_moves ..) (Foot.sub0 (by decide +kernel))
    exact h1

theorem execWithdraw_moves (q : Requester) (v : Word) (s : State) : OutMoves (Foot.execWithdraw.at []) s (execWithdraw q v s) := by
  unfold execWithdraw
  refine OutMoves.next ?_
  refine State.carry_moves ?_ (Foot.sub_at (by decide +kernel) (Foot.own_cons (Foot.holds_reg (by decide +kernel)) (Foot.own_cons (Foot.holds_reg (by decide +kernel)) Foot.own_nil))) (fun x1 h1 => ?_)
  · exact Moves.refl _
  · refine Moves.seq ?_ (State.propWrite_moves ..) (Foot.sub0 (by decide +kernel))
    exact h1

theorem execDusk_moves (f : NFrame) (s : State) : OutMoves (Foot.execDusk.at []) s (execDusk f s) := by
  unfold execDusk
  refine OutMoves.next ?_
  refine Moves.seq ?_ (State.duskRx_moves ..) (Foot.sub0 (by decide +kernel))
  exact Moves.refl _

theorem execVeto_moves (q : Requester) (v : Word) (s : State) : OutMoves (Foot.execVeto.at []) s (execVeto q v s) := by
  unfold execVeto
  refine OutMoves.next ?_
  refine State.carry_moves ?_ (Foot.sub_at (by decide +kernel) (Foot.own_cons (Foot.holds_reg (by decide +kernel)) (Foot.own_cons (Foot.holds_reg (by decide +kernel)) Foot.own_nil))) (fun x1 h1 => ?_)
  · exact Moves.refl _
  · refine Moves.seq ?_ (State.wakeCmd_moves ..) (Foot.sub0 (by decide +kernel))
    exact h1

theorem execHold_moves (q : Requester) (v : Word) (s : State) : OutMoves (Foot.execHold.at []) s (execHold q v s) := by
  unfold execHold
  refine OutMoves.next ?_
  refine State.carry_moves ?_ (Foot.sub_at (by decide +kernel) (Foot.own_cons (Foot.holds_reg (by decide +kernel)) (Foot.own_cons (Foot.holds_reg (by decide +kernel)) Foot.own_nil))) (fun x1 h1 => ?_)
  · exact Moves.refl _
  · refine Moves.seq ?_ (State.wakeCmd_moves ..) (Foot.sub0 (by decide +kernel))
    exact h1

theorem execSleepReq_moves (q : Requester) (v : Word) (s : State) : OutMoves (Foot.execSleepReq.at []) s (execSleepReq q v s) := by
  unfold execSleepReq
  refine OutMoves.next ?_
  refine State.carry_moves ?_ (Foot.sub_at (by decide +kernel) (Foot.own_cons (Foot.holds_reg (by decide +kernel)) (Foot.own_cons (Foot.holds_reg (by decide +kernel)) Foot.own_nil))) (fun x1 h1 => ?_)
  · exact Moves.refl _
  · refine Moves.seq ?_ (State.wakeCmd_moves ..) (Foot.sub0 (by decide +kernel))
    exact h1

end Sys2Proof.Machine
end

