-- ==== Sys2Proof/Laws/FootC19.lean ====
section
/-!
SUPPORT. What the commands may touch: one footprint and one lemma each.
-/

namespace Sys2Proof.Machine

set_option Elab.async false

theorem execSleepRequestRx_moves (f : NFrame) (s : State) : OutMoves (Foot.execSleepRequestRx.at []) s (execSleepRequestRx f s) := by
  unfold execSleepRequestRx
  refine OutMoves.next ?_
  refine Moves.seq ?_ (State.sleepRequestRx_moves ..) (Foot.sub0 (by decide +kernel))
  exact Moves.refl _

theorem execVetoRx_moves (f : NFrame) (s : State) : OutMoves (Foot.execVetoRx.at []) s (execVetoRx f s) := by
  unfold execVetoRx
  refine OutMoves.next ?_
  refine Moves.seq ?_ (State.vetoRx_moves ..) (Foot.sub0 (by decide +kernel))
  exact Moves.refl _

theorem execCancelRx_moves (f : NFrame) (s : State) : OutMoves (Foot.execCancelRx.at []) s (execCancelRx f s) := by
  unfold execCancelRx
  refine OutMoves.next ?_
  refine Moves.seq ?_ (State.cancelRx_moves ..) (Foot.sub0 (by decide +kernel))
  exact Moves.refl _

theorem execDark_moves (s : State) : OutMoves (Foot.execDark.at []) s (execDark s) := by
  unfold execDark
  refine OutMoves.next ?_
  refine Moves.seq ?_ (State.dark_moves ..) (Foot.sub0 (by decide +kernel))
  exact Moves.refl _

theorem execMinDarkTimeEnd_moves (s : State) : OutMoves (Foot.execMinDarkTimeEnd.at []) s (execMinDarkTimeEnd s) := by
  unfold execMinDarkTimeEnd
  refine OutMoves.next ?_
  refine Moves.seq ?_ (State.minDarkEnd_moves ..) (Foot.sub0 (by decide +kernel))
  exact Moves.refl _

theorem execWakeSource_moves (src : Nat) (chan : Nat) (s : State) :
    OutMoves (Foot.execWakeSource.at []) s (execWakeSource src chan s) := by
  unfold execWakeSource
  refine OutMoves.next ?_
  refine Moves.seq ?_ (State.wakeSource_moves ..) (Foot.sub0 (by decide +kernel))
  exact Moves.refl _

theorem execDawnPulseInject_moves (s : State) : OutMoves (Foot.execDawnPulseInject.at []) s (execDawnPulseInject s) := by
  unfold execDawnPulseInject
  refine OutMoves.next ?_
  refine Moves.seq ?_ (State.dawnPulse_moves ..) (Foot.sub0 (by decide +kernel))
  exact Moves.refl _

theorem execDawnSend_moves (s : State) : OutMoves (Foot.execDawnSend.at []) s (execDawnSend s) := by
  unfold execDawnSend
  refine OutMoves.next ?_
  refine Moves.seq ?_ (State.dawnSend_moves ..) (Foot.sub0 (by decide +kernel))
  exact Moves.refl _

theorem execDawn_moves (q : Requester) (v : Word) (s : State) : OutMoves (Foot.execDawn.at []) s (execDawn q v s) := by
  unfold execDawn
  refine OutMoves.next ?_
  refine State.carry_moves ?_ (Foot.sub_at (by decide +kernel) (Foot.own_cons (Foot.holds_reg (by decide +kernel)) (Foot.own_cons (Foot.holds_reg (by decide +kernel)) Foot.own_nil))) (fun x1 h1 => ?_)
  · exact Moves.refl _
  · refine Moves.seq ?_ (State.wakeCmd_moves ..) (Foot.sub0 (by decide +kernel))
    exact h1

theorem execDawnRx_moves (f : NFrame) (s : State) : OutMoves (Foot.execDawnRx.at []) s (execDawnRx f s) := by
  unfold execDawnRx
  refine OutMoves.next ?_
  refine Moves.seq ?_ (State.dawnRx_moves ..) (Foot.sub0 (by decide +kernel))
  exact Moves.refl _

theorem execPulseRx_moves (_l : Line) (s : State) : OutMoves (Foot.execPulseRx.at []) s (execPulseRx _l s) := by
  unfold execPulseRx
  refine OutMoves.next ?_
  refine Moves.seq ?_ (State.pulseRx_moves ..) (Foot.sub0 (by decide +kernel))
  exact Moves.refl _

theorem execIsoWrite_moves (q : Requester) (v : Word) (s : State) : OutMoves (Foot.execIsoWrite.at []) s (execIsoWrite q v s) := by
  unfold execIsoWrite
  refine OutMoves.next ?_
  refine State.carry_moves ?_ (Foot.sub_at (by decide +kernel) (Foot.own_cons (Foot.holds_reg (by decide +kernel)) (Foot.own_cons (Foot.holds_reg (by decide +kernel)) Foot.own_nil))) (fun x1 h1 => ?_)
  · exact Moves.refl _
  · refine Moves.seq ?_ (State.isoSet_moves ..) (Foot.sub0 (by decide +kernel))
    exact h1

theorem execKaOkFall_moves (s : State) : OutMoves (Foot.execKaOkFall.at []) s (execKaOkFall s) := by
  unfold execKaOkFall
  refine OutMoves.next ?_
  refine Moves.seq ?_ (State.kaFall_moves ..) (Foot.sub0 (by decide +kernel))
  exact Moves.refl _

theorem execFilteredEdge_moves (i : Nat) (level : Bool) (s : State) :
    OutMoves (Foot.execFilteredEdge.at [one (R.SYS_DIN_STAT (i % 4))]) s (execFilteredEdge i level s) := by
  unfold execFilteredEdge
  refine OutMoves.next ?_
  refine Moves.seq ?_ (State.filteredEdge_moves ..) (Foot.sub1 (by decide +kernel) (Foot.holds_same (.head _)))
  exact Moves.refl _

theorem execEdge_moves (i : Nat) (s : State) : OutMoves (Foot.execEdge.at [one (R.SYS_DIN_STAT (i % 4))]) s (execEdge i s) := by
  unfold execEdge
  refine OutMoves.next ?_
  refine Moves.seq ?_ (State.dinDebounced_moves ..) (Foot.sub1 (by decide +kernel) (Foot.holds_same (.head _)))
  exact Moves.refl _

theorem execStuck_moves (i : Nat) (s : State) : OutMoves (Foot.execStuck.at [one (R.SYS_DIN_STAT (i % 4))]) s (execStuck i s) := by
  unfold execStuck
  refine OutMoves.next ?_
  refine Moves.seq ?_ (State.dinStuck_moves ..) (Foot.sub1 (by decide +kernel) (Foot.holds_same (.head _)))
  exact Moves.refl _

theorem execStuckRelease_moves (i : Nat) (s : State) :
    OutMoves (Foot.execStuckRelease.at [one (R.SYS_DIN_STAT (i % 4))]) s (execStuckRelease i s) := by
  unfold execStuckRelease
  refine OutMoves.next ?_
  refine Moves.seq ?_ (State.dinStuckRelease_moves ..) (Foot.sub1 (by decide +kernel) (Foot.holds_same (.head _)))
  exact Moves.refl _

theorem execChat_moves (i : Nat) (s : State) : OutMoves (Foot.execChat.at [one (R.SYS_DIN_STAT (i % 4))]) s (execChat i s) := by
  unfold execChat
  refine OutMoves.next ?_
  refine Moves.seq ?_ (State.dinChat_moves ..) (Foot.sub1 (by decide +kernel) (Foot.holds_same (.head _)))
  exact Moves.refl _

theorem execChatHoldEnd_moves (i : Nat) (s : State) :
    OutMoves (Foot.execChatHoldEnd.at [one (R.SYS_DIN_STAT (i % 4))]) s (execChatHoldEnd i s) := by
  unfold execChatHoldEnd
  refine OutMoves.next ?_
  refine Moves.seq ?_ (State.dinChatEnd_moves ..) (Foot.sub1 (by decide +kernel) (Foot.holds_same (.head _)))
  exact Moves.refl _

theorem execDinCfgWrite_moves (q : Requester) (i : Nat) (v : Word) (s : State) :
    OutMoves (Foot.execDinCfgWrite.at [one (R.PG_LOCK (pageOf (R.SYS_DIN_CFG (i % 4)))), one (R.PG_EVT_RAW (pageOf (R.SYS_DIN_CFG (i %
      4)))), one (R.SYS_DIN_CFG (i % 4))]) s (execDinCfgWrite q i v s) := by
  unfold execDinCfgWrite
  refine OutMoves.next ?_
  refine State.carry_moves ?_ (Foot.sub_at (by decide +kernel) (Foot.own_cons (Foot.holds_same (.head _)) (Foot.own_cons (Foot.holds_same (.tail _ (.head _))) Foot.own_nil))) (fun x1 h1 => ?_)
  · exact Moves.refl _
  · refine Moves.seq ?_ (State.dinCfg_moves ..) (Foot.sub_at (by decide +kernel) (Foot.own_cons (Foot.holds_same (.tail _ (.head _))) (Foot.own_cons (Foot.holds_same (.tail _ (.tail _ (.head _)))) Foot.own_nil)))
    exact h1

theorem execXoQual_moves (s : State) : OutMoves (Foot.execXoQual.at []) s (execXoQual s) := by
  unfold execXoQual
  refine OutMoves.next ?_
  refine Moves.seq ?_ (State.xoQual_moves ..) (Foot.sub0 (by decide +kernel))
  exact Moves.refl _

theorem execXoFail_moves (s : State) : OutMoves (Foot.execXoFail.at []) s (execXoFail s) := by
  unfold execXoFail
  refine OutMoves.next ?_
  refine Moves.seq ?_ (State.xoFail_moves ..) (Foot.sub0 (by decide +kernel))
  exact Moves.refl _

theorem execSourceFailure_moves (src : Nat) (s : State) : OutMoves (Foot.execSourceFailure.at []) s (execSourceFailure src s) := by
  unfold execSourceFailure
  refine OutMoves.next ?_
  refine Moves.seq ?_ (State.srcFail_moves ..) (Foot.sub0 (by decide +kernel))
  exact Moves.refl _

theorem execSrcLoss_moves (src : Nat) (s : State) : OutMoves (Foot.execSrcLoss.at []) s (execSrcLoss src s) := by
  unfold execSrcLoss
  refine OutMoves.next ?_
  refine Moves.seq ?_ (State.srcFail_moves ..) (Foot.sub0 (by decide +kernel))
  exact Moves.refl _

theorem execLineHold_moves (s : State) : OutMoves (Foot.execLineHold.at []) s (execLineHold s) := by
  unfold execLineHold
  refine OutMoves.next ?_
  refine Moves.seq ?_ (State.lineHold_moves ..) (Foot.sub0 (by decide +kernel))
  exact Moves.refl _

theorem execLineRefChg_moves (ref : Nat) (near : Bool) (s : State) :
    OutMoves (Foot.execLineRefChg.at []) s (execLineRefChg ref near s) := by
  unfold execLineRefChg
  refine OutMoves.next ?_
  refine Moves.seq ?_ (State.lineRefChg_moves ..) (Foot.sub0 (by decide +kernel))
  exact Moves.refl _

theorem execPllLineLock_moves (ofs : Int) (s : State) : OutMoves (Foot.execPllLineLock.at []) s (execPllLineLock ofs s) := by
  unfold execPllLineLock
  refine OutMoves.next ?_
  refine Moves.seq ?_ (State.lineLocked_moves ..) (Foot.sub0 (by decide +kernel))
  exact Moves.refl _

theorem execReleaseWrite_moves (q : Requester) (v : Word) (s : State) :
    OutMoves (Foot.execReleaseWrite.at []) s (execReleaseWrite q v s) := by
  unfold execReleaseWrite
  refine OutMoves.next ?_
  refine State.carry_moves ?_ (Foot.sub_at (by decide +kernel) (Foot.own_cons (Foot.holds_reg (by decide +kernel)) (Foot.own_cons (Foot.holds_reg (by decide +kernel)) Foot.own_nil))) (fun x1 h1 => ?_)
  · exact Moves.refl _
  · refine Moves.seq ?_ (State.releaseWrite_moves ..) (Foot.sub0 (by decide +kernel))
    exact h1

theorem execSrcWrite_moves (q : Requester) (isl : Nat) (v : Word) (s : State) :
    OutMoves (Foot.execSrcWrite.at [one (R.PG_LOCK (pageOf (R.SYS_CLK_ISL (isl % 17)))), one (R.PG_EVT_RAW (pageOf (R.SYS_CLK_ISL (isl
      % 17)))), one (R.SYS_CLK_ISL (isl % 17))]) s (execSrcWrite q isl v s) := by
  unfold execSrcWrite
  refine OutMoves.next ?_
  refine State.carry_moves ?_ (Foot.sub_at (by decide +kernel) (Foot.own_cons (Foot.holds_same (.head _)) (Foot.own_cons (Foot.holds_same (.tail _ (.head _))) Foot.own_nil))) (fun x1 h1 => ?_)
  · exact Moves.refl _
  · refine Moves.seq ?_ (State.srcWrite_moves ..) (Foot.sub_at (by decide +kernel) (Foot.own_cons (Foot.holds_same (.tail _ (.head _))) (Foot.own_cons (Foot.holds_same (.tail _ (.tail _ (.head _)))) Foot.own_nil)))
    exact h1

theorem execSwitchDone_moves (isl : Nat) (s : State) :
    OutMoves (Foot.execSwitchDone.at [one (R.SYS_CLK_ISL isl)]) s (execSwitchDone isl s) := by
  unfold execSwitchDone
  refine OutMoves.next ?_
  refine Moves.seq ?_ (State.switchDone_moves ..) (Foot.sub1 (by decide +kernel) (Foot.holds_same (.head _)))
  exact Moves.refl _

theorem execForced_moves (isl : Nat) (s : State) : OutMoves (Foot.execForced.at []) s (execForced isl s) := by
  unfold execForced
  refine OutMoves.next ?_
  refine Moves.seq ?_ (State.forcedSwitch_moves ..) (Foot.sub0 (by decide +kernel))
  exact Moves.refl _

theorem execXdrop_moves (isl : Nat) (count : Nat) (s : State) : OutMoves (Foot.execXdrop.at []) s (execXdrop isl count s) := by
  unfold execXdrop
  refine OutMoves.next ?_
  refine Moves.seq ?_ (State.xdrop_moves ..) (Foot.sub0 (by decide +kernel))
  exact Moves.refl _

theorem execClockGateRequest_moves (q : Requester) (pg : Nat) (v : Word) (s : State) :
    OutMoves (Foot.execClockGateRequest.at []) s (execClockGateRequest q pg v s) := by
  unfold execClockGateRequest
  refine OutMoves.next ?_
  refine State.carry_moves ?_ (Foot.sub_at (by decide +kernel) (Foot.own_cons (Foot.holds_all (by decide +kernel)) (Foot.own_cons (Foot.holds_all (by decide +kernel)) Foot.own_nil))) (fun x1 h1 => ?_)
  · exact Moves.refl _
  · refine Moves.seq ?_ (State.ctrlWrite_moves ..) (Foot.sub0 (by decide +kernel))
    exact h1

theorem execGated_moves (pg : Nat) (s : State) : OutMoves (Foot.execGated.at [one (R.PG_STAT (pageOf pg))]) s (execGated pg s) := by
  unfold execGated
  refine OutMoves.next ?_
  refine Moves.seq ?_ (State.gated_moves ..) (Foot.sub1 (by decide +kernel) (Foot.holds_same (.head _)))
  exact Moves.refl _

theorem execGateRefused_moves (pg : Nat) (s : State) :
    OutMoves (Foot.execGateRefused.at [one (R.PG_EVT_RAW (pageOf pg)), one (R.PG_CTRL (pageOf pg))]) s (execGateRefused pg s) := by
  unfold execGateRefused
  refine OutMoves.next ?_
  refine Moves.seq ?_ (State.gateRefused_moves ..) (Foot.sub_at (by decide +kernel) (Foot.own_cons (Foot.holds_same (.head _)) (Foot.own_cons (Foot.holds_same (.tail _ (.head _))) Foot.own_nil)))
  exact Moves.refl _

theorem execClockGateOpen_moves (q : Requester) (pg : Nat) (v : Word) (s : State) :
    OutMoves (Foot.execClockGateOpen.at []) s (execClockGateOpen q pg v s) := by
  unfold execClockGateOpen
  refine OutMoves.next ?_
  refine State.carry_moves ?_ (Foot.sub_at (by decide +kernel) (Foot.own_cons (Foot.holds_all (by decide +kernel)) (Foot.own_cons (Foot.holds_all (by decide +kernel)) Foot.own_nil))) (fun x1 h1 => ?_)
  · exact Moves.refl _
  · refine Moves.seq ?_ (State.ctrlWrite_moves ..) (Foot.sub0 (by decide +kernel))
    exact h1

theorem execGatedAccess_moves (q : Requester) (off : Nat) (write : Bool) (v : Word) (s : State) :
    OutMoves (Foot.execGatedAccess.at []) s (execGatedAccess q off write v s) := by
  unfold execGatedAccess
  refine OutMoves.next ?_
  refine Moves.ite (fun hc => ?_) (fun hc => ?_)
  · refine Moves.seq ?_ (State.writeAny_moves ..) (Foot.sub0 (by decide +kernel))
    exact Moves.refl _
  · refine Moves.seq ?_ (State.readAny_moves ..) (Foot.sub1 (by decide +kernel) (Foot.holds_all (by decide +kernel)))
    exact Moves.refl _

theorem execDvfsRequest_moves (q : Requester) (f : Nat) (v : Word) (s : State) :
    OutMoves (Foot.execDvfsRequest.at [one (R.PG_LOCK (pageOf (R.SYS_PWR_DVFS (f % 3)))), one (R.PG_EVT_RAW (pageOf (R.SYS_PWR_DVFS (f
      % 3)))), one (R.SYS_PWR_DVFS (f % 3)), one (R.SYS_PWR_DVFSSTAT (f % 3))]) s (execDvfsRequest q f v s) := by
  unfold execDvfsRequest
  refine OutMoves.next ?_
  refine State.carry_moves ?_ (Foot.sub_at (by decide +kernel) (Foot.own_cons (Foot.holds_same (.head _)) (Foot.own_cons (Foot.holds_same (.tail _ (.head _))) Foot.own_nil))) (fun x1 h1 => ?_)
  · exact Moves.refl _
  · refine Moves.seq ?_ (State.dvfsWrite_moves ..) (Foot.sub_at (by decide +kernel) (Foot.own_cons (Foot.holds_same (.tail _ (.head _))) (Foot.own_cons (Foot.holds_same (.tail _ (.tail _ (.head _)))) (Foot.own_cons (Foot.holds_same (.tail _ (.tail _ (.tail _ (.head _))))) Foot.own_nil))))
    exact h1

theorem execDvfsFreqStep_moves (f : Nat) (s : State) :
    OutMoves (Foot.execDvfsFreqStep.at [one (R.SYS_PWR_DVFSSTAT (f % 3))]) s (execDvfsFreqStep f s) := by
  unfold execDvfsFreqStep
  refine OutMoves.next ?_
  refine Moves.seq ?_ (State.dvfsFreq_moves ..) (Foot.sub1 (by decide +kernel) (Foot.holds_same (.head _)))
  exact Moves.refl _

theorem execDvfsDone_moves (f : Nat) (s : State) :
    OutMoves (Foot.execDvfsDone.at [one (R.SYS_PWR_DVFSSTAT (f % 3))]) s (execDvfsDone f s) := by
  unfold execDvfsDone
  refine OutMoves.next ?_
  refine Moves.seq ?_ (State.dvfsDone_moves ..) (Foot.sub1 (by decide +kernel) (Foot.holds_same (.head _)))
  exact Moves.refl _

theorem execPowerCmd_moves (q : Requester) (off : Nat) (v : Word) (s : State) :
    OutMoves (Foot.execPowerCmd.at []) s (execPowerCmd q off v s) := by
  unfold execPowerCmd
  refine OutMoves.next ?_
  refine Moves.ite (fun hc => ?_) (fun hc => ?_)
  · refine State.carry_moves ?_ (Foot.sub_at (by decide +kernel) (Foot.own_cons (Foot.holds_all (by decide +kernel)) (Foot.own_cons (Foot.holds_all (by decide +kernel)) Foot.own_nil))) (fun x1 h1 => ?_)
    · exact Moves.refl _
    · refine Moves.seq ?_ (State.pwrCmdWrite_moves ..) (Foot.sub_at (by decide +kernel) (Foot.own_cons (Foot.holds_all (by decide +kernel)) (Foot.own_cons (Foot.holds_all (by decide +kernel)) (Foot.own_cons (Foot.holds_all (by decide +kernel)) Foot.own_nil))))
      exact h1
  · refine State.carry_moves ?_ (Foot.sub_at (by decide +kernel) (Foot.own_cons (Foot.holds_all (by decide +kernel)) (Foot.own_cons (Foot.holds_all (by decide +kernel)) Foot.own_nil))) (fun x2 h2 => ?_)
    · exact Moves.refl _
    · refine Moves.seq ?_ (State.ctrlWrite_moves ..) (Foot.sub0 (by decide +kernel))
      exact h2

theorem execIslandPowerDown_moves (isl : Nat) (step : Nat) (s : State) :
    OutMoves (Foot.execIslandPowerDown.at [one (R.SYS_PWR_SEQ isl), one (R.SYS_CLK_ISL isl),
      (65536 * isl, 65536 * isl + 65535)]) s (execIslandPowerDown isl step s) := by
  unfold execIslandPowerDown
  refine OutMoves.next ?_
  refine Moves.seq ?_ (State.powerDownStep_moves ..) (Foot.sub_at (by decide +kernel) (Foot.own_cons (Foot.holds_same (.head _)) (Foot.own_cons (Foot.holds_same (.tail _ (.head _))) (Foot.own_cons (Foot.holds_same (.tail _ (.tail _ (.head _)))) Foot.own_nil))))
  exact Moves.refl _

theorem execIslandPowerDownDone_moves (isl : Nat) (s : State) :
    OutMoves (Foot.execIslandPowerDownDone.at []) s (execIslandPowerDownDone isl s) := by
  unfold execIslandPowerDownDone
  refine OutMoves.next ?_
  refine Moves.seq ?_ (State.powerDownDone_moves ..) (Foot.sub0 (by decide +kernel))
  exact Moves.refl _

theorem execIslandPowerUpStart_moves (isl : Nat) (step : Nat) (s : State) :
    OutMoves (Foot.execIslandPowerUpStart.at [one (R.SYS_PWR_SEQ isl)]) s (execIslandPowerUpStart isl step s) := by
  unfold execIslandPowerUpStart
  refine OutMoves.next ?_
  refine Moves.seq ?_ (State.powerUpStep_moves ..) (Foot.sub1 (by decide +kernel) (Foot.holds_same (.head _)))
  exact Moves.refl _

theorem execIslandPowerUpDone_moves (isl : Nat) (s : State) :
    OutMoves (Foot.execIslandPowerUpDone.at []) s (execIslandPowerUpDone isl s) := by
  unfold execIslandPowerUpDone
  refine OutMoves.next ?_
  refine Moves.seq ?_ (State.powerUpDone_moves ..) (Foot.sub0 (by decide +kernel))
  exact Moves.refl _

theorem execColdStart_moves (s : State) : OutMoves (Foot.execColdStart.at []) s (execColdStart s) := by
  unfold execColdStart
  refine OutMoves.next ?_
  refine Moves.seq ?_ (State.coldStart_moves ..) (Foot.sub0 (by decide +kernel))
  exact Moves.refl _

theorem execSupplyStart_moves (s : State) : OutMoves (Foot.execSupplyStart.at []) s (execSupplyStart s) := by
  unfold execSupplyStart
  refine OutMoves.next ?_
  refine Moves.seq ?_ (State.supplyStart_moves ..) (Foot.sub0 (by decide +kernel))
  exact Moves.refl _

theorem execSupplyLoss_moves (s : State) : OutMoves (Foot.execSupplyLoss.at []) s (execSupplyLoss s) := by
  unfold execSupplyLoss
  refine OutMoves.next ?_
  refine Moves.seq ?_ (State.supplyLoss_moves ..) (Foot.sub0 (by decide +kernel))
  exact Moves.refl _

theorem execPowerOnResetRelease_moves (tpos : Bool) (s : State) :
    OutMoves (Foot.execPowerOnResetRelease.at []) s (execPowerOnResetRelease tpos s) := by
  unfold execPowerOnResetRelease
  refine OutMoves.next ?_
  refine Moves.seq ?_ (State.powerOnRelease_moves ..) (Foot.sub0 (by decide +kernel))
  exact Moves.refl _

theorem execNresetIn_moves (s : State) : OutMoves (Foot.execNresetIn.at []) s (execNresetIn s) := by
  unfold execNresetIn
  refine OutMoves.next ?_
  refine Moves.seq ?_ (State.nresetIn_moves ..) (Foot.sub0 (by decide +kernel))
  exact Moves.refl _

theorem execThermalReset_moves (s : State) : OutMoves (Foot.execThermalReset.at []) s (execThermalReset s) := by
  unfold execThermalReset
  refine OutMoves.next ?_
  refine Moves.seq ?_ (State.thermalReset_moves ..) (Foot.sub0 (by decide +kernel))
  exact Moves.refl _

theorem execRailFault_moves (s : State) : OutMoves (Foot.execRailFault.at []) s (execRailFault s) := by
  unfold execRailFault
  refine OutMoves.next ?_
  refine Moves.seq ?_ (State.moduleReset_moves ..) (Foot.sub0 (by decide +kernel))
  exact Moves.refl _

theorem execSoftwareReset_moves (q : Requester) (v : Word) (s : State) :
    OutMoves (Foot.execSoftwareReset.at []) s (execSoftwareReset q v s) := by
  unfold execSoftwareReset
  refine OutMoves.next ?_
  refine State.carry_moves ?_ (Foot.sub_at (by decide +kernel) (Foot.own_cons (Foot.holds_all (by decide +kernel)) (Foot.own_cons (Foot.holds_all (by decide +kernel)) Foot.own_nil))) (fun x1 h1 => ?_)
  · exact Moves.refl _
  · refine Moves.seq ?_ (State.rstCmd_moves ..) (Foot.sub0 (by decide +kernel))
    exact h1

theorem execClrSafe_moves (q : Requester) (v : Word) (s : State) : OutMoves (Foot.execClrSafe.at []) s (execClrSafe q v s) := by
  unfold execClrSafe
  refine OutMoves.next ?_
  refine State.carry_moves ?_ (Foot.sub_at (by decide +kernel) (Foot.own_cons (Foot.holds_all (by decide +kernel)) (Foot.own_cons (Foot.holds_all (by decide +kernel)) Foot.own_nil))) (fun x1 h1 => ?_)
  · exact Moves.refl _
  · refine Moves.seq ?_ (State.rstCmd_moves ..) (Foot.sub0 (by decide +kernel))
    exact h1

theorem execModuleResetWindowSlide_moves (s : State) :
    OutMoves (Foot.execModuleResetWindowSlide.at []) s (execModuleResetWindowSlide s) := by
  unfold execModuleResetWindowSlide
  refine OutMoves.next ?_
  refine Moves.seq ?_ (State.put_moves _ _ _ (by decide)) (Foot.sub1 (by decide +kernel) (Foot.holds_reg (by decide +kernel)))
  exact Moves.refl _

theorem execStrapChg_moves (pin : Bool) (s : State) : OutMoves (Foot.execStrapChg.at []) s (execStrapChg pin s) := by
  unfold execStrapChg
  refine OutMoves.next ?_
  refine Moves.seq ?_ (State.strapChg_moves ..) (Foot.sub0 (by decide +kernel))
  exact Moves.refl _

theorem execBoot_moves (ue : List Nat) (s : State) : OutMoves (Foot.execBoot.at []) s (execBoot ue s) := by
  unfold execBoot
  refine OutMoves.next ?_
  refine Moves.seq ?_ (State.boot_moves ..) (Foot.sub0 (by decide +kernel))
  exact Moves.refl _

theorem execConfigApply_moves (ue : List Nat) (s : State) : OutMoves (Foot.execConfigApply.at []) s (execConfigApply ue s) := by
  unfold execConfigApply
  refine OutMoves.next ?_
  refine Moves.seq ?_ (State.configApply_moves ..) (Foot.sub0 (by decide +kernel))
  exact Moves.refl _

theorem execLockstep_moves (ue : Bool) (s : State) : OutMoves (Foot.execLockstep.at []) s (execLockstep ue s) := by
  unfold execLockstep
  refine OutMoves.next ?_
  refine Moves.seq ?_ (State.mgtFault_moves ..) (Foot.sub0 (by decide +kernel))
  exact Moves.refl _

theorem execWdt_moves (s : State) : OutMoves (Foot.execWdt.at []) s (execWdt s) := by
  unfold execWdt
  refine OutMoves.next ?_
  refine Moves.seq ?_ (State.watchdog_moves ..) (Foot.sub0 (by decide +kernel))
  exact Moves.refl _

end Sys2Proof.Machine
end

