-- ==== Sys2Proof/Laws/FootC20.lean ====
section
/-!
SUPPORT. What the commands may touch: one footprint and one lemma each.
-/

namespace Sys2Proof.Machine

set_option Elab.async false

theorem execKick_moves (q : Requester) (v : Word) (s : State) : OutMoves (Foot.execKick.at []) s (execKick q v s) := by
  unfold execKick
  refine OutMoves.next ?_
  refine State.carry_moves ?_ (Foot.sub_at (by decide +kernel) (Foot.own_cons (Foot.holds_reg (by decide +kernel)) (Foot.own_cons (Foot.holds_reg (by decide +kernel)) Foot.own_nil))) (fun x1 h1 => ?_)
  · exact Moves.refl _
  · refine Moves.seq ?_ (State.wdtWrite_moves ..) (Foot.sub0 (by decide +kernel))
    exact h1

theorem execMgtRestart_moves (q : Requester) (v : Word) (s : State) :
    OutMoves (Foot.execMgtRestart.at []) s (execMgtRestart q v s) := by
  unfold execMgtRestart
  refine OutMoves.next ?_
  refine State.carry_moves ?_ (Foot.sub_at (by decide +kernel) (Foot.own_cons (Foot.holds_reg (by decide +kernel)) (Foot.own_cons (Foot.holds_reg (by decide +kernel)) Foot.own_nil))) (fun x1 h1 => ?_)
  · exact Moves.refl _
  · refine Moves.seq ?_ (State.mgtCmd_moves ..) (Foot.sub0 (by decide +kernel))
    exact h1

theorem execMboxPush_moves (q : Requester) (v : Word) (s : State) : OutMoves (Foot.execMboxPush.at []) s (execMboxPush q v s) := by
  unfold execMboxPush
  refine OutMoves.next ?_
  refine State.carry_moves ?_ (Foot.sub_at (by decide +kernel) (Foot.own_cons (Foot.holds_reg (by decide +kernel)) (Foot.own_cons (Foot.holds_reg (by decide +kernel)) Foot.own_nil))) (fun x1 h1 => ?_)
  · exact Moves.refl _
  · refine Moves.seq ?_ (State.mboxCmd_moves ..) (Foot.sub0 (by decide +kernel))
    exact h1

theorem execEcho_moves (s : State) : OutMoves (Foot.execEcho.at []) s (execEcho s) := by
  unfold execEcho
  refine OutMoves.next ?_
  refine State.serve_moves ?_ (Foot.sub0 (by decide +kernel)) (fun x1 _ h1 => ?_)
  · exact Moves.refl _
  · refine Moves.seq ?_ (State.answer_moves ..) (Foot.sub0 (by decide +kernel))
    exact h1

theorem execVersion_moves (s : State) : OutMoves (Foot.execVersion.at []) s (execVersion s) := by
  unfold execVersion
  refine OutMoves.next ?_
  refine State.serve_moves ?_ (Foot.sub0 (by decide +kernel)) (fun x1 _ h1 => ?_)
  · exact Moves.refl _
  · refine Moves.seq ?_ (State.mboxVersion_moves ..) (Foot.sub0 (by decide +kernel))
    exact h1

theorem execGovStatus_moves (s : State) : OutMoves (Foot.execGovStatus.at []) s (execGovStatus s) := by
  unfold execGovStatus
  refine OutMoves.next ?_
  refine State.serve_moves ?_ (Foot.sub0 (by decide +kernel)) (fun x1 _ h1 => ?_)
  · exact Moves.refl _
  · refine Moves.seq ?_ (State.govStatus_moves ..) (Foot.sub0 (by decide +kernel))
    exact h1

theorem execImgBegin_moves (s : State) : OutMoves (Foot.execImgBegin.at []) s (execImgBegin s) := by
  unfold execImgBegin
  refine OutMoves.next ?_
  refine State.serve_moves ?_ (Foot.sub0 (by decide +kernel)) (fun x1 _ h1 => ?_)
  · exact Moves.refl _
  · refine Moves.seq ?_ (State.imgBegin_moves ..) (Foot.sub_at (by decide +kernel) (Foot.own_cons (Foot.holds_two 860236 860228 (by decide +kernel) (by decide +kernel) (by first | omega | (dsimp only; omega))) (Foot.own_cons (Foot.holds_two 860232 860224 (by decide +kernel) (by decide +kernel) (by first | omega | (dsimp only; omega))) Foot.own_nil)))
    exact h1

theorem execImgWrite_moves (s : State) : OutMoves (Foot.execImgWrite.at []) s (execImgWrite s) := by
  unfold execImgWrite
  refine OutMoves.next ?_
  refine State.serve_moves ?_ (Foot.sub0 (by decide +kernel)) (fun x1 _ h1 => ?_)
  · exact Moves.refl _
  · refine Moves.seq ?_ (State.imgWrite'_moves ..) (Foot.sub0 (by decide +kernel))
    exact h1

theorem execImgEnd_moves (ue : Bool) (s : State) : OutMoves (Foot.execImgEnd.at []) s (execImgEnd ue s) := by
  unfold execImgEnd
  refine OutMoves.next ?_
  refine State.serve_moves ?_ (Foot.sub0 (by decide +kernel)) (fun x1 _ h1 => ?_)
  · exact Moves.refl _
  · refine Moves.seq ?_ (State.imgEnd_moves ..) (Foot.sub0 (by decide +kernel))
    exact h1

theorem execImgInfo_moves (s : State) : OutMoves (Foot.execImgInfo.at []) s (execImgInfo s) := by
  unfold execImgInfo
  refine OutMoves.next ?_
  refine State.serve_moves ?_ (Foot.sub0 (by decide +kernel)) (fun x1 _ h1 => ?_)
  · exact Moves.refl _
  · refine Moves.seq ?_ (State.imgInfo_moves ..) (Foot.sub0 (by decide +kernel))
    exact h1

theorem execImgActivate_moves (s : State) : OutMoves (Foot.execImgActivate.at []) s (execImgActivate s) := by
  unfold execImgActivate
  refine OutMoves.next ?_
  refine State.serve_moves ?_ (Foot.sub0 (by decide +kernel)) (fun x1 _ h1 => ?_)
  · exact Moves.refl _
  · refine Moves.seq ?_ (State.imgActivate_moves ..) (Foot.sub0 (by decide +kernel))
    exact h1

theorem execImgConfirm_moves (s : State) : OutMoves (Foot.execImgConfirm.at []) s (execImgConfirm s) := by
  unfold execImgConfirm
  refine OutMoves.next ?_
  refine State.serve_moves ?_ (Foot.sub0 (by decide +kernel)) (fun x1 _ h1 => ?_)
  · exact Moves.refl _
  · refine Moves.seq ?_ (State.imgConfirm_moves ..) (Foot.sub0 (by decide +kernel))
    exact h1

theorem execSvnCommit_moves (s : State) : OutMoves (Foot.execSvnCommit.at []) s (execSvnCommit s) := by
  unfold execSvnCommit
  refine OutMoves.next ?_
  refine State.serve_moves ?_ (Foot.sub0 (by decide +kernel)) (fun x1 _ h1 => ?_)
  · exact Moves.refl _
  · refine Moves.seq ?_ (State.svnCommit_moves ..) (Foot.sub0 (by decide +kernel))
    exact h1

theorem execOwnerKey_moves (s : State) : OutMoves (Foot.execOwnerKey.at []) s (execOwnerKey s) := by
  unfold execOwnerKey
  refine OutMoves.next ?_
  refine State.serve_moves ?_ (Foot.sub0 (by decide +kernel)) (fun x1 _ h1 => ?_)
  · exact Moves.refl _
  · refine Moves.seq ?_ (State.ownerKey_moves ..) (Foot.sub0 (by decide +kernel))
    exact h1

theorem execPolicyLoad_moves (s : State) : OutMoves (Foot.execPolicyLoad.at []) s (execPolicyLoad s) := by
  unfold execPolicyLoad
  refine OutMoves.next ?_
  refine State.serve_moves ?_ (Foot.sub0 (by decide +kernel)) (fun x1 _ h1 => ?_)
  · exact Moves.refl _
  · refine Moves.seq ?_ (State.policyLoad_moves ..) (Foot.sub0 (by decide +kernel))
    exact h1

theorem execPolicyRead_moves (s : State) : OutMoves (Foot.execPolicyRead.at []) s (execPolicyRead s) := by
  unfold execPolicyRead
  refine OutMoves.next ?_
  refine State.serve_moves ?_ (Foot.sub0 (by decide +kernel)) (fun x1 _ h1 => ?_)
  · exact Moves.refl _
  · refine Moves.seq ?_ (State.policyRead_moves ..) (Foot.sub0 (by decide +kernel))
    exact h1

theorem execPop_moves (q : Requester) (v : Word) (s : State) : OutMoves (Foot.execPop.at []) s (execPop q v s) := by
  unfold execPop
  refine OutMoves.next ?_
  refine State.carry_moves ?_ (Foot.sub_at (by decide +kernel) (Foot.own_cons (Foot.holds_reg (by decide +kernel)) (Foot.own_cons (Foot.holds_reg (by decide +kernel)) Foot.own_nil))) (fun x1 h1 => ?_)
  · exact Moves.refl _
  · refine Moves.seq ?_ (State.mboxPop_moves ..) (Foot.sub0 (by decide +kernel))
    exact h1

theorem execRemoteManagementRx_moves (f : NFrame) (s : State) :
    OutMoves (Foot.execRemoteManagementRx.at []) s (execRemoteManagementRx f s) := by
  unfold execRemoteManagementRx
  refine OutMoves.next ?_
  refine Moves.seq ?_ (State.remoteRx_moves ..) (Foot.sub0 (by decide +kernel))
  exact Moves.refl _

theorem execGovWindowEnd_moves (load : Nat) (s : State) : OutMoves (Foot.execGovWindowEnd.at []) s (execGovWindowEnd load s) := by
  unfold execGovWindowEnd
  refine OutMoves.next ?_
  refine Moves.seq ?_ (State.govWindow_moves ..) (Foot.sub0 (by decide +kernel))
  exact Moves.refl _

theorem execRecEventStamp_moves (s : State) : OutMoves (Foot.execRecEventStamp.at []) s (execRecEventStamp s) := by
  unfold execRecEventStamp
  refine OutMoves.next ?_
  refine Moves.seq ?_ (State.recEventStamp_moves ..) (Foot.sub0 (by decide +kernel))
  exact Moves.refl _

theorem execRecCommit_moves (s : State) : OutMoves (Foot.execRecCommit.at []) s (execRecCommit s) := by
  unfold execRecCommit
  refine OutMoves.next ?_
  refine Moves.seq ?_ (State.recCommit_moves ..) (Foot.sub0 (by decide +kernel))
  exact Moves.refl _

theorem execCoalClose_moves (s : State) : OutMoves (Foot.execCoalClose.at []) s (execCoalClose s) := by
  unfold execCoalClose
  refine OutMoves.next ?_
  split
  · refine Moves.ite (fun hc => ?_) (fun hc => ?_)
    · refine Moves.seq ?_ (State.coalClose_moves ..) (Foot.sub0 (by decide +kernel))
      exact Moves.refl _
    · exact Moves.refl _
  · exact Moves.refl _

theorem execLoss_moves (s : State) : OutMoves (Foot.execLoss.at []) s (execLoss s) := by
  unfold execLoss
  refine OutMoves.next ?_
  refine Moves.seq ?_ (State.recLoss_moves ..) (Foot.sub0 (by decide +kernel))
  exact Moves.refl _

theorem execRecPost_moves (q : Requester) (v : Word) (s : State) : OutMoves (Foot.execRecPost.at []) s (execRecPost q v s) := by
  unfold execRecPost
  refine OutMoves.next ?_
  refine State.carry_moves ?_ (Foot.sub_at (by decide +kernel) (Foot.own_cons (Foot.holds_reg (by decide +kernel)) (Foot.own_cons (Foot.holds_reg (by decide +kernel)) Foot.own_nil))) (fun x1 h1 => ?_)
  · exact Moves.refl _
  · refine Moves.seq ?_ (State.recPost_moves ..) (Foot.sub0 (by decide +kernel))
    exact h1

theorem execClear_moves (q : Requester) (v : Word) (s : State) : OutMoves (Foot.execClear.at []) s (execClear q v s) := by
  unfold execClear
  refine OutMoves.next ?_
  refine State.carry_moves ?_ (Foot.sub_at (by decide +kernel) (Foot.own_cons (Foot.holds_reg (by decide +kernel)) (Foot.own_cons (Foot.holds_reg (by decide +kernel)) Foot.own_nil))) (fun x1 h1 => ?_)
  · exact Moves.refl _
  · refine Moves.seq ?_ (State.recCmd_moves ..) (Foot.sub0 (by decide +kernel))
    exact h1

theorem execRecPortPop_moves (q : Requester) (ue : Bool) (s : State) :
    OutMoves (Foot.execRecPortPop.at []) s (execRecPortPop q ue s) := by
  unfold execRecPortPop
  refine OutMoves.next ?_
  refine State.carryRead_moves (Moves.refl _) (Foot.sub1 (by decide +kernel) (Foot.holds_reg (by decide +kernel))) ?_
  exact fun x h => Moves.seq h (State.recPop_moves q ue x) (Foot.sub0 (by decide +kernel))

theorem execRecPortCurWrite_moves (q : Requester) (v : Word) (s : State) :
    OutMoves (Foot.execRecPortCurWrite.at []) s (execRecPortCurWrite q v s) := by
  unfold execRecPortCurWrite
  refine OutMoves.next ?_
  refine State.carry_moves ?_ (Foot.sub_at (by decide +kernel) (Foot.own_cons (Foot.holds_reg (by decide +kernel)) (Foot.own_cons (Foot.holds_reg (by decide +kernel)) Foot.own_nil))) (fun x1 h1 => ?_)
  · exact Moves.refl _
  · refine Moves.seq ?_ (State.setCur_moves ..) (Foot.sub0 (by decide +kernel))
    exact h1

theorem execStopWrite_moves (q : Requester) (v : Word) (s : State) :
    OutMoves (Foot.execStopWrite.at []) s (execStopWrite q v s) := by
  unfold execStopWrite
  refine OutMoves.next ?_
  refine State.carry_moves ?_ (Foot.sub_at (by decide +kernel) (Foot.own_cons (Foot.holds_reg (by decide +kernel)) (Foot.own_cons (Foot.holds_reg (by decide +kernel)) Foot.own_nil))) (fun x1 h1 => ?_)
  · exact Moves.refl _
  · refine Moves.seq ?_ (State.recCfg_moves ..) (Foot.sub0 (by decide +kernel))
    exact h1

theorem execRecSrst_moves (q : Requester) (pg : Nat) (v : Word) (s : State) :
    OutMoves (Foot.execRecSrst.at []) s (execRecSrst q pg v s) := by
  unfold execRecSrst
  refine OutMoves.next ?_
  extract_lets -merge -underBinder +onlyGivenNames x1
  subst x1
  refine State.carry_moves ?_ (Foot.sub_at (by decide +kernel) (Foot.own_cons (Foot.holds_all (by decide +kernel)) (Foot.own_cons (Foot.holds_all (by decide +kernel)) Foot.own_nil))) (fun x2 h2 => ?_)
  · exact Moves.refl _
  · refine Moves.seq ?_ (State.ctrlWrite_moves ..) (Foot.sub0 (by decide +kernel))
    exact h2

theorem execStreamEnable_moves (q : Requester) (v : Word) (s : State) :
    OutMoves (Foot.execStreamEnable.at []) s (execStreamEnable q v s) := by
  unfold execStreamEnable
  refine OutMoves.next ?_
  refine State.carry_moves ?_ (Foot.sub_at (by decide +kernel) (Foot.own_cons (Foot.holds_reg (by decide +kernel)) (Foot.own_cons (Foot.holds_reg (by decide +kernel)) Foot.own_nil))) (fun x1 h1 => ?_)
  · exact Moves.refl _
  · refine Moves.seq ?_ (State.strmCfg_moves ..) (Foot.sub0 (by decide +kernel))
    exact h1

theorem execStrm_moves (s : State) : OutMoves (Foot.execStrm.at []) s (execStrm s) := by
  unfold execStrm
  refine OutMoves.next ?_
  refine Moves.seq ?_ (State.strm_moves ..) (Foot.sub0 (by decide +kernel))
  exact Moves.refl _

theorem execStreamGetWrite_moves (q : Requester) (v : Word) (s : State) :
    OutMoves (Foot.execStreamGetWrite.at []) s (execStreamGetWrite q v s) := by
  unfold execStreamGetWrite
  refine OutMoves.next ?_
  refine State.carry_moves ?_ (Foot.sub_at (by decide +kernel) (Foot.own_cons (Foot.holds_reg (by decide +kernel)) (Foot.own_cons (Foot.holds_reg (by decide +kernel)) Foot.own_nil))) (fun x1 h1 => ?_)
  · exact Moves.refl _
  · refine Moves.seq ?_ (State.strmGet_moves ..) (Foot.sub0 (by decide +kernel))
    exact h1

theorem execEccEvent_moves (pg : Nat) (mem : Nat) (row : Nat) (group : Nat) (ue : Bool) (s : State) :
    OutMoves (Foot.execEccEvent.at [one (R.HLT_CTRL_ISL (memIsland mem)), one (R.PG_EVT_RAW (eccPage (pageOf pg))), one (R.PG_ERR
      (eccPage (pageOf pg)))]) s (execEccEvent pg mem row group ue s) := by
  unfold execEccEvent
  refine OutMoves.next ?_
  refine Moves.seq ?_ (State.eccEvent_moves ..) (Foot.sub_at (by decide +kernel) (Foot.own_cons (Foot.holds_same (.head _)) (Foot.own_cons (Foot.holds_same (.tail _ (.head _))) (Foot.own_cons (Foot.holds_same (.tail _ (.tail _ (.head _)))) Foot.own_nil))))
  exact Moves.refl _

theorem execCeHourEnd_moves (s : State) : OutMoves (Foot.execCeHourEnd.at []) s (execCeHourEnd s) := by
  unfold execCeHourEnd
  refine OutMoves.next ?_
  refine Moves.seq ?_ (State.ceHourEnd_moves ..) (Foot.sub0 (by decide +kernel))
  exact Moves.refl _

theorem execSensorAlarm_moves (k : SensorAlarm) (s : State) : OutMoves (Foot.execSensorAlarm.at []) s (execSensorAlarm k s) := by
  unfold execSensorAlarm
  refine OutMoves.next ?_
  refine Moves.seq ?_ (State.sensorAlarm_moves ..) (Foot.sub0 (by decide +kernel))
  exact Moves.refl _

theorem execHealthReasonClearTimer_moves (isl : Nat) (bit : Nat) (item : Nat) (value : Nat) (s : State) :
    OutMoves (Foot.execHealthReasonClearTimer.at [one (R.BL_P_SNR (bportOf item)), one (R.HLT_CTRL_ISL (lineIsland (bportOf
      item).line)), one (R.HLT_SENS_V item), one (R.HLT_CTRL_ISL isl)]) s (execHealthReasonClearTimer isl bit item value s) := by
  unfold execHealthReasonClearTimer
  refine OutMoves.next ?_
  refine Moves.ite (fun hc => ?_) (fun hc => ?_)
  · refine Moves.seq ?_ (State.reasonClear_moves ..) (Foot.sub_at (by decide +kernel) (Foot.own_cons (Foot.holds_same (.head _)) (Foot.own_cons (Foot.holds_same (.tail _ (.head _))) (Foot.own_cons (Foot.holds_same (.tail _ (.tail _ (.head _)))) (Foot.own_cons (Foot.holds_same (.tail _ (.tail _ (.tail _ (.head _))))) Foot.own_nil)))))
    exact Moves.refl _
  · exact Moves.refl _

theorem execFwLevelWrite_moves (q : Requester) (n : Nat) (v : Word) (s : State) :
    OutMoves (Foot.execFwLevelWrite.at [one (R.PG_LOCK (pageOf (R.HLT_CTRL_ISL (n % 17)))), one (R.PG_EVT_RAW (pageOf (R.HLT_CTRL_ISL
      (n % 17)))), one (R.HLT_CTRL_ISL (n % 17))]) s (execFwLevelWrite q n v s) := by
  unfold execFwLevelWrite
  refine OutMoves.next ?_
  refine State.carry_moves ?_ (Foot.sub_at (by decide +kernel) (Foot.own_cons (Foot.holds_same (.head _)) (Foot.own_cons (Foot.holds_same (.tail _ (.head _))) Foot.own_nil))) (fun x1 h1 => ?_)
  · exact Moves.refl _
  · refine Moves.seq ?_ (State.fwLevelWrite_moves ..) (Foot.sub_at (by decide +kernel) (Foot.own_cons (Foot.holds_same (.tail _ (.head _))) (Foot.own_cons (Foot.holds_same (.tail _ (.tail _ (.head _)))) Foot.own_nil)))
    exact h1

theorem execBankTest_moves (q : Requester) (v : Word) (s : State) : OutMoves (Foot.execBankTest.at []) s (execBankTest q v s) := by
  unfold execBankTest
  refine OutMoves.next ?_
  refine State.carry_moves ?_ (Foot.sub_at (by decide +kernel) (Foot.own_cons (Foot.holds_all (by decide +kernel)) (Foot.own_cons (Foot.holds_all (by decide +kernel)) Foot.own_nil))) (fun x1 h1 => ?_)
  · exact Moves.refl _
  · refine Moves.seq ?_ (State.bistCmd_moves ..) (Foot.sub0 (by decide +kernel))
    exact h1

theorem execMbist_moves (q : Requester) (v : Word) (s : State) : OutMoves (Foot.execMbist.at []) s (execMbist q v s) := by
  unfold execMbist
  refine OutMoves.next ?_
  refine State.carry_moves ?_ (Foot.sub_at (by decide +kernel) (Foot.own_cons (Foot.holds_all (by decide +kernel)) (Foot.own_cons (Foot.holds_all (by decide +kernel)) Foot.own_nil))) (fun x1 h1 => ?_)
  · exact Moves.refl _
  · refine Moves.seq ?_ (State.bistCmd_moves ..) (Foot.sub0 (by decide +kernel))
    exact h1

theorem execLbist_moves (q : Requester) (v : Word) (s : State) : OutMoves (Foot.execLbist.at []) s (execLbist q v s) := by
  unfold execLbist
  refine OutMoves.next ?_
  refine State.carry_moves ?_ (Foot.sub_at (by decide +kernel) (Foot.own_cons (Foot.holds_all (by decide +kernel)) (Foot.own_cons (Foot.holds_all (by decide +kernel)) Foot.own_nil))) (fun x1 h1 => ?_)
  · exact Moves.refl _
  · refine Moves.seq ?_ (State.bistCmd_moves ..) (Foot.sub0 (by decide +kernel))
    exact h1

theorem execSession_moves (q : Requester) (v : Word) (s : State) : OutMoves (Foot.execSession.at []) s (execSession q v s) := by
  unfold execSession
  refine OutMoves.next ?_
  refine State.carry_moves ?_ (Foot.sub_at (by decide +kernel) (Foot.own_cons (Foot.holds_all (by decide +kernel)) (Foot.own_cons (Foot.holds_all (by decide +kernel)) Foot.own_nil))) (fun x1 h1 => ?_)
  · exact Moves.refl _
  · refine Moves.seq ?_ (State.bistCmd_moves ..) (Foot.sub0 (by decide +kernel))
    exact h1

theorem execBankDrainTimeout_moves (s : State) : OutMoves (Foot.execBankDrainTimeout.at []) s (execBankDrainTimeout s) := by
  unfold execBankDrainTimeout
  refine OutMoves.next ?_
  refine Moves.seq ?_ (State.drainTimeout_moves ..) (Foot.sub0 (by decide +kernel))
  exact Moves.refl _

theorem execDone_moves (sig : Word) (rounds : List (List FailCell)) (s : State) :
    OutMoves (Foot.execDone.at []) s (execDone sig rounds s) := by
  unfold execDone
  refine OutMoves.next ?_
  refine Moves.seq ?_ (State.unitDone_moves ..) (Foot.sub0 (by decide +kernel))
  exact Moves.refl _

theorem execIslandRestore_moves (isl : Nat) (s : State) : OutMoves (Foot.execIslandRestore.at []) s (execIslandRestore isl s) := by
  unfold execIslandRestore
  refine OutMoves.next ?_
  refine Moves.seq ?_ (State.restored_moves ..) (Foot.sub0 (by decide +kernel))
  exact Moves.refl _

theorem execVerdict_moves (q : Requester) (v : Word) (s : State) : OutMoves (Foot.execVerdict.at []) s (execVerdict q v s) := by
  unfold execVerdict
  refine OutMoves.next ?_
  refine State.carry_moves ?_ (Foot.sub_at (by decide +kernel) (Foot.own_cons (Foot.holds_all (by decide +kernel)) (Foot.own_cons (Foot.holds_all (by decide +kernel)) Foot.own_nil))) (fun x1 h1 => ?_)
  · exact Moves.refl _
  · refine Moves.seq ?_ (State.verdictWrite_moves ..) (Foot.sub0 (by decide +kernel))
    exact h1

theorem execVerdTExpire_moves (s : State) : OutMoves (Foot.execVerdTExpire.at []) s (execVerdTExpire s) := by
  unfold execVerdTExpire
  refine OutMoves.next ?_
  refine Moves.seq ?_ (State.verdictLate_moves ..) (Foot.sub0 (by decide +kernel))
  exact Moves.refl _

theorem execRepairRecordWritten_moves (ok : Bool) (s : State) :
    OutMoves (Foot.execRepairRecordWritten.at []) s (execRepairRecordWritten ok s) := by
  unfold execRepairRecordWritten
  refine OutMoves.next ?_
  refine Moves.seq ?_ (State.recordWritten_moves ..) (Foot.sub0 (by decide +kernel))
  exact Moves.refl _

theorem execIroRecal_moves (dev : Int) (s : State) : OutMoves (Foot.execIroRecal.at []) s (execIroRecal dev s) := by
  unfold execIroRecal
  refine OutMoves.next ?_
  refine Moves.seq ?_ (State.iroRecal_moves ..) (Foot.sub0 (by decide +kernel))
  exact Moves.refl _

theorem execRecal_moves (q : Requester) (v : Word) (dev : Int) (s : State) :
    OutMoves (Foot.execRecal.at []) s (execRecal q v dev s) := by
  unfold execRecal
  refine OutMoves.next ?_
  refine State.carry_moves ?_ (Foot.sub_at (by decide +kernel) (Foot.own_cons (Foot.holds_reg (by decide +kernel)) (Foot.own_cons (Foot.holds_reg (by decide +kernel)) Foot.own_nil))) (fun x1 h1 => ?_)
  · exact Moves.refl _
  · refine Moves.seq ?_ (State.sensCmd_moves ..) (Foot.sub0 (by decide +kernel))
    exact h1

theorem execClrmax_moves (q : Requester) (v : Word) (dev : Int) (s : State) :
    OutMoves (Foot.execClrmax.at []) s (execClrmax q v dev s) := by
  unfold execClrmax
  refine OutMoves.next ?_
  refine State.carry_moves ?_ (Foot.sub_at (by decide +kernel) (Foot.own_cons (Foot.holds_reg (by decide +kernel)) (Foot.own_cons (Foot.holds_reg (by decide +kernel)) Foot.own_nil))) (fun x1 h1 => ?_)
  · exact Moves.refl _
  · refine Moves.seq ?_ (State.sensCmd_moves ..) (Foot.sub0 (by decide +kernel))
    exact h1

theorem execNresetInRelease_moves (s : State) : OutMoves (Foot.execNresetInRelease.at []) s (execNresetInRelease s) := by
  unfold execNresetInRelease
  refine OutMoves.next ?_
  refine Moves.seq ?_ (State.endHold_moves ..) (Foot.sub0 (by decide +kernel))
  refine Moves.seq ?_ (State.modPwr_moves ..) (Foot.sub0 (by decide +kernel))
  exact Moves.refl _

theorem execThermalResetRelease_moves (s : State) : OutMoves (Foot.execThermalResetRelease.at []) s (execThermalResetRelease s) := by
  unfold execThermalResetRelease
  refine OutMoves.next ?_
  refine Moves.seq ?_ (State.endHold_moves ..) (Foot.sub0 (by decide +kernel))
  refine Moves.seq ?_ (State.modPwr_moves ..) (Foot.sub0 (by decide +kernel))
  exact Moves.refl _

theorem execKaOkRise_moves (s : State) : OutMoves (Foot.execKaOkRise.at []) s (execKaOkRise s) := by
  unfold execKaOkRise
  refine OutMoves.next ?_
  refine Moves.seq ?_ (State.kaRise_moves ..) (Foot.sub0 (by decide +kernel))
  exact Moves.refl _

theorem execAlwaysOnSupplyLoss_moves (s : State) : OutMoves (Foot.execAlwaysOnSupplyLoss.at []) s (execAlwaysOnSupplyLoss s) := by
  unfold execAlwaysOnSupplyLoss
  refine OutMoves.next ?_
  refine Moves.seq ?_ (State.aonLoss_moves ..) (Foot.sub0 (by decide +kernel))
  exact Moves.refl _

theorem execSourceGood_moves (src : Nat) (s : State) : OutMoves (Foot.execSourceGood.at []) s (execSourceGood src s) := by
  unfold execSourceGood
  refine OutMoves.next ?_
  refine Moves.seq ?_ (State.sourceGood_moves ..) (Foot.sub0 (by decide +kernel))
  exact Moves.refl _

theorem execCanRxError_moves (n : Nat) (kind : Nat) (dataPhase : Bool) (px : Bool) (exempt : Bool) (more : Nat) (s : State) :
    OutMoves (Foot.execCanRxError.at [one (R.CB_CAN_STAT (n % 16)), one (R.PG_EVT_RAW (P.CB_CAN (n % 16))), one (R.CB_CAN_FCNT (n %
      16)), one (R.CB_CAN_ECNT (n % 16))]) s (execCanRxError n kind dataPhase px exempt more s) := by
  unfold execCanRxError
  refine OutMoves.next ?_
  refine Moves.seq ?_ (State.canRxError_moves ..) (Foot.sub_at (by decide +kernel) (Foot.own_cons (Foot.holds_same (.head _)) (Foot.own_cons (Foot.holds_same (.tail _ (.head _))) (Foot.own_cons (Foot.holds_same (.tail _ (.tail _ (.head _)))) (Foot.own_cons (Foot.holds_same (.tail _ (.tail _ (.tail _ (.head _))))) Foot.own_nil)))))
  exact Moves.refl _

theorem execAer_moves (status : Word) (header : List Byte) (s : State) :
    OutMoves (Foot.execAer.at []) s (execAer status header s) := by
  unfold execAer
  refine OutMoves.next ?_
  refine Moves.seq ?_ (State.aer_moves ..) (Foot.sub0 (by decide +kernel))
  exact Moves.refl _

theorem execWakeInputInactive_moves (input : Nat) (s : State) :
    OutMoves (Foot.execWakeInputInactive.at []) s (execWakeInputInactive input s) := by
  unfold execWakeInputInactive
  refine OutMoves.next ?_
  refine Moves.seq ?_ (State.wakeInputInactive_moves ..) (Foot.sub0 (by decide +kernel))
  exact Moves.refl _

theorem execHandoverWaitEnd_moves (s : State) : OutMoves (Foot.execHandoverWaitEnd.at []) s (execHandoverWaitEnd s) := by
  unfold execHandoverWaitEnd
  refine OutMoves.next ?_
  refine Moves.seq ?_ (State.takeHandover_moves ..) (Foot.sub0 (by decide +kernel))
  exact Moves.refl _

end Sys2Proof.Machine
end

