-- ==== Sys2Proof/Laws/PerInstr.lean ====
section
/-!
SUPPORT. The law of operands, per command: a well-formed command that is one write addresses an aligned register of the register map.
-/

namespace Sys2Proof.Laws.Operands

set_option Elab.async false

open Sys2Proof.Machine

/-- A register that a well-formed write command addresses is aligned and lies in the register map (R30, R31, R33). -/
def Statement (i : Instr) : Prop := i.wf = true → ∀ q off, writesOf i = some (q, off) → off % 4 = 0 ∧ off < 0x110000

theorem registerWrite (q : Requester) (off : Nat) (v : Word) : Statement (.registerWrite q off v) := nofun

theorem unmappedAccess (q : Requester) (off : Nat) (write : Bool) : Statement (.unmappedAccess q off write) := nofun

theorem accessError (q : Requester) (off width : Nat) (write : Bool) : Statement (.accessError q off width write) := nofun

theorem offIslandAccess (q : Requester) (off : Nat) (write : Bool) (v : Word) : Statement (.offIslandAccess q off write v) := nofun

theorem pairLowRead (q : Requester) (off : Nat) : Statement (.pairLowRead q off) := nofun

theorem pairHighWrite (q : Requester) (off : Nat) (v : Word) : Statement (.pairHighWrite q off v) := nofun

theorem pairLowWrite (q : Requester) (off : Nat) (v : Word) : Statement (.pairLowWrite q off v) := nofun

theorem pageUnlock (q : Requester) (pg : Nat) : Statement (.pageUnlock q pg) := nofun

theorem pageRelock (q : Requester) (pg : Nat) (v : Word) : Statement (.pageRelock q pg v) := nofun

theorem lockTimeout (pg : Nat) : Statement (.lockTimeout pg) := nofun

theorem blockSrst (q : Requester) (pg : Nat) (v : Word) : Statement (.blockSrst q pg v) := by
  intro h q' off' e
  cases e
  simp [Instr.wf, pageOk] at h
  simp only [R.PG_CTRL, pageOf]
  omega

theorem srstComplete (pg : Nat) : Statement (.srstComplete pg) := nofun

theorem blockEnWrite (q : Requester) (pg : Nat) (v : Word) : Statement (.blockEnWrite q pg v) := by
  intro h q' off' e
  cases e
  simp [Instr.wf, pageOk] at h
  simp only [R.PG_CTRL, pageOf]
  omega

theorem eventForce (q : Requester) (pg : Nat) (v : Word) : Statement (.eventForce q pg v) := by
  intro h q' off' e
  cases e
  simp [Instr.wf, pageOk] at h
  simp only [pageOf]
  omega

theorem eventClear (q : Requester) (pg : Nat) (v hw : Word) : Statement (.eventClear q pg v hw) := by
  intro h q' off' e
  cases e
  simp [Instr.wf, pageOk] at h
  simp only [R.PG_EVT_RAW, pageOf]
  omega

theorem eventAggregate (isl : Nat) : Statement (.eventAggregate isl) := nofun

theorem eoi (q : Requester) (v : Word) : Statement (.eoi q v) := by
  intro h q' off' e
  cases e
  decide

theorem msixUnmask (q : Requester) (vec : Nat) (v : Word) : Statement (.msixUnmask q vec v) := by
  intro h q' off' e
  cases e
  simp only [R.HBR_MSIX_V_CTRL]
  omega

theorem lineOpenRequest (l : Line) : Statement (.lineOpenRequest l) := nofun

theorem openingComplete (l : Line) : Statement (.openingComplete l) := nofun

theorem bypassClose (l : Line) : Statement (.bypassClose l) := nofun

theorem closingComplete (l : Line) : Statement (.closingComplete l) := nofun

theorem bypWdog (l : Line) : Statement (.bypWdog l) := nofun

theorem bypMismatch (l : Line) : Statement (.bypMismatch l) := nofun

theorem holdoffElapsed (l : Line) : Statement (.holdoffElapsed l) := nofun

theorem forceByp (q : Requester) (l : Line) (v : Word) : Statement (.forceByp q l v) := by
  intro h q' off' e
  cases e
  cases l <;> decide

theorem clrLockout (q : Requester) (l : Line) (v : Word) : Statement (.clrLockout q l v) := by
  intro h q' off' e
  cases e
  cases l <;> decide

theorem retrain (q : Requester) (l : Line) (v : Word) : Statement (.retrain q l v) := by
  intro h q' off' e
  cases e
  cases l <;> decide

theorem portLinkUp (p : BPort) (rate rx tx : Nat) (isMaster : Bool) : Statement (.portLinkUp p rate rx tx isMaster) := nofun

theorem portLinkDown (p : BPort) : Statement (.portLinkDown p) := nofun

theorem trainFail (l : Line) : Statement (.trainFail l) := nofun

theorem failCntClear (l : Line) : Statement (.failCntClear l) := nofun

theorem failsafe (l : Line) (fab top : Bool) : Statement (.failsafe l fab top) := nofun

theorem failsafeRecover (l : Line) : Statement (.failsafeRecover l) := nofun

theorem lineSrst (q : Requester) (l : Line) (v : Word) : Statement (.lineSrst q l v) := by
  intro h q' off' e
  cases e
  cases l <;> decide

theorem portSrst (q : Requester) (p : BPort) (v : Word) : Statement (.portSrst q p v) := by
  intro h q' off' e
  cases e
  cases p <;> decide

theorem backboneFrameRx (p : BPort) (pcp : Nat) (f : NFrame) (w : FrameSigns) : Statement (.backboneFrameRx p pcp f w) := nofun

theorem ldupAge (epoch src cls flow : Nat) : Statement (.ldupAge epoch src cls flow) := nofun

theorem inaug (q : Requester) (v : Word) : Statement (.inaug q v) := by
  intro h q' off' e
  cases e
  decide

theorem clrHold (q : Requester) (v : Word) : Statement (.clrHold q v) := by
  intro h q' off' e
  cases e
  decide

theorem flapHoldEnd (p : BPort) : Statement (.flapHoldEnd p) := nofun

theorem lanternLossTrigger : Statement (.lanternLossTrigger) := nofun

theorem request (p : BPort) (f : NFrame) : Statement (.request p f) := nofun

theorem join (p : BPort) (f : NFrame) : Statement (.join p f) := nofun

theorem ident (p : BPort) (f : NFrame) : Statement (.ident p f) := nofun

theorem xident (p : BPort) (f : NFrame) : Statement (.xident p f) := nofun

theorem xend (p : BPort) (f : NFrame) : Statement (.xend p f) := nofun

theorem silent (p : BPort) : Statement (.silent p) := nofun

theorem numbering : Statement (.numbering) := nofun

theorem ready (p : BPort) (f : NFrame) : Statement (.ready p f) := nofun

theorem commitInsert (lead : Nat) : Statement (.commitInsert lead) := nofun

theorem commit (p : BPort) (f : NFrame) : Statement (.commit p f) := nofun

theorem flip : Statement (.flip) := nofun

theorem commitMiss : Statement (.commitMiss) := nofun

theorem graceEnd : Statement (.graceEnd) := nofun

theorem bindWrite (q : Requester) (v : Word) : Statement (.bindWrite q v) := by
  intro h q' off' e
  cases e
  decide

theorem ttdpTopologyChange (topo own : Nat) (nodes : List TtdpNode) : Statement (.ttdpTopologyChange topo own nodes) := nofun

theorem inhibit (q : Requester) (v : Word) : Statement (.inhibit q v) := by
  intro h q' off' e
  cases e
  decide

theorem cycleBoundary (claimLow : Bool) (canWake : Nat) : Statement (.cycleBoundary claimLow canWake) := nofun

theorem windowOpen (x : BPort) (intrude guardErr : Option Nat) : Statement (.windowOpen x intrude guardErr) := nofun

theorem marker (x : BPort) (arrival : Nat) (head : BeamHead) (hchk : Nat) (data : List Byte) (fcs : Nat) : Statement (.marker x arrival head hchk data fcs) := nofun

theorem markerMissing (x : BPort) (guardErr : Option Nat) : Statement (.markerMissing x guardErr) := nofun

theorem probeSend (p : BPort) (tTx : Nat) : Statement (.probeSend p tTx) := nofun

theorem probe (p : BPort) (tRx : Nat) (head : BeamHead) (hchk : Nat) (data : List Byte) (fcs : Nat) : Statement (.probe p tRx head hchk data fcs) := nofun

theorem beamFrameRx (p : BPort) (pos : Nat) (head : BeamHead) (body : BeamBody) (claimLow : Bool) : Statement (.beamFrameRx p pos head body claimLow) := nofun

theorem arm (q : Requester) (v : Word) : Statement (.arm q v) := by
  intro h q' off' e
  cases e
  decide

theorem ethernetFrameRx (port : Nat) (f : EthFrame) (w : FrameSigns) : Statement (.ethernetFrameRx port f w) := nofun

theorem frameTransmit (port : Nat) (late : Nat) (free : Bool) : Statement (.frameTransmit port late free) := nofun

theorem fdbAge (mac vid : Nat) : Statement (.fdbAge mac vid) := nofun

theorem flush (q : Requester) (v : Word) : Statement (.flush q v) := by
  intro h q' off' e
  cases e
  decide

theorem flowWrite (q : Requester) (v : Word) : Statement (.flowWrite q v) := by
  intro h q' off' e
  cases e
  decide

theorem flowRead (q : Requester) (v : Word) : Statement (.flowRead q v) := by
  intro h q' off' e
  cases e
  decide

theorem clrcnt (q : Requester) (v : Word) : Statement (.clrcnt q v) := by
  intro h q' off' e
  cases e
  decide

theorem expire (ctx : Nat) : Statement (.expire ctx) := nofun

theorem swap (q : Requester) (v : Word) : Statement (.swap q v) := by
  intro h q' off' e
  cases e
  decide

theorem bankPoolWrite (q : Requester) (hi : Bool) (v : Word) : Statement (.bankPoolWrite q hi v) := by
  intro h q' off' e
  cases e
  cases hi <;> decide

theorem bankMoved (bank : Nat) : Statement (.bankMoved bank) := nofun

theorem cpLinkChg (port : Nat) (up fast : Bool) : Statement (.cpLinkChg port up fast) := nofun

theorem pdFrameRx (port : Nat) (f : PdPacket) : Statement (.pdFrameRx port f) := nofun

theorem comidWrite (q : Requester) (h : Nat) (v : Word) : Statement (.comidWrite q h v) := by
  intro h q' off' e
  cases e
  simp only [R.CP_CTRL_CDATA]
  omega

theorem cbRecoveryReset (stream : Nat) : Statement (.cbRecoveryReset stream) := nofun

theorem cbdupStreamWrite (q : Requester) (v : Word) : Statement (.cbdupStreamWrite q v) := by
  intro h q' off' e
  cases e
  decide

theorem inputArrival (src : GwSource) : Statement (.inputArrival src) := nofun

theorem inpExpire (inp : Nat) : Statement (.inpExpire inp) := nofun

theorem passStart : Statement (.passStart) := nofun

theorem passDone (dur : Nat) (ueEntries ueSources : List Nat) : Statement (.passDone dur ueEntries ueSources) := nofun

theorem stall : Statement (.stall) := nofun

theorem imageWrite (q : Requester) (hi lo : Word) : Statement (.imageWrite q hi lo) := nofun

theorem mapEntryWrite (q : Requester) (v : Word) : Statement (.mapEntryWrite q v) := by
  intro h q' off' e
  cases e
  decide

theorem mapRead (q : Requester) (v : Word) : Statement (.mapRead q v) := by
  intro h q' off' e
  cases e
  decide

theorem rcpEntryWrite (q : Requester) (v : Word) : Statement (.rcpEntryWrite q v) := by
  intro h q' off' e
  cases e
  decide

theorem rcpRead (q : Requester) (v : Word) : Statement (.rcpRead q v) := by
  intro h q' off' e
  cases e
  decide

theorem flipRequest (q : Requester) (v : Word) : Statement (.flipRequest q v) := by
  intro h q' off' e
  cases e
  decide

theorem validationDone : Statement (.validationDone) := nofun

theorem cancel (q : Requester) (v : Word) : Statement (.cancel q v) := by
  intro h q' off' e
  cases e
  decide

theorem channelStart (n : Nat) : Statement (.channelStart n) := nofun

theorem modeWrite (q : Requester) (n : Nat) (v : Word) : Statement (.modeWrite q n v) := by
  intro h q' off' e
  cases e
  simp only [R.CB_CAN_MODE]
  omega

theorem modeChg (n : Nat) : Statement (.modeChg n) := nofun

theorem canFrameRx (n : Nat) (f : CanFrame) (ago : Nat) (ue : List Nat) : Statement (.canFrameRx n f ago ue) := nofun

theorem canTxAttempt (n : Nat) (ue : List Nat) : Statement (.canTxAttempt n ue) := nofun

theorem canTxEnd (n : Nat) (e : CanTxReport) : Statement (.canTxEnd n e) := nofun

theorem busoffHoldEnd (n : Nat) : Statement (.busoffHoldEnd n) := nofun

theorem recover (q : Requester) (n : Nat) (v : Word) : Statement (.recover q n v) := by
  intro h q' off' e
  cases e
  simp only [R.CB_CAN_CMD]
  omega

theorem busoffRecovered (n : Nat) : Statement (.busoffRecovered n) := nofun

theorem queueConfigWrite (q : Requester) (n k : Nat) (v : Word) : Statement (.queueConfigWrite q n k v) := by
  intro h q' off' e
  cases e
  simp only [R.CB_CAN_QCFG]
  omega

theorem queuePointerWrite (q : Requester) (n k : Nat) (v : Word) : Statement (.queuePointerWrite q n k v) := by
  intro h q' off' e
  cases e
  simp only [R.CB_CAN_QPTR]
  omega

theorem abort (q : Requester) (n : Nat) (v : Word) : Statement (.abort q n v) := by
  intro h q' off' e
  cases e
  simp only [R.CB_CAN_CMD]
  omega

theorem referenceMessageDue (n : Nat) : Statement (.referenceMessageDue n) := nofun

theorem mdataAccess (q : Requester) (h : Nat) (a : RamAccess) (hi lo : Word) : Statement (.mdataAccess q h a hi lo) := nofun

theorem timeFrameRx (p : BPort) (f : NFrame) : Statement (.timeFrameRx p f) := nofun

theorem holdover : Statement (.holdover) := nofun

theorem gmConflictClear : Statement (.gmConflictClear) := nofun

theorem start (q : Requester) (v : Word) : Statement (.start q v) := by
  intro h q' off' e
  cases e
  decide

theorem wofsCommit (q : Requester) (hi lo : Word) : Statement (.wofsCommit q hi lo) := nofun

theorem gptpSyncSend (port seq : Nat) : Statement (.gptpSyncSend port seq) := nofun

theorem gptpAnnounceSend (port seq : Nat) : Statement (.gptpAnnounceSend port seq) := nofun

theorem gptpPdelay (port delay : Nat) (ok capable : Bool) : Statement (.gptpPdelay port delay ok capable) := nofun

theorem gptpMessageRx (port : Nat) (m : GptpMsg) : Statement (.gptpMessageRx port m) := nofun

theorem tsCaptureCopy (q : Requester) (v : Word) : Statement (.tsCaptureCopy q v) := by
  intro h q' off' e
  cases e
  decide

theorem mirrorLanternSend : Statement (.mirrorLanternSend) := nofun

theorem mirrorLanternRx (payload : List Byte) : Statement (.mirrorLanternRx payload) := nofun

theorem backboneLanternRx (p : BPort) (f : NFrame) : Statement (.backboneLanternRx p f) := nofun

theorem mirrorWitnessLost (claimLow : Bool) : Statement (.mirrorWitnessLost claimLow) := nofun

theorem claimWaitEnd (highThroughout : Bool) : Statement (.claimWaitEnd highThroughout) := nofun

theorem claimStuck (high : Bool) : Statement (.claimStuck high) := nofun

theorem claimLineTest (lowIn highAfter : Bool) : Statement (.claimLineTest lowIn highAfter) := nofun

theorem clrFault (q : Requester) (v : Word) : Statement (.clrFault q v) := by
  intro h q' off' e
  cases e
  decide

theorem confirmReq : Statement (.confirmReq) := nofun

theorem confirmReqRx (p : BPort) (f : NFrame) : Statement (.confirmReqRx p f) := nofun

theorem confirm (p : BPort) (f : NFrame) (claimLow : Bool) : Statement (.confirm p f claimLow) := nofun

theorem confTExpire : Statement (.confTExpire) := nofun

theorem startTExpire (claimLow : Bool) : Statement (.startTExpire claimLow) := nofun

theorem handover (q : Requester) (v : Word) : Statement (.handover q v) := by
  intro h q' off' e
  cases e
  decide

theorem isolate (q : Requester) (v : Word) : Statement (.isolate q v) := by
  intro h q' off' e
  cases e
  decide

theorem rejoin (q : Requester) (v : Word) : Statement (.rejoin q v) := by
  intro h q' off' e
  cases e
  decide

theorem admitPartner (q : Requester) (v : Word) : Statement (.admitPartner q v) := by
  intro h q' off' e
  cases e
  decide

theorem handoverDeclined : Statement (.handoverDeclined) := nofun

theorem autoHandoverCause (cause : Nat) : Statement (.autoHandoverCause cause) := nofun

theorem mirrorLinkUp : Statement (.mirrorLinkUp) := nofun

theorem laneDegr (second : Bool) : Statement (.laneDegr second) := nofun

theorem mirrorLinkDown : Statement (.mirrorLinkDown) := nofun

theorem epochRecord (item : MirrorItem) : Statement (.epochRecord item) := nofun

theorem erecRx (n : Nat) (payload : List Byte) : Statement (.erecRx n payload) := nofun

theorem ecloseRx (n : Nat) (payload : List Byte) : Statement (.ecloseRx n payload) := nofun

theorem epochMismatch : Statement (.epochMismatch) := nofun

theorem brecRx (n : Nat) (payload : List Byte) : Statement (.brecRx n payload) := nofun

theorem bcloseRx (n : Nat) (payload : List Byte) : Statement (.bcloseRx n payload) := nofun

theorem mirrorCrcErr : Statement (.mirrorCrcErr) := nofun

theorem endpointReset (kind : EndpointReset) : Statement (.endpointReset kind) := nofun

theorem pcieLinkUp (speed width : Nat) : Statement (.pcieLinkUp speed width) := nofun

theorem configRequest (reg : CfgReg) (write : Option Word) : Statement (.configRequest reg write) := nofun

theorem nowin (off n : Nat) (write : Option (List Byte)) : Statement (.nowin off n write) := nofun

theorem messageRamWindowAccess (off n : Nat) (write : Option (List Byte)) (ue : Bool) : Statement (.messageRamWindowAccess off n write ue) := nofun

theorem iwinEnable (q : Requester) (n : Nat) (v : Word) : Statement (.iwinEnable q n v) := by
  intro h q' off' e
  cases e
  simp only [R.HBR_IWIN_CFG]
  omega

theorem owinEnable (q : Requester) (m : Nat) (v : Word) : Statement (.owinEnable q m v) := by
  intro h q' off' e
  cases e
  simp only [R.HBR_OWIN_CFG]
  omega

theorem ringEnable (q : Requester) (r : Nat) (v : Word) : Statement (.ringEnable q r v) := by
  intro h q' off' e
  cases e
  simp only [R.HBR_RING_CFG]
  omega

theorem ringPutWrite (q : Requester) (r : Nat) (v : Word) : Statement (.ringPutWrite q r v) := by
  intro h q' off' e
  cases e
  simp only [R.HBR_RING_PTR]
  omega

theorem rxRingDeliver (k : Nat) (mem : List (Nat × Byte)) : Statement (.rxRingDeliver k mem) := nofun

theorem txDescriptor (mem : List (Nat × Byte)) (readError : Bool) : Statement (.txDescriptor mem readError) := nofun

theorem bmeChange (on : Bool) : Statement (.bmeChange on) := nofun

theorem periscopeRead (off n : Nat) : Statement (.periscopeRead off n) := nofun

theorem timeout (off : Nat) : Statement (.timeout off) := nofun

theorem periscopeResponseRx (f : NFrame) : Statement (.periscopeResponseRx f) := nofun

theorem drDiscard (e : Nat) : Statement (.drDiscard e) := nofun

theorem periscopeWrite (off : Nat) (bytes : List Byte) : Statement (.periscopeWrite off bytes) := nofun

theorem pwfail (f : NFrame) : Statement (.pwfail f) := nofun

theorem pwlogGetWrite (q : Requester) (v : Word) : Statement (.pwlogGetWrite q v) := by
  intro h q' off' e
  cases e
  decide

theorem periscopeRequestRx (f : NFrame) : Statement (.periscopeRequestRx f) := nofun

theorem periscopeExecute : Statement (.periscopeExecute) := nofun

theorem fence (q : Requester) (v : Word) : Statement (.fence q v) := by
  intro h q' off' e
  cases e
  decide

theorem fenceTExpire : Statement (.fenceTExpire) := nofun

theorem sidePoll : Statement (.sidePoll) := nofun

theorem aclEntryWrite (q : Requester) (n : Nat) (v : Word) : Statement (.aclEntryWrite q n v) := by
  intro h q' off' e
  cases e
  simp only [R.PSC_CTRL_ACL_W1]
  omega

theorem pscWindowEnable (q : Requester) (p : Nat) (v : Word) : Statement (.pscWindowEnable q p v) := by
  intro h q' off' e
  cases e
  simp only [R.PSC_WIN_CFG]
  omega

theorem propose (q : Requester) (v : Word) : Statement (.propose q v) := by
  intro h q' off' e
  cases e
  decide

theorem withdraw (q : Requester) (v : Word) : Statement (.withdraw q v) := by
  intro h q' off' e
  cases e
  decide

theorem dusk (f : NFrame) : Statement (.dusk f) := nofun

theorem veto (q : Requester) (v : Word) : Statement (.veto q v) := by
  intro h q' off' e
  cases e
  decide

theorem hold (q : Requester) (v : Word) : Statement (.hold q v) := by
  intro h q' off' e
  cases e
  decide

theorem sleepReq (q : Requester) (v : Word) : Statement (.sleepReq q v) := by
  intro h q' off' e
  cases e
  decide

theorem sleepRequestRx (f : NFrame) : Statement (.sleepRequestRx f) := nofun

theorem vetoRx (f : NFrame) : Statement (.vetoRx f) := nofun

theorem cancelRx (f : NFrame) : Statement (.cancelRx f) := nofun

theorem dark : Statement (.dark) := nofun

theorem minDarkTimeEnd : Statement (.minDarkTimeEnd) := nofun

theorem wakeSource (src chan : Nat) : Statement (.wakeSource src chan) := nofun

theorem dawnPulseInject : Statement (.dawnPulseInject) := nofun

theorem dawnSend : Statement (.dawnSend) := nofun

theorem dawn (q : Requester) (v : Word) : Statement (.dawn q v) := by
  intro h q' off' e
  cases e
  decide

theorem dawnRx (f : NFrame) : Statement (.dawnRx f) := nofun

theorem pulseRx (l : Line) : Statement (.pulseRx l) := nofun

theorem isoWrite (q : Requester) (v : Word) : Statement (.isoWrite q v) := by
  intro h q' off' e
  cases e
  decide

theorem kaOkFall : Statement (.kaOkFall) := nofun

theorem filteredEdge (inp : Nat) (level : Bool) : Statement (.filteredEdge inp level) := nofun

theorem edge (inp : Nat) : Statement (.edge inp) := nofun

theorem stuck (inp : Nat) : Statement (.stuck inp) := nofun

theorem stuckRelease (inp : Nat) : Statement (.stuckRelease inp) := nofun

theorem chat (inp : Nat) : Statement (.chat inp) := nofun

theorem chatHoldEnd (inp : Nat) : Statement (.chatHoldEnd inp) := nofun

theorem dinCfgWrite (q : Requester) (inp : Nat) (v : Word) : Statement (.dinCfgWrite q inp v) := by
  intro h q' off' e
  cases e
  simp only [R.SYS_DIN_CFG]
  omega

theorem xoQual : Statement (.xoQual) := nofun

theorem xoFail : Statement (.xoFail) := nofun

theorem sourceFailure (src : Nat) : Statement (.sourceFailure src) := nofun

theorem srcLoss (src : Nat) : Statement (.srcLoss src) := nofun

theorem lineHold : Statement (.lineHold) := nofun

theorem lineRefChg (ref : Nat) (near : Bool) : Statement (.lineRefChg ref near) := nofun

theorem pllLineLock (ofs : Int) : Statement (.pllLineLock ofs) := nofun

theorem releaseWrite (q : Requester) (v : Word) : Statement (.releaseWrite q v) := by
  intro h q' off' e
  cases e
  decide

theorem srcWrite (q : Requester) (isl : Nat) (v : Word) : Statement (.srcWrite q isl v) := by
  intro h q' off' e
  cases e
  simp only [R.SYS_CLK_ISL]
  omega

theorem switchDone (isl : Nat) : Statement (.switchDone isl) := nofun

theorem forced (isl : Nat) : Statement (.forced isl) := nofun

theorem xdrop (isl count : Nat) : Statement (.xdrop isl count) := nofun

theorem clockGateRequest (q : Requester) (pg : Nat) (v : Word) : Statement (.clockGateRequest q pg v) := by
  intro h q' off' e
  cases e
  simp [Instr.wf, pageOk] at h
  simp only [R.PG_CTRL, pageOf]
  omega

theorem gated (pg : Nat) : Statement (.gated pg) := nofun

theorem gateRefused (pg : Nat) : Statement (.gateRefused pg) := nofun

theorem clockGateOpen (q : Requester) (pg : Nat) (v : Word) : Statement (.clockGateOpen q pg v) := by
  intro h q' off' e
  cases e
  simp [Instr.wf, pageOk] at h
  simp only [R.PG_CTRL, pageOf]
  omega

theorem gatedAccess (q : Requester) (off : Nat) (write : Bool) (v : Word) : Statement (.gatedAccess q off write v) := nofun

theorem dvfsRequest (q : Requester) (f : Nat) (v : Word) : Statement (.dvfsRequest q f v) := by
  intro h q' off' e
  cases e
  simp only [R.SYS_PWR_DVFS]
  omega

theorem dvfsFreqStep (f : Nat) : Statement (.dvfsFreqStep f) := nofun

theorem dvfsDone (f : Nat) : Statement (.dvfsDone f) := nofun

theorem powerCmd (q : Requester) (off : Nat) (v : Word) : Statement (.powerCmd q off v) := nofun

theorem islandPowerDown (isl step : Nat) : Statement (.islandPowerDown isl step) := nofun

theorem islandPowerDownDone (isl : Nat) : Statement (.islandPowerDownDone isl) := nofun

theorem islandPowerUpStart (isl step : Nat) : Statement (.islandPowerUpStart isl step) := nofun

theorem islandPowerUpDone (isl : Nat) : Statement (.islandPowerUpDone isl) := nofun

theorem coldStart : Statement (.coldStart) := nofun

theorem supplyStart : Statement (.supplyStart) := nofun

theorem supplyLoss : Statement (.supplyLoss) := nofun

theorem powerOnResetRelease (tpos : Bool) : Statement (.powerOnResetRelease tpos) := nofun

theorem nresetIn : Statement (.nresetIn) := nofun

theorem thermalReset : Statement (.thermalReset) := nofun

theorem railFault : Statement (.railFault) := nofun

theorem softwareReset (q : Requester) (v : Word) : Statement (.softwareReset q v) := by
  intro h q' off' e
  cases e
  decide

theorem clrSafe (q : Requester) (v : Word) : Statement (.clrSafe q v) := by
  intro h q' off' e
  cases e
  decide

theorem moduleResetWindowSlide : Statement (.moduleResetWindowSlide) := nofun

theorem strapChg (pin : Bool) : Statement (.strapChg pin) := nofun

theorem boot (ue : List Nat) : Statement (.boot ue) := nofun

theorem configApply (ue : List Nat) : Statement (.configApply ue) := nofun

theorem lockstep (ue : Bool) : Statement (.lockstep ue) := nofun

theorem wdt : Statement (.wdt) := nofun

theorem kick (q : Requester) (v : Word) : Statement (.kick q v) := by
  intro h q' off' e
  cases e
  decide

theorem mgtRestart (q : Requester) (v : Word) : Statement (.mgtRestart q v) := by
  intro h q' off' e
  cases e
  decide

theorem mboxPush (q : Requester) (v : Word) : Statement (.mboxPush q v) := by
  intro h q' off' e
  cases e
  decide

theorem echo : Statement (.echo) := nofun

theorem version : Statement (.version) := nofun

theorem govStatus : Statement (.govStatus) := nofun

theorem imgBegin : Statement (.imgBegin) := nofun

theorem imgWrite : Statement (.imgWrite) := nofun

theorem imgEnd (ue : Bool) : Statement (.imgEnd ue) := nofun

theorem imgInfo : Statement (.imgInfo) := nofun

theorem imgActivate : Statement (.imgActivate) := nofun

theorem imgConfirm : Statement (.imgConfirm) := nofun

theorem svnCommit : Statement (.svnCommit) := nofun

theorem ownerKey : Statement (.ownerKey) := nofun

theorem policyLoad : Statement (.policyLoad) := nofun

theorem policyRead : Statement (.policyRead) := nofun

theorem pop (q : Requester) (v : Word) : Statement (.pop q v) := by
  intro h q' off' e
  cases e
  decide

theorem remoteManagementRx (f : NFrame) : Statement (.remoteManagementRx f) := nofun

theorem govWindowEnd (load : Nat) : Statement (.govWindowEnd load) := nofun

theorem recEventStamp : Statement (.recEventStamp) := nofun

theorem recCommit : Statement (.recCommit) := nofun

theorem coalClose : Statement (.coalClose) := nofun

theorem loss : Statement (.loss) := nofun

theorem recPost (q : Requester) (v : Word) : Statement (.recPost q v) := by
  intro h q' off' e
  cases e
  decide

theorem clear (q : Requester) (v : Word) : Statement (.clear q v) := by
  intro h q' off' e
  cases e
  decide

theorem recPortPop (q : Requester) (ue : Bool) : Statement (.recPortPop q ue) := nofun

theorem recPortCurWrite (q : Requester) (v : Word) : Statement (.recPortCurWrite q v) := by
  intro h q' off' e
  cases e
  decide

theorem stopWrite (q : Requester) (v : Word) : Statement (.stopWrite q v) := by
  intro h q' off' e
  cases e
  decide

theorem recSrst (q : Requester) (pg : Nat) (v : Word) : Statement (.recSrst q pg v) := nofun

theorem streamEnable (q : Requester) (v : Word) : Statement (.streamEnable q v) := by
  intro h q' off' e
  cases e
  decide

theorem strm : Statement (.strm) := nofun

theorem streamGetWrite (q : Requester) (v : Word) : Statement (.streamGetWrite q v) := by
  intro h q' off' e
  cases e
  decide

theorem eccEvent (pg mem row group : Nat) (ue : Bool) : Statement (.eccEvent pg mem row group ue) := nofun

theorem ceHourEnd : Statement (.ceHourEnd) := nofun

theorem sensorAlarm (k : SensorAlarm) : Statement (.sensorAlarm k) := nofun

theorem healthReasonClearTimer (isl bit item value : Nat) : Statement (.healthReasonClearTimer isl bit item value) := nofun

theorem fwLevelWrite (q : Requester) (n : Nat) (v : Word) : Statement (.fwLevelWrite q n v) := by
  intro h q' off' e
  cases e
  simp only [R.HLT_CTRL_ISL]
  omega

theorem bankTest (q : Requester) (v : Word) : Statement (.bankTest q v) := by
  intro h q' off' e
  cases e
  decide

theorem mbist (q : Requester) (v : Word) : Statement (.mbist q v) := by
  intro h q' off' e
  cases e
  decide

theorem lbist (q : Requester) (v : Word) : Statement (.lbist q v) := by
  intro h q' off' e
  cases e
  decide

theorem session (q : Requester) (v : Word) : Statement (.session q v) := by
  intro h q' off' e
  cases e
  decide

theorem bankDrainTimeout : Statement (.bankDrainTimeout) := nofun

theorem done (sig : Word) (rounds : List (List FailCell)) : Statement (.done sig rounds) := nofun

theorem islandRestore (isl : Nat) : Statement (.islandRestore isl) := nofun

theorem verdict (q : Requester) (v : Word) : Statement (.verdict q v) := by
  intro h q' off' e
  cases e
  decide

theorem verdTExpire : Statement (.verdTExpire) := nofun

theorem repairRecordWritten (ok : Bool) : Statement (.repairRecordWritten ok) := nofun

theorem iroRecal (dev : Int) : Statement (.iroRecal dev) := nofun

theorem recal (q : Requester) (v : Word) (dev : Int) : Statement (.recal q v dev) := by
  intro h q' off' e
  cases e
  decide

theorem clrmax (q : Requester) (v : Word) (dev : Int) : Statement (.clrmax q v dev) := by
  intro h q' off' e
  cases e
  decide

theorem nresetInRelease : Statement (.nresetInRelease) := nofun

theorem thermalResetRelease : Statement (.thermalResetRelease) := nofun

theorem kaOkRise : Statement (.kaOkRise) := nofun

theorem alwaysOnSupplyLoss : Statement (.alwaysOnSupplyLoss) := nofun

theorem sourceGood (src : Nat) : Statement (.sourceGood src) := nofun

theorem canRxError (n kind : Nat) (dataPhase px exempt : Bool) (more : Nat) : Statement (.canRxError n kind dataPhase px exempt more) := nofun

theorem aer (status : Word) (header : List Byte) : Statement (.aer status header) := nofun

theorem wakeInputInactive (input : Nat) : Statement (.wakeInputInactive input) := nofun

theorem handoverWaitEnd : Statement (.handoverWaitEnd) := nofun

end Sys2Proof.Laws.Operands
end

