-- ==== Sys2Proof/Laws/State.lean ====
section
/-!
SUPPORT. One lemma for each field of the state and each update: what the update leaves of the field, so that no proof unfolds a
record update.
-/

namespace Sys2Proof.Machine

set_option Elab.async false

/-! `State.wr`: a register. -/

@[simp] theorem State.wr_pending (s : State) (off : Nat) (w : Word) : (s.wr off w).pending = s.pending := rfl
@[simp] theorem State.wr_mem (s : State) (off : Nat) (w : Word) : (s.wr off w).mem = s.mem := rfl
@[simp] theorem State.wr_out (s : State) (off : Nat) (w : Word) : (s.wr off w).out = s.out := rfl
@[simp] theorem State.wr_evq (s : State) (off : Nat) (w : Word) : (s.wr off w).evq = s.evq := rfl
@[simp] theorem State.wr_fresh (s : State) (off : Nat) (w : Word) : (s.wr off w).fresh = s.fresh := rfl
@[simp] theorem State.wr_acc (s : State) (off : Nat) (w : Word) : (s.wr off w).acc = s.acc := rfl
@[simp] theorem State.wr_mono5 (s : State) (off : Nat) (w : Word) : (s.wr off w).mono5 = s.mono5 := rfl
@[simp] theorem State.wr_lineA (s : State) (off : Nat) (w : Word) : (s.wr off w).lineA = s.lineA := rfl
@[simp] theorem State.wr_lineB (s : State) (off : Nat) (w : Word) : (s.wr off w).lineB = s.lineB := rfl
@[simp] theorem State.wr_portA1 (s : State) (off : Nat) (w : Word) : (s.wr off w).portA1 = s.portA1 := rfl
@[simp] theorem State.wr_portA2 (s : State) (off : Nat) (w : Word) : (s.wr off w).portA2 = s.portA2 := rfl
@[simp] theorem State.wr_portB1 (s : State) (off : Nat) (w : Word) : (s.wr off w).portB1 = s.portB1 := rfl
@[simp] theorem State.wr_portB2 (s : State) (off : Nat) (w : Word) : (s.wr off w).portB2 = s.portB2 := rfl
@[simp] theorem State.wr_top (s : State) (off : Nat) (w : Word) : (s.wr off w).top = s.top := rfl
@[simp] theorem State.wr_beam (s : State) (off : Nat) (w : Word) : (s.wr off w).beam = s.beam := rfl
@[simp] theorem State.wr_fab (s : State) (off : Nat) (w : Word) : (s.wr off w).fab = s.fab := rfl
@[simp] theorem State.wr_tim (s : State) (off : Nat) (w : Word) : (s.wr off w).tim = s.tim := rfl
@[simp] theorem State.wr_cans (s : State) (off : Nat) (w : Word) : (s.wr off w).cans = s.cans := rfl
@[simp] theorem State.wr_wake (s : State) (off : Nat) (w : Word) : (s.wr off w).wake = s.wake := rfl
@[simp] theorem State.wr_din (s : State) (off : Nat) (w : Word) : (s.wr off w).din = s.din := rfl
@[simp] theorem State.wr_twn (s : State) (off : Nat) (w : Word) : (s.wr off w).twn = s.twn := rfl
@[simp] theorem State.wr_hlt (s : State) (off : Nat) (w : Word) : (s.wr off w).hlt = s.hlt := rfl
@[simp] theorem State.wr_sgw (s : State) (off : Nat) (w : Word) : (s.wr off w).sgw = s.sgw := rfl
@[simp] theorem State.wr_psc (s : State) (off : Nat) (w : Word) : (s.wr off w).psc = s.psc := rfl
@[simp] theorem State.wr_recorder (s : State) (off : Nat) (w : Word) : (s.wr off w).recorder = s.recorder := rfl
@[simp] theorem State.wr_pwr (s : State) (off : Nat) (w : Word) : (s.wr off w).pwr = s.pwr := rfl
@[simp] theorem State.wr_mgt (s : State) (off : Nat) (w : Word) : (s.wr off w).mgt = s.mgt := rfl
@[simp] theorem State.wr_nv (s : State) (off : Nat) (w : Word) : (s.wr off w).nv = s.nv := rfl

/-! `State.put`: a field. -/

@[simp] theorem State.put_pending (s : State) (f : Fld) (v : Nat) : (s.put f v).pending = s.pending := rfl
@[simp] theorem State.put_mem (s : State) (f : Fld) (v : Nat) : (s.put f v).mem = s.mem := rfl
@[simp] theorem State.put_out (s : State) (f : Fld) (v : Nat) : (s.put f v).out = s.out := rfl
@[simp] theorem State.put_evq (s : State) (f : Fld) (v : Nat) : (s.put f v).evq = s.evq := rfl
@[simp] theorem State.put_fresh (s : State) (f : Fld) (v : Nat) : (s.put f v).fresh = s.fresh := rfl
@[simp] theorem State.put_acc (s : State) (f : Fld) (v : Nat) : (s.put f v).acc = s.acc := rfl
@[simp] theorem State.put_mono5 (s : State) (f : Fld) (v : Nat) : (s.put f v).mono5 = s.mono5 := rfl
@[simp] theorem State.put_lineA (s : State) (f : Fld) (v : Nat) : (s.put f v).lineA = s.lineA := rfl
@[simp] theorem State.put_lineB (s : State) (f : Fld) (v : Nat) : (s.put f v).lineB = s.lineB := rfl
@[simp] theorem State.put_portA1 (s : State) (f : Fld) (v : Nat) : (s.put f v).portA1 = s.portA1 := rfl
@[simp] theorem State.put_portA2 (s : State) (f : Fld) (v : Nat) : (s.put f v).portA2 = s.portA2 := rfl
@[simp] theorem State.put_portB1 (s : State) (f : Fld) (v : Nat) : (s.put f v).portB1 = s.portB1 := rfl
@[simp] theorem State.put_portB2 (s : State) (f : Fld) (v : Nat) : (s.put f v).portB2 = s.portB2 := rfl
@[simp] theorem State.put_top (s : State) (f : Fld) (v : Nat) : (s.put f v).top = s.top := rfl
@[simp] theorem State.put_beam (s : State) (f : Fld) (v : Nat) : (s.put f v).beam = s.beam := rfl
@[simp] theorem State.put_fab (s : State) (f : Fld) (v : Nat) : (s.put f v).fab = s.fab := rfl
@[simp] theorem State.put_tim (s : State) (f : Fld) (v : Nat) : (s.put f v).tim = s.tim := rfl
@[simp] theorem State.put_cans (s : State) (f : Fld) (v : Nat) : (s.put f v).cans = s.cans := rfl
@[simp] theorem State.put_wake (s : State) (f : Fld) (v : Nat) : (s.put f v).wake = s.wake := rfl
@[simp] theorem State.put_din (s : State) (f : Fld) (v : Nat) : (s.put f v).din = s.din := rfl
@[simp] theorem State.put_twn (s : State) (f : Fld) (v : Nat) : (s.put f v).twn = s.twn := rfl
@[simp] theorem State.put_hlt (s : State) (f : Fld) (v : Nat) : (s.put f v).hlt = s.hlt := rfl
@[simp] theorem State.put_sgw (s : State) (f : Fld) (v : Nat) : (s.put f v).sgw = s.sgw := rfl
@[simp] theorem State.put_psc (s : State) (f : Fld) (v : Nat) : (s.put f v).psc = s.psc := rfl
@[simp] theorem State.put_recorder (s : State) (f : Fld) (v : Nat) : (s.put f v).recorder = s.recorder := rfl
@[simp] theorem State.put_pwr (s : State) (f : Fld) (v : Nat) : (s.put f v).pwr = s.pwr := rfl
@[simp] theorem State.put_mgt (s : State) (f : Fld) (v : Nat) : (s.put f v).mgt = s.mgt := rfl
@[simp] theorem State.put_nv (s : State) (f : Fld) (v : Nat) : (s.put f v).nv = s.nv := rfl

/-! `State.putB`: a one-bit field. -/

@[simp] theorem State.putB_pending (s : State) (f : Fld) (b : Bool) : (s.putB f b).pending = s.pending := rfl
@[simp] theorem State.putB_mem (s : State) (f : Fld) (b : Bool) : (s.putB f b).mem = s.mem := rfl
@[simp] theorem State.putB_out (s : State) (f : Fld) (b : Bool) : (s.putB f b).out = s.out := rfl
@[simp] theorem State.putB_evq (s : State) (f : Fld) (b : Bool) : (s.putB f b).evq = s.evq := rfl
@[simp] theorem State.putB_fresh (s : State) (f : Fld) (b : Bool) : (s.putB f b).fresh = s.fresh := rfl
@[simp] theorem State.putB_acc (s : State) (f : Fld) (b : Bool) : (s.putB f b).acc = s.acc := rfl
@[simp] theorem State.putB_mono5 (s : State) (f : Fld) (b : Bool) : (s.putB f b).mono5 = s.mono5 := rfl
@[simp] theorem State.putB_lineA (s : State) (f : Fld) (b : Bool) : (s.putB f b).lineA = s.lineA := rfl
@[simp] theorem State.putB_lineB (s : State) (f : Fld) (b : Bool) : (s.putB f b).lineB = s.lineB := rfl
@[simp] theorem State.putB_portA1 (s : State) (f : Fld) (b : Bool) : (s.putB f b).portA1 = s.portA1 := rfl
@[simp] theorem State.putB_portA2 (s : State) (f : Fld) (b : Bool) : (s.putB f b).portA2 = s.portA2 := rfl
@[simp] theorem State.putB_portB1 (s : State) (f : Fld) (b : Bool) : (s.putB f b).portB1 = s.portB1 := rfl
@[simp] theorem State.putB_portB2 (s : State) (f : Fld) (b : Bool) : (s.putB f b).portB2 = s.portB2 := rfl
@[simp] theorem State.putB_top (s : State) (f : Fld) (b : Bool) : (s.putB f b).top = s.top := rfl
@[simp] theorem State.putB_beam (s : State) (f : Fld) (b : Bool) : (s.putB f b).beam = s.beam := rfl
@[simp] theorem State.putB_fab (s : State) (f : Fld) (b : Bool) : (s.putB f b).fab = s.fab := rfl
@[simp] theorem State.putB_tim (s : State) (f : Fld) (b : Bool) : (s.putB f b).tim = s.tim := rfl
@[simp] theorem State.putB_cans (s : State) (f : Fld) (b : Bool) : (s.putB f b).cans = s.cans := rfl
@[simp] theorem State.putB_wake (s : State) (f : Fld) (b : Bool) : (s.putB f b).wake = s.wake := rfl
@[simp] theorem State.putB_din (s : State) (f : Fld) (b : Bool) : (s.putB f b).din = s.din := rfl
@[simp] theorem State.putB_twn (s : State) (f : Fld) (b : Bool) : (s.putB f b).twn = s.twn := rfl
@[simp] theorem State.putB_hlt (s : State) (f : Fld) (b : Bool) : (s.putB f b).hlt = s.hlt := rfl
@[simp] theorem State.putB_sgw (s : State) (f : Fld) (b : Bool) : (s.putB f b).sgw = s.sgw := rfl
@[simp] theorem State.putB_psc (s : State) (f : Fld) (b : Bool) : (s.putB f b).psc = s.psc := rfl
@[simp] theorem State.putB_recorder (s : State) (f : Fld) (b : Bool) : (s.putB f b).recorder = s.recorder := rfl
@[simp] theorem State.putB_pwr (s : State) (f : Fld) (b : Bool) : (s.putB f b).pwr = s.pwr := rfl
@[simp] theorem State.putB_mgt (s : State) (f : Fld) (b : Bool) : (s.putB f b).mgt = s.mgt := rfl
@[simp] theorem State.putB_nv (s : State) (f : Fld) (b : Bool) : (s.putB f b).nv = s.nv := rfl

/-! `State.satAdd`: a count that saturates. -/

@[simp] theorem State.satAdd_pending (s : State) (f : Fld) (n : Nat) : (s.satAdd f n).pending = s.pending := rfl
@[simp] theorem State.satAdd_mem (s : State) (f : Fld) (n : Nat) : (s.satAdd f n).mem = s.mem := rfl
@[simp] theorem State.satAdd_out (s : State) (f : Fld) (n : Nat) : (s.satAdd f n).out = s.out := rfl
@[simp] theorem State.satAdd_evq (s : State) (f : Fld) (n : Nat) : (s.satAdd f n).evq = s.evq := rfl
@[simp] theorem State.satAdd_fresh (s : State) (f : Fld) (n : Nat) : (s.satAdd f n).fresh = s.fresh := rfl
@[simp] theorem State.satAdd_acc (s : State) (f : Fld) (n : Nat) : (s.satAdd f n).acc = s.acc := rfl
@[simp] theorem State.satAdd_mono5 (s : State) (f : Fld) (n : Nat) : (s.satAdd f n).mono5 = s.mono5 := rfl
@[simp] theorem State.satAdd_lineA (s : State) (f : Fld) (n : Nat) : (s.satAdd f n).lineA = s.lineA := rfl
@[simp] theorem State.satAdd_lineB (s : State) (f : Fld) (n : Nat) : (s.satAdd f n).lineB = s.lineB := rfl
@[simp] theorem State.satAdd_portA1 (s : State) (f : Fld) (n : Nat) : (s.satAdd f n).portA1 = s.portA1 := rfl
@[simp] theorem State.satAdd_portA2 (s : State) (f : Fld) (n : Nat) : (s.satAdd f n).portA2 = s.portA2 := rfl
@[simp] theorem State.satAdd_portB1 (s : State) (f : Fld) (n : Nat) : (s.satAdd f n).portB1 = s.portB1 := rfl
@[simp] theorem State.satAdd_portB2 (s : State) (f : Fld) (n : Nat) : (s.satAdd f n).portB2 = s.portB2 := rfl
@[simp] theorem State.satAdd_top (s : State) (f : Fld) (n : Nat) : (s.satAdd f n).top = s.top := rfl
@[simp] theorem State.satAdd_beam (s : State) (f : Fld) (n : Nat) : (s.satAdd f n).beam = s.beam := rfl
@[simp] theorem State.satAdd_fab (s : State) (f : Fld) (n : Nat) : (s.satAdd f n).fab = s.fab := rfl
@[simp] theorem State.satAdd_tim (s : State) (f : Fld) (n : Nat) : (s.satAdd f n).tim = s.tim := rfl
@[simp] theorem State.satAdd_cans (s : State) (f : Fld) (n : Nat) : (s.satAdd f n).cans = s.cans := rfl
@[simp] theorem State.satAdd_wake (s : State) (f : Fld) (n : Nat) : (s.satAdd f n).wake = s.wake := rfl
@[simp] theorem State.satAdd_din (s : State) (f : Fld) (n : Nat) : (s.satAdd f n).din = s.din := rfl
@[simp] theorem State.satAdd_twn (s : State) (f : Fld) (n : Nat) : (s.satAdd f n).twn = s.twn := rfl
@[simp] theorem State.satAdd_hlt (s : State) (f : Fld) (n : Nat) : (s.satAdd f n).hlt = s.hlt := rfl
@[simp] theorem State.satAdd_sgw (s : State) (f : Fld) (n : Nat) : (s.satAdd f n).sgw = s.sgw := rfl
@[simp] theorem State.satAdd_psc (s : State) (f : Fld) (n : Nat) : (s.satAdd f n).psc = s.psc := rfl
@[simp] theorem State.satAdd_recorder (s : State) (f : Fld) (n : Nat) : (s.satAdd f n).recorder = s.recorder := rfl
@[simp] theorem State.satAdd_pwr (s : State) (f : Fld) (n : Nat) : (s.satAdd f n).pwr = s.pwr := rfl
@[simp] theorem State.satAdd_mgt (s : State) (f : Fld) (n : Nat) : (s.satAdd f n).mgt = s.mgt := rfl
@[simp] theorem State.satAdd_nv (s : State) (f : Fld) (n : Nat) : (s.satAdd f n).nv = s.nv := rfl

/-! `State.satInc`: one in a count that saturates. -/

@[simp] theorem State.satInc_pending (s : State) (f : Fld) : (s.satInc f).pending = s.pending := rfl
@[simp] theorem State.satInc_mem (s : State) (f : Fld) : (s.satInc f).mem = s.mem := rfl
@[simp] theorem State.satInc_out (s : State) (f : Fld) : (s.satInc f).out = s.out := rfl
@[simp] theorem State.satInc_evq (s : State) (f : Fld) : (s.satInc f).evq = s.evq := rfl
@[simp] theorem State.satInc_fresh (s : State) (f : Fld) : (s.satInc f).fresh = s.fresh := rfl
@[simp] theorem State.satInc_acc (s : State) (f : Fld) : (s.satInc f).acc = s.acc := rfl
@[simp] theorem State.satInc_mono5 (s : State) (f : Fld) : (s.satInc f).mono5 = s.mono5 := rfl
@[simp] theorem State.satInc_lineA (s : State) (f : Fld) : (s.satInc f).lineA = s.lineA := rfl
@[simp] theorem State.satInc_lineB (s : State) (f : Fld) : (s.satInc f).lineB = s.lineB := rfl
@[simp] theorem State.satInc_portA1 (s : State) (f : Fld) : (s.satInc f).portA1 = s.portA1 := rfl
@[simp] theorem State.satInc_portA2 (s : State) (f : Fld) : (s.satInc f).portA2 = s.portA2 := rfl
@[simp] theorem State.satInc_portB1 (s : State) (f : Fld) : (s.satInc f).portB1 = s.portB1 := rfl
@[simp] theorem State.satInc_portB2 (s : State) (f : Fld) : (s.satInc f).portB2 = s.portB2 := rfl
@[simp] theorem State.satInc_top (s : State) (f : Fld) : (s.satInc f).top = s.top := rfl
@[simp] theorem State.satInc_beam (s : State) (f : Fld) : (s.satInc f).beam = s.beam := rfl
@[simp] theorem State.satInc_fab (s : State) (f : Fld) : (s.satInc f).fab = s.fab := rfl
@[simp] theorem State.satInc_tim (s : State) (f : Fld) : (s.satInc f).tim = s.tim := rfl
@[simp] theorem State.satInc_cans (s : State) (f : Fld) : (s.satInc f).cans = s.cans := rfl
@[simp] theorem State.satInc_wake (s : State) (f : Fld) : (s.satInc f).wake = s.wake := rfl
@[simp] theorem State.satInc_din (s : State) (f : Fld) : (s.satInc f).din = s.din := rfl
@[simp] theorem State.satInc_twn (s : State) (f : Fld) : (s.satInc f).twn = s.twn := rfl
@[simp] theorem State.satInc_hlt (s : State) (f : Fld) : (s.satInc f).hlt = s.hlt := rfl
@[simp] theorem State.satInc_sgw (s : State) (f : Fld) : (s.satInc f).sgw = s.sgw := rfl
@[simp] theorem State.satInc_psc (s : State) (f : Fld) : (s.satInc f).psc = s.psc := rfl
@[simp] theorem State.satInc_recorder (s : State) (f : Fld) : (s.satInc f).recorder = s.recorder := rfl
@[simp] theorem State.satInc_pwr (s : State) (f : Fld) : (s.satInc f).pwr = s.pwr := rfl
@[simp] theorem State.satInc_mgt (s : State) (f : Fld) : (s.satInc f).mgt = s.mgt := rfl
@[simp] theorem State.satInc_nv (s : State) (f : Fld) : (s.satInc f).nv = s.nv := rfl

/-! `State.wrapInc`: one in a count that wraps. -/

@[simp] theorem State.wrapInc_pending (s : State) (f : Fld) : (s.wrapInc f).pending = s.pending := rfl
@[simp] theorem State.wrapInc_mem (s : State) (f : Fld) : (s.wrapInc f).mem = s.mem := rfl
@[simp] theorem State.wrapInc_out (s : State) (f : Fld) : (s.wrapInc f).out = s.out := rfl
@[simp] theorem State.wrapInc_evq (s : State) (f : Fld) : (s.wrapInc f).evq = s.evq := rfl
@[simp] theorem State.wrapInc_fresh (s : State) (f : Fld) : (s.wrapInc f).fresh = s.fresh := rfl
@[simp] theorem State.wrapInc_acc (s : State) (f : Fld) : (s.wrapInc f).acc = s.acc := rfl
@[simp] theorem State.wrapInc_mono5 (s : State) (f : Fld) : (s.wrapInc f).mono5 = s.mono5 := rfl
@[simp] theorem State.wrapInc_lineA (s : State) (f : Fld) : (s.wrapInc f).lineA = s.lineA := rfl
@[simp] theorem State.wrapInc_lineB (s : State) (f : Fld) : (s.wrapInc f).lineB = s.lineB := rfl
@[simp] theorem State.wrapInc_portA1 (s : State) (f : Fld) : (s.wrapInc f).portA1 = s.portA1 := rfl
@[simp] theorem State.wrapInc_portA2 (s : State) (f : Fld) : (s.wrapInc f).portA2 = s.portA2 := rfl
@[simp] theorem State.wrapInc_portB1 (s : State) (f : Fld) : (s.wrapInc f).portB1 = s.portB1 := rfl
@[simp] theorem State.wrapInc_portB2 (s : State) (f : Fld) : (s.wrapInc f).portB2 = s.portB2 := rfl
@[simp] theorem State.wrapInc_top (s : State) (f : Fld) : (s.wrapInc f).top = s.top := rfl
@[simp] theorem State.wrapInc_beam (s : State) (f : Fld) : (s.wrapInc f).beam = s.beam := rfl
@[simp] theorem State.wrapInc_fab (s : State) (f : Fld) : (s.wrapInc f).fab = s.fab := rfl
@[simp] theorem State.wrapInc_tim (s : State) (f : Fld) : (s.wrapInc f).tim = s.tim := rfl
@[simp] theorem State.wrapInc_cans (s : State) (f : Fld) : (s.wrapInc f).cans = s.cans := rfl
@[simp] theorem State.wrapInc_wake (s : State) (f : Fld) : (s.wrapInc f).wake = s.wake := rfl
@[simp] theorem State.wrapInc_din (s : State) (f : Fld) : (s.wrapInc f).din = s.din := rfl
@[simp] theorem State.wrapInc_twn (s : State) (f : Fld) : (s.wrapInc f).twn = s.twn := rfl
@[simp] theorem State.wrapInc_hlt (s : State) (f : Fld) : (s.wrapInc f).hlt = s.hlt := rfl
@[simp] theorem State.wrapInc_sgw (s : State) (f : Fld) : (s.wrapInc f).sgw = s.sgw := rfl
@[simp] theorem State.wrapInc_psc (s : State) (f : Fld) : (s.wrapInc f).psc = s.psc := rfl
@[simp] theorem State.wrapInc_recorder (s : State) (f : Fld) : (s.wrapInc f).recorder = s.recorder := rfl
@[simp] theorem State.wrapInc_pwr (s : State) (f : Fld) : (s.wrapInc f).pwr = s.pwr := rfl
@[simp] theorem State.wrapInc_mgt (s : State) (f : Fld) : (s.wrapInc f).mgt = s.mgt := rfl
@[simp] theorem State.wrapInc_nv (s : State) (f : Fld) : (s.wrapInc f).nv = s.nv := rfl

/-! `State.raise`: an event bit. -/

@[simp] theorem State.raise_pending (s : State) (pg b : Nat) : (s.raise pg b).pending = s.pending := rfl
@[simp] theorem State.raise_mem (s : State) (pg b : Nat) : (s.raise pg b).mem = s.mem := rfl
@[simp] theorem State.raise_out (s : State) (pg b : Nat) : (s.raise pg b).out = s.out := rfl
@[simp] theorem State.raise_evq (s : State) (pg b : Nat) : (s.raise pg b).evq = s.evq := rfl
@[simp] theorem State.raise_fresh (s : State) (pg b : Nat) : (s.raise pg b).fresh = s.fresh := rfl
@[simp] theorem State.raise_acc (s : State) (pg b : Nat) : (s.raise pg b).acc = s.acc := rfl
@[simp] theorem State.raise_mono5 (s : State) (pg b : Nat) : (s.raise pg b).mono5 = s.mono5 := rfl
@[simp] theorem State.raise_lineA (s : State) (pg b : Nat) : (s.raise pg b).lineA = s.lineA := rfl
@[simp] theorem State.raise_lineB (s : State) (pg b : Nat) : (s.raise pg b).lineB = s.lineB := rfl
@[simp] theorem State.raise_portA1 (s : State) (pg b : Nat) : (s.raise pg b).portA1 = s.portA1 := rfl
@[simp] theorem State.raise_portA2 (s : State) (pg b : Nat) : (s.raise pg b).portA2 = s.portA2 := rfl
@[simp] theorem State.raise_portB1 (s : State) (pg b : Nat) : (s.raise pg b).portB1 = s.portB1 := rfl
@[simp] theorem State.raise_portB2 (s : State) (pg b : Nat) : (s.raise pg b).portB2 = s.portB2 := rfl
@[simp] theorem State.raise_top (s : State) (pg b : Nat) : (s.raise pg b).top = s.top := rfl
@[simp] theorem State.raise_beam (s : State) (pg b : Nat) : (s.raise pg b).beam = s.beam := rfl
@[simp] theorem State.raise_fab (s : State) (pg b : Nat) : (s.raise pg b).fab = s.fab := rfl
@[simp] theorem State.raise_tim (s : State) (pg b : Nat) : (s.raise pg b).tim = s.tim := rfl
@[simp] theorem State.raise_cans (s : State) (pg b : Nat) : (s.raise pg b).cans = s.cans := rfl
@[simp] theorem State.raise_wake (s : State) (pg b : Nat) : (s.raise pg b).wake = s.wake := rfl
@[simp] theorem State.raise_din (s : State) (pg b : Nat) : (s.raise pg b).din = s.din := rfl
@[simp] theorem State.raise_twn (s : State) (pg b : Nat) : (s.raise pg b).twn = s.twn := rfl
@[simp] theorem State.raise_hlt (s : State) (pg b : Nat) : (s.raise pg b).hlt = s.hlt := rfl
@[simp] theorem State.raise_sgw (s : State) (pg b : Nat) : (s.raise pg b).sgw = s.sgw := rfl
@[simp] theorem State.raise_psc (s : State) (pg b : Nat) : (s.raise pg b).psc = s.psc := rfl
@[simp] theorem State.raise_recorder (s : State) (pg b : Nat) : (s.raise pg b).recorder = s.recorder := rfl
@[simp] theorem State.raise_pwr (s : State) (pg b : Nat) : (s.raise pg b).pwr = s.pwr := rfl
@[simp] theorem State.raise_mgt (s : State) (pg b : Nat) : (s.raise pg b).mgt = s.mgt := rfl
@[simp] theorem State.raise_nv (s : State) (pg b : Nat) : (s.raise pg b).nv = s.nv := rfl

/-! `State.relock`: the lock of a page. -/

@[simp] theorem State.relock_pending (s : State) (pg : Nat) : (s.relock pg).pending = s.pending := rfl
@[simp] theorem State.relock_mem (s : State) (pg : Nat) : (s.relock pg).mem = s.mem := rfl
@[simp] theorem State.relock_out (s : State) (pg : Nat) : (s.relock pg).out = s.out := rfl
@[simp] theorem State.relock_evq (s : State) (pg : Nat) : (s.relock pg).evq = s.evq := rfl
@[simp] theorem State.relock_fresh (s : State) (pg : Nat) : (s.relock pg).fresh = s.fresh := rfl
@[simp] theorem State.relock_acc (s : State) (pg : Nat) : (s.relock pg).acc = s.acc := rfl
@[simp] theorem State.relock_mono5 (s : State) (pg : Nat) : (s.relock pg).mono5 = s.mono5 := rfl
@[simp] theorem State.relock_lineA (s : State) (pg : Nat) : (s.relock pg).lineA = s.lineA := rfl
@[simp] theorem State.relock_lineB (s : State) (pg : Nat) : (s.relock pg).lineB = s.lineB := rfl
@[simp] theorem State.relock_portA1 (s : State) (pg : Nat) : (s.relock pg).portA1 = s.portA1 := rfl
@[simp] theorem State.relock_portA2 (s : State) (pg : Nat) : (s.relock pg).portA2 = s.portA2 := rfl
@[simp] theorem State.relock_portB1 (s : State) (pg : Nat) : (s.relock pg).portB1 = s.portB1 := rfl
@[simp] theorem State.relock_portB2 (s : State) (pg : Nat) : (s.relock pg).portB2 = s.portB2 := rfl
@[simp] theorem State.relock_top (s : State) (pg : Nat) : (s.relock pg).top = s.top := rfl
@[simp] theorem State.relock_beam (s : State) (pg : Nat) : (s.relock pg).beam = s.beam := rfl
@[simp] theorem State.relock_fab (s : State) (pg : Nat) : (s.relock pg).fab = s.fab := rfl
@[simp] theorem State.relock_tim (s : State) (pg : Nat) : (s.relock pg).tim = s.tim := rfl
@[simp] theorem State.relock_cans (s : State) (pg : Nat) : (s.relock pg).cans = s.cans := rfl
@[simp] theorem State.relock_wake (s : State) (pg : Nat) : (s.relock pg).wake = s.wake := rfl
@[simp] theorem State.relock_din (s : State) (pg : Nat) : (s.relock pg).din = s.din := rfl
@[simp] theorem State.relock_twn (s : State) (pg : Nat) : (s.relock pg).twn = s.twn := rfl
@[simp] theorem State.relock_hlt (s : State) (pg : Nat) : (s.relock pg).hlt = s.hlt := rfl
@[simp] theorem State.relock_sgw (s : State) (pg : Nat) : (s.relock pg).sgw = s.sgw := rfl
@[simp] theorem State.relock_psc (s : State) (pg : Nat) : (s.relock pg).psc = s.psc := rfl
@[simp] theorem State.relock_recorder (s : State) (pg : Nat) : (s.relock pg).recorder = s.recorder := rfl
@[simp] theorem State.relock_pwr (s : State) (pg : Nat) : (s.relock pg).pwr = s.pwr := rfl
@[simp] theorem State.relock_mgt (s : State) (pg : Nat) : (s.relock pg).mgt = s.mgt := rfl
@[simp] theorem State.relock_nv (s : State) (pg : Nat) : (s.relock pg).nv = s.nv := rfl

/-! `State.clearRegs`: registers at their reset values. -/

@[simp] theorem State.clearRegs_pending (s : State) (p : Nat → Bool) : (s.clearRegs p).pending = s.pending := rfl
@[simp] theorem State.clearRegs_mem (s : State) (p : Nat → Bool) : (s.clearRegs p).mem = s.mem := rfl
@[simp] theorem State.clearRegs_out (s : State) (p : Nat → Bool) : (s.clearRegs p).out = s.out := rfl
@[simp] theorem State.clearRegs_evq (s : State) (p : Nat → Bool) : (s.clearRegs p).evq = s.evq := rfl
@[simp] theorem State.clearRegs_fresh (s : State) (p : Nat → Bool) : (s.clearRegs p).fresh = s.fresh := rfl
@[simp] theorem State.clearRegs_acc (s : State) (p : Nat → Bool) : (s.clearRegs p).acc = s.acc := rfl
@[simp] theorem State.clearRegs_mono5 (s : State) (p : Nat → Bool) : (s.clearRegs p).mono5 = s.mono5 := rfl
@[simp] theorem State.clearRegs_lineA (s : State) (p : Nat → Bool) : (s.clearRegs p).lineA = s.lineA := rfl
@[simp] theorem State.clearRegs_lineB (s : State) (p : Nat → Bool) : (s.clearRegs p).lineB = s.lineB := rfl
@[simp] theorem State.clearRegs_portA1 (s : State) (p : Nat → Bool) : (s.clearRegs p).portA1 = s.portA1 := rfl
@[simp] theorem State.clearRegs_portA2 (s : State) (p : Nat → Bool) : (s.clearRegs p).portA2 = s.portA2 := rfl
@[simp] theorem State.clearRegs_portB1 (s : State) (p : Nat → Bool) : (s.clearRegs p).portB1 = s.portB1 := rfl
@[simp] theorem State.clearRegs_portB2 (s : State) (p : Nat → Bool) : (s.clearRegs p).portB2 = s.portB2 := rfl
@[simp] theorem State.clearRegs_top (s : State) (p : Nat → Bool) : (s.clearRegs p).top = s.top := rfl
@[simp] theorem State.clearRegs_beam (s : State) (p : Nat → Bool) : (s.clearRegs p).beam = s.beam := rfl
@[simp] theorem State.clearRegs_fab (s : State) (p : Nat → Bool) : (s.clearRegs p).fab = s.fab := rfl
@[simp] theorem State.clearRegs_tim (s : State) (p : Nat → Bool) : (s.clearRegs p).tim = s.tim := rfl
@[simp] theorem State.clearRegs_cans (s : State) (p : Nat → Bool) : (s.clearRegs p).cans = s.cans := rfl
@[simp] theorem State.clearRegs_wake (s : State) (p : Nat → Bool) : (s.clearRegs p).wake = s.wake := rfl
@[simp] theorem State.clearRegs_din (s : State) (p : Nat → Bool) : (s.clearRegs p).din = s.din := rfl
@[simp] theorem State.clearRegs_twn (s : State) (p : Nat → Bool) : (s.clearRegs p).twn = s.twn := rfl
@[simp] theorem State.clearRegs_hlt (s : State) (p : Nat → Bool) : (s.clearRegs p).hlt = s.hlt := rfl
@[simp] theorem State.clearRegs_sgw (s : State) (p : Nat → Bool) : (s.clearRegs p).sgw = s.sgw := rfl
@[simp] theorem State.clearRegs_psc (s : State) (p : Nat → Bool) : (s.clearRegs p).psc = s.psc := rfl
@[simp] theorem State.clearRegs_recorder (s : State) (p : Nat → Bool) : (s.clearRegs p).recorder = s.recorder := rfl
@[simp] theorem State.clearRegs_pwr (s : State) (p : Nat → Bool) : (s.clearRegs p).pwr = s.pwr := rfl
@[simp] theorem State.clearRegs_mgt (s : State) (p : Nat → Bool) : (s.clearRegs p).mgt = s.mgt := rfl
@[simp] theorem State.clearRegs_nv (s : State) (p : Nat → Bool) : (s.clearRegs p).nv = s.nv := rfl

/-! `State.wrByte`: a byte of a RAM. -/

@[simp] theorem State.wrByte_pending (s : State) (a : Nat) (b : Byte) : (s.wrByte a b).pending = s.pending := rfl
@[simp] theorem State.wrByte_regs (s : State) (a : Nat) (b : Byte) : (s.wrByte a b).regs = s.regs := rfl
@[simp] theorem State.wrByte_out (s : State) (a : Nat) (b : Byte) : (s.wrByte a b).out = s.out := rfl
@[simp] theorem State.wrByte_evq (s : State) (a : Nat) (b : Byte) : (s.wrByte a b).evq = s.evq := rfl
@[simp] theorem State.wrByte_fresh (s : State) (a : Nat) (b : Byte) : (s.wrByte a b).fresh = s.fresh := rfl
@[simp] theorem State.wrByte_acc (s : State) (a : Nat) (b : Byte) : (s.wrByte a b).acc = s.acc := rfl
@[simp] theorem State.wrByte_mono5 (s : State) (a : Nat) (b : Byte) : (s.wrByte a b).mono5 = s.mono5 := rfl
@[simp] theorem State.wrByte_lineA (s : State) (a : Nat) (b : Byte) : (s.wrByte a b).lineA = s.lineA := rfl
@[simp] theorem State.wrByte_lineB (s : State) (a : Nat) (b : Byte) : (s.wrByte a b).lineB = s.lineB := rfl
@[simp] theorem State.wrByte_portA1 (s : State) (a : Nat) (b : Byte) : (s.wrByte a b).portA1 = s.portA1 := rfl
@[simp] theorem State.wrByte_portA2 (s : State) (a : Nat) (b : Byte) : (s.wrByte a b).portA2 = s.portA2 := rfl
@[simp] theorem State.wrByte_portB1 (s : State) (a : Nat) (b : Byte) : (s.wrByte a b).portB1 = s.portB1 := rfl
@[simp] theorem State.wrByte_portB2 (s : State) (a : Nat) (b : Byte) : (s.wrByte a b).portB2 = s.portB2 := rfl
@[simp] theorem State.wrByte_top (s : State) (a : Nat) (b : Byte) : (s.wrByte a b).top = s.top := rfl
@[simp] theorem State.wrByte_beam (s : State) (a : Nat) (b : Byte) : (s.wrByte a b).beam = s.beam := rfl
@[simp] theorem State.wrByte_fab (s : State) (a : Nat) (b : Byte) : (s.wrByte a b).fab = s.fab := rfl
@[simp] theorem State.wrByte_tim (s : State) (a : Nat) (b : Byte) : (s.wrByte a b).tim = s.tim := rfl
@[simp] theorem State.wrByte_cans (s : State) (a : Nat) (b : Byte) : (s.wrByte a b).cans = s.cans := rfl
@[simp] theorem State.wrByte_wake (s : State) (a : Nat) (b : Byte) : (s.wrByte a b).wake = s.wake := rfl
@[simp] theorem State.wrByte_din (s : State) (a : Nat) (b : Byte) : (s.wrByte a b).din = s.din := rfl
@[simp] theorem State.wrByte_twn (s : State) (a : Nat) (b : Byte) : (s.wrByte a b).twn = s.twn := rfl
@[simp] theorem State.wrByte_hlt (s : State) (a : Nat) (b : Byte) : (s.wrByte a b).hlt = s.hlt := rfl
@[simp] theorem State.wrByte_sgw (s : State) (a : Nat) (b : Byte) : (s.wrByte a b).sgw = s.sgw := rfl
@[simp] theorem State.wrByte_psc (s : State) (a : Nat) (b : Byte) : (s.wrByte a b).psc = s.psc := rfl
@[simp] theorem State.wrByte_recorder (s : State) (a : Nat) (b : Byte) : (s.wrByte a b).recorder = s.recorder := rfl
@[simp] theorem State.wrByte_pwr (s : State) (a : Nat) (b : Byte) : (s.wrByte a b).pwr = s.pwr := rfl
@[simp] theorem State.wrByte_mgt (s : State) (a : Nat) (b : Byte) : (s.wrByte a b).mgt = s.mgt := rfl
@[simp] theorem State.wrByte_nv (s : State) (a : Nat) (b : Byte) : (s.wrByte a b).nv = s.nv := rfl

/-! `State.clearMem`: RAM bytes at 0. -/

@[simp] theorem State.clearMem_pending (s : State) (p : Nat → Bool) : (s.clearMem p).pending = s.pending := rfl
@[simp] theorem State.clearMem_regs (s : State) (p : Nat → Bool) : (s.clearMem p).regs = s.regs := rfl
@[simp] theorem State.clearMem_out (s : State) (p : Nat → Bool) : (s.clearMem p).out = s.out := rfl
@[simp] theorem State.clearMem_evq (s : State) (p : Nat → Bool) : (s.clearMem p).evq = s.evq := rfl
@[simp] theorem State.clearMem_fresh (s : State) (p : Nat → Bool) : (s.clearMem p).fresh = s.fresh := rfl
@[simp] theorem State.clearMem_acc (s : State) (p : Nat → Bool) : (s.clearMem p).acc = s.acc := rfl
@[simp] theorem State.clearMem_mono5 (s : State) (p : Nat → Bool) : (s.clearMem p).mono5 = s.mono5 := rfl
@[simp] theorem State.clearMem_lineA (s : State) (p : Nat → Bool) : (s.clearMem p).lineA = s.lineA := rfl
@[simp] theorem State.clearMem_lineB (s : State) (p : Nat → Bool) : (s.clearMem p).lineB = s.lineB := rfl
@[simp] theorem State.clearMem_portA1 (s : State) (p : Nat → Bool) : (s.clearMem p).portA1 = s.portA1 := rfl
@[simp] theorem State.clearMem_portA2 (s : State) (p : Nat → Bool) : (s.clearMem p).portA2 = s.portA2 := rfl
@[simp] theorem State.clearMem_portB1 (s : State) (p : Nat → Bool) : (s.clearMem p).portB1 = s.portB1 := rfl
@[simp] theorem State.clearMem_portB2 (s : State) (p : Nat → Bool) : (s.clearMem p).portB2 = s.portB2 := rfl
@[simp] theorem State.clearMem_top (s : State) (p : Nat → Bool) : (s.clearMem p).top = s.top := rfl
@[simp] theorem State.clearMem_beam (s : State) (p : Nat → Bool) : (s.clearMem p).beam = s.beam := rfl
@[simp] theorem State.clearMem_fab (s : State) (p : Nat → Bool) : (s.clearMem p).fab = s.fab := rfl
@[simp] theorem State.clearMem_tim (s : State) (p : Nat → Bool) : (s.clearMem p).tim = s.tim := rfl
@[simp] theorem State.clearMem_cans (s : State) (p : Nat → Bool) : (s.clearMem p).cans = s.cans := rfl
@[simp] theorem State.clearMem_wake (s : State) (p : Nat → Bool) : (s.clearMem p).wake = s.wake := rfl
@[simp] theorem State.clearMem_din (s : State) (p : Nat → Bool) : (s.clearMem p).din = s.din := rfl
@[simp] theorem State.clearMem_twn (s : State) (p : Nat → Bool) : (s.clearMem p).twn = s.twn := rfl
@[simp] theorem State.clearMem_hlt (s : State) (p : Nat → Bool) : (s.clearMem p).hlt = s.hlt := rfl
@[simp] theorem State.clearMem_sgw (s : State) (p : Nat → Bool) : (s.clearMem p).sgw = s.sgw := rfl
@[simp] theorem State.clearMem_psc (s : State) (p : Nat → Bool) : (s.clearMem p).psc = s.psc := rfl
@[simp] theorem State.clearMem_recorder (s : State) (p : Nat → Bool) : (s.clearMem p).recorder = s.recorder := rfl
@[simp] theorem State.clearMem_pwr (s : State) (p : Nat → Bool) : (s.clearMem p).pwr = s.pwr := rfl
@[simp] theorem State.clearMem_mgt (s : State) (p : Nat → Bool) : (s.clearMem p).mgt = s.mgt := rfl
@[simp] theorem State.clearMem_nv (s : State) (p : Nat → Bool) : (s.clearMem p).nv = s.nv := rfl

/-! `State.emit`: an output. -/

@[simp] theorem State.emit_pending (s : State) (o : Out) : (s.emit o).pending = s.pending := rfl
@[simp] theorem State.emit_regs (s : State) (o : Out) : (s.emit o).regs = s.regs := rfl
@[simp] theorem State.emit_mem (s : State) (o : Out) : (s.emit o).mem = s.mem := rfl
@[simp] theorem State.emit_evq (s : State) (o : Out) : (s.emit o).evq = s.evq := rfl
@[simp] theorem State.emit_fresh (s : State) (o : Out) : (s.emit o).fresh = s.fresh := rfl
@[simp] theorem State.emit_acc (s : State) (o : Out) : (s.emit o).acc = s.acc := rfl
@[simp] theorem State.emit_mono5 (s : State) (o : Out) : (s.emit o).mono5 = s.mono5 := rfl
@[simp] theorem State.emit_lineA (s : State) (o : Out) : (s.emit o).lineA = s.lineA := rfl
@[simp] theorem State.emit_lineB (s : State) (o : Out) : (s.emit o).lineB = s.lineB := rfl
@[simp] theorem State.emit_portA1 (s : State) (o : Out) : (s.emit o).portA1 = s.portA1 := rfl
@[simp] theorem State.emit_portA2 (s : State) (o : Out) : (s.emit o).portA2 = s.portA2 := rfl
@[simp] theorem State.emit_portB1 (s : State) (o : Out) : (s.emit o).portB1 = s.portB1 := rfl
@[simp] theorem State.emit_portB2 (s : State) (o : Out) : (s.emit o).portB2 = s.portB2 := rfl
@[simp] theorem State.emit_top (s : State) (o : Out) : (s.emit o).top = s.top := rfl
@[simp] theorem State.emit_beam (s : State) (o : Out) : (s.emit o).beam = s.beam := rfl
@[simp] theorem State.emit_fab (s : State) (o : Out) : (s.emit o).fab = s.fab := rfl
@[simp] theorem State.emit_tim (s : State) (o : Out) : (s.emit o).tim = s.tim := rfl
@[simp] theorem State.emit_cans (s : State) (o : Out) : (s.emit o).cans = s.cans := rfl
@[simp] theorem State.emit_wake (s : State) (o : Out) : (s.emit o).wake = s.wake := rfl
@[simp] theorem State.emit_din (s : State) (o : Out) : (s.emit o).din = s.din := rfl
@[simp] theorem State.emit_twn (s : State) (o : Out) : (s.emit o).twn = s.twn := rfl
@[simp] theorem State.emit_hlt (s : State) (o : Out) : (s.emit o).hlt = s.hlt := rfl
@[simp] theorem State.emit_sgw (s : State) (o : Out) : (s.emit o).sgw = s.sgw := rfl
@[simp] theorem State.emit_psc (s : State) (o : Out) : (s.emit o).psc = s.psc := rfl
@[simp] theorem State.emit_recorder (s : State) (o : Out) : (s.emit o).recorder = s.recorder := rfl
@[simp] theorem State.emit_pwr (s : State) (o : Out) : (s.emit o).pwr = s.pwr := rfl
@[simp] theorem State.emit_mgt (s : State) (o : Out) : (s.emit o).mgt = s.mgt := rfl
@[simp] theorem State.emit_nv (s : State) (o : Out) : (s.emit o).nv = s.nv := rfl

/-! `State.used`: a free value has been used. -/

@[simp] theorem State.used_pending (s : State)  : (s.used ).pending = s.pending := rfl
@[simp] theorem State.used_regs (s : State)  : (s.used ).regs = s.regs := rfl
@[simp] theorem State.used_mem (s : State)  : (s.used ).mem = s.mem := rfl
@[simp] theorem State.used_out (s : State)  : (s.used ).out = s.out := rfl
@[simp] theorem State.used_evq (s : State)  : (s.used ).evq = s.evq := rfl
@[simp] theorem State.used_acc (s : State)  : (s.used ).acc = s.acc := rfl
@[simp] theorem State.used_mono5 (s : State)  : (s.used ).mono5 = s.mono5 := rfl
@[simp] theorem State.used_lineA (s : State)  : (s.used ).lineA = s.lineA := rfl
@[simp] theorem State.used_lineB (s : State)  : (s.used ).lineB = s.lineB := rfl
@[simp] theorem State.used_portA1 (s : State)  : (s.used ).portA1 = s.portA1 := rfl
@[simp] theorem State.used_portA2 (s : State)  : (s.used ).portA2 = s.portA2 := rfl
@[simp] theorem State.used_portB1 (s : State)  : (s.used ).portB1 = s.portB1 := rfl
@[simp] theorem State.used_portB2 (s : State)  : (s.used ).portB2 = s.portB2 := rfl
@[simp] theorem State.used_top (s : State)  : (s.used ).top = s.top := rfl
@[simp] theorem State.used_beam (s : State)  : (s.used ).beam = s.beam := rfl
@[simp] theorem State.used_fab (s : State)  : (s.used ).fab = s.fab := rfl
@[simp] theorem State.used_tim (s : State)  : (s.used ).tim = s.tim := rfl
@[simp] theorem State.used_cans (s : State)  : (s.used ).cans = s.cans := rfl
@[simp] theorem State.used_wake (s : State)  : (s.used ).wake = s.wake := rfl
@[simp] theorem State.used_din (s : State)  : (s.used ).din = s.din := rfl
@[simp] theorem State.used_twn (s : State)  : (s.used ).twn = s.twn := rfl
@[simp] theorem State.used_hlt (s : State)  : (s.used ).hlt = s.hlt := rfl
@[simp] theorem State.used_sgw (s : State)  : (s.used ).sgw = s.sgw := rfl
@[simp] theorem State.used_psc (s : State)  : (s.used ).psc = s.psc := rfl
@[simp] theorem State.used_recorder (s : State)  : (s.used ).recorder = s.recorder := rfl
@[simp] theorem State.used_pwr (s : State)  : (s.used ).pwr = s.pwr := rfl
@[simp] theorem State.used_mgt (s : State)  : (s.used ).mgt = s.mgt := rfl
@[simp] theorem State.used_nv (s : State)  : (s.used ).nv = s.nv := rfl

/-! `State.setHeld`: a held high word. -/

@[simp] theorem State.setHeld_pending (s : State) (q : Requester) (pg : Nat) (w : Option PairWord) : (s.setHeld q pg w).pending = s.pending := rfl
@[simp] theorem State.setHeld_regs (s : State) (q : Requester) (pg : Nat) (w : Option PairWord) : (s.setHeld q pg w).regs = s.regs := rfl
@[simp] theorem State.setHeld_mem (s : State) (q : Requester) (pg : Nat) (w : Option PairWord) : (s.setHeld q pg w).mem = s.mem := rfl
@[simp] theorem State.setHeld_out (s : State) (q : Requester) (pg : Nat) (w : Option PairWord) : (s.setHeld q pg w).out = s.out := rfl
@[simp] theorem State.setHeld_evq (s : State) (q : Requester) (pg : Nat) (w : Option PairWord) : (s.setHeld q pg w).evq = s.evq := rfl
@[simp] theorem State.setHeld_fresh (s : State) (q : Requester) (pg : Nat) (w : Option PairWord) : (s.setHeld q pg w).fresh = s.fresh := rfl
@[simp] theorem State.setHeld_mono5 (s : State) (q : Requester) (pg : Nat) (w : Option PairWord) : (s.setHeld q pg w).mono5 = s.mono5 := rfl
@[simp] theorem State.setHeld_lineA (s : State) (q : Requester) (pg : Nat) (w : Option PairWord) : (s.setHeld q pg w).lineA = s.lineA := rfl
@[simp] theorem State.setHeld_lineB (s : State) (q : Requester) (pg : Nat) (w : Option PairWord) : (s.setHeld q pg w).lineB = s.lineB := rfl
@[simp] theorem State.setHeld_portA1 (s : State) (q : Requester) (pg : Nat) (w : Option PairWord) : (s.setHeld q pg w).portA1 = s.portA1 := rfl
@[simp] theorem State.setHeld_portA2 (s : State) (q : Requester) (pg : Nat) (w : Option PairWord) : (s.setHeld q pg w).portA2 = s.portA2 := rfl
@[simp] theorem State.setHeld_portB1 (s : State) (q : Requester) (pg : Nat) (w : Option PairWord) : (s.setHeld q pg w).portB1 = s.portB1 := rfl
@[simp] theorem State.setHeld_portB2 (s : State) (q : Requester) (pg : Nat) (w : Option PairWord) : (s.setHeld q pg w).portB2 = s.portB2 := rfl
@[simp] theorem State.setHeld_top (s : State) (q : Requester) (pg : Nat) (w : Option PairWord) : (s.setHeld q pg w).top = s.top := rfl
@[simp] theorem State.setHeld_beam (s : State) (q : Requester) (pg : Nat) (w : Option PairWord) : (s.setHeld q pg w).beam = s.beam := rfl
@[simp] theorem State.setHeld_fab (s : State) (q : Requester) (pg : Nat) (w : Option PairWord) : (s.setHeld q pg w).fab = s.fab := rfl
@[simp] theorem State.setHeld_tim (s : State) (q : Requester) (pg : Nat) (w : Option PairWord) : (s.setHeld q pg w).tim = s.tim := rfl
@[simp] theorem State.setHeld_cans (s : State) (q : Requester) (pg : Nat) (w : Option PairWord) : (s.setHeld q pg w).cans = s.cans := rfl
@[simp] theorem State.setHeld_wake (s : State) (q : Requester) (pg : Nat) (w : Option PairWord) : (s.setHeld q pg w).wake = s.wake := rfl
@[simp] theorem State.setHeld_din (s : State) (q : Requester) (pg : Nat) (w : Option PairWord) : (s.setHeld q pg w).din = s.din := rfl
@[simp] theorem State.setHeld_twn (s : State) (q : Requester) (pg : Nat) (w : Option PairWord) : (s.setHeld q pg w).twn = s.twn := rfl
@[simp] theorem State.setHeld_hlt (s : State) (q : Requester) (pg : Nat) (w : Option PairWord) : (s.setHeld q pg w).hlt = s.hlt := rfl
@[simp] theorem State.setHeld_sgw (s : State) (q : Requester) (pg : Nat) (w : Option PairWord) : (s.setHeld q pg w).sgw = s.sgw := rfl
@[simp] theorem State.setHeld_psc (s : State) (q : Requester) (pg : Nat) (w : Option PairWord) : (s.setHeld q pg w).psc = s.psc := rfl
@[simp] theorem State.setHeld_recorder (s : State) (q : Requester) (pg : Nat) (w : Option PairWord) : (s.setHeld q pg w).recorder = s.recorder := rfl
@[simp] theorem State.setHeld_pwr (s : State) (q : Requester) (pg : Nat) (w : Option PairWord) : (s.setHeld q pg w).pwr = s.pwr := rfl
@[simp] theorem State.setHeld_mgt (s : State) (q : Requester) (pg : Nat) (w : Option PairWord) : (s.setHeld q pg w).mgt = s.mgt := rfl
@[simp] theorem State.setHeld_nv (s : State) (q : Requester) (pg : Nat) (w : Option PairWord) : (s.setHeld q pg w).nv = s.nv := rfl

/-! `State.setLatch`: a latched high word. -/

@[simp] theorem State.setLatch_pending (s : State) (q : Requester) (pg : Nat) (w : Option PairWord) : (s.setLatch q pg w).pending = s.pending := rfl
@[simp] theorem State.setLatch_regs (s : State) (q : Requester) (pg : Nat) (w : Option PairWord) : (s.setLatch q pg w).regs = s.regs := rfl
@[simp] theorem State.setLatch_mem (s : State) (q : Requester) (pg : Nat) (w : Option PairWord) : (s.setLatch q pg w).mem = s.mem := rfl
@[simp] theorem State.setLatch_out (s : State) (q : Requester) (pg : Nat) (w : Option PairWord) : (s.setLatch q pg w).out = s.out := rfl
@[simp] theorem State.setLatch_evq (s : State) (q : Requester) (pg : Nat) (w : Option PairWord) : (s.setLatch q pg w).evq = s.evq := rfl
@[simp] theorem State.setLatch_fresh (s : State) (q : Requester) (pg : Nat) (w : Option PairWord) : (s.setLatch q pg w).fresh = s.fresh := rfl
@[simp] theorem State.setLatch_mono5 (s : State) (q : Requester) (pg : Nat) (w : Option PairWord) : (s.setLatch q pg w).mono5 = s.mono5 := rfl
@[simp] theorem State.setLatch_lineA (s : State) (q : Requester) (pg : Nat) (w : Option PairWord) : (s.setLatch q pg w).lineA = s.lineA := rfl
@[simp] theorem State.setLatch_lineB (s : State) (q : Requester) (pg : Nat) (w : Option PairWord) : (s.setLatch q pg w).lineB = s.lineB := rfl
@[simp] theorem State.setLatch_portA1 (s : State) (q : Requester) (pg : Nat) (w : Option PairWord) : (s.setLatch q pg w).portA1 = s.portA1 := rfl
@[simp] theorem State.setLatch_portA2 (s : State) (q : Requester) (pg : Nat) (w : Option PairWord) : (s.setLatch q pg w).portA2 = s.portA2 := rfl
@[simp] theorem State.setLatch_portB1 (s : State) (q : Requester) (pg : Nat) (w : Option PairWord) : (s.setLatch q pg w).portB1 = s.portB1 := rfl
@[simp] theorem State.setLatch_portB2 (s : State) (q : Requester) (pg : Nat) (w : Option PairWord) : (s.setLatch q pg w).portB2 = s.portB2 := rfl
@[simp] theorem State.setLatch_top (s : State) (q : Requester) (pg : Nat) (w : Option PairWord) : (s.setLatch q pg w).top = s.top := rfl
@[simp] theorem State.setLatch_beam (s : State) (q : Requester) (pg : Nat) (w : Option PairWord) : (s.setLatch q pg w).beam = s.beam := rfl
@[simp] theorem State.setLatch_fab (s : State) (q : Requester) (pg : Nat) (w : Option PairWord) : (s.setLatch q pg w).fab = s.fab := rfl
@[simp] theorem State.setLatch_tim (s : State) (q : Requester) (pg : Nat) (w : Option PairWord) : (s.setLatch q pg w).tim = s.tim := rfl
@[simp] theorem State.setLatch_cans (s : State) (q : Requester) (pg : Nat) (w : Option PairWord) : (s.setLatch q pg w).cans = s.cans := rfl
@[simp] theorem State.setLatch_wake (s : State) (q : Requester) (pg : Nat) (w : Option PairWord) : (s.setLatch q pg w).wake = s.wake := rfl
@[simp] theorem State.setLatch_din (s : State) (q : Requester) (pg : Nat) (w : Option PairWord) : (s.setLatch q pg w).din = s.din := rfl
@[simp] theorem State.setLatch_twn (s : State) (q : Requester) (pg : Nat) (w : Option PairWord) : (s.setLatch q pg w).twn = s.twn := rfl
@[simp] theorem State.setLatch_hlt (s : State) (q : Requester) (pg : Nat) (w : Option PairWord) : (s.setLatch q pg w).hlt = s.hlt := rfl
@[simp] theorem State.setLatch_sgw (s : State) (q : Requester) (pg : Nat) (w : Option PairWord) : (s.setLatch q pg w).sgw = s.sgw := rfl
@[simp] theorem State.setLatch_psc (s : State) (q : Requester) (pg : Nat) (w : Option PairWord) : (s.setLatch q pg w).psc = s.psc := rfl
@[simp] theorem State.setLatch_recorder (s : State) (q : Requester) (pg : Nat) (w : Option PairWord) : (s.setLatch q pg w).recorder = s.recorder := rfl
@[simp] theorem State.setLatch_pwr (s : State) (q : Requester) (pg : Nat) (w : Option PairWord) : (s.setLatch q pg w).pwr = s.pwr := rfl
@[simp] theorem State.setLatch_mgt (s : State) (q : Requester) (pg : Nat) (w : Option PairWord) : (s.setLatch q pg w).mgt = s.mgt := rfl
@[simp] theorem State.setLatch_nv (s : State) (q : Requester) (pg : Nat) (w : Option PairWord) : (s.setLatch q pg w).nv = s.nv := rfl

/-! `State.setView`: the view of a side. -/

@[simp] theorem State.setView_pending (s : State) (p : BPort) (v : SideView) : (s.setView p v).pending = s.pending := rfl
@[simp] theorem State.setView_regs (s : State) (p : BPort) (v : SideView) : (s.setView p v).regs = s.regs := rfl
@[simp] theorem State.setView_mem (s : State) (p : BPort) (v : SideView) : (s.setView p v).mem = s.mem := rfl
@[simp] theorem State.setView_out (s : State) (p : BPort) (v : SideView) : (s.setView p v).out = s.out := rfl
@[simp] theorem State.setView_evq (s : State) (p : BPort) (v : SideView) : (s.setView p v).evq = s.evq := rfl
@[simp] theorem State.setView_fresh (s : State) (p : BPort) (v : SideView) : (s.setView p v).fresh = s.fresh := rfl
@[simp] theorem State.setView_acc (s : State) (p : BPort) (v : SideView) : (s.setView p v).acc = s.acc := rfl
@[simp] theorem State.setView_mono5 (s : State) (p : BPort) (v : SideView) : (s.setView p v).mono5 = s.mono5 := rfl
@[simp] theorem State.setView_lineA (s : State) (p : BPort) (v : SideView) : (s.setView p v).lineA = s.lineA := rfl
@[simp] theorem State.setView_lineB (s : State) (p : BPort) (v : SideView) : (s.setView p v).lineB = s.lineB := rfl
@[simp] theorem State.setView_portA1 (s : State) (p : BPort) (v : SideView) : (s.setView p v).portA1 = s.portA1 := rfl
@[simp] theorem State.setView_portA2 (s : State) (p : BPort) (v : SideView) : (s.setView p v).portA2 = s.portA2 := rfl
@[simp] theorem State.setView_portB1 (s : State) (p : BPort) (v : SideView) : (s.setView p v).portB1 = s.portB1 := rfl
@[simp] theorem State.setView_portB2 (s : State) (p : BPort) (v : SideView) : (s.setView p v).portB2 = s.portB2 := rfl
@[simp] theorem State.setView_beam (s : State) (p : BPort) (v : SideView) : (s.setView p v).beam = s.beam := rfl
@[simp] theorem State.setView_fab (s : State) (p : BPort) (v : SideView) : (s.setView p v).fab = s.fab := rfl
@[simp] theorem State.setView_tim (s : State) (p : BPort) (v : SideView) : (s.setView p v).tim = s.tim := rfl
@[simp] theorem State.setView_cans (s : State) (p : BPort) (v : SideView) : (s.setView p v).cans = s.cans := rfl
@[simp] theorem State.setView_wake (s : State) (p : BPort) (v : SideView) : (s.setView p v).wake = s.wake := rfl
@[simp] theorem State.setView_din (s : State) (p : BPort) (v : SideView) : (s.setView p v).din = s.din := rfl
@[simp] theorem State.setView_twn (s : State) (p : BPort) (v : SideView) : (s.setView p v).twn = s.twn := rfl
@[simp] theorem State.setView_hlt (s : State) (p : BPort) (v : SideView) : (s.setView p v).hlt = s.hlt := rfl
@[simp] theorem State.setView_sgw (s : State) (p : BPort) (v : SideView) : (s.setView p v).sgw = s.sgw := rfl
@[simp] theorem State.setView_psc (s : State) (p : BPort) (v : SideView) : (s.setView p v).psc = s.psc := rfl
@[simp] theorem State.setView_recorder (s : State) (p : BPort) (v : SideView) : (s.setView p v).recorder = s.recorder := rfl
@[simp] theorem State.setView_pwr (s : State) (p : BPort) (v : SideView) : (s.setView p v).pwr = s.pwr := rfl
@[simp] theorem State.setView_mgt (s : State) (p : BPort) (v : SideView) : (s.setView p v).mgt = s.mgt := rfl
@[simp] theorem State.setView_nv (s : State) (p : BPort) (v : SideView) : (s.setView p v).nv = s.nv := rfl

/-! `State.setDir`: a direction of a beam. -/

@[simp] theorem State.setDir_pending (s : State) (x : BPort) (d : BeamDir) : (s.setDir x d).pending = s.pending := rfl
@[simp] theorem State.setDir_regs (s : State) (x : BPort) (d : BeamDir) : (s.setDir x d).regs = s.regs := rfl
@[simp] theorem State.setDir_mem (s : State) (x : BPort) (d : BeamDir) : (s.setDir x d).mem = s.mem := rfl
@[simp] theorem State.setDir_out (s : State) (x : BPort) (d : BeamDir) : (s.setDir x d).out = s.out := rfl
@[simp] theorem State.setDir_evq (s : State) (x : BPort) (d : BeamDir) : (s.setDir x d).evq = s.evq := rfl
@[simp] theorem State.setDir_fresh (s : State) (x : BPort) (d : BeamDir) : (s.setDir x d).fresh = s.fresh := rfl
@[simp] theorem State.setDir_acc (s : State) (x : BPort) (d : BeamDir) : (s.setDir x d).acc = s.acc := rfl
@[simp] theorem State.setDir_mono5 (s : State) (x : BPort) (d : BeamDir) : (s.setDir x d).mono5 = s.mono5 := rfl
@[simp] theorem State.setDir_lineA (s : State) (x : BPort) (d : BeamDir) : (s.setDir x d).lineA = s.lineA := rfl
@[simp] theorem State.setDir_lineB (s : State) (x : BPort) (d : BeamDir) : (s.setDir x d).lineB = s.lineB := rfl
@[simp] theorem State.setDir_portA1 (s : State) (x : BPort) (d : BeamDir) : (s.setDir x d).portA1 = s.portA1 := rfl
@[simp] theorem State.setDir_portA2 (s : State) (x : BPort) (d : BeamDir) : (s.setDir x d).portA2 = s.portA2 := rfl
@[simp] theorem State.setDir_portB1 (s : State) (x : BPort) (d : BeamDir) : (s.setDir x d).portB1 = s.portB1 := rfl
@[simp] theorem State.setDir_portB2 (s : State) (x : BPort) (d : BeamDir) : (s.setDir x d).portB2 = s.portB2 := rfl
@[simp] theorem State.setDir_top (s : State) (x : BPort) (d : BeamDir) : (s.setDir x d).top = s.top := rfl
@[simp] theorem State.setDir_fab (s : State) (x : BPort) (d : BeamDir) : (s.setDir x d).fab = s.fab := rfl
@[simp] theorem State.setDir_tim (s : State) (x : BPort) (d : BeamDir) : (s.setDir x d).tim = s.tim := rfl
@[simp] theorem State.setDir_cans (s : State) (x : BPort) (d : BeamDir) : (s.setDir x d).cans = s.cans := rfl
@[simp] theorem State.setDir_wake (s : State) (x : BPort) (d : BeamDir) : (s.setDir x d).wake = s.wake := rfl
@[simp] theorem State.setDir_din (s : State) (x : BPort) (d : BeamDir) : (s.setDir x d).din = s.din := rfl
@[simp] theorem State.setDir_twn (s : State) (x : BPort) (d : BeamDir) : (s.setDir x d).twn = s.twn := rfl
@[simp] theorem State.setDir_hlt (s : State) (x : BPort) (d : BeamDir) : (s.setDir x d).hlt = s.hlt := rfl
@[simp] theorem State.setDir_sgw (s : State) (x : BPort) (d : BeamDir) : (s.setDir x d).sgw = s.sgw := rfl
@[simp] theorem State.setDir_psc (s : State) (x : BPort) (d : BeamDir) : (s.setDir x d).psc = s.psc := rfl
@[simp] theorem State.setDir_recorder (s : State) (x : BPort) (d : BeamDir) : (s.setDir x d).recorder = s.recorder := rfl
@[simp] theorem State.setDir_pwr (s : State) (x : BPort) (d : BeamDir) : (s.setDir x d).pwr = s.pwr := rfl
@[simp] theorem State.setDir_mgt (s : State) (x : BPort) (d : BeamDir) : (s.setDir x d).mgt = s.mgt := rfl
@[simp] theorem State.setDir_nv (s : State) (x : BPort) (d : BeamDir) : (s.setDir x d).nv = s.nv := rfl

/-! `State.setQueue`: a queue of a port. -/

@[simp] theorem State.setQueue_pending (s : State) (port q : Nat) (fs : List QFrame) : (s.setQueue port q fs).pending = s.pending := rfl
@[simp] theorem State.setQueue_regs (s : State) (port q : Nat) (fs : List QFrame) : (s.setQueue port q fs).regs = s.regs := rfl
@[simp] theorem State.setQueue_mem (s : State) (port q : Nat) (fs : List QFrame) : (s.setQueue port q fs).mem = s.mem := rfl
@[simp] theorem State.setQueue_out (s : State) (port q : Nat) (fs : List QFrame) : (s.setQueue port q fs).out = s.out := rfl
@[simp] theorem State.setQueue_evq (s : State) (port q : Nat) (fs : List QFrame) : (s.setQueue port q fs).evq = s.evq := rfl
@[simp] theorem State.setQueue_fresh (s : State) (port q : Nat) (fs : List QFrame) : (s.setQueue port q fs).fresh = s.fresh := rfl
@[simp] theorem State.setQueue_acc (s : State) (port q : Nat) (fs : List QFrame) : (s.setQueue port q fs).acc = s.acc := rfl
@[simp] theorem State.setQueue_mono5 (s : State) (port q : Nat) (fs : List QFrame) : (s.setQueue port q fs).mono5 = s.mono5 := rfl
@[simp] theorem State.setQueue_lineA (s : State) (port q : Nat) (fs : List QFrame) : (s.setQueue port q fs).lineA = s.lineA := rfl
@[simp] theorem State.setQueue_lineB (s : State) (port q : Nat) (fs : List QFrame) : (s.setQueue port q fs).lineB = s.lineB := rfl
@[simp] theorem State.setQueue_portA1 (s : State) (port q : Nat) (fs : List QFrame) : (s.setQueue port q fs).portA1 = s.portA1 := rfl
@[simp] theorem State.setQueue_portA2 (s : State) (port q : Nat) (fs : List QFrame) : (s.setQueue port q fs).portA2 = s.portA2 := rfl
@[simp] theorem State.setQueue_portB1 (s : State) (port q : Nat) (fs : List QFrame) : (s.setQueue port q fs).portB1 = s.portB1 := rfl
@[simp] theorem State.setQueue_portB2 (s : State) (port q : Nat) (fs : List QFrame) : (s.setQueue port q fs).portB2 = s.portB2 := rfl
@[simp] theorem State.setQueue_top (s : State) (port q : Nat) (fs : List QFrame) : (s.setQueue port q fs).top = s.top := rfl
@[simp] theorem State.setQueue_beam (s : State) (port q : Nat) (fs : List QFrame) : (s.setQueue port q fs).beam = s.beam := rfl
@[simp] theorem State.setQueue_tim (s : State) (port q : Nat) (fs : List QFrame) : (s.setQueue port q fs).tim = s.tim := rfl
@[simp] theorem State.setQueue_cans (s : State) (port q : Nat) (fs : List QFrame) : (s.setQueue port q fs).cans = s.cans := rfl
@[simp] theorem State.setQueue_wake (s : State) (port q : Nat) (fs : List QFrame) : (s.setQueue port q fs).wake = s.wake := rfl
@[simp] theorem State.setQueue_din (s : State) (port q : Nat) (fs : List QFrame) : (s.setQueue port q fs).din = s.din := rfl
@[simp] theorem State.setQueue_twn (s : State) (port q : Nat) (fs : List QFrame) : (s.setQueue port q fs).twn = s.twn := rfl
@[simp] theorem State.setQueue_hlt (s : State) (port q : Nat) (fs : List QFrame) : (s.setQueue port q fs).hlt = s.hlt := rfl
@[simp] theorem State.setQueue_sgw (s : State) (port q : Nat) (fs : List QFrame) : (s.setQueue port q fs).sgw = s.sgw := rfl
@[simp] theorem State.setQueue_psc (s : State) (port q : Nat) (fs : List QFrame) : (s.setQueue port q fs).psc = s.psc := rfl
@[simp] theorem State.setQueue_recorder (s : State) (port q : Nat) (fs : List QFrame) : (s.setQueue port q fs).recorder = s.recorder := rfl
@[simp] theorem State.setQueue_pwr (s : State) (port q : Nat) (fs : List QFrame) : (s.setQueue port q fs).pwr = s.pwr := rfl
@[simp] theorem State.setQueue_mgt (s : State) (port q : Nat) (fs : List QFrame) : (s.setQueue port q fs).mgt = s.mgt := rfl
@[simp] theorem State.setQueue_nv (s : State) (port q : Nat) (fs : List QFrame) : (s.setQueue port q fs).nv = s.nv := rfl

/-! `State.setWays`: the ways of a set. -/

@[simp] theorem State.setWays_pending (s : State) (set : Nat) (ws : List Way) : (s.setWays set ws).pending = s.pending := rfl
@[simp] theorem State.setWays_regs (s : State) (set : Nat) (ws : List Way) : (s.setWays set ws).regs = s.regs := rfl
@[simp] theorem State.setWays_mem (s : State) (set : Nat) (ws : List Way) : (s.setWays set ws).mem = s.mem := rfl
@[simp] theorem State.setWays_out (s : State) (set : Nat) (ws : List Way) : (s.setWays set ws).out = s.out := rfl
@[simp] theorem State.setWays_evq (s : State) (set : Nat) (ws : List Way) : (s.setWays set ws).evq = s.evq := rfl
@[simp] theorem State.setWays_fresh (s : State) (set : Nat) (ws : List Way) : (s.setWays set ws).fresh = s.fresh := rfl
@[simp] theorem State.setWays_acc (s : State) (set : Nat) (ws : List Way) : (s.setWays set ws).acc = s.acc := rfl
@[simp] theorem State.setWays_mono5 (s : State) (set : Nat) (ws : List Way) : (s.setWays set ws).mono5 = s.mono5 := rfl
@[simp] theorem State.setWays_lineA (s : State) (set : Nat) (ws : List Way) : (s.setWays set ws).lineA = s.lineA := rfl
@[simp] theorem State.setWays_lineB (s : State) (set : Nat) (ws : List Way) : (s.setWays set ws).lineB = s.lineB := rfl
@[simp] theorem State.setWays_portA1 (s : State) (set : Nat) (ws : List Way) : (s.setWays set ws).portA1 = s.portA1 := rfl
@[simp] theorem State.setWays_portA2 (s : State) (set : Nat) (ws : List Way) : (s.setWays set ws).portA2 = s.portA2 := rfl
@[simp] theorem State.setWays_portB1 (s : State) (set : Nat) (ws : List Way) : (s.setWays set ws).portB1 = s.portB1 := rfl
@[simp] theorem State.setWays_portB2 (s : State) (set : Nat) (ws : List Way) : (s.setWays set ws).portB2 = s.portB2 := rfl
@[simp] theorem State.setWays_top (s : State) (set : Nat) (ws : List Way) : (s.setWays set ws).top = s.top := rfl
@[simp] theorem State.setWays_beam (s : State) (set : Nat) (ws : List Way) : (s.setWays set ws).beam = s.beam := rfl
@[simp] theorem State.setWays_tim (s : State) (set : Nat) (ws : List Way) : (s.setWays set ws).tim = s.tim := rfl
@[simp] theorem State.setWays_cans (s : State) (set : Nat) (ws : List Way) : (s.setWays set ws).cans = s.cans := rfl
@[simp] theorem State.setWays_wake (s : State) (set : Nat) (ws : List Way) : (s.setWays set ws).wake = s.wake := rfl
@[simp] theorem State.setWays_din (s : State) (set : Nat) (ws : List Way) : (s.setWays set ws).din = s.din := rfl
@[simp] theorem State.setWays_twn (s : State) (set : Nat) (ws : List Way) : (s.setWays set ws).twn = s.twn := rfl
@[simp] theorem State.setWays_hlt (s : State) (set : Nat) (ws : List Way) : (s.setWays set ws).hlt = s.hlt := rfl
@[simp] theorem State.setWays_sgw (s : State) (set : Nat) (ws : List Way) : (s.setWays set ws).sgw = s.sgw := rfl
@[simp] theorem State.setWays_psc (s : State) (set : Nat) (ws : List Way) : (s.setWays set ws).psc = s.psc := rfl
@[simp] theorem State.setWays_recorder (s : State) (set : Nat) (ws : List Way) : (s.setWays set ws).recorder = s.recorder := rfl
@[simp] theorem State.setWays_pwr (s : State) (set : Nat) (ws : List Way) : (s.setWays set ws).pwr = s.pwr := rfl
@[simp] theorem State.setWays_mgt (s : State) (set : Nat) (ws : List Way) : (s.setWays set ws).mgt = s.mgt := rfl
@[simp] theorem State.setWays_nv (s : State) (set : Nat) (ws : List Way) : (s.setWays set ws).nv = s.nv := rfl

/-! `State.setCan`: a channel. -/

@[simp] theorem State.setCan_pending (s : State) (n : Nat) (c : CanState) : (s.setCan n c).pending = s.pending := rfl
@[simp] theorem State.setCan_regs (s : State) (n : Nat) (c : CanState) : (s.setCan n c).regs = s.regs := rfl
@[simp] theorem State.setCan_mem (s : State) (n : Nat) (c : CanState) : (s.setCan n c).mem = s.mem := rfl
@[simp] theorem State.setCan_out (s : State) (n : Nat) (c : CanState) : (s.setCan n c).out = s.out := rfl
@[simp] theorem State.setCan_evq (s : State) (n : Nat) (c : CanState) : (s.setCan n c).evq = s.evq := rfl
@[simp] theorem State.setCan_fresh (s : State) (n : Nat) (c : CanState) : (s.setCan n c).fresh = s.fresh := rfl
@[simp] theorem State.setCan_acc (s : State) (n : Nat) (c : CanState) : (s.setCan n c).acc = s.acc := rfl
@[simp] theorem State.setCan_mono5 (s : State) (n : Nat) (c : CanState) : (s.setCan n c).mono5 = s.mono5 := rfl
@[simp] theorem State.setCan_lineA (s : State) (n : Nat) (c : CanState) : (s.setCan n c).lineA = s.lineA := rfl
@[simp] theorem State.setCan_lineB (s : State) (n : Nat) (c : CanState) : (s.setCan n c).lineB = s.lineB := rfl
@[simp] theorem State.setCan_portA1 (s : State) (n : Nat) (c : CanState) : (s.setCan n c).portA1 = s.portA1 := rfl
@[simp] theorem State.setCan_portA2 (s : State) (n : Nat) (c : CanState) : (s.setCan n c).portA2 = s.portA2 := rfl
@[simp] theorem State.setCan_portB1 (s : State) (n : Nat) (c : CanState) : (s.setCan n c).portB1 = s.portB1 := rfl
@[simp] theorem State.setCan_portB2 (s : State) (n : Nat) (c : CanState) : (s.setCan n c).portB2 = s.portB2 := rfl
@[simp] theorem State.setCan_top (s : State) (n : Nat) (c : CanState) : (s.setCan n c).top = s.top := rfl
@[simp] theorem State.setCan_beam (s : State) (n : Nat) (c : CanState) : (s.setCan n c).beam = s.beam := rfl
@[simp] theorem State.setCan_fab (s : State) (n : Nat) (c : CanState) : (s.setCan n c).fab = s.fab := rfl
@[simp] theorem State.setCan_tim (s : State) (n : Nat) (c : CanState) : (s.setCan n c).tim = s.tim := rfl
@[simp] theorem State.setCan_wake (s : State) (n : Nat) (c : CanState) : (s.setCan n c).wake = s.wake := rfl
@[simp] theorem State.setCan_din (s : State) (n : Nat) (c : CanState) : (s.setCan n c).din = s.din := rfl
@[simp] theorem State.setCan_twn (s : State) (n : Nat) (c : CanState) : (s.setCan n c).twn = s.twn := rfl
@[simp] theorem State.setCan_hlt (s : State) (n : Nat) (c : CanState) : (s.setCan n c).hlt = s.hlt := rfl
@[simp] theorem State.setCan_sgw (s : State) (n : Nat) (c : CanState) : (s.setCan n c).sgw = s.sgw := rfl
@[simp] theorem State.setCan_psc (s : State) (n : Nat) (c : CanState) : (s.setCan n c).psc = s.psc := rfl
@[simp] theorem State.setCan_recorder (s : State) (n : Nat) (c : CanState) : (s.setCan n c).recorder = s.recorder := rfl
@[simp] theorem State.setCan_pwr (s : State) (n : Nat) (c : CanState) : (s.setCan n c).pwr = s.pwr := rfl
@[simp] theorem State.setCan_mgt (s : State) (n : Nat) (c : CanState) : (s.setCan n c).mgt = s.mgt := rfl
@[simp] theorem State.setCan_nv (s : State) (n : Nat) (c : CanState) : (s.setCan n c).nv = s.nv := rfl

/-! `State.setDin`: an input. -/

@[simp] theorem State.setDin_pending (s : State) (i : Nat) (d : DinInput) : (s.setDin i d).pending = s.pending := rfl
@[simp] theorem State.setDin_regs (s : State) (i : Nat) (d : DinInput) : (s.setDin i d).regs = s.regs := rfl
@[simp] theorem State.setDin_mem (s : State) (i : Nat) (d : DinInput) : (s.setDin i d).mem = s.mem := rfl
@[simp] theorem State.setDin_out (s : State) (i : Nat) (d : DinInput) : (s.setDin i d).out = s.out := rfl
@[simp] theorem State.setDin_evq (s : State) (i : Nat) (d : DinInput) : (s.setDin i d).evq = s.evq := rfl
@[simp] theorem State.setDin_fresh (s : State) (i : Nat) (d : DinInput) : (s.setDin i d).fresh = s.fresh := rfl
@[simp] theorem State.setDin_acc (s : State) (i : Nat) (d : DinInput) : (s.setDin i d).acc = s.acc := rfl
@[simp] theorem State.setDin_mono5 (s : State) (i : Nat) (d : DinInput) : (s.setDin i d).mono5 = s.mono5 := rfl
@[simp] theorem State.setDin_lineA (s : State) (i : Nat) (d : DinInput) : (s.setDin i d).lineA = s.lineA := rfl
@[simp] theorem State.setDin_lineB (s : State) (i : Nat) (d : DinInput) : (s.setDin i d).lineB = s.lineB := rfl
@[simp] theorem State.setDin_portA1 (s : State) (i : Nat) (d : DinInput) : (s.setDin i d).portA1 = s.portA1 := rfl
@[simp] theorem State.setDin_portA2 (s : State) (i : Nat) (d : DinInput) : (s.setDin i d).portA2 = s.portA2 := rfl
@[simp] theorem State.setDin_portB1 (s : State) (i : Nat) (d : DinInput) : (s.setDin i d).portB1 = s.portB1 := rfl
@[simp] theorem State.setDin_portB2 (s : State) (i : Nat) (d : DinInput) : (s.setDin i d).portB2 = s.portB2 := rfl
@[simp] theorem State.setDin_top (s : State) (i : Nat) (d : DinInput) : (s.setDin i d).top = s.top := rfl
@[simp] theorem State.setDin_beam (s : State) (i : Nat) (d : DinInput) : (s.setDin i d).beam = s.beam := rfl
@[simp] theorem State.setDin_fab (s : State) (i : Nat) (d : DinInput) : (s.setDin i d).fab = s.fab := rfl
@[simp] theorem State.setDin_tim (s : State) (i : Nat) (d : DinInput) : (s.setDin i d).tim = s.tim := rfl
@[simp] theorem State.setDin_cans (s : State) (i : Nat) (d : DinInput) : (s.setDin i d).cans = s.cans := rfl
@[simp] theorem State.setDin_wake (s : State) (i : Nat) (d : DinInput) : (s.setDin i d).wake = s.wake := rfl
@[simp] theorem State.setDin_twn (s : State) (i : Nat) (d : DinInput) : (s.setDin i d).twn = s.twn := rfl
@[simp] theorem State.setDin_hlt (s : State) (i : Nat) (d : DinInput) : (s.setDin i d).hlt = s.hlt := rfl
@[simp] theorem State.setDin_sgw (s : State) (i : Nat) (d : DinInput) : (s.setDin i d).sgw = s.sgw := rfl
@[simp] theorem State.setDin_psc (s : State) (i : Nat) (d : DinInput) : (s.setDin i d).psc = s.psc := rfl
@[simp] theorem State.setDin_recorder (s : State) (i : Nat) (d : DinInput) : (s.setDin i d).recorder = s.recorder := rfl
@[simp] theorem State.setDin_pwr (s : State) (i : Nat) (d : DinInput) : (s.setDin i d).pwr = s.pwr := rfl
@[simp] theorem State.setDin_mgt (s : State) (i : Nat) (d : DinInput) : (s.setDin i d).mgt = s.mgt := rfl
@[simp] theorem State.setDin_nv (s : State) (i : Nat) (d : DinInput) : (s.setDin i d).nv = s.nv := rfl

/-! `State.modTwn`: the block beside its registers. -/

@[simp] theorem State.modTwn_pending (s : State) (f : TwnState → TwnState) : (s.modTwn f).pending = s.pending := rfl
@[simp] theorem State.modTwn_regs (s : State) (f : TwnState → TwnState) : (s.modTwn f).regs = s.regs := rfl
@[simp] theorem State.modTwn_mem (s : State) (f : TwnState → TwnState) : (s.modTwn f).mem = s.mem := rfl
@[simp] theorem State.modTwn_out (s : State) (f : TwnState → TwnState) : (s.modTwn f).out = s.out := rfl
@[simp] theorem State.modTwn_evq (s : State) (f : TwnState → TwnState) : (s.modTwn f).evq = s.evq := rfl
@[simp] theorem State.modTwn_fresh (s : State) (f : TwnState → TwnState) : (s.modTwn f).fresh = s.fresh := rfl
@[simp] theorem State.modTwn_acc (s : State) (f : TwnState → TwnState) : (s.modTwn f).acc = s.acc := rfl
@[simp] theorem State.modTwn_mono5 (s : State) (f : TwnState → TwnState) : (s.modTwn f).mono5 = s.mono5 := rfl
@[simp] theorem State.modTwn_lineA (s : State) (f : TwnState → TwnState) : (s.modTwn f).lineA = s.lineA := rfl
@[simp] theorem State.modTwn_lineB (s : State) (f : TwnState → TwnState) : (s.modTwn f).lineB = s.lineB := rfl
@[simp] theorem State.modTwn_portA1 (s : State) (f : TwnState → TwnState) : (s.modTwn f).portA1 = s.portA1 := rfl
@[simp] theorem State.modTwn_portA2 (s : State) (f : TwnState → TwnState) : (s.modTwn f).portA2 = s.portA2 := rfl
@[simp] theorem State.modTwn_portB1 (s : State) (f : TwnState → TwnState) : (s.modTwn f).portB1 = s.portB1 := rfl
@[simp] theorem State.modTwn_portB2 (s : State) (f : TwnState → TwnState) : (s.modTwn f).portB2 = s.portB2 := rfl
@[simp] theorem State.modTwn_top (s : State) (f : TwnState → TwnState) : (s.modTwn f).top = s.top := rfl
@[simp] theorem State.modTwn_beam (s : State) (f : TwnState → TwnState) : (s.modTwn f).beam = s.beam := rfl
@[simp] theorem State.modTwn_fab (s : State) (f : TwnState → TwnState) : (s.modTwn f).fab = s.fab := rfl
@[simp] theorem State.modTwn_tim (s : State) (f : TwnState → TwnState) : (s.modTwn f).tim = s.tim := rfl
@[simp] theorem State.modTwn_cans (s : State) (f : TwnState → TwnState) : (s.modTwn f).cans = s.cans := rfl
@[simp] theorem State.modTwn_wake (s : State) (f : TwnState → TwnState) : (s.modTwn f).wake = s.wake := rfl
@[simp] theorem State.modTwn_din (s : State) (f : TwnState → TwnState) : (s.modTwn f).din = s.din := rfl
@[simp] theorem State.modTwn_hlt (s : State) (f : TwnState → TwnState) : (s.modTwn f).hlt = s.hlt := rfl
@[simp] theorem State.modTwn_sgw (s : State) (f : TwnState → TwnState) : (s.modTwn f).sgw = s.sgw := rfl
@[simp] theorem State.modTwn_psc (s : State) (f : TwnState → TwnState) : (s.modTwn f).psc = s.psc := rfl
@[simp] theorem State.modTwn_recorder (s : State) (f : TwnState → TwnState) : (s.modTwn f).recorder = s.recorder := rfl
@[simp] theorem State.modTwn_pwr (s : State) (f : TwnState → TwnState) : (s.modTwn f).pwr = s.pwr := rfl
@[simp] theorem State.modTwn_mgt (s : State) (f : TwnState → TwnState) : (s.modTwn f).mgt = s.mgt := rfl
@[simp] theorem State.modTwn_nv (s : State) (f : TwnState → TwnState) : (s.modTwn f).nv = s.nv := rfl

@[simp] theorem State.modTwn_twn (s : State) (f : TwnState → TwnState) : (s.modTwn f).twn = f s.twn := rfl

/-! `State.modWake`: the block beside its registers. -/

@[simp] theorem State.modWake_pending (s : State) (f : WakeState → WakeState) : (s.modWake f).pending = s.pending := rfl
@[simp] theorem State.modWake_regs (s : State) (f : WakeState → WakeState) : (s.modWake f).regs = s.regs := rfl
@[simp] theorem State.modWake_mem (s : State) (f : WakeState → WakeState) : (s.modWake f).mem = s.mem := rfl
@[simp] theorem State.modWake_out (s : State) (f : WakeState → WakeState) : (s.modWake f).out = s.out := rfl
@[simp] theorem State.modWake_evq (s : State) (f : WakeState → WakeState) : (s.modWake f).evq = s.evq := rfl
@[simp] theorem State.modWake_fresh (s : State) (f : WakeState → WakeState) : (s.modWake f).fresh = s.fresh := rfl
@[simp] theorem State.modWake_acc (s : State) (f : WakeState → WakeState) : (s.modWake f).acc = s.acc := rfl
@[simp] theorem State.modWake_mono5 (s : State) (f : WakeState → WakeState) : (s.modWake f).mono5 = s.mono5 := rfl
@[simp] theorem State.modWake_lineA (s : State) (f : WakeState → WakeState) : (s.modWake f).lineA = s.lineA := rfl
@[simp] theorem State.modWake_lineB (s : State) (f : WakeState → WakeState) : (s.modWake f).lineB = s.lineB := rfl
@[simp] theorem State.modWake_portA1 (s : State) (f : WakeState → WakeState) : (s.modWake f).portA1 = s.portA1 := rfl
@[simp] theorem State.modWake_portA2 (s : State) (f : WakeState → WakeState) : (s.modWake f).portA2 = s.portA2 := rfl
@[simp] theorem State.modWake_portB1 (s : State) (f : WakeState → WakeState) : (s.modWake f).portB1 = s.portB1 := rfl
@[simp] theorem State.modWake_portB2 (s : State) (f : WakeState → WakeState) : (s.modWake f).portB2 = s.portB2 := rfl
@[simp] theorem State.modWake_top (s : State) (f : WakeState → WakeState) : (s.modWake f).top = s.top := rfl
@[simp] theorem State.modWake_beam (s : State) (f : WakeState → WakeState) : (s.modWake f).beam = s.beam := rfl
@[simp] theorem State.modWake_fab (s : State) (f : WakeState → WakeState) : (s.modWake f).fab = s.fab := rfl
@[simp] theorem State.modWake_tim (s : State) (f : WakeState → WakeState) : (s.modWake f).tim = s.tim := rfl
@[simp] theorem State.modWake_cans (s : State) (f : WakeState → WakeState) : (s.modWake f).cans = s.cans := rfl
@[simp] theorem State.modWake_din (s : State) (f : WakeState → WakeState) : (s.modWake f).din = s.din := rfl
@[simp] theorem State.modWake_twn (s : State) (f : WakeState → WakeState) : (s.modWake f).twn = s.twn := rfl
@[simp] theorem State.modWake_hlt (s : State) (f : WakeState → WakeState) : (s.modWake f).hlt = s.hlt := rfl
@[simp] theorem State.modWake_sgw (s : State) (f : WakeState → WakeState) : (s.modWake f).sgw = s.sgw := rfl
@[simp] theorem State.modWake_psc (s : State) (f : WakeState → WakeState) : (s.modWake f).psc = s.psc := rfl
@[simp] theorem State.modWake_recorder (s : State) (f : WakeState → WakeState) : (s.modWake f).recorder = s.recorder := rfl
@[simp] theorem State.modWake_pwr (s : State) (f : WakeState → WakeState) : (s.modWake f).pwr = s.pwr := rfl
@[simp] theorem State.modWake_mgt (s : State) (f : WakeState → WakeState) : (s.modWake f).mgt = s.mgt := rfl
@[simp] theorem State.modWake_nv (s : State) (f : WakeState → WakeState) : (s.modWake f).nv = s.nv := rfl

@[simp] theorem State.modWake_wake (s : State) (f : WakeState → WakeState) : (s.modWake f).wake = f s.wake := rfl

/-! `State.modPsc`: the block beside its registers. -/

@[simp] theorem State.modPsc_pending (s : State) (f : PscState → PscState) : (s.modPsc f).pending = s.pending := rfl
@[simp] theorem State.modPsc_regs (s : State) (f : PscState → PscState) : (s.modPsc f).regs = s.regs := rfl
@[simp] theorem State.modPsc_mem (s : State) (f : PscState → PscState) : (s.modPsc f).mem = s.mem := rfl
@[simp] theorem State.modPsc_out (s : State) (f : PscState → PscState) : (s.modPsc f).out = s.out := rfl
@[simp] theorem State.modPsc_evq (s : State) (f : PscState → PscState) : (s.modPsc f).evq = s.evq := rfl
@[simp] theorem State.modPsc_fresh (s : State) (f : PscState → PscState) : (s.modPsc f).fresh = s.fresh := rfl
@[simp] theorem State.modPsc_acc (s : State) (f : PscState → PscState) : (s.modPsc f).acc = s.acc := rfl
@[simp] theorem State.modPsc_mono5 (s : State) (f : PscState → PscState) : (s.modPsc f).mono5 = s.mono5 := rfl
@[simp] theorem State.modPsc_lineA (s : State) (f : PscState → PscState) : (s.modPsc f).lineA = s.lineA := rfl
@[simp] theorem State.modPsc_lineB (s : State) (f : PscState → PscState) : (s.modPsc f).lineB = s.lineB := rfl
@[simp] theorem State.modPsc_portA1 (s : State) (f : PscState → PscState) : (s.modPsc f).portA1 = s.portA1 := rfl
@[simp] theorem State.modPsc_portA2 (s : State) (f : PscState → PscState) : (s.modPsc f).portA2 = s.portA2 := rfl
@[simp] theorem State.modPsc_portB1 (s : State) (f : PscState → PscState) : (s.modPsc f).portB1 = s.portB1 := rfl
@[simp] theorem State.modPsc_portB2 (s : State) (f : PscState → PscState) : (s.modPsc f).portB2 = s.portB2 := rfl
@[simp] theorem State.modPsc_top (s : State) (f : PscState → PscState) : (s.modPsc f).top = s.top := rfl
@[simp] theorem State.modPsc_beam (s : State) (f : PscState → PscState) : (s.modPsc f).beam = s.beam := rfl
@[simp] theorem State.modPsc_fab (s : State) (f : PscState → PscState) : (s.modPsc f).fab = s.fab := rfl
@[simp] theorem State.modPsc_tim (s : State) (f : PscState → PscState) : (s.modPsc f).tim = s.tim := rfl
@[simp] theorem State.modPsc_cans (s : State) (f : PscState → PscState) : (s.modPsc f).cans = s.cans := rfl
@[simp] theorem State.modPsc_wake (s : State) (f : PscState → PscState) : (s.modPsc f).wake = s.wake := rfl
@[simp] theorem State.modPsc_din (s : State) (f : PscState → PscState) : (s.modPsc f).din = s.din := rfl
@[simp] theorem State.modPsc_twn (s : State) (f : PscState → PscState) : (s.modPsc f).twn = s.twn := rfl
@[simp] theorem State.modPsc_hlt (s : State) (f : PscState → PscState) : (s.modPsc f).hlt = s.hlt := rfl
@[simp] theorem State.modPsc_sgw (s : State) (f : PscState → PscState) : (s.modPsc f).sgw = s.sgw := rfl
@[simp] theorem State.modPsc_recorder (s : State) (f : PscState → PscState) : (s.modPsc f).recorder = s.recorder := rfl
@[simp] theorem State.modPsc_pwr (s : State) (f : PscState → PscState) : (s.modPsc f).pwr = s.pwr := rfl
@[simp] theorem State.modPsc_mgt (s : State) (f : PscState → PscState) : (s.modPsc f).mgt = s.mgt := rfl
@[simp] theorem State.modPsc_nv (s : State) (f : PscState → PscState) : (s.modPsc f).nv = s.nv := rfl

@[simp] theorem State.modPsc_psc (s : State) (f : PscState → PscState) : (s.modPsc f).psc = f s.psc := rfl

/-! `State.modRec`: the block beside its registers. -/

@[simp] theorem State.modRec_pending (s : State) (f : RecState → RecState) : (s.modRec f).pending = s.pending := rfl
@[simp] theorem State.modRec_regs (s : State) (f : RecState → RecState) : (s.modRec f).regs = s.regs := rfl
@[simp] theorem State.modRec_mem (s : State) (f : RecState → RecState) : (s.modRec f).mem = s.mem := rfl
@[simp] theorem State.modRec_out (s : State) (f : RecState → RecState) : (s.modRec f).out = s.out := rfl
@[simp] theorem State.modRec_evq (s : State) (f : RecState → RecState) : (s.modRec f).evq = s.evq := rfl
@[simp] theorem State.modRec_fresh (s : State) (f : RecState → RecState) : (s.modRec f).fresh = s.fresh := rfl
@[simp] theorem State.modRec_acc (s : State) (f : RecState → RecState) : (s.modRec f).acc = s.acc := rfl
@[simp] theorem State.modRec_mono5 (s : State) (f : RecState → RecState) : (s.modRec f).mono5 = s.mono5 := rfl
@[simp] theorem State.modRec_lineA (s : State) (f : RecState → RecState) : (s.modRec f).lineA = s.lineA := rfl
@[simp] theorem State.modRec_lineB (s : State) (f : RecState → RecState) : (s.modRec f).lineB = s.lineB := rfl
@[simp] theorem State.modRec_portA1 (s : State) (f : RecState → RecState) : (s.modRec f).portA1 = s.portA1 := rfl
@[simp] theorem State.modRec_portA2 (s : State) (f : RecState → RecState) : (s.modRec f).portA2 = s.portA2 := rfl
@[simp] theorem State.modRec_portB1 (s : State) (f : RecState → RecState) : (s.modRec f).portB1 = s.portB1 := rfl
@[simp] theorem State.modRec_portB2 (s : State) (f : RecState → RecState) : (s.modRec f).portB2 = s.portB2 := rfl
@[simp] theorem State.modRec_top (s : State) (f : RecState → RecState) : (s.modRec f).top = s.top := rfl
@[simp] theorem State.modRec_beam (s : State) (f : RecState → RecState) : (s.modRec f).beam = s.beam := rfl
@[simp] theorem State.modRec_fab (s : State) (f : RecState → RecState) : (s.modRec f).fab = s.fab := rfl
@[simp] theorem State.modRec_tim (s : State) (f : RecState → RecState) : (s.modRec f).tim = s.tim := rfl
@[simp] theorem State.modRec_cans (s : State) (f : RecState → RecState) : (s.modRec f).cans = s.cans := rfl
@[simp] theorem State.modRec_wake (s : State) (f : RecState → RecState) : (s.modRec f).wake = s.wake := rfl
@[simp] theorem State.modRec_din (s : State) (f : RecState → RecState) : (s.modRec f).din = s.din := rfl
@[simp] theorem State.modRec_twn (s : State) (f : RecState → RecState) : (s.modRec f).twn = s.twn := rfl
@[simp] theorem State.modRec_hlt (s : State) (f : RecState → RecState) : (s.modRec f).hlt = s.hlt := rfl
@[simp] theorem State.modRec_sgw (s : State) (f : RecState → RecState) : (s.modRec f).sgw = s.sgw := rfl
@[simp] theorem State.modRec_psc (s : State) (f : RecState → RecState) : (s.modRec f).psc = s.psc := rfl
@[simp] theorem State.modRec_pwr (s : State) (f : RecState → RecState) : (s.modRec f).pwr = s.pwr := rfl
@[simp] theorem State.modRec_mgt (s : State) (f : RecState → RecState) : (s.modRec f).mgt = s.mgt := rfl
@[simp] theorem State.modRec_nv (s : State) (f : RecState → RecState) : (s.modRec f).nv = s.nv := rfl

@[simp] theorem State.modRec_recorder (s : State) (f : RecState → RecState) : (s.modRec f).recorder = f s.recorder := rfl

/-! `State.modPwr`: the block beside its registers. -/

@[simp] theorem State.modPwr_pending (s : State) (f : PwrState → PwrState) : (s.modPwr f).pending = s.pending := rfl
@[simp] theorem State.modPwr_regs (s : State) (f : PwrState → PwrState) : (s.modPwr f).regs = s.regs := rfl
@[simp] theorem State.modPwr_mem (s : State) (f : PwrState → PwrState) : (s.modPwr f).mem = s.mem := rfl
@[simp] theorem State.modPwr_out (s : State) (f : PwrState → PwrState) : (s.modPwr f).out = s.out := rfl
@[simp] theorem State.modPwr_evq (s : State) (f : PwrState → PwrState) : (s.modPwr f).evq = s.evq := rfl
@[simp] theorem State.modPwr_fresh (s : State) (f : PwrState → PwrState) : (s.modPwr f).fresh = s.fresh := rfl
@[simp] theorem State.modPwr_acc (s : State) (f : PwrState → PwrState) : (s.modPwr f).acc = s.acc := rfl
@[simp] theorem State.modPwr_mono5 (s : State) (f : PwrState → PwrState) : (s.modPwr f).mono5 = s.mono5 := rfl
@[simp] theorem State.modPwr_lineA (s : State) (f : PwrState → PwrState) : (s.modPwr f).lineA = s.lineA := rfl
@[simp] theorem State.modPwr_lineB (s : State) (f : PwrState → PwrState) : (s.modPwr f).lineB = s.lineB := rfl
@[simp] theorem State.modPwr_portA1 (s : State) (f : PwrState → PwrState) : (s.modPwr f).portA1 = s.portA1 := rfl
@[simp] theorem State.modPwr_portA2 (s : State) (f : PwrState → PwrState) : (s.modPwr f).portA2 = s.portA2 := rfl
@[simp] theorem State.modPwr_portB1 (s : State) (f : PwrState → PwrState) : (s.modPwr f).portB1 = s.portB1 := rfl
@[simp] theorem State.modPwr_portB2 (s : State) (f : PwrState → PwrState) : (s.modPwr f).portB2 = s.portB2 := rfl
@[simp] theorem State.modPwr_top (s : State) (f : PwrState → PwrState) : (s.modPwr f).top = s.top := rfl
@[simp] theorem State.modPwr_beam (s : State) (f : PwrState → PwrState) : (s.modPwr f).beam = s.beam := rfl
@[simp] theorem State.modPwr_fab (s : State) (f : PwrState → PwrState) : (s.modPwr f).fab = s.fab := rfl
@[simp] theorem State.modPwr_tim (s : State) (f : PwrState → PwrState) : (s.modPwr f).tim = s.tim := rfl
@[simp] theorem State.modPwr_cans (s : State) (f : PwrState → PwrState) : (s.modPwr f).cans = s.cans := rfl
@[simp] theorem State.modPwr_wake (s : State) (f : PwrState → PwrState) : (s.modPwr f).wake = s.wake := rfl
@[simp] theorem State.modPwr_din (s : State) (f : PwrState → PwrState) : (s.modPwr f).din = s.din := rfl
@[simp] theorem State.modPwr_twn (s : State) (f : PwrState → PwrState) : (s.modPwr f).twn = s.twn := rfl
@[simp] theorem State.modPwr_hlt (s : State) (f : PwrState → PwrState) : (s.modPwr f).hlt = s.hlt := rfl
@[simp] theorem State.modPwr_sgw (s : State) (f : PwrState → PwrState) : (s.modPwr f).sgw = s.sgw := rfl
@[simp] theorem State.modPwr_psc (s : State) (f : PwrState → PwrState) : (s.modPwr f).psc = s.psc := rfl
@[simp] theorem State.modPwr_recorder (s : State) (f : PwrState → PwrState) : (s.modPwr f).recorder = s.recorder := rfl
@[simp] theorem State.modPwr_mgt (s : State) (f : PwrState → PwrState) : (s.modPwr f).mgt = s.mgt := rfl
@[simp] theorem State.modPwr_nv (s : State) (f : PwrState → PwrState) : (s.modPwr f).nv = s.nv := rfl

@[simp] theorem State.modPwr_pwr (s : State) (f : PwrState → PwrState) : (s.modPwr f).pwr = f s.pwr := rfl

/-! `State.modHlt`: the block beside its registers. -/

@[simp] theorem State.modHlt_pending (s : State) (f : HltState → HltState) : (s.modHlt f).pending = s.pending := rfl
@[simp] theorem State.modHlt_regs (s : State) (f : HltState → HltState) : (s.modHlt f).regs = s.regs := rfl
@[simp] theorem State.modHlt_mem (s : State) (f : HltState → HltState) : (s.modHlt f).mem = s.mem := rfl
@[simp] theorem State.modHlt_out (s : State) (f : HltState → HltState) : (s.modHlt f).out = s.out := rfl
@[simp] theorem State.modHlt_evq (s : State) (f : HltState → HltState) : (s.modHlt f).evq = s.evq := rfl
@[simp] theorem State.modHlt_fresh (s : State) (f : HltState → HltState) : (s.modHlt f).fresh = s.fresh := rfl
@[simp] theorem State.modHlt_acc (s : State) (f : HltState → HltState) : (s.modHlt f).acc = s.acc := rfl
@[simp] theorem State.modHlt_mono5 (s : State) (f : HltState → HltState) : (s.modHlt f).mono5 = s.mono5 := rfl
@[simp] theorem State.modHlt_lineA (s : State) (f : HltState → HltState) : (s.modHlt f).lineA = s.lineA := rfl
@[simp] theorem State.modHlt_lineB (s : State) (f : HltState → HltState) : (s.modHlt f).lineB = s.lineB := rfl
@[simp] theorem State.modHlt_portA1 (s : State) (f : HltState → HltState) : (s.modHlt f).portA1 = s.portA1 := rfl
@[simp] theorem State.modHlt_portA2 (s : State) (f : HltState → HltState) : (s.modHlt f).portA2 = s.portA2 := rfl
@[simp] theorem State.modHlt_portB1 (s : State) (f : HltState → HltState) : (s.modHlt f).portB1 = s.portB1 := rfl
@[simp] theorem State.modHlt_portB2 (s : State) (f : HltState → HltState) : (s.modHlt f).portB2 = s.portB2 := rfl
@[simp] theorem State.modHlt_top (s : State) (f : HltState → HltState) : (s.modHlt f).top = s.top := rfl
@[simp] theorem State.modHlt_beam (s : State) (f : HltState → HltState) : (s.modHlt f).beam = s.beam := rfl
@[simp] theorem State.modHlt_fab (s : State) (f : HltState → HltState) : (s.modHlt f).fab = s.fab := rfl
@[simp] theorem State.modHlt_tim (s : State) (f : HltState → HltState) : (s.modHlt f).tim = s.tim := rfl
@[simp] theorem State.modHlt_cans (s : State) (f : HltState → HltState) : (s.modHlt f).cans = s.cans := rfl
@[simp] theorem State.modHlt_wake (s : State) (f : HltState → HltState) : (s.modHlt f).wake = s.wake := rfl
@[simp] theorem State.modHlt_din (s : State) (f : HltState → HltState) : (s.modHlt f).din = s.din := rfl
@[simp] theorem State.modHlt_twn (s : State) (f : HltState → HltState) : (s.modHlt f).twn = s.twn := rfl
@[simp] theorem State.modHlt_sgw (s : State) (f : HltState → HltState) : (s.modHlt f).sgw = s.sgw := rfl
@[simp] theorem State.modHlt_psc (s : State) (f : HltState → HltState) : (s.modHlt f).psc = s.psc := rfl
@[simp] theorem State.modHlt_recorder (s : State) (f : HltState → HltState) : (s.modHlt f).recorder = s.recorder := rfl
@[simp] theorem State.modHlt_pwr (s : State) (f : HltState → HltState) : (s.modHlt f).pwr = s.pwr := rfl
@[simp] theorem State.modHlt_mgt (s : State) (f : HltState → HltState) : (s.modHlt f).mgt = s.mgt := rfl
@[simp] theorem State.modHlt_nv (s : State) (f : HltState → HltState) : (s.modHlt f).nv = s.nv := rfl

@[simp] theorem State.modHlt_hlt (s : State) (f : HltState → HltState) : (s.modHlt f).hlt = f s.hlt := rfl

/-! `State.modMgt`: the block beside its registers. -/

@[simp] theorem State.modMgt_pending (s : State) (f : MgtState → MgtState) : (s.modMgt f).pending = s.pending := rfl
@[simp] theorem State.modMgt_regs (s : State) (f : MgtState → MgtState) : (s.modMgt f).regs = s.regs := rfl
@[simp] theorem State.modMgt_mem (s : State) (f : MgtState → MgtState) : (s.modMgt f).mem = s.mem := rfl
@[simp] theorem State.modMgt_out (s : State) (f : MgtState → MgtState) : (s.modMgt f).out = s.out := rfl
@[simp] theorem State.modMgt_evq (s : State) (f : MgtState → MgtState) : (s.modMgt f).evq = s.evq := rfl
@[simp] theorem State.modMgt_fresh (s : State) (f : MgtState → MgtState) : (s.modMgt f).fresh = s.fresh := rfl
@[simp] theorem State.modMgt_acc (s : State) (f : MgtState → MgtState) : (s.modMgt f).acc = s.acc := rfl
@[simp] theorem State.modMgt_mono5 (s : State) (f : MgtState → MgtState) : (s.modMgt f).mono5 = s.mono5 := rfl
@[simp] theorem State.modMgt_lineA (s : State) (f : MgtState → MgtState) : (s.modMgt f).lineA = s.lineA := rfl
@[simp] theorem State.modMgt_lineB (s : State) (f : MgtState → MgtState) : (s.modMgt f).lineB = s.lineB := rfl
@[simp] theorem State.modMgt_portA1 (s : State) (f : MgtState → MgtState) : (s.modMgt f).portA1 = s.portA1 := rfl
@[simp] theorem State.modMgt_portA2 (s : State) (f : MgtState → MgtState) : (s.modMgt f).portA2 = s.portA2 := rfl
@[simp] theorem State.modMgt_portB1 (s : State) (f : MgtState → MgtState) : (s.modMgt f).portB1 = s.portB1 := rfl
@[simp] theorem State.modMgt_portB2 (s : State) (f : MgtState → MgtState) : (s.modMgt f).portB2 = s.portB2 := rfl
@[simp] theorem State.modMgt_top (s : State) (f : MgtState → MgtState) : (s.modMgt f).top = s.top := rfl
@[simp] theorem State.modMgt_beam (s : State) (f : MgtState → MgtState) : (s.modMgt f).beam = s.beam := rfl
@[simp] theorem State.modMgt_fab (s : State) (f : MgtState → MgtState) : (s.modMgt f).fab = s.fab := rfl
@[simp] theorem State.modMgt_tim (s : State) (f : MgtState → MgtState) : (s.modMgt f).tim = s.tim := rfl
@[simp] theorem State.modMgt_cans (s : State) (f : MgtState → MgtState) : (s.modMgt f).cans = s.cans := rfl
@[simp] theorem State.modMgt_wake (s : State) (f : MgtState → MgtState) : (s.modMgt f).wake = s.wake := rfl
@[simp] theorem State.modMgt_din (s : State) (f : MgtState → MgtState) : (s.modMgt f).din = s.din := rfl
@[simp] theorem State.modMgt_twn (s : State) (f : MgtState → MgtState) : (s.modMgt f).twn = s.twn := rfl
@[simp] theorem State.modMgt_hlt (s : State) (f : MgtState → MgtState) : (s.modMgt f).hlt = s.hlt := rfl
@[simp] theorem State.modMgt_sgw (s : State) (f : MgtState → MgtState) : (s.modMgt f).sgw = s.sgw := rfl
@[simp] theorem State.modMgt_psc (s : State) (f : MgtState → MgtState) : (s.modMgt f).psc = s.psc := rfl
@[simp] theorem State.modMgt_recorder (s : State) (f : MgtState → MgtState) : (s.modMgt f).recorder = s.recorder := rfl
@[simp] theorem State.modMgt_pwr (s : State) (f : MgtState → MgtState) : (s.modMgt f).pwr = s.pwr := rfl
@[simp] theorem State.modMgt_nv (s : State) (f : MgtState → MgtState) : (s.modMgt f).nv = s.nv := rfl

@[simp] theorem State.modMgt_mgt (s : State) (f : MgtState → MgtState) : (s.modMgt f).mgt = f s.mgt := rfl

/-! `State.modNv`: the block beside its registers. -/

@[simp] theorem State.modNv_pending (s : State) (f : NvState → NvState) : (s.modNv f).pending = s.pending := rfl
@[simp] theorem State.modNv_regs (s : State) (f : NvState → NvState) : (s.modNv f).regs = s.regs := rfl
@[simp] theorem State.modNv_mem (s : State) (f : NvState → NvState) : (s.modNv f).mem = s.mem := rfl
@[simp] theorem State.modNv_out (s : State) (f : NvState → NvState) : (s.modNv f).out = s.out := rfl
@[simp] theorem State.modNv_evq (s : State) (f : NvState → NvState) : (s.modNv f).evq = s.evq := rfl
@[simp] theorem State.modNv_fresh (s : State) (f : NvState → NvState) : (s.modNv f).fresh = s.fresh := rfl
@[simp] theorem State.modNv_acc (s : State) (f : NvState → NvState) : (s.modNv f).acc = s.acc := rfl
@[simp] theorem State.modNv_mono5 (s : State) (f : NvState → NvState) : (s.modNv f).mono5 = s.mono5 := rfl
@[simp] theorem State.modNv_lineA (s : State) (f : NvState → NvState) : (s.modNv f).lineA = s.lineA := rfl
@[simp] theorem State.modNv_lineB (s : State) (f : NvState → NvState) : (s.modNv f).lineB = s.lineB := rfl
@[simp] theorem State.modNv_portA1 (s : State) (f : NvState → NvState) : (s.modNv f).portA1 = s.portA1 := rfl
@[simp] theorem State.modNv_portA2 (s : State) (f : NvState → NvState) : (s.modNv f).portA2 = s.portA2 := rfl
@[simp] theorem State.modNv_portB1 (s : State) (f : NvState → NvState) : (s.modNv f).portB1 = s.portB1 := rfl
@[simp] theorem State.modNv_portB2 (s : State) (f : NvState → NvState) : (s.modNv f).portB2 = s.portB2 := rfl
@[simp] theorem State.modNv_top (s : State) (f : NvState → NvState) : (s.modNv f).top = s.top := rfl
@[simp] theorem State.modNv_beam (s : State) (f : NvState → NvState) : (s.modNv f).beam = s.beam := rfl
@[simp] theorem State.modNv_fab (s : State) (f : NvState → NvState) : (s.modNv f).fab = s.fab := rfl
@[simp] theorem State.modNv_tim (s : State) (f : NvState → NvState) : (s.modNv f).tim = s.tim := rfl
@[simp] theorem State.modNv_cans (s : State) (f : NvState → NvState) : (s.modNv f).cans = s.cans := rfl
@[simp] theorem State.modNv_wake (s : State) (f : NvState → NvState) : (s.modNv f).wake = s.wake := rfl
@[simp] theorem State.modNv_din (s : State) (f : NvState → NvState) : (s.modNv f).din = s.din := rfl
@[simp] theorem State.modNv_twn (s : State) (f : NvState → NvState) : (s.modNv f).twn = s.twn := rfl
@[simp] theorem State.modNv_hlt (s : State) (f : NvState → NvState) : (s.modNv f).hlt = s.hlt := rfl
@[simp] theorem State.modNv_sgw (s : State) (f : NvState → NvState) : (s.modNv f).sgw = s.sgw := rfl
@[simp] theorem State.modNv_psc (s : State) (f : NvState → NvState) : (s.modNv f).psc = s.psc := rfl
@[simp] theorem State.modNv_recorder (s : State) (f : NvState → NvState) : (s.modNv f).recorder = s.recorder := rfl
@[simp] theorem State.modNv_pwr (s : State) (f : NvState → NvState) : (s.modNv f).pwr = s.pwr := rfl
@[simp] theorem State.modNv_mgt (s : State) (f : NvState → NvState) : (s.modNv f).mgt = s.mgt := rfl

@[simp] theorem State.modNv_nv (s : State) (f : NvState → NvState) : (s.modNv f).nv = f s.nv := rfl

/-! `State.modSgw`: the block beside its registers. -/

@[simp] theorem State.modSgw_pending (s : State) (f : SgwState → SgwState) : (s.modSgw f).pending = s.pending := rfl
@[simp] theorem State.modSgw_regs (s : State) (f : SgwState → SgwState) : (s.modSgw f).regs = s.regs := rfl
@[simp] theorem State.modSgw_mem (s : State) (f : SgwState → SgwState) : (s.modSgw f).mem = s.mem := rfl
@[simp] theorem State.modSgw_out (s : State) (f : SgwState → SgwState) : (s.modSgw f).out = s.out := rfl
@[simp] theorem State.modSgw_evq (s : State) (f : SgwState → SgwState) : (s.modSgw f).evq = s.evq := rfl
@[simp] theorem State.modSgw_fresh (s : State) (f : SgwState → SgwState) : (s.modSgw f).fresh = s.fresh := rfl
@[simp] theorem State.modSgw_acc (s : State) (f : SgwState → SgwState) : (s.modSgw f).acc = s.acc := rfl
@[simp] theorem State.modSgw_mono5 (s : State) (f : SgwState → SgwState) : (s.modSgw f).mono5 = s.mono5 := rfl
@[simp] theorem State.modSgw_lineA (s : State) (f : SgwState → SgwState) : (s.modSgw f).lineA = s.lineA := rfl
@[simp] theorem State.modSgw_lineB (s : State) (f : SgwState → SgwState) : (s.modSgw f).lineB = s.lineB := rfl
@[simp] theorem State.modSgw_portA1 (s : State) (f : SgwState → SgwState) : (s.modSgw f).portA1 = s.portA1 := rfl
@[simp] theorem State.modSgw_portA2 (s : State) (f : SgwState → SgwState) : (s.modSgw f).portA2 = s.portA2 := rfl
@[simp] theorem State.modSgw_portB1 (s : State) (f : SgwState → SgwState) : (s.modSgw f).portB1 = s.portB1 := rfl
@[simp] theorem State.modSgw_portB2 (s : State) (f : SgwState → SgwState) : (s.modSgw f).portB2 = s.portB2 := rfl
@[simp] theorem State.modSgw_top (s : State) (f : SgwState → SgwState) : (s.modSgw f).top = s.top := rfl
@[simp] theorem State.modSgw_beam (s : State) (f : SgwState → SgwState) : (s.modSgw f).beam = s.beam := rfl
@[simp] theorem State.modSgw_fab (s : State) (f : SgwState → SgwState) : (s.modSgw f).fab = s.fab := rfl
@[simp] theorem State.modSgw_tim (s : State) (f : SgwState → SgwState) : (s.modSgw f).tim = s.tim := rfl
@[simp] theorem State.modSgw_cans (s : State) (f : SgwState → SgwState) : (s.modSgw f).cans = s.cans := rfl
@[simp] theorem State.modSgw_wake (s : State) (f : SgwState → SgwState) : (s.modSgw f).wake = s.wake := rfl
@[simp] theorem State.modSgw_din (s : State) (f : SgwState → SgwState) : (s.modSgw f).din = s.din := rfl
@[simp] theorem State.modSgw_twn (s : State) (f : SgwState → SgwState) : (s.modSgw f).twn = s.twn := rfl
@[simp] theorem State.modSgw_hlt (s : State) (f : SgwState → SgwState) : (s.modSgw f).hlt = s.hlt := rfl
@[simp] theorem State.modSgw_psc (s : State) (f : SgwState → SgwState) : (s.modSgw f).psc = s.psc := rfl
@[simp] theorem State.modSgw_recorder (s : State) (f : SgwState → SgwState) : (s.modSgw f).recorder = s.recorder := rfl
@[simp] theorem State.modSgw_pwr (s : State) (f : SgwState → SgwState) : (s.modSgw f).pwr = s.pwr := rfl
@[simp] theorem State.modSgw_mgt (s : State) (f : SgwState → SgwState) : (s.modSgw f).mgt = s.mgt := rfl
@[simp] theorem State.modSgw_nv (s : State) (f : SgwState → SgwState) : (s.modSgw f).nv = s.nv := rfl

@[simp] theorem State.modSgw_sgw (s : State) (f : SgwState → SgwState) : (s.modSgw f).sgw = f s.sgw := rfl

/-! `State.setLine`: a line. -/

@[simp] theorem State.setLine_pending (s : State) (l : Line) (x : LineState) : (s.setLine l x).pending = s.pending := by cases l <;> rfl
@[simp] theorem State.setLine_regs (s : State) (l : Line) (x : LineState) : (s.setLine l x).regs = s.regs := by cases l <;> rfl
@[simp] theorem State.setLine_mem (s : State) (l : Line) (x : LineState) : (s.setLine l x).mem = s.mem := by cases l <;> rfl
@[simp] theorem State.setLine_out (s : State) (l : Line) (x : LineState) : (s.setLine l x).out = s.out := by cases l <;> rfl
@[simp] theorem State.setLine_evq (s : State) (l : Line) (x : LineState) : (s.setLine l x).evq = s.evq := by cases l <;> rfl
@[simp] theorem State.setLine_fresh (s : State) (l : Line) (x : LineState) : (s.setLine l x).fresh = s.fresh := by cases l <;> rfl
@[simp] theorem State.setLine_acc (s : State) (l : Line) (x : LineState) : (s.setLine l x).acc = s.acc := by cases l <;> rfl
@[simp] theorem State.setLine_mono5 (s : State) (l : Line) (x : LineState) : (s.setLine l x).mono5 = s.mono5 := by cases l <;> rfl
@[simp] theorem State.setLine_portA1 (s : State) (l : Line) (x : LineState) : (s.setLine l x).portA1 = s.portA1 := by cases l <;> rfl
@[simp] theorem State.setLine_portA2 (s : State) (l : Line) (x : LineState) : (s.setLine l x).portA2 = s.portA2 := by cases l <;> rfl
@[simp] theorem State.setLine_portB1 (s : State) (l : Line) (x : LineState) : (s.setLine l x).portB1 = s.portB1 := by cases l <;> rfl
@[simp] theorem State.setLine_portB2 (s : State) (l : Line) (x : LineState) : (s.setLine l x).portB2 = s.portB2 := by cases l <;> rfl
@[simp] theorem State.setLine_top (s : State) (l : Line) (x : LineState) : (s.setLine l x).top = s.top := by cases l <;> rfl
@[simp] theorem State.setLine_beam (s : State) (l : Line) (x : LineState) : (s.setLine l x).beam = s.beam := by cases l <;> rfl
@[simp] theorem State.setLine_fab (s : State) (l : Line) (x : LineState) : (s.setLine l x).fab = s.fab := by cases l <;> rfl
@[simp] theorem State.setLine_tim (s : State) (l : Line) (x : LineState) : (s.setLine l x).tim = s.tim := by cases l <;> rfl
@[simp] theorem State.setLine_cans (s : State) (l : Line) (x : LineState) : (s.setLine l x).cans = s.cans := by cases l <;> rfl
@[simp] theorem State.setLine_wake (s : State) (l : Line) (x : LineState) : (s.setLine l x).wake = s.wake := by cases l <;> rfl
@[simp] theorem State.setLine_din (s : State) (l : Line) (x : LineState) : (s.setLine l x).din = s.din := by cases l <;> rfl
@[simp] theorem State.setLine_twn (s : State) (l : Line) (x : LineState) : (s.setLine l x).twn = s.twn := by cases l <;> rfl
@[simp] theorem State.setLine_hlt (s : State) (l : Line) (x : LineState) : (s.setLine l x).hlt = s.hlt := by cases l <;> rfl
@[simp] theorem State.setLine_sgw (s : State) (l : Line) (x : LineState) : (s.setLine l x).sgw = s.sgw := by cases l <;> rfl
@[simp] theorem State.setLine_psc (s : State) (l : Line) (x : LineState) : (s.setLine l x).psc = s.psc := by cases l <;> rfl
@[simp] theorem State.setLine_recorder (s : State) (l : Line) (x : LineState) : (s.setLine l x).recorder = s.recorder := by cases l <;> rfl
@[simp] theorem State.setLine_pwr (s : State) (l : Line) (x : LineState) : (s.setLine l x).pwr = s.pwr := by cases l <;> rfl
@[simp] theorem State.setLine_mgt (s : State) (l : Line) (x : LineState) : (s.setLine l x).mgt = s.mgt := by cases l <;> rfl
@[simp] theorem State.setLine_nv (s : State) (l : Line) (x : LineState) : (s.setLine l x).nv = s.nv := by cases l <;> rfl

/-! `State.setPort`: a port. -/

@[simp] theorem State.setPort_pending (s : State) (p : BPort) (x : PortState) : (s.setPort p x).pending = s.pending := by cases p <;> rfl
@[simp] theorem State.setPort_regs (s : State) (p : BPort) (x : PortState) : (s.setPort p x).regs = s.regs := by cases p <;> rfl
@[simp] theorem State.setPort_mem (s : State) (p : BPort) (x : PortState) : (s.setPort p x).mem = s.mem := by cases p <;> rfl
@[simp] theorem State.setPort_out (s : State) (p : BPort) (x : PortState) : (s.setPort p x).out = s.out := by cases p <;> rfl
@[simp] theorem State.setPort_evq (s : State) (p : BPort) (x : PortState) : (s.setPort p x).evq = s.evq := by cases p <;> rfl
@[simp] theorem State.setPort_fresh (s : State) (p : BPort) (x : PortState) : (s.setPort p x).fresh = s.fresh := by cases p <;> rfl
@[simp] theorem State.setPort_acc (s : State) (p : BPort) (x : PortState) : (s.setPort p x).acc = s.acc := by cases p <;> rfl
@[simp] theorem State.setPort_mono5 (s : State) (p : BPort) (x : PortState) : (s.setPort p x).mono5 = s.mono5 := by cases p <;> rfl
@[simp] theorem State.setPort_lineA (s : State) (p : BPort) (x : PortState) : (s.setPort p x).lineA = s.lineA := by cases p <;> rfl
@[simp] theorem State.setPort_lineB (s : State) (p : BPort) (x : PortState) : (s.setPort p x).lineB = s.lineB := by cases p <;> rfl
@[simp] theorem State.setPort_top (s : State) (p : BPort) (x : PortState) : (s.setPort p x).top = s.top := by cases p <;> rfl
@[simp] theorem State.setPort_beam (s : State) (p : BPort) (x : PortState) : (s.setPort p x).beam = s.beam := by cases p <;> rfl
@[simp] theorem State.setPort_fab (s : State) (p : BPort) (x : PortState) : (s.setPort p x).fab = s.fab := by cases p <;> rfl
@[simp] theorem State.setPort_tim (s : State) (p : BPort) (x : PortState) : (s.setPort p x).tim = s.tim := by cases p <;> rfl
@[simp] theorem State.setPort_cans (s : State) (p : BPort) (x : PortState) : (s.setPort p x).cans = s.cans := by cases p <;> rfl
@[simp] theorem State.setPort_wake (s : State) (p : BPort) (x : PortState) : (s.setPort p x).wake = s.wake := by cases p <;> rfl
@[simp] theorem State.setPort_din (s : State) (p : BPort) (x : PortState) : (s.setPort p x).din = s.din := by cases p <;> rfl
@[simp] theorem State.setPort_twn (s : State) (p : BPort) (x : PortState) : (s.setPort p x).twn = s.twn := by cases p <;> rfl
@[simp] theorem State.setPort_hlt (s : State) (p : BPort) (x : PortState) : (s.setPort p x).hlt = s.hlt := by cases p <;> rfl
@[simp] theorem State.setPort_sgw (s : State) (p : BPort) (x : PortState) : (s.setPort p x).sgw = s.sgw := by cases p <;> rfl
@[simp] theorem State.setPort_psc (s : State) (p : BPort) (x : PortState) : (s.setPort p x).psc = s.psc := by cases p <;> rfl
@[simp] theorem State.setPort_recorder (s : State) (p : BPort) (x : PortState) : (s.setPort p x).recorder = s.recorder := by cases p <;> rfl
@[simp] theorem State.setPort_pwr (s : State) (p : BPort) (x : PortState) : (s.setPort p x).pwr = s.pwr := by cases p <;> rfl
@[simp] theorem State.setPort_mgt (s : State) (p : BPort) (x : PortState) : (s.setPort p x).mgt = s.mgt := by cases p <;> rfl
@[simp] theorem State.setPort_nv (s : State) (p : BPort) (x : PortState) : (s.setPort p x).nv = s.nv := by cases p <;> rfl

/-! What an update writes. -/

@[simp] theorem State.emit_out (s : State) (o : Out) : (s.emit o).out = s.out ++ [o] := rfl
@[simp] theorem State.used_fresh (s : State) : s.used.fresh = s.fresh + 1 := rfl
@[simp] theorem State.line_setLine (s : State) (l : Line) (x : LineState) : (s.setLine l x).line l = x := by cases l <;> rfl
@[simp] theorem State.port_setPort (s : State) (p : BPort) (x : PortState) : (s.setPort p x).port p = x := by cases p <;> rfl

/-! Bytes. -/

/-- A run of bytes changes the RAMs only. -/
theorem State.wrBytes_only (s : State) (a : Nat) (bs : List Byte) : s.wrBytes a bs = { s with mem := (s.wrBytes a bs).mem } := by
  induction bs generalizing s a with
  | nil => rfl
  | cons b bs ih => rw [State.wrBytes, ih]; rfl

end Sys2Proof.Machine
end

