-- ==== Sys2Proof/Tests/Slice0.lean ====
section
/-!
SUPPORT. Tests: an ill-formed command for every check of `Instr.wf`, worked examples of the spec, and for every statement states and
operands that meet the hypotheses of each of its clauses together.
-/

namespace Sys2Proof.Tests

open Sys2Proof.Machine

set_option Elab.async false

/-- The module after its start: every island on, the requesters' paths up. -/
def live : State :=
  { State.reset with
    regs := []
    pwr := { PwrState.off with sysOn := true }
    mgt := MgtState.reset }
  |>.wr R.SYS_PWR_STAT 0x1FFFE |>.putB F.MGT_CTRL_STAT_RUN true |>.putB F.HBR_CTRL_LINK_UP true

/-- `q` has unlocked the page. -/
def unlock (s : State) (q : Requester) (pg : Nat) : State :=
  ((s.putB (F.PG_LOCK_UNLOCKED pg) true).put (F.PG_LOCK_OWNER pg) q.code).put (F.PG_LOCK_REMAIN pg) 256

/-- Line `l` carries traffic and its ports have links. -/
def openLine (s : State) (l : Line) : State :=
  ((s.put (F.BL_LINE_STAT_STATE l) 2).putB (F.BL_P_STAT_LINK (l.port false)) true).putB (F.BL_P_STAT_LINK (l.port true)) true

/-- A received native frame whose HCRC is right: EPN, CLASS, EPOCH, SRC, ATYPE, DST, FLOW and its payload. -/
def frm (epn : Bool) (cls epoch src atype dst flow : Nat) (payload : List Byte) : NFrame :=
  nfOnLine { mkFrame cls epoch src atype dst flow 0 payload with epn := epn } .b

/-- The numbering of epoch 7 is in force: this node is node `n` of `nodes`, in vehicle 1. -/
def numbered (s : State) (n nodes : Nat) : State :=
  (((((s.put F.TOP_EPOCH_EPOCH 7).putB F.TOP_NODE_VALID true).put F.TOP_NODE_NODE n).put F.TOP_NODE_VEH 1).putB F.TOP_NODE_FWD true).put
    F.TOP_COUNT_NODES nodes

/-- A numbering attempt of epoch 8 is in phase `k`. -/
def attempt (s : State) (k : Nat) : State := (s.put F.TOP_SHADOW_PHASE k).put F.TOP_SHADOW_SHADOW 8

/-- A lantern of serial 2, vehicle tag 9, role `role`, with SYNCED and ELIG. -/
def lan (role : Nat) : Lantern := ⟨2, 9, role, true, false, true, true, false, 0, true, true, true, true, false, false, 7, 0, 0, 0, 0⟩

/-- A CAN frame of identifier 5 with two bytes. -/
def canF : CanFrame := ⟨false, false, false, false, false, 5, 2, [1, 2]⟩

/-- A process data frame. -/
def pdF : PdFrame := ⟨true, 0, 17224, true, true, 41, .pd, 1, true, 9, 5, 0, 0, 1, [3]⟩

/-- The partner in the twin car has sent `l` and is seen. -/
def twin (s : State) (l : Lantern) : State :=
  { s with twn := { s.twn with partner := some l } } |>.putB F.TWN_CTRL_ROLE_W_M true |>.put F.TWN_MLINK_STAT_STATE 2

/-- Bytes in RAM. -/
def ram (s : State) (a : Nat) (bs : List Byte) : State := s.wrBytes a bs

/-- The coordinator in dusk, cycle N = 1000 and identifier 3. -/
def dusk (s : State) : State :=
  (((((numbered s 1 2).put F.TWN_CTRL_ROLE_ROLE 1).put F.SYS_WAKE_STAT_STATE 1).put F.SYS_WAKE_DUSK_N_N 1000).put F.SYS_WAKE_DUSK_ID_ID 3).putB
    F.SYS_WAKE_STAT_KA_OK true

/-- A class 6 frame of node 2 of flow `n`. -/
def sleepF (n : Nat) (payload : List Byte) : NFrame := frm false 6 7 2 3 0 n payload

/-- A request with CODE `code` and its arguments. -/
def req (code : Nat) (args : List Word) : MboxReq := ⟨code, 5, args, none, [], false⟩

/-- The pair is ready and the request is the first of the queue. -/
def asked (s : State) (r : MboxReq) : State :=
  { s with mgt := { s.mgt with queue := [r] } } |>.putB (F.PG_STAT_READY P.MGT_MBOX) true

/-- The digest of the public key whose private key is 1: the base point of P-256. -/
def keyD : List Byte := beBytes 32 0xD875DB7DEF232236AEC738C6B0BB3E80142F5D0FD8F4DF24FED6EEF5CBB50D9F

/-- A policy with one section of type 0x00A, signed with that key and nonce 1. -/
def policy : List Byte :=
    beBytes 32 0x4B4D543100010003000000000000000000000010000000000000000000000000 ++
    beBytes 32 0x1CC9A8AEE64CAE49376D4F18BA8BCD06A83F50DBAD967CA27EBEACFBE93FC257 ++
    beBytes 32 0x6B17D1F2E12C4247F8BCE6E563A440F277037D812DEB33A0F4A13945D898C296 ++
    beBytes 32 0x4FE342E2FE1A7F9B8EE7EB4A7C0F9E162BCE33576B315ECECBB6406837BF51F5 ++
    beBytes 32 0x6B17D1F2E12C4247F8BCE6E563A440F277037D812DEB33A0F4A13945D898C296 ++
    beBytes 32 0xF7C4ED0CBF9A043DB38DFFCCB2E4E768767B57B7D90C19C2967830E2CFA93347 ++
    beBytes 32 0xFFFFFFFFFFFFFFFFFFFFFFFFFFFFFFFFFFFFFFFFFFFFFFFFFFFFFFFFFFFFFFFF ++
    beBytes 32 0xFFFFFFFFFFFFFFFFFFFFFFFFFFFFFFFFFFFFFFFFFFFFFFFFFFFFFFFFFFFFFFFF ++
    beBytes 16 0x000A0001000000080000000000000000

/-- A configuration with one section of type 0x001, signed in the same way. -/
def config : List Byte :=
    beBytes 32 0x4B4D543100010002000000000000000000000018000000000000000000000000 ++
    beBytes 32 0x72127CDDD626B0B5BD92FA8DBA4584AA76116170DF18FDA5E278CBAC9D543836 ++
    beBytes 32 0x6B17D1F2E12C4247F8BCE6E563A440F277037D812DEB33A0F4A13945D898C296 ++
    beBytes 32 0x4FE342E2FE1A7F9B8EE7EB4A7C0F9E162BCE33576B315ECECBB6406837BF51F5 ++
    beBytes 32 0x6B17D1F2E12C4247F8BCE6E563A440F277037D812DEB33A0F4A13945D898C296 ++
    beBytes 32 0x9BC172D5642A1D90A0BBBABED52299FC1401F3E249AF4FE3F28C71294634749D ++
    beBytes 32 0xFFFFFFFFFFFFFFFFFFFFFFFFFFFFFFFFFFFFFFFFFFFFFFFFFFFFFFFFFFFFFFFF ++
    beBytes 32 0xFFFFFFFFFFFFFFFFFFFFFFFFFFFFFFFFFFFFFFFFFFFFFFFFFFFFFFFFFFFFFFFF ++
    beBytes 24 0x000100010000000C00000000000000000000000000000000

/-- The owner key is programmed. -/
def owned (s : State) : State := { s with nv := { s.nv with owner := some keyD } } |>.putB F.SYS_RST_STAT_OWNER_KEY true

/-- Bytes in MGT_MBOX_DATA; the registers of `s` that differ from reset lie below. -/
def withData (s : State) (bs : List Byte) : State :=
  { s with regs := s.regs ++ ((List.range (bs.length / 4)).map fun k =>
      (R.MGT_MBOX_DATA k, BitVec.ofNat 32 (ofBytes (bytesAt bs (4 * k) 4)))).filter fun e => e.2 != 0 }

/-- The mailbox holds the signed policy. -/
def signedReq : State := withData (owned (asked live (req 0x30 [272]))) policy

/-- Flash holds the bytes from an address on. -/
def withFlash (s : State) (a : Nat) (bs : List Byte) : State :=
  { s with nv := { s.nv with flash := (bs.zipIdx.map fun e => (a + e.2, e.1)).filter fun e => e.2 != 0xFF } }

/-- A read waits under tag 3, its request is outstanding, and entry 0 of the delayed-read buffer alone is free. -/
def oneFree : State :=
  { live with
    psc := { live.psc with
      reads := [⟨4, 7, 0, some 3⟩]
      reqs := [⟨3, 0, 7, 0⟩]
      drb := (List.range 15).map fun k => (k + 1, ⟨7, 0, 4, some (0, 0)⟩) } }

/-! Commands that `Instr.wf` refuses, one for each of its checks. -/

theorem test_wf_refuses1 : List.all [
    .registerWrite .host 0x1042 0, .unmappedAccess .host 0x1042 false, .accessError .host 0x200000 1 false,
    .accessError .host 1 0 false, .offIslandAccess .host 0x1042 false 0, .pairLowRead .host 0x1042,
    .pairHighWrite .host 0x1042 0, .pairLowWrite .host 0x1042 0, .pageUnlock .host 0x1040, .pageRelock .host 0x1040 0,
    .lockTimeout 0x1040, .blockSrst .host 0x1040 0, .srstComplete 0x1040, .blockEnWrite .host 0x1040 0,
    .eventForce .host 0x1040 0, .eventClear .host 0x1040 0 0, .eventAggregate 17, .msixUnmask .host 32 0,
    .portLinkUp .la1 4 1 1 false, .portLinkUp .la1 1 65536 1 false, .portLinkUp .la1 1 1 65536 false,
    .backboneFrameRx .la1 8 (mkFrame 1 7 2 3 0 1 0 []) ⟨false, false⟩,
    .backboneFrameRx .la1 1 (mkFrame 16 7 2 3 0 1 0 []) ⟨false, false⟩, .ldupAge 65536 1 1 1, .ldupAge 1 512 1 1,
    .ldupAge 1 1 16 1, .ldupAge 1 1 1 4096, .request .la1 (mkFrame 16 7 2 3 0 1 0 []), .join .la1 (mkFrame 16 7 2 3 0 1 0 []),
    .ident .la1 (mkFrame 16 7 2 3 0 1 0 []), .xident .la1 (mkFrame 16 7 2 3 0 1 0 []), .xend .la1 (mkFrame 16 7 2 3 0 1 0 []),
    .ready .la1 (mkFrame 16 7 2 3 0 1 0 []), .commitInsert 4294967296, .commit .la1 (mkFrame 16 7 2 3 0 1 0 []),
    .ttdpTopologyChange 4294967296 1 [], .ttdpTopologyChange 1 64 [], .cycleBoundary false 65536,
    .marker .la1 1 ⟨256, 2, 3, 4⟩ 1 [] 1, .marker .la1 1 ⟨1, 2, 3, 4⟩ 256 [] 1, .marker .la1 1 ⟨1, 2, 3, 4⟩ 1 [] (2 ^ 32),
    .probe .la1 1 ⟨256, 2, 3, 4⟩ 1 [] 1, .probe .la1 1 ⟨1, 2, 3, 4⟩ 256 [] 1, .probe .la1 1 ⟨1, 2, 3, 4⟩ 1 [] (2 ^ 32),
    .beamFrameRx .la1 625001 ⟨1, 2, 3, 4⟩ ⟨1, [], 1⟩ false, .beamFrameRx .la1 1 ⟨256, 2, 3, 4⟩ ⟨1, [], 1⟩ false,
    .beamFrameRx .la1 1 ⟨1, 2, 3, 4⟩ ⟨256, [], 1⟩ false, .ethernetFrameRx 12 ⟨1, 2, none, none, 0x800, []⟩ ⟨false, false⟩,
    .ethernetFrameRx 1 ⟨1, 2, some (8, 0), none, 0x800, []⟩ ⟨false, false⟩, .frameTransmit 13 1 false,
    .frameTransmit 1 50 false, .fdbAge (2 ^ 48) 1, .fdbAge 1 4096, .expire 4096, .bankMoved 32, .cpLinkChg 8 false false,
    .pdFrameRx 8 ⟨⟨1, 2, none, none, 0x800, []⟩, false, pdF⟩,
    .pdFrameRx 1 ⟨⟨1, 2, none, none, 0x800, []⟩, false, { pdF with srcIp := 2 ^ 32 }⟩, .comidWrite .host 2 0,
    .cbRecoveryReset 256, .inputArrival (.can 16 0), .inpExpire 1024] (fun i => !Instr.wf i) = true := by decide +kernel

theorem test_wf_refuses2 : List.all [
    .channelStart 16, .modeWrite .host 16 0, .modeChg 16, .canFrameRx 16 canF 1 [],
    .canFrameRx 1 { canF with id := 2048 } 1 [], .canTxAttempt 16 [], .canTxEnd 16 ⟨.lost, none, []⟩,
    .canTxEnd 1 ⟨.error 7 false none false 0, none, []⟩, .busoffHoldEnd 16, .recover .host 16 0, .busoffRecovered 16,
    .queueConfigWrite .host 16 1 0, .queueConfigWrite .host 1 16 0, .queuePointerWrite .host 16 1 0,
    .queuePointerWrite .host 1 16 0, .abort .host 16 0, .referenceMessageDue 16, .mdataAccess .host 2 ⟨false, false⟩ 0 0,
    .timeFrameRx .la1 (mkFrame 16 7 2 3 0 1 0 []), .gptpSyncSend 8 1, .gptpSyncSend 1 65536, .gptpAnnounceSend 8 1,
    .gptpAnnounceSend 1 65536, .gptpPdelay 8 1 false false, .gptpMessageRx 8 .announce, .gptpMessageRx 1 (.pdelayReq 65536),
    .backboneLanternRx .la1 (mkFrame 16 7 2 3 0 1 0 []), .confirmReqRx .la1 (mkFrame 16 7 2 3 0 1 0 []),
    .confirm .la1 (mkFrame 16 7 2 3 0 1 0 []) false, .autoHandoverCause 3, .epochRecord (.ctx 4096), .erecRx 4294967296 [],
    .ecloseRx 4294967296 [], .brecRx 4294967296 [], .bcloseRx 4294967296 [], .pcieLinkUp 8 1, .pcieLinkUp 1 8,
    .nowin (2 ^ 28) 1 none, .nowin 1 16 none, .messageRamWindowAccess (2 ^ 28) 1 none false,
    .messageRamWindowAccess 1 16 none false, .iwinEnable .host 16 0, .owinEnable .host 8 0, .ringEnable .host 9 0,
    .ringPutWrite .host 9 0, .rxRingDeliver 8 [], .periscopeRead (2 ^ 28) 1, .periscopeRead 1 16, .timeout (2 ^ 28),
    .periscopeResponseRx (mkFrame 16 7 2 3 0 1 0 []), .drDiscard 16, .periscopeWrite (2 ^ 28) [],
    .pwfail (mkFrame 16 7 2 3 0 1 0 []), .periscopeRequestRx (mkFrame 16 7 2 3 0 1 0 []), .aclEntryWrite .host 32 0,
    .pscWindowEnable .host 8 0, .dusk (mkFrame 16 7 2 3 0 1 0 []), .sleepRequestRx (mkFrame 16 7 2 3 0 1 0 []),
    .vetoRx (mkFrame 16 7 2 3 0 1 0 []), .cancelRx (mkFrame 16 7 2 3 0 1 0 []), .wakeSource 0 1, .wakeSource 16 1] (fun i => !Instr.wf i) = true := by decide +kernel

theorem test_wf_refuses3 : List.all [
    .wakeSource 1 16, .dawnRx (mkFrame 16 7 2 3 0 1 0 []), .filteredEdge 4 false, .edge 4, .stuck 4, .stuckRelease 4, .chat 4,
    .chatHoldEnd 4, .dinCfgWrite .host 4 0, .sourceFailure 6, .srcLoss 6, .lineRefChg 5 false, .pllLineLock (-100001),
    .pllLineLock 100001, .srcWrite .host 17 0, .switchDone 17, .forced 17, .xdrop 17 1, .xdrop 1 0,
    .clockGateRequest .host 0x1040 0, .gated 0x1040, .gateRefused 0x1040, .clockGateOpen .host 0x1040 0,
    .gatedAccess .host 0x1042 false 0, .dvfsRequest .host 3 0, .dvfsFreqStep 3, .dvfsDone 3, .powerCmd .host 0x1042 0,
    .powerCmd .host 0x110000 0, .islandPowerDown 0 1, .islandPowerDown 17 1, .islandPowerDown 1 0, .islandPowerDown 1 7,
    .islandPowerDownDone 0, .islandPowerDownDone 17, .islandPowerUpStart 0 1, .islandPowerUpStart 17 1,
    .islandPowerUpStart 1 0, .islandPowerUpStart 1 8, .islandPowerUpDone 0, .islandPowerUpDone 17,
    .remoteManagementRx (mkFrame 16 7 2 3 0 1 0 []), .govWindowEnd 101, .recSrst .host 3 0, .eccEvent 0x1040 1 1 1 false,
    .eccEvent 0x1000 80 1 1 false, .eccEvent 0x1000 1 1024 1 false, .eccEvent 0x1000 1 1 64 false, .sensorAlarm (.supply 3 0),
    .healthReasonClearTimer 17 1 1 1, .healthReasonClearTimer 1 20 1 1, .healthReasonClearTimer 1 1 1 65536,
    .fwLevelWrite .host 17 0, .islandRestore 17, .sourceGood 6, .canRxError 16 1 false false false 1,
    .canRxError 1 7 false false false 1, .wakeInputInactive 17, .canTxEnd 1 ⟨.lost, some 65536, []⟩,
    .pdFrameRx 1 ⟨⟨1, 2, some (8, 0), none, 0x800, []⟩, false, pdF⟩, .marker .la1 1 ⟨1, 2, 3, 4⟩ 1 (List.replicate 9601 0) 1,
    .marker .la1 1 ⟨1, 2, 3, 4⟩ 1 [] (2 ^ 32)] (fun i => !Instr.wf i) = true := by decide +kernel

theorem test_wf_refuses4 : List.all [
    .probe .la1 1 ⟨1, 2, 3, 4⟩ 1 (List.replicate 9601 0) 1, .probe .la1 1 ⟨1, 2, 3, 4⟩ 1 [] (2 ^ 32),
    .marker .la1 1 ⟨1, 256, 3, 4⟩ 1 [] 1, .marker .la1 1 ⟨1, 2, 65536, 4⟩ 1 [] 1, .marker .la1 1 ⟨1, 2, 3, 65536⟩ 1 [] 1,
    .beamFrameRx .la1 1 ⟨1, 2, 3, 4⟩ ⟨1, List.replicate 9601 0, 1⟩ false,
    .beamFrameRx .la1 1 ⟨1, 2, 3, 4⟩ ⟨1, [], 2 ^ 32⟩ false, .ttdpTopologyChange 1 1 (List.replicate 64 ⟨1, 1, true, true⟩),
    .ttdpTopologyChange 1 1 [⟨2 ^ 64, 1, true, true⟩], .ttdpTopologyChange 1 1 [⟨1, 2 ^ 64, true, true⟩], .boot [2],
    .configApply [2], .done 0 [[⟨80, 0, 0⟩]], .done 0 [[⟨0, 1024, 0⟩]], .done 0 [[⟨0, 0, 36⟩]], .aer 0 (List.replicate 17 0)] (fun i => !Instr.wf i) = true := by decide +kernel

/-! Check values of the standard algorithms: CRC-32C and CRC-16 with initial value 0xFFFF over "123456789", SHA-256 of "abc". -/

def digits : List Byte := [0x31, 0x32, 0x33, 0x34, 0x35, 0x36, 0x37, 0x38, 0x39]

theorem test_crc32c : crc32c digits = 0xE3069283 := by decide +kernel

theorem test_crc16 : crc 16 0x1021 0xFFFF digits = 0x29B1 := by decide +kernel

theorem test_sha256 : (sha256 [0x61, 0x62, 0x63]).take 8 = [0xBA, 0x78, 0x16, 0xBF, 0x8F, 0x01, 0xCF, 0xEA] := by decide +kernel

/-! Epochs (R71): 0xFFFF is followed by 1, and half the range is later. -/

theorem test_epochs : epochSucc 0xFFFF = 1 ∧ epochSucc 0x31 = 0x32 ∧ epochLater 2 0xFFFE = true ∧ epochLater 0xFFFE 2 = false := by
  decide +kernel

/-! The example of chapter 02: channel CAN2 at 0x07_3000. -/

/-- Check the state that a command leads to. -/
def after (o : Host.Outcome State Fault Refusal) (p : State → Bool) : Bool :=
  match o with
  | .next t => p t
  | .fault _ => false
  | .refused _ => false

theorem test_unlock : after (exec (.pageUnlock .host 0x073000) live) (fun t =>
    t.bit (F.PG_LOCK_UNLOCKED 0x073000) && t.get (F.PG_LOCK_OWNER 0x073000) == 0 && t.get (F.PG_LOCK_REMAIN 0x073000) == 256) = true := by
  decide +kernel

theorem test_readCtrl : after (exec (.pairLowRead .host 0x073008) (unlock live .host 0x073000)) (fun t =>
    t.out == [.readData .host 0x073008 5] && t.get (F.PG_LOCK_REMAIN 0x073000) == 255) = true := by decide +kernel

theorem test_srst : after (exec (.blockSrst .host 0x073000 7) (unlock live .host 0x073000)) (fun t =>
    t.regView .host 0x07300C == 3 && t.get (F.PG_LOCK_REMAIN 0x073000) == 255) = true := by decide +kernel

theorem test_pgId : after (exec (.pairLowRead .host 0x073000) live) (fun t => t.out == [.readData .host 0x073000 0x07300502]) = true := by
  decide +kernel

theorem test_offRead : after (exec (.offIslandAccess .host 0x073008 false 0) (live.putB ⟨R.SYS_PWR_STAT, 7, 7⟩ false)) (fun t =>
    t.out == [.readData .host 0x073008 0xFFFF0007]) = true := by decide +kernel

theorem test_offUnlock : after (exec (.pageUnlock .host 0x073000) (live.putB ⟨R.SYS_PWR_STAT, 7, 7⟩ false)) (fun t =>
    t.get F.SYS_EVT_OFFWR_OFFWR_CNT == 1 && t.get F.SYS_EVT_OFFWR_LAST_ISL == 7) = true := by decide +kernel

theorem test_unmappedRead : after (exec (.unmappedAccess .host 0x1F0000 false) live) (fun t =>
    t.out == [.readData .host 0x1F0000 0xFFFFFFFF]) = true := by decide +kernel

/-! The capacity examples of chapter 05 (R124): Alder at 250 µs and 25 %, Tamarack at 25 %. -/

def alderWidths : List (Nat × Nat) :=
  [(1, 800), (2, 700), (3, 700), (4, 700), (5, 700), (6, 800), (7, 800), (8, 700), (9, 700), (10, 700), (11, 700), (12, 800)]

theorem test_alder : capacityOf 0x00FA00FA 0x280A2C1A = 9765 ∧ guardBlocksOf 0x280A2C1A = 157 ∧
    (allocDir 0x00FA00FA 0x280A2C1A ((List.range 24).map (· + 1)) alderWidths).2 = (false, false) ∧
    ⟨1, 1, 6, 26⟩ ∈ (allocDir 0x00FA00FA 0x280A2C1A ((List.range 24).map (· + 1)) alderWidths).1 ∧
    ⟨2, 1, 650, 800⟩ ∈ (allocDir 0x00FA00FA 0x280A2C1A ((List.range 24).map (· + 1)) alderWidths).1 := by decide +kernel

/-! Flow 0x214 of chapter 06: the header bytes and the 7 blocks of the beam frame. -/

def flow214 : NFrame := { mkFrame 0 0x31 5 3 0 0x214 0 (List.replicate 24 0) with beam := true }

theorem test_flow214 : (nfHeader flow214).take 10 = [0x10, 0x40, 0x00, 0x31, 0x00, 0x05, 0x60, 0x00, 0x02, 0x14] ∧
    ((nfHeader (nfOnLine flow214 .b)).take 2 = [0x10, 0xC0]) ∧ frameBlocks flow214 = 7 := by decide +kernel

/-! The brake-pressure example of chapter 07: entries 100 to 102, input 12, recipe 5. -/

/-- The bank of the example with a pass running over the data bytes `b0`, `b1` of the sensor's frame. -/
def brake (b0 b1 : Byte) : State :=
  let s := live.wrNum (inpAddr 0 12) 16 0xC20000000000018A0008401E00400000
  let s := s.wrNum (rcpAddr 0 5) 16 0x80000020000000000018000000000100
  let s := s.wrNum (mapAddr 0 100) 16 0x0001999AFF607FD85C0480C001160312
  let s := s.wrNum (mapAddr 0 101) 16 0x0000000100000000E0000050081E0312
  let s := s.wrNum (mapAddr 0 102) 16 0x0000000100000000C22000500C0E0312
  let s := s.put F.SGW_CTRL_NENT0_NENT 103
  match exec .passStart ((s.putB (F.PG_CTRL_EN P.SGW_CTRL) true).inputData 12 [b0, b1, 0, 0, 0, 0, 0, 0] 0) with
  | .next t => t
  | .fault _ => live
  | .refused _ => live

theorem test_brake : after (exec (.passDone 0 [] []) (brake 0x61 0x54)) (fun t =>
    t.slotValue 786 == 2000 && (t.rdBytes (bufAddr 0x101 + 4) 3 == [0x07, 0xD0, 0xC0])) = true := by decide +kernel

theorem test_brakeNegative : after (exec (.passDone 0 [] []) (brake 0xC1 0x03)) (fun t =>
    t.slotValue 786 == 0xFFFFFFC0 && (t.rdBytes (bufAddr 0x101 + 4) 2 == [0, 0])) = true := by decide +kernel

/-! The queues of chapter 08: 16 slots of 24 bytes, 64 of 80 bytes from unit 24, 8 of 24 bytes from unit 344. -/

theorem test_rings : ringOf 0xA000F000 = (0, 384) ∧ ringOf 0xCC03F018 = (384, 5120) ∧ ringOf 0xA1807158 = (5504, 192) := by decide +kernel

/-! The offset of chapter 09: T_REF 86,402,118,004,000.0 ns, D 30,004.8 ns and a local time of 86,402,125,234,004.8 ns give
e = -7,200,000 ns. -/

theorem test_offset : ({ live.put F.TOP_SLOT_CYCNT_CYCLE 1 with
    tim := { live.tim with recsA := [⟨1, 864021252340048 * (nsUnit / 10), 18753, false⟩] } } : State).timeOffset
    .la1 (frm false 5 7 1 3 0 1 (beBytes 4 1 ++ beBytes 8 86402118004000 ++ List.replicate 28 0)) =
    some ((-7200000 : Int) * (nsUnit : Int), some (.a, ⟨1, 864021252340048 * (nsUnit / 10), 18753, false⟩)) := by decide +kernel

/-! The access-list entry of chapter 11: read for node 1 on pages 0x0F0 to 0x0FF. -/

/-- Node 24 knows the module of serial 2 as node 1. -/
def acl24 : State :=
  let s := ram (numbered live 24 24) (identAddr 0 1) ([0, 0, 0, 0, 0, 0, 0, 2] ++ beBytes 8 9 ++ [0, 1, 1])
  { s with psc := { s.psc with acl := [(0, 0xA800000100F000FF)] } }

theorem test_acl : acl24.aclPerm 2 0x0F0 = 1 ∧ acl24.aclPerm 2 0x0FF = 1 ∧ acl24.aclPerm 2 0x100 = 0 ∧ acl24.aclPerm 3 0x0F0 = 0 := by
  decide +kernel

/-! The writes of chapter 13: 0x8002_00B0 asks SGW for 600 MHz at 0.88 V; 0x8002_00A0, 0.80 V, is refused with RESULT 1. -/

theorem test_dvfs : after (exec (.dvfsRequest .host 1 0x800200B0) ((unlock live .host P.SYS_PWR).setSeq I.SGW 2 0)) (fun t =>
    t.bit (F.SYS_PWR_DVFSSTAT_BUSY 1) && t.dvfs 1 == ⟨2, 176, true⟩) = true := by decide +kernel

theorem test_dvfsRefused : after (exec (.dvfsRequest .host 1 0x800200A0) ((unlock live .host P.SYS_PWR).setSeq I.SGW 2 0)) (fun t =>
    !t.bit (F.SYS_PWR_DVFSSTAT_BUSY 1) && t.get (F.SYS_PWR_DVFSSTAT_RESULT 1) == 1) = true := by decide +kernel

/-! The write of chapter 17: 0x8000_0011 tests macro 17. -/

theorem test_bank : after (exec (.bankTest .host 0x80000011) (unlock live .host P.HLT_BIST)) (fun t =>
    (t.hlt.test.map fun x => (x.kind, x.macroNo)) == some (0, 17)) = true := by decide +kernel

/-! A cleared event bit falls, and one that the hardware sets at the same time stays (R36). -/

theorem test_eventClear : after (exec (.eventClear .host 0x073000 3 2) (live.wr (R.PG_EVT_RAW 0x073000) 7)) (fun t =>
    t.rd (R.PG_EVT_RAW 0x073000) == 6) = true := by decide +kernel

/-! A lockable register that nobody has unlocked keeps its value and LOCK_VIOL is raised (R45). -/

theorem test_lockViol : after (exec (.registerWrite .host 0x020040 0) live) (fun t =>
    t.rd 0x020040 == 0x03233C6D && t.evt 0x020000 30) = true := by decide +kernel

/-! A step takes the first of two commands, and a step without a command lets the time of a tick pass (R225). -/

theorem test_step : after (step { live with pending := [.eoi .host 0, .inaug .host 1] }) (fun t => t.pending == [.inaug .host 1]) = true := by
  decide +kernel

theorem test_idle : after (step live) (fun t => t.mono5 == 8) = true := by decide +kernel

/-! What meets the hypotheses of the statements, clause by clause. -/

theorem test_witness_CommandRuns : ∃ (c : Instr) (s t : State), exec c s = .next t :=
  ⟨.inaug .host 1, live, _, rfl⟩

theorem test_witness_IdleTick : ∃ (s : State), s.pending = [] :=
  ⟨live, by decide +kernel⟩

theorem test_witness_ResetState :
    (∃ (q : Nat), q ≠ R.SYS_PWR_SEQ 11 ∧ q ≠ R.SYS_PWR_SEQ 13 ∧ q ≠ R.SYS_WAKE_STAT) ∧
    (∃ (n : Nat), n < 17) ∧
    (∃ (n : Nat), n < 17 ∧ n ≠ 0) :=
  ⟨⟨0, by decide +kernel⟩,
   ⟨16, by decide +kernel⟩,
   ⟨16, by decide +kernel⟩⟩

theorem test_witness_StatusOutputs :
    (∃ (s : State), (s.pwr.sysOn = false ∨ s.resetRuns = true)) ∧
    (∃ (l : Line) (s : State), s.pwr.sysOn = true ∧ s.resetRuns = false ∧
      (s.bit (F.BL_LINE_STAT_LOCKOUT l) = true ∨ s.mismatch l = true)) ∧
    (∃ (l : Line) (s : State), s.pwr.sysOn = true ∧ s.resetRuns = false ∧ s.bit (F.BL_LINE_STAT_LOCKOUT l) = false ∧
      s.mismatch l = false) ∧
    (∃ (s : State), s.pwr.sysOn = true ∧ s.resetRuns = false) :=
  ⟨⟨((let s := live; { s with pwr := { s.pwr with sysOn := false } })), by decide +kernel⟩,
   ⟨Line.b, ((let s := live; { s with pwr := { s.pwr with sysOn := true } }) |>.putB (F.BL_LINE_STAT_LOCKOUT Line.b) true),
      by decide +kernel⟩,
   ⟨Line.b, ((let s := live; { s with pwr := { s.pwr with sysOn := true } }) |>.putB (F.BL_LINE_STAT_LOCKOUT Line.b) false),
      by decide +kernel⟩,
   ⟨((let s := live; { s with pwr := { s.pwr with sysOn := true } })), by decide +kernel⟩⟩

theorem test_witness_CanonicalContents : ∃ (s t : State), s.regsCanon ∧ s.memCanon ∧ step s = .next t :=
  ⟨live, _, by unfold State.regsCanon; decide +kernel, by unfold State.memCanon; decide +kernel, rfl⟩

theorem test_witness_OneTimeMemory : ∃ (i : Instr) (s t : State), exec i s = .next t :=
  ⟨.inaug .host 1, live, _, rfl⟩

theorem test_witness_UnmappedAccesses :
    (∃ (off : Nat), 0x110000 ≤ off ∧ off < 0x200000) ∧
    (∃ (q : Requester) (off : Nat) (s : State), s.pathUp q = true ∧ mapped (off / 4 * 4) = false) :=
  ⟨⟨0x110000, by decide +kernel⟩,
   ⟨Requester.host, 0x10FFFF, live, by decide +kernel⟩⟩

theorem test_witness_PagesUnderTest :
    (∃ (q : Requester) (off : Nat) (s : State), s.pathUp q = true ∧ mapped (off / 4 * 4) = true ∧
      s.reachable (off / 4 * 4) = true ∧ 0x40 ≤ off % 4096 ∧ s.bit (F.PG_STAT_BIST_ACTIVE (pageOf off)) = true) ∧
    (∃ (q : Requester) (off : Nat) (s : State), s.pathUp q = true ∧ mapped (off / 4 * 4) = true ∧
      s.reachable (off / 4 * 4) = true ∧ 0x40 ≤ off % 4096 ∧ s.bit (F.PG_STAT_BIST_ACTIVE (pageOf off)) = true) ∧
    (∃ (q : Requester) (off : Nat) (s : State), s.pathUp q = true ∧ mapped (off / 4 * 4) = true ∧
      s.reachable (off / 4 * 4) = true ∧ off % 4096 < 0x40) ∧
    (∃ (q : Requester) (off : Nat) (s : State), s.pathUp q = true ∧ mapped off = true ∧ s.reachable off = true ∧
      off % 4096 < 0x40) ∧
    (∃ (q : Requester) (pg : Nat) (s : State), s.pathUp q = true ∧ mapped (pageOf pg) = true ∧
      s.reachable (pageOf pg) = true ∧ s.bit (F.PG_STAT_BIST_ACTIVE (pageOf pg)) = true) :=
  ⟨⟨Requester.host, R.TOP_SLOT_ARM, (live |>.putB (F.PG_STAT_BIST_ACTIVE (pageOf R.TOP_SLOT_ARM)) true), by decide +kernel⟩,
   ⟨Requester.host, R.TOP_SLOT_ARM, (live |>.putB (F.PG_STAT_BIST_ACTIVE (pageOf R.TOP_SLOT_ARM)) true), by decide +kernel⟩,
   ⟨Requester.host, 0, live, by decide +kernel⟩,
   ⟨Requester.host, 0, live, by decide +kernel⟩,
   ⟨Requester.host, 0, (live |>.putB (F.PG_STAT_BIST_ACTIVE (pageOf 0)) true), by decide +kernel⟩⟩

theorem test_witness_WritePaths :
    (∃ (i : Instr) (q : Requester) (off : Nat) (s : State), writesOf i = some (q, off) ∧ s.pathUp q = false) ∧
    (∃ (i : Instr) (q : Requester) (off : Nat) (s : State), writesOf i = some (q, off) ∧ s.pathUp q = true ∧
      mapped off = true ∧ s.reachable off = false) ∧
    (∃ (i : Instr) (q : Requester) (off : Nat) (s : State), writesOf i = some (q, off) ∧ s.pathUp q = true ∧
      mapped off = true ∧ s.reachable off = true ∧ 0x40 ≤ off % 4096 ∧ s.bit (F.PG_STAT_BIST_ACTIVE (pageOf off)) = true) ∧
    (∃ (i : Instr) (q : Requester) (off : Nat) (s : State), writesOf i = some (q, off) ∧ s.pathUp q = true ∧
      mapped off = true ∧ s.reachable off = true ∧ 0x40 ≤ off % 4096 ∧ s.pageBusy (pageOf off) = false ∧
      s.acc.srst.contains (pageOf off) = true) ∧
    (∃ (q : Requester) (l : Line) (n : Nat) (v : Word) (i : Instr) (off : Nat) (s : State), (i, off) ∈ [(Instr.forceByp q l v,
      R.BL_LINE_CMD l), (.clrLockout q l v, R.BL_LINE_CMD l), (.retrain q l v, R.BL_LINE_CMD l), (.inaug q v, R.TOP_CMD),
      (.clrHold q v, R.TOP_CMD), (.bindWrite q v, R.TOP_TBL_CMD), (.arm q v, R.TOP_SLOT_ARM), (.flush q v, R.FAB_CTRL_AGE),
      (.comidWrite q n v, R.CP_CTRL_CDATA (n % 2) 3), (.cbdupStreamWrite q v, R.FAB_CBDUP_ID_LO), (.flipRequest q v,
      R.SGW_CTRL_FLIP), (.cancel q v, R.SGW_CTRL_FLIP), (.start q v, R.TIM_BASE_CMD), (.clrFault q v, R.TWN_CTRL_CMD),
      (.handover q v, R.TWN_CTRL_CMD), (.isolate q v, R.TWN_CTRL_CMD), (.rejoin q v, R.TWN_CTRL_CMD), (.admitPartner q v,
      R.TWN_CTRL_CMD), (.aclEntryWrite q n v, R.PSC_CTRL_ACL_W1 (n % 32)), (.releaseWrite q v, R.SYS_SRC_RELEASE),
      (.srcWrite q n v, R.SYS_CLK_ISL (n % 17)), (.dvfsRequest q n v, R.SYS_PWR_DVFS (n % 3)), (.dinCfgWrite q n v,
      R.SYS_DIN_CFG (n % 4)), (.mgtRestart q v, R.MGT_CTRL_CMD), (.bankTest q v, R.HLT_BIST_CMD), (.mbist q v,
      R.HLT_BIST_CMD), (.lbist q v, R.HLT_BIST_CMD), (.session q v, R.HLT_BIST_CMD)] ∧ s.carries q off = true ∧
      s.owns q (pageOf off) = false) ∧
    (∃ (q : Requester) (off : Nat) (s : State), s.pathUp q = true ∧ mapped (off / 4 * 4) = true ∧
      s.reachable (off / 4 * 4) = false) ∧
    (∃ (q : Requester) (off : Nat) (s : State), s.pathUp q = true ∧ mapped (off / 4 * 4) = true ∧
      s.reachable (off / 4 * 4) = false) ∧
    (∃ (off : Nat), islandOf off = 0) :=
  ⟨⟨(Instr.inaug Requester.host 1), Requester.host, R.TOP_CMD, (live |>.putB ⟨R.SYS_PWR_STAT, I.HBR, I.HBR⟩ false),
      by decide +kernel, by decide +kernel⟩,
   ⟨(Instr.inaug Requester.host 1), Requester.host, R.TOP_CMD, (live |>.putB ⟨R.SYS_PWR_STAT, 16, 16⟩ false), by decide +kernel,
      by decide +kernel, by decide +kernel, by decide +kernel⟩,
   ⟨(Instr.inaug Requester.host 1), Requester.host, R.TOP_CMD, (live |>.putB (F.PG_STAT_BIST_ACTIVE (pageOf R.TOP_CMD)) true),
      by decide +kernel, by decide +kernel, by decide +kernel, by decide +kernel, by decide +kernel, by decide +kernel⟩,
   ⟨(Instr.inaug Requester.host 1), Requester.host, R.TOP_CMD,
      ((let s := live; { s with acc := { s.acc with srst := [(pageOf R.TOP_CMD)] } })), by decide +kernel, by decide +kernel,
      by decide +kernel, by decide +kernel, by decide +kernel, by decide +kernel, by decide +kernel⟩,
   ⟨Requester.host, Line.b, 31, 0, (Instr.forceByp Requester.host Line.b 0), (R.BL_LINE_CMD Line.b), live, by decide +kernel,
      by decide +kernel, by decide +kernel⟩,
   ⟨Requester.host, (R.TOP_SLOT_ARM + 3), (live |>.putB ⟨R.SYS_PWR_STAT, 16, 16⟩ false), by decide +kernel⟩,
   ⟨Requester.host, (R.TOP_SLOT_ARM + 3), (live |>.putB ⟨R.SYS_PWR_STAT, 16, 16⟩ false), by decide +kernel⟩,
   ⟨0, by decide +kernel⟩⟩

theorem test_witness_PageLocking :
    (∃ (q : Requester) (pg : Nat) (s : State), s.pathUp q = true ∧ mapped (pageOf pg) = true ∧
      s.reachable (pageOf pg) = true ∧ s.bit (F.PG_LOCK_UNLOCKED (pageOf pg)) = false) ∧
    (∃ (q : Requester) (pg : Nat) (s : State), s.pathUp q = true ∧ mapped (pageOf pg) = true ∧
      s.reachable (pageOf pg) = true ∧ s.owns q (pageOf pg) = true) ∧
    (∃ (q : Requester) (pg : Nat) (s : State), s.pathUp q = true ∧ mapped (pageOf pg) = true ∧
      s.reachable (pageOf pg) = true ∧ s.bit (F.PG_LOCK_UNLOCKED (pageOf pg)) = true ∧
      s.get (F.PG_LOCK_OWNER (pageOf pg)) ≠ q.code) ∧
    (∃ (q : Requester) (pg : Nat) (v : Word) (s : State), s.pathUp q = true ∧ mapped (pageOf pg) = true ∧
      s.reachable (pageOf pg) = true ∧ s.owns q (pageOf pg) = true ∧ v ≠ 0x0000C0DE) ∧
    (∃ (q : Requester) (pg : Nat) (v : Word) (s : State), s.pathUp q = true ∧ mapped (pageOf pg) = true ∧
      s.reachable (pageOf pg) = true ∧ s.owns q (pageOf pg) = false ∧ v ≠ 0x0000C0DE) ∧
    (∃ (q : Requester) (pg : Nat) (s : State), s.carries q (R.PG_SCRATCH (pageOf pg)) = true ∧ s.owns q (pageOf pg) = true ∧
      1 < s.get (F.PG_LOCK_REMAIN (pageOf pg))) ∧
    (∃ (q : Requester) (pg : Nat) (s : State), s.carries q (R.PG_SCRATCH (pageOf pg)) = true ∧ s.owns q (pageOf pg) = true ∧
      s.get (F.PG_LOCK_REMAIN (pageOf pg)) ≤ 1) ∧
    (∃ (q : Requester) (pg : Nat) (s : State), s.carries q (R.PG_SCRATCH (pageOf pg)) = true ∧ s.owns q (pageOf pg) = false) ∧
    (∃ (q : Requester) (pg : Nat) (s : State), s.carries q (R.PG_SCRATCH (pageOf pg)) = true ∧ s.owns q (pageOf pg) = true ∧
      1 < s.get (F.PG_LOCK_REMAIN (pageOf pg))) :=
  ⟨⟨Requester.host, 0, (live |>.putB (F.PG_LOCK_UNLOCKED (pageOf 0)) false), by decide +kernel⟩,
   ⟨Requester.host, 0, ((unlock live Requester.host (pageOf 0))), by decide +kernel⟩,
   ⟨Requester.host, 0, (live |>.putB (F.PG_LOCK_UNLOCKED (pageOf 0)) true |>.put (F.PG_LOCK_OWNER (pageOf 0)) 3),
      by decide +kernel⟩,
   ⟨Requester.host, 0, 0, ((unlock live Requester.host (pageOf 0))), by decide +kernel⟩,
   ⟨Requester.host, 0, 0, live, by decide +kernel⟩,
   ⟨Requester.host, 0, ((unlock live Requester.host (pageOf 0))), by decide +kernel⟩,
   ⟨Requester.host, 0, ((unlock live Requester.host (pageOf 0)) |>.put (F.PG_LOCK_REMAIN (pageOf 0)) 1), by decide +kernel⟩,
   ⟨Requester.host, 0, live, by decide +kernel⟩,
   ⟨Requester.host, 0, ((unlock live Requester.host (pageOf 0))), by decide +kernel⟩⟩

theorem test_witness_EventsAndVectors :
    (∃ (q : Requester) (pg : Nat) (s : State), s.carries q (pageOf pg + 0x1C) = true) ∧
    (∃ (q : Requester) (pg : Nat) (s : State), s.carries q (R.PG_EVT_RAW (pageOf pg)) = true) ∧
    (∃ (isl : Nat), isl < 17) ∧
    (∃ (v : Word) (s : State), s.carries .host R.SYS_EVT_EOI = true ∧ s.acc.aggHost.getLsbD (v.toNat % 32) = true ∧
      s.isOn I.HBR = true ∧ s.msixSendable (v.toNat % 32) = true) ∧
    (∃ (q : Requester) (vec : Nat) (v : Word) (s : State), s.carries q (R.HBR_MSIX_V_CTRL (vec % 32)) = true ∧
      v.getLsbD 0 = true) ∧
    (∃ (q : Requester) (vec : Nat) (v : Word) (s : State), s.carries q (R.HBR_MSIX_V_CTRL (vec % 32)) = true ∧
      v.getLsbD 0 = false ∧ s.bit (pbaFld (vec % 32)) = true ∧
      (s.putB (F.HBR_MSIX_V_CTRL_MASK (vec % 32)) false).msixSendable (vec % 32) = true) :=
  ⟨⟨Requester.host, 0, live, by decide +kernel⟩,
   ⟨Requester.host, 0, live, by decide +kernel⟩,
   ⟨16, by decide +kernel⟩,
   ⟨31, ((let s := live; { s with acc := { s.acc with aggHost := 0x80000000 } }) |>.putB F.HBR_CTRL_LINK_MSIXEN true
      |>.putB F.HBR_CTRL_LINK_BME true |>.putB (F.HBR_MSIX_V_CTRL_MASK 31) false), by decide +kernel⟩,
   ⟨Requester.host, 0, 0x1, live, by decide +kernel⟩,
   ⟨Requester.host, 31, 0x0, (live |>.putB (pbaFld (31 % 32)) true |>.putB F.HBR_CTRL_LINK_MSIXEN true
      |>.putB F.HBR_CTRL_LINK_BME true), by decide +kernel⟩⟩

theorem test_witness_BlockControl :
    (∃ (q : Requester) (pg : Nat) (v : Word) (s : State), s.carries q (R.PG_CTRL (pageOf pg)) = true ∧
      s.owns q (pageOf pg) = true ∧ v.getLsbD 1 = true ∧ v.getLsbD 3 = false) ∧
    (∃ (pg : Nat) (s : State), s.acc.srst.contains (pageOf pg) = true) ∧
    (∃ (q : Requester) (pg : Nat) (v : Word) (s : State), s.carries q (R.PG_CTRL (pageOf pg)) = true ∧
      s.owns q (pageOf pg) = true ∧ v.getLsbD 1 = false ∧ v.getLsbD 3 = false) ∧
    (∃ (q : Requester) (pg : Nat) (v : Word) (s : State), s.carries q (R.PG_CTRL (pageOf pg)) = true ∧
      s.owns q (pageOf pg) = true ∧ v.getLsbD 1 = false ∧ v.getLsbD 3 = false ∧ v.getLsbD 2 = false ∧
      s.bit (F.PG_CTRL_CLKREQ (pageOf pg)) = true ∧ neverGated.contains (pageOf pg) = false) ∧
    (∃ (q : Requester) (pg : Nat) (v : Word) (s : State), s.carries q (R.PG_CTRL (pageOf pg)) = true ∧
      s.owns q (pageOf pg) = true ∧ v.getLsbD 1 = false ∧ v.getLsbD 3 = false ∧ v.getLsbD 2 = true) ∧
    (∃ (q : Requester) (l : Line) (v : Word) (s : State), s.carries q (R.PG_CTRL (P.LINE l)) = true ∧
      s.owns q (P.LINE l) = true ∧ v.getLsbD 1 = true ∧ v.getLsbD 3 = false) ∧
    (∃ (q : Requester) (p : BPort) (v : Word) (s : State), s.carries q (R.PG_CTRL (P.PORT p)) = true ∧
      s.owns q (P.PORT p) = true ∧ v.getLsbD 1 = true ∧ v.getLsbD 3 = false ∧ s.lineOpen p.line = false) ∧
    (∃ (q : Requester) (p : BPort) (v : Word) (s : State), s.carries q (R.PG_CTRL (P.PORT p)) = true ∧
      s.owns q (P.PORT p) = true ∧ v.getLsbD 1 = true ∧ v.getLsbD 3 = false ∧ s.lineOpen p.line = true) ∧
    (∃ (q : Requester) (pg : Nat) (v : Word) (s : State), s.carries q (R.PG_CTRL (I.REC * 65536 + pg % 3 * 4096)) = true ∧
      s.owns q (I.REC * 65536 + pg % 3 * 4096) = true ∧ v.getLsbD 1 = true ∧ v.getLsbD 3 = false) ∧
    (∃ (pg : Nat) (s : State), s.pwr.gateReq.contains (pageOf pg) = true) ∧
    (∃ (pg : Nat) (s : State), s.pwr.gateReq.contains (pageOf pg) = false) ∧
    (∃ (pg : Nat) (s : State), s.pwr.gateReq.contains (pageOf pg) = true) :=
  ⟨⟨Requester.host, 0, 0x2, ((unlock live Requester.host (pageOf 0))), by decide +kernel⟩,
   ⟨0, ((let s := live; { s with acc := { s.acc with srst := [(pageOf 0)] } })), by decide +kernel⟩,
   ⟨Requester.host, 0, 0x0, ((unlock live Requester.host (pageOf 0))), by decide +kernel⟩,
   ⟨Requester.host, P.TIM_TS, 0x0, ((unlock live Requester.host (pageOf P.TIM_TS))
      |>.putB (F.PG_CTRL_CLKREQ (pageOf P.TIM_TS)) true), by decide +kernel⟩,
   ⟨Requester.host, 0, 0x4, ((unlock live Requester.host (pageOf 0))), by decide +kernel⟩,
   ⟨Requester.host, Line.b, 0x2, ((unlock live Requester.host (P.LINE Line.b))), by decide +kernel⟩,
   ⟨Requester.host, BPort.la1, 0x2, ((unlock live Requester.host (P.PORT BPort.la1))), by decide +kernel⟩,
   ⟨Requester.host, BPort.la1, 0x2, ((openLine (unlock live Requester.host (P.PORT BPort.la1)) BPort.la1.line)),
      by decide +kernel⟩,
   ⟨Requester.host, 0, 0x2, ((unlock live Requester.host (I.REC * 65536 + 0 % 3 * 4096))), by decide +kernel⟩,
   ⟨0, ((let s := live; { s with pwr := { s.pwr with gateReq := [(pageOf 0)] } })), by decide +kernel⟩,
   ⟨0, live, by decide +kernel⟩,
   ⟨0, ((let s := live; { s with pwr := { s.pwr with gateReq := [(pageOf 0)] } })), by decide +kernel⟩⟩

theorem test_witness_RegisterAccess :
    (∃ (q : Requester) (pg : Nat) (s : State), s.carries q (R.PG_SCRATCH (pageOf pg)) = true) ∧
    (∃ (q : Requester) (pg : Nat) (s : State), s.carries q (R.PG_EVT_EN (pageOf pg)) = true) ∧
    (∃ (q : Requester) (off : Nat) (r : RegRow) (s : State), s.carries q off = true ∧ s.owns q (pageOf off) = true ∧
      off % 4 = 0 ∧ 0x40 ≤ off % 4096 ∧ (islandOf off = I.BLA ∨ islandOf off = I.BLB) ∧ off ≠ R.BL_LINE_CMD .a ∧
      off ≠ R.BL_LINE_CMD .b ∧ isPairHigh off = false ∧ isPairLow off = false ∧ regRow off = some r) ∧
    (∃ (q : Requester) (off : Nat) (s : State), s.pathUp q = true ∧ mapped off = true ∧ s.reachable off = true) ∧
    (∃ (q : Requester) (off : Nat) (s : State), s.carries q off = true ∧ off % 4 = 0 ∧ 0x40 ≤ off % 4096 ∧
      isPairLow off = true) ∧
    (∃ (q : Requester) (off : Nat) (s : State), s.carries q off = true ∧ off % 4 = 0 ∧ 0x40 ≤ off % 4096 ∧
      isPairHigh off = true) ∧
    (∃ (q : Requester) (m : Nat) (hi : Word) (s : State), m < 8 ∧ s.carries q (R.HBR_OWIN_LO m) = true ∧
      s.bit (F.HBR_OWIN_CFG_EN m) = false ∧ s.heldWord q (pageOf (R.HBR_OWIN_LO m)) = some ⟨R.HBR_OWIN_HI m, hi⟩) ∧
    (∃ (q : Requester) (off : Nat) (s : State), s.carries q off = true ∧ off % 4 = 0 ∧ 0x40 ≤ off % 4096 ∧
      isPairLow off = false ∧ isPairHigh off = false ∧ off ≠ R.REC_PORT_POP ∧ s.bit (F.PG_STAT_GATED (pageOf off)) = true) :=
  ⟨⟨Requester.host, 0, live, by decide +kernel⟩,
   ⟨Requester.host, 0, live, by decide +kernel⟩,
   ⟨Requester.host, 0x020040, (⟨64, 1, 1, 1, 1, 0, 0x0fffff7f, 0, true, 0x03233c6d⟩),
      ((unlock live Requester.host (pageOf 0x020040))), by decide +kernel, by decide +kernel, by decide +kernel,
      by decide +kernel, by decide +kernel, by decide +kernel, by decide +kernel, by decide +kernel, by decide +kernel,
      by decide +kernel⟩,
   ⟨Requester.host, 0, live, by decide +kernel⟩,
   ⟨Requester.host, (R.HBR_OWIN_LO 7), live, by decide +kernel⟩,
   ⟨Requester.host, (R.HBR_OWIN_HI 7), live, by decide +kernel⟩,
   ⟨Requester.host, 7, 0, (live |>.putB (F.HBR_OWIN_CFG_EN 7) false
      |>.setHeld Requester.host (pageOf (R.HBR_OWIN_LO 7)) (some ⟨R.HBR_OWIN_HI 7, 0⟩)), by decide +kernel⟩,
   ⟨Requester.host, 0x020040, (live |>.putB (F.PG_STAT_GATED (pageOf 0x020040)) true), by decide +kernel⟩⟩

theorem test_witness_LineSwitching :
    (∃ (l : Line) (s : State), s.mayOpen l = true ∧ ((s.line l.other).opening = false ∨ (s.lineOpen l.other = true ∧
      s.expectedLinked l.other = true))) ∧
    (∃ (l : Line) (s : State), s.mayOpen l = true ∧ (s.line l.other).opening = true ∧
      (s.lineOpen l.other = false ∨ s.expectedLinked l.other = false)) ∧
    (∃ (l : Line) (s : State), s.mayOpen l = false) ∧
    (∃ (l : Line) (s : State), (s.line l).seq = .opening ∧ (s.line l).pendClose = none ∧ s.isOn (lineIsland l) = true ∧
      s.reqOpen l = true) ∧
    (∃ (l : Line) (s : State) (c : CloseCause), (s.line l).seq = .opening ∧ (s.line l).pendClose = some c) ∧
    (∃ (l : Line) (s : State) (c : CloseCause) (d : CloseCause), (s.line l).seq = .closing d ∧ (s.line l).pendClose = some c) ∧
    (∃ (l : Line) (s : State) (c : CloseCause), (s.line l).seq = .closing c ∧ s.isOn (lineIsland l) = true) ∧
    (∃ (l : Line) (s : State) (c : CloseCause), (s.line l).seq = .closing c ∧ s.isOn (lineIsland l) = false) ∧
    (∃ (l : Line) (s : State), s.renews l = false ∧ (s.physwOn l = true ∨ (s.line l).seq = .opening)) ∧
    (∃ (l : Line) (s : State), s.renews l = true) :=
  ⟨⟨Line.b, ((let s := live; s.setLine Line.b.other { s.line Line.b.other with opening := false })
      |>.put (F.SYS_CLK_ISL_CUR (lineIsland Line.b)) 3 |>.putB F.SYS_CLK_STAT_LINE_LOCK true |>.putB (bypBit Line.b 1) true
      |>.putB F.SYS_CLK_STAT_LINE_LOCK true |>.putB F.SYS_RST_BOOT_CFG_OK true |>.putB (F.BL_LINE_CFG_AUTO_OPEN Line.b) true
      |>.putB (F.BL_LINE_STAT_KA_FAB Line.b) true |>.putB (F.BL_LINE_STAT_KA_TOP Line.b) true), by decide +kernel⟩,
   ⟨Line.b, ((let s := live; s.setLine Line.b.other { s.line Line.b.other with opening := true })
      |>.put (F.SYS_CLK_ISL_CUR (lineIsland Line.b)) 3 |>.putB (bypBit Line.b 1) true |>.putB F.SYS_CLK_STAT_LINE_LOCK true
      |>.putB F.SYS_RST_BOOT_CFG_OK true |>.putB (F.BL_LINE_CFG_AUTO_OPEN Line.b) true
      |>.putB (F.BL_LINE_STAT_KA_FAB Line.b) true |>.putB (F.BL_LINE_STAT_KA_TOP Line.b) true
      |>.setLine (Line.other Line.b) { LineState.reset with opening := true }), by decide +kernel⟩,
   ⟨Line.b, live, by decide +kernel⟩,
   ⟨Line.b,
      ((let s := (let s := live; s.setLine Line.b { s.line Line.b with seq := .opening }); s.setLine Line.b { s.line Line.b with pendClose := none })
      |>.putB (bypBit Line.b 0) true), by decide +kernel⟩,
   ⟨Line.b,
      ((let s := (let s := live; s.setLine Line.b { s.line Line.b with seq := .opening }); s.setLine Line.b { s.line Line.b with pendClose := some CloseCause.failsafe })),
      CloseCause.failsafe, by decide +kernel⟩,
   ⟨Line.b,
      ((let s := (let s := live; s.setLine Line.b { s.line Line.b with seq := .closing CloseCause.failsafe }); s.setLine Line.b { s.line Line.b with pendClose := some CloseCause.failsafe })),
      CloseCause.failsafe, CloseCause.failsafe, by decide +kernel⟩,
   ⟨Line.b, ((let s := live; s.setLine Line.b { s.line Line.b with seq := .closing CloseCause.failsafe })), CloseCause.failsafe,
      by decide +kernel⟩,
   ⟨Line.b, ((let s := live; s.setLine Line.b { s.line Line.b with seq := .closing CloseCause.failsafe })
      |>.putB ⟨R.SYS_PWR_STAT, (lineIsland Line.b), (lineIsland Line.b)⟩ false), CloseCause.failsafe, by decide +kernel⟩,
   ⟨Line.b, (live |>.putB (bypBit Line.b 2) true), by decide +kernel⟩,
   ⟨Line.b, (live |>.put (F.SYS_CLK_ISL_CUR (lineIsland Line.b)) 3 |>.putB F.SYS_CLK_STAT_LINE_LOCK true
      |>.put (F.BL_LINE_STAT_STATE Line.b) 1), by decide +kernel⟩⟩

theorem test_witness_LineCommandsAndSupervision :
    (∃ (q : Requester) (l : Line) (v : Word) (s : State), s.carries q (R.BL_LINE_CMD l) = true ∧ s.owns q (P.LINE l) = true ∧
      v.getLsbD 0 = true ∧ (s.line l).seq = .idle ∧ s.lineOpen l = true) ∧
    (∃ (q : Requester) (l : Line) (v : Word) (s : State), s.carries q (R.BL_LINE_CMD l) = true ∧ s.owns q (P.LINE l) = true ∧
      v.getLsbD 0 = true ∧ (s.line l).seq ≠ .idle) ∧
    (∃ (q : Requester) (l : Line) (v : Word) (s : State), s.carries q (R.BL_LINE_CMD l) = true ∧ s.owns q (P.LINE l) = true ∧
      v.getLsbD 0 = true ∧ (s.line l).seq = .idle ∧ s.lineOpen l = false) ∧
    (∃ (q : Requester) (l : Line) (v : Word) (s : State), s.carries q (R.BL_LINE_CMD l) = true ∧ s.owns q (P.LINE l) = true ∧
      v.getLsbD 0 = false) ∧
    (∃ (q : Requester) (l : Line) (v : Word) (s : State), s.carries q (R.BL_LINE_CMD l) = true ∧ s.owns q (P.LINE l) = true ∧
      v.getLsbD 2 = true) ∧
    (∃ (q : Requester) (l : Line) (v : Word) (s : State), s.carries q (R.BL_LINE_CMD l) = true ∧ s.owns q (P.LINE l) = true ∧
      v.getLsbD 1 = true ∧ s.lineOpen l = true) ∧
    (∃ (l : Line) (s : State), s.lineOpen l = true ∧ s.expectedLinked l = false ∧ (s.line l).seq = .idle) ∧
    (∃ (l : Line) (s : State), (s.lineOpen l = false ∨ s.expectedLinked l = true)) ∧
    (∃ (l : Line) (s : State), s.lineOpen l = true ∧ s.expectedLinked l = true) ∧
    (∃ (l : Line) (fab : Bool) (top : Bool) (s : State), s.isOn (lineIsland l) = true ∧ (fab && top) = false ∧
      s.get (F.BL_LINE_STAT_STATE l) ≠ 3) ∧
    (∃ (l : Line) (s : State), s.isOn (lineIsland l) = true) ∧
    (∃ (l : Line) (s : State), s.isOn (lineIsland l) = true ∧ s.get (F.BL_LINE_STAT_STATE l) = 3 ∧
      s.get (F.BL_LINE_STAT_CAUSE l) = 2) ∧
    (∃ (p : BPort) (rate : Nat) (s : State), s.lineOpen p.line = true ∧ s.bit (F.BL_P_STAT_LINK p) = false ∧
      s.txOff p = false ∧ rate ≤ s.advertised p ∧ rate < 4 ∧
      (s.isOn I.TOP = false ∨ ((s.port p).flaps.filter fun t => decide (s.mono < t + max 1 (s.get F.TOP_CFG_FLAP_WIN) * 1000000000)).length + 1 < max 2 (s.get F.TOP_CFG_FLAP_N))) ∧
    (∃ (p : BPort) (rate : Nat) (s : State), s.lineOpen p.line = true ∧ s.bit (F.BL_P_STAT_LINK p) = false ∧
      s.txOff p = false ∧ rate ≤ s.advertised p ∧ s.isOn I.TOP = true ∧
      max 2 (s.get F.TOP_CFG_FLAP_N) ≤ ((s.port p).flaps.filter fun t => decide (s.mono < t + max 1 (s.get F.TOP_CFG_FLAP_WIN) * 1000000000)).length + 1) ∧
    (∃ (p : BPort) (s : State), s.bit (F.BL_P_STAT_LINK p) = true) ∧
    (∃ (p : BPort) (s : State), s.bit (heldFld p) = true) :=
  ⟨⟨Requester.host, Line.b, 0x1,
      ((openLine (let s := (unlock live Requester.host (P.LINE Line.b)); s.setLine Line.b { s.line Line.b with seq := .idle }) Line.b)),
      by decide +kernel⟩,
   ⟨Requester.host, Line.b, 0x1, ((unlock live Requester.host (P.LINE Line.b))
      |>.setLine Line.b { LineState.reset with seq := .opening }), by decide +kernel⟩,
   ⟨Requester.host, Line.b, 0x1,
      ((let s := (unlock live Requester.host (P.LINE Line.b)); s.setLine Line.b { s.line Line.b with seq := .idle })),
      by decide +kernel⟩,
   ⟨Requester.host, Line.b, 0x0, ((unlock live Requester.host (P.LINE Line.b))), by decide +kernel⟩,
   ⟨Requester.host, Line.b, 0x4, ((unlock live Requester.host (P.LINE Line.b))), by decide +kernel⟩,
   ⟨Requester.host, Line.b, 0x2, ((openLine (unlock live Requester.host (P.LINE Line.b)) Line.b)), by decide +kernel⟩,
   ⟨Line.b, ((let s := (openLine live Line.b); s.setLine Line.b { s.line Line.b with seq := .idle })
      |>.putB (F.BL_P_STAT_LINK (Line.b.port false)) false |>.put (F.BL_LINE_CFG_EXP1 Line.b) 1
      |>.put (F.BL_LINE_STAT_STATE Line.b) 2), by decide +kernel⟩,
   ⟨Line.b, live, by decide +kernel⟩,
   ⟨Line.b, ((openLine live Line.b)), by decide +kernel⟩,
   ⟨Line.b, false, false, (live |>.put (F.BL_LINE_STAT_STATE Line.b) 0), by decide +kernel⟩,
   ⟨Line.b, live, by decide +kernel⟩,
   ⟨Line.b, (live |>.put (F.BL_LINE_STAT_STATE Line.b) 3 |>.put (F.BL_LINE_STAT_CAUSE Line.b) 2), by decide +kernel⟩,
   ⟨BPort.la1, 3, ((openLine live BPort.la1.line) |>.putB (F.BL_P_STAT_LINK BPort.la1) false |>.putB ⟨R.SYS_PWR_STAT, I.TOP,
      I.TOP⟩ false), by decide +kernel⟩,
   ⟨BPort.la1, 0, ((openLine live BPort.la1.line) |>.putB (F.BL_P_STAT_LINK BPort.la1) false |>.put F.TOP_CFG_FLAP_N 2
      |>.setPort BPort.la1 { PortState.reset with flaps := [0] }), by decide +kernel⟩,
   ⟨BPort.la1, (live |>.putB (F.BL_P_STAT_LINK BPort.la1) true), by decide +kernel⟩,
   ⟨BPort.la1, (live |>.putB (heldFld BPort.la1) true), by decide +kernel⟩⟩

theorem test_witness_InaugurationTriggers :
    (∃ (q : Requester) (v : Word) (s : State), s.carries q R.TOP_CMD = true ∧ s.owns q P.TOP_INAUG = true ∧
      v.getLsbD 0 = true ∧ s.isOn I.TOP = true ∧ s.etb = false ∧ s.phase = 0) ∧
    (∃ (q : Requester) (v : Word) (s : State), s.carries q R.TOP_CMD = true ∧ s.owns q P.TOP_INAUG = true ∧
      v.getLsbD 0 = true ∧ s.isOn I.TOP = true ∧ s.etb = false ∧ s.phase ≠ 0 ∧ s.awaitsFlip = false ∧ s.top.waved = true) ∧
    (∃ (q : Requester) (v : Word) (s : State), s.carries q R.TOP_CMD = true ∧ s.owns q P.TOP_INAUG = true ∧
      v.getLsbD 0 = true ∧ s.isOn I.TOP = true ∧ s.etb = false ∧ s.phase ≠ 0 ∧ s.awaitsFlip = true) ∧
    (∃ (q : Requester) (v : Word) (s : State), s.carries q R.TOP_CMD = true ∧ s.owns q P.TOP_INAUG = true ∧
      v.getLsbD 1 = true) ∧
    (∃ (s : State), s.isOn I.TOP = true ∧ s.etb = false ∧ s.phase = 0 ∧ ((s.node = 2 ∧ 3 ≤ s.top.watch1.silent ∧
      s.top.watch1.taken = false) ∨ (s.node ≠ 0 ∧ s.node + 1 = s.get F.TOP_COUNT_NODES ∧ 3 ≤ s.top.watchN.silent ∧
      s.top.watchN.taken = false))) ∧
    (∃ (q : Requester) (s : State), s.carries q R.TOP_ETB_CTRL = true ∧ s.etb = true) :=
  ⟨⟨Requester.host, 0x1, ((unlock live Requester.host P.TOP_INAUG) |>.putB F.TOP_ETB_CTRL_EN false |>.put F.TOP_SHADOW_PHASE 0),
      by decide +kernel⟩,
   ⟨Requester.host, 0x1, ((let s := (unlock live Requester.host P.TOP_INAUG); { s with top := { s.top with waved := true } })
      |>.putB F.TOP_ETB_CTRL_EN false |>.put F.TOP_SHADOW_PHASE 1), by decide +kernel⟩,
   ⟨Requester.host, 0x1, ((unlock live Requester.host P.TOP_INAUG) |>.putB F.TOP_ETB_CTRL_EN false |>.put F.TOP_SHADOW_PHASE 1
      |>.put F.TOP_SHADOW_PHASE 4), by decide +kernel⟩,
   ⟨Requester.host, 0x2, ((unlock live Requester.host P.TOP_INAUG)), by decide +kernel⟩,
   ⟨((let s := ((numbered live 509 510)); { s with top := { s.top with watchN := { s.top.watchN with silent := 3 } } })),
      by decide +kernel⟩,
   ⟨Requester.host, (live |>.putB F.TOP_ETB_CTRL_EN true), by decide +kernel⟩⟩

theorem test_witness_CountWave :
    (∃ (p : BPort) (f : NFrame) (s : State), nfCrcOk f = true ∧ s.topAccept p f = .current ∧ f.beam = false ∧
      s.top.reqOut.contains p.opposite = false) ∧
    (∃ (p : BPort) (f : NFrame) (s : State), nfCrcOk f = true ∧ s.topAccept p f = .current ∧
      (f.beam = true ∨ s.top.reqOut.contains p.opposite = true)) ∧
    (∃ (p : BPort) (f : NFrame) (s : State), nfCrcOk f = true ∧ s.topAccept p f = .later) ∧
    (∃ (p : BPort) (f : NFrame) (s : State), nfCrcOk f = true ∧ (s.topAccept p f = .current ∨ s.topAccept p f = .later)) ∧
    (∃ (p : BPort) (f : NFrame) (s : State), nfCrcOk f = true ∧ s.topAccept p f = .current) ∧
    (∃ (p : BPort) (f : NFrame) (s : State), nfCrcOk f = true ∧ s.topAccept p f = .later) ∧
    (∃ (p : BPort) (f : NFrame) (s : State), nfCrcOk f = true ∧ s.topAccept p f = .current) ∧
    (∃ (p : BPort) (f : NFrame) (s : State), nfCrcOk f = true ∧ (s.topAccept p f = .current ∨ s.topAccept p f = .later)) ∧
    (∃ (p : BPort) (f : NFrame) (s : State), nfCrcOk f = true ∧ s.topAccept p f = .drop) ∧
    (∃ (p : BPort) (s : State), s.phase = 1 ∧ s.linked p = true ∧ (s.view p).joined = false ∧ (s.view p).isEnd = false) :=
  ⟨⟨BPort.la1, (frm true 2 8 0 3 0 7 (List.replicate 32 0)), ((openLine (attempt live 1) BPort.la1.line)), by decide +kernel⟩,
   ⟨BPort.la1, (frm true 2 8 0 3 0 1 [0]),
      ((let s := ((openLine (attempt live 1) BPort.la1.line)); { s with top := { s.top with reqOut := [BPort.la1.opposite] } })),
      by decide +kernel⟩,
   ⟨BPort.la1, (frm true 2 8 0 3 0 7 []), ((openLine live BPort.la1.line)), by decide +kernel⟩,
   ⟨BPort.la1, (frm true 2 8 0 3 0 7 (List.replicate 32 0)), ((openLine (attempt live 1) BPort.la1.line)), by decide +kernel⟩,
   ⟨BPort.la1, (frm true 2 8 0 3 0 7 (List.replicate 32 0)), ((openLine (attempt live 1) BPort.la1.line)), by decide +kernel⟩,
   ⟨BPort.la1, (frm true 2 8 0 3 0 2 (List.replicate 32 0)), ((openLine live BPort.la1.line)), by decide +kernel⟩,
   ⟨BPort.la1, (frm true 2 8 0 3 0 7 (List.replicate 32 0)), ((openLine (attempt live 1) BPort.la1.line)), by decide +kernel⟩,
   ⟨BPort.la1, (frm true 2 8 0 3 0 7 (List.replicate 32 0)), ((openLine (attempt live 1) BPort.la1.line)), by decide +kernel⟩,
   ⟨BPort.la1, (frm false 1 7 2 3 0 1 []), live, by decide +kernel⟩,
   ⟨BPort.la1, ((openLine live BPort.la1.line) |>.put F.TOP_SHADOW_PHASE 1), by decide +kernel⟩⟩

theorem test_witness_NumberingAndCommit :
    (∃ (s : State), s.isOn I.TOP = true ∧ (s.phase = 1 ∨ s.phase = 2) ∧ s.viewComplete = true ∧ s.union.1.length ≤ 1024 ∧
      s.top.kept = none) ∧
    (∃ (s : State), s.isOn I.TOP = true ∧ (s.phase = 1 ∨ s.phase = 2) ∧ s.viewComplete = true ∧ 1024 < s.union.1.length) ∧
    (∃ (p : BPort) (f : NFrame) (s : State), nfCrcOk f = true ∧ (s.topAccept p f = .current ∨ s.topAccept p f = .later)) ∧
    (∃ (s : State) (n : Numbering), s.isOn I.TOP = true ∧ s.phase = 3 ∧ s.top.shadow = some n ∧ n.node = 1 ∧
      s.top.acted = none ∧ (s.top.readySeen = true ∨ n.nodes = 1)) ∧
    (∃ (p : BPort) (f : NFrame) (s : State) (n : Numbering), nfCrcOk f = true ∧ s.topAccept p f = .current ∧ s.phase = 3 ∧
      s.top.shadow = some n ∧ s.top.acted = none ∧ (commitOf f.payload).digest = n.digest ∧ (commitOf f.payload).null = false) ∧
    (∃ (p : BPort) (f : NFrame) (s : State) (n : Numbering), nfCrcOk f = true ∧ s.topAccept p f = .current ∧ s.phase = 3 ∧
      s.top.shadow = some n ∧ s.top.acted = none ∧ (commitOf f.payload).digest ≠ n.digest) ∧
    (∃ (p : BPort) (f : NFrame) (s : State), nfCrcOk f = true ∧ s.topAccept p f = .current ∧ s.phase < 3 ∧ s.top.kept = none) ∧
    (∃ (s : State), s.isOn I.TOP = true ∧ s.phase = 3 ∧ s.top.acted = none ∧ s.etb = false) :=
  ⟨⟨((let s := ((let s := (attempt live 1); { s with top := { s.top with kept := none } })
      |>.put F.TOP_SHADOW_PHASE 1); { s with top := { s.top with la1 := { SideView.reset with isEnd := true }, la2 := { SideView.reset with isEnd := true }, lb1 := { SideView.reset with isEnd := true }, lb2 := { SideView.reset with isEnd := true } } })),
      by decide +kernel⟩,
   ⟨((let s := ((attempt live 1)
      |>.put F.TOP_SHADOW_PHASE 1); { s with top := { s.top with la1 := { SideView.reset with isEnd := true, idents := (List.range 1025).map fun k => { Ident.none with serial := k + 1 } }, la2 := { SideView.reset with isEnd := true }, lb1 := { SideView.reset with isEnd := true }, lb2 := { SideView.reset with isEnd := true } } })
      |>.put (F.BL_LINE_STAT_STATE Line.a) 2), by decide +kernel⟩,
   ⟨BPort.la1, (frm true 2 8 0 3 0 7 (List.replicate 32 0)), ((openLine (attempt live 3) BPort.la1.line)), by decide +kernel⟩,
   ⟨((let s := (let s := (let s := live; { s with top := { s.top with shadow := some (⟨2, 2, 1, 1, true, 2, 0, [7, 7]⟩) } }); { s with top := { s.top with acted := none } }); { s with top := { s.top with readySeen := true } })
      |>.put F.TOP_SHADOW_PHASE 3), (⟨2, 2, 1, 1, true, 2, 0, [7, 7]⟩), by decide +kernel⟩,
   ⟨BPort.la1, (frm true 2 8 0 3 0 7 (List.replicate 32 0)),
      ((let s := (let s := (openLine (attempt live 3) BPort.la1.line); { s with top := { s.top with shadow := some (⟨2, 2, 1, 1, true, 2, 0, [7, 7]⟩) } }); { s with top := { s.top with acted := none } })
      |>.put F.TOP_SHADOW_PHASE 3), (⟨2, 2, 1, 1, true, 2, 0, [7, 7]⟩), by decide +kernel⟩,
   ⟨BPort.la1, (frm true 2 8 0 3 0 4 (List.replicate 32 0)),
      ((let s := (let s := (openLine (attempt live 3) BPort.la1.line); { s with top := { s.top with shadow := some (⟨2, 2, 1, 1, true, 2, 5, [7, 7]⟩) } }); { s with top := { s.top with acted := none } })
      |>.put F.TOP_SHADOW_PHASE 3), (⟨2, 2, 1, 1, true, 2, 5, [7, 7]⟩), by decide +kernel⟩,
   ⟨BPort.la1, (frm true 2 8 0 3 0 4 (List.replicate 32 0)),
      ((let s := (openLine (attempt live 2) BPort.la1.line); { s with top := { s.top with kept := none } })),
      by decide +kernel⟩,
   ⟨((let s := live; { s with top := { s.top with acted := none } }) |>.put F.TOP_SHADOW_PHASE 3
      |>.putB F.TOP_ETB_CTRL_EN false), by decide +kernel⟩⟩

theorem test_witness_FlipAndBoundary :
    (∃ (s : State), s.flipReady = true ∧ (s.kReached = true ∨ s.top.flipAt = .lead)) ∧
    (∃ (s : State), s.kReached = false ∧ s.top.flipAt ≠ .lead) ∧
    (∃ (s : State) (t0 : Nat) (n : Nat), s.isOn I.TOP = true ∧ s.top.etbGrace = some (t0, n) ∧ s.etbLeft t0 n = 0) ∧
    (∃ (s : State), s.top.etbGrace = none) ∧
    (∃ (s : State), s.isOn I.TOP = true ∧ s.hlt.session = false ∧ s.hlt.abortDue = false) ∧
    (∃ (s : State), s.isOn I.TOP = true ∧ s.etb = true ∧ s.bit F.TOP_ETB_STAT_INHIBITED = false) ∧
    (∃ (s : State), s.bit F.TOP_ETB_STAT_INHIBITED = true) ∧
    (∃ (q : Requester) (v : Word) (s : State), s.carries q R.TOP_TBL_CMD = true ∧ s.owns q P.TOP_TABLE = true ∧
      v.getLsbD 0 = true ∧ s.get F.TOP_TBL_SEL_TABLE = 3 ∧ s.phase ≠ 0) ∧
    (∃ (q : Requester) (v : Word) (s : State), s.carries q R.TOP_TBL_CMD = true ∧ s.owns q P.TOP_TABLE = true ∧
      v.getLsbD 0 = true ∧ s.get F.TOP_TBL_SEL_TABLE = 3 ∧ s.phase = 0) ∧
    (∃ (q : Requester) (v : Word) (s : State), s.carries q R.TOP_TBL_CMD = true ∧ s.owns q P.TOP_TABLE = true ∧
      (v.getLsbD 0 = false ∨ s.get F.TOP_TBL_SEL_TABLE ≠ 3)) :=
  ⟨⟨((let s := ((attempt live 4)); { s with top := { s.top with flipAt := .lead, shadow := some ⟨2, 2, 1, 1, true, 2, 0, [7, 7]⟩ } })),
      by decide +kernel⟩,
   ⟨live, by decide +kernel⟩,
   ⟨({ ((let s := live; { s with top := { s.top with etbGrace := some (0, 4) } })) with mono5 := 100000000000 }), 0, 4,
      by decide +kernel⟩,
   ⟨((let s := live; { s with top := { s.top with etbGrace := none } })), by decide +kernel⟩,
   ⟨((let s := (let s := live; { s with hlt := { s.hlt with session := false } }); { s with hlt := { s.hlt with abortDue := false } })),
      by decide +kernel⟩,
   ⟨(live |>.putB F.TOP_ETB_CTRL_EN true |>.putB F.TOP_ETB_STAT_INHIBITED false), by decide +kernel⟩,
   ⟨(live |>.putB F.TOP_ETB_STAT_INHIBITED true), by decide +kernel⟩,
   ⟨Requester.host, 0x1, ((unlock (attempt live 4) Requester.host P.TOP_TABLE) |>.put F.TOP_TBL_SEL_TABLE 3
      |>.put F.TOP_SHADOW_PHASE 1), by decide +kernel⟩,
   ⟨Requester.host, 0x1, ((unlock live Requester.host P.TOP_TABLE) |>.put F.TOP_TBL_SEL_TABLE 3 |>.put F.TOP_SHADOW_PHASE 0),
      by decide +kernel⟩,
   ⟨Requester.host, 0x0, ((unlock live Requester.host P.TOP_TABLE)), by decide +kernel⟩⟩

theorem test_witness_MarkersAndProbes :
    (∃ (x : BPort) (s : State), s.windowRuns x = true ∧ (s.beamRefresh x.line).originates x = true) ∧
    (∃ (x : BPort) (s : State), s.windowRuns x = true) ∧
    (∃ (x : BPort) (s : State), s.windowRuns x = true ∧ (s.beamRefresh x.line).mayInsert x = true) ∧
    (∃ (x : BPort) (f : NFrame) (e : SubSlot) (s : State), s.windowRuns x = true ∧ (s.beamRefresh x.line).mayInsert x = true ∧
      (s.beamRefresh x.line).ctlSlot x = some e ∧ s.beam.ctl = [(x, f)] ∧ frameBlocks f ≤ e.width) ∧
    (∃ (x : BPort) (s : State), s.windowRuns x = false) ∧
    (∃ (x : BPort) (b : BeamFrame) (s : State), s.windowRuns x = true ∧ s.bit (F.BL_P_STAT_LINK x.opposite) = true ∧
      beamHeaderOk b = true ∧ beamCrcOk b = true ∧ b.kld / 16 = kldOf 1 x / 16 ∧ (s.dir x).run = 0 ∧ s.originates x = false) ∧
    (∃ (x : BPort) (arrival : Nat) (b : BeamFrame) (s : State), s.windowRuns x = true ∧
      s.bit (F.BL_P_STAT_LINK x.opposite) = true ∧ beamHeaderOk b = true ∧ beamCrcOk b = true ∧ b.kld / 16 = kldOf 1 x / 16 ∧
      ((s.dir x).run ≠ 0 ∨ s.originates x = true) ∧ (s.deviation x arrival).natAbs ≤ s.track x.line) ∧
    (∃ (x : BPort) (arrival : Nat) (b : BeamFrame) (s : State), s.windowRuns x = true ∧
      s.bit (F.BL_P_STAT_LINK x.opposite) = true ∧ beamHeaderOk b = true ∧ beamCrcOk b = true ∧ b.kld / 16 = kldOf 1 x / 16 ∧
      ((s.dir x).run ≠ 0 ∨ s.originates x = true) ∧ s.track x.line < (s.deviation x arrival).natAbs) ∧
    (∃ (x : BPort) (b : BeamFrame) (s : State), s.windowRuns x = true ∧ s.bit (F.BL_P_STAT_LINK x.opposite) = true ∧
      beamHeaderOk b = false) ∧
    (∃ (x : BPort) (s : State), s.windowRuns x = true ∧ s.originates x = false) ∧
    (∃ (p : BPort) (s : State), s.linked p = true ∧ (s.beam.probe p).wait = 0) ∧
    (∃ (p : BPort) (s : State), (s.linked p = false ∨ (s.beam.probe p).wait ≠ 0)) ∧
    (∃ (p : BPort) (b : BeamFrame) (s : State), s.linked p = true ∧ beamHeaderOk b = true ∧ beamCrcOk b = true ∧
      beamKind b = 2) ∧
    (∃ (p : BPort) (b : BeamFrame) (s : State), s.linked p = true ∧ beamHeaderOk b = false) ∧
    (∃ (p : BPort) (b : BeamFrame) (s : State), s.linked p = true ∧ beamHeaderOk b = true ∧ beamCrcOk b = false) ∧
    (∃ (q : Requester) (v : Word) (s : State), s.carries q R.TOP_SLOT_ARM = true ∧ s.owns q P.TOP_SLOT = true ∧
      v.getLsbD 0 = true ∧ laterThan 32 (s.get F.TOP_SLOT_APPLY_K_K) s.cycle = true) ∧
    (∃ (q : Requester) (v : Word) (s : State), s.carries q R.TOP_SLOT_ARM = true ∧ s.owns q P.TOP_SLOT = true ∧
      v.getLsbD 0 = true ∧ laterThan 32 (s.get F.TOP_SLOT_APPLY_K_K) s.cycle = false) ∧
    (∃ (q : Requester) (v : Word) (s : State), s.carries q R.TOP_SLOT_ARM = true ∧ s.owns q P.TOP_SLOT = true ∧
      v.getLsbD 0 = false) :=
  ⟨⟨BPort.la1, ((openLine (numbered live 2 3) BPort.la1.line) |>.put (F.SYS_CLK_ISL_CUR (lineIsland (BPort.la1).line)) 3
      |>.putB (F.BL_P_STAT_LINK BPort.la1.opposite) false), by decide +kernel⟩,
   ⟨BPort.la1, ((openLine (openLine live BPort.la1.line) BPort.la1.line)
      |>.put (F.SYS_CLK_ISL_CUR (lineIsland (BPort.la1).line)) 3 |>.put (F.SYS_CLK_ISL_CUR (lineIsland BPort.la1.line)) 3),
      by decide +kernel⟩,
   ⟨BPort.la2, ((let s := ((openLine (numbered live 2 3) BPort.la2.line)
      |>.put (F.SYS_CLK_ISL_CUR (lineIsland (BPort.la2).line)) 3 |>.put (F.BL_LINE_STAT_STATE BPort.la2.line) 2
      |>.setDir BPort.la2 { BeamDir.reset with run := 2, mark := some 0, span := true }
      |>.setDir BPort.la2 { BeamDir.reset with run := 2, mark := some 0, span := true }); { s with beam := { s.beam with active := some ⟨10, [⟨1, 2, 5, 4⟩], [⟨1, 2, 5, 4⟩], false, false, false⟩ } })
      |>.put (F.BL_P_STAT_RATE BPort.la2) 2 |>.put (F.BL_P_STAT_RATE BPort.la2.opposite) 2), by decide +kernel⟩,
   ⟨BPort.la2, (frm false 1 7 2 3 0 1 []), (⟨1, 2, 5, 4⟩),
      ((let s := ((let s := (openLine (numbered live 2 3) BPort.la2.line); { s with beam := { s.beam with ctl := [(BPort.la2, (frm false 1 7 2 3 0 1 []))] } })
      |>.put (F.SYS_CLK_ISL_CUR (lineIsland (BPort.la2).line)) 3 |>.put (F.BL_LINE_STAT_STATE BPort.la2.line) 2
      |>.setDir BPort.la2 { BeamDir.reset with run := 2, mark := some 0, span := true }
      |>.setDir BPort.la2 { BeamDir.reset with run := 2, mark := some 0, span := true }); { s with beam := { s.beam with active := some ⟨10, [⟨1, 2, 5, 4⟩], [⟨1, 2, 5, 4⟩], false, false, false⟩ } })
      |>.put (F.BL_P_STAT_RATE BPort.la2) 2 |>.put (F.BL_P_STAT_RATE BPort.la2.opposite) 2), by decide +kernel⟩,
   ⟨BPort.la1, live, by decide +kernel⟩,
   ⟨BPort.la1, (mkBeam 1 BPort.la1 1 (markerData 5 7 false 0)), ((openLine (numbered live 2 3) BPort.la1.line)
      |>.put (F.SYS_CLK_ISL_CUR (lineIsland (BPort.la1).line)) 3 |>.putB (F.BL_P_STAT_LINK BPort.la1.opposite) true),
      by decide +kernel⟩,
   ⟨BPort.la1, 0, (mkBeam 1 BPort.la1 1 (markerData 5 7 false 0)), ((openLine (numbered live 2 3) BPort.la1.line)
      |>.put (F.SYS_CLK_ISL_CUR (lineIsland (BPort.la1).line)) 3 |>.putB (F.BL_P_STAT_LINK BPort.la1.opposite) true
      |>.setDir BPort.la1 { BeamDir.reset with run := 2 }), by decide +kernel⟩,
   ⟨BPort.la1, 9, (mkBeam 1 BPort.la1 1 (markerData 5 7 false 0)), ((openLine (numbered live 2 3) BPort.la1.line)
      |>.put (F.SYS_CLK_ISL_CUR (lineIsland (BPort.la1).line)) 3 |>.putB (F.BL_P_STAT_LINK BPort.la1.opposite) true
      |>.setDir BPort.la1 { BeamDir.reset with run := 2 }), by decide +kernel⟩,
   ⟨BPort.la1, (BeamFrame.mk 0x4E4C 0 2 1 0 [] 0), ((openLine (openLine live BPort.la1.line) BPort.la1.line)
      |>.put (F.SYS_CLK_ISL_CUR (lineIsland (BPort.la1).line)) 3 |>.putB (F.BL_P_STAT_LINK BPort.la1.opposite) true
      |>.put (F.SYS_CLK_ISL_CUR (lineIsland BPort.la1.line)) 3), by decide +kernel⟩,
   ⟨BPort.la1, ((openLine (openLine live BPort.la1.line) BPort.la1.line)
      |>.put (F.SYS_CLK_ISL_CUR (lineIsland (BPort.la1).line)) 3 |>.put (F.SYS_CLK_ISL_CUR (lineIsland BPort.la1.line)) 3),
      by decide +kernel⟩,
   ⟨BPort.la1, ((openLine live BPort.la1.line)), by decide +kernel⟩,
   ⟨BPort.la1, live, by decide +kernel⟩,
   ⟨BPort.la1, (mkBeam 2 BPort.la1 1 (probeData 5 6 7 8)), ((openLine live BPort.la1.line)), by decide +kernel⟩,
   ⟨BPort.la1, (BeamFrame.mk 0x4E4C 0 2 1 0 [] 0), ((openLine live BPort.la1.line)), by decide +kernel⟩,
   ⟨BPort.la1, ({ mkBeam 2 BPort.la1 1 (probeData 5 6 7 8) with fcs := 1 }), ((openLine live BPort.la1.line)), by decide +kernel⟩,
   ⟨Requester.host, 0x1, ((unlock live Requester.host P.TOP_SLOT) |>.put F.TOP_SLOT_APPLY_K_K 1), by decide +kernel⟩,
   ⟨Requester.host, 0x1, ((unlock live Requester.host P.TOP_SLOT)), by decide +kernel⟩,
   ⟨Requester.host, 0x0, ((unlock live Requester.host P.TOP_SLOT)), by decide +kernel⟩⟩

theorem test_witness_NativeFrames :
    (∃ (p : BPort) (s : State), s.linked p = false ∧ s.hlt.abortDue = false) ∧
    (∃ (p : BPort) (s : State), s.linked p = true ∧ s.hlt.abortDue = false) ∧
    (∃ (p : BPort) (f : NFrame) (s : State), s.linked p = true ∧ nfCrcOk f = false ∧ s.hlt.abortDue = false) ∧
    (∃ (p : BPort) (pcp : Nat) (f : NFrame) (s : State), s.isOn I.FAB = true ∧ s.linked p = true ∧
      s.linked p.opposite = true ∧ s.hlt.abortDue = false ∧ nfCrcOk f = true ∧ f.cls < 2 ∧ f.atype = 3 ∧
      s.cutThrough p.idx p.opposite.idx (pcp % 8) (.native f) = true) ∧
    (∃ (p : BPort) (pcp : Nat) (f : NFrame) (s : State), s.isOn I.FAB = true ∧ s.linked p = true ∧
      s.linked p.opposite = true ∧ s.hlt.abortDue = false ∧ nfCrcOk f = true ∧ f.cls < 2 ∧ f.atype = 3 ∧
      s.cutThrough p.idx p.opposite.idx (pcp % 8) (.native f) = false ∧ cellsOf (.native f) ≤ s.get (freeFld 0) ∧
      cellsIn (s.queue p.opposite.idx (pcp % 8)) + cellsOf (.native f) ≤ s.maxCells p.opposite.idx (pcp % 8)) ∧
    (∃ (p : BPort) (f : NFrame) (k : Nat) (s : State), s.isOn I.FAB = true ∧ s.linked p = true ∧ s.hlt.abortDue = false ∧
      nfCrcOk f = true ∧ f.cls = 1 ∧ (s.ldup f).1 = true ∧ s.acceptTable f = some k ∧ nfMalformed f = false ∧
      s.addressed k f = true ∧ s.lookupKey k 1 f.src f.flow = none) ∧
    (∃ (p : BPort) (f : NFrame) (s : State), s.isOn I.FAB = true ∧ s.linked p = true ∧ s.linked p.opposite = false ∧
      s.hlt.abortDue = false ∧ nfCrcOk f = true ∧ f.cls ≠ 2 ∧ f.cls ≠ 4 ∧ (s.ldup f).1 = false) ∧
    (∃ (p : BPort) (s : State), s.linked p = false) ∧
    (∃ (p : BPort) (pos : Nat) (b : BeamFrame) (s : State), s.linked p = true ∧ s.hlt.abortDue = false ∧
      (nfParse b.data).cls ≠ 2 ∧ (nfParse b.data).cls ≠ 4 ∧ s.hasSpan p.opposite = true ∧ s.originates p.opposite = false ∧
      s.linked p.opposite = true ∧ s.replaces p.opposite pos (b.nblk + 2) = false) ∧
    (∃ (p : BPort) (b : BeamFrame) (s : State), s.linked p = true ∧ beamHeaderOk b = false) ∧
    (∃ (p : BPort) (b : BeamFrame) (s : State), s.linked p = true ∧ beamHeaderOk b = true ∧ beamCrcOk b = false) ∧
    (∃ (p : BPort) (b : BeamFrame) (s : State), s.linked p = true ∧ s.hlt.abortDue = false ∧ (nfParse b.data).cls ≠ 2 ∧
      (nfParse b.data).cls ≠ 4 ∧ beamHeaderOk b = true ∧ beamCrcOk b = true ∧ beamKind b = 0 ∧ s.hasSpan p.opposite = true) :=
  ⟨⟨BPort.la1, ((let s := live; { s with hlt := { s.hlt with abortDue := false } })), by decide +kernel⟩,
   ⟨BPort.la1, ((let s := (openLine live BPort.la1.line); { s with hlt := { s.hlt with abortDue := false } })),
      by decide +kernel⟩,
   ⟨BPort.la1, (mkFrame 1 7 2 3 0 1 0 []),
      ((let s := (openLine live BPort.la1.line); { s with hlt := { s.hlt with abortDue := false } })), by decide +kernel⟩,
   ⟨BPort.la1, 0, (frm false 1 7 2 3 0 1 []),
      ((let s := (openLine (openLine live BPort.la1.line) ((BPort.la1.opposite).line)); { s with hlt := { s.hlt with abortDue := false } })),
      by decide +kernel⟩,
   ⟨BPort.la1, 0, (frm false 0 7 2 3 0 1 []),
      ((let s := (openLine (openLine (openLine (numbered live 2 3) BPort.la1.line) BPort.la1.line) ((BPort.la1.opposite).line)); { s with hlt := { s.hlt with abortDue := false } })
      |>.put (freeFld 0) 1000 |>.put F.FAB_CTRL_CFG_CT_EN 0), by decide +kernel⟩,
   ⟨BPort.la1, (frm false 1 7 3 3 0 1 []), 0,
      ((let s := (openLine (openLine (numbered live 2 3) BPort.la1.line) BPort.la1.line); { s with hlt := { s.hlt with abortDue := false } })
      |>.putB (F.BL_P_STAT_LINK BPort.la1.opposite) false), by decide +kernel⟩,
   ⟨BPort.la1, (frm false 1 7 2 3 0 1 []),
      ((let s := ((let s := (openLine (openLine (numbered live 2 3) BPort.la1.line) BPort.la1.line); { s with hlt := { s.hlt with abortDue := false } })
      |>.putB (F.BL_P_STAT_LINK BPort.la1.opposite) false); { s with fab := { s.fab with ldup := [⟨7, 2, 1, 1, 0, 1, 0⟩] } })),
      by decide +kernel⟩,
   ⟨BPort.la1, live, by decide +kernel⟩,
   ⟨BPort.la1, 0, (mkBeam 0 BPort.la1.opposite 3 (nfBytes (frm false 0 7 3 3 0 1 []))),
      ((openLine (let s := (openLine (openLine live BPort.la1.line) BPort.la1.line); { s with hlt := { s.hlt with abortDue := false } }) ((BPort.la1.opposite).line))
      |>.put (F.SYS_CLK_ISL_CUR (lineIsland BPort.la1.line)) 3
      |>.setDir BPort.la1.opposite { BeamDir.reset with run := 2, span := true }), by decide +kernel⟩,
   ⟨BPort.la1, (BeamFrame.mk 0x4E4C 0 2 1 0 [] 0), ((openLine live BPort.la1.line)), by decide +kernel⟩,
   ⟨BPort.la1, ({ mkBeam 0 BPort.la1.opposite 3 (nfBytes (frm false 0 7 3 3 0 1 [])) with fcs := 1 }),
      ((openLine live BPort.la1.line)), by decide +kernel⟩,
   ⟨BPort.la1, (mkBeam 0 BPort.la1.opposite 3 (nfBytes (frm false 0 7 3 3 0 1 []))),
      ((let s := (openLine (openLine live BPort.la1.line) BPort.la1.line); { s with hlt := { s.hlt with abortDue := false } })
      |>.put (F.SYS_CLK_ISL_CUR (lineIsland BPort.la1.line)) 3
      |>.setDir BPort.la1.opposite { BeamDir.reset with run := 2, span := true }), by decide +kernel⟩⟩

theorem test_witness_EthernetBridging :
    (∃ (port : Nat) (f : EthFrame) (s : State), 4 ≤ port ∧ port < 12 ∧ s.isOn I.FAB = true ∧ s.portLinked port = true ∧
      f.etype = 0x8808) ∧
    (∃ (port : Nat) (f : EthFrame) (s : State), port < 4 ∧ f.etype = 0x8808 ∧ s.get F.FAB_CTRL_ETYPE_ETYPE ≠ 0x8808) ∧
    (∃ (port : Nat) (f : EthFrame) (s : State), port < 12 ∧ s.isOn I.FAB = true ∧ s.portLinked port = true ∧
      f.etype ≠ 0x8808 ∧ f.etype ≠ s.get F.FAB_CTRL_ETYPE_ETYPE ∧ (port < 4 ∨ wireLen (.eth f) ≤ 1522)) ∧
    (∃ (port : Nat) (f : EthFrame) (pcp : Nat) (vid : Nat) (n : Nat) (s : State), port < 12 ∧ s.isOn I.FAB = true ∧
      s.portLinked port = true ∧ f.etype ≠ 0x8808 ∧ f.etype ≠ s.get F.FAB_CTRL_ETYPE_ETYPE ∧
      (port < 4 ∨ wireLen (.eth f) ≤ 1522 ∧ s.get (F.CP_P_CFG_POLICER (port - 4)) = 0) ∧ f.tag = some (pcp, vid) ∧
      s.vlanOf vid = some n ∧ f.src / 2 ^ 40 % 2 = 0 ∧ s.fab.fdb.length < 8192) ∧
    (∃ (port : Nat) (f : EthFrame) (pcp : Nat) (vid : Nat) (n : Nat) (x : Nat × AnyFrame) (s : State), port < 12 ∧
      s.isOn I.FAB = true ∧ s.portLinked port = true ∧ f.etype ≠ 0x8808 ∧ f.etype ≠ s.get F.FAB_CTRL_ETYPE_ETYPE ∧
      (port < 4 ∨ wireLen (.eth f) ≤ 1522 ∧ s.get (F.CP_P_CFG_POLICER (port - 4)) = 0) ∧ f.tag = some (pcp, vid) ∧
      f.rtag = none ∧ s.vlanOf vid = some n ∧ f.src / 2 ^ 40 % 2 = 1 ∧ s.ethOuts n port vid pcp f = [x] ∧
      s.cutThrough port x.1 pcp x.2 = false ∧ cellsOf x.2 ≤ s.get (freeFld (rxPool port)) ∧
      cellsIn (s.queue x.1 pcp) + cellsOf x.2 ≤ s.maxCells x.1 pcp) ∧
    (∃ (port : Nat) (q : Nat) (x : QFrame) (xs : List QFrame) (late : Nat) (s : State), port ≤ 12 ∧ s.portLinked port = true ∧
      q < 8 ∧ s.queue port q = x :: xs ∧ (if port = 12 then x.mgt else s.fitsNow late port q x.frame) = true ∧ (∀ r y ys,
      q < r → r < 8 → s.queue port r = y :: ys → (if port = 12 then y.mgt else s.fitsNow late port r y.frame) = false)) ∧
    (∃ (port : Nat) (free : Bool) (s : State), (s.portLinked port = false ∨ free = false)) ∧
    (∃ (s : State), s.get F.FAB_CTRL_AGE_AGE ≠ 0) ∧
    (∃ (s : State), s.get F.FAB_CTRL_AGE_AGE = 0) ∧
    (∃ (q : Requester) (s : State), s.carries q R.FAB_CTRL_AGE = true ∧ s.owns q P.FAB_CTRL = true) :=
  ⟨⟨11, (⟨1, 2, none, none, 0x8808, []⟩), (live |>.putB (F.CP_P_STAT_LINK (11 - 4)) true), by decide +kernel⟩,
   ⟨3, (⟨1, 2, none, none, 0x8808, []⟩), live, by decide +kernel⟩,
   ⟨3, (EthFrame.mk 1 2 none none 0x800 []), ((openLine live (Line.b))), by decide +kernel⟩,
   ⟨3, (⟨1, 2, some (7, 5), none, 0x800, []⟩), 7, 5, 63, ((openLine live (Line.b)) |>.putB (F.FAB_CTRL_VLAN_W0_VALID 63) true
      |>.put (F.FAB_CTRL_VLAN_W0_VID 63) 5), by decide +kernel⟩,
   ⟨7, (⟨1, 2 ^ 40 + 2, some (7, 5), none, 0x800, []⟩), 7, 5, 63, (5, .eth ⟨1, 2 ^ 40 + 2, some (7, 5), none, 0x800, []⟩), (live
      |>.putB (F.FAB_CTRL_VLAN_W0_VALID 63) true |>.put (F.FAB_CTRL_VLAN_W0_VID 63) 5
      |>.put (F.FAB_CTRL_VLAN_W0_MEMBERS 63) 0xA0 |>.putB (F.CP_P_STAT_LINK 1) true |>.putB (F.CP_P_STAT_LINK 3) true
      |>.put (freeFld 1) 1000), by decide +kernel⟩,
   ⟨11, 7, (⟨.native (frm false 0 7 2 3 0 1 []), 1, 0, none, false, 0, 0, 0⟩), ([]), 0, (live
      |>.setQueue 11 7 [(⟨.native (frm false 0 7 2 3 0 1 []), 1, 0, none, false, 0, 0, 0⟩)]
      |>.putB (F.CP_P_STAT_LINK (11 - 4)) true), by decide +kernel, by decide +kernel, by decide +kernel, by decide +kernel,
      by decide +kernel, by intro r y ys h1 h2; omega⟩,
   ⟨0, false, live, by decide +kernel⟩,
   ⟨(live |>.put F.FAB_CTRL_AGE_AGE 1), by decide +kernel⟩,
   ⟨(live |>.put F.FAB_CTRL_AGE_AGE 0), by decide +kernel⟩,
   ⟨Requester.host, ((unlock live Requester.host P.FAB_CTRL)), by decide +kernel⟩⟩

theorem test_witness_FlowContexts :
    (∃ (q : Requester) (v : Word) (s : State), s.carries q R.FAB_FLOW_CMD = true ∧ s.owns q P.FAB_FLOW = true ∧
      v.getLsbD 0 = false ∧ v.getLsbD 1 = true ∧ v.getLsbD 2 = false ∧ s.phase = 0 ∧
      (q = .firmware ∨ (s.rdByte (ctxAddr (s.get F.FAB_FLOW_SEL_INDEX))).toNat / 8 % 4 ≠ 2 ∧
      (s.flowData.getD 0 0).toNat / 8 % 4 ≠ 2) ∧
      ((s.flowData.getD 0 0).getLsbD 7 = true → badFlow (hostBytes (s.rdBytes (ctxAddr (s.get F.FAB_FLOW_SEL_INDEX)) 64) s.flowData) = false) ∧
      ((s.flowData.getD 0 0).getLsbD 7 = true → (s.flowData.getD 0 0).toNat / 32 % 4 ≠ 0 → s.fab.ways = [])) ∧
    (∃ (q : Requester) (v : Word) (s : State), s.carries q R.FAB_FLOW_CMD = true ∧ s.owns q P.FAB_FLOW = true ∧
      v.getLsbD 0 = false ∧ v.getLsbD 1 = true ∧ v.getLsbD 2 = false ∧ q ≠ .firmware ∧
      ((s.rdByte (ctxAddr (s.get F.FAB_FLOW_SEL_INDEX))).toNat / 8 % 4 = 2 ∨ (s.flowData.getD 0 0).toNat / 8 % 4 = 2)) ∧
    (∃ (v : Word) (s : State), s.carries .firmware R.FAB_FLOW_CMD = true ∧ s.owns .firmware P.FAB_FLOW = true ∧
      v.getLsbD 0 = false ∧ v.getLsbD 1 = true ∧ v.getLsbD 2 = false ∧ s.phase = 0 ∧ (s.flowData.getD 0 0).getLsbD 7 = true ∧
      badFlow (hostBytes (s.rdBytes (ctxAddr (s.get F.FAB_FLOW_SEL_INDEX)) 64) s.flowData) = true) ∧
    (∃ (q : Requester) (v : Word) (s : State), s.carries q R.FAB_FLOW_CMD = true ∧ v.getLsbD 0 = true ∧ v.getLsbD 1 = false ∧
      v.getLsbD 2 = false) ∧
    (∃ (q : Requester) (v : Word) (s : State), s.carries q R.FAB_FLOW_CMD = true ∧ s.owns q P.FAB_FLOW = true ∧
      v.getLsbD 0 = false ∧ v.getLsbD 1 = false ∧ v.getLsbD 2 = true) ∧
    (∃ (ctx : Nat) (s : State), ctx < 4096 ∧ s.isOn I.FAB = true ∧ s.ctxValid ctx = true ∧ s.ctxTimeout ctx ≠ 0 ∧
      s.ctxStat ctx 6 = false ∧ s.ctxTimeout ctx < s.mono - s.rdNum (ctxAddr ctx + 36) 8) ∧
    (∃ (ctx : Nat) (s : State),
      (s.isOn I.FAB = false ∨ s.ctxValid ctx = false ∨ s.ctxTimeout ctx = 0 ∨ s.ctxStat ctx 6 = true ∨ s.mono - s.rdNum (ctxAddr ctx + 36) 8 ≤ s.ctxTimeout ctx)) ∧
    (∃ (q : Requester) (s : State), s.carries q R.FAB_GATE_CTRL = true ∧ s.owns q P.FAB_GATE = true) ∧
    (∃ (q : Requester) (hi : Bool) (s : State), s.carries q (if hi then R.FAB_QUE_BANK_HI else R.FAB_QUE_BANK_LO) = true ∧
      s.owns q P.FAB_QUE = true) ∧
    (∃ (bank : Nat) (e : Nat × Nat) (s : State), (s.fab.moving.find? fun m => m.1 == bank) = some e ∧
      1024 ≤ s.get (freeFld e.2) ∧ s.bankTested bank = false) ∧
    (∃ (bank : Nat) (e : Nat × Nat) (s : State), (s.fab.moving.find? fun m => m.1 == bank) = some e ∧
      1024 ≤ s.get (freeFld e.2) ∧ s.bankTested bank = true ∧ s.get F.HLT_BIST_STAT_STATE = 1) ∧
    (∃ (bank : Nat) (e : Nat × Nat) (s : State), (s.fab.moving.find? fun m => m.1 == bank) = some e ∧
      s.get (freeFld e.2) < 1024) ∧
    (∃ (bank : Nat) (s : State), (s.fab.moving.find? fun m => m.1 == bank) = none) :=
  ⟨⟨Requester.host, 0x2, ((unlock live Requester.host P.FAB_FLOW) |>.put F.TOP_SHADOW_PHASE 0), by decide +kernel⟩,
   ⟨Requester.host, 0x2, ((unlock live Requester.host P.FAB_FLOW) |>.wr (R.FAB_FLOW_DATA 0) 0x90000000), by decide +kernel⟩,
   ⟨2, ((unlock live .firmware P.FAB_FLOW) |>.put F.TOP_SHADOW_PHASE 0 |>.wr (R.FAB_FLOW_DATA 0) 0xE0000000), by decide +kernel⟩,
   ⟨Requester.host, 0x1, live, by decide +kernel⟩,
   ⟨Requester.host, 0x4, ((unlock live Requester.host P.FAB_FLOW)), by decide +kernel⟩,
   ⟨4095, ({ ((ram live (ctxAddr 4095) [0xA6]) |>.wrBytes (ctxAddr 4095 + 28) [0, 5]) with mono5 := 5000000000000 }),
      by decide +kernel⟩,
   ⟨0, (live |>.putB ⟨R.SYS_PWR_STAT, I.FAB, I.FAB⟩ false), by decide +kernel⟩,
   ⟨Requester.host, ((unlock live Requester.host P.FAB_GATE)), by decide +kernel⟩,
   ⟨Requester.host, false, ((unlock live Requester.host P.FAB_QUE)), by decide +kernel⟩,
   ⟨1, (1, 3), ((let s := (live |>.put (freeFld 3) 1024); { s with fab := { s.fab with moving := [(1, 3)] } })),
      by decide +kernel⟩,
   ⟨1, (1, 3), ((let s := ((let s := (live |>.put F.HLT_BIST_STAT_STATE 1
      |>.put (freeFld 3) 1024); { s with fab := { s.fab with moving := [(1, 3)] } })); { s with hlt := { s.hlt with test := some ⟨0, 1, 1, false, [⟨0, 3⟩], true⟩ } })),
      by decide +kernel⟩,
   ⟨1, (1, 3), ((let s := live; { s with fab := { s.fab with moving := [(1, 3)] } }) |>.put (freeFld 3) 0), by decide +kernel⟩,
   ⟨0, live, by decide +kernel⟩⟩

theorem test_witness_ConsistPorts :
    (∃ (port : Nat) (s : State), port < 8 ∧ s.isOn (I.CPA + port / 4) = true) ∧
    (∃ (port : Nat) (s : State), s.isOn (I.CPA + port / 4) = false) ∧
    (∃ (port : Nat) (e : EthFrame) (fcsOk : Bool) (f : PdFrame) (s : State), port < 8 ∧ s.isOn (I.CPA + port / 4) = true ∧
      s.bit (F.CP_P_STAT_LINK port) = true ∧ s.bit (F.CP_CTRL_TRDP_EN (port / 4)) = true ∧
      (if s.isOn I.FAB then (s.ethRx (4 + port) e fcsOk).1 else fcsOk) = true ∧ f.ipOk = true ∧ f.type = .pd ∧ f.udp = true ∧
      f.port = s.get (F.CP_CTRL_TRDP_PORT (port / 4)) ∧ f.hfcsOk = false) ∧
    (∃ (port : Nat) (e : EthFrame) (fcsOk : Bool) (f : PdFrame) (s : State), port < 8 ∧ s.isOn (I.CPA + port / 4) = true ∧
      s.bit (F.CP_P_STAT_LINK port) = true ∧ s.bit (F.CP_CTRL_TRDP_EN (port / 4)) = true ∧
      (if s.isOn I.FAB then (s.ethRx (4 + port) e fcsOk).1 else fcsOk) = true ∧ f.ipOk = true ∧ f.type = .pd ∧ f.udp = true ∧
      f.port = s.get (F.CP_CTRL_TRDP_PORT (port / 4)) ∧ f.hfcsOk = true ∧ badPd f = true) ∧
    (∃ (port : Nat) (e : EthFrame) (fcsOk : Bool) (f : PdFrame) (s : State), port < 8 ∧ s.isOn (I.CPA + port / 4) = true ∧
      s.bit (F.CP_P_STAT_LINK port) = true ∧ s.bit (F.CP_CTRL_TRDP_EN (port / 4)) = true ∧
      (if s.isOn I.FAB then (s.ethRx (4 + port) e fcsOk).1 else fcsOk) = true ∧ f.ipOk = true ∧ f.type = .pd ∧ f.udp = true ∧
      f.port = s.get (F.CP_CTRL_TRDP_PORT (port / 4)) ∧ f.hfcsOk = true ∧ badPd f = false ∧ s.badTopo (port / 4) f = true) ∧
    (∃ (port : Nat) (e : EthFrame) (fcsOk : Bool) (f : PdFrame) (k : Nat) (s : State), port < 8 ∧
      s.isOn (I.CPA + port / 4) = true ∧ s.bit (F.CP_P_STAT_LINK port) = true ∧ s.bit (F.CP_CTRL_TRDP_EN (port / 4)) = true ∧
      (if s.isOn I.FAB then (s.ethRx (4 + port) e fcsOk).1 else fcsOk) = true ∧ f.ipOk = true ∧ f.type = .pd ∧ f.udp = true ∧
      f.port = s.get (F.CP_CTRL_TRDP_PORT (port / 4)) ∧ f.hfcsOk = true ∧ badPd f = false ∧ s.badTopo (port / 4) f = false ∧
      s.comEntry port f = some k) ∧
    (∃ (port : Nat) (e : EthFrame) (fcsOk : Bool) (f : PdFrame) (s : State), port < 8 ∧ s.isOn (I.CPA + port / 4) = true ∧
      s.bit (F.CP_P_STAT_LINK port) = true ∧ s.bit (F.CP_CTRL_TRDP_EN (port / 4)) = true ∧
      (if s.isOn I.FAB then (s.ethRx (4 + port) e fcsOk).1 else fcsOk) = true ∧ f.ipOk = true ∧ f.type = .message ∧
      f.port = s.get (F.CP_CTRL_TRDP_PORT (port / 4)) + 1) ∧
    (∃ (q : Requester) (h : Nat) (s : State), h < 2 ∧ s.carries q (R.CP_CTRL_CDATA h 3) = true ∧
      s.owns q (P.CP_CTRL h) = true ∧
      ((s.rd (R.CP_CTRL_CDATA h 2)).getLsbD 14 = false ∨ (s.rd (R.CP_CTRL_CDATA h 1)).toNat / 2 ^ 28 = 14)) ∧
    (∃ (q : Requester) (h : Nat) (s : State), h < 2 ∧ s.carries q (R.CP_CTRL_CDATA h 3) = true ∧
      s.owns q (P.CP_CTRL h) = true ∧ (s.rd (R.CP_CTRL_CDATA h 2)).getLsbD 14 = true ∧
      (s.rd (R.CP_CTRL_CDATA h 1)).toNat / 2 ^ 28 ≠ 14) ∧
    (∃ (stream : Nat) (s : State), stream < 256 ∧ s.rdByte (cbAddr stream + 14) ≠ 0) ∧
    (∃ (stream : Nat) (s : State), s.rdByte (cbAddr stream + 14) = 0) ∧
    (∃ (q : Requester) (s : State), s.carries q R.FAB_CBDUP_ID_LO = true ∧ s.owns q P.FAB_CBDUP = true) :=
  ⟨⟨7, live, by decide +kernel⟩,
   ⟨0, (live |>.putB ⟨R.SYS_PWR_STAT, (I.CPA + 0 / 4), (I.CPA + 0 / 4)⟩ false), by decide +kernel⟩,
   ⟨7, (EthFrame.mk 1 2 none none 0x800 []), true, (PdFrame.mk true 0 17224 true true 41 .pd 1 false 9 5 0 0 1 [3]), (live
      |>.putB (F.CP_P_STAT_LINK 7) true |>.putB (F.CP_CTRL_TRDP_EN (7 / 4)) true |>.putB ⟨R.SYS_PWR_STAT, I.FAB, I.FAB⟩ false
      |>.put (F.CP_CTRL_TRDP_PORT (7 / 4)) 17224), by decide +kernel⟩,
   ⟨7, (EthFrame.mk 1 2 none none 0x800 []), true, (PdFrame.mk true 0 17224 true true 41 .pd 2 true 9 5 0 0 1 [3]), (live
      |>.putB (F.CP_P_STAT_LINK 7) true |>.putB (F.CP_CTRL_TRDP_EN (7 / 4)) true |>.putB ⟨R.SYS_PWR_STAT, I.FAB, I.FAB⟩ false
      |>.put (F.CP_CTRL_TRDP_PORT (7 / 4)) 17224), by decide +kernel⟩,
   ⟨7, (EthFrame.mk 1 2 none none 0x800 []), true, (PdFrame.mk true 0 17224 true true 41 .pd 1 true 9 5 77 0 1 [3]), (live
      |>.putB (F.CP_P_STAT_LINK 7) true |>.putB (F.CP_CTRL_TRDP_EN (7 / 4)) true |>.putB ⟨R.SYS_PWR_STAT, I.FAB, I.FAB⟩ false
      |>.put (F.CP_CTRL_TRDP_PORT (7 / 4)) 17224), by decide +kernel⟩,
   ⟨7, (EthFrame.mk 1 2 none none 0x800 []), true, (PdFrame.mk true 0 17224 true true 41 .pd 1 true 9 5 0 0 1 [3]), 0,
      ((ram live (comAddr 1 0) [0, 0, 0, 9, 0, 0, 0, 0, 0, 0, 0x80, 0x08]) |>.putB (F.CP_P_STAT_LINK 7) true
      |>.putB (F.CP_CTRL_TRDP_EN (7 / 4)) true |>.putB ⟨R.SYS_PWR_STAT, I.FAB, I.FAB⟩ false
      |>.put (F.CP_CTRL_TRDP_PORT (7 / 4)) 17224), by decide +kernel⟩,
   ⟨7, (EthFrame.mk 1 2 none none 0x800 []), true, (PdFrame.mk true 0 17225 true true 41 .message 1 true 9 5 0 0 1 [3]), (live
      |>.putB (F.CP_P_STAT_LINK 7) true |>.putB (F.CP_CTRL_TRDP_EN (7 / 4)) true |>.putB ⟨R.SYS_PWR_STAT, I.FAB, I.FAB⟩ false
      |>.put (F.CP_CTRL_TRDP_PORT (7 / 4)) 17224), by decide +kernel⟩,
   ⟨Requester.host, 1, ((unlock live Requester.host (P.CP_CTRL 1))), by decide +kernel⟩,
   ⟨Requester.host, 1, ((unlock live Requester.host (P.CP_CTRL 1)) |>.wr (R.CP_CTRL_CDATA 1 2) 0x4000), by decide +kernel⟩,
   ⟨255, ((ram live (cbAddr 255 + 14) [9])), by decide +kernel⟩,
   ⟨0, live, by decide +kernel⟩,
   ⟨Requester.host, ((unlock live Requester.host P.FAB_CBDUP)), by decide +kernel⟩⟩

theorem test_witness_GatewayPasses :
    (∃ (n : Nat) (k : Nat) (s : State), n < 16 ∧ k < 8 ∧ s.isOn I.SGW = true ∧ s.isOn (canIsland n) = true ∧
      s.qEn n k = true ∧ s.qOwner n k = 2 ∧ s.get (fGet n k) ≠ s.get (fPut n k)) ∧
    (∃ (ctx : Nat) (s : State), s.isOn I.SGW = true ∧ s.flowInput ctx = none) ∧
    (∃ (s : State), s.isOn I.SGW = false) ∧
    (∃ (ctx : Nat) (i : Nat) (s : State), s.isOn I.SGW = true ∧ s.flowInput ctx = some i) ∧
    (∃ (n : Nat) (s : State),
      (s.isOn I.SGW = false ∨ (s.validInputs s.actBank).contains n = false ∨ s.eKind (inpAddr s.actBank n) ≠ 1 ∨ timeoutNs (s.ePer (inpAddr s.actBank n)) = 0 ∨ (s.sgwIn n).never = true ∨ s.mono - (s.sgwIn n).last ≤ timeoutNs (s.ePer (inpAddr s.actBank n)))) ∧
    (∃ (n : Nat) (s : State), s.isOn I.SGW = true ∧ (s.validInputs s.actBank).contains n = true ∧
      s.eKind (inpAddr s.actBank n) = 1 ∧ timeoutNs (s.ePer (inpAddr s.actBank n)) ≠ 0 ∧ (s.sgwIn n).never = false ∧
      timeoutNs (s.ePer (inpAddr s.actBank n)) < s.mono - (s.sgwIn n).last ∧ (s.sgwIn n).expired = false) ∧
    (∃ (s : State), s.passDue = true ∧ s.asleep = false ∧ s.wake.kaHold = false ∧ s.bit F.SGW_CTRL_STAT_RUNNING = false) ∧
    (∃ (s : State), s.passDue = true ∧ s.asleep = false ∧ s.wake.kaHold = false ∧ s.bit F.SGW_CTRL_STAT_RUNNING = true) ∧
    (∃ (s : State), s.isOn I.SGW = true ∧ s.bit F.SGW_CTRL_STAT_RUNNING = true) ∧
    (∃ (s : State), (s.passDue = false ∨ s.asleep = true ∨ s.wake.kaHold = true)) ∧
    (∃ (s : State), (s.isOn I.SGW = false ∨ s.bit F.SGW_CTRL_STAT_RUNNING = false)) ∧
    (∃ (s : State),
      (s.isOn I.SGW = false ∨ s.bit F.SGW_CTRL_STAT_STALL = true ∨ s.sgw.passless < max 1 (s.get F.SGW_CTRL_CFG_STALL_N))) ∧
    (∃ (s : State), s.isOn I.SGW = true ∧ s.bit F.SGW_CTRL_STAT_STALL = false ∧
      max 1 (s.get F.SGW_CTRL_CFG_STALL_N) ≤ s.sgw.passless) :=
  ⟨⟨15, 7, (live |>.putB (F.CB_CAN_QCFG_EN 15 7) true |>.putB (F.CB_CAN_QCFG_EN 15 7) true |>.put (F.CB_CAN_QCFG_OWNER 15 7) 2
      |>.put (fPut 15 7) 1), by decide +kernel⟩,
   ⟨0, live, by decide +kernel⟩,
   ⟨(live |>.putB ⟨R.SYS_PWR_STAT, I.SGW, I.SGW⟩ false), by decide +kernel⟩,
   ⟨5, 1023, ((ram live (inpAddr 0 1023) [0x80, 0, 0, 5])), by decide +kernel⟩,
   ⟨0, (live |>.putB ⟨R.SYS_PWR_STAT, I.SGW, I.SGW⟩ false), by decide +kernel⟩,
   ⟨1023,
      ({ ((let s := ((ram live (inpAddr 0 1023) [0xC0, 0, 0, 0, 0, 0, 0, 0, 0, 8, 0, 100])); { s with sgw := { s.sgw with inputs := [(1023, { SgwInput.reset with never := false })] } })) with mono5 := 5000000000000 }),
      by decide +kernel⟩,
   ⟨((let s := live; { s with wake := { s.wake with kaHold := false } }) |>.putB F.SGW_CTRL_STAT_RUNNING false),
      by decide +kernel⟩,
   ⟨((let s := live; { s with wake := { s.wake with kaHold := false } }) |>.putB F.SGW_CTRL_STAT_RUNNING true),
      by decide +kernel⟩,
   ⟨(live |>.putB F.SGW_CTRL_STAT_RUNNING true), by decide +kernel⟩,
   ⟨((live.putB ⟨R.SYS_PWR_STAT, I.SGW, I.SGW⟩ false)), by decide +kernel⟩,
   ⟨(live |>.putB ⟨R.SYS_PWR_STAT, I.SGW, I.SGW⟩ false), by decide +kernel⟩,
   ⟨(live |>.putB ⟨R.SYS_PWR_STAT, I.SGW, I.SGW⟩ false), by decide +kernel⟩,
   ⟨((let s := (live |>.putB F.SGW_CTRL_STAT_STALL false
      |>.put F.SGW_CTRL_CFG_STALL_N 3); { s with sgw := { s.sgw with passless := 3 } })), by decide +kernel⟩⟩

theorem test_witness_GatewayBanks :
    (∃ (q : Requester) (s : State), s.carries q R.SGW_IMG_HI = true) ∧
    (∃ (q : Requester) (s : State), s.carries q (R.SGW_MAP_DATA 3) = true ∧ s.get F.SGW_MAP_SEL_BANK ≠ s.actBank ∧
      s.bit F.SGW_CTRL_STAT_FLIP_PEND = false) ∧
    (∃ (q : Requester) (s : State), s.carries q (R.SGW_MAP_DATA 3) = true ∧ s.get F.SGW_MAP_SEL_BANK = s.actBank) ∧
    (∃ (q : Requester) (s : State), s.carries q (R.SGW_MAP_DATA 3) = true ∧ s.get F.SGW_MAP_SEL_BANK ≠ s.actBank ∧
      s.bit F.SGW_CTRL_STAT_FLIP_PEND = true) ∧
    (∃ (q : Requester) (s : State), s.carries q (R.SGW_RCP_DATA 3) = true ∧ s.get F.SGW_RCP_SEL_BANK = s.actBank) ∧
    (∃ (q : Requester) (s : State), s.carries q (R.SGW_RCP_DATA 3) = true ∧ s.get F.SGW_RCP_SEL_BANK ≠ s.actBank ∧
      s.bit F.SGW_CTRL_STAT_FLIP_PEND = true) ∧
    (∃ (q : Requester) (v : Word) (s : State), s.carries q R.SGW_MAP_CMD = true ∧ v.getLsbD 0 = true) ∧
    (∃ (q : Requester) (s : State), s.carries q (R.SGW_RCP_DATA 3) = true ∧ s.get F.SGW_RCP_SEL_BANK ≠ s.actBank ∧
      s.bit F.SGW_CTRL_STAT_FLIP_PEND = false) ∧
    (∃ (q : Requester) (v : Word) (s : State), s.carries q R.SGW_RCP_CMD = true ∧ v.getLsbD 0 = true) ∧
    (∃ (q : Requester) (v : Word) (s : State), s.carries q R.SGW_CTRL_FLIP = true ∧ s.owns q P.SGW_CTRL = true ∧
      v.getLsbD 0 = true ∧ v.getLsbD 2 = false ∧ s.bit F.SGW_CTRL_STAT_FLIP_PEND = false ∧
      s.get F.SGW_CTRL_FLIPSTAT_RESULT ≠ 15) ∧
    (∃ (q : Requester) (v : Word) (s : State), s.carries q R.SGW_CTRL_FLIP = true ∧ s.owns q P.SGW_CTRL = true ∧
      v.getLsbD 0 = false ∧ v.getLsbD 2 = true) ∧
    (∃ (q : Requester) (v : Word) (s : State), s.carries q R.SGW_CTRL_FLIP = true ∧ s.owns q P.SGW_CTRL = true ∧
      v.getLsbD 0 = true ∧ v.getLsbD 2 = false ∧
      (s.bit F.SGW_CTRL_STAT_FLIP_PEND = true ∨ s.get F.SGW_CTRL_FLIPSTAT_RESULT = 15)) ∧
    (∃ (s : State), (s.isOn I.SGW = false ∨ s.get F.SGW_CTRL_FLIPSTAT_RESULT ≠ 15)) ∧
    (∃ (s : State), s.isOn I.SGW = true ∧ s.get F.SGW_CTRL_FLIPSTAT_RESULT = 15) :=
  ⟨⟨Requester.host, live, by decide +kernel⟩,
   ⟨Requester.host, (live |>.putB F.SGW_CTRL_STAT_FLIP_PEND false |>.put F.SGW_MAP_SEL_BANK 1), by decide +kernel⟩,
   ⟨Requester.host, live, by decide +kernel⟩,
   ⟨Requester.host, (live |>.putB F.SGW_CTRL_STAT_FLIP_PEND true |>.put F.SGW_MAP_SEL_BANK 1), by decide +kernel⟩,
   ⟨Requester.host, live, by decide +kernel⟩,
   ⟨Requester.host, (live |>.putB F.SGW_CTRL_STAT_FLIP_PEND true |>.put F.SGW_RCP_SEL_BANK 1), by decide +kernel⟩,
   ⟨Requester.host, 0x1, live, by decide +kernel⟩,
   ⟨Requester.host, (live |>.putB F.SGW_CTRL_STAT_FLIP_PEND false |>.put F.SGW_RCP_SEL_BANK 1), by decide +kernel⟩,
   ⟨Requester.host, 0x1, live, by decide +kernel⟩,
   ⟨Requester.host, 0x1, ((unlock live Requester.host P.SGW_CTRL) |>.putB F.SGW_CTRL_STAT_FLIP_PEND false
      |>.put F.SGW_CTRL_FLIPSTAT_RESULT 0), by decide +kernel⟩,
   ⟨Requester.host, 0x4, ((unlock live Requester.host P.SGW_CTRL)), by decide +kernel⟩,
   ⟨Requester.host, 0x1, ((unlock live Requester.host P.SGW_CTRL) |>.putB F.SGW_CTRL_STAT_FLIP_PEND true), by decide +kernel⟩,
   ⟨(live |>.putB ⟨R.SYS_PWR_STAT, I.SGW, I.SGW⟩ false), by decide +kernel⟩,
   ⟨(live |>.put F.SGW_CTRL_FLIPSTAT_RESULT 15), by decide +kernel⟩⟩

theorem test_witness_StoredBytes :
    (∃ (q : Requester) (s : State), s.carries q R.SGW_IMG_HI = true) ∧
    (∃ (q : Requester) (s : State), s.carries q (R.SGW_MAP_DATA 3) = true) ∧
    (∃ (q : Requester) (s : State), s.carries q (R.SGW_RCP_DATA 3) = true) ∧
    (∃ (q : Requester) (h : Nat) (s : State), h < 2 ∧ s.carries q (R.CB_CTRL_MDATA_HI h) = true) ∧
    (∃ (q : Requester) (h : Nat) (s : State), h < 2 ∧ s.carries q (R.CP_CTRL_CDATA h 3) = true) ∧
    (∃ (q : Requester) (s : State), s.carries q R.FAB_CBDUP_ID_LO = true) ∧
    (∃ (q : Requester) (s : State), s.carries q R.FAB_GATE_CTRL = true) ∧
    (∃ (q : Requester) (v : Word) (s : State), s.carries q R.FAB_FLOW_CMD = true ∧ v.getLsbD 1 = false) ∧
    (∃ (q : Requester) (s : State), s.carries q R.TOP_TBL_CMD = true ∧ s.isOn I.FAB = false) ∧
    (∃ (e : RecEntry) (es : List RecEntry) (s : State), s.isOn I.REC = true ∧ s.recorder.fifo = e :: es ∧ s.merges e = false) :=
  ⟨⟨Requester.host, live, by decide +kernel⟩,
   ⟨Requester.host, live, by decide +kernel⟩,
   ⟨Requester.host, live, by decide +kernel⟩,
   ⟨Requester.host, 1, live, by decide +kernel⟩,
   ⟨Requester.host, 1, live, by decide +kernel⟩,
   ⟨Requester.host, live, by decide +kernel⟩,
   ⟨Requester.host, live, by decide +kernel⟩,
   ⟨Requester.host, 0x0, live, by decide +kernel⟩,
   ⟨Requester.host, (live |>.putB ⟨R.SYS_PWR_STAT, I.FAB, I.FAB⟩ false), by decide +kernel⟩,
   ⟨(⟨⟨0x0601, 4, 0, [], 0⟩, 5, 0, 2, 7, 1, false⟩), ([]),
      ((let s := live; { s with recorder := { s.recorder with fifo := (⟨⟨0x0601, 4, 0, [], 0⟩, 5, 0, 2, 7, 1, false⟩) :: ([]) } })),
      by decide +kernel⟩⟩

theorem test_witness_CanModes :
    (∃ (n : Nat) (s : State), n < 16 ∧ s.isOn (canIsland n) = true ∧ s.onIro = false ∧ (s.canSt n).started = false ∧
      (s.canSt n).tx = none ∧ s.canWant n ≠ 5 ∧ (s.canWant n = 4 → s.emode n ≠ 4) ∧
      canTimingBad (s.rd (R.CB_CAN_NBT n)) (s.rd (R.CB_CAN_DBT n)) (s.bit (F.CB_CAN_MODE_FD_EN n)) = false) ∧
    (∃ (n : Nat) (s : State), n < 16 ∧ s.isOn (canIsland n) = true ∧ s.onIro = false ∧ (s.canSt n).started = false ∧
      (s.canSt n).tx = none ∧ s.canWant n ≠ 5 ∧ (s.canWant n = 4 → s.emode n ≠ 4) ∧
      canTimingBad (s.rd (R.CB_CAN_NBT n)) (s.rd (R.CB_CAN_DBT n)) (s.bit (F.CB_CAN_MODE_FD_EN n)) = true) ∧
    (∃ (n : Nat) (s : State), n < 16 ∧
      (s.isOn (canIsland n) = false ∨ s.onIro = true ∨ (s.canSt n).started = true ∨ s.canWant n = 5)) ∧
    (∃ (q : Requester) (n : Nat) (s : State), n < 16 ∧ s.carries q (R.CB_CAN_MODE n) = true ∧ s.owns q (P.CB_CAN n) = true) ∧
    (∃ (n : Nat) (s : State), n < 16 ∧ s.isOn (canIsland n) = true ∧ (s.canSt n).tx = none ∧ s.canWant n ≠ s.emode n ∧
      (s.canWant n = 5 ∨ (s.canSt n).started = true)) ∧
    (∃ (n : Nat) (s : State), n < 16 ∧
      (s.isOn (canIsland n) = false ∨ (s.canSt n).tx.isSome = true ∨ s.canWant n = s.emode n ∨ s.canWant n ≠ 5 ∧
      (s.canSt n).started = false)) ∧
    (∃ (n : Nat) (s : State), n < 16 ∧ s.isOn (canIsland n) = true ∧ s.bit (F.CB_CAN_ERRCFG_BOFF_AUTO n) = true ∧
      s.get (F.CB_CAN_STAT_STATE n) = 2 ∧ s.emode n ≤ 3) ∧
    (∃ (n : Nat) (s : State), n < 16 ∧
      (s.isOn (canIsland n) = false ∨ s.bit (F.CB_CAN_ERRCFG_BOFF_AUTO n) = false ∨ s.get (F.CB_CAN_STAT_STATE n) ≠ 2 ∨ 3 < s.emode n)) ∧
    (∃ (q : Requester) (n : Nat) (v : Word) (s : State), n < 16 ∧ s.carries q (R.CB_CAN_CMD n) = true ∧ v.getLsbD 16 = true ∧
      (∀ k, 8 ≤ k → k < 16 → v.getLsbD k = false) ∧ s.get (F.CB_CAN_STAT_STATE n) = 2 ∧ s.emode n ≤ 3) ∧
    (∃ (q : Requester) (n : Nat) (v : Word) (s : State), n < 16 ∧ s.carries q (R.CB_CAN_CMD n) = true ∧ (∀ k,
      8 ≤ k → k < 16 → v.getLsbD k = false) ∧ (v.getLsbD 16 = false ∨ s.get (F.CB_CAN_STAT_STATE n) ≠ 2 ∨ 3 < s.emode n)) ∧
    (∃ (n : Nat) (s : State), n < 16 ∧ s.get (F.CB_CAN_STAT_STATE n) = 2 ∧ s.get (F.CB_CAN_STAT_ACT n) = 3) ∧
    (∃ (n : Nat) (s : State), n < 16 ∧ (s.get (F.CB_CAN_STAT_STATE n) ≠ 2 ∨ s.get (F.CB_CAN_STAT_ACT n) ≠ 3)) :=
  ⟨⟨15, (live |>.putB ⟨R.SYS_CLK_STAT, 1, 1⟩ true |>.setCan 15 { CanState.reset with started := false }
      |>.putB (F.PG_CTRL_EN (P.CB_CAN 15)) true |>.put (F.CB_CAN_MODE_MODE 15) 0), by decide +kernel⟩,
   ⟨15, (live |>.putB ⟨R.SYS_CLK_STAT, 1, 1⟩ true |>.setCan 15 { CanState.reset with started := false }
      |>.putB (F.PG_CTRL_EN (P.CB_CAN 15)) true |>.put (F.CB_CAN_MODE_MODE 15) 0 |>.wr (R.CB_CAN_NBT 15) 0),
      by decide +kernel⟩,
   ⟨15, (live |>.putB ⟨R.SYS_PWR_STAT, (canIsland 15), (canIsland 15)⟩ false), by decide +kernel⟩,
   ⟨Requester.host, 15, ((unlock live Requester.host (P.CB_CAN 15))), by decide +kernel⟩,
   ⟨15, (live |>.put (F.CB_CAN_MODE_EMODE 15) 0 |>.putB (F.PG_CTRL_EN (P.CB_CAN 15)) true |>.put (F.CB_CAN_MODE_MODE 15) 0),
      by decide +kernel⟩,
   ⟨15, (live |>.putB ⟨R.SYS_PWR_STAT, (canIsland 15), (canIsland 15)⟩ false), by decide +kernel⟩,
   ⟨15, (live |>.putB (F.CB_CAN_ERRCFG_BOFF_AUTO 15) true |>.put (F.CB_CAN_STAT_STATE 15) 2 |>.put (F.CB_CAN_MODE_EMODE 15) 0),
      by decide +kernel⟩,
   ⟨15, (live |>.putB ⟨R.SYS_PWR_STAT, (canIsland 15), (canIsland 15)⟩ false), by decide +kernel⟩,
   ⟨Requester.host, 15, 0x10000, (live |>.put (F.CB_CAN_STAT_STATE 15) 2 |>.put (F.CB_CAN_MODE_EMODE 15) 0), by decide +kernel,
      by decide +kernel, by decide +kernel,
      by
        intro k h1 h2
        have : k < 16 := h2
        exact (by decide +kernel : ∀ k < 16,
      8 ≤ k → (0x10000 : Word).getLsbD k = false) k h2 h1, by decide +kernel, by decide +kernel⟩,
   ⟨Requester.host, 15, 0, live, by decide +kernel, by decide +kernel,
      by
        intro k h1 h2
        have : k < 16 := h2
        exact (by decide +kernel : ∀ k < 16,
      8 ≤ k → (0 : Word).getLsbD k = false) k h2 h1, by decide +kernel⟩,
   ⟨15, (live |>.put (F.CB_CAN_STAT_STATE 15) 2 |>.put (F.CB_CAN_STAT_ACT 15) 3 |>.put (F.CB_CAN_STAT_STATE 15) 2
      |>.put (F.CB_CAN_STAT_ACT 15) 3 |>.put (F.CB_CAN_MODE_EMODE 15) 0), by decide +kernel⟩,
   ⟨15, (live |>.put (F.CB_CAN_STAT_STATE 15) 0), by decide +kernel⟩⟩

theorem test_witness_CanFrames :
    (∃ (n : Nat) (f : CanFrame) (s : State), n < 16 ∧ s.isOn (canIsland n) = true ∧ s.emode n ≤ 2 ∧
      s.get (F.CB_CAN_STAT_STATE n) ≠ 2 ∧ (s.canSt n).tx = none ∧ (f.fdf = false ∨ (s.canSt n).fdOn = true)) ∧
    (∃ (n : Nat) (f : CanFrame) (s : State), n < 16 ∧
      (s.isOn (canIsland n) = false ∨ 2 < s.emode n ∨ s.get (F.CB_CAN_STAT_STATE n) = 2 ∨ (s.canSt n).tx.isSome = true ∨ f.fdf = true ∧
      (s.canSt n).fdOn = false)) ∧
    (∃ (n : Nat) (k : Nat) (b : Bool) (rest : List (Nat × Bool)) (s : State), n < 16 ∧ s.isOn (canIsland n) = true ∧
      s.emode n = 0 ∧ s.get (F.CB_CAN_STAT_STATE n) ≠ 2 ∧ (s.canSt n).tx = none ∧ s.tmSends n = true ∧ (s.canSt n).refs = (k,
      b) :: rest) ∧
    (∃ (n : Nat) (k : Nat) (f : CanFrame) (s : State), n < 16 ∧ s.isOn (canIsland n) = true ∧ canSends (s.emode n) = true ∧
      s.get (F.CB_CAN_STAT_STATE n) < 2 ∧ (s.canSt n).tx = none ∧ (s.tmSends n = false ∨ (s.canSt n).refs = []) ∧
      (∀ j ∈ s.txQueues n, ∀ g, s.canHead n j = some g → badFrame g (s.canSt n).fdOn (s.qDsz n j) = false) ∧
      s.canChoice n = some (k, f)) ∧
    (∃ (n : Nat) (loop : Option Nat) (x : CanTx) (s : State), n < 16 ∧ (s.canSt n).tx = some x ∧
      (s.canLoop n x loop).getD 0 ≤ 255) ∧
    (∃ (n : Nat) (loop : Option Nat) (x : CanTx) (s : State), n < 16 ∧ (s.canSt n).tx = some x ∧
      (s.canLoop n x loop).getD 0 ≤ 255 ∧ s.emode n = 0) ∧
    (∃ (n : Nat) (x : CanTx) (s : State), n < 16 ∧ (s.canSt n).tx = some x) ∧
    (∃ (n : Nat) (s : State), n < 16 ∧ (s.canSt n).tx = none) ∧
    (∃ (n : Nat) (kind : Nat) (s : State), n < 16 ∧ s.isOn (canIsland n) = true ∧ s.emode n = 0 ∧
      s.get (F.CB_CAN_STAT_STATE n) < 2 ∧ (s.canSt n).tx = none ∧ kind ≠ 0) ∧
    (∃ (n : Nat) (s : State), n < 16 ∧ s.isOn (canIsland n) = true ∧ s.emode n = 0 ∧ s.get (F.CB_CAN_STAT_STATE n) < 2 ∧
      (s.canSt n).tx = none) ∧
    (∃ (n : Nat) (s : State), n < 16 ∧ s.isOn (canIsland n) = true ∧ s.emode n ≤ 2 ∧ s.get (F.CB_CAN_STAT_STATE n) < 2 ∧
      (s.canSt n).tx = none ∧ (s.canSt n).pxForm = false) ∧
    (∃ (n : Nat) (s : State), n < 16 ∧
      (s.isOn (canIsland n) = false ∨ 2 < s.emode n ∨ 2 ≤ s.get (F.CB_CAN_STAT_STATE n) ∨ (s.canSt n).tx.isSome = true)) ∧
    (∃ (n : Nat) (s : State), n < 16 ∧ s.isOn (canIsland n) = true ∧ s.bit (F.CB_CTRL_TM_CFG_EN n) = true) ∧
    (∃ (n : Nat) (s : State), n < 16 ∧ (s.isOn (canIsland n) = false ∨ s.bit (F.CB_CTRL_TM_CFG_EN n) = false)) :=
  ⟨⟨15, canF, (live |>.put (F.CB_CAN_STAT_STATE 15) 0 |>.put (F.CB_CAN_MODE_EMODE 15) 2), by decide +kernel⟩,
   ⟨15, canF, (live |>.putB ⟨R.SYS_PWR_STAT, (canIsland 15), (canIsland 15)⟩ false), by decide +kernel⟩,
   ⟨15, 2, true, ([]), (live |>.put (F.CB_CAN_STAT_STATE 15) 0 |>.put (F.CB_CAN_MODE_EMODE 15) 0
      |>.putB (F.CB_CTRL_TM_CFG_EN 15) true |>.setCan 15 { CanState.reset with refs := [(2, true)] }), by decide +kernel⟩,
   ⟨15, 15, (⟨false, false, false, false, false, 0, 0, []⟩), (live |>.put (F.CB_CAN_MODE_EMODE 15) 0
      |>.put (F.CB_CAN_MODE_EMODE 15) 0 |>.putB (F.CB_CAN_QCFG_EN 15 15) true |>.put (F.CB_CAN_QCFG_NSLOTM1 15 15) 3
      |>.put (fPut 15 15) 1), by decide +kernel⟩,
   ⟨15, none, (⟨3, canF, 0, 1000⟩), (live |>.setCan 15 { CanState.reset with tx := some (⟨3, canF, 0, 1000⟩) }),
      by decide +kernel⟩,
   ⟨15, none, (⟨3, canF, 0, 1000⟩), (live |>.put (F.CB_CAN_MODE_EMODE 15) 0
      |>.setCan 15 { CanState.reset with tx := some (⟨3, canF, 0, 1000⟩) }), by decide +kernel⟩,
   ⟨15, (⟨3, canF, 0, 1000⟩), (live |>.setCan 15 { CanState.reset with tx := some (⟨3, canF, 0, 1000⟩) }), by decide +kernel⟩,
   ⟨15, live, by decide +kernel⟩,
   ⟨15, 1, (live |>.put (F.CB_CAN_MODE_EMODE 15) 0), by decide +kernel⟩,
   ⟨15, (live |>.put (F.CB_CAN_MODE_EMODE 15) 0), by decide +kernel⟩,
   ⟨15, live, by decide +kernel⟩,
   ⟨15, (live |>.putB ⟨R.SYS_PWR_STAT, (canIsland 15), (canIsland 15)⟩ false), by decide +kernel⟩,
   ⟨15, (live |>.putB (F.CB_CTRL_TM_CFG_EN 15) true |>.put (F.CB_CAN_MODE_EMODE 15) 0 |>.putB (F.CB_CTRL_TM_CFG_EN 15) true),
      by decide +kernel⟩,
   ⟨15, (live |>.putB ⟨R.SYS_PWR_STAT, (canIsland 15), (canIsland 15)⟩ false), by decide +kernel⟩⟩

theorem test_witness_CanQueues :
    (∃ (q : Requester) (n : Nat) (k : Nat) (v : Word) (s : State), n < 16 ∧ k < 16 ∧ s.carries q (R.CB_CAN_QCFG n k) = true ∧
      s.owns q (P.CB_CAN n) = true ∧ s.qEn n k = false ∧ v.getLsbD 31 = true ∧ s.qEnableBad n k v = false) ∧
    (∃ (q : Requester) (n : Nat) (k : Nat) (v : Word) (s : State), n < 16 ∧ k < 16 ∧ s.carries q (R.CB_CAN_QCFG n k) = true ∧
      s.owns q (P.CB_CAN n) = true ∧ s.qEn n k = false ∧ v.getLsbD 31 = true ∧ s.qEnableBad n k v = true) ∧
    (∃ (q : Requester) (n : Nat) (k : Nat) (v : Word) (s : State), n < 16 ∧ k < 16 ∧ s.carries q (R.CB_CAN_QCFG n k) = true ∧
      s.owns q (P.CB_CAN n) = true ∧ s.qEn n k = false ∧ v.getLsbD 31 = false) ∧
    (∃ (q : Requester) (n : Nat) (k : Nat) (v : Word) (s : State), n < 16 ∧ k < 16 ∧ s.carries q (R.CB_CAN_QCFG n k) = true ∧
      s.owns q (P.CB_CAN n) = true ∧ s.qEn n k = true ∧ s.rd (R.CB_CAN_QCFG n k) &&& 0x3C3FFFFF ≠ v &&& 0x3C3FFFFF) ∧
    (∃ (q : Requester) (n : Nat) (k : Nat) (v : Word) (s : State), n < 16 ∧ k < 16 ∧ s.carries q (R.CB_CAN_QCFG n k) = true ∧
      s.owns q (P.CB_CAN n) = true ∧ s.qEn n k = true ∧ s.rd (R.CB_CAN_QCFG n k) &&& 0x3C3FFFFF = v &&& 0x3C3FFFFF) ∧
    (∃ (q : Requester) (n : Nat) (k : Nat) (v : Word) (s : State), n < 16 ∧ k < 8 ∧ s.carries q (R.CB_CAN_QPTR n k) = true ∧
      ownerTakes (s.qOwner n k) q = true ∧ s.qEn n k = true ∧ v.toNat / 2 ^ 20 % 1024 < s.qSlots n k ∧
      ringDist (s.qSlots n k) (s.get (fGet n k)) (v.toNat / 2 ^ 20 % 1024) ≤ ringDist (s.qSlots n k) (s.get (fGet n k)) (s.get (fPut n k))) ∧
    (∃ (q : Requester) (n : Nat) (k : Nat) (v : Word) (s : State), n < 16 ∧ 8 ≤ k ∧ k < 16 ∧
      s.carries q (R.CB_CAN_QPTR n k) = true ∧ ownerTakes (s.qOwner n k) q = true ∧ s.qEn n k = true ∧
      canSends (s.emode n) = true ∧ v.toNat / 2 ^ 20 % 1024 < s.qSlots n k ∧ v.toNat / 2 ^ 10 % 1024 < s.qSlots n k ∧
      ringDist (s.qSlots n k) (s.get (fGet n k)) (v.toNat / 2 ^ 20 % 1024) ≤ ringDist (s.qSlots n k) (s.get (fGet n k)) (s.get (fDone n k)) ∧
      ringDist (s.qSlots n k) (s.get (fPut n k)) (v.toNat / 2 ^ 10 % 1024) ≤ s.qSlots n k - 1 - ringDist (s.qSlots n k) (v.toNat / 2 ^ 20 % 1024) (s.get (fPut n k))) ∧
    (∃ (q : Requester) (n : Nat) (k : Nat) (v : Word) (s : State), n < 16 ∧ k < 16 ∧ s.carries q (R.CB_CAN_QPTR n k) = true ∧
      (ownerTakes (s.qOwner n k) q = false ∨ s.qEn n k = false ∨ s.qSlots n k ≤ v.toNat / 2 ^ 20 % 1024)) ∧
    (∃ (q : Requester) (n : Nat) (k : Nat) (v : Word) (s : State), n < 16 ∧ 8 ≤ k ∧ k < 16 ∧ v.toNat = 2 ^ k ∧
      s.carries q (R.CB_CAN_CMD n) = true ∧ s.qEn n k = true ∧ s.qOwner n k ≠ 2 ∧ (s.canSt n).tx.map (·.queue) ≠ some k) ∧
    (∃ (q : Requester) (n : Nat) (k : Nat) (v : Word) (s : State), n < 16 ∧ 8 ≤ k ∧ k < 16 ∧ v.toNat = 2 ^ k ∧
      s.carries q (R.CB_CAN_CMD n) = true ∧ s.qEn n k = true ∧ s.qOwner n k ≠ 2 ∧ (s.canSt n).tx.map (·.queue) = some k) ∧
    (∃ (q : Requester) (h : Nat) (s : State), h < 2 ∧ s.carries q (R.CB_CTRL_MDATA_HI h) = true) ∧
    (∃ (q : Requester) (h : Nat) (s : State), h < 2 ∧ s.carries q (R.CB_CTRL_MDATA_LO h) = true) :=
  ⟨⟨Requester.host, 15, 15, 0x80000000, ((unlock live Requester.host (P.CB_CAN 15))), by decide +kernel⟩,
   ⟨Requester.host, 15, 15, 0xB0000000, ((unlock live Requester.host (P.CB_CAN 15))), by decide +kernel⟩,
   ⟨Requester.host, 15, 15, 0x0, ((unlock live Requester.host (P.CB_CAN 15))), by decide +kernel⟩,
   ⟨Requester.host, 15, 15, 0x80001000, ((unlock live Requester.host (P.CB_CAN 15)) |>.putB (F.CB_CAN_QCFG_EN 15 15) true),
      by decide +kernel⟩,
   ⟨Requester.host, 15, 15, 0xC0000000, ((unlock live Requester.host (P.CB_CAN 15)) |>.putB (F.CB_CAN_QCFG_EN 15 15) true),
      by decide +kernel⟩,
   ⟨Requester.host, 15, 7, 0, (live |>.putB (F.CB_CAN_QCFG_EN 15 7) true |>.putB (F.CB_CAN_QCFG_EN 15 7) true
      |>.put (fPut 15 7) 1), by decide +kernel⟩,
   ⟨Requester.host, 15, 15, 0, (live |>.putB (F.CB_CAN_QCFG_EN 15 15) true |>.put (F.CB_CAN_MODE_EMODE 15) 0
      |>.put (F.CB_CAN_MODE_EMODE 15) 0 |>.put (F.CB_CAN_QCFG_NSLOTM1 15 15) 3), by decide +kernel⟩,
   ⟨Requester.host, 15, 15, 0, live, by decide +kernel⟩,
   ⟨Requester.host, 15, 8, 0x100, (live |>.putB (F.CB_CAN_QCFG_EN 15 8) true), by decide +kernel⟩,
   ⟨Requester.host, 15, 8, 0x100, (live |>.putB (F.CB_CAN_QCFG_EN 15 8) true
      |>.setCan 15 { CanState.reset with tx := some (CanTx.mk 8 canF 0 0) }), by decide +kernel⟩,
   ⟨Requester.host, 1, live, by decide +kernel⟩,
   ⟨Requester.host, 1, live, by decide +kernel⟩⟩

theorem test_witness_TrainTime :
    (∃ (f : NFrame) (s : State), (s.timOn = false ∨ f.cls ≠ 5 ∨ nfMalformed f = true ∨ s.acceptTable f = none)) ∧
    (∃ (f : NFrame) (s : State) (tab : Nat), s.timOn = true ∧ f.cls = 5 ∧ nfMalformed f = false ∧ s.acceptTable f = some tab ∧
      s.addressed tab f = true ∧ (f.flow ≠ 1 ∨ f.payload.length < 40)) ∧
    (∃ (f : NFrame) (s : State) (tab : Nat), s.timOn = true ∧ f.cls = 5 ∧ nfMalformed f = false ∧ s.acceptTable f = some tab ∧
      s.addressed tab f = true ∧ f.flow = 1 ∧ 40 ≤ f.payload.length ∧ f.src ≠ 0 ∧ s.identVeh tab f.src = 1 ∧ s.timState = 5 ∧
      f.src ≠ s.node) ∧
    (∃ (p : BPort) (f : NFrame) (s : State) (tab : Nat) (e : Int) (cap : Option (Line × MarkerRec)), s.timOn = true ∧
      f.cls = 5 ∧ nfMalformed f = false ∧ s.acceptTable f = some tab ∧ s.addressed tab f = true ∧ f.flow = 1 ∧
      40 ≤ f.payload.length ∧ f.src ≠ 0 ∧ f.src < 512 ∧ s.identVeh tab f.src = 1 ∧ s.timState = 0 ∧
      s.enabled P.TIM_BASE = true ∧ s.tim.lastSrc = none ∧ s.timeOffset p f = some (e, cap)) ∧
    (∃ (p : BPort) (f : NFrame) (s : State) (tab : Nat) (e : Int) (cap : Option (Line × MarkerRec)), s.timOn = true ∧
      f.cls = 5 ∧ nfMalformed f = false ∧ s.acceptTable f = some tab ∧ s.addressed tab f = true ∧ f.flow = 1 ∧
      40 ≤ f.payload.length ∧ f.src ≠ 0 ∧ f.src < 512 ∧ s.identVeh tab f.src = 1 ∧ s.timState ≠ 0 ∧ s.timState ≠ 5 ∧
      s.enabled P.TIM_BASE = true ∧ s.tim.lastSrc = none ∧ s.timeOffset p f = some (e, cap)) ∧
    (∃ (s : State), s.timOn = true ∧ (s.timState = 2 ∨ s.timState = 3) ∧ s.tfMiss * s.tfDiv ≤ s.tim.idle) ∧
    (∃ (s : State), (s.timOn = false ∨ s.timState ≠ 2 ∧ s.timState ≠ 3 ∨ s.tim.idle < s.tfMiss * s.tfDiv)) ∧
    (∃ (s : State), s.timOn = true ∧ s.tfMiss * s.tfDiv ≤ s.tim.single) ∧
    (∃ (s : State), (s.timOn = false ∨ s.tim.single < s.tfMiss * s.tfDiv)) ∧
    (∃ (q : Requester) (v : Word) (s : State), s.carries q R.TIM_BASE_CMD = true ∧ s.owns q P.TIM_BASE = true ∧
      v.getLsbD 0 = true ∧ s.timState = 0) ∧
    (∃ (q : Requester) (v : Word) (s : State), s.carries q R.TIM_BASE_CMD = true ∧ s.owns q P.TIM_BASE = true ∧
      (v.getLsbD 0 = false ∨ s.timState ≠ 0)) ∧
    (∃ (q : Requester) (s : State), s.carries q R.TIM_TS_SEL = true) ∧
    (∃ (q : Requester) (s : State), s.carries q R.TIM_BASE_WOFS_HI = true ∧ s.owns q P.TIM_BASE = true ∧
      3 ≤ s.get (F.PG_LOCK_REMAIN P.TIM_BASE) ∧ s.timState = 5 ∧ s.bit F.TIM_BASE_WCTL_WPEND = false) ∧
    (∃ (q : Requester) (s : State), s.carries q R.TIM_BASE_WOFS_HI = true ∧ s.owns q P.TIM_BASE = true ∧
      3 ≤ s.get (F.PG_LOCK_REMAIN P.TIM_BASE) ∧ (s.timState ≠ 5 ∨ s.bit F.TIM_BASE_WCTL_WPEND = true)) :=
  ⟨⟨(frm false 1 7 2 3 0 1 []), live, by decide +kernel⟩,
   ⟨(frm false 5 7 3 3 0 1 (List.replicate 39 0)), ((numbered live 2 3)), 0, by decide +kernel⟩,
   ⟨(frm false 5 7 3 3 0 1 (List.replicate 40 0)), ((ram (numbered live 2 3) (identAddr 0 3 + 16) [0, 3, 1])
      |>.put F.TIM_BASE_STAT_STATE 5), 0, by decide +kernel⟩,
   ⟨BPort.la1, (frm false 5 7 3 3 0 1 (List.replicate 40 0)),
      ((let s := ((let s := (ram (numbered live 2 3) (identAddr 0 3 + 16) [0, 3,
      1]); { s with tim := { s.tim with lastSrc := none } }) |>.put F.TIM_BASE_STAT_STATE 0
      |>.putB (F.PG_CTRL_EN P.TIM_BASE) true); { s with tim := { s.tim with recsA := [⟨0, 0, 0, false⟩] } })), 0, 0,
      (some (Line.a, ⟨0, 0, 0, false⟩)), by decide +kernel⟩,
   ⟨BPort.la1, (frm false 5 7 3 3 0 1 (List.replicate 40 0)),
      ((let s := ((let s := (ram (numbered live 2 3) (identAddr 0 3 + 16) [0, 3,
      1]); { s with tim := { s.tim with lastSrc := none } }) |>.put F.TIM_BASE_STAT_STATE 2
      |>.putB (F.PG_CTRL_EN P.TIM_BASE) true); { s with tim := { s.tim with recsA := [⟨0, 0, 0, false⟩] } })), 0, 0,
      (some (Line.a, ⟨0, 0, 0, false⟩)), by decide +kernel⟩,
   ⟨((let s := (live |>.put F.TIM_BASE_STAT_STATE 3); { s with tim := { s.tim with idle := 60000 } })), by decide +kernel⟩,
   ⟨live, by decide +kernel⟩,
   ⟨((let s := live; { s with tim := { s.tim with single := 60000 } })), by decide +kernel⟩,
   ⟨live, by decide +kernel⟩,
   ⟨Requester.host, 0x1, ((unlock live Requester.host P.TIM_BASE)), by decide +kernel⟩,
   ⟨Requester.host, 0x0, ((unlock live Requester.host P.TIM_BASE)), by decide +kernel⟩,
   ⟨Requester.host, live, by decide +kernel⟩,
   ⟨Requester.host, ((unlock live Requester.host P.TIM_BASE) |>.putB F.TIM_BASE_WCTL_WPEND false |>.put F.TIM_BASE_STAT_STATE 5),
      by decide +kernel⟩,
   ⟨Requester.host, ((unlock live Requester.host P.TIM_BASE)), by decide +kernel⟩⟩

theorem test_witness_ConsistPortTime :
    (∃ (port : Nat) (s : State), s.asSends port = true) ∧
    (∃ (port : Nat) (s : State), s.asSends port = true) ∧
    (∃ (port : Nat) (s : State), s.asSends port = false) ∧
    (∃ (port : Nat) (s : State), s.asEnabled port = true) ∧
    (∃ (port : Nat) (s : State), s.asEnabled port = true) ∧
    (∃ (port : Nat) (s : State), s.asEnabled port = true) ∧
    (∃ (port : Nat) (s : State), s.asEnabled port = true) ∧
    (∃ (port : Nat) (s : State), s.asEnabled port = true) ∧
    (∃ (port : Nat) (s : State), s.asEnabled port = false) :=
  ⟨⟨7, (live |>.put F.TIM_AS_CTRL_EN 0x80 |>.putB (F.CP_P_STAT_LINK 7) true |>.put F.TIM_BASE_STAT_STATE 2), by decide +kernel⟩,
   ⟨7, (live |>.put F.TIM_AS_CTRL_EN 0x80 |>.putB (F.CP_P_STAT_LINK 7) true |>.put F.TIM_BASE_STAT_STATE 2
      |>.put F.TWN_CTRL_ROLE_ROLE 4), by decide +kernel⟩,
   ⟨0, live, by decide +kernel⟩,
   ⟨7, (live |>.put F.TIM_AS_CTRL_EN 0xFF |>.putB (F.CP_P_STAT_LINK 7) true |>.put F.TIM_AS_CTRL_EN 0x80
      |>.putB (F.CP_P_STAT_LINK 7) true |>.put F.TIM_BASE_STAT_STATE 2), by decide +kernel⟩,
   ⟨7, (live |>.put F.TIM_AS_CTRL_EN 0xFF |>.putB (F.CP_P_STAT_LINK 7) true |>.put F.TIM_AS_CTRL_EN 0x80
      |>.putB (F.CP_P_STAT_LINK 7) true |>.put F.TIM_BASE_STAT_STATE 2), by decide +kernel⟩,
   ⟨7, (live |>.put F.TIM_AS_CTRL_EN 0xFF |>.putB (F.CP_P_STAT_LINK 7) true |>.put F.TIM_AS_CTRL_EN 0x80
      |>.putB (F.CP_P_STAT_LINK 7) true |>.put F.TIM_BASE_STAT_STATE 2), by decide +kernel⟩,
   ⟨0, (live |>.put F.TIM_AS_CTRL_EN 0xFF |>.putB (F.CP_P_STAT_LINK 0) true), by decide +kernel⟩,
   ⟨0, (live |>.put F.TIM_AS_CTRL_EN 0xFF |>.putB (F.CP_P_STAT_LINK 0) true), by decide +kernel⟩,
   ⟨0, live, by decide +kernel⟩⟩

theorem test_witness_LanternsAndConfirmation :
    (∃ (s : State), s.mlinkUp = true ∧ s.role ≠ 4) ∧
    (∃ (s : State), (s.mlinkUp = false ∨ s.role = 4)) ∧
    (∃ (s : State), s.mlinkUp = true ∧ s.bit F.TWN_CTRL_ROLE_SOLO = false) ∧
    (∃ (s : State), s.mlinkUp = true ∧ s.bit F.TWN_CTRL_ROLE_SOLO = true) ∧
    (∃ (s : State), s.mlinkUp = false) ∧
    (∃ (f : NFrame) (s : State), f.cls = 4 ∧ f.flow = 1 ∧ f.epn = false ∧ f.len = 40 ∧ s.twnOn = true ∧
      s.isPartner (lanternOf f.payload) = true ∧ s.bit F.TWN_CTRL_ROLE_SOLO = false) ∧
    (∃ (f : NFrame), (f.cls ≠ 4 ∨ f.flow ≠ 1 ∨ f.epn = true ∨ f.len ≠ 40)) ∧
    (∃ (cause : Nat) (x : Option Nat) (s : State), s.twn.confirm = some (cause, x) ∧ s.twnOn = true ∧ s.visible = false ∧
      s.neighbours ≠ []) ∧
    (∃ (cause : Nat) (x : Option Nat) (s : State), s.twn.confirm = some (cause, x) ∧ s.twnOn = true ∧ s.visible = false ∧
      s.neighbours = []) ∧
    (∃ (s : State), (s.twn.confirm = none ∨ s.twnOn = false ∨ s.visible = true)) ∧
    (∃ (f : NFrame) (s : State), s.class4For 2 f = true) ∧
    (∃ (f : NFrame) (s : State), s.class4For 2 f = false) ∧
    (∃ (f : NFrame) (cause : Nat) (nonce : Nat) (s : State), s.twn.confirm = some (cause, some nonce) ∧
      s.class4For 3 f = true ∧ payNum f 0 8 = s.serial ∧ payNum f 16 2 = nonce ∧ payNum f 18 4 < cycleUsOf s.actCyc) ∧
    (∃ (f : NFrame) (cause : Nat) (nonce : Nat) (s : State), s.twn.confirm = some (cause, some nonce) ∧
      s.class4For 3 f = true ∧ payNum f 0 8 = s.serial ∧ payNum f 16 2 = nonce ∧ cycleUsOf s.actCyc ≤ payNum f 18 4) ∧
    (∃ (f : NFrame) (s : State), (s.twn.confirm = none ∨ s.class4For 3 f = false ∨ payNum f 0 8 ≠ s.serial)) ∧
    (∃ (x : Nat × Option Nat) (s : State), s.twn.confirm = some x) ∧
    (∃ (s : State), s.twn.confirm = none) ∧
    (∃ (s : State), s.hlt.abortDue = false ∧ (s.twnOn = false ∨ s.bit F.TWN_CTRL_ROLE_W_M = false)) ∧
    (∃ (s : State), s.twnOn = true ∧ s.bit F.TWN_CTRL_ROLE_W_M = true) :=
  ⟨⟨(live |>.put F.TWN_MLINK_STAT_STATE 2 |>.put F.TWN_CTRL_ROLE_ROLE 0), by decide +kernel⟩,
   ⟨(live |>.put F.TWN_MLINK_STAT_STATE 0), by decide +kernel⟩,
   ⟨(live |>.put F.TWN_MLINK_STAT_STATE 2 |>.putB F.TWN_CTRL_ROLE_SOLO false), by decide +kernel⟩,
   ⟨(live |>.put F.TWN_MLINK_STAT_STATE 2 |>.putB F.TWN_CTRL_ROLE_SOLO true), by decide +kernel⟩,
   ⟨(live |>.put F.TWN_MLINK_STAT_STATE 0), by decide +kernel⟩,
   ⟨(frm false 4 7 2 0 3 1 (lanternBytes (lan 2))), (live |>.putB F.TWN_CTRL_ROLE_SOLO false |>.wr R.TWN_CTRL_PSER_LO 2),
      by decide +kernel⟩,
   ⟨(frm false 1 7 2 3 0 1 []), by decide +kernel⟩,
   ⟨4, none,
      ((let s := (ram (numbered live 2 3) (identAddr 0 3 + 18) [2]); { s with twn := { s.twn with confirm := some (4, none) } })),
      by decide +kernel⟩,
   ⟨0, none, ((let s := live; { s with twn := { s.twn with confirm := some (0, none) } })), by decide +kernel⟩,
   ⟨((let s := live; { s with twn := { s.twn with confirm := none } })), by decide +kernel⟩,
   ⟨(frm false 4 7 3 0 2 2 (List.replicate 20 0)), ((openLine (openLine (numbered live 2 3) Line.a) Line.b)), by decide +kernel⟩,
   ⟨(frm false 1 7 2 3 0 1 []), live, by decide +kernel⟩,
   ⟨(frm false 4 7 3 0 2 3 (List.replicate 16 0 ++ [0, 7] ++ beBytes 4 249)), 4, 7,
      ((let s := (numbered live 2 3); { s with twn := { s.twn with confirm := some (4, some 7) } })), by decide +kernel⟩,
   ⟨(frm false 4 7 3 0 2 3 (List.replicate 16 0 ++ [0, 7] ++ beBytes 4 250)), 4, 7,
      ((let s := (numbered live 2 3); { s with twn := { s.twn with confirm := some (4, some 7) } })), by decide +kernel⟩,
   ⟨(frm false 1 7 2 3 0 1 []), ((let s := live; { s with twn := { s.twn with confirm := none } })), by decide +kernel⟩,
   ⟨(0, none), ((let s := live; { s with twn := { s.twn with confirm := some (0, none) } })), by decide +kernel⟩,
   ⟨((let s := live; { s with twn := { s.twn with confirm := none } })), by decide +kernel⟩,
   ⟨((let s := live; { s with hlt := { s.hlt with abortDue := false } }) |>.putB ⟨R.SYS_PWR_STAT, I.TWN, I.TWN⟩ false),
      by decide +kernel⟩,
   ⟨(live |>.putB F.TWN_CTRL_ROLE_W_M true), by decide +kernel⟩⟩

theorem test_witness_ClaimLineAndMirrorLink :
    (∃ (s : State), s.twnOn = true ∧ s.role = 0 ∧ s.visible = false ∧ s.elig = true ∧ s.twn.failed = false ∧
      s.bit F.TWN_CTRL_ROLE_SOLO = false ∧ s.get F.TWN_CTRL_ROLE_CLAIM_FAULT = 0 ∧ s.bit F.TWN_CTRL_ROLE_CLAIM_DRV = false ∧
      s.get F.TWN_CTRL_ROLE_TPOS_EFF = 0) ∧
    (∃ (s : State), s.twnOn = true ∧ s.role = 0 ∧ s.visible = false ∧ s.elig = true ∧ s.twn.failed = false ∧
      s.bit F.TWN_CTRL_ROLE_SOLO = false ∧ s.get F.TWN_CTRL_ROLE_CLAIM_FAULT = 0 ∧ s.bit F.TWN_CTRL_ROLE_CLAIM_DRV = false ∧
      s.get F.TWN_CTRL_ROLE_TPOS_EFF = 0) ∧
    (∃ (s : State), s.twnOn = true ∧ s.role = 0 ∧ s.visible = false ∧ s.elig = true ∧ s.twn.failed = false ∧
      s.bit F.TWN_CTRL_ROLE_SOLO = false ∧ s.get F.TWN_CTRL_ROLE_CLAIM_FAULT = 0 ∧ s.bit F.TWN_CTRL_ROLE_CLAIM_DRV = false ∧
      s.get F.TWN_CTRL_ROLE_TPOS_EFF ≠ 0) ∧
    (∃ (s : State),
      (s.twnOn = false ∨ s.role ≠ 0 ∨ s.visible = true ∨ s.elig = false ∨ s.twn.failed = true ∨ s.bit F.TWN_CTRL_ROLE_SOLO = true)) ∧
    (∃ (cause : Nat) (s : State), s.twn.waiting = some cause ∧ s.role = 2 ∧ s.elig = true) ∧
    (∃ (cause : Nat) (s : State), s.twn.waiting = some cause ∧ s.role = 2 ∧ s.elig = true) ∧
    (∃ (cause : Nat) (s : State), s.twn.waiting = some cause ∧ s.role = 2 ∧ s.elig = false) ∧
    (∃ (s : State), s.twn.waiting = none) ∧
    (∃ (s : State), s.twnOn = true ∧ s.bit F.TWN_CTRL_ROLE_CLAIM_DRV = true) ∧
    (∃ (l : Lantern) (at' : Nat) (s : State), s.twnOn = true ∧ s.twn.partner = some l ∧ l.claimDrv = false ∧
      s.bit F.TWN_CTRL_ROLE_CLAIM_DRV = false ∧ s.bit F.TWN_CTRL_ROLE_W_M = true ∧ s.twn.lastMirror = some at' ∧
      s.mono - at' ≤ 20000) ∧
    (∃ (high : Bool) (s : State), (s.twnOn = false ∨ s.bit F.TWN_CTRL_ROLE_CLAIM_DRV = !high)) ∧
    (∃ (l : Lantern) (s : State), s.twnOn = true ∧ s.get F.TWN_CTRL_CFG_CLT_PER ≠ 0 ∧
      s.cycle % (s.get F.TWN_CTRL_CFG_CLT_PER * 1000) = (if s.get F.TWN_CTRL_ROLE_TPOS_EFF = 0 then 0 else s.get F.TWN_CTRL_CFG_CLT_PER * 1000 / 2) ∧
      s.bit F.TWN_CTRL_ROLE_CLAIM_DRV = false ∧ s.twn.partner = some l ∧ l.claimDrv = false ∧
      s.bit F.TWN_CTRL_ROLE_W_M = true ∧ s.bit F.TWN_CTRL_ROLE_SOLO = false) ∧
    (∃ (s : State),
      (s.twnOn = false ∨ s.get F.TWN_CTRL_CFG_CLT_PER = 0 ∨ s.bit F.TWN_CTRL_ROLE_CLAIM_DRV = true ∨ s.bit F.TWN_CTRL_ROLE_W_M = false ∨ s.bit F.TWN_CTRL_ROLE_SOLO = true)) ∧
    (∃ (q : Requester) (s : State), s.carries q R.TWN_CTRL_CMD = true ∧ s.owns q P.TWN_CTRL = true) ∧
    (∃ (s : State), s.twnOn = true) ∧
    (∃ (s : State), s.twnOn = true) ∧
    (∃ (s : State), s.twnOn = true) ∧
    (∃ (s : State), s.twnOn = true) ∧
    (∃ (s : State), s.twnOn = false) :=
  ⟨⟨((let s := live; { s with twn := { s.twn with failed := false } }) |>.put F.TWN_CTRL_ROLE_ROLE 0
      |>.putB F.SYS_RST_BOOT_CFG_OK true |>.put (F.BL_LINE_STAT_STATE Line.a) 2 |>.putB (F.PG_STAT_READY P.MGT_MBOX) true
      |>.putB F.TWN_CTRL_ROLE_SOLO false |>.put F.TWN_CTRL_ROLE_CLAIM_FAULT 0 |>.putB F.TWN_CTRL_ROLE_CLAIM_DRV false
      |>.put F.TWN_CTRL_ROLE_TPOS_EFF 0 |>.putB F.SYS_RST_BOOT_CFG_OK true |>.put (F.BL_LINE_STAT_STATE Line.a) 2
      |>.putB (F.PG_STAT_READY P.MGT_MBOX) true), by decide +kernel⟩,
   ⟨((let s := live; { s with twn := { s.twn with failed := false } }) |>.put F.TWN_CTRL_ROLE_ROLE 0
      |>.putB F.SYS_RST_BOOT_CFG_OK true |>.put (F.BL_LINE_STAT_STATE Line.a) 2 |>.putB (F.PG_STAT_READY P.MGT_MBOX) true
      |>.putB F.TWN_CTRL_ROLE_SOLO false |>.put F.TWN_CTRL_ROLE_CLAIM_FAULT 0 |>.putB F.TWN_CTRL_ROLE_CLAIM_DRV false
      |>.put F.TWN_CTRL_ROLE_TPOS_EFF 0), by decide +kernel⟩,
   ⟨((let s := live; { s with twn := { s.twn with failed := false } }) |>.put F.TWN_CTRL_ROLE_ROLE 0
      |>.putB F.SYS_RST_BOOT_CFG_OK true |>.put (F.BL_LINE_STAT_STATE Line.a) 2 |>.putB (F.PG_STAT_READY P.MGT_MBOX) true
      |>.putB F.TWN_CTRL_ROLE_SOLO false |>.put F.TWN_CTRL_ROLE_CLAIM_FAULT 0 |>.putB F.TWN_CTRL_ROLE_CLAIM_DRV false
      |>.put F.TWN_CTRL_ROLE_TPOS_EFF 1), by decide +kernel⟩,
   ⟨(live |>.putB ⟨R.SYS_PWR_STAT, I.TWN, I.TWN⟩ false), by decide +kernel⟩,
   ⟨0, ((let s := live; { s with twn := { s.twn with waiting := some 0 } }) |>.put F.TWN_CTRL_ROLE_ROLE 2
      |>.putB F.SYS_RST_BOOT_CFG_OK true |>.put (F.BL_LINE_STAT_STATE Line.a) 2 |>.putB (F.PG_STAT_READY P.MGT_MBOX) true),
      by decide +kernel⟩,
   ⟨0, ((let s := live; { s with twn := { s.twn with waiting := some 0 } }) |>.put F.TWN_CTRL_ROLE_ROLE 2
      |>.putB F.SYS_RST_BOOT_CFG_OK true |>.put (F.BL_LINE_STAT_STATE Line.a) 2 |>.putB (F.PG_STAT_READY P.MGT_MBOX) true),
      by decide +kernel⟩,
   ⟨0, ((let s := live; { s with twn := { s.twn with waiting := some 0 } }) |>.put F.TWN_CTRL_ROLE_ROLE 2), by decide +kernel⟩,
   ⟨((let s := live; { s with twn := { s.twn with waiting := none } })), by decide +kernel⟩,
   ⟨(live |>.putB F.TWN_CTRL_ROLE_CLAIM_DRV true), by decide +kernel⟩,
   ⟨(lan 2), 0,
      ((let s := (let s := live; { s with twn := { s.twn with partner := some (lan 2) } }); { s with twn := { s.twn with lastMirror := some 0 } })
      |>.putB F.TWN_CTRL_ROLE_CLAIM_DRV false |>.putB F.TWN_CTRL_ROLE_W_M true), by decide +kernel⟩,
   ⟨true, (live |>.putB F.TWN_CTRL_ROLE_CLAIM_DRV false), by decide +kernel⟩,
   ⟨(lan 2), ((let s := live; { s with twn := { s.twn with partner := some (lan 2) } }) |>.put F.TWN_CTRL_CFG_CLT_PER 1
      |>.putB F.TWN_CTRL_ROLE_CLAIM_DRV false |>.putB F.TWN_CTRL_ROLE_W_M true |>.putB F.TWN_CTRL_ROLE_SOLO false
      |>.put F.TWN_CTRL_CFG_CLT_PER 1), by decide +kernel⟩,
   ⟨(live |>.putB ⟨R.SYS_PWR_STAT, I.TWN, I.TWN⟩ false), by decide +kernel⟩,
   ⟨Requester.host, ((unlock live Requester.host P.TWN_CTRL)), by decide +kernel⟩,
   ⟨live, by decide +kernel⟩,
   ⟨live, by decide +kernel⟩,
   ⟨live, by decide +kernel⟩,
   ⟨live, by decide +kernel⟩,
   ⟨(live |>.putB ⟨R.SYS_PWR_STAT, I.TWN, I.TWN⟩ false), by decide +kernel⟩⟩

theorem test_witness_RolesAndHandovers :
    (∃ (q : Requester) (l : Lantern) (s : State), s.carries q R.TWN_CTRL_CMD = true ∧ s.owns q P.TWN_CTRL = true ∧
      s.role = 1 ∧ s.twn.ho = none ∧ s.mlinkUp = true ∧ s.bit F.TWN_CTRL_ROLE_W_M = true ∧ s.twn.partner = some l ∧
      l.role = 2 ∧ l.synced = true ∧ l.elig = true) ∧
    (∃ (q : Requester) (s : State), s.carries q R.TWN_CTRL_CMD = true ∧ s.owns q P.TWN_CTRL = true ∧ s.role = 1 ∧
      s.twn.ho = none ∧ s.mlinkUp = false) ∧
    (∃ (q : Requester) (l : Lantern) (s : State), s.carries q R.TWN_CTRL_CMD = true ∧ s.owns q P.TWN_CTRL = true ∧
      s.role = 1 ∧ s.twn.ho = none ∧ s.mlinkUp = true ∧ s.bit F.TWN_CTRL_ROLE_W_M = true ∧ s.twn.partner = some l ∧
      (l.role ≠ 2 ∨ l.synced = false ∨ l.elig = false)) ∧
    (∃ (q : Requester) (s : State), s.carries q R.TWN_CTRL_CMD = true ∧ s.role ≠ 1) ∧
    (∃ (q : Requester) (s : State), s.carries q R.TWN_CTRL_CMD = true ∧ s.owns q P.TWN_CTRL = true ∧ s.role = 2) ∧
    (∃ (q : Requester) (s : State), s.carries q R.TWN_CTRL_CMD = true ∧ s.owns q P.TWN_CTRL = true ∧ s.role = 1 ∧
      s.twn.ho = none ∧ s.mlinkUp = false) ∧
    (∃ (q : Requester) (l : Lantern) (s : State), s.carries q R.TWN_CTRL_CMD = true ∧ s.owns q P.TWN_CTRL = true ∧
      s.role = 1 ∧ s.twn.ho = none ∧ s.mlinkUp = true ∧ s.bit F.TWN_CTRL_ROLE_W_M = true ∧ s.twn.partner = some l ∧
      l.role = 2 ∧ l.synced = true ∧ l.elig = true) ∧
    (∃ (q : Requester) (s : State), s.carries q R.TWN_CTRL_CMD = true ∧ s.role ≠ 1 ∧ s.role ≠ 2) ∧
    (∃ (q : Requester) (s : State), s.carries q R.TWN_CTRL_CMD = true ∧ s.owns q P.TWN_CTRL = true ∧ s.role = 3) ∧
    (∃ (q : Requester) (s : State), s.carries q R.TWN_CTRL_CMD = true ∧ s.role ≠ 3) ∧
    (∃ (q : Requester) (s : State), s.carries q R.TWN_CTRL_CMD = true ∧ s.owns q P.TWN_CTRL = true) ∧
    (∃ (h : Handover) (s : State), s.twn.ho = some h ∧ h.accepted = false ∧ 4 ≤ s.sinceCycle h.since) ∧
    (∃ (s : State), (s.twn.ho = none ∨ ∃ h, s.twn.ho = some h ∧ (h.accepted = true ∨ s.sinceCycle h.since < 4))) ∧
    (∃ (cause : Nat) (l : Lantern) (s : State), s.twnOn = true ∧ s.role = 1 ∧ s.bit F.TWN_CTRL_CFG_AUTO_HO = true ∧
      s.twn.ho = none ∧ (cause = 0 ∧ s.mgtReady = false ∨ cause = 1 ∧ s.get F.HLT_CTRL_NODE_LEVEL = 3 ∨ 2 ≤ cause ∧
      s.elig = false) ∧ s.mlinkUp = true ∧ s.bit F.TWN_CTRL_ROLE_W_M = true ∧ s.twn.partner = some l ∧ l.role = 2 ∧
      l.synced = true ∧ l.elig = true) ∧
    (∃ (cause : Nat) (s : State),
      (s.twnOn = false ∨ s.role ≠ 1 ∨ s.bit F.TWN_CTRL_CFG_AUTO_HO = false ∨ s.twn.ho.isSome = true ∨ cause = 0 ∧
      s.mgtReady = true ∨ cause = 1 ∧ s.get F.HLT_CTRL_NODE_LEVEL ≠ 3 ∨ 2 ≤ cause ∧ s.elig = true)) ∧
    (∃ (s : State), s.twn.hoTake.isSome = true ∧ s.role = 2 ∧ s.elig = true) ∧
    (∃ (s : State), s.twn.hoTake.isSome = true ∧ s.role = 2 ∧ s.elig = false) ∧
    (∃ (s : State), (s.twn.hoTake = none ∨ s.role ≠ 2)) :=
  ⟨⟨Requester.host, (lan 2),
      ((let s := (let s := (unlock live Requester.host P.TWN_CTRL); { s with twn := { s.twn with ho := none } }); { s with twn := { s.twn with partner := some (lan 2) } })
      |>.put F.TWN_CTRL_ROLE_ROLE 1 |>.put F.TWN_MLINK_STAT_STATE 2 |>.putB F.TWN_CTRL_ROLE_W_M true), by decide +kernel⟩,
   ⟨Requester.host, ((let s := (unlock live Requester.host P.TWN_CTRL); { s with twn := { s.twn with ho := none } })
      |>.put F.TWN_CTRL_ROLE_ROLE 1 |>.put F.TWN_MLINK_STAT_STATE 0), by decide +kernel⟩,
   ⟨Requester.host, (lan 1),
      ((let s := (let s := (unlock live Requester.host P.TWN_CTRL); { s with twn := { s.twn with ho := none } }); { s with twn := { s.twn with partner := some (lan 1) } })
      |>.put F.TWN_CTRL_ROLE_ROLE 1 |>.put F.TWN_MLINK_STAT_STATE 2 |>.putB F.TWN_CTRL_ROLE_W_M true), by decide +kernel⟩,
   ⟨Requester.host, (live |>.put F.TWN_CTRL_ROLE_ROLE 0), by decide +kernel⟩,
   ⟨Requester.host, ((unlock live Requester.host P.TWN_CTRL) |>.put F.TWN_CTRL_ROLE_ROLE 2), by decide +kernel⟩,
   ⟨Requester.host, ((let s := (unlock live Requester.host P.TWN_CTRL); { s with twn := { s.twn with ho := none } })
      |>.put F.TWN_CTRL_ROLE_ROLE 1 |>.put F.TWN_MLINK_STAT_STATE 0), by decide +kernel⟩,
   ⟨Requester.host, (lan 2),
      ((let s := (let s := (unlock live Requester.host P.TWN_CTRL); { s with twn := { s.twn with ho := none } }); { s with twn := { s.twn with partner := some (lan 2) } })
      |>.put F.TWN_CTRL_ROLE_ROLE 1 |>.put F.TWN_MLINK_STAT_STATE 2 |>.putB F.TWN_CTRL_ROLE_W_M true), by decide +kernel⟩,
   ⟨Requester.host, (live |>.put F.TWN_CTRL_ROLE_ROLE 0 |>.put F.TWN_CTRL_ROLE_ROLE 0), by decide +kernel⟩,
   ⟨Requester.host, ((unlock live Requester.host P.TWN_CTRL) |>.put F.TWN_CTRL_ROLE_ROLE 3), by decide +kernel⟩,
   ⟨Requester.host, (live |>.put F.TWN_CTRL_ROLE_ROLE 0), by decide +kernel⟩,
   ⟨Requester.host, ((unlock (twin live { lan 2 with req := 2 }) Requester.host P.TWN_CTRL)), by decide +kernel⟩,
   ⟨(⟨5, true, 3, 5, false⟩), ((let s := live; { s with twn := { s.twn with ho := some (⟨5, true, 3, 5, false⟩) } })),
      by decide +kernel⟩,
   ⟨((let s := live; { s with twn := { s.twn with ho := none } })), by decide +kernel⟩,
   ⟨0, (lan 2),
      ((let s := (let s := live; { s with twn := { s.twn with ho := none } }); { s with twn := { s.twn with partner := some (lan 2) } })
      |>.put F.TWN_CTRL_ROLE_ROLE 1 |>.putB F.TWN_CTRL_CFG_AUTO_HO true |>.put F.TWN_MLINK_STAT_STATE 2
      |>.putB F.TWN_CTRL_ROLE_W_M true |>.putB (F.PG_STAT_READY P.MGT_MBOX) false), by decide +kernel⟩,
   ⟨0, (live |>.putB ⟨R.SYS_PWR_STAT, I.TWN, I.TWN⟩ false), by decide +kernel⟩,
   ⟨((let s := (live |>.put F.TWN_CTRL_ROLE_ROLE 2 |>.putB F.SYS_RST_BOOT_CFG_OK true |>.put (F.BL_LINE_STAT_STATE Line.a) 2
      |>.putB (F.PG_STAT_READY P.MGT_MBOX) true); { s with twn := { s.twn with hoTake := some 5 } })), by decide +kernel⟩,
   ⟨((let s := (live |>.put F.TWN_CTRL_ROLE_ROLE 2); { s with twn := { s.twn with hoTake := some 5 } })), by decide +kernel⟩,
   ⟨((let s := live; { s with twn := { s.twn with hoTake := none } })), by decide +kernel⟩⟩

theorem test_witness_MirrorEpochs :
    (∃ (item : MirrorItem) (r : MRec) (s : State), s.itemRec item = some r ∧ s.role = 1 ∧ s.mlinkUp = true ∧
      s.twn.overflow = false ∧ s.twn.sent.bytes + (recBytes r).length ≤ 262144) ∧
    (∃ (item : MirrorItem) (r : MRec) (s : State), s.itemRec item = some r ∧ s.role = 1 ∧ s.mlinkUp = true ∧
      s.twn.overflow = false ∧ 262144 < s.twn.sent.bytes + (recBytes r).length) ∧
    (∃ (item : MirrorItem) (s : State), (s.itemRec item = none ∨ s.role ≠ 1 ∨ s.mlinkUp = false ∨ s.twn.overflow = true)) ∧
    (∃ (n : Nat) (b : MBuf) (s : State), s.role = 2 ∧ s.mlinkUp = true ∧ s.twn.buf = some b ∧ b.n = n) ∧
    (∃ (s : State), s.role = 2 ∧ s.mlinkUp = true ∧ s.twn.buf = none) ∧
    (∃ (n : Nat) (b : MBuf) (s : State), s.role = 2 ∧ s.mlinkUp = true ∧ s.twn.buf = some b ∧ b.n ≠ n) ∧
    (∃ (n : Nat) (payload : List Byte) (b : MBuf) (s : State), s.role = 2 ∧ s.mlinkUp = true ∧ s.twn.buf = some b ∧ b.n = n ∧
      closeOk b payload = true ∧ (s.synced = false ∨ n = (s.twn.committed + 1) % 2 ^ 32)) ∧
    (∃ (n : Nat) (payload : List Byte) (b : MBuf) (s : State), s.role = 2 ∧ s.mlinkUp = true ∧ s.twn.buf = some b ∧ b.n = n ∧
      (closeOk b payload = false ∨ s.synced = true ∧ n ≠ (s.twn.committed + 1) % 2 ^ 32)) ∧
    (∃ (e : Nat) (s : State), s.twn.tope = some e ∧ e ≠ s.epoch ∧ s.get F.TOP_SHADOW_GRACE = 0) ∧
    (∃ (s : State), s.twn.tope = some s.epoch ∧ s.get F.TOP_SHADOW_GRACE = 0) ∧
    (∃ (s : State), (s.twn.tope = none ∨ s.get F.TOP_SHADOW_GRACE ≠ 0)) ∧
    (∃ (s : State), s.role = 2 ∧ s.mlinkUp = true ∧ s.synced = false) ∧
    (∃ (n : Nat) (payload : List Byte) (b : MBuf) (s : State), s.role = 2 ∧ s.mlinkUp = true ∧ s.synced = false ∧
      s.twn.base = some b ∧ b.n = n ∧ closeOk b payload = true) ∧
    (∃ (n : Nat) (payload : List Byte) (b : MBuf) (s : State), s.role = 2 ∧ s.mlinkUp = true ∧ s.synced = false ∧
      s.twn.base = some b ∧ b.n = n ∧ closeOk b payload = false ∧ s.twn.bclosed = false) ∧
    (∃ (s : State), (s.role ≠ 2 ∨ s.mlinkUp = false)) ∧
    (∃ (s : State), s.synced = true) :=
  ⟨⟨(MirrorItem.fw [0, 0, 0, 1]), (⟨7, 0, [0, 0, 0, 1]⟩), ((let s := live; { s with twn := { s.twn with overflow := false } })
      |>.put F.TWN_CTRL_ROLE_ROLE 1 |>.put F.TWN_MLINK_STAT_STATE 2), by decide +kernel⟩,
   ⟨(.fw [0, 0, 0, 1]), (⟨7, 0, [0, 0, 0, 1]⟩), ((let s := ((let s := live; { s with twn := { s.twn with overflow := false } })
      |>.put F.TWN_CTRL_ROLE_ROLE 1
      |>.put F.TWN_MLINK_STAT_STATE 2); { s with twn := { s.twn with sent := { MBuf.empty 1 with bytes := 262144 } } })),
      by decide +kernel⟩,
   ⟨(MirrorItem.ctx 0), live, by decide +kernel⟩,
   ⟨1, (MBuf.empty 1), ((let s := live; { s with twn := { s.twn with buf := some (MBuf.empty 1) } })
      |>.put F.TWN_CTRL_ROLE_ROLE 2 |>.put F.TWN_MLINK_STAT_STATE 2), by decide +kernel⟩,
   ⟨((let s := live; { s with twn := { s.twn with buf := none } }) |>.put F.TWN_CTRL_ROLE_ROLE 2
      |>.put F.TWN_MLINK_STAT_STATE 2), by decide +kernel⟩,
   ⟨0, (MBuf.empty 1), ((let s := live; { s with twn := { s.twn with buf := some (MBuf.empty 1) } })
      |>.put F.TWN_CTRL_ROLE_ROLE 2 |>.put F.TWN_MLINK_STAT_STATE 2), by decide +kernel⟩,
   ⟨1, (beBytes 4 0 ++ beBytes 4 0 ++ beBytes 4 (crcEnd 0xFFFFFFFF) ++ beBytes 4 0), (MBuf.empty 1),
      ((let s := live; { s with twn := { s.twn with buf := some (MBuf.empty 1) } }) |>.put F.TWN_CTRL_ROLE_ROLE 2
      |>.put F.TWN_MLINK_STAT_STATE 2 |>.putB F.TWN_CTRL_ROLE_SYNCED false), by decide +kernel⟩,
   ⟨1, ([1]), (MBuf.empty 1), ((let s := live; { s with twn := { s.twn with buf := some (MBuf.empty 1) } })
      |>.put F.TWN_CTRL_ROLE_ROLE 2 |>.put F.TWN_MLINK_STAT_STATE 2), by decide +kernel⟩,
   ⟨6, ((let s := (numbered live 2 3); { s with twn := { s.twn with tope := some 6 } }) |>.put F.TOP_SHADOW_GRACE 0),
      by decide +kernel⟩,
   ⟨((let s := live; { s with twn := { s.twn with tope := some s.epoch } }) |>.put F.TOP_SHADOW_GRACE 0), by decide +kernel⟩,
   ⟨((let s := live; { s with twn := { s.twn with tope := none } })), by decide +kernel⟩,
   ⟨(live |>.put F.TWN_CTRL_ROLE_ROLE 2 |>.put F.TWN_MLINK_STAT_STATE 2 |>.putB F.TWN_CTRL_ROLE_SYNCED false), by decide +kernel⟩,
   ⟨1, (beBytes 4 0 ++ beBytes 4 0 ++ beBytes 4 (crcEnd 0xFFFFFFFF) ++ beBytes 4 0), (MBuf.empty 1),
      ((let s := live; { s with twn := { s.twn with base := some (MBuf.empty 1) } }) |>.put F.TWN_CTRL_ROLE_ROLE 2
      |>.put F.TWN_MLINK_STAT_STATE 2 |>.putB F.TWN_CTRL_ROLE_SYNCED false), by decide +kernel⟩,
   ⟨1, ([1]), (MBuf.empty 1),
      ((let s := (let s := live; { s with twn := { s.twn with base := some (MBuf.empty 1) } }); { s with twn := { s.twn with bclosed := false } })
      |>.put F.TWN_CTRL_ROLE_ROLE 2 |>.put F.TWN_MLINK_STAT_STATE 2 |>.putB F.TWN_CTRL_ROLE_SYNCED false), by decide +kernel⟩,
   ⟨(live |>.put F.TWN_CTRL_ROLE_ROLE 0), by decide +kernel⟩,
   ⟨(live |>.putB F.TWN_CTRL_ROLE_SYNCED true), by decide +kernel⟩⟩

theorem test_witness_HostEndpoint :
    (∃ (s : State), s.isOn I.HBR = true) ∧
    (∃ (speed : Nat) (width : Nat) (s : State), s.isOn I.HBR = true ∧ s.bit F.HBR_CTRL_LINK_UP = false ∧
      s.bit F.SYS_CLK_STAT_PCIE_OK = true ∧ s.get (F.SYS_CLK_ISL_CUR I.HBR) ≠ 0 ∧ speed < 8 ∧ width < 8) ∧
    (∃ (s : State),
      (s.isOn I.HBR = false ∨ s.bit F.HBR_CTRL_LINK_UP = true ∨ s.bit F.SYS_CLK_STAT_PCIE_OK = false ∨ s.get (F.SYS_CLK_ISL_CUR I.HBR) = 0)) ∧
    (∃ (s : State), s.isOn I.HBR = true ∧ s.bit F.HBR_CTRL_LINK_UP = true) ∧
    (∃ (s : State), s.isOn I.HBR = true ∧ s.bit F.HBR_CTRL_LINK_UP = true) ∧
    (∃ (s : State), (s.isOn I.HBR = false ∨ s.bit F.HBR_CTRL_LINK_UP = false)) ∧
    (∃ (s : State), s.isOn I.HBR = true) ∧
    (∃ (s : State), s.isOn I.HBR = true) ∧
    (∃ (s : State), s.isOn I.HBR = false) ∧
    (∃ (q : Requester) (vec : Nat) (s : State), vec < 32 ∧ s.carries q (R.HBR_MSIX_V_CTRL vec) = true) ∧
    (∃ (q : Requester) (vec : Nat) (v : Word) (s : State), vec < 32 ∧ s.carries q (R.HBR_MSIX_V_CTRL vec) = true ∧
      v.getLsbD 0 = false ∧ s.bit (pbaFld vec) = true ∧ s.isOn I.HBR = true ∧ s.bit F.HBR_CTRL_LINK_MSIXEN = true ∧
      s.bit F.HBR_CTRL_LINK_BME = true ∧ s.bit F.HBR_CTRL_LINK_FMASK = false ∧ s.bit F.HBR_CTRL_LINK_D3 = false) :=
  ⟨⟨live, by decide +kernel⟩,
   ⟨7, 7, (live |>.putB F.HBR_CTRL_LINK_UP false |>.putB F.SYS_CLK_STAT_PCIE_OK true |>.put (F.SYS_CLK_ISL_CUR I.HBR) 1),
      by decide +kernel⟩,
   ⟨(live |>.putB ⟨R.SYS_PWR_STAT, I.HBR, I.HBR⟩ false), by decide +kernel⟩,
   ⟨(live |>.putB F.HBR_CTRL_LINK_UP true), by decide +kernel⟩,
   ⟨(live |>.putB F.HBR_CTRL_LINK_UP true), by decide +kernel⟩,
   ⟨(live |>.putB ⟨R.SYS_PWR_STAT, I.HBR, I.HBR⟩ false), by decide +kernel⟩,
   ⟨live, by decide +kernel⟩,
   ⟨live, by decide +kernel⟩,
   ⟨(live |>.putB ⟨R.SYS_PWR_STAT, I.HBR, I.HBR⟩ false), by decide +kernel⟩,
   ⟨Requester.host, 31, live, by decide +kernel⟩,
   ⟨Requester.host, 31, 0x0, (live |>.putB (pbaFld 31) true |>.putB F.HBR_CTRL_LINK_MSIXEN true |>.putB F.HBR_CTRL_LINK_BME true
      |>.putB F.HBR_CTRL_LINK_FMASK false |>.putB F.HBR_CTRL_LINK_D3 false), by decide +kernel⟩⟩

theorem test_witness_HostWindowsAndRings :
    (∃ (q : Requester) (n : Nat) (v : Word) (s : State), n < 16 ∧ s.carries q (R.HBR_IWIN_CFG n) = true ∧
      s.bit (F.HBR_IWIN_CFG_EN n) = false ∧ v.getLsbD 31 = true) ∧
    (∃ (q : Requester) (n : Nat) (v : Word) (s : State), n < 16 ∧ s.carries q (R.HBR_IWIN_CFG n) = true ∧
      (s.bit (F.HBR_IWIN_CFG_EN n) = true ∨ v.getLsbD 31 = false)) ∧
    (∃ (q : Requester) (m : Nat) (v : Word) (s : State), m < 8 ∧ s.carries q (R.HBR_OWIN_CFG m) = true ∧ v.getLsbD 31 = true) ∧
    (∃ (q : Requester) (m : Nat) (v : Word) (s : State), m < 8 ∧ s.carries q (R.HBR_OWIN_CFG m) = true ∧ v.getLsbD 31 = false) ∧
    (∃ (q : Requester) (r : Nat) (s : State), r < 9 ∧ s.carries q (R.HBR_RING_CFG r) = true) ∧
    (∃ (q : Requester) (r : Nat) (v : Word) (s : State), r < 9 ∧ s.carries q (R.HBR_RING_PTR r) = true ∧
      v.toNat / 65536 % 1024 < s.ringDesc r ∧
      ringDist (s.ringDesc r) (s.get (F.HBR_RING_PTR_DONE r)) (s.get (F.HBR_RING_PTR_PUT r)) ≤ ringDist (s.ringDesc r) (s.get (F.HBR_RING_PTR_DONE r)) (v.toNat / 65536 % 1024)) ∧
    (∃ (q : Requester) (r : Nat) (v : Word) (s : State), r < 9 ∧ s.carries q (R.HBR_RING_PTR r) = true ∧
      (s.ringDesc r ≤ v.toNat / 65536 % 1024 ∨ ringDist (s.ringDesc r) (s.get (F.HBR_RING_PTR_DONE r)) (v.toNat / 65536 % 1024) < ringDist (s.ringDesc r) (s.get (F.HBR_RING_PTR_DONE r)) (s.get (F.HBR_RING_PTR_PUT r)))) ∧
    (∃ (k : Nat) (x : QFrame) (xs : List QFrame) (s : State), k < 8 ∧ s.queue 12 k = x :: xs ∧ x.mgt = false ∧
      s.ringReady k = true ∧ s.dmaFits (s.get (F.HBR_RING_CFG_OWIN k)) (s.descAt k) 16 = true) ∧
    (∃ (k : Nat) (x : QFrame) (xs : List QFrame) (s : State), k < 8 ∧ s.queue 12 k = x :: xs ∧ x.mgt = false ∧
      s.ringReady k = true ∧ s.dmaFits (s.get (F.HBR_RING_CFG_OWIN k)) (s.descAt k) 16 = false) ∧
    (∃ (k : Nat) (s : State), k < 8 ∧ (s.queue 12 k = [] ∨ s.ringReady k = false)) ∧
    (∃ (s : State), s.ringReady 8 = true ∧ s.dmaFits (s.get (F.HBR_RING_CFG_OWIN 8)) (s.descAt 8) 16 = true) ∧
    (∃ (s : State), s.ringReady 8 = true ∧ s.dmaFits (s.get (F.HBR_RING_CFG_OWIN 8)) (s.descAt 8) 16 = false) ∧
    (∃ (s : State), s.ringReady 8 = false) :=
  ⟨⟨Requester.host, 15, 0x80000000, (live |>.putB (F.HBR_IWIN_CFG_EN 15) false), by decide +kernel⟩,
   ⟨Requester.host, 15, 0, (live |>.putB (F.HBR_IWIN_CFG_EN 15) true), by decide +kernel⟩,
   ⟨Requester.host, 7, 0x80000000, live, by decide +kernel⟩,
   ⟨Requester.host, 7, 0x0, live, by decide +kernel⟩,
   ⟨Requester.host, 8, live, by decide +kernel⟩,
   ⟨Requester.host, 8, 0, live, by decide +kernel⟩,
   ⟨Requester.host, 8, 0x00020000, live, by decide +kernel⟩,
   ⟨7, (⟨.native (frm false 1 7 2 3 0 1 []), 1, 0, none, false, 0, 0, 0⟩), ([]), (live |>.putB F.HBR_CTRL_LINK_BME true
      |>.putB (F.HBR_RING_CFG_EN 7) true |>.put (F.HBR_RING_PTR_PUT 7) 1 |>.putB (F.HBR_OWIN_CFG_EN 0) true
      |>.setQueue 12 7 [(⟨.native (frm false 1 7 2 3 0 1 []), 1, 0, none, false, 0, 0, 0⟩)]), by decide +kernel⟩,
   ⟨7, (⟨.native (frm false 1 7 2 3 0 1 []), 1, 0, none, false, 0, 0, 0⟩), ([]), (live |>.putB F.HBR_CTRL_LINK_BME true
      |>.putB (F.HBR_RING_CFG_EN 7) true |>.put (F.HBR_RING_PTR_PUT 7) 1 |>.putB (F.HBR_OWIN_CFG_EN 0) false
      |>.setQueue 12 7 [(⟨.native (frm false 1 7 2 3 0 1 []), 1, 0, none, false, 0, 0, 0⟩)]), by decide +kernel⟩,
   ⟨7, live, by decide +kernel⟩,
   ⟨(live |>.putB F.HBR_CTRL_LINK_BME true |>.putB (F.HBR_RING_CFG_EN 8) true |>.put (F.HBR_RING_PTR_PUT 8) 1
      |>.putB (F.HBR_OWIN_CFG_EN 0) true), by decide +kernel⟩,
   ⟨(live |>.putB F.HBR_CTRL_LINK_BME true |>.putB (F.HBR_RING_CFG_EN 8) true |>.put (F.HBR_RING_PTR_PUT 8) 1
      |>.putB (F.HBR_OWIN_CFG_EN 0) false), by decide +kernel⟩,
   ⟨live, by decide +kernel⟩⟩

theorem test_witness_Bar2Accesses :
    (∃ (off : Nat) (s : State), s.pathUp .host = true ∧ (s.bar2Win off = none ∨ ∃ w, s.bar2Win off = some w ∧
      s.get (F.HBR_IWIN_CFG_TGT w) = 0)) ∧
    (∃ (s : State), s.pathUp .host = false) ∧
    (∃ (off : Nat) (n : Nat) (w : Nat) (isl : Nat) (s : State), s.pathUp .host = true ∧ s.bar2Win off = some w ∧
      (s.get (F.HBR_IWIN_CFG_TGT w) = 1 ∧ isl = I.CBL ∨ s.get (F.HBR_IWIN_CFG_TGT w) = 2 ∧ isl = I.CBH) ∧ (n = 4 ∨ n = 8) ∧
      off % n = 0 ∧ s.isOn isl = true) ∧
    (∃ (off : Nat) (n : Nat) (w : Nat) (isl : Nat) (s : State), s.pathUp .host = true ∧ s.bar2Win off = some w ∧
      (s.get (F.HBR_IWIN_CFG_TGT w) = 1 ∧ isl = I.CBL ∨ s.get (F.HBR_IWIN_CFG_TGT w) = 2 ∧ isl = I.CBH) ∧ (n = 4 ∨ n = 8) ∧
      off % n = 0 ∧ s.isOn isl = true) ∧
    (∃ (off : Nat) (w : Nat) (isl : Nat) (s : State), s.pathUp .host = true ∧ s.bar2Win off = some w ∧
      (s.get (F.HBR_IWIN_CFG_TGT w) = 1 ∧ isl = I.CBL ∨ s.get (F.HBR_IWIN_CFG_TGT w) = 2 ∧ isl = I.CBH) ∧ off % 4 = 0 ∧
      s.isOn isl = true ∧ laneSwap (s.get (F.HBR_IWIN_CFG_MODE w)) false (off - s.iwinStart w) < 0x1000000) ∧
    (∃ (off : Nat) (n : Nat) (w : Nat) (s : State), s.pathUp .host = true ∧ s.bar2Win off = some w ∧
      (s.get (F.HBR_IWIN_CFG_TGT w) = 1 ∨ s.get (F.HBR_IWIN_CFG_TGT w) = 2) ∧ (n ≠ 4 ∧ n ≠ 8 ∨ off % n ≠ 0)) ∧
    (∃ (off : Nat) (w : Nat) (n : Nat) (offs : Nat) (s : State), s.pathUp .host = true ∧ s.bar2Win off = some w ∧
      s.get (F.HBR_IWIN_CFG_TGT w) = 3 ∧ off % 4 = 0 ∧ s.isOn I.PSC = true ∧
      offs = s.get (F.PSC_WIN_BASE_BASE (s.get (F.HBR_IWIN_CFG_PWIN w))) * 4096 + laneSwap (s.get (F.HBR_IWIN_CFG_MODE w)) true (off - s.iwinStart w) / 4 * 4 ∧
      s.psc.drb = [] ∧ s.psc.reads = [] ∧ s.freeTags ≠ [] ∧ s.pscTarget (s.get (F.HBR_IWIN_CFG_PWIN w)) offs = some n) ∧
    (∃ (off : Nat) (w : Nat) (offs : Nat) (s : State), s.pathUp .host = true ∧ s.bar2Win off = some w ∧
      s.get (F.HBR_IWIN_CFG_TGT w) = 3 ∧ off % 4 = 0 ∧ s.isOn I.PSC = true ∧
      offs = s.get (F.PSC_WIN_BASE_BASE (s.get (F.HBR_IWIN_CFG_PWIN w))) * 4096 + laneSwap (s.get (F.HBR_IWIN_CFG_MODE w)) true (off - s.iwinStart w) / 4 * 4 ∧
      s.psc.drb = [] ∧ s.pscTarget (s.get (F.HBR_IWIN_CFG_PWIN w)) offs = none) ∧
    (∃ (off : Nat) (w : Nat) (s : State), s.pathUp .host = true ∧ s.bar2Win off = some w ∧ s.get (F.HBR_IWIN_CFG_TGT w) = 3 ∧
      off % 4 = 0 ∧ s.isOn I.PSC = false) ∧
    (∃ (off : Nat) (r : PscRead) (s : State), s.isOn I.PSC = true ∧ (s.psc.reads.find? fun x => x.bar2 == off) = some r ∧
      r.tag = none ∧ r.win < 8) ∧
    (∃ (off : Nat) (r : PscRead) (tag : Nat) (e : Nat) (s : State), s.isOn I.PSC = true ∧
      (s.psc.reads.find? fun x => x.bar2 == off) = some r ∧ r.tag = some tag ∧ r.win < 8 ∧
      (s.psc.drb.any fun x => x.2.tag == tag && x.2.resp.isNone) = false ∧ (s.psc.reqs.any fun x => x.tag == tag) = true ∧
      s.pickFree ((List.range 16).filter fun k => !s.psc.drb.any fun x => x.1 == k) = some e) ∧
    (∃ (off : Nat) (s : State), (s.isOn I.PSC = false ∨ (s.psc.reads.find? fun x => x.bar2 == off) = none)) ∧
    (∃ (off : Nat) (w : Nat) (n : Nat) (s : State), s.pathUp .host = true ∧ s.bar2Win off = some w ∧
      s.get (F.HBR_IWIN_CFG_TGT w) = 3 ∧ off % 4 = 0 ∧ s.isOn I.PSC = true ∧
      s.pscTarget (s.get (F.HBR_IWIN_CFG_PWIN w)) (s.get (F.PSC_WIN_BASE_BASE (s.get (F.HBR_IWIN_CFG_PWIN w))) * 4096 + laneSwap (s.get (F.HBR_IWIN_CFG_MODE w)) true (off - s.iwinStart w) / 4 * 4) = some n) :=
  ⟨⟨0x6000, (live |>.putB (F.HBR_IWIN_CFG_EN 15) true |>.put (F.HBR_IWIN_CFG_SIZE 15) 12 |>.put (F.HBR_IWIN_BASE_BASE 15) 5),
      by decide +kernel⟩,
   ⟨(live |>.putB F.HBR_CTRL_LINK_UP false), by decide +kernel⟩,
   ⟨0x5FF8, 8, 15, I.CBH, (live |>.putB (F.HBR_IWIN_CFG_EN 15) true |>.put (F.HBR_IWIN_CFG_SIZE 15) 12
      |>.put (F.HBR_IWIN_BASE_BASE 15) 5 |>.put (F.HBR_IWIN_CFG_TGT 15) 2), by decide +kernel⟩,
   ⟨0x5FF8, 8, 15, I.CBH, (live |>.putB (F.HBR_IWIN_CFG_EN 15) true |>.put (F.HBR_IWIN_CFG_SIZE 15) 12
      |>.put (F.HBR_IWIN_BASE_BASE 15) 5 |>.put (F.HBR_IWIN_CFG_TGT 15) 2), by decide +kernel⟩,
   ⟨0x5FF8, 15, I.CBH, (live |>.putB (F.HBR_IWIN_CFG_EN 15) true |>.put (F.HBR_IWIN_CFG_SIZE 15) 12
      |>.put (F.HBR_IWIN_BASE_BASE 15) 5 |>.put (F.HBR_IWIN_CFG_TGT 15) 2), by decide +kernel⟩,
   ⟨0x5FF9, 4, 15, (live |>.put (F.HBR_IWIN_CFG_TGT 15) 1 |>.putB (F.HBR_IWIN_CFG_EN 15) true |>.put (F.HBR_IWIN_CFG_SIZE 15) 12
      |>.put (F.HBR_IWIN_BASE_BASE 15) 5 |>.put (F.HBR_IWIN_CFG_TGT 15) 2), by decide +kernel⟩,
   ⟨0x5FFC, 15, 3, 0xFFC,
      ((let s := (let s := (numbered live 2 3); { s with psc := { s.psc with drb := [] } }); { s with psc := { s.psc with reads := [] } })
      |>.put (F.HBR_IWIN_CFG_TGT 15) 3 |>.putB (F.HBR_IWIN_CFG_EN 15) true |>.put (F.HBR_IWIN_CFG_SIZE 15) 12
      |>.put (F.HBR_IWIN_BASE_BASE 15) 5 |>.putB (F.PSC_WIN_CFG_EN 0) true |>.put (F.PSC_WIN_CFG_DVAL 0) 3),
      by decide +kernel⟩,
   ⟨0x5FFC, 15, 0xFFC, ((let s := live; { s with psc := { s.psc with drb := [] } }) |>.put (F.HBR_IWIN_CFG_TGT 15) 3
      |>.putB (F.HBR_IWIN_CFG_EN 15) true |>.put (F.HBR_IWIN_CFG_SIZE 15) 12 |>.put (F.HBR_IWIN_BASE_BASE 15) 5),
      by decide +kernel⟩,
   ⟨0x5FFC, 15, (live |>.put (F.HBR_IWIN_CFG_TGT 15) 3 |>.putB ⟨R.SYS_PWR_STAT, I.PSC, I.PSC⟩ false
      |>.putB (F.HBR_IWIN_CFG_EN 15) true |>.put (F.HBR_IWIN_CFG_SIZE 15) 12 |>.put (F.HBR_IWIN_BASE_BASE 15) 5
      |>.put (F.HBR_IWIN_CFG_TGT 15) 3), by decide +kernel⟩,
   ⟨16, (⟨16, 0, 3, none⟩), ((let s := live; { s with psc := { s.psc with reads := [(⟨16, 0, 3, none⟩)] } })), by decide +kernel⟩,
   ⟨4, (⟨4, 7, 0, some 3⟩), 3, 0, (oneFree), by decide +kernel, by decide +kernel, by decide +kernel, by decide +kernel,
      by decide +kernel, by decide +kernel,
      by
        rw [show ((List.range 16).filter fun k => !oneFree.psc.drb.any fun x => x.1 == k) = [0] by decide +kernel]
        simp [State.pickFree,
      Nat.mod_one]⟩,
   ⟨0, (live |>.putB ⟨R.SYS_PWR_STAT, I.PSC, I.PSC⟩ false), by decide +kernel⟩,
   ⟨0x5FFC, 15, 3, ((numbered live 2 3) |>.put (F.HBR_IWIN_CFG_TGT 15) 3 |>.putB (F.HBR_IWIN_CFG_EN 15) true
      |>.put (F.HBR_IWIN_CFG_SIZE 15) 12 |>.put (F.HBR_IWIN_BASE_BASE 15) 5 |>.putB (F.PSC_WIN_CFG_EN 0) true
      |>.put (F.PSC_WIN_CFG_DVAL 0) 3), by decide +kernel⟩⟩

theorem test_witness_PeriscopeFrames :
    (∃ (f : NFrame) (tab : Nat) (s : State), s.isOn I.PSC = true ∧ f.cls = 3 ∧ f.flow = 1 ∧ nfMalformed f = false ∧
      s.acceptTable f = some tab ∧ s.addressed tab f = true ∧ payNum f 0 1 / 32 < 4 ∧ s.psc.queue.length < 128) ∧
    (∃ (f : NFrame) (tab : Nat) (s : State), s.isOn I.PSC = true ∧ f.cls = 3 ∧ f.flow = 1 ∧ nfMalformed f = false ∧
      s.acceptTable f = some tab ∧ s.addressed tab f = true ∧ payNum f 0 1 / 32 < 4 ∧ 128 ≤ s.psc.queue.length) ∧
    (∃ (f : NFrame) (row : Instr) (s : State), row ∈ [Instr.periscopeRequestRx f, .periscopeResponseRx f, .pwfail f] ∧
      (s.isOn I.PSC = false ∨ nfMalformed f = true ∨ f.cls ≠ 3 ∨ s.acceptTable f = none)) ∧
    (∃ (f : NFrame) (tab : Nat) (r : PscReq) (s : State), s.isOn I.PSC = true ∧ f.cls = 3 ∧ f.flow = 2 ∧
      nfMalformed f = false ∧ s.acceptTable f = some tab ∧ s.addressed tab f = true ∧ payNum f 0 1 / 32 = 6 ∧
      (s.psc.reqs.find? fun x => x.tag == payNum f 1 1 % 128 && x.serial == s.identSerial tab f.src && x.type + 4 == 6) = some r ∧
      s.get F.PSC_FENCE_STAT_STATE = 1) ∧
    (∃ (f : NFrame) (tab : Nat) (s : State), s.isOn I.PSC = true ∧ f.cls = 3 ∧ f.flow = 2 ∧ nfMalformed f = false ∧
      s.acceptTable f = some tab ∧ s.addressed tab f = true ∧ payNum f 0 1 / 32 = 5 ∧
      (s.get F.PSC_PWLOG_PTR_PUT + 32 - s.get F.PSC_PWLOG_PTR_GET) % 32 ≠ 16) ∧
    (∃ (f : NFrame) (tab : Nat) (s : State), s.isOn I.PSC = true ∧ f.cls = 3 ∧ f.flow = 2 ∧ nfMalformed f = false ∧
      s.acceptTable f = some tab ∧ s.addressed tab f = true ∧ payNum f 0 1 / 32 = 5 ∧
      (s.get F.PSC_PWLOG_PTR_PUT + 32 - s.get F.PSC_PWLOG_PTR_GET) % 32 = 16) ∧
    (∃ (e : Nat) (x : Nat × DrEntry) (s : State), s.isOn I.PSC = true ∧ (s.psc.drb.find? fun y => y.1 == e) = some x) ∧
    (∃ (e : Nat) (s : State), (s.isOn I.PSC = false ∨ (s.psc.drb.find? fun y => y.1 == e) = none)) ∧
    (∃ (q : Requester) (v : Word) (s : State), s.carries q R.PSC_PWLOG_PTR = true ∧
      (s.get F.PSC_PWLOG_PTR_PUT + 32 - v.toNat / 65536 % 32) % 32 ≤ (s.get F.PSC_PWLOG_PTR_PUT + 32 - s.get F.PSC_PWLOG_PTR_GET) % 32) ∧
    (∃ (q : Requester) (v : Word) (s : State), s.carries q R.PSC_PWLOG_PTR = true ∧
      (s.get F.PSC_PWLOG_PTR_PUT + 32 - s.get F.PSC_PWLOG_PTR_GET) % 32 < (s.get F.PSC_PWLOG_PTR_PUT + 32 - v.toNat / 65536 % 32) % 32) ∧
    (∃ (q : Requester) (s : State), s.carries q R.PSC_FENCE = true ∧ s.get F.PSC_FENCE_STAT_STATE ≠ 1) ∧
    (∃ (q : Requester) (s : State), s.carries q R.PSC_FENCE = true ∧ s.get F.PSC_FENCE_STAT_STATE = 1) ∧
    (∃ (s : State), s.isOn I.PSC = true ∧ s.get F.PSC_FENCE_STAT_STATE = 1) ∧
    (∃ (s : State), (s.isOn I.PSC = false ∨ s.get F.PSC_FENCE_STAT_STATE ≠ 1)) ∧
    (∃ (s : State), (s.isOn I.PSC = false ∨ s.get F.PSC_CTRL_CFG_SIDE_PER = 0)) ∧
    (∃ (s : State), s.isOn I.PSC = true ∧ s.get F.PSC_CTRL_CFG_SIDE_PER ≠ 0) ∧
    (∃ (q : Requester) (n : Nat) (s : State), n < 32 ∧ s.carries q (R.PSC_CTRL_ACL_W1 n) = true ∧ s.owns q P.PSC_CTRL = true) ∧
    (∃ (q : Requester) (p : Nat) (v : Word) (s : State), p < 8 ∧ s.carries q (R.PSC_WIN_CFG p) = true ∧ v.getLsbD 31 = true ∧
      (∀ k,
      k < 16 → s.bit (F.HBR_IWIN_CFG_EN k) = true → s.get (F.HBR_IWIN_CFG_TGT k) = 3 → s.get (F.HBR_IWIN_CFG_PWIN k) = p → s.get (F.PSC_WIN_BASE_BASE p) * 4096 + s.iwinSize k ≤ 0x200000)) ∧
    (∃ (q : Requester) (p : Nat) (v : Word) (s : State) (k : Nat), p < 8 ∧ s.carries q (R.PSC_WIN_CFG p) = true ∧
      v.getLsbD 31 = true ∧ k < 16 ∧ s.bit (F.HBR_IWIN_CFG_EN k) = true ∧ s.get (F.HBR_IWIN_CFG_TGT k) = 3 ∧
      s.get (F.HBR_IWIN_CFG_PWIN k) = p ∧ s.isOn I.HBR = true ∧
      0x200000 < s.get (F.PSC_WIN_BASE_BASE p) * 4096 + s.iwinSize k) ∧
    (∃ (q : Requester) (p : Nat) (v : Word) (s : State), p < 8 ∧ s.carries q (R.PSC_WIN_CFG p) = true ∧ v.getLsbD 31 = false) ∧
    (∃ (f : NFrame) (serial : Nat) (rest : List (NFrame × Nat)) (s : State), s.isOn I.PSC = true ∧ s.psc.queue = (f,
      serial) :: rest ∧ ofBytes (bytesAt f.payload 0 1) / 32 = 0 ∧
      s.aclPerm serial (ofBytes (bytesAt f.payload 4 4) % 2 ^ 21 / 4 * 4 / 4096) = 0) ∧
    (∃ (f : NFrame) (serial : Nat) (rest : List (NFrame × Nat)) (s : State) (v : BitVec 32), s.isOn I.PSC = true ∧
      s.psc.queue = (f, serial) :: rest ∧ ofBytes (bytesAt f.payload 0 1) / 32 = 1 ∧
      ofBytes (bytesAt f.payload 4 4) % 2 ^ 21 / 4 * 4 = R.PG_SCRATCH (pageOf (ofBytes (bytesAt f.payload 4 4) % 2 ^ 21)) ∧
      2 ≤ s.aclPerm serial (ofBytes (bytesAt f.payload 4 4) % 2 ^ 21 / 4 * 4 / 4096) ∧
      s.carries .periscope (ofBytes (bytesAt f.payload 4 4) % 2 ^ 21 / 4 * 4) = true ∧
      ofBytes (bytesAt f.payload 8 4) = BitVec.toNat v) :=
  ⟨⟨(frm false 3 7 2 3 0 1 ([0, 0, 0, 15] ++ beBytes 4 0 ++ beBytes 4 0 ++ beBytes 4 0)), 0, ((numbered live 2 3)),
      by decide +kernel⟩,
   ⟨(frm false 3 7 2 3 0 1 ([32, 0, 0, 15] ++ beBytes 4 0 ++ beBytes 4 0 ++ beBytes 4 0)), 0,
      ((let s := ((numbered live 2 3)); { s with psc := { s.psc with queue := List.replicate 128 (frm false 3 7 2 3 0 1 [], 0) } })),
      by decide +kernel⟩,
   ⟨(frm false 1 7 2 3 0 1 []), (Instr.periscopeRequestRx (frm false 1 7 2 3 0 1 [])), (live |>.putB ⟨R.SYS_PWR_STAT, I.PSC,
      I.PSC⟩ false), by simp, by decide +kernel⟩,
   ⟨(frm false 3 7 2 3 0 2 ([192, 0, 0, 15] ++ beBytes 4 0 ++ beBytes 4 0 ++ beBytes 4 0)), 0, (⟨0, 2, 0, 0⟩),
      ((let s := ((numbered live 2 3)
      |>.put F.PSC_FENCE_STAT_STATE 1); { s with psc := { s.psc with reqs := [⟨0, 2, 0, 0⟩] } })), by decide +kernel⟩,
   ⟨(frm false 3 7 2 3 0 2 ([160, 0, 0, 15] ++ beBytes 4 0 ++ beBytes 4 0 ++ beBytes 4 0)), 0, ((numbered live 2 3)),
      by decide +kernel⟩,
   ⟨(frm false 3 7 2 3 0 2 ([160, 0, 0, 15] ++ beBytes 4 0 ++ beBytes 4 0 ++ beBytes 4 0)), 0, ((numbered live 2 3)
      |>.put F.PSC_PWLOG_PTR_PUT 16), by decide +kernel⟩,
   ⟨15, (15, ⟨7, 0, 3, none⟩), ((let s := live; { s with psc := { s.psc with drb := [(15, ⟨7, 0, 3, none⟩)] } })),
      by decide +kernel⟩,
   ⟨0, (live |>.putB ⟨R.SYS_PWR_STAT, I.PSC, I.PSC⟩ false), by decide +kernel⟩,
   ⟨Requester.host, 0, live, by decide +kernel⟩,
   ⟨Requester.host, 0x1F0000, live, by decide +kernel⟩,
   ⟨Requester.host, (live |>.put F.PSC_FENCE_STAT_STATE 0), by decide +kernel⟩,
   ⟨Requester.host, (live |>.put F.PSC_FENCE_STAT_STATE 1), by decide +kernel⟩,
   ⟨(live |>.put F.PSC_FENCE_STAT_STATE 1), by decide +kernel⟩,
   ⟨(live |>.putB ⟨R.SYS_PWR_STAT, I.PSC, I.PSC⟩ false), by decide +kernel⟩,
   ⟨(live |>.putB ⟨R.SYS_PWR_STAT, I.PSC, I.PSC⟩ false), by decide +kernel⟩,
   ⟨(live |>.put F.PSC_CTRL_CFG_SIDE_PER 1), by decide +kernel⟩,
   ⟨Requester.host, 31, ((unlock live Requester.host P.PSC_CTRL)), by decide +kernel⟩,
   ⟨Requester.host, 7, 0x80000000, live, by decide +kernel, by decide +kernel, by decide +kernel,
      by
        intro k hk he
        exact absurd he (by
          have h : ∀ m < 16,
      live.bit (F.HBR_IWIN_CFG_EN m) = false := by decide +kernel
          simp [h k hk])⟩,
   ⟨Requester.host, 7, 0x80000000, (live |>.putB (F.HBR_IWIN_CFG_EN 15) true |>.put (F.HBR_IWIN_CFG_TGT 15) 3
      |>.put (F.HBR_IWIN_CFG_PWIN 15) 7 |>.put (F.HBR_IWIN_CFG_SIZE 15) 22), 15, by decide +kernel⟩,
   ⟨Requester.host, 7, 0x0, live, by decide +kernel⟩,
   ⟨(frm false 1 7 2 3 0 1 []), 0, ([]),
      ((let s := live; { s with psc := { s.psc with queue := ((frm false 1 7 2 3 0 1 []), 0) :: ([]) } })), by decide +kernel⟩,
   ⟨(frm false 3 7 2 3 0 1 ([32, 0, 0, 15] ++ beBytes 4 (R.PG_SCRATCH P.REC_PORT) ++ beBytes 4 0xDEADBEEF)), 2, ([]),
      ((let s := ((let s := (ram (numbered live 1 2) (identAddr 0 2) ([0, 0, 0, 0, 0, 0, 0, 2] ++ beBytes 8 9 ++ [0, 2,
      2])); { s with psc := { s.psc with queue := ((frm false 3 7 2 3 0 1 ([32, 0, 0, 15] ++ beBytes 4 (R.PG_SCRATCH P.REC_PORT) ++ beBytes 4 0xDEADBEEF)), 2) :: ([]) } })); { s with psc := { s.psc with queue := [((frm false 3 7 2 3 0 1 ([32, 0, 0, 15] ++ beBytes 4 (R.PG_SCRATCH P.REC_PORT) ++ beBytes 4 0xDEADBEEF)), 2)], acl := [(31, 2 ^ 63 + 2 * 2 ^ 61 + 0x1FF)] } })),
      0xDEADBEEF, by decide +kernel⟩⟩

theorem test_witness_DuskAgreement :
    (∃ (v : Word) (s : State), s.carries .firmware R.SYS_WAKE_PROP = true ∧ v.getLsbD 31 = true ∧ v.getLsbD 30 = false ∧
      s.isCoord = false) ∧
    (∃ (v : Word) (s : State), s.carries .firmware R.SYS_WAKE_PROP = true ∧ v.getLsbD 31 = true ∧ v.getLsbD 30 = false ∧
      s.isCoord = true ∧ s.wakeState ≠ 0) ∧
    (∃ (v : Word) (s : State), s.carries .firmware R.SYS_WAKE_PROP = true ∧ v.getLsbD 31 = true ∧ v.getLsbD 30 = false ∧
      s.isCoord = true ∧ s.wakeState = 0 ∧
      ((s.get F.SYS_WAKE_PROP_N_N + 2 ^ 32 - s.cycle) % 2 ^ 32 < 64 ∨ 65535 < (s.get F.SYS_WAKE_PROP_N_N + 2 ^ 32 - s.cycle) % 2 ^ 32)) ∧
    (∃ (v : Word) (s : State), s.carries .firmware R.SYS_WAKE_PROP = true ∧ s.owns .firmware P.SYS_WAKE = true ∧
      v.getLsbD 31 = true ∧ v.getLsbD 30 = false ∧ s.isCoord = true ∧ s.wakeState = 0 ∧
      64 ≤ (s.get F.SYS_WAKE_PROP_N_N + 2 ^ 32 - s.cycle) % 2 ^ 32 ∧
      (s.get F.SYS_WAKE_PROP_N_N + 2 ^ 32 - s.cycle) % 2 ^ 32 ≤ 65535 ∧
      s.duskRange (F.SYS_WAKE_PROP_FIRST.of v) (F.SYS_WAKE_PROP_LAST.of v) = none) ∧
    (∃ (v : Word) (r : Nat × Nat) (s : State), s.carries .firmware R.SYS_WAKE_PROP = true ∧
      s.owns .firmware P.SYS_WAKE = true ∧ v.getLsbD 31 = true ∧ v.getLsbD 30 = false ∧ s.isCoord = true ∧ s.wakeState = 0 ∧
      64 ≤ (s.get F.SYS_WAKE_PROP_N_N + 2 ^ 32 - s.cycle) % 2 ^ 32 ∧
      (s.get F.SYS_WAKE_PROP_N_N + 2 ^ 32 - s.cycle) % 2 ^ 32 ≤ 65535 ∧
      s.duskRange (F.SYS_WAKE_PROP_FIRST.of v) (F.SYS_WAKE_PROP_LAST.of v) = some r ∧ s.wakeReasons ≠ 0) ∧
    (∃ (v : Word) (r : Nat × Nat) (s : State), s.carries .firmware R.SYS_WAKE_PROP = true ∧
      s.owns .firmware P.SYS_WAKE = true ∧ v.getLsbD 31 = true ∧ v.getLsbD 30 = false ∧ s.isCoord = true ∧ s.wakeState = 0 ∧
      64 ≤ (s.get F.SYS_WAKE_PROP_N_N + 2 ^ 32 - s.cycle) % 2 ^ 32 ∧
      (s.get F.SYS_WAKE_PROP_N_N + 2 ^ 32 - s.cycle) % 2 ^ 32 ≤ 65535 ∧
      s.duskRange (F.SYS_WAKE_PROP_FIRST.of v) (F.SYS_WAKE_PROP_LAST.of v) = some r ∧ s.wakeReasons = 0) ∧
    (∃ (v : Word) (s : State), s.carries .firmware R.SYS_WAKE_PROP = true ∧ v.getLsbD 31 = false ∧ v.getLsbD 30 = true ∧
      s.wakeState ≠ 0 ∧ s.isCoord = true ∧ s.beforeVeto = true) ∧
    (∃ (v : Word) (s : State), s.carries .firmware R.SYS_WAKE_PROP = true ∧ v.getLsbD 31 = false ∧
      (v.getLsbD 30 = false ∨ s.wakeState = 0 ∨ s.isCoord = false ∨ s.beforeVeto = false)) ∧
    (∃ (f : NFrame) (s : State), (s.sleepAccept 1 f = false ∨ s.wakeState ≠ 0 ∨ s.wake.cancelled = some (payNum f 0 4,
      payNum f 4 2) ∨ s.beforeCycle (payNum f 0 4) = false)) ∧
    (∃ (f : NFrame) (s : State), s.sleepAccept 1 f = true ∧ s.wakeState = 0 ∧ s.wake.cancelled ≠ some (payNum f 0 4,
      payNum f 4 2) ∧ s.beforeCycle (payNum f 0 4) = true ∧ s.wakeReasons = 0) ∧
    (∃ (f : NFrame) (s : State), s.sleepAccept 2 f = true ∧ s.wakeState ≠ 0 ∧ payNum f 0 2 = s.duskId ∧ s.isCoord = true ∧
      s.beforeVeto = true) ∧
    (∃ (f : NFrame) (s : State), s.sleepAccept 2 f = true ∧ s.wakeState ≠ 0 ∧ payNum f 0 2 = s.duskId ∧ s.isCoord = true ∧
      s.beforeVeto = false) ∧
    (∃ (f : NFrame) (s : State), (s.sleepAccept 2 f = false ∨ s.wakeState = 0 ∨ payNum f 0 2 ≠ s.duskId ∨ s.isCoord = false)) ∧
    (∃ (f : NFrame) (s : State), (s.sleepAccept 3 f = false ∨ s.wakeState = 0 ∨ payNum f 0 2 ≠ s.duskId)) ∧
    (∃ (f : NFrame) (s : State), s.sleepAccept 3 f = true ∧ s.wakeState ≠ 0 ∧ payNum f 0 2 = s.duskId) :=
  ⟨⟨0x80000000, live, by decide +kernel⟩,
   ⟨0x80000000, (live |>.put F.TOP_EPOCH_EPOCH 7 |>.put F.TOP_NODE_NODE 1 |>.putB F.TOP_NODE_VALID true |>.put F.TOP_NODE_VEH 1
      |>.put F.TWN_CTRL_ROLE_ROLE 1 |>.put F.SYS_WAKE_STAT_STATE 1), by decide +kernel⟩,
   ⟨0x80000000, (live |>.put F.TOP_EPOCH_EPOCH 7 |>.put F.TOP_NODE_NODE 1 |>.putB F.TOP_NODE_VALID true |>.put F.TOP_NODE_VEH 1
      |>.put F.TWN_CTRL_ROLE_ROLE 1 |>.put F.SYS_WAKE_STAT_STATE 0), by decide +kernel⟩,
   ⟨(F.SYS_WAKE_PROP_FIRST.ins (0x80000000 : Word) 3), ((unlock live .firmware P.SYS_WAKE) |>.put F.TOP_EPOCH_EPOCH 7
      |>.put F.TOP_NODE_NODE 1 |>.putB F.TOP_NODE_VALID true |>.put F.TOP_NODE_VEH 1 |>.put F.TWN_CTRL_ROLE_ROLE 1
      |>.put F.SYS_WAKE_STAT_STATE 0 |>.put F.SYS_WAKE_PROP_N_N 64), by decide +kernel⟩,
   ⟨0x80000000, (0, 0), ((unlock live .firmware P.SYS_WAKE) |>.put F.TOP_EPOCH_EPOCH 7 |>.put F.TOP_NODE_NODE 1
      |>.putB F.TOP_NODE_VALID true |>.put F.TOP_NODE_VEH 1 |>.put F.TWN_CTRL_ROLE_ROLE 1 |>.put F.SYS_WAKE_STAT_STATE 0
      |>.put F.SYS_WAKE_PROP_N_N 64), by decide +kernel⟩,
   ⟨0x80000000, (0, 0), ((unlock (dusk live) .firmware P.SYS_WAKE) |>.put F.TOP_EPOCH_EPOCH 7 |>.put F.TOP_NODE_NODE 1
      |>.putB F.TOP_NODE_VALID true |>.put F.TOP_NODE_VEH 1 |>.put F.TWN_CTRL_ROLE_ROLE 1 |>.put F.SYS_WAKE_STAT_STATE 0
      |>.put F.SYS_WAKE_STAT_STATE 0 |>.put F.SYS_WAKE_PROP_N_N 64), by decide +kernel⟩,
   ⟨0x40000000, ((dusk live) |>.put F.SYS_WAKE_STAT_STATE 1 |>.put F.TOP_EPOCH_EPOCH 7 |>.put F.TOP_NODE_NODE 1
      |>.putB F.TOP_NODE_VALID true |>.put F.TOP_NODE_VEH 1 |>.put F.TWN_CTRL_ROLE_ROLE 1), by decide +kernel⟩,
   ⟨0x0, live, by decide +kernel⟩,
   ⟨(frm false 1 7 2 3 0 1 []), live, by decide +kernel⟩,
   ⟨(sleepF 1 (beBytes 4 1000 ++ [0, 3])), ((dusk live) |>.put F.SYS_WAKE_STAT_STATE 0 |>.put F.SYS_WAKE_STAT_STATE 0),
      by decide +kernel⟩,
   ⟨(sleepF 2 [0, 3]), ((dusk live) |>.put F.SYS_WAKE_STAT_STATE 1 |>.put F.TOP_EPOCH_EPOCH 7 |>.put F.TOP_NODE_NODE 1
      |>.putB F.TOP_NODE_VALID true |>.put F.TOP_NODE_VEH 1 |>.put F.TWN_CTRL_ROLE_ROLE 1), by decide +kernel⟩,
   ⟨(frm false 6 7 2 3 0 2 (beBytes 2 3 ++ List.replicate 20 0)), ((dusk live) |>.put F.SYS_WAKE_STAT_STATE 1
      |>.put F.TOP_EPOCH_EPOCH 7 |>.put F.TOP_NODE_NODE 1 |>.putB F.TOP_NODE_VALID true |>.put F.TOP_NODE_VEH 1
      |>.put F.TWN_CTRL_ROLE_ROLE 1 |>.put F.SYS_WAKE_DUSK_N_N 10), by decide +kernel⟩,
   ⟨(frm false 1 7 2 3 0 1 []), live, by decide +kernel⟩,
   ⟨(frm false 1 7 2 3 0 1 []), live, by decide +kernel⟩,
   ⟨(sleepF 3 [0, 3]), ((dusk live) |>.put F.SYS_WAKE_STAT_STATE 1), by decide +kernel⟩⟩

theorem test_witness_WakeRequests :
    (∃ (q : Requester) (v : Word) (s : State), s.carries q R.SYS_WAKE_CMD = true ∧ v.getLsbD 0 = false ∧ v.getLsbD 1 = true ∧
      v.getLsbD 4 = false ∧ s.wakeState = 1 ∧ s.beforeVeto = true ∧ s.wake.veto = none ∧ s.isCoord = false) ∧
    (∃ (q : Requester) (v : Word) (s : State), s.carries q R.SYS_WAKE_CMD = true ∧ v.getLsbD 0 = false ∧ v.getLsbD 1 = true ∧
      v.getLsbD 4 = false ∧ s.wakeState = 1 ∧ s.beforeVeto = true ∧ s.wake.veto = none ∧ s.isCoord = true) ∧
    (∃ (q : Requester) (v : Word) (s : State), s.carries q R.SYS_WAKE_CMD = true ∧ v.getLsbD 0 = false ∧ v.getLsbD 1 = true ∧
      v.getLsbD 4 = false ∧ s.wakeState = 1 ∧ s.beforeVeto = false ∧ s.wake.late = none) ∧
    (∃ (q : Requester) (s : State), s.carries q R.SYS_WAKE_CMD = true) ∧
    (∃ (q : Requester) (v : Word) (s : State), s.carries q R.SYS_WAKE_CMD = true ∧ v.getLsbD 0 = true ∧ s.isOn I.MGT = true ∧
      s.isCoord = true) ∧
    (∃ (q : Requester) (s : State), s.carries q R.SYS_WAKE_CMD = true ∧ (s.isOn I.MGT = false ∨ s.isCoord = false)) ∧
    (∃ (f : NFrame) (s : State), s.sleepAccept 4 f = true ∧ s.isOn I.MGT = true ∧ s.isCoord = true) ∧
    (∃ (f : NFrame) (s : State), (s.sleepAccept 4 f = false ∨ s.isOn I.MGT = false ∨ s.isCoord = false)) ∧
    (∃ (s : State), s.bit F.SYS_WAKE_STAT_KA_OK = true ∧ s.wakeState = 1 ∧ s.beforeVeto = true ∧ s.wake.veto = none ∧
      s.isCoord = false) ∧
    (∃ (s : State), s.bit F.SYS_WAKE_STAT_KA_OK = false) :=
  ⟨⟨Requester.host, 0x2, ((let s := live; { s with wake := { s.wake with veto := none } }) |>.put F.SYS_WAKE_STAT_STATE 1
      |>.put F.SYS_WAKE_DUSK_N_N 1000), by decide +kernel⟩,
   ⟨Requester.host, 0x2, ((let s := (dusk live); { s with wake := { s.wake with veto := none } }) |>.put F.SYS_WAKE_STAT_STATE 1
      |>.put F.TOP_EPOCH_EPOCH 7 |>.put F.TOP_NODE_NODE 1 |>.putB F.TOP_NODE_VALID true |>.put F.TOP_NODE_VEH 1
      |>.put F.TWN_CTRL_ROLE_ROLE 1), by decide +kernel⟩,
   ⟨Requester.host, 0x2, ((let s := live; { s with wake := { s.wake with late := none } }) |>.put F.SYS_WAKE_STAT_STATE 1),
      by decide +kernel⟩,
   ⟨Requester.host, live, by decide +kernel⟩,
   ⟨Requester.host, 0x1, (live |>.put F.TOP_EPOCH_EPOCH 7 |>.put F.TOP_NODE_NODE 1 |>.putB F.TOP_NODE_VALID true
      |>.put F.TOP_NODE_VEH 1 |>.put F.TWN_CTRL_ROLE_ROLE 1), by decide +kernel⟩,
   ⟨Requester.host, (live |>.putB ⟨R.SYS_PWR_STAT, I.MGT, I.MGT⟩ false), by decide +kernel⟩,
   ⟨(sleepF 4 [0, 3]), ((dusk live) |>.put F.TOP_EPOCH_EPOCH 7 |>.put F.TOP_NODE_NODE 1 |>.putB F.TOP_NODE_VALID true
      |>.put F.TOP_NODE_VEH 1 |>.put F.TWN_CTRL_ROLE_ROLE 1), by decide +kernel⟩,
   ⟨(frm false 1 7 2 3 0 1 []), live, by decide +kernel⟩,
   ⟨((let s := (dusk live); { s with wake := { s.wake with veto := none } }) |>.putB F.SYS_WAKE_STAT_KA_OK true
      |>.put F.SYS_WAKE_STAT_STATE 1 |>.put F.TWN_CTRL_ROLE_ROLE 0), by decide +kernel⟩,
   ⟨(live |>.putB F.SYS_WAKE_STAT_KA_OK false), by decide +kernel⟩⟩

theorem test_witness_DawnAndSegments :
    (∃ (o : Nat) (s : State), s.wake.dawnDue = some o ∧ (s.lineNormal .a || s.lineNormal .b) = true) ∧
    (∃ (s : State), (s.wake.dawnDue = none ∨ (s.lineNormal .a || s.lineNormal .b) = false)) ∧
    (∃ (q : Requester) (v : Word) (s : State), s.carries q R.SYS_WAKE_CMD = true ∧ v.getLsbD 4 = true) ∧
    (∃ (f : NFrame) (s : State), s.sleepAccept 5 f = true ∧ (∀ e ∈ s.wake.seen,
      e.1 = s.identSerial ((s.acceptTable f).getD 0) f.src → e.2.1 = payNum f 4 4 → e.2.2 + 100000000 ≤ s.mono)) ∧
    (∃ (f : NFrame) (s : State), (s.sleepAccept 5 f = false ∨ ∃ e ∈ s.wake.seen,
      e.1 = s.identSerial ((s.acceptTable f).getD 0) f.src ∧ e.2.1 = payNum f 4 4 ∧ s.mono < e.2.2 + 100000000)) ∧
    (∃ (s : State), s.asleep = true) ∧
    (∃ (s : State), s.asleep = false) ∧
    (∃ (q : Requester) (s : State), s.carries q R.SYS_WAKE_SEG = true) ∧
    (∃ (i : Nat) (level : Bool) (row : Instr) (s : State), row ∈ [Instr.filteredEdge i level, .edge i, .stuck i,
      .stuckRelease i, .chat i, .chatHoldEnd i] ∧ s.dinRuns = false) ∧
    (∃ (i : Nat) (s : State), i < 4 ∧ s.dinRuns = true) ∧
    (∃ (i : Nat) (s : State), i < 4 ∧ s.dinRuns = true ∧ s.bit (F.SYS_DIN_STAT_STUCK i) = false ∧
      s.bit (F.SYS_DIN_STAT_CHAT i) = false) ∧
    (∃ (i : Nat) (s : State), i < 4 ∧ s.dinRuns = true ∧ s.get (F.SYS_DIN_CFG_STUCK i) ≠ 0 ∧
      s.bit (F.SYS_DIN_STAT_COND i) = true) ∧
    (∃ (i : Nat) (s : State), i < 4 ∧ (s.get (F.SYS_DIN_CFG_STUCK i) = 0 ∨ s.bit (F.SYS_DIN_STAT_COND i) = false)) ∧
    (∃ (i : Nat) (s : State), i < 4 ∧ (s.bit (F.SYS_DIN_STAT_STUCK i) = false ∨ (s.dinIn i).filt = true)) ∧
    (∃ (i : Nat) (s : State), i < 4 ∧ s.dinRuns = true ∧ s.bit (F.SYS_DIN_STAT_STUCK i) = true ∧ (s.dinIn i).filt = false) ∧
    (∃ (i : Nat) (s : State), i < 4 ∧ s.dinRuns = true ∧ s.get (F.SYS_DIN_CFG_CHAT_N i) ≠ 0 ∧
      s.bit (F.SYS_DIN_STAT_CHAT i) = false ∧ s.get (F.SYS_DIN_CFG_CHAT_N i) < (s.dinIn i).edges ∧
      s.mono < (s.dinIn i).since + s.chatWin i) ∧
    (∃ (i : Nat) (s : State), i < 4 ∧
      (s.get (F.SYS_DIN_CFG_CHAT_N i) = 0 ∨ s.bit (F.SYS_DIN_STAT_CHAT i) = true ∨ (s.dinIn i).edges ≤ s.get (F.SYS_DIN_CFG_CHAT_N i) ∨ (s.dinIn i).since + s.chatWin i ≤ s.mono)) ∧
    (∃ (i : Nat) (s : State), i < 4 ∧ s.bit (F.SYS_DIN_STAT_CHAT i) = false) ∧
    (∃ (i : Nat) (s : State), i < 4 ∧ s.dinRuns = true ∧ s.bit (F.SYS_DIN_STAT_CHAT i) = true ∧
      s.bit (F.SYS_DIN_STAT_STUCK i) = false) ∧
    (∃ (q : Requester) (i : Nat) (s : State), i < 4 ∧ s.carries q (R.SYS_DIN_CFG i) = true ∧ s.owns q P.SYS_DIN = true) :=
  ⟨⟨0, ((let s := live; { s with wake := { s.wake with dawnDue := some 0 } }) |>.put (F.BL_LINE_STAT_STATE Line.a) 2),
      by decide +kernel⟩,
   ⟨((let s := live; { s with wake := { s.wake with dawnDue := none } })), by decide +kernel⟩,
   ⟨Requester.host, 0x10, live, by decide +kernel⟩,
   ⟨(sleepF 5 (beBytes 4 0 ++ beBytes 4 1)), ((numbered live 1 2)), by decide +kernel⟩,
   ⟨(frm false 1 7 2 3 0 1 []), live, by decide +kernel⟩,
   ⟨((let s := live; { s with wake := { s.wake with power := .nightfall } })), by decide +kernel⟩,
   ⟨live, by decide +kernel⟩,
   ⟨Requester.host, live, by decide +kernel⟩,
   ⟨0, false, (Instr.filteredEdge 0 false), ((let s := live; { s with wake := { s.wake with power := .dark } })), by simp,
      by decide +kernel⟩,
   ⟨3, live, by decide +kernel⟩,
   ⟨3, (live |>.putB (F.SYS_DIN_STAT_STUCK 3) false |>.putB (F.SYS_DIN_STAT_CHAT 3) false), by decide +kernel⟩,
   ⟨3, (live |>.put (F.SYS_DIN_CFG_STUCK 3) 1 |>.putB (F.SYS_DIN_STAT_COND 3) true), by decide +kernel⟩,
   ⟨3, (live |>.put (F.SYS_DIN_CFG_STUCK 3) 0), by decide +kernel⟩,
   ⟨3, (live |>.putB (F.SYS_DIN_STAT_STUCK 3) false), by decide +kernel⟩,
   ⟨3, (live |>.putB (F.SYS_DIN_STAT_STUCK 3) true), by decide +kernel⟩,
   ⟨3, (live |>.put (F.SYS_DIN_CFG_CHAT_N 3) 1 |>.putB (F.SYS_DIN_STAT_CHAT 3) false
      |>.setDin 3 { DinInput.reset with edges := 2 } |>.put (F.SYS_DIN_CFG_CHAT_N 3) 1), by decide +kernel⟩,
   ⟨3, (live |>.put (F.SYS_DIN_CFG_CHAT_N 3) 0), by decide +kernel⟩,
   ⟨3, (live |>.putB (F.SYS_DIN_STAT_CHAT 3) false), by decide +kernel⟩,
   ⟨3, (live |>.putB (F.SYS_DIN_STAT_CHAT 3) true |>.putB (F.SYS_DIN_STAT_STUCK 3) false), by decide +kernel⟩,
   ⟨Requester.host, 3, ((unlock live Requester.host P.SYS_DIN)), by decide +kernel⟩⟩

theorem test_witness_ClockSources :
    (∃ (s : State), s.pwr.sysOn = true ∧ s.srcGood 1 = false ∧ s.bit F.SYS_CLK_STAT_XO_FAIL = false) ∧
    (∃ (s : State), (s.pwr.sysOn = false ∨ s.srcGood 1 = true ∨ s.bit F.SYS_CLK_STAT_XO_FAIL = true)) ∧
    (∃ (s : State), s.pwr.sysOn = true ∧ s.srcGood 1 = false) ∧
    (∃ (s : State), (s.pwr.sysOn = false ∨ s.srcGood 1 = true)) ∧
    (∃ (c : Nat) (s : State), s.pwr.sysOn = true ∧ s.srcGood c = true ∧ s.released c = true) ∧
    (∃ (c : Nat) (s : State), (s.pwr.sysOn = false ∨ s.srcGood c = false)) ∧
    (∃ (s : State), s.srcGood 3 = true ∧ s.bit F.SYS_CLK_STAT_LINE_HOLD = false) ∧
    (∃ (s : State), (s.srcGood 3 = false ∨ s.bit F.SYS_CLK_STAT_LINE_HOLD = true)) ∧
    (∃ (ref : Nat) (s : State), s.pwr.sysOn = true ∧ ref ≠ s.get F.SYS_CLK_STAT_LINE_REF ∧ s.wantedRef = some ref) ∧
    (∃ (ref : Nat) (s : State), (s.pwr.sysOn = false ∨ ref = s.get F.SYS_CLK_STAT_LINE_REF ∨ s.wantedRef ≠ some ref)) ∧
    (∃ (s : State), (s.pwr.sysOn = false ∨ s.srcGood 1 = false)) ∧
    (∃ (ofs : Int) (s : State), s.pwr.sysOn = true ∧ s.srcGood 1 = true ∧ 100000 < ofs.natAbs ∧ s.srcGood 3 = true ∧
      s.bit F.SYS_CLK_STAT_LINE_HOLD = false) ∧
    (∃ (ofs : Int) (s : State), s.pwr.sysOn = true ∧ s.srcGood 1 = true ∧ -100000 ≤ ofs ∧ ofs ≤ 100000) ∧
    (∃ (c : Nat) (s : State), s.pwr.sysOn = true ∧ c ≤ 5 ∧ c ≠ 1 ∧ c ≠ 3) ∧
    (∃ (q : Requester) (s : State), s.carries q R.SYS_SRC_RELEASE = true ∧ s.owns q P.SYS_CLK = true) ∧
    (∃ (c : Nat) (s : State), c < 6 ∧ s.pwr.sysOn = true ∧ s.srcGood c = true ∧ s.released c = false ∧ s.monitored c = false) ∧
    (∃ (c : Nat) (s : State), s.wake.power = .awake ∧ s.pwr.sysOn = true ∧ s.resetRuns = true ∧ s.srcGood c = true ∧
      s.released c = false ∧ s.monitored c = true) ∧
    (∃ (c : Nat) (s : State), s.wake.power = .awake ∧ s.pwr.sysOn = true ∧ s.resetRuns = false ∧ s.srcGood c = true ∧
      s.released c = false ∧ s.monitored c = true) :=
  ⟨⟨((let s := live; { s with pwr := { s.pwr with sysOn := true } }) |>.putB F.SYS_CLK_STAT_XO_FAIL false), by decide +kernel⟩,
   ⟨((let s := live; { s with pwr := { s.pwr with sysOn := false } })), by decide +kernel⟩,
   ⟨((let s := live; { s with pwr := { s.pwr with sysOn := true } })), by decide +kernel⟩,
   ⟨((let s := live; { s with pwr := { s.pwr with sysOn := false } })), by decide +kernel⟩,
   ⟨5, ((let s := live; { s with pwr := { s.pwr with sysOn := true } }) |>.putB ⟨R.SYS_CLK_STAT, 5, 5⟩ true
      |>.putB ⟨R.SYS_CLK_STAT, 5, 5⟩ true |>.putB ⟨R.SYS_SRC_RELEASE, 5, 5⟩ true), by decide +kernel⟩,
   ⟨0, ((let s := live; { s with pwr := { s.pwr with sysOn := false } })), by decide +kernel⟩,
   ⟨(live |>.putB ⟨R.SYS_CLK_STAT, 3, 3⟩ true |>.putB F.SYS_CLK_STAT_LINE_HOLD false |>.putB ⟨R.SYS_CLK_STAT, 3, 3⟩ true),
      by decide +kernel⟩,
   ⟨live, by decide +kernel⟩,
   ⟨0, ((let s := live; { s with pwr := { s.pwr with sysOn := true } }) |>.put F.SYS_CLK_STAT_LINE_REF 3), by decide +kernel⟩,
   ⟨0, ((let s := live; { s with pwr := { s.pwr with sysOn := false } })), by decide +kernel⟩,
   ⟨((let s := live; { s with pwr := { s.pwr with sysOn := false } })), by decide +kernel⟩,
   ⟨100001, ((let s := live; { s with pwr := { s.pwr with sysOn := true } }) |>.putB ⟨R.SYS_CLK_STAT, 1, 1⟩ true
      |>.putB ⟨R.SYS_CLK_STAT, 3, 3⟩ true |>.putB F.SYS_CLK_STAT_LINE_HOLD false |>.putB F.SYS_CLK_STAT_LINE_HOLD false),
      by decide +kernel⟩,
   ⟨100000, ((let s := live; { s with pwr := { s.pwr with sysOn := true } }) |>.putB ⟨R.SYS_CLK_STAT, 1, 1⟩ true
      |>.putB ⟨R.SYS_CLK_STAT, 1, 1⟩ true), by decide +kernel⟩,
   ⟨5, ((let s := live; { s with pwr := { s.pwr with sysOn := true } })), by decide +kernel⟩,
   ⟨Requester.host, ((unlock live Requester.host P.SYS_CLK)), by decide +kernel⟩,
   ⟨0, ((let s := live; { s with pwr := { s.pwr with sysOn := true } }) |>.putB ⟨R.SYS_CLK_STAT, 0, 0⟩ true), by decide +kernel⟩,
   ⟨4,
      ((let s := (let s := (let s := live; { s with wake := { s.wake with power := .awake } }); { s with pwr := { s.pwr with sysOn := true } }); { s with pwr := { s.pwr with starting := true } })
      |>.putB ⟨R.SYS_CLK_STAT, 4, 4⟩ true), by decide +kernel⟩,
   ⟨5,
      ((let s := (let s := live; { s with wake := { s.wake with power := .awake } }); { s with pwr := { s.pwr with sysOn := true } })
      |>.putB ⟨R.SYS_CLK_STAT, 5, 5⟩ true |>.putB ⟨R.SYS_CLK_STAT, 5, 5⟩ true |>.putB ⟨R.SYS_SRC_RELEASE, 5, 5⟩ false),
      by decide +kernel⟩⟩

theorem test_witness_ClockSwitches :
    (∃ (q : Requester) (n : Nat) (s : State), n < 17 ∧ s.carries q (R.SYS_CLK_ISL n) = true ∧ s.owns q P.SYS_CLK = true) ∧
    (∃ (n : Nat) (c : Nat) (s : State), n < 17 ∧ c ≤ 5 ∧ s.switchTarget n = some c ∧ s.srcGood c = true) ∧
    (∃ (n : Nat) (c : Nat) (s : State), n < 17 ∧ c ≤ 5 ∧ c ≠ 0 ∧ s.switchTarget n = some c ∧ s.srcGood c = false) ∧
    (∃ (n : Nat) (s : State), s.switchTarget n = none) ∧
    (∃ (n : Nat) (c : Nat) (s : State), n < 17 ∧ c ≤ 5 ∧ s.switchTarget n = some c ∧ s.pwr.sysOn = true ∧
      s.released (s.curSrc n) = true ∧ s.srcGood (s.curSrc n) = true ∧ s.curSrc n ≤ 5) ∧
    (∃ (count : Nat) (s : State), (s.pwr.sysOn = false ∨ count = 0)) ∧
    (∃ (n : Nat) (count : Nat) (s : State), n < 17 ∧ s.pwr.sysOn = true ∧ 0 < count) :=
  ⟨⟨Requester.host, 16, ((unlock live Requester.host P.SYS_CLK)), by decide +kernel⟩,
   ⟨16, 5, ((let s := (live |>.putB ⟨R.SYS_CLK_STAT, 5, 5⟩ true); { s with pwr := { s.pwr with swTo := [(16, 5)] } })
      |>.putB ⟨R.SYS_CLK_STAT, 5, 5⟩ true), by decide +kernel⟩,
   ⟨16, 3, ((let s := live; { s with pwr := { s.pwr with swTo := [(16, 3)] } })), by decide +kernel⟩,
   ⟨0, live, by decide +kernel⟩,
   ⟨16, 5,
      ((let s := ((let s := live; { s with pwr := { s.pwr with sysOn := true } })); { s with pwr := { s.pwr with swTo := [(16, 5)] } })
      |>.put (F.SYS_CLK_ISL_CUR 16) 4 |>.putB ⟨R.SYS_CLK_STAT, 4, 4⟩ true |>.putB ⟨R.SYS_SRC_RELEASE, 4, 4⟩ true),
      by decide +kernel⟩,
   ⟨0, ((let s := live; { s with pwr := { s.pwr with sysOn := false } })), by decide +kernel⟩,
   ⟨16, 1, ((let s := live; { s with pwr := { s.pwr with sysOn := true } })), by decide +kernel⟩⟩

theorem test_witness_OperatingPoints :
    (∃ (q : Requester) (f : Nat) (v : Word) (s : State), f < 3 ∧ s.carries q (R.SYS_PWR_DVFS f) = true ∧
      s.owns q P.SYS_PWR = true ∧ v.getLsbD 31 = true) ∧
    (∃ (f : Nat) (s : State), f < 3 ∧ s.bit (F.SYS_PWR_DVFSSTAT_BUSY f) = true ∧ (s.dvfs f).fPend = true ∧
      (s.dvfs f).fsel < 4 ∧ s.bit (F.SYS_CLK_ISL_SWITCHING (dvfsIsland f)) = false ∧ s.curSrc (dvfsIsland f) ≠ 0) ∧
    (∃ (f : Nat) (s : State), f < 3 ∧
      (s.bit (F.SYS_PWR_DVFSSTAT_BUSY f) = false ∨ (s.dvfs f).fPend = false ∨ s.bit (F.SYS_CLK_ISL_SWITCHING (dvfsIsland f)) = true ∨ s.curSrc (dvfsIsland f) = 0)) ∧
    (∃ (f : Nat) (s : State), f < 3 ∧ (s.bit (F.SYS_PWR_DVFSSTAT_BUSY f) = false ∨ (s.dvfs f).fPend = true ∧
      s.curSrc (dvfsIsland f) ≠ 0)) ∧
    (∃ (f : Nat) (s : State), f < 3 ∧ s.bit (F.SYS_PWR_DVFSSTAT_BUSY f) = true ∧
      ((s.dvfs f).fPend = false ∨ s.curSrc (dvfsIsland f) = 0)) :=
  ⟨⟨Requester.host, 2, 0x80000000, ((unlock live Requester.host P.SYS_PWR)), by decide +kernel⟩,
   ⟨2, (live |>.putB (F.SYS_PWR_DVFSSTAT_BUSY 2) true |>.putB (F.SYS_CLK_ISL_SWITCHING (dvfsIsland 2)) false |>.setDvfs 2 ⟨3,
      200, true⟩ |>.put (F.SYS_CLK_ISL_CUR (dvfsIsland 2)) 2), by decide +kernel⟩,
   ⟨2, (live |>.putB (F.SYS_PWR_DVFSSTAT_BUSY 2) false), by decide +kernel⟩,
   ⟨2, (live |>.putB (F.SYS_PWR_DVFSSTAT_BUSY 2) false), by decide +kernel⟩,
   ⟨2, (live |>.putB (F.SYS_PWR_DVFSSTAT_BUSY 2) true), by decide +kernel⟩⟩

theorem test_witness_PowerRequests :
    (∃ (q : Requester) (v : Word) (s : State), s.carries q R.SYS_PWR_CMD = true ∧ s.owns q P.SYS_PWR = true ∧
      (v.toNat / 2 ^ 30 = 1 ∨ v.toNat / 2 ^ 30 = 2)) ∧
    (∃ (q : Requester) (n : Nat) (v : Word) (s : State), 1 ≤ n ∧ n ≤ 16 ∧ s.carries q R.SYS_PWR_CMD = true ∧
      s.owns q P.SYS_PWR = true ∧ v.toNat = 2 ^ 30 + n ∧ s.seqPhase n = 0 ∧ s.wake.power ≠ .nightfall) ∧
    (∃ (q : Requester) (n : Nat) (v : Word) (s : State), 1 ≤ n ∧ n ≤ 16 ∧ s.carries q R.SYS_PWR_CMD = true ∧
      s.owns q P.SYS_PWR = true ∧ v.toNat = 2 ^ 31 + n ∧ s.seqPhase n = 2 ∧ s.bistActive n = false ∧
      s.wake.power ≠ .nightfall) ∧
    (∃ (q : Requester) (off : Nat) (v : Word) (s : State), off ≠ R.SYS_PWR_CMD ∧ islandOf off ≠ 0 ∧
      s.carries q (R.PG_CTRL (pageOf off)) = true ∧ s.owns q (pageOf off) = true ∧ v.getLsbD 3 = true ∧ v.getLsbD 1 = false) :=
  ⟨⟨Requester.host, 0x80000000, ((unlock live Requester.host P.SYS_PWR)), by decide +kernel⟩,
   ⟨Requester.host, 16, 0x40000010, ((unlock live Requester.host P.SYS_PWR) |>.put (F.SYS_PWR_SEQ_PHASE 16) 0),
      by decide +kernel⟩,
   ⟨Requester.host, 16, 0x80000010, ((unlock live Requester.host P.SYS_PWR) |>.put (F.SYS_PWR_SEQ_PHASE 16) 2 |>.setSeq 16 2 0),
      by decide +kernel⟩,
   ⟨Requester.host, (R.PG_CTRL P.TOP_SLOT), 0x8, ((unlock live Requester.host (pageOf (R.PG_CTRL P.TOP_SLOT)))),
      by decide +kernel⟩⟩

theorem test_witness_PowerSequences :
    (∃ (n : Nat) (s : State), 1 ≤ n ∧ n ≤ 16 ∧ s.pwr.downQ.head? = some n ∧ s.seqPhase n ≠ 3 ∧
      (n = I.CBL ∨ n = I.CBH ∨ s.linesShut = true)) ∧
    (∃ (n : Nat) (k : Nat) (s : State), 1 ≤ n ∧ n ≤ 16 ∧ 2 ≤ k ∧ k ≤ 6 ∧ s.seqPhase n = 3 ∧ s.seqStep n + 1 = k ∧
      s.pwr.reverse.contains n = false) ∧
    (∃ (n : Nat) (k : Nat) (s : State), 1 ≤ n ∧ n ≤ 16 ∧ 2 ≤ k ∧ k ≤ 5 ∧ s.seqPhase n = 3 ∧ s.seqStep n + 1 = k ∧
      s.pwr.reverse.contains n = true) ∧
    (∃ (n : Nat) (s : State), 1 ≤ n ∧ n ≤ 16 ∧ s.seqPhase n = 3 ∧ s.seqStep n = 5 ∧ s.pwr.reverse.contains n = true) ∧
    (∃ (n : Nat) (k : Nat) (s : State), k ≠ 1 ∧ (s.seqPhase n ≠ 3 ∨ s.seqStep n + 1 ≠ k ∨ 6 < k)) ∧
    (∃ (n : Nat) (s : State), (s.seqPhase n ≠ 3 ∨ s.seqStep n ≠ 6)) ∧
    (∃ (n : Nat) (s : State), 1 ≤ n ∧ n ≤ 16 ∧ s.seqPhase n = 3 ∧ s.seqStep n = 6 ∧ s.pwr.reverse.contains n = true) ∧
    (∃ (n : Nat) (s : State), 1 ≤ n ∧ n ≤ 16 ∧ s.seqPhase n = 3 ∧ s.seqStep n = 6 ∧ s.pwr.reverse.contains n = false ∧
      s.pwr.upPairs = []) ∧
    (∃ (n : Nat) (s : State), 1 ≤ n ∧ n ≤ 16 ∧ s.pwr.waitQ.head? = some n ∧ s.inU1 < 2) ∧
    (∃ (n : Nat) (k : Nat) (s : State), 1 ≤ n ∧ n ≤ 16 ∧ 2 ≤ k ∧ k ≤ 7 ∧ s.seqPhase n = 1 ∧ s.seqStep n + 1 = k ∧
      s.pwr.reverse.contains n = false) ∧
    (∃ (n : Nat) (k : Nat) (s : State), 1 ≤ n ∧ n ≤ 16 ∧ 2 ≤ k ∧ k ≤ 7 ∧ s.seqPhase n = 1 ∧ s.seqStep n + 1 = k ∧
      s.pwr.reverse.contains n = true) ∧
    (∃ (n : Nat) (k : Nat) (s : State), k ≠ 1 ∧ (s.seqPhase n ≠ 1 ∨ s.seqStep n + 1 ≠ k ∨ 7 < k)) ∧
    (∃ (n : Nat) (s : State), (s.seqPhase n ≠ 1 ∨ s.seqStep n ≠ 7)) ∧
    (∃ (n : Nat) (s : State), 1 ≤ n ∧ n ≤ 16 ∧ s.seqPhase n = 1 ∧ s.seqStep n = 7 ∧ s.pwr.reverse.contains n = false ∧
      s.pwr.upPairs = []) :=
  ⟨⟨16, ((let s := live; { s with pwr := { s.pwr with downQ := [16] } })), by decide +kernel⟩,
   ⟨16, 6, (live |>.put (F.SYS_PWR_SEQ_PHASE 16) 3 |>.put (F.SYS_PWR_SEQ_STEP 16) (6 - 1) |>.setSeq 16 3 5), by decide +kernel⟩,
   ⟨16, 5, ((let s := ((let s := live; { s with pwr := { s.pwr with reverse := [16] } }) |>.put (F.SYS_PWR_SEQ_PHASE 16) 3
      |>.put (F.SYS_PWR_SEQ_STEP 16) (5 - 1) |>.setSeq 16 3 4); { s with pwr := { s.pwr with reverse := [16] } })),
      by decide +kernel⟩,
   ⟨16, ((let s := live; { s with pwr := { s.pwr with reverse := [16] } }) |>.put (F.SYS_PWR_SEQ_PHASE 16) 3
      |>.put (F.SYS_PWR_SEQ_STEP 16) 5), by decide +kernel⟩,
   ⟨0, 0, live, by decide +kernel⟩,
   ⟨0, live, by decide +kernel⟩,
   ⟨16, ((let s := live; { s with pwr := { s.pwr with reverse := [16] } }) |>.put (F.SYS_PWR_SEQ_PHASE 16) 3
      |>.put (F.SYS_PWR_SEQ_STEP 16) 6), by decide +kernel⟩,
   ⟨16, ((let s := live; { s with pwr := { s.pwr with upPairs := [] } }) |>.put (F.SYS_PWR_SEQ_PHASE 16) 3
      |>.put (F.SYS_PWR_SEQ_STEP 16) 6 |>.setSeq 16 3 6), by decide +kernel⟩,
   ⟨16, ((let s := live; { s with pwr := { s.pwr with waitQ := [16] } })), by decide +kernel⟩,
   ⟨16, 7, (live |>.put (F.SYS_PWR_SEQ_PHASE 16) 1 |>.put (F.SYS_PWR_SEQ_STEP 16) (7 - 1) |>.setSeq 16 1 6), by decide +kernel⟩,
   ⟨16, 7, ((let s := ((let s := live; { s with pwr := { s.pwr with reverse := [16] } }) |>.put (F.SYS_PWR_SEQ_PHASE 16) 1
      |>.put (F.SYS_PWR_SEQ_STEP 16) (7 - 1)); { s with pwr := { s.pwr with reverse := [16] } })), by decide +kernel⟩,
   ⟨0, 0, live, by decide +kernel⟩,
   ⟨0, live, by decide +kernel⟩,
   ⟨16, ((let s := live; { s with pwr := { s.pwr with upPairs := [] } }) |>.put (F.SYS_PWR_SEQ_PHASE 16) 1
      |>.put (F.SYS_PWR_SEQ_STEP 16) 7 |>.setSeq 16 1 7), by decide +kernel⟩⟩

theorem test_witness_StartsAndSupplies :
    (∃ (s : State), s.wake.power = .off) ∧
    (∃ (s : State), s.wake.power = .awake ∧ s.pwr.sysOn = false ∧ s.pwr.starting = false) ∧
    (∃ (s : State), s.wake.power ≠ .off) ∧
    (∃ (s : State), (s.wake.power = .off ∨ s.wake.power = .dark ∨ s.pwr.sysOn = true ∨ s.pwr.starting = true)) ∧
    (∃ (s : State), s.pwr.sysOn = false ∧ s.pwr.starting = false) ∧
    (∃ (s : State), (s.pwr.sysOn = true ∨ s.pwr.starting = true)) ∧
    (∃ (s : State), s.pwr.starting = false) ∧
    (∃ (s : State), s.pwr.starting = true) :=
  ⟨⟨((let s := live; { s with wake := { s.wake with power := .off } })), by decide +kernel⟩,
   ⟨((let s := (let s := (let s := live; { s with wake := { s.wake with power := .awake } }); { s with pwr := { s.pwr with sysOn := false } }); { s with pwr := { s.pwr with starting := false } })),
      by decide +kernel⟩,
   ⟨live, by decide +kernel⟩,
   ⟨((let s := live; { s with wake := { s.wake with power := .off } })), by decide +kernel⟩,
   ⟨((let s := (let s := live; { s with pwr := { s.pwr with sysOn := false } }); { s with pwr := { s.pwr with starting := false } })),
      by decide +kernel⟩,
   ⟨((let s := live; { s with pwr := { s.pwr with sysOn := true } })), by decide +kernel⟩,
   ⟨((let s := live; { s with pwr := { s.pwr with starting := false } })), by decide +kernel⟩,
   ⟨((let s := live; { s with pwr := { s.pwr with starting := true } })), by decide +kernel⟩⟩

theorem test_witness_ModuleResets :
    (∃ (s : State), s.wake.power = .awake ∧ s.pwr.sysOn = true ∧ s.resetRuns = false) ∧
    (∃ (s : State), s.pwr.holds ≠ 4) ∧
    (∃ (s : State), s.pwr.holds ≠ 7) ∧
    (∃ (s : State), s.wake.power = .awake ∧ (s.pwr.sysOn = true ∨ s.pwr.starting = true) ∧ s.resetRuns = true) ∧
    (∃ (s : State), s.pwr.holds = 4) ∧
    (∃ (s : State), s.wake.power = .awake ∧ s.pwr.sysOn = true ∧ s.resetRuns = false) ∧
    (∃ (s : State), s.pwr.holds = 7) ∧
    (∃ (s : State), s.wake.power = .awake ∧ s.pwr.sysOn = true ∧ s.resetRuns = false) ∧
    (∃ (q : Requester) (v : Word) (s : State), s.carries q R.SYS_RST_CMD = true ∧ s.owns q P.SYS_RST = true ∧
      v.toNat / 65536 = 0xB007 ∧ v.getLsbD 0 = true ∧ v.getLsbD 1 = false ∧ s.wake.power = .awake ∧ s.pwr.sysOn = true ∧
      s.resetRuns = false) ∧
    (∃ (q : Requester) (v : Word) (s : State), s.carries q R.SYS_RST_CMD = true ∧ s.owns q P.SYS_RST = true ∧
      v.toNat / 65536 = 0xB007 ∧ v.getLsbD 0 = false ∧ v.getLsbD 1 = true) ∧
    (∃ (s : State), s.wake.power = .off) ∧
    (∃ (s : State), s.wake.power ≠ .off) :=
  ⟨⟨((let s := (let s := live; { s with wake := { s.wake with power := .awake } }); { s with pwr := { s.pwr with sysOn := true } })),
      by decide +kernel⟩,
   ⟨live, by decide +kernel⟩,
   ⟨live, by decide +kernel⟩,
   ⟨((let s := (let s := (let s := live; { s with wake := { s.wake with power := .awake } }); { s with pwr := { s.pwr with sysOn := true } }); { s with pwr := { s.pwr with starting := true } })),
      by decide +kernel⟩,
   ⟨((let s := live; { s with pwr := { s.pwr with holds := 4 } })), by decide +kernel⟩,
   ⟨((let s := (let s := live; { s with wake := { s.wake with power := .awake } }); { s with pwr := { s.pwr with sysOn := true } })),
      by decide +kernel⟩,
   ⟨((let s := live; { s with pwr := { s.pwr with holds := 7 } })), by decide +kernel⟩,
   ⟨((let s := (let s := live; { s with wake := { s.wake with power := .awake } }); { s with pwr := { s.pwr with sysOn := true } })),
      by decide +kernel⟩,
   ⟨Requester.host, 0xB0070001,
      ((let s := (let s := (unlock live Requester.host P.SYS_RST); { s with wake := { s.wake with power := .awake } }); { s with pwr := { s.pwr with sysOn := true } })),
      by decide +kernel⟩,
   ⟨Requester.host, 0xB0070002, ((unlock live Requester.host P.SYS_RST)), by decide +kernel⟩,
   ⟨((let s := live; { s with wake := { s.wake with power := .off } })), by decide +kernel⟩,
   ⟨live, by decide +kernel⟩⟩

theorem test_witness_DarkAndWaking :
    (∃ (s : State), s.wake.power = .nightfall ∧ (∀ n, n < 17 → n ≠ 0 → s.seqPhase n = 0) ∧ s.linesShut = true) ∧
    (∃ (s : State), (s.wake.power ≠ .nightfall ∨ s.linesShut = false)) ∧
    (∃ (s : State), s.wake.kaHold = false ∧ s.wake.power ≠ .dark ∧ s.wake.power ≠ .nightfall) ∧
    (∃ (s : State), s.wake.power = .nightfall ∧ s.wake.kaHold = false) ∧
    (∃ (s : State), s.wake.kaHold = true) ∧
    (∃ (src : Nat) (chan : Nat) (s : State), (s.wakeArmed src (chan % 16) = false ∨ s.wake.power ≠ .nightfall ∧
      s.wake.power ≠ .dark)) ∧
    (∃ (src : Nat) (chan : Nat) (s : State), s.wake.power = .dark ∧ s.wake.minDark = false ∧
      s.wakeArmed src (chan % 16) = true) ∧
    (∃ (s : State), (s.wake.pulseDue = false ∨ s.pwr.starting = false ∧ s.pwr.sysOn = false)) ∧
    (∃ (s : State), s.asleep = false) ∧
    (∃ (s : State), s.wake.power = .dark ∧ s.wake.kaHold = false ∧ s.wake.latch = [] ∧ s.wake.late = none) ∧
    (∃ (l : List WakeLatch) (c : Nat) (s : State), s.wake.power = .dark ∧ s.wake.kaHold = false ∧ s.wake.late = none ∧
      s.wake.latch = ⟨2, c⟩ :: l) ∧
    (∃ (src : Nat) (chan : Nat) (s : State), s.wake.power = .nightfall ∧ s.wakeArmed src (chan % 16) = true) ∧
    (∃ (s : State), s.wake.pulseDue = true ∧ (s.pwr.starting = true ∨ s.pwr.sysOn = true)) ∧
    (∃ (s : State), s.asleep = true) :=
  ⟨⟨((let s := live; { s with wake := { s.wake with power := .nightfall } })), by decide +kernel, by decide +kernel,
      by decide +kernel⟩,
   ⟨live, by decide +kernel⟩,
   ⟨((let s := live; { s with wake := { s.wake with kaHold := false } })), by decide +kernel⟩,
   ⟨((let s := (let s := live; { s with wake := { s.wake with power := .nightfall } }); { s with wake := { s.wake with kaHold := false } })),
      by decide +kernel⟩,
   ⟨((let s := live; { s with wake := { s.wake with kaHold := true } })), by decide +kernel⟩,
   ⟨0, 0, live, by decide +kernel⟩,
   ⟨2, 0,
      ((let s := (let s := live; { s with wake := { s.wake with power := .dark } }); { s with wake := { s.wake with minDark := false } })
      |>.putB F.SYS_WAKE_ARM_SW_ARM true), by decide +kernel⟩,
   ⟨((let s := live; { s with wake := { s.wake with pulseDue := false } })), by decide +kernel⟩,
   ⟨live, by decide +kernel⟩,
   ⟨((let s := (let s := (let s := (let s := live; { s with wake := { s.wake with power := .dark } }); { s with wake := { s.wake with kaHold := false } }); { s with wake := { s.wake with latch := [] } }); { s with wake := { s.wake with late := none } })),
      by decide +kernel⟩,
   ⟨([]), 0,
      ((let s := (let s := (let s := (let s := live; { s with wake := { s.wake with power := .dark } }); { s with wake := { s.wake with kaHold := false } }); { s with wake := { s.wake with late := none } }); { s with wake := { s.wake with latch := ⟨2, 0⟩ :: ([]) } })),
      by decide +kernel⟩,
   ⟨3, 15, ((let s := live; { s with wake := { s.wake with power := .nightfall } }) |>.putB F.SYS_WAKE_ARM_CAN_ARM true
      |>.put F.SYS_WAKE_CAN_CWARM 0x8000), by decide +kernel⟩,
   ⟨((let s := (let s := live; { s with wake := { s.wake with pulseDue := true } }); { s with pwr := { s.pwr with starting := true } })),
      by decide +kernel⟩,
   ⟨((let s := ((let s := live; { s with wake := { s.wake with power := .nightfall } })); { s with wake := { s.wake with power := .dark } })),
      by decide +kernel⟩⟩

theorem test_witness_signedConfig : ∃ (ue : List Nat) (s : State), s.fwRuns = true ∧ s.mgt.fresh = true ∧
    s.bit F.SYS_RST_BOOT_SAFE = false ∧ s.bit F.SYS_RST_BOOT_CFG_OK = false ∧
    (s.modMgt fun m => { m with fresh := false }).cfgOutcome (s.get F.SYS_RST_BOOT_FW_BANK) (ue.contains (s.get F.SYS_RST_BOOT_FW_BANK)) = 1 :=
  ⟨([]), ((let s := ((owned (withFlash live (imgSlot 0 2) config)) |>.putB F.SYS_RST_BOOT_SAFE false
    |>.putB F.SYS_RST_BOOT_CFG_OK false
    |>.putB F.SYS_RST_BOOT_CFG_OK false); { s with mgt := { s.mgt with fresh := true } })), by decide +kernel⟩

theorem test_witness_ManagementPair :
    (∃ (s : State), s.isOn I.MGT = true ∧ s.mgt.booting = true ∧ s.bit F.MGT_CTRL_STAT_HOLD = false ∧ s.mgt.fresh = true) ∧
    (∃ (s : State), (s.isOn I.MGT = false ∨ s.mgt.booting = false ∨ s.bit F.MGT_CTRL_STAT_HOLD = true)) ∧
    (∃ (ue : List Nat) (s : State), s.fwRuns = true ∧ s.mgt.fresh = true ∧ s.bit F.SYS_RST_BOOT_SAFE = false ∧
      s.bit F.SYS_RST_BOOT_CFG_OK = false ∧
      (s.modMgt fun m => { m with fresh := false }).cfgOutcome (s.get F.SYS_RST_BOOT_FW_BANK) (ue.contains (s.get F.SYS_RST_BOOT_FW_BANK)) = 1) ∧
    (∃ (s : State),
      (s.fwRuns = false ∨ s.mgt.fresh = false ∨ s.bit F.SYS_RST_BOOT_SAFE = true ∨ s.bit F.SYS_RST_BOOT_CFG_OK = true)) ∧
    (∃ (s : State), s.isOn I.MGT = true ∧ s.bit F.MGT_CTRL_STAT_HOLD = false ∧ s.mgtResets.length ≠ 4) ∧
    (∃ (s : State), s.isOn I.MGT = true ∧ s.bit F.MGT_CTRL_STAT_HOLD = false ∧ s.mgtResets.length = 4) ∧
    (∃ (s : State), (s.isOn I.MGT = false ∨ s.bit F.MGT_CTRL_STAT_HOLD = true)) ∧
    (∃ (s : State), s.fwRuns = true ∧ s.bit F.MGT_CTRL_STAT_HOLD = false ∧ s.mgtResets.length ≠ 4 ∧
      s.mgt.kicked + s.wdtNs ≤ s.mono) ∧
    (∃ (s : State), (s.fwRuns = false ∨ s.mono < s.mgt.kicked + s.wdtNs)) ∧
    (∃ (v : Word) (s : State), s.carries .firmware R.MGT_CTRL_WDT = true ∧ v.toNat / 2 ^ 24 = 0xA5) ∧
    (∃ (v : Word) (s : State), s.carries .firmware R.MGT_CTRL_WDT = true ∧ v.toNat / 2 ^ 24 ≠ 0xA5 ∧ s.isOn I.MGT = true ∧
      s.bit F.MGT_CTRL_STAT_HOLD = false ∧ s.mgtResets.length ≠ 4) ∧
    (∃ (q : Requester), q ≠ .firmware) ∧
    (∃ (q : Requester) (v : Word) (s : State), s.carries q R.MGT_CTRL_CMD = true ∧ s.owns q P.MGT_CTRL = true ∧
      v.getLsbD 0 = true ∧ s.bit F.MGT_CTRL_STAT_HOLD = true ∧ s.mgtResets.length ≠ 4) ∧
    (∃ (q : Requester) (v : Word) (s : State),
      (s.carries q R.MGT_CTRL_CMD = false ∨ s.owns q P.MGT_CTRL = false ∨ v.getLsbD 0 = false ∨ s.bit F.MGT_CTRL_STAT_HOLD = false)) ∧
    (∃ (s : State), s.fwRuns = false) ∧
    (∃ (s : State), s.fwRuns = true) :=
  ⟨⟨((let s := (let s := live; { s with mgt := { s.mgt with booting := true } }); { s with mgt := { s.mgt with fresh := true } })
      |>.putB F.MGT_CTRL_STAT_HOLD false), by decide +kernel⟩,
   ⟨(live |>.putB ⟨R.SYS_PWR_STAT, I.MGT, I.MGT⟩ false), by decide +kernel⟩,
   test_witness_signedConfig,
   ⟨(live |>.putB F.MGT_CTRL_STAT_RUN false), by decide +kernel⟩,
   ⟨(live |>.putB F.MGT_CTRL_STAT_HOLD false), by decide +kernel⟩,
   ⟨((let s := (live |>.putB F.MGT_CTRL_STAT_HOLD false); { s with mgt := { s.mgt with resets := [0, 0, 0, 0] } })),
      by decide +kernel⟩,
   ⟨(live |>.putB ⟨R.SYS_PWR_STAT, I.MGT, I.MGT⟩ false), by decide +kernel⟩,
   ⟨({ (live |>.putB F.MGT_CTRL_STAT_HOLD false) with mono5 := 5000000000000 }), by decide +kernel⟩,
   ⟨(live |>.putB F.MGT_CTRL_STAT_RUN false), by decide +kernel⟩,
   ⟨0xA5000000, live, by decide +kernel⟩,
   ⟨0, (live |>.putB F.MGT_CTRL_STAT_HOLD false), by decide +kernel⟩,
   ⟨Requester.host, by decide +kernel⟩,
   ⟨Requester.host, 0x1, ((unlock live Requester.host P.MGT_CTRL) |>.putB F.MGT_CTRL_STAT_HOLD true), by decide +kernel⟩,
   ⟨Requester.host, 0, live, by decide +kernel⟩,
   ⟨(live |>.putB F.MGT_CTRL_STAT_RUN false), by decide +kernel⟩,
   ⟨live, by decide +kernel⟩⟩

theorem test_witness_Mailbox :
    (∃ (q : Requester) (s : State), s.carries q R.MGT_MBOX_CMD = true ∧ s.mgt.queue.length < s.qlim) ∧
    (∃ (q : Requester) (s : State), s.carries q R.MGT_MBOX_CMD = true ∧ s.qlim ≤ s.mgt.queue.length) ∧
    (∃ (q : Requester) (v : Word) (s : State), s.carries q R.MGT_MBOX_RACK = true ∧ v.getLsbD 0 = true) ∧
    (∃ (code : Nat) (row : Instr) (s : State), mboxRow code row ∧ (s.mgt.queue = [] ∨ s.fwRuns = false ∧ s.recovery = false)) ∧
    (∃ (code : Nat) (row : Instr) (r : MboxReq) (rest : List MboxReq) (s : State), mboxRow code row ∧ s.fwRuns = true ∧
      s.mgt.queue = r :: rest ∧ mboxCodes.contains r.code = true ∧ r.code ≠ code) ∧
    (∃ (code : Nat) (row : Instr) (r : MboxReq) (rest : List MboxReq) (s : State), mboxRow code row ∧ s.fwRuns = true ∧
      s.mgt.queue = r :: rest ∧ r.from' = none ∧ 16 ≤ s.mgt.rsps.length) ∧
    (∃ (code : Nat) (row : Instr) (r : MboxReq) (rest : List MboxReq) (s : State), mboxRow code row ∧ s.fwRuns = true ∧
      s.mgt.queue = r :: rest ∧ (r.from'.isSome = true ∨ s.mgt.rsps.length < 16) ∧ mboxCodes.contains r.code = false) ∧
    (∃ (code : Nat) (row : Instr) (r : MboxReq) (rest : List MboxReq) (s : State), mboxRow code row ∧ s.fwRuns = true ∧
      s.mgt.queue = r :: rest ∧ (r.from'.isSome = true ∨ s.mgt.rsps.length < 16) ∧ r.code = code ∧
      (1 ≤ s.get F.MGT_CTRL_STAT_LEVEL ∧ r.from'.isSome = true ∨ 2 ≤ s.get F.MGT_CTRL_STAT_LEVEL ∧
      class2Codes.contains r.code = true)) ∧
    (∃ (r : MboxReq) (rest : List MboxReq) (s : State), s.serves 0x01 r rest = true) ∧
    (∃ (r : MboxReq) (rest : List MboxReq) (s : State), s.serves 0x02 r rest = true) ∧
    (∃ (r : MboxReq) (rest : List MboxReq) (s : State), s.serves 0x03 r rest = true) ∧
    (∃ (r : MboxReq) (rest : List MboxReq) (e : Nat × List Byte) (s : State), s.serves 0x31 r rest = true ∧
      (s.mgt.sections.find? fun x => x.1 == r.arg 0) = some e) ∧
    (∃ (f : NFrame) (tab : Nat) (s : State), s.mgtReady = true ∧ f.cls = 3 ∧ f.flow = 0x010 ∧ nfMalformed f = false ∧
      20 ≤ f.len ∧ s.acceptTable f = some tab ∧ s.addressed tab f = true ∧ s.isOn I.PSC = true ∧
      2 ≤ s.aclPerm (s.identSerial tab f.src) (P.MGT_MBOX / 4096) ∧ s.mgt.queue.length < s.qlim) :=
  ⟨⟨Requester.host, live, by decide +kernel⟩,
   ⟨Requester.host, ((let s := live; { s with mgt := { s.mgt with queue := List.replicate 8 (req 1 []) } })), by decide +kernel⟩,
   ⟨Requester.host, 0x1, live, by decide +kernel⟩,
   ⟨0x01, Instr.echo, ((let s := live; { s with mgt := { s.mgt with queue := [] } })), by unfold mboxRow; simp,
      by decide +kernel⟩,
   ⟨0x02, Instr.version, (req 1 [0]), ([]), ((let s := live; { s with mgt := { s.mgt with queue := (req 1 [0]) :: ([]) } })),
      by unfold mboxRow; simp, by decide +kernel, by decide +kernel, by decide +kernel, by decide +kernel⟩,
   ⟨0x10, Instr.imgBegin, (req 0x01 [0]), ([]),
      ((let s := ((let s := live; { s with mgt := { s.mgt with queue := (req 0x01 [0]) :: ([]) } })); { s with mgt := { s.mgt with queue := [(req 0x01 [0])], rsps := List.replicate 16 ⟨0, 0, 0, []⟩ } })),
      by unfold mboxRow; simp, by decide +kernel, by decide +kernel, by decide +kernel, by decide +kernel⟩,
   ⟨0x10, Instr.imgBegin, (req 0xFF [0]), ([]),
      ((let s := ((let s := live; { s with mgt := { s.mgt with queue := (req 0xFF [0]) :: ([]) } })); { s with mgt := { s.mgt with queue := [(req 0xFF [0])] } })),
      by unfold mboxRow; simp, by decide +kernel, by decide +kernel, by decide +kernel, by decide +kernel⟩,
   ⟨0x10, Instr.imgBegin, (⟨0x10, 5, [0], some (2, 1), [], false⟩), ([]),
      ((let s := live; { s with mgt := { s.mgt with queue := [(⟨0x10, 5, [0], some (2, 1), [], false⟩)] } })
      |>.put F.MGT_CTRL_STAT_LEVEL 1), by unfold mboxRow; simp, by decide +kernel, by decide +kernel, by decide +kernel,
      by decide +kernel, by decide +kernel⟩,
   ⟨(req 0x01 [1, 2, 3, 4]), ([]), ((asked live (req 0x01 [1, 2, 3, 4]))), by decide +kernel⟩,
   ⟨(req 0x02 []), ([]), ((asked live (req 0x02 []))), by decide +kernel⟩,
   ⟨(req 0x03 []), ([]), ((asked live (req 0x03 []))), by decide +kernel⟩,
   ⟨(req 0x31 [10]), ([]), (10, [1]),
      ((let s := ((asked live (req 0x31 [10]))); { s with mgt := { s.mgt with sections := [(10, [1])] } })),
      by decide +kernel⟩,
   ⟨(frm false 3 7 2 3 0 0x010 (List.replicate 20 0)), 0, ((let s := ((ram (numbered live 1 2) (identAddr 0 2) ([0, 0, 0, 0, 0,
      0, 0, 2] ++ beBytes 8 9 ++ [0, 2, 2]))
      |>.putB (F.PG_STAT_READY P.MGT_MBOX) true); { s with psc := { s.psc with acl := [(31, 2 ^ 63 + 2 * 2 ^ 61 + 0x1FF)] } })
      |>.putB (F.PG_STAT_READY P.MGT_MBOX) true), by decide +kernel⟩⟩

theorem test_policySigned :
    signatureOk ((signedReq.mboxData (req 0x30 [272]) ((req 0x30 [272]).arg 0)).take 256)
      (((signedReq.mboxData (req 0x30 [272]) ((req 0x30 [272]).arg 0)).drop 256).take
        (hdrLen ((signedReq.mboxData (req 0x30 [272]) ((req 0x30 [272]).arg 0)).take 256))) keyD = true := by decide +kernel

theorem test_witness_signedPolicy : ∃ (r : MboxReq) (rest : List MboxReq) (key : List Byte) (s : State),
    s.serves 0x30 r rest = true ∧ 256 ≤ r.arg 0 ∧ r.arg 0 ≤ 2048 ∧ (r.from' = none ∨ r.arg 0 ≤ r.data.length) ∧
    s.ownerDigest = some key ∧ hdrIs ((s.mboxData r (r.arg 0)).take 256) 3 (r.arg 0) = true ∧
    signatureOk ((s.mboxData r (r.arg 0)).take 256) (((s.mboxData r (r.arg 0)).drop 256).take (hdrLen ((s.mboxData r (r.arg 0)).take 256))) key = true ∧
    s.mgt.policyGen ≤ hdrGen ((s.mboxData r (r.arg 0)).take 256) ∧
    badSection (fun x => policyTypes.contains x) (((s.mboxData r (r.arg 0)).drop 256).take (hdrLen ((s.mboxData r (r.arg 0)).take 256))) = none ∧
    (∀ x, s.sectionOff x = false) ∧
    sectionData (((s.mboxData r (r.arg 0)).drop 256).take (hdrLen ((s.mboxData r (r.arg 0)).take 256))) 6 = none :=
  ⟨(req 0x30 [272]), ([]), keyD, (signedReq), by decide +kernel, by decide +kernel, by decide +kernel, by decide +kernel,
    by decide +kernel, by decide +kernel, test_policySigned, by decide +kernel, by decide +kernel,
    fun x => by
        have h1 : signedReq.isOn I.TIM = true := by decide +kernel
        have h2 : signedReq.isOn I.TOP = true := by decide +kernel
        have h3 : signedReq.isOn I.PSC = true := by decide +kernel
        unfold State.sectionOff; rw [h1,
    h2, h3]; simp, by decide +kernel⟩

theorem test_witness_Updates :
    (∃ (r : MboxReq) (rest : List MboxReq) (s : State), s.serves 0x10 r rest = true ∧ r.arg 0 ≤ 1 ∧
      (r.arg 1 = 1 ∨ r.arg 1 = 2) ∧ 256 ≤ r.arg 2 ∧ r.arg 2 ≤ slotSize ∧ s.slotProtected (r.arg 0) (r.arg 1) = false) ∧
    (∃ (r : MboxReq) (rest : List MboxReq) (s : State), s.serves 0x10 r rest = true ∧ r.arg 0 ≤ 1 ∧
      (r.arg 1 = 1 ∨ r.arg 1 = 2) ∧ 256 ≤ r.arg 2 ∧ r.arg 2 ≤ slotSize ∧ s.slotProtected (r.arg 0) (r.arg 1) = true) ∧
    (∃ (r : MboxReq) (rest : List MboxReq) (g : ImgSession) (s : State), s.serves 0x11 r rest = true ∧ s.mgt.img = some g ∧
      r.arg 0 % 8 = 0 ∧ r.arg 1 % 8 = 0 ∧ 8 ≤ r.arg 1 ∧ r.arg 1 ≤ 2048 ∧ r.arg 0 + r.arg 1 ≤ g.len ∧
      (g.written.any fun e => decide (e.1 < r.arg 0 + r.arg 1) && decide (r.arg 0 < e.1 + e.2)) = false ∧
      (r.from' = none ∨ r.arg 1 ≤ r.data.length) ∧ s.slotProtected g.bank g.kind = false) ∧
    (∃ (r : MboxReq) (rest : List MboxReq) (s : State), s.serves 0x11 r rest = true ∧ s.mgt.img = none) ∧
    (∃ (r : MboxReq) (rest : List MboxReq) (g : ImgSession) (s : State), s.serves 0x12 r rest = true ∧ s.mgt.img = some g) ∧
    (∃ (r : MboxReq) (rest : List MboxReq) (s : State), s.serves 0x13 r rest = true ∧ r.arg 0 ≤ 1 ∧ r.arg 1 = 1 ∧
      hdrIs (s.header (imgSlot (r.arg 0) 1)) 1 slotSize = true) ∧
    (∃ (r : MboxReq) (rest : List MboxReq) (s : State), s.serves 0x14 r rest = true ∧ r.arg 0 ≤ 1 ∧
      s.bankVerified (r.arg 0) = false) ∧
    (∃ (r : MboxReq) (rest : List MboxReq) (s : State), s.serves 0x14 r rest = true ∧ r.arg 0 ≤ 1 ∧
      s.bankVerified (r.arg 0) = true ∧ s.role ≠ 1 ∧ s.role ≠ 4) ∧
    (∃ (r : MboxReq) (rest : List MboxReq) (s : State), s.serves 0x15 r rest = true) ∧
    (∃ (r : MboxReq) (rest : List MboxReq) (s : State), s.serves 0x16 r rest = true ∧
      r.arg 0 ≤ hdrSvn (s.header (imgSlot (s.get F.SYS_RST_BOOT_FW_BANK) 1)) ∧ s.nv.svnMin ≤ r.arg 0 ∧
      s.fwMark (s.get F.SYS_RST_BOOT_FW_BANK) ≠ 0) ∧
    (∃ (r : MboxReq) (rest : List MboxReq) (s : State), s.serves 0x20 r rest = true ∧ s.bit F.SYS_RST_STAT_OWNER_KEY = false ∧
      s.nv.owner = none ∧ r.arg 0 = ofBytes ((s.mboxData r 32).take 4)) ∧
    (∃ (r : MboxReq) (rest : List MboxReq) (s : State), s.serves 0x20 r rest = true ∧
      (s.bit F.SYS_RST_STAT_OWNER_KEY = true ∨ s.nv.owner.isSome = true)) ∧
    (∃ (r : MboxReq) (rest : List MboxReq) (s : State), s.serves 0x30 r rest = true ∧ (r.arg 0 < 256 ∨ 2048 < r.arg 0)) ∧
    (∃ (r : MboxReq) (rest : List MboxReq) (key : List Byte) (s : State), s.serves 0x30 r rest = true ∧ 256 ≤ r.arg 0 ∧
      r.arg 0 ≤ 2048 ∧ (r.from' = none ∨ r.arg 0 ≤ r.data.length) ∧ s.ownerDigest = some key ∧
      hdrIs ((s.mboxData r (r.arg 0)).take 256) 3 (r.arg 0) = true ∧
      signatureOk ((s.mboxData r (r.arg 0)).take 256) (((s.mboxData r (r.arg 0)).drop 256).take (hdrLen ((s.mboxData r (r.arg 0)).take 256))) key = true ∧
      s.mgt.policyGen ≤ hdrGen ((s.mboxData r (r.arg 0)).take 256) ∧
      badSection (fun x => policyTypes.contains x) (((s.mboxData r (r.arg 0)).drop 256).take (hdrLen ((s.mboxData r (r.arg 0)).take 256))) = none ∧
      (∀ x, s.sectionOff x = false) ∧
      sectionData (((s.mboxData r (r.arg 0)).drop 256).take (hdrLen ((s.mboxData r (r.arg 0)).take 256))) 6 = none) :=
  ⟨⟨(req 0x10 [1, 2, 0x800000]), ([]), ((asked live (req 0x10 [1, 2, 0x800000]))), by decide +kernel⟩,
   ⟨(req 0x10 [0, 1, 256]), ([]), ((asked live (req 0x10 [0, 1, 256])) |>.put F.SYS_RST_BOOT_FW_BANK 0), by decide +kernel⟩,
   ⟨(req 0x11 [8, 8]), ([]), (⟨1, 2, 16, [(0, 8)]⟩), ((let s := (asked live (req 0x11 [8,
      8])); { s with mgt := { s.mgt with img := some (⟨1, 2, 16, [(0, 8)]⟩) } })), by decide +kernel⟩,
   ⟨(req 0x11 [0, 8]), ([]),
      ((let s := ((let s := live; { s with mgt := { s.mgt with img := none } })); { s with mgt := { s.mgt with queue := [(req 0x11 [0, 8])] } })),
      by decide +kernel⟩,
   ⟨(req 0x12 []), ([]), (⟨1, 2, 16, [(0, 8)]⟩),
      ((let s := (asked live (req 0x12 [])); { s with mgt := { s.mgt with img := some (⟨1, 2, 16, [(0, 8)]⟩) } })),
      by decide +kernel⟩,
   ⟨(req 0x13 [1, 1]), ([]), ((asked live (req 0x13 [1, 1]))
      |>.flashPut (imgSlot 1 1) (beBytes 4 0x4B4D5431 ++ beBytes 2 1 ++ beBytes 2 1 ++ beBytes 8 0 ++ beBytes 4 0x7FFF00)),
      by decide +kernel⟩,
   ⟨(req 0x14 [1]), ([]), ((asked live (req 0x14 [1]))), by decide +kernel⟩,
   ⟨(req 0x14 [1]), ([]), ((asked live (req 0x14 [1])) |>.put F.TWN_CTRL_ROLE_ROLE 0 |>.put F.TWN_CTRL_ROLE_ROLE 0
      |>.put (F.MGT_IMG_INFO_FW_RES 1) 1 |>.put (F.MGT_IMG_INFO_CFG_RES 1) 2), by decide +kernel⟩,
   ⟨(req 0x15 []), ([]), ((asked live (req 0x15 []))), by decide +kernel⟩,
   ⟨(req 0x16 [3]), ([]), ((asked live (req 0x16 [3])) |>.flashPut (imgSlot 0 1) (beBytes 8 0 ++ beBytes 4 0 ++ beBytes 4 3)
      |>.flashPut (imgSlot 0 1 + 0xC0) [0, 0, 0xFF, 0xFF] |>.put F.SYS_RST_BOOT_FW_BANK 0), by decide +kernel⟩,
   ⟨(req 0x20 [0x01020304]), ([]), ((let s := (asked live (req 0x20 [0x01020304])); { s with nv := { s.nv with owner := none } })
      |>.putB F.SYS_RST_STAT_OWNER_KEY false |>.wr (R.MGT_MBOX_DATA 0) 0x01020304), by decide +kernel⟩,
   ⟨(req 0x20 [0]), ([]), ((owned (asked live (req 0x20 [0]))) |>.putB F.SYS_RST_STAT_OWNER_KEY true), by decide +kernel⟩,
   ⟨(req 0x30 [255]), ([]), ((asked live (req 0x30 [255]))), by decide +kernel⟩,
   test_witness_signedPolicy⟩

theorem test_witness_RecorderWriter :
    (∃ (s : State), (s.isOn I.REC = false ∨ s.evq = [])) ∧
    (∃ (ev : RecEvent) (rest : List RecEvent) (s : State), s.isOn I.REC = true ∧ s.evq = ev :: rest ∧
      s.evq.find? isTstep = none ∧ (∀ c, s.coalFirst = some c → s.mono < c.deadline) ∧
      (s.recorder.fifo.length < 192 ∨ s.recorder.fifo.length < 256 ∧ s.get F.REC_CTRL_CFG_FLOOD_SEV ≤ ev.sev) ∧
      s.get F.REC_CTRL_CFG_MIN_SEV ≤ ev.sev) ∧
    (∃ (ev : RecEvent) (rest : List RecEvent) (s : State), s.isOn I.REC = true ∧ s.evq = ev :: rest ∧
      s.evq.find? isTstep = none ∧ (∀ c, s.coalFirst = some c → s.mono < c.deadline) ∧
      (256 ≤ s.recorder.fifo.length ∨ 192 ≤ s.recorder.fifo.length ∧ ev.sev < s.get F.REC_CTRL_CFG_FLOOD_SEV) ∧
      s.get F.REC_CTRL_CFG_MIN_SEV ≤ ev.sev) ∧
    (∃ (ev : RecEvent) (s : State), s.isOn I.REC = true ∧ s.evq.find? isTstep = some ev ∧ (∀ c,
      s.coalFirst = some c → s.mono < c.deadline) ∧ s.recorder.fifo.length < 260) ∧
    (∃ (s : State), (s.isOn I.REC = false ∨ s.recorder.fifo = [])) ∧
    (∃ (e : RecEntry) (es : List RecEntry) (s : State), s.isOn I.REC = true ∧ s.recorder.fifo = e :: es ∧ s.merges e = false ∧
      s.recFull = true) ∧
    (∃ (e : RecEntry) (es : List RecEntry) (c : CoalEntry) (s : State), s.isOn I.REC = true ∧ s.recorder.fifo = e :: es ∧
      s.merges e = true ∧ s.coalOf e = some c ∧ e.mono < c.deadline) ∧
    (∃ (e : RecEntry) (es : List RecEntry) (s : State), s.isOn I.REC = true ∧ s.recorder.fifo = e :: es ∧ s.merges e = false ∧
      s.recFull = false ∧ s.recHeld ≤ ringSize) ∧
    (∃ (c : CoalEntry) (s : State), s.isOn I.REC = true ∧ s.coalFirst = some c ∧ c.deadline ≤ s.mono ∧ c.counted = 0) ∧
    (∃ (c : CoalEntry) (s : State), s.isOn I.REC = true ∧ s.coalFirst = some c ∧ c.deadline ≤ s.mono ∧ c.counted ≠ 0 ∧
      s.recorder.fifo.length < 192) ∧
    (∃ (s : State), (s.isOn I.REC = false ∨ s.coalFirst = none)) ∧
    (∃ (c : CoalEntry) (s : State), s.coalFirst = some c ∧ s.mono < c.deadline) ∧
    (∃ (v : Nat) (s : State), s.isOn I.REC = true ∧ v < 5 ∧ stGet (fun _ => 0) s.recorder.lost v ≠ 0 ∧
      s.recorder.fifo.length ≤ 64 ∧ s.recFull = false ∧ s.lossHeld = false) ∧
    (∃ (s : State),
      (s.isOn I.REC = false ∨ s.recorder.lost = [] ∨ 64 < s.recorder.fifo.length ∨ s.recFull = true ∨ s.lossHeld = true)) ∧
    (∃ (q : Requester) (v : Word) (s : State), s.carries q R.REC_CTRL_CMD = true ∧ s.owns q P.REC_CTRL = true ∧
      v.getLsbD 0 = true) ∧
    (∃ (q : Requester) (v : Word) (s : State),
      (s.carries q R.REC_CTRL_CMD = false ∨ s.owns q P.REC_CTRL = false ∨ v.getLsbD 0 = false)) ∧
    (∃ (q : Requester) (v : Word) (s : State), s.carries q R.REC_CTRL_POST = true ∧ 0x80 ≤ v.toNat % 256) ∧
    (∃ (q : Requester) (v : Word) (s : State), s.carries q R.REC_CTRL_POST = true ∧ v.toNat % 256 < 0x80) ∧
    (∃ (q : Requester) (s : State), s.carries q R.REC_CTRL_CFG = true ∧ s.owns q P.REC_CTRL = true) :=
  ⟨⟨(live |>.putB ⟨R.SYS_PWR_STAT, I.REC, I.REC⟩ false), by decide +kernel⟩,
   ⟨(⟨0x0601, 4, 0, [], 0⟩), ([]), ({ live with evq := [(⟨0x0601, 4, 0, [], 0⟩)] }), by decide +kernel⟩,
   ⟨(⟨0x0601, 4, 0, [1], 0⟩), ([]),
      ((let s := ({ live with evq := [(⟨0x0601, 4, 0, [1], 0⟩)] }); { s with recorder := { s.recorder with fifo := List.replicate 256 ⟨⟨0x0601, 4, 0, [], 0⟩, 5, 0, 2, 7, 1, false⟩ } })),
      by decide +kernel⟩,
   ⟨(⟨0x0910, 2, 0, List.replicate 32 0, 0⟩), ({ live with evq := [(⟨0x0910, 2, 0, List.replicate 32 0, 0⟩)] }),
      by decide +kernel⟩,
   ⟨(live |>.putB ⟨R.SYS_PWR_STAT, I.REC, I.REC⟩ false), by decide +kernel⟩,
   ⟨(⟨⟨0x0601, 4, 0, [], 0⟩, 5, 0, 2, 7, 1, false⟩), ([]),
      ((let s := live; { s with recorder := { s.recorder with fifo := (⟨⟨0x0601, 4, 0, [], 0⟩, 5, 0, 2, 7, 1, false⟩) :: ([]) } })
      |>.putB F.REC_CTRL_CFG_STOP true |>.put F.REC_CTRL_HELD_HELD ringSize), by decide +kernel⟩,
   ⟨(⟨⟨0x0601, 2, 0, [], 0⟩, 5, 0, 2, 7, 1, false⟩), ([]), (⟨0x0601, 0, 900, 0, 1, []⟩),
      ((let s := ((let s := live; { s with recorder := { s.recorder with fifo := (⟨⟨0x0601, 2, 0, [], 0⟩, 5, 0, 2, 7, 1, false⟩) :: ([]) } })); { s with recorder := { s.recorder with coal := [(⟨0x0601, 0, 900, 0, 1, []⟩)] } })
      |>.put F.REC_CTRL_CFG_COAL_T 5), by decide +kernel⟩,
   ⟨(⟨⟨0x0601, 4, 0, [], 0⟩, 5, 0, 2, 7, 1, false⟩), ([]),
      ((let s := live; { s with recorder := { s.recorder with fifo := (⟨⟨0x0601, 4, 0, [], 0⟩, 5, 0, 2, 7, 1, false⟩) :: ([]) } })),
      by decide +kernel⟩,
   ⟨(⟨0x0603, 5, 0, 0, 1, []⟩),
      ((let s := live; { s with recorder := { s.recorder with coal := [(⟨0x0603, 5, 0, 0, 1, []⟩)] } })), by decide +kernel⟩,
   ⟨(⟨0x0603, 5, 0, 255, 1, []⟩),
      ((let s := live; { s with recorder := { s.recorder with coal := [(⟨0x0603, 5, 0, 255, 1, []⟩)] } })), by decide +kernel,
      by decide +kernel, by decide +kernel, by decide +kernel, by decide +kernel⟩,
   ⟨(live |>.putB ⟨R.SYS_PWR_STAT, I.REC, I.REC⟩ false), by decide +kernel⟩,
   ⟨(⟨0x0601, 0, 900, 0, 1, []⟩),
      ((let s := live; { s with recorder := { s.recorder with coal := [(⟨0x0601, 0, 900, 0, 1, []⟩)] } })), by decide +kernel⟩,
   ⟨4, ((let s := live; { s with recorder := { s.recorder with lost := [(4, 1)] } })), by decide +kernel⟩,
   ⟨(live |>.putB ⟨R.SYS_PWR_STAT, I.REC, I.REC⟩ false), by decide +kernel⟩,
   ⟨Requester.host, 0x1, ((unlock live Requester.host P.REC_CTRL)), by decide +kernel⟩,
   ⟨Requester.host, 0, live, by decide +kernel⟩,
   ⟨Requester.host, 0x80, live, by decide +kernel⟩,
   ⟨Requester.host, 0, live, by decide +kernel⟩,
   ⟨Requester.host, ((unlock live Requester.host P.REC_CTRL)), by decide +kernel⟩⟩

theorem test_witness_RecorderReaders :
    (∃ (q : Requester) (s : State), s.carries q R.REC_PORT_POP = true ∧ (s.recCatchUp q).recNone q = false) ∧
    (∃ (q : Requester) (s : State), s.carries q R.REC_PORT_POP = true ∧ (s.recCatchUp q).recNone q = false) ∧
    (∃ (q : Requester) (s : State), s.carries q R.REC_PORT_POP = true ∧ (s.recCatchUp q).recNone q = true) ∧
    (∃ (q : Requester) (s : State), s.carries q R.REC_PORT_CUR = true) ∧
    (∃ (q : Requester) (v : Word) (s : State), s.carries q R.REC_STRM_CFG = true ∧ v.getLsbD 31 = true ∧
      s.bit F.REC_STRM_CFG_EN = false) ∧
    (∃ (q : Requester) (v : Word) (s : State), s.carries q R.REC_STRM_CFG = true ∧ v.getLsbD 31 = false) ∧
    (∃ (s : State),
      (s.isOn I.REC = false ∨ s.bit F.REC_STRM_CFG_EN = false ∨ s.isOn I.HBR = false ∨ s.bit F.HBR_CTRL_LINK_BME = false ∨ s.bit F.HBR_CTRL_LINK_D3 = true ∨ (s.get F.REC_STRM_PTR_PUT + 1) % s.strmSlots = s.get F.REC_STRM_PTR_GET)) ∧
    (∃ (s : State), s.isOn I.REC = true ∧ s.bit F.REC_STRM_CFG_EN = true ∧ s.isOn I.HBR = true ∧
      s.bit F.HBR_CTRL_LINK_BME = true ∧ s.bit F.HBR_CTRL_LINK_D3 = false ∧
      (s.get F.REC_STRM_PTR_PUT + 1) % s.strmSlots ≠ s.get F.REC_STRM_PTR_GET ∧
      laterThan 32 s.recOld (s.rd R.REC_STRM_NEXT).toNat = false ∧ (s.rd R.REC_STRM_NEXT).toNat ≠ s.recNext ∧
      laterThan 32 (s.rd R.REC_STRM_NEXT).toNat s.recNext = false ∧
      s.dmaFits (s.get F.REC_STRM_CFG_OWIN) (s.strmBase + 64 * s.get F.REC_STRM_PTR_PUT) 64 = true) ∧
    (∃ (q : Requester) (v : Word) (s : State), s.carries q R.REC_STRM_PTR = true ∧
      (s.strmSlots ≤ v.toNat / 65536 ∨ ringDist s.strmSlots (s.get F.REC_STRM_PTR_GET) (s.get F.REC_STRM_PTR_PUT) < ringDist s.strmSlots (v.toNat / 65536) (s.get F.REC_STRM_PTR_PUT))) ∧
    (∃ (q : Requester) (v : Word) (s : State), s.carries q R.REC_STRM_PTR = true ∧ v.toNat / 65536 < s.strmSlots ∧
      ringDist s.strmSlots (v.toNat / 65536) (s.get F.REC_STRM_PTR_PUT) ≤ ringDist s.strmSlots (s.get F.REC_STRM_PTR_GET) (s.get F.REC_STRM_PTR_PUT)) :=
  ⟨⟨Requester.host, (live |>.wr R.REC_CTRL_NEXT 2), by decide +kernel⟩,
   ⟨Requester.host, (live |>.wr R.REC_CTRL_NEXT 2), by decide +kernel⟩,
   ⟨Requester.host, live, by decide +kernel⟩,
   ⟨Requester.host, live, by decide +kernel⟩,
   ⟨Requester.host, 0x80000000, (live |>.putB F.REC_STRM_CFG_EN false), by decide +kernel⟩,
   ⟨Requester.host, 0x0, live, by decide +kernel⟩,
   ⟨(live |>.putB ⟨R.SYS_PWR_STAT, I.REC, I.REC⟩ false), by decide +kernel⟩,
   ⟨(live |>.putB F.REC_STRM_CFG_EN true |>.putB F.HBR_CTRL_LINK_BME true |>.putB F.HBR_CTRL_LINK_D3 false
      |>.wr R.REC_CTRL_NEXT 2 |>.wr R.REC_STRM_NEXT 1 |>.putB (F.HBR_OWIN_CFG_EN 0) true), by decide +kernel⟩,
   ⟨Requester.host, 0xFFFF0000, live, by decide +kernel⟩,
   ⟨Requester.host, 0, live, by decide +kernel⟩⟩

theorem test_witness_HealthMonitoring :
    (∃ (pg : Nat) (m : Nat) (s : State), mapped (pageOf pg) = true ∧ islandOf (pageOf pg) = memIsland m ∧
      s.powered (memIsland m) = true) ∧
    (∃ (pg : Nat) (m : Nat) (s : State), mapped (pageOf pg) = true ∧ islandOf (pageOf pg) = memIsland m ∧
      s.powered (memIsland m) = true) ∧
    (∃ (pg : Nat) (m : Nat) (s : State),
      (mapped (pageOf pg) = false ∨ islandOf (pageOf pg) ≠ memIsland m ∨ s.powered (memIsland m) = false)) ∧
    (∃ (s : State), s.isOn I.HLT = true) ∧
    (∃ (s : State), s.isOn I.HLT = false) ∧
    (∃ (n : Nat) (v : Nat) (s : State), s.isOn I.HLT = true ∧ n < 4 ∧ s.excluded n = false ∧
      s.tempW ≤ toSigned 16 (v % 65536) ∧ s.hlt.hotW.contains n = false) ∧
    (∃ (n : Nat) (v : Nat) (s : State), s.isOn I.HLT = true ∧ 4 ≤ n ∧ n < 10 ∧ s.supplyBad n v = true ∧
      s.hlt.voltBad.contains n = false) ∧
    (∃ (s : State), s.isOn I.HLT = false) ∧
    (∃ (s : State), s.isOn I.HLT = true) ∧
    (∃ (s : State), s.isOn I.HLT = false) ∧
    (∃ (n : Nat) (s : State), n < 17 ∧ s.carries .firmware (R.HLT_CTRL_ISL n) = true ∧ s.owns .firmware P.HLT_CTRL = true) ∧
    (∃ (dev : Int) (s : State), s.isOn I.HLT = true ∧ s.srcGood 1 = true ∧ (5000 : Int) < dev) ∧
    (∃ (dev : Int) (s : State), s.isOn I.HLT = true ∧ s.srcGood 1 = true ∧ dev < (-5000 : Int)) ∧
    (∃ (dev : Int) (s : State), (s.isOn I.HLT = false ∨ s.srcGood 1 = false ∨ (-5000 : Int) ≤ dev ∧ dev ≤ 5000)) ∧
    (∃ (q : Requester) (v : Word) (dev : Int) (s : State), s.carries q R.HLT_SENS_CMD = true ∧ v.getLsbD 1 = true ∧
      s.isOn I.HLT = true ∧ s.srcGood 1 = true ∧ dev < (-5000 : Int)) ∧
    (∃ (q : Requester) (v : Word) (dev : Int) (s : State), s.carries q R.HLT_SENS_CMD = true ∧ v.getLsbD 1 = true ∧
      s.isOn I.HLT = true ∧ s.srcGood 1 = true ∧ (5000 : Int) < dev) ∧
    (∃ (q : Requester) (v : Word) (s : State), s.carries q R.HLT_SENS_CMD = true ∧ v.getLsbD 0 = true) :=
  ⟨⟨P.TWN_CTRL, 79, live, by decide +kernel⟩,
   ⟨P.TWN_CTRL, 79, live, by decide +kernel⟩,
   ⟨0, 0, live, by decide +kernel⟩,
   ⟨live, by decide +kernel⟩,
   ⟨(live |>.putB ⟨R.SYS_PWR_STAT, I.HLT, I.HLT⟩ false), by decide +kernel⟩,
   ⟨3, 0x4000, live, by decide +kernel⟩,
   ⟨9, 0, live, by decide +kernel⟩,
   ⟨(live |>.putB ⟨R.SYS_PWR_STAT, I.HLT, I.HLT⟩ false), by decide +kernel⟩,
   ⟨live, by decide +kernel⟩,
   ⟨(live |>.putB ⟨R.SYS_PWR_STAT, I.HLT, I.HLT⟩ false), by decide +kernel⟩,
   ⟨16, ((unlock live .firmware P.HLT_CTRL)), by decide +kernel⟩,
   ⟨5001, (live |>.putB ⟨R.SYS_CLK_STAT, 1, 1⟩ true |>.putB ⟨R.SYS_CLK_STAT, 1, 1⟩ true), by decide +kernel⟩,
   ⟨(-5001), (live |>.putB ⟨R.SYS_CLK_STAT, 1, 1⟩ true), by decide +kernel⟩,
   ⟨0, (live |>.putB ⟨R.SYS_PWR_STAT, I.HLT, I.HLT⟩ false), by decide +kernel⟩,
   ⟨Requester.host, 0x2, (-5001), (live |>.putB ⟨R.SYS_CLK_STAT, 1, 1⟩ true |>.putB ⟨R.SYS_CLK_STAT, 1, 1⟩ true),
      by decide +kernel⟩,
   ⟨Requester.host, 0x2, 5001, (live |>.putB ⟨R.SYS_CLK_STAT, 1, 1⟩ true), by decide +kernel⟩,
   ⟨Requester.host, 0x1, live, by decide +kernel⟩⟩

theorem test_witness_SelfTestStart :
    (∃ (q : Requester) (v : Word) (s : State), s.carries q R.HLT_BIST_CMD = true ∧ s.owns q P.HLT_BIST = true ∧
      v.getLsbD 31 = true ∧ F.HLT_BIST_CMD_KIND.of v = 0 ∧ s.hlt.test = none ∧ s.isOn I.FAB = true ∧
      F.HLT_BIST_CMD_MACRO.of v < 32 ∧ (s.rd R.FAB_QUE_RETIRED).getLsbD (F.HLT_BIST_CMD_MACRO.of v) = false ∧
      s.poolHasOther (F.HLT_BIST_CMD_MACRO.of v) = true) ∧
    (∃ (q : Requester) (v : Word) (s : State), s.carries q R.HLT_BIST_CMD = true ∧ s.owns q P.HLT_BIST = true ∧
      v.getLsbD 31 = true ∧ F.HLT_BIST_CMD_KIND.of v = 1 ∧ s.hlt.test = none ∧
      sessionOrder.contains (F.HLT_BIST_CMD_ISL.of v) = true ∧ s.powered (F.HLT_BIST_CMD_ISL.of v) = true ∧
      hasMems (F.HLT_BIST_CMD_ISL.of v) = true ∧ s.roleRefuses (F.HLT_BIST_CMD_FORCE.of v != 0) = false) ∧
    (∃ (q : Requester) (v : Word) (s : State), s.carries q R.HLT_BIST_CMD = true ∧ s.owns q P.HLT_BIST = true ∧
      v.getLsbD 31 = true ∧ F.HLT_BIST_CMD_KIND.of v = 2 ∧ s.hlt.test = none ∧
      sessionOrder.contains (F.HLT_BIST_CMD_ISL.of v) = true ∧ s.powered (F.HLT_BIST_CMD_ISL.of v) = true ∧
      s.roleRefuses (F.HLT_BIST_CMD_FORCE.of v != 0) = false) ∧
    (∃ (q : Requester) (v : Word) (s : State), s.carries q R.HLT_BIST_CMD = true ∧ s.owns q P.HLT_BIST = true ∧
      v.getLsbD 31 = true ∧ F.HLT_BIST_CMD_KIND.of v = 3 ∧ s.hlt.test = none ∧
      sessionOrder.contains (F.HLT_BIST_CMD_ISL.of v) = true ∧ s.powered (F.HLT_BIST_CMD_ISL.of v) = true ∧ s.role = 3) ∧
    (∃ (q : Requester) (v : Word) (s : State), s.carries q R.HLT_BIST_CMD = true ∧ s.owns q P.HLT_BIST = true ∧
      v.getLsbD 31 = true ∧ F.HLT_BIST_CMD_KIND.of v = 3 ∧ s.hlt.test = none ∧ F.HLT_BIST_CMD_ISL.of v = 0x1F ∧ s.role = 3 ∧
      (sessionOrder.filter s.powered).flatMap sessionUnits ≠ []) ∧
    (∃ (q : Requester) (v : Word) (row : Instr) (s : State), row ∈ [Instr.mbist q v, .lbist q v, .session q v] ∧
      s.carries q R.HLT_BIST_CMD = true ∧ s.owns q P.HLT_BIST = true ∧ v.getLsbD 31 = true ∧ F.HLT_BIST_CMD_KIND.of v ≠ 0 ∧
      s.hlt.test = none ∧ s.testUnits (F.HLT_BIST_CMD_KIND.of v) (F.HLT_BIST_CMD_ISL.of v) (F.HLT_BIST_CMD_MACRO.of v) ≠ [] ∧
      s.roleRefuses (F.HLT_BIST_CMD_FORCE.of v != 0) = true) ∧
    (∃ (q : Requester) (v : Word) (row : Instr) (s : State), row ∈ [Instr.bankTest q v, .mbist q v, .lbist q v,
      .session q v] ∧ s.carries q R.HLT_BIST_CMD = true ∧ s.owns q P.HLT_BIST = true ∧ v.getLsbD 31 = true ∧
      s.hlt.test = none ∧ s.testUnits (F.HLT_BIST_CMD_KIND.of v) (F.HLT_BIST_CMD_ISL.of v) (F.HLT_BIST_CMD_MACRO.of v) = []) ∧
    (∃ (q : Requester) (v : Word) (row : Instr) (s : State) (x : TestRun), row ∈ [Instr.bankTest q v, .mbist q v, .lbist q v,
      .session q v] ∧ s.carries q R.HLT_BIST_CMD = true ∧ s.owns q P.HLT_BIST = true ∧ v.getLsbD 31 = true ∧
      s.hlt.test = some x) :=
  ⟨⟨Requester.host, 0x80000000,
      ((let s := (unlock live Requester.host P.HLT_BIST); { s with hlt := { s.hlt with test := none } })), by decide +kernel⟩,
   ⟨Requester.host, (F.HLT_BIST_CMD_KIND.ins (F.HLT_BIST_CMD_ISL.ins 0x80000000 10) 1),
      ((let s := (unlock live Requester.host P.HLT_BIST); { s with hlt := { s.hlt with test := none } })), by decide +kernel⟩,
   ⟨Requester.host, (F.HLT_BIST_CMD_KIND.ins (F.HLT_BIST_CMD_ISL.ins 0x80000000 14) 2),
      ((let s := (unlock live Requester.host P.HLT_BIST); { s with hlt := { s.hlt with test := none } })), by decide +kernel⟩,
   ⟨Requester.host, (F.HLT_BIST_CMD_KIND.ins (F.HLT_BIST_CMD_ISL.ins 0x80000000 10) 3),
      ((let s := (unlock live Requester.host P.HLT_BIST); { s with hlt := { s.hlt with test := none } })
      |>.put F.TWN_CTRL_ROLE_ROLE 3), by decide +kernel⟩,
   ⟨Requester.host, (F.HLT_BIST_CMD_KIND.ins (F.HLT_BIST_CMD_ISL.ins 0x80000000 0x1F) 3),
      ((let s := (unlock live Requester.host P.HLT_BIST); { s with hlt := { s.hlt with test := none } })
      |>.put F.TWN_CTRL_ROLE_ROLE 3), by decide +kernel⟩,
   ⟨Requester.host, (F.HLT_BIST_CMD_KIND.ins (F.HLT_BIST_CMD_ISL.ins 0x80000000 14) 2),
      (Instr.lbist Requester.host (F.HLT_BIST_CMD_KIND.ins (F.HLT_BIST_CMD_ISL.ins 0x80000000 14) 2)),
      ((let s := (unlock live Requester.host P.HLT_BIST); { s with hlt := { s.hlt with test := none } })
      |>.put F.TWN_CTRL_ROLE_ROLE 1), by simp, by decide +kernel, by decide +kernel, by decide +kernel, by decide +kernel,
      by decide +kernel, by decide +kernel, by decide +kernel⟩,
   ⟨Requester.host, (F.HLT_BIST_CMD_KIND.ins (F.HLT_BIST_CMD_ISL.ins 0x80000000 17) 2),
      (Instr.bankTest Requester.host (F.HLT_BIST_CMD_KIND.ins (F.HLT_BIST_CMD_ISL.ins 0x80000000 17) 2)),
      ((let s := (unlock live Requester.host P.HLT_BIST); { s with hlt := { s.hlt with test := none } })), by simp,
      by decide +kernel, by decide +kernel, by decide +kernel, by decide +kernel, by decide +kernel⟩,
   ⟨Requester.host, 0x80000000, (Instr.bankTest Requester.host 0x80000000),
      ((let s := (unlock live Requester.host P.HLT_BIST); { s with hlt := { s.hlt with test := some (TestRun.mk 1 1 0 false [⟨1, 10⟩] true) } })),
      (TestRun.mk 1 1 0 false [⟨1, 10⟩] true), by simp, by decide +kernel, by decide +kernel, by decide +kernel,
      by decide +kernel⟩⟩

theorem test_witness_SelfTestCourse :
    (∃ (x : TestRun) (s : State), s.hlt.test = some x ∧ x.kind = 0 ∧ s.get F.HLT_BIST_STAT_STATE = 1) ∧
    (∃ (s : State), s.hlt.test = none) ∧
    (∃ (x : TestRun) (s : State), s.hlt.test = some x ∧ (x.kind ≠ 0 ∨ s.get F.HLT_BIST_STAT_STATE ≠ 1)) ∧
    (∃ (x : TestRun) (u : TestUnit) (rest : List TestUnit) (s : State), s.hlt.test = some x ∧ x.todo = u :: rest ∧
      s.get F.HLT_BIST_STAT_STATE = 2) ∧
    (∃ (s : State), (s.hlt.test = none ∨ s.get F.HLT_BIST_STAT_STATE ≠ 2)) ∧
    (∃ (n : Nat) (x : TestRun) (s : State), sessionOrder.contains n = true ∧ s.get F.HLT_BIST_STAT_STATE = 3 ∧
      s.hlt.withdrawn.contains n = true ∧ s.hlt.test = some x ∧ x.todo = [] ∧ x.kind ≠ 3) ∧
    (∃ (n : Nat) (s : State), (s.get F.HLT_BIST_STAT_STATE ≠ 3 ∨ s.hlt.withdrawn.contains n = false)) ∧
    (∃ (v : Word) (d : DueVerdict) (rest : List DueVerdict) (s : State), s.carries .firmware R.HLT_BIST_VERDICT = true ∧
      s.owns .firmware P.HLT_BIST = true ∧ F.HLT_BIST_VERDICT_VERDICT.of v = 1 ∧ s.hlt.verdicts = d :: rest ∧
      sessionOrder.contains d.isl = true ∧ d.result < 16) ∧
    (∃ (v : Word) (d : DueVerdict) (rest : List DueVerdict) (s : State), s.carries .firmware R.HLT_BIST_VERDICT = true ∧
      s.owns .firmware P.HLT_BIST = true ∧ F.HLT_BIST_VERDICT_VERDICT.of v = 2 ∧ s.hlt.verdicts = d :: rest ∧
      sessionOrder.contains d.isl = true ∧ d.kind ≠ 2) ∧
    (∃ (s : State), s.hlt.verdicts = []) ∧
    (∃ (x : TestRun) (s : State), s.hlt.verdicts ≠ [] ∧ s.hlt.test = some x) ∧
    (∃ (s : State), (s.isOn I.HLT = false ∨ s.bit F.HLT_REPAIR_RSTAT_BUSY = false)) ∧
    (∃ (s : State), s.isOn I.HLT = true ∧ s.bit F.HLT_REPAIR_RSTAT_BUSY = true) ∧
    (∃ (s : State), s.isOn I.HLT = true ∧ s.bit F.HLT_REPAIR_RSTAT_BUSY = true) :=
  ⟨⟨(⟨0, 1, 0, false, [⟨0, 3⟩], true⟩),
      ((let s := live; { s with hlt := { s.hlt with test := some (⟨0, 1, 0, false, [⟨0, 3⟩], true⟩) } })
      |>.put F.HLT_BIST_STAT_STATE 1), by decide +kernel⟩,
   ⟨((let s := live; { s with hlt := { s.hlt with test := none } })), by decide +kernel⟩,
   ⟨(TestRun.mk 1 1 0 false [⟨1, 10⟩] true),
      ((let s := live; { s with hlt := { s.hlt with test := some (TestRun.mk 1 1 0 false [⟨1, 10⟩] true) } })),
      by decide +kernel⟩,
   ⟨(⟨1, 1, 0, false, [⟨1, 10⟩], true⟩), (⟨1, 10⟩), ([]),
      ((let s := live; { s with hlt := { s.hlt with test := some (⟨1, 1, 0, false, [⟨1, 10⟩], true⟩) } })
      |>.put F.HLT_BIST_STAT_STATE 2), by decide +kernel⟩,
   ⟨((let s := live; { s with hlt := { s.hlt with test := none } })), by decide +kernel⟩,
   ⟨10, (⟨1, 1, 0, false, [], true⟩),
      ((let s := ((let s := (let s := live; { s with hlt := { s.hlt with withdrawn := [10] } }); { s with hlt := { s.hlt with test := some (⟨1, 1, 0, false, [], true⟩) } })
      |>.put F.HLT_BIST_STAT_STATE 3); { s with hlt := { s.hlt with withdrawn := [10] } })), by decide +kernel⟩,
   ⟨0, (live |>.put F.HLT_BIST_STAT_STATE 0), by decide +kernel⟩,
   ⟨(F.HLT_BIST_VERDICT_VERDICT.ins 0 1), (⟨1, 10, 0, 1, 5, 0⟩), ([]),
      ((let s := (unlock live .firmware P.HLT_BIST); { s with hlt := { s.hlt with verdicts := (⟨1, 10, 0, 1, 5, 0⟩) :: ([]) } })),
      by decide +kernel⟩,
   ⟨(F.HLT_BIST_VERDICT_VERDICT.ins 0 2), (DueVerdict.mk 1 10 0 1 5 0), ([]),
      ((let s := (unlock live .firmware P.HLT_BIST); { s with hlt := { s.hlt with verdicts := (DueVerdict.mk 1 10 0 1 5 0) :: ([]) } })),
      by decide +kernel⟩,
   ⟨((let s := live; { s with hlt := { s.hlt with verdicts := [] } })), by decide +kernel⟩,
   ⟨(⟨1, 1, 0, false, [], true⟩),
      ((let s := ((let s := live; { s with hlt := { s.hlt with test := some (⟨1, 1, 0, false, [], true⟩) } })); { s with hlt := { s.hlt with verdicts := [⟨1, 10, 0, 1, 5, 0⟩] } })),
      by decide +kernel⟩,
   ⟨(live |>.putB ⟨R.SYS_PWR_STAT, I.HLT, I.HLT⟩ false), by decide +kernel⟩,
   ⟨(live |>.putB F.HLT_REPAIR_RSTAT_BUSY true), by decide +kernel⟩,
   ⟨(live |>.putB F.HLT_REPAIR_RSTAT_BUSY true), by decide +kernel⟩⟩

end Sys2Proof.Tests
end

section
/-!
SUPPORT. Accesses of register pages (R17, R32, R34, R43): which page an aligned word lies in, what the owner's count of R44 leaves
alone, and what becomes of an access to an unmapped page, to a page under test and to a header register.
-/

namespace Sys2Proof.Machine

/-! Pages of offsets. -/

theorem pageOf_pageOf (off : Nat) : pageOf (pageOf off) = pageOf off := by unfold pageOf; omega

/-- A page-relative offset below the page size stays in its page. -/
theorem pageOf_add {o : Nat} (off : Nat) (h : o < 4096) : pageOf (pageOf off + o) = pageOf off := by unfold pageOf; omega

theorem islandOf_add {o : Nat} (off : Nat) (h : o < 4096) : islandOf (pageOf off + o) = islandOf (pageOf off) := by
  unfold islandOf pageOf; omega

theorem pgScratch_pageOf (pg : Nat) : R.PG_SCRATCH (pageOf pg) = pageOf pg + 0x28 := by unfold R.PG_SCRATCH pageOf; omega

theorem pgLock_of_offset {off : Nat} (h : off % 4096 = 0x24) : R.PG_LOCK (pageOf off) = off := by
  unfold R.PG_LOCK pageOf; omega

/-- Registers at different places of their pages are different, whatever the pages. -/
theorem pgEvtRaw_ne_pgLock (a b : Nat) : R.PG_EVT_RAW a ≠ R.PG_LOCK b := by unfold R.PG_EVT_RAW R.PG_LOCK; omega

theorem pgScratch_ne_pgLock (a b : Nat) : R.PG_SCRATCH a ≠ R.PG_LOCK b := by unfold R.PG_SCRATCH R.PG_LOCK; omega

theorem pageOf_word (off : Nat) : pageOf (off / 4 * 4) = pageOf off := by unfold pageOf; omega

theorem mapped_eq_of_pageOf {a b : Nat} (h : pageOf a = pageOf b) : mapped a = mapped b := by
  have hp : a / 4096 = b / 4096 := by unfold pageOf at h; omega
  simp only [mapped, hp]

theorem State.reachable_eq_of_islandOf (s : State) {a b : Nat} (h : islandOf a = islandOf b) : s.reachable a = s.reachable b := by
  simp only [State.reachable, h]

/-- Every page of the directory lies below 0x110000 (R50). -/
theorem mapped_above_directory {off : Nat} (h : 0x110000 ≤ off) : mapped off = false := by
  have hdir : ∀ e ∈ pageDir, e.1 < 0x110 := by decide
  have hnone : pageType (off / 4096) = none := by
    refine List.lookup_eq_none_iff.2 fun e he => ?_
    have := hdir e he
    simpa using show off / 4096 ≠ e.1 by omega
  simp only [mapped, hnone, Option.isSome_none]

/-! Registers that stay put through an update. -/

theorem State.isOn_congr {s t : State} {n : Nat} (hpwr : t.rd R.SYS_PWR_STAT = s.rd R.SYS_PWR_STAT)
    (hstat : t.rd (R.PG_STAT (n * 65536)) = s.rd (R.PG_STAT (n * 65536))) : t.isOn n = s.isOn n := by
  simp only [State.isOn, State.powered, State.bit, State.get, hpwr, hstat]

theorem State.rd_raise_ne (s : State) (pg b : Nat) {r : Nat} (h : r ≠ R.PG_EVT_RAW pg) : (s.raise pg b).rd r = s.rd r :=
  s.rd_put_ne _ _ h

theorem State.rd_satInc_ne (s : State) (f : Fld) {r : Nat} (h : r ≠ f.off) : (s.satInc f).rd r = s.rd r := s.rd_put_ne _ _ h

theorem State.rd_emit (s : State) (o : Out) (r : Nat) : (s.emit o).rd r = s.rd r := rfl

/-- A raised event bit reads 1. -/
theorem State.evt_raise (s : State) (pg : Nat) {b : Nat} (h : b < 32) : (s.raise pg b).evt pg b = true := by
  have hw : (⟨R.PG_EVT_RAW pg, b, b⟩ : Fld).width = 1 := by simp [Fld.width]
  have hget : (s.raise pg b).get ⟨R.PG_EVT_RAW pg, b, b⟩ = 1 :=
    (s.get_put_same ⟨R.PG_EVT_RAW pg, b, b⟩ 1 (Nat.le_trans (Nat.le_of_eq (congrArg (b + ·) hw)) h)).trans
      (congrArg (1 % 2 ^ ·) hw)
  exact congrArg (· != 0) hget

theorem State.evt_congr {s t : State} {pg : Nat} (h : t.rd (R.PG_EVT_RAW pg) = s.rd (R.PG_EVT_RAW pg)) (b : Nat) :
    t.evt pg b = s.evt pg b := by
  simp only [State.evt, State.bit, State.get, h]

theorem State.post_mem (s : State) (c v j : Nat) (d : List Byte) : (s.post c v j d).mem = s.mem := by
  unfold State.post; split <;> rfl

theorem State.post_out (s : State) (c v j : Nat) (d : List Byte) : (s.post c v j d).out = s.out := by
  unfold State.post; split <;> rfl

/-! The owner's count (R44) touches PG_LOCK only. -/

theorem State.rd_countAccess_ne (s : State) (q : Requester) (pg : Nat) {r : Nat} (h : r ≠ R.PG_LOCK pg) :
    (s.countAccess q pg).rd r = s.rd r := by
  unfold State.countAccess State.relock
  split
  · split
    · exact s.rd_wr_ne _ h
    · exact s.rd_put_ne _ _ h
  · rfl

@[simp] theorem State.countAccess_mem (s : State) (q : Requester) (pg : Nat) : (s.countAccess q pg).mem = s.mem :=
  (s.countAccess_moves q pg).mem rfl

@[simp] theorem State.countAccess_out (s : State) (q : Requester) (pg : Nat) : (s.countAccess q pg).out = s.out :=
  (s.countAccess_moves q pg).out rfl

/-! Unmapped pages (R32). -/

/-- The marks of an access to an unmapped page in the registers of HBR_CTRL: the event, the count, and for the host LASTERR. -/
def State.noteUnmapped (s : State) (q : Requester) (off : Nat) : State :=
  let s := (s.raise P.HBR_CTRL 1).satInc F.HBR_CTRL_ERRCNT_UNMAPPED
  if q = .host then s.lastErr 2 0 off else s

theorem State.unmappedAccess_eq (s : State) (q : Requester) (off : Nat) (write : Bool) :
    s.unmappedAccess q off write =
      let t := (s.noteUnmapped q off).post 0x0010 2 0 (beBytes 1 q.code ++ beBytes 4 off)
      if write then t else t.emit (.readData q off 0xFFFFFFFF) := rfl

/-- The marks change registers only. -/
theorem State.noteUnmapped_only (s : State) (q : Requester) (off : Nat) :
    s.noteUnmapped q off = { s with regs := (s.noteUnmapped q off).regs } := by
  unfold State.noteUnmapped
  dsimp only
  split <;> rfl

@[simp] theorem State.noteUnmapped_mem (s : State) (q : Requester) (off : Nat) : (s.noteUnmapped q off).mem = s.mem := by
  rw [State.noteUnmapped_only]

@[simp] theorem State.noteUnmapped_out (s : State) (q : Requester) (off : Nat) : (s.noteUnmapped q off).out = s.out := by
  rw [State.noteUnmapped_only]

@[simp] theorem State.noteUnmapped_evq (s : State) (q : Requester) (off : Nat) : (s.noteUnmapped q off).evq = s.evq := by
  rw [State.noteUnmapped_only]

/-- Beside LASTERR, the marks are the raised event and the count. -/
theorem State.rd_noteUnmapped_of_ne_lasterr (s : State) (q : Requester) (off : Nat) {r : Nat} (h : r ≠ R.HBR_CTRL_LASTERR) :
    (s.noteUnmapped q off).rd r = ((s.raise P.HBR_CTRL 1).satInc F.HBR_CTRL_ERRCNT_UNMAPPED).rd r := by
  unfold State.noteUnmapped
  dsimp only
  split
  · exact State.rd_wr_ne _ _ h
  · rfl

theorem State.rd_noteUnmapped_ne (s : State) (q : Requester) (off : Nat) {r : Nat} (hevt : r ≠ R.PG_EVT_RAW P.HBR_CTRL)
    (herr : r ≠ R.HBR_CTRL_LASTERR) (hcnt : r ≠ R.HBR_CTRL_ERRCNT) : (s.noteUnmapped q off).rd r = s.rd r := by
  rw [s.rd_noteUnmapped_of_ne_lasterr q off herr, State.rd_satInc_ne _ _ hcnt, State.rd_raise_ne _ _ _ hevt]

theorem State.noteUnmapped_evt (s : State) (q : Requester) (off : Nat) : (s.noteUnmapped q off).evt P.HBR_CTRL 1 = true := by
  have hrd : (s.noteUnmapped q off).rd (R.PG_EVT_RAW P.HBR_CTRL) = (s.raise P.HBR_CTRL 1).rd (R.PG_EVT_RAW P.HBR_CTRL) := by
    rw [s.rd_noteUnmapped_of_ne_lasterr q off (by decide), State.rd_satInc_ne _ _ (by decide)]
  rw [State.evt_congr hrd]
  exact s.evt_raise P.HBR_CTRL (by decide)

theorem State.noteUnmapped_isOn_rec (s : State) (q : Requester) (off : Nat) :
    (s.noteUnmapped q off).isOn I.REC = s.isOn I.REC :=
  State.isOn_congr (s.rd_noteUnmapped_ne q off (by decide) (by decide) (by decide))
    (s.rd_noteUnmapped_ne q off (by decide) (by decide) (by decide))

theorem State.rd_unmappedAccess (s : State) (q : Requester) (off : Nat) (write : Bool) (r : Nat) :
    (s.unmappedAccess q off write).rd r = (s.noteUnmapped q off).rd r := by
  cases write
  · exact (State.rd_emit _ _ _).trans (State.rd_post ..)
  · exact State.rd_post ..

theorem State.unmappedAccess_evt (s : State) (q : Requester) (off : Nat) (write : Bool) :
    (s.unmappedAccess q off write).evt P.HBR_CTRL 1 = true :=
  (State.evt_congr (s.rd_unmappedAccess q off write _) 1).trans (s.noteUnmapped_evt q off)

theorem State.unmappedAccess_evq (s : State) (q : Requester) (off : Nat) (write : Bool) (h : s.isOn I.REC = true) :
    (s.unmappedAccess q off write).evq = s.evq ++ [⟨0x0010, 2, 0, beBytes 1 q.code ++ beBytes 4 off, 0⟩] := by
  have hpost : ((s.noteUnmapped q off).post 0x0010 2 0 (beBytes 1 q.code ++ beBytes 4 off)).evq =
      s.evq ++ [⟨0x0010, 2, 0, beBytes 1 q.code ++ beBytes 4 off, 0⟩] := by
    rw [State.post_evq, State.noteUnmapped_isOn_rec, if_pos h, State.noteUnmapped_evq]
  cases write <;> exact hpost

theorem State.unmappedAccess_out (s : State) (q : Requester) (off : Nat) (write : Bool) :
    (s.unmappedAccess q off write).out = if write then s.out else s.out ++ [.readData q off 0xFFFFFFFF] := by
  cases write <;> simp [State.unmappedAccess_eq, State.post_out]

theorem State.unmappedAccess_mem (s : State) (q : Requester) (off : Nat) (write : Bool) :
    (s.unmappedAccess q off write).mem = s.mem :=
  (s.unmappedAccess_moves q off write).mem rfl

theorem State.carry_unmapped {s : State} {q : Requester} {off : Nat} (hup : s.pathUp q = true) (hmap : mapped off = false)
    (v : Word) (f : State → State) : s.carry q off v f = s.unmappedAccess q off true := by
  simp only [State.carry, hup, hmap, Bool.not_true, Bool.not_false, Bool.false_eq_true, if_false, if_true]

theorem State.readAny_unmapped {s : State} {q : Requester} {off : Nat} (hup : s.pathUp q = true) (hmap : mapped off = false) :
    s.readAny q off = s.unmappedAccess q off false := by
  simp only [State.readAny, State.carryRead, hup, hmap, Bool.not_true, Bool.not_false, Bool.false_eq_true, if_false, if_true]

/-- PG_LOCK has its own way to a page, and meets an unmapped one as every other register does. -/
theorem State.writeAny_unmapped {s : State} {q : Requester} {off : Nat} (hup : s.pathUp q = true) (hmap : mapped off = false)
    (v : Word) : s.writeAny q off v = s.unmappedAccess q off true := by
  unfold State.writeAny
  split
  next hlock =>
    have hpg : mapped (pageOf off) = false := (mapped_eq_of_pageOf (pageOf_pageOf off)).trans hmap
    simp only [State.lockWrite, hup, hpg, pgLock_of_offset hlock, Bool.not_true, Bool.not_false, Bool.false_eq_true, if_false, if_true]
  · exact State.carry_unmapped hup hmap v _

theorem exec_unmappedAccess_eq {s : State} {q : Requester} {off : Nat} (write : Bool) (hup : s.pathUp q = true)
    (hmap : mapped (off / 4 * 4) = false) :
    exec (.unmappedAccess q off write) s = .next (s.unmappedAccess q (off / 4 * 4) write) := by
  cases write
  · exact congrArg Host.Outcome.next (State.readAny_unmapped hup hmap)
  · exact congrArg Host.Outcome.next (State.writeAny_unmapped hup hmap 0)

/-! Pages under test (R43). -/

theorem State.pageBusy_of_bist {s : State} {pg : Nat} (h : s.bit (F.PG_STAT_BIST_ACTIVE pg) = true) : s.pageBusy pg = true := by
  simp only [State.pageBusy, h, Bool.true_or]

/-- A read of a block register of a busy page gives 0, and the owner's access is counted. -/
theorem State.carryRead_busy {s : State} {q : Requester} {off : Nat} (hup : s.pathUp q = true) (hmap : mapped off = true)
    (hisl : s.reachable off = true) (hoff : 0x40 ≤ off % 4096) (hbusy : s.pageBusy (pageOf off) = true)
    (f : State → Word × State) :
    ∃ l, s.carryRead q off f =
      (({ s with acc := { s.acc with held := l } } : State).emit (.readData q off 0)).countAccess q (pageOf off) := by
  obtain ⟨l, hl⟩ := s.dropOther_of q off
  have hbusy' : (s.dropOther q off).pageBusy (pageOf off) = true := by rw [hl]; exact hbusy
  refine ⟨l, ?_⟩
  rw [← hl]
  simp only [State.carryRead, hup, hmap, hisl, hoff, hbusy', Bool.not_true, Bool.false_eq_true, if_false, true_or, or_true,
    and_self, if_true]

/-- A write of a register other than PG_LOCK goes the way of every carried access. -/
theorem State.writeAny_carry {off : Nat} (h : off % 4096 ≠ 0x24) (s : State) (q : Requester) (v : Word) :
    ∃ held, s.writeAny q off v = s.carry q off v fun s => s.writeReg q off held v :=
  ⟨_, by rw [State.writeAny, if_neg h]⟩

/-! Header registers (R39). -/

theorem State.carries_header {s : State} {q : Requester} {off : Nat} (hup : s.pathUp q = true) (hmap : mapped off = true)
    (hisl : s.reachable off = true) (hoff : off % 4096 < 0x40) : s.carries q off = true := by
  simp only [State.carries, hup, hmap, hisl, hoff, decide_true, Bool.true_or, Bool.and_self]

/-- No word of a 64-bit pair lies in a header. -/
theorem pairLows_above_header : ∀ a ∈ pairLows, 0x40 ≤ a % 4096 ∧ a % 4096 + 4 < 4096 := by decide

theorem isPairLow_header {off : Nat} (h : off % 4096 < 0x40) : isPairLow off = false := by
  rw [isPairLow, ← Bool.not_eq_true, List.contains_iff_mem]
  intro hmem
  obtain ⟨hlow, -⟩ := pairLows_above_header _ hmem
  omega

theorem isPairHigh_header {off : Nat} (h : off % 4096 < 0x40) : isPairHigh off = false := by
  rw [isPairHigh, ← Bool.not_eq_true, Bool.and_eq_true, decide_eq_true_eq, List.contains_iff_mem]
  rintro ⟨hge, hmem⟩
  obtain ⟨hlow, hhigh⟩ := pairLows_above_header _ hmem
  omega

/-- A header register reads as `headerView` says, and reading it does nothing. -/
theorem State.readReg_header (s : State) (q : Requester) {off : Nat} (h : off % 4096 < 0x40) :
    s.readReg q off = (s.headerView off, { s with fresh := s.fresh + 1 }) := by
  have hpop : off ≠ R.REC_PORT_POP := by rintro rfl; exact absurd h (by decide)
  simp only [State.readReg, State.regView, h, hpop, isPairLow_header h, isPairHigh_header h, Bool.false_eq_true, if_false, if_true]

theorem State.writeReg_scratch (s : State) (q : Requester) (pg : Nat) (held : Option Word) (v : Word) :
    s.writeReg q (R.PG_SCRATCH pg) held v = s.wr (R.PG_SCRATCH pg) v := by
  have ho : R.PG_SCRATCH pg % 4096 = 0x28 := by unfold R.PG_SCRATCH; omega
  simp [State.writeReg, State.writeHeader, State.storePlain, ho]

end Sys2Proof.Machine
end

section
/-!
The statements about accesses of register pages.
-/

namespace Sys2Proof.Machine

/-- Settles O8: such an access is `State.unmappedAccess` alone, whatever the register. -/
theorem unmappedAccesses : Obligations.UnmappedAccesses := by
  unfold Obligations.UnmappedAccesses
  refine ⟨fun off h _ => mapped_above_directory h, fun q off write s hup hmap => ?_⟩
  refine ⟨_, exec_unmappedAccess_eq write hup hmap, s.unmappedAccess_evt _ _ _, s.unmappedAccess_evq _ _ _,
    s.unmappedAccess_out _ _ _, fun r hevt herr hcnt => ?_, s.unmappedAccess_mem _ _ _⟩
  rw [s.rd_unmappedAccess, s.rd_noteUnmapped_ne _ _ hevt herr hcnt]

/-- While BIST_ACTIVE reads 1, a block register reads 0. -/
theorem pairLowRead_under_test {s : State} {q : Requester} {off : Nat} (hup : s.pathUp q = true)
    (hmap : mapped (off / 4 * 4) = true) (hisl : s.reachable (off / 4 * 4) = true) (hoff : 0x40 ≤ off % 4096)
    (hbist : s.bit (F.PG_STAT_BIST_ACTIVE (pageOf off)) = true) :
    ∃ t, exec (.pairLowRead q off) s = .next t ∧ t.out = s.out ++ [.readData q (off / 4 * 4) 0] := by
  have hbusy : s.pageBusy (pageOf (off / 4 * 4)) = true := by
    rw [pageOf_word]; exact State.pageBusy_of_bist hbist
  obtain ⟨l, hread⟩ := State.carryRead_busy hup hmap hisl (by omega) hbusy fun s => s.readReg q (off / 4 * 4)
  exact ⟨_, congrArg Host.Outcome.next hread, State.countAccess_out ..⟩

/-- While BIST_ACTIVE reads 1, a write of a block register leaves BUSY_DROP and the owner's count. -/
theorem registerWrite_under_test {s : State} {q : Requester} {off : Nat} (v : Word) (hup : s.pathUp q = true)
    (hmap : mapped (off / 4 * 4) = true) (hisl : s.reachable (off / 4 * 4) = true) (hoff : 0x40 ≤ off % 4096)
    (hbist : s.bit (F.PG_STAT_BIST_ACTIVE (pageOf off)) = true) :
    ∃ t, exec (.registerWrite q off v) s = .next t ∧ t.evt (pageOf off) 26 = true ∧ t.mem = s.mem ∧ t.out = s.out ∧
      ∀ r, r ≠ R.PG_EVT_RAW (pageOf off) → r ≠ R.PG_LOCK (pageOf off) → t.rd r = s.rd r := by
  have hbusy : s.pageBusy (pageOf (off / 4 * 4)) = true := by
    rw [pageOf_word]; exact State.pageBusy_of_bist hbist
  obtain ⟨held, hcarry⟩ := State.writeAny_carry (off := off / 4 * 4) (by omega) s q v
  obtain ⟨l, hdrop⟩ := State.carry_busy hup hmap hisl (by omega) hbusy v fun s => s.writeReg q (off / 4 * 4) held v
  rw [pageOf_word] at hdrop
  refine ⟨_, congrArg Host.Outcome.next (hcarry.trans hdrop), ?_, State.countAccess_mem .., State.countAccess_out .., ?_⟩
  · rw [State.evt_congr (State.rd_countAccess_ne _ _ _ (pgEvtRaw_ne_pgLock _ _))]
    exact State.evt_raise _ _ (by decide)
  · intro r hevt hlock
    rw [State.rd_countAccess_ne _ _ _ hlock, State.rd_raise_ne _ _ _ hevt]
    rfl

/-- A header register reads as it shows, under test or not. -/
theorem pairLowRead_header {s : State} {q : Requester} {off : Nat} (hup : s.pathUp q = true)
    (hmap : mapped (off / 4 * 4) = true) (hisl : s.reachable (off / 4 * 4) = true) (hoff : off % 4096 < 0x40) :
    ∃ t, exec (.pairLowRead q off) s = .next t ∧
      t.out = s.out ++ [.readData q (off / 4 * 4) (s.headerView (off / 4 * 4))] := by
  have hhead : off / 4 * 4 % 4096 < 0x40 := by omega
  obtain ⟨l, hread⟩ := State.carryRead_of (State.carries_header hup hmap hisl hhead) fun s => s.readReg q (off / 4 * 4)
  rw [State.readReg_header _ _ hhead] at hread
  exact ⟨_, congrArg Host.Outcome.next hread, State.countAccess_out ..⟩

/-- PG_SCRATCH stores what is written to it, under test or not. -/
theorem registerWrite_scratch {s : State} {q : Requester} {pg : Nat} (v : Word) (hup : s.pathUp q = true)
    (hmap : mapped (pageOf pg) = true) (hisl : s.reachable (pageOf pg) = true) :
    ∃ t, exec (.registerWrite q (R.PG_SCRATCH (pageOf pg)) v) s = .next t ∧ t.rd (R.PG_SCRATCH (pageOf pg)) = v := by
  have hhead : R.PG_SCRATCH (pageOf pg) % 4096 = 0x28 := by unfold R.PG_SCRATCH; omega
  have hword : R.PG_SCRATCH (pageOf pg) / 4 * 4 = R.PG_SCRATCH (pageOf pg) := by unfold R.PG_SCRATCH; omega
  have hpage : pageOf (R.PG_SCRATCH (pageOf pg)) = pageOf pg := by rw [pgScratch_pageOf, pageOf_add pg (by decide)]
  have hmap' : mapped (R.PG_SCRATCH (pageOf pg)) = true :=
    (mapped_eq_of_pageOf (hpage.trans (pageOf_pageOf pg).symm)).trans hmap
  have hisl' : s.reachable (R.PG_SCRATCH (pageOf pg)) = true := by
    rw [pgScratch_pageOf, s.reachable_eq_of_islandOf (islandOf_add pg (by decide))]; exact hisl
  obtain ⟨held, hcarry⟩ := State.writeAny_carry (off := R.PG_SCRATCH (pageOf pg)) (by omega) s q v
  obtain ⟨l, hwrite⟩ := State.carry_of (State.carries_header hup hmap' hisl' (by omega)) v
    fun s => s.writeReg q (R.PG_SCRATCH (pageOf pg)) held v
  rw [State.writeReg_scratch, hpage] at hwrite
  refine ⟨_, congrArg Host.Outcome.next ((congrArg (s.writeAny q · v) hword).trans (hcarry.trans hwrite)), ?_⟩
  rw [State.rd_countAccess_ne _ _ _ (pgScratch_ne_pgLock _ _), State.rd_wr_same]

/-- Settles O9: a block register answers as a page that drops writes does; a header register does not look at the test. -/
theorem pagesUnderTest : Obligations.PagesUnderTest := by
  unfold Obligations.PagesUnderTest
  exact ⟨fun _ _ _ => pairLowRead_under_test, fun _ _ v _ => registerWrite_under_test v, fun _ _ _ => pairLowRead_header,
    fun _ _ _ => State.carries_header, fun _ _ v _ hup hmap hisl _ => registerWrite_scratch v hup hmap hisl⟩

end Sys2Proof.Machine
end

section
/-!
SUPPORT. What a command can do, for every command at once: it completes within its footprint, and the non-volatile storage stands
but for a few commands (R375, R376, R386, R390, R420).
-/

namespace Sys2Proof.Machine

/-- The footprint lemmas of the commands, gathered along `exec`. -/
theorem exec_moves : ∀ (i : Instr) (s : State), OutMoves (footOf i) s (exec i s)
  | .registerWrite .., _ => execRegisterWrite_moves ..
  | .unmappedAccess .., _ => execUnmappedAccess_moves ..
  | .accessError .., _ => execAccessError_moves ..
  | .offIslandAccess .., _ => execOffIslandAccess_moves ..
  | .pairLowRead .., _ => execPairLowRead_moves ..
  | .pairHighWrite .., _ => execPairHighWrite_moves ..
  | .pairLowWrite .., _ => execPairLowWrite_moves ..
  | .pageUnlock .., _ => execPageUnlock_moves ..
  | .pageRelock .., _ => execPageRelock_moves ..
  | .lockTimeout .., _ => execLockTimeout_moves ..
  | .blockSrst .., _ => execBlockSrst_moves ..
  | .srstComplete .., _ => execSrstComplete_moves ..
  | .blockEnWrite .., _ => execBlockEnWrite_moves ..
  | .eventForce .., _ => execEventForce_moves ..
  | .eventClear .., _ => execEventClear_moves ..
  | .eventAggregate .., _ => execEventAggregate_moves ..
  | .eoi .., _ => execEoi_moves ..
  | .msixUnmask .., _ => execMsixUnmask_moves ..
  | .lineOpenRequest .., _ => execLineOpenRequest_moves ..
  | .openingComplete .., _ => execOpeningComplete_moves ..
  | .bypassClose .., _ => execBypassClose_moves ..
  | .closingComplete .., _ => execClosingComplete_moves ..
  | .bypWdog .., _ => execBypWdog_moves ..
  | .bypMismatch .., _ => execBypMismatch_moves ..
  | .holdoffElapsed .., _ => execHoldoffElapsed_moves ..
  | .forceByp .., _ => execForceByp_moves ..
  | .clrLockout .., _ => execClrLockout_moves ..
  | .retrain .., _ => execRetrain_moves ..
  | .portLinkUp .., _ => execPortLinkUp_moves ..
  | .portLinkDown .., _ => execPortLinkDown_moves ..
  | .trainFail .., _ => execTrainFail_moves ..
  | .failCntClear .., _ => execFailCntClear_moves ..
  | .failsafe .., _ => execFailsafe_moves ..
  | .failsafeRecover .., _ => execFailsafeRecover_moves ..
  | .lineSrst .., _ => execLineSrst_moves ..
  | .portSrst .., _ => execPortSrst_moves ..
  | .backboneFrameRx .., _ => execBackboneFrameRx_moves ..
  | .ldupAge .., _ => execLdupAge_moves ..
  | .inaug .., _ => execInaug_moves ..
  | .clrHold .., _ => execClrHold_moves ..
  | .flapHoldEnd .., _ => execFlapHoldEnd_moves ..
  | .lanternLossTrigger, _ => execLanternLossTrigger_moves ..
  | .request .., _ => execRequest_moves ..
  | .join .., _ => execJoin_moves ..
  | .ident .., _ => execIdent_moves ..
  | .xident .., _ => execXident_moves ..
  | .xend .., _ => execXend_moves ..
  | .silent .., _ => execSilent_moves ..
  | .numbering, _ => execNumbering_moves ..
  | .ready .., _ => execReady_moves ..
  | .commitInsert .., _ => execCommitInsert_moves ..
  | .commit .., _ => execCommit_moves ..
  | .flip, _ => execFlip_moves ..
  | .commitMiss, _ => execCommitMiss_moves ..
  | .graceEnd, _ => execGraceEnd_moves ..
  | .bindWrite .., _ => execBindWrite_moves ..
  | .ttdpTopologyChange .., _ => execTtdpTopologyChange_moves ..
  | .inhibit .., _ => execInhibit_moves ..
  | .cycleBoundary .., _ => execCycleBoundary_moves ..
  | .windowOpen .., _ => execWindowOpen_moves ..
  | .marker .., _ => execMarker_moves ..
  | .markerMissing .., _ => execMarkerMissing_moves ..
  | .probeSend .., _ => execProbeSend_moves ..
  | .probe .., _ => execProbe_moves ..
  | .beamFrameRx .., _ => execBeamFrameRx_moves ..
  | .arm .., _ => execArm_moves ..
  | .ethernetFrameRx .., _ => execEthernetFrameRx_moves ..
  | .frameTransmit .., _ => execFrameTransmit_moves ..
  | .fdbAge .., _ => execFdbAge_moves ..
  | .flush .., _ => execFlush_moves ..
  | .flowWrite .., _ => execFlowWrite_moves ..
  | .flowRead .., _ => execFlowRead_moves ..
  | .clrcnt .., _ => execClrcnt_moves ..
  | .expire .., _ => execExpire_moves ..
  | .swap .., _ => execSwap_moves ..
  | .bankPoolWrite .., _ => execBankPoolWrite_moves ..
  | .bankMoved .., _ => execBankMoved_moves ..
  | .cpLinkChg .., _ => execCpLinkChg_moves ..
  | .pdFrameRx .., _ => execPdFrameRx_moves ..
  | .comidWrite .., _ => execComidWrite_moves ..
  | .cbRecoveryReset .., _ => execCbRecoveryReset_moves ..
  | .cbdupStreamWrite .., _ => execCbdupStreamWrite_moves ..
  | .inputArrival .., _ => execInputArrival_moves ..
  | .inpExpire .., _ => execInpExpire_moves ..
  | .passStart, _ => execPassStart_moves ..
  | .passDone .., _ => execPassDone_moves ..
  | .stall, _ => execStall_moves ..
  | .imageWrite .., _ => execImageWrite_moves ..
  | .mapEntryWrite .., _ => execMapEntryWrite_moves ..
  | .mapRead .., _ => execMapRead_moves ..
  | .rcpEntryWrite .., _ => execRcpEntryWrite_moves ..
  | .rcpRead .., _ => execRcpRead_moves ..
  | .flipRequest .., _ => execFlipRequest_moves ..
  | .validationDone, _ => execValidationDone_moves ..
  | .cancel .., _ => execCancel_moves ..
  | .channelStart .., _ => execChannelStart_moves ..
  | .modeWrite .., _ => execModeWrite_moves ..
  | .modeChg .., _ => execModeChg_moves ..
  | .canFrameRx .., _ => execCanFrameRx_moves ..
  | .canTxAttempt .., _ => execCanTxAttempt_moves ..
  | .canTxEnd .., _ => execCanTxEnd_moves ..
  | .busoffHoldEnd .., _ => execBusoffHoldEnd_moves ..
  | .recover .., _ => execRecover_moves ..
  | .busoffRecovered .., _ => execBusoffRecovered_moves ..
  | .queueConfigWrite .., _ => execQueueConfigWrite_moves ..
  | .queuePointerWrite .., _ => execQueuePointerWrite_moves ..
  | .abort .., _ => execAbort_moves ..
  | .referenceMessageDue .., _ => execReferenceMessageDue_moves ..
  | .mdataAccess .., _ => execMdataAccess_moves ..
  | .timeFrameRx .., _ => execTimeFrameRx_moves ..
  | .holdover, _ => execHoldover_moves ..
  | .gmConflictClear, _ => execGmConflictClear_moves ..
  | .start .., _ => execStart_moves ..
  | .wofsCommit .., _ => execWofsCommit_moves ..
  | .gptpSyncSend .., _ => execGptpSyncSend_moves ..
  | .gptpAnnounceSend .., _ => execGptpAnnounceSend_moves ..
  | .gptpPdelay .., _ => execGptpPdelay_moves ..
  | .gptpMessageRx .., _ => execGptpMessageRx_moves ..
  | .tsCaptureCopy .., _ => execTsCaptureCopy_moves ..
  | .mirrorLanternSend, _ => execMirrorLanternSend_moves ..
  | .mirrorLanternRx .., _ => execMirrorLanternRx_moves ..
  | .backboneLanternRx .., _ => execBackboneLanternRx_moves ..
  | .mirrorWitnessLost .., _ => execMirrorWitnessLost_moves ..
  | .claimWaitEnd .., _ => execClaimWaitEnd_moves ..
  | .claimStuck .., _ => execClaimStuck_moves ..
  | .claimLineTest .., _ => execClaimLineTest_moves ..
  | .clrFault .., _ => execClrFault_moves ..
  | .confirmReq, _ => execConfirmReq_moves ..
  | .confirmReqRx p f, s => execConfirmReqRx_moves p f s
  | .confirm p f claimLow, s => execConfirm_moves p f claimLow s
  | .confTExpire, _ => execConfTExpire_moves ..
  | .startTExpire .., _ => execStartTExpire_moves ..
  | .handover .., _ => execHandover_moves ..
  | .isolate .., _ => execIsolate_moves ..
  | .rejoin .., _ => execRejoin_moves ..
  | .admitPartner .., _ => execAdmit_moves ..
  | .handoverDeclined, _ => execHandoverDeclined_moves ..
  | .autoHandoverCause .., _ => execAutoHandoverCause_moves ..
  | .mirrorLinkUp, _ => execMirrorLinkUp_moves ..
  | .laneDegr .., _ => execLaneDegr_moves ..
  | .mirrorLinkDown, _ => execMirrorLinkDown_moves ..
  | .epochRecord .., _ => execEpochRecord_moves ..
  | .erecRx .., _ => execErecRx_moves ..
  | .ecloseRx .., _ => execEcloseRx_moves ..
  | .epochMismatch, _ => execEpochMismatch_moves ..
  | .brecRx .., _ => execBrecRx_moves ..
  | .bcloseRx .., _ => execBcloseRx_moves ..
  | .mirrorCrcErr, _ => execMirrorCrcErr_moves ..
  | .endpointReset .., _ => execEndpointReset_moves ..
  | .pcieLinkUp .., _ => execPcieLinkUp_moves ..
  | .configRequest .., _ => execConfigRequest_moves ..
  | .nowin .., _ => execNowin_moves ..
  | .messageRamWindowAccess .., _ => execMessageRamWindowAccess_moves ..
  | .iwinEnable .., _ => execIwinEnable_moves ..
  | .owinEnable .., _ => execOwinEnable_moves ..
  | .ringEnable .., _ => execRingEnable_moves ..
  | .ringPutWrite .., _ => execRingPutWrite_moves ..
  | .rxRingDeliver .., _ => execRxRingDeliver_moves ..
  | .txDescriptor .., _ => execTxDescriptor_moves ..
  | .bmeChange .., _ => execBmeChange_moves ..
  | .periscopeRead .., _ => execPeriscopeRead_moves ..
  | .timeout .., _ => execTimeout_moves ..
  | .periscopeResponseRx .., _ => execPeriscopeResponseRx_moves ..
  | .drDiscard .., _ => execDrDiscard_moves ..
  | .periscopeWrite .., _ => execPeriscopeWrite_moves ..
  | .pwfail .., _ => execPwfail_moves ..
  | .pwlogGetWrite .., _ => execPwlogGetWrite_moves ..
  | .periscopeRequestRx .., _ => execPeriscopeRequestRx_moves ..
  | .periscopeExecute, _ => execPeriscopeExecute_moves ..
  | .fence .., _ => execFence_moves ..
  | .fenceTExpire, _ => execFenceTExpire_moves ..
  | .sidePoll, _ => execSidePoll_moves ..
  | .aclEntryWrite .., _ => execAclEntryWrite_moves ..
  | .pscWindowEnable .., _ => execPscWindowEnable_moves ..
  | .propose .., _ => execPropose_moves ..
  | .withdraw .., _ => execWithdraw_moves ..
  | .dusk .., _ => execDusk_moves ..
  | .veto .., _ => execVeto_moves ..
  | .hold .., _ => execHold_moves ..
  | .sleepReq .., _ => execSleepReq_moves ..
  | .sleepRequestRx .., _ => execSleepRequestRx_moves ..
  | .vetoRx .., _ => execVetoRx_moves ..
  | .cancelRx .., _ => execCancelRx_moves ..
  | .dark, _ => execDark_moves ..
  | .minDarkTimeEnd, _ => execMinDarkTimeEnd_moves ..
  | .wakeSource .., _ => execWakeSource_moves ..
  | .dawnPulseInject, _ => execDawnPulseInject_moves ..
  | .dawnSend, _ => execDawnSend_moves ..
  | .dawn .., _ => execDawn_moves ..
  | .dawnRx .., _ => execDawnRx_moves ..
  | .pulseRx l, s => execPulseRx_moves l s
  | .isoWrite .., _ => execIsoWrite_moves ..
  | .kaOkFall, _ => execKaOkFall_moves ..
  | .filteredEdge .., _ => execFilteredEdge_moves ..
  | .edge .., _ => execEdge_moves ..
  | .stuck .., _ => execStuck_moves ..
  | .stuckRelease .., _ => execStuckRelease_moves ..
  | .chat .., _ => execChat_moves ..
  | .chatHoldEnd .., _ => execChatHoldEnd_moves ..
  | .dinCfgWrite .., _ => execDinCfgWrite_moves ..
  | .xoQual, _ => execXoQual_moves ..
  | .xoFail, _ => execXoFail_moves ..
  | .sourceFailure .., _ => execSourceFailure_moves ..
  | .srcLoss .., _ => execSrcLoss_moves ..
  | .lineHold, _ => execLineHold_moves ..
  | .lineRefChg .., _ => execLineRefChg_moves ..
  | .pllLineLock .., _ => execPllLineLock_moves ..
  | .releaseWrite .., _ => execReleaseWrite_moves ..
  | .srcWrite .., _ => execSrcWrite_moves ..
  | .switchDone .., _ => execSwitchDone_moves ..
  | .forced .., _ => execForced_moves ..
  | .xdrop .., _ => execXdrop_moves ..
  | .clockGateRequest .., _ => execClockGateRequest_moves ..
  | .gated .., _ => execGated_moves ..
  | .gateRefused .., _ => execGateRefused_moves ..
  | .clockGateOpen .., _ => execClockGateOpen_moves ..
  | .gatedAccess .., _ => execGatedAccess_moves ..
  | .dvfsRequest .., _ => execDvfsRequest_moves ..
  | .dvfsFreqStep .., _ => execDvfsFreqStep_moves ..
  | .dvfsDone .., _ => execDvfsDone_moves ..
  | .powerCmd .., _ => execPowerCmd_moves ..
  | .islandPowerDown .., _ => execIslandPowerDown_moves ..
  | .islandPowerDownDone .., _ => execIslandPowerDownDone_moves ..
  | .islandPowerUpStart .., _ => execIslandPowerUpStart_moves ..
  | .islandPowerUpDone .., _ => execIslandPowerUpDone_moves ..
  | .coldStart, _ => execColdStart_moves ..
  | .supplyStart, _ => execSupplyStart_moves ..
  | .supplyLoss, _ => execSupplyLoss_moves ..
  | .powerOnResetRelease .., _ => execPowerOnResetRelease_moves ..
  | .nresetIn, _ => execNresetIn_moves ..
  | .thermalReset, _ => execThermalReset_moves ..
  | .railFault, _ => execRailFault_moves ..
  | .softwareReset .., _ => execSoftwareReset_moves ..
  | .clrSafe .., _ => execClrSafe_moves ..
  | .moduleResetWindowSlide, _ => execModuleResetWindowSlide_moves ..
  | .strapChg .., _ => execStrapChg_moves ..
  | .boot .., _ => execBoot_moves ..
  | .configApply .., _ => execConfigApply_moves ..
  | .lockstep .., _ => execLockstep_moves ..
  | .wdt, _ => execWdt_moves ..
  | .kick .., _ => execKick_moves ..
  | .mgtRestart .., _ => execMgtRestart_moves ..
  | .mboxPush .., _ => execMboxPush_moves ..
  | .echo, _ => execEcho_moves ..
  | .version, _ => execVersion_moves ..
  | .govStatus, _ => execGovStatus_moves ..
  | .imgBegin, _ => execImgBegin_moves ..
  | .imgWrite, _ => execImgWrite_moves ..
  | .imgEnd .., _ => execImgEnd_moves ..
  | .imgInfo, _ => execImgInfo_moves ..
  | .imgActivate, _ => execImgActivate_moves ..
  | .imgConfirm, _ => execImgConfirm_moves ..
  | .svnCommit, _ => execSvnCommit_moves ..
  | .ownerKey, _ => execOwnerKey_moves ..
  | .policyLoad, _ => execPolicyLoad_moves ..
  | .policyRead, _ => execPolicyRead_moves ..
  | .pop .., _ => execPop_moves ..
  | .remoteManagementRx .., _ => execRemoteManagementRx_moves ..
  | .govWindowEnd .., _ => execGovWindowEnd_moves ..
  | .recEventStamp, _ => execRecEventStamp_moves ..
  | .recCommit, _ => execRecCommit_moves ..
  | .coalClose, _ => execCoalClose_moves ..
  | .loss, _ => execLoss_moves ..
  | .recPost .., _ => execRecPost_moves ..
  | .clear .., _ => execClear_moves ..
  | .recPortPop .., _ => execRecPortPop_moves ..
  | .recPortCurWrite .., _ => execRecPortCurWrite_moves ..
  | .stopWrite .., _ => execStopWrite_moves ..
  | .recSrst .., _ => execRecSrst_moves ..
  | .streamEnable .., _ => execStreamEnable_moves ..
  | .strm, _ => execStrm_moves ..
  | .streamGetWrite .., _ => execStreamGetWrite_moves ..
  | .eccEvent .., _ => execEccEvent_moves ..
  | .ceHourEnd, _ => execCeHourEnd_moves ..
  | .sensorAlarm .., _ => execSensorAlarm_moves ..
  | .healthReasonClearTimer .., _ => execHealthReasonClearTimer_moves ..
  | .fwLevelWrite .., _ => execFwLevelWrite_moves ..
  | .bankTest .., _ => execBankTest_moves ..
  | .mbist .., _ => execMbist_moves ..
  | .lbist .., _ => execLbist_moves ..
  | .session .., _ => execSession_moves ..
  | .bankDrainTimeout, _ => execBankDrainTimeout_moves ..
  | .done .., _ => execDone_moves ..
  | .islandRestore .., _ => execIslandRestore_moves ..
  | .verdict .., _ => execVerdict_moves ..
  | .verdTExpire, _ => execVerdTExpire_moves ..
  | .repairRecordWritten .., _ => execRepairRecordWritten_moves ..
  | .iroRecal .., _ => execIroRecal_moves ..
  | .recal .., _ => execRecal_moves ..
  | .clrmax .., _ => execClrmax_moves ..
  | .nresetInRelease, _ => execNresetInRelease_moves ..
  | .thermalResetRelease, _ => execThermalResetRelease_moves ..
  | .kaOkRise, _ => execKaOkRise_moves ..
  | .alwaysOnSupplyLoss, _ => execAlwaysOnSupplyLoss_moves ..
  | .sourceGood .., _ => execSourceGood_moves ..
  | .canRxError .., _ => execCanRxError_moves ..
  | .aer .., _ => execAer_moves ..
  | .wakeInputInactive .., _ => execWakeInputInactive_moves ..
  | .handoverWaitEnd, _ => execHandoverWaitEnd_moves ..
theorem moves_of_exec {i : Instr} {s t : State} (h : exec i s = .next t) : Moves (footOf i) s t := by
  obtain ⟨u, hu, hm⟩ := exec_moves i s
  obtain rfl : u = t := Host.Outcome.next.inj (hu.symm.trans h)
  exact hm

/-- The commands that write non-volatile storage: those of an update, the two of OTP, and the repair record's. -/
def writesNv : Instr → Bool
  | .imgBegin | .imgWrite | .imgConfirm | .svnCommit | .ownerKey | .repairRecordWritten _ => true
  | _ => false

theorem footOf_has_nv (i : Instr) : (footOf i).has .nv = writesNv i := by
  cases i <;> rfl

theorem exec_nv {i : Instr} {s t : State} (h : exec i s = .next t) (hi : writesNv i = false) : t.nv = s.nv :=
  (moves_of_exec h).nv ((footOf_has_nv i).trans hi)

/-! What the operations leave of non-volatile storage. -/

/-- Non-volatile storage without the flash: what OTP holds. -/
def NvState.otp (n : NvState) : NvState := { n with flash := [] }

theorem NvState.owner_of_otp {m n : NvState} (h : m.otp = n.otp) : m.owner = n.owner :=
  show m.otp.owner = n.otp.owner from congrArg NvState.owner h

theorem NvState.svnMin_of_otp {m n : NvState} (h : m.otp = n.otp) : m.svnMin = n.svnMin :=
  show m.otp.svnMin = n.otp.svnMin from congrArg NvState.svnMin h

@[simp] theorem State.post_nv (s : State) (c v j : Nat) (d : List Byte) : (s.post c v j d).nv = s.nv :=
  (s.post_moves c v j d).nv rfl

@[simp] theorem State.answer_nv (s : State) (r : MboxReq) (result : Nat) (res : List Word) (data : List Byte) :
    (s.answer r result res data).nv = s.nv :=
  (s.answer_moves r result res data).nv rfl

@[simp] theorem State.shedAnswer_nv (s : State) (r : MboxReq) : (s.shedAnswer r).nv = s.nv := (s.shedAnswer_moves r).nv rfl

@[simp] theorem State.flashRefused_nv (s : State) (bank kind : Nat) : (s.flashRefused bank kind).nv = s.nv :=
  (s.flashRefused_moves bank kind).nv rfl

@[simp] theorem State.showImage_nv (s : State) (bank : Nat) : (s.showImage bank).nv = s.nv := (s.showImage_moves bank).nv rfl

@[simp] theorem State.showRecord_nv (s : State) : s.showRecord.nv = s.nv := s.showRecord_moves.nv rfl

@[simp] theorem State.flashErase_otp (s : State) (a n : Nat) : (s.flashErase a n).nv.otp = s.nv.otp := rfl

@[simp] theorem State.flashPut_otp (s : State) (a : Nat) (bs : List Byte) : (s.flashPut a bs).nv.otp = s.nv.otp := by
  induction bs generalizing s a with
  | nil => rfl
  | cons b bs ih => exact ih _ _

@[simp] theorem State.setMark_otp (s : State) (bank v : Nat) : (s.setMark bank v).nv.otp = s.nv.otp := by
  simp [State.setMark]

/-- What becomes of the head request when a command of the mailbox runs (R385, R392): it waits, it is no known command, the
governor sheds it, or it is served. -/
theorem State.serve_cases (s : State) (code : Nat) (f : State → MboxReq → State) :
    s.serve code f = s ∨ (∃ r, s.serve code f = s.answer r 2 [] []) ∨ (∃ r, s.serve code f = s.shedAnswer r) ∨
      ∃ r, s.serve code f = f s r := by
  unfold State.serve
  split
  · exact .inl rfl
  next r _ _ =>
    extract_lets known
    clear_value known
    repeat' split
    · exact .inl rfl
    · exact .inr (.inl ⟨r, rfl⟩)
    · exact .inl rfl
    · exact .inr (.inr (.inl ⟨r, rfl⟩))
    · exact .inr (.inr (.inl ⟨r, rfl⟩))
    · exact .inr (.inr (.inr ⟨r, rfl⟩))

/-- What serving a request keeps of non-volatile storage, the command keeps. -/
theorem State.serve_keeps {α : Type} (g : NvState → α) (s : State) (code : Nat) {f : State → MboxReq → State}
    (hf : ∀ r, g (f s r).nv = g s.nv) : g (s.serve code f).nv = g s.nv := by
  obtain h | ⟨r, h⟩ | ⟨r, h⟩ | ⟨r, h⟩ := s.serve_cases code f <;> rw [h]
  · rw [State.answer_nv]
  · rw [State.shedAnswer_nv]
  · exact hf r

theorem State.imgBegin_otp (s : State) (r : MboxReq) : (s.imgBegin r).nv.otp = s.nv.otp := by
  unfold State.imgBegin
  dsimp only
  split
  · rw [State.answer_nv]
  split
  · rw [State.answer_nv, State.flashRefused_nv]
  · split <;> simp

theorem State.imgWrite_otp (s : State) (r : MboxReq) : (s.imgWrite' r).nv.otp = s.nv.otp := by
  unfold State.imgWrite'
  dsimp only
  split
  · rw [State.answer_nv]
  split
  · rw [State.answer_nv]
  split
  · rw [State.answer_nv]
  split
  · rw [State.answer_nv, State.flashRefused_nv]
  · simp

theorem State.imgConfirm_otp (s : State) (r : MboxReq) : (s.imgConfirm r).nv.otp = s.nv.otp := by
  unfold State.imgConfirm
  dsimp only
  split
  · rw [State.answer_nv]
  · split <;> simp

theorem State.recordWritten_otp (s : State) (ok : Bool) : (s.recordWritten ok).nv.otp = s.nv.otp := by
  unfold State.recordWritten
  dsimp only
  split
  · rfl
  · cases ok <;> simp

/-! Each of the two commands of OTP writes its own item alone. -/

theorem State.svnCommit_owner (s : State) (r : MboxReq) : (s.svnCommit r).nv.owner = s.nv.owner := by
  unfold State.svnCommit
  dsimp only
  split
  · rw [State.answer_nv]
  split
  · rw [State.answer_nv]
  · rw [State.answer_nv, State.put_nv, State.modNv_nv]

theorem State.ownerKey_svnMin (s : State) (r : MboxReq) : (s.ownerKey r).nv.svnMin = s.nv.svnMin := by
  unfold State.ownerKey
  dsimp only
  split
  · rw [State.answer_nv]
  split
  · rw [State.answer_nv]
  · rw [State.answer_nv, State.modNv_nv]

end Sys2Proof.Machine
end

section
/-!
The statement about one-time-programmable memory.
-/

namespace Sys2Proof.Machine

/-- Every command but the two of OTP leaves what OTP holds: most leave non-volatile storage, the others write the flash. -/
theorem exec_otp {i : Instr} {s t : State} (h : exec i s = .next t) :
    t.nv.otp = s.nv.otp ∨ i = .svnCommit ∨ i = .ownerKey := by
  cases hw : writesNv i
  case false => exact .inl (congrArg NvState.otp (exec_nv h hw))
  case true =>
    unfold writesNv at hw
    split at hw
    · exact .inl (Host.Outcome.next.inj h ▸ s.serve_keeps NvState.otp _ s.imgBegin_otp)
    · exact .inl (Host.Outcome.next.inj h ▸ s.serve_keeps NvState.otp _ s.imgWrite_otp)
    · exact .inl (Host.Outcome.next.inj h ▸ s.serve_keeps NvState.otp _ s.imgConfirm_otp)
    · exact .inr (.inl rfl)
    · exact .inr (.inr rfl)
    · exact .inl (Host.Outcome.next.inj h ▸ s.recordWritten_otp _)
    · cases hw

/-- SVN_COMMIT leaves the owner digest. -/
theorem exec_owner {i : Instr} {s t : State} (h : exec i s = .next t) (hi : i ≠ .ownerKey) : t.nv.owner = s.nv.owner := by
  obtain hotp | rfl | rfl := exec_otp h
  · exact NvState.owner_of_otp hotp
  · exact Host.Outcome.next.inj h ▸ s.serve_keeps NvState.owner _ s.svnCommit_owner
  · exact absurd rfl hi

/-- OWNER_KEY leaves the security-version minimum. -/
theorem exec_svnMin {i : Instr} {s t : State} (h : exec i s = .next t) (hi : i ≠ .svnCommit) : t.nv.svnMin = s.nv.svnMin := by
  obtain hotp | rfl | rfl := exec_otp h
  · exact NvState.svnMin_of_otp hotp
  · exact absurd rfl hi
  · exact Host.Outcome.next.inj h ▸ s.serve_keeps NvState.svnMin _ s.ownerKey_svnMin

/-- Settles O7: every footprint keeps a programmed digest, the minimum and the serial; which command changes them is told by what
each leaves of OTP. -/
theorem oneTimeMemory : Obligations.OneTimeMemory := by
  unfold Obligations.OneTimeMemory
  intro i s t h
  have hm := moves_of_exec h
  exact ⟨hm.ownerOnce, fun hne => Classical.byContradiction fun hi => hne (exec_owner h hi), hm.svnRises,
    fun hne => Classical.byContradiction fun hi => hne (exec_svnMin h hi), hm.serial⟩

end Sys2Proof.Machine
end
